-- ==== Sys2Proof/Word.lean ====
section
/-! DEFINITION. The words of the device: 32-bit registers (R9), 64-bit cell registers (R90), bytes, and the plainest
bit-field arithmetic over natural numbers and words. -/

namespace Sys2Proof

/-- A byte. -/
abbrev Byte := BitVec 8
/-- A 32-bit register or counter (R9). -/
abbrev Word := BitVec 32
/-- A 64-bit scalar register of a cell (R90). -/
abbrev Word64 := BitVec 64

/-- Bits [lo + w − 1 : lo] of a number. -/
def bitsOf (x lo w : Nat) : Nat := x / 2 ^ lo % 2 ^ w

/-- Bits [lo + w − 1 : lo] of a register, as a number. -/
def Word.fld (x : Word) (lo w : Nat) : Nat := bitsOf x.toNat lo w

/-- Bit `i` of a register. -/
def Word.bit (x : Word) (i : Nat) : Bool := x.toNat / 2 ^ i % 2 == 1

/-- The mask of bits [lo + w − 1 : lo]. -/
def wmask (lo w : Nat) : Word := BitVec.ofNat 32 ((2 ^ w - 1) * 2 ^ lo)

/-- A register with bits [lo + w − 1 : lo] replaced by `v`. -/
def Word.setFld (x : Word) (lo w v : Nat) : Word :=
  (x &&& ~~~ wmask lo w) ||| BitVec.ofNat 32 (v % 2 ^ w * 2 ^ lo)

/-- A counter that saturates at 0xFFFF_FFFF, raised by `n`. -/
def satAdd (x : Word) (n : Nat) : Word := BitVec.ofNat 32 (min 0xFFFFFFFF (x.toNat + n))

/-- The two's-complement value of the low `w` bits of a number. -/
def toSigned (w x : Nat) : Int :=
  if x % 2 ^ w < 2 ^ (w - 1) then ((x % 2 ^ w : Nat) : Int) else ((x % 2 ^ w : Nat) : Int) - ((2 ^ w : Nat) : Int)

/-- A number's low `n` bytes, least significant first (R8). -/
def toBytesLE : Nat → Nat → List Byte
  | 0, _ => []
  | n + 1, x => BitVec.ofNat 8 x :: toBytesLE n (x / 256)

/-- The number that a list of bytes spells, least significant first (R8). -/
def ofBytesLE : List Byte → Nat
  | [] => 0
  | b :: bs => b.toNat + 256 * ofBytesLE bs

end Sys2Proof
end

