-- ==== Sys2Proof/Syntax.lean ====
section
/-! DEFINITION. The commands of the device: one constructor of `Instr` per row of spec/opcode_table.json, and the operand
types they carry. A row that is a Krerad cell instruction carries the issuing cell and the operand format its opcode names
(R96), reserved bits included, so that R95 can be applied. A row that is an event carries what the event brings from outside
the device (a measurement, received bytes, the outcome of a training); everything else it needs stands in the state. -/

namespace Sys2Proof

/-- The origins of R573. -/
inductive Origin where
  | host | fabric | debug | keystoneFw | autonomous | serviceButton | factory
deriving DecidableEq, Repr

/-- A cell Tt.Cc.cn (R5). -/
structure CellId where
  die : Fin 4
  cluster : Fin 16
  cell : Fin 16
deriving DecidableEq, Repr

/-- What the memories did in the cycle of an access (R168, R170, R171): no event; a conflict on one bank word (its DA) that this
access met as the later port, which sees PORT_BUSY, or as the earlier port, which sees nothing; an ECC error at a byte, corrected or
uncorrectable. `wr` says that the other port's access was a write, and `data` are the bytes of the word's other version: what it held
before that write, or what that write left there. `silent` says that the other access, the later one, is one that receives no status
(R172). (DESIGN CHOICE, log 7) (DESIGN CHOICE, log 16) -/
inductive PortEv where
  | clear
  | later (wr : Bool) (word : Nat) (data : List Byte)
  | earlier (wr : Bool) (word : Nat) (data : List Byte) (silent : Bool)
  | corrected (da : Nat)
  | uncorrectable (da : Nat)
deriving DecidableEq, Repr

/-- Operand format FA (R96) with the modifiers of R94. -/
structure FA where
  mods : BitVec 8
  rd : BitVec 5
  ra : BitVec 5
  rb : BitVec 5
  rc : BitVec 5
  imm12 : BitVec 12
  rsv : BitVec 80
deriving DecidableEq, Repr

/-- Operand format FB (R96). -/
structure FB where
  mods : BitVec 8
  rd : BitVec 5
  ra : BitVec 5
  rsv : BitVec 38
  imm64 : BitVec 64
deriving DecidableEq, Repr

/-- Operand format FC (R96). -/
structure FC where
  mods : BitVec 8
  ra : BitVec 5
  rb : BitVec 5
  rsv : BitVec 70
  offset : BitVec 32
deriving DecidableEq, Repr

/-- Operand format FD (R96). -/
structure FD where
  mods : BitVec 8
  acc : BitVec 5
  ta : BitVec 5
  tb : BitVec 5
  oa : BitVec 5
  k : BitVec 12
  ob : BitVec 5
  rsv : BitVec 75
deriving DecidableEq, Repr

/-- Operand format FE (R96). -/
structure FE where
  mods : BitVec 8
  src : BitVec 5
  dst : BitVec 5
  len : BitVec 5
  sig : BitVec 5
  token : BitVec 12
  increment : BitVec 16
  immA : BitVec 32
  immB : BitVec 32
deriving DecidableEq, Repr

/-- Operand format FF (R96). -/
structure FF where
  mods : BitVec 8
  sa : BitVec 5
  sb : BitVec 5
  sc : BitVec 5
  sd : BitVec 5
  token : BitVec 12
  increment : BitVec 16
  tag : BitVec 16
  imm16 : BitVec 16
  imm32 : BitVec 32
deriving DecidableEq, Repr

/-- Who sent a reach command, and so who receives its status (R62). -/
inductive Issuer where
  | sq (q idx : Nat)            -- a submission-queue entry (R471)
  | parent (reach id : Nat)     -- a split of a running command (R67)
  | mgmt                        -- a REACH_CMD packet of the fabric (R434)
  | none
deriving DecidableEq, Repr

/-- A packet of the fabric after the link word (R426), and its payload. -/
structure Packet where
  dst : Nat
  hops : Nat
  type : Nat
  src : Nat
  srcDie : Nat
  trk : Nat
  mod : Nat
  tag : Nat
  gen : Nat
  status : Nat
  flowSeq : Nat
  addr : Nat
  workUnit : Nat
  epoch : Nat
  flags : Nat
  payload : List Byte
deriving DecidableEq, Repr

/-- A placement entry as its home sends it to a device that holds a copy (R72, R77); the spec gives these messages no packet. `delivering`
lists the units of the fence report that R73 step 2 accepts. (DESIGN CHOICE, log 55) -/
structure PlcCopy where
  home : Nat
  item : Nat
  /-- 0 FREE, 1 PLACED, 2 DRAINING, 3 FENCING (R86). -/
  state : Nat
  reach : Nat
  device : Nat
  epoch : Nat
  dests : List Nat
  /-- The item was migrated since it was placed. -/
  moved : Bool
  oldReach : Nat
  oldDevice : Nat
  newReach : Nat
  newDevice : Nat
  reportDA : Nat
  delivering : List Nat
deriving DecidableEq, Repr

/-- A data tile arriving at a Weir to be folded (R232): where it goes, its bytes, its trailer, the fold's mode and epoch. -/
structure FoldIn where
  dest : Nat
  bf16 : Bool
  data : List Byte
  fmt : Nat
  bad : Bool
  workUnit : Nat
  epoch : Nat
deriving DecidableEq, Repr

/-- A STATUS control message (R365). -/
structure StatusMsg where
  ack : Nat
  nak : Bool
  standbyReq : Bool
  standbyAck : Bool
  deepReq : Bool
  quiesce : Bool
  sfCount : Nat
  credits : List Nat
  heartbeat : Nat
  session : Nat
deriving DecidableEq, Repr

/-- A TS1 or TS2 block of a fiber lane (R365). -/
structure PortTs where
  step : Nat
  port : Nat
  line : Nat
  position : Nat
  rate : Nat
  small : Bool
  tag : Nat
  session : Nat
  heardPort : Nat
  heardValid : Bool
  heardTag : Nat
  echoOut : Nat
  echoBack : Nat
deriving DecidableEq, Repr

/-- A TS1 or TS2 block of a Bed lane (R332). -/
structure BedTs where
  src : Nat
  bus : Nat
  line : Nat
  position : Nat
  rate : Nat
  step : Nat
deriving DecidableEq, Repr

/-- A HELLO payload (R430). -/
structure HelloMsg where
  digest : List Byte
  mgrDigest : List Byte
  port : Nat
  idValid : Bool
  mgrHost : Bool
  candidate : Bool
  devId : Nat
  distance : Nat
  seq : Nat
  events : Nat
  mgrSeq : Nat
deriving DecidableEq, Repr

/-- What the copies of a control message of a Bed link or a fiber port came to (R332, R366): one is good and all good ones agree; good ones disagree; every
copy failed its parity. (DESIGN CHOICE, log 7) (DESIGN CHOICE, log 34) -/
inductive CtlRx where
  | good
  | disagree
  | failed
deriving DecidableEq, Repr

/-- The commands: one constructor per row of spec/opcode_table.json. (DESIGN CHOICE, log 7) -/
inductive Instr where
  -- registers (R13, R17)
  | registerWrite (o : Origin) (off width : Nat) (v hw : Word)
  | lockBlock (o : Origin) (v : Word)
  -- reaches, tokens and credits
  | commandEnqueue (iss : Issuer) (bytes : List Byte)
  | commandStart (r : Nat)
  | commandComplete (r id : Nat)
  | run (r id : Nat)
  | split (r id : Nat)
  | moveReachCommand (r id : Nat) (pe : PortEv)
  | signalReachCommand (r id : Nat)
  | waitReachCommand (r id : Nat)
  | giveReachCommand (r id : Nat)
  | place (id : Nat)
  | placeRelease (id : Nat)
  /-- `copy`: this device is the one that takes another home's copy, and acknowledges it. -/
  | placementCopyAck (id dev st : Nat) (copy : Option PlcCopy)
  | migrateDrain (id : Nat)
  | migrateFence (id : Nat) (pe : PortEv)
  | drainedToken (item : Nat)
  /-- `report`: the units as an old placement on another device reported them last. -/
  | fenceUnitResolved (item wu : Nat) (report : Option (List (Nat × Nat))) (pe : PortEv)
  | poolCapacityWrite (o : Origin) (off : Nat) (v : Word)
  -- cell instructions: system
  | nop (c : CellId) (f : FA)
  | halt (c : CellId) (f : FA)
  | trap (c : CellId) (f : FB)
  | fence (c : CellId) (f : FA)
  | sread (c : CellId) (f : FB)
  | swrite (c : CellId) (f : FB)
  -- scalar
  | add (c : CellId) (f : FA)
  | sub (c : CellId) (f : FA)
  | mul (c : CellId) (f : FA)
  | mulhu (c : CellId) (f : FA)
  | and (c : CellId) (f : FA)
  | or (c : CellId) (f : FA)
  | xor (c : CellId) (f : FA)
  | shl (c : CellId) (f : FA)
  | shr (c : CellId) (f : FA)
  | sra (c : CellId) (f : FA)
  | min (c : CellId) (f : FA)
  | max (c : CellId) (f : FA)
  | slt (c : CellId) (f : FA)
  | sltu (c : CellId) (f : FA)
  | sel (c : CellId) (f : FA)
  | li (c : CellId) (f : FB)
  | addi (c : CellId) (f : FB)
  | ld (c : CellId) (f : FB) (pe : PortEv)
  | st (c : CellId) (f : FB) (pe : PortEv)
  | aadd (c : CellId) (f : FA) (pe : PortEv)
  | acas (c : CellId) (f : FA) (pe : PortEv)
  -- branch
  | br (c : CellId) (f : FC)
  | jmp (c : CellId) (f : FC)
  | jal (c : CellId) (f : FC)
  | jr (c : CellId) (f : FC)
  | bp (c : CellId) (f : FC)
  -- tensor
  | mma (c : CellId) (f : FD)
  | accz (c : CellId) (f : FD)
  | accld (c : CellId) (f : FD)
  | accst (c : CellId) (f : FD)
  | dld (c : CellId) (f : FB) (pe : PortEv)
  | dst (c : CellId) (f : FB) (pe : PortEv)
  | dadd (c : CellId) (f : FB)
  -- vector
  | vadd (c : CellId) (f : FA)
  | vsub (c : CellId) (f : FA)
  | vmul (c : CellId) (f : FA)
  | vfma (c : CellId) (f : FA)
  | vmax (c : CellId) (f : FA)
  | vmin (c : CellId) (f : FA)
  | vabs (c : CellId) (f : FA)
  | vneg (c : CellId) (f : FA)
  | vexp2 (c : CellId) (f : FA)
  | vlog2 (c : CellId) (f : FA)
  | vrcp (c : CellId) (f : FA)
  | vrsqrt (c : CellId) (f : FA)
  | vredsum (c : CellId) (f : FA)
  | vredmax (c : CellId) (f : FA)
  | vcmp (c : CellId) (f : FA)
  | vsel (c : CellId) (f : FA)
  | vbcast (c : CellId) (f : FA)
  | vextr (c : CellId) (f : FA)
  | vld (c : CellId) (f : FB) (pe : PortEv)
  | vst (c : CellId) (f : FB) (pe : PortEv)
  | vrowr (c : CellId) (f : FA)
  | vroww (c : CellId) (f : FA)
  | vresc (c : CellId) (f : FA)
  | vsmax (c : CellId) (f : FA)
  | vpack (c : CellId) (f : FA)
  | vunpk (c : CellId) (f : FA)
  | pset (c : CellId) (f : FA)
  | pget (c : CellId) (f : FA)
  -- move, token and credit, engine
  | move (c : CellId) (f : FE) (pe : PortEv)
  | signal (c : CellId) (f : FE)
  | wait (c : CellId) (f : FE)
  | waitTimeout (c : CellId)
  | take (c : CellId) (f : FE)
  | give (c : CellId) (f : FE)
  | tread (c : CellId) (f : FE)
  | oproj (c : CellId) (f : FF)
  | wq (c : CellId) (f : FF)
  | est (c : CellId) (f : FF)
  | bound (c : CellId) (f : FF)
  | cellWake (c : CellId)
  | tensorEntryComplete (c : CellId) (pe : PortEv)
  | asyncCompletion (c : CellId) (id : Nat)
  | runComplete (c : CellId)
  -- tiled regions, copies, BAR4
  | trgSelect (o : Origin) (v : Word)
  | trgCommit (o : Origin) (v : Word)
  | trgInvalidate (o : Origin) (v : Word)
  | trgCommitDone (pe : PortEv)
  | moveComplete (id : Nat) (pe : PortEv)
  | bar4Read (off len : Nat) (pe : PortEv)
  | bar4Write (off : Nat) (data : List Byte) (poisoned : Bool) (pe : PortEv)
  -- Weirs
  | weirCommandStart (n : Fin 16)
  | weirCommandComplete (n : Fin 16) (id : Nat)
  | append (n : Fin 16) (id : Nat)
  | attend (n : Fin 16) (id : Nat) (pe : PortEv)
  | foldCommand (n : Fin 16) (id : Nat) (pe : PortEv)
  | gather (n : Fin 16) (id : Nat) (pe : PortEv)
  | requant (n : Fin 16) (id : Nat)
  | evictTruncate (n : Fin 16) (id : Nat)
  | evictDrop (n : Fin 16) (id : Nat)
  | evictUndrop (n : Fin 16) (id : Nat)
  | evictRelease (n : Fin 16) (id : Nat)
  | resummarizeRecompute (n : Fin 16) (id : Nat)
  | resummarizeInstall (n : Fin 16) (id : Nat)
  | tileFold (n : Fin 16) (x : FoldIn)
  | kvPartWrite (o : Origin) (v : Word)
  | slotSelect (o : Origin) (v : Word)
  | slotCreate (o : Origin) (v : Word)
  | slotUpdatePolicy (o : Origin) (v : Word)
  | slotRelease (o : Origin) (v : Word)
  | slotActionDone
  -- Confluence units
  | cuJobStart (t : Fin 4)
  | cuJobComplete (t : Fin 4) (pe : PortEv)
  | weightLoad (t : Fin 4) (o : Origin) (v : Word)
  | weightLoadDone (t : Fin 4) (pe : PortEv)
  | weightCommit (t : Fin 4)
  | commitSettleEnd (t : Fin 4) (failed : List Nat)
  | takenBoundary (t : Fin 4)
  | forcedBoundary (t : Fin 4)
  | rowCalibrationEnd (t : Fin 4) (verified gainBad : Bool)
  | bankUnlock (t : Fin 4)
  | bankRelock (t : Fin 4) (overMs : Bool)
  | forceFallback (t : Fin 4) (o : Origin) (v : Word)
  | rotationEnable (t : Fin 4) (o : Origin) (v : Word)
  | recalRequest (t : Fin 4) (o : Origin) (v : Word)
  | characterisationDone (t : Fin 4) (healthy : Nat)
  -- lasers and rings
  /-- `meas`: laser and drive current, averaged over the last second. -/
  | fadeEvaluation (sp : Fin 2) (meas : List (Nat × Nat))
  | laserLowOutput (sp : Fin 2) (laser mw : Nat)
  | sparePrewarmLocked (sp : Fin 2) (spare : Nat)
  | handoverSchedule (sp : Fin 2)
  | handoverSwap (sp : Fin 2)
  | spareLock (sp : Fin 2)
  | spareLockTimeout (sp : Fin 2)
  | handoverComplete (sp : Fin 2)
  | handoverAbandon (sp : Fin 2)
  | handoverRequest (o : Origin) (v : Word)
  | referenceLoss
  | referenceReturn
  | laserLockUpdate (sp : Fin 2) (laser : Nat) (errMHz : Int) (need mw : Nat)
  | ringLoopUpdate (ring : Nat) (detuneMHz : Int)
  | calDump (o : Origin) (v : Word)
  | calLoad (o : Origin) (v : Word)
  | calDone (pe : PortEv)
  | opticsBringup (failedRings slowRings : List Nat)
  -- Bed links
  | flitSend (src dst : Nat) (vc : Nat) (first : Bool) (payload : List Byte) (source : Nat) (ready : List (Nat × Nat))
  | flitReceive (src dst : Nat) (words : List (Nat × BitVec 516))
  | bedAlign (src dst : Nat) (words : List (Nat × BitVec 516))
  | bedTs1 (lane : Nat) (blocks : List (BitVec 258))
  | bedTs2 (lane : Nat) (blocks : List (BitVec 258))
  | bedRetire (src dst : Nat) (words : List (Nat × BitVec 516))
  | bedAdmit (src dst : Nat) (words : List (Nat × BitVec 516))
  | bedReqRetire (src dst : Nat) (words : List (Nat × BitVec 516))
  | bedBoundary (src dst c : Nat)
  | bedCreditTimeout (src dst : Nat)
  | bedLaneErrorLimit (lane : Nat)
  | bedReqRetireTimeout (src dst : Nat)
  | bedTrainingStart (src dst : Nat)
  | bedTrainingDone (src dst : Nat) (failed : List Nat)
  | bedQuickTrainingDone (src dst : Nat) (lane : Option Nat) (ok : Bool)
  | laneRetrainWaitEnd (lane : Nat)
  | bedDownRetry (src dst : Nat)
  | bedLinkRetrain (o : Origin) (v : Word)
  | bedLaneRetire (o : Origin) (v : Word)
  | bedLaneReadmit (o : Origin) (v : Word)
  -- fiber ports
  | packetSend (p : Fin 16) (vc : Nat) (pkt : Packet)
  | packetReceive (p : Fin 16) (data : List (Nat × List (BitVec 258))) (ebFault : Bool)
  | status (p : Fin 16) (blocks : List (Nat × BitVec 258)) (readBad : Bool)
  | portTs1 (p : Fin 16) (fiber line : Nat) (blocks : List (BitVec 258))
  | portTs2 (p : Fin 16) (fiber line : Nat) (blocks : List (BitVec 258))
  | portRetire (p : Fin 16) (blocks : List (Nat × BitVec 258)) (readBad : Bool)
  | portAdmit (p : Fin 16) (blocks : List (Nat × BitVec 258)) (readBad : Bool)
  | portReqRetire (p : Fin 16) (blocks : List (Nat × BitVec 258)) (readBad : Bool)
  | portBoundary (p : Fin 16) (c : Nat)
  | ackTimeout (p : Fin 16) (readBad : Bool)
  | portCreditTimeout (p : Fin 16)
  | statusMissing (p : Fin 16)
  | portReqRetireTimeout (p : Fin 16)
  | portLockLoss (p : Fin 16)
  | lockTimeout (p : Fin 16)
  | portLaneErrorLimit (p : Fin 16) (line : Nat)
  | portLaneTrainingDone (p : Fin 16) (line : Nat) (ok : Bool)
  | lightSettled (p : Fin 16)
  | portTrainingStart (p : Fin 16)
  | portTrainingDone (p : Fin 16) (ok : Bool) (rate rtt : Nat) (failed : List Nat) (peerTag peerPort peerSession : Nat)
  | portTrainingRetry (p : Fin 16)
  | portRetrainRequest (p : Fin 16) (o : Origin) (v : Word)
  | standbyIdleExpiry (p : Fin 16)
  | standbyExit (p : Fin 16)
  | portDeepEntry (p : Fin 16)
  | portDeepExit (p : Fin 16)
  | deepWakeTimeout (p : Fin 16)
  | graceExpiry (p : Fin 16)
  | receiveDark (p : Fin 16)
  | lightPresent (p : Fin 16)
  | portEnable (p : Fin 16) (o : Origin) (v : Word)
  | portDisable (p : Fin 16) (o : Origin) (v : Word)
  | enableLightTimeout (p : Fin 16)
  | probeCycle (p : Fin 16)
  | probeWindowEnd (p : Fin 16)
  | serviceButtonPress (d : Fin 2)
  | svcQuiesce (d : Fin 2) (o : Origin) (v : Word)
  | svcCancel (d : Fin 2) (o : Origin) (v : Word)
  | longPress (d : Fin 2)
  | quiesceDrainEnd (p : Fin 16)
  | quiesceLimit (d : Fin 2)
  | cancelBlinkEnd (d : Fin 2)
  | portLaneRetire (p : Fin 16) (o : Origin) (v : Word)
  | portLaneReadmit (p : Fin 16) (o : Origin) (v : Word)
  -- fabric
  | read (port : Fin 16) (p : Packet) (pe : PortEv)
  | write (port : Fin 16) (p : Packet) (pe : PortEv)
  | atomic (port : Fin 16) (p : Packet) (pe : PortEv)
  | foldPacket (port : Fin 16) (p : Packet)
  | tokenSignal (port : Fin 16) (p : Packet)
  | readData (port : Fin 16) (p : Packet) (pe : PortEv)
  | writeAck (port : Fin 16) (p : Packet)
  | atomicData (port : Fin 16) (p : Packet)
  | regRead (port : Fin 16) (p : Packet)
  | regWrite (port : Fin 16) (p : Packet)
  | reachCmd (port : Fin 16) (p : Packet)
  | query (port : Fin 16) (p : Packet)
  | assign (port : Fin 16) (p : Packet)
  | mgmtResponse (port : Fin 16) (p : Packet)
  | mgmtForward (port : Fin 16) (p : Packet)
  | packetForward (port : Fin 16) (vc : Nat) (p : Packet)
  | hello (port : Fin 16) (m : HelloMsg)
  | helloSend (port : Fin 16)
  | managerTimeout
  | trackerTimeout (d : Fin 2) (idx : Nat)
  | quarantineExpiry (d : Fin 2) (idx : Nat)
  | flowExpiry (die dev : Nat)
  | heartbeat (d : Fin 2) (pier role mask changes : Nat)
  | heartbeatSend (d : Fin 2)
  | pierSilent (d : Fin 2) (pier : Nat)
  | kSidebandSilent (d : Fin 2)
  | takeoverReport (d : Fin 2)
  | forceStandby
  | forceStandbyRepeat
  | yieldComplete
  | resyncRearm
  | routeSelect (o : Origin) (v : Word)
  | routeCommit (o : Origin) (v : Word)
  | switchback (o : Origin)
  | switchbackAll (o : Origin)
  | rearm (o : Origin)
  | rearmAll (o : Origin)
  | deviceIdWrite (o : Origin) (v : Word)
  -- host interface
  | sqDoorbell (off width : Nat) (v : Word)
  | cqHeadDoorbell (off width : Nat) (v : Word)
  | sqFetch (q : Nat) (entry : Option (List Byte))
  | nopEntry (q idx : Nat)
  | dmaIn (q idx : Nat) (data : List Byte) (poisonedTlps : List (Nat × Nat)) (hostOk : Bool) (pe : PortEv)
  | dmaOut (q idx : Nat) (pe : PortEv)
  | weirEntry (q idx : Nat) (block : Option (List Byte))
  | mgmtEntry (q idx : Nat) (payload : Option (List Byte))
  | cqCompletionWrite (cq : Nat)
  | cqCoalTimeout (cq : Nat)
  | sqEnable (o : Origin) (v : Word)
  | sqDisable (o : Origin) (v : Word)
  | cqEnable (o : Origin) (v : Word)
  | cqDisable (o : Origin) (v : Word)
  | flr
  | ideKm (stream key : Nat)
  | ideIntegrityFailure (stream : Nat)
  -- energy, clocks and heat
  | aoTick
  | aoclkLoss
  | aoclkReturn
  | refclkLoss
  | dvfsRequest (t : Fin 4) (o : Origin) (v : Word)
  | vack (t : Fin 4) (seq : Nat)
  | vreqRepeat (t : Fin 4)
  | dvfsSwitch (t : Fin 4)
  | clusterClockGate (t : Fin 4) (c : Fin 16)
  | refill (railsUj : List Nat) (peaks : List Nat)
  | energySave
  | sensorConversion (sensor : Nat) (t16 : Int)
  | sensorMean (sensor : Nat) (t16 : Int) (limitCode : Bool) (stuck : Bool)
  | fastModeExit (dom : Nat)
  | ghostPhaseEnd (sensor : Nat)
  | thermtrip (sensor : Nat)
  | pstateSlack (o : Origin) (v : Word)
  | pstateStill (o : Origin) (v : Word)
  | pstateActive (o : Origin) (v : Word)
  | slackDrainDone
  | slackEntryTimeout
  | stillWake (i3c : Bool)
  -- security and the change log
  | newNonce (o : Origin)
  | debugObserve (o : Origin) (jtag : Option (List Byte))
  | debugInvasive (o : Origin) (jtag : Option (List Byte))
  | claim (o : Origin) (jtag : Option (List Byte))
  | release (o : Origin) (jtag : Option (List Byte))
  | returnTok (o : Origin) (jtag : Option (List Byte))
  | scrap (o : Origin) (jtag : Option (List Byte))
  | policy (o : Origin) (jtag : Option (List Byte))
  | provision (pubKeys : List (List Byte)) (certs : List Byte)
  | relock (o : Origin) (v : Word)
  | attest (o : Origin) (v : Word)
  | getMeasurements (idx : Nat) (nonce : List Byte)
  | getCertificate
  | extend (o : Origin) (v : Word)
  | svnBurn (o : Origin) (cls : Fin 4) (v : Word)
  | fwFetch (o : Origin) (v : Word) (image : Option (List Byte))
  | jtagAccess (wr : Bool) (space addr : Nat) (v : Word)
  | extest
  | logAck (o : Origin) (v : Word)
  | logNoteCommit (o : Origin) (v : Word)
  | logRead (o : Origin) (v : Word)
  -- persistent store
  | storeWrite
  | storeGateClose
  | storeGateOpen
  | snapshotRequest (o : Origin) (v : Word)
  | snapshotDone
  | orderlyShutdown (o : Origin) (v : Word)
  | storeReset (o : Origin) (v : Word)
  | lifetimeCommit
  | ageingRecord (means : List Nat)
  | hostSavedSave (o : Origin) (v : Word) (pe : PortEv)
  | hostSavedLoad (o : Origin) (v : Word)
  -- power-up and reset
  | pwrgoodAssert (g : Fin 5)
  | pwrgoodLoss (g : Fin 5)
  | coldReset (manifest : Option (List Byte)) (smallFabric : Bool) (badQuotes badStacks : List Nat) (marchFaults : List (Nat × Nat × Nat))
  | warmReset
  | fabricReset (o : Origin) (v : Word)
  | dieHold (o : Origin) (v : Word)
  | dieRelease (o : Origin) (v : Word) (quoteOk : Bool)
  | bedLinkReset (o : Origin) (v : Word)
  | portReset (o : Origin) (v : Word)
  -- errors, test and repair
  | errorPop (o : Origin) (v : Word)
  | transparentTestRegion (t : Fin 4) (failing : List Nat) (pe : PortEv)
  | marchPass (o : Origin) (v : Word)
  -- completions of the operations above
  | keystoneSidebandHeartbeat (d : Fin 2)
  | takeoverComplete (d : Fin 2)
  | entropyHealthFailure
  | spdmKeyExchange
  | resizableBarSizeWrite (size : Nat)
  | attestationReportComplete (pe : PortEv)
  | tokenCheckComplete
  | hostSavedOperationComplete (pe : PortEv)
  | marchPassComplete (faults : List (Nat × Nat))
deriving DecidableEq, Repr

end Sys2Proof
end

