-- ==== Sys2Proof/Decode.lean ====
section
/-! DEFINITION. The decoder of table words: opcode_table.json gives no row a bit, so a word spells no command. -/

namespace Sys2Proof

/-- The command that a word of `nbits` bits spells by the opcode table: none, since no row of the table has bits. (DEDUCED, log 10) -/
def decodeTableWord (_nbits _w : Nat) : Option Instr := none

end Sys2Proof
end

