-- ==== Sys2Proof/Config.lean ====
section
/-! DEFINITION. What one implementation fixes and what the spec leaves open: opaque constants with no body, so that no proof
can lean on a value of theirs. A claim about the model holds whatever they are. -/

namespace Sys2Proof

/-- The n-th free value: an open value of the spec takes the next one (the state counts how many were taken). (DESIGN CHOICE, log 6) -/
opaque Config.free : Nat → Nat
/-- What access number n receives of a byte at an address whose data the spec leaves undefined (R128, R170, R188, R189): where R170 leaves
a choice of two versions, which of them (by its parity). (DESIGN CHOICE, log 16) -/
opaque Config.torn : Nat → Nat → Nat
/-- The result of VEXP2 on an input, within the bound of R155 (the same bits for the same input, R155). (DEDUCED, log 15) -/
opaque Config.exp2 : Word → Word
/-- The result of VLOG2 on an input (R155). (DEDUCED, log 15) -/
opaque Config.log2 : Word → Word
/-- The result of VRCP on an input (R155). (DEDUCED, log 15) -/
opaque Config.rcp : Word → Word
/-- The result of VRSQRT on an input (R155). (DEDUCED, log 15) -/
opaque Config.rsqrt : Word → Word
/-- How a charge or a refill that is no whole number of microjoules is rounded (R511, R512): up, or down. (DESIGN CHOICE, log 19) -/
opaque Config.energyUp : Nat → Nat → Bool
/-- ML-DSA-65 verification (R546): public key, message, signature. (DESIGN CHOICE, log 45) -/
opaque Config.verify : List Byte → List Byte → List Byte → Bool
/-- The ML-DSA-65 signature that the identity key of a die (R353 code) makes over a message (R546). (DESIGN CHOICE, log 45) -/
opaque Config.sign : Nat → List Byte → List Byte
/-- The bytes of Nerelavan's fused firmware key (R546). (DESIGN CHOICE, log 45) -/
opaque Config.fwKeyByte : Nat → Byte
/-- The key: the 1,952 bytes of an ML-DSA-65 key (R546). -/
def Config.fwKey : List Byte := (List.range 1952).map Config.fwKeyByte
/-- The bytes of Nerelavan's fused authorization key (R546). (DESIGN CHOICE, log 45) -/
opaque Config.authKeyByte : Nat → Byte
/-- The key: the 1,952 bytes of an ML-DSA-65 key (R546, R561). -/
def Config.authKey : List Byte := (List.range 1952).map Config.authKeyByte
/-- The 8-byte serials fused in the keystone (R548): 0 the device, 1 the Bed, 2 SP-N, 3 SP-S. (DESIGN CHOICE, log 51) -/
opaque Config.serial : Nat → Nat
/-- The fused ROM digest (R556). (DESIGN CHOICE, log 45) -/
opaque Config.romDigest : List Byte
/-- The fused voltage code of a tensor die at a DVFS step (R502, R679). (DESIGN CHOICE, log 51) -/
opaque Config.vcode : Nat → Nat → Nat
/-- The fused list of neighbours of a temperature sensor (R516). (DESIGN CHOICE, log 51) -/
opaque Config.neighbours : Nat → List Nat
/-- The die that a Bed sensor (304 to 399, R516) lies under, by the die codes of R353; none where it lies under no die (R33). The spec
gives no map. (DESIGN CHOICE, log 51) -/
opaque Config.bedSensorDie : Nat → Option Nat
/-- The fused static draw of the package, the start of u (R512), in microjoules a refill interval. (DESIGN CHOICE, log 51) -/
opaque Config.fusedStatic : Nat
/-- The fused static floor of a rail (R515): 0–3 the tensor dies, 4 VDD_HBM; in microjoules a refill interval. (DESIGN CHOICE, log 51) -/
opaque Config.fusedFloor : Nat → Nat
/-- By how much the commissioning baseline of a laser stands above 100 units of its drive. (DESIGN CHOICE, log 51) -/
opaque Config.laserBaselineOver : Nat → Nat
/-- The commissioning baseline I0 of a laser (R290), by Spring × 80 + laser: a current of at least 100 units of its drive, so that the fade
of R290 is defined. (DESIGN CHOICE, log 51) -/
def Config.laserBaseline (i : Nat) : Nat := 100 + Config.laserBaselineOver i
/-- The fused maximum drive current of a laser (R286), by Spring × 80 + laser. (DESIGN CHOICE, log 51) -/
opaque Config.laserMax : Nat → Nat
/-- The shift, in heater codes, that sets a weight on a weight ring (R250, R266): by unit × 17,408 + ring, the weight, the ring's and its
row's corrections. The spec gives no such curve. (DESIGN CHOICE, log 63) -/
opaque Config.weightShift : Nat → Int → Nat → Nat → Int
/-- The thermal region of a ring (R300); the spec gives no map below the die. (DESIGN CHOICE, log 63) -/
opaque Config.ringRegion : Nat → Nat
/-- The next value of a feed-forward term (R303), in heater codes: from the region record's 16 bytes, the power just sampled and the
term's last value. The spec gives a first-order prediction and no encoding of its gain and time constant. (DESIGN CHOICE, log 63) -/
opaque Config.feedForward : Nat → Nat → Int → Int
/-- The fused per-line offset of the reference comb (R288), in units of 50 MHz. (DESIGN CHOICE, log 51) -/
opaque Config.lineOffset : Nat → Int

/-- The fused set point of the reference region (R288, R308). (DESIGN CHOICE, log 51) -/
opaque Config.refSetPoint : Nat

/-- The nanojoules declared for a Weir command block of an operation that the keystone issues (R206, R510): the spec gives the ledger and
the class and no amount. (DESIGN CHOICE, log 37) -/
opaque Config.weirNj : Nat → Nat

/-- The row of a pseudo-channel in which an address of a stack lies (R662, R664); the spec gives no row mapping. (DESIGN CHOICE, log 47) -/
opaque Config.hbmRow : Nat → Nat

/-- The path hash of R422 over destination ID, source ID, source die code and address [45:8]; the spec does not say in which
order and widths those are laid out for the CRC, so the number is left open. (DESIGN CHOICE, log 32) -/
opaque Config.pathHash : Nat → Nat → Nat → Nat → Nat

/-- The IDE stream with which a host address is associated, if any (R486): the host sets the association blocks in the configuration
space, which the spec does not lay out. (DESIGN CHOICE, log 29) -/
opaque Config.ideStream : Nat → Option Nat

end Sys2Proof
end

