-- ==== Sys2Proof/Machine/Crypto.lean ====
section
/-! DEFINITION. The checks and digests the spec names: CRC-32C (R177), the flit CRC-16 (R334), SHAKE256 (R549, R550), the
stochastic-rounding generator (R152), and the symbol levels of the lanes (R328). -/

namespace Sys2Proof.Machine

/-- One bit of the reflected CRC-32C: the polynomial 0x1EDC_6F41 reflected is 0x82F6_3B78 (R177). -/
def crc32cBit (c : Word) : Word := if c.getLsbD 0 then (c >>> 1) ^^^ 0x82F63B78#32 else c >>> 1

/-- One byte into the CRC-32C. -/
def crc32cByte (c : Word) (b : Byte) : Word :=
  (List.range 8).foldl (fun c _ => crc32cBit c) (c ^^^ b.setWidth 32)

/-- CRC-32C of a list of bytes (R177): initial value and final XOR 0xFFFF_FFFF. -/
def crc32c (bs : List Byte) : Word := bs.foldl crc32cByte 0xFFFFFFFF#32 ^^^ 0xFFFFFFFF#32

/-- One byte into the flit CRC-16 (R334): polynomial 0x1021, not reflected. -/
def crc16Byte (c : BitVec 16) (b : Byte) : BitVec 16 :=
  (List.range 8).foldl (fun c _ => if c.getLsbD 15 then (c <<< 1) ^^^ 0x1021#16 else c <<< 1)
    (c ^^^ (b.setWidth 16 <<< 8))

/-- CRC-16 of a list of bytes: initial value 0xFFFF, no final XOR (R334). -/
def crc16 (bs : List Byte) : BitVec 16 := bs.foldl crc16Byte 0xFFFF#16

/-! SHAKE256 (FIPS 202), which R549 names: Keccak-f[1600] on 25 lanes of 64 bits, rate 136 bytes. -/

/-- Round constant of Keccak-f[1600]. -/
def keccakRC : List Word64 := [
  0x0000000000000001#64, 0x0000000000008082#64, 0x800000000000808A#64, 0x8000000080008000#64, 0x000000000000808B#64,
  0x0000000080000001#64, 0x8000000080008081#64, 0x8000000000008009#64, 0x000000000000008A#64, 0x0000000000000088#64,
  0x0000000080008009#64, 0x000000008000000A#64, 0x000000008000808B#64, 0x800000000000008B#64, 0x8000000000008089#64,
  0x8000000000008003#64, 0x8000000000008002#64, 0x8000000000000080#64, 0x000000000000800A#64, 0x800000008000000A#64,
  0x8000000080008081#64, 0x8000000000008080#64, 0x0000000080000001#64, 0x8000000080008008#64]

/-- Rotation of lane (x, y), at index x + 5 y. -/
def keccakRot : List Nat :=
  [0, 1, 62, 28, 27, 36, 44, 6, 55, 20, 3, 10, 43, 25, 39, 41, 45, 15, 21, 8, 18, 2, 61, 56, 14]

/-- Lane (x, y) of the state, indexes modulo 5. -/
def lane (a : List Word64) (x y : Nat) : Word64 := a.getD (x % 5 + 5 * (y % 5)) 0

/-- Build a state from a function of (x, y). -/
def lanesOf (f : Nat → Nat → Word64) : List Word64 := (List.range 25).map fun i => f (i % 5) (i / 5)

/-- The theta step: column parities mixed into every lane. -/
def keccakTheta (a : List Word64) : List Word64 :=
  let c := (List.range 5).map fun x => (List.range 5).foldl (fun z y => z ^^^ lane a x y) 0
  lanesOf fun x y => lane a x y ^^^ (c.getD ((x + 4) % 5) 0 ^^^ (c.getD ((x + 1) % 5) 0).rotateLeft 1)

/-- The rho and pi steps: lane (x, y) takes the rotated lane (x + 3y, x). -/
def keccakRhoPi (a : List Word64) : List Word64 :=
  lanesOf fun x y => (lane a (x + 3 * y) x).rotateLeft (keccakRot.getD ((x + 3 * y) % 5 + 5 * x) 0)

/-- The chi and iota steps. -/
def keccakChiIota (rc : Word64) (a : List Word64) : List Word64 :=
  lanesOf fun x y =>
    (lane a x y ^^^ (~~~ lane a (x + 1) y &&& lane a (x + 2) y)) ^^^ (if x = 0 ∧ y = 0 then rc else 0)

/-- Keccak-f[1600]. -/
def keccakF (a : List Word64) : List Word64 :=
  keccakRC.foldl (fun a rc => keccakChiIota rc (keccakRhoPi (keccakTheta a))) a

/-- XOR one block of 136 bytes into the state. -/
def keccakAbsorb (a : List Word64) (blk : List Byte) : List Word64 :=
  lanesOf fun x y => lane a x y ^^^
    (if x + 5 * y < 17 then BitVec.ofNat 64 (ofBytesLE ((blk.drop (8 * (x + 5 * y))).take 8)) else 0)

/-- Absorb `n` blocks. -/
def keccakBlocks : Nat → List Word64 → List Byte → List Word64
  | 0, a, _ => a
  | n + 1, a, bs => keccakBlocks n (keccakF (keccakAbsorb a (bs.take 136))) (bs.drop 136)

/-- The message padded for SHAKE256: domain bits 1111, then 10*1. -/
def shakePad (bs : List Byte) : List Byte :=
  let q := 136 - bs.length % 136
  if q = 1 then bs ++ [0x9F#8] else bs ++ [0x1F#8] ++ List.replicate (q - 2) 0 ++ [0x80#8]

/-- SHAKE256 with at most 136 bytes of output. -/
def shake256 (bs : List Byte) (outLen : Nat) : List Byte :=
  let p := shakePad bs
  let a := keccakBlocks (p.length / 136) (List.replicate 25 0) p
  ((a.take 17).flatMap fun l => toBytesLE 8 l.toNat).take outLen

/-! The stochastic-rounding generator (R152). -/

/-- One shift of the generator: bit 63 takes the XOR of the old bits 0, 60, 61 and 63. -/
def lfsrShift (s : Word64) : Word64 :=
  let fb := (s.getLsbD 0 ^^ s.getLsbD 60) ^^ (s.getLsbD 61 ^^ s.getLsbD 63)
  (s >>> 1) ||| (if fb then 0x8000000000000000#64 else 0)

/-- One draw: 16 shifts; the bits output form r, the first in bit 0 (R152). -/
def lfsrDraw (s : Word64) : Nat × Word64 :=
  (List.range 16).foldl (fun (r, s) b => (r + (if s.getLsbD 0 then 2 ^ b else 0), lfsrShift s))
    (0, if s = 0 then 1 else s)

/-- The PAM4 level of a bit pair, the first bit the most significant (R328). -/
def pam4Level (b1 b0 : Bool) : Nat :=
  match b1, b0 with
  | false, false => 0
  | false, true => 1
  | true, true => 2
  | true, false => 3

end Sys2Proof.Machine
end

