-- ==== Sys2Proof/Machine/RegMap.lean ====
section
/-! DEFINITION. The BAR0 register map: every register the spec describes, with its offset, its reset domain and its
fields (access code, log mark, reset value), as the register tables of the chapters give them (R9 to R17 say how
to read those tables; the comment on each row of the table below names the register's own rule). -/

namespace Sys2Proof.Machine

/-- The access codes of R13. -/
inductive Access where
  | rw | ro | wo | w1c | w1s | rwl | rwp
deriving DecidableEq, Repr

/-- The reset domains of R12 and R640; `none` is the always-on tick counter's (R536). -/
inductive Dom where
  | cold | warm | flr | die | link | none
deriving DecidableEq, Repr

/-- One field of a register: its lowest bit, its width, its access code, whether it is logged (a "Y"), its reset value. -/
structure Fld where
  lo : Nat
  width : Nat
  acc : Access
  log : Bool
  rst : Nat
deriving DecidableEq, Repr

/-- One register, or a family of registers: instance (i, j) sits at `base + i * s1 + j * s2`. -/
structure RegDesc where
  name : String
  base : Nat
  n1 : Nat
  s1 : Nat
  n2 : Nat
  s2 : Nat
  dom : Dom
  flds : List Fld
deriving DecidableEq, Repr

namespace Reg

/-- R3. -/
abbrev KEY_IDENT : Nat := 0x0
/-- R15. -/
abbrev KEY_RSVD_WRITES : Nat := 0x4
/-- R16. -/
abbrev KEY_LOCKED_WRITES : Nat := 0x8
/-- R17. -/
abbrev KEY_LOCK : Nat := 0xC
/-- R84. -/
abbrev KEY_RCH_SEL : Nat := 0x1000
/-- R84. -/
abbrev KEY_RCH_DATA : Nat := 0x1004
/-- R82. -/
abbrev Tt_RCH_SEL (t : Nat) : Nat := 0x1010000 + t * 0x400000
/-- R83. -/
abbrev Tt_RCH_DATA (t : Nat) : Nat := 0x1010004 + t * 0x400000
/-- R84. -/
abbrev Wn_RCH_SEL (n : Nat) : Nat := 0x2008000 + n * 0x10000
/-- R84. -/
abbrev Wn_RCH_DATA (n : Nat) : Nat := 0x2008004 + n * 0x10000
/-- R85. -/
abbrev KEY_PLC_SEL : Nat := 0x1010
/-- R86. -/
abbrev KEY_PLC_DATA : Nat := 0x1014
/-- R87. -/
abbrev KEY_PLC_REACH : Nat := 0x1018
/-- R88. -/
abbrev KEY_PLC_DISCARDS : Nat := 0x101C
/-- R89. -/
abbrev KEY_GROUP_BASE : Nat := 0x1020
/-- R194. -/
abbrev KEY_TRG_SEL : Nat := 0x1100
/-- R195. -/
abbrev KEY_TRG_BASE_LO : Nat := 0x1104
/-- R195. -/
abbrev KEY_TRG_BASE_HI : Nat := 0x1108
/-- R196. -/
abbrev KEY_TRG_TRL_LO : Nat := 0x110C
/-- R196. -/
abbrev KEY_TRG_TRL_HI : Nat := 0x1110
/-- R197. -/
abbrev KEY_TRG_COUNT : Nat := 0x1114
/-- R198. -/
abbrev KEY_TRG_CFG : Nat := 0x1118
/-- R199. -/
abbrev KEY_TRG_STATUS : Nat := 0x111C
/-- R200. -/
abbrev Tt_MEM_PORT_BUSY (t : Nat) : Nat := 0x1020000 + t * 0x400000
/-- R200. -/
abbrev Tt_MEM_TILE_CHECK (t : Nat) : Nat := 0x1020004 + t * 0x400000
/-- R200. -/
abbrev Wn_MEM_TILE_CHECK (n : Nat) : Nat := 0x2008020 + n * 0x10000
/-- R239. -/
abbrev KEY_KV_PART : Nat := 0x1200
/-- R240. -/
abbrev KEY_SLOT_SEL : Nat := 0x1204
/-- R241. -/
abbrev KEY_SLOT_RSV : Nat := 0x1208
/-- R242. -/
abbrev KEY_SLOT_SHAPE : Nat := 0x120C
/-- R243. -/
abbrev KEY_SLOT_POL0 : Nat := 0x1210
/-- R244. -/
abbrev KEY_SLOT_POL1 : Nat := 0x1214
/-- R245. -/
abbrev KEY_SLOT_FOOT : Nat := 0x1218
/-- R246. -/
abbrev KEY_SLOT_CFG : Nat := 0x121C
/-- R247. -/
abbrev KEY_SLOT_STATUS : Nat := 0x1220
/-- R248. -/
abbrev Wn_ATT_PAGES (n : Nat) : Nat := 0x2008024 + n * 0x10000
/-- R248. -/
abbrev Wn_FOLD_TILES (n : Nat) : Nat := 0x2008028 + n * 0x10000
/-- R248. -/
abbrev Wn_ATT_DEGRADED (n : Nat) : Nat := 0x200802C + n * 0x10000
/-- R249. -/
abbrev Wn_SLOT_LENs (n s : Nat) : Nat := 0x2008040 + n * 0x10000 + s * 0x4
/-- R276. -/
abbrev Tt_CU_STATUS (t : Nat) : Nat := 0x1030000 + t * 0x400000
/-- R277. -/
abbrev Tt_CU_CTRL (t : Nat) : Nat := 0x1030004 + t * 0x400000
/-- R278. -/
abbrev Tt_CU_WLOAD_LO (t : Nat) : Nat := 0x1030008 + t * 0x400000
/-- R278. -/
abbrev Tt_CU_WLOAD_HI (t : Nat) : Nat := 0x103000C + t * 0x400000
/-- R279. -/
abbrev Tt_CU_WLOAD_CTL (t : Nat) : Nat := 0x1030010 + t * 0x400000
/-- R280. -/
abbrev Tt_CU_TAGS (t : Nat) : Nat := 0x1030014 + t * 0x400000
/-- R281. -/
abbrev Tt_CU_INVALID_VEC (t : Nat) : Nat := 0x1030020 + t * 0x400000
/-- R281. -/
abbrev Tt_CU_FALLBACK_VEC (t : Nat) : Nat := 0x1030024 + t * 0x400000
/-- R281. -/
abbrev Tt_CU_CLIP (t : Nat) : Nat := 0x1030028 + t * 0x400000
/-- R281. -/
abbrev Tt_CU_FORCED (t : Nat) : Nat := 0x103002C + t * 0x400000
/-- R310. -/
abbrev BED_LASER_SEL : Nat := 0x2100000
/-- R311. -/
abbrev BED_LASER_FADE : Nat := 0x2100004
/-- R312. -/
abbrev BED_LASER_CTL : Nat := 0x2100008
/-- R313. -/
abbrev BED_HANDOVER : Nat := 0x210000C
/-- R314. -/
abbrev BED_REF_STATUS : Nat := 0x2100010
/-- R315. -/
abbrev BED_REGION_CTL : Nat := 0x2100014
/-- R316. -/
abbrev BED_CAL_ADDR_LO : Nat := 0x2100020
/-- R316. -/
abbrev BED_CAL_ADDR_HI : Nat := 0x2100024
/-- R317. -/
abbrev BED_CAL_CTL : Nat := 0x2100028
/-- R318. -/
abbrev BED_RING_UNLOCKS : Nat := 0x2100030
/-- R318. -/
abbrev BED_HANDOVERS : Nat := 0x2100034
/-- R318. -/
abbrev BED_HANDOVER_ABANDONS : Nat := 0x2100038
/-- R318. -/
abbrev BED_LINES_FAILED : Nat := 0x210003C
/-- R351. -/
abbrev BED_LINK_SEL : Nat := 0x2100100
/-- R352. -/
abbrev BED_LINK_STATUS : Nat := 0x2100104
/-- R352. -/
abbrev BED_LINK_CTL : Nat := 0x2100108
/-- R354. -/
abbrev BED_LANE_SEL : Nat := 0x2100140
/-- R354. -/
abbrev BED_LANE_STATUS : Nat := 0x2100144
/-- R354. -/
abbrev BED_LANE_CTL : Nat := 0x2100148
/-- R355. -/
abbrev BED_LINK_CORRECTED : Nat := 0x2100110
/-- R355. -/
abbrev BED_LINK_UNCORR : Nat := 0x2100114
/-- R355. -/
abbrev BED_LINK_REPLAYS : Nat := 0x2100118
/-- R355. -/
abbrev BED_LINK_RETRAINS : Nat := 0x210011C
/-- R355. -/
abbrev BED_LINK_CREDIT_TO : Nat := 0x2100120
/-- R408, R407. -/
abbrev Sd_PORTp_STATE (p : Nat) : Nat := 0x2200000 + p / 8 * 0x400000 + p % 8 * 0x10000
/-- R409, R407. -/
abbrev Sd_PORTp_CTL (p : Nat) : Nat := 0x2200004 + p / 8 * 0x400000 + p % 8 * 0x10000
/-- R410, R407. -/
abbrev Sd_PORTp_TIMERS (p : Nat) : Nat := 0x2200008 + p / 8 * 0x400000 + p % 8 * 0x10000
/-- R411, R407. -/
abbrev Sd_PORTp_CREDIT0 (p : Nat) : Nat := 0x220000C + p / 8 * 0x400000 + p % 8 * 0x10000
/-- R411, R407. -/
abbrev Sd_PORTp_CREDIT1 (p : Nat) : Nat := 0x2200010 + p / 8 * 0x400000 + p % 8 * 0x10000
/-- R412, R407. -/
abbrev Sd_PORTp_BW (p : Nat) : Nat := 0x2200014 + p / 8 * 0x400000 + p % 8 * 0x10000
/-- R413, R407. -/
abbrev Sd_PORTp_WINDOW (p : Nat) : Nat := 0x2200018 + p / 8 * 0x400000 + p % 8 * 0x10000
/-- R413, R407. -/
abbrev Sd_PORTp_PEER (p : Nat) : Nat := 0x220001C + p / 8 * 0x400000 + p % 8 * 0x10000
/-- R414, R407. -/
abbrev Sd_PORTp_LANE_SEL (p : Nat) : Nat := 0x2200020 + p / 8 * 0x400000 + p % 8 * 0x10000
/-- R414, R407. -/
abbrev Sd_PORTp_LANE_STATUS (p : Nat) : Nat := 0x2200024 + p / 8 * 0x400000 + p % 8 * 0x10000
/-- R414, R407. -/
abbrev Sd_PORTp_LANE_CTL (p : Nat) : Nat := 0x2200028 + p / 8 * 0x400000 + p % 8 * 0x10000
/-- R459, R407. -/
abbrev Sd_PORTp_FAB (p : Nat) : Nat := 0x2200030 + p / 8 * 0x400000 + p % 8 * 0x10000
/-- R415, R407. -/
abbrev Sd_PORTp_CORRECTED (p : Nat) : Nat := 0x2200040 + p / 8 * 0x400000 + p % 8 * 0x10000
/-- R415, R407. -/
abbrev Sd_PORTp_UNCORR (p : Nat) : Nat := 0x2200044 + p / 8 * 0x400000 + p % 8 * 0x10000
/-- R415, R407. -/
abbrev Sd_PORTp_REPLAYS (p : Nat) : Nat := 0x2200048 + p / 8 * 0x400000 + p % 8 * 0x10000
/-- R415, R407. -/
abbrev Sd_PORTp_RETRAINS (p : Nat) : Nat := 0x220004C + p / 8 * 0x400000 + p % 8 * 0x10000
/-- R415, R407. -/
abbrev Sd_PORTp_CREDIT_TO (p : Nat) : Nat := 0x2200050 + p / 8 * 0x400000 + p % 8 * 0x10000
/-- R415, R407. -/
abbrev Sd_PORTp_CTL_ERR (p : Nat) : Nat := 0x2200054 + p / 8 * 0x400000 + p % 8 * 0x10000
/-- R415, R407. -/
abbrev Sd_PORTp_DUP_DROPS (p : Nat) : Nat := 0x2200058 + p / 8 * 0x400000 + p % 8 * 0x10000
/-- R415, R407. -/
abbrev Sd_PORTp_FLUSHED (p : Nat) : Nat := 0x220005C + p / 8 * 0x400000 + p % 8 * 0x10000
/-- R415, R407. -/
abbrev Sd_PORTp_EB_FAULT (p : Nat) : Nat := 0x2200060 + p / 8 * 0x400000 + p % 8 * 0x10000
/-- R415, R407. -/
abbrev Sd_PORTp_DARK (p : Nat) : Nat := 0x2200064 + p / 8 * 0x400000 + p % 8 * 0x10000
/-- R416. -/
abbrev Sd_SVC_STATUS (d : Nat) : Nat := 0x2300000 + d * 0x400000
/-- R416. -/
abbrev Sd_SVC_CTL (d : Nat) : Nat := 0x2300004 + d * 0x400000
/-- R416. -/
abbrev Sd_LINK_MODE (d : Nat) : Nat := 0x2300008 + d * 0x400000
/-- R452. -/
abbrev KEY_DEV_ID : Nat := 0x1300
/-- R453. -/
abbrev KEY_RT_SEL : Nat := 0x1304
/-- R454. -/
abbrev KEY_RT_ENTRY : Nat := 0x1308
/-- R455. -/
abbrev KEY_RT_MODE : Nat := 0x130C
/-- R456. -/
abbrev KEY_RT_STATUS : Nat := 0x1310
/-- R457. -/
abbrev KEY_FAB_CTL : Nat := 0x1314
/-- R458. -/
abbrev KEY_FAB_STATUS : Nat := 0x1318
/-- R458. -/
abbrev KEY_FAB_MGRi (i : Nat) : Nat := 0x1340 + i * 0x4
/-- R460. -/
abbrev Sd_TRK_CTL (d : Nat) : Nat := 0x2300010 + d * 0x400000
/-- R460. -/
abbrev Sd_TRK_STATUS (d : Nat) : Nat := 0x2300014 + d * 0x400000
/-- R460. -/
abbrev Sd_PIER_STATUS (d : Nat) : Nat := 0x2300018 + d * 0x400000
/-- R461. -/
abbrev Sd_FAB_LATE_RSP (d : Nat) : Nat := 0x2300020 + d * 0x400000
/-- R461. -/
abbrev Sd_FAB_REISSUES (d : Nat) : Nat := 0x2300024 + d * 0x400000
/-- R461. -/
abbrev Sd_FAB_UNKNOWN (d : Nat) : Nat := 0x2300028 + d * 0x400000
/-- R461. -/
abbrev Sd_FAB_DUPS (d : Nat) : Nat := 0x230002C + d * 0x400000
/-- R461. -/
abbrev Sd_FAB_DEDUPE_FULL (d : Nat) : Nat := 0x2300030 + d * 0x400000
/-- R461. -/
abbrev Sd_FAB_NOROUTE (d : Nat) : Nat := 0x2300034 + d * 0x400000
/-- R461. -/
abbrev Sd_FAB_HOPS (d : Nat) : Nat := 0x2300038 + d * 0x400000
/-- R461. -/
abbrev Sd_FAB_TAKEOVERS (d : Nat) : Nat := 0x230003C + d * 0x400000
/-- R491. -/
abbrev HQ_Q_SEL : Nat := 0x100000
/-- R492. -/
abbrev HQ_SQ_BASE_LO : Nat := 0x100004
/-- R492. -/
abbrev HQ_SQ_BASE_HI : Nat := 0x100008
/-- R493. -/
abbrev HQ_SQ_CFG : Nat := 0x10000C
/-- R492. -/
abbrev HQ_CQ_BASE_LO : Nat := 0x100010
/-- R492. -/
abbrev HQ_CQ_BASE_HI : Nat := 0x100014
/-- R494. -/
abbrev HQ_CQ_CFG : Nat := 0x100018
/-- R495. -/
abbrev HQ_Q_STATUS : Nat := 0x10001C
/-- R495. -/
abbrev HQ_Q_POS : Nat := 0x100020
/-- R496. -/
abbrev HQ_BAR4_WIN : Nat := 0x100024
/-- R497. -/
abbrev HQ_DEV_STATUS : Nat := 0x100028
/-- R498. -/
abbrev HQ_MBOXm_STATUS (m : Nat) : Nat := 0x108000 + m * 0x10
/-- R498. -/
abbrev HQ_MBOXm_DATA_LO (m : Nat) : Nat := 0x108004 + m * 0x10
/-- R498. -/
abbrev HQ_MBOXm_DATA_HI (m : Nat) : Nat := 0x108008 + m * 0x10
/-- R524. -/
abbrev NRG_POWER_CAP : Nat := 0x200000
/-- R525. -/
abbrev NRG_BURST : Nat := 0x200004
/-- R526. -/
abbrev NRG_RAMP : Nat := 0x200008
/-- R527. -/
abbrev NRG_STATUS : Nat := 0x20000C
/-- R528. -/
abbrev NRG_LEDGER_SEL : Nat := 0x200010
/-- R528. -/
abbrev NRG_LEDGER_DATA : Nat := 0x200014
/-- R529. -/
abbrev NRG_CORR_SEL : Nat := 0x200018
/-- R529. -/
abbrev NRG_CORR_DATA : Nat := 0x20001C
/-- R530. -/
abbrev NRG_MEAS_SEL : Nat := 0x200020
/-- R530. -/
abbrev NRG_MEAS_DATA : Nat := 0x200024
/-- R531. -/
abbrev NRG_PSTATE : Nat := 0x200030
/-- R532. -/
abbrev NRG_DVFSt (t : Nat) : Nat := 0x200040 + t * 0x4
/-- R533. -/
abbrev NRG_THERM_CFG : Nat := 0x200050
/-- R534. -/
abbrev NRG_THROTTLEt (t : Nat) : Nat := 0x200054 + t * 0x4
/-- R534. -/
abbrev NRG_THROTTLE_PKG : Nat := 0x200064
/-- R535. -/
abbrev NRG_SENSOR_SEL : Nat := 0x200070
/-- R535. -/
abbrev NRG_SENSOR_DATA : Nat := 0x200074
/-- R536. -/
abbrev NRG_TICK_LO : Nat := 0x200080
/-- R536. -/
abbrev NRG_TICK_HI : Nat := 0x200084
/-- R536. -/
abbrev NRG_BOOT_COUNT : Nat := 0x200088
/-- R537. -/
abbrev NRG_DEFER_EVENTS : Nat := 0x200090
/-- R537. -/
abbrev NRG_RAMP_HOLDS : Nat := 0x200094
/-- R537. -/
abbrev NRG_THROTTLE_MS : Nat := 0x200098
/-- R537. -/
abbrev NRG_SENSORS_BROKEN : Nat := 0x20009C
/-- R537. -/
abbrev NRG_FILL_US : Nat := 0x2000A0
/-- R537. -/
abbrev NRG_ASLEEP_ACCESS : Nat := 0x2000A4
/-- R583. -/
abbrev SEC_LIFECYCLE : Nat := 0x300000
/-- R584. -/
abbrev SEC_DEBUG : Nat := 0x300004
/-- R585. -/
abbrev SEC_AUTH_CTL : Nat := 0x300008
/-- R586. -/
abbrev SEC_AUTH_ADDR_LO : Nat := 0x30000C
/-- R586. -/
abbrev SEC_AUTH_ADDR_HI : Nat := 0x300010
/-- R587. -/
abbrev SEC_AUTH_NONCEi (i : Nat) : Nat := 0x300020 + i * 0x4
/-- R588. -/
abbrev SEC_BOOT_STATUS : Nat := 0x300040
/-- R589. -/
abbrev SEC_FW_ADDR_LO : Nat := 0x300044
/-- R589. -/
abbrev SEC_FW_ADDR_HI : Nat := 0x300048
/-- R590. -/
abbrev SEC_SVNc (c : Nat) : Nat := 0x300050 + c * 0x4
/-- R591. -/
abbrev SEC_ATTEST_ADDR_LO : Nat := 0x300060
/-- R591. -/
abbrev SEC_ATTEST_ADDR_HI : Nat := 0x300064
/-- R591. -/
abbrev SEC_ATTEST_CTL : Nat := 0x300068
/-- R592. -/
abbrev SEC_MEASr_w (r w : Nat) : Nat := 0x300100 + r * 0x40 + w * 0x4
/-- R592. -/
abbrev SEC_ID_DIGESTi (i : Nat) : Nat := 0x300900 + i * 0x4
/-- R592. -/
abbrev SEC_SERIAL_LO : Nat := 0x300940
/-- R592. -/
abbrev SEC_SERIAL_HI : Nat := 0x300944
/-- R593. -/
abbrev SEC_EXTENDi (i : Nat) : Nat := 0x300A00 + i * 0x4
/-- R593. -/
abbrev SEC_EXTEND_CTL : Nat := 0x300A40
/-- R594. -/
abbrev LOG_NEXT_LO : Nat := 0x400000
/-- R594. -/
abbrev LOG_NEXT_HI : Nat := 0x400004
/-- R594. -/
abbrev LOG_ACK_LO : Nat := 0x400008
/-- R594. -/
abbrev LOG_ACK_HI : Nat := 0x40000C
/-- R594. -/
abbrev LOG_STATUS : Nat := 0x400010
/-- R594. -/
abbrev LOG_REFUSAL : Nat := 0x400014
/-- R594. -/
abbrev LOG_REFUSED : Nat := 0x400018
/-- R594. -/
abbrev LOG_UNLOGGED : Nat := 0x40001C
/-- R594. -/
abbrev LOG_RD_LO : Nat := 0x400020
/-- R594. -/
abbrev LOG_RD_HI : Nat := 0x400024
/-- R594. -/
abbrev LOG_RD_DATAi (i : Nat) : Nat := 0x400040 + i * 0x4
/-- R594. -/
abbrev LOG_NOTEi (i : Nat) : Nat := 0x400080 + i * 0x4
/-- R594. -/
abbrev LOG_NOTE_CTL : Nat := 0x400098
/-- R621. -/
abbrev KEY_PST_STATUS : Nat := 0x1400
/-- R622. -/
abbrev KEY_PST_CTL : Nat := 0x1404
/-- R623. -/
abbrev KEY_PST_SCAN : Nat := 0x1408
/-- R624. -/
abbrev KEY_PST_LIFE_SEL : Nat := 0x140C
/-- R624. -/
abbrev KEY_PST_LIFE_LO : Nat := 0x1410
/-- R624. -/
abbrev KEY_PST_LIFE_HI : Nat := 0x1414
/-- R625. -/
abbrev KEY_PST_HS_ADDR_LO : Nat := 0x1418
/-- R625. -/
abbrev KEY_PST_HS_ADDR_HI : Nat := 0x141C
/-- R625. -/
abbrev KEY_PST_HS_CTL : Nat := 0x1420
/-- R636. -/
abbrev KEY_READY : Nat := 0x1500
/-- R637. -/
abbrev KEY_READY_MS : Nat := 0x1504
/-- R647. -/
abbrev KEY_RESET_CTL : Nat := 0x1508
/-- R648. -/
abbrev KEY_RESET_STATUS : Nat := 0x1510
/-- R666. -/
abbrev KEY_ERR_SEL : Nat := 0x1600
/-- R667. -/
abbrev KEY_ERR_FIFO_CFG : Nat := 0x1604
/-- R668. -/
abbrev KEY_ERR_FIFO_STATUS : Nat := 0x1608
/-- R668. -/
abbrev KEY_ERR_POP : Nat := 0x160C
/-- R668. -/
abbrev KEY_ERR_RECi (i : Nat) : Nat := 0x1640 + i * 0x4
/-- R669. -/
abbrev KEY_TEST_CTL : Nat := 0x1680
/-- R670. -/
abbrev KEY_MARCH_CTL : Nat := 0x1684
/-- R671. -/
abbrev KEY_REPAIR_STATUS : Nat := 0x1688

end Reg

/-- A field that is not logged. -/
def fN (lo width : Nat) (acc : Access) (rst : Nat) : Fld := { lo, width, acc, log := false, rst }
/-- A logged field (a "Y" in the Log column, R12). -/
def fY (lo width : Nat) (acc : Access) (rst : Nat) : Fld := { lo, width, acc, log := true, rst }

/-- Part 0 of the register table. -/
def regTable0 : List RegDesc := [
  ⟨"KEY_IDENT", 0x0, 1, 0x0, 1, 0x0, .cold, [fN 0 8 .ro 0x0, fN 8 8 .ro 0x0, fN 16 16 .ro 0x4C16]⟩,
  ⟨"KEY_RSVD_WRITES", 0x4, 1, 0x0, 1, 0x0, .warm, [fN 0 32 .ro 0x0]⟩,
  ⟨"KEY_LOCKED_WRITES", 0x8, 1, 0x0, 1, 0x0, .warm, [fN 0 32 .ro 0x0]⟩,
  ⟨"KEY_LOCK", 0xC, 1, 0x0, 1, 0x0, .cold, [fY 0 1 .w1s 0x0, fY 1 1 .w1s 0x0, fY 2 1 .w1s 0x0, fY 3 1 .w1s 0x0, fY 4 1 .w1s 0x0, fY 5 4 .w1s 0x0, fY 9 1 .w1s 0x0, fY 10 1 .w1s 0x0, fY 11 1 .w1s 0x0, fY 12 1 .w1s 0x0]⟩,
  ⟨"KEY_RCH_SEL", 0x1000, 1, 0x0, 1, 0x0, .warm, [fN 0 4 .rw 0x0, fN 4 4 .rw 0x0, fN 8 2 .rw 0x0, fN 10 12 .rw 0x0, fN 22 2 .rw 0x0]⟩,
  ⟨"KEY_RCH_DATA", 0x1004, 1, 0x0, 1, 0x0, .warm, [fY 0 32 .rw 0x0]⟩,
  ⟨"Tt_RCH_SEL", 0x1010000, 4, 0x400000, 1, 0x0, .warm, [fN 0 4 .rw 0x0, fN 4 4 .rw 0x0, fN 8 2 .rw 0x0, fN 10 12 .rw 0x0, fN 22 2 .rw 0x0]⟩,
  ⟨"Tt_RCH_DATA", 0x1010004, 4, 0x400000, 1, 0x0, .warm, [fY 0 32 .rw 0x0]⟩,
  ⟨"Wn_RCH_SEL", 0x2008000, 16, 0x10000, 1, 0x0, .warm, [fN 0 4 .rw 0x0, fN 4 4 .rw 0x0, fN 8 2 .rw 0x0, fN 10 12 .rw 0x0, fN 22 2 .rw 0x0]⟩,
  ⟨"Wn_RCH_DATA", 0x2008004, 16, 0x10000, 1, 0x0, .warm, [fY 0 32 .rw 0x0]⟩,
  ⟨"KEY_PLC_SEL", 0x1010, 1, 0x0, 1, 0x0, .warm, [fN 0 12 .rw 0x0]⟩,
  ⟨"KEY_PLC_DATA", 0x1014, 1, 0x0, 1, 0x0, .warm, [fN 0 8 .ro 0x0, fN 8 2 .ro 0x0, fN 10 5 .ro 0x0, fN 15 1 .ro 0x0]⟩,
  ⟨"KEY_PLC_REACH", 0x1018, 1, 0x0, 1, 0x0, .warm, [fN 0 32 .ro 0x0]⟩,
  ⟨"KEY_PLC_DISCARDS", 0x101C, 1, 0x0, 1, 0x0, .warm, [fN 0 32 .ro 0x0]⟩,
  ⟨"KEY_GROUP_BASE", 0x1020, 1, 0x0, 1, 0x0, .cold, [fY 0 21 .rwl 0x0, fY 31 1 .rwl 0x0]⟩,
  ⟨"KEY_TRG_SEL", 0x1100, 1, 0x0, 1, 0x0, .warm, [fN 0 8 .rw 0x0]⟩,
  ⟨"KEY_TRG_BASE_LO", 0x1104, 1, 0x0, 1, 0x0, .warm, [fY 6 26 .rw 0x0]⟩,
  ⟨"KEY_TRG_BASE_HI", 0x1108, 1, 0x0, 1, 0x0, .warm, [fY 0 14 .rw 0x0]⟩,
  ⟨"KEY_TRG_TRL_LO", 0x110C, 1, 0x0, 1, 0x0, .warm, [fY 3 29 .rw 0x0]⟩,
  ⟨"KEY_TRG_TRL_HI", 0x1110, 1, 0x0, 1, 0x0, .warm, [fY 0 14 .rw 0x0]⟩,
  ⟨"KEY_TRG_COUNT", 0x1114, 1, 0x0, 1, 0x0, .warm, [fY 0 24 .rw 0x0]⟩,
  ⟨"KEY_TRG_CFG", 0x1118, 1, 0x0, 1, 0x0, .warm, [fY 0 8 .rw 0x0, fY 8 8 .rw 0x0, fY 16 1 .rw 0x0, fY 17 1 .rw 0x0]⟩,
  ⟨"KEY_TRG_STATUS", 0x111C, 1, 0x0, 1, 0x0, .warm, [fN 0 1 .ro 0x0, fN 1 3 .w1c 0x0, fN 8 9 .ro 0x0]⟩,
  ⟨"Tt_MEM_PORT_BUSY", 0x1020000, 4, 0x400000, 1, 0x0, .warm, [fN 0 32 .ro 0x0]⟩,
  ⟨"Tt_MEM_TILE_CHECK", 0x1020004, 4, 0x400000, 1, 0x0, .warm, [fN 0 32 .ro 0x0]⟩,
  ⟨"Wn_MEM_TILE_CHECK", 0x2008020, 16, 0x10000, 1, 0x0, .warm, [fN 0 32 .ro 0x0]⟩,
  ⟨"KEY_KV_PART", 0x1200, 1, 0x0, 1, 0x0, .warm, [fY 0 16 .rw 0x0, fY 16 16 .rw 0x0]⟩,
  ⟨"KEY_SLOT_SEL", 0x1204, 1, 0x0, 1, 0x0, .warm, [fN 0 3 .rw 0x0]⟩,
  ⟨"KEY_SLOT_RSV", 0x1208, 1, 0x0, 1, 0x0, .warm, [fY 0 13 .rw 0x0, fY 16 16 .rw 0x0]⟩,
  ⟨"KEY_SLOT_SHAPE", 0x120C, 1, 0x0, 1, 0x0, .warm, [fY 0 8 .rw 0x0, fY 8 6 .rw 0x0, fY 14 4 .rw 0x0, fY 18 1 .rw 0x0]⟩]

/-- Part 1 of the register table. -/
def regTable1 : List RegDesc := [
  ⟨"KEY_SLOT_POL0", 0x1210, 1, 0x0, 1, 0x0, .warm, [fY 0 11 .rw 0x10, fY 11 17 .rw 0x200]⟩,
  ⟨"KEY_SLOT_POL1", 0x1214, 1, 0x0, 1, 0x0, .warm, [fY 0 13 .rw 0x40, fY 13 9 .rw 0x0, fY 22 1 .rw 0x0, fY 23 9 .rw 0x4]⟩,
  ⟨"KEY_SLOT_FOOT", 0x1218, 1, 0x0, 1, 0x0, .warm, [fN 0 17 .ro 0x0]⟩,
  ⟨"KEY_SLOT_CFG", 0x121C, 1, 0x0, 1, 0x0, .warm, [fY 0 2 .wo 0x0]⟩,
  ⟨"KEY_SLOT_STATUS", 0x1220, 1, 0x0, 1, 0x0, .warm, [fN 0 1 .ro 0x0, fN 1 3 .w1c 0x0, fN 4 2 .ro 0x0, fN 16 16 .ro 0x0]⟩,
  ⟨"Wn_ATT_PAGES", 0x2008024, 16, 0x10000, 1, 0x0, .warm, [fN 0 32 .ro 0x0]⟩,
  ⟨"Wn_FOLD_TILES", 0x2008028, 16, 0x10000, 1, 0x0, .warm, [fN 0 32 .ro 0x0]⟩,
  ⟨"Wn_ATT_DEGRADED", 0x200802C, 16, 0x10000, 1, 0x0, .warm, [fN 0 32 .ro 0x0]⟩,
  ⟨"Wn_SLOT_LENs", 0x2008040, 16, 0x10000, 8, 0x4, .warm, [fN 0 23 .ro 0x0]⟩,
  ⟨"Tt_CU_STATUS", 0x1030000, 4, 0x400000, 1, 0x0, .warm, [fN 0 2 .ro 0x0, fN 2 1 .ro 0x0, fN 3 1 .ro 0x0, fN 4 1 .ro 0x0, fN 5 1 .ro 0x0, fN 6 1 .ro 0x0, fN 16 9 .ro 0x0]⟩,
  ⟨"Tt_CU_CTRL", 0x1030004, 4, 0x400000, 1, 0x0, .warm, [fY 0 1 .rw 0x0, fY 1 1 .rw 0x1, fY 2 1 .w1s 0x0]⟩,
  ⟨"Tt_CU_WLOAD_LO", 0x1030008, 4, 0x400000, 1, 0x0, .warm, [fY 6 26 .rw 0x0]⟩,
  ⟨"Tt_CU_WLOAD_HI", 0x103000C, 4, 0x400000, 1, 0x0, .warm, [fY 0 14 .rw 0x0]⟩,
  ⟨"Tt_CU_WLOAD_CTL", 0x1030010, 4, 0x400000, 1, 0x0, .warm, [fY 0 1 .wo 0x0, fN 1 1 .ro 0x0, fN 2 1 .ro 0x0, fN 3 3 .w1c 0x0]⟩,
  ⟨"Tt_CU_TAGS", 0x1030014, 4, 0x400000, 1, 0x0, .warm, [fN 0 16 .ro 0x0, fN 16 16 .ro 0x0]⟩,
  ⟨"Tt_CU_INVALID_VEC", 0x1030020, 4, 0x400000, 1, 0x0, .warm, [fN 0 32 .ro 0x0]⟩,
  ⟨"Tt_CU_FALLBACK_VEC", 0x1030024, 4, 0x400000, 1, 0x0, .warm, [fN 0 32 .ro 0x0]⟩,
  ⟨"Tt_CU_CLIP", 0x1030028, 4, 0x400000, 1, 0x0, .warm, [fN 0 32 .ro 0x0]⟩,
  ⟨"Tt_CU_FORCED", 0x103002C, 4, 0x400000, 1, 0x0, .warm, [fN 0 32 .ro 0x0]⟩,
  ⟨"BED_LASER_SEL", 0x2100000, 1, 0x0, 1, 0x0, .cold, [fN 0 1 .rw 0x0, fN 1 7 .rw 0x0]⟩,
  ⟨"BED_LASER_FADE", 0x2100004, 1, 0x0, 1, 0x0, .cold, [fN 0 16 .ro 0x0, fN 16 3 .ro 0x0, fN 19 7 .ro 0x0, fN 26 6 .ro 0x0]⟩,
  ⟨"BED_LASER_CTL", 0x2100008, 1, 0x0, 1, 0x0, .cold, [fY 0 1 .w1s 0x0, fN 1 1 .w1c 0x0]⟩,
  ⟨"BED_HANDOVER", 0x210000C, 1, 0x0, 1, 0x0, .cold, [fN 0 3 .ro 0x0, fN 3 6 .ro 0x0, fN 9 4 .ro 0x0, fN 13 2 .ro 0x0, fN 15 7 .ro 0x0]⟩,
  ⟨"BED_REF_STATUS", 0x2100010, 1, 0x0, 1, 0x0, .cold, [fN 0 1 .ro 0x0, fN 1 1 .ro 0x0, fN 2 1 .ro 0x0, fN 16 16 .ro 0x0]⟩,
  ⟨"BED_REGION_CTL", 0x2100014, 1, 0x0, 1, 0x0, .cold, [fY 0 1 .rw 0x1, fN 16 16 .ro 0x0]⟩,
  ⟨"BED_CAL_ADDR_LO", 0x2100020, 1, 0x0, 1, 0x0, .cold, [fY 6 26 .rw 0x0]⟩,
  ⟨"BED_CAL_ADDR_HI", 0x2100024, 1, 0x0, 1, 0x0, .cold, [fY 0 14 .rw 0x0]⟩,
  ⟨"BED_CAL_CTL", 0x2100028, 1, 0x0, 1, 0x0, .cold, [fY 0 2 .rw 0x0, fY 2 1 .wo 0x0, fN 3 1 .ro 0x0, fN 4 3 .w1c 0x0]⟩,
  ⟨"BED_RING_UNLOCKS", 0x2100030, 1, 0x0, 1, 0x0, .cold, [fN 0 32 .ro 0x0]⟩,
  ⟨"BED_HANDOVERS", 0x2100034, 1, 0x0, 1, 0x0, .cold, [fN 0 32 .ro 0x0]⟩]

/-- Part 2 of the register table. -/
def regTable2 : List RegDesc := [
  ⟨"BED_HANDOVER_ABANDONS", 0x2100038, 1, 0x0, 1, 0x0, .cold, [fN 0 32 .ro 0x0]⟩,
  ⟨"BED_LINES_FAILED", 0x210003C, 1, 0x0, 1, 0x0, .cold, [fN 0 32 .ro 0x0]⟩,
  ⟨"BED_LINK_SEL", 0x2100100, 1, 0x0, 1, 0x0, .warm, [fN 0 5 .rw 0x0, fN 8 5 .rw 0x0]⟩,
  ⟨"BED_LINK_STATUS", 0x2100104, 1, 0x0, 1, 0x0, .link, [fN 0 2 .ro 0x0, fN 2 1 .ro 0x0, fN 4 7 .ro 0x0, fN 11 7 .ro 0x0, fN 18 4 .ro 0x0, fN 22 4 .ro 0x0]⟩,
  ⟨"BED_LINK_CTL", 0x2100108, 1, 0x0, 1, 0x0, .link, [fY 0 1 .w1s 0x0]⟩,
  ⟨"BED_LANE_SEL", 0x2100140, 1, 0x0, 1, 0x0, .warm, [fN 0 12 .rw 0x0]⟩,
  ⟨"BED_LANE_STATUS", 0x2100144, 1, 0x0, 1, 0x0, .cold, [fN 0 3 .ro 0x5, fN 3 7 .ro 0x0, fN 10 3 .ro 0x0, fN 13 1 .ro 0x0]⟩,
  ⟨"BED_LANE_CTL", 0x2100148, 1, 0x0, 1, 0x0, .cold, [fY 0 1 .w1s 0x0, fY 1 1 .w1s 0x0]⟩,
  ⟨"BED_LINK_CORRECTED", 0x2100110, 1, 0x0, 1, 0x0, .cold, [fN 0 32 .ro 0x0]⟩,
  ⟨"BED_LINK_UNCORR", 0x2100114, 1, 0x0, 1, 0x0, .cold, [fN 0 32 .ro 0x0]⟩,
  ⟨"BED_LINK_REPLAYS", 0x2100118, 1, 0x0, 1, 0x0, .cold, [fN 0 32 .ro 0x0]⟩,
  ⟨"BED_LINK_RETRAINS", 0x210011C, 1, 0x0, 1, 0x0, .cold, [fN 0 32 .ro 0x0]⟩,
  ⟨"BED_LINK_CREDIT_TO", 0x2100120, 1, 0x0, 1, 0x0, .cold, [fN 0 32 .ro 0x0]⟩,
  ⟨"Sd_PORTp_STATE", 0x2200000, 2, 0x400000, 8, 0x10000, .link, [fN 0 3 .ro 0x0, fN 3 3 .ro 0x1, fN 6 2 .ro 0x0, fN 8 6 .ro 0x0, fN 14 2 .ro 0x0, fN 16 1 .ro 0x0, fN 17 1 .ro 0x0, fN 18 1 .ro 0x0, fN 19 1 .ro 0x0, fN 20 1 .ro 0x0]⟩,
  ⟨"Sd_PORTp_CTL", 0x2200004, 2, 0x400000, 8, 0x10000, .cold, [fY 0 1 .rw 0x0, fY 1 1 .w1s 0x0, fY 2 2 .rw 0x2, fY 4 6 .rw 0x2, fY 10 1 .rw 0x1, fY 11 10 .rw 0x5]⟩,
  ⟨"Sd_PORTp_TIMERS", 0x2200008, 2, 0x400000, 8, 0x10000, .cold, [fY 0 10 .rw 0xA, fY 10 14 .rw 0xC8, fY 24 8 .rw 0xA]⟩,
  ⟨"Sd_PORTp_CREDIT0", 0x220000C, 2, 0x400000, 8, 0x10000, .cold, [fY 0 13 .rw 0x100, fY 16 13 .rw 0x7C0]⟩,
  ⟨"Sd_PORTp_CREDIT1", 0x2200010, 2, 0x400000, 8, 0x10000, .cold, [fY 0 13 .rw 0x7C0, fY 16 13 .rw 0x7C0]⟩,
  ⟨"Sd_PORTp_BW", 0x2200014, 2, 0x400000, 8, 0x10000, .cold, [fY 0 20 .rw 0x0, fN 31 1 .ro 0x0]⟩,
  ⟨"Sd_PORTp_WINDOW", 0x2200018, 2, 0x400000, 8, 0x10000, .link, [fN 0 16 .ro 0x0, fN 16 16 .ro 0x0]⟩,
  ⟨"Sd_PORTp_PEER", 0x220001C, 2, 0x400000, 8, 0x10000, .link, [fN 0 8 .ro 0x0, fN 8 3 .ro 0x0, fN 11 1 .ro 0x0, fN 16 16 .ro 0x0]⟩,
  ⟨"Sd_PORTp_LANE_SEL", 0x2200020, 2, 0x400000, 8, 0x10000, .warm, [fN 0 6 .rw 0x0]⟩,
  ⟨"Sd_PORTp_LANE_STATUS", 0x2200024, 2, 0x400000, 8, 0x10000, .cold, [fN 0 3 .ro 0x5, fN 3 7 .ro 0x0, fN 10 3 .ro 0x0, fN 13 1 .ro 0x0]⟩,
  ⟨"Sd_PORTp_LANE_CTL", 0x2200028, 2, 0x400000, 8, 0x10000, .cold, [fY 0 1 .w1s 0x0, fY 1 1 .w1s 0x0]⟩,
  ⟨"Sd_PORTp_FAB", 0x2200030, 2, 0x400000, 8, 0x10000, .cold, [fY 0 1 .rw 0x0, fY 1 2 .rw 0x0]⟩,
  ⟨"Sd_PORTp_CORRECTED", 0x2200040, 2, 0x400000, 8, 0x10000, .cold, [fN 0 32 .ro 0x0]⟩,
  ⟨"Sd_PORTp_UNCORR", 0x2200044, 2, 0x400000, 8, 0x10000, .cold, [fN 0 32 .ro 0x0]⟩,
  ⟨"Sd_PORTp_REPLAYS", 0x2200048, 2, 0x400000, 8, 0x10000, .cold, [fN 0 32 .ro 0x0]⟩,
  ⟨"Sd_PORTp_RETRAINS", 0x220004C, 2, 0x400000, 8, 0x10000, .cold, [fN 0 32 .ro 0x0]⟩,
  ⟨"Sd_PORTp_CREDIT_TO", 0x2200050, 2, 0x400000, 8, 0x10000, .cold, [fN 0 32 .ro 0x0]⟩]

/-- Part 3 of the register table. -/
def regTable3 : List RegDesc := [
  ⟨"Sd_PORTp_CTL_ERR", 0x2200054, 2, 0x400000, 8, 0x10000, .cold, [fN 0 32 .ro 0x0]⟩,
  ⟨"Sd_PORTp_DUP_DROPS", 0x2200058, 2, 0x400000, 8, 0x10000, .cold, [fN 0 32 .ro 0x0]⟩,
  ⟨"Sd_PORTp_FLUSHED", 0x220005C, 2, 0x400000, 8, 0x10000, .cold, [fN 0 32 .ro 0x0]⟩,
  ⟨"Sd_PORTp_EB_FAULT", 0x2200060, 2, 0x400000, 8, 0x10000, .cold, [fN 0 32 .ro 0x0]⟩,
  ⟨"Sd_PORTp_DARK", 0x2200064, 2, 0x400000, 8, 0x10000, .cold, [fN 0 32 .ro 0x0]⟩,
  ⟨"Sd_SVC_STATUS", 0x2300000, 2, 0x400000, 1, 0x0, .cold, [fN 0 2 .ro 0x0, fN 2 1 .ro 0x0, fN 3 8 .ro 0x0, fN 11 2 .ro 0x0, fN 13 2 .ro 0x0]⟩,
  ⟨"Sd_SVC_CTL", 0x2300004, 2, 0x400000, 1, 0x0, .cold, [fY 0 1 .w1s 0x0, fY 1 1 .w1s 0x0]⟩,
  ⟨"Sd_LINK_MODE", 0x2300008, 2, 0x400000, 1, 0x0, .cold, [fN 0 1 .ro 0x0]⟩,
  ⟨"KEY_DEV_ID", 0x1300, 1, 0x0, 1, 0x0, .cold, [fY 0 18 .rw 0x0, fY 31 1 .rw 0x0]⟩,
  ⟨"KEY_RT_SEL", 0x1304, 1, 0x0, 1, 0x0, .warm, [fN 0 10 .rw 0x0, fN 10 1 .rw 0x0]⟩,
  ⟨"KEY_RT_ENTRY", 0x1308, 1, 0x0, 1, 0x0, .cold, [fY 0 16 .rw 0x0, fY 16 16 .rw 0x0]⟩,
  ⟨"KEY_RT_MODE", 0x130C, 1, 0x0, 1, 0x0, .cold, [fY 0 2 .rw 0x0, fY 2 2 .rw 0x0, fY 4 1 .rw 0x0, fY 5 1 .rw 0x0, fY 6 1 .ro 0x0, fY 7 1 .ro 0x0]⟩,
  ⟨"KEY_RT_STATUS", 0x1310, 1, 0x0, 1, 0x0, .warm, [fN 0 1 .ro 0x0, fN 1 3 .w1c 0x0]⟩,
  ⟨"KEY_FAB_CTL", 0x1314, 1, 0x0, 1, 0x0, .cold, [fY 0 1 .rw 0x0, fY 1 1 .rw 0x0, fY 2 1 .rw 0x0, fY 3 1 .wo 0x0, fY 4 1 .wo 0x0, fY 5 1 .wo 0x0, fY 6 1 .wo 0x0]⟩,
  ⟨"KEY_FAB_STATUS", 0x1318, 1, 0x0, 1, 0x0, .cold, [fN 0 1 .ro 0x0, fN 1 1 .ro 0x0, fN 2 1 .ro 0x0, fN 3 6 .ro 0x3F]⟩,
  ⟨"KEY_FAB_MGRi", 0x1340, 16, 0x4, 1, 0x0, .cold, [fN 0 32 .ro 0x0]⟩,
  ⟨"Sd_TRK_CTL", 0x2300010, 2, 0x400000, 1, 0x0, .cold, [fY 0 14 .rw 0xC8]⟩,
  ⟨"Sd_TRK_STATUS", 0x2300014, 2, 0x400000, 1, 0x0, .warm, [fN 0 21 .ro 0x0]⟩,
  ⟨"Sd_PIER_STATUS", 0x2300018, 2, 0x400000, 1, 0x0, .warm, [fN 0 1 .ro 0x0, fN 1 1 .ro 0x0, fN 2 2 .ro 0x0, fN 4 1 .ro 0x0, fN 5 1 .ro 0x0]⟩,
  ⟨"Sd_FAB_LATE_RSP", 0x2300020, 2, 0x400000, 1, 0x0, .cold, [fN 0 32 .ro 0x0]⟩,
  ⟨"Sd_FAB_REISSUES", 0x2300024, 2, 0x400000, 1, 0x0, .cold, [fN 0 32 .ro 0x0]⟩,
  ⟨"Sd_FAB_UNKNOWN", 0x2300028, 2, 0x400000, 1, 0x0, .cold, [fN 0 32 .ro 0x0]⟩,
  ⟨"Sd_FAB_DUPS", 0x230002C, 2, 0x400000, 1, 0x0, .cold, [fN 0 32 .ro 0x0]⟩,
  ⟨"Sd_FAB_DEDUPE_FULL", 0x2300030, 2, 0x400000, 1, 0x0, .cold, [fN 0 32 .ro 0x0]⟩,
  ⟨"Sd_FAB_NOROUTE", 0x2300034, 2, 0x400000, 1, 0x0, .cold, [fN 0 32 .ro 0x0]⟩,
  ⟨"Sd_FAB_HOPS", 0x2300038, 2, 0x400000, 1, 0x0, .cold, [fN 0 32 .ro 0x0]⟩,
  ⟨"Sd_FAB_TAKEOVERS", 0x230003C, 2, 0x400000, 1, 0x0, .cold, [fN 0 32 .ro 0x0]⟩,
  ⟨"HQ_Q_SEL", 0x100000, 1, 0x0, 1, 0x0, .flr, [fN 0 8 .rw 0x0]⟩,
  ⟨"HQ_SQ_BASE_LO", 0x100004, 1, 0x0, 1, 0x0, .flr, [fY 12 20 .rw 0x0]⟩,
  ⟨"HQ_SQ_BASE_HI", 0x100008, 1, 0x0, 1, 0x0, .flr, [fY 0 32 .rw 0x0]⟩]

/-- Part 4 of the register table. -/
def regTable4 : List RegDesc := [
  ⟨"HQ_SQ_CFG", 0x10000C, 1, 0x0, 1, 0x0, .flr, [fY 0 5 .rw 0x0, fY 5 8 .rw 0x0, fY 13 2 .rw 0x0, fY 15 1 .rw 0x0]⟩,
  ⟨"HQ_CQ_BASE_LO", 0x100010, 1, 0x0, 1, 0x0, .flr, [fY 12 20 .rw 0x0]⟩,
  ⟨"HQ_CQ_BASE_HI", 0x100014, 1, 0x0, 1, 0x0, .flr, [fY 0 32 .rw 0x0]⟩,
  ⟨"HQ_CQ_CFG", 0x100018, 1, 0x0, 1, 0x0, .flr, [fY 0 5 .rw 0x0, fY 5 1 .rw 0x0, fY 6 1 .rw 0x0, fY 7 11 .rw 0x0, fY 18 8 .rw 0x0, fY 26 6 .rw 0x0]⟩,
  ⟨"HQ_Q_STATUS", 0x10001C, 1, 0x0, 1, 0x0, .flr, [fN 0 3 .ro 0x0, fN 3 2 .ro 0x0, fN 5 1 .ro 0x0]⟩,
  ⟨"HQ_Q_POS", 0x100020, 1, 0x0, 1, 0x0, .flr, [fN 0 16 .ro 0x0, fN 16 16 .ro 0x0]⟩,
  ⟨"HQ_BAR4_WIN", 0x100024, 1, 0x0, 1, 0x0, .warm, [fY 0 16 .rw 0x0, fN 16 5 .ro 0x24]⟩,
  ⟨"HQ_DEV_STATUS", 0x100028, 1, 0x0, 1, 0x0, .warm, [fN 0 2 .ro 0x0, fN 2 1 .w1c 0x0, fN 3 1 .w1c 0x0, fN 4 1 .w1c 0x0]⟩,
  ⟨"HQ_MBOXm_STATUS", 0x108000, 1024, 0x10, 1, 0x0, .flr, [fN 0 8 .ro 0xFF, fN 8 8 .ro 0x0, fN 16 16 .ro 0x0]⟩,
  ⟨"HQ_MBOXm_DATA_LO", 0x108004, 1024, 0x10, 1, 0x0, .flr, [fN 0 32 .ro 0x0]⟩,
  ⟨"HQ_MBOXm_DATA_HI", 0x108008, 1024, 0x10, 1, 0x0, .flr, [fN 0 32 .ro 0x0]⟩,
  ⟨"NRG_POWER_CAP", 0x200000, 1, 0x0, 1, 0x0, .cold, [fY 0 12 .rw 0xE10]⟩,
  ⟨"NRG_BURST", 0x200004, 1, 0x0, 1, 0x0, .cold, [fY 0 13 .rw 0x3E8]⟩,
  ⟨"NRG_RAMP", 0x200008, 1, 0x0, 1, 0x0, .cold, [fY 0 7 .rw 0x28, fY 7 1 .rw 0x1, fY 8 8 .rw 0x8]⟩,
  ⟨"NRG_STATUS", 0x20000C, 1, 0x0, 1, 0x0, .warm, [fN 0 13 .ro 0x0, fN 13 12 .ro 0x0, fN 25 3 .w1c 0x0, fN 28 1 .ro 0x0]⟩,
  ⟨"NRG_LEDGER_SEL", 0x200010, 1, 0x0, 1, 0x0, .warm, [fN 0 6 .rw 0x0, fN 6 1 .rw 0x0]⟩,
  ⟨"NRG_LEDGER_DATA", 0x200014, 1, 0x0, 1, 0x0, .warm, [fN 0 32 .ro 0x0]⟩,
  ⟨"NRG_CORR_SEL", 0x200018, 1, 0x0, 1, 0x0, .cold, [fN 0 3 .rw 0x0, fN 3 2 .rw 0x0]⟩,
  ⟨"NRG_CORR_DATA", 0x20001C, 1, 0x0, 1, 0x0, .cold, [fY 0 16 .rw 0x0, fN 16 1 .ro 0x0]⟩,
  ⟨"NRG_MEAS_SEL", 0x200020, 1, 0x0, 1, 0x0, .warm, [fN 0 4 .rw 0x0]⟩,
  ⟨"NRG_MEAS_DATA", 0x200024, 1, 0x0, 1, 0x0, .warm, [fN 0 16 .ro 0x0, fN 16 16 .ro 0x0]⟩,
  ⟨"NRG_PSTATE", 0x200030, 1, 0x0, 1, 0x0, .cold, [fY 0 2 .rw 0x0, fN 2 2 .ro 0x0, fY 4 1 .rw 0x1, fN 5 1 .ro 0x0, fN 6 1 .w1c 0x0]⟩,
  ⟨"NRG_DVFSt", 0x200040, 4, 0x4, 1, 0x0, .cold, [fY 0 4 .rw 0x8, fN 8 4 .ro 0x8, fN 12 1 .ro 0x0]⟩,
  ⟨"NRG_THERM_CFG", 0x200050, 1, 0x0, 1, 0x0, .cold, [fY 0 7 .rw 0x5F, fN 7 8 .ro 0x55, fN 15 8 .ro 0x76]⟩,
  ⟨"NRG_THROTTLEt", 0x200054, 4, 0x4, 1, 0x0, .warm, [fN 0 11 .ro 0x400, fN 11 1 .ro 0x0, fN 12 1 .ro 0x0, fN 13 1 .ro 0x0, fN 14 8 .ro 0x0, fN 22 9 .ro 0x0]⟩,
  ⟨"NRG_THROTTLE_PKG", 0x200064, 1, 0x0, 1, 0x0, .warm, [fN 0 11 .ro 0x400, fN 11 1 .ro 0x0, fN 12 1 .ro 0x0, fN 13 1 .ro 0x0, fN 14 8 .ro 0x0, fN 22 9 .ro 0x0]⟩,
  ⟨"NRG_SENSOR_SEL", 0x200070, 1, 0x0, 1, 0x0, .cold, [fN 0 9 .rw 0x0]⟩,
  ⟨"NRG_SENSOR_DATA", 0x200074, 1, 0x0, 1, 0x0, .cold, [fN 0 13 .ro 0x0, fN 13 2 .ro 0x0, fN 15 2 .ro 0x0]⟩,
  ⟨"NRG_TICK_LO", 0x200080, 1, 0x0, 1, 0x0, .none, [fN 0 32 .ro 0x0]⟩,
  ⟨"NRG_TICK_HI", 0x200084, 1, 0x0, 1, 0x0, .none, [fN 0 16 .ro 0x0]⟩]

/-- Part 5 of the register table. -/
def regTable5 : List RegDesc := [
  ⟨"NRG_BOOT_COUNT", 0x200088, 1, 0x0, 1, 0x0, .cold, [fN 0 32 .ro 0x0]⟩,
  ⟨"NRG_DEFER_EVENTS", 0x200090, 1, 0x0, 1, 0x0, .warm, [fN 0 32 .ro 0x0]⟩,
  ⟨"NRG_RAMP_HOLDS", 0x200094, 1, 0x0, 1, 0x0, .warm, [fN 0 32 .ro 0x0]⟩,
  ⟨"NRG_THROTTLE_MS", 0x200098, 1, 0x0, 1, 0x0, .warm, [fN 0 32 .ro 0x0]⟩,
  ⟨"NRG_SENSORS_BROKEN", 0x20009C, 1, 0x0, 1, 0x0, .warm, [fN 0 32 .ro 0x0]⟩,
  ⟨"NRG_FILL_US", 0x2000A0, 1, 0x0, 1, 0x0, .warm, [fN 0 32 .ro 0x0]⟩,
  ⟨"NRG_ASLEEP_ACCESS", 0x2000A4, 1, 0x0, 1, 0x0, .warm, [fN 0 32 .ro 0x0]⟩,
  ⟨"SEC_LIFECYCLE", 0x300000, 1, 0x0, 1, 0x0, .cold, [fN 0 3 .ro 0x0, fN 3 1 .ro 0x0]⟩,
  ⟨"SEC_DEBUG", 0x300004, 1, 0x0, 1, 0x0, .cold, [fN 0 2 .ro 0x0, fN 2 1 .ro 0x0, fN 3 8 .ro 0x0, fN 11 16 .ro 0x0]⟩,
  ⟨"SEC_AUTH_CTL", 0x300008, 1, 0x0, 1, 0x0, .warm, [fN 0 1 .w1s 0x0, fY 1 1 .w1s 0x0, fY 2 1 .w1s 0x0, fN 3 1 .ro 0x0, fN 4 3 .w1c 0x0]⟩,
  ⟨"SEC_AUTH_ADDR_LO", 0x30000C, 1, 0x0, 1, 0x0, .warm, [fN 6 26 .rw 0x0]⟩,
  ⟨"SEC_AUTH_ADDR_HI", 0x300010, 1, 0x0, 1, 0x0, .warm, [fN 0 14 .rw 0x0]⟩,
  ⟨"SEC_AUTH_NONCEi", 0x300020, 8, 0x4, 1, 0x0, .warm, [fN 0 32 .ro 0x0]⟩,
  ⟨"SEC_BOOT_STATUS", 0x300040, 1, 0x0, 1, 0x0, .cold, [fN 0 2 .ro 0x0, fN 2 1 .ro 0x0, fN 3 4 .ro 0x0, fN 7 4 .ro 0x0]⟩,
  ⟨"SEC_FW_ADDR_LO", 0x300044, 1, 0x0, 1, 0x0, .cold, [fY 0 32 .rw 0x0]⟩,
  ⟨"SEC_FW_ADDR_HI", 0x300048, 1, 0x0, 1, 0x0, .cold, [fY 0 32 .rw 0x0]⟩,
  ⟨"SEC_SVNc", 0x300050, 4, 0x4, 1, 0x0, .cold, [fN 0 16 .ro 0x0, fN 16 7 .ro 0x0, fY 31 1 .w1s 0x0]⟩,
  ⟨"SEC_ATTEST_ADDR_LO", 0x300060, 1, 0x0, 1, 0x0, .warm, [fN 6 26 .rw 0x0]⟩,
  ⟨"SEC_ATTEST_ADDR_HI", 0x300064, 1, 0x0, 1, 0x0, .warm, [fN 0 14 .rw 0x0]⟩,
  ⟨"SEC_ATTEST_CTL", 0x300068, 1, 0x0, 1, 0x0, .warm, [fN 0 1 .wo 0x0, fN 1 1 .rw 0x0, fN 2 1 .ro 0x0, fN 3 2 .w1c 0x0]⟩,
  ⟨"SEC_MEASr_w", 0x300100, 32, 0x40, 16, 0x4, .cold, [fN 0 32 .ro 0x0]⟩,
  ⟨"SEC_ID_DIGESTi", 0x300900, 16, 0x4, 1, 0x0, .cold, [fN 0 32 .ro 0x0]⟩,
  ⟨"SEC_SERIAL_LO", 0x300940, 1, 0x0, 1, 0x0, .cold, [fN 0 32 .ro 0x0]⟩,
  ⟨"SEC_SERIAL_HI", 0x300944, 1, 0x0, 1, 0x0, .cold, [fN 0 32 .ro 0x0]⟩,
  ⟨"SEC_EXTENDi", 0x300A00, 16, 0x4, 1, 0x0, .warm, [fN 0 32 .rw 0x0]⟩,
  ⟨"SEC_EXTEND_CTL", 0x300A40, 1, 0x0, 1, 0x0, .warm, [fY 0 5 .rw 0x10, fY 5 1 .wo 0x0]⟩,
  ⟨"LOG_NEXT_LO", 0x400000, 1, 0x0, 1, 0x0, .cold, [fN 0 32 .ro 0x0]⟩,
  ⟨"LOG_NEXT_HI", 0x400004, 1, 0x0, 1, 0x0, .cold, [fN 0 32 .ro 0x0]⟩,
  ⟨"LOG_ACK_LO", 0x400008, 1, 0x0, 1, 0x0, .cold, [fN 0 32 .rw 0x0]⟩,
  ⟨"LOG_ACK_HI", 0x40000C, 1, 0x0, 1, 0x0, .cold, [fN 0 32 .rw 0x0]⟩]

/-- Part 6 of the register table. -/
def regTable6 : List RegDesc := [
  ⟨"LOG_STATUS", 0x400010, 1, 0x0, 1, 0x0, .cold, [fN 0 18 .ro 0x0, fN 18 1 .ro 0x0]⟩,
  ⟨"LOG_REFUSAL", 0x400014, 1, 0x0, 1, 0x0, .cold, [fN 0 26 .ro 0x0, fN 26 3 .ro 0x0]⟩,
  ⟨"LOG_REFUSED", 0x400018, 1, 0x0, 1, 0x0, .cold, [fN 0 32 .ro 0x0]⟩,
  ⟨"LOG_UNLOGGED", 0x40001C, 1, 0x0, 1, 0x0, .cold, [fN 0 32 .ro 0x0]⟩,
  ⟨"LOG_RD_LO", 0x400020, 1, 0x0, 1, 0x0, .cold, [fN 0 32 .rw 0x0]⟩,
  ⟨"LOG_RD_HI", 0x400024, 1, 0x0, 1, 0x0, .cold, [fN 0 32 .rw 0x0]⟩,
  ⟨"LOG_RD_DATAi", 0x400040, 16, 0x4, 1, 0x0, .cold, [fN 0 32 .ro 0x0]⟩,
  ⟨"LOG_NOTEi", 0x400080, 6, 0x4, 1, 0x0, .cold, [fN 0 32 .rw 0x0]⟩,
  ⟨"LOG_NOTE_CTL", 0x400098, 1, 0x0, 1, 0x0, .cold, [fY 0 1 .wo 0x0]⟩,
  ⟨"KEY_PST_STATUS", 0x1400, 1, 0x0, 1, 0x0, .cold, [fN 0 1 .ro 0x0, fN 1 1 .ro 0x0, fN 2 1 .ro 0x0, fN 3 11 .ro 0x0, fN 14 1 .ro 0x0, fN 15 1 .ro 0x0, fN 16 1 .ro 0x0, fN 17 1 .ro 0x0, fN 18 1 .ro 0x0]⟩,
  ⟨"KEY_PST_CTL", 0x1404, 1, 0x0, 1, 0x0, .cold, [fY 0 1 .w1s 0x0, fY 1 1 .w1s 0x0, fY 2 1 .w1s 0x0]⟩,
  ⟨"KEY_PST_SCAN", 0x1408, 1, 0x0, 1, 0x0, .cold, [fN 0 8 .ro 0x0, fN 8 8 .ro 0x0, fN 16 10 .ro 0x0, fN 26 1 .ro 0x0]⟩,
  ⟨"KEY_PST_LIFE_SEL", 0x140C, 1, 0x0, 1, 0x0, .cold, [fN 0 8 .rw 0x0]⟩,
  ⟨"KEY_PST_LIFE_LO", 0x1410, 1, 0x0, 1, 0x0, .cold, [fN 0 32 .ro 0x0]⟩,
  ⟨"KEY_PST_LIFE_HI", 0x1414, 1, 0x0, 1, 0x0, .cold, [fN 0 32 .ro 0x0]⟩,
  ⟨"KEY_PST_HS_ADDR_LO", 0x1418, 1, 0x0, 1, 0x0, .warm, [fN 6 26 .rw 0x0]⟩,
  ⟨"KEY_PST_HS_ADDR_HI", 0x141C, 1, 0x0, 1, 0x0, .warm, [fN 0 14 .rw 0x0]⟩,
  ⟨"KEY_PST_HS_CTL", 0x1420, 1, 0x0, 1, 0x0, .warm, [fN 0 3 .rw 0x0, fN 3 1 .rw 0x0, fY 4 1 .wo 0x0, fN 5 1 .ro 0x0, fN 6 17 .rw 0x0, fN 23 3 .w1c 0x0]⟩,
  ⟨"KEY_READY", 0x1500, 1, 0x0, 1, 0x0, .cold, [fN 0 1 .ro 0x0, fN 1 1 .ro 0x0, fN 2 4 .ro 0x0, fN 6 1 .ro 0x0, fN 7 2 .ro 0x0, fN 9 4 .ro 0x0, fN 13 1 .ro 0x0, fN 14 1 .ro 0x0, fN 15 1 .ro 0x0, fN 16 4 .ro 0x0, fN 20 1 .ro 0x0, fN 21 1 .ro 0x0, fN 22 2 .ro 0x0, fN 24 1 .ro 0x0, fN 25 1 .ro 0x0, fN 31 1 .ro 0x0]⟩,
  ⟨"KEY_READY_MS", 0x1504, 1, 0x0, 1, 0x0, .cold, [fN 0 16 .ro 0xFFFF, fN 16 16 .ro 0xFFFF]⟩,
  ⟨"KEY_RESET_CTL", 0x1508, 1, 0x0, 1, 0x0, .cold, [fY 0 3 .wo 0x0, fY 3 5 .wo 0x0, fY 8 5 .wo 0x0, fY 13 4 .wo 0x0, fN 24 8 .wo 0x0]⟩,
  ⟨"KEY_RESET_STATUS", 0x1510, 1, 0x0, 1, 0x0, .cold, [fN 0 22 .ro 0x0, fN 22 1 .ro 0x0, fN 23 3 .w1c 0x0, fN 26 3 .ro 0x0]⟩,
  ⟨"KEY_ERR_SEL", 0x1600, 1, 0x0, 1, 0x0, .warm, [fN 0 2 .rw 0x0]⟩,
  ⟨"KEY_ERR_FIFO_CFG", 0x1604, 1, 0x0, 1, 0x0, .warm, [fY 0 11 .rw 0x0, fY 11 1 .rw 0x1, fY 12 10 .rw 0x1]⟩,
  ⟨"KEY_ERR_FIFO_STATUS", 0x1608, 1, 0x0, 1, 0x0, .warm, [fN 0 11 .ro 0x0, fN 16 16 .ro 0x0]⟩,
  ⟨"KEY_ERR_POP", 0x160C, 1, 0x0, 1, 0x0, .warm, [fN 0 32 .wo 0x0]⟩,
  ⟨"KEY_ERR_RECi", 0x1640, 16, 0x4, 1, 0x0, .warm, [fN 0 32 .ro 0x0]⟩,
  ⟨"KEY_TEST_CTL", 0x1680, 1, 0x0, 1, 0x0, .cold, [fY 0 1 .rw 0x1, fY 1 8 .rw 0x18]⟩,
  ⟨"KEY_MARCH_CTL", 0x1684, 1, 0x0, 1, 0x0, .warm, [fY 0 3 .rw 0x0, fY 3 1 .rw 0x0, fY 4 1 .wo 0x0, fN 5 1 .ro 0x0, fN 6 2 .w1c 0x0, fN 8 8 .ro 0x0]⟩,
  ⟨"KEY_REPAIR_STATUS", 0x1688, 1, 0x0, 1, 0x0, .cold, [fN 0 16 .ro 0x0, fN 16 8 .ro 0x0, fN 24 1 .ro 0x0]⟩]

/-- The whole register map. -/
def regTable : List RegDesc :=
  regTable0 ++ regTable1 ++ regTable2 ++ regTable3 ++ regTable4 ++ regTable5 ++ regTable6

/-- Does offset `off` name instance (i, j) of `d`, for some i and j? -/
def RegDesc.covers (d : RegDesc) (off : Nat) : Bool :=
  d.base ≤ off && off ≤ d.base + (d.n1 - 1) * d.s1 + (d.n2 - 1) * d.s2 && (List.range d.n1).any fun i => d.base + i * d.s1 ≤ off &&
    (off - (d.base + i * d.s1) == 0 ||
      (d.s2 != 0 && (off - (d.base + i * d.s1)) % d.s2 == 0 && (off - (d.base + i * d.s1)) / d.s2 < d.n2))

/-- The register at a BAR0 offset; none at a reserved offset (R11). -/
def regAt (off : Nat) : Option RegDesc := regTable.find? (·.covers off)

/-- The bits of a field. -/
def Fld.mask (f : Fld) : Word := BitVec.ofNat 32 ((2 ^ f.width - 1) * 2 ^ f.lo)

/-- The bits of a register that belong to some field; all others are reserved (R11). -/
def RegDesc.mask (d : RegDesc) : Word := d.flds.foldl (fun m f => m ||| f.mask) 0

/-- The bits of a register's logged fields (R12). -/
def RegDesc.logMask (d : RegDesc) : Word := (d.flds.filter (·.log)).foldl (fun m f => m ||| f.mask) 0

/-- A register's reset value: each field's own (R12). -/
def RegDesc.rst (d : RegDesc) : Word := BitVec.ofNat 32 (d.flds.foldl (fun m f => m + f.rst * 2 ^ f.lo) 0)

/-- The reset value of the register at an offset; zero at a reserved offset (R11). -/
def regReset (off : Nat) : Word := match regAt off with
  | some d => d.rst
  | none => 0

end Sys2Proof.Machine
end

