-- ==== Sys2Proof/Machine/Tab.lean ====
section
/-! DEFINITION. Sparse tables: plain data in one canonical form, a list of (key, value) pairs with keys strictly rising
and no entry equal to the table's default, so that equal tables are equal lists. Memory, register files, token
tables and every other large array of the device are held in this form. -/

namespace Sys2Proof.Machine

/-- A sparse table: keys strictly rising, no entry equal to the default. -/
abbrev Tab (α : Type) := List (Nat × α)

/-- The value at a key; the default `d` where the table lists none. -/
def tget {α : Type} (d : α) : Tab α → Nat → α
  | [], _ => d
  | (k, v) :: t, i => if i = k then v else tget d t i

/-- Put a pair in its place, replacing an entry of the same key. -/
def tput {α : Type} : Tab α → Nat → α → Tab α
  | [], i, x => [(i, x)]
  | (k, v) :: t, i, x =>
    if i < k then (i, x) :: (k, v) :: t else if i = k then (i, x) :: t else (k, v) :: tput t i x

/-- Remove a key's entry. -/
def tdel {α : Type} : Tab α → Nat → Tab α
  | [], _ => []
  | (k, v) :: t, i => if i = k then tdel t i else (k, v) :: tdel t i

/-- Set a key's value, keeping the canonical form: writing the default removes the entry. (DESIGN CHOICE, log 4) -/
def tset {α : Type} [DecidableEq α] (d : α) (t : Tab α) (i : Nat) (x : α) : Tab α :=
  if x = d then tdel t i else tput t i x

/-- Apply a function to a key's value. -/
def tmod {α : Type} [DecidableEq α] (d : α) (t : Tab α) (i : Nat) (f : α → α) : Tab α :=
  tset d t i (f (tget d t i))

/-- The entries of consecutive keys from `lo` on, the default left out. -/
def tlist {α : Type} [DecidableEq α] (d : α) : Nat → List α → Tab α
  | _, [] => []
  | lo, x :: xs => if x = d then tlist d (lo + 1) xs else (lo, x) :: tlist d (lo + 1) xs

/-- Set consecutive keys from `lo` on to the values of a list, keeping the canonical form. -/
def tfill {α : Type} [DecidableEq α] (d : α) (t : Tab α) (lo : Nat) (xs : List α) : Tab α :=
  t.filter (fun kv => decide (kv.1 < lo)) ++ tlist d lo xs ++ t.filter (fun kv => decide (lo + xs.length ≤ kv.1))

/-- The canonical form above a bound: every key above it, keys strictly rising, no default listed. -/
def twfFrom {α : Type} [DecidableEq α] (d : α) : Option Nat → Tab α → Bool
  | _, [] => true
  | lb, (k, v) :: t =>
    (match lb with | some b => decide (b < k) | none => true) && decide (v ≠ d) && twfFrom d (some k) t

/-- The canonical form of a table. (DESIGN CHOICE, log 4) -/
def twf {α : Type} [DecidableEq α] (d : α) (t : Tab α) : Bool := twfFrom d none t

/-- The entries whose keys satisfy `p`. -/
def tfilter {α : Type} (p : Nat → Bool) (t : Tab α) : Tab α := t.filter fun kv => p kv.1

end Sys2Proof.Machine
end

