-- ==== Sys2Proof/Machine/State.lean ====
section
/-! DEFINITION. The state of the device, all of it as plain data: the registers of BAR0, the memories, the reaches with
their queues, tokens and pools, the cells, and the state each unit keeps; the faults and refusals a step may end in; and the
state right after reset. -/

namespace Sys2Proof.Machine

/-- Faults: the device has none in this model. Every fault of the spec is an effect on the state (a status, an error
record, a trap), so `exec` raises none; the one constructor names the condition that could only come from a queue entry
that no command of the spec spells. Safe: nothing is proved of a state that does not follow. -/
inductive Fault where
  /-- Raised by no meaning. Safe. -/
  | unreachable
deriving DecidableEq, Repr

/-- Refusals. -/
inductive Refusal where
  /-- Raised by an arm of the dispatch whose meaning is not written; the argument is the row's mnemonic. Safe. -/
  | notModelled (mnemonic : String)
deriving DecidableEq, Repr

/-- What is fused or strapped in the part. (DESIGN CHOICE, log 3) -/
structure Fuses where
  /-- HBM dies per stack, 16 or 12 (R1, R3). -/
  stackHeight : Nat
  /-- Silicon stepping (R3). -/
  stepping : Nat
  /-- Fuse anti-rollback counters of the four image classes (R554). -/
  svn : List Nat
  /-- The lifecycle in one-way fuses: 0 BLANK, 1 PROVISIONED, 3 RETURNED, 4 SCRAPPED (R562; OWNED is PROVISIONED with an owner record). -/
  lifecycle : Nat
  /-- FABRIC_SCALE as strapped (R367): true where small. -/
  smallFabric : Bool
deriving DecidableEq, Repr

/-! ### Memory and tiled regions -/

/-- The memories of the device address space (R162): bytes that differ from zero, and the protection units that hold an
uncorrectable error (R168), by the unit's first address. -/
structure Mem where
  bytes : Tab Byte
  bad : Tab Bool
deriving DecidableEq, Repr

/-- A tiled region (R174). -/
structure Region where
  valid : Bool
  base : Nat
  trl : Nat
  count : Nat
  slotUnits : Nat
  sealFmt : Nat
deriving DecidableEq, Repr

/-- An entry that no commit has made valid. -/
def Region.none : Region := { valid := false, base := 0, trl := 0, count := 0, slotUnits := 0, sealFmt := 0 }

/-- A commit under way (R198): the entry, the region, whether trailers are initialised. -/
structure TrgCommit where
  entry : Nat
  region : Region
  init : Bool
deriving DecidableEq, Repr

/-! ### Reaches -/

/-- What a child's command carries beside its bytes when it is the whole share of a split (R65, R67): the units of the share,
the descriptor that splits it further, and the stride for the default BLOCK. -/
structure Share where
  n : Nat
  next : Nat
  stride : Nat
deriving DecidableEq, Repr

/-- A reach command that waits in a queue (R48): its identity, its sender, its 64 bytes (R54), the share it splits. -/
structure QCmd where
  id : Nat
  iss : Issuer
  bytes : List Byte
  share : Option Share
  /-- The charge at which a waiting declaration stands was counted in NRG_DEFER_EVENTS already (R537). -/
  deferred : Bool
  rampHeld : Bool
deriving DecidableEq, Repr

/-- A reach command that runs (R60): it has started; `done` is its status once its effect is over; `left` counts the child
commands not yet complete (R67), `fail` is the first failure a child reported; `data` is what its completion carries (the
STATUS word of a RUN at level 0, R134). -/
structure RCmd where
  id : Nat
  iss : Issuer
  bytes : List Byte
  share : Option Share
  acted : Bool
  done : Option Nat
  left : Nat
  fail : Nat
  data : Nat
  /-- Its header signal was sent. -/
  sent : Bool
deriving DecidableEq, Repr

/-- A reach (R48 to R52): its queue, the commands held at senders, the running commands, the token table, the pools, and
what the last start evaluation found (R83). -/
structure Reach where
  queue : List QCmd
  held : List QCmd
  running : List RCmd
  tokens : Tab Word
  poolCnt : Tab Word
  poolCap : Tab Word
  blockWait : Bool
  blockCredit : Bool
  defer : Bool
deriving DecidableEq, Repr

/-- A reach with nothing in it (R53). -/
def Reach.empty : Reach :=
  { queue := [], held := [], running := [], tokens := [], poolCnt := [], poolCap := [], blockWait := false,
    blockCredit := false, defer := false }

/-- The state of a placement entry (R72). -/
inductive PlcState where
  | free | placed | draining | fencing
deriving DecidableEq, Repr

/-- A placement entry (R72): the item's current reach and device, its epoch, its state, the destination devices, whether this
device is the home; and, at the home, the operation under way: the command that runs it, the copies not yet acknowledged,
the copies that acknowledged, the worst status of a copy, and the migration's new placement. -/
structure Plc where
  state : PlcState
  reach : Nat
  device : Nat
  epoch : Nat
  placedEver : Bool
  dests : List Nat
  home : Bool
  cmd : Option Nat
  releasing : Bool
  waiting : List Nat
  acked : List Nat
  copyFail : Nat
  newReach : Nat
  newDevice : Nat
  oldReach : Nat
  reportDA : Nat
  /-- The device of the old placement, and whether the item was migrated since it was placed: what still arrives at the old placement goes
  on to the new one (R76). -/
  oldDevice : Nat
  oldEpoch : Nat
  moved : Bool
  /-- A FENCE waits for cells of the old placement to come to an instruction boundary (R78, R129). -/
  settling : Bool
  /-- The old placement wrote its fence report (R79). -/
  reported : Bool
  /-- DELIVERING units whose RUN ended, and whether an operation of theirs was lost (R80). -/
  ended : List (Nat × Bool)
  /-- The device of the home, where this entry is a copy (R72). -/
  homeDev : Nat
  /-- The fence report's units (R79): work unit and status. -/
  report : List (Nat × Nat)
  /-- Commands held at the new placement until it is released (R76). -/
  held : List QCmd
deriving DecidableEq, Repr

/-- A placement entry after reset (R72). -/
def Plc.empty : Plc :=
  { state := .free, reach := 0, device := 0, epoch := 0, placedEver := false, dests := [], home := false, cmd := none,
    releasing := false, waiting := [], acked := [], copyFail := 0, newReach := 0, newDevice := 0, oldReach := 0,
    reportDA := 0, oldDevice := 0, oldEpoch := 0, moved := false, settling := false, reported := false, ended := [], homeDev := 0, report := [], held := [] }

/-! ### Cells -/

/-- A tile descriptor as an instruction read it at issue (R104, R105), its base offset by the s register named, with the tiled
regions as they stood when the instruction issued (R175). -/
structure TDesc where
  trg : Tab Region
  /-- The descriptor's own base is a multiple of 64 (R105). -/
  baseOk : Bool
  base : Nat
  stride : Nat
  fmt : Nat
  transposed : Bool
  scaleValid : Bool
  scale : Word
deriving DecidableEq, Repr

/-- An entry of a cell's tensor queue (R125), with the operands read at issue (R105). -/
inductive TEntry where
  | mma (acc : Nat) (zeroFirst scaled : Bool) (a b : TDesc) (steps : Nat)
  | accz (acc : Nat)
  | accld (acc : Nat) (d : TDesc)
  | accst (acc : Nat) (d : TDesc) (rnd : Nat) (epoch : Nat)
deriving DecidableEq, Repr

/-- What an asynchronous instruction is (R126). -/
inductive AKind where
  | move | oproj | wq | bound
deriving DecidableEq, Repr

/-- The completion signal of an asynchronous instruction (R116): where it goes, the counter, the increment (0: none). -/
structure Sig where
  reach : Nat
  remote : Bool
  device : Nat
  token : Nat
  inc : Nat
deriving DecidableEq, Repr

/-- An outstanding asynchronous instruction of a cell (R126): `left` counts the units that have still to complete (16 for a
broadcast WQ, R121); `status` is the worst completion so far; `opcode` is what FAULT records (R132). -/
structure AOp where
  id : Nat
  kind : AKind
  sig : Sig
  left : Nat
  status : Nat
  opcode : Nat
deriving DecidableEq, Repr

/-- What a blocked cell waits for (R118). -/
inductive CBlock where
  | wait (token : Nat) (thr : Nat) (consume : Bool) (dst : Nat) (timeout : Nat)
  | take (pool : Nat) (units : Nat)
  | est (cls : Nat) (nj : Nat) (rampHeld : Bool)
  | fence (tensorOnly : Bool)
  | atomic (rd : Nat) (opcode : Nat)
deriving DecidableEq, Repr

/-- Where a cell stands in its program. -/
inductive CPhase where
  | idle
  | running
  | halted
  | trapped (code : Nat)
deriving DecidableEq, Repr

/-- A signal that has issued and waits for its release (R127, R129): the tensor-queue entries, from the front, and the
asynchronous instructions that must complete first. -/
structure CommitSig where
  sig : Sig
  tensor : Nat
  ops : List Nat
deriving DecidableEq, Repr

/-- A cell (R90, R98). Vectors are held as lane 64r + i, accumulators as element 4096a + 64 row + column. A seed of `none`
is the one drawn from the keystone's generator at the last reset (R99). -/
structure Cell where
  s : Tab Word64
  v : Tab Word
  vp : Tab Bool
  p : Tab Word64
  a : Tab Word
  ap : Tab Bool
  d : Tab (BitVec 256)
  pc : Nat
  cycle : Word64
  status : Word64
  emask : Word64
  seed : Option Word64
  tepoch : Word64
  work : Word64
  fault : Word64
  phase : CPhase
  run : Option Nat
  block : Option CBlock
  tq : List TEntry
  ops : List AOp
  sigs : List CommitSig
  committed : Bool
  /-- An exception of an asynchronous instruction that traps at the next boundary: its code and opcode (R132). -/
  pendTrap : Option (Nat × Nat)
  /-- An operation of the RUN completed with LINK_LOST or UNKNOWN_OUTCOME (R80). -/
  lost : Bool
deriving DecidableEq, Repr

/-- The EMASK start value (R99). -/
def emaskStart : Word64 := 0x0DB0

/-- A cell after WARM, DIE and COLD reset (R91). (DESIGN CHOICE, log 3) -/
def Cell.reset : Cell :=
  { s := [], v := [], vp := [], p := [], a := [], ap := [], d := [], pc := 0, cycle := 0, status := 0, emask := emaskStart,
    seed := none, tepoch := 0, work := 0, fault := 0, phase := .idle, run := none, block := none, tq := [], ops := [],
    sigs := [], committed := false, pendTrap := none, lost := false }

/-- Who started a copy (R187): a cell's MOVE, a reach's MOVE command, a Weir. -/
inductive MOwner where
  | cell (c : Nat) (op : Nat)
  | reach (r : Nat) (id : Nat)
deriving DecidableEq, Repr

/-- A MOVE in progress or waiting at its engine (R190). -/
structure MoveOp where
  id : Nat
  owner : MOwner
  /-- The engine, and the die whose traffic it is. -/
  engine : Nat
  die : Nat
  src : Nat
  dst : Nat
  len : Nat
  fold : Bool
  bf16 : Bool
  sealEpoch : Nat
  workUnit : Nat
  epoch : Nat
  /-- The worst status so far: LINK_LOST where a link it needs is lost before it starts, then those of its packets. -/
  status : Nat
  /-- The packets of a MOVE with one end on another device that are still to be injected, and those not yet answered. -/
  todo : List Packet
  left : Nat
  /-- The trailers that READ_DATA brought for tiles of the destination, by slot, as numbers, and the status they came with. -/
  trls : Tab (Option (Nat × Nat))
  /-- The slots of a tiled destination of which a piece did not arrive whole (R185). -/
  badSlots : List Nat
  /-- The tiled regions at its start: it finishes under them (R175). -/
  regions : Tab Region
deriving DecidableEq, Repr

/-! ### Weirs -/

/-- Who issued a Weir command block (R201): a cell's WQ, or a submission-queue entry by way of the keystone. -/
inductive WIss where
  | cell (c : Nat) (op : Nat)
  | sq (q idx : Nat)
deriving DecidableEq, Repr

/-- A Weir command block in a Weir's queue (R201, R207), as the device delivered it. -/
structure WBlk where
  id : Nat
  iss : WIss
  bytes : List Byte
  workUnit : Nat
  epoch : Nat
  bcast : Bool
  /-- The length the issuer declared (R207 bytes 4–7 must equal it). -/
  declared : Nat
deriving DecidableEq, Repr

/-- A Weir command that runs: `done` is its status once its effect is over. -/
structure WRun where
  blk : WBlk
  /-- The tiled regions as it started: it finishes under them (R175). -/
  regions : Tab Region
  done : Option Nat
deriving DecidableEq, Repr

/-- A sequence slot as one Weir, or the keystone, holds it (R211). -/
structure Slot where
  active : Bool
  epoch : Nat
  rsv : Word
  shape : Word
  pol0 : Word
  pol1 : Word
deriving DecidableEq, Repr

/-- A slot that no create has made active; its staged fields at their reset values (R241 to R244). -/
def Slot.free : Slot :=
  { active := false, epoch := 0, rsv := 0, shape := 0, pol0 := regReset Reg.KEY_SLOT_POL0, pol1 := regReset Reg.KEY_SLOT_POL1 }

/-- A slot action under way (R213): the slot, the action code, the staged fields, the Weirs that have applied it. -/
structure SlotAct where
  slot : Nat
  action : Nat
  staged : Slot
  applied : List Nat
deriving DecidableEq, Repr

/-- A Weir (R201, R202): the command blocks that wait, those that run, the slot lengths (R221), its copy of the slots. -/
structure Weir where
  queue : List WBlk
  running : List WRun
  lens : Tab Nat
  slots : Tab Slot
deriving DecidableEq, Repr

/-- A Weir after reset. -/
def Weir.empty : Weir := { queue := [], running := [], lens := [], slots := [] }

/-! ### Confluence units -/

/-- A weight set (R261): tag, gain shift, row scales, weights w(i, j) at 64i + j as bytes. -/
structure WSet where
  tag : Nat
  gain : Nat
  scales : Tab Word
  w : Tab Byte
deriving DecidableEq, Repr

/-- No weight set. -/
def WSet.none : WSet := { tag := 0, gain := 0, scales := [], w := [] }

/-- An entry of a Confluence unit's queue (R258). -/
inductive CuEntry where
  | oproj (cell op : Nat) (inDA outDA : Nat) (status : Option Nat) (tag c inFmt mode count : Nat) (workUnit epoch : Nat)
  | bound (cell op : Nat) (tag : Nat) (commit corr : Bool)
deriving DecidableEq, Repr

/-- What a held unit is doing (R264, R270). -/
structure CuHold where
  /-- The tag that the commit makes active at its end, and the BOUND it came from. -/
  take : Option Nat
  bound : Option (Nat × Nat)
  /-- A laser swap that waits for the Spring's report (R270). -/
  swap : Bool
  /-- The physical rows that are driven again, none before the first verification; the failed verifications of each row (R264). -/
  again : List Nat
  tries : Tab Nat
  /-- On the way from a fallback mode to OPTICAL (R274). -/
  enter : Bool
deriving DecidableEq, Repr

/-- A settle and verification that no boundary of the queue asked for. -/
def CuHold.settle (enter : Bool) : CuHold := { take := none, bound := none, swap := false, again := [], tries := [], enter }

/-- The records of a unit in a calibration image that was loaded, which the unit's next taken boundary applies (R309): the row map where
it is one, the code and corrections of its 17,472 rings, its crosstalk bytes, the corrections of its rows. -/
structure CuCal where
  map : Option (Tab Nat)
  rings : List (Nat × Nat)
  xtalk : List Byte
  rows : List Nat
deriving DecidableEq, Repr

/-- A Confluence unit (R250, R274): its queue, the job that runs, the weight sets, whether the bank was characterised, the
lock, the hold, the pending corrections, the rows in service. -/
structure Cu where
  queue : List CuEntry
  job : Option CuEntry
  /-- The mode in which the running job started (R274): true in OPTICAL. -/
  jobOptical : Bool
  /-- How much of the running job met an unlocked bank (R272): 0 none of it, 1 a part, 2 all so far. -/
  jobUnlocked : Nat
  active : WSet
  staged : WSet
  stagedValid : Bool
  /-- The heater drives precomputed for the staged set, by weight ring (R262). -/
  drives : List Nat
  /-- The load under way and the image's verdict. -/
  loading : Option Nat
  characterised : Bool
  /-- The mode (R274, R276): 0 FALLBACK_UNCAL, 1 OPTICAL, 2 FALLBACK_FORCED, 3 FALLBACK_ROWS. -/
  mode : Nat
  locked : Bool
  hold : Option CuHold
  recal : Bool
  swap : Bool
  /-- Physical rows that are unhealthy (R268), and the row map: logical row i to physical row. -/
  badRows : List Nat
  rowMap : Tab Nat
  newCal : Option CuCal
  /-- The phase reference of the local oscillator, as the last bank recalibration measured it (R269). -/
  loRef : Nat
  /-- The physical row under calibration (R267). -/
  calRow : Nat
  rowsReported : Bool
  inputLost : Bool
  /-- Its calibration SRAM failed without a repair (R660): held on the fallback. -/
  calFault : Bool
deriving DecidableEq, Repr

/-- A Confluence unit after reset (R263, R274). -/
def Cu.reset : Cu :=
  { queue := [], job := none, jobOptical := false, jobUnlocked := 0, active := .none, staged := .none,
    stagedValid := false, drives := [], loading := none, characterised := false, mode := 0, locked := false, hold := none,
    recal := false, swap := false, badRows := [], rowMap := [], newCal := none, loRef := 0, calRow := 256, rowsReported := false, inputLost := false, calFault := false }

/-! ### Springs, lasers and rings -/

/-- The state of a laser (R311). -/
inductive LaserSt where
  | idle | serving | warning | prewarm | handover | retired | failed | unhealthy
deriving DecidableEq, Repr

/-- A laser (R284, R290, R308): drive and temperature set points (none: as the bring-up found them), fade × 1,024, state, line, output in
mW. -/
structure Laser where
  drive : Option Nat
  temp : Option Nat
  fade : Nat
  state : LaserSt
  line : Nat
  output : Nat
  /-- Pre-warmed and locked half a channel off grid (R291). -/
  warmLocked : Bool
  /-- The fade at the last record of the ageing history (R615). -/
  recorded : Nat
deriving DecidableEq, Repr

/-- A laser that has never served. -/
def Laser.idle : Laser :=
  { drive := none, temp := none, fade := 0, state := .idle, line := 0, output := 0, warmLocked := false, recorded := 0 }

/-- The phase of a handover (R313). -/
inductive HoPhase where
  | idle | prepare | scheduled | swap | abandoned
deriving DecidableEq, Repr

/-- A Spring (R284 to R294): its lasers, the source of each line (the laser index; the primary by default), the failed
lines, the spare allocated to a line, the handover under way and the queue. -/
structure Spring where
  lasers : Tab Laser
  source : Tab (Option Nat)
  failedLines : List Nat
  alloc : Tab (Option Nat)
  phase : HoPhase
  line : Nat
  spare : Nat
  attempt : Nat
  queue : List Nat
  locked : Bool
  /-- Lasers outside ±2 GHz (R283, R288). -/
  outLock : List Nat
  /-- Lines whose abandoned handover keeps them from the queue (R294). -/
  abandonedLines : List Nat
deriving DecidableEq, Repr

/-- A Spring after reset. -/
def Spring.reset : Spring :=
  { lasers := [], source := [], failedLines := [], alloc := [], phase := .idle, line := 0, spare := 0, attempt := 0,
    queue := [], locked := false, outLock := [], abandonedLines := [] }

/-- A ring (R299, R308): heater code (none: the one its bring-up found), whether it lost the lock of its bring-up, failed flag,
corrections, updates in a row outside the window, the size of the last detuning in MHz, the code at which it lost its lock (R302), and
the feed-forward term that its code holds (R303). -/
structure Ring where
  code : Option Nat
  unlocked : Bool
  failed : Bool
  corr : Option Nat
  out : Nat
  last : Nat
  home : Nat
  ff : Int
deriving DecidableEq, Repr

/-- A ring as the bring-up leaves it. -/
def Ring.off : Ring := { code := none, unlocked := false, failed := false, corr := none, out := 0, last := 0, home := 0, ff := 0 }

/-- The optics (R282 to R309). Ring index: Bed modulators 0, drop filters 3,840, fiber modulators 7,680, fiber receive filters
8,224, then unit t's 17,472 from 8,768 + 17,472 t, then the reference (the order of R308). -/
structure Optics where
  springs : Tab Spring
  /-- The bring-up locked every ring it did not mark as failed (R306). -/
  ringsUp : Bool
  rings : Tab Ring
  /-- The crosstalk bytes, the 16-byte region records, and the corrections (bytes 3 to 7) of the row records of R308, as numbers; none: as
  the characterisation found them. -/
  xtalk : Tab (Option Byte)
  regions : Tab (Option Nat)
  rowRecs : Tab (Option Nat)
  /-- The base of the free values that the characterisation found (R306). -/
  base : Nat
  /-- Handovers that were requested and have neither begun nor been refused (R312): Spring and line. -/
  requests : List (Nat × Nat)
  refLost : Bool
  /-- The lasers of R304: on, dimmed, off. -/
  dimmed : Bool
  dark : Bool
  loopsStopped : Bool
  /-- Dies whose ring loops a DIE reset stopped (R305). -/
  stoppedDies : List Nat
  /-- A calibration dump or load under way: the operation, its DA and the origin of its write. -/
  calOp : Option (Nat × Nat × Origin)
deriving DecidableEq, Repr

/-- The optics before their bring-up (R306). -/
def Optics.reset : Optics :=
  { springs := [], ringsUp := false, rings := [], xtalk := [], regions := [], rowRecs := [], base := 0, requests := [], refLost := false, dimmed := false,
    dark := true, loopsStopped := true, stoppedDies := [], calOp := none }

/-- What a calibration snapshot holds (R308, R609): the optics' values and the units' row maps as they stood, and the header. -/
structure Snap where
  seq : Nat
  boot : Nat
  ticks : Nat
  /-- The serials of the Bed and both Springs match the fuses (R306). -/
  serialsOk : Bool
  optics : Optics
  rowMaps : List (Tab Nat)
  badRows : List (List Nat)
  characterised : List Bool
deriving DecidableEq, Repr

/-! ### Bed links -/

/-- The state of a Bed lane (R354). -/
inductive BLaneSt where
  | data | spare | retired | training | failed | dark
deriving DecidableEq, Repr

/-- The receiver of a lane (R327, R329, R330): the last 58 scrambled bits, the last 64 headers (1 for an invalid one) and how many valid ones
came in a row; in training the parity of the block count, the block before, the zero syndromes in a row at each codeword phase, and
the phase found; on a fiber lane the payload bits that wait for their group (R359). -/
structure LaneRx where
  scr : Nat
  hdrs : Nat
  run : Nat
  odd : Bool
  last : Nat
  zeros : Nat × Nat
  phase : Option Bool
  bits : Nat
  nbits : Nat
deriving DecidableEq, Repr

/-- A receiver before any block. -/
def LaneRx.init : LaneRx :=
  { scr := 0, hdrs := 0, run := 0, odd := false, last := 0, zeros := (0, 0), phase := none, bits := 0, nbits := 0 }

/-- A Bed lane (R354). `cause2` counts its retirements under cause 2 (R346), `tries` its failed trainings (R342); `after` is a
retirement (cause, planned) that waits for the end of a training (R345). -/
structure BLane where
  state : BLaneSt
  pos : Nat
  cause : Nat
  planned : Bool
  cause2 : Nat
  tries : Nat
  after : Option (Nat × Bool)
  /-- Block lock on the lane was lost (R329). -/
  noLock : Bool
  rx : LaneRx
  /-- The last 58 bits that the lane's scrambler sent (R327). -/
  tx : Nat
deriving DecidableEq, Repr

/-- A lane before training (R354). -/
def BLane.dark : BLane :=
  { state := .dark, pos := 0, cause := 0, planned := false, cause2 := 0, tries := 0, after := none, noLock := false, rx := .init, tx := 0 }

/-- The state of a Bed link (R348). -/
inductive BLinkSt where
  | down | train | live | parked
deriving DecidableEq, Repr

/-- A numbered flit in a retry buffer (R335): number, virtual channel, shared-pool credit, first, payload. -/
structure RFlit where
  seq : Nat
  vc : Nat
  shared : Bool
  first : Bool
  payload : List Byte
deriving DecidableEq, Repr

/-- A change announced for a boundary codeword (R344): a retirement, an admission (with the lane admitted). -/
inductive BChange where
  | retire (pos c cause : Nat) (planned : Bool)
  | join (pos c lane : Nat)
deriving DecidableEq, Repr

/-- A Bed link (R334 to R350): its state, its sender half (next number, retry buffer, credits spent per pool: 0–7 the VCs, 8
the shared pool) and its receiver half (expected number, a NAK owed, the units held per pool and the credits owed). -/
structure BLink where
  state : BLinkSt
  pam4 : Bool
  quick : Bool
  txSeq : Nat
  retry : List RFlit
  used : Tab Nat
  rxSeq : Nat
  nakSent : Bool
  nakOwed : Bool
  owed : Tab Nat
  /-- Accepted flits per VC whose buffer has not drained: in arrival order. -/
  rxBuf : List RFlit
  count : Nat
  changes : List BChange
  /-- Positions under an unplanned cause: the sender sends only null flits until their boundary (R344). -/
  nullOnly : List Nat
  /-- Positions whose REQ_RETIRE awaits a RETIRE (R345). -/
  reqs : List (Nat × Nat)
  fails : Nat
  /-- Trainings after the first, and the counters of R355: corrected, uncorrectable, replays, retrains, credit timeouts. -/
  everTrained : Bool
  corrected : Word
  uncorr : Word
  replays : Word
  retrains : Word
  creditTo : Word
  /-- BED_LINK_CTL.retrain reads 1 until the training starts (R352). -/
  retrainReq : Bool
  /-- The link stream (R334): bytes to send, and bytes received that complete no flit yet; control blocks to send, by their first 16 bytes
  (R332). -/
  txStream : List Byte
  rxStream : List Byte
  txCtl : List (List Byte)
  /-- The source that sent last (R36). -/
  lastSrc : Nat
deriving DecidableEq, Repr

/-- A Bed link before its first training (R352). -/
def BLink.down : BLink :=
  { state := .down, pam4 := false, quick := false, txSeq := 0, retry := [], used := [], rxSeq := 0, nakSent := false,
    nakOwed := false, owed := [], rxBuf := [], count := 0, changes := [], nullOnly := [], reqs := [], fails := 0,
    everTrained := false, corrected := 0, uncorr := 0, replays := 0, retrains := 0, creditTo := 0, retrainReq := false,
    txStream := [], rxStream := [], txCtl := [], lastSrc := 0 }

/-- The Bed: links by 32 × source + destination die code, lanes by lane index (R319). -/
structure Bed where
  links : Tab BLink
  lanes : Tab BLane
deriving DecidableEq, Repr

/-! ### Fiber ports -/

/-- The state of a port (R373, R408). -/
inductive PortSt where
  | down | train | live | standby | deep
deriving DecidableEq, Repr

/-- An unacknowledged packet (R378, R383): its number and VC, the packet, whether it is spilled to the backwater. -/
structure TxPkt where
  lseq : Nat
  vc : Nat
  pkt : Packet
  spilled : Bool
  /-- The tracker entry of this device that the packet belongs to (R396), and the mirror copy's index. -/
  own : Option Nat
deriving DecidableEq, Repr

/-- A packet that waits at a port's sender: its VC, the packet, the tracker entry of this device it belongs to. -/
structure TxWait where
  port : Nat
  vc : Nat
  pkt : Packet
  own : Option Nat
deriving DecidableEq, Repr

/-- A fiber lane (R372, R414). -/
abbrev FLane := BLane

/-- A port's change announced for a boundary (R371). -/
inductive FChange where
  | retire (pos c cause : Nat) (planned : Bool)
  | join (pos c line : Nat)
deriving DecidableEq, Repr

/-- The packet stream of a port's receiver (R360, R361): the bytes of a packet begun, and whether framing holds. -/
structure PortRx where
  stream : List Byte
  framed : Bool
deriving DecidableEq, Repr

/-- A fiber port (R356 to R403). Credits are per VC: `peerCnt` the peer's last cumulative counts, `sent` the units consumed,
`myCnt` this receiver's cumulative counts. -/
structure Port where
  state : PortSt
  cause : Nat
  rate : Nat
  lanes : Tab FLane
  grace : Bool
  steered : Bool
  light : Bool
  /-- Light has been present in both directions for 3 s (R367, R400). -/
  settled : Bool
  txOpen : Bool
  probing : Bool
  quiescing : Bool
  quiesced : Bool
  session : Nat
  u : Nat
  n : Nat
  unacked : List TxPkt
  /-- A retrain ended, and the sender replays from the next ack_seq it hears (R391). -/
  replayDue : Bool
  e : Nat
  naked : Bool
  nakDue : Bool
  held : List TxWait
  peerCnt : Tab Nat
  sent : Tab Nat
  myCnt : Tab Nat
  changes : List FChange
  reqs : List (Nat × Nat)
  sfCount : Nat
  heartbeat : Nat
  standbyReq : Bool
  deepReq : Bool
  peerDeep : Bool
  /-- The ticks of the retrains that failed within the last second (R392). -/
  failTicks : List Nat
  retraining : Bool
  /-- The peer heard and the fiber (R413). -/
  peerTag : Nat
  peerPort : Nat
  peerFiber : Nat
  peerValid : Bool
  rtt : Nat
  /-- The identity at the last time the port was LIVE: tag and port (R398). -/
  last : Option (Nat × Nat)
  /-- The credit shares in force since the last fresh start (R387). -/
  shares : List Nat
  rx : PortRx
  /-- The packets whose bytes wait for the line, and how many bytes of the first are sent (R360); messages for the control slots (R366); blocks
  sent since the last SKIP (R364); whether the last slot of a narrow port went to a message other than STATUS. -/
  txPkts : List (List Byte)
  txOff : Nat
  txMsgs : List (List Byte)
  skipCnt : Nat
  msgLast : Bool
deriving DecidableEq, Repr

/-- A port after COLD reset (R398, R408). -/
def Port.reset : Port :=
  { state := .down, cause := 1, rate := 0, lanes := [], grace := false, steered := false, light := false, settled := false,
    txOpen := false, probing := false, quiescing := false, quiesced := false, session := 0, u := 0, n := 0, unacked := [],
    replayDue := false, e := 0, naked := false, nakDue := false, held := [], peerCnt := [], sent := [], myCnt := [],
    changes := [], reqs := [], sfCount := 0, heartbeat := 0, standbyReq := false, deepReq := false, peerDeep := false,
    failTicks := [], retraining := false, peerTag := 0, peerPort := 0, peerFiber := 0, peerValid := false,
    rtt := 0, last := none, shares := [256, 1984, 1984, 1984, 1984],
    rx := { stream := [], framed := false }, txPkts := [], txOff := 0, txMsgs := [], skipCnt := 0, msgLast := false }

/-- The service state of a connector (R401 to R405, R416): 0 NORMAL, 1 QUIESCING, 2 SAFE; the origin of the press; `blink` says that
the amber LED blinks. -/
structure Svc where
  svc : Nat
  origin : Origin
  blink : Bool
deriving DecidableEq, Repr

/-- A connector after COLD reset. -/
def Svc.reset : Svc := { svc := 0, origin := .serviceButton, blink := false }

/-! ### The fabric -/

/-- A route entry (R418). -/
structure Route where
  primary : Nat
  alternate : Nat
  mode : Nat
  select : Nat
  resync : Bool
  valid : Bool
  active : Bool
  armed : Bool
deriving DecidableEq, Repr

/-- An entry that no commit has written. -/
def Route.none : Route :=
  { primary := 0, alternate := 0, mode := 0, select := 0, resync := false, valid := false, active := false, armed := false }

/-- Whose request a tracker entry holds (R436): what receives its status (R438). -/
inductive TOwner where
  | atomic (cell : Nat)
  | move (id : Nat)
  | signal (cell : Nat) (op : Nat)
  | header (reach id : Nat)
  | child (reach id : Nat)
  | mgmt (q idx : Nat)
  | copy (item dev : Nat)
  | other
deriving DecidableEq, Repr

/-- The use of a tracker entry (R439). -/
inductive TUse where
  | free | busy | quarantined
deriving DecidableEq, Repr

/-- A tracker entry (R436): its generation, use, owner, the request (kept for R438's reissue), the port of its last send,
how often a READ was reissued, and the twin copy of a MIRROR or dual-active request (R444) as (span die, index). -/
structure TEnt where
  gen : Nat
  use : TUse
  owner : TOwner
  pkt : Option Packet
  port : Nat
  reissues : Nat
  twin : Option (Nat × Nat)
deriving DecidableEq, Repr

/-- A tracker entry never used. -/
def TEnt.free : TEnt := { gen := 0, use := .free, owner := .other, pkt := none, port := 0, reissues := 0, twin := none }

/-- A destination's flow entry (R442, R443). -/
structure FlowIn where
  src : Nat
  die : Nat
  high : Nat
  seen : List Nat
  /-- The tick of the flow's last copy. -/
  last : Nat
deriving DecidableEq, Repr

/-- An origin's flow counter (R441): the next sequence and the requests outstanding. -/
structure FlowOut where
  next : Nat
  out : Nat
deriving DecidableEq, Repr

/-- What a device knows by HELLO of one port (R430, R431). -/
structure HelloSt where
  seq : Nat
  events : Nat
  taken : Option HelloMsg
deriving DecidableEq, Repr

/-- A port that has sent and heard nothing. -/
def HelloSt.none : HelloSt := { seq := 0, events := 0, taken := Option.none }

/-- One span die's part in the fabric (R436 to R449): its tracker, its flow entries, its heartbeat count. -/
structure Span where
  trk : Tab TEnt
  nextIdx : Nat
  flows : List FlowIn
  hbCount : Nat
  /-- S1: stopped emitting STANDBY copies on FORCE_STANDBY or S0's TAKEOVER (R448). -/
  stopped : Bool
  /-- A takeover was entered and has not completed (R447). -/
  taking : Bool
deriving DecidableEq, Repr

/-- A span die after reset. -/
def Span.reset : Span :=
  { trk := [], nextIdx := 0, flows := [], hbCount := 0, stopped := false, taking := false }

/-- A tile that arrives in pieces from the fabric (R426, R428): its source, slot start, pieces so far. -/
structure TileIn where
  src : Nat
  srcDie : Nat
  addr : Nat
  fold : Bool
  /-- Untiled data for a slot that this device seals (R187). -/
  sealed : Bool
  pieces : List (Nat × List Byte)
deriving DecidableEq, Repr

/-- The fabric state of the device (R417 to R451). -/
structure Fab where
  routes : Tab Route
  spans : Tab Span
  flowOut : Tab (Option FlowOut)
  hello : Tab HelloSt
  /-- The manager followed (R432): host software, its sequence, the port it was heard on (none: itself, or no manager), its digest (empty:
  no manager), its distance, its device ID where a HELLO of its own told it. -/
  mgrHost : Bool
  mgrSeq : Nat
  mgrPort : Option Nat
  mgrDigest : List Byte
  mgrDist : Nat
  mgrDevId : Option Nat
  ownMgrSeq : Nat
  /-- Takeover reports that K holds (R448), and the FORCE_STANDBY sends so far. -/
  reports : List Nat
  forceSends : Nat
  waiting : List TxWait
  tiles : List TileIn
  /-- Changes to the active map (R446). -/
  mapChanges : Nat
deriving DecidableEq, Repr

/-- The fabric after COLD reset. -/
def Fab.reset : Fab :=
  { routes := [], spans := [], flowOut := [], hello := [], mgrHost := false, mgrSeq := 0, mgrPort := none, mgrDigest := [],
    mgrDist := 63, mgrDevId := none, ownMgrSeq := 0, reports := [], forceSends := 0, waiting := [], tiles := [], mapChanges := 0 }

/-! ### The host interface -/

/-- An SQ entry that was fetched (R470): its index, its 64 bytes, whether it was dispatched, its completion. -/
structure SqEnt where
  idx : Nat
  bytes : List Byte
  dispatched : Bool
  /-- Weirs not yet complete (R476) and the status per completed Weir, in ascending n. -/
  weirs : List (Nat × Option Nat)
deriving DecidableEq, Repr

/-- A submission queue (R468, R491 to R495). -/
structure Sq where
  baseLo : Word
  baseHi : Word
  cfg : Word
  head : Nat
  tail : Nat
  error : Nat
  ents : List SqEnt
deriving DecidableEq, Repr

/-- A submission queue after reset. -/
def Sq.reset : Sq := { baseLo := 0, baseHi := 0, cfg := 0, head := 0, tail := 0, error := 0, ents := [] }

/-- A completion that waits to be written (R479): its 28 bytes but sq_head, whether it counts toward the interrupt. -/
structure Compl where
  status : Nat
  type : Nat
  sq : Nat
  idx : Nat
  result : Nat
  aux : Nat
  noIrq : Bool
deriving DecidableEq, Repr

/-- A completion queue (R468, R479, R484). -/
structure Cq where
  baseLo : Word
  baseHi : Word
  cfg : Word
  head : Nat
  tail : Nat
  phase : Bool
  error : Nat
  wait : List Compl
  since : Nat
deriving DecidableEq, Repr

/-- A completion queue after reset. -/
def Cq.reset : Cq :=
  { baseLo := 0, baseHi := 0, cfg := 0, head := 0, tail := 0, phase := true, error := 0, wait := [], since := 0 }

/-- An IDE stream (R486, R487): 0 none, 1 Secure, 2 Insecure, and its key. -/
structure Ide where
  state : Nat
  key : Nat
deriving DecidableEq, Repr

/-- The host interface (R462 to R498). -/
structure Hq where
  sqs : Tab Sq
  cqs : Tab Cq
  /-- The mailboxes armed by an incomplete entry (R481): mailbox to (queue, index). -/
  armed : Tab (Option (Nat × Nat))
  ide : Tab Ide
  spdm : Bool
deriving DecidableEq, Repr

/-- The host interface after reset. -/
def Hq.reset : Hq :=
  { sqs := [], cqs := [], armed := [], ide := [], spdm := false }

/-! ### Energy, clocks and heat -/

/-- A ledger (R509): balance and capacity in µJ; no capacity until the first refill after a reset. -/
structure Ledger where
  bal : Int
  cap : Option Nat
deriving DecidableEq, Repr

/-- A ledger after a reset that zeroes it (R509, R641). -/
def Ledger.zero : Ledger := { bal := 0, cap := none }

/-- The state of a temperature sensor (R520, R521, R535): 0 VALID, 1 BROKEN, 2 GHOST, 3 SUBSTITUTE; temperatures in 1/16 °C,
the offset in 1/16 °C × 1,000 (its weighted mean is taken over 1,000 samples). -/
structure Sensor where
  reading : Int
  state : Nat
  cause : Nat
  value : Int
  lastGood : Int
  offset : Int
  apart : Nat
  /-- The first 500 ms of a ghost (R521). -/
  phase1 : Bool
  /-- The tick at which it was last its domain's hottest. -/
  hotTick : Option Nat
deriving DecidableEq, Repr

/-- A sensor after reset. -/
def Sensor.reset : Sensor :=
  { reading := 0, state := 0, cause := 0, value := 0, lastGood := 0, offset := 0, apart := 0, phase1 := false, hotTick := none }

/-- A throttle domain (R517, R518, R534): f in 1/400, fast mode and the tick of the last conversion within 5 °C of onset, the hottest
value and its sensor; the value and tick from which f may rise while a ghost holds it (R521). -/
structure ThermDom where
  f : Nat
  fast : Bool
  lastHot : Nat
  hottest : Int
  sensor : Nat
  capF : Nat
  capTick : Nat
deriving DecidableEq, Repr

/-- A domain at full factor. -/
def ThermDom.full : ThermDom := { f := 400, fast := false, lastHot := 0, hottest := 0, sensor := 0, capF := 400, capTick := 0 }

/-- A step change of a tensor die (R502, R679): the target, the voltage request's sequence, whether it rises, whether the board
acknowledged. -/
structure Dvfs where
  target : Nat
  vseq : Nat
  rising : Bool
  acked : Bool
deriving DecidableEq, Repr

/-- The energy state (R509 to R523). Ledgers 0–63 are the clusters', 64 the package's. Factors are k × 2^28 by
8 × die + class (class 4 by 4). -/
structure Nrg where
  ledgers : Tab Ledger
  pool : Int
  u : Nat
  room : Tab Int
  roomUsed : Tab Bool
  pkgRoom : Int
  charged : Nat
  declared : Tab Nat
  corr : Tab Nat
  samples : Tab Nat
  staged : Tab Nat
  /-- Static floors by rail (none: the fused one, R515). -/
  floors : Tab (Option Nat)
  lastPower : Tab Nat
  /-- Power fill of a die in this interval (R514): 0 none, 1 it runs, 2 it ran and stopped. -/
  filling : Tab Nat
  sensors : Tab Sensor
  doms : Tab ThermDom
  dvfs : Tab (Option Dvfs)
  /-- VREQ_Tt (R678): the last request's sequence, and its code (60 until the first after release, R680). -/
  vseq : Tab Nat
  vcode : Tab Nat
  gated : Tab Bool
  meas : Tab Word
  trip : Option (Nat × Nat)
  tripPending : Option (Nat × Nat)
  /-- Entry to SLACK or STILL under way: the target state. -/
  entering : Option Nat
  /-- The always-on domain runs on its internal oscillator (R499). -/
  fallback : Bool
  /-- Refills in the present millisecond, and whether a domain was throttled in it (R537). -/
  msPhase : Nat
  msThrottled : Bool
  /-- Energy on VDD_HEAT that lifetime counter 11 has not yet counted, in µJ (R611). -/
  heatUj : Nat
deriving DecidableEq, Repr

/-- The energy state before the first refill. -/
def Nrg.reset : Nrg :=
  { ledgers := [], pool := 0, u := 0, room := [], roomUsed := [], pkgRoom := 0, charged := 0, declared := [], corr := [],
    samples := [], staged := [], floors := [], lastPower := [], filling := [], sensors := [], doms := [], dvfs := [], vseq := [],
    vcode := [], gated := [], meas := [], trip := none, tripPending := none, entering := none, fallback := false, msPhase := 0,
    msThrottled := false, heatUj := 0 }

/-! ### Security, the change log and the persistent store -/

/-- A die record (R558): status, image version, the measurement quoted. -/
structure DieRec where
  status : Nat
  version : Nat
  meas : List Byte
deriving DecidableEq, Repr

/-- The security state (R546 to R572). -/
structure Sec where
  owner : Option (List Byte)
  countersign : Bool
  keysErased : Bool
  pubKeys : List (List Byte)
  /-- The chain of K in DER (R548): the device CA certificate, then K's. -/
  certs : List Byte
  level : Nat
  sinceCold : Bool
  invLifetime : Nat
  grant : Option (Nat × Nat)
  nonce : Option (List Byte)
  meas : Tab (List Byte)
  dies : Tab DieRec
  mram : List Nat
  fwVersion : Nat
  rngFailed : Bool
  /-- The token under check (R561) and its origin. -/
  token : Option (List Byte × Origin)
  /-- The attestation report under way (R557): its DA, whether the certificate is appended, the nonce. -/
  attest : Option (Nat × Bool × List Byte)
  /-- The ROM waits for a manifest address (R551). -/
  romWaits : Bool
deriving DecidableEq, Repr

/-- The security state of a part that is BLANK. (DESIGN CHOICE, log 3) -/
def Sec.reset : Sec :=
  { owner := none, countersign := false, keysErased := false, pubKeys := [], certs := [], level := 0, sinceCold := false, invLifetime := 0,
    grant := none, nonce := none, meas := [], dies := [], mram := [0, 0, 0, 0], fwVersion := 0, rngFailed := false,
    token := none, attest := none, romWaits := false }

/-- A write of origin KEYSTONE_FW or FACTORY that waits for a log slot (R580). -/
structure HeldWrite where
  origin : Origin
  off : Nat
  value : Word
deriving DecidableEq, Repr

/-- The change log (R573 to R582): next lsn, acknowledgement, the 64 bytes of the newest entry, the ring by slot, the count of
unlogged actions, the writes that wait. -/
structure Log where
  next : Nat
  ack : Nat
  last : List Byte
  slots : Tab (List Byte)
  unlogged : Word
  held : List HeldWrite
deriving DecidableEq, Repr

/-- An empty log. -/
def Log.empty : Log := { next := 0, ack := 0, last := [], slots := [], unlogged := 0, held := [] }

/-- A repair or fault record (R663). -/
structure RepairRec where
  kind : Nat
  die : Nat
  element : Nat
  replacement : Nat
  boot : Nat
  ticks : Nat
  extra : List Byte
deriving DecidableEq, Repr

/-- A unit of the store's write queue (R602, R604). (DESIGN CHOICE, log 43) -/
inductive StoreUnit where
  | log (lsn : Nat) (entry : List Byte)
  | lifetime (counters : Tab Nat)
  | bootCount (n : Nat)
  | logState (ack : Nat) (unlogged : Word) (res : Nat)
  | energy (corr : Tab Nat) (floors : Tab (Option Nat))
  | floors (mram : List Nat) (grant : Option (Nat × Nat)) (invLifetime : Nat)
  | owner (key : Option (List Byte)) (countersign : Bool)
  | ageing (rec : List Nat)
  | repair (r : RepairRec)
  /-- The host-saved area zeroed (R563, R617). -/
  | hsClear
deriving DecidableEq, Repr

/-- A host-saved block (R617): the sequence and the payload. -/
structure HsBlock where
  seq : Nat
  data : List Byte
deriving DecidableEq, Repr

/-- A slot that a power cut left unfinished (R600): a copy of the snapshot (true: B), a host-saved block, a slot of the change log, a
rotated record, an A/B record of areas 0–2, an appended record. -/
inductive Torn where
  | snap (b : Bool)
  | hs (block : Nat)
  | log (slot : Nat)
  | rotated (area : Nat)
  | pair
  | appended (area : Nat)
deriving DecidableEq, Repr

/-- What the MRAM holds committed (R595 to R617), by area; `torn` names the slots a power cut left unfinished (R600). -/
structure Mram where
  formatted : Bool
  identity : Bool
  owner : Option (List Byte)
  countersign : Bool
  floors : List Nat
  grant : Option (Nat × Nat)
  invLifetime : Nat
  life : Tab Nat
  ack : Nat
  unlogged : Word
  res : Nat
  corr : Tab Nat
  nrgFloors : Tab (Option Nat)
  energyValid : Bool
  snapA : Option Snap
  snapB : Option Snap
  ageing : List (List Nat)
  repairs : List RepairRec
  hs : Tab (Option HsBlock)
  log : Tab (List Byte)
  maxLsn : Option Nat
  torn : List Torn
deriving DecidableEq, Repr

/-- An MRAM that nothing was ever written to. (DESIGN CHOICE, log 3) -/
def Mram.blank : Mram :=
  { formatted := false, identity := false, owner := none, countersign := false, floors := [0, 0, 0, 0], grant := none,
    invLifetime := 0, life := [], ack := 0, unlogged := 0, res := 0, corr := [], nrgFloors := [], energyValid := false,
    snapA := none, snapB := none, ageing := [], repairs := [], hs := [], log := [], maxLsn := none, torn := [] }

/-- An operation on a host-saved block (R618): a save's bytes were read at its go. -/
structure HsOp where
  block : Nat
  load : Bool
  da : Nat
  data : List Byte
deriving DecidableEq, Repr

/-- The persistent store (R595 to R620): the MRAM, the write queue, the lifetime counters as they count (R612), the snapshot under way,
the operation on a host-saved block, an orderly shutdown that waits for the gate. -/
structure Store where
  mram : Mram
  queue : List StoreUnit
  life : Tab Nat
  snapPending : Bool
  snapRunning : Bool
  hsOp : Option HsOp
  shutdown : Bool
  /-- The reservation last queued or committed (R607). -/
  res : Nat
deriving DecidableEq, Repr

/-- A store that nothing was ever written to. -/
def Store.blank : Store :=
  { mram := .blank, queue := [], life := [], snapPending := false, snapRunning := false, hsOp := none, shutdown := false,
    res := 0 }

/-! ### Errors, test and repair -/

/-- An error record (R649). -/
structure ErrRec where
  seq : Word
  sev : Nat
  code : Nat
  source : Nat
  merged : Bool
  unit : Nat
  boot : Nat
  ticks : Nat
  count : Nat
  addr : Option Nat
  detail : Nat
deriving DecidableEq, Repr

/-- An error FIFO (R653, R656): records oldest first, drops, its configuration, whether its vector was raised. -/
structure ErrFifo where
  recs : List ErrRec
  overflow : Nat
  cfg : Word
  raised : Bool
deriving DecidableEq, Repr

/-- A FIFO after WARM reset (R667): vector severity + 1, messages enabled, threshold 1. -/
def ErrFifo.reset (sev : Nat) : ErrFifo :=
  { recs := [], overflow := 0, cfg := BitVec.ofNat 32 (sev + 1 + 2 ^ 11 + 2 ^ 12), raised := false }

/-- The test and repair state (R657 to R661): the next region of each tensor die's test, the soft spare rows used per bank
(keyed by 64 × memory code + bank within a die: 2^20 × die + that), the row repairs, the march pass under way. -/
structure Test where
  pos : Tab Nat
  spares : Tab Nat
  march : Option (Nat × Bool)
  /-- Uncorrectable reads of an HBM row (R662): element to the boot and tick of the first. -/
  rowErrs : Tab (Option (Nat × Nat))
  /-- HBM rows whose recorded repair was applied at the last training (R664, R671). -/
  hbmRows : Nat
  /-- Span dies held in reset for a fault of their tracker and replay SRAM (R660). -/
  memFail : List Nat
deriving DecidableEq, Repr

/-- The test state after reset. -/
def Test.reset : Test := { pos := [], spares := [], march := none, rowErrs := [], hbmRows := 0, memFail := [] }

/-! ### Power -/

/-- Power and reset (R626 to R646): the PWRGOOD inputs acted on, the dies released, the FATAL condition (R651), whether the
start sequence has run, the reset under way. -/
structure Pwr where
  good : Tab Bool
  early : Tab Bool
  up : Tab Bool
  fatal : Bool
  started : Bool
  /-- COLD reset took place without power loss: the energy factors carried in the always-on domain (R515). -/
  carried : Option (Tab Nat × Tab (Option Nat))
  /-- Stacks whose training failed (R634). -/
  badStacks : List Nat
  badQuotes : List Nat
  faultPin : Bool
  /-- The tick at which PERST# was last released (R637). -/
  perst : Nat
  /-- A COLD reset is due (R630): 0 none, 1 one that counts, 2 a restart of the ROM that does not (R634). -/
  due : Nat
  /-- The last COLD reset followed a loss of power. -/
  lost : Bool
deriving DecidableEq, Repr

/-- Power before anything is applied. (DESIGN CHOICE, log 9) -/
def Pwr.off : Pwr :=
  { good := [], early := [], up := [], fatal := false, started := false, carried := none, badStacks := [], badQuotes := [],
    faultPin := false, perst := 0, due := 0, lost := true }

/-! ### What leaves the device -/

/-- What the device sends out (the model's own record of it): packets, control blocks, flits, host writes, messages, pins. (DESIGN CHOICE, log 8) -/
inductive Out where
  | packet (port vc lseq : Nat) (pkt : Packet)
  | status (port : Nat) (m : StatusMsg)
  | fctl (port : Nat) (ch : FChange)
  | freq (port pos cause : Nat)
  | flit (src dst seq vc : Nat) (first : Bool) (payload : List Byte)
  /-- A codeword period of a Bed link: a codeword of 516 bits on each lane (R330, R334). -/
  | line (src dst : Nat) (words : List (Nat × BitVec 516))
  /-- A superframe of a port: the blocks on each lane (R358). -/
  | frame (port : Nat) (blocks : List (Nat × List (BitVec 258)))
  | bctl (src dst : Nat) (ch : BChange)
  | breq (src dst pos cause : Nat)
  | hostWrite (addr : Nat) (data : List Byte)
  | msi (vector : Nat)
  | aer (uncorrectable : Bool)
  | barRead (data : List Byte)
  | mgmt (status : Nat) (data : List Byte)
  | doe (data : List Byte)
  | jtag (status : Nat) (v : Word)
  | heartbeat (die role mask changes : Nat)
  | sideband (dest msg : Nat)
  | vreq (die code seq : Nat)
  | pin (name : Nat) (on : Bool)
  /-- A copy of a placement entry, or its change, on its way to a device (R72, R77). -/
  | plcCopy (dev : Nat) (c : PlcCopy)
  /-- This device's answer to another home's copy (R72). -/
  | plcAck (home item : Nat)
  /-- The drained token of an old placement on this device (R77). -/
  | drained (home item : Nat)
  /-- The fence report that an old placement on this device writes for another home (R79). -/
  | fenceReport (home da : Nat) (report : List Byte)
deriving DecidableEq, Repr

/-! ### The device -/

/-- The state of the device. `pending`, `freeIdx`, `opNext` and `outbox` are the model's own: the commands that wait, how many
free values were taken, the next identity of a command or operation, what was sent out. -/
structure State where
  pending : List Instr
  freeIdx : Nat
  opNext : Nat
  outbox : List Out
  fuses : Fuses
  ticks : Nat
  regs : Tab Word
  mem : Mem
  trg : Tab Region
  trgCommit : Option TrgCommit
  reaches : Tab Reach
  plc : Tab Plc
  cells : Tab Cell
  /-- The base of the free values from which the cells' seeds were drawn at the last reset (R99). -/
  seedBase : Nat
  moves : List MoveOp
  /-- The bytes (address and length) that were written while an incomplete asynchronous operation touched them: what it reads and
  writes there is undefined (R128). (DESIGN CHOICE, log 62) -/
  clash : List (Nat × Nat)
  weirs : Tab Weir
  slots : Tab Slot
  slotAct : Option SlotAct
  cus : Tab Cu
  optics : Optics
  bed : Bed
  ports : Tab Port
  svcs : Tab Svc
  fab : Fab
  hq : Hq
  nrg : Nrg
  sec : Sec
  log : Log
  store : Store
  errSeq : Word
  err : List ErrFifo
  test : Test
  pwr : Pwr
deriving DecidableEq, Repr

/-- The state right after reset: every register at its reset value, nothing in any memory, queue or table, no rail applied
(the start sequence is the effect of the rows PWRGOOD_ASSERT and COLD_RESET). (DESIGN CHOICE, log 3) (DESIGN CHOICE, log 9) -/
def State.reset : State :=
  { pending := [], freeIdx := 0, opNext := 1, outbox := [],
    fuses := { stackHeight := 16, stepping := 1, svn := [0, 0, 0, 0], lifecycle := 0, smallFabric := false },
    ticks := 0, regs := [], mem := { bytes := [], bad := [] }, trg := [], trgCommit := none, reaches := [], plc := [],
    cells := [], seedBase := 0, moves := [], clash := [], weirs := [], slots := [], slotAct := none, cus := [], optics := .reset,
    bed := { links := [], lanes := [] }, ports := [], svcs := [], fab := .reset, hq := .reset, nrg := .reset, sec := .reset,
    log := .empty, store := .blank, errSeq := 0, err := [.reset 0, .reset 1, .reset 2, .reset 3], test := .reset, pwr := .off }

end Sys2Proof.Machine
end

