-- ==== Sys2Proof/Machine/Ops.lean ====
section
/-! DEFINITION. The operations every family shares: registers, free values, what is sent out, the memories, the tiled
regions, the error records, the store's write queue and the change log. -/

namespace Sys2Proof.Machine

/-! ### Registers, free values, output -/

/-- The stored value of a register (R12). -/
def State.reg (s : State) (off : Nat) : Word := tget (regReset off) s.regs off

/-- Store a register's value. -/
def State.setReg (s : State) (off : Nat) (v : Word) : State := { s with regs := tset (regReset off) s.regs off v }

/-- Bits [lo + w − 1 : lo] of a stored register. -/
def State.rf (s : State) (off lo w : Nat) : Nat := (s.reg off).fld lo w

/-- Bit i of a stored register. -/
def State.rb (s : State) (off i : Nat) : Bool := (s.reg off).bit i

/-- Store a field of a register. -/
def State.setRf (s : State) (off lo w v : Nat) : State := s.setReg off ((s.reg off).setFld lo w v)

/-- Store a bit of a register. -/
def State.setRb (s : State) (off i : Nat) (b : Bool) : State := s.setRf off i 1 b.toNat

/-- Raise a counter register that saturates at 0xFFFF_FFFF. -/
def State.bumpN (s : State) (off n : Nat) : State := s.setReg off (satAdd (s.reg off) n)

/-- Count one event in a saturating counter register. -/
def State.bump (s : State) (off : Nat) : State := s.bumpN off 1

/-- The next free value. (DESIGN CHOICE, log 6) -/
def State.freeVal (s : State) : Nat := Config.free s.freeIdx

/-- The state after `n` free values were taken. (DESIGN CHOICE, log 6) -/
def State.takeFree (s : State) (n : Nat) : State := { s with freeIdx := s.freeIdx + n }

/-- The `i`-th free value from now. (DESIGN CHOICE, log 6) -/
def State.freeAt (s : State) (i : Nat) : Nat := Config.free (s.freeIdx + i)

/-- Record what leaves the device. (DESIGN CHOICE, log 8) -/
def State.emit (s : State) (o : Out) : State := { s with outbox := s.outbox ++ [o] }

/-- A fresh identity for a command or operation. -/
def State.freshId (s : State) : State := { s with opNext := s.opNext + 1 }

/-- The boot count (R500), lifetime counter 0 (R611). -/
def State.boot (s : State) : Nat := tget 0 s.store.life 0

/-! ### Dies -/

/-- Die codes (R353). -/
def dieW (n : Nat) : Nat := 4 + n
def dieS (d : Nat) : Nat := 20 + d
def dieK : Nat := 22

/-- A die is released and its clocks run. -/
def State.dieUp (s : State) (code : Nat) : Bool := tget false s.pwr.up code && !s.pwr.fatal

/-- The device's power state (R504, R531): 0 ACTIVE, 1 IDLE, 2 SLACK, 3 STILL. -/
def State.pstate (s : State) : Nat := s.rf Reg.NRG_PSTATE 2 2

/-- The device sleeps, in SLACK or STILL. -/
def State.asleep (s : State) : Bool := decide (s.pstate ≥ 2)

/-! ### Lists of fixed size -/

/-- Replace entry i of a list. -/
def lset {α : Type} : List α → Nat → α → List α
  | [], _, _ => []
  | _ :: t, 0, x => x :: t
  | a :: t, i + 1, x => a :: lset t i x

/-- n zero bytes. -/
def zeros (n : Nat) : List Byte := List.replicate n 0

/-- A list cut or padded with zeros to n bytes. -/
def padTo (n : Nat) (l : List Byte) : List Byte := l.take n ++ zeros (n - l.length)

/-- Bytes lo to lo + n − 1 of a record, as a little-endian number. -/
def bfld (l : List Byte) (lo n : Nat) : Nat := ofBytesLE ((l.drop lo).take n)

/-- Is every byte of a list zero? -/
def allZero (l : List Byte) : Bool := l.all (· == 0)

/-! ### The store's write queue (R602 to R604) -/

/-- The units a record takes (R602, R604). -/
def StoreUnit.units : StoreUnit → Nat
  | .owner .. => 31
  | _ => 1

/-- A log entry's unit. -/
def StoreUnit.isLog : StoreUnit → Bool
  | .log .. => true
  | _ => false

/-- The rotated record kinds, which keep one place in the queue each (R604). -/
def StoreUnit.rotKind : StoreUnit → Option Nat
  | .lifetime .. => some 0
  | .bootCount .. => some 1
  | .logState .. => some 2
  | .energy .. => some 3
  | _ => none

/-- Put a rotated record in the place of a queued one of its kind. -/
def replaceRot (k : Nat) (u : StoreUnit) : List StoreUnit → List StoreUnit
  | [] => []
  | x :: t => if x.rotKind = some k then u :: t else x :: replaceRot k u t

/-- Queue a record: a newer rotated record takes its predecessor's place (R604). -/
def Store.push (st : Store) (u : StoreUnit) : Store :=
  match u.rotKind with
  | some k =>
    if st.queue.any (fun x => x.rotKind = some k) then { st with queue := replaceRot k u st.queue }
    else { st with queue := st.queue ++ [u] }
  | none => { st with queue := st.queue ++ [u] }

/-- Units in use by records that are not rotated (R604). -/
def Store.plainUnits (st : Store) : Nat :=
  (st.queue.filter (fun u => u.rotKind.isNone)).foldl (fun n u => n + u.units) 0

/-- Units in use (R621). -/
def Store.unitsUsed (st : Store) : Nat := st.queue.foldl (fun n u => n + u.units) 0

/-- The temperature gate is open (R603). -/
def State.gateOpen (s : State) : Bool := s.rb Reg.KEY_PST_STATUS 1

/-- Queue a record for the store. -/
def State.storePush (s : State) (u : StoreUnit) : State := { s with store := s.store.push u }

/-! ### The change log (R573 to R582, R605 to R607) -/

/-- The code of an origin (R573). -/
def originCode : Origin → Nat
  | .host => 0 | .fabric => 1 | .debug => 2 | .keystoneFw => 3 | .autonomous => 4 | .serviceButton => 5 | .factory => 6

/-- The ring's slots. -/
def logSlots : Nat := 131072

/-- Room for n more entries: in the ring (R580) and in the write queue (R605). -/
def State.logRoom (s : State) (n : Nat) : Bool :=
  decide (s.log.next + n ≤ s.log.ack + logSlots) && decide (s.store.plainUnits + n ≤ 1008)

/-- The entries that the next change needs: a TALLY first where actions went unlogged (R580). -/
def State.logNeed (s : State) : Nat := if s.log.unlogged = 0 then 1 else 2

/-- The 64 bytes of an entry (R574). -/
def logBytes (s : State) (origin kind obj : Nat) (value : List Byte) : List Byte :=
  let chain := if s.log.last = [] then zeros 16 else shake256 s.log.last 16
  toBytesLE 8 s.log.next ++ toBytesLE 4 s.boot ++ toBytesLE 6 (s.ticks % 2 ^ 48) ++ toBytesLE 1 origin ++ toBytesLE 1 kind
    ++ toBytesLE 4 obj ++ padTo 24 value ++ chain

/-- Keep the reservation ahead of the next lsn while the gate is open (R607). -/
def State.reserve (s : State) : State :=
  if s.gateOpen && decide (s.log.next + 1024 ≥ s.store.res) then
    let res := s.log.next + 2048
    let s := { s with store := { s.store with res := res } }
    s.storePush (.logState s.log.ack s.log.unlogged res)
  else s

/-- Write the entry with the next lsn (R578, R606); a change after an orderly shutdown reopens the reservation (R619). -/
def State.logPut (s : State) (origin kind obj : Nat) (value : List Byte) : State :=
  let b := logBytes s origin kind obj value
  let s := { s with log := { s.log with next := s.log.next + 1, last := b, slots := tset [] s.log.slots (s.log.next % logSlots) b } }
  let s := s.storePush (.log (s.log.next - 1) b)
  (s.setRb Reg.KEY_PST_STATUS 18 false).reserve

/-- A TALLY of the unlogged actions, where there is one to write and room for it (R580). -/
def State.tally (s : State) : State :=
  if s.log.unlogged ≠ 0 && s.logRoom 1 then
    let n := s.log.unlogged
    let s := { s with log := { s.log with unlogged := 0 } }
    s.logPut (originCode .autonomous) 4 0 (toBytesLE 4 n.toNat)
  else s

/-- Log a change whose origin never waits (AUTONOMOUS, SERVICE_BUTTON): unlogged and counted where no slot is free (R580). -/
def State.logAuto (s : State) (o : Origin) (kind obj : Nat) (value : List Byte) : State :=
  let s := s.tally
  if s.logRoom 1 then s.logPut (originCode o) kind obj value
  else { s with log := { s.log with unlogged := satAdd s.log.unlogged 1 } }

/-- An EVENT entry (R575, R577). -/
def State.logEvent (s : State) (o : Origin) (code obj detail : Nat) : State :=
  s.logAuto o 2 obj (toBytesLE 4 code ++ toBytesLE 4 detail)

/-- An OBJECT entry's value (R575). -/
def objectValue (old new : List Byte) : List Byte := shake256 (old ++ new) 24

/-- May a change of this origin be refused with LOG_FULL (R18, R580)? -/
def refusable : Origin → Bool
  | .host | .fabric | .debug => true
  | _ => false

/-- Does LOG_FULL refuse a logged change of this origin now (R580, R605)? -/
def State.logFull (s : State) : Bool := !s.logRoom s.logNeed

/-- The refusal of a logged change (R580): LOG_REFUSAL and LOG_REFUSED. -/
def State.refuseLog (s : State) (o : Origin) (off : Nat) : State :=
  (s.setReg Reg.LOG_REFUSAL (BitVec.ofNat 32 (off % 2 ^ 26 + originCode o * 2 ^ 26))).bump Reg.LOG_REFUSED

/-- Log a change that was not refused: an entry, or the count where the origin goes on unlogged. -/
def State.logChange (s : State) (o : Origin) (kind obj : Nat) (value : List Byte) : State :=
  match o with
  | .autonomous | .serviceButton => s.logAuto o kind obj value
  | _ => s.tally.logPut (originCode o) kind obj value

/-! ### Error records (R649 to R656) -/

/-- The 64 bytes of a record (R649). -/
def ErrRec.toBytes (r : ErrRec) : List Byte :=
  toBytesLE 4 r.seq.toNat ++ toBytesLE 1 r.sev ++ toBytesLE 1 r.code ++ toBytesLE 1 r.source
    ++ toBytesLE 1 (1 + 2 * r.merged.toNat + 4 * r.addr.isSome.toNat) ++ toBytesLE 4 r.unit ++ toBytesLE 4 r.boot
    ++ toBytesLE 6 r.ticks ++ toBytesLE 2 r.count ++ toBytesLE 8 (r.addr.getD 0) ++ toBytesLE 4 r.detail ++ zeros 28

/-- The records a FIFO holds (R653). -/
def fifoCap (sev : Nat) : Nat := if sev = 3 then 64 else 1024

/-- The depth at which a FIFO raises its vector (R656). -/
def ErrFifo.threshold (f : ErrFifo) : Nat := max 1 (f.cfg.fld 12 10)

/-- Does a new occurrence merge into the newest record (R650)? -/
def ErrRec.mergesWith (r n : ErrRec) : Bool :=
  r.sev = n.sev && r.sev ≠ 3 && r.code = n.code && r.source = n.source && r.unit = n.unit && decide (n.ticks ≤ r.ticks + 33)

/-- The newest record. -/
def ErrFifo.newest (f : ErrFifo) : Option ErrRec := f.recs.getLast?

/-- The FIFO of a severity. -/
def State.fifo (s : State) (sev : Nat) : ErrFifo := s.err.getD sev (.reset sev)

/-- Put back the FIFO of a severity. -/
def State.setFifo (s : State) (sev : Nat) (f : ErrFifo) : State := { s with err := lset s.err sev f }

/-- The fault record that the history keeps (R654, R663). -/
def faultRec (r : ErrRec) : RepairRec :=
  { kind := 9, die := r.source, element := r.code, replacement := 0xFFFFFFFF, boot := r.boot, ticks := r.ticks,
    extra := r.toBytes.take 8 ++ (r.toBytes.drop 24).take 8 }

/-- The AER message of a record (R651). -/
def State.aer (s : State) (sev : Nat) : State :=
  if sev = 0 then s.emit (.aer false) else if sev = 1 then s else s.emit (.aer true)

/-- What a FATAL record does (R651): its fault record is committed, every die clock but the always-on domain's is gated,
every laser is off, FAULT# is asserted until a COLD reset. -/
def State.fatal (s : State) (r : ErrRec) : State :=
  let m := s.store.mram
  let s := { s with store := { s.store with mram := { m with repairs := m.repairs ++ [faultRec r] } } }
  let s := { s with pwr := { s.pwr with fatal := true, faultPin := true }, optics := { s.optics with dark := true } }
  s.emit (.pin 0 true)

/-- Raise the vector of a FIFO whose depth reached its threshold (R656). -/
def State.fifoIrq (s : State) (sev : Nat) : State :=
  let f := s.fifo sev
  if decide (f.recs.length ≥ f.threshold) && !f.raised then
    let s := s.setFifo sev { f with raised := true }
    if f.cfg.bit 11 then s.emit (.msi (f.cfg.fld 0 11)) else s
  else if decide (f.recs.length < f.threshold) then s.setFifo sev { f with raised := false }
  else s

/-- A device address as a global address: with this device's ID, where it has one (R164, R649). -/
def State.globalOf (s : State) (da : Nat) : Nat :=
  if da < 2 ^ 46 && s.rb Reg.KEY_DEV_ID 31 then s.rf Reg.KEY_DEV_ID 0 18 * 2 ^ 46 + da else da

/-- A record's occurrence (R649 to R656): merged into the newest record, or a new seq, placed in its FIFO or dropped. -/
def State.raiseErr (s : State) (sev code source unit : Nat) (addr : Option Nat) (detail : Nat) : State :=
  let r : ErrRec := { seq := s.errSeq, sev, code, source, merged := false, unit, boot := s.boot, ticks := s.ticks % 2 ^ 48,
                      count := 1, addr := addr.map s.globalOf, detail }
  let f := s.fifo sev
  match f.newest with
  | some n =>
    if n.mergesWith r then
      let n := { n with merged := true, count := min 65535 (n.count + 1) }
      s.setFifo sev { f with recs := f.recs.dropLast ++ [n] }
    else place f r
  | none => place f r
where
  place (f : ErrFifo) (r : ErrRec) : State :=
    let s := { s with errSeq := s.errSeq + 1 }
    let s := if f.recs.length < fifoCap r.sev then s.setFifo r.sev { f with recs := f.recs ++ [r] }
             else s.setFifo r.sev { f with overflow := min 0xFFFF (f.overflow + 1) }
    let s := s.aer r.sev
    let s := s.fifoIrq r.sev
    if r.sev = 3 then s.fatal r else if r.sev = 2 then s.storePush (.repair (faultRec r)) else s

/-- The severity of a status that an operation returns (R652). -/
def statusSev (code : Nat) : Nat := if code = 1 then 1 else if code = 7 ∨ code = 8 then 2 else 0

/-- The record of an exception (R131, R652): none for success and for ENERGY_DEFER. -/
def State.raiseStatus (s : State) (code source unit : Nat) (addr : Option Nat) (detail : Nat) : State :=
  if code = 0 ∨ code = 9 then s else s.raiseErr (statusSev code) code source unit addr detail

/-! ### The device address (R162 to R168) -/

/-- Bytes of a stack that exist (R1, R2). -/
def State.stackSize (s : State) : Nat := s.fuses.stackHeight * 2 ^ 32

/-- The stores: stack n is n, the pool of Tt 16 + t, cell i of Tt 20 + 256 t + i. -/
def storeBase (st : Nat) : Nat :=
  if st < 16 then st * 0x1000000000
  else if st < 20 then 0x10000000000 + (st - 16) * 0x10000000
  else 0x20000000000 + (st - 20) / 256 * 0x10000000 + (st - 20) % 256 * 0x100000

/-- The size of a store. -/
def State.storeSize (s : State) (st : Nat) : Nat :=
  if st < 16 then s.stackSize else if st < 20 then 0x8000000 else 0x100000

/-- The store that a byte lies in; none for a hole (R162, R163). -/
def State.storeOf (s : State) (da : Nat) : Option Nat :=
  if da < 0x10000000000 then
    if da % 0x1000000000 < s.stackSize then some (da / 0x1000000000) else none
  else if da < 0x10040000000 then
    if da % 0x10000000 < 0x8000000 then some (16 + (da - 0x10000000000) / 0x10000000) else none
  else if da < 0x20000000000 then none
  else if da < 0x20040000000 then
    some (20 + (da - 0x20000000000) / 0x10000000 * 256 + da % 0x10000000 / 0x100000)
  else none

/-- The one store in which a range lies (R163). An empty range lies in the store of its first byte. -/
def State.rangeStore (s : State) (da len : Nat) : Option Nat :=
  match s.storeOf da with
  | some st => if da + len ≤ storeBase st + s.storeSize st then some st else none
  | none => none

/-- The tensor die that owns a store (R29, R57). -/
def storeDie (st : Nat) : Nat := if st < 16 then st / 4 else if st < 20 then st - 16 else (st - 20) / 256

/-- One byte of memory. (DESIGN CHOICE, log 5) -/
def State.byte (s : State) (da : Nat) : Byte := tget 0 s.mem.bytes da

/-- Read n bytes. (DESIGN CHOICE, log 5) -/
def State.readMem (s : State) (da n : Nat) : List Byte := (List.range n).map fun i => s.byte (da + i)

/-- The size of the protection unit at an address (R168): a 64-byte burst of a stack, an 8-byte word elsewhere. -/
def protUnit (da : Nat) : Nat := if da < 0x10000000000 then 64 else 8

/-- A write that covers a whole unit clears its uncorrectable error (R168). -/
def Mem.clearBad (m : Mem) (da len : Nat) : Mem :=
  { m with bad := m.bad.filter fun kv => !(decide (da ≤ kv.1) && decide (kv.1 + protUnit kv.1 ≤ da + len)) }

/-- Store consecutive bytes (R168). -/
def Mem.put (m : Mem) (da : Nat) (bs : List Byte) : Mem :=
  Mem.clearBad { m with bytes := tfill 0 m.bytes da bs } da bs.length

/-- Write bytes to memory (R168). -/
def State.writeMem (s : State) (da : Nat) (bs : List Byte) : State := { s with mem := s.mem.put da bs }

/-- The unit of data that one uncorrectable word poisons for a read (R168): the 128-byte bank word, or the 64-byte burst. -/
def poisonUnit (da : Nat) : Nat := if da < 0x10000000000 then 64 else 128

/-- Is a byte poisoned for a read (R168)? -/
def State.poisonByte (s : State) (da : Nat) : Bool :=
  s.mem.bad.any fun kv => kv.2 && kv.1 / poisonUnit kv.1 == da / poisonUnit da && decide (kv.1 < 0x10000000000) == decide (da < 0x10000000000)

/-- Does a read of a range meet a poisoned unit? -/
def State.poisonRange (s : State) (da len : Nat) : Bool :=
  s.mem.bad.any fun kv =>
    let u := poisonUnit kv.1
    kv.2 && decide (kv.1 / u * u < da + len) && decide (da < kv.1 / u * u + u)

/-- The bank of a cell memory or die pool, or the pseudo-channel of a stack, in which an address lies (R166). -/
def bankOf (da : Nat) : Nat :=
  if da < 0x10000000000 then da / 256 % 64 else if da < 0x20000000000 then da / 128 % 64 else da / 0x20000 % 8

/-- The element code of the row of a stack in which an address lies (R664). -/
def hbmElement (da : Nat) : Nat := da / 256 % 64 * 2 ^ 24 + Config.hbmRow da % 2 ^ 24

/-- An uncorrectable read of an HBM row: the second one, in another boot or at least 1 s after the first, is recorded for repair
(R662). -/
def State.hbmErr (s : State) (da : Nat) : State :=
  let key := da / 0x1000000000 * 2 ^ 30 + hbmElement da
  let rec_ : RepairRec := { kind := 2, die := dieW (da / 0x1000000000), element := hbmElement da, replacement := 0xFFFFFFFF,
                            boot := s.boot, ticks := s.ticks % 2 ^ 48, extra := [] }
  match tget none s.test.rowErrs key with
  | none => { s with test := { s.test with rowErrs := tset none s.test.rowErrs key (some (s.boot, s.ticks)) } }
  | some (b, t) =>
    if (b ≠ s.boot || decide (s.ticks ≥ t + 32768)) &&
        !(s.store.mram.repairs.any fun r => r.kind = 2 && r.die = rec_.die && r.element = rec_.element) then s.storePush (.repair rec_)
    else s

/-- A read that meets uncorrectable units raises a record for each (R168, R652). (DESIGN CHOICE, log 47) -/
def State.eccRead (s : State) (da len : Nat) : State :=
  (s.mem.bad.filter fun kv =>
    let u := poisonUnit kv.1
    kv.2 && decide (kv.1 / u * u < da + len) && decide (da < kv.1 / u * u + u)).foldl (fun s kv =>
      match s.storeOf kv.1 with
      | none => s
      | some st =>
        let s := s.raiseErr 1 0x21 (if st < 16 then dieW st else storeDie st) (bankOf kv.1) (some kv.1) 0
        if st < 16 then s.hbmErr kv.1 else s) s

/-! ### Tiled regions (R174 to R187) -/

/-- Bytes of a slot. -/
def Region.slot (r : Region) : Nat := r.slotUnits * 64

/-- Bytes of the payload. -/
def Region.size (r : Region) : Nat := r.count * r.slot

/-- Do two ranges touch? -/
def rangesMeet (a n b m : Nat) : Bool := decide (0 < n) && decide (0 < m) && decide (a < b + m) && decide (b < a + n)

/-- Does a range touch a valid region's payload? -/
def touchesPayload (t : Tab Region) (da len : Nat) : Bool :=
  t.any fun kv => kv.2.valid && rangesMeet da len kv.2.base kv.2.size

/-- Does a range touch a valid region's trailer array? -/
def touchesTrailer (t : Tab Region) (da len : Nat) : Bool :=
  t.any fun kv => kv.2.valid && rangesMeet da len kv.2.trl (kv.2.count * 8)

/-- A write there faults (R180). -/
def touchesTiled (t : Tab Region) (da len : Nat) : Bool := touchesPayload t da len || touchesTrailer t da len

/-- The region whose payload holds a whole range. -/
def regionIn (t : Tab Region) (da len : Nat) : Option Region :=
  (t.find? fun kv => kv.2.valid && decide (kv.2.base ≤ da) && decide (da + len ≤ kv.2.base + kv.2.size) && decide (da < kv.2.base + kv.2.size)).map (·.2)

/-- The kind of a MOVE's range (R187): tiled in one region, untiled, or neither. -/
inductive RKind where
  | tiled (r : Region)
  | untiled
  | mixed
deriving DecidableEq, Repr

/-- The kind of a range (R187). (DESIGN CHOICE, log 17) -/
def rangeKind (t : Tab Region) (da len : Nat) : RKind :=
  match regionIn t da len with
  | some r => .tiled r
  | none => if touchesPayload t da len then .mixed else .untiled

/-- A tile trailer (R176). -/
structure Trailer where
  crc : Nat
  epoch : Nat
  fmt : Nat
  flags : Nat
deriving DecidableEq, Repr

/-- flags [0], poison. -/
def Trailer.poison (t : Trailer) : Bool := t.flags % 2 == 1
/-- flags [1], valid. -/
def Trailer.valid (t : Trailer) : Bool := t.flags / 2 % 2 == 1

/-- The 8 bytes of a trailer. -/
def Trailer.toBytes (t : Trailer) : List Byte :=
  toBytesLE 4 t.crc ++ toBytesLE 2 t.epoch ++ toBytesLE 1 t.fmt ++ toBytesLE 1 t.flags

/-- Read a trailer. -/
def State.trailer (s : State) (da : Nat) : Trailer :=
  let b := s.readMem da 8
  { crc := bfld b 0 4, epoch := bfld b 4 2, fmt := bfld b 6 1, flags := bfld b 7 1 }

/-- The trailer that a producer writes over a tile's bytes (R176 to R179). -/
def mkTrailer (bytes : List Byte) (epoch fmt : Nat) (poison sealed : Bool) : Trailer :=
  { crc := (crc32c bytes).toNat, epoch := epoch % 65536, fmt, flags := poison.toNat + 2 + 4 * sealed.toNat }

/-- The tile size of a format code; 0 where the code names none (R135). -/
def tileBytes : Nat → Nat
  | 0x01 | 0x02 | 0x03 => 8192
  | 0x04 | 0x05 | 0x0A => 4096
  | 0x06 | 0x07 | 0x09 => 4224
  | 0x08 => 2176
  | 0x0B => 2048
  | _ => 0

/-- The bytes S that a tile's CRC covers (R177). -/
def tileSize (fmt sealFmt : Nat) : Nat := if tileBytes fmt = 0 then tileBytes sealFmt else tileBytes fmt

/-- The address of the trailer of the tile that starts at `da` in region r. -/
def Region.trailerDA (r : Region) (da : Nat) : Nat := r.trl + 8 * ((da - r.base) / r.slot)

/-- A tile as a consumer reads it: its bytes, its trailer, whether the check of R182 passes (items 1 to 4). -/
structure TileRead where
  bytes : List Byte
  trl : Trailer
  ok : Bool
deriving DecidableEq, Repr

/-- The counter of failed checks of a die that ran the operation (R186, R200): a tensor die, or Weir n as 4 + n. -/
def State.countCheck (s : State) (die n : Nat) : State :=
  if die < 4 then s.bumpN (Reg.Tt_MEM_TILE_CHECK die) n else s.bumpN (Reg.Wn_MEM_TILE_CHECK (die - 4)) n

/-- Count a same-word port conflict in the die that holds the store (R172, R200). -/
def State.countPortBusy (s : State) (da : Nat) : State :=
  match s.storeOf da with
  | some st => if st < 16 then s else s.bump (Reg.Tt_MEM_PORT_BUSY (storeDie st))
  | none => s

/-! ### The KV partition (R210) -/

/-- The start of the partition within each stack, in bytes. -/
def State.kvBase (s : State) : Nat := s.rf Reg.KEY_KV_PART 0 16 * 2 ^ 20

/-- The size of the partition, in bytes. -/
def State.kvSize (s : State) : Nat := s.rf Reg.KEY_KV_PART 16 16 * 2 ^ 20

/-- Does a range within one store touch the partition? -/
def State.touchesKv (s : State) (da len : Nat) : Bool :=
  decide (da < 0x10000000000) && rangesMeet (da % 0x1000000000) len s.kvBase s.kvSize

end Sys2Proof.Machine
end

