-- ==== Sys2Proof/Machine/LineCode.lean ====
section
/-! DEFINITION. The line code of Bed lanes and fiber lanes (R326 to R331, R334, R358 to R361, R365): 258-bit blocks, the scrambler, block
lock, the Bed FEC and the fabric FEC, striping, packet pointers and framing. A word of n bits is a number whose highest bit is sent
first. (DEDUCED, log 61) -/

namespace Sys2Proof.Machine

/-- A function at a number that is evaluated first: `k n`. -/
def force {α : Type} (n : Nat) (k : Nat → α) : α :=
  match n with
  | 0 => k 0
  | m + 1 => k (m + 1)

/-- `force` is application. -/
@[simp] theorem force_eq {α : Type} (n : Nat) (k : Nat → α) : force n k = k n := by cases n <;> rfl

/-! ### Bytes and blocks (R326, R331) -/

/-- The number that bytes spell, the first byte highest: bytes go out first to last, most significant bit first (R360). -/
def ofBytesBE (bs : List Byte) : Nat := bs.foldl (fun n b => 256 * n + b.toNat) 0

/-- The n bytes of a number, the first byte highest. -/
def toBytesBE (n x : Nat) : List Byte := (toBytesLE n x).reverse

/-- A block: its header, 2 for a control block and 1 for a data block, and its 256 payload bits (R326). -/
def mkBlock (ctl : Bool) (payload : Nat) : Nat := (if ctl then 2 else 1) * 2 ^ 256 + payload % 2 ^ 256

/-- The header of a block. -/
def blockHdr (b : Nat) : Nat := b / 2 ^ 256 % 4

/-- A valid header has one transition (R326). -/
def hdrValid (b : Nat) : Bool := blockHdr b == 1 || blockHdr b == 2

/-! ### The scrambler x^58 + x^39 + 1 (R327) -/

/-- The history `h` of scrambled bits, its last bit lowest, extended by the n scrambled bits of `x`. -/
def scramble : Nat → Nat → Nat → Nat
  | 0, h, _ => h
  | n + 1, h, x => force (2 * h + ((x >>> n) ^^^ (h >>> 38) ^^^ (h >>> 57)) % 2) fun h => scramble n h x

/-- The n bits that the scrambled bits `x` stand for, after the history `h`. -/
def descramble (n h x : Nat) : Nat :=
  let t := h * 2 ^ n + x
  (t ^^^ (t >>> 39) ^^^ (t >>> 58)) % 2 ^ n

/-- The last 58 scrambled bits after n more. -/
def scrHist (n h x : Nat) : Nat := (h * 2 ^ n + x) % 2 ^ 58

/-! ### GF(2^10) with field polynomial x^10 + x^3 + 1 (R330, R359) -/

/-- Times α. -/
def gfStep (a : Nat) : Nat := if 2 * a ≥ 1024 then (2 * a) ^^^ 0x409 else 2 * a

/-- Times α^n. -/
def gfShift : Nat → Nat → Nat
  | 0, a => a
  | n + 1, a => force (gfStep a) (gfShift n)

/-- α^n. -/
def gfExp (n : Nat) : Nat := gfShift n 1

/-- The product: the top n bits of b, highest first, onto `acc`. -/
def gfMulGo : Nat → Nat → Nat → Nat → Nat
  | 0, _, _, acc => acc
  | n + 1, a, b, acc => force (gfStep acc ^^^ (if b.testBit n then a else 0)) (gfMulGo n a b)

/-- The product. -/
def gfMul (a b : Nat) : Nat := gfMulGo 10 a b 0

/-- The inverse of a nonzero element: a^1022. -/
def gfInv (a : Nat) : Nat := ((List.range 9).foldl (fun (x : Nat × Nat) _ => let t := gfMul x.1 x.1; (t, gfMul x.2 t)) (a, 1)).2

/-- The powers of α from α^0, n of them, each with its exponent. -/
def gfPows : Nat → Nat → Nat → List (Nat × Nat)
  | 0, _, _ => []
  | n + 1, k, a => (k, a) :: gfPows n (k + 1) (gfStep a)

/-! ### The Bed FEC: BCH, 516 bits, 2 errors (R330) -/

/-- The generator: (x^10 + x^3 + 1)(x^10 + x^3 + x^2 + x + 1), the minimal polynomials of α and of α^3. -/
def bchGen : Nat := 0x101877

/-- The remainder, over GF(2), of a polynomial of n + d bits by `g` of degree d. -/
def polyMod (g d : Nat) : Nat → Nat → Nat
  | 0, r => r
  | n + 1, r => force (if r.testBit (n + d) then r ^^^ (g <<< n) else r) (polyMod g d n)

/-- The remainder of a codeword by the generator: its syndrome. -/
def bchRem (w : Nat) : Nat := polyMod bchGen 20 496 w

/-- The codeword of 496 message bits: the message, then 20 parity bits. -/
def bchEncode (m : Nat) : Nat := let w := m <<< 20; w ^^^ bchRem w

/-- A binary polynomial of n bits at α^e. -/
def bchAt (e n r : Nat) : Nat := (List.range n).foldl (fun a k => if r.testBit k then a ^^^ gfExp (e * k) else a) 0

/-- A codeword with up to 2 bit errors corrected, and how many there were; none where it is uncorrectable. (DEDUCED, log 61) -/
def bchFix (w : Nat) : Option (Nat × Nat) :=
  let r := bchRem w
  if r = 0 then some (w, 0)
  else
    let s1 := bchAt 1 20 r
    let s3 := bchAt 3 20 r
    let cube := fun a => gfMul a (gfMul a a)
    let ps := gfPows 516 0 1
    match ps.find? fun p => p.2 == s1 && cube p.2 == s3 with
    | some p => some (w ^^^ (1 <<< p.1), 1)
    | none =>
      let mate := fun (p : Nat × Nat) => ps.find? fun q => q.1 > p.1 && q.2 == (p.2 ^^^ s1)
      match ps.find? fun p => (cube p.2 ^^^ cube (p.2 ^^^ s1)) == s3 && (mate p).isSome with
      | some p => (mate p).map fun q => (w ^^^ (1 <<< p.1) ^^^ (1 <<< q.1), 2)
      | none => none

/-! ### A lane's receiver (R327, R329 to R331) -/

/-- A header is seen: the last 64 are kept, 1 for an invalid one, and how many valid ones came in a row. -/
def LaneRx.header (l : LaneRx) (b : Nat) : LaneRx :=
  let ok := hdrValid b
  { l with hdrs := (2 * l.hdrs + (!ok).toNat) % 2 ^ 64, run := if ok then min 64 (l.run + 1) else 0 }

/-- The invalid headers among the last 64. -/
def LaneRx.invalid (l : LaneRx) : Nat := ((List.range 64).filter l.hdrs.testBit).length

/-- Has the lane no block lock (R329)? It is gained after 64 valid headers in a row, and lost at 16 invalid ones of 64. -/
def LaneRx.noLock (l : LaneRx) (was : Bool) : Bool := if was then l.run != 64 else decide (16 ≤ l.invalid)

/-- What a codeword of a Bed lane brings (R330, R331): the bits corrected, whether it was uncorrectable, whether block A is a control
block, the 32 payload bytes of A and the 29 of B. -/
structure Codeword where
  fixed : Nat
  bad : Bool
  ctl : Bool
  payA : List Byte
  payB : List Byte
deriving DecidableEq, Repr

/-- A codeword is corrected, then descrambled (R327). -/
def LaneRx.codeword (l : LaneRx) (w : Nat) : LaneRx × Codeword :=
  let fix := bchFix w
  let v := (fix.map (·.1)).getD w
  let a := v / 2 ^ 258 % 2 ^ 256
  let b := v / 2 ^ 20 % 2 ^ 236
  let h := scrHist 256 l.scr a
  ({ l with scr := scrHist 236 h b },
   { fixed := (fix.map (·.2)).getD 0, bad := fix.isNone, ctl := blockHdr (v / 2 ^ 258) == 2,
     payA := toBytesBE 32 (descramble 256 l.scr a), payB := toBytesBE 29 (descramble 236 h b / 16) })

/-- One block of a lane in training (R329, R330): the codeword phase is the one at which 8 codewords in a row have a zero syndrome; once it is
found, each codeword is delivered. -/
def LaneRx.block (l : LaneRx) (b : Nat) : LaneRx × Option Codeword :=
  let w := l.last * 2 ^ 258 + b
  let z := if bchRem w = 0 then (if l.odd then l.zeros.2 else l.zeros.1) + 1 else 0
  let phase := match l.phase with
    | some p => some p
    | none => if z ≥ 8 then some l.odd else none
  let l' := { l.header b with last := b, odd := !l.odd, zeros := if l.odd then (l.zeros.1, z) else (z, l.zeros.2), phase }
  if phase = some l.odd then let (l', c) := l'.codeword w; (l', some c) else (l', none)

/-- The blocks of a lane in training, and the control blocks that corrected codewords brought while the lane had block lock: their 32 bytes. -/
def BLane.train (x : BLane) (blocks : List (BitVec 258)) : BLane × List (List Byte) :=
  blocks.foldl (fun acc b =>
    let x := acc.1
    let (rx, c) := x.rx.block b.toNat
    let x := { x with rx, noLock := rx.noLock x.noLock }
    (x, match c with
      | some c => if !x.noLock && c.ctl && !c.bad then acc.2 ++ [c.payA] else acc.2
      | none => acc.2)) (x, [])

/-! ### A lane's transmitter -/

/-- A codeword as sent (R326, R327, R330): block A of 32 bytes, block B of 29 bytes and 4 zero bits, scrambled, and the parity; with the
history of scrambled bits after it. -/
def sendCodeword (h : Nat) (ctl : Bool) (payA payB : List Byte) : Nat × BitVec 516 :=
  let a := scramble 256 h (ofBytesBE (padTo 32 payA))
  let b := scramble 236 a (ofBytesBE (padTo 29 payB) * 16)
  (b % 2 ^ 58, BitVec.ofNat 516 (bchEncode ((mkBlock ctl a) * 2 ^ 238 + 2 ^ 236 + b % 2 ^ 236)))

/-! ### Striping over a Bed link (R334) -/

/-- The bytes that lanes carry, k of each, back in the order of the link stream. -/
def destripe (k : Nat) (rows : List (List Byte)) : List Byte := (List.range k).flatMap fun j => rows.map fun r => r.getD j 0

/-- Byte m of the stream goes to the lane at position m mod D, as its byte m div D. -/
def stripe (d k : Nat) (bs : List Byte) : List (List Byte) := (List.range d).map fun i => (List.range k).map fun j => bs.getD (j * d + i) 0

/-- The flits that a stream holds, in order (R334), and the bytes left over. -/
def cutFlits : Nat → List Byte → List (List Byte) × List Byte
  | 0, bs => ([], bs)
  | n + 1, bs => if bs.length < 72 then ([], bs) else let r := cutFlits n (bs.drop 72); (bs.take 72 :: r.1, r.2)

/-! ### The fabric FEC: RS(272,257) over GF(2^10), generator roots α^0 to α^14 (R359 to R361) -/

/-- A polynomial, highest coefficient first, at α^j, by Horner's rule from `a`. -/
def rsAt (j : Nat) : List Nat → Nat → Nat
  | [], a => a
  | c :: cs, a => force (gfShift j a ^^^ c) (rsAt j cs)

/-- The syndromes. -/
def rsSynd (cs : List Nat) : List Nat := (List.range 15).map fun j => rsAt j cs 0

/-- The generator polynomial, highest coefficient first. -/
def rsGen : List Nat :=
  (List.range 15).foldl (fun g j => List.zipWith (· ^^^ ·) (g ++ [0]) (0 :: g.map (gfShift j))) [1]

/-- The parity of 257 message symbols. -/
def rsParity (ms : List Nat) : List Nat :=
  let g := rsGen.drop 1
  ms.foldl (fun r m =>
    let f := r.headD 0 ^^^ m
    List.zipWith (fun a b => a ^^^ gfMul f b) (r.drop 1 ++ [0]) g) (List.replicate 15 0)

/-- One round of Berlekamp and Massey: the locator C and the one before the last change B, both lowest coefficient first, its length L, the steps
since that change, and its discrepancy. -/
def rsRound (syn : List Nat) (st : List Nat × List Nat × Nat × Nat × Nat) (n : Nat) : List Nat × List Nat × Nat × Nat × Nat :=
  let (c, b, len, m, last) := st
  let d := (List.range (len + 1)).foldl (fun a i => a ^^^ gfMul (c.getD i 0) (syn.getD (n - i) 0)) 0
  if d = 0 then (c, b, len, m + 1, last)
  else
    let f := gfMul d (gfInv last)
    let c' := (List.range (max c.length (b.length + m))).map fun i => c.getD i 0 ^^^ (if i < m then 0 else gfMul f (b.getD (i - m) 0))
    if 2 * len ≤ n then (c', c, n + 1 - len, 1, d) else (c', b, len, m + 1, last)

/-- A polynomial, lowest coefficient first, at x. -/
def gfEval (cs : List Nat) (x : Nat) : Nat := cs.foldr (fun c a => gfMul a x ^^^ c) 0

/-- A codeword of 272 symbols with up to 7 symbol errors corrected, and the symbols that were wrong; none where it is uncorrectable. -/
def rsFix (cs : List Nat) : Option (List Nat × List Nat) :=
  let syn := rsSynd cs
  if syn.all (· == 0) then some (cs, [])
  else
    let (loc, _, len, _, _) := (List.range 15).foldl (rsRound syn) ([1], [1], 0, 1, 1)
    let inv := fun i => gfExp ((1023 - (271 - i)) % 1023)
    let bad := (List.range 272).filter fun i => gfEval loc (inv i) == 0
    if len > 7 || bad.length ≠ len then none
    else
      let omega := (List.range 15).map fun k => (List.range (k + 1)).foldl (fun a i => a ^^^ gfMul (loc.getD i 0) (syn.getD (k - i) 0)) 0
      let diff := (List.range (loc.length - 1)).map fun k => if k % 2 = 0 then loc.getD (k + 1) 0 else 0
      let fixed := cs.zipIdx.map fun y =>
        if bad.contains y.2 then
          let x := inv y.2
          y.1 ^^^ gfMul (gfExp (271 - y.2)) (gfMul (gfEval omega x) (gfInv (gfEval diff x)))
        else y.1
      if (rsSynd fixed).all (· == 0) then some (fixed, bad) else none

/-- The 272 symbols of a group of 2,720 bits (R359). -/
def groupSyms (g : Nat) : List Nat := (List.range 272).map fun i => g / 2 ^ (10 * (271 - i)) % 1024

/-- Codeword c of a group over w lanes: its symbol i is symbol i of the lane at position (c + i) mod w (R359). -/
def groupCodeword (lanes : List (List Nat)) (c : Nat) : List Nat :=
  (List.range 272).map fun i => (lanes.getD ((c + i) % lanes.length) []).getD i 0

/-- The groups of w lanes from their codewords: the converse of `groupCodeword`. -/
def groupLanes (cws : List (List Nat)) : List Nat :=
  let w := cws.length
  (List.range w).map fun l => (List.range 272).foldl (fun g i => g * 1024 + (cws.getD ((l + w * 272 - i) % w) []).getD i 0) 0

/-- What a codeword brings (R360): the offset in bytes of the first packet that begins in it, if any, and its 320 bytes; none where it is
uncorrectable. -/
def codewordOf (cs : List Nat) : Option (Option Nat × List Byte) :=
  let p := cs.headD 0
  if p = 0x3FF then some (none, toBytesBE 320 (((cs.drop 1).take 256).foldl (fun n c => n * 1024 + c) 0))
  else if p ≤ 79 then some (some (4 * p), toBytesBE 320 (((cs.drop 1).take 256).foldl (fun n c => n * 1024 + c) 0))
  else none

/-- The symbols of a codeword as sent: pointer, 320 bytes, parity. -/
def codewordSyms (ptr : Option Nat) (bs : List Byte) : List Nat :=
  let n := ofBytesBE (padTo 320 bs)
  let ms := (match ptr with | some p => p / 4 | none => 0x3FF) :: (List.range 256).map fun i => n / 2 ^ (10 * (255 - i)) % 1024
  ms ++ rsParity ms

/-! ### Packets in the stream (R360, R361, R377) -/

/-- What the stream gave: a packet's bytes, or none where framing was lost. -/
abbrev Framed := Option (List Byte)

/-- The packets that begin a framed stream (R376, R377): words of four zero bytes are gaps, an invalid link word loses framing. The rest of the
stream, whether it is framed, and the packets. -/
def cutPackets : Nat → List Byte → List Byte × Bool × List Framed
  | 0, bs => (bs, true, [])
  | n + 1, bs =>
    if bs.length < 4 then (bs, true, [])
    else if allZero (bs.take 4) then cutPackets n (bs.drop 4)
    else
      let c := bfld bs 2 1
      let len := 36 + 32 * (c / 8 % 16)
      if c < 128 || c % 8 > 4 || c / 8 % 16 > 8 || bfld bs 3 1 ≠ 0 then ([], false, [none])
      else if bs.length < len then (bs, true, [])
      else let (r, f, ps) := cutPackets n (bs.drop len); (r, f, some (bs.take len) :: ps)

/-- One codeword of the stream (R361): an uncorrectable one spoils the packet it touches and loses framing, which resumes at the next pointer. -/
def PortRx.codeword (x : PortRx) (cw : Option (Option Nat × List Byte)) : PortRx × List Framed :=
  match cw with
  | none => ({ stream := [], framed := false }, if x.framed then [none] else [])
  | some (ptr, bs) =>
    if x.framed then
      let (r, f, ps) := cutPackets (x.stream.length + bs.length) (x.stream ++ bs)
      ({ stream := r, framed := f }, ps)
    else
      match ptr with
      | none => (x, [])
      | some p =>
        let (r, f, ps) := cutPackets bs.length (bs.drop p)
        ({ stream := r, framed := f }, ps)

/-! ### Control slots (R365) -/

/-- The lane parity of bytes 0 to 29: bit j is the even parity of every bit b with b mod 16 = j. -/
def laneParity (bs : List Byte) : Nat := (List.range 15).foldl (fun a i => a ^^^ bfld bs (2 * i) 2) 0

/-- The 32 bytes of a control block of a fiber lane. -/
def slotBytes (bs : List Byte) : List Byte := padTo 30 bs ++ toBytesLE 2 (laneParity (padTo 30 bs))

/-- Do 32 bytes pass their parity? -/
def slotOk (bs : List Byte) : Bool := bs.length == 32 && laneParity bs == bfld bs 30 2

/-- One block of a fiber lane: its header is seen, its payload descrambled; whether it is a control block, and its 32 bytes. (DEDUCED, log 61) -/
def BLane.fiberBlock (x : BLane) (b : Nat) : BLane × Bool × List Byte :=
  let rx := x.rx.header b
  let p := b % 2 ^ 256
  ({ x with rx := { rx with scr := scrHist 256 rx.scr p }, noLock := rx.noLock x.noLock }, blockHdr b == 2, toBytesBE 32 (descramble 256 rx.scr p))

/-- The data blocks of a fiber lane (R359, R364): a SKIP is deleted, the payload of every other block joins the bits that wait for their group. -/
def BLane.fiberData (x : BLane) (blocks : List (BitVec 258)) : BLane :=
  blocks.foldl (fun x b =>
    let (x, ctl, p) := x.fiberBlock b.toNat
    if ctl && bfld p 0 1 = 0x5A then x
    else { x with rx := { x.rx with bits := x.rx.bits * 2 ^ 256 + ofBytesBE p, nbits := x.rx.nbits + 256 } }) x

/-- A block as sent on a lane, with the history of scrambled bits after it. -/
def sendBlock (h : Nat) (ctl : Bool) (p : Nat) : Nat × BitVec 258 :=
  let a := scramble 256 h p
  (a % 2 ^ 58, BitVec.ofNat 258 (mkBlock ctl a))

/-- Several blocks. -/
def sendBlocks (h : Nat) (ps : List (Bool × Nat)) : Nat × List (BitVec 258) :=
  ps.foldl (fun acc p => let (h, b) := sendBlock acc.1 p.1 p.2; (h, acc.2 ++ [b])) (h, [])

end Sys2Proof.Machine
end

