-- ==== Sys2Proof/Machine/Float.lean ====
section
/-! DEFINITION. Number formats and arithmetic (R135 to R158): the element encodings as exact values, rounding in every mode,
the conversions between the formats and FP32, FP32 arithmetic, and the special functions within their bounds. -/

namespace Sys2Proof.Machine

/-- An exact value: NaN, an infinity, or a finite sign and magnitude m × 2^e (zero keeps its sign). -/
inductive FV where
  | nan
  | inf (neg : Bool)
  | fin (neg : Bool) (m : Nat) (e : Int)
deriving DecidableEq, Repr

/-- The rounding modes of R109; a stochastic rounding carries its 16-bit draw (R151). -/
inductive Rnd where
  | rne | sr (draw : Nat) | rtz
deriving DecidableEq, Repr

/-- How a floating-point format writes infinity and NaN (R137). -/
inductive Spec where
  | ieee | e4m3 | none
deriving DecidableEq, Repr

/-- A floating-point element format (R137). -/
structure FpFmt where
  ebits : Nat
  mbits : Nat
  bias : Nat
  spec : Spec
deriving DecidableEq, Repr

def fp32 : FpFmt := { ebits := 8, mbits := 23, bias := 127, spec := .ieee }
def bf16 : FpFmt := { ebits := 8, mbits := 7, bias := 127, spec := .ieee }
def fp16 : FpFmt := { ebits := 5, mbits := 10, bias := 15, spec := .ieee }
def e4m3 : FpFmt := { ebits := 4, mbits := 3, bias := 7, spec := .e4m3 }
def e5m2 : FpFmt := { ebits := 5, mbits := 2, bias := 15, spec := .ieee }
def e2m1 : FpFmt := { ebits := 2, mbits := 1, bias := 1, spec := .none }

/-- 2^n as a natural number, 1 for a negative exponent. -/
def pow2 (n : Int) : Nat := 2 ^ n.toNat

/-- How many bits a magnitude takes. -/
def bitLen (m : Nat) : Nat := if m = 0 then 0 else Nat.log2 m + 1

/-- The exponent of the quantum of the smallest subnormal. -/
def FpFmt.qmin (f : FpFmt) : Int := 1 - (f.bias : Int) - f.mbits

/-- The largest exponent field that holds finite values. -/
def FpFmt.emaxField (f : FpFmt) : Nat :=
  match f.spec with | .ieee => 2 ^ f.ebits - 2 | _ => 2 ^ f.ebits - 1

/-- The largest finite magnitude, as (m, e). -/
def FpFmt.maxFin (f : FpFmt) : Nat × Int :=
  let m := match f.spec with | .e4m3 => 2 ^ (f.mbits + 1) - 2 | _ => 2 ^ (f.mbits + 1) - 1
  (m, (f.emaxField : Int) - f.bias - f.mbits)

/-- The exact value of an encoding (R137). -/
def FpFmt.dec (f : FpFmt) (x : Nat) : FV :=
  let m := x % 2 ^ f.mbits
  let e := x / 2 ^ f.mbits % 2 ^ f.ebits
  let s := x / 2 ^ (f.mbits + f.ebits) % 2 == 1
  let top := e == 2 ^ f.ebits - 1
  if f.spec == .ieee && top then (if m = 0 then .inf s else .nan)
  else if f.spec == .e4m3 && top && m == 2 ^ f.mbits - 1 then .nan
  else if e = 0 then .fin s m f.qmin
  else .fin s (2 ^ f.mbits + m) ((e : Int) - f.bias - f.mbits)

/-- Is m1 × 2^e1 above m2 × 2^e2? -/
def magGt (m1 : Nat) (e1 : Int) (m2 : Nat) (e2 : Int) : Bool :=
  let e := min e1 e2
  decide (m1 * pow2 (e1 - e) > m2 * pow2 (e2 - e))

/-- Round the magnitude m × 2^e to `p` significant bits with no quantum below 2^qmin (R109, R151): (n, q) for n × 2^q. -/
def roundMag (p : Nat) (qmin : Int) (r : Rnd) (m : Nat) (e : Int) : Nat × Int :=
  let q := max ((bitLen m : Int) + e - p) qmin
  if e ≥ q then (m * pow2 (e - q), q)
  else
    let d := (q - e).toNat
    let lo := m / 2 ^ d
    let rem := m % 2 ^ d
    let up := match r with
      | .rne => decide (2 * rem > 2 ^ d) || (decide (2 * rem = 2 ^ d) && lo % 2 == 1)
      | .rtz => false
      | .sr draw => decide (draw < rem * 65536 / 2 ^ d)
    (if up then lo + 1 else lo, q)

/-- The sign bit of a format. -/
def FpFmt.signBit (f : FpFmt) (neg : Bool) : Nat := if neg then 2 ^ (f.ebits + f.mbits) else 0

/-- The encoding of a rounded magnitude n × 2^q that the format holds. -/
def FpFmt.pack (f : FpFmt) (neg : Bool) (n : Nat) (q : Int) : Nat :=
  let carry := decide (n ≥ 2 ^ (f.mbits + 1))
  let n := if carry then n / 2 else n
  let q := if carry then q + 1 else q
  f.signBit neg + (if n < 2 ^ f.mbits then n
    else ((q - f.qmin + 1).toNat) * 2 ^ f.mbits + (n - 2 ^ f.mbits))

/-- The encoding of the largest finite magnitude. -/
def FpFmt.packMax (f : FpFmt) (neg : Bool) : Nat := f.pack neg f.maxFin.1 f.maxFin.2

/-- The canonical NaN of R149 (and 0x7FC0_0000 for FP32, R146). -/
def FpFmt.packNan (f : FpFmt) : Nat :=
  match f.spec with
  | .e4m3 => 0x7F
  | .none => 0
  | .ieee => if f.mbits = 2 then 0x7F else (2 ^ f.ebits - 1) * 2 ^ f.mbits + 2 ^ (f.mbits - 1)

/-- The encoding of an infinity; NaN where the format has none (R149). -/
def FpFmt.packInf (f : FpFmt) (neg : Bool) : Nat :=
  match f.spec with
  | .ieee => f.signBit neg + (2 ^ f.ebits - 1) * 2 ^ f.mbits
  | _ => f.packNan

/-- What a finite value beyond the largest finite becomes (R149): ±∞ in BF16 and FP16 but toward zero, else saturated. -/
def FpFmt.packOver (f : FpFmt) (r : Rnd) (neg : Bool) : Nat :=
  if f.mbits ≥ 7 && r != .rtz then f.packInf neg else f.packMax neg

/-- Convert an exact value to a format under R149. -/
def FpFmt.enc (f : FpFmt) (r : Rnd) : FV → Nat
  | .nan => f.packNan
  | .inf neg => f.packInf neg
  | .fin neg m e =>
    let (n, q) := roundMag (f.mbits + 1) f.qmin r m e
    if magGt n q f.maxFin.1 f.maxFin.2 then f.packOver r neg else f.pack neg n q

/-- An FP32 result (R146, R154): one rounding to nearest even with the exponent range unbounded below, then a magnitude
below 2^−126 becomes a zero of the same sign, a magnitude beyond the range ±∞. -/
def to32 (v : FV) : Word :=
  match v with
  | .fin neg m e =>
    let (n, q) := roundMag 24 ((bitLen m : Int) + e - 24) .rne m e
    if n = 0 || magGt 1 (-126) n q then BitVec.ofNat 32 (fp32.signBit neg)
    else BitVec.ofNat 32 (fp32.enc .rne (.fin neg n q))
  | v => BitVec.ofNat 32 (fp32.enc .rne v)

/-- One rounding to FP32, to nearest even, subnormals kept (R149, R157, R225). -/
def to32g (v : FV) : Word := BitVec.ofNat 32 (fp32.enc .rne v)

/-- An FP32 word at its exact value, subnormals included. -/
def of32 (w : Word) : FV := fp32.dec w.toNat

/-- An FP32 lane as a vector instruction reads it (R154): a subnormal is a zero of the same sign. -/
def of32f (w : Word) : FV :=
  match of32 w with
  | .fin neg m e => if m < 2 ^ 23 then .fin neg 0 0 else .fin neg m e
  | v => v

/-- Is an exact value zero? -/
def FV.isZero : FV → Bool
  | .fin _ 0 _ => true
  | _ => false

/-- The sign of an exact value. -/
def FV.sgn : FV → Bool
  | .nan => false
  | .inf n => n
  | .fin n _ _ => n

/-- The exact negation. -/
def FV.neg : FV → FV
  | .nan => .nan
  | .inf n => .inf !n
  | .fin n m e => .fin (!n) m e

/-- A signed integer times 2^e. -/
def FV.ofInt (i : Int) (e : Int) : FV := .fin (decide (i < 0)) i.natAbs e

/-- The signed mantissa. -/
def sgnMant (neg : Bool) (m : Nat) : Int := if neg then -(m : Int) else m

/-- The exact sum; a sum of unlike signs that is zero is +0. -/
def FV.add : FV → FV → FV
  | .nan, _ => .nan
  | _, .nan => .nan
  | .inf a, .inf b => if a == b then .inf a else .nan
  | .inf a, .fin .. => .inf a
  | .fin .., .inf b => .inf b
  | .fin a m e, .fin b n f =>
    let q := min e f
    let s := sgnMant a (m * pow2 (e - q)) + sgnMant b (n * pow2 (f - q))
    if s = 0 then .fin (a && b) 0 0 else .ofInt s q

/-- The exact product. -/
def FV.mul : FV → FV → FV
  | .nan, _ => .nan
  | _, .nan => .nan
  | .inf a, .inf b => .inf (a != b)
  | .inf a, .fin b n _ => if n = 0 then .nan else .inf (a != b)
  | .fin a m _, .inf b => if m = 0 then .nan else .inf (a != b)
  | .fin a m e, .fin b n f => .fin (a != b) (m * n) (e + f)

/-- A quotient exact enough for any rounding to 24 bits: 70 further bits and a sticky bit below them. -/
def FV.div : FV → FV → FV
  | .nan, _ => .nan
  | _, .nan => .nan
  | .inf _, .inf _ => .nan
  | .inf a, .fin b _ _ => .inf (a != b)
  | .fin a _ _, .inf b => .fin (a != b) 0 0
  | .fin a m e, .fin b n f =>
    if n = 0 then (if m = 0 then .nan else .inf (a != b))
    else
      let k := 70 + bitLen n
      let q := m * 2 ^ k / n
      let st := if m * 2 ^ k % n = 0 then 0 else 1
      .fin (a != b) (2 * q + st) (e - f - k - 1)

/-- Times 2^k, exactly. -/
def FV.scale (v : FV) (k : Int) : FV :=
  match v with | .fin n m e => .fin n m (e + k) | v => v

/-- Less than, for values that are no NaN; zeros are equal. -/
def FV.lt : FV → FV → Bool
  | .nan, _ => false
  | _, .nan => false
  | .inf a, .inf b => a && !b
  | .inf a, .fin .. => a
  | .fin .., .inf b => !b
  | .fin a m e, .fin b n f =>
    let q := min e f
    decide (sgnMant a (m * pow2 (e - q)) < sgnMant b (n * pow2 (f - q)))

/-- The magnitude. -/
def FV.abs : FV → FV
  | .nan => .nan
  | .inf _ => .inf false
  | .fin _ m e => .fin false m e

/-- The greater, with −0 below +0 and NaN when either is (R154). -/
def FV.max (a b : FV) : FV :=
  if a = .nan || b = .nan then .nan
  else if a.isZero && b.isZero then (if a.sgn then b else a)
  else if FV.lt a b then b else a

/-- The lesser, with −0 below +0 and NaN when either is (R154). -/
def FV.min (a b : FV) : FV :=
  if a = .nan || b = .nan then .nan
  else if a.isZero && b.isZero then (if a.sgn then a else b)
  else if FV.lt b a then b else a

/-- The floor of log2 of a nonzero magnitude. -/
def floorLog2 (m : Nat) (e : Int) : Int := (bitLen m : Int) - 1 + e

/-- A signed integer from a rounded magnitude, saturated to w bits (INT8, INT4, MXINT8, R149). -/
def satInt (w : Nat) (neg : Bool) (n : Nat) : Int :=
  let i := sgnMant neg n
  max (-(2 ^ (w - 1) : Int)) (min i (2 ^ (w - 1) - 1))

/-- Round a magnitude to an integer. -/
def roundInt (r : Rnd) (m : Nat) (e : Int) : Nat :=
  let d := (-e).toNat
  if e ≥ 0 then m * pow2 e
  else
    let lo := m / 2 ^ d
    let rem := m % 2 ^ d
    let up := match r with
      | .rne => decide (2 * rem > 2 ^ d) || (decide (2 * rem = 2 ^ d) && lo % 2 == 1)
      | .rtz => false
      | .sr draw => decide (draw < rem * 65536 / 2 ^ d)
    if up then lo + 1 else lo

/-- Convert to a w-bit two's-complement integer (R149): saturated, NaN to 0; as the low w bits. -/
def encInt (w : Nat) (r : Rnd) : FV → Nat
  | .nan => 0
  | .inf neg => if neg then 2 ^ (w - 1) else 2 ^ (w - 1) - 1
  | .fin neg m e =>
    let i := satInt w neg (roundInt r m e)
    (i % (2 ^ w : Int)).toNat

/-- The value of a w-bit two's-complement integer. -/
def decInt (w x : Nat) : FV := .ofInt (toSigned w x) 0

/-- The kind of a tile format's elements. -/
inductive Elem where
  | fp (f : FpFmt)
  | int (w : Nat)
deriving DecidableEq, Repr

/-- A tile format (R135): its elements, their width in bits, the MX flag, the exponent emax of R150, the tile's bytes. -/
structure Fmt where
  elem : Elem
  bits : Nat
  mx : Bool
  emax : Int
  tile : Nat
deriving DecidableEq, Repr

/-- The format of a code (R135). -/
def fmtOf : Nat → Option Fmt
  | 0x01 => some { elem := .fp fp32, bits := 32, mx := false, emax := 0, tile := 8192 }
  | 0x02 => some { elem := .fp bf16, bits := 16, mx := false, emax := 0, tile := 8192 }
  | 0x03 => some { elem := .fp fp16, bits := 16, mx := false, emax := 0, tile := 8192 }
  | 0x04 => some { elem := .fp e4m3, bits := 8, mx := false, emax := 8, tile := 4096 }
  | 0x05 => some { elem := .fp e5m2, bits := 8, mx := false, emax := 15, tile := 4096 }
  | 0x06 => some { elem := .fp e4m3, bits := 8, mx := true, emax := 8, tile := 4224 }
  | 0x07 => some { elem := .fp e5m2, bits := 8, mx := true, emax := 15, tile := 4224 }
  | 0x08 => some { elem := .fp e2m1, bits := 4, mx := true, emax := 2, tile := 2176 }
  | 0x09 => some { elem := .int 8, bits := 8, mx := true, emax := 0, tile := 4224 }
  | 0x0A => some { elem := .int 8, bits := 8, mx := false, emax := 0, tile := 4096 }
  | 0x0B => some { elem := .int 4, bits := 4, mx := false, emax := 0, tile := 2048 }
  | _ => none

/-- The elements' exact value before a block scale (R137, R140): an MXINT8 element is q × 2^−6. -/
def Fmt.decElem (f : Fmt) (x : Nat) : FV :=
  match f.elem with
  | .fp g => g.dec x
  | .int w => if f.mx then (decInt w x).scale (-6) else decInt w x

/-- Element j of row r of a tile's bytes (R141). -/
def Fmt.rawElem (f : Fmt) (bs : List Byte) (r j : Nat) : Nat :=
  let bit := (r * 64 + j) * f.bits
  let b := bit / 8
  if f.bits = 4 then (bs.getD b 0).toNat / 2 ^ (bit % 8) % 16
  else ofBytesLE ((bs.drop b).take (f.bits / 8))

/-- The block scale that covers element j of row r (R142); 127 (a scale of 1) without block scales. -/
def Fmt.blockScale (f : Fmt) (bs : List Byte) (r j : Nat) : Nat :=
  if f.mx then (bs.getD (f.tile - 128 + 2 * r + j / 32) 0).toNat else 127

/-- The exact value of element j of row r, block scale included (R139, R148). -/
def Fmt.value (f : Fmt) (bs : List Byte) (r j : Nat) : FV :=
  let x := f.blockScale bs r j
  if x = 255 then .nan else (f.decElem (f.rawElem bs r j)).scale ((x : Int) - 127)

/-- The block scale that ACCST writes for a block (R150), none where an element is ±∞ or NaN (R149): x. -/
def blockX (emax : Int) (vs : List FV) : Option Int :=
  if vs.any (fun v => match v with | .fin .. => false | _ => true) then none
  else
    let am := vs.foldl (fun a v => if FV.lt a v.abs then v.abs else a) (.fin false 0 0)
    match am with
    | .fin _ m e => if m = 0 then some (-127) else some (max (-127) (min 127 (floorLog2 m e - emax)))
    | _ => none

/-- Convert one element (R149, R150: for MXINT8, q = round(w × 64)). -/
def Fmt.encElem (f : Fmt) (r : Rnd) (v : FV) : Nat :=
  match f.elem with
  | .fp g => g.enc r v
  | .int w => if f.mx then encInt w r (v.scale 6) else encInt w r v

/-- Pack elements of `bits` bits, low first, into bytes (R141). -/
def packElems (bits : Nat) : List Nat → List Byte
  | [] => []
  | [x] => if bits = 4 then [BitVec.ofNat 8 (x % 16)] else toBytesLE (bits / 8) x
  | x :: y :: t =>
    if bits = 4 then BitVec.ofNat 8 (x % 16 + y % 16 * 16) :: packElems bits t
    else toBytesLE (bits / 8) x ++ toBytesLE (bits / 8) y ++ packElems bits t

/-! The special functions. -/

/-- The integer square root, bit by bit. -/
def isqrtGo : Nat → Nat → Nat → Nat
  | 0, _, r => r
  | k + 1, n, r => let c := r + 2 ^ k; isqrtGo k n (if c * c ≤ n then c else r)

/-- The integer square root. -/
def isqrt (n : Nat) : Nat := isqrtGo (bitLen n / 2 + 1) n 0

/-- floor(2^f × 2^64), up to a few hundred units below, for a fraction f given as `n` bits, highest first. -/
def exp2Frac : Nat → Nat → Nat → Nat → Nat
  | 0, _, _, acc => acc
  | k + 1, f, root, acc =>
    let root := isqrt (root * 2 ^ 64)
    let acc := if f / 2 ^ k % 2 = 1 then acc * root / 2 ^ 64 else acc
    exp2Frac k f root acc

/-- The fraction bits of log2 y for y in [1, 2) held as y × 2^160, `k` of them. -/
def log2Frac : Nat → Nat → Nat → Nat
  | 0, _, acc => acc
  | k + 1, y, acc =>
    let y2 := y * y / 2 ^ 160
    if y2 ≥ 2 ^ 161 then log2Frac k (y2 / 2) (2 * acc + 1) else log2Frac k y2 (2 * acc)

/-- The difference of two finite values is at most d (all three as exact values). -/
def FV.within (a b d : FV) : Bool :=
  match a, b with
  | .fin .., .fin .. => !FV.lt d (FV.add a b.neg).abs
  | _, _ => false

/-- `n` units in the last place of a normal FP32 value. -/
def ulps (n : Nat) (v : FV) : FV :=
  match v with
  | .fin _ m e => .fin false n (floorLog2 m e - 23)
  | v => v

/-- The implementation's own result where it lies within the bound of R155 of the exact result rounded to FP32, else that
result; `tol` is the bound at a value. -/
def bounded (cand : Word) (base : FV) (tol : FV → FV) : Word :=
  let r := to32 base
  match of32 cand with
  | .fin n m e =>
    if (FV.fin n m e).within (of32 r) (tol (of32 r)) && !(decide (m < 2 ^ 23) && decide (m ≠ 0)) then cand else r
  | _ => r

/-- 2^x for −126 ≤ x < 128, as a value a few 2^−60 below the exact one in relative terms. -/
def exp2Val (neg : Bool) (m : Nat) (e : Int) : FV :=
  -- x = i + f with f in [0, 1), the fraction cut to 60 bits
  let x : Int := let s := sgnMant neg m; if e + 60 ≥ 0 then s * pow2 (e + 60) else s / pow2 (-(e + 60))
  let i := x / 2 ^ 60
  let f := (x % 2 ^ 60).toNat
  .fin false (exp2Frac 60 f (2 * 2 ^ 64) (2 ^ 64)) (i - 64)

/-- 2^v for an exact value (R155); `cand` is the implementation's own result. -/
def exp2v (cand : Word) : FV → Word
  | .nan => to32 .nan
  | .inf n => if n then 0 else to32 (.inf false)
  | .fin n m e =>
    if FV.lt (.fin n m e) (.fin true 126 0) then 0
    else if !FV.lt (.fin n m e) (.fin false 128 0) then to32 (.inf false)
    else let b := exp2Val n m e; bounded cand b (ulps 2)

/-- VEXP2 (R155). (DEDUCED, log 15) -/
def exp2w (w : Word) : Word := exp2v (Config.exp2 w) (of32f w)

/-- log2 of a positive normal value, within 2^−44. -/
def log2Val (m : Nat) (e : Int) : FV :=
  let l := bitLen m
  let fr := log2Frac 48 (m * 2 ^ 161 / 2 ^ l) 0
  .ofInt (((l : Int) - 1 + e) * 2 ^ 48 + fr) (-48)

/-- VLOG2 (R155). -/
def log2w (w : Word) : Word :=
  match of32f w with
  | .nan => to32 .nan
  | .inf n => if n then to32 .nan else to32 (.inf false)
  | .fin n m e =>
    if m = 0 then to32 (.inf true)
    else if n then to32 .nan
    else
      let b := log2Val m e
      let x := FV.fin false m e
      if !FV.lt x (.fin false 1 (-1)) && FV.lt x (.fin false 2 0) then bounded (Config.log2 w) b fun _ => .fin false 1 (-22)
      else bounded (Config.log2 w) b (ulps 2)

/-- VRCP (R155). -/
def rcpw (w : Word) : Word :=
  match of32f w with
  | .nan => to32 .nan
  | .inf n => to32 (.fin n 0 0)
  | .fin n m e =>
    if m = 0 then to32 (.inf n)
    else if !FV.lt (.fin false m e) (.fin false 1 126) then to32 (.fin n 0 0)
    else let b := FV.div (.fin false 1 0) (.fin n m e); bounded (Config.rcp w) b (ulps 1)

/-- VRSQRT (R155). -/
def rsqrtw (w : Word) : Word :=
  match of32f w with
  | .nan => to32 .nan
  | .inf n => if n then to32 .nan else 0
  | .fin n m e =>
    if m = 0 then to32 (.inf n)
    else if n then to32 .nan
    else
      -- 1 / √(m 2^e) = √(2^(−e) / m), to 60 bits
      let e2 := e % 2
      let k := (e - e2) / 2
      let b := FV.fin false (isqrt (2 ^ 160 / (m * pow2 e2))) (-80 - k)
      bounded (Config.rsqrt w) b (ulps 2)

end Sys2Proof.Machine
end

