-- ==== Sys2Proof/Machine/BedMap.lean ====
section
/-! DEFINITION. The Bed map (R319 to R325): which lanes and links exist, and the positions of a link's lanes. -/

namespace Sys2Proof.Machine

/-- The three peers of Tt, ascending. -/
def peersOf (t : Nat) : List Nat := (List.range 4).filter (· ≠ t)

/-- Remote Weir r of Tt. -/
def remoteWeir (t r : Nat) : Nat := if r < 4 * t then r else r + 4

/-- Position x of a list of dies. -/
def dieAt (l : List Nat) (x : Nat) : Nat := l.getD x 0

/-- Where a lane of Tt goes, and whether it is a spare (R321). -/
def laneT (t bus k : Nat) : Option (Nat × Bool) :=
  let p := dieAt (peersOf t)
  if bus < 3 then some (p bus, false)
  else if bus = 3 then
    if k < 48 then some (p (k / 16), false) else some (p ((k - 48) / 8), true)
  else if bus = 4 then some (dieS 0, false)
  else if bus = 5 then some (dieS 1, false)
  else if bus = 6 then
    if k < 8 then some (p 2, true)
    else if k < 16 then some (dieS 0, true)
    else if k < 24 then some (dieS 1, true)
    else if k < 32 then some (dieK, false)
    else some (dieW (remoteWeir t ((k - 32) / 8)), false)
  else some (dieW (remoteWeir t (k / 8 + 4)), false)

/-- Where a lane of Sd goes (R322). -/
def laneS (d bus k : Nat) : Option (Nat × Bool) :=
  if bus < 4 then some (bus, false)
  else if k < 16 then some (k / 4, true)
  else if k < 32 then some (dieK, false)
  else some (dieS (1 - d), false)

/-- Where a lane of Wn goes (R323). -/
def laneW (n k : Nat) : Option (Nat × Bool) :=
  let p := dieAt (peersOf (n / 4))
  if k < 48 then some (p (k / 16), false)
  else if k < 60 then some (p ((k - 48) / 4), true)
  else some (dieK, false)

/-- Where a lane of K goes (R324). -/
def laneK (bus k : Nat) : Option (Nat × Bool) :=
  if bus = 0 then
    if k < 32 then some (k / 8, false) else if k < 48 then some (dieS 0, false) else some (dieS 1, false)
  else if k < 16 then some (dieW k, false)
  else if k < 24 then some ((k - 16) / 2, true)
  else if k < 28 then some (dieS 0, true)
  else if k < 32 then some (dieS 1, true)
  else some (dieW ((k - 32) / 2), true)

/-- The sending die of a global bus (R319). -/
def busDie (bus : Nat) : Nat :=
  if bus < 32 then bus / 8 else if bus < 37 then dieS 0 else if bus < 42 then dieS 1 else if bus < 58 then dieW (bus - 42) else dieK

/-- A lane's link and whether it is a spare: source, destination, spare. -/
def laneInfo (i : Nat) : Option (Nat × Nat × Bool) :=
  let bus := i / 64
  let k := i % 64
  if i ≥ 3840 then none
  else
    let src := busDie bus
    let d := if bus < 32 then laneT (bus / 8) (bus % 8) k else if bus < 37 then laneS 0 (bus - 32) k else if bus < 42 then laneS 1 (bus - 37) k
      else if bus < 58 then laneW (bus - 42) k else laneK (bus - 58) k
    d.map fun x => (src, x.1, x.2)

/-- The first bus of a die and how many it has. -/
def busesOf (die : Nat) : Nat × Nat :=
  if die < 4 then (8 * die, 8) else if die < 20 then (42 + (die - 4), 1) else if die = 20 then (32, 5) else if die = 21 then (37, 5)
  else if die = 22 then (58, 2) else (0, 0)

/-- The lane indexes of a link in position order: data lanes ascending, then spares ascending (R325). -/
def linkLanes (src dst : Nat) : List Nat :=
  let (b, n) := busesOf src
  let ls := (List.range (64 * n)).map (· + 64 * b)
  let on := fun (sp : Bool) => ls.filter fun i => laneInfo i == some (src, dst, sp)
  on false ++ on true

/-- The nominal width of a link: its data lanes (R325). -/
def linkWidth (src dst : Nat) : Nat := ((linkLanes src dst).filter fun i => laneInfo i == some (src, dst, false)).length

/-- Does a Bed link run between two dies (R34, R324)? -/
def linkExists (src dst : Nat) : Bool :=
  src ≠ dst &&
  if src < 4 then decide (dst < 4) || (decide (4 ≤ dst ∧ dst < 20) && (dst - 4) / 4 ≠ src) || dst == 20 || dst == 21 || dst == 22
  else if src < 20 then (decide (dst < 4) && (src - 4) / 4 ≠ dst) || dst == 22
  else if src < 22 then decide (dst < 4) || dst == 20 || dst == 21 || dst == 22
  else src == 22 && decide (dst < 22)

/-- Every Bed link. -/
def allLinks : List (Nat × Nat) :=
  (List.range 23).flatMap fun a => ((List.range 23).filter (linkExists a)).map fun b => (a, b)

end Sys2Proof.Machine
end

