-- ==== Sys2Proof/Machine/Net.lean ====
section
/-! DEFINITION. Routes, ports and injection (R164, R417 to R424, R436, R441, R445): how a request or response of this device
finds its port, takes a tracker entry and a flow sequence, and joins the packets that wait at a port's sender. -/

namespace Sys2Proof.Machine

/-! ### Paths between dies and to the stores (R29, R32, R34, R35, R38, R41, R42, R350) -/

/-- A Bed link. -/
def State.link (s : State) (a b : Nat) : BLink := tget .down s.bed.links (32 * a + b)

/-- Both directions between two dies are up: not DOWN, and both dies released. -/
def State.linked (s : State) (a b : Nat) : Bool :=
  s.dieUp a && s.dieUp b && decide ((s.link a b).state ≠ .down) && decide ((s.link b a).state ≠ .down)

/-- Is a die code a Weir's? -/
def isWeirDie (a : Nat) : Bool := decide (4 ≤ a ∧ a < 20)

/-- The path between a Weir and a span die: the relay through the Weir's tensor die, or through K while that die is in reset
(R35, R38). -/
def State.spanWeir (s : State) (w d : Nat) : Bool :=
  let t := (w - 4) / 4
  s.dieUp w && (if s.dieUp t then s.linked d t else s.linked d dieK && s.linked dieK w)

/-- The path of a message between two dies, both ways: the die itself, a Weir command channel (R32), the Bed link of R34 where the
pair has one, the relay of R35 and R38 between a Weir and a span die, and K between two Weirs. A DOWN link is not routed around
(R350). (DESIGN CHOICE, log 56) -/
def State.diePath (s : State) (a b : Nat) : Bool :=
  if a = b then s.dieUp a
  else if isWeirDie a && isWeirDie b then s.linked a dieK && s.linked dieK b
  else if isWeirDie a && (a - 4) / 4 == b then s.dieUp a && s.dieUp b
  else if isWeirDie b && (b - 4) / 4 == a then s.dieUp a && s.dieUp b
  else if isWeirDie a && (b == 20 || b == 21) then s.spanWeir a b
  else if isWeirDie b && (a == 20 || a == 21) then s.spanWeir b a
  else s.linked a b

/-- Can die `die` reach store `st` (R29, R35, R38)? The keystone and the span dies pass through the tensor die of a stack, and through K
alone only while that die is in reset. -/
def State.reaches? (s : State) (die st : Nat) : Bool :=
  if st < 16 then
    s.dieUp (dieW st) &&
      (if die = dieW st then true
       else if die = st / 4 then s.dieUp die
       else if die < 4 then s.linked die (dieW st)
       else if die = dieK then (if s.dieUp (st / 4) then s.linked dieK (st / 4) else s.linked dieK (dieW st))
       else if die < 20 then false
       else if s.dieUp (st / 4) then s.linked die (st / 4)
       else s.linked die dieK && s.linked dieK (dieW st))
  else
    let t := storeDie st
    if die = t then s.dieUp t
    else if isWeirDie die && (die - 4) / 4 == t then s.dieUp t && s.dieUp die
    else s.linked die t

/-! ### Identity -/

/-- The device ID is valid (R417). -/
def State.idValid (s : State) : Bool := s.rb Reg.KEY_DEV_ID 31

/-- The device ID. -/
def State.devId (s : State) : Nat := s.rf Reg.KEY_DEV_ID 0 18

/-- The device's identity digest (R549): of the 23 die public keys and the serials of the Bed and both Springs. -/
def State.ownDigest (s : State) : List Byte :=
  shake256 (s.sec.pubKeys.flatten ++ toBytesLE 8 (Config.serial 1) ++ toBytesLE 8 (Config.serial 2) ++ toBytesLE 8 (Config.serial 3)) 64

/-- Device bits that take an ID under R164: do they name this device? -/
def State.isLocal (s : State) (dev : Nat) : Bool := if s.idValid then dev == s.devId else dev == 0

/-! ### Ports as routes see them (R421) -/

/-- Port p. -/
def State.port (s : State) (p : Nat) : Port := tget .reset s.ports p

/-- Put back port p. -/
def State.setPort (s : State) (p : Nat) (x : Port) : State := { s with ports := tset .reset s.ports p x }

/-- Sd_PORTp_CTL.enable. -/
def State.portEnabled (s : State) (p : Nat) : Bool := s.rb (Reg.Sd_PORTp_CTL p) 0

/-- The role of a span die (R460): 0 NORMAL, 1 TAKEOVER, 2 YIELDED. -/
def State.role (s : State) (d : Nat) : Nat := s.rf (Reg.Sd_PIER_STATUS d) 2 2

/-- Span die d presumes its partner dead. -/
def State.presumes (s : State) (d : Nat) : Bool := s.rb (Reg.Sd_PIER_STATUS d) 4

/-- A span die whose ports no route may use: in reset, or NORMAL while its partner presumes it dead (R421, R447, R448). -/
def State.spanOut (s : State) (d : Nat) : Bool := !s.dieUp (dieS d) || (s.presumes (1 - d) && s.role d == 0)

/-- A port is up (R421). -/
def State.portUp (s : State) (p : Nat) : Bool :=
  let x := s.port p
  s.portEnabled p && !x.quiescing && !x.quiesced && !s.spanOut (p / 8) &&
    match x.state with
    | .live | .standby | .deep => true
    | .train => x.retraining
    | .down => false

/-- A port is in grace (R421). -/
def State.portGrace (s : State) (p : Nat) : Bool :=
  let x := s.port p
  x.state == .down && x.grace && !x.quiescing && !s.spanOut (p / 8)

/-- The ports of a mask, ascending. -/
def maskPorts (m : Nat) : List Nat := (List.range 16).filter fun p => m / 2 ^ p % 2 == 1

/-- The rank chosen for a pair of sets, and whether it belongs to the second set (R421). -/
def State.rank (s : State) (first second : Nat) : List Nat × Bool :=
  let r1 := (maskPorts first).filter s.portUp
  let r2 := (maskPorts second).filter s.portUp
  let r3 := (maskPorts first).filter s.portGrace
  let r4 := (maskPorts second).filter s.portGrace
  if r1 ≠ [] then (r1, false) else if r2 ≠ [] then (r2, true) else if r3 ≠ [] then (r3, false) else (r4, true)

/-- The credit free for a VC at a port's sender (R388). -/
def Port.credit (x : Port) (vc : Nat) : Nat := (tget 0 x.peerCnt vc + 65536 - tget 0 x.sent vc % 65536) % 65536

/-- The port with the most credit free for a VC; ties to the lowest (R422). -/
def State.mostCredit (s : State) (vc : Nat) : List Nat → Option Nat
  | [] => none
  | p :: t =>
    match s.mostCredit vc t with
    | none => some p
    | some q => if (s.port q).credit vc > (s.port p).credit vc then some q else some p

/-- Port of a rank under the entry's select (R422); tiles are always placed by HASH. (DESIGN CHOICE, log 32) -/
def State.choose (s : State) (sel : Nat) (tile : Bool) (rank : List Nat) (vc dst src die addr : Nat) : Option Nat :=
  if rank = [] then none
  else if sel = 0 || tile then rank[Config.pathHash dst src die (addr / 256) % rank.length]?
  else if sel = 1 then s.mostCredit vc rank
  else rank.head?

/-- Where a route entry of a destination stands: the member table for the own group, else the group table (R420). -/
def State.routeKey (s : State) (dst : Nat) : Nat :=
  if s.idValid && dst / 1024 == s.devId / 1024 then dst % 1024 else 1024 + dst / 1024

/-- A route entry. -/
def State.route (s : State) (k : Nat) : Route := tget .none s.fab.routes k

/-- Put back a route entry. -/
def State.setRoute (s : State) (k : Nat) (r : Route) : State := { s with fab := { s.fab with routes := tset .none s.fab.routes k r } }

/-- The span die that a mask's ports lie on. -/
def maskDie (m : Nat) : Nat := if m % 256 = 0 then 1 else 0

/-- The VC of a packet leaving by a port at a class (R424): CTL for HELLO and MGMT, else REQ or RSP with the class. -/
def vcOf (type cls : Nat) : Nat :=
  if type = 6 || type = 7 || type = 0x86 then 0 else if type ≥ 0x80 then 3 + cls else 1 + cls

/-- The class of a packet that leaves its origin by port p (R424). -/
def State.firstClass (s : State) (p : Nat) : Nat := (s.rb (Reg.Sd_PORTp_FAB p) 0).toNat

/-! ### Trackers (R436, R439) -/

/-- Span die d's part. -/
def State.span (s : State) (d : Nat) : Span := tget .reset s.fab.spans d

/-- Put back a span die's part. -/
def State.setSpan (s : State) (d : Nat) (x : Span) : State := { s with fab := { s.fab with spans := tset .reset s.fab.spans d x } }

/-- Entries in use, quarantined ones included (R439). -/
def Span.inUse (x : Span) : Nat := (x.trk.filter fun kv => kv.2.use ≠ .free).length

/-- The first free index from i on, in rotation; the fuel is the number of listed entries. -/
def Span.freeIndex (x : Span) : Nat → Nat → Nat
  | 0, i => i % 1048576
  | k + 1, i => if (tget .free x.trk (i % 1048576)).use = .free then i % 1048576 else x.freeIndex k (i + 1)

/-- Allocate an entry: its index and the span die's new state. -/
def Span.alloc (x : Span) (owner : TOwner) (pkt : Packet) (port : Nat) : Nat × Span :=
  let i := x.freeIndex x.trk.length x.nextIdx
  let e := tget .free x.trk i
  (i, { x with trk := tset .free x.trk i { e with use := .busy, owner, pkt := some pkt, port, reissues := 0, twin := none },
               nextIdx := (i + 1) % 1048576 })

/-- Free an entry: the next use of the index has the next generation (R436); without a response of its own it is quarantined (R439). -/
def TEnt.release (e : TEnt) (answered : Bool) : TEnt :=
  if answered then { TEnt.free with gen := (e.gen + 1) % 16 }
  else { TEnt.free with gen := (e.gen + 1) % 16, use := .quarantined }

/-- Store an entry of span die d. -/
def State.setTrk (s : State) (d i : Nat) (e : TEnt) : State :=
  let x := s.span d
  s.setSpan d { x with trk := tset .free x.trk i e }

/-- Entry i of span die d. -/
def State.trk (s : State) (d i : Nat) : TEnt := tget .free (s.span d).trk i

/-! ### Injection -/

/-- What an injection came to: it stalls for want of a tracker entry or a flow counter (R436, R441), there is no route (R420),
or the copies are under way. -/
inductive Inj where
  | stalled
  | lost
  | sent (s : State)

/-- The copies to send of a request or response to `dst` (R423, R445): span die and set pair of each. -/
def State.copies (s : State) (r : Route) : List (Nat × Nat) :=
  if r.mode = 1 then
    let act := if r.active then r.alternate else r.primary
    let oth := if r.active then r.primary else r.alternate
    let owners := (List.range 2).filter fun d =>
      (decide (maskDie act = d) || s.role d == 1) && !(s.span d).stopped
    if owners.length ≤ 1 then [(act, oth)]
    else owners.map fun d => if maskDie act = d then (act, 0) else (oth, 0)
  else if r.mode = 2 then [(r.primary, 0), (r.alternate, 0)]
  else [(r.primary, r.alternate)]

/-- Queue a packet at a port's sender. -/
def State.txWait (s : State) (port vc : Nat) (pkt : Packet) (own : Option Nat) : State :=
  { s with fab := { s.fab with waiting := s.fab.waiting ++ [{ port, vc, pkt, own }] } }

/-- Flip a STANDBY entry whose pick fell to its second set (R423). -/
def State.standbyFlip (s : State) (k : Nat) : State :=
  let r := s.route k
  let s := s.setRoute k { r with active := !r.active, armed := false }
  let s := { s with fab := { s.fab with mapChanges := s.fab.mapChanges + 1 } }
  s.logEvent .autonomous 4 Reg.KEY_RT_MODE (k % 1024 + (if k ≥ 1024 then 1024 else 0))

/-- Send one copy: pick the port, take a tracker entry where the packet is a request; answers the entry taken. None where there is no
port, or the Bed path from the die to the port's span die is lost (R41, R350). -/
def State.sendCopy (s : State) (k : Nat) (r : Route) (set : Nat × Nat) (pkt : Packet) (owner : Option TOwner) :
    Option (State × Option (Nat × Nat)) :=
  let (rk, second) := s.rank set.1 set.2
  match s.choose r.select (pkt.flags / 4 % 2 == 1) rk (vcOf pkt.type 0) pkt.dst pkt.src pkt.srcDie pkt.addr with
  | none => none
  | some p =>
    let s := if r.mode = 1 && second then s.standbyFlip k else s
    let d := p / 8
    if !s.diePath pkt.srcDie (dieS d) then none else
    let vc := vcOf pkt.type (s.firstClass p)
    match owner with
    | none => some (s.txWait p vc pkt none, none)
    | some o =>
      let x := s.span d
      let (i, x) := x.alloc o pkt p
      let pkt := { pkt with trk := d, tag := i, gen := (tget .free x.trk i).gen }
      let x := { x with trk := tset .free x.trk i { tget .free x.trk i with pkt := some pkt } }
      some ((s.setSpan d x).txWait p vc pkt (some (d * 1048576 + i)), some (d, i))

/-- Send the copies in order; the entries taken. -/
def State.sendCopies (s : State) (k : Nat) (r : Route) (pkt : Packet) (owner : Option TOwner) :
    List (Nat × Nat) → List (Nat × Nat) → State × Nat × List (Nat × Nat)
  | [], acc => (s, 0, acc)
  | c :: t, acc =>
    match s.sendCopy k r c pkt owner with
    | none => s.sendCopies k r pkt owner t acc
    | some (s', e) =>
      let (s', n, acc) := s'.sendCopies k r pkt owner t (match e with | some x => acc ++ [x] | none => acc)
      (s', n + 1, acc)

/-- Tie the two entries of a request's copies together (R444). -/
def State.twinUp (s : State) : List (Nat × Nat) → State
  | [a, b] =>
    let s := s.setTrk a.1 a.2 { s.trk a.1 a.2 with twin := some b }
    s.setTrk b.1 b.2 { s.trk b.1 b.2 with twin := some a }
  | _ => s

/-- The key of an origin's flow counter: the injecting die and the destination (R441). -/
def flowKey (die dst : Nat) : Nat := die * 262144 + dst

/-- The counters an injecting die uses. (DESIGN CHOICE, log 32) -/
def State.flowCount (s : State) (die : Nat) : Nat := (s.fab.flowOut.filter fun kv => kv.1 / 262144 == die).length

/-- Inject a request of die `die` (R436, R441), or send a response (`owner` none). -/
def State.inject (s : State) (die : Nat) (pkt : Packet) (owner : Option TOwner) : Inj :=
  if !s.idValid then .lost
  else
    let k := s.routeKey pkt.dst
    let r := s.route k
    if !r.valid || r.primary = 0 then .lost
    else
      let pkt := { pkt with src := s.devId, srcDie := die }
      let flow := owner.isSome && r.mode ≠ 0
      let fk := flowKey die pkt.dst
      let fo := tget none s.fab.flowOut fk
      if owner.isSome && decide ((s.span 0).inUse ≥ 1048576 ∨ (s.span 1).inUse ≥ 1048576) then .stalled
      else if flow && (fo.isNone && decide (s.flowCount die ≥ 4096)) then .stalled
      else if flow && decide ((fo.getD { next := 0, out := 0 }).out ≥ 1024) then .stalled
      else
        let f := fo.getD { next := 0, out := 0 }
        let pkt := if flow then { pkt with flowSeq := f.next, flags := pkt.flags ||| 1 } else pkt
        let (s', n, es) := s.sendCopies k r pkt owner (s.copies r) []
        if n = 0 then .lost
        else
          let s' := s'.twinUp es
          .sent (if flow then
            { s' with fab := { s'.fab with flowOut := tset none s'.fab.flowOut fk (some { next := (f.next + 1) % 4294967296, out := f.out + 1 }) } }
          else s')

/-- A packet with every field zero. -/
def Packet.zero : Packet :=
  { dst := 0, hops := 0, type := 0, src := 0, srcDie := 0, trk := 0, mod := 0, tag := 0, gen := 0, status := 0, flowSeq := 0,
    addr := 0, workUnit := 0, epoch := 0, flags := 0, payload := [] }

end Sys2Proof.Machine
end

