-- ==== Sys2Proof/Machine/Sync.lean ====
section
/-! DEFINITION. What reaches, cells, Weirs and the host interface share: reach IDs, group contexts, tokens and pools (R46 to R52,
R68), the placement check (R73), signals local and remote, the admission of energy declarations (R510, R511), and the completion
of submission-queue entries (R478 to R481). -/

namespace Sys2Proof.Machine

/-! ### Reach IDs (R46, R47) -/

/-- The level of a reach ID. -/
def ridLevel (r : Nat) : Nat := bitsOf r 29 3
/-- The unit of a reach ID. -/
def ridUnit (r : Nat) : Nat := bitsOf r 24 5
/-- The cluster of a reach ID. -/
def ridCluster (r : Nat) : Nat := bitsOf r 20 4
/-- The cell of a reach ID. -/
def ridCell (r : Nat) : Nat := bitsOf r 16 4
/-- The home device of a group's reach ID. -/
def ridHome (r : Nat) : Nat := bitsOf r 11 18
/-- The index of a group's reach ID. -/
def ridIndex (r : Nat) : Nat := bitsOf r 0 8
/-- PKG. -/
def ridPkg : Nat := 0x60000000

/-- Does a reach ID keep to the layout of R46 and R47? -/
def ridOk (r : Nat) : Bool :=
  decide (r < 2 ^ 32) &&
  if ridLevel r ≥ 4 then bitsOf r 8 3 == 0
  else bitsOf r 0 16 == 0 &&
    (if ridLevel r = 3 then ridUnit r == 0 && ridCluster r == 0 && ridCell r == 0
     else if ridLevel r = 2 then ridCluster r == 0 && ridCell r == 0 && (decide (ridUnit r < 4) || decide (ridUnit r ≥ 16))
     else if ridLevel r = 1 then ridCell r == 0 && decide (ridUnit r < 4)
     else decide (ridUnit r < 4))

/-- The reach ID of Weir n. -/
def weirRid (n : Nat) : Nat := 0x50000000 + n * 2 ^ 24

/-- Is it a Weir's reach? -/
def ridIsWeir (r : Nat) : Bool := ridLevel r == 2 && decide (ridUnit r ≥ 16)

/-- Does reach `r` lie in placement `p` (itself, or a unit of it)? -/
def ridUnder (p r : Nat) : Bool :=
  r == p || (decide (ridLevel r < ridLevel p) && decide (ridLevel p ≤ 3) && decide (ridLevel r ≤ 2) && !ridIsWeir r && !ridIsWeir p &&
    (ridLevel p == 3 || (ridUnit r == ridUnit p && (ridLevel p == 2 || ridCluster r == ridCluster p))))

/-- The die that runs a reach: a tensor die, a Weir, K for the package and the groups (R45, R70). -/
def ridDie (r : Nat) : Nat :=
  if ridLevel r ≥ 3 then dieK else if ridUnit r < 16 then ridUnit r else dieW (ridUnit r - 16)

/-- The index of a cell, 256 × die + 16 × cluster + cell. -/
def cellIdx (c : CellId) : Nat := 256 * c.die.val + 16 * c.cluster.val + c.cell.val

/-- The index of the cell that a level-0 reach ID names. -/
def ridCellIdx (r : Nat) : Nat := 256 * ridUnit r + 16 * ridCluster r + ridCell r

/-- The reach ID of cell i. -/
def cellRid (i : Nat) : Nat := i / 256 * 2 ^ 24 + i / 16 % 16 * 2 ^ 20 + i % 16 * 2 ^ 16

/-! ### Group contexts (R68, R69, R89) -/

/-- The base of the group contexts, where they are enabled and lie wholly in HBM. -/
def State.groupBase (s : State) : Option Nat :=
  if s.rb Reg.KEY_GROUP_BASE 31 then
    let b := s.rf Reg.KEY_GROUP_BASE 0 21 * 2 ^ 25
    match s.rangeStore b (2 ^ 25) with
    | some st => if st < 16 then some b else none
    | none => none
  else none

/-- The context of a group homed on this device: valid, and of the level that the reach ID names. (DEDUCED, log 18) (DESIGN CHOICE, log 55) -/
def State.groupCtx (s : State) (r : Nat) : Option Nat :=
  if ridLevel r ≥ 4 && s.isLocal (ridHome r) then
    match s.groupBase with
    | some b =>
      let c := b + ridIndex r * 0x20000
      let h := bfld (s.readMem (c + 0x14200) 4) 0 4
      if bitsOf h 31 1 = 1 && bitsOf h 0 3 = ridLevel r then some c else none
    | none => none
  else none

/-- Does a reach ID name a reach of this device? -/
def State.reachHere (s : State) (r : Nat) : Bool := ridOk r && (decide (ridLevel r < 4) || (s.groupCtx r).isSome)

/-- The reach of an ID. -/
def State.reach (s : State) (r : Nat) : Reach := tget .empty s.reaches r

/-- Put back a reach. -/
def State.setReach (s : State) (r : Nat) (x : Reach) : State := { s with reaches := tset .empty s.reaches r x }

/-- Where a group's counter lies, for a group of this device. -/
def State.ctxWord (s : State) (r off : Nat) : Option Nat :=
  if ridLevel r ≥ 4 then (s.groupCtx r).map (· + off) else none

/-- A word of memory. -/
def State.memWord (s : State) (da : Nat) : Word := BitVec.ofNat 32 (ofBytesLE (s.readMem da 4))

/-- A token counter (R49). (DEDUCED, log 18) -/
def State.tok (s : State) (r i : Nat) : Word :=
  match s.ctxWord r (0x10000 + 4 * i) with
  | some a => s.memWord a
  | none => tget 0 (s.reach r).tokens i

/-- Set a token counter. (DEDUCED, log 18) -/
def State.setTok (s : State) (r i : Nat) (v : Word) : State :=
  match s.ctxWord r (0x10000 + 4 * i) with
  | some a => s.writeMem a (toBytesLE 4 v.toNat)
  | none => s.setReach r { s.reach r with tokens := tset 0 (s.reach r).tokens i v }

/-- The count of a pool (R52). -/
def State.pool (s : State) (r p : Nat) : Word :=
  match s.ctxWord r (0x14000 + 8 * p) with
  | some a => s.memWord a
  | none => tget 0 (s.reach r).poolCnt p

/-- Set the count of a pool. -/
def State.setPool (s : State) (r p : Nat) (v : Word) : State :=
  match s.ctxWord r (0x14000 + 8 * p) with
  | some a => s.writeMem a (toBytesLE 4 v.toNat)
  | none => s.setReach r { s.reach r with poolCnt := tset 0 (s.reach r).poolCnt p v }

/-- The capacity of a pool (R52). -/
def State.poolCap (s : State) (r p : Nat) : Word :=
  match s.ctxWord r (0x14004 + 8 * p) with
  | some a => s.memWord a
  | none => tget 0 (s.reach r).poolCap p

/-- Would a signal overflow its counter (R49)? -/
def State.tokOver (s : State) (r i inc : Nat) : Bool := decide ((s.tok r i).toNat + inc > 0xFFFFFFFF)

/-- Add to a counter, saturating (R49). -/
def State.tokAdd (s : State) (r i inc : Nat) : State := s.setTok r i (satAdd (s.tok r i) inc)

/-- Cell i. -/
def State.cell (s : State) (i : Nat) : Cell := tget .reset s.cells i

/-- Put back cell i. -/
def State.setCell (s : State) (i : Nat) (c : Cell) : State := { s with cells := tset .reset s.cells i c }

/-- The STATUS bit of TOKEN_OVERFLOW in a cell whose table overflowed (R49, R131). -/
def State.overflowAt (s : State) (r : Nat) : State :=
  if ridLevel r = 0 then
    let c := s.cell (ridCellIdx r)
    s.setCell (ridCellIdx r) { c with status := c.status ||| 16 }
  else s

/-- A signal at the reach that owns the table: an overflow raises TOKEN_OVERFLOW there (R49, R131); the status. -/
def State.signalLocal (s : State) (r i inc : Nat) : State × Nat :=
  if s.tokOver r i inc then (((s.tokAdd r i inc).overflowAt r).raiseErr 0 4 (ridDie r) r none 0, 4) else (s.tokAdd r i inc, 0)

/-! ### The Weirs' queues (R201) -/

/-- Weir n. -/
def State.weir (s : State) (n : Nat) : Weir := tget .empty s.weirs n

/-- Put back Weir n. -/
def State.setWeir (s : State) (n : Nat) (w : Weir) : State := { s with weirs := tset .empty s.weirs n w }

/-- The Weir whose single queue a reach's queue is a part of; an empty one for every other reach (R201). -/
def State.weirOf (s : State) (r : Nat) : Weir := if ridIsWeir r then s.weir (ridUnit r - 16) else .empty

/-- The entries of the one queue of a reach: its reach commands, and at a Weir the command blocks that wait beside them (R48, R201). -/
def State.depth (s : State) (r : Nat) : Nat := (s.reach r).queue.length + (s.weirOf r).queue.length

/-- The commands that a reach runs, a Weir's command blocks among them (R60, R202). -/
def State.runCount (s : State) (r : Nat) : Nat := (s.reach r).running.length + (s.weirOf r).running.length

/-- Units given to a pool: the excess over the capacity is discarded (R52). (DESIGN CHOICE, log 17) -/
def State.giveLocal (s : State) (r p units : Nat) : State :=
  s.setPool r p (BitVec.ofNat 32 (min ((s.pool r p).toNat + units) (s.poolCap r p).toNat))

/-! ### The placement check (R73) -/

/-- A placement entry of this device. -/
def State.plcE (s : State) (item : Nat) : Plc := tget .empty s.plc item

/-- Put back a placement entry. -/
def State.setPlc (s : State) (item : Nat) (e : Plc) : State := { s with plc := tset .empty s.plc item e }

/-- The work item of a work_unit. -/
def wuItem (wu : Nat) : Nat := wu / 1048576

/-- Does this device accept an operation under a work_unit and epoch (R73)? A device that no copy reached since the reset checks
nothing. -/
def State.plcOk (s : State) (wu epoch : Nat) : Bool :=
  let e := s.plcE (wuItem wu)
  wuItem wu == 0 || !e.placedEver ||
    (decide (e.state ≠ .free) && epoch == e.epoch) ||
    (e.state == .fencing && epoch == (e.epoch + 255) % 256 && e.report.contains (wu, 0))

/-- Has a FENCE asked a cell of its old placement to stop at its next instruction boundary (R78, R129)? -/
def State.fenceStops (s : State) (item ci : Nat) : Bool :=
  let e := s.plcE item
  item ≠ 0 && decide (e.state = .fencing) && e.settling && s.isLocal e.oldDevice && ridUnder e.oldReach (cellRid ci)

/-- Count a discard (R88). -/
def State.discard (s : State) : State := s.bump Reg.KEY_PLC_DISCARDS

/-! ### Signals to a target (R54, R116) -/

/-- A signal's fields as a command carries them. -/
structure HSig where
  valid : Bool
  reach : Nat
  idx : Nat
  idxRsv : Nat
  inc : Nat
  remote : Bool
  dev : Nat
  devRsv : Nat
deriving DecidableEq, Repr

/-- Read signal fields from a record: the places of signal_reach, signal_index, signal_increment, signal_device. -/
def hsigAt (b : List Byte) (reach idx inc dev : Nat) : HSig :=
  let i := bfld b idx 2
  let d := bfld b dev 4
  { valid := i / 32768 == 1, reach := bfld b reach 4, idx := i % 4096, idxRsv := i / 4096 % 8, inc := bfld b inc 2,
    remote := d / 2 ^ 31 == 1, dev := d % 2 ^ 18, devRsv := d / 2 ^ 18 % 2 ^ 13 }

/-- Do the fields keep to R54's encoding? -/
def HSig.encOk (h : HSig) : Bool := h.idxRsv == 0 && h.devRsv == 0 && (!h.valid || h.inc != 0)

/-- Does a valid signal name a reach ID that exists (R46)? A signal that is not valid is not sent, and its reach ID is not looked at.
(DESIGN CHOICE, log 57) -/
def HSig.addrOk (h : HSig) : Bool := !h.valid || ridOk h.reach

/-- May the signal be sent at all? -/
def HSig.sendable (h : HSig) : Bool := h.valid && h.encOk && h.addrOk

/-- Is the signal for this device (R54, R164)? -/
def State.hsigLocal (s : State) (h : HSig) : Bool := !h.remote || (s.idValid && h.dev == s.devId)

/-- A TOKEN_SIGNAL packet (R427). -/
def signalPacket (dst reach idx inc units wu epoch : Nat) (give : Bool) : Packet :=
  { Packet.zero with dst := dst, type := 5, mod := give.toNat, workUnit := wu, epoch := epoch,
                     payload := padTo 32 (toBytesLE 4 reach ++ toBytesLE 2 idx ++ toBytesLE 2 inc ++ toBytesLE 4 units) }

/-- The status of a signal or give that die `die` applies on this device: LINK_LOST where the path to the die of the table is lost (R32,
R350), checked under R73, then added (R49) or given (R52). -/
def State.applySignal (s : State) (die r i inc units wu epoch : Nat) (give : Bool) : State × Nat :=
  if !s.reachHere r then (s, 11)
  else if !s.diePath die (ridDie r) then (s, 7)
  else if !s.plcOk wu epoch then (s.discard, 2)
  else if give then (s.giveLocal r (i % 64) units, 0)
  else s.signalLocal r i inc

/-- A signal or give sent by a die: done with a status, or under way to another device; none: it must wait for a tracker. -/
def State.sendSignal (s : State) (die : Nat) (owner : TOwner) (loc : Bool) (dev r i inc units wu epoch : Nat) (give : Bool) :
    Option (State × Option Nat) :=
  if loc then
    let (s, st) := s.applySignal die r i inc units wu epoch give
    some (s, some st)
  else
    match s.inject die (signalPacket dev r i inc units wu epoch give) (some owner) with
    | .stalled => none
    | .lost => some (s, some 7)
    | .sent s => some (s, none)

/-- Send a header signal (R62), where its fields are well formed. -/
def State.sendHeader (s : State) (die : Nat) (owner : TOwner) (h : HSig) (wu epoch : Nat) : Option (State × Option Nat) :=
  if h.sendable then s.sendSignal die owner (s.hsigLocal h) h.dev h.reach h.idx h.inc 0 wu epoch false
  else some (s, some 0)

/-- A status beside an earlier one of the same operation: a failure stays unless it is PORT_BUSY (R172). -/
def worseStatus (old new : Nat) : Nat := if old = 0 || (old = 3 && new ≠ 0) then new else old

/-- The status of an operation of several requests (R440); any other failure takes precedence over PORT_BUSY (R172). -/
def mergeStatus (old new : Nat) : Nat :=
  if old = 8 || new = 8 then 8 else if old = 7 || new = 7 then 7 else worseStatus old new

/-! ### Energy declarations (R510, R511) -/

/-- The factor k of a declaration, × 2^28: 1.25 until something else was learned or restored (R515). -/
def State.corr (s : State) (key : Nat) : Nat := tget 335544320 s.nrg.corr key

/-- The factor a ledger uses for a class (R511, R515). -/
def State.factor (s : State) (ledger cls : Nat) : Nat :=
  if ledger < 64 then s.corr (8 * (ledger / 16) + cls)
  else if cls = 4 then s.corr 4
  else (s.corr cls + s.corr (8 + cls) + s.corr (16 + cls) + s.corr (24 + cls)) / 4

/-- The charge in microjoules of D nanojoules at factor k (R511); the rounding is the implementation's. (DESIGN CHOICE, log 19) -/
def charge (d k : Nat) : Nat :=
  let q := d * k / (2 ^ 28 * 1000)
  if d * k % (2 ^ 28 * 1000) ≠ 0 && Config.energyUp d k then q + 1 else q

/-- What a declaration meets: admitted, or waiting (for the ramp room, or for its ledger). -/
inductive Adm where
  | ok (s : State)
  | wait (ramp : Bool)

/-- Which declarations take part in which learning (R515): the key of `declared`, and whether it adds the factor-weighted sum. -/
inductive Learn where
  | die (t : Nat)
  | weir
  | none

/-- Note a declaration for the learning of R515. -/
def Nrg.learn (g : Nrg) (l : Learn) (cls d k : Nat) : Nrg :=
  match l with
  | .die t => { g with declared := tset 0 g.declared (8 * t + cls) (tget 0 g.declared (8 * t + cls) + d) }
  | .weir => if cls = 4 then { g with declared := tset 0 g.declared 4 (tget 0 g.declared 4 + d) }
             else { g with declared := tset 0 g.declared 1000 (tget 0 g.declared 1000 + d * k) }
  | .none => g

/-- Admit a declaration of `d` nanojoules in class `cls` against a ledger (R511). -/
def State.admitCharge (s : State) (ledger cls d : Nat) (l : Learn) : Adm :=
  if d = 0 then .ok s
  else
    let k := s.factor ledger cls
    let n : Int := charge d k
    let g := s.nrg
    let die := ledger / 16
    let led := tget .zero g.ledgers ledger
    let room := tget 0 g.room die
    let pool := min g.pool g.pkgRoom
    let full := match led.cap with | some c => decide (led.bal ≥ c) | none => false
    if ledger < 64 && decide (n > room) && tget false g.roomUsed die then .wait true
    else if led.cap.isSome && (decide (led.bal + pool ≥ n) || full) then
      let tk := min n (max led.bal 0)
      let draw := min (n - tk) pool
      let g := { g with ledgers := tset .zero g.ledgers ledger { led with bal := led.bal - tk - (n - tk - draw) },
                        pool := g.pool - draw, pkgRoom := g.pkgRoom - n, charged := g.charged + n.toNat }
      let g := if ledger < 64 then { g with room := tset 0 g.room die (room - n), roomUsed := tset false g.roomUsed die true } else g
      .ok { s with nrg := g.learn l cls d k }
    else .wait false

/-! ### The completion of submission-queue entries (R476 to R481) -/

/-- A submission queue; numbers from 256 on hold what an FLR left running (R489). -/
def State.sq (s : State) (q : Nat) : Sq := tget .reset s.hq.sqs q

/-- Put back a submission queue. -/
def State.setSq (s : State) (q : Nat) (x : Sq) : State := { s with hq := { s.hq with sqs := tset .reset s.hq.sqs q x } }

/-- A completion queue. -/
def State.cq (s : State) (c : Nat) : Cq := tget .reset s.hq.cqs c

/-- Put back a completion queue. -/
def State.setCq (s : State) (c : Nat) (x : Cq) : State := { s with hq := { s.hq with cqs := tset .reset s.hq.cqs c x } }

/-- The bound CQ of a queue (R493). -/
def Sq.cq (x : Sq) : Nat := x.cfg.fld 5 8

/-- Entry `idx` of a queue, among those fetched and not complete. -/
def Sq.ent (x : Sq) (idx : Nat) : Option SqEnt := x.ents.find? (·.idx == idx)

/-- Replace an entry. -/
def Sq.setEnt (x : Sq) (e : SqEnt) : Sq := { x with ents := x.ents.map fun y => if y.idx = e.idx then e else y }

/-- Write a mailbox (R481, R498). -/
def State.mboxWrite (s : State) (m status q idx result : Nat) : State :=
  let s := s.setReg (Reg.HQ_MBOXm_DATA_LO m) (BitVec.ofNat 32 result)
  let s := s.setReg (Reg.HQ_MBOXm_DATA_HI m) (BitVec.ofNat 32 (result / 2 ^ 32))
  s.setReg (Reg.HQ_MBOXm_STATUS m) (BitVec.ofNat 32 (status + q * 256 + idx * 65536))

/-- Complete an entry (R472, R478 to R481): its header signal, its mailbox, its completion; none where the header signal must
wait for a tracker. (DESIGN CHOICE, log 27) -/
def State.sqDone (s : State) (q idx status result aux : Nat) : Option State :=
  match (s.sq q).ent idx with
  | none => some s
  | some e =>
    let ty := bfld e.bytes 0 1
    let own := decide (0x40 ≤ ty ∧ ty ≤ 0x44)
    let sent := if own then s.sendHeader dieK .other (hsigAt e.bytes 44 48 50 52) 0 0 else some (s, some 0)
    match sent with
    | none => none
    | some (s, _) =>
      let x := s.sq q
      let s := s.setSq q { x with ents := x.ents.filter (·.idx ≠ idx) }
      if q ≥ 256 then some s
      else
        let mb := bfld e.bytes 2 2
        let s :=
          if own && decide (mb ≥ 32768) && tget none s.hq.armed (mb % 1024) = some (q, idx) then
            let s := s.mboxWrite (mb % 1024) status q idx result
            { s with hq := { s.hq with armed := tset none s.hq.armed (mb % 1024) none } }
          else s
        let c := s.cq x.cq
        some (s.setCq x.cq { c with wait := c.wait ++
          [{ status, type := ty, sq := q, idx, result, aux, noIrq := own && (bfld e.bytes 1 1) / 2 % 2 == 1 }] })

end Sys2Proof.Machine
end

