-- ==== Sys2Proof/Machine/Operands.lean ====
section
/-! DEFINITION. The operands of cell instructions (R90 to R96): the register files of a cell, the fields of the six formats, the
memory a cell reaches, port conflicts on its accesses (R170), tile descriptors (R104, R105, R181). -/

namespace Sys2Proof.Machine

/-! ### The register files (R90) -/

/-- A scalar register; s0 reads as zero. -/
def Cell.sr (c : Cell) (r : Nat) : Word64 := if r = 0 then 0 else tget 0 c.s r

/-- Write a scalar register; a write of s0 is ignored. -/
def Cell.setS (c : Cell) (r : Nat) (v : Word64) : Cell := if r = 0 then c else { c with s := tset 0 c.s r v }

/-- The lanes of a vector register. -/
def Cell.vec (c : Cell) (r : Nat) : List Word := (List.range 64).map fun i => tget 0 c.v (64 * r + i)

/-- The poison bit of a vector register. -/
def Cell.vpois (c : Cell) (r : Nat) : Bool := tget false c.vp r

/-- Write a vector register and its poison bit. -/
def Cell.setVec (c : Cell) (r : Nat) (xs : List Word) (poison : Bool) : Cell :=
  { c with v := tfill 0 c.v (64 * r) (xs.take 64), vp := tset false c.vp r poison }

/-- A predicate register. -/
def Cell.pr (c : Cell) (r : Nat) : Word64 := tget 0 c.p r

/-- Write a predicate register. -/
def Cell.setP (c : Cell) (r : Nat) (v : Word64) : Cell := { c with p := tset 0 c.p r v }

/-- A row of an accumulator. -/
def Cell.accRow (c : Cell) (a row : Nat) : List Word := (List.range 64).map fun j => tget 0 c.a (4096 * a + 64 * row + j)

/-- The elements of an accumulator, row by row. -/
def Cell.acc (c : Cell) (a : Nat) : List Word := (List.range 4096).map fun e => tget 0 c.a (4096 * a + e)

/-- The poison bit of an accumulator. -/
def Cell.apois (c : Cell) (a : Nat) : Bool := tget false c.ap a

/-- Write an accumulator and its poison bit. -/
def Cell.setAcc (c : Cell) (a : Nat) (xs : List Word) (poison : Bool) : Cell :=
  { c with a := tfill 0 c.a (4096 * a) (xs.take 4096), ap := tset false c.ap a poison }

/-- Write a row of an accumulator and its poison bit. -/
def Cell.setAccRow (c : Cell) (a row : Nat) (xs : List Word) (poison : Bool) : Cell :=
  { c with a := tfill 0 c.a (4096 * a + 64 * row) (xs.take 64), ap := tset false c.ap a poison }

/-- A descriptor register. -/
def Cell.dd (c : Cell) (d : Nat) : BitVec 256 := tget 0 c.d d

/-- Write a descriptor register. -/
def Cell.setD (c : Cell) (d : Nat) (v : BitVec 256) : Cell := { c with d := tset 0 c.d d v }

/-- The seed of a cell (R99): the one drawn at the last reset until a program sets another or a draw advances it. (DESIGN CHOICE, log 14) -/
def State.seed (s : State) (i : Nat) : Word64 :=
  match (s.cell i).seed with
  | some x => x
  | none => BitVec.ofNat 64 (Config.free (s.seedBase + i))

/-- The work_unit of the RUN (R115). -/
def Cell.wu (c : Cell) : Nat := c.work.toNat % 2 ^ 32

/-- The placement epoch of the RUN (R115). -/
def Cell.epoch (c : Cell) : Nat := c.work.toNat / 2 ^ 32 % 256

/-! ### Fields (R95, R96) -/

/-- Modifier bit 112 + i. -/
def mbit (m : BitVec 8) (i : Nat) : Bool := m.getLsbD i

/-- In FA, every field that is not used is zero (R95). -/
def faClean (f : FA) (rd ra rb rc imm : Bool) : Bool :=
  (rd || f.rd == 0) && (ra || f.ra == 0) && (rb || f.rb == 0) && (rc || f.rc == 0) && (imm || f.imm12 == 0) && f.rsv == 0

/-- In FB, every field that is not used is zero. -/
def fbClean (f : FB) (rd ra imm : Bool) : Bool :=
  (rd || f.rd == 0) && (ra || f.ra == 0) && (imm || f.imm64 == 0) && f.rsv == 0

/-- In FC, every field that is not used is zero. -/
def fcClean (f : FC) (ra rb off : Bool) : Bool :=
  (ra || f.ra == 0) && (rb || f.rb == 0) && (off || f.offset == 0) && f.rsv == 0

/-- imm12, sign-extended. -/
def simm12 (f : FA) : Word64 := f.imm12.signExtend 64

/-! ### The memory a cell reaches -/

/-- Does a range lie wholly in the cell's own memory or in its die's pool? -/
def State.cellLocal (s : State) (ci da len : Nat) : Bool :=
  match s.rangeStore da len with
  | some st => st == 20 + ci || st == 16 + ci / 256
  | none => false

/-- May the instruction at the pc be fetched (R92)? -/
def State.fetchOk (s : State) (ci pc : Nat) : Bool := pc % 16 == 0 && s.cellLocal ci pc 16

/-! ### Port conflicts (R170 to R172) -/

/-- Does a range of a cell memory or die pool touch the bank word of a conflict? -/
def wordTouched (word da len : Nat) : Bool :=
  decide (da ≥ 0x10000000000) && rangesMeet da len (word / 128 * 128) 128

/-- Does this access see PORT_BUSY? -/
def peBusy (pe : PortEv) (da len : Nat) (write : Bool) : Bool :=
  match pe with
  | .later wr word _ => (wr || write) && wordTouched word da len
  | _ => false

/-- Does the other port's access, the later one, meet a conflict that no operation is told of (R172)? -/
def peSilent (pe : PortEv) (da len : Nat) (write : Bool) : Bool :=
  match pe with
  | .earlier wr word _ true => (wr || write) && wordTouched word da len
  | _ => false

/-- The bank word of a conflict. -/
def peWord : PortEv → Nat
  | .later _ word _ | .earlier _ word _ _ => word
  | _ => 0

/-- The bytes of a conflicting word's other version. -/
def peData : PortEv → List Byte
  | .later _ _ d | .earlier _ _ d _ => d
  | _ => []

/-- The bank word whose bytes a read of a range receives mixed with another port's write. -/
def peMixed (pe : PortEv) (da len : Nat) : Option Nat :=
  match pe with
  | .later true word _ | .earlier true word _ _ => if wordTouched word da len then some (word / 128) else none
  | _ => none

/-- The bank word that an earlier port's write loses to a later one. -/
def peLost (pe : PortEv) (da len : Nat) : Option Nat :=
  match pe with
  | .earlier true word _ _ => if wordTouched word da len then some (word / 128) else none
  | _ => none

/-- The protection unit of a byte (R168). -/
def unitOf (da : Nat) : Nat := da / protUnit da * protUnit da

/-- An access meets the ECC error of its cycle, where its range holds it (R168): a corrected one is recorded, an uncorrectable one
stays in its unit. -/
def State.meet (s : State) (pe : PortEv) (da len : Nat) : State :=
  match pe with
  | .corrected a =>
    (match s.storeOf a with
     | some st =>
       if da ≤ a ∧ a < da + len then s.raiseErr 0 0x20 (if st < 16 then dieW st else storeDie st) (bankOf a) (some a) 0 else s
     | none => s)
  | .uncorrectable a =>
    if (s.storeOf a).isSome && decide (da ≤ a ∧ a < da + len) then
      { s with mem := { s.mem with bad := tset false s.mem.bad (unitOf a) true } }
    else s
  | _ => s

/-! ### How an access sees memory (R128, R170, R188, R189) -/

/-- The memory as one command's accesses see it: the event of their cycle, the bytes whose data is undefined for them, and the bytes
that an incomplete asynchronous operation touches. -/
structure View where
  pe : PortEv
  undef : List (Nat × Nat)
  touch : List (Nat × Nat)
deriving DecidableEq, Repr

/-- Does a range hold a byte whose data is undefined? -/
def View.hits (v : View) (da n : Nat) : Bool := v.undef.any fun r => rangesMeet r.1 r.2 da n

/-- What two ranges share. -/
def rangeMeet (a b : Nat × Nat) : Option (Nat × Nat) :=
  if rangesMeet a.1 a.2 b.1 b.2 then some (max a.1 b.1, min (a.1 + a.2) (b.1 + b.2) - max a.1 b.1) else none

/-- One byte as an access sees it: undefined; either version of a conflicting word (R170); as held. (DESIGN CHOICE, log 16) -/
def State.byteSeen (s : State) (v : View) (mixed : Option Nat) (a : Nat) : Byte :=
  if v.hits a 1 then BitVec.ofNat 8 (Config.torn s.freeIdx a)
  else if mixed = some (a / 128) ∧ Config.torn s.freeIdx a % 2 = 1 then (peData v.pe).getD (a % 128) (s.byte a)
  else s.byte a

/-- Read bytes as a command's accesses see them (R128, R170). (DESIGN CHOICE, log 16) -/
def State.readPE (s : State) (v : View) (da n : Nat) : List Byte :=
  match peMixed v.pe da n, v.hits da n with
  | none, false => s.readMem da n
  | mixed, _ => (List.range n).map fun i => s.byteSeen v mixed (da + i)

/-- Note what a write meets of the incomplete asynchronous operations (R128). (DESIGN CHOICE, log 62) -/
def State.noteClash (s : State) (v : View) (da n : Nat) : State :=
  match v.touch.filterMap (rangeMeet (da, n)) with
  | [] => s
  | rs => { s with clash := s.clash ++ rs }

/-- Write bytes: an earlier write to a conflicting word is lost (R170); a byte that an incomplete asynchronous operation writes too is
left undefined (R128). (DESIGN CHOICE, log 62) -/
def State.writePE (s : State) (v : View) (da : Nat) (bs : List Byte) : State :=
  let bs := if v.hits da bs.length then bs.zipIdx.map fun p =>
      if v.hits (da + p.2) 1 then BitVec.ofNat 8 (Config.torn s.freeIdx (da + p.2)) else p.1
    else bs
  let t := match peLost v.pe da bs.length with
    | none => s.writeMem da bs
    | some w =>
      let a := w * 128 - da
      let b := w * 128 + 128 - da
      (s.writeMem da (bs.take a)).writeMem (da + b) (bs.drop b)
  t.noteClash v da bs.length

/-- The accesses of a command: address, length, whether it is a write. -/
abbrev Acc := Nat × Nat × Bool

/-- Does a command's access see PORT_BUSY? -/
def View.busy (v : View) (accs : List Acc) : Bool := accs.any fun a => peBusy v.pe a.1 a.2.1 a.2.2

/-- Account for a command's accesses: a conflict is counted where the later port was this command or one that receives no status (R172),
and what it received undefined counts as one free value. (DESIGN CHOICE, log 16) -/
def State.met (s : State) (v : View) (accs : List Acc) : State :=
  let t := if v.busy accs || accs.any (fun a => peSilent v.pe a.1 a.2.1 a.2.2) then s.countPortBusy (peWord v.pe) else s
  if accs.any fun a => (peMixed v.pe a.1 a.2.1).isSome || v.hits a.1 a.2.1 then t.takeFree 1 else t

/-- Read a trailer as a command's accesses see it. -/
def State.trailerPE (s : State) (v : View) (da : Nat) : Trailer :=
  let b := s.readPE v da 8
  { crc := bfld b 0 4, epoch := bfld b 4 2, fmt := bfld b 6 1, flags := bfld b 7 1 }

/-- Read and check a tile (R182): its bytes and trailer as they were received (R183). -/
def State.readTile (s : State) (v : View) (r : Region) (da : Nat) : TileRead :=
  let t := s.trailerPE v (r.trailerDA da)
  let n := tileSize t.fmt r.sealFmt
  let b := s.readPE v da n
  { bytes := b, trl := t,
    ok := (crc32c b).toNat = t.crc && t.valid && !t.poison && !s.poisonRange da n && !s.poisonRange (r.trailerDA da) 8 }

/-- Write a tile, then its trailer (R187). -/
def State.writeTile (s : State) (v : View) (r : Region) (da : Nat) (bs : List Byte) (t : Trailer) : State :=
  (s.writePE v da bs).writePE v (r.trailerDA da) t.toBytes

/-- The trailers of the tiles that a range of a tiled region touches: address and length; none for an untiled range. -/
def trailersOf (t : Tab Region) (da len : Nat) : Option (Nat × Nat) :=
  (regionIn t da len).map fun r => (r.trailerDA da, 8 * ((len + r.slot - 1) / r.slot))

/-- The accesses to a range, with those to its trailers. -/
def rangeAcc (t : Tab Region) (da len : Nat) (write : Bool) : List Acc :=
  (da, len, write) :: (match trailersOf t da len with | some x => [(x.1, x.2, write)] | none => [])

/-! ### Tile descriptors (R104, R105, R135, R143) -/

/-- Bits [lo + w − 1 : lo] of a descriptor. -/
def dfld (d : BitVec 256) (lo w : Nat) : Nat := bitsOf d.toNat lo w

/-- Does a descriptor keep to R104, with a format of the list that the instruction accepts? -/
def descOk (d : BitVec 256) (okFmt : Nat → Bool) : Bool :=
  dfld d 46 18 == 0 && okFmt (dfld d 96 8) && dfld d 106 6 == 0 && dfld d 112 16 == 0 && dfld d 160 96 == 0 &&
    !(dfld d 104 1 == 1 && ((fmtOf (dfld d 96 8)).map (·.mx)).getD false)

/-- A descriptor as an instruction reads it, its base offset by an s register (modulo 2^64). -/
def State.readDesc (s : State) (d : BitVec 256) (off : Word64) : TDesc :=
  { trg := s.trg, baseOk := dfld d 0 46 % 64 == 0, base := (dfld d 0 46 + off.toNat) % 2 ^ 64, stride := dfld d 64 32, fmt := dfld d 96 8,
    transposed := dfld d 104 1 == 1, scaleValid := dfld d 105 1 == 1, scale := BitVec.ofNat 32 (dfld d 128 32) }

/-- The tile size of a descriptor's format. -/
def TDesc.size (t : TDesc) : Nat := tileBytes t.fmt

/-- May the cell use the tile at an address of a descriptor (R105, R181)? -/
def State.tileOk (s : State) (ci : Nat) (t : TDesc) (da : Nat) : Bool :=
  s.cellLocal ci da t.size &&
    match regionIn t.trg da t.size with
    | some r => (da - r.base) % r.slot == 0 && decide (t.size ≤ r.slot)
    | none => false

/-- The addresses of n tiles of a descriptor. -/
def TDesc.tiles (t : TDesc) (n : Nat) : List Nat := (List.range n).map fun i => t.base + i * t.stride

/-- Do the descriptor's own base, the base with its offset, and the stride keep to R105, and may the cell use the first n tiles? -/
def State.descAddrOk (s : State) (ci : Nat) (t : TDesc) (n : Nat) : Bool :=
  t.baseOk && t.base % 64 == 0 && t.stride % 64 == 0 && (t.tiles n).all (s.tileOk ci t)

/-- The operations of a tensor entry on an accumulator. -/
def TEntry.acc : TEntry → Nat
  | .mma a .. | .accz a | .accld a _ | .accst a .. => a

/-- Is it an ACCST? -/
def TEntry.isSt : TEntry → Bool
  | .accst .. => true
  | _ => false

/-- Does an earlier tensor-queue entry use an accumulator (R125)? -/
def Cell.tqUses (c : Cell) (a : Nat) : Bool := c.tq.any (·.acc == a)

end Sys2Proof.Machine
end

