-- ==== Sys2Proof/Machine/Flight.lean ====
section
/-! DEFINITION. The asynchronous operations in flight (R126 to R128, R189): which memory each incomplete MOVE, tensor-queue entry,
OPROJ and WQ touches, and the view of memory that follows for every other access. -/

namespace Sys2Proof.Machine

/-! ### Addresses and operands -/

/-- The device bits and the DA of a global address. -/
def gaDev (ga : Nat) : Nat := ga / 2 ^ 46
/-- The DA of a global address. -/
def gaDA (ga : Nat) : Nat := ga % 2 ^ 46

/-- Bytes of an input vector. -/
def cuInBytes (fmt : Nat) : Nat := if fmt = 0 then 128 else 64

/-- Bytes of an output vector. -/
def cuOutBytes (mode : Nat) : Nat := if mode = 0 then 32 else if mode = 1 then 512 else 1024

/-- The fields of a slot's shape and reservation (R241, R242). -/
def Slot.layers (x : Slot) : Nat := x.shape.fld 0 8 + 1
/-- KV heads per layer. -/
def Slot.kvh (x : Slot) : Nat := x.shape.fld 8 6 + 1
/-- Query heads per KV head. -/
def Slot.group (x : Slot) : Nat := x.shape.fld 14 4 + 1
/-- MXFP4 frames. -/
def Slot.mx (x : Slot) : Bool := x.shape.bit 18
/-- J, the pages each stack holds per head. -/
def Slot.pages (x : Slot) : Nat := x.rsv.fld 0 13
/-- Reserved tokens. -/
def Slot.tokens (x : Slot) : Nat := x.pages * 1024
/-- The head count H. -/
def Slot.heads (x : Slot) : Nat := x.layers * x.kvh
/-- Query heads of a layer. -/
def Slot.qheads (x : Slot) : Nat := x.kvh * x.group
/-- The frame size F. -/
def Slot.frame (x : Slot) : Nat := if x.mx then 12288 else 20480
/-- B, the summary blocks per head. -/
def Slot.blocks (x : Slot) : Nat := (x.pages + 63) / 64
/-- The footprint per stack, in MiB (R212). -/
def Slot.foot (x : Slot) : Nat := (x.heads * x.pages * x.frame + x.heads * x.blocks * 2056 + 2 ^ 20 - 1) / 2 ^ 20

/-- The operation. -/
def wbOp (b : List Byte) : Nat := bfld b 0 1
/-- The slot. -/
def wbSlot (b : List Byte) : Nat := bfld b 2 1 % 8
/-- Does a command name a slot? FOLD and GATHER do not. -/
def wbHasSlot (b : List Byte) : Bool := wbOp b ≠ 3 && wbOp b ≠ 4
/-- Where Weir n writes the results of a block (R209). -/
def wbResult (n : Nat) (b : List Byte) : Nat := bfld b 16 8 + n * bfld b 24 4

/-! ### What is in flight (R128) -/

/-- The tiles of each descriptor that one MMA step takes; none for a pair of formats that is not legal (R107). -/
def mmaTiles (fa fb : Nat) : Option Nat :=
  if (fa = 4 ∨ fa = 5) ∧ (fb = 4 ∨ fb = 5) then some 1
  else if (fa = 6 ∨ fa = 7) ∧ (fb = 6 ∨ fb = 7) then some 1
  else if fa = fb ∧ (fa = 2 ∨ fa = 3 ∨ fa = 9 ∨ fa = 10) then some 1
  else if fa = fb ∧ (fa = 8 ∨ fa = 11) then some 2
  else none

/-- The accesses of a MOVE on this device. -/
def State.moveAcc (s : State) (m : MoveOp) : List Acc :=
  if m.len = 0 then []
  else (if s.isLocal (gaDev m.src) then rangeAcc m.regions (gaDA m.src) m.len false else []) ++
    (if s.isLocal (gaDev m.dst) then rangeAcc m.regions (gaDA m.dst) m.len true else [])

/-- The accesses to n tiles of a descriptor, with their trailers. -/
def TDesc.acc (d : TDesc) (n : Nat) (write : Bool) : List Acc := (d.tiles n).flatMap fun a => rangeAcc d.trg a d.size write

/-- The accesses of a tensor-queue entry. -/
def TEntry.accs : TEntry → List Acc
  | .mma _ _ _ a b k =>
    let n := k * (mmaTiles a.fmt b.fmt).getD 1
    a.acc n false ++ b.acc n false
  | .accz _ => []
  | .accld _ d => d.acc 1 false
  | .accst _ d _ _ => d.acc 1 true

/-- The accesses of a Confluence job. -/
def CuEntry.accs : CuEntry → List Acc
  | .oproj _ _ inDA outDA st _ _ fmt mode n _ _ =>
    [(inDA, n * cuInBytes fmt, false), (outDA, n * cuOutBytes mode, true)] ++
      (match st with | some a => [(a, n, true)] | none => [])
  | .bound .. => []

/-- The accesses of a Weir command outside the KV partition. -/
def State.wbAccs (s : State) (trg : Tab Region) (n : Nat) (k : WBlk) : List Acc :=
  let b := k.bytes
  match wbOp b with
  | 2 => [(wbResult n b, 32 + 520 * (tget .free (s.weir n).slots (wbSlot b)).qheads, true)]
  | 3 => rangeAcc trg (bfld b 32 8) (bfld b 40 4) false ++ rangeAcc trg (bfld b 16 8) (bfld b 40 4) true
  | 4 => rangeAcc trg (bfld b 32 8) (bfld b 44 4 * bfld b 40 4) false ++
      rangeAcc trg (wbResult n b) (bfld b 48 4 * bfld b 40 4) true
  | _ => []

/-- Is a block a cell's WQ? -/
def WBlk.ofCell (k : WBlk) : Bool := match k.iss with | .cell .. => true | .sq .. => false

/-- The accesses of every incomplete asynchronous operation (R126, R128, R189). (DESIGN CHOICE, log 62) -/
def State.flight (s : State) : List Acc :=
  s.moves.flatMap s.moveAcc ++ (s.cells.flatMap fun kv => kv.2.tq.flatMap TEntry.accs) ++
  (s.cus.flatMap fun kv => (kv.2.job.toList ++ kv.2.queue).flatMap CuEntry.accs) ++
  s.weirs.flatMap fun kv =>
    ((kv.2.queue.filter WBlk.ofCell).flatMap (s.wbAccs s.trg kv.1)) ++
    ((kv.2.running.filter fun y => y.done.isNone && y.blk.ofCell).flatMap fun y => s.wbAccs y.regions kv.1 y.blk)

/-- The view of an access outside them, a cell's own loads and stores among them (R128). (DESIGN CHOICE, log 62) -/
def State.viewNow (s : State) (pe : PortEv) : View :=
  let f := s.flight
  { pe, undef := (f.filter fun a => a.2.2).map fun a => (a.1, a.2.1), touch := f.map fun a => (a.1, a.2.1) }

/-- The view of an asynchronous operation that is no longer in flight: what was written into its way while it was is undefined too. (DESIGN CHOICE, log 62) -/
def State.viewEnd (s : State) (pe : PortEv) : View :=
  let v := s.viewNow pe
  { v with undef := s.clash ++ v.undef }

/-- Forget the clashes that meet nothing in flight any more. -/
def State.settle (s : State) : State :=
  match s.clash with
  | [] => s
  | rs =>
    let f := s.flight
    { s with clash := rs.filter fun r => f.any fun a => rangesMeet r.1 r.2 a.1 a.2.1 }

/-- Does no incomplete asynchronous operation write a range? (DESIGN CHOICE, log 62) -/
def State.calm (s : State) (da n : Nat) : Bool := s.flight.all fun a => !(a.2.2 && rangesMeet a.1 a.2.1 da n)

/-- Does no incomplete asynchronous operation touch a range? (DESIGN CHOICE, log 62) -/
def State.still (s : State) (da n : Nat) : Bool := s.flight.all fun a => !rangesMeet a.1 a.2.1 da n

end Sys2Proof.Machine
end

