-- ==== Sys2Proof/Machine/Copy.lean ====
section
/-! DEFINITION. Copies and folds (R35, R38, R173, R177 to R190, R232 to R234): which dies a store can be reached from, what a MOVE
does to its destination, folds into resident tiles, and a MOVE's packets to another device. -/

namespace Sys2Proof.Machine

/-! ### Folds (R232 to R234) -/

/-- A sum of BF16 elements rounded once, a magnitude below 2^−126 flushed to a zero of its sign (R233). -/
def toBf16 (v : FV) : Nat :=
  match v with
  | .fin neg m e =>
    let (n, q) := roundMag 8 ((bitLen m : Int) + e - 8) .rne m e
    if n = 0 || magGt 1 (-126) n q then bf16.signBit neg else bf16.enc .rne (.fin neg n q)
  | v => bf16.enc .rne v

/-- The element sum of a fold. -/
def foldElem (b16 : Bool) (x y : Nat) : Nat :=
  if b16 then toBf16 ((bf16.dec x).add (bf16.dec y))
  else (to32 ((of32 (BitVec.ofNat 32 x)).add (of32 (BitVec.ofNat 32 y)))).toNat

/-- Group bytes into little-endian elements of n bytes; the fuel is the list's length. -/
def elemsOf (n : Nat) : Nat → List Byte → List Nat
  | 0, _ => []
  | k + 1, bs => if bs = [] then [] else ofBytesLE (bs.take n) :: elemsOf n k (bs.drop n)

/-- The bytes of an elementwise sum. -/
def foldBytes (b16 : Bool) (res arr : List Byte) : List Byte :=
  let n := if b16 then 2 else 4
  (List.zipWith (foldElem b16) (elemsOf n res.length res) (elemsOf n arr.length arr)).flatMap (toBytesLE n)

/-- 32-bit wrapping sums (R232). -/
def foldInts (res arr : List Byte) : List Byte :=
  (List.zipWith (fun x y => (x + y) % 2 ^ 32) (elemsOf 4 res.length res) (elemsOf 4 arr.length arr)).flatMap (toBytesLE 4)

/-- The format of a fold's mode. -/
def foldFmt (b16 : Bool) : Nat := if b16 then 2 else 1

/-- Fold an arriving tile into the resident tile that starts at `da` in region r of Wn's stack (R232 to R234, R238). -/
def State.foldTile (s : State) (v : View) (n : Nat) (r : Region) (da : Nat) (b16 : Bool) (data : List Byte) (fmt : Nat) (arrOk : Bool)
    (wu epoch : Nat) : State × Nat :=
  if r.slot < 8192 then (s, 11)
  else if !s.plcOk wu epoch then (s.discard, 2)
  else
    let s := s.eccRead da 8192
    let t := s.readTile v r da
    let fresh := !t.trl.valid
    let resOk := fresh || (t.ok && t.trl.fmt == foldFmt b16)
    let aOk := arrOk && fmt == foldFmt b16
    let res := if fresh then zeros 8192 else padTo 8192 (s.readPE v da 8192)
    let sum := foldBytes b16 res (padTo 8192 data)
    let s := s.writeTile v r da sum (mkTrailer sum epoch (foldFmt b16) (!(resOk && aOk)) false)
    let s := s.bump (Reg.Wn_FOLD_TILES n)
    let bad := (!resOk).toNat + (!aOk).toNat
    if bad = 0 then (s, 0) else (s.countCheck (4 + n) bad, 1)

/-- Write bytes but those that `keep` names; a unit whose bytes were not all written stays uncorrectable (R168, R185). -/
def State.writeKeep (s : State) (v : View) (da : Nat) (bs : List Byte) (keep : Nat → Bool) : State :=
  let t := s.writePE v da (bs.zipIdx.map fun p => if keep p.2 then s.byte (da + p.2) else p.1)
  let kept (u : Nat) : Bool := (List.range bs.length).any fun i => keep i && decide (u ≤ da + i) && decide (da + i < u + protUnit u)
  { t with mem := { t.mem with bad := s.mem.bad.filter fun kv => t.mem.bad.contains kv || kept kv.1 } }

/-- Fold untiled words (R232): a poisoned word of either side leaves its destination unchanged (R185). -/
def State.foldUntiled (s : State) (v : View) (n dst : Nat) (data : List Byte) (badAt : Nat → Bool) (wu epoch : Nat) : State × Nat :=
  if !s.plcOk wu epoch then (s.discard, 2)
  else
    let new := foldInts (s.readPE v dst data.length) data
    let skip := fun i => badAt (i / 4 * 4) || badAt (i / 4 * 4 + 3) || s.poisonByte (dst + i / 4 * 4)
    let t := (s.writeKeep v dst new skip).bumpN (Reg.Wn_FOLD_TILES n) ((data.length + 8191) / 8192)
    if (List.range data.length).any skip then (t.countCheck (4 + n) 1, 1) else (t, 0)

/-! ### MOVE on this device (R187, R188) -/

/-- Do the two local ranges keep to the table of R187, or of R232 for a fold? -/
def pairOk (src dst len : Nat) (fold b16 : Bool) : RKind → RKind → Bool
  | .untiled, .untiled => !(fold && b16)
  | .tiled a, .tiled b => (src - a.base) % a.slot == 0 && (dst - b.base) % b.slot == 0 && a.slot == b.slot && len % a.slot == 0
  | .tiled a, .untiled => !fold && (src - a.base) % a.slot == 0 && len % a.slot == 0
  | .untiled, .tiled b => !fold && (dst - b.base) % b.slot == 0 && len % b.slot == 0
  | _, _ => false

/-- Does one local range of a MOVE keep to R187 by itself? -/
def sideOk (da len : Nat) : RKind → Bool
  | .tiled r => (da - r.base) % r.slot == 0 && len % r.slot == 0
  | .untiled => true
  | .mixed => false

/-- May a MOVE be issued (R114, R187, R188, R190, R210, R232)? `weir`: the Weir that runs it. -/
def State.moveOk (s : State) (weir : Option Nat) (src dst len : Nat) (fold b16 : Bool) : Bool :=
  let ls := s.isLocal (gaDev src)
  let ld := s.isLocal (gaDev dst)
  let a := gaDA src
  let b := gaDA dst
  a % 32 == 0 && b % 32 == 0 && len % 32 == 0 && decide (len ≤ 0xFFFFFFE0) && (ls || ld) &&
  (!ls || (s.rangeStore a len).isSome) && (!ld || ((s.rangeStore b len).isSome && !s.touchesKv b len)) &&
  (!fold || decide (b < 0x10000000000)) &&
  (match weir with
   | none => true
   | some n =>
     let own := fun (st : Option Nat) => st == some n
     let near := fun (st : Option Nat) => match st with | some k => k == n || decide (16 ≤ k) | none => false
     ls && ld && ((own (s.rangeStore a len) && near (s.rangeStore b len)) || (own (s.rangeStore b len) && near (s.rangeStore a len)))) &&
  (if ls && ld then pairOk a b len fold b16 (rangeKind s.trg a len) (rangeKind s.trg b len)
   else if ls then sideOk a len (rangeKind s.trg a len) && !(fold && b16 && rangeKind s.trg a len == .untiled)
   else sideOk b len (rangeKind s.trg b len))

/-- The view of a copy's source: a byte whose source lies inside the destination range is undefined (R188). (DESIGN CHOICE, log 52) -/
def srcView (v : View) (regions : Tab Region) (src dst len : Nat) : View :=
  if rangesMeet src len dst len then
    { v with undef := (dst, len) :: (trailersOf regions dst len).toList ++ v.undef }
  else v

/-- Untiled to untiled: poisoned source bytes leave their destination unchanged (R185). -/
def State.copyPlain (s : State) (v vr : View) (src dst len : Nat) : State × Nat :=
  let bs := s.readPE vr src len
  if s.poisonRange src len then (s.writeKeep v dst bs fun i => s.poisonByte (src + i), 1)
  else (s.writePE v dst bs, 0)

/-- Seal a slot from untiled bytes (R187, R185). -/
def State.sealSlot (s : State) (v : View) (r : Region) (da epoch : Nat) (bs : List Byte) (bad : Bool) : State :=
  s.writeTile v r da bs (mkTrailer bs epoch r.sealFmt bad true)

/-- Seal n slots from untiled bytes; `s` is the state in which the source is read. -/
def State.sealTiles (s : State) (v : View) (src : Nat) (r : Region) (dst epoch n : Nat) : State × Nat :=
  (List.range n).foldl (fun (t : State × Nat) j =>
    let a := src + j * r.slot
    let k := tileBytes r.sealFmt
    let bad := s.poisonRange a k
    (t.1.sealSlot v r (dst + j * r.slot) epoch (s.readPE v a k) bad, if bad then 1 else t.2)) (s, 0)

/-- A trailer with flags.poison set where the check failed. -/
def Trailer.mark (t : Trailer) (ok : Bool) : Trailer := if ok then t else { t with flags := t.flags / 2 * 2 + 1 }

/-- Copy n tiles with their trailers (R187): the state and whether every tile passed its check. `s` is the state in which the source is
read; where the ranges overlap, the data is what `vr` leaves of it (R188). -/
def State.copyTiles (s : State) (v vr : View) (a b : Region) (src dst n : Nat) : State × Bool :=
  (List.range n).foldl (fun (u : State × Bool) j =>
    let sa := src + j * a.slot
    let da := dst + j * b.slot
    let t := s.readTile v a sa
    let tr := if vr = v then (t.trl.mark t.ok).toBytes else ((s.trailerPE vr (a.trailerDA sa)).mark t.ok).toBytes
    ((u.1.writePE v da (s.readPE vr sa t.bytes.length)).writePE v (b.trailerDA da) tr, u.2 && t.ok)) (s, true)

/-- Copy n tiles into untiled memory (R187): a failing tile leaves its destination bytes unchanged. -/
def State.unpackTiles (s : State) (v : View) (a : Region) (src dst n : Nat) : State × Bool :=
  (List.range n).foldl (fun (u : State × Bool) j =>
    let t := s.readTile v a (src + j * a.slot)
    (if t.ok then u.1.writePE v (dst + j * a.slot) (padTo a.slot t.bytes) else u.1, u.2 && t.ok)) (s, true)

/-- Fold n tiles (R232). -/
def State.foldTiles (s : State) (v : View) (n : Nat) (a b : Region) (src dst : Nat) (b16 : Bool) (wu epoch count : Nat) : State × Nat :=
  (List.range count).foldl (fun (u : State × Nat) j =>
    let t := s.readTile v a (src + j * a.slot)
    let (w, x) := u.1.foldTile v n b (dst + j * b.slot) b16 t.bytes t.trl.fmt t.ok wu epoch
    (w, worseStatus u.2 x)) (s, 0)

/-- Count the failed checks of an operation once in the die that ran it (R186). -/
def checked (die : Nat) (r : State × Bool) : State × Nat := if r.2 then (r.1, 0) else (r.1.countCheck die 1, 1)

/-- The effect of a MOVE whose two ends are on this device: the state and the status. -/
def State.moveLocal (s : State) (v : View) (m : MoveOp) : State × Nat :=
  let a := gaDA m.src
  let b := gaDA m.dst
  let accs := s.moveAcc m
  let vr := srcView v m.regions a b m.len
  let fin := fun (r : State × Nat) =>
    let t := r.1.met v accs
    (if vr = v then t else t.takeFree 1, worseStatus r.2 (if v.busy accs then 3 else 0))
  if m.fold then
    let n := b / 0x1000000000
    match rangeKind m.regions a m.len, rangeKind m.regions b m.len with
    | .tiled ra, .tiled rb => fin (s.foldTiles vr n ra rb a b m.bf16 m.workUnit m.epoch (m.len / ra.slot))
    | _, _ => fin (s.foldUntiled vr n b (s.readPE vr a m.len) (fun i => s.poisonByte (a + i)) m.workUnit m.epoch)
  else if !s.plcOk m.workUnit m.epoch then (s.discard, 2)
  else
    match rangeKind m.regions a m.len, rangeKind m.regions b m.len with
    | .tiled ra, .tiled rb => fin (checked m.die (s.copyTiles v vr ra rb a b (m.len / ra.slot)))
    | .tiled ra, _ => fin (checked m.die (s.unpackTiles v ra a b (m.len / ra.slot)))
    | _, .tiled rb => fin (s.sealTiles v a rb b m.sealEpoch (m.len / rb.slot))
    | _, _ => fin (s.copyPlain v vr a b m.len)

/-! ### MOVE to and from another device (R191, R426 to R428) -/

/-- Cut a range of `len` bytes at `da` into pieces of at most 256 bytes: address and length. -/
def pieces (da len : Nat) : List (Nat × Nat) :=
  (List.range ((len + 255) / 256)).map fun i => (da + 256 * i, min 256 (len - 256 * i))

/-- Cut a range at the 64-byte boundaries. -/
def cut64 (da len : Nat) : List (Nat × Nat) :=
  (List.range (len / 64 + 2)).filterMap fun i => rangeMeet (da / 64 * 64 + 64 * i, 64) (da, len)

/-- The pieces of a range that hold no poisoned unit: whole, or cut at the bursts (R168, R185). -/
def State.goodPieces (s : State) (da len : Nat) : List (Nat × Nat) :=
  (pieces da len).flatMap fun x =>
    if s.poisonRange x.1 x.2 then (cut64 x.1 x.2).filter fun y => !s.poisonRange y.1 y.2 else [x]

/-- The packets of one tile sent to another device: its pieces, then its trailer packet (R426); whether it passed its check. A copied
tile takes its whole slot along, zero beyond S, which an untiled destination receives (R187). (DESIGN CHOICE, log 52) -/
def State.tilePackets (s : State) (v : View) (a : Region) (src slot : Nat) (p : Packet) (fold b16 : Bool) : List Packet × Bool :=
  let t := s.readTile v a src
  let m := if b16 then 128 else 0
  let bs := if fold then t.bytes else padTo a.slot t.bytes
  let ps := (pieces 0 bs.length).map fun x =>
    { p with addr := slot, mod := m + x.1 / 256, flags := 4, payload := (bs.drop x.1).take x.2 }
  (ps ++ [{ p with addr := slot, mod := m + 64, flags := 4, payload := padTo 32 (t.trl.mark t.ok).toBytes }], t.ok)

/-- The packets of a MOVE with one end on another device, in order, and the status that its own reads give it. Poisoned units of an
untiled source are not sent (R185). -/
def State.movePackets (s : State) (v : View) (m : MoveOp) : List Packet × Nat :=
  let ls := s.isLocal (gaDev m.src)
  let a := gaDA m.src
  let b := gaDA m.dst
  if ls then
    let p : Packet := { Packet.zero with dst := gaDev m.dst, type := if m.fold then 4 else 2, workUnit := m.workUnit, epoch := m.epoch }
    match rangeKind m.regions a m.len with
    | .tiled r =>
      let ts := (List.range (m.len / r.slot)).map fun j => s.tilePackets v r (a + j * r.slot) (b + j * r.slot) p m.fold m.bf16
      (ts.flatMap (·.1), if ts.all (·.2) then 0 else 1)
    | _ => ((s.goodPieces a m.len).map fun x =>
        { p with addr := b + (x.1 - a), mod := if m.bf16 then 128 else 0, payload := s.readPE v x.1 x.2 }, if s.poisonRange a m.len then 1 else 0)
  else
    let p : Packet := { Packet.zero with dst := gaDev m.src, type := 1 }
    let rd := fun (x : Nat × Nat) => { p with addr := x.1, mod := x.2 / 32 - 1 }
    match rangeKind m.regions b m.len with
    | .tiled r =>
      ((List.range (m.len / r.slot)).flatMap fun j =>
        (pieces (a + j * r.slot) r.slot).map rd ++ [{ p with addr := a + j * r.slot, mod := 64 }], 0)
    | _ => ((pieces a m.len).map rd, 0)

/-- A MOVE in progress. -/
def State.move (s : State) (id : Nat) : Option MoveOp := s.moves.find? (·.id == id)

/-- Put back a MOVE. -/
def State.setMove (s : State) (m : MoveOp) : State := { s with moves := s.moves.map fun x => if x.id = m.id then m else x }

/-- Inject a MOVE's packets until one must wait (R436, R441); one without a route makes it LINK_LOST (R420). -/
def State.pump (s : State) (id : Nat) : Nat → State
  | 0 => s
  | n + 1 =>
    match s.move id with
    | none => s
    | some m =>
      match m.todo with
      | [] => s
      | p :: rest =>
        match s.inject m.die p (some (.move id)) with
        | .stalled => s
        | .lost => s.setMove { m with todo := [], status := mergeStatus m.status 7 }
        | .sent t => State.pump (t.setMove { m with todo := rest, left := m.left + 1 }) id n

/-- Start a MOVE: it joins its engine; one whose path is lost is settled with LINK_LOST at once (R38, R164, R206). (DESIGN CHOICE, log 52) -/
def State.moveStart (s : State) (pe : PortEv) (m : MoveOp) : State :=
  let ls := s.isLocal (gaDev m.src)
  let ld := s.isLocal (gaDev m.dst)
  let ok (ga : Nat) : Bool :=
    match s.storeOf (gaDA ga) with
    | some st => s.reaches? m.die st
    | none => true
  let lost := (ls && !ok m.src) || (ld && !ok m.dst) || (!(ls && ld) && !s.idValid)
  let m := { m with regions := s.trg, status := if lost && m.len ≠ 0 then 7 else m.status }
  if lost || m.len = 0 || (ls && ld) then { s with moves := s.moves ++ [m] }
  else
    -- a source on this device is read as the MOVE starts
    let s := if ls then s.meet pe (gaDA m.src) m.len else s
    let v := s.viewNow pe
    let (ps, st) := s.movePackets v m
    let accs := s.moveAcc { m with dst := m.src }
    let tiled := match rangeKind m.regions (gaDA m.src) m.len with | .tiled _ => true | _ => false
    let t := if ls then (s.eccRead (gaDA m.src) m.len).met v (accs.filter fun x => !x.2.2) else s
    let t := if ls && tiled && st ≠ 0 then t.countCheck m.die 1 else t
    let busy := ls && v.busy (accs.filter fun x => !x.2.2)
    let t := { t with moves := t.moves ++ [{ m with todo := ps, status := worseStatus m.status (worseStatus st (if busy then 3 else 0)) }] }
    t.pump m.id ps.length

/-- Does a MOVE run on an engine? A reach MOVE of levels 1 to 3, engine 64 + t, is spread over the die's 16 engines in 64 KiB pieces
(R190). (DESIGN CHOICE, log 52) -/
def MoveOp.on (m : MoveOp) (e : Nat) : Bool :=
  if 64 ≤ m.engine ∧ m.engine < 68 then decide (e / 16 = m.engine - 64) && decide (e % 16 < max 1 ((m.len + 65535) / 65536)) && decide (e < 64)
  else m.engine == e

/-- May a MOVE be among the 64 in progress at every engine that it runs on (R190)? -/
def State.moveRunning (s : State) (m : MoveOp) : Bool :=
  (List.range 84).all fun e => !m.on e || ((s.moves.filter fun x => x.on e).take 64).any (·.id == m.id)

/-- The trailer of a tile that a MOVE brought from another device, and its status: rechecked against the bytes received, or sealed where
the source was untiled (R182, R187). None where no trailer arrived. -/
def State.arrivedTrailer (s : State) (v : View) (m : MoveOp) (r : Region) (da j : Nat) : Option (Trailer × Nat) :=
  (tget none m.trls j).map fun x =>
    let (w, st) := x
    let lost := m.badSlots.contains j
    if st = 0 && w = 0 then
      (mkTrailer (s.readPE v da (tileBytes r.sealFmt)) m.sealEpoch r.sealFmt lost true, if lost then 1 else 0)
    else
      let tr : Trailer := { crc := w % 2 ^ 32, epoch := w / 2 ^ 32 % 65536, fmt := w / 2 ^ 48 % 256, flags := w / 2 ^ 56 % 256 }
      let ok := st = 0 && !lost && (crc32c (s.readPE v da (tileSize tr.fmt r.sealFmt))).toNat = tr.crc
      (tr.mark ok, if ok then 0 else 1)

/-- Finish the tiles that a MOVE from another device brought: the state and whether every tile passed. -/
def State.finishTiles (s : State) (v : View) (m : MoveOp) (r : Region) (b n : Nat) : State × Bool :=
  (List.range n).foldl (fun (u : State × Bool) j =>
    let da := b + j * r.slot
    match s.arrivedTrailer v m r da j with
    | some (t, st) => (u.1.writePE v (r.trailerDA da) t.toBytes, u.2 && st == 0)
    | none => u) (s, true)

/-- The end of a MOVE that is no longer among those in progress: its effect and status. (DESIGN CHOICE, log 52) -/
def State.moveEnd (s : State) (pe : PortEv) (m : MoveOp) : State × Nat :=
  let ls := s.isLocal (gaDev m.src)
  let ld := s.isLocal (gaDev m.dst)
  let run := fun (s : State) =>
    let s := s.meet pe (gaDA m.src) m.len
    (s.eccRead (gaDA m.src) m.len).moveLocal (s.viewEnd pe) m
  if m.len = 0 then (s, m.status)
  else if m.status = 7 && m.left = 0 && m.trls = [] then (s, 7)
  else if ls && ld && m.status = 8 then
    -- a path broke while it ran: whether it took effect is not known (R206, R350)
    let t := if s.freeVal % 2 = 1 then (run s).1 else s
    (t.takeFree 1, 8)
  else if ls && ld then run s
  else if ld then
    match rangeKind m.regions (gaDA m.dst) m.len with
    | .tiled r =>
      let v := s.viewEnd pe
      let accs := [(r.trailerDA (gaDA m.dst), 8 * (m.len / r.slot), true)]
      let (t, st) := checked m.die (s.finishTiles v m r (gaDA m.dst) (m.len / r.slot))
      (t.met v accs, mergeStatus m.status (worseStatus st (if v.busy accs then 3 else 0)))
    | _ => (s, m.status)
  else (s, m.status)

end Sys2Proof.Machine
end

