-- ==== Sys2Proof/Machine/Flags.lean ====
section
/-! DEFINITION. The exceptions of a cell (R130 to R133): the STATUS and EMASK bits, the error record, the trap with its FAULT
register, and how an instruction issues. A cell has no condition flags; its STATUS word is what other machines keep as flags. -/

namespace Sys2Proof.Machine

/-- A cell that met an exception: the code's bit in STATUS; whether it was LINK_LOST or OUTCOME_UNKNOWN (R131). -/
def Cell.raised (c : Cell) (code : Nat) : Cell :=
  { c with status := c.status ||| BitVec.ofNat 64 (2 ^ code), lost := c.lost || code == 7 || code == 8 }

/-- Set the STATUS bit of a code and record the exception (R131); a lost operation is remembered for a FENCE (R80). -/
def State.cellExc (s : State) (ci code : Nat) (addr : Option Nat) (detail : Nat) : State :=
  (s.setCell ci ((s.cell ci).raised code)).raiseStatus code (ci / 256) (cellRid ci) addr detail

/-- Does a code trap (R99, R130)? -/
def Cell.traps (c : Cell) (code : Nat) : Bool := c.emask.getLsbD code

/-- The FAULT register of a trap (R99). -/
def faultWord (pc code opcode : Nat) : Word64 := BitVec.ofNat 64 (pc % 2 ^ 46 + code * 2 ^ 48 + opcode * 2 ^ 56)

/-- Trap: FAULT records the pc, the code and the opcode; the cell issues nothing further (R132, R133). -/
def State.trapCell (s : State) (ci code opcode : Nat) : State :=
  let c := s.cell ci
  s.setCell ci { c with fault := faultWord c.pc code opcode, phase := .trapped code, block := none, pendTrap := none }

/-- A cell stands at an instruction boundary while it is blocked in WAIT, TAKE or EST (R129). -/
def CBlock.atBoundary : CBlock → Bool
  | .wait .. | .take .. | .est .. => true
  | _ => false

/-- An exception of an asynchronous instruction (R132): it traps at once where the cell stands at a boundary, else at the next. -/
def State.asyncExc (s : State) (ci code opcode : Nat) : State :=
  if code = 0 then s
  else
    let s := s.cellExc ci code none opcode
    let c := s.cell ci
    if c.traps code && decide (c.phase = .running) && c.pendTrap.isNone then
      if (match c.block with | none => true | some b => b.atBoundary) then s.trapCell ci code opcode
      else s.setCell ci { c with pendTrap := some (code, opcode) }
    else s

/-- A cell may issue: its die runs, it runs a program, nothing blocks it, and no FENCE stops it at its boundary (R129). -/
def State.cellReady (s : State) (ci : Nat) : Bool :=
  let c := s.cell ci
  s.dieUp (ci / 256) && !s.asleep && decide (c.phase = .running) && c.block.isNone && !s.fenceStops (wuItem c.wu) ci

/-- What an instruction comes to when it issues: it waits for a place in a queue; it completes and the pc advances; it jumps; it
blocks the cell at this instruction; it meets an exception: its code, whether it traps whatever EMASK holds, the state it
leaves when it traps and when it does not, the address and the detail of the record. -/
inductive Issue where
  | stall
  | ok (s : State)
  | jump (s : State) (pc : Nat)
  | block (s : State)
  | ex (code : Nat) (forced : Bool) (onTrap onGo : State) (addr : Option Nat) (detail : Nat)

/-- Advance the pc of a cell by one instruction; an exception that waited for the boundary traps there (R132). -/
def State.advance (s : State) (ci : Nat) : State :=
  let c := s.cell ci
  s.setCell ci { c with pc := (c.pc + 16) % 2 ^ 46 }

/-- Take a pending trap, if the cell stands at a boundary. -/
def State.boundary (s : State) (ci : Nat) : State :=
  match (s.cell ci).pendTrap with
  | some (code, op) => if decide ((s.cell ci).phase = .running) then s.trapCell ci code op else s
  | none => s

/-- The effect of an instruction's verdict on the device. -/
def State.issue (s : State) (ci opcode : Nat) : Issue → State
  | .stall => s
  | .ok t => t.advance ci
  | .jump t pc => t.setCell ci { t.cell ci with pc }
  | .block t => t
  | .ex code forced onTrap onGo addr detail =>
    if forced || (s.cell ci).traps code then (onTrap.cellExc ci code addr detail).trapCell ci code opcode
    else (onGo.cellExc ci code addr detail).advance ci

/-- ILLEGAL_OP: the instruction has no effect (R130). -/
def illegal (s : State) (opcode : Nat) : Issue := .ex 10 false s s none opcode

/-- ADDRESS_FAULT: the instruction has no effect (R130). -/
def addrFault (s : State) (opcode da : Nat) : Issue := .ex 11 false s s (some da) opcode

/-- Issue an instruction on a cell that may issue; a pc outside the cell's own memory and its pool faults (R92). (DESIGN CHOICE, log 11) -/
def State.exec1 (s : State) (ci opcode : Nat) (f : Cell → Issue) : State :=
  if s.cellReady ci then
    let c := s.cell ci
    s.issue ci opcode (if s.fetchOk ci c.pc then f c else addrFault s opcode c.pc)
  else s

/-- Wake a blocked cell past the instruction that blocked it; a trap that waited for the boundary is taken. -/
def State.unblock (s : State) (ci : Nat) : State :=
  let c := s.cell ci
  ((s.setCell ci { c with block := none }).advance ci).boundary ci

end Sys2Proof.Machine
end

