-- ==== Sys2Proof/Machine/Scalar.lean ====
section
/-! DEFINITION. The system, scalar and branch instructions (R98 to R103). -/

namespace Sys2Proof.Machine

/-! ### System (R98, R99) -/

/-- Check the encoding of an instruction, then go on. -/
def enc (s : State) (opcode : Nat) (ok : Bool) (k : Issue) : Issue := if ok then k else illegal s opcode

/-- NOP (R98). -/
def execNop (c : CellId) (f : FA) (s : State) : Host.Outcome State Fault Refusal :=
  .next (s.exec1 (cellIdx c) 0x00 fun _ => enc s 0x00 (f.mods == 0 && faClean f false false false false false) (.ok s))

/-- HALT (R98, R134). -/
def execHalt (c : CellId) (f : FA) (s : State) : Host.Outcome State Fault Refusal :=
  .next (s.exec1 (cellIdx c) 0x01 fun x => enc s 0x01 (f.mods == 0 && faClean f false false false false false)
    (.block (s.setCell (cellIdx c) { x with phase := .halted })))

/-- TRAP (R98): the record's detail holds the opcode in [7:0] and the code of the instruction in [31:16]. (DESIGN CHOICE, log 17) -/
def execTrap (c : CellId) (f : FB) (s : State) : Host.Outcome State Fault Refusal :=
  .next (s.exec1 (cellIdx c) 0x02 fun _ =>
    enc s 0x02 (f.mods == 0 && fbClean f false false true && decide (f.imm64.toNat < 65536))
      (.ex 10 true s s none (0x02 + f.imm64.toNat * 65536)))

/-- FENCE (R98): at once where nothing it waits for is outstanding, else it blocks the cell. -/
def execFence (c : CellId) (f : FA) (s : State) : Host.Outcome State Fault Refusal :=
  .next (s.exec1 (cellIdx c) 0x03 fun x =>
    enc s 0x03 (decide (f.mods.toNat < 2) && faClean f false false false false false)
      (if x.tq = [] && (mbit f.mods 0 || x.ops = []) then .ok s
       else .block (s.setCell (cellIdx c) { x with block := some (.fence (mbit f.mods 0)) })))

/-- The word of SELF (R99). -/
def State.selfWord (s : State) (ci : Nat) : Word64 :=
  BitVec.ofNat 64 (cellRid ci + (if s.idValid then s.devId else 0) * 2 ^ 32)

/-- CYCLE as a read finds it: it only rises while a RUN runs (R99); by how much is open. -/
def State.cycleNow (s : State) (c : Cell) : Word64 := BitVec.ofNat 64 (min (2 ^ 64 - 1) (c.cycle.toNat + s.freeVal))

/-- The value of a special register (R99). (DESIGN CHOICE, log 14) -/
def State.special (s : State) (ci : Nat) (c : Cell) (i : Nat) : Word64 :=
  match i with
  | 0 => s.cycleNow c
  | 1 => c.status
  | 2 => c.emask
  | 3 => s.seed ci
  | 4 => c.tepoch
  | 5 => c.work
  | 6 => s.selfWord ci
  | _ => c.fault

/-- SREAD (R98, R153). (DESIGN CHOICE, log 14) -/
def execSread (c : CellId) (f : FB) (s : State) : Host.Outcome State Fault Refusal :=
  .next (s.exec1 (cellIdx c) 0x04 fun x =>
    let i := f.imm64.toNat
    enc s 0x04 (f.mods == 0 && fbClean f true false true && decide (i ≤ 7))
      (if i = 3 && x.tq ≠ [] then .stall
       else
         let v := s.special (cellIdx c) x i
         let x := if i = 0 then { x with cycle := v } else x
         let s := if i = 0 then s.takeFree 1 else s
         .ok (s.setCell (cellIdx c) (x.setS f.rd.toNat v))))

/-- EMASK as a write leaves it: bits 10 and 11 read 1, bits 0 and 9 read 0 (R99). -/
def emaskOf (v : Word64) : Word64 := (v ||| 0xC00) &&& ~~~ (0x201 : Word64)

/-- A cell after a write of a special register (R99). -/
def Cell.setSpecial (c : Cell) (i : Nat) (v : Word64) : Cell :=
  match i with
  | 1 => { c with status := c.status &&& ~~~ v }
  | 2 => { c with emask := emaskOf v }
  | 3 => { c with seed := some v }
  | 4 => { c with tepoch := v &&& 0xFFFF }
  | _ => c

/-- SWRITE (R98, R153). -/
def execSwrite (c : CellId) (f : FB) (s : State) : Host.Outcome State Fault Refusal :=
  .next (s.exec1 (cellIdx c) 0x05 fun x =>
    let i := f.imm64.toNat
    enc s 0x05 (f.mods == 0 && fbClean f false true true && decide (i ≤ 7))
      (if i = 3 && x.tq ≠ [] then .stall else .ok (s.setCell (cellIdx c) (x.setSpecial i (x.sr f.ra.toNat)))))

/-! ### Scalar arithmetic (R100) -/

/-- The second operand: s[rb], or imm12 sign-extended under modifier [112]. -/
def Cell.opB (c : Cell) (f : FA) : Word64 := if mbit f.mods 0 then simm12 f else c.sr f.rb.toNat

/-- The encoding of an FA scalar instruction: modifiers below `top`, rb zero with an immediate, imm12 zero without. -/
def scalarEnc (f : FA) (top : Nat) (rc : Bool) : Bool :=
  decide (f.mods.toNat < top) && faClean f true true (!mbit f.mods 0) rc (mbit f.mods 0)

/-- A scalar instruction of two operands. -/
def State.alu (s : State) (c : CellId) (f : FA) (opcode : Nat) (g : Word64 → Word64 → Word64) : State :=
  s.exec1 (cellIdx c) opcode fun x =>
    enc s opcode (scalarEnc f 2 false) (.ok (s.setCell (cellIdx c) (x.setS f.rd.toNat (g (x.sr f.ra.toNat) (x.opB f)))))

/-- 1 for true. -/
def bool64 (b : Bool) : Word64 := if b then 1 else 0

/-- A shift distance: bits [5:0]. -/
def shamt (b : Word64) : Nat := b.toNat % 64

/-- ADD. -/
def execAdd (c : CellId) (f : FA) (s : State) : Host.Outcome State Fault Refusal := .next (s.alu c f 0x10 fun a b => a + b)
/-- SUB. -/
def execSub (c : CellId) (f : FA) (s : State) : Host.Outcome State Fault Refusal := .next (s.alu c f 0x11 fun a b => a - b)
/-- MUL. -/
def execMul (c : CellId) (f : FA) (s : State) : Host.Outcome State Fault Refusal := .next (s.alu c f 0x12 fun a b => a * b)
/-- MULHU. -/
def execMulhu (c : CellId) (f : FA) (s : State) : Host.Outcome State Fault Refusal :=
  .next (s.alu c f 0x13 fun a b => BitVec.ofNat 64 (a.toNat * b.toNat / 2 ^ 64))
/-- AND. -/
def execAnd (c : CellId) (f : FA) (s : State) : Host.Outcome State Fault Refusal := .next (s.alu c f 0x14 fun a b => a &&& b)
/-- OR. -/
def execOr (c : CellId) (f : FA) (s : State) : Host.Outcome State Fault Refusal := .next (s.alu c f 0x15 fun a b => a ||| b)
/-- XOR. -/
def execXor (c : CellId) (f : FA) (s : State) : Host.Outcome State Fault Refusal := .next (s.alu c f 0x16 fun a b => a ^^^ b)
/-- SHL. -/
def execShl (c : CellId) (f : FA) (s : State) : Host.Outcome State Fault Refusal := .next (s.alu c f 0x17 fun a b => a <<< shamt b)
/-- SHR. -/
def execShr (c : CellId) (f : FA) (s : State) : Host.Outcome State Fault Refusal := .next (s.alu c f 0x18 fun a b => a >>> shamt b)
/-- SRA. -/
def execSra (c : CellId) (f : FA) (s : State) : Host.Outcome State Fault Refusal :=
  .next (s.alu c f 0x19 fun a b => a.sshiftRight (shamt b))
/-- MIN. -/
def execMin (c : CellId) (f : FA) (s : State) : Host.Outcome State Fault Refusal :=
  .next (s.alu c f 0x1A fun a b => if a.slt b then a else b)
/-- MAX. -/
def execMax (c : CellId) (f : FA) (s : State) : Host.Outcome State Fault Refusal :=
  .next (s.alu c f 0x1B fun a b => if a.slt b then b else a)
/-- SLT. -/
def execSlt (c : CellId) (f : FA) (s : State) : Host.Outcome State Fault Refusal :=
  .next (s.alu c f 0x1C fun a b => bool64 (a.slt b))
/-- SLTU. -/
def execSltu (c : CellId) (f : FA) (s : State) : Host.Outcome State Fault Refusal :=
  .next (s.alu c f 0x1D fun a b => bool64 (a.ult b))

/-- SEL. -/
def execSel (c : CellId) (f : FA) (s : State) : Host.Outcome State Fault Refusal :=
  .next (s.exec1 (cellIdx c) 0x1E fun x =>
    enc s 0x1E (scalarEnc f 2 true)
      (.ok (s.setCell (cellIdx c) (x.setS f.rd.toNat (if x.sr f.rc.toNat ≠ 0 then x.sr f.ra.toNat else x.opB f)))))

/-- LI. -/
def execLi (c : CellId) (f : FB) (s : State) : Host.Outcome State Fault Refusal :=
  .next (s.exec1 (cellIdx c) 0x20 fun x =>
    enc s 0x20 (f.mods == 0 && fbClean f true false true) (.ok (s.setCell (cellIdx c) (x.setS f.rd.toNat f.imm64))))

/-- ADDI. -/
def execAddi (c : CellId) (f : FB) (s : State) : Host.Outcome State Fault Refusal :=
  .next (s.exec1 (cellIdx c) 0x21 fun x =>
    enc s 0x21 (f.mods == 0 && fbClean f true true true)
      (.ok (s.setCell (cellIdx c) (x.setS f.rd.toNat (x.sr f.ra.toNat + f.imm64)))))

/-! ### Memory (R101, R102) -/

/-- The address of an FB memory instruction. -/
def Cell.ea (c : Cell) (f : FB) : Nat := (c.sr f.ra.toNat + f.imm64).toNat

/-- Is a range one that no store, atomic or host write may touch (R180, R210)? -/
def State.writeBarred (s : State) (da len : Nat) : Bool := touchesTiled s.trg da len || s.touchesKv da len

/-- A 64-bit word from bytes. -/
def word64 (bs : List Byte) : Word64 := BitVec.ofNat 64 (ofBytesLE bs)

/-- PORT_BUSY where the access saw it, else the plain completion: `t` is the state after the access (R172). -/
def portIssue (t : State) (v : View) (da len : Nat) (write : Bool) (opcode : Nat) : Issue :=
  let t := t.met v [(da, len, write)]
  if v.busy [(da, len, write)] then .ex 3 false t t (some da) opcode else .ok t

/-- LD (R101, R185). A tiled payload may be read: R180 permits it, against R101. (DEDUCED, log 13) -/
def execLd (c : CellId) (f : FB) (pe : PortEv) (s : State) : Host.Outcome State Fault Refusal :=
  .next (s.exec1 (cellIdx c) 0x22 fun x =>
    let da := x.ea f
    enc s 0x22 (f.mods == 0 && fbClean f true true true)
      (if da % 8 ≠ 0 || !s.cellLocal (cellIdx c) da 8 then addrFault s 0x22 da
       else
         let v := s.viewNow pe
         let s := s.meet pe da 8
         if s.poisonRange da 8 then .ex 1 true (s.eccRead da 8) (s.eccRead da 8) (some da) 0x22
         else portIssue (s.setCell (cellIdx c) (x.setS f.rd.toNat (word64 (s.readPE v da 8)))) v da 8 false 0x22))

/-- A synchronous store of a cell (ST, DST, VST): discarded under R73, else written. -/
def State.storeIssue (s : State) (x : Cell) (pe : PortEv) (da : Nat) (bs : List Byte) (opcode : Nat) : Issue :=
  if !s.plcOk x.wu x.epoch then .ex 2 false s.discard s.discard (some da) opcode
  else portIssue (s.writePE (s.viewNow pe) da bs) (s.viewNow pe) da bs.length true opcode

/-- ST (R101, R180). -/
def execSt (c : CellId) (f : FB) (pe : PortEv) (s : State) : Host.Outcome State Fault Refusal :=
  .next (s.exec1 (cellIdx c) 0x23 fun x =>
    let da := x.ea f
    enc s 0x23 (f.mods == 0 && fbClean f true true true)
      (if da % 8 ≠ 0 || !s.cellLocal (cellIdx c) da 8 || s.writeBarred da 8 then addrFault s 0x23 da
       else s.storeIssue x pe da (toBytesLE 8 (x.sr f.rd.toNat).toNat) 0x23))

/-- What an atomic stores: ADD always, CAS where the old value equals the operand (R100, R102). -/
def atomicNew (cas : Bool) (old a b : Nat) : Option Nat :=
  if cas then (if old = a then some b else none) else some ((old + a) % 2 ^ 64)

/-- May an atomic act on an address (R102, R180, R210)? -/
def State.atomicOk (s : State) (da : Nat) : Bool :=
  da % 8 == 0 && (s.rangeStore da 8).isSome && !s.writeBarred da 8

/-- An ATOMIC packet (R427). -/
def atomicPacket (ga : Nat) (cas : Bool) (a b wu epoch : Nat) : Packet :=
  { Packet.zero with dst := ga / 2 ^ 46, type := 3, mod := cas.toNat, addr := ga % 2 ^ 46, workUnit := wu, epoch := epoch,
                     payload := padTo 32 (toBytesLE 8 a ++ toBytesLE 8 b) }

/-- AADD and ACAS once the encoding is checked (R102). -/
def State.atomicIssue (s : State) (ci : Nat) (x : Cell) (pe : PortEv) (rd opcode : Nat) (remote cas : Bool) (ga a b : Nat) : Issue :=
  let da := ga % 2 ^ 46
  let dev := ga / 2 ^ 46
  let failed (s : State) (code : Nat) : Issue :=
    let t := s.setCell ci (x.setS rd 0)
    .ex code false t t (some ga) opcode
  if !remote && dev ≠ 0 then addrFault s opcode ga
  else if !remote || s.isLocal dev then
    if !s.atomicOk da then addrFault s opcode ga
    else if !(match s.rangeStore da 8 with | some st => s.reaches? (ci / 256) st | none => true) then failed s 7
    else
      let v := s.viewNow pe
      let s := s.meet pe da 8
      if s.poisonRange da 8 then .ex 1 true (s.eccRead da 8) (s.eccRead da 8) (some ga) opcode
      else if !s.plcOk x.wu x.epoch then failed s.discard 2
      else
        let old := word64 (s.readPE v da 8)
        let new := atomicNew cas old.toNat a b
        let t := match new with
          | some w => s.writePE v da (toBytesLE 8 w)
          | none => s
        portIssue (t.setCell ci (x.setS rd old)) v da 8 new.isSome opcode
  else if da % 8 ≠ 0 then addrFault s opcode ga
  else
    match s.inject (ci / 256) (atomicPacket ga cas a b x.wu x.epoch) (some (.atomic ci)) with
    | .stalled => .stall
    | .lost => failed s 7
    | .sent t => .block (t.setCell ci { x with block := some (.atomic rd opcode) })

/-- AADD. -/
def execAadd (c : CellId) (f : FA) (pe : PortEv) (s : State) : Host.Outcome State Fault Refusal :=
  .next (s.exec1 (cellIdx c) 0x24 fun x =>
    enc s 0x24 (scalarEnc f 4 false)
      (s.atomicIssue (cellIdx c) x pe f.rd.toNat 0x24 (mbit f.mods 1) false (x.sr f.ra.toNat).toNat (x.opB f).toNat 0))

/-- ACAS. -/
def execAcas (c : CellId) (f : FA) (pe : PortEv) (s : State) : Host.Outcome State Fault Refusal :=
  .next (s.exec1 (cellIdx c) 0x25 fun x =>
    enc s 0x25 (scalarEnc f 4 true)
      (s.atomicIssue (cellIdx c) x pe f.rd.toNat 0x25 (mbit f.mods 1) true (x.sr f.ra.toNat).toNat (x.opB f).toNat
        (x.sr f.rc.toNat).toNat))

/-! ### Branches (R103) -/

/-- The target of a taken branch. (DESIGN CHOICE, log 12) -/
def branchTo (pc : Nat) (offset : BitVec 32) : Nat := (((pc : Int) + 16 * offset.toInt) % (2 ^ 46 : Int)).toNat

/-- The condition of BR; none for a reserved code. -/
def brCond (m : Nat) (a b : Word64) : Option Bool :=
  match m with
  | 0 => some (a == b)
  | 1 => some (a != b)
  | 2 => some (a.slt b)
  | 3 => some (!a.slt b)
  | 4 => some (a.ult b)
  | 5 => some (!a.ult b)
  | _ => none

/-- The condition of BP; none for a reserved code. -/
def bpCond (m : Nat) (p : Word64) : Option Bool :=
  match m with
  | 0 => some (p != 0)
  | 1 => some (p == BitVec.allOnes 64)
  | 2 => some (p == 0)
  | _ => none

/-- Branch where the condition holds. (DESIGN CHOICE, log 12) -/
def branchIf (s : State) (x : Cell) (offset : BitVec 32) (opcode : Nat) : Option Bool → Issue
  | some true => .jump s (branchTo x.pc offset)
  | some false => .ok s
  | none => illegal s opcode

/-- BR. (DESIGN CHOICE, log 12) -/
def execBr (c : CellId) (f : FC) (s : State) : Host.Outcome State Fault Refusal :=
  .next (s.exec1 (cellIdx c) 0x30 fun x =>
    enc s 0x30 (fcClean f true true true) (branchIf s x f.offset 0x30 (brCond f.mods.toNat (x.sr f.ra.toNat) (x.sr f.rb.toNat))))

/-- JMP. (DESIGN CHOICE, log 12) -/
def execJmp (c : CellId) (f : FC) (s : State) : Host.Outcome State Fault Refusal :=
  .next (s.exec1 (cellIdx c) 0x31 fun x =>
    enc s 0x31 (f.mods == 0 && fcClean f false false true) (.jump s (branchTo x.pc f.offset)))

/-- JAL. (DESIGN CHOICE, log 12) -/
def execJal (c : CellId) (f : FC) (s : State) : Host.Outcome State Fault Refusal :=
  .next (s.exec1 (cellIdx c) 0x32 fun x =>
    enc s 0x32 (f.mods == 0 && fcClean f true false true)
      (.jump (s.setCell (cellIdx c) (x.setS f.ra.toNat (BitVec.ofNat 64 (x.pc + 16)))) (branchTo x.pc f.offset)))

/-- JR. (DESIGN CHOICE, log 12) -/
def execJr (c : CellId) (f : FC) (s : State) : Host.Outcome State Fault Refusal :=
  .next (s.exec1 (cellIdx c) 0x33 fun x =>
    let a := (x.sr f.ra.toNat).toNat
    enc s 0x33 (f.mods == 0 && fcClean f true false false)
      (if a % 16 ≠ 0 then addrFault s 0x33 a else .jump s a))

/-- BP. (DESIGN CHOICE, log 12) -/
def execBp (c : CellId) (f : FC) (s : State) : Host.Outcome State Fault Refusal :=
  .next (s.exec1 (cellIdx c) 0x34 fun x =>
    enc s 0x34 (fcClean f true false true && decide (f.ra.toNat < 8))
      (branchIf s x f.offset 0x34 (bpCond f.mods.toNat (x.pr f.ra.toNat))))

end Sys2Proof.Machine
end

