-- ==== Sys2Proof/Machine/Tensor.lean ====
section
/-! DEFINITION. The tensor instructions and the tensor queue (R104 to R109, R125, R143 to R153). -/

namespace Sys2Proof.Machine

/-! ### Arithmetic (R145 to R150) -/

/-- A 64 × 64 tile as exact values, stored rows first (R141, R142). -/
def Fmt.rows (f : Fmt) (bs : List Byte) : List (List FV) :=
  (List.range 64).map fun r => (List.range 64).map fun j => f.value bs r j

/-- Rows and columns exchanged. -/
def transpose64 (x : FV) (rows : List (List FV)) : List (List FV) :=
  (List.range 64).map fun j => rows.map fun r => r.getD j x

/-- The rows that a tensor instruction reads of a tile (R143): as stored, or the columns. -/
def Fmt.lines (f : Fmt) (bs : List Byte) (columns : Bool) : List (List FV) :=
  if columns then transpose64 .nan (f.rows bs) else f.rows bs

/-- Truncate m × 2^e toward zero to a multiple of 2^q, as a count of them. -/
def truncTo (q : Int) (m : Nat) (e : Int) : Nat := if e ≥ q then m * pow2 (e - q) else m / pow2 (q - e)

/-- The fixed-point adder of a step (R145 item 3, R146). -/
def stepSum (ps : List FV) : FV :=
  if ps.any (· == .nan) then .nan
  else
    let pos := ps.any (· == .inf false)
    let neg := ps.any (· == .inf true)
    if pos && neg then .nan
    else if pos then .inf false
    else if neg then .inf true
    else
      let top := ps.foldl (fun (t : Option Int) p => match p with
        | .fin _ m e => if m = 0 then t else some (match t with | none => floorLog2 m e | some x => max x (floorLog2 m e))
        | _ => t) none
      match top with
      | none => .fin false 0 0
      | some l =>
        let q := l - 40
        FV.ofInt (ps.foldl (fun acc p => match p with | .fin n m e => acc + sgnMant n (truncTo q m e) | _ => acc) 0) q

/-- One step on one accumulator element (R145). -/
def mmaElem (t : FV) (a b : List FV) (acc : Word) : Word :=
  to32 ((of32 acc).add (t.mul (stepSum (List.zipWith FV.mul a b))))

/-- One step on an accumulator. -/
def mmaStep (t : FV) (a b : List (List FV)) (acc : List Word) : List Word :=
  List.zipWith (fun (ab : List FV × List FV) w => mmaElem t ab.1 ab.2 w) (a.flatMap fun r => b.map fun c => (r, c)) acc

/-- The FP32 product of the tile scales, rounded to nearest even (R145 item 4). -/
def scaleProduct (scaled : Bool) (a b : TDesc) : FV :=
  let one : FV := .fin false 1 0
  if scaled then
    fp32.dec (fp32.enc .rne ((if a.scaleValid then of32 a.scale else one).mul (if b.scaleValid then of32 b.scale else one)))
  else one

/-- Exchange rows and columns of an accumulator. -/
def accT (xs : List Word) : List Word := (List.range 4096).map fun e => xs.getD (e % 64 * 64 + e / 64) 0

/-- The elements of a tile as an ACCLD writes them (R148). -/
def accLoad (f : Fmt) (d : TDesc) (bs : List Byte) : List Word :=
  let ws := (f.rows bs).flatten.map fun v =>
    let w := to32 v
    if d.scaleValid then to32 ((of32 w).mul (of32 d.scale)) else w
  if d.transposed then accT ws else ws

/-- The draws of n elements under stochastic rounding, and the generator after them (R151, R152). -/
def draws : Nat → Word64 → List Nat × Word64
  | 0, s => ([], s)
  | n + 1, s =>
    let (r, s) := lfsrDraw s
    let (rs, s) := draws n s
    (r :: rs, s)

/-- The rounding of an element (R109). -/
def rndOf (rnd draw : Nat) : Rnd := if rnd = 1 then .sr draw else if rnd = 2 then .rtz else .rne

/-- The elements and block scales of one block of values (R149, R150). -/
def encBlock (f : Fmt) (rnd : Nat) (vs : List FV) (ds : List Nat) : List Nat × Nat :=
  if f.mx then
    match blockX f.emax vs with
    | none => (vs.map fun _ => 0, 255)
    | some x => (List.zipWith (fun v d => f.encElem (rndOf rnd d) (v.scale (-x))) vs ds, (x + 127).toNat)
  else (List.zipWith (fun v d => f.encElem (rndOf rnd d) v) vs ds, 127)

/-- The bytes of a tile that an ACCST writes (R141, R142, R149 to R151). -/
def accStore (f : Fmt) (d : TDesc) (rnd : Nat) (acc : List Word) (ds : List Nat) : List Byte :=
  let ws := if d.transposed then accT acc else acc
  let vs := ws.map fun w => if d.scaleValid then of32 (to32g ((of32 w).div (of32 d.scale))) else of32 w
  let blocks := (List.range 128).map fun b => encBlock f rnd ((vs.drop (32 * b)).take 32) ((ds.drop (32 * b)).take 32)
  packElems f.bits (blocks.flatMap (·.1)) ++ (if f.mx then blocks.map fun b => BitVec.ofNat 8 b.2 else [])

/-! ### Tiles at use (R182) -/

/-- A tile as an MMA or ACCLD reads it: the bytes of its descriptor's format, and whether the check passes (R182 items 1 to 5). -/
def State.useTile (s : State) (v : View) (d : TDesc) (da : Nat) : List Byte × Bool :=
  match regionIn d.trg da d.size with
  | none => (s.readPE v da d.size, false)
  | some r =>
    let t := s.trailerPE v (r.trailerDA da)
    let n := tileSize t.fmt r.sealFmt
    let b := s.readPE v da (max n d.size)
    (b.take d.size, (crc32c (b.take n)).toNat = t.crc && t.valid && !t.poison && t.fmt == d.fmt && !s.poisonRange da n &&
      !s.poisonRange (r.trailerDA da) 8)

/-- The steps of an MMA from i on; whether every tile passed its check. -/
def State.mmaRun (s : State) (v : View) (t : FV) (fa fb : Fmt) (a b : TDesc) (tps : Nat) : Nat → Nat → List Word → Bool → List Word × Bool
  | 0, _, acc, ok => (acc, ok)
  | k + 1, i, acc, ok =>
    let rd (d : TDesc) (f : Fmt) (cols : Bool) : List (List FV) × Bool :=
      let ts := (List.range tps).map fun j => s.useTile v d (d.base + (i * tps + j) * d.stride)
      let ls := ts.map fun x => f.lines x.1 cols
      (ls.foldl (fun acc l => List.zipWith (· ++ ·) acc l) (List.replicate 64 []), ts.all (·.2))
    let (ra, oka) := rd a fa a.transposed
    let (rb, okb) := rd b fb b.transposed
    s.mmaRun v t fa fb a b tps k (i + 1) (mmaStep t ra rb acc) (ok && oka && okb)

/-- The tile addresses that an entry reads or writes. -/
def TEntry.ranges : TEntry → List (Nat × Nat)
  | .mma _ _ _ a b k =>
    let n := k * (mmaTiles a.fmt b.fmt).getD 1
    (a.tiles n).map (fun x => (x, a.size)) ++ (b.tiles n).map fun x => (x, b.size)
  | .accz _ => []
  | .accld _ d => [(d.base, d.size)]
  | .accst _ d _ _ => [(d.base, d.size)]

/-! ### Signals that wait for their release (R127, R129) -/

/-- Send a signal of a cell: own device or another; none where it must wait for a tracker. A local overflow, and a failure that is
known at once, raises its exception in the cell (R119). -/
def State.cellSignal (s : State) (ci : Nat) (g : Sig) (opcode : Nat) : Option State :=
  let c := s.cell ci
  let loc := !g.remote || (s.idValid && g.device == s.devId)
  if loc && g.reach == cellRid ci then
    -- the cell's own table: one record, the cell's
    if !s.plcOk c.wu c.epoch then some (s.discard.asyncExc ci 2 opcode)
    else some ((s.tokAdd g.reach g.token g.inc).asyncExc ci (if s.tokOver g.reach g.token g.inc then 4 else 0) opcode)
  else
    match s.sendSignal (ci / 256) (.signal ci opcode) loc g.device g.reach g.token g.inc 0 c.wu c.epoch false with
    | none => none
    | some (s, some st) => some (s.asyncExc ci st opcode)
    | some (s, none) => some s

/-- Release the signals that wait for nothing more, the oldest first; the fuel is their number. -/
def State.releaseSigs (s : State) (ci : Nat) : Nat → State
  | 0 => s
  | n + 1 =>
    match (s.cell ci).sigs.find? (fun g => g.tensor == 0 && g.ops == []) with
    | none => s
    | some g =>
      match s.cellSignal ci g.sig 0x80 with
      | none => s
      | some s => State.releaseSigs (s.setCell ci { s.cell ci with sigs := (s.cell ci).sigs.erase g }) ci n

/-- One tensor-queue entry left the queue: signals wait for one fewer. -/
def Cell.popTensor (c : Cell) : Cell :=
  { c with tq := c.tq.drop 1, sigs := c.sigs.map fun g => { g with tensor := g.tensor - 1 } }

/-! ### Issue (R105 to R109) -/

/-- Put an entry in the tensor queue (R125). -/
def State.tqPush (s : State) (ci : Nat) (x : Cell) (e : TEntry) : Issue :=
  if x.tq.length ≥ 4 then .stall else .ok (s.setCell ci { x with tq := x.tq ++ [e] })

/-- MMA (R107). -/
def execMma (c : CellId) (f : FD) (s : State) : Host.Outcome State Fault Refusal :=
  .next (s.exec1 (cellIdx c) 0x40 fun x =>
    let da := x.dd f.ta.toNat
    let db := x.dd f.tb.toNat
    let ok := decide (f.mods.toNat < 4) && f.rsv == 0 && decide (f.acc.toNat < 8) && decide (f.ta.toNat < 16) &&
      decide (f.tb.toNat < 16) && decide (1 ≤ f.k.toNat) && decide (f.k.toNat ≤ 256)
    let a := s.readDesc da (x.sr f.oa.toNat)
    let b := s.readDesc db (x.sr f.ob.toNat)
    match mmaTiles a.fmt b.fmt with
    | none => illegal s 0x40
    | some tps =>
      enc s 0x40 (ok && descOk da (fun _ => true) && descOk db fun _ => true)
        (if !s.descAddrOk (cellIdx c) a (f.k.toNat * tps) then addrFault s 0x40 a.base
         else if !s.descAddrOk (cellIdx c) b (f.k.toNat * tps) then addrFault s 0x40 b.base
         else s.tqPush (cellIdx c) x (.mma f.acc.toNat (mbit f.mods 0) (mbit f.mods 1) a b f.k.toNat)))

/-- In FD, the fields that ACCZ, ACCLD and ACCST do not use are zero. -/
def fdClean (f : FD) (desc : Bool) : Bool :=
  f.rsv == 0 && decide (f.acc.toNat < 8) && f.tb == 0 && f.ob == 0 && f.k == 0 &&
    (if desc then decide (f.ta.toNat < 16) else f.ta == 0 && f.oa == 0)

/-- ACCZ. -/
def execAccz (c : CellId) (f : FD) (s : State) : Host.Outcome State Fault Refusal :=
  .next (s.exec1 (cellIdx c) 0x41 fun x =>
    enc s 0x41 (f.mods == 0 && fdClean f false) (s.tqPush (cellIdx c) x (.accz f.acc.toNat)))

/-- Formats of ACCLD and ACCST (R136). -/
def accFmt (n : Nat) : Bool := decide (2 ≤ n) && decide (n ≤ 0x0B)

/-- ACCLD (R109). -/
def execAccld (c : CellId) (f : FD) (s : State) : Host.Outcome State Fault Refusal :=
  .next (s.exec1 (cellIdx c) 0x42 fun x =>
    let dd := x.dd f.ta.toNat
    let d := s.readDesc dd (x.sr f.oa.toNat)
    enc s 0x42 (f.mods == 0 && fdClean f true && descOk dd accFmt)
      (if !s.descAddrOk (cellIdx c) d 1 then addrFault s 0x42 d.base
       else s.tqPush (cellIdx c) x (.accld f.acc.toNat d)))

/-- ACCST (R109, R181). -/
def execAccst (c : CellId) (f : FD) (s : State) : Host.Outcome State Fault Refusal :=
  .next (s.exec1 (cellIdx c) 0x43 fun x =>
    let dd := x.dd f.ta.toNat
    let d := s.readDesc dd (x.sr f.oa.toNat)
    enc s 0x43 (decide (f.mods.toNat < 3) && fdClean f true && descOk dd accFmt)
      (if !s.descAddrOk (cellIdx c) d 1 then addrFault s 0x43 d.base
       else s.tqPush (cellIdx c) x (.accst f.acc.toNat d f.mods.toNat (x.tepoch.toNat % 65536))))

/-- DLD. -/
def execDld (c : CellId) (f : FB) (pe : PortEv) (s : State) : Host.Outcome State Fault Refusal :=
  .next (s.exec1 (cellIdx c) 0x44 fun x =>
    let da := x.ea f
    enc s 0x44 (f.mods == 0 && fbClean f true true true && decide (f.rd.toNat < 16))
      (if da % 32 ≠ 0 || !s.cellLocal (cellIdx c) da 32 then addrFault s 0x44 da
       else
         let v := s.viewNow pe
         let s := s.meet pe da 32
         if s.poisonRange da 32 then .ex 1 true (s.eccRead da 32) (s.eccRead da 32) (some da) 0x44
         else
           portIssue (s.setCell (cellIdx c) (x.setD f.rd.toNat (BitVec.ofNat 256 (ofBytesLE (s.readPE v da 32))))) v da 32 false 0x44))

/-- DST: a store like ST (R180). -/
def execDst (c : CellId) (f : FB) (pe : PortEv) (s : State) : Host.Outcome State Fault Refusal :=
  .next (s.exec1 (cellIdx c) 0x45 fun x =>
    let da := x.ea f
    enc s 0x45 (f.mods == 0 && fbClean f true true true && decide (f.rd.toNat < 16))
      (if da % 32 ≠ 0 || !s.cellLocal (cellIdx c) da 32 || s.writeBarred da 32 then addrFault s 0x45 da
       else s.storeIssue x pe da (toBytesLE 32 (x.dd f.rd.toNat).toNat) 0x45))

/-- DADD. -/
def execDadd (c : CellId) (f : FB) (s : State) : Host.Outcome State Fault Refusal :=
  .next (s.exec1 (cellIdx c) 0x46 fun x =>
    let d := x.dd f.rd.toNat
    let b := ((BitVec.ofNat 64 d.toNat : Word64) + x.sr f.ra.toNat + f.imm64).toNat
    enc s 0x46 (f.mods == 0 && fbClean f true true true && decide (f.rd.toNat < 16))
      (if b ≥ 2 ^ 46 then addrFault s 0x46 b
       else .ok (s.setCell (cellIdx c) (x.setD f.rd.toNat (BitVec.ofNat 256 (d.toNat / 2 ^ 64 * 2 ^ 64 + b))))))

/-! ### An entry leaves the tensor queue -/

/-- The effect of an entry on the accumulators and memory, and its status (0, TILE_CHECK, STALE_EPOCH). -/
def State.runEntry (s : State) (ci : Nat) (v : View) (e : TEntry) : State × Nat :=
  let c := s.cell ci
  match e with
  | .accz a => (s.setCell ci (c.setAcc a (List.replicate 4096 0) false), 0)
  | .mma a zero scaled da db k =>
    match fmtOf da.fmt, fmtOf db.fmt, mmaTiles da.fmt db.fmt with
    | some fa, some fb, some tps =>
      let acc0 := if zero then List.replicate 4096 0 else c.acc a
      let (acc, ok) := s.mmaRun v (scaleProduct scaled da db) fa fb da db tps k 0 acc0 true
      let s := s.setCell ci (c.setAcc a acc (!ok || (!zero && c.apois a)))
      if ok then (s, 0) else (s.countCheck (ci / 256) 1, 1)
    | _, _, _ => (s, 0)
  | .accld a d =>
    match fmtOf d.fmt with
    | some f =>
      let (b, ok) := s.useTile v d d.base
      let s := s.setCell ci (c.setAcc a (accLoad f d b) (!ok))
      if ok then (s, 0) else (s.countCheck (ci / 256) 1, 1)
    | none => (s, 0)
  | .accst a d rnd epoch =>
    match fmtOf d.fmt, regionIn d.trg d.base d.size with
    | some f, some r =>
      let (ds, seed) := if rnd = 1 then draws 4096 (s.seed ci) else (List.replicate 4096 0, s.seed ci)
      let s := if rnd = 1 then s.setCell ci { c with seed := some seed } else s
      if !s.plcOk c.wu c.epoch then (s.discard, 2)
      else
        let b := accStore f d rnd (c.acc a) ds
        (s.writeTile v r d.base b (mkTrailer b epoch d.fmt (c.apois a) false), 0)
    | _, _ => (s, 0)

/-- The opcode of an entry. -/
def TEntry.opcode : TEntry → Nat
  | .mma .. => 0x40 | .accz _ => 0x41 | .accld .. => 0x42 | .accst .. => 0x43

/-- TENSOR_ENTRY_COMPLETE (R125): the entry at the front of the tensor queue runs and leaves it. -/
def execTensorEntryComplete (c : CellId) (pe : PortEv) (s : State) : Host.Outcome State Fault Refusal :=
  let ci := cellIdx c
  .next (match (s.cell ci).tq with
    | [] => s
    | e :: _ =>
      if !s.dieUp (ci / 256) then s
      else
        -- the queue's entries follow one another in program order (R125): none of them is in flight for this one
        let q := (s.cell ci).tq
        let s := s.setCell ci { s.cell ci with tq := [] }
        let s := if e.isSt then s else e.ranges.foldl (fun t r => t.meet pe r.1 r.2) s
        let v := s.viewEnd pe
        let (t, st) := s.runEntry ci v e
        let t := if e.isSt then t else e.ranges.foldl (fun t r => t.eccRead r.1 r.2) t
        let t := t.met v e.accs
        let t := (t.setCell ci { t.cell ci with tq := q }.popTensor).settle
        let t := t.asyncExc ci (worseStatus st (if v.busy e.accs then 3 else 0)) e.opcode
        t.releaseSigs ci (t.cell ci).sigs.length)

end Sys2Proof.Machine
end

