-- ==== Sys2Proof/Machine/CellAsync.lean ====
section
/-! DEFINITION. The move, token and credit instructions and EST (R114 to R119, R122), and how blocked cells wake, asynchronous
instructions complete and a RUN ends (R126, R129, R132 to R134). -/

namespace Sys2Proof.Machine

/-! ### Targets (R116) -/

/-- The completion signal of an instruction; none for a malformed target. Field 0 names the executing cell (R116), for SIGNAL and GIVE
too. (DESIGN CHOICE, log 57) -/
def sigOf (ci : Nat) (x : Cell) (field token inc : Nat) : Option Sig :=
  if inc = 0 then some { reach := cellRid ci, remote := false, device := 0, token := token, inc := 0 }
  else if field = 0 then some { reach := cellRid ci, remote := false, device := 0, token := token, inc := inc }
  else
    let v := (x.sr field).toNat
    if bitsOf v 50 13 = 0 && ridOk (v % 2 ^ 32) then
      some { reach := v % 2 ^ 32, remote := v / 2 ^ 63 == 1, device := bitsOf v 32 18, token := token, inc := inc }
    else none

/-- A length or count: s[len] when len is nonzero, else imm_a (R114, R117). -/
def FEunits (x : Cell) (f : FE) : Nat := if f.len = 0 then f.immA.toNat else (x.sr f.len.toNat).toNat

/-! ### MOVE -/

/-- Outstanding asynchronous instructions of a cell (R126). -/
def Cell.full (c : Cell) : Bool := decide (c.ops.length ≥ 16)

/-- MOVE (R114). `pe`: what its reads for another device met. -/
def execMove (c : CellId) (f : FE) (pe : PortEv) (s : State) : Host.Outcome State Fault Refusal :=
  .next (s.exec1 (cellIdx c) 0x70 fun x =>
    let ci := cellIdx c
    let fold := mbit f.mods 1
    let src := (x.sr f.src.toNat).toNat
    let dst := (x.sr f.dst.toNat).toNat
    let len := FEunits x f
    enc s 0x70 (decide (f.mods.toNat < 8) && (fold || !mbit f.mods 2) && f.immB == 0)
      (match sigOf ci x f.sig.toNat f.token.toNat f.increment.toNat with
       | none => addrFault s 0x70 src
       | some g =>
         if !mbit f.mods 0 && (gaDev src ≠ 0 || gaDev dst ≠ 0) then addrFault s 0x70 src
         else
           -- with [112] = 0 the addresses are local whatever the device's own ID is
           let own := if s.idValid then s.devId * 2 ^ 46 else 0
           let src := if mbit f.mods 0 then src else own + src
           let dst := if mbit f.mods 0 then dst else own + dst
           if !s.moveOk none src dst len fold (mbit f.mods 2) then addrFault s 0x70 src
           else if x.full then .stall
           else
             let id := s.opNext
             let m : MoveOp := { id, owner := .cell ci id, engine := ci / 16, die := ci / 256, src, dst, len, fold,
                                 bf16 := mbit f.mods 2, sealEpoch := x.tepoch.toNat % 65536, workUnit := x.wu, epoch := x.epoch,
                                 status := 0, todo := [], left := 0, trls := [], badSlots := [], regions := [] }
             let op : AOp := { id, kind := .move, sig := g, left := 1, status := 0, opcode := 0x70 }
             .ok ((s.setCell ci { x with ops := x.ops ++ [op] }).freshId.moveStart pe m)))

/-! ### Tokens and credits (R117 to R119, R127) -/

/-- What a SIGNAL waits for before it is sent (R127): the tensor-queue entries up to the last ACCST, and with the full release the
MOVEs, OPROJs and WQs outstanding. -/
def Cell.release (x : Cell) (full : Bool) : Nat × List Nat :=
  let n := (x.tq.reverse.dropWhile fun e => !e.isSt).length
  (n, if full then (x.ops.filter fun o => o.kind ≠ .bound).map (·.id) else [])

/-- A signal sent at its instruction: its own table, another reach of this device, another device (R119). -/
def State.signalNow (s : State) (ci : Nat) (x : Cell) (g : Sig) (opcode units : Nat) (give : Bool) : Issue :=
  let loc := !g.remote || (s.idValid && g.device == s.devId)
  let fail (t : State) (code : Nat) : Issue := .ex code false t t none opcode
  if loc && g.reach == cellRid ci && !give then
    if !s.plcOk x.wu x.epoch then fail s.discard 2
    else
      let t := s.tokAdd g.reach g.token g.inc
      if s.tokOver g.reach g.token g.inc then fail t 4 else .ok t
  else
    match s.sendSignal (ci / 256) (.signal ci opcode) loc g.device g.reach g.token g.inc units x.wu x.epoch give with
    | none => .stall
    | some (t, some 0) => .ok t
    | some (t, some code) => fail t code
    | some (t, none) => .ok t

/-- SIGNAL. -/
def execSignal (c : CellId) (f : FE) (s : State) : Host.Outcome State Fault Refusal :=
  .next (s.exec1 (cellIdx c) 0x80 fun x =>
    let ci := cellIdx c
    enc s 0x80 (decide (f.mods.toNat < 4) && f.src == 0 && f.dst == 0 && f.len == 0 && f.immA == 0 && f.immB == 0 && f.increment != 0)
      (match sigOf ci x f.sig.toNat f.token.toNat f.increment.toNat with
       | none => addrFault s 0x80 (x.sr f.sig.toNat).toNat
       | some g =>
         let x := if mbit f.mods 0 then { x with committed := true } else x
         let s := s.setCell ci x
         let (t, ops) := x.release (mbit f.mods 1)
         if t = 0 && ops = [] then s.signalNow ci x g 0x80 0 false
         else .ok (s.setCell ci { x with sigs := x.sigs ++ [{ sig := g, tensor := t, ops := ops }] })))

/-- WAIT (R50, R117). -/
def execWait (c : CellId) (f : FE) (s : State) : Host.Outcome State Fault Refusal :=
  .next (s.exec1 (cellIdx c) 0x81 fun x =>
    let ci := cellIdx c
    let r := cellRid ci
    let thr := FEunits x f
    enc s 0x81 (decide (f.mods.toNat < 2) && f.dst == 0 && f.sig == 0 && f.increment == 0)
      (if thr ≤ (s.tok r f.token.toNat).toNat then
         let t := if mbit f.mods 0 then s.setTok r f.token.toNat (s.tok r f.token.toNat - BitVec.ofNat 32 thr) else s
         .ok (t.setCell ci (x.setS f.src.toNat 1))
       else .block (s.setCell ci { x with block := some (.wait f.token.toNat thr (mbit f.mods 0) f.src.toNat f.immB.toNat) })))

/-- WAIT_TIMEOUT (R117, R118): a timed-out WAIT consumes nothing. -/
def execWaitTimeout (c : CellId) (s : State) : Host.Outcome State Fault Refusal :=
  let ci := cellIdx c
  let x := s.cell ci
  .next (match x.block with
    | some (.wait _ _ _ dst tmo) => if tmo ≠ 0 && s.dieUp (ci / 256) then (s.setCell ci (x.setS dst 0)).unblock ci else s
    | _ => s)

/-- TAKE (R52, R117). -/
def execTake (c : CellId) (f : FE) (s : State) : Host.Outcome State Fault Refusal :=
  .next (s.exec1 (cellIdx c) 0x82 fun x =>
    let ci := cellIdx c
    let r := cellRid ci
    let p := f.token.toNat
    let n := FEunits x f
    enc s 0x82 (f.mods == 0 && f.src == 0 && f.dst == 0 && f.sig == 0 && f.increment == 0 && f.immB == 0 && decide (p < 64))
      (if n = 0 then .ok s
       else if n > (s.poolCap r p).toNat then .ex 5 false s s none 0x82
       else if n ≤ (s.pool r p).toNat then .ok (s.setPool r p (s.pool r p - BitVec.ofNat 32 n))
       else .block (s.setCell ci { x with block := some (.take p n) })))

/-- GIVE (R52, R117). -/
def execGive (c : CellId) (f : FE) (s : State) : Host.Outcome State Fault Refusal :=
  .next (s.exec1 (cellIdx c) 0x83 fun x =>
    let ci := cellIdx c
    let n := min (FEunits x f) 0xFFFFFFFF
    enc s 0x83 (f.mods == 0 && f.src == 0 && f.dst == 0 && f.increment == 0 && f.immB == 0 && decide (f.token.toNat < 64))
      (match sigOf ci x f.sig.toNat f.token.toNat 1 with
       | none => addrFault s 0x83 (x.sr f.sig.toNat).toNat
       | some g => if n = 0 then .ok s else s.signalNow ci x { g with inc := 0 } 0x83 n true))

/-- TREAD. -/
def execTread (c : CellId) (f : FE) (s : State) : Host.Outcome State Fault Refusal :=
  .next (s.exec1 (cellIdx c) 0x84 fun x =>
    let ci := cellIdx c
    enc s 0x84 (f.mods == 0 && f.dst == 0 && f.sig == 0 && f.len == 0 && f.increment == 0 && f.immA == 0 && f.immB == 0)
      (.ok (s.setCell ci (x.setS f.src.toNat ((s.tok (cellRid ci) f.token.toNat).setWidth 64)))))

/-! ### EST (R122) -/

/-- EST: admitted at once, or the cell waits in ENERGY_DEFER, shown in STATUS (R131) and counted once (R514, R537). -/
def execEst (c : CellId) (f : FF) (s : State) : Host.Outcome State Fault Refusal :=
  .next (s.exec1 (cellIdx c) 0x92 fun x =>
    let ci := cellIdx c
    let cls := f.imm16.toNat
    enc s 0x92 (f.mods == 0 && decide (cls < 6) && f.sa == 0 && f.sb == 0 && f.sc == 0 && f.sd == 0 && f.token == 0 &&
        f.increment == 0 && f.tag == 0)
      (match s.admitCharge (ci / 16) cls f.imm32.toNat (.die (ci / 256)) with
       | .ok t => .ok t
       | .wait ramp =>
         let t := s.bump Reg.NRG_DEFER_EVENTS
         let t := if ramp then t.bump Reg.NRG_RAMP_HOLDS else t
         .block (t.setCell ci { x with status := x.status ||| 0x200, block := some (.est cls f.imm32.toNat ramp) })))

/-! ### Waking, completion, the end of a RUN -/

/-- A cell's waiting EST is tested again (R118, R511). -/
def State.estRetry (s : State) (ci : Nat) : State :=
  let x := s.cell ci
  match x.block with
  | some (.est cls nj held) =>
    (match s.admitCharge (ci / 16) cls nj (.die (ci / 256)) with
     | .ok t => t.unblock ci
     | .wait ramp =>
       if ramp && !held then (s.bump Reg.NRG_RAMP_HOLDS).setCell ci { x with block := some (.est cls nj true) } else s)
  | _ => s

/-- CELL_WAKE (R118): what blocks the cell is tested again; a TAKE above the capacity now in force meets CREDIT_UNDERFLOW (R52). -/
def execCellWake (c : CellId) (s : State) : Host.Outcome State Fault Refusal :=
  let ci := cellIdx c
  let x := s.cell ci
  let r := cellRid ci
  .next (if !s.dieUp (ci / 256) || s.asleep then s
    else
      match x.block with
      | some (.wait tok thr consume dst _) =>
        if thr ≤ (s.tok r tok).toNat then
          let t := if consume then s.setTok r tok (s.tok r tok - BitVec.ofNat 32 thr) else s
          (t.setCell ci (x.setS dst 1)).unblock ci
        else s
      | some (.take p n) =>
        if n > (s.poolCap r p).toNat then
          let t := s.setCell ci { x with block := none }
          (t.issue ci 0x82 (.ex 5 false t t none 0x82)).boundary ci
        else if n ≤ (s.pool r p).toNat then (s.setPool r p (s.pool r p - BitVec.ofNat 32 n)).unblock ci else s
      | some (.est ..) => s.estRetry ci
      | some (.fence tensorOnly) => if x.tq = [] && (tensorOnly || x.ops = []) then s.unblock ci else s
      | _ => s)

/-- An asynchronous instruction of a cell. -/
def Cell.op (c : Cell) (id : Nat) : Option AOp := c.ops.find? (·.id == id)

/-- Replace an asynchronous instruction. -/
def Cell.setOp (c : Cell) (o : AOp) : Cell := { c with ops := c.ops.map fun x => if x.id = o.id then o else x }

/-- A unit of an asynchronous instruction completed with a status. -/
def State.opDone (s : State) (ci id status : Nat) : State :=
  let x := s.cell ci
  match x.op id with
  | some o => s.setCell ci (x.setOp { o with left := o.left - 1, status := worseStatus o.status status })
  | none => s

/-- Remove a completed instruction; signals wait for it no longer. -/
def Cell.dropOp (c : Cell) (id : Nat) : Cell :=
  { c with ops := c.ops.filter (·.id ≠ id), sigs := c.sigs.map fun g => { g with ops := g.ops.filter (· ≠ id) } }

/-- ASYNC_COMPLETION (R116, R132): the completed instruction signals its token, whatever its status, and may trap the cell. A WQ's
tokens were signalled by its Weirs (R121). -/
def execAsyncCompletion (c : CellId) (id : Nat) (s : State) : Host.Outcome State Fault Refusal :=
  let ci := cellIdx c
  .next (match (s.cell ci).op id with
    | none => s
    | some o =>
      if o.left ≠ 0 || !s.dieUp (ci / 256) then s
      else
        let x := s.cell ci
        let sent := if o.sig.inc = 0 || o.kind = .wq then some (s, some 0)
          else s.sendSignal (ci / 256) (.signal ci o.opcode) (!o.sig.remote || (s.idValid && o.sig.device == s.devId)) o.sig.device
            o.sig.reach o.sig.token o.sig.inc 0 x.wu x.epoch false
        match sent with
        | none => s
        | some (t, st) =>
          let t := t.setCell ci ((t.cell ci).dropOp id)
          let t := t.asyncExc ci (worseStatus o.status (st.getD 0)) o.opcode
          t.releaseSigs ci (t.cell ci).sigs.length)

/-- The status with which a RUN ends (R133, R134). -/
def CPhase.status : CPhase → Option Nat
  | .halted => some 0
  | .trapped code => some code
  | _ => none

/-- Mark a running command of a reach as done. -/
def State.cmdDone (s : State) (r id status data : Nat) : State :=
  let x := s.reach r
  s.setReach r { x with running := x.running.map fun y =>
    if y.id = id then { y with acted := true, done := some status, data := data } else y }

/-- A unit of a fence report ended here: whether it lost an operation (R80). -/
def State.noteEnded (s : State) (wu : Nat) (lost : Bool) : State :=
  let e := s.plcE (wuItem wu)
  if e.state = .fencing && e.report.contains (wu, 0) then s.setPlc (wuItem wu) { e with ended := e.ended ++ [(wu, lost)] } else s

/-- RUN_COMPLETE (R133, R134): the cell's asynchronous work is over, a signal that still waits to be sent is tried again, and its RUN ends
with the final STATUS word. -/
def execRunComplete (c : CellId) (s : State) : Host.Outcome State Fault Refusal :=
  let ci := cellIdx c
  let x := s.cell ci
  .next (match x.phase.status, x.run with
    | some st, some id =>
      if x.ops = [] && x.tq = [] && s.dieUp (ci / 256) then
        let t := s.releaseSigs ci x.sigs.length
        let x := t.cell ci
        if x.sigs = [] then
          ((t.setCell ci { x with phase := .idle, run := none, block := none, pendTrap := none }).noteEnded x.wu x.lost).cmdDone
            (cellRid ci) id st x.status.toNat
        else t
      else s
    | _, _ => s)

end Sys2Proof.Machine
end

