-- ==== Sys2Proof/Machine/Ready.lean ====
section
/-! DEFINITION. Readiness (R636 to R638) and the device events of vector 0 (R485, R497). -/

namespace Sys2Proof.Machine

/-- Set a cause of HQ_DEV_STATUS; vector 0 is raised when it goes from 0 to 1 (R485). -/
def State.devCause (s : State) (bit : Nat) : State :=
  if s.rb Reg.HQ_DEV_STATUS bit then s else (s.setRb Reg.HQ_DEV_STATUS bit true).emit (.msi 0)

/-- A die is released from reset. -/
def State.released (s : State) (code : Nat) : Bool := tget false s.pwr.up code

/-- Every Bed link between released dies is LIVE. -/
def State.bedReady (s : State) : Bool :=
  let ds := (List.range 23).filter s.released
  ds.all fun a => (ds.filter (linkExists a)).all fun b => (tget .down s.bed.links (32 * a + b)).state == .live

/-- Every enabled port of Sd is LIVE, STANDBY or DEEP. -/
def State.portsReady (s : State) (d : Nat) : Bool :=
  (List.range 8).all fun i => !s.portEnabled (8 * d + i) ||
    (match (s.port (8 * d + i)).state with | .live | .standby | .deep => true | _ => false)

/-- Every Bed and fiber ring is locked or marked failed. -/
def State.ringsReady (s : State) : Bool :=
  s.optics.ringsUp && s.optics.rings.all fun kv => decide (kv.1 ≥ 8768) || !kv.2.unlocked || kv.2.failed

/-- KEY_READY from the state; the events that no other state shows (store, firmware, energy, restored, sweep) stay as set, and fetch,
once it became 1, stays until a reset (R636). -/
def State.readyWord (s : State) : Word :=
  let w := s.reg Reg.KEY_READY
  let b := fun (i : Nat) (x : Bool) => if x then 2 ^ i else 0
  let keep := fun (i : Nat) => b i (w.bit i)
  let bits := fun (lo n : Nat) (f : Nat → Bool) => ((List.range n).map fun i => b (lo + i) (f i)).foldl (· + ·) 0
  let bed := s.released dieK && s.bedReady
  let springs := (List.range 2).all fun i => (tget .reset s.optics.springs i).locked
  let fetch := w.bit 21 || (w.bit 1 && s.ringsReady && bed)
  let low := keep 0 + keep 1 + bits 2 4 s.released + b 6 ((List.range 16).all fun n => s.released (dieW n)) +
    bits 7 2 (fun d => s.released (dieS d)) +
    bits 9 4 (fun t => s.released dieK && (List.range 4).all fun i => !s.pwr.badStacks.contains (4 * t + i)) +
    b 13 springs + b 14 s.ringsReady + b 15 bed + bits 16 4 (fun t => (tget .reset s.cus t).mode == 1 && s.released t) + keep 20 + b 21 fetch
  let all := low % 2 ^ 22 == 2 ^ 22 - 1
  BitVec.ofNat 32 (low + bits 22 2 s.portsReady + keep 24 + keep 25 + b 31 all)

/-- Milliseconds since PERST# was last released, saturated (R637). -/
def State.msSince (s : State) : Nat := min 0xFFFF ((s.ticks - s.pwr.perst) * 1000 / 32768)

/-- Bring KEY_READY up to date: a change sets ready_change and raises vector 0 (R638); KEY_READY_MS is written once (R637). -/
def State.readyUpd (s : State) : State :=
  let old := s.reg Reg.KEY_READY
  let new := s.readyWord
  if old = new then s
  else
    let s := s.setReg Reg.KEY_READY new
    let s := if new.bit 31 && s.rf Reg.KEY_READY_MS 0 16 == 0xFFFF then s.setRf Reg.KEY_READY_MS 0 16 s.msSince else s
    let s := if new.bit 21 && s.rf Reg.KEY_READY_MS 16 16 == 0xFFFF then s.setRf Reg.KEY_READY_MS 16 16 s.msSince else s
    s.devCause 4

/-- Set an event bit of KEY_READY. -/
def State.setReady (s : State) (bit : Nat) (x : Bool) : State :=
  if s.rb Reg.KEY_READY bit = x then s else (s.setRb Reg.KEY_READY bit x).devCause 4

/-- SQ fetch is enabled (R633). -/
def State.fetchOn (s : State) : Bool := s.rb Reg.KEY_READY 21

end Sys2Proof.Machine
end

