-- ==== Sys2Proof/Machine/RegOps.lean ====
section
/-! DEFINITION. Register writes (R9 to R18, R506, R573 to R580): what every write of a BAR0 register passes before its own effect.
A register's family gives the present value and the effect; this gate counts reserved bits, keeps locked fields, refuses a
logged write when the change log is full, holds one of the keystone or the factory, or logs it and lets it act. -/

namespace Sys2Proof.Machine

/-! ### Blocks (R10, R17, R506) -/

/-- Does an offset lie in a block of a die that SLACK and STILL gate (R506)? -/
def gatedBlock (off : Nat) : Bool := decide (0x1000000 ≤ off ∧ off < 0x2A00000)

/-- The lock bit of an offset's block (R10, R17). -/
def lockBit (off : Nat) : Nat :=
  if off < 0x100000 then 0
  else if off < 0x200000 then 1
  else if off < 0x300000 then 2
  else if off < 0x400000 then 3
  else if off < 0x1000000 then 4
  else if off < 0x2000000 then 5 + (off - 0x1000000) / 0x400000
  else if off < 0x2100000 then 9
  else if off < 0x2200000 then 10
  else if off < 0x2600000 then 11
  else 12

/-- Are the RWL fields of an offset's block fixed (R17)? -/
def State.locked (s : State) (off : Nat) : Bool := s.rb Reg.KEY_LOCK (lockBit off)

/-! ### The value that takes effect (R13, R14) -/

/-- A field's bits after a write of `v` over `cur`. -/
def Fld.eff (f : Fld) (locked : Bool) (cur v : Word) : Word :=
  match f.acc with
  | .rw | .rwp | .wo => v &&& f.mask
  | .rwl => if locked then cur &&& f.mask else v &&& f.mask
  | .ro => cur &&& f.mask
  | .w1c => cur &&& ~~~ v &&& f.mask
  | .w1s => (cur ||| v) &&& f.mask

/-- A register's bits after a write, with the bits of WO fields as written. -/
def RegDesc.eff (d : RegDesc) (locked : Bool) (cur v : Word) : Word := d.flds.foldl (fun x f => x ||| f.eff locked cur v) 0

/-- The bits a register keeps: those of WO fields read as zero (R13). -/
def RegDesc.keep (d : RegDesc) (x : Word) : Word := x &&& ~~~ ((d.flds.filter fun f => f.acc = .wo).foldl (fun m f => m ||| f.mask) 0)

/-- Does a write reach a locked RWL field (R16)? -/
def RegDesc.hasRwl (d : RegDesc) : Bool := d.flds.any fun f => f.acc = .rwl

/-- The logged fields that a write still reaches when the block is locked (R575). -/
def RegDesc.logMaskAt (d : RegDesc) (locked : Bool) : Word :=
  (d.flds.filter fun f => f.log && !(locked && f.acc = .rwl)).foldl (fun m f => m ||| f.mask) 0

/-- The value area of a REG entry (R575). -/
def regValue (o : Origin) (dev : Nat) (before after mask : Word) : List Byte :=
  toBytesLE 4 before.toNat ++ toBytesLE 4 after.toNat ++ toBytesLE 4 mask.toNat ++ (if o = .fabric then toBytesLE 4 dev else [])

/-- The writer whose writes wait in the keystone while the log is full (R580). -/
def waitsForLog : Origin → Bool
  | .keystoneFw | .factory => true
  | _ => false

/-- Keep a register's value after a write: WO fields are not kept (R13). -/
def State.keepReg (s : State) (off : Nat) (x : Word) : State :=
  match regAt off with
  | some d => s.setReg off (d.keep x)
  | none => s

/-- Does a block answer: the keystone runs, or it is still in its ROM, where only KEY and SEC do (R553, R601, R651)? -/
def State.blockAnswers (s : State) (off : Nat) : Bool :=
  s.dieUp dieK || (s.pwr.started && !s.pwr.fatal && s.pstate ≠ 3 && (decide (off < 0x100000) || decide (0x300000 ≤ off ∧ off < 0x400000)))

/-! ### The gate -/

/-- A write of register `off` with present value `cur`. `own` is what the register's own rule does where it ignores the write (R18,
R575); `entry` is the kind and value of the log entry of the value that takes effect; `act` gets the state and that value. A refused write
still counts its reserved bits and its locked fields; one that waits for the log counts its reserved bits on arrival. (DESIGN CHOICE, log 21) (DEDUCED, log 23) -/
def State.gateLog (s : State) (o : Origin) (off : Nat) (v cur : Word) (own : Option (State → State))
    (entry : RegDesc → Word → Nat × List Byte) (act : State → Word → State) : State :=
  if !s.blockAnswers off then s
  else if s.asleep && gatedBlock off then s.bump Reg.NRG_ASLEEP_ACCESS
  else
    match regAt off with
    | none => s.bump Reg.KEY_RSVD_WRITES
    | some d =>
      let s := if v &&& ~~~ d.mask = 0 then s else s.bump Reg.KEY_RSVD_WRITES
      match own with
      | some f => f s
      | none =>
        let lk := s.locked off && d.hasRwl
        let ct := fun (t : State) => if lk then t.bump Reg.KEY_LOCKED_WRITES else t
        let x := d.eff lk cur v
        let lm := d.logMaskAt lk
        if lm = 0 then act (ct s) x
        else if s.logFull && refusable o then (ct s).refuseLog o off
        else if s.logFull && waitsForLog o then
          { s with log := { s.log with held := s.log.held ++ [{ origin := o, off, value := v &&& d.mask }] } }
        else act ((ct s).logChange o (entry d x).1 off (entry d x).2) x

/-- A write of register `off` with present value `cur`, by origin `o` of device `dev`, logged as a REG entry. (DESIGN CHOICE, log 21) (DESIGN CHOICE, log 54) -/
def State.gate (s : State) (o : Origin) (dev off : Nat) (v cur : Word) (own : Option (State → State))
    (act : State → Word → State) : State :=
  s.gateLog o off v cur own (fun d x => (0, regValue o dev cur x d.logMask)) act

/-- A write of a register whose fields have no effect beyond their access codes. -/
def State.plainWrite (s : State) (o : Origin) (dev off : Nat) (v : Word) : State :=
  s.gate o dev off v (s.reg off) none fun t x => t.keepReg off x

/-- A write that the register's own rule ignores and counts. -/
def counted (reg : Nat) : State → State := fun s => s.bump reg

/-- Ignore a write, counted in `reg`, where `b` holds. -/
def ignoreIf (b : Bool) (reg : Nat) : Option (State → State) := if b then some (counted reg) else none

/-- Ignore a write without a count, where `b` holds. -/
def dropIf (b : Bool) : Option (State → State) := if b then some id else none

/-- The first of two reasons to ignore a write. -/
def orElseIgn (a b : Option (State → State)) : Option (State → State) :=
  match a with
  | some f => some f
  | none => b

end Sys2Proof.Machine
end

