-- ==== Sys2Proof/Machine/Reach.lean ====
section
/-! DEFINITION. Reach commands (R45 to R89): how a command enters a queue, starts, acts and completes, how work is split over
children, how work items are placed, migrated and fenced, and the credit capacities that software sets. -/

namespace Sys2Proof.Machine

/-! ### The fields of a command (R54, R55) -/

/-- The opcode. -/
def cmdOp (b : List Byte) : Nat := bfld b 0 1
/-- A flag: 0 independent, 1 consume0, 2 consume1. -/
def cmdFlag (b : List Byte) (i : Nat) : Bool := bfld b 1 1 / 2 ^ i % 2 == 1
/-- The placement epoch. -/
def cmdEpoch (b : List Byte) : Nat := bfld b 2 1
/-- The target reach ID. -/
def cmdTarget (b : List Byte) : Nat := bfld b 4 4
/-- The work_unit. -/
def cmdWu (b : List Byte) : Nat := bfld b 8 4
/-- The energy declared, in nanojoules. -/
def cmdNj (b : List Byte) : Nat := bfld b 12 4
/-- The credit units taken. -/
def cmdCredits (b : List Byte) : Nat := bfld b 36 2
/-- The credit pool. -/
def cmdPool (b : List Byte) : Nat := bfld b 3 1 % 64
/-- The header signal. -/
def cmdSig (b : List Byte) : HSig := hsigAt b 28 32 34 38
/-- MIGRATE and PLACE name their item in their operands; their header takes part in no check (R71). -/
def cmdExempt (b : List Byte) : Bool := cmdOp b == 7 || cmdOp b == 8
/-- The work_unit under which a command's own writes and signals are checked. -/
def cmdChkWu (b : List Byte) : Nat := if cmdExempt b then 0 else cmdWu b
/-- The work item of MIGRATE and PLACE. -/
def cmdItem (b : List Byte) : Nat := bfld b 42 2 % 4096

/-- Replace n bytes of a record. -/
def bput (b : List Byte) (lo n v : Nat) : List Byte := b.take lo ++ toBytesLE n v ++ b.drop (lo + n)

/-- Do a command's fields keep to R54 and R55? -/
def cmdEncOk (b : List Byte) : Bool :=
  let op := cmdOp b
  decide (1 ≤ op ∧ op ≤ 8) && decide (bfld b 1 1 < 8) && decide (bfld b 3 1 < 64) &&
  bfld b 16 2 / 4096 % 8 == 0 && bfld b 18 2 / 4096 % 8 == 0 && (cmdSig b).encOk &&
  (match op with
   | 1 => true
   | 2 => bfld b 56 8 == 0
   | 3 => bfld b 62 2 == 0
   | 4 | 5 => bfld b 42 22 == 0
   | 6 => decide (bfld b 42 1 < 64) && bfld b 43 1 == 0 && bfld b 52 4 / 2 ^ 18 % 2 ^ 13 == 0 && bfld b 56 8 == 0
   | 7 => decide (bfld b 42 2 < 4096) && decide (bfld b 44 1 < 2) && bfld b 45 1 == 0 && bfld b 50 4 / 2 ^ 18 % 2 ^ 13 == 0 &&
       bfld b 60 4 == 0
   | _ => decide (bfld b 42 2 < 4096) && bfld b 48 4 / 2 ^ 18 % 2 ^ 13 == 0 && decide (bfld b 59 1 < 2) && bfld b 60 4 == 0)

/-- Does the level of a reach accept an opcode (R45, R55)? -/
def cmdAccepts (r op : Nat) : Bool :=
  if ridIsWeir r then op == 3 || op == 4 || op == 5 || op == 6
  else if ridLevel r = 0 then op == 1 || op == 3 || op == 4 || op == 5 || op == 6
  else if ridLevel r ≤ 2 then decide (1 ≤ op ∧ op ≤ 6)
  else if ridLevel r = 3 then decide (1 ≤ op ∧ op ≤ 8)
  else op == 1 || op == 2 || op == 4 || op == 5 || op == 6

/-- R56: a RUN at level 0 carries no split descriptor, a RUN above carries one. -/
def cmdR56 (b : List Byte) : Bool := cmdOp b ≠ 1 || (decide (ridLevel (cmdTarget b) = 0) == (bfld b 58 6 == 0))

/-- Do the reach IDs that a command names keep to R46? -/
def cmdIdsOk (b : List Byte) : Bool :=
  ridOk (cmdTarget b) && (cmdSig b).addrOk &&
  (match cmdOp b with
   | 6 => ridOk (bfld b 48 4)
   | 7 => ridOk (bfld b 46 4)
   | 8 => ridOk (bfld b 44 4)
   | _ => true)

/-- Do the fields of a SPLIT's inner command keep to R55? The signal fields of all but an inner SIGNAL are ignored but for their reserved
bits (R67). -/
def innerOk (inner : List Byte) : Bool := cmdEncOk (if cmdOp inner = 4 then inner else bput inner 34 2 1)

/-! ### What a split passes on (R64 to R66, R68, R69) -/

/-- A child of a split: its number, its device, its reach ID. -/
structure Kid where
  num : Nat
  dev : Nat
  rid : Nat
deriving DecidableEq, Repr

/-- The children of a reach on this device (R44). -/
def kidsOf (r : Nat) : List Kid :=
  if ridLevel r = 3 then (List.range 4).map fun i => { num := i, dev := 0, rid := 0x40000000 + i * 2 ^ 24 }
  else if ridLevel r = 2 then (List.range 16).map fun i => { num := i, dev := 0, rid := 0x20000000 + ridUnit r * 2 ^ 24 + i * 2 ^ 20 }
  else (List.range 16).map fun i => { num := i, dev := 0, rid := ridUnit r * 2 ^ 24 + ridCluster r * 2 ^ 20 + i * 2 ^ 16 }

/-- The members of a group (R68). -/
def State.members (s : State) (r : Nat) : List Kid :=
  match s.groupCtx r with
  | none => []
  | some c =>
    let h := s.byte (c + 0x14201)
    (List.range (h.toNat + 1)).map fun i =>
      let m := s.readMem (c + 0x14400 + 8 * i) 8
      { num := i, dev := bfld m 0 4 % 2 ^ 18, rid := bfld m 4 4 }

/-- Do a group's members keep to R69? -/
def membersOk (r : Nat) (ks : List Kid) : Bool :=
  ks.all fun k => if ridLevel r = 4 then k.rid == ridPkg else ridOk k.rid && ridLevel k.rid == ridLevel r - 1

/-- A split descriptor (R64). -/
structure SDesc where
  kind : Nat
  mask : Nat
  count : Nat
  chunk : Nat
  stride : Nat
  table : Nat
  next : Nat
  clean : Bool
deriving DecidableEq, Repr

/-- Read a split descriptor; none where it is not aligned or leaves its store. -/
def State.sdesc (s : State) (da : Nat) : Option SDesc :=
  if da % 32 = 0 && (s.rangeStore da 32).isSome then
    let b := s.readMem da 32
    some { kind := bfld b 0 1, mask := bfld b 2 2, count := bfld b 4 4, chunk := bfld b 8 4, stride := bfld b 12 4,
           table := bfld b 16 6, next := bfld b 22 6, clean := bfld b 1 1 == 0 && bfld b 28 4 == 0 }
  else none

/-- The descriptor that a zero next stands for: BLOCK over all children of the reach (R64). -/
def SDesc.block (r stride : Nat) : SDesc :=
  { kind := 1, mask := if ridLevel r = 3 then 0xF else 0xFFFF, count := 0, chunk := 0, stride, table := 0, next := 0, clean := true }

/-- The position, among the participating children, that unit i goes to (R65); none where an explicit entry names no participant. -/
def State.unitKid (s : State) (d : SDesc) (ks : List Kid) (n i : Nat) : Option Nat :=
  let k := ks.length
  if d.kind = 1 then some (i * k / n)
  else if d.kind = 2 then some (i / d.chunk % k)
  else
    let e := bfld (s.readMem (d.table + 2 * i) 2) 0 2
    ks.findIdx? fun c => c.num == e

/-- The units that each position receives, in ascending order. -/
def State.shares (s : State) (d : SDesc) (ks : List Kid) (n : Nat) : Option (List (List Nat)) :=
  if d.kind = 0 then some (ks.map fun _ => List.range n)
  else
    let js := (List.range n).map (s.unitKid d ks n)
    if js.all (·.isSome) then
      some ((List.range ks.length).map fun j => (List.range n).filter fun i => js.getD i none == some j)
    else none

/-- The command that unit i of a split forms (R65, R67), before its target is set. -/
def unitCmd (b inner : List Byte) (stride i : Nat) : List Byte :=
  let op := cmdOp inner
  let z := zeros 64
  let z := bput z 0 1 op
  let z := bput z 2 1 (cmdEpoch b)
  let z := bput z 8 4 (cmdWu b + i)
  let z := bput z 12 4 (cmdNj b)
  match op with
  | 1 => bput (bput z 42 8 (bfld inner 42 8)) 50 8 (bfld inner 50 8 + i * stride)
  | 3 => bput (bput (bput z 42 8 (bfld inner 42 8 + i * stride)) 50 8 (bfld inner 50 8 + i * stride)) 58 4 (bfld inner 58 4)
  | 4 => bput (bput z 28 8 (bfld inner 28 8)) 38 4 (bfld inner 38 4)
  | 5 => bput (bput z 1 1 (bfld inner 1 1 / 2 * 2)) 16 12 (bfld inner 16 12)
  | _ => bput z 42 14 (bfld inner 42 14)

/-- The commands for one child: one a unit at level 0, one for its whole share above (R67). -/
def kidCmds (b inner : List Byte) (d : SDesc) (k : Kid) (units : List Nat) : List (Kid × List Byte × Option Share) :=
  let at_ := fun (i : Nat) => bput (unitCmd b inner d.stride i) 4 4 k.rid
  match units with
  | [] => []
  | i :: _ =>
    if cmdOp inner ≥ 4 then [(k, at_ 0, none)]
    else if ridLevel k.rid = 0 then units.map fun i => (k, at_ i, none)
    else [(k, at_ i, some { n := units.length, next := d.next, stride := d.stride })]

/-- The commands of a split of `inner` under descriptor `d`, or the status with which it fails (R64, R66). A reserved kind, a nonzero
reserved byte, a chunk of 0 and a bit of child_mask [15:4] at level 3 give ILLEGAL_OP, group members that break R69 ADDRESS_FAULT; a
misaligned next DA faults the split that reads it. (DESIGN CHOICE, log 57) -/
def State.splitCmds (s : State) (r : Nat) (b inner : List Byte) (d : SDesc) (top : Bool) (share : Nat) :
    Except Nat (List (Kid × List Byte × Option Share)) :=
  let group := decide (ridLevel r ≥ 4)
  let all := if group then s.members r else kidsOf r
  let ks := if group then all else all.filter fun k => d.mask / 2 ^ k.num % 2 == 1
  let n := if top then (if d.kind = 0 then 1 else d.count) else share
  let op := cmdOp inner
  if !d.clean || decide (d.kind > 3) || (d.kind = 2 && d.chunk = 0) || (ridLevel r = 3 && decide (d.mask ≥ 16)) then .error 10
  else if !(op = 1 || op = 3 || (d.kind = 0 && decide (4 ≤ op ∧ op ≤ 6))) then .error 10
  else if ks = [] || (d.kind ≠ 0 && n = 0) || decide (cmdWu b % 1048576 + n > 1048576) then .error 10
  else if d.kind = 3 && (d.table % 2 ≠ 0 || (s.rangeStore d.table (2 * n)).isNone) then .error 11
  else if group && !membersOk r all then .error 11
  else
    match s.shares d ks n with
    | none => .error 10
    | some sh => .ok ((List.zipWith (kidCmds b inner d) ks sh).flatten)

/-- Does a command break R66, so that ILLEGAL_OP stands before the fault of a reach ID that it names (R46)? -/
def State.breaksR66 (s : State) (b : List Byte) : Bool :=
  let plan := fun (inner : List Byte) (desc : Nat) =>
    match s.sdesc desc with
    | none => false
    | some d => (match s.splitCmds (cmdTarget b) b inner d true 0 with | .error st => st == 10 | .ok _ => false)
  if cmdOp b = 1 then decide (ridLevel (cmdTarget b) ≠ 0) && plan b (bfld b 58 6)
  else
    let inner := s.readMem (bfld b 42 8) 64
    cmdOp b == 2 && (s.rangeStore (bfld b 42 8) 64).isSome && (!innerOk inner || plan inner (bfld b 50 6))

/-- The status with which a command is turned away on arrival (R46, R54 to R56, R68, R69, R71); 0 where it may enter a queue.
Encoding checks come first, those of R66 among them (R46). -/
def State.cmdCheck (s : State) (b : List Byte) : Nat :=
  let r := cmdTarget b
  if !(cmdEncOk b && cmdAccepts r (cmdOp b) && cmdR56 b) then 10
  else if !s.reachHere r then 11
  else if !cmdIdsOk b then (if s.breaksR66 b then 10 else 11)
  else if !cmdExempt b && wuItem (cmdWu b) ≠ 0 && decide ((s.plcE (wuItem (cmdWu b))).state = .free) then 2
  else 0

/-! ### Reporting a completion -/

/-- A child command reported to its parent (R67): the first failure stays, the STATUS words are ORed. -/
def State.childDone (s : State) (r id st data : Nat) : State :=
  let x := s.reach r
  s.setReach r { x with running := x.running.map fun y =>
    if y.id = id then
      let fail := if y.fail = 0 then st else y.fail
      { y with left := y.left - 1, fail, data := y.data ||| data, done := if y.left ≤ 1 ∧ y.acted then some fail else y.done }
    else y }

/-- Report a command's completion to its issuer (R62); none where the entry's completion must wait. -/
def State.report (s : State) (iss : Issuer) (st data : Nat) : Option State :=
  match iss with
  | .sq q idx => s.sqDone q idx st data 0
  | .parent r id => some (s.childDone r id st data)
  | .mgmt | .none => some s

/-- The response to a request that a running command sent (a remote GIVE, SIGNAL or header signal). -/
def State.cmdAnswered (s : State) (r id st : Nat) : State :=
  let x := s.reach r
  s.setReach r { x with running := x.running.map fun y =>
    if y.id = id then
      { y with left := y.left - 1, done := some (match y.done with | some 0 => st | some d => d | none => st) }
    else y }

/-! ### Entering a queue (R45 to R48, R71, R76) -/

/-- Move held commands into the queue while it has room beside `other` entries of another kind (R48, R201). -/
def Reach.pull (x : Reach) (other : Nat) : Reach :=
  let n := 1024 - (x.queue.length + other)
  { x with queue := x.queue ++ x.held.take n, held := x.held.drop n }

/-- Show a group's queue in its context: entry i from the front at byte 64 i (R68). (DEDUCED, log 18) -/
def State.showQueue (s : State) (r : Nat) : State :=
  match s.groupCtx r with
  | some c => s.writeMem c ((s.reach r).queue.flatMap fun q => padTo 64 q.bytes)
  | none => s

/-- Held commands enter a queue that has room (R48), and a group's context shows the queue. -/
def State.pullQueue (s : State) (r : Nat) : State :=
  (s.setReach r ((s.reach r).pull (s.weirOf r).queue.length)).showQueue r

/-- A command that a die in reset can not run is over at once, with a status (R350, R488). -/
def QCmd.settle (c : QCmd) (st : Nat) : RCmd :=
  { id := c.id, iss := c.iss, bytes := c.bytes, share := c.share, acted := true, done := some st, left := 0, fail := 0, data := 0, sent := false }

/-- The die from which a command comes to its reach: its parent's, else the keystone (R45). -/
def QCmd.fromDie (c : QCmd) : Nat :=
  match c.iss with
  | .parent r _ => ridDie r
  | _ => dieK

/-- A command joins its target's queue, or waits at its sender (R48); one for a die in reset, or behind a lost Bed path, is lost
(R32, R350). -/
def State.enqueue (s : State) (c : QCmd) : State :=
  let r := cmdTarget c.bytes
  let x := s.reach r
  if s.diePath c.fromDie (ridDie r) then (s.setReach r { x with held := x.held ++ [c] }).pullQueue r
  else s.setReach r { x with running := x.running ++ [c.settle 7] }

/-- The die that reports for a reach: its own, or the keystone where that is in reset. -/
def State.reportDie (s : State) (r : Nat) : Nat := if s.released (ridDie r) then ridDie r else dieK

/-- Where a command for reach `r` goes when its item moves to placement `p`: the unit at the same place within the new one. -/
def relocate (p r : Nat) : Nat :=
  if ridLevel r ≥ ridLevel p then p
  else
    let u := if ridLevel p ≤ 2 then ridUnit p else ridUnit r
    let c := if ridLevel p ≤ 1 then ridCluster p else ridCluster r
    ridLevel r * 2 ^ 29 + u * 2 ^ 24 + (if ridLevel r ≤ 1 then c * 2 ^ 20 else 0) + (if ridLevel r = 0 then ridCell r * 2 ^ 16 else 0)

/-- Is an entry's migration holding back what arrives for the old placement (R76)? -/
def Plc.holding (e : Plc) : Bool := decide (e.state = .draining) || (decide (e.state = .fencing) && e.releasing)

/-- A REACH_CMD packet (R434). -/
def reachPacket (dev : Nat) (b : List Byte) : Packet := { Packet.zero with dst := dev, type := 6, mod := 3, payload := padTo 64 b }

/-- A command goes on to a placement: into a queue of this device, or as a packet to another; none where the packet must wait. -/
def State.sendOn (s : State) (dev : Nat) (c : QCmd) : Option State :=
  if s.isLocal dev then some (s.enqueue c)
  else
    match s.inject dieK (reachPacket dev c.bytes) (some (match c.iss with | .parent r id => .child r id | _ => .other)) with
    | .stalled => none
    | .lost => some ((s.report c.iss 7 0).getD s)
    | .sent u =>
      match c.iss with
      | .parent .. => some u
      | _ => some ((u.report c.iss 0 0).getD u)

/-- Does a command of an item arrive at its old placement on this device, after the item's migration was accepted (R76)? -/
def State.atOld (s : State) (item r : Nat) : Bool :=
  let e := s.plcE item
  item ≠ 0 && e.moved && s.isLocal e.oldDevice && ridUnder e.oldReach r && (e.holding || !(s.isLocal e.device && ridUnder e.reach r))

/-- A command that passed its checks enters: at once, or, at an old placement, it goes on to the new one, held until that is released
(R76). Commands from outside get the placement's epoch (R54). None where it must wait. -/
def State.admitCmd (s : State) (c : QCmd) : Option State :=
  let item := wuItem (cmdWu c.bytes)
  let e := s.plcE item
  let r := cmdTarget c.bytes
  let c := { c with bytes := bput c.bytes 2 1 (if item = 0 then 0 else e.epoch) }
  if !cmdExempt c.bytes && s.atOld item r then
    let c := { c with bytes := bput c.bytes 4 4 (relocate e.newReach r) }
    if e.holding then some (s.setPlc item { e with held := e.held ++ [c] }) else s.sendOn e.device c
  else some (s.enqueue c)

/-- Turn a command away: its header signal (R62; a malformed reach ID does nothing else, R46), its error record, its status to the issuer. (DEDUCED, log 20) -/
def State.cmdReject (s : State) (iss : Issuer) (b : List Byte) (st : Nat) : Option State :=
  let r := cmdTarget b
  let sent := if st = 11 && !cmdIdsOk b then some (s, some 0)
    else s.sendHeader (s.reportDie r) .other (cmdSig b) (cmdChkWu b) (cmdEpoch b)
  match sent with
  | none => none
  | some (s, _) => (s.raiseStatus st (ridDie r) r none (cmdOp b)).report iss st 0

/-- A command of 64 bytes arrives from outside: it is turned away or enters a queue; none where it stays at its sender. -/
def State.arrive (s : State) (iss : Issuer) (b : List Byte) : Option State :=
  let b := padTo 64 b
  match s.cmdCheck b with
  | 0 => s.freshId.admitCmd { id := s.opNext, iss, bytes := b, share := none, deferred := false, rampHeld := false }
  | st => s.cmdReject iss b st

/-- Mark an SQ entry as dispatched. -/
def State.sqDispatch (s : State) (q idx : Nat) : State :=
  let x := s.sq q
  match x.ent idx with
  | some e => s.setSq q (x.setEnt { e with dispatched := true })
  | none => s

/-- May an SQ's entry be dispatched now: fetched, not dispatched, in index order, its fence met (R470)? -/
def Sq.mayDispatch (x : Sq) (idx : Nat) : Bool :=
  match x.ent idx with
  | none => false
  | some e =>
    let before := x.ents.takeWhile (·.idx ≠ idx)
    !e.dispatched && before.all (·.dispatched) &&
      (!(decide (bfld e.bytes 0 1 ≥ 0x40) && bfld e.bytes 1 1 % 2 == 1) || before = [])

/-- COMMAND_ENQUEUE (R45, R46, R48, R68, R69, R71, R76): a command from an SQ entry, a parent, a management packet. An SQ entry
stays with its queue while the target's queue is full (R470). -/
def execCommandEnqueue (iss : Issuer) (bytes : List Byte) (s : State) : Host.Outcome State Fault Refusal :=
  .next (match iss with
    | .sq q idx =>
      let x := s.sq q
      (match x.ent idx with
       | none => s
       | some e =>
         let full := s.cmdCheck e.bytes == 0 && decide (s.depth (cmdTarget e.bytes) ≥ 1024)
         if !x.mayDispatch idx || decide (padTo 64 bytes ≠ padTo 64 e.bytes) || !decide (1 ≤ cmdOp e.bytes ∧ cmdOp e.bytes ≤ 8) ||
            full || s.asleep then s
         else ((s.sqDispatch q idx).arrive iss e.bytes).getD s)
    | .parent r id =>
      (match (s.reach r).running.find? (·.id == id) with
       | none => s
       | some _ =>
         let x := s.reach r
         let t := s.setReach r { x with running := x.running.map fun y => if y.id = id then { y with left := y.left + 1 } else y }
         (t.arrive iss bytes).getD s)
    | _ => (s.arrive iss bytes).getD s)

/-! ### Starting (R50 to R52, R58 to R61, R510) -/

/-- Do a command's waits hold (R58)? -/
def State.waitsOk (s : State) (r : Nat) (b : List Byte) : Bool :=
  let w0 := bfld b 16 2
  let w1 := bfld b 18 2
  let c0 := (s.tok r (w0 % 4096)).toNat
  let c1 := (s.tok r (w1 % 4096)).toNat
  let t0 := bfld b 20 4
  let t1 := bfld b 24 4
  let v0 := w0 / 32768 == 1
  let v1 := w1 / 32768 == 1
  (!v0 || decide (t0 ≤ c0)) &&
  (!v1 || (if v0 && cmdFlag b 1 && w0 % 4096 == w1 % 4096 then decide (t1 + t0 ≤ c1) else decide (t1 ≤ c1)))

/-- Subtract the thresholds of consuming waits. -/
def State.consume (s : State) (r : Nat) (b : List Byte) : State :=
  let sub := fun (s : State) (w thr : Nat) => s.setTok r (w % 4096) (s.tok r (w % 4096) - BitVec.ofNat 32 thr)
  let s := if bfld b 16 2 / 32768 == 1 && cmdFlag b 1 then sub s (bfld b 16 2) (bfld b 20 4) else s
  if bfld b 18 2 / 32768 == 1 && cmdFlag b 2 then sub s (bfld b 18 2) (bfld b 24 4) else s

/-- The tensor die that runs a MOVE at level 1 to 3: the one that owns the source, else the destination (R57). -/
def State.moveDie (s : State) (src dst : Nat) : Nat :=
  let ga := if s.isLocal (gaDev src) then gaDA src else gaDA dst
  match s.storeOf ga with
  | some st => storeDie st
  | none => 0

/-- The energy condition of a command (R58, R510). -/
def State.cmdAdmit (s : State) (r : Nat) (c : QCmd) : Adm :=
  let b := c.bytes
  let op := cmdOp b
  let d := cmdNj b
  let low := decide (ridLevel r ≤ 1)
  let led := ridUnit r * 16 + ridCluster r
  if op = 1 && ridLevel r = 0 then s.admitCharge led 5 d (.die (ridUnit r))
  else if op = 1 || op = 2 || c.share.isSome then .ok s
  else if low then s.admitCharge led (if op = 3 then 2 else 5) d (.die (ridUnit r))
  else if op = 3 then
    s.admitCharge 64 2 d (if ridIsWeir r then .weir else .die (s.moveDie (bfld b 42 8) (bfld b 50 8)))
  else s.admitCharge 64 5 d .none

/-- Does the reach run fewer commands than R60 allows? A Weir's command blocks count among its 16 (R202). -/
def State.roomFor (s : State) (r op : Nat) : Bool :=
  let x := s.reach r
  if ridLevel r = 0 then
    if op = 1 then x.running.all fun y => cmdOp y.bytes ≠ 1
    else decide ((x.running.filter fun y => cmdOp y.bytes ≠ 1).length < 8)
  else if ridIsWeir r then decide (s.runCount r < 16)
  else decide (x.running.length < 64)

/-- The command blocks that stand before an entry in the one queue of a Weir (R201); none elsewhere. An entry's identity counts arrivals. -/
def State.blocksBefore (s : State) (r id : Nat) : Nat := ((s.weirOf r).queue.filter fun k => decide (k.id < id)).length

/-- The reach commands among the oldest 16 entries of a reach's one queue (R59, R201), and whether the first of them stands at its head. (DEDUCED, log 58) -/
def State.startWindow (s : State) (r : Nat) : List QCmd × Bool :=
  let q := (s.reach r).queue.take 16
  ((q.zipIdx.filter fun x => decide (x.2 + s.blocksBefore r x.1.id < 16)).map (·.1),
   match q with | c :: _ => s.blocksBefore r c.id == 0 | [] => true)

/-- A MIGRATE stays in the queue while its entry is DRAINING or FENCING (R75). A PLACE or MIGRATE also waits there for one of its item that
started and has not acted, and for a PLACE whose copies have not all answered. (DESIGN CHOICE, log 60) -/
def State.migrateHeld (s : State) (b : List Byte) : Bool :=
  let e := s.plcE (cmdItem b)
  let moving := decide (e.state = .draining) || decide (e.state = .fencing)
  cmdExempt b && ((cmdOp b == 7 && moving) || (!moving && e.cmd.isSome) ||
    (s.reach ridPkg).running.any fun y => !y.acted && cmdExempt y.bytes && cmdItem y.bytes == cmdItem b)

/-- What a start evaluation of one command finds. -/
inductive Eval where
  | start (s : State)
  | under
  | wait (wait credit defer ramp : Bool)

/-- Evaluate a queued command (R52, R58). Where a wait and the credits both fail, the wait is what the queue status shows (R63, R83).
(DESIGN CHOICE, log 57) -/
def State.evalCmd (s : State) (r : Nat) (c : QCmd) : Eval :=
  let b := c.bytes
  let n := cmdCredits b
  if n > (s.poolCap r (cmdPool b)).toNat then .under
  else if !s.roomFor r (cmdOp b) || s.migrateHeld b then .wait false false false false
  else if !s.waitsOk r b then .wait true false false false
  else if n > (s.pool r (cmdPool b)).toNat then .wait false true false false
  else
    match s.cmdAdmit r c with
    | .wait ramp => .wait false false true ramp
    | .ok t =>
      let t := t.consume r b
      .start (if n = 0 then t else t.setPool r (cmdPool b) (t.pool r (cmdPool b) - BitVec.ofNat 32 n))

/-- Take a command out of a reach's queue and let it run, or complete it with a status (R52). -/
def State.startCmd (s : State) (r : Nat) (c : QCmd) (done : Option Nat) : State :=
  let x := s.reach r
  let y : RCmd := { id := c.id, iss := c.iss, bytes := c.bytes, share := c.share, acted := done.isSome, done, left := 0, fail := 0,
                    data := 0, sent := false }
  (s.setReach r { x with queue := x.queue.filter (·.id ≠ c.id), running := x.running ++ [y] }).pullQueue r

/-- Count a declaration that enters ENERGY_DEFER, once a command (R514, R537). -/
def State.countDefer (s : State) (r : Nat) (c : QCmd) (ramp : Bool) : State :=
  let s := if c.deferred then s else s.bump Reg.NRG_DEFER_EVENTS
  let s := if ramp && !c.rampHeld then s.bump Reg.NRG_RAMP_HOLDS else s
  let x := s.reach r
  s.setReach r { x with queue := x.queue.map fun y =>
    if y.id = c.id then { y with deferred := true, rampHeld := y.rampHeld || ramp } else y }

/-- Does a reach serve its queue: its die runs and the device is awake? -/
def State.reachLive (s : State) (r : Nat) : Bool := s.reachHere r && s.dieUp (ridDie r) && !s.asleep

/-- A group of this device whose context is gone: KEY_GROUP_BASE or the header no longer names one, and each of its commands ends with
ADDRESS_FAULT (R68, R69, R89). -/
def State.groupBad (s : State) (r : Nat) : Bool :=
  ridOk r && decide (ridLevel r ≥ 4) && s.isLocal (ridHome r) && (s.groupCtx r).isNone && s.dieUp dieK && !s.asleep

/-- Evaluate the commands in order (R58, R59): the first that starts, or completes with CREDIT_UNDERFLOW, ends the evaluation. The
head's conditions are shown in the queue status (R63, R83). -/
def State.startFrom (s : State) (r : Nat) (head : Bool) : List QCmd → State
  | [] => s
  | c :: t =>
    if !head && !cmdFlag c.bytes 0 then s.startFrom r false t
    else
      let note := fun (s : State) (w cr d : Bool) =>
        if head then s.setReach r { s.reach r with blockWait := w, blockCredit := cr, defer := d } else s
      match s.evalCmd r c with
      | .start u => note (u.startCmd r c none) false false false
      | .under => note (s.startCmd r c (some 5)) false false false
      | .wait w cr d ramp =>
        let s := note s w cr d
        let s := if d then s.countDefer r c ramp else s
        s.startFrom r false t

/-- One start evaluation of a reach. -/
def State.startEval (s : State) (r : Nat) : State :=
  if s.reachLive r then s.startFrom r (s.startWindow r).2 (s.startWindow r).1
  else if s.groupBad r then (match (s.reach r).queue with | c :: _ => s.startCmd r c (some 11) | [] => s)
  else s

/-- COMMAND_START (R58 to R61): the oldest command, or one with the independent flag among the oldest 16. -/
def execCommandStart (r : Nat) (s : State) : Host.Outcome State Fault Refusal :=
  .next (s.startEval r)

/-! ### A running command -/

/-- A command that runs and has not yet acted, with its opcode. -/
def State.toAct (s : State) (r id op : Nat) : Option RCmd :=
  if s.reachLive r then (s.reach r).running.find? fun y => y.id == id && !y.acted && cmdOp y.bytes == op else none

/-- Change a running command. -/
def State.modCmd (s : State) (r id : Nat) (f : RCmd → RCmd) : State :=
  let x := s.reach r
  s.setReach r { x with running := x.running.map fun y => if y.id = id then f y else y }

/-- COMMAND_COMPLETE (R62, R67): the header signal, the error record, the status to the issuer. -/
def execCommandComplete (r id : Nat) (s : State) : Host.Outcome State Fault Refusal :=
  .next (match (s.reach r).running.find? (·.id == id) with
    | none => s
    | some y =>
      match if s.groupBad r then some 11 else y.done with
      | none => s
      | some d =>
        if y.left ≠ 0 || !(s.reachHere r || s.groupBad r) || !s.dieUp (s.reportDie r) || s.asleep then s
        else
          let b := y.bytes
          let sent := if y.sent then some (s, some 0)
            else s.sendHeader (s.reportDie r) (.header r id) (cmdSig b) (cmdChkWu b) (cmdEpoch b)
          match sent with
          | none => s
          | some (t, none) => t.modCmd r id fun y => { y with sent := true, left := 1 }
          | some (t, some st) =>
            let st := if d = 0 then st else d
            let x := t.reach r
            let t := t.setReach r { x with running := x.running.filter (·.id ≠ id) }
            let t := if y.sent && st = 0 then t else t.raiseStatus st (ridDie r) r none (cmdOp b)
            (t.report y.iss st y.data).getD s)

/-! ### Splits (R64 to R70) -/

/-- Is a group member on this device? -/
def State.kidLocal (s : State) (r : Nat) (k : Kid) : Bool := decide (ridLevel r < 4) || s.isLocal k.dev

/-- Send the commands of a split: each into its child's queue, or as a packet to another device; none where a packet must wait.
Answers how many are under way and the status of those that found no route. -/
def State.sendKids (s : State) (r id : Nat) : List (Kid × List Byte × Option Share) → Nat → Nat → Option (State × Nat × Nat)
  | [], n, st => some (s, n, st)
  | (k, b, sh) :: t, n, st =>
    if s.kidLocal r k then
      let c : QCmd := { id := s.opNext, iss := .parent r id, bytes := b, share := sh, deferred := false, rampHeld := false }
      State.sendKids (s.freshId.enqueue c) r id t (n + 1) st
    else
      let b := match sh with | some x => if cmdOp b = 1 then bput b 58 6 x.next else b | none => b
      match s.inject dieK (reachPacket k.dev b) (some (.child r id)) with
      | .stalled => none
      | .lost => State.sendKids s r id t n (if st = 0 then 7 else st)
      | .sent u => State.sendKids u r id t (n + 1) st

/-- Split a running command (R64 to R70): on a failure no child receives anything. -/
def State.doSplit (s : State) (r : Nat) (y : RCmd) (inner : List Byte) (desc : Nat) : State :=
  let d := match y.share with
    | some sh => if sh.next = 0 then some (SDesc.block r sh.stride) else s.sdesc sh.next
    | none => s.sdesc desc
  match d with
  | none => s.cmdDone r y.id 11 0
  | some d =>
    match s.splitCmds r y.bytes inner d y.share.isNone ((y.share.map (·.n)).getD 0) with
    | .error st => s.cmdDone r y.id st 0
    | .ok ks =>
      match (s.modCmd r y.id fun y => { y with acted := true }).sendKids r y.id ks 0 0 with
      | none => s
      | some (t, n, st) => t.modCmd r y.id fun y => { y with left := n, fail := st, done := if n = 0 then some st else none }

/-! ### RUN, SPLIT, MOVE, SIGNAL, WAIT, GIVE -/

/-- The cell state at the start of a RUN (R90, R99). -/
def Cell.start (c : Cell) (id : Nat) (b : List Byte) : Cell :=
  { c with s := tset 0 (tset 0 [] 1 (BitVec.ofNat 64 (bfld b 50 8))) 2 (BitVec.ofNat 64 (cmdWu b)), v := [], vp := [], p := [],
           pc := bfld b 42 8, cycle := 0, status := 0, emask := emaskStart, tepoch := BitVec.ofNat 64 (cmdEpoch b),
           work := BitVec.ofNat 64 (cmdWu b + cmdEpoch b * 2 ^ 32), fault := 0, phase := .running, run := some id, block := none,
           tq := [], ops := [], sigs := [], committed := false, pendTrap := none, lost := false }

/-- RUN (R55, R56, R90, R92): at level 0 the cell program starts; above, the RUN is split. -/
def execRun (r id : Nat) (s : State) : Host.Outcome State Fault Refusal :=
  .next (match s.toAct r id 1 with
    | none => s
    | some y =>
      if ridLevel r = 0 then
        let ci := ridCellIdx r
        if s.fetchOk ci (bfld y.bytes 42 8) then
          (s.setCell ci ((s.cell ci).start id y.bytes)).modCmd r id fun y => { y with acted := true }
        else s.cmdDone r id 11 2048
      else s.doSplit r y y.bytes (bfld y.bytes 58 6))

/-- SPLIT (R55, R64 to R67). -/
def execSplit (r id : Nat) (s : State) : Host.Outcome State Fault Refusal :=
  .next (match s.toAct r id 2 with
    | none => s
    | some y =>
      let da := bfld y.bytes 42 8
      if (s.rangeStore da 64).isNone then s.cmdDone r id 11 0
      else
        let inner := s.readMem da 64
        if !innerOk inner then s.cmdDone r id 10 0 else s.doSplit r y inner (bfld y.bytes 50 6))

/-- MOVE as a reach command (R57, R187, R188, R190). -/
def execMoveReachCommand (r id : Nat) (pe : PortEv) (s : State) : Host.Outcome State Fault Refusal :=
  .next (match s.toAct r id 3 with
    | none => s
    | some y =>
      let b := y.bytes
      if y.share.isSome then s.doSplit r y b 0
      else
        let src := bfld b 42 8
        let dst := bfld b 50 8
        let len := bfld b 58 4
        let weir := if ridIsWeir r then some (ridUnit r - 16) else none
        if !s.moveOk weir src dst len false false then s.cmdDone r id 11 0
        else
          let die := match weir with
            | some n => dieW n
            | none => if ridLevel r = 0 then ridUnit r else s.moveDie src dst
          let engine := match weir with
            | some n => 68 + n
            | none => if ridLevel r = 0 then ridUnit r * 16 + ridCluster r else 64 + die
          let m : MoveOp := { id := s.opNext, owner := .reach r id, engine, die, src, dst, len, fold := false, bf16 := false,
                              sealEpoch := cmdEpoch b, workUnit := cmdWu b, epoch := cmdEpoch b, status := 0, todo := [], left := 0,
                              trls := [], badSlots := [], regions := [] }
          (s.freshId.moveStart pe m).modCmd r id fun y => { y with acted := true })

/-- SIGNAL as a reach command (R49, R55): its only effect is its header signal. -/
def execSignalReachCommand (r id : Nat) (s : State) : Host.Outcome State Fault Refusal :=
  .next (match s.toAct r id 4 with
    | none => s
    | some y =>
      let b := y.bytes
      let h := cmdSig b
      if !h.addrOk then (s.cmdDone r id 11 0).modCmd r id fun y => { y with sent := true }
      else
        match s.sendHeader (ridDie r) (.header r id) h (cmdWu b) (cmdEpoch b) with
        | none => s
        | some (t, some st) => (t.cmdDone r id st 0).modCmd r id fun y => { y with sent := true }
        | some (t, none) => t.modCmd r id fun y => { y with acted := true, sent := true, left := 1 })

/-- WAIT as a reach command (R55): it completes when its waits are satisfied, and they were when it started. -/
def execWaitReachCommand (r id : Nat) (s : State) : Host.Outcome State Fault Refusal :=
  .next (match s.toAct r id 5 with
    | none => s
    | some _ => s.cmdDone r id 0 0)

/-- GIVE as a reach command (R52, R55). -/
def execGiveReachCommand (r id : Nat) (s : State) : Host.Outcome State Fault Refusal :=
  .next (match s.toAct r id 6 with
    | none => s
    | some y =>
      let b := y.bytes
      let d := bfld b 52 4
      let dst := bfld b 48 4
      let loc := decide (d < 2 ^ 31) || (s.idValid && d % 2 ^ 18 == s.devId)
      if !ridOk dst then s.cmdDone r id 11 0
      else
        match s.sendSignal (ridDie r) (.header r id) loc (d % 2 ^ 18) dst (bfld b 42 1 % 64) 0 (bfld b 44 4) (cmdWu b) (cmdEpoch b) true with
        | none => s
        | some (t, some st) => t.cmdDone r id st 0
        | some (t, none) => t.modCmd r id fun y => { y with acted := true, left := 1 })

/-! ### Placement (R71, R72) -/

/-- Is a device of a PLACE or MIGRATE, given as signal_device, this one? Answers its ID where it is another. -/
def State.otherDev (s : State) (d : Nat) : Option Nat :=
  if d < 2 ^ 31 || (s.idValid && d % 2 ^ 18 == s.devId) then none else some (d % 2 ^ 18)

/-- The destination list of a PLACE: none where it is not where R72 wants it; the flag says a reserved bit is set. -/
def State.destList (s : State) (da n : Nat) : Option (List Nat × Bool) :=
  if n = 0 then some ([], false)
  else if da % 4 = 0 && (s.rangeStore da (4 * n)).isSome && !touchesTiled s.trg da (4 * n) then
    let xs := (List.range n).map fun i => bfld (s.readMem (da + 4 * i) 4) 0 4
    some (xs.map (· % 2 ^ 18), xs.any fun x => decide (x ≥ 2 ^ 18))
  else none

/-- The other devices that hold a copy of an entry. -/
def State.copyDevs (s : State) (dev : Nat) (dests : List Nat) : List Nat :=
  ((if s.isLocal dev then [] else [dev]) ++ dests.filter fun d => !s.isLocal d).eraseDups

/-- The code of an entry's state (R86). -/
def PlcState.code : PlcState → Nat
  | .free => 0 | .placed => 1 | .draining => 2 | .fencing => 3

/-- The state of a code. -/
def PlcState.ofCode (n : Nat) : PlcState := if n = 0 then .free else if n = 1 then .placed else if n = 2 then .draining else .fencing

/-- An entry as the home sends it to the devices that hold a copy (R72, R77). -/
def State.copyOf (s : State) (item : Nat) : PlcCopy :=
  let e := s.plcE item
  { home := s.devId, item, state := e.state.code, reach := e.reach, device := e.device, epoch := e.epoch, dests := e.dests, moved := e.moved,
    oldReach := e.oldReach, oldDevice := e.oldDevice, newReach := e.newReach, newDevice := e.newDevice, reportDA := e.reportDA,
    delivering := (e.report.filter fun u => u.2 == 0).map (·.1) }

/-- Send the entry of an item to other devices. -/
def State.sendCopiesOf (s : State) (item : Nat) (devs : List Nat) : State :=
  devs.foldl (fun s d => s.emit (.plcCopy d (s.copyOf item))) s

/-- The end of a PLACE, of either kind, once every copy answered (R72): after a failure the copies that acknowledged are
set FREE again, and keep showing their reach (R87). (DESIGN CHOICE, log 57) -/
def State.placeEnd (s : State) (item : Nat) : State :=
  let e := s.plcE item
  if e.waiting ≠ [] then s
  else
    match e.cmd with
    | none => s
    | some id =>
      if e.releasing || e.copyFail ≠ 0 then
        let s := s.setPlc item { e with state := .free, cmd := none, acked := [], copyFail := 0, releasing := false }
        (if e.releasing then s else s.sendCopiesOf item e.acked).cmdDone ridPkg id e.copyFail 0
      else (s.setPlc item { e with cmd := none, acked := [], copyFail := 0 }).cmdDone ridPkg id e.copyFail 0

/-- PLACE (R72). (DESIGN CHOICE, log 55) -/
def execPlace (id : Nat) (s : State) : Host.Outcome State Fault Refusal :=
  .next (match s.toAct ridPkg id 8 with
    | none => s
    | some y =>
      let b := y.bytes
      let item := cmdItem b
      let e := s.plcE item
      if bfld b 59 1 = 1 then s
      else if item = 0 || bfld b 58 1 > 16 || e.state ≠ .free then s.cmdDone ridPkg id 10 0
      else
        match s.destList (bfld b 52 6) (bfld b 58 1) with
        | none => s.cmdDone ridPkg id 11 0
        | some (ds, bad) =>
          if bad then s.cmdDone ridPkg id 10 0
          else
            let dev := (s.otherDev (bfld b 48 4)).getD s.devId
            let ep := if e.placedEver then (e.epoch + 1) % 256 else 0
            let e' : Plc := { Plc.empty with state := .placed, reach := bfld b 44 4, device := dev, epoch := ep, placedEver := true,
                                             dests := ds, home := true, cmd := some id, waiting := s.copyDevs dev ds }
            let s := ((s.setPlc item e').modCmd ridPkg id fun y => { y with acted := true }).sendCopiesOf item e'.waiting
            s.placeEnd item)

/-- PLACE_RELEASE (R72): the release form of PLACE. A FREE entry keeps its last reach, its destination list and its home bit.
(DESIGN CHOICE, log 57) -/
def execPlaceRelease (id : Nat) (s : State) : Host.Outcome State Fault Refusal :=
  .next (match s.toAct ridPkg id 8 with
    | none => s
    | some y =>
      let b := y.bytes
      let item := cmdItem b
      let e := s.plcE item
      if bfld b 59 1 ≠ 1 then s
      else if item = 0 || bfld b 58 1 > 16 || e.state ≠ .placed || !e.home || e.cmd.isSome then s.cmdDone ridPkg id 10 0
      else
        let e' := { e with state := .free, cmd := some id, releasing := true, waiting := s.copyDevs e.device e.dests, acked := [], copyFail := 0 }
        let s := ((s.setPlc item e').modCmd ridPkg id fun y => { y with acted := true }).sendCopiesOf item e'.waiting
        s.placeEnd item)

/-! ### Migration (R75 to R81) -/

/-- Is a queued or running command one of an item's? -/
def ofItem (item : Nat) (b : List Byte) : Bool := !cmdExempt b && wuItem (cmdWu b) == item

/-- Does the old placement, on this device, still hold commands of an item (R77)? -/
def State.itemBusy (s : State) (item : Nat) : Bool :=
  let e := s.plcE item
  s.reaches.any fun kv => ridUnder e.oldReach kv.1 &&
    (kv.2.queue.any (fun c => ofItem item c.bytes) || kv.2.held.any (fun c => ofItem item c.bytes) ||
     kv.2.running.any (fun c => ofItem item c.bytes))

/-- Deliver the commands held for a new placement; none where a packet must wait. (DEDUCED, log 23) (DESIGN CHOICE, log 31) -/
def State.releaseHeld (s : State) (item : Nat) : List QCmd → Option State
  | [] => some s
  | c :: t =>
    let e := s.plcE item
    match s.sendOn e.newDevice (if s.isLocal e.newDevice then { c with bytes := bput c.bytes 2 1 e.epoch } else c) with
    | none => none
    | some u => u.releaseHeld item t

/-- The devices that hold a copy of an entry under migration: the old placement's, the new one's and the destinations (R72, R77). -/
def State.migrateDevs (s : State) (e : Plc) : List Nat := (s.copyDevs e.oldDevice e.dests ++ s.copyDevs e.newDevice []).eraseDups

/-- Once every copy answered: the new placement is released; the entry is PLACED, and its copies hear of it, at the end of a FENCE once
the report is closed (R77, R80). -/
def State.migrateStep (s : State) (item : Nat) : State :=
  let e := s.plcE item
  if e.waiting ≠ [] then s
  else
    let released := if e.releasing then
        (match s.releaseHeld item e.held with
         | none => none
         | some t => let e := t.plcE item
                     some (t.setPlc item { e with held := [], releasing := false, reach := e.newReach, device := e.newDevice }))
      else some s
    match released with
    | none => s
    | some t =>
      let e := t.plcE item
      match e.cmd with
      | none => t
      | some id =>
        if (e.state ≠ .fencing || e.reported) && e.report.all fun u => u.2 ≠ 0 then
          ((t.setPlc item { e with state := .placed, cmd := none, acked := [], copyFail := 0 }).sendCopiesOf item (t.migrateDevs e)).cmdDone
            ridPkg id e.copyFail 0
        else t

/-- The checks of a MIGRATE (R71, R72, R75): a status, or 0. A fence report DA that does not lie wholly in one store, or touches a tiled
region, gives ADDRESS_FAULT. (DESIGN CHOICE, log 57) -/
def State.migrateCheck (s : State) (b : List Byte) : Nat :=
  let e := s.plcE (cmdItem b)
  let r := bfld b 46 4
  let dev := (s.otherDev (bfld b 50 4)).getD s.devId
  if cmdItem b = 0 then 10
  else if e.state = .free then 2
  else if !e.home || e.cmd.isSome || ridIsWeir r || (r == e.reach && dev == e.device) then 10
  else if bfld b 44 1 = 1 && ((s.rangeStore (bfld b 54 6) 131088).isNone || touchesTiled s.trg (bfld b 54 6) 131088) then 11
  else 0

/-- The entry of an item whose migration was accepted. -/
def State.migrateEntry (s : State) (b : List Byte) (id : Nat) (st : PlcState) : Plc :=
  let e := s.plcE (cmdItem b)
  { e with state := st, cmd := some id, newReach := bfld b 46 4, newDevice := (s.otherDev (bfld b 50 4)).getD s.devId,
           oldReach := e.reach, oldDevice := e.device, oldEpoch := e.epoch, moved := true, report := [], reported := false, ended := [],
           held := [], acked := [], copyFail := 0, releasing := false, settling := false, waiting := [] }

/-- MIGRATE_DRAIN (R75, R77 step 1). -/
def execMigrateDrain (id : Nat) (s : State) : Host.Outcome State Fault Refusal :=
  .next (match s.toAct ridPkg id 7 with
    | none => s
    | some y =>
      let b := y.bytes
      if bfld b 44 1 ≠ 0 then s
      else
        match s.migrateCheck b with
        | 0 =>
          let e := s.migrateEntry b id .draining
          ((s.setPlc (cmdItem b) e).modCmd ridPkg id fun y => { y with acted := true }).sendCopiesOf (cmdItem b) (s.copyDevs e.oldDevice e.dests)
        | st => s.cmdDone ridPkg id st 0)

/-- The home takes up the new epoch, tells every copy and waits for the acknowledgements (R77 step 4). -/
def State.newEpoch (s : State) (item : Nat) : State :=
  let e := s.plcE item
  let ds := s.migrateDevs e
  ((s.setPlc item { e with epoch := (e.epoch + 1) % 256, releasing := true, waiting := ds }).sendCopiesOf item ds).migrateStep item

/-- DRAINED_TOKEN (R77 steps 3 to 6): the old placement's last command completed; one on this device of an item that is homed elsewhere
tells that home. -/
def execDrainedToken (item : Nat) (s : State) : Host.Outcome State Fault Refusal :=
  let e := s.plcE item
  .next (if e.state ≠ .draining || e.releasing || (s.isLocal e.oldDevice && s.itemBusy item) then s
    else if e.home then (if e.cmd.isNone then s else s.newEpoch item)
    else if s.isLocal e.oldDevice then (s.setPlc item { e with releasing := true }).emit (.drained e.homeDev item)
    else s)

/-- The cells of a placement that run a unit of an item, ascending. -/
def State.itemCells (s : State) (item : Nat) (p : Nat) : List Nat :=
  (s.cells.filter fun kv => kv.2.run.isSome && ridUnder p (cellRid kv.1) && wuItem kv.2.wu == item).map (·.1)

/-- Does a cell stand within an instruction that must complete before a FENCE stops it: AADD, ACAS, FENCE (R129)? -/
def Cell.within (c : Cell) : Bool := match c.block with | some b => !b.atBoundary | none => false

/-- What a REQUEUED unit had issued and what will be discarded as stale on this device: its ACCSTs, its pending signals, the completion
signals of its asynchronous instructions (R73, R78). Its MOVEs, OPROJs and WQs are discarded where they complete. (DEDUCED, log 59) -/
def State.staleOps (s : State) (x : Cell) : Nat :=
  let here := fun (g : Sig) => g.inc ≠ 0 && (!g.remote || (s.idValid && g.device == s.devId))
  (x.tq.filter (·.isSt)).length + (x.sigs.filter fun g => here g.sig).length +
    (x.ops.map fun o => if here o.sig then (if o.kind = .wq then o.left else 1) else 0).foldl (· + ·) 0

/-- Stop one cell at its boundary (R78, R129): its unit is DELIVERING, or REQUEUED with its command moved. -/
def State.fenceCell (s : State) (item : Nat) (ci : Nat) : State :=
  let x := s.cell ci
  let e := s.plcE item
  let r := cellRid ci
  if x.committed || x.phase = .halted then
    let s := s.setCell ci { x with phase := if x.phase = .running then .halted else x.phase, block := none }
    s.setPlc item { e with report := e.report ++ [(x.wu, 0)] }
  else
    match x.run.bind fun id => (s.reach r).running.find? (·.id == id) with
    | none => s
    | some y =>
      let s := s.bumpN Reg.KEY_PLC_DISCARDS (s.staleOps x)
      let s := s.setCell ci { x with phase := .idle, run := none, block := none, tq := [], ops := [], sigs := [], pendTrap := none }
      let z := s.reach r
      let s := s.setReach r { z with running := z.running.filter (·.id ≠ y.id) }
      let q : QCmd := { id := y.id, iss := y.iss, bytes := bput y.bytes 4 4 (relocate e.newReach r), share := y.share,
                        deferred := false, rampHeld := false }
      s.setPlc item { e with report := e.report ++ [(x.wu, 1)], held := e.held ++ [q] }

/-- The RUNs of an item that started at one cell's reach and whose program has not begun are REQUEUED (R78). -/
def State.fenceRuns (s : State) (item : Nat) (r : Nat) : State :=
  let x := s.reach r
  let e := s.plcE item
  let mine := x.running.filter fun y => ridLevel r == 0 && cmdOp y.bytes == 1 && !y.acted && ofItem item y.bytes
  let s := s.setReach r { x with running := x.running.filter fun y => !mine.any (·.id == y.id) }
  s.setPlc item { e with report := e.report ++ mine.map (fun y => (cmdWu y.bytes, 1)),
                         held := e.held ++ mine.map fun y => { id := y.id, iss := y.iss, bytes := bput y.bytes 4 4 (relocate e.newReach r),
                                                               share := y.share, deferred := false, rampHeld := false } }

/-- Move the unstarted commands of an item out of one reach. -/
def State.fenceQueue (s : State) (item : Nat) (r : Nat) : State :=
  let x := s.reach r
  let e := s.plcE item
  let mine := (x.queue ++ x.held).filter fun c => ofItem item c.bytes
  let s := (s.setReach r { x with queue := x.queue.filter (fun c => !ofItem item c.bytes),
                                  held := x.held.filter (fun c => !ofItem item c.bytes),
                                  blockWait := false, blockCredit := false, defer := false }).pullQueue r
  s.setPlc item { e with held := e.held ++ mine.map fun c => { c with bytes := bput c.bytes 4 4 (relocate e.newReach r) } }

/-- The bytes of a fence report (R79). -/
def fenceReport (item oldEpoch : Nat) (us : List (Nat × Nat)) : List Byte :=
  let closed := us.all fun u => u.2 ≠ 0
  let failed := (us.filter fun u => u.2 == 3).length
  toBytesLE 2 item ++ toBytesLE 1 oldEpoch ++ toBytesLE 1 (oldEpoch + 1) ++ toBytesLE 4 us.length ++ toBytesLE 4 (if closed then failed else 0)
    ++ toBytesLE 4 closed.toNat ++ us.flatMap fun u => toBytesLE 4 u.1 ++ toBytesLE 4 u.2

/-- The fence report as it now stands goes to its DA: on this device, or on the home's (R79). -/
def State.writeReport (s : State) (pe : PortEv) (item : Nat) : State :=
  let e := s.plcE item
  let b := fenceReport item e.oldEpoch e.report
  if e.home then (s.writePE (s.viewNow pe) e.reportDA b).met (s.viewNow pe) [(e.reportDA, b.length, true)] else s.emit (.fenceReport e.homeDev e.reportDA b)

/-- The old placement on this device classifies its units, moves the others' commands and writes its report (R78, R79). -/
def State.fenceSettle (s : State) (pe : PortEv) (item : Nat) : State :=
  let p := (s.plcE item).oldReach
  let s := (s.itemCells item p).foldl (fun s c => s.fenceCell item c) s
  let rs := (s.reaches.map (·.1)).filter (ridUnder p)
  let s := rs.foldl (fun s r => s.fenceRuns item r) s
  let s := rs.foldl (fun s r => s.fenceQueue item r) s
  (s.setPlc item { s.plcE item with settling := false, reported := true }).settle.writeReport pe item

/-- Does every cell of the old placement on this device stand at an instruction boundary (R129)? -/
def State.atRest (s : State) (item : Nat) : Bool :=
  (s.itemCells item (s.plcE item).oldReach).all fun ci => !(s.cell ci).within

/-- MIGRATE_FENCE (R75, R78, R79, R81): the entry is FENCING; the units of the old placement on this device are classified once its cells
stand at a boundary, which this row then does. -/
def execMigrateFence (id : Nat) (pe : PortEv) (s : State) : Host.Outcome State Fault Refusal :=
  .next (match s.toAct ridPkg id 7 with
    | none => s
    | some y =>
      let b := y.bytes
      let item := cmdItem b
      let again := (s.plcE item).settling && (s.plcE item).cmd == some id
      if bfld b 44 1 ≠ 1 then s
      else
        match if again then 0 else s.migrateCheck b with
        | 0 =>
          let s := if again then s
            else
              let e := { s.migrateEntry b id .fencing with releasing := true, settling := true, reportDA := bfld b 54 6 }
              (s.setPlc item e).sendCopiesOf item (s.copyDevs e.oldDevice e.dests)
          let e := s.plcE item
          if !s.isLocal e.oldDevice then (s.setPlc item { e with settling := false }).modCmd ridPkg id fun y => { y with acted := true }
          else if !s.atRest item then s
          else ((s.modCmd ridPkg id fun y => { y with acted := true }).fenceSettle pe item).newEpoch item
        | st => s.cmdDone ridPkg id st 0)

/-- FENCE_UNIT_RESOLVED (R80): a DELIVERING unit whose RUN ended on this device is DELIVERED, or FAILED where an operation of it completed
with UNKNOWN_OUTCOME or LINK_LOST; or the old placement on another device reports (`report`). (DESIGN CHOICE, log 55) -/
def execFenceUnitResolved (item wu : Nat) (report : Option (List (Nat × Nat))) (pe : PortEv) (s : State) : Host.Outcome State Fault Refusal :=
  let e := s.plcE item
  .next (if e.state ≠ .fencing then s
    else
      match report with
      | some us =>
        if !e.home || s.isLocal e.oldDevice then s
        else
          let t := (s.setPlc item { e with report := us, reported := true }).writeReport pe item
          if e.reported then t.migrateStep item else t.newEpoch item
      | none =>
        if e.settling then (if !e.home && s.isLocal e.oldDevice && s.atRest item then s.fenceSettle pe item else s)
        else
          match e.report.contains (wu, 0), e.ended.find? (·.1 == wu) with
          | true, some (_, lost) =>
            let us := e.report.map fun u => if u = (wu, 0) then (wu, if lost then 3 else 2) else u
            let t := (s.setPlc item { e with report := us }).writeReport pe item
            if e.home then t.migrateStep item else t
          | _, _ => s)

/-- Another home's copy of an entry arrives (R72, R77, R78): it replaces the one this device holds, and is acknowledged. The old placement
of a FENCE classifies its units; commands held here go on once the new placement is released. (DESIGN CHOICE, log 55) -/
def State.takeCopy (s : State) (c : PlcCopy) : State :=
  let e := s.plcE c.item
  let old := s.isLocal c.oldDevice && decide (c.state ≥ 2)
  let first := old && c.state == 3 && e.state ≠ .fencing
  let e' : Plc := { Plc.empty with
    state := .ofCode c.state, reach := c.reach, device := c.device, epoch := c.epoch, placedEver := true, dests := c.dests,
    homeDev := c.home, newReach := c.newReach, newDevice := c.newDevice, oldReach := c.oldReach, oldDevice := c.oldDevice,
    oldEpoch := if first then c.epoch else e.oldEpoch, moved := c.moved, reportDA := c.reportDA, held := e.held, ended := e.ended,
    report := if old && !first then e.report else c.delivering.map (·, 0), reported := e.reported && !first, settling := first || (e.settling && old),
    releasing := first || (old && e.releasing) }
  let s := s.setPlc c.item e'
  let s := if first && s.atRest c.item then s.fenceSettle .clear c.item else s
  let s := if (decide (c.state ≤ 1) || c.epoch ≠ e.epoch) && !first then
      (match s.releaseHeld c.item e'.held with
       | some t => t.setPlc c.item { t.plcE c.item with held := [], releasing := false }
       | none => s)
    else s
  s.emit (.plcAck c.home c.item)

/-- PLACEMENT_COPY_ACK (R72, R77, R81): a device answers for its copy of the entry that command `id` changes; or, with `copy`, this device
answers for its copy of an entry homed elsewhere. (DESIGN CHOICE, log 55) -/
def execPlacementCopyAck (id dev st : Nat) (copy : Option PlcCopy) (s : State) : Host.Outcome State Fault Refusal :=
  .next (match copy with
    | some c => if s.isLocal c.home then s else s.takeCopy c
    | none =>
      match s.plc.find? fun kv => kv.2.cmd == some id && kv.2.waiting.contains dev with
      | none => s
      | some (item, e) =>
        let acked := if st = 0 then e.acked ++ [dev] else e.acked
        let fail := if st = 0 then e.copyFail else mergeStatus e.copyFail st
        let e := { e with waiting := e.waiting.filter (· ≠ dev), acked := acked, copyFail := fail }
        let s := s.setPlc item e
        if e.state = .draining || e.state = .fencing then s.migrateStep item else s.placeEnd item)

/-! ### Registers (R82 to R88) -/

/-- The selector of a RCH_DATA register, and the reach it selects; none at level 3 of a tensor die. -/
def State.rchSel (s : State) (off : Nat) : Word × Option Nat :=
  let sel := s.reg (off - 4)
  if off = Reg.KEY_RCH_DATA then (sel, some ridPkg)
  else if off ≥ 0x2000000 then (sel, some (0x50000000 + (off - 0x2008004) / 0x10000 * 2 ^ 24))
  else
    let t := (off - 0x1010004) / 0x400000
    let c := sel.fld 4 4
    match sel.fld 8 2 with
    | 0 => (sel, some (t * 2 ^ 24 + c * 2 ^ 20 + sel.fld 0 4 * 2 ^ 16))
    | 1 => (sel, some (0x20000000 + t * 2 ^ 24 + c * 2 ^ 20))
    | 2 => (sel, some (0x40000000 + t * 2 ^ 24))
    | _ => (sel, none)

/-- Is an offset a RCH_DATA register? -/
def isRchData (off : Nat) : Bool :=
  off == Reg.KEY_RCH_DATA || (List.range 4).any (fun t => off == Reg.Tt_RCH_DATA t) || (List.range 16).any (fun n => off == Reg.Wn_RCH_DATA n)

/-- A reach of a FENCE migration's old placement shows fenced, from the acceptance until the report is closed (R81).
(DESIGN CHOICE, log 57) -/
def State.fenced (s : State) (r : Nat) : Bool :=
  s.plc.any fun kv => decide (kv.2.state = .fencing) && s.isLocal kv.2.oldDevice && ridUnder kv.2.oldReach r

/-- What RCH_DATA reads (R83). -/
def State.rchData (s : State) (off : Nat) : Word :=
  match s.rchSel off with
  | (_, none) => 0
  | (sel, some r) =>
    let i := sel.fld 10 12
    match sel.fld 22 2 with
    | 0 => s.tok r i
    | 1 => s.pool r (i % 64)
    | 2 => s.poolCap r (i % 64)
    | _ =>
      let x := s.reach r
      let some' := decide (x.queue ≠ [])
      BitVec.ofNat 32 (min 1024 (s.depth r) + min 127 (s.runCount r) * 2 ^ 11 + (some' && x.blockWait).toNat * 2 ^ 28 +
        (some' && x.blockCredit).toNat * 2 ^ 29 + (some' && x.defer).toNat * 2 ^ 30 + (s.fenced r).toNat * 2 ^ 31)

/-- A write of RCH_DATA (R83, R84). -/
def State.wRchData (s : State) (o : Origin) (dev off : Nat) (v : Word) : State :=
  let (sel, r) := s.rchSel off
  let own := orElseIgn (ignoreIf (decide (sel.fld 22 2 ≠ 2)) Reg.KEY_RSVD_WRITES) (dropIf r.isNone)
  s.gate o dev off v (s.rchData off) own fun t x =>
    let r := r.getD 0
    let p := sel.fld 10 6
    let z := t.reach r
    t.setReach r { z with poolCap := tset 0 z.poolCap p x,
                          poolCnt := if (t.pool r p).toNat > x.toNat then tset 0 z.poolCnt p x else z.poolCnt }

/-- POOL_CAPACITY_WRITE (R83, R84). -/
def execPoolCapacityWrite (o : Origin) (off : Nat) (v : Word) (s : State) : Host.Outcome State Fault Refusal :=
  .next (if isRchData off then s.wRchData o 0 off v else s)

/-- KEY_PLC_DATA (R86). A FREE entry shows its last destination count and home bit. (DESIGN CHOICE, log 57) -/
def State.plcData (s : State) : Word :=
  let e := s.plcE (s.rf Reg.KEY_PLC_SEL 0 12)
  BitVec.ofNat 32 (e.epoch + e.state.code * 256 + e.dests.length * 1024 + e.home.toNat * 32768)

/-- KEY_PLC_REACH (R87). A FREE entry shows its last reach. (DESIGN CHOICE, log 57) -/
def State.plcReach (s : State) : Word := BitVec.ofNat 32 (s.plcE (s.rf Reg.KEY_PLC_SEL 0 12)).reach

end Sys2Proof.Machine
end

