-- ==== Sys2Proof/Machine/Bed.lean ====
section
/-! DEFINITION. Bed links (R326 to R355): flits with acknowledgement, replay and credits, lanes that retire and return, training,
DOWN. Both ends of a link are dies of the device; a control block that one end sends is recorded as sent out and comes back as a row of its
own. -/

namespace Sys2Proof.Machine

/-! ### Links and lanes -/

/-- Put back a link. -/
def State.setLink (s : State) (a b : Nat) (x : BLink) : State := { s with bed := { s.bed with links := tset .down s.bed.links (32 * a + b) x } }

/-- A lane. -/
def State.lane (s : State) (i : Nat) : BLane := tget .dark s.bed.lanes i

/-- Put back a lane. -/
def State.setLane (s : State) (i : Nat) (x : BLane) : State := { s with bed := { s.bed with lanes := tset .dark s.bed.lanes i x } }

/-- The lanes of a link in a state. -/
def State.lanesIn (s : State) (a b : Nat) (st : BLaneSt) : List Nat := (linkLanes a b).filter fun i => (s.lane i).state == st

/-- The positions in service (R334, R352). -/
def State.bedWidth (s : State) (a b : Nat) : Nat := (s.lanesIn a b .data).length

/-- The lane in service at a position, or the spare that holds it (R325). -/
def State.laneAtPos (s : State) (a b p : Nat) : Option Nat :=
  match (s.lanesIn a b .data).find? fun i => (s.lane i).pos == p with
  | some i => some i
  | none => (s.lanesIn a b .spare).find? fun i => (s.lane i).pos == p

/-- A ring holds its lock. -/
def State.ringOk (s : State) (i : Nat) : Bool :=
  let r := tget .off s.optics.rings i
  s.optics.ringsUp && !r.unlocked && !r.failed

/-- Modulator and drop filter of a lane hold their lock (R302, R346). -/
def State.laneRings (s : State) (i : Nat) : Bool := s.ringOk i && s.ringOk (3840 + i)

/-- Every ring of a link is locked, or marked failed (R307). -/
def State.linkRings (s : State) (a b : Nat) : Bool :=
  s.optics.ringsUp && (linkLanes a b).all fun i =>
    [i, 3840 + i].all fun j => let r := tget .off s.optics.rings j; !r.unlocked || r.failed

/-- A lane without service: its position is given up. -/
def BLane.out (x : BLane) (st : BLaneSt) (cause : Nat) (planned : Bool) : BLane :=
  { x with state := st, pos := 0, cause, planned, after := none, cause2 := if cause = 2 then x.cause2 + 1 else x.cause2 }

/-- The state a retired lane takes (R343, R346). -/
def BLane.outState (x : BLane) (cause : Nat) : BLaneSt :=
  if cause = 4 || cause = 5 || cause = 7 || (cause = 2 && decide (x.cause2 ≥ 2)) then .failed else .retired

/-- The record of a lane that becomes FAILED (R342, R664). -/
def State.laneRepair (s : State) (i : Nat) : State :=
  s.storePush (.repair { kind := 3, die := busDie (i / 64), element := i, replacement := 0xFFFFFFFF, boot := s.boot,
                         ticks := s.ticks % 2 ^ 48, extra := [] })

/-- Take a lane out of service (R343). -/
def State.laneOut (s : State) (i cause : Nat) (planned : Bool) : State :=
  let x := s.lane i
  let st := x.outState cause
  let s := s.setLane i (x.out st cause planned)
  if st == .failed && x.state != .failed then s.laneRepair i else s

/-! ### Changes at boundaries (R333, R343 to R346) -/

/-- The boundary of a change. -/
def BChange.at : BChange → Nat
  | .retire _ c _ _ => c
  | .join _ c _ => c

/-- A lane that a pending ADMIT has chosen. -/
def BLink.chosen (x : BLink) (i : Nat) : Bool := x.changes.any fun ch => match ch with | .join _ _ l => l == i | _ => false

/-- A position whose retirement is pending. -/
def BLink.retiring (x : BLink) (p : Nat) : Bool := x.changes.any fun ch => match ch with | .retire q _ _ _ => q == p | _ => false

/-- A position that a pending ADMIT fills. -/
def BLink.filling (x : BLink) (p : Nat) : Bool := x.changes.any fun ch => match ch with | .join q _ _ => q == p | _ => false

/-- The lowest of some lanes by position. -/
def State.lowestPos (s : State) (ls : List Nat) : Option Nat :=
  ls.foldl (fun (acc : Option Nat) i =>
    match acc with
    | none => some i
    | some j => if (s.lane i).pos < (s.lane j).pos then some i else some j) none

/-- The ready spare that is called in next: trained, idle, not chosen yet, of lowest position (R344). -/
def State.readySpare (s : State) (a b : Nat) : Option Nat :=
  s.lowestPos ((s.lanesIn a b .spare).filter fun i => !(s.link a b).chosen i)

/-- The first bytes of a RETIRE or an ADMIT (R332). -/
def State.changeBytes (s : State) : BChange → List Byte
  | .retire p c _ planned => [0x55, 0] ++ toBytesLE 2 p ++ toBytesLE 4 c ++ toBytesLE 1 planned.toNat
  | .join p c i => [0x66, 0] ++ toBytesLE 2 p ++ toBytesLE 4 c ++ toBytesLE 2 (s.lane i).pos

/-- The first bytes of a REQ_RETIRE (R332). -/
def reqBytes (pos cause : Nat) : List Byte := [0x78, 0] ++ toBytesLE 2 pos ++ toBytesLE 1 cause

/-- Announce a change: its control block waits for the line. -/
def State.announce (s : State) (a b : Nat) (ch : BChange) : State :=
  let x := s.link a b
  (s.setLink a b { x with changes := x.changes ++ [ch], txCtl := x.txCtl ++ [s.changeBytes ch] }).emit (.bctl a b ch)

/-- The sender retires the lane in service at a position (R344): RETIRE at a boundary 16 codewords on; in an unplanned retirement, or
where no data lane would be left, ADMIT of a spare at the same boundary. -/
def State.retirePos (s : State) (a b p cause : Nat) (planned : Bool) : State :=
  let x := s.link a b
  if x.retiring p then s
  else
    let c := (x.count + 16) % 2 ^ 32
    let left := (s.lanesIn a b .data).filter fun i => (s.lane i).pos ≠ p && !x.retiring (s.lane i).pos
    let s := s.announce a b (.retire p c cause planned)
    let s := if planned then s else
      let x := s.link a b
      s.setLink a b { x with nullOnly := x.nullOnly ++ [p] }
    if planned && left ≠ [] then s
    else
      match s.readySpare a b with
      | some i => s.announce a b (.join p c i)
      | none => s

/-- A lane leaves service for a cause (R343): in service, by a retirement at a boundary; in training, when that ends (R345); a spare, at
once. -/
def State.retireLane (s : State) (i cause : Nat) (planned : Bool) : State :=
  match laneInfo i with
  | none => s
  | some (a, b, _) =>
    let x := s.lane i
    match x.state with
    | .data => if (s.link a b).state == .live then s.retirePos a b x.pos cause planned else s.laneOut i cause planned
    | .spare => s.laneOut i cause planned
    | .training => s.setLane i { x with after := some (cause, planned) }
    | .retired | .dark => if x.outState cause == .failed then s.laneOut i cause planned else s
    | .failed => s

/-- The receiver found a fault of a lane: it asks the sender on the reverse link (R344). -/
def State.askRetire (s : State) (i cause : Nat) : State :=
  match laneInfo i with
  | none => s
  | some (a, b, _) =>
    let x := s.lane i
    if x.state == .data && (s.link a b).state == .live then
      let l := s.link a b
      let s := s.setLink a b { l with reqs := l.reqs ++ [(x.pos, cause)] }
      let r := s.link b a
      if r.state == .live then (s.setLink b a { r with txCtl := r.txCtl ++ [reqBytes x.pos cause] }).emit (.breq a b x.pos cause) else s
    else s.retireLane i cause false

/-- The lowest spare position that no lane holds. -/
def State.freeSparePos (s : State) (a b : Nat) : Nat :=
  let d := linkWidth a b
  let ls := linkLanes a b
  ((List.range (ls.length - d + 1)).map (· + d)).find? (fun p => !ls.any fun i => (s.lane i).state == .spare && (s.lane i).pos == p)
    |>.getD d

/-- The lowest position below D that no lane holds and no ADMIT fills. -/
def State.holePos (s : State) (a b : Nat) : Option Nat :=
  (List.range (linkWidth a b)).find? fun p =>
    !(s.lanesIn a b .data).any (fun i => (s.lane i).pos == p) && !(s.link a b).filling p

/-- A lane is trained again (R345, R346): a retirement that waited takes effect, else it is a ready spare, and admitted where a position is
unfilled. (DESIGN CHOICE, log 34) -/
def State.laneBack (s : State) (i : Nat) : State :=
  match laneInfo i with
  | none => s
  | some (a, b, _) =>
    let x := { s.lane i with tries := 0, noLock := false }
    match x.after with
    | some (cause, planned) => (s.setLane i x).laneOut i cause planned
    | none =>
      let s := s.setLane i { x with state := .spare, pos := s.freeSparePos a b }
      match s.holePos a b with
      | some p => s.announce a b (.join p (((s.link a b).count + 16) % 2 ^ 32) i)
      | none => s

/-- One change takes effect. A spare that failed since it was chosen is replaced at a boundary 16 codewords later (R345). -/
def State.applyChange (s : State) (a b : Nat) : BChange → State
  | .retire p _ cause planned =>
    match (s.lanesIn a b .data).find? fun i => (s.lane i).pos == p with
    | some i => s.laneOut i cause planned
    | none => s
  | .join p c i =>
    let x := s.lane i
    if x.state == .spare then s.setLane i { x with state := .data, pos := p }
    else
      match s.readySpare a b with
      | some j => s.announce a b (.join p ((c + 16) % 2 ^ 32) j)
      | none => s

/-- Has the codeword count `now` reached boundary `c` (counts are taken modulo 2^32)? -/
def reached (now c : Nat) : Bool := decide ((now + 2 ^ 32 - c % 2 ^ 32) % 2 ^ 32 < 2 ^ 31)

/-- Retirements before admissions. -/
def BChange.isRetire : BChange → Bool
  | .retire .. => true
  | .join .. => false

/-- The changes of a link that `p` selects take effect, retirements first. -/
def State.applyChanges (s : State) (a b : Nat) (p : BChange → Bool) : State :=
  let x := s.link a b
  let due := x.changes.filter p
  let s := s.setLink a b { x with changes := x.changes.filter fun ch => !p ch }
  let s := (due.filter BChange.isRetire ++ due.filter fun ch => !ch.isRetire).foldl (fun s ch => s.applyChange a b ch) s
  let x := s.link a b
  s.setLink a b { x with nullOnly := x.nullOnly.filter x.retiring }

/-! ### Training (R342, R348, R349) -/

/-- The link's two dies run. -/
def State.linkDies (s : State) (a b : Nat) : Bool := s.dieUp a && s.dieUp b

/-- A link starts a quick training (R349): pending changes take effect, its lanes train. -/
def State.bedRetrain (s : State) (a b : Nat) : State :=
  let s := s.applyChanges a b fun ch => ch.isRetire
  let s := (s.lanesIn a b .data ++ s.lanesIn a b .spare).foldl (fun s i => s.setLane i { s.lane i with state := .training }) s
  let x := s.link a b
  (s.setLink a b { x with state := .train, quick := true, changes := [], nullOnly := [], reqs := [], retrainReq := false,
                          txStream := [], rxStream := [], txCtl := [], retrains := satAdd x.retrains 1 }).readyUpd

/-- A DOWN link: only its counters are kept. -/
def BLink.fresh (x : BLink) : BLink :=
  { BLink.down with everTrained := x.everTrained, corrected := x.corrected, uncorr := x.uncorr,
                    replays := x.replays, retrains := x.retrains, creditTo := x.creditTo }

/-- A link starts a full training (R342): every lane that is not FAILED trains in its own position. -/
def State.bedTrain (s : State) (a b : Nat) : State :=
  let s := (linkLanes a b).zipIdx.foldl (fun s (y : Nat × Nat) =>
    let x := s.lane y.1
    if x.state == .failed then s else s.setLane y.1 { x with state := .training, pos := y.2, tries := 0, after := none, noLock := true, rx := .init }) s
  let x := s.link a b
  (s.setLink a b { x.fresh with state := .train, retrains := if x.everTrained then satAdd x.retrains 1 else x.retrains }).readyUpd

/-- May a DOWN link start its full training (R307, R342, R350)? -/
def State.mayTrain (s : State) (a b : Nat) : Bool :=
  linkExists a b && s.linkDies a b && !s.asleep && (s.link a b).state == .down && s.linkRings a b

/-- Does a MOVE use the link between dies a and b, to a store or to the span die that holds a request of its (R41)? -/
def State.moveUses (s : State) (m : MoveOp) (a b : Nat) : Bool :=
  let uses := fun (ga : Nat) =>
    if !s.isLocal (gaDev ga) then false
    else match s.storeOf (gaDA ga) with
      | some st =>
        let d := if st < 16 && m.die < 4 && m.die ≠ st / 4 then dieW st else if 4 ≤ m.die ∧ m.die < 20 then storeDie st else if st < 16 && m.die = dieW st then m.die else storeDie st
        m.die ≠ d && ((m.die == a && d == b) || (m.die == b && d == a))
      | none => false
  let via := fun (d : Nat) =>
    ((m.die == a && dieS d == b) || (m.die == b && dieS d == a)) &&
      (s.span d).trk.any fun kv => kv.2.use == .busy && kv.2.owner == .move m.id
  uses m.src || uses m.dst || via 0 || via 1

/-- A link becomes DOWN (R349, R350): its retry buffer is discarded, its lanes go dark, one record is raised; a MOVE in flight over it has an
unknown outcome, one that waits is lost. -/
def State.bedDown (s : State) (a b : Nat) : State :=
  let x := s.link a b
  if !linkExists a b || x.state == .down then s
  else
    let s := (linkLanes a b).foldl (fun s i =>
      let l := s.lane i
      if l.state == .failed then s else s.setLane i { l with state := .dark, pos := 0, after := none }) s
    let s := s.setLink a b x.fresh
    let s := { s with moves := s.moves.map fun m => if s.moveUses m a b then { m with status := if s.moveRunning m then 8 else 7 } else m }
    (s.raiseErr 2 0x24 a (a * 256 + b) none 0).readyUpd

/-- Every link of a die becomes DOWN (R349). -/
def State.bedDieDown (s : State) (die : Nat) : State :=
  (allLinks.filter fun l => l.1 == die || l.2 == die).foldl (fun s l => s.bedDown l.1 l.2) s

/-- Every DOWN link of a released die starts its training at once (R350). -/
def State.bedDieUp (s : State) (die : Nat) : State :=
  (allLinks.filter fun l => l.1 == die || l.2 == die).foldl (fun s l => if s.mayTrain l.1 l.2 then s.bedTrain l.1 l.2 else s) s

/-- Every LIVE link is parked (R348, R505). -/
def State.bedPark (s : State) : State :=
  allLinks.foldl (fun s l =>
    let x := s.link l.1 l.2
    if x.state == .live || x.state == .train then
      let s := s.applyChanges l.1 l.2 fun _ => true
      let s := (linkLanes l.1 l.2).foldl (fun s i =>
        let y := s.lane i
        match y.state with
        | .data | .spare | .training => s.setLane i { y with state := .dark }
        | _ => s) s
      s.setLink l.1 l.2 { s.link l.1 l.2 with state := .parked, nullOnly := [], reqs := [], txStream := [], rxStream := [], txCtl := [] }
    else s) s

/-- Every PARKED link takes a quick training (R348). -/
def State.bedUnpark (s : State) : State :=
  allLinks.foldl (fun s l =>
    let x := s.link l.1 l.2
    if x.state == .parked then
      let s := (linkLanes l.1 l.2).foldl (fun s i =>
        let y := s.lane i
        if y.state == .dark then s.setLane i { y with state := .training } else s) s
      s.setLink l.1 l.2 { x with state := .train, quick := true, retrains := satAdd x.retrains 1 }
    else s) s

/-- BED_TRAINING_START (R307, R342). -/
def execBedTrainingStart (src dst : Nat) (s : State) : Host.Outcome State Fault Refusal :=
  .next (if s.mayTrain src dst then s.bedTrain src dst else s)

/-- BED_DOWN_RETRY (R350). -/
def execBedDownRetry (src dst : Nat) (s : State) : Host.Outcome State Fault Refusal :=
  .next (if s.mayTrain src dst then s.bedTrain src dst else s)

/-- Fill the positions that failed data lanes left with trained spares, ascending (R342, R344). -/
def State.fillFrom (s : State) (a b : Nat) : List Nat → State
  | [] => s
  | p :: t =>
    match s.lowestPos (s.lanesIn a b .spare) with
    | some i => State.fillFrom (s.setLane i { s.lane i with state := .data, pos := p }) a b t
    | none => s

/-- A training of the whole link ended: its trained lanes take their positions, or leave where a retirement waited for them. -/
def State.lanesUp (s : State) (a b : Nat) : State :=
  let d := linkWidth a b
  let s := (s.lanesIn a b .training).foldl (fun s i =>
    let x := { s.lane i with tries := 0, noLock := false }
    match x.after with
    | some (cause, planned) => (s.setLane i x).laneOut i cause planned
    | none => s.setLane i { x with state := if x.pos < d then .data else .spare }) s
  let holes := (List.range d).filter fun p => !(s.lanesIn a b .data).any fun i => (s.lane i).pos == p
  s.fillFrom a b holes

/-- BED_TRAINING_DONE (R342): `failed` are the lanes that failed their third attempt. -/
def execBedTrainingDone (src dst : Nat) (failed : List Nat) (s : State) : Host.Outcome State Fault Refusal :=
  .next (let x := s.link src dst
    if x.state != .train || x.quick || !s.linkDies src dst then s
    else
      let s := ((s.lanesIn src dst .training).filter failed.contains).foldl (fun s i => s.laneOut i 5 false) s
      if s.lanesIn src dst .training = [] then s.bedDown src dst
      else
        let s := s.lanesUp src dst
        (s.setLink src dst { x with state := .live, pam4 := true, everTrained := true }).readyUpd)

/-- BED_QUICK_TRAINING_DONE (R342, R346, R349): of the whole link, or of one lane while the link runs. (DESIGN CHOICE, log 34) -/
def execBedQuickTrainingDone (src dst : Nat) (lane : Option Nat) (ok : Bool) (s : State) : Host.Outcome State Fault Refusal :=
  .next (let x := s.link src dst
    match lane with
    | none =>
      if x.state != .train || !x.quick || !s.linkDies src dst then s
      else if ok then
        let s := s.lanesUp src dst
        (s.setLink src dst { x with state := .live, pam4 := true, fails := 0, nakOwed := true, nakSent := true, changes := [] }).readyUpd
      else if x.fails + 1 ≥ 3 then s.bedDown src dst
      else s.setLink src dst { x with fails := x.fails + 1 }
    | some i =>
      let y := s.lane i
      if !(linkLanes src dst).contains i || x.state != .live || !(y.state == .training || (y.state == .retired && y.cause ≠ 2)) || !s.laneRings i then s
      else if ok then s.laneBack i
      else if y.tries + 1 ≥ 3 then s.laneOut i 5 false
      else s.setLane i { y with tries := y.tries + 1 })

/-- LANE_RETRAIN_WAIT_END (R346): the second after a retirement under cause 2 is over. -/
def execLaneRetrainWaitEnd (lane : Nat) (s : State) : Host.Outcome State Fault Refusal :=
  let x := s.lane lane
  .next (if x.state == .retired && x.cause == 2 && s.laneRings lane then s.setLane lane { x with state := .training } else s)

/-- A training block on a lane (R332, R342): its receiver checks that source, bus and line match the map; a mismatch is a failed attempt. -/
def State.bedIdent (s : State) (lane : Nat) (ts : BedTs) : State :=
  let x := s.lane lane
  match laneInfo lane with
  | none => s
  | some (a, _, _) =>
    if x.state != .training then s
    else if ts.src = a && (busesOf a).1 + ts.bus = lane / 64 && ts.line = lane % 64 then s
    else if x.tries + 1 ≥ 3 then s.laneOut lane 5 false
    else s.setLane lane { x with tries := x.tries + 1 }

/-- The fields of a TS1 or TS2 (R332). -/
def bedTsOf (b : List Byte) : BedTs :=
  { src := bfld b 1 1, bus := bfld b 2 1, line := bfld b 3 1, position := bfld b 4 1, rate := bfld b 5 1, step := bfld b 6 1 }

/-- A TS2: a step completed with the lane's identity; with rate PAM4 the lane runs at 56 GBd. -/
def State.bedStepDone (s : State) (lane : Nat) (ts : BedTs) : State :=
  match laneInfo lane with
  | none => s
  | some (a, b, _) =>
    let x := s.link a b
    if x.state == .train && ts.src = a && (busesOf a).1 + ts.bus = lane / 64 && ts.line = lane % 64 && ts.rate = 1 &&
        (s.lane lane).state == .training then s.setLink a b { x with pam4 := true }
    else s

/-- Blocks that arrive on a lane in training (R326, R329, R330): block lock and codeword phase are sought, and each training block that a
corrected codeword brings is acted on. -/
def State.bedTs (s : State) (lane : Nat) (blocks : List (BitVec 258)) : State :=
  if (s.lane lane).state != .training then s
  else
    let (x, ctl) := (s.lane lane).train blocks
    ctl.foldl (fun s b =>
      if bfld b 0 1 = 0x33 then s.bedIdent lane (bedTsOf b)
      else if bfld b 0 1 = 0x4B then (s.bedIdent lane (bedTsOf b)).bedStepDone lane (bedTsOf b)
      else s) (s.setLane lane x)

/-- BED_TS1. -/
def execBedTs1 (lane : Nat) (blocks : List (BitVec 258)) (s : State) : Host.Outcome State Fault Refusal := .next (s.bedTs lane blocks)

/-- BED_TS2. -/
def execBedTs2 (lane : Nat) (blocks : List (BitVec 258)) (s : State) : Host.Outcome State Fault Refusal := .next (s.bedTs lane blocks)

/-! ### Flits (R334 to R338) -/

/-- The units a receiver holds (R338). -/
def bedUnits (a b : Nat) : Nat := max (24 * linkWidth a b) 256

/-- The flit with CRC computed (R334). -/
def flitBytes (lo hi48 : Nat) (payload : List Byte) : List Byte :=
  let h := toBytesLE 4 lo ++ toBytesLE 2 hi48
  let c := (crc16 (h ++ [0, 0] ++ padTo 64 payload)).toNat
  h ++ toBytesLE 2 c ++ padTo 64 payload

/-- Send a flit on link a → b: it carries the state of the reverse link's receiver at a (R334, R335): the number expected, a NAK, the units
drained from one pool. -/
def State.sendFlit (s : State) (a b vc seq : Nat) (first null shared : Bool) (payload : List Byte) : State :=
  let r := s.link b a
  let owed := r.rxBuf.foldl (fun t f => let k := if f.shared then 8 else f.vc; tset 0 t k (tget 0 t k + 1)) r.owed
  let (pool, units) := match owed with
    | [] => (0, 0)
    | (k, n) :: _ => (k, min n 1023)
  let s := s.setLink b a { r with rxBuf := [], owed := tset 0 owed pool (tget 0 owed pool - units), nakOwed := false }
  let lo := vc + first.toNat * 8 + null.toNat * 16 + shared.toNat * 32 + seq * 256 + r.rxSeq * 2 ^ 20
  let hi := r.nakOwed.toNat + pool * 4 + units * 64
  let f := flitBytes lo hi payload
  let x := s.link a b
  (s.setLink a b { x with txStream := x.txStream ++ f }).emit (.flit a b seq vc first f)

/-- Does a link's sender hold a credit for a VC: of the VC's own pool, or of the shared one (R338)? -/
def State.bedCredit (s : State) (a b vc : Nat) : Bool :=
  let u := (s.link a b).used
  decide (tget 0 u vc < 8) || decide (tget 0 u 8 < bedUnits a b - 64)

/-- Is it the turn of source `src` among the sources that hold data and a credit, round-robin after the one that sent last (R36)? -/
def myTurn (last src : Nat) (others : List Nat) : Bool :=
  if src > last then others.all fun o => decide (o ≤ last ∨ src ≤ o) else others.all fun o => decide (o ≤ last ∧ src ≤ o)

/-- FLIT_SEND (R36, R335, R338): with no payload, a null flit; else a numbered flit of a source whose turn it is, within the window and the
credits, held in the retry buffer. `ready` are the sources that hold data, each with its VC. (DESIGN CHOICE, log 34) -/
def execFlitSend (src dst vc : Nat) (first : Bool) (payload : List Byte) (source : Nat) (ready : List (Nat × Nat)) (s : State) :
    Host.Outcome State Fault Refusal :=
  let x := s.link src dst
  .next (if x.state != .live || !s.linkDies src dst then s
    else if payload = [] then s.sendFlit src dst 0 0 false true false []
    else
      let shared := decide (tget 0 x.used vc ≥ 8)
      let pool := if shared then 8 else vc
      if vc ≥ 8 || payload.length > 64 || x.nullOnly ≠ [] || s.bedWidth src dst = 0 || x.retry.length ≥ 2047 || !s.bedCredit src dst vc ||
          !myTurn x.lastSrc source ((ready.filter fun y => s.bedCredit src dst y.2).map (·.1)) then s
      else
        let f : RFlit := { seq := x.txSeq, vc, shared, first, payload := padTo 64 payload }
        (s.setLink src dst { x with txSeq := (x.txSeq + 1) % 4096, retry := x.retry ++ [f], lastSrc := source,
                                    used := tset 0 x.used pool (tget 0 x.used pool + 1) }).sendFlit
          src dst vc f.seq first false shared f.payload)

/-- What a flit carries back to the sender of link b → a: acknowledgement, a NAK that starts a replay, credits (R335, R338). -/
def State.flitBack (s : State) (b a ack : Nat) (nak : Bool) (pool units : Nat) : State :=
  let x := s.link b a
  let retry := x.retry.filter fun f => decide ((f.seq + 4096 - ack) % 4096 < 2048)
  let s := s.setLink b a { x with retry, used := tset 0 x.used pool (tget 0 x.used pool - units) }
  if nak && retry ≠ [] then
    let x := s.link b a
    retry.foldl (fun s f => s.sendFlit b a f.vc f.seq f.first false f.shared f.payload) (s.setLink b a { x with replays := satAdd x.replays 1 })
  else s

/-- A flit of link a → b arrives (R335): one with a bad CRC, or not the one expected, is discarded with one NAK per failure; an accepted
one waits in its VC's buffer. -/
def State.takeFlit (s : State) (a b : Nat) (flit : List Byte) : State :=
  let x := s.link a b
  let f := padTo 72 flit
  let fail := fun (s : State) => if x.nakSent then s else s.setLink a b { x with nakSent := true, nakOwed := true }
  if !(flit.length == 72 && (crc16 (f.take 6 ++ [0, 0] ++ f.drop 8)).toNat == bfld f 6 2) then fail s
  else
    let lo := bfld f 0 4
    let hi := bfld f 4 2
    let back := fun (s : State) => s.flitBack b a (lo / 2 ^ 20) (hi % 2 == 1) (hi / 4 % 16) (hi / 64)
    if lo / 16 % 2 = 1 then back s
    else if lo / 256 % 4096 ≠ x.rxSeq then back (fail s)
    else
      let r : RFlit := { seq := x.rxSeq, vc := lo % 8, shared := lo / 32 % 2 == 1, first := lo / 8 % 2 == 1, payload := f.drop 8 }
      back (s.setLink a b { x with rxSeq := (x.rxSeq + 1) % 4096, nakSent := false, nakOwed := false, rxBuf := x.rxBuf ++ [r] })

/-! ### Codeword periods (R329 to R334) -/

/-- The lanes of a link that carry its stream, by position: those in service, or in training while the link trains. -/
def State.serving (s : State) (a b : Nat) : List Nat :=
  let ls := s.lanesIn a b (if (s.link a b).state == .train then .training else .data)
  (List.range (linkLanes a b).length).filterMap fun p => ls.find? fun i => (s.lane i).pos == p

/-- One lane's codeword of a period: headers seen, lock kept or lost, corrected and descrambled. A lane with no codeword brings zeros. -/
def BLane.receive (x : BLane) (w : Nat) : BLane × Codeword :=
  let (rx, c) := ((x.rx.header (w / 2 ^ 258)).header w).codeword w
  let noLock := rx.noLock x.noLock
  ({ x with rx, noLock }, if noLock then { fixed := 0, bad := false, ctl := false, payA := zeros 32, payB := zeros 29 } else c)

/-- What a codeword period brought a link: the state with the lanes' receivers and the counters, whether every lane in service lost block
lock, the control block if the period has one, and the flits completed. -/
structure Period where
  st : State
  lost : Bool
  ctl : Option (CtlRx × List Byte)
  flits : List (List Byte)
deriving DecidableEq, Repr

/-- What the copies of a period's control block came to (R332): it stands where the corrected codewords that carry one agree. -/
def ctlOf (cs : List Codeword) : Option (CtlRx × List Byte) :=
  match cs.filter fun c => c.ctl && !c.bad with
  | [] => if cs.any fun c => c.ctl && !cs.any fun c => !c.ctl && !c.bad then some (.failed, []) else none
  | c :: t => if t.all fun d => d.payA == c.payA then some (.good, c.payA) else some (.disagree, [])

/-- A codeword period arrives on link a → b (R329 to R334): `words` are the codewords on its lanes as received. -/
def State.period (s : State) (a b : Nat) (words : List (Nat × BitVec 516)) : Period :=
  let ls := s.serving a b
  let word := fun i => ((words.lookup i).map (·.toNat)).getD 0
  let got := fun i => (s.lane i).receive (word i)
  let t := (ls ++ s.lanesIn a b .spare).foldl (fun t i => t.setLane i (got i).1) s
  let cs := ls.map fun i => (got i).2
  let all := (ls ++ s.lanesIn a b .spare).map fun i => (got i).2
  let ctl := ctlOf cs
  let x := s.link a b
  let dis := match ctl with | some (.disagree, _) => 1 | _ => 0
  let x := { x with corrected := satAdd x.corrected (all.foldl (fun n (c : Codeword) => n + c.fixed) 0),
                    uncorr := satAdd x.uncorr ((all.filter Codeword.bad).length + dis) }
  let bytes := if ctl.isSome then destripe 29 (cs.map (·.payB)) else destripe 61 (cs.map fun c => c.payA ++ c.payB)
  let (flits, rest) := if x.state == .train then ([], []) else cutFlits (x.rxStream.length + bytes.length) (x.rxStream ++ bytes)
  { st := t.setLink a b { x with rxStream := rest }, lost := ls ≠ [] && ls.all fun i => (t.lane i).noLock, ctl, flits }

/-! ### Control blocks (R332, R333, R344, R345) -/

/-- ALIGN: the codeword count of the link. -/
def State.bedAlign (s : State) (a b count : Nat) : State :=
  if count % 4096 = 0 then s.setLink a b { s.link a b with count := count % 2 ^ 32 } else s

/-- RETIRE: of two boundaries for one position the earlier applies; it answers a REQ_RETIRE. -/
def State.bedRetire (s : State) (a b pos c : Nat) (planned : Bool) : State :=
  let x := s.link a b
  let cause := ((x.reqs.find? fun r => r.1 == pos).map (·.2)).getD 0
  let changes := if x.retiring pos then
      x.changes.map fun ch => match ch with
        | .retire q d k pl => if q = pos && reached d c then .retire q c k pl else .retire q d k pl
        | y => y
    else x.changes ++ [.retire pos c cause planned]
  s.setLink a b { x with changes, reqs := x.reqs.filter fun r => r.1 ≠ pos }

/-- ADMIT. -/
def State.bedAdmit (s : State) (a b pos c admitted : Nat) : State :=
  let x := s.link a b
  if x.filling pos then s
  else
    match (s.lanesIn a b .spare).find? fun i => (s.lane i).pos == admitted with
    | some i => s.setLink a b { x with changes := x.changes ++ [.join pos c i] }
    | none => s

/-- REQ_RETIRE: it comes on the reverse link, and the sender of a → b retires the position (R344). -/
def State.bedReqRetire (s : State) (a b pos cause : Nat) : State :=
  if (s.link a b).state != .live then s
  else
    match s.laneAtPos a b pos with
    | some i => s.retireLane i cause false
    | none => s

/-- A control block of link a → b whose good copies agree (R332). -/
def State.bedControl (s : State) (a b : Nat) (p : List Byte) : State :=
  let live := (s.link a b).state == .live
  match bfld p 0 1 with
  | 0x2D => s.bedAlign a b (bfld p 4 4)
  | 0x55 => if live then s.bedRetire a b (bfld p 2 2) (bfld p 4 4) (bfld p 8 1 % 2 == 1) else s
  | 0x66 => if live then s.bedAdmit a b (bfld p 2 2) (bfld p 4 4) (bfld p 8 2) else s
  | 0x78 => if live then s.bedReqRetire b a (bfld p 2 2) (bfld p 4 1) else s
  | _ => s

/-- A codeword period of a LIVE link, or of one that trains, is acted on: a link none of whose lanes holds block lock retrains (R349); else
its control block, then its flits. -/
def State.bedPeriod (s : State) (a b : Nat) (words : List (Nat × BitVec 516)) : State :=
  let st := (s.link a b).state
  if !(st == .live || st == .train) || !s.linkDies a b then s
  else
    let p := s.period a b words
    if p.lost && st == .live then p.st.bedRetrain a b
    else
      let t := match p.ctl with
        | some (.good, c) => p.st.bedControl a b c
        | _ => p.st
      p.flits.foldl (fun t f => t.takeFlit a b f) t

/-- FLIT_RECEIVE (R329 to R331, R335). -/
def execFlitReceive (src dst : Nat) (words : List (Nat × BitVec 516)) (s : State) : Host.Outcome State Fault Refusal :=
  .next (s.bedPeriod src dst words)

/-- BED_ALIGN. -/
def execBedAlign (src dst : Nat) (words : List (Nat × BitVec 516)) (s : State) : Host.Outcome State Fault Refusal :=
  .next (s.bedPeriod src dst words)

/-- BED_RETIRE. -/
def execBedRetire (src dst : Nat) (words : List (Nat × BitVec 516)) (s : State) : Host.Outcome State Fault Refusal :=
  .next (s.bedPeriod src dst words)

/-- BED_ADMIT. -/
def execBedAdmit (src dst : Nat) (words : List (Nat × BitVec 516)) (s : State) : Host.Outcome State Fault Refusal :=
  .next (s.bedPeriod src dst words)

/-- BED_REQ_RETIRE: a request of the receiver of the reverse link (R332). -/
def execBedReqRetire (src dst : Nat) (words : List (Nat × BitVec 516)) (s : State) : Host.Outcome State Fault Refusal :=
  .next (s.bedPeriod src dst words)

/-- Send one codeword period of a link (R326, R330 to R334, R346): an ALIGN at each count that is a multiple of 4,096, else a control block
that waits; the stream, filled with null flits; IDLE and zeros on the ready spares. (DEDUCED, log 61) -/
def State.sendPeriod (s : State) (a b : Nat) : State :=
  let x := s.link a b
  let ls := s.serving a b
  let d := ls.length
  let align := decide (x.count % 4096 = 0)
  let ctl : Option (List Byte) := if align then some ([0x2D, 0, 0, 0] ++ toBytesLE 4 x.count) else x.txCtl.head?
  let k := if ctl.isSome then 29 else 61
  let null := flitBytes (16 + (s.link b a).rxSeq * 2 ^ 20) 0 []
  let bs := x.txStream ++ (List.replicate ((k * d - x.txStream.length + 71) / 72) null).flatten
  let sent := (List.zip ls (stripe d k bs)).map fun y =>
    let i := y.1
    let (h, w) := match ctl with
      | some c => sendCodeword (s.lane i).tx true c y.2
      | none => sendCodeword (s.lane i).tx false (y.2.take 32) (y.2.drop 32)
    (i, h, w)
  let idle := (s.lanesIn a b .spare).map fun i => let (h, w) := sendCodeword (s.lane i).tx true [0x1E] []; (i, h, w)
  let t := (sent ++ idle).foldl (fun t y => t.setLane y.1 { t.lane y.1 with tx := y.2.1 }) s
  (t.setLink a b { x with txStream := bs.drop (k * d), txCtl := if align then x.txCtl else x.txCtl.drop 1, count := (x.count + 1) % 2 ^ 32 }).emit
    (.line a b ((sent ++ idle).map fun y => (y.1, y.2.2)))

/-- A LIVE link with lanes in service, and something to put on the line. -/
def State.linkBusy (s : State) (k : Nat) : Bool :=
  let x := s.link (k / 32) (k % 32)
  x.state == .live && (x.txStream ≠ [] || x.txCtl ≠ []) && s.linkDies (k / 32) (k % 32) && decide (0 < s.bedWidth (k / 32) (k % 32))

/-- BED_BOUNDARY: the count reached c; the changes due take effect on every lane at once. -/
def execBedBoundary (src dst c : Nat) (s : State) : Host.Outcome State Fault Refusal :=
  let x := s.link src dst
  .next (if x.state != .live || !s.linkDies src dst then s
    else (s.setLink src dst { x with count := c % 2 ^ 32 }).applyChanges src dst fun ch => reached c ch.at)

/-! ### Faults -/

/-- BED_CREDIT_TIMEOUT (R339). -/
def execBedCreditTimeout (src dst : Nat) (s : State) : Host.Outcome State Fault Refusal :=
  let x := s.link src dst
  .next (if x.state != .live || s.bedWidth src dst = 0 || !s.linkDies src dst then s
    else (s.setLink src dst { x with creditTo := satAdd x.creditTo 1 }).bedRetrain src dst)

/-- BED_LANE_ERROR_LIMIT (R343 cause 2): the receiver asks for the lane's retirement. -/
def execBedLaneErrorLimit (lane : Nat) (s : State) : Host.Outcome State Fault Refusal :=
  .next (match (s.lane lane).state with
    | .data | .spare => s.askRetire lane 2
    | _ => s)

/-- BED_REQ_RETIRE_TIMEOUT (R345): the link retrains. -/
def execBedReqRetireTimeout (src dst : Nat) (s : State) : Host.Outcome State Fault Refusal :=
  let x := s.link src dst
  .next (if x.state != .live || x.reqs = [] || !s.linkDies src dst then s
    else
      let s := x.reqs.foldl (fun s r => match s.laneAtPos src dst r.1 with | some i => s.laneOut i r.2 false | none => s) s
      s.bedRetrain src dst)

/-! ### Registers (R351 to R355) -/

/-- The selected link. -/
def State.bedSel (s : State) : Nat × Nat := (s.rf Reg.BED_LINK_SEL 0 5, s.rf Reg.BED_LINK_SEL 8 5)

/-- BED_LINK_STATUS. -/
def State.bedLinkStatus (s : State) : Word :=
  let (a, b) := s.bedSel
  if !linkExists a b then 0
  else
    let x := s.link a b
    let st := match x.state with | .down => 0 | .train => 1 | .live => 2 | .parked => 3
    let d := linkWidth a b
    let spares := (linkLanes a b).drop d
    BitVec.ofNat 32 (st + x.pam4.toNat * 4 + s.bedWidth a b * 16 + d * 2 ^ 11 + (s.lanesIn a b .spare).length * 2 ^ 18 +
      (spares.filter fun i => (s.lane i).state != .failed).length * 2 ^ 22)

/-- BED_LINK_CTL. -/
def State.bedLinkCtl (s : State) : Word := let (a, b) := s.bedSel; BitVec.ofNat 32 (linkExists a b && (s.link a b).retrainReq).toNat

/-- The counters of the selected link (R355). -/
def State.bedCounter (s : State) (f : BLink → Word) : Word := let (a, b) := s.bedSel; if linkExists a b then f (s.link a b) else 0

/-- A write of BED_LINK_CTL (R349, R352). -/
def State.wBedLinkCtl (s : State) (o : Origin) (dev : Nat) (v : Word) : State :=
  s.gate o dev Reg.BED_LINK_CTL v s.bedLinkCtl none fun s _ =>
    let (a, b) := s.bedSel
    if !v.bit 0 || !linkExists a b then s
    else if (s.link a b).state == .live && s.linkDies a b then s.bedRetrain a b
    else s.setLink a b { s.link a b with retrainReq := true }

/-- BED_LANE_STATUS. -/
def State.bedLaneStatus (s : State) : Word :=
  let i := s.rf Reg.BED_LANE_SEL 0 12
  let x := s.lane i
  let st := match x.state with | .data => 0 | .spare => 1 | .retired => 2 | .training => 3 | .failed => 4 | .dark => 5
  BitVec.ofNat 32 (st + x.pos * 8 + x.cause * 2 ^ 10 + x.planned.toNat * 2 ^ 13)

/-- A write of BED_LANE_CTL (R354): both bits together retire alone. -/
def State.wBedLaneCtl (s : State) (o : Origin) (dev : Nat) (v : Word) : State :=
  s.gate o dev Reg.BED_LANE_CTL v 0 none fun s _ =>
    let i := s.rf Reg.BED_LANE_SEL 0 12
    if v.bit 0 then s.retireLane i 6 false
    else if v.bit 1 && (s.lane i).state == .retired then s.setLane i { s.lane i with state := .training }
    else s

/-- BED_LINK_RETRAIN. -/
def execBedLinkRetrain (o : Origin) (v : Word) (s : State) : Host.Outcome State Fault Refusal := .next (s.wBedLinkCtl o 0 v)

/-- BED_LANE_RETIRE. -/
def execBedLaneRetire (o : Origin) (v : Word) (s : State) : Host.Outcome State Fault Refusal := .next (s.wBedLaneCtl o 0 v)

/-- BED_LANE_READMIT. -/
def execBedLaneReadmit (o : Origin) (v : Word) (s : State) : Host.Outcome State Fault Refusal := .next (s.wBedLaneCtl o 0 v)

/-! ### Lanes of a line (R293, R297) -/

/-- The Spring that feeds a bus (R30). -/
def busSpring (bus : Nat) : Nat :=
  let d := busDie bus
  if d < 2 || d = 20 || d = 22 || (decide (4 ≤ d) && decide (d < 12)) then 0 else 1

/-- The Bed lanes on line k that a Spring feeds. -/
def springLanes (sp k : Nat) : List Nat := ((List.range 60).filter fun b => busSpring b == sp).map fun b => 64 * b + k

/-- A lane's planned retirement takes effect, whatever its boundary (R293: every lane has left by Ts). -/
def State.laneLeaves (s : State) (i : Nat) : State :=
  match laneInfo i with
  | none => s
  | some (a, b, _) =>
    let p := (s.lane i).pos
    if (s.lane i).state == .data then
      s.applyChanges a b fun ch => match ch with | .retire q _ k _ => q == p && k == 3 | .join q _ _ => q == p
    else s

/-- A lane that left for a handover returns (R293, R347). -/
def State.laneReturns (s : State) (i : Nat) : State :=
  match laneInfo i with
  | none => s
  | some (a, b, _) =>
    let x := s.lane i
    if x.state == .retired && x.cause == 3 && (s.link a b).state == .live then
      let s := s.laneBack i
      s.applyChanges a b fun ch => match ch with | .join _ _ l => l == i | _ => false
    else if x.state == .training && (match x.after with | some (3, _) => true | _ => false) then s.setLane i { x with after := none }
    else s

end Sys2Proof.Machine
end

