-- ==== Sys2Proof/Machine/Confluence.lean ====
section
/-! DEFINITION. The Confluence units (R120, R123, R250 to R281): OPROJ and BOUND, jobs in light and on the digital fallback, weight
sets and their commit, boundaries, the rotation, the heater drives, the lock of the bank, the modes. -/

namespace Sys2Proof.Machine

/-- Unit t. -/
def State.cu (s : State) (t : Nat) : Cu := tget .reset s.cus t

/-- Put back unit t. -/
def State.setCu (s : State) (t : Nat) (u : Cu) : State := { s with cus := tset .reset s.cus t u }

/-! ### What a vector computes (R252 to R255) -/

/-- The elements of an input vector. -/
def cuElems (fmt : Nat) (bs : List Byte) : List FV :=
  if fmt = 0 then (elemsOf 2 64 bs).map bf16.dec
  else if fmt = 1 then bs.map fun b => e4m3.dec b.toNat
  else bs.map fun b => decInt 8 b.toNat

/-- The exponent of the power-of-two scale (R252): the smallest x with amax ÷ 2^x below 63.5; 0 where every finite element is 0. -/
def cuScale (vs : List FV) : Int :=
  let top := vs.foldl (fun (a : Nat × Int) v => match v with | .fin _ m e => if magGt m e a.1 a.2 then (m, e) else a | _ => a) (0, 0)
  if top.1 = 0 then 0
  else
    let x := floorLog2 top.1 top.2 - 5
    -- amax ÷ 2^x lies in [32, 64)
    if magGt 127 (x - 1) top.1 top.2 then x else x + 1

/-- A 6-bit magnitude with its sign (R252). -/
def cuQuant (x : Int) : FV → Int
  | .fin n m e => sgnMant n (roundInt .rne m (e - x))
  | .inf n => if n then -63 else 63
  | .nan => 0

/-- Does an element set status bit [2]? -/
def cuSat : FV → Bool
  | .fin .. => false
  | _ => true

/-- A weight of the active set, −127 to 127. -/
def WSet.weight (w : WSet) (i j : Nat) : Int := toSigned 8 (tget 0 w.w (64 * i + j)).toNat

/-- The integer dot of a row (R253). (DESIGN CHOICE, log 36) -/
def WSet.dot (w : WSet) (i : Nat) (u : List Int) : Int :=
  (u.zipIdx.map fun p => w.weight i p.2 * p.1).foldl (· + ·) 0

/-- The full scale of a row, as a numerator over 2^g (R253). -/
def WSet.fsNum (w : WSet) (i : Nat) : Nat := 63 * ((List.range 64).map fun j => (w.weight i j).natAbs).foldl (· + ·) 0

/-- Clip a row value, a multiple of 2^−20, to the full scale: the value and whether it was clipped. (DESIGN CHOICE, log 36) -/
def WSet.clip (w : WSet) (i : Nat) (y20 : Int) : Int × Bool :=
  let fs : Int := w.fsNum i * 2 ^ 20 / 2 ^ w.gain
  if y20 > fs then (fs, true) else if y20 < -fs then (-fs, true) else (y20, false)

/-- The value of an output (R254): r(i) × 2^x × y ÷ 127, rounded once. -/
def cuValue (f : FpFmt) (r : Word) (x : Int) (y20 : Int) : Nat :=
  f.enc .rne ((((fp32.dec r.toNat).mul (.fin (decide (y20 < 0)) y20.natAbs (-20))).scale x).div (.fin false 127 0))

/-- The bytes of one vector's outputs. -/
def cuOut (mode : Nat) (w : WSet) (x : Int) (ys : List Int) : List Byte :=
  if mode = 0 then
    toBytesLE 32 ((ys.zipIdx.map fun p => if p.1 > 0 then 2 ^ p.2 else 0).foldl (· + ·) 0)
  else if mode = 1 then ys.zipIdx.flatMap fun p => toBytesLE 2 (cuValue bf16 (tget 0 w.scales p.2) x p.1)
  else ys.zipIdx.flatMap fun p => toBytesLE 4 (cuValue fp32 (tget 0 w.scales p.2) x p.1)

/-- Twice the effective bits of the integration depth 2^c (R255). -/
def cuBits2 (c : Nat) : Nat := min 16 (9 + c)

/-- Does the noise `e` of one more output of row i, in units of 2^−20, keep within the rms of R255 over the `n` outputs of the row in the job?
`used` is the sum of the squares of the outputs before it. (DESIGN CHOICE, log 36) -/
def WSet.noiseOk (w : WSet) (i c n used : Nat) (e : Int) : Bool :=
  decide (3 * 2 ^ (cuBits2 c + 2 * w.gain) * (used + e.natAbs ^ 2) ≤ n * w.fsNum i ^ 2 * 2 ^ 40)

/-- What one vector comes to: its output bytes, its status byte, whether it is valid, how many outputs were clipped, and each row's sum of
the squares of its noise in the job so far. -/
structure CuVec where
  out : List Byte
  status : Nat
  valid : Bool
  clips : Nat
  used : List Nat
deriving DecidableEq, Repr

/-- One vector of a job of `n` vectors at the integration depth 2^c (R252 to R255, R272, R275). `optical`: computed in light, where a row value is
the exact dot with a free noise within R255; `tagOk`: the job's tag is the active one; `lockOk`: the bank stayed locked. The row values of
an invalid vector are free, and are clipped and counted all the same. (DESIGN CHOICE, log 36) -/
def State.cuVec (s : State) (vw : View) (w : WSet) (optical tagOk : Bool) (lockOk : Bool) (c n fmt mode : Nat) (da : Nat) (used : List Nat) : CuVec :=
  let len := cuInBytes fmt
  let vs := cuElems fmt (s.readPE vw da len)
  let zero := vs.all FV.isZero
  let x := cuScale vs
  let u := vs.map (cuQuant x)
  let sat := vs.any cuSat
  let okIn := tagOk && !s.poisonRange da len
  let valid := okIn && (zero || !optical || lockOk)
  let st := valid.toNat + 2 * (!optical).toNat + 4 * sat.toNat
  if !valid && w.tag = 0 then
    { out := (List.range (cuOutBytes mode)).map fun i => BitVec.ofNat 8 (s.freeAt i), status := st, valid, clips := 0, used }
  else if valid && zero then { out := zeros (cuOutBytes mode), status := st, valid, clips := 0, used }
  else
    let raw : List (Int × Nat) := (List.range 256).map fun i =>
      let f := toSigned 64 (s.freeAt i)
      let before := used.getD i 0
      if !valid then (f, before)
      else
        let e := if optical && w.noiseOk i c n before f then f else 0
        (w.dot i u * 2 ^ 20 + e, before + e.natAbs ^ 2)
    let cl := raw.zipIdx.map fun p => w.clip p.2 p.1.1
    { out := cuOut mode w (if okIn then x else toSigned 16 (s.freeAt 256)) (cl.map (·.1)), status := st, valid,
      clips := (cl.filter (·.2)).length, used := raw.map (·.2) }

/-! ### Rows (R251, R264, R267) -/

/-- Healthy physical rows. -/
def Cu.healthy (u : Cu) : Nat := 272 - u.badRows.length

/-- The physical row that serves a logical row. -/
def Cu.phys (u : Cu) (i : Nat) : Nat := tget i u.rowMap i

/-- The logical row that a physical row serves. -/
def Cu.serves? (u : Cu) (p : Nat) : Option Nat := (List.range 256).find? fun i => u.phys i == p

/-- Unhealthy? -/
def Cu.bad (u : Cu) (p : Nat) : Bool := u.badRows.contains p

/-- An idle healthy spare row: not in service, not under calibration; the row under calibration where no other is left. -/
def Cu.spareRow (u : Cu) : Option Nat :=
  match (List.range 272).find? fun p => p ≠ u.calRow && !u.bad p && (u.serves? p).isNone with
  | some p => some p
  | none => if u.bad u.calRow || (u.serves? u.calRow).isSome then none else some u.calRow

/-- The next healthy row in rotation order after the one under calibration. -/
def Cu.nextRow (u : Cu) : Option Nat := ((List.range 271).map fun i => (u.calRow + 1 + i) % 272).find? fun p => !u.bad p

/-- Every logical row on a healthy physical row, as far as spares go, and a healthy idle row under calibration (R251). (DESIGN CHOICE, log 63) -/
def Cu.mend (u : Cu) : Cu :=
  let u := ((List.range 256).filter fun i => u.bad (u.phys i)).foldl (fun (u : Cu) i =>
    match u.spareRow with
    | some p => { u with rowMap := tset i u.rowMap i p }
    | none => u) u
  if u.bad u.calRow || (u.serves? u.calRow).isSome then
    match (List.range 272).find? fun p => !u.bad p && (u.serves? p).isNone with
    | some p => { u with calRow := p }
    | none => u
  else u

/-! ### Rings and their drives (R266, R299, R308) -/

/-- A ring. -/
def State.ring (s : State) (i : Nat) : Ring := tget .off s.optics.rings i

/-- Put back a ring. -/
def State.setRing (s : State) (i : Nat) (r : Ring) : State := { s with optics := { s.optics with rings := tset .off s.optics.rings i r } }

/-- The heater code of a ring: the one its loop set, else the one its bring-up found. (DESIGN CHOICE, log 35) -/
def State.ringCode (s : State) (i : Nat) : Nat := (s.ring i).code.getD (Config.free (s.optics.base + i) % 4096)

/-- The corrections of a ring, bytes 2 to 5 of its record. (DESIGN CHOICE, log 35) -/
def State.ringCorr (s : State) (i : Nat) : Nat := (s.ring i).corr.getD (Config.free (s.optics.base + 80000 + i) % 2 ^ 32)

/-- A crosstalk byte of R308. (DESIGN CHOICE, log 35) -/
def State.xtalkByte (s : State) (i : Nat) : Byte := (tget none s.optics.xtalk i).getD (BitVec.ofNat 8 (Config.free (s.optics.base + 160000 + i)))

/-- The gain and offset corrections of a physical row, by 272 × unit + row. (DESIGN CHOICE, log 35) -/
def State.rowCorr (s : State) (i : Nat) : Nat := (tget none s.optics.rowRecs i).getD (Config.free (s.optics.base + 718000 + i) % 2 ^ 40)

/-- Weight ring q of a unit, q = 64 × physical row + column, among all rings. -/
def wring (t q : Nat) : Nat := 8768 + 17472 * t + q

/-- The k-th neighbour of a weight ring in the order of R308: at −2, −1, +1, +2 along its row, then along its column. -/
def bankNbr (q k : Nat) : Option Nat :=
  let d : Int := [-2, -1, 1, 2].getD (k % 4) 0
  let j := (q % 64 : Int) + (if k < 4 then d else 0)
  let p := (q / 64 : Int) + (if k < 4 then 0 else d)
  if 0 ≤ j && j < 64 && 0 ≤ p && p < 272 then some (64 * p.toNat + j.toNat) else none

/-- n Jacobi sweeps of C × h = d (R266), as multiples of 2,000^−n: C has ones on its diagonal and ring q's crosstalk bytes, units of
0.05%, in row q. (DESIGN CHOICE, log 63) -/
def State.jacobi (s : State) (t : Nat) (d : Nat → Int) : Nat → Nat → Int
  | 0, q => d q
  | n + 1, q =>
    d q * 2000 ^ (n + 1) - ((List.range 8).map fun k =>
      match bankNbr q k with
      | some r => toSigned 8 (s.xtalkByte ((17408 * t + q) * 8 + k)).toNat * State.jacobi s t d n r
      | none => 0).foldl (· + ·) 0

/-- The heater drive that three sweeps give a ring, rounded to a whole code. (DESIGN CHOICE, log 63) -/
def State.drive (s : State) (t : Nat) (d : Nat → Int) (q : Nat) : Int := (2 * s.jacobi t d 3 q + 2000 ^ 3) / (2 * 2000 ^ 3)

/-- A heater code within its 12 bits (R299). -/
def clampCode (c : Int) : Nat := (max 0 (min 4095 c)).toNat

/-- The logical row whose weights a physical row holds: the one it serves; for the row under calibration the one it takes over next (R264). -/
def Cu.rowFor (u : Cu) (p : Nat) : Option Nat :=
  if p = u.calRow then (match u.nextRow with | some q => u.serves? q | none => none) else u.serves? p

/-- The wanted shift of a weight ring under a weight set; an idle row is driven as weight 0. (DESIGN CHOICE, log 63) -/
def State.wanted (s : State) (t : Nat) (w : WSet) (q : Nat) : Int :=
  let v := match (s.cu t).rowFor (q / 64) with | some i => w.weight i (q % 64) | none => 0
  Config.weightShift (17408 * t + q) v (s.ringCorr (wring t q)) (s.rowCorr (272 * t + q / 64))

/-- The drives of every row under a weight set (R262, R266). -/
def State.drivesFor (s : State) (t : Nat) (w : WSet) : List Nat :=
  (List.range 17408).map fun q => clampCode (s.drive t (s.wanted t w) q)

/-- Drives are applied to the rows that `rows` picks. -/
def State.setCodes (s : State) (t : Nat) (rows : Nat → Bool) (cs : List Nat) : State :=
  (cs.zipIdx.filter fun c => rows (c.2 / 64)).foldl (fun s c => s.setRing (wring t c.2) { s.ring (wring t c.2) with code := some c.1 }) s

/-- Wanted shifts change by `d`: the codes of the rings and of those that couple to them follow (R266). -/
def State.addDrives (s : State) (t : Nat) (d : Nat → Int) : State :=
  ((List.range 17408).filter fun q => s.drive t d q ≠ 0).foldl (fun x q =>
    x.setRing (wring t q) { x.ring (wring t q) with code := some (clampCode (s.ringCode (wring t q) + s.drive t d q)) }) s

/-- The staged set's drives follow the row map and the corrections in force. -/
def State.redrive (s : State) (t : Nat) : State :=
  let u := s.cu t
  if u.stagedValid then s.setCu t { u with drives := s.drivesFor t u.staged } else s

/-- Put back a unit whose rows changed. -/
def State.putRows (s : State) (t : Nat) (u : Cu) : State := (s.setCu t u.mend).redrive t

/-! ### Modes and readiness (R268, R274) -/

/-- The fallback mode that a condition forces (R274); none where no condition holds. -/
def cuForced (u : Cu) (force : Bool) : Option Nat :=
  if !u.characterised then some 0 else if force then some 2 else if u.healthy < 256 || u.calFault then some 3 else none

/-- On its way back to OPTICAL: no fallback condition holds, and a set is active (R274). -/
def Cu.entering (u : Cu) (force : Bool) : Bool := (cuForced u force).isNone && (u.mode == 2 || u.mode == 3)

/-- Bring a unit's mode up to date (R274); one that settles on its way to OPTICAL gets there at the end (R306). FALLBACK_ROWS raises its record once (R268). -/
def State.cuMode (s : State) (t : Nat) : State :=
  let u := s.cu t
  let m := match cuForced u (s.rb (Reg.Tt_CU_CTRL t) 0) with
    | some m => m
    | none =>
      let settles := match u.hold with | some h => h.enter | none => false
      if !settles && (u.mode = 0 || u.active.tag = 0) then 1 else u.mode
  let s := if m = 3 && !u.rowsReported then s.raiseErr 1 0x27 t t none 0 else s
  let u := { u with mode := m, rowsReported := u.rowsReported || m = 3 }
  (s.setCu t u).readyUpd

/-- A boundary correction is pending (R269, R274). -/
def State.cuPending (s : State) (t : Nat) : Bool :=
  let u := s.cu t
  u.recal || u.swap || u.entering (s.rb (Reg.Tt_CU_CTRL t) 0)

/-- The rotation runs (R267, R268, R276). -/
def State.rotating (s : State) (t : Nat) : Bool :=
  let u := s.cu t
  s.rb (Reg.Tt_CU_CTRL t) 1 && decide (u.healthy ≥ 257) && u.mode == 1 && u.hold.isNone

/-! ### OPROJ and BOUND (R120, R123) -/

/-- OPROJ. -/
def execOproj (c : CellId) (f : FF) (s : State) : Host.Outcome State Fault Refusal :=
  .next (s.exec1 (cellIdx c) 0x90 fun x =>
    let ci := cellIdx c
    let im := f.imm16.toNat
    let n := f.imm32.toNat + 1
    let cN := im % 16
    let fmt := im / 16 % 4
    let mode := im / 64 % 4
    let inDA := (x.sr f.sa.toNat).toNat
    let outDA := (x.sr f.sb.toNat).toNat
    let stDA := (x.sr f.sc.toNat).toNat
    enc s 0x90 (f.mods == 0 && decide (im < 256) && decide (n ≤ 65536) && decide (cN ≤ 8) && decide (fmt < 3) && decide (mode < 3))
      (match sigOf ci x f.sd.toNat f.token.toNat f.increment.toNat with
       | none => addrFault s 0x90 inDA
       | some g =>
         let okOut := fun (da len : Nat) => s.cellLocal ci da len && !touchesTiled s.trg da len
         if !s.cellLocal ci inDA (n * cuInBytes fmt) then addrFault s 0x90 inDA
         else if !okOut outDA (n * cuOutBytes mode) then addrFault s 0x90 outDA
         else if f.sc ≠ 0 && !okOut stDA n then addrFault s 0x90 stDA
         else if x.full then .stall
         else
           let id := s.opNext
           let op : AOp := { id, kind := .oproj, sig := g, left := 1, status := 0, opcode := 0x90 }
           let t := ci / 256
           let e := CuEntry.oproj ci id inDA outDA (if f.sc = 0 then none else some stDA) f.tag.toNat cN fmt mode n x.wu x.epoch
           let s := (s.setCell ci { x with ops := x.ops ++ [op] }).freshId
           .ok (s.setCu t { s.cu t with queue := (s.cu t).queue ++ [e] })))

/-- BOUND: it waits for the cell's earlier OPROJs, then passes its marker to the unit. (DESIGN CHOICE, log 17) -/
def execBound (c : CellId) (f : FF) (s : State) : Host.Outcome State Fault Refusal :=
  .next (s.exec1 (cellIdx c) 0x93 fun x =>
    let ci := cellIdx c
    enc s 0x93 (f.mods == 0 && f.sa == 0 && f.sb == 0 && f.sc == 0 && decide (f.imm16.toNat < 4) && f.imm32 == 0)
      (match sigOf ci x f.sd.toNat f.token.toNat f.increment.toNat with
       | none => addrFault s 0x93 (x.sr f.sd.toNat).toNat
       | some g =>
         if x.full || x.ops.any (fun o => decide (o.kind = .oproj)) then .stall
         else
           let id := s.opNext
           let op : AOp := { id, kind := .bound, sig := g, left := 1, status := 0, opcode := 0x93 }
           let t := ci / 256
           let s := (s.setCell ci { x with ops := x.ops ++ [op] }).freshId
           .ok (s.setCu t { s.cu t with queue := (s.cu t).queue ++ [.bound ci id f.tag.toNat (mbit8 f.imm16 0) (mbit8 f.imm16 1)] })))
where
  mbit8 (w : BitVec 16) (i : Nat) : Bool := w.getLsbD i

/-! ### Jobs (R258, R265, R272, R274, R275) -/

/-- No in-service ring of a unit has lost its lock: no weight ring of a row in service, no input modulator (R271). -/
def State.bankHeld (s : State) (t : Nat) : Bool :=
  (s.optics.rings.filter fun kv => kv.2.unlocked && decide (wring t 0 ≤ kv.1 ∧ kv.1 < wring t 17472)).all fun kv =>
    decide (kv.1 < wring t 17408) && ((s.cu t).serves? ((kv.1 - wring t 0) / 64)).isNone

/-- The bank is locked (R271). -/
def State.bankLocked (s : State) (t : Nat) : Bool := (s.cu t).locked && s.bankHeld t


/-- CU_JOB_START: the OPROJ at the head of the queue starts, in the unit's present mode. -/
def execCuJobStart (t : Fin 4) (s : State) : Host.Outcome State Fault Refusal :=
  let t := t.val
  let u := s.cu t
  .next (match u.queue with
    | e@(.oproj ..) :: q =>
      if u.job.isSome || u.hold.isSome || !s.dieUp t || s.asleep then s
      else s.setCu t { u with queue := q, job := some e, jobOptical := u.mode == 1, jobUnlocked := if s.bankLocked t then 0 else 2 }
    | _ => s)

/-- Run the vectors of a job: the state and whether every vector is valid. (DESIGN CHOICE, log 36) -/
def State.cuRun (s : State) (vw : View) (t : Nat) (w : WSet) (optical tagOk : Bool) (unl c all fmt mode inDA outDA : Nat) (stDA : Option Nat) :
    Nat → Nat → Bool → List Nat → State × Bool
  | 0, _, ok, _ => (s, ok)
  | n + 1, i, ok, used =>
    let lockOk := unl = 0 || (unl = 1 && s.freeAt 1024 % 2 == 1)
    let v := s.cuVec vw w optical tagOk lockOk c all fmt mode (inDA + i * cuInBytes fmt) used
    let s := s.eccRead (inDA + i * cuInBytes fmt) (cuInBytes fmt)
    let s := (s.writePE vw (outDA + i * cuOutBytes mode) v.out).takeFree 1025
    let s := match stDA with | some a => s.writePE vw (a + i) [BitVec.ofNat 8 v.status] | none => s
    let s := if v.valid then s else s.bump (Reg.Tt_CU_INVALID_VEC t)
    let s := if v.valid && !optical then s.bump (Reg.Tt_CU_FALLBACK_VEC t) else s
    let s := s.bumpN (Reg.Tt_CU_CLIP t) v.clips
    State.cuRun s vw t w optical tagOk unl c all fmt mode inDA outDA stDA n (i + 1) (ok && v.valid) v.used

/-- CU_JOB_COMPLETE (R254, R259, R272): outputs and status bytes are visible; the OPROJ completes. (DESIGN CHOICE, log 36) -/
def execCuJobComplete (t : Fin 4) (pe : PortEv) (s : State) : Host.Outcome State Fault Refusal :=
  let t := t.val
  let u := s.cu t
  .next (match u.job with
    | some e@(.oproj ci op inDA outDA stDA tag c fmt mode n wu epoch) =>
      if u.hold.isSome || !s.dieUp t || s.asleep then s
      else
        let s := s.setCu t { u with job := none, jobUnlocked := 0 }
        if !s.plcOk wu epoch then s.discard.settle.opDone ci op 2
        else
          let tagOk := tag == u.active.tag && u.active.tag ≠ 0
          let s := s.meet pe inDA (n * cuInBytes fmt)
          let vw := s.viewEnd pe
          let (s, ok) := s.cuRun vw t u.active u.jobOptical tagOk u.jobUnlocked c n fmt mode inDA outDA stDA n 0 true []
          (s.met vw e.accs).settle.opDone ci op (if !ok then 6 else if vw.busy e.accs then 3 else 0)
    | _ => s)

/-! ### Weight sets (R261 to R265) -/

/-- A write of Tt_CU_WLOAD_CTL (R262, R279). -/
def State.wWload (s : State) (o : Origin) (dev t : Nat) (v : Word) : State :=
  let off := Reg.Tt_CU_WLOAD_CTL t
  let busy := (s.cu t).loading.isSome
  let own : Option (State → State) := if v.bit 0 && busy then some fun s => s.setRf off 3 3 3 else none
  s.gate o dev off v (s.reg off) own fun s x =>
    let s := s.keepReg off x
    if !x.bit 0 then s
    else
      let u := s.cu t
      let da := (s.reg (Reg.Tt_CU_WLOAD_LO t)).toNat + s.rf (Reg.Tt_CU_WLOAD_HI t) 0 14 * 2 ^ 32
      let ok := match s.rangeStore da 17472 with
        | some st => (st == 16 + t || decide (st < 16 ∧ st / 4 = t)) && !touchesTiled s.trg da 17472
        | none => false
      let s := s.setCu t { u with stagedValid := false, loading := if ok then some da else none }
      if ok then s else s.setRf off 3 3 1

/-- WEIGHT_LOAD. -/
def execWeightLoad (t : Fin 4) (o : Origin) (v : Word) (s : State) : Host.Outcome State Fault Refusal :=
  .next (s.wWload o 0 t.val v)

/-- Is an FP32 value finite? -/
def finite32 (w : Nat) : Bool := decide (w / 2 ^ 23 % 256 ≠ 255)

/-- Read a weight image (R261); none where its contents are refused. -/
def weightImage (b : List Byte) : Option WSet :=
  let tag := bfld b 0 2
  let gain := bfld b 2 1
  let scales := elemsOf 4 256 ((b.drop 64).take 1024)
  let ws := (b.drop 1088).take 16384
  if tag ≠ 0 && decide (gain ≤ 6) && allZero ((b.drop 3).take 61) && scales.all finite32 && ws.all (· ≠ 0x80) then
    some { tag, gain, scales := tlist 0 0 (scales.map (BitVec.ofNat 32)), w := tlist 0 0 ws }
  else none

/-- WEIGHT_LOAD_DONE (R262): the drives of every row are precomputed. -/
def execWeightLoadDone (t : Fin 4) (pe : PortEv) (s : State) : Host.Outcome State Fault Refusal :=
  let t := t.val
  let u := s.cu t
  .next (match u.loading with
    | none => s
    | some da =>
      let off := Reg.Tt_CU_WLOAD_CTL t
      let v := s.viewNow pe
      let s := s.meet pe da 17472
      let t1 := (s.setCu t { u with loading := none }).met v [(da, 17472, false)]
      if s.poisonRange da 17472 then (t1.eccRead da 17472).setRf off 3 3 4
      else
        match weightImage (s.readPE v da 17472) with
        | none => t1.setRf off 3 3 2
        | some w => t1.setCu t { u with loading := none, staged := w, stagedValid := true, drives := t1.drivesFor t w })

/-! ### Boundaries (R263, R264, R269, R270) -/

/-- A pending recalibration is taken (R269, R309): the records of a loaded image, and the phase reference of the local oscillator. -/
def State.calTake (s : State) (t : Nat) : State :=
  let u := { s.cu t with recal := false, loRef := s.freeVal, newCal := none }
  let s := s.takeFree 1
  match (s.cu t).newCal with
  | none => s.setCu t u
  | some c =>
    let s := c.rings.zipIdx.foldl (fun s r => s.setRing (wring t r.2) { s.ring (wring t r.2) with code := some r.1.1, corr := some r.1.2 }) s
    let s := { s with optics := { s.optics with xtalk := tfill none s.optics.xtalk (139264 * t) (c.xtalk.map some),
                                                rowRecs := tfill none s.optics.rowRecs (272 * t) (c.rows.map some) } }
    s.putRows t { u with rowMap := c.map.getD u.rowMap }

/-- The rows in service are driven for the active set, where there is one (R269, R274). -/
def State.driveActive (s : State) (t : Nat) : State :=
  let u := s.cu t
  if u.active.tag = 0 then s else s.setCodes t (fun p => (u.serves? p).isSome) (s.drivesFor t u.active)

/-- Start a hold: the corrections that are pending are taken; a commit copies the staged set, whose tag is active at the end, and applies
its drives (R264). In a fallback mode nothing settles, and only a swap still waits for the Spring. -/
def State.cuHold (s : State) (t : Nat) (commit corr : Bool) (bound : Option (Nat × Nat)) : State :=
  let enter := corr && (s.cu t).entering (s.rb (Reg.Tt_CU_CTRL t) 0)
  let swap := corr && (s.cu t).swap
  let recal := corr && (s.cu t).recal
  let s := if corr then s.setRb (Reg.Tt_CU_CTRL t) 2 false else s
  let s := if recal then s.calTake t else s
  let u := s.cu t
  let old := u.active.tag
  let u := { u with swap := u.swap && !corr, stagedValid := u.stagedValid && !commit, active := if commit then u.staged else u.active }
  if u.mode = 1 || enter || swap then
    let h : CuHold := { CuHold.settle enter with take := if commit then some u.staged.tag else none, bound, swap }
    let s := s.setCu t { u with active := { u.active with tag := old }, hold := some h }
    if commit then s.setCodes t (fun _ => true) u.drives else if recal || enter then s.driveActive t else s
  else
    let s := s.setCu t u
    match bound with
    | some (ci, op) => s.opDone ci op 0
    | none => s

/-- The BOUND at the head of the queue (R123, R263, R270). -/
def State.cuBound (s : State) (t ci op tag : Nat) (commit corr : Bool) : State :=
  let u := s.cu t
  let doCommit := commit && u.stagedValid && u.staged.tag == tag
  let doCorr := corr && s.cuPending t
  let s := s.setCu t { u with queue := u.queue.drop 1 }
  if doCommit || doCorr then s.cuHold t doCommit doCorr (some (ci, op)) else s.opDone ci op 0

/-- A unit may take a boundary: its die runs, nothing holds it. -/
def State.cuFree (s : State) (t : Nat) : Bool := (s.cu t).hold.isNone && s.dieUp t && !s.asleep

/-- WEIGHT_COMMIT (R263, R264): a BOUND that offers a commit reaches the head of the queue. -/
def execWeightCommit (t : Fin 4) (s : State) : Host.Outcome State Fault Refusal :=
  let t := t.val
  let u := s.cu t
  .next (match u.queue with
    | .bound ci op tag true corr :: _ => if u.job.isSome || !s.cuFree t then s else s.cuBound t ci op tag true corr
    | _ => s)

/-- TAKEN_BOUNDARY (R270): a BOUND that offers the pending corrections reaches the head, or the queue is empty. -/
def execTakenBoundary (t : Fin 4) (s : State) : Host.Outcome State Fault Refusal :=
  let t := t.val
  let u := s.cu t
  .next (if u.job.isSome || !s.cuFree t then s
    else
      match u.queue with
      | .bound ci op tag commit corr :: _ => if commit && !corr then s else s.cuBound t ci op tag commit corr
      | [] => if s.cuPending t then s.cuHold t false true none else s
      | _ => s)

/-- FORCED_BOUNDARY (R270): 10 ms have passed; the running job stops between two vectors. -/
def execForcedBoundary (t : Fin 4) (s : State) : Host.Outcome State Fault Refusal :=
  let t := t.val
  let u := s.cu t
  .next (if !s.cuFree t || !s.cuPending t || (u.job.isNone && u.queue = []) then s
    else (s.cuHold t false true none).bump (Reg.Tt_CU_FORCED t))

/-- Retire a physical row that failed its third verification: its logical row moves to an idle spare; the repair history records it
(R264, R664). -/
def State.retireRow (s : State) (t : Nat) (p : Nat) : State :=
  let u := s.cu t
  let sp := if (u.serves? p).isSome then u.spareRow else none
  let s := s.storePush (.repair { kind := 8, die := t, element := t * 272 + p, replacement := sp.getD 0xFFFFFFFF, boot := s.boot,
                                  ticks := s.ticks % 2 ^ 48, extra := [] })
  s.putRows t { u with badRows := if u.bad p then u.badRows else u.badRows ++ [p] }

/-- A hold ends (R264, R274): the tag of a commit is active, a unit on its way to OPTICAL is there, the BOUND completes. -/
def State.cuRelease (s : State) (t : Nat) (h : CuHold) : State :=
  let u := s.cu t
  let force := s.rb (Reg.Tt_CU_CTRL t) 0
  let u := { u with hold := none, active := { u.active with tag := h.take.getD u.active.tag },
                    mode := if h.enter && (cuForced u force).isNone then 1 else u.mode }
  let s := (s.setCu t u).cuMode t
  match h.bound with
  | some (ci, op) => s.opDone ci op 0
  | none => s

/-- COMMIT_SETTLE_END (R264, R270, R274): settling and verification of a held unit, of every row in service first, then of the rows driven again.
A row that fails is driven again, at most twice; the third failure retires it, and its spare is driven and verified in turn.
(DESIGN CHOICE, log 36) -/
def execCommitSettleEnd (t : Fin 4) (failed : List Nat) (s : State) : Host.Outcome State Fault Refusal :=
  let t := t.val
  let u := s.cu t
  .next (match u.hold with
    | none => s
    | some h =>
      if h.swap || !s.dieUp t then s
      else
        let bad := (failed.filter fun p => decide (p < 272) && (if h.again = [] then (u.serves? p).isSome else h.again.contains p)).eraseDups
        let tries := bad.foldl (fun m p => tset 0 m p (tget 0 m p + 1)) h.tries
        let third := bad.filter fun p => tget 0 tries p ≥ 3
        let s := third.foldl (fun s p => s.retireRow t p) s
        let v := s.cu t
        let moved := (third.filterMap u.serves?).map v.phys
        if bad = [] || v.healthy < 256 then s.cuRelease t h
        else
          let s := if v.active.tag = 0 then s else s.setCodes t (fun p => bad.contains p || moved.contains p) (s.drivesFor t v.active)
          s.setCu t { s.cu t with hold := some { h with again := (bad.filter fun p => !third.contains p) ++ moved, tries } })

/-- ROW_CALIBRATION_END (R267): the calibrated row's corrections are refreshed; driven for the next row's logical row and `verified`, it takes it
over, and the next row leaves service. One that fails its verification is retired. A mean gain error above 0.5% makes a bank
recalibration pending (R269). (DESIGN CHOICE, log 63) -/
def execRowCalibrationEnd (t : Fin 4) (verified gainBad : Bool) (s : State) : Host.Outcome State Fault Refusal :=
  let t := t.val
  let u := { s.cu t with recal := (s.cu t).recal || gainBad }
  let p := u.calRow
  .next (if !s.rotating t || !s.dieUp t || s.asleep then s
    else if u.bad p || (u.serves? p).isSome then s.putRows t u
    else
      let s := { s with optics := { s.optics with rowRecs := tset none s.optics.rowRecs (272 * t + p) (some (s.freeVal % 2 ^ 40)) } }.takeFree 1
      let s := if u.active.tag = 0 then s
        else s.addDrives t fun q => if q / 64 = p then s.wanted t u.active q - s.ringCode (wring t q) else 0
      match verified, u.nextRow with
      | false, _ => (s.setCu t u).retireRow t p
      | true, none => s.setCu t u
      | true, some n =>
        s.putRows t { u with calRow := n, rowMap := match u.serves? n with | some i => tset i u.rowMap i p | none => u.rowMap })

/-! ### The lock of the bank (R271, R272) -/

/-- BANK_UNLOCK. -/
def execBankUnlock (t : Fin 4) (s : State) : Host.Outcome State Fault Refusal :=
  let u := s.cu t.val
  .next (if u.locked then
      s.setCu t.val { u with locked := false, jobUnlocked := if u.job.isSome && u.jobUnlocked = 0 then 1 else u.jobUnlocked }
    else s)

/-- BANK_RELOCK: every in-service ring holds again (R271); after more than 1 ms a bank recalibration becomes pending (R269). -/
def execBankRelock (t : Fin 4) (overMs : Bool) (s : State) : Host.Outcome State Fault Refusal :=
  let u := s.cu t.val
  .next (if u.locked || !u.characterised || !s.bankHeld t.val then s
    else s.setCu t.val { u with locked := true, recal := u.recal || overMs, jobUnlocked := if u.job.isSome then 1 else 0 })

/-! ### Control (R277) -/

/-- A write of Tt_CU_CTRL. -/
def State.wCuCtrl (s : State) (o : Origin) (dev t : Nat) (v : Word) : State :=
  let off := Reg.Tt_CU_CTRL t
  s.gate o dev off v (s.reg off) none fun s x =>
    let s := s.keepReg off x
    let u := s.cu t
    (s.setCu t { u with recal := u.recal || v.bit 2 }).cuMode t

/-- FORCE_FALLBACK (R274, R277). -/
def execForceFallback (t : Fin 4) (o : Origin) (v : Word) (s : State) : Host.Outcome State Fault Refusal := .next (s.wCuCtrl o 0 t.val v)

/-- ROTATION_ENABLE (R277). -/
def execRotationEnable (t : Fin 4) (o : Origin) (v : Word) (s : State) : Host.Outcome State Fault Refusal := .next (s.wCuCtrl o 0 t.val v)

/-- RECAL_REQUEST (R269, R277). -/
def execRecalRequest (t : Fin 4) (o : Origin) (v : Word) (s : State) : Host.Outcome State Fault Refusal := .next (s.wCuCtrl o 0 t.val v)

/-- A snapshot is wanted: taken at once, or pending while the gate is closed or another is being written (R610). -/
def State.snapWant (s : State) : State :=
  if s.gateOpen && !s.store.snapRunning then { s with store := { s.store with snapRunning := true } }
  else { s with store := { s.store with snapPending := true } }

/-- Every Confluence unit of a released die was characterised. -/
def State.allCharacterised (s : State) : Bool := (List.range 4).all fun t => (s.cu t).characterised || !s.released t

/-- CHARACTERISATION_DONE (R268, R274, R306, R307): `healthy` physical rows work. The end of the first-use path takes a snapshot
(R609). -/
def execCharacterisationDone (t : Fin 4) (healthy : Nat) (s : State) : Host.Outcome State Fault Refusal :=
  let t := t.val
  let u := s.cu t
  .next (if u.characterised || !s.released t || !s.optics.ringsUp then s
    else
      let bad := ((List.range 272).drop healthy).filter fun p => !u.badRows.contains p
      let s := (s.putRows t { u with characterised := true, locked := true, badRows := u.badRows ++ bad }).cuMode t
      if s.allCharacterised then s.snapWant else s)

/-! ### Registers (R276, R279, R280) -/

/-- Tt_CU_STATUS (R276). -/
def State.cuStatus (s : State) (t : Nat) : Word :=
  let u := s.cu t
  BitVec.ofNat 32 (u.mode + (s.bankLocked t).toNat * 4 + u.hold.isSome.toNat * 8 + u.recal.toNat * 16 + u.swap.toNat * 32 +
    (s.rotating t).toNat * 64 + (if u.characterised then u.healthy else 0) * 65536)

/-- Tt_CU_WLOAD_CTL (R279). -/
def State.cuWloadCtl (s : State) (t : Nat) : Word :=
  let u := s.cu t
  s.reg (Reg.Tt_CU_WLOAD_CTL t) ||| BitVec.ofNat 32 (u.loading.isSome.toNat * 2 + u.stagedValid.toNat * 4)

/-- Tt_CU_TAGS (R280). -/
def State.cuTags (s : State) (t : Nat) : Word :=
  let u := s.cu t
  BitVec.ofNat 32 (u.active.tag + u.staged.tag * 65536)

end Sys2Proof.Machine
end

