-- ==== Sys2Proof/Machine/Track.lean ====
section
/-! DEFINITION. The transaction tracker (R436 to R441, R444): what a response brings to the operation that sent the request, what a lost
request does, the reissue of a lost READ, quarantine. -/

namespace Sys2Proof.Machine

/-! ### What a response brings to its operation -/

/-- One request of a MOVE is answered (R440). -/
def State.moveAnswered (s : State) (id st : Nat) : State :=
  match s.move id with
  | some m => s.setMove { m with left := m.left - 1, status := mergeStatus m.status st }
  | none => s

/-- READ_DATA for a MOVE into this device (R187, R426, R428): a piece is written in its place, a trailer is kept until the tile is complete. A slot of
which a piece failed its check is written with poison, one whose piece did not arrive keeps it too. In untiled memory a failed piece is
read again burst by burst, and a burst that fails leaves its bytes unchanged (R185, R438); a piece under a stale epoch is discarded
(R73). (DESIGN CHOICE, log 52) -/
def State.moveData (s : State) (pe : PortEv) (id : Nat) (req : Packet) (st : Nat) (payload : List Byte) : State :=
  match s.move id with
  | none => s
  | some m =>
    let off := req.addr - gaDA m.src
    let dst := gaDA m.dst + off
    let slot := match rangeKind m.regions (gaDA m.dst) m.len with | .tiled r => some r.slot | _ => none
    let n := (req.mod % 16 + 1) * 32
    let failed := st ≠ 0 && st ≠ 3
    if req.mod / 64 % 2 = 1 then
      (s.setMove { m with trls := tset none m.trls (off / slot.getD 1) (some (bfld payload 0 8, st)) }).moveAnswered id st
    else if !s.plcOk m.workUnit m.epoch then s.discard.moveAnswered id 2
    else
      let m := match slot with
        | some k => if failed then { m with badSlots := off / k :: m.badSlots } else m
        | none => if st = 1 && (cut64 req.addr n).length > 1 then
            { m with todo := m.todo ++ (cut64 req.addr n).map fun x => { req with addr := x.1, mod := x.2 / 32 - 1, flags := 0, flowSeq := 0 } }
          else m
      let s := s.setMove m
      if failed && !(st = 1 && slot.isSome) then s.moveAnswered id st
      else
        let v := ({ s with moves := s.moves.filter (·.id ≠ id) }).viewEnd pe
        let accs := [(dst, n, true)]
        ((s.writePE v dst (padTo n payload)).met v accs).moveAnswered id (worseStatus st (if v.busy accs then 3 else 0))

/-- The answer to an ATOMIC of a cell (R102): the old value; zero for STALE_EPOCH, LINK_LOST and UNKNOWN_OUTCOME; after any other
exception s[rd] is as it was. The exception may trap. -/
def State.atomicAnswered (s : State) (ci st old : Nat) : State :=
  let x := s.cell ci
  match x.block with
  | some (.atomic rd opcode) =>
    let y := if st = 0 || st = 3 then x.setS rd (BitVec.ofNat 64 old) else if st = 2 || st = 7 || st = 8 then x.setS rd 0 else x
    let s := s.setCell ci { y with block := none }
    if st = 0 then s.unblock ci
    else
      let s := s.cellExc ci st none opcode
      if x.traps st then s.trapCell ci st opcode else s.unblock ci
  | _ => s

/-- The end of a MGMT entry (R477): the response payload goes to the host before the completion. -/
def State.mgmtDone (s : State) (q idx st : Nat) (payload : List Byte) : Option State :=
  match (s.sq q).ent idx with
  | none => some s
  | some e =>
    let s := s.raiseStatus st dieK q none 0x44
    let s := if payload = [] || q ≥ 256 then s else s.emit (.hostWrite (bfld e.bytes 24 8) payload)
    s.sqDone q idx st (bfld payload 0 8) payload.length

/-- What an answered or lost request does to the operation that sent it (R62, R102, R114, R438); none where that must wait. -/
def State.ownerDone (s : State) (pe : PortEv) (o : TOwner) (req : Packet) (st : Nat) (payload : List Byte) : Option State :=
  match o with
  | .atomic ci => some (s.atomicAnswered ci st (bfld payload 0 8))
  | .move id => some (if req.type = 1 then s.moveData pe id req st payload else s.moveAnswered id st)
  | .signal ci op => some (s.asyncExc ci st op)
  | .header r id => some (s.cmdAnswered r id st)
  | .child r id => some (s.childDone r id st 0)
  | .mgmt q idx => s.mgmtDone q idx st payload
  | .copy .. | .other => some s

/-! ### Freeing entries -/

/-- One request of a flow is no longer outstanding (R441). -/
def State.flowDone (s : State) (req : Packet) : State :=
  if req.flags % 2 = 1 then
    let k := flowKey req.srcDie req.dst
    match tget none s.fab.flowOut k with
    | some f => { s with fab := { s.fab with flowOut := tset none s.fab.flowOut k (some { f with out := f.out - 1 }) } }
    | none => s
  else s

/-- Let the MOVEs that waited for a tracker entry or a flow inject further packets (R436, R441). -/
def State.pumpAll (s : State) : State := (s.moves.map fun m => (m.id, m.todo.length)).foldl (fun s x => s.pump x.1 x.2) s

/-- Unlink an entry from its twin: the twin decides alone from now on (R444). -/
def State.untwin (s : State) (t : Option (Nat × Nat)) : State :=
  match t with
  | some (d, i) => s.setTrk d i { s.trk d i with twin := none }
  | none => s

/-- The entry of a copy whose request its twin decided is freed and quarantined (R439). -/
def State.dropTwin (s : State) (t : Option (Nat × Nat)) : State :=
  match t with
  | some (d, i) => s.setTrk d i ((s.trk d i).release false)
  | none => s

/-! ### Loss (R437, R438) -/

/-- The port for a reissue: usable, other than the one it was lost on, from the other set of the entry where one exists. -/
def State.reissuePort (s : State) (req : Packet) (lost : Nat) : Option Nat :=
  let r := s.route (s.routeKey req.dst)
  let onFirst := r.primary / 2 ^ lost % 2 = 1
  let (own, oth) := if onFirst then (r.primary, r.alternate) else (r.alternate, r.primary)
  let pick := fun (m : Nat) =>
    let up := (maskPorts m).filter fun p => p ≠ lost && s.portUp p
    let gr := (maskPorts m).filter fun p => p ≠ lost && s.portGrace p
    s.choose r.select (req.flags / 4 % 2 == 1) (if up ≠ [] then up else gr) (vcOf req.type 0) req.dst req.src req.srcDie req.addr
  if !r.valid then none else match pick oth with
    | some p => some p
    | none => pick own

/-- Reissue a lost READ under a new tag; a request of a flow takes the flow's next sequence. None where no port is left, or no entry. -/
def State.reissue (s : State) (d i : Nat) (e : TEnt) (req : Packet) : Option State :=
  match s.reissuePort req e.port with
  | none => none
  | some p =>
    let d' := p / 8
    if (s.span d').inUse ≥ 1048576 then none
    else
      let s := s.setTrk d i (e.release false)
      let k := flowKey req.srcDie req.dst
      let f := (tget none s.fab.flowOut k).getD { next := 0, out := 0 }
      let flow := req.flags % 2 = 1
      let req := if flow then { req with flowSeq := f.next } else req
      let s := if flow then
          { s with fab := { s.fab with flowOut := tset none s.fab.flowOut k (some { f with next := (f.next + 1) % 4294967296 }) } }
        else s
      let (j, x) := (s.span d').alloc e.owner req p
      let req := { req with trk := d', tag := j, gen := (tget .free x.trk j).gen }
      let x := { x with trk := tset .free x.trk j { tget .free x.trk j with pkt := some req, reissues := e.reissues + 1 } }
      some (((s.setSpan d' x).bump (Reg.Sd_FAB_REISSUES d)).txWait p (vcOf req.type (s.firstClass p)) req (some (d' * 1048576 + j)))

/-- A request completes as lost: its status (R438). -/
def State.lostDone (s : State) (d i : Nat) (e : TEnt) (req : Packet) (answered : Bool) : Option State :=
  let st := if req.type = 1 then 7 else 8
  match s.ownerDone .clear e.owner req st [] with
  | none => none
  | some t =>
    let t := (t.setTrk d i (e.release answered)).flowDone req
    some ((if st = 8 then t.bump (Reg.Sd_FAB_UNKNOWN d) else t).pumpAll)

/-- Entry i of span die d is lost (R437): with a twin the request goes on; a READ is reissued, at most twice; else it completes. -/
def State.trkLost (s : State) (d i : Nat) : State :=
  let e := s.trk d i
  match e.use, e.pkt with
  | .busy, some req =>
    if e.twin.isSome then (s.untwin e.twin).setTrk d i (e.release false)
    else if req.type = 1 && e.reissues < 2 then
      match s.reissue d i e req with
      | some t => t
      | none => (s.lostDone d i e req false).getD s
    else (s.lostDone d i e req false).getD s
  | _, _ => s

/-- Every request that span die d holds is lost: it is presumed dead, or in DIE reset (R437). -/
def State.spanLost (s : State) (d : Nat) : State :=
  (((s.span d).trk.filter fun kv => kv.2.use = .busy).map (·.1)).foldl (fun s i => s.trkLost d i) s

/-! ### Responses (R439, R444) -/

/-- A response arrives for the entry its tag names: late where the entry is free or of another generation; a duplicate answer leaves the
decision to the twin; else it decides. -/
def State.response (s : State) (pe : PortEv) (p : Packet) : State :=
  let d := p.trk % 2
  let i := p.tag
  let e := s.trk d i
  match e.use, e.pkt with
  | .busy, some req =>
    if e.gen ≠ p.gen then s.bump (Reg.Sd_FAB_LATE_RSP d)
    else if p.flags / 2 % 2 = 1 then
      if e.twin.isSome then (s.untwin e.twin).setTrk d i (e.release true)
      else if req.type = 1 && e.reissues < 2 then
        match s.reissue d i e req with
        | some t => t
        | none => (s.lostDone d i e req true).getD s
      else (s.lostDone d i e req true).getD s
    else
      match s.ownerDone pe e.owner req p.status p.payload with
      | none => s
      | some t => (((t.dropTwin e.twin).setTrk d i (e.release true)).flowDone req).pumpAll
  | _, _ => s.bump (Reg.Sd_FAB_LATE_RSP d)

end Sys2Proof.Machine
end

