-- ==== Sys2Proof/Machine/Port.lean ====
section
/-! DEFINITION. Fiber ports (R356 to R416): numbered packets with acknowledgement, replay, backwater and credits; training, resumption and
fresh start; lanes that retire and return; STANDBY and DEEP; light and its limits; the service buttons. -/

namespace Sys2Proof.Machine

/-! ### Lanes of a port -/

/-- Lane of a line. -/
def Port.fl (x : Port) (i : Nat) : BLane := tget .dark x.lanes i

/-- Put back a lane. -/
def Port.setFl (x : Port) (i : Nat) (l : BLane) : Port := { x with lanes := tset .dark x.lanes i l }

/-- The lines whose lane is in a state. -/
def Port.linesIn (x : Port) (st : BLaneSt) : List Nat := (List.range 34).filter fun i => (x.fl i).state == st

/-- The positions in service. -/
def Port.width (x : Port) : Nat := (x.linesIn .data).length

/-- Both rings of a fiber lane hold their lock (R298, R308). -/
def State.flRings (s : State) (p i : Nat) : Bool :=
  [7680 + 34 * p + i, 8224 + 34 * p + i].all fun j =>
    let r := tget .off s.optics.rings j
    s.optics.ringsUp && !r.unlocked && !r.failed

/-- Every ring of a port is locked, or marked failed (R307, R367). -/
def State.portRings (s : State) (p : Nat) : Bool :=
  s.optics.ringsUp && (List.range 34).all fun i => [7680 + 34 * p + i, 8224 + 34 * p + i].all fun j =>
    let r := tget .off s.optics.rings j
    !r.unlocked || r.failed

/-- Change a port. -/
def State.modPort (s : State) (p : Nat) (f : Port → Port) : State := s.setPort p (f (s.port p))

/-- A change of a port's peer, of its state between LIVE and DOWN, or of its width (R431). -/
def State.helloEvent (s : State) (p : Nat) : State :=
  let h := tget .none s.fab.hello p
  { s with fab := { s.fab with hello := tset .none s.fab.hello p { h with events := (h.events + 1) % 2 ^ 32 } } }

/-- The record of a fiber lane that becomes FAILED (R664). -/
def State.flRepair (s : State) (p i : Nat) : State :=
  s.storePush (.repair { kind := 4, die := dieS (p / 8), element := p * 64 + i, replacement := 0xFFFFFFFF, boot := s.boot,
                         ticks := s.ticks % 2 ^ 48, extra := [] })

/-- Take a fiber lane out of service (R343, R372). -/
def State.flOut (s : State) (p i cause : Nat) (planned : Bool) : State :=
  let l := (s.port p).fl i
  let c2 := l.cause2 + (if cause = 2 then 1 else 0)
  let st : BLaneSt := if cause = 4 || cause = 5 || cause = 7 || (cause = 2 && decide (c2 ≥ 3)) then .failed else .retired
  let s := s.modPort p fun x => x.setFl i { l with state := st, pos := 0, cause, planned, after := none, cause2 := c2 }
  if st == .failed && l.state != .failed then s.flRepair p i else s

/-! ### Registers of a port (R384, R409) -/

/-- Sd_PORTp_CTL.min_width. -/
def State.minWidth (s : State) (p : Nat) : Nat := s.rf (Reg.Sd_PORTp_CTL p) 4 6

/-- The base of a port's backwater. -/
def State.bwBase (s : State) (p : Nat) : Nat := s.rf (Reg.Sd_PORTp_BW p) 0 20 * 2 ^ 26

/-- Is the backwater valid (R384, R412)? -/
def State.bwValid (s : State) (p : Nat) : Bool :=
  match s.rangeStore (s.bwBase p) (2 ^ 26) with
  | some st => decide (st < 16 ∧ st / 4 = p % 4) && !s.touchesKv (s.bwBase p) (2 ^ 26)
  | none => false

/-! ### Packets on the link (R376, R377, R383, R384) -/

/-- The payload length field L. -/
def Packet.units32 (k : Packet) : Nat := (k.payload.length + 31) / 32

/-- The units of a packet (R388). -/
def pktUnits (k : Packet) : Nat := (36 + 32 * Packet.units32 k + 63) / 64

/-- The bytes of a packet on the link: header, payload, CRC-32C (R376, R377, R426). -/
def pktBytes (lseq vc : Nat) (k : Packet) : List Byte :=
  let h := toBytesLE 2 lseq ++ toBytesLE 1 (vc + Packet.units32 k * 8 + 128) ++ [0] ++ toBytesLE 3 (k.dst + k.hops * 2 ^ 18) ++ toBytesLE 1 k.type ++
    toBytesLE 3 (k.src + k.srcDie * 2 ^ 18 + k.trk * 2 ^ 23) ++ toBytesLE 1 k.mod ++ toBytesLE 3 (k.tag + k.gen * 2 ^ 20) ++ toBytesLE 1 k.status ++
    toBytesLE 4 k.flowSeq ++ toBytesLE 6 k.addr ++ toBytesLE 4 k.workUnit ++ toBytesLE 1 k.epoch ++ toBytesLE 1 k.flags
  let b := h ++ padTo (32 * Packet.units32 k) k.payload
  b ++ toBytesLE 4 (crc32c b).toNat

/-- The slot of a spilled packet (R384). -/
def State.spillSlot (s : State) (p lseq : Nat) : Nat := s.bwBase p + lseq % 32768 * 512

/-- Does the span die reach the port's backwater (R35, R383)? -/
def State.bwPath (s : State) (p : Nat) : Bool :=
  match s.rangeStore (s.bwBase p) (2 ^ 26) with
  | some st => s.reaches? (dieS (p / 8)) st
  | none => false

/-- Does a spilled packet pass its CRC on read-back, with no poisoned byte (R385)? -/
def State.spillOk (s : State) (p : Nat) (k : TxPkt) : Bool :=
  let n := 32 + 32 * Packet.units32 k.pkt
  let a := s.spillSlot p k.lseq
  (crc32c (s.readMem a n)).toNat = ofBytesLE (s.readMem (a + n) 4) && !s.poisonRange a (n + 4)

/-- Spill the oldest on-chip packet where more than 4,096 are held (R383). -/
def State.spill (s : State) (p : Nat) : State :=
  let x := s.port p
  if (x.unacked.filter fun k => !k.spilled).length ≤ 4096 then s
  else
    match x.unacked.find? fun k => !k.spilled with
    | none => s
    | some k =>
      let s := s.writeMem (s.spillSlot p k.lseq) (pktBytes k.lseq k.vc k.pkt)
      s.setPort p { x with unacked := x.unacked.map fun y => if y.lseq = k.lseq then { y with spilled := true } else y }

/-! ### Flush (R395 to R398) -/

/-- A packet of this device that a flush discards: its tracker entry is lost (R396, R437). -/
def State.lostPkt (s : State) (own : Option Nat) (k : Packet) : State :=
  match own with
  | some o => if (s.trk (o / 1048576) (o % 1048576)).gen = k.gen then s.trkLost (o / 1048576) (o % 1048576) else s
  | none => s

/-- The session after one that ends: 0 is skipped. -/
def nextSession (n : Nat) : Nat := if (n + 1) % 65536 = 0 then 1 else (n + 1) % 65536

/-- Discard a port's unacknowledged packets, and where `all` holds the held ones and those that wait for it: counted, and reported. -/
def State.discardPkts (s : State) (p : Nat) (all : Bool) : State :=
  let x := s.port p
  let held := if all then x.held ++ s.fab.waiting.filter fun w => w.port == p else []
  let lost := x.unacked.map (fun k => (k.own, k.pkt)) ++ held.map fun w => (w.own, w.pkt)
  let s := s.setPort p { x with unacked := [], u := x.n, held := if all then [] else x.held }
  let s := if all then { s with fab := { s.fab with waiting := s.fab.waiting.filter fun w => w.port ≠ p } } else s
  lost.foldl (fun s y => s.lostPkt y.1 y.2) (s.bumpN (Reg.Sd_PORTp_FLUSHED p) lost.length)

/-- PORT_FLUSH (R396). -/
def State.portFlush (s : State) (p : Nat) : State :=
  (s.discardPkts p true).modPort p fun x => { x with grace := false, session := nextSession x.session }

/-! ### Changes at boundaries (R371) -/

/-- The boundary of a change. -/
def FChange.at : FChange → Nat
  | .retire _ c _ _ => c
  | .join _ c _ => c

/-- A retirement. -/
def FChange.isRetire : FChange → Bool
  | .retire .. => true
  | .join .. => false

/-- A position whose retirement is pending. -/
def Port.retiring (x : Port) (q : Nat) : Bool := x.changes.any fun ch => match ch with | .retire r _ _ _ => r == q | _ => false

/-- A position that a pending ADMIT fills. -/
def Port.filling (x : Port) (q : Nat) : Bool := x.changes.any fun ch => match ch with | .join r _ _ => r == q | _ => false

/-- A line that a pending ADMIT has chosen. -/
def Port.chosen (x : Port) (i : Nat) : Bool := x.changes.any fun ch => match ch with | .join _ _ l => l == i | _ => false

/-- The line in service at a position. -/
def Port.lineAt (x : Port) (q : Nat) : Option Nat := (x.linesIn .data).find? fun i => (x.fl i).pos == q

/-- The ready spare of lowest position. -/
def Port.readySpare (x : Port) : Option Nat :=
  ((x.linesIn .spare).filter fun i => !x.chosen i).foldl (fun (acc : Option Nat) i =>
    match acc with
    | none => some i
    | some j => if (x.fl i).pos < (x.fl j).pos then some i else some j) none

/-- The first boundary a change may name: the measured round trip and 1 µs from now (R371), in superframes of the port's rate (R366). -/
def Port.boundary (x : Port) : Nat :=
  let t := if x.rate = 0 then 7924 else if x.rate = 1 then 3962 else 1981
  (x.sfCount + (x.rtt * 100 + 10000 + t - 1) / t) % 2 ^ 32

/-- The bytes of a RETIRE or an ADMIT (R365). -/
def FChange.bytes : FChange → List Byte
  | .retire q c _ planned => [0x55] ++ toBytesLE 1 q ++ toBytesLE 4 c ++ toBytesLE 1 planned.toNat
  | .join q c i => [0x66] ++ toBytesLE 1 q ++ toBytesLE 4 c ++ toBytesLE 1 i

/-- The bytes of a REQ_RETIRE (R365). -/
def flReqBytes (pos cause : Nat) : List Byte := [0x78] ++ toBytesLE 1 pos ++ toBytesLE 1 cause

/-- Announce a change: its message waits for a control slot. -/
def State.announceFl (s : State) (p : Nat) (ch : FChange) : State :=
  (s.modPort p fun x => { x with changes := x.changes ++ [ch], txMsgs := x.txMsgs ++ [ch.bytes] }).emit (.fctl p ch)

/-- The sender retires the lane at a position: RETIRE, and in an unplanned retirement, or where no data lane would be left, ADMIT of a spare
at the same boundary. -/
def State.retireFlPos (s : State) (p q cause : Nat) (planned : Bool) : State :=
  let x := s.port p
  if x.retiring q then s
  else
    let c := x.boundary
    let left := (x.linesIn .data).filter fun i => (x.fl i).pos ≠ q && !x.retiring (x.fl i).pos
    let s := s.announceFl p (.retire q c cause planned)
    if planned && left ≠ [] then s
    else
      match (s.port p).readySpare with
      | some i => s.announceFl p (.join q c i)
      | none => s

/-- A fiber lane leaves service for a cause. -/
def State.retireFl (s : State) (p i cause : Nat) (planned : Bool) : State :=
  let x := s.port p
  let l := x.fl i
  match l.state with
  | .data => if x.state == .live then s.retireFlPos p l.pos cause planned else s.flOut p i cause planned
  | .spare => s.flOut p i cause planned
  | .training => s.modPort p fun x => x.setFl i { l with after := some (cause, planned) }
  | .retired | .dark => if cause = 4 || cause = 5 || cause = 7 then s.flOut p i cause planned else s
  | .failed => s

/-- The receiver found a fault of a lane and asks the peer to retire it. -/
def State.askRetireFl (s : State) (p i cause : Nat) : State :=
  let x := s.port p
  let l := x.fl i
  if l.state == .data && x.state == .live then
    (s.setPort p { x with reqs := x.reqs ++ [(l.pos, cause)], txMsgs := x.txMsgs ++ [flReqBytes l.pos cause] }).emit (.freq p l.pos cause)
  else s.retireFl p i cause false

/-- The lowest spare position that no lane holds. -/
def Port.freeSparePos (x : Port) : Nat := if (x.linesIn .spare).any (fun i => (x.fl i).pos == 32) then 33 else 32

/-- The lowest position that no lane holds and no ADMIT fills. -/
def Port.holePos (x : Port) : Option Nat := (List.range 32).find? fun q => (x.lineAt q).isNone && !x.filling q

/-- A lane is trained again: a ready spare, admitted where a position is unfilled. -/
def State.flBack (s : State) (p i : Nat) : State :=
  let x := s.port p
  let l := { x.fl i with tries := 0, noLock := false }
  match l.after with
  | some (cause, planned) => (s.setPort p (x.setFl i l)).flOut p i cause planned
  | none =>
    let x := x.setFl i { l with state := .spare, pos := x.freeSparePos }
    let s := s.setPort p x
    match x.holePos with
    | some q => s.announceFl p (.join q x.boundary i)
    | none => s

/-- One change takes effect. -/
def State.applyFl (s : State) (p : Nat) : FChange → State
  | .retire q _ cause planned =>
    match (s.port p).lineAt q with
    | some i => s.flOut p i cause planned
    | none => s
  | .join q _ i =>
    let x := s.port p
    let l := x.fl i
    if l.state == .spare then s.setPort p (x.setFl i { l with state := .data, pos := q })
    else
      match x.readySpare with
      | some j => s.announceFl p (.join q x.boundary j)
      | none => s

/-- The changes that `f` selects take effect, retirements first. -/
def State.applyFls (s : State) (p : Nat) (f : FChange → Bool) : State :=
  let x := s.port p
  let due := x.changes.filter f
  let s := s.setPort p { x with changes := x.changes.filter fun ch => !f ch }
  (due.filter FChange.isRetire ++ due.filter fun ch => !ch.isRetire).foldl (fun s ch => s.applyFl p ch) s

/-! ### DOWN and retraining (R391 to R397) -/

/-- Take every lane that has not failed out of service. -/
def Port.dim (x : Port) : Port :=
  (List.range 34).foldl (fun x i =>
    let l := x.fl i
    if l.state == .failed then x else x.setFl i { l with state := .dark, pos := 0, after := none }) x

/-- Was the port LIVE for R431 and R421: in LIVE, STANDBY, DEEP or a retrain? -/
def Port.wasLive (x : Port) : Bool :=
  match x.state with
  | .live | .standby | .deep => true
  | .train => x.retraining
  | .down => false

/-- An EVENT entry of a service state: origin of the press (R406, R577). -/
def State.svcEvent (s : State) (d code obj detail : Nat) : State := s.logEvent (tget .reset s.svcs d).origin code obj detail

/-- A connector's service state. -/
def State.svc (s : State) (d : Nat) : Svc := tget .reset s.svcs d

/-- Put back a connector's service state. -/
def State.setSvc (s : State) (d : Nat) (x : Svc) : State := { s with svcs := tset .reset s.svcs d x }

/-- The ports of a connector. -/
def svcPorts (d : Nat) : List Nat := (List.range 8).map (· + 8 * d)

/-- A port is quiesced. -/
def State.quiesced (s : State) (p : Nat) : State :=
  let s := s.modPort p fun x => { x with quiescing := false, quiesced := true, txOpen := false, probing := false, settled := false,
                                          cause := if s.portEnabled p then 3 else 1 }
  s.svcEvent (p / 8) 9 (Reg.Sd_PORTp_STATE p) p

/-- Every port of the connector is quiesced: SAFE. -/
def State.svcSafe (s : State) (d : Nat) : State :=
  if (s.svc d).svc = 1 && (svcPorts d).all fun p => (s.port p).quiesced then
    (s.setSvc d { s.svc d with svc := 2 }).svcEvent d 11 (Reg.Sd_SVC_STATUS d) d
  else s

/-- A port in a quiesce flushes: logged. -/
def State.quiesceFlush (s : State) (p : Nat) : State := s.svcEvent (p / 8) 10 (Reg.Sd_PORTp_STATE p) p

/-- A port becomes DOWN (R393, R394): its attenuator closes, but for causes 4 to 7 while there is light; the grace timer starts, or the port
flushes at once where the grace is 0, where it drains for a quiesce (which then takes it as quiesced), and under cause 3. -/
def State.portDown (s : State) (p cause : Nat) : State :=
  let x := s.port p
  if x.state == .down then s
  else
    let stay := decide (4 ≤ cause) && x.light
    let flush := cause = 3 || x.quiescing || s.rf (Reg.Sd_PORTp_TIMERS p) 10 14 = 0
    let y := { x.dim with state := .down, cause, txOpen := stay, settled := x.settled && stay, probing := false, retraining := false }
    let y := { y with rx := { stream := [], framed := false }, txPkts := [], txOff := 0, txMsgs := [] }
    let y := { y with changes := [], reqs := [], standbyReq := false, deepReq := false, peerDeep := false, replayDue := false }
    let s := s.setPort p { y with grace := !flush }
    let s := if flush && (x.unacked ≠ [] || x.held ≠ [] || cause ≠ 3) then s.portFlush p else s
    let s := if x.wasLive then s.helloEvent p else s
    let s := if cause = 1 || cause = 3 then s else s.raiseErr 2 0x25 (dieS (p / 8)) p none 0
    let s := if x.quiescing && cause ≠ 3 then ((s.quiesceFlush p).quiesced p).svcSafe (p / 8) else s
    s.readyUpd

/-- A LIVE port starts a retrain: replay buffer, numbers, credits and session stay. -/
def State.portRetrain (s : State) (p : Nat) : State :=
  let s := s.applyFls p FChange.isRetire
  let x := s.port p
  let x := (List.range 34).foldl (fun x i =>
    let l := x.fl i
    if l.state == .data || l.state == .spare then x.setFl i { l with state := .training } else x) x
  let x := { x with state := .train, retraining := true, changes := [], reqs := [], standbyReq := false, naked := false, nakDue := false,
                    rx := { stream := [], framed := false }, txPkts := [], txOff := 0, txMsgs := [] }
  (((s.setPort p x).setRb (Reg.Sd_PORTp_CTL p) 1 false).bump (Reg.Sd_PORTp_RETRAINS p)).readyUpd

/-- The span die of a port runs. -/
def State.portDie (s : State) (p : Nat) : Bool := s.dieUp (dieS (p / 8))

/-- The port is LIVE and its die runs. -/
def State.portLive (s : State) (p : Nat) : Bool := (s.port p).state == .live && s.portDie p

/-- Nothing to send and nothing unacknowledged. -/
def State.portIdle (s : State) (p : Nat) : Bool :=
  let x := s.port p
  x.unacked = [] && x.held = [] && !s.fab.waiting.any fun w => w.port == p

/-! ### Sending and receiving packets (R378 to R385, R388) -/

/-- The first packet that waits at a port on a VC: a held one, else the one queued first. -/
def State.firstWaiting (s : State) (p vc : Nat) : Option TxWait :=
  match (s.port p).held.find? fun w => w.vc == vc with
  | some w => some w
  | none => s.fab.waiting.find? fun w => w.port == p && w.vc == vc

/-- Take a waiting packet out of its queue. -/
def State.unwait (s : State) (p : Nat) (w : TxWait) : State :=
  let x := s.port p
  if x.held.contains w then s.setPort p { x with held := x.held.erase w }
  else { s with fab := { s.fab with waiting := s.fab.waiting.erase w } }

/-- The bytes that the held packets of a port take of its hold area (R384). -/
def Port.heldBytes (x : Port) : Nat := x.held.foldl (fun n w => n + 36 + 32 * Packet.units32 w.pkt) 0

/-- A packet goes to the line (R360). -/
def State.putPacket (s : State) (p vc lseq : Nat) (k : Packet) : State :=
  (s.modPort p fun x => { x with txPkts := x.txPkts ++ [pktBytes lseq vc k] }).emit (.packet p vc lseq k)

/-- PACKET_SEND (R378, R383, R388, R394): the packet, first of its VC, is numbered and sent within window and credit; in the grace period it
goes to the hold area while that has room. While the Bed path to the backwater is lost, no packet is sent that would make one spill. -/
def execPacketSend (p : Fin 16) (vc : Nat) (pkt : Packet) (s : State) : Host.Outcome State Fault Refusal :=
  let x := s.port p
  .next (match s.firstWaiting p vc with
    | none => s
    | some w =>
      if w.pkt ≠ pkt || !s.portDie p then s
      else if x.state == .down && x.grace && !x.held.contains w then
        if x.heldBytes + 36 + 32 * Packet.units32 pkt > 48 * 2 ^ 20 || !s.bwPath p then s
        else (s.unwait p w).modPort p fun y => { y with held := y.held ++ [w] }
      else if x.state != .live || x.replayDue || x.deepReq || x.width = 0 || x.unacked.length ≥ 32767 || x.credit vc < pktUnits pkt ||
          (!s.bwPath p && decide (4096 ≤ (x.unacked.filter fun k => !k.spilled).length)) then s
      else
        let k : TxPkt := { lseq := x.n, vc, pkt, spilled := false, own := w.own }
        let s := (s.unwait p w).modPort p fun y =>
          { y with n := (y.n + 1) % 65536, unacked := y.unacked ++ [k], sent := tset 0 y.sent vc ((tget 0 y.sent vc + pktUnits pkt) % 65536) }
        (s.spill p).putPacket p vc x.n pkt)

/-- A packet is discarded with a NAK, one per gap (R379). -/
def Port.nakNow (x : Port) : Port := if x.naked then x else { x with naked := true, nakDue := true }

/-- A packet from its bytes (R376, R426): its number, its VC, and the rest. -/
def packetOf (b : List Byte) : Nat × Nat × Packet :=
  let w := fun lo n bit wd => bfld b lo n / 2 ^ bit % 2 ^ wd
  (bfld b 0 2, w 2 1 0 3,
   { dst := w 4 3 0 18, hops := w 4 3 18 6, type := bfld b 7 1, src := w 8 3 0 18, srcDie := w 8 3 18 5, trk := w 8 3 23 1, mod := bfld b 11 1,
     tag := w 12 3 0 20, gen := w 12 3 20 4, status := bfld b 15 1, flowSeq := bfld b 16 4, addr := bfld b 20 6, workUnit := bfld b 26 4,
     epoch := bfld b 30 1, flags := bfld b 31 1, payload := (b.drop 32).take (32 * w 2 1 3 4) })

/-- A packet that the stream gave (R379): one with a bad CRC, or a loss of framing, is discarded with a NAK, the one expected is accepted, an
older one is a duplicate. An accepted packet reaches its unit as a row of its own. (DESIGN CHOICE, log 33) -/
def State.takePacket (s : State) (p : Nat) (f : Framed) : State :=
  let x := s.port p
  match f with
  | none => s.setPort p x.nakNow
  | some b =>
    if (crc32c (b.take (b.length - 4))).toNat ≠ ofBytesLE (b.drop (b.length - 4)) then s.setPort p x.nakNow
    else
      let (lseq, vc, pkt) := packetOf b
      let d := (lseq + 65536 - x.e) % 65536
      if d = 0 then
        s.setPort p { x with e := (x.e + 1) % 65536, naked := false, nakDue := false,
                             myCnt := tset 0 x.myCnt vc ((tget 0 x.myCnt vc + pktUnits pkt) % 65536) }
      else if d ≥ 32769 then s.bump (Reg.Sd_PORTp_DUP_DROPS p)
      else s.setPort p x.nakNow

/-- The lines of a port that carry its stream, by position. -/
def Port.serving (x : Port) : List Nat := (List.range 34).filterMap fun q => x.lineAt q

/-- One group of w codewords (R359 to R361): the receiver's stream, the packets, the symbols corrected with their lanes, the codewords that were
uncorrectable. -/
structure Group where
  rx : PortRx
  pkts : List Framed
  fixed : Nat
  bad : Nat
deriving DecidableEq, Repr

/-- Take a group's codewords in order. -/
def PortRx.group (x : PortRx) (lanes : List (List Nat)) : Group :=
  (List.range lanes.length).foldl (fun g c =>
    let fix := rsFix (groupCodeword lanes c)
    let (rx, ps) := g.rx.codeword (fix.bind fun f => codewordOf f.1)
    { rx, pkts := g.pkts ++ ps, fixed := g.fixed + ((fix.map fun f => f.2.length).getD 0),
      bad := g.bad + ((fix.bind fun f => codewordOf f.1).isNone).toNat }) { rx := x, pkts := [], fixed := 0, bad := 0 }

/-- The groups that the lanes of a port have complete, at most n. -/
def Port.groups (p : Nat) : Nat → Port → Port × List Framed × Nat × Nat
  | 0, x => (x, [], 0, 0)
  | n + 1, x =>
    let ls := x.serving
    if ls = [] || !ls.all (fun i => decide (2720 ≤ (x.fl i).rx.nbits)) then (x, [], 0, 0)
    else
      let take := fun i => let r := (x.fl i).rx; r.bits / 2 ^ (r.nbits - 2720)
      let g := x.rx.group (ls.map fun i => if (x.fl i).noLock then groupSyms 0 else groupSyms (take i))
      let y := ls.foldl (fun (y : Port) i =>
        let l := y.fl i
        y.setFl i { l with rx := { l.rx with bits := l.rx.bits % 2 ^ (l.rx.nbits - 2720), nbits := l.rx.nbits - 2720 } }) { x with rx := g.rx }
      let (z, ps, f, b) := Port.groups p n y
      (z, g.pkts ++ ps, g.fixed + f, g.bad + b)

/-- What blocks on the lanes of a port bring: the port, the packets and losses of framing in order, symbols corrected, codewords uncorrectable. -/
def Port.blocks (x : Port) (p : Nat) (data : List (Nat × List (BitVec 258))) : Port × List Framed × Nat × Nat :=
  let y := (x.serving ++ x.linesIn .spare).foldl (fun (y : Port) i => y.setFl i ((y.fl i).fiberData ((data.lookup i).getD []))) x
  Port.groups p 8 y

/-- PACKET_RECEIVE (R326, R358 to R361, R364, R379, R388): data blocks arrive on the lanes of the port, and with them packets. -/
def execPacketReceive (p : Fin 16) (data : List (Nat × List (BitVec 258))) (ebFault : Bool) (s : State) : Host.Outcome State Fault Refusal :=
  .next (if !s.portLive p then s
    else
      let (x, ps, fixed, bad) := (s.port p).blocks p data
      let s := ((s.setPort p x).bumpN (Reg.Sd_PORTp_CORRECTED p) fixed).bumpN (Reg.Sd_PORTp_UNCORR p) bad
      if x.serving ≠ [] && x.serving.all fun i => (x.fl i).noLock then s.portRetrain p
      else
        let s := ps.foldl (fun s f => s.takePacket p f) s
        if ebFault then (s.bump (Reg.Sd_PORTp_EB_FAULT p)).portRetrain p else s)

/-- Replay every unacknowledged packet (R380, R381, R383, R385): a spilled one that does not read back well flushes
the port, and the replay waits while the Bed path to the backwater is lost. (DESIGN CHOICE, log 31) -/
def State.portReplay (s : State) (p : Nat) (readBad : Bool) : State :=
  let x := s.port p
  if x.unacked = [] then s.modPort p fun y => { y with replayDue := false }
  else if x.unacked.any (·.spilled) && !s.bwPath p then s.modPort p fun y => { y with replayDue := true }
  else
    let s := s.bump (Reg.Sd_PORTp_REPLAYS p)
    let sp := x.unacked.filter (·.spilled)
    if (sp ≠ [] && readBad) || sp.any fun k => !s.spillOk p k then
      ((s.modPort p fun y => { y with replayDue := false }).portFlush p).raiseErr 2 0x25 (dieS (p / 8)) p none 0
    else
      let s := x.unacked.foldl (fun s k => s.putPacket p k.vc k.lseq k.pkt) s
      s.modPort p fun y => { y with replayDue := false, unacked := y.unacked.map fun k => { k with spilled := false } }

/-- The STATUS that the port sends (R365, R379). -/
def State.sendStatus (s : State) (p : Nat) (ack : Bool) : State :=
  let x := s.port p
  let m : StatusMsg := { ack := x.e, nak := x.nakDue, standbyReq := x.standbyReq, standbyAck := ack, deepReq := x.deepReq,
                         quiesce := x.quiescing, sfCount := x.sfCount, credits := (List.range 5).map (tget 0 x.myCnt),
                         heartbeat := x.heartbeat, session := x.session }
  (s.setPort p { x with nakDue := false, heartbeat := (x.heartbeat + 1) % 65536 }).emit (.status p m)

/-- A STATUS whose copies agree. -/
def State.statusGood (s : State) (p : Nat) (m : StatusMsg) (readBad : Bool) : State :=
  let x := s.port p
  let x := { x with sfCount := m.sfCount % 2 ^ 32, peerDeep := m.deepReq, peerCnt := tlist 0 0 (m.credits.take 5) }
  let a := m.ack % 65536
  let okAck := decide ((a + 65536 - x.u) % 65536 ≤ (x.n + 65536 - x.u) % 65536)
  let s := if okAck then
      let y := { x with u := a, unacked := x.unacked.drop ((a + 65536 - x.u) % 65536) }
      let s := s.setPort p y
      if m.nak || y.replayDue then s.portReplay p readBad else s
    else (s.setPort p x).bump (Reg.Sd_PORTp_CTL_ERR p)
  let s := s.modPort p fun y => if m.deepReq && y.unacked = [] then { y with deepReq := true } else y
  let may := s.portIdle p && s.rb (Reg.Sd_PORTp_CTL p) 10
  let sleep := may && (m.standbyReq || (m.standbyAck && (s.port p).standbyReq))
  let s := s.sendStatus p (may && m.standbyReq)
  if sleep then s.modPort p fun y => { y with state := .standby, standbyReq := false } else s

/-- ACK_TIMEOUT (R381, R385). -/
def execAckTimeout (p : Fin 16) (readBad : Bool) (s : State) : Host.Outcome State Fault Refusal :=
  .next (if s.portLive p && (s.port p).unacked ≠ [] then s.portReplay p readBad else s)

/-- PORT_CREDIT_TIMEOUT (R390): a packet waits for credit. -/
def execPortCreditTimeout (p : Fin 16) (s : State) : Host.Outcome State Fault Refusal :=
  let x := s.port p
  let starved := (List.range 5).any fun vc => match s.firstWaiting p vc with
    | some w => decide (x.credit vc < pktUnits w.pkt)
    | none => false
  .next (if s.portLive p && x.width ≠ 0 && starved then (s.bump (Reg.Sd_PORTp_CREDIT_TO p)).portRetrain p else s)

/-- STATUS_MISSING (R391). -/
def execStatusMissing (p : Fin 16) (s : State) : Host.Outcome State Fault Refusal := .next (if s.portLive p then s.portRetrain p else s)

/-! ### Control slots (R365, R366, R371) -/

/-- RETIRE: of two boundaries for one position the earlier applies; it answers a REQ_RETIRE. -/
def State.flRetireMsg (s : State) (p pos c : Nat) (planned : Bool) : State :=
  let x := s.port p
  let cause := ((x.reqs.find? fun r => r.1 == pos).map (·.2)).getD 0
  let changes := if x.retiring pos then
      x.changes.map fun ch => match ch with
        | .retire q d k pl => if q = pos && reached d c then .retire q c k pl else .retire q d k pl
        | y => y
    else x.changes ++ [.retire pos c cause planned]
  s.setPort p { x with changes, reqs := x.reqs.filter fun r => r.1 ≠ pos }

/-- ADMIT: only λ32 and λ33, or a lane that returned as a spare, are called in. -/
def State.flAdmitMsg (s : State) (p pos c line : Nat) : State :=
  let x := s.port p
  if x.filling pos || (x.fl line).state != .spare || line ≥ 34 then s else s.setPort p { x with changes := x.changes ++ [.join pos c line] }

/-- REQ_RETIRE: the sender retires the position. -/
def State.flReqMsg (s : State) (p pos cause : Nat) : State :=
  let x := s.port p
  match (x.linesIn .data ++ x.linesIn .spare).find? fun i => (x.fl i).pos == pos with
  | some i => s.retireFl p i cause false
  | none => s

/-- The fields of a STATUS (R365). -/
def statusOf (b : List Byte) : StatusMsg :=
  let fl := bfld b 3 1
  { ack := bfld b 1 2, nak := fl.testBit 0, standbyReq := fl.testBit 1, standbyAck := fl.testBit 2, deepReq := fl.testBit 3, quiesce := fl.testBit 4,
    sfCount := bfld b 4 4, credits := (List.range 5).map fun i => bfld b (8 + 2 * i) 2, heartbeat := bfld b 18 2, session := bfld b 20 2 }

/-- The bytes of a STATUS. -/
def statusBytes (m : StatusMsg) : List Byte :=
  [0x3C] ++ toBytesLE 2 m.ack ++
    toBytesLE 1 (m.nak.toNat + 2 * m.standbyReq.toNat + 4 * m.standbyAck.toNat + 8 * m.deepReq.toNat + 16 * m.quiesce.toNat) ++
    toBytesLE 4 m.sfCount ++ (m.credits.take 5).flatMap (toBytesLE 2) ++ toBytesLE 2 m.heartbeat ++ toBytesLE 2 m.session

/-- The lanes that carry message k of a slot (R366): at positions k and k + floor(w ÷ 2); in a port of width 2 or 3 the ready spares too. -/
def Port.copies (x : Port) (k : Nat) : List Nat :=
  let ls := x.serving
  let w := ls.length
  [ls.getD k 34, ls.getD (k + w / 2) 34] ++ (if w ≤ 3 then (x.linesIn .spare).filter fun i => decide (32 ≤ i) else [])

/-- A control slot of a port: its lanes' receivers, and what the copies of each message came to (R366). -/
def Port.slot (x : Port) (blocks : List (Nat × BitVec 258)) : Port × List (CtlRx × List Byte) :=
  let got := fun i => (x.fl i).fiberBlock (((blocks.lookup i).map (·.toNat)).getD 0)
  let y := (x.serving ++ x.linesIn .spare).foldl (fun (y : Port) i => y.setFl i (got i).1) x
  (y, (List.range (x.serving.length / 2)).map fun k =>
    match ((x.copies k).filter fun i => !(got i).1.noLock && (got i).2.1 && slotOk (got i).2.2).map fun i => (got i).2.2 with
    | [] => (.failed, [])
    | b :: t => if t.all (· == b) then (.good, b) else (.disagree, []))

/-- One message of a slot (R366, R391): copies that disagree are dropped and counted, a message without a good copy retrains the port. -/
def State.slotMsg (s : State) (p : Nat) (m : CtlRx × List Byte) (readBad : Bool) : State :=
  if !s.portLive p then s
  else
    let b := m.2
    match m.1 with
    | .disagree => s.bump (Reg.Sd_PORTp_CTL_ERR p)
    | .failed => s.portRetrain p
    | .good =>
      match bfld b 0 1 with
      | 0x3C => s.statusGood p (statusOf b) readBad
      | 0x55 => s.flRetireMsg p (bfld b 1 1) (bfld b 2 4) (bfld b 6 1 % 2 == 1)
      | 0x66 => s.flAdmitMsg p (bfld b 1 1) (bfld b 2 4) (bfld b 6 1)
      | 0x78 => s.flReqMsg p (bfld b 1 1) (bfld b 2 1)
      | _ => s

/-- A control slot arrives: every message it carries is acted on, in order. (DESIGN CHOICE, log 33) -/
def State.slotIn (s : State) (p : Nat) (blocks : List (Nat × BitVec 258)) (readBad : Bool) : State :=
  if !s.portLive p then s
  else
    let (x, ms) := (s.port p).slot blocks
    ms.foldl (fun s m => s.slotMsg p m readBad) (s.setPort p x)

/-- STATUS (R366, R374, R375, R380, R388, R391): a good one releases packets, starts a replay, brings credit, and the port answers with its
own. (DESIGN CHOICE, log 33) -/
def execStatus (p : Fin 16) (blocks : List (Nat × BitVec 258)) (readBad : Bool) (s : State) : Host.Outcome State Fault Refusal :=
  .next (s.slotIn p blocks readBad)

/-- PORT_RETIRE. -/
def execPortRetire (p : Fin 16) (blocks : List (Nat × BitVec 258)) (readBad : Bool) (s : State) : Host.Outcome State Fault Refusal :=
  .next (s.slotIn p blocks readBad)

/-- PORT_ADMIT. -/
def execPortAdmit (p : Fin 16) (blocks : List (Nat × BitVec 258)) (readBad : Bool) (s : State) : Host.Outcome State Fault Refusal :=
  .next (s.slotIn p blocks readBad)

/-- PORT_REQ_RETIRE. -/
def execPortReqRetire (p : Fin 16) (blocks : List (Nat × BitVec 258)) (readBad : Bool) (s : State) : Host.Outcome State Fault Refusal :=
  .next (s.slotIn p blocks readBad)

/-- PORT_BOUNDARY (R371): the changes due take effect; a width below min_width makes the port DOWN. -/
def execPortBoundary (p : Fin 16) (c : Nat) (s : State) : Host.Outcome State Fault Refusal :=
  .next (if !s.portLive p then s
    else
      let w := (s.port p).width
      let s := (s.modPort p fun x => { x with sfCount := c % 2 ^ 32 }).applyFls p fun ch => reached c ch.at
      let w' := (s.port p).width
      if w' < s.minWidth p && w' < w then s.portDown p 7
      else if w' ≠ w then s.helloEvent p
      else s)

/-- PORT_REQ_RETIRE_TIMEOUT (R391). -/
def execPortReqRetireTimeout (p : Fin 16) (s : State) : Host.Outcome State Fault Refusal :=
  let x := s.port p
  .next (if !s.portLive p || x.reqs = [] then s
    else
      let s := x.reqs.foldl (fun s r => match (s.port p).lineAt r.1 with | some i => s.flOut p i r.2 false | none => s) s
      (s.portRetrain p).helloEvent p)

/-- PORT_LANE_ERROR_LIMIT (R372 cause 2). -/
def execPortLaneErrorLimit (p : Fin 16) (line : Nat) (s : State) : Host.Outcome State Fault Refusal :=
  .next (if !s.portDie p || line ≥ 34 then s
    else
      match ((s.port p).fl line).state with
      | .data | .spare => s.askRetireFl p line 2
      | _ => s)

/-- PORT_LANE_TRAINING_DONE (R345, R346, R372). -/
def execPortLaneTrainingDone (p : Fin 16) (line : Nat) (ok : Bool) (s : State) : Host.Outcome State Fault Refusal :=
  let x := s.port p
  let l := x.fl line
  .next (if !s.portLive p || line ≥ 34 || !(l.state == .training || l.state == .retired) || !s.flRings p line then s
    else if ok then s.flBack p line
    else if l.tries + 1 ≥ 3 then s.flOut p line 5 false
    else s.setPort p (x.setFl line { l with tries := l.tries + 1 }))

/-! ### Training (R367 to R370, R392, R398) -/

/-- PORT_LOCK_LOSS (R392). -/
def execPortLockLoss (p : Fin 16) (s : State) : Host.Outcome State Fault Refusal := .next (if s.portLive p then s.portRetrain p else s)

/-- LOCK_TIMEOUT (R392). -/
def execLockTimeout (p : Fin 16) (s : State) : Host.Outcome State Fault Refusal :=
  let x := s.port p
  .next (if s.portDie p && x.state == .train && x.retraining then s.portDown p 4 else s)

/-- May a port train (R367)? -/
def State.portMayTrain (s : State) (p : Nat) : Bool :=
  let x := s.port p
  s.portDie p && !s.asleep && s.portEnabled p && s.bwValid p && s.portRings p && x.settled && x.light && x.txOpen && x.state == .down && !x.quiesced

/-- Start the full training: at 28 GBd NRZ in large-fabric mode, at 56 GBd PAM4 in small-fabric mode, not above max_rate. -/
def State.portTrain (s : State) (p : Nat) : State :=
  let x := s.port p
  let x := (List.range 34).foldl (fun x i =>
    let l := x.fl i
    if l.state == .failed then x else x.setFl i { l with state := .training, pos := i, tries := 0, after := none, noLock := true, rx := .init }) x
  let rate := if s.fuses.smallFabric then s.rf (Reg.Sd_PORTp_CTL p) 2 2 else 0
  let x := { x with state := .train, cause := 0, rate, retraining := false, steered := false, peerValid := false, probing := false }
  ((s.setPort p x).setRb (Reg.Sd_PORTp_CTL p) 1 false).readyUpd

/-- PORT_TRAINING_START. -/
def execPortTrainingStart (p : Fin 16) (s : State) : Host.Outcome State Fault Refusal := .next (if s.portMayTrain p then s.portTrain p else s)

/-- PORT_TRAINING_RETRY (R393): every 100 ms under causes 4 to 7 while there is light. -/
def execPortTrainingRetry (p : Fin 16) (s : State) : Host.Outcome State Fault Refusal :=
  .next (if s.portMayTrain p && decide (4 ≤ (s.port p).cause) then s.portTrain p else s)

/-- The device tag (R365): the first 8 bytes of the identity digest. -/
def State.devTag (s : State) : Nat := ofBytesLE (s.ownDigest.take 8)

/-- A TS1 or TS2 block (R370): the sender's lane takes its position; the receive fiber on which the peer port hears this port is its pair, which
small-fabric mode steers to it, and which makes it miswired in large-fabric mode where it is not its own. (DESIGN CHOICE, log 33) -/
def State.portTs (s : State) (p fiber : Nat) (ts : PortTs) : State :=
  let x := s.port p
  if x.state != .train || x.retraining || !s.portDie p || fiber ≥ 8 || ts.line ≥ 34 then s
  else
    let l := x.fl ts.line
    let x := if l.state == .training && ts.position < 34 then x.setFl ts.line { l with pos := ts.position } else x
    if !(ts.heardValid && ts.heardPort = p && ts.heardTag = s.devTag) then s.setPort p x
    else
      let x := { x with peerTag := ts.tag, peerPort := ts.port, peerFiber := fiber, peerValid := true }
      if fiber = p % 8 then s.setPort p { x with steered := false }
      else if s.fuses.smallFabric then s.setPort p { x with steered := true }
      else (s.setPort p x).portDown p 6

/-- The fields of a TS1 or TS2 (R365). -/
def portTsOf (b : List Byte) : PortTs :=
  { step := bfld b 1 1, port := bfld b 2 1, line := bfld b 3 1, position := bfld b 4 1, rate := bfld b 5 1, small := bfld b 6 1 % 2 == 1,
    tag := bfld b 7 8, session := bfld b 15 2, heardPort := bfld b 17 1 % 128, heardValid := bfld b 17 1 ≥ 128, heardTag := bfld b 18 8,
    echoOut := bfld b 26 2, echoBack := bfld b 28 2 }

/-- A TS2: the step is complete, at the rate the block names (R368). -/
def State.portStepDone (s : State) (p : Nat) (ts : PortTs) : State :=
  let x := s.port p
  if x.state == .train && !x.retraining && ts.rate ≤ s.rf (Reg.Sd_PORTp_CTL p) 2 2 then s.setPort p { x with rate := ts.rate } else s

/-- Blocks that arrive on a lane of a port in training, from one receive fiber (R326, R329, R358, R365): block lock is sought, and each TS1 or TS2
that passes its parity is acted on. -/
def State.portTsIn (s : State) (p fiber line : Nat) (blocks : List (BitVec 258)) : State :=
  if (s.port p).state != .train || !s.portDie p || line ≥ 34 then s
  else
    blocks.foldl (fun s b =>
      let (l, ctl, c) := ((s.port p).fl line).fiberBlock b.toNat
      let s := s.modPort p fun x => x.setFl line l
      if l.noLock || !ctl || !slotOk c then s
      else if bfld c 0 1 = 0x33 then s.portTs p fiber (portTsOf c)
      else if bfld c 0 1 = 0x4B then (s.portTs p fiber (portTsOf c)).portStepDone p (portTsOf c)
      else s) s

/-- PORT_TS1. -/
def execPortTs1 (p : Fin 16) (fiber line : Nat) (blocks : List (BitVec 258)) (s : State) : Host.Outcome State Fault Refusal :=
  .next (s.portTsIn p fiber line blocks)

/-- PORT_TS2. -/
def execPortTs2 (p : Fin 16) (fiber line : Nat) (blocks : List (BitVec 258)) (s : State) : Host.Outcome State Fault Refusal :=
  .next (s.portTsIn p fiber line blocks)

/-- The trained lanes take their positions, or leave where a retirement waited for them; spares fill the positions that are empty. -/
def State.flUp (s : State) (p : Nat) : State :=
  let s := ((s.port p).linesIn .training).foldl (fun s i =>
    let x := s.port p
    let l := { x.fl i with tries := 0, noLock := false }
    match l.after with
    | some (cause, planned) => (s.setPort p (x.setFl i l)).flOut p i cause planned
    | none => s.setPort p (x.setFl i { l with state := if l.pos < 32 then .data else .spare })) s
  (List.range 32).foldl (fun s q =>
    let x := s.port p
    if (x.lineAt q).isSome then s
    else
      match x.readySpare with
      | some i => s.setPort p (x.setFl i { x.fl i with state := .data, pos := q })
      | none => s) s

/-- The shares of a fresh start (R387): a split that leaves a VC below 8 units is replaced by the defaults. -/
def State.creditSplit (s : State) (p : Nat) : List Nat × Bool :=
  let c := s.rf (Reg.Sd_PORTp_CREDIT0 p) 0 13
  let a := s.rf (Reg.Sd_PORTp_CREDIT0 p) 16 13
  let b := s.rf (Reg.Sd_PORTp_CREDIT1 p) 0 13
  let r := s.rf (Reg.Sd_PORTp_CREDIT1 p) 16 13
  if c < 8 || a < 8 || b < 8 || r < 8 || c + a + b + r + 8 > 8192 then ([256, 1984, 1984, 1984, 1984], true)
  else ([c, a, b, r, 8192 - (c + a + b + r)], false)

/-- A fresh start (R398). -/
def State.freshStart (s : State) (p peerSession : Nat) : State :=
  let s := s.discardPkts p false
  let (sh, bad) := s.creditSplit p
  let s := if bad then s.raiseErr 0 0x26 (dieS (p / 8)) p none 0 else s
  s.modPort p fun x => { x with u := 0, n := 0, e := 0, naked := false, nakDue := false, sent := [], peerCnt := [], myCnt := tlist 0 0 sh, shares := sh,
                                session := nextSession (max x.session peerSession), replayDue := false }

/-- The end of a retrain (R391, R392): three failures within 1 s make the port DOWN. (DESIGN CHOICE, log 33) -/
def State.retrainEnd (s : State) (p : Nat) (ok : Bool) (failed : List Nat) : State :=
  if ok then
    let bad := ((s.port p).linesIn .training).filter failed.contains
    let s := (bad.foldl (fun s i => s.flOut p i 5 false) s).flUp p
    let s := if bad = [] then s else s.helloEvent p
    if (s.port p).width < s.minWidth p then s.portDown p 7
    else (s.modPort p fun x => { x with state := .live, retraining := false, replayDue := true }).readyUpd
  else
    let x := s.port p
    let t := (x.failTicks.filter fun t => decide (s.ticks < t + 32768)) ++ [s.ticks]
    if t.length ≥ 3 then (s.setPort p { x with failTicks := [] }).portDown p 5 else s.setPort p { x with failTicks := t }

/-- PORT_TRAINING_DONE (R368, R369, R387, R398). `failed` are the lines that failed their attempts. -/
def execPortTrainingDone (p : Fin 16) (ok : Bool) (rate rtt : Nat) (failed : List Nat) (peerTag peerPort peerSession : Nat) (s : State) :
    Host.Outcome State Fault Refusal :=
  let x := s.port p
  .next (if x.state != .train || !s.portDie p then s
    else if x.retraining then s.retrainEnd p ok failed
    else
      let s := ((x.linesIn .training).filter failed.contains).foldl (fun s i => s.flOut p i 5 false) s
      let s := s.flUp p
      if !ok || rate > s.rf (Reg.Sd_PORTp_CTL p) 2 2 || (s.port p).width < s.minWidth p then s.portDown p 5
      else
        let same := x.last = some (peerTag, peerPort) && x.session = peerSession && x.session ≠ 0
        let s := if same then s.modPort p fun y => { y with replayDue := true } else s.freshStart p peerSession
        let s := s.modPort p fun y =>
          { y with state := .live, cause := 0, rate, rtt := rtt % 65536, grace := false, peerTag, peerPort, peerValid := true,
                   last := some (peerTag, peerPort) }
        (s.helloEvent p).readyUpd)

/-! ### The line of a port (R358 to R360, R364 to R366) -/

/-- The 320 bytes of a codeword from the packets that wait (R360): the offset of the first packet that begins in it, the bytes, the packets
left and how many bytes of the first are sent. -/
def cutCodeword (off : Nat) : Nat → List (List Byte) → Option Nat × List Byte × List (List Byte) × Nat
  | _, [] => (none, [], [], 0)
  | room, k :: t =>
    let n := k.length - off
    let start := if off = 0 && decide (0 < room) then some (320 - room) else none
    if room < n then (start, (k.drop off).take room, k :: t, off + room)
    else
      let (st, bs, rest, o) := cutCodeword 0 (room - n) t
      (start.or st, k.drop off ++ bs, rest, o)

/-- n codewords in order. -/
def cutCodewords : Nat → Nat → List (List Byte) → List (List Nat) × List (List Byte) × Nat
  | 0, off, ks => ([], ks, off)
  | n + 1, off, ks =>
    let (ptr, bs, ks, off) := cutCodeword off 320 ks
    let (cs, ks, off) := cutCodewords n off ks
    (codewordSyms ptr bs :: cs, ks, off)

/-- The messages of the next control slot (R366), the messages that still wait, and whether the slot gave STATUS's place away. -/
def Port.slotMsgs (x : Port) (status : List Byte) : List (List Byte) × List (List Byte) × Bool :=
  let m := x.serving.length / 2
  if m ≥ 2 then (status :: x.txMsgs.take (m - 1), x.txMsgs.drop (m - 1), false)
  else
    match x.txMsgs with
    | k :: t => if x.msgLast then ([status], x.txMsgs, false) else ([k], t, true)
    | [] => ([status], [], false)

/-- The blocks of one lane with the SKIPs that fall among them (R364), after `n` blocks since the last. -/
def withSkips : Nat → List (Bool × Nat) → List (Bool × Nat)
  | _, [] => []
  | n, b :: t => if n = 4095 then (true, ofBytesBE (padTo 32 [0x5A])) :: b :: withSkips 1 t else b :: withSkips (n + 1) t

/-- Send one superframe of a port (R358 to R360, R364, R366): the control slot, then eight groups of codewords, gaps where no packet waits. (DEDUCED, log 61) -/
def State.sendFrame (s : State) (p : Nat) : State :=
  let x := s.port p
  let ls := x.serving
  let w := ls.length
  let m : StatusMsg := { ack := x.e, nak := x.nakDue, standbyReq := x.standbyReq, standbyAck := false, deepReq := x.deepReq, quiesce := x.quiescing,
                         sfCount := x.sfCount, credits := (List.range 5).map (tget 0 x.myCnt), heartbeat := x.heartbeat, session := x.session }
  let (msgs, left, gave) := x.slotMsgs (statusBytes m)
  let (cs, ks, off) := cutCodewords (8 * w) x.txOff x.txPkts
  let groups := (List.range 8).map fun g => groupLanes ((cs.drop (w * g)).take w)
  let laneBlocks := fun (r : Nat) (data : Bool) =>
    let bits := if data then groups.foldl (fun n g => n * 2 ^ 2720 + g.getD r 0) 0 else 0
    let slot := if data then (if r < w / 2 * 2 then msgs.getD (r % (w / 2)) [] else []) else if w ≤ 3 then msgs.getD 0 [] else []
    withSkips x.skipCnt ((true, ofBytesBE (slotBytes (if slot = [] then [0x1E] else slot))) ::
      (List.range 85).map fun j => (false, bits / 2 ^ (256 * (84 - j)) % 2 ^ 256))
  let send := fun (y : Nat × List (Bool × Nat)) => (y.1, sendBlocks (x.fl y.1).tx y.2)
  let out := (ls.zipIdx.map fun y => send (y.1, laneBlocks y.2 true)) ++ (x.linesIn .spare).map fun i => send (i, laneBlocks 0 false)
  let x := out.foldl (fun (x : Port) y => x.setFl y.1 { x.fl y.1 with tx := y.2.1 }) x
  (s.setPort p { x with txPkts := ks, txOff := off, txMsgs := left, msgLast := gave, nakDue := x.nakDue && gave, sfCount := (x.sfCount + 1) % 2 ^ 32,
                        heartbeat := if gave then x.heartbeat else (x.heartbeat + 1) % 65536,
                        skipCnt := if x.skipCnt + 86 > 4095 then x.skipCnt + 86 - 4095 else x.skipCnt + 86 }).emit
    (.frame p (out.map fun y => (y.1, y.2.2)))

/-- A LIVE port with a lane in service, and something to put on the line. -/
def State.portBusy (s : State) (p : Nat) : Bool :=
  let x := s.port p
  s.portLive p && (x.txPkts ≠ [] || x.txMsgs ≠ []) && decide (2 ≤ x.width)

/-! ### STANDBY and DEEP (R374, R375) -/

/-- STANDBY_IDLE_EXPIRY: the port asks for STANDBY. -/
def execStandbyIdleExpiry (p : Fin 16) (s : State) : Host.Outcome State Fault Refusal :=
  let x := s.port p
  .next (if s.portLive p && s.rb (Reg.Sd_PORTp_CTL p) 10 && s.portIdle p && !x.deepReq && !x.quiescing then s.setPort p { x with standbyReq := true } else s)

/-- STANDBY_EXIT. -/
def execStandbyExit (p : Fin 16) (s : State) : Host.Outcome State Fault Refusal :=
  let x := s.port p
  .next (if x.state == .standby && s.portDie p then s.setPort p { x with state := .live } else s)

/-- PORT_DEEP_ENTRY: its window is empty and the peer answered. -/
def execPortDeepEntry (p : Fin 16) (s : State) : Host.Outcome State Fault Refusal :=
  let x := s.port p
  .next (if s.portLive p && x.deepReq && x.peerDeep && x.unacked = [] then s.setPort p { x with state := .deep, txOpen := false, deepReq := false, peerDeep := false }
    else s)

/-- A port leaves DEEP: it opens its attenuator and retrains. -/
def State.portWake (s : State) (p : Nat) : State :=
  let x := s.port p
  let s := s.setPort p { x with txOpen := true, state := .live }
  s.portRetrain p

/-- PORT_DEEP_EXIT: the waking side. -/
def execPortDeepExit (p : Fin 16) (s : State) : Host.Outcome State Fault Refusal :=
  .next (if (s.port p).state == .deep && s.portDie p && !s.asleep then s.portWake p else s)

/-- DEEP_WAKE_TIMEOUT: no light within 10 ms. -/
def execDeepWakeTimeout (p : Fin 16) (s : State) : Host.Outcome State Fault Refusal :=
  let x := s.port p
  .next (if x.state == .train && x.retraining && !x.light && s.portDie p then s.portDown p 2 else s)

/-! ### Grace, light and probing (R395, R399, R400) -/

/-- GRACE_EXPIRY. -/
def execGraceExpiry (p : Fin 16) (s : State) : Host.Outcome State Fault Refusal :=
  let x := s.port p
  .next (if x.state == .down && x.grace && s.portDie p then s.portFlush p else s)

/-- A DOWN port's attenuator closes for want of light: it is DOWN with cause 2 and comes back by probing; one that was DOWN under
another cause enters the record. -/
def State.portDark (s : State) (p : Nat) : State :=
  let x := s.port p
  let keep := x.cause = 2 || x.cause = 3
  let s := s.setPort p { x with txOpen := false, probing := false, settled := false, cause := if keep then x.cause else 2 }
  if keep then s else s.raiseErr 2 0x25 (dieS (p / 8)) p none 0

/-- RECEIVE_DARK (R399). -/
def execReceiveDark (p : Fin 16) (s : State) : Host.Outcome State Fault Refusal :=
  let x := s.port p
  .next (if !s.portDie p then s
    else
      let lit := x.light
      let s := s.setPort p { x with light := false, settled := false }
      if x.state == .deep || !x.txOpen || !lit then s
      else
        let s := s.bump (Reg.Sd_PORTp_DARK p)
        if x.state == .down then s.portDark p else s.portDown p 2)

/-- A port that probes opens its attenuator on light (R400, R403). -/
def Port.probes (x : Port) : Bool := x.state == .down && (x.cause == 2 || x.cause == 3)

/-- LIGHT_PRESENT (R375, R393, R399, R400). -/
def execLightPresent (p : Fin 16) (s : State) : Host.Outcome State Fault Refusal :=
  let x := s.port p
  .next (if !s.portDie p then s
    else
      let s := s.setPort p { x with light := true }
      if x.state == .deep then if s.asleep then s else s.portWake p
      else if x.state == .down && s.portEnabled p && !s.asleep && decide (2 ≤ x.cause) then
        s.modPort p fun y => { y with txOpen := true, probing := false }
      else s)

/-- PROBE_CYCLE (R400 step 1). -/
def execProbeCycle (p : Fin 16) (s : State) : Host.Outcome State Fault Refusal :=
  let x := s.port p
  .next (if s.portDie p && !s.asleep && s.portEnabled p && x.probes && !x.txOpen then s.setPort p { x with txOpen := true, probing := true } else s)

/-- PROBE_WINDOW_END: without light the attenuator closes. -/
def execProbeWindowEnd (p : Fin 16) (s : State) : Host.Outcome State Fault Refusal :=
  let x := s.port p
  .next (if x.probing then s.setPort p { x with probing := false, txOpen := x.light && x.txOpen } else s)

/-- ENABLE_LIGHT_TIMEOUT (R400): a newly enabled port saw no light within 1 ms. -/
def execEnableLightTimeout (p : Fin 16) (s : State) : Host.Outcome State Fault Refusal :=
  let x := s.port p
  .next (if s.portDie p && s.portEnabled p && x.state == .down && x.cause == 1 && x.txOpen && !x.light then s.portDark p else s)

/-! ### Quiesce (R401 to R406) -/

/-- A press quiesces one port (R402): at once where it is DOWN or disabled; a training is aborted; else it drains. -/
def State.quiescePort (s : State) (p : Nat) : State :=
  let x := s.port p
  match x.state with
  | .down => if x.quiesced then s else s.quiesced p
  | .train =>
    let idle := s.portIdle p
    let s := (s.setPort p { x with quiescing := true }).portDown p 3
    (if idle then s else s.quiesceFlush p).quiesced p
  | _ => s.setPort p { x with quiescing := true, standbyReq := false }

/-- A press. -/
def State.press (s : State) (d : Nat) (o : Origin) : State :=
  if !s.dieUp (dieS d) then s
  else if (s.svc d).svc ≠ 0 then s.logEvent o 8 (Reg.Sd_SVC_STATUS d) d
  else
    let s := (s.setSvc d { svc := 1, origin := o, blink := false }).svcEvent d 7 (Reg.Sd_SVC_STATUS d) d
    ((svcPorts d).foldl (fun s p => s.quiescePort p) s).svcSafe d

/-- SERVICE_BUTTON_PRESS. -/
def execServiceButtonPress (d : Fin 2) (s : State) : Host.Outcome State Fault Refusal := .next (s.press d .serviceButton)

/-- QUIESCE_DRAIN_END (R402): the window is empty and nothing is held. -/
def execQuiesceDrainEnd (p : Fin 16) (s : State) : Host.Outcome State Fault Refusal :=
  let x := s.port p
  .next (if x.quiescing && s.portIdle p && s.portDie p then ((s.portDown p 3).quiesced p).svcSafe (p / 8) else s)

/-- QUIESCE_LIMIT (R402): a port still unacknowledged flushes. -/
def execQuiesceLimit (d : Fin 2) (s : State) : Host.Outcome State Fault Refusal :=
  .next (if (s.svc d).svc ≠ 1 || !s.dieUp (dieS d) then s
    else
      ((svcPorts d).foldl (fun s p =>
        if (s.port p).quiescing then
          let idle := s.portIdle p
          let s := s.portDown p 3
          (if idle then s else s.quiesceFlush p).quiesced p
        else s) s).svcSafe d)

/-- A cancel (R404): nothing where none is pending. -/
def State.svcCancel (s : State) (d : Nat) (o : Origin) : State :=
  if (s.svc d).svc = 0 || !s.dieUp (dieS d) then s
  else
    let s := s.logEvent o 12 (Reg.Sd_SVC_STATUS d) d
    let s := (svcPorts d).foldl (fun s p =>
      let x := s.port p
      if x.quiescing || x.quiesced then
        (s.setPort p { x with quiescing := false, quiesced := false }).logEvent o 13 (Reg.Sd_PORTp_STATE p) p
      else s) s
    s.setSvc d { svc := 0, origin := o, blink := true }

/-- LONG_PRESS. -/
def execLongPress (d : Fin 2) (s : State) : Host.Outcome State Fault Refusal := .next (s.svcCancel d .serviceButton)

/-- CANCEL_BLINK_END. -/
def execCancelBlinkEnd (d : Fin 2) (s : State) : Host.Outcome State Fault Refusal := .next (s.setSvc d { s.svc d with blink := false })

/-- LIGHT_SETTLED (R393, R400, R403): light has been present in both directions for 3 s; a quiesced port leaves quiesce. -/
def execLightSettled (p : Fin 16) (s : State) : Host.Outcome State Fault Refusal :=
  let x := s.port p
  .next (if x.state != .down || !x.light || !x.txOpen || !s.portDie p then s
    else
      let s := s.setPort p { x with settled := true, quiesced := false }
      if x.quiesced then
        let s := s.svcEvent (p / 8) 13 (Reg.Sd_PORTp_STATE p) p
        s.setSvc (p / 8) { s.svc (p / 8) with svc := 0 }
      else s)

/-! ### Registers (R407 to R416) -/

/-- Sd_PORTp_STATE. -/
def State.portStateWord (s : State) (p : Nat) : Word :=
  let x := s.port p
  let st := match x.state with | .down => 0 | .train => 1 | .live => 2 | .standby => 3 | .deep => 4
  BitVec.ofNat 32 (st + x.cause * 8 + x.rate * 64 + x.width * 256 + (x.linesIn .spare).length * 2 ^ 14 + x.grace.toNat * 2 ^ 16 +
    x.steered.toNat * 2 ^ 17 + x.light.toNat * 2 ^ 18 + x.txOpen.toNat * 2 ^ 19 + x.probing.toNat * 2 ^ 20)

/-- Sd_PORTp_BW. -/
def State.portBwWord (s : State) (p : Nat) : Word := (s.reg (Reg.Sd_PORTp_BW p)).setFld 31 1 (s.bwValid p).toNat

/-- Sd_PORTp_WINDOW. -/
def State.portWindow (s : State) (p : Nat) : Word :=
  let x := s.port p
  BitVec.ofNat 32 ((x.n + 65536 - x.u) % 65536 + (x.unacked.filter (·.spilled)).length * 2 ^ 16)

/-- Sd_PORTp_PEER. -/
def State.portPeer (s : State) (p : Nat) : Word :=
  let x := s.port p
  BitVec.ofNat 32 (x.peerPort % 256 + x.peerFiber * 256 + x.peerValid.toNat * 2 ^ 11 + x.rtt * 2 ^ 16)

/-- Sd_PORTp_LANE_STATUS. -/
def State.flStatus (s : State) (p : Nat) : Word :=
  let l := (s.port p).fl (s.rf (Reg.Sd_PORTp_LANE_SEL p) 0 6)
  let st := match l.state with | .data => 0 | .spare => 1 | .retired => 2 | .training => 3 | .failed => 4 | .dark => 5
  BitVec.ofNat 32 (st + l.pos * 8 + l.cause * 2 ^ 10 + l.planned.toNat * 2 ^ 13)

/-- Sd_SVC_STATUS with its LEDs (R405). -/
def State.svcStatus (s : State) (d : Nat) : Word :=
  let x := s.svc d
  let ps := svcPorts d
  let q := ps.foldl (fun n p => n + (if (s.port p).quiesced then 2 ^ (p % 8) else 0)) 0
  let dark := ps.all fun p => (s.port p).quiesced && !(s.port p).txOpen
  let green := if x.svc = 1 then 1 else if x.svc = 2 && dark then 2 else 0
  let amber := if x.blink then 1 else if green = 0 && ps.any (fun p => s.portEnabled p && (s.port p).state == .down && !(s.port p).quiesced) then 2 else 0
  BitVec.ofNat 32 (x.svc + q * 8 + green * 2 ^ 11 + amber * 2 ^ 13)

/-- Keep the present bits of a field whose written value is not allowed. -/
def keepFld (cur v : Word) (lo w : Nat) (bad : Nat → Bool) : Word := if bad (v.fld lo w) then v.setFld lo w (cur.fld lo w) else v

/-- A write of Sd_PORTp_CTL (R391, R400, R409). (DESIGN CHOICE, log 33) -/
def State.wPortCtl (s : State) (p : Nat) (o : Origin) (dev : Nat) (v : Word) : State :=
  let off := Reg.Sd_PORTp_CTL p
  let cur := s.reg off
  let v' := keepFld cur v 4 6 fun n => n < 2 || n > 32
  let v' := keepFld cur v' 11 10 fun n => n = 0 || n > 1000
  let v' := keepFld cur v' 2 2 fun n => n = 3
  let v' := if v.bit 0 && !cur.bit 0 && !s.bwValid p then v'.setFld 0 1 0 else v'
  s.gate o dev off v' cur none fun s x =>
    let s := s.keepReg off x
    let s := if x.bit 0 && !cur.bit 0 then s.modPort p fun y => { y with txOpen := true, probing := false }
      else if !x.bit 0 && cur.bit 0 then
        let s := if (s.port p).state == .down then s.modPort p fun y => { y with cause := 1, txOpen := false, probing := false, settled := false }
          else s.portDown p 1
        s.readyUpd
      else s
    if v.bit 1 && s.portLive p then s.portRetrain p else s

/-- A write of Sd_PORTp_TIMERS (R410). (DESIGN CHOICE, log 33) -/
def State.wPortTimers (s : State) (p : Nat) (o : Origin) (dev : Nat) (v : Word) : State :=
  let off := Reg.Sd_PORTp_TIMERS p
  let cur := s.reg off
  let v := keepFld cur v 0 10 fun n => n = 0 || n > 1000
  let v := keepFld cur v 10 14 fun n => n > 10000
  let v := keepFld cur v 24 8 fun n => n = 0
  s.gate o dev off v cur none fun s x => s.keepReg off x

/-- A write of Sd_PORTp_BW (R412). (DESIGN CHOICE, log 33) -/
def State.wPortBw (s : State) (p : Nat) (o : Origin) (dev : Nat) (v : Word) : State :=
  s.gate o dev (Reg.Sd_PORTp_BW p) v (s.reg (Reg.Sd_PORTp_BW p)) (ignoreIf (s.portEnabled p) Reg.KEY_LOCKED_WRITES) fun s x =>
    s.keepReg (Reg.Sd_PORTp_BW p) x

/-- A write of Sd_PORTp_LANE_CTL (R354, R414). -/
def State.wPortLaneCtl (s : State) (p : Nat) (o : Origin) (dev : Nat) (v : Word) : State :=
  s.gate o dev (Reg.Sd_PORTp_LANE_CTL p) v 0 none fun s _ =>
    let i := s.rf (Reg.Sd_PORTp_LANE_SEL p) 0 6
    let x := s.port p
    if i ≥ 34 then s
    else if v.bit 0 then s.retireFl p i 6 false
    else if v.bit 1 && (x.fl i).state == .retired then s.setPort p (x.setFl i { x.fl i with state := .training })
    else s

/-- A write of Sd_SVC_CTL (R401, R404, R416): a press, or a cancel. -/
def State.wSvcCtl (s : State) (d : Nat) (o : Origin) (dev : Nat) (v : Word) : State :=
  s.gate o dev (Reg.Sd_SVC_CTL d) v 0 none fun s _ =>
    let s := if v.bit 0 then s.press d o else s
    if v.bit 1 then s.svcCancel d o else s

/-- PORT_RETRAIN_REQUEST. -/
def execPortRetrainRequest (p : Fin 16) (o : Origin) (v : Word) (s : State) : Host.Outcome State Fault Refusal := .next (s.wPortCtl p o 0 v)

/-- PORT_ENABLE. -/
def execPortEnable (p : Fin 16) (o : Origin) (v : Word) (s : State) : Host.Outcome State Fault Refusal := .next (s.wPortCtl p o 0 v)

/-- PORT_DISABLE. -/
def execPortDisable (p : Fin 16) (o : Origin) (v : Word) (s : State) : Host.Outcome State Fault Refusal := .next (s.wPortCtl p o 0 v)

/-- SVC_QUIESCE. -/
def execSvcQuiesce (d : Fin 2) (o : Origin) (v : Word) (s : State) : Host.Outcome State Fault Refusal := .next (s.wSvcCtl d o 0 v)

/-- SVC_CANCEL. -/
def execSvcCancel (d : Fin 2) (o : Origin) (v : Word) (s : State) : Host.Outcome State Fault Refusal := .next (s.wSvcCtl d o 0 v)

/-- PORT_LANE_RETIRE. -/
def execPortLaneRetire (p : Fin 16) (o : Origin) (v : Word) (s : State) : Host.Outcome State Fault Refusal := .next (s.wPortLaneCtl p o 0 v)

/-- PORT_LANE_READMIT. -/
def execPortLaneReadmit (p : Fin 16) (o : Origin) (v : Word) (s : State) : Host.Outcome State Fault Refusal := .next (s.wPortLaneCtl p o 0 v)

/-! ### Fiber lanes of a line (R293) -/

/-- The Spring that feeds a port's lanes (R30, R31): that of its span die. -/
def portSpring (p : Nat) : Nat := p / 8

/-- A fiber lane's planned retirement takes effect (R293). -/
def State.flLeaves (s : State) (p i : Nat) : State :=
  let l := (s.port p).fl i
  if l.state == .data then
    s.applyFls p fun ch => match ch with | .retire q _ k _ => q == l.pos && k == 3 | .join q _ _ => q == l.pos
  else s

/-- A fiber lane that left for a handover returns. -/
def State.flReturns (s : State) (p i : Nat) : State :=
  let x := s.port p
  let l := x.fl i
  if l.state == .retired && l.cause == 3 && x.state == .live then
    (s.flBack p i).applyFls p fun ch => match ch with | .join _ _ j => j == i | _ => false
  else if l.state == .training && (match l.after with | some (3, _) => true | _ => false) then s.modPort p fun x => x.setFl i { l with after := none }
  else s

end Sys2Proof.Machine
end

