-- ==== Sys2Proof/Machine/Energy.lean ====
section
/-! DEFINITION. Energy, clocks and heat (R499 to R523): the ledgers and their refill, the learning of the correction factors, power fill, the
temperature sensors with their throttle and their failures, THERMTRIP#, the step changes of the tensor dies, the always-on tick
counter, and the registers of the NRG block but NRG_PSTATE. -/

namespace Sys2Proof.Machine

/-! ### The tick counter and the reference clocks (R499, R501) -/

/-- AOCLK_LOSS: the domain runs on its internal oscillator. -/
def execAoclkLoss (s : State) : Host.Outcome State Fault Refusal :=
  .next (if tget false s.pwr.good 0 then { s with nrg := { s.nrg with fallback := true } } else s)

/-- AOCLK_RETURN. -/
def execAoclkReturn (s : State) : Host.Outcome State Fault Refusal := .next { s with nrg := { s.nrg with fallback := false } }

/-- REFCLK_LOSS (R501, R652): a FATAL record, whose effect gates the dies and turns the lasers off. -/
def execRefclkLoss (s : State) : Host.Outcome State Fault Refusal := .next (if s.dieUp dieK then s.raiseErr 3 0x2D dieK 0 none 0 else s)

/-! ### Quantities -/

/-- A quotient of natural numbers whose rounding is the implementation's (R511, R512, R515). -/
def divOpen (a b : Nat) : Nat := if a % b ≠ 0 && Config.energyUp a b then a / b + 1 else a / b

/-- A quotient of an integer, rounded as the implementation does. -/
def divOpenI (a : Int) (b : Nat) : Int :=
  if a % (b : Int) ≠ 0 && Config.energyUp a.natAbs b then a / (b : Int) + 1 else a / (b : Int)

/-- x moved towards y by 1/n of the difference. -/
def approach (x y n : Nat) : Nat := if y ≥ x then x + divOpen (y - x) n else x - divOpen (x - y) n

/-- Put an element in its place in a sorted list. -/
def insertBy {α : Type} (le : α → α → Bool) (x : α) : List α → List α
  | [] => [x]
  | y :: t => if le x y then x :: y :: t else y :: insertBy le x t

/-- A list in ascending order. -/
def sortBy {α : Type} (le : α → α → Bool) (l : List α) : List α := l.foldr (insertBy le) []

/-- Set NRG_STATUS.error (R527). -/
def nrgErr (e : Nat) : State → State := fun s => s.setRf Reg.NRG_STATUS 25 3 e

/-- A sensor (R516). -/
def State.sensor (s : State) (i : Nat) : Sensor := tget .reset s.nrg.sensors i

/-- Put back a sensor. -/
def State.setSensor (s : State) (i : Nat) (x : Sensor) : State :=
  { s with nrg := { s.nrg with sensors := tset .reset s.nrg.sensors i x } }

/-- A throttle domain: T0–T3 are 0–3, the package ledger's 4. -/
def State.dom (s : State) (d : Nat) : ThermDom := tget .full s.nrg.doms d

/-- Put back a domain. -/
def State.setDom (s : State) (d : Nat) (x : ThermDom) : State := { s with nrg := { s.nrg with doms := tset .full s.nrg.doms d x } }

/-! ### Learning (R515) -/

/-- The unit of `declared × k`: nanojoules × 2^28. -/
def nrgUnit : Nat := 1000 * 2 ^ 28

/-- A factor after one sample of e microjoules measured against q (in nanojoules × 2^28) charged. -/
def learnK (k : Nat) (e : Int) (q : Nat) : Nat :=
  let d : Int := e * (nrgUnit : Int) - (q : Int)
  let step := divOpen (k * d.natAbs) (4096 * q)
  let k' := if d ≥ 0 then k + step else k - step
  min (4 * 2 ^ 28) (max (2 ^ 27) k')

/-- The static floor of a rail (R515): fused until something was learned. -/
def Nrg.floor (g : Nrg) (i : Nat) : Nat := (tget none g.floors i).getD (Config.fusedFloor i)

/-- Update one factor and count the sample. -/
def Nrg.learnKey (g : Nrg) (key : Nat) (e : Int) (q : Nat) : Nrg :=
  { g with corr := tset 335544320 g.corr key (learnK (tget 335544320 g.corr key) e q),
           samples := tset 0 g.samples key (min 4096 (tget 0 g.samples key + 1)) }

/-- Update a floor from an interval in which nothing was declared. -/
def Nrg.learnFloor (g : Nrg) (i e : Nat) : Nrg := { g with floors := tset none g.floors i (some (approach (g.floor i) e 256)) }

/-- The sum a factor is held against. -/
def Nrg.declK (g : Nrg) (key : Nat) : Nat := tget 0 g.declared key * tget 335544320 g.corr key

/-- The classes with a factor per die. -/
def dieClasses : List Nat := [0, 1, 2, 3, 5]

/-- Learning on a tensor die; an interval with power fill is left out (R514). -/
def Nrg.learnDie (g : Nrg) (t e : Nat) : Nrg :=
  if tget 0 g.filling t ≠ 0 then g
  else
    let q := (dieClasses.map fun c => g.declK (8 * t + c)).foldl (· + ·) 0
    let g' := if q ≥ 1000 * nrgUnit then
        dieClasses.foldl (fun a c => if g.declK (8 * t + c) * 8 ≥ q && decide (g.declK (8 * t + c) > 0) then
          a.learnKey (8 * t + c) ((e : Int) - (g.floor t : Int)) q else a) g
      else g
    if dieClasses.all fun c => tget 0 g.declared (8 * t + c) == 0 then g'.learnFloor t e else g'

/-- Learning of class 4, from VDD_HBM, against every declaration whose work runs on the Weirs. -/
def Nrg.learnHbm (g : Nrg) (e : Nat) : Nrg :=
  let own := g.declK 4
  let q := own + tget 0 g.declared 1000
  let g' := if q ≥ 1000 * nrgUnit && decide (own * 8 ≥ q) then g.learnKey 4 ((e : Int) - (g.floor 4 : Int)) q else g
  if q = 0 then g'.learnFloor 4 e else g'

/-- The written factors take effect (R515, R529). -/
def Nrg.applyStaged (g : Nrg) : Nrg :=
  let g := g.staged.foldl (fun a kv => { a with corr := tset 335544320 a.corr kv.1 kv.2, samples := tset 0 a.samples kv.1 0 }) g
  { g with staged := [] }

/-! ### The refill (R512) -/

/-- A cluster with more than two of its four sensors broken (R522). -/
def State.halved (s : State) (c : Nat) : Bool :=
  decide (((List.range 4).filter fun j => (s.sensor (64 * (c / 16) + 4 * (c % 16) + j)).state ≠ 0).length > 2)

/-- Refill a ledger: what would carry it above twice the refill flows into the pool, up to `burst` (R509). -/
def Nrg.refill (g : Nrg) (i n burst : Nat) : Nrg :=
  let led := tget .zero g.ledgers i
  let cap := 2 * n
  let add : Int := min (n : Int) (max 0 ((cap : Int) - led.bal))
  { g with ledgers := tset .zero g.ledgers i { bal := led.bal + add, cap := some cap }, pool := min (burst : Int) (g.pool + ((n : Int) - add)) }

/-- All ledgers are refilled from `avail` microjoules. -/
def State.refillAll (s : State) (g : Nrg) (avail : Nat) : Nrg :=
  let burst := s.rf Reg.NRG_BURST 0 13 * 1000
  let pkg := divOpen (avail * s.rf Reg.NRG_RAMP 8 8) 256
  let g := { g with pool := min g.pool (burst : Int) }
  let g := (List.range 64).foldl (fun g c =>
    g.refill c (divOpen ((avail - pkg) * (s.dom (c / 16)).f) (if s.halved c then 51200 else 25600)) burst) g
  g.refill 64 (divOpen (pkg * (s.dom 4).f) 400) burst

/-- Power fill of the next interval (R514): the measured power fell by more than RAMP_LIMIT and stands above the floor. -/
def State.fillNext (s : State) (g : Nrg) (t e : Nat) : Nat :=
  let ramp := s.rf Reg.NRG_RAMP 0 7 * 100
  if s.rb Reg.NRG_RAMP 7 && (s.dom t).f == 400 && g.entering.isNone && s.pstate == 0 && s.dieUp t &&
      decide (tget 0 g.lastPower t > e + ramp) && decide (e > g.floor t) then 1 else 0

/-- The measurement words (R513, R530): mean and peak in 0.1 W, of each rail and of the package. -/
def measTab (rails peaks : List Nat) : Tab Word :=
  let total := rails.foldl (· + ·) 0
  tlist 0 0 ((List.range 13).map fun i =>
    let e := if i = 12 then total else rails.getD i 0
    BitVec.ofNat 32 (min 0xFFFF (e / 10) + min 0xFFFF (peaks.getD i 0) * 65536))

/-- The sum of a list. -/
def sumNat (l : List Nat) : Nat := l.foldl (· + ·) 0

/-- The accounts after a refill, from the energy in microjoules that each rail delivered in the last interval (R512, R514, R515). (DESIGN CHOICE, log 19) -/
def State.refillNrg (s : State) (rails peaks : List Nat) : Nrg :=
  let rails := (List.range 12).map fun i => rails.getD i 0
  let e := fun (t : Nat) => rails.getD t 0
  let g := s.nrg
  let u := approach g.u (sumNat rails - g.charged) 8
  let g := (List.range 4).foldl (fun g t => g.learnDie t (e t)) g
  let g := (g.learnHbm (e 4)).applyStaged
  let g := s.refillAll g (s.rf Reg.NRG_POWER_CAP 0 12 * 100 - u)
  let fill := (List.range 4).map fun t => s.fillNext g t (e t)
  { g with u, charged := 0, declared := [], room := tlist 0 0 ((List.range 4).map fun t => ((e t + s.rf Reg.NRG_RAMP 0 7 * 100 : Nat) : Int)),
           roomUsed := [], pkgRoom := 360000 - (u : Int), lastPower := tlist 0 0 ((List.range 4).map e), filling := tlist 0 0 fill,
           meas := measTab rails peaks }

/-- A reach whose queue holds a declaration that waits for energy, or a cell whose EST does, in ascending reach ID. -/
def State.energyWaiters (s : State) : List Nat :=
  let rs := (s.reaches.filter fun kv => kv.2.queue.any (·.deferred)).map (·.1)
  let cs := (s.cells.filter fun kv => match kv.2.block with | some (.est ..) => true | _ => false).map fun kv => cellRid kv.1
  sortBy (fun a b => decide (a ≤ b)) (rs.filter (fun r => ridLevel r = 0) ++ cs.filter fun r => !rs.contains r) ++
    rs.filter fun r => ridLevel r ≠ 0

/-- Test the waiting declarations of one reach, oldest first (R512). -/
def State.testReach (s : State) (r : Nat) : State :=
  let n := ((s.reach r).queue.filter (·.deferred)).length
  let s := (List.range n).foldl (fun s _ => s.startEval r) s
  if ridLevel r = 0 then (if s.dieUp (ridUnit r) && !s.asleep then s.estRetry (ridCellIdx r) else s) else s

/-- Count the throttled milliseconds (R537): ten refills make one. (DESIGN CHOICE, log 39) -/
def State.throttleMs (s : State) : State :=
  let g := s.nrg
  let th := g.msThrottled || (List.range 5).any fun d => (s.dom d).f < 400
  if g.msPhase ≥ 9 then
    let s := { s with nrg := { g with msPhase := 0, msThrottled := false } }
    if th then s.bump Reg.NRG_THROTTLE_MS else s
  else { s with nrg := { g with msPhase := g.msPhase + 1, msThrottled := th } }

/-- REFILL (R512 to R515): the energies of the twelve rails over the last interval, the highest samples of the rails and of the package. -/
def execRefill (railsUj peaks : List Nat) (s : State) : Host.Outcome State Fault Refusal :=
  .next (if !s.dieUp dieK then s
    else
      let ran := s.nrg.filling.any fun kv => kv.2 = 1
      let s := if ran then s.bumpN Reg.NRG_FILL_US 100 else s
      let s := ({ s with nrg := s.refillNrg railsUj peaks }).throttleMs
      let heat := s.nrg.heatUj + railsUj.getD 10 0
      let life := tset 0 s.store.life 11 ((tget 0 s.store.life 11 + heat / 1000000) % 2 ^ 64)
      let s := { s with nrg := { s.nrg with heatUj := heat % 1000000 }, store := { s.store with life } }
      s.energyWaiters.foldl State.testReach s)

/-- ENERGY_SAVE (R515): the factors and floors go to the store. -/
def execEnergySave (s : State) : Host.Outcome State Fault Refusal :=
  .next (if s.dieUp dieK then s.storePush (.energy s.nrg.corr s.nrg.floors) else s)

/-! ### Sensors and the throttle (R516 to R518) -/

/-- The throttle domain of a sensor (R516). -/
def sensorDom (i : Nat) : Option Nat :=
  if i < 256 then some (i / 64)
  else if i < 288 then some ((i - 256) / 8)
  else if i < 304 then some ((i - 288) / 4)
  else if 400 ≤ i ∧ i < 416 then some 4
  else if 432 ≤ i ∧ i < 436 then some 4
  else none

/-- The sensors of a domain, ascending. -/
def domSensors (d : Nat) : List Nat :=
  if d < 4 then (List.range 64).map (· + 64 * d) ++ (List.range 8).map (· + (256 + 8 * d)) ++ (List.range 4).map (· + (288 + 4 * d))
  else (List.range 16).map (· + 400) ++ (List.range 4).map (· + 432)

/-- The die of a sensor; none where the keystone reads it over its Bed management access (R33). Which Bed sensors lie under a die is
the implementation's. (DESIGN CHOICE, log 51) -/
def sensorDie (i : Nat) : Option Nat :=
  if i < 256 then some (i / 64)
  else if i < 288 then some (dieW ((i - 256) / 2))
  else if i < 304 then some (dieW (i - 288))
  else if i < 400 then Config.bedSensorDie i
  else if i < 416 then some (dieS ((i - 400) / 8))
  else if 432 ≤ i then some dieK
  else none

/-- A sensor of a logic die, which THERMTRIP# watches (R519). -/
def tripSensor (i : Nat) : Bool := decide (i < 288) || decide (400 ≤ i ∧ i < 416) || decide (432 ≤ i ∧ i < 436)

/-- The sensor exists and what reads it runs. -/
def State.sensorLive (s : State) (i : Nat) : Bool :=
  decide (i < 436) && s.dieUp dieK && (match sensorDie i with | some d => s.dieUp d | none => true)

/-- The onset of a sensor in 1/16 °C. -/
def State.onset16 (s : State) (i : Nat) : Int :=
  if 288 ≤ i ∧ i < 304 then 85 * 16 else ((s.rf Reg.NRG_THERM_CFG 0 7 * 16 : Nat) : Int)

/-- φ in 1/400 (R518): 0.04 per °C is 1/400 per 1/16 °C. -/
def phi (onset v : Int) : Nat := if v ≤ onset then 400 else (max 40 (400 - (v - onset))).toNat

/-- Does a sensor's value take part in the throttle (R521)? -/
def Sensor.used (x : Sensor) : Bool := x.state ≠ 1

/-- The sensors of a domain that take part. -/
def State.usedIn (s : State) (d : Nat) : List Nat := (domSensors d).filter fun i => (s.sensor i).used

/-- The hottest of a list of sensors, the first on a tie. -/
def State.hottestOf (s : State) (l : List Nat) : Option Nat :=
  l.foldl (fun a i => match a with
    | none => some i
    | some j => if (s.sensor i).value > (s.sensor j).value then some i else some j) none

/-- Power fill of a die stops (R514); the part of the interval it ran is open. (DESIGN CHOICE, log 39) -/
def State.stopFill (s : State) (t : Nat) : State :=
  if tget 0 s.nrg.filling t = 1 then
    let other := (List.range 4).any fun u => u ≠ t && tget 0 s.nrg.filling u == 1
    let v := s.freeVal % 101
    let s := { s with nrg := { s.nrg with filling := tset 0 s.nrg.filling t 2 } }
    if other then s else (s.bumpN Reg.NRG_FILL_US v).takeFree 1
  else s

/-- What a ghost's first 500 ms let f rise to (R521): 0.02 per ms. -/
def State.capNow (s : State) (x : ThermDom) : Nat := x.capF + 8000 * (s.ticks - x.capTick) / 32768

/-- Compute a domain's factor, hottest value and sensor (R518, R521, R522). (DESIGN CHOICE, log 39) -/
def State.domUpdate (s : State) (d : Nat) : State :=
  let x := s.dom d
  let l := s.usedIn d
  let raw := if l = [] then 40 else (l.map fun i => phi (s.onset16 i) (s.sensor i).value).foldl min 400
  let ghost := (domSensors d).any fun i => (s.sensor i).phase1
  let f := if ghost then min raw (s.capNow x) else raw
  let cap := if ghost && raw ≥ s.capNow x then (x.capF, x.capTick) else (f, s.ticks)
  let s := match s.hottestOf l with
    | some h =>
      let s := s.setSensor h { s.sensor h with hotTick := some s.ticks }
      s.setDom d { x with f, hottest := (s.sensor h).value, sensor := h, capF := cap.1, capTick := cap.2 }
    | none => s.setDom d { x with f, capF := cap.1, capTick := cap.2 }
  let s := if f < 400 then { s with nrg := { s.nrg with msThrottled := true } } else s
  if f < 400 && decide (d < 4) then s.stopFill d else s

/-- THERMTRIP# (R519): latched with the sensor and the tick; every die clock gated, every laser off, every attenuator closed. -/
def State.trip (s : State) (i : Nat) : State :=
  if s.nrg.trip.isSome then s
  else
    let s := { s with nrg := { s.nrg with trip := some (i, s.ticks), tripPending := some (i, s.ticks), filling := [] } }
    let s := { s with pwr := { s.pwr with fatal := true }, optics := { s.optics with dark := true } }
    let s := { s with ports := s.ports.map fun (kv : Nat × Port) => (kv.1, { kv.2 with txOpen := false }) }
    s.emit (.pin 1 true)

/-- SENSOR_CONVERSION (R517 to R519): a temperature in 1/16 °C. -/
def execSensorConversion (sensor : Nat) (t16 : Int) (s : State) : Host.Outcome State Fault Refusal :=
  .next (if !s.sensorLive sensor || (s.sensor sensor).state ≠ 0 then s
    else
      let s := match sensorDom sensor with
        | none => s
        | some d =>
          let x := s.dom d
          let near := decide (t16 ≥ s.onset16 sensor - 80)
          let s := if near then s.setDom d { x with fast := true, lastHot := s.ticks } else s
          if (s.dom d).fast then (s.setSensor sensor { s.sensor sensor with value := t16 }).domUpdate d else s
      if tripSensor sensor && decide (t16 ≥ 118 * 16) then s.trip sensor else s)

/-- FAST_MODE_EXIT (R517). -/
def execFastModeExit (dom : Nat) (s : State) : Host.Outcome State Fault Refusal :=
  let x := s.dom dom
  .next (if decide (dom < 5) && x.fast && x.f == 400 && decide (s.ticks ≥ x.lastHot + 3277) then s.setDom dom { x with fast := false } else s)

/-- THERMTRIP: a conversion or a comparator of a logic die. (DESIGN CHOICE, log 50) -/
def execThermtrip (sensor : Nat) (s : State) : Host.Outcome State Fault Refusal :=
  .next (if tripSensor sensor && s.sensorLive sensor then s.trip sensor else s)

/-! ### Broken sensors (R520, R521) -/

/-- The valid neighbours of a sensor. -/
def State.validNear (s : State) (i : Nat) : List Nat := (Config.neighbours i).filter fun j => (s.sensor j).state == 0

/-- The hottest reading among the valid neighbours. -/
def State.nearMax (s : State) (i : Nat) : Option Int :=
  (s.validNear i).foldl (fun a j => match a with
    | none => some (s.sensor j).reading
    | some m => some (max m (s.sensor j).reading)) none

/-- Twice the median of the valid neighbours' readings. -/
def State.nearMedian2 (s : State) (i : Nat) : Option Int :=
  let l := sortBy (fun a b => decide (a ≤ b)) ((s.validNear i).map fun j => (s.sensor j).reading)
  let n := l.length
  if n = 0 then none else if n % 2 = 1 then some (2 * l.getD (n / 2) 0) else some (l.getD (n / 2 - 1) 0 + l.getD (n / 2) 0)

/-- The target of a ghost or substitute: the hottest valid neighbour and the offset. -/
def State.target (s : State) (i : Nat) : Option Int := (s.nearMax i).map fun m => m + divOpenI (s.sensor i).offset 1000

/-- The value in use of a ghost or substitute one sample on; a millisecond lets it descend by 1 °C. -/
def State.ghostStep (s : State) (i : Nat) : Sensor :=
  let x := s.sensor i
  if x.phase1 then { x with value := x.lastGood + 32 }
  else
    match s.target i with
    | none => { x with value := x.lastGood + 32 }
    | some t =>
      if x.state = 3 then { x with value := t }
      else
        let v := max t (x.value - 16)
        { x with value := v, state := if v = t then 3 else 2 }

/-- A sensor is found broken (R520 to R522). -/
def State.sensorBreak (s : State) (i cause : Nat) : State :=
  let x := s.sensor i
  let d := sensorDom i
  let throttled := match d with | some d => decide ((s.dom d).f < 400) | none => false
  let hot := match x.hotTick with | some t => decide (s.ticks ≤ t + 328) | none => false
  let ghost := throttled && hot
  let s := s.setSensor i { x with state := if ghost then 2 else 1, cause, phase1 := ghost, value := if ghost then x.lastGood + 32 else x.value }
  let s := (s.bump Reg.NRG_SENSORS_BROKEN).raiseErr 0 0x28 ((sensorDie i).getD dieK) i none 0
  let s := s.logEvent .autonomous 2 Reg.NRG_SENSOR_DATA (i + cause * 2 ^ 24)
  match d with
  | none => s
  | some d =>
    let s := if ghost then s.setDom d { s.dom d with capF := (s.dom d).f, capTick := s.ticks } else s
    let s := if s.usedIn d = [] then
        let f := (domSensors d).headD 0
        s.raiseErr 2 0x29 ((sensorDie f).getD dieK) f none 0
      else s
    s.domUpdate d

/-- SENSOR_MEAN (R517, R520, R521): a 1 ms mean. A limit code of the converter, and the test of a stuck sensor over its last second, come
with it. (DESIGN CHOICE, log 39) -/
def execSensorMean (sensor : Nat) (t16 : Int) (limitCode stuck : Bool) (s : State) : Host.Outcome State Fault Refusal :=
  .next (if !s.sensorLive sensor then s
    else
      let s := s.setSensor sensor { s.sensor sensor with reading := t16 }
      let x := s.sensor sensor
      let upd := fun (s : State) => match sensorDom sensor with | some d => s.domUpdate d | none => s
      if x.state = 0 then
        let far := match s.nearMedian2 sensor with | some m => decide ((2 * t16 - m).natAbs > 480) | none => false
        let apart := if far then x.apart + 1 else 0
        let cause := if t16 < -640 ∨ t16 > 2400 ∨ limitCode then 1 else if stuck then 2 else if apart ≥ 10 then 3 else 0
        if cause ≠ 0 then s.sensorBreak sensor cause
        else
          let off := match s.nearMax sensor with
            | some m => x.offset + divOpenI ((t16 - m) * 1000 - x.offset) 1000
            | none => x.offset
          let fast := match sensorDom sensor with | some d => (s.dom d).fast | none => false
          upd (s.setSensor sensor { x with apart, lastGood := t16, offset := off, value := if fast then x.value else t16 })
      else if x.state = 1 then s
      else upd (s.setSensor sensor (s.ghostStep sensor)))

/-- GHOST_PHASE_END (R521): the 500 ms are over. -/
def execGhostPhaseEnd (sensor : Nat) (s : State) : Host.Outcome State Fault Refusal :=
  let x := s.sensor sensor
  .next (if x.phase1 then
      let s := s.setSensor sensor { x with phase1 := false }
      match sensorDom sensor with | some d => s.domUpdate d | none => s
    else s)

/-! ### Step changes of the tensor dies (R502, R679) -/

/-- The die's last written step and the step in effect. -/
def State.dvfsStep (s : State) (t : Nat) : Nat := s.rf (Reg.NRG_DVFSt t) 0 4
/-- The step in effect. -/
def State.dvfsCur (s : State) (t : Nat) : Nat := s.rf (Reg.NRG_DVFSt t) 8 4

/-- The change of a die under way. -/
def State.dvfs (s : State) (t : Nat) : Option Dvfs := tget none s.nrg.dvfs t

/-- Put back a die's change. -/
def State.setDvfs (s : State) (t : Nat) (x : Option Dvfs) : State := { s with nrg := { s.nrg with dvfs := tset none s.nrg.dvfs t x } }

/-- A die starts the change to the step written, where one is due: on a rise the voltage comes first, on a fall the frequency (R679). -/
def State.dvfsStart (s : State) (t : Nat) : State :=
  let to_ := s.dvfsStep t
  let cur := s.dvfsCur t
  if to_ = cur || (s.dvfs t).isSome || !s.dieUp t then s
  else
    let seq := (tget 0 s.nrg.vseq t + 1) % 256
    let code := Config.vcode t to_
    let rising := decide (to_ > cur)
    let s := if rising then s else s.setRf (Reg.NRG_DVFSt t) 8 4 to_
    let s := { s with nrg := { s.nrg with vseq := tset 0 s.nrg.vseq t seq, vcode := tset 60 s.nrg.vcode t code } }
    (s.setDvfs t (some { target := to_, vseq := seq, rising, acked := false })).emit (.vreq t code seq)

/-- A write of NRG_DVFSt (R502, R532). -/
def State.wDvfs (s : State) (t : Nat) (o : Origin) (dev : Nat) (v : Word) : State :=
  let off := Reg.NRG_DVFSt t
  s.gate o dev off v (s.reg off) (dropIf (decide (v.fld 0 4 > 10))) fun s x => (s.keepReg off x).dvfsStart t

/-- DVFS_REQUEST. -/
def execDvfsRequest (t : Fin 4) (o : Origin) (v : Word) (s : State) : Host.Outcome State Fault Refusal := .next (s.wDvfs t o 0 v)

/-- VACK (R679): a matching acknowledgement lets a rise go on and ends a fall. (DESIGN CHOICE, log 50) -/
def execVack (t : Fin 4) (seq : Nat) (s : State) : Host.Outcome State Fault Refusal :=
  .next (match s.dvfs t with
    | some x =>
      if x.vseq ≠ seq % 256 || x.acked || !s.dieUp t then s
      else if x.rising then s.setDvfs t (some { x with acked := true })
      else (s.setDvfs t none).dvfsStart t
    | none => s)

/-- VREQ_REPEAT (R679): no acknowledgement within 1 ms. -/
def execVreqRepeat (t : Fin 4) (s : State) : Host.Outcome State Fault Refusal :=
  .next (match s.dvfs t with
    | some x => if x.acked || !s.dieUp t then s else s.emit (.vreq t (tget 60 s.nrg.vcode t) x.vseq)
    | none => s)

/-- DVFS_SWITCH (R502, R679): the frequency of a rise changes 10 µs after its acknowledgement. -/
def execDvfsSwitch (t : Fin 4) (s : State) : Host.Outcome State Fault Refusal :=
  .next (match s.dvfs t with
    | some x =>
      if !x.acked || !s.dieUp t then s
      else ((s.setRf (Reg.NRG_DVFSt t) 8 4 x.target).setDvfs t none).dvfsStart t
    | none => s)

/-- NRG_DVFSt. -/
def State.dvfsWord (s : State) (t : Nat) : Word := (s.reg (Reg.NRG_DVFSt t)).setFld 12 1 (s.dvfs t).isSome.toNat

/-! ### Clock gating (R503, R504) -/

/-- A cluster whose cells have nothing to issue and whose queues are empty. -/
def State.clusterIdle (s : State) (c : Nat) : Bool :=
  (s.reach (0x20000000 + c / 16 * 2 ^ 24 + c % 16 * 2 ^ 20)).queue = [] &&
  (List.range 16).all fun i =>
    let x := s.cell (16 * c + i)
    (x.phase ≠ .running || x.block.isSome) && (s.reach (cellRid (16 * c + i))).queue = []

/-- CLUSTER_CLOCK_GATE. -/
def execClusterClockGate (t : Fin 4) (c : Fin 16) (s : State) : Host.Outcome State Fault Refusal :=
  let k := 16 * t.val + c.val
  .next (if s.dieUp t && s.clusterIdle k then { s with nrg := { s.nrg with gated := tset false s.nrg.gated k true } } else s)

/-- A cluster's clocks are gated: it was gated and has had nothing to do since. -/
def State.clusterGated (s : State) (c : Nat) : Bool := tget false s.nrg.gated c && s.clusterIdle c

/-- IDLE: every cluster is gated. -/
def State.idle (s : State) : Bool := (List.range 64).all s.clusterGated

/-- NRG_PSTATE: state shows IDLE while ACTIVE with every cluster gated, changing during an entry (R504, R531). -/
def State.pstateWord (s : State) : Word :=
  let w := s.reg Reg.NRG_PSTATE
  let w := if s.pstate = 0 && s.idle then w.setFld 2 2 1 else w
  w.setFld 5 1 s.nrg.entering.isSome.toNat

/-! ### Registers -/

/-- A write of NRG_POWER_CAP (R524). -/
def State.wPowerCap (s : State) (o : Origin) (dev : Nat) (v : Word) : State :=
  s.gate o dev Reg.NRG_POWER_CAP v (s.reg Reg.NRG_POWER_CAP) (if v.fld 0 12 < 500 ∨ v.fld 0 12 > 3600 then some (nrgErr 1) else none)
    fun s x => s.keepReg Reg.NRG_POWER_CAP x

/-- A write of NRG_BURST (R525). -/
def State.wBurst (s : State) (o : Origin) (dev : Nat) (v : Word) : State :=
  s.gate o dev Reg.NRG_BURST v (s.reg Reg.NRG_BURST) (if v.fld 0 13 > 5000 then some (nrgErr 2) else none) fun s x => s.keepReg Reg.NRG_BURST x

/-- A write of NRG_RAMP (R526). -/
def State.wRamp (s : State) (o : Origin) (dev : Nat) (v : Word) : State :=
  let bad := fun (n : Nat) => decide (n < 10) || decide (n > 100)
  s.gate o dev Reg.NRG_RAMP (keepFld (s.reg Reg.NRG_RAMP) v 0 7 bad) (s.reg Reg.NRG_RAMP) none fun s x =>
    let s := s.keepReg Reg.NRG_RAMP x
    if bad (v.fld 0 7) then nrgErr 3 s else s

/-- A write of NRG_THERM_CFG (R533). -/
def State.wThermCfg (s : State) (o : Origin) (dev : Nat) (v : Word) : State :=
  s.gate o dev Reg.NRG_THERM_CFG v (s.reg Reg.NRG_THERM_CFG) (dropIf (decide (v.fld 0 7 < 70 ∨ v.fld 0 7 > 105)))
    fun s x => s.keepReg Reg.NRG_THERM_CFG x

/-- The key of the factor that NRG_CORR_SEL selects: class 4 has one (R515, R529). -/
def State.corrKey (s : State) : Option Nat :=
  let c := s.rf Reg.NRG_CORR_SEL 0 3
  if c ≥ 6 then none else if c = 4 then some 4 else some (8 * s.rf Reg.NRG_CORR_SEL 3 2 + c)

/-- NRG_CORR_DATA. -/
def State.corrData (s : State) : Word :=
  match s.corrKey with
  | none => 0
  | some k => BitVec.ofNat 32 (s.corr k / 65536 % 65536 + (decide (tget 0 s.nrg.samples k ≥ 4096)).toNat * 65536)

/-- A write of NRG_CORR_DATA (R515, R529): the factor takes effect at the next refill. -/
def State.wCorrData (s : State) (o : Origin) (dev : Nat) (v : Word) : State :=
  let n := v.fld 0 16
  s.gate o dev Reg.NRG_CORR_DATA v s.corrData (if s.corrKey.isNone ∨ n < 0x800 ∨ n > 0x4000 then some (nrgErr 5) else none) fun s x =>
    match s.corrKey with
    | some k => { s with nrg := { s.nrg with staged := tset 0 s.nrg.staged k (x.fld 0 16 * 65536) } }
    | none => s

/-- NRG_STATUS (R527). -/
def State.nrgStatus (s : State) : Word :=
  BitVec.ofNat 32 (min 0x1FFF ((s.nrg.pool / 1000).toNat) + min 0xFFF (s.nrg.u / 100) * 2 ^ 13 + s.rf Reg.NRG_STATUS 25 3 * 2 ^ 25 +
    s.nrg.fallback.toNat * 2 ^ 28)

/-- NRG_LEDGER_DATA (R528). -/
def State.ledgerData (s : State) : Word :=
  BitVec.ofInt 32 (tget .zero s.nrg.ledgers (if s.rb Reg.NRG_LEDGER_SEL 6 then 64 else s.rf Reg.NRG_LEDGER_SEL 0 6)).bal

/-- NRG_MEAS_DATA (R530). -/
def State.measData (s : State) : Word := tget 0 s.nrg.meas (s.rf Reg.NRG_MEAS_SEL 0 4)

/-- NRG_THROTTLEt and NRG_THROTTLE_PKG (R534). -/
def State.throttleWord (s : State) (d : Nat) : Word :=
  let x := s.dom d
  let ghost := (domSensors d).any fun i => (s.sensor i).phase1
  BitVec.ofNat 32 (x.f * 1024 / 400 + (decide (x.f < 400)).toNat * 2 ^ 11 + x.fast.toNat * 2 ^ 12 + ghost.toNat * 2 ^ 13 +
    min 255 ((x.hottest / 16).toNat) * 2 ^ 14 + x.sensor * 2 ^ 22)

/-- NRG_SENSOR_DATA (R535). -/
def State.sensorData (s : State) : Word :=
  let i := s.rf Reg.NRG_SENSOR_SEL 0 9
  let x := s.sensor i
  if i ≥ 436 then 0
  else BitVec.ofNat 32 ((BitVec.ofInt 13 x.reading).toNat + x.state * 2 ^ 13 + x.cause * 2 ^ 15)

end Sys2Proof.Machine
end

