-- ==== Sys2Proof/Machine/Tiles.lean ====
section
/-! DEFINITION. Tiled regions (R174, R175, R194 to R199), the end of a MOVE (R114, R187 to R190) and host accesses through BAR4 (R465,
R466). -/

namespace Sys2Proof.Machine

/-! ### The registers of the tiled regions -/

/-- An entry of the table. -/
def State.region (s : State) (k : Nat) : Region := tget .none s.trg k

/-- Put back an entry. -/
def State.setRegion (s : State) (k : Nat) (r : Region) : State := { s with trg := tset .none s.trg k r }

/-- Set KEY_TRG_STATUS.error. -/
def trgErr (e : Nat) : State → State := fun s => s.setRf Reg.KEY_TRG_STATUS 1 3 e

/-- The region that the staged fields and a value of KEY_TRG_CFG describe (R194 to R198). -/
def State.stagedRegion (s : State) (cfg : Word) : Region :=
  { valid := true,
    base := s.rf Reg.KEY_TRG_BASE_LO 6 26 * 64 + s.rf Reg.KEY_TRG_BASE_HI 0 14 * 2 ^ 32,
    trl := s.rf Reg.KEY_TRG_TRL_LO 3 29 * 8 + s.rf Reg.KEY_TRG_TRL_HI 0 14 * 2 ^ 32,
    count := s.rf Reg.KEY_TRG_COUNT 0 24, slotUnits := cfg.fld 0 8, sealFmt := cfg.fld 8 8 }

/-- The refusal of a commit of region r as entry k (R175, R210); 0 where it is accepted. -/
def State.regionCheck (s : State) (k : Nat) (r : Region) : Nat :=
  let tl := r.count * 8
  let others := s.trg.filter fun kv => kv.1 ≠ k
  let one := r.count = 0 || (match s.rangeStore r.base r.size, s.rangeStore r.trl tl with
    | some a, some b => a ≠ b
    | _, _ => true) || s.touchesKv r.base r.size || s.touchesKv r.trl tl
  if one then 1
  else if touchesTiled others r.base r.size || touchesTiled others r.trl tl || rangesMeet r.base r.size r.trl tl then 2
  else if r.slotUnits < 32 || r.slotUnits > 128 || tileBytes r.sealFmt = 0 || r.slot < tileBytes r.sealFmt then 3
  else 0

/-- A write of a KEY_TRG register while a commit is under way is ignored with error 4 (R198). -/
def State.trgBusy (s : State) : Option (State → State) := if s.trgCommit.isSome then some (trgErr 4) else none

/-- A write of KEY_TRG_SEL: the staged fields are loaded from the entry (R194). -/
def State.wTrgSel (s : State) (o : Origin) (dev : Nat) (v : Word) : State :=
  s.gate o dev Reg.KEY_TRG_SEL v (s.reg Reg.KEY_TRG_SEL) s.trgBusy fun s x =>
    let r := s.region (x.fld 0 8)
    let s := s.keepReg Reg.KEY_TRG_SEL x
    let s := s.setReg Reg.KEY_TRG_BASE_LO (BitVec.ofNat 32 r.base)
    let s := s.setReg Reg.KEY_TRG_BASE_HI (BitVec.ofNat 32 (r.base / 2 ^ 32))
    let s := s.setReg Reg.KEY_TRG_TRL_LO (BitVec.ofNat 32 r.trl)
    let s := s.setReg Reg.KEY_TRG_TRL_HI (BitVec.ofNat 32 (r.trl / 2 ^ 32))
    let s := s.setReg Reg.KEY_TRG_COUNT (BitVec.ofNat 32 r.count)
    s.setReg Reg.KEY_TRG_CFG (BitVec.ofNat 32 (r.slotUnits + r.sealFmt * 256 + r.valid.toNat * 65536))

/-- A write of a staged address or count register (R195 to R197). -/
def State.wTrgStaged (s : State) (o : Origin) (dev off : Nat) (v : Word) : State :=
  s.gate o dev off v (s.reg off) s.trgBusy fun s x => s.keepReg off x

/-- A write of KEY_TRG_CFG: valid = 1 commits the staged fields, valid = 0 invalidates the entry (R198). A refused commit leaves the
entry as it was, and the field shows it. -/
def State.wTrgCfg (s : State) (o : Origin) (dev : Nat) (v : Word) : State :=
  s.gate o dev Reg.KEY_TRG_CFG v (s.reg Reg.KEY_TRG_CFG) s.trgBusy fun s x =>
    let s := s.keepReg Reg.KEY_TRG_CFG x
    let k := s.rf Reg.KEY_TRG_SEL 0 8
    if !x.bit 16 then s.setRegion k { s.region k with valid := false }
    else
      let r := s.stagedRegion x
      let e := s.regionCheck k r
      if e ≠ 0 then trgErr e (s.setRb Reg.KEY_TRG_CFG 16 (s.region k).valid) else { s with trgCommit := some { entry := k, region := r, init := x.bit 17 } }

/-- TRG_SELECT. -/
def execTrgSelect (o : Origin) (v : Word) (s : State) : Host.Outcome State Fault Refusal := .next (s.wTrgSel o 0 v)

/-- TRG_COMMIT. -/
def execTrgCommit (o : Origin) (v : Word) (s : State) : Host.Outcome State Fault Refusal := .next (s.wTrgCfg o 0 v)

/-- TRG_INVALIDATE. -/
def execTrgInvalidate (o : Origin) (v : Word) (s : State) : Host.Outcome State Fault Refusal := .next (s.wTrgCfg o 0 v)

/-- TRG_COMMIT_DONE (R174, R175): the trailers are written where init was set, and the entry takes effect as busy clears. -/
def execTrgCommitDone (pe : PortEv) (s : State) : Host.Outcome State Fault Refusal :=
  .next (match s.trgCommit with
    | none => s
    | some c =>
      let v := s.viewNow pe
      let n := c.region.count * 8
      let s := if c.init then (s.writePE v c.region.trl (zeros n)).met v [(c.region.trl, n, true)] else s
      { s.setRegion c.entry c.region with trgCommit := none })

/-- KEY_TRG_STATUS (R199). -/
def State.trgStatus (s : State) : Word :=
  s.reg Reg.KEY_TRG_STATUS ||| BitVec.ofNat 32 (s.trgCommit.isSome.toNat + (s.trg.filter fun kv => kv.2.valid).length * 256)

/-! ### The end of a MOVE -/

/-- MOVE_COMPLETE (R114, R187 to R190): a MOVE in progress at its engine, with no packet outstanding, is done. -/
def execMoveComplete (id : Nat) (pe : PortEv) (s : State) : Host.Outcome State Fault Refusal :=
  .next (match s.move id with
    | none => s
    | some m =>
      if m.todo ≠ [] || m.left ≠ 0 || !s.moveRunning m || s.pwr.fatal || (!s.released m.die && m.status ≠ 7 && m.status ≠ 8) || s.asleep then s
      else
        let (t, st) := ({ s with moves := s.moves.filter (·.id ≠ id) } : State).moveEnd pe m
        let t := t.settle
        match m.owner with
        | .cell ci op => t.opDone ci op st
        | .reach r c => t.cmdDone r c st 0)

/-! ### BAR4 -/

/-- The exponent of the BAR4 size (R464): the field of R496, which holds 36 after reset and so takes bits [21:16] here. -/
def State.barExp (s : State) : Nat := s.rf Reg.HQ_BAR4_WIN 16 6

/-- The device address of a BAR4 offset (R465). -/
def State.barDA (s : State) (off : Nat) : Nat :=
  let z := 2 ^ s.barExp
  s.rf Reg.HQ_BAR4_WIN 0 16 * 2 ^ 30 / z * z + off

/-- The store of a host access, where its die is released and reachable (R35, R38, R163, R633). -/
def State.hostStore (s : State) (da len : Nat) : Option Nat :=
  match s.rangeStore da len with
  | some st => if s.reaches? dieK st then some st else none
  | none => none

/-- An access that the endpoint accepts (R466). -/
def State.barTakes (s : State) (off len : Nat) : Bool :=
  s.dieUp dieK && decide (0 < len) && decide (len ≤ 512) && decide (off + len ≤ 2 ^ s.barExp)

/-- BAR4_READ (R465, R466, R185, R506). -/
def execBar4Read (off len : Nat) (pe : PortEv) (s : State) : Host.Outcome State Fault Refusal :=
  .next (if !s.barTakes off len then s
    else if s.asleep then (s.bump Reg.NRG_ASLEEP_ACCESS).emit (.barRead (List.replicate len 0xFF))
    else
      let da := s.barDA off
      match s.hostStore da len with
      | none => (s.emit (.barRead (List.replicate len 0xFF))).raiseErr 2 0x2C dieK 0 (some da) 0
      | some _ =>
        let v := s.viewNow pe
        let s := s.meet pe da len
        let bs := s.readPE v da len
        let out := (List.range len).map fun i => if s.poisonByte (da + i) then (0xFF : Byte) else bs.getD i 0
        let t := (s.met v [(da, len, false)]).emit (.barRead out)
        if s.poisonRange da len then (t.eccRead da len).raiseErr 2 0x2C dieK 0 (some da) 0 else t)

/-- BAR4_WRITE (R465, R466, R180, R210, R506). -/
def execBar4Write (off : Nat) (data : List Byte) (poisoned : Bool) (pe : PortEv) (s : State) : Host.Outcome State Fault Refusal :=
  .next (if !s.barTakes off data.length then s
    else if s.asleep then s.bump Reg.NRG_ASLEEP_ACCESS
    else
      let da := s.barDA off
      if poisoned || (s.hostStore da data.length).isNone || touchesTiled s.trg da data.length || s.touchesKv da data.length then
        s.raiseErr 2 0x2C dieK 0 (some da) 0
      else
        let v := s.viewNow pe
        (s.writePE v da data).met v [(da, data.length, true)])

end Sys2Proof.Machine
end

