-- ==== Sys2Proof/Machine/Weir.lean ====
section
/-! DEFINITION. The Weirs (R121, R201 to R249): command blocks and their checks, slots and pages, APPEND, ATTEND, FOLD, GATHER,
REQUANT, EVICT, RESUMMARIZE, arriving folds, and the slot registers. -/

namespace Sys2Proof.Machine

/-! ### Slots and where their pages lie (R211 to R217) -/

/-- Does the policy keep to R243 and R244? -/
def policyOk (p0 p1 : Word) : Bool :=
  decide (p0.fld 0 11 ≤ 1024) && decide (p0.fld 11 17 ≤ 65536) && p0.fld 28 4 == 0 && decide (p1.fld 0 13 ≤ 4096) && decide (p1.fld 13 9 ≤ 256) &&
    decide (p1.fld 23 9 ≤ 256)

/-- Does the shape keep to R211? -/
def Slot.shapeOk (x : Slot) : Bool :=
  decide (1 ≤ x.pages ∧ x.pages ≤ 4096) && decide (x.heads ≤ 4096) && decide (x.qheads ≤ 64)

/-- The start of a slot's area in stack n (R215). -/
def State.slotArea (s : State) (n : Nat) (x : Slot) : Nat := n * 0x1000000000 + s.kvBase + x.rsv.fld 16 16 * 2 ^ 20

/-- A page as Weir n holds it: the addresses of its frame, its summary block and that block's trailer. -/
structure PageAt where
  frame : Nat
  sblk : Nat
  strl : Nat
  /-- The summary's place in its block. -/
  sOff : Nat
  mxFrame : Bool
deriving DecidableEq, Repr

/-- Where page p of head h lies (R215). -/
def State.pageAt (s : State) (n : Nat) (x : Slot) (h p : Nat) : PageAt :=
  let j := p / 16
  let a := s.slotArea n x
  let fr := x.heads * x.pages * x.frame
  { frame := a + (h * x.pages + j) * x.frame, sblk := a + fr + (h * x.blocks + j / 64) * 2048,
    strl := a + fr + x.heads * x.blocks * 2048 + (h * x.blocks + j / 64) * 8, sOff := j % 64 * 32, mxFrame := x.mx }

/-- The offset of block b of a frame: 0–3 the K and V tiles, 4 the token sketches, 5 the header (R216). -/
def PageAt.blk (a : PageAt) (b : Nat) : Nat :=
  a.frame + (if a.mxFrame then [0, 0x880, 0x1100, 0x1980, 0x2200, 0x2A00] else [0, 0x1000, 0x2000, 0x3000, 0x4000, 0x4800]).getD b 0

/-- The trailer of block b of a frame. -/
def PageAt.trl (a : PageAt) (b : Nat) : Nat := a.frame + (if a.mxFrame then 0x2A20 else 0x4820) + 8 * b

/-- Does Weir n hold page p of head h (R215)? -/
def weirHolds (n h p : Nat) : Bool := (h + p) % 16 == n

/-- The check of R182 on a block with its trailer. -/
def State.blkOk (s : State) (da n tda : Nat) : Bool :=
  let t := s.trailer tda
  (crc32c (s.readMem da n)).toNat = t.crc && t.valid && !t.poison && !s.poisonRange da n && !s.poisonRange tda 8

/-- Write a block and its trailer. -/
def State.blkPut (s : State) (da : Nat) (bs : List Byte) (tda epoch fmt : Nat) (poison : Bool) : State :=
  (s.writeMem da bs).writeMem tda (mkTrailer bs epoch fmt poison false).toBytes

/-- A page header (R217). -/
structure PHdr where
  present : Nat
  page : Nat
  fmt : Nat
  flags : Nat
deriving DecidableEq, Repr

/-- Read a page header. -/
def State.phdr (s : State) (a : PageAt) : PHdr :=
  let b := s.readMem (a.blk 5) 32
  { present := bfld b 0 8, page := bfld b 8 4, fmt := bfld b 12 1, flags := bfld b 13 1 }

/-- Its bytes. -/
def PHdr.toBytes (h : PHdr) : List Byte :=
  toBytesLE 8 h.present ++ toBytesLE 4 h.page ++ toBytesLE 1 h.fmt ++ toBytesLE 1 h.flags ++ zeros 18

/-- Is position r of a page present? -/
def PHdr.has (h : PHdr) (r : Nat) : Bool := h.present / 2 ^ r % 2 == 1

/-- flags [0], dropped. -/
def PHdr.dropped (h : PHdr) : Bool := h.flags % 2 == 1

/-- The tile size of a page in a format. -/
def pageTile (fmt : Nat) : Nat := if fmt = 8 then 2176 else 4096

/-- Write a page header, with its poison. -/
def State.putHdr (s : State) (a : PageAt) (h : PHdr) (epoch : Nat) (poison : Bool) : State :=
  s.blkPut (a.blk 5) h.toBytes (a.trl 5) epoch 0 poison

/-! ### Sketches and summaries (R218) -/

/-- Bit i of a sketch. -/
def skBit (b : List Byte) (i : Nat) : Bool := (b.getD (i / 8) 0).getLsbD (i % 8)

/-- The bitwise majority of the sketches of a page's present tokens. -/
def summaryOf (sk : List Byte) (present : Nat) : List Byte :=
  let rows := ((List.range 64).filter fun r => present / 2 ^ r % 2 == 1).map fun r => (sk.drop (32 * r)).take 32
  (List.range 32).map fun k =>
    BitVec.ofNat 8 (((List.range 8).map fun j =>
      if 2 * (rows.filter fun b => skBit b (8 * k + j)).length > rows.length then 2 ^ j else 0).foldl (· + ·) 0)

/-- Rewrite the summary of a page in its block; answers whether the block had passed its check. -/
def State.putSummary (s : State) (a : PageAt) (epoch : Nat) (sum : List Byte) : State × Bool :=
  let ok := s.blkOk a.sblk 2048 a.strl
  let s := s.eccRead a.sblk 2048
  let b := s.readMem a.sblk 2048
  let b := b.take a.sOff ++ sum ++ b.drop (a.sOff + 32)
  (s.blkPut a.sblk b a.strl epoch 0 (!ok), ok)

/-- Recompute the summary of a page from its stored sketches; answers how many of the blocks it reads failed. A sketch block that fails
leaves the summary unchanged (R238); a page without a present token has no sketch to read. (DESIGN CHOICE, log 54) -/
def State.summarize (s : State) (a : PageAt) (epoch present : Nat) : State × Nat :=
  if present ≠ 0 && !s.blkOk (a.blk 4) 2048 (a.trl 4) then (s.eccRead (a.blk 4) 2048, 1)
  else
    let (t, ok) := s.putSummary a epoch (summaryOf (s.readMem (a.blk 4) 2048) present)
    (t, (!ok).toNat)

/-! ### Slot lengths (R221, R249) -/

/-- The highest present position of a page plus 1; 0 where there is none. -/
def PHdr.top (h : PHdr) (p : Nat) : Nat :=
  match ((List.range 64).filter h.has).getLast? with
  | some r => 64 * p + r + 1
  | none => 0

/-- The pages of a slot that Weir n holds. -/
def heldPages (n : Nat) (x : Slot) : List (Nat × Nat) :=
  (List.range x.heads).flatMap fun h => ((List.range (x.pages * 16)).filter (weirHolds n h)).map fun p => (h, p)

/-- Count the length of a slot on Weir n afresh. -/
def State.relength (s : State) (n k : Nat) (x : Slot) : State :=
  let len := (heldPages n x).foldl (fun m hp => max m ((s.phdr (s.pageAt n x hp.1 hp.2)).top hp.2)) 0
  let w := s.weir n
  s.setWeir n { w with lens := tset 0 w.lens k len }

/-! ### The header of a command block (R207, R208) -/

/-- head_first, head_count, page_first, page_count. -/
def wbRange (b : List Byte) : Nat × Nat × Nat × Nat := (bfld b 32 2, bfld b 34 2, bfld b 36 4, bfld b 40 4)

/-- The pages of a command's range fields that Weir n holds, heads ascending, then pages ascending. -/
def wbPages (n : Nat) (b : List Byte) : List (Nat × Nat) :=
  let (hf, hc, pf, pc) := wbRange b
  ((List.range hc).map (· + hf)).flatMap fun h => (((List.range pc).map (· + pf)).filter (weirHolds n h)).map fun p => (h, p)

/-- The bytes lo to hi − 1 of a block are zero. -/
def zeroAt (b : List Byte) (lo hi : Nat) : Bool := allZero ((b.drop lo).take (hi - lo))

/-- Do the range fields keep to their ranges (R208)? -/
def rangeEnc (b : List Byte) : Bool :=
  let (_, hc, _, pc) := wbRange b
  decide (1 ≤ hc ∧ hc ≤ 4096) && decide (1 ≤ pc)

/-- Does a selected range lie within a slot? -/
def Slot.rangeOk (x : Slot) (b : List Byte) : Bool :=
  let (hf, hc, pf, pc) := wbRange b
  decide (hf + hc ≤ x.heads) && decide (pf + pc ≤ x.pages * 16)

/-- The die whose memories may take a command's results; none for the keystone's. -/
def WIss.die : WIss → Option Nat
  | .cell c _ => some (c / 256)
  | .sq .. => none

/-- May a command's results lie at a range (R209)? -/
def State.resultOk (s : State) (n : Nat) (iss : WIss) (da len : Nat) : Bool :=
  decide (da < 2 ^ 46) &&
  match s.rangeStore da len with
  | some st => st == n || (match iss.die with | some t => decide (16 ≤ st) && storeDie st == t | none => false)
  | none => false

/-! ### The check of a whole block (R204, R207 to R209) -/

/-- The reserved and out-of-range values of a block. -/
def wbEncOk (x : Slot) (k : WBlk) (n : Nat) : Bool :=
  let b := k.bytes
  let op := wbOp b
  decide (1 ≤ op ∧ op ≤ 7) && decide (bfld b 1 1 < 2) && decide (bfld b 2 1 < 8) && (wbHasSlot b || bfld b 2 1 == 0) && bfld b 3 1 == 0 &&
  bfld b 4 4 == k.declared && b.length == k.declared && bfld b 13 1 == 0 && decide (bfld b 16 8 < 2 ^ 46) &&
  (op == 2 || op == 3 || op == 4 || bfld b 16 8 == 0) && bfld b 24 4 % 64 == 0 &&
  (match op with
   | 1 =>
     let c := bfld b 28 2
     decide (1 ≤ c ∧ c ≤ 113) && zeroAt b 30 64 && b.length == 64 + 576 * c &&
       (List.range c).all fun i =>
         let e := (b.drop (64 + 576 * i)).take 576
         decide (bfld e 0 2 < 4096) && bfld e 2 2 == 0 && decide (bfld e 4 4 < 2 ^ 22) && zeroAt e 8 32
   | 2 =>
     decide (1 ≤ bfld b 28 4 ∧ bfld b 28 4 ≤ 4194304) && decide (bfld b 32 1 < x.layers) && decide (bfld b 33 1 < 4) && bfld b 34 2 == 0 &&
       zeroAt b 48 64 && b.length == 64 + 288 * x.qheads && decide (32 + 520 * x.qheads ≤ bfld b 24 4) &&
       (bfld b 33 1 / 2 == 0 || policyOk (BitVec.ofNat 32 (bfld b 40 4)) (BitVec.ofNat 32 (bfld b 44 4)))
   | 3 => decide (bfld b 28 1 < 2) && zeroAt b 29 32 && zeroAt b 44 64 && b.length == 64
   | 4 =>
     let c := bfld b 48 4
     decide (bfld b 28 1 < 2) && zeroAt b 29 32 && decide (1 ≤ c ∧ c ≤ 16368) && zeroAt b 52 64 &&
       b.length == (64 + 4 * c + 63) / 64 * 64 && zeroAt b (64 + 4 * c) b.length
   | 5 => zeroAt b 28 32 && rangeEnc b && zeroAt b 44 64 && b.length == 64
   | 6 =>
     let m := bfld b 28 1
     decide (m ≤ 3) && zeroAt b 29 32 && (m == 0 || m == 3 || rangeEnc b) && zeroAt b 48 64 && b.length == 64 && ((m ≠ 0 && m ≠ 3) || k.bcast)
   | _ =>
     let m := bfld b 28 1
     decide (m ≤ 1) && zeroAt b 29 32 && rangeEnc b && zeroAt b 44 64 && !(m == 1 && k.bcast) &&
       b.length == 64 + (if m = 1 then 2048 * (wbPages n b).length else 0))

/-- Where the elements of a GATHER come from and go (R236). -/
def State.gatherOk (s : State) (n : Nat) (k : WBlk) : Bool :=
  let b := k.bytes
  let tiled := bfld b 28 1 % 2 == 1
  let tab := bfld b 32 8
  let el := bfld b 40 4
  let cnt := bfld b 44 4
  let ic := bfld b 48 4
  let dst := wbResult n b
  let idx := (List.range ic).map fun i => bfld b (64 + 4 * i) 4
  tab % 32 == 0 && dst % 32 == 0 && el % 32 == 0 && idx.all (fun i => decide (i < cnt)) && decide (tab < 2 ^ 46) &&
  s.rangeStore tab (cnt * el) == some n && s.resultOk n k.iss dst (ic * el) && !s.touchesKv dst (ic * el) &&
  decide (cnt * el ≤ 0xFFFFFFE0) && decide (ic * el ≤ 0xFFFFFFE0) &&
  (if tiled then
     match rangeKind s.trg tab (cnt * el), rangeKind s.trg dst (ic * el) with
     | .tiled a, .tiled c => el == a.slot && a.slot == c.slot && (tab - a.base) % a.slot == 0 && (dst - c.base) % c.slot == 0
     | _, _ => false
   else decide (32 ≤ el ∧ el ≤ 8192) && rangeKind s.trg tab (cnt * el) == .untiled && !touchesTiled s.trg dst (ic * el))

/-- The addresses, ranges and slot state that a command allows (R204, R208, R209, R219, R222, R229, R230, R232, R236). -/
def State.wbAddrOk (s : State) (n : Nat) (x : Slot) (k : WBlk) : Bool :=
  let b := k.bytes
  (!wbHasSlot b || x.active) &&
  (match wbOp b with
   | 1 => (List.range (bfld b 28 2)).all fun i =>
       let h := bfld b (64 + 576 * i) 2
       let p := bfld b (68 + 576 * i) 4
       decide (h < x.heads) && decide (p < x.tokens) && (k.bcast || weirHolds n h (p / 64))
   | 2 =>
     let len := 32 + 520 * x.qheads
     decide (bfld b 28 4 ≤ x.tokens) && s.resultOk n k.iss (wbResult n b) len && !touchesTiled s.trg (wbResult n b) len && !s.touchesKv (wbResult n b) len
   | 3 =>
     let src := bfld b 32 8
     let dst := bfld b 16 8
     let len := bfld b 40 4
     src % 32 == 0 && dst % 32 == 0 && len % 32 == 0 && s.rangeStore src len == some n && s.rangeStore dst len == some n && decide (src < 2 ^ 46) &&
       !s.touchesKv src len && !s.touchesKv dst len &&
       pairOk src dst len true (bfld b 28 1 % 2 == 1) (rangeKind s.trg src len) (rangeKind s.trg dst len)
   | 4 => s.gatherOk n k
   | 5 => !x.mx && x.rangeOk b
   | 6 => match bfld b 28 1 with
     | 0 => decide (bfld b 44 4 ≤ x.tokens)
     | 3 => true
     | _ => x.rangeOk b
   | _ => x.rangeOk b)

/-- The status with which a block fails its check; 0 where it may take effect. (DESIGN CHOICE, log 54) -/
def State.wbCheck (s : State) (n : Nat) (k : WBlk) : Nat :=
  let x := tget .free (s.weir n).slots (wbSlot k.bytes)
  if !wbEncOk (if x.active then x else { x with shape := 0xFFFFFFFF }) k n && (x.active || wbOp k.bytes ≠ 2) then 10
  else if !s.wbAddrOk n x k then 11
  else if wbHasSlot k.bytes && bfld k.bytes 1 1 % 2 == 1 && bfld k.bytes 14 2 ≠ x.epoch then 2
  else 0

/-! ### WQ (R121, R206) -/

/-- Both ways between an issuing die and a Weir are in service (R206). -/
def State.weirPath (s : State) (die n : Nat) : Bool := s.diePath die (dieW n)

/-- The 32-byte result header that the issuing die writes when a command of a Weir is lost (R206); of a stale work item it is discarded
(R73). -/
def State.lostHeader (s : State) (n : Nat) (k : WBlk) (st : Nat) : State :=
  let b := k.bytes
  if !((wbOp b = 2 || wbOp b = 4) && s.resultOk n k.iss (wbResult n b) 32) then s
  else if !s.plcOk k.workUnit k.epoch then s.discard
  else s.writeMem (wbResult n b) (toBytesLE 1 (wbSlot b) ++ toBytesLE 1 n ++ zeros 2 ++ toBytesLE 4 st ++ zeros 24)

/-- A Weir's part of a cell's WQ is over: its token, its status (R121). -/
def State.wqPart (s : State) (ci op st : Nat) : Option State :=
  match (s.cell ci).op op with
  | none => some s
  | some o =>
    let sent := if o.sig.inc = 0 then some s else s.cellSignal ci o.sig 0x91
    sent.map fun s => s.opDone ci op st

/-- Room for a block in a Weir's queue, which reach commands share (R201). (DEDUCED, log 58) -/
def State.weirRoom (s : State) (n : Nat) : Bool :=
  decide (s.depth (weirRid n) < 1024)

/-- Weir n's part of a submission-queue entry is over; with the last part the entry completes (R476): the first failure in ascending
n, and the Weirs that completed with status 0. None where the completion must wait. (DESIGN CHOICE, log 37) -/
def State.sqWeirPart (s : State) (q idx n st : Nat) : Option State :=
  let x := s.sq q
  match x.ent idx with
  | none => some s
  | some e =>
    let e := { e with weirs := e.weirs.map fun (y : Nat × Option Nat) => if y.1 = n then (n, some st) else y }
    let s := s.setSq q (x.setEnt e)
    if e.weirs.all fun y => y.2.isSome then
      let bad := (e.weirs.find? fun y => y.2 ≠ some 0).bind (·.2)
      let mask := (e.weirs.map fun y => if y.2 = some 0 then 2 ^ y.1 else 0).foldl (· + ·) 0
      s.sqDone q idx (bad.getD 0) mask 0
    else some s

/-- Deliver a block to each Weir of a list: to its queue, or lost at once; none where a signal must wait. -/
def State.weirDeliver (s : State) (die : Nat) (k : WBlk) : List Nat → Option State
  | [] => some s
  | n :: t =>
    if s.weirPath die n then
      let w := s.weir n
      (s.setWeir n { w with queue := w.queue ++ [k] }).weirDeliver die k t
    else
      match k.iss with
      | .cell ci op =>
        (match (s.lostHeader n k 7).wqPart ci op 7 with
         | none => none
         | some u => u.weirDeliver die k t)
      | .sq q idx =>
        let s := (if s.reaches? dieK n then s.lostHeader n k 7 else s).raiseStatus 7 dieK q none 0x43
        match s.sqWeirPart q idx n 7 with
        | none => none
        | some u => u.weirDeliver die k t

/-- WQ (R121). -/
def execWq (c : CellId) (f : FF) (s : State) : Host.Outcome State Fault Refusal :=
  .next (s.exec1 (cellIdx c) 0x91 fun x =>
    let ci := cellIdx c
    let im := f.imm16.toNat
    let bc := im / 16 % 2 == 1
    let len := f.imm32.toNat
    let da := (x.sr f.sa.toNat).toNat
    enc s 0x91 (f.mods == 0 && decide (im < 32) && !(bc && decide (im % 16 ≠ 0)) && f.sb == 0 && f.sc == 0 && f.tag == 0 && len % 64 == 0 &&
        decide (64 ≤ len) && decide (len ≤ 65536))
      (match sigOf ci x f.sd.toNat f.token.toNat f.increment.toNat with
       | none => addrFault s 0x91 da
       | some g =>
         let ns := if bc then List.range 16 else [im % 16]
         if !s.cellLocal ci da len then addrFault s 0x91 da
         else if x.full || !ns.all s.weirRoom then .stall
         else
           let id := s.opNext
           let v := s.viewNow .clear
           let b := bput (bput (s.readPE v da len) 8 4 x.wu) 12 1 x.epoch
           let s := s.met v [(da, len, false)]
           let k : WBlk := { id, iss := .cell ci id, bytes := b, workUnit := x.wu, epoch := x.epoch, bcast := bc, declared := len }
           let op : AOp := { id, kind := .wq, sig := g, left := ns.length, status := 0, opcode := 0x91 }
           match ((s.setCell ci { x with ops := x.ops ++ [op] }).freshId).weirDeliver (ci / 256) k ns with
           | none => .stall
           | some t => .ok t))

/-! ### Starting and completing (R202, R204 to R206) -/

/-- May a queued block start: no command of its slot runs or stands before it (R202)? -/
def slotFree (w : Weir) (before : List WBlk) (k : WBlk) : Bool :=
  let same := fun (y : WBlk) => wbHasSlot k.bytes && wbHasSlot y.bytes && wbSlot y.bytes == wbSlot k.bytes
  !before.any same && !w.running.any fun y => same y.blk

/-- The first block of a queue that may start. -/
def pickBlk (w : Weir) : List WBlk → List WBlk → Option WBlk
  | _, [] => none
  | before, k :: t => if slotFree w before k then some k else pickBlk w (before ++ [k]) t

/-- A slot action that Weir n has not applied yet is applied between two commands on its slot: commands on it wait (R213). -/
def State.actionHolds (s : State) (n : Nat) (k : WBlk) : Bool :=
  match s.slotAct with
  | some a => wbHasSlot k.bytes && wbSlot k.bytes == a.slot && !a.applied.contains n
  | none => false

/-- Does no older reach command of the Weir's one queue stand before a block? A block carries no independent flag and never passes one
(R59, R201). (DEDUCED, log 58) -/
def State.headsReach (s : State) (n id : Nat) : Bool := (s.reach (weirRid n)).queue.all fun c => decide (id < c.id)

/-- WEIR_COMMAND_START (R202, R204, R207 to R209): a block starts, and a failed check completes it without effect. A block from the
keystone is admitted by the package ledger first (R206, R510). (DESIGN CHOICE, log 37) -/
def execWeirCommandStart (n : Fin 16) (s : State) : Host.Outcome State Fault Refusal :=
  let n := n.val
  let w := s.weir n
  .next (if !s.dieUp (dieW n) || s.asleep || decide (s.runCount (weirRid n) ≥ 16) then s
    else
      match pickBlk w [] (w.queue.filter fun k => !s.actionHolds n k && s.headsReach n k.id) with
      | none => s
      | some k =>
        let adm := match k.iss with
          | .sq .. => s.admitCharge 64 4 (Config.weirNj (wbOp k.bytes)) .weir
          | .cell .. => .ok s
        match adm with
        | .wait _ => s
        | .ok t =>
          let st := t.wbCheck n k
          let w := t.weir n
          (t.setWeir n { w with queue := w.queue.filter (·.id ≠ k.id),
                                running := w.running ++ [{ blk := k, regions := t.trg, done := if st = 0 then none else some st }] }).pullQueue (weirRid n))

/-- A running command that has not acted, with its operation and mode (EVICT, RESUMMARIZE). -/
def State.wbAct (s : State) (n id op : Nat) (mode : Option Nat) : Option WBlk :=
  if s.dieUp (dieW n) && !s.asleep then
    ((s.weir n).running.find? fun y => y.blk.id == id && y.done.isNone && wbOp y.blk.bytes == op &&
      (match mode with | some m => bfld y.blk.bytes 28 1 == m | none => true)).map (·.blk)
  else none

/-- The tiled regions under which a running command finishes (R175). -/
def State.wbRegions (s : State) (n id : Nat) : Tab Region :=
  (((s.weir n).running.find? fun y => y.blk.id == id).map (·.regions)).getD []

/-- The state in which a command's own accesses are no longer in flight. -/
def State.wbEnd (s : State) (n id : Nat) : State :=
  let w := s.weir n
  s.setWeir n { w with running := w.running.map fun y => if y.blk.id = id then { y with done := some 0 } else y }

/-- A command's effect is over, with its status and the count of blocks that failed their check (R238). -/
def State.wbDone (s : State) (n id st bad : Nat) : State :=
  let s := if bad = 0 then s else s.countCheck (4 + n) bad
  let w := s.weir n
  (s.setWeir n { w with running := w.running.map fun y => if y.blk.id = id then { y with done := some st } else y }).settle

/-- Tell an issuer that Weir n's part is over; none where it must wait. -/
def State.weirReport (s : State) (n : Nat) (k : WBlk) (st : Nat) : Option State :=
  match k.iss with
  | .cell ci op =>
    let lost := !s.weirPath (ci / 256) n
    let st := if lost && s.released (dieW n) then 8 else st
    (if lost then s.lostHeader n k st else s).wqPart ci op st
  | .sq q idx =>
    if s.weirPath dieK n || !s.released (dieW n) then s.sqWeirPart q idx n st
    else ((if s.reaches? dieK n then s.lostHeader n k 8 else s).raiseStatus 8 dieK q none 0x43).sqWeirPart q idx n 8

/-- WEIR_COMMAND_COMPLETE (R121, R205, R206, R476); what a Weir held in reset had to do was settled as lost, and completes at its issuer. -/
def execWeirCommandComplete (n : Fin 16) (id : Nat) (s : State) : Host.Outcome State Fault Refusal :=
  let n := n.val
  let w := s.weir n
  .next (match w.running.find? fun y => y.blk.id == id with
    | some y =>
      (match y.done with
       | none => s
       | some st =>
         if s.pwr.fatal || s.asleep then s
         else
           let s1 := s.setWeir n { w with running := w.running.filter (·.blk.id ≠ id) }
           let s1 := s1.raiseStatus st (dieW n) (weirRid n) none (wbOp y.blk.bytes)
           (s1.weirReport n y.blk st).getD s)
    | none => s)

/-- The slot copy of a Weir. -/
def State.wslot (s : State) (n k : Nat) : Slot := tget .free (s.weir n).slots k

/-- Does the Weir accept the writes of a command into its partition (R205)? A stale command writes nothing. -/
def State.wbStale (s : State) (n : Nat) (k : WBlk) : Option State :=
  if s.plcOk k.workUnit k.epoch then none else some (s.discard.wbDone n k.id 2 0)

/-! ### APPEND (R219 to R221) -/

/-- An APPEND entry. -/
structure AEntry where
  head : Nat
  pos : Nat
  k : List Nat
  v : List Nat
  sk : List Byte
deriving DecidableEq, Repr

/-- Read entry i of a block. -/
def aEntry (b : List Byte) (i : Nat) : AEntry :=
  let e := (b.drop (64 + 576 * i)).take 576
  { head := bfld e 0 2, pos := bfld e 4 4, k := elemsOf 2 128 ((e.drop 32).take 256), v := elemsOf 2 128 ((e.drop 288).take 256),
    sk := e.drop 544 }

/-- Put one row of 64 BF16 values into a tile of a page (R220): FP8 E4M3, or MXFP4 with one scale per 32 dimensions. -/
def tileRow (fmt : Nat) (tile : List Byte) (r : Nat) (xs : List Nat) : List Byte :=
  let vs := xs.map bf16.dec
  match fmtOf fmt with
  | none => tile
  | some f =>
    if fmt = 8 then
      let a := encBlock f 0 (vs.take 32) []
      let b := encBlock f 0 (vs.drop 32) []
      let es := (vs.take 32).map (fun v => if a.2 = 255 then 0 else f.encElem .rne (v.scale (127 - (a.2 : Int)))) ++
        (vs.drop 32).map (fun v => if b.2 = 255 then 0 else f.encElem .rne (v.scale (127 - (b.2 : Int))))
      let t := tile.take (32 * r) ++ packElems 4 es ++ tile.drop (32 * r + 32)
      t.take (2048 + 2 * r) ++ [BitVec.ofNat 8 a.2, BitVec.ofNat 8 b.2] ++ t.drop (2048 + 2 * r + 2)
    else tile.take (64 * r) ++ vs.map (fun v => BitVec.ofNat 8 (f.encElem .rne v)) ++ tile.drop (64 * r + 64)

/-- The four tiles of a page after one entry. -/
def entryTiles (fmt : Nat) (ts : List (List Byte)) (e : AEntry) : List (List Byte) :=
  let r := e.pos % 64
  [tileRow fmt (ts.getD 0 []) r (e.k.take 64), tileRow fmt (ts.getD 1 []) r (e.k.drop 64),
   tileRow fmt (ts.getD 2 []) r (e.v.take 64), tileRow fmt (ts.getD 3 []) r (e.v.drop 64)]

/-- Apply the entries that fall in one page; answers how many of the blocks read failed their check. -/
def State.appendPage (s : State) (n : Nat) (x : Slot) (h p : Nat) (es : List AEntry) : State × Nat :=
  let a := s.pageAt n x h p
  let hd := s.phdr a
  let fresh := hd.present = 0
  let fmt := if fresh then (if x.mx then 8 else 4) else if hd.fmt = 8 then 8 else 4
  let sz := pageTile fmt
  let size := fun b => if b < 4 then sz else if b = 4 then 2048 else 32
  let ok := fun b => fresh || s.blkOk (a.blk b) (size b) (a.trl b)
  let tiles := (List.range 4).map fun b => if fresh then zeros sz else s.readMem (a.blk b) sz
  let sk := if fresh then zeros 2048 else s.readMem (a.blk 4) 2048
  let tiles := es.foldl (entryTiles fmt) tiles
  let sk := es.foldl (fun b e => b.take (32 * (e.pos % 64)) ++ e.sk ++ b.drop (32 * (e.pos % 64) + 32)) sk
  let present := es.foldl (fun m e => m ||| 2 ^ (e.pos % 64)) hd.present
  let hd := { present, page := p, fmt, flags := if fresh then 0 else hd.flags }
  let bad := ((List.range 6).filter fun b => !ok b).length
  let s := if bad = 0 then s else s.eccRead a.frame x.frame
  let s := (List.range 4).foldl (fun s b => s.blkPut (a.blk b) (tiles.getD b []) (a.trl b) x.epoch fmt (!ok b)) s
  let s := s.blkPut (a.blk 4) sk (a.trl 4) x.epoch 0 (!ok 4)
  let s := s.putHdr a hd x.epoch (!ok 5)
  let (s, okS) := s.putSummary a x.epoch (summaryOf sk present)
  (s, bad + (!okS).toNat)

/-- The pages that a list of entries touches, in order of first appearance. -/
def entryPages (es : List AEntry) : List (Nat × Nat) := (es.map fun e => (e.head, e.pos / 64)).eraseDups

/-- APPEND. -/
def execAppend (n : Fin 16) (id : Nat) (s : State) : Host.Outcome State Fault Refusal :=
  let n := n.val
  .next (match s.wbAct n id 1 none with
    | none => s
    | some k =>
      match s.wbStale n k with
      | some t => t
      | none =>
        let sl := wbSlot k.bytes
        let x := s.wslot n sl
        let es := ((List.range (bfld k.bytes 28 2)).map (aEntry k.bytes)).filter fun e => weirHolds n e.head (e.pos / 64)
        let (s, bad) := (entryPages es).foldl (fun (acc : State × Nat) hp =>
          let (s, c) := acc.1.appendPage n x hp.1 hp.2 (es.filter fun e => e.head == hp.1 && e.pos / 64 == hp.2)
          (s, acc.2 + c)) (s, 0)
        let w := s.weir n
        let len := es.foldl (fun m e => max m (e.pos + 1)) (tget 0 w.lens sl)
        (s.setWeir n { w with lens := tset 0 w.lens sl len }).wbDone n id (if bad = 0 then 0 else 1) bad)

/-! ### ATTEND (R222 to R226) -/

/-- FP32 sum (R225): one rounding to nearest even. -/
def fadd (a b : Word) : Word := to32g ((of32 a).add (of32 b))
/-- FP32 product. -/
def fmul (a b : Word) : Word := to32g ((of32 a).mul (of32 b))
/-- FP32 difference. -/
def fsub (a b : Word) : Word := to32g ((of32 a).add (of32 b).neg)

/-- A query quantised to E4M3: its exponent x and its values (R225). -/
def quantQuery (q : List FV) : Int × List FV :=
  let top := q.foldl (fun (a : Nat × Int) v => match v with | .fin _ m e => if magGt m e a.1 a.2 then (m, e) else a | _ => a) (0, 0)
  let x : Int := if top.1 = 0 then -127 else floorLog2 top.1 top.2 - 8
  (x, q.map fun v => match fmtOf 4 with | some f => f.decElem (f.encElem .rne (v.scale (-x))) | none => v)

/-- The partial of a query head (R225). -/
structure Part where
  m : Word
  l : Word
  o : List Word
deriving DecidableEq, Repr

/-- The partial before any token. -/
def Part.zero : Part := { m := 0xFF800000, l := 0, o := List.replicate 128 0 }

/-- One token. -/
def Part.token (p : Part) (scale : Word) (x : Int) (qq k : List FV) (v : List Word) : Part :=
  let s := to32g (((of32 scale).mul (stepSum (List.zipWith FV.mul qq k))).scale x)
  let p := if (of32 p.m).lt (of32 s) then
      let c := exp2w (fsub p.m s)
      { m := s, l := fmul p.l c, o := p.o.map fun y => fmul y c }
    else p
  let w := exp2w (fsub s p.m)
  { p with l := fadd p.l w, o := List.zipWith (fun y z => fadd y (fmul w z)) p.o v }

/-- What a Weir found of a page: its number, where it lies, its header. -/
structure PageRef where
  p : Nat
  at_ : PageAt
  hdr : PHdr
deriving DecidableEq, Repr

/-- The pages of a head with a present token below the limit, not dropped (R223). -/
def State.ownedPages (s : State) (n : Nat) (x : Slot) (h limit : Nat) : List PageRef :=
  ((List.range ((limit + 63) / 64)).filter (weirHolds n h)).filterMap fun p =>
    let a := s.pageAt n x h p
    let hd := s.phdr a
    if !hd.dropped && (List.range 64).any (fun r => hd.has r && decide (64 * p + r < limit)) then some { p, at_ := a, hdr := hd } else none

/-- The Hamming distance of two sketches. -/
def hamming (a b : List Byte) : Nat := ((List.range 256).filter fun i => skBit a i ≠ skBit b i).length

/-- Put a scored page in its place: lowest score first, ties to higher p. -/
def insertScored (y : Nat × PageRef) : List (Nat × PageRef) → List (Nat × PageRef)
  | [] => [y]
  | z :: t => if y.1 < z.1 || (y.1 = z.1 && y.2.p > z.2.p) then y :: z :: t else z :: insertScored y t

/-- The pages read for a head, ascending, and the summary blocks that failed their check (R223, R238). -/
def State.selectPages (s : State) (n : Nat) (x : Slot) (h limit : Nat) (dense : Bool) (p0 p1 : Word) (sks : List (List Byte)) :
    List PageRef × List Nat :=
  let owned := s.ownedPages n x h limit
  if dense || limit < p1.fld 23 9 * 16384 then (owned, [])
  else
    let total := (limit + 63) / 64
    let inSink := fun (r : PageRef) => decide (r.p < p0.fld 0 11)
    let inWin := fun (r : PageRef) => decide (total ≤ r.p + p0.fld 11 17)
    let cand := owned.filter fun r => !inSink r && !inWin r
    let badBlks := ((cand.map fun r => (r.at_.sblk, r.at_.strl)).eraseDups.filter fun b => !s.blkOk b.1 2048 b.2).map (·.1)
    let cand := cand.filter fun r => !badBlks.contains r.at_.sblk
    let scored := cand.map fun r =>
      let sum := s.readMem (r.at_.sblk + r.at_.sOff) 32
      ((sks.map fun k => hamming k sum).foldl (· + ·) 0, r)
    let scored := if p1.bit 22 then scored.filter fun y => decide (y.1 ≤ p1.fld 13 9 * x.group) else scored
    let chosen := ((scored.foldl (fun acc y => insertScored y acc) []).take (p1.fld 0 13)).map (·.2.p)
    (owned.filter fun r => inSink r || inWin r || chosen.contains r.p, badBlks)

/-- The row of a pair of tiles: 128 values. -/
def rowVals (fmt : Nat) (t0 t1 : List Byte) (r : Nat) : List FV :=
  match fmtOf fmt with
  | some f => (List.range 64).map (f.value t0 r) ++ (List.range 64).map (f.value t1 r)
  | none => []

/-- The blocks of a page that fail when it is read: the tiles and the header. -/
def State.pageBad (s : State) (r : PageRef) : Nat :=
  let sz := pageTile r.hdr.fmt
  ((List.range 4).filter fun b => !s.blkOk (r.at_.blk b) sz (r.at_.trl b)).length + (!s.blkOk (r.at_.blk 5) 32 (r.at_.trl 5)).toNat

/-- Attend one page (R225): present tokens below the limit, ascending. -/
def State.attendPage (s : State) (limit : Nat) (scale : Word) (x : Int) (qq : List FV) (pt : Part) (r : PageRef) : Part :=
  let fmt := if r.hdr.fmt = 8 then 8 else 4
  let t := fun b => s.readMem (r.at_.blk b) (pageTile fmt)
  ((List.range 64).filter fun k => r.hdr.has k && decide (64 * r.p + k < limit)).foldl (fun pt k =>
    pt.token scale x qq (rowVals fmt (t 0) (t 1) k) ((rowVals fmt (t 2) (t 3) k).map to32g)) pt

/-- Tokens read of a page. -/
def PageRef.count (r : PageRef) (limit : Nat) : Nat := ((List.range 64).filter fun k => r.hdr.has k && decide (64 * r.p + k < limit)).length

/-- The bytes of a record (R226). -/
def Part.toBytes (p : Part) : List Byte := toBytesLE 4 p.m.toNat ++ toBytesLE 4 p.l.toNat ++ p.o.flatMap fun w => toBytesLE 4 w.toNat

/-- The record of a head that failed a check (R238). -/
def Part.failed : Part := { m := 0x7FC00000, l := 0x7FC00000, o := List.replicate 128 0 }

/-- ATTEND. -/
def execAttend (n : Fin 16) (id : Nat) (pe : PortEv) (s : State) : Host.Outcome State Fault Refusal :=
  let n := n.val
  .next (match s.wbAct n id 2 none with
    | none => s
    | some k =>
      match s.wbStale n k with
      | some t => t
      | none =>
        let b := k.bytes
        let sl := wbSlot b
        let x := s.wslot n sl
        let limit := bfld b 28 4
        let fl := bfld b 33 1
        let ovr := fl / 2 % 2 == 1
        let p0 : Word := if ovr then BitVec.ofNat 32 (bfld b 40 4) else x.pol0
        let p1 : Word := if ovr then BitVec.ofNat 32 (bfld b 44 4) else x.pol1
        let dense := fl % 2 == 1 || decide (limit < p1.fld 23 9 * 16384)
        let scale := BitVec.ofNat 32 (bfld b 36 4)
        let recd : Nat → List Byte := fun i => (b.drop (64 + 288 * i)).take 288
        let per : List (List PageRef × Nat × Nat × List Part) := (List.range x.kvh).map fun g =>
          let qs := (List.range x.group).map fun i => recd (g * x.group + i)
          let (ps, bad) := s.selectPages n x (bfld b 32 1 * x.kvh + g) limit dense p0 p1 (qs.map (·.take 32))
          let pbad := (ps.map s.pageBad).foldl (· + ·) 0
          let parts := qs.map fun q =>
            if pbad ≠ 0 then Part.failed
            else
              let (e, qq) := quantQuery ((elemsOf 2 128 (q.drop 32)).map bf16.dec)
              ps.foldl (s.attendPage limit scale e qq) Part.zero
          (ps, bad.length, pbad, parts)
        let degraded := per.any fun y => decide (y.2.1 ≠ 0)
        let fails := per.any fun y => decide (y.2.2.1 ≠ 0)
        let st := if degraded || fails then 1 else 0
        let hf := (per.zipIdx.map fun y => if y.1.2.2.1 ≠ 0 then (2 ^ x.group - 1) * 2 ^ (y.2 * x.group) else 0).foldl (· + ·) 0
        let pages := (per.map fun y => y.1.length).foldl (· + ·) 0
        let toks := (per.map fun y => (y.1.map (·.count limit)).foldl (· + ·) 0).foldl (· + ·) 0
        let hdr := toBytesLE 1 sl ++ toBytesLE 1 n ++ toBytesLE 2 x.epoch ++ toBytesLE 4 st ++ toBytesLE 8 hf ++ toBytesLE 4 pages ++
          toBytesLE 4 toks ++ toBytesLE 1 (dense.toNat + 2 * degraded.toNat + 4 * ovr.toNat) ++ toBytesLE 1 x.qheads ++ zeros 6
        let s := if degraded || fails then
            (List.range x.kvh).foldl (fun s g =>
              let h := bfld b 32 1 * x.kvh + g
              (s.ownedPages n x h limit).foldl (fun s r => (s.eccRead r.at_.frame x.frame).eccRead r.at_.sblk 2048) s) s
          else s
        let res := hdr ++ (per.flatMap fun y => y.2.2.2).flatMap Part.toBytes
        let s := s.wbEnd n id
        let v := s.viewEnd pe
        let accs := [(wbResult n b, res.length, true)]
        let st := worseStatus st (if v.busy accs then 3 else 0)
        let s := (s.writePE v (wbResult n b) res).met v accs
        let s := s.bumpN (Reg.Wn_ATT_PAGES n) pages
        let s := if degraded then s.bump (Reg.Wn_ATT_DEGRADED n) else s
        s.wbDone n id st ((per.map fun y => y.2.1 + y.2.2.1).foldl (· + ·) 0))

/-! ### FOLD and GATHER (R232 to R238) -/

/-- FOLD as a command. Its destination is the result field (R232). -/
def execFoldCommand (n : Fin 16) (id : Nat) (pe : PortEv) (s : State) : Host.Outcome State Fault Refusal :=
  let n := n.val
  .next (match s.wbAct n id 3 none with
    | none => s
    | some k =>
      let b := k.bytes
      let src := bfld b 32 8
      let dst := bfld b 16 8
      let len := bfld b 40 4
      let trg := s.wbRegions n id
      let s := (s.wbEnd n id).meet pe src len
      let v := srcView (s.viewEnd pe) trg src dst len
      let s := s.eccRead src len
      let (t, st) := match rangeKind trg src len, rangeKind trg dst len with
        | .tiled ra, .tiled rb => s.foldTiles v n ra rb src dst (bfld b 28 1 % 2 == 1) k.workUnit k.epoch (len / ra.slot)
        | _, _ => s.foldUntiled v n dst (s.readPE v src len) (fun i => s.poisonByte (src + i)) k.workUnit k.epoch
      (t.met v (rangeAcc trg src len false ++ rangeAcc trg dst len true)).wbDone n id st 0)

/-- Copy the elements of a GATHER, in index order; answers how many failed. -/
def State.gather (s : State) (v vr : View) (tiled : Bool) (a c : Option Region) (tab el : Nat) : List Nat → Nat → Nat → State × Nat
  | [], _, bad => (s, bad)
  | i :: t, dst, bad =>
    let s := s.eccRead (tab + i * el) el
    let (u, x) := match tiled, a, c with
      | true, some ra, some rc => let (u, ok) := s.copyTiles v vr ra rc (tab + i * el) dst 1; (u, (!ok).toNat)
      | _, _, _ => s.copyPlain v vr (tab + i * el) dst el
    u.gather v vr tiled a c tab el t (dst + el) (bad + x)

/-- GATHER. -/
def execGather (n : Fin 16) (id : Nat) (pe : PortEv) (s : State) : Host.Outcome State Fault Refusal :=
  let n := n.val
  .next (match s.wbAct n id 4 none with
    | none => s
    | some k =>
      match s.wbStale n k with
      | some t => t
      | none =>
        let b := k.bytes
        let tab := bfld b 32 8
        let el := bfld b 40 4
        let idx := (List.range (bfld b 48 4)).map fun i => bfld b (64 + 4 * i) 4
        let trg := s.wbRegions n id
        let dst := wbResult n b
        let all := bfld b 44 4 * el
        let s := (s.wbEnd n id).meet pe tab all
        let v := s.viewEnd pe
        let vr := if rangesMeet tab all dst (idx.length * el) then
            { v with undef := (dst, idx.length * el) :: (trailersOf trg dst (idx.length * el)).toList ++ v.undef } else v
        let accs := rangeAcc trg tab all false ++ rangeAcc trg dst (idx.length * el) true
        let (t, bad) := s.gather v vr (bfld b 28 1 % 2 == 1) (regionIn trg tab el) (regionIn trg dst el) tab el idx dst 0
        (t.met v accs).wbDone n id (if bad ≠ 0 then 1 else if v.busy accs then 3 else 0) bad)

/-! ### REQUANT, EVICT, RESUMMARIZE (R229 to R231) -/

/-- A tile converted from FP8 to MXFP4 (R229). -/
def requantTile (bs : List Byte) : List Byte :=
  match fmtOf 4, fmtOf 8 with
  | some f, some g =>
    let blocks := (List.range 128).map fun i => encBlock g 0 ((List.range 32).map fun j => f.value bs (i / 2) (i % 2 * 32 + j)) (List.replicate 32 0)
    packElems 4 (blocks.flatMap (·.1)) ++ blocks.map fun y => BitVec.ofNat 8 y.2
  | _, _ => bs

/-- Convert one page; answers how many blocks failed. A page whose header fails is unchanged. (DESIGN CHOICE, log 54) -/
def State.requantPage (s : State) (n : Nat) (x : Slot) (h p : Nat) : State × Nat :=
  let a := s.pageAt n x h p
  let hd := s.phdr a
  if !s.blkOk (a.blk 5) 32 (a.trl 5) then (s.eccRead (a.blk 5) 32, 1)
  else if hd.present ≠ 2 ^ 64 - 1 || hd.fmt ≠ 4 then (s, 0)
  else
    let bad := s.pageBad { p, at_ := a, hdr := hd }
    if bad ≠ 0 then (s.eccRead a.frame x.frame, bad)
    else
      let s := (List.range 4).foldl (fun s b => s.blkPut (a.blk b) (requantTile (s.readMem (a.blk b) 4096)) (a.trl b) x.epoch 8 false) s
      (s.putHdr a { hd with fmt := 8 } x.epoch false, 0)

/-- Run a page operation over pages, counting the blocks that failed. -/
def overPages (f : State → Nat × Nat → State × Nat) (s : State) (ps : List (Nat × Nat)) : State × Nat :=
  ps.foldl (fun (acc : State × Nat) hp => let (t, c) := f acc.1 hp; (t, acc.2 + c)) (s, 0)

/-- A slot command that writes pages: refused when stale, else run over its pages and done. -/
def State.pageCommand (s : State) (n : Nat) (k : WBlk) (f : State → Nat × Nat → State × Nat) (ps : List (Nat × Nat)) : State :=
  match s.wbStale n k with
  | some t => t
  | none =>
    let (t, bad) := overPages f s ps
    t.wbDone n k.id (if bad = 0 then 0 else 1) bad

/-- REQUANT. -/
def execRequant (n : Fin 16) (id : Nat) (s : State) : Host.Outcome State Fault Refusal :=
  let n := n.val
  .next (match s.wbAct n id 5 none with
    | none => s
    | some k => s.pageCommand n k (fun s hp => s.requantPage n (s.wslot n (wbSlot k.bytes)) hp.1 hp.2) (wbPages n k.bytes))

/-- Change a page header; one that fails its check is rewritten with present = 0 (R238). The summary follows where `re` holds. -/
def State.editHdr (s : State) (n : Nat) (x : Slot) (h p : Nat) (re : Bool) (f : PHdr → PHdr) : State × Nat :=
  let a := s.pageAt n x h p
  let hd := s.phdr a
  let ok := s.blkOk (a.blk 5) 32 (a.trl 5)
  let hd' := if ok then f hd else { hd with present := 0 }
  if hd' = hd && ok then (s, 0)
  else
    let s := s.eccRead (a.blk 5) 32
    let s := s.putHdr a hd' x.epoch false
    if re || !ok then
      let (s, bad) := s.summarize a x.epoch hd'.present
      (s, (!ok).toNat + bad)
    else (s, 0)

/-- The copies of the Weirs that run agree on a slot's state and epoch: the keystone's follows, but while an action on the slot is under
way. -/
def State.slotSync (s : State) (k : Nat) : State :=
  if (s.slotAct.map (·.slot)) = some k then s
  else match (List.range 16).filter fun n => s.dieUp (dieW n) with
  | [] => s
  | n :: t =>
    let x := s.wslot n k
    if t.all fun m => (s.wslot m k).active == x.active && (s.wslot m k).epoch == x.epoch then
      let y := tget .free s.slots k
      { s with slots := tset .free s.slots k { y with active := x.active, epoch := x.epoch } }
    else s

/-- Change a Weir's copy of a slot. -/
def State.setWslot (s : State) (n k : Nat) (x : Slot) : State :=
  let w := s.weir n
  s.setWeir n { w with slots := tset .free w.slots k x }

/-- EVICT, mode TRUNCATE. -/
def execEvictTruncate (n : Fin 16) (id : Nat) (s : State) : Host.Outcome State Fault Refusal :=
  let n := n.val
  .next (match s.wbAct n id 6 (some 0) with
    | none => s
    | some k =>
      match s.wbStale n k with
      | some t => t
      | none =>
        let sl := wbSlot k.bytes
        let len := bfld k.bytes 44 4
        let x := { s.wslot n sl with epoch := ((s.wslot n sl).epoch + 1) % 65536 }
        let s := s.setWslot n sl x
        let cut := fun (p : Nat) (hd : PHdr) => { hd with present := ((List.range 64).map fun r =>
          if hd.has r && decide (64 * p + r < len) then 2 ^ r else 0).foldl (· + ·) 0 }
        let (s, bad) := overPages (fun s hp => s.editHdr n x hp.1 hp.2 true (cut hp.2)) s (heldPages n x)
        ((s.relength n sl x).slotSync sl).wbDone n id (if bad = 0 then 0 else 1) bad)

/-- EVICT on the selected pages: DROP and UNDROP. -/
def State.evictDrop (s : State) (n : Nat) (k : WBlk) (on : Bool) : State :=
  let sl := wbSlot k.bytes
  let f := fun (hd : PHdr) => { hd with flags := hd.flags / 2 * 2 + on.toNat }
  match s.wbStale n k with
  | some t => t
  | none =>
    let x := s.wslot n sl
    let (t, bad) := overPages (fun s hp => s.editHdr n x hp.1 hp.2 false f) s (wbPages n k.bytes)
    let t := if bad = 0 then t else t.relength n sl x
    t.wbDone n k.id (if bad = 0 then 0 else 1) bad

/-- EVICT, mode DROP. -/
def execEvictDrop (n : Fin 16) (id : Nat) (s : State) : Host.Outcome State Fault Refusal :=
  .next (match s.wbAct n.val id 6 (some 1) with
    | none => s
    | some k => s.evictDrop n.val k true)

/-- EVICT, mode UNDROP. -/
def execEvictUndrop (n : Fin 16) (id : Nat) (s : State) : Host.Outcome State Fault Refusal :=
  .next (match s.wbAct n.val id 6 (some 2) with
    | none => s
    | some k => s.evictDrop n.val k false)

/-- EVICT, mode RELEASE (R213, R230). -/
def execEvictRelease (n : Fin 16) (id : Nat) (s : State) : Host.Outcome State Fault Refusal :=
  let n := n.val
  .next (match s.wbAct n id 6 (some 3) with
    | none => s
    | some k =>
      match s.wbStale n k with
      | some t => t
      | none =>
        let sl := wbSlot k.bytes
        let x := s.wslot n sl
        let s := s.setWslot n sl { x with active := false, epoch := (x.epoch + 1) % 65536 }
        let w := s.weir n
        ((s.setWeir n { w with lens := tset 0 w.lens sl 0 }).slotSync sl).wbDone n id 0 0)

/-- Recompute the summary of a page; answers how many blocks failed. A page whose header fails is unchanged. (DESIGN CHOICE, log 54) -/
def State.recompute (s : State) (n : Nat) (x : Slot) (h p : Nat) : State × Nat :=
  let a := s.pageAt n x h p
  if !s.blkOk (a.blk 5) 32 (a.trl 5) then (s.eccRead (a.blk 5) 32, 1) else s.summarize a x.epoch (s.phdr a).present

/-- RESUMMARIZE, mode RECOMPUTE. -/
def execResummarizeRecompute (n : Fin 16) (id : Nat) (s : State) : Host.Outcome State Fault Refusal :=
  let n := n.val
  .next (match s.wbAct n id 7 (some 0) with
    | none => s
    | some k => s.pageCommand n k (fun s hp => s.recompute n (s.wslot n (wbSlot k.bytes)) hp.1 hp.2) (wbPages n k.bytes))

/-- Install the sketches of pages from a payload. -/
def State.installPages (s : State) (n : Nat) (x : Slot) : List (Nat × Nat) → List Byte → Nat → State × Nat
  | [], _, bad => (s, bad)
  | hp :: t, pay, bad =>
    let a := s.pageAt n x hp.1 hp.2
    let u := s.blkPut (a.blk 4) (padTo 2048 (pay.take 2048)) (a.trl 4) x.epoch 0 false
    let (u, fails) := u.recompute n x hp.1 hp.2
    u.installPages n x t (pay.drop 2048) (bad + fails)

/-- RESUMMARIZE, mode INSTALL. -/
def execResummarizeInstall (n : Fin 16) (id : Nat) (s : State) : Host.Outcome State Fault Refusal :=
  let n := n.val
  .next (match s.wbAct n id 7 (some 1) with
    | none => s
    | some k =>
      match s.wbStale n k with
      | some t => t
      | none =>
        let (t, bad) := s.installPages n (s.wslot n (wbSlot k.bytes)) (wbPages n k.bytes) (k.bytes.drop 64) 0
        t.wbDone n id (if bad = 0 then 0 else 1) bad)

/-! ### Arriving folds (R201, R232 to R234) -/

/-- TILE_FOLD: a tile that a MOVE fold or a FOLD packet brought is folded into its resident tile. -/
def execTileFold (n : Fin 16) (x : FoldIn) (s : State) : Host.Outcome State Fault Refusal :=
  let n := n.val
  .next (match regionIn s.trg x.dest 8192 with
    | some r =>
      if s.rangeStore x.dest 8192 = some n && (x.dest - r.base) % r.slot == 0 && !s.touchesKv x.dest 8192 && s.dieUp (dieW n) && !s.asleep then
        (s.foldTile (s.viewNow .clear) n r x.dest x.bf16 x.data x.fmt (!x.bad) x.workUnit x.epoch).1
      else s
    | none => s)

/-! ### Registers of the partition and the slots (R239 to R249) -/

/-- Set KEY_SLOT_STATUS.error. -/
def slotErr (e : Nat) : State → State := fun s => s.setRf Reg.KEY_SLOT_STATUS 1 3 e

/-- A write of KEY_KV_PART (R239). -/
def State.wKvPart (s : State) (o : Origin) (dev : Nat) (v : Word) : State :=
  let cap := if s.fuses.stackHeight = 16 then 65536 else 49152
  let own : Option (State → State) :=
    if s.slotAct.isSome then some (slotErr 5)
    else if s.slots.any (fun kv => kv.2.active) then some (slotErr 4)
    else if v.fld 0 16 + v.fld 16 16 > cap then some (slotErr 1)
    else none
  s.gate o dev Reg.KEY_KV_PART v (s.reg Reg.KEY_KV_PART) own fun s x => s.keepReg Reg.KEY_KV_PART x

/-- KV_PART_WRITE. -/
def execKvPartWrite (o : Origin) (v : Word) (s : State) : Host.Outcome State Fault Refusal := .next (s.wKvPart o 0 v)

/-- A write of KEY_SLOT_SEL (R240). -/
def State.wSlotSel (s : State) (o : Origin) (dev : Nat) (v : Word) : State :=
  s.gate o dev Reg.KEY_SLOT_SEL v (s.reg Reg.KEY_SLOT_SEL) none fun s x =>
    let y := tget .free s.slots (x.fld 0 3)
    ((((s.keepReg Reg.KEY_SLOT_SEL x).setReg Reg.KEY_SLOT_RSV y.rsv).setReg Reg.KEY_SLOT_SHAPE y.shape).setReg
      Reg.KEY_SLOT_POL0 y.pol0).setReg Reg.KEY_SLOT_POL1 y.pol1

/-- SLOT_SELECT. -/
def execSlotSelect (o : Origin) (v : Word) (s : State) : Host.Outcome State Fault Refusal := .next (s.wSlotSel o 0 v)

/-- The staged fields, over the selected slot's state and epoch. -/
def State.staged (s : State) : Slot :=
  let y := tget .free s.slots (s.rf Reg.KEY_SLOT_SEL 0 3)
  { y with rsv := s.reg Reg.KEY_SLOT_RSV, shape := s.reg Reg.KEY_SLOT_SHAPE, pol0 := s.reg Reg.KEY_SLOT_POL0, pol1 := s.reg Reg.KEY_SLOT_POL1 }

/-- The area of a slot within the partition, in MiB. -/
def Slot.span (x : Slot) : Nat × Nat := (x.rsv.fld 16 16, x.foot)

/-- The refusal of a create (R212, R244); 0 where it is accepted. (DESIGN CHOICE, log 54) -/
def State.createCheck (s : State) (k : Nat) (x : Slot) : Nat :=
  let (o, f) := x.span
  if !x.shapeOk || !policyOk x.pol0 x.pol1 then 3
  else if o + f > s.rf Reg.KEY_KV_PART 16 16 then 1
  else if s.slots.any (fun kv => kv.1 ≠ k && kv.2.active && rangesMeet o f kv.2.span.1 kv.2.span.2) then 2
  else 0

/-- A write of KEY_SLOT_CFG (R213, R246). -/
def State.wSlotCfg (s : State) (o : Origin) (dev : Nat) (v : Word) : State :=
  let k := s.rf Reg.KEY_SLOT_SEL 0 3
  let a := v.fld 0 2
  let act := (tget .free s.slots k).active
  let own : Option (State → State) :=
    if s.slotAct.isSome then some (slotErr 5)
    else if a ≠ 0 && (act == (a == 1)) then some (slotErr 4)
    else none
  s.gate o dev Reg.KEY_SLOT_CFG v 0 own fun s _ =>
    let x := s.staged
    let e := if a = 1 then s.createCheck k x else if a = 2 && !policyOk x.pol0 x.pol1 then 3 else 0
    if a = 0 then s else if e ≠ 0 then slotErr e s else { s with slotAct := some { slot := k, action := a, staged := x, applied := [] } }

/-- SLOT_CREATE (R212, R213). -/
def execSlotCreate (o : Origin) (v : Word) (s : State) : Host.Outcome State Fault Refusal := .next (s.wSlotCfg o 0 v)

/-- SLOT_UPDATE_POLICY (R213). -/
def execSlotUpdatePolicy (o : Origin) (v : Word) (s : State) : Host.Outcome State Fault Refusal := .next (s.wSlotCfg o 0 v)

/-- SLOT_RELEASE (R213). -/
def execSlotRelease (o : Origin) (v : Word) (s : State) : Host.Outcome State Fault Refusal := .next (s.wSlotCfg o 0 v)

/-- The initial writes of a create in one stack (R213): empty page headers and zero summary blocks with valid trailers; the K, V and
sketch blocks with valid = 0. -/
def State.initSlot (s : State) (n : Nat) (x : Slot) : State :=
  let s := (heldPages n x).foldl (fun s hp =>
    let a := s.pageAt n x hp.1 hp.2
    (s.writeMem (a.trl 0) (zeros 40)).putHdr a { present := 0, page := hp.2, fmt := if x.mx then 8 else 4, flags := 0 } x.epoch false) s
  (List.range (x.heads * x.blocks)).foldl (fun s i =>
    let base := s.slotArea n x + x.heads * x.pages * x.frame
    s.blkPut (base + i * 2048) (zeros 2048) (base + x.heads * x.blocks * 2048 + i * 8) x.epoch 0 false) s

/-- A copy of a slot after an action: a create takes the staged fields, a policy update changes the policy alone (R213). -/
def SlotAct.after (a : SlotAct) (y : Slot) : Slot :=
  match a.action with
  | 1 => { a.staged with active := true, epoch := (y.epoch + 1) % 65536 }
  | 2 => { y with pol0 := a.staged.pol0, pol1 := a.staged.pol1 }
  | _ => { y with active := false, epoch := (y.epoch + 1) % 65536 }

/-- May Weir n apply an action now: it runs, and no command on the slot runs on it? -/
def State.mayApply (s : State) (a : SlotAct) (n : Nat) : Bool :=
  s.dieUp (dieW n) && !a.applied.contains n && !(s.weir n).running.any fun y => wbHasSlot y.blk.bytes && wbSlot y.blk.bytes == a.slot

/-- Weir n applies an action. A create takes the keystone's epoch. -/
def State.applySlot (s : State) (a : SlotAct) (n : Nat) : State :=
  let x := a.after (if a.action = 1 then tget .free s.slots a.slot else s.wslot n a.slot)
  let t := s.setWslot n a.slot x
  if a.action = 2 then t
  else
    let w := t.weir n
    let t := t.setWeir n { w with lens := tset 0 w.lens a.slot 0 }
    if a.action = 1 then t.initSlot n x else t

/-- SLOT_ACTION_DONE (R213, R247): each Weir that may applies the action, between two commands on the slot; busy clears when all sixteen
have. -/
def execSlotActionDone (s : State) : Host.Outcome State Fault Refusal :=
  .next (match s.slotAct with
    | none => s
    | some a =>
      if s.asleep then s
      else
        let ns := (List.range 16).filter (s.mayApply a)
        let t := ns.foldl (fun s n => s.applySlot a n) s
        let a := { a with applied := a.applied ++ ns }
        if (List.range 16).all a.applied.contains then
          ({ t with slots := tset .free t.slots a.slot (a.after (tget .free s.slots a.slot)), slotAct := none } : State).slotSync a.slot
        else { t with slotAct := some a })

/-- KEY_SLOT_FOOT (R245). -/
def State.slotFoot (s : State) : Word := BitVec.ofNat 32 (s.staged.foot % 2 ^ 17)

/-- KEY_SLOT_STATUS (R247). -/
def State.slotStatus (s : State) : Word :=
  let y := tget .free s.slots (s.rf Reg.KEY_SLOT_SEL 0 3)
  BitVec.ofNat 32 (s.slotAct.isSome.toNat + s.rf Reg.KEY_SLOT_STATUS 1 3 * 2 + y.active.toNat * 16 + y.epoch * 65536)

/-- Wn_SLOT_LENs (R249). -/
def State.slotLen (s : State) (n k : Nat) : Word := BitVec.ofNat 32 (tget 0 (s.weir n).lens k)

end Sys2Proof.Machine
end

