-- ==== Sys2Proof/Machine/Fabric.lean ====
section
/-! DEFINITION. The fabric (R417 to R461): requests of other devices and their answers, deduplication of flows, forwarding, discovery
and the choice of a manager, the two span dies' heartbeats and takeover, routes and identity. -/

namespace Sys2Proof.Machine

/-! ### The form of a packet (R426, R427) -/

/-- Does a packet keep to R426 and R427: a defined type, its payload length, no reserved bit? -/
def Packet.formOk (p : Packet) : Bool :=
  let l := Packet.units32 p
  let data := decide (1 ≤ l) && decide (l ≤ 8)
  let tile := p.flags / 4 % 2 == 1
  decide (p.addr < 2 ^ 46) && decide (p.flags < 16) &&
  match p.type with
  | 0x01 => l == 0 && decide (p.mod % 64 < 8) && decide (p.mod < 128)
  | 0x02 => data && (if tile then decide (p.mod < 128) else p.mod == 0)
  | 0x03 => l == 1 && decide (p.mod < 2)
  | 0x04 => data && (if tile then true else p.mod % 128 == 0)
  | 0x05 => l == 1 && decide (p.mod < 2)
  | 0x06 => decide (l ≤ 8) && decide (1 ≤ p.mod) && decide (p.mod ≤ 5)
  | 0x81 => data
  | 0x82 => l == 0
  | 0x83 => l == 1
  | 0x86 => decide (l ≤ 8) && decide (128 ≤ p.mod)
  | _ => false

/-- Count a packet dropped without a route at the span die of a port (R461). -/
def State.noRoute (s : State) (port : Nat) : State := s.bump (Reg.Sd_FAB_NOROUTE (port / 8))

/-- The span die of an arriving packet's port runs. -/
def State.portIn (s : State) (port : Nat) : Bool := s.dieUp (dieS (port / 8))

/-! ### Responses of this device (R427, R428) -/

/-- The type of the answer to a request. -/
def answerType (type : Nat) : Nat := if type = 1 then 0x81 else if type = 3 then 0x83 else if type = 6 then 0x86 else 0x82

/-- Answer a request: the tag is the request's; without a route the answer is dropped and counted. -/
def State.answer (s : State) (port die : Nat) (p : Packet) (st dup : Nat) (payload : List Byte) : State :=
  let r : Packet := { Packet.zero with dst := p.src, type := answerType p.type, trk := p.trk, tag := p.tag, gen := p.gen, status := st }
  match s.inject die { r with flags := dup * 2, mod := if p.type = 6 then p.mod + 128 else 0, payload } none with
  | .sent t => t
  | _ => s.noRoute port

/-- The zero data of an answer that carries data. -/
def zeroData (p : Packet) : List Byte := if p.type = 1 then zeros (32 * (p.mod % 16 + 1)) else if p.type = 3 then zeros 32 else []

/-! ### Flows (R442, R443) -/

/-- What the owner of a flow decides of a copy. -/
inductive Dedupe where
  | apply (s : State)
  | duplicate (s : State)
  | full

/-- The owner's span die of a flow. -/
def flowOwner (p : Packet) : Nat := (p.src + p.srcDie) % 2

/-- Deduplicate a request with a flow sequence (R443); an entry without a copy for 1 s is free. (DESIGN CHOICE, log 32) -/
def State.dedupe (s : State) (p : Packet) : Dedupe :=
  let d := flowOwner p
  let x := s.span d
  let live := x.flows.filter fun f => decide (s.ticks < f.last + 32768)
  let put := fun (fs : List FlowIn) => s.setSpan d { x with flows := fs }
  match live.find? fun f => f.src == p.src && f.die == p.srcDie with
  | none =>
    if live.length ≥ 2048 then .full
    else .apply (put (live ++ [{ src := p.src, die := p.srcDie, high := p.flowSeq, seen := [p.flowSeq], last := s.ticks }]))
  | some f =>
    let upd := fun (g : FlowIn) => put (live.map fun y => if y.src = f.src ∧ y.die = f.die then { g with last := s.ticks } else y)
    let a := (p.flowSeq + 2 ^ 32 - f.high) % 2 ^ 32
    let back := (f.high + 2 ^ 32 - p.flowSeq) % 2 ^ 32
    if 1 ≤ a ∧ a < 2 ^ 31 then
      .apply (upd { f with high := p.flowSeq, seen := (f.seen.filter fun q => decide ((p.flowSeq + 2 ^ 32 - q) % 2 ^ 32 < 1024)) ++ [p.flowSeq] })
    else if back < 1024 && !f.seen.contains p.flowSeq then .apply (upd { f with seen := f.seen ++ [p.flowSeq] })
    else .duplicate (upd f)

/-- A request of another device that reached this one by a port: dropped where its form is not R426's, deduplicated, applied, answered. -/
def State.request (s : State) (port : Nat) (type : Nat) (p : Packet) (apply : State → State × Nat × List Byte × Nat) : State :=
  if !s.portIn port || p.type ≠ type then s
  else if !Packet.formOk p || !s.idValid then s.noRoute port
  else if p.dst ≠ s.devId then s
  else
    let run := fun (s : State) => let (t, st, data, die) := apply s; t.answer port die p st 0 data
    if p.flags % 2 = 0 then run s
    else
      match s.dedupe p with
      | .apply t => run t
      | .duplicate t => (t.bump (Reg.Sd_FAB_DUPS (flowOwner p))).answer port (dieS (flowOwner p)) p 0 1 (zeroData p)
      | .full => (s.bump (Reg.Sd_FAB_DEDUPE_FULL (flowOwner p))).answer port (dieS (flowOwner p)) p 7 0 (zeroData p)

/-- The die that applies a request at an address (R35): the Weir of a stack, the tensor die of a pool or a cell memory. -/
def ownerDie (st : Nat) : Nat := if st < 16 then dieW st else storeDie st

/-- The store of a request's range, with the status where there is none or its die cannot be reached from the port's span die. -/
def State.reqStore (s : State) (port da len : Nat) : Except Nat Nat :=
  match s.rangeStore da len with
  | none => .error 11
  | some st => if s.reaches? (dieS (port / 8)) st then .ok st else .error 7

/-! ### READ, WRITE, ATOMIC, FOLD, TOKEN_SIGNAL (R428) -/

/-- Where a store's checks are counted: a Weir as 4 + n, a tensor die as itself (R186). -/
def checkDie (st : Nat) : Nat := if st < 16 then 4 + st else storeDie st

/-- The tiles of a region that a range touches, by the addresses of their slots. -/
def Region.slotsIn (r : Region) (da n : Nat) : List Nat :=
  ((List.range (n / max r.slot 1 + 2)).map fun i => r.base + ((da - r.base) / max r.slot 1 + i) * r.slot).filter fun a =>
    rangesMeet a r.slot da n && rangesMeet a r.slot r.base r.size

/-- A piece of a tiled payload as it leaves the device (R182): its bytes, zero beyond the S bytes of a tile (R187), and the tiles that
failed their check. -/
def State.tiledPiece (s : State) (v : View) (r : Region) (da n : Nat) : List Byte × List Nat :=
  let ts := (r.slotsIn da n).map fun a => (a, s.readTile v r a)
  let raw := s.readPE v da n
  let kept (x : Nat) : Bool := ts.any fun t => decide (t.1 ≤ x) && decide (x < t.1 + t.2.bytes.length)
  ((List.range n).map fun i => if kept (da + i) then raw.getD i 0 else 0, (ts.filter fun t => !t.2.ok).map (·.1))

/-- READ of a piece, or of a tile's trailer after the whole tile was checked. A piece of a tile that fails its check is sent with
TILE_CHECK, which is counted with the tile's last piece. (DESIGN CHOICE, log 52) -/
def State.doRead (s : State) (pe : PortEv) (port : Nat) (p : Packet) : State × Nat × List Byte × Nat :=
  let n := 32 * (p.mod % 16 + 1)
  let v := s.viewNow pe
  let sp := dieS (port / 8)
  if p.mod / 64 % 2 = 1 then
    match s.reqStore port p.addr 1 with
    | .error e => (s, e, zeros 32, sp)
    | .ok st =>
      match regionIn s.trg p.addr 1 with
      | none => (s, 0, zeros 32, ownerDie st)
      | some r =>
        if (p.addr - r.base) % r.slot ≠ 0 then (s, 11, zeros 32, ownerDie st)
        else
          let s := s.meet pe p.addr r.slot
          let t := s.readTile v r p.addr
          let accs := rangeAcc s.trg p.addr t.bytes.length false
          let u := (s.eccRead p.addr t.bytes.length).met v accs
          let busy := if v.busy accs then 3 else 0
          (if t.ok then u else u.countCheck (checkDie st) 1, if t.ok then busy else 1, padTo 32 (t.trl.mark t.ok).toBytes, ownerDie st)
  else
    match s.reqStore port p.addr n with
    | .error e => (s, e, zeros n, sp)
    | .ok st =>
      if p.addr % 32 ≠ 0 then (s, 11, zeros n, ownerDie st)
      else
        let s := s.meet pe p.addr n
        let accs := [(p.addr, n, false)]
        let busy := if v.busy accs then 3 else 0
        let u := (s.eccRead p.addr n).met v accs
        match regionIn s.trg p.addr n with
        | some r =>
          let (b, bad) := s.tiledPiece v r p.addr n
          let last := bad.filter fun a => decide (p.addr < a + (s.readTile v r a).bytes.length) && decide (a + (s.readTile v r a).bytes.length ≤ p.addr + n)
          (if last = [] then u else u.countCheck (checkDie st) last.length, if bad = [] then busy else 1, b, ownerDie st)
        | none => (u, if s.poisonRange p.addr n then 1 else busy, s.readPE v p.addr n, ownerDie st)

/-- READ. -/
def execRead (port : Fin 16) (p : Packet) (pe : PortEv) (s : State) : Host.Outcome State Fault Refusal :=
  .next (s.request port 1 p fun s => s.doRead pe port p)

/-- A piece of a tile that arrives is kept until its trailer packet (R426, R428). -/
def State.tilePiece (s : State) (p : Packet) (fold : Bool) : State :=
  let same := fun (t : TileIn) => t.src == p.src && t.srcDie == p.srcDie && t.addr == p.addr && t.fold == fold && !t.sealed
  let e : Nat × List Byte := (p.mod % 64, p.payload)
  let ts := s.fab.tiles
  let ts := if ts.any same then ts.map fun t => if same t then { t with pieces := (t.pieces.filter fun y => y.1 ≠ e.1) ++ [e] } else t
    else ts ++ [{ src := p.src, srcDie := p.srcDie, addr := p.addr, fold, sealed := false, pieces := [e] }]
  { s with fab := { s.fab with tiles := ts } }

/-- The bytes of a tile whose trailer packet arrives, its pieces in their places, and the state without them. -/
def State.tileTake (s : State) (p : Packet) (fold : Bool) : State × List Byte :=
  let same := fun (t : TileIn) => t.src == p.src && t.srcDie == p.srcDie && t.addr == p.addr && t.fold == fold && !t.sealed
  let ps := match s.fab.tiles.find? same with | some t => t.pieces | none => []
  let top := ps.foldl (fun m y => max m (256 * y.1 + y.2.length)) 0
  let b := (List.range ((top + 255) / 256)).flatMap fun i => padTo 256 (((ps.find? fun y => y.1 == i).map (·.2)).getD [])
  ({ s with fab := { s.fab with tiles := s.fab.tiles.filter fun t => !same t } }, b.take top)

/-- One 32-byte unit of untiled data for a slot of region r (R187): it is kept until the slot's S bytes are all here, and the slot is then
sealed; what lies beyond S is skipped. A WRITE does not carry the epoch of R179: it is a free value. (DESIGN CHOICE, log 52) -/
def State.sealUnit (s : State) (v : View) (p : Packet) (r : Region) (a : Nat) (bs : List Byte) : State :=
  let slot := r.base + (a - r.base) / max r.slot 1 * r.slot
  let k := tileBytes r.sealFmt
  if a - slot ≥ k then s
  else
    let same := fun (t : TileIn) => t.src == p.src && t.srcDie == p.srcDie && t.addr == slot && t.sealed
    let old := match s.fab.tiles.find? same with | some t => t.pieces | none => []
    let ps := (old.filter fun y => y.1 ≠ (a - slot) / 32) ++ [((a - slot) / 32, bs)]
    let rest := s.fab.tiles.filter fun t => !same t
    if ps.length * 32 < k then
      { s with fab := { s.fab with tiles := rest ++ [{ src := p.src, srcDie := p.srcDie, addr := slot, fold := false, sealed := true, pieces := ps }] } }
    else
      let b := (List.range (k / 32)).flatMap fun i => ((ps.find? fun y => y.1 == i).map (·.2)).getD []
      ({ s with fab := { s.fab with tiles := rest } }.takeFree 1).sealSlot v r slot s.freeVal b false

/-- The units of 32 bytes of a packet's payload, with their addresses. -/
def unitsOf (p : Packet) : List (Nat × List Byte) :=
  (List.range (p.payload.length / 32)).map fun i => (p.addr + 32 * i, (p.payload.drop (32 * i)).take 32)

/-- The trailer that a trailer packet carries. -/
def pktTrailer (p : Packet) : Trailer :=
  { crc := bfld p.payload 0 4, epoch := bfld p.payload 4 2, fmt := bfld p.payload 6 1, flags := bfld p.payload 7 1 }

/-- WRITE: untiled data is stored, or sealed where it fills slots (R187); a tile takes effect with its trailer, its CRC recomputed (R182). -/
def State.doWrite (s : State) (pe : PortEv) (port : Nat) (p : Packet) : State × Nat × List Byte × Nat :=
  let sp := dieS (port / 8)
  let tile := p.flags / 4 % 2 = 1
  let n := if tile then 1 else p.payload.length
  match s.reqStore port p.addr n with
  | .error e => (s, e, [], sp)
  | .ok st =>
    let own := ownerDie st
    let v := s.viewNow pe
    let ends := fun (s : State) (accs : List Acc) (st : Nat) => (s.met v accs, worseStatus st (if v.busy accs then 3 else 0), ([] : List Byte), own)
    if !tile then
      let r := regionIn s.trg p.addr n
      if p.addr % 32 ≠ 0 || touchesTrailer s.trg p.addr n || (r.isNone && touchesPayload s.trg p.addr n) || s.touchesKv p.addr n then (s, 11, [], own)
      else if !s.plcOk p.workUnit p.epoch then (s.discard, 2, [], own)
      else match r with
        | some r => ends ((unitsOf p).foldl (fun s x => s.sealUnit v p r x.1 x.2) s) (rangeAcc s.trg p.addr n true) 0
        | none => ends (s.writePE v p.addr p.payload) [(p.addr, n, true)] 0
    else if !s.plcOk p.workUnit p.epoch then (s.discard, 2, [], own)
    else if p.mod / 64 % 2 = 0 then (s.tilePiece p false, 0, [], own)
    else
      let tr := pktTrailer p
      let region := regionIn s.trg p.addr 1
      let k := tileSize tr.fmt ((region.map (·.sealFmt)).getD 0)
      let (s, all) := s.tileTake p false
      let b := padTo k all
      let ok := (crc32c b).toNat = tr.crc && tr.valid && !tr.poison
      match region with
      | some r =>
        if (p.addr - r.base) % r.slot ≠ 0 || k > r.slot || s.touchesKv p.addr k then (s, 11, [], own)
        else
          let t := s.writeTile v r p.addr b (tr.mark ok)
          ends (if ok then t else t.countCheck (checkDie st) 1) (rangeAcc s.trg p.addr k true) (if ok then 0 else 1)
      | none =>
        let n := max k all.length
        if (s.rangeStore p.addr n).isNone || touchesTiled s.trg p.addr n || s.touchesKv p.addr n then (s, 11, [], own)
        else if ok then ends (s.writePE v p.addr (padTo n all)) [(p.addr, n, true)] 0
        else (s.countCheck (checkDie st) 1, 1, [], own)

/-- WRITE. -/
def execWrite (port : Fin 16) (p : Packet) (pe : PortEv) (s : State) : Host.Outcome State Fault Refusal :=
  .next (s.request port 2 p fun s => s.doWrite pe port p)

/-- ATOMIC (R102): operand a is added, or compared with b stored. -/
def State.doAtomic (s : State) (pe : PortEv) (port : Nat) (p : Packet) : State × Nat × List Byte × Nat :=
  let sp := dieS (port / 8)
  match s.reqStore port p.addr 8 with
  | .error e => (s, e, zeros 32, sp)
  | .ok st =>
    let own := ownerDie st
    let v := s.viewNow pe
    let s := s.meet pe p.addr 8
    if !s.atomicOk p.addr then (s, 11, zeros 32, own)
    else if s.poisonRange p.addr 8 then (s.eccRead p.addr 8, 1, zeros 32, own)
    else if !s.plcOk p.workUnit p.epoch then (s.discard, 2, zeros 32, own)
    else
      let old := ofBytesLE (s.readPE v p.addr 8)
      let new := atomicNew (p.mod = 1) old (bfld p.payload 0 8) (bfld p.payload 8 8)
      let accs := [(p.addr, 8, new.isSome)]
      let t := match new with
        | some w => s.writePE v p.addr (toBytesLE 8 w)
        | none => s
      (t.met v accs, if v.busy accs then 3 else 0, padTo 32 (toBytesLE 8 old), own)

/-- ATOMIC. -/
def execAtomic (port : Fin 16) (p : Packet) (pe : PortEv) (s : State) : Host.Outcome State Fault Refusal :=
  .next (s.request port 3 p fun s => s.doAtomic pe port p)

/-- FOLD (R232 to R234): untiled words are summed; a tile folds with its trailer. -/
def State.doFold (s : State) (port : Nat) (p : Packet) : State × Nat × List Byte × Nat :=
  let sp := dieS (port / 8)
  let tile := p.flags / 4 % 2 = 1
  let b16 := p.mod / 128 % 2 == 1
  let n := if tile then 1 else p.payload.length
  match s.reqStore port p.addr n with
  | .error e => (s, e, [], sp)
  | .ok st =>
    let own := ownerDie st
    if st ≥ 16 then (s, 11, [], own)
    else if !tile then
      if p.addr % 32 ≠ 0 || b16 || touchesTiled s.trg p.addr n || s.touchesKv p.addr n then (s, 11, [], own)
      else
        let (t, x) := (s.eccRead p.addr n).foldUntiled (s.viewNow .clear) st p.addr p.payload (fun _ => false) p.workUnit p.epoch
        (t, x, [], own)
    else if p.mod / 64 % 2 = 0 then
      if s.plcOk p.workUnit p.epoch then (s.tilePiece p true, 0, [], own) else (s.discard, 2, [], own)
    else
      let tr := pktTrailer p
      let (s, all) := s.tileTake p true
      let b := padTo (tileBytes tr.fmt) all
      match regionIn s.trg p.addr 8192 with
      | some r =>
        if (p.addr - r.base) % r.slot ≠ 0 || s.touchesKv p.addr 8192 then (s, 11, [], own)
        else
          let ok := (crc32c b).toNat = tr.crc && tr.valid && !tr.poison
          let (t, x) := s.foldTile (s.viewNow .clear) st r p.addr b16 b tr.fmt ok p.workUnit p.epoch
          (t, x, [], own)
      | none => (s, 11, [], own)

/-- FOLD as a packet. -/
def execFoldPacket (port : Fin 16) (p : Packet) (s : State) : Host.Outcome State Fault Refusal :=
  .next (s.request port 4 p fun s => s.doFold port p)

/-- TOKEN_SIGNAL (R49, R52, R55, R73). -/
def execTokenSignal (port : Fin 16) (p : Packet) (s : State) : Host.Outcome State Fault Refusal :=
  .next (s.request port 5 p fun s =>
    let r := bfld p.payload 0 4
    let i := bfld p.payload 4 2
    if !s.reachHere r then (s, 11, [], dieS (port.val / 8))
    else if !s.diePath (dieS (port.val / 8)) (ridDie r) then (s, 7, [], dieS (port.val / 8))
    else
      let (t, st) := s.applySignal (dieS (port.val / 8)) r (i % 4096) (bfld p.payload 6 2) (bfld p.payload 8 4) p.workUnit p.epoch (p.mod = 1)
      (t, st, [], ridDie r))

/-! ### Responses to this device -/

/-- A response of the type a row names, for this device, goes to its tracker (R436, R439, R444). -/
def State.answered (s : State) (pe : PortEv) (port type : Nat) (p : Packet) : State :=
  if !s.portIn port || p.type ≠ type then s
  else if !Packet.formOk p then s.noRoute port
  else if p.flags / 8 % 2 = 0 && (!s.idValid || p.dst ≠ s.devId) then s
  else s.response pe p

/-- READ_DATA. -/
def execReadData (port : Fin 16) (p : Packet) (pe : PortEv) (s : State) : Host.Outcome State Fault Refusal := .next (s.answered pe port 0x81 p)

/-- WRITE_ACK. -/
def execWriteAck (port : Fin 16) (p : Packet) (s : State) : Host.Outcome State Fault Refusal := .next (s.answered .clear port 0x82 p)

/-- ATOMIC_DATA. -/
def execAtomicData (port : Fin 16) (p : Packet) (s : State) : Host.Outcome State Fault Refusal := .next (s.answered .clear port 0x83 p)

/-- A path-routed packet's path (R433): hop index, length, port numbers. -/
def pathIdx (p : Packet) : Nat := bfld p.payload 0 1
/-- The length of the path. -/
def pathLen (p : Packet) : Nat := bfld p.payload 1 1
/-- The port number at a hop. -/
def pathPort (p : Packet) (i : Nat) : Nat := bfld p.payload (2 + i / 2) 1 / (if i % 2 = 0 then 1 else 16) % 16

/-- Replace the port number at a hop. -/
def setPathPort (b : List Byte) (i v : Nat) : List Byte :=
  let old := bfld b (2 + i / 2) 1
  bput b (2 + i / 2) 1 (if i % 2 = 0 then old / 16 * 16 + v else v * 16 + old % 16)

/-- Is a packet path-routed? -/
def pathRouted (p : Packet) : Bool := p.flags / 8 % 2 == 1

/-- Does a path keep to R433? -/
def pathOk (p : Packet) : Bool := decide (1 ≤ pathLen p) && decide (pathLen p ≤ 48) && bfld p.payload 26 6 == 0

/-- MGMT_RESPONSE: a path-routed one is at its last hop. -/
def execMgmtResponse (port : Fin 16) (p : Packet) (s : State) : Host.Outcome State Fault Refusal :=
  .next (if pathRouted p && (!pathOk p || pathIdx p < pathLen p) then s else s.answered .clear port 0x86 p)

/-! ### Forwarding (R417, R420 to R426, R433) -/

/-- Send a packet of another device on by a port, hops counted. -/
def State.forwardOn (s : State) (out vc : Nat) (p : Packet) : State := s.txWait out vc { p with hops := p.hops + 1 } none

/-- MGMT_FORWARD: a path-routed packet goes out by the port that its path names, which is replaced with the one it came by. -/
def execMgmtForward (port : Fin 16) (p : Packet) (s : State) : Host.Outcome State Fault Refusal :=
  .next (if !s.portIn port || !(p.type = 6 || p.type = 0x86) || !pathRouted p || pathIdx p ≥ pathLen p then s
    else if !Packet.formOk p || !pathOk p then s.noRoute port
    else
      let out := pathPort p (pathIdx p)
      if !s.portUp out then s.noRoute port
      else if p.hops ≥ 62 then s.bump (Reg.Sd_FAB_HOPS (port.val / 8))
      else s.forwardOn out 0 { p with payload := bput (setPathPort p.payload (pathIdx p) port.val) 0 1 (pathIdx p + 1) })

/-- The class of a packet that leaves by port `out`, having come by `port` in class `c` (R424). -/
def State.nextClass (s : State) (port out c : Nat) : Nat :=
  let ring := fun q => s.rf (Reg.Sd_PORTp_FAB q) 1 2
  if s.rb (Reg.Sd_PORTp_FAB out) 0 then 1 else if ring port = ring out then c else 0

/-- PACKET_FORWARD: a packet for another device, every mode taken as SINGLE. -/
def execPacketForward (port : Fin 16) (vc : Nat) (p : Packet) (s : State) : Host.Outcome State Fault Refusal :=
  .next (if !s.portIn port || pathRouted p || p.type = 7 || (s.idValid && p.dst = s.devId) then s
    else if !Packet.formOk p || !s.idValid then s.noRoute port
    else if p.hops ≥ 62 then s.bump (Reg.Sd_FAB_HOPS (port.val / 8))
    else
      let r := s.route (s.routeKey p.dst)
      if !r.valid || r.primary = 0 then s.noRoute port
      else
        let rk := (s.rank r.primary r.alternate).1
        match s.choose r.select (p.flags / 4 % 2 == 1) rk (vcOf p.type 0) p.dst p.src p.srcDie p.addr with
        | none => s.noRoute port
        | some out =>
          let c := if vc = 2 || vc = 4 then 1 else 0
          s.forwardOn out (vcOf p.type (s.nextClass port out c)) p)

/-! ### Discovery and the manager (R430 to R432) -/

/-- A port's HELLO state. -/
def State.hello (s : State) (p : Nat) : HelloSt := tget .none s.fab.hello p

/-- Put back a port's HELLO state. -/
def State.setHello (s : State) (p : Nat) (h : HelloSt) : State := { s with fab := { s.fab with hello := tset .none s.fab.hello p h } }

/-- A manager that may be followed: priority (0 host software, 1 firmware), digest, distance, port, sequence. -/
structure Cand where
  prio : Nat
  digest : List Byte
  dist : Nat
  port : Option Nat
  seq : Nat
deriving DecidableEq, Repr

/-- Bytewise order of digests. -/
def bytesLt : List Byte → List Byte → Bool
  | [], [] => false
  | [], _ => true
  | _, [] => false
  | a :: s, b :: t => if a = b then bytesLt s t else decide (a < b)

/-- The better of two candidates: the lower key, then the smaller distance; else the first. -/
def Cand.better (x y : Cand) : Cand :=
  if x.prio ≠ y.prio then (if y.prio < x.prio then y else x)
  else if bytesLt y.digest x.digest then y
  else if x.digest = y.digest && y.dist < x.dist then y
  else x

/-- The candidates: this device where it offers itself, and what each LIVE port's neighbour follows. -/
def State.cands (s : State) : List Cand :=
  let own : List Cand :=
    if s.rb Reg.KEY_FAB_CTL 1 then [{ prio := 0, digest := s.ownDigest, dist := 0, port := none, seq := s.fab.ownMgrSeq }]
    else if s.rb Reg.KEY_FAB_CTL 0 then [{ prio := 1, digest := s.ownDigest, dist := 0, port := none, seq := s.fab.ownMgrSeq }]
    else []
  own ++ (List.range 16).filterMap fun p =>
    match (s.hello p).taken with
    | some m =>
      if (s.port p).wasLive && !allZero m.mgrDigest && m.distance + 1 < 63 then
        some { prio := if m.mgrHost then 0 else 1, digest := m.mgrDigest, dist := m.distance + 1, port := some p, seq := m.mgrSeq }
      else none
    | none => none

/-- Follow the best candidate (R432): a change of manager is logged. -/
def State.elect (s : State) : State :=
  let best := s.cands.foldl (fun (acc : Option Cand) c => match acc with | none => some c | some x => some (x.better c)) none
  let f := s.fab
  match best with
  | none =>
    let t := { s with fab := { f with mgrHost := false, mgrSeq := 0, mgrPort := none, mgrDigest := [], mgrDist := 63, mgrDevId := none } }
    if f.mgrDigest = [] then t else t.logEvent .autonomous 6 Reg.KEY_FAB_STATUS 63
  | some c =>
    let same := f.mgrDigest = c.digest && f.mgrHost == (c.prio == 0)
    let told := (List.range 16).findSome? fun p =>
      match (s.hello p).taken with
      | some m => if m.digest = c.digest && m.idValid then some m.devId else none
      | none => none
    let id := if c.port.isNone then (if s.idValid then some s.devId else none) else told
    let t := { s with fab := { f with mgrHost := c.prio == 0, mgrSeq := c.seq, mgrPort := c.port, mgrDigest := c.digest, mgrDist := c.dist, mgrDevId := id } }
    if same then t else t.logEvent .autonomous 6 Reg.KEY_FAB_STATUS c.dist

/-- HELLO (R431): taken where its sequence is newer than the last taken from that port. -/
def execHello (port : Fin 16) (m : HelloMsg) (s : State) : Host.Outcome State Fault Refusal :=
  let h := s.hello port
  let newer := match h.taken with
    | none => true
    | some o => let d := (m.seq + 2 ^ 32 - o.seq) % 2 ^ 32; decide (1 ≤ d) && decide (d < 2 ^ 31)
  .next (if s.portLive port && newer then (s.setHello port { h with taken := some m }).elect else s)

/-- The payload of a HELLO (R430). -/
def helloBytes (m : HelloMsg) : List Byte :=
  padTo 192 (padTo 64 m.digest ++ padTo 64 m.mgrDigest ++ toBytesLE 1 m.port ++
    toBytesLE 1 (m.idValid.toNat + 2 * m.mgrHost.toNat + 4 * m.candidate.toNat) ++ toBytesLE 3 m.devId ++ toBytesLE 1 m.distance ++
    toBytesLE 4 m.seq ++ toBytesLE 4 m.events ++ toBytesLE 4 m.mgrSeq)

/-- HELLO_SEND (R430, R432): the manager raises its own sequence with every HELLO. -/
def execHelloSend (port : Fin 16) (s : State) : Host.Outcome State Fault Refusal :=
  .next (if !s.portLive port then s
    else
      let f := s.fab
      let self := f.mgrDigest ≠ [] && f.mgrPort.isNone
      let seq := if self then (f.ownMgrSeq + 1) % 2 ^ 32 else f.mgrSeq
      let s := if self then { s with fab := { f with ownMgrSeq := seq, mgrSeq := seq } } else s
      let h := s.hello port
      let n := (h.seq + 1) % 2 ^ 32
      let m : HelloMsg := { digest := s.ownDigest, mgrDigest := f.mgrDigest, port := port.val, idValid := s.idValid, mgrHost := f.mgrHost,
                            candidate := s.rb Reg.KEY_FAB_CTL 0, devId := if s.idValid then s.devId else 0, distance := f.mgrDist,
                            seq := n, events := h.events, mgrSeq := seq }
      (s.setHello port { h with seq := n }).txWait port 0 { Packet.zero with type := 7, payload := helloBytes m } none)

/-- MANAGER_TIMEOUT (R432): the manager's sequence has not advanced for 20 ms: what the ports heard of it is forgotten. -/
def execManagerTimeout (s : State) : Host.Outcome State Fault Refusal :=
  .next (let f := s.fab
    if f.mgrPort.isNone then s
    else
      let hs := f.hello.map fun (kv : Nat × HelloSt) =>
        (kv.1, match kv.2.taken with
          | some m => if m.mgrDigest = f.mgrDigest && m.mgrHost == f.mgrHost then { kv.2 with taken := some { m with mgrDigest := [], distance := 63 } } else kv.2
          | none => kv.2)
      ({ s with fab := { f with hello := hs } }).elect)

/-! ### Trackers and flows -/

/-- TRACKER_TIMEOUT (R437). -/
def execTrackerTimeout (d : Fin 2) (idx : Nat) (s : State) : Host.Outcome State Fault Refusal :=
  .next (if s.dieUp (dieS d) then s.trkLost d idx else s)

/-- QUARANTINE_EXPIRY (R439): 2 × timeout_ms passed since the entry was freed. -/
def execQuarantineExpiry (d : Fin 2) (idx : Nat) (s : State) : Host.Outcome State Fault Refusal :=
  let e := s.trk d idx
  .next (if e.use = .quarantined then (s.setTrk d idx { e with use := .free }).pumpAll else s)

/-- FLOW_EXPIRY (R441): a counter with nothing outstanding expires. -/
def execFlowExpiry (die dev : Nat) (s : State) : Host.Outcome State Fault Refusal :=
  let k := flowKey die dev
  .next (match tget none s.fab.flowOut k with
    | some f => if f.out = 0 then ({ s with fab := { s.fab with flowOut := tset none s.fab.flowOut k none } }).pumpAll else s
    | none => s)

/-! ### Heartbeats, TAKEOVER and YIELDED (R445 to R451) -/

/-- Set a span die's role. -/
def State.setRole (s : State) (d r : Nat) : State := s.setRf (Reg.Sd_PIER_STATUS d) 2 2 r

/-- Move an entry's active set. -/
def State.setActive (s : State) (k : Nat) (r : Route) (active armed : Bool) : State :=
  let s := s.setRoute k { r with active, armed }
  if active = r.active then s else { s with fab := { s.fab with mapChanges := s.fab.mapChanges + 1 } }

/-- Does an entry's set lie on span die d? -/
def Route.altOn (r : Route) (d : Nat) : Bool := maskDie r.alternate == d

/-- The STANDBY entries. -/
def State.standbys (s : State) : List (Nat × Route) := s.fab.routes.filter fun kv => kv.2.mode == 1

/-- A span die enters TAKEOVER (R447): logged, counted, reported. -/
def State.takeover (s : State) (d : Nat) : State :=
  let s := (s.setRole d 1).setSpan d { s.span d with taking := true, stopped := false }
  let s := (s.logEvent .autonomous 5 (Reg.Sd_PIER_STATUS d) d).bump (Reg.Sd_FAB_TAKEOVERS d)
  s.emit (.sideband dieK d)

/-- A span die presumes its partner dead: it takes over where it may. -/
def State.mayTakeOver (s : State) (d : Nat) : Bool := s.presumes d && s.role d == 0 && (d == 0 || s.rb (Reg.Sd_PIER_STATUS d) 5)

/-- PIER_SILENT (R446, R447). -/
def execPierSilent (d : Fin 2) (pier : Nat) (s : State) : Host.Outcome State Fault Refusal :=
  .next (if !s.dieUp (dieS d) || pier ≥ 2 then s
    else
      let s := s.setRb (Reg.Sd_PIER_STATUS d) pier false
      if s.rf (Reg.Sd_PIER_STATUS d) 0 2 ≠ 0 || s.presumes d then s
      else
        let s := s.setRb (Reg.Sd_PIER_STATUS d) 4 true
        if s.mayTakeOver d then s.takeover d else s)

/-- TAKEOVER_COMPLETE (R447): every armed STANDBY entry moves to this span die's set; the partner's requests are lost. -/
def execTakeoverComplete (d : Fin 2) (s : State) : Host.Outcome State Fault Refusal :=
  .next (if !s.dieUp (dieS d) || s.role d ≠ 1 || !(s.span d).taking then s
    else
      let s := s.setSpan d { s.span d with taking := false }
      let s := s.standbys.foldl (fun s kv => if kv.2.armed then s.setActive kv.1 kv.2 (kv.2.altOn d) false else s) s
      s.spanLost (1 - d.val))

/-- TAKEOVER_REPORT (R448): K holds the report; with both it sends FORCE_STANDBY. -/
def execTakeoverReport (d : Fin 2) (s : State) : Host.Outcome State Fault Refusal :=
  .next (if !s.dieUp dieK || s.role d ≠ 1 || s.fab.reports.contains d.val then s
    else
      let rs := s.fab.reports ++ [d.val]
      let s := { s with fab := { s.fab with reports := rs } }
      if rs.length = 2 then ({ s with fab := { s.fab with forceSends := 1 } }).emit (.sideband (dieS 1) 0) else s)

/-- S1 stops emitting STANDBY copies (R448, first stage). -/
def State.yieldStart (s : State) : State := s.setSpan 1 { s.span 1 with stopped := true, taking := false }

/-- FORCE_STANDBY (R448): S1 acknowledges it. -/
def execForceStandby (s : State) : Host.Outcome State Fault Refusal :=
  .next (if s.dieUp (dieS 1) && s.role 1 = 1 then { s.yieldStart with fab := { s.yieldStart.fab with forceSends := 0 } } else s)

/-- FORCE_STANDBY_REPEAT (R448): up to three sends. -/
def execForceStandbyRepeat (s : State) : Host.Outcome State Fault Refusal :=
  .next (let n := s.fab.forceSends
    if n = 0 || n ≥ 3 then s else ({ s with fab := { s.fab with forceSends := n + 1 } }).emit (.sideband (dieS 1) 0))

/-- YIELD_COMPLETE (R448): every STANDBY entry is S0's. -/
def execYieldComplete (s : State) : Host.Outcome State Fault Refusal :=
  .next (if !s.dieUp (dieS 1) || s.role 1 ≠ 1 || !(s.span 1).stopped then s
    else (s.standbys.foldl (fun s kv => s.setActive kv.1 kv.2 (kv.2.altOn 0) false) s).setRole 1 2)

/-- A span die is NORMAL again. -/
def State.normal (s : State) (d : Nat) : State :=
  let s := (s.setRole d 0).setSpan d { s.span d with stopped := false, taking := false }
  { s with fab := { s.fab with reports := s.fab.reports.filter (· ≠ d), forceSends := 0 } }

/-- HEARTBEAT (R446, R448, R449): the partner lives; S1 in TAKEOVER yields where S0 shows TAKEOVER, a YIELDED S1 and a span die in TAKEOVER
return to NORMAL. -/
def execHeartbeat (d : Fin 2) (pier role _mask _changes : Nat) (s : State) : Host.Outcome State Fault Refusal :=
  .next (if !s.dieUp (dieS d) || pier ≥ 2 then s
    else
      let s := (s.setRb (Reg.Sd_PIER_STATUS d) pier true).setRb (Reg.Sd_PIER_STATUS d) 4 false
      if d.val = 1 && s.role 1 = 1 && role = 1 then s.yieldStart
      else if s.role d = 0 || (d.val = 1 && s.role 1 = 1 && (s.span 1).stopped) then s
      else s.normal d)

/-- HEARTBEAT_SEND (R446). -/
def execHeartbeatSend (d : Fin 2) (s : State) : Host.Outcome State Fault Refusal :=
  .next (if !s.dieUp (dieS d) then s
    else
      let mask := ((List.range 8).map fun i => if s.portUp (8 * d.val + i) then 2 ^ (8 * d.val + i) else 0).foldl (· + ·) 0
      (s.setSpan d { s.span d with hbCount := (s.span d).hbCount + 1 }).emit (.heartbeat d.val (s.role d) mask s.fab.mapChanges))

/-- K_SIDEBAND_SILENT (R446, R447): S1 leaves TAKEOVER. -/
def execKSidebandSilent (d : Fin 2) (s : State) : Host.Outcome State Fault Refusal :=
  .next (if !s.dieUp (dieS d) then s
    else
      let s := s.setRb (Reg.Sd_PIER_STATUS d) 5 false
      if d.val = 1 && s.role 1 = 1 then s.normal 1 else s)

/-- KEYSTONE_SIDEBAND_HEARTBEAT (R446). -/
def execKeystoneSidebandHeartbeat (d : Fin 2) (s : State) : Host.Outcome State Fault Refusal :=
  .next (if !s.dieUp (dieS d) then s
    else
      let s := s.setRb (Reg.Sd_PIER_STATUS d) 5 true
      if d.val = 1 && s.mayTakeOver 1 then s.takeover 1 else s)

/-- RESYNC_REARM (R451): both span dies are NORMAL and a pier has held for 1 ms. -/
def execResyncRearm (s : State) : Host.Outcome State Fault Refusal :=
  .next (let ok := (List.range 2).all fun d => s.dieUp (dieS d) && s.role d == 0 && decide (s.rf (Reg.Sd_PIER_STATUS d) 0 2 ≠ 0)
    if ok then s.standbys.foldl (fun s kv => if kv.2.resync then s.setActive kv.1 kv.2 kv.2.active true else s) s else s)

/-! ### Routes (R418, R419, R450, R453 to R457) -/

/-- The selected entry: the member table, or the group table from 1,024 on. -/
def rtKey (sel : Word) : Nat := if sel.bit 10 then 1024 + sel.fld 0 8 else sel.fld 0 10

/-- An entry as KEY_RT_MODE shows it. -/
def Route.modeWord (r : Route) : Word :=
  BitVec.ofNat 32 (r.mode + r.select * 4 + r.resync.toNat * 16 + r.valid.toNat * 32 + r.active.toNat * 64 + r.armed.toNat * 128)

/-- The bytes of an entry for its log entry (R575). -/
def Route.bytes (r : Route) : List Byte := toBytesLE 2 r.primary ++ toBytesLE 2 r.alternate ++ toBytesLE 4 r.modeWord.toNat

/-- KEY_RT_MODE: the staged fields, with the selected entry's active and armed. -/
def State.rtModeWord (s : State) : Word :=
  let r := s.route (rtKey (s.reg Reg.KEY_RT_SEL))
  ((s.reg Reg.KEY_RT_MODE).setFld 6 1 r.active.toNat).setFld 7 1 r.armed.toNat

/-- A write of KEY_RT_SEL: the staged fields are loaded. -/
def State.wRtSel (s : State) (o : Origin) (dev : Nat) (v : Word) : State :=
  s.gate o dev Reg.KEY_RT_SEL v (s.reg Reg.KEY_RT_SEL) none fun s x =>
    let r := s.route (rtKey x)
    ((s.keepReg Reg.KEY_RT_SEL x).setReg Reg.KEY_RT_ENTRY (BitVec.ofNat 32 (r.primary + r.alternate * 65536))).setReg Reg.KEY_RT_MODE
      (r.modeWord &&& 0x3F)

/-- The refusal of a commit (R419); 0 where it is accepted. (DESIGN CHOICE, log 54) -/
def rtCheck (prim alt mode select : Nat) : Nat :=
  let both := fun (m : Nat) => decide (m % 256 ≠ 0) && decide (m / 256 ≠ 0)
  if both prim || both alt then 1
  else if prim ≠ 0 && alt ≠ 0 && maskDie prim = maskDie alt then 2
  else if mode = 3 || select = 3 then 3
  else if mode ≠ 0 && alt = 0 then 4
  else 0

/-- Set KEY_RT_STATUS.error. -/
def rtErr (e : Nat) : State → State := fun s => s.setRf Reg.KEY_RT_STATUS 1 3 e

/-- A write of KEY_RT_MODE commits the staged entry to every copy (R418, R419). -/
def State.wRtMode (s : State) (o : Origin) (_dev : Nat) (v : Word) : State :=
  let k := rtKey (s.reg Reg.KEY_RT_SEL)
  let old := s.route k
  let e := s.reg Reg.KEY_RT_ENTRY
  let err := rtCheck (e.fld 0 16) (e.fld 16 16) (v.fld 0 2) (v.fld 2 2)
  let new : Route := { primary := e.fld 0 16, alternate := e.fld 16 16, mode := v.fld 0 2, select := v.fld 2 2, resync := v.bit 4,
                       valid := v.bit 5, active := false, armed := v.fld 0 2 = 1 }
  s.gateLog o Reg.KEY_RT_MODE v s.rtModeWord (if err = 0 then none else some (rtErr err))
    (fun _ _ => (1, objectValue old.bytes new.bytes)) fun s x =>
      let s := if old.active then { s with fab := { s.fab with mapChanges := s.fab.mapChanges + 1 } } else s
      (s.setReg Reg.KEY_RT_MODE (x &&& 0x3F)).setRoute k new

/-- May an entry's set be switched to or rearmed (R450): a port up, its span die NORMAL? -/
def State.setReady? (s : State) (mask : Nat) : Bool := (maskPorts mask).any s.portUp && s.role (maskDie mask) == 0

/-- Switch an entry back to its primary set (R450). -/
def State.switchback (s : State) (k : Nat) (r : Route) : State :=
  if r.mode = 1 && s.setReady? r.primary then s.setActive k r false true else rtErr 6 s

/-- Rearm an entry: the conditions are applied to its inactive set. -/
def State.rearm (s : State) (k : Nat) (r : Route) : State :=
  if r.mode = 1 && s.setReady? (if r.active then r.primary else r.alternate) then s.setActive k r r.active true else rtErr 6 s

/-- A write of KEY_FAB_CTL (R432, R450, R457). -/
def State.wFabCtl (s : State) (o : Origin) (dev : Nat) (v : Word) : State :=
  s.gate o dev Reg.KEY_FAB_CTL v (s.reg Reg.KEY_FAB_CTL) none fun s x =>
    let k := rtKey (s.reg Reg.KEY_RT_SEL)
    let s := s.keepReg Reg.KEY_FAB_CTL x
    let s := if v.bit 3 then s.switchback k (s.route k) else s
    let s := if v.bit 4 then s.standbys.foldl (fun s kv => s.switchback kv.1 kv.2) s else s
    let s := if v.bit 5 then s.rearm k (s.route k) else s
    let s := if v.bit 6 then s.standbys.foldl (fun s kv => s.rearm kv.1 (s.route kv.1)) s else s
    s.elect

/-- ROUTE_SELECT. -/
def execRouteSelect (o : Origin) (v : Word) (s : State) : Host.Outcome State Fault Refusal := .next (s.wRtSel o 0 v)

/-- ROUTE_COMMIT. -/
def execRouteCommit (o : Origin) (v : Word) (s : State) : Host.Outcome State Fault Refusal := .next (s.wRtMode o 0 v)

/-- A write of KEY_FAB_CTL that sets one of its WO bits and keeps the others. -/
def State.fabBit (s : State) (o : Origin) (i : Nat) : State := s.wFabCtl o 0 ((s.reg Reg.KEY_FAB_CTL).setFld i 1 1)

/-- SWITCHBACK. -/
def execSwitchback (o : Origin) (s : State) : Host.Outcome State Fault Refusal := .next (s.fabBit o 3)

/-- SWITCHBACK_ALL. -/
def execSwitchbackAll (o : Origin) (s : State) : Host.Outcome State Fault Refusal := .next (s.fabBit o 4)

/-- REARM. -/
def execRearm (o : Origin) (s : State) : Host.Outcome State Fault Refusal := .next (s.fabBit o 5)

/-- REARM_ALL. -/
def execRearmAll (o : Origin) (s : State) : Host.Outcome State Fault Refusal := .next (s.fabBit o 6)

/-! ### The device ID (R417, R435, R452) -/

/-- May the ID become `v`: no valid ID changes while a tracker holds an entry? -/
def State.idFree (s : State) (v : Word) : Bool :=
  !s.idValid || (v.bit 31 && v.fld 0 18 == s.devId) || ((s.span 0).inUse == 0 && (s.span 1).inUse == 0)

/-- A write of KEY_DEV_ID. -/
def State.wDevId (s : State) (o : Origin) (dev : Nat) (v : Word) : State :=
  s.gate o dev Reg.KEY_DEV_ID v (s.reg Reg.KEY_DEV_ID) (dropIf (!s.idFree v)) fun s x => (s.keepReg Reg.KEY_DEV_ID x).elect

/-- DEVICE_ID_WRITE. -/
def execDeviceIdWrite (o : Origin) (v : Word) (s : State) : Host.Outcome State Fault Refusal := .next (s.wDevId o 0 v)

/-! ### Registers -/

/-- A write of Sd_TRK_CTL (R460): 0 leaves the timeout unchanged, and so does a value above 10,000. -/
def State.wTrkCtl (s : State) (d : Nat) (o : Origin) (dev : Nat) (v : Word) : State :=
  let off := Reg.Sd_TRK_CTL d
  s.gate o dev off (keepFld (s.reg off) v 0 14 fun n => n = 0 || n > 10000) (s.reg off) none fun s x => s.keepReg off x

/-- Sd_TRK_STATUS. -/
def State.trkStatus (s : State) (d : Nat) : Word := BitVec.ofNat 32 (s.span d).inUse

/-- KEY_FAB_STATUS. -/
def State.fabStatus (s : State) : Word :=
  let f := s.fab
  let known := f.mgrDigest ≠ []
  BitVec.ofNat 32 ((decide known).toNat + (decide (known ∧ f.mgrPort.isNone)).toNat * 2 + f.mgrHost.toNat * 4 + f.mgrDist * 8)

/-- KEY_FAB_MGRi. -/
def State.fabMgr (s : State) (i : Nat) : Word := BitVec.ofNat 32 (bfld (padTo 64 s.fab.mgrDigest) (4 * i) 4)

/-! ### Management requests (R433 to R435) -/

/-- The bytes of a management request after its path, and where it carries one, its manager extension. -/
def mgmtArg (p : Packet) : Option (List Byte) × List Byte :=
  if !pathRouted p then (none, p.payload)
  else
    let b := p.payload.drop 32
    if p.mod = 2 || p.mod = 5 then (some (padTo 64 b), b.drop 64) else (none, b)

/-- Is this management request at its keystone: routed to this device, or path-routed at its last hop? -/
def State.mgmtHere (s : State) (p : Packet) : Bool :=
  if pathRouted p then pathOk p && pathIdx p == pathLen p else s.idValid && p.dst == s.devId

/-- The path of the answer: the port the request came by, then the recorded ports in reverse order; it leaves at its first hop. -/
def backPath (port : Nat) (p : Packet) : List Byte :=
  let n := pathLen p
  let ports := port :: (((List.range n).drop 1).map (pathPort p)).reverse
  let b := (List.range n).foldl (fun b i => setPathPort b i (ports.getD i 0)) (zeros 32)
  bput (bput b 0 1 1) 1 1 n

/-- Answer a management request: routed under R420, or out by the port a path-routed one came by. -/
def State.mgmtAnswer (s : State) (port : Nat) (p : Packet) (st : Nat) (payload : List Byte) : State :=
  if !pathRouted p then s.answer port dieK p st 0 payload
  else if !s.portUp port then s.noRoute port
  else
    let r : Packet := { Packet.zero with type := 0x86, trk := p.trk, tag := p.tag, gen := p.gen, mod := p.mod + 128, status := st }
    s.txWait port 0 { r with flags := 8, payload := backPath port p ++ payload } none

/-- A management request of subtype `sub` reaches the keystone by a port. -/
def State.mgmtIn (s : State) (port sub : Nat) (p : Packet) (serve : State → State) : State :=
  if !s.portIn port || p.type ≠ 6 || p.mod ≠ sub then s
  else if !Packet.formOk p then s.noRoute port
  else if !s.mgmtHere p || !s.dieUp dieK then s
  else serve s

/-- May this request write registers (R434): accepted, and of the manager this device follows? -/
def State.mgmtAccepts (s : State) (p : Packet) : Bool :=
  s.rb Reg.KEY_FAB_CTL 2 && decide (s.fab.mgrDigest ≠ []) &&
    (if pathRouted p then (mgmtArg p).1 == some (padTo 64 s.fab.mgrDigest) else s.fab.mgrDevId == some p.src)

/-- The device that a management write names in its log entry. -/
def mgmtWriter (p : Packet) : Nat := if pathRouted p then 0 else p.src

/-- REACH_CMD: the command enters its queue or is turned away; the answer carries which. (DESIGN CHOICE, log 55) -/
def execReachCmd (port : Fin 16) (p : Packet) (s : State) : Host.Outcome State Fault Refusal :=
  .next (s.mgmtIn port 3 p fun s =>
    let b := padTo 64 (mgmtArg p).2
    match s.arrive .mgmt b with
    | none => s
    | some t => t.mgmtAnswer port p (s.cmdCheck b) [])

/-- The record of one port in a QUERY's answer. -/
def State.queryRec (s : State) (p : Nat) : List Byte :=
  let x := s.port p
  let h := s.hello p
  let st := match x.state with | .down => 0 | .train => 1 | .live => 2 | .standby => 3 | .deep => 4
  let id := match h.taken with | some m => m.devId % 2 ^ 18 + m.idValid.toNat * 2 ^ 23 | none => 0
  let sq := match h.taken with | some m => m.seq | none => 0
  toBytesLE 1 st ++ toBytesLE 1 x.cause ++ toBytesLE 1 x.width ++ toBytesLE 1 x.peerPort ++ toBytesLE 3 id ++ [0] ++
    toBytesLE 8 x.peerTag ++ toBytesLE 4 h.events ++ toBytesLE 4 sq ++ zeros 8

/-- What QUERY answers. -/
def State.query (s : State) (b : List Byte) : Nat × List Byte :=
  let c := bfld b 0 1
  if c ≥ 2 || !allZero ((padTo 32 b).drop 1) then (10, [])
  else (0, (List.range 8).flatMap fun i => s.queryRec (8 * c + i))

/-- QUERY. -/
def execQuery (port : Fin 16) (p : Packet) (s : State) : Host.Outcome State Fault Refusal :=
  .next (s.mgmtIn port 4 p fun s => let (st, d) := s.query (mgmtArg p).2; s.mgmtAnswer port p st d)

/-- What ASSIGN does (R434, R435): the state and its status; that of a refusal with LOG_FULL has no code in the spec and is free. -/
def State.assign (s : State) (p : Packet) (o : Origin) (accept : Bool) (b : List Byte) : State × Nat :=
  let v : Word := BitVec.ofNat 32 (bfld b 0 4)
  if !accept then (s, 11) else if !s.idFree v then (s, 10)
  else if s.logFull then ((s.refuseLog o Reg.KEY_DEV_ID).takeFree 1, s.freeVal % 256) else (s.wDevId o (mgmtWriter p) v, 0)

/-- ASSIGN. (DEDUCED, log 23) -/
def execAssign (port : Fin 16) (p : Packet) (s : State) : Host.Outcome State Fault Refusal :=
  .next (s.mgmtIn port 5 p fun s => let (t, st) := s.assign p .fabric (s.mgmtAccepts p) (mgmtArg p).2; t.mgmtAnswer port p st [])

end Sys2Proof.Machine
end

