-- ==== Sys2Proof/Machine/Optics.lean ====
section
/-! DEFINITION. Lasers, lines and rings (R282 to R318): fade, handover of a line to its spare, failed lines, the reference, the ring loops,
the bring-up of the optics and the calibration image. -/

namespace Sys2Proof.Machine

/-! ### Springs and lasers (R284 to R287) -/

/-- A Spring. -/
def State.spring (s : State) (sp : Nat) : Spring := tget .reset s.optics.springs sp

/-- Put back a Spring. -/
def State.setSpring (s : State) (sp : Nat) (x : Spring) : State := { s with optics := { s.optics with springs := tset .reset s.optics.springs sp x } }

/-- A laser of a Spring. -/
def Spring.laser (x : Spring) (l : Nat) : Laser := tget .idle x.lasers l

/-- Put back a laser. -/
def Spring.setLaser (x : Spring) (l : Nat) (y : Laser) : Spring := { x with lasers := tset .idle x.lasers l y }

/-- The laser that serves a line: its primary until a spare was committed; none for a failed line. -/
def Spring.serves (x : Spring) (k : Nat) : Option Nat := if x.failedLines.contains k then none else some ((tget none x.source k).getD k)

/-- The codes of the laser states (R311). -/
def LaserSt.code : LaserSt → Nat
  | .idle => 0 | .serving => 1 | .warning => 2 | .prewarm => 3 | .handover => 4 | .retired => 5 | .failed => 6 | .unhealthy => 7

/-- A spare that may be allocated: healthy, and allocated to no line. -/
def Spring.spareFree (x : Spring) (s : Nat) : Bool :=
  (x.laser (64 + s)).state != .unhealthy && (x.laser (64 + s)).state != .failed && !x.alloc.any fun kv => kv.2 == some s

/-- The spare that R287 gives a line. -/
def Spring.pickSpare (x : Spring) (k : Nat) : Option Nat :=
  if x.spareFree (k / 4) then some (k / 4) else if k % 4 = 0 && k ≥ 4 && x.spareFree (k / 4 - 1) then some (k / 4 - 1) else none

/-- May line k have a spare: its primary still serves it, and one is allocated to it or may be? Lines are never moved from one spare to
another (R287). -/
def Spring.hasSpare (x : Spring) (k : Nat) : Bool := x.serves k == some k && ((tget none x.alloc k).isSome || (x.pickSpare k).isSome)

/-- A handover of line k is under way or waits in the queue. -/
def Spring.under (x : Spring) (k : Nat) : Bool := x.queue.contains k || (x.phase != .idle && x.phase != .abandoned && x.line == k)

/-- The Confluence units that a Spring feeds (R30), of released dies. -/
def State.fedUnits (s : State) (sp : Nat) : List Nat := [2 * sp, 2 * sp + 1].filter s.dieUp

/-- The baseline table with which area 6 of the store begins: the fused I0 of every laser, never written in the field (R290, R615). -/
def Mram.baseline (_ : Mram) (i : Nat) : Nat := Config.laserBaseline i

/-- An ageing record of a laser (R615): its index, fade × 1,024, state, boot count, and the line it serves or warms up for.
(DESIGN CHOICE, log 64) -/
def State.ageLaser (s : State) (sp l : Nat) : State :=
  let y := (s.spring sp).laser l
  let s := s.storePush (.ageing [0, 80 * sp + l, y.fade, y.state.code, s.boot, y.line])
  s.setSpring sp ((s.spring sp).setLaser l { y with recorded := y.fade })

/-- Set a laser's state: every change is recorded. -/
def State.laserTo (s : State) (sp l : Nat) (st : LaserSt) : State :=
  let x := s.spring sp
  let y := x.laser l
  if y.state == st then s else (s.setSpring sp (x.setLaser l { y with state := st })).ageLaser sp l

/-- Allocate a line's spare, which warms up (R287, R291); none where there is no spare. -/
def State.warmSpare (s : State) (sp k : Nat) : Option State :=
  let x := s.spring sp
  if !x.hasSpare k then none else
  match tget none x.alloc k with
  | some _ => some s
  | none =>
    match x.pickSpare k with
    | none => none
    | some p =>
      let x := { x with alloc := tset none x.alloc k (some p) }
      some ((s.setSpring sp (x.setLaser (64 + p) { x.laser (64 + p) with line := k, output := 0, warmLocked := false })).laserTo sp (64 + p) .prewarm)

/-! ### Handover (R292 to R296) -/

/-- A handover may start or swap: the reference holds, the device does not sleep or go to sleep. -/
def State.handoverOk (s : State) : Bool := !s.optics.refLost && s.nrg.entering.isNone && !s.asleep && !s.optics.dark

/-- Mark a swap pending on the units that a Spring feeds (R269). -/
def State.swapPending (s : State) (sp : Nat) : State := (s.fedUnits sp).foldl (fun s t => s.setCu t { s.cu t with swap := true }) s

/-- The Spring reports to its units: what waits for the swap goes on to settle (R270, R294). -/
def State.swapReport (s : State) (sp : Nat) : State :=
  [2 * sp, 2 * sp + 1].foldl (fun s t =>
    let u := s.cu t
    s.setCu t { u with swap := false, hold := u.hold.map fun h => { h with swap := false } }) s

/-- A requested handover of a line no longer waits (R312). -/
def State.requestDone (s : State) (sp k : Nat) : State :=
  { s with optics := { s.optics with requests := s.optics.requests.filter (· ≠ (sp, k)) } }

/-- A line leaves the queue with no spare left: a requested handover is refused (R296), another is abandoned (R294). (DESIGN CHOICE, log 64) -/
def State.turnAway (s : State) (sp k : Nat) : State :=
  let x := s.spring sp
  let asked := s.optics.requests.contains (sp, k)
  let s := (s.setSpring sp { x with queue := x.queue.filter (· ≠ k), abandonedLines := if asked then x.abandonedLines else x.abandonedLines ++ [k] }).requestDone sp k
  if asked then s.setRb Reg.BED_LASER_CTL 1 true
  else (s.raiseErr 2 0x23 dieK (sp * 64 + k) none 0).bump Reg.BED_HANDOVER_ABANDONS

/-- A handover of line k begins (R293): the spare is allocated if it was not, the units mark a swap pending. -/
def State.handoverBegin (s : State) (sp k : Nat) : State :=
  match s.warmSpare sp k with
  | none => s.turnAway sp k
  | some s =>
    let x := s.spring sp
    let p := (tget none x.alloc k).getD 0
    let s := s.setSpring sp { x with phase := .prepare, line := k, spare := p, attempt := 0, queue := x.queue.filter (· ≠ k) }
    (s.requestDone sp k).swapPending sp

/-- No handover of the Spring runs. -/
def Spring.quiet (x : Spring) : Bool := x.phase == .idle

/-- The head of the queue begins, where it may. -/
def State.handoverHead (s : State) (sp : Nat) : State :=
  let x := s.spring sp
  match x.queue with
  | k :: _ => if x.quiet && s.handoverOk then s.handoverBegin sp k else s
  | [] => s

/-- The first line of the queue that still has a spare begins, where it may (R292). -/
def State.handoverNext (s : State) (sp : Nat) : State := (s.spring sp).queue.foldl (fun s _ => s.handoverHead sp) s

/-- A line asks for a handover: its spare is allocated and warms up, and it begins or joins the queue (R291, R292). (DESIGN CHOICE, log 64) -/
def State.handoverWant (s : State) (sp k : Nat) : State :=
  let x := s.spring sp
  if x.queue.contains k then s
  else if x.under k then s.requestDone sp k
  else
    let s := match x.serves k with | some l => s.laserTo sp l .handover | none => s
    let s := (s.warmSpare sp k).getD s
    let x := s.spring sp
    (s.setSpring sp { x with queue := x.queue ++ [k] }).handoverNext sp

/-- The ports whose lanes a Spring feeds. -/
def springPorts (sp : Nat) : List Nat := (List.range 8).map (· + 8 * sp)

/-- Every lane of a line on a Spring: `f` the Bed lanes, `g` the fiber lanes, λ0 to λ33 only (R293). -/
def State.lineLanes (s : State) (sp k : Nat) (f : State → Nat → State) (g : State → Nat → Nat → State) : State :=
  let s := (springLanes sp k).foldl f s
  if k ≤ 33 then (springPorts sp).foldl (fun s p => g s p k) s else s

/-- The lanes of a line return. -/
def State.linesBack (s : State) (sp k : Nat) : State := s.lineLanes sp k State.laneReturns State.flReturns

/-- The swap instant is set: every link and port on the line is told (R293). -/
def State.handoverSet (s : State) (sp : Nat) : State :=
  let x := s.spring sp
  (s.setSpring sp { x with phase := .scheduled }).lineLanes sp x.line (fun s i => s.retireLane i 3 true) fun s p i =>
    if (s.port p).quiesced || (s.port p).quiescing then s else s.retireFl p i 3 true

/-- Lanes whose retirement was announced leave and return at once. -/
def State.lanesRound (s : State) (sp : Nat) : State :=
  let x := s.spring sp
  let s := if x.phase == .scheduled then s.lineLanes sp x.line State.laneLeaves State.flLeaves else s
  s.linesBack sp x.line

/-- A handover is abandoned (R294): the primary keeps serving, the units settle, the line is not queued again. -/
def State.handoverDrop (s : State) (sp : Nat) : State :=
  let x := s.spring sp
  let k := x.line
  let s := s.lanesRound sp
  let s := match tget none x.alloc k with
    | some p => if (x.laser (64 + p)).state == LaserSt.unhealthy then s else s.laserTo sp (64 + p) .idle
    | none => s
  let x := s.spring sp
  let s := s.setSpring sp { x with phase := .abandoned, alloc := tset none x.alloc k none, abandonedLines := x.abandonedLines ++ [k] }
  let s := s.swapReport sp
  (s.raiseErr 2 0x23 dieK (sp * 64 + k) none 0).bump Reg.BED_HANDOVER_ABANDONS

/-! ### The repair history (R616, R663, R664) -/

/-- Change the MRAM. -/
def State.modMram (s : State) (f : Mram → Mram) : State := { s with store := { s.store with mram := f s.store.mram } }

/-- The records of area 7 after its compaction (R616, R664): every record of kinds 1 to 8, the newest 1,024 faults. -/
def compact (l : List RepairRec) : List RepairRec :=
  let faults := (l.filter fun r => r.kind = 9).length
  (l.foldl (fun (acc : List RepairRec × Nat) r =>
    if r.kind = 9 then (if acc.2 < faults - 1024 then (acc.1, acc.2 + 1) else (acc.1 ++ [r], acc.2 + 1)) else (acc.1 ++ [r], acc.2)) ([], 0)).1

/-- Append a repair or fault record; a half of 4,096 records is compacted at 90% (R616, R663). -/
def Mram.appendRepair (m : Mram) (r : RepairRec) : Mram :=
  let l := m.repairs ++ [r]
  { m with repairs := if l.length > 3686 then compact l else l }

/-- A record that takes effect as it commits (R295, R297): written at once, or queued while the gate is closed. (DESIGN CHOICE, log 64) -/
def State.repairNow (s : State) (r : RepairRec) : State := if s.gateOpen then s.modMram fun m => m.appendRepair r else s.storePush (.repair r)

/-! ### The lock of a Spring (R288) -/

/-- A Spring is locked while the reference holds and every serving laser is within ±2 GHz. -/
def State.springLock (s : State) (sp : Nat) : State :=
  let x := s.spring sp
  let bad := x.outLock.any fun l => (List.range 64).any fun k => x.serves k == some l
  (s.setSpring sp { x with locked := !s.optics.dark && !s.optics.refLost && !bad }).readyUpd

/-! ### Failed lines (R297) -/

/-- LINE_FAIL. -/
def State.lineFail (s : State) (sp k : Nat) : State :=
  let x := s.spring sp
  match x.serves k with
  | none => s
  | some l =>
    let s := s.laserTo sp l .failed
    let x := s.spring sp
    let own := x.phase != .idle && x.phase != .abandoned && x.line == k
    let s := if s.optics.requests.contains (sp, k) then (s.setRb Reg.BED_LASER_CTL 1 true).requestDone sp k else s
    let s := match tget none x.alloc k with | some p => if l = 64 + p then s else s.laserTo sp (64 + p) .idle | none => s
    let x := s.spring sp
    let x := x.setLaser l { x.laser l with output := 0 }
    let s := s.setSpring sp { x with failedLines := x.failedLines ++ [k], alloc := tset none x.alloc k none, queue := x.queue.filter (· ≠ k),
                                     phase := if own then .idle else x.phase }
    let s := if own then s.swapReport sp else s
    let s := s.lineLanes sp k (fun s i => s.retireLane i 4 false) fun s p i => s.retireFl p i 4 false
    let s := [2 * sp, 2 * sp + 1].foldl (fun s t => (s.setCu t { s.cu t with inputLost := true, badRows := List.range 272 }).cuMode t) s
    let s := s.raiseErr 2 0x23 dieK (sp * 64 + k) none 0
    let s := s.repairNow { kind := 6, die := dieK, element := sp * 64 + k, replacement := 0xFFFFFFFF, boot := s.boot,
                           ticks := s.ticks % 2 ^ 48, extra := [] }
    ((s.bump Reg.BED_LINES_FAILED).springLock sp).handoverNext sp

/-! ### Fade (R290, R291) -/

/-- How far a serving laser has come (R291). -/
def LaserSt.rank : LaserSt → Nat
  | .serving => 1 | .warning => 2 | .prewarm => 3 | .handover => 4 | _ => 0

/-- One serving laser's fade is evaluated: the drive current that held 100 mW over the last second, over the fused baseline. -/
def State.fadeOf (s : State) (sp k l drive : Nat) : State :=
  let x := s.spring sp
  let base := Config.laserBaseline (80 * sp + l)
  -- fade ≥ h ÷ 100
  let ge := fun (h : Nat) => decide (base ≠ 0 ∧ h * base ≤ 100 * drive)
  let y := { x.laser l with drive := some (drive % 65536), fade := min 0xFFFF (drive * 1024 / base) }
  let s := s.setSpring sp (x.setLaser l y)
  let s := if y.fade ≥ y.recorded + 16 then s.ageLaser sp l else s
  let s := if ge 120 && y.state.rank = 1 then
      ((s.laserTo sp l .warning).raiseErr 0 0x22 dieK (sp * 128 + l) none 0).logEvent .autonomous 1 Reg.BED_LASER_FADE (sp * 256 + l)
    else s
  let s := if ge 130 && decide (((s.spring sp).laser l).state.rank < 3) then
      match s.warmSpare sp k with
      | some t => t.laserTo sp l .prewarm
      | none => s
    else s
  let x := s.spring sp
  if ge 135 && x.hasSpare k && !x.abandonedLines.contains k && !x.under k then s.handoverWant sp k
  else if ge 150 && !x.under k then s.lineFail sp k
  else s

/-- FADE_EVALUATION (R290, R291): once per second, while the Spring is locked at full output: `meas` the drive currents; the report of an abandoned
handover ends. -/
def execFadeEvaluation (sp : Fin 2) (meas : List (Nat × Nat)) (s : State) : Host.Outcome State Fault Refusal :=
  let sp := sp.val
  .next (if !(s.spring sp).locked || s.asleep || s.optics.dimmed || s.optics.dark then s
    else
      let x := s.spring sp
      let s := if x.phase == .abandoned then (s.setSpring sp { x with phase := .idle }).handoverNext sp else s
      (List.range 64).foldl (fun s k =>
        match (s.spring sp).serves k with
        | none => s
        | some l =>
          match meas.find? fun m => m.1 == l with
          | some m => if ((s.spring sp).laser l).output = 100 then s.fadeOf sp k l m.2 else s
          | none => s) s)

/-- LASER_LOW_OUTPUT (R291): 10 ms at maximum current. -/
def execLaserLowOutput (sp : Fin 2) (laser mw : Nat) (s : State) : Host.Outcome State Fault Refusal :=
  let sp := sp.val
  let x := s.spring sp
  .next (if s.asleep || s.optics.dimmed || s.optics.dark then s
    else
      match (List.range 64).find? fun k => x.serves k == some laser with
      | none => s
      | some k =>
        if mw ≥ 80 then s
        else
          let s := s.setSpring sp (x.setLaser laser { x.laser laser with drive := some (Config.laserMax (80 * sp + laser) % 65536), output := mw })
          if mw < 50 then s.lineFail sp k
          else if x.hasSpare k && !x.abandonedLines.contains k && !x.under k then s.handoverWant sp k
          else s)

/-! ### The steps of a handover -/

/-- SPARE_PREWARM_LOCKED: the spare holds half a channel off grid, its output gated. -/
def execSparePrewarmLocked (sp : Fin 2) (spare : Nat) (s : State) : Host.Outcome State Fault Refusal :=
  let x := s.spring sp
  let y := x.laser (64 + spare)
  .next (if y.state == .prewarm && spare < 16 && !s.optics.refLost && !s.optics.dark then
      (s.setSpring sp (x.setLaser (64 + spare) { y with warmLocked := true })).handoverNext sp
    else s)

/-- HANDOVER_SCHEDULE: the spare is locked and both units hold. -/
def execHandoverSchedule (sp : Fin 2) (s : State) : Host.Outcome State Fault Refusal :=
  let sp := sp.val
  let x := s.spring sp
  let held := (s.fedUnits sp).all fun t => match (s.cu t).hold with | some h => h.swap | none => false
  .next (if x.phase == .prepare && (x.laser (64 + x.spare)).warmLocked && held && s.handoverOk then s.handoverSet sp else s)

/-- HANDOVER_SWAP: at Ts every lane has left, and the spare is tuned onto the line. -/
def execHandoverSwap (sp : Fin 2) (s : State) : Host.Outcome State Fault Refusal :=
  let sp := sp.val
  let x := s.spring sp
  .next (if x.phase == .scheduled && s.handoverOk then
      (s.setSpring sp { x with phase := .swap, attempt := x.attempt + 1 }).lineLanes sp x.line State.laneLeaves State.flLeaves
    else s)

/-- SPARE_LOCK (R293, R295): at one instant the primary goes dark and the new source is committed, so it waits for the store's gate; the Spring
reports the swap. (DESIGN CHOICE, log 64) -/
def execSpareLock (sp : Fin 2) (s : State) : Host.Outcome State Fault Refusal :=
  let sp := sp.val
  let x := s.spring sp
  let k := x.line
  .next (if x.phase != .swap || x.serves k == some (64 + x.spare) || !s.gateOpen then s
    else
      let s := match x.serves k with
        | some l => (s.setSpring sp (x.setLaser l { x.laser l with output := 0 })).laserTo sp l .retired
        | none => s
      let x := s.spring sp
      let l := 64 + x.spare
      let x := x.setLaser l { x.laser l with output := 100, line := k }
      let s := (s.setSpring sp { x with source := tset none x.source k (some l), outLock := x.outLock.filter (· ≠ l) }).laserTo sp l .serving
      let s := s.repairNow { kind := 5, die := dieK, element := sp * 64 + k, replacement := x.spare, boot := s.boot,
                             ticks := s.ticks % 2 ^ 48, extra := [] }
      (s.swapReport sp).springLock sp)

/-- SPARE_LOCK_TIMEOUT (R294): the lanes return; after three attempts the spare is unhealthy and a second one is tried. -/
def execSpareLockTimeout (sp : Fin 2) (s : State) : Host.Outcome State Fault Refusal :=
  let sp := sp.val
  let x := s.spring sp
  let k := x.line
  .next (if x.phase != .swap || x.serves k == some (64 + x.spare) then s
    else
      let s := s.linesBack sp k
      if x.attempt < 3 then s.handoverSet sp
      else
        let s := s.laserTo sp (64 + x.spare) .unhealthy
        let x := s.spring sp
        let s := s.setSpring sp { x with alloc := tset none x.alloc k none }
        match s.warmSpare sp k with
        | some t =>
          let x := t.spring sp
          t.setSpring sp { x with phase := .prepare, spare := (tget none x.alloc k).getD 0, attempt := 0 }
        | none => s.handoverDrop sp)

/-- HANDOVER_COMPLETE: the lanes are readmitted, and the next line in the queue begins. -/
def execHandoverComplete (sp : Fin 2) (s : State) : Host.Outcome State Fault Refusal :=
  let sp := sp.val
  let x := s.spring sp
  .next (if x.phase != .swap || x.serves x.line != some (64 + x.spare) then s
    else ((s.linesBack sp x.line).setSpring sp { (s.linesBack sp x.line).spring sp with phase := .idle } |>.bump Reg.BED_HANDOVERS).handoverNext sp)

/-- HANDOVER_ABANDON (R294): 50 ms passed. -/
def execHandoverAbandon (sp : Fin 2) (s : State) : Host.Outcome State Fault Refusal :=
  let sp := sp.val
  let x := s.spring sp
  let done := x.serves x.line == some (64 + x.spare)
  .next (match x.phase with
    | .prepare | .scheduled => s.handoverDrop sp
    | .swap => if done then s else s.handoverDrop sp
    | _ => s)

/-- A reset or a power cut before the swap leaves the primary serving (R295), in its state; the next FADE_EVALUATION starts the handover again
where its condition still holds. -/
def State.handoverReset (s : State) (sp : Nat) : State :=
  let x := s.spring sp
  if x.quiet || x.phase == .abandoned then s
  else
    let swapped := x.serves x.line == some (64 + x.spare)
    let s := (s.lanesRound sp).swapReport sp
    let s := s.setSpring sp { s.spring sp with phase := .idle }
    if swapped then s.bump Reg.BED_HANDOVERS else s

/-- May a handover of the selected primary's line be requested (R296)? -/
def State.requestOk (s : State) (sp k : Nat) : Bool := k < 64 && (s.spring sp).hasSpare k

/-- BED_LASER_CTL as read. -/
def State.laserCtl (s : State) : Word := (s.reg Reg.BED_LASER_CTL).setFld 0 1 (!s.optics.requests.isEmpty).toNat

/-- A write of BED_LASER_CTL (R296, R312). -/
def State.wLaserCtl (s : State) (o : Origin) (dev : Nat) (v : Word) : State :=
  s.gate o dev Reg.BED_LASER_CTL v s.laserCtl none fun s x =>
    let sp := s.rf Reg.BED_LASER_SEL 0 1
    let k := s.rf Reg.BED_LASER_SEL 1 7
    let s := s.setReg Reg.BED_LASER_CTL (x &&& 2)
    if !v.bit 0 || s.optics.requests.contains (sp, k) then s
    else if s.requestOk sp k then
      ({ s with optics := { s.optics with requests := s.optics.requests ++ [(sp, k)] } }).handoverWant sp k
    else s.setRb Reg.BED_LASER_CTL 1 true

/-- HANDOVER_REQUEST. -/
def execHandoverRequest (o : Origin) (v : Word) (s : State) : Host.Outcome State Fault Refusal := .next (s.wLaserCtl o 0 v)

/-! ### Reference and locks (R288, R289) -/

/-- REFERENCE_LOSS. -/
def execReferenceLoss (s : State) : Host.Outcome State Fault Refusal :=
  .next (if s.optics.refLost || s.optics.dark then s
    else
      let s := { s with optics := { s.optics with refLost := true } }
      let n := s.rf Reg.BED_REF_STATUS 16 16
      ((s.setRf Reg.BED_REF_STATUS 16 16 (min 0xFFFF (n + 1))).springLock 0).springLock 1)

/-- REFERENCE_RETURN: each laser relocks, and the pending handovers go on. -/
def execReferenceReturn (s : State) : Host.Outcome State Fault Refusal :=
  .next (if !s.optics.refLost then s
    else
      let s := { s with optics := { s.optics with refLost := false } }
      (((s.springLock 0).springLock 1).handoverNext 0).handoverNext 1)

/-- LASER_LOCK_UPDATE (R286, R288): the laser's temperature set point moves by the loop's own law, which the spec leaves open. The power loop of a
serving laser sets the drive that its output needs, up to the fused maximum, where the output is what the monitor reads.
(DESIGN CHOICE, log 35) -/
def execLaserLockUpdate (sp : Fin 2) (laser : Nat) (errMHz : Int) (need mw : Nat) (s : State) : Host.Outcome State Fault Refusal :=
  let x := s.spring sp
  let top := Config.laserMax (80 * sp.val + laser)
  .next (if s.optics.refLost || s.optics.dark || laser ≥ 80 then s
    else
      let serving := (List.range 64).any fun k => x.serves k == some laser
      let y := { x.laser laser with temp := some (s.freeVal % 65536) }
      let y := if serving then { y with drive := some (min need top % 65536), output := if s.optics.dimmed then y.output else if need ≤ top then 100 else mw } else y
      let rest := x.outLock.filter (· ≠ laser)
      let out := if errMHz.natAbs ≤ 2000 then rest else rest ++ [laser]
      ((s.takeFree 1).setSpring sp { x.setLaser laser y with outLock := out }).springLock sp)

/-! ### Rings (R298 to R305) -/

/-- The die that drives and reads a ring (R33). -/
def ringDie (i : Nat) : Nat :=
  if i < 3840 then busDie (i / 64)
  else if i < 7680 then (match laneInfo (i - 3840) with | some (_, d, _) => d | none => dieK)
  else if i < 8224 then dieS ((i - 7680) / 34 / 8)
  else if i < 8768 then dieS ((i - 8224) / 34 / 8)
  else (i - 8768) / 17472

/-- A ring lost its lock (R302): its lane retires, or its bank unlocks where the ring is in service (R271). -/
def State.ringLost (s : State) (i : Nat) : State :=
  let s := s.bump Reg.BED_RING_UNLOCKS
  let s := if i < 3840 then s.retireLane i 1 false
    else if i < 7680 then s.askRetire (i - 3840) 1
    else if i < 8224 then s.retireFl ((i - 7680) / 34) ((i - 7680) % 34) 1 false
    else if i < 8768 then s.askRetireFl ((i - 8224) / 34) ((i - 8224) % 34) 1
    else
      let t := (i - 8768) / 17472
      let u := s.cu t
      if u.locked && !s.bankHeld t then s.setCu t { u with locked := false, jobUnlocked := if u.job.isSome && u.jobUnlocked = 0 then 1 else u.jobUnlocked } else s
  s.readyUpd

/-- A region record of R308. (DESIGN CHOICE, log 35) -/
def State.regionRec (s : State) (i : Nat) : Nat := (tget none s.optics.regions i).getD (Config.free (s.optics.base + 720000 + i))

/-- The code that a loop update gives a ring (R301, R302): the feed-forward term is taken off, the measured detuning is cancelled at 64 MHz a code,
heating lowering the resonance; a ring that lost its lock searches within 40 codes of where it lost it. (DESIGN CHOICE, log 63) -/
def Ring.aim (r : Ring) (code : Nat) (ff detuneMHz : Int) : Int :=
  let c := code + r.ff - ff + (2 * detuneMHz + 64) / 128
  if r.unlocked then max (r.home - 40) (min (r.home + 40) c) else c

/-- RING_LOOP_UPDATE (R301 to R303): the heater code moves to cancel the detuning, on a weight ring with the crosstalk compensation of R266; four
updates in a row outside the window, or a code at its end while the detuning grows, lose the lock; a ring back within its window has
relocked. (DESIGN CHOICE, log 63) -/
def execRingLoopUpdate (ring : Nat) (detuneMHz : Int) (s : State) : Host.Outcome State Fault Refusal :=
  let r := s.ring ring
  let d := detuneMHz.natAbs
  .next (if ring ≥ 78656 || !s.optics.ringsUp || s.optics.loopsStopped || r.failed || s.optics.stoppedDies.contains (ringDie ring) || !s.dieUp (ringDie ring) then s
    else
      let ff := Config.feedForward (s.regionRec (Config.ringRegion ring % 64)) s.freeVal r.ff
      let old := s.ringCode ring
      let aim := r.aim old ff detuneMHz
      let t := (ring - 8768) / 17472
      let q := (ring - 8768) % 17472
      let s := s.takeFree 1
      let s := if ring ≥ 8768 && q < 17408 then s.addDrives t fun p => if p = q then aim - old else 0 else s
      let code := if ring ≥ 8768 && q < 17408 then s.ringCode ring else clampCode aim
      let lim := if ring < 8768 then 3000 else 400
      let win := if ring < 8768 then 1000 else 400
      let out := if d > lim then r.out + 1 else 0
      let lost := !r.unlocked && (decide (out ≥ 4) || ((code = 0 || code = 4095) && decide (d > r.last)))
      let back := r.unlocked && decide (d ≤ win)
      let s := s.setRing ring { r with code := some code, ff, out := if lost then 0 else out, last := d, unlocked := (r.unlocked || lost) && !back,
                                       home := if lost then code else r.home }
      if lost then s.ringLost ring else if back then s.readyUpd else s)

/-! ### The calibration image (R308, R309) -/

/-- Its size. -/
def calSize : Nat := 1201344

/-- A laser's set points. -/
def State.laserSet (s : State) (sp l : Nat) : Nat × Nat :=
  let y := (s.spring sp).laser l
  let b := s.optics.base + 78656 + 2 * (80 * sp + l)
  (y.drive.getD (Config.free b % 65536), y.temp.getD (Config.free (b + 1) % 65536))

/-- The record of a ring. -/
def State.ringRec (s : State) (i : Nat) : List Byte :=
  let r := s.ring i
  toBytesLE 2 (s.ringCode i + r.failed.toNat * 2 ^ 12 + (s.optics.ringsUp && !r.unlocked && !r.failed).toNat * 2 ^ 13) ++
    toBytesLE 4 (s.ringCorr i) ++ [0, 0]

/-- The record of a physical row (R308): the logical row that it serves, 0xFFFF if idle; its health, 1 where it is unhealthy; its corrections.
(DESIGN CHOICE, log 35) -/
def State.rowRec (s : State) (i : Nat) : List Byte :=
  let u := s.cu (i / 272)
  toBytesLE 2 ((u.serves? (i % 272)).getD 0xFFFF) ++ toBytesLE 1 (u.bad (i % 272)).toNat ++ toBytesLE 5 (s.rowCorr i)

/-- The image but its header. -/
def State.calBody (s : State) : List Byte :=
  let lasers := (List.range 160).flatMap fun i =>
    let y := (s.spring (i / 80)).laser (i % 80)
    let (d, t) := s.laserSet (i / 80) (i % 80)
    toBytesLE 2 d ++ toBytesLE 2 t ++ toBytesLE 2 y.fade ++ toBytesLE 1 y.state.code ++ toBytesLE 1 y.line ++ zeros 24
  let ref_ := toBytesLE 4 Config.refSetPoint ++ ((List.range 64).map fun k => BitVec.ofInt 8 (Config.lineOffset k)) ++ zeros 60
  let regions := (List.range 64).flatMap fun i => toBytesLE 16 (s.regionRec i)
  let rings := (List.range 78656).flatMap s.ringRec
  lasers ++ ref_ ++ regions ++ rings ++ (List.range 557056).map s.xtalkByte ++ (List.range 1088).flatMap s.rowRec

/-- The image, dumped now. (DESIGN CHOICE, log 35) -/
def State.calImage (s : State) : List Byte :=
  let h := toBytesLE 2 1 ++ [0, 0] ++ toBytesLE 4 calSize ++ toBytesLE 8 (Config.serial 1) ++ toBytesLE 8 (Config.serial 2) ++
    toBytesLE 8 (Config.serial 3) ++ toBytesLE 4 s.boot ++ toBytesLE 6 (s.ticks % 2 ^ 48) ++ zeros 18
  let b := s.calBody
  h ++ toBytesLE 4 (crc32c (h ++ b)).toNat ++ b

/-- The address of a dump or load. -/
def State.calDA (s : State) : Nat := s.rf Reg.BED_CAL_ADDR_LO 6 26 * 64 + s.rf Reg.BED_CAL_ADDR_HI 0 14 * 2 ^ 32

/-- May the image lie there: untiled memory of one stack or die pool, outside the KV partition for a dump (R210, R309)? -/
def State.calRange (s : State) (da : Nat) (dump : Bool) : Bool :=
  (match s.rangeStore da calSize with | some st => decide (st < 20) | none => false) && !touchesTiled s.trg da calSize &&
    !(dump && s.touchesKv da calSize)

/-- A write of BED_CAL_CTL (R309, R317). -/
def State.wCalCtl (s : State) (o : Origin) (dev : Nat) (v : Word) : State :=
  let busy := s.optics.calOp.isSome
  let own : Option (State → State) := if v.bit 2 && busy then some fun s => s.setRf Reg.BED_CAL_CTL 4 3 4 else none
  s.gate o dev Reg.BED_CAL_CTL v (s.reg Reg.BED_CAL_CTL) own fun s x =>
    let s := s.keepReg Reg.BED_CAL_CTL x
    let op := v.fld 0 2
    if !v.bit 2 || op = 0 || op = 3 then s
    else if s.calRange s.calDA (op = 1) then { s with optics := { s.optics with calOp := some (op, s.calDA, o) } }
    else s.setRf Reg.BED_CAL_CTL 4 3 1

/-- CAL_DUMP. -/
def execCalDump (o : Origin) (v : Word) (s : State) : Host.Outcome State Fault Refusal := .next (s.wCalCtl o 0 v)

/-- CAL_LOAD. -/
def execCalLoad (o : Origin) (v : Word) (s : State) : Host.Outcome State Fault Refusal := .next (s.wCalCtl o 0 v)

/-- BED_CAL_CTL as read. -/
def State.calCtl (s : State) : Word := (s.reg Reg.BED_CAL_CTL).setFld 3 1 s.optics.calOp.isSome.toNat

/-- The row map that an image gives a unit: every logical row on one physical row in service; none otherwise. -/
def rowMapOf (bad : List Nat) (recs : List Nat) : Option (Tab Nat) :=
  let at_ := fun (i : Nat) => (List.range 272).find? fun p => recs.getD p 0xFFFF == i && !bad.contains p
  let used := recs.filter fun r => r ≠ 0xFFFF
  if used.length = 256 && (List.range 256).all fun i => (at_ i).isSome then
    some ((List.range 256).foldl (fun m i => tset i m i ((at_ i).getD i)) [])
  else none

/-- The records of unit t in an image (R308). -/
def unitCal (b : List Byte) (bad : List Nat) (t : Nat) : CuCal :=
  let rowAt := fun (p : Nat) => 0x1232C0 + 8 * (272 * t + p)
  { map := rowMapOf bad ((List.range 272).map fun p => bfld b (rowAt p) 2),
    rings := (List.range 17472).map fun q => (bfld b (0x18C0 + 8 * wring t q) 2 % 4096, bfld b (0x18C0 + 8 * wring t q + 2) 4),
    xtalk := (b.drop (0x9B2C0 + 139264 * t)).take 139264,
    rows := (List.range 272).map fun p => bfld b (rowAt p + 3) 5 }

/-- Apply an image (R309): codes and corrections of Bed and fiber rings, set points of lasers that do not serve, and region values at once; the
units' records wait for their next taken boundary. A region record is a ring loop's correction. (DESIGN CHOICE, log 63) -/
def State.calApply (s : State) (b : List Byte) : State :=
  let s := (List.range 160).foldl (fun s i =>
    let sp := i / 80
    let x := s.spring sp
    if (List.range 64).any fun k => x.serves k == some (i % 80) then s
    else s.setSpring sp (x.setLaser (i % 80) { x.laser (i % 80) with drive := some (bfld b (64 + 32 * i) 2), temp := some (bfld b (66 + 32 * i) 2) })) s
  let s := (List.range 8768).foldl (fun s i =>
    let a := 0x18C0 + 8 * i
    s.setRing i { s.ring i with code := some (bfld b a 2 % 4096), corr := some (bfld b (a + 2) 4) }) s
  let s := { s with optics := { s.optics with regions := tlist none 0 ((List.range 64).map fun i => some (bfld b (0x14C0 + 16 * i) 16)) } }
  (List.range 4).foldl (fun s t => s.setCu t { s.cu t with recal := true, newCal := some (unitCal b (s.cu t).badRows t) }) s

/-- The refusal of a load (R309, R317); 0 where it is applied. -/
def State.calCheck (s : State) (v : View) (da : Nat) : Nat :=
  let b := s.readPE v da calSize
  if s.poisonRange da calSize then 5
  else if bfld b 0 2 ≠ 1 || bfld b 4 4 ≠ calSize || bfld b 8 8 ≠ Config.serial 1 % 2 ^ 64 || bfld b 16 8 ≠ Config.serial 2 % 2 ^ 64 ||
    bfld b 24 8 ≠ Config.serial 3 % 2 ^ 64 then 2
  else if (crc32c (b.take 60 ++ b.drop 64)).toNat ≠ bfld b 60 4 then 3
  else 0

/-- CAL_DONE. A load that is applied is logged with its old and new image (R575). -/
def execCalDone (pe : PortEv) (s : State) : Host.Outcome State Fault Refusal :=
  .next (match s.optics.calOp with
    | none => s
    | some (op, da, o) =>
      let s := { s with optics := { s.optics with calOp := none } }
      let v := s.viewNow pe
      if op = 1 then (s.writePE v da s.calImage).met v [(da, calSize, true)]
      else
        let s := s.meet pe da calSize
        let e := s.calCheck v da
        let b := s.readPE v da calSize
        let s := s.met v [(da, calSize, false)]
        if e = 5 then (s.eccRead da calSize).setRf Reg.BED_CAL_CTL 4 3 5
        else if e ≠ 0 then s.setRf Reg.BED_CAL_CTL 4 3 e
        else
          (s.logAuto o 1 Reg.BED_CAL_CTL (objectValue s.calImage b)).calApply b)

/-! ### Bring-up (R295, R297, R304 to R307, R664) -/

/-- The snapshot that the restore uses: the newest committed copy whose header matches the fused serials. -/
def Mram.snap (m : Mram) : Option Snap :=
  let good := fun (x : Option Snap) => match x with | some y => if y.serialsOk then some y else none | none => none
  match good m.snapA, good m.snapB with
  | some a, some b => if b.seq > a.seq then some b else some a
  | some a, none => some a
  | none, b => b

/-- The newest ageing record of a laser: fade, state and line. -/
def Mram.laserAge (m : Mram) (i : Nat) : Option (Nat × Nat × Nat) :=
  (m.ageing.reverse.find? fun r => r.getD 0 1 == 0 && r.getD 1 0 == i).map fun r => (r.getD 2 0, r.getD 3 0, r.getD 5 0)

/-- A laser at boot: its fade and its state of the ageing history. A spare that was warm for a line warms up again. -/
def bootLaser (y : Laser) (serves : Bool) (line : Nat) (age : Option (Nat × Nat × Nat)) : Laser :=
  let (f, c, _) := age.getD (0, 0, 0)
  let st : LaserSt := if serves then (if c = 2 then .warning else if c = 3 then .prewarm else if c = 4 then .handover else .serving)
    else if c = 3 then .prewarm else if c = 5 then .retired else if c = 6 then .failed else if c = 7 then .unhealthy else .idle
  { y with fade := f, recorded := f, state := st, line, output := if serves then 100 else 0, warmLocked := false }

/-- A Spring at boot: the sources and failed lines of the repair history; a spare that was warm for a line keeps its allocation (R287), and a line
whose handover was abandoned is not queued again (R294). (DESIGN CHOICE, log 64) -/
def State.bootSpring (s : State) (sp : Nat) : State :=
  let m := s.store.mram
  let x := s.spring sp
  let src := m.repairs.filter fun r => r.kind = 5 && r.element / 64 = sp
  let bad := (m.repairs.filter fun r => r.kind = 6 && r.element / 64 = sp).map fun r => r.element % 64
  let source := src.foldl (fun t r => tset none t (r.element % 64) (some (64 + r.replacement))) []
  let used := src.foldl (fun t r => tset none t (r.element % 64) (some r.replacement)) []
  let warm := (List.range 16).filterMap fun p =>
    match m.laserAge (80 * sp + 64 + p) with
    | some (_, c, k) => if c = 3 && !bad.contains k && (tget none used k).isNone then some (k, p) else none
    | none => none
  let alloc := warm.foldl (fun t kp => tset none t kp.1 (some kp.2)) used
  let x := { x with source, alloc, failedLines := bad.eraseDups, phase := .idle, queue := [], outLock := [] }
  let x := (List.range 80).foldl (fun x l =>
    let line := (List.range 64).find? fun k => x.serves k == some l
    let age := m.laserAge (80 * sp + l)
    let age := if l ≥ 64 && line.isNone && (match age with | some (_, c, k) => decide (c = 3) && tget none alloc k != some (l - 64) | none => false) then none else age
    x.setLaser l (bootLaser (x.laser l) line.isSome (line.getD (match age with | some (_, 3, k) => if l ≥ 64 then k else 0 | _ => 0)) age)) x
  let gone := (List.range 64).filter fun k => x.serves k == some k && (x.laser k).state == LaserSt.handover && (tget none x.alloc k).isNone
  s.setSpring sp { x with abandonedLines := gone }

/-- A ring that shows no resonance (R306): its lane fails, or its row becomes unhealthy; recorded. -/
def State.ringFail (s : State) (i : Nat) : State :=
  let s := s.setRing i { s.ring i with failed := true }
  let rec7 := fun (s : State) (e : Nat) => s.storePush (.repair { kind := 7, die := ringDie i, element := e, replacement := 0xFFFFFFFF, boot := s.boot,
                                                                  ticks := s.ticks % 2 ^ 48, extra := [] })
  if i < 7680 then (rec7 s (i % 3840)).laneOut (i % 3840) 7 false
  else if i < 8768 then s.flOut ((i - 7680) % 544 / 34) ((i - 7680) % 544 % 34) 7 false
  else
    let t := (i - 8768) / 17472
    let j := (i - 8768) % 17472
    let u := s.cu t
    let bad := if j < 17408 then (if u.bad (j / 64) then u.badRows else u.badRows ++ [j / 64]) else List.range 272
    let s := s.putRows t { u with badRows := bad }
    if j < 17408 then rec7 s (65536 + t * 17408 + j) else s

/-- Repairs of the history that bear on the optics are applied again: failed lanes and rings, retired rows (R664). The record of a lane's ring does
not say which of the two it was, so both are marked. (DESIGN CHOICE, log 35) -/
def State.opticRepairs (s : State) : State :=
  s.store.mram.repairs.foldl (fun s r =>
    match r.kind with
    | 3 => s.setLane r.element { s.lane r.element with state := .failed, cause := 5 }
    | 4 => s.modPort (r.element / 64) fun x => x.setFl (r.element % 64) { x.fl (r.element % 64) with state := .failed, cause := 5 }
    | 7 =>
      let fail := fun (s : State) (i : Nat) => s.setRing i { s.ring i with failed := true }
      if r.element < 65536 then
        let s := fail (fail s r.element) (3840 + r.element)
        s.setLane r.element { s.lane r.element with state := .failed, cause := 7 }
      else
        let t := (r.element - 65536) / 17408
        let p := (r.element - 65536) % 17408 / 64
        let u := s.cu t
        (fail s (wring t ((r.element - 65536) % 17408))).putRows t { u with badRows := if u.bad p then u.badRows else u.badRows ++ [p] }
    | 8 =>
      let t := r.element / 272
      let p := r.element % 272
      let u := s.cu t
      let map := match u.serves? p with
        | some i => if r.replacement < 272 && (u.serves? r.replacement).isNone then tset i u.rowMap i r.replacement else u.rowMap
        | none => u.rowMap
      s.putRows t { u with badRows := if u.bad p then u.badRows else u.badRows ++ [p], rowMap := map }
    | _ => s) s

/-- The lines that failed in earlier boots: their lanes and units (R297). -/
def State.oldLines (s : State) : State :=
  (List.range 2).foldl (fun s sp =>
    (s.spring sp).failedLines.foldl (fun s k =>
      let s := s.lineLanes sp k (fun s i => s.setLane i { s.lane i with state := .failed, cause := 4 })
        fun s p i => s.modPort p fun x => x.setFl i { x.fl i with state := .failed, cause := 4 }
      [2 * sp, 2 * sp + 1].foldl (fun s t => s.setCu t { s.cu t with inputLost := true, badRows := List.range 272 }) s) s) s

/-- The values that the restored path takes from a snapshot, or that the first-use path finds anew (R306). (DESIGN CHOICE, log 35) -/
def State.opticValues (s : State) (snap : Option Snap) : State :=
  match snap with
  | some y =>
    let o := y.optics
    let s := { s with optics := { s.optics with rings := o.rings.map fun kv => (kv.1, { kv.2 with unlocked := false, failed := false, out := 0, last := 0, ff := 0 }),
                                                xtalk := o.xtalk, regions := o.regions, rowRecs := o.rowRecs, base := o.base } }
    let s := (List.range 2).foldl (fun s sp => s.setSpring sp { s.spring sp with lasers := (tget .reset o.springs sp).lasers }) s
    (List.range 4).foldl (fun s t =>
      let u := s.cu t
      let c := y.characterised.getD t false
      s.setCu t { u with rowMap := y.rowMaps.getD t [], badRows := y.badRows.getD t [], characterised := c, locked := c }) s
  | none => ({ s with optics := { s.optics with base := s.freeIdx } }).takeFree 730000

/-- The rings that a die drives (R33, R298). -/
def dieRings (d : Nat) : List Nat := (List.range 78656).filter fun i => ringDie i == d

/-- The dies whose rings are all swept: more than 1% of them did not lock within 40 codes of the restored code (R306). -/
def sweptDies (slow : List Nat) : List Nat :=
  (List.range 23).filter fun d => decide ((dieRings d).length < 100 * ((dieRings d).filter slow.contains).length)

/-- Rings are swept: each takes the code at which its resonance was found. (DESIGN CHOICE, log 35) -/
def State.sweep (s : State) (rings : List Nat) : State :=
  (rings.zipIdx.foldl (fun (x : State) r => x.setRing r.1 { x.ring r.1 with code := some (s.freeAt r.2 % 4096) }) s).takeFree rings.length

/-- OPTICS_BRINGUP (R304, R306): with firmware running, on the restored path where a snapshot is valid, else on the first-use path. `failedRings`
show no resonance; `slowRings` did not lock within 40 codes of a restored code, and are swept, alone or with their whole die. A
restored unit settles and verifies before it is OPTICAL. Links parked by STILL take their quick training (R348). -/
def execOpticsBringup (failedRings slowRings : List Nat) (s : State) : Host.Outcome State Fault Refusal :=
  .next (if s.optics.ringsUp || !s.dieUp dieK || !s.rb Reg.KEY_READY 1 || !tget false s.pwr.good 4 then s
    else
      let snap := s.store.mram.snap
      let s := s.opticValues snap
      let s := { s with optics := { s.optics with ringsUp := true, refLost := false, dimmed := false, dark := false, loopsStopped := false } }
      let s := ((s.bootSpring 0).bootSpring 1).opticRepairs.oldLines
      let failed := failedRings.filter (· < 78656)
      let slow := if snap.isSome then (failed ++ slowRings.filter (· < 78656)).eraseDups else []
      let dies := sweptDies slow
      let s := s.sweep ((List.range 78656).filter fun i => slow.contains i || dies.contains (ringDie i))
      let s := failed.foldl State.ringFail s
      let n := ((s.spring 0).failedLines.length + (s.spring 1).failedLines.length)
      let s := s.setReg Reg.BED_LINES_FAILED (BitVec.ofNat 32 n)
      let s := (s.setReady 24 snap.isSome).setReady 25 (dies ≠ [])
      let s := ((s.springLock 0).springLock 1).bedUnpark
      ((List.range 4).foldl (fun s t =>
        let u := s.cu t
        if u.characterised then (s.setCu t { u with hold := some (.settle true) }).cuMode t else s) s).readyUpd)

/-! ### Registers -/

/-- BED_LASER_FADE. -/
def State.laserFade (s : State) : Word :=
  let l := s.rf Reg.BED_LASER_SEL 1 7
  if l ≥ 80 then 0
  else
    let x := s.spring (s.rf Reg.BED_LASER_SEL 0 1)
    let y := x.laser l
    let serving := (List.range 64).any fun k => x.serves k == some l
    let out := if s.optics.dark then 0 else if s.optics.dimmed && serving then 25 else y.output
    BitVec.ofNat 32 (y.fade % 65536 + y.state.code * 2 ^ 16 + out % 128 * 2 ^ 19 + y.line * 2 ^ 26)

/-- BED_HANDOVER. -/
def State.handoverWord (s : State) : Word :=
  let x := s.spring (s.rf Reg.BED_LASER_SEL 0 1)
  let ph := match x.phase with | .idle => 0 | .prepare => 1 | .scheduled => 2 | .swap => 3 | .abandoned => 4
  BitVec.ofNat 32 (ph + x.line * 8 + x.spare * 2 ^ 9 + x.attempt * 2 ^ 13 + x.queue.length * 2 ^ 15)

/-- BED_REF_STATUS. -/
def State.refStatus (s : State) : Word :=
  let o := s.optics
  BitVec.ofNat 32 ((o.ringsUp && !o.dark && !o.refLost).toNat + (s.spring 0).locked.toNat * 2 + (s.spring 1).locked.toNat * 4 +
    s.rf Reg.BED_REF_STATUS 16 16 * 65536)

/-- Region heaters that run: twelve per tensor die and four per span die whose ring loops run (R300, R304). -/
def State.regionHeaters (s : State) : Nat :=
  if !s.rb Reg.BED_REGION_CTL 0 || !s.optics.ringsUp || s.optics.loopsStopped || s.optics.dark then 0
  else
    let runs := fun (d : Nat) => s.dieUp d && !s.optics.stoppedDies.contains d
    12 * ((List.range 4).filter runs).length + 4 * (([0, 1].map dieS).filter runs).length

/-- BED_REGION_CTL: the heaters' present draw is measured, so free up to 3 W a running heater; 0 where none runs. (DESIGN CHOICE, log 35) -/
def State.regionCtl (s : State) : Word :=
  (s.reg Reg.BED_REGION_CTL).setFld 16 16 (s.freeVal % (300 * s.regionHeaters + 1))

end Sys2Proof.Machine
end

