-- ==== Sys2Proof/Machine/Store.lean ====
section
/-! DEFINITION. The persistent store (R595 to R625): the drain of the write queue, the temperature gate, snapshots, the orderly shutdown, the
store reset, the lifetime counters, the ageing history, the host-saved blocks, and their registers. -/

namespace Sys2Proof.Machine

/-- The lifecycle state (R562): 0 BLANK, 1 PROVISIONED, 2 OWNED, 3 RETURNED, 4 SCRAPPED. -/
def State.lifecycle (s : State) : Nat := if s.fuses.lifecycle = 1 && s.sec.owner.isSome then 2 else s.fuses.lifecycle

/-- A bit of KEY_PST_STATUS. -/
def State.pstBit (s : State) (i : Nat) (b : Bool) : State := s.setRb Reg.KEY_PST_STATUS i b

/-! ### Committing a record (R598, R602) -/

/-- A queued unit in its place. -/
def Mram.commit (m : Mram) : StoreUnit → Mram
  | .log lsn e => { m with log := tset [] m.log (lsn % logSlots) e, maxLsn := some (max lsn (m.maxLsn.getD 0)) }
  | .lifetime c => { m with life := c }
  | .bootCount n => { m with life := tset 0 m.life 0 n }
  | .logState ack unl res => { m with ack, unlogged := unl, res }
  | .energy corr fl => { m with corr, nrgFloors := fl, energyValid := true }
  | .floors f g inv => { m with floors := f, grant := g, invLifetime := inv }
  | .owner k cs => { m with owner := k, countersign := cs }
  | .ageing r => { m with ageing := if m.ageing.length ≥ 16352 then m.ageing.drop 1 ++ [r] else m.ageing ++ [r] }
  | .repair r => m.appendRepair r
  | .hsClear => { m with hs := [] }

/-- What a record's commit makes take effect: an owner record is a lifecycle transition, after which a COLD reset is due (R563). -/
def State.committed (s : State) : StoreUnit → State
  | .owner k cs => { s with sec := { s.sec with owner := k, countersign := cs }, pwr := { s.pwr with due := 1 } }
  | _ => s

/-- Write the front unit of the queue. -/
def State.drainOne (s : State) : State :=
  match s.store.queue with
  | [] => s
  | u :: t =>
    let s := { s with store := { s.store with queue := t } }
    (s.modMram fun m => m.commit u).committed u

/-- Drain the whole queue. -/
def State.drainAll (s : State) : State := s.store.queue.foldl (fun s _ => s.drainOne) s

/-! ### Snapshots (R609, R610) -/

/-- The sequence of the newest snapshot. -/
def Mram.snapSeq (m : Mram) : Nat :=
  max (match m.snapA with | some a => a.seq | none => 0) (match m.snapB with | some b => b.seq | none => 0)

/-- Does copy B hold the newest committed snapshot? -/
def Mram.newestB (m : Mram) : Bool :=
  match m.snapA, m.snapB with
  | some a, some b => decide (b.seq > a.seq)
  | none, some _ => true
  | _, none => false

/-- The calibration as it stands (R308, R609). -/
def State.takeSnap (s : State) : Snap :=
  let us := (List.range 4).map fun t => s.cu t
  { seq := s.store.mram.snapSeq + 1, boot := s.boot, ticks := s.ticks, serialsOk := true, optics := s.optics, rowMaps := us.map (·.rowMap),
    badRows := us.map (·.badRows), characterised := us.map (·.characterised) }

/-- Commit a snapshot in the copy that does not hold the newest. (DESIGN CHOICE, log 43) -/
def State.snapCommit (s : State) : State :=
  let x := s.takeSnap
  s.modMram fun m => if m.newestB || (m.snapA.isNone && m.snapB.isNone) then { m with snapA := some x } else { m with snapB := some x }

/-- SNAPSHOT_DONE: the record commits; a pending request is taken up. -/
def execSnapshotDone (s : State) : Host.Outcome State Fault Refusal :=
  .next (if !s.store.snapRunning || !s.gateOpen || !s.dieUp dieK then s
    else
      let s := { s.snapCommit with store := { s.snapCommit.store with snapRunning := false } }
      if s.store.snapPending then { s with store := { s.store with snapRunning := true, snapPending := false } } else s)

/-! ### The orderly shutdown (R619) -/

/-- Queue the lifetime record and the two device-state records; the reservation becomes the next lsn (R607). -/
def State.pushLast (s : State) : State :=
  let s := { s with store := { s.store with res := s.log.next } }
  ((s.storePush (.lifetime s.store.life)).storePush (.energy s.nrg.corr s.nrg.floors)).storePush
    (.logState s.log.ack s.log.unlogged s.log.next)

/-- The orderly shutdown: with the gate closed, its records wait in the queue, and no snapshot is taken (R610). -/
def State.shutdown (s : State) : State :=
  if s.gateOpen then
    let s := s.drainAll.pushLast.drainAll.snapCommit
    let s := { s with store := { s.store with snapRunning := false, snapPending := false, shutdown := false } }
    s.pstBit 18 true
  else
    let s := s.pushLast
    { s with store := { s.store with shutdown := true, snapPending := true } }

/-- The next unit is written (R602); a shutdown that waited is done when nothing is left. -/
def State.storeWriteStep (s : State) : State :=
  if !s.gateOpen || !s.dieUp dieK then s
  else
    let s := s.drainOne
    if s.store.shutdown && s.store.queue = [] then
      ({ s with store := { s.store with shutdown := false } }).pstBit 18 true
    else s

/-! ### The temperature gate (R603) -/

/-- The valid keystone sensors. -/
def State.gateSensors (s : State) : List Nat := ((List.range 4).map (· + 432)).filter fun i => (s.sensor i).state == 0

/-- Every valid keystone sensor lies within a window in 1/16 °C, and there is one. -/
def State.gateWithin (s : State) (lo hi : Int) : Bool :=
  s.gateSensors ≠ [] && s.gateSensors.all fun i => decide (lo ≤ (s.sensor i).reading) && decide ((s.sensor i).reading ≤ hi)

/-- STORE_GATE_CLOSE: a keystone sensor left 0 to 90 °C, or no valid one is left (R603, R652). -/
def execStoreGateClose (s : State) : Host.Outcome State Fault Refusal :=
  .next (if !s.gateOpen || s.gateWithin 0 1440 || !s.dieUp dieK then s
    else
      let s := s.pstBit 1 false
      if s.gateSensors = [] then s.raiseErr 2 0x29 dieK 432 none 0 else s)

/-- STORE_GATE_OPEN: every valid keystone sensor stayed within 2 to 88 °C for 1 s. What waited for the gate goes on (R607, R610). -/
def execStoreGateOpen (s : State) : Host.Outcome State Fault Refusal :=
  .next (if s.gateOpen || !s.gateWithin 32 1408 || !s.dieUp dieK then s
    else
      let s := (s.pstBit 1 true).reserve
      if s.store.snapPending && !s.store.snapRunning then { s with store := { s.store with snapRunning := true, snapPending := false } } else s)

/-! ### The store reset (R601, R620) -/

/-- The lowest lsn that the store holds committed. -/
def Mram.lowestLsn (m : Mram) : Nat :=
  (m.log.foldl (fun (a : Option Nat) kv =>
    let l := bfld kv.2 0 8
    match a with | none => some l | some x => some (min x l)) none).getD 0

/-- Areas 2 to 8 as R601 gives them, areas 1 and 9 kept; counter 13 then counts this reset, the boot count stays (R500). (DESIGN CHOICE, log 43) -/
def Mram.format (m : Mram) (boot : Nat) : Mram :=
  { m with formatted := true, floors := [0, 0, 0, 0], grant := none, invLifetime := 0, life := tset 0 (tset 0 [] 0 boot) 13 1,
           ack := m.lowestLsn, unlogged := 0, res := m.res, corr := [], nrgFloors := [], energyValid := true, snapA := none, snapB := none,
           ageing := [], repairs := [], hs := [] }

/-- A store reset while the device runs. -/
def State.storeReset (s : State) : State :=
  let boot := s.boot
  let s := s.modMram fun m => m.format boot
  let m := s.store.mram
  let s := { s with store := { s.store with life := m.life, snapPending := false, snapRunning := false } }
  let s := { s with log := { s.log with ack := m.ack, unlogged := 0 } }
  { s with sec := { s.sec with mram := [0, 0, 0, 0], grant := none, invLifetime := 0 } }

/-! ### KEY_PST_CTL (R622) -/

/-- KEY_PST_CTL: snapshot reads 1 until it is taken. -/
def State.pstCtl (s : State) : Word :=
  BitVec.ofNat 32 ((s.store.snapPending || s.store.snapRunning).toNat + s.store.shutdown.toNat * 2)

/-- A write of KEY_PST_CTL; a format write of another origin than DEBUG at INVASIVE is ignored and counted (R620). -/
def State.wPstCtl (s : State) (o : Origin) (dev : Nat) (v : Word) : State :=
  let bad := v.bit 2 && !(o == .debug && s.sec.level == 2)
  s.gate o dev Reg.KEY_PST_CTL v s.pstCtl (ignoreIf bad Reg.KEY_RSVD_WRITES) fun s _ =>
    let s := if v.bit 0 then s.snapWant else s
    let s := if v.bit 1 then s.shutdown else s
    if v.bit 2 then s.storeReset else s

/-- SNAPSHOT_REQUEST. -/
def execSnapshotRequest (o : Origin) (v : Word) (s : State) : Host.Outcome State Fault Refusal := .next (s.wPstCtl o 0 v)

/-- ORDERLY_SHUTDOWN. -/
def execOrderlyShutdown (o : Origin) (v : Word) (s : State) : Host.Outcome State Fault Refusal := .next (s.wPstCtl o 0 v)

/-- STORE_RESET. -/
def execStoreReset (o : Origin) (v : Word) (s : State) : Host.Outcome State Fault Refusal := .next (s.wPstCtl o 0 v)

/-- KEY_PST_STATUS (R621). -/
def State.pstStatus (s : State) : Word :=
  let st := s.store
  let w := s.reg Reg.KEY_PST_STATUS
  BitVec.ofNat 32 (w.fld 0 2 + (decide (st.plainUnits ≥ 1008)).toNat * 4 + min 1024 st.unitsUsed * 8 + st.mram.snapA.isSome.toNat * 2 ^ 14 +
    st.mram.snapB.isSome.toNat * 2 ^ 15 + st.mram.newestB.toNat * 2 ^ 16 + st.snapPending.toNat * 2 ^ 17 + w.fld 18 1 * 2 ^ 18)

/-! ### Lifetime counters and ageing (R611, R612, R615) -/

/-- Raise a lifetime counter. -/
def State.lifeAdd (s : State) (i n : Nat) : State :=
  { s with store := { s.store with life := tset 0 s.store.life i ((tget 0 s.store.life i + n) % 2 ^ 64) } }

/-- The hottest value in use of the logic dies, in 1/16 °C. -/
def State.hottestLogic (s : State) : Int :=
  ((List.range 436).filter fun i => tripSensor i && (s.sensor i).used).foldl (fun m i => max m (s.sensor i).value) (-2 ^ 12)

/-- The band of a temperature (R611). -/
def lifeBand (t : Int) : Nat :=
  if t < 400 then 2 else if t < 720 then 3 else if t < 1040 then 4 else if t < 1280 then 5 else if t < 1520 then 6
  else if t < 1680 then 7 else if t < 1888 then 8 else 9

/-- The lasers that serve a line. -/
def State.servingLasers (s : State) : List Nat :=
  (List.range 2).flatMap fun sp =>
    let x := s.spring sp
    ((List.range 80).filter fun l => (List.range 64).any fun k => x.serves k == some l).map (· + 80 * sp)

/-- One second passes: the counters of time (R611). -/
def State.lifeSecond (s : State) : State :=
  let s := s.lifeAdd 1 1
  if s.pstate = 3 then s.lifeAdd 10 1
  else if !s.dieUp dieK then s
  else
    let s := s.lifeAdd (lifeBand s.hottestLogic) 1
    if s.optics.dark || !s.optics.ringsUp then s else s.servingLasers.foldl (fun s l => s.lifeAdd (16 + l) 1) s

/-- AO_TICK (R499): the always-on domain is powered; 32,768 ticks are a second of the lifetime counters. -/
def execAoTick (s : State) : Host.Outcome State Fault Refusal :=
  .next (if tget false s.pwr.good 0 then
      let s := { s with ticks := (s.ticks + 1) % 2 ^ 48 }
      if s.ticks % 32768 = 0 then s.lifeSecond else s
    else s)

/-- LIFETIME_COMMIT. -/
def execLifetimeCommit (s : State) : Host.Outcome State Fault Refusal :=
  .next (if s.dieUp dieK then s.storePush (.lifetime s.store.life) else s)

/-- AGEING_RECORD: each region's mean heater code. (DESIGN CHOICE, log 35) -/
def execAgeingRecord (means : List Nat) (s : State) : Host.Outcome State Fault Refusal :=
  .next (if s.dieUp dieK then
      ((List.range means.length).map fun i => StoreUnit.ageing [1, i, means.getD i 0, 0, s.boot]).foldl State.storePush s
    else s)

/-- KEY_PST_LIFE_LO and _HI (R624). -/
def State.lifeWord (s : State) (hi : Bool) : Word :=
  let i := s.rf Reg.KEY_PST_LIFE_SEL 0 8
  let v := if i < 176 then tget 0 s.store.life i else 0
  BitVec.ofNat 32 (if hi then v / 2 ^ 32 else v)

/-! ### Host-saved blocks (R617, R618, R625) -/

/-- A DA in the layout of R586. -/
def State.daReg (s : State) (lo hi : Nat) : Nat := s.rf lo 6 26 * 64 + s.rf hi 0 14 * 2 ^ 32

/-- Set KEY_PST_HS_CTL.error. -/
def hsErr (e : Nat) : State → State := fun s => s.setRf Reg.KEY_PST_HS_CTL 23 3 e

/-- A host-saved block. -/
def State.hsBlock (s : State) (b : Nat) : Option HsBlock := tget none s.store.mram.hs b

/-- May the keystone read, or write, these bytes: untiled memory within one store that it reaches? -/
def State.keyRange (s : State) (da n : Nat) (write : Bool) : Bool :=
  (match s.rangeStore da n with | some st => s.reaches? dieK st | none => false) &&
    (if write then !touchesTiled s.trg da n && !s.touchesKv da n else !touchesPayload s.trg da n)

/-- The refusal of an operation; 0 where it starts. (DESIGN CHOICE, log 43) (DESIGN CHOICE, log 54) -/
def State.hsCheck (s : State) (load : Bool) (blk da len : Nat) : Nat :=
  let n := if load then (match s.hsBlock blk with | some b => b.data.length | none => 0) else len
  if s.lifecycle = 0 ∨ s.lifecycle = 4 then 6
  else if !load && !s.gateOpen then 3
  else if load && (s.hsBlock blk).isNone then 4
  else if !load && (len < 8 || len > 65512 || len % 8 ≠ 0) then 2
  else if !s.keyRange da n load then 1
  else 0

/-- A write of KEY_PST_HS_CTL. -/
def State.wHsCtl (s : State) (pe : PortEv) (o : Origin) (dev : Nat) (v : Word) : State :=
  let off := Reg.KEY_PST_HS_CTL
  s.gate o dev off v ((s.reg off).setFld 5 1 s.store.hsOp.isSome.toNat) (if v.bit 4 && s.store.hsOp.isSome then some (hsErr 5) else none) fun s x =>
    let s := s.keepReg off x
    if !v.bit 4 then s
    else
      let da := s.daReg Reg.KEY_PST_HS_ADDR_LO Reg.KEY_PST_HS_ADDR_HI
      let load := v.bit 3
      let blk := v.fld 0 3
      let len := v.fld 6 17
      let e := s.hsCheck load blk da len
      if e ≠ 0 then hsErr e s
      else
        let v := s.viewNow pe
        let s := if load then s else (s.meet pe da len).eccRead da len
        let d := if load then [] else s.readPE v da len
        let s := if load then s else s.met v [(da, len, false)]
        { s with store := { s.store with hsOp := some { block := blk, load, da, data := d } } }

/-- HOST_SAVED_SAVE. -/
def execHostSavedSave (o : Origin) (v : Word) (pe : PortEv) (s : State) : Host.Outcome State Fault Refusal := .next (s.wHsCtl pe o 0 v)

/-- HOST_SAVED_LOAD. -/
def execHostSavedLoad (o : Origin) (v : Word) (s : State) : Host.Outcome State Fault Refusal := .next (s.wHsCtl .clear o 0 v)

/-- HOST_SAVED_OPERATION_COMPLETE: a save's record commits while the gate is open; a load's bytes stand in memory. -/
def execHostSavedOperationComplete (pe : PortEv) (s : State) : Host.Outcome State Fault Refusal :=
  .next (match s.store.hsOp with
    | none => s
    | some p =>
      if !s.dieUp dieK || (!p.load && !s.gateOpen) then s
      else
        let s := { s with store := { s.store with hsOp := none } }
        if p.load then
          let d := match s.hsBlock p.block with | some b => b.data | none => []
          ((s.writePE (s.viewNow pe) p.da d).met (s.viewNow pe) [(p.da, d.length, true)]).setRf Reg.KEY_PST_HS_CTL 6 17 d.length
        else
          let q := match s.hsBlock p.block with | some b => b.seq | none => 0
          s.modMram fun m => { m with hs := tset none m.hs p.block (some { seq := q + 1, data := p.data }) })

/-- KEY_PST_HS_CTL. -/
def State.hsCtl (s : State) : Word := (s.reg Reg.KEY_PST_HS_CTL).setFld 5 1 s.store.hsOp.isSome.toNat

/-! ### A power cut (R596, R600, R629) -/

/-- What the unit being written leaves, if it was being written. (DESIGN CHOICE, log 48) -/
def StoreUnit.torn : StoreUnit → Torn
  | .log lsn _ => .log (lsn % logSlots)
  | .lifetime _ | .bootCount _ => .rotated 3
  | .logState .. | .energy .. => .rotated 4
  | .floors .. | .owner .. => .pair
  | .ageing _ => .appended 6
  | .repair _ => .appended 7
  | .hsClear => .appended 8

/-- A snapshot or a save being written is left unfinished (R596, R598). (DESIGN CHOICE, log 40) (DESIGN CHOICE, log 48) -/
def State.storeAbort (s : State) (front : List Torn) : State :=
  let snap := if s.store.snapRunning then [Torn.snap (!s.store.mram.newestB && s.store.mram.snapA.isSome)] else []
  let hs := match s.store.hsOp with | some p => if p.load then [] else [Torn.hs p.block] | none => []
  let t := front ++ snap ++ hs
  let s := s.modMram fun m =>
    { m with torn := m.torn ++ t, snapA := if t.contains (.snap false) then none else m.snapA, snapB := if t.contains (.snap true) then none else m.snapB }
  { s with store := { s.store with snapPending := false, snapRunning := false, hsOp := none, shutdown := false } }

/-- The keystone loses power: the queue is lost; a unit, a snapshot or a save under way may leave its slot unfinished (free). (DESIGN CHOICE, log 48) -/
def State.storeCut (s : State) : State :=
  let front := match s.store.queue with | u :: _ => if s.gateOpen && s.freeVal % 2 = 1 then [u.torn] else [] | [] => []
  let s := (s.takeFree 1).storeAbort front
  { s with store := { s.store with queue := [] } }

end Sys2Proof.Machine
end

