-- ==== Sys2Proof/Machine/Security.lean ====
section
/-! DEFINITION. Identity, trust and debug (R546 to R572, R583 to R593): measurement, the firmware manifest, authorization tokens, the lifecycle,
the debug level, attestation, and the registers of the SEC block. -/

namespace Sys2Proof.Machine

/-! ### Measurement (R556) -/

/-- A measurement register. -/
def State.meas (s : State) (r : Nat) : List Byte := tget (zeros 64) s.sec.meas r

/-- Extend a measurement register. -/
def State.extend (s : State) (r : Nat) (d : List Byte) : State :=
  { s with sec := { s.sec with meas := tset (zeros 64) s.sec.meas r (shake256 (s.meas r ++ d) 64) } }

/-! ### Debug (R562 to R568) -/

/-- The debug level: BLANK is always INVASIVE, SCRAPPED always CLOSED (R570). -/
def State.debugLevel (s : State) : Nat := if s.lifecycle = 0 then 2 else if s.lifecycle = 4 then 0 else s.sec.level

/-- Queue the record of floors and grant. -/
def State.pushFloors (s : State) : State := s.storePush (.floors s.sec.mram s.sec.grant s.sec.invLifetime)

/-- The nonce is lost. -/
def State.dropNonce (s : State) : State :=
  (List.range 8).foldl (fun s i => s.setReg (Reg.SEC_AUTH_NONCEi i) 0) { s with sec := { s.sec with nonce := none } }

/-- Working secrets are zeroized (R567): IDE streams return to Secure only with new keys. -/
def State.zeroize (s : State) : State :=
  let ide := s.hq.ide.map fun (kv : Nat × Ide) => (kv.1, if kv.2.state = 1 then ({ state := 2, key := 0 } : Ide) else kv.2)
  { s.dropNonce with hq := { s.hq with ide, spdm := false } }

/-- The debug level becomes `l`: a change extends register 7; entry to INVASIVE zeroizes, flags and counts (R556, R567). -/
def State.setLevel (s : State) (l : Nat) : State :=
  if s.sec.level = l then s
  else
    let s := if l = 2 then
        let s := s.zeroize
        { s with sec := { s.sec with sinceCold := true, invLifetime := min 0xFFFF (s.sec.invLifetime + 1) } }
      else s
    let s := { s with sec := { s.sec with level := l } }
    s.extend 7 (toBytesLE 1 l ++ toBytesLE 4 s.boot)

/-! ### Tokens (R559 to R563) -/

/-- Is a command permitted in a lifecycle state with a signer (R563, R566, R570)? -/
def tokenPermitted (life cmd signer : Nat) : Bool :=
  match cmd with
  | 1 | 2 => (life = 1 && signer = 0) || (life = 2 && signer = 1) || (life = 3 && signer = 0)
  | 3 | 5 => life = 1 && signer = 0
  | 4 | 7 => life = 2 && signer = 1
  | 6 => (life = 2 && signer = 1) || ((life = 1 || life = 3) && signer = 0)
  | _ => false

/-- Format and reserved fields of a token. -/
def tokenFormOk (t : List Byte) : Bool :=
  let cmd := bfld t 2 1
  t.length = 5392 && bfld t 0 2 = 1 &&
  (if cmd = 1 ∨ cmd = 2 then bfld t 16 1 ≠ 0 else bfld t 16 1 = 0) &&
  (if cmd = 7 then bfld t 17 1 < 2 else bfld t 17 1 = 0) && bfld t 18 14 = 0 &&
  (if cmd = 3 then (t.drop 64).take 64 = shake256 ((t.drop 128).take 1952) 64 else bfld t 64 64 = 0) && bfld t 5389 3 = 0

/-- The result of a token check (R561, R585): 1 accepted, else the first check that fails. (DESIGN CHOICE, log 44) -/
def State.tokenResult (s : State) (t : List Byte) : Nat :=
  let cmd := bfld t 2 1
  let signer := bfld t 3 1
  let key := (t.drop 128).take 1952
  let vkey := if signer = 0 then Config.authKey else s.sec.owner.getD []
  if !tokenFormOk t then 2
  else if bfld t 4 8 ≠ Config.serial 0 % 2 ^ 64 ∨ bfld t 12 4 ≠ s.boot % 2 ^ 32 then 3
  else if s.sec.nonce ≠ some ((t.drop 32).take 32) then 4
  else if !tokenPermitted s.lifecycle cmd signer then 5
  else if (cmd ≠ 3 && key ≠ vkey) || !Config.verify vkey (t.take 2080) ((t.drop 2080).take 3309) then 6
  else 1

/-- Write the queue's records at once where the gate is open. -/
def State.flushStore (s : State) : State := if s.gateOpen then s.drainAll else s

/-- A lifecycle fuse is burned; a COLD reset is due. -/
def State.burnLife (s : State) (n : Nat) : State :=
  { s with fuses := { s.fuses with lifecycle := n }, pwr := { s.pwr with due := 1 } }

/-- The grant is cleared. -/
def State.clearGrant (s : State) : State := ({ s with sec := { s.sec with grant := none } }).pushFloors

/-- The effect of an accepted command (R563, R566). (DESIGN CHOICE, log 44) -/
def State.tokenEffect (s : State) (t : List Byte) : State :=
  let cmd := bfld t 2 1
  let boots := bfld t 16 1
  match cmd with
  | 1 | 2 => (({ s with sec := { s.sec with grant := some (cmd, boots - 1) } }).setLevel cmd).pushFloors
  | 3 => (s.storePush (.owner (some ((t.drop 128).take 1952)) false)).flushStore
  | 4 => ((s.clearGrant.storePush .hsClear).storePush (.owner none false)).flushStore
  | 5 => ((s.clearGrant.storePush .hsClear).flushStore).burnLife 3
  | 6 =>
    let s := ((s.clearGrant.storePush .hsClear).storePush (.owner none false)).flushStore
    { s with sec := { s.sec with keysErased := true, owner := none } }.burnLife 4
  | _ => (s.storePush (.owner s.sec.owner (bfld t 17 1 % 2 == 1))).flushStore

/-- The lifecycle state that a command leads to. -/
def lifeAfter (life cmd : Nat) : Nat :=
  match cmd with
  | 3 => 2 | 4 => 1 | 5 => 3 | 6 => 4 | _ => life

/-- The value of an AUTH entry (R575). -/
def authValue (cmd result life level boots : Nat) (digest : List Byte) : List Byte :=
  toBytesLE 1 cmd ++ toBytesLE 1 result ++ toBytesLE 1 life ++ toBytesLE 1 level ++ toBytesLE 1 boots ++ zeros 3 ++ padTo 16 digest

/-- Set SEC_AUTH_CTL.result. -/
def State.authResult (s : State) (r : Nat) : State := s.setRf Reg.SEC_AUTH_CTL 4 3 r

/-- TOKEN_CHECK_COMPLETE (R560, R561): the nonce is consumed; an accepted token is logged and measured, and takes effect. (DESIGN CHOICE, log 44) -/
def execTokenCheckComplete (s : State) : Host.Outcome State Fault Refusal :=
  .next (match s.sec.token with
    | none => s
    | some (t, o) =>
      if !s.dieUp dieK then s
      else
        let r := s.tokenResult t
        let cmd := bfld t 2 1
        let s := { s with sec := { s.sec with token := none, nonce := none } }
        if r ≠ 1 then s.authResult r
        else if s.logFull && refusable o then s.refuseLog o 0x3FFFFFF
        else
          let lv := if cmd ≤ 2 then cmd else s.debugLevel
          let d := shake256 t 64
          let s := s.logChange o 6 Reg.SEC_AUTH_CTL (authValue cmd 1 (lifeAfter s.lifecycle cmd) lv (bfld t 16 1) d)
          (((s.extend 6 d).tokenEffect t).authResult 1).readyUpd)

/-- A token is submitted (R561, R580); while a check runs, it is ignored with result 7. (DESIGN CHOICE, log 44) -/
def State.submit (s : State) (o : Origin) (t : List Byte) : State :=
  if s.sec.token.isSome then s.authResult 7
  else if s.logFull && refusable o then s.refuseLog o 0x3FFFFFF
  else { s with sec := { s.sec with token := some (t, o) } }

/-- The token at SEC_AUTH_ADDR (R586); empty where the address does not name untiled memory within one store. -/
def State.tokenAt (s : State) : List Byte :=
  let da := s.daReg Reg.SEC_AUTH_ADDR_LO Reg.SEC_AUTH_ADDR_HI
  if s.keyRange da 5392 false then s.readMem da 5392 else []

/-- SEC_AUTH_CTL.new_nonce (R560): 32 bytes of the generator, which the model leaves free. (DESIGN CHOICE, log 45) -/
def State.newNonce (s : State) : State :=
  if s.sec.rngFailed then s
  else
    let n := (List.range 32).map fun i => BitVec.ofNat 8 (s.freeAt i)
    let s := { s.takeFree 32 with sec := { s.sec with nonce := some n } }
    (List.range 8).foldl (fun s i => s.setReg (Reg.SEC_AUTH_NONCEi i) (BitVec.ofNat 32 (bfld n (4 * i) 4))) s

/-- Return to CLOSED (R568). -/
def State.relock (s : State) : State := (s.setLevel 0).clearGrant

/-- SEC_AUTH_CTL: busy while a check runs. -/
def State.authCtl (s : State) : Word := BitVec.ofNat 32 (s.sec.token.isSome.toNat * 8 + s.rf Reg.SEC_AUTH_CTL 4 3 * 16)

/-- A write of SEC_AUTH_CTL (R560, R561, R568, R585). A submit is logged by its AUTH entry; with relock in the same write, the relock alone is
performed. -/
def State.wAuthCtl (s : State) (o : Origin) (dev : Nat) (v : Word) : State :=
  let off := Reg.SEC_AUTH_CTL
  if v.bit 1 && !v.bit 2 then
    let s := if v &&& 0xFFFFFF80 = 0 then s else s.bump Reg.KEY_RSVD_WRITES
    let s := s.setRf off 4 3 (s.rf off 4 3 - (s.rf off 4 3 &&& v.fld 4 3))
    let s := if v.bit 0 then s.newNonce else s
    s.submit o s.tokenAt
  else
    s.gate o dev off v s.authCtl none fun s x =>
      let s := s.setReg off (x &&& 0x70)
      let s := if v.bit 2 then s.relock else s
      if v.bit 0 && !(v.bit 1 && v.bit 2) then s.newNonce else s

/-- NEW_NONCE. -/
def execNewNonce (o : Origin) (s : State) : Host.Outcome State Fault Refusal := .next (s.wAuthCtl o 0 1)

/-- A token of command `cmd` is submitted: through SEC_AUTH_CTL, or by the JTAG instruction AUTH_SUBMIT, which every debug level accepts but
not the always-on TAP (R561, R571). -/
def State.submitRow (s : State) (cmd : Nat) (o : Origin) (jtag : Option (List Byte)) : State :=
  if !s.dieUp dieK then s
  else
    match jtag with
    | some t => if bfld t 2 1 = cmd then s.submit .debug t else s
    | none => if bfld s.tokenAt 2 1 = cmd then s.wAuthCtl o 0 2 else s

/-- DEBUG_OBSERVE. -/
def execDebugObserve (o : Origin) (jtag : Option (List Byte)) (s : State) : Host.Outcome State Fault Refusal := .next (s.submitRow 1 o jtag)

/-- DEBUG_INVASIVE. -/
def execDebugInvasive (o : Origin) (jtag : Option (List Byte)) (s : State) : Host.Outcome State Fault Refusal := .next (s.submitRow 2 o jtag)

/-- CLAIM. -/
def execClaim (o : Origin) (jtag : Option (List Byte)) (s : State) : Host.Outcome State Fault Refusal := .next (s.submitRow 3 o jtag)

/-- RELEASE. -/
def execRelease (o : Origin) (jtag : Option (List Byte)) (s : State) : Host.Outcome State Fault Refusal := .next (s.submitRow 4 o jtag)

/-- RETURN. -/
def execReturnTok (o : Origin) (jtag : Option (List Byte)) (s : State) : Host.Outcome State Fault Refusal := .next (s.submitRow 5 o jtag)

/-- SCRAP. -/
def execScrap (o : Origin) (jtag : Option (List Byte)) (s : State) : Host.Outcome State Fault Refusal := .next (s.submitRow 6 o jtag)

/-- POLICY. -/
def execPolicy (o : Origin) (jtag : Option (List Byte)) (s : State) : Host.Outcome State Fault Refusal := .next (s.submitRow 7 o jtag)

/-- RELOCK. -/
def execRelock (o : Origin) (v : Word) (s : State) : Host.Outcome State Fault Refusal := .next (s.wAuthCtl o 0 v)

/-- PROVISION (R563): the production line writes the die keys and certificates of a BLANK part. (DESIGN CHOICE, log 44) -/
def execProvision (pubKeys : List (List Byte)) (certs : List Byte) (s : State) : Host.Outcome State Fault Refusal :=
  .next (if s.lifecycle ≠ 0 || !s.dieUp dieK || pubKeys.length ≠ 23 then s
    else
      let s := s.logChange .factory 6 Reg.SEC_LIFECYCLE (authValue 0 1 1 0 0 [])
      let s := { s with sec := { s.sec with pubKeys := pubKeys.map (padTo 1952), certs } }
      (s.modMram fun m => { m with identity := true }).flushStore.burnLife 1)

/-! ### The manifest (R552 to R554) -/

/-- The signed length of a manifest. -/
def manLen (m : List Byte) : Nat := 64 + 96 * bfld m 3 1

/-- Image i of a manifest: class, length, offset, digest. -/
def manImage (m : List Byte) (i : Nat) : Nat × Nat × Nat × List Byte :=
  let b := m.drop (64 + 96 * i)
  (bfld b 0 1, bfld b 4 4, bfld b 8 8, (b.drop 16).take 64)

/-- Format and reserved fields. -/
def manFormOk (m : List Byte) : Bool :=
  let n := bfld m 3 1
  bfld m 0 2 = 1 && bfld m 2 1 < 8 && decide (1 ≤ n ∧ n ≤ 8) && bfld m 4 4 = manLen m && bfld m 24 40 = 0 &&
  (List.range n).all fun i =>
    let b := m.drop (64 + 96 * i)
    decide (bfld b 0 1 < 4) && bfld b 1 3 = 0 && bfld b 80 16 = 0

/-- The floor of a class. -/
def State.svnFloor (s : State) (c : Nat) : Nat := max (s.sec.mram.getD c 0) (s.fuses.svn.getD c 0)

/-- The security version that a manifest gives a class. -/
def manSvn (m : List Byte) (c : Nat) : Nat := bfld m (16 + 2 * c) 2

/-- Which factory flag the lifecycle accepts (R553 step 4, R570). -/
def factoryOk (life flags : Nat) : Bool := life ≠ 4 && (decide (life = 0) == (flags / 2 % 2 == 1))

/-- The first of steps 1 to 5 of R553 that fails; 0 where the manifest passes. -/
def State.manCheck (s : State) (m : List Byte) : Nat :=
  let l := manLen m
  let body := m.take l
  let flags := bfld m 2 1
  if !manFormOk m then 1
  else if !Config.verify Config.fwKey body ((m.drop l).take 3309) then 2
  else if s.sec.countersign && s.sec.owner.isSome &&
      !(flags / 4 % 2 == 1 && Config.verify (s.sec.owner.getD []) body ((m.drop (l + 3312)).take 3309)) then 3
  else if !factoryOk s.lifecycle flags then 4
  else if (List.range 4).any fun c => manSvn m c < s.svnFloor c then 5
  else 0

/-- The images of a class. -/
def manImages (m : List Byte) (c : Nat) : List (Nat × Nat × Nat × List Byte) :=
  ((List.range (bfld m 3 1)).map (manImage m)).filter fun x => x.1 = c

/-- Every image of a class is there and has its digest (R553 step 6). -/
def manClassOk (m : List Byte) (c : Nat) : Bool :=
  manImages m c ≠ [] && (manImages m c).all fun x => shake256 ((m.drop x.2.2.1).take x.2.1) 64 = x.2.2.2

/-- The digests of a class's images, in order. -/
def manDigests (m : List Byte) (c : Nat) : List (List Byte) := (manImages m c).map fun x => x.2.2.2

/-! ### Registers of the SEC block -/

/-- SEC_LIFECYCLE (R583). -/
def State.lifeReg (s : State) : Word := BitVec.ofNat 32 (s.lifecycle + (s.sec.owner.isSome && s.sec.countersign).toNat * 8)

/-- SEC_DEBUG (R584). -/
def State.debugReg (s : State) : Word :=
  let left := match s.sec.grant with | some (_, n) => n | none => 0
  BitVec.ofNat 32 (s.debugLevel + s.sec.sinceCold.toNat * 4 + left % 256 * 8 + s.sec.invLifetime % 65536 * 2 ^ 11)

/-- SEC_SVNc (R590). -/
def State.svnReg (s : State) (c : Nat) : Word := BitVec.ofNat 32 (s.sec.mram.getD c 0 % 65536 + s.fuses.svn.getD c 0 % 128 * 65536)

/-- A write of SEC_SVNc (R554, R590): the fuse counter rises by one, in OWNED, up to the MRAM value and 64. -/
def State.wSvn (s : State) (c : Nat) (o : Origin) (dev : Nat) (v : Word) : State :=
  let fuse := s.fuses.svn.getD c 0
  let no := v.bit 31 && (s.lifecycle ≠ 2 || fuse ≥ min 64 (s.sec.mram.getD c 0))
  s.gate o dev (Reg.SEC_SVNc c) v (s.svnReg c) (dropIf no) fun s _ =>
    if v.bit 31 then { s with fuses := { s.fuses with svn := lset s.fuses.svn c (fuse + 1) } } else s

/-- SVN_BURN. -/
def execSvnBurn (o : Origin) (cls : Fin 4) (v : Word) (s : State) : Host.Outcome State Fault Refusal := .next (s.wSvn cls o 0 v)

/-- A write of SEC_EXTEND_CTL (R593). -/
def State.wExtendCtl (s : State) (o : Origin) (dev : Nat) (v : Word) : State :=
  s.gate o dev Reg.SEC_EXTEND_CTL v (s.reg Reg.SEC_EXTEND_CTL) none fun s x =>
    let s := s.keepReg Reg.SEC_EXTEND_CTL x
    let r := v.fld 0 5
    if v.bit 5 && decide (r ≥ 16) then s.extend r ((List.range 16).flatMap fun i => toBytesLE 4 (s.reg (Reg.SEC_EXTENDi i)).toNat) else s

/-- EXTEND. -/
def execExtend (o : Origin) (v : Word) (s : State) : Host.Outcome State Fault Refusal := .next (s.wExtendCtl o 0 v)

/-! ### Attestation (R557, R558, R591) -/

/-- The bytes of the DER element that a list starts with. -/
def derLen (b : List Byte) : Nat :=
  let l := bfld b 1 1
  if l < 128 then 2 + l else 2 + (l - 128) + ((b.drop 2).take (l - 128)).foldl (fun n x => 256 * n + x.toNat) 0

/-- K's certificate. -/
def State.kCert (s : State) : List Byte := s.sec.certs.drop (derLen s.sec.certs)

/-- The owner key's digest, or zero. -/
def State.ownerDigest (s : State) : List Byte := match s.sec.owner with | some k => shake256 k 64 | none => zeros 64

/-- A die record (R558). -/
def State.dieRecord (s : State) (code : Nat) : List Byte :=
  let r : DieRec := tget { status := 0, version := 0, meas := [] } s.sec.dies code
  let st := if r.status = 0 && !s.released code then 1 else r.status
  toBytesLE 1 code ++ toBytesLE 1 st ++ zeros 2 ++ toBytesLE 4 r.version ++ padTo 64 r.meas ++ shake256 (s.sec.pubKeys.getD code []) 24

/-- The signed part of a report, bytes 0 to 4,623. -/
def State.reportBody (s : State) (nonce : List Byte) (cert : Bool) : List Byte :=
  let len := 7936 + (if cert then s.kCert.length else 0)
  let flags := s.sec.sinceCold.toNat + (s.sec.owner.isSome && s.sec.countersign).toNat * 2 + cert.toNat * 4
  let ps := if s.pstate = 0 && s.idle then 1 else s.pstate
  toBytesLE 2 1 ++ zeros 2 ++ toBytesLE 4 len ++ toBytesLE 1 s.lifecycle ++ toBytesLE 1 s.debugLevel ++ toBytesLE 1 flags ++ toBytesLE 1 ps ++
  toBytesLE 2 s.sec.invLifetime ++ zeros 2 ++ toBytesLE 4 s.boot ++ toBytesLE 6 s.ticks ++ zeros 6 ++ toBytesLE 8 (Config.serial 0) ++
  toBytesLE 8 s.sec.fwVersion ++ ((List.range 4).flatMap fun c => toBytesLE 2 (s.svnFloor c)) ++ zeros 8 ++ padTo 64 nonce ++ s.ownDigest ++
  s.ownerDigest ++ toBytesLE 8 s.log.next ++ padTo 16 (s.log.last.drop 48) ++ toBytesLE 4 (s.log.next - s.log.ack) ++ zeros 4 ++
  ((List.range 32).flatMap s.meas) ++ ((List.range 23).flatMap s.dieRecord) ++
  toBytesLE 8 (Config.serial 1) ++ toBytesLE 8 (Config.serial 2) ++ toBytesLE 8 (Config.serial 3) ++ zeros 56

/-- A report, signed by K's identity key. -/
def State.report_ (s : State) (nonce : List Byte) (cert : Bool) : List Byte :=
  let b := s.reportBody nonce cert
  b ++ padTo 3309 (Config.sign dieK b) ++ zeros 3 ++ (if cert then s.kCert else [])

/-- Reports and SPDM are refused in BLANK and SCRAPPED (R557, R570). -/
def State.spdmServed (s : State) : Bool := s.lifecycle ≠ 0 && s.lifecycle ≠ 4 && s.dieUp dieK

/-- A write of SEC_ATTEST_CTL. -/
def State.wAttestCtl (s : State) (o : Origin) (dev : Nat) (v : Word) : State :=
  let off := Reg.SEC_ATTEST_CTL
  let err := fun (e : Nat) (s : State) => s.setRf off 3 2 e
  s.gate o dev off v ((s.reg off).setFld 2 1 s.sec.attest.isSome.toNat) (if v.bit 0 && s.sec.attest.isSome then some (err 3) else none) fun s x =>
    let s := s.keepReg off x
    let da := s.daReg Reg.SEC_ATTEST_ADDR_LO Reg.SEC_ATTEST_ADDR_HI
    if !v.bit 0 then s
    else if s.lifecycle = 0 ∨ s.lifecycle = 4 then err 2 s
    else if !s.keyRange da 16448 true then err 1 s
    else { s with sec := { s.sec with attest := some (da, v.bit 1, s.readMem da 64) } }

/-- ATTEST. -/
def execAttest (o : Origin) (v : Word) (s : State) : Host.Outcome State Fault Refusal := .next (s.wAttestCtl o 0 v)

/-- ATTESTATION_REPORT_COMPLETE. -/
def execAttestationReportComplete (pe : PortEv) (s : State) : Host.Outcome State Fault Refusal :=
  .next (match s.sec.attest with
    | none => s
    | some (da, cert, nonce) =>
      if !s.dieUp dieK then s
      else
        let b := (s.report_ nonce cert).take 16384
        (({ s with sec := { s.sec with attest := none } } : State).writePE (s.viewNow pe) (da + 64) b).met (s.viewNow pe) [(da + 64, b.length, true)])

/-- SEC_ATTEST_CTL. -/
def State.attestCtl (s : State) : Word := (s.reg Reg.SEC_ATTEST_CTL).setFld 2 1 s.sec.attest.isSome.toNat

/-- GET_MEASUREMENTS (R557): index 0xF0 is the report, 1 to 32 the measurement registers; another index has no block. -/
def execGetMeasurements (idx : Nat) (nonce : List Byte) (s : State) : Host.Outcome State Fault Refusal :=
  .next (if !s.spdmServed then s
    else if idx = 0xF0 then s.emit (.doe (s.report_ nonce false))
    else if 1 ≤ idx ∧ idx ≤ 32 then s.emit (.doe (s.meas (idx - 1)))
    else s.emit (.doe []))

/-- GET_CERTIFICATE (R548). -/
def execGetCertificate (s : State) : Host.Outcome State Fault Refusal := .next (if s.spdmServed then s.emit (.doe s.sec.certs) else s)

/-- SPDM_KEY_EXCHANGE (R486, R550): the exchange draws from the generator. -/
def execSpdmKeyExchange (s : State) : Host.Outcome State Fault Refusal :=
  .next (if s.spdmServed && !s.sec.rngFailed then { s.takeFree 1 with hq := { s.hq with spdm := true } } else s)

/-- ENTROPY_HEALTH_FAILURE (R550). -/
def execEntropyHealthFailure (s : State) : Host.Outcome State Fault Refusal :=
  .next (if s.dieUp dieK then ({ s with sec := { s.sec with rngFailed := true } }).raiseErr 3 0x2D dieK 0 none 3 else s)

/-- A word of a measurement register. -/
def State.measWord (s : State) (r w : Nat) : Word := BitVec.ofNat 32 (bfld (s.meas r) (4 * w) 4)

/-- A word of the identity digest. -/
def State.digestWord (s : State) (i : Nat) : Word := BitVec.ofNat 32 (bfld s.ownDigest (4 * i) 4)

end Sys2Proof.Machine
end

