-- ==== Sys2Proof/Machine/Reset.lean ====
section
/-! DEFINITION. Resets of a running device (R639 to R648): warm, fabric, single-die and link resets, and the register that asks for
them. -/

namespace Sys2Proof.Machine

/-! ### Registers (R640) -/

/-- The registers that `hit` names return to their reset values. -/
def State.resetRegs (s : State) (hit : RegDesc → Nat → Bool) : State :=
  { s with regs := s.regs.filter fun (kv : Nat × Word) => match regAt kv.1 with | some d => !hit d kv.1 | none => true }

/-- The SEC block (R10). -/
def inSec (off : Nat) : Bool := decide (0x300000 ≤ off ∧ off < 0x400000)

/-- The registers of a warm reset, and of a fabric reset; no register of the map has an RWP field. -/
def warmHit (fab : Bool) (d : RegDesc) (off : Nat) : Bool :=
  (d.dom = .warm || d.dom = .flr || d.dom = .die || d.dom = .link) &&
  !(fab && (inSec off || off == Reg.HQ_BAR4_WIN || off == Reg.HQ_DEV_STATUS))

/-! ### Memory and work (R53, R641) -/

/-- The tensor die of an address of a cell memory or die pool. -/
def sramDie (da : Nat) : Nat := da / 0x10000000 % 4096

/-- The cell memories and die pools of the dies that `p` names are written to zero with valid check bits. -/
def State.zeroSram (s : State) (p : Nat → Bool) : State :=
  let keep := fun (da : Nat) => decide (da < 0x10000000000) || !p (sramDie da)
  { s with mem := { bytes := tfilter keep s.mem.bytes, bad := tfilter keep s.mem.bad } }

/-- Queue, counters and pools of the group contexts homed here are zeroed; header and members stay (R53, R68). With KEY_GROUP_BASE.enable 0 no
context is touched. (DESIGN CHOICE, log 57) -/
def State.zeroGroups (s : State) : State :=
  match s.groupBase with
  | none => s
  | some b =>
    let live := (List.range 256).filter fun g => bitsOf (bfld (s.readMem (b + g * 0x20000 + 0x14200) 4) 0 4) 31 1 = 1
    let keep := fun (da : Nat) =>
      !(decide (b ≤ da ∧ da < b + 2 ^ 25) && decide ((da - b) % 0x20000 < 0x14200) && live.contains ((da - b) / 0x20000))
    { s with mem := { bytes := tfilter keep s.mem.bytes, bad := tfilter keep s.mem.bad } }

/-- Cells, reaches, Weirs, slots, tiled regions, placements, copies: cleared; the cells' seeds are drawn anew (R99). (DESIGN CHOICE, log 40) -/
def State.clearWork (s : State) : State :=
  { s with trg := [], trgCommit := none, reaches := [], plc := [], cells := [], moves := [], clash := [], weirs := [], slots := [], slotAct := none,
           seedBase := s.freeIdx, freeIdx := s.freeIdx + 1024 }

/-- A Confluence unit restarts (R263, R305): its jobs and weight sets are gone, its calibration stays. (DESIGN CHOICE, log 36) -/
def Cu.restart (u : Cu) : Cu :=
  let settles := match u.hold with | some h => h.enter | none => false
  { Cu.reset with characterised := u.characterised, mode := if !u.characterised then 0 else if settles then u.mode else 1,
                  hold := if settles then some (.settle true) else none, locked := u.locked, recal := u.recal,
                  swap := u.swap, badRows := u.badRows, rowMap := u.rowMap, newCal := u.newCal, loRef := u.loRef, calRow := u.calRow,
                  rowsReported := u.rowsReported, inputLost := u.inputLost, calFault := u.calFault }

/-! ### Links and ports (R642, R645) -/

/-- A Bed link that restarts: it trains in full where both its dies run, else it is DOWN. -/
def State.bedRestart (s : State) (a b : Nat) : State :=
  let s := (linkLanes a b).foldl (fun s i =>
    let l := s.lane i
    if l.state == .failed then s else s.setLane i { l with state := .dark, pos := 0, after := none }) s
  let s := s.setLink a b (s.link a b).fresh
  if s.mayTrain a b then s.bedTrain a b else s

/-- A port that restarts (R396, R398, R642): flushed; where it was not DOWN its attenuator stays open, and it trains at once if it is
enabled. (DESIGN CHOICE, log 33) -/
def State.portRestart (s : State) (p : Nat) : State :=
  let x := s.port p
  let was := x.state != .down
  let s := if x.wasLive then s.helloEvent p else s
  let s := s.portFlush p
  let y := { (s.port p).dim with state := .down, cause := if was then 1 else x.cause, txOpen := x.txOpen || was, settled := x.settled || was }
  let y := { y with grace := false, probing := false, retraining := false, changes := [], reqs := [], standbyReq := false, deepReq := false }
  let s := s.setPort p { y with peerDeep := false, replayDue := false, failTicks := [], last := none }
  if x.quiescing then ((s.quiesceFlush p).quiesced p).svcSafe (p / 8)
  else if s.portDie p && s.portEnabled p && s.bwValid p && s.portRings p && !x.quiesced && (was || (x.settled && x.light && x.txOpen)) then s.portTrain p
  else s

/-- Every request is forgotten: entries in use are quarantined, nothing waits, no flow has a request outstanding. (DESIGN CHOICE, log 32) -/
def State.fabRestart (s : State) : State :=
  let quiet := fun (x : Span) =>
    { x with trk := x.trk.map (fun (kv : Nat × TEnt) => (kv.1, if kv.2.use = .busy then kv.2.release false else kv.2)), stopped := false, taking := false }
  let s := (s.setSpan 0 (quiet (s.span 0))).setSpan 1 (quiet (s.span 1))
  let outs := s.fab.flowOut.map fun (kv : Nat × Option FlowOut) => (kv.1, kv.2.map fun f => { f with out := 0 })
  let s := { s with fab := { s.fab with flowOut := outs, tiles := [], reports := [], forceSends := 0 } }
  let s := (List.range 16).foldl State.portRestart s
  { s with fab := { s.fab with waiting := [] } }

/-! ### Warm and fabric reset (R639 to R643) -/

/-- Does a die come out of a reset: its image and quote were good, and a Weir's stack is trained (R634)? -/
def State.dieGood (s : State) (code : Nat) : Bool :=
  decide ((tget { status := 0, version := 0, meas := [] } s.sec.dies code).status < 2) &&
    !(decide (4 ≤ code) && decide (code < 20) && s.pwr.badStacks.contains (code - 4)) && !s.test.memFail.contains code

/-- A sensor of a die that restarts is valid again (R520). -/
def State.restoreSensors (s : State) (code : Nat) : State :=
  ((List.range 436).filter fun i => decide ((s.sensor i).state ≠ 0) && decide (sensorDie i = some code)).foldl (fun s i => s.setSensor i .reset) s

/-- The step of a tensor die in reset is its reset one; a change under way is dropped (R680). -/
def State.dvfsReset (s : State) (t : Nat) : State :=
  let s := s.setDvfs t none
  ({ s with nrg := { s.nrg with vcode := tset 60 s.nrg.vcode t 60 } }).setRf (Reg.NRG_DVFSt t) 8 4 8

/-- The dies held by kind 4 are released. -/
def State.releaseHeldDies (s : State) : State :=
  ((List.range 22).filter fun c => !s.released c && s.dieGood c).foldl (fun s c =>
    let s := { s with pwr := { s.pwr with up := tset false s.pwr.up c true } }
    let s := s.restoreSensors c
    if c < 4 then s.dvfsStart c else s) s

/-- SLACK is left, and an entry to a sleep state given up. -/
def State.unslack (s : State) : State :=
  let s := { s with nrg := { s.nrg with entering := none } }
  if s.pstate = 2 then
    let s := (s.setRf Reg.NRG_PSTATE 2 2 0).setRf Reg.NRG_PSTATE 0 2 0
    { s with optics := { s.optics with dimmed := false, loopsStopped := false } }
  else s

/-- What a warm reset does to the security state (R556, R572). (DESIGN CHOICE, log 40) -/
def State.warmSec (s : State) : State :=
  let s := s.dropNonce
  { s with sec := { s.sec with meas := tfilter (fun r => decide (r < 16)) s.sec.meas, token := none, attest := none } }

/-- The queues, mailboxes and doorbells as after reset; IDE streams end but for a fabric reset (R488). -/
def State.hqReset (s : State) (fab : Bool) : State := { s with hq := { Hq.reset with ide := if fab then s.hq.ide else [], spdm := fab && s.hq.spdm } }

/-- Readiness starts again: fetch waits for the links, and KEY_READY_MS is written anew (R633, R637). -/
def State.unready (s : State) : State := (s.setRb Reg.KEY_READY 21 false).setReg Reg.KEY_READY_MS (regReset Reg.KEY_READY_MS)

/-- A warm reset, or with `fab` a fabric reset. (DESIGN CHOICE, log 40) -/
def State.warm (s : State) (fab : Bool) : State :=
  let s := ((s.unslack.handoverReset 0).handoverReset 1).storeAbort []
  let s := (s.zeroGroups.clearWork.zeroSram fun _ => true).releaseHeldDies
  let s := s.resetRegs (warmHit fab)
  let s := { s with nrg := { s.nrg with ledgers := [], pool := 0, gated := [], filling := [] } }
  let s := s.hqReset fab
  let s := if fab then s else s.warmSec
  let s := { s with err := [.reset 0, .reset 1, .reset 2, .reset 3], test := { s.test with pos := [], march := none } }
  let s := { s with optics := { s.optics with calOp := none, stoppedDies := [] }, pwr := { s.pwr with due := 0, perst := if fab then s.pwr.perst else s.ticks } }
  let s := (List.range 4).foldl (fun s t => (s.setCu t (s.cu t).restart).cuMode t) s
  let s := s.fabRestart
  let s := allLinks.foldl (fun s l => s.bedRestart l.1 l.2) s
  let s := s.unready.setRf Reg.HQ_DEV_STATUS 0 2 (if fab then 3 else 1)
  ((if fab then s.devCause 2 else s).readyUpd.handoverNext 0).handoverNext 1

/-- WARM_RESET (R639, R642, R646): PERST#, hot reset or link down. Before firmware runs, the ROM starts again (R634); a latched THERMTRIP#
or a FATAL condition stays (R519, R651); in STILL it is the wake event (R508). (DEDUCED, log 18) (DESIGN CHOICE, log 40) -/
def execWarmReset (s : State) : Host.Outcome State Fault Refusal :=
  .next (if !s.pwr.started || s.pwr.fatal || s.nrg.trip.isSome || s.pstate = 3 then s
    else if !s.rb Reg.KEY_READY 1 then { s with pwr := { s.pwr with due := 2 } }
    else s.warm false)

/-! ### One die (R644) -/

/-- The reaches of a die in reset (R53, R350): queues emptied, counters zero; what waited is lost, what ran has an unknown outcome. -/
def State.resetReaches (s : State) (code : Nat) : State :=
  (s.reaches.filter fun (kv : Nat × Reach) => decide (ridLevel kv.1 < 4) && ridDie kv.1 == code).foldl (fun s (kv : Nat × Reach) =>
    let x := kv.2
    let cut := fun (y : RCmd) => if y.sent then y else { y with acted := true, done := some 8, left := 0, fail := 8 }
    s.setReach kv.1 { Reach.empty with running := (x.queue ++ x.held).map (·.settle 7) ++ x.running.map cut }) s

/-- Is a copy owned by a cell or a reach of a die? -/
def MOwner.on (o : MOwner) (code : Nat) : Bool :=
  match o with
  | .cell c _ => c / 256 == code
  | .reach r _ => decide (ridLevel r < 4) && ridDie r == code

/-- The copies of a die in reset: its own end with it; those it ran for others are lost, or have an unknown outcome. -/
def State.resetMoves (s : State) (code : Nat) : State :=
  { s with moves := (s.moves.filter fun m => !m.owner.on code).map fun m =>
      if m.die = code then { m with status := if s.moveRunning m then 8 else 7, todo := [] } else m }

/-- The Spring that lights a die's lanes (R30). -/
def dieSpring (code : Nat) : Nat := busSpring (busesOf code).1

/-- A tensor die enters reset. (DESIGN CHOICE, log 42) -/
def State.holdTensor (s : State) (t : Nat) : State :=
  let s := s.stopFill t
  let s := { s with cells := s.cells.filter fun (kv : Nat × Cell) => kv.1 / 256 ≠ t }
  let s := s.setCu t (s.cu t).restart
  let s := s.dvfsReset t
  { s with optics := { s.optics with stoppedDies := s.optics.stoppedDies ++ [t] } }

/-- A Weir enters reset (R206): what waited is lost, what ran has an unknown outcome; its issuers hear of it. (DESIGN CHOICE, log 42) -/
def State.holdWeir (s : State) (n : Nat) : State :=
  let w := s.weir n
  let q := w.queue.map fun k => ({ blk := k, regions := [], done := some 7 } : WRun)
  s.setWeir n { Weir.empty with running := q ++ w.running.map fun y => { y with done := some 8 } }

/-- A span die enters reset (R397, R437): its ports are DOWN and flushed, the requests it holds are lost. (DESIGN CHOICE, log 42) -/
def State.holdSpan (s : State) (d : Nat) : State :=
  let s := (svcPorts d).foldl (fun s p =>
    let n := (s.port p).session
    let s := s.portDown p 1
    let s := if (s.port p).session = n then s.portFlush p else s
    s.modPort p fun x => { x with light := false, settled := false, txOpen := false, probing := false }) s
  s.spanLost d

/-- A die enters reset: its Bed links are DOWN (R349); what it ran is settled. (DESIGN CHOICE, log 42) -/
def State.dieHold (s : State) (code : Nat) : State :=
  let s := s.handoverReset (dieSpring code)
  let s := (s.resetReaches code).resetMoves code
  let s := if code < 4 then s.holdTensor code else if code < 20 then s.holdWeir (code - 4) else s.holdSpan (code - 20)
  let s := s.settle.bedDieDown code
  let s := { s with pwr := { s.pwr with up := tset false s.pwr.up code false } }
  (s.devCause 3).readyUpd.handoverNext (dieSpring code)

/-- The measurement register of a die's class (R556). -/
def measReg (code : Nat) : Nat := if code < 4 then 3 else if code < 20 then 5 else 4

/-- A tensor die leaves reset: memories zero, seeds drawn, its ring loops restart, its unit settles and verifies (R264). (DESIGN CHOICE, log 42) -/
def State.freeTensor (s : State) (t : Nat) : State :=
  let s := s.zeroSram fun d => d == t
  let s : State := (List.range 256).foldl (fun (s : State) i => s.setCell (256 * t + i) { Cell.reset with seed := some (BitVec.ofNat 64 (s.freeAt i)) }) s
  let s := s.takeFree 256
  let s := { s with optics := { s.optics with stoppedDies := s.optics.stoppedDies.filter (· ≠ t) } }
  let u := s.cu t
  let s := if u.mode = 1 then s.setCu t { u with hold := some (.settle false) } else s
  (s.cuMode t).dvfsStart t

/-- A Weir leaves reset: its slot table is the keystone's, the lengths come from the page headers. -/
def State.freeWeir (s : State) (n : Nat) : State :=
  let s := s.setWeir n { s.weir n with slots := s.slots }
  (s.slots.filter fun (kv : Nat × Slot) => kv.2.active).foldl (fun s (kv : Nat × Slot) => s.relength n kv.1 kv.2) s

/-- A span die leaves reset: NORMAL, its enabled ports open their attenuators and train with a fresh start (R398). (DESIGN CHOICE, log 42) -/
def State.freeSpan (s : State) (d : Nat) : State :=
  let s := (s.normal d).setRb (Reg.Sd_PIER_STATUS d) 4 false
  (svcPorts d).foldl (fun s p =>
    let x := s.port p
    if s.portEnabled p && !x.quiesced then s.setPort p { x with txOpen := true, grace := false, last := none, cause := 1 } else s) s

/-- A held die is released: quoted (R555), restarted, its links train at once (R350). (DESIGN CHOICE, log 42) -/
def State.dieRelease (s : State) (code : Nat) (quoteOk : Bool) : State :=
  let r : DieRec := tget { status := 0, version := 0, meas := [] } s.sec.dies code
  let setSt := fun (s : State) (st : Nat) =>
    { s with sec := { s.sec with dies := tset { status := 0, version := 0, meas := [] } s.sec.dies code { r with status := st } } }
  if r.status = 3 || s.test.memFail.contains code || (decide (4 ≤ code) && decide (code < 20) && s.pwr.badStacks.contains (code - 4)) then s
  else if !quoteOk then (setSt s 2).raiseErr 2 0x2A dieK code none 0
  else
    let s := (setSt s 0).extend (measReg code) r.meas
    let s := { s with pwr := { s.pwr with up := tset false s.pwr.up code true } }
    let s := s.restoreSensors code
    let s := if code < 4 then s.freeTensor code else if code < 20 then s.freeWeir (code - 4) else s.freeSpan (code - 20)
    (s.bedDieUp code).readyUpd

/-! ### KEY_RESET_CTL (R643, R646 to R648) -/

/-- Set KEY_RESET_STATUS.error. (DESIGN CHOICE, log 42) -/
def resetErr (e : Nat) : State → State := fun s => s.setRf Reg.KEY_RESET_STATUS 23 3 e

/-- Why a reset is refused (R643, R646 to R648); 0 where it is accepted. (DESIGN CHOICE, log 54) -/
def State.resetCheck (s : State) (o : Origin) (v : Word) : Nat :=
  let kind := v.fld 0 3
  let die := v.fld 3 5
  let dst := v.fld 8 5
  if kind = 0 ∨ kind = 2 then 0
  else if s.nrg.trip.isSome then 4
  else if s.pwr.due ≠ 0 then 3
  else if kind = 3 && o ≠ .fabric then 1
  else if kind ≥ 3 && s.asleep then 2
  else if (kind = 4 || kind = 7) && die ≥ 22 then 5
  else if kind = 4 && !s.released die then 3
  else if kind = 7 && s.released die then 5
  else if kind = 5 && !linkExists die dst then 5
  else if kind = 5 && (!s.released die || !s.released dst) then 3
  else if kind = 6 && !s.released (dieS (v.fld 13 4 / 8)) then 3
  else 0

/-- The effect of an accepted reset; cold and fabric resets are due. -/
def State.resetAct (s : State) (v : Word) (quoteOk : Bool) : State :=
  let die := v.fld 3 5
  match v.fld 0 3 with
  | 1 => { s with pwr := { s.pwr with due := 1 } }
  | 3 => { s with pwr := { s.pwr with due := 3 } }
  | 4 => s.dieHold die
  | 5 =>
    let s := s.bedDown die (v.fld 8 5)
    if s.mayTrain die (v.fld 8 5) then s.bedTrain die (v.fld 8 5) else s
  | 6 => s.portRestart (v.fld 13 4)
  | 7 => s.dieRelease die quoteOk
  | _ => s

/-- A write of KEY_RESET_CTL. Kind 7 quotes the die: `quoteOk` says whether its quote verifies. -/
def State.wResetCtl (s : State) (o : Origin) (dev : Nat) (v : Word) (quoteOk : Bool) : State :=
  let off := Reg.KEY_RESET_CTL
  let e := s.resetCheck o v
  let own := if v.fld 24 8 ≠ 0xC3 then some (counted Reg.KEY_RSVD_WRITES) else if e ≠ 0 then some (resetErr e) else none
  s.gate o dev off v 0 own fun s _ =>
    let kind := v.fld 0 3
    let s := if kind = 0 ∨ kind = 2 then s else s.setRf Reg.KEY_RESET_STATUS 26 3 kind
    s.resetAct v quoteOk

/-- KEY_RESET_STATUS: the dies in reset, busy while a cold or fabric reset is due. -/
def State.resetStatus (s : State) : Word :=
  let held := ((List.range 22).map fun c => if s.released c then 0 else 2 ^ c).foldl (· + ·) 0
  BitVec.ofNat 32 (held + (decide (s.pwr.due ≠ 0)).toNat * 2 ^ 22 + s.rf Reg.KEY_RESET_STATUS 23 3 * 2 ^ 23 + s.rf Reg.KEY_RESET_STATUS 26 3 * 2 ^ 26)

/-- FABRIC_RESET (R434, R643): the confirmed write of kind 3; the reset takes effect 100 µs later, where the write left it due. (DESIGN CHOICE, log 40) -/
def execFabricReset (o : Origin) (v : Word) (s : State) : Host.Outcome State Fault Refusal :=
  .next (let t := if s.pwr.due = 3 then s else s.wResetCtl o 0 v true
    if t.pwr.due = 3 && t.dieUp dieK && !t.asleep then t.warm true else t)

/-- DIE_HOLD. -/
def execDieHold (o : Origin) (v : Word) (s : State) : Host.Outcome State Fault Refusal := .next (s.wResetCtl o 0 v true)

/-- DIE_RELEASE. (DESIGN CHOICE, log 22) -/
def execDieRelease (o : Origin) (v : Word) (quoteOk : Bool) (s : State) : Host.Outcome State Fault Refusal := .next (s.wResetCtl o 0 v quoteOk)

/-- BED_LINK_RESET. -/
def execBedLinkReset (o : Origin) (v : Word) (s : State) : Host.Outcome State Fault Refusal := .next (s.wResetCtl o 0 v true)

/-- PORT_RESET. -/
def execPortReset (o : Origin) (v : Word) (s : State) : Host.Outcome State Fault Refusal := .next (s.wResetCtl o 0 v true)

end Sys2Proof.Machine
end

