-- ==== Sys2Proof/Machine/Errors.lean ====
section
/-! DEFINITION. Error FIFOs as software sees them (R655, R656, R666 to R668), the transparent test, the march engines and the spare rows
(R657 to R661, R669 to R671). -/

namespace Sys2Proof.Machine

/-! ### The error FIFOs -/

/-- The FIFO selected in KEY_ERR_SEL. -/
def State.errSel (s : State) : Nat := s.rf Reg.KEY_ERR_SEL 0 2

/-- KEY_ERR_FIFO_STATUS (R668). -/
def State.errStatus (s : State) : Word :=
  let f := s.fifo s.errSel
  BitVec.ofNat 32 (f.recs.length + f.overflow * 65536)

/-- KEY_ERR_RECi (R655): word i of the oldest record; zero where the FIFO is empty. -/
def State.errRec (s : State) (i : Nat) : Word :=
  match (s.fifo s.errSel).recs with
  | [] => 0
  | r :: _ => BitVec.ofNat 32 (bfld r.toBytes (4 * i) 4)

/-- A write of KEY_ERR_FIFO_CFG: each FIFO keeps its own; a new threshold alone sends no message (R656). (DESIGN CHOICE, log 46) -/
def State.wErrCfg (s : State) (o : Origin) (dev : Nat) (v : Word) : State :=
  let k := s.errSel
  s.gate o dev Reg.KEY_ERR_FIFO_CFG v (s.fifo k).cfg none fun s x =>
    let f := { s.fifo k with cfg := x }
    s.setFifo k { f with raised := decide (f.recs.length ≥ f.threshold) }

/-- A write of KEY_ERR_POP: the oldest record goes where its seq is the value written (R655). -/
def State.wErrPop (s : State) (o : Origin) (dev : Nat) (v : Word) : State :=
  let k := s.errSel
  s.gate o dev Reg.KEY_ERR_POP v 0 none fun s _ =>
    let f := s.fifo k
    match f.recs with
    | r :: t => if r.seq = v then (s.setFifo k { f with recs := t }).fifoIrq k else s.bump Reg.KEY_RSVD_WRITES
    | [] => s.bump Reg.KEY_RSVD_WRITES

/-- ERROR_POP. -/
def execErrorPop (o : Origin) (v : Word) (s : State) : Host.Outcome State Fault Refusal := .next (s.wErrPop o 0 v)

/-! ### Spare rows (R658, R661, R664) -/

/-- The spare rows of a bank: 8 in a cell memory, 32 in a die pool (R661). -/
def spareRows (code : Nat) : Nat := if code = 256 then 32 else 8

/-- The key of a bank in the table of spare rows used. -/
def spareKey (die code bank : Nat) : Nat := 2 ^ 20 * die + 64 * code + bank

/-- A repair record of an SRAM row (R663, R664). -/
def State.sramRepair (s : State) (die code bank row repl : Nat) : State :=
  s.storePush (.repair { kind := 1, die, element := code + bank * 1024 + row % 65536 * 65536, replacement := repl, boot := s.boot,
                         ticks := s.ticks % 2 ^ 48, extra := [] })

/-- The row is remapped to the next free spare: the use is counted, recorded and reported. -/
def State.useSpare (s : State) (die code bank row : Nat) : State :=
  let k := spareKey die code bank
  let n := tget 0 s.test.spares k
  let s := { s with test := { s.test with spares := tset 0 s.test.spares k (n + 1) } }
  (s.sramRepair die code bank row n).raiseErr 0 0x2E die code none 0

/-- A failing word of a cell memory or die pool: repaired, or reported without a spare. The saved bits are restored either way. -/
def State.sramFault (s : State) (die code bank row : Nat) : State :=
  if tget 0 s.test.spares (spareKey die code bank) < spareRows code then s.useSpare die code bank row
  else s.raiseErr 2 0x2F die code none 0

/-- The memory code, bank and row of an address of a cell memory or die pool (R166, R664). -/
def sramPlace (da : Nat) : Nat × Nat × Nat :=
  if da < 0x20000000000 then (256, bankOf da, da % 0x10000000 / 8192)
  else (da % 0x10000000 / 0x100000, bankOf da, da % 0x20000 / 128)

/-- KEY_REPAIR_STATUS (R671). -/
def State.repairStatus (s : State) : Word :=
  let soft := (s.test.spares.map fun (kv : Nat × Nat) => kv.2).foldl (· + ·) 0 + s.test.hbmRows
  let out := (s.test.spares.filter fun (kv : Nat × Nat) => decide (kv.1 / 64 % 1024 ≤ 256) && decide (kv.2 ≥ spareRows (kv.1 / 64 % 1024))).length
  BitVec.ofNat 32 (min 0xFFFF soft + min 255 out * 65536 + s.rf Reg.KEY_REPAIR_STATUS 24 1 * 2 ^ 24)

/-! ### The transparent test (R657 to R659) -/

/-- The start of region k of a tensor die: its pool, then its cell memories, in ascending DA. (DESIGN CHOICE, log 47) -/
def testRegion (t k : Nat) : Nat :=
  if k < 32768 then 0x10000000000 + t * 0x10000000 + k * 4096
  else 0x20000000000 + t * 0x10000000 + (k - 32768) * 4096

/-- TRANSPARENT_TEST_REGION: the next region of Tt is tested; `failing` names the bank words (0 to 31) that fail. No value changes. -/
def execTransparentTestRegion (t : Fin 4) (failing : List Nat) (pe : PortEv) (s : State) : Host.Outcome State Fault Refusal :=
  let t := t.val
  .next (if !s.dieUp t || s.asleep || !s.rb Reg.KEY_TEST_CTL 0 then s
    else
      let k := tget 0 s.test.pos t
      let da := testRegion t k
      let s := ((s.meet pe da 4096).eccRead da 4096).met (s.viewNow pe) [(da, 4096, true)]
      let s := ((List.range 32).filter failing.contains).foldl (fun (s : State) w =>
        let p := sramPlace (da + 128 * w)
        s.sramFault t p.1 p.2.1 p.2.2) s
      { s with test := { s.test with pos := tset 0 s.test.pos t ((k + 1) % 98304) } })

/-- A write of KEY_TEST_CTL: a period of 0 leaves the field unchanged (R669). -/
def State.wTestCtl (s : State) (o : Origin) (dev : Nat) (v : Word) : State :=
  let off := Reg.KEY_TEST_CTL
  let v := if v.fld 1 8 = 0 then v.setFld 1 8 (s.rf off 1 8) else v
  s.gate o dev off v (s.reg off) none fun s x => s.keepReg off x

/-! ### March passes (R660, R670) -/

/-- The die that owns a target. -/
def marchDie (target : Nat) : Nat := if target = 0 then dieK else if target < 5 then target - 1 else dieS (target - 5)

/-- A unit is held on its fallback (R660), reported by the march's own record. -/
def State.calFail (s : State) (t : Nat) : State := (s.setCu t { s.cu t with calFault := true, rowsReported := true }).cuMode t

/-- A fault of a target without a spare. (DESIGN CHOICE, log 47) -/
def State.marchDead (s : State) (target : Nat) : State :=
  if target = 0 then s.raiseErr 3 0x2D dieK 0 none 2
  else
    let s := s.raiseErr 2 0x2F (marchDie target) (512 + target) none 0
    if target < 5 then s.calFail (target - 1)
    else
      let d := marchDie target
      let s := { s with test := { s.test with memFail := if s.test.memFail.contains d then s.test.memFail else s.test.memFail ++ [d] } }
      if s.released d then s.dieHold d else s

/-- A fault that a pass found: whether a spare row is free is the part's, and left open. (DESIGN CHOICE, log 47) -/
def State.marchFault (s : State) (target bank row : Nat) : State :=
  let has := s.freeVal % 2 == 1
  let s := s.takeFree 1
  if has then s.useSpare (marchDie target) (512 + target) bank row else s.marchDead target

/-- Set KEY_MARCH_CTL.error. -/
def marchErr (e : Nat) : State → State := fun s => s.setRf Reg.KEY_MARCH_CTL 6 2 e

/-- May a pass run (R660)? The owning die must run. (DESIGN CHOICE, log 47) -/
def State.marchOk (s : State) (target : Nat) (destr : Bool) : Bool :=
  s.released (marchDie target) && !s.asleep &&
  (!destr ||
    (if target = 0 then false
     else if target < 5 then
       let u := s.cu (target - 1)
       u.mode == 2 && u.queue == [] && u.job.isNone
     else
       let d := target - 5
       (List.range 8).all (fun i => !s.portEnabled (8 * d + i)) && (s.span d).inUse == 0))

/-- A write of KEY_MARCH_CTL. -/
def State.wMarchCtl (s : State) (o : Origin) (dev : Nat) (v : Word) : State :=
  let off := Reg.KEY_MARCH_CTL
  let own := if v.bit 4 && s.test.march.isSome then some (marchErr 3) else none
  s.gate o dev off v ((s.reg off).setFld 5 1 s.test.march.isSome.toNat) own fun s x =>
    let s := s.keepReg off x
    let target := v.fld 0 3
    if !v.bit 4 || target = 7 then s
    else if !s.marchOk target (v.bit 3) then marchErr 2 s
    else { s with test := { s.test with march := some (target, v.bit 3) } }

/-- MARCH_PASS. -/
def execMarchPass (o : Origin) (v : Word) (s : State) : Host.Outcome State Fault Refusal := .next (s.wMarchCtl o 0 v)

/-- KEY_MARCH_CTL. -/
def State.marchCtl (s : State) : Word := (s.reg Reg.KEY_MARCH_CTL).setFld 5 1 s.test.march.isSome.toNat

/-- What a destructive pass leaves: calibration memory that waits for a load, or an empty tracker. -/
def State.marchWipe (s : State) (target : Nat) : State :=
  if target < 5 then (s.setCu (target - 1) { s.cu (target - 1) with characterised := false }).cuMode (target - 1)
  else s.setSpan (target - 5) { s.span (target - 5) with trk := [] }

/-- MARCH_PASS_COMPLETE: the faults (bank, row) that the pass found. -/
def execMarchPassComplete (faults : List (Nat × Nat)) (s : State) : Host.Outcome State Fault Refusal :=
  .next (match s.test.march with
    | none => s
    | some (target, destr) =>
      if !s.dieUp (marchDie target) then s
      else
        let s := { s with test := { s.test with march := none } }
        let s := s.setRf Reg.KEY_MARCH_CTL 8 8 (min 255 faults.length)
        let s := if destr && target ≠ 0 then s.marchWipe target else s
        faults.foldl (fun (s : State) f => s.marchFault target f.1 f.2) s)

end Sys2Proof.Machine
end

