-- ==== Sys2Proof/Machine/Start.lean ====
section
/-! DEFINITION. Power-up and the start sequence (R626 to R638): the PWRGOOD inputs, the loss of power, the COLD reset with its scan of the
store, the boot chain and the release of the dies. -/

namespace Sys2Proof.Machine

/-! ### Power (R626, R628, R629) -/

/-- The inputs that a PWRGOOD input asserts after: 0 AO, 1 KEY, 2 CORE, 3 HBM, 4 OPT. -/
def pwrAfter : Nat → List Nat
  | 1 => [0] | 2 => [1] | 3 => [1] | 4 => [2, 3] | _ => []

/-- Act on every input whose predecessors have asserted. -/
def Pwr.settle (p : Pwr) : Pwr :=
  (List.range 5).foldl (fun p g =>
    if tget false p.early g && (pwrAfter g).all (tget false p.good) then
      { p with good := tset false p.good g true, early := tset false p.early g false }
    else p) p

/-- PWRGOOD_ASSERT: acted on once the inputs it follows have asserted. (DESIGN CHOICE, log 9) (DESIGN CHOICE, log 50) -/
def execPwrgoodAssert (g : Fin 5) (s : State) : Host.Outcome State Fault Refusal :=
  .next (if tget false s.pwr.good g then s
    else { s with pwr := ({ s.pwr with early := tset false s.pwr.early g true } : Pwr).settle })

/-- An input deasserts: those that follow it count again once it is back. -/
def Pwr.drop (p : Pwr) (g : Nat) : Pwr :=
  let lost := fun (i : Nat) => i == g || (pwrAfter i).any fun j => j == g || (pwrAfter j).any fun k => k == g || (pwrAfter k).contains g
  let back := (List.range 5).filter fun i => i ≠ g && lost i && tget false p.good i
  let p := { p with good := p.good.filter (fun (kv : Nat × Bool) => !lost kv.1), early := tset false p.early g false }
  back.foldl (fun p i => { p with early := tset false p.early i true }) p

/-- The device with nothing volatile left: the fuses, the MRAM, the always-on domain and the model's own fields stay. (DESIGN CHOICE, log 41) -/
def State.blank (s : State) : State :=
  let r := { State.reset with pending := s.pending, freeIdx := s.freeIdx, opNext := s.opNext, outbox := s.outbox, fuses := s.fuses, ticks := s.ticks }
  let m := s.store.mram
  let sec := { Sec.reset with owner := m.owner, countersign := m.countersign, keysErased := s.sec.keysErased, pubKeys := s.sec.pubKeys,
                              certs := s.sec.certs, invLifetime := m.invLifetime, grant := m.grant, mram := m.floors }
  let nrg := { Nrg.reset with trip := s.nrg.trip, tripPending := s.nrg.tripPending, fallback := s.nrg.fallback }
  { r with store := { Store.blank with mram := m, life := m.life, res := m.res }, sec, nrg, pwr := { s.pwr with up := [], fatal := false, faultPin := false },
           test := { Test.reset with rowErrs := s.test.rowErrs } }

/-- PWRGOOD_LOSS: AO and KEY make a power cut; another input, while the device runs, a FATAL record (R628). -/
def execPwrgoodLoss (g : Fin 5) (s : State) : Host.Outcome State Fault Refusal :=
  .next (if !tget false s.pwr.good g then { s with pwr := { s.pwr with early := tset false s.pwr.early g false } }
    else
      let s := { s with pwr := s.pwr.drop g }
      if g.val < 2 then
        let s := s.storeCut.blank
        let s := { s with pwr := { s.pwr with started := false, due := 0, lost := true, carried := none } }
        if g.val = 0 then { s with ticks := 0, nrg := { s.nrg with trip := none, fallback := false } } else s
      else if s.dieUp dieK then s.raiseErr 3 0x2D dieK 0 none 0
      else s)

/-! ### The scan of the store (R600, R601, R608, R620) -/

/-- The area of a slot left unfinished. -/
def Torn.area : Torn → Nat
  | .snap _ => 5 | .hs _ => 8 | .log _ => 9 | .rotated a => a | .pair => 2 | .appended a => a

/-- Is an unfinished slot rewritten from its committed twin? -/
def Mram.twin (m : Mram) : Torn → Bool
  | .snap b => if b then m.snapA.isSome else m.snapB.isSome
  | .hs b => (tget none m.hs b).isSome
  | .pair => true
  | _ => false

/-- Rewrite a torn snapshot from its twin. -/
def Mram.mend (m : Mram) : Torn → Mram
  | .snap true => { m with snapB := m.snapA }
  | .snap false => { m with snapA := m.snapB }
  | _ => m

/-- The first power-up of a part that is BLANK. -/
def State.firstEver (s : State) : Bool := s.fuses.lifecycle == 0 && !s.store.mram.formatted

/-- Repair or discard every slot that a power cut left unfinished. (DESIGN CHOICE, log 48) -/
def State.scanTorn (s : State) : State :=
  let m := s.store.mram
  let fix := m.torn.filter m.twin
  let bad := m.torn.filter fun t => !m.twin t
  let s := s.modMram fun m => { fix.foldl Mram.mend m with torn := [] }
  let s := (s.setRf Reg.KEY_PST_SCAN 0 8 (min 255 bad.length)).setRf Reg.KEY_PST_SCAN 8 8 (min 255 fix.length)
  match bad with
  | [] => s
  | t :: _ => s.raiseErr 0 0x26 dieK t.area none 0

/-- A store without a header is reset: expected at the first power-up in BLANK, else reported. -/
def State.scanFormat (s : State) : State :=
  if s.store.mram.formatted then s
  else
    let first := s.firstEver
    let s := s.storeReset
    if first then s else ((s.setRb Reg.KEY_PST_SCAN 16 true).setRb Reg.KEY_REPAIR_STATUS 24 true).raiseErr 2 0x2A dieK 0 none 0

/-- The log as the scan finds it. -/
def State.scanLog (s : State) : State :=
  let m := s.store.mram
  let last := match m.maxLsn with | some h => tget [] m.log (h % logSlots) | none => []
  let s := s.setReg Reg.LOG_ACK_HI (BitVec.ofNat 32 (m.ack / 2 ^ 32))
  { s with log := { next := match m.maxLsn with | some h => h + 1 | none => 0, ack := m.ack, last, slots := m.log, unlogged := m.unlogged, held := [] } }

/-- Entry 0 at the first power-up; a GAP where reserved numbers were not found; the reservation goes on. -/
def State.scanGap (s : State) (first : Bool) : State :=
  let m := s.store.mram
  if first then s.logPut (originCode .factory) 2 Reg.LOG_NEXT_LO (toBytesLE 4 14 ++ toBytesLE 4 0)
  else
    match m.maxLsn with
    | some h =>
      if h + 1 < m.res then
        let s := { s with log := { s.log with next := m.res } }
        let s := s.logPut (originCode .autonomous) 5 0 (toBytesLE 8 (h + 1) ++ toBytesLE 8 (m.res - 1))
        s.setRb Reg.KEY_PST_SCAN 26 true
      else s.reserve
    | none => s.reserve

/-- The boot count rises and is committed, or queued while the gate is closed (R613). -/
def State.bootCount (s : State) : State :=
  let n := s.boot + 1
  let s := { s with store := { s.store with life := tset 0 s.store.life 0 n } }
  if s.gateOpen then s.modMram fun m => { m with life := tset 0 m.life 0 n } else s.storePush (.bootCount n)

/-- The debug grant is applied and lowered, or cleared; not while the gate is closed (R566, R613). -/
def State.applyGrant (s : State) : State :=
  if !s.gateOpen then s
  else
    match s.sec.grant with
    | some (l, n + 1) => (({ s with sec := { s.sec with grant := some (l, n) } }).setLevel l).pushFloors
    | some (_, 0) => s.clearGrant
    | none => s

/-- A trip recorded before is committed: to the log with its ticks, as a record of code 0x2D, to the fault history, and counted (R519, R611,
R652). (DESIGN CHOICE, log 41) (DESIGN CHOICE, log 46) -/
def State.tripCommit (s : State) : State :=
  match s.nrg.tripPending with
  | none => s
  | some (i, t) =>
    let now := s.ticks
    let s := ({ s with ticks := t }).logEvent .autonomous 3 Reg.NRG_THERM_CFG i
    let s := { s with ticks := now, nrg := { s.nrg with tripPending := none } }
    let r : ErrRec := { seq := s.errSeq, sev := 3, code := 0x2D, source := dieK, merged := false, unit := 0, boot := s.boot, ticks := t % 2 ^ 48, count := 1,
                        addr := none, detail := 1 }
    let f := s.fifo 3
    let s := { s.setFifo 3 { f with recs := f.recs ++ [r] } with errSeq := s.errSeq + 1 }
    (((s.aer 3).fifoIrq 3).storePush (.repair (faultRec r))).lifeAdd 12 1

/-- The spare rows that recorded repairs take (R661, R664). -/
def softRows (l : List RepairRec) : Tab Nat :=
  (l.filter (·.kind = 1)).foldl (fun t r =>
    let k := 2 ^ 20 * r.die + 64 * (r.element % 1024) + r.element / 1024 % 64
    tset 0 t k (tget 0 t k + 1)) []

/-! ### The boot chain (R551 to R556) -/

/-- The class of a die. -/
def dieClass (code : Nat) : Nat := if code < 4 then 1 else if code < 20 then 3 else if code < 22 then 2 else 0

/-- The digest that a die of a class measures. -/
def manDigest (m : List Byte) (c : Nat) : List Byte := (manDigests m c).headD []

/-- Put a die record. -/
def State.setDie (s : State) (code st : Nat) (m : List Byte) : State :=
  let c := dieClass code
  let r : DieRec := { status := st, version := manSvn m c, meas := if st = 3 then [] else manDigest m c }
  { s with sec := { s.sec with dies := tset { status := 0, version := 0, meas := [] } s.sec.dies code r } }

/-- A die is loaded, quoted and released; or it stays in reset (R553, R555, R634). -/
def State.bootDie (s : State) (m : List Byte) (code : Nat) : State :=
  if !manClassOk m (dieClass code) then s.setDie code 3 m
  else if s.pwr.badQuotes.contains code then (s.setDie code 2 m).raiseErr 2 0x2A dieK code none 0
  else
    let s := (s.setDie code 0 m).extend (measReg code) (manDigest m (dieClass code))
    if (decide (4 ≤ code) && decide (code < 20) && s.pwr.badStacks.contains (code - 4)) || s.test.memFail.contains code then s
    else { s with pwr := { s.pwr with up := tset false s.pwr.up code true } }

/-- A class whose image is refused raises one record (R553). -/
def State.classErr (s : State) (m : List Byte) (c first : Nat) : State := if manClassOk m c then s else s.raiseErr 2 0x2A dieK first none 0

/-- The factors and floors (R515): carried across a COLD reset without power loss, else from the store. (DESIGN CHOICE, log 41) -/
def State.loadEnergy (s : State) : State :=
  let m := s.store.mram
  let (c, f) := match s.pwr.carried with | some x => x | none => if m.energyValid then (m.corr, m.nrgFloors) else ([], [])
  { s with nrg := { s.nrg with corr := c, floors := f, u := Config.fusedStatic } }

/-- With every die released by a manifest that asks for it, the counters rise to its versions (R554). -/
def State.commitSvn (s : State) (m : List Byte) : State :=
  if bfld m 2 1 % 2 = 1 && (List.range 22).all s.released then
    ({ s with sec := { s.sec with mram := (List.range 4).map fun c => max (s.sec.mram.getD c 0) (manSvn m c) } }).pushFloors
  else s

/-- The firmware of an accepted manifest runs: the dies are quoted and released, their memories are zero, the stacks are trained with the
recorded rows repaired (R631, R662). (DESIGN CHOICE, log 41) -/
def State.runFirmware (s : State) (m : List Byte) (source : Nat) : State :=
  let cls := ((List.range 4).map fun c => if manClassOk m c then 2 ^ c else 0).foldl (· + ·) 0
  let bad := decide (cls ≠ 15)
  let s := s.setReg Reg.SEC_BOOT_STATUS (BitVec.ofNat 32 (source + 4 + cls * 8 + (if bad then 6 else 0) * 2 ^ 7))
  let s := s.logAuto .autonomous 1 Reg.SEC_BOOT_STATUS (objectValue [] (m.take (manLen m)))
  let s := s.extend 1 (m.take (manLen m))
  if !manClassOk m 0 then { s with sec := { s.sec with romWaits := true } }
  else
    let s := (s.setDie dieK 0 m).extend 2 (manDigest m 0)
    let s := { s with sec := { s.sec with romWaits := false, fwVersion := bfld m 8 8 }, pwr := { s.pwr with up := tset false s.pwr.up dieK true } }
    let s := (s.loadEnergy.setReady 1 true).setReady 20 true
    let s := ((s.classErr m 1 0).classErr m 2 20).classErr m 3 4
    let s : State := s.pwr.badStacks.foldl (fun (s : State) n => if n < 16 then s.raiseErr 2 0x2A dieK (dieW n) none 0 else s) s
    let s : State := ([0, 1, 2, 3, 20, 21] ++ (List.range 16).map (· + 4)).foldl (fun (t : State) c => t.bootDie m c) s
    let fixed := s.store.mram.repairs.filter fun (r : RepairRec) => r.kind = 2
    let rows := s.test.rowErrs.filter fun (kv : Nat × Option (Nat × Nat)) => !fixed.any fun r => kv.1 == (r.die - 4) * 2 ^ 30 + r.element
    let s := { s with test := { s.test with rowErrs := rows, hbmRows := (fixed.filter fun (r : RepairRec) => !s.pwr.badStacks.contains (r.die - 4)).length }, seedBase := s.freeIdx, freeIdx := s.freeIdx + 1024 }
    ((s.commitSvn m).readyUpd)

/-- A manifest is offered: a refusal shows the first step that fails, and the ROM waits for a host address (R551, R553). (DESIGN CHOICE, log 41) -/
def State.offer (s : State) (m : Option (List Byte)) (source : Nat) : State :=
  match m with
  | none => { s with sec := { s.sec with romWaits := true } }
  | some b =>
    let e := s.manCheck b
    if e = 0 then s.runFirmware b source
    else
      let s := (s.setRf Reg.SEC_BOOT_STATUS 7 4 e).setRb Reg.SEC_BOOT_STATUS 2 false
      { s with sec := { s.sec with romWaits := true } }

/-! ### The COLD reset (R630, R631) -/

/-- The ROM from its first step: `count` is false where it starts again before its firmware ran (R634). (DESIGN CHOICE, log 41) -/
def State.romStart (s : State) (count small : Bool) : State :=
  let lost := s.pwr.lost
  let open_ := lost || s.gateOpen
  let level := s.sec.level
  let flag := s.sec.sinceCold
  let s := if s.pwr.started then s.storeCut else s
  let carried := if lost then none else some (s.nrg.corr, s.nrg.floors)
  let was := s.pwr
  let s := s.blank
  let s := { s with pwr := { s.pwr with started := true, due := 0, lost := false, carried := if count then carried else was.carried, perst := s.ticks },
                    fuses := { s.fuses with smallFabric := small } }
  let s := (s.setRb Reg.KEY_PST_STATUS 1 open_).extend 0 Config.romDigest
  let first := s.firstEver
  let s := s.scanTorn.scanFormat.scanLog
  let s := if count then s.bootCount else s
  let s := if count then s.applyGrant else { s with sec := { s.sec with level, sinceCold := flag } }
  let s := (s.scanGap first).tripCommit
  let s := { s with test := { s.test with spares := softRows s.store.mram.repairs } }
  let s := (s.setRb Reg.KEY_PST_STATUS 0 true).extend 6 (toBytesLE 1 s.lifecycle ++ s.ownerDigest)
  s.setReady 0 true

/-- Is the identity area missing outside BLANK (R601)? Then nothing is released. -/
def State.noIdentity (s : State) : Bool := s.fuses.lifecycle ≠ 0 && !s.store.mram.identity

/-- COLD_RESET: at power-up, with every rail good, when PERST# is released; or one that is due. `manifest` is what the SPI flash holds,
`badQuotes` the dies whose quote fails, `badStacks` the stacks whose training fails, `marchFaults` the faults (target, bank, row) that the march
of R660 finds. (DESIGN CHOICE, log 5) (DESIGN CHOICE, log 9) (DESIGN CHOICE, log 41) -/
def execColdReset (manifest : Option (List Byte)) (smallFabric : Bool) (badQuotes badStacks : List Nat) (marchFaults : List (Nat × Nat × Nat)) (s : State) :
    Host.Outcome State Fault Refusal :=
  let rails := (List.range 5).all (tget false s.pwr.good)
  .next (if !rails || s.nrg.trip.isSome || (s.pwr.started && s.pwr.due ≠ 1 && s.pwr.due ≠ 2) then s
    else
      let s := s.romStart (s.pwr.due ≠ 2) smallFabric
      let s := { s with pwr := { s.pwr with badQuotes, badStacks } }
      let s := marchFaults.foldl (fun (s : State) f => s.marchFault f.1 f.2.1 f.2.2) s
      if s.pwr.fatal then s
      else if s.noIdentity then (s.setRb Reg.KEY_PST_SCAN 17 true).raiseErr 2 0x2A dieK 1 none 0
      else
        -- a manifest in the flash that is refused leaves the ROM waiting for the host
        s.offer manifest 1)

/-- A write of SEC_FW_ADDR_LO (R551, R589): while the ROM waits, the manifest at that host address is fetched (`none`: the read fails). -/
def State.wFwAddr (s : State) (o : Origin) (dev : Nat) (v : Word) (image : Option (List Byte)) : State :=
  s.gate o dev Reg.SEC_FW_ADDR_LO v (s.reg Reg.SEC_FW_ADDR_LO) none fun s x =>
    let s := s.keepReg Reg.SEC_FW_ADDR_LO x
    if s.sec.romWaits && v.toNat % 4096 = 0 && image.isSome then s.offer image 2 else s

/-- FW_FETCH. (DESIGN CHOICE, log 22) -/
def execFwFetch (o : Origin) (v : Word) (image : Option (List Byte)) (s : State) : Host.Outcome State Fault Refusal := .next (s.wFwAddr o 0 v image)

end Sys2Proof.Machine
end

