-- ==== Sys2Proof/Machine/Sleep.lean ====
section
/-! DEFINITION. SLACK and STILL (R504 to R508, R531): the request, the drain, the two sleep states, and the way out of each. -/

namespace Sys2Proof.Machine

/-- SLACK is left (R304, R506): lasers at full power, loops running, Bed links and ports wake. (DESIGN CHOICE, log 38) -/
def State.slackExit (s : State) : State :=
  if s.pstate = 2 then
    let s := s.setRf Reg.NRG_PSTATE 2 2 0
    let s := { s with optics := { s.optics with dimmed := false, loopsStopped := false } }
    let s := s.bedUnpark
    ((List.range 16).foldl (fun (s : State) p => if (s.port p).state == .deep && s.portDie p then s.portWake p else s) s).readyUpd
  else s

/-- An entry is given up, or SLACK is left: the device is ACTIVE, and handovers that waited go on (R292). -/
def State.toActive (s : State) : State := ((({ s with nrg := { s.nrg with entering := none } }).slackExit).handoverNext 0).handoverNext 1

/-- A write of NRG_PSTATE: request 1 is ignored, as is another request than 0 during an entry (R505, R531). -/
def State.wPstate (s : State) (o : Origin) (dev : Nat) (v : Word) : State :=
  let off := Reg.NRG_PSTATE
  let req := v.fld 0 2
  let bad := req = 1 || (s.nrg.entering.isSome && req ≠ 0)
  s.gate o dev off v s.pstateWord (if bad then some (nrgErr 4) else none) fun s x =>
    let s := s.setReg off ((x.setFld 2 2 s.pstate).setFld 5 1 0)
    if req = 0 then s.toActive
    else if s.pstate = req then s
    else { s with nrg := { s.nrg with entering := some req } }

/-- PSTATE_SLACK. (DESIGN CHOICE, log 38) -/
def execPstateSlack (o : Origin) (v : Word) (s : State) : Host.Outcome State Fault Refusal := .next (s.wPstate o 0 v)

/-- PSTATE_STILL. (DESIGN CHOICE, log 38) -/
def execPstateStill (o : Origin) (v : Word) (s : State) : Host.Outcome State Fault Refusal := .next (s.wPstate o 0 v)

/-- PSTATE_ACTIVE. -/
def execPstateActive (o : Origin) (v : Word) (s : State) : Host.Outcome State Fault Refusal := .next (s.wPstate o 0 v)

/-- Nothing is queued or running, no request is outstanding, no handover is under way, and the windows of the ports are empty
(R375, R505 step 2). -/
def State.drained (s : State) : Bool :=
  s.reaches.all (fun (kv : Nat × Reach) => kv.2.queue = [] && kv.2.held = [] && kv.2.running = []) &&
  s.weirs.all (fun (kv : Nat × Weir) => kv.2.queue = [] && kv.2.running = []) &&
  (List.range 2).all (fun d => (s.span d).trk.all fun (kv : Nat × TEnt) => kv.2.use ≠ .busy) &&
  (List.range 2).all (fun sp => (s.spring sp).quiet) &&
  (List.range 16).all (fun p => (s.port p).unacked = [] && (s.port p).held = []) && s.fab.waiting = []

/-- Steps 3 to 5 of R505. -/
def State.slackEnter (s : State) : State :=
  let s := (List.range 16).foldl (fun (s : State) p =>
    let x := s.port p
    if x.wasLive then s.setPort p { x with state := .deep, retraining := false, txOpen := false, standbyReq := false, deepReq := false, peerDeep := false }
    else s) s
  let s := s.bedPark
  let s := { s with optics := { s.optics with dimmed := true, loopsStopped := true } }
  s.setRf Reg.NRG_PSTATE 2 2 2

/-- STILL (R507, R572): the store is shut down in order; what the always-on domain does not keep is lost. (DESIGN CHOICE, log 38) -/
def State.stillEnter (s : State) : State :=
  let s := s.shutdown
  let s := s.storeAbort []
  let pend := !s.gateOpen
  let s := { s with store := { s.store with queue := [], snapPending := pend }, log := { s.log with slots := s.store.mram.log, held := [] } }
  let s := s.resetRegs fun d _ => d.dom = .flr || d.dom = .link || d.dom = .die
  -- the table that is saved for a Weir held in reset is the keystone's (R214)
  let s := ((List.range 16).filter fun n => !s.dieUp (dieW n)).foldl State.freeWeir s
  let weirs := s.weirs.map fun (kv : Nat × Weir) => (kv.1, { kv.2 with queue := [], running := [] })
  let s := { s.zeroSram (fun _ => true) with reaches := [], cells := [], moves := [], clash := [], weirs := weirs.filter fun kv => kv.2 ≠ Weir.empty, cus := [] }
  let s := (s.hqReset false).dropNonce
  let s := { s with sec := { s.sec with token := none, attest := none } }
  let s := { s with optics := .reset }
  let s := { s with ports := (List.range 16).foldl (fun t p => tset .reset t p { Port.reset with cause := if s.portEnabled p then 2 else 1 }) [] }
  let s := { s with fab := { s.fab with spans := [], flowOut := [], hello := [], reports := [], forceSends := 0, waiting := [], tiles := [] } }
  let s := { s with nrg := { s.nrg with ledgers := [], pool := 0, gated := [], filling := [], u := Config.fusedStatic } }
  let s := (List.range 4).foldl State.dvfsReset s
  let s := (s.setReg Reg.KEY_READY 0).setRf Reg.NRG_PSTATE 2 2 3
  { s with pwr := { s.pwr with up := [] } }

/-- SLACK_DRAIN_DONE. (DESIGN CHOICE, log 38) -/
def execSlackDrainDone (s : State) : Host.Outcome State Fault Refusal :=
  .next (match s.nrg.entering with
    | none => s
    | some t =>
      if !s.dieUp dieK || (s.pstate = 0 && !s.drained) then s
      else
        let s := { s with nrg := { s.nrg with entering := none } }
        let s := if s.pstate = 0 then s.slackEnter else s
        if t = 3 then s.stillEnter else s.readyUpd)

/-- SLACK_ENTRY_TIMEOUT: the request is refused, and the device is ACTIVE. -/
def execSlackEntryTimeout (s : State) : Host.Outcome State Fault Refusal :=
  .next (if s.nrg.entering.isSome then nrgErr 4 s.toActive else s)

/-- STILL_WAKE (R508): PERST#, or the wake command on I3C. The optics take their bring-up; request reads 0. (DESIGN CHOICE, log 38) -/
def execStillWake (_i3c : Bool) (s : State) : Host.Outcome State Fault Refusal :=
  .next (if s.pstate ≠ 3 || s.nrg.trip.isSome || !(List.range 5).all (tget false s.pwr.good) then s
    else
      let s := ((s.setRf Reg.NRG_PSTATE 0 2 0).setRf Reg.NRG_PSTATE 2 2 0).setRb Reg.NRG_PSTATE 6 true
      let up := ((List.range 22).filter s.dieGood).foldl (fun t c => tset false t c true) (tset false [] dieK true)
      let s := { s with pwr := { s.pwr with up }, seedBase := s.freeIdx, freeIdx := s.freeIdx + 1024 }
      let s := ((s.setReady 0 true).setReady 1 true).setReady 20 true
      let s := (List.range 4).foldl State.dvfsStart s
      s.readyUpd)

end Sys2Proof.Machine
end

