-- ==== Sys2Proof/Machine/HostIf.lean ====
section
/-! DEFINITION. The host interface (R462 to R498): doorbells, fetch and checks of submission entries, DMA and Weir entries,
completions and interrupts, queue registers, function-level reset, IDE streams, the BAR4 size. -/

namespace Sys2Proof.Machine

/-! ### Queues (R468 to R470, R490) -/

/-- Entries of a submission queue. -/
def Sq.size (x : Sq) : Nat := 2 ^ x.cfg.fld 0 5
/-- Fetch is enabled. -/
def Sq.on (x : Sq) : Bool := x.cfg.bit 15
/-- Dispatched entries are incomplete (R495). -/
def Sq.active (x : Sq) : Bool := x.ents.any (·.dispatched)
/-- Host address of entry i. -/
def Sq.addr (x : Sq) (i : Nat) : Nat := x.baseHi.toNat * 2 ^ 32 + x.baseLo.toNat + 64 * i

/-- Entries of a completion queue. -/
def Cq.size (x : Cq) : Nat := 2 ^ x.cfg.fld 0 5
/-- The queue is enabled. -/
def Cq.on (x : Cq) : Bool := x.cfg.bit 5
/-- Host address of entry i. -/
def Cq.addr (x : Cq) (i : Nat) : Nat := x.baseHi.toNat * 2 ^ 32 + x.baseLo.toNat + 32 * i

/-- The SQs that are enabled or active and bound to a CQ. -/
def State.boundTo (s : State) (c : Nat) : List Nat :=
  (s.hq.sqs.filter fun (kv : Nat × Sq) => decide (kv.1 < 256) && kv.2.cq == c && (kv.2.on || kv.2.active)).map (·.1)

/-- A queue error stops fetch and is recorded (R490, R652). -/
def State.sqErr (s : State) (q code : Nat) : State := (s.setSq q { s.sq q with error := code }).raiseErr 2 0x2B dieK q none code

/-- May the device exchange TLPs with a host address: no Insecure stream covers it (R487)? -/
def State.ideOk (s : State) (addr : Nat) : Bool :=
  s.hq.ide.all fun (kv : Nat × Ide) => !(kv.2.state == 2 && Config.ideStream addr == some kv.1)

/-- The queue a host write to BAR2 hits: an aligned 32-bit write at base + q × 0x1000, q = 0 to 255; base 0 is the tail doorbell, 4 the
head doorbell (R467). -/
def doorbellQueue (base off width : Nat) : Option Nat :=
  if width = 4 ∧ off % 4096 = base ∧ off / 4096 < 256 then some (off / 4096) else none

/-- A BAR2 write that hits no doorbell of the row: outside the MSI-X table and pending bits, and no access to the other doorbell
register, it is ignored and counted in KEY_RSVD_WRITES (R467, R13). -/
def State.doorbellMiss (s : State) (base off width : Nat) : State :=
  if (0x800000 ≤ off ∧ off < 0x808100) ∨ (doorbellQueue (4 - base) off width).isSome then s else s.bump Reg.KEY_RSVD_WRITES

/-- The reserved bits 31..16 of a doorbell write are counted when not zero (R13, R467). -/
def State.doorbellRsvd (s : State) (v : Word) : State := if v.fld 16 16 = 0 then s else s.bump Reg.KEY_RSVD_WRITES

/-- A write of the tail of queue q: SLACK may be left (R506); an enabled queue takes the tail or records error 1 (R469, R490). -/
def State.sqTail (s : State) (q tail : Nat) : State :=
  let x := s.sq q
  let s := if s.pstate = 2 && s.rb Reg.NRG_PSTATE 4 then (s.setRf Reg.NRG_PSTATE 0 2 0).toActive else s
  if !x.on then s
  else if tail ≥ x.size then s.sqErr q 1
  else s.setSq q { x with tail }

/-- A write of the head of completion queue q (R479, R490). -/
def State.cqHead (s : State) (q head : Nat) : State :=
  let c := s.cq q
  let z := c.size
  if !c.on then s
  else if head ≥ z || (head + z - c.head) % z > (c.tail + z - c.head) % z then
    let s := (s.setCq q { c with error := 1 }).raiseErr 2 0x2B dieK q none 1
    (s.boundTo q).foldl (fun (s : State) i => s.setSq i { s.sq i with error := 4 }) s
  else s.setCq q { c with head }

/-- SQ_DOORBELL (R467, R469, R490, R506): the tail of an enabled queue; in SLACK it may wake the device. (DESIGN CHOICE, log 25) (DESIGN CHOICE, log 49) -/
def execSqDoorbell (off width : Nat) (v : Word) (s : State) : Host.Outcome State Fault Refusal :=
  .next (if !s.dieUp dieK then s
    else match doorbellQueue 0 off width with
      | none => s.doorbellMiss 0 off width
      | some q => (s.doorbellRsvd v).sqTail q (v.fld 0 16))

/-- CQ_HEAD_DOORBELL (R467, R479, R490): entries are released; a head that would pass the tail is an error of the CQ and of every SQ bound
to it. (DESIGN CHOICE, log 25) (DESIGN CHOICE, log 49) -/
def execCqHeadDoorbell (off width : Nat) (v : Word) (s : State) : Host.Outcome State Fault Refusal :=
  .next (if !s.dieUp dieK then s
    else match doorbellQueue 4 off width with
      | none => s.doorbellMiss 4 off width
      | some q => (s.doorbellRsvd v).cqHead q (v.fld 0 16))

/-! ### Entries (R470 to R474) -/

/-- Does a reserved field of an entry of types 0x40 to 0x44 hold zero (R472, R473)? (DESIGN CHOICE, log 26) -/
def entryEncOk (b : List Byte) : Bool :=
  let ty := bfld b 0 1
  decide (bfld b 1 1 < 4) && bfld b 2 2 / 1024 % 32 == 0 && bfld b 4 4 == 0 && bfld b 56 8 == 0 && (hsigAt b 44 48 50 52).encOk &&
  (if ty = 0x40 then bfld b 8 36 == 0
   else if ty = 0x41 || ty = 0x42 then bfld b 28 16 == 0
   else if ty = 0x43 then bfld b 21 23 == 0 && decide (bfld b 20 1 < 32) && !(decide (16 < bfld b 20 1))
   else (bfld b 12 1 == 1 || bfld b 8 3 < 2 ^ 18) && decide (bfld b 12 1 < 2) && bfld b 13 1 == 0 && bfld b 32 12 == 0)

/-- Are the addresses and lengths of an entry such as its type allows, as far as the entry alone shows it? (DESIGN CHOICE, log 26) -/
def State.entryAddrOk (s : State) (b : List Byte) : Bool :=
  let ty := bfld b 0 1
  (hsigAt b 44 48 50 52).addrOk &&
  (if ty = 0x41 || ty = 0x42 then
     let ga := bfld b 16 8
     bfld b 8 8 % 32 == 0 && ga % 32 == 0 && bfld b 24 4 % 32 == 0 && (gaDev ga == 0 || (s.idValid && gaDev ga == s.devId))
   else if ty = 0x43 then
     let n := bfld b 16 4
     n % 64 == 0 && decide (64 ≤ n) && decide (n ≤ 65536)
   else if ty = 0x44 then bfld b 14 2 % 32 == 0 && decide (bfld b 14 2 ≤ 256)
   else true)

/-- Complete an entry with the record of its status (R652); none where its header signal must wait. -/
def State.sqEnd (s : State) (q idx status result aux : Nat) : Option State :=
  let ty := match (s.sq q).ent idx with | some e => bfld e.bytes 0 1 | none => 0
  (s.raiseStatus status dieK q none ty).sqDone q idx status result aux

/-- A fetched entry (R471, R474, R481): a reach command waits for its dispatch; another type arms its mailbox; one that breaks its
form completes at once. -/
def State.sqAccept (s : State) (q idx : Nat) (b : List Byte) : Option State :=
  let ty := bfld b 0 1
  if 1 ≤ ty ∧ ty ≤ 8 then some s
  else if !decide (0x40 ≤ ty ∧ ty ≤ 0x44) then s.sqEnd q idx 10 0 0
  else
    let mb := bfld b 2 2
    let m := mb % 1024
    if mb ≥ 32768 && tget none s.hq.armed m ≠ none then s.sqEnd q idx 10 0 0
    else
      let s := if mb ≥ 32768 then
          let s := s.mboxWrite m 0xFF 0 0 0
          { s with hq := { s.hq with armed := tset none s.hq.armed m (some (q, idx)) } }
        else s
      if !entryEncOk b then s.sqEnd q idx 10 0 0
      else if !s.entryAddrOk b then s.sqEnd q idx 11 0 0
      else some s

/-- May the device fetch from a queue now (R469, R470, R490, R505, R633)? -/
def State.mayFetch (s : State) (q : Nat) : Bool :=
  let x := s.sq q
  decide (q < 256) && s.fetchOn && s.dieUp dieK && !s.asleep && s.nrg.entering.isNone && x.on && x.error == 0 && x.head != x.tail &&
    decide (x.ents.length < 1024) && (x.ent x.head).isNone

/-- SQ_FETCH: the entry at the head, or a read that failed. (DESIGN CHOICE, log 26) -/
def execSqFetch (q : Nat) (entry : Option (List Byte)) (s : State) : Host.Outcome State Fault Refusal :=
  .next (if !s.mayFetch q then s
    else
      let x := s.sq q
      match entry with
      | none => s.sqErr q 2
      | some b =>
        if !s.ideOk (x.addr x.head) then s.sqErr q 2
        else
          let b := padTo 64 b
          let e : SqEnt := { idx := x.head, bytes := b, dispatched := false, weirs := [] }
          ((s.setSq q { x with head := (x.head + 1) % x.size, ents := x.ents ++ [e] }).sqAccept q x.head b).getD s)

/-- Dispatch an entry of a type; it stays where it cannot be dispatched or its completion must wait (R470). -/
def State.entryRun (s : State) (q idx ty : Nat) (f : SqEnt → State → Option State) : State :=
  let x := s.sq q
  match x.ent idx with
  | none => s
  | some e =>
    if bfld e.bytes 0 1 ≠ ty || !x.mayDispatch idx || !s.dieUp dieK || s.asleep then s
    else (f e (s.sqDispatch q idx)).getD s

/-- NOP_ENTRY. -/
def execNopEntry (q idx : Nat) (s : State) : Host.Outcome State Fault Refusal :=
  .next (s.entryRun q idx 0x40 fun _ s => s.sqEnd q idx 0 0 0)

/-! ### DMA (R187, R188, R475) -/

/-- The parts of [0, len) outside a list of (start, length) parts in ascending order. -/
def gapsOf : List (Nat × Nat) → Nat → Nat → List (Nat × Nat)
  | [], c, len => if c < len then [(c, len - c)] else []
  | (a, n) :: t, c, len => (if c < min a len then [(c, min a len - c)] else []) ++ gapsOf t (max c (a + n)) len

/-- Do poisoned parts touch a range? -/
def partsMeet (bad : List (Nat × Nat)) (a n : Nat) : Bool := bad.any fun p => rangesMeet p.1 p.2 a n

/-- Seal n slots from host data (R185, R187); the epoch is 0 (R179). -/
def State.sealHost (s : State) (v : View) (r : Region) (dst : Nat) (data : List Byte) (bad : List (Nat × Nat)) : Nat → Nat → Nat → State × Nat
  | 0, _, st => (s, st)
  | n + 1, off, st =>
    let k := tileBytes r.sealFmt
    let bs := (data.drop off).take k
    let p := partsMeet bad off k
    let t := s.sealSlot v r (dst + off) 0 bs p
    State.sealHost t v r dst data bad n (off + r.slot) (if p then 1 else st)

/-- The status with which a DMA's device side is turned away (R163, R187, R210, R350); 0 where it may run. (DESIGN CHOICE, log 26) -/
def State.dmaCheck (s : State) (host da len : Nat) (write : Bool) : Nat :=
  match s.rangeStore da len with
  | none => 11
  | some st =>
    if !sideOk da len (rangeKind s.trg da len) || (write && s.touchesKv da len) then 11
    else if !s.ideOk host || !s.reaches? dieK st then 7
    else 0

/-- The effect of a DMA_IN: the state and the status. Untiled bytes of a poisoned TLP stay as they were (R185). -/
def State.dmaPut (s : State) (pe : PortEv) (da : Nat) (data : List Byte) (bad : List (Nat × Nat)) : State × Nat :=
  let v := s.viewNow pe
  let accs := rangeAcc s.trg da data.length true
  let busy := if v.busy accs then 3 else 0
  match rangeKind s.trg da data.length with
  | .tiled r =>
    let (t, st) := s.sealHost v r da data bad (data.length / r.slot) 0 0
    (t.met v accs, worseStatus st busy)
  | _ =>
    let t := (gapsOf bad 0 data.length).foldl (fun (s : State) p => s.writePE v (da + p.1) ((data.drop p.1).take p.2)) s
    (t.met v accs, if partsMeet bad 0 data.length then 1 else busy)

/-- DMA_IN: `poisonedTlps` are the parts of the range, offset and length ascending, whose TLPs came poisoned; `hostOk` is false where a host
read failed (R474). (DESIGN CHOICE, log 26) (DESIGN CHOICE, log 27) -/
def execDmaIn (q idx : Nat) (data : List Byte) (poisonedTlps : List (Nat × Nat)) (hostOk : Bool) (pe : PortEv) (s : State) :
    Host.Outcome State Fault Refusal :=
  .next (s.entryRun q idx 0x41 fun e s =>
    let da := gaDA (bfld e.bytes 16 8)
    let len := bfld e.bytes 24 4
    match s.dmaCheck (bfld e.bytes 8 8) da len true with
    | 0 =>
      if !hostOk then s.sqEnd q idx 11 0 0
      else
        let (t, st) := s.dmaPut pe da (padTo len data) poisonedTlps
        t.sqEnd q idx st 0 0
    | st => s.sqEnd q idx st 0 0)

/-- Send the tiles of a DMA_OUT to the host: a tile that fails its check is not sent (R187). -/
def State.dmaTiles (s : State) (v : View) (r : Region) (host da die : Nat) : Nat → Nat → State × Nat
  | 0, st => (s, st)
  | n + 1, st =>
    let t := s.readTile v r da
    let u := if t.ok then s.emit (.hostWrite host (padTo r.slot t.bytes)) else s.countCheck die 1
    State.dmaTiles u v r (host + r.slot) (da + r.slot) die n (if t.ok then st else 1)

/-- DMA_OUT: the data is written before the completion; poisoned untiled bytes are not sent (R185). (DESIGN CHOICE, log 26) (DESIGN CHOICE, log 27) -/
def execDmaOut (q idx : Nat) (pe : PortEv) (s : State) : Host.Outcome State Fault Refusal :=
  .next (s.entryRun q idx 0x42 fun e s =>
    let host := bfld e.bytes 8 8
    let da := gaDA (bfld e.bytes 16 8)
    let len := bfld e.bytes 24 4
    match s.dmaCheck host da len false with
    | 0 =>
      let v := s.viewNow pe
      let s := s.meet pe da len
      let accs := rangeAcc s.trg da len false
      let busy := if v.busy accs then 3 else 0
      match rangeKind s.trg da len with
      | .tiled r =>
        let (t, st) := s.dmaTiles v r host da (match s.rangeStore da len with | some st => storeDie st | none => 0) (len / r.slot) 0
        ((t.eccRead da len).met v accs).sqEnd q idx (worseStatus st busy) 0 0
      | _ =>
        let bs := s.readPE v da len
        let bad := (((List.range (len / 32)).map fun i => 32 * i).filter fun i => s.poisonRange (da + i) 32).map fun i => (i, 32)
        let t := (gapsOf bad 0 len).foldl (fun (s : State) p => s.emit (.hostWrite (host + p.1) ((bs.drop p.1).take p.2))) s
        let t := (t.met v accs).eccRead da len
        t.sqEnd q idx (if bad = [] then busy else 1) 0 0
    | st => s.sqEnd q idx st 0 0)

/-! ### Weir entries (R476) -/

/-- WEIR_ENTRY: the block goes to the Weirs it names, with work_unit and epoch zero; `block` is none where a host read failed. -/
def execWeirEntry (q idx : Nat) (block : Option (List Byte)) (s : State) : Host.Outcome State Fault Refusal :=
  .next (s.entryRun q idx 0x43 fun e s =>
    let len := bfld e.bytes 16 4
    let bc := bfld e.bytes 20 1 == 16
    let ns := if bc then List.range 16 else [bfld e.bytes 20 1]
    if !ns.all s.weirRoom then none
    else if !s.ideOk (bfld e.bytes 8 8) then s.sqEnd q idx 7 0 0
    else
      match block with
      | none => s.sqEnd q idx 11 0 0
      | some raw =>
        let b := bput (bput (padTo len raw) 8 4 0) 12 1 0
        let k : WBlk := { id := s.opNext, iss := .sq q idx, bytes := b, workUnit := 0, epoch := 0, bcast := bc, declared := len }
        let x := s.sq q
        let s := match x.ent idx with
          | some y => s.setSq q (x.setEnt { y with weirs := ns.map fun n => (n, none) })
          | none => s
        s.freshId.weirDeliver dieK k ns)

/-! ### Completions and interrupts (R478 to R480, R484) -/

/-- A message of a CQ: sent, and the count starts again. -/
def State.cqMsg (s : State) (c : Nat) : State :=
  let x := s.cq c
  (s.setCq c { x with since := 0 }).emit (.msi (x.cfg.fld 7 11))

/-- Bytes 0 to 27 of a completion entry (R478). -/
def Compl.toBytes (k : Compl) (sqHead : Nat) : List Byte :=
  toBytesLE 1 k.status ++ toBytesLE 1 k.type ++ toBytesLE 1 k.sq ++ zeros 1 ++ toBytesLE 2 k.idx ++ toBytesLE 2 sqHead ++
    toBytesLE 8 k.result ++ toBytesLE 4 k.aux ++ zeros 8

/-- CQ_COMPLETION_WRITE: the oldest waiting completion, in two posted writes, where the queue has room. (DESIGN CHOICE, log 27) -/
def execCqCompletionWrite (cq : Nat) (s : State) : Host.Outcome State Fault Refusal :=
  let c := s.cq cq
  .next (match c.wait with
    | [] => s
    | k :: t =>
      if cq ≥ 256 || !c.on || (c.tail + 1) % c.size = c.head || !s.dieUp dieK || !s.ideOk (c.addr c.tail) then s
      else
        let a := c.addr c.tail
        let s := (s.emit (.hostWrite a (k.toBytes (s.sq k.sq).head))).emit (.hostWrite (a + 28) (toBytesLE 4 c.phase.toNat))
        let tail := (c.tail + 1) % c.size
        let n := c.since + (!k.noIrq).toNat
        let s := s.setCq cq { c with wait := t, tail, phase := if tail = 0 then !c.phase else c.phase, since := n }
        if c.cfg.bit 6 && !k.noIrq && decide (n ≥ max 1 (c.cfg.fld 18 8)) then s.cqMsg cq else s)

/-- CQ_COAL_TIMEOUT: coal_time has passed since the first entry that no message covers. (DESIGN CHOICE, log 27) -/
def execCqCoalTimeout (cq : Nat) (s : State) : Host.Outcome State Fault Refusal :=
  let c := s.cq cq
  .next (if cq < 256 && c.on && c.cfg.bit 6 && decide (c.since > 0) && decide (c.cfg.fld 26 6 ≠ 0) && s.dieUp dieK then s.cqMsg cq else s)

/-! ### Queue registers (R468, R491 to R495) -/

/-- The queue pair selected. -/
def State.qSel (s : State) : Nat := s.rf Reg.HQ_Q_SEL 0 8

/-- A write of a queue's base: ignored and counted while the queue is enabled. -/
def State.wQBase (s : State) (o : Origin) (dev off : Nat) (v : Word) : State :=
  let q := s.qSel
  if off = Reg.HQ_SQ_BASE_LO then
    s.gate o dev off v (s.sq q).baseLo (ignoreIf (s.sq q).on Reg.KEY_LOCKED_WRITES) fun s x => s.setSq q { s.sq q with baseLo := x }
  else if off = Reg.HQ_SQ_BASE_HI then
    s.gate o dev off v (s.sq q).baseHi (ignoreIf (s.sq q).on Reg.KEY_LOCKED_WRITES) fun s x => s.setSq q { s.sq q with baseHi := x }
  else if off = Reg.HQ_CQ_BASE_LO then
    s.gate o dev off v (s.cq q).baseLo (ignoreIf (s.cq q).on Reg.KEY_LOCKED_WRITES) fun s x => s.setCq q { s.cq q with baseLo := x }
  else s.gate o dev off v (s.cq q).baseHi (ignoreIf (s.cq q).on Reg.KEY_LOCKED_WRITES) fun s x => s.setCq q { s.cq q with baseHi := x }

/-- Is a queue's size one that may be enabled (R493, R494)? -/
def qSizeOk (v : Word) : Bool := decide (4 ≤ v.fld 0 5) && decide (v.fld 0 5 ≤ 16)

/-- A write of HQ_SQ_CFG: while enabled, size and binding stay, and a differing write counts; enabling checks the size and the bound CQ. A
disabled queue drops what it fetched and did not dispatch. -/
def State.wSqCfg (s : State) (o : Origin) (dev : Nat) (v : Word) : State :=
  let off := Reg.HQ_SQ_CFG
  let q := s.qSel
  let x := s.sq q
  let fix := x.on && v.fld 0 13 ≠ x.cfg.fld 0 13
  let v1 := if x.on then v.setFld 0 13 (x.cfg.fld 0 13) else v
  let starts := !x.on && v.bit 15
  let noCq := starts && qSizeOk v && !(s.cq (v.fld 5 8)).on
  let v2 := if starts && (noCq || !qSizeOk v) then v1.setFld 15 1 0 else v1
  s.gate o dev off v2 x.cfg none fun s w =>
    let s := if fix then s.bump Reg.KEY_LOCKED_WRITES else s
    if noCq then s.setSq q { x with cfg := w, error := 3 }
    else if !x.on && w.bit 15 then s.setSq q { x with cfg := w, head := 0, tail := 0, error := 0 }
    else if x.on && !w.bit 15 then
      let s := s.setSq q { x with cfg := w, ents := x.ents.filter (·.dispatched) }
      { s with hq := { s.hq with armed := s.hq.armed.filter fun (kv : Nat × Option (Nat × Nat)) =>
        match kv.2 with
        | some (a, i) => a ≠ q || (x.ents.filter (·.dispatched)).any (·.idx == i)
        | none => false } }
    else s.setSq q { x with cfg := w }

/-- A write of HQ_CQ_CFG: a disable under an enabled or active SQ is refused; while enabled, the size stays. -/
def State.wCqCfg (s : State) (o : Origin) (dev : Nat) (v : Word) : State :=
  let off := Reg.HQ_CQ_CFG
  let q := s.qSel
  let c := s.cq q
  let own : Option (State → State) :=
    if c.on && !v.bit 5 && s.boundTo q ≠ [] then some fun s => s.setCq q { s.cq q with error := 2 } else none
  let fix := c.on && v.fld 0 5 ≠ c.cfg.fld 0 5
  let v1 := if c.on then v.setFld 0 5 (c.cfg.fld 0 5) else v
  let v2 := if !c.on && v.bit 5 && !qSizeOk v then v1.setFld 5 1 0 else v1
  s.gate o dev off v2 c.cfg own fun s w =>
    let s := if fix then s.bump Reg.KEY_LOCKED_WRITES else s
    if !c.on && w.bit 5 then s.setCq q { c with cfg := w, head := 0, tail := 0, phase := true, error := 0, since := 0 }
    else s.setCq q { c with cfg := w }

/-- SQ_ENABLE. (DESIGN CHOICE, log 26) -/
def execSqEnable (o : Origin) (v : Word) (s : State) : Host.Outcome State Fault Refusal := .next (s.wSqCfg o 0 v)

/-- SQ_DISABLE. (DESIGN CHOICE, log 26) -/
def execSqDisable (o : Origin) (v : Word) (s : State) : Host.Outcome State Fault Refusal := .next (s.wSqCfg o 0 v)

/-- CQ_ENABLE. -/
def execCqEnable (o : Origin) (v : Word) (s : State) : Host.Outcome State Fault Refusal := .next (s.wCqCfg o 0 v)

/-- CQ_DISABLE. -/
def execCqDisable (o : Origin) (v : Word) (s : State) : Host.Outcome State Fault Refusal := .next (s.wCqCfg o 0 v)

/-- HQ_Q_STATUS (R495). -/
def State.qStatus (s : State) : Word :=
  let x := s.sq s.qSel
  BitVec.ofNat 32 (x.error + (s.cq s.qSel).error * 8 + x.active.toNat * 32)

/-- HQ_Q_POS (R495). -/
def State.qPos (s : State) : Word := BitVec.ofNat 32 ((s.sq s.qSel).head + (s.cq s.qSel).tail * 65536)

/-- A write of HQ_BAR4_WIN: the size field, which holds 36 after reset, stays (R464, R496). -/
def State.wBar4Win (s : State) (o : Origin) (dev : Nat) (v : Word) : State :=
  let off := Reg.HQ_BAR4_WIN
  s.gate o dev off v (s.reg off) none fun s x => s.setReg off ((s.reg off).setFld 0 16 (x.fld 0 16))

/-- HQ_BAR4_WIN: the bits of the base below the size read as zero (R465). -/
def State.bar4Win (s : State) : Word :=
  let off := Reg.HQ_BAR4_WIN
  let z := 2 ^ (s.barExp - 30)
  (s.reg off).setFld 0 16 (s.rf off 0 16 / z * z)

/-- RESIZABLE_BAR_SIZE_WRITE (R464): sizes 30 to 40; the bits of the base below the size take no effect. (DESIGN CHOICE, log 29) -/
def execResizableBarSizeWrite (z : Nat) (s : State) : Host.Outcome State Fault Refusal :=
  .next (if 30 ≤ z ∧ z ≤ 40 ∧ s.pwr.started = true ∧ s.pwr.fatal = false then s.setRf Reg.HQ_BAR4_WIN 16 6 z else s)

/-! ### Function-level reset (R488, R489) -/

/-- The Weir entries that an FLR leaves running: under a queue number and an index that no later entry has, so that only their header signal
is sent. -/
def State.flrKeep (s : State) : State :=
  let base := s.opNext * 65536
  let kept := fun (x : Sq) => x.ents.filter fun e => e.dispatched && bfld e.bytes 0 1 == 0x43
  let s1 := s.freshId
  let re := fun (k : WBlk) => match k.iss with
    | .sq q idx => if q < 256 then { k with iss := .sq (q + 256) (base + idx) } else k
    | .cell .. => k
  let onWeir := fun (kv : Nat × Weir) =>
    (kv.1, { kv.2 with queue := kv.2.queue.map re, running := kv.2.running.map fun y => { y with blk := re y.blk } })
  let s1 := { s1 with weirs := s1.weirs.map onWeir }
  let old := s1.hq.sqs
  let s1 := s1.hqReset false
  let s1 := (old.filter fun (kv : Nat × Sq) => decide (kv.1 ≥ 256)).foldl (fun (s : State) (kv : Nat × Sq) => s.setSq kv.1 kv.2) s1
  (old.filter fun (kv : Nat × Sq) => decide (kv.1 < 256)).foldl (fun (s : State) (kv : Nat × Sq) =>
    let es := (kept kv.2).map fun e => { e with idx := base + e.idx }
    let y := s.sq (kv.1 + 256)
    s.setSq (kv.1 + 256) { y with ents := y.ents ++ es }) s1

/-- What waits for an SQ entry's completion no longer does: reach commands and management requests go on without an issuer. -/
def State.flrOrphan (s : State) : State :=
  let io := fun (i : Issuer) => match i with | .sq .. => Issuer.none | i => i
  let qc := fun (c : QCmd) => { c with iss := io c.iss }
  let onReach := fun (kv : Nat × Reach) =>
    (kv.1, { kv.2 with queue := kv.2.queue.map qc, held := kv.2.held.map qc, running := kv.2.running.map fun y => { y with iss := io y.iss } })
  let onPlc := fun (kv : Nat × Plc) => (kv.1, { kv.2 with held := kv.2.held.map qc })
  let onTrk := fun (kv : Nat × TEnt) => (kv.1, { kv.2 with owner := match kv.2.owner with | .mgmt .. => TOwner.other | w => w })
  let onSpan := fun (kv : Nat × Span) => (kv.1, { kv.2 with trk := kv.2.trk.map onTrk })
  let fab := { s.fab with spans := s.fab.spans.map onSpan }
  { s with reaches := s.reaches.map onReach, plc := s.plc.map onPlc, fab }

/-- FLR (R488, R489, R497, R640): queues, mailboxes, IDE streams and the SPDM session end; the BAR4 size returns to 64 GiB. (DESIGN CHOICE, log 28) -/
def execFlr (s : State) : Host.Outcome State Fault Refusal :=
  .next (if !s.dieUp dieK then s
    else
      let s := s.flrOrphan.flrKeep
      let s := s.resetRegs fun d _ => d.dom = .flr
      (s.setRf Reg.HQ_BAR4_WIN 16 6 36).setRf Reg.HQ_DEV_STATUS 0 2 2)

/-! ### IDE (R486, R487) -/

/-- IDE_KM: a key for a stream, inside an SPDM session. (DESIGN CHOICE, log 29) -/
def execIdeKm (stream key : Nat) (s : State) : Host.Outcome State Fault Refusal :=
  .next (if stream < 8 && s.hq.spdm && s.dieUp dieK then
    { s with hq := { s.hq with ide := tset { state := 0, key := 0 } s.hq.ide stream { state := 1, key } } } else s)

/-- IDE_INTEGRITY_FAILURE: a Secure stream becomes Insecure. -/
def execIdeIntegrityFailure (stream : Nat) (s : State) : Host.Outcome State Fault Refusal :=
  let d : Ide := { state := 0, key := 0 }
  let x := tget d s.hq.ide stream
  .next (if x.state = 1 && s.dieUp dieK then
    ({ s with hq := { s.hq with ide := tset d s.hq.ide stream { x with state := 2 } } }).raiseErr 2 0x2B dieK stream none 0 else s)

end Sys2Proof.Machine
end

