-- ==== Sys2Proof/Machine/RegRead.lean ====
section
/-! DEFINITION. What a read of a BAR0 register shows (R9 to R13, R506): the stored value, or the view of the state that the register's rule
gives. -/

namespace Sys2Proof.Machine

/-- Word i of a list of bytes. -/
def wordAt (b : List Byte) (i : Nat) : Word := BitVec.ofNat 32 (bfld b (4 * i) 4)

/-- A bit vector of the low or high half of a number. -/
def half (hi : Bool) (n : Nat) : Word := BitVec.ofNat 32 (if hi then n / 2 ^ 32 else n)

/-- KEY_IDENT (R3). -/
def State.ident (s : State) : Word := BitVec.ofNat 32 (s.fuses.stackHeight + s.fuses.stepping * 256 + 0x4C16 * 65536)

/-- The KEY block. -/
def State.viewKey (s : State) (off : Nat) : Word :=
  if off = Reg.KEY_IDENT then s.ident
  else if off = Reg.KEY_RCH_DATA then s.rchData off
  else if off = Reg.KEY_PLC_DATA then s.plcData
  else if off = Reg.KEY_PLC_REACH then s.plcReach
  else if off = Reg.KEY_TRG_STATUS then s.trgStatus
  else if off = Reg.KEY_SLOT_FOOT then s.slotFoot
  else if off = Reg.KEY_SLOT_STATUS then s.slotStatus
  else if off = Reg.KEY_RT_MODE then s.rtModeWord
  else if off = Reg.KEY_FAB_STATUS then s.fabStatus
  else if Reg.KEY_FAB_MGRi 0 ≤ off ∧ off < Reg.KEY_FAB_MGRi 16 then s.fabMgr ((off - Reg.KEY_FAB_MGRi 0) / 4)
  else if off = Reg.KEY_PST_STATUS then s.pstStatus
  else if off = Reg.KEY_PST_CTL then s.pstCtl
  else if off = Reg.KEY_PST_LIFE_LO then s.lifeWord false
  else if off = Reg.KEY_PST_LIFE_HI then s.lifeWord true
  else if off = Reg.KEY_PST_HS_CTL then s.hsCtl
  else if off = Reg.KEY_RESET_STATUS then s.resetStatus
  else if off = Reg.KEY_ERR_FIFO_CFG then (s.fifo s.errSel).cfg
  else if off = Reg.KEY_ERR_FIFO_STATUS then s.errStatus
  else if Reg.KEY_ERR_RECi 0 ≤ off ∧ off < Reg.KEY_ERR_RECi 16 then s.errRec ((off - Reg.KEY_ERR_RECi 0) / 4)
  else if off = Reg.KEY_MARCH_CTL then s.marchCtl
  else if off = Reg.KEY_REPAIR_STATUS then s.repairStatus
  else s.reg off

/-- The HQ block. -/
def State.viewHq (s : State) (off : Nat) : Word :=
  if off = Reg.HQ_SQ_BASE_LO then (s.sq s.qSel).baseLo
  else if off = Reg.HQ_SQ_BASE_HI then (s.sq s.qSel).baseHi
  else if off = Reg.HQ_SQ_CFG then (s.sq s.qSel).cfg
  else if off = Reg.HQ_CQ_BASE_LO then (s.cq s.qSel).baseLo
  else if off = Reg.HQ_CQ_BASE_HI then (s.cq s.qSel).baseHi
  else if off = Reg.HQ_CQ_CFG then (s.cq s.qSel).cfg
  else if off = Reg.HQ_Q_STATUS then s.qStatus
  else if off = Reg.HQ_Q_POS then s.qPos
  else if off = Reg.HQ_BAR4_WIN then s.bar4Win
  else s.reg off

/-- The NRG block. -/
def State.viewNrg (s : State) (off : Nat) : Word :=
  if off = Reg.NRG_STATUS then s.nrgStatus
  else if off = Reg.NRG_LEDGER_DATA then s.ledgerData
  else if off = Reg.NRG_CORR_DATA then s.corrData
  else if off = Reg.NRG_MEAS_DATA then s.measData
  else if off = Reg.NRG_PSTATE then s.pstateWord
  else if Reg.NRG_DVFSt 0 ≤ off ∧ off < Reg.NRG_DVFSt 4 then s.dvfsWord ((off - Reg.NRG_DVFSt 0) / 4)
  else if Reg.NRG_THROTTLEt 0 ≤ off ∧ off ≤ Reg.NRG_THROTTLE_PKG then s.throttleWord ((off - Reg.NRG_THROTTLEt 0) / 4)
  else if off = Reg.NRG_SENSOR_DATA then s.sensorData
  else if off = Reg.NRG_TICK_LO then half false s.ticks
  else if off = Reg.NRG_TICK_HI then half true s.ticks
  else if off = Reg.NRG_BOOT_COUNT then BitVec.ofNat 32 s.boot
  else s.reg off

/-- The SEC block. -/
def State.viewSec (s : State) (off : Nat) : Word :=
  if off = Reg.SEC_LIFECYCLE then s.lifeReg
  else if off = Reg.SEC_DEBUG then s.debugReg
  else if off = Reg.SEC_AUTH_CTL then s.authCtl
  else if Reg.SEC_SVNc 0 ≤ off ∧ off < Reg.SEC_SVNc 4 then s.svnReg ((off - Reg.SEC_SVNc 0) / 4)
  else if off = Reg.SEC_ATTEST_CTL then s.attestCtl
  else if 0x300100 ≤ off ∧ off < 0x300900 then s.measWord ((off - 0x300100) / 64) (off % 64 / 4)
  else if Reg.SEC_ID_DIGESTi 0 ≤ off ∧ off < Reg.SEC_ID_DIGESTi 16 then s.digestWord ((off - Reg.SEC_ID_DIGESTi 0) / 4)
  else if off = Reg.SEC_SERIAL_LO then half false (Config.serial 0)
  else if off = Reg.SEC_SERIAL_HI then half true (Config.serial 0)
  else s.reg off

/-- The LOG block (R594). -/
def State.viewLog (s : State) (off : Nat) : Word :=
  if off = Reg.LOG_NEXT_LO then half false s.log.next
  else if off = Reg.LOG_NEXT_HI then half true s.log.next
  else if off = Reg.LOG_ACK_LO then half false s.log.ack
  else if off = Reg.LOG_STATUS then
    let n := s.log.next - s.log.ack
    BitVec.ofNat 32 (n + (decide (n = logSlots)).toNat * 2 ^ 18)
  else if off = Reg.LOG_UNLOGGED then s.log.unlogged
  else s.reg off

/-- The block of a tensor die. -/
def State.viewT (s : State) (t off : Nat) : Word :=
  if off = Reg.Tt_RCH_DATA t then s.rchData off
  else if off = Reg.Tt_CU_STATUS t then s.cuStatus t
  else if off = Reg.Tt_CU_WLOAD_CTL t then s.cuWloadCtl t
  else if off = Reg.Tt_CU_TAGS t then s.cuTags t
  else s.reg off

/-- The block of a Weir. -/
def State.viewW (s : State) (n off : Nat) : Word :=
  if off = Reg.Wn_RCH_DATA n then s.rchData off
  else if Reg.Wn_SLOT_LENs n 0 ≤ off ∧ off < Reg.Wn_SLOT_LENs n 8 then s.slotLen n ((off - Reg.Wn_SLOT_LENs n 0) / 4)
  else s.reg off

/-- The BED block. -/
def State.viewBed (s : State) (off : Nat) : Word :=
  if off = Reg.BED_LASER_FADE then s.laserFade
  else if off = Reg.BED_HANDOVER then s.handoverWord
  else if off = Reg.BED_REF_STATUS then s.refStatus
  else if off = Reg.BED_REGION_CTL then s.regionCtl
  else if off = Reg.BED_LASER_CTL then s.laserCtl
  else if off = Reg.BED_CAL_CTL then s.calCtl
  else if off = Reg.BED_LINK_STATUS then s.bedLinkStatus
  else if off = Reg.BED_LINK_CTL then s.bedLinkCtl
  else if off = Reg.BED_LINK_CORRECTED then s.bedCounter (·.corrected)
  else if off = Reg.BED_LINK_UNCORR then s.bedCounter (·.uncorr)
  else if off = Reg.BED_LINK_REPLAYS then s.bedCounter (·.replays)
  else if off = Reg.BED_LINK_RETRAINS then s.bedCounter (·.retrains)
  else if off = Reg.BED_LINK_CREDIT_TO then s.bedCounter (·.creditTo)
  else if off = Reg.BED_LANE_STATUS then s.bedLaneStatus
  else s.reg off

/-- The registers of a port. -/
def State.viewPort (s : State) (p off : Nat) : Word :=
  if off = Reg.Sd_PORTp_STATE p then s.portStateWord p
  else if off = Reg.Sd_PORTp_BW p then s.portBwWord p
  else if off = Reg.Sd_PORTp_WINDOW p then s.portWindow p
  else if off = Reg.Sd_PORTp_PEER p then s.portPeer p
  else if off = Reg.Sd_PORTp_LANE_STATUS p then s.flStatus p
  else s.reg off

/-- The block of a span die. -/
def State.viewS (s : State) (d off : Nat) : Word :=
  let o := off - 0x2200000 - d * 0x400000
  if o < 0x80000 then s.viewPort (8 * d + o / 0x10000) off
  else if off = Reg.Sd_SVC_STATUS d then s.svcStatus d
  else if off = Reg.Sd_LINK_MODE d then BitVec.ofNat 32 s.fuses.smallFabric.toNat
  else if off = Reg.Sd_TRK_STATUS d then s.trkStatus d
  else s.reg off

/-- The value that a register shows. (DEDUCED, log 53) -/
def State.view (s : State) (off : Nat) : Word :=
  if off < 0x100000 then s.viewKey off
  else if off < 0x200000 then s.viewHq off
  else if off < 0x300000 then s.viewNrg off
  else if off < 0x400000 then s.viewSec off
  else if off < 0x1000000 then s.viewLog off
  else if off < 0x2000000 then s.viewT ((off - 0x1000000) / 0x400000) off
  else if off < 0x2100000 then s.viewW ((off - 0x2000000) / 0x10000) off
  else if off < 0x2200000 then s.viewBed off
  else s.viewS ((off - 0x2200000) / 0x400000) off

/-- A read of BAR0 of any width and alignment (R9, R11, R506): the state, which counts what the rules count, and the value. (DEDUCED, log 53) -/
def State.readReg (s : State) (off width : Nat) : State × Word :=
  if !s.blockAnswers off then (s, 0)
  else if width ≠ 32 ∨ off % 4 ≠ 0 then (s.bump Reg.KEY_RSVD_WRITES, 0)
  else if s.asleep && gatedBlock off then (s.bump Reg.NRG_ASLEEP_ACCESS, 0)
  else
    match regAt off with
    | none => (s, 0)
    | some _ => (if off = Reg.BED_REGION_CTL then s.takeFree 1 else s, s.view off)

end Sys2Proof.Machine
end

