-- ==== Sys2Proof/Machine/RegWrite.lean ====
section
/-! DEFINITION. A write of any BAR0 register, by the origin that makes it (R9, R13, R434, R564, R565, R573): each register's own write, the
change log's registers with the writes that wait for a slot (R579 to R582), and the rows that write or read registers from outside. -/

namespace Sys2Proof.Machine

/-! ### The change log's registers (R579 to R582, R594) -/

/-- The 24 bytes of LOG_NOTE0 to 5. -/
def State.note (s : State) : List Byte := (List.range 6).flatMap fun i => toBytesLE 4 (s.reg (Reg.LOG_NOTEi i)).toNat

/-- A write of LOG_NOTE_CTL: commit = 1 writes a NOTE entry of origin HOST, its only entry; refused under its own offset (R581). -/
def State.wNote (s : State) (o : Origin) (dev : Nat) (v : Word) : State :=
  let off := Reg.LOG_NOTE_CTL
  s.gate o dev off v 0 (some fun (s : State) =>
    if !v.bit 0 then s
    else if s.logFull && refusable o then s.refuseLog o 0x3FFFFFF
    else if s.logFull then { s with log := { s.log with held := s.log.held ++ [{ origin := o, off, value := v }] } }
    else s.tally.logPut (originCode .host) 3 0 s.note) fun s _ => s

/-- The entry of an lsn, where its slot still holds it. -/
def State.logEntry (s : State) (lsn : Nat) : List Byte :=
  let e := tget [] s.log.slots (lsn % logSlots)
  if e ≠ [] && bfld e 0 8 == lsn then e else []

/-- A write of LOG_RD_LO loads the entry into LOG_RD_DATA (R582). -/
def State.wLogRd (s : State) (o : Origin) (dev : Nat) (v : Word) : State :=
  let off := Reg.LOG_RD_LO
  s.gate o dev off v (s.reg off) none fun s x =>
    let s := s.keepReg off x
    let e := s.logEntry ((s.reg Reg.LOG_RD_HI).toNat * 2 ^ 32 + x.toNat)
    (List.range 16).foldl (fun (s : State) i => s.setReg (Reg.LOG_RD_DATAi i) (wordAt e i)) s

/-- A write of LOG_ACK_LO acknowledges (R579); what waited for a slot is for the caller. -/
def State.wLogAck (s : State) (o : Origin) (dev : Nat) (v : Word) : State :=
  let off := Reg.LOG_ACK_LO
  let a := (s.reg Reg.LOG_ACK_HI).toNat * 2 ^ 32 + v.toNat
  s.gate o dev off v (half false s.log.ack) (ignoreIf (a < s.log.ack || a > s.log.next) Reg.KEY_RSVD_WRITES) fun s _ =>
    let s := { s with log := { s.log with ack := a } }
    s.storePush (.logState a s.log.unlogged s.store.res)

/-! ### Writes by block -/

/-- A port of a span block's offset. -/
def portOf (off : Nat) : Nat := (off - 0x2200000) / 0x400000 * 8 + (off - 0x2200000) % 0x400000 / 0x10000

/-- The KEY block. -/
def State.writeKey (s : State) (o : Origin) (dev off : Nat) (v : Word) : State :=
  if off = Reg.KEY_RCH_DATA then s.wRchData o dev off v
  else if off = Reg.KEY_TRG_SEL then s.wTrgSel o dev v
  else if Reg.KEY_TRG_BASE_LO ≤ off ∧ off ≤ Reg.KEY_TRG_COUNT then s.wTrgStaged o dev off v
  else if off = Reg.KEY_TRG_CFG then s.wTrgCfg o dev v
  else if off = Reg.KEY_KV_PART then s.wKvPart o dev v
  else if off = Reg.KEY_SLOT_SEL then s.wSlotSel o dev v
  else if off = Reg.KEY_SLOT_CFG then s.wSlotCfg o dev v
  else if off = Reg.KEY_DEV_ID then s.wDevId o dev v
  else if off = Reg.KEY_RT_SEL then s.wRtSel o dev v
  else if off = Reg.KEY_RT_MODE then s.wRtMode o dev v
  else if off = Reg.KEY_FAB_CTL then s.wFabCtl o dev v
  else if off = Reg.KEY_PST_CTL then s.wPstCtl o dev v
  else if off = Reg.KEY_PST_HS_CTL then s.wHsCtl .clear o dev v
  else if off = Reg.KEY_RESET_CTL then (s.wResetCtl o dev v (s.freeVal % 2 == 1)).takeFree 1
  else if off = Reg.KEY_ERR_FIFO_CFG then s.wErrCfg o dev v
  else if off = Reg.KEY_ERR_POP then s.wErrPop o dev v
  else if off = Reg.KEY_TEST_CTL then s.wTestCtl o dev v
  else if off = Reg.KEY_MARCH_CTL then s.wMarchCtl o dev v
  else s.plainWrite o dev off v

/-- The HQ block. -/
def State.writeHq (s : State) (o : Origin) (dev off : Nat) (v : Word) : State :=
  if off = Reg.HQ_SQ_CFG then s.wSqCfg o dev v
  else if off = Reg.HQ_CQ_CFG then s.wCqCfg o dev v
  else if Reg.HQ_SQ_BASE_LO ≤ off ∧ off ≤ Reg.HQ_CQ_BASE_HI then s.wQBase o dev off v
  else if off = Reg.HQ_BAR4_WIN then s.wBar4Win o dev v
  else s.plainWrite o dev off v

/-- The NRG block. -/
def State.writeNrg (s : State) (o : Origin) (dev off : Nat) (v : Word) : State :=
  if off = Reg.NRG_POWER_CAP then s.wPowerCap o dev v
  else if off = Reg.NRG_BURST then s.wBurst o dev v
  else if off = Reg.NRG_RAMP then s.wRamp o dev v
  else if off = Reg.NRG_CORR_DATA then s.wCorrData o dev v
  else if off = Reg.NRG_PSTATE then s.wPstate o dev v
  else if Reg.NRG_DVFSt 0 ≤ off ∧ off < Reg.NRG_DVFSt 4 then s.wDvfs ((off - Reg.NRG_DVFSt 0) / 4) o dev v
  else if off = Reg.NRG_THERM_CFG then s.wThermCfg o dev v
  else s.plainWrite o dev off v

/-- The SEC block; a manifest's fetch is the row FW_FETCH, which brings what the host answers. -/
def State.writeSec (s : State) (o : Origin) (dev off : Nat) (v : Word) : State :=
  if off = Reg.SEC_AUTH_CTL then s.wAuthCtl o dev v
  else if off = Reg.SEC_FW_ADDR_LO then s.wFwAddr o dev v none
  else if Reg.SEC_SVNc 0 ≤ off ∧ off < Reg.SEC_SVNc 4 then s.wSvn ((off - Reg.SEC_SVNc 0) / 4) o dev v
  else if off = Reg.SEC_ATTEST_CTL then s.wAttestCtl o dev v
  else if off = Reg.SEC_EXTEND_CTL then s.wExtendCtl o dev v
  else s.plainWrite o dev off v

/-- The LOG block. -/
def State.writeLog (s : State) (o : Origin) (dev off : Nat) (v : Word) : State :=
  if off = Reg.LOG_ACK_LO then s.wLogAck o dev v
  else if off = Reg.LOG_RD_LO then s.wLogRd o dev v
  else if off = Reg.LOG_NOTE_CTL then s.wNote o dev v
  else s.plainWrite o dev off v

/-- The block of a tensor die. -/
def State.writeT (s : State) (o : Origin) (dev t off : Nat) (v : Word) : State :=
  if off = Reg.Tt_RCH_DATA t then s.wRchData o dev off v
  else if off = Reg.Tt_CU_CTRL t then s.wCuCtrl o dev t v
  else if off = Reg.Tt_CU_WLOAD_CTL t then s.wWload o dev t v
  else s.plainWrite o dev off v

/-- The blocks of the Weirs. -/
def State.writeW (s : State) (o : Origin) (dev n off : Nat) (v : Word) : State :=
  if off = Reg.Wn_RCH_DATA n then s.wRchData o dev off v else s.plainWrite o dev off v

/-- The BED block. -/
def State.writeBed (s : State) (o : Origin) (dev off : Nat) (v : Word) : State :=
  if off = Reg.BED_LASER_CTL then s.wLaserCtl o dev v
  else if off = Reg.BED_CAL_CTL then s.wCalCtl o dev v
  else if off = Reg.BED_LINK_CTL then s.wBedLinkCtl o dev v
  else if off = Reg.BED_LANE_CTL then s.wBedLaneCtl o dev v
  else s.plainWrite o dev off v

/-- The registers of a port. -/
def State.writePort (s : State) (o : Origin) (dev p off : Nat) (v : Word) : State :=
  if off = Reg.Sd_PORTp_CTL p then s.wPortCtl p o dev v
  else if off = Reg.Sd_PORTp_TIMERS p then s.wPortTimers p o dev v
  else if off = Reg.Sd_PORTp_BW p then s.wPortBw p o dev v
  else if off = Reg.Sd_PORTp_LANE_CTL p then s.wPortLaneCtl p o dev v
  else s.plainWrite o dev off v

/-- The block of a span die. -/
def State.writeS (s : State) (o : Origin) (dev d off : Nat) (v : Word) : State :=
  if off - 0x2200000 - d * 0x400000 < 0x80000 then s.writePort o dev (portOf off) off v
  else if off = Reg.Sd_SVC_CTL d then s.wSvcCtl d o dev v
  else if off = Reg.Sd_TRK_CTL d then s.wTrkCtl d o dev v
  else s.plainWrite o dev off v

/-- A 32-bit, aligned write. -/
def State.writeAt (s : State) (o : Origin) (dev off : Nat) (v : Word) : State :=
  if off < 0x100000 then s.writeKey o dev off v
  else if off < 0x200000 then s.writeHq o dev off v
  else if off < 0x300000 then s.writeNrg o dev off v
  else if off < 0x400000 then s.writeSec o dev off v
  else if off < 0x1000000 then s.writeLog o dev off v
  else if off < 0x2000000 then s.writeT o dev ((off - 0x1000000) / 0x400000) off v
  else if off < 0x2100000 then s.writeW o dev ((off - 0x2000000) / 0x10000) off v
  else if off < 0x2200000 then s.writeBed o dev off v
  else s.writeS o dev ((off - 0x2200000) / 0x400000) off v

/-- The writes that wait in the keystone, in order, while the log has room for each (R580). -/
def State.releaseHeld? (s : State) : List HeldWrite → State
  | [] => s
  | h :: t =>
    if s.logFull then { s with log := { s.log with held := s.log.held ++ h :: t } }
    else (s.writeAt h.origin 0 h.off h.value).releaseHeld? t

/-- A slot of the log may have freed: a TALLY first, then what waited. -/
def State.logFreed (s : State) : State :=
  let hs := s.log.held
  ({ s.tally with log := { s.tally.log with held := [] } }).releaseHeld? hs

/-- A write of BAR0 of any width and alignment (R9). BAR0 ends at 64 MiB. (DESIGN CHOICE, log 21) (DESIGN CHOICE, log 22) -/
def State.writeReg (s : State) (o : Origin) (dev off width : Nat) (v : Word) : State :=
  if off ≥ 0x4000000 || !s.blockAnswers off then s
  else if width ≠ 32 ∨ off % 4 ≠ 0 then s.bump Reg.KEY_RSVD_WRITES
  else (s.writeAt o dev off v).logFreed

/-! ### The rows -/

/-- The write of a register that leaves to hardware the fields it changes in the same cycle, `hw` their bits (R14): there the bits
that change nothing. -/
def RegDesc.yield (d : RegDesc) (hw cur v : Word) : Word :=
  d.flds.foldl (fun x f =>
    if f.mask &&& hw = 0 then x
    else (x &&& ~~~ f.mask) ||| (match f.acc with
      | .w1c | .w1s => 0
      | .ro | .wo => v &&& f.mask
      | .rw | .rwp | .rwl => cur &&& f.mask)) v

/-- A write's value, less the fields that hardware changes in the same cycle. -/
def State.yield (s : State) (off : Nat) (v hw : Word) : Word :=
  match regAt off with
  | some d => d.yield hw (s.view off) v
  | none => v

/-- REGISTER_WRITE; `hw` marks the bits that hardware changes in the same cycle, whose own command has run (R14). (DESIGN CHOICE, log 31) -/
def execRegisterWrite (o : Origin) (off width : Nat) (v hw : Word) (s : State) : Host.Outcome State Fault Refusal :=
  .next (s.writeReg o 0 off width (s.yield off v hw))

/-- LOCK_BLOCK (R17). -/
def execLockBlock (o : Origin) (v : Word) (s : State) : Host.Outcome State Fault Refusal := .next (s.plainWrite o 0 Reg.KEY_LOCK v)

/-- LOG_ACK. (DEDUCED, log 23) (DESIGN CHOICE, log 43) -/
def execLogAck (o : Origin) (v : Word) (s : State) : Host.Outcome State Fault Refusal := .next (s.wLogAck o 0 v).logFreed

/-- LOG_NOTE_COMMIT. (DEDUCED, log 23) -/
def execLogNoteCommit (o : Origin) (v : Word) (s : State) : Host.Outcome State Fault Refusal := .next (s.wNote o 0 v)

/-- LOG_READ. -/
def execLogRead (o : Origin) (v : Word) (s : State) : Host.Outcome State Fault Refusal := .next (s.wLogRd o 0 v)

/-- STORE_WRITE (R602): the next unit of the write queue; the room it leaves serves what waited (R605). (DESIGN CHOICE, log 43) -/
def execStoreWrite (s : State) : Host.Outcome State Fault Refusal := .next s.storeWriteStep.logFreed

/-! ### Management packets (R434) -/

/-- What REG_READ answers. -/
def State.mgmtRead (s : State) (b : List Byte) : State × List Byte :=
  let off := bfld b 0 4
  if off ≥ 0x4000000 then (s, zeros 32)
  else
    let (s, w) := s.readReg off 32
    (s, padTo 32 (toBytesLE 4 w.toNat))

/-- What REG_WRITE does: the state and its status; a refusal with LOG_FULL has no code in the spec, and its status is free. -/
def State.mgmtWrite (s : State) (o : Origin) (dev : Nat) (accept : Bool) (b : List Byte) : State × Nat :=
  if !accept then (s, 11)
  else
    let t := s.writeReg o dev (bfld b 0 4) 32 (BitVec.ofNat 32 (bfld b 4 4))
    if t.reg Reg.LOG_REFUSED ≠ s.reg Reg.LOG_REFUSED then (t.takeFree 1, s.freeVal % 256) else (t, 0)

/-- REG_READ. (DEDUCED, log 53) -/
def execRegRead (port : Fin 16) (p : Packet) (s : State) : Host.Outcome State Fault Refusal :=
  .next (s.mgmtIn port 1 p fun s => let (t, d) := s.mgmtRead (mgmtArg p).2; t.mgmtAnswer port p 0 d)

/-- REG_WRITE: a reset that it asks for comes after the answer (R643). (DEDUCED, log 23) -/
def execRegWrite (port : Fin 16) (p : Packet) (s : State) : Host.Outcome State Fault Refusal :=
  .next (s.mgmtIn port 2 p fun s =>
    let (t, st) := s.mgmtWrite .fabric (mgmtWriter p) (s.mgmtAccepts p) (mgmtArg p).2
    t.mgmtAnswer port p st [])

/-! ### JTAG (R564, R565, R571) -/

/-- An access of the always-on TAP in STILL: the lifecycle, the debug level, the tick counter. -/
def State.tapRead (s : State) (addr : Nat) : Word :=
  if addr = Reg.SEC_LIFECYCLE || addr = Reg.SEC_DEBUG || addr = Reg.NRG_TICK_LO || addr = Reg.NRG_TICK_HI then s.view addr else 0

/-- A 32-bit access to a memory: the keystone reaches its store, and the word is aligned. -/
def State.jtagMem (s : State) (addr : Nat) : Bool := addr % 4 == 0 && (s.hostStore addr 4).isSome

/-- JTAG_ACCESS: `space` 0 is a BAR0 register, 1 a memory word, another the scan chains and private memories, whose contents the spec does
not give, or the halt and step controls, whose effect it does not give. Status 1 is NOT_CLOCKED. An access below its level shows zeros. (DESIGN CHOICE, log 24) -/
def execJtagAccess (wr : Bool) (space addr : Nat) (v : Word) (s : State) : Host.Outcome State Fault Refusal :=
  let none_ := s.emit (.jtag 0 0)
  .next (
    if s.pstate = 3 then
      (if wr || space ≠ 0 then none_ else s.emit (.jtag 0 (s.tapRead addr)))
    else if !s.dieUp dieK || (wr && s.debugLevel < 2) || s.debugLevel = 0 then none_
    else if space = 0 then
      if s.asleep && gatedBlock addr then s.emit (.jtag 1 0)
      else if wr then (s.writeReg .debug 0 addr 32 v).emit (.jtag 0 0)
      else let (t, w) := s.readReg addr 32; t.emit (.jtag 0 w)
    else if space = 1 then
      if s.asleep then s.emit (.jtag 1 0)
      else if !s.jtagMem addr then none_
      else if wr then
        if touchesTiled s.trg addr 4 || s.touchesKv addr 4 then none_
        else (s.writeMem addr (toBytesLE 4 v.toNat)).emit (.jtag 0 0)
      else if s.poisonRange addr 4 then ((s.eccRead addr 4).takeFree 1).emit (.jtag 0 (BitVec.ofNat 32 s.freeVal))
      else s.emit (.jtag 0 (wordAt (s.readMem addr 4) 0))
    else if wr || s.debugLevel < 2 then none_
    else (s.takeFree 1).emit (.jtag 0 (BitVec.ofNat 32 s.freeVal)))

/-- EXTEST: accepted only while PERST# is asserted, that is before the start sequence; it drives the boundary cells, which are no state of the
device. (DESIGN CHOICE, log 24) -/
def execExtest (s : State) : Host.Outcome State Fault Refusal := .next (if s.pwr.started then s else s.emit (.jtag 0 0))

end Sys2Proof.Machine
end

