-- ==== Sys2Proof/Machine/Mgmt.lean ====
section
/-! DEFINITION. The MGMT entry of a submission queue (R473, R477): a management request that this device's keystone serves itself or sends. -/

namespace Sys2Proof.Machine

/-- Does this device follow itself as manager, and accept management writes (R434)? -/
def State.mgmtSelf (s : State) : Bool := s.rb Reg.KEY_FAB_CTL 2 && decide (s.fab.mgrDigest ≠ []) && s.fab.mgrPort.isNone

/-- Serve a management request of this device locally: the state, the status, the response payload; none where the command must wait
at its sender. (DESIGN CHOICE, log 30) -/
def State.mgmtLocal (s : State) (sub : Nat) (b : List Byte) : Option (State × Nat × List Byte) :=
  if sub = 1 then let (t, d) := s.mgmtRead b; some (t, 0, d)
  else if sub = 2 then let (t, st) := s.mgmtWrite .fabric s.devId s.mgmtSelf b; some (t, st, [])
  else if sub = 3 then (s.arrive .mgmt (padTo 64 b)).map fun t => (t, s.cmdCheck (padTo 64 b), [])
  else if sub = 4 then let (st, d) := s.query b; some (s, st, d)
  else if sub = 5 then
    let (t, st) := s.assign { Packet.zero with src := s.devId, mod := 5 } .fabric s.mgmtSelf b
    some (t, st, [])
  else some (s, 10, [])

/-- Send a path-routed request out by the port of its first hop, tracked in that port's span die (R433, R436). -/
def State.sendPath (s : State) (q idx : Nat) (p : Packet) : Inj :=
  let out := pathPort p 0
  let d := out / 8
  if !s.portUp out then .lost
  else if (s.span d).inUse ≥ 1048576 then .stalled
  else
    let p := { p with payload := bput p.payload 0 1 1 }
    let (i, x) := (s.span d).alloc (.mgmt q idx) p out
    let p := { p with trk := d, tag := i, gen := (tget .free x.trk i).gen }
    let x := { x with trk := tset .free x.trk i { tget .free x.trk i with pkt := some p } }
    .sent ((s.setSpan d x).txWait out 0 p (some (d * 1048576 + i)))

/-- MGMT_ENTRY: `payload` is the request payload that the device reads from the host, none where that read failed. (DESIGN CHOICE, log 30) -/
def execMgmtEntry (q idx : Nat) (payload : Option (List Byte)) (s : State) : Host.Outcome State Fault Refusal :=
  .next (s.entryRun q idx 0x44 fun e s =>
    let dst := bfld e.bytes 8 3 % 262144
    let sub := bfld e.bytes 11 1
    let path := bfld e.bytes 12 1 % 2 == 1
    let len := bfld e.bytes 14 2
    if len ≠ 0 ∧ !s.ideOk (bfld e.bytes 16 8) then s.sqEnd q idx 7 0 0
    else
      match if len = 0 then some [] else payload with
      | none => s.sqEnd q idx 11 0 0
      | some raw =>
        let b := padTo len raw
        let p : Packet := { Packet.zero with dst, type := 6, mod := sub, payload := b }
        if path then
          let p := { p with dst := 0, flags := 8, srcDie := dieK }
          if !decide (1 ≤ sub ∧ sub ≤ 5) then s.sqEnd q idx 10 0 0
          else if len < (if sub = 2 ∨ sub = 5 then 96 else 32) then s.sqEnd q idx 11 0 0
          else if !pathOk p || pathIdx p ≠ 0 then s.sqEnd q idx 10 0 0
          else
            match s.sendPath q idx p with
            | .stalled => none
            | .lost => s.sqEnd q idx 7 0 0
            | .sent t => some t
        else if s.isLocal dst then
          match s.mgmtLocal sub b with
          | none => none
          | some (t, st, d) => t.mgmtDone q idx st d
        else
          match s.inject dieK p (some (.mgmt q idx)) with
          | .stalled => none
          | .lost => s.sqEnd q idx 7 0 0
          | .sent t => some t)

end Sys2Proof.Machine
end

