-- ==== Sys2Proof/Machine/Vector.lean ====
section
/-! DEFINITION. The vector instructions (R110 to R113, R154 to R158). -/

namespace Sys2Proof.Machine

/-! ### Lanes -/

/-- The modifiers of a vector instruction: the guard predicate and the lane type (0 FP32, 1 INT32, 2 UINT32). -/
structure VMod where
  guard : Option Nat
  lt : Nat
deriving DecidableEq, Repr

/-- Read the modifiers; none for a reserved value (R110). -/
def vmod (m : BitVec 8) : Option VMod :=
  let n := m.toNat
  let g := n / 128 == 1
  if n % 4 ≠ 0 || n / 4 % 4 = 3 || (!g && n / 16 % 8 ≠ 0) then none
  else some { guard := if g then some (n / 16 % 8) else none, lt := n / 4 % 4 }

/-- Is lane i written? -/
def Cell.laneOn (c : Cell) (g : Option Nat) (i : Nat) : Bool :=
  match g with
  | none => true
  | some p => (c.pr p).getLsbD i

/-- New lanes where the guard writes, old lanes elsewhere. -/
def Cell.pick (c : Cell) (g : Option Nat) (new old : List Word) : List Word :=
  (List.range 64).map fun i => if c.laneOn g i then new.getD i 0 else old.getD i 0

/-- Write a vector result under its guard; kept lanes keep their poison (R113). -/
def Cell.blend (c : Cell) (g : Option Nat) (rd : Nat) (new : List Word) (poison : Bool) : Cell :=
  c.setVec rd (c.pick g new (c.vec rd)) (poison || (g.isSome && c.vpois rd))

/-- An FP32 lane as it is read, as bits (R154). -/
def flush32 (w : Word) : Word := if w &&& 0x7F800000 = 0 then w &&& 0x80000000 else w

/-- VADD on a lane. -/
def laneAdd (lt : Nat) (a b : Word) : Word := if lt = 0 then to32 ((of32f a).add (of32f b)) else a + b
/-- VSUB on a lane. -/
def laneSub (lt : Nat) (a b : Word) : Word := if lt = 0 then to32 ((of32f a).add (of32f b).neg) else a - b
/-- VMUL on a lane. -/
def laneMul (lt : Nat) (a b : Word) : Word := if lt = 0 then to32 ((of32f a).mul (of32f b)) else a * b
/-- VFMA on a lane. -/
def laneFma (lt : Nat) (a b c : Word) : Word :=
  if lt = 0 then to32 (((of32f a).mul (of32f b)).add (of32f c)) else a * b + c
/-- VMAX on a lane. -/
def laneMax (lt : Nat) (a b : Word) : Word :=
  if lt = 0 then to32 (FV.max (of32f a) (of32f b)) else if lt = 1 then (if a.slt b then b else a) else if a.ult b then b else a
/-- VMIN on a lane. -/
def laneMin (lt : Nat) (a b : Word) : Word :=
  if lt = 0 then to32 (FV.min (of32f a) (of32f b)) else if lt = 1 then (if a.slt b then a else b) else if a.ult b then a else b
/-- VABS on a lane. -/
def laneAbs (lt : Nat) (a : Word) : Word :=
  if lt = 0 then flush32 a &&& 0x7FFFFFFF else if lt = 1 then (if a.slt 0 then -a else a) else a
/-- VNEG on a lane. -/
def laneNeg (lt : Nat) (a : Word) : Word := if lt = 0 then flush32 a ^^^ 0x80000000 else -a

/-- Is a lane less than another? -/
def laneLt (lt : Nat) (a b : Word) : Bool :=
  if lt = 0 then FV.lt (of32f a) (of32f b) else if lt = 1 then a.slt b else a.ult b

/-- Are two lanes equal? A NaN equals nothing, and the zeros are equal. -/
def laneEq (lt : Nat) (a b : Word) : Bool :=
  if lt = 0 then decide (of32f a ≠ .nan) && decide (of32f b ≠ .nan) && !laneLt 0 a b && !laneLt 0 b a else a == b

/-- VCMP on a lane (R110, R154). -/
def laneCmp (lt op : Nat) (a b : Word) : Bool :=
  match op with
  | 0 => laneEq lt a b
  | 1 => !laneEq lt a b
  | 2 => laneLt lt a b
  | 3 => laneLt lt a b || laneEq lt a b
  | 4 => laneLt lt b a
  | _ => laneLt lt b a || laneEq lt a b

/-- The lane that an unguarded lane enters a reduction as (R156). -/
def redIdle (lt : Nat) (max : Bool) : Word :=
  if max then (if lt = 0 then 0xFF800000 else if lt = 1 then 0x80000000 else 0) else 0

/-- One level of the binary tree of R156. -/
def redPairs (g : Word → Word → Word) : List Word → List Word
  | a :: b :: t => g a b :: redPairs g t
  | l => l

/-- The tree over 64 lanes. -/
def redTree (g : Word → Word → Word) (xs : List Word) : Word :=
  ((List.range 6).foldl (fun l _ => redPairs g l) xs).headD 0

/-! ### Issue -/

/-- Check the fields and modifiers of a vector instruction, then go on. -/
def State.vissue (s : State) (c : CellId) (opcode : Nat) (mods : BitVec 8) (fieldsOk fpOnly : Bool) (k : Cell → VMod → Issue) : State :=
  s.exec1 (cellIdx c) opcode fun x =>
    match vmod mods with
    | none => illegal s opcode
    | some m => enc s opcode (fieldsOk && !(fpOnly && m.lt != 0)) (k x m)

/-- A lanewise instruction of one source. -/
def State.vun (s : State) (c : CellId) (f : FA) (opcode : Nat) (fpOnly : Bool) (g : Nat → Word → Word) : State :=
  s.vissue c opcode f.mods (faClean f true true false false false) fpOnly fun x m =>
    .ok (s.setCell (cellIdx c) (x.blend m.guard f.rd.toNat ((x.vec f.ra.toNat).map (g m.lt)) (x.vpois f.ra.toNat)))

/-- A lanewise instruction of two sources. -/
def State.vbin (s : State) (c : CellId) (f : FA) (opcode : Nat) (g : Nat → Word → Word → Word) : State :=
  s.vissue c opcode f.mods (faClean f true true true false false) false fun x m =>
    .ok (s.setCell (cellIdx c) (x.blend m.guard f.rd.toNat
      (List.zipWith (g m.lt) (x.vec f.ra.toNat) (x.vec f.rb.toNat)) (x.vpois f.ra.toNat || x.vpois f.rb.toNat)))

/-- VADD. -/
def execVadd (c : CellId) (f : FA) (s : State) : Host.Outcome State Fault Refusal := .next (s.vbin c f 0x50 laneAdd)
/-- VSUB. -/
def execVsub (c : CellId) (f : FA) (s : State) : Host.Outcome State Fault Refusal := .next (s.vbin c f 0x51 laneSub)
/-- VMUL. -/
def execVmul (c : CellId) (f : FA) (s : State) : Host.Outcome State Fault Refusal := .next (s.vbin c f 0x52 laneMul)

/-- VFMA. -/
def execVfma (c : CellId) (f : FA) (s : State) : Host.Outcome State Fault Refusal :=
  .next (s.vissue c 0x53 f.mods (faClean f true true true true false) false fun x m =>
    .ok (s.setCell (cellIdx c) (x.blend m.guard f.rd.toNat
      (List.zipWith (fun ab c => laneFma m.lt ab.1 ab.2 c) ((x.vec f.ra.toNat).zip (x.vec f.rb.toNat)) (x.vec f.rc.toNat))
      (x.vpois f.ra.toNat || x.vpois f.rb.toNat || x.vpois f.rc.toNat))))

/-- VMAX. -/
def execVmax (c : CellId) (f : FA) (s : State) : Host.Outcome State Fault Refusal := .next (s.vbin c f 0x54 laneMax)
/-- VMIN. -/
def execVmin (c : CellId) (f : FA) (s : State) : Host.Outcome State Fault Refusal := .next (s.vbin c f 0x55 laneMin)
/-- VABS. -/
def execVabs (c : CellId) (f : FA) (s : State) : Host.Outcome State Fault Refusal := .next (s.vun c f 0x56 false laneAbs)
/-- VNEG. -/
def execVneg (c : CellId) (f : FA) (s : State) : Host.Outcome State Fault Refusal := .next (s.vun c f 0x57 false laneNeg)
/-- VEXP2. -/
def execVexp2 (c : CellId) (f : FA) (s : State) : Host.Outcome State Fault Refusal := .next (s.vun c f 0x58 true fun _ => exp2w)
/-- VLOG2. -/
def execVlog2 (c : CellId) (f : FA) (s : State) : Host.Outcome State Fault Refusal := .next (s.vun c f 0x59 true fun _ => log2w)
/-- VRCP. -/
def execVrcp (c : CellId) (f : FA) (s : State) : Host.Outcome State Fault Refusal := .next (s.vun c f 0x5A true fun _ => rcpw)
/-- VRSQRT. -/
def execVrsqrt (c : CellId) (f : FA) (s : State) : Host.Outcome State Fault Refusal := .next (s.vun c f 0x5B true fun _ => rsqrtw)

/-- A reduction: the guard chooses the input lanes, every lane of the result is written (R110, R156). -/
def State.vred (s : State) (c : CellId) (f : FA) (opcode : Nat) (max : Bool) (g : Nat → Word → Word → Word) : State :=
  s.vissue c opcode f.mods (faClean f true true false false false) false fun x m =>
    let xs := x.pick m.guard (x.vec f.ra.toNat) (List.replicate 64 (redIdle m.lt max))
    .ok (s.setCell (cellIdx c) (x.setVec f.rd.toNat (List.replicate 64 (redTree (g m.lt) xs)) (x.vpois f.ra.toNat)))

/-- VREDSUM. -/
def execVredsum (c : CellId) (f : FA) (s : State) : Host.Outcome State Fault Refusal := .next (s.vred c f 0x5C false laneAdd)
/-- VREDMAX. -/
def execVredmax (c : CellId) (f : FA) (s : State) : Host.Outcome State Fault Refusal := .next (s.vred c f 0x5D true laneMax)

/-- A mask of 64 bits from a function of the lane. -/
def maskOf (g : Nat → Bool) : Word64 := (List.range 64).foldl (fun m i => if g i then m ||| BitVec.ofNat 64 (2 ^ i) else m) 0

/-- TILE_CHECK that traps whatever EMASK holds: poisoned data would leave the v and a registers (R113). -/
def poisonTrap (s : State) (opcode : Nat) (da : Option Nat) : Issue := .ex 1 true s s da opcode

/-- VCMP. -/
def execVcmp (c : CellId) (f : FA) (s : State) : Host.Outcome State Fault Refusal :=
  .next (s.vissue c 0x5E f.mods
    (faClean f true true true false true && decide (f.rd.toNat < 8) && decide (f.imm12.toNat < 6)) false fun x m =>
    if x.vpois f.ra.toNat || x.vpois f.rb.toNat then poisonTrap s 0x5E none
    else
      let a := x.vec f.ra.toNat
      let b := x.vec f.rb.toNat
      let old := x.pr f.rd.toNat
      .ok (s.setCell (cellIdx c) (x.setP f.rd.toNat
        (maskOf fun i => if x.laneOn m.guard i then laneCmp m.lt f.imm12.toNat (a.getD i 0) (b.getD i 0) else old.getLsbD i))))

/-- VSEL. -/
def execVsel (c : CellId) (f : FA) (s : State) : Host.Outcome State Fault Refusal :=
  .next (s.vissue c 0x5F f.mods (faClean f true true true true false && decide (f.rc.toNat < 8)) false fun x m =>
    .ok (s.setCell (cellIdx c) (x.blend m.guard f.rd.toNat
      (x.pick (some f.rc.toNat) (x.vec f.ra.toNat) (x.vec f.rb.toNat)) (x.vpois f.ra.toNat || x.vpois f.rb.toNat))))

/-- VBCAST. -/
def execVbcast (c : CellId) (f : FA) (s : State) : Host.Outcome State Fault Refusal :=
  .next (s.vissue c 0x60 f.mods (faClean f true true false false false) false fun x m =>
    .ok (s.setCell (cellIdx c) (x.blend m.guard f.rd.toNat (List.replicate 64 ((x.sr f.ra.toNat).setWidth 32)) false)))

/-- VEXTR. -/
def execVextr (c : CellId) (f : FA) (s : State) : Host.Outcome State Fault Refusal :=
  .next (s.vissue c 0x61 f.mods (faClean f true true true false false) false fun x _ =>
    if x.vpois f.ra.toNat then poisonTrap s 0x61 none
    else .ok (s.setCell (cellIdx c) (x.setS f.rd.toNat
      (((x.vec f.ra.toNat).getD (shamt (x.sr f.rb.toNat)) 0).setWidth 64))))

/-- Words from bytes. -/
def bytesToWords : List Byte → List Word
  | a :: b :: c :: d :: t => BitVec.ofNat 32 (ofBytesLE [a, b, c, d]) :: bytesToWords t
  | _ => []

/-- Bytes from words. -/
def wordsToBytes (xs : List Word) : List Byte := xs.flatMap fun w => toBytesLE 4 w.toNat

/-- Does a read of a range touch a tile whose trailer carries the poison flag (R112)? -/
def State.tilePoison (s : State) (v : View) (da len : Nat) : Bool :=
  s.trg.any fun kv =>
    let r := kv.2
    r.valid && rangesMeet da len r.base r.size &&
      ((List.range (len / (max r.slot 1) + 2)).any fun i =>
        let j := (da - r.base) / (max r.slot 1) + i
        decide (j < r.count) && rangesMeet da len (r.base + j * r.slot) r.slot && (s.trailerPE v (r.trl + 8 * j)).poison)

/-- VLD (R112, R185). -/
def execVld (c : CellId) (f : FB) (pe : PortEv) (s : State) : Host.Outcome State Fault Refusal :=
  .next (s.vissue c 0x62 f.mods (fbClean f true true true) false fun x m =>
    let da := x.ea f
    if da % 4 ≠ 0 || !s.cellLocal (cellIdx c) da 256 then addrFault s 0x62 da
    else
      let v := s.viewNow pe
      let s := s.meet pe da 256
      let new := bytesToWords (s.readPE v da 256)
      portIssue ((s.eccRead da 256).setCell (cellIdx c) (x.blend m.guard f.rd.toNat new (s.poisonRange da 256 || s.tilePoison v da 256)))
        v da 256 false 0x62)

/-- Store the guarded lanes of a vector. -/
def State.storeLanes (s : State) (x : Cell) (g : Option Nat) (v : View) (da : Nat) (xs : List Word) : State :=
  (List.range 64).foldl (fun t i =>
    if x.laneOn g i then t.writePE v (da + 4 * i) (toBytesLE 4 (xs.getD i 0).toNat) else t) s

/-- VST (R112, R113, R180). -/
def execVst (c : CellId) (f : FB) (pe : PortEv) (s : State) : Host.Outcome State Fault Refusal :=
  .next (s.vissue c 0x63 f.mods (fbClean f true true true) false fun x m =>
    let da := x.ea f
    if da % 4 ≠ 0 || !s.cellLocal (cellIdx c) da 256 || s.writeBarred da 256 then addrFault s 0x63 da
    else if x.vpois f.rd.toNat then poisonTrap s 0x63 (some da)
    else
      match m.guard with
      | none => s.storeIssue x pe da (wordsToBytes (x.vec f.rd.toNat)) 0x63
      | some _ =>
        if !s.plcOk x.wu x.epoch then .ex 2 false s.discard s.discard (some da) 0x63
        else portIssue (s.storeLanes x m.guard (s.viewNow pe) da (x.vec f.rd.toNat)) (s.viewNow pe) da 256 true 0x63)

/-- VROWR. -/
def execVrowr (c : CellId) (f : FA) (s : State) : Host.Outcome State Fault Refusal :=
  .next (s.vissue c 0x64 f.mods (faClean f true true true false false && decide (f.ra.toNat < 8)) false fun x m =>
    if x.tqUses f.ra.toNat then .stall
    else .ok (s.setCell (cellIdx c) (x.blend m.guard f.rd.toNat (x.accRow f.ra.toNat (shamt (x.sr f.rb.toNat))) (x.apois f.ra.toNat))))

/-- VROWW: an accumulator keeps its poison (R186). -/
def execVroww (c : CellId) (f : FA) (s : State) : Host.Outcome State Fault Refusal :=
  .next (s.vissue c 0x65 f.mods (faClean f true true true false false && decide (f.rd.toNat < 8)) false fun x m =>
    let a := f.rd.toNat
    let row := shamt (x.sr f.rb.toNat)
    if x.tqUses a then .stall
    else .ok (s.setCell (cellIdx c) (x.setAccRow a row (x.pick m.guard (x.vec f.ra.toNat) (x.accRow a row))
      (x.apois a || x.vpois f.ra.toNat))))

/-- An accumulator whose row i is scaled by lane i where lane i is guarded on. -/
def Cell.rescaled (c : Cell) (g : Option Nat) (a : Nat) (xs : List Word) : List Word :=
  (List.range 64).flatMap fun i =>
    let row := c.accRow a i
    if c.laneOn g i then row.map fun w => laneMul 0 w (xs.getD i 0) else row

/-- VRESC. (DEDUCED, log 15) -/
def execVresc (c : CellId) (f : FA) (s : State) : Host.Outcome State Fault Refusal :=
  .next (s.vissue c 0x66 f.mods (faClean f true true false false false && decide (f.rd.toNat < 8)) true fun x m =>
    let a := f.rd.toNat
    if x.tqUses a then .stall
    else .ok (s.setCell (cellIdx c) (x.setAcc a (x.rescaled m.guard a (x.vec f.ra.toNat)) (x.apois a || x.vpois f.ra.toNat))))

/-- The factor of VSMAX (R110, R155): 1 where va equals vd, else 2^(va − vd). -/
def smaxFactor (a d : Word) : Word :=
  if laneEq 0 a d then 0x3F800000
  else exp2v (Config.exp2 (to32 ((of32f a).add (of32f d).neg))) ((of32f a).add (of32f d).neg)

/-- VSMAX. -/
def execVsmax (c : CellId) (f : FA) (s : State) : Host.Outcome State Fault Refusal :=
  .next (s.vissue c 0x67 f.mods (faClean f true true true false false && decide (f.rd.toNat % 2 = 0)) true fun x m =>
    let va := x.vec f.ra.toNat
    let vd := List.zipWith (laneMax 0) va (x.vec f.rb.toNat)
    let p := x.vpois f.ra.toNat || x.vpois f.rb.toNat
    .ok (s.setCell (cellIdx c)
      ((x.blend m.guard f.rd.toNat vd p).blend m.guard (f.rd.toNat + 1) (List.zipWith smaxFactor va vd) p)))

/-- The 16-bit format of a code (R136). -/
def fmt16 : Nat → Option FpFmt
  | 2 => some bf16
  | 3 => some fp16
  | _ => none

/-- Words of two 16-bit halves, the low half first. -/
def packHalves : List Nat → List Word
  | a :: b :: t => BitVec.ofNat 32 (a + b * 65536) :: packHalves t
  | _ => []

/-- VPACK (R157). -/
def execVpack (c : CellId) (f : FA) (s : State) : Host.Outcome State Fault Refusal :=
  .next (s.vissue c 0x68 f.mods (faClean f true true true false true) false fun x m =>
    match fmt16 f.imm12.toNat with
    | none => illegal s 0x68
    | some g =>
      .ok (s.setCell (cellIdx c) (x.blend m.guard f.rd.toNat
        (packHalves ((x.vec f.ra.toNat ++ x.vec f.rb.toNat).map fun w => g.enc .rne (of32f w)))
        (x.vpois f.ra.toNat || x.vpois f.rb.toNat))))

/-- VUNPK (R157). -/
def execVunpk (c : CellId) (f : FA) (s : State) : Host.Outcome State Fault Refusal :=
  .next (s.vissue c 0x69 f.mods (faClean f true true false false true && decide (f.imm12.toNat < 512)) false fun x m =>
    match fmt16 (f.imm12.toNat % 256) with
    | none => illegal s 0x69
    | some g =>
      let half := ((x.vec f.ra.toNat).drop (32 * (f.imm12.toNat / 256))).take 32
      .ok (s.setCell (cellIdx c) (x.blend m.guard f.rd.toNat
        ((half.flatMap fun w => [w.toNat % 65536, w.toNat / 65536]).map fun h => to32g (g.dec h)) (x.vpois f.ra.toNat))))

/-- PSET. -/
def execPset (c : CellId) (f : FA) (s : State) : Host.Outcome State Fault Refusal :=
  .next (s.vissue c 0x6A f.mods (faClean f true true false false false && decide (f.rd.toNat < 8)) false fun x _ =>
    .ok (s.setCell (cellIdx c) (x.setP f.rd.toNat (x.sr f.ra.toNat))))

/-- PGET. -/
def execPget (c : CellId) (f : FA) (s : State) : Host.Outcome State Fault Refusal :=
  .next (s.vissue c 0x6B f.mods (faClean f true true false false false && decide (f.ra.toNat < 8)) false fun x _ =>
    .ok (s.setCell (cellIdx c) (x.setS f.rd.toNat (x.pr f.ra.toNat))))

end Sys2Proof.Machine
end

