-- ==== Sys2Proof/Machine/Dispatch.lean ====
section
/-! DEFINITION. The dispatch: one arm per command of the table, each one direct call of its meaning. -/

namespace Sys2Proof.Machine

def exec (i : Instr) (s : State) : Host.Outcome State Fault Refusal :=
  match i with
  | .registerWrite o off width v hw => Sys2Proof.Machine.execRegisterWrite o off width v hw s
  | .lockBlock o v => Sys2Proof.Machine.execLockBlock o v s
  | .commandEnqueue iss bytes => Sys2Proof.Machine.execCommandEnqueue iss bytes s
  | .commandStart r => Sys2Proof.Machine.execCommandStart r s
  | .commandComplete r id => Sys2Proof.Machine.execCommandComplete r id s
  | .run r id => Sys2Proof.Machine.execRun r id s
  | .split r id => Sys2Proof.Machine.execSplit r id s
  | .moveReachCommand r id pe => Sys2Proof.Machine.execMoveReachCommand r id pe s
  | .signalReachCommand r id => Sys2Proof.Machine.execSignalReachCommand r id s
  | .waitReachCommand r id => Sys2Proof.Machine.execWaitReachCommand r id s
  | .giveReachCommand r id => Sys2Proof.Machine.execGiveReachCommand r id s
  | .place id => Sys2Proof.Machine.execPlace id s
  | .placeRelease id => Sys2Proof.Machine.execPlaceRelease id s
  | .placementCopyAck id dev st copy => Sys2Proof.Machine.execPlacementCopyAck id dev st copy s
  | .migrateDrain id => Sys2Proof.Machine.execMigrateDrain id s
  | .migrateFence id pe => Sys2Proof.Machine.execMigrateFence id pe s
  | .drainedToken item => Sys2Proof.Machine.execDrainedToken item s
  | .fenceUnitResolved item wu report pe => Sys2Proof.Machine.execFenceUnitResolved item wu report pe s
  | .poolCapacityWrite o off v => Sys2Proof.Machine.execPoolCapacityWrite o off v s
  | .nop c f => Sys2Proof.Machine.execNop c f s
  | .halt c f => Sys2Proof.Machine.execHalt c f s
  | .trap c f => Sys2Proof.Machine.execTrap c f s
  | .fence c f => Sys2Proof.Machine.execFence c f s
  | .sread c f => Sys2Proof.Machine.execSread c f s
  | .swrite c f => Sys2Proof.Machine.execSwrite c f s
  | .add c f => Sys2Proof.Machine.execAdd c f s
  | .sub c f => Sys2Proof.Machine.execSub c f s
  | .mul c f => Sys2Proof.Machine.execMul c f s
  | .mulhu c f => Sys2Proof.Machine.execMulhu c f s
  | .and c f => Sys2Proof.Machine.execAnd c f s
  | .or c f => Sys2Proof.Machine.execOr c f s
  | .xor c f => Sys2Proof.Machine.execXor c f s
  | .shl c f => Sys2Proof.Machine.execShl c f s
  | .shr c f => Sys2Proof.Machine.execShr c f s
  | .sra c f => Sys2Proof.Machine.execSra c f s
  | .min c f => Sys2Proof.Machine.execMin c f s
  | .max c f => Sys2Proof.Machine.execMax c f s
  | .slt c f => Sys2Proof.Machine.execSlt c f s
  | .sltu c f => Sys2Proof.Machine.execSltu c f s
  | .sel c f => Sys2Proof.Machine.execSel c f s
  | .li c f => Sys2Proof.Machine.execLi c f s
  | .addi c f => Sys2Proof.Machine.execAddi c f s
  | .ld c f pe => Sys2Proof.Machine.execLd c f pe s
  | .st c f pe => Sys2Proof.Machine.execSt c f pe s
  | .aadd c f pe => Sys2Proof.Machine.execAadd c f pe s
  | .acas c f pe => Sys2Proof.Machine.execAcas c f pe s
  | .br c f => Sys2Proof.Machine.execBr c f s
  | .jmp c f => Sys2Proof.Machine.execJmp c f s
  | .jal c f => Sys2Proof.Machine.execJal c f s
  | .jr c f => Sys2Proof.Machine.execJr c f s
  | .bp c f => Sys2Proof.Machine.execBp c f s
  | .mma c f => Sys2Proof.Machine.execMma c f s
  | .accz c f => Sys2Proof.Machine.execAccz c f s
  | .accld c f => Sys2Proof.Machine.execAccld c f s
  | .accst c f => Sys2Proof.Machine.execAccst c f s
  | .dld c f pe => Sys2Proof.Machine.execDld c f pe s
  | .dst c f pe => Sys2Proof.Machine.execDst c f pe s
  | .dadd c f => Sys2Proof.Machine.execDadd c f s
  | .vadd c f => Sys2Proof.Machine.execVadd c f s
  | .vsub c f => Sys2Proof.Machine.execVsub c f s
  | .vmul c f => Sys2Proof.Machine.execVmul c f s
  | .vfma c f => Sys2Proof.Machine.execVfma c f s
  | .vmax c f => Sys2Proof.Machine.execVmax c f s
  | .vmin c f => Sys2Proof.Machine.execVmin c f s
  | .vabs c f => Sys2Proof.Machine.execVabs c f s
  | .vneg c f => Sys2Proof.Machine.execVneg c f s
  | .vexp2 c f => Sys2Proof.Machine.execVexp2 c f s
  | .vlog2 c f => Sys2Proof.Machine.execVlog2 c f s
  | .vrcp c f => Sys2Proof.Machine.execVrcp c f s
  | .vrsqrt c f => Sys2Proof.Machine.execVrsqrt c f s
  | .vredsum c f => Sys2Proof.Machine.execVredsum c f s
  | .vredmax c f => Sys2Proof.Machine.execVredmax c f s
  | .vcmp c f => Sys2Proof.Machine.execVcmp c f s
  | .vsel c f => Sys2Proof.Machine.execVsel c f s
  | .vbcast c f => Sys2Proof.Machine.execVbcast c f s
  | .vextr c f => Sys2Proof.Machine.execVextr c f s
  | .vld c f pe => Sys2Proof.Machine.execVld c f pe s
  | .vst c f pe => Sys2Proof.Machine.execVst c f pe s
  | .vrowr c f => Sys2Proof.Machine.execVrowr c f s
  | .vroww c f => Sys2Proof.Machine.execVroww c f s
  | .vresc c f => Sys2Proof.Machine.execVresc c f s
  | .vsmax c f => Sys2Proof.Machine.execVsmax c f s
  | .vpack c f => Sys2Proof.Machine.execVpack c f s
  | .vunpk c f => Sys2Proof.Machine.execVunpk c f s
  | .pset c f => Sys2Proof.Machine.execPset c f s
  | .pget c f => Sys2Proof.Machine.execPget c f s
  | .move c f pe => Sys2Proof.Machine.execMove c f pe s
  | .signal c f => Sys2Proof.Machine.execSignal c f s
  | .wait c f => Sys2Proof.Machine.execWait c f s
  | .waitTimeout c => Sys2Proof.Machine.execWaitTimeout c s
  | .take c f => Sys2Proof.Machine.execTake c f s
  | .give c f => Sys2Proof.Machine.execGive c f s
  | .tread c f => Sys2Proof.Machine.execTread c f s
  | .oproj c f => Sys2Proof.Machine.execOproj c f s
  | .wq c f => Sys2Proof.Machine.execWq c f s
  | .est c f => Sys2Proof.Machine.execEst c f s
  | .bound c f => Sys2Proof.Machine.execBound c f s
  | .cellWake c => Sys2Proof.Machine.execCellWake c s
  | .tensorEntryComplete c pe => Sys2Proof.Machine.execTensorEntryComplete c pe s
  | .asyncCompletion c id => Sys2Proof.Machine.execAsyncCompletion c id s
  | .runComplete c => Sys2Proof.Machine.execRunComplete c s
  | .trgSelect o v => Sys2Proof.Machine.execTrgSelect o v s
  | .trgCommit o v => Sys2Proof.Machine.execTrgCommit o v s
  | .trgInvalidate o v => Sys2Proof.Machine.execTrgInvalidate o v s
  | .trgCommitDone pe => Sys2Proof.Machine.execTrgCommitDone pe s
  | .moveComplete id pe => Sys2Proof.Machine.execMoveComplete id pe s
  | .bar4Read off len pe => Sys2Proof.Machine.execBar4Read off len pe s
  | .bar4Write off data poisoned pe => Sys2Proof.Machine.execBar4Write off data poisoned pe s
  | .weirCommandStart n => Sys2Proof.Machine.execWeirCommandStart n s
  | .weirCommandComplete n id => Sys2Proof.Machine.execWeirCommandComplete n id s
  | .append n id => Sys2Proof.Machine.execAppend n id s
  | .attend n id pe => Sys2Proof.Machine.execAttend n id pe s
  | .foldCommand n id pe => Sys2Proof.Machine.execFoldCommand n id pe s
  | .gather n id pe => Sys2Proof.Machine.execGather n id pe s
  | .requant n id => Sys2Proof.Machine.execRequant n id s
  | .evictTruncate n id => Sys2Proof.Machine.execEvictTruncate n id s
  | .evictDrop n id => Sys2Proof.Machine.execEvictDrop n id s
  | .evictUndrop n id => Sys2Proof.Machine.execEvictUndrop n id s
  | .evictRelease n id => Sys2Proof.Machine.execEvictRelease n id s
  | .resummarizeRecompute n id => Sys2Proof.Machine.execResummarizeRecompute n id s
  | .resummarizeInstall n id => Sys2Proof.Machine.execResummarizeInstall n id s
  | .tileFold n x => Sys2Proof.Machine.execTileFold n x s
  | .kvPartWrite o v => Sys2Proof.Machine.execKvPartWrite o v s
  | .slotSelect o v => Sys2Proof.Machine.execSlotSelect o v s
  | .slotCreate o v => Sys2Proof.Machine.execSlotCreate o v s
  | .slotUpdatePolicy o v => Sys2Proof.Machine.execSlotUpdatePolicy o v s
  | .slotRelease o v => Sys2Proof.Machine.execSlotRelease o v s
  | .slotActionDone => Sys2Proof.Machine.execSlotActionDone s
  | .cuJobStart t => Sys2Proof.Machine.execCuJobStart t s
  | .cuJobComplete t pe => Sys2Proof.Machine.execCuJobComplete t pe s
  | .weightLoad t o v => Sys2Proof.Machine.execWeightLoad t o v s
  | .weightLoadDone t pe => Sys2Proof.Machine.execWeightLoadDone t pe s
  | .weightCommit t => Sys2Proof.Machine.execWeightCommit t s
  | .commitSettleEnd t failed => Sys2Proof.Machine.execCommitSettleEnd t failed s
  | .takenBoundary t => Sys2Proof.Machine.execTakenBoundary t s
  | .forcedBoundary t => Sys2Proof.Machine.execForcedBoundary t s
  | .rowCalibrationEnd t verified gainBad => Sys2Proof.Machine.execRowCalibrationEnd t verified gainBad s
  | .bankUnlock t => Sys2Proof.Machine.execBankUnlock t s
  | .bankRelock t overMs => Sys2Proof.Machine.execBankRelock t overMs s
  | .forceFallback t o v => Sys2Proof.Machine.execForceFallback t o v s
  | .rotationEnable t o v => Sys2Proof.Machine.execRotationEnable t o v s
  | .recalRequest t o v => Sys2Proof.Machine.execRecalRequest t o v s
  | .characterisationDone t healthy => Sys2Proof.Machine.execCharacterisationDone t healthy s
  | .fadeEvaluation sp meas => Sys2Proof.Machine.execFadeEvaluation sp meas s
  | .laserLowOutput sp laser mw => Sys2Proof.Machine.execLaserLowOutput sp laser mw s
  | .sparePrewarmLocked sp spare => Sys2Proof.Machine.execSparePrewarmLocked sp spare s
  | .handoverSchedule sp => Sys2Proof.Machine.execHandoverSchedule sp s
  | .handoverSwap sp => Sys2Proof.Machine.execHandoverSwap sp s
  | .spareLock sp => Sys2Proof.Machine.execSpareLock sp s
  | .spareLockTimeout sp => Sys2Proof.Machine.execSpareLockTimeout sp s
  | .handoverComplete sp => Sys2Proof.Machine.execHandoverComplete sp s
  | .handoverAbandon sp => Sys2Proof.Machine.execHandoverAbandon sp s
  | .handoverRequest o v => Sys2Proof.Machine.execHandoverRequest o v s
  | .referenceLoss => Sys2Proof.Machine.execReferenceLoss s
  | .referenceReturn => Sys2Proof.Machine.execReferenceReturn s
  | .laserLockUpdate sp laser errMHz need mw => Sys2Proof.Machine.execLaserLockUpdate sp laser errMHz need mw s
  | .ringLoopUpdate ring detuneMHz => Sys2Proof.Machine.execRingLoopUpdate ring detuneMHz s
  | .calDump o v => Sys2Proof.Machine.execCalDump o v s
  | .calLoad o v => Sys2Proof.Machine.execCalLoad o v s
  | .calDone pe => Sys2Proof.Machine.execCalDone pe s
  | .opticsBringup failedRings slowRings => Sys2Proof.Machine.execOpticsBringup failedRings slowRings s
  | .flitSend src dst vc first payload source ready => Sys2Proof.Machine.execFlitSend src dst vc first payload source ready s
  | .flitReceive src dst words => Sys2Proof.Machine.execFlitReceive src dst words s
  | .bedAlign src dst words => Sys2Proof.Machine.execBedAlign src dst words s
  | .bedTs1 lane blocks => Sys2Proof.Machine.execBedTs1 lane blocks s
  | .bedTs2 lane blocks => Sys2Proof.Machine.execBedTs2 lane blocks s
  | .bedRetire src dst words => Sys2Proof.Machine.execBedRetire src dst words s
  | .bedAdmit src dst words => Sys2Proof.Machine.execBedAdmit src dst words s
  | .bedReqRetire src dst words => Sys2Proof.Machine.execBedReqRetire src dst words s
  | .bedBoundary src dst c => Sys2Proof.Machine.execBedBoundary src dst c s
  | .bedCreditTimeout src dst => Sys2Proof.Machine.execBedCreditTimeout src dst s
  | .bedLaneErrorLimit lane => Sys2Proof.Machine.execBedLaneErrorLimit lane s
  | .bedReqRetireTimeout src dst => Sys2Proof.Machine.execBedReqRetireTimeout src dst s
  | .bedTrainingStart src dst => Sys2Proof.Machine.execBedTrainingStart src dst s
  | .bedTrainingDone src dst failed => Sys2Proof.Machine.execBedTrainingDone src dst failed s
  | .bedQuickTrainingDone src dst lane ok => Sys2Proof.Machine.execBedQuickTrainingDone src dst lane ok s
  | .laneRetrainWaitEnd lane => Sys2Proof.Machine.execLaneRetrainWaitEnd lane s
  | .bedDownRetry src dst => Sys2Proof.Machine.execBedDownRetry src dst s
  | .bedLinkRetrain o v => Sys2Proof.Machine.execBedLinkRetrain o v s
  | .bedLaneRetire o v => Sys2Proof.Machine.execBedLaneRetire o v s
  | .bedLaneReadmit o v => Sys2Proof.Machine.execBedLaneReadmit o v s
  | .packetSend p vc pkt => Sys2Proof.Machine.execPacketSend p vc pkt s
  | .packetReceive p data ebFault => Sys2Proof.Machine.execPacketReceive p data ebFault s
  | .status p blocks readBad => Sys2Proof.Machine.execStatus p blocks readBad s
  | .portTs1 p fiber line blocks => Sys2Proof.Machine.execPortTs1 p fiber line blocks s
  | .portTs2 p fiber line blocks => Sys2Proof.Machine.execPortTs2 p fiber line blocks s
  | .portRetire p blocks readBad => Sys2Proof.Machine.execPortRetire p blocks readBad s
  | .portAdmit p blocks readBad => Sys2Proof.Machine.execPortAdmit p blocks readBad s
  | .portReqRetire p blocks readBad => Sys2Proof.Machine.execPortReqRetire p blocks readBad s
  | .portBoundary p c => Sys2Proof.Machine.execPortBoundary p c s
  | .ackTimeout p readBad => Sys2Proof.Machine.execAckTimeout p readBad s
  | .portCreditTimeout p => Sys2Proof.Machine.execPortCreditTimeout p s
  | .statusMissing p => Sys2Proof.Machine.execStatusMissing p s
  | .portReqRetireTimeout p => Sys2Proof.Machine.execPortReqRetireTimeout p s
  | .portLockLoss p => Sys2Proof.Machine.execPortLockLoss p s
  | .lockTimeout p => Sys2Proof.Machine.execLockTimeout p s
  | .portLaneErrorLimit p line => Sys2Proof.Machine.execPortLaneErrorLimit p line s
  | .portLaneTrainingDone p line ok => Sys2Proof.Machine.execPortLaneTrainingDone p line ok s
  | .lightSettled p => Sys2Proof.Machine.execLightSettled p s
  | .portTrainingStart p => Sys2Proof.Machine.execPortTrainingStart p s
  | .portTrainingDone p ok rate rtt failed peerTag peerPort peerSession => Sys2Proof.Machine.execPortTrainingDone p ok rate rtt failed peerTag peerPort peerSession s
  | .portTrainingRetry p => Sys2Proof.Machine.execPortTrainingRetry p s
  | .portRetrainRequest p o v => Sys2Proof.Machine.execPortRetrainRequest p o v s
  | .standbyIdleExpiry p => Sys2Proof.Machine.execStandbyIdleExpiry p s
  | .standbyExit p => Sys2Proof.Machine.execStandbyExit p s
  | .portDeepEntry p => Sys2Proof.Machine.execPortDeepEntry p s
  | .portDeepExit p => Sys2Proof.Machine.execPortDeepExit p s
  | .deepWakeTimeout p => Sys2Proof.Machine.execDeepWakeTimeout p s
  | .graceExpiry p => Sys2Proof.Machine.execGraceExpiry p s
  | .receiveDark p => Sys2Proof.Machine.execReceiveDark p s
  | .lightPresent p => Sys2Proof.Machine.execLightPresent p s
  | .portEnable p o v => Sys2Proof.Machine.execPortEnable p o v s
  | .portDisable p o v => Sys2Proof.Machine.execPortDisable p o v s
  | .enableLightTimeout p => Sys2Proof.Machine.execEnableLightTimeout p s
  | .probeCycle p => Sys2Proof.Machine.execProbeCycle p s
  | .probeWindowEnd p => Sys2Proof.Machine.execProbeWindowEnd p s
  | .serviceButtonPress d => Sys2Proof.Machine.execServiceButtonPress d s
  | .svcQuiesce d o v => Sys2Proof.Machine.execSvcQuiesce d o v s
  | .svcCancel d o v => Sys2Proof.Machine.execSvcCancel d o v s
  | .longPress d => Sys2Proof.Machine.execLongPress d s
  | .quiesceDrainEnd p => Sys2Proof.Machine.execQuiesceDrainEnd p s
  | .quiesceLimit d => Sys2Proof.Machine.execQuiesceLimit d s
  | .cancelBlinkEnd d => Sys2Proof.Machine.execCancelBlinkEnd d s
  | .portLaneRetire p o v => Sys2Proof.Machine.execPortLaneRetire p o v s
  | .portLaneReadmit p o v => Sys2Proof.Machine.execPortLaneReadmit p o v s
  | .read port p pe => Sys2Proof.Machine.execRead port p pe s
  | .write port p pe => Sys2Proof.Machine.execWrite port p pe s
  | .atomic port p pe => Sys2Proof.Machine.execAtomic port p pe s
  | .foldPacket port p => Sys2Proof.Machine.execFoldPacket port p s
  | .tokenSignal port p => Sys2Proof.Machine.execTokenSignal port p s
  | .readData port p pe => Sys2Proof.Machine.execReadData port p pe s
  | .writeAck port p => Sys2Proof.Machine.execWriteAck port p s
  | .atomicData port p => Sys2Proof.Machine.execAtomicData port p s
  | .regRead port p => Sys2Proof.Machine.execRegRead port p s
  | .regWrite port p => Sys2Proof.Machine.execRegWrite port p s
  | .reachCmd port p => Sys2Proof.Machine.execReachCmd port p s
  | .query port p => Sys2Proof.Machine.execQuery port p s
  | .assign port p => Sys2Proof.Machine.execAssign port p s
  | .mgmtResponse port p => Sys2Proof.Machine.execMgmtResponse port p s
  | .mgmtForward port p => Sys2Proof.Machine.execMgmtForward port p s
  | .packetForward port vc p => Sys2Proof.Machine.execPacketForward port vc p s
  | .hello port m => Sys2Proof.Machine.execHello port m s
  | .helloSend port => Sys2Proof.Machine.execHelloSend port s
  | .managerTimeout => Sys2Proof.Machine.execManagerTimeout s
  | .trackerTimeout d idx => Sys2Proof.Machine.execTrackerTimeout d idx s
  | .quarantineExpiry d idx => Sys2Proof.Machine.execQuarantineExpiry d idx s
  | .flowExpiry die dev => Sys2Proof.Machine.execFlowExpiry die dev s
  | .heartbeat d pier role mask changes => Sys2Proof.Machine.execHeartbeat d pier role mask changes s
  | .heartbeatSend d => Sys2Proof.Machine.execHeartbeatSend d s
  | .pierSilent d pier => Sys2Proof.Machine.execPierSilent d pier s
  | .kSidebandSilent d => Sys2Proof.Machine.execKSidebandSilent d s
  | .takeoverReport d => Sys2Proof.Machine.execTakeoverReport d s
  | .forceStandby => Sys2Proof.Machine.execForceStandby s
  | .forceStandbyRepeat => Sys2Proof.Machine.execForceStandbyRepeat s
  | .yieldComplete => Sys2Proof.Machine.execYieldComplete s
  | .resyncRearm => Sys2Proof.Machine.execResyncRearm s
  | .routeSelect o v => Sys2Proof.Machine.execRouteSelect o v s
  | .routeCommit o v => Sys2Proof.Machine.execRouteCommit o v s
  | .switchback o => Sys2Proof.Machine.execSwitchback o s
  | .switchbackAll o => Sys2Proof.Machine.execSwitchbackAll o s
  | .rearm o => Sys2Proof.Machine.execRearm o s
  | .rearmAll o => Sys2Proof.Machine.execRearmAll o s
  | .deviceIdWrite o v => Sys2Proof.Machine.execDeviceIdWrite o v s
  | .sqDoorbell off width v => Sys2Proof.Machine.execSqDoorbell off width v s
  | .cqHeadDoorbell off width v => Sys2Proof.Machine.execCqHeadDoorbell off width v s
  | .sqFetch q entry => Sys2Proof.Machine.execSqFetch q entry s
  | .nopEntry q idx => Sys2Proof.Machine.execNopEntry q idx s
  | .dmaIn q idx data poisonedTlps hostOk pe => Sys2Proof.Machine.execDmaIn q idx data poisonedTlps hostOk pe s
  | .dmaOut q idx pe => Sys2Proof.Machine.execDmaOut q idx pe s
  | .weirEntry q idx block => Sys2Proof.Machine.execWeirEntry q idx block s
  | .mgmtEntry q idx payload => Sys2Proof.Machine.execMgmtEntry q idx payload s
  | .cqCompletionWrite cq => Sys2Proof.Machine.execCqCompletionWrite cq s
  | .cqCoalTimeout cq => Sys2Proof.Machine.execCqCoalTimeout cq s
  | .sqEnable o v => Sys2Proof.Machine.execSqEnable o v s
  | .sqDisable o v => Sys2Proof.Machine.execSqDisable o v s
  | .cqEnable o v => Sys2Proof.Machine.execCqEnable o v s
  | .cqDisable o v => Sys2Proof.Machine.execCqDisable o v s
  | .flr => Sys2Proof.Machine.execFlr s
  | .ideKm stream key => Sys2Proof.Machine.execIdeKm stream key s
  | .ideIntegrityFailure stream => Sys2Proof.Machine.execIdeIntegrityFailure stream s
  | .aoTick => Sys2Proof.Machine.execAoTick s
  | .aoclkLoss => Sys2Proof.Machine.execAoclkLoss s
  | .aoclkReturn => Sys2Proof.Machine.execAoclkReturn s
  | .refclkLoss => Sys2Proof.Machine.execRefclkLoss s
  | .dvfsRequest t o v => Sys2Proof.Machine.execDvfsRequest t o v s
  | .vack t seq => Sys2Proof.Machine.execVack t seq s
  | .vreqRepeat t => Sys2Proof.Machine.execVreqRepeat t s
  | .dvfsSwitch t => Sys2Proof.Machine.execDvfsSwitch t s
  | .clusterClockGate t c => Sys2Proof.Machine.execClusterClockGate t c s
  | .refill railsUj peaks => Sys2Proof.Machine.execRefill railsUj peaks s
  | .energySave => Sys2Proof.Machine.execEnergySave s
  | .sensorConversion sensor t16 => Sys2Proof.Machine.execSensorConversion sensor t16 s
  | .sensorMean sensor t16 limitCode stuck => Sys2Proof.Machine.execSensorMean sensor t16 limitCode stuck s
  | .fastModeExit dom => Sys2Proof.Machine.execFastModeExit dom s
  | .ghostPhaseEnd sensor => Sys2Proof.Machine.execGhostPhaseEnd sensor s
  | .thermtrip sensor => Sys2Proof.Machine.execThermtrip sensor s
  | .pstateSlack o v => Sys2Proof.Machine.execPstateSlack o v s
  | .pstateStill o v => Sys2Proof.Machine.execPstateStill o v s
  | .pstateActive o v => Sys2Proof.Machine.execPstateActive o v s
  | .slackDrainDone => Sys2Proof.Machine.execSlackDrainDone s
  | .slackEntryTimeout => Sys2Proof.Machine.execSlackEntryTimeout s
  | .stillWake i3c => Sys2Proof.Machine.execStillWake i3c s
  | .newNonce o => Sys2Proof.Machine.execNewNonce o s
  | .debugObserve o jtag => Sys2Proof.Machine.execDebugObserve o jtag s
  | .debugInvasive o jtag => Sys2Proof.Machine.execDebugInvasive o jtag s
  | .claim o jtag => Sys2Proof.Machine.execClaim o jtag s
  | .release o jtag => Sys2Proof.Machine.execRelease o jtag s
  | .returnTok o jtag => Sys2Proof.Machine.execReturnTok o jtag s
  | .scrap o jtag => Sys2Proof.Machine.execScrap o jtag s
  | .policy o jtag => Sys2Proof.Machine.execPolicy o jtag s
  | .provision pubKeys certs => Sys2Proof.Machine.execProvision pubKeys certs s
  | .relock o v => Sys2Proof.Machine.execRelock o v s
  | .attest o v => Sys2Proof.Machine.execAttest o v s
  | .getMeasurements idx nonce => Sys2Proof.Machine.execGetMeasurements idx nonce s
  | .getCertificate => Sys2Proof.Machine.execGetCertificate s
  | .extend o v => Sys2Proof.Machine.execExtend o v s
  | .svnBurn o cls v => Sys2Proof.Machine.execSvnBurn o cls v s
  | .fwFetch o v image => Sys2Proof.Machine.execFwFetch o v image s
  | .jtagAccess wr space addr v => Sys2Proof.Machine.execJtagAccess wr space addr v s
  | .extest => Sys2Proof.Machine.execExtest s
  | .logAck o v => Sys2Proof.Machine.execLogAck o v s
  | .logNoteCommit o v => Sys2Proof.Machine.execLogNoteCommit o v s
  | .logRead o v => Sys2Proof.Machine.execLogRead o v s
  | .storeWrite => Sys2Proof.Machine.execStoreWrite s
  | .storeGateClose => Sys2Proof.Machine.execStoreGateClose s
  | .storeGateOpen => Sys2Proof.Machine.execStoreGateOpen s
  | .snapshotRequest o v => Sys2Proof.Machine.execSnapshotRequest o v s
  | .snapshotDone => Sys2Proof.Machine.execSnapshotDone s
  | .orderlyShutdown o v => Sys2Proof.Machine.execOrderlyShutdown o v s
  | .storeReset o v => Sys2Proof.Machine.execStoreReset o v s
  | .lifetimeCommit => Sys2Proof.Machine.execLifetimeCommit s
  | .ageingRecord means => Sys2Proof.Machine.execAgeingRecord means s
  | .hostSavedSave o v pe => Sys2Proof.Machine.execHostSavedSave o v pe s
  | .hostSavedLoad o v => Sys2Proof.Machine.execHostSavedLoad o v s
  | .pwrgoodAssert g => Sys2Proof.Machine.execPwrgoodAssert g s
  | .pwrgoodLoss g => Sys2Proof.Machine.execPwrgoodLoss g s
  | .coldReset manifest smallFabric badQuotes badStacks marchFaults => Sys2Proof.Machine.execColdReset manifest smallFabric badQuotes badStacks marchFaults s
  | .warmReset => Sys2Proof.Machine.execWarmReset s
  | .fabricReset o v => Sys2Proof.Machine.execFabricReset o v s
  | .dieHold o v => Sys2Proof.Machine.execDieHold o v s
  | .dieRelease o v quoteOk => Sys2Proof.Machine.execDieRelease o v quoteOk s
  | .bedLinkReset o v => Sys2Proof.Machine.execBedLinkReset o v s
  | .portReset o v => Sys2Proof.Machine.execPortReset o v s
  | .errorPop o v => Sys2Proof.Machine.execErrorPop o v s
  | .transparentTestRegion t failing pe => Sys2Proof.Machine.execTransparentTestRegion t failing pe s
  | .marchPass o v => Sys2Proof.Machine.execMarchPass o v s
  | .keystoneSidebandHeartbeat d => Sys2Proof.Machine.execKeystoneSidebandHeartbeat d s
  | .takeoverComplete d => Sys2Proof.Machine.execTakeoverComplete d s
  | .entropyHealthFailure => Sys2Proof.Machine.execEntropyHealthFailure s
  | .spdmKeyExchange => Sys2Proof.Machine.execSpdmKeyExchange s
  | .resizableBarSizeWrite size => Sys2Proof.Machine.execResizableBarSizeWrite size s
  | .attestationReportComplete pe => Sys2Proof.Machine.execAttestationReportComplete pe s
  | .tokenCheckComplete => Sys2Proof.Machine.execTokenCheckComplete s
  | .hostSavedOperationComplete pe => Sys2Proof.Machine.execHostSavedOperationComplete pe s
  | .marchPassComplete faults => Sys2Proof.Machine.execMarchPassComplete faults s

end Sys2Proof.Machine
end

