-- ==== Sys2Proof/Machine/CellWord.lean ====
section
/-! DEFINITION. The instruction words of a Krerad cell (R94 to R97): 128 bits, the opcode in [127:120], the modifiers in [119:112], the operands
in the format that the opcode names. A cell instruction reaches the model as a command whose operands are these fields; the two directions
here say which word each command stands for. -/

namespace Sys2Proof.Machine

/-- Format FA of a word (R94, R96). -/
def faOfWord (w : BitVec 128) : FA :=
  { mods := w.extractLsb' 112 8, rd := w.extractLsb' 107 5, ra := w.extractLsb' 102 5, rb := w.extractLsb' 97 5, rc := w.extractLsb' 92 5, imm12 := w.extractLsb' 80 12, rsv := w.extractLsb' 0 80 }

/-- The word of an opcode with operands of format FA. -/
def faToWord (op : BitVec 8) (f : FA) : BitVec 128 :=
  (op ++ f.mods ++ f.rd ++ f.ra ++ f.rb ++ f.rc ++ f.imm12 ++ f.rsv).cast (by decide)

/-- Format FB of a word (R94, R96). -/
def fbOfWord (w : BitVec 128) : FB :=
  { mods := w.extractLsb' 112 8, rd := w.extractLsb' 107 5, ra := w.extractLsb' 102 5, rsv := w.extractLsb' 64 38, imm64 := w.extractLsb' 0 64 }

/-- The word of an opcode with operands of format FB. -/
def fbToWord (op : BitVec 8) (f : FB) : BitVec 128 :=
  (op ++ f.mods ++ f.rd ++ f.ra ++ f.rsv ++ f.imm64).cast (by decide)

/-- Format FC of a word (R94, R96). -/
def fcOfWord (w : BitVec 128) : FC :=
  { mods := w.extractLsb' 112 8, ra := w.extractLsb' 107 5, rb := w.extractLsb' 102 5, rsv := w.extractLsb' 32 70, offset := w.extractLsb' 0 32 }

/-- The word of an opcode with operands of format FC. -/
def fcToWord (op : BitVec 8) (f : FC) : BitVec 128 :=
  (op ++ f.mods ++ f.ra ++ f.rb ++ f.rsv ++ f.offset).cast (by decide)

/-- Format FD of a word (R94, R96). -/
def fdOfWord (w : BitVec 128) : FD :=
  { mods := w.extractLsb' 112 8, acc := w.extractLsb' 107 5, ta := w.extractLsb' 102 5, tb := w.extractLsb' 97 5, oa := w.extractLsb' 92 5, k := w.extractLsb' 80 12, ob := w.extractLsb' 75 5, rsv := w.extractLsb' 0 75 }

/-- The word of an opcode with operands of format FD. -/
def fdToWord (op : BitVec 8) (f : FD) : BitVec 128 :=
  (op ++ f.mods ++ f.acc ++ f.ta ++ f.tb ++ f.oa ++ f.k ++ f.ob ++ f.rsv).cast (by decide)

/-- Format FE of a word (R94, R96). -/
def feOfWord (w : BitVec 128) : FE :=
  { mods := w.extractLsb' 112 8, src := w.extractLsb' 107 5, dst := w.extractLsb' 102 5, len := w.extractLsb' 97 5, sig := w.extractLsb' 92 5, token := w.extractLsb' 80 12, increment := w.extractLsb' 64 16, immA := w.extractLsb' 32 32, immB := w.extractLsb' 0 32 }

/-- The word of an opcode with operands of format FE. -/
def feToWord (op : BitVec 8) (f : FE) : BitVec 128 :=
  (op ++ f.mods ++ f.src ++ f.dst ++ f.len ++ f.sig ++ f.token ++ f.increment ++ f.immA ++ f.immB).cast (by decide)

/-- Format FF of a word (R94, R96). -/
def ffOfWord (w : BitVec 128) : FF :=
  { mods := w.extractLsb' 112 8, sa := w.extractLsb' 107 5, sb := w.extractLsb' 102 5, sc := w.extractLsb' 97 5, sd := w.extractLsb' 92 5, token := w.extractLsb' 80 12, increment := w.extractLsb' 64 16, tag := w.extractLsb' 48 16, imm16 := w.extractLsb' 32 16, imm32 := w.extractLsb' 0 32 }

/-- The word of an opcode with operands of format FF. -/
def ffToWord (op : BitVec 8) (f : FF) : BitVec 128 :=
  (op ++ f.mods ++ f.sa ++ f.sb ++ f.sc ++ f.sd ++ f.token ++ f.increment ++ f.tag ++ f.imm16 ++ f.imm32).cast (by decide)

/-- The instruction of cell `c` that a word holds; none where its opcode is reserved (R97). `pe` is what the two-ported memories do to its
access. (DESIGN CHOICE, log 11) -/
def decodeCell (c : CellId) (pe : PortEv) (w : BitVec 128) : Option Instr :=
  match (w.extractLsb' 120 8).toNat with
  | 0x00 => some (.nop c (faOfWord w))
  | 0x01 => some (.halt c (faOfWord w))
  | 0x02 => some (.trap c (fbOfWord w))
  | 0x03 => some (.fence c (faOfWord w))
  | 0x04 => some (.sread c (fbOfWord w))
  | 0x05 => some (.swrite c (fbOfWord w))
  | 0x10 => some (.add c (faOfWord w))
  | 0x11 => some (.sub c (faOfWord w))
  | 0x12 => some (.mul c (faOfWord w))
  | 0x13 => some (.mulhu c (faOfWord w))
  | 0x14 => some (.and c (faOfWord w))
  | 0x15 => some (.or c (faOfWord w))
  | 0x16 => some (.xor c (faOfWord w))
  | 0x17 => some (.shl c (faOfWord w))
  | 0x18 => some (.shr c (faOfWord w))
  | 0x19 => some (.sra c (faOfWord w))
  | 0x1A => some (.min c (faOfWord w))
  | 0x1B => some (.max c (faOfWord w))
  | 0x1C => some (.slt c (faOfWord w))
  | 0x1D => some (.sltu c (faOfWord w))
  | 0x1E => some (.sel c (faOfWord w))
  | 0x20 => some (.li c (fbOfWord w))
  | 0x21 => some (.addi c (fbOfWord w))
  | 0x22 => some (.ld c (fbOfWord w) pe)
  | 0x23 => some (.st c (fbOfWord w) pe)
  | 0x24 => some (.aadd c (faOfWord w) pe)
  | 0x25 => some (.acas c (faOfWord w) pe)
  | 0x30 => some (.br c (fcOfWord w))
  | 0x31 => some (.jmp c (fcOfWord w))
  | 0x32 => some (.jal c (fcOfWord w))
  | 0x33 => some (.jr c (fcOfWord w))
  | 0x34 => some (.bp c (fcOfWord w))
  | 0x40 => some (.mma c (fdOfWord w))
  | 0x41 => some (.accz c (fdOfWord w))
  | 0x42 => some (.accld c (fdOfWord w))
  | 0x43 => some (.accst c (fdOfWord w))
  | 0x44 => some (.dld c (fbOfWord w) pe)
  | 0x45 => some (.dst c (fbOfWord w) pe)
  | 0x46 => some (.dadd c (fbOfWord w))
  | 0x50 => some (.vadd c (faOfWord w))
  | 0x51 => some (.vsub c (faOfWord w))
  | 0x52 => some (.vmul c (faOfWord w))
  | 0x53 => some (.vfma c (faOfWord w))
  | 0x54 => some (.vmax c (faOfWord w))
  | 0x55 => some (.vmin c (faOfWord w))
  | 0x56 => some (.vabs c (faOfWord w))
  | 0x57 => some (.vneg c (faOfWord w))
  | 0x58 => some (.vexp2 c (faOfWord w))
  | 0x59 => some (.vlog2 c (faOfWord w))
  | 0x5A => some (.vrcp c (faOfWord w))
  | 0x5B => some (.vrsqrt c (faOfWord w))
  | 0x5C => some (.vredsum c (faOfWord w))
  | 0x5D => some (.vredmax c (faOfWord w))
  | 0x5E => some (.vcmp c (faOfWord w))
  | 0x5F => some (.vsel c (faOfWord w))
  | 0x60 => some (.vbcast c (faOfWord w))
  | 0x61 => some (.vextr c (faOfWord w))
  | 0x62 => some (.vld c (fbOfWord w) pe)
  | 0x63 => some (.vst c (fbOfWord w) pe)
  | 0x64 => some (.vrowr c (faOfWord w))
  | 0x65 => some (.vroww c (faOfWord w))
  | 0x66 => some (.vresc c (faOfWord w))
  | 0x67 => some (.vsmax c (faOfWord w))
  | 0x68 => some (.vpack c (faOfWord w))
  | 0x69 => some (.vunpk c (faOfWord w))
  | 0x6A => some (.pset c (faOfWord w))
  | 0x6B => some (.pget c (faOfWord w))
  | 0x70 => some (.move c (feOfWord w) pe)
  | 0x80 => some (.signal c (feOfWord w))
  | 0x81 => some (.wait c (feOfWord w))
  | 0x82 => some (.take c (feOfWord w))
  | 0x83 => some (.give c (feOfWord w))
  | 0x84 => some (.tread c (feOfWord w))
  | 0x90 => some (.oproj c (ffOfWord w))
  | 0x91 => some (.wq c (ffOfWord w))
  | 0x92 => some (.est c (ffOfWord w))
  | 0x93 => some (.bound c (ffOfWord w))
  | _ => none

/-- The word of a cell instruction; none for the commands that are no instruction. (DESIGN CHOICE, log 11) -/
def encodeCell : Instr → Option (BitVec 128)
  | .nop _ f => some (faToWord 0x00 f)
  | .halt _ f => some (faToWord 0x01 f)
  | .trap _ f => some (fbToWord 0x02 f)
  | .fence _ f => some (faToWord 0x03 f)
  | .sread _ f => some (fbToWord 0x04 f)
  | .swrite _ f => some (fbToWord 0x05 f)
  | .add _ f => some (faToWord 0x10 f)
  | .sub _ f => some (faToWord 0x11 f)
  | .mul _ f => some (faToWord 0x12 f)
  | .mulhu _ f => some (faToWord 0x13 f)
  | .and _ f => some (faToWord 0x14 f)
  | .or _ f => some (faToWord 0x15 f)
  | .xor _ f => some (faToWord 0x16 f)
  | .shl _ f => some (faToWord 0x17 f)
  | .shr _ f => some (faToWord 0x18 f)
  | .sra _ f => some (faToWord 0x19 f)
  | .min _ f => some (faToWord 0x1A f)
  | .max _ f => some (faToWord 0x1B f)
  | .slt _ f => some (faToWord 0x1C f)
  | .sltu _ f => some (faToWord 0x1D f)
  | .sel _ f => some (faToWord 0x1E f)
  | .li _ f => some (fbToWord 0x20 f)
  | .addi _ f => some (fbToWord 0x21 f)
  | .ld _ f _ => some (fbToWord 0x22 f)
  | .st _ f _ => some (fbToWord 0x23 f)
  | .aadd _ f _ => some (faToWord 0x24 f)
  | .acas _ f _ => some (faToWord 0x25 f)
  | .br _ f => some (fcToWord 0x30 f)
  | .jmp _ f => some (fcToWord 0x31 f)
  | .jal _ f => some (fcToWord 0x32 f)
  | .jr _ f => some (fcToWord 0x33 f)
  | .bp _ f => some (fcToWord 0x34 f)
  | .mma _ f => some (fdToWord 0x40 f)
  | .accz _ f => some (fdToWord 0x41 f)
  | .accld _ f => some (fdToWord 0x42 f)
  | .accst _ f => some (fdToWord 0x43 f)
  | .dld _ f _ => some (fbToWord 0x44 f)
  | .dst _ f _ => some (fbToWord 0x45 f)
  | .dadd _ f => some (fbToWord 0x46 f)
  | .vadd _ f => some (faToWord 0x50 f)
  | .vsub _ f => some (faToWord 0x51 f)
  | .vmul _ f => some (faToWord 0x52 f)
  | .vfma _ f => some (faToWord 0x53 f)
  | .vmax _ f => some (faToWord 0x54 f)
  | .vmin _ f => some (faToWord 0x55 f)
  | .vabs _ f => some (faToWord 0x56 f)
  | .vneg _ f => some (faToWord 0x57 f)
  | .vexp2 _ f => some (faToWord 0x58 f)
  | .vlog2 _ f => some (faToWord 0x59 f)
  | .vrcp _ f => some (faToWord 0x5A f)
  | .vrsqrt _ f => some (faToWord 0x5B f)
  | .vredsum _ f => some (faToWord 0x5C f)
  | .vredmax _ f => some (faToWord 0x5D f)
  | .vcmp _ f => some (faToWord 0x5E f)
  | .vsel _ f => some (faToWord 0x5F f)
  | .vbcast _ f => some (faToWord 0x60 f)
  | .vextr _ f => some (faToWord 0x61 f)
  | .vld _ f _ => some (fbToWord 0x62 f)
  | .vst _ f _ => some (fbToWord 0x63 f)
  | .vrowr _ f => some (faToWord 0x64 f)
  | .vroww _ f => some (faToWord 0x65 f)
  | .vresc _ f => some (faToWord 0x66 f)
  | .vsmax _ f => some (faToWord 0x67 f)
  | .vpack _ f => some (faToWord 0x68 f)
  | .vunpk _ f => some (faToWord 0x69 f)
  | .pset _ f => some (faToWord 0x6A f)
  | .pget _ f => some (faToWord 0x6B f)
  | .move _ f _ => some (feToWord 0x70 f)
  | .signal _ f => some (feToWord 0x80 f)
  | .wait _ f => some (feToWord 0x81 f)
  | .take _ f => some (feToWord 0x82 f)
  | .give _ f => some (feToWord 0x83 f)
  | .tread _ f => some (feToWord 0x84 f)
  | .oproj _ f => some (ffToWord 0x90 f)
  | .wq _ f => some (ffToWord 0x91 f)
  | .est _ f => some (ffToWord 0x92 f)
  | .bound _ f => some (ffToWord 0x93 f)
  | _ => none

/-- The cell of a cell instruction, and the port event it carries (none carried: clear). -/
def cellOf : Instr → Option (CellId × PortEv)
  | .nop c _ => some (c, .clear)
  | .halt c _ => some (c, .clear)
  | .trap c _ => some (c, .clear)
  | .fence c _ => some (c, .clear)
  | .sread c _ => some (c, .clear)
  | .swrite c _ => some (c, .clear)
  | .add c _ => some (c, .clear)
  | .sub c _ => some (c, .clear)
  | .mul c _ => some (c, .clear)
  | .mulhu c _ => some (c, .clear)
  | .and c _ => some (c, .clear)
  | .or c _ => some (c, .clear)
  | .xor c _ => some (c, .clear)
  | .shl c _ => some (c, .clear)
  | .shr c _ => some (c, .clear)
  | .sra c _ => some (c, .clear)
  | .min c _ => some (c, .clear)
  | .max c _ => some (c, .clear)
  | .slt c _ => some (c, .clear)
  | .sltu c _ => some (c, .clear)
  | .sel c _ => some (c, .clear)
  | .li c _ => some (c, .clear)
  | .addi c _ => some (c, .clear)
  | .ld c _ pe => some (c, pe)
  | .st c _ pe => some (c, pe)
  | .aadd c _ pe => some (c, pe)
  | .acas c _ pe => some (c, pe)
  | .br c _ => some (c, .clear)
  | .jmp c _ => some (c, .clear)
  | .jal c _ => some (c, .clear)
  | .jr c _ => some (c, .clear)
  | .bp c _ => some (c, .clear)
  | .mma c _ => some (c, .clear)
  | .accz c _ => some (c, .clear)
  | .accld c _ => some (c, .clear)
  | .accst c _ => some (c, .clear)
  | .dld c _ pe => some (c, pe)
  | .dst c _ pe => some (c, pe)
  | .dadd c _ => some (c, .clear)
  | .vadd c _ => some (c, .clear)
  | .vsub c _ => some (c, .clear)
  | .vmul c _ => some (c, .clear)
  | .vfma c _ => some (c, .clear)
  | .vmax c _ => some (c, .clear)
  | .vmin c _ => some (c, .clear)
  | .vabs c _ => some (c, .clear)
  | .vneg c _ => some (c, .clear)
  | .vexp2 c _ => some (c, .clear)
  | .vlog2 c _ => some (c, .clear)
  | .vrcp c _ => some (c, .clear)
  | .vrsqrt c _ => some (c, .clear)
  | .vredsum c _ => some (c, .clear)
  | .vredmax c _ => some (c, .clear)
  | .vcmp c _ => some (c, .clear)
  | .vsel c _ => some (c, .clear)
  | .vbcast c _ => some (c, .clear)
  | .vextr c _ => some (c, .clear)
  | .vld c _ pe => some (c, pe)
  | .vst c _ pe => some (c, pe)
  | .vrowr c _ => some (c, .clear)
  | .vroww c _ => some (c, .clear)
  | .vresc c _ => some (c, .clear)
  | .vsmax c _ => some (c, .clear)
  | .vpack c _ => some (c, .clear)
  | .vunpk c _ => some (c, .clear)
  | .pset c _ => some (c, .clear)
  | .pget c _ => some (c, .clear)
  | .move c _ pe => some (c, pe)
  | .signal c _ => some (c, .clear)
  | .wait c _ => some (c, .clear)
  | .take c _ => some (c, .clear)
  | .give c _ => some (c, .clear)
  | .tread c _ => some (c, .clear)
  | .oproj c _ => some (c, .clear)
  | .wq c _ => some (c, .clear)
  | .est c _ => some (c, .clear)
  | .bound c _ => some (c, .clear)
  | _ => none

/-! ### What a cell fetches (R92, R94, R97) -/

/-- The word at a cell's pc: 16 bytes, least significant first (R94). -/
def State.fetchWord (s : State) (ci : Nat) : BitVec 128 := BitVec.ofNat 128 (ofBytesLE (s.readMem (s.cell ci).pc 16))

/-- The cell of an index. -/
def cellIdOf (ci : Nat) : CellId :=
  { die := ⟨ci / 256 % 4, by omega⟩, cluster := ⟨ci / 16 % 16, by omega⟩, cell := ⟨ci % 16, by omega⟩ }

/-- Does a cell stand ready before a word that holds a reserved opcode (R97)? -/
def State.atReserved (s : State) (ci : Nat) : Bool :=
  s.cellReady ci && s.fetchOk ci (s.cell ci).pc && (decodeCell (cellIdOf ci) .clear (s.fetchWord ci)).isNone

end Sys2Proof.Machine
end

