-- ==== Sys2Proof/Machine/Idle.lean ====
section
/-! DEFINITION. What the device does of itself while no command waits: a cell that stands before a reserved opcode raises ILLEGAL_OP (R97), and
the senders of Bed links and ports put on the line what waits for it (R334, R358). -/

namespace Sys2Proof.Machine

/-- What the device does while no command waits: the first cell, in ascending index, that stands before a reserved opcode raises
ILLEGAL_OP (R97); else the first Bed link with something to send puts a codeword period on the line; else the first such port a
superframe; else nothing. (DESIGN CHOICE, log 11) (DEDUCED, log 61) (DESIGN CHOICE, log 1) -/
def State.idleStep (s : State) : State :=
  match (s.cells.map (·.1)).find? s.atReserved with
  | some ci =>
    let op := ((s.fetchWord ci).extractLsb' 120 8).toNat
    s.exec1 ci op fun _ => illegal s op
  | none =>
    match (s.bed.links.map (·.1)).find? s.linkBusy with
    | some k => s.sendPeriod (k / 32) (k % 32)
    | none =>
      match (s.ports.map (·.1)).find? s.portBusy with
      | some p => s.sendFrame p
      | none => s

end Sys2Proof.Machine
end

