-- ==== Sys2Proof/WellFormed.lean ====
section
/-! DEFINITION. Well-formed commands: the ranges that the spec gives the operands of each command. A command outside them is nothing that the
device can be sent; `Machine.exec` is total all the same. -/

namespace Sys2Proof

/-- The die codes of R353: T0–T3, W0–W15, S0, S1 and K. -/
def isDie (d : Nat) : Bool := decide (d ≤ 22)

/-- Bytes that are absent, or between `lo` and `hi` long. -/
def lenIn (l : Option (List Byte)) (lo hi : Nat) : Bool :=
  match l with | none => true | some b => decide (lo ≤ b.length) && decide (b.length ≤ hi)

/-- The field widths of a packet header (R426), and a payload in 32-byte units. -/
def Packet.wf (p : Packet) : Bool :=
  decide (p.dst < 262144) && decide (p.hops < 64) && decide (p.type < 256) && decide (p.src < 262144) && decide (p.srcDie < 32) &&
  decide (p.trk < 2) && decide (p.mod < 256) && decide (p.tag < 1048576) && decide (p.gen < 16) && decide (p.status < 256) &&
  decide (p.flowSeq < 2 ^ 32) && decide (p.addr < 2 ^ 48) && decide (p.workUnit < 2 ^ 32) && decide (p.epoch < 256) && decide (p.flags < 256) &&
  p.payload.length % 32 == 0

/-- A data tile to be folded: its device address and its trailer's fields (R176). -/
def FoldIn.wf (x : FoldIn) : Bool :=
  decide (x.dest < 2 ^ 46) && decide (x.fmt < 16) && decide (x.workUnit < 2 ^ 32) && decide (x.epoch < 256)

/-- The field widths of a placement copy: those of the entry that the home holds (R72, R86). -/
def PlcCopy.wf (x : PlcCopy) : Bool :=
  decide (x.home < 262144) && decide (x.item < 4096) && decide (x.state < 4) && decide (x.device < 262144) && decide (x.epoch < 256) &&
  x.dests.all (fun d => decide (d < 262144)) && decide (x.oldDevice < 262144) && decide (x.newDevice < 262144)

/-- The field widths of a HELLO (R430). -/
def HelloMsg.wf (m : HelloMsg) : Bool :=
  m.digest.length == 64 && (m.mgrDigest.length == 0 || m.mgrDigest.length == 64) && decide (m.port < 16) && decide (m.devId < 262144) &&
  decide (m.distance < 64) && decide (m.seq < 2 ^ 32) && decide (m.events < 2 ^ 32) && decide (m.mgrSeq < 2 ^ 32)

/-- A submission queue that exists (R465). -/
def Issuer.wf : Issuer → Bool
  | .sq q _ => decide (q < 256)
  | .parent _ _ | .mgmt | .none => true

/-- The bank word of a conflict and the place of an ECC error are device addresses (R168, R170); a bank word has 128 bytes. -/
def PortEv.wf : PortEv → Bool
  | .clear => true
  | .later _ w d | .earlier _ w d _ => decide (w < 2 ^ 46) && decide (d.length ≤ 128)
  | .corrected a | .uncorrectable a => decide (a < 2 ^ 46)

/-- Is a command well-formed? -/
def Instr.wf : Instr → Bool
  | .registerWrite _ off width _ _ => decide (off < 0x4000000) && (width == 32 || width == 64)
  | .lockBlock _ _ => true
  | .commandEnqueue iss bytes => Issuer.wf iss && (bytes.length == 64)
  | .commandStart _ => true
  | .commandComplete _ _ => true
  | .run _ _ => true
  | .split _ _ => true
  | .moveReachCommand _ _ pe => PortEv.wf pe
  | .signalReachCommand _ _ => true
  | .waitReachCommand _ _ => true
  | .giveReachCommand _ _ => true
  | .place _ => true
  | .placeRelease _ => true
  | .placementCopyAck _ dev code copy => decide (dev < 262144) && decide (code < 256) && (match copy with | some x => PlcCopy.wf x | none => true)
  | .migrateDrain _ => true
  | .migrateFence _ pe => PortEv.wf pe
  | .drainedToken _ => true
  | .fenceUnitResolved _ _ report pe => report.all (fun l => l.all fun u => decide (u.1 < 2 ^ 32 ∧ u.2 < 4)) && PortEv.wf pe
  | .poolCapacityWrite _ off _ => decide (off < 0x4000000)
  | .nop _ _ => true
  | .halt _ _ => true
  | .trap _ _ => true
  | .fence _ _ => true
  | .sread _ _ => true
  | .swrite _ _ => true
  | .add _ _ => true
  | .sub _ _ => true
  | .mul _ _ => true
  | .mulhu _ _ => true
  | .and _ _ => true
  | .or _ _ => true
  | .xor _ _ => true
  | .shl _ _ => true
  | .shr _ _ => true
  | .sra _ _ => true
  | .min _ _ => true
  | .max _ _ => true
  | .slt _ _ => true
  | .sltu _ _ => true
  | .sel _ _ => true
  | .li _ _ => true
  | .addi _ _ => true
  | .ld _ _ pe => PortEv.wf pe
  | .st _ _ pe => PortEv.wf pe
  | .aadd _ _ pe => PortEv.wf pe
  | .acas _ _ pe => PortEv.wf pe
  | .br _ _ => true
  | .jmp _ _ => true
  | .jal _ _ => true
  | .jr _ _ => true
  | .bp _ _ => true
  | .mma _ _ => true
  | .accz _ _ => true
  | .accld _ _ => true
  | .accst _ _ => true
  | .dld _ _ pe => PortEv.wf pe
  | .dst _ _ pe => PortEv.wf pe
  | .dadd _ _ => true
  | .vadd _ _ => true
  | .vsub _ _ => true
  | .vmul _ _ => true
  | .vfma _ _ => true
  | .vmax _ _ => true
  | .vmin _ _ => true
  | .vabs _ _ => true
  | .vneg _ _ => true
  | .vexp2 _ _ => true
  | .vlog2 _ _ => true
  | .vrcp _ _ => true
  | .vrsqrt _ _ => true
  | .vredsum _ _ => true
  | .vredmax _ _ => true
  | .vcmp _ _ => true
  | .vsel _ _ => true
  | .vbcast _ _ => true
  | .vextr _ _ => true
  | .vld _ _ pe => PortEv.wf pe
  | .vst _ _ pe => PortEv.wf pe
  | .vrowr _ _ => true
  | .vroww _ _ => true
  | .vresc _ _ => true
  | .vsmax _ _ => true
  | .vpack _ _ => true
  | .vunpk _ _ => true
  | .pset _ _ => true
  | .pget _ _ => true
  | .move _ _ pe => PortEv.wf pe
  | .signal _ _ => true
  | .wait _ _ => true
  | .waitTimeout _ => true
  | .take _ _ => true
  | .give _ _ => true
  | .tread _ _ => true
  | .oproj _ _ => true
  | .wq _ _ => true
  | .est _ _ => true
  | .bound _ _ => true
  | .cellWake _ => true
  | .tensorEntryComplete _ pe => PortEv.wf pe
  | .asyncCompletion _ _ => true
  | .runComplete _ => true
  | .trgSelect _ _ => true
  | .trgCommit _ _ => true
  | .trgInvalidate _ _ => true
  | .trgCommitDone pe => PortEv.wf pe
  | .moveComplete _ pe => PortEv.wf pe
  | .bar4Read _ _ pe => PortEv.wf pe
  | .bar4Write _ _ _ pe => PortEv.wf pe
  | .weirCommandStart _ => true
  | .weirCommandComplete _ _ => true
  | .append _ _ => true
  | .attend _ _ pe => PortEv.wf pe
  | .foldCommand _ _ pe => PortEv.wf pe
  | .gather _ _ pe => PortEv.wf pe
  | .requant _ _ => true
  | .evictTruncate _ _ => true
  | .evictDrop _ _ => true
  | .evictUndrop _ _ => true
  | .evictRelease _ _ => true
  | .resummarizeRecompute _ _ => true
  | .resummarizeInstall _ _ => true
  | .tileFold _ x => FoldIn.wf x
  | .kvPartWrite _ _ => true
  | .slotSelect _ _ => true
  | .slotCreate _ _ => true
  | .slotUpdatePolicy _ _ => true
  | .slotRelease _ _ => true
  | .slotActionDone => true
  | .cuJobStart _ => true
  | .cuJobComplete _ pe => PortEv.wf pe
  | .weightLoad _ _ _ => true
  | .weightLoadDone _ pe => PortEv.wf pe
  | .weightCommit _ => true
  | .commitSettleEnd _ failed => failed.all (fun p => decide (p < 272))
  | .takenBoundary _ => true
  | .forcedBoundary _ => true
  | .rowCalibrationEnd _ _ _ => true
  | .bankUnlock _ => true
  | .bankRelock _ _ => true
  | .forceFallback _ _ _ => true
  | .rotationEnable _ _ _ => true
  | .recalRequest _ _ _ => true
  | .characterisationDone _ healthy => decide (healthy ≤ 272)
  | .fadeEvaluation _ meas => meas.all (fun m => decide (m.1 < 80))
  | .laserLowOutput _ laser _ => decide (laser < 80)
  | .sparePrewarmLocked _ spare => decide (spare < 16)
  | .handoverSchedule _ => true
  | .handoverSwap _ => true
  | .spareLock _ => true
  | .spareLockTimeout _ => true
  | .handoverComplete _ => true
  | .handoverAbandon _ => true
  | .handoverRequest _ _ => true
  | .referenceLoss => true
  | .referenceReturn => true
  | .laserLockUpdate _ laser _ _ _ => decide (laser < 80)
  | .ringLoopUpdate ring _ => decide (ring < 78656)
  | .calDump _ _ => true
  | .calLoad _ _ => true
  | .calDone pe => PortEv.wf pe
  | .opticsBringup failedRings slowRings => failedRings.all (fun i => decide (i < 78656)) && slowRings.all (fun i => decide (i < 78656))
  | .flitSend src dest vc _ payload _ ready => isDie src && isDie dest && decide (vc < 8) && decide (payload.length ≤ 64) && ready.all (fun y => decide (y.2 < 8))
  | .flitReceive src dest words => isDie src && isDie dest && words.all (fun w => decide (w.1 < 3840))
  | .bedAlign src dest words => isDie src && isDie dest && words.all (fun w => decide (w.1 < 3840))
  | .bedTs1 lane _ => decide (lane < 3840)
  | .bedTs2 lane _ => decide (lane < 3840)
  | .bedRetire src dest words => isDie src && isDie dest && words.all (fun w => decide (w.1 < 3840))
  | .bedAdmit src dest words => isDie src && isDie dest && words.all (fun w => decide (w.1 < 3840))
  | .bedReqRetire src dest words => isDie src && isDie dest && words.all (fun w => decide (w.1 < 3840))
  | .bedBoundary src dest c => isDie src && isDie dest && decide (c < 2 ^ 32)
  | .bedCreditTimeout src dest => isDie src && isDie dest
  | .bedLaneErrorLimit lane => decide (lane < 3840)
  | .bedReqRetireTimeout src dest => isDie src && isDie dest
  | .bedTrainingStart src dest => isDie src && isDie dest
  | .bedTrainingDone src dest _ => isDie src && isDie dest
  | .bedQuickTrainingDone src dest lane _ => isDie src && isDie dest && (match lane with | some i => decide (i < 3840) | none => true)
  | .laneRetrainWaitEnd lane => decide (lane < 3840)
  | .bedDownRetry src dest => isDie src && isDie dest
  | .bedLinkRetrain _ _ => true
  | .bedLaneRetire _ _ => true
  | .bedLaneReadmit _ _ => true
  | .packetSend _ vc pkt => decide (vc < 5) && Packet.wf pkt
  | .packetReceive _ data _ => data.all (fun b => decide (b.1 < 34))
  | .status _ blocks _ => blocks.all (fun b => decide (b.1 < 34))
  | .portTs1 _ fiber line _ => decide (fiber < 34) && decide (line < 34)
  | .portTs2 _ fiber line _ => decide (fiber < 34) && decide (line < 34)
  | .portRetire _ blocks _ => blocks.all (fun b => decide (b.1 < 34))
  | .portAdmit _ blocks _ => blocks.all (fun b => decide (b.1 < 34))
  | .portReqRetire _ blocks _ => blocks.all (fun b => decide (b.1 < 34))
  | .portBoundary _ c => decide (c < 2 ^ 32)
  | .ackTimeout _ _ => true
  | .portCreditTimeout _ => true
  | .statusMissing _ => true
  | .portReqRetireTimeout _ => true
  | .portLockLoss _ => true
  | .lockTimeout _ => true
  | .portLaneErrorLimit _ line => decide (line < 34)
  | .portLaneTrainingDone _ line _ => decide (line < 34)
  | .lightSettled _ => true
  | .portTrainingStart _ => true
  | .portTrainingDone _ _ rate _ _ peerTag peerPort peerSession => decide (rate < 3) && decide (peerTag < 2 ^ 64) && decide (peerPort < 16) && decide (peerSession < 65536)
  | .portTrainingRetry _ => true
  | .portRetrainRequest _ _ _ => true
  | .standbyIdleExpiry _ => true
  | .standbyExit _ => true
  | .portDeepEntry _ => true
  | .portDeepExit _ => true
  | .deepWakeTimeout _ => true
  | .graceExpiry _ => true
  | .receiveDark _ => true
  | .lightPresent _ => true
  | .portEnable _ _ _ => true
  | .portDisable _ _ _ => true
  | .enableLightTimeout _ => true
  | .probeCycle _ => true
  | .probeWindowEnd _ => true
  | .serviceButtonPress _ => true
  | .svcQuiesce _ _ _ => true
  | .svcCancel _ _ _ => true
  | .longPress _ => true
  | .quiesceDrainEnd _ => true
  | .quiesceLimit _ => true
  | .cancelBlinkEnd _ => true
  | .portLaneRetire _ _ _ => true
  | .portLaneReadmit _ _ _ => true
  | .read _ p pe => Packet.wf p && PortEv.wf pe
  | .write _ p pe => Packet.wf p && PortEv.wf pe
  | .atomic _ p pe => Packet.wf p && PortEv.wf pe
  | .foldPacket _ p => Packet.wf p
  | .tokenSignal _ p => Packet.wf p
  | .readData _ p pe => Packet.wf p && PortEv.wf pe
  | .writeAck _ p => Packet.wf p
  | .atomicData _ p => Packet.wf p
  | .regRead _ p => Packet.wf p
  | .regWrite _ p => Packet.wf p
  | .reachCmd _ p => Packet.wf p
  | .query _ p => Packet.wf p
  | .assign _ p => Packet.wf p
  | .mgmtResponse _ p => Packet.wf p
  | .mgmtForward _ p => Packet.wf p
  | .packetForward _ vc p => decide (vc < 5) && Packet.wf p
  | .hello _ m => HelloMsg.wf m
  | .helloSend _ => true
  | .managerTimeout => true
  | .trackerTimeout _ idx => decide (idx < 1048576)
  | .quarantineExpiry _ idx => decide (idx < 1048576)
  | .flowExpiry die dev => decide (die < 32) && decide (dev < 262144)
  | .heartbeat _ pier _ _ _ => decide (pier < 2)
  | .heartbeatSend _ => true
  | .pierSilent _ pier => decide (pier < 2)
  | .kSidebandSilent _ => true
  | .takeoverReport _ => true
  | .forceStandby => true
  | .forceStandbyRepeat => true
  | .yieldComplete => true
  | .resyncRearm => true
  | .routeSelect _ _ => true
  | .routeCommit _ _ => true
  | .switchback _ => true
  | .switchbackAll _ => true
  | .rearm _ => true
  | .rearmAll _ => true
  | .deviceIdWrite _ _ => true
  | .sqDoorbell off width _ => decide (off < 0x1000000) && (width == 1 || width == 2 || width == 4 || width == 8)
  | .cqHeadDoorbell off width _ => decide (off < 0x1000000) && (width == 1 || width == 2 || width == 4 || width == 8)
  | .sqFetch q entry => decide (q < 256) && lenIn entry 64 64
  | .nopEntry q _ => decide (q < 256)
  | .dmaIn q idx _ _ _ pe => decide (q < 256) && decide (idx < 1024) && PortEv.wf pe
  | .dmaOut q idx pe => decide (q < 256) && decide (idx < 1024) && PortEv.wf pe
  | .weirEntry q _ block => decide (q < 256) && lenIn block 64 65536
  | .mgmtEntry q _ payload => decide (q < 256) && lenIn payload 0 256
  | .cqCompletionWrite cq => decide (cq < 256)
  | .cqCoalTimeout cq => decide (cq < 256)
  | .sqEnable _ _ => true
  | .sqDisable _ _ => true
  | .cqEnable _ _ => true
  | .cqDisable _ _ => true
  | .flr => true
  | .ideKm stream _ => decide (stream < 8)
  | .ideIntegrityFailure stream => decide (stream < 8)
  | .aoTick => true
  | .aoclkLoss => true
  | .aoclkReturn => true
  | .refclkLoss => true
  | .dvfsRequest _ _ _ => true
  | .vack _ seq => decide (seq < 256)
  | .vreqRepeat _ => true
  | .dvfsSwitch _ => true
  | .clusterClockGate _ _ => true
  | .refill railsUj _ => (railsUj.length == 12)
  | .energySave => true
  | .sensorConversion sensor _ => decide (sensor < 436)
  | .sensorMean sensor _ _ _ => decide (sensor < 436)
  | .fastModeExit dom => decide (dom < 5)
  | .ghostPhaseEnd sensor => decide (sensor < 436)
  | .thermtrip sensor => decide (sensor < 436)
  | .pstateSlack _ _ => true
  | .pstateStill _ _ => true
  | .pstateActive _ _ => true
  | .slackDrainDone => true
  | .slackEntryTimeout => true
  | .stillWake _ => true
  | .newNonce _ => true
  | .debugObserve _ _ => true
  | .debugInvasive _ _ => true
  | .claim _ _ => true
  | .release _ _ => true
  | .returnTok _ _ => true
  | .scrap _ _ => true
  | .policy _ _ => true
  | .provision pubKeys _ => (pubKeys.length == 23)
  | .relock _ _ => true
  | .attest _ _ => true
  | .getMeasurements _ nonce => (nonce.length == 32)
  | .getCertificate => true
  | .extend _ _ => true
  | .svnBurn _ _ _ => true
  | .fwFetch _ _ _ => true
  | .jtagAccess _ _ _ _ => true
  | .extest => true
  | .logAck _ _ => true
  | .logNoteCommit _ _ => true
  | .logRead _ _ => true
  | .storeWrite => true
  | .storeGateClose => true
  | .storeGateOpen => true
  | .snapshotRequest _ _ => true
  | .snapshotDone => true
  | .orderlyShutdown _ _ => true
  | .storeReset _ _ => true
  | .lifetimeCommit => true
  | .ageingRecord _ => true
  | .hostSavedSave _ _ pe => PortEv.wf pe
  | .hostSavedLoad _ _ => true
  | .pwrgoodAssert _ => true
  | .pwrgoodLoss _ => true
  | .coldReset _ _ _ _ _ => true
  | .warmReset => true
  | .fabricReset _ _ => true
  | .dieHold _ _ => true
  | .dieRelease _ _ _ => true
  | .bedLinkReset _ _ => true
  | .portReset _ _ => true
  | .errorPop _ _ => true
  | .transparentTestRegion _ failing pe => failing.all (fun w => decide (w < 32)) && PortEv.wf pe
  | .marchPass _ _ => true
  | .keystoneSidebandHeartbeat _ => true
  | .takeoverComplete _ => true
  | .entropyHealthFailure => true
  | .spdmKeyExchange => true
  | .resizableBarSizeWrite size => decide (size < 64)
  | .attestationReportComplete pe => PortEv.wf pe
  | .tokenCheckComplete => true
  | .hostSavedOperationComplete pe => PortEv.wf pe
  | .marchPassComplete _ => true

end Sys2Proof
end

