-- ==== Sys2Proof/Safety.lean ====
section
/-! DEFINITION. What counts as a safe run, in the terms the statements use: a step that answers a next state, the canonical form
of memory, and the rows grouped by what they may touch. -/

namespace Sys2Proof.Machine

/-- The canonical form of memory: bytes by strictly rising address with no zero listed (an unlisted address reads as zero), and
uncorrectable units by strictly rising address with none listed that holds no error. (DESIGN CHOICE, log 4) -/
def Memory.wf (m : Mem) : Bool := twf 0 m.bytes && twf false m.bad

/-- A step answered a next state: neither a fault nor a refusal. -/
def answersNext (o : Host.Outcome State Fault Refusal) : Bool :=
  match o with
  | .next _ => true
  | _ => false

/-- A run of n steps is safe where every step answers a next state. -/
def safeRun : Nat → State → Bool
  | 0, _ => true
  | n + 1, s =>
    match step s with
    | .next t => safeRun n t
    | _ => false

/-- The instruction at a cell's pc can issue: the cell's die runs and is awake, the cell runs a program and is not blocked, and the pc
lies in its own memory or its die's pool (R91, R92, R506). -/
def State.runs (s : State) (c : CellId) : Bool :=
  s.cellReady (cellIdx c) && s.fetchOk (cellIdx c) (s.cell (cellIdx c)).pc

/-- The cell that a command names. -/
def State.at (s : State) (c : CellId) : Cell := s.cell (cellIdx c)

/-- The device with cell c become `x`, its pc moved on by one instruction (R94). -/
def State.ran (s : State) (c : CellId) (x : Cell) : State := s.setCell (cellIdx c) { x with pc := (x.pc + 16) % 2 ^ 46 }

/-- The device with cell c become `x`, at a branch's target (R103). -/
def State.jumped (s : State) (c : CellId) (x : Cell) (pc : Nat) : State := s.setCell (cellIdx c) { x with pc }

/-- The parts of the state, but the queue of commands. -/
inductive SPart where
  | freeIdx | opNext | outbox | fuses | ticks | regs | mem | trg | trgCommit | reaches | plc | cells | seedBase | moves
  | weirs | slots | slotAct | cus | optics | bed | ports | svcs | fab | hq | nrg | sec | log | store | errSeq | err | test
  | pwr | clash
deriving DecidableEq, Repr

/-- Every part of the state but those named, and the queue of commands, is the same in both states: the frame of a row. -/
def keeps (s t : State) (but : List SPart) : Prop :=
  t.pending = s.pending ∧
  (SPart.freeIdx ∈ but ∨ t.freeIdx = s.freeIdx) ∧
  (SPart.opNext ∈ but ∨ t.opNext = s.opNext) ∧
  (SPart.outbox ∈ but ∨ t.outbox = s.outbox) ∧
  (SPart.fuses ∈ but ∨ t.fuses = s.fuses) ∧
  (SPart.ticks ∈ but ∨ t.ticks = s.ticks) ∧
  (SPart.regs ∈ but ∨ t.regs = s.regs) ∧
  (SPart.mem ∈ but ∨ t.mem = s.mem) ∧
  (SPart.trg ∈ but ∨ t.trg = s.trg) ∧
  (SPart.trgCommit ∈ but ∨ t.trgCommit = s.trgCommit) ∧
  (SPart.reaches ∈ but ∨ t.reaches = s.reaches) ∧
  (SPart.plc ∈ but ∨ t.plc = s.plc) ∧
  (SPart.cells ∈ but ∨ t.cells = s.cells) ∧
  (SPart.seedBase ∈ but ∨ t.seedBase = s.seedBase) ∧
  (SPart.moves ∈ but ∨ t.moves = s.moves) ∧
  (SPart.weirs ∈ but ∨ t.weirs = s.weirs) ∧
  (SPart.slots ∈ but ∨ t.slots = s.slots) ∧
  (SPart.slotAct ∈ but ∨ t.slotAct = s.slotAct) ∧
  (SPart.cus ∈ but ∨ t.cus = s.cus) ∧
  (SPart.optics ∈ but ∨ t.optics = s.optics) ∧
  (SPart.bed ∈ but ∨ t.bed = s.bed) ∧
  (SPart.ports ∈ but ∨ t.ports = s.ports) ∧
  (SPart.svcs ∈ but ∨ t.svcs = s.svcs) ∧
  (SPart.fab ∈ but ∨ t.fab = s.fab) ∧
  (SPart.hq ∈ but ∨ t.hq = s.hq) ∧
  (SPart.nrg ∈ but ∨ t.nrg = s.nrg) ∧
  (SPart.sec ∈ but ∨ t.sec = s.sec) ∧
  (SPart.log ∈ but ∨ t.log = s.log) ∧
  (SPart.store ∈ but ∨ t.store = s.store) ∧
  (SPart.errSeq ∈ but ∨ t.errSeq = s.errSeq) ∧
  (SPart.err ∈ but ∨ t.err = s.err) ∧
  (SPart.test ∈ but ∨ t.test = s.test) ∧
  (SPart.pwr ∈ but ∨ t.pwr = s.pwr) ∧
  (SPart.clash ∈ but ∨ t.clash = s.clash)

end Sys2Proof.Machine
end

