-- ==== Sys2Proof/Certificates/Slice0/Obligations.lean ====
section
/-! DEFINITION. The statements for the provers. Each is a closed proposition about the model; where one covers several rows it is a
conjunction with one clause a row, in the rows' order. "The row answers t" is `exec row s = .next t`. -/

open Sys2Proof Sys2Proof.Machine


/-- The change log has a free slot, and nothing waits for one. -/
abbrev Sys2Proof.quietLog (s : State) : Prop := s.log.held = [] ∧ s.log.unlogged = 0 ∧ s.logFull = false

/-- A write of the register at `off` is served now: its block answers, the device is awake, the change log has a slot. -/
abbrev Sys2Proof.writable (s : State) (off : Nat) : Prop := s.blockAnswers off = true ∧ s.asleep = false ∧ quietLog s

/-- A write was logged as one entry of kind REG, of origin `o`, with the value before, the value that took effect and the mask of the
register's logged bits (R574, R575). -/
abbrev Sys2Proof.loggedAs (s t : State) (o : Origin) (off : Nat) (before after mask : Word) : Prop :=
  t.log.next = s.log.next + 1 ∧ t.log.last = logBytes s (originCode o) 0 off (regValue o 0 before after mask)

/-- The canonical form of a state: memory's (Memory.wf), the route table's, and one error FIFO per severity. -/
abbrev Sys2Proof.canonical (s : State) : Prop := Memory.wf s.mem = true ∧ twf .none s.fab.routes = true ∧ s.err.length = 4

/-- What a scalar row of two operands comes to: on a cell that runs, with an encoding that keeps to R95 and R100, the row answers the
device in which s[rd] holds `g` of s[ra] and of s[rb], or of imm12 sign-extended, and the pc has moved on by 16; all else is as before. -/
def Sys2Proof.ScalarRow (row : CellId → FA → Instr) (g : Word64 → Word64 → Word64) : Prop :=
  ∀ (c : CellId) (f : FA) (s : State), s.runs c = true → scalarEnc f 2 false = true →
    exec (row c f) s = .next (s.ran c ((s.at c).setS f.rd.toNat (g ((s.at c).sr f.ra.toNat) ((s.at c).opB f))))

/-- R100: each two-operand scalar instruction, its result said over exact integers and bits. -/
def Obligations.ScalarArithmeticResults : Prop :=
  ScalarRow .add (fun a b => BitVec.ofNat 64 (a.toNat + b.toNat)) ∧
  ScalarRow .sub (fun a b => BitVec.ofInt 64 (a.toInt - b.toInt)) ∧
  ScalarRow .mul (fun a b => BitVec.ofInt 64 (a.toInt * b.toInt)) ∧
  ScalarRow .mulhu (fun a b => BitVec.ofNat 64 (a.toNat * b.toNat / 18446744073709551616)) ∧
  ScalarRow .and (fun a b => a &&& b) ∧
  ScalarRow .or (fun a b => a ||| b) ∧
  ScalarRow .xor (fun a b => a ^^^ b) ∧
  ScalarRow .shl (fun a b => BitVec.ofNat 64 (a.toNat * 2 ^ (b.toNat % 64))) ∧
  ScalarRow .shr (fun a b => BitVec.ofNat 64 (a.toNat / 2 ^ (b.toNat % 64))) ∧
  ScalarRow .sra (fun a b => BitVec.ofInt 64 (a.toInt / (2 : Int) ^ (b.toNat % 64))) ∧
  ScalarRow .min (fun a b => BitVec.ofInt 64 (min a.toInt b.toInt)) ∧
  ScalarRow .max (fun a b => BitVec.ofInt 64 (max a.toInt b.toInt)) ∧
  ScalarRow .slt (fun a b => if a.toInt < b.toInt then 1 else 0) ∧
  ScalarRow .sltu (fun a b => if a.toNat < b.toNat then 1 else 0)

/-- R98, R99 and R100: the system instructions and the remaining scalar ones. TEPOCH keeps bits [15:0] (R99). -/
def Obligations.SystemInstructionResults : Prop :=
  (∀ (c : CellId) (f : FA) (s : State), s.runs c = true → f.mods = 0 → faClean f false false false false false = true →
    exec (.nop c f) s = .next (s.ran c (s.at c))) ∧
  (∀ (c : CellId) (f : FA) (s : State), s.runs c = true → f.mods = 0 → faClean f false false false false false = true →
    exec (.halt c f) s = .next (s.setCell (cellIdx c) { s.at c with phase := .halted })) ∧
  (∀ (c : CellId) (f : FB) (s : State), s.runs c = true → f.mods = 0 → fbClean f false false true = true → f.imm64.toNat < 65536 →
    ∃ t, exec (.trap c f) s = .next t ∧ (t.at c).phase = .trapped 10 ∧ (t.at c).pc = (s.at c).pc ∧
      (t.at c).fault.toNat % 2 ^ 46 = (s.at c).pc % 2 ^ 46 ∧ (t.at c).fault.toNat / 2 ^ 48 % 256 = 0x0A ∧
      (t.at c).fault.toNat / 2 ^ 56 = 0x02 ∧ (t.at c).status = (s.at c).status ||| 0x400 ∧ (t.at c).s = (s.at c).s ∧ t.mem = s.mem ∧
      t.reaches = s.reaches ∧ t.regs = s.regs ∧ ∀ i, i ≠ cellIdx c → t.cell i = s.cell i) ∧
  (∀ (c : CellId) (f : FA) (s : State), s.runs c = true → f.mods.toNat < 2 → faClean f false false false false false = true →
    exec (.fence c f) s = .next (
      if (s.at c).tq = [] ∧ (f.mods = 1 ∨ (s.at c).ops = []) then s.ran c (s.at c)
      else s.setCell (cellIdx c) { s.at c with block := some (.fence (decide (f.mods = 1))) })) ∧
  (∀ (c : CellId) (f : FB) (s : State), s.runs c = true → f.mods = 0 → fbClean f true false true = true →
    (f.imm64.toNat = 1 → exec (.sread c f) s = .next (s.ran c ((s.at c).setS f.rd.toNat (s.at c).status))) ∧
    (f.imm64.toNat = 2 → exec (.sread c f) s = .next (s.ran c ((s.at c).setS f.rd.toNat (s.at c).emask))) ∧
    (f.imm64.toNat = 3 → (s.at c).tq = [] → exec (.sread c f) s = .next (s.ran c ((s.at c).setS f.rd.toNat (s.seed (cellIdx c))))) ∧
    (f.imm64.toNat = 4 → exec (.sread c f) s = .next (s.ran c ((s.at c).setS f.rd.toNat (s.at c).tepoch))) ∧
    (f.imm64.toNat = 5 → exec (.sread c f) s = .next (s.ran c ((s.at c).setS f.rd.toNat (s.at c).work))) ∧
    (f.imm64.toNat = 6 → ∃ w : Word64, exec (.sread c f) s = .next (s.ran c ((s.at c).setS f.rd.toNat w)) ∧
      w.toNat % 2 ^ 32 = c.die.val * 2 ^ 24 + c.cluster.val * 2 ^ 20 + c.cell.val * 2 ^ 16 ∧
      w.toNat / 2 ^ 32 = (if s.rb Reg.KEY_DEV_ID 31 then s.rf Reg.KEY_DEV_ID 0 18 else 0)) ∧
    (f.imm64.toNat = 7 → exec (.sread c f) s = .next (s.ran c ((s.at c).setS f.rd.toNat (s.at c).fault))) ∧
    (f.imm64.toNat = 0 → ∃ t w, exec (.sread c f) s = .next t ∧ (s.at c).cycle.toNat ≤ BitVec.toNat w ∧
      t.at c = { ({ s.at c with cycle := w } : Cell).setS f.rd.toNat w with pc := ((s.at c).pc + 16) % 2 ^ 46 } ∧
      t.mem = s.mem ∧ t.regs = s.regs ∧ t.reaches = s.reaches)) ∧
  (∀ (c : CellId) (f : FB) (s : State), s.runs c = true → f.mods = 0 → fbClean f false true true = true →
    (f.imm64.toNat = 1 → exec (.swrite c f) s =
      .next (s.ran c { s.at c with status := (s.at c).status &&& ~~~ (s.at c).sr f.ra.toNat })) ∧
    (f.imm64.toNat = 2 → ∃ e : Word64, exec (.swrite c f) s = .next (s.ran c { s.at c with emask := e }) ∧
      ∀ i : Fin 64, e[i] = if i.val = 10 ∨ i.val = 11 then true else if i.val = 0 ∨ i.val = 9 then false else ((s.at c).sr f.ra.toNat)[i]) ∧
    (f.imm64.toNat = 3 → (s.at c).tq = [] → exec (.swrite c f) s =
      .next (s.ran c { s.at c with seed := some ((s.at c).sr f.ra.toNat) })) ∧
    (f.imm64.toNat = 4 → exec (.swrite c f) s =
      .next (s.ran c { s.at c with tepoch := BitVec.ofNat 64 (((s.at c).sr f.ra.toNat).toNat % 65536) })) ∧
    (f.imm64.toNat = 0 ∨ 5 ≤ f.imm64.toNat ∧ f.imm64.toNat ≤ 7 → exec (.swrite c f) s = .next (s.ran c (s.at c)))) ∧
  (∀ (c : CellId) (f : FA) (s : State), s.runs c = true → scalarEnc f 2 true = true →
    exec (.sel c f) s = .next (s.ran c ((s.at c).setS f.rd.toNat
      (if (s.at c).sr f.rc.toNat = 0 then (s.at c).opB f else (s.at c).sr f.ra.toNat)))) ∧
  (∀ (c : CellId) (f : FB) (s : State), s.runs c = true → f.mods = 0 → fbClean f true false true = true →
    exec (.li c f) s = .next (s.ran c ((s.at c).setS f.rd.toNat f.imm64))) ∧
  (∀ (c : CellId) (f : FB) (s : State), s.runs c = true → f.mods = 0 → fbClean f true true true = true →
    exec (.addi c f) s = .next (s.ran c ((s.at c).setS f.rd.toNat (BitVec.ofNat 64 (((s.at c).sr f.ra.toNat).toNat + f.imm64.toNat)))))

/-- A branch on a cell that runs: taken, the pc is 16 × offset further (modulo 2^46); not taken, it moves on; nothing else changes. -/
def Sys2Proof.BranchTo (s : State) (c : CellId) (x : Cell) (offset : BitVec 32) (taken : Bool) : State :=
  if taken then s.jumped c x ((((s.at c).pc : Int) + 16 * offset.toInt) % 2 ^ 46).toNat else s.ran c x

/-- R103. The pc is a 46-bit address, so a target is taken modulo 2^46. EMASK bits 10 and 11 always read 1 (R99), here as a premise. -/
def Obligations.BranchTargets : Prop :=
  (∀ (c : CellId) (f : FC) (s : State), s.runs c = true → fcClean f true true true = true →
    (∀ b : Bool, (f.mods.toNat = 0 ∧ b = decide ((s.at c).sr f.ra.toNat = (s.at c).sr f.rb.toNat)) ∨
        (f.mods.toNat = 1 ∧ b = decide ((s.at c).sr f.ra.toNat ≠ (s.at c).sr f.rb.toNat)) ∨
        (f.mods.toNat = 2 ∧ b = decide (((s.at c).sr f.ra.toNat).toInt < ((s.at c).sr f.rb.toNat).toInt)) ∨
        (f.mods.toNat = 3 ∧ b = decide (((s.at c).sr f.rb.toNat).toInt ≤ ((s.at c).sr f.ra.toNat).toInt)) ∨
        (f.mods.toNat = 4 ∧ b = decide (((s.at c).sr f.ra.toNat).toNat < ((s.at c).sr f.rb.toNat).toNat)) ∨
        (f.mods.toNat = 5 ∧ b = decide (((s.at c).sr f.rb.toNat).toNat ≤ ((s.at c).sr f.ra.toNat).toNat)) →
      exec (.br c f) s = .next (BranchTo s c (s.at c) f.offset b)) ∧
    (6 ≤ f.mods.toNat → (s.at c).emask[10] = true →
      ∃ t, exec (.br c f) s = .next t ∧ (t.at c).phase = .trapped 10 ∧ (t.at c).pc = (s.at c).pc ∧ (t.at c).s = (s.at c).s)) ∧
  (∀ (c : CellId) (f : FC) (s : State), s.runs c = true → f.mods = 0 → fcClean f false false true = true →
    exec (.jmp c f) s = .next (BranchTo s c (s.at c) f.offset true)) ∧
  (∀ (c : CellId) (f : FC) (s : State), s.runs c = true → f.mods = 0 → fcClean f true false true = true →
    exec (.jal c f) s = .next (BranchTo s c ((s.at c).setS f.ra.toNat (BitVec.ofNat 64 ((s.at c).pc + 16))) f.offset true)) ∧
  (∀ (c : CellId) (f : FC) (s : State), s.runs c = true → f.mods = 0 → fcClean f true false false = true →
    (((s.at c).sr f.ra.toNat).toNat % 16 = 0 → exec (.jr c f) s = .next (s.jumped c (s.at c) ((s.at c).sr f.ra.toNat).toNat)) ∧
    (((s.at c).sr f.ra.toNat).toNat % 16 ≠ 0 → (s.at c).emask[11] = true →
      ∃ t, exec (.jr c f) s = .next t ∧ (t.at c).phase = .trapped 11 ∧ (t.at c).pc = (s.at c).pc ∧ (t.at c).s = (s.at c).s)) ∧
  (∀ (c : CellId) (f : FC) (s : State), s.runs c = true → fcClean f true false true = true → f.ra.toNat < 8 →
    (f.mods.toNat = 0 → exec (.bp c f) s = .next (BranchTo s c (s.at c) f.offset (decide (∃ i : Fin 64, ((s.at c).pr f.ra.toNat)[i] = true)))) ∧
    (f.mods.toNat = 1 → exec (.bp c f) s = .next (BranchTo s c (s.at c) f.offset (decide (∀ i : Fin 64, ((s.at c).pr f.ra.toNat)[i] = true)))) ∧
    (f.mods.toNat = 2 → exec (.bp c f) s = .next (BranchTo s c (s.at c) f.offset (decide (∀ i : Fin 64, ((s.at c).pr f.ra.toNat)[i] = false)))) ∧
    (3 ≤ f.mods.toNat → (s.at c).emask[10] = true →
      ∃ t, exec (.bp c f) s = .next t ∧ (t.at c).phase = .trapped 10 ∧ (t.at c).pc = (s.at c).pc ∧ (t.at c).s = (s.at c).s))

/-- R101, R102, R128, R170. The model lets LD read a tiled payload (R180, R182 against R101: see the assumption log). -/
def Obligations.ScalarMemoryAccess : Prop :=
  (∀ (c : CellId) (f : FB) (s : State) (da : Nat), s.runs c = true → f.mods = 0 → fbClean f true true true = true →
    da = ((s.at c).sr f.ra.toNat + f.imm64).toNat →
    (da % 8 = 0 → s.cellLocal (cellIdx c) da 8 = true → s.poisonRange da 8 = false → s.calm da 8 = true →
      exec (.ld c f .clear) s = .next (s.ran c ((s.at c).setS f.rd.toNat (BitVec.ofNat 64 (ofBytesLE (s.readMem da 8)))))) ∧
    (∀ word data, da % 8 = 0 → s.cellLocal (cellIdx c) da 8 = true → s.poisonRange da 8 = false → s.calm da 8 = true →
      wordTouched word da 8 = true → (s.at c).emask[3] = false →
      ∃ t, exec (.ld c f (.later true word data)) s = .next t ∧ t.mem = s.mem ∧ (t.at c).status = (s.at c).status ||| 8 ∧
        (t.at c).pc = ((s.at c).pc + 16) % 2 ^ 46 ∧ (∀ r, r ≠ f.rd.toNat → (t.at c).sr r = (s.at c).sr r) ∧
        (f.rd.toNat ≠ 0 → ∀ i, i < 8 → ((t.at c).sr f.rd.toNat).toNat / 256 ^ i % 256 = (s.byte (da + i)).toNat ∨
          ((t.at c).sr f.rd.toNat).toNat / 256 ^ i % 256 = (data.getD ((da + i) % 128) (s.byte (da + i))).toNat)) ∧
    (da % 8 ≠ 0 → (s.at c).emask[11] = true → ∃ t, exec (.ld c f .clear) s = .next t ∧ (t.at c).phase = .trapped 11 ∧
      (t.at c).s = (s.at c).s ∧ t.mem = s.mem)) ∧
  (∀ (c : CellId) (f : FB) (s : State) (da : Nat), s.runs c = true → f.mods = 0 → fbClean f true true true = true →
    da = ((s.at c).sr f.ra.toNat + f.imm64).toNat →
    (da % 8 = 0 → s.cellLocal (cellIdx c) da 8 = true → touchesTiled s.trg da 8 = false → s.touchesKv da 8 = false →
      s.still da 8 = true → s.plcOk (s.at c).wu (s.at c).epoch = true →
      ∃ t, exec (.st c f .clear) s = .next t ∧ t.cells = (s.ran c (s.at c)).cells ∧ t.regs = s.regs ∧ t.reaches = s.reaches ∧
        t.readMem da 8 = toBytesLE 8 ((s.at c).sr f.rd.toNat).toNat ∧ ∀ a, a < da ∨ da + 8 ≤ a → t.byte a = s.byte a) ∧
    (da % 8 ≠ 0 → (s.at c).emask[11] = true → ∃ t, exec (.st c f .clear) s = .next t ∧ (t.at c).phase = .trapped 11 ∧
      (t.at c).s = (s.at c).s ∧ t.mem = s.mem)) ∧
  (∀ (c : CellId) (f : FA) (s : State) (da : Nat), s.runs c = true → scalarEnc f 4 false = true → mbit f.mods 1 = false →
    da = ((s.at c).sr f.ra.toNat).toNat → da < 2 ^ 46 → s.atomicOk da = true → s.poisonRange da 8 = false →
    s.still da 8 = true → (∀ st, s.rangeStore da 8 = some st → s.reaches? (cellIdx c / 256) st = true) → s.plcOk (s.at c).wu (s.at c).epoch = true →
    ∃ t, exec (.aadd c f .clear) s = .next t ∧
      t.cells = (s.ran c ((s.at c).setS f.rd.toNat (BitVec.ofNat 64 (ofBytesLE (s.readMem da 8))))).cells ∧
      ofBytesLE (t.readMem da 8) = (ofBytesLE (s.readMem da 8) + ((s.at c).opB f).toNat) % 2 ^ 64 ∧
      ∀ a, a < da ∨ da + 8 ≤ a → t.byte a = s.byte a) ∧
  (∀ (c : CellId) (f : FA) (s : State) (da : Nat), s.runs c = true → scalarEnc f 4 true = true → mbit f.mods 1 = false →
    da = ((s.at c).sr f.ra.toNat).toNat → da < 2 ^ 46 → s.atomicOk da = true → s.poisonRange da 8 = false →
    s.still da 8 = true → (∀ st, s.rangeStore da 8 = some st → s.reaches? (cellIdx c / 256) st = true) → s.plcOk (s.at c).wu (s.at c).epoch = true →
    ∃ t, exec (.acas c f .clear) s = .next t ∧
      t.cells = (s.ran c ((s.at c).setS f.rd.toNat (BitVec.ofNat 64 (ofBytesLE (s.readMem da 8))))).cells ∧
      ofBytesLE (t.readMem da 8) =
        (if ofBytesLE (s.readMem da 8) = ((s.at c).opB f).toNat then ((s.at c).sr f.rc.toNat).toNat else ofBytesLE (s.readMem da 8)) ∧
      ∀ a, a < da ∨ da + 8 ≤ a → t.byte a = s.byte a)

/-- What a vector row that writes one v register comes to: it answers the device in which the cell has moved on and differs from before in
the v registers alone; every guarded lane of register `rd` holds `lane i`, the others their old value; the register is poisoned where
`poison` says or where a guard kept lanes of a poisoned register (R110, R113); the other v registers are as before. -/
def Sys2Proof.VecResult (s : State) (c : CellId) (row : Instr) (g : Option Nat) (rd : Nat) (lane : Nat → Word) (poison : Bool) : Prop :=
  ∃ x, exec row s = .next (s.ran c x) ∧ x = { s.at c with v := x.v, vp := x.vp } ∧
    (∀ i, i < 64 → (x.vec rd).getD i 0 = if (s.at c).laneOn g i then lane i else ((s.at c).vec rd).getD i 0) ∧
    x.vpois rd = (poison || (g.isSome && (s.at c).vpois rd)) ∧
    ∀ r, r ≠ rd → x.vec r = (s.at c).vec r ∧ x.vpois r = (s.at c).vpois r

/-- Lane i of a v register. -/
def Sys2Proof.Machine.Cell.lane (x : Cell) (r i : Nat) : Word := (x.vec r).getD i 0

/-- A lanewise row of two sources, with `h` on lanes of type 0 (FP32), 1 (INT32), 2 (UINT32). -/
def Sys2Proof.VecRow2 (row : CellId → FA → Instr) (h : Nat → Word → Word → Word) : Prop :=
  ∀ (c : CellId) (f : FA) (s : State) (m : VMod), s.runs c = true → vmod f.mods = some m →
    faClean f true true true false false = true →
    VecResult s c (row c f) m.guard f.rd.toNat (fun i => h m.lt ((s.at c).lane f.ra.toNat i) ((s.at c).lane f.rb.toNat i))
      ((s.at c).vpois f.ra.toNat || (s.at c).vpois f.rb.toNat)

/-- A lanewise row of one source; where `fp` it has FP32 lanes only. -/
def Sys2Proof.VecRow1 (row : CellId → FA → Instr) (fp : Bool) (h : Nat → Word → Word) : Prop :=
  ∀ (c : CellId) (f : FA) (s : State) (m : VMod), s.runs c = true → vmod f.mods = some m → (fp = true → m.lt = 0) →
    faClean f true true false false false = true →
    VecResult s c (row c f) m.guard f.rd.toNat (fun i => h m.lt ((s.at c).lane f.ra.toNat i)) ((s.at c).vpois f.ra.toNat)

/-- R110, R113, R154, R158. -/
def Obligations.VectorArithmeticResults : Prop :=
  VecRow2 .vadd (fun t a b => if t = 0 then to32 ((of32f a).add (of32f b)) else BitVec.ofNat 32 (a.toNat + b.toNat)) ∧
  VecRow2 .vsub (fun t a b => if t = 0 then to32 ((of32f a).add (of32f b).neg) else BitVec.ofInt 32 (a.toInt - b.toInt)) ∧
  VecRow2 .vmul (fun t a b => if t = 0 then to32 ((of32f a).mul (of32f b)) else BitVec.ofNat 32 (a.toNat * b.toNat)) ∧
  (∀ (c : CellId) (f : FA) (s : State) (m : VMod), s.runs c = true → vmod f.mods = some m → faClean f true true true true false = true →
    VecResult s c (.vfma c f) m.guard f.rd.toNat
      (fun i => if m.lt = 0 then
          to32 (((of32f ((s.at c).lane f.ra.toNat i)).mul (of32f ((s.at c).lane f.rb.toNat i))).add (of32f ((s.at c).lane f.rc.toNat i)))
        else BitVec.ofNat 32 (((s.at c).lane f.ra.toNat i).toNat * ((s.at c).lane f.rb.toNat i).toNat + ((s.at c).lane f.rc.toNat i).toNat))
      ((s.at c).vpois f.ra.toNat || (s.at c).vpois f.rb.toNat || (s.at c).vpois f.rc.toNat)) ∧
  VecRow2 .vmax (fun t a b => if t = 0 then to32 (FV.max (of32f a) (of32f b))
    else if t = 1 then BitVec.ofInt 32 (max a.toInt b.toInt) else BitVec.ofNat 32 (max a.toNat b.toNat)) ∧
  VecRow2 .vmin (fun t a b => if t = 0 then to32 (FV.min (of32f a) (of32f b))
    else if t = 1 then BitVec.ofInt 32 (min a.toInt b.toInt) else BitVec.ofNat 32 (min a.toNat b.toNat)) ∧
  VecRow1 .vabs false (fun t a => if t = 0 then (if a.toNat / 2 ^ 23 % 256 = 0 then 0 else a &&& 0x7FFFFFFF)
    else if t = 1 then BitVec.ofNat 32 a.toInt.natAbs else a) ∧
  VecRow1 .vneg false (fun t a => if t = 0 then (if a.toNat / 2 ^ 23 % 256 = 0 then (a &&& 0x80000000) ^^^ 0x80000000 else a ^^^ 0x80000000)
    else BitVec.ofInt 32 (- a.toInt))

/-- R155 and R158. The lanes between are free values of the model within the rule's bounds. -/
def Obligations.VectorSpecialFunctions : Prop :=
  (∃ h : Word → Word, VecRow1 .vexp2 true (fun _ => h) ∧
    (∀ w, FV.lt (of32f w) (.fin true 126 0) = true → h w = 0) ∧
    (∀ w n m e, of32f w = .fin n m e → FV.lt (.fin n m e) (.fin false 128 0) = false → h w = 0x7F800000) ∧
    h 0x7F800000 = 0x7F800000 ∧ ∀ w, of32f w = .nan → h w = 0x7FC00000) ∧
  (∃ h : Word → Word, VecRow1 .vlog2 true (fun _ => h) ∧
    h 0 = 0xFF800000 ∧ h 0x80000000 = 0xFF800000 ∧ h 0x7F800000 = 0x7F800000 ∧
    (∀ w, FV.lt (of32f w) (.fin false 0 0) = true → h w = 0x7FC00000) ∧ ∀ w, of32f w = .nan → h w = 0x7FC00000) ∧
  (∃ h : Word → Word, VecRow1 .vrcp true (fun _ => h) ∧
    h 0 = 0x7F800000 ∧ h 0x80000000 = 0xFF800000 ∧ h 0x7F800000 = 0 ∧ h 0xFF800000 = 0x80000000 ∧
    (∀ w m e, of32f w = .fin false m e → m ≠ 0 → FV.lt (.fin false m e) (.fin false 1 126) = false → h w = 0) ∧
    ∀ w, of32f w = .nan → h w = 0x7FC00000) ∧
  (∃ h : Word → Word, VecRow1 .vrsqrt true (fun _ => h) ∧
    h 0 = 0x7F800000 ∧ h 0x80000000 = 0xFF800000 ∧ h 0x7F800000 = 0 ∧
    (∀ w, FV.lt (of32f w) (.fin false 0 0) = true → h w = 0x7FC00000) ∧ ∀ w, of32f w = .nan → h w = 0x7FC00000) ∧
  (∀ (c : CellId) (f : FA) (s : State) (m : VMod) (row : CellId → FA → Instr), s.runs c = true → vmod f.mods = some m → m.lt ≠ 0 →
    (s.at c).emask[10] = true → (row = .vexp2 ∨ row = .vlog2 ∨ row = .vrcp ∨ row = .vrsqrt) →
    ∃ t, exec (row c f) s = .next t ∧ (t.at c).phase = .trapped 10 ∧ (t.at c).v = (s.at c).v ∧ (t.at c).vp = (s.at c).vp)

/-- R110, R113, R156, R157. -/
def Obligations.VectorMovesAndReductions : Prop :=
  (∀ (c : CellId) (f : FA) (s : State) (m : VMod), s.runs c = true → vmod f.mods = some m →
    faClean f true true false false false = true →
    let xs := (List.range 64).map fun i => if (s.at c).laneOn m.guard i then (s.at c).lane f.ra.toNat i else 0
    ∃ w, VecResult s c (.vredsum c f) none f.rd.toNat (fun _ => w) ((s.at c).vpois f.ra.toNat) ∧
      (m.lt ≠ 0 → w = BitVec.ofNat 32 (xs.map BitVec.toNat).sum) ∧ (m.lt = 0 → w = redTree (laneAdd 0) xs)) ∧
  (∀ (c : CellId) (f : FA) (s : State) (m : VMod), s.runs c = true → vmod f.mods = some m →
    faClean f true true false false false = true →
    let xs := (List.range 64).map fun i => if (s.at c).laneOn m.guard i then (s.at c).lane f.ra.toNat i else
      (if m.lt = 0 then 0xFF800000 else if m.lt = 1 then 0x80000000 else 0)
    ∃ w, VecResult s c (.vredmax c f) none f.rd.toNat (fun _ => w) ((s.at c).vpois f.ra.toNat) ∧
      (m.lt = 1 → w ∈ xs ∧ ∀ x ∈ xs, x.toInt ≤ w.toInt) ∧ (m.lt = 2 → w ∈ xs ∧ ∀ x ∈ xs, x.toNat ≤ w.toNat)) ∧
  (∀ (c : CellId) (f : FA) (s : State) (m : VMod), s.runs c = true → vmod f.mods = some m →
    faClean f true true true false true = true → f.rd.toNat < 8 → f.imm12.toNat < 6 →
    ((s.at c).vpois f.ra.toNat = false → (s.at c).vpois f.rb.toNat = false →
      ∃ p, exec (.vcmp c f) s = .next (s.ran c ((s.at c).setP f.rd.toNat p)) ∧ ∀ i : Fin 64, p[i] =
        if (s.at c).laneOn m.guard i then
          (let a := (s.at c).lane f.ra.toNat i
           let b := (s.at c).lane f.rb.toNat i
           let lt (a b : Word) : Bool := if m.lt = 0 then FV.lt (of32f a) (of32f b) else if m.lt = 1 then a.slt b else a.ult b
           let eq : Bool := if m.lt = 0 then decide (of32f a ≠ .nan) && decide (of32f b ≠ .nan) && !lt a b && !lt b a else a == b
           if f.imm12.toNat = 0 then eq else if f.imm12.toNat = 1 then !eq else if f.imm12.toNat = 2 then lt a b
           else if f.imm12.toNat = 3 then lt a b || eq else if f.imm12.toNat = 4 then lt b a else lt b a || eq)
        else ((s.at c).pr f.rd.toNat)[i]) ∧
    ((s.at c).vpois f.ra.toNat = true ∨ (s.at c).vpois f.rb.toNat = true →
      ∃ t, exec (.vcmp c f) s = .next t ∧ (t.at c).phase = .trapped 1 ∧ (t.at c).p = (s.at c).p)) ∧
  (∀ (c : CellId) (f : FA) (s : State) (m : VMod), s.runs c = true → vmod f.mods = some m →
    faClean f true true true true false = true → f.rc.toNat < 8 →
    VecResult s c (.vsel c f) m.guard f.rd.toNat
      (fun i => if ((s.at c).pr f.rc.toNat).getLsbD i then (s.at c).lane f.ra.toNat i else (s.at c).lane f.rb.toNat i)
      ((s.at c).vpois f.ra.toNat || (s.at c).vpois f.rb.toNat)) ∧
  (∀ (c : CellId) (f : FA) (s : State) (m : VMod), s.runs c = true → vmod f.mods = some m →
    faClean f true true false false false = true →
    VecResult s c (.vbcast c f) m.guard f.rd.toNat (fun _ => BitVec.ofNat 32 (((s.at c).sr f.ra.toNat).toNat % 2 ^ 32)) false) ∧
  (∀ (c : CellId) (f : FA) (s : State) (m : VMod), s.runs c = true → vmod f.mods = some m →
    faClean f true true true false false = true →
    ((s.at c).vpois f.ra.toNat = false → exec (.vextr c f) s = .next (s.ran c ((s.at c).setS f.rd.toNat
      (BitVec.ofNat 64 ((s.at c).lane f.ra.toNat (((s.at c).sr f.rb.toNat).toNat % 64)).toNat)))) ∧
    ((s.at c).vpois f.ra.toNat = true →
      ∃ t, exec (.vextr c f) s = .next t ∧ (t.at c).phase = .trapped 1 ∧ (t.at c).s = (s.at c).s)) ∧
  (∀ (c : CellId) (f : FA) (s : State) (m : VMod) (g : FpFmt), s.runs c = true → vmod f.mods = some m →
    faClean f true true true false true = true → (f.imm12.toNat = 2 ∧ g = bf16 ∨ f.imm12.toNat = 3 ∧ g = fp16) →
    VecResult s c (.vpack c f) m.guard f.rd.toNat
      (fun i => let src := fun j => if j < 64 then (s.at c).lane f.ra.toNat j else (s.at c).lane f.rb.toNat (j - 64)
        BitVec.ofNat 32 (g.enc .rne (of32f (src (2 * i))) + g.enc .rne (of32f (src (2 * i + 1))) * 65536))
      ((s.at c).vpois f.ra.toNat || (s.at c).vpois f.rb.toNat)) ∧
  (∀ (c : CellId) (f : FA) (s : State) (m : VMod) (g : FpFmt), s.runs c = true → vmod f.mods = some m →
    faClean f true true false false true = true → f.imm12.toNat < 512 → (f.imm12.toNat % 256 = 2 ∧ g = bf16 ∨ f.imm12.toNat % 256 = 3 ∧ g = fp16) →
    VecResult s c (.vunpk c f) m.guard f.rd.toNat
      (fun i => let w := (s.at c).lane f.ra.toNat (32 * (f.imm12.toNat / 256) + i / 2)
        to32g (g.dec (if i % 2 = 0 then w.toNat % 65536 else w.toNat / 65536)))
      ((s.at c).vpois f.ra.toNat)) ∧
  (∀ (c : CellId) (f : FA) (s : State) (m : VMod), s.runs c = true → vmod f.mods = some m →
    faClean f true true false false false = true → f.rd.toNat < 8 →
    exec (.pset c f) s = .next (s.ran c ((s.at c).setP f.rd.toNat ((s.at c).sr f.ra.toNat)))) ∧
  (∀ (c : CellId) (f : FA) (s : State) (m : VMod), s.runs c = true → vmod f.mods = some m →
    faClean f true true false false false = true → f.ra.toNat < 8 →
    exec (.pget c f) s = .next (s.ran c ((s.at c).setS f.rd.toNat ((s.at c).pr f.ra.toNat))))

/-- R110, R112, R113, R180. -/
def Obligations.VectorMemoryAndAccumulators : Prop :=
  (∀ (c : CellId) (f : FB) (s : State) (m : VMod) (da : Nat), s.runs c = true → vmod f.mods = some m → fbClean f true true true = true →
    da = ((s.at c).sr f.ra.toNat + f.imm64).toNat → da % 4 = 0 → s.cellLocal (cellIdx c) da 256 = true →
    s.poisonRange da 256 = false → s.calm da 256 = true → s.tilePoison (s.viewNow .clear) da 256 = false →
    VecResult s c (.vld c f .clear) m.guard f.rd.toNat (fun i => BitVec.ofNat 32 (ofBytesLE (s.readMem (da + 4 * i) 4))) false) ∧
  (∀ (c : CellId) (f : FB) (s : State) (m : VMod) (da : Nat), s.runs c = true → vmod f.mods = some m → fbClean f true true true = true →
    da = ((s.at c).sr f.ra.toNat + f.imm64).toNat → da % 4 = 0 → s.cellLocal (cellIdx c) da 256 = true →
    touchesTiled s.trg da 256 = false → s.touchesKv da 256 = false → s.still da 256 = true →
    ((s.at c).vpois f.rd.toNat = false → s.plcOk (s.at c).wu (s.at c).epoch = true →
      ∃ t, exec (.vst c f .clear) s = .next t ∧ t.cells = (s.ran c (s.at c)).cells ∧ t.regs = s.regs ∧
        (∀ i, i < 64 → ofBytesLE (t.readMem (da + 4 * i) 4) =
          if (s.at c).laneOn m.guard i then ((s.at c).lane f.rd.toNat i).toNat else ofBytesLE (s.readMem (da + 4 * i) 4)) ∧
        ∀ a, a < da ∨ da + 256 ≤ a → t.byte a = s.byte a) ∧
    ((s.at c).vpois f.rd.toNat = true → ∃ t, exec (.vst c f .clear) s = .next t ∧ (t.at c).phase = .trapped 1 ∧ t.mem = s.mem)) ∧
  (∀ (c : CellId) (f : FA) (s : State) (m : VMod), s.runs c = true → vmod f.mods = some m →
    faClean f true true true false false = true → f.ra.toNat < 8 → (s.at c).tqUses f.ra.toNat = false →
    VecResult s c (.vrowr c f) m.guard f.rd.toNat
      (fun i => ((s.at c).accRow f.ra.toNat (((s.at c).sr f.rb.toNat).toNat % 64)).getD i 0) ((s.at c).apois f.ra.toNat)) ∧
  (∀ (c : CellId) (f : FA) (s : State) (m : VMod), s.runs c = true → vmod f.mods = some m →
    faClean f true true true false false = true → f.rd.toNat < 8 → (s.at c).tqUses f.rd.toNat = false →
    ∃ x, exec (.vroww c f) s = .next (s.ran c x) ∧ x = { s.at c with a := x.a, ap := x.ap } ∧
      x.apois f.rd.toNat = ((s.at c).apois f.rd.toNat || (s.at c).vpois f.ra.toNat) ∧
      ∀ row, row < 64 → ∀ i, i < 64 → (x.accRow f.rd.toNat row).getD i 0 =
        if row = ((s.at c).sr f.rb.toNat).toNat % 64 ∧ (s.at c).laneOn m.guard i then (s.at c).lane f.ra.toNat i
        else ((s.at c).accRow f.rd.toNat row).getD i 0) ∧
  (∀ (c : CellId) (f : FA) (s : State) (m : VMod), s.runs c = true → vmod f.mods = some m → m.lt = 0 →
    faClean f true true false false false = true → f.rd.toNat < 8 → (s.at c).tqUses f.rd.toNat = false →
    ∃ x, exec (.vresc c f) s = .next (s.ran c x) ∧ x = { s.at c with a := x.a, ap := x.ap } ∧
      x.apois f.rd.toNat = ((s.at c).apois f.rd.toNat || (s.at c).vpois f.ra.toNat) ∧
      ∀ row, row < 64 → ∀ i, i < 64 → (x.accRow f.rd.toNat row).getD i 0 =
        (let w := ((s.at c).accRow f.rd.toNat row).getD i 0
         if (s.at c).laneOn m.guard row then to32 ((of32f w).mul (of32f ((s.at c).lane f.ra.toNat row))) else w)) ∧
  (∀ (c : CellId) (f : FA) (s : State) (m : VMod), s.runs c = true → vmod f.mods = some m → m.lt = 0 →
    faClean f true true true false false = true → f.rd.toNat % 2 = 0 →
    ∃ x, exec (.vsmax c f) s = .next (s.ran c x) ∧ x = { s.at c with v := x.v, vp := x.vp } ∧
      ∀ i, i < 64 → (s.at c).laneOn m.guard i = true →
        x.lane f.rd.toNat i = to32 (FV.max (of32f ((s.at c).lane f.ra.toNat i)) (of32f ((s.at c).lane f.rb.toNat i))) ∧
        (laneEq 0 ((s.at c).lane f.ra.toNat i) (x.lane f.rd.toNat i) = true → x.lane (f.rd.toNat + 1) i = 0x3F800000))

/-- R104 to R109, R125. -/
def Obligations.TensorInstructionResults : Prop :=
  (∀ (c : CellId) (f : FD) (s : State) (a b : TDesc) (n : Nat), s.runs c = true → f.mods.toNat < 4 → f.rsv = 0 → f.acc.toNat < 8 →
    f.ta.toNat < 16 → f.tb.toNat < 16 →
    descOk ((s.at c).dd f.ta.toNat) (fun _ => true) = true → descOk ((s.at c).dd f.tb.toNat) (fun _ => true) = true →
    a = s.readDesc ((s.at c).dd f.ta.toNat) ((s.at c).sr f.oa.toNat) → b = s.readDesc ((s.at c).dd f.tb.toNat) ((s.at c).sr f.ob.toNat) →
    mmaTiles a.fmt b.fmt = some n →
    (1 ≤ f.k.toNat → f.k.toNat ≤ 256 → s.descAddrOk (cellIdx c) a (f.k.toNat * n) = true → s.descAddrOk (cellIdx c) b (f.k.toNat * n) = true →
      ((s.at c).tq.length < 4 → exec (.mma c f) s = .next (s.ran c
        { s.at c with tq := (s.at c).tq ++ [.mma f.acc.toNat (f.mods.getLsbD 0) (f.mods.getLsbD 1) a b f.k.toNat] })) ∧
      (4 ≤ (s.at c).tq.length → exec (.mma c f) s = .next s)) ∧
    (f.k.toNat = 0 ∨ 256 < f.k.toNat → (s.at c).emask[10] = true →
      ∃ t, exec (.mma c f) s = .next t ∧ (t.at c).phase = .trapped 10 ∧ (t.at c).tq = (s.at c).tq)) ∧
  (∀ (c : CellId) (f : FD) (s : State), s.runs c = true → f.mods = 0 → fdClean f false = true →
    ((s.at c).tq.length < 4 → exec (.accz c f) s = .next (s.ran c { s.at c with tq := (s.at c).tq ++ [.accz f.acc.toNat] })) ∧
    (4 ≤ (s.at c).tq.length → exec (.accz c f) s = .next s)) ∧
  (∀ (c : CellId) (f : FD) (s : State) (d : TDesc), s.runs c = true → f.mods = 0 → fdClean f true = true →
    descOk ((s.at c).dd f.ta.toNat) accFmt = true → d = s.readDesc ((s.at c).dd f.ta.toNat) ((s.at c).sr f.oa.toNat) →
    s.descAddrOk (cellIdx c) d 1 = true →
    ((s.at c).tq.length < 4 → exec (.accld c f) s = .next (s.ran c { s.at c with tq := (s.at c).tq ++ [.accld f.acc.toNat d] })) ∧
    (4 ≤ (s.at c).tq.length → exec (.accld c f) s = .next s)) ∧
  (∀ (c : CellId) (f : FD) (s : State) (d : TDesc), s.runs c = true → f.mods.toNat < 3 → fdClean f true = true →
    descOk ((s.at c).dd f.ta.toNat) accFmt = true → d = s.readDesc ((s.at c).dd f.ta.toNat) ((s.at c).sr f.oa.toNat) →
    s.descAddrOk (cellIdx c) d 1 = true →
    ((s.at c).tq.length < 4 → exec (.accst c f) s = .next (s.ran c
      { s.at c with tq := (s.at c).tq ++ [.accst f.acc.toNat d f.mods.toNat ((s.at c).tepoch.toNat % 65536)] })) ∧
    (4 ≤ (s.at c).tq.length → exec (.accst c f) s = .next s)) ∧
  (∀ (c : CellId) (f : FB) (s : State) (da : Nat), s.runs c = true → f.mods = 0 → fbClean f true true true = true → f.rd.toNat < 16 →
    da = ((s.at c).sr f.ra.toNat + f.imm64).toNat → da % 32 = 0 → s.cellLocal (cellIdx c) da 32 = true → s.poisonRange da 32 = false → s.calm da 32 = true →
    exec (.dld c f .clear) s = .next (s.ran c ((s.at c).setD f.rd.toNat (BitVec.ofNat 256 (ofBytesLE (s.readMem da 32)))))) ∧
  (∀ (c : CellId) (f : FB) (s : State) (da : Nat), s.runs c = true → f.mods = 0 → fbClean f true true true = true → f.rd.toNat < 16 →
    da = ((s.at c).sr f.ra.toNat + f.imm64).toNat → da % 32 = 0 → s.cellLocal (cellIdx c) da 32 = true →
    touchesTiled s.trg da 32 = false → s.touchesKv da 32 = false → s.still da 32 = true → s.plcOk (s.at c).wu (s.at c).epoch = true →
    ∃ t, exec (.dst c f .clear) s = .next t ∧ t.cells = (s.ran c (s.at c)).cells ∧ t.regs = s.regs ∧
      ofBytesLE (t.readMem da 32) = ((s.at c).dd f.rd.toNat).toNat ∧ ∀ a, a < da ∨ da + 32 ≤ a → t.byte a = s.byte a) ∧
  (∀ (c : CellId) (f : FB) (s : State) (b : Nat), s.runs c = true → f.mods = 0 → fbClean f true true true = true → f.rd.toNat < 16 →
    b = (((s.at c).dd f.rd.toNat).toNat % 2 ^ 64 + ((s.at c).sr f.ra.toNat).toNat + f.imm64.toNat) % 2 ^ 64 →
    (b < 2 ^ 46 → exec (.dadd c f) s = .next (s.ran c ((s.at c).setD f.rd.toNat
      (BitVec.ofNat 256 (((s.at c).dd f.rd.toNat).toNat / 2 ^ 64 * 2 ^ 64 + b))))) ∧
    (2 ^ 46 ≤ b → (s.at c).emask[11] = true →
      ∃ t, exec (.dadd c f) s = .next t ∧ (t.at c).phase = .trapped 11 ∧ (t.at c).d = (s.at c).d))

/-- R109, R125, R176 to R179, R182. -/
def Obligations.TensorEntryResults : Prop :=
  (∀ (c : CellId) (s : State) (a : Nat) (rest : List TEntry), s.dieUp (cellIdx c / 256) = true → (s.at c).tq = .accz a :: rest →
    (s.at c).sigs = [] →
    ∃ t, exec (.tensorEntryComplete c .clear) s = .next t ∧ (t.at c).acc a = List.replicate 4096 0 ∧ (t.at c).apois a = false ∧
      (t.at c).tq = rest ∧ (t.at c).pc = (s.at c).pc ∧ (t.at c).s = (s.at c).s ∧ (t.at c).v = (s.at c).v ∧ t.mem = s.mem ∧
      t.reaches = s.reaches ∧ t.regs = s.regs) ∧
  (∀ (c : CellId) (s : State) (a rnd epoch : Nat) (d : TDesc) (fm : Fmt) (r : Region), s.dieUp (cellIdx c / 256) = true →
    (s.at c).tq = [.accst a d rnd epoch] → (s.at c).sigs = [] → s.clash = [] →
    (s.setCell (cellIdx c) { s.at c with tq := [] }).flight = [] → (rnd = 0 ∨ rnd = 2) → fmtOf d.fmt = some fm →
    regionIn d.trg d.base d.size = some r → s.plcOk (s.at c).wu (s.at c).epoch = true →
    (r.trailerDA d.base + 8 ≤ d.base ∨ d.base + (accStore fm d rnd ((s.at c).acc a) (List.replicate 4096 0)).length ≤ r.trailerDA d.base) →
    let b := accStore fm d rnd ((s.at c).acc a) (List.replicate 4096 0)
    ∃ t, exec (.tensorEntryComplete c .clear) s = .next t ∧ (t.at c).tq = [] ∧ (t.at c).a = (s.at c).a ∧ (t.at c).status = (s.at c).status ∧
      t.readMem d.base b.length = b ∧ (t.trailer (r.trailerDA d.base)).crc = (crc32c b).toNat ∧
      (t.trailer (r.trailerDA d.base)).epoch = epoch % 65536 ∧ (t.trailer (r.trailerDA d.base)).fmt = d.fmt % 256 ∧
      (t.trailer (r.trailerDA d.base)).poison = (s.at c).apois a ∧ (t.trailer (r.trailerDA d.base)).valid = true ∧
      ∀ x, (x < d.base ∨ d.base + b.length ≤ x) → (x < r.trailerDA d.base ∨ r.trailerDA d.base + 8 ≤ x) → t.byte x = s.byte x) ∧
  (∀ (c : CellId) (s : State) (a : Nat) (d : TDesc) (fm : Fmt) (rest : List TEntry), s.dieUp (cellIdx c / 256) = true →
    (s.at c).tq = .accld a d :: rest → (s.at c).sigs = [] → fmtOf d.fmt = some fm →
    (let u := s.setCell (cellIdx c) { s.at c with tq := [] }
     (u.useTile (u.viewEnd .clear) d d.base).2 = false) →
    (s.at c).emask[1] = false →
    ∃ t, exec (.tensorEntryComplete c .clear) s = .next t ∧ (t.at c).tq = rest ∧ (t.at c).apois a = true ∧
      (t.at c).status = (s.at c).status ||| 2 ∧ (t.at c).phase = (s.at c).phase ∧ t.mem = s.mem)

/-- The encoding of a token instruction whose named fields alone may be nonzero. -/
abbrev Sys2Proof.feZero (f : FE) (dst len immA immB increment : Bool) : Prop :=
  (dst = true → f.dst = 0) ∧ (len = true → f.len = 0) ∧ (immA = true → f.immA = 0) ∧ (immB = true → f.immB = 0) ∧
    (increment = true → f.increment = 0)

/-- R49 to R52, R117 to R119. -/
def Obligations.TokenAndCreditResults : Prop :=
  (∀ (c : CellId) (f : FE) (s : State), s.runs c = true → f.mods = 0 → f.src = 0 → f.sig = 0 → feZero f true true true true false →
    f.increment ≠ 0 → (s.at c).tq = [] → s.plcOk (s.at c).wu (s.at c).epoch = true →
    let r := cellRid (cellIdx c)
    let old := (s.tok r f.token.toNat).toNat
    (old + f.increment.toNat ≤ 0xFFFFFFFF → ∃ t, exec (.signal c f) s = .next t ∧ t.cells = (s.ran c (s.at c)).cells ∧
      (t.tok r f.token.toNat).toNat = old + f.increment.toNat ∧ (∀ i, i ≠ f.token.toNat → t.tok r i = s.tok r i) ∧
      (∀ q, q ≠ r → t.reach q = s.reach q) ∧ t.mem = s.mem ∧ t.regs = s.regs) ∧
    (0xFFFFFFFF < old + f.increment.toNat → (s.at c).emask[4] = true → ∃ t, exec (.signal c f) s = .next t ∧
      (t.tok r f.token.toNat).toNat = 0xFFFFFFFF ∧ (t.at c).phase = .trapped 4 ∧ t.mem = s.mem)) ∧
  (∀ (c : CellId) (f : FE) (s : State), s.runs c = true → f.mods.toNat < 2 → f.sig = 0 → feZero f true false false false true →
    let r := cellRid (cellIdx c)
    let thr := if f.len = 0 then f.immA.toNat else ((s.at c).sr f.len.toNat).toNat
    (thr ≤ (s.tok r f.token.toNat).toNat → ∃ t, exec (.wait c f) s = .next t ∧
      t.cells = (s.ran c ((s.at c).setS f.src.toNat 1)).cells ∧
      (t.tok r f.token.toNat).toNat = (s.tok r f.token.toNat).toNat - (if f.mods = 1 then thr else 0) ∧
      (∀ i, i ≠ f.token.toNat → t.tok r i = s.tok r i) ∧ t.mem = s.mem ∧ t.regs = s.regs) ∧
    ((s.tok r f.token.toNat).toNat < thr → exec (.wait c f) s = .next (s.setCell (cellIdx c)
      { s.at c with block := some (.wait f.token.toNat thr (decide (f.mods = 1)) f.src.toNat f.immB.toNat) }))) ∧
  (∀ (c : CellId) (s : State) (tok thr dst tmo : Nat) (consume : Bool), (s.at c).block = some (.wait tok thr consume dst tmo) → tmo ≠ 0 →
    s.dieUp (cellIdx c / 256) = true → (s.at c).phase = .running → (s.at c).pendTrap = none →
    exec (.waitTimeout c) s = .next (s.ran c ({ ((s.at c).setS dst 0) with block := none }))) ∧
  (∀ (c : CellId) (f : FE) (s : State), s.runs c = true → f.mods = 0 → f.src = 0 → f.sig = 0 → feZero f true false false true true →
    f.token.toNat < 64 →
    let r := cellRid (cellIdx c)
    let p := f.token.toNat
    let n := if f.len = 0 then f.immA.toNat else ((s.at c).sr f.len.toNat).toNat
    ((s.poolCap r p).toNat < n → (s.at c).emask[5] = true → ∃ t, exec (.take c f) s = .next t ∧ (t.at c).phase = .trapped 5 ∧
      t.reaches = s.reaches ∧ t.mem = s.mem) ∧
    (0 < n → n ≤ (s.poolCap r p).toNat → n ≤ (s.pool r p).toNat → ∃ t, exec (.take c f) s = .next t ∧
      t.cells = (s.ran c (s.at c)).cells ∧ (t.pool r p).toNat = (s.pool r p).toNat - n ∧ t.mem = s.mem ∧ t.regs = s.regs) ∧
    (n ≤ (s.poolCap r p).toNat → (s.pool r p).toNat < n →
      exec (.take c f) s = .next (s.setCell (cellIdx c) { s.at c with block := some (.take p n) }))) ∧
  (∀ (c : CellId) (f : FE) (s : State), s.runs c = true → f.mods = 0 → f.src = 0 → f.sig = 0 → feZero f true false false true true →
    f.token.toNat < 64 → s.plcOk (s.at c).wu (s.at c).epoch = true →
    let r := cellRid (cellIdx c)
    let p := f.token.toNat
    let n := if f.len = 0 then f.immA.toNat else ((s.at c).sr f.len.toNat).toNat
    0 < n → n ≤ 0xFFFFFFFF → ∃ t, exec (.give c f) s = .next t ∧ t.cells = (s.ran c (s.at c)).cells ∧
      (t.pool r p).toNat = min ((s.pool r p).toNat + n) (s.poolCap r p).toNat ∧ t.mem = s.mem ∧ t.regs = s.regs) ∧
  (∀ (c : CellId) (f : FE) (s : State), s.runs c = true → f.mods = 0 → f.sig = 0 → feZero f true true true true true →
    exec (.tread c f) s = .next (s.ran c ((s.at c).setS f.src.toNat (BitVec.ofNat 64 (s.tok (cellRid (cellIdx c)) f.token.toNat).toNat)))) ∧
  (∀ (c : CellId) (s : State) (tok thr dst tmo : Nat) (consume : Bool), (s.at c).block = some (.wait tok thr consume dst tmo) →
    s.dieUp (cellIdx c / 256) = true → s.asleep = false → (s.at c).phase = .running → (s.at c).pendTrap = none →
    let r := cellRid (cellIdx c)
    (thr ≤ (s.tok r tok).toNat → ∃ t, exec (.cellWake c) s = .next t ∧ (t.at c).block = none ∧ (dst ≠ 0 → (t.at c).sr dst = 1) ∧
      (t.at c).pc = ((s.at c).pc + 16) % 2 ^ 46 ∧ (t.tok r tok).toNat = (s.tok r tok).toNat - (if consume then thr else 0) ∧ t.mem = s.mem) ∧
    ((s.tok r tok).toNat < thr → exec (.cellWake c) s = .next s))

/-- R114, R120 to R122, R126, R511. The rounding of a charge that is no whole number of microjoules is open (see the assumption log). -/
def Obligations.AsyncIssueResults : Prop :=
  (∀ (c : CellId) (f : FE) (pe : PortEv) (s : State), s.runs c = true → f.mods = 0 → f.increment = 0 → f.immB = 0 → (s.at c).ops.length < 16 →
    let src := ((s.at c).sr f.src.toNat).toNat
    let dst := ((s.at c).sr f.dst.toNat).toNat
    let len := if f.len = 0 then f.immA.toNat else ((s.at c).sr f.len.toNat).toNat
    let own := if s.idValid then s.devId * 2 ^ 46 else 0
    src < 2 ^ 46 → dst < 2 ^ 46 → s.moveOk none (own + src) (own + dst) len false false = true →
    ∃ t m o, exec (.move c f pe) s = .next t ∧ t.moves = s.moves ++ [m] ∧ gaDA m.src = src ∧ gaDA m.dst = dst ∧ m.len = len ∧ m.fold = false ∧
      m.workUnit = (s.at c).wu ∧ m.epoch = (s.at c).epoch ∧ m.owner = .cell (cellIdx c) s.opNext ∧ o.id = s.opNext ∧ o.kind = .move ∧
      t.cells = (s.ran c { s.at c with ops := (s.at c).ops ++ [o] }).cells ∧ t.opNext = s.opNext + 1 ∧ t.mem = s.mem) ∧
  (∀ (c : CellId) (f : FF) (s : State), s.runs c = true → f.mods = 0 → f.increment = 0 → f.imm16.toNat < 256 → f.imm32.toNat < 65536 →
    f.imm16.toNat % 16 ≤ 8 → f.imm16.toNat / 16 % 4 < 3 → f.imm16.toNat / 64 < 3 → f.sc = 0 → (s.at c).ops.length < 16 →
    let n := f.imm32.toNat + 1
    let inDA := ((s.at c).sr f.sa.toNat).toNat
    let outDA := ((s.at c).sr f.sb.toNat).toNat
    s.cellLocal (cellIdx c) inDA (n * cuInBytes (f.imm16.toNat / 16 % 4)) = true →
    s.cellLocal (cellIdx c) outDA (n * cuOutBytes (f.imm16.toNat / 64)) = true →
    touchesTiled s.trg outDA (n * cuOutBytes (f.imm16.toNat / 64)) = false →
    ∃ t o, exec (.oproj c f) s = .next t ∧ o.id = s.opNext ∧ o.kind = .oproj ∧
      t.cells = (s.ran c { s.at c with ops := (s.at c).ops ++ [o] }).cells ∧ t.mem = s.mem ∧
      (t.cu c.die.val).queue = (s.cu c.die.val).queue ++ [.oproj (cellIdx c) s.opNext inDA outDA none f.tag.toNat (f.imm16.toNat % 16)
        (f.imm16.toNat / 16 % 4) (f.imm16.toNat / 64) n (s.at c).wu (s.at c).epoch]) ∧
  (∀ (c : CellId) (f : FF) (s : State) (n : Nat), s.runs c = true → f.mods = 0 → f.increment = 0 → f.imm16.toNat = n → n < 16 →
    f.sb = 0 → f.sc = 0 → f.tag = 0 → f.imm32.toNat % 64 = 0 → 64 ≤ f.imm32.toNat → f.imm32.toNat ≤ 65536 → (s.at c).ops.length < 16 →
    s.cellLocal (cellIdx c) ((s.at c).sr f.sa.toNat).toNat f.imm32.toNat = true →
    s.calm ((s.at c).sr f.sa.toNat).toNat f.imm32.toNat = true → s.weirRoom n = true →
    s.weirPath (cellIdx c / 256) n = true →
    ∃ t o b, exec (.wq c f) s = .next t ∧ o.id = s.opNext ∧ o.kind = .wq ∧ o.left = 1 ∧
      t.cells = (s.ran c { s.at c with ops := (s.at c).ops ++ [o] }).cells ∧ t.mem = s.mem ∧
      (t.weir n).queue = (s.weir n).queue ++ [b] ∧ b.declared = f.imm32.toNat ∧ b.workUnit = (s.at c).wu ∧ b.epoch = (s.at c).epoch ∧
      b.bytes.take 8 = s.readMem ((s.at c).sr f.sa.toNat).toNat 8 ∧ bfld b.bytes 8 4 = (s.at c).wu ∧ bfld b.bytes 12 1 = (s.at c).epoch) ∧
  (∀ (c : CellId) (f : FF) (s : State), s.runs c = true → f.mods = 0 → f.increment = 0 → f.sa = 0 → f.sb = 0 → f.sc = 0 → f.imm32 = 0 →
    f.imm16.toNat < 4 → (s.at c).ops.length < 16 → (∀ o ∈ (s.at c).ops, o.kind ≠ .oproj) →
    ∃ t o, exec (.bound c f) s = .next t ∧ o.id = s.opNext ∧ o.kind = .bound ∧
      t.cells = (s.ran c { s.at c with ops := (s.at c).ops ++ [o] }).cells ∧ t.mem = s.mem ∧
      (t.cu c.die.val).queue = (s.cu c.die.val).queue ++
        [.bound (cellIdx c) s.opNext f.tag.toNat (f.imm16.getLsbD 0) (f.imm16.getLsbD 1)]) ∧
  (∀ (c : CellId) (f : FF) (s : State), s.runs c = true → f.mods = 0 → f.imm16.toNat < 6 → f.sa = 0 → f.sb = 0 → f.sc = 0 → f.sd = 0 →
    f.token = 0 → f.increment = 0 → f.tag = 0 →
    let l := cellIdx c / 16
    let led := tget .zero s.nrg.ledgers l
    let n := charge f.imm32.toNat (s.factor l f.imm16.toNat)
    (f.imm32 = 0 → exec (.est c f) s = .next (s.ran c (s.at c))) ∧
    (f.imm32 ≠ 0 → led.cap ≠ none → (n : Int) ≤ led.bal → (n : Int) ≤ tget 0 s.nrg.room (cellIdx c / 256) → 0 ≤ s.nrg.pool →
      0 ≤ s.nrg.pkgRoom →
      ∃ t, exec (.est c f) s = .next t ∧ t.cells = (s.ran c (s.at c)).cells ∧ (tget .zero t.nrg.ledgers l).bal = led.bal - n ∧
        t.nrg.pool = s.nrg.pool ∧ tget 0 t.nrg.room (cellIdx c / 256) = tget 0 s.nrg.room (cellIdx c / 256) - n ∧ t.mem = s.mem)) ∧
  (∀ d k : Nat, charge d k * (2 ^ 28 * 1000) < d * k + 2 ^ 28 * 1000 ∧ d * k < (charge d k + 1) * (2 ^ 28 * 1000))

/-- R116, R132 to R134. -/
def Obligations.AsyncCompletionResults : Prop :=
  (∀ (c : CellId) (s : State) (o : AOp), (s.at c).op o.id = some o → o.left = 0 → o.status = 0 → o.sig.inc = 0 → (s.at c).sigs = [] →
    s.dieUp (cellIdx c / 256) = true →
    exec (.asyncCompletion c o.id) s = .next (s.setCell (cellIdx c) { s.at c with ops := (s.at c).ops.filter fun x => x.id ≠ o.id })) ∧
  (∀ (c : CellId) (s : State) (id st : Nat), (s.at c).run = some id →
    ((s.at c).phase = .halted ∧ st = 0 ∨ (s.at c).phase = .trapped st) →
    ((s.at c).ops = [] → (s.at c).tq = [] → (s.at c).sigs = [] → s.dieUp (cellIdx c / 256) = true →
      ∃ t, exec (.runComplete c) s = .next t ∧ (t.at c).phase = .idle ∧ (t.at c).run = none ∧ (t.at c).s = (s.at c).s ∧
        (t.at c).a = (s.at c).a ∧ (t.at c).d = (s.at c).d ∧ t.mem = s.mem ∧ t.regs = s.regs ∧
        (t.reach (cellRid (cellIdx c))).running = (s.reach (cellRid (cellIdx c))).running.map fun y =>
          if y.id = id then { y with acted := true, done := some st, data := (s.at c).status.toNat } else y) ∧
    ((s.at c).ops ≠ [] ∨ (s.at c).tq ≠ [] → exec (.runComplete c) s = .next s))

/-- R46, R48, R52, R58, R62, R84. -/
def Obligations.CommandQueueing : Prop :=
  (∀ (iss : Issuer) (bytes : List Byte) (s : State), iss = .mgmt ∨ iss = .none →
    let b := padTo 64 bytes
    let r := cmdTarget b
    let e := s.plcE (wuItem (cmdWu b))
    let here := cmdExempt b = true ∨ s.atOld (wuItem (cmdWu b)) r = false
    let parts : List SPart := if ridLevel r < 4 then [.reaches, .opNext] else [.reaches, .opNext, .mem]
    (s.cmdCheck b = 0 → here → s.diePath dieK (ridDie r) = true → (s.reach r).held = [] → s.depth r < 1024 →
      ∃ t, exec (.commandEnqueue iss bytes) s = .next t ∧ t.opNext = s.opNext + 1 ∧
        t.reach r = { s.reach r with queue := (s.reach r).queue ++ [QCmd.mk s.opNext iss
          (bput b 2 1 (if wuItem (cmdWu b) = 0 then 0 else e.epoch)) none false false] } ∧
        (∀ q, q ≠ r → t.reach q = s.reach q) ∧ keeps s t parts) ∧
    (s.cmdCheck b = 0 → here → s.diePath dieK (ridDie r) = true → (s.reach r).held = [] → 1024 ≤ s.depth r →
      ∃ t, exec (.commandEnqueue iss bytes) s = .next t ∧ (t.reach r).queue = (s.reach r).queue ∧
        (t.reach r).held.map (·.id) = [s.opNext] ∧ keeps s t parts) ∧
    (s.cmdCheck b = 0 → here → s.diePath dieK (ridDie r) = false →
      ∃ t, exec (.commandEnqueue iss bytes) s = .next t ∧ (t.reach r).queue = (s.reach r).queue ∧
        (t.reach r).running.map (fun y => (y.id, y.done)) = (s.reach r).running.map (fun y => (y.id, y.done)) ++ [(s.opNext, some 7)] ∧
        keeps s t [.reaches, .opNext]) ∧
    (s.cmdCheck b ≠ 0 → (cmdSig b).valid = false →
      exec (.commandEnqueue iss bytes) s = .next (s.raiseStatus (s.cmdCheck b) (ridDie r) r none (cmdOp b)))) ∧
  (∀ (r : Nat) (s : State) (c : QCmd) (rest : List QCmd), s.reachLive r = true → (s.reach r).queue = c :: rest → (s.reach r).held = [] →
    (∀ x ∈ rest, x.id ≠ c.id) → ridLevel r < 4 → s.blocksBefore r c.id = 0 →
    let n := cmdCredits c.bytes
    let p := cmdPool c.bytes
    (s.poolCap r p).toNat < n →
      ∃ t, exec (.commandStart r) s = .next t ∧ (t.reach r).queue = rest ∧ t.pool r p = s.pool r p ∧
        (t.reach r).running.map (fun y => (y.id, y.done)) = (s.reach r).running.map (fun y => (y.id, y.done)) ++ [(c.id, some 5)] ∧
        keeps s t [.reaches]) ∧
  (∀ (r : Nat) (s : State) (c : QCmd) (rest : List QCmd), s.reachLive r = true → (s.reach r).queue = c :: rest → (s.reach r).held = [] →
    (∀ x ∈ rest, x.id ≠ c.id) → ridLevel r < 4 → s.blocksBefore r c.id = 0 → s.roomFor r (cmdOp c.bytes) = true → s.migrateHeld c.bytes = false →
    cmdNj c.bytes = 0 →
    let n := cmdCredits c.bytes
    let p := cmdPool c.bytes
    n ≤ (s.poolCap r p).toNat →
    (s.waitsOk r c.bytes = true → cmdFlag c.bytes 1 = false → cmdFlag c.bytes 2 = false → n ≤ (s.pool r p).toNat →
      ∃ t, exec (.commandStart r) s = .next t ∧ (t.reach r).queue = rest ∧ (t.pool r p).toNat = (s.pool r p).toNat - n ∧
        (t.reach r).running = (s.reach r).running ++ [RCmd.mk c.id c.iss c.bytes c.share false none 0 0 0 false] ∧
        (t.reach r).tokens = (s.reach r).tokens ∧ (∀ q, q ≠ r → t.reach q = s.reach q) ∧ keeps s t [.reaches]) ∧
    (s.waitsOk r c.bytes = false → rest = [] →
      exec (.commandStart r) s = .next (s.setReach r { s.reach r with blockWait := true, blockCredit := false, defer := false }))) ∧
  (∀ (r id d : Nat) (s : State) (y : RCmd), (s.reach r).running.find? (·.id == id) = some y → y.done = some d → y.left = 0 →
    s.reachHere r = true → s.dieUp (s.reportDie r) = true → s.asleep = false → y.sent = false → (cmdSig y.bytes).valid = false →
    (s.reach r).held = [] → y.iss = .mgmt ∨ y.iss = .none →
    let u := s.setReach r { s.reach r with running := (s.reach r).running.filter (·.id ≠ id) }
    exec (.commandComplete r id) s = .next (u.raiseStatus d (ridDie r) r none (cmdOp y.bytes))) ∧
  (∀ (r id d : Nat) (s : State) (y : RCmd), (s.reach r).running.find? (·.id == id) = some y → y.done = some d → y.left = 0 →
    s.reachHere r = true → s.dieUp (s.reportDie r) = true → s.asleep = false → y.sent = false → (cmdSig y.bytes).valid = false →
    (s.reach r).held = [] → ∀ pr pid, y.iss = .parent pr pid → pr ≠ r → d = 0 →
    ∃ t, exec (.commandComplete r id) s = .next t ∧ (t.reach r).running = (s.reach r).running.filter (·.id ≠ id) ∧
      (∀ z ∈ (s.reach pr).running, z.id = pid → ∃ w ∈ (t.reach pr).running, w.id = pid ∧ w.left = z.left - 1 ∧ w.fail = z.fail ∧
        w.data = z.data ||| y.data ∧ w.done = if z.left ≤ 1 ∧ z.acted then some z.fail else z.done) ∧ keeps s t [.reaches]) ∧
  (∀ (o : Origin) (off r : Nat) (v : Word) (s : State), isRchData off = true → s.rchSel off = ((s.rchSel off).1, some r) →
    (s.rchSel off).1.fld 22 2 = 2 → s.blockAnswers off = true → s.asleep = false → s.logFull = false → ridLevel r < 4 →
    let p := (s.rchSel off).1.fld 10 6
    ∃ t, exec (.poolCapacityWrite o off v) s = .next t ∧ t.poolCap r p = v ∧ (t.pool r p).toNat = min (s.pool r p).toNat v.toNat ∧
      (∀ q, q ≠ p → t.poolCap r q = s.poolCap r q ∧ t.pool r q = s.pool r q) ∧ (∀ q, q ≠ r → t.reach q = s.reach q) ∧
      (t.reach r).tokens = (s.reach r).tokens ∧ t.mem = s.mem ∧ t.cells = s.cells)

/-- R55, R57, R65, R66, R90, R99. -/
def Obligations.RunningCommandResults : Prop :=
  (∀ (r id : Nat) (s : State) (y : RCmd), s.toAct r id 1 = some y → ridLevel r = 0 →
    let ci := ridCellIdx r
    let pc := bfld y.bytes 42 8
    (s.fetchOk ci pc = false → exec (.run r id) s = .next (s.cmdDone r id 11 2048)) ∧
    (s.fetchOk ci pc = true → ∃ t, exec (.run r id) s = .next t ∧ (t.cell ci).phase = .running ∧ (t.cell ci).pc = pc ∧
      (t.cell ci).sr 1 = BitVec.ofNat 64 (bfld y.bytes 50 8) ∧ (t.cell ci).sr 2 = BitVec.ofNat 64 (cmdWu y.bytes) ∧
      (∀ q, q ≠ 1 → q ≠ 2 → (t.cell ci).sr q = 0) ∧ (t.cell ci).v = [] ∧ (t.cell ci).p = [] ∧ (t.cell ci).a = (s.cell ci).a ∧
      (t.cell ci).d = (s.cell ci).d ∧ (t.cell ci).emask = 0xDB0 ∧ (t.cell ci).cycle = 0 ∧ (t.cell ci).status = 0 ∧
      (t.cell ci).tepoch = BitVec.ofNat 64 (cmdEpoch y.bytes) ∧ (t.cell ci).seed = (s.cell ci).seed ∧ (t.cell ci).run = some id ∧
      (∀ j, j ≠ ci → t.cell j = s.cell j) ∧ keeps s t [.reaches, .cells])) ∧
  (∀ (r id : Nat) (s : State) (y : RCmd) (d : SDesc), s.toAct r id 1 = some y → ridLevel r = 1 → ridOk r = true → y.share = none →
    s.sdesc (bfld y.bytes 58 6) = some d → d.clean = true → d.kind = 0 → d.next = 0 → d.mask = 1 → cmdWu y.bytes % 1048576 < 1048575 →
    let k := ridUnit r * 2 ^ 24 + ridCluster r * 2 ^ 20
    (s.reach k).held = [] → (s.reach k).queue.length < 1024 →
    ∃ t c, exec (.run r id) s = .next t ∧ (t.reach k).queue = (s.reach k).queue ++ [c] ∧ c.id = s.opNext ∧ c.iss = .parent r id ∧
      cmdOp c.bytes = 1 ∧ cmdTarget c.bytes = k ∧ bfld c.bytes 42 8 = bfld y.bytes 42 8 ∧ bfld c.bytes 50 8 = bfld y.bytes 50 8 ∧
      (∀ q, q ≠ r → q ≠ k → t.reach q = s.reach q) ∧ keeps s t [.reaches, .opNext]) ∧
  (∀ (r id : Nat) (s : State) (y : RCmd), s.toAct r id 2 = some y →
    ((s.rangeStore (bfld y.bytes 42 8) 64 = none → exec (.split r id) s = .next (s.cmdDone r id 11 0)) ∧
     ((s.rangeStore (bfld y.bytes 42 8) 64).isSome = true → innerOk (s.readMem (bfld y.bytes 42 8) 64) = false →
       exec (.split r id) s = .next (s.cmdDone r id 10 0)) ∧
     ((s.rangeStore (bfld y.bytes 42 8) 64).isSome = true → innerOk (s.readMem (bfld y.bytes 42 8) 64) = true → y.share = none →
       (s.sdesc (bfld y.bytes 50 6) = none → exec (.split r id) s = .next (s.cmdDone r id 11 0)) ∧
       (∀ d, s.sdesc (bfld y.bytes 50 6) = some d → d.clean = false ∨ 3 < d.kind ∨ (d.kind = 2 ∧ d.chunk = 0) →
         exec (.split r id) s = .next (s.cmdDone r id 10 0)) ∧
       (∀ d, s.sdesc (bfld y.bytes 50 6) = some d → d.kind = 0 → d.mask = 1 → d.clean = true → d.next = 0 → ridLevel r = 1 → ridOk r = true →
         cmdOp (s.readMem (bfld y.bytes 42 8) 64) = 5 → cmdWu y.bytes % 1048576 < 1048575 →
         let k := ridUnit r * 2 ^ 24 + ridCluster r * 2 ^ 20
         (s.reach k).held = [] → (s.reach k).queue.length < 1024 →
         ∃ t c, exec (.split r id) s = .next t ∧ (t.reach k).queue = (s.reach k).queue ++ [c] ∧ c.iss = .parent r id ∧
           cmdOp c.bytes = 5 ∧ cmdTarget c.bytes = k ∧ cmdWu c.bytes = cmdWu y.bytes ∧ keeps s t [.reaches, .opNext])))) ∧
  (∀ (r id : Nat) (pe : PortEv) (s : State) (y : RCmd), s.toAct r id 3 = some y → y.share = none →
    let src := bfld y.bytes 42 8
    let dst := bfld y.bytes 50 8
    let len := bfld y.bytes 58 4
    let weir := if ridIsWeir r then some (ridUnit r - 16) else none
    (s.moveOk weir src dst len false false = false → exec (.moveReachCommand r id pe) s = .next (s.cmdDone r id 11 0)) ∧
    (s.moveOk weir src dst len false false = true → (∀ x ∈ s.moves, x.id ≠ s.opNext) → ∃ t m, exec (.moveReachCommand r id pe) s = .next t ∧ t.moves = s.moves ++ [m] ∧
      m.src = src ∧ m.dst = dst ∧ m.len = len ∧ m.owner = .reach r id ∧ m.sealEpoch = cmdEpoch y.bytes ∧ m.workUnit = cmdWu y.bytes ∧
      m.fold = false ∧ (ridIsWeir r = true → m.engine = 68 + (ridUnit r - 16)) ∧
      (ridLevel r = 0 → m.engine = ridUnit r * 16 + ridCluster r ∧ m.die = ridUnit r) ∧ t.mem.bytes = s.mem.bytes ∧ t.cells = s.cells)) ∧
  (∀ (r id : Nat) (s : State) (y : RCmd), s.toAct r id 4 = some y → s.reachHere r = true →
    let h := cmdSig y.bytes
    h.valid = true → h.encOk = true → h.remote = false → ridOk h.reach = true → ridLevel h.reach < 4 → wuItem (cmdWu y.bytes) = 0 →
    (s.diePath (ridDie r) (ridDie h.reach) = false → ∃ t, exec (.signalReachCommand r id) s = .next t ∧
      (t.reach h.reach).tokens = (s.reach h.reach).tokens ∧ (∃ z ∈ (t.reach r).running, z.id = id ∧ z.done = some 7) ∧ keeps s t [.reaches]) ∧
    (s.diePath (ridDie r) (ridDie h.reach) = true → (s.tok h.reach h.idx).toNat + h.inc ≤ 0xFFFFFFFF →
    ∃ t, exec (.signalReachCommand r id) s = .next t ∧ (t.tok h.reach h.idx).toNat = (s.tok h.reach h.idx).toNat + h.inc ∧
      (∀ q, q ≠ r → q ≠ h.reach → t.reach q = s.reach q) ∧
      (∃ z ∈ (t.reach r).running, z.id = id ∧ z.done = some 0 ∧ z.sent = true) ∧ keeps s t [.reaches])) ∧
  (∀ (r id : Nat) (s : State) (y : RCmd), s.toAct r id 5 = some y → exec (.waitReachCommand r id) s = .next (s.cmdDone r id 0 0)) ∧
  (∀ (r id : Nat) (s : State) (y : RCmd), s.toAct r id 6 = some y →
    let dst := bfld y.bytes 48 4
    let p := bfld y.bytes 42 1 % 64
    (ridOk dst = false → exec (.giveReachCommand r id) s = .next (s.cmdDone r id 11 0)) ∧
    (ridOk dst = true → ridLevel dst < 4 → bfld y.bytes 52 4 < 2 ^ 31 → wuItem (cmdWu y.bytes) = 0 → s.diePath (ridDie r) (ridDie dst) = true →
      ∃ t, exec (.giveReachCommand r id) s = .next t ∧
        (t.pool dst p).toNat = min ((s.pool dst p).toNat + bfld y.bytes 44 4) (s.poolCap dst p).toNat ∧
        (∃ z ∈ (t.reach r).running, z.id = id ∧ z.done = some 0) ∧ keeps s t [.reaches]))

/-- R72, R75 to R81. -/
def Obligations.PlacementResults : Prop :=
  (∀ (id : Nat) (s : State) (y : RCmd), s.toAct ridPkg id 8 = some y → bfld y.bytes 59 1 = 0 → cmdItem y.bytes ≠ 0 →
    let i := cmdItem y.bytes
    ((s.plcE i).state ≠ .free → exec (.place id) s = .next (s.cmdDone ridPkg id 10 0)) ∧
    ((s.plcE i).state = .free → bfld y.bytes 58 1 = 0 → bfld y.bytes 48 4 < 2 ^ 31 → s.isLocal s.devId = true →
      ∃ t, exec (.place id) s = .next t ∧ (t.plcE i).state = .placed ∧ (t.plcE i).reach = bfld y.bytes 44 4 ∧ (t.plcE i).home = true ∧
        (t.plcE i).epoch = (if (s.plcE i).placedEver then ((s.plcE i).epoch + 1) % 256 else 0) ∧ (t.plcE i).dests = [] ∧
        (∀ j, j ≠ i → t.plcE j = s.plcE j) ∧ (∃ z ∈ (t.reach ridPkg).running, z.id = id ∧ z.done = some 0) ∧ keeps s t [.reaches, .plc])) ∧
  (∀ (id : Nat) (s : State) (y : RCmd), s.toAct ridPkg id 8 = some y → bfld y.bytes 59 1 = 1 → cmdItem y.bytes ≠ 0 →
    let i := cmdItem y.bytes
    ((s.plcE i).state ≠ .placed → exec (.placeRelease id) s = .next (s.cmdDone ridPkg id 10 0)) ∧
    ((s.plcE i).state = .placed → (s.plcE i).home = true → (s.plcE i).cmd = none → bfld y.bytes 58 1 ≤ 16 → (s.plcE i).dests = [] →
      s.isLocal (s.plcE i).device = true →
      ∃ t, exec (.placeRelease id) s = .next t ∧ (t.plcE i).state = .free ∧ (t.plcE i).epoch = (s.plcE i).epoch ∧
        (∀ j, j ≠ i → t.plcE j = s.plcE j) ∧ (∃ z ∈ (t.reach ridPkg).running, z.id = id ∧ z.done = some 0) ∧ keeps s t [.reaches, .plc])) ∧
  (∀ (id dev st : Nat) (s : State) (item : Nat) (e : Plc), s.plc.find? (fun kv => kv.2.cmd == some id && kv.2.waiting.contains dev) = some (item, e) →
    (e.waiting.filter (· ≠ dev) ≠ [] → exec (.placementCopyAck id dev st none) s = .next (s.setPlc item
      { e with waiting := e.waiting.filter (· ≠ dev), acked := if st = 0 then e.acked ++ [dev] else e.acked,
               copyFail := if st = 0 then e.copyFail else mergeStatus e.copyFail st })) ∧
    (e.waiting = [dev] → e.state = .placed → st = 0 → e.copyFail = 0 → e.releasing = false → ∃ t, exec (.placementCopyAck id dev st none) s = .next t ∧
      (t.plcE item).state = .placed ∧ (t.plcE item).cmd = none ∧ keeps s t [.reaches, .plc])) ∧
  (∀ (id dev st : Nat) (c : PlcCopy) (s : State), s.isLocal c.home = false → c.state = 1 → (s.plcE c.item).held = [] →
    ∃ t, exec (.placementCopyAck id dev st (some c)) s = .next t ∧ (t.plcE c.item).state = .placed ∧ (t.plcE c.item).reach = c.reach ∧
      (t.plcE c.item).device = c.device ∧ (t.plcE c.item).epoch = c.epoch ∧ (t.plcE c.item).home = false ∧
      (t.plcE c.item).placedEver = true ∧ t.outbox = s.outbox ++ [.plcAck c.home c.item] ∧ (∀ j, j ≠ c.item → t.plcE j = s.plcE j) ∧
      keeps s t [.plc, .outbox]) ∧
  (∀ (id : Nat) (s : State) (y : RCmd), s.toAct ridPkg id 7 = some y → bfld y.bytes 44 1 = 0 →
    let i := cmdItem y.bytes
    (s.migrateCheck y.bytes ≠ 0 → exec (.migrateDrain id) s = .next (s.cmdDone ridPkg id (s.migrateCheck y.bytes) 0)) ∧
    (s.migrateCheck y.bytes = 0 → ∃ t, exec (.migrateDrain id) s = .next t ∧ (t.plcE i).state = .draining ∧
      (t.plcE i).reach = (s.plcE i).reach ∧ (t.plcE i).newReach = bfld y.bytes 46 4 ∧ (t.plcE i).epoch = (s.plcE i).epoch ∧
      (t.plcE i).cmd = some id ∧ (∀ j, j ≠ i → t.plcE j = s.plcE j) ∧ keeps s t [.reaches, .plc, .outbox])) ∧
  (∀ (id : Nat) (s : State) (y : RCmd), s.toAct ridPkg id 7 = some y → bfld y.bytes 44 1 = 1 →
    let i := cmdItem y.bytes
    (s.migrateCheck y.bytes ≠ 0 → (s.plcE i).settling = false → exec (.migrateFence id .clear) s = .next (s.cmdDone ridPkg id (s.migrateCheck y.bytes) 0)) ∧
    (s.migrateCheck y.bytes = 0 → s.cells = [] → s.reaches = [(ridPkg, { Reach.empty with running := [y] })] → y.id = id → y.bytes.length = 64 →
      s.isLocal (s.plcE i).device = true → s.isLocal s.devId = true → bfld y.bytes 50 4 < 2 ^ 31 → (s.plcE i).dests = [] →
      let da := bfld y.bytes 54 6
      s.still da 16 = true → s.clash = [] → ∃ t, exec (.migrateFence id .clear) s = .next t ∧ (t.plcE i).state = .placed ∧ (t.plcE i).reach = bfld y.bytes 46 4 ∧
        (t.plcE i).epoch = ((s.plcE i).epoch + 1) % 256 ∧ (∃ z ∈ (t.reach ridPkg).running, z.id = id ∧ z.done = some 0) ∧
        t.readMem da 16 = fenceReport i (s.plcE i).epoch [] ∧ (∀ a, a < da ∨ da + 16 ≤ a → t.byte a = s.byte a) ∧
        keeps s t [.reaches, .plc, .mem])) ∧
  (∀ (item id : Nat) (s : State), (s.plcE item).state = .draining → (s.plcE item).home = true → (s.plcE item).cmd = some id →
    (s.plcE item).releasing = false →
    (s.isLocal (s.plcE item).oldDevice = true → s.itemBusy item = true → exec (.drainedToken item) s = .next s) ∧
    (s.isLocal (s.plcE item).oldDevice = true → s.itemBusy item = false → s.isLocal (s.plcE item).newDevice = true →
      (s.plcE item).dests = [] → (s.plcE item).held = [] → (s.plcE item).report = [] →
      ∃ t, exec (.drainedToken item) s = .next t ∧ (t.plcE item).state = .placed ∧ (t.plcE item).reach = (s.plcE item).newReach ∧
        (t.plcE item).epoch = ((s.plcE item).epoch + 1) % 256 ∧ (∀ j, j ≠ item → t.plcE j = s.plcE j) ∧ keeps s t [.reaches, .plc])) ∧
  (∀ (item : Nat) (s : State), (s.plcE item).state = .draining → (s.plcE item).home = false → (s.plcE item).releasing = false →
    s.isLocal (s.plcE item).oldDevice = true → s.itemBusy item = false →
    exec (.drainedToken item) s = .next { s.setPlc item { s.plcE item with releasing := true } with
      outbox := s.outbox ++ [.drained (s.plcE item).homeDev item] }) ∧
  (∀ (item wu : Nat) (s : State) (x : Nat) (lost : Bool), (s.plcE item).state = .fencing → (s.plcE item).settling = false →
    (wu, 0) ∈ (s.plcE item).report → (s.plcE item).ended.find? (·.1 == wu) = some (x, lost) → (s.plcE item).waiting ≠ [] →
    (s.plcE item).home = true → s.still (s.plcE item).reportDA (16 + 8 * (s.plcE item).report.length) = true →
    let us := (s.plcE item).report.map fun u => if u = (wu, 0) then (wu, if lost then 3 else 2) else u
    ∃ t, exec (.fenceUnitResolved item wu none .clear) s = .next t ∧ (t.plcE item).report = us ∧
      t.mem = (s.writeMem (s.plcE item).reportDA (fenceReport item (s.plcE item).oldEpoch us)).mem ∧
      (∀ j, j ≠ item → t.plcE j = s.plcE j) ∧ keeps s t [.plc, .mem]) ∧
  (∀ (item wu : Nat) (us : List (Nat × Nat)) (s : State), (s.plcE item).state = .fencing → (s.plcE item).home = true →
    s.isLocal (s.plcE item).oldDevice = false → (s.plcE item).reported = true → (s.plcE item).waiting ≠ [] →
    s.still (s.plcE item).reportDA (16 + 8 * us.length) = true →
    ∃ t, exec (.fenceUnitResolved item wu (some us) .clear) s = .next t ∧ (t.plcE item).report = us ∧
      t.mem = (s.writeMem (s.plcE item).reportDA (fenceReport item (s.plcE item).oldEpoch us)).mem ∧
      (∀ j, j ≠ item → t.plcE j = s.plcE j) ∧ keeps s t [.plc, .mem])

/-- R9, R11, R13, R14, R17, R18, R506, R575, R580. -/
def Obligations.RegisterWriteResults : Prop :=
  (∀ (o : Origin) (off width : Nat) (v : Word) (s : State), off < 0x4000000 → s.blockAnswers off = true → width ≠ 32 ∨ off % 4 ≠ 0 →
    exec (.registerWrite o off width v 0) s = .next (s.bump Reg.KEY_RSVD_WRITES)) ∧
  (∀ (o : Origin) (off : Nat) (v : Word) (s : State), off < 0x1000000 → off % 4 = 0 → s.blockAnswers off = true → regAt off = none →
    quietLog s →
    ∃ t, exec (.registerWrite o off 32 v 0) s = .next t ∧ t.regs = (s.bump Reg.KEY_RSVD_WRITES).regs ∧ keeps s t [.regs]) ∧
  (∀ (o : Origin) (off : Nat) (m v : Word) (s : State), writable s off →
    (off, m) ∈ [(Reg.KEY_RCH_SEL, (0xFFFFFF : Word)), (Reg.KEY_PLC_SEL, 0xFFF), (Reg.HQ_Q_SEL, 0xFF), (Reg.NRG_LEDGER_SEL, 0x7F),
      (Reg.SEC_AUTH_ADDR_HI, 0x3FFF), (Reg.LOG_NOTEi 5, 0xFFFFFFFF), (Reg.Tt_RCH_SEL 3, 0xFFFFFF), (Reg.BED_LINK_SEL, 0x1F1F)] →
    ∃ t, exec (.registerWrite o off 32 v 0) s = .next t ∧ keeps s t [.regs] ∧
      t.regs = (if v &&& ~~~ m = 0 then s.setReg off v else (s.bump Reg.KEY_RSVD_WRITES).setReg off (v &&& m)).regs) ∧
  (∀ (o : Origin) (off : Nat) (m v : Word) (s : State), s.blockAnswers off = true → s.asleep = false → s.log.held = [] → s.log.unlogged = 0 →
    (off, m) ∈ [(Reg.KEY_RT_ENTRY, (0xFFFFFFFF : Word)), (Reg.BED_CAL_ADDR_LO, 0xFFFFFFC0), (Reg.Tt_CU_WLOAD_LO 2, 0xFFFFFFC0)] → v &&& ~~~ m = 0 →
    (s.logFull = false → o ≠ .autonomous → o ≠ .serviceButton → ∃ t, exec (.registerWrite o off 32 v 0) s = .next t ∧ t.reg off = v ∧
      loggedAs s t o off (s.reg off) v m ∧ (∀ q, q ≠ off → q ≠ Reg.KEY_PST_STATUS → t.reg q = s.reg q) ∧ keeps s t [.regs, .log, .store]) ∧
    (s.logFull = true → o = .host ∨ o = .fabric ∨ o = .debug → ∃ t, exec (.registerWrite o off 32 v 0) s = .next t ∧
      (t.reg Reg.LOG_REFUSAL).toNat = off + originCode o * 2 ^ 26 ∧ t.reg Reg.LOG_REFUSED = satAdd (s.reg Reg.LOG_REFUSED) 1 ∧
      (∀ q, q ≠ Reg.LOG_REFUSAL → q ≠ Reg.LOG_REFUSED → t.reg q = s.reg q) ∧ keeps s t [.regs])) ∧
  (∀ (o : Origin) (v : Word) (s : State), writable s Reg.KEY_GROUP_BASE → s.rb Reg.KEY_LOCK 0 = true → v &&& 0x7FE00000 = 0 →
    ∃ t, exec (.registerWrite o Reg.KEY_GROUP_BASE 32 v 0) s = .next t ∧
      t.reg Reg.KEY_LOCKED_WRITES = satAdd (s.reg Reg.KEY_LOCKED_WRITES) 1 ∧ t.reg Reg.KEY_GROUP_BASE = s.reg Reg.KEY_GROUP_BASE &&& 0x801FFFFF ∧
      (∀ q, q ≠ Reg.KEY_LOCKED_WRITES → q ≠ Reg.KEY_GROUP_BASE → t.reg q = s.reg q) ∧ keeps s t [.regs]) ∧
  (∀ (o : Origin) (off : Nat) (v : Word) (s : State), s.blockAnswers off = true → s.asleep = true → quietLog s →
    off ∈ [Reg.Tt_RCH_SEL 0, Reg.Wn_RCH_SEL 7, Reg.BED_LINK_SEL, Reg.Sd_PORTp_FAB 9] →
    ∃ t, exec (.registerWrite o off 32 v 0) s = .next t ∧ t.regs = (s.bump Reg.NRG_ASLEEP_ACCESS).regs ∧ keeps s t [.regs]) ∧
  (∀ (o : Origin) (v hw : Word) (s : State), writable s Reg.KEY_PLC_SEL → hw &&& 0xFFF ≠ 0 → v &&& ~~~ 0xFFF = 0 →
    ∃ t, exec (.registerWrite o Reg.KEY_PLC_SEL 32 v hw) s = .next t ∧ t.reg Reg.KEY_PLC_SEL &&& 0xFFF = s.reg Reg.KEY_PLC_SEL &&& 0xFFF ∧
      (∀ q, q ≠ Reg.KEY_PLC_SEL → t.reg q = s.reg q) ∧ keeps s t [.regs]) ∧
  (∀ (o : Origin) (v : Word) (s : State), writable s Reg.KEY_LOCK → v.toNat < 0x2000 → o ≠ .autonomous → o ≠ .serviceButton →
    ∃ t, exec (.lockBlock o v) s = .next t ∧ t.reg Reg.KEY_LOCK = (s.reg Reg.KEY_LOCK ||| v) &&& 0x1FFF ∧
      loggedAs s t o Reg.KEY_LOCK (s.reg Reg.KEY_LOCK) ((s.reg Reg.KEY_LOCK ||| v) &&& 0x1FFF) 0x1FFF ∧
      (∀ q, q ≠ Reg.KEY_LOCK → q ≠ Reg.KEY_PST_STATUS → t.reg q = s.reg q) ∧ keeps s t [.regs, .log, .store])

/-- R174, R175, R194, R198, R465, R466. -/
def Obligations.RegionAndWindowResults : Prop :=
  (∀ (o : Origin) (v : Word) (s : State), s.blockAnswers Reg.KEY_TRG_SEL = true → v.toNat < 256 →
    let r := s.region v.toNat
    (s.trgCommit = none → ∃ t, exec (.trgSelect o v) s = .next t ∧ t.reg Reg.KEY_TRG_SEL = v ∧
      t.reg Reg.KEY_TRG_BASE_LO = BitVec.ofNat 32 r.base ∧ t.reg Reg.KEY_TRG_BASE_HI = BitVec.ofNat 32 (r.base / 2 ^ 32) ∧
      t.reg Reg.KEY_TRG_TRL_LO = BitVec.ofNat 32 r.trl ∧ t.reg Reg.KEY_TRG_COUNT = BitVec.ofNat 32 r.count ∧
      t.reg Reg.KEY_TRG_CFG = BitVec.ofNat 32 (r.slotUnits + r.sealFmt * 256 + r.valid.toNat * 65536) ∧ keeps s t [.regs]) ∧
    (s.trgCommit.isSome = true → exec (.trgSelect o v) s = .next (s.setRf Reg.KEY_TRG_STATUS 1 3 4))) ∧
  (∀ (o : Origin) (v : Word) (s : State), writable s Reg.KEY_TRG_CFG → s.trgCommit = none → v.toNat < 0x40000 → v.bit 16 = true →
    let k := s.rf Reg.KEY_TRG_SEL 0 8
    (s.regionCheck k (s.stagedRegion v) = 0 → ∃ t, exec (.trgCommit o v) s = .next t ∧ t.trg = s.trg ∧
      t.trgCommit = some { entry := k, region := s.stagedRegion v, init := v.bit 17 } ∧ t.mem = s.mem ∧ t.log.next = s.log.next + 1) ∧
    (s.regionCheck k (s.stagedRegion v) ≠ 0 → ∃ t, exec (.trgCommit o v) s = .next t ∧ t.trg = s.trg ∧ t.trgCommit = none ∧
      t.rf Reg.KEY_TRG_STATUS 1 3 = s.regionCheck k (s.stagedRegion v) ∧ t.mem = s.mem)) ∧
  (∀ (o : Origin) (v : Word) (s : State), writable s Reg.KEY_TRG_CFG → s.trgCommit = none → v.toNat < 0x40000 → v.bit 16 = false →
    let k := s.rf Reg.KEY_TRG_SEL 0 8
    ∃ t, exec (.trgInvalidate o v) s = .next t ∧ t.region k = { s.region k with valid := false } ∧ (∀ j, j ≠ k → t.region j = s.region j) ∧
      t.trgCommit = none ∧ t.mem = s.mem) ∧
  (∀ (s : State) (c : TrgCommit), s.trgCommit = some c →
    (c.init = true → s.still c.region.trl (c.region.count * 8) = true) →
    ∃ t, exec (.trgCommitDone .clear) s = .next t ∧ t.trgCommit = none ∧ t.region c.entry = c.region ∧ (∀ j, j ≠ c.entry → t.region j = s.region j) ∧
      keeps s t [.trg, .trgCommit, .mem] ∧
      (if c.init then t.readMem c.region.trl (c.region.count * 8) = zeros (c.region.count * 8) ∧
        ∀ a, a < c.region.trl ∨ c.region.trl + c.region.count * 8 ≤ a → t.byte a = s.byte a
       else t.mem = s.mem)) ∧
  (∀ (off len : Nat) (pe : PortEv) (s : State), s.barTakes off len = true →
    let da := s.barDA off
    (s.asleep = true → exec (.bar4Read off len pe) s =
      .next ((s.bump Reg.NRG_ASLEEP_ACCESS).emit (.barRead (List.replicate len 0xFF)))) ∧
    (s.asleep = false → s.hostStore da len = none → exec (.bar4Read off len pe) s =
      .next ((s.emit (.barRead (List.replicate len 0xFF))).raiseErr 2 0x2C dieK 0 (some da) 0)) ∧
    (s.asleep = false → (s.hostStore da len).isSome = true → s.poisonRange da len = false → s.calm da len = true →
      ∃ t, exec (.bar4Read off len .clear) s = .next t ∧
      t.outbox = s.outbox ++ [.barRead (s.readMem da len)] ∧ keeps s t [.outbox])) ∧
  (∀ (off : Nat) (data : List Byte) (poisoned : Bool) (pe : PortEv) (s : State), s.barTakes off data.length = true →
    let da := s.barDA off
    let stop := poisoned || (s.hostStore da data.length).isNone || touchesTiled s.trg da data.length || s.touchesKv da data.length
    (s.asleep = true → exec (.bar4Write off data poisoned pe) s = .next (s.bump Reg.NRG_ASLEEP_ACCESS)) ∧
    (s.asleep = false → stop = true → exec (.bar4Write off data poisoned pe) s = .next (s.raiseErr 2 0x2C dieK 0 (some da) 0)) ∧
    (s.asleep = false → stop = false → s.still da data.length = true → ∃ t, exec (.bar4Write off data poisoned .clear) s = .next t ∧ t.readMem da data.length = data ∧
      (∀ a, a < da ∨ da + data.length ≤ a → t.byte a = s.byte a) ∧ keeps s t [.mem]))

/-- R187, R188, R73. -/
def Obligations.MoveCompletionResults : Prop :=
  ∀ (id r c : Nat) (s : State) (m : MoveOp), s.move id = some m → m.owner = .reach r c → m.todo = [] → m.left = 0 →
    s.moveRunning m = true → s.pwr.fatal = false → s.released m.die = true → s.asleep = false → m.len ≠ 0 → m.status = 0 →
    s.isLocal (gaDev m.src) = true → s.isLocal (gaDev m.dst) = true → m.fold = false →
    s.poisonRange (gaDA m.src) m.len = false → s.clash = [] →
    let u : State := { s with moves := s.moves.filter (·.id ≠ id) }
    let a := gaDA m.src
    let b := gaDA m.dst
    let ovr := fun (t : State) (st : Nat) => t.moves = s.moves.filter (·.id ≠ id) ∧ (t.reach r).running = (s.reach r).running.map (fun y =>
      if y.id = c then { y with acted := true, done := some st, data := 0 } else y)
    (s.plcOk m.workUnit m.epoch = false → ∃ t, exec (.moveComplete id .clear) s = .next t ∧ ovr t 2 ∧ t.mem = s.mem ∧
      t.regs = (s.bump Reg.KEY_PLC_DISCARDS).regs ∧ keeps s t [.moves, .reaches, .regs]) ∧
    (s.plcOk m.workUnit m.epoch = true → rangeKind m.regions a m.len = .untiled → rangeKind m.regions b m.len = .untiled →
      rangesMeet a m.len b m.len = false → u.calm a m.len = true → u.still b m.len = true →
      ∃ t, exec (.moveComplete id .clear) s = .next t ∧ ovr t 0 ∧ t.readMem b m.len = s.readMem a m.len ∧
        (∀ x, x < b ∨ b + m.len ≤ x → t.byte x = s.byte x) ∧ keeps s t [.moves, .reaches, .mem]) ∧
    (∀ q, s.plcOk m.workUnit m.epoch = true → rangeKind m.regions a m.len = .untiled → rangeKind m.regions b m.len = .tiled q →
      m.len = q.slot → tileBytes q.sealFmt ≤ q.slot → rangesMeet a m.len b m.len = false →
      rangesMeet b (tileBytes q.sealFmt) (q.trailerDA b) 8 = false → tileBytes q.sealFmt ≠ 0 →
      u.calm a m.len = true → u.still b m.len = true → u.still (q.trailerDA b) 8 = true →
      let k := tileBytes q.sealFmt
      ∃ t, exec (.moveComplete id .clear) s = .next t ∧ ovr t 0 ∧ t.readMem b k = s.readMem a k ∧
        t.readMem (q.trailerDA b) 8 = (mkTrailer (s.readMem a k) m.sealEpoch q.sealFmt false true).toBytes ∧
        (∀ x, x < b ∨ b + k ≤ x → x < q.trailerDA b ∨ q.trailerDA b + 8 ≤ x → t.byte x = s.byte x) ∧ keeps s t [.moves, .reaches, .mem])

/-- R202, R204, R205, R211 to R213, R239, R246. -/
def Obligations.WeirQueueAndSlotResults : Prop :=
  (∀ (n : Fin 16) (s : State) (k : WBlk) (rest : List WBlk) (ci op : Nat), s.dieUp (dieW n) = true → s.asleep = false →
    (s.weir n).running.length + (s.reach (weirRid n)).running.length < 16 → (s.weir n).queue = k :: rest → s.slotAct = none →
    k.iss = .cell ci op → (∀ x ∈ rest, x.id ≠ k.id) → (s.reach (weirRid n)).held = [] →
    (slotFree (s.weir n) [] k = true → (∀ c ∈ (s.reach (weirRid n)).queue, k.id < c.id) → ∃ t, exec (.weirCommandStart n) s = .next t ∧
      t.weir n = { s.weir n with queue := rest, running := (s.weir n).running ++ [⟨k, s.trg, if s.wbCheck n k = 0 then none else some (s.wbCheck n k)⟩] } ∧
      (∀ j, j ≠ n.val → t.weir j = s.weir j) ∧ (∀ r, t.reach r = s.reach r) ∧ keeps s t [.weirs, .reaches]) ∧
    ((∃ c ∈ (s.reach (weirRid n)).queue, c.id ≤ k.id) → rest = [] → exec (.weirCommandStart n) s = .next s) ∧
    (slotFree (s.weir n) [] k = false → rest = [] → exec (.weirCommandStart n) s = .next s)) ∧
  (∀ (n : Fin 16) (id st ci op : Nat) (s : State) (y : WRun) (o : AOp), (s.weir n).running.find? (fun y => y.blk.id == id) = some y →
    y.done = some st → s.pwr.fatal = false → s.asleep = false → y.blk.iss = .cell ci op → s.weirPath (ci / 256) n = true →
    (s.cell ci).op op = some o → o.sig.inc = 0 →
    ∃ t o', exec (.weirCommandComplete n id) s = .next t ∧ (t.weir n).running = (s.weir n).running.filter (·.blk.id ≠ id) ∧
      (t.cell ci).op op = some o' ∧ o'.left = o.left - 1 ∧ o'.status = worseStatus o.status st ∧ (t.cell ci).s = (s.cell ci).s ∧
      keeps s t [.weirs, .cells, .outbox, .errSeq, .err, .store]) ∧
  (∀ (o : Origin) (v : Word) (s : State), writable s Reg.KEY_KV_PART →
    (s.slotAct = none → (s.slots.any fun kv => kv.2.active) = true →
      exec (.kvPartWrite o v) s = .next (s.setRf Reg.KEY_SLOT_STATUS 1 3 4)) ∧
    (s.slotAct = none → (s.slots.any fun kv => kv.2.active) = false → s.fuses.stackHeight = 16 → 65536 < v.fld 0 16 + v.fld 16 16 →
      exec (.kvPartWrite o v) s = .next (s.setRf Reg.KEY_SLOT_STATUS 1 3 1)) ∧
    (s.slotAct = none → (s.slots.any fun kv => kv.2.active) = false → v.fld 0 16 + v.fld 16 16 ≤ 49152 →
      ∃ t, exec (.kvPartWrite o v) s = .next t ∧ t.kvBase = v.fld 0 16 * 2 ^ 20 ∧ t.kvSize = v.fld 16 16 * 2 ^ 20 ∧
        t.log.next = s.log.next + 1 ∧ keeps s t [.regs, .log, .store])) ∧
  (∀ (o : Origin) (v : Word) (s : State), s.blockAnswers Reg.KEY_SLOT_SEL = true → v.toNat < 8 →
    let y := tget .free s.slots v.toNat
    ∃ t, exec (.slotSelect o v) s = .next t ∧ t.reg Reg.KEY_SLOT_SEL = v ∧ t.reg Reg.KEY_SLOT_RSV = y.rsv ∧ t.reg Reg.KEY_SLOT_SHAPE = y.shape ∧
      t.reg Reg.KEY_SLOT_POL0 = y.pol0 ∧ t.reg Reg.KEY_SLOT_POL1 = y.pol1 ∧ keeps s t [.regs]) ∧
  (∀ (o : Origin) (s : State), writable s Reg.KEY_SLOT_CFG → s.slotAct = none →
    let k := s.rf Reg.KEY_SLOT_SEL 0 3
    let act := (tget .free s.slots k).active
    (act = true → exec (.slotCreate o 1) s = .next (s.setRf Reg.KEY_SLOT_STATUS 1 3 4)) ∧
    (act = false → s.createCheck k s.staged = 0 → ∃ t, exec (.slotCreate o 1) s = .next t ∧
      t.slotAct = some { slot := k, action := 1, staged := s.staged, applied := [] } ∧ t.log.next = s.log.next + 1 ∧ keeps s t [.regs, .slotAct, .log, .store]) ∧
    (act = false → s.createCheck k s.staged ≠ 0 → ∃ t, exec (.slotCreate o 1) s = .next t ∧ t.slotAct = none ∧
      t.rf Reg.KEY_SLOT_STATUS 1 3 = s.createCheck k s.staged ∧ keeps s t [.regs, .log, .store]) ∧
    (act = false → exec (.slotUpdatePolicy o 2) s = .next (s.setRf Reg.KEY_SLOT_STATUS 1 3 4) ∧
      exec (.slotRelease o 3) s = .next (s.setRf Reg.KEY_SLOT_STATUS 1 3 4)) ∧
    (act = true → policyOk s.staged.pol0 s.staged.pol1 = true → ∃ t, exec (.slotUpdatePolicy o 2) s = .next t ∧
      t.slotAct = some { slot := k, action := 2, staged := s.staged, applied := [] } ∧ keeps s t [.regs, .slotAct, .log, .store]) ∧
    (act = true → ∃ t, exec (.slotRelease o 3) s = .next t ∧
      t.slotAct = some { slot := k, action := 3, staged := s.staged, applied := [] } ∧ keeps s t [.regs, .slotAct, .log, .store])) ∧
  (∀ (s : State) (a : SlotAct), s.slotAct = some a → s.asleep = false → a.applied = [] →
    (∀ n, n < 16 → ∀ y ∈ (s.weir n).running, (wbHasSlot y.blk.bytes && wbSlot y.blk.bytes == a.slot) = false) →
    let y := tget .free s.slots a.slot
    let agree := ∀ n, n < 16 → (s.wslot n a.slot).active = y.active ∧ (s.wslot n a.slot).epoch = y.epoch
    let done := fun (x : Nat → Slot) (t : State) => t.slotAct = none ∧
      (∀ j, j ≠ a.slot → tget .free t.slots j = tget .free s.slots j) ∧ ∀ n, n < 16 → t.wslot n a.slot = x n
    ((∃ n, n < 16 ∧ s.dieUp (dieW n) = false) → ∃ t b, exec .slotActionDone s = .next t ∧ t.slotAct = some b ∧ b.slot = a.slot ∧
      b.action = a.action ∧ t.slots = s.slots ∧ (∀ n, n < 16 → s.dieUp (dieW n) = false → t.weir n = s.weir n) ∧
      keeps s t [.slotAct, .weirs, .mem]) ∧
    ((∀ n, n < 16 → s.dieUp (dieW n) = true) →
      (a.action = 1 → ∃ t, exec .slotActionDone s = .next t ∧
        let x := { a.staged with active := true, epoch := (y.epoch + 1) % 65536 }
        done (fun _ => x) t ∧ tget .free t.slots a.slot = x ∧ (∀ n, n < 16 → tget 0 (t.weir n).lens a.slot = 0) ∧
        keeps s t [.slots, .slotAct, .weirs, .mem]) ∧
      (a.action = 2 → ∃ t, exec .slotActionDone s = .next t ∧
        done (fun n => { s.wslot n a.slot with pol0 := a.staged.pol0, pol1 := a.staged.pol1 }) t ∧
        (agree → tget .free t.slots a.slot = { y with pol0 := a.staged.pol0, pol1 := a.staged.pol1 }) ∧
        (∀ n, n < 16 → (t.weir n).lens = (s.weir n).lens) ∧ keeps s t [.slots, .slotAct, .weirs]) ∧
      (a.action = 3 → ∃ t, exec .slotActionDone s = .next t ∧
        done (fun n => { s.wslot n a.slot with active := false, epoch := ((s.wslot n a.slot).epoch + 1) % 65536 }) t ∧
        (agree → tget .free t.slots a.slot = { y with active := false, epoch := (y.epoch + 1) % 65536 }) ∧
        (∀ n, n < 16 → tget 0 (t.weir n).lens a.slot = 0) ∧ keeps s t [.slots, .slotAct, .weirs])))

/-- R220, R221, R225, R226, R232, R234, R236. -/
def Obligations.WeirDataResults : Prop :=
  (∀ (n : Fin 16) (id : Nat) (s : State) (k : WBlk), s.plcOk k.workUnit k.epoch = false →
    (s.wbAct n id 1 none = some k → exec (.append n id) s = .next (s.discard.wbDone n id 2 0)) ∧
    (s.wbAct n id 2 none = some k → ∀ pe, exec (.attend n id pe) s = .next (s.discard.wbDone n id 2 0)) ∧
    (s.wbAct n id 4 none = some k → ∀ pe, exec (.gather n id pe) s = .next (s.discard.wbDone n id 2 0))) ∧
  (∀ (n : Fin 16) (id : Nat) (s : State) (k : WBlk), s.wbAct n id 1 none = some k → s.plcOk k.workUnit k.epoch = true → s.clash = [] →
    bfld k.bytes 28 2 = 1 → k.bytes.length = 640 →
    let x := s.wslot n (wbSlot k.bytes)
    let e := aEntry k.bytes 0
    let a := s.pageAt n x e.head (e.pos / 64)
    weirHolds n e.head (e.pos / 64) = true → a.frame + x.frame ≤ a.sblk → a.sblk + 2048 ≤ a.strl → s.poisonRange a.frame x.frame = false →
    s.poisonRange a.sblk 2048 = false →
    ∃ t, exec (.append n id) s = .next t ∧ (t.phdr a).present = (s.phdr a).present ||| 2 ^ (e.pos % 64) ∧
      t.readMem (a.blk 4 + 32 * (e.pos % 64)) 32 = e.sk ∧
      tget 0 (t.weir n).lens (wbSlot k.bytes) = max (tget 0 (s.weir n).lens (wbSlot k.bytes)) (e.pos + 1) ∧
      (∀ d, d < a.frame ∨ a.frame + x.frame ≤ d → d < a.sblk ∨ a.sblk + 2048 ≤ d → d < a.strl ∨ a.strl + 8 ≤ d → t.byte d = s.byte d) ∧
      (∀ j, j ≠ n.val → t.weir j = s.weir j) ∧ (t.weir n).slots = (s.weir n).slots ∧ keeps s t [.weirs, .mem, .regs] ∧
      ((s.phdr a).present = 0 → s.blkOk a.sblk 2048 a.strl = true → t.regs = s.regs ∧ ∃ y ∈ (t.weir n).running, y.blk = k ∧ y.done = some 0)) ∧
  (∀ (n : Fin 16) (id : Nat) (s : State) (k : WBlk), s.wbAct n id 2 none = some k → s.plcOk k.workUnit k.epoch = true → s.clash = [] →
    let b := k.bytes
    let x := s.wslot n (wbSlot b)
    let fl := bfld b 33 1
    let ovr := fl / 2 % 2 == 1
    let p1 : Word := if ovr then BitVec.ofNat 32 (bfld b 44 4) else x.pol1
    let dense := fl % 2 == 1 || decide (bfld b 28 4 < p1.fld 23 9 * 16384)
    let res := toBytesLE 1 (wbSlot b) ++ toBytesLE 1 n ++ toBytesLE 2 x.epoch ++ zeros 20 ++ toBytesLE 1 (dense.toNat + 4 * ovr.toNat) ++
      toBytesLE 1 x.qheads ++ zeros 6 ++ (List.replicate x.qheads (toBytesLE 4 0xFF800000 ++ zeros 516)).flatten
    (∀ g, g < x.kvh → s.ownedPages n x (bfld b 32 1 * x.kvh + g) (bfld b 28 4) = []) →
    (s.wbEnd n id).still (wbResult n b) res.length = true →
    ∃ t, exec (.attend n id .clear) s = .next t ∧ t.readMem (wbResult n b) res.length = res ∧
      (∀ d, d < wbResult n b ∨ wbResult n b + res.length ≤ d → t.byte d = s.byte d) ∧
      (∃ y ∈ (t.weir n).running, y.blk = k ∧ y.done = some 0) ∧ (∀ q, t.reg q = s.reg q) ∧ keeps s t [.weirs, .mem, .regs]) ∧
  (∀ (n : Fin 16) (id : Nat) (s : State) (k : WBlk), s.wbAct n id 3 none = some k → s.plcOk k.workUnit k.epoch = true → s.clash = [] →
    let src := bfld k.bytes 32 8
    let dst := bfld k.bytes 16 8
    let len := bfld k.bytes 40 4
    len % 32 = 0 → rangeKind (s.wbRegions n id) src len = .untiled → rangeKind (s.wbRegions n id) dst len = .untiled →
    rangesMeet src len dst len = false → (s.wbEnd n id).calm src len = true → (s.wbEnd n id).still dst len = true → s.poisonRange src len = false → s.poisonRange dst len = false →
    ∃ t, exec (.foldCommand n id .clear) s = .next t ∧ t.readMem dst len = foldInts (s.readMem dst len) (s.readMem src len) ∧
      (∀ d, d < dst ∨ dst + len ≤ d → t.byte d = s.byte d) ∧ (∃ y ∈ (t.weir n).running, y.blk = k ∧ y.done = some 0) ∧
      t.reg (Reg.Wn_FOLD_TILES n) = satAdd (s.reg (Reg.Wn_FOLD_TILES n)) ((len + 8191) / 8192) ∧ keeps s t [.weirs, .mem, .regs]) ∧
  (∀ (n : Fin 16) (id : Nat) (s : State) (k : WBlk), s.wbAct n id 4 none = some k → s.plcOk k.workUnit k.epoch = true → s.clash = [] →
    let b := k.bytes
    let tab := bfld b 32 8
    let el := bfld b 40 4
    let ic := bfld b 48 4
    let dst := wbResult n b
    bfld b 28 1 % 2 = 0 → (∀ i, i < ic → bfld b (64 + 4 * i) 4 < bfld b 44 4) → s.poisonRange tab (bfld b 44 4 * el) = false →
    rangesMeet tab (bfld b 44 4 * el) dst (ic * el) = false → s.mem.bad = [] →
    rangeKind (s.wbRegions n id) tab (bfld b 44 4 * el) = .untiled → rangeKind (s.wbRegions n id) dst (ic * el) = .untiled →
    (s.wbEnd n id).calm tab (bfld b 44 4 * el) = true → (s.wbEnd n id).still dst (ic * el) = true →
    ∃ t, exec (.gather n id .clear) s = .next t ∧
      (∀ i, i < ic → t.readMem (dst + i * el) el = s.readMem (tab + bfld b (64 + 4 * i) 4 * el) el) ∧
      (∀ d, d < dst ∨ dst + ic * el ≤ d → t.byte d = s.byte d) ∧ (∃ y ∈ (t.weir n).running, y.blk = k ∧ y.done = some 0) ∧
      keeps s t [.weirs, .mem]) ∧
  (∀ (n : Fin 16) (x : FoldIn) (s : State) (r : Region), regionIn s.trg x.dest 8192 = some r → s.rangeStore x.dest 8192 = some n.val →
    (x.dest - r.base) % r.slot = 0 → s.touchesKv x.dest 8192 = false → s.dieUp (dieW n) = true → s.asleep = false → 8192 ≤ r.slot →
    (s.plcOk x.workUnit x.epoch = false → exec (.tileFold n x) s = .next s.discard) ∧
    (s.plcOk x.workUnit x.epoch = true → (s.trailer (r.trailerDA x.dest)).valid = false → x.bad = false → x.fmt = foldFmt x.bf16 →
      s.poisonRange x.dest 8192 = false → s.still x.dest 8192 = true → s.still (r.trailerDA x.dest) 8 = true →
      let sum := foldBytes x.bf16 (zeros 8192) (padTo 8192 x.data)
      rangesMeet x.dest sum.length (r.trailerDA x.dest) 8 = false →
      ∃ t, exec (.tileFold n x) s = .next t ∧ t.readMem x.dest sum.length = sum ∧
        t.readMem (r.trailerDA x.dest) 8 = (mkTrailer sum x.epoch x.fmt false false).toBytes ∧
        (∀ d, d < x.dest ∨ x.dest + sum.length ≤ d → d < r.trailerDA x.dest ∨ r.trailerDA x.dest + 8 ≤ d → t.byte d = s.byte d) ∧
        t.regs = (s.bump (Reg.Wn_FOLD_TILES n)).regs ∧ keeps s t [.mem, .regs]))

/-- R213, R229 to R231. -/
def Obligations.WeirPageResults : Prop :=
  (∀ (n : Fin 16) (id : Nat) (s : State) (k : WBlk), s.plcOk k.workUnit k.epoch = false →
    (s.wbAct n id 5 none = some k → exec (.requant n id) s = .next (s.discard.wbDone n id 2 0)) ∧
    (s.wbAct n id 6 (some 0) = some k → exec (.evictTruncate n id) s = .next (s.discard.wbDone n id 2 0)) ∧
    (s.wbAct n id 6 (some 1) = some k → exec (.evictDrop n id) s = .next (s.discard.wbDone n id 2 0)) ∧
    (s.wbAct n id 6 (some 2) = some k → exec (.evictUndrop n id) s = .next (s.discard.wbDone n id 2 0)) ∧
    (s.wbAct n id 6 (some 3) = some k → exec (.evictRelease n id) s = .next (s.discard.wbDone n id 2 0)) ∧
    (s.wbAct n id 7 (some 0) = some k → exec (.resummarizeRecompute n id) s = .next (s.discard.wbDone n id 2 0)) ∧
    (s.wbAct n id 7 (some 1) = some k → exec (.resummarizeInstall n id) s = .next (s.discard.wbDone n id 2 0))) ∧
  (∀ (n : Fin 16) (id : Nat) (s : State) (k : WBlk), s.plcOk k.workUnit k.epoch = true → s.clash = [] →
    let sl := wbSlot k.bytes
    let x := s.wslot n sl
    let ovr := fun (t : State) (st : Nat) => ∃ y ∈ (t.weir n).running, y.blk = k ∧ y.done = some st
    (s.wbAct n id 6 (some 3) = some k → ∃ t, exec (.evictRelease n id) s = .next t ∧ ovr t 0 ∧
      t.wslot n sl = { x with active := false, epoch := (x.epoch + 1) % 65536 } ∧ tget 0 (t.weir n).lens sl = 0 ∧
      (∀ j, j ≠ sl → t.wslot n j = s.wslot n j) ∧ keeps s t [.weirs, .slots]) ∧
    (∀ h p, wbPages n k.bytes = [(h, p)] →
      let a := s.pageAt n x h p
      let hd := s.phdr a
      let out := fun (t : State) (lo hi : Nat) => ∀ d, d < lo ∨ hi ≤ d → t.byte d = s.byte d
      (∀ on : Bool, s.wbAct n id 6 (some (if on then 1 else 2)) = some k → s.blkOk (a.blk 5) 32 (a.trl 5) = true → s.poisonRange (a.blk 5) 32 = false →
        ∃ t, exec (if on then .evictDrop n id else .evictUndrop n id) s = .next t ∧ ovr t 0 ∧
          t.phdr a = { hd with flags := hd.flags / 2 * 2 + on.toNat } ∧ out t (a.blk 5) (a.blk 5 + 80) ∧ t.regs = s.regs) ∧
      (s.wbAct n id 5 none = some k → s.blkOk (a.blk 5) 32 (a.trl 5) = true → hd.present ≠ 2 ^ 64 - 1 ∨ hd.fmt ≠ 4 → exec (.requant n id) s = .next (s.wbDone n id 0 0)) ∧
      (s.wbAct n id 5 none = some k → x.mx = false → hd.present = 2 ^ 64 - 1 → hd.fmt = 4 → s.pageBad { p := p, at_ := a, hdr := hd } = 0 →
        ∃ t, exec (.requant n id) s = .next t ∧ ovr t 0 ∧ (∀ b, b < 4 → t.readMem (a.blk b) 2176 = requantTile (s.readMem (a.blk b) 4096)) ∧
          t.phdr a = { hd with fmt := 8 } ∧ out t a.frame (a.frame + x.frame) ∧ keeps s t [.weirs, .mem]) ∧
      (s.wbAct n id 7 (some 0) = some k → s.blkOk (a.blk 5) 32 (a.trl 5) = true → s.blkOk (a.blk 4) 2048 (a.trl 4) = true → s.blkOk a.sblk 2048 a.strl = true →
        s.poisonRange a.sblk 2048 = false → a.sblk + 2048 ≤ a.strl →
        ∃ t, exec (.resummarizeRecompute n id) s = .next t ∧ ovr t 0 ∧
          t.readMem (a.sblk + a.sOff) 32 = summaryOf (s.readMem (a.blk 4) 2048) hd.present ∧ out t a.sblk (a.strl + 8) ∧ keeps s t [.weirs, .mem]) ∧
      (s.wbAct n id 7 (some 1) = some k → k.bytes.length = 2112 → a.frame + x.frame ≤ a.sblk → a.sblk + 2048 ≤ a.strl →
        s.poisonRange a.sblk 2048 = false →
        ∃ t, exec (.resummarizeInstall n id) s = .next t ∧ t.readMem (a.blk 4) 2048 = k.bytes.drop 64 ∧ out t a.frame (a.strl + 8) ∧
          (s.blkOk a.sblk 2048 a.strl = true → s.blkOk (a.blk 5) 32 (a.trl 5) = true → s.poisonRange a.frame x.frame = false → ovr t 0))) ∧
    (∀ h p, s.wbAct n id 6 (some 0) = some k → heldPages n x = [(h, p)] →
      let a := s.pageAt n x h p
      let hd := s.phdr a
      let len := bfld k.bytes 44 4
      let cut := ((List.range 64).map fun r => if hd.has r && decide (64 * p + r < len) then 2 ^ r else 0).foldl (· + ·) 0
      s.blkOk (a.blk 5) 32 (a.trl 5) = true → s.poisonRange a.frame x.frame = false → s.poisonRange a.sblk 2048 = false →
      a.frame + x.frame ≤ a.sblk → a.sblk + 2048 ≤ a.strl →
      ∃ t, exec (.evictTruncate n id) s = .next t ∧ (t.phdr a).present = cut ∧ (t.phdr a).page = hd.page ∧ (t.phdr a).fmt = hd.fmt ∧
        t.wslot n sl = { x with epoch := (x.epoch + 1) % 65536 } ∧ (∀ j, j ≠ sl → t.wslot n j = s.wslot n j)))

/-- The state once unit t's job has left it. -/
abbrev Sys2Proof.Machine.State.jobOver (s : State) (t : Nat) : State := s.setCu t { s.cu t with job := none, jobUnlocked := 0 }

/-- What vector i of a job on the digital fallback gives (R252 to R254): zeros for a vector of zeros, else the quantised dot products, each
clipped to its row's full scale, in the output mode. -/
def Sys2Proof.fallbackOut (s : State) (w : WSet) (fmt mode inDA i : Nat) : List Byte :=
  let vs := cuElems fmt (s.readMem (inDA + i * cuInBytes fmt) (cuInBytes fmt))
  let x := cuScale vs
  if vs.all FV.isZero then zeros (cuOutBytes mode)
  else cuOut mode w x ((List.range 256).map fun j => (w.clip j (w.dot j (vs.map (cuQuant x)) * 2 ^ 20)).1)

/-- R252 to R255, R262 to R264, R270, R274. -/
def Obligations.ConfluenceJobResults : Prop :=
  (∀ (t : Fin 4) (s : State) (e : CuEntry) (q : List CuEntry), (s.cu t).queue = e :: q → (s.cu t).job = none → (s.cu t).hold = none →
    s.dieUp t = true → s.asleep = false →
    (∀ ci op a b st tag c f m n wu ep, e = .oproj ci op a b st tag c f m n wu ep → exec (.cuJobStart t) s = .next (s.setCu t
      { s.cu t with queue := q, job := some e, jobOptical := (s.cu t).mode == 1, jobUnlocked := if s.bankLocked t then 0 else 2 })) ∧
    (∀ ci op tag a b, e = .bound ci op tag a b → exec (.cuJobStart t) s = .next s)) ∧
  (∀ (t : Fin 4) (s : State) (ci op inDA outDA tag c fmt mode n wu ep : Nat) (st : Option Nat) (o : AOp),
    (s.cu t).job = some (.oproj ci op inDA outDA st tag c fmt mode n wu ep) → (s.cu t).hold = none → s.dieUp t = true → s.asleep = false →
    (s.cell ci).op op = some o →
    let z := s.jobOver t
    (s.plcOk wu ep = false → ∃ u o', exec (.cuJobComplete t .clear) s = .next u ∧ u.mem = s.mem ∧ (u.cu t).job = none ∧
      (u.cell ci).op op = some o' ∧ o'.left = o.left - 1 ∧ o'.status = worseStatus o.status 2) ∧
    (s.plcOk wu ep = true → (s.cu t).jobOptical = false → tag = (s.cu t).active.tag → tag ≠ 0 → mode < 3 →
      let nin := n * cuInBytes fmt
      let nout := n * cuOutBytes mode
      s.poisonRange inDA nin = false → rangesMeet inDA nin outDA nout = false →
      (∀ a, st = some a → rangesMeet inDA nin a n = false ∧ rangesMeet outDA nout a n = false) →
      s.clash = [] → z.calm inDA nin = true → z.still outDA nout = true → (∀ a, st = some a → z.still a n = true) →
      ∃ u o', exec (.cuJobComplete t .clear) s = .next u ∧ (u.cu t).job = none ∧ (u.cu t).active = (s.cu t).active ∧
        (∀ i, i < n → u.readMem (outDA + i * cuOutBytes mode) (cuOutBytes mode) = fallbackOut s (s.cu t).active fmt mode inDA i) ∧
        (∀ a i, st = some a → i < n → (u.byte (a + i)).toNat =
          3 + 4 * ((cuElems fmt (s.readMem (inDA + i * cuInBytes fmt) (cuInBytes fmt))).any cuSat).toNat) ∧
        (∀ d, d < outDA ∨ outDA + nout ≤ d → (∀ a, st = some a → d < a ∨ a + n ≤ d) → u.byte d = s.byte d) ∧
        (u.cell ci).op op = some o' ∧ o'.left = o.left - 1 ∧ o'.status = o.status ∧ keeps s u [.mem, .regs, .cus, .cells, .freeIdx])) ∧
  (∀ (t : Fin 4) (o : Origin) (s : State), writable s (Reg.Tt_CU_WLOAD_CTL t) →
    let off := Reg.Tt_CU_WLOAD_CTL t
    let da := (s.reg (Reg.Tt_CU_WLOAD_LO t)).toNat + s.rf (Reg.Tt_CU_WLOAD_HI t) 0 14 * 2 ^ 32
    let here := fun st => st = 16 + t.val ∨ (st < 16 ∧ st / 4 = t.val)
    ((s.cu t).loading.isSome = true → exec (.weightLoad t o 1) s = .next (s.setRf off 3 3 3)) ∧
    ((s.cu t).loading = none → (∃ st, s.rangeStore da 17472 = some st ∧ here st) → touchesTiled s.trg da 17472 = false →
      ∃ u, exec (.weightLoad t o 1) s = .next u ∧ u.cu t = { s.cu t with stagedValid := false, loading := some da } ∧
        keeps s u [.regs, .cus, .log, .store]) ∧
    ((s.cu t).loading = none → (∀ st, s.rangeStore da 17472 = some st → ¬ here st) →
      ∃ u, exec (.weightLoad t o 1) s = .next u ∧ (u.cu t).loading = none ∧ u.rf off 3 3 = 1 ∧ keeps s u [.regs, .cus, .log, .store])) ∧
  (∀ (t : Fin 4) (s : State) (da : Nat), (s.cu t).loading = some da →
    (s.poisonRange da 17472 = false → s.calm da 17472 = true → ∀ w, weightImage (s.readMem da 17472) = some w →
      exec (.weightLoadDone t .clear) s = .next (s.setCu t { s.cu t with
        loading := none, staged := w, stagedValid := true, drives := (s.setCu t { s.cu t with loading := none }).drivesFor t w })) ∧
    (s.poisonRange da 17472 = false → s.calm da 17472 = true → weightImage (s.readMem da 17472) = none →
      exec (.weightLoadDone t .clear) s = .next ((s.setCu t { s.cu t with loading := none }).setRf (Reg.Tt_CU_WLOAD_CTL t) 3 3 2)) ∧
    (s.poisonRange da 17472 = true → ∃ u, exec (.weightLoadDone t .clear) s = .next u ∧ u.cu t = { s.cu t with loading := none } ∧
      u.rf (Reg.Tt_CU_WLOAD_CTL t) 3 3 = 4 ∧ u.mem = s.mem)) ∧
  (∀ (t : Fin 4) (s : State) (ci op tag : Nat) (q : List CuEntry) (o : AOp), (s.cu t).queue = .bound ci op tag true false :: q → (s.cu t).job = none →
    s.cuFree t = true → (s.cell ci).op op = some o →
    let good := (s.cu t).stagedValid && (s.cu t).staged.tag == tag
    (good = false → ∃ u o', exec (.weightCommit t) s = .next u ∧ u.cu t = { s.cu t with queue := q } ∧ (u.cell ci).op op = some o' ∧
      o'.left = o.left - 1 ∧ o'.status = o.status ∧ keeps s u [.cus, .cells]) ∧
    (good = true → (s.cu t).mode ≠ 1 → ∃ u o', exec (.weightCommit t) s = .next u ∧
      u.cu t = { s.cu t with queue := q, active := (s.cu t).staged, stagedValid := false } ∧ (u.cell ci).op op = some o' ∧
      o'.left = o.left - 1 ∧ keeps s u [.cus, .cells]) ∧
    (good = true → (s.cu t).mode = 1 → ∃ u, exec (.weightCommit t) s = .next u ∧
      u.cu t = { s.cu t with queue := q, stagedValid := false, active := { (s.cu t).staged with tag := (s.cu t).active.tag },
                             hold := some { take := some tag, bound := some (ci, op), swap := false, again := [], tries := [], enter := false } } ∧
      (∀ (i x : Nat), (s.cu t).drives[i]? = some x → (u.ring (wring t i)).code = some x) ∧ keeps s u [.cus, .optics])) ∧
  (∀ (t : Fin 4) (s : State), (s.cu t).job = none → s.cuFree t = true → (s.cu t).mode = 1 →
    let held := fun (u : State) => (u.cu t).hold = some { take := none, bound := none, swap := (s.cu t).swap, again := [], tries := [], enter := false } ∧
      (u.cu t).recal = false ∧ (u.cu t).swap = false ∧ (u.cu t).active = (s.cu t).active ∧ u.rb (Reg.Tt_CU_CTRL t) 2 = false ∧
      keeps s u [.cus, .regs, .optics, .freeIdx]
    ((s.cu t).queue = [] → s.cuPending t = false → exec (.takenBoundary t) s = .next s) ∧
    ((s.cu t).queue = [] → s.cuPending t = true → ∃ u, exec (.takenBoundary t) s = .next u ∧ held u) ∧
    ((s.cu t).queue ≠ [] → s.cuPending t = true → ∃ u, exec (.forcedBoundary t) s = .next u ∧ held u ∧
      u.reg (Reg.Tt_CU_FORCED t) = satAdd (s.reg (Reg.Tt_CU_FORCED t)) 1))

/-- R264, R267, R271, R272, R274, R277. -/
def Obligations.ConfluenceControlResults : Prop :=
  (∀ (t : Fin 4) (s : State) (h : CuHold) (failed : List Nat), (s.cu t).hold = some h → h.swap = false → s.dieUp t = true →
    let served := fun p => p < 272 ∧ ∃ i < 256, (s.cu t).phys i = p
    ((∀ p ∈ failed, if h.again = [] then ¬ served p else p ∉ h.again) → ∃ u, exec (.commitSettleEnd t failed) s = .next u ∧ (u.cu t).hold = none ∧
      (u.cu t).active = { (s.cu t).active with tag := h.take.getD (s.cu t).active.tag } ∧ (u.cu t).queue = (s.cu t).queue ∧
      (u.cu t).badRows = (s.cu t).badRows ∧ u.mem = s.mem ∧
      (∀ ci op o, h.bound = some (ci, op) → (s.cell ci).op op = some o → ∃ o', (u.cell ci).op op = some o' ∧ o'.left = o.left - 1)) ∧
    (∀ p, failed = [p] → served p → h.again = [] ∨ p ∈ h.again → tget 0 h.tries p < 2 → 256 ≤ (s.cu t).healthy →
      ∃ u, exec (.commitSettleEnd t failed) s = .next u ∧ u.cu t = { s.cu t with
        hold := some { h with again := [p], tries := tset 0 h.tries p (tget 0 h.tries p + 1) } } ∧ keeps s u [.cus, .optics]) ∧
    (∀ p i, failed = [p] → h.again = [] ∨ p ∈ h.again → 2 ≤ tget 0 h.tries p → 257 ≤ (s.cu t).healthy →
      (∀ j, j < 256 → (s.cu t).phys j ∉ (s.cu t).badRows) → i < 256 → (∀ j, j < 256 → ((s.cu t).phys j = p ↔ j = i)) → p < 272 →
      ∃ u r, exec (.commitSettleEnd t failed) s = .next u ∧ (u.cu t).badRows = (s.cu t).badRows ++ [p] ∧ (u.cu t).queue = (s.cu t).queue ∧
        (∀ q, (s.cu t).spareRow = some q → (u.cu t).phys i = q ∧ ∃ g, (u.cu t).hold = some g ∧ g.again = [q]) ∧
        (∀ j, j < 256 → j ≠ i → (u.cu t).phys j = (s.cu t).phys j) ∧ u.mem = s.mem ∧
        u.store = { s.store with queue := s.store.queue ++ [.repair r] } ∧ r.kind = 8 ∧ r.die = t.val ∧ r.element = t.val * 272 + p ∧
        r.replacement = (s.cu t).spareRow.getD 0xFFFFFFFF)) ∧
  (∀ (t : Fin 4) (gainBad : Bool) (s : State), s.rotating t = true → s.dieUp t = true → s.asleep = false →
    (∀ j, j < 256 → (s.cu t).phys j ∉ (s.cu t).badRows ∧ (s.cu t).phys j ≠ (s.cu t).calRow) →
    (∀ i j, i < 256 → j < 256 → (s.cu t).phys i = (s.cu t).phys j → i = j) → (s.cu t).calRow ∉ (s.cu t).badRows →
    (∀ p, ((List.range 271).map fun i => ((s.cu t).calRow + 1 + i) % 272).find? (fun p => !(s.cu t).badRows.contains p) = some p →
      ∃ u, exec (.rowCalibrationEnd t true gainBad) s = .next u ∧ (u.cu t).calRow = p ∧ (u.cu t).recal = ((s.cu t).recal || gainBad) ∧
        (∀ i, i < 256 → (s.cu t).phys i = p → (u.cu t).phys i = (s.cu t).calRow ∧ ∀ j, j ≠ i → (u.cu t).phys j = (s.cu t).phys j) ∧
        ((∀ i, i < 256 → (s.cu t).phys i ≠ p) → (u.cu t).rowMap = (s.cu t).rowMap) ∧ keeps s u [.cus, .optics, .freeIdx]) ∧
    (∃ u r, exec (.rowCalibrationEnd t false gainBad) s = .next u ∧ (u.cu t).badRows = (s.cu t).badRows ++ [(s.cu t).calRow] ∧
      (u.cu t).rowMap = (s.cu t).rowMap ∧ (u.cu t).recal = ((s.cu t).recal || gainBad) ∧ u.mem = s.mem ∧
      u.store = { s.store with queue := s.store.queue ++ [.repair r] } ∧ r.kind = 8 ∧ r.die = t.val ∧
      r.element = t.val * 272 + (s.cu t).calRow)) ∧
  (∀ (t : Fin 4) (ovr : Bool) (s : State),
    ((s.cu t).locked = true → ∃ u, exec (.bankUnlock t) s = .next u ∧ (u.cu t).locked = false ∧ (u.cu t).recal = (s.cu t).recal ∧ keeps s u [.cus]) ∧
    ((s.cu t).locked = false → exec (.bankUnlock t) s = .next s) ∧
    ((s.cu t).locked = false → (s.cu t).characterised = true → s.bankHeld t = true → ∃ u, exec (.bankRelock t ovr) s = .next u ∧ (u.cu t).locked = true ∧
      (u.cu t).recal = ((s.cu t).recal || ovr) ∧ keeps s u [.cus]) ∧
    ((s.cu t).locked = true ∨ s.bankHeld t = false → exec (.bankRelock t ovr) s = .next s)) ∧
  (∀ (t : Fin 4) (o : Origin) (s : State), writable s (Reg.Tt_CU_CTRL t) → (s.cu t).characterised = true → (s.cu t).calFault = false →
    257 ≤ (s.cu t).healthy → (s.cu t).active.tag ≠ 0 →
    (∃ u, exec (.forceFallback t o 1) s = .next u ∧ u.rb (Reg.Tt_CU_CTRL t) 0 = true ∧ (u.cu t).mode = 2 ∧ u.log.next = s.log.next + 1 ∧ u.mem = s.mem) ∧
    ((s.cu t).mode = 1 → (s.cu t).hold = none → ∃ u, exec (.rotationEnable t o 2) s = .next u ∧ u.rb (Reg.Tt_CU_CTRL t) 1 = true ∧
      u.rotating t = true ∧ (u.cu t).mode = 1 ∧ u.mem = s.mem) ∧
    (∃ u, exec (.recalRequest t o 4) s = .next u ∧ (u.cu t).recal = true ∧ u.cuPending t = true ∧ u.rb (Reg.Tt_CU_CTRL t) 2 = true ∧ u.mem = s.mem)) ∧
  (∀ (t : Fin 4) (n : Nat) (s : State), (s.cu t).characterised = false → s.released t = true → s.optics.ringsUp = true → (s.cu t).badRows = [] →
    (s.cu t).mode = 0 → (s.cu t).hold = none → (s.cu t).calFault = false → 256 ≤ n → n ≤ 272 →
    ∃ u, exec (.characterisationDone t n) s = .next u ∧ (u.cu t).characterised = true ∧ (u.cu t).locked = true ∧ (u.cu t).healthy = n ∧
      (u.cu t).mode = (if s.rb (Reg.Tt_CU_CTRL t) 0 then 2 else 1) ∧ u.mem = s.mem ∧ u.cells = s.cells)

/-- R287, R290 to R297. -/
def Obligations.LaserResults : Prop :=
  (∀ (sp : Fin 2) (k l drive : Nat) (s : State),
    let x := s.spring sp
    let y := x.laser l
    let base := Config.laserBaseline (80 * sp + l)
    x.locked = true → s.asleep = false → s.optics.dimmed = false → s.optics.dark = false → x.phase = .idle → x.queue = [] → k < 64 →
    x.serves k = some l → (∀ j, x.serves j = some l → j = k) → y.output = 100 →
    let t := exec (.fadeEvaluation sp [(l, drive)]) s
    (100 * drive < 120 * base → ∃ u, t = .next u ∧ ((u.spring sp).laser l).fade = min 0xFFFF (drive * 1024 / base) ∧
      ((u.spring sp).laser l).drive = some (drive % 65536) ∧ ((u.spring sp).laser l).state = y.state ∧
      (∀ j, j ≠ l → (u.spring sp).laser j = x.laser j) ∧ keeps s u [.optics, .store]) ∧
    (120 * base ≤ 100 * drive → 100 * drive < 130 * base → y.state = .serving → s.logRoom 8 = true → ∃ u, t = .next u ∧
      ((u.spring sp).laser l).state = .warning ∧ s.log.next < u.log.next ∧ (∀ j, j ≠ l → (u.spring sp).laser j = x.laser j) ∧ u.mem = s.mem) ∧
    (130 * base ≤ 100 * drive → 100 * drive < 135 * base → y.state = .warning → l = k → tget none x.alloc k = none → ∀ p, x.pickSpare k = some p →
      ∃ u, t = .next u ∧ ((u.spring sp).laser l).state = .prewarm ∧ ((u.spring sp).laser (64 + p)).state = .prewarm ∧
      ((u.spring sp).laser (64 + p)).line = k ∧ tget none (u.spring sp).alloc k = some p ∧ u.mem = s.mem) ∧
    (135 * base ≤ 100 * drive → y.state = .prewarm → l = k → s.handoverOk = true → x.abandonedLines.contains k = false →
      ∀ p, tget none x.alloc k = some p → ∃ u, t = .next u ∧ ((u.spring sp).laser l).state = .handover ∧ (u.spring sp).phase = .prepare ∧
      (u.spring sp).line = k ∧ (u.spring sp).spare = p ∧ (∀ n ∈ s.fedUnits sp, (u.cu n).swap = true) ∧ u.mem = s.mem) ∧
    (150 * base ≤ 100 * drive → y.state = .warning → x.hasSpare k = false → ∃ u, t = .next u ∧
      k ∈ (u.spring sp).failedLines ∧ ((u.spring sp).laser l).state = .failed ∧ ((u.spring sp).laser l).output = 0 ∧
      (u.cu (2 * sp)).healthy = 0 ∧ (u.cu (2 * sp + 1)).healthy = 0 ∧ u.mem = s.mem)) ∧
  (∀ (sp : Fin 2) (k l mw : Nat) (s : State), s.asleep = false → s.optics.dimmed = false → s.optics.dark = false →
    (List.range 64).find? (fun k => (s.spring sp).serves k == some l) = some k →
    (80 ≤ mw → exec (.laserLowOutput sp l mw) s = .next s) ∧
    (50 ≤ mw → mw < 80 → (s.spring sp).hasSpare k = false → ∃ u, exec (.laserLowOutput sp l mw) s = .next u ∧
      ((u.spring sp).laser l).output = mw ∧ (u.spring sp).serves k = some l ∧ keeps s u [.optics]) ∧
    (mw < 50 → ∃ u, exec (.laserLowOutput sp l mw) s = .next u ∧ k ∈ (u.spring sp).failedLines ∧ u.mem = s.mem)) ∧
  (∀ (sp : Fin 2) (p : Nat) (s : State), p < 16 → ((s.spring sp).laser (64 + p)).state = .prewarm → s.optics.refLost = false →
    s.optics.dark = false → (s.spring sp).queue = [] →
    exec (.sparePrewarmLocked sp p) s = .next (s.setSpring sp ((s.spring sp).setLaser (64 + p)
      { (s.spring sp).laser (64 + p) with warmLocked := true }))) ∧
  (∀ (sp : Fin 2) (s : State), (s.spring sp).phase = .prepare →
    let ready := ((s.spring sp).laser (64 + (s.spring sp).spare)).warmLocked = true ∧
      (∀ n ∈ s.fedUnits sp, ∃ h, (s.cu n).hold = some h ∧ h.swap = true) ∧ s.handoverOk = true
    (ready → ∃ u, exec (.handoverSchedule sp) s = .next u ∧ (u.spring sp) = { s.spring sp with phase := .scheduled } ∧ u.mem = s.mem ∧
      u.cells = s.cells) ∧ (¬ ready → exec (.handoverSchedule sp) s = .next s)) ∧
  (∀ (sp : Fin 2) (s : State), (s.spring sp).phase = .scheduled → s.handoverOk = true → ∃ u, exec (.handoverSwap sp) s = .next u ∧
    (u.spring sp) = { s.spring sp with phase := .swap, attempt := (s.spring sp).attempt + 1 } ∧ u.mem = s.mem ∧ u.cells = s.cells) ∧
  (∀ (sp : Fin 2) (l : Nat) (s : State),
    let x := s.spring sp
    x.phase = .swap → x.serves x.line = some l → l ≠ 64 + x.spare →
    (s.gateOpen = true → ∃ u, exec (.spareLock sp) s = .next u ∧ (u.spring sp).serves x.line = some (64 + x.spare) ∧
      ((u.spring sp).laser (64 + x.spare)).state = .serving ∧ ((u.spring sp).laser (64 + x.spare)).output = 100 ∧
      ((u.spring sp).laser l).state = .retired ∧ ((u.spring sp).laser l).output = 0 ∧ (u.cu (2 * sp)).swap = false ∧ (u.cu (2 * sp + 1)).swap = false ∧
      (∃ r ∈ u.store.mram.repairs, r.kind = 5 ∧ r.element = sp * 64 + x.line ∧ r.replacement = x.spare) ∧
      keeps s u [.optics, .cus, .store, .regs, .outbox]) ∧
    (s.gateOpen = false → exec (.spareLock sp) s = .next s) ∧
    (x.attempt < 3 → ∃ u, exec (.spareLockTimeout sp) s = .next u ∧ (u.spring sp) = { x with phase := .scheduled } ∧ u.mem = s.mem) ∧
    (3 ≤ x.attempt → x.alloc = [(x.line, some x.spare)] → x.line < 64 → (∀ p, p < 16 → p ≠ x.spare → x.spareFree p = false) → x.spare < 16 →
      ∃ u, exec (.spareLockTimeout sp) s = .next u ∧ (u.spring sp).phase = .abandoned ∧ (u.spring sp).serves x.line = some l ∧
        ((u.spring sp).laser (64 + x.spare)).state = .unhealthy ∧ u.mem = s.mem)) ∧
  (∀ (sp : Fin 2) (s : State),
    let x := s.spring sp
    (x.phase = .swap → x.serves x.line = some (64 + x.spare) → x.queue = [] → ∃ u, exec (.handoverComplete sp) s = .next u ∧
      (u.spring sp) = { x with phase := .idle } ∧ u.reg Reg.BED_HANDOVERS = satAdd (s.reg Reg.BED_HANDOVERS) 1 ∧ u.mem = s.mem) ∧
    (x.phase = .prepare ∨ x.phase = .scheduled → ∃ u, exec (.handoverAbandon sp) s = .next u ∧ (u.spring sp).phase = .abandoned ∧
      (u.spring sp).source = x.source ∧ x.line ∈ (u.spring sp).abandonedLines ∧ (u.cu (2 * sp)).swap = false ∧ (u.cu (2 * sp + 1)).swap = false ∧
      u.reg Reg.BED_HANDOVER_ABANDONS = satAdd (s.reg Reg.BED_HANDOVER_ABANDONS) 1 ∧ u.mem = s.mem)) ∧
  (∀ (o : Origin) (s : State), writable s Reg.BED_LASER_CTL →
    let sp := s.rf Reg.BED_LASER_SEL 0 1
    let k := s.rf Reg.BED_LASER_SEL 1 7
    let x := s.spring sp
    s.optics.requests.contains (sp, k) = false →
    (s.requestOk sp k = false → ∃ u, exec (.handoverRequest o 1) s = .next u ∧ u.rb Reg.BED_LASER_CTL 1 = true ∧ keeps s u [.regs, .log, .store]) ∧
    (s.requestOk sp k = true → x.phase = .idle → x.queue = [] → s.handoverOk = true → ∃ u, exec (.handoverRequest o 1) s = .next u ∧
      (u.spring sp).phase = .prepare ∧ (u.spring sp).line = k ∧ ((u.spring sp).laser k).state = .handover ∧
      u.optics.requests = s.optics.requests ∧ u.mem = s.mem))

/-- R288, R289, R301, R302, R306, R309. -/
def Obligations.RingAndCalibrationResults : Prop :=
  (∀ s : State, s.optics.refLost = false → s.optics.dark = false → ∃ u, exec .referenceLoss s = .next u ∧ u.optics.refLost = true ∧
    (u.spring 0).locked = false ∧ (u.spring 1).locked = false ∧
    u.rf Reg.BED_REF_STATUS 16 16 = min 0xFFFF (s.rf Reg.BED_REF_STATUS 16 16 + 1) ∧ keeps s u [.optics, .regs, .outbox]) ∧
  (∀ s : State, s.optics.refLost = true → s.optics.dark = false → (s.spring 0).queue = [] → (s.spring 1).queue = [] →
    ∃ u, exec .referenceReturn s = .next u ∧ u.optics.refLost = false ∧ keeps s u [.optics, .regs, .outbox] ∧
      ∀ sp, sp < 2 → (u.spring sp).locked = !((s.spring sp).outLock.any fun l => (List.range 64).any fun k => (s.spring sp).serves k == some l)) ∧
  (∀ (sp : Fin 2) (l need mw : Nat) (e : Int) (s : State), s.optics.refLost = false → s.optics.dark = false → l < 80 →
    let y := (s.spring sp).laser l
    let top := Config.laserMax (80 * sp + l)
    let on : Bool := (List.range 64).any fun k => (s.spring sp).serves k == some l
    ∃ u, exec (.laserLockUpdate sp l e need mw) s = .next u ∧ (l ∈ (u.spring sp).outLock ↔ 2000 < e.natAbs) ∧
      (∀ j, j ≠ l → ((j ∈ (u.spring sp).outLock ↔ j ∈ (s.spring sp).outLock) ∧ (u.spring sp).laser j = (s.spring sp).laser j)) ∧
      ((u.spring sp).laser l).state = y.state ∧
      ((u.spring sp).laser l).drive = (if on then some (min need top % 65536) else y.drive) ∧
      ((u.spring sp).laser l).output = (if on && !s.optics.dimmed then (if need ≤ top then 100 else mw) else y.output) ∧
      ((u.spring sp).locked = !((u.spring sp).outLock.any fun l => (List.range 64).any fun k => (s.spring sp).serves k == some l)) ∧
      keeps s u [.optics, .regs, .outbox, .freeIdx]) ∧
  (∀ (i : Nat) (d : Int) (s : State), i < 78656 → s.optics.ringsUp = true → s.optics.loopsStopped = false → (s.ring i).failed = false →
    s.optics.stoppedDies.contains (ringDie i) = false → s.dieUp (ringDie i) = true →
    let r := s.ring i
    let win := if i < 8768 then 1000 else 400
    let lim := if i < 8768 then 3000 else 400
    let ff := Config.feedForward (s.regionRec (Config.ringRegion i % 64)) s.freeVal r.ff
    let code := clampCode (r.aim (s.ringCode i) ff d)
    (d.natAbs ≤ win → r.unlocked = true ∨ d.natAbs ≤ r.last → ∃ u, exec (.ringLoopUpdate i d) s = .next u ∧ (u.ring i).unlocked = false ∧
      (u.ring i).out = 0 ∧ (u.ring i).last = d.natAbs ∧ (u.ring i).ff = ff ∧
      (i < 8768 → (u.ring i).code = some code ∧ ∀ j, j ≠ i → u.ring j = s.ring j) ∧ keeps s u [.optics, .regs, .outbox, .freeIdx]) ∧
    (lim < d.natAbs → r.unlocked = false → r.out = 3 → ∃ u, exec (.ringLoopUpdate i d) s = .next u ∧
      (u.ring i).unlocked = true ∧ u.reg Reg.BED_RING_UNLOCKS = satAdd (s.reg Reg.BED_RING_UNLOCKS) 1 ∧
      (8768 ≤ i → 17408 ≤ (i - 8768) % 17472 ∨ ((s.cu ((i - 8768) / 17472)).serves? ((i - 8768) % 17472 / 64)).isSome →
        (u.cu ((i - 8768) / 17472)).locked = false) ∧ u.mem = s.mem) ∧
    (i < 8768 → r.unlocked = false → code = 0 ∨ code = 4095 → r.last < d.natAbs → ∃ u, exec (.ringLoopUpdate i d) s = .next u ∧
      (u.ring i).unlocked = true ∧ (u.ring i).home = code ∧ u.reg Reg.BED_RING_UNLOCKS = satAdd (s.reg Reg.BED_RING_UNLOCKS) 1 ∧ u.mem = s.mem)) ∧
  (∀ (o : Origin) (s : State), writable s Reg.BED_CAL_CTL →
    (s.optics.calOp.isSome = true → exec (.calDump o 5) s = .next (s.setRf Reg.BED_CAL_CTL 4 3 4) ∧
      exec (.calLoad o 6) s = .next (s.setRf Reg.BED_CAL_CTL 4 3 4)) ∧
    (s.optics.calOp = none → s.calRange s.calDA true = true → ∃ u, exec (.calDump o 5) s = .next u ∧
      u.optics = { s.optics with calOp := some (1, s.calDA, o) } ∧ keeps s u [.regs, .optics, .log, .store]) ∧
    (s.optics.calOp = none → s.calRange s.calDA false = true → ∃ u, exec (.calLoad o 6) s = .next u ∧
      u.optics = { s.optics with calOp := some (2, s.calDA, o) } ∧ keeps s u [.regs, .optics, .log, .store]) ∧
    (s.optics.calOp = none → s.calRange s.calDA false = false → ∃ u, exec (.calLoad o 6) s = .next u ∧ u.optics = s.optics ∧
      u.rf Reg.BED_CAL_CTL 4 3 = 1 ∧ keeps s u [.regs, .log, .store])) ∧
  (∀ (da : Nat) (o : Origin) (s : State),
    let v := s.viewNow .clear
    let e := s.calCheck v da
    (s.optics.calOp = some (1, da, o) → s.still da calSize = true → ∃ u, exec (.calDone .clear) s = .next u ∧
      u.optics = { s.optics with calOp := none } ∧ s.calImage.length = calSize ∧ u.readMem da calSize = s.calImage ∧
      bfld s.calImage 4 4 = 1201344 ∧ (∀ a, a < da ∨ da + calSize ≤ a → u.byte a = s.byte a) ∧ keeps s u [.optics, .mem]) ∧
    (s.optics.calOp = some (2, da, o) → s.calm da calSize = true → e ≠ 0 → e ≠ 5 →
      exec (.calDone .clear) s = .next (({ s with optics := { s.optics with calOp := none } }).setRf Reg.BED_CAL_CTL 4 3 e)) ∧
    (s.optics.calOp = some (2, da, o) → s.calm da calSize = true → s.poisonRange da calSize = true → ∃ u, exec (.calDone .clear) s = .next u ∧
      u.rf Reg.BED_CAL_CTL 4 3 = 5 ∧ (∀ i, u.ring i = s.ring i) ∧ u.cus = s.cus) ∧
    (s.optics.calOp = some (2, da, o) → s.calm da calSize = true → e = 0 → ∃ u, exec (.calDone .clear) s = .next u ∧ u.optics.calOp = none ∧
      u.mem = s.mem ∧
      (∀ i, i < 8768 → (u.ring i).code = some (bfld (s.readMem da calSize) (0x18C0 + 8 * i) 2 % 4096) ∧ (u.ring i).failed = (s.ring i).failed) ∧
      (∀ i, 8768 ≤ i → u.ring i = s.ring i) ∧ (∀ t, t < 4 → (u.cu t).recal = true ∧ (u.cu t).newCal.isSome = true))) ∧
  (∀ (failed slow : List Nat) (s : State), s.optics.ringsUp = false → s.dieUp dieK = true → s.rb Reg.KEY_READY 1 = true →
    tget false s.pwr.good 4 = true → ∃ u, exec (.opticsBringup failed slow) s = .next u ∧ u.optics.ringsUp = true ∧ u.optics.dark = false ∧
      u.optics.refLost = false ∧ (u.spring 0).locked = true ∧ (u.spring 1).locked = true ∧
      (∀ i ∈ failed, i < 78656 → (u.ring i).failed = true) ∧
      (∀ y, s.store.mram.snap = some y → ∀ t, t < 4 → y.characterised.getD t false = true → (u.cu t).hold = some (CuHold.settle true)) ∧
      u.mem = s.mem ∧ u.cells = s.cells)

/-- No Bed link but a → b differs. -/
def Sys2Proof.otherLinks (s t : State) (a b : Nat) : Prop := ∀ c d, c < 23 → d < 23 → (c, d) ≠ (a, b) → t.link c d = s.link c d

/-- The state after the quick retraining of a link that was in state `x`, with `tos` credit timeouts counted (R349): its retry buffer and sequence
numbers are kept; with no change pending its lanes in service and its spares train, and no other lane differs. -/
def Sys2Proof.bedRetrained (s t : State) (a b : Nat) (tos : Word) : Prop :=
  t.link a b = { s.link a b with state := .train, quick := true, changes := [], nullOnly := [], reqs := [], retrainReq := false,
                                 txStream := [], rxStream := [], txCtl := [], retrains := satAdd (s.link a b).retrains 1, creditTo := tos } ∧
  otherLinks s t a b ∧ ((s.link a b).changes = [] → ∀ i, t.lane i =
    if i ∈ linkLanes a b ∧ ((s.lane i).state = .data ∨ (s.lane i).state = .spare) then { s.lane i with state := .training } else s.lane i)

/-- The codewords of link a → b as its sender puts them on the line: the control block `ctl`, if any, and the bytes `bs` of the stream, scrambled
from the history that each lane's receiver has (R326, R327, R330 to R334). -/
def Sys2Proof.lineWords (s : State) (a b : Nat) (ctl : Option (List Byte)) (bs : List Byte) : List (Nat × BitVec 516) :=
  let ls := s.serving a b
  (ls.zip (stripe ls.length (if ctl.isSome then 29 else 61) bs)).map fun y =>
    (y.1, (match ctl with
      | some c => sendCodeword (s.lane y.1).rx.scr true c y.2
      | none => sendCodeword (s.lane y.1).rx.scr false (y.2.take 32) (y.2.drop 32)).2)

/-- The link after its sender announced the unplanned retirement of position p for a cause (R344), and what it sent. -/
def Sys2Proof.retireAnnounced (s t : State) (a b p cause : Nat) : Prop :=
  let x := s.link a b
  let c := (x.count + 16) % 2 ^ 32
  let new := [BChange.retire p c cause false] ++ (match s.readySpare a b with | some j => [.join p c j] | none => [])
  t.link a b = { x with changes := x.changes ++ new, nullOnly := x.nullOnly ++ [p], txCtl := x.txCtl ++ new.map s.changeBytes } ∧ t.outbox = s.outbox ++ new.map (Out.bctl a b) ∧
    otherLinks s t a b ∧ t.bed.lanes = s.bed.lanes

/-- R342, R344, R346, R349, R350, R352, R354. -/
def Obligations.BedTrainingResults : Prop :=
  (∀ (a b : Nat) (s : State), s.mayTrain a b = true →
    let n := if (s.link a b).everTrained then satAdd (s.link a b).retrains 1 else (s.link a b).retrains
    ∃ t, exec (.bedTrainingStart a b) s = .next t ∧ exec (.bedDownRetry a b) s = .next t ∧ keeps s t [.bed, .regs, .outbox] ∧
      otherLinks s t a b ∧ t.link a b = { (s.link a b).fresh with state := .train, retrains := n } ∧ (∀ i, i ∉ linkLanes a b → t.lane i = s.lane i) ∧
      ∀ i p, (linkLanes a b)[p]? = some i → t.lane i = if (s.lane i).state = .failed then s.lane i
        else { s.lane i with state := .training, pos := p, tries := 0, after := none, noLock := true, rx := .init }) ∧
  (∀ (a b : Nat) (s : State), s.mayTrain a b = false → exec (.bedTrainingStart a b) s = .next s ∧ exec (.bedDownRetry a b) s = .next s) ∧
  (∀ (a b : Nat) (s : State),
    let x := s.link a b
    linkExists a b = true → x.state = .train → x.quick = false → s.linkDies a b = true →
    (∀ y ∈ (linkLanes a b).zipIdx, (s.lane y.1).state = .training ∧ (s.lane y.1).pos = y.2 ∧ (s.lane y.1).after = none) →
    let d := linkWidth a b
    (∃ t, exec (.bedTrainingDone a b []) s = .next t ∧ t.link a b = { x with state := .live, pam4 := true, everTrained := true } ∧
      t.bedWidth a b = d ∧ (∀ i p, (linkLanes a b)[p]? = some i → t.lane i =
        { s.lane i with tries := 0, noLock := false, state := if p < d then .data else .spare }) ∧
      (∀ i, i ∉ linkLanes a b → t.lane i = s.lane i) ∧ otherLinks s t a b ∧ keeps s t [.bed, .regs, .outbox]) ∧
    (∀ i j p, (linkLanes a b)[p]? = some i → p < d → (linkLanes a b)[d]? = some j →
      ∃ t, exec (.bedTrainingDone a b [i]) s = .next t ∧ (t.link a b).state = .live ∧ t.bedWidth a b = d ∧ (t.lane i).state = .failed ∧
        (t.lane i).cause = 5 ∧ (t.lane j).state = .data ∧ (t.lane j).pos = p ∧
        (∃ r, t.store.queue = s.store.queue ++ [.repair r] ∧ r.kind = 3 ∧ r.element = i) ∧ keeps s t [.bed, .regs, .outbox, .store]) ∧
    (∀ failed : List Nat, (∀ i ∈ linkLanes a b, i ∈ failed) → ∃ t, exec (.bedTrainingDone a b failed) s = .next t ∧ t.link a b = x.fresh ∧
      (∀ i ∈ linkLanes a b, (t.lane i).state = .failed) ∧ keeps s t [.bed, .regs, .outbox, .store, .err, .errSeq, .moves])) ∧
  (∀ (a b : Nat) (s : State),
    let x := s.link a b
    linkExists a b = true → x.state = .train → x.quick = true → s.linkDies a b = true →
    ((∀ y ∈ (linkLanes a b).zipIdx, (s.lane y.1).state = .training ∧ (s.lane y.1).pos = y.2 ∧ (s.lane y.1).after = none) →
      ∃ t, exec (.bedQuickTrainingDone a b none true) s = .next t ∧ t.bedWidth a b = linkWidth a b ∧ otherLinks s t a b ∧
        t.link a b = { x with state := .live, pam4 := true, fails := 0, nakOwed := true, nakSent := true, changes := [] } ∧
        keeps s t [.bed, .regs, .outbox]) ∧
    (x.fails < 2 → exec (.bedQuickTrainingDone a b none false) s = .next (s.setLink a b { x with fails := x.fails + 1 })) ∧
    (2 ≤ x.fails → ∃ t, exec (.bedQuickTrainingDone a b none false) s = .next t ∧ t.link a b = x.fresh ∧ otherLinks s t a b ∧
      (∀ i ∈ linkLanes a b, (t.lane i).state = .failed ∨ (t.lane i).state = .dark) ∧
      keeps s t [.bed, .regs, .outbox, .store, .err, .errSeq, .moves])) ∧
  (∀ (a b i : Nat) (sp : Bool) (s : State),
    let x := s.link a b
    let y := s.lane i
    laneInfo i = some (a, b, sp) → x.state = .live → y.state = .training → y.after = none → s.laneRings i = true →
    let back := s.setLane i { y with tries := 0, noLock := false, state := .spare, pos := s.freeSparePos a b }
    (s.holePos a b = none → exec (.bedQuickTrainingDone a b (some i) true) s = .next back) ∧
    (∀ p, s.holePos a b = some p →
      exec (.bedQuickTrainingDone a b (some i) true) s = .next (back.announce a b (.join p ((x.count + 16) % 2 ^ 32) i))) ∧
    (y.tries < 2 → exec (.bedQuickTrainingDone a b (some i) false) s = .next (s.setLane i { y with tries := y.tries + 1 })) ∧
    (2 ≤ y.tries → ∃ t, exec (.bedQuickTrainingDone a b (some i) false) s = .next t ∧ (t.lane i).state = .failed ∧ (t.lane i).cause = 5 ∧
      (∀ j, j ≠ i → t.lane j = s.lane j) ∧ keeps s t [.bed, .store])) ∧
  (∀ (i : Nat) (s : State), (s.lane i).state = .retired → (s.lane i).cause = 2 → s.laneRings i = true →
    exec (.laneRetrainWaitEnd i) s = .next (s.setLane i { s.lane i with state := .training })) ∧
  (∀ (i : Nat) (blocks : List (BitVec 258)) (c : List Byte) (a b : Nat) (sp : Bool) (s : State), laneInfo i = some (a, b, sp) →
    (s.lane i).state = .training → ((s.lane i).train blocks).2 = [c] →
    let y := ((s.lane i).train blocks).1
    let ts := bedTsOf c
    let here : Bool := decide (ts.src = a ∧ (busesOf a).1 + ts.bus = i / 64 ∧ ts.line = i % 64)
    let z := s.setLane i y
    (here = true → (bfld c 0 1 = 0x33 → exec (.bedTs1 i blocks) s = .next z) ∧
      (bfld c 0 1 = 0x4B → exec (.bedTs2 i blocks) s = .next (if (s.link a b).state = .train ∧ ts.rate = 1
        then z.setLink a b { s.link a b with pam4 := true } else z))) ∧
    (here = false → y.tries < 2 → (bfld c 0 1 = 0x33 → exec (.bedTs1 i blocks) s = .next (s.setLane i { y with tries := y.tries + 1 })) ∧
      (bfld c 0 1 = 0x4B → exec (.bedTs2 i blocks) s = .next (s.setLane i { y with tries := y.tries + 1 }))) ∧
    (here = false → 2 ≤ y.tries → ∃ t, t.lane i = y.out .failed 5 false ∧ (∀ j, j ≠ i → t.lane j = s.lane j) ∧ keeps s t [.bed, .store] ∧
      (bfld c 0 1 = 0x33 → exec (.bedTs1 i blocks) s = .next t) ∧ (bfld c 0 1 = 0x4B → exec (.bedTs2 i blocks) s = .next t))) ∧
  (∀ (y : BLane) (c : List Byte), y.noLock = false → y.rx.invalid < 16 → y.rx.phase = some (!y.rx.odd) → c.length ≤ 32 →
    let w := (sendCodeword y.rx.scr true c []).2.toNat
    (y.train [BitVec.ofNat 258 (w / 2 ^ 258), BitVec.ofNat 258 w]).2 = [padTo 32 c]) ∧
  (∀ (i : Nat) (blocks : List (BitVec 258)) (s : State), (s.lane i).state ≠ .training →
    exec (.bedTs1 i blocks) s = .next s ∧ exec (.bedTs2 i blocks) s = .next s) ∧
  (∀ (o : Origin) (s : State), writable s Reg.BED_LINK_CTL →
    let a := s.rf Reg.BED_LINK_SEL 0 5
    let b := s.rf Reg.BED_LINK_SEL 8 5
    (linkExists a b = true → (s.link a b).state = .live → s.linkDies a b = true → ∃ t, exec (.bedLinkRetrain o 1) s = .next t ∧
      bedRetrained s t a b (s.link a b).creditTo ∧ t.log.next = s.log.next + 1 ∧ keeps s t [.bed, .regs, .outbox, .log, .store]) ∧
    (linkExists a b = true → (s.link a b).state ≠ .live → ∃ t, exec (.bedLinkRetrain o 1) s = .next t ∧ otherLinks s t a b ∧
      t.link a b = { s.link a b with retrainReq := true } ∧ t.bed.lanes = s.bed.lanes ∧ keeps s t [.bed, .regs, .log, .store])) ∧
  (∀ (o : Origin) (v : Word) (s : State) (a b : Nat) (sp : Bool), writable s Reg.BED_LANE_CTL →
    let i := s.rf Reg.BED_LANE_SEL 0 12
    let y := s.lane i
    laneInfo i = some (a, b, sp) →
    (v = 1 ∨ v = 3 → y.state = .spare → ∃ t, exec (.bedLaneRetire o v) s = .next t ∧ t.lane i = y.out .retired 6 false ∧
      (∀ j, j ≠ i → t.lane j = s.lane j) ∧ t.bed.links = s.bed.links ∧ keeps s t [.bed, .regs, .log, .store]) ∧
    (v = 1 ∨ v = 3 → y.state = .data → (s.link a b).state = .live → (s.link a b).retiring y.pos = false →
      ∃ t, exec (.bedLaneRetire o v) s = .next t ∧ retireAnnounced s t a b y.pos 6 ∧ keeps s t [.bed, .regs, .outbox, .log, .store]) ∧
    (y.state = .retired → ∃ t, exec (.bedLaneReadmit o 2) s = .next t ∧ t.lane i = { y with state := .training } ∧
      (∀ j, j ≠ i → t.lane j = s.lane j) ∧ t.bed.links = s.bed.links ∧ keeps s t [.bed, .regs, .log, .store]) ∧
    (y.state ≠ .retired → ∃ t, exec (.bedLaneReadmit o 2) s = .next t ∧ keeps s t [.regs, .log, .store]))

/-- A flit arrives with a good CRC: 72 bytes whose CRC field is the CRC over the rest (R334). -/
abbrev Sys2Proof.flitGood (f : List Byte) : Prop := f.length = 72 ∧ (crc16 (f.take 6 ++ [0, 0] ++ f.drop 8)).toNat = bfld f 6 2

/-- R329, R332 to R335, R338, R339, R343 to R345. -/
def Obligations.BedLinkResults : Prop :=
  (∀ (a b vc source : Nat) (first : Bool) (payload : List Byte) (ready : List (Nat × Nat)) (s : State),
    let x := s.link a b
    let r := s.link b a
    linkExists a b = true → x.state = .live → s.linkDies a b = true → r.rxBuf = [] → r.owed = [] →
    let rest : State → Prop := fun t => t.link b a = { r with nakOwed := false } ∧ keeps s t [.bed, .outbox] ∧
      ∀ c d, c < 23 → d < 23 → (c, d) ≠ (a, b) → (c, d) ≠ (b, a) → t.link c d = s.link c d
    let turn := myTurn x.lastSrc source ((ready.filter fun y => s.bedCredit a b y.2).map (·.1))
    let nf := flitBytes (16 + r.rxSeq * 2 ^ 20) r.nakOwed.toNat []
    (∃ t, exec (.flitSend a b vc first [] source ready) s = .next t ∧ t.outbox = s.outbox ++ [.flit a b 0 0 false nf] ∧
        t.link a b = { x with txStream := x.txStream ++ nf } ∧ rest t) ∧
    (payload ≠ [] → x.nullOnly ≠ [] ∨ s.bedWidth a b = 0 ∨ 2047 ≤ x.retry.length ∨ turn = false ∨ s.bedCredit a b vc = false →
      exec (.flitSend a b vc first payload source ready) s = .next s) ∧
    (payload ≠ [] → payload.length ≤ 64 → vc < 8 → x.nullOnly = [] → s.bedWidth a b ≠ 0 → x.retry.length < 2047 → turn = true →
      let shared : Bool := decide (8 ≤ tget 0 x.used vc)
      let pool := if shared then 8 else vc
      (shared = true → tget 0 x.used 8 < bedUnits a b - 64) →
      let f := flitBytes (vc + first.toNat * 8 + shared.toNat * 32 + x.txSeq * 256 + r.rxSeq * 2 ^ 20) r.nakOwed.toNat (padTo 64 payload)
      ∃ t, exec (.flitSend a b vc first payload source ready) s = .next t ∧ rest t ∧ t.outbox = s.outbox ++ [.flit a b x.txSeq vc first f] ∧
        t.link a b = { x with txSeq := (x.txSeq + 1) % 4096, used := tset 0 x.used pool (tget 0 x.used pool + 1), lastSrc := source,
                              retry := x.retry ++ [{ seq := x.txSeq, vc, shared, first, payload := padTo 64 payload }],
                              txStream := x.txStream ++ f })) ∧
  (∀ (a b : Nat) (words : List (Nat × BitVec 516)) (s : State),
    (∀ r ∈ [Instr.bedAlign a b words, .bedRetire a b words, .bedAdmit a b words, .bedReqRetire a b words],
      exec r s = exec (.flitReceive a b words) s) ∧
    ((s.link a b).state ≠ .live → (s.link a b).state ≠ .train → exec (.flitReceive a b words) s = .next s)) ∧
  (∀ (a b : Nat) (bs c : List Byte) (s : State),
    let x := s.link a b
    linkExists a b = true → x.state = .live → (∀ i ∈ s.serving a b, (s.lane i).noLock = false ∧ (s.lane i).rx.invalid < 16) →
    s.serving a b ≠ [] → s.lanesIn a b .spare = [] →
    let got (t : State) (bs : List Byte) : Prop := t.link a b = { x with rxStream := bs } ∧ otherLinks s t a b ∧ keeps s t [.bed]
    (bs.length = 61 * (s.serving a b).length →
      let cut := cutFlits (x.rxStream.length + bs.length) (x.rxStream ++ bs)
      let p := s.period a b (lineWords s a b none bs)
      p.lost = false ∧ p.ctl = none ∧ p.flits = cut.1 ∧ got p.st cut.2) ∧
    (bs.length = 29 * (s.serving a b).length → c.length ≤ 32 →
      let cut := cutFlits (x.rxStream.length + bs.length) (x.rxStream ++ bs)
      let p := s.period a b (lineWords s a b (some c) bs)
      p.lost = false ∧ p.ctl = some (.good, padTo 32 c) ∧ p.flits = cut.1 ∧ got p.st cut.2)) ∧
  (∀ m k : Nat, m < 2 ^ 496 → k < 516 → bchFix (bchEncode m) = some (bchEncode m, 0) ∧ bchFix (bchEncode m ^^^ (1 <<< k)) = some (bchEncode m, 1)) ∧
  (∀ (a b : Nat) (words : List (Nat × BitVec 516)) (f : List Byte) (s : State),
    let p := s.period a b words
    let z := p.st
    let x := z.link a b
    let y := z.link b a
    linkExists a b = true → (s.link a b).state = .live → s.linkDies a b = true → p.ctl = none →
    let nakked := { x with nakSent := true, nakOwed := x.nakOwed || !x.nakSent }
    let lo := bfld f 0 4
    let hi := bfld f 4 2
    let seq := lo / 256 % 4096
    let ack := lo / 2 ^ 20
    let pool := hi / 4 % 16
    let unacked := y.retry.filter fun g => decide ((g.seq + 4096 - ack) % 4096 < 2048)
    (p.lost = false → p.flits = [f] → ¬ flitGood f → ∃ t, exec (.flitReceive a b words) s = .next t ∧ t.link a b = nakked ∧ otherLinks s t a b ∧
      keeps s t [.bed]) ∧
    (p.lost = false → p.flits = [f] → flitGood f → hi % 2 = 0 ∨ unacked = [] → ∃ t, exec (.flitReceive a b words) s = .next t ∧ keeps s t [.bed] ∧
      t.link b a = { y with retry := unacked, used := tset 0 y.used pool (tget 0 y.used pool - hi / 64) } ∧
      t.link a b = (if lo / 16 % 2 = 1 then x else if seq ≠ x.rxSeq then nakked else
        { x with rxSeq := (x.rxSeq + 1) % 4096, nakSent := false, nakOwed := false,
                 rxBuf := x.rxBuf ++ [{ seq := x.rxSeq, vc := lo % 8, shared := lo / 32 % 2 == 1, first := lo / 8 % 2 == 1, payload := f.drop 8 }] })) ∧
    (p.lost = false → p.flits = [f] → flitGood f → hi % 2 = 1 → unacked ≠ [] → ∃ t, exec (.flitReceive a b words) s = .next t ∧
      keeps s t [.bed, .outbox] ∧ (t.link b a).retry = unacked ∧ (t.link b a).replays = satAdd y.replays 1 ∧
      t.outbox.length = s.outbox.length + unacked.length) ∧
    (p.lost = true → ∃ t, exec (.flitReceive a b words) s = .next t ∧
      (t.link a b).state = .train ∧ (t.link a b).quick = true ∧ (t.link a b).retry = x.retry ∧ (t.link a b).txSeq = x.txSeq ∧
      (t.link a b).rxSeq = x.rxSeq ∧ (t.link a b).retrains = satAdd x.retrains 1 ∧ otherLinks s t a b ∧
      keeps s t [.bed, .regs, .outbox, .store])) ∧
  (∀ (a b : Nat) (words : List (Nat × BitVec 516)) (m : List Byte) (s : State),
    let q := s.period a b words
    let z := q.st
    let x := z.link a b
    linkExists a b = true → (s.link a b).state = .live → s.linkDies a b = true → q.lost = false → q.flits = [] →
    let p := bfld m 2 2
    let c := bfld m 4 4
    (q.ctl = some (.disagree, []) → exec (.bedAlign a b words) s = .next z ∧
      ∃ j k, 0 < k ∧ x = { s.link a b with corrected := satAdd (s.link a b).corrected j, uncorr := satAdd (s.link a b).uncorr k, rxStream := x.rxStream }) ∧
    (q.ctl = some (.good, m) → bfld m 0 1 = 0x2D → c % 4096 = 0 →
      exec (.bedAlign a b words) s = .next (z.setLink a b { x with count := c % 2 ^ 32 })) ∧
    (q.ctl = some (.good, m) → bfld m 0 1 = 0x55 → x.retiring p = false → exec (.bedRetire a b words) s = .next (z.setLink a b
      { x with changes := x.changes ++ [.retire p c (((x.reqs.find? fun r => r.1 == p).map (·.2)).getD 0) (bfld m 8 1 % 2 == 1)],
               reqs := x.reqs.filter fun r => r.1 ≠ p })) ∧
    (∀ d k ql, q.ctl = some (.good, m) → bfld m 0 1 = 0x55 → x.changes = [.retire p d k ql] → exec (.bedRetire a b words) s = .next (z.setLink a b
      { x with changes := [.retire p (if reached d c then c else d) k ql], reqs := x.reqs.filter fun r => r.1 ≠ p })) ∧
    (∀ i, q.ctl = some (.good, m) → bfld m 0 1 = 0x66 → x.filling p = false →
      ((z.lanesIn a b .spare).find? fun i => (z.lane i).pos == bfld m 8 2) = some i →
      exec (.bedAdmit a b words) s = .next (z.setLink a b { x with changes := x.changes ++ [.join p c i] })) ∧
    (∀ i, q.ctl = some (.good, m) → bfld m 0 1 = 0x78 → (z.link b a).state = .live →
      (z.lanesIn b a .data).find? (fun i => (z.lane i).pos == p) = some i → (z.link b a).retiring p = false →
      ∃ t, exec (.bedReqRetire a b words) s = .next t ∧ retireAnnounced z t b a p (bfld m 4 1) ∧ keeps s t [.bed, .outbox])) ∧
  (∀ (a b c p d k i : Nat) (pl : Bool) (s : State),
    let x := s.link a b
    linkExists a b = true → x.state = .live → s.linkDies a b = true → (s.lanesIn a b .data).find? (fun i => (s.lane i).pos == p) = some i →
    reached c d = true →
    let gone := (s.lane i).out ((s.lane i).outState k) k pl
    (x.changes = [.retire p d k pl] → ∃ t, exec (.bedBoundary a b c) s = .next t ∧ otherLinks s t a b ∧
      t.link a b = { x with count := c % 2 ^ 32, changes := [], nullOnly := [] } ∧ t.lane i = gone ∧ (∀ j, j ≠ i → t.lane j = s.lane j) ∧
      t.bedWidth a b + 1 = s.bedWidth a b ∧ keeps s t [.bed, .store]) ∧
    (∀ j, x.changes = [.retire p d k pl, .join p d j] → j ∈ s.lanesIn a b .spare → ∃ t, exec (.bedBoundary a b c) s = .next t ∧
      t.link a b = { x with count := c % 2 ^ 32, changes := [], nullOnly := [] } ∧ t.lane i = gone ∧
      t.lane j = { s.lane j with state := .data, pos := p } ∧ t.bedWidth a b = s.bedWidth a b ∧ keeps s t [.bed, .store])) ∧
  (∀ (a b : Nat) (s : State),
    let x := s.link a b
    linkExists a b = true → x.state = .live → s.linkDies a b = true →
    (s.bedWidth a b ≠ 0 → ∃ t, exec (.bedCreditTimeout a b) s = .next t ∧ bedRetrained s t a b (satAdd x.creditTo 1) ∧
      keeps s t [.bed, .regs, .outbox, .store]) ∧
    (∀ p k i, x.reqs = [(p, k)] → x.changes = [] → (s.lanesIn a b .data).find? (fun i => (s.lane i).pos == p) = some i →
      ∃ t, exec (.bedReqRetireTimeout a b) s = .next t ∧ t.lane i = (s.lane i).out ((s.lane i).outState k) k false ∧
        t.link a b = { x with state := .train, quick := true, nullOnly := [], reqs := [], retrainReq := false, retrains := satAdd x.retrains 1,
                              txStream := [], rxStream := [], txCtl := [] } ∧
        keeps s t [.bed, .regs, .outbox, .store]) ∧
    (∀ i sp, laneInfo i = some (a, b, sp) →
      ((s.lane i).state = .data → ∃ t, exec (.bedLaneErrorLimit i) s = .next t ∧ t.link a b = { x with reqs := x.reqs ++ [((s.lane i).pos, 2)] } ∧
        t.outbox = s.outbox ++ (if (s.link b a).state = .live then [.breq a b (s.lane i).pos 2] else []) ∧
        t.link b a = (if (s.link b a).state = .live then { s.link b a with txCtl := (s.link b a).txCtl ++ [reqBytes (s.lane i).pos 2] } else s.link b a) ∧
        t.bed.lanes = s.bed.lanes ∧ keeps s t [.bed, .outbox]) ∧
      ((s.lane i).state = .spare → ∃ t, exec (.bedLaneErrorLimit i) s = .next t ∧
        t.lane i = (s.lane i).out (if (s.lane i).cause2 ≥ 2 then .failed else .retired) 2 false ∧ (∀ j, j ≠ i → t.lane j = s.lane j) ∧
        t.bed.links = s.bed.links ∧ keeps s t [.bed, .store])))

/-- No port but p differs. -/
def Sys2Proof.otherPorts (s t : State) (p : Nat) : Prop := ∀ q, q ≠ p → t.port q = s.port q

/-- The state after the retrain of a port began (R391): replay buffer, numbers, credits and session stay, the lanes in service train. -/
def Sys2Proof.portRetrained (s t : State) (p : Nat) : Prop :=
  let x := s.port p
  let y := t.port p
  y.state = .train ∧ y.retraining = true ∧ y.unacked = x.unacked ∧ y.held = x.held ∧ y.u = x.u ∧ y.n = x.n ∧ y.e = x.e ∧ y.sent = x.sent ∧
    y.peerCnt = x.peerCnt ∧ y.myCnt = x.myCnt ∧ y.session = x.session ∧ y.txOpen = x.txOpen ∧ y.changes = [] ∧ y.reqs = [] ∧ y.txPkts = [] ∧ y.txMsgs = [] ∧
    (x.changes = [] → ∀ i, y.fl i = if i < 34 ∧ ((x.fl i).state = .data ∨ (x.fl i).state = .spare)
      then { x.fl i with state := .training } else x.fl i) ∧
    t.reg (Reg.Sd_PORTp_RETRAINS p) = satAdd (s.reg (Reg.Sd_PORTp_RETRAINS p)) 1 ∧ t.rb (Reg.Sd_PORTp_CTL p) 1 = false ∧ otherPorts s t p

/-- The grace period applies to the port: it is set, and no quiesce drains the port. -/
abbrev Sys2Proof.graceOn (s : State) (p : Nat) : Prop := (s.port p).quiescing = false ∧ s.rf (Reg.Sd_PORTp_TIMERS p) 10 14 ≠ 0

/-- The state after a port became DOWN under a cause and began its grace period (R393, R394): its packets, numbers and session are kept. -/
def Sys2Proof.portDowned (s t : State) (p cause : Nat) : Prop :=
  let x := s.port p
  let y := t.port p
  y.state = .down ∧ y.cause = cause ∧ y.grace = true ∧ y.txOpen = (decide (4 ≤ cause) && x.light) ∧ y.unacked = x.unacked ∧ y.held = x.held ∧
    y.u = x.u ∧ y.n = x.n ∧ y.e = x.e ∧ y.session = x.session ∧ y.changes = [] ∧ (∀ i, i < 34 → (y.fl i).state = .failed ∨ (y.fl i).state = .dark) ∧
    (cause ≠ 1 → t.err = (s.raiseErr 2 0x25 (dieS (p / 8)) p none 0).err) ∧ otherPorts s t p

/-- None of a port's packets belongs to a tracker entry of this device, and none waits for the port. -/
abbrev Sys2Proof.noOwn (s : State) (p : Nat) : Prop :=
  (∀ k ∈ (s.port p).unacked, k.own = none) ∧ (∀ w ∈ (s.port p).held, w.own = none) ∧ ∀ w ∈ s.fab.waiting, w.port ≠ p

/-- A control slot whose first message is `m` and whose other messages are IDLE (R365, R366). -/
abbrev Sys2Proof.slotHas (ms : List (CtlRx × List Byte)) (m : CtlRx × List Byte) : Prop :=
  ms.head? = some m ∧ ∀ r ∈ ms.tail, r.1 = .good ∧ bfld r.2 0 1 = 0x1E

/-- The line code of fiber lanes loses nothing: a codeword as sent is found free of errors and brings its pointer and its bytes, codewords striped
over the lanes of a group come back in order, a block comes back with its kind, and a STATUS with its fields (R326, R327, R359, R360, R365). -/
def Sys2Proof.fiberCode : Prop :=
  (∀ (ptr : Option Nat) (bs : List Byte), bs.length = 320 → (∀ p, ptr = some p → p % 4 = 0 ∧ p < 320) →
    rsFix (codewordSyms ptr bs) = some (codewordSyms ptr bs, []) ∧ codewordOf (codewordSyms ptr bs) = some (ptr, bs)) ∧
  (∀ cws : List (List Nat), (∀ cs ∈ cws, cs.length = 272 ∧ ∀ a ∈ cs, a < 1024) → ∀ c cs, cws[c]? = some cs →
    groupCodeword ((groupLanes cws).map groupSyms) c = cs) ∧
  (∀ (l : BLane) (ctl : Bool) (n : Nat), n < 2 ^ 256 → (l.fiberBlock (sendBlock l.rx.scr ctl n).2.toNat).2 = (ctl, toBytesBE 32 n)) ∧
  (∀ m : StatusMsg, m.ack < 2 ^ 16 → m.sfCount < 2 ^ 32 → m.heartbeat < 2 ^ 16 → m.session < 2 ^ 16 → m.credits.length = 5 →
    (∀ c ∈ m.credits, c < 2 ^ 16) → slotOk (slotBytes (statusBytes m)) = true ∧ statusOf (slotBytes (statusBytes m)) = m)

/-- R378 to R383, R388, R390, R391. -/
def Obligations.PortPacketResults : Prop :=
  (∀ (p : Fin 16) (vc : Nat) (w : TxWait) (s : State),
    let x := s.port p
    let ok := x.replayDue = false ∧ x.deepReq = false ∧ x.width ≠ 0 ∧ x.unacked.length < 32767 ∧ pktUnits w.pkt ≤ x.credit vc
    let chip := x.unacked.filter fun k => !k.spilled
    let k : TxPkt := { lseq := x.n, vc, pkt := w.pkt, spilled := false, own := w.own }
    let sent := tset 0 x.sent vc ((tget 0 x.sent vc + pktUnits w.pkt) % 65536)
    let fab := if x.held.contains w then s.fab else { s.fab with waiting := s.fab.waiting.erase w }
    s.firstWaiting p vc = some w →
    (s.portLive p = true → ok → chip.length < 4096 → ∃ t, exec (.packetSend p vc w.pkt) s = .next t ∧
      t.port p = { x with n := (x.n + 1) % 65536, unacked := x.unacked ++ [k], sent, held := x.held.erase w,
                          txPkts := x.txPkts ++ [pktBytes x.n vc w.pkt] } ∧ t.fab = fab ∧
      t.outbox = s.outbox ++ [.packet p vc x.n w.pkt] ∧ otherPorts s t p ∧ keeps s t [.ports, .fab, .outbox]) ∧
    (∀ o, s.portLive p = true → ok → chip.length = 4096 → s.bwPath p = true → x.unacked.find? (fun k => !k.spilled) = some o →
      ∃ t, exec (.packetSend p vc w.pkt) s = .next t ∧ t.outbox = s.outbox ++ [.packet p vc x.n w.pkt] ∧ t.fab = fab ∧
        (t.port p).unacked = (x.unacked ++ [k]).map (fun y => if y.lseq = o.lseq then { y with spilled := true } else y) ∧
        t.readMem (s.spillSlot p o.lseq) (36 + 32 * Packet.units32 o.pkt) = pktBytes o.lseq o.vc o.pkt ∧
        (∀ a, a < s.spillSlot p o.lseq ∨ s.spillSlot p o.lseq + 36 + 32 * Packet.units32 o.pkt ≤ a → t.byte a = s.byte a) ∧
        keeps s t [.ports, .fab, .outbox, .mem]) ∧
    (s.portLive p = true → ¬ ok ∨ (s.bwPath p = false ∧ 4096 ≤ chip.length) → exec (.packetSend p vc w.pkt) s = .next s) ∧
    (x.state = .down → s.portDie p = true → x.grace = true → x.held.contains w = false → s.bwPath p = true →
      x.heldBytes + 36 + 32 * Packet.units32 w.pkt ≤ 48 * 2 ^ 20 → ∃ t, exec (.packetSend p vc w.pkt) s = .next t ∧
        t.port p = { x with held := x.held ++ [w] } ∧ t.fab = { s.fab with waiting := s.fab.waiting.erase w } ∧ keeps s t [.ports, .fab])) ∧
  fiberCode ∧
  (∀ (p : Fin 16) (data : List (Nat × List (BitVec 258))) (x : Port) (ps : List Framed) (corrected uncorr : Nat) (s : State),
    s.portLive p = true → (s.port p).blocks p data = (x, ps, corrected, uncorr) →
    let dark : Bool := x.serving ≠ [] && x.serving.all fun i => (x.fl i).noLock
    let counted := fun (t : State) => t.reg (Reg.Sd_PORTp_CORRECTED p) = satAdd (s.reg (Reg.Sd_PORTp_CORRECTED p)) corrected ∧
      t.reg (Reg.Sd_PORTp_UNCORR p) = satAdd (s.reg (Reg.Sd_PORTp_UNCORR p)) uncorr ∧ otherPorts s t p ∧ keeps s t [.ports, .regs]
    (dark = false → ps = [] → ∃ t, exec (.packetReceive p data false) s = .next t ∧ counted t ∧ t.port p = x) ∧
    (dark = false → ps = [none] → ∃ t, exec (.packetReceive p data false) s = .next t ∧ counted t ∧ t.port p = x.nakNow) ∧
    (∀ b, dark = false → ps = [some b] →
      let good : Bool := (crc32c (b.take (b.length - 4))).toNat == ofBytesLE (b.drop (b.length - 4))
      let lseq := (packetOf b).1
      let vc := (packetOf b).2.1
      let pkt := (packetOf b).2.2
      let d := (lseq + 65536 - x.e) % 65536
      (good = true → d = 0 → ∃ t, exec (.packetReceive p data false) s = .next t ∧ counted t ∧ t.port p =
        { x with e := (x.e + 1) % 65536, naked := false, nakDue := false,
                 myCnt := tset 0 x.myCnt vc ((tget 0 x.myCnt vc + pktUnits pkt) % 65536) }) ∧
      (good = true → 32769 ≤ d → ∃ t, exec (.packetReceive p data false) s = .next t ∧ counted t ∧ t.port p = x ∧
        t.reg (Reg.Sd_PORTp_DUP_DROPS p) = satAdd (s.reg (Reg.Sd_PORTp_DUP_DROPS p)) 1) ∧
      (good = false ∨ (0 < d ∧ d < 32769) → ∃ t, exec (.packetReceive p data false) s = .next t ∧ counted t ∧ t.port p = x.nakNow)) ∧
    (dark = true → ∃ t, exec (.packetReceive p data false) s = .next t ∧ portRetrained (s.setPort p x) t p ∧ keeps s t [.ports, .regs, .outbox, .store]) ∧
    (∃ t, exec (.packetReceive p data true) s = .next t ∧ (t.port p).state = .train ∧ (t.port p).retraining = true ∧
      (dark = false → t.reg (Reg.Sd_PORTp_EB_FAULT p) = satAdd (s.reg (Reg.Sd_PORTp_EB_FAULT p)) 1) ∧ otherPorts s t p ∧
      keeps s t [.ports, .regs, .outbox, .store])) ∧
  (∀ (p : Fin 16) (blocks : List (Nat × BitVec 258)) (rb : Bool) (b : List Byte) (x : Port) (ms : List (CtlRx × List Byte)) (s : State),
    s.portLive p = true → (s.port p).slot blocks = (x, ms) →
    let z := s.setPort p x
    let m := statusOf b
    let isStatus : Prop := slotHas ms (.good, b) ∧ bfld b 0 1 = 0x3C
    let a := m.ack % 65536
    let n := (a + 65536 - x.u) % 65536
    let y := { x with sfCount := m.sfCount % 2 ^ 32, peerDeep := m.deepReq, peerCnt := tlist 0 0 (m.credits.take 5) }
    let answer : StatusMsg := { ack := x.e, nak := x.nakDue, standbyReq := x.standbyReq, standbyAck := false, deepReq := x.deepReq,
                                quiesce := x.quiescing, sfCount := m.sfCount % 2 ^ 32, credits := (List.range 5).map (tget 0 x.myCnt),
                                heartbeat := x.heartbeat, session := x.session }
    (isStatus → m.deepReq = false → m.standbyReq = false → m.standbyAck = false → n ≤ (x.n + 65536 - x.u) % 65536 → m.nak = false → x.replayDue = false →
      ∃ t, exec (.status p blocks rb) s = .next t ∧ t.outbox = s.outbox ++ [.status p answer] ∧ keeps s t [.ports, .outbox] ∧
        t.port p = { y with u := a, unacked := x.unacked.drop n, nakDue := false, heartbeat := (x.heartbeat + 1) % 65536 }) ∧
    (isStatus → m.deepReq = false → m.standbyReq = false → m.standbyAck = false → n ≤ (x.n + 65536 - x.u) % 65536 → m.nak = true ∨ x.replayDue = true →
      x.unacked.drop n ≠ [] → (∀ k ∈ x.unacked.drop n, k.spilled = false) →
      ∃ t, exec (.status p blocks rb) s = .next t ∧ keeps s t [.ports, .regs, .outbox] ∧
        t.outbox = s.outbox ++ (x.unacked.drop n).map (fun k => .packet p k.vc k.lseq k.pkt) ++ [.status p answer] ∧
        (t.port p).unacked = x.unacked.drop n ∧ (t.port p).u = a ∧ (t.port p).replayDue = false ∧
        t.reg (Reg.Sd_PORTp_REPLAYS p) = satAdd (s.reg (Reg.Sd_PORTp_REPLAYS p)) 1) ∧
    (isStatus → m.deepReq = false → m.standbyReq = false → m.standbyAck = false → (x.n + 65536 - x.u) % 65536 < n →
      ∃ t, exec (.status p blocks rb) s = .next t ∧ (t.port p).u = x.u ∧ (t.port p).unacked = x.unacked ∧
        t.reg (Reg.Sd_PORTp_CTL_ERR p) = satAdd (s.reg (Reg.Sd_PORTp_CTL_ERR p)) 1 ∧ keeps s t [.ports, .regs, .outbox]) ∧
    (isStatus → m.deepReq = false → m.standbyReq = true → m.nak = false → x.replayDue = false → z.portIdle p = true → s.rb (Reg.Sd_PORTp_CTL p) 10 = true →
      ∃ t, exec (.status p blocks rb) s = .next t ∧ (t.port p).state = .standby ∧ (t.port p).session = x.session ∧
        keeps s t [.ports, .regs, .outbox]) ∧
    (slotHas ms (.disagree, []) → exec (.status p blocks rb) s = .next (z.bump (Reg.Sd_PORTp_CTL_ERR p))) ∧
    (slotHas ms (.failed, []) → ∃ t, exec (.status p blocks rb) s = .next t ∧ portRetrained z t p ∧ keeps s t [.ports, .regs, .outbox, .store])) ∧
  (∀ (p : Fin 16) (s : State), s.portLive p = true →
    let x := s.port p
    (x.unacked ≠ [] → (∀ k ∈ x.unacked, k.spilled = false) → ∃ t, exec (.ackTimeout p false) s = .next t ∧
      t.outbox = s.outbox ++ x.unacked.map (fun k => .packet p k.vc k.lseq k.pkt) ∧
      t.port p = { x with replayDue := false, txPkts := x.txPkts ++ x.unacked.map fun k => pktBytes k.lseq k.vc k.pkt } ∧
      t.reg (Reg.Sd_PORTp_REPLAYS p) = satAdd (s.reg (Reg.Sd_PORTp_REPLAYS p)) 1 ∧ keeps s t [.ports, .regs, .outbox]) ∧
    (s.bwPath p = false → (∃ k ∈ x.unacked, k.spilled = true) → exec (.ackTimeout p true) s = .next (s.setPort p { x with replayDue := true })) ∧
    (noOwn s p → s.bwPath p = true → (∃ k ∈ x.unacked, k.spilled = true) → ∃ t, exec (.ackTimeout p true) s = .next t ∧ (t.port p).unacked = [] ∧
      (t.port p).session = nextSession x.session ∧ t.reg (Reg.Sd_PORTp_FLUSHED p) = satAdd (s.reg (Reg.Sd_PORTp_FLUSHED p)) (x.unacked.length + x.held.length) ∧
      t.mem = s.mem) ∧
    (x.unacked = [] → exec (.ackTimeout p false) s = .next s) ∧
    (∀ vc w, vc < 5 → s.firstWaiting p vc = some w → x.credit vc < pktUnits w.pkt → x.width ≠ 0 →
      ∃ t, exec (.portCreditTimeout p) s = .next t ∧ portRetrained s t p ∧
        t.reg (Reg.Sd_PORTp_CREDIT_TO p) = satAdd (s.reg (Reg.Sd_PORTp_CREDIT_TO p)) 1 ∧ keeps s t [.ports, .regs, .outbox, .store]) ∧
    (∃ t, exec (.statusMissing p) s = .next t ∧ portRetrained s t p ∧ keeps s t [.ports, .regs, .outbox, .store]))

/-- The state after the sender of a port announced the unplanned retirement of position q for a cause (R371). -/
def Sys2Proof.flRetireAnnounced (s t : State) (p q cause : Nat) : Prop :=
  let x := s.port p
  let new := [FChange.retire q x.boundary cause false] ++ (match x.readySpare with | some j => [.join q x.boundary j] | none => [])
  t.port p = { x with changes := x.changes ++ new, txMsgs := x.txMsgs ++ new.map FChange.bytes } ∧ t.outbox = s.outbox ++ new.map (Out.fctl p) ∧
    otherPorts s t p

/-- A port's HELLO event count rose by one (R431). -/
def Sys2Proof.helloCounted (s t : State) (p : Nat) : Prop :=
  (tget .none t.fab.hello p).events = ((tget .none s.fab.hello p).events + 1) % 2 ^ 32

/-- R343 to R346, R371, R372, R414. -/
def Obligations.PortLaneResults : Prop :=
  (∀ (p : Fin 16) (blocks : List (Nat × BitVec 258)) (rb : Bool) (s : State),
    ∀ r ∈ [Instr.portRetire p blocks rb, .portAdmit p blocks rb, .portReqRetire p blocks rb],
      exec r s = exec (.status p blocks rb) s ∧ (s.portLive p = false → exec r s = .next s)) ∧
  (∀ (p : Fin 16) (blocks : List (Nat × BitVec 258)) (rb : Bool) (b : List Byte) (x : Port) (ms : List (CtlRx × List Byte)) (s : State),
    s.portLive p = true → (s.port p).slot blocks = (x, ms) → slotHas ms (.good, b) →
    let z := s.setPort p x
    let kind := bfld b 0 1
    let q := bfld b 1 1
    let c := bfld b 2 4
    (kind = 0x55 → x.retiring q = false → exec (.portRetire p blocks rb) s = .next (z.setPort p
      { x with changes := x.changes ++ [.retire q c (((x.reqs.find? fun r => r.1 == q).map (·.2)).getD 0) (bfld b 6 1 % 2 == 1)],
               reqs := x.reqs.filter fun r => r.1 ≠ q })) ∧
    (∀ d k ql, kind = 0x55 → x.changes = [.retire q d k ql] → exec (.portRetire p blocks rb) s = .next (z.setPort p
      { x with changes := [.retire q (if reached d c then c else d) k ql], reqs := x.reqs.filter fun r => r.1 ≠ q })) ∧
    (kind = 0x66 → x.filling q = false → (x.fl (bfld b 6 1)).state = .spare → bfld b 6 1 < 34 →
      exec (.portAdmit p blocks rb) s = .next (z.setPort p { x with changes := x.changes ++ [.join q c (bfld b 6 1)] })) ∧
    (∀ i, kind = 0x78 → x.lineAt q = some i → x.retiring q = false →
      ∃ t, exec (.portReqRetire p blocks rb) s = .next t ∧ flRetireAnnounced z t p q (bfld b 2 1) ∧ keeps s t [.ports, .outbox])) ∧
  (∀ (p : Fin 16) (c q d k i : Nat) (pl : Bool) (s : State),
    let x := s.port p
    s.portLive p = true → x.lineAt q = some i → reached c d = true → k = 1 ∨ k = 3 ∨ k = 6 →
    (x.changes = [.retire q d k pl] → s.minWidth p < x.width → ∃ t, exec (.portBoundary p c) s = .next t ∧ (t.port p).state = .live ∧
      (t.port p).sfCount = c % 2 ^ 32 ∧ (t.port p).changes = [] ∧ ((t.port p).fl i).state = .retired ∧ ((t.port p).fl i).cause = k ∧
      (∀ j, j ≠ i → (t.port p).fl j = x.fl j) ∧ (t.port p).width + 1 = x.width ∧ helloCounted s t p ∧ keeps s t [.ports, .fab]) ∧
    (∀ j, x.changes = [.retire q d k pl, .join q d j] → (x.fl j).state = .spare → j < 34 → ∃ t, exec (.portBoundary p c) s = .next t ∧
      (t.port p).width = x.width ∧ ((t.port p).fl i).state = .retired ∧ (t.port p).fl j = { x.fl j with state := .data, pos := q } ∧
      (t.port p).changes = [] ∧ keeps s t [.ports]) ∧
    (x.changes = [.retire q d k pl] → x.width ≤ s.minWidth p → graceOn s p → ∃ t, exec (.portBoundary p c) s = .next t ∧
      (t.port p).state = .down ∧ (t.port p).cause = 7 ∧ (t.port p).grace = true ∧ (t.port p).unacked = x.unacked ∧
      keeps s t [.ports, .fab, .regs, .outbox, .err, .errSeq, .store])) ∧
  (∀ (p : Fin 16) (q k i : Nat) (s : State),
    let x := s.port p
    s.portLive p = true → x.reqs = [(q, k)] → x.changes = [] → x.lineAt q = some i → k = 1 ∨ k = 2 →
    ∃ t, exec (.portReqRetireTimeout p) s = .next t ∧ (t.port p).state = .train ∧ (t.port p).retraining = true ∧ (t.port p).reqs = [] ∧
      ((t.port p).fl i).state ≠ .training ∧ ((t.port p).fl i).cause = k ∧ (t.port p).unacked = x.unacked ∧ helloCounted s t p ∧
      keeps s t [.ports, .fab, .regs, .outbox, .store]) ∧
  (∀ (p : Fin 16) (i : Nat) (s : State),
    let x := s.port p
    let l := x.fl i
    s.portLive p = true → i < 34 →
    (l.state = .data → exec (.portLaneErrorLimit p i) s =
      .next ((s.setPort p { x with reqs := x.reqs ++ [(l.pos, 2)], txMsgs := x.txMsgs ++ [flReqBytes l.pos 2] }).emit (.freq p l.pos 2))) ∧
    (l.state = .spare → ∃ t, exec (.portLaneErrorLimit p i) s = .next t ∧ (t.port p).fl i = { l with
      state := if l.cause2 ≥ 2 then .failed else .retired, pos := 0, cause := 2, planned := false, after := none, cause2 := l.cause2 + 1 } ∧
      (∀ j, j ≠ i → (t.port p).fl j = x.fl j) ∧ otherPorts s t p ∧ keeps s t [.ports, .store]) ∧
    (l.state = .training → l.after = none → s.flRings p i = true →
      let x' := x.setFl i { l with tries := 0, noLock := false, state := .spare, pos := x.freeSparePos }
      (x'.holePos = none → exec (.portLaneTrainingDone p i true) s = .next (s.setPort p x')) ∧
      (∀ q, x'.holePos = some q → ∃ t, exec (.portLaneTrainingDone p i true) s = .next t ∧
        t.port p = { x' with changes := x.changes ++ [.join q x.boundary i], txMsgs := x.txMsgs ++ [(FChange.join q x.boundary i).bytes] } ∧ t.outbox = s.outbox ++ [.fctl p (.join q x.boundary i)] ∧
        keeps s t [.ports, .outbox]) ∧
      (l.tries < 2 → exec (.portLaneTrainingDone p i false) s = .next (s.setPort p (x.setFl i { l with tries := l.tries + 1 }))) ∧
      (2 ≤ l.tries → ∃ t, exec (.portLaneTrainingDone p i false) s = .next t ∧ ((t.port p).fl i).state = .failed ∧ ((t.port p).fl i).cause = 5 ∧
        (∃ r, t.store.queue = s.store.queue ++ [.repair r] ∧ r.kind = 4 ∧ r.element = p.val * 64 + i) ∧ keeps s t [.ports, .store]))) ∧
  (∀ (p : Fin 16) (o : Origin) (v : Word) (s : State), writable s (Reg.Sd_PORTp_LANE_CTL p) →
    let i := s.rf (Reg.Sd_PORTp_LANE_SEL p) 0 6
    let x := s.port p
    let l := x.fl i
    i < 34 →
    (v = 1 ∨ v = 3 → l.state = .spare → ∃ t, exec (.portLaneRetire p o v) s = .next t ∧ (t.port p).fl i =
      { l with state := .retired, pos := 0, cause := 6, planned := false, after := none } ∧ (∀ j, j ≠ i → (t.port p).fl j = x.fl j) ∧
      otherPorts s t p ∧ keeps s t [.ports, .regs, .log, .store]) ∧
    (v = 1 ∨ v = 3 → l.state = .data → x.state = .live → x.retiring l.pos = false → ∃ t, exec (.portLaneRetire p o v) s = .next t ∧
      flRetireAnnounced s t p l.pos 6 ∧ keeps s t [.ports, .outbox, .regs, .log, .store]) ∧
    (l.state = .retired → ∃ t, exec (.portLaneReadmit p o 2) s = .next t ∧ t.port p = x.setFl i { l with state := .training } ∧
      otherPorts s t p ∧ t.log.next = s.log.next + 1 ∧ keeps s t [.ports, .regs, .log, .store]) ∧
    (l.state ≠ .retired → ∃ t, exec (.portLaneReadmit p o 2) s = .next t ∧ keeps s t [.regs, .log, .store]))

/-- R367 to R370, R387, R391 to R393, R398, R400, R409, R412. -/
def Obligations.PortTrainingResults : Prop :=
  (∀ (p : Fin 16) (s : State),
    let x := s.port p
    let rate := if s.fuses.smallFabric then s.rf (Reg.Sd_PORTp_CTL p) 2 2 else 0
    let trains := fun (t : State) => (t.port p).state = .train ∧ (t.port p).cause = 0 ∧ (t.port p).rate = rate ∧ (t.port p).retraining = false ∧
      (t.port p).session = x.session ∧ (t.port p).unacked = x.unacked ∧ (t.port p).peerValid = false ∧ otherPorts s t p ∧
      (∀ i, i < 34 → (t.port p).fl i = if (x.fl i).state = .failed then x.fl i
        else { x.fl i with state := .training, pos := i, tries := 0, after := none, noLock := true, rx := .init }) ∧ keeps s t [.ports, .regs, .outbox]
    (s.portMayTrain p = true → ∃ t, exec (.portTrainingStart p) s = .next t ∧ trains t) ∧
    (s.portMayTrain p = true → 4 ≤ x.cause → ∃ t, exec (.portTrainingRetry p) s = .next t ∧ trains t) ∧
    (s.portMayTrain p = false → exec (.portTrainingStart p) s = .next s ∧ exec (.portTrainingRetry p) s = .next s) ∧
    (s.portLive p = true → ∃ t, exec (.portLockLoss p) s = .next t ∧ portRetrained s t p ∧ keeps s t [.ports, .regs, .outbox, .store]) ∧
    (s.portDie p = true → x.state = .train → x.retraining = true → graceOn s p → ∃ t, exec (.lockTimeout p) s = .next t ∧ portDowned s t p 4 ∧
      keeps s t [.ports, .fab, .regs, .outbox, .err, .errSeq, .store])) ∧
  (∀ (p : Fin 16) (fiber line : Nat) (blk : BitVec 258) (s : State),
    let got := ((s.port p).fl line).fiberBlock blk.toNat
    let c := got.2.2
    let ts := portTsOf c
    let x := (s.port p).setFl line got.1
    let z := s.setPort p x
    let ok : Bool := !got.1.noLock && got.2.1 && slotOk c
    let y := if (x.fl ts.line).state = .training ∧ ts.position < 34 then x.setFl ts.line { x.fl ts.line with pos := ts.position } else x
    let heard : Bool := ts.heardValid && decide (ts.heardPort = p) && decide (ts.heardTag = s.devTag)
    let known := { y with peerTag := ts.tag, peerPort := ts.port, peerFiber := fiber, peerValid := true }
    x.state = .train → x.retraining = false → s.portDie p = true → fiber < 8 → line < 34 →
    (ok = false → exec (.portTs1 p fiber line [blk]) s = .next z ∧ exec (.portTs2 p fiber line [blk]) s = .next z) ∧
    (ok = true → bfld c 0 1 = 0x33 → ts.line < 34 → heard = false → exec (.portTs1 p fiber line [blk]) s = .next (z.setPort p y)) ∧
    (ok = true → bfld c 0 1 = 0x33 → ts.line < 34 → heard = true → fiber = p.val % 8 → exec (.portTs1 p fiber line [blk]) s = .next (z.setPort p { known with steered := false })) ∧
    (ok = true → bfld c 0 1 = 0x33 → ts.line < 34 → heard = true → fiber ≠ p.val % 8 → s.fuses.smallFabric = true →
      exec (.portTs1 p fiber line [blk]) s = .next (z.setPort p { known with steered := true })) ∧
    (ok = true → bfld c 0 1 = 0x33 → ts.line < 34 → heard = true → fiber ≠ p.val % 8 → s.fuses.smallFabric = false → graceOn s p → ∃ t, exec (.portTs1 p fiber line [blk]) s = .next t ∧
      portDowned (z.setPort p known) t p 6 ∧ keeps s t [.ports, .fab, .regs, .outbox, .err, .errSeq, .store]) ∧
    (ok = true → bfld c 0 1 = 0x4B → ts.line < 34 → heard = false → ∃ t, exec (.portTs2 p fiber line [blk]) s = .next t ∧ keeps s t [.ports] ∧
      t.port p = if ts.rate ≤ s.rf (Reg.Sd_PORTp_CTL p) 2 2 then { y with rate := ts.rate } else y)) ∧
  (∀ (p : Fin 16) (rate rtt tag port ses : Nat) (s : State),
    let x := s.port p
    let live := fun (t : State) => (t.port p).state = .live ∧ (t.port p).width = 32 ∧ ((t.port p).fl 32).state = .spare ∧ otherPorts s t p
    x.state = .train → s.portDie p = true → (∀ i, i < 34 → (x.fl i).state = .training ∧ (x.fl i).pos = i ∧ (x.fl i).after = none) →
    s.minWidth p ≤ 32 →
    (x.retraining = false → rate ≤ s.rf (Reg.Sd_PORTp_CTL p) 2 2 → x.last = some (tag, port) → x.session = ses → ses ≠ 0 →
      ∃ t, exec (.portTrainingDone p true rate rtt [] tag port ses) s = .next t ∧ live t ∧ (t.port p).replayDue = true ∧
        (t.port p).unacked = x.unacked ∧ (t.port p).n = x.n ∧ (t.port p).u = x.u ∧ (t.port p).e = x.e ∧ (t.port p).session = x.session ∧
        (t.port p).rate = rate ∧ (t.port p).rtt = rtt % 65536 ∧ helloCounted s t p ∧ keeps s t [.ports, .fab, .regs, .outbox]) ∧
    (x.retraining = false → rate ≤ s.rf (Reg.Sd_PORTp_CTL p) 2 2 → x.last ≠ some (tag, port) ∨ x.session ≠ ses ∨ ses = 0 → noOwn s p →
      ∃ t, exec (.portTrainingDone p true rate rtt [] tag port ses) s = .next t ∧ live t ∧ (t.port p).unacked = [] ∧ (t.port p).n = 0 ∧
        (t.port p).u = 0 ∧ (t.port p).e = 0 ∧ (t.port p).session = nextSession (max x.session ses) ∧ (t.port p).shares = (s.creditSplit p).1 ∧
        (∀ vc, vc < 5 → (t.port p).credit vc = 0 ∧ tget 0 (t.port p).myCnt vc = (s.creditSplit p).1.getD vc 0) ∧
        (t.port p).last = some (tag, port) ∧ t.reg (Reg.Sd_PORTp_FLUSHED p) = satAdd (s.reg (Reg.Sd_PORTp_FLUSHED p)) x.unacked.length) ∧
    (x.retraining = false → s.rf (Reg.Sd_PORTp_CTL p) 2 2 < rate → graceOn s p → ∃ t, exec (.portTrainingDone p true rate rtt [] tag port ses) s = .next t ∧
      (t.port p).state = .down ∧ (t.port p).cause = 5 ∧ (t.port p).unacked = x.unacked ∧ otherPorts s t p) ∧
    (x.retraining = true → ∃ t, exec (.portTrainingDone p true rate rtt [] tag port ses) s = .next t ∧ live t ∧ (t.port p).replayDue = true ∧
      (t.port p).unacked = x.unacked ∧ (t.port p).session = x.session ∧ keeps s t [.ports, .regs, .outbox]) ∧
    (x.retraining = true →
      let recent := (x.failTicks.filter fun n => decide (s.ticks < n + 32768)) ++ [s.ticks]
      (recent.length < 3 → exec (.portTrainingDone p false rate rtt [] tag port ses) s = .next (s.setPort p { x with failTicks := recent })) ∧
      (3 ≤ recent.length → graceOn s p → ∃ t, exec (.portTrainingDone p false rate rtt [] tag port ses) s = .next t ∧ portDowned s t p 5))) ∧
  (∀ (p : Fin 16) (o : Origin) (s : State), writable s (Reg.Sd_PORTp_CTL p) →
    let cur := s.reg (Reg.Sd_PORTp_CTL p)
    let x := s.port p
    (s.portLive p = true → ∃ t, exec (.portRetrainRequest p o (cur ||| 2)) s = .next t ∧ portRetrained s t p ∧ t.log.next = s.log.next + 1 ∧
      keeps s t [.ports, .regs, .outbox, .log, .store]) ∧
    (x.state = .down → ∃ t, exec (.portRetrainRequest p o (cur ||| 2)) s = .next t ∧ t.rb (Reg.Sd_PORTp_CTL p) 1 = true ∧
      keeps s t [.regs, .log, .store]) ∧
    (x.state = .down → cur.bit 0 = false → s.bwValid p = true → ∃ t, exec (.portEnable p o (cur ||| 1)) s = .next t ∧ t.portEnabled p = true ∧
      t.port p = { x with txOpen := true, probing := false } ∧ otherPorts s t p ∧ keeps s t [.ports, .regs, .log, .store]) ∧
    (x.state = .down → cur.bit 0 = false → s.bwValid p = false → ∃ t, exec (.portEnable p o (cur ||| 1)) s = .next t ∧ t.portEnabled p = false ∧
      keeps s t [.regs, .log, .store]) ∧
    (x.state = .down → cur.bit 0 = true → ∃ t, exec (.portDisable p o (cur &&& ~~~ 1)) s = .next t ∧ t.portEnabled p = false ∧
      t.port p = { x with cause := 1, txOpen := false, probing := false, settled := false } ∧ otherPorts s t p ∧
      keeps s t [.ports, .regs, .outbox, .log, .store]) ∧
    (x.state = .live → graceOn s p → cur.bit 0 = true → ∃ t, exec (.portDisable p o (cur &&& ~~~ 1)) s = .next t ∧ t.portEnabled p = false ∧
      portDowned s t p 1 ∧ keeps s t [.ports, .fab, .regs, .outbox, .log, .store]))

/-- R374, R375, R393 to R396, R399, R400, R403. -/
def Obligations.PortLightResults : Prop :=
  (∀ (p : Fin 16) (s : State),
    let x := s.port p
    (s.portLive p = true → s.rb (Reg.Sd_PORTp_CTL p) 10 = true → s.portIdle p = true → x.deepReq = false → x.quiescing = false →
      exec (.standbyIdleExpiry p) s = .next (s.setPort p { x with standbyReq := true })) ∧
    (s.portLive p = true → s.portIdle p = false → exec (.standbyIdleExpiry p) s = .next s) ∧
    (s.portDie p = true → x.state = .standby → exec (.standbyExit p) s = .next (s.setPort p { x with state := .live })) ∧
    (s.portLive p = true → x.deepReq = true → x.peerDeep = true → x.unacked = [] → exec (.portDeepEntry p) s =
      .next (s.setPort p { x with state := .deep, txOpen := false, deepReq := false, peerDeep := false })) ∧
    (s.portLive p = true → x.unacked ≠ [] → exec (.portDeepEntry p) s = .next s) ∧
    (s.portDie p = true → x.state = .deep → s.asleep = false → ∃ t u, exec (.portDeepExit p) s = .next t ∧ exec (.lightPresent p) s = .next u ∧
      portRetrained (s.setPort p { x with txOpen := true, state := .live }) t p ∧
      portRetrained (s.setPort p { x with light := true, txOpen := true, state := .live }) u p ∧
      keeps s t [.ports, .regs, .outbox, .store] ∧ keeps s u [.ports, .regs, .outbox, .store]) ∧
    (s.portDie p = true → x.state = .train → x.retraining = true → x.light = false → graceOn s p → ∃ t, exec (.deepWakeTimeout p) s = .next t ∧
      portDowned s t p 2 ∧ keeps s t [.ports, .fab, .regs, .outbox, .err, .errSeq, .store])) ∧
  (∀ (p : Fin 16) (s : State),
    let x := s.port p
    s.portDie p = true → x.state = .down →
    (x.grace = true → noOwn s p → ∃ t, exec (.graceExpiry p) s = .next t ∧ otherPorts s t p ∧ keeps s t [.ports, .regs] ∧
      t.port p = { x with unacked := [], u := x.n, held := [], grace := false, session := nextSession x.session } ∧
      t.reg (Reg.Sd_PORTp_FLUSHED p) = satAdd (s.reg (Reg.Sd_PORTp_FLUSHED p)) (x.unacked.length + x.held.length)) ∧
    (x.grace = false → exec (.graceExpiry p) s = .next s) ∧
    (s.portEnabled p = true → s.asleep = false → 2 ≤ x.cause → ∃ t, exec (.lightPresent p) s = .next t ∧ otherPorts s t p ∧ keeps s t [.ports] ∧
      t.port p = { x with light := true, txOpen := true, probing := false }) ∧
    (s.portEnabled p = true → s.asleep = false → x.cause = 2 ∨ x.cause = 3 → x.txOpen = false →
      exec (.probeCycle p) s = .next (s.setPort p { x with txOpen := true, probing := true })) ∧
    (x.cause = 1 ∨ 4 ≤ x.cause → exec (.probeCycle p) s = .next s) ∧
    (x.probing = true → exec (.probeWindowEnd p) s = .next (s.setPort p { x with probing := false, txOpen := x.light && x.txOpen })) ∧
    (x.probing = false → exec (.probeWindowEnd p) s = .next s) ∧
    (s.portEnabled p = true → x.cause = 1 → x.txOpen = true → x.light = false → ∃ t, exec (.enableLightTimeout p) s = .next t ∧
      t.port p = { x with txOpen := false, probing := false, settled := false, cause := 2 } ∧
      t.err = (s.raiseErr 2 0x25 (dieS (p / 8)) p none 0).err ∧ otherPorts s t p ∧ keeps s t [.ports, .regs, .outbox, .err, .errSeq, .store]) ∧
    (x.light = true → x.txOpen = true → x.quiesced = false →
      exec (.lightSettled p) s = .next (s.setPort p { x with settled := true, quiesced := false })) ∧
    (x.light = true → x.txOpen = true → x.quiesced = true → ∃ t, exec (.lightSettled p) s = .next t ∧
      t.port p = { x with settled := true, quiesced := false } ∧ (t.svc (p / 8)).svc = 0 ∧ otherPorts s t p ∧
      keeps s t [.ports, .svcs, .regs, .log, .store]) ∧
    (x.light = false → exec (.lightSettled p) s = .next s) ∧
    (x.txOpen = true → x.light = true → x.cause = 2 ∨ x.cause = 3 → ∃ t, exec (.receiveDark p) s = .next t ∧ keeps s t [.ports, .regs] ∧
      t.port p = { x with light := false, settled := false, txOpen := false, probing := false } ∧
      t.reg (Reg.Sd_PORTp_DARK p) = satAdd (s.reg (Reg.Sd_PORTp_DARK p)) 1)) ∧
  (∀ (p : Fin 16) (s : State),
    let x := s.port p
    s.portDie p = true →
    (x.state = .live → x.txOpen = true → x.light = true → graceOn s p → ∃ t, exec (.receiveDark p) s = .next t ∧
      portDowned (s.setPort p { x with light := false, settled := false }) t p 2 ∧
      t.reg (Reg.Sd_PORTp_DARK p) = satAdd (s.reg (Reg.Sd_PORTp_DARK p)) 1 ∧ keeps s t [.ports, .fab, .regs, .outbox, .err, .errSeq, .store]) ∧
    (x.state = .deep → exec (.receiveDark p) s = .next (s.setPort p { x with light := false, settled := false })) ∧
    (x.state = .live → exec (.lightPresent p) s = .next (s.setPort p { x with light := true })))

/-- The state after a press on a connector whose ports were all DOWN, or all LIVE (R401, R402). -/
def Sys2Proof.pressed (s t : State) (d : Nat) (o : Origin) : Prop :=
  ((∀ p ∈ svcPorts d, (s.port p).state = .down) → (∀ p ∈ svcPorts d, (s.port p).quiesced = false) → t.svc d = { svc := 2, origin := o, blink := false } ∧
    ∀ p ∈ svcPorts d, t.port p = { s.port p with quiescing := false, quiesced := true, txOpen := false, probing := false, settled := false,
                                                 cause := if s.portEnabled p then 3 else 1 }) ∧
  ((∀ p ∈ svcPorts d, (s.port p).state = .live) → (∀ p ∈ svcPorts d, (s.port p).quiesced = false) → t.svc d = { svc := 1, origin := o, blink := false } ∧
    ∀ p ∈ svcPorts d, t.port p = { s.port p with quiescing := true, standbyReq := false })

/-- The state after a cancel (R404). -/
def Sys2Proof.cancelled (s t : State) (d : Nat) (o : Origin) : Prop :=
  t.svc d = { svc := 0, origin := o, blink := true } ∧ (∀ p ∈ svcPorts d, t.port p =
    if (s.port p).quiescing ∨ (s.port p).quiesced then { s.port p with quiescing := false, quiesced := false } else s.port p) ∧
  ∀ p, p ∉ svcPorts d → t.port p = s.port p

/-- R401, R402, R404, R416. -/
def Obligations.ServiceResults : Prop :=
  (∀ (d : Fin 2) (s : State), s.dieUp (dieS d) = true →
    ((s.svc d).svc = 0 → ((∀ p ∈ svcPorts d, (s.port p).state = .down) ∨ (∀ p ∈ svcPorts d, (s.port p).state = .live)) →
      ∃ t, exec (.serviceButtonPress d) s = .next t ∧ pressed s t d .serviceButton ∧ keeps s t [.ports, .svcs, .regs, .log, .store]) ∧
    ((s.svc d).svc ≠ 0 → ∃ t, exec (.serviceButtonPress d) s = .next t ∧ keeps s t [.regs, .log, .store] ∧
      (quietLog s → t.log.next = s.log.next + 1)) ∧
    ((s.svc d).svc = 1 → (∀ p ∈ svcPorts d, noOwn s p ∧ (((s.port p).quiescing = true ∧ (s.port p).state = .live) ∨ (s.port p).quiesced = true)) →
      ∃ t, exec (.quiesceLimit d) s = .next t ∧ (t.svc d).svc = 2 ∧ ∀ p ∈ svcPorts d, (t.port p).quiesced = true ∧
        ((s.port p).quiescing = true → (s.port p).state = .live → (t.port p).state = .down ∧ (t.port p).unacked = [] ∧ (t.port p).txOpen = false)) ∧
    ((s.svc d).svc ≠ 0 → ∃ t, exec (.longPress d) s = .next t ∧ cancelled s t d .serviceButton ∧ keeps s t [.ports, .svcs, .regs, .log, .store]) ∧
    ((s.svc d).svc = 0 → exec (.longPress d) s = .next s) ∧
    exec (.cancelBlinkEnd d) s = .next (s.setSvc d { s.svc d with blink := false })) ∧
  (∀ (d : Fin 2) (o : Origin) (s : State), writable s (Reg.Sd_SVC_CTL d) → s.dieUp (dieS d) = true →
    ((s.svc d).svc = 0 → ((∀ p ∈ svcPorts d, (s.port p).state = .down) ∨ (∀ p ∈ svcPorts d, (s.port p).state = .live)) →
      ∃ t, exec (.svcQuiesce d o 1) s = .next t ∧ pressed s t d o ∧ keeps s t [.ports, .svcs, .regs, .log, .store]) ∧
    ((s.svc d).svc ≠ 0 → ∃ t, exec (.svcCancel d o 2) s = .next t ∧ cancelled s t d o ∧ keeps s t [.ports, .svcs, .regs, .log, .store])) ∧
  (∀ (p : Fin 16) (s : State),
    let x := s.port p
    x.quiescing = true → s.portDie p = true → x.state = .live →
    (s.portIdle p = false → exec (.quiesceDrainEnd p) s = .next s) ∧
    (s.portIdle p = true → ∃ t, exec (.quiesceDrainEnd p) s = .next t ∧ (t.port p).state = .down ∧ (t.port p).quiesced = true ∧
      (t.port p).quiescing = false ∧ (t.port p).txOpen = false ∧ (t.port p).session = x.session ∧
      (t.port p).cause = (if s.portEnabled p then 3 else 1) ∧ otherPorts s t p ∧
      ((s.svc (p / 8)).svc = 1 → (∀ q ∈ svcPorts (p / 8), q ≠ p → (s.port q).quiesced = true) → (t.svc (p / 8)).svc = 2) ∧
      keeps s t [.ports, .svcs, .fab, .regs, .outbox, .log, .store]))

/-- The route of a destination leads to port `out` alone: a SINGLE entry with one primary port, which is up (R420, R421). -/
abbrev Sys2Proof.onlyPort (s : State) (dst out : Nat) : Prop :=
  s.idValid = true ∧ out < 16 ∧ (s.route (s.routeKey dst)).valid = true ∧ (s.route (s.routeKey dst)).primary = 2 ^ out ∧
    (s.route (s.routeKey dst)).mode = 0 ∧ s.portUp out = true

/-- A request for this device arrived whose answers leave by port `out`. -/
abbrev Sys2Proof.comesIn (s : State) (port : Fin 16) (type : Nat) (p : Packet) (out : Nat) : Prop :=
  s.portIn port = true ∧ p.type = type ∧ Packet.formOk p = true ∧ p.dst = s.devId ∧ onlyPort s p.src out

/-- An answer of a die has a Bed path to the span die of its port (R41, R350). -/
abbrev Sys2Proof.way (s : State) (die out : Nat) : Prop := s.diePath die (dieS (out / 8)) = true

/-- No incomplete asynchronous operation writes a range of a tiled region, or its trailers. -/
abbrev Sys2Proof.calmTile (s : State) (da n : Nat) : Prop := ∀ a ∈ rangeAcc s.trg da n true, s.calm a.1 a.2.1 = true

/-- No incomplete asynchronous operation touches a range of a tiled region, or its trailers. -/
abbrev Sys2Proof.stillTile (s : State) (da n : Nat) : Prop := ∀ a ∈ rangeAcc s.trg da n true, s.still a.1 a.2.1 = true

/-- The answer to a request (R427, R428): it carries the request's tag, its status, the duplicate flag and its data. -/
def Sys2Proof.replyTo (s : State) (out die : Nat) (p : Packet) (st dup : Nat) (payload : List Byte) : TxWait :=
  TxWait.mk out (vcOf (answerType p.type) (s.firstClass out))
    { Packet.zero with dst := p.src, type := answerType p.type, src := s.devId, srcDie := die, trk := p.trk, tag := p.tag, gen := p.gen,
                       status := st, flags := dup * 2, mod := if p.type = 6 then p.mod + 128 else 0, payload := payload } none

/-- The fabric differs in nothing but one answer that joined the waiting packets. -/
def Sys2Proof.replied (s t : State) (out die : Nat) (p : Packet) (st : Nat) (payload : List Byte) : Prop :=
  t.fab = { s.fab with waiting := s.fab.waiting ++ [replyTo s out die p st 0 payload] }

/-- R102, R182, R232, R428, R443, R444. -/
def Obligations.FabricRequestResults : Prop :=
  (∀ (port : Fin 16) (p : Packet) (out st : Nat) (s : State), comesIn s port 1 p out → p.flags % 2 = 0 → way s (ownerDie st) out →
    let n := 32 * (p.mod % 16 + 1)
    let v := s.viewNow .clear
    (p.mod / 64 % 2 = 0 → s.reqStore port p.addr n = .ok st → p.addr % 32 = 0 → s.poisonRange p.addr n = false → s.calm p.addr n = true →
      (regionIn s.trg p.addr n = none → ∃ t, exec (.read port p .clear) s = .next t ∧ replied s t out (ownerDie st) p 0 (s.readMem p.addr n) ∧
        keeps s t [.fab]) ∧
      (∀ r, regionIn s.trg p.addr n = some r → (s.tiledPiece v r p.addr n).2 = [] → ∃ t, exec (.read port p .clear) s = .next t ∧
        replied s t out (ownerDie st) p 0 (s.tiledPiece v r p.addr n).1 ∧ keeps s t [.fab])) ∧
    (p.mod / 64 % 2 = 0 → s.reqStore port p.addr n = .ok st → p.addr % 32 ≠ 0 →
      ∃ t, exec (.read port p .clear) s = .next t ∧ replied s t out (ownerDie st) p 11 (zeros n) ∧ keeps s t [.fab]) ∧
    (∀ e, p.mod / 64 % 2 = 0 → s.reqStore port p.addr n = .error e → way s (dieS (port / 8)) out →
      ∃ t, exec (.read port p .clear) s = .next t ∧ replied s t out (dieS (port / 8)) p e (zeros n) ∧ keeps s t [.fab]) ∧
    (∀ r, p.mod / 64 % 2 = 1 → s.reqStore port p.addr 1 = .ok st → regionIn s.trg p.addr 1 = some r → (p.addr - r.base) % r.slot = 0 →
      let x := s.readTile v r p.addr
      x.ok = true → calmTile s p.addr x.bytes.length → ∃ t, exec (.read port p .clear) s = .next t ∧
        replied s t out (ownerDie st) p 0 (padTo 32 x.trl.toBytes) ∧ keeps s t [.fab])) ∧
  (∀ (port : Fin 16) (p : Packet) (out st : Nat) (s : State), comesIn s port 2 p out → p.flags % 2 = 0 → way s (ownerDie st) out →
    let n := p.payload.length
    (p.flags / 4 % 2 = 0 → s.reqStore port p.addr n = .ok st → p.addr % 32 = 0 → touchesTiled s.trg p.addr n = false →
      s.touchesKv p.addr n = false →
      (s.plcOk p.workUnit p.epoch = true → s.still p.addr n = true → ∃ t, exec (.write port p .clear) s = .next t ∧ t.readMem p.addr n = p.payload ∧
        (∀ a, a < p.addr ∨ p.addr + n ≤ a → t.byte a = s.byte a) ∧ replied s t out (ownerDie st) p 0 [] ∧ keeps s t [.mem, .fab]) ∧
      (s.plcOk p.workUnit p.epoch = false → ∃ t, exec (.write port p .clear) s = .next t ∧ t.regs = s.discard.regs ∧
        replied s t out (ownerDie st) p 2 [] ∧ keeps s t [.regs, .fab])) ∧
    (p.flags / 4 % 2 = 0 → s.reqStore port p.addr n = .ok st → touchesTiled s.trg p.addr n = true → regionIn s.trg p.addr n = none →
      ∃ t, exec (.write port p .clear) s = .next t ∧ replied s t out (ownerDie st) p 11 [] ∧ keeps s t [.fab]) ∧
    (∀ r, p.flags / 4 % 2 = 0 → s.reqStore port p.addr 32 = .ok st → n = 32 → p.addr % 32 = 0 → regionIn s.trg p.addr 32 = some r →
      touchesTrailer s.trg p.addr 32 = false → s.touchesKv p.addr 32 = false → s.plcOk p.workUnit p.epoch = true → calmTile s p.addr 32 →
      let slot := r.base + (p.addr - r.base) / max r.slot 1 * r.slot
      p.addr - slot < tileBytes r.sealFmt → 32 < tileBytes r.sealFmt → (∀ x ∈ s.fab.tiles, x.sealed = false) →
      let kept : TileIn := TileIn.mk p.src p.srcDie slot false true [((p.addr - slot) / 32, p.payload)]
      ∃ t, exec (.write port p .clear) s = .next t ∧ t.fab.tiles = s.fab.tiles ++ [kept] ∧ t.fab.waiting = s.fab.waiting ++ [replyTo s out (ownerDie st) p 0 0 []] ∧
        keeps s t [.fab]) ∧
    (p.flags / 4 % 2 = 1 → s.reqStore port p.addr 1 = .ok st → s.plcOk p.workUnit p.epoch = true → p.mod / 64 % 2 = 0 →
      ∃ t, exec (.write port p .clear) s = .next t ∧ t.fab.waiting = s.fab.waiting ++ [replyTo s out (ownerDie st) p 0 0 []] ∧
        (∃ x ∈ t.fab.tiles, x.src = p.src ∧ x.srcDie = p.srcDie ∧ x.addr = p.addr ∧ (p.mod % 64, p.payload) ∈ x.pieces) ∧ keeps s t [.fab]) ∧
    (∀ r, p.flags / 4 % 2 = 1 → s.reqStore port p.addr 1 = .ok st → s.plcOk p.workUnit p.epoch = true → p.mod / 64 % 2 = 1 →
      regionIn s.trg p.addr 1 = some r → (p.addr - r.base) % r.slot = 0 →
      let tr := pktTrailer p
      let k := tileSize tr.fmt r.sealFmt
      let b := padTo k (s.tileTake p false).2
      k ≤ r.slot → s.touchesKv p.addr k = false → (crc32c b).toNat = tr.crc → tr.valid = true → tr.poison = false →
      rangesMeet p.addr k (r.trailerDA p.addr) 8 = false → k ≠ 0 → s.still p.addr k = true → s.still (r.trailerDA p.addr) 8 = true →
      calmTile s p.addr k →
      ∃ t, exec (.write port p .clear) s = .next t ∧ t.readMem p.addr k = b ∧ t.readMem (r.trailerDA p.addr) 8 = tr.toBytes ∧
        (∀ a, a < p.addr ∨ p.addr + k ≤ a → a < r.trailerDA p.addr ∨ r.trailerDA p.addr + 8 ≤ a → t.byte a = s.byte a) ∧
        t.fab.waiting = s.fab.waiting ++ [replyTo s out (ownerDie st) p 0 0 []] ∧ keeps s t [.mem, .fab])) ∧
  (∀ (port : Fin 16) (p : Packet) (out st : Nat) (s : State), comesIn s port 3 p out → p.flags % 2 = 0 →
    way s (ownerDie st) out → s.reqStore port p.addr 8 = .ok st → s.atomicOk p.addr = true → s.poisonRange p.addr 8 = false → s.still p.addr 8 = true →
    let old := ofBytesLE (s.readMem p.addr 8)
    let a := bfld p.payload 0 8
    let new := if p.mod = 1 then (if old = a then bfld p.payload 8 8 else old) else (old + a) % 2 ^ 64
    (s.plcOk p.workUnit p.epoch = true → ∃ t, exec (.atomic port p .clear) s = .next t ∧ t.readMem p.addr 8 = toBytesLE 8 new ∧
      (∀ x, x < p.addr ∨ p.addr + 8 ≤ x → t.byte x = s.byte x) ∧ replied s t out (ownerDie st) p 0 (padTo 32 (toBytesLE 8 old)) ∧
      keeps s t [.mem, .fab]) ∧
    (s.plcOk p.workUnit p.epoch = false → ∃ t, exec (.atomic port p .clear) s = .next t ∧ t.regs = s.discard.regs ∧
      replied s t out (ownerDie st) p 2 (zeros 32) ∧ keeps s t [.regs, .fab])) ∧
  (∀ (port : Fin 16) (p : Packet) (out st : Nat) (s : State), comesIn s port 4 p out → p.flags % 2 = 0 → p.flags / 4 % 2 = 0 →
    let n := p.payload.length
    way s (ownerDie st) out → s.reqStore port p.addr n = .ok st → p.mod / 128 % 2 = 0 → p.addr % 32 = 0 → n % 32 = 0 →
    (16 ≤ st → ∃ t, exec (.foldPacket port p) s = .next t ∧ replied s t out (ownerDie st) p 11 [] ∧ keeps s t [.fab]) ∧
    (st < 16 → touchesTiled s.trg p.addr n = false → s.touchesKv p.addr n = false → s.mem.bad = [] → s.plcOk p.workUnit p.epoch = true → s.still p.addr n = true →
      ∃ t, exec (.foldPacket port p) s = .next t ∧ t.readMem p.addr n = foldInts (s.readMem p.addr n) p.payload ∧
        (∀ a, a < p.addr ∨ p.addr + n ≤ a → t.byte a = s.byte a) ∧ replied s t out (ownerDie st) p 0 [] ∧
        t.reg (Reg.Wn_FOLD_TILES st) = satAdd (s.reg (Reg.Wn_FOLD_TILES st)) ((n + 8191) / 8192) ∧ keeps s t [.mem, .fab, .regs])) ∧
  (∀ (port : Fin 16) (p : Packet) (out : Nat) (s : State), comesIn s port 5 p out → p.flags % 2 = 0 →
    let r := bfld p.payload 0 4
    let i := bfld p.payload 4 2 % 4096
    let inc := bfld p.payload 6 2
    let units := bfld p.payload 8 4
    (s.reachHere r = false → way s (dieS (port / 8)) out → ∃ t, exec (.tokenSignal port p) s = .next t ∧ replied s t out (dieS (port / 8)) p 11 [] ∧ keeps s t [.fab]) ∧
    (s.reachHere r = true → s.diePath (dieS (port / 8)) (ridDie r) = false → way s (dieS (port / 8)) out → ∃ t, exec (.tokenSignal port p) s = .next t ∧
      replied s t out (dieS (port / 8)) p 7 [] ∧ keeps s t [.fab]) ∧
    (s.reachHere r = true → ridLevel r < 4 → s.diePath (dieS (port / 8)) (ridDie r) = true → way s (ridDie r) out →
      s.plcOk p.workUnit p.epoch = true →
      (p.mod = 0 → (s.tok r i).toNat + inc ≤ 0xFFFFFFFF → ∃ t, exec (.tokenSignal port p) s = .next t ∧
        t.reach r = { s.reach r with tokens := tset 0 (s.reach r).tokens i (satAdd (s.tok r i) inc) } ∧
        (∀ q, q ≠ r → t.reach q = s.reach q) ∧ replied s t out (ridDie r) p 0 [] ∧ keeps s t [.reaches, .fab]) ∧
      (p.mod = 1 →
        let full := BitVec.ofNat 32 (min ((s.pool r (i % 64)).toNat + units) (s.poolCap r (i % 64)).toNat)
        ∃ t, exec (.tokenSignal port p) s = .next t ∧ t.reach r = { s.reach r with poolCnt := tset 0 (s.reach r).poolCnt (i % 64) full } ∧
        (∀ q, q ≠ r → t.reach q = s.reach q) ∧ replied s t out (ridDie r) p 0 [] ∧ keeps s t [.reaches, .fab]))) ∧
  (∀ (port : Fin 16) (p : Packet) (out st : Nat) (s : State), comesIn s port 2 p out → p.flags % 8 = 1 →
    let n := p.payload.length
    let d := flowOwner p
    let live := (s.span d).flows.filter fun f => decide (s.ticks < f.last + 32768)
    let mine := live.find? fun f => f.src == p.src && f.die == p.srcDie
    (mine = none → live.length < 2048 → s.reqStore port p.addr n = .ok st → p.addr % 32 = 0 → touchesTiled s.trg p.addr n = false →
      s.touchesKv p.addr n = false → s.plcOk p.workUnit p.epoch = true → s.still p.addr n = true → way s (ownerDie st) out →
      ∃ t, exec (.write port p .clear) s = .next t ∧ t.readMem p.addr n = p.payload ∧ t.fab.waiting = s.fab.waiting ++ [replyTo s out (ownerDie st) p 0 0 []] ∧
        (t.span d).flows = live ++ [{ src := p.src, die := p.srcDie, high := p.flowSeq, seen := [p.flowSeq], last := s.ticks }] ∧
        keeps s t [.mem, .fab]) ∧
    (∀ f, mine = some f → p.flowSeq ∈ f.seen → (p.flowSeq + 2 ^ 32 - f.high) % 2 ^ 32 = 0 ∨ 2 ^ 31 ≤ (p.flowSeq + 2 ^ 32 - f.high) % 2 ^ 32 →
      way s (dieS d) out → ∃ t, exec (.write port p .clear) s = .next t ∧ t.fab.waiting = s.fab.waiting ++ [replyTo s out (dieS d) p 0 1 []] ∧
        t.regs = (s.bump (Reg.Sd_FAB_DUPS d)).regs ∧ keeps s t [.regs, .fab]) ∧
    (mine = none → 2048 ≤ live.length → way s (dieS d) out → ∃ t, exec (.write port p .clear) s = .next t ∧ replied s t out (dieS d) p 7 [] ∧
      t.regs = (s.bump (Reg.Sd_FAB_DEDUPE_FULL d)).regs ∧ keeps s t [.regs, .fab]))

/-- A response of a type is for this device's tracker entry `e`, which holds request `req` and no twin (R436). -/
abbrev Sys2Proof.answersTo (s : State) (port : Fin 16) (type : Nat) (p req : Packet) (e : TEnt) : Prop :=
  s.portIn port = true ∧ p.type = type ∧ Packet.formOk p = true ∧ s.idValid = true ∧ p.dst = s.devId ∧ p.flags / 2 % 2 = 0 ∧ p.flags / 8 % 2 = 0 ∧
    e = s.trk (p.trk % 2) p.tag ∧ e.use = .busy ∧ e.pkt = some req ∧ e.gen = p.gen ∧ e.twin = none ∧ req.flags % 2 = 0 ∧
    ∀ m ∈ s.moves, m.todo = []

/-- R417, R420, R424, R433, R436 to R441. -/
def Obligations.FabricResponseResults : Prop :=
  (∀ (port : Fin 16) (p req : Packet) (e : TEnt) (s : State),
    let d := p.trk % 2
    (∀ id m, answersTo s port 0x81 p req e → e.owner = .move id → s.move id = some m → req.type = 1 → req.mod / 64 % 2 = 0 → p.status = 0 →
      s.plcOk m.workUnit m.epoch = true →
      let dst := gaDA m.dst + (req.addr - gaDA m.src)
      let n := (req.mod % 16 + 1) * 32
      s.clash = [] → ({ s with moves := s.moves.filter (·.id ≠ id) } : State).still dst n = true →
      ∃ t, exec (.readData port p .clear) s = .next t ∧ t.readMem dst n = padTo n p.payload ∧ (∀ a, a < dst ∨ dst + n ≤ a → t.byte a = s.byte a) ∧
        t.move id = some { m with left := m.left - 1, status := mergeStatus m.status 0 } ∧ t.trk d p.tag = e.release true ∧
        keeps s t [.mem, .moves, .fab]) ∧
    (∀ id m, answersTo s port 0x82 p req e → e.owner = .move id → s.move id = some m → req.type ≠ 1 → ∃ t, exec (.writeAck port p) s = .next t ∧
      t.move id = some { m with left := m.left - 1, status := mergeStatus m.status p.status } ∧ t.trk d p.tag = e.release true ∧
      keeps s t [.moves, .fab]) ∧
    (∀ ci rd op, answersTo s port 0x83 p req e → e.owner = .atomic ci → (s.cell ci).block = some (.atomic rd op) → (s.cell ci).pendTrap = none →
      p.status = 0 → ∃ t, exec (.atomicData port p) s = .next t ∧ t.trk d p.tag = e.release true ∧ keeps s t [.cells, .fab] ∧
        t.cell ci = { (s.cell ci).setS rd (BitVec.ofNat 64 (bfld p.payload 0 8)) with block := none, pc := ((s.cell ci).pc + 16) % 2 ^ 46 } ∧
        ∀ i, i ≠ ci → t.cell i = s.cell i) ∧
    (∀ q idx x, answersTo s port 0x86 p req e → e.owner = .mgmt q idx → q < 256 → (s.sq q).ent idx = some x → bfld x.bytes 0 1 = 0x44 →
      bfld x.bytes 2 2 < 32768 → (hsigAt x.bytes 44 48 50 52).valid = false → p.status = 0 →
      ∃ t, exec (.mgmtResponse port p) s = .next t ∧ t.trk d p.tag = e.release true ∧
        t.outbox = s.outbox ++ (if p.payload = [] then [] else [.hostWrite (bfld x.bytes 24 8) p.payload]) ∧
        (t.sq q).ents = (s.sq q).ents.filter (·.idx ≠ idx) ∧ (t.cq (s.sq q).cq).wait = (s.cq (s.sq q).cq).wait ++
          [{ status := 0, type := 0x44, sq := q, idx, result := bfld p.payload 0 8, aux := p.payload.length,
             noIrq := bfld x.bytes 1 1 / 2 % 2 == 1 }] ∧ keeps s t [.outbox, .hq, .fab]) ∧
    (s.portIn port = true → Packet.formOk p = true → s.idValid = true → p.dst = s.devId → p.flags / 8 % 2 = 0 →
      (s.trk d p.tag).use ≠ .busy ∨ ((s.trk d p.tag).pkt.isSome = true ∧ (s.trk d p.tag).gen ≠ p.gen) →
      let late : Host.Outcome State Fault Refusal := .next (s.bump (Reg.Sd_FAB_LATE_RSP d))
      (p.type = 0x81 → ∀ pe, exec (.readData port p pe) s = late) ∧ (p.type = 0x82 → exec (.writeAck port p) s = late) ∧
      (p.type = 0x83 → exec (.atomicData port p) s = late) ∧ (p.type = 0x86 → exec (.mgmtResponse port p) s = late))) ∧
  (∀ (d : Fin 2) (i : Nat) (req : Packet) (s : State),
    let e := s.trk d i
    s.dieUp (dieS d) = true → e.use = .busy → e.pkt = some req → e.twin = none → req.flags % 2 = 0 → (∀ m ∈ s.moves, m.todo = []) →
    (req.type ≠ 1 → e.owner = .other → ∃ t, exec (.trackerTimeout d i) s = .next t ∧ t.trk d i = e.release false ∧
      t.regs = (s.bump (Reg.Sd_FAB_UNKNOWN d)).regs ∧ keeps s t [.fab, .regs]) ∧
    (∀ id m, req.type ≠ 1 → e.owner = .move id → s.move id = some m → ∃ t, exec (.trackerTimeout d i) s = .next t ∧ t.trk d i = e.release false ∧
      t.move id = some { m with left := m.left - 1, status := mergeStatus m.status 8 } ∧ keeps s t [.fab, .regs, .moves]) ∧
    (req.type = 1 → e.owner = .other → 2 ≤ e.reissues ∨ s.reissuePort req e.port = none → ∃ t, exec (.trackerTimeout d i) s = .next t ∧
      t.trk d i = e.release false ∧ keeps s t [.fab]) ∧
    (∀ p, req.type = 1 → e.reissues < 2 → s.reissuePort req e.port = some p → p / 8 ≠ d → (s.span (p / 8)).inUse < 1048576 →
      ∃ t j gen, exec (.trackerTimeout d i) s = .next t ∧ t.trk d i = e.release false ∧
        (let again := { req with trk := p / 8, tag := j, gen := gen }
         t.fab.waiting = s.fab.waiting ++ [TxWait.mk p (vcOf 1 (s.firstClass p)) again (some (p / 8 * 1048576 + j))] ∧
         (t.trk (p / 8) j).use = .busy ∧ (t.trk (p / 8) j).pkt = some again ∧ (t.trk (p / 8) j).owner = e.owner ∧
         (t.trk (p / 8) j).reissues = e.reissues + 1) ∧
        t.regs = (s.bump (Reg.Sd_FAB_REISSUES d)).regs ∧ keeps s t [.fab, .regs])) ∧
  (∀ (d : Fin 2) (i die dev : Nat) (f : FlowOut) (s : State), (∀ m ∈ s.moves, m.todo = []) →
    ((s.trk d i).use = .quarantined → exec (.quarantineExpiry d i) s = .next (s.setTrk d i { s.trk d i with use := .free })) ∧
    ((s.trk d i).use ≠ .quarantined → exec (.quarantineExpiry d i) s = .next s) ∧
    (tget none s.fab.flowOut (flowKey die dev) = some f → f.out = 0 → ∃ t, exec (.flowExpiry die dev) s = .next t ∧
      tget none t.fab.flowOut (flowKey die dev) = none ∧ keeps s t [.fab]) ∧
    (tget none s.fab.flowOut (flowKey die dev) = some f → f.out ≠ 0 → exec (.flowExpiry die dev) s = .next s)) ∧
  (∀ (port : Fin 16) (vc out : Nat) (p : Packet) (s : State), s.portIn port = true → pathRouted p = false → p.type ≠ 7 → s.idValid = true →
    p.dst ≠ s.devId → Packet.formOk p = true →
    let r := s.route (s.routeKey p.dst)
    let c := if vc = 2 ∨ vc = 4 then 1 else 0
    (p.hops < 62 → r.valid = true → r.primary = 2 ^ out → out < 16 → s.portUp out = true → exec (.packetForward port vc p) s =
      .next (s.txWait out (vcOf p.type (s.nextClass port out c)) { p with hops := p.hops + 1 } none)) ∧
    (62 ≤ p.hops → exec (.packetForward port vc p) s = .next (s.bump (Reg.Sd_FAB_HOPS (port / 8)))) ∧
    (p.hops < 62 → r.valid = false → exec (.packetForward port vc p) s = .next (s.bump (Reg.Sd_FAB_NOROUTE (port / 8))))) ∧
  (∀ (port : Fin 16) (p : Packet) (s : State), s.portIn port = true → p.type = 6 ∨ p.type = 0x86 → pathRouted p = true → pathIdx p < pathLen p →
    Packet.formOk p = true → pathOk p = true →
    let out := pathPort p (pathIdx p)
    (s.portUp out = true → p.hops < 62 → exec (.mgmtForward port p) s = .next (s.txWait out 0 { p with
      hops := p.hops + 1, payload := bput (setPathPort p.payload (pathIdx p) port) 0 1 (pathIdx p + 1) } none)) ∧
    (s.portUp out = false → exec (.mgmtForward port p) s = .next (s.bump (Reg.Sd_FAB_NOROUTE (port / 8)))))

/-- R433 to R435. -/
def Obligations.ManagementResults : Prop :=
  ∀ (port : Fin 16) (p : Packet) (out : Nat) (s : State), comesIn s port 6 p out → pathRouted p = false → way s dieK out → s.dieUp dieK = true →
    let b := p.payload
    (p.mod = 1 → bfld b 0 4 < 0x4000000 →
      let rd := s.readReg (bfld b 0 4) 32
      ∃ t, exec (.regRead port p) s = .next t ∧ replied s t out dieK p 0 (padTo 32 (toBytesLE 4 rd.2.toNat)) ∧ t.regs = rd.1.regs ∧
        keeps s t [.regs, .fab, .freeIdx]) ∧
    (p.mod = 2 → s.mgmtAccepts p = false → ∃ t, exec (.regWrite port p) s = .next t ∧ replied s t out dieK p 11 [] ∧ keeps s t [.fab]) ∧
    (p.mod = 2 → s.mgmtAccepts p = true → writable s (bfld b 0 4) → bfld b 0 4 ∈ [Reg.KEY_RCH_SEL, Reg.KEY_PLC_SEL, Reg.NRG_LEDGER_SEL] →
      ∃ t u, exec (.regWrite port p) s = .next t ∧ exec (.registerWrite .fabric (bfld b 0 4) 32 (BitVec.ofNat 32 (bfld b 4 4)) 0) s = .next u ∧
        t.regs = u.regs ∧ replied s t out dieK p 0 [] ∧ keeps s t [.regs, .fab]) ∧
    (p.mod = 3 →
      (s.arrive .mgmt (padTo 64 b) = none → exec (.reachCmd port p) s = .next s) ∧
      (∀ u, s.arrive .mgmt (padTo 64 b) = some u → onlyPort u p.src out → way u dieK out → ∃ t, exec (.reachCmd port p) s = .next t ∧
        replied u t out dieK p (s.cmdCheck (padTo 64 b)) [] ∧ keeps u t [.fab])) ∧
    (p.mod = 4 →
      (bfld b 0 1 < 2 → allZero ((padTo 32 b).drop 1) = true → ∃ t, exec (.query port p) s = .next t ∧ keeps s t [.fab] ∧
        replied s t out dieK p 0 ((List.range 8).flatMap fun i => s.queryRec (8 * bfld b 0 1 + i))) ∧
      (2 ≤ bfld b 0 1 → ∃ t, exec (.query port p) s = .next t ∧ replied s t out dieK p 10 [] ∧ keeps s t [.fab])) ∧
    (p.mod = 5 →
      let v : Word := BitVec.ofNat 32 (bfld b 0 4)
      (s.mgmtAccepts p = false → ∃ t, exec (.assign port p) s = .next t ∧ replied s t out dieK p 11 [] ∧ keeps s t [.fab]) ∧
      (s.mgmtAccepts p = true → s.idFree v = false → ∃ t, exec (.assign port p) s = .next t ∧ replied s t out dieK p 10 [] ∧ keeps s t [.fab]) ∧
      (s.mgmtAccepts p = true → s.idFree v = true → quietLog s → v &&& 0x7FFC0000 = 0 → onlyPort (s.wDevId .fabric p.src v) p.src out → way (s.wDevId .fabric p.src v) dieK out →
        ∃ t, exec (.assign port p) s = .next t ∧ t.reg Reg.KEY_DEV_ID = v ∧ s.log.next < t.log.next ∧
          (∃ w, t.fab.waiting = s.fab.waiting ++ [w] ∧ w.pkt.status = 0 ∧ w.pkt.type = 0x86 ∧ w.pkt.dst = p.src ∧ w.port = out) ∧ t.mem = s.mem))

/-- R430 to R432, R446 to R449, R451. -/
def Obligations.DiscoveryAndTakeoverResults : Prop :=
  (∀ (port : Fin 16) (m : HelloMsg) (s : State), s.portLive port = true →
    let h := s.hello port
    (∀ o, h.taken = some o → (m.seq + 2 ^ 32 - o.seq) % 2 ^ 32 = 0 ∨ 2 ^ 31 ≤ (m.seq + 2 ^ 32 - o.seq) % 2 ^ 32 →
      exec (.hello port m) s = .next s) ∧
    (h.taken = none → ∃ t, exec (.hello port m) s = .next t ∧ t.hello port = { h with taken := some m } ∧
      (∀ q, q ≠ port.val → t.hello q = s.hello q) ∧ t.fab.routes = s.fab.routes ∧ t.fab.waiting = s.fab.waiting ∧
      ((∀ q, q < 16 → (s.hello q).taken = none) → s.rf Reg.KEY_FAB_CTL 0 2 = 0 → allZero m.mgrDigest = false → m.distance + 1 < 63 →
        t.fab.mgrDigest = m.mgrDigest ∧ t.fab.mgrDist = m.distance + 1 ∧ t.fab.mgrPort = some port.val ∧ t.fab.mgrHost = m.mgrHost ∧
        t.fab.mgrSeq = m.mgrSeq) ∧ keeps s t [.fab, .log, .store, .regs]) ∧
    (∃ t, exec (.helloSend port) s = .next t ∧ keeps s t [.fab] ∧
      (let self : Bool := decide (s.fab.mgrDigest ≠ []) && s.fab.mgrPort.isNone
       let seq := if self then (s.fab.ownMgrSeq + 1) % 2 ^ 32 else s.fab.mgrSeq
       let n := (h.seq + 1) % 2 ^ 32
       let k : HelloMsg := { digest := s.ownDigest, mgrDigest := s.fab.mgrDigest, port := port.val, idValid := s.idValid, mgrHost := s.fab.mgrHost,
                             candidate := s.rb Reg.KEY_FAB_CTL 0, devId := if s.idValid then s.devId else 0, distance := s.fab.mgrDist,
                             seq := n, events := h.events, mgrSeq := seq }
       t.fab.waiting = s.fab.waiting ++ [TxWait.mk port 0 { Packet.zero with type := 7, payload := helloBytes k } none] ∧
       t.hello port = { h with seq := n } ∧ t.fab.mgrSeq = seq ∧ t.fab.ownMgrSeq = (if self then seq else s.fab.ownMgrSeq)))) ∧
  (∀ s : State, (s.fab.mgrPort = none → exec .managerTimeout s = .next s) ∧
    (s.fab.mgrPort.isSome = true →
      (∀ kv ∈ s.fab.hello, ∀ m, kv.2.taken = some m → m.mgrDigest = s.fab.mgrDigest ∧ m.mgrHost = s.fab.mgrHost) →
      ∃ t, exec .managerTimeout s = .next t ∧ t.fab.routes = s.fab.routes ∧ keeps s t [.fab, .log, .store, .regs] ∧
        (s.rf Reg.KEY_FAB_CTL 0 2 = 0 → t.fab.mgrDigest = [] ∧ t.fab.mgrPort = none ∧ t.fab.mgrDist = 63) ∧
        (s.rb Reg.KEY_FAB_CTL 1 = true → t.fab.mgrDigest = s.ownDigest ∧ t.fab.mgrPort = none ∧ t.fab.mgrDist = 0 ∧ t.fab.mgrHost = true))) ∧
  (∀ (d : Fin 2) (pier role mask changes : Nat) (s : State), s.dieUp (dieS d) = true → pier < 2 →
    let alive := (s.setRb (Reg.Sd_PIER_STATUS d) pier true).setRb (Reg.Sd_PIER_STATUS d) 4 false
    (s.role d = 0 → exec (.heartbeat d pier role mask changes) s = .next alive) ∧
    (d = 1 → s.role 1 = 1 → role = 1 → ∃ t, exec (.heartbeat d pier role mask changes) s = .next t ∧ t.role 1 = 1 ∧ (t.span 1).stopped = true ∧
      (t.span 1).trk = (s.span 1).trk ∧ t.regs = alive.regs ∧ keeps s t [.fab, .regs]) ∧
    ((d = 0 ∧ s.role 0 ≠ 0) ∨ (d = 1 ∧ s.role 1 = 2) → ∃ t, exec (.heartbeat d pier role mask changes) s = .next t ∧ t.role d = 0 ∧
      t.presumes d = false ∧ (t.span d).stopped = false ∧ t.fab.routes = s.fab.routes ∧ keeps s t [.fab, .regs])) ∧
  (∀ (d : Fin 2) (pier : Nat) (s : State), s.dieUp (dieS d) = true → pier < 2 →
    let silent := s.setRb (Reg.Sd_PIER_STATUS d) pier false
    let entered := fun (t : State) => t.role d = 1 ∧ (t.span d).taking = true ∧ (t.span d).stopped = false ∧
      t.reg (Reg.Sd_FAB_TAKEOVERS d) = satAdd (s.reg (Reg.Sd_FAB_TAKEOVERS d)) 1 ∧ t.outbox = s.outbox ++ [.sideband dieK d] ∧
      t.fab.routes = s.fab.routes ∧ keeps s t [.fab, .regs, .outbox, .log, .store]
    (silent.rf (Reg.Sd_PIER_STATUS d) 0 2 ≠ 0 → exec (.pierSilent d pier) s = .next silent) ∧
    (silent.rf (Reg.Sd_PIER_STATUS d) 0 2 = 0 → s.presumes d = false → s.role d = 0 → d = 0 ∨ s.rb (Reg.Sd_PIER_STATUS 1) 5 = true →
      ∃ t, exec (.pierSilent d pier) s = .next t ∧ t.presumes d = true ∧ entered t) ∧
    (silent.rf (Reg.Sd_PIER_STATUS d) 0 2 = 0 → s.presumes d = false → d = 1 → s.rb (Reg.Sd_PIER_STATUS 1) 5 = false →
      exec (.pierSilent d pier) s = .next (silent.setRb (Reg.Sd_PIER_STATUS d) 4 true)) ∧
    (d = 1 → s.presumes 1 = true → s.role 1 = 0 → ∃ t, exec (.keystoneSidebandHeartbeat d) s = .next t ∧
      t.rb (Reg.Sd_PIER_STATUS 1) 5 = true ∧ entered t) ∧
    (d = 0 ∨ s.presumes 1 = false → exec (.keystoneSidebandHeartbeat d) s = .next (s.setRb (Reg.Sd_PIER_STATUS d) 5 true)) ∧
    (d = 1 → s.role 1 = 1 → ∃ t, exec (.kSidebandSilent d) s = .next t ∧ t.role 1 = 0 ∧ t.rb (Reg.Sd_PIER_STATUS 1) 5 = false ∧
      keeps s t [.fab, .regs]) ∧
    (d = 0 ∨ s.role 1 ≠ 1 → exec (.kSidebandSilent d) s = .next (s.setRb (Reg.Sd_PIER_STATUS d) 5 false)) ∧
    (∃ t, exec (.heartbeatSend d) s = .next t ∧ (t.span d).hbCount = (s.span d).hbCount + 1 ∧ keeps s t [.fab, .outbox] ∧
      t.outbox = s.outbox ++ [.heartbeat d (s.role d) (((List.range 8).map fun i => if s.portUp (8 * d + i) then 2 ^ (8 * d + i) else 0).foldl (· + ·) 0)
        s.fab.mapChanges])) ∧
  (∀ (d : Fin 2) (s : State), twf .none s.fab.routes = true →
    (s.dieUp (dieS d) = true → s.role d = 1 → (s.span d).taking = true → (∀ kv ∈ (s.span (1 - d)).trk, kv.2.use ≠ .busy) →
      ∃ t, exec (.takeoverComplete d) s = .next t ∧ (t.span d).taking = false ∧ keeps s t [.fab] ∧ (∀ k, t.route k =
        if (s.route k).mode = 1 ∧ (s.route k).armed then { s.route k with active := (s.route k).altOn d, armed := false } else s.route k)) ∧
    (s.dieUp (dieS 1) = true → s.role 1 = 1 → (s.span 1).stopped = true → ∃ t, exec .yieldComplete s = .next t ∧ t.role 1 = 2 ∧
      keeps s t [.fab, .regs] ∧ (∀ k, t.route k =
        if (s.route k).mode = 1 then { s.route k with active := (s.route k).altOn 0, armed := false } else s.route k)) ∧
    ((∀ e, e < 2 → s.dieUp (dieS e) = true ∧ s.role e = 0 ∧ s.rf (Reg.Sd_PIER_STATUS e) 0 2 ≠ 0) → ∃ t, exec .resyncRearm s = .next t ∧
      keeps s t [.fab] ∧ (∀ k, t.route k =
        if (s.route k).mode = 1 ∧ (s.route k).resync then { s.route k with armed := true } else s.route k)) ∧
    (s.dieUp dieK = true → s.role d = 1 →
      (s.fab.reports = [] → exec (.takeoverReport d) s = .next { s with fab := { s.fab with reports := [d.val] } }) ∧
      (s.fab.reports = [(1 - d).val] → exec (.takeoverReport d) s =
        .next (({ s with fab := { s.fab with reports := [(1 - d).val, d.val], forceSends := 1 } }).emit (.sideband (dieS 1) 0)))) ∧
    (s.fab.forceSends = 1 ∨ s.fab.forceSends = 2 → exec .forceStandbyRepeat s =
      .next (({ s with fab := { s.fab with forceSends := s.fab.forceSends + 1 } }).emit (.sideband (dieS 1) 0))) ∧
    (3 ≤ s.fab.forceSends → exec .forceStandbyRepeat s = .next s) ∧
    (s.dieUp (dieS 1) = true → s.role 1 = 1 → ∃ t, exec .forceStandby s = .next t ∧ (t.span 1).stopped = true ∧ t.fab.forceSends = 0 ∧
      t.fab.routes = s.fab.routes ∧ keeps s t [.fab]))

/-- R417 to R419, R450, R452. -/
def Obligations.RouteResults : Prop :=
  (∀ (o : Origin) (v : Word) (s : State), s.blockAnswers Reg.KEY_RT_SEL = true → v.toNat < 2048 →
    let r := s.route (rtKey v)
    ∃ t, exec (.routeSelect o v) s = .next t ∧ t.reg Reg.KEY_RT_SEL = v ∧
      t.reg Reg.KEY_RT_ENTRY = BitVec.ofNat 32 (r.primary + r.alternate * 65536) ∧ t.reg Reg.KEY_RT_MODE = r.modeWord &&& 0x3F ∧
      (∀ q, q ≠ Reg.KEY_RT_SEL → q ≠ Reg.KEY_RT_ENTRY → q ≠ Reg.KEY_RT_MODE → t.reg q = s.reg q) ∧ keeps s t [.regs]) ∧
  (∀ (o : Origin) (v : Word) (s : State), writable s Reg.KEY_RT_MODE → v.toNat < 64 →
    let k := rtKey (s.reg Reg.KEY_RT_SEL)
    let prim := (s.reg Reg.KEY_RT_ENTRY).fld 0 16
    let alt := (s.reg Reg.KEY_RT_ENTRY).fld 16 16
    let err := rtCheck prim alt (v.fld 0 2) (v.fld 2 2)
    (err ≠ 0 → exec (.routeCommit o v) s = .next (s.setRf Reg.KEY_RT_STATUS 1 3 err)) ∧
    (err = 0 → ∃ t, exec (.routeCommit o v) s = .next t ∧ t.log.next = s.log.next + 1 ∧ keeps s t [.fab, .regs, .log, .store] ∧
      t.route k = { primary := prim, alternate := alt, mode := v.fld 0 2, select := v.fld 2 2, resync := v.bit 4, valid := v.bit 5,
                    active := false, armed := decide (v.fld 0 2 = 1) } ∧ ∀ j, j ≠ k → t.route j = s.route j)) ∧
  (∀ (o : Origin) (s : State), writable s Reg.KEY_FAB_CTL → s.rf Reg.KEY_FAB_CTL 3 4 = 0 →
    let k := rtKey (s.reg Reg.KEY_RT_SEL)
    let r := s.route k
    let inactive := if r.active then r.primary else r.alternate
    (r.mode = 1 → s.setReady? r.primary = true → ∃ t, exec (.switchback o) s = .next t ∧ t.route k = { r with active := false, armed := true } ∧
      (∀ j, j ≠ k → t.route j = s.route j) ∧ t.mem = s.mem) ∧
    (r.mode ≠ 1 ∨ s.setReady? r.primary = false → ∃ t, exec (.switchback o) s = .next t ∧ t.fab.routes = s.fab.routes ∧
      t.rf Reg.KEY_RT_STATUS 1 3 = 6 ∧ t.mem = s.mem) ∧
    (r.mode = 1 → s.setReady? inactive = true → ∃ t, exec (.rearm o) s = .next t ∧ t.route k = { r with armed := true } ∧
      (∀ j, j ≠ k → t.route j = s.route j) ∧ t.mem = s.mem) ∧
    (r.mode ≠ 1 ∨ s.setReady? inactive = false → ∃ t, exec (.rearm o) s = .next t ∧ t.fab.routes = s.fab.routes ∧
      t.rf Reg.KEY_RT_STATUS 1 3 = 6 ∧ t.mem = s.mem) ∧
    (twf .none s.fab.routes = true → ∃ t, exec (.switchbackAll o) s = .next t ∧ t.mem = s.mem ∧ ∀ j, t.route j =
      if (s.route j).mode = 1 ∧ s.setReady? (s.route j).primary then { s.route j with active := false, armed := true } else s.route j) ∧
    (twf .none s.fab.routes = true → ∃ t, exec (.rearmAll o) s = .next t ∧ t.mem = s.mem ∧ ∀ j, t.route j =
      if (s.route j).mode = 1 ∧ s.setReady? (if (s.route j).active then (s.route j).primary else (s.route j).alternate)
      then { s.route j with armed := true } else s.route j)) ∧
  (∀ (o : Origin) (v : Word) (s : State), writable s Reg.KEY_DEV_ID → v &&& 0x7FFC0000 = 0 →
    (s.idFree v = false → exec (.deviceIdWrite o v) s = .next s) ∧
    (s.idFree v = true → ∃ t, exec (.deviceIdWrite o v) s = .next t ∧ t.reg Reg.KEY_DEV_ID = v ∧ s.log.next < t.log.next ∧
      t.fab.routes = s.fab.routes ∧ keeps s t [.fab, .regs, .log, .store]))

/-- R467 to R469, R471, R474, R478, R479, R484, R490, R493, R494. -/
def Obligations.HostQueueResults : Prop :=
  (∀ (q width : Nat) (v : Word) (s : State), s.dieUp dieK = true → q < 256 → v.toNat < 65536 → s.pstate ≠ 2 →
    let x := s.sq q
    let c := s.cq q
    (x.on = true → v.toNat < x.size → exec (.sqDoorbell (q * 4096) 4 v) s = .next (s.setSq q { x with tail := v.toNat })) ∧
    (x.on = true → x.size ≤ v.toNat → exec (.sqDoorbell (q * 4096) 4 v) s = .next ((s.setSq q { x with error := 1 }).raiseErr 2 0x2B dieK q none 1)) ∧
    (x.on = false → exec (.sqDoorbell (q * 4096) 4 v) s = .next s) ∧
    (width ≠ 4 → exec (.sqDoorbell (q * 4096) width v) s = .next (s.bump Reg.KEY_RSVD_WRITES) ∧
      exec (.cqHeadDoorbell (q * 4096 + 4) width v) s = .next (s.bump Reg.KEY_RSVD_WRITES)) ∧
    (let z := c.size
     let ovr := z ≤ v.toNat ∨ (c.tail + z - c.head) % z < (v.toNat + z - c.head) % z
     (c.on = true → ¬ ovr → exec (.cqHeadDoorbell (q * 4096 + 4) 4 v) s = .next (s.setCq q { c with head := v.toNat })) ∧
     (c.on = true → ovr → ∃ t, exec (.cqHeadDoorbell (q * 4096 + 4) 4 v) s = .next t ∧ t.cq q = { c with error := 1 } ∧
       (∀ i ∈ s.boundTo q, (t.sq i).error = 4) ∧ t.mem = s.mem) ∧
     (c.on = false → exec (.cqHeadDoorbell (q * 4096 + 4) 4 v) s = .next s))) ∧
  (∀ (q : Nat) (b : List Byte) (s : State), s.mayFetch q = true →
    let x := s.sq q
    let ty := bfld b 0 1
    let mb := bfld b 2 2
    let fetched := s.setSq q { x with head := (x.head + 1) % x.size, ents := x.ents ++ [{ idx := x.head, bytes := b, dispatched := false, weirs := [] }] }
    exec (.sqFetch q none) s = .next ((s.setSq q { x with error := 2 }).raiseErr 2 0x2B dieK q none 2) ∧
    (b.length = 64 → s.ideOk (x.addr x.head) = true →
      (1 ≤ ty → ty ≤ 8 → exec (.sqFetch q (some b)) s = .next fetched) ∧
      (0x40 ≤ ty → ty ≤ 0x44 → mb < 32768 → entryEncOk b = true → s.entryAddrOk b = true → exec (.sqFetch q (some b)) s = .next fetched) ∧
      (0x40 ≤ ty → ty ≤ 0x44 → 32768 ≤ mb → tget none s.hq.armed (mb % 1024) = none → entryEncOk b = true → s.entryAddrOk b = true →
        ∃ t, exec (.sqFetch q (some b)) s = .next t ∧ t.sq q = fetched.sq q ∧ tget none t.hq.armed (mb % 1024) = some (q, x.head) ∧
          t.reg (Reg.HQ_MBOXm_STATUS (mb % 1024)) = 0xFF ∧ keeps s t [.hq, .regs]) ∧
      (ty = 0 ∨ (8 < ty ∧ ty < 0x40) ∨ 0x44 < ty → ∃ t, exec (.sqFetch q (some b)) s = .next t ∧ (t.sq q).head = (x.head + 1) % x.size ∧
        (t.sq q).ents = x.ents.filter (·.idx ≠ x.head) ∧
        (∃ k, (t.cq x.cq).wait = (s.cq x.cq).wait ++ [k] ∧ k.status = 10 ∧ k.sq = q ∧ k.idx = x.head ∧ k.type = ty) ∧ t.mem = s.mem) ∧
      (0x40 ≤ ty → ty ≤ 0x44 → mb < 32768 → (hsigAt b 44 48 50 52).valid = false → entryEncOk b = false →
        ∃ t, exec (.sqFetch q (some b)) s = .next t ∧
        (∃ k, (t.cq x.cq).wait = (s.cq x.cq).wait ++ [k] ∧ k.status = 10 ∧ k.sq = q ∧ k.idx = x.head) ∧ t.mem = s.mem))) ∧
  (∀ (n : Nat) (k : Compl) (rest : List Compl) (s : State),
    let c := s.cq n
    n < 256 → c.wait = k :: rest → c.on = true → s.dieUp dieK = true → s.ideOk (c.addr c.tail) = true →
    ((c.tail + 1) % c.size = c.head → exec (.cqCompletionWrite n) s = .next s) ∧
    ((c.tail + 1) % c.size ≠ c.head →
      let tail := (c.tail + 1) % c.size
      let since := c.since + (!k.noIrq).toNat
      let msi : Bool := c.cfg.bit 6 && !k.noIrq && decide (max 1 (c.cfg.fld 18 8) ≤ since)
      ∃ t, exec (.cqCompletionWrite n) s = .next t ∧ keeps s t [.hq, .outbox] ∧ t.hq.sqs = s.hq.sqs ∧
        t.outbox = s.outbox ++ [.hostWrite (c.addr c.tail) (k.toBytes (s.sq k.sq).head), .hostWrite (c.addr c.tail + 28) (toBytesLE 4 c.phase.toNat)] ++
          (if msi then [.msi (c.cfg.fld 7 11)] else []) ∧
        t.cq n = { c with wait := rest, tail, phase := if tail = 0 then !c.phase else c.phase, since := if msi then 0 else since })) ∧
  (∀ (n : Nat) (s : State),
    let c := s.cq n
    (n < 256 → c.on = true → c.cfg.bit 6 = true → 0 < c.since → c.cfg.fld 26 6 ≠ 0 → s.dieUp dieK = true →
      exec (.cqCoalTimeout n) s = .next ((s.setCq n { c with since := 0 }).emit (.msi (c.cfg.fld 7 11)))) ∧
    (c.since = 0 → exec (.cqCoalTimeout n) s = .next s)) ∧
  (∀ (o : Origin) (v : Word) (s : State), writable s Reg.HQ_SQ_CFG →
    let q := s.qSel
    let x := s.sq q
    (x.on = false → v.toNat < 65536 → v.bit 15 = true → qSizeOk v = true → (s.cq (v.fld 5 8)).on = true → ∃ t, exec (.sqEnable o v) s = .next t ∧
      t.sq q = { x with cfg := v, head := 0, tail := 0, error := 0 } ∧ (∀ j, j ≠ q → t.sq j = s.sq j) ∧ t.log.next = s.log.next + 1 ∧
      keeps s t [.hq, .regs, .log, .store]) ∧
    (x.on = false → v.toNat < 65536 → v.bit 15 = true → qSizeOk v = true → (s.cq (v.fld 5 8)).on = false → ∃ t, exec (.sqEnable o v) s = .next t ∧
      (t.sq q).on = false ∧ (t.sq q).error = 3 ∧ (t.sq q).ents = x.ents ∧ keeps s t [.hq, .regs, .log, .store]) ∧
    (x.on = true → x.cfg.toNat < 65536 → ∃ t, exec (.sqDisable o (x.cfg.setFld 15 1 0)) s = .next t ∧
      t.sq q = { x with cfg := x.cfg.setFld 15 1 0, ents := x.ents.filter (·.dispatched) } ∧ (∀ j, j ≠ q → t.sq j = s.sq j) ∧
      t.hq.cqs = s.hq.cqs ∧ keeps s t [.hq, .regs, .log, .store])) ∧
  (∀ (o : Origin) (v : Word) (s : State), writable s Reg.HQ_CQ_CFG →
    let q := s.qSel
    let c := s.cq q
    (c.on = false → v.bit 5 = true → qSizeOk v = true → ∃ t, exec (.cqEnable o v) s = .next t ∧
      t.cq q = { c with cfg := v, head := 0, tail := 0, phase := true, error := 0, since := 0 } ∧ (∀ j, j ≠ q → t.cq j = s.cq j) ∧
      keeps s t [.hq, .regs, .log, .store]) ∧
    (c.on = true → s.boundTo q ≠ [] → exec (.cqDisable o (c.cfg.setFld 5 1 0)) s = .next (s.setCq q { c with error := 2 })) ∧
    (c.on = true → s.boundTo q = [] → ∃ t, exec (.cqDisable o (c.cfg.setFld 5 1 0)) s = .next t ∧ t.cq q = { c with cfg := c.cfg.setFld 5 1 0 } ∧
      (∀ j, j ≠ q → t.cq j = s.cq j) ∧ t.hq.sqs = s.hq.sqs ∧ keeps s t [.hq, .regs, .log, .store]))

/-- An entry of a submission queue may be dispatched now, is of a type, and names neither a mailbox nor a header signal. -/
abbrev Sys2Proof.sqRuns (s : State) (q idx ty : Nat) (e : SqEnt) : Prop :=
  q < 256 ∧ (s.sq q).ent idx = some e ∧ (s.sq q).mayDispatch idx = true ∧ bfld e.bytes 0 1 = ty ∧ bfld e.bytes 2 2 < 32768 ∧
    (hsigAt e.bytes 44 48 50 52).valid = false ∧ s.dieUp dieK = true ∧ s.asleep = false

/-- The entry is complete with a status, a result and an auxiliary word: it left its queue, and its completion waits in the bound CQ. -/
abbrev Sys2Proof.sqCompleted (s t : State) (q idx : Nat) (e : SqEnt) (status result aux : Nat) : Prop :=
  (t.sq q).ents = (s.sq q).ents.filter (·.idx ≠ idx) ∧ (t.cq (s.sq q).cq).wait = (s.cq (s.sq q).cq).wait ++
    [Sys2Proof.Machine.Compl.mk status (bfld e.bytes 0 1) q idx result aux (bfld e.bytes 1 1 / 2 % 2 == 1)]

/-- R187, R464, R470, R475 to R477, R486 to R488. -/
def Obligations.HostEntryResults : Prop :=
  (∀ (q idx : Nat) (e : SqEnt) (s : State), sqRuns s q idx 0x40 e →
    ∃ t, exec (.nopEntry q idx) s = .next t ∧ sqCompleted s t q idx e 0 0 0 ∧ keeps s t [.hq]) ∧
  (∀ (q idx : Nat) (e : SqEnt) (data : List Byte) (s : State), sqRuns s q idx 0x41 e →
    let host := bfld e.bytes 8 8
    let da := gaDA (bfld e.bytes 16 8)
    let len := bfld e.bytes 24 4
    (s.dmaCheck host da len true = 0 → rangeKind s.trg da len = .untiled → s.still da len = true → ∃ t, exec (.dmaIn q idx data [] true .clear) s = .next t ∧
      t.readMem da len = padTo len data ∧ (∀ a, a < da ∨ da + len ≤ a → t.byte a = s.byte a) ∧ sqCompleted s t q idx e 0 0 0 ∧
      keeps s t [.hq, .mem]) ∧
    (∀ r, s.dmaCheck host da len true = 0 → rangeKind s.trg da len = .tiled r → len = r.slot → len ≠ 0 → tileBytes r.sealFmt ≤ r.slot →
      rangesMeet da (tileBytes r.sealFmt) (r.trailerDA da) 8 = false → tileBytes r.sealFmt ≠ 0 → stillTile s da len →
      let k := tileBytes r.sealFmt
      let bs := (padTo len data).take k
      ∃ t, exec (.dmaIn q idx data [] true .clear) s = .next t ∧ t.readMem da k = bs ∧
        t.readMem (r.trailerDA da) 8 = (mkTrailer bs 0 r.sealFmt false true).toBytes ∧
        (∀ a, a < da ∨ da + k ≤ a → a < r.trailerDA da ∨ r.trailerDA da + 8 ≤ a → t.byte a = s.byte a) ∧
        sqCompleted s t q idx e 0 0 0 ∧ keeps s t [.hq, .mem]) ∧
    (s.dmaCheck host da len true ≠ 0 → ∃ t, exec (.dmaIn q idx data [] true .clear) s = .next t ∧
      sqCompleted s t q idx e (s.dmaCheck host da len true) 0 0 ∧ t.mem = s.mem) ∧
    (s.dmaCheck host da len true = 0 → ∃ t, exec (.dmaIn q idx data [] false .clear) s = .next t ∧ sqCompleted s t q idx e 11 0 0 ∧ t.mem = s.mem)) ∧
  (∀ (q idx : Nat) (e : SqEnt) (s : State), sqRuns s q idx 0x42 e →
    let host := bfld e.bytes 8 8
    let da := gaDA (bfld e.bytes 16 8)
    let len := bfld e.bytes 24 4
    (s.dmaCheck host da len false = 0 → rangeKind s.trg da len = .untiled → s.mem.bad = [] → len ≠ 0 → s.calm da len = true →
      ∃ t, exec (.dmaOut q idx .clear) s = .next t ∧ t.outbox = s.outbox ++ [.hostWrite host (s.readMem da len)] ∧
        sqCompleted s t q idx e 0 0 0 ∧ keeps s t [.hq, .outbox]) ∧
    (∀ r, s.dmaCheck host da len false = 0 → rangeKind s.trg da len = .tiled r → len = r.slot → len ≠ 0 → calmTile s da len → s.poisonRange da len = false →
      let x := s.readTile (s.viewNow .clear) r da
      x.ok = true → x.bytes.length ≤ len → ∃ t, exec (.dmaOut q idx .clear) s = .next t ∧
        t.outbox = s.outbox ++ [.hostWrite host (padTo r.slot (s.readMem da x.bytes.length))] ∧
        sqCompleted s t q idx e 0 0 0 ∧ keeps s t [.hq, .outbox])) ∧
  (∀ (q idx : Nat) (e : SqEnt) (raw : List Byte) (s : State), sqRuns s q idx 0x43 e →
    let len := bfld e.bytes 16 4
    let n := bfld e.bytes 20 1
    n < 16 →
    (s.weirRoom n = false → exec (.weirEntry q idx (some raw)) s = .next s) ∧
    (s.weirRoom n = true → s.ideOk (bfld e.bytes 8 8) = true → ∃ t, exec (.weirEntry q idx none) s = .next t ∧ sqCompleted s t q idx e 11 0 0 ∧
      t.weirs = s.weirs ∧ t.mem = s.mem) ∧
    (s.weirRoom n = true → s.ideOk (bfld e.bytes 8 8) = true → s.weirPath dieK n = true → ∃ t, exec (.weirEntry q idx (some raw)) s = .next t ∧
      (t.weir n).queue = (s.weir n).queue ++ [{ id := s.opNext, iss := .sq q idx, bytes := bput (bput (padTo len raw) 8 4 0) 12 1 0,
                                                workUnit := 0, epoch := 0, bcast := false, declared := len }] ∧
      (t.sq q).ent idx = some { e with dispatched := true, weirs := [(n, none)] } ∧ keeps s t [.hq, .weirs, .opNext])) ∧
  (∀ (q idx : Nat) (e : SqEnt) (raw : List Byte) (s : State), sqRuns s q idx 0x44 e →
    let dst := bfld e.bytes 8 3 % 262144
    let sub := bfld e.bytes 11 1
    let len := bfld e.bytes 14 2
    s.ideOk (bfld e.bytes 16 8) = true → bfld e.bytes 12 1 % 2 = 0 → len ≠ 0 →
    (s.isLocal dst = true → sub = 1 → bfld (padTo len raw) 0 4 < 0x4000000 →
      let rd := (s.sqDispatch q idx).readReg (bfld (padTo len raw) 0 4) 32
      ∃ t, exec (.mgmtEntry q idx (some raw)) s = .next t ∧ sqCompleted s t q idx e 0 rd.2.toNat 32 ∧
        t.outbox = s.outbox ++ [.hostWrite (bfld e.bytes 24 8) (padTo 32 (toBytesLE 4 rd.2.toNat))] ∧ keeps s t [.hq, .outbox, .regs, .freeIdx]) ∧
    (s.isLocal dst = true → sub = 0 ∨ 5 < sub → ∃ t, exec (.mgmtEntry q idx (some raw)) s = .next t ∧ sqCompleted s t q idx e 10 0 0 ∧ t.mem = s.mem) ∧
    (∀ out, s.isLocal dst = false → onlyPort s dst out → way s dieK out → (s.span 0).inUse < 1048576 → (s.span 1).inUse < 1048576 →
      ∃ t i gen, exec (.mgmtEntry q idx (some raw)) s = .next t ∧ (t.sq q).ent idx = some { e with dispatched := true } ∧
        (let sent := { Packet.zero with dst := dst, type := 6, mod := sub, payload := padTo len raw, src := s.devId, srcDie := dieK,
                                        trk := out / 8, tag := i, gen := gen }
         t.fab.waiting = s.fab.waiting ++ [TxWait.mk out 0 sent (some (out / 8 * 1048576 + i))] ∧
         (t.trk (out / 8) i).pkt = some sent ∧ (t.trk (out / 8) i).owner = .mgmt q idx ∧ (t.trk (out / 8) i).use = .busy) ∧
        keeps s t [.hq, .fab])) ∧
  (∀ s : State, s.dieUp dieK = true → ∃ t, exec .flr s = .next t ∧ (∀ q, q < 256 → t.sq q = .reset) ∧ t.hq.cqs = [] ∧ t.hq.armed = [] ∧
    t.hq.ide = [] ∧ t.hq.spdm = false ∧ t.reg Reg.HQ_Q_SEL = 0 ∧ t.reg (Reg.HQ_MBOXm_STATUS 5) = 0xFF ∧ t.rf Reg.HQ_BAR4_WIN 16 6 = 36 ∧
    t.rf Reg.HQ_DEV_STATUS 0 2 = 2 ∧ t.mem = s.mem ∧ t.cells = s.cells ∧ t.log = s.log ∧ t.store = s.store) ∧
  (∀ (stream key z : Nat) (s : State),
    let d : Ide := { state := 0, key := 0 }
    let put := fun (x : Ide) => { s with hq := { s.hq with ide := tset d s.hq.ide stream x } }
    (stream < 8 → s.hq.spdm = true → s.dieUp dieK = true → exec (.ideKm stream key) s = .next (put { state := 1, key })) ∧
    (s.hq.spdm = false → exec (.ideKm stream key) s = .next s) ∧
    (s.dieUp dieK = true → (tget d s.hq.ide stream).state = 1 → exec (.ideIntegrityFailure stream) s =
      .next ((put { tget d s.hq.ide stream with state := 2 }).raiseErr 2 0x2B dieK stream none 0)) ∧
    ((tget d s.hq.ide stream).state ≠ 1 → exec (.ideIntegrityFailure stream) s = .next s) ∧
    (s.spdmServed = true → s.sec.rngFailed = false → exec .spdmKeyExchange s =
      .next { s.takeFree 1 with hq := { s.hq with spdm := true } }) ∧
    (30 ≤ z → z ≤ 40 → s.pwr.started = true → s.pwr.fatal = false →
      exec (.resizableBarSizeWrite z) s = .next (s.setRf Reg.HQ_BAR4_WIN 16 6 z)) ∧
    (z < 30 ∨ 40 < z → exec (.resizableBarSizeWrite z) s = .next s))

/-- R499, R501 to R503, R509, R512, R515, R679. -/
def Obligations.ClockAndRefillResults : Prop :=
  (∀ s : State,
    (tget false s.pwr.good 0 = true → (s.ticks + 1) % 32768 ≠ 0 → exec .aoTick s = .next { s with ticks := (s.ticks + 1) % 2 ^ 48 }) ∧
    (tget false s.pwr.good 0 = true → (s.ticks + 1) % 32768 = 0 → ∃ t, exec .aoTick s = .next t ∧ t.ticks = (s.ticks + 1) % 2 ^ 48 ∧
      tget 0 t.store.life 1 = (tget 0 s.store.life 1 + 1) % 2 ^ 64 ∧ keeps s t [.ticks, .store]) ∧
    (tget false s.pwr.good 0 = false → exec .aoTick s = .next s ∧ exec .aoclkLoss s = .next s) ∧
    (tget false s.pwr.good 0 = true → exec .aoclkLoss s = .next { s with nrg := { s.nrg with fallback := true } }) ∧
    exec .aoclkReturn s = .next { s with nrg := { s.nrg with fallback := false } }) ∧
  (∀ s : State, s.dieUp dieK = true → ∃ t, exec .refclkLoss s = .next t ∧ t.pwr = { s.pwr with fatal := true, faultPin := true } ∧
    t.optics = { s.optics with dark := true } ∧ (∀ d, t.dieUp d = false) ∧ keeps s t [.pwr, .optics, .outbox, .err, .errSeq, .store]) ∧
  (∀ (d : Fin 4) (o : Origin) (v : Word) (s : State), writable s (Reg.NRG_DVFSt d) →
    (10 < v.toNat → v.toNat < 16 → exec (.dvfsRequest d o v) s = .next s) ∧
    (v.toNat ≤ 10 → s.dvfs d = none → s.dieUp d = true → ∃ t, exec (.dvfsRequest d o v) s = .next t ∧ t.dvfsStep d = v.toNat ∧
      t.log.next = s.log.next + 1 ∧ keeps s t [.regs, .nrg, .outbox, .log, .store] ∧
      (let seq := (tget 0 s.nrg.vseq d + 1) % 256
       let req := Out.vreq d (Config.vcode d v.toNat) seq
       (v.toNat = s.dvfsCur d → t.nrg = s.nrg ∧ t.outbox = s.outbox) ∧
       (s.dvfsCur d < v.toNat → t.dvfsCur d = s.dvfsCur d ∧ t.outbox = s.outbox ++ [req] ∧
         t.dvfs d = some { target := v.toNat, vseq := seq, rising := true, acked := false }) ∧
       (v.toNat < s.dvfsCur d → t.dvfsCur d = v.toNat ∧ t.outbox = s.outbox ++ [req] ∧
         t.dvfs d = some { target := v.toNat, vseq := seq, rising := false, acked := false })))) ∧
  (∀ (d : Fin 4) (seq : Nat) (x : Dvfs) (s : State), s.dvfs d = some x → s.dieUp d = true → s.dvfsStep d = x.target →
    (x.vseq = seq % 256 → x.acked = false → x.rising = true → exec (.vack d seq) s = .next (s.setDvfs d (some { x with acked := true }))) ∧
    (x.vseq = seq % 256 → x.acked = false → x.rising = false → s.dvfsCur d = x.target → exec (.vack d seq) s = .next (s.setDvfs d none)) ∧
    (x.vseq ≠ seq % 256 ∨ x.acked = true → exec (.vack d seq) s = .next s) ∧
    (x.acked = false → exec (.vreqRepeat d) s = .next (s.emit (.vreq d (tget 60 s.nrg.vcode d) x.vseq)) ∧ exec (.dvfsSwitch d) s = .next s) ∧
    (x.acked = true → exec (.vreqRepeat d) s = .next s ∧ ∃ t, exec (.dvfsSwitch d) s = .next t ∧ t.dvfsCur d = x.target ∧ t.dvfs d = none ∧
      t.outbox = s.outbox ∧ keeps s t [.regs, .nrg])) ∧
  (∀ (d : Fin 4) (c : Fin 16) (s : State), s.dieUp d = true →
    (s.clusterIdle (16 * d + c) = true → exec (.clusterClockGate d c) s =
      .next { s with nrg := { s.nrg with gated := tset false s.nrg.gated (16 * d + c) true } }) ∧
    (s.clusterIdle (16 * d + c) = false → exec (.clusterClockGate d c) s = .next s)) ∧
  (∀ (rails peaks : List Nat) (s : State), s.dieUp dieK = true → s.energyWaiters = [] →
    let m := sumNat ((List.range 12).map fun i => rails.getD i 0)
    let u := approach s.nrg.u (m - s.nrg.charged) 8
    let avail := s.rf Reg.NRG_POWER_CAP 0 12 * 100 - u
    let pkg := divOpen (avail * s.rf Reg.NRG_RAMP 8 8) 256
    let full : Ledger → Nat → Ledger := fun l n => { bal := l.bal + min (n : Int) (max 0 ((2 * n : Nat) - l.bal)), cap := some (2 * n) }
    ∃ t, exec (.refill rails peaks) s = .next t ∧ t.nrg.u = u ∧ t.nrg.charged = 0 ∧ t.nrg.declared = [] ∧ t.nrg.staged = [] ∧
      (∀ c, c < 64 → tget .zero t.nrg.ledgers c = full (tget .zero s.nrg.ledgers c)
        (divOpen ((avail - pkg) * (s.dom (c / 16)).f) (if s.halved c then 51200 else 25600))) ∧
      tget .zero t.nrg.ledgers 64 = full (tget .zero s.nrg.ledgers 64) (divOpen (pkg * (s.dom 4).f) 400) ∧
      t.nrg.pool ≤ (s.rf Reg.NRG_BURST 0 13 * 1000 : Nat) ∧ t.nrg.pkgRoom = 360000 - (u : Int) ∧
      (s.nrg.declared = [] → s.nrg.staged = [] → t.nrg.corr = s.nrg.corr) ∧
      tget 0 t.store.life 11 = (tget 0 s.store.life 11 + (s.nrg.heatUj + rails.getD 10 0) / 1000000) % 2 ^ 64 ∧
      t.nrg.sensors = s.nrg.sensors ∧ keeps s t [.nrg, .regs, .store]) ∧
  (∀ s : State, s.dieUp dieK = true → exec .energySave s = .next (s.storePush (.energy s.nrg.corr s.nrg.floors)))

/-- R516 to R522. -/
def Obligations.HeatResults : Prop :=
  (∀ (i d : Nat) (t16 : Int) (s : State), s.sensorLive i = true → (s.sensor i).state = 0 → sensorDom i = some d → t16 < 1888 →
    (t16 < s.onset16 i - 80 → (s.dom d).fast = false → exec (.sensorConversion i t16) s = .next s) ∧
    (s.onset16 i - 80 ≤ t16 → ∃ t, exec (.sensorConversion i t16) s = .next t ∧ (t.sensor i).value = t16 ∧ (t.dom d).fast = true ∧
      (t.dom d).lastHot = s.ticks ∧ t.nrg.trip = s.nrg.trip ∧ (∀ e, e ≠ d → t.dom e = s.dom e) ∧ keeps s t [.nrg, .regs, .freeIdx] ∧
      ((∀ j ∈ domSensors d, (s.sensor j).phase1 = false) → (t.dom d).f =
        ((s.usedIn d).map fun j => phi (s.onset16 j) (if j = i then t16 else (s.sensor j).value)).foldl min 400))) ∧
  (∀ (i : Nat) (s : State), tripSensor i = true → s.sensorLive i = true →
    let tripped := fun t : State => t.nrg.trip = some (i, s.ticks) ∧ t.pwr.fatal = true ∧ t.optics.dark = true ∧
      (∀ p, (t.port p).txOpen = false) ∧ t.outbox = s.outbox ++ [.pin 1 true] ∧ t.mem = s.mem ∧ t.cells = s.cells ∧ t.log = s.log
    (s.nrg.trip = none → ∃ t, exec (.thermtrip i) s = .next t ∧ tripped t ∧ keeps s t [.nrg, .pwr, .optics, .ports, .outbox]) ∧
    (s.nrg.trip = none → (s.sensor i).state = 0 → ∀ t16 : Int, 1888 ≤ t16 → ∃ t, exec (.sensorConversion i t16) s = .next t ∧ tripped t) ∧
    (s.nrg.trip ≠ none → exec (.thermtrip i) s = .next s)) ∧
  (∀ (i : Nat) (t16 : Int) (s : State), s.sensorLive i = true → (s.sensor i).state = 0 →
    let r := s.setSensor i { s.sensor i with reading := t16 }
    (-640 ≤ t16 → t16 ≤ 2400 → (∀ m, r.nearMedian2 i = some m → (2 * t16 - m).natAbs ≤ 480) → ∃ t,
      exec (.sensorMean i t16 false false) s = .next t ∧ (t.sensor i).reading = t16 ∧ (t.sensor i).lastGood = t16 ∧ (t.sensor i).state = 0 ∧
      (t.sensor i).apart = 0 ∧ (∀ d, sensorDom i = some d → (t.sensor i).value = if (s.dom d).fast then (s.sensor i).value else t16) ∧
      (∀ j, j ≠ i → (t.sensor j).reading = (s.sensor j).reading ∧ (t.sensor j).state = (s.sensor j).state ∧ (t.sensor j).value = (s.sensor j).value) ∧
      keeps s t [.nrg, .regs, .freeIdx]) ∧
    (∀ (d : Nat) (lim stuck : Bool), sensorDom i = some d → t16 < -640 ∨ 2400 < t16 ∨ lim = true ∨ stuck = true →
      ∃ t, exec (.sensorMean i t16 lim stuck) s = .next t ∧ (t.sensor i).reading = t16 ∧
        (t.sensor i).cause = (if t16 < -640 ∨ 2400 < t16 ∨ lim = true then 1 else 2) ∧
        t.reg Reg.NRG_SENSORS_BROKEN = satAdd (s.reg Reg.NRG_SENSORS_BROKEN) 1 ∧
        ((s.dom d).f = 400 → (t.sensor i).state = 1) ∧
        (∀ h, (s.dom d).f < 400 → (s.sensor i).hotTick = some h → s.ticks ≤ h + 328 → (t.sensor i).state = 2 ∧ (t.sensor i).phase1 = true ∧
          (t.sensor i).value = (s.sensor i).lastGood + 32) ∧
        keeps s t [.nrg, .regs, .freeIdx, .err, .errSeq, .outbox, .log, .store])) ∧
  (∀ (i : Nat) (s : State),
    ((s.sensor i).phase1 = true → ∃ t, exec (.ghostPhaseEnd i) s = .next t ∧ (t.sensor i).phase1 = false ∧ (t.sensor i).value = (s.sensor i).value ∧
      (t.sensor i).state = (s.sensor i).state ∧ keeps s t [.nrg, .regs, .freeIdx]) ∧
    ((s.sensor i).phase1 = false → exec (.ghostPhaseEnd i) s = .next s)) ∧
  (∀ (d : Nat) (s : State), d < 5 → (s.dom d).fast = true → (s.dom d).f = 400 →
    ((s.dom d).lastHot + 3277 ≤ s.ticks → exec (.fastModeExit d) s = .next (s.setDom d { s.dom d with fast := false })) ∧
    (s.ticks < (s.dom d).lastHot + 3277 → exec (.fastModeExit d) s = .next s))

/-- R505 to R508, R531. -/
def Obligations.PowerStateResults : Prop :=
  (∀ (o : Origin) (s : State), writable s Reg.NRG_PSTATE →
    (s.pstate = 0 → s.nrg.entering = none → ∀ w : Bool,
      (∃ t, exec (.pstateSlack o (2 + 16 * BitVec.ofNat 32 w.toNat)) s = .next t ∧ t.nrg = { s.nrg with entering := some 2 } ∧ t.pstate = 0 ∧
        t.rf Reg.NRG_PSTATE 0 2 = 2 ∧ t.rb Reg.NRG_PSTATE 4 = w ∧ keeps s t [.regs, .nrg, .log, .store]) ∧
      (∃ t, exec (.pstateStill o (3 + 16 * BitVec.ofNat 32 w.toNat)) s = .next t ∧ t.nrg = { s.nrg with entering := some 3 } ∧ t.pstate = 0 ∧
        t.rf Reg.NRG_PSTATE 0 2 = 3 ∧ t.rb Reg.NRG_PSTATE 4 = w ∧ keeps s t [.regs, .nrg, .log, .store])) ∧
    exec (.pstateSlack o 1) s = .next (nrgErr 4 s) ∧
    (s.nrg.entering.isSome = true → exec (.pstateSlack o 2) s = .next (nrgErr 4 s) ∧ exec (.pstateStill o 3) s = .next (nrgErr 4 s)) ∧
    (s.pstate = 0 → ∃ t, exec (.pstateActive o 0) s = .next t ∧ t.nrg = { s.nrg with entering := none } ∧ t.pstate = 0 ∧
      t.rf Reg.NRG_PSTATE 0 2 = 0 ∧ t.mem = s.mem ∧ t.cells = s.cells ∧ t.hq = s.hq ∧
      ((∀ sp, sp < 2 → (s.spring sp).queue = []) → keeps s t [.regs, .nrg, .log, .store]))) ∧
  (∀ (o : Origin) (s : State), s.blockAnswers Reg.NRG_PSTATE = true → quietLog s → s.pstate = 2 → ∃ t, exec (.pstateActive o 0) s = .next t ∧
    t.pstate = 0 ∧ t.rf Reg.NRG_PSTATE 0 2 = 0 ∧ t.nrg.entering = none ∧ t.optics.dimmed = false ∧ t.optics.loopsStopped = false ∧
    t.mem = s.mem ∧ t.cells = s.cells ∧ t.hq = s.hq) ∧
  (∀ s : State, s.dieUp dieK = true →
    (s.nrg.entering = some 2 → s.pstate = 0 → s.drained = true → ∃ t, exec .slackDrainDone s = .next t ∧ t.pstate = 2 ∧
      t.nrg.entering = none ∧ t.optics.dimmed = true ∧ t.optics.loopsStopped = true ∧
      (∀ p, p < 16 → (s.port p).wasLive = true → (t.port p).state = .deep ∧ (t.port p).txOpen = false) ∧ t.mem = s.mem ∧ t.cells = s.cells ∧
      t.hq = s.hq) ∧
    (s.pstate = 0 → s.drained = false → exec .slackDrainDone s = .next s) ∧
    (s.nrg.entering = none → exec .slackDrainDone s = .next s ∧ exec .slackEntryTimeout s = .next s) ∧
    (s.nrg.entering = some 3 → s.pstate = 2 → ∃ t, exec .slackDrainDone s = .next t ∧ t.pstate = 3 ∧ t.nrg.entering = none ∧
      (∀ d, t.dieUp d = false) ∧ (∀ a, a < 0x10000000000 → t.byte a = s.byte a) ∧ (∀ a, 0x10000000000 ≤ a → t.byte a = 0) ∧ t.slots = s.slots ∧
      t.cells = [] ∧ t.reaches = [] ∧ (∀ q, (t.sq q).ents = []) ∧ t.ticks = s.ticks)) ∧
  (∀ (k : Nat) (s : State), s.nrg.entering = some k → s.pstate = 0 → ∃ t, exec .slackEntryTimeout s = .next t ∧
    t.nrg = { s.nrg with entering := none } ∧ t.pstate = 0 ∧ t.rf Reg.NRG_STATUS 25 3 = 4 ∧ t.mem = s.mem ∧ t.cells = s.cells ∧ t.hq = s.hq ∧
    ((∀ sp, sp < 2 → (s.spring sp).queue = []) → keeps s t [.regs, .nrg])) ∧
  (∀ (q : Nat) (v : Word) (s : State), s.dieUp dieK = true → q < 256 → v.toNat < (s.sq q).size → v.toNat < 65536 → (s.sq q).on = true → s.pstate = 2 →
    ∃ t, exec (.sqDoorbell (q * 4096) 4 v) s = .next t ∧ t.sq q = { s.sq q with tail := v.toNat } ∧ t.mem = s.mem ∧
      (s.rb Reg.NRG_PSTATE 4 = true → t.pstate = 0 ∧ t.rf Reg.NRG_PSTATE 0 2 = 0 ∧ t.optics.dimmed = false) ∧
      (s.rb Reg.NRG_PSTATE 4 = false → t.pstate = 2 ∧ keeps s t [.hq])) ∧
  (∀ (i3c : Bool) (s : State),
    (s.pstate = 3 → s.nrg.trip = none → (List.range 5).all (tget false s.pwr.good) = true → ∃ t, exec (.stillWake i3c) s = .next t ∧
      t.pstate = 0 ∧ t.rf Reg.NRG_PSTATE 0 2 = 0 ∧ t.rb Reg.NRG_PSTATE 6 = true ∧ tget false t.pwr.up dieK = true ∧
      t.rf Reg.HQ_DEV_STATUS 0 2 = s.rf Reg.HQ_DEV_STATUS 0 2 ∧ t.slots = s.slots ∧
      keeps s t [.regs, .pwr, .seedBase, .freeIdx, .nrg, .outbox]) ∧
    (s.pstate ≠ 3 → exec (.stillWake i3c) s = .next s))

/-- Submitting a token of one command, from memory or through JTAG: it goes under check; while one is, result 7; a token of another command is
for another row; refused by LOG_FULL. -/
def Sys2Proof.submits (s : State) (cmd : Nat) (i : Instr) (o : Origin) (jtag : Option (List Byte)) : Prop :=
  (∀ b, jtag = some b →
    (bfld b 2 1 = cmd → s.sec.token = none → s.logFull = false → exec i s = .next { s with sec := { s.sec with token := some (b, .debug) } }) ∧
    (bfld b 2 1 = cmd → s.sec.token ≠ none → exec i s = .next (s.authResult 7)) ∧
    (bfld b 2 1 ≠ cmd → exec i s = .next s)) ∧
  (jtag = none →
    (bfld s.tokenAt 2 1 = cmd → s.sec.token = none → s.logFull = false → ∃ t, exec i s = .next t ∧
      t.sec = { s.sec with token := some (s.tokenAt, o) } ∧ (∀ q, t.reg q = s.reg q) ∧ keeps s t [.sec, .regs]) ∧
    (bfld s.tokenAt 2 1 = cmd → s.sec.token = none → s.logFull = true → o = .host ∨ o = .fabric → ∃ t, exec i s = .next t ∧
      t.reg Reg.LOG_REFUSED = satAdd (s.reg Reg.LOG_REFUSED) 1 ∧ keeps s t [.regs]) ∧
    (bfld s.tokenAt 2 1 ≠ cmd → exec i s = .next s))

/-- R556, R560 to R563, R566, R568. -/
def Obligations.TokenResults : Prop :=
  (∀ (o : Origin) (s : State), writable s Reg.SEC_AUTH_CTL →
    (s.sec.rngFailed = false →
      let n := (List.range 32).map fun i => BitVec.ofNat 8 (s.freeAt i)
      ∃ t, exec (.newNonce o) s = .next t ∧ t.sec = { s.sec with nonce := some n } ∧
        (∀ i, i < 8 → t.reg (Reg.SEC_AUTH_NONCEi i) = BitVec.ofNat 32 (bfld n (4 * i) 4)) ∧ keeps s t [.regs, .sec, .log, .store, .freeIdx]) ∧
    (s.sec.rngFailed = true → ∃ t, exec (.newNonce o) s = .next t ∧ keeps s t [.regs, .log, .store]) ∧
    (∀ v : Word, v = 4 ∨ v = 6 → ∃ t, exec (.relock o v) s = .next t ∧ t.sec.level = 0 ∧ t.sec.grant = none ∧ t.sec.token = s.sec.token ∧
      t.sec.nonce = s.sec.nonce ∧ (∀ r, r ≠ 7 → t.meas r = s.meas r) ∧ (s.sec.level ≠ 0 → t.meas 7 = shake256 (s.meas 7 ++ 0 :: toBytesLE 4 s.boot) 64) ∧
      keeps s t [.regs, .sec, .log, .store])) ∧
  (∀ (o : Origin) (jtag : Option (List Byte)) (s : State), s.dieUp dieK = true →
    submits s 1 (.debugObserve o jtag) o jtag ∧ submits s 2 (.debugInvasive o jtag) o jtag ∧ submits s 3 (.claim o jtag) o jtag ∧
    submits s 4 (.release o jtag) o jtag ∧ submits s 5 (.returnTok o jtag) o jtag ∧ submits s 6 (.scrap o jtag) o jtag ∧
    submits s 7 (.policy o jtag) o jtag) ∧
  (∀ (b : List Byte) (o : Origin) (s : State), s.sec.token = some (b, o) → s.dieUp dieK = true →
    let r := s.tokenResult b
    let cmd := bfld b 2 1
    let key := (b.drop 128).take 1952
    (r ≠ 1 → exec .tokenCheckComplete s = .next ({ s with sec := { s.sec with token := none, nonce := none } }.authResult r)) ∧
    (r = 1 → quietLog s → ∃ t, exec .tokenCheckComplete s = .next t ∧ t.sec.token = none ∧ t.sec.nonce = none ∧ t.log.next = s.log.next + 1 ∧
      t.rf Reg.SEC_AUTH_CTL 4 3 = 1 ∧ t.meas 6 = shake256 (s.meas 6 ++ shake256 b 64) 64 ∧ t.mem = s.mem ∧ t.cells = s.cells ∧
      (cmd = 1 ∨ cmd = 2 → t.sec.level = cmd ∧ t.sec.grant = some (cmd, bfld b 16 1 - 1) ∧ t.fuses = s.fuses ∧ t.pwr = s.pwr) ∧
      (cmd = 2 → s.sec.level ≠ 2 → t.sec.sinceCold = true ∧ t.hq.spdm = false ∧ t.sec.invLifetime = min 0xFFFF (s.sec.invLifetime + 1)) ∧
      (cmd = 3 → s.gateOpen = true → t.sec.owner = some key ∧ t.sec.countersign = false ∧ t.pwr.due = 1) ∧
      (cmd = 3 → s.gateOpen = false → t.sec.owner = s.sec.owner ∧ t.pwr = s.pwr) ∧
      (cmd = 4 → s.gateOpen = true → t.sec.owner = none ∧ t.sec.grant = none ∧ t.store.mram.hs = [] ∧ t.pwr.due = 1) ∧
      (cmd = 5 → t.fuses = { s.fuses with lifecycle := 3 } ∧ t.sec.grant = none ∧ t.pwr.due = 1) ∧
      (cmd = 6 → t.fuses = { s.fuses with lifecycle := 4 } ∧ t.sec.keysErased = true ∧ t.sec.owner = none ∧ t.sec.grant = none ∧ t.pwr.due = 1) ∧
      (cmd = 7 → s.gateOpen = true → t.sec.owner = s.sec.owner ∧ t.sec.countersign = (bfld b 17 1 % 2 == 1) ∧ t.pwr.due = 1))) ∧
  (∀ (keys : List (List Byte)) (certs : List Byte) (s : State),
    (s.lifecycle = 0 → s.dieUp dieK = true → keys.length = 23 → quietLog s → ∃ t, exec (.provision keys certs) s = .next t ∧
      t.fuses = { s.fuses with lifecycle := 1 } ∧ t.sec.certs = certs ∧ t.store.mram.identity = true ∧ t.pwr.due = 1 ∧
      t.log.next = s.log.next + 1 ∧ t.mem = s.mem) ∧
    (s.lifecycle ≠ 0 → exec (.provision keys certs) s = .next s))

/-- R553, R554, R556, R557, R564, R565, R571, R589, R593. -/
def Obligations.AttestationAndDebugResults : Prop :=
  (∀ (o : Origin) (r : Nat) (s : State), writable s Reg.SEC_EXTEND_CTL → r < 32 →
    ∃ t, exec (.extend o (BitVec.ofNat 32 (32 + r))) s = .next t ∧ keeps s t [.regs, .sec, .log, .store] ∧ t.log.next = s.log.next + 1 ∧
      (r < 16 → t.sec = s.sec) ∧ (∀ q, q ≠ r → t.meas q = s.meas q) ∧
      (16 ≤ r → t.meas r = shake256 (s.meas r ++ (List.range 16).flatMap fun i => toBytesLE 4 (s.reg (Reg.SEC_EXTENDi i)).toNat) 64)) ∧
  (∀ (o : Origin) (c : Fin 4) (s : State), writable s (Reg.SEC_SVNc c) →
    let fuse := s.fuses.svn.getD c 0
    (s.lifecycle = 2 → fuse < 64 → fuse < s.sec.mram.getD c 0 → ∃ t, exec (.svnBurn o c 0x80000000) s = .next t ∧
      t.fuses = { s.fuses with svn := lset s.fuses.svn c (fuse + 1) } ∧ keeps s t [.fuses, .regs, .log, .store]) ∧
    (s.lifecycle ≠ 2 ∨ 64 ≤ fuse ∨ s.sec.mram.getD c 0 ≤ fuse → exec (.svnBurn o c 0x80000000) s = .next s)) ∧
  (∀ (o : Origin) (v : Word) (image : Option (List Byte)) (s : State), writable s Reg.SEC_FW_ADDR_LO →
    (s.sec.romWaits = false ∨ v.toNat % 4096 ≠ 0 ∨ image = none → ∃ t, exec (.fwFetch o v image) s = .next t ∧ t.reg Reg.SEC_FW_ADDR_LO = v ∧
      keeps s t [.regs, .log, .store]) ∧
    (∀ b, s.sec.romWaits = true → v.toNat % 4096 = 0 → image = some b → s.manCheck b ≠ 0 → ∃ t, exec (.fwFetch o v image) s = .next t ∧
      t.rf Reg.SEC_BOOT_STATUS 7 4 = s.manCheck b ∧ t.rb Reg.SEC_BOOT_STATUS 2 = false ∧ keeps s t [.regs, .log, .store, .sec] ∧ t.sec = s.sec) ∧
    (∀ b, s.sec.romWaits = true → v.toNat % 4096 = 0 → image = some b → s.manCheck b = 0 → manClassOk b 0 = true →
      ∃ t, exec (.fwFetch o v image) s = .next t ∧ tget false t.pwr.up dieK = true ∧ t.sec.romWaits = false ∧ t.rb Reg.KEY_READY 1 = true)) ∧
  (∀ (o : Origin) (w : Bool) (s : State), writable s Reg.SEC_ATTEST_CTL →
    let v : Word := 1 + 2 * BitVec.ofNat 32 w.toNat
    let da := s.daReg Reg.SEC_ATTEST_ADDR_LO Reg.SEC_ATTEST_ADDR_HI
    (s.sec.attest.isSome = true → exec (.attest o v) s = .next (s.setRf Reg.SEC_ATTEST_CTL 3 2 3)) ∧
    (s.sec.attest = none → s.lifecycle = 0 ∨ s.lifecycle = 4 → ∃ t, exec (.attest o v) s = .next t ∧ t.rf Reg.SEC_ATTEST_CTL 3 2 = 2 ∧ keeps s t [.regs]) ∧
    (s.sec.attest = none → s.lifecycle ≠ 0 → s.lifecycle ≠ 4 → s.keyRange da 16448 true = false → ∃ t, exec (.attest o v) s = .next t ∧
      t.rf Reg.SEC_ATTEST_CTL 3 2 = 1 ∧ keeps s t [.regs]) ∧
    (s.sec.attest = none → s.lifecycle ≠ 0 → s.lifecycle ≠ 4 → s.keyRange da 16448 true = true → ∃ t, exec (.attest o v) s = .next t ∧
      t.sec = { s.sec with attest := some (da, w, s.readMem da 64) } ∧ keeps s t [.regs, .sec])) ∧
  (∀ (da : Nat) (cert : Bool) (nonce : List Byte) (s : State), s.sec.attest = some (da, cert, nonce) → s.dieUp dieK = true →
    let b := (s.report_ nonce cert).take 16384
    s.still (da + 64) b.length = true → ∃ t, exec (.attestationReportComplete .clear) s = .next t ∧ t.readMem (da + 64) b.length = b ∧ t.sec = { s.sec with attest := none } ∧
      (∀ a, a < da + 64 ∨ da + 64 + b.length ≤ a → t.byte a = s.byte a) ∧ keeps s t [.sec, .mem] ∧
      bfld b 8 1 = s.lifecycle % 256 ∧ bfld b 9 1 = s.debugLevel % 256 ∧ bfld b 16 4 = s.boot % 2 ^ 32 ∧ (b.drop 64).take 64 = padTo 64 nonce) ∧
  (∀ (idx : Nat) (nonce : List Byte) (s : State),
    (s.spdmServed = true → exec (.getMeasurements 0xF0 nonce) s = .next (s.emit (.doe (s.report_ nonce false))) ∧
      (1 ≤ idx → idx ≤ 32 → exec (.getMeasurements idx nonce) s = .next (s.emit (.doe (s.meas (idx - 1))))) ∧
      exec .getCertificate s = .next (s.emit (.doe s.sec.certs))) ∧
    (s.spdmServed = false → exec (.getMeasurements idx nonce) s = .next s ∧ exec .getCertificate s = .next s)) ∧
  (∀ s : State, s.dieUp dieK = true → ∃ t, exec .entropyHealthFailure s = .next t ∧ t.sec = { s.sec with rngFailed := true } ∧
    t.pwr.fatal = true ∧ t.optics.dark = true ∧ keeps s t [.sec, .pwr, .optics, .outbox, .err, .errSeq, .store]) ∧
  (∀ (wr : Bool) (space a : Nat) (v : Word) (s : State), s.dieUp dieK = true →
    let go := exec (.jtagAccess wr space a v) s
    (s.pstate ≠ 3 → s.debugLevel = 0 ∨ (wr = true ∧ s.debugLevel < 2) → go = .next (s.emit (.jtag 0 0))) ∧
    (s.pstate = 3 → wr = true ∨ space ≠ 0 → go = .next (s.emit (.jtag 0 0))) ∧
    (s.pstate = 3 → wr = false → space = 0 → a = Reg.SEC_LIFECYCLE → go = .next (s.emit (.jtag 0 s.lifeReg))) ∧
    (s.pstate = 2 → 2 ≤ s.debugLevel → space = 1 ∨ (space = 0 ∧ gatedBlock a = true) → go = .next (s.emit (.jtag 1 0))) ∧
    (s.pstate = 0 → 1 ≤ s.debugLevel → wr = false → space = 1 → s.jtagMem a = true → s.poisonRange a 4 = false →
      go = .next (s.emit (.jtag 0 (wordAt (s.readMem a 4) 0)))) ∧
    (s.pstate = 0 → 1 ≤ s.debugLevel → wr = false → space = 0 → a % 4 = 0 → (regAt a).isSome = true → a ≠ Reg.BED_REGION_CTL →
      go = .next (s.emit (.jtag 0 (s.view a)))) ∧
    (s.pstate = 0 → s.debugLevel = 2 → wr = true → space = 1 → s.jtagMem a = true → touchesTiled s.trg a 4 = false → s.touchesKv a 4 = false →
      ∃ t, go = .next t ∧ t.readMem a 4 = toBytesLE 4 v.toNat ∧ (∀ b, b < a ∨ a + 4 ≤ b → t.byte b = s.byte b) ∧
        t.outbox = s.outbox ++ [.jtag 0 0] ∧ keeps s t [.mem, .outbox]) ∧
    (s.pstate = 0 → s.debugLevel = 2 → wr = true → space = 0 → ∃ u, exec (.registerWrite .debug a 32 v 0) s = .next u ∧ go = .next (u.emit (.jtag 0 0)))) ∧
  (∀ s : State, (s.pwr.started = true → exec .extest s = .next s) ∧ (s.pwr.started = false → exec .extest s = .next (s.emit (.jtag 0 0))))

/-- R579 to R582. -/
def Obligations.ChangeLogResults : Prop :=
  (∀ (o : Origin) (v : Word) (s : State), s.blockAnswers Reg.LOG_ACK_LO = true → s.log.held = [] → s.log.unlogged = 0 →
    let a := (s.reg Reg.LOG_ACK_HI).toNat * 2 ^ 32 + v.toNat
    (s.log.ack ≤ a → a ≤ s.log.next → exec (.logAck o v) s =
      .next ({ s with log := { s.log with ack := a } }.storePush (.logState a 0 s.store.res))) ∧
    (a < s.log.ack ∨ s.log.next < a → exec (.logAck o v) s = .next (s.bump Reg.KEY_RSVD_WRITES))) ∧
  (∀ (o : Origin) (s : State), s.blockAnswers Reg.LOG_NOTE_CTL = true →
    (quietLog s → ∃ t, exec (.logNoteCommit o 1) s = .next t ∧ t.log.next = s.log.next + 1 ∧ t.log.last = logBytes s 0 3 0 s.note ∧
      tget [] t.log.slots (s.log.next % 131072) = t.log.last ∧ (∀ k, k ≠ s.log.next % 131072 → tget [] t.log.slots k = tget [] s.log.slots k) ∧
      keeps s t [.regs, .log, .store]) ∧
    (s.logFull = true → o = .host ∨ o = .fabric → exec (.logNoteCommit o 1) s = .next (s.refuseLog o 0x3FFFFFF)) ∧
    exec (.logNoteCommit o 0) s = .next s) ∧
  (∀ (o : Origin) (v : Word) (s : State), s.blockAnswers Reg.LOG_RD_LO = true →
    let lsn := (s.reg Reg.LOG_RD_HI).toNat * 2 ^ 32 + v.toNat
    let e := tget [] s.log.slots (lsn % 131072)
    ∃ t, exec (.logRead o v) s = .next t ∧ t.reg Reg.LOG_RD_LO = v ∧ keeps s t [.regs] ∧
      (e ≠ [] → bfld e 0 8 = lsn → ∀ i, i < 16 → t.reg (Reg.LOG_RD_DATAi i) = wordAt e i) ∧
      (e = [] ∨ bfld e 0 8 ≠ lsn → ∀ i, i < 16 → t.reg (Reg.LOG_RD_DATAi i) = 0))

/-- R602, R603, R607, R609, R610, R612, R615, R619, R620. -/
def Obligations.StoreResults : Prop :=
  (∀ s : State, s.log.held = [] → s.log.unlogged = 0 →
    (∀ u rest, s.store.queue = u :: rest → s.gateOpen = true → s.dieUp dieK = true → s.store.shutdown = false →
      ∃ t, exec .storeWrite s = .next t ∧ t.store = { s.store with queue := rest, mram := s.store.mram.commit u } ∧ t.mem = s.mem ∧ t.log = s.log ∧
        (∀ k c, u = .owner k c → t.sec = { s.sec with owner := k, countersign := c } ∧ t.pwr.due = 1) ∧
        ((∀ k c, u ≠ .owner k c) → keeps s t [.store]) ∧
        (∀ n e, u = .log n e → tget [] t.store.mram.log (n % 131072) = e ∧
          ∀ j, j ≠ n % 131072 → tget [] t.store.mram.log j = tget [] s.store.mram.log j) ∧
        (∀ c, u = .lifetime c → t.store.mram.life = c) ∧
        (∀ a n r, u = .logState a n r → t.store.mram.ack = a ∧ t.store.mram.res = r)) ∧
    (s.gateOpen = false → exec .storeWrite s = .next s)) ∧
  (∀ s : State, s.dieUp dieK = true →
    (s.gateOpen = true → s.gateWithin 0 1440 = false → s.gateSensors ≠ [] → exec .storeGateClose s = .next (s.pstBit 1 false)) ∧
    (s.gateOpen = true → s.gateSensors = [] → exec .storeGateClose s = .next ((s.pstBit 1 false).raiseErr 2 0x29 dieK 432 none 0)) ∧
    (s.gateOpen = false ∨ s.gateWithin 0 1440 = true → exec .storeGateClose s = .next s) ∧
    (s.gateOpen = false → s.gateWithin 32 1408 = true → ∃ t, exec .storeGateOpen s = .next t ∧ t.gateOpen = true ∧ keeps s t [.regs, .store] ∧
      (s.store.snapRunning = false → t.store.snapRunning = s.store.snapPending ∧ t.store.snapPending = false) ∧ t.store.mram = s.store.mram) ∧
    (s.gateWithin 32 1408 = false → exec .storeGateOpen s = .next s)) ∧
  (∀ (o : Origin) (s : State), writable s Reg.KEY_PST_CTL →
    (∃ t, exec (.snapshotRequest o 1) s = .next t ∧ keeps s t [.regs, .log, .store] ∧ t.store.mram = s.store.mram ∧
      (s.gateOpen = true → s.store.snapRunning = false → t.store.snapRunning = true ∧ t.store.snapPending = s.store.snapPending) ∧
      (s.gateOpen = false ∨ s.store.snapRunning = true → t.store.snapRunning = s.store.snapRunning ∧ t.store.snapPending = true)) ∧
    (s.gateOpen = true → ∃ t, exec (.orderlyShutdown o 2) s = .next t ∧ t.store.queue = [] ∧ t.store.mram.life = s.store.life ∧
      t.store.mram.res = s.log.next + 1 ∧ t.store.mram.ack = s.log.ack ∧ t.store.mram.snapSeq = s.store.mram.snapSeq + 1 ∧
      t.rb Reg.KEY_PST_STATUS 18 = true ∧ t.mem = s.mem ∧ t.cells = s.cells ∧ t.reaches = s.reaches) ∧
    (s.gateOpen = false → ∃ t, exec (.orderlyShutdown o 2) s = .next t ∧ t.store.shutdown = true ∧ t.store.snapPending = true ∧
      t.store.mram = s.store.mram ∧ keeps s t [.regs, .log, .store]) ∧
    (s.sec.level = 2 → ∃ t, exec (.storeReset .debug 4) s = .next t ∧ t.store.mram.formatted = true ∧ t.store.mram.floors = [0, 0, 0, 0] ∧
      t.store.mram.hs = [] ∧ t.store.mram.repairs = [] ∧ t.store.mram.log = s.store.mram.log ∧ t.store.mram.owner = s.store.mram.owner ∧
      t.boot = s.boot ∧ tget 0 t.store.life 13 = 1 ∧ t.sec = { s.sec with mram := [0, 0, 0, 0], grant := none, invLifetime := 0 } ∧
      keeps s t [.regs, .log, .store, .sec]) ∧
    (o ≠ .debug ∨ s.sec.level ≠ 2 → exec (.storeReset o 4) s = .next (s.bump Reg.KEY_RSVD_WRITES))) ∧
  (∀ s : State,
    (s.store.snapRunning = true → s.gateOpen = true → s.dieUp dieK = true → ∃ t x, exec .snapshotDone s = .next t ∧
      t.store.snapRunning = s.store.snapPending ∧ t.store.snapPending = false ∧ keeps s t [.store] ∧
      (if s.store.mram.newestB = true ∨ s.store.mram.snapA = none then t.store.mram = { s.store.mram with snapA := some x }
        else t.store.mram = { s.store.mram with snapB := some x }) ∧
      x.optics = s.optics ∧ x.seq = s.store.mram.snapSeq + 1 ∧ x.boot = s.boot ∧ x.ticks = s.ticks) ∧
    (s.store.snapRunning = false → exec .snapshotDone s = .next s) ∧
    (s.dieUp dieK = true → exec .lifetimeCommit s = .next (s.storePush (.lifetime s.store.life)))) ∧
  (∀ (means : List Nat) (s : State), s.dieUp dieK = true → ∃ t, exec (.ageingRecord means) s = .next t ∧ keeps s t [.store] ∧
    t.store = { s.store with queue := s.store.queue ++ (List.range means.length).map fun i => .ageing [1, i, means.getD i 0, 0, s.boot] })

/-- R617, R618, R625. -/
def Obligations.HostSavedResults : Prop :=
  (∀ (o : Origin) (b len : Nat) (s : State), writable s Reg.KEY_PST_HS_CTL → b < 8 → len < 131072 →
    let save : Word := BitVec.ofNat 32 (b + 16 + len * 64)
    let load : Word := BitVec.ofNat 32 (b + 8 + 16 + len * 64)
    let da := s.daReg Reg.KEY_PST_HS_ADDR_LO Reg.KEY_PST_HS_ADDR_HI
    let fails := fun (i : Instr) (e : Nat) => ∃ t, exec i s = .next t ∧ t.rf Reg.KEY_PST_HS_CTL 23 3 = e ∧ t.store.hsOp = none ∧
      t.store.mram = s.store.mram ∧ keeps s t [.regs, .log, .store]
    (s.store.hsOp.isSome = true → exec (.hostSavedSave o save .clear) s = .next (hsErr 5 s) ∧ exec (.hostSavedLoad o load) s = .next (hsErr 5 s)) ∧
    (s.store.hsOp = none → s.lifecycle = 0 ∨ s.lifecycle = 4 → fails (.hostSavedSave o save .clear) 6 ∧ fails (.hostSavedLoad o load) 6) ∧
    (s.store.hsOp = none → s.lifecycle ≠ 0 → s.lifecycle ≠ 4 →
      (s.gateOpen = false → fails (.hostSavedSave o save .clear) 3) ∧
      (s.gateOpen = true → len < 8 ∨ 65512 < len ∨ len % 8 ≠ 0 → fails (.hostSavedSave o save .clear) 2) ∧
      (s.gateOpen = true → 8 ≤ len → len ≤ 65512 → len % 8 = 0 → s.keyRange da len false = false → fails (.hostSavedSave o save .clear) 1) ∧
      (s.gateOpen = true → 8 ≤ len → len ≤ 65512 → len % 8 = 0 → s.keyRange da len false = true → s.mem.bad = [] → s.calm da len = true →
        ∃ t, exec (.hostSavedSave o save .clear) s = .next t ∧ t.store.hsOp = some { block := b, load := false, da, data := s.readMem da len } ∧
          t.store.mram = s.store.mram ∧ keeps s t [.regs, .log, .store]) ∧
      (s.hsBlock b = none → fails (.hostSavedLoad o load) 4) ∧
      (∀ x, s.hsBlock b = some x → s.keyRange da x.data.length true = false → fails (.hostSavedLoad o load) 1) ∧
      (∀ x, s.hsBlock b = some x → s.keyRange da x.data.length true = true → ∃ t, exec (.hostSavedLoad o load) s = .next t ∧
        t.store.hsOp = some { block := b, load := true, da, data := [] } ∧ t.store.mram = s.store.mram ∧ keeps s t [.regs, .log, .store]))) ∧
  (∀ (p : HsOp) (s : State), s.store.hsOp = some p → s.dieUp dieK = true →
    (p.load = false → s.gateOpen = true → ∃ t, exec (.hostSavedOperationComplete .clear) s = .next t ∧ t.store.hsOp = none ∧
      t.hsBlock p.block = some { seq := (match s.hsBlock p.block with | some x => x.seq | none => 0) + 1, data := p.data } ∧
      (∀ j, j ≠ p.block → t.hsBlock j = s.hsBlock j) ∧ keeps s t [.store]) ∧
    (p.load = false → s.gateOpen = false → exec (.hostSavedOperationComplete .clear) s = .next s) ∧
    (∀ x, p.load = true → s.hsBlock p.block = some x → s.still p.da x.data.length = true → ∃ t, exec (.hostSavedOperationComplete .clear) s = .next t ∧ t.store.hsOp = none ∧
      t.readMem p.da x.data.length = x.data ∧ (∀ a, a < p.da ∨ p.da + x.data.length ≤ a → t.byte a = s.byte a) ∧
      t.rf Reg.KEY_PST_HS_CTL 6 17 = x.data.length % 131072 ∧ t.hsBlock = s.hsBlock ∧ keeps s t [.store, .mem, .regs])) ∧
  (∀ s : State, s.store.hsOp = none → exec (.hostSavedOperationComplete .clear) s = .next s)

/-- R551, R553, R556, R613, R626, R628, R630, R631. -/
def Obligations.PowerAndColdResetResults : Prop :=
  (∀ (g : Fin 5) (s : State),
    (tget false s.pwr.good g = true → exec (.pwrgoodAssert g) s = .next s) ∧
    (tget false s.pwr.good g = false → (pwrAfter g).all (tget false s.pwr.good) = true → ∃ t, exec (.pwrgoodAssert g) s = .next t ∧
      tget false t.pwr.good g = true ∧ keeps s t [.pwr]) ∧
    (∀ h ∈ pwrAfter g, tget false s.pwr.good g = false → tget false s.pwr.good h = false → tget false s.pwr.early h = false →
      ∃ t, exec (.pwrgoodAssert g) s = .next t ∧ tget false t.pwr.good g = false ∧ tget false t.pwr.early g = true ∧ keeps s t [.pwr]) ∧
    (tget false s.pwr.good g = false → exec (.pwrgoodLoss g) s = .next { s with pwr := { s.pwr with early := tset false s.pwr.early g false } }) ∧
    (tget false s.pwr.good g = true → g.val < 2 → ∃ t, exec (.pwrgoodLoss g) s = .next t ∧ t.mem = { bytes := [], bad := [] } ∧ t.cells = [] ∧
      t.reaches = [] ∧ t.regs = [] ∧ t.store.queue = [] ∧ (∀ d, t.dieUp d = false) ∧ tget false t.pwr.good g = false ∧ t.pwr.started = false ∧
      t.ticks = (if g.val = 0 then 0 else s.ticks) ∧ t.fuses = s.fuses ∧ t.store.mram.log = s.store.mram.log ∧
      t.sec.owner = s.store.mram.owner ∧ t.outbox = s.outbox ∧ t.pending = s.pending) ∧
    (tget false s.pwr.good g = true → 2 ≤ g.val → s.dieUp dieK = true → ∃ t, exec (.pwrgoodLoss g) s = .next t ∧ t.pwr.fatal = true ∧
      t.optics.dark = true ∧ tget false t.pwr.good g = false ∧ t.mem = s.mem ∧ t.cells = s.cells)) ∧
  (∀ (m : Option (List Byte)) (small : Bool) (quotes badSt : List Nat) (faults : List (Nat × Nat × Nat)) (s : State),
    (List.range 5).all (tget false s.pwr.good) = false ∨ s.nrg.trip.isSome = true ∨ (s.pwr.started = true ∧ s.pwr.due = 0) →
    exec (.coldReset m small quotes badSt faults) s = .next s) ∧
  (∀ (small : Bool) (s : State), (List.range 5).all (tget false s.pwr.good) = true → s.nrg.trip = none → s.fuses.lifecycle = 0 →
    s.pwr.started = false ∨ s.pwr.due = 1 → s.pwr.due ≠ 2 →
    ∃ t, exec (.coldReset none small [] [] []) s = .next t ∧ t.pwr.started = true ∧ t.pwr.due = 0 ∧ t.boot = tget 0 s.store.mram.life 0 + 1 ∧
      t.meas 0 = shake256 (zeros 64 ++ Config.romDigest) 64 ∧ t.rb Reg.KEY_READY 0 = true ∧ t.sec.romWaits = true ∧ t.ticks = s.ticks ∧
      t.mem = { bytes := [], bad := [] } ∧ t.cells = [] ∧ t.slots = [] ∧ t.fuses = { s.fuses with smallFabric := small } ∧
      t.store.mram.log = s.store.mram.log ∧ (∀ d, t.dieUp d = false)) ∧
  (∀ (b : List Byte) (small : Bool) (s : State), (List.range 5).all (tget false s.pwr.good) = true → s.nrg.trip = none → s.fuses.lifecycle = 0 →
    s.pwr.started = false → s.pwr.due = 0 → (s.romStart true small).manCheck b = 0 → (∀ c, c < 4 → manClassOk b c = true) →
    ∃ t, exec (.coldReset (some b) small [] [] []) s = .next t ∧ (∀ d, d ≤ 22 → t.dieUp d = true) ∧ t.rb Reg.KEY_READY 1 = true ∧
      t.rb Reg.KEY_READY 20 = true ∧ t.sec.romWaits = false ∧ t.sec.fwVersion = bfld b 8 8)

/-- R488, R519, R556, R634, R639 to R643, R646, R651. -/
def Obligations.WarmResetResults : Prop :=
  (∀ s : State, s.dieUp dieK = true → s.nrg.trip = none → s.groupBase = none → (∀ p, noOwn s p) →
    let cleared := fun t : State => t.cells = [] ∧ t.reaches = [] ∧ t.slots = [] ∧ t.trg = [] ∧ t.plc = [] ∧ t.moves = [] ∧
      (∀ q, t.sq q = .reset) ∧ (∀ q, t.cq q = .reset) ∧ (∀ a, a < 0x10000000000 → t.byte a = s.byte a) ∧
      (∀ a, 0x10000000000 ≤ a → t.byte a = 0) ∧ t.ticks = s.ticks ∧ t.boot = s.boot ∧ t.fuses = s.fuses ∧
      t.store.mram.log = s.store.mram.log ∧ tget .zero t.nrg.ledgers 64 = .zero ∧ t.nrg.corr = s.nrg.corr
    (s.pwr.started = true → s.pstate ≠ 3 → s.rb Reg.KEY_READY 1 = true → ∃ t, exec .warmReset s = .next t ∧ cleared t ∧
      t.rf Reg.HQ_DEV_STATUS 0 2 = 1 ∧ t.sec.nonce = none ∧ (∀ r, r < 16 → t.meas r = s.meas r) ∧ (∀ r, 16 ≤ r → t.meas r = zeros 64)) ∧
    (writable s Reg.KEY_RESET_CTL → s.pwr.due = 0 → ∃ t, exec (.fabricReset .fabric 0xC3000003) s = .next t ∧ cleared t ∧
      t.rf Reg.HQ_DEV_STATUS 0 2 = 3 ∧ t.rb Reg.HQ_DEV_STATUS 2 = true ∧ t.sec = s.sec ∧ t.hq.ide = s.hq.ide ∧ t.hq.spdm = s.hq.spdm)) ∧
  (∀ s : State,
    (s.pwr.started = true → s.pwr.fatal = false → s.nrg.trip = none → s.pstate ≠ 3 → s.rb Reg.KEY_READY 1 = false →
      exec .warmReset s = .next { s with pwr := { s.pwr with due := 2 } }) ∧
    (s.pwr.started = false ∨ s.pwr.fatal = true ∨ s.nrg.trip.isSome = true ∨ s.pstate = 3 → exec .warmReset s = .next s)) ∧
  (∀ (o : Origin) (s : State), s.blockAnswers Reg.KEY_RESET_CTL = true → s.nrg.trip = none → s.pwr.due = 0 →
    (o ≠ .fabric → exec (.fabricReset o 0xC3000003) s = .next (resetErr 1 s)) ∧
    exec (.fabricReset o 0x42000003) s = .next (s.bump Reg.KEY_RSVD_WRITES))

/-- R644 to R648. -/
def Obligations.LocalResetResults : Prop :=
  (∀ (o : Origin) (v : Word) (q : Bool) (s : State), s.blockAnswers Reg.KEY_RESET_CTL = true → v &&& 0x00FE0000 = 0 →
    let all := fun (u : State) => exec (.dieHold o v) s = .next u ∧ exec (.dieRelease o v q) s = .next u ∧
      exec (.bedLinkReset o v) s = .next u ∧ exec (.portReset o v) s = .next u
    (v.fld 24 8 ≠ 0xC3 → all (s.bump Reg.KEY_RSVD_WRITES)) ∧
    (v.fld 24 8 = 0xC3 → 4 ≤ v.fld 0 3 →
      (s.nrg.trip.isSome = true → all (resetErr 4 s)) ∧
      (s.nrg.trip = none → s.pwr.due ≠ 0 → all (resetErr 3 s)) ∧
      (s.nrg.trip = none → s.pwr.due = 0 → s.asleep = true → all (resetErr 2 s)))) ∧
  (∀ (o : Origin) (die : Nat) (q : Bool) (s : State), writable s Reg.KEY_RESET_CTL → s.nrg.trip = none → s.pwr.due = 0 → die < 32 →
    let hold : Word := BitVec.ofNat 32 (0xC3000004 + 8 * die)
    let free : Word := BitVec.ofNat 32 (0xC3000007 + 8 * die)
    let r : DieRec := tget { status := 0, version := 0, meas := [] } s.sec.dies die
    let good := r.status ≠ 3 ∧ s.test.memFail.contains die = false ∧ (4 ≤ die → die < 20 → s.pwr.badStacks.contains (die - 4) = false)
    (22 ≤ die → exec (.dieHold o hold) s = .next (resetErr 5 s) ∧ exec (.dieRelease o free q) s = .next (resetErr 5 s)) ∧
    (die < 22 → s.released die = false → exec (.dieHold o hold) s = .next (resetErr 3 s)) ∧
    (die < 22 → s.released die = true → exec (.dieRelease o free q) s = .next (resetErr 5 s)) ∧
    (die < 22 → s.released die = true → ∃ t, exec (.dieHold o hold) s = .next t ∧ t.released die = false ∧
      (∀ d, d ≠ die → t.released d = s.released d) ∧ t.rf Reg.KEY_RESET_STATUS 26 3 = 4 ∧ t.rb Reg.HQ_DEV_STATUS 3 = true ∧
      s.log.next < t.log.next ∧ (die < 20 → t.mem = s.mem) ∧ (die < 4 → t.dvfsCur die = 8 ∧ t.dvfs die = none)) ∧
    (die < 22 → s.released die = false → good → q = true → ∃ t, exec (.dieRelease o free q) s = .next t ∧ t.released die = true ∧
      (∀ d, d ≠ die → t.released d = s.released d) ∧ t.rf Reg.KEY_RESET_STATUS 26 3 = 7 ∧
      t.meas (measReg die) = shake256 (s.meas (measReg die) ++ r.meas) 64 ∧
      (tget { status := 0, version := 0, meas := [] } t.sec.dies die).status = 0 ∧
      (∀ a, a < 0x10000000000 → t.byte a = s.byte a) ∧ (∀ a, die < 4 → 0x10000000000 ≤ a → sramDie a = die → t.byte a = 0)) ∧
    (die < 22 → s.released die = false → good → q = false → ∃ t, exec (.dieRelease o free q) s = .next t ∧ t.released = s.released ∧
      (tget { status := 0, version := 0, meas := [] } t.sec.dies die).status = 2 ∧ t.mem = s.mem ∧ t.cells = s.cells)) ∧
  (∀ (o : Origin) (a b : Nat) (s : State), writable s Reg.KEY_RESET_CTL → s.nrg.trip = none → s.pwr.due = 0 → a < 32 → b < 32 →
    let v : Word := BitVec.ofNat 32 (0xC3000005 + 8 * a + 256 * b)
    (linkExists a b = false → exec (.bedLinkReset o v) s = .next (resetErr 5 s)) ∧
    (linkExists a b = true → s.linkDies a b = true → s.linkRings a b = true → ∃ t, exec (.bedLinkReset o v) s = .next t ∧
      (t.link a b).state = .train ∧ otherLinks s t a b ∧ t.rf Reg.KEY_RESET_STATUS 26 3 = 5 ∧ t.mem = s.mem ∧ t.cells = s.cells ∧
      t.optics = s.optics)) ∧
  (∀ (o : Origin) (p : Fin 16) (s : State), writable s Reg.KEY_RESET_CTL → s.nrg.trip = none → s.pwr.due = 0 →
    let v : Word := BitVec.ofNat 32 (0xC3000006 + 8192 * p)
    let x := s.port p
    s.portDie p = true → x.state = .live → s.portEnabled p = true → s.bwValid p = true → s.portRings p = true → x.quiescing = false →
    x.quiesced = false → noOwn s p → ∃ t, exec (.portReset o v) s = .next t ∧ (t.port p).state = .train ∧ (t.port p).txOpen = true ∧
      (t.port p).unacked = [] ∧ (t.port p).held = [] ∧ (t.port p).session = nextSession x.session ∧ (t.port p).last = none ∧
      otherPorts s t p ∧ t.rf Reg.KEY_RESET_STATUS 26 3 = 6 ∧ t.mem = s.mem ∧ t.optics = s.optics)

/-- R655, R657 to R661, R670. -/
def Obligations.ErrorAndTestResults : Prop :=
  (∀ (o : Origin) (v : Word) (s : State), s.blockAnswers Reg.KEY_ERR_POP = true → s.errSel < s.err.length →
    let f := s.fifo s.errSel
    (∀ r rest, f.recs = r :: rest → r.seq = v → ∃ t, exec (.errorPop o v) s = .next t ∧ (t.fifo s.errSel).recs = rest ∧
      (t.fifo s.errSel).cfg = f.cfg ∧ (t.fifo s.errSel).overflow = f.overflow ∧ (∀ k, k ≠ s.errSel → t.fifo k = s.fifo k) ∧
      keeps s t [.err, .outbox]) ∧
    (∀ r rest, f.recs = r :: rest → r.seq ≠ v → exec (.errorPop o v) s = .next (s.bump Reg.KEY_RSVD_WRITES)) ∧
    (f.recs = [] → exec (.errorPop o v) s = .next (s.bump Reg.KEY_RSVD_WRITES))) ∧
  (∀ (d : Fin 4) (s : State), s.dieUp d = true → s.asleep = false →
    let k := tget 0 s.test.pos d
    let next := fun t : State => tget 0 t.test.pos d = (k + 1) % 98304
    (s.rb Reg.KEY_TEST_CTL 0 = false → ∀ l, exec (.transparentTestRegion d l .clear) s = .next s) ∧
    (s.rb Reg.KEY_TEST_CTL 0 = true → s.mem.bad = [] → s.calm (testRegion d k) 4096 = true →
      (∃ t, exec (.transparentTestRegion d [] .clear) s = .next t ∧ next t ∧ keeps s t [.test]) ∧
      (∀ w, w < 32 →
        let p := sramPlace (testRegion d k + 128 * w)
        let key := spareKey d p.1 p.2.1
        let n := tget 0 s.test.spares key
        (n < spareRows p.1 → ∃ t, exec (.transparentTestRegion d [w] .clear) s = .next t ∧ next t ∧ tget 0 t.test.spares key = n + 1 ∧
          (∀ j, j ≠ key → tget 0 t.test.spares j = tget 0 s.test.spares j) ∧
          (∃ r, t.store.queue = s.store.queue ++ [.repair r] ∧ r.kind = 1 ∧ r.die = (d : Nat) ∧ r.replacement = n) ∧
          keeps s t [.test, .store, .err, .errSeq, .outbox]) ∧
        (spareRows p.1 ≤ n → ∃ t, exec (.transparentTestRegion d [w] .clear) s = .next t ∧ next t ∧ t.test.spares = s.test.spares ∧
          keeps s t [.test, .store, .err, .errSeq, .outbox])))) ∧
  (∀ (o : Origin) (g : Nat) (destr : Bool) (s : State), writable s Reg.KEY_MARCH_CTL → g < 7 →
    let v : Word := BitVec.ofNat 32 (g + 8 * destr.toNat + 16)
    (s.test.march.isSome = true → exec (.marchPass o v) s = .next (marchErr 3 s)) ∧
    (s.test.march = none → s.marchOk g destr = true → ∃ t, exec (.marchPass o v) s = .next t ∧
      t.test = { s.test with march := some (g, destr) } ∧ keeps s t [.test, .regs, .log, .store]) ∧
    (s.test.march = none → s.marchOk g destr = false → ∃ t, exec (.marchPass o v) s = .next t ∧ t.rf Reg.KEY_MARCH_CTL 6 2 = 2 ∧
      keeps s t [.regs, .log, .store])) ∧
  (∀ (g : Nat) (destr : Bool) (s : State), s.test.march = some (g, destr) → s.dieUp (marchDie g) = true →
    (destr = false → ∃ t, exec (.marchPassComplete []) s = .next t ∧ t.test = { s.test with march := none } ∧
      t.rf Reg.KEY_MARCH_CTL 8 8 = 0 ∧ keeps s t [.test, .regs]) ∧
    (destr = true → g = 5 ∨ g = 6 → ∃ t, exec (.marchPassComplete []) s = .next t ∧ (t.span (g - 5)).trk = [] ∧ t.test.march = none ∧
      keeps s t [.test, .regs, .fab]) ∧
    (∀ bank row, destr = false → ∃ t, exec (.marchPassComplete [(bank, row)]) s = .next t ∧ t.test.march = none ∧
      t.rf Reg.KEY_MARCH_CTL 8 8 = 1 ∧
      (let key := spareKey (marchDie g) (512 + g) bank
       (s.freeVal % 2 = 1 → tget 0 t.test.spares key = tget 0 s.test.spares key + 1 ∧ t.mem = s.mem) ∧
       (s.freeVal % 2 = 0 → g = 0 → t.pwr.fatal = true ∧ t.mem = s.mem) ∧
       (s.freeVal % 2 = 0 → 1 ≤ g → g < 5 → (t.cu (g - 1)).calFault = true ∧ t.mem = s.mem)))) ∧
  (∀ (faults : List (Nat × Nat)) (s : State), s.test.march = none → exec (.marchPassComplete faults) s = .next s)

/-- The queue is the model's own: log entries 1, 2, 11 and 61. -/
def Obligations.StepRunsFrontCommand : Prop :=
  (∀ (c : Instr) (rest : List Instr) (s : State), s.pending = c :: rest → step s = exec c { s with pending := rest }) ∧
  (∀ s : State, s.pending = [] → (∀ ci, s.atReserved ci = false) → (∀ k, s.linkBusy k = false) → (∀ p, s.portBusy p = false) →
    step s = .next s) ∧
  (∀ (ci : Nat) (s : State), s.pending = [] → (s.cells.map (·.1)).find? s.atReserved = some ci → (s.cell ci).traps 10 = true →
    ∃ t, step s = .next t ∧ (t.cell ci).phase = .trapped 10 ∧ (t.cell ci).pc = (s.cell ci).pc ∧
      (t.cell ci).fault = faultWord (s.cell ci).pc 10 ((s.fetchWord ci).toNat / 2 ^ 120) ∧ (t.cell ci).status = (s.cell ci).status ||| 0x400 ∧
      (∀ i, i ≠ ci → t.cell i = s.cell i) ∧ keeps s t [.cells, .err, .errSeq, .outbox, .store]) ∧
  (∀ s : State, s.pending = [] → (s.cells.map (·.1)).find? s.atReserved = none →
    (∀ k, (s.bed.links.map (·.1)).find? s.linkBusy = some k → step s = .next (s.sendPeriod (k / 32) (k % 32))) ∧
    (∀ p, (s.bed.links.map (·.1)).find? s.linkBusy = none → (s.ports.map (·.1)).find? s.portBusy = some p → step s = .next (s.sendFrame p))) ∧
  (∀ (c : Instr) (s : State), answersNext (exec c s) = true)

/-- R94, R96, R97. -/
def Obligations.CellWordsRoundTrip : Prop :=
  (∀ (i : Instr) (w : BitVec 128) (c : CellId) (pe : PortEv), encodeCell i = some w → cellOf i = some (c, pe) → decodeCell c pe w = some i) ∧
  (∀ (c : CellId) (pe : PortEv) (w : BitVec 128) (i : Instr), decodeCell c pe w = some i →
    encodeCell i = some w ∧ (cellOf i = some (c, pe) ∨ cellOf i = some (c, .clear))) ∧
  (∀ (c : CellId) (pe : PortEv) (w : BitVec 128),
    let op := (w.extractLsb' 120 8).toNat
    decodeCell c pe w = none ↔ (0x06 ≤ op ∧ op ≤ 0x0F) ∨ op = 0x1F ∨ (0x26 ≤ op ∧ op ≤ 0x2F) ∨ (0x35 ≤ op ∧ op ≤ 0x3F) ∨
      (0x47 ≤ op ∧ op ≤ 0x4F) ∨ (0x6C ≤ op ∧ op ≤ 0x6F) ∨ (0x71 ≤ op ∧ op ≤ 0x7F) ∨ (0x85 ≤ op ∧ op ≤ 0x8F) ∨ 0x94 ≤ op)

/-- R9. -/
def Obligations.RegisterAccessWidth : Prop :=
  (∀ (off : Nat) (d : RegDesc), regAt off = some d → off % 4 = 0 ∧ off < 0x4000000) ∧
  (∀ (o : Origin) (off width : Nat) (v hw : Word) (s : State), s.blockAnswers off = true → off < 0x4000000 → width ≠ 32 ∨ off % 4 ≠ 0 →
    exec (.registerWrite o off width v hw) s = .next (s.bump Reg.KEY_RSVD_WRITES) ∧
    s.readReg off width = (s.bump Reg.KEY_RSVD_WRITES, (0 : BitVec 32)))

/-- R525. -/
def Obligations.BurstRegister : Prop :=
  (∃ d, regAt 0x200004 = some d ∧ d.dom = .cold ∧ d.base = Reg.NRG_BURST) ∧ State.reset.view 0x200004 = 0x3E8 ∧
  (∀ (o : Origin) (v : Word) (s : State), writable s 0x200004 → v.toNat % 8192 ≤ 5000 →
    ∃ t, exec (.registerWrite o 0x200004 32 v 0) s = .next t ∧ t.view 0x200004 = v &&& 0x1FFF ∧
      t.log.next = s.log.next + 1 ∧
      (v.toNat < 8192 → loggedAs s t o 0x200004 (s.reg 0x200004) v 0x1FFF) ∧
      (∀ q, q ≠ 0x200004 → q ≠ Reg.KEY_PST_STATUS → q ≠ Reg.KEY_RSVD_WRITES → t.reg q = s.reg q) ∧
      t.reg Reg.KEY_RSVD_WRITES = (if v.toNat < 8192 then s.reg Reg.KEY_RSVD_WRITES else satAdd (s.reg Reg.KEY_RSVD_WRITES) 1) ∧
      keeps s t [.regs, .log, .store]) ∧
  (∀ (o : Origin) (v : Word) (s : State), writable s 0x200004 → 5000 < v.toNat % 8192 →
    exec (.registerWrite o 0x200004 32 v 0) s =
      .next ((if v.toNat < 8192 then s else s.bump Reg.KEY_RSVD_WRITES).setRf Reg.NRG_STATUS 25 3 2))

/-- The reset columns of R3, R243, R244, R277, R315, R354, R408 to R411, R414, R458, R460, R496, R498, R524 to R526, R531 to R534, R593, R637,
R667, R669. -/
def Obligations.ResetState : Prop :=
  canonical State.reset ∧ State.reset.pending = [] ∧ State.reset.regs = [] ∧ State.reset.mem = { bytes := [], bad := [] } ∧
  (∀ d, State.reset.dieUp d = false) ∧ (∀ g, tget false State.reset.pwr.good g = false) ∧
  (∀ x ∈ [(Reg.KEY_IDENT, 0x4C160110), (Reg.KEY_SLOT_POL0, 0x100010), (Reg.KEY_SLOT_POL1, 0x2000040), (Reg.Tt_CU_CTRL 2, 2),
      (Reg.BED_REGION_CTL, 1), (Reg.BED_LANE_STATUS, 5), (Reg.Sd_PORTp_STATE 11, 8), (Reg.Sd_PORTp_CTL 3, 0x2C28),
      (Reg.Sd_PORTp_TIMERS 15, 0xA03200A), (Reg.Sd_PORTp_CREDIT0 4, 0x7C00100), (Reg.Sd_PORTp_CREDIT1 4, 0x7C007C0),
      (Reg.Sd_PORTp_LANE_STATUS 9, 5), (Reg.KEY_FAB_STATUS, 0x1F8), (Reg.Sd_TRK_CTL 1, 0xC8), (Reg.HQ_BAR4_WIN, 0x240000),
      (Reg.HQ_MBOXm_STATUS 1023, 0xFF), (Reg.NRG_POWER_CAP, 0xE10), (Reg.NRG_BURST, 0x3E8), (Reg.NRG_RAMP, 0x8A8), (Reg.NRG_PSTATE, 0x10),
      (Reg.NRG_DVFSt 3, 0x808), (Reg.NRG_THERM_CFG, 0x3B2ADF), (Reg.NRG_THROTTLEt 1, 0x400), (Reg.NRG_THROTTLE_PKG, 0x400),
      (Reg.SEC_EXTEND_CTL, 0x10), (Reg.KEY_READY_MS, 0xFFFFFFFF), (Reg.KEY_ERR_FIFO_CFG, 0x1801), (Reg.KEY_TEST_CTL, 0x31)],
    (State.reset.view x.1).toNat = x.2)

/-- The canonical form is the model's own: log entry 4. -/
def Obligations.StepKeepsCanonical : Prop := ∀ s t : State, canonical s → step s = .next t → canonical t

/-- R554, R562, R563. -/
def Obligations.FusesAreOneWay : Prop :=
  ∀ s t : State, step s = .next t → s.fuses.lifecycle ≤ t.fuses.lifecycle ∧ t.fuses.stackHeight = s.fuses.stackHeight ∧
    t.fuses.stepping = s.fuses.stepping ∧
    ∀ c, s.fuses.svn.getD c 0 ≤ t.fuses.svn.getD c 0 ∧ t.fuses.svn.getD c 0 ≤ s.fuses.svn.getD c 0 + 1

/-- No meaning stops: log entry 2. -/
def Obligations.EveryCommandAnswers : Prop := ∀ (i : Instr) (s : State), ∃ t, exec i s = .next t
end

