-- ==== Sys2Proof/Laws/State.lean ====
section
/-! SUPPORT. What each update of the state leaves as it was: one lemma per update and field, true by unfolding. -/

set_option Elab.async false

namespace Sys2Proof.Machine

variable (s : State)

/-! `State.setReg` writes `regs` alone. -/
@[simp] theorem State.setReg_pending (off : Nat) (v : Word) : (s.setReg off v).pending = s.pending := (rfl)
@[simp] theorem State.setReg_freeIdx (off : Nat) (v : Word) : (s.setReg off v).freeIdx = s.freeIdx := (rfl)
@[simp] theorem State.setReg_opNext (off : Nat) (v : Word) : (s.setReg off v).opNext = s.opNext := (rfl)
@[simp] theorem State.setReg_outbox (off : Nat) (v : Word) : (s.setReg off v).outbox = s.outbox := (rfl)
@[simp] theorem State.setReg_fuses (off : Nat) (v : Word) : (s.setReg off v).fuses = s.fuses := (rfl)
@[simp] theorem State.setReg_ticks (off : Nat) (v : Word) : (s.setReg off v).ticks = s.ticks := (rfl)
@[simp] theorem State.setReg_mem (off : Nat) (v : Word) : (s.setReg off v).mem = s.mem := (rfl)
@[simp] theorem State.setReg_trg (off : Nat) (v : Word) : (s.setReg off v).trg = s.trg := (rfl)
@[simp] theorem State.setReg_trgCommit (off : Nat) (v : Word) : (s.setReg off v).trgCommit = s.trgCommit := (rfl)
@[simp] theorem State.setReg_reaches (off : Nat) (v : Word) : (s.setReg off v).reaches = s.reaches := (rfl)
@[simp] theorem State.setReg_plc (off : Nat) (v : Word) : (s.setReg off v).plc = s.plc := (rfl)
@[simp] theorem State.setReg_cells (off : Nat) (v : Word) : (s.setReg off v).cells = s.cells := (rfl)
@[simp] theorem State.setReg_seedBase (off : Nat) (v : Word) : (s.setReg off v).seedBase = s.seedBase := (rfl)
@[simp] theorem State.setReg_moves (off : Nat) (v : Word) : (s.setReg off v).moves = s.moves := (rfl)
@[simp] theorem State.setReg_clash (off : Nat) (v : Word) : (s.setReg off v).clash = s.clash := (rfl)
@[simp] theorem State.setReg_weirs (off : Nat) (v : Word) : (s.setReg off v).weirs = s.weirs := (rfl)
@[simp] theorem State.setReg_slots (off : Nat) (v : Word) : (s.setReg off v).slots = s.slots := (rfl)
@[simp] theorem State.setReg_slotAct (off : Nat) (v : Word) : (s.setReg off v).slotAct = s.slotAct := (rfl)
@[simp] theorem State.setReg_cus (off : Nat) (v : Word) : (s.setReg off v).cus = s.cus := (rfl)
@[simp] theorem State.setReg_optics (off : Nat) (v : Word) : (s.setReg off v).optics = s.optics := (rfl)
@[simp] theorem State.setReg_bed (off : Nat) (v : Word) : (s.setReg off v).bed = s.bed := (rfl)
@[simp] theorem State.setReg_ports (off : Nat) (v : Word) : (s.setReg off v).ports = s.ports := (rfl)
@[simp] theorem State.setReg_svcs (off : Nat) (v : Word) : (s.setReg off v).svcs = s.svcs := (rfl)
@[simp] theorem State.setReg_fab (off : Nat) (v : Word) : (s.setReg off v).fab = s.fab := (rfl)
@[simp] theorem State.setReg_hq (off : Nat) (v : Word) : (s.setReg off v).hq = s.hq := (rfl)
@[simp] theorem State.setReg_nrg (off : Nat) (v : Word) : (s.setReg off v).nrg = s.nrg := (rfl)
@[simp] theorem State.setReg_sec (off : Nat) (v : Word) : (s.setReg off v).sec = s.sec := (rfl)
@[simp] theorem State.setReg_log (off : Nat) (v : Word) : (s.setReg off v).log = s.log := (rfl)
@[simp] theorem State.setReg_store (off : Nat) (v : Word) : (s.setReg off v).store = s.store := (rfl)
@[simp] theorem State.setReg_errSeq (off : Nat) (v : Word) : (s.setReg off v).errSeq = s.errSeq := (rfl)
@[simp] theorem State.setReg_err (off : Nat) (v : Word) : (s.setReg off v).err = s.err := (rfl)
@[simp] theorem State.setReg_test (off : Nat) (v : Word) : (s.setReg off v).test = s.test := (rfl)
@[simp] theorem State.setReg_pwr (off : Nat) (v : Word) : (s.setReg off v).pwr = s.pwr := (rfl)

/-! `State.setRf` writes `regs` alone. -/
@[simp] theorem State.setRf_pending (off lo w v : Nat) : (s.setRf off lo w v).pending = s.pending := (rfl)
@[simp] theorem State.setRf_freeIdx (off lo w v : Nat) : (s.setRf off lo w v).freeIdx = s.freeIdx := (rfl)
@[simp] theorem State.setRf_opNext (off lo w v : Nat) : (s.setRf off lo w v).opNext = s.opNext := (rfl)
@[simp] theorem State.setRf_outbox (off lo w v : Nat) : (s.setRf off lo w v).outbox = s.outbox := (rfl)
@[simp] theorem State.setRf_fuses (off lo w v : Nat) : (s.setRf off lo w v).fuses = s.fuses := (rfl)
@[simp] theorem State.setRf_ticks (off lo w v : Nat) : (s.setRf off lo w v).ticks = s.ticks := (rfl)
@[simp] theorem State.setRf_mem (off lo w v : Nat) : (s.setRf off lo w v).mem = s.mem := (rfl)
@[simp] theorem State.setRf_trg (off lo w v : Nat) : (s.setRf off lo w v).trg = s.trg := (rfl)
@[simp] theorem State.setRf_trgCommit (off lo w v : Nat) : (s.setRf off lo w v).trgCommit = s.trgCommit := (rfl)
@[simp] theorem State.setRf_reaches (off lo w v : Nat) : (s.setRf off lo w v).reaches = s.reaches := (rfl)
@[simp] theorem State.setRf_plc (off lo w v : Nat) : (s.setRf off lo w v).plc = s.plc := (rfl)
@[simp] theorem State.setRf_cells (off lo w v : Nat) : (s.setRf off lo w v).cells = s.cells := (rfl)
@[simp] theorem State.setRf_seedBase (off lo w v : Nat) : (s.setRf off lo w v).seedBase = s.seedBase := (rfl)
@[simp] theorem State.setRf_moves (off lo w v : Nat) : (s.setRf off lo w v).moves = s.moves := (rfl)
@[simp] theorem State.setRf_clash (off lo w v : Nat) : (s.setRf off lo w v).clash = s.clash := (rfl)
@[simp] theorem State.setRf_weirs (off lo w v : Nat) : (s.setRf off lo w v).weirs = s.weirs := (rfl)
@[simp] theorem State.setRf_slots (off lo w v : Nat) : (s.setRf off lo w v).slots = s.slots := (rfl)
@[simp] theorem State.setRf_slotAct (off lo w v : Nat) : (s.setRf off lo w v).slotAct = s.slotAct := (rfl)
@[simp] theorem State.setRf_cus (off lo w v : Nat) : (s.setRf off lo w v).cus = s.cus := (rfl)
@[simp] theorem State.setRf_optics (off lo w v : Nat) : (s.setRf off lo w v).optics = s.optics := (rfl)
@[simp] theorem State.setRf_bed (off lo w v : Nat) : (s.setRf off lo w v).bed = s.bed := (rfl)
@[simp] theorem State.setRf_ports (off lo w v : Nat) : (s.setRf off lo w v).ports = s.ports := (rfl)
@[simp] theorem State.setRf_svcs (off lo w v : Nat) : (s.setRf off lo w v).svcs = s.svcs := (rfl)
@[simp] theorem State.setRf_fab (off lo w v : Nat) : (s.setRf off lo w v).fab = s.fab := (rfl)
@[simp] theorem State.setRf_hq (off lo w v : Nat) : (s.setRf off lo w v).hq = s.hq := (rfl)
@[simp] theorem State.setRf_nrg (off lo w v : Nat) : (s.setRf off lo w v).nrg = s.nrg := (rfl)
@[simp] theorem State.setRf_sec (off lo w v : Nat) : (s.setRf off lo w v).sec = s.sec := (rfl)
@[simp] theorem State.setRf_log (off lo w v : Nat) : (s.setRf off lo w v).log = s.log := (rfl)
@[simp] theorem State.setRf_store (off lo w v : Nat) : (s.setRf off lo w v).store = s.store := (rfl)
@[simp] theorem State.setRf_errSeq (off lo w v : Nat) : (s.setRf off lo w v).errSeq = s.errSeq := (rfl)
@[simp] theorem State.setRf_err (off lo w v : Nat) : (s.setRf off lo w v).err = s.err := (rfl)
@[simp] theorem State.setRf_test (off lo w v : Nat) : (s.setRf off lo w v).test = s.test := (rfl)
@[simp] theorem State.setRf_pwr (off lo w v : Nat) : (s.setRf off lo w v).pwr = s.pwr := (rfl)

/-! `State.setRb` writes `regs` alone. -/
@[simp] theorem State.setRb_pending (off i : Nat) (b : Bool) : (s.setRb off i b).pending = s.pending := (rfl)
@[simp] theorem State.setRb_freeIdx (off i : Nat) (b : Bool) : (s.setRb off i b).freeIdx = s.freeIdx := (rfl)
@[simp] theorem State.setRb_opNext (off i : Nat) (b : Bool) : (s.setRb off i b).opNext = s.opNext := (rfl)
@[simp] theorem State.setRb_outbox (off i : Nat) (b : Bool) : (s.setRb off i b).outbox = s.outbox := (rfl)
@[simp] theorem State.setRb_fuses (off i : Nat) (b : Bool) : (s.setRb off i b).fuses = s.fuses := (rfl)
@[simp] theorem State.setRb_ticks (off i : Nat) (b : Bool) : (s.setRb off i b).ticks = s.ticks := (rfl)
@[simp] theorem State.setRb_mem (off i : Nat) (b : Bool) : (s.setRb off i b).mem = s.mem := (rfl)
@[simp] theorem State.setRb_trg (off i : Nat) (b : Bool) : (s.setRb off i b).trg = s.trg := (rfl)
@[simp] theorem State.setRb_trgCommit (off i : Nat) (b : Bool) : (s.setRb off i b).trgCommit = s.trgCommit := (rfl)
@[simp] theorem State.setRb_reaches (off i : Nat) (b : Bool) : (s.setRb off i b).reaches = s.reaches := (rfl)
@[simp] theorem State.setRb_plc (off i : Nat) (b : Bool) : (s.setRb off i b).plc = s.plc := (rfl)
@[simp] theorem State.setRb_cells (off i : Nat) (b : Bool) : (s.setRb off i b).cells = s.cells := (rfl)
@[simp] theorem State.setRb_seedBase (off i : Nat) (b : Bool) : (s.setRb off i b).seedBase = s.seedBase := (rfl)
@[simp] theorem State.setRb_moves (off i : Nat) (b : Bool) : (s.setRb off i b).moves = s.moves := (rfl)
@[simp] theorem State.setRb_clash (off i : Nat) (b : Bool) : (s.setRb off i b).clash = s.clash := (rfl)
@[simp] theorem State.setRb_weirs (off i : Nat) (b : Bool) : (s.setRb off i b).weirs = s.weirs := (rfl)
@[simp] theorem State.setRb_slots (off i : Nat) (b : Bool) : (s.setRb off i b).slots = s.slots := (rfl)
@[simp] theorem State.setRb_slotAct (off i : Nat) (b : Bool) : (s.setRb off i b).slotAct = s.slotAct := (rfl)
@[simp] theorem State.setRb_cus (off i : Nat) (b : Bool) : (s.setRb off i b).cus = s.cus := (rfl)
@[simp] theorem State.setRb_optics (off i : Nat) (b : Bool) : (s.setRb off i b).optics = s.optics := (rfl)
@[simp] theorem State.setRb_bed (off i : Nat) (b : Bool) : (s.setRb off i b).bed = s.bed := (rfl)
@[simp] theorem State.setRb_ports (off i : Nat) (b : Bool) : (s.setRb off i b).ports = s.ports := (rfl)
@[simp] theorem State.setRb_svcs (off i : Nat) (b : Bool) : (s.setRb off i b).svcs = s.svcs := (rfl)
@[simp] theorem State.setRb_fab (off i : Nat) (b : Bool) : (s.setRb off i b).fab = s.fab := (rfl)
@[simp] theorem State.setRb_hq (off i : Nat) (b : Bool) : (s.setRb off i b).hq = s.hq := (rfl)
@[simp] theorem State.setRb_nrg (off i : Nat) (b : Bool) : (s.setRb off i b).nrg = s.nrg := (rfl)
@[simp] theorem State.setRb_sec (off i : Nat) (b : Bool) : (s.setRb off i b).sec = s.sec := (rfl)
@[simp] theorem State.setRb_log (off i : Nat) (b : Bool) : (s.setRb off i b).log = s.log := (rfl)
@[simp] theorem State.setRb_store (off i : Nat) (b : Bool) : (s.setRb off i b).store = s.store := (rfl)
@[simp] theorem State.setRb_errSeq (off i : Nat) (b : Bool) : (s.setRb off i b).errSeq = s.errSeq := (rfl)
@[simp] theorem State.setRb_err (off i : Nat) (b : Bool) : (s.setRb off i b).err = s.err := (rfl)
@[simp] theorem State.setRb_test (off i : Nat) (b : Bool) : (s.setRb off i b).test = s.test := (rfl)
@[simp] theorem State.setRb_pwr (off i : Nat) (b : Bool) : (s.setRb off i b).pwr = s.pwr := (rfl)

/-! `State.bumpN` writes `regs` alone. -/
@[simp] theorem State.bumpN_pending (off n : Nat) : (s.bumpN off n).pending = s.pending := (rfl)
@[simp] theorem State.bumpN_freeIdx (off n : Nat) : (s.bumpN off n).freeIdx = s.freeIdx := (rfl)
@[simp] theorem State.bumpN_opNext (off n : Nat) : (s.bumpN off n).opNext = s.opNext := (rfl)
@[simp] theorem State.bumpN_outbox (off n : Nat) : (s.bumpN off n).outbox = s.outbox := (rfl)
@[simp] theorem State.bumpN_fuses (off n : Nat) : (s.bumpN off n).fuses = s.fuses := (rfl)
@[simp] theorem State.bumpN_ticks (off n : Nat) : (s.bumpN off n).ticks = s.ticks := (rfl)
@[simp] theorem State.bumpN_mem (off n : Nat) : (s.bumpN off n).mem = s.mem := (rfl)
@[simp] theorem State.bumpN_trg (off n : Nat) : (s.bumpN off n).trg = s.trg := (rfl)
@[simp] theorem State.bumpN_trgCommit (off n : Nat) : (s.bumpN off n).trgCommit = s.trgCommit := (rfl)
@[simp] theorem State.bumpN_reaches (off n : Nat) : (s.bumpN off n).reaches = s.reaches := (rfl)
@[simp] theorem State.bumpN_plc (off n : Nat) : (s.bumpN off n).plc = s.plc := (rfl)
@[simp] theorem State.bumpN_cells (off n : Nat) : (s.bumpN off n).cells = s.cells := (rfl)
@[simp] theorem State.bumpN_seedBase (off n : Nat) : (s.bumpN off n).seedBase = s.seedBase := (rfl)
@[simp] theorem State.bumpN_moves (off n : Nat) : (s.bumpN off n).moves = s.moves := (rfl)
@[simp] theorem State.bumpN_clash (off n : Nat) : (s.bumpN off n).clash = s.clash := (rfl)
@[simp] theorem State.bumpN_weirs (off n : Nat) : (s.bumpN off n).weirs = s.weirs := (rfl)
@[simp] theorem State.bumpN_slots (off n : Nat) : (s.bumpN off n).slots = s.slots := (rfl)
@[simp] theorem State.bumpN_slotAct (off n : Nat) : (s.bumpN off n).slotAct = s.slotAct := (rfl)
@[simp] theorem State.bumpN_cus (off n : Nat) : (s.bumpN off n).cus = s.cus := (rfl)
@[simp] theorem State.bumpN_optics (off n : Nat) : (s.bumpN off n).optics = s.optics := (rfl)
@[simp] theorem State.bumpN_bed (off n : Nat) : (s.bumpN off n).bed = s.bed := (rfl)
@[simp] theorem State.bumpN_ports (off n : Nat) : (s.bumpN off n).ports = s.ports := (rfl)
@[simp] theorem State.bumpN_svcs (off n : Nat) : (s.bumpN off n).svcs = s.svcs := (rfl)
@[simp] theorem State.bumpN_fab (off n : Nat) : (s.bumpN off n).fab = s.fab := (rfl)
@[simp] theorem State.bumpN_hq (off n : Nat) : (s.bumpN off n).hq = s.hq := (rfl)
@[simp] theorem State.bumpN_nrg (off n : Nat) : (s.bumpN off n).nrg = s.nrg := (rfl)
@[simp] theorem State.bumpN_sec (off n : Nat) : (s.bumpN off n).sec = s.sec := (rfl)
@[simp] theorem State.bumpN_log (off n : Nat) : (s.bumpN off n).log = s.log := (rfl)
@[simp] theorem State.bumpN_store (off n : Nat) : (s.bumpN off n).store = s.store := (rfl)
@[simp] theorem State.bumpN_errSeq (off n : Nat) : (s.bumpN off n).errSeq = s.errSeq := (rfl)
@[simp] theorem State.bumpN_err (off n : Nat) : (s.bumpN off n).err = s.err := (rfl)
@[simp] theorem State.bumpN_test (off n : Nat) : (s.bumpN off n).test = s.test := (rfl)
@[simp] theorem State.bumpN_pwr (off n : Nat) : (s.bumpN off n).pwr = s.pwr := (rfl)

/-! `State.bump` writes `regs` alone. -/
@[simp] theorem State.bump_pending (off : Nat) : (s.bump off).pending = s.pending := (rfl)
@[simp] theorem State.bump_freeIdx (off : Nat) : (s.bump off).freeIdx = s.freeIdx := (rfl)
@[simp] theorem State.bump_opNext (off : Nat) : (s.bump off).opNext = s.opNext := (rfl)
@[simp] theorem State.bump_outbox (off : Nat) : (s.bump off).outbox = s.outbox := (rfl)
@[simp] theorem State.bump_fuses (off : Nat) : (s.bump off).fuses = s.fuses := (rfl)
@[simp] theorem State.bump_ticks (off : Nat) : (s.bump off).ticks = s.ticks := (rfl)
@[simp] theorem State.bump_mem (off : Nat) : (s.bump off).mem = s.mem := (rfl)
@[simp] theorem State.bump_trg (off : Nat) : (s.bump off).trg = s.trg := (rfl)
@[simp] theorem State.bump_trgCommit (off : Nat) : (s.bump off).trgCommit = s.trgCommit := (rfl)
@[simp] theorem State.bump_reaches (off : Nat) : (s.bump off).reaches = s.reaches := (rfl)
@[simp] theorem State.bump_plc (off : Nat) : (s.bump off).plc = s.plc := (rfl)
@[simp] theorem State.bump_cells (off : Nat) : (s.bump off).cells = s.cells := (rfl)
@[simp] theorem State.bump_seedBase (off : Nat) : (s.bump off).seedBase = s.seedBase := (rfl)
@[simp] theorem State.bump_moves (off : Nat) : (s.bump off).moves = s.moves := (rfl)
@[simp] theorem State.bump_clash (off : Nat) : (s.bump off).clash = s.clash := (rfl)
@[simp] theorem State.bump_weirs (off : Nat) : (s.bump off).weirs = s.weirs := (rfl)
@[simp] theorem State.bump_slots (off : Nat) : (s.bump off).slots = s.slots := (rfl)
@[simp] theorem State.bump_slotAct (off : Nat) : (s.bump off).slotAct = s.slotAct := (rfl)
@[simp] theorem State.bump_cus (off : Nat) : (s.bump off).cus = s.cus := (rfl)
@[simp] theorem State.bump_optics (off : Nat) : (s.bump off).optics = s.optics := (rfl)
@[simp] theorem State.bump_bed (off : Nat) : (s.bump off).bed = s.bed := (rfl)
@[simp] theorem State.bump_ports (off : Nat) : (s.bump off).ports = s.ports := (rfl)
@[simp] theorem State.bump_svcs (off : Nat) : (s.bump off).svcs = s.svcs := (rfl)
@[simp] theorem State.bump_fab (off : Nat) : (s.bump off).fab = s.fab := (rfl)
@[simp] theorem State.bump_hq (off : Nat) : (s.bump off).hq = s.hq := (rfl)
@[simp] theorem State.bump_nrg (off : Nat) : (s.bump off).nrg = s.nrg := (rfl)
@[simp] theorem State.bump_sec (off : Nat) : (s.bump off).sec = s.sec := (rfl)
@[simp] theorem State.bump_log (off : Nat) : (s.bump off).log = s.log := (rfl)
@[simp] theorem State.bump_store (off : Nat) : (s.bump off).store = s.store := (rfl)
@[simp] theorem State.bump_errSeq (off : Nat) : (s.bump off).errSeq = s.errSeq := (rfl)
@[simp] theorem State.bump_err (off : Nat) : (s.bump off).err = s.err := (rfl)
@[simp] theorem State.bump_test (off : Nat) : (s.bump off).test = s.test := (rfl)
@[simp] theorem State.bump_pwr (off : Nat) : (s.bump off).pwr = s.pwr := (rfl)

/-! `State.takeFree` writes `freeIdx` alone. -/
@[simp] theorem State.takeFree_pending (n : Nat) : (s.takeFree n).pending = s.pending := (rfl)
@[simp] theorem State.takeFree_opNext (n : Nat) : (s.takeFree n).opNext = s.opNext := (rfl)
@[simp] theorem State.takeFree_outbox (n : Nat) : (s.takeFree n).outbox = s.outbox := (rfl)
@[simp] theorem State.takeFree_fuses (n : Nat) : (s.takeFree n).fuses = s.fuses := (rfl)
@[simp] theorem State.takeFree_ticks (n : Nat) : (s.takeFree n).ticks = s.ticks := (rfl)
@[simp] theorem State.takeFree_regs (n : Nat) : (s.takeFree n).regs = s.regs := (rfl)
@[simp] theorem State.takeFree_mem (n : Nat) : (s.takeFree n).mem = s.mem := (rfl)
@[simp] theorem State.takeFree_trg (n : Nat) : (s.takeFree n).trg = s.trg := (rfl)
@[simp] theorem State.takeFree_trgCommit (n : Nat) : (s.takeFree n).trgCommit = s.trgCommit := (rfl)
@[simp] theorem State.takeFree_reaches (n : Nat) : (s.takeFree n).reaches = s.reaches := (rfl)
@[simp] theorem State.takeFree_plc (n : Nat) : (s.takeFree n).plc = s.plc := (rfl)
@[simp] theorem State.takeFree_cells (n : Nat) : (s.takeFree n).cells = s.cells := (rfl)
@[simp] theorem State.takeFree_seedBase (n : Nat) : (s.takeFree n).seedBase = s.seedBase := (rfl)
@[simp] theorem State.takeFree_moves (n : Nat) : (s.takeFree n).moves = s.moves := (rfl)
@[simp] theorem State.takeFree_clash (n : Nat) : (s.takeFree n).clash = s.clash := (rfl)
@[simp] theorem State.takeFree_weirs (n : Nat) : (s.takeFree n).weirs = s.weirs := (rfl)
@[simp] theorem State.takeFree_slots (n : Nat) : (s.takeFree n).slots = s.slots := (rfl)
@[simp] theorem State.takeFree_slotAct (n : Nat) : (s.takeFree n).slotAct = s.slotAct := (rfl)
@[simp] theorem State.takeFree_cus (n : Nat) : (s.takeFree n).cus = s.cus := (rfl)
@[simp] theorem State.takeFree_optics (n : Nat) : (s.takeFree n).optics = s.optics := (rfl)
@[simp] theorem State.takeFree_bed (n : Nat) : (s.takeFree n).bed = s.bed := (rfl)
@[simp] theorem State.takeFree_ports (n : Nat) : (s.takeFree n).ports = s.ports := (rfl)
@[simp] theorem State.takeFree_svcs (n : Nat) : (s.takeFree n).svcs = s.svcs := (rfl)
@[simp] theorem State.takeFree_fab (n : Nat) : (s.takeFree n).fab = s.fab := (rfl)
@[simp] theorem State.takeFree_hq (n : Nat) : (s.takeFree n).hq = s.hq := (rfl)
@[simp] theorem State.takeFree_nrg (n : Nat) : (s.takeFree n).nrg = s.nrg := (rfl)
@[simp] theorem State.takeFree_sec (n : Nat) : (s.takeFree n).sec = s.sec := (rfl)
@[simp] theorem State.takeFree_log (n : Nat) : (s.takeFree n).log = s.log := (rfl)
@[simp] theorem State.takeFree_store (n : Nat) : (s.takeFree n).store = s.store := (rfl)
@[simp] theorem State.takeFree_errSeq (n : Nat) : (s.takeFree n).errSeq = s.errSeq := (rfl)
@[simp] theorem State.takeFree_err (n : Nat) : (s.takeFree n).err = s.err := (rfl)
@[simp] theorem State.takeFree_test (n : Nat) : (s.takeFree n).test = s.test := (rfl)
@[simp] theorem State.takeFree_pwr (n : Nat) : (s.takeFree n).pwr = s.pwr := (rfl)

/-! `State.emit` writes `outbox` alone. -/
@[simp] theorem State.emit_pending (o : Out) : (s.emit o).pending = s.pending := (rfl)
@[simp] theorem State.emit_freeIdx (o : Out) : (s.emit o).freeIdx = s.freeIdx := (rfl)
@[simp] theorem State.emit_opNext (o : Out) : (s.emit o).opNext = s.opNext := (rfl)
@[simp] theorem State.emit_fuses (o : Out) : (s.emit o).fuses = s.fuses := (rfl)
@[simp] theorem State.emit_ticks (o : Out) : (s.emit o).ticks = s.ticks := (rfl)
@[simp] theorem State.emit_regs (o : Out) : (s.emit o).regs = s.regs := (rfl)
@[simp] theorem State.emit_mem (o : Out) : (s.emit o).mem = s.mem := (rfl)
@[simp] theorem State.emit_trg (o : Out) : (s.emit o).trg = s.trg := (rfl)
@[simp] theorem State.emit_trgCommit (o : Out) : (s.emit o).trgCommit = s.trgCommit := (rfl)
@[simp] theorem State.emit_reaches (o : Out) : (s.emit o).reaches = s.reaches := (rfl)
@[simp] theorem State.emit_plc (o : Out) : (s.emit o).plc = s.plc := (rfl)
@[simp] theorem State.emit_cells (o : Out) : (s.emit o).cells = s.cells := (rfl)
@[simp] theorem State.emit_seedBase (o : Out) : (s.emit o).seedBase = s.seedBase := (rfl)
@[simp] theorem State.emit_moves (o : Out) : (s.emit o).moves = s.moves := (rfl)
@[simp] theorem State.emit_clash (o : Out) : (s.emit o).clash = s.clash := (rfl)
@[simp] theorem State.emit_weirs (o : Out) : (s.emit o).weirs = s.weirs := (rfl)
@[simp] theorem State.emit_slots (o : Out) : (s.emit o).slots = s.slots := (rfl)
@[simp] theorem State.emit_slotAct (o : Out) : (s.emit o).slotAct = s.slotAct := (rfl)
@[simp] theorem State.emit_cus (o : Out) : (s.emit o).cus = s.cus := (rfl)
@[simp] theorem State.emit_optics (o : Out) : (s.emit o).optics = s.optics := (rfl)
@[simp] theorem State.emit_bed (o : Out) : (s.emit o).bed = s.bed := (rfl)
@[simp] theorem State.emit_ports (o : Out) : (s.emit o).ports = s.ports := (rfl)
@[simp] theorem State.emit_svcs (o : Out) : (s.emit o).svcs = s.svcs := (rfl)
@[simp] theorem State.emit_fab (o : Out) : (s.emit o).fab = s.fab := (rfl)
@[simp] theorem State.emit_hq (o : Out) : (s.emit o).hq = s.hq := (rfl)
@[simp] theorem State.emit_nrg (o : Out) : (s.emit o).nrg = s.nrg := (rfl)
@[simp] theorem State.emit_sec (o : Out) : (s.emit o).sec = s.sec := (rfl)
@[simp] theorem State.emit_log (o : Out) : (s.emit o).log = s.log := (rfl)
@[simp] theorem State.emit_store (o : Out) : (s.emit o).store = s.store := (rfl)
@[simp] theorem State.emit_errSeq (o : Out) : (s.emit o).errSeq = s.errSeq := (rfl)
@[simp] theorem State.emit_err (o : Out) : (s.emit o).err = s.err := (rfl)
@[simp] theorem State.emit_test (o : Out) : (s.emit o).test = s.test := (rfl)
@[simp] theorem State.emit_pwr (o : Out) : (s.emit o).pwr = s.pwr := (rfl)

/-! `State.freshId` writes `opNext` alone. -/
@[simp] theorem State.freshId_pending : (s.freshId).pending = s.pending := (rfl)
@[simp] theorem State.freshId_freeIdx : (s.freshId).freeIdx = s.freeIdx := (rfl)
@[simp] theorem State.freshId_outbox : (s.freshId).outbox = s.outbox := (rfl)
@[simp] theorem State.freshId_fuses : (s.freshId).fuses = s.fuses := (rfl)
@[simp] theorem State.freshId_ticks : (s.freshId).ticks = s.ticks := (rfl)
@[simp] theorem State.freshId_regs : (s.freshId).regs = s.regs := (rfl)
@[simp] theorem State.freshId_mem : (s.freshId).mem = s.mem := (rfl)
@[simp] theorem State.freshId_trg : (s.freshId).trg = s.trg := (rfl)
@[simp] theorem State.freshId_trgCommit : (s.freshId).trgCommit = s.trgCommit := (rfl)
@[simp] theorem State.freshId_reaches : (s.freshId).reaches = s.reaches := (rfl)
@[simp] theorem State.freshId_plc : (s.freshId).plc = s.plc := (rfl)
@[simp] theorem State.freshId_cells : (s.freshId).cells = s.cells := (rfl)
@[simp] theorem State.freshId_seedBase : (s.freshId).seedBase = s.seedBase := (rfl)
@[simp] theorem State.freshId_moves : (s.freshId).moves = s.moves := (rfl)
@[simp] theorem State.freshId_clash : (s.freshId).clash = s.clash := (rfl)
@[simp] theorem State.freshId_weirs : (s.freshId).weirs = s.weirs := (rfl)
@[simp] theorem State.freshId_slots : (s.freshId).slots = s.slots := (rfl)
@[simp] theorem State.freshId_slotAct : (s.freshId).slotAct = s.slotAct := (rfl)
@[simp] theorem State.freshId_cus : (s.freshId).cus = s.cus := (rfl)
@[simp] theorem State.freshId_optics : (s.freshId).optics = s.optics := (rfl)
@[simp] theorem State.freshId_bed : (s.freshId).bed = s.bed := (rfl)
@[simp] theorem State.freshId_ports : (s.freshId).ports = s.ports := (rfl)
@[simp] theorem State.freshId_svcs : (s.freshId).svcs = s.svcs := (rfl)
@[simp] theorem State.freshId_fab : (s.freshId).fab = s.fab := (rfl)
@[simp] theorem State.freshId_hq : (s.freshId).hq = s.hq := (rfl)
@[simp] theorem State.freshId_nrg : (s.freshId).nrg = s.nrg := (rfl)
@[simp] theorem State.freshId_sec : (s.freshId).sec = s.sec := (rfl)
@[simp] theorem State.freshId_log : (s.freshId).log = s.log := (rfl)
@[simp] theorem State.freshId_store : (s.freshId).store = s.store := (rfl)
@[simp] theorem State.freshId_errSeq : (s.freshId).errSeq = s.errSeq := (rfl)
@[simp] theorem State.freshId_err : (s.freshId).err = s.err := (rfl)
@[simp] theorem State.freshId_test : (s.freshId).test = s.test := (rfl)
@[simp] theorem State.freshId_pwr : (s.freshId).pwr = s.pwr := (rfl)

/-! `State.storePush` writes `store` alone. -/
@[simp] theorem State.storePush_pending (u : StoreUnit) : (s.storePush u).pending = s.pending := (rfl)
@[simp] theorem State.storePush_freeIdx (u : StoreUnit) : (s.storePush u).freeIdx = s.freeIdx := (rfl)
@[simp] theorem State.storePush_opNext (u : StoreUnit) : (s.storePush u).opNext = s.opNext := (rfl)
@[simp] theorem State.storePush_outbox (u : StoreUnit) : (s.storePush u).outbox = s.outbox := (rfl)
@[simp] theorem State.storePush_fuses (u : StoreUnit) : (s.storePush u).fuses = s.fuses := (rfl)
@[simp] theorem State.storePush_ticks (u : StoreUnit) : (s.storePush u).ticks = s.ticks := (rfl)
@[simp] theorem State.storePush_regs (u : StoreUnit) : (s.storePush u).regs = s.regs := (rfl)
@[simp] theorem State.storePush_mem (u : StoreUnit) : (s.storePush u).mem = s.mem := (rfl)
@[simp] theorem State.storePush_trg (u : StoreUnit) : (s.storePush u).trg = s.trg := (rfl)
@[simp] theorem State.storePush_trgCommit (u : StoreUnit) : (s.storePush u).trgCommit = s.trgCommit := (rfl)
@[simp] theorem State.storePush_reaches (u : StoreUnit) : (s.storePush u).reaches = s.reaches := (rfl)
@[simp] theorem State.storePush_plc (u : StoreUnit) : (s.storePush u).plc = s.plc := (rfl)
@[simp] theorem State.storePush_cells (u : StoreUnit) : (s.storePush u).cells = s.cells := (rfl)
@[simp] theorem State.storePush_seedBase (u : StoreUnit) : (s.storePush u).seedBase = s.seedBase := (rfl)
@[simp] theorem State.storePush_moves (u : StoreUnit) : (s.storePush u).moves = s.moves := (rfl)
@[simp] theorem State.storePush_clash (u : StoreUnit) : (s.storePush u).clash = s.clash := (rfl)
@[simp] theorem State.storePush_weirs (u : StoreUnit) : (s.storePush u).weirs = s.weirs := (rfl)
@[simp] theorem State.storePush_slots (u : StoreUnit) : (s.storePush u).slots = s.slots := (rfl)
@[simp] theorem State.storePush_slotAct (u : StoreUnit) : (s.storePush u).slotAct = s.slotAct := (rfl)
@[simp] theorem State.storePush_cus (u : StoreUnit) : (s.storePush u).cus = s.cus := (rfl)
@[simp] theorem State.storePush_optics (u : StoreUnit) : (s.storePush u).optics = s.optics := (rfl)
@[simp] theorem State.storePush_bed (u : StoreUnit) : (s.storePush u).bed = s.bed := (rfl)
@[simp] theorem State.storePush_ports (u : StoreUnit) : (s.storePush u).ports = s.ports := (rfl)
@[simp] theorem State.storePush_svcs (u : StoreUnit) : (s.storePush u).svcs = s.svcs := (rfl)
@[simp] theorem State.storePush_fab (u : StoreUnit) : (s.storePush u).fab = s.fab := (rfl)
@[simp] theorem State.storePush_hq (u : StoreUnit) : (s.storePush u).hq = s.hq := (rfl)
@[simp] theorem State.storePush_nrg (u : StoreUnit) : (s.storePush u).nrg = s.nrg := (rfl)
@[simp] theorem State.storePush_sec (u : StoreUnit) : (s.storePush u).sec = s.sec := (rfl)
@[simp] theorem State.storePush_log (u : StoreUnit) : (s.storePush u).log = s.log := (rfl)
@[simp] theorem State.storePush_errSeq (u : StoreUnit) : (s.storePush u).errSeq = s.errSeq := (rfl)
@[simp] theorem State.storePush_err (u : StoreUnit) : (s.storePush u).err = s.err := (rfl)
@[simp] theorem State.storePush_test (u : StoreUnit) : (s.storePush u).test = s.test := (rfl)
@[simp] theorem State.storePush_pwr (u : StoreUnit) : (s.storePush u).pwr = s.pwr := (rfl)

/-! `State.setFifo` writes `err` alone. -/
@[simp] theorem State.setFifo_pending (sev : Nat) (f : ErrFifo) : (s.setFifo sev f).pending = s.pending := (rfl)
@[simp] theorem State.setFifo_freeIdx (sev : Nat) (f : ErrFifo) : (s.setFifo sev f).freeIdx = s.freeIdx := (rfl)
@[simp] theorem State.setFifo_opNext (sev : Nat) (f : ErrFifo) : (s.setFifo sev f).opNext = s.opNext := (rfl)
@[simp] theorem State.setFifo_outbox (sev : Nat) (f : ErrFifo) : (s.setFifo sev f).outbox = s.outbox := (rfl)
@[simp] theorem State.setFifo_fuses (sev : Nat) (f : ErrFifo) : (s.setFifo sev f).fuses = s.fuses := (rfl)
@[simp] theorem State.setFifo_ticks (sev : Nat) (f : ErrFifo) : (s.setFifo sev f).ticks = s.ticks := (rfl)
@[simp] theorem State.setFifo_regs (sev : Nat) (f : ErrFifo) : (s.setFifo sev f).regs = s.regs := (rfl)
@[simp] theorem State.setFifo_mem (sev : Nat) (f : ErrFifo) : (s.setFifo sev f).mem = s.mem := (rfl)
@[simp] theorem State.setFifo_trg (sev : Nat) (f : ErrFifo) : (s.setFifo sev f).trg = s.trg := (rfl)
@[simp] theorem State.setFifo_trgCommit (sev : Nat) (f : ErrFifo) : (s.setFifo sev f).trgCommit = s.trgCommit := (rfl)
@[simp] theorem State.setFifo_reaches (sev : Nat) (f : ErrFifo) : (s.setFifo sev f).reaches = s.reaches := (rfl)
@[simp] theorem State.setFifo_plc (sev : Nat) (f : ErrFifo) : (s.setFifo sev f).plc = s.plc := (rfl)
@[simp] theorem State.setFifo_cells (sev : Nat) (f : ErrFifo) : (s.setFifo sev f).cells = s.cells := (rfl)
@[simp] theorem State.setFifo_seedBase (sev : Nat) (f : ErrFifo) : (s.setFifo sev f).seedBase = s.seedBase := (rfl)
@[simp] theorem State.setFifo_moves (sev : Nat) (f : ErrFifo) : (s.setFifo sev f).moves = s.moves := (rfl)
@[simp] theorem State.setFifo_clash (sev : Nat) (f : ErrFifo) : (s.setFifo sev f).clash = s.clash := (rfl)
@[simp] theorem State.setFifo_weirs (sev : Nat) (f : ErrFifo) : (s.setFifo sev f).weirs = s.weirs := (rfl)
@[simp] theorem State.setFifo_slots (sev : Nat) (f : ErrFifo) : (s.setFifo sev f).slots = s.slots := (rfl)
@[simp] theorem State.setFifo_slotAct (sev : Nat) (f : ErrFifo) : (s.setFifo sev f).slotAct = s.slotAct := (rfl)
@[simp] theorem State.setFifo_cus (sev : Nat) (f : ErrFifo) : (s.setFifo sev f).cus = s.cus := (rfl)
@[simp] theorem State.setFifo_optics (sev : Nat) (f : ErrFifo) : (s.setFifo sev f).optics = s.optics := (rfl)
@[simp] theorem State.setFifo_bed (sev : Nat) (f : ErrFifo) : (s.setFifo sev f).bed = s.bed := (rfl)
@[simp] theorem State.setFifo_ports (sev : Nat) (f : ErrFifo) : (s.setFifo sev f).ports = s.ports := (rfl)
@[simp] theorem State.setFifo_svcs (sev : Nat) (f : ErrFifo) : (s.setFifo sev f).svcs = s.svcs := (rfl)
@[simp] theorem State.setFifo_fab (sev : Nat) (f : ErrFifo) : (s.setFifo sev f).fab = s.fab := (rfl)
@[simp] theorem State.setFifo_hq (sev : Nat) (f : ErrFifo) : (s.setFifo sev f).hq = s.hq := (rfl)
@[simp] theorem State.setFifo_nrg (sev : Nat) (f : ErrFifo) : (s.setFifo sev f).nrg = s.nrg := (rfl)
@[simp] theorem State.setFifo_sec (sev : Nat) (f : ErrFifo) : (s.setFifo sev f).sec = s.sec := (rfl)
@[simp] theorem State.setFifo_log (sev : Nat) (f : ErrFifo) : (s.setFifo sev f).log = s.log := (rfl)
@[simp] theorem State.setFifo_store (sev : Nat) (f : ErrFifo) : (s.setFifo sev f).store = s.store := (rfl)
@[simp] theorem State.setFifo_errSeq (sev : Nat) (f : ErrFifo) : (s.setFifo sev f).errSeq = s.errSeq := (rfl)
@[simp] theorem State.setFifo_test (sev : Nat) (f : ErrFifo) : (s.setFifo sev f).test = s.test := (rfl)
@[simp] theorem State.setFifo_pwr (sev : Nat) (f : ErrFifo) : (s.setFifo sev f).pwr = s.pwr := (rfl)

/-! `State.writeMem` writes `mem` alone. -/
@[simp] theorem State.writeMem_pending (da : Nat) (bs : List Byte) : (s.writeMem da bs).pending = s.pending := (rfl)
@[simp] theorem State.writeMem_freeIdx (da : Nat) (bs : List Byte) : (s.writeMem da bs).freeIdx = s.freeIdx := (rfl)
@[simp] theorem State.writeMem_opNext (da : Nat) (bs : List Byte) : (s.writeMem da bs).opNext = s.opNext := (rfl)
@[simp] theorem State.writeMem_outbox (da : Nat) (bs : List Byte) : (s.writeMem da bs).outbox = s.outbox := (rfl)
@[simp] theorem State.writeMem_fuses (da : Nat) (bs : List Byte) : (s.writeMem da bs).fuses = s.fuses := (rfl)
@[simp] theorem State.writeMem_ticks (da : Nat) (bs : List Byte) : (s.writeMem da bs).ticks = s.ticks := (rfl)
@[simp] theorem State.writeMem_regs (da : Nat) (bs : List Byte) : (s.writeMem da bs).regs = s.regs := (rfl)
@[simp] theorem State.writeMem_trg (da : Nat) (bs : List Byte) : (s.writeMem da bs).trg = s.trg := (rfl)
@[simp] theorem State.writeMem_trgCommit (da : Nat) (bs : List Byte) : (s.writeMem da bs).trgCommit = s.trgCommit := (rfl)
@[simp] theorem State.writeMem_reaches (da : Nat) (bs : List Byte) : (s.writeMem da bs).reaches = s.reaches := (rfl)
@[simp] theorem State.writeMem_plc (da : Nat) (bs : List Byte) : (s.writeMem da bs).plc = s.plc := (rfl)
@[simp] theorem State.writeMem_cells (da : Nat) (bs : List Byte) : (s.writeMem da bs).cells = s.cells := (rfl)
@[simp] theorem State.writeMem_seedBase (da : Nat) (bs : List Byte) : (s.writeMem da bs).seedBase = s.seedBase := (rfl)
@[simp] theorem State.writeMem_moves (da : Nat) (bs : List Byte) : (s.writeMem da bs).moves = s.moves := (rfl)
@[simp] theorem State.writeMem_clash (da : Nat) (bs : List Byte) : (s.writeMem da bs).clash = s.clash := (rfl)
@[simp] theorem State.writeMem_weirs (da : Nat) (bs : List Byte) : (s.writeMem da bs).weirs = s.weirs := (rfl)
@[simp] theorem State.writeMem_slots (da : Nat) (bs : List Byte) : (s.writeMem da bs).slots = s.slots := (rfl)
@[simp] theorem State.writeMem_slotAct (da : Nat) (bs : List Byte) : (s.writeMem da bs).slotAct = s.slotAct := (rfl)
@[simp] theorem State.writeMem_cus (da : Nat) (bs : List Byte) : (s.writeMem da bs).cus = s.cus := (rfl)
@[simp] theorem State.writeMem_optics (da : Nat) (bs : List Byte) : (s.writeMem da bs).optics = s.optics := (rfl)
@[simp] theorem State.writeMem_bed (da : Nat) (bs : List Byte) : (s.writeMem da bs).bed = s.bed := (rfl)
@[simp] theorem State.writeMem_ports (da : Nat) (bs : List Byte) : (s.writeMem da bs).ports = s.ports := (rfl)
@[simp] theorem State.writeMem_svcs (da : Nat) (bs : List Byte) : (s.writeMem da bs).svcs = s.svcs := (rfl)
@[simp] theorem State.writeMem_fab (da : Nat) (bs : List Byte) : (s.writeMem da bs).fab = s.fab := (rfl)
@[simp] theorem State.writeMem_hq (da : Nat) (bs : List Byte) : (s.writeMem da bs).hq = s.hq := (rfl)
@[simp] theorem State.writeMem_nrg (da : Nat) (bs : List Byte) : (s.writeMem da bs).nrg = s.nrg := (rfl)
@[simp] theorem State.writeMem_sec (da : Nat) (bs : List Byte) : (s.writeMem da bs).sec = s.sec := (rfl)
@[simp] theorem State.writeMem_log (da : Nat) (bs : List Byte) : (s.writeMem da bs).log = s.log := (rfl)
@[simp] theorem State.writeMem_store (da : Nat) (bs : List Byte) : (s.writeMem da bs).store = s.store := (rfl)
@[simp] theorem State.writeMem_errSeq (da : Nat) (bs : List Byte) : (s.writeMem da bs).errSeq = s.errSeq := (rfl)
@[simp] theorem State.writeMem_err (da : Nat) (bs : List Byte) : (s.writeMem da bs).err = s.err := (rfl)
@[simp] theorem State.writeMem_test (da : Nat) (bs : List Byte) : (s.writeMem da bs).test = s.test := (rfl)
@[simp] theorem State.writeMem_pwr (da : Nat) (bs : List Byte) : (s.writeMem da bs).pwr = s.pwr := (rfl)

/-! `State.setCell` writes `cells` alone. -/
@[simp] theorem State.setCell_pending (i : Nat) (c : Cell) : (s.setCell i c).pending = s.pending := (rfl)
@[simp] theorem State.setCell_freeIdx (i : Nat) (c : Cell) : (s.setCell i c).freeIdx = s.freeIdx := (rfl)
@[simp] theorem State.setCell_opNext (i : Nat) (c : Cell) : (s.setCell i c).opNext = s.opNext := (rfl)
@[simp] theorem State.setCell_outbox (i : Nat) (c : Cell) : (s.setCell i c).outbox = s.outbox := (rfl)
@[simp] theorem State.setCell_fuses (i : Nat) (c : Cell) : (s.setCell i c).fuses = s.fuses := (rfl)
@[simp] theorem State.setCell_ticks (i : Nat) (c : Cell) : (s.setCell i c).ticks = s.ticks := (rfl)
@[simp] theorem State.setCell_regs (i : Nat) (c : Cell) : (s.setCell i c).regs = s.regs := (rfl)
@[simp] theorem State.setCell_mem (i : Nat) (c : Cell) : (s.setCell i c).mem = s.mem := (rfl)
@[simp] theorem State.setCell_trg (i : Nat) (c : Cell) : (s.setCell i c).trg = s.trg := (rfl)
@[simp] theorem State.setCell_trgCommit (i : Nat) (c : Cell) : (s.setCell i c).trgCommit = s.trgCommit := (rfl)
@[simp] theorem State.setCell_reaches (i : Nat) (c : Cell) : (s.setCell i c).reaches = s.reaches := (rfl)
@[simp] theorem State.setCell_plc (i : Nat) (c : Cell) : (s.setCell i c).plc = s.plc := (rfl)
@[simp] theorem State.setCell_seedBase (i : Nat) (c : Cell) : (s.setCell i c).seedBase = s.seedBase := (rfl)
@[simp] theorem State.setCell_moves (i : Nat) (c : Cell) : (s.setCell i c).moves = s.moves := (rfl)
@[simp] theorem State.setCell_clash (i : Nat) (c : Cell) : (s.setCell i c).clash = s.clash := (rfl)
@[simp] theorem State.setCell_weirs (i : Nat) (c : Cell) : (s.setCell i c).weirs = s.weirs := (rfl)
@[simp] theorem State.setCell_slots (i : Nat) (c : Cell) : (s.setCell i c).slots = s.slots := (rfl)
@[simp] theorem State.setCell_slotAct (i : Nat) (c : Cell) : (s.setCell i c).slotAct = s.slotAct := (rfl)
@[simp] theorem State.setCell_cus (i : Nat) (c : Cell) : (s.setCell i c).cus = s.cus := (rfl)
@[simp] theorem State.setCell_optics (i : Nat) (c : Cell) : (s.setCell i c).optics = s.optics := (rfl)
@[simp] theorem State.setCell_bed (i : Nat) (c : Cell) : (s.setCell i c).bed = s.bed := (rfl)
@[simp] theorem State.setCell_ports (i : Nat) (c : Cell) : (s.setCell i c).ports = s.ports := (rfl)
@[simp] theorem State.setCell_svcs (i : Nat) (c : Cell) : (s.setCell i c).svcs = s.svcs := (rfl)
@[simp] theorem State.setCell_fab (i : Nat) (c : Cell) : (s.setCell i c).fab = s.fab := (rfl)
@[simp] theorem State.setCell_hq (i : Nat) (c : Cell) : (s.setCell i c).hq = s.hq := (rfl)
@[simp] theorem State.setCell_nrg (i : Nat) (c : Cell) : (s.setCell i c).nrg = s.nrg := (rfl)
@[simp] theorem State.setCell_sec (i : Nat) (c : Cell) : (s.setCell i c).sec = s.sec := (rfl)
@[simp] theorem State.setCell_log (i : Nat) (c : Cell) : (s.setCell i c).log = s.log := (rfl)
@[simp] theorem State.setCell_store (i : Nat) (c : Cell) : (s.setCell i c).store = s.store := (rfl)
@[simp] theorem State.setCell_errSeq (i : Nat) (c : Cell) : (s.setCell i c).errSeq = s.errSeq := (rfl)
@[simp] theorem State.setCell_err (i : Nat) (c : Cell) : (s.setCell i c).err = s.err := (rfl)
@[simp] theorem State.setCell_test (i : Nat) (c : Cell) : (s.setCell i c).test = s.test := (rfl)
@[simp] theorem State.setCell_pwr (i : Nat) (c : Cell) : (s.setCell i c).pwr = s.pwr := (rfl)

/-! `State.setReach` writes `reaches` alone. -/
@[simp] theorem State.setReach_pending (r : Nat) (x : Reach) : (s.setReach r x).pending = s.pending := (rfl)
@[simp] theorem State.setReach_freeIdx (r : Nat) (x : Reach) : (s.setReach r x).freeIdx = s.freeIdx := (rfl)
@[simp] theorem State.setReach_opNext (r : Nat) (x : Reach) : (s.setReach r x).opNext = s.opNext := (rfl)
@[simp] theorem State.setReach_outbox (r : Nat) (x : Reach) : (s.setReach r x).outbox = s.outbox := (rfl)
@[simp] theorem State.setReach_fuses (r : Nat) (x : Reach) : (s.setReach r x).fuses = s.fuses := (rfl)
@[simp] theorem State.setReach_ticks (r : Nat) (x : Reach) : (s.setReach r x).ticks = s.ticks := (rfl)
@[simp] theorem State.setReach_regs (r : Nat) (x : Reach) : (s.setReach r x).regs = s.regs := (rfl)
@[simp] theorem State.setReach_mem (r : Nat) (x : Reach) : (s.setReach r x).mem = s.mem := (rfl)
@[simp] theorem State.setReach_trg (r : Nat) (x : Reach) : (s.setReach r x).trg = s.trg := (rfl)
@[simp] theorem State.setReach_trgCommit (r : Nat) (x : Reach) : (s.setReach r x).trgCommit = s.trgCommit := (rfl)
@[simp] theorem State.setReach_plc (r : Nat) (x : Reach) : (s.setReach r x).plc = s.plc := (rfl)
@[simp] theorem State.setReach_cells (r : Nat) (x : Reach) : (s.setReach r x).cells = s.cells := (rfl)
@[simp] theorem State.setReach_seedBase (r : Nat) (x : Reach) : (s.setReach r x).seedBase = s.seedBase := (rfl)
@[simp] theorem State.setReach_moves (r : Nat) (x : Reach) : (s.setReach r x).moves = s.moves := (rfl)
@[simp] theorem State.setReach_clash (r : Nat) (x : Reach) : (s.setReach r x).clash = s.clash := (rfl)
@[simp] theorem State.setReach_weirs (r : Nat) (x : Reach) : (s.setReach r x).weirs = s.weirs := (rfl)
@[simp] theorem State.setReach_slots (r : Nat) (x : Reach) : (s.setReach r x).slots = s.slots := (rfl)
@[simp] theorem State.setReach_slotAct (r : Nat) (x : Reach) : (s.setReach r x).slotAct = s.slotAct := (rfl)
@[simp] theorem State.setReach_cus (r : Nat) (x : Reach) : (s.setReach r x).cus = s.cus := (rfl)
@[simp] theorem State.setReach_optics (r : Nat) (x : Reach) : (s.setReach r x).optics = s.optics := (rfl)
@[simp] theorem State.setReach_bed (r : Nat) (x : Reach) : (s.setReach r x).bed = s.bed := (rfl)
@[simp] theorem State.setReach_ports (r : Nat) (x : Reach) : (s.setReach r x).ports = s.ports := (rfl)
@[simp] theorem State.setReach_svcs (r : Nat) (x : Reach) : (s.setReach r x).svcs = s.svcs := (rfl)
@[simp] theorem State.setReach_fab (r : Nat) (x : Reach) : (s.setReach r x).fab = s.fab := (rfl)
@[simp] theorem State.setReach_hq (r : Nat) (x : Reach) : (s.setReach r x).hq = s.hq := (rfl)
@[simp] theorem State.setReach_nrg (r : Nat) (x : Reach) : (s.setReach r x).nrg = s.nrg := (rfl)
@[simp] theorem State.setReach_sec (r : Nat) (x : Reach) : (s.setReach r x).sec = s.sec := (rfl)
@[simp] theorem State.setReach_log (r : Nat) (x : Reach) : (s.setReach r x).log = s.log := (rfl)
@[simp] theorem State.setReach_store (r : Nat) (x : Reach) : (s.setReach r x).store = s.store := (rfl)
@[simp] theorem State.setReach_errSeq (r : Nat) (x : Reach) : (s.setReach r x).errSeq = s.errSeq := (rfl)
@[simp] theorem State.setReach_err (r : Nat) (x : Reach) : (s.setReach r x).err = s.err := (rfl)
@[simp] theorem State.setReach_test (r : Nat) (x : Reach) : (s.setReach r x).test = s.test := (rfl)
@[simp] theorem State.setReach_pwr (r : Nat) (x : Reach) : (s.setReach r x).pwr = s.pwr := (rfl)

/-! `State.setPlc` writes `plc` alone. -/
@[simp] theorem State.setPlc_pending (item : Nat) (e : Plc) : (s.setPlc item e).pending = s.pending := (rfl)
@[simp] theorem State.setPlc_freeIdx (item : Nat) (e : Plc) : (s.setPlc item e).freeIdx = s.freeIdx := (rfl)
@[simp] theorem State.setPlc_opNext (item : Nat) (e : Plc) : (s.setPlc item e).opNext = s.opNext := (rfl)
@[simp] theorem State.setPlc_outbox (item : Nat) (e : Plc) : (s.setPlc item e).outbox = s.outbox := (rfl)
@[simp] theorem State.setPlc_fuses (item : Nat) (e : Plc) : (s.setPlc item e).fuses = s.fuses := (rfl)
@[simp] theorem State.setPlc_ticks (item : Nat) (e : Plc) : (s.setPlc item e).ticks = s.ticks := (rfl)
@[simp] theorem State.setPlc_regs (item : Nat) (e : Plc) : (s.setPlc item e).regs = s.regs := (rfl)
@[simp] theorem State.setPlc_mem (item : Nat) (e : Plc) : (s.setPlc item e).mem = s.mem := (rfl)
@[simp] theorem State.setPlc_trg (item : Nat) (e : Plc) : (s.setPlc item e).trg = s.trg := (rfl)
@[simp] theorem State.setPlc_trgCommit (item : Nat) (e : Plc) : (s.setPlc item e).trgCommit = s.trgCommit := (rfl)
@[simp] theorem State.setPlc_reaches (item : Nat) (e : Plc) : (s.setPlc item e).reaches = s.reaches := (rfl)
@[simp] theorem State.setPlc_cells (item : Nat) (e : Plc) : (s.setPlc item e).cells = s.cells := (rfl)
@[simp] theorem State.setPlc_seedBase (item : Nat) (e : Plc) : (s.setPlc item e).seedBase = s.seedBase := (rfl)
@[simp] theorem State.setPlc_moves (item : Nat) (e : Plc) : (s.setPlc item e).moves = s.moves := (rfl)
@[simp] theorem State.setPlc_clash (item : Nat) (e : Plc) : (s.setPlc item e).clash = s.clash := (rfl)
@[simp] theorem State.setPlc_weirs (item : Nat) (e : Plc) : (s.setPlc item e).weirs = s.weirs := (rfl)
@[simp] theorem State.setPlc_slots (item : Nat) (e : Plc) : (s.setPlc item e).slots = s.slots := (rfl)
@[simp] theorem State.setPlc_slotAct (item : Nat) (e : Plc) : (s.setPlc item e).slotAct = s.slotAct := (rfl)
@[simp] theorem State.setPlc_cus (item : Nat) (e : Plc) : (s.setPlc item e).cus = s.cus := (rfl)
@[simp] theorem State.setPlc_optics (item : Nat) (e : Plc) : (s.setPlc item e).optics = s.optics := (rfl)
@[simp] theorem State.setPlc_bed (item : Nat) (e : Plc) : (s.setPlc item e).bed = s.bed := (rfl)
@[simp] theorem State.setPlc_ports (item : Nat) (e : Plc) : (s.setPlc item e).ports = s.ports := (rfl)
@[simp] theorem State.setPlc_svcs (item : Nat) (e : Plc) : (s.setPlc item e).svcs = s.svcs := (rfl)
@[simp] theorem State.setPlc_fab (item : Nat) (e : Plc) : (s.setPlc item e).fab = s.fab := (rfl)
@[simp] theorem State.setPlc_hq (item : Nat) (e : Plc) : (s.setPlc item e).hq = s.hq := (rfl)
@[simp] theorem State.setPlc_nrg (item : Nat) (e : Plc) : (s.setPlc item e).nrg = s.nrg := (rfl)
@[simp] theorem State.setPlc_sec (item : Nat) (e : Plc) : (s.setPlc item e).sec = s.sec := (rfl)
@[simp] theorem State.setPlc_log (item : Nat) (e : Plc) : (s.setPlc item e).log = s.log := (rfl)
@[simp] theorem State.setPlc_store (item : Nat) (e : Plc) : (s.setPlc item e).store = s.store := (rfl)
@[simp] theorem State.setPlc_errSeq (item : Nat) (e : Plc) : (s.setPlc item e).errSeq = s.errSeq := (rfl)
@[simp] theorem State.setPlc_err (item : Nat) (e : Plc) : (s.setPlc item e).err = s.err := (rfl)
@[simp] theorem State.setPlc_test (item : Nat) (e : Plc) : (s.setPlc item e).test = s.test := (rfl)
@[simp] theorem State.setPlc_pwr (item : Nat) (e : Plc) : (s.setPlc item e).pwr = s.pwr := (rfl)

/-! `State.setPort` writes `ports` alone. -/
@[simp] theorem State.setPort_pending (p : Nat) (x : Port) : (s.setPort p x).pending = s.pending := (rfl)
@[simp] theorem State.setPort_freeIdx (p : Nat) (x : Port) : (s.setPort p x).freeIdx = s.freeIdx := (rfl)
@[simp] theorem State.setPort_opNext (p : Nat) (x : Port) : (s.setPort p x).opNext = s.opNext := (rfl)
@[simp] theorem State.setPort_outbox (p : Nat) (x : Port) : (s.setPort p x).outbox = s.outbox := (rfl)
@[simp] theorem State.setPort_fuses (p : Nat) (x : Port) : (s.setPort p x).fuses = s.fuses := (rfl)
@[simp] theorem State.setPort_ticks (p : Nat) (x : Port) : (s.setPort p x).ticks = s.ticks := (rfl)
@[simp] theorem State.setPort_regs (p : Nat) (x : Port) : (s.setPort p x).regs = s.regs := (rfl)
@[simp] theorem State.setPort_mem (p : Nat) (x : Port) : (s.setPort p x).mem = s.mem := (rfl)
@[simp] theorem State.setPort_trg (p : Nat) (x : Port) : (s.setPort p x).trg = s.trg := (rfl)
@[simp] theorem State.setPort_trgCommit (p : Nat) (x : Port) : (s.setPort p x).trgCommit = s.trgCommit := (rfl)
@[simp] theorem State.setPort_reaches (p : Nat) (x : Port) : (s.setPort p x).reaches = s.reaches := (rfl)
@[simp] theorem State.setPort_plc (p : Nat) (x : Port) : (s.setPort p x).plc = s.plc := (rfl)
@[simp] theorem State.setPort_cells (p : Nat) (x : Port) : (s.setPort p x).cells = s.cells := (rfl)
@[simp] theorem State.setPort_seedBase (p : Nat) (x : Port) : (s.setPort p x).seedBase = s.seedBase := (rfl)
@[simp] theorem State.setPort_moves (p : Nat) (x : Port) : (s.setPort p x).moves = s.moves := (rfl)
@[simp] theorem State.setPort_clash (p : Nat) (x : Port) : (s.setPort p x).clash = s.clash := (rfl)
@[simp] theorem State.setPort_weirs (p : Nat) (x : Port) : (s.setPort p x).weirs = s.weirs := (rfl)
@[simp] theorem State.setPort_slots (p : Nat) (x : Port) : (s.setPort p x).slots = s.slots := (rfl)
@[simp] theorem State.setPort_slotAct (p : Nat) (x : Port) : (s.setPort p x).slotAct = s.slotAct := (rfl)
@[simp] theorem State.setPort_cus (p : Nat) (x : Port) : (s.setPort p x).cus = s.cus := (rfl)
@[simp] theorem State.setPort_optics (p : Nat) (x : Port) : (s.setPort p x).optics = s.optics := (rfl)
@[simp] theorem State.setPort_bed (p : Nat) (x : Port) : (s.setPort p x).bed = s.bed := (rfl)
@[simp] theorem State.setPort_svcs (p : Nat) (x : Port) : (s.setPort p x).svcs = s.svcs := (rfl)
@[simp] theorem State.setPort_fab (p : Nat) (x : Port) : (s.setPort p x).fab = s.fab := (rfl)
@[simp] theorem State.setPort_hq (p : Nat) (x : Port) : (s.setPort p x).hq = s.hq := (rfl)
@[simp] theorem State.setPort_nrg (p : Nat) (x : Port) : (s.setPort p x).nrg = s.nrg := (rfl)
@[simp] theorem State.setPort_sec (p : Nat) (x : Port) : (s.setPort p x).sec = s.sec := (rfl)
@[simp] theorem State.setPort_log (p : Nat) (x : Port) : (s.setPort p x).log = s.log := (rfl)
@[simp] theorem State.setPort_store (p : Nat) (x : Port) : (s.setPort p x).store = s.store := (rfl)
@[simp] theorem State.setPort_errSeq (p : Nat) (x : Port) : (s.setPort p x).errSeq = s.errSeq := (rfl)
@[simp] theorem State.setPort_err (p : Nat) (x : Port) : (s.setPort p x).err = s.err := (rfl)
@[simp] theorem State.setPort_test (p : Nat) (x : Port) : (s.setPort p x).test = s.test := (rfl)
@[simp] theorem State.setPort_pwr (p : Nat) (x : Port) : (s.setPort p x).pwr = s.pwr := (rfl)

/-! `State.setRoute` writes `fab` alone. -/
@[simp] theorem State.setRoute_pending (k : Nat) (r : Route) : (s.setRoute k r).pending = s.pending := (rfl)
@[simp] theorem State.setRoute_freeIdx (k : Nat) (r : Route) : (s.setRoute k r).freeIdx = s.freeIdx := (rfl)
@[simp] theorem State.setRoute_opNext (k : Nat) (r : Route) : (s.setRoute k r).opNext = s.opNext := (rfl)
@[simp] theorem State.setRoute_outbox (k : Nat) (r : Route) : (s.setRoute k r).outbox = s.outbox := (rfl)
@[simp] theorem State.setRoute_fuses (k : Nat) (r : Route) : (s.setRoute k r).fuses = s.fuses := (rfl)
@[simp] theorem State.setRoute_ticks (k : Nat) (r : Route) : (s.setRoute k r).ticks = s.ticks := (rfl)
@[simp] theorem State.setRoute_regs (k : Nat) (r : Route) : (s.setRoute k r).regs = s.regs := (rfl)
@[simp] theorem State.setRoute_mem (k : Nat) (r : Route) : (s.setRoute k r).mem = s.mem := (rfl)
@[simp] theorem State.setRoute_trg (k : Nat) (r : Route) : (s.setRoute k r).trg = s.trg := (rfl)
@[simp] theorem State.setRoute_trgCommit (k : Nat) (r : Route) : (s.setRoute k r).trgCommit = s.trgCommit := (rfl)
@[simp] theorem State.setRoute_reaches (k : Nat) (r : Route) : (s.setRoute k r).reaches = s.reaches := (rfl)
@[simp] theorem State.setRoute_plc (k : Nat) (r : Route) : (s.setRoute k r).plc = s.plc := (rfl)
@[simp] theorem State.setRoute_cells (k : Nat) (r : Route) : (s.setRoute k r).cells = s.cells := (rfl)
@[simp] theorem State.setRoute_seedBase (k : Nat) (r : Route) : (s.setRoute k r).seedBase = s.seedBase := (rfl)
@[simp] theorem State.setRoute_moves (k : Nat) (r : Route) : (s.setRoute k r).moves = s.moves := (rfl)
@[simp] theorem State.setRoute_clash (k : Nat) (r : Route) : (s.setRoute k r).clash = s.clash := (rfl)
@[simp] theorem State.setRoute_weirs (k : Nat) (r : Route) : (s.setRoute k r).weirs = s.weirs := (rfl)
@[simp] theorem State.setRoute_slots (k : Nat) (r : Route) : (s.setRoute k r).slots = s.slots := (rfl)
@[simp] theorem State.setRoute_slotAct (k : Nat) (r : Route) : (s.setRoute k r).slotAct = s.slotAct := (rfl)
@[simp] theorem State.setRoute_cus (k : Nat) (r : Route) : (s.setRoute k r).cus = s.cus := (rfl)
@[simp] theorem State.setRoute_optics (k : Nat) (r : Route) : (s.setRoute k r).optics = s.optics := (rfl)
@[simp] theorem State.setRoute_bed (k : Nat) (r : Route) : (s.setRoute k r).bed = s.bed := (rfl)
@[simp] theorem State.setRoute_ports (k : Nat) (r : Route) : (s.setRoute k r).ports = s.ports := (rfl)
@[simp] theorem State.setRoute_svcs (k : Nat) (r : Route) : (s.setRoute k r).svcs = s.svcs := (rfl)
@[simp] theorem State.setRoute_hq (k : Nat) (r : Route) : (s.setRoute k r).hq = s.hq := (rfl)
@[simp] theorem State.setRoute_nrg (k : Nat) (r : Route) : (s.setRoute k r).nrg = s.nrg := (rfl)
@[simp] theorem State.setRoute_sec (k : Nat) (r : Route) : (s.setRoute k r).sec = s.sec := (rfl)
@[simp] theorem State.setRoute_log (k : Nat) (r : Route) : (s.setRoute k r).log = s.log := (rfl)
@[simp] theorem State.setRoute_store (k : Nat) (r : Route) : (s.setRoute k r).store = s.store := (rfl)
@[simp] theorem State.setRoute_errSeq (k : Nat) (r : Route) : (s.setRoute k r).errSeq = s.errSeq := (rfl)
@[simp] theorem State.setRoute_err (k : Nat) (r : Route) : (s.setRoute k r).err = s.err := (rfl)
@[simp] theorem State.setRoute_test (k : Nat) (r : Route) : (s.setRoute k r).test = s.test := (rfl)
@[simp] theorem State.setRoute_pwr (k : Nat) (r : Route) : (s.setRoute k r).pwr = s.pwr := (rfl)

/-! `State.setSpan` writes `fab` alone. -/
@[simp] theorem State.setSpan_pending (d : Nat) (x : Span) : (s.setSpan d x).pending = s.pending := (rfl)
@[simp] theorem State.setSpan_freeIdx (d : Nat) (x : Span) : (s.setSpan d x).freeIdx = s.freeIdx := (rfl)
@[simp] theorem State.setSpan_opNext (d : Nat) (x : Span) : (s.setSpan d x).opNext = s.opNext := (rfl)
@[simp] theorem State.setSpan_outbox (d : Nat) (x : Span) : (s.setSpan d x).outbox = s.outbox := (rfl)
@[simp] theorem State.setSpan_fuses (d : Nat) (x : Span) : (s.setSpan d x).fuses = s.fuses := (rfl)
@[simp] theorem State.setSpan_ticks (d : Nat) (x : Span) : (s.setSpan d x).ticks = s.ticks := (rfl)
@[simp] theorem State.setSpan_regs (d : Nat) (x : Span) : (s.setSpan d x).regs = s.regs := (rfl)
@[simp] theorem State.setSpan_mem (d : Nat) (x : Span) : (s.setSpan d x).mem = s.mem := (rfl)
@[simp] theorem State.setSpan_trg (d : Nat) (x : Span) : (s.setSpan d x).trg = s.trg := (rfl)
@[simp] theorem State.setSpan_trgCommit (d : Nat) (x : Span) : (s.setSpan d x).trgCommit = s.trgCommit := (rfl)
@[simp] theorem State.setSpan_reaches (d : Nat) (x : Span) : (s.setSpan d x).reaches = s.reaches := (rfl)
@[simp] theorem State.setSpan_plc (d : Nat) (x : Span) : (s.setSpan d x).plc = s.plc := (rfl)
@[simp] theorem State.setSpan_cells (d : Nat) (x : Span) : (s.setSpan d x).cells = s.cells := (rfl)
@[simp] theorem State.setSpan_seedBase (d : Nat) (x : Span) : (s.setSpan d x).seedBase = s.seedBase := (rfl)
@[simp] theorem State.setSpan_moves (d : Nat) (x : Span) : (s.setSpan d x).moves = s.moves := (rfl)
@[simp] theorem State.setSpan_clash (d : Nat) (x : Span) : (s.setSpan d x).clash = s.clash := (rfl)
@[simp] theorem State.setSpan_weirs (d : Nat) (x : Span) : (s.setSpan d x).weirs = s.weirs := (rfl)
@[simp] theorem State.setSpan_slots (d : Nat) (x : Span) : (s.setSpan d x).slots = s.slots := (rfl)
@[simp] theorem State.setSpan_slotAct (d : Nat) (x : Span) : (s.setSpan d x).slotAct = s.slotAct := (rfl)
@[simp] theorem State.setSpan_cus (d : Nat) (x : Span) : (s.setSpan d x).cus = s.cus := (rfl)
@[simp] theorem State.setSpan_optics (d : Nat) (x : Span) : (s.setSpan d x).optics = s.optics := (rfl)
@[simp] theorem State.setSpan_bed (d : Nat) (x : Span) : (s.setSpan d x).bed = s.bed := (rfl)
@[simp] theorem State.setSpan_ports (d : Nat) (x : Span) : (s.setSpan d x).ports = s.ports := (rfl)
@[simp] theorem State.setSpan_svcs (d : Nat) (x : Span) : (s.setSpan d x).svcs = s.svcs := (rfl)
@[simp] theorem State.setSpan_hq (d : Nat) (x : Span) : (s.setSpan d x).hq = s.hq := (rfl)
@[simp] theorem State.setSpan_nrg (d : Nat) (x : Span) : (s.setSpan d x).nrg = s.nrg := (rfl)
@[simp] theorem State.setSpan_sec (d : Nat) (x : Span) : (s.setSpan d x).sec = s.sec := (rfl)
@[simp] theorem State.setSpan_log (d : Nat) (x : Span) : (s.setSpan d x).log = s.log := (rfl)
@[simp] theorem State.setSpan_store (d : Nat) (x : Span) : (s.setSpan d x).store = s.store := (rfl)
@[simp] theorem State.setSpan_errSeq (d : Nat) (x : Span) : (s.setSpan d x).errSeq = s.errSeq := (rfl)
@[simp] theorem State.setSpan_err (d : Nat) (x : Span) : (s.setSpan d x).err = s.err := (rfl)
@[simp] theorem State.setSpan_test (d : Nat) (x : Span) : (s.setSpan d x).test = s.test := (rfl)
@[simp] theorem State.setSpan_pwr (d : Nat) (x : Span) : (s.setSpan d x).pwr = s.pwr := (rfl)

/-! `State.setSq` writes `hq` alone. -/
@[simp] theorem State.setSq_pending (q : Nat) (x : Sq) : (s.setSq q x).pending = s.pending := (rfl)
@[simp] theorem State.setSq_freeIdx (q : Nat) (x : Sq) : (s.setSq q x).freeIdx = s.freeIdx := (rfl)
@[simp] theorem State.setSq_opNext (q : Nat) (x : Sq) : (s.setSq q x).opNext = s.opNext := (rfl)
@[simp] theorem State.setSq_outbox (q : Nat) (x : Sq) : (s.setSq q x).outbox = s.outbox := (rfl)
@[simp] theorem State.setSq_fuses (q : Nat) (x : Sq) : (s.setSq q x).fuses = s.fuses := (rfl)
@[simp] theorem State.setSq_ticks (q : Nat) (x : Sq) : (s.setSq q x).ticks = s.ticks := (rfl)
@[simp] theorem State.setSq_regs (q : Nat) (x : Sq) : (s.setSq q x).regs = s.regs := (rfl)
@[simp] theorem State.setSq_mem (q : Nat) (x : Sq) : (s.setSq q x).mem = s.mem := (rfl)
@[simp] theorem State.setSq_trg (q : Nat) (x : Sq) : (s.setSq q x).trg = s.trg := (rfl)
@[simp] theorem State.setSq_trgCommit (q : Nat) (x : Sq) : (s.setSq q x).trgCommit = s.trgCommit := (rfl)
@[simp] theorem State.setSq_reaches (q : Nat) (x : Sq) : (s.setSq q x).reaches = s.reaches := (rfl)
@[simp] theorem State.setSq_plc (q : Nat) (x : Sq) : (s.setSq q x).plc = s.plc := (rfl)
@[simp] theorem State.setSq_cells (q : Nat) (x : Sq) : (s.setSq q x).cells = s.cells := (rfl)
@[simp] theorem State.setSq_seedBase (q : Nat) (x : Sq) : (s.setSq q x).seedBase = s.seedBase := (rfl)
@[simp] theorem State.setSq_moves (q : Nat) (x : Sq) : (s.setSq q x).moves = s.moves := (rfl)
@[simp] theorem State.setSq_clash (q : Nat) (x : Sq) : (s.setSq q x).clash = s.clash := (rfl)
@[simp] theorem State.setSq_weirs (q : Nat) (x : Sq) : (s.setSq q x).weirs = s.weirs := (rfl)
@[simp] theorem State.setSq_slots (q : Nat) (x : Sq) : (s.setSq q x).slots = s.slots := (rfl)
@[simp] theorem State.setSq_slotAct (q : Nat) (x : Sq) : (s.setSq q x).slotAct = s.slotAct := (rfl)
@[simp] theorem State.setSq_cus (q : Nat) (x : Sq) : (s.setSq q x).cus = s.cus := (rfl)
@[simp] theorem State.setSq_optics (q : Nat) (x : Sq) : (s.setSq q x).optics = s.optics := (rfl)
@[simp] theorem State.setSq_bed (q : Nat) (x : Sq) : (s.setSq q x).bed = s.bed := (rfl)
@[simp] theorem State.setSq_ports (q : Nat) (x : Sq) : (s.setSq q x).ports = s.ports := (rfl)
@[simp] theorem State.setSq_svcs (q : Nat) (x : Sq) : (s.setSq q x).svcs = s.svcs := (rfl)
@[simp] theorem State.setSq_fab (q : Nat) (x : Sq) : (s.setSq q x).fab = s.fab := (rfl)
@[simp] theorem State.setSq_nrg (q : Nat) (x : Sq) : (s.setSq q x).nrg = s.nrg := (rfl)
@[simp] theorem State.setSq_sec (q : Nat) (x : Sq) : (s.setSq q x).sec = s.sec := (rfl)
@[simp] theorem State.setSq_log (q : Nat) (x : Sq) : (s.setSq q x).log = s.log := (rfl)
@[simp] theorem State.setSq_store (q : Nat) (x : Sq) : (s.setSq q x).store = s.store := (rfl)
@[simp] theorem State.setSq_errSeq (q : Nat) (x : Sq) : (s.setSq q x).errSeq = s.errSeq := (rfl)
@[simp] theorem State.setSq_err (q : Nat) (x : Sq) : (s.setSq q x).err = s.err := (rfl)
@[simp] theorem State.setSq_test (q : Nat) (x : Sq) : (s.setSq q x).test = s.test := (rfl)
@[simp] theorem State.setSq_pwr (q : Nat) (x : Sq) : (s.setSq q x).pwr = s.pwr := (rfl)

/-! `State.setCq` writes `hq` alone. -/
@[simp] theorem State.setCq_pending (c : Nat) (x : Cq) : (s.setCq c x).pending = s.pending := (rfl)
@[simp] theorem State.setCq_freeIdx (c : Nat) (x : Cq) : (s.setCq c x).freeIdx = s.freeIdx := (rfl)
@[simp] theorem State.setCq_opNext (c : Nat) (x : Cq) : (s.setCq c x).opNext = s.opNext := (rfl)
@[simp] theorem State.setCq_outbox (c : Nat) (x : Cq) : (s.setCq c x).outbox = s.outbox := (rfl)
@[simp] theorem State.setCq_fuses (c : Nat) (x : Cq) : (s.setCq c x).fuses = s.fuses := (rfl)
@[simp] theorem State.setCq_ticks (c : Nat) (x : Cq) : (s.setCq c x).ticks = s.ticks := (rfl)
@[simp] theorem State.setCq_regs (c : Nat) (x : Cq) : (s.setCq c x).regs = s.regs := (rfl)
@[simp] theorem State.setCq_mem (c : Nat) (x : Cq) : (s.setCq c x).mem = s.mem := (rfl)
@[simp] theorem State.setCq_trg (c : Nat) (x : Cq) : (s.setCq c x).trg = s.trg := (rfl)
@[simp] theorem State.setCq_trgCommit (c : Nat) (x : Cq) : (s.setCq c x).trgCommit = s.trgCommit := (rfl)
@[simp] theorem State.setCq_reaches (c : Nat) (x : Cq) : (s.setCq c x).reaches = s.reaches := (rfl)
@[simp] theorem State.setCq_plc (c : Nat) (x : Cq) : (s.setCq c x).plc = s.plc := (rfl)
@[simp] theorem State.setCq_cells (c : Nat) (x : Cq) : (s.setCq c x).cells = s.cells := (rfl)
@[simp] theorem State.setCq_seedBase (c : Nat) (x : Cq) : (s.setCq c x).seedBase = s.seedBase := (rfl)
@[simp] theorem State.setCq_moves (c : Nat) (x : Cq) : (s.setCq c x).moves = s.moves := (rfl)
@[simp] theorem State.setCq_clash (c : Nat) (x : Cq) : (s.setCq c x).clash = s.clash := (rfl)
@[simp] theorem State.setCq_weirs (c : Nat) (x : Cq) : (s.setCq c x).weirs = s.weirs := (rfl)
@[simp] theorem State.setCq_slots (c : Nat) (x : Cq) : (s.setCq c x).slots = s.slots := (rfl)
@[simp] theorem State.setCq_slotAct (c : Nat) (x : Cq) : (s.setCq c x).slotAct = s.slotAct := (rfl)
@[simp] theorem State.setCq_cus (c : Nat) (x : Cq) : (s.setCq c x).cus = s.cus := (rfl)
@[simp] theorem State.setCq_optics (c : Nat) (x : Cq) : (s.setCq c x).optics = s.optics := (rfl)
@[simp] theorem State.setCq_bed (c : Nat) (x : Cq) : (s.setCq c x).bed = s.bed := (rfl)
@[simp] theorem State.setCq_ports (c : Nat) (x : Cq) : (s.setCq c x).ports = s.ports := (rfl)
@[simp] theorem State.setCq_svcs (c : Nat) (x : Cq) : (s.setCq c x).svcs = s.svcs := (rfl)
@[simp] theorem State.setCq_fab (c : Nat) (x : Cq) : (s.setCq c x).fab = s.fab := (rfl)
@[simp] theorem State.setCq_nrg (c : Nat) (x : Cq) : (s.setCq c x).nrg = s.nrg := (rfl)
@[simp] theorem State.setCq_sec (c : Nat) (x : Cq) : (s.setCq c x).sec = s.sec := (rfl)
@[simp] theorem State.setCq_log (c : Nat) (x : Cq) : (s.setCq c x).log = s.log := (rfl)
@[simp] theorem State.setCq_store (c : Nat) (x : Cq) : (s.setCq c x).store = s.store := (rfl)
@[simp] theorem State.setCq_errSeq (c : Nat) (x : Cq) : (s.setCq c x).errSeq = s.errSeq := (rfl)
@[simp] theorem State.setCq_err (c : Nat) (x : Cq) : (s.setCq c x).err = s.err := (rfl)
@[simp] theorem State.setCq_test (c : Nat) (x : Cq) : (s.setCq c x).test = s.test := (rfl)
@[simp] theorem State.setCq_pwr (c : Nat) (x : Cq) : (s.setCq c x).pwr = s.pwr := (rfl)

/-! `State.setRegion` writes `trg` alone. -/
@[simp] theorem State.setRegion_pending (k : Nat) (r : Region) : (s.setRegion k r).pending = s.pending := (rfl)
@[simp] theorem State.setRegion_freeIdx (k : Nat) (r : Region) : (s.setRegion k r).freeIdx = s.freeIdx := (rfl)
@[simp] theorem State.setRegion_opNext (k : Nat) (r : Region) : (s.setRegion k r).opNext = s.opNext := (rfl)
@[simp] theorem State.setRegion_outbox (k : Nat) (r : Region) : (s.setRegion k r).outbox = s.outbox := (rfl)
@[simp] theorem State.setRegion_fuses (k : Nat) (r : Region) : (s.setRegion k r).fuses = s.fuses := (rfl)
@[simp] theorem State.setRegion_ticks (k : Nat) (r : Region) : (s.setRegion k r).ticks = s.ticks := (rfl)
@[simp] theorem State.setRegion_regs (k : Nat) (r : Region) : (s.setRegion k r).regs = s.regs := (rfl)
@[simp] theorem State.setRegion_mem (k : Nat) (r : Region) : (s.setRegion k r).mem = s.mem := (rfl)
@[simp] theorem State.setRegion_trgCommit (k : Nat) (r : Region) : (s.setRegion k r).trgCommit = s.trgCommit := (rfl)
@[simp] theorem State.setRegion_reaches (k : Nat) (r : Region) : (s.setRegion k r).reaches = s.reaches := (rfl)
@[simp] theorem State.setRegion_plc (k : Nat) (r : Region) : (s.setRegion k r).plc = s.plc := (rfl)
@[simp] theorem State.setRegion_cells (k : Nat) (r : Region) : (s.setRegion k r).cells = s.cells := (rfl)
@[simp] theorem State.setRegion_seedBase (k : Nat) (r : Region) : (s.setRegion k r).seedBase = s.seedBase := (rfl)
@[simp] theorem State.setRegion_moves (k : Nat) (r : Region) : (s.setRegion k r).moves = s.moves := (rfl)
@[simp] theorem State.setRegion_clash (k : Nat) (r : Region) : (s.setRegion k r).clash = s.clash := (rfl)
@[simp] theorem State.setRegion_weirs (k : Nat) (r : Region) : (s.setRegion k r).weirs = s.weirs := (rfl)
@[simp] theorem State.setRegion_slots (k : Nat) (r : Region) : (s.setRegion k r).slots = s.slots := (rfl)
@[simp] theorem State.setRegion_slotAct (k : Nat) (r : Region) : (s.setRegion k r).slotAct = s.slotAct := (rfl)
@[simp] theorem State.setRegion_cus (k : Nat) (r : Region) : (s.setRegion k r).cus = s.cus := (rfl)
@[simp] theorem State.setRegion_optics (k : Nat) (r : Region) : (s.setRegion k r).optics = s.optics := (rfl)
@[simp] theorem State.setRegion_bed (k : Nat) (r : Region) : (s.setRegion k r).bed = s.bed := (rfl)
@[simp] theorem State.setRegion_ports (k : Nat) (r : Region) : (s.setRegion k r).ports = s.ports := (rfl)
@[simp] theorem State.setRegion_svcs (k : Nat) (r : Region) : (s.setRegion k r).svcs = s.svcs := (rfl)
@[simp] theorem State.setRegion_fab (k : Nat) (r : Region) : (s.setRegion k r).fab = s.fab := (rfl)
@[simp] theorem State.setRegion_hq (k : Nat) (r : Region) : (s.setRegion k r).hq = s.hq := (rfl)
@[simp] theorem State.setRegion_nrg (k : Nat) (r : Region) : (s.setRegion k r).nrg = s.nrg := (rfl)
@[simp] theorem State.setRegion_sec (k : Nat) (r : Region) : (s.setRegion k r).sec = s.sec := (rfl)
@[simp] theorem State.setRegion_log (k : Nat) (r : Region) : (s.setRegion k r).log = s.log := (rfl)
@[simp] theorem State.setRegion_store (k : Nat) (r : Region) : (s.setRegion k r).store = s.store := (rfl)
@[simp] theorem State.setRegion_errSeq (k : Nat) (r : Region) : (s.setRegion k r).errSeq = s.errSeq := (rfl)
@[simp] theorem State.setRegion_err (k : Nat) (r : Region) : (s.setRegion k r).err = s.err := (rfl)
@[simp] theorem State.setRegion_test (k : Nat) (r : Region) : (s.setRegion k r).test = s.test := (rfl)
@[simp] theorem State.setRegion_pwr (k : Nat) (r : Region) : (s.setRegion k r).pwr = s.pwr := (rfl)

/-! `State.setWeir` writes `weirs` alone. -/
@[simp] theorem State.setWeir_pending (n : Nat) (w : Weir) : (s.setWeir n w).pending = s.pending := (rfl)
@[simp] theorem State.setWeir_freeIdx (n : Nat) (w : Weir) : (s.setWeir n w).freeIdx = s.freeIdx := (rfl)
@[simp] theorem State.setWeir_opNext (n : Nat) (w : Weir) : (s.setWeir n w).opNext = s.opNext := (rfl)
@[simp] theorem State.setWeir_outbox (n : Nat) (w : Weir) : (s.setWeir n w).outbox = s.outbox := (rfl)
@[simp] theorem State.setWeir_fuses (n : Nat) (w : Weir) : (s.setWeir n w).fuses = s.fuses := (rfl)
@[simp] theorem State.setWeir_ticks (n : Nat) (w : Weir) : (s.setWeir n w).ticks = s.ticks := (rfl)
@[simp] theorem State.setWeir_regs (n : Nat) (w : Weir) : (s.setWeir n w).regs = s.regs := (rfl)
@[simp] theorem State.setWeir_mem (n : Nat) (w : Weir) : (s.setWeir n w).mem = s.mem := (rfl)
@[simp] theorem State.setWeir_trg (n : Nat) (w : Weir) : (s.setWeir n w).trg = s.trg := (rfl)
@[simp] theorem State.setWeir_trgCommit (n : Nat) (w : Weir) : (s.setWeir n w).trgCommit = s.trgCommit := (rfl)
@[simp] theorem State.setWeir_reaches (n : Nat) (w : Weir) : (s.setWeir n w).reaches = s.reaches := (rfl)
@[simp] theorem State.setWeir_plc (n : Nat) (w : Weir) : (s.setWeir n w).plc = s.plc := (rfl)
@[simp] theorem State.setWeir_cells (n : Nat) (w : Weir) : (s.setWeir n w).cells = s.cells := (rfl)
@[simp] theorem State.setWeir_seedBase (n : Nat) (w : Weir) : (s.setWeir n w).seedBase = s.seedBase := (rfl)
@[simp] theorem State.setWeir_moves (n : Nat) (w : Weir) : (s.setWeir n w).moves = s.moves := (rfl)
@[simp] theorem State.setWeir_clash (n : Nat) (w : Weir) : (s.setWeir n w).clash = s.clash := (rfl)
@[simp] theorem State.setWeir_slots (n : Nat) (w : Weir) : (s.setWeir n w).slots = s.slots := (rfl)
@[simp] theorem State.setWeir_slotAct (n : Nat) (w : Weir) : (s.setWeir n w).slotAct = s.slotAct := (rfl)
@[simp] theorem State.setWeir_cus (n : Nat) (w : Weir) : (s.setWeir n w).cus = s.cus := (rfl)
@[simp] theorem State.setWeir_optics (n : Nat) (w : Weir) : (s.setWeir n w).optics = s.optics := (rfl)
@[simp] theorem State.setWeir_bed (n : Nat) (w : Weir) : (s.setWeir n w).bed = s.bed := (rfl)
@[simp] theorem State.setWeir_ports (n : Nat) (w : Weir) : (s.setWeir n w).ports = s.ports := (rfl)
@[simp] theorem State.setWeir_svcs (n : Nat) (w : Weir) : (s.setWeir n w).svcs = s.svcs := (rfl)
@[simp] theorem State.setWeir_fab (n : Nat) (w : Weir) : (s.setWeir n w).fab = s.fab := (rfl)
@[simp] theorem State.setWeir_hq (n : Nat) (w : Weir) : (s.setWeir n w).hq = s.hq := (rfl)
@[simp] theorem State.setWeir_nrg (n : Nat) (w : Weir) : (s.setWeir n w).nrg = s.nrg := (rfl)
@[simp] theorem State.setWeir_sec (n : Nat) (w : Weir) : (s.setWeir n w).sec = s.sec := (rfl)
@[simp] theorem State.setWeir_log (n : Nat) (w : Weir) : (s.setWeir n w).log = s.log := (rfl)
@[simp] theorem State.setWeir_store (n : Nat) (w : Weir) : (s.setWeir n w).store = s.store := (rfl)
@[simp] theorem State.setWeir_errSeq (n : Nat) (w : Weir) : (s.setWeir n w).errSeq = s.errSeq := (rfl)
@[simp] theorem State.setWeir_err (n : Nat) (w : Weir) : (s.setWeir n w).err = s.err := (rfl)
@[simp] theorem State.setWeir_test (n : Nat) (w : Weir) : (s.setWeir n w).test = s.test := (rfl)
@[simp] theorem State.setWeir_pwr (n : Nat) (w : Weir) : (s.setWeir n w).pwr = s.pwr := (rfl)

/-! `State.setCu` writes `cus` alone. -/
@[simp] theorem State.setCu_pending (t : Nat) (u : Cu) : (s.setCu t u).pending = s.pending := (rfl)
@[simp] theorem State.setCu_freeIdx (t : Nat) (u : Cu) : (s.setCu t u).freeIdx = s.freeIdx := (rfl)
@[simp] theorem State.setCu_opNext (t : Nat) (u : Cu) : (s.setCu t u).opNext = s.opNext := (rfl)
@[simp] theorem State.setCu_outbox (t : Nat) (u : Cu) : (s.setCu t u).outbox = s.outbox := (rfl)
@[simp] theorem State.setCu_fuses (t : Nat) (u : Cu) : (s.setCu t u).fuses = s.fuses := (rfl)
@[simp] theorem State.setCu_ticks (t : Nat) (u : Cu) : (s.setCu t u).ticks = s.ticks := (rfl)
@[simp] theorem State.setCu_regs (t : Nat) (u : Cu) : (s.setCu t u).regs = s.regs := (rfl)
@[simp] theorem State.setCu_mem (t : Nat) (u : Cu) : (s.setCu t u).mem = s.mem := (rfl)
@[simp] theorem State.setCu_trg (t : Nat) (u : Cu) : (s.setCu t u).trg = s.trg := (rfl)
@[simp] theorem State.setCu_trgCommit (t : Nat) (u : Cu) : (s.setCu t u).trgCommit = s.trgCommit := (rfl)
@[simp] theorem State.setCu_reaches (t : Nat) (u : Cu) : (s.setCu t u).reaches = s.reaches := (rfl)
@[simp] theorem State.setCu_plc (t : Nat) (u : Cu) : (s.setCu t u).plc = s.plc := (rfl)
@[simp] theorem State.setCu_cells (t : Nat) (u : Cu) : (s.setCu t u).cells = s.cells := (rfl)
@[simp] theorem State.setCu_seedBase (t : Nat) (u : Cu) : (s.setCu t u).seedBase = s.seedBase := (rfl)
@[simp] theorem State.setCu_moves (t : Nat) (u : Cu) : (s.setCu t u).moves = s.moves := (rfl)
@[simp] theorem State.setCu_clash (t : Nat) (u : Cu) : (s.setCu t u).clash = s.clash := (rfl)
@[simp] theorem State.setCu_weirs (t : Nat) (u : Cu) : (s.setCu t u).weirs = s.weirs := (rfl)
@[simp] theorem State.setCu_slots (t : Nat) (u : Cu) : (s.setCu t u).slots = s.slots := (rfl)
@[simp] theorem State.setCu_slotAct (t : Nat) (u : Cu) : (s.setCu t u).slotAct = s.slotAct := (rfl)
@[simp] theorem State.setCu_optics (t : Nat) (u : Cu) : (s.setCu t u).optics = s.optics := (rfl)
@[simp] theorem State.setCu_bed (t : Nat) (u : Cu) : (s.setCu t u).bed = s.bed := (rfl)
@[simp] theorem State.setCu_ports (t : Nat) (u : Cu) : (s.setCu t u).ports = s.ports := (rfl)
@[simp] theorem State.setCu_svcs (t : Nat) (u : Cu) : (s.setCu t u).svcs = s.svcs := (rfl)
@[simp] theorem State.setCu_fab (t : Nat) (u : Cu) : (s.setCu t u).fab = s.fab := (rfl)
@[simp] theorem State.setCu_hq (t : Nat) (u : Cu) : (s.setCu t u).hq = s.hq := (rfl)
@[simp] theorem State.setCu_nrg (t : Nat) (u : Cu) : (s.setCu t u).nrg = s.nrg := (rfl)
@[simp] theorem State.setCu_sec (t : Nat) (u : Cu) : (s.setCu t u).sec = s.sec := (rfl)
@[simp] theorem State.setCu_log (t : Nat) (u : Cu) : (s.setCu t u).log = s.log := (rfl)
@[simp] theorem State.setCu_store (t : Nat) (u : Cu) : (s.setCu t u).store = s.store := (rfl)
@[simp] theorem State.setCu_errSeq (t : Nat) (u : Cu) : (s.setCu t u).errSeq = s.errSeq := (rfl)
@[simp] theorem State.setCu_err (t : Nat) (u : Cu) : (s.setCu t u).err = s.err := (rfl)
@[simp] theorem State.setCu_test (t : Nat) (u : Cu) : (s.setCu t u).test = s.test := (rfl)
@[simp] theorem State.setCu_pwr (t : Nat) (u : Cu) : (s.setCu t u).pwr = s.pwr := (rfl)

/-! `State.setMove` writes `moves` alone. -/
@[simp] theorem State.setMove_pending (m : MoveOp) : (s.setMove m).pending = s.pending := (rfl)
@[simp] theorem State.setMove_freeIdx (m : MoveOp) : (s.setMove m).freeIdx = s.freeIdx := (rfl)
@[simp] theorem State.setMove_opNext (m : MoveOp) : (s.setMove m).opNext = s.opNext := (rfl)
@[simp] theorem State.setMove_outbox (m : MoveOp) : (s.setMove m).outbox = s.outbox := (rfl)
@[simp] theorem State.setMove_fuses (m : MoveOp) : (s.setMove m).fuses = s.fuses := (rfl)
@[simp] theorem State.setMove_ticks (m : MoveOp) : (s.setMove m).ticks = s.ticks := (rfl)
@[simp] theorem State.setMove_regs (m : MoveOp) : (s.setMove m).regs = s.regs := (rfl)
@[simp] theorem State.setMove_mem (m : MoveOp) : (s.setMove m).mem = s.mem := (rfl)
@[simp] theorem State.setMove_trg (m : MoveOp) : (s.setMove m).trg = s.trg := (rfl)
@[simp] theorem State.setMove_trgCommit (m : MoveOp) : (s.setMove m).trgCommit = s.trgCommit := (rfl)
@[simp] theorem State.setMove_reaches (m : MoveOp) : (s.setMove m).reaches = s.reaches := (rfl)
@[simp] theorem State.setMove_plc (m : MoveOp) : (s.setMove m).plc = s.plc := (rfl)
@[simp] theorem State.setMove_cells (m : MoveOp) : (s.setMove m).cells = s.cells := (rfl)
@[simp] theorem State.setMove_seedBase (m : MoveOp) : (s.setMove m).seedBase = s.seedBase := (rfl)
@[simp] theorem State.setMove_clash (m : MoveOp) : (s.setMove m).clash = s.clash := (rfl)
@[simp] theorem State.setMove_weirs (m : MoveOp) : (s.setMove m).weirs = s.weirs := (rfl)
@[simp] theorem State.setMove_slots (m : MoveOp) : (s.setMove m).slots = s.slots := (rfl)
@[simp] theorem State.setMove_slotAct (m : MoveOp) : (s.setMove m).slotAct = s.slotAct := (rfl)
@[simp] theorem State.setMove_cus (m : MoveOp) : (s.setMove m).cus = s.cus := (rfl)
@[simp] theorem State.setMove_optics (m : MoveOp) : (s.setMove m).optics = s.optics := (rfl)
@[simp] theorem State.setMove_bed (m : MoveOp) : (s.setMove m).bed = s.bed := (rfl)
@[simp] theorem State.setMove_ports (m : MoveOp) : (s.setMove m).ports = s.ports := (rfl)
@[simp] theorem State.setMove_svcs (m : MoveOp) : (s.setMove m).svcs = s.svcs := (rfl)
@[simp] theorem State.setMove_fab (m : MoveOp) : (s.setMove m).fab = s.fab := (rfl)
@[simp] theorem State.setMove_hq (m : MoveOp) : (s.setMove m).hq = s.hq := (rfl)
@[simp] theorem State.setMove_nrg (m : MoveOp) : (s.setMove m).nrg = s.nrg := (rfl)
@[simp] theorem State.setMove_sec (m : MoveOp) : (s.setMove m).sec = s.sec := (rfl)
@[simp] theorem State.setMove_log (m : MoveOp) : (s.setMove m).log = s.log := (rfl)
@[simp] theorem State.setMove_store (m : MoveOp) : (s.setMove m).store = s.store := (rfl)
@[simp] theorem State.setMove_errSeq (m : MoveOp) : (s.setMove m).errSeq = s.errSeq := (rfl)
@[simp] theorem State.setMove_err (m : MoveOp) : (s.setMove m).err = s.err := (rfl)
@[simp] theorem State.setMove_test (m : MoveOp) : (s.setMove m).test = s.test := (rfl)
@[simp] theorem State.setMove_pwr (m : MoveOp) : (s.setMove m).pwr = s.pwr := (rfl)

/-! `State.setLink` writes `bed` alone. -/
@[simp] theorem State.setLink_pending (a b : Nat) (x : BLink) : (s.setLink a b x).pending = s.pending := (rfl)
@[simp] theorem State.setLink_freeIdx (a b : Nat) (x : BLink) : (s.setLink a b x).freeIdx = s.freeIdx := (rfl)
@[simp] theorem State.setLink_opNext (a b : Nat) (x : BLink) : (s.setLink a b x).opNext = s.opNext := (rfl)
@[simp] theorem State.setLink_outbox (a b : Nat) (x : BLink) : (s.setLink a b x).outbox = s.outbox := (rfl)
@[simp] theorem State.setLink_fuses (a b : Nat) (x : BLink) : (s.setLink a b x).fuses = s.fuses := (rfl)
@[simp] theorem State.setLink_ticks (a b : Nat) (x : BLink) : (s.setLink a b x).ticks = s.ticks := (rfl)
@[simp] theorem State.setLink_regs (a b : Nat) (x : BLink) : (s.setLink a b x).regs = s.regs := (rfl)
@[simp] theorem State.setLink_mem (a b : Nat) (x : BLink) : (s.setLink a b x).mem = s.mem := (rfl)
@[simp] theorem State.setLink_trg (a b : Nat) (x : BLink) : (s.setLink a b x).trg = s.trg := (rfl)
@[simp] theorem State.setLink_trgCommit (a b : Nat) (x : BLink) : (s.setLink a b x).trgCommit = s.trgCommit := (rfl)
@[simp] theorem State.setLink_reaches (a b : Nat) (x : BLink) : (s.setLink a b x).reaches = s.reaches := (rfl)
@[simp] theorem State.setLink_plc (a b : Nat) (x : BLink) : (s.setLink a b x).plc = s.plc := (rfl)
@[simp] theorem State.setLink_cells (a b : Nat) (x : BLink) : (s.setLink a b x).cells = s.cells := (rfl)
@[simp] theorem State.setLink_seedBase (a b : Nat) (x : BLink) : (s.setLink a b x).seedBase = s.seedBase := (rfl)
@[simp] theorem State.setLink_moves (a b : Nat) (x : BLink) : (s.setLink a b x).moves = s.moves := (rfl)
@[simp] theorem State.setLink_clash (a b : Nat) (x : BLink) : (s.setLink a b x).clash = s.clash := (rfl)
@[simp] theorem State.setLink_weirs (a b : Nat) (x : BLink) : (s.setLink a b x).weirs = s.weirs := (rfl)
@[simp] theorem State.setLink_slots (a b : Nat) (x : BLink) : (s.setLink a b x).slots = s.slots := (rfl)
@[simp] theorem State.setLink_slotAct (a b : Nat) (x : BLink) : (s.setLink a b x).slotAct = s.slotAct := (rfl)
@[simp] theorem State.setLink_cus (a b : Nat) (x : BLink) : (s.setLink a b x).cus = s.cus := (rfl)
@[simp] theorem State.setLink_optics (a b : Nat) (x : BLink) : (s.setLink a b x).optics = s.optics := (rfl)
@[simp] theorem State.setLink_ports (a b : Nat) (x : BLink) : (s.setLink a b x).ports = s.ports := (rfl)
@[simp] theorem State.setLink_svcs (a b : Nat) (x : BLink) : (s.setLink a b x).svcs = s.svcs := (rfl)
@[simp] theorem State.setLink_fab (a b : Nat) (x : BLink) : (s.setLink a b x).fab = s.fab := (rfl)
@[simp] theorem State.setLink_hq (a b : Nat) (x : BLink) : (s.setLink a b x).hq = s.hq := (rfl)
@[simp] theorem State.setLink_nrg (a b : Nat) (x : BLink) : (s.setLink a b x).nrg = s.nrg := (rfl)
@[simp] theorem State.setLink_sec (a b : Nat) (x : BLink) : (s.setLink a b x).sec = s.sec := (rfl)
@[simp] theorem State.setLink_log (a b : Nat) (x : BLink) : (s.setLink a b x).log = s.log := (rfl)
@[simp] theorem State.setLink_store (a b : Nat) (x : BLink) : (s.setLink a b x).store = s.store := (rfl)
@[simp] theorem State.setLink_errSeq (a b : Nat) (x : BLink) : (s.setLink a b x).errSeq = s.errSeq := (rfl)
@[simp] theorem State.setLink_err (a b : Nat) (x : BLink) : (s.setLink a b x).err = s.err := (rfl)
@[simp] theorem State.setLink_test (a b : Nat) (x : BLink) : (s.setLink a b x).test = s.test := (rfl)
@[simp] theorem State.setLink_pwr (a b : Nat) (x : BLink) : (s.setLink a b x).pwr = s.pwr := (rfl)

/-! `State.setLane` writes `bed` alone. -/
@[simp] theorem State.setLane_pending (i : Nat) (x : BLane) : (s.setLane i x).pending = s.pending := (rfl)
@[simp] theorem State.setLane_freeIdx (i : Nat) (x : BLane) : (s.setLane i x).freeIdx = s.freeIdx := (rfl)
@[simp] theorem State.setLane_opNext (i : Nat) (x : BLane) : (s.setLane i x).opNext = s.opNext := (rfl)
@[simp] theorem State.setLane_outbox (i : Nat) (x : BLane) : (s.setLane i x).outbox = s.outbox := (rfl)
@[simp] theorem State.setLane_fuses (i : Nat) (x : BLane) : (s.setLane i x).fuses = s.fuses := (rfl)
@[simp] theorem State.setLane_ticks (i : Nat) (x : BLane) : (s.setLane i x).ticks = s.ticks := (rfl)
@[simp] theorem State.setLane_regs (i : Nat) (x : BLane) : (s.setLane i x).regs = s.regs := (rfl)
@[simp] theorem State.setLane_mem (i : Nat) (x : BLane) : (s.setLane i x).mem = s.mem := (rfl)
@[simp] theorem State.setLane_trg (i : Nat) (x : BLane) : (s.setLane i x).trg = s.trg := (rfl)
@[simp] theorem State.setLane_trgCommit (i : Nat) (x : BLane) : (s.setLane i x).trgCommit = s.trgCommit := (rfl)
@[simp] theorem State.setLane_reaches (i : Nat) (x : BLane) : (s.setLane i x).reaches = s.reaches := (rfl)
@[simp] theorem State.setLane_plc (i : Nat) (x : BLane) : (s.setLane i x).plc = s.plc := (rfl)
@[simp] theorem State.setLane_cells (i : Nat) (x : BLane) : (s.setLane i x).cells = s.cells := (rfl)
@[simp] theorem State.setLane_seedBase (i : Nat) (x : BLane) : (s.setLane i x).seedBase = s.seedBase := (rfl)
@[simp] theorem State.setLane_moves (i : Nat) (x : BLane) : (s.setLane i x).moves = s.moves := (rfl)
@[simp] theorem State.setLane_clash (i : Nat) (x : BLane) : (s.setLane i x).clash = s.clash := (rfl)
@[simp] theorem State.setLane_weirs (i : Nat) (x : BLane) : (s.setLane i x).weirs = s.weirs := (rfl)
@[simp] theorem State.setLane_slots (i : Nat) (x : BLane) : (s.setLane i x).slots = s.slots := (rfl)
@[simp] theorem State.setLane_slotAct (i : Nat) (x : BLane) : (s.setLane i x).slotAct = s.slotAct := (rfl)
@[simp] theorem State.setLane_cus (i : Nat) (x : BLane) : (s.setLane i x).cus = s.cus := (rfl)
@[simp] theorem State.setLane_optics (i : Nat) (x : BLane) : (s.setLane i x).optics = s.optics := (rfl)
@[simp] theorem State.setLane_ports (i : Nat) (x : BLane) : (s.setLane i x).ports = s.ports := (rfl)
@[simp] theorem State.setLane_svcs (i : Nat) (x : BLane) : (s.setLane i x).svcs = s.svcs := (rfl)
@[simp] theorem State.setLane_fab (i : Nat) (x : BLane) : (s.setLane i x).fab = s.fab := (rfl)
@[simp] theorem State.setLane_hq (i : Nat) (x : BLane) : (s.setLane i x).hq = s.hq := (rfl)
@[simp] theorem State.setLane_nrg (i : Nat) (x : BLane) : (s.setLane i x).nrg = s.nrg := (rfl)
@[simp] theorem State.setLane_sec (i : Nat) (x : BLane) : (s.setLane i x).sec = s.sec := (rfl)
@[simp] theorem State.setLane_log (i : Nat) (x : BLane) : (s.setLane i x).log = s.log := (rfl)
@[simp] theorem State.setLane_store (i : Nat) (x : BLane) : (s.setLane i x).store = s.store := (rfl)
@[simp] theorem State.setLane_errSeq (i : Nat) (x : BLane) : (s.setLane i x).errSeq = s.errSeq := (rfl)
@[simp] theorem State.setLane_err (i : Nat) (x : BLane) : (s.setLane i x).err = s.err := (rfl)
@[simp] theorem State.setLane_test (i : Nat) (x : BLane) : (s.setLane i x).test = s.test := (rfl)
@[simp] theorem State.setLane_pwr (i : Nat) (x : BLane) : (s.setLane i x).pwr = s.pwr := (rfl)

/-! `State.setSpring` writes `optics` alone. -/
@[simp] theorem State.setSpring_pending (sp : Nat) (x : Spring) : (s.setSpring sp x).pending = s.pending := (rfl)
@[simp] theorem State.setSpring_freeIdx (sp : Nat) (x : Spring) : (s.setSpring sp x).freeIdx = s.freeIdx := (rfl)
@[simp] theorem State.setSpring_opNext (sp : Nat) (x : Spring) : (s.setSpring sp x).opNext = s.opNext := (rfl)
@[simp] theorem State.setSpring_outbox (sp : Nat) (x : Spring) : (s.setSpring sp x).outbox = s.outbox := (rfl)
@[simp] theorem State.setSpring_fuses (sp : Nat) (x : Spring) : (s.setSpring sp x).fuses = s.fuses := (rfl)
@[simp] theorem State.setSpring_ticks (sp : Nat) (x : Spring) : (s.setSpring sp x).ticks = s.ticks := (rfl)
@[simp] theorem State.setSpring_regs (sp : Nat) (x : Spring) : (s.setSpring sp x).regs = s.regs := (rfl)
@[simp] theorem State.setSpring_mem (sp : Nat) (x : Spring) : (s.setSpring sp x).mem = s.mem := (rfl)
@[simp] theorem State.setSpring_trg (sp : Nat) (x : Spring) : (s.setSpring sp x).trg = s.trg := (rfl)
@[simp] theorem State.setSpring_trgCommit (sp : Nat) (x : Spring) : (s.setSpring sp x).trgCommit = s.trgCommit := (rfl)
@[simp] theorem State.setSpring_reaches (sp : Nat) (x : Spring) : (s.setSpring sp x).reaches = s.reaches := (rfl)
@[simp] theorem State.setSpring_plc (sp : Nat) (x : Spring) : (s.setSpring sp x).plc = s.plc := (rfl)
@[simp] theorem State.setSpring_cells (sp : Nat) (x : Spring) : (s.setSpring sp x).cells = s.cells := (rfl)
@[simp] theorem State.setSpring_seedBase (sp : Nat) (x : Spring) : (s.setSpring sp x).seedBase = s.seedBase := (rfl)
@[simp] theorem State.setSpring_moves (sp : Nat) (x : Spring) : (s.setSpring sp x).moves = s.moves := (rfl)
@[simp] theorem State.setSpring_clash (sp : Nat) (x : Spring) : (s.setSpring sp x).clash = s.clash := (rfl)
@[simp] theorem State.setSpring_weirs (sp : Nat) (x : Spring) : (s.setSpring sp x).weirs = s.weirs := (rfl)
@[simp] theorem State.setSpring_slots (sp : Nat) (x : Spring) : (s.setSpring sp x).slots = s.slots := (rfl)
@[simp] theorem State.setSpring_slotAct (sp : Nat) (x : Spring) : (s.setSpring sp x).slotAct = s.slotAct := (rfl)
@[simp] theorem State.setSpring_cus (sp : Nat) (x : Spring) : (s.setSpring sp x).cus = s.cus := (rfl)
@[simp] theorem State.setSpring_bed (sp : Nat) (x : Spring) : (s.setSpring sp x).bed = s.bed := (rfl)
@[simp] theorem State.setSpring_ports (sp : Nat) (x : Spring) : (s.setSpring sp x).ports = s.ports := (rfl)
@[simp] theorem State.setSpring_svcs (sp : Nat) (x : Spring) : (s.setSpring sp x).svcs = s.svcs := (rfl)
@[simp] theorem State.setSpring_fab (sp : Nat) (x : Spring) : (s.setSpring sp x).fab = s.fab := (rfl)
@[simp] theorem State.setSpring_hq (sp : Nat) (x : Spring) : (s.setSpring sp x).hq = s.hq := (rfl)
@[simp] theorem State.setSpring_nrg (sp : Nat) (x : Spring) : (s.setSpring sp x).nrg = s.nrg := (rfl)
@[simp] theorem State.setSpring_sec (sp : Nat) (x : Spring) : (s.setSpring sp x).sec = s.sec := (rfl)
@[simp] theorem State.setSpring_log (sp : Nat) (x : Spring) : (s.setSpring sp x).log = s.log := (rfl)
@[simp] theorem State.setSpring_store (sp : Nat) (x : Spring) : (s.setSpring sp x).store = s.store := (rfl)
@[simp] theorem State.setSpring_errSeq (sp : Nat) (x : Spring) : (s.setSpring sp x).errSeq = s.errSeq := (rfl)
@[simp] theorem State.setSpring_err (sp : Nat) (x : Spring) : (s.setSpring sp x).err = s.err := (rfl)
@[simp] theorem State.setSpring_test (sp : Nat) (x : Spring) : (s.setSpring sp x).test = s.test := (rfl)
@[simp] theorem State.setSpring_pwr (sp : Nat) (x : Spring) : (s.setSpring sp x).pwr = s.pwr := (rfl)

/-! `State.setRing` writes `optics` alone. -/
@[simp] theorem State.setRing_pending (i : Nat) (r : Ring) : (s.setRing i r).pending = s.pending := (rfl)
@[simp] theorem State.setRing_freeIdx (i : Nat) (r : Ring) : (s.setRing i r).freeIdx = s.freeIdx := (rfl)
@[simp] theorem State.setRing_opNext (i : Nat) (r : Ring) : (s.setRing i r).opNext = s.opNext := (rfl)
@[simp] theorem State.setRing_outbox (i : Nat) (r : Ring) : (s.setRing i r).outbox = s.outbox := (rfl)
@[simp] theorem State.setRing_fuses (i : Nat) (r : Ring) : (s.setRing i r).fuses = s.fuses := (rfl)
@[simp] theorem State.setRing_ticks (i : Nat) (r : Ring) : (s.setRing i r).ticks = s.ticks := (rfl)
@[simp] theorem State.setRing_regs (i : Nat) (r : Ring) : (s.setRing i r).regs = s.regs := (rfl)
@[simp] theorem State.setRing_mem (i : Nat) (r : Ring) : (s.setRing i r).mem = s.mem := (rfl)
@[simp] theorem State.setRing_trg (i : Nat) (r : Ring) : (s.setRing i r).trg = s.trg := (rfl)
@[simp] theorem State.setRing_trgCommit (i : Nat) (r : Ring) : (s.setRing i r).trgCommit = s.trgCommit := (rfl)
@[simp] theorem State.setRing_reaches (i : Nat) (r : Ring) : (s.setRing i r).reaches = s.reaches := (rfl)
@[simp] theorem State.setRing_plc (i : Nat) (r : Ring) : (s.setRing i r).plc = s.plc := (rfl)
@[simp] theorem State.setRing_cells (i : Nat) (r : Ring) : (s.setRing i r).cells = s.cells := (rfl)
@[simp] theorem State.setRing_seedBase (i : Nat) (r : Ring) : (s.setRing i r).seedBase = s.seedBase := (rfl)
@[simp] theorem State.setRing_moves (i : Nat) (r : Ring) : (s.setRing i r).moves = s.moves := (rfl)
@[simp] theorem State.setRing_clash (i : Nat) (r : Ring) : (s.setRing i r).clash = s.clash := (rfl)
@[simp] theorem State.setRing_weirs (i : Nat) (r : Ring) : (s.setRing i r).weirs = s.weirs := (rfl)
@[simp] theorem State.setRing_slots (i : Nat) (r : Ring) : (s.setRing i r).slots = s.slots := (rfl)
@[simp] theorem State.setRing_slotAct (i : Nat) (r : Ring) : (s.setRing i r).slotAct = s.slotAct := (rfl)
@[simp] theorem State.setRing_cus (i : Nat) (r : Ring) : (s.setRing i r).cus = s.cus := (rfl)
@[simp] theorem State.setRing_bed (i : Nat) (r : Ring) : (s.setRing i r).bed = s.bed := (rfl)
@[simp] theorem State.setRing_ports (i : Nat) (r : Ring) : (s.setRing i r).ports = s.ports := (rfl)
@[simp] theorem State.setRing_svcs (i : Nat) (r : Ring) : (s.setRing i r).svcs = s.svcs := (rfl)
@[simp] theorem State.setRing_fab (i : Nat) (r : Ring) : (s.setRing i r).fab = s.fab := (rfl)
@[simp] theorem State.setRing_hq (i : Nat) (r : Ring) : (s.setRing i r).hq = s.hq := (rfl)
@[simp] theorem State.setRing_nrg (i : Nat) (r : Ring) : (s.setRing i r).nrg = s.nrg := (rfl)
@[simp] theorem State.setRing_sec (i : Nat) (r : Ring) : (s.setRing i r).sec = s.sec := (rfl)
@[simp] theorem State.setRing_log (i : Nat) (r : Ring) : (s.setRing i r).log = s.log := (rfl)
@[simp] theorem State.setRing_store (i : Nat) (r : Ring) : (s.setRing i r).store = s.store := (rfl)
@[simp] theorem State.setRing_errSeq (i : Nat) (r : Ring) : (s.setRing i r).errSeq = s.errSeq := (rfl)
@[simp] theorem State.setRing_err (i : Nat) (r : Ring) : (s.setRing i r).err = s.err := (rfl)
@[simp] theorem State.setRing_test (i : Nat) (r : Ring) : (s.setRing i r).test = s.test := (rfl)
@[simp] theorem State.setRing_pwr (i : Nat) (r : Ring) : (s.setRing i r).pwr = s.pwr := (rfl)

/-! `State.setSvc` writes `svcs` alone. -/
@[simp] theorem State.setSvc_pending (d : Nat) (x : Svc) : (s.setSvc d x).pending = s.pending := (rfl)
@[simp] theorem State.setSvc_freeIdx (d : Nat) (x : Svc) : (s.setSvc d x).freeIdx = s.freeIdx := (rfl)
@[simp] theorem State.setSvc_opNext (d : Nat) (x : Svc) : (s.setSvc d x).opNext = s.opNext := (rfl)
@[simp] theorem State.setSvc_outbox (d : Nat) (x : Svc) : (s.setSvc d x).outbox = s.outbox := (rfl)
@[simp] theorem State.setSvc_fuses (d : Nat) (x : Svc) : (s.setSvc d x).fuses = s.fuses := (rfl)
@[simp] theorem State.setSvc_ticks (d : Nat) (x : Svc) : (s.setSvc d x).ticks = s.ticks := (rfl)
@[simp] theorem State.setSvc_regs (d : Nat) (x : Svc) : (s.setSvc d x).regs = s.regs := (rfl)
@[simp] theorem State.setSvc_mem (d : Nat) (x : Svc) : (s.setSvc d x).mem = s.mem := (rfl)
@[simp] theorem State.setSvc_trg (d : Nat) (x : Svc) : (s.setSvc d x).trg = s.trg := (rfl)
@[simp] theorem State.setSvc_trgCommit (d : Nat) (x : Svc) : (s.setSvc d x).trgCommit = s.trgCommit := (rfl)
@[simp] theorem State.setSvc_reaches (d : Nat) (x : Svc) : (s.setSvc d x).reaches = s.reaches := (rfl)
@[simp] theorem State.setSvc_plc (d : Nat) (x : Svc) : (s.setSvc d x).plc = s.plc := (rfl)
@[simp] theorem State.setSvc_cells (d : Nat) (x : Svc) : (s.setSvc d x).cells = s.cells := (rfl)
@[simp] theorem State.setSvc_seedBase (d : Nat) (x : Svc) : (s.setSvc d x).seedBase = s.seedBase := (rfl)
@[simp] theorem State.setSvc_moves (d : Nat) (x : Svc) : (s.setSvc d x).moves = s.moves := (rfl)
@[simp] theorem State.setSvc_clash (d : Nat) (x : Svc) : (s.setSvc d x).clash = s.clash := (rfl)
@[simp] theorem State.setSvc_weirs (d : Nat) (x : Svc) : (s.setSvc d x).weirs = s.weirs := (rfl)
@[simp] theorem State.setSvc_slots (d : Nat) (x : Svc) : (s.setSvc d x).slots = s.slots := (rfl)
@[simp] theorem State.setSvc_slotAct (d : Nat) (x : Svc) : (s.setSvc d x).slotAct = s.slotAct := (rfl)
@[simp] theorem State.setSvc_cus (d : Nat) (x : Svc) : (s.setSvc d x).cus = s.cus := (rfl)
@[simp] theorem State.setSvc_optics (d : Nat) (x : Svc) : (s.setSvc d x).optics = s.optics := (rfl)
@[simp] theorem State.setSvc_bed (d : Nat) (x : Svc) : (s.setSvc d x).bed = s.bed := (rfl)
@[simp] theorem State.setSvc_ports (d : Nat) (x : Svc) : (s.setSvc d x).ports = s.ports := (rfl)
@[simp] theorem State.setSvc_fab (d : Nat) (x : Svc) : (s.setSvc d x).fab = s.fab := (rfl)
@[simp] theorem State.setSvc_hq (d : Nat) (x : Svc) : (s.setSvc d x).hq = s.hq := (rfl)
@[simp] theorem State.setSvc_nrg (d : Nat) (x : Svc) : (s.setSvc d x).nrg = s.nrg := (rfl)
@[simp] theorem State.setSvc_sec (d : Nat) (x : Svc) : (s.setSvc d x).sec = s.sec := (rfl)
@[simp] theorem State.setSvc_log (d : Nat) (x : Svc) : (s.setSvc d x).log = s.log := (rfl)
@[simp] theorem State.setSvc_store (d : Nat) (x : Svc) : (s.setSvc d x).store = s.store := (rfl)
@[simp] theorem State.setSvc_errSeq (d : Nat) (x : Svc) : (s.setSvc d x).errSeq = s.errSeq := (rfl)
@[simp] theorem State.setSvc_err (d : Nat) (x : Svc) : (s.setSvc d x).err = s.err := (rfl)
@[simp] theorem State.setSvc_test (d : Nat) (x : Svc) : (s.setSvc d x).test = s.test := (rfl)
@[simp] theorem State.setSvc_pwr (d : Nat) (x : Svc) : (s.setSvc d x).pwr = s.pwr := (rfl)

/-! `State.setDom` writes `nrg` alone. -/
@[simp] theorem State.setDom_pending (d : Nat) (x : ThermDom) : (s.setDom d x).pending = s.pending := (rfl)
@[simp] theorem State.setDom_freeIdx (d : Nat) (x : ThermDom) : (s.setDom d x).freeIdx = s.freeIdx := (rfl)
@[simp] theorem State.setDom_opNext (d : Nat) (x : ThermDom) : (s.setDom d x).opNext = s.opNext := (rfl)
@[simp] theorem State.setDom_outbox (d : Nat) (x : ThermDom) : (s.setDom d x).outbox = s.outbox := (rfl)
@[simp] theorem State.setDom_fuses (d : Nat) (x : ThermDom) : (s.setDom d x).fuses = s.fuses := (rfl)
@[simp] theorem State.setDom_ticks (d : Nat) (x : ThermDom) : (s.setDom d x).ticks = s.ticks := (rfl)
@[simp] theorem State.setDom_regs (d : Nat) (x : ThermDom) : (s.setDom d x).regs = s.regs := (rfl)
@[simp] theorem State.setDom_mem (d : Nat) (x : ThermDom) : (s.setDom d x).mem = s.mem := (rfl)
@[simp] theorem State.setDom_trg (d : Nat) (x : ThermDom) : (s.setDom d x).trg = s.trg := (rfl)
@[simp] theorem State.setDom_trgCommit (d : Nat) (x : ThermDom) : (s.setDom d x).trgCommit = s.trgCommit := (rfl)
@[simp] theorem State.setDom_reaches (d : Nat) (x : ThermDom) : (s.setDom d x).reaches = s.reaches := (rfl)
@[simp] theorem State.setDom_plc (d : Nat) (x : ThermDom) : (s.setDom d x).plc = s.plc := (rfl)
@[simp] theorem State.setDom_cells (d : Nat) (x : ThermDom) : (s.setDom d x).cells = s.cells := (rfl)
@[simp] theorem State.setDom_seedBase (d : Nat) (x : ThermDom) : (s.setDom d x).seedBase = s.seedBase := (rfl)
@[simp] theorem State.setDom_moves (d : Nat) (x : ThermDom) : (s.setDom d x).moves = s.moves := (rfl)
@[simp] theorem State.setDom_clash (d : Nat) (x : ThermDom) : (s.setDom d x).clash = s.clash := (rfl)
@[simp] theorem State.setDom_weirs (d : Nat) (x : ThermDom) : (s.setDom d x).weirs = s.weirs := (rfl)
@[simp] theorem State.setDom_slots (d : Nat) (x : ThermDom) : (s.setDom d x).slots = s.slots := (rfl)
@[simp] theorem State.setDom_slotAct (d : Nat) (x : ThermDom) : (s.setDom d x).slotAct = s.slotAct := (rfl)
@[simp] theorem State.setDom_cus (d : Nat) (x : ThermDom) : (s.setDom d x).cus = s.cus := (rfl)
@[simp] theorem State.setDom_optics (d : Nat) (x : ThermDom) : (s.setDom d x).optics = s.optics := (rfl)
@[simp] theorem State.setDom_bed (d : Nat) (x : ThermDom) : (s.setDom d x).bed = s.bed := (rfl)
@[simp] theorem State.setDom_ports (d : Nat) (x : ThermDom) : (s.setDom d x).ports = s.ports := (rfl)
@[simp] theorem State.setDom_svcs (d : Nat) (x : ThermDom) : (s.setDom d x).svcs = s.svcs := (rfl)
@[simp] theorem State.setDom_fab (d : Nat) (x : ThermDom) : (s.setDom d x).fab = s.fab := (rfl)
@[simp] theorem State.setDom_hq (d : Nat) (x : ThermDom) : (s.setDom d x).hq = s.hq := (rfl)
@[simp] theorem State.setDom_sec (d : Nat) (x : ThermDom) : (s.setDom d x).sec = s.sec := (rfl)
@[simp] theorem State.setDom_log (d : Nat) (x : ThermDom) : (s.setDom d x).log = s.log := (rfl)
@[simp] theorem State.setDom_store (d : Nat) (x : ThermDom) : (s.setDom d x).store = s.store := (rfl)
@[simp] theorem State.setDom_errSeq (d : Nat) (x : ThermDom) : (s.setDom d x).errSeq = s.errSeq := (rfl)
@[simp] theorem State.setDom_err (d : Nat) (x : ThermDom) : (s.setDom d x).err = s.err := (rfl)
@[simp] theorem State.setDom_test (d : Nat) (x : ThermDom) : (s.setDom d x).test = s.test := (rfl)
@[simp] theorem State.setDom_pwr (d : Nat) (x : ThermDom) : (s.setDom d x).pwr = s.pwr := (rfl)

/-! `State.setSensor` writes `nrg` alone. -/
@[simp] theorem State.setSensor_pending (i : Nat) (x : Sensor) : (s.setSensor i x).pending = s.pending := (rfl)
@[simp] theorem State.setSensor_freeIdx (i : Nat) (x : Sensor) : (s.setSensor i x).freeIdx = s.freeIdx := (rfl)
@[simp] theorem State.setSensor_opNext (i : Nat) (x : Sensor) : (s.setSensor i x).opNext = s.opNext := (rfl)
@[simp] theorem State.setSensor_outbox (i : Nat) (x : Sensor) : (s.setSensor i x).outbox = s.outbox := (rfl)
@[simp] theorem State.setSensor_fuses (i : Nat) (x : Sensor) : (s.setSensor i x).fuses = s.fuses := (rfl)
@[simp] theorem State.setSensor_ticks (i : Nat) (x : Sensor) : (s.setSensor i x).ticks = s.ticks := (rfl)
@[simp] theorem State.setSensor_regs (i : Nat) (x : Sensor) : (s.setSensor i x).regs = s.regs := (rfl)
@[simp] theorem State.setSensor_mem (i : Nat) (x : Sensor) : (s.setSensor i x).mem = s.mem := (rfl)
@[simp] theorem State.setSensor_trg (i : Nat) (x : Sensor) : (s.setSensor i x).trg = s.trg := (rfl)
@[simp] theorem State.setSensor_trgCommit (i : Nat) (x : Sensor) : (s.setSensor i x).trgCommit = s.trgCommit := (rfl)
@[simp] theorem State.setSensor_reaches (i : Nat) (x : Sensor) : (s.setSensor i x).reaches = s.reaches := (rfl)
@[simp] theorem State.setSensor_plc (i : Nat) (x : Sensor) : (s.setSensor i x).plc = s.plc := (rfl)
@[simp] theorem State.setSensor_cells (i : Nat) (x : Sensor) : (s.setSensor i x).cells = s.cells := (rfl)
@[simp] theorem State.setSensor_seedBase (i : Nat) (x : Sensor) : (s.setSensor i x).seedBase = s.seedBase := (rfl)
@[simp] theorem State.setSensor_moves (i : Nat) (x : Sensor) : (s.setSensor i x).moves = s.moves := (rfl)
@[simp] theorem State.setSensor_clash (i : Nat) (x : Sensor) : (s.setSensor i x).clash = s.clash := (rfl)
@[simp] theorem State.setSensor_weirs (i : Nat) (x : Sensor) : (s.setSensor i x).weirs = s.weirs := (rfl)
@[simp] theorem State.setSensor_slots (i : Nat) (x : Sensor) : (s.setSensor i x).slots = s.slots := (rfl)
@[simp] theorem State.setSensor_slotAct (i : Nat) (x : Sensor) : (s.setSensor i x).slotAct = s.slotAct := (rfl)
@[simp] theorem State.setSensor_cus (i : Nat) (x : Sensor) : (s.setSensor i x).cus = s.cus := (rfl)
@[simp] theorem State.setSensor_optics (i : Nat) (x : Sensor) : (s.setSensor i x).optics = s.optics := (rfl)
@[simp] theorem State.setSensor_bed (i : Nat) (x : Sensor) : (s.setSensor i x).bed = s.bed := (rfl)
@[simp] theorem State.setSensor_ports (i : Nat) (x : Sensor) : (s.setSensor i x).ports = s.ports := (rfl)
@[simp] theorem State.setSensor_svcs (i : Nat) (x : Sensor) : (s.setSensor i x).svcs = s.svcs := (rfl)
@[simp] theorem State.setSensor_fab (i : Nat) (x : Sensor) : (s.setSensor i x).fab = s.fab := (rfl)
@[simp] theorem State.setSensor_hq (i : Nat) (x : Sensor) : (s.setSensor i x).hq = s.hq := (rfl)
@[simp] theorem State.setSensor_sec (i : Nat) (x : Sensor) : (s.setSensor i x).sec = s.sec := (rfl)
@[simp] theorem State.setSensor_log (i : Nat) (x : Sensor) : (s.setSensor i x).log = s.log := (rfl)
@[simp] theorem State.setSensor_store (i : Nat) (x : Sensor) : (s.setSensor i x).store = s.store := (rfl)
@[simp] theorem State.setSensor_errSeq (i : Nat) (x : Sensor) : (s.setSensor i x).errSeq = s.errSeq := (rfl)
@[simp] theorem State.setSensor_err (i : Nat) (x : Sensor) : (s.setSensor i x).err = s.err := (rfl)
@[simp] theorem State.setSensor_test (i : Nat) (x : Sensor) : (s.setSensor i x).test = s.test := (rfl)
@[simp] theorem State.setSensor_pwr (i : Nat) (x : Sensor) : (s.setSensor i x).pwr = s.pwr := (rfl)

/-! `State.setHello` writes `fab` alone. -/
@[simp] theorem State.setHello_pending (p : Nat) (h : HelloSt) : (s.setHello p h).pending = s.pending := (rfl)
@[simp] theorem State.setHello_freeIdx (p : Nat) (h : HelloSt) : (s.setHello p h).freeIdx = s.freeIdx := (rfl)
@[simp] theorem State.setHello_opNext (p : Nat) (h : HelloSt) : (s.setHello p h).opNext = s.opNext := (rfl)
@[simp] theorem State.setHello_outbox (p : Nat) (h : HelloSt) : (s.setHello p h).outbox = s.outbox := (rfl)
@[simp] theorem State.setHello_fuses (p : Nat) (h : HelloSt) : (s.setHello p h).fuses = s.fuses := (rfl)
@[simp] theorem State.setHello_ticks (p : Nat) (h : HelloSt) : (s.setHello p h).ticks = s.ticks := (rfl)
@[simp] theorem State.setHello_regs (p : Nat) (h : HelloSt) : (s.setHello p h).regs = s.regs := (rfl)
@[simp] theorem State.setHello_mem (p : Nat) (h : HelloSt) : (s.setHello p h).mem = s.mem := (rfl)
@[simp] theorem State.setHello_trg (p : Nat) (h : HelloSt) : (s.setHello p h).trg = s.trg := (rfl)
@[simp] theorem State.setHello_trgCommit (p : Nat) (h : HelloSt) : (s.setHello p h).trgCommit = s.trgCommit := (rfl)
@[simp] theorem State.setHello_reaches (p : Nat) (h : HelloSt) : (s.setHello p h).reaches = s.reaches := (rfl)
@[simp] theorem State.setHello_plc (p : Nat) (h : HelloSt) : (s.setHello p h).plc = s.plc := (rfl)
@[simp] theorem State.setHello_cells (p : Nat) (h : HelloSt) : (s.setHello p h).cells = s.cells := (rfl)
@[simp] theorem State.setHello_seedBase (p : Nat) (h : HelloSt) : (s.setHello p h).seedBase = s.seedBase := (rfl)
@[simp] theorem State.setHello_moves (p : Nat) (h : HelloSt) : (s.setHello p h).moves = s.moves := (rfl)
@[simp] theorem State.setHello_clash (p : Nat) (h : HelloSt) : (s.setHello p h).clash = s.clash := (rfl)
@[simp] theorem State.setHello_weirs (p : Nat) (h : HelloSt) : (s.setHello p h).weirs = s.weirs := (rfl)
@[simp] theorem State.setHello_slots (p : Nat) (h : HelloSt) : (s.setHello p h).slots = s.slots := (rfl)
@[simp] theorem State.setHello_slotAct (p : Nat) (h : HelloSt) : (s.setHello p h).slotAct = s.slotAct := (rfl)
@[simp] theorem State.setHello_cus (p : Nat) (h : HelloSt) : (s.setHello p h).cus = s.cus := (rfl)
@[simp] theorem State.setHello_optics (p : Nat) (h : HelloSt) : (s.setHello p h).optics = s.optics := (rfl)
@[simp] theorem State.setHello_bed (p : Nat) (h : HelloSt) : (s.setHello p h).bed = s.bed := (rfl)
@[simp] theorem State.setHello_ports (p : Nat) (h : HelloSt) : (s.setHello p h).ports = s.ports := (rfl)
@[simp] theorem State.setHello_svcs (p : Nat) (h : HelloSt) : (s.setHello p h).svcs = s.svcs := (rfl)
@[simp] theorem State.setHello_hq (p : Nat) (h : HelloSt) : (s.setHello p h).hq = s.hq := (rfl)
@[simp] theorem State.setHello_nrg (p : Nat) (h : HelloSt) : (s.setHello p h).nrg = s.nrg := (rfl)
@[simp] theorem State.setHello_sec (p : Nat) (h : HelloSt) : (s.setHello p h).sec = s.sec := (rfl)
@[simp] theorem State.setHello_log (p : Nat) (h : HelloSt) : (s.setHello p h).log = s.log := (rfl)
@[simp] theorem State.setHello_store (p : Nat) (h : HelloSt) : (s.setHello p h).store = s.store := (rfl)
@[simp] theorem State.setHello_errSeq (p : Nat) (h : HelloSt) : (s.setHello p h).errSeq = s.errSeq := (rfl)
@[simp] theorem State.setHello_err (p : Nat) (h : HelloSt) : (s.setHello p h).err = s.err := (rfl)
@[simp] theorem State.setHello_test (p : Nat) (h : HelloSt) : (s.setHello p h).test = s.test := (rfl)
@[simp] theorem State.setHello_pwr (p : Nat) (h : HelloSt) : (s.setHello p h).pwr = s.pwr := (rfl)

/-! `State.txWait` writes `fab` alone. -/
@[simp] theorem State.txWait_pending (port vc : Nat) (pkt : Packet) (own : Option Nat) : (s.txWait port vc pkt own).pending = s.pending := (rfl)
@[simp] theorem State.txWait_freeIdx (port vc : Nat) (pkt : Packet) (own : Option Nat) : (s.txWait port vc pkt own).freeIdx = s.freeIdx := (rfl)
@[simp] theorem State.txWait_opNext (port vc : Nat) (pkt : Packet) (own : Option Nat) : (s.txWait port vc pkt own).opNext = s.opNext := (rfl)
@[simp] theorem State.txWait_outbox (port vc : Nat) (pkt : Packet) (own : Option Nat) : (s.txWait port vc pkt own).outbox = s.outbox := (rfl)
@[simp] theorem State.txWait_fuses (port vc : Nat) (pkt : Packet) (own : Option Nat) : (s.txWait port vc pkt own).fuses = s.fuses := (rfl)
@[simp] theorem State.txWait_ticks (port vc : Nat) (pkt : Packet) (own : Option Nat) : (s.txWait port vc pkt own).ticks = s.ticks := (rfl)
@[simp] theorem State.txWait_regs (port vc : Nat) (pkt : Packet) (own : Option Nat) : (s.txWait port vc pkt own).regs = s.regs := (rfl)
@[simp] theorem State.txWait_mem (port vc : Nat) (pkt : Packet) (own : Option Nat) : (s.txWait port vc pkt own).mem = s.mem := (rfl)
@[simp] theorem State.txWait_trg (port vc : Nat) (pkt : Packet) (own : Option Nat) : (s.txWait port vc pkt own).trg = s.trg := (rfl)
@[simp] theorem State.txWait_trgCommit (port vc : Nat) (pkt : Packet) (own : Option Nat) : (s.txWait port vc pkt own).trgCommit = s.trgCommit := (rfl)
@[simp] theorem State.txWait_reaches (port vc : Nat) (pkt : Packet) (own : Option Nat) : (s.txWait port vc pkt own).reaches = s.reaches := (rfl)
@[simp] theorem State.txWait_plc (port vc : Nat) (pkt : Packet) (own : Option Nat) : (s.txWait port vc pkt own).plc = s.plc := (rfl)
@[simp] theorem State.txWait_cells (port vc : Nat) (pkt : Packet) (own : Option Nat) : (s.txWait port vc pkt own).cells = s.cells := (rfl)
@[simp] theorem State.txWait_seedBase (port vc : Nat) (pkt : Packet) (own : Option Nat) : (s.txWait port vc pkt own).seedBase = s.seedBase := (rfl)
@[simp] theorem State.txWait_moves (port vc : Nat) (pkt : Packet) (own : Option Nat) : (s.txWait port vc pkt own).moves = s.moves := (rfl)
@[simp] theorem State.txWait_clash (port vc : Nat) (pkt : Packet) (own : Option Nat) : (s.txWait port vc pkt own).clash = s.clash := (rfl)
@[simp] theorem State.txWait_weirs (port vc : Nat) (pkt : Packet) (own : Option Nat) : (s.txWait port vc pkt own).weirs = s.weirs := (rfl)
@[simp] theorem State.txWait_slots (port vc : Nat) (pkt : Packet) (own : Option Nat) : (s.txWait port vc pkt own).slots = s.slots := (rfl)
@[simp] theorem State.txWait_slotAct (port vc : Nat) (pkt : Packet) (own : Option Nat) : (s.txWait port vc pkt own).slotAct = s.slotAct := (rfl)
@[simp] theorem State.txWait_cus (port vc : Nat) (pkt : Packet) (own : Option Nat) : (s.txWait port vc pkt own).cus = s.cus := (rfl)
@[simp] theorem State.txWait_optics (port vc : Nat) (pkt : Packet) (own : Option Nat) : (s.txWait port vc pkt own).optics = s.optics := (rfl)
@[simp] theorem State.txWait_bed (port vc : Nat) (pkt : Packet) (own : Option Nat) : (s.txWait port vc pkt own).bed = s.bed := (rfl)
@[simp] theorem State.txWait_ports (port vc : Nat) (pkt : Packet) (own : Option Nat) : (s.txWait port vc pkt own).ports = s.ports := (rfl)
@[simp] theorem State.txWait_svcs (port vc : Nat) (pkt : Packet) (own : Option Nat) : (s.txWait port vc pkt own).svcs = s.svcs := (rfl)
@[simp] theorem State.txWait_hq (port vc : Nat) (pkt : Packet) (own : Option Nat) : (s.txWait port vc pkt own).hq = s.hq := (rfl)
@[simp] theorem State.txWait_nrg (port vc : Nat) (pkt : Packet) (own : Option Nat) : (s.txWait port vc pkt own).nrg = s.nrg := (rfl)
@[simp] theorem State.txWait_sec (port vc : Nat) (pkt : Packet) (own : Option Nat) : (s.txWait port vc pkt own).sec = s.sec := (rfl)
@[simp] theorem State.txWait_log (port vc : Nat) (pkt : Packet) (own : Option Nat) : (s.txWait port vc pkt own).log = s.log := (rfl)
@[simp] theorem State.txWait_store (port vc : Nat) (pkt : Packet) (own : Option Nat) : (s.txWait port vc pkt own).store = s.store := (rfl)
@[simp] theorem State.txWait_errSeq (port vc : Nat) (pkt : Packet) (own : Option Nat) : (s.txWait port vc pkt own).errSeq = s.errSeq := (rfl)
@[simp] theorem State.txWait_err (port vc : Nat) (pkt : Packet) (own : Option Nat) : (s.txWait port vc pkt own).err = s.err := (rfl)
@[simp] theorem State.txWait_test (port vc : Nat) (pkt : Packet) (own : Option Nat) : (s.txWait port vc pkt own).test = s.test := (rfl)
@[simp] theorem State.txWait_pwr (port vc : Nat) (pkt : Packet) (own : Option Nat) : (s.txWait port vc pkt own).pwr = s.pwr := (rfl)

end Sys2Proof.Machine
end

