-- ==== Sys2Proof/Laws/Tab.lean ====
section
/-! SUPPORT. The laws of sparse tables: what a read gives after a write, that every operation keeps the canonical form, and that
two tables in canonical form that read alike are equal. -/

set_option Elab.async false

namespace Sys2Proof.Machine

variable {α : Type}

/-! ### Reading after writing -/

/-- A read of the key just put. -/
theorem tget_tput_self (d : α) (t : Tab α) (i : Nat) (x : α) : tget d (tput t i x) i = x := by
  induction t with
  | nil => simp [tput, tget]
  | cons kv t ih =>
    obtain ⟨k, v⟩ := kv
    by_cases h1 : i < k
    · simp [tput, tget, h1]
    · by_cases h2 : i = k
      · simp [tput, tget, h2]
      · simp [tput, tget, h1, h2, ih]

/-- A read of another key than the one put. -/
theorem tget_tput_ne (d : α) (t : Tab α) (i j : Nat) (x : α) (h : j ≠ i) : tget d (tput t i x) j = tget d t j := by
  induction t with
  | nil => simp [tput, tget, h]
  | cons kv t ih =>
    obtain ⟨k, v⟩ := kv
    by_cases h1 : i < k
    · simp [tput, tget, h1, h]
    · by_cases h2 : i = k
      · subst h2; simp [tput, tget, h]
      · simp [tput, tget, h1, h2, ih]

/-- A deleted key reads as the default. -/
theorem tget_tdel_self (d : α) (t : Tab α) (i : Nat) : tget d (tdel t i) i = d := by
  induction t with
  | nil => rfl
  | cons kv t ih =>
    obtain ⟨k, v⟩ := kv
    by_cases h : i = k
    · simpa [tdel, h] using h ▸ ih
    · simp [tdel, tget, h, ih]

/-- Deleting a key leaves the others. -/
theorem tget_tdel_ne (d : α) (t : Tab α) (i j : Nat) (h : j ≠ i) : tget d (tdel t i) j = tget d t j := by
  induction t with
  | nil => rfl
  | cons kv t ih =>
    obtain ⟨k, v⟩ := kv
    by_cases h2 : i = k
    · subst h2; simp [tdel, tget, h, ih]
    · simp [tdel, tget, h2, ih]

variable [DecidableEq α]

/-- A read of the key just set. -/
@[simp] theorem tget_tset_self (d : α) (t : Tab α) (i : Nat) (x : α) : tget d (tset d t i x) i = x := by
  by_cases h : x = d
  · simp [tset, h, tget_tdel_self]
  · simp [tset, h, tget_tput_self]

/-- A read of another key than the one set, whatever default the read takes. -/
theorem tget_tset_ne (d e : α) (t : Tab α) (i j : Nat) (x : α) (h : j ≠ i) : tget e (tset d t i x) j = tget e t j := by
  by_cases hx : x = d
  · simp [tset, hx, tget_tdel_ne, h]
  · simp [tset, hx, tget_tput_ne, h]

/-- A read after a set, whatever the key. -/
theorem tget_tset (d : α) (t : Tab α) (i j : Nat) (x : α) : tget d (tset d t i x) j = if j = i then x else tget d t j := by
  by_cases h : j = i
  · simp [h]
  · simp [h, tget_tset_ne]

omit [DecidableEq α] in
/-- Concatenated tables: the first that lists the key answers. -/
theorem tget_append (d : α) (t u : Tab α) (j : Nat) :
    tget d (t ++ u) j = if (t.any fun kv => kv.1 == j) then tget d t j else tget d u j := by
  induction t with
  | nil => simp
  | cons kv t ih =>
    obtain ⟨k, v⟩ := kv
    by_cases h : j = k
    · simp [tget, h]
    · have h' : (k == j) = false := by simpa using Ne.symm h
      simp only [List.cons_append, tget, if_neg h, ih, List.any_cons, h', Bool.false_or]

omit [DecidableEq α] in
/-- A table that does not list a key reads as the default there. -/
theorem tget_of_not_listed (d : α) (t : Tab α) (j : Nat) (h : ∀ kv ∈ t, kv.1 ≠ j) : tget d t j = d := by
  induction t with
  | nil => rfl
  | cons kv t ih =>
    obtain ⟨k, v⟩ := kv
    have h1 : j ≠ k := fun e => h (k, v) (by simp) e.symm
    simp [tget, h1, ih fun kv hm => h kv (by simp [hm])]

omit [DecidableEq α] in
/-- A filter on keys keeps what it lets through. -/
theorem tget_filter (d : α) (p : Nat → Bool) (t : Tab α) (j : Nat) :
    tget d (t.filter fun kv => p kv.1) j = if p j then tget d t j else d := by
  induction t with
  | nil => simp [tget]
  | cons kv t ih =>
    obtain ⟨k, v⟩ := kv
    by_cases hp : p k = true
    · by_cases h : j = k
      · subst h; simp [tget, hp]
      · simp [tget, hp, h, ih]
    · by_cases h : j = k
      · subst h; simp [hp, ih]
      · simp [tget, hp, h, ih]

/-- The keys of consecutive entries. -/
theorem tlist_keys (d : α) (lo : Nat) (xs : List α) : ∀ kv ∈ tlist d lo xs, lo ≤ kv.1 ∧ kv.1 < lo + xs.length := by
  induction xs generalizing lo with
  | nil => simp [tlist]
  | cons x xs ih =>
    intro kv h
    have key : kv ∈ tlist d (lo + 1) xs ∨ kv = (lo, x) := by
      by_cases hx : x = d
      · simp [tlist, hx] at h; exact .inl h
      · simp [tlist, hx] at h; exact h.symm
    rcases key with h | h
    · have := ih (lo + 1) kv h; simp; omega
    · subst h; simp

/-- A read of consecutive entries. -/
theorem tget_tlist (d : α) (lo : Nat) (xs : List α) (j : Nat) :
    tget d (tlist d lo xs) j = if lo ≤ j then (xs[j - lo]?).getD d else d := by
  induction xs generalizing lo with
  | nil => simp [tlist, tget]
  | cons x xs ih =>
    by_cases hj : j = lo
    · subst hj
      by_cases hx : x = d
      · simp [tlist, hx, ih]
      · simp [tlist, hx, tget]
    · have e : tget d (tlist d lo (x :: xs)) j = tget d (tlist d (lo + 1) xs) j := by
        by_cases hx : x = d
        · simp [tlist, hx]
        · simp [tlist, hx, tget, hj]
      rw [e, ih]
      by_cases hl : lo + 1 ≤ j
      · have h1 : lo ≤ j := by omega
        have h2 : j - lo = (j - (lo + 1)) + 1 := by omega
        simp [hl, h1, h2]
      · have h1 : ¬ lo ≤ j := by omega
        simp [hl, h1]

/-- A read after consecutive keys were set: the new values inside, the old ones outside. -/
theorem tget_tfill (d : α) (t : Tab α) (lo : Nat) (xs : List α) (j : Nat) :
    tget d (tfill d t lo xs) j = if lo ≤ j ∧ j < lo + xs.length then (xs[j - lo]?).getD d else tget d t j := by
  have hA : tget d (t.filter fun kv => decide (kv.1 < lo)) j = if j < lo then tget d t j else d := by
    simpa using tget_filter d (fun k => decide (k < lo)) t j
  have hC : tget d (t.filter fun kv => decide (lo + xs.length ≤ kv.1)) j = if lo + xs.length ≤ j then tget d t j else d := by
    simpa using tget_filter d (fun k => decide (lo + xs.length ≤ k)) t j
  unfold tfill
  rw [tget_append, tget_append]
  by_cases h1 : j < lo
  · have hB : tget d (tlist d lo xs) j = d := by
      apply tget_of_not_listed; intro kv hm; have := tlist_keys d lo xs kv hm; omega
    have hn : ¬ (lo ≤ j ∧ j < lo + xs.length) := by omega
    have hcn : ¬ lo + xs.length ≤ j := by omega
    have hlist : ∀ b : Bool, (b = true → tget d t j = tget d t j) := fun _ _ => rfl
    rw [if_neg hn]
    by_cases hl : ((t.filter fun kv => decide (kv.1 < lo)).any fun kv => kv.1 == j) = true
    · simp only [List.any_append, hl, Bool.true_or, if_true]; simp [hA, h1]
    · have hz : tget d t j = d := by
        apply tget_of_not_listed
        intro kv hm he
        apply hl
        rw [List.any_eq_true]
        exact ⟨kv, by simp [List.mem_filter, hm, he, h1], by simp [he]⟩
      simp only [hA, hB, hC, h1, hcn, hz, if_true, if_false]
      split <;> rfl
  · by_cases h2 : j < lo + xs.length
    · have hin : lo ≤ j ∧ j < lo + xs.length := by omega
      have hcn : ¬ lo + xs.length ≤ j := by omega
      have hfa : ((t.filter fun kv => decide (kv.1 < lo)).any fun kv => kv.1 == j) = false := by
        rw [List.any_eq_false]; intro kv hm; simp [List.mem_filter] at hm; simp; omega
      rw [if_pos hin]
      have hB := tget_tlist d lo xs j
      rw [if_pos hin.1] at hB
      simp only [List.any_append, hfa, Bool.false_or]
      by_cases hl : ((tlist d lo xs).any fun kv => kv.1 == j) = true
      · simp [hl, hB]
      · have hz : tget d (tlist d lo xs) j = d := by
          apply tget_of_not_listed; intro kv hm he; apply hl; rw [List.any_eq_true]; exact ⟨kv, hm, by simp [he]⟩
        simp only [hl, hC, hcn, if_false]
        rw [← hB, hz]; simp
    · have hout : ¬ (lo ≤ j ∧ j < lo + xs.length) := by omega
      have hge : lo + xs.length ≤ j := by omega
      have hfa : ((t.filter fun kv => decide (kv.1 < lo)).any fun kv => kv.1 == j) = false := by
        rw [List.any_eq_false]; intro kv hm; simp [List.mem_filter] at hm; simp; omega
      have hfb : ((tlist d lo xs).any fun kv => kv.1 == j) = false := by
        rw [List.any_eq_false]; intro kv hm; have := tlist_keys d lo xs kv hm; simp; omega
      simp [List.any_append, hfa, hfb, hC, hge, hout]

/-! ### The canonical form -/

/-- A lower bound may be lowered. -/
theorem twfFrom_mono (d : α) (t : Tab α) (a b : Nat) (h : a ≤ b) (w : twfFrom d (some b) t = true) : twfFrom d (some a) t = true := by
  cases t with
  | nil => rfl
  | cons kv t => obtain ⟨k, v⟩ := kv; simp [twfFrom] at w ⊢; exact ⟨⟨by omega, w.1.2⟩, w.2⟩

/-- Every bound admits what a bound admits. -/
theorem twfFrom_none (d : α) (t : Tab α) (b : Nat) (w : twfFrom d (some b) t = true) : twfFrom d none t = true := by
  cases t with
  | nil => rfl
  | cons kv t => obtain ⟨k, v⟩ := kv; simp [twfFrom] at w ⊢; exact ⟨w.1.2, w.2⟩

/-- Above a bound: sorted, every key above the bound, no default. -/
theorem twfFrom_iff (d : α) (t : Tab α) (b : Nat) :
    twfFrom d (some b) t = true ↔ (t.Pairwise fun x y => x.1 < y.1) ∧ ∀ kv ∈ t, b < kv.1 ∧ kv.2 ≠ d := by
  induction t generalizing b with
  | nil => simp [twfFrom]
  | cons kv t ih =>
    obtain ⟨k, v⟩ := kv
    simp only [twfFrom, Bool.and_eq_true, decide_eq_true_eq, ih, List.pairwise_cons, List.mem_cons, forall_eq_or_imp]
    constructor
    · rintro ⟨⟨h1, h2⟩, h3, h4⟩
      exact ⟨⟨fun x hx => (h4 x hx).1, h3⟩, ⟨h1, h2⟩, fun x hx => ⟨lt_trans h1 (h4 x hx).1, (h4 x hx).2⟩⟩
    · rintro ⟨⟨h1, h2⟩, ⟨h3, h4⟩, h5⟩
      exact ⟨⟨h3, h4⟩, h2, fun x hx => ⟨h1 x hx, (h5 x hx).2⟩⟩

/-- The canonical form: keys strictly rising, no default. -/
theorem twf_iff (d : α) (t : Tab α) :
    twf d t = true ↔ (t.Pairwise fun x y => x.1 < y.1) ∧ ∀ kv ∈ t, kv.2 ≠ d := by
  cases t with
  | nil => simp [twf, twfFrom]
  | cons kv t =>
    obtain ⟨k, v⟩ := kv
    simp only [twf, twfFrom, Bool.and_eq_true, decide_eq_true_eq, twfFrom_iff, List.pairwise_cons, List.mem_cons,
      forall_eq_or_imp, true_and]
    constructor
    · rintro ⟨h2, h3, h4⟩
      exact ⟨⟨fun x hx => (h4 x hx).1, h3⟩, h2, fun x hx => (h4 x hx).2⟩
    · rintro ⟨⟨h1, h2⟩, h4, h5⟩
      exact ⟨h4, h2, fun x hx => ⟨h1 x hx, h5 x hx⟩⟩

omit [DecidableEq α] in
/-- The entries of a put: the new one and the old ones of other keys. -/
theorem mem_tput (t : Tab α) (i : Nat) (x : α) (kv : Nat × α) (h : kv ∈ tput t i x) : kv = (i, x) ∨ kv ∈ t := by
  induction t with
  | nil => simp [tput] at h; exact .inl h
  | cons a t ih =>
    obtain ⟨k, v⟩ := a
    by_cases h1 : i < k
    · simp [tput, h1] at h ⊢; tauto
    · by_cases h2 : i = k
      · simp [tput, h2] at h ⊢; tauto
      · simp [tput, h1, h2] at h ⊢; tauto

omit [DecidableEq α] in
/-- A put keeps keys rising. -/
theorem tput_pairwise (t : Tab α) (i : Nat) (x : α) (w : t.Pairwise fun x y => x.1 < y.1) :
    (tput t i x).Pairwise fun x y => x.1 < y.1 := by
  induction t with
  | nil => simp [tput]
  | cons a t ih =>
    obtain ⟨k, v⟩ := a
    simp only [List.pairwise_cons] at w
    by_cases h1 : i < k
    · have e : tput ((k, v) :: t) i x = (i, x) :: (k, v) :: t := by simp [tput, h1]
      rw [e, List.pairwise_cons, List.pairwise_cons]
      refine ⟨fun y hy => ?_, w⟩
      rcases List.mem_cons.1 hy with rfl | hy
      · exact h1
      · exact lt_trans h1 (w.1 y hy)
    · by_cases h2 : i = k
      · simp only [tput, h2, lt_irrefl, if_true, if_false, List.pairwise_cons]; exact w
      · simp only [tput, h1, h2, if_false, List.pairwise_cons]
        refine ⟨fun y hy => ?_, ih w.2⟩
        rcases mem_tput t i x y hy with rfl | hy
        · show k < i; omega
        · exact w.1 y hy

omit [DecidableEq α] in
/-- A deletion is a sublist. -/
theorem tdel_sublist (t : Tab α) (i : Nat) : (tdel t i).Sublist t := by
  induction t with
  | nil => simp [tdel]
  | cons a t ih =>
    obtain ⟨k, v⟩ := a
    by_cases h : i = k
    · simpa [tdel, h] using (h ▸ ih).cons (k, v)
    · simpa [tdel, h] using ih.cons_cons (k, v)

/-- A set keeps the canonical form. -/
theorem twf_tset (d : α) (t : Tab α) (i : Nat) (x : α) (w : twf d t = true) : twf d (tset d t i x) = true := by
  rw [twf_iff] at w ⊢
  by_cases h : x = d
  · simp only [tset, h, if_true]
    exact ⟨w.1.sublist (tdel_sublist t i), fun kv hm => w.2 kv ((tdel_sublist t i).subset hm)⟩
  · simp only [tset, h, if_false]
    refine ⟨tput_pairwise t i x w.1, fun kv hm => ?_⟩
    rcases mem_tput t i x kv hm with rfl | hm
    · exact h
    · exact w.2 kv hm

/-- A filter keeps the canonical form. -/
theorem twf_filter (d : α) (t : Tab α) (p : Nat × α → Bool) (w : twf d t = true) : twf d (t.filter p) = true := by
  rw [twf_iff] at w ⊢
  exact ⟨w.1.sublist List.filter_sublist, fun kv hm => w.2 kv (List.mem_of_mem_filter hm)⟩

/-- Consecutive entries are in canonical form. -/
theorem twf_tlist (d : α) (lo : Nat) (xs : List α) : twf d (tlist d lo xs) = true := by
  induction xs generalizing lo with
  | nil => rfl
  | cons x xs ih =>
    by_cases h : x = d
    · simpa [tlist, h] using ih (lo + 1)
    · have w := (twf_iff d _).1 (ih (lo + 1))
      rw [twf_iff]
      simp only [tlist, h, if_false, List.pairwise_cons, List.mem_cons, forall_eq_or_imp]
      exact ⟨⟨fun y hy => by have := tlist_keys d (lo + 1) xs y hy; show lo < y.1; omega, w.1⟩, h, w.2⟩

/-- Setting consecutive keys keeps the canonical form. -/
theorem twf_tfill (d : α) (t : Tab α) (lo : Nat) (xs : List α) (w : twf d t = true) : twf d (tfill d t lo xs) = true := by
  have a := (twf_iff d _).1 (twf_filter d t (fun kv => decide (kv.1 < lo)) w)
  have b := (twf_iff d _).1 (twf_tlist d lo xs)
  have c := (twf_iff d _).1 (twf_filter d t (fun kv => decide (lo + xs.length ≤ kv.1)) w)
  rw [twf_iff]
  unfold tfill
  refine ⟨?_, fun kv hm => ?_⟩
  · rw [List.pairwise_append, List.pairwise_append]
    refine ⟨⟨a.1, b.1, fun x hx y hy => ?_⟩, c.1, fun x hx y hy => ?_⟩
    · have h1 := tlist_keys d lo xs y hy
      simp [List.mem_filter] at hx; omega
    · simp [List.mem_filter] at hy
      rcases List.mem_append.1 hx with hx | hx
      · simp [List.mem_filter] at hx; omega
      · have := tlist_keys d lo xs x hx; omega
  · rcases List.mem_append.1 hm with hm | hm
    · rcases List.mem_append.1 hm with hm | hm
      · exact a.2 kv hm
      · exact b.2 kv hm
    · exact c.2 kv hm

/-- What a table in canonical form lists is what it reads. -/
theorem tget_mem (d : α) (t : Tab α) (w : twf d t = true) (k : Nat) (v : α) : (k, v) ∈ t ↔ tget d t k = v ∧ v ≠ d := by
  rw [twf_iff] at w
  induction t with
  | nil => simp [tget]; tauto
  | cons a t ih =>
    obtain ⟨k', v'⟩ := a
    simp only [List.pairwise_cons, List.mem_cons, forall_eq_or_imp] at w
    have ih := ih ⟨w.1.2, w.2.2⟩
    by_cases h : k = k'
    · subst h
      have hn : ∀ x : α, (k, x) ∉ t := fun x hx => by have := w.1.1 (k, x) hx; simp at this
      simp only [tget, if_true, List.mem_cons, Prod.mk.injEq, true_and, hn, or_false]
      exact ⟨fun e => ⟨e.symm, e ▸ w.2.1⟩, fun e => e.1.symm⟩
    · simp [tget, h, ih]

/-- Tables in canonical form that read alike are the same table. -/
theorem tab_ext (d : α) (t u : Tab α) (wt : twf d t = true) (wu : twf d u = true) (h : ∀ k, tget d t k = tget d u k) : t = u := by
  have hp : t.Perm u := by
    rw [List.perm_ext_iff_of_nodup]
    · rintro ⟨k, v⟩
      rw [tget_mem d t wt, tget_mem d u wu, h]
    · exact ((twf_iff d t).1 wt).1.imp fun hlt he => by simp [he] at hlt
    · exact ((twf_iff d u).1 wu).1.imp fun hlt he => by simp [he] at hlt
  exact hp.eq_of_pairwise (fun a b _ _ h1 h2 => absurd h1 (by omega)) ((twf_iff d t).1 wt).1 ((twf_iff d u).1 wu).1

end Sys2Proof.Machine
end

