-- ==== Sys2Proof/Laws/Reads.lean ====
section
/-! SUPPORT. What a read gives after a write: registers, memory, cells, reaches, ports, queues and the other tables; and that every
operation on memory keeps its canonical form. -/

set_option Elab.async false

namespace Sys2Proof.Machine

variable (s : State)

/-! ### Registers -/

/-- A register reads as it was last written. -/
@[simp] theorem State.reg_setReg (off : Nat) (v : Word) : (s.setReg off v).reg off = v := by
  simp [State.reg, State.setReg]

/-- A write of a register leaves the others. -/
theorem State.reg_setReg_ne (off o : Nat) (v : Word) (h : o ≠ off) : (s.setReg off v).reg o = s.reg o := by
  simp only [State.reg, State.setReg]; exact tget_tset_ne _ _ _ _ _ _ h

/-- What a register reads as depends on the table of registers alone. -/
theorem State.reg_congr (t : State) (off : Nat) (h : t.regs = s.regs) : t.reg off = s.reg off := by
  simp [State.reg, h]

/-- A write of a register leaves its value in memory, cells and queues as they were, read by way of any accessor that does not look at
registers; here, memory. -/
@[simp] theorem State.byte_setReg (off : Nat) (v : Word) (da : Nat) : (s.setReg off v).byte da = s.byte da := (rfl)

/-! ### Memory (R162 to R168) -/

/-- A byte after a write: the byte written inside the range, the old one outside. -/
theorem State.byte_writeMem (da : Nat) (bs : List Byte) (a : Nat) :
    (s.writeMem da bs).byte a = if da ≤ a ∧ a < da + bs.length then (bs[a - da]?).getD 0 else s.byte a := by
  simp only [State.byte, State.writeMem, Mem.put, Mem.clearBad]
  exact tget_tfill 0 s.mem.bytes da bs a

/-- A write leaves every byte outside its range. -/
theorem State.byte_writeMem_out (da : Nat) (bs : List Byte) (a : Nat) (h : a < da ∨ da + bs.length ≤ a) :
    (s.writeMem da bs).byte a = s.byte a := by
  rw [State.byte_writeMem, if_neg (by omega)]

/-- Bytes read back where they were written. -/
theorem State.readMem_writeMem (da : Nat) (bs : List Byte) : (s.writeMem da bs).readMem da bs.length = bs := by
  apply List.ext_getElem?
  intro i
  by_cases h : i < bs.length
  · simp [State.readMem, h, State.byte_writeMem]
  · simp [State.readMem, h]

/-- A range that a write does not touch reads as before. -/
theorem State.readMem_writeMem_out (da n : Nat) (bs : List Byte) (a : Nat) (h : a + n ≤ da ∨ da + bs.length ≤ a) :
    (s.writeMem da bs).readMem a n = s.readMem a n := by
  simp only [State.readMem]
  apply List.map_congr_left
  intro i hi
  have hi : i < n := List.mem_range.1 hi
  exact State.byte_writeMem_out s da bs (a + i) (by omega)

/-- Clearing the errors of covered units keeps the canonical form. -/
theorem Mem.wf_clearBad (m : Mem) (da len : Nat) (w : Memory.wf m = true) : Memory.wf (m.clearBad da len) = true := by
  simp only [Memory.wf, Bool.and_eq_true, Mem.clearBad] at w ⊢
  exact ⟨w.1, twf_filter _ _ _ w.2⟩

/-- Storing bytes keeps the canonical form. -/
theorem Mem.wf_put (m : Mem) (da : Nat) (bs : List Byte) (w : Memory.wf m = true) : Memory.wf (m.put da bs) = true := by
  apply Mem.wf_clearBad
  simp only [Memory.wf, Bool.and_eq_true] at w ⊢
  exact ⟨twf_tfill _ _ _ _ w.1, w.2⟩

/-- A write of memory keeps its canonical form. -/
theorem State.wf_writeMem (da : Nat) (bs : List Byte) (w : Memory.wf s.mem = true) : Memory.wf (s.writeMem da bs).mem = true :=
  Mem.wf_put s.mem da bs w

/-- Marking or clearing a unit's uncorrectable error keeps the canonical form. -/
theorem Mem.wf_setBad (m : Mem) (u : Nat) (b : Bool) (w : Memory.wf m = true) :
    Memory.wf { m with bad := tset false m.bad u b } = true := by
  simp only [Memory.wf, Bool.and_eq_true] at w ⊢
  exact ⟨w.1, twf_tset _ _ _ _ w.2⟩

/-- Dropping bytes or units keeps the canonical form (what a reset or a power cut leaves). -/
theorem Mem.wf_filter (m : Mem) (p : Nat × Byte → Bool) (q : Nat × Bool → Bool) (w : Memory.wf m = true) :
    Memory.wf { bytes := m.bytes.filter p, bad := m.bad.filter q } = true := by
  simp only [Memory.wf, Bool.and_eq_true] at w ⊢
  exact ⟨twf_filter _ _ _ w.1, twf_filter _ _ _ w.2⟩

/-- Memories in canonical form that read alike are equal. -/
theorem Mem.ext_wf (m n : Mem) (wm : Memory.wf m = true) (wn : Memory.wf n = true)
    (hb : ∀ a, tget 0 m.bytes a = tget 0 n.bytes a) (hd : ∀ a, tget false m.bad a = tget false n.bad a) : m = n := by
  simp only [Memory.wf, Bool.and_eq_true] at wm wn
  have h1 := tab_ext 0 m.bytes n.bytes wm.1 wn.1 hb
  have h2 := tab_ext false m.bad n.bad wm.2 wn.2 hd
  cases m; cases n; simp_all

/-! ### Cells (R90) -/

/-- A cell reads as it was put back. -/
@[simp] theorem State.cell_setCell (i : Nat) (c : Cell) : (s.setCell i c).cell i = c := by
  simp [State.cell, State.setCell]

/-- Putting back a cell leaves the others. -/
theorem State.cell_setCell_ne (i j : Nat) (c : Cell) (h : j ≠ i) : (s.setCell i c).cell j = s.cell j := by
  simp only [State.cell, State.setCell]; exact tget_tset_ne _ _ _ _ _ _ h

/-- s0 reads as zero. -/
@[simp] theorem Cell.sr_zero (c : Cell) : c.sr 0 = 0 := rfl

/-- A write of s0 is ignored. -/
@[simp] theorem Cell.setS_zero (c : Cell) (v : Word64) : c.setS 0 v = c := rfl

/-- A scalar register reads as written; s0 stays zero. -/
theorem Cell.sr_setS (c : Cell) (r q : Nat) (v : Word64) : (c.setS r v).sr q = if q = r ∧ q ≠ 0 then v else c.sr q := by
  by_cases hr : r = 0
  · subst hr; by_cases hq : q = 0 <;> simp [hq]
  · by_cases hq : q = 0
    · simp [Cell.sr, hq]
    · by_cases h : q = r
      · subst h; simp [Cell.sr, Cell.setS, hr]
      · simp [Cell.sr, Cell.setS, hr, hq, h, tget_tset_ne]

/-- A write of a scalar register leaves the rest of the cell. -/
theorem Cell.setS_rest (c : Cell) (r : Nat) (v : Word64) : { c.setS r v with s := c.s } = c := by
  unfold Cell.setS; split <;> rfl

/-- A predicate register reads as written. -/
@[simp] theorem Cell.pr_setP (c : Cell) (r : Nat) (v : Word64) : (c.setP r v).pr r = v := by simp [Cell.pr, Cell.setP]

/-- A descriptor register reads as written. -/
@[simp] theorem Cell.dd_setD (c : Cell) (d : Nat) (v : BitVec 256) : (c.setD d v).dd d = v := by simp [Cell.dd, Cell.setD]

/-- A vector register reads as the 64 lanes written. -/
theorem Cell.vec_setVec (c : Cell) (r : Nat) (xs : List Word) (p : Bool) (h : xs.length = 64) : (c.setVec r xs p).vec r = xs := by
  apply List.ext_getElem?
  intro i
  by_cases hi : i < 64
  · have e : (List.take 64 xs) = xs := List.take_of_length_le (by omega)
    simp [Cell.vec, Cell.setVec, hi, tget_tfill, h, e]
  · have : xs[i]? = none := List.getElem?_eq_none (by omega)
    simp [Cell.vec, hi, this]

/-- Writing a vector register leaves the others. -/
theorem Cell.vec_setVec_ne (c : Cell) (r q : Nat) (xs : List Word) (p : Bool) (h : q ≠ r) : (c.setVec r xs p).vec q = c.vec q := by
  simp only [Cell.vec, Cell.setVec]
  apply List.map_congr_left
  intro i hi
  have hi : i < 64 := List.mem_range.1 hi
  rw [tget_tfill, if_neg]
  rintro ⟨h1, h2⟩
  have hl : (List.take 64 xs).length ≤ 64 := by simp
  omega

/-! ### The other tables -/

@[simp] theorem State.reach_setReach (r : Nat) (x : Reach) : (s.setReach r x).reach r = x := by
  simp [State.reach, State.setReach]
theorem State.reach_setReach_ne (r q : Nat) (x : Reach) (h : q ≠ r) : (s.setReach r x).reach q = s.reach q := by
  simp only [State.reach, State.setReach]; exact tget_tset_ne _ _ _ _ _ _ h
@[simp] theorem State.plcE_setPlc (i : Nat) (e : Plc) : (s.setPlc i e).plcE i = e := by simp [State.plcE, State.setPlc]
theorem State.plcE_setPlc_ne (i j : Nat) (e : Plc) (h : j ≠ i) : (s.setPlc i e).plcE j = s.plcE j := by
  simp only [State.plcE, State.setPlc]; exact tget_tset_ne _ _ _ _ _ _ h
@[simp] theorem State.port_setPort (p : Nat) (x : Port) : (s.setPort p x).port p = x := by simp [State.port, State.setPort]
theorem State.port_setPort_ne (p q : Nat) (x : Port) (h : q ≠ p) : (s.setPort p x).port q = s.port q := by
  simp only [State.port, State.setPort]; exact tget_tset_ne _ _ _ _ _ _ h
@[simp] theorem State.route_setRoute (k : Nat) (r : Route) : (s.setRoute k r).route k = r := by simp [State.route, State.setRoute]
theorem State.route_setRoute_ne (k j : Nat) (r : Route) (h : j ≠ k) : (s.setRoute k r).route j = s.route j := by
  simp only [State.route, State.setRoute]; exact tget_tset_ne _ _ _ _ _ _ h
@[simp] theorem State.span_setSpan (d : Nat) (x : Span) : (s.setSpan d x).span d = x := by simp [State.span, State.setSpan]
theorem State.span_setSpan_ne (d e : Nat) (x : Span) (h : e ≠ d) : (s.setSpan d x).span e = s.span e := by
  simp only [State.span, State.setSpan]; exact tget_tset_ne _ _ _ _ _ _ h
@[simp] theorem State.sq_setSq (q : Nat) (x : Sq) : (s.setSq q x).sq q = x := by simp [State.sq, State.setSq]
theorem State.sq_setSq_ne (q j : Nat) (x : Sq) (h : j ≠ q) : (s.setSq q x).sq j = s.sq j := by
  simp only [State.sq, State.setSq]; exact tget_tset_ne _ _ _ _ _ _ h
@[simp] theorem State.cq_setCq (c : Nat) (x : Cq) : (s.setCq c x).cq c = x := by simp [State.cq, State.setCq]
theorem State.cq_setCq_ne (c j : Nat) (x : Cq) (h : j ≠ c) : (s.setCq c x).cq j = s.cq j := by
  simp only [State.cq, State.setCq]; exact tget_tset_ne _ _ _ _ _ _ h
@[simp] theorem State.cq_setSq (q c : Nat) (x : Sq) : (s.setSq q x).cq c = s.cq c := (rfl)
@[simp] theorem State.sq_setCq (q c : Nat) (x : Cq) : (s.setCq c x).sq q = s.sq q := (rfl)

end Sys2Proof.Machine
end

