-- ==== Sys2Proof/Laws/Frame.lean ====
section
/-! SUPPORT. What the shared operations leave as it was: the error records, the change log, exceptions and the issue of a cell, signals
and pools, memory under a port conflict. -/

set_option Elab.async false

namespace Sys2Proof.Machine

variable (s : State)

/-- What every step of a fold keeps, the fold keeps. -/
theorem foldl_keeps {α β γ : Type} (p : α → γ) (f : α → β → α) (h : ∀ a b, p (f a b) = p a) (l : List β) (a : α) :
    p (l.foldl f a) = p a := by
  induction l generalizing a with
  | nil => rfl
  | cons b l ih => rw [List.foldl_cons, ih, h]

/-- TALLY, with the definition's own names written out. -/
theorem State.tally_eq : s.tally = if (s.log.unlogged ≠ 0 && s.logRoom 1) = true then
    ({ s with log := { s.log with unlogged := 0 } } : State).logPut (originCode .autonomous) 4 0 (toBytesLE 4 s.log.unlogged.toNat)
    else s := rfl

/-- The logging of an origin that never waits, with the definition's own names written out. -/
theorem State.logAuto_eq (o : Origin) (k obj : Nat) (v : List Byte) : s.logAuto o k obj v =
    if s.tally.logRoom 1 = true then s.tally.logPut (originCode o) k obj v
    else { s.tally with log := { s.tally.log with unlogged := satAdd s.tally.log.unlogged 1 } } := rfl

/-! aer writes outbox alone. -/
@[simp] theorem State.aer_pending (sev : Nat) : (s.aer sev).pending = s.pending := by unfold State.aer; split <;> (try split) <;> simp
@[simp] theorem State.aer_freeIdx (sev : Nat) : (s.aer sev).freeIdx = s.freeIdx := by unfold State.aer; split <;> (try split) <;> simp
@[simp] theorem State.aer_opNext (sev : Nat) : (s.aer sev).opNext = s.opNext := by unfold State.aer; split <;> (try split) <;> simp
@[simp] theorem State.aer_fuses (sev : Nat) : (s.aer sev).fuses = s.fuses := by unfold State.aer; split <;> (try split) <;> simp
@[simp] theorem State.aer_ticks (sev : Nat) : (s.aer sev).ticks = s.ticks := by unfold State.aer; split <;> (try split) <;> simp
@[simp] theorem State.aer_regs (sev : Nat) : (s.aer sev).regs = s.regs := by unfold State.aer; split <;> (try split) <;> simp
@[simp] theorem State.aer_mem (sev : Nat) : (s.aer sev).mem = s.mem := by unfold State.aer; split <;> (try split) <;> simp
@[simp] theorem State.aer_trg (sev : Nat) : (s.aer sev).trg = s.trg := by unfold State.aer; split <;> (try split) <;> simp
@[simp] theorem State.aer_trgCommit (sev : Nat) : (s.aer sev).trgCommit = s.trgCommit := by unfold State.aer; split <;> (try split) <;> simp
@[simp] theorem State.aer_reaches (sev : Nat) : (s.aer sev).reaches = s.reaches := by unfold State.aer; split <;> (try split) <;> simp
@[simp] theorem State.aer_plc (sev : Nat) : (s.aer sev).plc = s.plc := by unfold State.aer; split <;> (try split) <;> simp
@[simp] theorem State.aer_cells (sev : Nat) : (s.aer sev).cells = s.cells := by unfold State.aer; split <;> (try split) <;> simp
@[simp] theorem State.aer_seedBase (sev : Nat) : (s.aer sev).seedBase = s.seedBase := by unfold State.aer; split <;> (try split) <;> simp
@[simp] theorem State.aer_moves (sev : Nat) : (s.aer sev).moves = s.moves := by unfold State.aer; split <;> (try split) <;> simp
@[simp] theorem State.aer_clash (sev : Nat) : (s.aer sev).clash = s.clash := by unfold State.aer; split <;> (try split) <;> simp
@[simp] theorem State.aer_weirs (sev : Nat) : (s.aer sev).weirs = s.weirs := by unfold State.aer; split <;> (try split) <;> simp
@[simp] theorem State.aer_slots (sev : Nat) : (s.aer sev).slots = s.slots := by unfold State.aer; split <;> (try split) <;> simp
@[simp] theorem State.aer_slotAct (sev : Nat) : (s.aer sev).slotAct = s.slotAct := by unfold State.aer; split <;> (try split) <;> simp
@[simp] theorem State.aer_cus (sev : Nat) : (s.aer sev).cus = s.cus := by unfold State.aer; split <;> (try split) <;> simp
@[simp] theorem State.aer_optics (sev : Nat) : (s.aer sev).optics = s.optics := by unfold State.aer; split <;> (try split) <;> simp
@[simp] theorem State.aer_bed (sev : Nat) : (s.aer sev).bed = s.bed := by unfold State.aer; split <;> (try split) <;> simp
@[simp] theorem State.aer_ports (sev : Nat) : (s.aer sev).ports = s.ports := by unfold State.aer; split <;> (try split) <;> simp
@[simp] theorem State.aer_svcs (sev : Nat) : (s.aer sev).svcs = s.svcs := by unfold State.aer; split <;> (try split) <;> simp
@[simp] theorem State.aer_fab (sev : Nat) : (s.aer sev).fab = s.fab := by unfold State.aer; split <;> (try split) <;> simp
@[simp] theorem State.aer_hq (sev : Nat) : (s.aer sev).hq = s.hq := by unfold State.aer; split <;> (try split) <;> simp
@[simp] theorem State.aer_nrg (sev : Nat) : (s.aer sev).nrg = s.nrg := by unfold State.aer; split <;> (try split) <;> simp
@[simp] theorem State.aer_sec (sev : Nat) : (s.aer sev).sec = s.sec := by unfold State.aer; split <;> (try split) <;> simp
@[simp] theorem State.aer_log (sev : Nat) : (s.aer sev).log = s.log := by unfold State.aer; split <;> (try split) <;> simp
@[simp] theorem State.aer_store (sev : Nat) : (s.aer sev).store = s.store := by unfold State.aer; split <;> (try split) <;> simp
@[simp] theorem State.aer_errSeq (sev : Nat) : (s.aer sev).errSeq = s.errSeq := by unfold State.aer; split <;> (try split) <;> simp
@[simp] theorem State.aer_err (sev : Nat) : (s.aer sev).err = s.err := by unfold State.aer; split <;> (try split) <;> simp
@[simp] theorem State.aer_test (sev : Nat) : (s.aer sev).test = s.test := by unfold State.aer; split <;> (try split) <;> simp
@[simp] theorem State.aer_pwr (sev : Nat) : (s.aer sev).pwr = s.pwr := by unfold State.aer; split <;> (try split) <;> simp

/-! fatal writes optics, outbox, pwr, store alone. -/
@[simp] theorem State.fatal_pending (r : ErrRec) : (s.fatal r).pending = s.pending := by simp [State.fatal]
@[simp] theorem State.fatal_freeIdx (r : ErrRec) : (s.fatal r).freeIdx = s.freeIdx := by simp [State.fatal]
@[simp] theorem State.fatal_opNext (r : ErrRec) : (s.fatal r).opNext = s.opNext := by simp [State.fatal]
@[simp] theorem State.fatal_fuses (r : ErrRec) : (s.fatal r).fuses = s.fuses := by simp [State.fatal]
@[simp] theorem State.fatal_ticks (r : ErrRec) : (s.fatal r).ticks = s.ticks := by simp [State.fatal]
@[simp] theorem State.fatal_regs (r : ErrRec) : (s.fatal r).regs = s.regs := by simp [State.fatal]
@[simp] theorem State.fatal_mem (r : ErrRec) : (s.fatal r).mem = s.mem := by simp [State.fatal]
@[simp] theorem State.fatal_trg (r : ErrRec) : (s.fatal r).trg = s.trg := by simp [State.fatal]
@[simp] theorem State.fatal_trgCommit (r : ErrRec) : (s.fatal r).trgCommit = s.trgCommit := by simp [State.fatal]
@[simp] theorem State.fatal_reaches (r : ErrRec) : (s.fatal r).reaches = s.reaches := by simp [State.fatal]
@[simp] theorem State.fatal_plc (r : ErrRec) : (s.fatal r).plc = s.plc := by simp [State.fatal]
@[simp] theorem State.fatal_cells (r : ErrRec) : (s.fatal r).cells = s.cells := by simp [State.fatal]
@[simp] theorem State.fatal_seedBase (r : ErrRec) : (s.fatal r).seedBase = s.seedBase := by simp [State.fatal]
@[simp] theorem State.fatal_moves (r : ErrRec) : (s.fatal r).moves = s.moves := by simp [State.fatal]
@[simp] theorem State.fatal_clash (r : ErrRec) : (s.fatal r).clash = s.clash := by simp [State.fatal]
@[simp] theorem State.fatal_weirs (r : ErrRec) : (s.fatal r).weirs = s.weirs := by simp [State.fatal]
@[simp] theorem State.fatal_slots (r : ErrRec) : (s.fatal r).slots = s.slots := by simp [State.fatal]
@[simp] theorem State.fatal_slotAct (r : ErrRec) : (s.fatal r).slotAct = s.slotAct := by simp [State.fatal]
@[simp] theorem State.fatal_cus (r : ErrRec) : (s.fatal r).cus = s.cus := by simp [State.fatal]
@[simp] theorem State.fatal_bed (r : ErrRec) : (s.fatal r).bed = s.bed := by simp [State.fatal]
@[simp] theorem State.fatal_ports (r : ErrRec) : (s.fatal r).ports = s.ports := by simp [State.fatal]
@[simp] theorem State.fatal_svcs (r : ErrRec) : (s.fatal r).svcs = s.svcs := by simp [State.fatal]
@[simp] theorem State.fatal_fab (r : ErrRec) : (s.fatal r).fab = s.fab := by simp [State.fatal]
@[simp] theorem State.fatal_hq (r : ErrRec) : (s.fatal r).hq = s.hq := by simp [State.fatal]
@[simp] theorem State.fatal_nrg (r : ErrRec) : (s.fatal r).nrg = s.nrg := by simp [State.fatal]
@[simp] theorem State.fatal_sec (r : ErrRec) : (s.fatal r).sec = s.sec := by simp [State.fatal]
@[simp] theorem State.fatal_log (r : ErrRec) : (s.fatal r).log = s.log := by simp [State.fatal]
@[simp] theorem State.fatal_errSeq (r : ErrRec) : (s.fatal r).errSeq = s.errSeq := by simp [State.fatal]
@[simp] theorem State.fatal_err (r : ErrRec) : (s.fatal r).err = s.err := by simp [State.fatal]
@[simp] theorem State.fatal_test (r : ErrRec) : (s.fatal r).test = s.test := by simp [State.fatal]

/-! fifoIrq writes err, outbox alone. -/
@[simp] theorem State.fifoIrq_pending (sev : Nat) : (s.fifoIrq sev).pending = s.pending := by unfold State.fifoIrq; dsimp only; split <;> (try split) <;> simp
@[simp] theorem State.fifoIrq_freeIdx (sev : Nat) : (s.fifoIrq sev).freeIdx = s.freeIdx := by unfold State.fifoIrq; dsimp only; split <;> (try split) <;> simp
@[simp] theorem State.fifoIrq_opNext (sev : Nat) : (s.fifoIrq sev).opNext = s.opNext := by unfold State.fifoIrq; dsimp only; split <;> (try split) <;> simp
@[simp] theorem State.fifoIrq_fuses (sev : Nat) : (s.fifoIrq sev).fuses = s.fuses := by unfold State.fifoIrq; dsimp only; split <;> (try split) <;> simp
@[simp] theorem State.fifoIrq_ticks (sev : Nat) : (s.fifoIrq sev).ticks = s.ticks := by unfold State.fifoIrq; dsimp only; split <;> (try split) <;> simp
@[simp] theorem State.fifoIrq_regs (sev : Nat) : (s.fifoIrq sev).regs = s.regs := by unfold State.fifoIrq; dsimp only; split <;> (try split) <;> simp
@[simp] theorem State.fifoIrq_mem (sev : Nat) : (s.fifoIrq sev).mem = s.mem := by unfold State.fifoIrq; dsimp only; split <;> (try split) <;> simp
@[simp] theorem State.fifoIrq_trg (sev : Nat) : (s.fifoIrq sev).trg = s.trg := by unfold State.fifoIrq; dsimp only; split <;> (try split) <;> simp
@[simp] theorem State.fifoIrq_trgCommit (sev : Nat) : (s.fifoIrq sev).trgCommit = s.trgCommit := by unfold State.fifoIrq; dsimp only; split <;> (try split) <;> simp
@[simp] theorem State.fifoIrq_reaches (sev : Nat) : (s.fifoIrq sev).reaches = s.reaches := by unfold State.fifoIrq; dsimp only; split <;> (try split) <;> simp
@[simp] theorem State.fifoIrq_plc (sev : Nat) : (s.fifoIrq sev).plc = s.plc := by unfold State.fifoIrq; dsimp only; split <;> (try split) <;> simp
@[simp] theorem State.fifoIrq_cells (sev : Nat) : (s.fifoIrq sev).cells = s.cells := by unfold State.fifoIrq; dsimp only; split <;> (try split) <;> simp
@[simp] theorem State.fifoIrq_seedBase (sev : Nat) : (s.fifoIrq sev).seedBase = s.seedBase := by unfold State.fifoIrq; dsimp only; split <;> (try split) <;> simp
@[simp] theorem State.fifoIrq_moves (sev : Nat) : (s.fifoIrq sev).moves = s.moves := by unfold State.fifoIrq; dsimp only; split <;> (try split) <;> simp
@[simp] theorem State.fifoIrq_clash (sev : Nat) : (s.fifoIrq sev).clash = s.clash := by unfold State.fifoIrq; dsimp only; split <;> (try split) <;> simp
@[simp] theorem State.fifoIrq_weirs (sev : Nat) : (s.fifoIrq sev).weirs = s.weirs := by unfold State.fifoIrq; dsimp only; split <;> (try split) <;> simp
@[simp] theorem State.fifoIrq_slots (sev : Nat) : (s.fifoIrq sev).slots = s.slots := by unfold State.fifoIrq; dsimp only; split <;> (try split) <;> simp
@[simp] theorem State.fifoIrq_slotAct (sev : Nat) : (s.fifoIrq sev).slotAct = s.slotAct := by unfold State.fifoIrq; dsimp only; split <;> (try split) <;> simp
@[simp] theorem State.fifoIrq_cus (sev : Nat) : (s.fifoIrq sev).cus = s.cus := by unfold State.fifoIrq; dsimp only; split <;> (try split) <;> simp
@[simp] theorem State.fifoIrq_optics (sev : Nat) : (s.fifoIrq sev).optics = s.optics := by unfold State.fifoIrq; dsimp only; split <;> (try split) <;> simp
@[simp] theorem State.fifoIrq_bed (sev : Nat) : (s.fifoIrq sev).bed = s.bed := by unfold State.fifoIrq; dsimp only; split <;> (try split) <;> simp
@[simp] theorem State.fifoIrq_ports (sev : Nat) : (s.fifoIrq sev).ports = s.ports := by unfold State.fifoIrq; dsimp only; split <;> (try split) <;> simp
@[simp] theorem State.fifoIrq_svcs (sev : Nat) : (s.fifoIrq sev).svcs = s.svcs := by unfold State.fifoIrq; dsimp only; split <;> (try split) <;> simp
@[simp] theorem State.fifoIrq_fab (sev : Nat) : (s.fifoIrq sev).fab = s.fab := by unfold State.fifoIrq; dsimp only; split <;> (try split) <;> simp
@[simp] theorem State.fifoIrq_hq (sev : Nat) : (s.fifoIrq sev).hq = s.hq := by unfold State.fifoIrq; dsimp only; split <;> (try split) <;> simp
@[simp] theorem State.fifoIrq_nrg (sev : Nat) : (s.fifoIrq sev).nrg = s.nrg := by unfold State.fifoIrq; dsimp only; split <;> (try split) <;> simp
@[simp] theorem State.fifoIrq_sec (sev : Nat) : (s.fifoIrq sev).sec = s.sec := by unfold State.fifoIrq; dsimp only; split <;> (try split) <;> simp
@[simp] theorem State.fifoIrq_log (sev : Nat) : (s.fifoIrq sev).log = s.log := by unfold State.fifoIrq; dsimp only; split <;> (try split) <;> simp
@[simp] theorem State.fifoIrq_store (sev : Nat) : (s.fifoIrq sev).store = s.store := by unfold State.fifoIrq; dsimp only; split <;> (try split) <;> simp
@[simp] theorem State.fifoIrq_errSeq (sev : Nat) : (s.fifoIrq sev).errSeq = s.errSeq := by unfold State.fifoIrq; dsimp only; split <;> (try split) <;> simp
@[simp] theorem State.fifoIrq_test (sev : Nat) : (s.fifoIrq sev).test = s.test := by unfold State.fifoIrq; dsimp only; split <;> (try split) <;> simp
@[simp] theorem State.fifoIrq_pwr (sev : Nat) : (s.fifoIrq sev).pwr = s.pwr := by unfold State.fifoIrq; dsimp only; split <;> (try split) <;> simp

/-! place writes err, errSeq, optics, outbox, pwr, store alone. -/
@[simp] theorem State.place_pending (f : ErrFifo) (r : ErrRec) : (State.raiseErr.place s f r).pending = s.pending := by unfold State.raiseErr.place; dsimp only; split <;> split <;> (try split) <;> simp
@[simp] theorem State.place_freeIdx (f : ErrFifo) (r : ErrRec) : (State.raiseErr.place s f r).freeIdx = s.freeIdx := by unfold State.raiseErr.place; dsimp only; split <;> split <;> (try split) <;> simp
@[simp] theorem State.place_opNext (f : ErrFifo) (r : ErrRec) : (State.raiseErr.place s f r).opNext = s.opNext := by unfold State.raiseErr.place; dsimp only; split <;> split <;> (try split) <;> simp
@[simp] theorem State.place_fuses (f : ErrFifo) (r : ErrRec) : (State.raiseErr.place s f r).fuses = s.fuses := by unfold State.raiseErr.place; dsimp only; split <;> split <;> (try split) <;> simp
@[simp] theorem State.place_ticks (f : ErrFifo) (r : ErrRec) : (State.raiseErr.place s f r).ticks = s.ticks := by unfold State.raiseErr.place; dsimp only; split <;> split <;> (try split) <;> simp
@[simp] theorem State.place_regs (f : ErrFifo) (r : ErrRec) : (State.raiseErr.place s f r).regs = s.regs := by unfold State.raiseErr.place; dsimp only; split <;> split <;> (try split) <;> simp
@[simp] theorem State.place_mem (f : ErrFifo) (r : ErrRec) : (State.raiseErr.place s f r).mem = s.mem := by unfold State.raiseErr.place; dsimp only; split <;> split <;> (try split) <;> simp
@[simp] theorem State.place_trg (f : ErrFifo) (r : ErrRec) : (State.raiseErr.place s f r).trg = s.trg := by unfold State.raiseErr.place; dsimp only; split <;> split <;> (try split) <;> simp
@[simp] theorem State.place_trgCommit (f : ErrFifo) (r : ErrRec) : (State.raiseErr.place s f r).trgCommit = s.trgCommit := by unfold State.raiseErr.place; dsimp only; split <;> split <;> (try split) <;> simp
@[simp] theorem State.place_reaches (f : ErrFifo) (r : ErrRec) : (State.raiseErr.place s f r).reaches = s.reaches := by unfold State.raiseErr.place; dsimp only; split <;> split <;> (try split) <;> simp
@[simp] theorem State.place_plc (f : ErrFifo) (r : ErrRec) : (State.raiseErr.place s f r).plc = s.plc := by unfold State.raiseErr.place; dsimp only; split <;> split <;> (try split) <;> simp
@[simp] theorem State.place_cells (f : ErrFifo) (r : ErrRec) : (State.raiseErr.place s f r).cells = s.cells := by unfold State.raiseErr.place; dsimp only; split <;> split <;> (try split) <;> simp
@[simp] theorem State.place_seedBase (f : ErrFifo) (r : ErrRec) : (State.raiseErr.place s f r).seedBase = s.seedBase := by unfold State.raiseErr.place; dsimp only; split <;> split <;> (try split) <;> simp
@[simp] theorem State.place_moves (f : ErrFifo) (r : ErrRec) : (State.raiseErr.place s f r).moves = s.moves := by unfold State.raiseErr.place; dsimp only; split <;> split <;> (try split) <;> simp
@[simp] theorem State.place_clash (f : ErrFifo) (r : ErrRec) : (State.raiseErr.place s f r).clash = s.clash := by unfold State.raiseErr.place; dsimp only; split <;> split <;> (try split) <;> simp
@[simp] theorem State.place_weirs (f : ErrFifo) (r : ErrRec) : (State.raiseErr.place s f r).weirs = s.weirs := by unfold State.raiseErr.place; dsimp only; split <;> split <;> (try split) <;> simp
@[simp] theorem State.place_slots (f : ErrFifo) (r : ErrRec) : (State.raiseErr.place s f r).slots = s.slots := by unfold State.raiseErr.place; dsimp only; split <;> split <;> (try split) <;> simp
@[simp] theorem State.place_slotAct (f : ErrFifo) (r : ErrRec) : (State.raiseErr.place s f r).slotAct = s.slotAct := by unfold State.raiseErr.place; dsimp only; split <;> split <;> (try split) <;> simp
@[simp] theorem State.place_cus (f : ErrFifo) (r : ErrRec) : (State.raiseErr.place s f r).cus = s.cus := by unfold State.raiseErr.place; dsimp only; split <;> split <;> (try split) <;> simp
@[simp] theorem State.place_bed (f : ErrFifo) (r : ErrRec) : (State.raiseErr.place s f r).bed = s.bed := by unfold State.raiseErr.place; dsimp only; split <;> split <;> (try split) <;> simp
@[simp] theorem State.place_ports (f : ErrFifo) (r : ErrRec) : (State.raiseErr.place s f r).ports = s.ports := by unfold State.raiseErr.place; dsimp only; split <;> split <;> (try split) <;> simp
@[simp] theorem State.place_svcs (f : ErrFifo) (r : ErrRec) : (State.raiseErr.place s f r).svcs = s.svcs := by unfold State.raiseErr.place; dsimp only; split <;> split <;> (try split) <;> simp
@[simp] theorem State.place_fab (f : ErrFifo) (r : ErrRec) : (State.raiseErr.place s f r).fab = s.fab := by unfold State.raiseErr.place; dsimp only; split <;> split <;> (try split) <;> simp
@[simp] theorem State.place_hq (f : ErrFifo) (r : ErrRec) : (State.raiseErr.place s f r).hq = s.hq := by unfold State.raiseErr.place; dsimp only; split <;> split <;> (try split) <;> simp
@[simp] theorem State.place_nrg (f : ErrFifo) (r : ErrRec) : (State.raiseErr.place s f r).nrg = s.nrg := by unfold State.raiseErr.place; dsimp only; split <;> split <;> (try split) <;> simp
@[simp] theorem State.place_sec (f : ErrFifo) (r : ErrRec) : (State.raiseErr.place s f r).sec = s.sec := by unfold State.raiseErr.place; dsimp only; split <;> split <;> (try split) <;> simp
@[simp] theorem State.place_log (f : ErrFifo) (r : ErrRec) : (State.raiseErr.place s f r).log = s.log := by unfold State.raiseErr.place; dsimp only; split <;> split <;> (try split) <;> simp
@[simp] theorem State.place_test (f : ErrFifo) (r : ErrRec) : (State.raiseErr.place s f r).test = s.test := by unfold State.raiseErr.place; dsimp only; split <;> split <;> (try split) <;> simp

/-! raiseErr writes err, errSeq, optics, outbox, pwr, store alone. -/
@[simp] theorem State.raiseErr_pending (sev code source unit : Nat) (addr : Option Nat) (detail : Nat) : (s.raiseErr sev code source unit addr detail).pending = s.pending := by unfold State.raiseErr; dsimp only; split <;> (try split) <;> simp
@[simp] theorem State.raiseErr_freeIdx (sev code source unit : Nat) (addr : Option Nat) (detail : Nat) : (s.raiseErr sev code source unit addr detail).freeIdx = s.freeIdx := by unfold State.raiseErr; dsimp only; split <;> (try split) <;> simp
@[simp] theorem State.raiseErr_opNext (sev code source unit : Nat) (addr : Option Nat) (detail : Nat) : (s.raiseErr sev code source unit addr detail).opNext = s.opNext := by unfold State.raiseErr; dsimp only; split <;> (try split) <;> simp
@[simp] theorem State.raiseErr_fuses (sev code source unit : Nat) (addr : Option Nat) (detail : Nat) : (s.raiseErr sev code source unit addr detail).fuses = s.fuses := by unfold State.raiseErr; dsimp only; split <;> (try split) <;> simp
@[simp] theorem State.raiseErr_ticks (sev code source unit : Nat) (addr : Option Nat) (detail : Nat) : (s.raiseErr sev code source unit addr detail).ticks = s.ticks := by unfold State.raiseErr; dsimp only; split <;> (try split) <;> simp
@[simp] theorem State.raiseErr_regs (sev code source unit : Nat) (addr : Option Nat) (detail : Nat) : (s.raiseErr sev code source unit addr detail).regs = s.regs := by unfold State.raiseErr; dsimp only; split <;> (try split) <;> simp
@[simp] theorem State.raiseErr_mem (sev code source unit : Nat) (addr : Option Nat) (detail : Nat) : (s.raiseErr sev code source unit addr detail).mem = s.mem := by unfold State.raiseErr; dsimp only; split <;> (try split) <;> simp
@[simp] theorem State.raiseErr_trg (sev code source unit : Nat) (addr : Option Nat) (detail : Nat) : (s.raiseErr sev code source unit addr detail).trg = s.trg := by unfold State.raiseErr; dsimp only; split <;> (try split) <;> simp
@[simp] theorem State.raiseErr_trgCommit (sev code source unit : Nat) (addr : Option Nat) (detail : Nat) : (s.raiseErr sev code source unit addr detail).trgCommit = s.trgCommit := by unfold State.raiseErr; dsimp only; split <;> (try split) <;> simp
@[simp] theorem State.raiseErr_reaches (sev code source unit : Nat) (addr : Option Nat) (detail : Nat) : (s.raiseErr sev code source unit addr detail).reaches = s.reaches := by unfold State.raiseErr; dsimp only; split <;> (try split) <;> simp
@[simp] theorem State.raiseErr_plc (sev code source unit : Nat) (addr : Option Nat) (detail : Nat) : (s.raiseErr sev code source unit addr detail).plc = s.plc := by unfold State.raiseErr; dsimp only; split <;> (try split) <;> simp
@[simp] theorem State.raiseErr_cells (sev code source unit : Nat) (addr : Option Nat) (detail : Nat) : (s.raiseErr sev code source unit addr detail).cells = s.cells := by unfold State.raiseErr; dsimp only; split <;> (try split) <;> simp
@[simp] theorem State.raiseErr_seedBase (sev code source unit : Nat) (addr : Option Nat) (detail : Nat) : (s.raiseErr sev code source unit addr detail).seedBase = s.seedBase := by unfold State.raiseErr; dsimp only; split <;> (try split) <;> simp
@[simp] theorem State.raiseErr_moves (sev code source unit : Nat) (addr : Option Nat) (detail : Nat) : (s.raiseErr sev code source unit addr detail).moves = s.moves := by unfold State.raiseErr; dsimp only; split <;> (try split) <;> simp
@[simp] theorem State.raiseErr_clash (sev code source unit : Nat) (addr : Option Nat) (detail : Nat) : (s.raiseErr sev code source unit addr detail).clash = s.clash := by unfold State.raiseErr; dsimp only; split <;> (try split) <;> simp
@[simp] theorem State.raiseErr_weirs (sev code source unit : Nat) (addr : Option Nat) (detail : Nat) : (s.raiseErr sev code source unit addr detail).weirs = s.weirs := by unfold State.raiseErr; dsimp only; split <;> (try split) <;> simp
@[simp] theorem State.raiseErr_slots (sev code source unit : Nat) (addr : Option Nat) (detail : Nat) : (s.raiseErr sev code source unit addr detail).slots = s.slots := by unfold State.raiseErr; dsimp only; split <;> (try split) <;> simp
@[simp] theorem State.raiseErr_slotAct (sev code source unit : Nat) (addr : Option Nat) (detail : Nat) : (s.raiseErr sev code source unit addr detail).slotAct = s.slotAct := by unfold State.raiseErr; dsimp only; split <;> (try split) <;> simp
@[simp] theorem State.raiseErr_cus (sev code source unit : Nat) (addr : Option Nat) (detail : Nat) : (s.raiseErr sev code source unit addr detail).cus = s.cus := by unfold State.raiseErr; dsimp only; split <;> (try split) <;> simp
@[simp] theorem State.raiseErr_bed (sev code source unit : Nat) (addr : Option Nat) (detail : Nat) : (s.raiseErr sev code source unit addr detail).bed = s.bed := by unfold State.raiseErr; dsimp only; split <;> (try split) <;> simp
@[simp] theorem State.raiseErr_ports (sev code source unit : Nat) (addr : Option Nat) (detail : Nat) : (s.raiseErr sev code source unit addr detail).ports = s.ports := by unfold State.raiseErr; dsimp only; split <;> (try split) <;> simp
@[simp] theorem State.raiseErr_svcs (sev code source unit : Nat) (addr : Option Nat) (detail : Nat) : (s.raiseErr sev code source unit addr detail).svcs = s.svcs := by unfold State.raiseErr; dsimp only; split <;> (try split) <;> simp
@[simp] theorem State.raiseErr_fab (sev code source unit : Nat) (addr : Option Nat) (detail : Nat) : (s.raiseErr sev code source unit addr detail).fab = s.fab := by unfold State.raiseErr; dsimp only; split <;> (try split) <;> simp
@[simp] theorem State.raiseErr_hq (sev code source unit : Nat) (addr : Option Nat) (detail : Nat) : (s.raiseErr sev code source unit addr detail).hq = s.hq := by unfold State.raiseErr; dsimp only; split <;> (try split) <;> simp
@[simp] theorem State.raiseErr_nrg (sev code source unit : Nat) (addr : Option Nat) (detail : Nat) : (s.raiseErr sev code source unit addr detail).nrg = s.nrg := by unfold State.raiseErr; dsimp only; split <;> (try split) <;> simp
@[simp] theorem State.raiseErr_sec (sev code source unit : Nat) (addr : Option Nat) (detail : Nat) : (s.raiseErr sev code source unit addr detail).sec = s.sec := by unfold State.raiseErr; dsimp only; split <;> (try split) <;> simp
@[simp] theorem State.raiseErr_log (sev code source unit : Nat) (addr : Option Nat) (detail : Nat) : (s.raiseErr sev code source unit addr detail).log = s.log := by unfold State.raiseErr; dsimp only; split <;> (try split) <;> simp
@[simp] theorem State.raiseErr_test (sev code source unit : Nat) (addr : Option Nat) (detail : Nat) : (s.raiseErr sev code source unit addr detail).test = s.test := by unfold State.raiseErr; dsimp only; split <;> (try split) <;> simp

/-! raiseStatus writes err, errSeq, optics, outbox, pwr, store alone. -/
@[simp] theorem State.raiseStatus_pending (code source unit : Nat) (addr : Option Nat) (detail : Nat) : (s.raiseStatus code source unit addr detail).pending = s.pending := by unfold State.raiseStatus; split <;> simp
@[simp] theorem State.raiseStatus_freeIdx (code source unit : Nat) (addr : Option Nat) (detail : Nat) : (s.raiseStatus code source unit addr detail).freeIdx = s.freeIdx := by unfold State.raiseStatus; split <;> simp
@[simp] theorem State.raiseStatus_opNext (code source unit : Nat) (addr : Option Nat) (detail : Nat) : (s.raiseStatus code source unit addr detail).opNext = s.opNext := by unfold State.raiseStatus; split <;> simp
@[simp] theorem State.raiseStatus_fuses (code source unit : Nat) (addr : Option Nat) (detail : Nat) : (s.raiseStatus code source unit addr detail).fuses = s.fuses := by unfold State.raiseStatus; split <;> simp
@[simp] theorem State.raiseStatus_ticks (code source unit : Nat) (addr : Option Nat) (detail : Nat) : (s.raiseStatus code source unit addr detail).ticks = s.ticks := by unfold State.raiseStatus; split <;> simp
@[simp] theorem State.raiseStatus_regs (code source unit : Nat) (addr : Option Nat) (detail : Nat) : (s.raiseStatus code source unit addr detail).regs = s.regs := by unfold State.raiseStatus; split <;> simp
@[simp] theorem State.raiseStatus_mem (code source unit : Nat) (addr : Option Nat) (detail : Nat) : (s.raiseStatus code source unit addr detail).mem = s.mem := by unfold State.raiseStatus; split <;> simp
@[simp] theorem State.raiseStatus_trg (code source unit : Nat) (addr : Option Nat) (detail : Nat) : (s.raiseStatus code source unit addr detail).trg = s.trg := by unfold State.raiseStatus; split <;> simp
@[simp] theorem State.raiseStatus_trgCommit (code source unit : Nat) (addr : Option Nat) (detail : Nat) : (s.raiseStatus code source unit addr detail).trgCommit = s.trgCommit := by unfold State.raiseStatus; split <;> simp
@[simp] theorem State.raiseStatus_reaches (code source unit : Nat) (addr : Option Nat) (detail : Nat) : (s.raiseStatus code source unit addr detail).reaches = s.reaches := by unfold State.raiseStatus; split <;> simp
@[simp] theorem State.raiseStatus_plc (code source unit : Nat) (addr : Option Nat) (detail : Nat) : (s.raiseStatus code source unit addr detail).plc = s.plc := by unfold State.raiseStatus; split <;> simp
@[simp] theorem State.raiseStatus_cells (code source unit : Nat) (addr : Option Nat) (detail : Nat) : (s.raiseStatus code source unit addr detail).cells = s.cells := by unfold State.raiseStatus; split <;> simp
@[simp] theorem State.raiseStatus_seedBase (code source unit : Nat) (addr : Option Nat) (detail : Nat) : (s.raiseStatus code source unit addr detail).seedBase = s.seedBase := by unfold State.raiseStatus; split <;> simp
@[simp] theorem State.raiseStatus_moves (code source unit : Nat) (addr : Option Nat) (detail : Nat) : (s.raiseStatus code source unit addr detail).moves = s.moves := by unfold State.raiseStatus; split <;> simp
@[simp] theorem State.raiseStatus_clash (code source unit : Nat) (addr : Option Nat) (detail : Nat) : (s.raiseStatus code source unit addr detail).clash = s.clash := by unfold State.raiseStatus; split <;> simp
@[simp] theorem State.raiseStatus_weirs (code source unit : Nat) (addr : Option Nat) (detail : Nat) : (s.raiseStatus code source unit addr detail).weirs = s.weirs := by unfold State.raiseStatus; split <;> simp
@[simp] theorem State.raiseStatus_slots (code source unit : Nat) (addr : Option Nat) (detail : Nat) : (s.raiseStatus code source unit addr detail).slots = s.slots := by unfold State.raiseStatus; split <;> simp
@[simp] theorem State.raiseStatus_slotAct (code source unit : Nat) (addr : Option Nat) (detail : Nat) : (s.raiseStatus code source unit addr detail).slotAct = s.slotAct := by unfold State.raiseStatus; split <;> simp
@[simp] theorem State.raiseStatus_cus (code source unit : Nat) (addr : Option Nat) (detail : Nat) : (s.raiseStatus code source unit addr detail).cus = s.cus := by unfold State.raiseStatus; split <;> simp
@[simp] theorem State.raiseStatus_bed (code source unit : Nat) (addr : Option Nat) (detail : Nat) : (s.raiseStatus code source unit addr detail).bed = s.bed := by unfold State.raiseStatus; split <;> simp
@[simp] theorem State.raiseStatus_ports (code source unit : Nat) (addr : Option Nat) (detail : Nat) : (s.raiseStatus code source unit addr detail).ports = s.ports := by unfold State.raiseStatus; split <;> simp
@[simp] theorem State.raiseStatus_svcs (code source unit : Nat) (addr : Option Nat) (detail : Nat) : (s.raiseStatus code source unit addr detail).svcs = s.svcs := by unfold State.raiseStatus; split <;> simp
@[simp] theorem State.raiseStatus_fab (code source unit : Nat) (addr : Option Nat) (detail : Nat) : (s.raiseStatus code source unit addr detail).fab = s.fab := by unfold State.raiseStatus; split <;> simp
@[simp] theorem State.raiseStatus_hq (code source unit : Nat) (addr : Option Nat) (detail : Nat) : (s.raiseStatus code source unit addr detail).hq = s.hq := by unfold State.raiseStatus; split <;> simp
@[simp] theorem State.raiseStatus_nrg (code source unit : Nat) (addr : Option Nat) (detail : Nat) : (s.raiseStatus code source unit addr detail).nrg = s.nrg := by unfold State.raiseStatus; split <;> simp
@[simp] theorem State.raiseStatus_sec (code source unit : Nat) (addr : Option Nat) (detail : Nat) : (s.raiseStatus code source unit addr detail).sec = s.sec := by unfold State.raiseStatus; split <;> simp
@[simp] theorem State.raiseStatus_log (code source unit : Nat) (addr : Option Nat) (detail : Nat) : (s.raiseStatus code source unit addr detail).log = s.log := by unfold State.raiseStatus; split <;> simp
@[simp] theorem State.raiseStatus_test (code source unit : Nat) (addr : Option Nat) (detail : Nat) : (s.raiseStatus code source unit addr detail).test = s.test := by unfold State.raiseStatus; split <;> simp

/-! reserve writes store alone. -/
@[simp] theorem State.reserve_pending : s.reserve.pending = s.pending := by unfold State.reserve; split <;> simp
@[simp] theorem State.reserve_freeIdx : s.reserve.freeIdx = s.freeIdx := by unfold State.reserve; split <;> simp
@[simp] theorem State.reserve_opNext : s.reserve.opNext = s.opNext := by unfold State.reserve; split <;> simp
@[simp] theorem State.reserve_outbox : s.reserve.outbox = s.outbox := by unfold State.reserve; split <;> simp
@[simp] theorem State.reserve_fuses : s.reserve.fuses = s.fuses := by unfold State.reserve; split <;> simp
@[simp] theorem State.reserve_ticks : s.reserve.ticks = s.ticks := by unfold State.reserve; split <;> simp
@[simp] theorem State.reserve_regs : s.reserve.regs = s.regs := by unfold State.reserve; split <;> simp
@[simp] theorem State.reserve_mem : s.reserve.mem = s.mem := by unfold State.reserve; split <;> simp
@[simp] theorem State.reserve_trg : s.reserve.trg = s.trg := by unfold State.reserve; split <;> simp
@[simp] theorem State.reserve_trgCommit : s.reserve.trgCommit = s.trgCommit := by unfold State.reserve; split <;> simp
@[simp] theorem State.reserve_reaches : s.reserve.reaches = s.reaches := by unfold State.reserve; split <;> simp
@[simp] theorem State.reserve_plc : s.reserve.plc = s.plc := by unfold State.reserve; split <;> simp
@[simp] theorem State.reserve_cells : s.reserve.cells = s.cells := by unfold State.reserve; split <;> simp
@[simp] theorem State.reserve_seedBase : s.reserve.seedBase = s.seedBase := by unfold State.reserve; split <;> simp
@[simp] theorem State.reserve_moves : s.reserve.moves = s.moves := by unfold State.reserve; split <;> simp
@[simp] theorem State.reserve_clash : s.reserve.clash = s.clash := by unfold State.reserve; split <;> simp
@[simp] theorem State.reserve_weirs : s.reserve.weirs = s.weirs := by unfold State.reserve; split <;> simp
@[simp] theorem State.reserve_slots : s.reserve.slots = s.slots := by unfold State.reserve; split <;> simp
@[simp] theorem State.reserve_slotAct : s.reserve.slotAct = s.slotAct := by unfold State.reserve; split <;> simp
@[simp] theorem State.reserve_cus : s.reserve.cus = s.cus := by unfold State.reserve; split <;> simp
@[simp] theorem State.reserve_optics : s.reserve.optics = s.optics := by unfold State.reserve; split <;> simp
@[simp] theorem State.reserve_bed : s.reserve.bed = s.bed := by unfold State.reserve; split <;> simp
@[simp] theorem State.reserve_ports : s.reserve.ports = s.ports := by unfold State.reserve; split <;> simp
@[simp] theorem State.reserve_svcs : s.reserve.svcs = s.svcs := by unfold State.reserve; split <;> simp
@[simp] theorem State.reserve_fab : s.reserve.fab = s.fab := by unfold State.reserve; split <;> simp
@[simp] theorem State.reserve_hq : s.reserve.hq = s.hq := by unfold State.reserve; split <;> simp
@[simp] theorem State.reserve_nrg : s.reserve.nrg = s.nrg := by unfold State.reserve; split <;> simp
@[simp] theorem State.reserve_sec : s.reserve.sec = s.sec := by unfold State.reserve; split <;> simp
@[simp] theorem State.reserve_log : s.reserve.log = s.log := by unfold State.reserve; split <;> simp
@[simp] theorem State.reserve_errSeq : s.reserve.errSeq = s.errSeq := by unfold State.reserve; split <;> simp
@[simp] theorem State.reserve_err : s.reserve.err = s.err := by unfold State.reserve; split <;> simp
@[simp] theorem State.reserve_test : s.reserve.test = s.test := by unfold State.reserve; split <;> simp
@[simp] theorem State.reserve_pwr : s.reserve.pwr = s.pwr := by unfold State.reserve; split <;> simp

/-! logPut writes log, regs, store alone. -/
@[simp] theorem State.logPut_pending (o k obj : Nat) (v : List Byte) : (s.logPut o k obj v).pending = s.pending := by simp [State.logPut]
@[simp] theorem State.logPut_freeIdx (o k obj : Nat) (v : List Byte) : (s.logPut o k obj v).freeIdx = s.freeIdx := by simp [State.logPut]
@[simp] theorem State.logPut_opNext (o k obj : Nat) (v : List Byte) : (s.logPut o k obj v).opNext = s.opNext := by simp [State.logPut]
@[simp] theorem State.logPut_outbox (o k obj : Nat) (v : List Byte) : (s.logPut o k obj v).outbox = s.outbox := by simp [State.logPut]
@[simp] theorem State.logPut_fuses (o k obj : Nat) (v : List Byte) : (s.logPut o k obj v).fuses = s.fuses := by simp [State.logPut]
@[simp] theorem State.logPut_ticks (o k obj : Nat) (v : List Byte) : (s.logPut o k obj v).ticks = s.ticks := by simp [State.logPut]
@[simp] theorem State.logPut_mem (o k obj : Nat) (v : List Byte) : (s.logPut o k obj v).mem = s.mem := by simp [State.logPut]
@[simp] theorem State.logPut_trg (o k obj : Nat) (v : List Byte) : (s.logPut o k obj v).trg = s.trg := by simp [State.logPut]
@[simp] theorem State.logPut_trgCommit (o k obj : Nat) (v : List Byte) : (s.logPut o k obj v).trgCommit = s.trgCommit := by simp [State.logPut]
@[simp] theorem State.logPut_reaches (o k obj : Nat) (v : List Byte) : (s.logPut o k obj v).reaches = s.reaches := by simp [State.logPut]
@[simp] theorem State.logPut_plc (o k obj : Nat) (v : List Byte) : (s.logPut o k obj v).plc = s.plc := by simp [State.logPut]
@[simp] theorem State.logPut_cells (o k obj : Nat) (v : List Byte) : (s.logPut o k obj v).cells = s.cells := by simp [State.logPut]
@[simp] theorem State.logPut_seedBase (o k obj : Nat) (v : List Byte) : (s.logPut o k obj v).seedBase = s.seedBase := by simp [State.logPut]
@[simp] theorem State.logPut_moves (o k obj : Nat) (v : List Byte) : (s.logPut o k obj v).moves = s.moves := by simp [State.logPut]
@[simp] theorem State.logPut_clash (o k obj : Nat) (v : List Byte) : (s.logPut o k obj v).clash = s.clash := by simp [State.logPut]
@[simp] theorem State.logPut_weirs (o k obj : Nat) (v : List Byte) : (s.logPut o k obj v).weirs = s.weirs := by simp [State.logPut]
@[simp] theorem State.logPut_slots (o k obj : Nat) (v : List Byte) : (s.logPut o k obj v).slots = s.slots := by simp [State.logPut]
@[simp] theorem State.logPut_slotAct (o k obj : Nat) (v : List Byte) : (s.logPut o k obj v).slotAct = s.slotAct := by simp [State.logPut]
@[simp] theorem State.logPut_cus (o k obj : Nat) (v : List Byte) : (s.logPut o k obj v).cus = s.cus := by simp [State.logPut]
@[simp] theorem State.logPut_optics (o k obj : Nat) (v : List Byte) : (s.logPut o k obj v).optics = s.optics := by simp [State.logPut]
@[simp] theorem State.logPut_bed (o k obj : Nat) (v : List Byte) : (s.logPut o k obj v).bed = s.bed := by simp [State.logPut]
@[simp] theorem State.logPut_ports (o k obj : Nat) (v : List Byte) : (s.logPut o k obj v).ports = s.ports := by simp [State.logPut]
@[simp] theorem State.logPut_svcs (o k obj : Nat) (v : List Byte) : (s.logPut o k obj v).svcs = s.svcs := by simp [State.logPut]
@[simp] theorem State.logPut_fab (o k obj : Nat) (v : List Byte) : (s.logPut o k obj v).fab = s.fab := by simp [State.logPut]
@[simp] theorem State.logPut_hq (o k obj : Nat) (v : List Byte) : (s.logPut o k obj v).hq = s.hq := by simp [State.logPut]
@[simp] theorem State.logPut_nrg (o k obj : Nat) (v : List Byte) : (s.logPut o k obj v).nrg = s.nrg := by simp [State.logPut]
@[simp] theorem State.logPut_sec (o k obj : Nat) (v : List Byte) : (s.logPut o k obj v).sec = s.sec := by simp [State.logPut]
@[simp] theorem State.logPut_errSeq (o k obj : Nat) (v : List Byte) : (s.logPut o k obj v).errSeq = s.errSeq := by simp [State.logPut]
@[simp] theorem State.logPut_err (o k obj : Nat) (v : List Byte) : (s.logPut o k obj v).err = s.err := by simp [State.logPut]
@[simp] theorem State.logPut_test (o k obj : Nat) (v : List Byte) : (s.logPut o k obj v).test = s.test := by simp [State.logPut]
@[simp] theorem State.logPut_pwr (o k obj : Nat) (v : List Byte) : (s.logPut o k obj v).pwr = s.pwr := by simp [State.logPut]

/-! tally writes log, regs, store alone. -/
@[simp] theorem State.tally_pending : s.tally.pending = s.pending := by rw [State.tally_eq]; split <;> simp only [State.logPut_pending]
@[simp] theorem State.tally_freeIdx : s.tally.freeIdx = s.freeIdx := by rw [State.tally_eq]; split <;> simp only [State.logPut_freeIdx]
@[simp] theorem State.tally_opNext : s.tally.opNext = s.opNext := by rw [State.tally_eq]; split <;> simp only [State.logPut_opNext]
@[simp] theorem State.tally_outbox : s.tally.outbox = s.outbox := by rw [State.tally_eq]; split <;> simp only [State.logPut_outbox]
@[simp] theorem State.tally_fuses : s.tally.fuses = s.fuses := by rw [State.tally_eq]; split <;> simp only [State.logPut_fuses]
@[simp] theorem State.tally_ticks : s.tally.ticks = s.ticks := by rw [State.tally_eq]; split <;> simp only [State.logPut_ticks]
@[simp] theorem State.tally_mem : s.tally.mem = s.mem := by rw [State.tally_eq]; split <;> simp only [State.logPut_mem]
@[simp] theorem State.tally_trg : s.tally.trg = s.trg := by rw [State.tally_eq]; split <;> simp only [State.logPut_trg]
@[simp] theorem State.tally_trgCommit : s.tally.trgCommit = s.trgCommit := by rw [State.tally_eq]; split <;> simp only [State.logPut_trgCommit]
@[simp] theorem State.tally_reaches : s.tally.reaches = s.reaches := by rw [State.tally_eq]; split <;> simp only [State.logPut_reaches]
@[simp] theorem State.tally_plc : s.tally.plc = s.plc := by rw [State.tally_eq]; split <;> simp only [State.logPut_plc]
@[simp] theorem State.tally_cells : s.tally.cells = s.cells := by rw [State.tally_eq]; split <;> simp only [State.logPut_cells]
@[simp] theorem State.tally_seedBase : s.tally.seedBase = s.seedBase := by rw [State.tally_eq]; split <;> simp only [State.logPut_seedBase]
@[simp] theorem State.tally_moves : s.tally.moves = s.moves := by rw [State.tally_eq]; split <;> simp only [State.logPut_moves]
@[simp] theorem State.tally_clash : s.tally.clash = s.clash := by rw [State.tally_eq]; split <;> simp only [State.logPut_clash]
@[simp] theorem State.tally_weirs : s.tally.weirs = s.weirs := by rw [State.tally_eq]; split <;> simp only [State.logPut_weirs]
@[simp] theorem State.tally_slots : s.tally.slots = s.slots := by rw [State.tally_eq]; split <;> simp only [State.logPut_slots]
@[simp] theorem State.tally_slotAct : s.tally.slotAct = s.slotAct := by rw [State.tally_eq]; split <;> simp only [State.logPut_slotAct]
@[simp] theorem State.tally_cus : s.tally.cus = s.cus := by rw [State.tally_eq]; split <;> simp only [State.logPut_cus]
@[simp] theorem State.tally_optics : s.tally.optics = s.optics := by rw [State.tally_eq]; split <;> simp only [State.logPut_optics]
@[simp] theorem State.tally_bed : s.tally.bed = s.bed := by rw [State.tally_eq]; split <;> simp only [State.logPut_bed]
@[simp] theorem State.tally_ports : s.tally.ports = s.ports := by rw [State.tally_eq]; split <;> simp only [State.logPut_ports]
@[simp] theorem State.tally_svcs : s.tally.svcs = s.svcs := by rw [State.tally_eq]; split <;> simp only [State.logPut_svcs]
@[simp] theorem State.tally_fab : s.tally.fab = s.fab := by rw [State.tally_eq]; split <;> simp only [State.logPut_fab]
@[simp] theorem State.tally_hq : s.tally.hq = s.hq := by rw [State.tally_eq]; split <;> simp only [State.logPut_hq]
@[simp] theorem State.tally_nrg : s.tally.nrg = s.nrg := by rw [State.tally_eq]; split <;> simp only [State.logPut_nrg]
@[simp] theorem State.tally_sec : s.tally.sec = s.sec := by rw [State.tally_eq]; split <;> simp only [State.logPut_sec]
@[simp] theorem State.tally_errSeq : s.tally.errSeq = s.errSeq := by rw [State.tally_eq]; split <;> simp only [State.logPut_errSeq]
@[simp] theorem State.tally_err : s.tally.err = s.err := by rw [State.tally_eq]; split <;> simp only [State.logPut_err]
@[simp] theorem State.tally_test : s.tally.test = s.test := by rw [State.tally_eq]; split <;> simp only [State.logPut_test]
@[simp] theorem State.tally_pwr : s.tally.pwr = s.pwr := by rw [State.tally_eq]; split <;> simp only [State.logPut_pwr]

/-! logAuto writes log, regs, store alone. -/
@[simp] theorem State.logAuto_pending (o : Origin) (k obj : Nat) (v : List Byte) : (s.logAuto o k obj v).pending = s.pending := by rw [State.logAuto_eq]; split <;> simp only [State.logPut_pending, State.tally_pending]
@[simp] theorem State.logAuto_freeIdx (o : Origin) (k obj : Nat) (v : List Byte) : (s.logAuto o k obj v).freeIdx = s.freeIdx := by rw [State.logAuto_eq]; split <;> simp only [State.logPut_freeIdx, State.tally_freeIdx]
@[simp] theorem State.logAuto_opNext (o : Origin) (k obj : Nat) (v : List Byte) : (s.logAuto o k obj v).opNext = s.opNext := by rw [State.logAuto_eq]; split <;> simp only [State.logPut_opNext, State.tally_opNext]
@[simp] theorem State.logAuto_outbox (o : Origin) (k obj : Nat) (v : List Byte) : (s.logAuto o k obj v).outbox = s.outbox := by rw [State.logAuto_eq]; split <;> simp only [State.logPut_outbox, State.tally_outbox]
@[simp] theorem State.logAuto_fuses (o : Origin) (k obj : Nat) (v : List Byte) : (s.logAuto o k obj v).fuses = s.fuses := by rw [State.logAuto_eq]; split <;> simp only [State.logPut_fuses, State.tally_fuses]
@[simp] theorem State.logAuto_ticks (o : Origin) (k obj : Nat) (v : List Byte) : (s.logAuto o k obj v).ticks = s.ticks := by rw [State.logAuto_eq]; split <;> simp only [State.logPut_ticks, State.tally_ticks]
@[simp] theorem State.logAuto_mem (o : Origin) (k obj : Nat) (v : List Byte) : (s.logAuto o k obj v).mem = s.mem := by rw [State.logAuto_eq]; split <;> simp only [State.logPut_mem, State.tally_mem]
@[simp] theorem State.logAuto_trg (o : Origin) (k obj : Nat) (v : List Byte) : (s.logAuto o k obj v).trg = s.trg := by rw [State.logAuto_eq]; split <;> simp only [State.logPut_trg, State.tally_trg]
@[simp] theorem State.logAuto_trgCommit (o : Origin) (k obj : Nat) (v : List Byte) : (s.logAuto o k obj v).trgCommit = s.trgCommit := by rw [State.logAuto_eq]; split <;> simp only [State.logPut_trgCommit, State.tally_trgCommit]
@[simp] theorem State.logAuto_reaches (o : Origin) (k obj : Nat) (v : List Byte) : (s.logAuto o k obj v).reaches = s.reaches := by rw [State.logAuto_eq]; split <;> simp only [State.logPut_reaches, State.tally_reaches]
@[simp] theorem State.logAuto_plc (o : Origin) (k obj : Nat) (v : List Byte) : (s.logAuto o k obj v).plc = s.plc := by rw [State.logAuto_eq]; split <;> simp only [State.logPut_plc, State.tally_plc]
@[simp] theorem State.logAuto_cells (o : Origin) (k obj : Nat) (v : List Byte) : (s.logAuto o k obj v).cells = s.cells := by rw [State.logAuto_eq]; split <;> simp only [State.logPut_cells, State.tally_cells]
@[simp] theorem State.logAuto_seedBase (o : Origin) (k obj : Nat) (v : List Byte) : (s.logAuto o k obj v).seedBase = s.seedBase := by rw [State.logAuto_eq]; split <;> simp only [State.logPut_seedBase, State.tally_seedBase]
@[simp] theorem State.logAuto_moves (o : Origin) (k obj : Nat) (v : List Byte) : (s.logAuto o k obj v).moves = s.moves := by rw [State.logAuto_eq]; split <;> simp only [State.logPut_moves, State.tally_moves]
@[simp] theorem State.logAuto_clash (o : Origin) (k obj : Nat) (v : List Byte) : (s.logAuto o k obj v).clash = s.clash := by rw [State.logAuto_eq]; split <;> simp only [State.logPut_clash, State.tally_clash]
@[simp] theorem State.logAuto_weirs (o : Origin) (k obj : Nat) (v : List Byte) : (s.logAuto o k obj v).weirs = s.weirs := by rw [State.logAuto_eq]; split <;> simp only [State.logPut_weirs, State.tally_weirs]
@[simp] theorem State.logAuto_slots (o : Origin) (k obj : Nat) (v : List Byte) : (s.logAuto o k obj v).slots = s.slots := by rw [State.logAuto_eq]; split <;> simp only [State.logPut_slots, State.tally_slots]
@[simp] theorem State.logAuto_slotAct (o : Origin) (k obj : Nat) (v : List Byte) : (s.logAuto o k obj v).slotAct = s.slotAct := by rw [State.logAuto_eq]; split <;> simp only [State.logPut_slotAct, State.tally_slotAct]
@[simp] theorem State.logAuto_cus (o : Origin) (k obj : Nat) (v : List Byte) : (s.logAuto o k obj v).cus = s.cus := by rw [State.logAuto_eq]; split <;> simp only [State.logPut_cus, State.tally_cus]
@[simp] theorem State.logAuto_optics (o : Origin) (k obj : Nat) (v : List Byte) : (s.logAuto o k obj v).optics = s.optics := by rw [State.logAuto_eq]; split <;> simp only [State.logPut_optics, State.tally_optics]
@[simp] theorem State.logAuto_bed (o : Origin) (k obj : Nat) (v : List Byte) : (s.logAuto o k obj v).bed = s.bed := by rw [State.logAuto_eq]; split <;> simp only [State.logPut_bed, State.tally_bed]
@[simp] theorem State.logAuto_ports (o : Origin) (k obj : Nat) (v : List Byte) : (s.logAuto o k obj v).ports = s.ports := by rw [State.logAuto_eq]; split <;> simp only [State.logPut_ports, State.tally_ports]
@[simp] theorem State.logAuto_svcs (o : Origin) (k obj : Nat) (v : List Byte) : (s.logAuto o k obj v).svcs = s.svcs := by rw [State.logAuto_eq]; split <;> simp only [State.logPut_svcs, State.tally_svcs]
@[simp] theorem State.logAuto_fab (o : Origin) (k obj : Nat) (v : List Byte) : (s.logAuto o k obj v).fab = s.fab := by rw [State.logAuto_eq]; split <;> simp only [State.logPut_fab, State.tally_fab]
@[simp] theorem State.logAuto_hq (o : Origin) (k obj : Nat) (v : List Byte) : (s.logAuto o k obj v).hq = s.hq := by rw [State.logAuto_eq]; split <;> simp only [State.logPut_hq, State.tally_hq]
@[simp] theorem State.logAuto_nrg (o : Origin) (k obj : Nat) (v : List Byte) : (s.logAuto o k obj v).nrg = s.nrg := by rw [State.logAuto_eq]; split <;> simp only [State.logPut_nrg, State.tally_nrg]
@[simp] theorem State.logAuto_sec (o : Origin) (k obj : Nat) (v : List Byte) : (s.logAuto o k obj v).sec = s.sec := by rw [State.logAuto_eq]; split <;> simp only [State.logPut_sec, State.tally_sec]
@[simp] theorem State.logAuto_errSeq (o : Origin) (k obj : Nat) (v : List Byte) : (s.logAuto o k obj v).errSeq = s.errSeq := by rw [State.logAuto_eq]; split <;> simp only [State.logPut_errSeq, State.tally_errSeq]
@[simp] theorem State.logAuto_err (o : Origin) (k obj : Nat) (v : List Byte) : (s.logAuto o k obj v).err = s.err := by rw [State.logAuto_eq]; split <;> simp only [State.logPut_err, State.tally_err]
@[simp] theorem State.logAuto_test (o : Origin) (k obj : Nat) (v : List Byte) : (s.logAuto o k obj v).test = s.test := by rw [State.logAuto_eq]; split <;> simp only [State.logPut_test, State.tally_test]
@[simp] theorem State.logAuto_pwr (o : Origin) (k obj : Nat) (v : List Byte) : (s.logAuto o k obj v).pwr = s.pwr := by rw [State.logAuto_eq]; split <;> simp only [State.logPut_pwr, State.tally_pwr]

/-! logEvent writes log, regs, store alone. -/
@[simp] theorem State.logEvent_pending (o : Origin) (c obj d : Nat) : (s.logEvent o c obj d).pending = s.pending := by simp [State.logEvent]
@[simp] theorem State.logEvent_freeIdx (o : Origin) (c obj d : Nat) : (s.logEvent o c obj d).freeIdx = s.freeIdx := by simp [State.logEvent]
@[simp] theorem State.logEvent_opNext (o : Origin) (c obj d : Nat) : (s.logEvent o c obj d).opNext = s.opNext := by simp [State.logEvent]
@[simp] theorem State.logEvent_outbox (o : Origin) (c obj d : Nat) : (s.logEvent o c obj d).outbox = s.outbox := by simp [State.logEvent]
@[simp] theorem State.logEvent_fuses (o : Origin) (c obj d : Nat) : (s.logEvent o c obj d).fuses = s.fuses := by simp [State.logEvent]
@[simp] theorem State.logEvent_ticks (o : Origin) (c obj d : Nat) : (s.logEvent o c obj d).ticks = s.ticks := by simp [State.logEvent]
@[simp] theorem State.logEvent_mem (o : Origin) (c obj d : Nat) : (s.logEvent o c obj d).mem = s.mem := by simp [State.logEvent]
@[simp] theorem State.logEvent_trg (o : Origin) (c obj d : Nat) : (s.logEvent o c obj d).trg = s.trg := by simp [State.logEvent]
@[simp] theorem State.logEvent_trgCommit (o : Origin) (c obj d : Nat) : (s.logEvent o c obj d).trgCommit = s.trgCommit := by simp [State.logEvent]
@[simp] theorem State.logEvent_reaches (o : Origin) (c obj d : Nat) : (s.logEvent o c obj d).reaches = s.reaches := by simp [State.logEvent]
@[simp] theorem State.logEvent_plc (o : Origin) (c obj d : Nat) : (s.logEvent o c obj d).plc = s.plc := by simp [State.logEvent]
@[simp] theorem State.logEvent_cells (o : Origin) (c obj d : Nat) : (s.logEvent o c obj d).cells = s.cells := by simp [State.logEvent]
@[simp] theorem State.logEvent_seedBase (o : Origin) (c obj d : Nat) : (s.logEvent o c obj d).seedBase = s.seedBase := by simp [State.logEvent]
@[simp] theorem State.logEvent_moves (o : Origin) (c obj d : Nat) : (s.logEvent o c obj d).moves = s.moves := by simp [State.logEvent]
@[simp] theorem State.logEvent_clash (o : Origin) (c obj d : Nat) : (s.logEvent o c obj d).clash = s.clash := by simp [State.logEvent]
@[simp] theorem State.logEvent_weirs (o : Origin) (c obj d : Nat) : (s.logEvent o c obj d).weirs = s.weirs := by simp [State.logEvent]
@[simp] theorem State.logEvent_slots (o : Origin) (c obj d : Nat) : (s.logEvent o c obj d).slots = s.slots := by simp [State.logEvent]
@[simp] theorem State.logEvent_slotAct (o : Origin) (c obj d : Nat) : (s.logEvent o c obj d).slotAct = s.slotAct := by simp [State.logEvent]
@[simp] theorem State.logEvent_cus (o : Origin) (c obj d : Nat) : (s.logEvent o c obj d).cus = s.cus := by simp [State.logEvent]
@[simp] theorem State.logEvent_optics (o : Origin) (c obj d : Nat) : (s.logEvent o c obj d).optics = s.optics := by simp [State.logEvent]
@[simp] theorem State.logEvent_bed (o : Origin) (c obj d : Nat) : (s.logEvent o c obj d).bed = s.bed := by simp [State.logEvent]
@[simp] theorem State.logEvent_ports (o : Origin) (c obj d : Nat) : (s.logEvent o c obj d).ports = s.ports := by simp [State.logEvent]
@[simp] theorem State.logEvent_svcs (o : Origin) (c obj d : Nat) : (s.logEvent o c obj d).svcs = s.svcs := by simp [State.logEvent]
@[simp] theorem State.logEvent_fab (o : Origin) (c obj d : Nat) : (s.logEvent o c obj d).fab = s.fab := by simp [State.logEvent]
@[simp] theorem State.logEvent_hq (o : Origin) (c obj d : Nat) : (s.logEvent o c obj d).hq = s.hq := by simp [State.logEvent]
@[simp] theorem State.logEvent_nrg (o : Origin) (c obj d : Nat) : (s.logEvent o c obj d).nrg = s.nrg := by simp [State.logEvent]
@[simp] theorem State.logEvent_sec (o : Origin) (c obj d : Nat) : (s.logEvent o c obj d).sec = s.sec := by simp [State.logEvent]
@[simp] theorem State.logEvent_errSeq (o : Origin) (c obj d : Nat) : (s.logEvent o c obj d).errSeq = s.errSeq := by simp [State.logEvent]
@[simp] theorem State.logEvent_err (o : Origin) (c obj d : Nat) : (s.logEvent o c obj d).err = s.err := by simp [State.logEvent]
@[simp] theorem State.logEvent_test (o : Origin) (c obj d : Nat) : (s.logEvent o c obj d).test = s.test := by simp [State.logEvent]
@[simp] theorem State.logEvent_pwr (o : Origin) (c obj d : Nat) : (s.logEvent o c obj d).pwr = s.pwr := by simp [State.logEvent]

/-! refuseLog writes regs alone. -/
@[simp] theorem State.refuseLog_pending (o : Origin) (off : Nat) : (s.refuseLog o off).pending = s.pending := by simp [State.refuseLog]
@[simp] theorem State.refuseLog_freeIdx (o : Origin) (off : Nat) : (s.refuseLog o off).freeIdx = s.freeIdx := by simp [State.refuseLog]
@[simp] theorem State.refuseLog_opNext (o : Origin) (off : Nat) : (s.refuseLog o off).opNext = s.opNext := by simp [State.refuseLog]
@[simp] theorem State.refuseLog_outbox (o : Origin) (off : Nat) : (s.refuseLog o off).outbox = s.outbox := by simp [State.refuseLog]
@[simp] theorem State.refuseLog_fuses (o : Origin) (off : Nat) : (s.refuseLog o off).fuses = s.fuses := by simp [State.refuseLog]
@[simp] theorem State.refuseLog_ticks (o : Origin) (off : Nat) : (s.refuseLog o off).ticks = s.ticks := by simp [State.refuseLog]
@[simp] theorem State.refuseLog_mem (o : Origin) (off : Nat) : (s.refuseLog o off).mem = s.mem := by simp [State.refuseLog]
@[simp] theorem State.refuseLog_trg (o : Origin) (off : Nat) : (s.refuseLog o off).trg = s.trg := by simp [State.refuseLog]
@[simp] theorem State.refuseLog_trgCommit (o : Origin) (off : Nat) : (s.refuseLog o off).trgCommit = s.trgCommit := by simp [State.refuseLog]
@[simp] theorem State.refuseLog_reaches (o : Origin) (off : Nat) : (s.refuseLog o off).reaches = s.reaches := by simp [State.refuseLog]
@[simp] theorem State.refuseLog_plc (o : Origin) (off : Nat) : (s.refuseLog o off).plc = s.plc := by simp [State.refuseLog]
@[simp] theorem State.refuseLog_cells (o : Origin) (off : Nat) : (s.refuseLog o off).cells = s.cells := by simp [State.refuseLog]
@[simp] theorem State.refuseLog_seedBase (o : Origin) (off : Nat) : (s.refuseLog o off).seedBase = s.seedBase := by simp [State.refuseLog]
@[simp] theorem State.refuseLog_moves (o : Origin) (off : Nat) : (s.refuseLog o off).moves = s.moves := by simp [State.refuseLog]
@[simp] theorem State.refuseLog_clash (o : Origin) (off : Nat) : (s.refuseLog o off).clash = s.clash := by simp [State.refuseLog]
@[simp] theorem State.refuseLog_weirs (o : Origin) (off : Nat) : (s.refuseLog o off).weirs = s.weirs := by simp [State.refuseLog]
@[simp] theorem State.refuseLog_slots (o : Origin) (off : Nat) : (s.refuseLog o off).slots = s.slots := by simp [State.refuseLog]
@[simp] theorem State.refuseLog_slotAct (o : Origin) (off : Nat) : (s.refuseLog o off).slotAct = s.slotAct := by simp [State.refuseLog]
@[simp] theorem State.refuseLog_cus (o : Origin) (off : Nat) : (s.refuseLog o off).cus = s.cus := by simp [State.refuseLog]
@[simp] theorem State.refuseLog_optics (o : Origin) (off : Nat) : (s.refuseLog o off).optics = s.optics := by simp [State.refuseLog]
@[simp] theorem State.refuseLog_bed (o : Origin) (off : Nat) : (s.refuseLog o off).bed = s.bed := by simp [State.refuseLog]
@[simp] theorem State.refuseLog_ports (o : Origin) (off : Nat) : (s.refuseLog o off).ports = s.ports := by simp [State.refuseLog]
@[simp] theorem State.refuseLog_svcs (o : Origin) (off : Nat) : (s.refuseLog o off).svcs = s.svcs := by simp [State.refuseLog]
@[simp] theorem State.refuseLog_fab (o : Origin) (off : Nat) : (s.refuseLog o off).fab = s.fab := by simp [State.refuseLog]
@[simp] theorem State.refuseLog_hq (o : Origin) (off : Nat) : (s.refuseLog o off).hq = s.hq := by simp [State.refuseLog]
@[simp] theorem State.refuseLog_nrg (o : Origin) (off : Nat) : (s.refuseLog o off).nrg = s.nrg := by simp [State.refuseLog]
@[simp] theorem State.refuseLog_sec (o : Origin) (off : Nat) : (s.refuseLog o off).sec = s.sec := by simp [State.refuseLog]
@[simp] theorem State.refuseLog_log (o : Origin) (off : Nat) : (s.refuseLog o off).log = s.log := by simp [State.refuseLog]
@[simp] theorem State.refuseLog_store (o : Origin) (off : Nat) : (s.refuseLog o off).store = s.store := by simp [State.refuseLog]
@[simp] theorem State.refuseLog_errSeq (o : Origin) (off : Nat) : (s.refuseLog o off).errSeq = s.errSeq := by simp [State.refuseLog]
@[simp] theorem State.refuseLog_err (o : Origin) (off : Nat) : (s.refuseLog o off).err = s.err := by simp [State.refuseLog]
@[simp] theorem State.refuseLog_test (o : Origin) (off : Nat) : (s.refuseLog o off).test = s.test := by simp [State.refuseLog]
@[simp] theorem State.refuseLog_pwr (o : Origin) (off : Nat) : (s.refuseLog o off).pwr = s.pwr := by simp [State.refuseLog]

/-! logChange writes log, regs, store alone. -/
@[simp] theorem State.logChange_pending (o : Origin) (k obj : Nat) (v : List Byte) : (s.logChange o k obj v).pending = s.pending := by unfold State.logChange; split <;> simp
@[simp] theorem State.logChange_freeIdx (o : Origin) (k obj : Nat) (v : List Byte) : (s.logChange o k obj v).freeIdx = s.freeIdx := by unfold State.logChange; split <;> simp
@[simp] theorem State.logChange_opNext (o : Origin) (k obj : Nat) (v : List Byte) : (s.logChange o k obj v).opNext = s.opNext := by unfold State.logChange; split <;> simp
@[simp] theorem State.logChange_outbox (o : Origin) (k obj : Nat) (v : List Byte) : (s.logChange o k obj v).outbox = s.outbox := by unfold State.logChange; split <;> simp
@[simp] theorem State.logChange_fuses (o : Origin) (k obj : Nat) (v : List Byte) : (s.logChange o k obj v).fuses = s.fuses := by unfold State.logChange; split <;> simp
@[simp] theorem State.logChange_ticks (o : Origin) (k obj : Nat) (v : List Byte) : (s.logChange o k obj v).ticks = s.ticks := by unfold State.logChange; split <;> simp
@[simp] theorem State.logChange_mem (o : Origin) (k obj : Nat) (v : List Byte) : (s.logChange o k obj v).mem = s.mem := by unfold State.logChange; split <;> simp
@[simp] theorem State.logChange_trg (o : Origin) (k obj : Nat) (v : List Byte) : (s.logChange o k obj v).trg = s.trg := by unfold State.logChange; split <;> simp
@[simp] theorem State.logChange_trgCommit (o : Origin) (k obj : Nat) (v : List Byte) : (s.logChange o k obj v).trgCommit = s.trgCommit := by unfold State.logChange; split <;> simp
@[simp] theorem State.logChange_reaches (o : Origin) (k obj : Nat) (v : List Byte) : (s.logChange o k obj v).reaches = s.reaches := by unfold State.logChange; split <;> simp
@[simp] theorem State.logChange_plc (o : Origin) (k obj : Nat) (v : List Byte) : (s.logChange o k obj v).plc = s.plc := by unfold State.logChange; split <;> simp
@[simp] theorem State.logChange_cells (o : Origin) (k obj : Nat) (v : List Byte) : (s.logChange o k obj v).cells = s.cells := by unfold State.logChange; split <;> simp
@[simp] theorem State.logChange_seedBase (o : Origin) (k obj : Nat) (v : List Byte) : (s.logChange o k obj v).seedBase = s.seedBase := by unfold State.logChange; split <;> simp
@[simp] theorem State.logChange_moves (o : Origin) (k obj : Nat) (v : List Byte) : (s.logChange o k obj v).moves = s.moves := by unfold State.logChange; split <;> simp
@[simp] theorem State.logChange_clash (o : Origin) (k obj : Nat) (v : List Byte) : (s.logChange o k obj v).clash = s.clash := by unfold State.logChange; split <;> simp
@[simp] theorem State.logChange_weirs (o : Origin) (k obj : Nat) (v : List Byte) : (s.logChange o k obj v).weirs = s.weirs := by unfold State.logChange; split <;> simp
@[simp] theorem State.logChange_slots (o : Origin) (k obj : Nat) (v : List Byte) : (s.logChange o k obj v).slots = s.slots := by unfold State.logChange; split <;> simp
@[simp] theorem State.logChange_slotAct (o : Origin) (k obj : Nat) (v : List Byte) : (s.logChange o k obj v).slotAct = s.slotAct := by unfold State.logChange; split <;> simp
@[simp] theorem State.logChange_cus (o : Origin) (k obj : Nat) (v : List Byte) : (s.logChange o k obj v).cus = s.cus := by unfold State.logChange; split <;> simp
@[simp] theorem State.logChange_optics (o : Origin) (k obj : Nat) (v : List Byte) : (s.logChange o k obj v).optics = s.optics := by unfold State.logChange; split <;> simp
@[simp] theorem State.logChange_bed (o : Origin) (k obj : Nat) (v : List Byte) : (s.logChange o k obj v).bed = s.bed := by unfold State.logChange; split <;> simp
@[simp] theorem State.logChange_ports (o : Origin) (k obj : Nat) (v : List Byte) : (s.logChange o k obj v).ports = s.ports := by unfold State.logChange; split <;> simp
@[simp] theorem State.logChange_svcs (o : Origin) (k obj : Nat) (v : List Byte) : (s.logChange o k obj v).svcs = s.svcs := by unfold State.logChange; split <;> simp
@[simp] theorem State.logChange_fab (o : Origin) (k obj : Nat) (v : List Byte) : (s.logChange o k obj v).fab = s.fab := by unfold State.logChange; split <;> simp
@[simp] theorem State.logChange_hq (o : Origin) (k obj : Nat) (v : List Byte) : (s.logChange o k obj v).hq = s.hq := by unfold State.logChange; split <;> simp
@[simp] theorem State.logChange_nrg (o : Origin) (k obj : Nat) (v : List Byte) : (s.logChange o k obj v).nrg = s.nrg := by unfold State.logChange; split <;> simp
@[simp] theorem State.logChange_sec (o : Origin) (k obj : Nat) (v : List Byte) : (s.logChange o k obj v).sec = s.sec := by unfold State.logChange; split <;> simp
@[simp] theorem State.logChange_errSeq (o : Origin) (k obj : Nat) (v : List Byte) : (s.logChange o k obj v).errSeq = s.errSeq := by unfold State.logChange; split <;> simp
@[simp] theorem State.logChange_err (o : Origin) (k obj : Nat) (v : List Byte) : (s.logChange o k obj v).err = s.err := by unfold State.logChange; split <;> simp
@[simp] theorem State.logChange_test (o : Origin) (k obj : Nat) (v : List Byte) : (s.logChange o k obj v).test = s.test := by unfold State.logChange; split <;> simp
@[simp] theorem State.logChange_pwr (o : Origin) (k obj : Nat) (v : List Byte) : (s.logChange o k obj v).pwr = s.pwr := by unfold State.logChange; split <;> simp

/-! countCheck writes regs alone. -/
@[simp] theorem State.countCheck_pending (die n : Nat) : (s.countCheck die n).pending = s.pending := by unfold State.countCheck; split <;> simp
@[simp] theorem State.countCheck_freeIdx (die n : Nat) : (s.countCheck die n).freeIdx = s.freeIdx := by unfold State.countCheck; split <;> simp
@[simp] theorem State.countCheck_opNext (die n : Nat) : (s.countCheck die n).opNext = s.opNext := by unfold State.countCheck; split <;> simp
@[simp] theorem State.countCheck_outbox (die n : Nat) : (s.countCheck die n).outbox = s.outbox := by unfold State.countCheck; split <;> simp
@[simp] theorem State.countCheck_fuses (die n : Nat) : (s.countCheck die n).fuses = s.fuses := by unfold State.countCheck; split <;> simp
@[simp] theorem State.countCheck_ticks (die n : Nat) : (s.countCheck die n).ticks = s.ticks := by unfold State.countCheck; split <;> simp
@[simp] theorem State.countCheck_mem (die n : Nat) : (s.countCheck die n).mem = s.mem := by unfold State.countCheck; split <;> simp
@[simp] theorem State.countCheck_trg (die n : Nat) : (s.countCheck die n).trg = s.trg := by unfold State.countCheck; split <;> simp
@[simp] theorem State.countCheck_trgCommit (die n : Nat) : (s.countCheck die n).trgCommit = s.trgCommit := by unfold State.countCheck; split <;> simp
@[simp] theorem State.countCheck_reaches (die n : Nat) : (s.countCheck die n).reaches = s.reaches := by unfold State.countCheck; split <;> simp
@[simp] theorem State.countCheck_plc (die n : Nat) : (s.countCheck die n).plc = s.plc := by unfold State.countCheck; split <;> simp
@[simp] theorem State.countCheck_cells (die n : Nat) : (s.countCheck die n).cells = s.cells := by unfold State.countCheck; split <;> simp
@[simp] theorem State.countCheck_seedBase (die n : Nat) : (s.countCheck die n).seedBase = s.seedBase := by unfold State.countCheck; split <;> simp
@[simp] theorem State.countCheck_moves (die n : Nat) : (s.countCheck die n).moves = s.moves := by unfold State.countCheck; split <;> simp
@[simp] theorem State.countCheck_clash (die n : Nat) : (s.countCheck die n).clash = s.clash := by unfold State.countCheck; split <;> simp
@[simp] theorem State.countCheck_weirs (die n : Nat) : (s.countCheck die n).weirs = s.weirs := by unfold State.countCheck; split <;> simp
@[simp] theorem State.countCheck_slots (die n : Nat) : (s.countCheck die n).slots = s.slots := by unfold State.countCheck; split <;> simp
@[simp] theorem State.countCheck_slotAct (die n : Nat) : (s.countCheck die n).slotAct = s.slotAct := by unfold State.countCheck; split <;> simp
@[simp] theorem State.countCheck_cus (die n : Nat) : (s.countCheck die n).cus = s.cus := by unfold State.countCheck; split <;> simp
@[simp] theorem State.countCheck_optics (die n : Nat) : (s.countCheck die n).optics = s.optics := by unfold State.countCheck; split <;> simp
@[simp] theorem State.countCheck_bed (die n : Nat) : (s.countCheck die n).bed = s.bed := by unfold State.countCheck; split <;> simp
@[simp] theorem State.countCheck_ports (die n : Nat) : (s.countCheck die n).ports = s.ports := by unfold State.countCheck; split <;> simp
@[simp] theorem State.countCheck_svcs (die n : Nat) : (s.countCheck die n).svcs = s.svcs := by unfold State.countCheck; split <;> simp
@[simp] theorem State.countCheck_fab (die n : Nat) : (s.countCheck die n).fab = s.fab := by unfold State.countCheck; split <;> simp
@[simp] theorem State.countCheck_hq (die n : Nat) : (s.countCheck die n).hq = s.hq := by unfold State.countCheck; split <;> simp
@[simp] theorem State.countCheck_nrg (die n : Nat) : (s.countCheck die n).nrg = s.nrg := by unfold State.countCheck; split <;> simp
@[simp] theorem State.countCheck_sec (die n : Nat) : (s.countCheck die n).sec = s.sec := by unfold State.countCheck; split <;> simp
@[simp] theorem State.countCheck_log (die n : Nat) : (s.countCheck die n).log = s.log := by unfold State.countCheck; split <;> simp
@[simp] theorem State.countCheck_store (die n : Nat) : (s.countCheck die n).store = s.store := by unfold State.countCheck; split <;> simp
@[simp] theorem State.countCheck_errSeq (die n : Nat) : (s.countCheck die n).errSeq = s.errSeq := by unfold State.countCheck; split <;> simp
@[simp] theorem State.countCheck_err (die n : Nat) : (s.countCheck die n).err = s.err := by unfold State.countCheck; split <;> simp
@[simp] theorem State.countCheck_test (die n : Nat) : (s.countCheck die n).test = s.test := by unfold State.countCheck; split <;> simp
@[simp] theorem State.countCheck_pwr (die n : Nat) : (s.countCheck die n).pwr = s.pwr := by unfold State.countCheck; split <;> simp

/-! countPortBusy writes regs alone. -/
@[simp] theorem State.countPortBusy_pending (da : Nat) : (s.countPortBusy da).pending = s.pending := by unfold State.countPortBusy; split <;> (try split) <;> simp
@[simp] theorem State.countPortBusy_freeIdx (da : Nat) : (s.countPortBusy da).freeIdx = s.freeIdx := by unfold State.countPortBusy; split <;> (try split) <;> simp
@[simp] theorem State.countPortBusy_opNext (da : Nat) : (s.countPortBusy da).opNext = s.opNext := by unfold State.countPortBusy; split <;> (try split) <;> simp
@[simp] theorem State.countPortBusy_outbox (da : Nat) : (s.countPortBusy da).outbox = s.outbox := by unfold State.countPortBusy; split <;> (try split) <;> simp
@[simp] theorem State.countPortBusy_fuses (da : Nat) : (s.countPortBusy da).fuses = s.fuses := by unfold State.countPortBusy; split <;> (try split) <;> simp
@[simp] theorem State.countPortBusy_ticks (da : Nat) : (s.countPortBusy da).ticks = s.ticks := by unfold State.countPortBusy; split <;> (try split) <;> simp
@[simp] theorem State.countPortBusy_mem (da : Nat) : (s.countPortBusy da).mem = s.mem := by unfold State.countPortBusy; split <;> (try split) <;> simp
@[simp] theorem State.countPortBusy_trg (da : Nat) : (s.countPortBusy da).trg = s.trg := by unfold State.countPortBusy; split <;> (try split) <;> simp
@[simp] theorem State.countPortBusy_trgCommit (da : Nat) : (s.countPortBusy da).trgCommit = s.trgCommit := by unfold State.countPortBusy; split <;> (try split) <;> simp
@[simp] theorem State.countPortBusy_reaches (da : Nat) : (s.countPortBusy da).reaches = s.reaches := by unfold State.countPortBusy; split <;> (try split) <;> simp
@[simp] theorem State.countPortBusy_plc (da : Nat) : (s.countPortBusy da).plc = s.plc := by unfold State.countPortBusy; split <;> (try split) <;> simp
@[simp] theorem State.countPortBusy_cells (da : Nat) : (s.countPortBusy da).cells = s.cells := by unfold State.countPortBusy; split <;> (try split) <;> simp
@[simp] theorem State.countPortBusy_seedBase (da : Nat) : (s.countPortBusy da).seedBase = s.seedBase := by unfold State.countPortBusy; split <;> (try split) <;> simp
@[simp] theorem State.countPortBusy_moves (da : Nat) : (s.countPortBusy da).moves = s.moves := by unfold State.countPortBusy; split <;> (try split) <;> simp
@[simp] theorem State.countPortBusy_clash (da : Nat) : (s.countPortBusy da).clash = s.clash := by unfold State.countPortBusy; split <;> (try split) <;> simp
@[simp] theorem State.countPortBusy_weirs (da : Nat) : (s.countPortBusy da).weirs = s.weirs := by unfold State.countPortBusy; split <;> (try split) <;> simp
@[simp] theorem State.countPortBusy_slots (da : Nat) : (s.countPortBusy da).slots = s.slots := by unfold State.countPortBusy; split <;> (try split) <;> simp
@[simp] theorem State.countPortBusy_slotAct (da : Nat) : (s.countPortBusy da).slotAct = s.slotAct := by unfold State.countPortBusy; split <;> (try split) <;> simp
@[simp] theorem State.countPortBusy_cus (da : Nat) : (s.countPortBusy da).cus = s.cus := by unfold State.countPortBusy; split <;> (try split) <;> simp
@[simp] theorem State.countPortBusy_optics (da : Nat) : (s.countPortBusy da).optics = s.optics := by unfold State.countPortBusy; split <;> (try split) <;> simp
@[simp] theorem State.countPortBusy_bed (da : Nat) : (s.countPortBusy da).bed = s.bed := by unfold State.countPortBusy; split <;> (try split) <;> simp
@[simp] theorem State.countPortBusy_ports (da : Nat) : (s.countPortBusy da).ports = s.ports := by unfold State.countPortBusy; split <;> (try split) <;> simp
@[simp] theorem State.countPortBusy_svcs (da : Nat) : (s.countPortBusy da).svcs = s.svcs := by unfold State.countPortBusy; split <;> (try split) <;> simp
@[simp] theorem State.countPortBusy_fab (da : Nat) : (s.countPortBusy da).fab = s.fab := by unfold State.countPortBusy; split <;> (try split) <;> simp
@[simp] theorem State.countPortBusy_hq (da : Nat) : (s.countPortBusy da).hq = s.hq := by unfold State.countPortBusy; split <;> (try split) <;> simp
@[simp] theorem State.countPortBusy_nrg (da : Nat) : (s.countPortBusy da).nrg = s.nrg := by unfold State.countPortBusy; split <;> (try split) <;> simp
@[simp] theorem State.countPortBusy_sec (da : Nat) : (s.countPortBusy da).sec = s.sec := by unfold State.countPortBusy; split <;> (try split) <;> simp
@[simp] theorem State.countPortBusy_log (da : Nat) : (s.countPortBusy da).log = s.log := by unfold State.countPortBusy; split <;> (try split) <;> simp
@[simp] theorem State.countPortBusy_store (da : Nat) : (s.countPortBusy da).store = s.store := by unfold State.countPortBusy; split <;> (try split) <;> simp
@[simp] theorem State.countPortBusy_errSeq (da : Nat) : (s.countPortBusy da).errSeq = s.errSeq := by unfold State.countPortBusy; split <;> (try split) <;> simp
@[simp] theorem State.countPortBusy_err (da : Nat) : (s.countPortBusy da).err = s.err := by unfold State.countPortBusy; split <;> (try split) <;> simp
@[simp] theorem State.countPortBusy_test (da : Nat) : (s.countPortBusy da).test = s.test := by unfold State.countPortBusy; split <;> (try split) <;> simp
@[simp] theorem State.countPortBusy_pwr (da : Nat) : (s.countPortBusy da).pwr = s.pwr := by unfold State.countPortBusy; split <;> (try split) <;> simp

/-! hbmErr writes store, test alone. -/
@[simp] theorem State.hbmErr_pending (da : Nat) : (s.hbmErr da).pending = s.pending := by unfold State.hbmErr; dsimp only; split <;> (try split) <;> simp
@[simp] theorem State.hbmErr_freeIdx (da : Nat) : (s.hbmErr da).freeIdx = s.freeIdx := by unfold State.hbmErr; dsimp only; split <;> (try split) <;> simp
@[simp] theorem State.hbmErr_opNext (da : Nat) : (s.hbmErr da).opNext = s.opNext := by unfold State.hbmErr; dsimp only; split <;> (try split) <;> simp
@[simp] theorem State.hbmErr_outbox (da : Nat) : (s.hbmErr da).outbox = s.outbox := by unfold State.hbmErr; dsimp only; split <;> (try split) <;> simp
@[simp] theorem State.hbmErr_fuses (da : Nat) : (s.hbmErr da).fuses = s.fuses := by unfold State.hbmErr; dsimp only; split <;> (try split) <;> simp
@[simp] theorem State.hbmErr_ticks (da : Nat) : (s.hbmErr da).ticks = s.ticks := by unfold State.hbmErr; dsimp only; split <;> (try split) <;> simp
@[simp] theorem State.hbmErr_regs (da : Nat) : (s.hbmErr da).regs = s.regs := by unfold State.hbmErr; dsimp only; split <;> (try split) <;> simp
@[simp] theorem State.hbmErr_mem (da : Nat) : (s.hbmErr da).mem = s.mem := by unfold State.hbmErr; dsimp only; split <;> (try split) <;> simp
@[simp] theorem State.hbmErr_trg (da : Nat) : (s.hbmErr da).trg = s.trg := by unfold State.hbmErr; dsimp only; split <;> (try split) <;> simp
@[simp] theorem State.hbmErr_trgCommit (da : Nat) : (s.hbmErr da).trgCommit = s.trgCommit := by unfold State.hbmErr; dsimp only; split <;> (try split) <;> simp
@[simp] theorem State.hbmErr_reaches (da : Nat) : (s.hbmErr da).reaches = s.reaches := by unfold State.hbmErr; dsimp only; split <;> (try split) <;> simp
@[simp] theorem State.hbmErr_plc (da : Nat) : (s.hbmErr da).plc = s.plc := by unfold State.hbmErr; dsimp only; split <;> (try split) <;> simp
@[simp] theorem State.hbmErr_cells (da : Nat) : (s.hbmErr da).cells = s.cells := by unfold State.hbmErr; dsimp only; split <;> (try split) <;> simp
@[simp] theorem State.hbmErr_seedBase (da : Nat) : (s.hbmErr da).seedBase = s.seedBase := by unfold State.hbmErr; dsimp only; split <;> (try split) <;> simp
@[simp] theorem State.hbmErr_moves (da : Nat) : (s.hbmErr da).moves = s.moves := by unfold State.hbmErr; dsimp only; split <;> (try split) <;> simp
@[simp] theorem State.hbmErr_clash (da : Nat) : (s.hbmErr da).clash = s.clash := by unfold State.hbmErr; dsimp only; split <;> (try split) <;> simp
@[simp] theorem State.hbmErr_weirs (da : Nat) : (s.hbmErr da).weirs = s.weirs := by unfold State.hbmErr; dsimp only; split <;> (try split) <;> simp
@[simp] theorem State.hbmErr_slots (da : Nat) : (s.hbmErr da).slots = s.slots := by unfold State.hbmErr; dsimp only; split <;> (try split) <;> simp
@[simp] theorem State.hbmErr_slotAct (da : Nat) : (s.hbmErr da).slotAct = s.slotAct := by unfold State.hbmErr; dsimp only; split <;> (try split) <;> simp
@[simp] theorem State.hbmErr_cus (da : Nat) : (s.hbmErr da).cus = s.cus := by unfold State.hbmErr; dsimp only; split <;> (try split) <;> simp
@[simp] theorem State.hbmErr_optics (da : Nat) : (s.hbmErr da).optics = s.optics := by unfold State.hbmErr; dsimp only; split <;> (try split) <;> simp
@[simp] theorem State.hbmErr_bed (da : Nat) : (s.hbmErr da).bed = s.bed := by unfold State.hbmErr; dsimp only; split <;> (try split) <;> simp
@[simp] theorem State.hbmErr_ports (da : Nat) : (s.hbmErr da).ports = s.ports := by unfold State.hbmErr; dsimp only; split <;> (try split) <;> simp
@[simp] theorem State.hbmErr_svcs (da : Nat) : (s.hbmErr da).svcs = s.svcs := by unfold State.hbmErr; dsimp only; split <;> (try split) <;> simp
@[simp] theorem State.hbmErr_fab (da : Nat) : (s.hbmErr da).fab = s.fab := by unfold State.hbmErr; dsimp only; split <;> (try split) <;> simp
@[simp] theorem State.hbmErr_hq (da : Nat) : (s.hbmErr da).hq = s.hq := by unfold State.hbmErr; dsimp only; split <;> (try split) <;> simp
@[simp] theorem State.hbmErr_nrg (da : Nat) : (s.hbmErr da).nrg = s.nrg := by unfold State.hbmErr; dsimp only; split <;> (try split) <;> simp
@[simp] theorem State.hbmErr_sec (da : Nat) : (s.hbmErr da).sec = s.sec := by unfold State.hbmErr; dsimp only; split <;> (try split) <;> simp
@[simp] theorem State.hbmErr_log (da : Nat) : (s.hbmErr da).log = s.log := by unfold State.hbmErr; dsimp only; split <;> (try split) <;> simp
@[simp] theorem State.hbmErr_errSeq (da : Nat) : (s.hbmErr da).errSeq = s.errSeq := by unfold State.hbmErr; dsimp only; split <;> (try split) <;> simp
@[simp] theorem State.hbmErr_err (da : Nat) : (s.hbmErr da).err = s.err := by unfold State.hbmErr; dsimp only; split <;> (try split) <;> simp
@[simp] theorem State.hbmErr_pwr (da : Nat) : (s.hbmErr da).pwr = s.pwr := by unfold State.hbmErr; dsimp only; split <;> (try split) <;> simp

/-! eccRead writes err, errSeq, optics, outbox, pwr, store, test alone. -/
@[simp] theorem State.eccRead_pending (da len : Nat) : (s.eccRead da len).pending = s.pending := by
  unfold State.eccRead; apply foldl_keeps (fun x : State => x.pending); intro a b; dsimp only; split <;> (try split) <;> simp
@[simp] theorem State.eccRead_freeIdx (da len : Nat) : (s.eccRead da len).freeIdx = s.freeIdx := by
  unfold State.eccRead; apply foldl_keeps (fun x : State => x.freeIdx); intro a b; dsimp only; split <;> (try split) <;> simp
@[simp] theorem State.eccRead_opNext (da len : Nat) : (s.eccRead da len).opNext = s.opNext := by
  unfold State.eccRead; apply foldl_keeps (fun x : State => x.opNext); intro a b; dsimp only; split <;> (try split) <;> simp
@[simp] theorem State.eccRead_fuses (da len : Nat) : (s.eccRead da len).fuses = s.fuses := by
  unfold State.eccRead; apply foldl_keeps (fun x : State => x.fuses); intro a b; dsimp only; split <;> (try split) <;> simp
@[simp] theorem State.eccRead_ticks (da len : Nat) : (s.eccRead da len).ticks = s.ticks := by
  unfold State.eccRead; apply foldl_keeps (fun x : State => x.ticks); intro a b; dsimp only; split <;> (try split) <;> simp
@[simp] theorem State.eccRead_regs (da len : Nat) : (s.eccRead da len).regs = s.regs := by
  unfold State.eccRead; apply foldl_keeps (fun x : State => x.regs); intro a b; dsimp only; split <;> (try split) <;> simp
@[simp] theorem State.eccRead_mem (da len : Nat) : (s.eccRead da len).mem = s.mem := by
  unfold State.eccRead; apply foldl_keeps (fun x : State => x.mem); intro a b; dsimp only; split <;> (try split) <;> simp
@[simp] theorem State.eccRead_trg (da len : Nat) : (s.eccRead da len).trg = s.trg := by
  unfold State.eccRead; apply foldl_keeps (fun x : State => x.trg); intro a b; dsimp only; split <;> (try split) <;> simp
@[simp] theorem State.eccRead_trgCommit (da len : Nat) : (s.eccRead da len).trgCommit = s.trgCommit := by
  unfold State.eccRead; apply foldl_keeps (fun x : State => x.trgCommit); intro a b; dsimp only; split <;> (try split) <;> simp
@[simp] theorem State.eccRead_reaches (da len : Nat) : (s.eccRead da len).reaches = s.reaches := by
  unfold State.eccRead; apply foldl_keeps (fun x : State => x.reaches); intro a b; dsimp only; split <;> (try split) <;> simp
@[simp] theorem State.eccRead_plc (da len : Nat) : (s.eccRead da len).plc = s.plc := by
  unfold State.eccRead; apply foldl_keeps (fun x : State => x.plc); intro a b; dsimp only; split <;> (try split) <;> simp
@[simp] theorem State.eccRead_cells (da len : Nat) : (s.eccRead da len).cells = s.cells := by
  unfold State.eccRead; apply foldl_keeps (fun x : State => x.cells); intro a b; dsimp only; split <;> (try split) <;> simp
@[simp] theorem State.eccRead_seedBase (da len : Nat) : (s.eccRead da len).seedBase = s.seedBase := by
  unfold State.eccRead; apply foldl_keeps (fun x : State => x.seedBase); intro a b; dsimp only; split <;> (try split) <;> simp
@[simp] theorem State.eccRead_moves (da len : Nat) : (s.eccRead da len).moves = s.moves := by
  unfold State.eccRead; apply foldl_keeps (fun x : State => x.moves); intro a b; dsimp only; split <;> (try split) <;> simp
@[simp] theorem State.eccRead_clash (da len : Nat) : (s.eccRead da len).clash = s.clash := by
  unfold State.eccRead; apply foldl_keeps (fun x : State => x.clash); intro a b; dsimp only; split <;> (try split) <;> simp
@[simp] theorem State.eccRead_weirs (da len : Nat) : (s.eccRead da len).weirs = s.weirs := by
  unfold State.eccRead; apply foldl_keeps (fun x : State => x.weirs); intro a b; dsimp only; split <;> (try split) <;> simp
@[simp] theorem State.eccRead_slots (da len : Nat) : (s.eccRead da len).slots = s.slots := by
  unfold State.eccRead; apply foldl_keeps (fun x : State => x.slots); intro a b; dsimp only; split <;> (try split) <;> simp
@[simp] theorem State.eccRead_slotAct (da len : Nat) : (s.eccRead da len).slotAct = s.slotAct := by
  unfold State.eccRead; apply foldl_keeps (fun x : State => x.slotAct); intro a b; dsimp only; split <;> (try split) <;> simp
@[simp] theorem State.eccRead_cus (da len : Nat) : (s.eccRead da len).cus = s.cus := by
  unfold State.eccRead; apply foldl_keeps (fun x : State => x.cus); intro a b; dsimp only; split <;> (try split) <;> simp
@[simp] theorem State.eccRead_bed (da len : Nat) : (s.eccRead da len).bed = s.bed := by
  unfold State.eccRead; apply foldl_keeps (fun x : State => x.bed); intro a b; dsimp only; split <;> (try split) <;> simp
@[simp] theorem State.eccRead_ports (da len : Nat) : (s.eccRead da len).ports = s.ports := by
  unfold State.eccRead; apply foldl_keeps (fun x : State => x.ports); intro a b; dsimp only; split <;> (try split) <;> simp
@[simp] theorem State.eccRead_svcs (da len : Nat) : (s.eccRead da len).svcs = s.svcs := by
  unfold State.eccRead; apply foldl_keeps (fun x : State => x.svcs); intro a b; dsimp only; split <;> (try split) <;> simp
@[simp] theorem State.eccRead_fab (da len : Nat) : (s.eccRead da len).fab = s.fab := by
  unfold State.eccRead; apply foldl_keeps (fun x : State => x.fab); intro a b; dsimp only; split <;> (try split) <;> simp
@[simp] theorem State.eccRead_hq (da len : Nat) : (s.eccRead da len).hq = s.hq := by
  unfold State.eccRead; apply foldl_keeps (fun x : State => x.hq); intro a b; dsimp only; split <;> (try split) <;> simp
@[simp] theorem State.eccRead_nrg (da len : Nat) : (s.eccRead da len).nrg = s.nrg := by
  unfold State.eccRead; apply foldl_keeps (fun x : State => x.nrg); intro a b; dsimp only; split <;> (try split) <;> simp
@[simp] theorem State.eccRead_sec (da len : Nat) : (s.eccRead da len).sec = s.sec := by
  unfold State.eccRead; apply foldl_keeps (fun x : State => x.sec); intro a b; dsimp only; split <;> (try split) <;> simp
@[simp] theorem State.eccRead_log (da len : Nat) : (s.eccRead da len).log = s.log := by
  unfold State.eccRead; apply foldl_keeps (fun x : State => x.log); intro a b; dsimp only; split <;> (try split) <;> simp

/-! cellExc writes cells, err, errSeq, optics, outbox, pwr, store alone. -/
@[simp] theorem State.cellExc_pending (ci code : Nat) (addr : Option Nat) (detail : Nat) : (s.cellExc ci code addr detail).pending = s.pending := by simp [State.cellExc]
@[simp] theorem State.cellExc_freeIdx (ci code : Nat) (addr : Option Nat) (detail : Nat) : (s.cellExc ci code addr detail).freeIdx = s.freeIdx := by simp [State.cellExc]
@[simp] theorem State.cellExc_opNext (ci code : Nat) (addr : Option Nat) (detail : Nat) : (s.cellExc ci code addr detail).opNext = s.opNext := by simp [State.cellExc]
@[simp] theorem State.cellExc_fuses (ci code : Nat) (addr : Option Nat) (detail : Nat) : (s.cellExc ci code addr detail).fuses = s.fuses := by simp [State.cellExc]
@[simp] theorem State.cellExc_ticks (ci code : Nat) (addr : Option Nat) (detail : Nat) : (s.cellExc ci code addr detail).ticks = s.ticks := by simp [State.cellExc]
@[simp] theorem State.cellExc_regs (ci code : Nat) (addr : Option Nat) (detail : Nat) : (s.cellExc ci code addr detail).regs = s.regs := by simp [State.cellExc]
@[simp] theorem State.cellExc_mem (ci code : Nat) (addr : Option Nat) (detail : Nat) : (s.cellExc ci code addr detail).mem = s.mem := by simp [State.cellExc]
@[simp] theorem State.cellExc_trg (ci code : Nat) (addr : Option Nat) (detail : Nat) : (s.cellExc ci code addr detail).trg = s.trg := by simp [State.cellExc]
@[simp] theorem State.cellExc_trgCommit (ci code : Nat) (addr : Option Nat) (detail : Nat) : (s.cellExc ci code addr detail).trgCommit = s.trgCommit := by simp [State.cellExc]
@[simp] theorem State.cellExc_reaches (ci code : Nat) (addr : Option Nat) (detail : Nat) : (s.cellExc ci code addr detail).reaches = s.reaches := by simp [State.cellExc]
@[simp] theorem State.cellExc_plc (ci code : Nat) (addr : Option Nat) (detail : Nat) : (s.cellExc ci code addr detail).plc = s.plc := by simp [State.cellExc]
@[simp] theorem State.cellExc_seedBase (ci code : Nat) (addr : Option Nat) (detail : Nat) : (s.cellExc ci code addr detail).seedBase = s.seedBase := by simp [State.cellExc]
@[simp] theorem State.cellExc_moves (ci code : Nat) (addr : Option Nat) (detail : Nat) : (s.cellExc ci code addr detail).moves = s.moves := by simp [State.cellExc]
@[simp] theorem State.cellExc_clash (ci code : Nat) (addr : Option Nat) (detail : Nat) : (s.cellExc ci code addr detail).clash = s.clash := by simp [State.cellExc]
@[simp] theorem State.cellExc_weirs (ci code : Nat) (addr : Option Nat) (detail : Nat) : (s.cellExc ci code addr detail).weirs = s.weirs := by simp [State.cellExc]
@[simp] theorem State.cellExc_slots (ci code : Nat) (addr : Option Nat) (detail : Nat) : (s.cellExc ci code addr detail).slots = s.slots := by simp [State.cellExc]
@[simp] theorem State.cellExc_slotAct (ci code : Nat) (addr : Option Nat) (detail : Nat) : (s.cellExc ci code addr detail).slotAct = s.slotAct := by simp [State.cellExc]
@[simp] theorem State.cellExc_cus (ci code : Nat) (addr : Option Nat) (detail : Nat) : (s.cellExc ci code addr detail).cus = s.cus := by simp [State.cellExc]
@[simp] theorem State.cellExc_bed (ci code : Nat) (addr : Option Nat) (detail : Nat) : (s.cellExc ci code addr detail).bed = s.bed := by simp [State.cellExc]
@[simp] theorem State.cellExc_ports (ci code : Nat) (addr : Option Nat) (detail : Nat) : (s.cellExc ci code addr detail).ports = s.ports := by simp [State.cellExc]
@[simp] theorem State.cellExc_svcs (ci code : Nat) (addr : Option Nat) (detail : Nat) : (s.cellExc ci code addr detail).svcs = s.svcs := by simp [State.cellExc]
@[simp] theorem State.cellExc_fab (ci code : Nat) (addr : Option Nat) (detail : Nat) : (s.cellExc ci code addr detail).fab = s.fab := by simp [State.cellExc]
@[simp] theorem State.cellExc_hq (ci code : Nat) (addr : Option Nat) (detail : Nat) : (s.cellExc ci code addr detail).hq = s.hq := by simp [State.cellExc]
@[simp] theorem State.cellExc_nrg (ci code : Nat) (addr : Option Nat) (detail : Nat) : (s.cellExc ci code addr detail).nrg = s.nrg := by simp [State.cellExc]
@[simp] theorem State.cellExc_sec (ci code : Nat) (addr : Option Nat) (detail : Nat) : (s.cellExc ci code addr detail).sec = s.sec := by simp [State.cellExc]
@[simp] theorem State.cellExc_log (ci code : Nat) (addr : Option Nat) (detail : Nat) : (s.cellExc ci code addr detail).log = s.log := by simp [State.cellExc]
@[simp] theorem State.cellExc_test (ci code : Nat) (addr : Option Nat) (detail : Nat) : (s.cellExc ci code addr detail).test = s.test := by simp [State.cellExc]

/-! trapCell writes cells alone. -/
@[simp] theorem State.trapCell_pending (ci code op : Nat) : (s.trapCell ci code op).pending = s.pending := by simp [State.trapCell]
@[simp] theorem State.trapCell_freeIdx (ci code op : Nat) : (s.trapCell ci code op).freeIdx = s.freeIdx := by simp [State.trapCell]
@[simp] theorem State.trapCell_opNext (ci code op : Nat) : (s.trapCell ci code op).opNext = s.opNext := by simp [State.trapCell]
@[simp] theorem State.trapCell_outbox (ci code op : Nat) : (s.trapCell ci code op).outbox = s.outbox := by simp [State.trapCell]
@[simp] theorem State.trapCell_fuses (ci code op : Nat) : (s.trapCell ci code op).fuses = s.fuses := by simp [State.trapCell]
@[simp] theorem State.trapCell_ticks (ci code op : Nat) : (s.trapCell ci code op).ticks = s.ticks := by simp [State.trapCell]
@[simp] theorem State.trapCell_regs (ci code op : Nat) : (s.trapCell ci code op).regs = s.regs := by simp [State.trapCell]
@[simp] theorem State.trapCell_mem (ci code op : Nat) : (s.trapCell ci code op).mem = s.mem := by simp [State.trapCell]
@[simp] theorem State.trapCell_trg (ci code op : Nat) : (s.trapCell ci code op).trg = s.trg := by simp [State.trapCell]
@[simp] theorem State.trapCell_trgCommit (ci code op : Nat) : (s.trapCell ci code op).trgCommit = s.trgCommit := by simp [State.trapCell]
@[simp] theorem State.trapCell_reaches (ci code op : Nat) : (s.trapCell ci code op).reaches = s.reaches := by simp [State.trapCell]
@[simp] theorem State.trapCell_plc (ci code op : Nat) : (s.trapCell ci code op).plc = s.plc := by simp [State.trapCell]
@[simp] theorem State.trapCell_seedBase (ci code op : Nat) : (s.trapCell ci code op).seedBase = s.seedBase := by simp [State.trapCell]
@[simp] theorem State.trapCell_moves (ci code op : Nat) : (s.trapCell ci code op).moves = s.moves := by simp [State.trapCell]
@[simp] theorem State.trapCell_clash (ci code op : Nat) : (s.trapCell ci code op).clash = s.clash := by simp [State.trapCell]
@[simp] theorem State.trapCell_weirs (ci code op : Nat) : (s.trapCell ci code op).weirs = s.weirs := by simp [State.trapCell]
@[simp] theorem State.trapCell_slots (ci code op : Nat) : (s.trapCell ci code op).slots = s.slots := by simp [State.trapCell]
@[simp] theorem State.trapCell_slotAct (ci code op : Nat) : (s.trapCell ci code op).slotAct = s.slotAct := by simp [State.trapCell]
@[simp] theorem State.trapCell_cus (ci code op : Nat) : (s.trapCell ci code op).cus = s.cus := by simp [State.trapCell]
@[simp] theorem State.trapCell_optics (ci code op : Nat) : (s.trapCell ci code op).optics = s.optics := by simp [State.trapCell]
@[simp] theorem State.trapCell_bed (ci code op : Nat) : (s.trapCell ci code op).bed = s.bed := by simp [State.trapCell]
@[simp] theorem State.trapCell_ports (ci code op : Nat) : (s.trapCell ci code op).ports = s.ports := by simp [State.trapCell]
@[simp] theorem State.trapCell_svcs (ci code op : Nat) : (s.trapCell ci code op).svcs = s.svcs := by simp [State.trapCell]
@[simp] theorem State.trapCell_fab (ci code op : Nat) : (s.trapCell ci code op).fab = s.fab := by simp [State.trapCell]
@[simp] theorem State.trapCell_hq (ci code op : Nat) : (s.trapCell ci code op).hq = s.hq := by simp [State.trapCell]
@[simp] theorem State.trapCell_nrg (ci code op : Nat) : (s.trapCell ci code op).nrg = s.nrg := by simp [State.trapCell]
@[simp] theorem State.trapCell_sec (ci code op : Nat) : (s.trapCell ci code op).sec = s.sec := by simp [State.trapCell]
@[simp] theorem State.trapCell_log (ci code op : Nat) : (s.trapCell ci code op).log = s.log := by simp [State.trapCell]
@[simp] theorem State.trapCell_store (ci code op : Nat) : (s.trapCell ci code op).store = s.store := by simp [State.trapCell]
@[simp] theorem State.trapCell_errSeq (ci code op : Nat) : (s.trapCell ci code op).errSeq = s.errSeq := by simp [State.trapCell]
@[simp] theorem State.trapCell_err (ci code op : Nat) : (s.trapCell ci code op).err = s.err := by simp [State.trapCell]
@[simp] theorem State.trapCell_test (ci code op : Nat) : (s.trapCell ci code op).test = s.test := by simp [State.trapCell]
@[simp] theorem State.trapCell_pwr (ci code op : Nat) : (s.trapCell ci code op).pwr = s.pwr := by simp [State.trapCell]

/-! advance writes cells alone. -/
@[simp] theorem State.advance_pending (ci : Nat) : (s.advance ci).pending = s.pending := by simp [State.advance]
@[simp] theorem State.advance_freeIdx (ci : Nat) : (s.advance ci).freeIdx = s.freeIdx := by simp [State.advance]
@[simp] theorem State.advance_opNext (ci : Nat) : (s.advance ci).opNext = s.opNext := by simp [State.advance]
@[simp] theorem State.advance_outbox (ci : Nat) : (s.advance ci).outbox = s.outbox := by simp [State.advance]
@[simp] theorem State.advance_fuses (ci : Nat) : (s.advance ci).fuses = s.fuses := by simp [State.advance]
@[simp] theorem State.advance_ticks (ci : Nat) : (s.advance ci).ticks = s.ticks := by simp [State.advance]
@[simp] theorem State.advance_regs (ci : Nat) : (s.advance ci).regs = s.regs := by simp [State.advance]
@[simp] theorem State.advance_mem (ci : Nat) : (s.advance ci).mem = s.mem := by simp [State.advance]
@[simp] theorem State.advance_trg (ci : Nat) : (s.advance ci).trg = s.trg := by simp [State.advance]
@[simp] theorem State.advance_trgCommit (ci : Nat) : (s.advance ci).trgCommit = s.trgCommit := by simp [State.advance]
@[simp] theorem State.advance_reaches (ci : Nat) : (s.advance ci).reaches = s.reaches := by simp [State.advance]
@[simp] theorem State.advance_plc (ci : Nat) : (s.advance ci).plc = s.plc := by simp [State.advance]
@[simp] theorem State.advance_seedBase (ci : Nat) : (s.advance ci).seedBase = s.seedBase := by simp [State.advance]
@[simp] theorem State.advance_moves (ci : Nat) : (s.advance ci).moves = s.moves := by simp [State.advance]
@[simp] theorem State.advance_clash (ci : Nat) : (s.advance ci).clash = s.clash := by simp [State.advance]
@[simp] theorem State.advance_weirs (ci : Nat) : (s.advance ci).weirs = s.weirs := by simp [State.advance]
@[simp] theorem State.advance_slots (ci : Nat) : (s.advance ci).slots = s.slots := by simp [State.advance]
@[simp] theorem State.advance_slotAct (ci : Nat) : (s.advance ci).slotAct = s.slotAct := by simp [State.advance]
@[simp] theorem State.advance_cus (ci : Nat) : (s.advance ci).cus = s.cus := by simp [State.advance]
@[simp] theorem State.advance_optics (ci : Nat) : (s.advance ci).optics = s.optics := by simp [State.advance]
@[simp] theorem State.advance_bed (ci : Nat) : (s.advance ci).bed = s.bed := by simp [State.advance]
@[simp] theorem State.advance_ports (ci : Nat) : (s.advance ci).ports = s.ports := by simp [State.advance]
@[simp] theorem State.advance_svcs (ci : Nat) : (s.advance ci).svcs = s.svcs := by simp [State.advance]
@[simp] theorem State.advance_fab (ci : Nat) : (s.advance ci).fab = s.fab := by simp [State.advance]
@[simp] theorem State.advance_hq (ci : Nat) : (s.advance ci).hq = s.hq := by simp [State.advance]
@[simp] theorem State.advance_nrg (ci : Nat) : (s.advance ci).nrg = s.nrg := by simp [State.advance]
@[simp] theorem State.advance_sec (ci : Nat) : (s.advance ci).sec = s.sec := by simp [State.advance]
@[simp] theorem State.advance_log (ci : Nat) : (s.advance ci).log = s.log := by simp [State.advance]
@[simp] theorem State.advance_store (ci : Nat) : (s.advance ci).store = s.store := by simp [State.advance]
@[simp] theorem State.advance_errSeq (ci : Nat) : (s.advance ci).errSeq = s.errSeq := by simp [State.advance]
@[simp] theorem State.advance_err (ci : Nat) : (s.advance ci).err = s.err := by simp [State.advance]
@[simp] theorem State.advance_test (ci : Nat) : (s.advance ci).test = s.test := by simp [State.advance]
@[simp] theorem State.advance_pwr (ci : Nat) : (s.advance ci).pwr = s.pwr := by simp [State.advance]

/-! boundary writes cells alone. -/
@[simp] theorem State.boundary_pending (ci : Nat) : (s.boundary ci).pending = s.pending := by unfold State.boundary; split <;> (try split) <;> simp
@[simp] theorem State.boundary_freeIdx (ci : Nat) : (s.boundary ci).freeIdx = s.freeIdx := by unfold State.boundary; split <;> (try split) <;> simp
@[simp] theorem State.boundary_opNext (ci : Nat) : (s.boundary ci).opNext = s.opNext := by unfold State.boundary; split <;> (try split) <;> simp
@[simp] theorem State.boundary_outbox (ci : Nat) : (s.boundary ci).outbox = s.outbox := by unfold State.boundary; split <;> (try split) <;> simp
@[simp] theorem State.boundary_fuses (ci : Nat) : (s.boundary ci).fuses = s.fuses := by unfold State.boundary; split <;> (try split) <;> simp
@[simp] theorem State.boundary_ticks (ci : Nat) : (s.boundary ci).ticks = s.ticks := by unfold State.boundary; split <;> (try split) <;> simp
@[simp] theorem State.boundary_regs (ci : Nat) : (s.boundary ci).regs = s.regs := by unfold State.boundary; split <;> (try split) <;> simp
@[simp] theorem State.boundary_mem (ci : Nat) : (s.boundary ci).mem = s.mem := by unfold State.boundary; split <;> (try split) <;> simp
@[simp] theorem State.boundary_trg (ci : Nat) : (s.boundary ci).trg = s.trg := by unfold State.boundary; split <;> (try split) <;> simp
@[simp] theorem State.boundary_trgCommit (ci : Nat) : (s.boundary ci).trgCommit = s.trgCommit := by unfold State.boundary; split <;> (try split) <;> simp
@[simp] theorem State.boundary_reaches (ci : Nat) : (s.boundary ci).reaches = s.reaches := by unfold State.boundary; split <;> (try split) <;> simp
@[simp] theorem State.boundary_plc (ci : Nat) : (s.boundary ci).plc = s.plc := by unfold State.boundary; split <;> (try split) <;> simp
@[simp] theorem State.boundary_seedBase (ci : Nat) : (s.boundary ci).seedBase = s.seedBase := by unfold State.boundary; split <;> (try split) <;> simp
@[simp] theorem State.boundary_moves (ci : Nat) : (s.boundary ci).moves = s.moves := by unfold State.boundary; split <;> (try split) <;> simp
@[simp] theorem State.boundary_clash (ci : Nat) : (s.boundary ci).clash = s.clash := by unfold State.boundary; split <;> (try split) <;> simp
@[simp] theorem State.boundary_weirs (ci : Nat) : (s.boundary ci).weirs = s.weirs := by unfold State.boundary; split <;> (try split) <;> simp
@[simp] theorem State.boundary_slots (ci : Nat) : (s.boundary ci).slots = s.slots := by unfold State.boundary; split <;> (try split) <;> simp
@[simp] theorem State.boundary_slotAct (ci : Nat) : (s.boundary ci).slotAct = s.slotAct := by unfold State.boundary; split <;> (try split) <;> simp
@[simp] theorem State.boundary_cus (ci : Nat) : (s.boundary ci).cus = s.cus := by unfold State.boundary; split <;> (try split) <;> simp
@[simp] theorem State.boundary_optics (ci : Nat) : (s.boundary ci).optics = s.optics := by unfold State.boundary; split <;> (try split) <;> simp
@[simp] theorem State.boundary_bed (ci : Nat) : (s.boundary ci).bed = s.bed := by unfold State.boundary; split <;> (try split) <;> simp
@[simp] theorem State.boundary_ports (ci : Nat) : (s.boundary ci).ports = s.ports := by unfold State.boundary; split <;> (try split) <;> simp
@[simp] theorem State.boundary_svcs (ci : Nat) : (s.boundary ci).svcs = s.svcs := by unfold State.boundary; split <;> (try split) <;> simp
@[simp] theorem State.boundary_fab (ci : Nat) : (s.boundary ci).fab = s.fab := by unfold State.boundary; split <;> (try split) <;> simp
@[simp] theorem State.boundary_hq (ci : Nat) : (s.boundary ci).hq = s.hq := by unfold State.boundary; split <;> (try split) <;> simp
@[simp] theorem State.boundary_nrg (ci : Nat) : (s.boundary ci).nrg = s.nrg := by unfold State.boundary; split <;> (try split) <;> simp
@[simp] theorem State.boundary_sec (ci : Nat) : (s.boundary ci).sec = s.sec := by unfold State.boundary; split <;> (try split) <;> simp
@[simp] theorem State.boundary_log (ci : Nat) : (s.boundary ci).log = s.log := by unfold State.boundary; split <;> (try split) <;> simp
@[simp] theorem State.boundary_store (ci : Nat) : (s.boundary ci).store = s.store := by unfold State.boundary; split <;> (try split) <;> simp
@[simp] theorem State.boundary_errSeq (ci : Nat) : (s.boundary ci).errSeq = s.errSeq := by unfold State.boundary; split <;> (try split) <;> simp
@[simp] theorem State.boundary_err (ci : Nat) : (s.boundary ci).err = s.err := by unfold State.boundary; split <;> (try split) <;> simp
@[simp] theorem State.boundary_test (ci : Nat) : (s.boundary ci).test = s.test := by unfold State.boundary; split <;> (try split) <;> simp
@[simp] theorem State.boundary_pwr (ci : Nat) : (s.boundary ci).pwr = s.pwr := by unfold State.boundary; split <;> (try split) <;> simp

/-! asyncExc writes cells, err, errSeq, optics, outbox, pwr, store alone. -/
@[simp] theorem State.asyncExc_pending (ci code op : Nat) : (s.asyncExc ci code op).pending = s.pending := by unfold State.asyncExc; dsimp only; (repeat' split) <;> simp
@[simp] theorem State.asyncExc_freeIdx (ci code op : Nat) : (s.asyncExc ci code op).freeIdx = s.freeIdx := by unfold State.asyncExc; dsimp only; (repeat' split) <;> simp
@[simp] theorem State.asyncExc_opNext (ci code op : Nat) : (s.asyncExc ci code op).opNext = s.opNext := by unfold State.asyncExc; dsimp only; (repeat' split) <;> simp
@[simp] theorem State.asyncExc_fuses (ci code op : Nat) : (s.asyncExc ci code op).fuses = s.fuses := by unfold State.asyncExc; dsimp only; (repeat' split) <;> simp
@[simp] theorem State.asyncExc_ticks (ci code op : Nat) : (s.asyncExc ci code op).ticks = s.ticks := by unfold State.asyncExc; dsimp only; (repeat' split) <;> simp
@[simp] theorem State.asyncExc_regs (ci code op : Nat) : (s.asyncExc ci code op).regs = s.regs := by unfold State.asyncExc; dsimp only; (repeat' split) <;> simp
@[simp] theorem State.asyncExc_mem (ci code op : Nat) : (s.asyncExc ci code op).mem = s.mem := by unfold State.asyncExc; dsimp only; (repeat' split) <;> simp
@[simp] theorem State.asyncExc_trg (ci code op : Nat) : (s.asyncExc ci code op).trg = s.trg := by unfold State.asyncExc; dsimp only; (repeat' split) <;> simp
@[simp] theorem State.asyncExc_trgCommit (ci code op : Nat) : (s.asyncExc ci code op).trgCommit = s.trgCommit := by unfold State.asyncExc; dsimp only; (repeat' split) <;> simp
@[simp] theorem State.asyncExc_reaches (ci code op : Nat) : (s.asyncExc ci code op).reaches = s.reaches := by unfold State.asyncExc; dsimp only; (repeat' split) <;> simp
@[simp] theorem State.asyncExc_plc (ci code op : Nat) : (s.asyncExc ci code op).plc = s.plc := by unfold State.asyncExc; dsimp only; (repeat' split) <;> simp
@[simp] theorem State.asyncExc_seedBase (ci code op : Nat) : (s.asyncExc ci code op).seedBase = s.seedBase := by unfold State.asyncExc; dsimp only; (repeat' split) <;> simp
@[simp] theorem State.asyncExc_moves (ci code op : Nat) : (s.asyncExc ci code op).moves = s.moves := by unfold State.asyncExc; dsimp only; (repeat' split) <;> simp
@[simp] theorem State.asyncExc_clash (ci code op : Nat) : (s.asyncExc ci code op).clash = s.clash := by unfold State.asyncExc; dsimp only; (repeat' split) <;> simp
@[simp] theorem State.asyncExc_weirs (ci code op : Nat) : (s.asyncExc ci code op).weirs = s.weirs := by unfold State.asyncExc; dsimp only; (repeat' split) <;> simp
@[simp] theorem State.asyncExc_slots (ci code op : Nat) : (s.asyncExc ci code op).slots = s.slots := by unfold State.asyncExc; dsimp only; (repeat' split) <;> simp
@[simp] theorem State.asyncExc_slotAct (ci code op : Nat) : (s.asyncExc ci code op).slotAct = s.slotAct := by unfold State.asyncExc; dsimp only; (repeat' split) <;> simp
@[simp] theorem State.asyncExc_cus (ci code op : Nat) : (s.asyncExc ci code op).cus = s.cus := by unfold State.asyncExc; dsimp only; (repeat' split) <;> simp
@[simp] theorem State.asyncExc_bed (ci code op : Nat) : (s.asyncExc ci code op).bed = s.bed := by unfold State.asyncExc; dsimp only; (repeat' split) <;> simp
@[simp] theorem State.asyncExc_ports (ci code op : Nat) : (s.asyncExc ci code op).ports = s.ports := by unfold State.asyncExc; dsimp only; (repeat' split) <;> simp
@[simp] theorem State.asyncExc_svcs (ci code op : Nat) : (s.asyncExc ci code op).svcs = s.svcs := by unfold State.asyncExc; dsimp only; (repeat' split) <;> simp
@[simp] theorem State.asyncExc_fab (ci code op : Nat) : (s.asyncExc ci code op).fab = s.fab := by unfold State.asyncExc; dsimp only; (repeat' split) <;> simp
@[simp] theorem State.asyncExc_hq (ci code op : Nat) : (s.asyncExc ci code op).hq = s.hq := by unfold State.asyncExc; dsimp only; (repeat' split) <;> simp
@[simp] theorem State.asyncExc_nrg (ci code op : Nat) : (s.asyncExc ci code op).nrg = s.nrg := by unfold State.asyncExc; dsimp only; (repeat' split) <;> simp
@[simp] theorem State.asyncExc_sec (ci code op : Nat) : (s.asyncExc ci code op).sec = s.sec := by unfold State.asyncExc; dsimp only; (repeat' split) <;> simp
@[simp] theorem State.asyncExc_log (ci code op : Nat) : (s.asyncExc ci code op).log = s.log := by unfold State.asyncExc; dsimp only; (repeat' split) <;> simp
@[simp] theorem State.asyncExc_test (ci code op : Nat) : (s.asyncExc ci code op).test = s.test := by unfold State.asyncExc; dsimp only; (repeat' split) <;> simp

/-! unblock writes cells alone. -/
@[simp] theorem State.unblock_pending (ci : Nat) : (s.unblock ci).pending = s.pending := by simp [State.unblock]
@[simp] theorem State.unblock_freeIdx (ci : Nat) : (s.unblock ci).freeIdx = s.freeIdx := by simp [State.unblock]
@[simp] theorem State.unblock_opNext (ci : Nat) : (s.unblock ci).opNext = s.opNext := by simp [State.unblock]
@[simp] theorem State.unblock_outbox (ci : Nat) : (s.unblock ci).outbox = s.outbox := by simp [State.unblock]
@[simp] theorem State.unblock_fuses (ci : Nat) : (s.unblock ci).fuses = s.fuses := by simp [State.unblock]
@[simp] theorem State.unblock_ticks (ci : Nat) : (s.unblock ci).ticks = s.ticks := by simp [State.unblock]
@[simp] theorem State.unblock_regs (ci : Nat) : (s.unblock ci).regs = s.regs := by simp [State.unblock]
@[simp] theorem State.unblock_mem (ci : Nat) : (s.unblock ci).mem = s.mem := by simp [State.unblock]
@[simp] theorem State.unblock_trg (ci : Nat) : (s.unblock ci).trg = s.trg := by simp [State.unblock]
@[simp] theorem State.unblock_trgCommit (ci : Nat) : (s.unblock ci).trgCommit = s.trgCommit := by simp [State.unblock]
@[simp] theorem State.unblock_reaches (ci : Nat) : (s.unblock ci).reaches = s.reaches := by simp [State.unblock]
@[simp] theorem State.unblock_plc (ci : Nat) : (s.unblock ci).plc = s.plc := by simp [State.unblock]
@[simp] theorem State.unblock_seedBase (ci : Nat) : (s.unblock ci).seedBase = s.seedBase := by simp [State.unblock]
@[simp] theorem State.unblock_moves (ci : Nat) : (s.unblock ci).moves = s.moves := by simp [State.unblock]
@[simp] theorem State.unblock_clash (ci : Nat) : (s.unblock ci).clash = s.clash := by simp [State.unblock]
@[simp] theorem State.unblock_weirs (ci : Nat) : (s.unblock ci).weirs = s.weirs := by simp [State.unblock]
@[simp] theorem State.unblock_slots (ci : Nat) : (s.unblock ci).slots = s.slots := by simp [State.unblock]
@[simp] theorem State.unblock_slotAct (ci : Nat) : (s.unblock ci).slotAct = s.slotAct := by simp [State.unblock]
@[simp] theorem State.unblock_cus (ci : Nat) : (s.unblock ci).cus = s.cus := by simp [State.unblock]
@[simp] theorem State.unblock_optics (ci : Nat) : (s.unblock ci).optics = s.optics := by simp [State.unblock]
@[simp] theorem State.unblock_bed (ci : Nat) : (s.unblock ci).bed = s.bed := by simp [State.unblock]
@[simp] theorem State.unblock_ports (ci : Nat) : (s.unblock ci).ports = s.ports := by simp [State.unblock]
@[simp] theorem State.unblock_svcs (ci : Nat) : (s.unblock ci).svcs = s.svcs := by simp [State.unblock]
@[simp] theorem State.unblock_fab (ci : Nat) : (s.unblock ci).fab = s.fab := by simp [State.unblock]
@[simp] theorem State.unblock_hq (ci : Nat) : (s.unblock ci).hq = s.hq := by simp [State.unblock]
@[simp] theorem State.unblock_nrg (ci : Nat) : (s.unblock ci).nrg = s.nrg := by simp [State.unblock]
@[simp] theorem State.unblock_sec (ci : Nat) : (s.unblock ci).sec = s.sec := by simp [State.unblock]
@[simp] theorem State.unblock_log (ci : Nat) : (s.unblock ci).log = s.log := by simp [State.unblock]
@[simp] theorem State.unblock_store (ci : Nat) : (s.unblock ci).store = s.store := by simp [State.unblock]
@[simp] theorem State.unblock_errSeq (ci : Nat) : (s.unblock ci).errSeq = s.errSeq := by simp [State.unblock]
@[simp] theorem State.unblock_err (ci : Nat) : (s.unblock ci).err = s.err := by simp [State.unblock]
@[simp] theorem State.unblock_test (ci : Nat) : (s.unblock ci).test = s.test := by simp [State.unblock]
@[simp] theorem State.unblock_pwr (ci : Nat) : (s.unblock ci).pwr = s.pwr := by simp [State.unblock]

/-! setTok writes mem, reaches alone. -/
@[simp] theorem State.setTok_pending (r i : Nat) (v : Word) : (s.setTok r i v).pending = s.pending := by unfold State.setTok; split <;> simp
@[simp] theorem State.setTok_freeIdx (r i : Nat) (v : Word) : (s.setTok r i v).freeIdx = s.freeIdx := by unfold State.setTok; split <;> simp
@[simp] theorem State.setTok_opNext (r i : Nat) (v : Word) : (s.setTok r i v).opNext = s.opNext := by unfold State.setTok; split <;> simp
@[simp] theorem State.setTok_outbox (r i : Nat) (v : Word) : (s.setTok r i v).outbox = s.outbox := by unfold State.setTok; split <;> simp
@[simp] theorem State.setTok_fuses (r i : Nat) (v : Word) : (s.setTok r i v).fuses = s.fuses := by unfold State.setTok; split <;> simp
@[simp] theorem State.setTok_ticks (r i : Nat) (v : Word) : (s.setTok r i v).ticks = s.ticks := by unfold State.setTok; split <;> simp
@[simp] theorem State.setTok_regs (r i : Nat) (v : Word) : (s.setTok r i v).regs = s.regs := by unfold State.setTok; split <;> simp
@[simp] theorem State.setTok_trg (r i : Nat) (v : Word) : (s.setTok r i v).trg = s.trg := by unfold State.setTok; split <;> simp
@[simp] theorem State.setTok_trgCommit (r i : Nat) (v : Word) : (s.setTok r i v).trgCommit = s.trgCommit := by unfold State.setTok; split <;> simp
@[simp] theorem State.setTok_plc (r i : Nat) (v : Word) : (s.setTok r i v).plc = s.plc := by unfold State.setTok; split <;> simp
@[simp] theorem State.setTok_cells (r i : Nat) (v : Word) : (s.setTok r i v).cells = s.cells := by unfold State.setTok; split <;> simp
@[simp] theorem State.setTok_seedBase (r i : Nat) (v : Word) : (s.setTok r i v).seedBase = s.seedBase := by unfold State.setTok; split <;> simp
@[simp] theorem State.setTok_moves (r i : Nat) (v : Word) : (s.setTok r i v).moves = s.moves := by unfold State.setTok; split <;> simp
@[simp] theorem State.setTok_clash (r i : Nat) (v : Word) : (s.setTok r i v).clash = s.clash := by unfold State.setTok; split <;> simp
@[simp] theorem State.setTok_weirs (r i : Nat) (v : Word) : (s.setTok r i v).weirs = s.weirs := by unfold State.setTok; split <;> simp
@[simp] theorem State.setTok_slots (r i : Nat) (v : Word) : (s.setTok r i v).slots = s.slots := by unfold State.setTok; split <;> simp
@[simp] theorem State.setTok_slotAct (r i : Nat) (v : Word) : (s.setTok r i v).slotAct = s.slotAct := by unfold State.setTok; split <;> simp
@[simp] theorem State.setTok_cus (r i : Nat) (v : Word) : (s.setTok r i v).cus = s.cus := by unfold State.setTok; split <;> simp
@[simp] theorem State.setTok_optics (r i : Nat) (v : Word) : (s.setTok r i v).optics = s.optics := by unfold State.setTok; split <;> simp
@[simp] theorem State.setTok_bed (r i : Nat) (v : Word) : (s.setTok r i v).bed = s.bed := by unfold State.setTok; split <;> simp
@[simp] theorem State.setTok_ports (r i : Nat) (v : Word) : (s.setTok r i v).ports = s.ports := by unfold State.setTok; split <;> simp
@[simp] theorem State.setTok_svcs (r i : Nat) (v : Word) : (s.setTok r i v).svcs = s.svcs := by unfold State.setTok; split <;> simp
@[simp] theorem State.setTok_fab (r i : Nat) (v : Word) : (s.setTok r i v).fab = s.fab := by unfold State.setTok; split <;> simp
@[simp] theorem State.setTok_hq (r i : Nat) (v : Word) : (s.setTok r i v).hq = s.hq := by unfold State.setTok; split <;> simp
@[simp] theorem State.setTok_nrg (r i : Nat) (v : Word) : (s.setTok r i v).nrg = s.nrg := by unfold State.setTok; split <;> simp
@[simp] theorem State.setTok_sec (r i : Nat) (v : Word) : (s.setTok r i v).sec = s.sec := by unfold State.setTok; split <;> simp
@[simp] theorem State.setTok_log (r i : Nat) (v : Word) : (s.setTok r i v).log = s.log := by unfold State.setTok; split <;> simp
@[simp] theorem State.setTok_store (r i : Nat) (v : Word) : (s.setTok r i v).store = s.store := by unfold State.setTok; split <;> simp
@[simp] theorem State.setTok_errSeq (r i : Nat) (v : Word) : (s.setTok r i v).errSeq = s.errSeq := by unfold State.setTok; split <;> simp
@[simp] theorem State.setTok_err (r i : Nat) (v : Word) : (s.setTok r i v).err = s.err := by unfold State.setTok; split <;> simp
@[simp] theorem State.setTok_test (r i : Nat) (v : Word) : (s.setTok r i v).test = s.test := by unfold State.setTok; split <;> simp
@[simp] theorem State.setTok_pwr (r i : Nat) (v : Word) : (s.setTok r i v).pwr = s.pwr := by unfold State.setTok; split <;> simp

/-! setPool writes mem, reaches alone. -/
@[simp] theorem State.setPool_pending (r p : Nat) (v : Word) : (s.setPool r p v).pending = s.pending := by unfold State.setPool; split <;> simp
@[simp] theorem State.setPool_freeIdx (r p : Nat) (v : Word) : (s.setPool r p v).freeIdx = s.freeIdx := by unfold State.setPool; split <;> simp
@[simp] theorem State.setPool_opNext (r p : Nat) (v : Word) : (s.setPool r p v).opNext = s.opNext := by unfold State.setPool; split <;> simp
@[simp] theorem State.setPool_outbox (r p : Nat) (v : Word) : (s.setPool r p v).outbox = s.outbox := by unfold State.setPool; split <;> simp
@[simp] theorem State.setPool_fuses (r p : Nat) (v : Word) : (s.setPool r p v).fuses = s.fuses := by unfold State.setPool; split <;> simp
@[simp] theorem State.setPool_ticks (r p : Nat) (v : Word) : (s.setPool r p v).ticks = s.ticks := by unfold State.setPool; split <;> simp
@[simp] theorem State.setPool_regs (r p : Nat) (v : Word) : (s.setPool r p v).regs = s.regs := by unfold State.setPool; split <;> simp
@[simp] theorem State.setPool_trg (r p : Nat) (v : Word) : (s.setPool r p v).trg = s.trg := by unfold State.setPool; split <;> simp
@[simp] theorem State.setPool_trgCommit (r p : Nat) (v : Word) : (s.setPool r p v).trgCommit = s.trgCommit := by unfold State.setPool; split <;> simp
@[simp] theorem State.setPool_plc (r p : Nat) (v : Word) : (s.setPool r p v).plc = s.plc := by unfold State.setPool; split <;> simp
@[simp] theorem State.setPool_cells (r p : Nat) (v : Word) : (s.setPool r p v).cells = s.cells := by unfold State.setPool; split <;> simp
@[simp] theorem State.setPool_seedBase (r p : Nat) (v : Word) : (s.setPool r p v).seedBase = s.seedBase := by unfold State.setPool; split <;> simp
@[simp] theorem State.setPool_moves (r p : Nat) (v : Word) : (s.setPool r p v).moves = s.moves := by unfold State.setPool; split <;> simp
@[simp] theorem State.setPool_clash (r p : Nat) (v : Word) : (s.setPool r p v).clash = s.clash := by unfold State.setPool; split <;> simp
@[simp] theorem State.setPool_weirs (r p : Nat) (v : Word) : (s.setPool r p v).weirs = s.weirs := by unfold State.setPool; split <;> simp
@[simp] theorem State.setPool_slots (r p : Nat) (v : Word) : (s.setPool r p v).slots = s.slots := by unfold State.setPool; split <;> simp
@[simp] theorem State.setPool_slotAct (r p : Nat) (v : Word) : (s.setPool r p v).slotAct = s.slotAct := by unfold State.setPool; split <;> simp
@[simp] theorem State.setPool_cus (r p : Nat) (v : Word) : (s.setPool r p v).cus = s.cus := by unfold State.setPool; split <;> simp
@[simp] theorem State.setPool_optics (r p : Nat) (v : Word) : (s.setPool r p v).optics = s.optics := by unfold State.setPool; split <;> simp
@[simp] theorem State.setPool_bed (r p : Nat) (v : Word) : (s.setPool r p v).bed = s.bed := by unfold State.setPool; split <;> simp
@[simp] theorem State.setPool_ports (r p : Nat) (v : Word) : (s.setPool r p v).ports = s.ports := by unfold State.setPool; split <;> simp
@[simp] theorem State.setPool_svcs (r p : Nat) (v : Word) : (s.setPool r p v).svcs = s.svcs := by unfold State.setPool; split <;> simp
@[simp] theorem State.setPool_fab (r p : Nat) (v : Word) : (s.setPool r p v).fab = s.fab := by unfold State.setPool; split <;> simp
@[simp] theorem State.setPool_hq (r p : Nat) (v : Word) : (s.setPool r p v).hq = s.hq := by unfold State.setPool; split <;> simp
@[simp] theorem State.setPool_nrg (r p : Nat) (v : Word) : (s.setPool r p v).nrg = s.nrg := by unfold State.setPool; split <;> simp
@[simp] theorem State.setPool_sec (r p : Nat) (v : Word) : (s.setPool r p v).sec = s.sec := by unfold State.setPool; split <;> simp
@[simp] theorem State.setPool_log (r p : Nat) (v : Word) : (s.setPool r p v).log = s.log := by unfold State.setPool; split <;> simp
@[simp] theorem State.setPool_store (r p : Nat) (v : Word) : (s.setPool r p v).store = s.store := by unfold State.setPool; split <;> simp
@[simp] theorem State.setPool_errSeq (r p : Nat) (v : Word) : (s.setPool r p v).errSeq = s.errSeq := by unfold State.setPool; split <;> simp
@[simp] theorem State.setPool_err (r p : Nat) (v : Word) : (s.setPool r p v).err = s.err := by unfold State.setPool; split <;> simp
@[simp] theorem State.setPool_test (r p : Nat) (v : Word) : (s.setPool r p v).test = s.test := by unfold State.setPool; split <;> simp
@[simp] theorem State.setPool_pwr (r p : Nat) (v : Word) : (s.setPool r p v).pwr = s.pwr := by unfold State.setPool; split <;> simp

/-! tokAdd writes mem, reaches alone. -/
@[simp] theorem State.tokAdd_pending (r i n : Nat) : (s.tokAdd r i n).pending = s.pending := by simp [State.tokAdd]
@[simp] theorem State.tokAdd_freeIdx (r i n : Nat) : (s.tokAdd r i n).freeIdx = s.freeIdx := by simp [State.tokAdd]
@[simp] theorem State.tokAdd_opNext (r i n : Nat) : (s.tokAdd r i n).opNext = s.opNext := by simp [State.tokAdd]
@[simp] theorem State.tokAdd_outbox (r i n : Nat) : (s.tokAdd r i n).outbox = s.outbox := by simp [State.tokAdd]
@[simp] theorem State.tokAdd_fuses (r i n : Nat) : (s.tokAdd r i n).fuses = s.fuses := by simp [State.tokAdd]
@[simp] theorem State.tokAdd_ticks (r i n : Nat) : (s.tokAdd r i n).ticks = s.ticks := by simp [State.tokAdd]
@[simp] theorem State.tokAdd_regs (r i n : Nat) : (s.tokAdd r i n).regs = s.regs := by simp [State.tokAdd]
@[simp] theorem State.tokAdd_trg (r i n : Nat) : (s.tokAdd r i n).trg = s.trg := by simp [State.tokAdd]
@[simp] theorem State.tokAdd_trgCommit (r i n : Nat) : (s.tokAdd r i n).trgCommit = s.trgCommit := by simp [State.tokAdd]
@[simp] theorem State.tokAdd_plc (r i n : Nat) : (s.tokAdd r i n).plc = s.plc := by simp [State.tokAdd]
@[simp] theorem State.tokAdd_cells (r i n : Nat) : (s.tokAdd r i n).cells = s.cells := by simp [State.tokAdd]
@[simp] theorem State.tokAdd_seedBase (r i n : Nat) : (s.tokAdd r i n).seedBase = s.seedBase := by simp [State.tokAdd]
@[simp] theorem State.tokAdd_moves (r i n : Nat) : (s.tokAdd r i n).moves = s.moves := by simp [State.tokAdd]
@[simp] theorem State.tokAdd_clash (r i n : Nat) : (s.tokAdd r i n).clash = s.clash := by simp [State.tokAdd]
@[simp] theorem State.tokAdd_weirs (r i n : Nat) : (s.tokAdd r i n).weirs = s.weirs := by simp [State.tokAdd]
@[simp] theorem State.tokAdd_slots (r i n : Nat) : (s.tokAdd r i n).slots = s.slots := by simp [State.tokAdd]
@[simp] theorem State.tokAdd_slotAct (r i n : Nat) : (s.tokAdd r i n).slotAct = s.slotAct := by simp [State.tokAdd]
@[simp] theorem State.tokAdd_cus (r i n : Nat) : (s.tokAdd r i n).cus = s.cus := by simp [State.tokAdd]
@[simp] theorem State.tokAdd_optics (r i n : Nat) : (s.tokAdd r i n).optics = s.optics := by simp [State.tokAdd]
@[simp] theorem State.tokAdd_bed (r i n : Nat) : (s.tokAdd r i n).bed = s.bed := by simp [State.tokAdd]
@[simp] theorem State.tokAdd_ports (r i n : Nat) : (s.tokAdd r i n).ports = s.ports := by simp [State.tokAdd]
@[simp] theorem State.tokAdd_svcs (r i n : Nat) : (s.tokAdd r i n).svcs = s.svcs := by simp [State.tokAdd]
@[simp] theorem State.tokAdd_fab (r i n : Nat) : (s.tokAdd r i n).fab = s.fab := by simp [State.tokAdd]
@[simp] theorem State.tokAdd_hq (r i n : Nat) : (s.tokAdd r i n).hq = s.hq := by simp [State.tokAdd]
@[simp] theorem State.tokAdd_nrg (r i n : Nat) : (s.tokAdd r i n).nrg = s.nrg := by simp [State.tokAdd]
@[simp] theorem State.tokAdd_sec (r i n : Nat) : (s.tokAdd r i n).sec = s.sec := by simp [State.tokAdd]
@[simp] theorem State.tokAdd_log (r i n : Nat) : (s.tokAdd r i n).log = s.log := by simp [State.tokAdd]
@[simp] theorem State.tokAdd_store (r i n : Nat) : (s.tokAdd r i n).store = s.store := by simp [State.tokAdd]
@[simp] theorem State.tokAdd_errSeq (r i n : Nat) : (s.tokAdd r i n).errSeq = s.errSeq := by simp [State.tokAdd]
@[simp] theorem State.tokAdd_err (r i n : Nat) : (s.tokAdd r i n).err = s.err := by simp [State.tokAdd]
@[simp] theorem State.tokAdd_test (r i n : Nat) : (s.tokAdd r i n).test = s.test := by simp [State.tokAdd]
@[simp] theorem State.tokAdd_pwr (r i n : Nat) : (s.tokAdd r i n).pwr = s.pwr := by simp [State.tokAdd]

/-! giveLocal writes mem, reaches alone. -/
@[simp] theorem State.giveLocal_pending (r p n : Nat) : (s.giveLocal r p n).pending = s.pending := by simp [State.giveLocal]
@[simp] theorem State.giveLocal_freeIdx (r p n : Nat) : (s.giveLocal r p n).freeIdx = s.freeIdx := by simp [State.giveLocal]
@[simp] theorem State.giveLocal_opNext (r p n : Nat) : (s.giveLocal r p n).opNext = s.opNext := by simp [State.giveLocal]
@[simp] theorem State.giveLocal_outbox (r p n : Nat) : (s.giveLocal r p n).outbox = s.outbox := by simp [State.giveLocal]
@[simp] theorem State.giveLocal_fuses (r p n : Nat) : (s.giveLocal r p n).fuses = s.fuses := by simp [State.giveLocal]
@[simp] theorem State.giveLocal_ticks (r p n : Nat) : (s.giveLocal r p n).ticks = s.ticks := by simp [State.giveLocal]
@[simp] theorem State.giveLocal_regs (r p n : Nat) : (s.giveLocal r p n).regs = s.regs := by simp [State.giveLocal]
@[simp] theorem State.giveLocal_trg (r p n : Nat) : (s.giveLocal r p n).trg = s.trg := by simp [State.giveLocal]
@[simp] theorem State.giveLocal_trgCommit (r p n : Nat) : (s.giveLocal r p n).trgCommit = s.trgCommit := by simp [State.giveLocal]
@[simp] theorem State.giveLocal_plc (r p n : Nat) : (s.giveLocal r p n).plc = s.plc := by simp [State.giveLocal]
@[simp] theorem State.giveLocal_cells (r p n : Nat) : (s.giveLocal r p n).cells = s.cells := by simp [State.giveLocal]
@[simp] theorem State.giveLocal_seedBase (r p n : Nat) : (s.giveLocal r p n).seedBase = s.seedBase := by simp [State.giveLocal]
@[simp] theorem State.giveLocal_moves (r p n : Nat) : (s.giveLocal r p n).moves = s.moves := by simp [State.giveLocal]
@[simp] theorem State.giveLocal_clash (r p n : Nat) : (s.giveLocal r p n).clash = s.clash := by simp [State.giveLocal]
@[simp] theorem State.giveLocal_weirs (r p n : Nat) : (s.giveLocal r p n).weirs = s.weirs := by simp [State.giveLocal]
@[simp] theorem State.giveLocal_slots (r p n : Nat) : (s.giveLocal r p n).slots = s.slots := by simp [State.giveLocal]
@[simp] theorem State.giveLocal_slotAct (r p n : Nat) : (s.giveLocal r p n).slotAct = s.slotAct := by simp [State.giveLocal]
@[simp] theorem State.giveLocal_cus (r p n : Nat) : (s.giveLocal r p n).cus = s.cus := by simp [State.giveLocal]
@[simp] theorem State.giveLocal_optics (r p n : Nat) : (s.giveLocal r p n).optics = s.optics := by simp [State.giveLocal]
@[simp] theorem State.giveLocal_bed (r p n : Nat) : (s.giveLocal r p n).bed = s.bed := by simp [State.giveLocal]
@[simp] theorem State.giveLocal_ports (r p n : Nat) : (s.giveLocal r p n).ports = s.ports := by simp [State.giveLocal]
@[simp] theorem State.giveLocal_svcs (r p n : Nat) : (s.giveLocal r p n).svcs = s.svcs := by simp [State.giveLocal]
@[simp] theorem State.giveLocal_fab (r p n : Nat) : (s.giveLocal r p n).fab = s.fab := by simp [State.giveLocal]
@[simp] theorem State.giveLocal_hq (r p n : Nat) : (s.giveLocal r p n).hq = s.hq := by simp [State.giveLocal]
@[simp] theorem State.giveLocal_nrg (r p n : Nat) : (s.giveLocal r p n).nrg = s.nrg := by simp [State.giveLocal]
@[simp] theorem State.giveLocal_sec (r p n : Nat) : (s.giveLocal r p n).sec = s.sec := by simp [State.giveLocal]
@[simp] theorem State.giveLocal_log (r p n : Nat) : (s.giveLocal r p n).log = s.log := by simp [State.giveLocal]
@[simp] theorem State.giveLocal_store (r p n : Nat) : (s.giveLocal r p n).store = s.store := by simp [State.giveLocal]
@[simp] theorem State.giveLocal_errSeq (r p n : Nat) : (s.giveLocal r p n).errSeq = s.errSeq := by simp [State.giveLocal]
@[simp] theorem State.giveLocal_err (r p n : Nat) : (s.giveLocal r p n).err = s.err := by simp [State.giveLocal]
@[simp] theorem State.giveLocal_test (r p n : Nat) : (s.giveLocal r p n).test = s.test := by simp [State.giveLocal]
@[simp] theorem State.giveLocal_pwr (r p n : Nat) : (s.giveLocal r p n).pwr = s.pwr := by simp [State.giveLocal]

/-! discard writes regs alone. -/
@[simp] theorem State.discard_pending : s.discard.pending = s.pending := by simp [State.discard]
@[simp] theorem State.discard_freeIdx : s.discard.freeIdx = s.freeIdx := by simp [State.discard]
@[simp] theorem State.discard_opNext : s.discard.opNext = s.opNext := by simp [State.discard]
@[simp] theorem State.discard_outbox : s.discard.outbox = s.outbox := by simp [State.discard]
@[simp] theorem State.discard_fuses : s.discard.fuses = s.fuses := by simp [State.discard]
@[simp] theorem State.discard_ticks : s.discard.ticks = s.ticks := by simp [State.discard]
@[simp] theorem State.discard_mem : s.discard.mem = s.mem := by simp [State.discard]
@[simp] theorem State.discard_trg : s.discard.trg = s.trg := by simp [State.discard]
@[simp] theorem State.discard_trgCommit : s.discard.trgCommit = s.trgCommit := by simp [State.discard]
@[simp] theorem State.discard_reaches : s.discard.reaches = s.reaches := by simp [State.discard]
@[simp] theorem State.discard_plc : s.discard.plc = s.plc := by simp [State.discard]
@[simp] theorem State.discard_cells : s.discard.cells = s.cells := by simp [State.discard]
@[simp] theorem State.discard_seedBase : s.discard.seedBase = s.seedBase := by simp [State.discard]
@[simp] theorem State.discard_moves : s.discard.moves = s.moves := by simp [State.discard]
@[simp] theorem State.discard_clash : s.discard.clash = s.clash := by simp [State.discard]
@[simp] theorem State.discard_weirs : s.discard.weirs = s.weirs := by simp [State.discard]
@[simp] theorem State.discard_slots : s.discard.slots = s.slots := by simp [State.discard]
@[simp] theorem State.discard_slotAct : s.discard.slotAct = s.slotAct := by simp [State.discard]
@[simp] theorem State.discard_cus : s.discard.cus = s.cus := by simp [State.discard]
@[simp] theorem State.discard_optics : s.discard.optics = s.optics := by simp [State.discard]
@[simp] theorem State.discard_bed : s.discard.bed = s.bed := by simp [State.discard]
@[simp] theorem State.discard_ports : s.discard.ports = s.ports := by simp [State.discard]
@[simp] theorem State.discard_svcs : s.discard.svcs = s.svcs := by simp [State.discard]
@[simp] theorem State.discard_fab : s.discard.fab = s.fab := by simp [State.discard]
@[simp] theorem State.discard_hq : s.discard.hq = s.hq := by simp [State.discard]
@[simp] theorem State.discard_nrg : s.discard.nrg = s.nrg := by simp [State.discard]
@[simp] theorem State.discard_sec : s.discard.sec = s.sec := by simp [State.discard]
@[simp] theorem State.discard_log : s.discard.log = s.log := by simp [State.discard]
@[simp] theorem State.discard_store : s.discard.store = s.store := by simp [State.discard]
@[simp] theorem State.discard_errSeq : s.discard.errSeq = s.errSeq := by simp [State.discard]
@[simp] theorem State.discard_err : s.discard.err = s.err := by simp [State.discard]
@[simp] theorem State.discard_test : s.discard.test = s.test := by simp [State.discard]
@[simp] theorem State.discard_pwr : s.discard.pwr = s.pwr := by simp [State.discard]

/-! overflowAt writes cells alone. -/
@[simp] theorem State.overflowAt_pending (r : Nat) : (s.overflowAt r).pending = s.pending := by unfold State.overflowAt; split <;> simp
@[simp] theorem State.overflowAt_freeIdx (r : Nat) : (s.overflowAt r).freeIdx = s.freeIdx := by unfold State.overflowAt; split <;> simp
@[simp] theorem State.overflowAt_opNext (r : Nat) : (s.overflowAt r).opNext = s.opNext := by unfold State.overflowAt; split <;> simp
@[simp] theorem State.overflowAt_outbox (r : Nat) : (s.overflowAt r).outbox = s.outbox := by unfold State.overflowAt; split <;> simp
@[simp] theorem State.overflowAt_fuses (r : Nat) : (s.overflowAt r).fuses = s.fuses := by unfold State.overflowAt; split <;> simp
@[simp] theorem State.overflowAt_ticks (r : Nat) : (s.overflowAt r).ticks = s.ticks := by unfold State.overflowAt; split <;> simp
@[simp] theorem State.overflowAt_regs (r : Nat) : (s.overflowAt r).regs = s.regs := by unfold State.overflowAt; split <;> simp
@[simp] theorem State.overflowAt_mem (r : Nat) : (s.overflowAt r).mem = s.mem := by unfold State.overflowAt; split <;> simp
@[simp] theorem State.overflowAt_trg (r : Nat) : (s.overflowAt r).trg = s.trg := by unfold State.overflowAt; split <;> simp
@[simp] theorem State.overflowAt_trgCommit (r : Nat) : (s.overflowAt r).trgCommit = s.trgCommit := by unfold State.overflowAt; split <;> simp
@[simp] theorem State.overflowAt_reaches (r : Nat) : (s.overflowAt r).reaches = s.reaches := by unfold State.overflowAt; split <;> simp
@[simp] theorem State.overflowAt_plc (r : Nat) : (s.overflowAt r).plc = s.plc := by unfold State.overflowAt; split <;> simp
@[simp] theorem State.overflowAt_seedBase (r : Nat) : (s.overflowAt r).seedBase = s.seedBase := by unfold State.overflowAt; split <;> simp
@[simp] theorem State.overflowAt_moves (r : Nat) : (s.overflowAt r).moves = s.moves := by unfold State.overflowAt; split <;> simp
@[simp] theorem State.overflowAt_clash (r : Nat) : (s.overflowAt r).clash = s.clash := by unfold State.overflowAt; split <;> simp
@[simp] theorem State.overflowAt_weirs (r : Nat) : (s.overflowAt r).weirs = s.weirs := by unfold State.overflowAt; split <;> simp
@[simp] theorem State.overflowAt_slots (r : Nat) : (s.overflowAt r).slots = s.slots := by unfold State.overflowAt; split <;> simp
@[simp] theorem State.overflowAt_slotAct (r : Nat) : (s.overflowAt r).slotAct = s.slotAct := by unfold State.overflowAt; split <;> simp
@[simp] theorem State.overflowAt_cus (r : Nat) : (s.overflowAt r).cus = s.cus := by unfold State.overflowAt; split <;> simp
@[simp] theorem State.overflowAt_optics (r : Nat) : (s.overflowAt r).optics = s.optics := by unfold State.overflowAt; split <;> simp
@[simp] theorem State.overflowAt_bed (r : Nat) : (s.overflowAt r).bed = s.bed := by unfold State.overflowAt; split <;> simp
@[simp] theorem State.overflowAt_ports (r : Nat) : (s.overflowAt r).ports = s.ports := by unfold State.overflowAt; split <;> simp
@[simp] theorem State.overflowAt_svcs (r : Nat) : (s.overflowAt r).svcs = s.svcs := by unfold State.overflowAt; split <;> simp
@[simp] theorem State.overflowAt_fab (r : Nat) : (s.overflowAt r).fab = s.fab := by unfold State.overflowAt; split <;> simp
@[simp] theorem State.overflowAt_hq (r : Nat) : (s.overflowAt r).hq = s.hq := by unfold State.overflowAt; split <;> simp
@[simp] theorem State.overflowAt_nrg (r : Nat) : (s.overflowAt r).nrg = s.nrg := by unfold State.overflowAt; split <;> simp
@[simp] theorem State.overflowAt_sec (r : Nat) : (s.overflowAt r).sec = s.sec := by unfold State.overflowAt; split <;> simp
@[simp] theorem State.overflowAt_log (r : Nat) : (s.overflowAt r).log = s.log := by unfold State.overflowAt; split <;> simp
@[simp] theorem State.overflowAt_store (r : Nat) : (s.overflowAt r).store = s.store := by unfold State.overflowAt; split <;> simp
@[simp] theorem State.overflowAt_errSeq (r : Nat) : (s.overflowAt r).errSeq = s.errSeq := by unfold State.overflowAt; split <;> simp
@[simp] theorem State.overflowAt_err (r : Nat) : (s.overflowAt r).err = s.err := by unfold State.overflowAt; split <;> simp
@[simp] theorem State.overflowAt_test (r : Nat) : (s.overflowAt r).test = s.test := by unfold State.overflowAt; split <;> simp
@[simp] theorem State.overflowAt_pwr (r : Nat) : (s.overflowAt r).pwr = s.pwr := by unfold State.overflowAt; split <;> simp

/-! signalLocal writes cells, err, errSeq, mem, optics, outbox, pwr, reaches, store alone. -/
@[simp] theorem State.signalLocal_pending (r i n : Nat) : (s.signalLocal r i n).1.pending = s.pending := by unfold State.signalLocal; split <;> simp
@[simp] theorem State.signalLocal_freeIdx (r i n : Nat) : (s.signalLocal r i n).1.freeIdx = s.freeIdx := by unfold State.signalLocal; split <;> simp
@[simp] theorem State.signalLocal_opNext (r i n : Nat) : (s.signalLocal r i n).1.opNext = s.opNext := by unfold State.signalLocal; split <;> simp
@[simp] theorem State.signalLocal_fuses (r i n : Nat) : (s.signalLocal r i n).1.fuses = s.fuses := by unfold State.signalLocal; split <;> simp
@[simp] theorem State.signalLocal_ticks (r i n : Nat) : (s.signalLocal r i n).1.ticks = s.ticks := by unfold State.signalLocal; split <;> simp
@[simp] theorem State.signalLocal_regs (r i n : Nat) : (s.signalLocal r i n).1.regs = s.regs := by unfold State.signalLocal; split <;> simp
@[simp] theorem State.signalLocal_trg (r i n : Nat) : (s.signalLocal r i n).1.trg = s.trg := by unfold State.signalLocal; split <;> simp
@[simp] theorem State.signalLocal_trgCommit (r i n : Nat) : (s.signalLocal r i n).1.trgCommit = s.trgCommit := by unfold State.signalLocal; split <;> simp
@[simp] theorem State.signalLocal_plc (r i n : Nat) : (s.signalLocal r i n).1.plc = s.plc := by unfold State.signalLocal; split <;> simp
@[simp] theorem State.signalLocal_seedBase (r i n : Nat) : (s.signalLocal r i n).1.seedBase = s.seedBase := by unfold State.signalLocal; split <;> simp
@[simp] theorem State.signalLocal_moves (r i n : Nat) : (s.signalLocal r i n).1.moves = s.moves := by unfold State.signalLocal; split <;> simp
@[simp] theorem State.signalLocal_clash (r i n : Nat) : (s.signalLocal r i n).1.clash = s.clash := by unfold State.signalLocal; split <;> simp
@[simp] theorem State.signalLocal_weirs (r i n : Nat) : (s.signalLocal r i n).1.weirs = s.weirs := by unfold State.signalLocal; split <;> simp
@[simp] theorem State.signalLocal_slots (r i n : Nat) : (s.signalLocal r i n).1.slots = s.slots := by unfold State.signalLocal; split <;> simp
@[simp] theorem State.signalLocal_slotAct (r i n : Nat) : (s.signalLocal r i n).1.slotAct = s.slotAct := by unfold State.signalLocal; split <;> simp
@[simp] theorem State.signalLocal_cus (r i n : Nat) : (s.signalLocal r i n).1.cus = s.cus := by unfold State.signalLocal; split <;> simp
@[simp] theorem State.signalLocal_bed (r i n : Nat) : (s.signalLocal r i n).1.bed = s.bed := by unfold State.signalLocal; split <;> simp
@[simp] theorem State.signalLocal_ports (r i n : Nat) : (s.signalLocal r i n).1.ports = s.ports := by unfold State.signalLocal; split <;> simp
@[simp] theorem State.signalLocal_svcs (r i n : Nat) : (s.signalLocal r i n).1.svcs = s.svcs := by unfold State.signalLocal; split <;> simp
@[simp] theorem State.signalLocal_fab (r i n : Nat) : (s.signalLocal r i n).1.fab = s.fab := by unfold State.signalLocal; split <;> simp
@[simp] theorem State.signalLocal_hq (r i n : Nat) : (s.signalLocal r i n).1.hq = s.hq := by unfold State.signalLocal; split <;> simp
@[simp] theorem State.signalLocal_nrg (r i n : Nat) : (s.signalLocal r i n).1.nrg = s.nrg := by unfold State.signalLocal; split <;> simp
@[simp] theorem State.signalLocal_sec (r i n : Nat) : (s.signalLocal r i n).1.sec = s.sec := by unfold State.signalLocal; split <;> simp
@[simp] theorem State.signalLocal_log (r i n : Nat) : (s.signalLocal r i n).1.log = s.log := by unfold State.signalLocal; split <;> simp
@[simp] theorem State.signalLocal_test (r i n : Nat) : (s.signalLocal r i n).1.test = s.test := by unfold State.signalLocal; split <;> simp

/-! noteClash writes clash alone. -/
@[simp] theorem State.noteClash_pending (v : View) (da n : Nat) : (s.noteClash v da n).pending = s.pending := by unfold State.noteClash; split <;> simp
@[simp] theorem State.noteClash_freeIdx (v : View) (da n : Nat) : (s.noteClash v da n).freeIdx = s.freeIdx := by unfold State.noteClash; split <;> simp
@[simp] theorem State.noteClash_opNext (v : View) (da n : Nat) : (s.noteClash v da n).opNext = s.opNext := by unfold State.noteClash; split <;> simp
@[simp] theorem State.noteClash_outbox (v : View) (da n : Nat) : (s.noteClash v da n).outbox = s.outbox := by unfold State.noteClash; split <;> simp
@[simp] theorem State.noteClash_fuses (v : View) (da n : Nat) : (s.noteClash v da n).fuses = s.fuses := by unfold State.noteClash; split <;> simp
@[simp] theorem State.noteClash_ticks (v : View) (da n : Nat) : (s.noteClash v da n).ticks = s.ticks := by unfold State.noteClash; split <;> simp
@[simp] theorem State.noteClash_regs (v : View) (da n : Nat) : (s.noteClash v da n).regs = s.regs := by unfold State.noteClash; split <;> simp
@[simp] theorem State.noteClash_mem (v : View) (da n : Nat) : (s.noteClash v da n).mem = s.mem := by unfold State.noteClash; split <;> simp
@[simp] theorem State.noteClash_trg (v : View) (da n : Nat) : (s.noteClash v da n).trg = s.trg := by unfold State.noteClash; split <;> simp
@[simp] theorem State.noteClash_trgCommit (v : View) (da n : Nat) : (s.noteClash v da n).trgCommit = s.trgCommit := by unfold State.noteClash; split <;> simp
@[simp] theorem State.noteClash_reaches (v : View) (da n : Nat) : (s.noteClash v da n).reaches = s.reaches := by unfold State.noteClash; split <;> simp
@[simp] theorem State.noteClash_plc (v : View) (da n : Nat) : (s.noteClash v da n).plc = s.plc := by unfold State.noteClash; split <;> simp
@[simp] theorem State.noteClash_cells (v : View) (da n : Nat) : (s.noteClash v da n).cells = s.cells := by unfold State.noteClash; split <;> simp
@[simp] theorem State.noteClash_seedBase (v : View) (da n : Nat) : (s.noteClash v da n).seedBase = s.seedBase := by unfold State.noteClash; split <;> simp
@[simp] theorem State.noteClash_moves (v : View) (da n : Nat) : (s.noteClash v da n).moves = s.moves := by unfold State.noteClash; split <;> simp
@[simp] theorem State.noteClash_weirs (v : View) (da n : Nat) : (s.noteClash v da n).weirs = s.weirs := by unfold State.noteClash; split <;> simp
@[simp] theorem State.noteClash_slots (v : View) (da n : Nat) : (s.noteClash v da n).slots = s.slots := by unfold State.noteClash; split <;> simp
@[simp] theorem State.noteClash_slotAct (v : View) (da n : Nat) : (s.noteClash v da n).slotAct = s.slotAct := by unfold State.noteClash; split <;> simp
@[simp] theorem State.noteClash_cus (v : View) (da n : Nat) : (s.noteClash v da n).cus = s.cus := by unfold State.noteClash; split <;> simp
@[simp] theorem State.noteClash_optics (v : View) (da n : Nat) : (s.noteClash v da n).optics = s.optics := by unfold State.noteClash; split <;> simp
@[simp] theorem State.noteClash_bed (v : View) (da n : Nat) : (s.noteClash v da n).bed = s.bed := by unfold State.noteClash; split <;> simp
@[simp] theorem State.noteClash_ports (v : View) (da n : Nat) : (s.noteClash v da n).ports = s.ports := by unfold State.noteClash; split <;> simp
@[simp] theorem State.noteClash_svcs (v : View) (da n : Nat) : (s.noteClash v da n).svcs = s.svcs := by unfold State.noteClash; split <;> simp
@[simp] theorem State.noteClash_fab (v : View) (da n : Nat) : (s.noteClash v da n).fab = s.fab := by unfold State.noteClash; split <;> simp
@[simp] theorem State.noteClash_hq (v : View) (da n : Nat) : (s.noteClash v da n).hq = s.hq := by unfold State.noteClash; split <;> simp
@[simp] theorem State.noteClash_nrg (v : View) (da n : Nat) : (s.noteClash v da n).nrg = s.nrg := by unfold State.noteClash; split <;> simp
@[simp] theorem State.noteClash_sec (v : View) (da n : Nat) : (s.noteClash v da n).sec = s.sec := by unfold State.noteClash; split <;> simp
@[simp] theorem State.noteClash_log (v : View) (da n : Nat) : (s.noteClash v da n).log = s.log := by unfold State.noteClash; split <;> simp
@[simp] theorem State.noteClash_store (v : View) (da n : Nat) : (s.noteClash v da n).store = s.store := by unfold State.noteClash; split <;> simp
@[simp] theorem State.noteClash_errSeq (v : View) (da n : Nat) : (s.noteClash v da n).errSeq = s.errSeq := by unfold State.noteClash; split <;> simp
@[simp] theorem State.noteClash_err (v : View) (da n : Nat) : (s.noteClash v da n).err = s.err := by unfold State.noteClash; split <;> simp
@[simp] theorem State.noteClash_test (v : View) (da n : Nat) : (s.noteClash v da n).test = s.test := by unfold State.noteClash; split <;> simp
@[simp] theorem State.noteClash_pwr (v : View) (da n : Nat) : (s.noteClash v da n).pwr = s.pwr := by unfold State.noteClash; split <;> simp

/-! meet writes err, errSeq, mem, optics, outbox, pwr, store alone. -/
@[simp] theorem State.meet_pending (pe : PortEv) (da n : Nat) : (s.meet pe da n).pending = s.pending := by unfold State.meet; (repeat' split) <;> simp
@[simp] theorem State.meet_freeIdx (pe : PortEv) (da n : Nat) : (s.meet pe da n).freeIdx = s.freeIdx := by unfold State.meet; (repeat' split) <;> simp
@[simp] theorem State.meet_opNext (pe : PortEv) (da n : Nat) : (s.meet pe da n).opNext = s.opNext := by unfold State.meet; (repeat' split) <;> simp
@[simp] theorem State.meet_fuses (pe : PortEv) (da n : Nat) : (s.meet pe da n).fuses = s.fuses := by unfold State.meet; (repeat' split) <;> simp
@[simp] theorem State.meet_ticks (pe : PortEv) (da n : Nat) : (s.meet pe da n).ticks = s.ticks := by unfold State.meet; (repeat' split) <;> simp
@[simp] theorem State.meet_regs (pe : PortEv) (da n : Nat) : (s.meet pe da n).regs = s.regs := by unfold State.meet; (repeat' split) <;> simp
@[simp] theorem State.meet_trg (pe : PortEv) (da n : Nat) : (s.meet pe da n).trg = s.trg := by unfold State.meet; (repeat' split) <;> simp
@[simp] theorem State.meet_trgCommit (pe : PortEv) (da n : Nat) : (s.meet pe da n).trgCommit = s.trgCommit := by unfold State.meet; (repeat' split) <;> simp
@[simp] theorem State.meet_reaches (pe : PortEv) (da n : Nat) : (s.meet pe da n).reaches = s.reaches := by unfold State.meet; (repeat' split) <;> simp
@[simp] theorem State.meet_plc (pe : PortEv) (da n : Nat) : (s.meet pe da n).plc = s.plc := by unfold State.meet; (repeat' split) <;> simp
@[simp] theorem State.meet_cells (pe : PortEv) (da n : Nat) : (s.meet pe da n).cells = s.cells := by unfold State.meet; (repeat' split) <;> simp
@[simp] theorem State.meet_seedBase (pe : PortEv) (da n : Nat) : (s.meet pe da n).seedBase = s.seedBase := by unfold State.meet; (repeat' split) <;> simp
@[simp] theorem State.meet_moves (pe : PortEv) (da n : Nat) : (s.meet pe da n).moves = s.moves := by unfold State.meet; (repeat' split) <;> simp
@[simp] theorem State.meet_clash (pe : PortEv) (da n : Nat) : (s.meet pe da n).clash = s.clash := by unfold State.meet; (repeat' split) <;> simp
@[simp] theorem State.meet_weirs (pe : PortEv) (da n : Nat) : (s.meet pe da n).weirs = s.weirs := by unfold State.meet; (repeat' split) <;> simp
@[simp] theorem State.meet_slots (pe : PortEv) (da n : Nat) : (s.meet pe da n).slots = s.slots := by unfold State.meet; (repeat' split) <;> simp
@[simp] theorem State.meet_slotAct (pe : PortEv) (da n : Nat) : (s.meet pe da n).slotAct = s.slotAct := by unfold State.meet; (repeat' split) <;> simp
@[simp] theorem State.meet_cus (pe : PortEv) (da n : Nat) : (s.meet pe da n).cus = s.cus := by unfold State.meet; (repeat' split) <;> simp
@[simp] theorem State.meet_bed (pe : PortEv) (da n : Nat) : (s.meet pe da n).bed = s.bed := by unfold State.meet; (repeat' split) <;> simp
@[simp] theorem State.meet_ports (pe : PortEv) (da n : Nat) : (s.meet pe da n).ports = s.ports := by unfold State.meet; (repeat' split) <;> simp
@[simp] theorem State.meet_svcs (pe : PortEv) (da n : Nat) : (s.meet pe da n).svcs = s.svcs := by unfold State.meet; (repeat' split) <;> simp
@[simp] theorem State.meet_fab (pe : PortEv) (da n : Nat) : (s.meet pe da n).fab = s.fab := by unfold State.meet; (repeat' split) <;> simp
@[simp] theorem State.meet_hq (pe : PortEv) (da n : Nat) : (s.meet pe da n).hq = s.hq := by unfold State.meet; (repeat' split) <;> simp
@[simp] theorem State.meet_nrg (pe : PortEv) (da n : Nat) : (s.meet pe da n).nrg = s.nrg := by unfold State.meet; (repeat' split) <;> simp
@[simp] theorem State.meet_sec (pe : PortEv) (da n : Nat) : (s.meet pe da n).sec = s.sec := by unfold State.meet; (repeat' split) <;> simp
@[simp] theorem State.meet_log (pe : PortEv) (da n : Nat) : (s.meet pe da n).log = s.log := by unfold State.meet; (repeat' split) <;> simp
@[simp] theorem State.meet_test (pe : PortEv) (da n : Nat) : (s.meet pe da n).test = s.test := by unfold State.meet; (repeat' split) <;> simp

/-! met writes freeIdx, regs alone. -/
@[simp] theorem State.met_pending (v : View) (accs : List Acc) : (s.met v accs).pending = s.pending := by unfold State.met; dsimp only; (repeat' split) <;> simp
@[simp] theorem State.met_opNext (v : View) (accs : List Acc) : (s.met v accs).opNext = s.opNext := by unfold State.met; dsimp only; (repeat' split) <;> simp
@[simp] theorem State.met_outbox (v : View) (accs : List Acc) : (s.met v accs).outbox = s.outbox := by unfold State.met; dsimp only; (repeat' split) <;> simp
@[simp] theorem State.met_fuses (v : View) (accs : List Acc) : (s.met v accs).fuses = s.fuses := by unfold State.met; dsimp only; (repeat' split) <;> simp
@[simp] theorem State.met_ticks (v : View) (accs : List Acc) : (s.met v accs).ticks = s.ticks := by unfold State.met; dsimp only; (repeat' split) <;> simp
@[simp] theorem State.met_mem (v : View) (accs : List Acc) : (s.met v accs).mem = s.mem := by unfold State.met; dsimp only; (repeat' split) <;> simp
@[simp] theorem State.met_trg (v : View) (accs : List Acc) : (s.met v accs).trg = s.trg := by unfold State.met; dsimp only; (repeat' split) <;> simp
@[simp] theorem State.met_trgCommit (v : View) (accs : List Acc) : (s.met v accs).trgCommit = s.trgCommit := by unfold State.met; dsimp only; (repeat' split) <;> simp
@[simp] theorem State.met_reaches (v : View) (accs : List Acc) : (s.met v accs).reaches = s.reaches := by unfold State.met; dsimp only; (repeat' split) <;> simp
@[simp] theorem State.met_plc (v : View) (accs : List Acc) : (s.met v accs).plc = s.plc := by unfold State.met; dsimp only; (repeat' split) <;> simp
@[simp] theorem State.met_cells (v : View) (accs : List Acc) : (s.met v accs).cells = s.cells := by unfold State.met; dsimp only; (repeat' split) <;> simp
@[simp] theorem State.met_seedBase (v : View) (accs : List Acc) : (s.met v accs).seedBase = s.seedBase := by unfold State.met; dsimp only; (repeat' split) <;> simp
@[simp] theorem State.met_moves (v : View) (accs : List Acc) : (s.met v accs).moves = s.moves := by unfold State.met; dsimp only; (repeat' split) <;> simp
@[simp] theorem State.met_clash (v : View) (accs : List Acc) : (s.met v accs).clash = s.clash := by unfold State.met; dsimp only; (repeat' split) <;> simp
@[simp] theorem State.met_weirs (v : View) (accs : List Acc) : (s.met v accs).weirs = s.weirs := by unfold State.met; dsimp only; (repeat' split) <;> simp
@[simp] theorem State.met_slots (v : View) (accs : List Acc) : (s.met v accs).slots = s.slots := by unfold State.met; dsimp only; (repeat' split) <;> simp
@[simp] theorem State.met_slotAct (v : View) (accs : List Acc) : (s.met v accs).slotAct = s.slotAct := by unfold State.met; dsimp only; (repeat' split) <;> simp
@[simp] theorem State.met_cus (v : View) (accs : List Acc) : (s.met v accs).cus = s.cus := by unfold State.met; dsimp only; (repeat' split) <;> simp
@[simp] theorem State.met_optics (v : View) (accs : List Acc) : (s.met v accs).optics = s.optics := by unfold State.met; dsimp only; (repeat' split) <;> simp
@[simp] theorem State.met_bed (v : View) (accs : List Acc) : (s.met v accs).bed = s.bed := by unfold State.met; dsimp only; (repeat' split) <;> simp
@[simp] theorem State.met_ports (v : View) (accs : List Acc) : (s.met v accs).ports = s.ports := by unfold State.met; dsimp only; (repeat' split) <;> simp
@[simp] theorem State.met_svcs (v : View) (accs : List Acc) : (s.met v accs).svcs = s.svcs := by unfold State.met; dsimp only; (repeat' split) <;> simp
@[simp] theorem State.met_fab (v : View) (accs : List Acc) : (s.met v accs).fab = s.fab := by unfold State.met; dsimp only; (repeat' split) <;> simp
@[simp] theorem State.met_hq (v : View) (accs : List Acc) : (s.met v accs).hq = s.hq := by unfold State.met; dsimp only; (repeat' split) <;> simp
@[simp] theorem State.met_nrg (v : View) (accs : List Acc) : (s.met v accs).nrg = s.nrg := by unfold State.met; dsimp only; (repeat' split) <;> simp
@[simp] theorem State.met_sec (v : View) (accs : List Acc) : (s.met v accs).sec = s.sec := by unfold State.met; dsimp only; (repeat' split) <;> simp
@[simp] theorem State.met_log (v : View) (accs : List Acc) : (s.met v accs).log = s.log := by unfold State.met; dsimp only; (repeat' split) <;> simp
@[simp] theorem State.met_store (v : View) (accs : List Acc) : (s.met v accs).store = s.store := by unfold State.met; dsimp only; (repeat' split) <;> simp
@[simp] theorem State.met_errSeq (v : View) (accs : List Acc) : (s.met v accs).errSeq = s.errSeq := by unfold State.met; dsimp only; (repeat' split) <;> simp
@[simp] theorem State.met_err (v : View) (accs : List Acc) : (s.met v accs).err = s.err := by unfold State.met; dsimp only; (repeat' split) <;> simp
@[simp] theorem State.met_test (v : View) (accs : List Acc) : (s.met v accs).test = s.test := by unfold State.met; dsimp only; (repeat' split) <;> simp
@[simp] theorem State.met_pwr (v : View) (accs : List Acc) : (s.met v accs).pwr = s.pwr := by unfold State.met; dsimp only; (repeat' split) <;> simp

/-! settle writes clash alone. -/
@[simp] theorem State.settle_pending : s.settle.pending = s.pending := by unfold State.settle; split <;> simp
@[simp] theorem State.settle_freeIdx : s.settle.freeIdx = s.freeIdx := by unfold State.settle; split <;> simp
@[simp] theorem State.settle_opNext : s.settle.opNext = s.opNext := by unfold State.settle; split <;> simp
@[simp] theorem State.settle_outbox : s.settle.outbox = s.outbox := by unfold State.settle; split <;> simp
@[simp] theorem State.settle_fuses : s.settle.fuses = s.fuses := by unfold State.settle; split <;> simp
@[simp] theorem State.settle_ticks : s.settle.ticks = s.ticks := by unfold State.settle; split <;> simp
@[simp] theorem State.settle_regs : s.settle.regs = s.regs := by unfold State.settle; split <;> simp
@[simp] theorem State.settle_mem : s.settle.mem = s.mem := by unfold State.settle; split <;> simp
@[simp] theorem State.settle_trg : s.settle.trg = s.trg := by unfold State.settle; split <;> simp
@[simp] theorem State.settle_trgCommit : s.settle.trgCommit = s.trgCommit := by unfold State.settle; split <;> simp
@[simp] theorem State.settle_reaches : s.settle.reaches = s.reaches := by unfold State.settle; split <;> simp
@[simp] theorem State.settle_plc : s.settle.plc = s.plc := by unfold State.settle; split <;> simp
@[simp] theorem State.settle_cells : s.settle.cells = s.cells := by unfold State.settle; split <;> simp
@[simp] theorem State.settle_seedBase : s.settle.seedBase = s.seedBase := by unfold State.settle; split <;> simp
@[simp] theorem State.settle_moves : s.settle.moves = s.moves := by unfold State.settle; split <;> simp
@[simp] theorem State.settle_weirs : s.settle.weirs = s.weirs := by unfold State.settle; split <;> simp
@[simp] theorem State.settle_slots : s.settle.slots = s.slots := by unfold State.settle; split <;> simp
@[simp] theorem State.settle_slotAct : s.settle.slotAct = s.slotAct := by unfold State.settle; split <;> simp
@[simp] theorem State.settle_cus : s.settle.cus = s.cus := by unfold State.settle; split <;> simp
@[simp] theorem State.settle_optics : s.settle.optics = s.optics := by unfold State.settle; split <;> simp
@[simp] theorem State.settle_bed : s.settle.bed = s.bed := by unfold State.settle; split <;> simp
@[simp] theorem State.settle_ports : s.settle.ports = s.ports := by unfold State.settle; split <;> simp
@[simp] theorem State.settle_svcs : s.settle.svcs = s.svcs := by unfold State.settle; split <;> simp
@[simp] theorem State.settle_fab : s.settle.fab = s.fab := by unfold State.settle; split <;> simp
@[simp] theorem State.settle_hq : s.settle.hq = s.hq := by unfold State.settle; split <;> simp
@[simp] theorem State.settle_nrg : s.settle.nrg = s.nrg := by unfold State.settle; split <;> simp
@[simp] theorem State.settle_sec : s.settle.sec = s.sec := by unfold State.settle; split <;> simp
@[simp] theorem State.settle_log : s.settle.log = s.log := by unfold State.settle; split <;> simp
@[simp] theorem State.settle_store : s.settle.store = s.store := by unfold State.settle; split <;> simp
@[simp] theorem State.settle_errSeq : s.settle.errSeq = s.errSeq := by unfold State.settle; split <;> simp
@[simp] theorem State.settle_err : s.settle.err = s.err := by unfold State.settle; split <;> simp
@[simp] theorem State.settle_test : s.settle.test = s.test := by unfold State.settle; split <;> simp
@[simp] theorem State.settle_pwr : s.settle.pwr = s.pwr := by unfold State.settle; split <;> simp

/-! writePE writes clash, mem alone. -/
@[simp] theorem State.writePE_pending (v : View) (da : Nat) (bs : List Byte) : (s.writePE v da bs).pending = s.pending := by unfold State.writePE; dsimp only; rw [State.noteClash_pending]; generalize (if v.hits da bs.length = true then _ else bs) = l; cases peLost v.pe da l.length <;> simp
@[simp] theorem State.writePE_freeIdx (v : View) (da : Nat) (bs : List Byte) : (s.writePE v da bs).freeIdx = s.freeIdx := by unfold State.writePE; dsimp only; rw [State.noteClash_freeIdx]; generalize (if v.hits da bs.length = true then _ else bs) = l; cases peLost v.pe da l.length <;> simp
@[simp] theorem State.writePE_opNext (v : View) (da : Nat) (bs : List Byte) : (s.writePE v da bs).opNext = s.opNext := by unfold State.writePE; dsimp only; rw [State.noteClash_opNext]; generalize (if v.hits da bs.length = true then _ else bs) = l; cases peLost v.pe da l.length <;> simp
@[simp] theorem State.writePE_outbox (v : View) (da : Nat) (bs : List Byte) : (s.writePE v da bs).outbox = s.outbox := by unfold State.writePE; dsimp only; rw [State.noteClash_outbox]; generalize (if v.hits da bs.length = true then _ else bs) = l; cases peLost v.pe da l.length <;> simp
@[simp] theorem State.writePE_fuses (v : View) (da : Nat) (bs : List Byte) : (s.writePE v da bs).fuses = s.fuses := by unfold State.writePE; dsimp only; rw [State.noteClash_fuses]; generalize (if v.hits da bs.length = true then _ else bs) = l; cases peLost v.pe da l.length <;> simp
@[simp] theorem State.writePE_ticks (v : View) (da : Nat) (bs : List Byte) : (s.writePE v da bs).ticks = s.ticks := by unfold State.writePE; dsimp only; rw [State.noteClash_ticks]; generalize (if v.hits da bs.length = true then _ else bs) = l; cases peLost v.pe da l.length <;> simp
@[simp] theorem State.writePE_regs (v : View) (da : Nat) (bs : List Byte) : (s.writePE v da bs).regs = s.regs := by unfold State.writePE; dsimp only; rw [State.noteClash_regs]; generalize (if v.hits da bs.length = true then _ else bs) = l; cases peLost v.pe da l.length <;> simp
@[simp] theorem State.writePE_trg (v : View) (da : Nat) (bs : List Byte) : (s.writePE v da bs).trg = s.trg := by unfold State.writePE; dsimp only; rw [State.noteClash_trg]; generalize (if v.hits da bs.length = true then _ else bs) = l; cases peLost v.pe da l.length <;> simp
@[simp] theorem State.writePE_trgCommit (v : View) (da : Nat) (bs : List Byte) : (s.writePE v da bs).trgCommit = s.trgCommit := by unfold State.writePE; dsimp only; rw [State.noteClash_trgCommit]; generalize (if v.hits da bs.length = true then _ else bs) = l; cases peLost v.pe da l.length <;> simp
@[simp] theorem State.writePE_reaches (v : View) (da : Nat) (bs : List Byte) : (s.writePE v da bs).reaches = s.reaches := by unfold State.writePE; dsimp only; rw [State.noteClash_reaches]; generalize (if v.hits da bs.length = true then _ else bs) = l; cases peLost v.pe da l.length <;> simp
@[simp] theorem State.writePE_plc (v : View) (da : Nat) (bs : List Byte) : (s.writePE v da bs).plc = s.plc := by unfold State.writePE; dsimp only; rw [State.noteClash_plc]; generalize (if v.hits da bs.length = true then _ else bs) = l; cases peLost v.pe da l.length <;> simp
@[simp] theorem State.writePE_cells (v : View) (da : Nat) (bs : List Byte) : (s.writePE v da bs).cells = s.cells := by unfold State.writePE; dsimp only; rw [State.noteClash_cells]; generalize (if v.hits da bs.length = true then _ else bs) = l; cases peLost v.pe da l.length <;> simp
@[simp] theorem State.writePE_seedBase (v : View) (da : Nat) (bs : List Byte) : (s.writePE v da bs).seedBase = s.seedBase := by unfold State.writePE; dsimp only; rw [State.noteClash_seedBase]; generalize (if v.hits da bs.length = true then _ else bs) = l; cases peLost v.pe da l.length <;> simp
@[simp] theorem State.writePE_moves (v : View) (da : Nat) (bs : List Byte) : (s.writePE v da bs).moves = s.moves := by unfold State.writePE; dsimp only; rw [State.noteClash_moves]; generalize (if v.hits da bs.length = true then _ else bs) = l; cases peLost v.pe da l.length <;> simp
@[simp] theorem State.writePE_weirs (v : View) (da : Nat) (bs : List Byte) : (s.writePE v da bs).weirs = s.weirs := by unfold State.writePE; dsimp only; rw [State.noteClash_weirs]; generalize (if v.hits da bs.length = true then _ else bs) = l; cases peLost v.pe da l.length <;> simp
@[simp] theorem State.writePE_slots (v : View) (da : Nat) (bs : List Byte) : (s.writePE v da bs).slots = s.slots := by unfold State.writePE; dsimp only; rw [State.noteClash_slots]; generalize (if v.hits da bs.length = true then _ else bs) = l; cases peLost v.pe da l.length <;> simp
@[simp] theorem State.writePE_slotAct (v : View) (da : Nat) (bs : List Byte) : (s.writePE v da bs).slotAct = s.slotAct := by unfold State.writePE; dsimp only; rw [State.noteClash_slotAct]; generalize (if v.hits da bs.length = true then _ else bs) = l; cases peLost v.pe da l.length <;> simp
@[simp] theorem State.writePE_cus (v : View) (da : Nat) (bs : List Byte) : (s.writePE v da bs).cus = s.cus := by unfold State.writePE; dsimp only; rw [State.noteClash_cus]; generalize (if v.hits da bs.length = true then _ else bs) = l; cases peLost v.pe da l.length <;> simp
@[simp] theorem State.writePE_optics (v : View) (da : Nat) (bs : List Byte) : (s.writePE v da bs).optics = s.optics := by unfold State.writePE; dsimp only; rw [State.noteClash_optics]; generalize (if v.hits da bs.length = true then _ else bs) = l; cases peLost v.pe da l.length <;> simp
@[simp] theorem State.writePE_bed (v : View) (da : Nat) (bs : List Byte) : (s.writePE v da bs).bed = s.bed := by unfold State.writePE; dsimp only; rw [State.noteClash_bed]; generalize (if v.hits da bs.length = true then _ else bs) = l; cases peLost v.pe da l.length <;> simp
@[simp] theorem State.writePE_ports (v : View) (da : Nat) (bs : List Byte) : (s.writePE v da bs).ports = s.ports := by unfold State.writePE; dsimp only; rw [State.noteClash_ports]; generalize (if v.hits da bs.length = true then _ else bs) = l; cases peLost v.pe da l.length <;> simp
@[simp] theorem State.writePE_svcs (v : View) (da : Nat) (bs : List Byte) : (s.writePE v da bs).svcs = s.svcs := by unfold State.writePE; dsimp only; rw [State.noteClash_svcs]; generalize (if v.hits da bs.length = true then _ else bs) = l; cases peLost v.pe da l.length <;> simp
@[simp] theorem State.writePE_fab (v : View) (da : Nat) (bs : List Byte) : (s.writePE v da bs).fab = s.fab := by unfold State.writePE; dsimp only; rw [State.noteClash_fab]; generalize (if v.hits da bs.length = true then _ else bs) = l; cases peLost v.pe da l.length <;> simp
@[simp] theorem State.writePE_hq (v : View) (da : Nat) (bs : List Byte) : (s.writePE v da bs).hq = s.hq := by unfold State.writePE; dsimp only; rw [State.noteClash_hq]; generalize (if v.hits da bs.length = true then _ else bs) = l; cases peLost v.pe da l.length <;> simp
@[simp] theorem State.writePE_nrg (v : View) (da : Nat) (bs : List Byte) : (s.writePE v da bs).nrg = s.nrg := by unfold State.writePE; dsimp only; rw [State.noteClash_nrg]; generalize (if v.hits da bs.length = true then _ else bs) = l; cases peLost v.pe da l.length <;> simp
@[simp] theorem State.writePE_sec (v : View) (da : Nat) (bs : List Byte) : (s.writePE v da bs).sec = s.sec := by unfold State.writePE; dsimp only; rw [State.noteClash_sec]; generalize (if v.hits da bs.length = true then _ else bs) = l; cases peLost v.pe da l.length <;> simp
@[simp] theorem State.writePE_log (v : View) (da : Nat) (bs : List Byte) : (s.writePE v da bs).log = s.log := by unfold State.writePE; dsimp only; rw [State.noteClash_log]; generalize (if v.hits da bs.length = true then _ else bs) = l; cases peLost v.pe da l.length <;> simp
@[simp] theorem State.writePE_store (v : View) (da : Nat) (bs : List Byte) : (s.writePE v da bs).store = s.store := by unfold State.writePE; dsimp only; rw [State.noteClash_store]; generalize (if v.hits da bs.length = true then _ else bs) = l; cases peLost v.pe da l.length <;> simp
@[simp] theorem State.writePE_errSeq (v : View) (da : Nat) (bs : List Byte) : (s.writePE v da bs).errSeq = s.errSeq := by unfold State.writePE; dsimp only; rw [State.noteClash_errSeq]; generalize (if v.hits da bs.length = true then _ else bs) = l; cases peLost v.pe da l.length <;> simp
@[simp] theorem State.writePE_err (v : View) (da : Nat) (bs : List Byte) : (s.writePE v da bs).err = s.err := by unfold State.writePE; dsimp only; rw [State.noteClash_err]; generalize (if v.hits da bs.length = true then _ else bs) = l; cases peLost v.pe da l.length <;> simp
@[simp] theorem State.writePE_test (v : View) (da : Nat) (bs : List Byte) : (s.writePE v da bs).test = s.test := by unfold State.writePE; dsimp only; rw [State.noteClash_test]; generalize (if v.hits da bs.length = true then _ else bs) = l; cases peLost v.pe da l.length <;> simp
@[simp] theorem State.writePE_pwr (v : View) (da : Nat) (bs : List Byte) : (s.writePE v da bs).pwr = s.pwr := by unfold State.writePE; dsimp only; rw [State.noteClash_pwr]; generalize (if v.hits da bs.length = true then _ else bs) = l; cases peLost v.pe da l.length <;> simp

/-! keepReg writes regs alone. -/
@[simp] theorem State.keepReg_pending (off : Nat) (x : Word) : (s.keepReg off x).pending = s.pending := by unfold State.keepReg; split <;> simp
@[simp] theorem State.keepReg_freeIdx (off : Nat) (x : Word) : (s.keepReg off x).freeIdx = s.freeIdx := by unfold State.keepReg; split <;> simp
@[simp] theorem State.keepReg_opNext (off : Nat) (x : Word) : (s.keepReg off x).opNext = s.opNext := by unfold State.keepReg; split <;> simp
@[simp] theorem State.keepReg_outbox (off : Nat) (x : Word) : (s.keepReg off x).outbox = s.outbox := by unfold State.keepReg; split <;> simp
@[simp] theorem State.keepReg_fuses (off : Nat) (x : Word) : (s.keepReg off x).fuses = s.fuses := by unfold State.keepReg; split <;> simp
@[simp] theorem State.keepReg_ticks (off : Nat) (x : Word) : (s.keepReg off x).ticks = s.ticks := by unfold State.keepReg; split <;> simp
@[simp] theorem State.keepReg_mem (off : Nat) (x : Word) : (s.keepReg off x).mem = s.mem := by unfold State.keepReg; split <;> simp
@[simp] theorem State.keepReg_trg (off : Nat) (x : Word) : (s.keepReg off x).trg = s.trg := by unfold State.keepReg; split <;> simp
@[simp] theorem State.keepReg_trgCommit (off : Nat) (x : Word) : (s.keepReg off x).trgCommit = s.trgCommit := by unfold State.keepReg; split <;> simp
@[simp] theorem State.keepReg_reaches (off : Nat) (x : Word) : (s.keepReg off x).reaches = s.reaches := by unfold State.keepReg; split <;> simp
@[simp] theorem State.keepReg_plc (off : Nat) (x : Word) : (s.keepReg off x).plc = s.plc := by unfold State.keepReg; split <;> simp
@[simp] theorem State.keepReg_cells (off : Nat) (x : Word) : (s.keepReg off x).cells = s.cells := by unfold State.keepReg; split <;> simp
@[simp] theorem State.keepReg_seedBase (off : Nat) (x : Word) : (s.keepReg off x).seedBase = s.seedBase := by unfold State.keepReg; split <;> simp
@[simp] theorem State.keepReg_moves (off : Nat) (x : Word) : (s.keepReg off x).moves = s.moves := by unfold State.keepReg; split <;> simp
@[simp] theorem State.keepReg_clash (off : Nat) (x : Word) : (s.keepReg off x).clash = s.clash := by unfold State.keepReg; split <;> simp
@[simp] theorem State.keepReg_weirs (off : Nat) (x : Word) : (s.keepReg off x).weirs = s.weirs := by unfold State.keepReg; split <;> simp
@[simp] theorem State.keepReg_slots (off : Nat) (x : Word) : (s.keepReg off x).slots = s.slots := by unfold State.keepReg; split <;> simp
@[simp] theorem State.keepReg_slotAct (off : Nat) (x : Word) : (s.keepReg off x).slotAct = s.slotAct := by unfold State.keepReg; split <;> simp
@[simp] theorem State.keepReg_cus (off : Nat) (x : Word) : (s.keepReg off x).cus = s.cus := by unfold State.keepReg; split <;> simp
@[simp] theorem State.keepReg_optics (off : Nat) (x : Word) : (s.keepReg off x).optics = s.optics := by unfold State.keepReg; split <;> simp
@[simp] theorem State.keepReg_bed (off : Nat) (x : Word) : (s.keepReg off x).bed = s.bed := by unfold State.keepReg; split <;> simp
@[simp] theorem State.keepReg_ports (off : Nat) (x : Word) : (s.keepReg off x).ports = s.ports := by unfold State.keepReg; split <;> simp
@[simp] theorem State.keepReg_svcs (off : Nat) (x : Word) : (s.keepReg off x).svcs = s.svcs := by unfold State.keepReg; split <;> simp
@[simp] theorem State.keepReg_fab (off : Nat) (x : Word) : (s.keepReg off x).fab = s.fab := by unfold State.keepReg; split <;> simp
@[simp] theorem State.keepReg_hq (off : Nat) (x : Word) : (s.keepReg off x).hq = s.hq := by unfold State.keepReg; split <;> simp
@[simp] theorem State.keepReg_nrg (off : Nat) (x : Word) : (s.keepReg off x).nrg = s.nrg := by unfold State.keepReg; split <;> simp
@[simp] theorem State.keepReg_sec (off : Nat) (x : Word) : (s.keepReg off x).sec = s.sec := by unfold State.keepReg; split <;> simp
@[simp] theorem State.keepReg_log (off : Nat) (x : Word) : (s.keepReg off x).log = s.log := by unfold State.keepReg; split <;> simp
@[simp] theorem State.keepReg_store (off : Nat) (x : Word) : (s.keepReg off x).store = s.store := by unfold State.keepReg; split <;> simp
@[simp] theorem State.keepReg_errSeq (off : Nat) (x : Word) : (s.keepReg off x).errSeq = s.errSeq := by unfold State.keepReg; split <;> simp
@[simp] theorem State.keepReg_err (off : Nat) (x : Word) : (s.keepReg off x).err = s.err := by unfold State.keepReg; split <;> simp
@[simp] theorem State.keepReg_test (off : Nat) (x : Word) : (s.keepReg off x).test = s.test := by unfold State.keepReg; split <;> simp
@[simp] theorem State.keepReg_pwr (off : Nat) (x : Word) : (s.keepReg off x).pwr = s.pwr := by unfold State.keepReg; split <;> simp

/-! mboxWrite writes regs alone. -/
@[simp] theorem State.mboxWrite_pending (m st q idx r : Nat) : (s.mboxWrite m st q idx r).pending = s.pending := by simp [State.mboxWrite]
@[simp] theorem State.mboxWrite_freeIdx (m st q idx r : Nat) : (s.mboxWrite m st q idx r).freeIdx = s.freeIdx := by simp [State.mboxWrite]
@[simp] theorem State.mboxWrite_opNext (m st q idx r : Nat) : (s.mboxWrite m st q idx r).opNext = s.opNext := by simp [State.mboxWrite]
@[simp] theorem State.mboxWrite_outbox (m st q idx r : Nat) : (s.mboxWrite m st q idx r).outbox = s.outbox := by simp [State.mboxWrite]
@[simp] theorem State.mboxWrite_fuses (m st q idx r : Nat) : (s.mboxWrite m st q idx r).fuses = s.fuses := by simp [State.mboxWrite]
@[simp] theorem State.mboxWrite_ticks (m st q idx r : Nat) : (s.mboxWrite m st q idx r).ticks = s.ticks := by simp [State.mboxWrite]
@[simp] theorem State.mboxWrite_mem (m st q idx r : Nat) : (s.mboxWrite m st q idx r).mem = s.mem := by simp [State.mboxWrite]
@[simp] theorem State.mboxWrite_trg (m st q idx r : Nat) : (s.mboxWrite m st q idx r).trg = s.trg := by simp [State.mboxWrite]
@[simp] theorem State.mboxWrite_trgCommit (m st q idx r : Nat) : (s.mboxWrite m st q idx r).trgCommit = s.trgCommit := by simp [State.mboxWrite]
@[simp] theorem State.mboxWrite_reaches (m st q idx r : Nat) : (s.mboxWrite m st q idx r).reaches = s.reaches := by simp [State.mboxWrite]
@[simp] theorem State.mboxWrite_plc (m st q idx r : Nat) : (s.mboxWrite m st q idx r).plc = s.plc := by simp [State.mboxWrite]
@[simp] theorem State.mboxWrite_cells (m st q idx r : Nat) : (s.mboxWrite m st q idx r).cells = s.cells := by simp [State.mboxWrite]
@[simp] theorem State.mboxWrite_seedBase (m st q idx r : Nat) : (s.mboxWrite m st q idx r).seedBase = s.seedBase := by simp [State.mboxWrite]
@[simp] theorem State.mboxWrite_moves (m st q idx r : Nat) : (s.mboxWrite m st q idx r).moves = s.moves := by simp [State.mboxWrite]
@[simp] theorem State.mboxWrite_clash (m st q idx r : Nat) : (s.mboxWrite m st q idx r).clash = s.clash := by simp [State.mboxWrite]
@[simp] theorem State.mboxWrite_weirs (m st q idx r : Nat) : (s.mboxWrite m st q idx r).weirs = s.weirs := by simp [State.mboxWrite]
@[simp] theorem State.mboxWrite_slots (m st q idx r : Nat) : (s.mboxWrite m st q idx r).slots = s.slots := by simp [State.mboxWrite]
@[simp] theorem State.mboxWrite_slotAct (m st q idx r : Nat) : (s.mboxWrite m st q idx r).slotAct = s.slotAct := by simp [State.mboxWrite]
@[simp] theorem State.mboxWrite_cus (m st q idx r : Nat) : (s.mboxWrite m st q idx r).cus = s.cus := by simp [State.mboxWrite]
@[simp] theorem State.mboxWrite_optics (m st q idx r : Nat) : (s.mboxWrite m st q idx r).optics = s.optics := by simp [State.mboxWrite]
@[simp] theorem State.mboxWrite_bed (m st q idx r : Nat) : (s.mboxWrite m st q idx r).bed = s.bed := by simp [State.mboxWrite]
@[simp] theorem State.mboxWrite_ports (m st q idx r : Nat) : (s.mboxWrite m st q idx r).ports = s.ports := by simp [State.mboxWrite]
@[simp] theorem State.mboxWrite_svcs (m st q idx r : Nat) : (s.mboxWrite m st q idx r).svcs = s.svcs := by simp [State.mboxWrite]
@[simp] theorem State.mboxWrite_fab (m st q idx r : Nat) : (s.mboxWrite m st q idx r).fab = s.fab := by simp [State.mboxWrite]
@[simp] theorem State.mboxWrite_hq (m st q idx r : Nat) : (s.mboxWrite m st q idx r).hq = s.hq := by simp [State.mboxWrite]
@[simp] theorem State.mboxWrite_nrg (m st q idx r : Nat) : (s.mboxWrite m st q idx r).nrg = s.nrg := by simp [State.mboxWrite]
@[simp] theorem State.mboxWrite_sec (m st q idx r : Nat) : (s.mboxWrite m st q idx r).sec = s.sec := by simp [State.mboxWrite]
@[simp] theorem State.mboxWrite_log (m st q idx r : Nat) : (s.mboxWrite m st q idx r).log = s.log := by simp [State.mboxWrite]
@[simp] theorem State.mboxWrite_store (m st q idx r : Nat) : (s.mboxWrite m st q idx r).store = s.store := by simp [State.mboxWrite]
@[simp] theorem State.mboxWrite_errSeq (m st q idx r : Nat) : (s.mboxWrite m st q idx r).errSeq = s.errSeq := by simp [State.mboxWrite]
@[simp] theorem State.mboxWrite_err (m st q idx r : Nat) : (s.mboxWrite m st q idx r).err = s.err := by simp [State.mboxWrite]
@[simp] theorem State.mboxWrite_test (m st q idx r : Nat) : (s.mboxWrite m st q idx r).test = s.test := by simp [State.mboxWrite]
@[simp] theorem State.mboxWrite_pwr (m st q idx r : Nat) : (s.mboxWrite m st q idx r).pwr = s.pwr := by simp [State.mboxWrite]

/-! setTrk writes fab alone. -/
@[simp] theorem State.setTrk_pending (d i : Nat) (e : TEnt) : (s.setTrk d i e).pending = s.pending := by simp [State.setTrk]
@[simp] theorem State.setTrk_freeIdx (d i : Nat) (e : TEnt) : (s.setTrk d i e).freeIdx = s.freeIdx := by simp [State.setTrk]
@[simp] theorem State.setTrk_opNext (d i : Nat) (e : TEnt) : (s.setTrk d i e).opNext = s.opNext := by simp [State.setTrk]
@[simp] theorem State.setTrk_outbox (d i : Nat) (e : TEnt) : (s.setTrk d i e).outbox = s.outbox := by simp [State.setTrk]
@[simp] theorem State.setTrk_fuses (d i : Nat) (e : TEnt) : (s.setTrk d i e).fuses = s.fuses := by simp [State.setTrk]
@[simp] theorem State.setTrk_ticks (d i : Nat) (e : TEnt) : (s.setTrk d i e).ticks = s.ticks := by simp [State.setTrk]
@[simp] theorem State.setTrk_regs (d i : Nat) (e : TEnt) : (s.setTrk d i e).regs = s.regs := by simp [State.setTrk]
@[simp] theorem State.setTrk_mem (d i : Nat) (e : TEnt) : (s.setTrk d i e).mem = s.mem := by simp [State.setTrk]
@[simp] theorem State.setTrk_trg (d i : Nat) (e : TEnt) : (s.setTrk d i e).trg = s.trg := by simp [State.setTrk]
@[simp] theorem State.setTrk_trgCommit (d i : Nat) (e : TEnt) : (s.setTrk d i e).trgCommit = s.trgCommit := by simp [State.setTrk]
@[simp] theorem State.setTrk_reaches (d i : Nat) (e : TEnt) : (s.setTrk d i e).reaches = s.reaches := by simp [State.setTrk]
@[simp] theorem State.setTrk_plc (d i : Nat) (e : TEnt) : (s.setTrk d i e).plc = s.plc := by simp [State.setTrk]
@[simp] theorem State.setTrk_cells (d i : Nat) (e : TEnt) : (s.setTrk d i e).cells = s.cells := by simp [State.setTrk]
@[simp] theorem State.setTrk_seedBase (d i : Nat) (e : TEnt) : (s.setTrk d i e).seedBase = s.seedBase := by simp [State.setTrk]
@[simp] theorem State.setTrk_moves (d i : Nat) (e : TEnt) : (s.setTrk d i e).moves = s.moves := by simp [State.setTrk]
@[simp] theorem State.setTrk_clash (d i : Nat) (e : TEnt) : (s.setTrk d i e).clash = s.clash := by simp [State.setTrk]
@[simp] theorem State.setTrk_weirs (d i : Nat) (e : TEnt) : (s.setTrk d i e).weirs = s.weirs := by simp [State.setTrk]
@[simp] theorem State.setTrk_slots (d i : Nat) (e : TEnt) : (s.setTrk d i e).slots = s.slots := by simp [State.setTrk]
@[simp] theorem State.setTrk_slotAct (d i : Nat) (e : TEnt) : (s.setTrk d i e).slotAct = s.slotAct := by simp [State.setTrk]
@[simp] theorem State.setTrk_cus (d i : Nat) (e : TEnt) : (s.setTrk d i e).cus = s.cus := by simp [State.setTrk]
@[simp] theorem State.setTrk_optics (d i : Nat) (e : TEnt) : (s.setTrk d i e).optics = s.optics := by simp [State.setTrk]
@[simp] theorem State.setTrk_bed (d i : Nat) (e : TEnt) : (s.setTrk d i e).bed = s.bed := by simp [State.setTrk]
@[simp] theorem State.setTrk_ports (d i : Nat) (e : TEnt) : (s.setTrk d i e).ports = s.ports := by simp [State.setTrk]
@[simp] theorem State.setTrk_svcs (d i : Nat) (e : TEnt) : (s.setTrk d i e).svcs = s.svcs := by simp [State.setTrk]
@[simp] theorem State.setTrk_hq (d i : Nat) (e : TEnt) : (s.setTrk d i e).hq = s.hq := by simp [State.setTrk]
@[simp] theorem State.setTrk_nrg (d i : Nat) (e : TEnt) : (s.setTrk d i e).nrg = s.nrg := by simp [State.setTrk]
@[simp] theorem State.setTrk_sec (d i : Nat) (e : TEnt) : (s.setTrk d i e).sec = s.sec := by simp [State.setTrk]
@[simp] theorem State.setTrk_log (d i : Nat) (e : TEnt) : (s.setTrk d i e).log = s.log := by simp [State.setTrk]
@[simp] theorem State.setTrk_store (d i : Nat) (e : TEnt) : (s.setTrk d i e).store = s.store := by simp [State.setTrk]
@[simp] theorem State.setTrk_errSeq (d i : Nat) (e : TEnt) : (s.setTrk d i e).errSeq = s.errSeq := by simp [State.setTrk]
@[simp] theorem State.setTrk_err (d i : Nat) (e : TEnt) : (s.setTrk d i e).err = s.err := by simp [State.setTrk]
@[simp] theorem State.setTrk_test (d i : Nat) (e : TEnt) : (s.setTrk d i e).test = s.test := by simp [State.setTrk]
@[simp] theorem State.setTrk_pwr (d i : Nat) (e : TEnt) : (s.setTrk d i e).pwr = s.pwr := by simp [State.setTrk]

end Sys2Proof.Machine
end

