-- ==== Sys2Proof/Laws/Flight.lean ====
section
/-! SUPPORT. What an access comes to where no other port and no incomplete asynchronous operation meets it (R128, R170): it reads what memory
holds, writes what it is given, and takes no free value. -/

set_option Elab.async false

namespace Sys2Proof.Machine

variable (s : State)

/-- An access with no event meets nothing. -/
@[simp] theorem State.meet_clear (da n : Nat) : s.meet .clear da n = s := rfl

/-- Where no incomplete asynchronous operation writes a range, an access of it finds no undefined byte. -/
theorem State.hits_calm (pe : PortEv) (da n : Nat) (h : s.calm da n = true) : (s.viewNow pe).hits da n = false := by
  simp only [State.calm, List.all_eq_true, Bool.not_eq_true', Bool.and_eq_false_iff] at h
  simp only [View.hits, State.viewNow, List.any_eq_false, List.mem_map, List.mem_filter]
  rintro _ ⟨a, ⟨ha, hw⟩, rfl⟩
  rcases h a ha with h | h <;> simp_all

/-- A range that is still is calm. -/
theorem State.calm_of_still (da n : Nat) (h : s.still da n = true) : s.calm da n = true := by
  simp only [State.still, State.calm, List.all_eq_true] at h ⊢
  intro a ha; have := h a ha; simp_all

/-- With nothing in flight, every range is still. -/
theorem State.still_of_flight (da n : Nat) (h : s.flight = []) : s.still da n = true := by simp [State.still, h]

/-- A read of a calm range with no event reads memory. -/
theorem State.readPE_calm (da n : Nat) (h : s.calm da n = true) : s.readPE (s.viewNow .clear) da n = s.readMem da n := by
  have e : peMixed (s.viewNow .clear).pe da n = none := rfl
  simp only [State.readPE, e, s.hits_calm .clear da n h]

/-- A write into a still range with no event writes memory and notes no clash. -/
theorem State.writePE_still (da : Nat) (bs : List Byte) (h : s.still da bs.length = true) :
    s.writePE (s.viewNow .clear) da bs = s.writeMem da bs := by
  have hc := s.hits_calm .clear da bs.length (s.calm_of_still _ _ h)
  have e : ∀ l : List Byte, peLost (s.viewNow .clear).pe da l.length = none := fun _ => rfl
  have t : (s.viewNow .clear).touch.filterMap (rangeMeet (da, bs.length)) = [] := by
    simp only [State.still, List.all_eq_true, Bool.not_eq_true'] at h
    simp only [List.filterMap_eq_nil_iff, State.viewNow, List.mem_map]
    rintro _ ⟨a, ha, rfl⟩
    have := h a ha
    simp only [rangeMeet]
    rw [if_neg]
    simp only [rangesMeet] at this ⊢
    simp_all
    omega
  simp only [State.writePE, hc, e, State.noteClash, t, Bool.false_eq_true, if_false]

/-- Accesses with no event to calm ranges see no conflict and take no free value. -/
theorem State.met_calm (accs : List Acc) (h : ∀ a ∈ accs, s.calm a.1 a.2.1 = true) (t : State) : t.met (s.viewNow .clear) accs = t := by
  have b : (s.viewNow .clear).busy accs = false := by simp [View.busy, peBusy, State.viewNow]
  have si : (accs.any fun a => peSilent (s.viewNow .clear).pe a.1 a.2.1 a.2.2) = false := by simp [peSilent, State.viewNow]
  have mi : (accs.any fun a => (peMixed (s.viewNow .clear).pe a.1 a.2.1).isSome || (s.viewNow .clear).hits a.1 a.2.1) = false := by
    simp only [List.any_eq_false]
    intro a ha
    have p : peMixed (s.viewNow .clear).pe a.1 a.2.1 = none := rfl
    simp [p, s.hits_calm .clear _ _ (h a ha)]
  simp only [State.met, b, si, mi, Bool.or_self, Bool.false_eq_true, if_false]

/-- No clash is noted where none is. -/
@[simp] theorem State.settle_nil (h : s.clash = []) : s.settle = s := by simp [State.settle, h]

end Sys2Proof.Machine
end

