-- ==== Sys2Proof/Laws/Issue.lean ====
section
/-! SUPPORT. What the issue of a cell instruction comes to, once for all of them: it completes and the pc moves on, it jumps, it blocks, it
stalls, or it meets an exception that traps or does not (R130 to R133). -/

set_option Elab.async false

namespace Sys2Proof.Machine

variable (s : State)

/-- A cell that runs a program is not the cell after reset. -/
theorem Cell.ne_reset (x : Cell) (h : x.phase = .running) : x ≠ .reset := by
  rintro rfl; simp [Cell.reset] at h

/-- Two puts of one key are the second. -/
theorem tput_tput {α : Type} (t : Tab α) (i : Nat) (x y : α) : tput (tput t i x) i y = tput t i y := by
  induction t with
  | nil => simp [tput]
  | cons kv t ih =>
    obtain ⟨k, v⟩ := kv
    by_cases h1 : i < k
    · simp [tput, h1]
    · by_cases h2 : i = k
      · subst h2; simp [tput]
      · simp [tput, h1, h2, ih]

/-- Putting back a cell twice is putting back the second, for cells that are not as after reset. -/
theorem State.setCell_setCell (i : Nat) (x y : Cell) (hx : x ≠ .reset) (hy : y ≠ .reset) :
    (s.setCell i x).setCell i y = s.setCell i y := by
  simp only [State.setCell, tset, if_neg hx, if_neg hy, tput_tput]

/-- A cell that may issue runs a program. -/
theorem State.cellReady_running (ci : Nat) (h : s.cellReady ci = true) : (s.cell ci).phase = .running := by
  simp [State.cellReady] at h; exact h.1.1.2

/-- A cell that runs, runs a program. -/
theorem State.runs_running (c : CellId) (h : s.runs c = true) : (s.at c).phase = .running := by
  simp [State.runs] at h; exact s.cellReady_running _ h.1

/-- Issue on a cell that runs is the verdict of its instruction. -/
theorem State.exec1_runs (c : CellId) (op : Nat) (f : Cell → Issue) (h : s.runs c = true) :
    s.exec1 (cellIdx c) op f = s.issue (cellIdx c) op (f (s.at c)) := by
  simp [State.runs] at h
  simp only [State.exec1, h.1, h.2, if_true]; rfl

/-- A cell that may not issue is left as it is. -/
theorem State.exec1_idle (ci op : Nat) (f : Cell → Issue) (h : s.cellReady ci = false) : s.exec1 ci op f = s := by
  unfold State.exec1; rw [if_neg (by simp [h])]

/-- An instruction that leaves the device with its own cell changed, and moves on. -/
theorem State.issue_ran (c : CellId) (op : Nat) (t : State) (x : Cell) (h : x.phase = .running) :
    s.issue (cellIdx c) op (.ok (t.setCell (cellIdx c) x)) = t.ran c x := by
  simp only [State.issue, State.advance, State.ran, State.cell_setCell]
  exact t.setCell_setCell _ _ _ (x.ne_reset h) (Cell.ne_reset _ h)

/-- A jump that leaves the device with its own cell changed. -/
theorem State.issue_jumped (c : CellId) (op : Nat) (t : State) (x : Cell) (pc : Nat) (h : x.phase = .running) :
    s.issue (cellIdx c) op (.jump (t.setCell (cellIdx c) x) pc) = t.jumped c x pc := by
  simp only [State.issue, State.jumped, State.cell_setCell]
  exact t.setCell_setCell _ _ _ (x.ne_reset h) (Cell.ne_reset _ h)

/-- An exception that traps: the cell stops at its pc with the code in STATUS, FAULT records pc, code and opcode. -/
theorem State.issue_trap (ci op code : Nat) (forced : Bool) (t u : State) (addr : Option Nat) (d : Nat)
    (h : forced = true ∨ (s.cell ci).traps code = true) :
    s.issue ci op (.ex code forced t u addr d) = (t.cellExc ci code addr d).trapCell ci code op := by
  simp only [State.issue]; rw [if_pos]; simpa using h

/-- An exception that does not trap: STATUS records it and the cell moves on. -/
theorem State.issue_go (ci op code : Nat) (t u : State) (addr : Option Nat) (d : Nat) (h : (s.cell ci).traps code = false) :
    s.issue ci op (.ex code false t u addr d) = (u.cellExc ci code addr d).advance ci := by
  simp only [State.issue]; rw [if_neg]; simp [h]

/-- The cell after a trap. -/
theorem State.cell_trap (ci op code : Nat) (addr : Option Nat) (d : Nat) :
    ((s.cellExc ci code addr d).trapCell ci code op).cell ci =
      { (s.cell ci).raised code with fault := faultWord (s.cell ci).pc code op, phase := .trapped code, block := none, pendTrap := none } := by
  have h : (s.cellExc ci code addr d).cell ci = (s.cell ci).raised code := by
    have e : (s.cellExc ci code addr d).cells = (s.setCell ci ((s.cell ci).raised code)).cells := by
      simp only [State.cellExc, State.raiseStatus_cells]
    have e2 := State.cell_setCell s ci ((s.cell ci).raised code)
    simp only [State.cell] at e2 ⊢; rw [e]; exact e2
  simp only [State.trapCell, State.cell_setCell, h]; rfl

/-- A trap leaves the other cells. -/
theorem State.cell_trap_ne (ci op code : Nat) (addr : Option Nat) (d j : Nat) (h : j ≠ ci) :
    ((s.cellExc ci code addr d).trapCell ci code op).cell j = s.cell j := by
  have e : (s.cellExc ci code addr d).cell j = s.cell j := by
    have e : (s.cellExc ci code addr d).cells = (s.setCell ci ((s.cell ci).raised code)).cells := by
      simp only [State.cellExc, State.raiseStatus_cells]
    have e2 := State.cell_setCell_ne s ci j ((s.cell ci).raised code) h
    simp only [State.cell] at e2 ⊢; rw [e]; exact e2
  simp only [State.trapCell]; rw [State.cell_setCell_ne _ _ _ _ h, e]

/-- Putting back the cell that is there changes nothing a read of it finds; where it runs a program, its pc alone moves. -/
theorem State.advance_eq (c : CellId) : s.advance (cellIdx c) = s.ran c (s.at c) := rfl

end Sys2Proof.Machine
end

