-- ==== Sys2Proof/Laws/LineCode.lean ====
section
/-! SUPPORT. The laws of the line code of fiber lanes: bytes and the numbers they spell, the scrambler and what it brings back, the blocks and
the control slots. -/

set_option Elab.async false

namespace Sys2Proof.Machine

/-! ### Bytes and the numbers they spell -/

@[simp] theorem length_toBytesLE (n x : Nat) : (toBytesLE n x).length = n := by
  induction n generalizing x with
  | zero => rfl
  | succ n ih => simp [toBytesLE, ih]

/-- A number comes back from its bytes, as far as they go. -/
theorem ofBytesLE_toBytesLE (n x : Nat) : ofBytesLE (toBytesLE n x) = x % 256 ^ n := by
  induction n generalizing x with
  | zero => simp [toBytesLE, ofBytesLE, Nat.mod_one]
  | succ n ih =>
    rw [toBytesLE, ofBytesLE, ih, Nat.pow_succ', Nat.mod_mul, BitVec.toNat_ofNat]

/-- A number of n bytes. -/
theorem ofBytesLE_lt (bs : List Byte) : ofBytesLE bs < 256 ^ bs.length := by
  induction bs with
  | nil => simp [ofBytesLE]
  | cons b bs ih =>
    have := b.isLt
    simp only [ofBytesLE, List.length_cons, Nat.pow_succ']
    omega

/-- The bytes come back from the number they spell. -/
theorem toBytesLE_ofBytesLE (bs : List Byte) : toBytesLE bs.length (ofBytesLE bs) = bs := by
  induction bs with
  | nil => rfl
  | cons b bs ih =>
    have h1 : (b.toNat + 256 * ofBytesLE bs) / 256 = ofBytesLE bs := by have := b.isLt; omega
    have h2 : BitVec.ofNat 8 (b.toNat + 256 * ofBytesLE bs) = b := by
      apply BitVec.eq_of_toNat_eq; have := b.isLt; simp; omega
    simp [toBytesLE, ofBytesLE, h1, h2, ih]

/-- The number that bytes spell, the first highest, is that of the reversed bytes, the first lowest. -/
theorem ofBytesBE_eq (bs : List Byte) : ofBytesBE bs = ofBytesLE bs.reverse := by
  have h : ∀ (bs : List Byte) (n : Nat), bs.foldr (fun b n => 256 * n + b.toNat) n = ofBytesLE bs + 256 ^ bs.length * n := by
    intro bs n
    induction bs with
    | nil => simp [ofBytesLE]
    | cons b bs ih => simp only [List.foldr_cons, ih, ofBytesLE, List.length_cons, Nat.pow_succ']; ring
  have := h bs.reverse 0
  simpa [ofBytesBE, List.foldr_reverse] using this

/-- Bytes come back from the number they spell, the first highest. -/
theorem toBytesBE_ofBytesBE (bs : List Byte) : toBytesBE bs.length (ofBytesBE bs) = bs := by
  rw [toBytesBE, ofBytesBE_eq, ← List.length_reverse (as := bs), toBytesLE_ofBytesLE, List.reverse_reverse]

/-- A number of n bytes, the first highest. -/
theorem ofBytesBE_lt (bs : List Byte) : ofBytesBE bs < 256 ^ bs.length := by
  rw [ofBytesBE_eq, ← List.length_reverse (as := bs)]; exact ofBytesLE_lt _

/-! ### The scrambler (R327) -/

/-- What was scrambled before stays, above what follows. -/
theorem scramble_shift (n h x : Nat) : scramble n h x >>> n = h := by
  induction n generalizing h with
  | zero => simp [scramble]
  | succ n ih =>
    have e : ∀ m, force m (fun h => scramble n h x) = scramble n m x := by intro m; cases m <;> rfl
    rw [scramble, e, Nat.shiftRight_succ, ih]
    omega

/-- Each scrambled bit is the bit with the scrambled bits 39 and 58 before it. -/
theorem scramble_bit (n h x k : Nat) (hk : k < n) : (scramble n h x).testBit k =
    ((x.testBit k ^^ (scramble n h x).testBit (k + 39)) ^^ (scramble n h x).testBit (k + 58)) := by
  induction n generalizing h with
  | zero => omega
  | succ n ih =>
    have e : ∀ m, force m (fun h => scramble n h x) = scramble n m x := by intro m; cases m <;> rfl
    rw [scramble, e]
    rcases Nat.lt_or_ge k n with hlt | hge
    · exact ih _ hlt
    · obtain rfl : k = n := by omega
      have sh : ∀ m j, (scramble k m x).testBit (k + j) = m.testBit j := by
        intro m j; rw [← Nat.testBit_shiftRight, scramble_shift]
      have h0 := sh (2 * h + ((x >>> k) ^^^ (h >>> 38) ^^^ (h >>> 57)) % 2) 0
      have h1 := sh (2 * h + ((x >>> k) ^^^ (h >>> 38) ^^^ (h >>> 57)) % 2) 39
      have h2 := sh (2 * h + ((x >>> k) ^^^ (h >>> 38) ^^^ (h >>> 57)) % 2) 58
      have half : (2 * h + ((x >>> k) ^^^ (h >>> 38) ^^^ (h >>> 57)) % 2) / 2 = h := by omega
      have low : (2 * h + ((x >>> k) ^^^ (h >>> 38) ^^^ (h >>> 57)) % 2).testBit 0 =
          ((x >>> k) ^^^ (h >>> 38) ^^^ (h >>> 57)).testBit 0 := by simp [Nat.testBit_zero]
      rw [Nat.add_zero] at h0
      rw [h0, h1, h2, low, Nat.testBit_add_one _ 38, Nat.testBit_add_one _ 57, half]
      rw [Nat.testBit_xor, Nat.testBit_xor, Nat.testBit_shiftRight, Nat.testBit_shiftRight, Nat.testBit_shiftRight]
      rfl

/-- The scrambled bits stand for the bits that were scrambled. -/
theorem descramble_scramble (n h x : Nat) (hx : x < 2 ^ n) : descramble n h (scramble n h x % 2 ^ n) = x := by
  have t : h * 2 ^ n + scramble n h x % 2 ^ n = scramble n h x := by
    have := Nat.div_add_mod (scramble n h x) (2 ^ n)
    rw [← Nat.shiftRight_eq_div_pow, scramble_shift, Nat.mul_comm] at this
    exact this
  simp only [descramble, t]
  apply Nat.eq_of_testBit_eq
  intro k
  rcases Nat.lt_or_ge k n with hk | hk
  · have := scramble_bit n h x k hk
    simp only [Nat.testBit_mod_two_pow, hk, decide_true, Bool.true_and, Nat.testBit_xor, Nat.testBit_shiftRight, this,
      Nat.add_comm 39 k, Nat.add_comm 58 k]
    cases x.testBit k <;> cases (scramble n h x).testBit (k + 39) <;> cases (scramble n h x).testBit (k + 58) <;> rfl
  · have : x.testBit k = false := Nat.testBit_lt_two_pow (Nat.lt_of_lt_of_le hx (Nat.pow_le_pow_right (by omega) hk))
    simp [Nat.testBit_mod_two_pow, this, Nat.not_lt.mpr hk]

/-! ### Blocks (R326) -/

/-- A block as sent. -/
theorem sendBlock_toNat (h : Nat) (ctl : Bool) (p : Nat) : (sendBlock h ctl p).2.toNat = mkBlock ctl (scramble 256 h p) := by
  simp only [sendBlock, BitVec.toNat_ofNat]
  apply Nat.mod_eq_of_lt
  simp only [mkBlock]
  have := Nat.mod_lt (scramble 256 h p) (Nat.two_pow_pos 256)
  split <;> omega

/-- The header of a block. -/
theorem blockHdr_mkBlock (ctl : Bool) (p : Nat) : blockHdr (mkBlock ctl p) = if ctl then 2 else 1 := by
  have := Nat.mod_lt p (Nat.two_pow_pos 256)
  simp only [blockHdr, mkBlock]; cases ctl <;> simp only [Bool.false_eq_true, if_false, if_true] <;> omega

/-- The payload bits of a block. -/
theorem mkBlock_mod (ctl : Bool) (a : Nat) : mkBlock ctl a % 2 ^ 256 = a % 2 ^ 256 := by
  rw [mkBlock, Nat.mul_comm, Nat.mul_add_mod, Nat.mod_mod]

/-- What a block brings. -/
theorem BLane.fiberBlock_snd (l : BLane) (w : Nat) :
    (l.fiberBlock w).2 = (blockHdr w == 2, toBytesBE 32 (descramble 256 l.rx.scr (w % 2 ^ 256))) := (rfl)

/-- A block as sent comes back with its kind and its bytes. -/
theorem BLane.fiberBlock_sendBlock (l : BLane) (ctl : Bool) (p : Nat) (hp : p < 2 ^ 256) :
    (l.fiberBlock (sendBlock l.rx.scr ctl p).2.toNat).2 = (ctl, toBytesBE 32 p) := by
  rw [BLane.fiberBlock_snd, sendBlock_toNat, blockHdr_mkBlock, mkBlock_mod, descramble_scramble 256 l.rx.scr p hp]
  cases ctl <;> rfl

/-- A block as sent keeps the lane locked. -/
theorem BLane.fiberBlock_locked (l : BLane) (ctl : Bool) (p : Nat) (hl : l.noLock = false) (hh : l.rx.hdrs = 0) :
    (l.fiberBlock (sendBlock l.rx.scr ctl p).2.toNat).1.noLock = false := by
  have hv : hdrValid (sendBlock l.rx.scr ctl p).2.toNat = true := by
    rw [sendBlock_toNat, hdrValid, blockHdr_mkBlock]; cases ctl <;> rfl
  simp only [BLane.fiberBlock, LaneRx.header, hv, hh, hl, LaneRx.noLock, LaneRx.invalid, Bool.false_eq_true, if_false]
  decide

/-! ### Control slots (R365) -/

/-- The parity is 16 bits. -/
theorem laneParity_lt (bs : List Byte) : laneParity bs < 2 ^ 16 := by
  have h : ∀ (l : List Nat) (a : Nat), a < 2 ^ 16 → l.foldl (fun a i => a ^^^ bfld bs (2 * i) 2) a < 2 ^ 16 := by
    intro l
    induction l with
    | nil => intro a ha; exact ha
    | cons i l ih =>
      intro a ha
      refine ih _ (Nat.xor_lt_two_pow ha ?_)
      refine Nat.lt_of_lt_of_le (ofBytesLE_lt _) ?_
      calc 256 ^ ((bs.drop (2 * i)).take 2).length ≤ 256 ^ 2 := Nat.pow_le_pow_right (by omega) (by simp)
        _ = 2 ^ 16 := by norm_num
  exact h _ _ (by norm_num)

@[simp] theorem length_padTo (n : Nat) (l : List Byte) : (padTo n l).length = n := by simp only [padTo, zeros, List.length_append, List.length_take, List.length_replicate]; omega

/-- A slot passes its parity. -/
theorem slotOk_slotBytes (bs : List Byte) : slotOk (slotBytes bs) = true := by
  have take : ∀ i, i < 15 → ((slotBytes bs).drop (2 * i)).take 2 = ((padTo 30 bs).drop (2 * i)).take 2 := by
    intro i hi
    rw [slotBytes, List.drop_append_of_le_length (by simp; omega), List.take_append_of_le_length (by simp; omega)]
  have par : laneParity (slotBytes bs) = laneParity (padTo 30 bs) := by
    simp only [laneParity, bfld]
    apply List.foldl_ext
    intro a i hi
    rw [take i (List.mem_range.mp hi)]
  have last : bfld (slotBytes bs) 30 2 = laneParity (padTo 30 bs) := by
    have : (slotBytes bs).drop 30 = toBytesLE 2 (laneParity (padTo 30 bs)) := by
      rw [slotBytes]; exact List.drop_left' (length_padTo 30 bs)
    rw [bfld, this, List.take_of_length_le (by simp), ofBytesLE_toBytesLE, Nat.mod_eq_of_lt]
    exact laneParity_lt _
  rw [slotOk, par, last, show (slotBytes bs).length = 32 by simp [slotBytes]]; simp

end Sys2Proof.Machine
end

