-- ==== Sys2Proof/Tests/Slice0.lean ====
section
/-! SUPPORT. Tests: well-formedness refuses what it must, the row word of R96 decodes, and for every statement with hypotheses states and
operands that meet them together. -/

set_option maxRecDepth 20000
set_option Elab.async false

namespace Sys2Proof.Tests
open Sys2Proof Sys2Proof.Machine

/-! ### States and operands of the witnesses -/

/-- The device after its start sequence: every rail good, every die released, nothing in any memory. -/
def tUp : State :=
  { State.reset with pwr := { Pwr.off with started := true, lost := false, good := (List.range 5).map (·, true),
                                           up := (List.range 23).map (·, true) } }
/-- Cell T0.C0.c0, and the last cell T3.C15.c15. -/
def tC : CellId := { die := 0, cluster := 0, cell := 0 }
/-- The last cell of the device. -/
def tZ : CellId := { die := 3, cluster := 15, cell := 15 }
/-- Operands in the formats of R96. -/
def tFA (mods rd ra rb rc imm : Nat) : FA :=
  { mods := BitVec.ofNat 8 mods, rd := BitVec.ofNat 5 rd, ra := BitVec.ofNat 5 ra, rb := BitVec.ofNat 5 rb, rc := BitVec.ofNat 5 rc,
    imm12 := BitVec.ofNat 12 imm, rsv := 0 }
/-- FB. -/
def tFB (mods rd ra imm : Nat) : FB :=
  { mods := BitVec.ofNat 8 mods, rd := BitVec.ofNat 5 rd, ra := BitVec.ofNat 5 ra, rsv := 0, imm64 := BitVec.ofNat 64 imm }
/-- FC. -/
def tFC (mods ra rb : Nat) (offset : Int) : FC :=
  { mods := BitVec.ofNat 8 mods, ra := BitVec.ofNat 5 ra, rb := BitVec.ofNat 5 rb, rsv := 0, offset := BitVec.ofInt 32 offset }
/-- FD. -/
def tFD (mods acc ta tb oa k ob : Nat) : FD :=
  { mods := BitVec.ofNat 8 mods, acc := BitVec.ofNat 5 acc, ta := BitVec.ofNat 5 ta, tb := BitVec.ofNat 5 tb, oa := BitVec.ofNat 5 oa,
    k := BitVec.ofNat 12 k, ob := BitVec.ofNat 5 ob, rsv := 0 }
/-- FE. -/
def tFE (mods src dst len sig token increment immA immB : Nat) : FE :=
  { mods := BitVec.ofNat 8 mods, src := BitVec.ofNat 5 src, dst := BitVec.ofNat 5 dst, len := BitVec.ofNat 5 len, sig := BitVec.ofNat 5 sig,
    token := BitVec.ofNat 12 token, increment := BitVec.ofNat 16 increment, immA := BitVec.ofNat 32 immA, immB := BitVec.ofNat 32 immB }
/-- FF. -/
def tFF (mods sa sb sc sd token increment tag imm16 imm32 : Nat) : FF :=
  { mods := BitVec.ofNat 8 mods, sa := BitVec.ofNat 5 sa, sb := BitVec.ofNat 5 sb, sc := BitVec.ofNat 5 sc, sd := BitVec.ofNat 5 sd,
    token := BitVec.ofNat 12 token, increment := BitVec.ofNat 16 increment, tag := BitVec.ofNat 16 tag, imm16 := BitVec.ofNat 16 imm16,
    imm32 := BitVec.ofNat 32 imm32 }
/-- A cell that runs at the first address of its memory, with values in s1 to s4 and in p1 and p2. -/
def tCell (c : CellId) : Cell :=
  { Cell.reset with phase := .running, pc := 0x20000000000 + 2 ^ 20 * cellIdx c,
                    s := [(1, 0xFFFFFFFFFFFFFFF9), (2, 7), (3, BitVec.ofNat 64 (0x20000000040 + 2 ^ 20 * cellIdx c)), (4, 3)],
                    p := [(1, 5), (2, 0xFFFFFFFFFFFFFFFF)] }
/-- The device with that cell running. -/
def tRun (c : CellId) : State := tUp.setCell (cellIdx c) (tCell c)
/-- The device with every link of the Bed LIVE. -/
def tBed : State := { tUp with bed := { tUp.bed with links := allLinks.map fun l => (32 * l.1 + l.2, { BLink.down with state := .live }) } }
/-- The running cell with an outstanding asynchronous instruction. -/
def tBusy : State := tUp.setCell 0 { tCell tC with ops := [{ id := 1, kind := .move, sig := { reach := 0, remote := false, device := 0, token := 0, inc := 0 }, left := 1, status := 0, opcode := 0x60 }] }
/-- The running cell with an entry in its tensor queue. -/
def tQueue : State := tUp.setCell 0 { tCell tC with tq := [.accz 0] }
/-- The running cell with a stored seed. -/
def tSeed : State := tUp.setCell 0 { tCell tC with seed := some 9 }
/-- Cell T0.C0.c0 with lanes in v1, v2 and v4, v3 poisoned, and p1 with lanes 0 and 2. -/
def tVecCell : Cell :=
  { tCell tC with
      v := [(64, 0x3F800000), (65, 0xBF800000), (66, 0x7F800000), (67, 5), (69, 0x40490FDB), (127, 0x80000000),
            (128, 0x40000000), (129, 0x7FC00000), (130, 0xFF800000), (132, 0x80000000), (256, 0x41200000), (258, 7)],
      vp := [(3, true)], a := [(0, 0x3F800000), (65, 0x40000000), (130, 0x40400000)], ap := [(1, true)] }
/-- The device with that cell. -/
def tVec : State := tUp.setCell 0 tVecCell
/-- A value of a witness. -/
def w13_11 : VMod := { guard := none, lt := 0 }
/-- A value of a witness. -/
def w13_12 : VMod := { guard := none, lt := 1 }
/-- A value of a witness. -/
def w13_13 : VMod := { guard := some 1, lt := 2 }
/-- A value of a witness. -/
def w13_15 : VMod := { guard := some 1, lt := 1 }
/-- A value of a witness. -/
def w13_16 : VMod := { guard := some 1, lt := 0 }
/-- A value of a witness. -/
def w13_17 : VMod := { guard := none, lt := 2 }
/-- A tiled region in the memory of cell T0.C0.c0: four slots of 4,096 bytes from offset 0x1000, its trailers at 0x800. -/
def tRegion : Region := { valid := true, base := 0x20000001000, trl := 0x20000000800, count := 4, slotUnits := 64, sealFmt := 0 }
/-- A descriptor of E4M3 tiles from that region's base, with the stride of a slot. -/
def tD : BitVec 256 := BitVec.ofNat 256 (0x20000001000 + 4096 * 2 ^ 64 + 4 * 2 ^ 96)
/-- The cell with that descriptor in d0 and d1, and a tensor queue. -/
def tTens (tq : List TEntry) : State :=
  { tUp with trg := [(0, tRegion)] }.setCell 0 { tCell tC with d := [(0, tD), (1, tD)], tq, a := [(0, 0x3F800000), (9, 0xC0000000)] }
/-- The descriptor as an instruction reads it with an offset of 0. -/
def tTD : TDesc := (tTens []).readDesc tD 0
/-- TensorEntryResults, its second and third clause. -/
theorem witTensorEntryResultsTiles :
    fmtOf tTD.fmt = some { elem := .fp e4m3, bits := 8, mx := false, emax := 8, tile := 4096 } ∧
    regionIn tTD.trg tTD.base tTD.size = some tRegion ∧ tRegion.trailerDA tTD.base + 8 ≤ tTD.base ∧
    (tTens [.accst 0 tTD 0 5]).plcOk ((tTens [.accst 0 tTD 0 5]).at tC).wu ((tTens [.accst 0 tTD 0 5]).at tC).epoch = true ∧
    (tTens [.accst 0 tTD 0 5]).dieUp (cellIdx tC / 256) = true ∧
    fmtOf 0x0B = some { elem := .int 4, bits := 4, mx := false, emax := 0, tile := 2048 } ∧
    ((tTens []).useTile ((tTens []).viewEnd .clear) { tTD with base := 0x20000002000, fmt := 0x0B } 0x20000002000).2 = false ∧
    ((tTens []).at tC).emask[1] = false ∧
    ((tTens [.accld 2 { tTD with base := 0x20000002000, fmt := 0x0B }]).at tC).tq = [.accld 2 { tTD with base := 0x20000002000, fmt := 0x0B }] := by
  decide +kernel
/-- Cell T0.C0.c0 running, with counters and pools in its reach's table: counter 7 at 10, counter 4095 at its largest, pool 3 at 5 of 8. -/
def tTok (block : Option CBlock) : State :=
  { tUp with reaches := [(0, { Reach.empty with tokens := [(7, 10), (4095, 0xFFFFFFFF)], poolCnt := [(3, 5)], poolCap := [(3, 8)] })] }.setCell 0
    { tCell tC with block }
/-- The running cell whose s3 and s4 name two ranges of its memory, 128 bytes each, with EST's ledger of its cluster at 50 µJ. -/
def tAsync (c : CellId) : State :=
  { tUp with nrg := { Nrg.reset with ledgers := [(0, { bal := 50, cap := some 100 })], room := [(0, 40)], pkgRoom := 0,
                                      corr := (List.range 48).map (·, 2 ^ 28) } }.setCell (cellIdx c)
    { tCell c with s := [(3, BitVec.ofNat 64 (0x20000000040 + 2 ^ 20 * cellIdx c)), (4, BitVec.ofNat 64 (0x20000000400 + 2 ^ 20 * cellIdx c))], work := 0x5000A0003 }
/-- An instruction that is over, with no completion signal. -/
def tDoneOp : AOp := { id := 4, kind := .move, sig := { reach := 0, remote := false, device := 0, token := 0, inc := 0 }, left := 0, status := 0, opcode := 0x60 }
/-- A cell at the end of the RUN of command 9. -/
def tEnd (phase : CPhase) (ops : List AOp) : State :=
  { tUp with reaches := [(0, { Reach.empty with running := [{ id := 9, iss := .none, bytes := [], share := none, acted := false, done := none, left := 0, fail := 0, data := 0, sent := false }] })] }.setCell 0
    { tCell tC with phase, run := some 9, status := 0x402, ops }
/-- A command of R54 with the fields named: first byte, bytes, value. -/
def tCmd (fs : List (Nat × Nat × Nat)) : List Byte := fs.foldl (fun b f => bput b f.1 f.2.1 f.2.2) (zeros 64)
/-- A WAIT for the package's reach, as a queue holds it. -/
def tQ (id : Nat) (bytes : List Byte) : QCmd := { id, iss := .mgmt, bytes, share := none, deferred := false, rampHeld := false }
/-- A running command that has not acted. -/
def tR (id : Nat) (bytes : List Byte) : RCmd :=
  { id, iss := .mgmt, bytes, share := none, acted := false, done := none, left := 0, fail := 0, data := 0, sent := false }
/-- A running command that is over with a status. -/
def tOver (id : Nat) (bytes : List Byte) (iss : Issuer) (st : Nat) : RCmd := { tR id bytes with iss, acted := true, done := some st }
/-- The device with one reach. -/
def tReach (r : Nat) (x : Reach) : State := { tUp with reaches := [(r, x)], opNext := 50 }
/-- A WAIT at the package. -/
def tWait : List Byte := tCmd [(0, 1, 5), (4, 4, ridPkg)]
/-- A WAIT that takes 3 units of pool 2. -/
def tTake : List Byte := tCmd [(0, 1, 5), (3, 1, 2), (4, 4, 0x030F0000), (36, 2, 3)]
/-- A WAIT whose wait names counter 4,095 and threshold 2. -/
def tWait2 : List Byte := tCmd [(0, 1, 5), (4, 4, ridPkg), (16, 2, 0x8FFF), (20, 4, 2)]
/-- A device whose reach selects name a pool. -/
def tSel (sel v : Nat) : State := { tUp with regs := [(sel, BitVec.ofNat 32 v)], reaches := [(0x02F00000, { Reach.empty with poolCnt := [(63, 9)], poolCap := [(63, 9)] })] }
/-- A RUN at level 0. -/
def tRunCmd (pc : Nat) : List Byte := tCmd [(0, 1, 1), (4, 4, 0x000F0000), (8, 4, 77), (42, 8, pc), (50, 8, 0x1234)]
/-- A split descriptor in the memory of cell T0.C0.c0: REPLICATE over child 0; and a WAIT command for a SPLIT beside it. -/
def tSplitMem : State := (tUp.writeMem 0x20000000100 (tCmd [(0, 1, 0), (2, 2, 1)] |>.take 32)).writeMem 0x20000000200 (tCmd [(0, 1, 5), (4, 4, 0)])
/-- A command of cluster T0.C0 in that device. -/
def tAt1 (b : List Byte) : State := { tSplitMem with reaches := [(0x20000000, { Reach.empty with running := [tR 7 b] })], opNext := 50 }
/-- RUN over children. -/
def tRunSplit : List Byte := tCmd [(0, 1, 1), (4, 4, 0x20000000), (42, 8, 0x20000000000), (58, 6, 0x20000000100)]
/-- SPLIT of a command and a descriptor. -/
def tSplit (cmd desc : Nat) : List Byte := tCmd [(0, 1, 2), (4, 4, 0x20000000), (42, 8, cmd), (50, 6, desc)]
/-- MOVE of 64 bytes. -/
def tMove (r dst : Nat) : List Byte := tCmd [(0, 1, 3), (4, 4, r), (42, 8, 0x20000000100), (50, 8, dst), (58, 4, 64)]
/-- SIGNAL of counter 4,095 of cell T3.C15.c15. -/
def tSignal : List Byte := tCmd [(0, 1, 4), (4, 4, ridPkg), (28, 4, 0x03FF0000), (32, 2, 0x8FFF), (34, 2, 65535)]
/-- GIVE of 9 units to pool 63 of a reach. -/
def tGive (dest : Nat) : List Byte := tCmd [(0, 1, 6), (4, 4, ridPkg), (42, 1, 63), (44, 4, 9), (48, 4, dest)]
/-- PLACE of item 4,095 at T1 (rel 0) or its release (rel 1). -/
def tPlace (rel : Nat) : List Byte := tCmd [(0, 1, 8), (4, 4, ridPkg), (42, 2, 4095), (44, 4, 0x41000000), (59, 1, rel)]
/-- The device with that command running and an entry of the item. -/
def tPl (b : List Byte) (e : Plc) : State := { tReach ridPkg { Reach.empty with running := [tR 7 b] } with plc := [(4095, e)] }
/-- The item placed at T0 by this device, its home. -/
def tPlaced : Plc := { Plc.empty with state := .placed, reach := 0x40000000, home := true, placedEver := true, epoch := 255 }
/-- The item placed with two destination devices to answer. -/
def tAsk (w a : List Nat) : Plc := { tPlaced with dests := [5, 6], cmd := some 7, waiting := w, acked := a }
/-- A copy of an entry of device 9. -/
def tCopy : PlcCopy := { home := 9, item := 4095, state := 1, reach := 0x41000000, device := 9, epoch := 255, dests := [0], moved := false, oldReach := 0, oldDevice := 0, newReach := 0, newDevice := 0, reportDA := 0, delivering := [] }
/-- MIGRATE of item 4,095 to T1, with FENCE or without. -/
def tMig (fence : Nat) : List Byte := tCmd [(0, 1, 7), (4, 4, ridPkg), (42, 2, 4095), (44, 1, fence), (46, 4, 0x41000000), (54, 6, 0x10000000000)]
/-- The item DRAINING toward T1. -/
def tDraining : Plc := { tPlaced with state := .draining, newReach := 0x41000000, oldReach := 0x40000000, cmd := some 7 }
/-- The item FENCING with one unit that is being delivered and one that is over. -/
def tFencing : Plc := { tPlaced with state := .fencing, report := [(4095 * 2 ^ 20, 0), (4095 * 2 ^ 20 + 1, 2)], waiting := [5], cmd := some 7, reportDA := 0x10000000000 }
/-- A value of a witness. -/
def w20_19 : State := tReach ridPkg { Reach.empty with queue := List.replicate 1024 (tQ 1 tWait) }
/-- A value of a witness. -/
def w20_24 : State := tReach 0x030F0000 { Reach.empty with queue := [tQ 1 tTake, tQ 2 tTake], poolCap := [(2, 2)], poolCnt := [(2, 2)] }
/-- A value of a witness. -/
def w20_25 : State := tReach 0x030F0000 { Reach.empty with queue := [tQ 1 tTake, tQ 2 tTake], poolCap := [(2, 3)], poolCnt := [(2, 3)] }
/-- A value of a witness. -/
def w20_28 : State := tReach ridPkg { Reach.empty with queue := [tQ 1 tWait2], tokens := [(4095, 1)] }
/-- A value of a witness. -/
def w20_29 : State := tReach ridPkg { Reach.empty with queue := [tQ 1 tWait2], tokens := [(4095, 2)] }
/-- A value of a witness. -/
def w20_30 : State := tReach ridPkg { Reach.empty with running := [tOver 7 tWait .mgmt 0] }
/-- A value of a witness. -/
def w20_31 : State := tReach ridPkg { Reach.empty with running := [tOver 7 tWait .none 11] }
/-- A value of a witness. -/
def w20_32 : State := { tUp with reaches := [(0x030F0000, { Reach.empty with running := [tOver 7 tTake (.parent ridPkg 8) 0] }), (ridPkg, { Reach.empty with running := [{ tR 8 tWait with left := 2, acted := true }] })] }
/-- A value of a witness. -/
def w20_39 : State := tReach 0x000F0000 { Reach.empty with running := [tR 7 (tRunCmd 8)] }
/-- A value of a witness. -/
def w20_40 : State := tReach 0x000F0000 { Reach.empty with running := [tR 7 (tRunCmd 0x20000F00010)] }
/-- A value of a witness. -/
def w20_57 : State := tReach 0 { Reach.empty with running := [tR 7 (tMove 0 0x30000000000)] }
/-- A value of a witness. -/
def w20_58 : State := tReach 0 { Reach.empty with running := [tR 7 (tMove 0 0x20000000400)] }
/-- A value of a witness. -/
def w20_61 : State := { tReach ridPkg { Reach.empty with running := [tR 7 tSignal] } with bed := tBed.bed }
/-- A value of a witness. -/
def w20_62 : State := tReach ridPkg { Reach.empty with running := [tR 7 tSignal] }
/-- A value of a witness. -/
def w20_63 : State := tReach ridPkg { Reach.empty with running := [tR 7 tWait] }
/-- A value of a witness. -/
def w20_66 : State := tReach ridPkg { Reach.empty with running := [tR 7 (tGive 1)] }
/-- A value of a witness. -/
def w20_67 : State := { (tReach ridPkg { Reach.empty with running := [tR 7 (tGive 0)] }) with bed := tBed.bed, reaches := [(0, { Reach.empty with poolCap := [(63, 5)], poolCnt := [(63, 1)] }), (ridPkg, { Reach.empty with running := [tR 7 (tGive 0)] })] }
/-- A value of a witness. -/
def w20_76 : State := tPl (tPlace 0) { Plc.empty with placedEver := true, epoch := 255, home := true }
/-- A value of a witness. -/
def w20_90 : State := tPl (tMig 0) { tPlaced with cmd := some 3 }
/-- A value of a witness. -/
def w20_96 : State := { tPl (tMig 0) tDraining with reaches := [(0, { Reach.empty with queue := [tQ 3 (tCmd [(0, 1, 5), (8, 4, 4095 * 2 ^ 20)])] }), (ridPkg, { Reach.empty with running := [tR 7 (tMig 0)] })] }
/-- A value of a witness. -/
def w20_98 : State := tPl (tMig 0) { tDraining with home := false, homeDev := 9, cmd := none }
/-- A value of a witness. -/
def w20_101 : State := tPl (tMig 1) { tFencing with ended := [(4095 * 2 ^ 20, false)] }
/-- A value of a witness. -/
def w20_102 : State := tPl (tMig 1) { tFencing with ended := [(4095 * 2 ^ 20, true)] }
/-- A value of a witness. -/
def w20_103 : State := tPl (tMig 1) { tFencing with oldDevice := 9, reported := true }
/-- The change log is full: the next entry is 131,072 past the acknowledged one. -/
def tFull : State := { tUp with log := { Log.empty with next := 131072 } }
/-- The device with one register set. -/
def tReg (off : Nat) (v : Word) : State := { tUp with regs := [(off, v)] }
/-- A tiled region in stack 0: two slots of 8,192 bytes from 0x10000, trailers at 0x8000. -/
def tReg0 : Region := { valid := true, base := 0x10000, trl := 0x8000, count := 2, slotUnits := 128, sealFmt := 4 }
/-- The staged registers of that region in entry 255, its entry in the table, and a commit under way or none. -/
def tTrg (table : Tab Region) (commit : Option TrgCommit) : State :=
  { tUp with regs := [(Reg.KEY_TRG_SEL, 255), (Reg.KEY_TRG_BASE_LO, 0x10000), (Reg.KEY_TRG_TRL_LO, 0x8000), (Reg.KEY_TRG_COUNT, 2)],
             trg := table, trgCommit := commit }
/-- Live Bed links between the keystone and T0 and W0. -/
def tLit : State :=
  { tUp with bed := { links := [(22, { BLink.down with state := .live }), (150, { BLink.down with state := .live }),
                                (704, { BLink.down with state := .live }), (708, { BLink.down with state := .live })], lanes := [] } }
/-- Asleep in SLACK. -/
def tSlack : State := { tUp with regs := [(Reg.NRG_PSTATE, 8)] }
/-- A MOVE of command 9 of cell T0.C0.c0. -/
def tMv (dst len : Nat) (regions : Tab Region) : MoveOp :=
  { id := 5, owner := .reach 0 9, engine := 0, die := 0, src := 0x20000000100, dst, len, fold := false, bf16 := false, sealEpoch := 6,
    workUnit := 0, epoch := 0, status := 0, todo := [], left := 0, trls := [], badSlots := [], regions }
/-- The device with that MOVE in progress. -/
def tMoving (m : MoveOp) : State :=
  { tUp with moves := [m], reaches := [(0, { Reach.empty with running := [{ id := 9, iss := .mgmt, bytes := [], share := none, acted := true, done := none, left := 0, fail := 0, data := 0, sent := false }] })] }.writeMem 0x20000000100 [1, 2, 3]
/-- MoveCompletionResults, its third clause: to one slot of the region. -/
theorem witMoveToTile :
    let m := tMv 0x12000 8192 [(0, tReg0)]
    let s := { tMoving m with trg := [(0, tReg0)] }
    s.move 5 = some m ∧ s.moveRunning m = true ∧ s.pwr.fatal = false ∧ s.released m.die = true ∧ s.asleep = false ∧
    s.isLocal (gaDev m.src) = true ∧ s.isLocal (gaDev m.dst) = true ∧ s.poisonRange (gaDA m.src) m.len = false ∧
    s.plcOk m.workUnit m.epoch = true ∧ rangeKind m.regions (gaDA m.src) m.len = .untiled ∧ rangeKind m.regions (gaDA m.dst) m.len = .tiled tReg0 ∧
    m.len = tReg0.slot ∧ tileBytes tReg0.sealFmt ≤ tReg0.slot ∧ rangesMeet (gaDA m.src) m.len (gaDA m.dst) m.len = false ∧
    rangesMeet (gaDA m.dst) (tileBytes tReg0.sealFmt) (tReg0.trailerDA (gaDA m.dst)) 8 = false ∧ tileBytes tReg0.sealFmt ≠ 0 := by
  decide +kernel
/-- A value of a witness. -/
def w22_10 : State := tTrg [(255, tReg0)] (some { entry := 3, region := tReg0, init := true })
/-- A value of a witness. -/
def w22_15 : State := (tTrg [] (some { entry := 255, region := tReg0, init := true })).writeMem 0x8008 [1, 2, 3]
/-- A value of a witness. -/
def w22_15b : TrgCommit := { entry := 255, region := tReg0, init := true }
/-- A value of a witness. -/
def w22_16 : State := (tTrg [] (some { entry := 255, region := tReg0, init := false })).writeMem 0x8008 [1, 2, 3]
/-- A value of a witness. -/
def w22_16b : TrgCommit := { entry := 255, region := tReg0, init := false }
/-- A value of a witness. -/
def w22_38 : State := { tMoving { tMv 0x10000000000 64 [] with workUnit := 2 ^ 20 } with plc := [(1, { Plc.empty with placedEver := true, state := .placed, epoch := 1 })] }
/-- A value of a witness. -/
def w22_38b : MoveOp := { tMv 0x10000000000 64 [] with workUnit := 2 ^ 20 }
/-- Bytes of a given length with fields (place, width in bytes, value). -/
def tBytes (len : Nat) (fs : List (Nat × Nat × Nat)) : List Byte := fs.foldl (fun b f => bput b f.1 f.2.1 f.2.2) (zeros len)
/-- A Weir command block 9 of cell T0.C0.c0. -/
def tBlk (bytes : List Byte) : WBlk :=
  { id := 9, iss := .cell 0 7, bytes, workUnit := 0, epoch := 0, bcast := false, declared := bytes.length }
/-- An ACTIVE slot of one page a stack and one head. -/
def tSlot : Slot := { Slot.free with active := true, epoch := 0x10, rsv := 1 }
/-- A KV partition of 16 MiB at 0, and Weir n with its slot 2 active, a queue and running commands. -/
def tWeir (n : Nat) (queue : List WBlk) (running : List WRun) : State :=
  { tUp with regs := [(Reg.KEY_SLOT_SEL, 2), (Reg.KEY_SLOT_RSV, 1), (Reg.KEY_KV_PART, 0x100000)], slots := [(2, tSlot)],
             weirs := [(n, { Weir.empty with slots := [(2, tSlot)], queue, running, lens := [(2, 300)] })] }
/-- Weir 3 running one block. -/
def tRunsB (k : WBlk) : State := tWeir 3 [] [{ blk := k, regions := [], done := none }]
/-- The stale placement of work item 1, and the block under it. -/
def tStale (k : WBlk) : State := { tRunsB k with plc := [(1, { Plc.empty with placedEver := true, state := .placed, epoch := 1 })] }
/-- A block under work item 1 of epoch 0. -/
def tOld (k : WBlk) : WBlk := { k with workUnit := 2 ^ 20 }
/-- Blocks: ATTEND of one head, EVICT, REQUANT, RESUMMARIZE on page 3 of head 0, APPEND of one entry. -/
def tAttend : List Byte := tBytes 352 [(0, 1, 2), (2, 1, 2), (16, 8, 0x30002000000), (24, 4, 576), (28, 4, 1000)]
/-- EVICT in a mode. -/
def tEvict (m len : Nat) : List Byte := tBytes 64 [(0, 1, 6), (2, 1, 2), (28, 1, m), (34, 2, 1), (36, 4, 3), (40, 4, 1), (44, 4, len)]
/-- REQUANT. -/
def tRequant : List Byte := tBytes 64 [(0, 1, 5), (2, 1, 2), (34, 2, 1), (36, 4, 3), (40, 4, 1)]
/-- RESUMMARIZE. -/
def tResum (m : Nat) : List Byte := tBytes (64 + 2048 * m) [(0, 1, 7), (2, 1, 2), (28, 1, m), (34, 2, 1), (36, 4, 3), (40, 4, 1)]
/-- APPEND. -/
def tAppend : List Byte := tBytes 640 [(0, 1, 1), (2, 1, 2), (28, 2, 1), (68, 4, 194), (96, 2, 0x3F80), (608, 4, 0xA5)]
/-- The cell's WQ 7, whose part of Weir 3 is over. -/
def tWqOver (st : Nat) : State :=
  { tWeir 3 [] [{ blk := tBlk tRequant, regions := [], done := some st }] with cells := [(0, { tCell tC with ops := [{ id := 7, kind := .wq, sig := { reach := 0, remote := false, device := 0, token := 0, inc := 0 }, left := 2, status := 0, opcode := 0x91 }] })] }
/-- An action in progress. -/
def tAct (a : Nat) (x : Slot) : SlotAct := { slot := 2, action := a, staged := x, applied := [] }
/-- A FOLD of 64 bytes, and a GATHER of the elements 1 and 0 of a table of two. -/
def tFold : List Byte := tBytes 64 [(0, 1, 3), (16, 8, 0x3002000000), (32, 8, 0x3002000100), (40, 4, 64)]
/-- GATHER. -/
def tGather : List Byte := tBytes 128 [(0, 1, 4), (16, 8, 0x3002000000), (32, 8, 0x3003000000), (40, 4, 64), (44, 4, 2), (48, 4, 2), (64, 4, 1)]
/-- A region in stack 3, and a fold that arrives at its second slot. -/
def tReg3 : Region := { valid := true, base := 0x3000010000, trl := 0x3000008000, count := 2, slotUnits := 128, sealFmt := 1 }
/-- The fold. -/
def tFoldIn : FoldIn := { dest := 0x3000012000, bf16 := false, data := [1, 2, 3, 4], fmt := 1, bad := false, workUnit := 0, epoch := 0 }
/-- Page 3 of head 0 with its header, whose trailer is right. -/
def tPage (present fmt : Nat) (s : State) : State :=
  s.putHdr (s.pageAt 3 tSlot 0 3) { present, page := 3, fmt, flags := 0 } 0x10 false
/-- A full page of zero tiles with right trailers. -/
def tFullPage (s : State) : State :=
  let a := s.pageAt 3 tSlot 0 3
  tPage (2 ^ 64 - 1) 4 ((List.range 4).foldl (fun s b => s.writeMem (a.trl b) (Trailer.toBytes { crc := 0x98F94189, epoch := 0x10, fmt := 4, flags := 2 })) s)
/-- A page of zero sketches and a zero summary block, with right trailers. -/
def tSkPage (s : State) : State :=
  let a := s.pageAt 3 tSlot 0 3
  let t := Trailer.toBytes { crc := 0xA489834F, epoch := 0x10, fmt := 0, flags := 2 }
  tPage 9 4 ((s.writeMem (a.trl 4) t).writeMem a.strl t)
/-- A value of a witness. -/
def w23_30 : State := tWeir 3 [tBlk tRequant, { tBlk tAttend with id := 10 }] []
/-- A value of a witness. -/
def w23_30b : List WBlk := [{ tBlk tAttend with id := 10 }]
/-- A value of a witness. -/
def w23_31 : State := tWeir 15 [tBlk tRequant] [{ blk := { tBlk tAttend with id := 10 }, regions := [], done := none }]
/-- A value of a witness. -/
def w23_32 : State := { tWeir 15 [tBlk tRequant] [] with reaches := [(weirRid 15, { Reach.empty with queue := [{ id := 9, iss := .mgmt, bytes := zeros 64, share := none, deferred := false, rampHeld := false }] })] }
/-- A value of a witness. -/
def w23_36 : WRun := { blk := tBlk tRequant, regions := [], done := some 0 }
/-- A value of a witness. -/
def w23_36b : AOp := { id := 7, kind := .wq, sig := { reach := 0, remote := false, device := 0, token := 0, inc := 0 }, left := 2, status := 0, opcode := 0x91 }
/-- A value of a witness. -/
def w23_43 : State := { tWeir 3 [] [] with slots := [] }
/-- A value of a witness. -/
def w23_44 : State := { tUp with regs := [(Reg.KEY_SLOT_SEL, 7), (Reg.KEY_SLOT_RSV, 1)] }
/-- A value of a witness. -/
def w23_50 : State := { tWeir 3 [] [] with slots := [], slotAct := some (tAct 1 tSlot), pwr := { tUp.pwr with up := tUp.pwr.up.filter (·.1 ≠ dieW 15) } }
/-- A value of a witness. -/
def w23_51 : State := { tWeir 3 [] [] with slots := [], slotAct := some (tAct 1 tSlot) }
/-- A value of a witness. -/
def w23_52 : State := { tWeir 3 [] [] with slotAct := some (tAct 2 { tSlot with pol0 := 5 }) }
/-- A value of a witness. -/
def w23_52b : SlotAct := tAct 2 { tSlot with pol0 := 5 }
/-- A value of a witness. -/
def w23_53 : State := { tWeir 3 [] [] with slotAct := some (tAct 3 tSlot) }
/-- A value of a witness. -/
def w23_69 : FoldIn := { tFoldIn with workUnit := 2 ^ 20 }
/-- A value of a witness. -/
def w23_69b : State := { tUp with trg := [(0, tReg3)], plc := [(1, { Plc.empty with placedEver := true, state := .placed, epoch := 1 })] }
/-- A value of a witness. -/
def w23_70 : State := { tUp with trg := [(0, tReg3)] }
/-- The device with Confluence unit t. -/
def tCu (t : Nat) (u : Cu) : State := { tUp with cus := [(t, u)] }
/-- A unit that is characterised, locked and has an active set of tag 5. -/
def tUnit (mode : Nat) : Cu :=
  { Cu.reset with characterised := true, locked := true, mode, active := { tag := 5, gain := 1, scales := [(0, 0x3F800000)], w := [(0, 64), (65, 0xC0)] } }
/-- An OPROJ of cell T1.C0.c0 with one BF16 vector from cell memory, and the operation it belongs to. -/
def tOproj (st : Option Nat) (mode wu : Nat) : CuEntry := .oproj 256 3 0x20010000000 0x20010001000 st 5 0 0 mode 1 wu 0
/-- Operation 3. -/
def tOp3 (kind : AKind) (opcode : Nat) : AOp :=
  { id := 3, kind, sig := { reach := 0, remote := false, device := 0, token := 0, inc := 0 }, left := 1, status := 0, opcode }
/-- The device with that cell and unit 1. -/
def tJob (kind : AKind) (opcode : Nat) (u : Cu) : State :=
  { tCu 1 u with cells := [(256, { Cell.reset with phase := .running, ops := [tOp3 kind opcode] })] }.writeMem 0x20010000000 [0x80, 0x3F, 0, 0xC0]
/-- A BOUND at the head of the queue that commits tag 6. -/
def tBoundQ (mode : Nat) (valid : Bool) : Cu :=
  { tUnit mode with queue := [.bound 256 3 6 true false, tOproj none 1 0], stagedValid := valid, staged := { tag := 6, gain := 0, scales := [], w := [] } }
/-- What holds it: the commit of tag 6, after some failed verifications of row 255. -/
def tHold (again : List Nat) (tries : Tab Nat) : CuHold := { take := some 6, bound := some (256, 3), swap := false, again, tries, enter := false }
/-- A held unit whose BOUND commits. -/
def tHeld (h : CuHold) : Cu := { tUnit 1 with hold := some h }
/-- A value of a witness. -/
def w24_16 : State := tCu 1 { tUnit 1 with queue := [tOproj none 1 0, .bound 0 0 5 true false] }
/-- A value of a witness. -/
def w24_17 : State := tCu 3 { tUnit 1 with queue := [.bound 0 0 5 true false] }
/-- A value of a witness. -/
def w24_18 : State := { tJob .oproj 0x90 { tUnit 0 with job := some (tOproj none 1 1048576) } with plc := [(1, { Plc.empty with placedEver := true, state := .placed, epoch := 1 })] }
/-- A value of a witness. -/
def w24_19 : State := tJob .oproj 0x90 { tUnit 0 with job := some (tOproj (some 0x20010004000) 2 0) }
/-- A value of a witness. -/
def w24_20 : State := tJob .oproj 0x90 { tUnit 0 with job := some (tOproj none 1 0) }
/-- A value of a witness. -/
def w24_21 : State := tCu 2 { tUnit 1 with loading := some 64 }
/-- A value of a witness. -/
def w24_22 : State := { tCu 2 (tUnit 1) with regs := [(Reg.Tt_CU_WLOAD_LO 2, 0x10000000), (Reg.Tt_CU_WLOAD_HI 2, 0x90)] }
/-- A value of a witness. -/
def w24_24 : State := (tCu 0 { tUnit 1 with loading := some 64 }).writeMem 64 [6, 0, 2]
/-- A value of a witness. -/
def w24_24b : WSet := { tag := 6, gain := 2, scales := [], w := [] }
/-- A value of a witness. -/
def w24_25 : State := (tCu 0 { tUnit 1 with loading := some 64 }).writeMem 64 [6, 0, 9]
/-- A value of a witness. -/
def w24_26 : State := { tCu 0 { tUnit 1 with loading := some 64 } with mem := { bytes := [], bad := [(64, true)] } }
/-- A value of a witness. -/
def w24_34 : State := tCu 3 { tUnit 1 with recal := true, swap := true }
/-- A value of a witness. -/
def w24_35 : State := tCu 3 { tUnit 1 with swap := true, queue := [tOproj none 1 0] }
/-- A value of a witness. -/
def w24_44 : State := { tCu 0 { tUnit 1 with calRow := 271 } with regs := [(Reg.Tt_CU_CTRL 0, 2)] }
/-- A value of a witness. -/
def w24_47 : State := tCu 0 { tUnit 1 with locked := false }
/-- A value of a witness. -/
def w24_48 : State := tCu 3 { tUnit 1 with locked := false }
/-- A value of a witness. -/
def w24_53 : State := { tUp with optics := { Optics.reset with ringsUp := true } }
/-- A value of a witness. -/
def w24_54 : State := { tUp with optics := { Optics.reset with ringsUp := true }, regs := [(Reg.Tt_CU_CTRL 0, 1)] }
/-- The device with its optics lit, and Spring 0 locked. -/
def tLight (x : Spring) : State :=
  { tUp with optics := { Optics.reset with springs := [(0, { x with locked := true })], ringsUp := true, dark := false, loopsStopped := false } }
/-- A Spring whose laser 5 is in a state, with the spare of line 5 allocated or not. -/
def tSpr (st : LaserSt) (alloc : Tab (Option Nat)) : Spring := { Spring.reset with lasers := [(5, { Laser.idle with state := st, output := 100 })], alloc }
/-- The fused baseline of laser 5 of Spring 0. -/
def tB : Nat := Config.laserBaseline 5
/-- Spring 0 with every spare unhealthy, and laser 5 at a warning. -/
def tNoSpare : Spring := { Spring.reset with lasers := (5, { Laser.idle with state := .warning, output := 100 }) :: (List.range 16).map fun p => (64 + p, { Laser.idle with state := .unhealthy }) }
/-- A handover of line 5 to spare 1 in a phase. -/
def tHand (phase : HoPhase) (attempt : Nat) : Spring :=
  { Spring.reset with lasers := [(5, { Laser.idle with state := .handover }), (65, { Laser.idle with state := .prewarm, line := 5, warmLocked := true })],
                      alloc := [(5, some 1)], phase, line := 5, spare := 1, attempt }
/-- Both units of Spring 0 hold for the swap. -/
def tHolds (s : State) : State :=
  let u := { tUnit 1 with hold := some { CuHold.settle false with swap := true } }
  { s with cus := [(0, u), (1, u)] }
/-- Rings. -/
def tRing (i : Nat) (r : Ring) : State :=
  { tLight Spring.reset with optics := { (tLight Spring.reset).optics with rings := [(i, r)] } }
/-- The feed-forward value of ring 5 in that state. -/
def tFeed (s : State) : Int := Config.feedForward (s.regionRec (Config.ringRegion 5 % 64)) s.freeVal 0
/-- A dump or load under way. -/
def tCal (op : Nat) (da : Nat) : State := { tLight Spring.reset with optics := { (tLight Spring.reset).optics with calOp := some (op, da, .host) } }
/-- A value of a witness. -/
def w25_20 : State := tLight { Spring.reset with lasers := [(79, { Laser.idle with state := .prewarm })] }
/-- A value of a witness. -/
def w25_32 : State := { tHolds (tLight (tHand .swap 1)) with regs := [(Reg.KEY_PST_STATUS, 2)] }
/-- A value of a witness. -/
def w25_35 : State := tHolds (tLight { tHand .swap 3 with lasers := (List.range 16).map fun p => (64 + p, { Laser.idle with state := if p = 1 then .prewarm else .failed }) })
/-- A value of a witness. -/
def w25_36 : State := tHolds (tLight { tHand .swap 1 with source := [(5, some 65)] })
/-- A value of a witness. -/
def w25_38 : State := { tLight tNoSpare with regs := [(Reg.BED_LASER_SEL, 126)] }
/-- A value of a witness. -/
def w25_39 : State := { tLight Spring.reset with regs := [(Reg.BED_LASER_SEL, 126)] }
/-- A value of a witness. -/
def w25_41 : State := { tLight { Spring.reset with outLock := [70, 3] } with optics := { (tLight { Spring.reset with outLock := [70, 3] }).optics with refLost := true } }
/-- A value of a witness. -/
def w25_47 : State := tRing 78655 { Ring.off with unlocked := true, out := 9 }
/-- A value of a witness. -/
def w25_49 : State := tRing 8768 { Ring.off with out := 3 }
/-- A value of a witness. -/
def w25_50 : State := tRing 8767 { Ring.off with out := 3 }
/-- A value of a witness. -/
def w25_53 : Int := 128 * ((tFeed (tRing 5 { Ring.off with code := some 7, last := 10 })).natAbs + 5000)
/-- A value of a witness. -/
def w25_53b : State := tRing 5 { Ring.off with code := some 7, last := 10 }
/-- A value of a witness. -/
def w25_57 : State := { tLight Spring.reset with regs := [(Reg.BED_CAL_ADDR_LO, 0x40)] }
/-- A value of a witness. -/
def w25_59 : State := { tLight Spring.reset with regs := [(Reg.BED_CAL_ADDR_HI, 0x3FFF)] }
/-- A value of a witness. -/
def w25_61 : State := { tCal 2 0 with mem := { bytes := [], bad := [(1201336, true)] } }
/-- A value of a witness. -/
def w25_62 : State := { tUp with regs := [(Reg.KEY_READY, 2)] }
/-- The device with link K → W15 (its lanes: 3791 of data, the spares 3838 and 3839) and the lane 3708 of W15 → K. -/
def tLink (x : BLink) (lanes : Tab BLane) (back : BLink) : State :=
  { tLight Spring.reset with bed := { links := [(32 * 19 + 22, back), (32 * 22 + 19, x)], lanes },
                             regs := [(Reg.BED_LINK_SEL, 22 + 19 * 256), (Reg.BED_LANE_SEL, 3838)] }
/-- A lane at a position. -/
def tLane (st : BLaneSt) (pos : Nat) : BLane := { BLane.dark with state := st, pos }
/-- The link's three lanes in training. -/
def tTrains : Tab BLane := [(3791, tLane .training 0), (3838, tLane .training 1), (3839, tLane .training 2)]
/-- A link that trains quickly, after n failures. -/
def tQuick (n : Nat) : BLink := { BLink.down with state := .train, quick := true, fails := n, txSeq := 4095, rxSeq := 9 }
/-- A LIVE link. -/
def tLive : BLink := { BLink.down with state := .live, txSeq := 4095, rxSeq := 9, count := 4294967290 }
/-- The LIVE link with its data lane and its spare 3838. -/
def tServe (x : BLink) (y : BLane) : State := tLink x [(3708, tLane .data 0), (3791, tLane .data 0), (3838, y)] BLink.down
/-- A lane in training whose receiver knows the codeword phase, after n failed trainings. -/
def tHears (n : Nat) : BLane := { tLane .training 0 with tries := n, rx := { LaneRx.init with phase := some true, scr := 5 } }
/-- The two blocks of a codeword with a control block, as its sender sends them from the scrambler state 5. -/
def tTs (c : List Byte) : List (BitVec 258) :=
  let w := (sendCodeword 5 true c []).2.toNat
  [BitVec.ofNat 258 (w / 2 ^ 258), BitVec.ofNat 258 w]
/-- TS1 (0x33) or TS2 (0x4B) of a line of the bus on which K sends lane 3791. -/
def tTsB (k line : Nat) : List Byte := padTo 32 [BitVec.ofNat 8 k, 22, 1, BitVec.ofNat 8 line, 0, 1, 1]
/-- The link in training, its first lane so. -/
def tTsAt (n : Nat) : State := tLink { BLink.down with state := .train } [(3791, tHears n)] BLink.down
/-- The LIVE link, with the reverse link's sender in state x. -/
def tBoth (x back : BLink) (lanes : Tab BLane) : State := tLink x lanes { back with state := .live }
/-- Its data lane in service. -/
def tOne : Tab BLane := [(3791, tLane .data 0)]
/-- A payload. -/
def tPay : List Byte := List.replicate 64 0xFF
/-- The link whose receiver holds the first 11 bytes of a flit, and the codeword with the other 61. -/
def tFlitAt (f : List Byte) (x back : BLink) : State := tBoth { x with rxStream := f.take 11 } back tOne
/-- That codeword. -/
def tFlitW (f : List Byte) : List (Nat × BitVec 516) := lineWords (tFlitAt f tLive BLink.down) 22 19 none (f.drop 11)
/-- A flit of number 9 on VC 7 that acknowledges 4,095 numbers before 3, with or without a NAK, and gives back 3 units of pool 2. -/
def tFlit (nak : Nat) : List Byte := flitBytes (7 + 9 * 256 + 3 * 2 ^ 20) (nak + 2 * 4 + 3 * 64) tPay
/-- A sender with the numbers 2 and 3 unacknowledged. -/
def tSent : BLink := { BLink.down with txSeq := 4, used := [(2, 5)], retry := [{ seq := 2, vc := 2, shared := false, first := true, payload := tPay }, { seq := 3, vc := 2, shared := false, first := true, payload := tPay }] }
/-- A flit with a wrong CRC. -/
def tBadFlit : List Byte := List.replicate 72 1
/-- The link with a spare at position 1. -/
def tCtl (x : BLink) : State := tBoth x BLink.down [(3708, tLane .data 0), (3791, tLane .data 0), (3838, tLane .spare 1)]
/-- The codeword that brings a control block. -/
def tCtlW (m : List Byte) : List (Nat × BitVec 516) := lineWords (tBoth tLive BLink.down tOne) 22 19 (some m) (zeros 29)
/-- A control block: its kind, position, codeword number and the byte after. -/
def tMsg (k p c e : Nat) : List Byte := padTo 32 (toBytesLE 2 k ++ toBytesLE 2 p ++ toBytesLE 4 c ++ toBytesLE 2 e)
/-- Two lanes in service, and codewords whose control blocks differ. -/
def tTwo : Tab BLane := [(3791, tLane .data 0), (3838, tLane .data 1)]
/-- Those codewords. -/
def tDiffer : List (Nat × BitVec 516) := tCtlW (tMsg 0x2D 0 0 0) ++ [(3838, (sendCodeword 0 true (tMsg 0x55 0 0 0) (zeros 29)).2)]
/-- A value of a witness. -/
def w26_19 : State := tLink { BLink.down with state := .train } tTrains BLink.down
/-- A value of a witness. -/
def w26_27 : State := tServe tLive { tLane .training 1 with tries := 1 }
/-- A value of a witness. -/
def w26_28 : State := tServe tLive { tLane .training 1 with tries := 2 }
/-- A value of a witness. -/
def w26_29 : State := tServe tLive { tLane .retired 0 with cause := 2, cause2 := 1 }
/-- A value of a witness. -/
def w26_61 : State := tBoth { tLive with lastSrc := 1 } BLink.down tOne
/-- A value of a witness. -/
def w26_62 : State := tBoth { tLive with lastSrc := 2, used := [(7, 8)] } { BLink.down with rxSeq := 4095, nakOwed := true } tOne
/-- A value of a witness. -/
def w26_65 : State := tBoth { tLive with rxStream := List.replicate 11 1 } BLink.down tOne
/-- A value of a witness. -/
def w26_66 : State := tBoth { tLive with rxStream := List.replicate 43 1 } BLink.down tOne
/-- A value of a witness. -/
def w26_82 : State := tBoth tLive BLink.down [(3791, { tLane .data 0 with rx := { LaneRx.init with hdrs := 2 ^ 62 - 1 } })]
/-- A value of a witness. -/
def w26_95 : State := tCtl { tLive with reqs := [(0, 2)] }
/-- A value of a witness. -/
def w26_96 : State := tCtl { tLive with changes := [.retire 0 4294967295 2 false] }
/-- A value of a witness. -/
def w26_100 : State := tCtl { tLive with changes := [.retire 0 3 2 false, .join 0 3 3838] }
/-- The device with port 15, its backwater in stack 3, min_width 2, STANDBY enabled, a grace period, and the Bed LIVE. -/
def tPort (x : Port) : State :=
  { tLight Spring.reset with ports := [(15, x)], bed := tBed.bed,
                             regs := [(Reg.Sd_PORTp_CTL 15, 0x42D), (Reg.Sd_PORTp_BW 15, 0x32F0), (Reg.Sd_PORTp_TIMERS 15, 1024), (Reg.Sd_PORTp_LANE_SEL 15, 33)] }
/-- A LIVE port of two lanes, its next number 65,535. -/
def tUpPort : Port :=
  { Port.reset with state := .live, cause := 0, session := 65535, n := 65535, u := 65533, e := 65535, peerCnt := [(4, 100)], shares := [256, 1984, 1984, 1984, 1984],
                    lanes := [(0, { BLane.dark with state := .data }), (1, { BLane.dark with state := .data, pos := 1 })], light := true, txOpen := true, settled := true,
                    rx := { stream := [], framed := true } }
/-- A request packet of 128 payload bytes. -/
def tPkt : Packet :=
  { dst := 0x3FFFF, hops := 1, type := 2, src := 1, srcDie := 20, trk := 1, mod := 0, tag := 5, gen := 15, status := 0, flowSeq := 7, addr := 0x3000000000,
    workUnit := 9, epoch := 3, flags := 0, payload := List.replicate 128 0xA5 }
/-- The packet as it waits, and as it is kept. -/
def tWaits : TxWait := { port := 15, vc := 4, pkt := tPkt, own := none }
/-- Kept. -/
def tKept (lseq : Nat) (spilled : Bool) : TxPkt := { lseq, vc := 4, pkt := tPkt, spilled, own := none }
/-- The port with that packet waiting. -/
def tSends (x : Port) : State := { tPort x with fab := { (tPort x).fab with waiting := [tWaits] } }
/-- A STATUS that acknowledges a number. -/
def tStat (ack : Nat) (nak standby : Bool) : StatusMsg :=
  { ack, nak, standbyReq := standby, standbyAck := false, deepReq := false, quiesce := false, sfCount := 4294967295, credits := [1, 2, 3, 4, 65535], heartbeat := 65535, session := 65535 }
/-- The bits of one group on two lanes: two codewords whose bytes are 1 and then zeros, which begin with an invalid link word. -/
def tBadGroup : List Nat := [243747642464529584052860602108687327765171954,
  632652955776662068266690386917377525321706899459758864042143269699271155816292404331433815822017752541697387608748189856983033228750535605274351094091070089276107249861779478334649160920178468567576107365932226636975604940869017734397085923272101493154324351607441496025036868274924365181692154992611230473012959874342078338786046986955662778706798089959953788560677983621281345150760201100950167793013797603606661389748510636959242210460968997215048286695881905231603292674729085770253435709187570917366061501037465003321506442321628544665869203133787929923098415128885533588499408094109061246855148020646904134984456467322764552754726942889011252940524430409403695967176443658708310797103560667803527639260766608519120291023112523121588971197485200761160889969511611606113762571344695211203764405319301144389295058021]
/-- The same of a codeword that begins with the packet `tPB`. -/
def tGoodGroup : List Nat := [599214270938006780385615202113757873713054698742592514756992934695915027699639503821774617617092464269551221106958494604106138499071621849024066218037822454960380019993741431328631406948531044399719978845429707695151598225679823371592708661866627878723835257264821770277584819742015873966360040652680718581638074239195577907177783859275139193348639600921435006144300024752695271903324078217313359373778531910581038707183355434557567236235650363736154431066692376542519819340603977947449621005324448802494692712919306816990933870954268130425936176350698365614796781034069094224773967084994878636223503046298005551765548998401075873669080741877982177079423976668404967687460522694800183526262329919756040869854327690078888006115756440105169576150531913697047745654822543621293338171329907329724335557542551617264370,
  633268363282614847539846644399276867817908279689178736811607704782320609847480442970114093055144397900517984125527051332703909741399588750463746975787980137923290457371664518527985319407566687381799213248993318020524724844161023499974262231115119809723779593384376322052235983723578779297738308254190375093604088257906226597025618261169000494946129079163956369919040434263289103000664193808341950926436671644673868281060163947374837439298364883499773684193844762147419152799905930691807201336707007039399313761973598736105736501012754814993274840304208325144773784013597157630875462955022745071789199737169800659606622780997003265710252694411593579028774351464738123559405746553149597029481101583320432161656409820454348092319899181866144979432568611830794505172738418585638871910624569142071612121613477512372511092597]
/-- The packet of number 65,535 on VC 4. -/
def tPB : List Byte := pktBytes 65535 4 { tPkt with payload := [0xA5] }
/-- The port that expects number e, whose lanes hold all but the last block of a group. -/
def tGets (g : List Nat) (e : Nat) (noLock : Bool) : State :=
  let lane := fun (i : Nat) => { BLane.dark with state := .data, pos := i, noLock, rx := { LaneRx.init with bits := g.getD i 0 / 2 ^ 256, nbits := 2464 } }
  tPort { tUpPort with e, lanes := [(0, lane 0), (1, lane 1)] }
/-- The last block of the group on each lane. -/
def tData (g : List Nat) : List (Nat × List (BitVec 258)) :=
  [0, 1].map fun i => (i, (sendBlocks 0 [(false, g.getD i 0 % 2 ^ 256)]).2)
/-- What data blocks bring. -/
def tBrings (s : State) (d : List (Nat × List (BitVec 258))) : Port × List Framed × Nat × Nat := (s.port 15).blocks 15 d
/-- A control slot: the same message on both lanes, or two. -/
def tSlot2 (a b : List Byte) : List (Nat × BitVec 258) :=
  [(0, (sendBlock 0 true (ofBytesBE (slotBytes a))).2), (1, (sendBlock 0 true (ofBytesBE (slotBytes b))).2)]
/-- What it brings to the port. -/
def tHeard (x : Port) (a b : List Byte) : Port × List (CtlRx × List Byte) := x.slot (tSlot2 a b)
/-- A STATUS. -/
def tSt (ack : Nat) (nak standby : Bool) : List Byte := statusBytes (tStat ack nak standby)
/-- The port with two packets unacknowledged. -/
def tTwoOut : Port := { tUpPort with unacked := [tKept 65533 false, tKept 65534 false] }
/-- The port, its lane 1 ready as a spare at position 32, or in another state. -/
def tSpare (x : Port) (st : BLaneSt) (pos : Nat) : Port := { x with lanes := x.lanes ++ [(33, { BLane.dark with state := st, pos })] }
/-- A message with a position, a boundary and a byte. -/
def tM (k q c e : Nat) : List Byte := [BitVec.ofNat 8 k, BitVec.ofNat 8 q] ++ toBytesLE 4 c ++ [BitVec.ofNat 8 e]
/-- What a slot with a message brings. -/
def tSlotOf (x : Port) (m : List Byte) : Port × List (CtlRx × List Byte) := x.slot (tSlot2 m m)
/-- The port with a retirement of position 0 announced. -/
def tRet : Port := { tUpPort with changes := [.retire 0 4294967295 2 false] }
/-- The port with a ready spare. -/
def tReady : Port := tSpare tUpPort .spare 33
/-- The port with three lanes in service and changes. -/
def tThree (ch : List FChange) : Port := { tSpare tUpPort .data 2 with changes := ch }
/-- A DOWN port ready to train. -/
def tDownP (cause : Nat) : Port := { tUpPort with state := .down, cause, lanes := [(33, { BLane.dark with state := .failed })], grace := true }
/-- The port in training, its 34 lanes at their positions. -/
def tTrain (re : Bool) : Port :=
  { tUpPort with state := .train, retraining := re, lanes := (List.range 34).map fun i => (i, { BLane.dark with state := .training, pos := i }),
                 unacked := [tKept 65533 false, tKept 65534 false], last := some (77, 9) }
/-- A TS1 (0x33) or TS2 (0x4B) of line 2 whose sender puts it at position 5. -/
def tPTs (k : Nat) : BitVec 258 := (sendBlock 0 true (ofBytesBE (slotBytes [BitVec.ofNat 8 k, 1, 9, 2, 5, 2]))).2
/-- The state with a register changed. -/
def tWith (s : State) (off v : Nat) : State := s.setReg off (BitVec.ofNat 32 v)
/-- The eight ports of connector 1 alike, in a service state. -/
def tSvc (svc : Nat) (x : Port) : State :=
  { tPort x with ports := (List.range 8).map (fun i => (8 + i, x)), svcs := [(1, { Svc.reset with svc })] }
/-- A value of a witness. -/
def w27_24 : State := tSends { tUpPort with u := 61439, unacked := (List.range 4096).map fun i => tKept (61439 + i) false }
/-- A value of a witness. -/
def w27_25 : State := tSends { tUpPort with replayDue := true }
/-- A value of a witness. -/
def w27_26 : State := tSends { tUpPort with state := .down, grace := true }
/-- A value of a witness. -/
def w27_30 : BLane := { BLane.dark with rx := { LaneRx.init with scr := 12345678 } }
/-- A value of a witness. -/
def w27_75 : State := { tPort { tUpPort with unacked := [tKept 65533 true] } with bed := tUp.bed }
/-- A value of a witness. -/
def w27_76 : State := tPort { tUpPort with unacked := [tKept 65533 true], u := 65534 }
/-- A value of a witness. -/
def w27_78 : State := tSends { tUpPort with peerCnt := [(4, 2)] }
/-- A value of a witness. -/
def w27_87 : Port := (tSlotOf { tUpPort with reqs := [(0, 2)] } (tM 0x55 0 16 1)).1
/-- A value of a witness. -/
def w27_87b : List (CtlRx × List Byte) := (tSlotOf { tUpPort with reqs := [(0, 2)] } (tM 0x55 0 16 1)).2
/-- A value of a witness. -/
def w27_87c : State := tPort { tUpPort with reqs := [(0, 2)] }
/-- A value of a witness. -/
def w27_98 : State := tPort { tReady with changes := [.retire 0 3 6 true, .join 0 3 33] }
/-- A value of a witness. -/
def w27_99 : State := tPort { tUpPort with changes := [.retire 0 3 6 true] }
/-- A value of a witness. -/
def w27_100 : State := tPort { tUpPort with reqs := [(1, 2)] }
/-- A value of a witness. -/
def w27_103 : State := tPort (tSpare { tUpPort with lanes := (List.range 32).map fun i => (i, { BLane.dark with state := .data, pos := i }) } .training 33)
/-- A value of a witness. -/
def w27_106 : State := tPort { tUpPort with lanes := tUpPort.lanes ++ [(33, { BLane.dark with state := .training, tries := 2 })] }
/-- A value of a witness. -/
def w27_115 : State := tPort { tDownP 2 with settled := false }
/-- A value of a witness. -/
def w27_132 : State := tPort { tTrain true with failTicks := [0, 0] }
/-- A value of a witness. -/
def w27_143 : State := tPort { tUpPort with state := .standby }
/-- A value of a witness. -/
def w27_144 : State := tPort { tUpPort with deepReq := true, peerDeep := true }
/-- A value of a witness. -/
def w27_146 : State := tPort { tUpPort with state := .deep, txOpen := false }
/-- A value of a witness. -/
def w27_147 : State := tPort { tTrain true with light := false }
/-- A value of a witness. -/
def w27_148 : State := tPort { tDownP 2 with unacked := [tKept 65533 true], held := [tWaits] }
/-- A value of a witness. -/
def w27_149 : State := tPort { tDownP 2 with grace := false }
/-- A value of a witness. -/
def w27_150 : State := tPort { tDownP 2 with light := false, txOpen := false }
/-- A value of a witness. -/
def w27_151 : State := tPort { tDownP 3 with txOpen := false }
/-- A value of a witness. -/
def w27_153 : State := tPort { tDownP 2 with probing := true, light := false }
/-- A value of a witness. -/
def w27_155 : State := tPort { tDownP 1 with light := false }
/-- A value of a witness. -/
def w27_157 : State := tPort { tDownP 2 with quiesced := true }
/-- A value of a witness. -/
def w27_158 : State := tPort { tDownP 2 with light := false }
/-- A value of a witness. -/
def w27_161 : State := tPort { tUpPort with state := .deep }
/-- A value of a witness. -/
def w27_162 : State := tPort { tUpPort with light := false }
/-- A value of a witness. -/
def w27_169 : State := tSvc 1 { tTwoOut with quiescing := true }
/-- A value of a witness. -/
def w27_170 : State := tSvc 2 { tDownP 3 with quiesced := true }
/-- A value of a witness. -/
def w27_175 : State := tSvc 1 { tUpPort with quiescing := true }
/-- A route to port 15 alone, of a mode. -/
def tRoute (mode : Nat) : Route := { primary := 0x8000, alternate := 0x01, mode, select := 2, resync := true, valid := true, active := false, armed := true }
/-- Device 0x3FFFF with port 15 LIVE, a route to member 0 of its group and to group 0 by it, and a tiled region whose first tile is good. -/
def tFab : State :=
  { tPort tUpPort with regs := (tset 0 (tPort tUpPort).regs Reg.KEY_DEV_ID 0x8003FFFF), trg := [(255, tReg0)],
                       fab := { (tPort tUpPort).fab with routes := [(0, tRoute 0), (1024, tRoute 0), (1279, tRoute 0)] } }
/-- A packet of device 0x3FC00 for this device. -/
def tReq (type mod addr : Nat) (payload : List Byte) : Packet :=
  { tPkt with dst := 0x3FFFF, src := 0x3FC00, type, mod, addr, payload, workUnit := 0, epoch := 0 }
/-- The trailer of a tile of zeros. -/
def tZeroTrl : List Byte := Trailer.toBytes { crc := 0x98F94189, epoch := 0x10, fmt := 4, flags := 2 }
/-- With both tiles of the region good. -/
def tGoodTiles : State := (tFab.writeMem 0x8000 tZeroTrl).writeMem 0x8008 tZeroTrl
/-- An item that has moved: its units of the old epoch are stale. -/
def tMovedOn (s : State) : State := { s with plc := [(4095, { Plc.empty with placedEver := true, state := .placed, epoch := 1 })] }
/-- With a tile of zeros arrived, all but its trailer. -/
def tTileIn : State :=
  { tFab with fab := { tFab.fab with tiles := [{ src := 0x3FC00, srcDie := 20, addr := 0x12000, fold := false, sealed := false,
                                                 pieces := (List.range 16).map fun i => (i, List.replicate 256 0) }] } }
/-- A TOKEN_SIGNAL for reach r. -/
def tTok28 (mod r i inc units : Nat) : Packet := tReq 5 mod 0 (padTo 32 (toBytesLE 4 r ++ toBytesLE 2 i ++ toBytesLE 2 inc ++ toBytesLE 4 units))
/-- Flows of this source, and 2,048 of others. -/
def tFlows (fs : List FlowIn) : State := { tFab with ticks := 32768, fab := { tFab.fab with spans := [(0, { Span.reset with flows := fs })] } }
/-- A flow. -/
def tFlow (src die high : Nat) (seen : List Nat) (last : Nat) : FlowIn := { src, die, high, seen, last }
/-- The request that entry (1, 0xFFFFF) holds. -/
def tAsk28 (type mod addr : Nat) : Packet := { tPkt with dst := 0x3FC00, src := 0x3FFFF, srcDie := 0, type, mod, addr, tag := 0xFFFFF, payload := [], flags := 0 }
/-- Its entry. -/
def tEnt (req : Packet) (owner : TOwner) : TEnt := { TEnt.free with gen := 15, use := .busy, owner, pkt := some req, port := 15 }
/-- The device with that entry. -/
def tAsked (e : TEnt) : State := { tFab with fab := { tFab.fab with spans := [(1, { Span.reset with trk := [(0xFFFFF, e)] })] } }
/-- An answer to it. -/
def tAns (type mod status : Nat) (payload : List Byte) : Packet := { tReq type mod 0 payload with tag := 0xFFFFF, status }
/-- A MOVE that waits for two answers. -/
def tMvR : MoveOp := { tMv 0x10000000100 256 [] with left := 2, src := 0x3FC00 * 2 ^ 46 + 0x1000 }
/-- An SQ entry of type 0x44 with flag NO_IRQ. -/
def tSqB : List Byte := padTo 64 ([0x44, 2] ++ toBytesLE 2 32767)
/-- Queue 255 with it. -/
def tSqS (s : State) : State := { s with hq := { s.hq with sqs := [(255, { Sq.reset with ents := [{ idx := 9, bytes := tSqB, dispatched := true, weirs := [] }] })] } }
/-- With port 0 LIVE too. -/
def tTwoPorts (s : State) : State := { s with ports := [(0, tUpPort), (15, tUpPort)], regs := tset 0 s.regs (Reg.Sd_PORTp_CTL 0) 0x42D }
/-- A flow counter with requests out, and the entry of a quarantined index. -/
def tFlowOut (n : Nat) : State := { tFab with fab := { tFab.fab with flowOut := [(flowKey 3 0x3FC00, some { next := 9, out := n })] } }
/-- A path-routed request whose hop 47 of 48 is port 15, or port 14. -/
def tPathed (port : Nat) : Packet := { tReq 6 1 0 (padTo 64 ([47, 48] ++ List.replicate 23 0xFF ++ [BitVec.ofNat 8 (16 * port)])) with flags := 8, hops := 61 }
/-- A management request. -/
def tMgmt (op : Nat) (b : List Byte) : Packet := tReq 6 op 0 (padTo 64 b)
/-- The device under the management of 0x3FC00, whose register writes it accepts or not. -/
def tManaged (ctl : Word) (s : State) : State :=
  { s with regs := tset 0 s.regs Reg.KEY_FAB_CTL ctl, fab := { s.fab with mgrDigest := [1], mgrDevId := some 0x3FC00, mgrPort := some 15 } }
/-- A WAIT for no token at a reach, and a command of a reserved opcode with a header signal to device 0. -/
def tWaitCmd (r : Nat) : List Byte := padTo 64 ([5, 0, 0, 0] ++ toBytesLE 4 r)
/-- The other. -/
def tBadCmd : List Byte := padTo 64 (padTo 28 [0xFF] ++ toBytesLE 4 0 ++ toBytesLE 2 0x8001 ++ toBytesLE 2 1 ++ [0, 0] ++ toBytesLE 4 0x80000000)
/-- No more requests to device 0: its flow counter of T0 is at 1,024. -/
def tFlowFull : State :=
  { tFab with fab := { tFab.fab with routes := [(0, tRoute 0), (1024, tRoute 1)], flowOut := [(flowKey 0 0, some { next := 0, out := 1024 })] } }
/-- A HELLO of sequence n of a device whose manager has a digest, at a distance. -/
def tHello (n : Nat) (mgr : List Byte) (distance : Nat) : HelloMsg :=
  { digest := [2], mgrDigest := mgr, port := 7, idValid := true, mgrHost := true, candidate := true, devId := 0x3FC00, distance, seq := n, events := 3, mgrSeq := 9 }
/-- Port 15 having taken a HELLO. -/
def tTook (m : HelloMsg) : State := { tFab with fab := { tFab.fab with hello := [(15, { HelloSt.none with taken := some m })] } }
/-- With PIER_STATUS of both span dies set. -/
def tPiers (a b : Word) (s : State) : State := { s with regs := tset 0 (tset 0 s.regs (Reg.Sd_PIER_STATUS 0) a) (Reg.Sd_PIER_STATUS 1) b }
/-- A device whose two route entries are STANDBY, in a takeover. -/
def tTaking (a b : Word) (r : Nat → Span) : State :=
  tPiers a b { tFab with fab := { tFab.fab with routes := [(0, tRoute 1), (1024, tRoute 0), (1279, { tRoute 1 with armed := false })], spans := [(0, r 0), (1, r 1)] } }
/-- K holding reports and sends. -/
def tReports (l : List Nat) (n : Nat) : State := let s := tTaking 4 4 fun _ => Span.reset; { s with fab := { s.fab with reports := l, forceSends := n } }
/-- The staging registers. -/
def tStaged (ctl sel entry : Word) (s : State) : State :=
  { s with regs := tset 0 (tset 0 (tset 0 s.regs Reg.KEY_RT_SEL sel) Reg.KEY_RT_ENTRY entry) Reg.KEY_FAB_CTL ctl }
/-- Entry 0 STANDBY with its alternate set active; port 15 up, port 0 not. -/
def tAlt : State := { tFab with fab := { tFab.fab with routes := [(0, { tRoute 1 with active := true }), (1024, tRoute 0)] } }
/-- A value of a witness. -/
def w28_25 : State := { tFab with trg := [] }
/-- A value of a witness. -/
def w28_26 : Packet := { tReq 2 0 0x1000 (List.replicate 32 0xA5) with workUnit := 4095 * 2 ^ 20 }
/-- A value of a witness. -/
def w28_29 : Packet := { tReq 2 15 0x12000 (List.replicate 256 0xA5) with flags := 4 }
/-- A value of a witness. -/
def w28_34 : Packet := { tReq 2 64 0x12000 (padTo 32 tZeroTrl) with flags := 4 }
/-- A value of a witness. -/
def w28_37 : Packet := { tReq 3 1 0x1FF8 (padTo 32 []) with workUnit := 4095 * 2 ^ 20 }
/-- A value of a witness. -/
def w28_43 : State := { tFab with bed := { tFab.bed with links := tFab.bed.links.filter fun kv => kv.1 ≠ 32 * 21 } }
/-- A value of a witness. -/
def w28_44 : State := { tFab with reaches := [(0, { Reach.empty with tokens := [(4095, 0xFFFF0000)] })] }
/-- A value of a witness. -/
def w28_45 : State := { tFab with reaches := [(0, { Reach.empty with poolCap := [(63, 100)] })] }
/-- A value of a witness. -/
def w28_50 : Packet := { tReq 2 0 0x1000 (List.replicate 32 0xA5) with flags := 1 }
/-- A value of a witness. -/
def w28_63 : State := { tAsked (tEnt (tAsk28 1 7 0x1000) (.move 5)) with moves := [tMvR] }
/-- A value of a witness. -/
def w28_64 : State := { tAsked (tEnt (tAsk28 2 0 0x1000) (.move 5)) with moves := [tMvR] }
/-- A value of a witness. -/
def w28_65 : State := { tAsked (tEnt (tAsk28 3 0 0x1000) (.atomic 1023)) with cells := [(1023, { tCell tZ with block := some (.atomic 31 0x5A) })] }
/-- A value of a witness. -/
def w28_70 : SqEnt := { idx := 9, bytes := tSqB, dispatched := true, weirs := [] }
/-- A value of a witness. -/
def w28_71 : State := tAsked { tEnt (tAsk28 2 0 0x1000) .other with gen := 0 }
/-- A value of a witness. -/
def w28_75 : State := tAsked { tEnt (tAsk28 1 0 0x1000) .other with reissues := 2 }
/-- A value of a witness. -/
def w28_79 : State := tTwoPorts (tAsked { tEnt (tAsk28 1 0 0x1000) .other with reissues := 1 })
/-- A value of a witness. -/
def w28_82 : FlowOut := { next := 9, out := 0 }
/-- A value of a witness. -/
def w28_82b : State := tAsked { tEnt (tAsk28 1 0 0) .other with use := .quarantined, pkt := none }
/-- A value of a witness. -/
def w28_85 : FlowOut := { next := 9, out := 1 }
/-- A value of a witness. -/
def w28_86 : Packet := { tReq 1 0 0 [] with dst := 0x3FC00, hops := 61 }
/-- A value of a witness. -/
def w28_87 : Packet := { tReq 1 0 0 [] with dst := 0, hops := 62 }
/-- A value of a witness. -/
def w28_88 : Packet := { tReq 1 0 0 [] with dst := 1024 }
/-- A value of a witness. -/
def w28_127 : State := tManaged 0 (tTook { tHello 0 [1] 0 with mgrHost := false })
/-- A value of a witness. -/
def w28_128 : State := tManaged 2 (tTook { tHello 0 [1] 0 with mgrHost := false })
/-- A value of a witness. -/
def w28_147 : State := tTaking 4 0 fun _ => { Span.reset with taking := true }
/-- A value of a witness. -/
def w28_148 : State := tTaking 0 4 fun _ => { Span.reset with taking := true }
/-- A value of a witness. -/
def w28_149 : State := tTaking 0 4 fun _ => { Span.reset with stopped := true }
/-- A value of a witness. -/
def w28_173 : State := { tAlt with ports := [] }
/-- A value of a witness. -/
def w28_175 : State := { tAlt with fab := { tFab.fab with routes := [(0, tRoute 1)] } }
/-- An SQ of 16 entries bound to CQ 254, its head at the last entry and its tail at the first. -/
def tSq (ents : List SqEnt) : Sq := { Sq.reset with cfg := 4 + 254 * 32 + 32768, head := 15, tail := 0, ents }
/-- A CQ of 16 entries: its last entry is written next, all but two were released. -/
def tCq (cfg : Word) (wait : List Compl) (since : Nat) : Cq := { Cq.reset with cfg, head := 13, tail := 15, wait, since }
/-- The device with queue pairs 254 and 255: fetch allowed, every Bed link LIVE, port 15 LIVE with its routes. -/
def tHost (x : Sq) (c : Cq) : State :=
  { tFab with regs := tset 0 (tset 0 tFab.regs Reg.KEY_READY (2 ^ 21)) Reg.HQ_Q_SEL 255, hq := { Hq.reset with sqs := [(255, x)], cqs := [(254, c), (255, c)] } }
/-- A CQ that sends messages: vector 5, count 2, a time. -/
def tMsiCq (wait : List Compl) (since : Nat) : Cq := tCq (4 + 32 + 64 + 5 * 128 + 2 * 2 ^ 18 + 2 ^ 26) wait since
/-- A completion that waits. -/
def tCompl (noIrq : Bool) : Compl := { status := 0, type := 0x41, sq := 255, idx := 15, result := 7, aux := 9, noIrq }
/-- An entry: the bytes at their places. -/
def tEntry (fs : List (Nat × List Byte)) : List Byte :=
  fs.foldl (fun b f => b.take f.1 ++ f.2 ++ b.drop (f.1 + f.2.length)) (zeros 64)
/-- Entry 9 dispatched or not. -/
def tE (bytes : List Byte) (dispatched : Bool) : SqEnt := { idx := 9, bytes, dispatched, weirs := [] }
/-- The device with that entry of queue 255. -/
def tHas (b : List Byte) : State := tHost (tSq [tE b false]) (tCq 36 [] 0)
/-- A DMA of len bytes from or to device address da. -/
def tDma (ty da len : Nat) : List Byte := tEntry [(0, [BitVec.ofNat 8 ty]), (8, toBytesLE 8 0xFFFFFFFFFFFFFFE0), (16, toBytesLE 8 da), (24, toBytesLE 4 len)]
/-- With both tiles of the region good. -/
def tGoodT (s : State) : State := (s.writeMem 0x8000 tZeroTrl).writeMem 0x8008 tZeroTrl
/-- A command block for Weir n. -/
def tWeirE (n : Nat) : List Byte := tEntry [(0, [0x43]), (16, toBytesLE 4 64), (20, [BitVec.ofNat 8 n])]
/-- A management command to device dst. -/
def tMgmtE (dst sub : Nat) : List Byte := tEntry [(0, [0x44]), (8, toBytesLE 3 dst), (11, [BitVec.ofNat 8 sub]), (14, [32, 0]), (24, toBytesLE 8 64)]
/-- Streams: 7 Secure. -/
def tIde (spdm : Bool) : State := { tUp with hq := { Hq.reset with ide := [(7, { state := 1, key := 9 })], spdm }, fuses := { tUp.fuses with lifecycle := 1 } }
/-- A value of a witness. -/
def w29_33 : State := tHost (tSq []) { tCq 36 [tCompl false, tCompl true] 0 with head := 0 }
/-- A value of a witness. -/
def w29_42 : State := tHost (tSq [tE (zeros 64) true, { tE (zeros 64) false with idx := 10 }]) (tCq 36 [] 0)
/-- A value of a witness. -/
def w29_44 : State := tHost { tSq [] with cfg := 4 + 255 * 32 + 32768 } (tCq 36 [] 0)
/-- A value of a witness. -/
def w29_61 : State := { tHas (tWeirE 15) with weirs := [(15, { Weir.empty with queue := (List.range 1024).map fun i => { id := i, iss := .cell 0 0, bytes := [], workUnit := 0, epoch := 0, bcast := false, declared := 0 } })] }
/-- At a tick count, with rail 0 good or not. -/
def tTicks (n : Nat) (ok : Bool) : State := { tUp with ticks := n, pwr := { tUp.pwr with good := tset false tUp.pwr.good 0 ok } }
/-- A change of T3 to step 4 under way. -/
def tDv (rising acked : Bool) (cur : Nat) : State :=
  { (tUp.setRf (Reg.NRG_DVFSt 3) 0 4 4).setRf (Reg.NRG_DVFSt 3) 8 4 cur with nrg := { tUp.nrg with dvfs := [(3, some { target := 4, vseq := 255, rising, acked })] } }
/-- A sensor in a state. -/
def tSens (i : Nat) (x : Sensor) : State := { tUp with nrg := { tUp.nrg with sensors := [(i, x)] } }
/-- A domain in fast mode. -/
def tHotDom (n : Nat) : State := { tUp with ticks := n, nrg := { tUp.nrg with doms := [(4, { ThermDom.full with fast := true, lastHot := 9 })] } }
/-- In a power state, entering another or not. -/
def tPs (p : Nat) (entering : Option Nat) (s : State) : State := { s.setRf Reg.NRG_PSTATE 2 2 p with nrg := { s.nrg with entering } }
/-- A value of a witness. -/
def w30_19 : Dvfs := { target := 4, vseq := 255, rising := true, acked := false }
/-- A value of a witness. -/
def w30_20 : Dvfs := { target := 4, vseq := 255, rising := false, acked := false }
/-- A value of a witness. -/
def w30_23 : Dvfs := { target := 4, vseq := 255, rising := true, acked := true }
/-- A value of a witness. -/
def w30_25 : State := { tUp with cells := [(1023, tCell tZ)] }
/-- A value of a witness. -/
def w30_26 : State := { tUp with nrg := { tUp.nrg with charged := 500, u := 2000, heatUj := 999999 } }
/-- A value of a witness. -/
def w30_32 : State := tSens 3 { Sensor.reset with state := 1 }
/-- A value of a witness. -/
def w30_35 : State := { tUp with nrg := { tUp.nrg with trip := some (0, 0) } }
/-- A value of a witness. -/
def w30_36 : State := tSens 255 { Sensor.reset with apart := 2 }
/-- A value of a witness. -/
def w30_39 : State := tSens 435 { Sensor.reset with hotTick := some 0, lastGood := 1500 }
/-- A value of a witness. -/
def w30_40 : State := { (tSens 435 { Sensor.reset with hotTick := some 0, lastGood := 1500 }) with ticks := 328, nrg := { (tSens 435 { Sensor.reset with hotTick := some 0, lastGood := 1500 }).nrg with doms := [(4, { ThermDom.full with f := 399 })] } }
/-- A value of a witness. -/
def w30_41 : State := tSens 435 { Sensor.reset with state := 2, phase1 := true, value := 1600, lastGood := 1568 }
/-- A value of a witness. -/
def w30_42 : State := tSens 435 { Sensor.reset with state := 2, phase1 := false, value := 1600, lastGood := 1568 }
/-- A value of a witness. -/
def w30_54 : State := { tPs 2 none tFab with optics := { tFab.optics with dimmed := true, loopsStopped := true } }
/-- A value of a witness. -/
def w30_56 : State := tPs 0 (some 2) { tFab with fab := { tFab.fab with waiting := [tWaits] } }
/-- The device in a lifecycle, its identity part. -/
def tSec (life : Nat) (x : Sec) : State := { tUp with fuses := { tUp.fuses with lifecycle := life }, sec := x }
/-- A token of a command whose form fails. -/
def tTok2 (cmd : Nat) : List Byte := padTo 128 [1, 0, BitVec.ofNat 8 cmd]
/-- The first bytes of a token of a command at address 0, the submit pointing to it. -/
def tSubmit (cmd : Nat) : State := tBed.writeMem 0 (tTok2 cmd)
/-- At debug level l in power state p. -/
def tJtag (l p : Nat) : State := tPs p none { tFab with sec := { Sec.reset with level := l }, fuses := { tUp.fuses with lifecycle := 1 } }
/-- The acknowledgement registers. -/
def tAckS (ack next : Nat) : State := { tUp with log := { Log.empty with next, ack } }
/-- A ring whose slot 5 holds entry 131077. -/
def tRing5 : State := { tUp with log := { Log.empty with next := 131078, ack := 131070, slots := [(5, toBytesLE 8 131077 ++ List.replicate 56 7)] } }
/-- A value of a witness. -/
def w31_9 : State := { tUp with seedBase := 9, freeIdx := 5 }
/-- A value of a witness. -/
def w31_10 : State := { tUp with sec := { Sec.reset with rngFailed := true } }
/-- A value of a witness. -/
def w31_11 : State := { tUp with sec := { Sec.reset with level := 2, grant := some (2, 7) } }
/-- A value of a witness. -/
def w31_12 : State := { tUp with sec := { Sec.reset with level := 0, token := some ([], .host) } }
/-- A value of a witness. -/
def w31_17 : State := { tSubmit 1 with sec := { Sec.reset with token := some ([], .host) } }
/-- A value of a witness. -/
def w31_19 : State := { tSubmit 3 with log := tFull.log }
/-- A value of a witness. -/
def w31_25 : State := { tUp with sec := { Sec.reset with token := some (tTok2 1, .host), nonce := some [] } }
/-- A value of a witness. -/
def w31_30 : State := { tSec 1 { Sec.reset with owner := some [1], mram := [0, 0, 0, 64] } with fuses := { (tSec 1 Sec.reset).fuses with svn := [0, 0, 0, 63] } }
/-- A value of a witness. -/
def w31_31 : State := tSec 1 { Sec.reset with mram := [5, 0, 0, 0] }
/-- A value of a witness. -/
def w31_32 : State := tSec 1 { Sec.reset with owner := some [1], mram := [0, 0, 0, 0] }
/-- A value of a witness. -/
def w31_34 : State := { tUp with sec := { Sec.reset with romWaits := true } }
/-- A value of a witness. -/
def w31_35 : State := { tFab with sec := { Sec.reset with attest := some (0, false, []) } }
/-- A value of a witness. -/
def w31_36 : State := { tFab with fuses := { tUp.fuses with lifecycle := 4 } }
/-- A value of a witness. -/
def w31_37 : State := { tFab with fuses := { tUp.fuses with lifecycle := 1 }, regs := tset 0 (tset 0 tFab.regs Reg.SEC_ATTEST_ADDR_HI 15) Reg.SEC_ATTEST_ADDR_LO 0xFFFFFFC0 }
/-- A value of a witness. -/
def w31_38 : State := { tFab with fuses := { tUp.fuses with lifecycle := 1 }, regs := tset 0 tFab.regs Reg.SEC_ATTEST_ADDR_LO 64, trg := [] }
/-- A value of a witness. -/
def w31_39 : State := { tFab with sec := { Sec.reset with attest := some (4096, true, [7]), certs := [1, 2, 3] }, trg := [] }
/-- A value of a witness. -/
def w31_40 : State := tSec 1 { Sec.reset with certs := [1] }
/-- A value of a witness. -/
def w31_41 : State := tSec 3 { Sec.reset with certs := [1] }
/-- A value of a witness. -/
def w31_42 : State := tSec 4 { Sec.reset with certs := [1] }
/-- The gate open or shut, keystone sensors with readings, a write queue. -/
def tGate (isOpen : Bool) (r : List Int) (q : List StoreUnit) : State :=
  { tUp.setRb Reg.KEY_PST_STATUS 1 isOpen with
    nrg := { tUp.nrg with sensors := r.zipIdx.map fun x => (432 + x.2, { Sensor.reset with reading := x.1 }) }, store := { tUp.store with queue := q } }
/-- A record of the optics. -/
def tSnapRec (seq : Nat) : Snap := { seq, boot := 0, ticks := 0, serialsOk := true, optics := tUp.optics, rowMaps := [], badRows := [], characterised := [] }
/-- A snapshot under way, with what the two places hold. -/
def tSnap (a b : Option Snap) : State :=
  let s := tGate true [] []
  { s with store := { s.store with snapRunning := true, snapPending := true, mram := { s.store.mram with snapA := a, snapB := b } } }
/-- The device with block 7 saved, an operation under way or none, the gate open or shut. -/
def tHs (op : Option HsOp) (isOpen : Bool) (life : Nat) : State :=
  let s := { tFab.setRb Reg.KEY_PST_STATUS 1 isOpen with fuses := { tUp.fuses with lifecycle := life }, trg := [] }
  { s with store := { s.store with hsOp := op, mram := { s.store.mram with hs := [(7, some { seq := 8, data := [1, 2, 3, 4, 5, 6, 7, 8] })] } } }
/-- A save and a load under way. -/
def tOp (load : Bool) : HsOp := { block := 7, load, da := 0xFFFFFFF00, data := if load then [] else [9] }
/-- A value of a witness. -/
def w32_14 : State := { tGate true [] [] with nrg := { tUp.nrg with sensors := (List.range 4).map fun i => (432 + i, { Sensor.reset with state := 1 }) } }
/-- A value of a witness. -/
def w32_17 : State := { tGate false [32, 1408, 32, 100] [] with store := { tUp.store with snapPending := true } }
/-- A value of a witness. -/
def w32_21 : State := { tGate true [] [.log 0 [1]] with log := { Log.empty with next := 7, ack := 3 } }
/-- A value of a witness. -/
def w32_23 : State := { tGate true [] [] with sec := { Sec.reset with level := 2, grant := some (2, 1), mram := [1, 2, 3, 4] } }
/-- A value of a witness. -/
def w32_24 : State := { tGate true [] [] with sec := { Sec.reset with level := 2 } }
/-- A value of a witness. -/
def w32_54 : HsBlock := { seq := 8, data := [1, 2, 3, 4, 5, 6, 7, 8] }
/-- With rails good or not. -/
def tRails (good early : List Nat) (s : State) : State := { s with pwr := { s.pwr with good := good.map (·, true), early := early.map (·, true) } }
/-- A die in reset. -/
def tInReset (d : Nat) : State := { tUp with pwr := { tUp.pwr with up := tset false tUp.pwr.up d false } }
/-- A value of a witness. -/
def w33_16 : State := { tUp with pwr := { tUp.pwr with due := 1 } }
/-- A value of a witness. -/
def w33_25 : State := { tUp with nrg := { tUp.nrg with trip := some (0, 0) } }
/-- A value of a witness. -/
def w33_41 : State := { tFab with optics := { tFab.optics with ringsUp := true } }
/-- A record of sequence n. -/
def tErr (n : Nat) : ErrRec := { seq := BitVec.ofNat 32 n, sev := 1, code := 3, source := 0, merged := false, unit := 0, boot := 0, ticks := 0, count := 1, addr := none, detail := 0 }
/-- FIFO 3 selected, with records. -/
def tFifo (l : List ErrRec) : State := tWith { tUp with err := [.reset 0, .reset 1, .reset 2, { ErrFifo.reset 3 with recs := l }] } Reg.KEY_ERR_SEL 3
/-- The test on or off, at a region of T3, spares used. -/
def tTst (ctl k : Nat) (spares : Tab Nat) : State := tWith { tUp with test := { tUp.test with pos := [(3, k)], spares } } Reg.KEY_TEST_CTL ctl
/-- A march under way or none. -/
def tMarch (m : Option (Nat × Bool)) : State := { tUp with test := { tUp.test with march := m } }
/-- A value of a witness. -/
def w34_25 : State := { tMarch (some (6, true)) with fab := (tAsked (tEnt (tAsk28 2 0 0) .other)).fab }
/-- A value of a witness. -/
def w34_27 : State := { tMarch (some (4, false)) with seedBase := 1 }
/-! ### What the kernel does not evaluate at once -/

/-- The CRC register after more bytes. -/
theorem crc_more (a b : List Byte) (x y z : Word) (h1 : a.foldl crc32cByte x = y) (h2 : b.foldl crc32cByte y = z) :
    (a ++ b).foldl crc32cByte x = z := by rw [List.foldl_append, h1, h2]

/-- The CRC register over pieces of 256 zero bytes. -/
theorem crc_pieces :
    (zeros 256).foldl crc32cByte 0xFFFFFFFF#32 = 0x478D4E6F#32 ∧
    (zeros 256).foldl crc32cByte 0x478D4E6F#32 = 0xCF03123F#32 ∧
    (zeros 256).foldl crc32cByte 0xCF03123F#32 = 0xC5C4C2F9#32 ∧
    (zeros 256).foldl crc32cByte 0xC5C4C2F9#32 = 0x11512183#32 ∧
    (zeros 256).foldl crc32cByte 0x11512183#32 = 0x72802FED#32 ∧
    (zeros 256).foldl crc32cByte 0x72802FED#32 = 0x0A6FD2D2#32 ∧
    (zeros 256).foldl crc32cByte 0x0A6FD2D2#32 = 0x5BCB999C#32 ∧
    (zeros 256).foldl crc32cByte 0x5BCB999C#32 = 0x5B767CB0#32 ∧
    (zeros 256).foldl crc32cByte 0x5B767CB0#32 = 0x13CA39CB#32 ∧
    (zeros 256).foldl crc32cByte 0x13CA39CB#32 = 0x4DF00A81#32 ∧
    (zeros 256).foldl crc32cByte 0x4DF00A81#32 = 0x24571252#32 ∧
    (zeros 256).foldl crc32cByte 0x24571252#32 = 0xDF52BE5C#32 ∧
    (zeros 256).foldl crc32cByte 0xDF52BE5C#32 = 0x0A82160E#32 ∧
    (zeros 256).foldl crc32cByte 0x0A82160E#32 = 0xF76F41EA#32 ∧
    (zeros 256).foldl crc32cByte 0xF76F41EA#32 = 0x142AC051#32 ∧
    (zeros 256).foldl crc32cByte 0x142AC051#32 = 0x6706BE76#32 := by and_intros <;> decide +kernel

/-- The CRC of 2,048 zero bytes. -/
theorem crc_zeros_2048 : crc32c (zeros 2048) = 0xA489834F#32 := by
  obtain ⟨h1, h2, h3, h4, h5, h6, h7, h8, -, -, -, -, -, -, -, -⟩ := crc_pieces
  have e : zeros 2048 = zeros 256 ++ (zeros 256 ++ (zeros 256 ++ (zeros 256 ++ (zeros 256 ++ (zeros 256 ++ (zeros 256 ++ (zeros 256))))))) := by simp only [zeros, ← List.replicate_add]
  have h := crc_more _ _ _ _ _ h1 (crc_more _ _ _ _ _ h2 (crc_more _ _ _ _ _ h3 (crc_more _ _ _ _ _ h4 (crc_more _ _ _ _ _ h5 (crc_more _ _ _ _ _ h6 (crc_more _ _ _ _ _ h7 (h8)))))))
  rw [crc32c, e, h]; decide

/-- The CRC of 4,096 zero bytes. -/
theorem crc_zeros_4096 : crc32c (zeros 4096) = 0x98F94189#32 := by
  obtain ⟨h1, h2, h3, h4, h5, h6, h7, h8, h9, h10, h11, h12, h13, h14, h15, h16⟩ := crc_pieces
  have e : zeros 4096 = zeros 256 ++ (zeros 256 ++ (zeros 256 ++ (zeros 256 ++ (zeros 256 ++ (zeros 256 ++ (zeros 256 ++ (zeros 256 ++ (zeros 256 ++ (zeros 256 ++ (zeros 256 ++ (zeros 256 ++ (zeros 256 ++ (zeros 256 ++ (zeros 256 ++ (zeros 256))))))))))))))) := by simp only [zeros, ← List.replicate_add]
  have h := crc_more _ _ _ _ _ h1 (crc_more _ _ _ _ _ h2 (crc_more _ _ _ _ _ h3 (crc_more _ _ _ _ _ h4 (crc_more _ _ _ _ _ h5 (crc_more _ _ _ _ _ h6 (crc_more _ _ _ _ _ h7 (crc_more _ _ _ _ _ h8 (crc_more _ _ _ _ _ h9 (crc_more _ _ _ _ _ h10 (crc_more _ _ _ _ _ h11 (crc_more _ _ _ _ _ h12 (crc_more _ _ _ _ _ h13 (crc_more _ _ _ _ _ h14 (crc_more _ _ _ _ _ h15 (h16)))))))))))))))
  rw [crc32c, e, h]; decide

/-- Bytes that memory does not list are zero. -/
theorem readMem_zeros (s : State) (da n : Nat) (h : s.mem.bytes.all (fun kv => decide (kv.1 < da ∨ da + n ≤ kv.1)) = true) :
    s.readMem da n = zeros n := by
  apply List.ext_getElem
  · simp [State.readMem, zeros]
  · intro i h1 h2
    simp only [State.readMem, zeros, List.getElem_map, List.getElem_range, List.getElem_replicate, State.byte]
    have h1 : i < n := by simpa [State.readMem] using h1
    refine tget_of_not_listed _ _ _ fun kv hk e => ?_
    have := of_decide_eq_true (List.all_eq_true.mp h kv hk)
    omega

/-- A block of zeros with the trailer of one is right. -/
theorem blkOk_zeros (s : State) (da n tda : Nat) (c : Word) (hc : crc32c (zeros n) = c)
    (h : s.mem.bytes.all (fun kv => decide (kv.1 < da ∨ da + n ≤ kv.1)) = true)
    (ht : (c.toNat = (s.trailer tda).crc && (s.trailer tda).valid && !(s.trailer tda).poison && !s.poisonRange da n && !s.poisonRange tda 8) = true) :
    s.blkOk da n tda = true := by
  simp only [State.blkOk, readMem_zeros s da n h, hc]; exact ht

/-- A tile of zeros. -/
theorem readTile_zeros (s : State) (r : Region) (da n : Nat) (c : Word) (hc : crc32c (zeros n) = c)
    (hn : tileSize (s.trailerPE (s.viewNow .clear) (r.trailerDA da)).fmt r.sealFmt = n) (hq : s.calm da n = true)
    (h : s.mem.bytes.all (fun kv => decide (kv.1 < da ∨ da + n ≤ kv.1)) = true) :
    s.readTile (s.viewNow .clear) r da = TileRead.mk (zeros n) (s.trailerPE (s.viewNow .clear) (r.trailerDA da))
      (c.toNat = (s.trailerPE (s.viewNow .clear) (r.trailerDA da)).crc && (s.trailerPE (s.viewNow .clear) (r.trailerDA da)).valid &&
        !(s.trailerPE (s.viewNow .clear) (r.trailerDA da)).poison && !s.poisonRange da n && !s.poisonRange (r.trailerDA da) 8) := by
  simp only [State.readTile, hn, s.readPE_calm da n hq, readMem_zeros s da n h, hc]

/-- The members of a sorted list. -/
theorem mem_sortBy {α : Type} (le : α → α → Bool) (l : List α) (x : α) (h : x ∈ sortBy le l) : x ∈ l := by
  have ins : ∀ (y : α) (m : List α), x ∈ insertBy le y m → x = y ∨ x ∈ m := by
    intro y m
    induction m with
    | nil => simp [insertBy]
    | cons z m ih =>
      simp only [insertBy]; split
      · simp
      · simp only [List.mem_cons]; rintro (h | h)
        · exact .inr (.inl h)
        · rcases ih h with h | h
          · exact .inl h
          · exact .inr (.inr h)
  induction l with
  | nil => simp [sortBy] at h
  | cons y l ih =>
    rcases ins y (sortBy le l) h with h | h
    · simp [h]
    · simp [ih h]

/-- The median lies within the bounds of the readings. -/
theorem nearMedian2_bounds (s : State) (i : Nat) (lo hi m : Int) (h : ∀ j, lo ≤ (s.sensor j).reading ∧ (s.sensor j).reading ≤ hi)
    (hm : s.nearMedian2 i = some m) : 2 * lo ≤ m ∧ m ≤ 2 * hi := by
  have mem : ∀ k, k < (sortBy (fun a b => decide (a ≤ b)) ((s.validNear i).map fun j => (s.sensor j).reading)).length →
      lo ≤ (sortBy (fun a b => decide (a ≤ b)) ((s.validNear i).map fun j => (s.sensor j).reading)).getD k 0 ∧
      (sortBy (fun a b => decide (a ≤ b)) ((s.validNear i).map fun j => (s.sensor j).reading)).getD k 0 ≤ hi := by
    intro k hk
    rw [List.getD_eq_getElem _ _ hk]
    obtain ⟨j, -, e⟩ := List.mem_map.mp (mem_sortBy _ _ _ (List.getElem_mem hk))
    exact e ▸ h j
  simp only [State.nearMedian2] at hm
  generalize sortBy (fun a b => decide (a ≤ b)) ((s.validNear i).map fun j => (s.sensor j).reading) = l at mem hm
  split at hm
  · simp at hm
  · split at hm
    · cases hm; have := mem (l.length / 2) (by omega); omega
    · cases hm; have := mem (l.length / 2 - 1) (by omega); have := mem (l.length / 2) (by omega); omega

theorem tV1 : Instr.vexp2 = Instr.vexp2 ∨ Instr.vexp2 = Instr.vlog2 ∨ Instr.vexp2 = Instr.vrcp ∨ Instr.vexp2 = Instr.vrsqrt := .inl rfl
theorem tV2 : Instr.vlog2 = Instr.vexp2 ∨ Instr.vlog2 = Instr.vlog2 ∨ Instr.vlog2 = Instr.vrcp ∨ Instr.vlog2 = Instr.vrsqrt := .inr (.inl rfl)
theorem tV3 : Instr.vrcp = Instr.vexp2 ∨ Instr.vrcp = Instr.vlog2 ∨ Instr.vrcp = Instr.vrcp ∨ Instr.vrcp = Instr.vrsqrt := .inr (.inr (.inl rfl))
theorem tV4 : Instr.vrsqrt = Instr.vexp2 ∨ Instr.vrsqrt = Instr.vlog2 ∨ Instr.vrsqrt = Instr.vrcp ∨ Instr.vrsqrt = Instr.vrsqrt := .inr (.inr (.inr rfl))
theorem tPhys : ∀ (i j : Nat), i < 256 → j < 256 → Cu.phys (State.cu w24_44 0) i = Cu.phys (State.cu w24_44 0) j → i = j := by
  have h : (State.cu w24_44 0).rowMap = [] := by rfl
  intro i j _ _ e
  simpa [Cu.phys, h, tget] using e
theorem tServ1 : ∀ (j : Nat), Spring.serves (State.spring (tLight (tSpr LaserSt.serving [])) 0) j = some 5 → j = 5 := by
  intro j h; simpa [Spring.serves, show (State.spring (tLight (tSpr LaserSt.serving [])) 0).failedLines = [] from rfl, show (State.spring (tLight (tSpr LaserSt.serving [])) 0).source = [] from rfl, tget] using h
theorem tServ2 : ∀ (j : Nat), Spring.serves (State.spring (tLight (tSpr LaserSt.warning [])) 0) j = some 5 → j = 5 := by
  intro j h; simpa [Spring.serves, show (State.spring (tLight (tSpr LaserSt.warning [])) 0).failedLines = [] from rfl, show (State.spring (tLight (tSpr LaserSt.warning [])) 0).source = [] from rfl, tget] using h
theorem tServ3 : ∀ (j : Nat), Spring.serves (State.spring (tLight (tSpr LaserSt.prewarm [(5, some 1)])) 0) j = some 5 → j = 5 := by
  intro j h; simpa [Spring.serves, show (State.spring (tLight (tSpr LaserSt.prewarm [(5, some 1)])) 0).failedLines = [] from rfl, show (State.spring (tLight (tSpr LaserSt.prewarm [(5, some 1)])) 0).source = [] from rfl, tget] using h
theorem tServ4 : ∀ (j : Nat), Spring.serves (State.spring (tLight tNoSpare) 0) j = some 5 → j = 5 := by
  intro j h; simpa [Spring.serves, show (State.spring (tLight tNoSpare) 0).failedLines = [] from rfl, show (State.spring (tLight tNoSpare) 0).source = [] from rfl, tget] using h
theorem tB1 : 100 * tB < 120 * Config.laserBaseline (80 * 0 + 5) := by simp only [tB, Config.laserBaseline, Nat.mul_zero, Nat.zero_add]; omega
theorem tB2 : 120 * Config.laserBaseline (80 * 0 + 5) ≤ 100 * (tB * 5 / 4) := by simp only [tB, Config.laserBaseline, Nat.mul_zero, Nat.zero_add]; omega
theorem tB3 : 100 * (tB * 5 / 4) < 130 * Config.laserBaseline (80 * 0 + 5) := by simp only [tB, Config.laserBaseline, Nat.mul_zero, Nat.zero_add]; omega
theorem tB4 : 130 * Config.laserBaseline (80 * 0 + 5) ≤ 100 * (tB * 133 / 100) := by simp only [tB, Config.laserBaseline, Nat.mul_zero, Nat.zero_add]; omega
theorem tB5 : 100 * (tB * 133 / 100) < 135 * Config.laserBaseline (80 * 0 + 5) := by simp only [tB, Config.laserBaseline, Nat.mul_zero, Nat.zero_add]; omega
theorem tB6 : 135 * Config.laserBaseline (80 * 0 + 5) ≤ 100 * (2 * tB) := by simp only [tB, Config.laserBaseline, Nat.mul_zero, Nat.zero_add]; omega
theorem tB7 : 150 * Config.laserBaseline (80 * 0 + 5) ≤ 100 * (2 * tB) := by simp only [tB, Config.laserBaseline, Nat.mul_zero, Nat.zero_add]; omega
theorem tMed1 : ∀ (m : Int), State.nearMedian2 (State.setSensor w30_36 255 { reading := -Int.ofNat 240, state := (State.sensor w30_36 255).state, cause := (State.sensor w30_36 255).cause, value := (State.sensor w30_36 255).value, lastGood := (State.sensor w30_36 255).lastGood, offset := (State.sensor w30_36 255).offset, apart := (State.sensor w30_36 255).apart, phase1 := (State.sensor w30_36 255).phase1, hotTick := (State.sensor w30_36 255).hotTick : Sensor }) 255 = some m → Int.natAbs (Int.ofNat 2 * -Int.ofNat 240 - m) ≤ 480 := by
  intro m h
  have hl : ∀ kv ∈ w30_36.nrg.sensors, kv.1 = 255 := by decide +kernel
  have := nearMedian2_bounds _ 255 (-240) 0 m (fun j => by
    by_cases e : j = 255
    · subst e; rw [show (State.sensor (State.setSensor w30_36 255 _) 255) = _ from tget_tset_self ..]; decide
    · rw [show (State.sensor (State.setSensor w30_36 255 _) j) = _ from tget_tset_ne _ _ _ _ _ _ e,
        tget_of_not_listed _ _ _ fun kv hk q => e (q.symm.trans (hl kv hk))]
      decide) h
  show Int.natAbs (2 * (-240) - m) ≤ 480
  omega
theorem tMed2 : ∀ (m : Int), State.nearMedian2 (State.setSensor tUp 255 { reading := Int.ofNat 240, state := (State.sensor tUp 255).state, cause := (State.sensor tUp 255).cause, value := (State.sensor tUp 255).value, lastGood := (State.sensor tUp 255).lastGood, offset := (State.sensor tUp 255).offset, apart := (State.sensor tUp 255).apart, phase1 := (State.sensor tUp 255).phase1, hotTick := (State.sensor tUp 255).hotTick : Sensor }) 255 = some m → Int.natAbs (Int.ofNat 2 * Int.ofNat 240 - m) ≤ 480 := by
  intro m h
  have hl : tUp.nrg.sensors = [] := by rfl
  have := nearMedian2_bounds _ 255 0 240 m (fun j => by
    by_cases e : j = 255
    · subst e; rw [show (State.sensor (State.setSensor tUp 255 _) 255) = _ from tget_tset_self ..]; decide
    · rw [show (State.sensor (State.setSensor tUp 255 _) j) = _ from tget_tset_ne _ _ _ _ _ _ e, hl]
      exact (by decide : (0 : Int) ≤ Sensor.reset.reading ∧ Sensor.reset.reading ≤ 240)) h
  show Int.natAbs (2 * 240 - m) ≤ 480
  omega
theorem tNoOwn : ∀ (p : Nat), noOwn (State.setRb (State.writeMem tFab 0 [1#8]) Reg.KEY_READY 1 true) p := by
  intro p
  by_cases e : p = 15
  · subst e; decide +kernel
  · have hl : ∀ kv ∈ tFab.ports, kv.1 = 15 := by decide +kernel
    have hp : (State.setRb (State.writeMem tFab 0 [1#8]) Reg.KEY_READY 1 true).port p = Port.reset :=
      tget_of_not_listed _ _ _ fun kv hk q => e (q.symm.trans (hl kv hk))
    have hw : tFab.fab.waiting = [] := by rfl
    simp [noOwn, hp, hw, Port.reset]
theorem tBlk1 : State.blkOk (tPage 9 4 (tRunsB (tBlk (tEvict 1 0)))) (PageAt.blk (State.pageAt (tPage 9 4 (tRunsB (tBlk (tEvict 1 0)))) 3 (State.wslot (tPage 9 4 (tRunsB (tBlk (tEvict 1 0)))) 3 (wbSlot (tBlk (tEvict 1 0)).bytes)) 0 3) 5) 32 (PageAt.trl (State.pageAt (tPage 9 4 (tRunsB (tBlk (tEvict 1 0)))) 3 (State.wslot (tPage 9 4 (tRunsB (tBlk (tEvict 1 0)))) 3 (wbSlot (tBlk (tEvict 1 0)).bytes)) 0 3) 5) = true := by decide +kernel
theorem tBlk2 : State.blkOk (tPage 9 4 (tRunsB (tBlk (tEvict 2 0)))) (PageAt.blk (State.pageAt (tPage 9 4 (tRunsB (tBlk (tEvict 2 0)))) 3 (State.wslot (tPage 9 4 (tRunsB (tBlk (tEvict 2 0)))) 3 (wbSlot (tBlk (tEvict 2 0)).bytes)) 0 3) 5) 32 (PageAt.trl (State.pageAt (tPage 9 4 (tRunsB (tBlk (tEvict 2 0)))) 3 (State.wslot (tPage 9 4 (tRunsB (tBlk (tEvict 2 0)))) 3 (wbSlot (tBlk (tEvict 2 0)).bytes)) 0 3) 5) = true := by decide +kernel
theorem tBlk3 : State.blkOk (tPage 9 4 (tRunsB (tBlk tRequant))) (PageAt.blk (State.pageAt (tPage 9 4 (tRunsB (tBlk tRequant))) 3 (State.wslot (tPage 9 4 (tRunsB (tBlk tRequant))) 3 (wbSlot (tBlk tRequant).bytes)) 0 3) 5) 32 (PageAt.trl (State.pageAt (tPage 9 4 (tRunsB (tBlk tRequant))) 3 (State.wslot (tPage 9 4 (tRunsB (tBlk tRequant))) 3 (wbSlot (tBlk tRequant).bytes)) 0 3) 5) = true := by decide +kernel
theorem tBlk4 : State.blkOk (tPage 9 4 (tRunsB (tBlk (tEvict 0 193)))) (PageAt.blk (State.pageAt (tPage 9 4 (tRunsB (tBlk (tEvict 0 193)))) 3 (State.wslot (tPage 9 4 (tRunsB (tBlk (tEvict 0 193)))) 3 (wbSlot (tBlk (tEvict 0 193)).bytes)) 0 3) 5) 32 (PageAt.trl (State.pageAt (tPage 9 4 (tRunsB (tBlk (tEvict 0 193)))) 3 (State.wslot (tPage 9 4 (tRunsB (tBlk (tEvict 0 193)))) 3 (wbSlot (tBlk (tEvict 0 193)).bytes)) 0 3) 5) = true := by decide +kernel
theorem tBlk5 : State.blkOk (tSkPage (tRunsB (tBlk (tResum 0)))) (PageAt.blk (State.pageAt (tSkPage (tRunsB (tBlk (tResum 0)))) 3 (State.wslot (tSkPage (tRunsB (tBlk (tResum 0)))) 3 (wbSlot (tBlk (tResum 0)).bytes)) 0 3) 5) 32 (PageAt.trl (State.pageAt (tSkPage (tRunsB (tBlk (tResum 0)))) 3 (State.wslot (tSkPage (tRunsB (tBlk (tResum 0)))) 3 (wbSlot (tBlk (tResum 0)).bytes)) 0 3) 5) = true := by decide +kernel
theorem tBlk6 : State.blkOk (tSkPage (tRunsB (tBlk (tResum 0)))) (PageAt.blk (State.pageAt (tSkPage (tRunsB (tBlk (tResum 0)))) 3 (State.wslot (tSkPage (tRunsB (tBlk (tResum 0)))) 3 (wbSlot (tBlk (tResum 0)).bytes)) 0 3) 4) 2048 (PageAt.trl (State.pageAt (tSkPage (tRunsB (tBlk (tResum 0)))) 3 (State.wslot (tSkPage (tRunsB (tBlk (tResum 0)))) 3 (wbSlot (tBlk (tResum 0)).bytes)) 0 3) 4) = true :=
  blkOk_zeros _ _ _ _ _ crc_zeros_2048 (by decide +kernel) (by decide +kernel)
theorem tBlk7 : State.blkOk (tSkPage (tRunsB (tBlk (tResum 0)))) (State.pageAt (tSkPage (tRunsB (tBlk (tResum 0)))) 3 (State.wslot (tSkPage (tRunsB (tBlk (tResum 0)))) 3 (wbSlot (tBlk (tResum 0)).bytes)) 0 3).sblk 2048 (State.pageAt (tSkPage (tRunsB (tBlk (tResum 0)))) 3 (State.wslot (tSkPage (tRunsB (tBlk (tResum 0)))) 3 (wbSlot (tBlk (tResum 0)).bytes)) 0 3).strl = true :=
  blkOk_zeros _ _ _ _ _ crc_zeros_2048 (by decide +kernel) (by decide +kernel)

/-- A page whose blocks are right counts none. -/
theorem pageBad_none (s : State) (r : PageRef) (n : Nat) (hn : pageTile r.hdr.fmt = n)
    (h0 : s.blkOk (r.at_.blk 0) n (r.at_.trl 0) = true) (h1 : s.blkOk (r.at_.blk 1) n (r.at_.trl 1) = true)
    (h2 : s.blkOk (r.at_.blk 2) n (r.at_.trl 2) = true) (h3 : s.blkOk (r.at_.blk 3) n (r.at_.trl 3) = true)
    (h5 : s.blkOk (r.at_.blk 5) 32 (r.at_.trl 5) = true) : s.pageBad r = 0 := by
  simp [State.pageBad, hn, show List.range 4 = [0, 1, 2, 3] from rfl, h0, h1, h2, h3, h5]

theorem tBad : State.pageBad (tFullPage (tRunsB (tBlk tRequant))) { p := 3, at_ := State.pageAt (tFullPage (tRunsB (tBlk tRequant))) 3 (State.wslot (tFullPage (tRunsB (tBlk tRequant))) 3 (wbSlot (tBlk tRequant).bytes)) 0 3, hdr := State.phdr (tFullPage (tRunsB (tBlk tRequant))) (State.pageAt (tFullPage (tRunsB (tBlk tRequant))) 3 (State.wslot (tFullPage (tRunsB (tBlk tRequant))) 3 (wbSlot (tBlk tRequant).bytes)) 0 3) : PageRef } = 0 :=
  pageBad_none _ _ 4096 (by decide +kernel) (blkOk_zeros _ _ _ _ _ crc_zeros_4096 (by decide +kernel) (by decide +kernel))
    (blkOk_zeros _ _ _ _ _ crc_zeros_4096 (by decide +kernel) (by decide +kernel))
    (blkOk_zeros _ _ _ _ _ crc_zeros_4096 (by decide +kernel) (by decide +kernel))
    (blkOk_zeros _ _ _ _ _ crc_zeros_4096 (by decide +kernel) (by decide +kernel)) (by decide +kernel)

/-- The tile of zeros of the region. -/
theorem tZeroTile : State.readTile tGoodTiles (State.viewNow tGoodTiles PortEv.clear) tReg0 0x12000 =
    TileRead.mk (zeros 4096) (State.trailerPE tGoodTiles (State.viewNow tGoodTiles PortEv.clear) (tReg0.trailerDA 0x12000)) true := by
  rw [readTile_zeros tGoodTiles tReg0 0x12000 4096 _ crc_zeros_4096 (by decide +kernel) (by decide +kernel) (by decide +kernel)]
  congr 1

theorem tTile1 : (State.readTile tGoodTiles (State.viewNow tGoodTiles PortEv.clear) tReg0 (tReq 1 64 73728 []).addr).ok = true :=
  congrArg TileRead.ok tZeroTile
theorem tTile2 : calmTile tGoodTiles (tReq 1 64 73728 []).addr (List.length (State.readTile tGoodTiles (State.viewNow tGoodTiles PortEv.clear) tReg0 (tReq 1 64 73728 []).addr).bytes) := by
  have e : (State.readTile tGoodTiles (State.viewNow tGoodTiles PortEv.clear) tReg0 (tReq 1 64 73728 []).addr).bytes.length = 4096 :=
    congrArg (fun x : TileRead => x.bytes.length) tZeroTile
  rw [e]; decide +kernel
theorem tTile3 : (State.tiledPiece tGoodTiles (State.viewNow tGoodTiles PortEv.clear) tReg0 (tReq 1 7 77696 []).addr (32 * ((tReq 1 7 77696 []).mod % 16 + 1))).snd = [] := by
  have e : tReg0.slotsIn (tReq 1 7 77696 []).addr (32 * ((tReq 1 7 77696 []).mod % 16 + 1)) = [0x12000] := by decide +kernel
  simp only [State.tiledPiece, e, List.map_cons, List.map_nil, tZeroTile]; rfl
theorem tTile4 : BitVec.toNat (crc32c (padTo (tileSize (pktTrailer w28_34).fmt tReg0.sealFmt) (State.tileTake tTileIn w28_34 false).snd)) = (pktTrailer w28_34).crc := by
  have e : padTo (tileSize (pktTrailer w28_34).fmt tReg0.sealFmt) (State.tileTake tTileIn w28_34 false).snd = zeros 4096 := by decide +kernel
  rw [e, crc_zeros_4096]; decide +kernel

/-- The same tile in the state of a doorbell. -/
theorem tZeroTile2 : State.readTile (tGoodT (tHas (tDma 66 73728 8192))) (State.viewNow (tGoodT (tHas (tDma 66 73728 8192))) PortEv.clear) tReg0
    (gaDA (bfld (tE (tDma 66 73728 8192) false).bytes 16 8)) =
    TileRead.mk (zeros 4096) (State.trailerPE (tGoodT (tHas (tDma 66 73728 8192)))
      (State.viewNow (tGoodT (tHas (tDma 66 73728 8192))) PortEv.clear)
      (tReg0.trailerDA (gaDA (bfld (tE (tDma 66 73728 8192) false).bytes 16 8)))) true := by
  rw [readTile_zeros _ tReg0 _ 4096 _ crc_zeros_4096 (by decide +kernel) (by decide +kernel) (by decide +kernel)]
  congr 1

theorem tTile5 : (State.readTile (tGoodT (tHas (tDma 66 73728 8192))) (State.viewNow (tGoodT (tHas (tDma 66 73728 8192))) PortEv.clear) tReg0 (gaDA (bfld (tE (tDma 66 73728 8192) false).bytes 16 8))).ok = true :=
  congrArg TileRead.ok tZeroTile2
theorem tTile6 : List.length (State.readTile (tGoodT (tHas (tDma 66 73728 8192))) (State.viewNow (tGoodT (tHas (tDma 66 73728 8192))) PortEv.clear) tReg0 (gaDA (bfld (tE (tDma 66 73728 8192) false).bytes 16 8))).bytes ≤ bfld (tE (tDma 66 73728 8192) false).bytes 24 4 := by
  have e : bfld (tE (tDma 66 73728 8192) false).bytes 24 4 = 8192 := by decide +kernel
  rw [tZeroTile2, e]; simp [zeros]
theorem tAim : clampCode (Ring.aim (State.ring w25_53b 5) (State.ringCode w25_53b 5) (Config.feedForward (State.regionRec w25_53b (Config.ringRegion 5 % 64)) (State.freeVal w25_53b) (State.ring w25_53b 5).ff) w25_53) = 0 ∨ clampCode (Ring.aim (State.ring w25_53b 5) (State.ringCode w25_53b 5) (Config.feedForward (State.regionRec w25_53b (Config.ringRegion 5 % 64)) (State.freeVal w25_53b) (State.ring w25_53b 5).ff) w25_53) = 4095 := by
  refine .inr ?_
  have e1 : State.ring w25_53b 5 = { Ring.off with code := some 7, last := 10 } := by rfl
  have e2 : State.ringCode w25_53b 5 = 7 := by decide +kernel
  have e3 : Config.feedForward (State.regionRec w25_53b (Config.ringRegion 5 % 64)) (State.freeVal w25_53b) (State.ring w25_53b 5).ff =
      tFeed w25_53b := by rw [e1]; rfl
  rw [e3, e2, e1, show w25_53 = 128 * ((tFeed w25_53b).natAbs + 5000) from rfl]
  simp only [Ring.aim, Ring.off, clampCode, Bool.false_eq_true, if_false]
  omega


/-! ### The hypotheses of every statement are met -/

/-- States and operands that meet the hypotheses of ScalarArithmeticResults. -/
theorem wit_ScalarArithmeticResults :
    (State.runs (tRun tC) tC = true ∧ scalarEnc (tFA 0 5 1 2 0 0) 2 false = true) ∧
    (State.runs (tRun tZ) tZ = true ∧ scalarEnc (tFA 0 5 1 2 0 0) 2 false = true) ∧
    (State.runs (tRun tC) tC = true ∧ scalarEnc (tFA 0 5 1 2 0 0) 2 false = true) ∧
    (State.runs (tRun tC) tC = true ∧ scalarEnc (tFA 0 5 1 1 0 0) 2 false = true) ∧
    (State.runs (tRun tC) tC = true ∧ scalarEnc (tFA 0 0 1 2 0 0) 2 false = true) ∧
    (State.runs (tRun tC) tC = true ∧ scalarEnc (tFA 1 5 1 0 0 2048) 2 false = true) ∧
    (State.runs (tRun tC) tC = true ∧ scalarEnc (tFA 0 31 1 2 0 0) 2 false = true) ∧
    (State.runs (tRun tC) tC = true ∧ scalarEnc (tFA 1 5 1 0 0 67) 2 false = true) ∧
    (State.runs (tRun tC) tC = true ∧ scalarEnc (tFA 0 5 1 1 0 0) 2 false = true) ∧
    (State.runs (tRun tC) tC = true ∧ scalarEnc (tFA 0 5 1 4 0 0) 2 false = true) ∧
    (State.runs (tRun tC) tC = true ∧ scalarEnc (tFA 0 1 1 2 0 0) 2 false = true) ∧
    (State.runs (tRun tC) tC = true ∧ scalarEnc (tFA 0 5 1 2 0 0) 2 false = true) ∧
    (State.runs (tRun tC) tC = true ∧ scalarEnc (tFA 0 5 1 2 0 0) 2 false = true) ∧
    (State.runs (tRun tC) tC = true ∧ scalarEnc (tFA 0 5 1 2 0 0) 2 false = true) := by
  and_intros <;> first | decide +kernel | rfl
/-- States and operands that meet the hypotheses of SystemInstructionResults, part 1. -/
theorem wit_SystemInstructionResults_1 :
    (State.runs (tRun tC) tC = true ∧ (tFA 0 0 0 0 0 0).mods = 0#8 ∧ faClean (tFA 0 0 0 0 0 0) false false false false false = true) ∧
    (State.runs (tRun tZ) tZ = true ∧ (tFA 0 0 0 0 0 0).mods = 0#8 ∧ faClean (tFA 0 0 0 0 0 0) false false false false false = true) ∧
    (State.runs (tRun tZ) tZ = true ∧ (tFB 0 0 0 65535).mods = 0#8 ∧ fbClean (tFB 0 0 0 65535) false false true = true ∧ BitVec.toNat (tFB 0 0 0 65535).imm64 < 65536) ∧
    (State.runs tBusy tC = true ∧ BitVec.toNat (tFA 0 0 0 0 0 0).mods < 2 ∧ faClean (tFA 0 0 0 0 0 0) false false false false false = true) ∧
    (State.runs tBusy tC = true ∧ BitVec.toNat (tFA 1 0 0 0 0 0).mods < 2 ∧ faClean (tFA 1 0 0 0 0 0) false false false false false = true) ∧
    (State.runs tQueue tC = true ∧ BitVec.toNat (tFA 1 0 0 0 0 0).mods < 2 ∧ faClean (tFA 1 0 0 0 0 0) false false false false false = true) ∧
    (State.runs (tRun tC) tC = true ∧ (tFB 0 5 0 1).mods = 0#8 ∧ fbClean (tFB 0 5 0 1) true false true = true ∧ BitVec.toNat (tFB 0 5 0 1).imm64 = 1) ∧
    (State.runs (tRun tC) tC = true ∧ (tFB 0 5 0 2).mods = 0#8 ∧ fbClean (tFB 0 5 0 2) true false true = true ∧ BitVec.toNat (tFB 0 5 0 2).imm64 = 2) ∧
    (State.runs tSeed tC = true ∧ (tFB 0 5 0 3).mods = 0#8 ∧ fbClean (tFB 0 5 0 3) true false true = true ∧ BitVec.toNat (tFB 0 5 0 3).imm64 = 3 ∧ (State.at tSeed tC).tq = []) ∧
    (State.runs (tRun tC) tC = true ∧ (tFB 0 5 0 4).mods = 0#8 ∧ fbClean (tFB 0 5 0 4) true false true = true ∧ BitVec.toNat (tFB 0 5 0 4).imm64 = 4) ∧
    (State.runs (tRun tC) tC = true ∧ (tFB 0 5 0 5).mods = 0#8 ∧ fbClean (tFB 0 5 0 5) true false true = true ∧ BitVec.toNat (tFB 0 5 0 5).imm64 = 5) ∧
    (State.runs (tRun tZ) tZ = true ∧ (tFB 0 5 0 6).mods = 0#8 ∧ fbClean (tFB 0 5 0 6) true false true = true ∧ BitVec.toNat (tFB 0 5 0 6).imm64 = 6) ∧
    (State.runs (tRun tC) tC = true ∧ (tFB 0 5 0 7).mods = 0#8 ∧ fbClean (tFB 0 5 0 7) true false true = true ∧ BitVec.toNat (tFB 0 5 0 7).imm64 = 7) ∧
    (State.runs (tRun tC) tC = true ∧ (tFB 0 5 0 0).mods = 0#8 ∧ fbClean (tFB 0 5 0 0) true false true = true ∧ BitVec.toNat (tFB 0 5 0 0).imm64 = 0) := by
  and_intros <;> first | decide +kernel | rfl
/-- States and operands that meet the hypotheses of SystemInstructionResults, part 2. -/
theorem wit_SystemInstructionResults_2 :
    (State.runs (tRun tC) tC = true ∧ (tFB 0 0 1 1).mods = 0#8 ∧ fbClean (tFB 0 0 1 1) false true true = true ∧ BitVec.toNat (tFB 0 0 1 1).imm64 = 1) ∧
    (State.runs (tRun tC) tC = true ∧ (tFB 0 0 1 2).mods = 0#8 ∧ fbClean (tFB 0 0 1 2) false true true = true ∧ BitVec.toNat (tFB 0 0 1 2).imm64 = 2) ∧
    (State.runs (tRun tC) tC = true ∧ (tFB 0 0 1 3).mods = 0#8 ∧ fbClean (tFB 0 0 1 3) false true true = true ∧ BitVec.toNat (tFB 0 0 1 3).imm64 = 3 ∧ (State.at (tRun tC) tC).tq = []) ∧
    (State.runs (tRun tC) tC = true ∧ (tFB 0 0 1 4).mods = 0#8 ∧ fbClean (tFB 0 0 1 4) false true true = true ∧ BitVec.toNat (tFB 0 0 1 4).imm64 = 4) ∧
    (State.runs (tRun tC) tC = true ∧ (tFB 0 0 1 0).mods = 0#8 ∧ fbClean (tFB 0 0 1 0) false true true = true ∧ (BitVec.toNat (tFB 0 0 1 0).imm64 = 0 ∨ 5 ≤ BitVec.toNat (tFB 0 0 1 0).imm64 ∧ BitVec.toNat (tFB 0 0 1 0).imm64 ≤ 7)) ∧
    (State.runs (tRun tC) tC = true ∧ (tFB 0 0 1 5).mods = 0#8 ∧ fbClean (tFB 0 0 1 5) false true true = true ∧ (BitVec.toNat (tFB 0 0 1 5).imm64 = 0 ∨ 5 ≤ BitVec.toNat (tFB 0 0 1 5).imm64 ∧ BitVec.toNat (tFB 0 0 1 5).imm64 ≤ 7)) ∧
    (State.runs (tRun tC) tC = true ∧ (tFB 0 0 1 7).mods = 0#8 ∧ fbClean (tFB 0 0 1 7) false true true = true ∧ (BitVec.toNat (tFB 0 0 1 7).imm64 = 0 ∨ 5 ≤ BitVec.toNat (tFB 0 0 1 7).imm64 ∧ BitVec.toNat (tFB 0 0 1 7).imm64 ≤ 7)) ∧
    (State.runs (tRun tC) tC = true ∧ scalarEnc (tFA 0 5 1 2 4 0) 2 true = true) ∧
    (State.runs (tRun tC) tC = true ∧ scalarEnc (tFA 1 5 1 0 0 4095) 2 true = true) ∧
    (State.runs (tRun tC) tC = true ∧ (tFB 0 5 0 18446744073709551615).mods = 0#8 ∧ fbClean (tFB 0 5 0 18446744073709551615) true false true = true) ∧
    (State.runs (tRun tC) tC = true ∧ (tFB 0 5 1 7).mods = 0#8 ∧ fbClean (tFB 0 5 1 7) true true true = true) := by
  and_intros <;> first | decide +kernel | rfl
/-- States and operands that meet the hypotheses of BranchTargets, part 1. -/
theorem wit_BranchTargets_1 :
    (State.runs (tRun tC) tC = true ∧ fcClean (tFC 0 1 1 (-Int.ofNat 1)) true true true = true ∧ (BitVec.toNat (tFC 0 1 1 (-Int.ofNat 1)).mods = 0 ∧ true = decide (Cell.sr (State.at (tRun tC) tC) (BitVec.toNat (tFC 0 1 1 (-Int.ofNat 1)).ra) = Cell.sr (State.at (tRun tC) tC) (BitVec.toNat (tFC 0 1 1 (-Int.ofNat 1)).rb)) ∨ BitVec.toNat (tFC 0 1 1 (-Int.ofNat 1)).mods = 1 ∧ true = decide (Cell.sr (State.at (tRun tC) tC) (BitVec.toNat (tFC 0 1 1 (-Int.ofNat 1)).ra) ≠ Cell.sr (State.at (tRun tC) tC) (BitVec.toNat (tFC 0 1 1 (-Int.ofNat 1)).rb)) ∨ BitVec.toNat (tFC 0 1 1 (-Int.ofNat 1)).mods = 2 ∧ true = decide (BitVec.toInt (Cell.sr (State.at (tRun tC) tC) (BitVec.toNat (tFC 0 1 1 (-Int.ofNat 1)).ra)) < BitVec.toInt (Cell.sr (State.at (tRun tC) tC) (BitVec.toNat (tFC 0 1 1 (-Int.ofNat 1)).rb))) ∨ BitVec.toNat (tFC 0 1 1 (-Int.ofNat 1)).mods = 3 ∧ true = decide (BitVec.toInt (Cell.sr (State.at (tRun tC) tC) (BitVec.toNat (tFC 0 1 1 (-Int.ofNat 1)).rb)) ≤ BitVec.toInt (Cell.sr (State.at (tRun tC) tC) (BitVec.toNat (tFC 0 1 1 (-Int.ofNat 1)).ra))) ∨ BitVec.toNat (tFC 0 1 1 (-Int.ofNat 1)).mods = 4 ∧ true = decide (BitVec.toNat (Cell.sr (State.at (tRun tC) tC) (BitVec.toNat (tFC 0 1 1 (-Int.ofNat 1)).ra)) < BitVec.toNat (Cell.sr (State.at (tRun tC) tC) (BitVec.toNat (tFC 0 1 1 (-Int.ofNat 1)).rb))) ∨ BitVec.toNat (tFC 0 1 1 (-Int.ofNat 1)).mods = 5 ∧ true = decide (BitVec.toNat (Cell.sr (State.at (tRun tC) tC) (BitVec.toNat (tFC 0 1 1 (-Int.ofNat 1)).rb)) ≤ BitVec.toNat (Cell.sr (State.at (tRun tC) tC) (BitVec.toNat (tFC 0 1 1 (-Int.ofNat 1)).ra))))) ∧
    (State.runs (tRun tC) tC = true ∧ fcClean (tFC 1 1 1 (Int.ofNat 5)) true true true = true ∧ (BitVec.toNat (tFC 1 1 1 (Int.ofNat 5)).mods = 0 ∧ false = decide (Cell.sr (State.at (tRun tC) tC) (BitVec.toNat (tFC 1 1 1 (Int.ofNat 5)).ra) = Cell.sr (State.at (tRun tC) tC) (BitVec.toNat (tFC 1 1 1 (Int.ofNat 5)).rb)) ∨ BitVec.toNat (tFC 1 1 1 (Int.ofNat 5)).mods = 1 ∧ false = decide (Cell.sr (State.at (tRun tC) tC) (BitVec.toNat (tFC 1 1 1 (Int.ofNat 5)).ra) ≠ Cell.sr (State.at (tRun tC) tC) (BitVec.toNat (tFC 1 1 1 (Int.ofNat 5)).rb)) ∨ BitVec.toNat (tFC 1 1 1 (Int.ofNat 5)).mods = 2 ∧ false = decide (BitVec.toInt (Cell.sr (State.at (tRun tC) tC) (BitVec.toNat (tFC 1 1 1 (Int.ofNat 5)).ra)) < BitVec.toInt (Cell.sr (State.at (tRun tC) tC) (BitVec.toNat (tFC 1 1 1 (Int.ofNat 5)).rb))) ∨ BitVec.toNat (tFC 1 1 1 (Int.ofNat 5)).mods = 3 ∧ false = decide (BitVec.toInt (Cell.sr (State.at (tRun tC) tC) (BitVec.toNat (tFC 1 1 1 (Int.ofNat 5)).rb)) ≤ BitVec.toInt (Cell.sr (State.at (tRun tC) tC) (BitVec.toNat (tFC 1 1 1 (Int.ofNat 5)).ra))) ∨ BitVec.toNat (tFC 1 1 1 (Int.ofNat 5)).mods = 4 ∧ false = decide (BitVec.toNat (Cell.sr (State.at (tRun tC) tC) (BitVec.toNat (tFC 1 1 1 (Int.ofNat 5)).ra)) < BitVec.toNat (Cell.sr (State.at (tRun tC) tC) (BitVec.toNat (tFC 1 1 1 (Int.ofNat 5)).rb))) ∨ BitVec.toNat (tFC 1 1 1 (Int.ofNat 5)).mods = 5 ∧ false = decide (BitVec.toNat (Cell.sr (State.at (tRun tC) tC) (BitVec.toNat (tFC 1 1 1 (Int.ofNat 5)).rb)) ≤ BitVec.toNat (Cell.sr (State.at (tRun tC) tC) (BitVec.toNat (tFC 1 1 1 (Int.ofNat 5)).ra))))) ∧
    (State.runs (tRun tC) tC = true ∧ fcClean (tFC 2 1 2 (Int.ofNat 5)) true true true = true ∧ (BitVec.toNat (tFC 2 1 2 (Int.ofNat 5)).mods = 0 ∧ true = decide (Cell.sr (State.at (tRun tC) tC) (BitVec.toNat (tFC 2 1 2 (Int.ofNat 5)).ra) = Cell.sr (State.at (tRun tC) tC) (BitVec.toNat (tFC 2 1 2 (Int.ofNat 5)).rb)) ∨ BitVec.toNat (tFC 2 1 2 (Int.ofNat 5)).mods = 1 ∧ true = decide (Cell.sr (State.at (tRun tC) tC) (BitVec.toNat (tFC 2 1 2 (Int.ofNat 5)).ra) ≠ Cell.sr (State.at (tRun tC) tC) (BitVec.toNat (tFC 2 1 2 (Int.ofNat 5)).rb)) ∨ BitVec.toNat (tFC 2 1 2 (Int.ofNat 5)).mods = 2 ∧ true = decide (BitVec.toInt (Cell.sr (State.at (tRun tC) tC) (BitVec.toNat (tFC 2 1 2 (Int.ofNat 5)).ra)) < BitVec.toInt (Cell.sr (State.at (tRun tC) tC) (BitVec.toNat (tFC 2 1 2 (Int.ofNat 5)).rb))) ∨ BitVec.toNat (tFC 2 1 2 (Int.ofNat 5)).mods = 3 ∧ true = decide (BitVec.toInt (Cell.sr (State.at (tRun tC) tC) (BitVec.toNat (tFC 2 1 2 (Int.ofNat 5)).rb)) ≤ BitVec.toInt (Cell.sr (State.at (tRun tC) tC) (BitVec.toNat (tFC 2 1 2 (Int.ofNat 5)).ra))) ∨ BitVec.toNat (tFC 2 1 2 (Int.ofNat 5)).mods = 4 ∧ true = decide (BitVec.toNat (Cell.sr (State.at (tRun tC) tC) (BitVec.toNat (tFC 2 1 2 (Int.ofNat 5)).ra)) < BitVec.toNat (Cell.sr (State.at (tRun tC) tC) (BitVec.toNat (tFC 2 1 2 (Int.ofNat 5)).rb))) ∨ BitVec.toNat (tFC 2 1 2 (Int.ofNat 5)).mods = 5 ∧ true = decide (BitVec.toNat (Cell.sr (State.at (tRun tC) tC) (BitVec.toNat (tFC 2 1 2 (Int.ofNat 5)).rb)) ≤ BitVec.toNat (Cell.sr (State.at (tRun tC) tC) (BitVec.toNat (tFC 2 1 2 (Int.ofNat 5)).ra))))) ∧
    (State.runs (tRun tC) tC = true ∧ fcClean (tFC 3 1 2 (Int.ofNat 5)) true true true = true ∧ (BitVec.toNat (tFC 3 1 2 (Int.ofNat 5)).mods = 0 ∧ false = decide (Cell.sr (State.at (tRun tC) tC) (BitVec.toNat (tFC 3 1 2 (Int.ofNat 5)).ra) = Cell.sr (State.at (tRun tC) tC) (BitVec.toNat (tFC 3 1 2 (Int.ofNat 5)).rb)) ∨ BitVec.toNat (tFC 3 1 2 (Int.ofNat 5)).mods = 1 ∧ false = decide (Cell.sr (State.at (tRun tC) tC) (BitVec.toNat (tFC 3 1 2 (Int.ofNat 5)).ra) ≠ Cell.sr (State.at (tRun tC) tC) (BitVec.toNat (tFC 3 1 2 (Int.ofNat 5)).rb)) ∨ BitVec.toNat (tFC 3 1 2 (Int.ofNat 5)).mods = 2 ∧ false = decide (BitVec.toInt (Cell.sr (State.at (tRun tC) tC) (BitVec.toNat (tFC 3 1 2 (Int.ofNat 5)).ra)) < BitVec.toInt (Cell.sr (State.at (tRun tC) tC) (BitVec.toNat (tFC 3 1 2 (Int.ofNat 5)).rb))) ∨ BitVec.toNat (tFC 3 1 2 (Int.ofNat 5)).mods = 3 ∧ false = decide (BitVec.toInt (Cell.sr (State.at (tRun tC) tC) (BitVec.toNat (tFC 3 1 2 (Int.ofNat 5)).rb)) ≤ BitVec.toInt (Cell.sr (State.at (tRun tC) tC) (BitVec.toNat (tFC 3 1 2 (Int.ofNat 5)).ra))) ∨ BitVec.toNat (tFC 3 1 2 (Int.ofNat 5)).mods = 4 ∧ false = decide (BitVec.toNat (Cell.sr (State.at (tRun tC) tC) (BitVec.toNat (tFC 3 1 2 (Int.ofNat 5)).ra)) < BitVec.toNat (Cell.sr (State.at (tRun tC) tC) (BitVec.toNat (tFC 3 1 2 (Int.ofNat 5)).rb))) ∨ BitVec.toNat (tFC 3 1 2 (Int.ofNat 5)).mods = 5 ∧ false = decide (BitVec.toNat (Cell.sr (State.at (tRun tC) tC) (BitVec.toNat (tFC 3 1 2 (Int.ofNat 5)).rb)) ≤ BitVec.toNat (Cell.sr (State.at (tRun tC) tC) (BitVec.toNat (tFC 3 1 2 (Int.ofNat 5)).ra))))) ∧
    (State.runs (tRun tC) tC = true ∧ fcClean (tFC 4 1 2 (Int.ofNat 5)) true true true = true ∧ (BitVec.toNat (tFC 4 1 2 (Int.ofNat 5)).mods = 0 ∧ false = decide (Cell.sr (State.at (tRun tC) tC) (BitVec.toNat (tFC 4 1 2 (Int.ofNat 5)).ra) = Cell.sr (State.at (tRun tC) tC) (BitVec.toNat (tFC 4 1 2 (Int.ofNat 5)).rb)) ∨ BitVec.toNat (tFC 4 1 2 (Int.ofNat 5)).mods = 1 ∧ false = decide (Cell.sr (State.at (tRun tC) tC) (BitVec.toNat (tFC 4 1 2 (Int.ofNat 5)).ra) ≠ Cell.sr (State.at (tRun tC) tC) (BitVec.toNat (tFC 4 1 2 (Int.ofNat 5)).rb)) ∨ BitVec.toNat (tFC 4 1 2 (Int.ofNat 5)).mods = 2 ∧ false = decide (BitVec.toInt (Cell.sr (State.at (tRun tC) tC) (BitVec.toNat (tFC 4 1 2 (Int.ofNat 5)).ra)) < BitVec.toInt (Cell.sr (State.at (tRun tC) tC) (BitVec.toNat (tFC 4 1 2 (Int.ofNat 5)).rb))) ∨ BitVec.toNat (tFC 4 1 2 (Int.ofNat 5)).mods = 3 ∧ false = decide (BitVec.toInt (Cell.sr (State.at (tRun tC) tC) (BitVec.toNat (tFC 4 1 2 (Int.ofNat 5)).rb)) ≤ BitVec.toInt (Cell.sr (State.at (tRun tC) tC) (BitVec.toNat (tFC 4 1 2 (Int.ofNat 5)).ra))) ∨ BitVec.toNat (tFC 4 1 2 (Int.ofNat 5)).mods = 4 ∧ false = decide (BitVec.toNat (Cell.sr (State.at (tRun tC) tC) (BitVec.toNat (tFC 4 1 2 (Int.ofNat 5)).ra)) < BitVec.toNat (Cell.sr (State.at (tRun tC) tC) (BitVec.toNat (tFC 4 1 2 (Int.ofNat 5)).rb))) ∨ BitVec.toNat (tFC 4 1 2 (Int.ofNat 5)).mods = 5 ∧ false = decide (BitVec.toNat (Cell.sr (State.at (tRun tC) tC) (BitVec.toNat (tFC 4 1 2 (Int.ofNat 5)).rb)) ≤ BitVec.toNat (Cell.sr (State.at (tRun tC) tC) (BitVec.toNat (tFC 4 1 2 (Int.ofNat 5)).ra))))) ∧
    (State.runs (tRun tC) tC = true ∧ fcClean (tFC 5 1 2 (-Int.ofNat 2147483648)) true true true = true ∧ (BitVec.toNat (tFC 5 1 2 (-Int.ofNat 2147483648)).mods = 0 ∧ true = decide (Cell.sr (State.at (tRun tC) tC) (BitVec.toNat (tFC 5 1 2 (-Int.ofNat 2147483648)).ra) = Cell.sr (State.at (tRun tC) tC) (BitVec.toNat (tFC 5 1 2 (-Int.ofNat 2147483648)).rb)) ∨ BitVec.toNat (tFC 5 1 2 (-Int.ofNat 2147483648)).mods = 1 ∧ true = decide (Cell.sr (State.at (tRun tC) tC) (BitVec.toNat (tFC 5 1 2 (-Int.ofNat 2147483648)).ra) ≠ Cell.sr (State.at (tRun tC) tC) (BitVec.toNat (tFC 5 1 2 (-Int.ofNat 2147483648)).rb)) ∨ BitVec.toNat (tFC 5 1 2 (-Int.ofNat 2147483648)).mods = 2 ∧ true = decide (BitVec.toInt (Cell.sr (State.at (tRun tC) tC) (BitVec.toNat (tFC 5 1 2 (-Int.ofNat 2147483648)).ra)) < BitVec.toInt (Cell.sr (State.at (tRun tC) tC) (BitVec.toNat (tFC 5 1 2 (-Int.ofNat 2147483648)).rb))) ∨ BitVec.toNat (tFC 5 1 2 (-Int.ofNat 2147483648)).mods = 3 ∧ true = decide (BitVec.toInt (Cell.sr (State.at (tRun tC) tC) (BitVec.toNat (tFC 5 1 2 (-Int.ofNat 2147483648)).rb)) ≤ BitVec.toInt (Cell.sr (State.at (tRun tC) tC) (BitVec.toNat (tFC 5 1 2 (-Int.ofNat 2147483648)).ra))) ∨ BitVec.toNat (tFC 5 1 2 (-Int.ofNat 2147483648)).mods = 4 ∧ true = decide (BitVec.toNat (Cell.sr (State.at (tRun tC) tC) (BitVec.toNat (tFC 5 1 2 (-Int.ofNat 2147483648)).ra)) < BitVec.toNat (Cell.sr (State.at (tRun tC) tC) (BitVec.toNat (tFC 5 1 2 (-Int.ofNat 2147483648)).rb))) ∨ BitVec.toNat (tFC 5 1 2 (-Int.ofNat 2147483648)).mods = 5 ∧ true = decide (BitVec.toNat (Cell.sr (State.at (tRun tC) tC) (BitVec.toNat (tFC 5 1 2 (-Int.ofNat 2147483648)).rb)) ≤ BitVec.toNat (Cell.sr (State.at (tRun tC) tC) (BitVec.toNat (tFC 5 1 2 (-Int.ofNat 2147483648)).ra))))) ∧
    (State.runs (tRun tC) tC = true ∧ fcClean (tFC 6 1 2 (Int.ofNat 5)) true true true = true ∧ 6 ≤ BitVec.toNat (tFC 6 1 2 (Int.ofNat 5)).mods ∧ (State.at (tRun tC) tC).emask[10] = true) ∧
    (State.runs (tRun tC) tC = true ∧ fcClean (tFC 15 1 2 (Int.ofNat 5)) true true true = true ∧ 6 ≤ BitVec.toNat (tFC 15 1 2 (Int.ofNat 5)).mods ∧ (State.at (tRun tC) tC).emask[10] = true) ∧
    (State.runs (tRun tC) tC = true ∧ (tFC 0 0 0 (Int.ofNat 2147483647)).mods = 0#8 ∧ fcClean (tFC 0 0 0 (Int.ofNat 2147483647)) false false true = true) ∧
    (State.runs (tRun tZ) tZ = true ∧ (tFC 0 5 0 (Int.ofNat 3)).mods = 0#8 ∧ fcClean (tFC 0 5 0 (Int.ofNat 3)) true false true = true) ∧
    (State.runs (tRun tC) tC = true ∧ (tFC 0 3 0 (Int.ofNat 0)).mods = 0#8 ∧ fcClean (tFC 0 3 0 (Int.ofNat 0)) true false false = true ∧ BitVec.toNat (Cell.sr (State.at (tRun tC) tC) (BitVec.toNat (tFC 0 3 0 (Int.ofNat 0)).ra)) % 16 = 0) ∧
    (State.runs (tRun tC) tC = true ∧ (tFC 0 2 0 (Int.ofNat 0)).mods = 0#8 ∧ fcClean (tFC 0 2 0 (Int.ofNat 0)) true false false = true ∧ BitVec.toNat (Cell.sr (State.at (tRun tC) tC) (BitVec.toNat (tFC 0 2 0 (Int.ofNat 0)).ra)) % 16 ≠ 0 ∧ (State.at (tRun tC) tC).emask[11] = true) ∧
    (State.runs (tRun tC) tC = true ∧ fcClean (tFC 0 1 0 (Int.ofNat 3)) true false true = true ∧ BitVec.toNat (tFC 0 1 0 (Int.ofNat 3)).ra < 8 ∧ BitVec.toNat (tFC 0 1 0 (Int.ofNat 3)).mods = 0) ∧
    (State.runs (tRun tC) tC = true ∧ fcClean (tFC 1 2 0 (Int.ofNat 3)) true false true = true ∧ BitVec.toNat (tFC 1 2 0 (Int.ofNat 3)).ra < 8 ∧ BitVec.toNat (tFC 1 2 0 (Int.ofNat 3)).mods = 1) := by
  and_intros <;> first | decide +kernel | rfl
/-- States and operands that meet the hypotheses of BranchTargets, part 2. -/
theorem wit_BranchTargets_2 :
    (State.runs (tRun tC) tC = true ∧ fcClean (tFC 2 7 0 (Int.ofNat 3)) true false true = true ∧ BitVec.toNat (tFC 2 7 0 (Int.ofNat 3)).ra < 8 ∧ BitVec.toNat (tFC 2 7 0 (Int.ofNat 3)).mods = 2) ∧
    (State.runs (tRun tC) tC = true ∧ fcClean (tFC 3 1 0 (Int.ofNat 3)) true false true = true ∧ BitVec.toNat (tFC 3 1 0 (Int.ofNat 3)).ra < 8 ∧ 3 ≤ BitVec.toNat (tFC 3 1 0 (Int.ofNat 3)).mods ∧ (State.at (tRun tC) tC).emask[10] = true) ∧
    (State.runs (tRun tC) tC = true ∧ fcClean (tFC 15 1 0 (Int.ofNat 3)) true false true = true ∧ BitVec.toNat (tFC 15 1 0 (Int.ofNat 3)).ra < 8 ∧ 3 ≤ BitVec.toNat (tFC 15 1 0 (Int.ofNat 3)).mods ∧ (State.at (tRun tC) tC).emask[10] = true) := by
  and_intros <;> first | decide +kernel | rfl
/-- States and operands that meet the hypotheses of ScalarMemoryAccess. -/
theorem wit_ScalarMemoryAccess :
    (State.runs (tRun tC) tC = true ∧ (tFB 0 5 3 8).mods = 0#8 ∧ fbClean (tFB 0 5 3 8) true true true = true ∧ 2199023255624 = BitVec.toNat (Cell.sr (State.at (tRun tC) tC) (BitVec.toNat (tFB 0 5 3 8).ra) + (tFB 0 5 3 8).imm64) ∧ 2199023255624 % 8 = 0 ∧ State.cellLocal (tRun tC) (cellIdx tC) 2199023255624 8 = true ∧ State.poisonRange (tRun tC) 2199023255624 8 = false ∧ State.calm (tRun tC) 2199023255624 8 = true) ∧
    (State.runs (tRun tC) tC = true ∧ (tFB 0 5 3 8).mods = 0#8 ∧ fbClean (tFB 0 5 3 8) true true true = true ∧ 2199023255624 = BitVec.toNat (Cell.sr (State.at (tRun tC) tC) (BitVec.toNat (tFB 0 5 3 8).ra) + (tFB 0 5 3 8).imm64) ∧ 2199023255624 % 8 = 0 ∧ State.cellLocal (tRun tC) (cellIdx tC) 2199023255624 8 = true ∧ State.poisonRange (tRun tC) 2199023255624 8 = false ∧ State.calm (tRun tC) 2199023255624 8 = true ∧ wordTouched 2199023255632 2199023255624 8 = true ∧ (State.at (tRun tC) tC).emask[3] = false) ∧
    (State.runs (tRun tC) tC = true ∧ (tFB 0 5 3 1).mods = 0#8 ∧ fbClean (tFB 0 5 3 1) true true true = true ∧ 2199023255617 = BitVec.toNat (Cell.sr (State.at (tRun tC) tC) (BitVec.toNat (tFB 0 5 3 1).ra) + (tFB 0 5 3 1).imm64) ∧ 2199023255617 % 8 ≠ 0 ∧ (State.at (tRun tC) tC).emask[11] = true) ∧
    (State.runs (tRun tC) tC = true ∧ (tFB 0 1 3 1048504).mods = 0#8 ∧ fbClean (tFB 0 1 3 1048504) true true true = true ∧ 2199024304120 = BitVec.toNat (Cell.sr (State.at (tRun tC) tC) (BitVec.toNat (tFB 0 1 3 1048504).ra) + (tFB 0 1 3 1048504).imm64) ∧ 2199024304120 % 8 = 0 ∧ State.cellLocal (tRun tC) (cellIdx tC) 2199024304120 8 = true ∧ touchesTiled (tRun tC).trg 2199024304120 8 = false ∧ State.touchesKv (tRun tC) 2199024304120 8 = false ∧ State.still (tRun tC) 2199024304120 8 = true ∧ State.plcOk (tRun tC) (Cell.wu (State.at (tRun tC) tC)) (Cell.epoch (State.at (tRun tC) tC)) = true) ∧
    (State.runs (tRun tC) tC = true ∧ (tFB 0 1 3 7).mods = 0#8 ∧ fbClean (tFB 0 1 3 7) true true true = true ∧ 2199023255623 = BitVec.toNat (Cell.sr (State.at (tRun tC) tC) (BitVec.toNat (tFB 0 1 3 7).ra) + (tFB 0 1 3 7).imm64) ∧ 2199023255623 % 8 ≠ 0 ∧ (State.at (tRun tC) tC).emask[11] = true) ∧
    (State.runs (tRun tC) tC = true ∧ scalarEnc (tFA 0 5 3 2 0 0) 4 false = true ∧ mbit (tFA 0 5 3 2 0 0).mods 1 = false ∧ 2199023255616 = BitVec.toNat (Cell.sr (State.at (tRun tC) tC) (BitVec.toNat (tFA 0 5 3 2 0 0).ra)) ∧ 2199023255616 < 2 ^ 46 ∧ State.atomicOk (tRun tC) 2199023255616 = true ∧ State.poisonRange (tRun tC) 2199023255616 8 = false ∧ State.still (tRun tC) 2199023255616 8 = true ∧ (∀ (st : Nat), State.rangeStore (tRun tC) 2199023255616 8 = some st → State.reaches? (tRun tC) (cellIdx tC / 256) st = true) ∧ State.plcOk (tRun tC) (Cell.wu (State.at (tRun tC) tC)) (Cell.epoch (State.at (tRun tC) tC)) = true) ∧
    (State.runs (tRun tC) tC = true ∧ scalarEnc (tFA 0 5 3 0 2 0) 4 true = true ∧ mbit (tFA 0 5 3 0 2 0).mods 1 = false ∧ 2199023255616 = BitVec.toNat (Cell.sr (State.at (tRun tC) tC) (BitVec.toNat (tFA 0 5 3 0 2 0).ra)) ∧ 2199023255616 < 2 ^ 46 ∧ State.atomicOk (tRun tC) 2199023255616 = true ∧ State.poisonRange (tRun tC) 2199023255616 8 = false ∧ State.still (tRun tC) 2199023255616 8 = true ∧ (∀ (st : Nat), State.rangeStore (tRun tC) 2199023255616 8 = some st → State.reaches? (tRun tC) (cellIdx tC / 256) st = true) ∧ State.plcOk (tRun tC) (Cell.wu (State.at (tRun tC) tC)) (Cell.epoch (State.at (tRun tC) tC)) = true) ∧
    (State.runs (tRun tC) tC = true ∧ scalarEnc (tFA 0 5 3 2 1 0) 4 true = true ∧ mbit (tFA 0 5 3 2 1 0).mods 1 = false ∧ 2199023255616 = BitVec.toNat (Cell.sr (State.at (tRun tC) tC) (BitVec.toNat (tFA 0 5 3 2 1 0).ra)) ∧ 2199023255616 < 2 ^ 46 ∧ State.atomicOk (tRun tC) 2199023255616 = true ∧ State.poisonRange (tRun tC) 2199023255616 8 = false ∧ State.still (tRun tC) 2199023255616 8 = true ∧ (∀ (st : Nat), State.rangeStore (tRun tC) 2199023255616 8 = some st → State.reaches? (tRun tC) (cellIdx tC / 256) st = true) ∧ State.plcOk (tRun tC) (Cell.wu (State.at (tRun tC) tC)) (Cell.epoch (State.at (tRun tC) tC)) = true) := by
  and_intros <;> first | decide +kernel | rfl
/-- States and operands that meet the hypotheses of VectorArithmeticResults, part 1. -/
theorem wit_VectorArithmeticResults_1 :
    (State.runs tVec tC = true ∧ vmod (tFA 0 5 1 2 0 0).mods = some w13_11 ∧ faClean (tFA 0 5 1 2 0 0) true true true false false = true) ∧
    (State.runs tVec tC = true ∧ vmod (tFA 4 5 1 2 0 0).mods = some w13_12 ∧ faClean (tFA 4 5 1 2 0 0) true true true false false = true) ∧
    (State.runs tVec tC = true ∧ vmod (tFA 152 3 1 2 0 0).mods = some w13_13 ∧ faClean (tFA 152 3 1 2 0 0) true true true false false = true) ∧
    (State.runs tVec tC = true ∧ vmod (tFA 0 1 1 2 0 0).mods = some w13_11 ∧ faClean (tFA 0 1 1 2 0 0) true true true false false = true) ∧
    (State.runs tVec tC = true ∧ vmod (tFA 148 3 1 2 0 0).mods = some w13_15 ∧ faClean (tFA 148 3 1 2 0 0) true true true false false = true) ∧
    (State.runs tVec tC = true ∧ vmod (tFA 144 2 1 2 0 0).mods = some w13_16 ∧ faClean (tFA 144 2 1 2 0 0) true true true false false = true) ∧
    (State.runs tVec tC = true ∧ vmod (tFA 8 2 1 3 0 0).mods = some w13_17 ∧ faClean (tFA 8 2 1 3 0 0) true true true false false = true) ∧
    (State.runs tVec tC = true ∧ vmod (tFA 144 5 1 2 4 0).mods = some w13_16 ∧ faClean (tFA 144 5 1 2 4 0) true true true true false = true) ∧
    (State.runs tVec tC = true ∧ vmod (tFA 4 5 1 2 4 0).mods = some w13_12 ∧ faClean (tFA 4 5 1 2 4 0) true true true true false = true) ∧
    (State.runs tVec tC = true ∧ vmod (tFA 0 5 1 2 0 0).mods = some w13_11 ∧ faClean (tFA 0 5 1 2 0 0) true true true false false = true) ∧
    (State.runs tVec tC = true ∧ vmod (tFA 4 5 1 2 0 0).mods = some w13_12 ∧ faClean (tFA 4 5 1 2 0 0) true true true false false = true) ∧
    (State.runs tVec tC = true ∧ vmod (tFA 8 5 1 2 0 0).mods = some w13_17 ∧ faClean (tFA 8 5 1 2 0 0) true true true false false = true) ∧
    (State.runs tVec tC = true ∧ vmod (tFA 0 5 1 2 0 0).mods = some w13_11 ∧ faClean (tFA 0 5 1 2 0 0) true true true false false = true) ∧
    (State.runs tVec tC = true ∧ vmod (tFA 4 5 1 2 0 0).mods = some w13_12 ∧ faClean (tFA 4 5 1 2 0 0) true true true false false = true) := by
  and_intros <;> first | decide +kernel | rfl
/-- States and operands that meet the hypotheses of VectorArithmeticResults, part 2. -/
theorem wit_VectorArithmeticResults_2 :
    (State.runs tVec tC = true ∧ vmod (tFA 8 5 1 2 0 0).mods = some w13_17 ∧ faClean (tFA 8 5 1 2 0 0) true true true false false = true) ∧
    (State.runs tVec tC = true ∧ vmod (tFA 144 5 1 0 0 0).mods = some w13_16 ∧ (false = true → w13_16.lt = 0) ∧ faClean (tFA 144 5 1 0 0 0) true true false false false = true) ∧
    (State.runs tVec tC = true ∧ vmod (tFA 0 5 1 0 0 0).mods = some w13_11 ∧ (false = true → w13_11.lt = 0) ∧ faClean (tFA 0 5 1 0 0 0) true true false false false = true) ∧
    (State.runs tVec tC = true ∧ vmod (tFA 4 5 1 0 0 0).mods = some w13_12 ∧ (false = true → w13_12.lt = 0) ∧ faClean (tFA 4 5 1 0 0 0) true true false false false = true) ∧
    (State.runs tVec tC = true ∧ vmod (tFA 8 5 1 0 0 0).mods = some w13_17 ∧ (false = true → w13_17.lt = 0) ∧ faClean (tFA 8 5 1 0 0 0) true true false false false = true) ∧
    (State.runs tVec tC = true ∧ vmod (tFA 0 5 1 0 0 0).mods = some w13_11 ∧ (false = true → w13_11.lt = 0) ∧ faClean (tFA 0 5 1 0 0 0) true true false false false = true) ∧
    (State.runs tVec tC = true ∧ vmod (tFA 8 5 2 0 0 0).mods = some w13_17 ∧ (false = true → w13_17.lt = 0) ∧ faClean (tFA 8 5 2 0 0 0) true true false false false = true) := by
  and_intros <;> first | decide +kernel | rfl
/-- States and operands that meet the hypotheses of VectorSpecialFunctions. -/
theorem wit_VectorSpecialFunctions :
    (State.runs tVec tC = true ∧ vmod (tFA 4 5 1 0 0 0).mods = some w13_12 ∧ w13_12.lt ≠ 0 ∧ (State.at tVec tC).emask[10] = true ∧ (Instr.vexp2 = Instr.vexp2 ∨ Instr.vexp2 = Instr.vlog2 ∨ Instr.vexp2 = Instr.vrcp ∨ Instr.vexp2 = Instr.vrsqrt)) ∧
    (State.runs tVec tC = true ∧ vmod (tFA 8 5 1 0 0 0).mods = some w13_17 ∧ w13_17.lt ≠ 0 ∧ (State.at tVec tC).emask[10] = true ∧ (Instr.vlog2 = Instr.vexp2 ∨ Instr.vlog2 = Instr.vlog2 ∨ Instr.vlog2 = Instr.vrcp ∨ Instr.vlog2 = Instr.vrsqrt)) ∧
    (State.runs tVec tC = true ∧ vmod (tFA 8 5 1 0 0 0).mods = some w13_17 ∧ w13_17.lt ≠ 0 ∧ (State.at tVec tC).emask[10] = true ∧ (Instr.vrcp = Instr.vexp2 ∨ Instr.vrcp = Instr.vlog2 ∨ Instr.vrcp = Instr.vrcp ∨ Instr.vrcp = Instr.vrsqrt)) ∧
    (State.runs tVec tC = true ∧ vmod (tFA 148 5 1 0 0 0).mods = some w13_15 ∧ w13_15.lt ≠ 0 ∧ (State.at tVec tC).emask[10] = true ∧ (Instr.vrsqrt = Instr.vexp2 ∨ Instr.vrsqrt = Instr.vlog2 ∨ Instr.vrsqrt = Instr.vrcp ∨ Instr.vrsqrt = Instr.vrsqrt)) := by
  and_intros <;> first | with_reducible exact tV1 | with_reducible exact tV2 | with_reducible exact tV3 | with_reducible exact tV4 | decide +kernel | rfl
/-- States and operands that meet the hypotheses of VectorMovesAndReductions, part 1. -/
theorem wit_VectorMovesAndReductions_1 :
    (State.runs tVec tC = true ∧ vmod (tFA 144 5 1 0 0 0).mods = some w13_16 ∧ faClean (tFA 144 5 1 0 0 0) true true false false false = true) ∧
    (State.runs tVec tC = true ∧ vmod (tFA 4 5 1 0 0 0).mods = some w13_12 ∧ faClean (tFA 4 5 1 0 0 0) true true false false false = true) ∧
    (State.runs tVec tC = true ∧ vmod (tFA 148 5 1 0 0 0).mods = some w13_15 ∧ faClean (tFA 148 5 1 0 0 0) true true false false false = true) ∧
    (State.runs tVec tC = true ∧ vmod (tFA 8 5 1 0 0 0).mods = some w13_17 ∧ faClean (tFA 8 5 1 0 0 0) true true false false false = true) ∧
    (State.runs tVec tC = true ∧ vmod (tFA 0 7 1 2 0 5).mods = some w13_11 ∧ faClean (tFA 0 7 1 2 0 5) true true true false true = true ∧ BitVec.toNat (tFA 0 7 1 2 0 5).rd < 8 ∧ BitVec.toNat (tFA 0 7 1 2 0 5).imm12 < 6 ∧ Cell.vpois (State.at tVec tC) (BitVec.toNat (tFA 0 7 1 2 0 5).ra) = false ∧ Cell.vpois (State.at tVec tC) (BitVec.toNat (tFA 0 7 1 2 0 5).rb) = false) ∧
    (State.runs tVec tC = true ∧ vmod (tFA 0 7 1 3 0 0).mods = some w13_11 ∧ faClean (tFA 0 7 1 3 0 0) true true true false true = true ∧ BitVec.toNat (tFA 0 7 1 3 0 0).rd < 8 ∧ BitVec.toNat (tFA 0 7 1 3 0 0).imm12 < 6 ∧ (Cell.vpois (State.at tVec tC) (BitVec.toNat (tFA 0 7 1 3 0 0).ra) = true ∨ Cell.vpois (State.at tVec tC) (BitVec.toNat (tFA 0 7 1 3 0 0).rb) = true)) ∧
    (State.runs tVec tC = true ∧ vmod (tFA 144 5 1 2 1 0).mods = some w13_16 ∧ faClean (tFA 144 5 1 2 1 0) true true true true false = true ∧ BitVec.toNat (tFA 144 5 1 2 1 0).rc < 8) ∧
    (State.runs tVec tC = true ∧ vmod (tFA 0 5 1 2 7 0).mods = some w13_11 ∧ faClean (tFA 0 5 1 2 7 0) true true true true false = true ∧ BitVec.toNat (tFA 0 5 1 2 7 0).rc < 8) ∧
    (State.runs tVec tC = true ∧ vmod (tFA 144 3 1 0 0 0).mods = some w13_16 ∧ faClean (tFA 144 3 1 0 0 0) true true false false false = true) ∧
    (State.runs tVec tC = true ∧ vmod (tFA 0 5 1 2 0 0).mods = some w13_11 ∧ faClean (tFA 0 5 1 2 0 0) true true true false false = true ∧ Cell.vpois (State.at tVec tC) (BitVec.toNat (tFA 0 5 1 2 0 0).ra) = false) ∧
    (State.runs tVec tC = true ∧ vmod (tFA 0 5 3 2 0 0).mods = some w13_11 ∧ faClean (tFA 0 5 3 2 0 0) true true true false false = true ∧ Cell.vpois (State.at tVec tC) (BitVec.toNat (tFA 0 5 3 2 0 0).ra) = true) ∧
    (State.runs tVec tC = true ∧ vmod (tFA 0 5 1 2 0 2).mods = some w13_11 ∧ faClean (tFA 0 5 1 2 0 2) true true true false true = true ∧ (BitVec.toNat (tFA 0 5 1 2 0 2).imm12 = 2 ∧ bf16 = bf16 ∨ BitVec.toNat (tFA 0 5 1 2 0 2).imm12 = 3 ∧ bf16 = fp16)) ∧
    (State.runs tVec tC = true ∧ vmod (tFA 144 1 1 2 0 3).mods = some w13_16 ∧ faClean (tFA 144 1 1 2 0 3) true true true false true = true ∧ (BitVec.toNat (tFA 144 1 1 2 0 3).imm12 = 2 ∧ fp16 = bf16 ∨ BitVec.toNat (tFA 144 1 1 2 0 3).imm12 = 3 ∧ fp16 = fp16)) ∧
    (State.runs tVec tC = true ∧ vmod (tFA 0 5 1 0 0 2).mods = some w13_11 ∧ faClean (tFA 0 5 1 0 0 2) true true false false true = true ∧ BitVec.toNat (tFA 0 5 1 0 0 2).imm12 < 512 ∧ (BitVec.toNat (tFA 0 5 1 0 0 2).imm12 % 256 = 2 ∧ bf16 = bf16 ∨ BitVec.toNat (tFA 0 5 1 0 0 2).imm12 % 256 = 3 ∧ bf16 = fp16)) := by
  and_intros <;> first | decide +kernel | rfl
/-- States and operands that meet the hypotheses of VectorMovesAndReductions, part 2. -/
theorem wit_VectorMovesAndReductions_2 :
    (State.runs tVec tC = true ∧ vmod (tFA 0 5 1 0 0 259).mods = some w13_11 ∧ faClean (tFA 0 5 1 0 0 259) true true false false true = true ∧ BitVec.toNat (tFA 0 5 1 0 0 259).imm12 < 512 ∧ (BitVec.toNat (tFA 0 5 1 0 0 259).imm12 % 256 = 2 ∧ fp16 = bf16 ∨ BitVec.toNat (tFA 0 5 1 0 0 259).imm12 % 256 = 3 ∧ fp16 = fp16)) ∧
    (State.runs tVec tC = true ∧ vmod (tFA 0 7 1 0 0 0).mods = some w13_11 ∧ faClean (tFA 0 7 1 0 0 0) true true false false false = true ∧ BitVec.toNat (tFA 0 7 1 0 0 0).rd < 8) ∧
    (State.runs tVec tC = true ∧ vmod (tFA 0 5 2 0 0 0).mods = some w13_11 ∧ faClean (tFA 0 5 2 0 0 0) true true false false false = true ∧ BitVec.toNat (tFA 0 5 2 0 0 0).ra < 8) := by
  and_intros <;> first | decide +kernel | rfl
/-- States and operands that meet the hypotheses of VectorMemoryAndAccumulators. -/
theorem wit_VectorMemoryAndAccumulators :
    (State.runs tVec tC = true ∧ vmod (tFB 144 5 3 0).mods = some w13_16 ∧ fbClean (tFB 144 5 3 0) true true true = true ∧ 2199023255616 = BitVec.toNat (Cell.sr (State.at tVec tC) (BitVec.toNat (tFB 144 5 3 0).ra) + (tFB 144 5 3 0).imm64) ∧ 2199023255616 % 4 = 0 ∧ State.cellLocal tVec (cellIdx tC) 2199023255616 256 = true ∧ State.poisonRange tVec 2199023255616 256 = false ∧ State.calm tVec 2199023255616 256 = true ∧ State.tilePoison tVec (State.viewNow tVec PortEv.clear) 2199023255616 256 = false) ∧
    (State.runs tVec tC = true ∧ vmod (tFB 144 1 3 4).mods = some w13_16 ∧ fbClean (tFB 144 1 3 4) true true true = true ∧ 2199023255620 = BitVec.toNat (Cell.sr (State.at tVec tC) (BitVec.toNat (tFB 144 1 3 4).ra) + (tFB 144 1 3 4).imm64) ∧ 2199023255620 % 4 = 0 ∧ State.cellLocal tVec (cellIdx tC) 2199023255620 256 = true ∧ touchesTiled tVec.trg 2199023255620 256 = false ∧ State.touchesKv tVec 2199023255620 256 = false ∧ State.still tVec 2199023255620 256 = true ∧ Cell.vpois (State.at tVec tC) (BitVec.toNat (tFB 144 1 3 4).rd) = false ∧ State.plcOk tVec (Cell.wu (State.at tVec tC)) (Cell.epoch (State.at tVec tC)) = true) ∧
    (State.runs tVec tC = true ∧ vmod (tFB 0 3 3 4).mods = some w13_11 ∧ fbClean (tFB 0 3 3 4) true true true = true ∧ 2199023255620 = BitVec.toNat (Cell.sr (State.at tVec tC) (BitVec.toNat (tFB 0 3 3 4).ra) + (tFB 0 3 3 4).imm64) ∧ 2199023255620 % 4 = 0 ∧ State.cellLocal tVec (cellIdx tC) 2199023255620 256 = true ∧ touchesTiled tVec.trg 2199023255620 256 = false ∧ State.touchesKv tVec 2199023255620 256 = false ∧ State.still tVec 2199023255620 256 = true ∧ Cell.vpois (State.at tVec tC) (BitVec.toNat (tFB 0 3 3 4).rd) = true) ∧
    (State.runs tVec tC = true ∧ vmod (tFA 0 5 0 1 0 0).mods = some w13_11 ∧ faClean (tFA 0 5 0 1 0 0) true true true false false = true ∧ BitVec.toNat (tFA 0 5 0 1 0 0).ra < 8 ∧ Cell.tqUses (State.at tVec tC) (BitVec.toNat (tFA 0 5 0 1 0 0).ra) = false) ∧
    (State.runs tVec tC = true ∧ vmod (tFA 144 5 7 2 0 0).mods = some w13_16 ∧ faClean (tFA 144 5 7 2 0 0) true true true false false = true ∧ BitVec.toNat (tFA 144 5 7 2 0 0).ra < 8 ∧ Cell.tqUses (State.at tVec tC) (BitVec.toNat (tFA 144 5 7 2 0 0).ra) = false) ∧
    (State.runs tVec tC = true ∧ vmod (tFA 144 0 1 2 0 0).mods = some w13_16 ∧ faClean (tFA 144 0 1 2 0 0) true true true false false = true ∧ BitVec.toNat (tFA 144 0 1 2 0 0).rd < 8 ∧ Cell.tqUses (State.at tVec tC) (BitVec.toNat (tFA 144 0 1 2 0 0).rd) = false) ∧
    (State.runs tVec tC = true ∧ vmod (tFA 0 0 2 0 0 0).mods = some w13_11 ∧ w13_11.lt = 0 ∧ faClean (tFA 0 0 2 0 0 0) true true false false false = true ∧ BitVec.toNat (tFA 0 0 2 0 0 0).rd < 8 ∧ Cell.tqUses (State.at tVec tC) (BitVec.toNat (tFA 0 0 2 0 0 0).rd) = false) ∧
    (State.runs tVec tC = true ∧ vmod (tFA 0 6 1 2 0 0).mods = some w13_11 ∧ w13_11.lt = 0 ∧ faClean (tFA 0 6 1 2 0 0) true true true false false = true ∧ BitVec.toNat (tFA 0 6 1 2 0 0).rd % 2 = 0) ∧
    (State.runs tVec tC = true ∧ vmod (tFA 144 30 1 1 0 0).mods = some w13_16 ∧ w13_16.lt = 0 ∧ faClean (tFA 144 30 1 1 0 0) true true true false false = true ∧ BitVec.toNat (tFA 144 30 1 1 0 0).rd % 2 = 0) := by
  and_intros <;> first | decide +kernel | rfl
/-- States and operands that meet the hypotheses of TensorInstructionResults, part 1. -/
theorem wit_TensorInstructionResults_1 :
    (State.runs (tTens []) tC = true ∧ BitVec.toNat (tFD 3 7 0 1 0 4 0).mods < 4 ∧ (tFD 3 7 0 1 0 4 0).rsv = 0#75 ∧ BitVec.toNat (tFD 3 7 0 1 0 4 0).acc < 8 ∧ BitVec.toNat (tFD 3 7 0 1 0 4 0).ta < 16 ∧ BitVec.toNat (tFD 3 7 0 1 0 4 0).tb < 16 ∧ (descOk (Cell.dd (State.at (tTens []) tC) (BitVec.toNat (tFD 3 7 0 1 0 4 0).ta)) fun x => true) = true ∧ (descOk (Cell.dd (State.at (tTens []) tC) (BitVec.toNat (tFD 3 7 0 1 0 4 0).tb)) fun x => true) = true ∧ tTD = State.readDesc (tTens []) (Cell.dd (State.at (tTens []) tC) (BitVec.toNat (tFD 3 7 0 1 0 4 0).ta)) (Cell.sr (State.at (tTens []) tC) (BitVec.toNat (tFD 3 7 0 1 0 4 0).oa)) ∧ tTD = State.readDesc (tTens []) (Cell.dd (State.at (tTens []) tC) (BitVec.toNat (tFD 3 7 0 1 0 4 0).tb)) (Cell.sr (State.at (tTens []) tC) (BitVec.toNat (tFD 3 7 0 1 0 4 0).ob)) ∧ mmaTiles tTD.fmt tTD.fmt = some 1 ∧ 1 ≤ BitVec.toNat (tFD 3 7 0 1 0 4 0).k ∧ BitVec.toNat (tFD 3 7 0 1 0 4 0).k ≤ 256 ∧ State.descAddrOk (tTens []) (cellIdx tC) tTD (BitVec.toNat (tFD 3 7 0 1 0 4 0).k * 1) = true ∧ List.length (State.at (tTens []) tC).tq < 4) ∧
    (State.runs (tTens [TEntry.accz 0, TEntry.accz 0, TEntry.accz 0]) tC = true ∧ BitVec.toNat (tFD 0 0 0 1 0 1 0).mods < 4 ∧ (tFD 0 0 0 1 0 1 0).rsv = 0#75 ∧ BitVec.toNat (tFD 0 0 0 1 0 1 0).acc < 8 ∧ BitVec.toNat (tFD 0 0 0 1 0 1 0).ta < 16 ∧ BitVec.toNat (tFD 0 0 0 1 0 1 0).tb < 16 ∧ (descOk (Cell.dd (State.at (tTens [TEntry.accz 0, TEntry.accz 0, TEntry.accz 0]) tC) (BitVec.toNat (tFD 0 0 0 1 0 1 0).ta)) fun x => true) = true ∧ (descOk (Cell.dd (State.at (tTens [TEntry.accz 0, TEntry.accz 0, TEntry.accz 0]) tC) (BitVec.toNat (tFD 0 0 0 1 0 1 0).tb)) fun x => true) = true ∧ tTD = State.readDesc (tTens [TEntry.accz 0, TEntry.accz 0, TEntry.accz 0]) (Cell.dd (State.at (tTens [TEntry.accz 0, TEntry.accz 0, TEntry.accz 0]) tC) (BitVec.toNat (tFD 0 0 0 1 0 1 0).ta)) (Cell.sr (State.at (tTens [TEntry.accz 0, TEntry.accz 0, TEntry.accz 0]) tC) (BitVec.toNat (tFD 0 0 0 1 0 1 0).oa)) ∧ tTD = State.readDesc (tTens [TEntry.accz 0, TEntry.accz 0, TEntry.accz 0]) (Cell.dd (State.at (tTens [TEntry.accz 0, TEntry.accz 0, TEntry.accz 0]) tC) (BitVec.toNat (tFD 0 0 0 1 0 1 0).tb)) (Cell.sr (State.at (tTens [TEntry.accz 0, TEntry.accz 0, TEntry.accz 0]) tC) (BitVec.toNat (tFD 0 0 0 1 0 1 0).ob)) ∧ mmaTiles tTD.fmt tTD.fmt = some 1 ∧ 1 ≤ BitVec.toNat (tFD 0 0 0 1 0 1 0).k ∧ BitVec.toNat (tFD 0 0 0 1 0 1 0).k ≤ 256 ∧ State.descAddrOk (tTens [TEntry.accz 0, TEntry.accz 0, TEntry.accz 0]) (cellIdx tC) tTD (BitVec.toNat (tFD 0 0 0 1 0 1 0).k * 1) = true ∧ List.length (State.at (tTens [TEntry.accz 0, TEntry.accz 0, TEntry.accz 0]) tC).tq < 4) ∧
    (State.runs (tTens [TEntry.accz 0, TEntry.accz 0, TEntry.accz 0, TEntry.accz 1]) tC = true ∧ BitVec.toNat (tFD 0 0 0 1 0 1 0).mods < 4 ∧ (tFD 0 0 0 1 0 1 0).rsv = 0#75 ∧ BitVec.toNat (tFD 0 0 0 1 0 1 0).acc < 8 ∧ BitVec.toNat (tFD 0 0 0 1 0 1 0).ta < 16 ∧ BitVec.toNat (tFD 0 0 0 1 0 1 0).tb < 16 ∧ (descOk (Cell.dd (State.at (tTens [TEntry.accz 0, TEntry.accz 0, TEntry.accz 0, TEntry.accz 1]) tC) (BitVec.toNat (tFD 0 0 0 1 0 1 0).ta)) fun x => true) = true ∧ (descOk (Cell.dd (State.at (tTens [TEntry.accz 0, TEntry.accz 0, TEntry.accz 0, TEntry.accz 1]) tC) (BitVec.toNat (tFD 0 0 0 1 0 1 0).tb)) fun x => true) = true ∧ tTD = State.readDesc (tTens [TEntry.accz 0, TEntry.accz 0, TEntry.accz 0, TEntry.accz 1]) (Cell.dd (State.at (tTens [TEntry.accz 0, TEntry.accz 0, TEntry.accz 0, TEntry.accz 1]) tC) (BitVec.toNat (tFD 0 0 0 1 0 1 0).ta)) (Cell.sr (State.at (tTens [TEntry.accz 0, TEntry.accz 0, TEntry.accz 0, TEntry.accz 1]) tC) (BitVec.toNat (tFD 0 0 0 1 0 1 0).oa)) ∧ tTD = State.readDesc (tTens [TEntry.accz 0, TEntry.accz 0, TEntry.accz 0, TEntry.accz 1]) (Cell.dd (State.at (tTens [TEntry.accz 0, TEntry.accz 0, TEntry.accz 0, TEntry.accz 1]) tC) (BitVec.toNat (tFD 0 0 0 1 0 1 0).tb)) (Cell.sr (State.at (tTens [TEntry.accz 0, TEntry.accz 0, TEntry.accz 0, TEntry.accz 1]) tC) (BitVec.toNat (tFD 0 0 0 1 0 1 0).ob)) ∧ mmaTiles tTD.fmt tTD.fmt = some 1 ∧ 1 ≤ BitVec.toNat (tFD 0 0 0 1 0 1 0).k ∧ BitVec.toNat (tFD 0 0 0 1 0 1 0).k ≤ 256 ∧ State.descAddrOk (tTens [TEntry.accz 0, TEntry.accz 0, TEntry.accz 0, TEntry.accz 1]) (cellIdx tC) tTD (BitVec.toNat (tFD 0 0 0 1 0 1 0).k * 1) = true ∧ 4 ≤ List.length (State.at (tTens [TEntry.accz 0, TEntry.accz 0, TEntry.accz 0, TEntry.accz 1]) tC).tq) ∧
    (State.runs (tTens []) tC = true ∧ BitVec.toNat (tFD 0 0 0 1 0 0 0).mods < 4 ∧ (tFD 0 0 0 1 0 0 0).rsv = 0#75 ∧ BitVec.toNat (tFD 0 0 0 1 0 0 0).acc < 8 ∧ BitVec.toNat (tFD 0 0 0 1 0 0 0).ta < 16 ∧ BitVec.toNat (tFD 0 0 0 1 0 0 0).tb < 16 ∧ (descOk (Cell.dd (State.at (tTens []) tC) (BitVec.toNat (tFD 0 0 0 1 0 0 0).ta)) fun x => true) = true ∧ (descOk (Cell.dd (State.at (tTens []) tC) (BitVec.toNat (tFD 0 0 0 1 0 0 0).tb)) fun x => true) = true ∧ tTD = State.readDesc (tTens []) (Cell.dd (State.at (tTens []) tC) (BitVec.toNat (tFD 0 0 0 1 0 0 0).ta)) (Cell.sr (State.at (tTens []) tC) (BitVec.toNat (tFD 0 0 0 1 0 0 0).oa)) ∧ tTD = State.readDesc (tTens []) (Cell.dd (State.at (tTens []) tC) (BitVec.toNat (tFD 0 0 0 1 0 0 0).tb)) (Cell.sr (State.at (tTens []) tC) (BitVec.toNat (tFD 0 0 0 1 0 0 0).ob)) ∧ mmaTiles tTD.fmt tTD.fmt = some 1 ∧ (BitVec.toNat (tFD 0 0 0 1 0 0 0).k = 0 ∨ 256 < BitVec.toNat (tFD 0 0 0 1 0 0 0).k) ∧ (State.at (tTens []) tC).emask[10] = true) ∧
    (State.runs (tTens []) tC = true ∧ BitVec.toNat (tFD 0 0 0 1 0 257 0).mods < 4 ∧ (tFD 0 0 0 1 0 257 0).rsv = 0#75 ∧ BitVec.toNat (tFD 0 0 0 1 0 257 0).acc < 8 ∧ BitVec.toNat (tFD 0 0 0 1 0 257 0).ta < 16 ∧ BitVec.toNat (tFD 0 0 0 1 0 257 0).tb < 16 ∧ (descOk (Cell.dd (State.at (tTens []) tC) (BitVec.toNat (tFD 0 0 0 1 0 257 0).ta)) fun x => true) = true ∧ (descOk (Cell.dd (State.at (tTens []) tC) (BitVec.toNat (tFD 0 0 0 1 0 257 0).tb)) fun x => true) = true ∧ tTD = State.readDesc (tTens []) (Cell.dd (State.at (tTens []) tC) (BitVec.toNat (tFD 0 0 0 1 0 257 0).ta)) (Cell.sr (State.at (tTens []) tC) (BitVec.toNat (tFD 0 0 0 1 0 257 0).oa)) ∧ tTD = State.readDesc (tTens []) (Cell.dd (State.at (tTens []) tC) (BitVec.toNat (tFD 0 0 0 1 0 257 0).tb)) (Cell.sr (State.at (tTens []) tC) (BitVec.toNat (tFD 0 0 0 1 0 257 0).ob)) ∧ mmaTiles tTD.fmt tTD.fmt = some 1 ∧ (BitVec.toNat (tFD 0 0 0 1 0 257 0).k = 0 ∨ 256 < BitVec.toNat (tFD 0 0 0 1 0 257 0).k) ∧ (State.at (tTens []) tC).emask[10] = true) ∧
    (State.runs (tTens [TEntry.accz 0, TEntry.accz 0, TEntry.accz 0]) tC = true ∧ (tFD 0 7 0 0 0 0 0).mods = 0#8 ∧ fdClean (tFD 0 7 0 0 0 0 0) false = true ∧ List.length (State.at (tTens [TEntry.accz 0, TEntry.accz 0, TEntry.accz 0]) tC).tq < 4) ∧
    (State.runs (tTens [TEntry.accz 0, TEntry.accz 0, TEntry.accz 0, TEntry.accz 1]) tC = true ∧ (tFD 0 0 0 0 0 0 0).mods = 0#8 ∧ fdClean (tFD 0 0 0 0 0 0 0) false = true ∧ 4 ≤ List.length (State.at (tTens [TEntry.accz 0, TEntry.accz 0, TEntry.accz 0, TEntry.accz 1]) tC).tq) ∧
    (State.runs (tTens []) tC = true ∧ (tFD 0 3 1 0 0 0 0).mods = 0#8 ∧ fdClean (tFD 0 3 1 0 0 0 0) true = true ∧ descOk (Cell.dd (State.at (tTens []) tC) (BitVec.toNat (tFD 0 3 1 0 0 0 0).ta)) accFmt = true ∧ tTD = State.readDesc (tTens []) (Cell.dd (State.at (tTens []) tC) (BitVec.toNat (tFD 0 3 1 0 0 0 0).ta)) (Cell.sr (State.at (tTens []) tC) (BitVec.toNat (tFD 0 3 1 0 0 0 0).oa)) ∧ State.descAddrOk (tTens []) (cellIdx tC) tTD 1 = true ∧ List.length (State.at (tTens []) tC).tq < 4) ∧
    (State.runs (tTens [TEntry.accz 0, TEntry.accz 0, TEntry.accz 0, TEntry.accz 1]) tC = true ∧ (tFD 0 3 1 0 0 0 0).mods = 0#8 ∧ fdClean (tFD 0 3 1 0 0 0 0) true = true ∧ descOk (Cell.dd (State.at (tTens [TEntry.accz 0, TEntry.accz 0, TEntry.accz 0, TEntry.accz 1]) tC) (BitVec.toNat (tFD 0 3 1 0 0 0 0).ta)) accFmt = true ∧ tTD = State.readDesc (tTens [TEntry.accz 0, TEntry.accz 0, TEntry.accz 0, TEntry.accz 1]) (Cell.dd (State.at (tTens [TEntry.accz 0, TEntry.accz 0, TEntry.accz 0, TEntry.accz 1]) tC) (BitVec.toNat (tFD 0 3 1 0 0 0 0).ta)) (Cell.sr (State.at (tTens [TEntry.accz 0, TEntry.accz 0, TEntry.accz 0, TEntry.accz 1]) tC) (BitVec.toNat (tFD 0 3 1 0 0 0 0).oa)) ∧ State.descAddrOk (tTens [TEntry.accz 0, TEntry.accz 0, TEntry.accz 0, TEntry.accz 1]) (cellIdx tC) tTD 1 = true ∧ 4 ≤ List.length (State.at (tTens [TEntry.accz 0, TEntry.accz 0, TEntry.accz 0, TEntry.accz 1]) tC).tq) ∧
    (State.runs (tTens []) tC = true ∧ BitVec.toNat (tFD 2 3 0 0 0 0 0).mods < 3 ∧ fdClean (tFD 2 3 0 0 0 0 0) true = true ∧ descOk (Cell.dd (State.at (tTens []) tC) (BitVec.toNat (tFD 2 3 0 0 0 0 0).ta)) accFmt = true ∧ tTD = State.readDesc (tTens []) (Cell.dd (State.at (tTens []) tC) (BitVec.toNat (tFD 2 3 0 0 0 0 0).ta)) (Cell.sr (State.at (tTens []) tC) (BitVec.toNat (tFD 2 3 0 0 0 0 0).oa)) ∧ State.descAddrOk (tTens []) (cellIdx tC) tTD 1 = true ∧ List.length (State.at (tTens []) tC).tq < 4) ∧
    (State.runs (tTens [TEntry.accz 0, TEntry.accz 0, TEntry.accz 0, TEntry.accz 1]) tC = true ∧ BitVec.toNat (tFD 1 3 0 0 0 0 0).mods < 3 ∧ fdClean (tFD 1 3 0 0 0 0 0) true = true ∧ descOk (Cell.dd (State.at (tTens [TEntry.accz 0, TEntry.accz 0, TEntry.accz 0, TEntry.accz 1]) tC) (BitVec.toNat (tFD 1 3 0 0 0 0 0).ta)) accFmt = true ∧ tTD = State.readDesc (tTens [TEntry.accz 0, TEntry.accz 0, TEntry.accz 0, TEntry.accz 1]) (Cell.dd (State.at (tTens [TEntry.accz 0, TEntry.accz 0, TEntry.accz 0, TEntry.accz 1]) tC) (BitVec.toNat (tFD 1 3 0 0 0 0 0).ta)) (Cell.sr (State.at (tTens [TEntry.accz 0, TEntry.accz 0, TEntry.accz 0, TEntry.accz 1]) tC) (BitVec.toNat (tFD 1 3 0 0 0 0 0).oa)) ∧ State.descAddrOk (tTens [TEntry.accz 0, TEntry.accz 0, TEntry.accz 0, TEntry.accz 1]) (cellIdx tC) tTD 1 = true ∧ 4 ≤ List.length (State.at (tTens [TEntry.accz 0, TEntry.accz 0, TEntry.accz 0, TEntry.accz 1]) tC).tq) ∧
    (State.runs (tTens []) tC = true ∧ (tFB 0 15 3 32).mods = 0#8 ∧ fbClean (tFB 0 15 3 32) true true true = true ∧ BitVec.toNat (tFB 0 15 3 32).rd < 16 ∧ 2199023255648 = BitVec.toNat (Cell.sr (State.at (tTens []) tC) (BitVec.toNat (tFB 0 15 3 32).ra) + (tFB 0 15 3 32).imm64) ∧ 2199023255648 % 32 = 0 ∧ State.cellLocal (tTens []) (cellIdx tC) 2199023255648 32 = true ∧ State.poisonRange (tTens []) 2199023255648 32 = false ∧ State.calm (tTens []) 2199023255648 32 = true) ∧
    (State.runs (tTens []) tC = true ∧ (tFB 0 0 3 32).mods = 0#8 ∧ fbClean (tFB 0 0 3 32) true true true = true ∧ BitVec.toNat (tFB 0 0 3 32).rd < 16 ∧ 2199023255648 = BitVec.toNat (Cell.sr (State.at (tTens []) tC) (BitVec.toNat (tFB 0 0 3 32).ra) + (tFB 0 0 3 32).imm64) ∧ 2199023255648 % 32 = 0 ∧ State.cellLocal (tTens []) (cellIdx tC) 2199023255648 32 = true ∧ touchesTiled (tTens []).trg 2199023255648 32 = false ∧ State.touchesKv (tTens []) 2199023255648 32 = false ∧ State.still (tTens []) 2199023255648 32 = true ∧ State.plcOk (tTens []) (Cell.wu (State.at (tTens []) tC)) (Cell.epoch (State.at (tTens []) tC)) = true) ∧
    (State.runs (tTens []) tC = true ∧ (tFB 0 0 0 64).mods = 0#8 ∧ fbClean (tFB 0 0 0 64) true true true = true ∧ BitVec.toNat (tFB 0 0 0 64).rd < 16 ∧ 2199023259712 = (BitVec.toNat (Cell.dd (State.at (tTens []) tC) (BitVec.toNat (tFB 0 0 0 64).rd)) % 2 ^ 64 + BitVec.toNat (Cell.sr (State.at (tTens []) tC) (BitVec.toNat (tFB 0 0 0 64).ra)) + BitVec.toNat (tFB 0 0 0 64).imm64) % 2 ^ 64 ∧ 2199023259712 < 2 ^ 46) := by
  and_intros <;> first | decide +kernel | rfl
/-- States and operands that meet the hypotheses of TensorInstructionResults, part 2. -/
theorem wit_TensorInstructionResults_2 :
    (State.runs (tTens []) tC = true ∧ (tFB 0 0 1 64).mods = 0#8 ∧ fbClean (tFB 0 0 1 64) true true true = true ∧ BitVec.toNat (tFB 0 0 1 64).rd < 16 ∧ 2199023259705 = (BitVec.toNat (Cell.dd (State.at (tTens []) tC) (BitVec.toNat (tFB 0 0 1 64).rd)) % 2 ^ 64 + BitVec.toNat (Cell.sr (State.at (tTens []) tC) (BitVec.toNat (tFB 0 0 1 64).ra)) + BitVec.toNat (tFB 0 0 1 64).imm64) % 2 ^ 64 ∧ 2199023259705 < 2 ^ 46) ∧
    (State.runs (tTens []) tC = true ∧ (tFB 0 0 0 (2 ^ 46 - 2199023259648)).mods = 0#8 ∧ fbClean (tFB 0 0 0 (2 ^ 46 - 2199023259648)) true true true = true ∧ BitVec.toNat (tFB 0 0 0 (2 ^ 46 - 2199023259648)).rd < 16 ∧ 70368744177664 = (BitVec.toNat (Cell.dd (State.at (tTens []) tC) (BitVec.toNat (tFB 0 0 0 (2 ^ 46 - 2199023259648)).rd)) % 2 ^ 64 + BitVec.toNat (Cell.sr (State.at (tTens []) tC) (BitVec.toNat (tFB 0 0 0 (2 ^ 46 - 2199023259648)).ra)) + BitVec.toNat (tFB 0 0 0 (2 ^ 46 - 2199023259648)).imm64) % 2 ^ 64 ∧ 2 ^ 46 ≤ 70368744177664 ∧ (State.at (tTens []) tC).emask[11] = true) := by
  and_intros <;> first | decide +kernel | rfl
/-- States and operands that meet the hypotheses of TensorEntryResults. -/
theorem wit_TensorEntryResults :
    (State.dieUp (tTens [TEntry.accz 0, TEntry.accz 1]) (cellIdx tC / 256) = true ∧ (State.at (tTens [TEntry.accz 0, TEntry.accz 1]) tC).tq = [TEntry.accz 0, TEntry.accz 1] ∧ (State.at (tTens [TEntry.accz 0, TEntry.accz 1]) tC).sigs = []) := by
  and_intros <;> first | decide +kernel | rfl
/-- States and operands that meet the hypotheses of TokenAndCreditResults. -/
theorem wit_TokenAndCreditResults :
    (State.runs (tTok none) tC = true ∧ (tFE 0 0 0 0 0 7 65535 0 0).mods = 0#8 ∧ (tFE 0 0 0 0 0 7 65535 0 0).src = 0#5 ∧ (tFE 0 0 0 0 0 7 65535 0 0).sig = 0#5 ∧ feZero (tFE 0 0 0 0 0 7 65535 0 0) true true true true false ∧ (tFE 0 0 0 0 0 7 65535 0 0).increment ≠ 0#16 ∧ (State.at (tTok none) tC).tq = [] ∧ State.plcOk (tTok none) (Cell.wu (State.at (tTok none) tC)) (Cell.epoch (State.at (tTok none) tC)) = true ∧ BitVec.toNat (State.tok (tTok none) (cellRid (cellIdx tC)) (BitVec.toNat (tFE 0 0 0 0 0 7 65535 0 0).token)) + BitVec.toNat (tFE 0 0 0 0 0 7 65535 0 0).increment ≤ 4294967295) ∧
    (State.runs (tTok none) tC = true ∧ (tFE 0 0 0 0 0 4095 1 0 0).mods = 0#8 ∧ (tFE 0 0 0 0 0 4095 1 0 0).src = 0#5 ∧ (tFE 0 0 0 0 0 4095 1 0 0).sig = 0#5 ∧ feZero (tFE 0 0 0 0 0 4095 1 0 0) true true true true false ∧ (tFE 0 0 0 0 0 4095 1 0 0).increment ≠ 0#16 ∧ (State.at (tTok none) tC).tq = [] ∧ State.plcOk (tTok none) (Cell.wu (State.at (tTok none) tC)) (Cell.epoch (State.at (tTok none) tC)) = true ∧ 4294967295 < BitVec.toNat (State.tok (tTok none) (cellRid (cellIdx tC)) (BitVec.toNat (tFE 0 0 0 0 0 4095 1 0 0).token)) + BitVec.toNat (tFE 0 0 0 0 0 4095 1 0 0).increment ∧ (State.at (tTok none) tC).emask[4] = true) ∧
    (State.runs (tTok none) tC = true ∧ BitVec.toNat (tFE 1 5 0 0 0 7 0 10 0).mods < 2 ∧ (tFE 1 5 0 0 0 7 0 10 0).sig = 0#5 ∧ feZero (tFE 1 5 0 0 0 7 0 10 0) true false false false true ∧ ((if (tFE 1 5 0 0 0 7 0 10 0).len = 0#5 then BitVec.toNat (tFE 1 5 0 0 0 7 0 10 0).immA else BitVec.toNat (Cell.sr (State.at (tTok none) tC) (BitVec.toNat (tFE 1 5 0 0 0 7 0 10 0).len))) ≤ BitVec.toNat (State.tok (tTok none) (cellRid (cellIdx tC)) (BitVec.toNat (tFE 1 5 0 0 0 7 0 10 0).token)))) ∧
    (State.runs (tTok none) tC = true ∧ BitVec.toNat (tFE 0 5 0 2 0 7 0 0 0).mods < 2 ∧ (tFE 0 5 0 2 0 7 0 0 0).sig = 0#5 ∧ feZero (tFE 0 5 0 2 0 7 0 0 0) true false false false true ∧ ((if (tFE 0 5 0 2 0 7 0 0 0).len = 0#5 then BitVec.toNat (tFE 0 5 0 2 0 7 0 0 0).immA else BitVec.toNat (Cell.sr (State.at (tTok none) tC) (BitVec.toNat (tFE 0 5 0 2 0 7 0 0 0).len))) ≤ BitVec.toNat (State.tok (tTok none) (cellRid (cellIdx tC)) (BitVec.toNat (tFE 0 5 0 2 0 7 0 0 0).token)))) ∧
    (State.runs (tTok none) tC = true ∧ BitVec.toNat (tFE 1 5 0 0 0 7 0 11 100).mods < 2 ∧ (tFE 1 5 0 0 0 7 0 11 100).sig = 0#5 ∧ feZero (tFE 1 5 0 0 0 7 0 11 100) true false false false true ∧ (BitVec.toNat (State.tok (tTok none) (cellRid (cellIdx tC)) (BitVec.toNat (tFE 1 5 0 0 0 7 0 11 100).token)) < if (tFE 1 5 0 0 0 7 0 11 100).len = 0#5 then BitVec.toNat (tFE 1 5 0 0 0 7 0 11 100).immA else BitVec.toNat (Cell.sr (State.at (tTok none) tC) (BitVec.toNat (tFE 1 5 0 0 0 7 0 11 100).len)))) ∧
    ((State.at (tTok (some (CBlock.wait 7 11 true 5 100))) tC).block = some (CBlock.wait 7 11 true 5 100) ∧ 100 ≠ 0 ∧ State.dieUp (tTok (some (CBlock.wait 7 11 true 5 100))) (cellIdx tC / 256) = true ∧ (State.at (tTok (some (CBlock.wait 7 11 true 5 100))) tC).phase = CPhase.running ∧ (State.at (tTok (some (CBlock.wait 7 11 true 5 100))) tC).pendTrap = none) ∧
    (State.runs (tTok none) tC = true ∧ (tFE 0 0 0 0 0 3 0 9 0).mods = 0#8 ∧ (tFE 0 0 0 0 0 3 0 9 0).src = 0#5 ∧ (tFE 0 0 0 0 0 3 0 9 0).sig = 0#5 ∧ feZero (tFE 0 0 0 0 0 3 0 9 0) true false false true true ∧ BitVec.toNat (tFE 0 0 0 0 0 3 0 9 0).token < 64 ∧ (BitVec.toNat (State.poolCap (tTok none) (cellRid (cellIdx tC)) (BitVec.toNat (tFE 0 0 0 0 0 3 0 9 0).token)) < if (tFE 0 0 0 0 0 3 0 9 0).len = 0#5 then BitVec.toNat (tFE 0 0 0 0 0 3 0 9 0).immA else BitVec.toNat (Cell.sr (State.at (tTok none) tC) (BitVec.toNat (tFE 0 0 0 0 0 3 0 9 0).len))) ∧ (State.at (tTok none) tC).emask[5] = true) ∧
    (State.runs (tTok none) tC = true ∧ (tFE 0 0 0 0 0 3 0 5 0).mods = 0#8 ∧ (tFE 0 0 0 0 0 3 0 5 0).src = 0#5 ∧ (tFE 0 0 0 0 0 3 0 5 0).sig = 0#5 ∧ feZero (tFE 0 0 0 0 0 3 0 5 0) true false false true true ∧ BitVec.toNat (tFE 0 0 0 0 0 3 0 5 0).token < 64 ∧ (0 < if (tFE 0 0 0 0 0 3 0 5 0).len = 0#5 then BitVec.toNat (tFE 0 0 0 0 0 3 0 5 0).immA else BitVec.toNat (Cell.sr (State.at (tTok none) tC) (BitVec.toNat (tFE 0 0 0 0 0 3 0 5 0).len))) ∧ ((if (tFE 0 0 0 0 0 3 0 5 0).len = 0#5 then BitVec.toNat (tFE 0 0 0 0 0 3 0 5 0).immA else BitVec.toNat (Cell.sr (State.at (tTok none) tC) (BitVec.toNat (tFE 0 0 0 0 0 3 0 5 0).len))) ≤ BitVec.toNat (State.poolCap (tTok none) (cellRid (cellIdx tC)) (BitVec.toNat (tFE 0 0 0 0 0 3 0 5 0).token))) ∧ ((if (tFE 0 0 0 0 0 3 0 5 0).len = 0#5 then BitVec.toNat (tFE 0 0 0 0 0 3 0 5 0).immA else BitVec.toNat (Cell.sr (State.at (tTok none) tC) (BitVec.toNat (tFE 0 0 0 0 0 3 0 5 0).len))) ≤ BitVec.toNat (State.pool (tTok none) (cellRid (cellIdx tC)) (BitVec.toNat (tFE 0 0 0 0 0 3 0 5 0).token)))) ∧
    (State.runs (tTok none) tC = true ∧ (tFE 0 0 0 0 0 3 0 8 0).mods = 0#8 ∧ (tFE 0 0 0 0 0 3 0 8 0).src = 0#5 ∧ (tFE 0 0 0 0 0 3 0 8 0).sig = 0#5 ∧ feZero (tFE 0 0 0 0 0 3 0 8 0) true false false true true ∧ BitVec.toNat (tFE 0 0 0 0 0 3 0 8 0).token < 64 ∧ ((if (tFE 0 0 0 0 0 3 0 8 0).len = 0#5 then BitVec.toNat (tFE 0 0 0 0 0 3 0 8 0).immA else BitVec.toNat (Cell.sr (State.at (tTok none) tC) (BitVec.toNat (tFE 0 0 0 0 0 3 0 8 0).len))) ≤ BitVec.toNat (State.poolCap (tTok none) (cellRid (cellIdx tC)) (BitVec.toNat (tFE 0 0 0 0 0 3 0 8 0).token))) ∧ (BitVec.toNat (State.pool (tTok none) (cellRid (cellIdx tC)) (BitVec.toNat (tFE 0 0 0 0 0 3 0 8 0).token)) < if (tFE 0 0 0 0 0 3 0 8 0).len = 0#5 then BitVec.toNat (tFE 0 0 0 0 0 3 0 8 0).immA else BitVec.toNat (Cell.sr (State.at (tTok none) tC) (BitVec.toNat (tFE 0 0 0 0 0 3 0 8 0).len)))) ∧
    (State.runs (tTok none) tC = true ∧ (tFE 0 0 0 2 0 3 0 0 0).mods = 0#8 ∧ (tFE 0 0 0 2 0 3 0 0 0).src = 0#5 ∧ (tFE 0 0 0 2 0 3 0 0 0).sig = 0#5 ∧ feZero (tFE 0 0 0 2 0 3 0 0 0) true false false true true ∧ BitVec.toNat (tFE 0 0 0 2 0 3 0 0 0).token < 64 ∧ State.plcOk (tTok none) (Cell.wu (State.at (tTok none) tC)) (Cell.epoch (State.at (tTok none) tC)) = true ∧ (0 < if (tFE 0 0 0 2 0 3 0 0 0).len = 0#5 then BitVec.toNat (tFE 0 0 0 2 0 3 0 0 0).immA else BitVec.toNat (Cell.sr (State.at (tTok none) tC) (BitVec.toNat (tFE 0 0 0 2 0 3 0 0 0).len))) ∧ ((if (tFE 0 0 0 2 0 3 0 0 0).len = 0#5 then BitVec.toNat (tFE 0 0 0 2 0 3 0 0 0).immA else BitVec.toNat (Cell.sr (State.at (tTok none) tC) (BitVec.toNat (tFE 0 0 0 2 0 3 0 0 0).len))) ≤ 4294967295)) ∧
    (State.runs (tTok none) tC = true ∧ (tFE 0 5 0 0 0 4095 0 0 0).mods = 0#8 ∧ (tFE 0 5 0 0 0 4095 0 0 0).sig = 0#5 ∧ feZero (tFE 0 5 0 0 0 4095 0 0 0) true true true true true) ∧
    ((State.at (tTok (some (CBlock.wait 7 10 true 5 0))) tC).block = some (CBlock.wait 7 10 true 5 0) ∧ State.dieUp (tTok (some (CBlock.wait 7 10 true 5 0))) (cellIdx tC / 256) = true ∧ State.asleep (tTok (some (CBlock.wait 7 10 true 5 0))) = false ∧ (State.at (tTok (some (CBlock.wait 7 10 true 5 0))) tC).phase = CPhase.running ∧ (State.at (tTok (some (CBlock.wait 7 10 true 5 0))) tC).pendTrap = none ∧ 10 ≤ BitVec.toNat (State.tok (tTok (some (CBlock.wait 7 10 true 5 0))) (cellRid (cellIdx tC)) 7)) ∧
    ((State.at (tTok (some (CBlock.wait 7 11 true 5 0))) tC).block = some (CBlock.wait 7 11 true 5 0) ∧ State.dieUp (tTok (some (CBlock.wait 7 11 true 5 0))) (cellIdx tC / 256) = true ∧ State.asleep (tTok (some (CBlock.wait 7 11 true 5 0))) = false ∧ (State.at (tTok (some (CBlock.wait 7 11 true 5 0))) tC).phase = CPhase.running ∧ (State.at (tTok (some (CBlock.wait 7 11 true 5 0))) tC).pendTrap = none ∧ BitVec.toNat (State.tok (tTok (some (CBlock.wait 7 11 true 5 0))) (cellRid (cellIdx tC)) 7) < 11) := by
  and_intros <;> first | decide +kernel | rfl
/-- States and operands that meet the hypotheses of AsyncIssueResults. -/
theorem wit_AsyncIssueResults :
    (State.runs (tAsync tC) tC = true ∧ (tFE 0 3 4 0 0 0 0 128 0).mods = 0#8 ∧ (tFE 0 3 4 0 0 0 0 128 0).increment = 0#16 ∧ (tFE 0 3 4 0 0 0 0 128 0).immB = 0#32 ∧ List.length (State.at (tAsync tC) tC).ops < 16 ∧ BitVec.toNat (Cell.sr (State.at (tAsync tC) tC) (BitVec.toNat (tFE 0 3 4 0 0 0 0 128 0).src)) < 2 ^ 46 ∧ BitVec.toNat (Cell.sr (State.at (tAsync tC) tC) (BitVec.toNat (tFE 0 3 4 0 0 0 0 128 0).dst)) < 2 ^ 46 ∧ (State.moveOk (tAsync tC) none ((if State.idValid (tAsync tC) = true then State.devId (tAsync tC) * 2 ^ 46 else 0) + BitVec.toNat (Cell.sr (State.at (tAsync tC) tC) (BitVec.toNat (tFE 0 3 4 0 0 0 0 128 0).src))) ((if State.idValid (tAsync tC) = true then State.devId (tAsync tC) * 2 ^ 46 else 0) + BitVec.toNat (Cell.sr (State.at (tAsync tC) tC) (BitVec.toNat (tFE 0 3 4 0 0 0 0 128 0).dst))) (if (tFE 0 3 4 0 0 0 0 128 0).len = 0#5 then BitVec.toNat (tFE 0 3 4 0 0 0 0 128 0).immA else BitVec.toNat (Cell.sr (State.at (tAsync tC) tC) (BitVec.toNat (tFE 0 3 4 0 0 0 0 128 0).len))) false false = true)) ∧
    (State.runs (tAsync tC) tC = true ∧ (tFF 0 3 4 0 0 0 0 9 128 1).mods = 0#8 ∧ (tFF 0 3 4 0 0 0 0 9 128 1).increment = 0#16 ∧ BitVec.toNat (tFF 0 3 4 0 0 0 0 9 128 1).imm16 < 256 ∧ BitVec.toNat (tFF 0 3 4 0 0 0 0 9 128 1).imm32 < 65536 ∧ BitVec.toNat (tFF 0 3 4 0 0 0 0 9 128 1).imm16 % 16 ≤ 8 ∧ BitVec.toNat (tFF 0 3 4 0 0 0 0 9 128 1).imm16 / 16 % 4 < 3 ∧ BitVec.toNat (tFF 0 3 4 0 0 0 0 9 128 1).imm16 / 64 < 3 ∧ (tFF 0 3 4 0 0 0 0 9 128 1).sc = 0#5 ∧ List.length (State.at (tAsync tC) tC).ops < 16 ∧ State.cellLocal (tAsync tC) (cellIdx tC) (BitVec.toNat (Cell.sr (State.at (tAsync tC) tC) (BitVec.toNat (tFF 0 3 4 0 0 0 0 9 128 1).sa))) ((BitVec.toNat (tFF 0 3 4 0 0 0 0 9 128 1).imm32 + 1) * cuInBytes (BitVec.toNat (tFF 0 3 4 0 0 0 0 9 128 1).imm16 / 16 % 4)) = true ∧ State.cellLocal (tAsync tC) (cellIdx tC) (BitVec.toNat (Cell.sr (State.at (tAsync tC) tC) (BitVec.toNat (tFF 0 3 4 0 0 0 0 9 128 1).sb))) ((BitVec.toNat (tFF 0 3 4 0 0 0 0 9 128 1).imm32 + 1) * cuOutBytes (BitVec.toNat (tFF 0 3 4 0 0 0 0 9 128 1).imm16 / 64)) = true ∧ touchesTiled (tAsync tC).trg (BitVec.toNat (Cell.sr (State.at (tAsync tC) tC) (BitVec.toNat (tFF 0 3 4 0 0 0 0 9 128 1).sb))) ((BitVec.toNat (tFF 0 3 4 0 0 0 0 9 128 1).imm32 + 1) * cuOutBytes (BitVec.toNat (tFF 0 3 4 0 0 0 0 9 128 1).imm16 / 64)) = false) ∧
    (State.runs (tAsync tC) tC = true ∧ (tFF 0 3 0 0 0 0 0 0 0 64).mods = 0#8 ∧ (tFF 0 3 0 0 0 0 0 0 0 64).increment = 0#16 ∧ BitVec.toNat (tFF 0 3 0 0 0 0 0 0 0 64).imm16 = 0 ∧ 0 < 16 ∧ (tFF 0 3 0 0 0 0 0 0 0 64).sb = 0#5 ∧ (tFF 0 3 0 0 0 0 0 0 0 64).sc = 0#5 ∧ (tFF 0 3 0 0 0 0 0 0 0 64).tag = 0#16 ∧ BitVec.toNat (tFF 0 3 0 0 0 0 0 0 0 64).imm32 % 64 = 0 ∧ 64 ≤ BitVec.toNat (tFF 0 3 0 0 0 0 0 0 0 64).imm32 ∧ BitVec.toNat (tFF 0 3 0 0 0 0 0 0 0 64).imm32 ≤ 65536 ∧ List.length (State.at (tAsync tC) tC).ops < 16 ∧ State.cellLocal (tAsync tC) (cellIdx tC) (BitVec.toNat (Cell.sr (State.at (tAsync tC) tC) (BitVec.toNat (tFF 0 3 0 0 0 0 0 0 0 64).sa))) (BitVec.toNat (tFF 0 3 0 0 0 0 0 0 0 64).imm32) = true ∧ State.calm (tAsync tC) (BitVec.toNat (Cell.sr (State.at (tAsync tC) tC) (BitVec.toNat (tFF 0 3 0 0 0 0 0 0 0 64).sa))) (BitVec.toNat (tFF 0 3 0 0 0 0 0 0 0 64).imm32) = true ∧ State.weirRoom (tAsync tC) 0 = true ∧ State.weirPath (tAsync tC) (cellIdx tC / 256) 0 = true) ∧
    (State.runs (tAsync tZ) tZ = true ∧ (tFF 0 3 0 0 0 0 0 0 15 65536).mods = 0#8 ∧ (tFF 0 3 0 0 0 0 0 0 15 65536).increment = 0#16 ∧ BitVec.toNat (tFF 0 3 0 0 0 0 0 0 15 65536).imm16 = 15 ∧ 15 < 16 ∧ (tFF 0 3 0 0 0 0 0 0 15 65536).sb = 0#5 ∧ (tFF 0 3 0 0 0 0 0 0 15 65536).sc = 0#5 ∧ (tFF 0 3 0 0 0 0 0 0 15 65536).tag = 0#16 ∧ BitVec.toNat (tFF 0 3 0 0 0 0 0 0 15 65536).imm32 % 64 = 0 ∧ 64 ≤ BitVec.toNat (tFF 0 3 0 0 0 0 0 0 15 65536).imm32 ∧ BitVec.toNat (tFF 0 3 0 0 0 0 0 0 15 65536).imm32 ≤ 65536 ∧ List.length (State.at (tAsync tZ) tZ).ops < 16 ∧ State.cellLocal (tAsync tZ) (cellIdx tZ) (BitVec.toNat (Cell.sr (State.at (tAsync tZ) tZ) (BitVec.toNat (tFF 0 3 0 0 0 0 0 0 15 65536).sa))) (BitVec.toNat (tFF 0 3 0 0 0 0 0 0 15 65536).imm32) = true ∧ State.calm (tAsync tZ) (BitVec.toNat (Cell.sr (State.at (tAsync tZ) tZ) (BitVec.toNat (tFF 0 3 0 0 0 0 0 0 15 65536).sa))) (BitVec.toNat (tFF 0 3 0 0 0 0 0 0 15 65536).imm32) = true ∧ State.weirRoom (tAsync tZ) 15 = true ∧ State.weirPath (tAsync tZ) (cellIdx tZ / 256) 15 = true) ∧
    (State.runs (tAsync tC) tC = true ∧ (tFF 0 0 0 0 0 0 0 9 3 0).mods = 0#8 ∧ (tFF 0 0 0 0 0 0 0 9 3 0).increment = 0#16 ∧ (tFF 0 0 0 0 0 0 0 9 3 0).sa = 0#5 ∧ (tFF 0 0 0 0 0 0 0 9 3 0).sb = 0#5 ∧ (tFF 0 0 0 0 0 0 0 9 3 0).sc = 0#5 ∧ (tFF 0 0 0 0 0 0 0 9 3 0).imm32 = 0#32 ∧ BitVec.toNat (tFF 0 0 0 0 0 0 0 9 3 0).imm16 < 4 ∧ List.length (State.at (tAsync tC) tC).ops < 16 ∧ (∀ (o : AOp), o ∈ (State.at (tAsync tC) tC).ops → o.kind ≠ AKind.oproj)) ∧
    (State.runs (tAsync tC) tC = true ∧ (tFF 0 0 0 0 0 0 0 0 5 0).mods = 0#8 ∧ BitVec.toNat (tFF 0 0 0 0 0 0 0 0 5 0).imm16 < 6 ∧ (tFF 0 0 0 0 0 0 0 0 5 0).sa = 0#5 ∧ (tFF 0 0 0 0 0 0 0 0 5 0).sb = 0#5 ∧ (tFF 0 0 0 0 0 0 0 0 5 0).sc = 0#5 ∧ (tFF 0 0 0 0 0 0 0 0 5 0).sd = 0#5 ∧ (tFF 0 0 0 0 0 0 0 0 5 0).token = 0#12 ∧ (tFF 0 0 0 0 0 0 0 0 5 0).increment = 0#16 ∧ (tFF 0 0 0 0 0 0 0 0 5 0).tag = 0#16 ∧ (tFF 0 0 0 0 0 0 0 0 5 0).imm32 = 0#32) ∧
    (State.runs (tAsync tC) tC = true ∧ (tFF 0 0 0 0 0 0 0 0 0 40000).mods = 0#8 ∧ BitVec.toNat (tFF 0 0 0 0 0 0 0 0 0 40000).imm16 < 6 ∧ (tFF 0 0 0 0 0 0 0 0 0 40000).sa = 0#5 ∧ (tFF 0 0 0 0 0 0 0 0 0 40000).sb = 0#5 ∧ (tFF 0 0 0 0 0 0 0 0 0 40000).sc = 0#5 ∧ (tFF 0 0 0 0 0 0 0 0 0 40000).sd = 0#5 ∧ (tFF 0 0 0 0 0 0 0 0 0 40000).token = 0#12 ∧ (tFF 0 0 0 0 0 0 0 0 0 40000).increment = 0#16 ∧ (tFF 0 0 0 0 0 0 0 0 0 40000).tag = 0#16 ∧ (tFF 0 0 0 0 0 0 0 0 0 40000).imm32 ≠ 0#32 ∧ (tget Ledger.zero (tAsync tC).nrg.ledgers (cellIdx tC / 16)).cap ≠ none ∧ ↑(charge (BitVec.toNat (tFF 0 0 0 0 0 0 0 0 0 40000).imm32) (State.factor (tAsync tC) (cellIdx tC / 16) (BitVec.toNat (tFF 0 0 0 0 0 0 0 0 0 40000).imm16))) ≤ (tget Ledger.zero (tAsync tC).nrg.ledgers (cellIdx tC / 16)).bal ∧ ↑(charge (BitVec.toNat (tFF 0 0 0 0 0 0 0 0 0 40000).imm32) (State.factor (tAsync tC) (cellIdx tC / 16) (BitVec.toNat (tFF 0 0 0 0 0 0 0 0 0 40000).imm16))) ≤ tget (Int.ofNat 0) (tAsync tC).nrg.room (cellIdx tC / 256) ∧ Int.ofNat 0 ≤ (tAsync tC).nrg.pool ∧ Int.ofNat 0 ≤ (tAsync tC).nrg.pkgRoom) := by
  and_intros <;> first | decide +kernel | rfl
/-- States and operands that meet the hypotheses of AsyncCompletionResults. -/
theorem wit_AsyncCompletionResults :
    (Cell.op (State.at (tEnd CPhase.running [tDoneOp]) tC) tDoneOp.id = some tDoneOp ∧ tDoneOp.left = 0 ∧ tDoneOp.status = 0 ∧ tDoneOp.sig.inc = 0 ∧ (State.at (tEnd CPhase.running [tDoneOp]) tC).sigs = [] ∧ State.dieUp (tEnd CPhase.running [tDoneOp]) (cellIdx tC / 256) = true) ∧
    ((State.at (tEnd CPhase.halted []) tC).run = some 9 ∧ ((State.at (tEnd CPhase.halted []) tC).phase = CPhase.halted ∧ 0 = 0 ∨ (State.at (tEnd CPhase.halted []) tC).phase = CPhase.trapped 0) ∧ (State.at (tEnd CPhase.halted []) tC).ops = [] ∧ (State.at (tEnd CPhase.halted []) tC).tq = [] ∧ (State.at (tEnd CPhase.halted []) tC).sigs = [] ∧ State.dieUp (tEnd CPhase.halted []) (cellIdx tC / 256) = true) ∧
    ((State.at (tEnd (CPhase.trapped 10) []) tC).run = some 9 ∧ ((State.at (tEnd (CPhase.trapped 10) []) tC).phase = CPhase.halted ∧ 10 = 0 ∨ (State.at (tEnd (CPhase.trapped 10) []) tC).phase = CPhase.trapped 10) ∧ (State.at (tEnd (CPhase.trapped 10) []) tC).ops = [] ∧ (State.at (tEnd (CPhase.trapped 10) []) tC).tq = [] ∧ (State.at (tEnd (CPhase.trapped 10) []) tC).sigs = [] ∧ State.dieUp (tEnd (CPhase.trapped 10) []) (cellIdx tC / 256) = true) ∧
    ((State.at (tEnd CPhase.halted [tDoneOp]) tC).run = some 9 ∧ ((State.at (tEnd CPhase.halted [tDoneOp]) tC).phase = CPhase.halted ∧ 0 = 0 ∨ (State.at (tEnd CPhase.halted [tDoneOp]) tC).phase = CPhase.trapped 0) ∧ ((State.at (tEnd CPhase.halted [tDoneOp]) tC).ops ≠ [] ∨ (State.at (tEnd CPhase.halted [tDoneOp]) tC).tq ≠ [])) := by
  and_intros <;> first | decide +kernel | rfl
/-- States and operands that meet the hypotheses of CommandQueueing, part 1. -/
theorem wit_CommandQueueing_1 :
    ((Issuer.mgmt = Issuer.mgmt ∨ Issuer.mgmt = Issuer.none) ∧ State.cmdCheck tUp (padTo 64 tWait) = 0 ∧ (cmdExempt (padTo 64 tWait) = true ∨ State.atOld tUp (wuItem (cmdWu (padTo 64 tWait))) (cmdTarget (padTo 64 tWait)) = false) ∧ State.diePath tUp dieK (ridDie (cmdTarget (padTo 64 tWait))) = true ∧ (State.reach tUp (cmdTarget (padTo 64 tWait))).held = [] ∧ State.depth tUp (cmdTarget (padTo 64 tWait)) < 1024) ∧
    ((Issuer.none = Issuer.mgmt ∨ Issuer.none = Issuer.none) ∧ State.cmdCheck tBed (padTo 64 (tCmd [(0, 1, 1), (4, 4, 51314688), (42, 8, 2199023255552)])) = 0 ∧ (cmdExempt (padTo 64 (tCmd [(0, 1, 1), (4, 4, 51314688), (42, 8, 2199023255552)])) = true ∨ State.atOld tBed (wuItem (cmdWu (padTo 64 (tCmd [(0, 1, 1), (4, 4, 51314688), (42, 8, 2199023255552)])))) (cmdTarget (padTo 64 (tCmd [(0, 1, 1), (4, 4, 51314688), (42, 8, 2199023255552)]))) = false) ∧ State.diePath tBed dieK (ridDie (cmdTarget (padTo 64 (tCmd [(0, 1, 1), (4, 4, 51314688), (42, 8, 2199023255552)])))) = true ∧ (State.reach tBed (cmdTarget (padTo 64 (tCmd [(0, 1, 1), (4, 4, 51314688), (42, 8, 2199023255552)])))).held = [] ∧ State.depth tBed (cmdTarget (padTo 64 (tCmd [(0, 1, 1), (4, 4, 51314688), (42, 8, 2199023255552)]))) < 1024) ∧
    ((Issuer.none = Issuer.mgmt ∨ Issuer.none = Issuer.none) ∧ State.cmdCheck tUp (padTo 64 (tCmd [(0, 1, 1), (4, 4, 51314688), (42, 8, 2199023255552)])) = 0 ∧ (cmdExempt (padTo 64 (tCmd [(0, 1, 1), (4, 4, 51314688), (42, 8, 2199023255552)])) = true ∨ State.atOld tUp (wuItem (cmdWu (padTo 64 (tCmd [(0, 1, 1), (4, 4, 51314688), (42, 8, 2199023255552)])))) (cmdTarget (padTo 64 (tCmd [(0, 1, 1), (4, 4, 51314688), (42, 8, 2199023255552)]))) = false) ∧ State.diePath tUp dieK (ridDie (cmdTarget (padTo 64 (tCmd [(0, 1, 1), (4, 4, 51314688), (42, 8, 2199023255552)])))) = false) ∧
    ((Issuer.mgmt = Issuer.mgmt ∨ Issuer.mgmt = Issuer.none) ∧ State.cmdCheck w20_19 (padTo 64 tWait) = 0 ∧ (cmdExempt (padTo 64 tWait) = true ∨ State.atOld w20_19 (wuItem (cmdWu (padTo 64 tWait))) (cmdTarget (padTo 64 tWait)) = false) ∧ State.diePath w20_19 dieK (ridDie (cmdTarget (padTo 64 tWait))) = true ∧ (State.reach w20_19 (cmdTarget (padTo 64 tWait))).held = [] ∧ 1024 ≤ State.depth w20_19 (cmdTarget (padTo 64 tWait))) ∧
    ((Issuer.mgmt = Issuer.mgmt ∨ Issuer.mgmt = Issuer.none) ∧ State.cmdCheck tUp (padTo 64 (tCmd [(0, 1, 9), (4, 4, ridPkg)])) ≠ 0 ∧ (cmdSig (padTo 64 (tCmd [(0, 1, 9), (4, 4, ridPkg)]))).valid = false) ∧
    ((Issuer.mgmt = Issuer.mgmt ∨ Issuer.mgmt = Issuer.none) ∧ State.cmdCheck tUp (padTo 64 (tCmd [(0, 1, 5), (4, 4, 1610612737)])) ≠ 0 ∧ (cmdSig (padTo 64 (tCmd [(0, 1, 5), (4, 4, 1610612737)]))).valid = false) ∧
    (State.reachLive w20_24 51314688 = true ∧ (State.reach w20_24 51314688).queue = [tQ 1 tTake, tQ 2 tTake] ∧ (State.reach w20_24 51314688).held = [] ∧ (∀ (x : QCmd), x ∈ [tQ 2 tTake] → x.id ≠ (tQ 1 tTake).id) ∧ ridLevel 51314688 < 4 ∧ State.blocksBefore w20_24 51314688 (tQ 1 tTake).id = 0 ∧ BitVec.toNat (State.poolCap w20_24 51314688 (cmdPool (tQ 1 tTake).bytes)) < cmdCredits (tQ 1 tTake).bytes) ∧
    (State.reachLive w20_25 51314688 = true ∧ (State.reach w20_25 51314688).queue = [tQ 1 tTake, tQ 2 tTake] ∧ (State.reach w20_25 51314688).held = [] ∧ (∀ (x : QCmd), x ∈ [tQ 2 tTake] → x.id ≠ (tQ 1 tTake).id) ∧ ridLevel 51314688 < 4 ∧ State.blocksBefore w20_25 51314688 (tQ 1 tTake).id = 0 ∧ State.roomFor w20_25 51314688 (cmdOp (tQ 1 tTake).bytes) = true ∧ State.migrateHeld w20_25 (tQ 1 tTake).bytes = false ∧ cmdNj (tQ 1 tTake).bytes = 0 ∧ cmdCredits (tQ 1 tTake).bytes ≤ BitVec.toNat (State.poolCap w20_25 51314688 (cmdPool (tQ 1 tTake).bytes)) ∧ State.waitsOk w20_25 51314688 (tQ 1 tTake).bytes = true ∧ cmdFlag (tQ 1 tTake).bytes 1 = false ∧ cmdFlag (tQ 1 tTake).bytes 2 = false ∧ cmdCredits (tQ 1 tTake).bytes ≤ BitVec.toNat (State.pool w20_25 51314688 (cmdPool (tQ 1 tTake).bytes))) ∧
    (State.reachLive w20_28 ridPkg = true ∧ (State.reach w20_28 ridPkg).queue = [tQ 1 tWait2] ∧ (State.reach w20_28 ridPkg).held = [] ∧ (∀ (x : QCmd), x ∈ ([] : List QCmd) → x.id ≠ (tQ 1 tWait2).id) ∧ ridLevel ridPkg < 4 ∧ State.blocksBefore w20_28 ridPkg (tQ 1 tWait2).id = 0 ∧ State.roomFor w20_28 ridPkg (cmdOp (tQ 1 tWait2).bytes) = true ∧ State.migrateHeld w20_28 (tQ 1 tWait2).bytes = false ∧ cmdNj (tQ 1 tWait2).bytes = 0 ∧ cmdCredits (tQ 1 tWait2).bytes ≤ BitVec.toNat (State.poolCap w20_28 ridPkg (cmdPool (tQ 1 tWait2).bytes)) ∧ State.waitsOk w20_28 ridPkg (tQ 1 tWait2).bytes = false) ∧
    (State.reachLive w20_29 ridPkg = true ∧ (State.reach w20_29 ridPkg).queue = [tQ 1 tWait2] ∧ (State.reach w20_29 ridPkg).held = [] ∧ (∀ (x : QCmd), x ∈ ([] : List QCmd) → x.id ≠ (tQ 1 tWait2).id) ∧ ridLevel ridPkg < 4 ∧ State.blocksBefore w20_29 ridPkg (tQ 1 tWait2).id = 0 ∧ State.roomFor w20_29 ridPkg (cmdOp (tQ 1 tWait2).bytes) = true ∧ State.migrateHeld w20_29 (tQ 1 tWait2).bytes = false ∧ cmdNj (tQ 1 tWait2).bytes = 0 ∧ cmdCredits (tQ 1 tWait2).bytes ≤ BitVec.toNat (State.poolCap w20_29 ridPkg (cmdPool (tQ 1 tWait2).bytes)) ∧ State.waitsOk w20_29 ridPkg (tQ 1 tWait2).bytes = true ∧ cmdFlag (tQ 1 tWait2).bytes 1 = false ∧ cmdFlag (tQ 1 tWait2).bytes 2 = false ∧ cmdCredits (tQ 1 tWait2).bytes ≤ BitVec.toNat (State.pool w20_29 ridPkg (cmdPool (tQ 1 tWait2).bytes))) ∧
    (List.find? (fun x => x.id == 7) (State.reach w20_30 ridPkg).running = some (tOver 7 tWait Issuer.mgmt 0) ∧ (tOver 7 tWait Issuer.mgmt 0).done = some 0 ∧ (tOver 7 tWait Issuer.mgmt 0).left = 0 ∧ State.reachHere w20_30 ridPkg = true ∧ State.dieUp w20_30 (State.reportDie w20_30 ridPkg) = true ∧ State.asleep w20_30 = false ∧ (tOver 7 tWait Issuer.mgmt 0).sent = false ∧ (cmdSig (tOver 7 tWait Issuer.mgmt 0).bytes).valid = false ∧ (State.reach w20_30 ridPkg).held = [] ∧ ((tOver 7 tWait Issuer.mgmt 0).iss = Issuer.mgmt ∨ (tOver 7 tWait Issuer.mgmt 0).iss = Issuer.none)) ∧
    (List.find? (fun x => x.id == 7) (State.reach w20_31 ridPkg).running = some (tOver 7 tWait Issuer.none 11) ∧ (tOver 7 tWait Issuer.none 11).done = some 11 ∧ (tOver 7 tWait Issuer.none 11).left = 0 ∧ State.reachHere w20_31 ridPkg = true ∧ State.dieUp w20_31 (State.reportDie w20_31 ridPkg) = true ∧ State.asleep w20_31 = false ∧ (tOver 7 tWait Issuer.none 11).sent = false ∧ (cmdSig (tOver 7 tWait Issuer.none 11).bytes).valid = false ∧ (State.reach w20_31 ridPkg).held = [] ∧ ((tOver 7 tWait Issuer.none 11).iss = Issuer.mgmt ∨ (tOver 7 tWait Issuer.none 11).iss = Issuer.none)) ∧
    (List.find? (fun x => x.id == 7) (State.reach w20_32 51314688).running = some (tOver 7 tTake (Issuer.parent ridPkg 8) 0) ∧ (tOver 7 tTake (Issuer.parent ridPkg 8) 0).done = some 0 ∧ (tOver 7 tTake (Issuer.parent ridPkg 8) 0).left = 0 ∧ State.reachHere w20_32 51314688 = true ∧ State.dieUp w20_32 (State.reportDie w20_32 51314688) = true ∧ State.asleep w20_32 = false ∧ (tOver 7 tTake (Issuer.parent ridPkg 8) 0).sent = false ∧ (cmdSig (tOver 7 tTake (Issuer.parent ridPkg 8) 0).bytes).valid = false ∧ (State.reach w20_32 51314688).held = [] ∧ (tOver 7 tTake (Issuer.parent ridPkg 8) 0).iss = Issuer.parent ridPkg 8 ∧ ridPkg ≠ 51314688) ∧
    (isRchData (Reg.Tt_RCH_DATA 2) = true ∧ State.rchSel (tSel (Reg.Tt_RCH_SEL 2) (240 + 63 * 2 ^ 10 + 2 * 2 ^ 22)) (Reg.Tt_RCH_DATA 2) = ((State.rchSel (tSel (Reg.Tt_RCH_SEL 2) (240 + 63 * 2 ^ 10 + 2 * 2 ^ 22)) (Reg.Tt_RCH_DATA 2)).fst, some 49283072) ∧ Word.fld (State.rchSel (tSel (Reg.Tt_RCH_SEL 2) (240 + 63 * 2 ^ 10 + 2 * 2 ^ 22)) (Reg.Tt_RCH_DATA 2)).fst 22 2 = 2 ∧ State.blockAnswers (tSel (Reg.Tt_RCH_SEL 2) (240 + 63 * 2 ^ 10 + 2 * 2 ^ 22)) (Reg.Tt_RCH_DATA 2) = true ∧ State.asleep (tSel (Reg.Tt_RCH_SEL 2) (240 + 63 * 2 ^ 10 + 2 * 2 ^ 22)) = false ∧ State.logFull (tSel (Reg.Tt_RCH_SEL 2) (240 + 63 * 2 ^ 10 + 2 * 2 ^ 22)) = false ∧ ridLevel 49283072 < 4) := by
  and_intros <;> first | decide +kernel | rfl
/-- States and operands that meet the hypotheses of CommandQueueing, part 2. -/
theorem wit_CommandQueueing_2 :
    (isRchData Reg.KEY_RCH_DATA = true ∧ State.rchSel (tSel Reg.KEY_RCH_SEL (2 * 2 ^ 22)) Reg.KEY_RCH_DATA = ((State.rchSel (tSel Reg.KEY_RCH_SEL (2 * 2 ^ 22)) Reg.KEY_RCH_DATA).fst, some ridPkg) ∧ Word.fld (State.rchSel (tSel Reg.KEY_RCH_SEL (2 * 2 ^ 22)) Reg.KEY_RCH_DATA).fst 22 2 = 2 ∧ State.blockAnswers (tSel Reg.KEY_RCH_SEL (2 * 2 ^ 22)) Reg.KEY_RCH_DATA = true ∧ State.asleep (tSel Reg.KEY_RCH_SEL (2 * 2 ^ 22)) = false ∧ State.logFull (tSel Reg.KEY_RCH_SEL (2 * 2 ^ 22)) = false ∧ ridLevel ridPkg < 4) := by
  and_intros <;> first | decide +kernel | rfl
/-- States and operands that meet the hypotheses of RunningCommandResults, part 1. -/
theorem wit_RunningCommandResults_1 :
    (State.toAct w20_39 983040 7 1 = some (tR 7 (tRunCmd 8)) ∧ ridLevel 983040 = 0 ∧ State.fetchOk w20_39 (ridCellIdx 983040) (bfld (tR 7 (tRunCmd 8)).bytes 42 8) = false) ∧
    (State.toAct w20_40 983040 7 1 = some (tR 7 (tRunCmd 2199038984208)) ∧ ridLevel 983040 = 0 ∧ State.fetchOk w20_40 (ridCellIdx 983040) (bfld (tR 7 (tRunCmd 2199038984208)).bytes 42 8) = true) ∧
    (State.toAct (tAt1 tRunSplit) 536870912 7 1 = some (tR 7 tRunSplit) ∧ ridLevel 536870912 = 1 ∧ ridOk 536870912 = true ∧ (tR 7 tRunSplit).share = none ∧ State.sdesc (tAt1 tRunSplit) (bfld (tR 7 tRunSplit).bytes 58 6) = some { kind := 0, mask := 1, count := 0, chunk := 0, stride := 0, table := 0, next := 0, clean := true : SDesc } ∧ { kind := 0, mask := 1, count := 0, chunk := 0, stride := 0, table := 0, next := 0, clean := true : SDesc }.clean = true ∧ { kind := 0, mask := 1, count := 0, chunk := 0, stride := 0, table := 0, next := 0, clean := true : SDesc }.kind = 0 ∧ { kind := 0, mask := 1, count := 0, chunk := 0, stride := 0, table := 0, next := 0, clean := true : SDesc }.next = 0 ∧ { kind := 0, mask := 1, count := 0, chunk := 0, stride := 0, table := 0, next := 0, clean := true : SDesc }.mask = 1 ∧ cmdWu (tR 7 tRunSplit).bytes % 1048576 < 1048575 ∧ (State.reach (tAt1 tRunSplit) (ridUnit 536870912 * 2 ^ 24 + ridCluster 536870912 * 2 ^ 20)).held = [] ∧ List.length (State.reach (tAt1 tRunSplit) (ridUnit 536870912 * 2 ^ 24 + ridCluster 536870912 * 2 ^ 20)).queue < 1024) ∧
    (State.toAct (tAt1 (tSplit 3298534883328 2199023255808)) 536870912 7 2 = some (tR 7 (tSplit 3298534883328 2199023255808)) ∧ State.rangeStore (tAt1 (tSplit 3298534883328 2199023255808)) (bfld (tR 7 (tSplit 3298534883328 2199023255808)).bytes 42 8) 64 = none) ∧
    (State.toAct (tAt1 (tSplit 2199023256320 2199023255808)) 536870912 7 2 = some (tR 7 (tSplit 2199023256320 2199023255808)) ∧ Option.isSome (State.rangeStore (tAt1 (tSplit 2199023256320 2199023255808)) (bfld (tR 7 (tSplit 2199023256320 2199023255808)).bytes 42 8) 64) = true ∧ innerOk (State.readMem (tAt1 (tSplit 2199023256320 2199023255808)) (bfld (tR 7 (tSplit 2199023256320 2199023255808)).bytes 42 8) 64) = false) ∧
    (State.toAct (tAt1 (tSplit 2199023256064 2199023255824)) 536870912 7 2 = some (tR 7 (tSplit 2199023256064 2199023255824)) ∧ Option.isSome (State.rangeStore (tAt1 (tSplit 2199023256064 2199023255824)) (bfld (tR 7 (tSplit 2199023256064 2199023255824)).bytes 42 8) 64) = true ∧ innerOk (State.readMem (tAt1 (tSplit 2199023256064 2199023255824)) (bfld (tR 7 (tSplit 2199023256064 2199023255824)).bytes 42 8) 64) = true ∧ (tR 7 (tSplit 2199023256064 2199023255824)).share = none ∧ State.sdesc (tAt1 (tSplit 2199023256064 2199023255824)) (bfld (tR 7 (tSplit 2199023256064 2199023255824)).bytes 50 6) = none) ∧
    (State.toAct (tAt1 (tSplit 2199023256064 2199023256064)) 536870912 7 2 = some (tR 7 (tSplit 2199023256064 2199023256064)) ∧ Option.isSome (State.rangeStore (tAt1 (tSplit 2199023256064 2199023256064)) (bfld (tR 7 (tSplit 2199023256064 2199023256064)).bytes 42 8) 64) = true ∧ innerOk (State.readMem (tAt1 (tSplit 2199023256064 2199023256064)) (bfld (tR 7 (tSplit 2199023256064 2199023256064)).bytes 42 8) 64) = true ∧ (tR 7 (tSplit 2199023256064 2199023256064)).share = none ∧ State.sdesc (tAt1 (tSplit 2199023256064 2199023256064)) (bfld (tR 7 (tSplit 2199023256064 2199023256064)).bytes 50 6) = some { kind := 5, mask := 0, count := 0, chunk := 0, stride := 0, table := 0, next := 0, clean := true : SDesc } ∧ ({ kind := 5, mask := 0, count := 0, chunk := 0, stride := 0, table := 0, next := 0, clean := true : SDesc }.clean = false ∨ 3 < { kind := 5, mask := 0, count := 0, chunk := 0, stride := 0, table := 0, next := 0, clean := true : SDesc }.kind ∨ { kind := 5, mask := 0, count := 0, chunk := 0, stride := 0, table := 0, next := 0, clean := true : SDesc }.kind = 2 ∧ { kind := 5, mask := 0, count := 0, chunk := 0, stride := 0, table := 0, next := 0, clean := true : SDesc }.chunk = 0)) := by
  and_intros <;> first | decide +kernel | rfl
/-- States and operands that meet the hypotheses of RunningCommandResults, part 2. -/
theorem wit_RunningCommandResults_2 :
    (State.toAct (tAt1 (tSplit 2199023256064 2199023255808)) 536870912 7 2 = some (tR 7 (tSplit 2199023256064 2199023255808)) ∧ Option.isSome (State.rangeStore (tAt1 (tSplit 2199023256064 2199023255808)) (bfld (tR 7 (tSplit 2199023256064 2199023255808)).bytes 42 8) 64) = true ∧ innerOk (State.readMem (tAt1 (tSplit 2199023256064 2199023255808)) (bfld (tR 7 (tSplit 2199023256064 2199023255808)).bytes 42 8) 64) = true ∧ (tR 7 (tSplit 2199023256064 2199023255808)).share = none ∧ State.sdesc (tAt1 (tSplit 2199023256064 2199023255808)) (bfld (tR 7 (tSplit 2199023256064 2199023255808)).bytes 50 6) = some { kind := 0, mask := 1, count := 0, chunk := 0, stride := 0, table := 0, next := 0, clean := true : SDesc } ∧ { kind := 0, mask := 1, count := 0, chunk := 0, stride := 0, table := 0, next := 0, clean := true : SDesc }.kind = 0 ∧ { kind := 0, mask := 1, count := 0, chunk := 0, stride := 0, table := 0, next := 0, clean := true : SDesc }.mask = 1 ∧ { kind := 0, mask := 1, count := 0, chunk := 0, stride := 0, table := 0, next := 0, clean := true : SDesc }.clean = true ∧ { kind := 0, mask := 1, count := 0, chunk := 0, stride := 0, table := 0, next := 0, clean := true : SDesc }.next = 0 ∧ ridLevel 536870912 = 1 ∧ ridOk 536870912 = true ∧ cmdOp (State.readMem (tAt1 (tSplit 2199023256064 2199023255808)) (bfld (tR 7 (tSplit 2199023256064 2199023255808)).bytes 42 8) 64) = 5 ∧ cmdWu (tR 7 (tSplit 2199023256064 2199023255808)).bytes % 1048576 < 1048575 ∧ (State.reach (tAt1 (tSplit 2199023256064 2199023255808)) (ridUnit 536870912 * 2 ^ 24 + ridCluster 536870912 * 2 ^ 20)).held = [] ∧ List.length (State.reach (tAt1 (tSplit 2199023256064 2199023255808)) (ridUnit 536870912 * 2 ^ 24 + ridCluster 536870912 * 2 ^ 20)).queue < 1024) ∧
    (State.toAct w20_57 0 7 3 = some (tR 7 (tMove 0 3298534883328)) ∧ (tR 7 (tMove 0 3298534883328)).share = none ∧ (State.moveOk w20_57 (if ridIsWeir 0 = true then some (ridUnit 0 - 16) else none) (bfld (tR 7 (tMove 0 3298534883328)).bytes 42 8) (bfld (tR 7 (tMove 0 3298534883328)).bytes 50 8) (bfld (tR 7 (tMove 0 3298534883328)).bytes 58 4) false false = false)) ∧
    (State.toAct w20_58 0 7 3 = some (tR 7 (tMove 0 2199023256576)) ∧ (tR 7 (tMove 0 2199023256576)).share = none ∧ (State.moveOk w20_58 (if ridIsWeir 0 = true then some (ridUnit 0 - 16) else none) (bfld (tR 7 (tMove 0 2199023256576)).bytes 42 8) (bfld (tR 7 (tMove 0 2199023256576)).bytes 50 8) (bfld (tR 7 (tMove 0 2199023256576)).bytes 58 4) false false = true) ∧ (∀ (x : MoveOp), x ∈ w20_58.moves → x.id ≠ w20_58.opNext)) ∧
    (State.toAct w20_61 ridPkg 7 4 = some (tR 7 tSignal) ∧ State.reachHere w20_61 ridPkg = true ∧ (cmdSig (tR 7 tSignal).bytes).valid = true ∧ HSig.encOk (cmdSig (tR 7 tSignal).bytes) = true ∧ (cmdSig (tR 7 tSignal).bytes).remote = false ∧ ridOk (cmdSig (tR 7 tSignal).bytes).reach = true ∧ ridLevel (cmdSig (tR 7 tSignal).bytes).reach < 4 ∧ wuItem (cmdWu (tR 7 tSignal).bytes) = 0 ∧ State.diePath w20_61 (ridDie ridPkg) (ridDie (cmdSig (tR 7 tSignal).bytes).reach) = true ∧ BitVec.toNat (State.tok w20_61 (cmdSig (tR 7 tSignal).bytes).reach (cmdSig (tR 7 tSignal).bytes).idx) + (cmdSig (tR 7 tSignal).bytes).inc ≤ 4294967295) ∧
    (State.toAct w20_62 ridPkg 7 4 = some (tR 7 tSignal) ∧ State.reachHere w20_62 ridPkg = true ∧ (cmdSig (tR 7 tSignal).bytes).valid = true ∧ HSig.encOk (cmdSig (tR 7 tSignal).bytes) = true ∧ (cmdSig (tR 7 tSignal).bytes).remote = false ∧ ridOk (cmdSig (tR 7 tSignal).bytes).reach = true ∧ ridLevel (cmdSig (tR 7 tSignal).bytes).reach < 4 ∧ wuItem (cmdWu (tR 7 tSignal).bytes) = 0 ∧ State.diePath w20_62 (ridDie ridPkg) (ridDie (cmdSig (tR 7 tSignal).bytes).reach) = false) ∧
    (State.toAct w20_63 ridPkg 7 5 = some (tR 7 tWait)) ∧
    (State.toAct w20_66 ridPkg 7 6 = some (tR 7 (tGive 1)) ∧ ridOk (bfld (tR 7 (tGive 1)).bytes 48 4) = false) := by
  and_intros <;> first | decide +kernel | rfl
/-- States and operands that meet the hypotheses of RunningCommandResults, part 3. -/
theorem wit_RunningCommandResults_3 :
    (State.toAct w20_67 ridPkg 7 6 = some (tR 7 (tGive 0)) ∧ ridOk (bfld (tR 7 (tGive 0)).bytes 48 4) = true ∧ ridLevel (bfld (tR 7 (tGive 0)).bytes 48 4) < 4 ∧ bfld (tR 7 (tGive 0)).bytes 52 4 < 2 ^ 31 ∧ wuItem (cmdWu (tR 7 (tGive 0)).bytes) = 0 ∧ State.diePath w20_67 (ridDie ridPkg) (ridDie (bfld (tR 7 (tGive 0)).bytes 48 4)) = true) := by
  and_intros <;> first | decide +kernel | rfl
/-- States and operands that meet the hypotheses of PlacementResults, part 1. -/
theorem wit_PlacementResults_1 :
    (State.toAct (tPl (tPlace 0) tPlaced) ridPkg 7 8 = some (tR 7 (tPlace 0)) ∧ bfld (tR 7 (tPlace 0)).bytes 59 1 = 0 ∧ cmdItem (tR 7 (tPlace 0)).bytes ≠ 0 ∧ (State.plcE (tPl (tPlace 0) tPlaced) (cmdItem (tR 7 (tPlace 0)).bytes)).state ≠ PlcState.free) ∧
    (State.toAct (tPl (tPlace 0) Plc.empty) ridPkg 7 8 = some (tR 7 (tPlace 0)) ∧ bfld (tR 7 (tPlace 0)).bytes 59 1 = 0 ∧ cmdItem (tR 7 (tPlace 0)).bytes ≠ 0 ∧ (State.plcE (tPl (tPlace 0) Plc.empty) (cmdItem (tR 7 (tPlace 0)).bytes)).state = PlcState.free ∧ bfld (tR 7 (tPlace 0)).bytes 58 1 = 0 ∧ bfld (tR 7 (tPlace 0)).bytes 48 4 < 2 ^ 31 ∧ State.isLocal (tPl (tPlace 0) Plc.empty) (State.devId (tPl (tPlace 0) Plc.empty)) = true) ∧
    (State.toAct w20_76 ridPkg 7 8 = some (tR 7 (tPlace 0)) ∧ bfld (tR 7 (tPlace 0)).bytes 59 1 = 0 ∧ cmdItem (tR 7 (tPlace 0)).bytes ≠ 0 ∧ (State.plcE w20_76 (cmdItem (tR 7 (tPlace 0)).bytes)).state = PlcState.free ∧ bfld (tR 7 (tPlace 0)).bytes 58 1 = 0 ∧ bfld (tR 7 (tPlace 0)).bytes 48 4 < 2 ^ 31 ∧ State.isLocal w20_76 (State.devId w20_76) = true) ∧
    (State.toAct (tPl (tPlace 1) Plc.empty) ridPkg 7 8 = some (tR 7 (tPlace 1)) ∧ bfld (tR 7 (tPlace 1)).bytes 59 1 = 1 ∧ cmdItem (tR 7 (tPlace 1)).bytes ≠ 0 ∧ (State.plcE (tPl (tPlace 1) Plc.empty) (cmdItem (tR 7 (tPlace 1)).bytes)).state ≠ PlcState.placed) ∧
    (State.toAct (tPl (tPlace 1) tPlaced) ridPkg 7 8 = some (tR 7 (tPlace 1)) ∧ bfld (tR 7 (tPlace 1)).bytes 59 1 = 1 ∧ cmdItem (tR 7 (tPlace 1)).bytes ≠ 0 ∧ (State.plcE (tPl (tPlace 1) tPlaced) (cmdItem (tR 7 (tPlace 1)).bytes)).state = PlcState.placed ∧ (State.plcE (tPl (tPlace 1) tPlaced) (cmdItem (tR 7 (tPlace 1)).bytes)).home = true ∧ (State.plcE (tPl (tPlace 1) tPlaced) (cmdItem (tR 7 (tPlace 1)).bytes)).cmd = none ∧ bfld (tR 7 (tPlace 1)).bytes 58 1 ≤ 16 ∧ (State.plcE (tPl (tPlace 1) tPlaced) (cmdItem (tR 7 (tPlace 1)).bytes)).dests = [] ∧ State.isLocal (tPl (tPlace 1) tPlaced) (State.plcE (tPl (tPlace 1) tPlaced) (cmdItem (tR 7 (tPlace 1)).bytes)).device = true) ∧
    (List.find? (fun kv => kv.snd.cmd == some 7 && List.contains kv.snd.waiting 5) (tPl (tPlace 0) (tAsk [5, 6] [])).plc = some (4095, tAsk [5, 6] []) ∧ List.filter (fun x => decide (x ≠ 5)) (tAsk [5, 6] []).waiting ≠ []) ∧
    (List.find? (fun kv => kv.snd.cmd == some 7 && List.contains kv.snd.waiting 5) (tPl (tPlace 0) (tAsk [5, 6] [])).plc = some (4095, tAsk [5, 6] []) ∧ List.filter (fun x => decide (x ≠ 5)) (tAsk [5, 6] []).waiting ≠ []) ∧
    (List.find? (fun kv => kv.snd.cmd == some 7 && List.contains kv.snd.waiting 6) (tPl (tPlace 0) (tAsk [6] [5])).plc = some (4095, tAsk [6] [5]) ∧ (tAsk [6] [5]).waiting = [6] ∧ (tAsk [6] [5]).state = PlcState.placed ∧ (tAsk [6] [5]).copyFail = 0 ∧ (tAsk [6] [5]).releasing = false) := by
  and_intros <;> first | decide +kernel | rfl
/-- States and operands that meet the hypotheses of PlacementResults, part 2. -/
theorem wit_PlacementResults_2 :
    (State.isLocal tUp tCopy.home = false ∧ tCopy.state = 1 ∧ (State.plcE tUp tCopy.item).held = []) ∧
    (State.toAct (tPl (tMig 0) Plc.empty) ridPkg 7 7 = some (tR 7 (tMig 0)) ∧ bfld (tR 7 (tMig 0)).bytes 44 1 = 0 ∧ State.migrateCheck (tPl (tMig 0) Plc.empty) (tR 7 (tMig 0)).bytes ≠ 0) ∧
    (State.toAct w20_90 ridPkg 7 7 = some (tR 7 (tMig 0)) ∧ bfld (tR 7 (tMig 0)).bytes 44 1 = 0 ∧ State.migrateCheck w20_90 (tR 7 (tMig 0)).bytes ≠ 0) ∧
    (State.toAct (tPl (tMig 0) tPlaced) ridPkg 7 7 = some (tR 7 (tMig 0)) ∧ bfld (tR 7 (tMig 0)).bytes 44 1 = 0 ∧ State.migrateCheck (tPl (tMig 0) tPlaced) (tR 7 (tMig 0)).bytes = 0) ∧
    (State.toAct (tPl (tMig 1) Plc.empty) ridPkg 7 7 = some (tR 7 (tMig 1)) ∧ bfld (tR 7 (tMig 1)).bytes 44 1 = 1 ∧ State.migrateCheck (tPl (tMig 1) Plc.empty) (tR 7 (tMig 1)).bytes ≠ 0 ∧ (State.plcE (tPl (tMig 1) Plc.empty) (cmdItem (tR 7 (tMig 1)).bytes)).settling = false) ∧
    (State.toAct (tPl (tMig 1) tPlaced) ridPkg 7 7 = some (tR 7 (tMig 1)) ∧ bfld (tR 7 (tMig 1)).bytes 44 1 = 1 ∧ State.migrateCheck (tPl (tMig 1) tPlaced) (tR 7 (tMig 1)).bytes = 0 ∧ (tPl (tMig 1) tPlaced).cells = [] ∧ (tPl (tMig 1) tPlaced).reaches = [(ridPkg, { queue := Reach.empty.queue, held := Reach.empty.held, running := [tR 7 (tMig 1)], tokens := Reach.empty.tokens, poolCnt := Reach.empty.poolCnt, poolCap := Reach.empty.poolCap, blockWait := Reach.empty.blockWait, blockCredit := Reach.empty.blockCredit, defer := Reach.empty.defer : Reach })] ∧ (tR 7 (tMig 1)).id = 7 ∧ List.length (tR 7 (tMig 1)).bytes = 64 ∧ State.isLocal (tPl (tMig 1) tPlaced) (State.plcE (tPl (tMig 1) tPlaced) (cmdItem (tR 7 (tMig 1)).bytes)).device = true ∧ State.isLocal (tPl (tMig 1) tPlaced) (State.devId (tPl (tMig 1) tPlaced)) = true ∧ bfld (tR 7 (tMig 1)).bytes 50 4 < 2 ^ 31 ∧ (State.plcE (tPl (tMig 1) tPlaced) (cmdItem (tR 7 (tMig 1)).bytes)).dests = [] ∧ State.still (tPl (tMig 1) tPlaced) (bfld (tR 7 (tMig 1)).bytes 54 6) 16 = true ∧ (tPl (tMig 1) tPlaced).clash = []) ∧
    ((State.plcE w20_96 4095).state = PlcState.draining ∧ (State.plcE w20_96 4095).home = true ∧ (State.plcE w20_96 4095).cmd = some 7 ∧ (State.plcE w20_96 4095).releasing = false ∧ State.isLocal w20_96 (State.plcE w20_96 4095).oldDevice = true ∧ State.itemBusy w20_96 4095 = true) ∧
    ((State.plcE (tPl (tMig 0) tDraining) 4095).state = PlcState.draining ∧ (State.plcE (tPl (tMig 0) tDraining) 4095).home = true ∧ (State.plcE (tPl (tMig 0) tDraining) 4095).cmd = some 7 ∧ (State.plcE (tPl (tMig 0) tDraining) 4095).releasing = false ∧ State.isLocal (tPl (tMig 0) tDraining) (State.plcE (tPl (tMig 0) tDraining) 4095).oldDevice = true ∧ State.itemBusy (tPl (tMig 0) tDraining) 4095 = false ∧ State.isLocal (tPl (tMig 0) tDraining) (State.plcE (tPl (tMig 0) tDraining) 4095).newDevice = true ∧ (State.plcE (tPl (tMig 0) tDraining) 4095).dests = [] ∧ (State.plcE (tPl (tMig 0) tDraining) 4095).held = [] ∧ (State.plcE (tPl (tMig 0) tDraining) 4095).report = []) := by
  and_intros <;> first | decide +kernel | rfl
/-- States and operands that meet the hypotheses of PlacementResults, part 3. -/
theorem wit_PlacementResults_3 :
    ((State.plcE w20_98 4095).state = PlcState.draining ∧ (State.plcE w20_98 4095).home = false ∧ (State.plcE w20_98 4095).releasing = false ∧ State.isLocal w20_98 (State.plcE w20_98 4095).oldDevice = true ∧ State.itemBusy w20_98 4095 = false) ∧
    ((State.plcE w20_101 4095).state = PlcState.fencing ∧ (State.plcE w20_101 4095).settling = false ∧ (4095 * 2 ^ 20, 0) ∈ (State.plcE w20_101 4095).report ∧ List.find? (fun x => x.fst == 4095 * 2 ^ 20) (State.plcE w20_101 4095).ended = some (4095 * 2 ^ 20, false) ∧ (State.plcE w20_101 4095).waiting ≠ [] ∧ (State.plcE w20_101 4095).home = true ∧ State.still w20_101 (State.plcE w20_101 4095).reportDA (16 + 8 * List.length (State.plcE w20_101 4095).report) = true) ∧
    ((State.plcE w20_102 4095).state = PlcState.fencing ∧ (State.plcE w20_102 4095).settling = false ∧ (4095 * 2 ^ 20, 0) ∈ (State.plcE w20_102 4095).report ∧ List.find? (fun x => x.fst == 4095 * 2 ^ 20) (State.plcE w20_102 4095).ended = some (4095 * 2 ^ 20, true) ∧ (State.plcE w20_102 4095).waiting ≠ [] ∧ (State.plcE w20_102 4095).home = true ∧ State.still w20_102 (State.plcE w20_102 4095).reportDA (16 + 8 * List.length (State.plcE w20_102 4095).report) = true) ∧
    ((State.plcE w20_103 4095).state = PlcState.fencing ∧ (State.plcE w20_103 4095).home = true ∧ State.isLocal w20_103 (State.plcE w20_103 4095).oldDevice = false ∧ (State.plcE w20_103 4095).reported = true ∧ (State.plcE w20_103 4095).waiting ≠ [] ∧ State.still w20_103 (State.plcE w20_103 4095).reportDA (16 + 8 * List.length [(4095 * 2 ^ 20, 2)]) = true) := by
  and_intros <;> first | decide +kernel | rfl
/-- States and operands that meet the hypotheses of RegisterWriteResults, part 1. -/
theorem wit_RegisterWriteResults_1 :
    (0 < 67108864 ∧ State.blockAnswers tUp 0 = true ∧ (64 ≠ 32 ∨ 0 % 4 ≠ 0)) ∧
    (67108862 < 67108864 ∧ State.blockAnswers tUp 67108862 = true ∧ (32 ≠ 32 ∨ 67108862 % 4 ≠ 0)) ∧
    (16777212 < 16777216 ∧ 16777212 % 4 = 0 ∧ State.blockAnswers tUp 16777212 = true ∧ regAt 16777212 = none ∧ quietLog tUp) ∧
    (writable tUp Reg.KEY_RCH_SEL ∧ (Reg.KEY_RCH_SEL, 16777215#32) ∈ [(Reg.KEY_RCH_SEL, 16777215#32), (Reg.KEY_PLC_SEL, 4095#32), (Reg.HQ_Q_SEL, 255#32), (Reg.NRG_LEDGER_SEL, 127#32), (Reg.SEC_AUTH_ADDR_HI, 16383#32), (Reg.LOG_NOTEi 5, 4294967295#32), (Reg.Tt_RCH_SEL 3, 16777215#32), (Reg.BED_LINK_SEL, 7967#32)]) ∧
    (writable tUp Reg.KEY_PLC_SEL ∧ (Reg.KEY_PLC_SEL, 4095#32) ∈ [(Reg.KEY_RCH_SEL, 16777215#32), (Reg.KEY_PLC_SEL, 4095#32), (Reg.HQ_Q_SEL, 255#32), (Reg.NRG_LEDGER_SEL, 127#32), (Reg.SEC_AUTH_ADDR_HI, 16383#32), (Reg.LOG_NOTEi 5, 4294967295#32), (Reg.Tt_RCH_SEL 3, 16777215#32), (Reg.BED_LINK_SEL, 7967#32)]) ∧
    (writable tUp (Reg.LOG_NOTEi 5) ∧ (Reg.LOG_NOTEi 5, 4294967295#32) ∈ [(Reg.KEY_RCH_SEL, 16777215#32), (Reg.KEY_PLC_SEL, 4095#32), (Reg.HQ_Q_SEL, 255#32), (Reg.NRG_LEDGER_SEL, 127#32), (Reg.SEC_AUTH_ADDR_HI, 16383#32), (Reg.LOG_NOTEi 5, 4294967295#32), (Reg.Tt_RCH_SEL 3, 16777215#32), (Reg.BED_LINK_SEL, 7967#32)]) ∧
    (writable tUp Reg.BED_LINK_SEL ∧ (Reg.BED_LINK_SEL, 7967#32) ∈ [(Reg.KEY_RCH_SEL, 16777215#32), (Reg.KEY_PLC_SEL, 4095#32), (Reg.HQ_Q_SEL, 255#32), (Reg.NRG_LEDGER_SEL, 127#32), (Reg.SEC_AUTH_ADDR_HI, 16383#32), (Reg.LOG_NOTEi 5, 4294967295#32), (Reg.Tt_RCH_SEL 3, 16777215#32), (Reg.BED_LINK_SEL, 7967#32)]) ∧
    (State.blockAnswers tUp Reg.KEY_RT_ENTRY = true ∧ State.asleep tUp = false ∧ tUp.log.held = [] ∧ tUp.log.unlogged = 0#32 ∧ (Reg.KEY_RT_ENTRY, 4294967295#32) ∈ [(Reg.KEY_RT_ENTRY, 4294967295#32), (Reg.BED_CAL_ADDR_LO, 4294967232#32), (Reg.Tt_CU_WLOAD_LO 2, 4294967232#32)] ∧ 4294967295#32 &&& ~~~4294967295#32 = 0#32 ∧ State.logFull tUp = false ∧ Origin.host ≠ Origin.autonomous ∧ Origin.host ≠ Origin.serviceButton) ∧
    (State.blockAnswers tUp (Reg.Tt_CU_WLOAD_LO 2) = true ∧ State.asleep tUp = false ∧ tUp.log.held = [] ∧ tUp.log.unlogged = 0#32 ∧ (Reg.Tt_CU_WLOAD_LO 2, 4294967232#32) ∈ [(Reg.KEY_RT_ENTRY, 4294967295#32), (Reg.BED_CAL_ADDR_LO, 4294967232#32), (Reg.Tt_CU_WLOAD_LO 2, 4294967232#32)] ∧ 64#32 &&& ~~~4294967232#32 = 0#32 ∧ State.logFull tUp = false ∧ Origin.factory ≠ Origin.autonomous ∧ Origin.factory ≠ Origin.serviceButton) ∧
    (State.blockAnswers tFull Reg.BED_CAL_ADDR_LO = true ∧ State.asleep tFull = false ∧ tFull.log.held = [] ∧ tFull.log.unlogged = 0#32 ∧ (Reg.BED_CAL_ADDR_LO, 4294967232#32) ∈ [(Reg.KEY_RT_ENTRY, 4294967295#32), (Reg.BED_CAL_ADDR_LO, 4294967232#32), (Reg.Tt_CU_WLOAD_LO 2, 4294967232#32)] ∧ 4294967232#32 &&& ~~~4294967232#32 = 0#32 ∧ State.logFull tFull = true ∧ (Origin.fabric = Origin.host ∨ Origin.fabric = Origin.fabric ∨ Origin.fabric = Origin.debug)) ∧
    (writable (tReg Reg.KEY_LOCK 1#32) Reg.KEY_GROUP_BASE ∧ State.rb (tReg Reg.KEY_LOCK 1#32) Reg.KEY_LOCK 0 = true ∧ 2149580799#32 &&& 2145386496#32 = 0#32) ∧
    (State.blockAnswers (tReg Reg.NRG_PSTATE 8#32) (Reg.Wn_RCH_SEL 7) = true ∧ State.asleep (tReg Reg.NRG_PSTATE 8#32) = true ∧ quietLog (tReg Reg.NRG_PSTATE 8#32) ∧ Reg.Wn_RCH_SEL 7 ∈ [Reg.Tt_RCH_SEL 0, Reg.Wn_RCH_SEL 7, Reg.BED_LINK_SEL, Reg.Sd_PORTp_FAB 9]) ∧
    (State.blockAnswers (tReg Reg.NRG_PSTATE 12#32) (Reg.Sd_PORTp_FAB 9) = true ∧ State.asleep (tReg Reg.NRG_PSTATE 12#32) = true ∧ quietLog (tReg Reg.NRG_PSTATE 12#32) ∧ Reg.Sd_PORTp_FAB 9 ∈ [Reg.Tt_RCH_SEL 0, Reg.Wn_RCH_SEL 7, Reg.BED_LINK_SEL, Reg.Sd_PORTp_FAB 9]) ∧
    (writable (tReg Reg.KEY_PLC_SEL 291#32) Reg.KEY_PLC_SEL ∧ 1#32 &&& 4095#32 ≠ 0#32 ∧ 2748#32 &&& ~~~4095#32 = 0#32) := by
  and_intros <;> first | decide +kernel | rfl
/-- States and operands that meet the hypotheses of RegisterWriteResults, part 2. -/
theorem wit_RegisterWriteResults_2 :
    (writable (tReg Reg.KEY_LOCK 1#32) Reg.KEY_LOCK ∧ BitVec.toNat 8191#32 < 8192 ∧ Origin.host ≠ Origin.autonomous ∧ Origin.host ≠ Origin.serviceButton) := by
  and_intros <;> first | decide +kernel | rfl
/-- States and operands that meet the hypotheses of RegionAndWindowResults, part 1. -/
theorem wit_RegionAndWindowResults_1 :
    (State.blockAnswers (tTrg [(255, tReg0)] none) Reg.KEY_TRG_SEL = true ∧ BitVec.toNat 255#32 < 256 ∧ (tTrg [(255, tReg0)] none).trgCommit = none) ∧
    (State.blockAnswers w22_10 Reg.KEY_TRG_SEL = true ∧ BitVec.toNat 0#32 < 256 ∧ Option.isSome w22_10.trgCommit = true) ∧
    (writable (tTrg [] none) Reg.KEY_TRG_CFG ∧ (tTrg [] none).trgCommit = none ∧ BitVec.toNat (128#32 + 4#32 * 256#32 + 196608#32) < 262144 ∧ Word.bit (128#32 + 4#32 * 256#32 + 196608#32) 16 = true ∧ State.regionCheck (tTrg [] none) (State.rf (tTrg [] none) Reg.KEY_TRG_SEL 0 8) (State.stagedRegion (tTrg [] none) (128#32 + 4#32 * 256#32 + 196608#32)) = 0) ∧
    (writable (tTrg [] none) Reg.KEY_TRG_CFG ∧ (tTrg [] none).trgCommit = none ∧ BitVec.toNat (1#32 + 4#32 * 256#32 + 65536#32) < 262144 ∧ Word.bit (1#32 + 4#32 * 256#32 + 65536#32) 16 = true ∧ State.regionCheck (tTrg [] none) (State.rf (tTrg [] none) Reg.KEY_TRG_SEL 0 8) (State.stagedRegion (tTrg [] none) (1#32 + 4#32 * 256#32 + 65536#32)) ≠ 0) ∧
    (writable (tTrg [(0, tReg0)] none) Reg.KEY_TRG_CFG ∧ (tTrg [(0, tReg0)] none).trgCommit = none ∧ BitVec.toNat (128#32 + 4#32 * 256#32 + 65536#32) < 262144 ∧ Word.bit (128#32 + 4#32 * 256#32 + 65536#32) 16 = true ∧ State.regionCheck (tTrg [(0, tReg0)] none) (State.rf (tTrg [(0, tReg0)] none) Reg.KEY_TRG_SEL 0 8) (State.stagedRegion (tTrg [(0, tReg0)] none) (128#32 + 4#32 * 256#32 + 65536#32)) ≠ 0) ∧
    (writable (tTrg [(255, tReg0)] none) Reg.KEY_TRG_CFG ∧ (tTrg [(255, tReg0)] none).trgCommit = none ∧ BitVec.toNat (128#32 + 4#32 * 256#32) < 262144 ∧ Word.bit (128#32 + 4#32 * 256#32) 16 = false) ∧
    (w22_15.trgCommit = some w22_15b ∧ (w22_15b.init = true → State.still w22_15 w22_15b.region.trl (w22_15b.region.count * 8) = true)) ∧
    (w22_16.trgCommit = some w22_16b ∧ (w22_16b.init = true → State.still w22_16 w22_16b.region.trl (w22_16b.region.count * 8) = true)) ∧
    (State.barTakes tSlack 0 4 = true ∧ State.asleep tSlack = true) ∧
    (State.barTakes tUp 68719476480 8 = true ∧ State.asleep tUp = false ∧ State.hostStore tUp (State.barDA tUp 68719476480) 8 = none) ∧
    (State.barTakes (State.writeMem tLit 4096 [1#8, 2#8, 3#8]) 4096 8 = true ∧ State.asleep (State.writeMem tLit 4096 [1#8, 2#8, 3#8]) = false ∧ Option.isSome (State.hostStore (State.writeMem tLit 4096 [1#8, 2#8, 3#8]) (State.barDA (State.writeMem tLit 4096 [1#8, 2#8, 3#8]) 4096) 8) = true ∧ State.poisonRange (State.writeMem tLit 4096 [1#8, 2#8, 3#8]) (State.barDA (State.writeMem tLit 4096 [1#8, 2#8, 3#8]) 4096) 8 = false ∧ State.calm (State.writeMem tLit 4096 [1#8, 2#8, 3#8]) (State.barDA (State.writeMem tLit 4096 [1#8, 2#8, 3#8]) 4096) 8 = true) ∧
    (State.barTakes tSlack 0 (List.length [1#8, 2#8, 3#8, 4#8]) = true ∧ State.asleep tSlack = true) ∧
    (State.barTakes tUp 68719476480 (List.length [1#8]) = true ∧ State.asleep tUp = false ∧ (false || Option.isNone (State.hostStore tUp (State.barDA tUp 68719476480) (List.length [1#8])) || touchesTiled tUp.trg (State.barDA tUp 68719476480) (List.length [1#8]) || State.touchesKv tUp (State.barDA tUp 68719476480) (List.length [1#8])) = true) ∧
    (State.barTakes tUp 4096 (List.length [1#8]) = true ∧ State.asleep tUp = false ∧ (true || Option.isNone (State.hostStore tUp (State.barDA tUp 4096) (List.length [1#8])) || touchesTiled tUp.trg (State.barDA tUp 4096) (List.length [1#8]) || State.touchesKv tUp (State.barDA tUp 4096) (List.length [1#8])) = true) := by
  and_intros <;> first | decide +kernel | rfl
/-- States and operands that meet the hypotheses of RegionAndWindowResults, part 2. -/
theorem wit_RegionAndWindowResults_2 :
    (State.barTakes (tTrg [(0, tReg0)] none) 32769 (List.length [1#8]) = true ∧ State.asleep (tTrg [(0, tReg0)] none) = false ∧ (true || Option.isNone (State.hostStore (tTrg [(0, tReg0)] none) (State.barDA (tTrg [(0, tReg0)] none) 32769) (List.length [1#8])) || touchesTiled (tTrg [(0, tReg0)] none).trg (State.barDA (tTrg [(0, tReg0)] none) 32769) (List.length [1#8]) || State.touchesKv (tTrg [(0, tReg0)] none) (State.barDA (tTrg [(0, tReg0)] none) 32769) (List.length [1#8])) = true) ∧
    (State.barTakes (State.writeMem tLit 4096 [1#8, 2#8, 3#8]) 4096 (List.length [1#8, 0#8, 255#8]) = true ∧ State.asleep (State.writeMem tLit 4096 [1#8, 2#8, 3#8]) = false ∧ (false || Option.isNone (State.hostStore (State.writeMem tLit 4096 [1#8, 2#8, 3#8]) (State.barDA (State.writeMem tLit 4096 [1#8, 2#8, 3#8]) 4096) (List.length [1#8, 0#8, 255#8])) || touchesTiled (State.writeMem tLit 4096 [1#8, 2#8, 3#8]).trg (State.barDA (State.writeMem tLit 4096 [1#8, 2#8, 3#8]) 4096) (List.length [1#8, 0#8, 255#8]) || State.touchesKv (State.writeMem tLit 4096 [1#8, 2#8, 3#8]) (State.barDA (State.writeMem tLit 4096 [1#8, 2#8, 3#8]) 4096) (List.length [1#8, 0#8, 255#8])) = false ∧ State.still (State.writeMem tLit 4096 [1#8, 2#8, 3#8]) (State.barDA (State.writeMem tLit 4096 [1#8, 2#8, 3#8]) 4096) (List.length [1#8, 0#8, 255#8]) = true) := by
  and_intros <;> first | decide +kernel | rfl
/-- States and operands that meet the hypotheses of MoveCompletionResults. -/
theorem wit_MoveCompletionResults :
    (State.move w22_38 5 = some w22_38b ∧ w22_38b.owner = MOwner.reach 0 9 ∧ w22_38b.todo = [] ∧ w22_38b.left = 0 ∧ State.moveRunning w22_38 w22_38b = true ∧ w22_38.pwr.fatal = false ∧ State.released w22_38 w22_38b.die = true ∧ State.asleep w22_38 = false ∧ w22_38b.len ≠ 0 ∧ w22_38b.status = 0 ∧ State.isLocal w22_38 (gaDev w22_38b.src) = true ∧ State.isLocal w22_38 (gaDev w22_38b.dst) = true ∧ w22_38b.fold = false ∧ State.poisonRange w22_38 (gaDA w22_38b.src) w22_38b.len = false ∧ w22_38.clash = [] ∧ State.plcOk w22_38 w22_38b.workUnit w22_38b.epoch = false) ∧
    (State.move (tMoving (tMv 1099511627776 64 [])) 5 = some (tMv 1099511627776 64 []) ∧ (tMv 1099511627776 64 []).owner = MOwner.reach 0 9 ∧ (tMv 1099511627776 64 []).todo = [] ∧ (tMv 1099511627776 64 []).left = 0 ∧ State.moveRunning (tMoving (tMv 1099511627776 64 [])) (tMv 1099511627776 64 []) = true ∧ (tMoving (tMv 1099511627776 64 [])).pwr.fatal = false ∧ State.released (tMoving (tMv 1099511627776 64 [])) (tMv 1099511627776 64 []).die = true ∧ State.asleep (tMoving (tMv 1099511627776 64 [])) = false ∧ (tMv 1099511627776 64 []).len ≠ 0 ∧ (tMv 1099511627776 64 []).status = 0 ∧ State.isLocal (tMoving (tMv 1099511627776 64 [])) (gaDev (tMv 1099511627776 64 []).src) = true ∧ State.isLocal (tMoving (tMv 1099511627776 64 [])) (gaDev (tMv 1099511627776 64 []).dst) = true ∧ (tMv 1099511627776 64 []).fold = false ∧ State.poisonRange (tMoving (tMv 1099511627776 64 [])) (gaDA (tMv 1099511627776 64 []).src) (tMv 1099511627776 64 []).len = false ∧ (tMoving (tMv 1099511627776 64 [])).clash = [] ∧ State.plcOk (tMoving (tMv 1099511627776 64 [])) (tMv 1099511627776 64 []).workUnit (tMv 1099511627776 64 []).epoch = true ∧ rangeKind (tMv 1099511627776 64 []).regions (gaDA (tMv 1099511627776 64 []).src) (tMv 1099511627776 64 []).len = RKind.untiled ∧ rangeKind (tMv 1099511627776 64 []).regions (gaDA (tMv 1099511627776 64 []).dst) (tMv 1099511627776 64 []).len = RKind.untiled ∧ rangesMeet (gaDA (tMv 1099511627776 64 []).src) (tMv 1099511627776 64 []).len (gaDA (tMv 1099511627776 64 []).dst) (tMv 1099511627776 64 []).len = false ∧ State.calm { pending := (tMoving (tMv 1099511627776 64 [])).pending, freeIdx := (tMoving (tMv 1099511627776 64 [])).freeIdx, opNext := (tMoving (tMv 1099511627776 64 [])).opNext, outbox := (tMoving (tMv 1099511627776 64 [])).outbox, fuses := (tMoving (tMv 1099511627776 64 [])).fuses, ticks := (tMoving (tMv 1099511627776 64 [])).ticks, regs := (tMoving (tMv 1099511627776 64 [])).regs, mem := (tMoving (tMv 1099511627776 64 [])).mem, trg := (tMoving (tMv 1099511627776 64 [])).trg, trgCommit := (tMoving (tMv 1099511627776 64 [])).trgCommit, reaches := (tMoving (tMv 1099511627776 64 [])).reaches, plc := (tMoving (tMv 1099511627776 64 [])).plc, cells := (tMoving (tMv 1099511627776 64 [])).cells, seedBase := (tMoving (tMv 1099511627776 64 [])).seedBase, moves := List.filter (fun x => decide (x.id ≠ 5)) (tMoving (tMv 1099511627776 64 [])).moves, clash := (tMoving (tMv 1099511627776 64 [])).clash, weirs := (tMoving (tMv 1099511627776 64 [])).weirs, slots := (tMoving (tMv 1099511627776 64 [])).slots, slotAct := (tMoving (tMv 1099511627776 64 [])).slotAct, cus := (tMoving (tMv 1099511627776 64 [])).cus, optics := (tMoving (tMv 1099511627776 64 [])).optics, bed := (tMoving (tMv 1099511627776 64 [])).bed, ports := (tMoving (tMv 1099511627776 64 [])).ports, svcs := (tMoving (tMv 1099511627776 64 [])).svcs, fab := (tMoving (tMv 1099511627776 64 [])).fab, hq := (tMoving (tMv 1099511627776 64 [])).hq, nrg := (tMoving (tMv 1099511627776 64 [])).nrg, sec := (tMoving (tMv 1099511627776 64 [])).sec, log := (tMoving (tMv 1099511627776 64 [])).log, store := (tMoving (tMv 1099511627776 64 [])).store, errSeq := (tMoving (tMv 1099511627776 64 [])).errSeq, err := (tMoving (tMv 1099511627776 64 [])).err, test := (tMoving (tMv 1099511627776 64 [])).test, pwr := (tMoving (tMv 1099511627776 64 [])).pwr : State } (gaDA (tMv 1099511627776 64 []).src) (tMv 1099511627776 64 []).len = true ∧ State.still { pending := (tMoving (tMv 1099511627776 64 [])).pending, freeIdx := (tMoving (tMv 1099511627776 64 [])).freeIdx, opNext := (tMoving (tMv 1099511627776 64 [])).opNext, outbox := (tMoving (tMv 1099511627776 64 [])).outbox, fuses := (tMoving (tMv 1099511627776 64 [])).fuses, ticks := (tMoving (tMv 1099511627776 64 [])).ticks, regs := (tMoving (tMv 1099511627776 64 [])).regs, mem := (tMoving (tMv 1099511627776 64 [])).mem, trg := (tMoving (tMv 1099511627776 64 [])).trg, trgCommit := (tMoving (tMv 1099511627776 64 [])).trgCommit, reaches := (tMoving (tMv 1099511627776 64 [])).reaches, plc := (tMoving (tMv 1099511627776 64 [])).plc, cells := (tMoving (tMv 1099511627776 64 [])).cells, seedBase := (tMoving (tMv 1099511627776 64 [])).seedBase, moves := List.filter (fun x => decide (x.id ≠ 5)) (tMoving (tMv 1099511627776 64 [])).moves, clash := (tMoving (tMv 1099511627776 64 [])).clash, weirs := (tMoving (tMv 1099511627776 64 [])).weirs, slots := (tMoving (tMv 1099511627776 64 [])).slots, slotAct := (tMoving (tMv 1099511627776 64 [])).slotAct, cus := (tMoving (tMv 1099511627776 64 [])).cus, optics := (tMoving (tMv 1099511627776 64 [])).optics, bed := (tMoving (tMv 1099511627776 64 [])).bed, ports := (tMoving (tMv 1099511627776 64 [])).ports, svcs := (tMoving (tMv 1099511627776 64 [])).svcs, fab := (tMoving (tMv 1099511627776 64 [])).fab, hq := (tMoving (tMv 1099511627776 64 [])).hq, nrg := (tMoving (tMv 1099511627776 64 [])).nrg, sec := (tMoving (tMv 1099511627776 64 [])).sec, log := (tMoving (tMv 1099511627776 64 [])).log, store := (tMoving (tMv 1099511627776 64 [])).store, errSeq := (tMoving (tMv 1099511627776 64 [])).errSeq, err := (tMoving (tMv 1099511627776 64 [])).err, test := (tMoving (tMv 1099511627776 64 [])).test, pwr := (tMoving (tMv 1099511627776 64 [])).pwr : State } (gaDA (tMv 1099511627776 64 []).dst) (tMv 1099511627776 64 []).len = true) := by
  and_intros <;> first | decide +kernel | rfl
/-- States and operands that meet the hypotheses of WeirQueueAndSlotResults, part 1. -/
theorem wit_WeirQueueAndSlotResults_1 :
    (State.dieUp w23_30 (dieW 3) = true ∧ State.asleep w23_30 = false ∧ List.length (State.weir w23_30 3).running + List.length (State.reach w23_30 (weirRid 3)).running < 16 ∧ (State.weir w23_30 3).queue = tBlk tRequant :: w23_30b ∧ w23_30.slotAct = none ∧ (tBlk tRequant).iss = WIss.cell 0 7 ∧ (∀ (x : WBlk), x ∈ w23_30b → x.id ≠ (tBlk tRequant).id) ∧ (State.reach w23_30 (weirRid 3)).held = [] ∧ slotFree (State.weir w23_30 3) [] (tBlk tRequant) = true ∧ (∀ (c : QCmd), c ∈ (State.reach w23_30 (weirRid 3)).queue → (tBlk tRequant).id < c.id)) ∧
    (State.dieUp w23_31 (dieW 15) = true ∧ State.asleep w23_31 = false ∧ List.length (State.weir w23_31 15).running + List.length (State.reach w23_31 (weirRid 15)).running < 16 ∧ (State.weir w23_31 15).queue = [tBlk tRequant] ∧ w23_31.slotAct = none ∧ (tBlk tRequant).iss = WIss.cell 0 7 ∧ (∀ (x : WBlk), x ∈ [] → x.id ≠ (tBlk tRequant).id) ∧ (State.reach w23_31 (weirRid 15)).held = [] ∧ slotFree (State.weir w23_31 15) [] (tBlk tRequant) = false) ∧
    (State.dieUp w23_32 (dieW 15) = true ∧ State.asleep w23_32 = false ∧ List.length (State.weir w23_32 15).running + List.length (State.reach w23_32 (weirRid 15)).running < 16 ∧ (State.weir w23_32 15).queue = [tBlk tRequant] ∧ w23_32.slotAct = none ∧ (tBlk tRequant).iss = WIss.cell 0 7 ∧ (∀ (x : WBlk), x ∈ [] → x.id ≠ (tBlk tRequant).id) ∧ (State.reach w23_32 (weirRid 15)).held = [] ∧ (∃ c, c ∈ (State.reach w23_32 (weirRid 15)).queue ∧ c.id ≤ (tBlk tRequant).id)) ∧
    (List.find? (fun y => y.blk.id == 9) (State.weir (tWqOver 0) 3).running = some w23_36 ∧ w23_36.done = some 0 ∧ (tWqOver 0).pwr.fatal = false ∧ State.asleep (tWqOver 0) = false ∧ w23_36.blk.iss = WIss.cell 0 7 ∧ State.weirPath (tWqOver 0) (0 / 256) 3 = true ∧ Cell.op (State.cell (tWqOver 0) 0) 7 = some w23_36b ∧ w23_36b.sig.inc = 0) ∧
    (writable (tWeir 3 [] []) Reg.KEY_KV_PART ∧ (tWeir 3 [] []).slotAct = none ∧ (List.any (tWeir 3 [] []).slots fun kv => kv.snd.active) = true) ∧
    (writable tUp Reg.KEY_KV_PART ∧ tUp.slotAct = none ∧ (List.any tUp.slots fun kv => kv.snd.active) = false ∧ tUp.fuses.stackHeight = 16 ∧ 65536 < Word.fld (2147516417#32) 0 16 + Word.fld (2147516417#32) 16 16) ∧
    (writable tUp Reg.KEY_KV_PART ∧ tUp.slotAct = none ∧ (List.any tUp.slots fun kv => kv.snd.active) = false ∧ Word.fld (1610637312#32) 0 16 + Word.fld (1610637312#32) 16 16 ≤ 49152) ∧
    (State.blockAnswers (tWeir 3 [] []) Reg.KEY_SLOT_SEL = true ∧ BitVec.toNat 2#32 < 8) ∧
    (State.blockAnswers (tWeir 3 [] []) Reg.KEY_SLOT_SEL = true ∧ BitVec.toNat 7#32 < 8) ∧
    (writable (tWeir 3 [] []) Reg.KEY_SLOT_CFG ∧ (tWeir 3 [] []).slotAct = none ∧ (tget Slot.free (tWeir 3 [] []).slots (State.rf (tWeir 3 [] []) Reg.KEY_SLOT_SEL 0 3)).active = true) ∧
    (writable w23_43 Reg.KEY_SLOT_CFG ∧ w23_43.slotAct = none ∧ (tget Slot.free w23_43.slots (State.rf w23_43 Reg.KEY_SLOT_SEL 0 3)).active = false ∧ State.createCheck w23_43 (State.rf w23_43 Reg.KEY_SLOT_SEL 0 3) (State.staged w23_43) = 0) ∧
    (writable w23_44 Reg.KEY_SLOT_CFG ∧ w23_44.slotAct = none ∧ (tget Slot.free w23_44.slots (State.rf w23_44 Reg.KEY_SLOT_SEL 0 3)).active = false ∧ State.createCheck w23_44 (State.rf w23_44 Reg.KEY_SLOT_SEL 0 3) (State.staged w23_44) ≠ 0) ∧
    (writable w23_43 Reg.KEY_SLOT_CFG ∧ w23_43.slotAct = none ∧ (tget Slot.free w23_43.slots (State.rf w23_43 Reg.KEY_SLOT_SEL 0 3)).active = false) ∧
    (writable (tWeir 3 [] []) Reg.KEY_SLOT_CFG ∧ (tWeir 3 [] []).slotAct = none ∧ (tget Slot.free (tWeir 3 [] []).slots (State.rf (tWeir 3 [] []) Reg.KEY_SLOT_SEL 0 3)).active = true ∧ policyOk (State.staged (tWeir 3 [] [])).pol0 (State.staged (tWeir 3 [] [])).pol1 = true) := by
  and_intros <;> first | decide +kernel | rfl
/-- States and operands that meet the hypotheses of WeirQueueAndSlotResults, part 2. -/
theorem wit_WeirQueueAndSlotResults_2 :
    (writable (tWeir 3 [] []) Reg.KEY_SLOT_CFG ∧ (tWeir 3 [] []).slotAct = none ∧ (tget Slot.free (tWeir 3 [] []).slots (State.rf (tWeir 3 [] []) Reg.KEY_SLOT_SEL 0 3)).active = true) ∧
    (w23_50.slotAct = some (tAct 1 tSlot) ∧ State.asleep w23_50 = false ∧ (tAct 1 tSlot).applied = [] ∧ (∀ (n : Nat), n < 16 → ∀ (y : WRun), y ∈ (State.weir w23_50 n).running → (wbHasSlot y.blk.bytes && wbSlot y.blk.bytes == (tAct 1 tSlot).slot) = false) ∧ (∃ n, n < 16 ∧ State.dieUp w23_50 (dieW n) = false)) ∧
    (w23_51.slotAct = some (tAct 1 tSlot) ∧ State.asleep w23_51 = false ∧ (tAct 1 tSlot).applied = [] ∧ (∀ (n : Nat), n < 16 → ∀ (y : WRun), y ∈ (State.weir w23_51 n).running → (wbHasSlot y.blk.bytes && wbSlot y.blk.bytes == (tAct 1 tSlot).slot) = false) ∧ (∀ (n : Nat), n < 16 → State.dieUp w23_51 (dieW n) = true) ∧ (tAct 1 tSlot).action = 1) ∧
    (w23_52.slotAct = some w23_52b ∧ State.asleep w23_52 = false ∧ w23_52b.applied = [] ∧ (∀ (n : Nat), n < 16 → ∀ (y : WRun), y ∈ (State.weir w23_52 n).running → (wbHasSlot y.blk.bytes && wbSlot y.blk.bytes == w23_52b.slot) = false) ∧ (∀ (n : Nat), n < 16 → State.dieUp w23_52 (dieW n) = true) ∧ w23_52b.action = 2) ∧
    (w23_53.slotAct = some (tAct 3 tSlot) ∧ State.asleep w23_53 = false ∧ (tAct 3 tSlot).applied = [] ∧ (∀ (n : Nat), n < 16 → ∀ (y : WRun), y ∈ (State.weir w23_53 n).running → (wbHasSlot y.blk.bytes && wbSlot y.blk.bytes == (tAct 3 tSlot).slot) = false) ∧ (∀ (n : Nat), n < 16 → State.dieUp w23_53 (dieW n) = true) ∧ (tAct 3 tSlot).action = 3) := by
  and_intros <;> first | decide +kernel | rfl
/-- States and operands that meet the hypotheses of WeirDataResults, part 1. -/
theorem wit_WeirDataResults_1 :
    (State.plcOk (tStale (tOld (tBlk tAppend))) (tOld (tBlk tAppend)).workUnit (tOld (tBlk tAppend)).epoch = false ∧ State.wbAct (tStale (tOld (tBlk tAppend))) 3 9 1 none = some (tOld (tBlk tAppend))) ∧
    (State.plcOk (tStale (tOld (tBlk tAttend))) (tOld (tBlk tAttend)).workUnit (tOld (tBlk tAttend)).epoch = false ∧ State.wbAct (tStale (tOld (tBlk tAttend))) 3 9 2 none = some (tOld (tBlk tAttend))) ∧
    (State.plcOk (tStale (tOld (tBlk (tBytes 128 [(0, 1, 4)])))) (tOld (tBlk (tBytes 128 [(0, 1, 4)]))).workUnit (tOld (tBlk (tBytes 128 [(0, 1, 4)]))).epoch = false ∧ State.wbAct (tStale (tOld (tBlk (tBytes 128 [(0, 1, 4)])))) 3 9 4 none = some (tOld (tBlk (tBytes 128 [(0, 1, 4)])))) ∧
    (State.wbAct (tRunsB (tBlk tAppend)) 3 9 1 none = some (tBlk tAppend) ∧ State.plcOk (tRunsB (tBlk tAppend)) (tBlk tAppend).workUnit (tBlk tAppend).epoch = true ∧ (tRunsB (tBlk tAppend)).clash = [] ∧ bfld (tBlk tAppend).bytes 28 2 = 1 ∧ List.length (tBlk tAppend).bytes = 640 ∧ weirHolds 3 (aEntry (tBlk tAppend).bytes 0).head ((aEntry (tBlk tAppend).bytes 0).pos / 64) = true ∧ (State.pageAt (tRunsB (tBlk tAppend)) 3 (State.wslot (tRunsB (tBlk tAppend)) 3 (wbSlot (tBlk tAppend).bytes)) (aEntry (tBlk tAppend).bytes 0).head ((aEntry (tBlk tAppend).bytes 0).pos / 64)).frame + Slot.frame (State.wslot (tRunsB (tBlk tAppend)) 3 (wbSlot (tBlk tAppend).bytes)) ≤ (State.pageAt (tRunsB (tBlk tAppend)) 3 (State.wslot (tRunsB (tBlk tAppend)) 3 (wbSlot (tBlk tAppend).bytes)) (aEntry (tBlk tAppend).bytes 0).head ((aEntry (tBlk tAppend).bytes 0).pos / 64)).sblk ∧ (State.pageAt (tRunsB (tBlk tAppend)) 3 (State.wslot (tRunsB (tBlk tAppend)) 3 (wbSlot (tBlk tAppend).bytes)) (aEntry (tBlk tAppend).bytes 0).head ((aEntry (tBlk tAppend).bytes 0).pos / 64)).sblk + 2048 ≤ (State.pageAt (tRunsB (tBlk tAppend)) 3 (State.wslot (tRunsB (tBlk tAppend)) 3 (wbSlot (tBlk tAppend).bytes)) (aEntry (tBlk tAppend).bytes 0).head ((aEntry (tBlk tAppend).bytes 0).pos / 64)).strl ∧ State.poisonRange (tRunsB (tBlk tAppend)) (State.pageAt (tRunsB (tBlk tAppend)) 3 (State.wslot (tRunsB (tBlk tAppend)) 3 (wbSlot (tBlk tAppend).bytes)) (aEntry (tBlk tAppend).bytes 0).head ((aEntry (tBlk tAppend).bytes 0).pos / 64)).frame (Slot.frame (State.wslot (tRunsB (tBlk tAppend)) 3 (wbSlot (tBlk tAppend).bytes))) = false ∧ State.poisonRange (tRunsB (tBlk tAppend)) (State.pageAt (tRunsB (tBlk tAppend)) 3 (State.wslot (tRunsB (tBlk tAppend)) 3 (wbSlot (tBlk tAppend).bytes)) (aEntry (tBlk tAppend).bytes 0).head ((aEntry (tBlk tAppend).bytes 0).pos / 64)).sblk 2048 = false) ∧
    (State.wbAct (tRunsB (tBlk tAttend)) 3 9 2 none = some (tBlk tAttend) ∧ State.plcOk (tRunsB (tBlk tAttend)) (tBlk tAttend).workUnit (tBlk tAttend).epoch = true ∧ (tRunsB (tBlk tAttend)).clash = [] ∧ (∀ (g : Nat), g < Slot.kvh (State.wslot (tRunsB (tBlk tAttend)) 3 (wbSlot (tBlk tAttend).bytes)) → State.ownedPages (tRunsB (tBlk tAttend)) 3 (State.wslot (tRunsB (tBlk tAttend)) 3 (wbSlot (tBlk tAttend).bytes)) (bfld (tBlk tAttend).bytes 32 1 * Slot.kvh (State.wslot (tRunsB (tBlk tAttend)) 3 (wbSlot (tBlk tAttend).bytes)) + g) (bfld (tBlk tAttend).bytes 28 4) = []) ∧ (State.still (State.wbEnd (tRunsB (tBlk tAttend)) 3 9) (wbResult 3 (tBlk tAttend).bytes) (List.length (toBytesLE 1 (wbSlot (tBlk tAttend).bytes) ++ toBytesLE 1 3 ++ toBytesLE 2 (State.wslot (tRunsB (tBlk tAttend)) 3 (wbSlot (tBlk tAttend).bytes)).epoch ++ zeros 20 ++ toBytesLE 1 (Bool.toNat (bfld (tBlk tAttend).bytes 33 1 % 2 == 1 || decide (bfld (tBlk tAttend).bytes 28 4 < Word.fld (if (bfld (tBlk tAttend).bytes 33 1 / 2 % 2 == 1) = true then BitVec.ofNat 32 (bfld (tBlk tAttend).bytes 44 4) else (State.wslot (tRunsB (tBlk tAttend)) 3 (wbSlot (tBlk tAttend).bytes)).pol1) 23 9 * 16384)) + 4 * Bool.toNat (bfld (tBlk tAttend).bytes 33 1 / 2 % 2 == 1)) ++ toBytesLE 1 (Slot.qheads (State.wslot (tRunsB (tBlk tAttend)) 3 (wbSlot (tBlk tAttend).bytes))) ++ zeros 6 ++ List.flatten (List.replicate (Slot.qheads (State.wslot (tRunsB (tBlk tAttend)) 3 (wbSlot (tBlk tAttend).bytes))) (toBytesLE 4 4286578688 ++ zeros 516)))) = true)) ∧
    (State.wbAct (State.writeMem (tRunsB (tBlk tFold)) 206191984640 [255#8, 255#8, 255#8, 255#8]) 3 9 3 none = some (tBlk tFold) ∧ State.plcOk (State.writeMem (tRunsB (tBlk tFold)) 206191984640 [255#8, 255#8, 255#8, 255#8]) (tBlk tFold).workUnit (tBlk tFold).epoch = true ∧ (State.writeMem (tRunsB (tBlk tFold)) 206191984640 [255#8, 255#8, 255#8, 255#8]).clash = [] ∧ bfld (tBlk tFold).bytes 40 4 % 32 = 0 ∧ rangeKind (State.wbRegions (State.writeMem (tRunsB (tBlk tFold)) 206191984640 [255#8, 255#8, 255#8, 255#8]) 3 9) (bfld (tBlk tFold).bytes 32 8) (bfld (tBlk tFold).bytes 40 4) = RKind.untiled ∧ rangeKind (State.wbRegions (State.writeMem (tRunsB (tBlk tFold)) 206191984640 [255#8, 255#8, 255#8, 255#8]) 3 9) (bfld (tBlk tFold).bytes 16 8) (bfld (tBlk tFold).bytes 40 4) = RKind.untiled ∧ rangesMeet (bfld (tBlk tFold).bytes 32 8) (bfld (tBlk tFold).bytes 40 4) (bfld (tBlk tFold).bytes 16 8) (bfld (tBlk tFold).bytes 40 4) = false ∧ State.calm (State.wbEnd (State.writeMem (tRunsB (tBlk tFold)) 206191984640 [255#8, 255#8, 255#8, 255#8]) 3 9) (bfld (tBlk tFold).bytes 32 8) (bfld (tBlk tFold).bytes 40 4) = true ∧ State.still (State.wbEnd (State.writeMem (tRunsB (tBlk tFold)) 206191984640 [255#8, 255#8, 255#8, 255#8]) 3 9) (bfld (tBlk tFold).bytes 16 8) (bfld (tBlk tFold).bytes 40 4) = true ∧ State.poisonRange (State.writeMem (tRunsB (tBlk tFold)) 206191984640 [255#8, 255#8, 255#8, 255#8]) (bfld (tBlk tFold).bytes 32 8) (bfld (tBlk tFold).bytes 40 4) = false ∧ State.poisonRange (State.writeMem (tRunsB (tBlk tFold)) 206191984640 [255#8, 255#8, 255#8, 255#8]) (bfld (tBlk tFold).bytes 16 8) (bfld (tBlk tFold).bytes 40 4) = false) := by
  and_intros <;> first | decide +kernel | rfl
/-- States and operands that meet the hypotheses of WeirDataResults, part 2. -/
theorem wit_WeirDataResults_2 :
    (State.wbAct (State.writeMem (tRunsB (tBlk tGather)) 206208761856 [1#8, 2#8, 3#8]) 3 9 4 none = some (tBlk tGather) ∧ State.plcOk (State.writeMem (tRunsB (tBlk tGather)) 206208761856 [1#8, 2#8, 3#8]) (tBlk tGather).workUnit (tBlk tGather).epoch = true ∧ (State.writeMem (tRunsB (tBlk tGather)) 206208761856 [1#8, 2#8, 3#8]).clash = [] ∧ bfld (tBlk tGather).bytes 28 1 % 2 = 0 ∧ (∀ (i : Nat), i < bfld (tBlk tGather).bytes 48 4 → bfld (tBlk tGather).bytes (64 + 4 * i) 4 < bfld (tBlk tGather).bytes 44 4) ∧ State.poisonRange (State.writeMem (tRunsB (tBlk tGather)) 206208761856 [1#8, 2#8, 3#8]) (bfld (tBlk tGather).bytes 32 8) (bfld (tBlk tGather).bytes 44 4 * bfld (tBlk tGather).bytes 40 4) = false ∧ rangesMeet (bfld (tBlk tGather).bytes 32 8) (bfld (tBlk tGather).bytes 44 4 * bfld (tBlk tGather).bytes 40 4) (wbResult 3 (tBlk tGather).bytes) (bfld (tBlk tGather).bytes 48 4 * bfld (tBlk tGather).bytes 40 4) = false ∧ (State.writeMem (tRunsB (tBlk tGather)) 206208761856 [1#8, 2#8, 3#8]).mem.bad = [] ∧ rangeKind (State.wbRegions (State.writeMem (tRunsB (tBlk tGather)) 206208761856 [1#8, 2#8, 3#8]) 3 9) (bfld (tBlk tGather).bytes 32 8) (bfld (tBlk tGather).bytes 44 4 * bfld (tBlk tGather).bytes 40 4) = RKind.untiled ∧ rangeKind (State.wbRegions (State.writeMem (tRunsB (tBlk tGather)) 206208761856 [1#8, 2#8, 3#8]) 3 9) (wbResult 3 (tBlk tGather).bytes) (bfld (tBlk tGather).bytes 48 4 * bfld (tBlk tGather).bytes 40 4) = RKind.untiled ∧ State.calm (State.wbEnd (State.writeMem (tRunsB (tBlk tGather)) 206208761856 [1#8, 2#8, 3#8]) 3 9) (bfld (tBlk tGather).bytes 32 8) (bfld (tBlk tGather).bytes 44 4 * bfld (tBlk tGather).bytes 40 4) = true ∧ State.still (State.wbEnd (State.writeMem (tRunsB (tBlk tGather)) 206208761856 [1#8, 2#8, 3#8]) 3 9) (wbResult 3 (tBlk tGather).bytes) (bfld (tBlk tGather).bytes 48 4 * bfld (tBlk tGather).bytes 40 4) = true) ∧
    (regionIn w23_69b.trg w23_69.dest 8192 = some tReg3 ∧ State.rangeStore w23_69b w23_69.dest 8192 = some 3 ∧ (w23_69.dest - tReg3.base) % Region.slot tReg3 = 0 ∧ State.touchesKv w23_69b w23_69.dest 8192 = false ∧ State.dieUp w23_69b (dieW 3) = true ∧ State.asleep w23_69b = false ∧ 8192 ≤ Region.slot tReg3 ∧ State.plcOk w23_69b w23_69.workUnit w23_69.epoch = false) := by
  and_intros <;> first | decide +kernel | rfl
/-- States and operands that meet the hypotheses of WeirDataResults, part 3. -/
theorem wit_WeirDataResults_3 :
    (regionIn w23_70.trg tFoldIn.dest 8192 = some tReg3 ∧ State.rangeStore w23_70 tFoldIn.dest 8192 = some 3 ∧ (tFoldIn.dest - tReg3.base) % Region.slot tReg3 = 0 ∧ State.touchesKv w23_70 tFoldIn.dest 8192 = false ∧ State.dieUp w23_70 (dieW 3) = true ∧ State.asleep w23_70 = false ∧ 8192 ≤ Region.slot tReg3 ∧ State.plcOk w23_70 tFoldIn.workUnit tFoldIn.epoch = true ∧ Trailer.valid (State.trailer w23_70 (Region.trailerDA tReg3 tFoldIn.dest)) = false ∧ tFoldIn.bad = false ∧ tFoldIn.fmt = foldFmt tFoldIn.bf16 ∧ State.poisonRange w23_70 tFoldIn.dest 8192 = false ∧ State.still w23_70 tFoldIn.dest 8192 = true ∧ State.still w23_70 (Region.trailerDA tReg3 tFoldIn.dest) 8 = true ∧ rangesMeet tFoldIn.dest (List.length (foldBytes tFoldIn.bf16 (zeros 8192) (padTo 8192 tFoldIn.data))) (Region.trailerDA tReg3 tFoldIn.dest) 8 = false) := by
  and_intros <;> first | decide +kernel | rfl
/-- States and operands that meet the hypotheses of WeirPageResults, part 1. -/
theorem wit_WeirPageResults_1 :
    (State.plcOk (tStale (tOld (tBlk tRequant))) (tOld (tBlk tRequant)).workUnit (tOld (tBlk tRequant)).epoch = false ∧ State.wbAct (tStale (tOld (tBlk tRequant))) 3 9 5 none = some (tOld (tBlk tRequant))) ∧
    (State.plcOk (tStale (tOld (tBlk (tEvict 0 5)))) (tOld (tBlk (tEvict 0 5))).workUnit (tOld (tBlk (tEvict 0 5))).epoch = false ∧ State.wbAct (tStale (tOld (tBlk (tEvict 0 5)))) 3 9 6 (some 0) = some (tOld (tBlk (tEvict 0 5)))) ∧
    (State.plcOk (tStale (tOld (tBlk (tEvict 1 0)))) (tOld (tBlk (tEvict 1 0))).workUnit (tOld (tBlk (tEvict 1 0))).epoch = false ∧ State.wbAct (tStale (tOld (tBlk (tEvict 1 0)))) 3 9 6 (some 1) = some (tOld (tBlk (tEvict 1 0)))) ∧
    (State.plcOk (tStale (tOld (tBlk (tEvict 2 0)))) (tOld (tBlk (tEvict 2 0))).workUnit (tOld (tBlk (tEvict 2 0))).epoch = false ∧ State.wbAct (tStale (tOld (tBlk (tEvict 2 0)))) 3 9 6 (some 2) = some (tOld (tBlk (tEvict 2 0)))) ∧
    (State.plcOk (tStale (tOld (tBlk (tEvict 3 0)))) (tOld (tBlk (tEvict 3 0))).workUnit (tOld (tBlk (tEvict 3 0))).epoch = false ∧ State.wbAct (tStale (tOld (tBlk (tEvict 3 0)))) 3 9 6 (some 3) = some (tOld (tBlk (tEvict 3 0)))) ∧
    (State.plcOk (tStale (tOld (tBlk (tResum 0)))) (tOld (tBlk (tResum 0))).workUnit (tOld (tBlk (tResum 0))).epoch = false ∧ State.wbAct (tStale (tOld (tBlk (tResum 0)))) 3 9 7 (some 0) = some (tOld (tBlk (tResum 0)))) := by
  and_intros <;> first | decide +kernel | rfl
/-- States and operands that meet the hypotheses of WeirPageResults, part 2. -/
theorem wit_WeirPageResults_2 :
    (State.plcOk (tStale (tOld (tBlk (tResum 1)))) (tOld (tBlk (tResum 1))).workUnit (tOld (tBlk (tResum 1))).epoch = false ∧ State.wbAct (tStale (tOld (tBlk (tResum 1)))) 3 9 7 (some 1) = some (tOld (tBlk (tResum 1)))) ∧
    (State.plcOk (tRunsB (tBlk (tEvict 3 0))) (tBlk (tEvict 3 0)).workUnit (tBlk (tEvict 3 0)).epoch = true ∧ (tRunsB (tBlk (tEvict 3 0))).clash = [] ∧ State.wbAct (tRunsB (tBlk (tEvict 3 0))) 3 9 6 (some 3) = some (tBlk (tEvict 3 0))) ∧
    (State.plcOk (tPage 9 4 (tRunsB (tBlk (tEvict 1 0)))) (tBlk (tEvict 1 0)).workUnit (tBlk (tEvict 1 0)).epoch = true ∧ (tPage 9 4 (tRunsB (tBlk (tEvict 1 0)))).clash = [] ∧ wbPages 3 (tBlk (tEvict 1 0)).bytes = [(0, 3)] ∧ (State.wbAct (tPage 9 4 (tRunsB (tBlk (tEvict 1 0)))) 3 9 6 (some (if true = true then 1 else 2)) = some (tBlk (tEvict 1 0))) ∧ State.blkOk (tPage 9 4 (tRunsB (tBlk (tEvict 1 0)))) (PageAt.blk (State.pageAt (tPage 9 4 (tRunsB (tBlk (tEvict 1 0)))) 3 (State.wslot (tPage 9 4 (tRunsB (tBlk (tEvict 1 0)))) 3 (wbSlot (tBlk (tEvict 1 0)).bytes)) 0 3) 5) 32 (PageAt.trl (State.pageAt (tPage 9 4 (tRunsB (tBlk (tEvict 1 0)))) 3 (State.wslot (tPage 9 4 (tRunsB (tBlk (tEvict 1 0)))) 3 (wbSlot (tBlk (tEvict 1 0)).bytes)) 0 3) 5) = true ∧ State.poisonRange (tPage 9 4 (tRunsB (tBlk (tEvict 1 0)))) (PageAt.blk (State.pageAt (tPage 9 4 (tRunsB (tBlk (tEvict 1 0)))) 3 (State.wslot (tPage 9 4 (tRunsB (tBlk (tEvict 1 0)))) 3 (wbSlot (tBlk (tEvict 1 0)).bytes)) 0 3) 5) 32 = false) ∧
    (State.plcOk (tPage 9 4 (tRunsB (tBlk (tEvict 2 0)))) (tBlk (tEvict 2 0)).workUnit (tBlk (tEvict 2 0)).epoch = true ∧ (tPage 9 4 (tRunsB (tBlk (tEvict 2 0)))).clash = [] ∧ wbPages 3 (tBlk (tEvict 2 0)).bytes = [(0, 3)] ∧ (State.wbAct (tPage 9 4 (tRunsB (tBlk (tEvict 2 0)))) 3 9 6 (some (if false = true then 1 else 2)) = some (tBlk (tEvict 2 0))) ∧ State.blkOk (tPage 9 4 (tRunsB (tBlk (tEvict 2 0)))) (PageAt.blk (State.pageAt (tPage 9 4 (tRunsB (tBlk (tEvict 2 0)))) 3 (State.wslot (tPage 9 4 (tRunsB (tBlk (tEvict 2 0)))) 3 (wbSlot (tBlk (tEvict 2 0)).bytes)) 0 3) 5) 32 (PageAt.trl (State.pageAt (tPage 9 4 (tRunsB (tBlk (tEvict 2 0)))) 3 (State.wslot (tPage 9 4 (tRunsB (tBlk (tEvict 2 0)))) 3 (wbSlot (tBlk (tEvict 2 0)).bytes)) 0 3) 5) = true ∧ State.poisonRange (tPage 9 4 (tRunsB (tBlk (tEvict 2 0)))) (PageAt.blk (State.pageAt (tPage 9 4 (tRunsB (tBlk (tEvict 2 0)))) 3 (State.wslot (tPage 9 4 (tRunsB (tBlk (tEvict 2 0)))) 3 (wbSlot (tBlk (tEvict 2 0)).bytes)) 0 3) 5) 32 = false) := by
  and_intros <;> first | with_reducible exact tBlk1 | with_reducible exact tBlk2 | decide +kernel | rfl
/-- States and operands that meet the hypotheses of WeirPageResults, part 3. -/
theorem wit_WeirPageResults_3 :
    (State.plcOk (tPage 9 4 (tRunsB (tBlk tRequant))) (tBlk tRequant).workUnit (tBlk tRequant).epoch = true ∧ (tPage 9 4 (tRunsB (tBlk tRequant))).clash = [] ∧ wbPages 3 (tBlk tRequant).bytes = [(0, 3)] ∧ State.wbAct (tPage 9 4 (tRunsB (tBlk tRequant))) 3 9 5 none = some (tBlk tRequant) ∧ State.blkOk (tPage 9 4 (tRunsB (tBlk tRequant))) (PageAt.blk (State.pageAt (tPage 9 4 (tRunsB (tBlk tRequant))) 3 (State.wslot (tPage 9 4 (tRunsB (tBlk tRequant))) 3 (wbSlot (tBlk tRequant).bytes)) 0 3) 5) 32 (PageAt.trl (State.pageAt (tPage 9 4 (tRunsB (tBlk tRequant))) 3 (State.wslot (tPage 9 4 (tRunsB (tBlk tRequant))) 3 (wbSlot (tBlk tRequant).bytes)) 0 3) 5) = true ∧ ((State.phdr (tPage 9 4 (tRunsB (tBlk tRequant))) (State.pageAt (tPage 9 4 (tRunsB (tBlk tRequant))) 3 (State.wslot (tPage 9 4 (tRunsB (tBlk tRequant))) 3 (wbSlot (tBlk tRequant).bytes)) 0 3)).present ≠ 2 ^ 64 - 1 ∨ (State.phdr (tPage 9 4 (tRunsB (tBlk tRequant))) (State.pageAt (tPage 9 4 (tRunsB (tBlk tRequant))) 3 (State.wslot (tPage 9 4 (tRunsB (tBlk tRequant))) 3 (wbSlot (tBlk tRequant).bytes)) 0 3)).fmt ≠ 4)) ∧
    (State.plcOk (tFullPage (tRunsB (tBlk tRequant))) (tBlk tRequant).workUnit (tBlk tRequant).epoch = true ∧ (tFullPage (tRunsB (tBlk tRequant))).clash = [] ∧ wbPages 3 (tBlk tRequant).bytes = [(0, 3)] ∧ State.wbAct (tFullPage (tRunsB (tBlk tRequant))) 3 9 5 none = some (tBlk tRequant) ∧ Slot.mx (State.wslot (tFullPage (tRunsB (tBlk tRequant))) 3 (wbSlot (tBlk tRequant).bytes)) = false ∧ (State.phdr (tFullPage (tRunsB (tBlk tRequant))) (State.pageAt (tFullPage (tRunsB (tBlk tRequant))) 3 (State.wslot (tFullPage (tRunsB (tBlk tRequant))) 3 (wbSlot (tBlk tRequant).bytes)) 0 3)).present = 2 ^ 64 - 1 ∧ (State.phdr (tFullPage (tRunsB (tBlk tRequant))) (State.pageAt (tFullPage (tRunsB (tBlk tRequant))) 3 (State.wslot (tFullPage (tRunsB (tBlk tRequant))) 3 (wbSlot (tBlk tRequant).bytes)) 0 3)).fmt = 4 ∧ State.pageBad (tFullPage (tRunsB (tBlk tRequant))) { p := 3, at_ := State.pageAt (tFullPage (tRunsB (tBlk tRequant))) 3 (State.wslot (tFullPage (tRunsB (tBlk tRequant))) 3 (wbSlot (tBlk tRequant).bytes)) 0 3, hdr := State.phdr (tFullPage (tRunsB (tBlk tRequant))) (State.pageAt (tFullPage (tRunsB (tBlk tRequant))) 3 (State.wslot (tFullPage (tRunsB (tBlk tRequant))) 3 (wbSlot (tBlk tRequant).bytes)) 0 3) : PageRef } = 0) ∧
    (State.plcOk (tSkPage (tRunsB (tBlk (tResum 0)))) (tBlk (tResum 0)).workUnit (tBlk (tResum 0)).epoch = true ∧ (tSkPage (tRunsB (tBlk (tResum 0)))).clash = [] ∧ wbPages 3 (tBlk (tResum 0)).bytes = [(0, 3)] ∧ State.wbAct (tSkPage (tRunsB (tBlk (tResum 0)))) 3 9 7 (some 0) = some (tBlk (tResum 0)) ∧ State.blkOk (tSkPage (tRunsB (tBlk (tResum 0)))) (PageAt.blk (State.pageAt (tSkPage (tRunsB (tBlk (tResum 0)))) 3 (State.wslot (tSkPage (tRunsB (tBlk (tResum 0)))) 3 (wbSlot (tBlk (tResum 0)).bytes)) 0 3) 5) 32 (PageAt.trl (State.pageAt (tSkPage (tRunsB (tBlk (tResum 0)))) 3 (State.wslot (tSkPage (tRunsB (tBlk (tResum 0)))) 3 (wbSlot (tBlk (tResum 0)).bytes)) 0 3) 5) = true ∧ State.blkOk (tSkPage (tRunsB (tBlk (tResum 0)))) (PageAt.blk (State.pageAt (tSkPage (tRunsB (tBlk (tResum 0)))) 3 (State.wslot (tSkPage (tRunsB (tBlk (tResum 0)))) 3 (wbSlot (tBlk (tResum 0)).bytes)) 0 3) 4) 2048 (PageAt.trl (State.pageAt (tSkPage (tRunsB (tBlk (tResum 0)))) 3 (State.wslot (tSkPage (tRunsB (tBlk (tResum 0)))) 3 (wbSlot (tBlk (tResum 0)).bytes)) 0 3) 4) = true ∧ State.blkOk (tSkPage (tRunsB (tBlk (tResum 0)))) (State.pageAt (tSkPage (tRunsB (tBlk (tResum 0)))) 3 (State.wslot (tSkPage (tRunsB (tBlk (tResum 0)))) 3 (wbSlot (tBlk (tResum 0)).bytes)) 0 3).sblk 2048 (State.pageAt (tSkPage (tRunsB (tBlk (tResum 0)))) 3 (State.wslot (tSkPage (tRunsB (tBlk (tResum 0)))) 3 (wbSlot (tBlk (tResum 0)).bytes)) 0 3).strl = true ∧ State.poisonRange (tSkPage (tRunsB (tBlk (tResum 0)))) (State.pageAt (tSkPage (tRunsB (tBlk (tResum 0)))) 3 (State.wslot (tSkPage (tRunsB (tBlk (tResum 0)))) 3 (wbSlot (tBlk (tResum 0)).bytes)) 0 3).sblk 2048 = false ∧ (State.pageAt (tSkPage (tRunsB (tBlk (tResum 0)))) 3 (State.wslot (tSkPage (tRunsB (tBlk (tResum 0)))) 3 (wbSlot (tBlk (tResum 0)).bytes)) 0 3).sblk + 2048 ≤ (State.pageAt (tSkPage (tRunsB (tBlk (tResum 0)))) 3 (State.wslot (tSkPage (tRunsB (tBlk (tResum 0)))) 3 (wbSlot (tBlk (tResum 0)).bytes)) 0 3).strl) := by
  and_intros <;> first | with_reducible exact tBad | with_reducible exact tBlk3 | with_reducible exact tBlk5 | with_reducible exact tBlk6 | with_reducible exact tBlk7 | decide +kernel | rfl
/-- States and operands that meet the hypotheses of WeirPageResults, part 4. -/
theorem wit_WeirPageResults_4 :
    (State.plcOk (tPage 9 4 (tRunsB (tBlk (tResum 1)))) (tBlk (tResum 1)).workUnit (tBlk (tResum 1)).epoch = true ∧ (tPage 9 4 (tRunsB (tBlk (tResum 1)))).clash = [] ∧ wbPages 3 (tBlk (tResum 1)).bytes = [(0, 3)] ∧ State.wbAct (tPage 9 4 (tRunsB (tBlk (tResum 1)))) 3 9 7 (some 1) = some (tBlk (tResum 1)) ∧ List.length (tBlk (tResum 1)).bytes = 2112 ∧ (State.pageAt (tPage 9 4 (tRunsB (tBlk (tResum 1)))) 3 (State.wslot (tPage 9 4 (tRunsB (tBlk (tResum 1)))) 3 (wbSlot (tBlk (tResum 1)).bytes)) 0 3).frame + Slot.frame (State.wslot (tPage 9 4 (tRunsB (tBlk (tResum 1)))) 3 (wbSlot (tBlk (tResum 1)).bytes)) ≤ (State.pageAt (tPage 9 4 (tRunsB (tBlk (tResum 1)))) 3 (State.wslot (tPage 9 4 (tRunsB (tBlk (tResum 1)))) 3 (wbSlot (tBlk (tResum 1)).bytes)) 0 3).sblk ∧ (State.pageAt (tPage 9 4 (tRunsB (tBlk (tResum 1)))) 3 (State.wslot (tPage 9 4 (tRunsB (tBlk (tResum 1)))) 3 (wbSlot (tBlk (tResum 1)).bytes)) 0 3).sblk + 2048 ≤ (State.pageAt (tPage 9 4 (tRunsB (tBlk (tResum 1)))) 3 (State.wslot (tPage 9 4 (tRunsB (tBlk (tResum 1)))) 3 (wbSlot (tBlk (tResum 1)).bytes)) 0 3).strl ∧ State.poisonRange (tPage 9 4 (tRunsB (tBlk (tResum 1)))) (State.pageAt (tPage 9 4 (tRunsB (tBlk (tResum 1)))) 3 (State.wslot (tPage 9 4 (tRunsB (tBlk (tResum 1)))) 3 (wbSlot (tBlk (tResum 1)).bytes)) 0 3).sblk 2048 = false) ∧
    (State.plcOk (tPage 9 4 (tRunsB (tBlk (tEvict 0 193)))) (tBlk (tEvict 0 193)).workUnit (tBlk (tEvict 0 193)).epoch = true ∧ (tPage 9 4 (tRunsB (tBlk (tEvict 0 193)))).clash = [] ∧ State.wbAct (tPage 9 4 (tRunsB (tBlk (tEvict 0 193)))) 3 9 6 (some 0) = some (tBlk (tEvict 0 193)) ∧ heldPages 3 (State.wslot (tPage 9 4 (tRunsB (tBlk (tEvict 0 193)))) 3 (wbSlot (tBlk (tEvict 0 193)).bytes)) = [(0, 3)] ∧ State.blkOk (tPage 9 4 (tRunsB (tBlk (tEvict 0 193)))) (PageAt.blk (State.pageAt (tPage 9 4 (tRunsB (tBlk (tEvict 0 193)))) 3 (State.wslot (tPage 9 4 (tRunsB (tBlk (tEvict 0 193)))) 3 (wbSlot (tBlk (tEvict 0 193)).bytes)) 0 3) 5) 32 (PageAt.trl (State.pageAt (tPage 9 4 (tRunsB (tBlk (tEvict 0 193)))) 3 (State.wslot (tPage 9 4 (tRunsB (tBlk (tEvict 0 193)))) 3 (wbSlot (tBlk (tEvict 0 193)).bytes)) 0 3) 5) = true ∧ State.poisonRange (tPage 9 4 (tRunsB (tBlk (tEvict 0 193)))) (State.pageAt (tPage 9 4 (tRunsB (tBlk (tEvict 0 193)))) 3 (State.wslot (tPage 9 4 (tRunsB (tBlk (tEvict 0 193)))) 3 (wbSlot (tBlk (tEvict 0 193)).bytes)) 0 3).frame (Slot.frame (State.wslot (tPage 9 4 (tRunsB (tBlk (tEvict 0 193)))) 3 (wbSlot (tBlk (tEvict 0 193)).bytes))) = false ∧ State.poisonRange (tPage 9 4 (tRunsB (tBlk (tEvict 0 193)))) (State.pageAt (tPage 9 4 (tRunsB (tBlk (tEvict 0 193)))) 3 (State.wslot (tPage 9 4 (tRunsB (tBlk (tEvict 0 193)))) 3 (wbSlot (tBlk (tEvict 0 193)).bytes)) 0 3).sblk 2048 = false ∧ (State.pageAt (tPage 9 4 (tRunsB (tBlk (tEvict 0 193)))) 3 (State.wslot (tPage 9 4 (tRunsB (tBlk (tEvict 0 193)))) 3 (wbSlot (tBlk (tEvict 0 193)).bytes)) 0 3).frame + Slot.frame (State.wslot (tPage 9 4 (tRunsB (tBlk (tEvict 0 193)))) 3 (wbSlot (tBlk (tEvict 0 193)).bytes)) ≤ (State.pageAt (tPage 9 4 (tRunsB (tBlk (tEvict 0 193)))) 3 (State.wslot (tPage 9 4 (tRunsB (tBlk (tEvict 0 193)))) 3 (wbSlot (tBlk (tEvict 0 193)).bytes)) 0 3).sblk ∧ (State.pageAt (tPage 9 4 (tRunsB (tBlk (tEvict 0 193)))) 3 (State.wslot (tPage 9 4 (tRunsB (tBlk (tEvict 0 193)))) 3 (wbSlot (tBlk (tEvict 0 193)).bytes)) 0 3).sblk + 2048 ≤ (State.pageAt (tPage 9 4 (tRunsB (tBlk (tEvict 0 193)))) 3 (State.wslot (tPage 9 4 (tRunsB (tBlk (tEvict 0 193)))) 3 (wbSlot (tBlk (tEvict 0 193)).bytes)) 0 3).strl) := by
  and_intros <;> first | with_reducible exact tBlk4 | decide +kernel | rfl
/-- States and operands that meet the hypotheses of ConfluenceJobResults, part 1. -/
theorem wit_ConfluenceJobResults_1 :
    ((State.cu w24_16 1).queue = [tOproj none 1 0, CuEntry.bound 0 0 5 true false] ∧ (State.cu w24_16 1).job = none ∧ (State.cu w24_16 1).hold = none ∧ State.dieUp w24_16 1 = true ∧ State.asleep w24_16 = false ∧ tOproj none 1 0 = CuEntry.oproj 256 3 2199291691008 2199291695104 none 5 0 0 1 1 0 0) ∧
    ((State.cu w24_17 3).queue = [CuEntry.bound 0 0 5 true false] ∧ (State.cu w24_17 3).job = none ∧ (State.cu w24_17 3).hold = none ∧ State.dieUp w24_17 3 = true ∧ State.asleep w24_17 = false) ∧
    ((State.cu w24_18 1).job = some (CuEntry.oproj 256 3 2199291691008 2199291695104 none 5 0 0 1 1 1048576 0) ∧ (State.cu w24_18 1).hold = none ∧ State.dieUp w24_18 1 = true ∧ State.asleep w24_18 = false ∧ Cell.op (State.cell w24_18 256) 3 = some (tOp3 AKind.oproj 144) ∧ State.plcOk w24_18 1048576 0 = false) ∧
    ((State.cu w24_19 1).job = some (CuEntry.oproj 256 3 2199291691008 2199291695104 (some 2199291707392) 5 0 0 2 1 0 0) ∧ (State.cu w24_19 1).hold = none ∧ State.dieUp w24_19 1 = true ∧ State.asleep w24_19 = false ∧ Cell.op (State.cell w24_19 256) 3 = some (tOp3 AKind.oproj 144) ∧ State.plcOk w24_19 0 0 = true ∧ (State.cu w24_19 1).jobOptical = false ∧ 5 = (State.cu w24_19 1).active.tag ∧ 5 ≠ 0 ∧ 2 < 3 ∧ State.poisonRange w24_19 2199291691008 (1 * cuInBytes 0) = false ∧ rangesMeet 2199291691008 (1 * cuInBytes 0) 2199291695104 (1 * cuOutBytes 2) = false ∧ (∀ (a : Nat), some 2199291707392 = some a → rangesMeet 2199291691008 (1 * cuInBytes 0) a 1 = false ∧ rangesMeet 2199291695104 (1 * cuOutBytes 2) a 1 = false) ∧ w24_19.clash = [] ∧ State.calm (State.jobOver w24_19 1) 2199291691008 (1 * cuInBytes 0) = true ∧ State.still (State.jobOver w24_19 1) 2199291695104 (1 * cuOutBytes 2) = true ∧ (∀ (a : Nat), some 2199291707392 = some a → State.still (State.jobOver w24_19 1) a 1 = true)) ∧
    ((State.cu w24_20 1).job = some (CuEntry.oproj 256 3 2199291691008 2199291695104 none 5 0 0 1 1 0 0) ∧ (State.cu w24_20 1).hold = none ∧ State.dieUp w24_20 1 = true ∧ State.asleep w24_20 = false ∧ Cell.op (State.cell w24_20 256) 3 = some (tOp3 AKind.oproj 144) ∧ State.plcOk w24_20 0 0 = true ∧ (State.cu w24_20 1).jobOptical = false ∧ 5 = (State.cu w24_20 1).active.tag ∧ 5 ≠ 0 ∧ 1 < 3 ∧ State.poisonRange w24_20 2199291691008 (1 * cuInBytes 0) = false ∧ rangesMeet 2199291691008 (1 * cuInBytes 0) 2199291695104 (1 * cuOutBytes 1) = false ∧ (∀ (a : Nat), none = some a → rangesMeet 2199291691008 (1 * cuInBytes 0) a 1 = false ∧ rangesMeet 2199291695104 (1 * cuOutBytes 1) a 1 = false) ∧ w24_20.clash = [] ∧ State.calm (State.jobOver w24_20 1) 2199291691008 (1 * cuInBytes 0) = true ∧ State.still (State.jobOver w24_20 1) 2199291695104 (1 * cuOutBytes 1) = true ∧ (∀ (a : Nat), none = some a → State.still (State.jobOver w24_20 1) a 1 = true)) ∧
    (writable w24_21 (Reg.Tt_CU_WLOAD_CTL 2) ∧ Option.isSome (State.cu w24_21 2).loading = true) ∧
    (writable w24_22 (Reg.Tt_CU_WLOAD_CTL 2) ∧ (State.cu w24_22 2).loading = none ∧ (∃ st, State.rangeStore w24_22 (BitVec.toNat (State.reg w24_22 (Reg.Tt_CU_WLOAD_LO 2)) + State.rf w24_22 (Reg.Tt_CU_WLOAD_HI 2) 0 14 * 2 ^ 32) 17472 = some st ∧ (fun st => st = 16 + 2 ∨ st < 16 ∧ st / 4 = 2) st) ∧ touchesTiled w24_22.trg (BitVec.toNat (State.reg w24_22 (Reg.Tt_CU_WLOAD_LO 2)) + State.rf w24_22 (Reg.Tt_CU_WLOAD_HI 2) 0 14 * 2 ^ 32) 17472 = false) ∧
    (writable (tCu 2 (tUnit 1)) (Reg.Tt_CU_WLOAD_CTL 2) ∧ (State.cu (tCu 2 (tUnit 1)) 2).loading = none ∧ (∀ (st : Nat), State.rangeStore (tCu 2 (tUnit 1)) (BitVec.toNat (State.reg (tCu 2 (tUnit 1)) (Reg.Tt_CU_WLOAD_LO 2)) + State.rf (tCu 2 (tUnit 1)) (Reg.Tt_CU_WLOAD_HI 2) 0 14 * 2 ^ 32) 17472 = some st → ¬(fun st => st = 16 + 2 ∨ st < 16 ∧ st / 4 = 2) st)) := by
  and_intros <;> first | decide +kernel | rfl
/-- States and operands that meet the hypotheses of ConfluenceJobResults, part 2. -/
theorem wit_ConfluenceJobResults_2 :
    ((State.cu w24_24 0).loading = some 64 ∧ State.poisonRange w24_24 64 17472 = false ∧ State.calm w24_24 64 17472 = true ∧ weightImage (State.readMem w24_24 64 17472) = some w24_24b) := by
  and_intros <;> first | decide +kernel | rfl
/-- States and operands that meet the hypotheses of ConfluenceJobResults, part 3. -/
theorem wit_ConfluenceJobResults_3 :
    ((State.cu w24_25 0).loading = some 64 ∧ State.poisonRange w24_25 64 17472 = false ∧ State.calm w24_25 64 17472 = true ∧ weightImage (State.readMem w24_25 64 17472) = none) ∧
    ((State.cu w24_26 0).loading = some 64 ∧ State.poisonRange w24_26 64 17472 = true) ∧
    ((State.cu (tJob AKind.bound 147 (tBoundQ 1 false)) 1).queue = [CuEntry.bound 256 3 6 true false, tOproj none 1 0] ∧ (State.cu (tJob AKind.bound 147 (tBoundQ 1 false)) 1).job = none ∧ State.cuFree (tJob AKind.bound 147 (tBoundQ 1 false)) 1 = true ∧ Cell.op (State.cell (tJob AKind.bound 147 (tBoundQ 1 false)) 256) 3 = some (tOp3 AKind.bound 147) ∧ ((State.cu (tJob AKind.bound 147 (tBoundQ 1 false)) 1).stagedValid && (State.cu (tJob AKind.bound 147 (tBoundQ 1 false)) 1).staged.tag == 6) = false) ∧
    ((State.cu (tJob AKind.bound 147 (tBoundQ 0 true)) 1).queue = [CuEntry.bound 256 3 6 true false, tOproj none 1 0] ∧ (State.cu (tJob AKind.bound 147 (tBoundQ 0 true)) 1).job = none ∧ State.cuFree (tJob AKind.bound 147 (tBoundQ 0 true)) 1 = true ∧ Cell.op (State.cell (tJob AKind.bound 147 (tBoundQ 0 true)) 256) 3 = some (tOp3 AKind.bound 147) ∧ ((State.cu (tJob AKind.bound 147 (tBoundQ 0 true)) 1).stagedValid && (State.cu (tJob AKind.bound 147 (tBoundQ 0 true)) 1).staged.tag == 6) = true ∧ (State.cu (tJob AKind.bound 147 (tBoundQ 0 true)) 1).mode ≠ 1) ∧
    ((State.cu (tJob AKind.bound 147 (tBoundQ 1 true)) 1).queue = [CuEntry.bound 256 3 6 true false, tOproj none 1 0] ∧ (State.cu (tJob AKind.bound 147 (tBoundQ 1 true)) 1).job = none ∧ State.cuFree (tJob AKind.bound 147 (tBoundQ 1 true)) 1 = true ∧ Cell.op (State.cell (tJob AKind.bound 147 (tBoundQ 1 true)) 256) 3 = some (tOp3 AKind.bound 147) ∧ ((State.cu (tJob AKind.bound 147 (tBoundQ 1 true)) 1).stagedValid && (State.cu (tJob AKind.bound 147 (tBoundQ 1 true)) 1).staged.tag == 6) = true ∧ (State.cu (tJob AKind.bound 147 (tBoundQ 1 true)) 1).mode = 1) ∧
    ((State.cu (tCu 3 (tUnit 1)) 3).job = none ∧ State.cuFree (tCu 3 (tUnit 1)) 3 = true ∧ (State.cu (tCu 3 (tUnit 1)) 3).mode = 1 ∧ (State.cu (tCu 3 (tUnit 1)) 3).queue = [] ∧ State.cuPending (tCu 3 (tUnit 1)) 3 = false) ∧
    ((State.cu w24_34 3).job = none ∧ State.cuFree w24_34 3 = true ∧ (State.cu w24_34 3).mode = 1 ∧ (State.cu w24_34 3).queue = [] ∧ State.cuPending w24_34 3 = true) ∧
    ((State.cu w24_35 3).job = none ∧ State.cuFree w24_35 3 = true ∧ (State.cu w24_35 3).mode = 1 ∧ (State.cu w24_35 3).queue ≠ [] ∧ State.cuPending w24_35 3 = true) := by
  and_intros <;> first | decide +kernel | rfl
/-- States and operands that meet the hypotheses of ConfluenceControlResults, part 1. -/
theorem wit_ConfluenceControlResults_1 :
    ((State.cu (tJob AKind.bound 147 (tHeld (tHold [] []))) 1).hold = some (tHold [] []) ∧ (tHold [] []).swap = false ∧ State.dieUp (tJob AKind.bound 147 (tHeld (tHold [] []))) 1 = true ∧ (∀ (p : Nat), p ∈ [271] → if (tHold [] []).again = [] then ¬(fun p => p < 272 ∧ ∃ i, i < 256 ∧ Cu.phys (State.cu (tJob AKind.bound 147 (tHeld (tHold [] []))) 1) i = p) p else ¬p ∈ (tHold [] []).again)) ∧
    ((State.cu (tJob AKind.bound 147 (tHeld (tHold [255] [(255, 1)]))) 1).hold = some (tHold [255] [(255, 1)]) ∧ (tHold [255] [(255, 1)]).swap = false ∧ State.dieUp (tJob AKind.bound 147 (tHeld (tHold [255] [(255, 1)]))) 1 = true ∧ (∀ (p : Nat), p ∈ [254] → if (tHold [255] [(255, 1)]).again = [] then ¬(fun p => p < 272 ∧ ∃ i, i < 256 ∧ Cu.phys (State.cu (tJob AKind.bound 147 (tHeld (tHold [255] [(255, 1)]))) 1) i = p) p else ¬p ∈ (tHold [255] [(255, 1)]).again)) ∧
    ((State.cu (tJob AKind.bound 147 (tHeld (tHold [255] [(255, 1)]))) 1).hold = some (tHold [255] [(255, 1)]) ∧ (tHold [255] [(255, 1)]).swap = false ∧ State.dieUp (tJob AKind.bound 147 (tHeld (tHold [255] [(255, 1)]))) 1 = true ∧ ((fun p => p < 272 ∧ ∃ i, i < 256 ∧ Cu.phys (State.cu (tJob AKind.bound 147 (tHeld (tHold [255] [(255, 1)]))) 1) i = p) 255) ∧ ((tHold [255] [(255, 1)]).again = [] ∨ 255 ∈ (tHold [255] [(255, 1)]).again) ∧ tget 0 (tHold [255] [(255, 1)]).tries 255 < 2 ∧ 256 ≤ Cu.healthy (State.cu (tJob AKind.bound 147 (tHeld (tHold [255] [(255, 1)]))) 1)) ∧
    ((State.cu (tJob AKind.bound 147 (tHeld (tHold [255] [(255, 2)]))) 1).hold = some (tHold [255] [(255, 2)]) ∧ (tHold [255] [(255, 2)]).swap = false ∧ State.dieUp (tJob AKind.bound 147 (tHeld (tHold [255] [(255, 2)]))) 1 = true ∧ ((tHold [255] [(255, 2)]).again = [] ∨ 255 ∈ (tHold [255] [(255, 2)]).again) ∧ 2 ≤ tget 0 (tHold [255] [(255, 2)]).tries 255 ∧ 257 ≤ Cu.healthy (State.cu (tJob AKind.bound 147 (tHeld (tHold [255] [(255, 2)]))) 1) ∧ (∀ (j : Nat), j < 256 → ¬Cu.phys (State.cu (tJob AKind.bound 147 (tHeld (tHold [255] [(255, 2)]))) 1) j ∈ (State.cu (tJob AKind.bound 147 (tHeld (tHold [255] [(255, 2)]))) 1).badRows) ∧ 255 < 256 ∧ (∀ (j : Nat), j < 256 → (Cu.phys (State.cu (tJob AKind.bound 147 (tHeld (tHold [255] [(255, 2)]))) 1) j = 255 ↔ j = 255)) ∧ 255 < 272) ∧
    (State.rotating w24_44 0 = true ∧ State.dieUp w24_44 0 = true ∧ State.asleep w24_44 = false ∧ (∀ (j : Nat), j < 256 → ¬Cu.phys (State.cu w24_44 0) j ∈ (State.cu w24_44 0).badRows ∧ Cu.phys (State.cu w24_44 0) j ≠ (State.cu w24_44 0).calRow) ∧ (∀ (i j : Nat), i < 256 → j < 256 → Cu.phys (State.cu w24_44 0) i = Cu.phys (State.cu w24_44 0) j → i = j) ∧ ¬(State.cu w24_44 0).calRow ∈ (State.cu w24_44 0).badRows ∧ List.find? (fun p => !List.contains (State.cu w24_44 0).badRows p) (List.map (fun i => ((State.cu w24_44 0).calRow + 1 + i) % 272) (List.range 271)) = some 0) ∧
    (State.rotating w24_44 0 = true ∧ State.dieUp w24_44 0 = true ∧ State.asleep w24_44 = false ∧ (∀ (j : Nat), j < 256 → ¬Cu.phys (State.cu w24_44 0) j ∈ (State.cu w24_44 0).badRows ∧ Cu.phys (State.cu w24_44 0) j ≠ (State.cu w24_44 0).calRow) ∧ (∀ (i j : Nat), i < 256 → j < 256 → Cu.phys (State.cu w24_44 0) i = Cu.phys (State.cu w24_44 0) j → i = j) ∧ ¬(State.cu w24_44 0).calRow ∈ (State.cu w24_44 0).badRows) ∧
    ((State.cu (tCu 0 (tUnit 1)) 0).locked = true) ∧
    ((State.cu w24_47 0).locked = false) ∧
    ((State.cu w24_48 3).locked = false ∧ (State.cu w24_48 3).characterised = true ∧ State.bankHeld w24_48 3 = true) ∧
    ((State.cu (tCu 3 (tUnit 1)) 3).locked = true ∨ State.bankHeld (tCu 3 (tUnit 1)) 3 = false) ∧
    (writable (tCu 3 (tUnit 1)) (Reg.Tt_CU_CTRL 3) ∧ (State.cu (tCu 3 (tUnit 1)) 3).characterised = true ∧ (State.cu (tCu 3 (tUnit 1)) 3).calFault = false ∧ 257 ≤ Cu.healthy (State.cu (tCu 3 (tUnit 1)) 3) ∧ (State.cu (tCu 3 (tUnit 1)) 3).active.tag ≠ 0) ∧
    (writable (tCu 3 (tUnit 1)) (Reg.Tt_CU_CTRL 3) ∧ (State.cu (tCu 3 (tUnit 1)) 3).characterised = true ∧ (State.cu (tCu 3 (tUnit 1)) 3).calFault = false ∧ 257 ≤ Cu.healthy (State.cu (tCu 3 (tUnit 1)) 3) ∧ (State.cu (tCu 3 (tUnit 1)) 3).active.tag ≠ 0 ∧ (State.cu (tCu 3 (tUnit 1)) 3).mode = 1 ∧ (State.cu (tCu 3 (tUnit 1)) 3).hold = none) ∧
    (writable (tCu 3 (tUnit 1)) (Reg.Tt_CU_CTRL 3) ∧ (State.cu (tCu 3 (tUnit 1)) 3).characterised = true ∧ (State.cu (tCu 3 (tUnit 1)) 3).calFault = false ∧ 257 ≤ Cu.healthy (State.cu (tCu 3 (tUnit 1)) 3) ∧ (State.cu (tCu 3 (tUnit 1)) 3).active.tag ≠ 0) ∧
    ((State.cu w24_53 3).characterised = false ∧ State.released w24_53 3 = true ∧ w24_53.optics.ringsUp = true ∧ (State.cu w24_53 3).badRows = [] ∧ (State.cu w24_53 3).mode = 0 ∧ (State.cu w24_53 3).hold = none ∧ (State.cu w24_53 3).calFault = false ∧ 256 ≤ 256 ∧ 256 ≤ 272) := by
  and_intros <;> first | with_reducible exact tPhys | decide +kernel | rfl
/-- States and operands that meet the hypotheses of ConfluenceControlResults, part 2. -/
theorem wit_ConfluenceControlResults_2 :
    ((State.cu w24_54 0).characterised = false ∧ State.released w24_54 0 = true ∧ w24_54.optics.ringsUp = true ∧ (State.cu w24_54 0).badRows = [] ∧ (State.cu w24_54 0).mode = 0 ∧ (State.cu w24_54 0).hold = none ∧ (State.cu w24_54 0).calFault = false ∧ 256 ≤ 272 ∧ 272 ≤ 272) := by
  and_intros <;> first | decide +kernel | rfl
/-- States and operands that meet the hypotheses of LaserResults, part 1. -/
theorem wit_LaserResults_1 :
    ((State.spring (tLight (tSpr LaserSt.serving [])) 0).locked = true ∧ State.asleep (tLight (tSpr LaserSt.serving [])) = false ∧ (tLight (tSpr LaserSt.serving [])).optics.dimmed = false ∧ (tLight (tSpr LaserSt.serving [])).optics.dark = false ∧ (State.spring (tLight (tSpr LaserSt.serving [])) 0).phase = HoPhase.idle ∧ (State.spring (tLight (tSpr LaserSt.serving [])) 0).queue = [] ∧ 5 < 64 ∧ Spring.serves (State.spring (tLight (tSpr LaserSt.serving [])) 0) 5 = some 5 ∧ (∀ (j : Nat), Spring.serves (State.spring (tLight (tSpr LaserSt.serving [])) 0) j = some 5 → j = 5) ∧ (Spring.laser (State.spring (tLight (tSpr LaserSt.serving [])) 0) 5).output = 100 ∧ 100 * tB < 120 * Config.laserBaseline (80 * 0 + 5)) ∧
    ((State.spring (tLight (tSpr LaserSt.serving [])) 0).locked = true ∧ State.asleep (tLight (tSpr LaserSt.serving [])) = false ∧ (tLight (tSpr LaserSt.serving [])).optics.dimmed = false ∧ (tLight (tSpr LaserSt.serving [])).optics.dark = false ∧ (State.spring (tLight (tSpr LaserSt.serving [])) 0).phase = HoPhase.idle ∧ (State.spring (tLight (tSpr LaserSt.serving [])) 0).queue = [] ∧ 5 < 64 ∧ Spring.serves (State.spring (tLight (tSpr LaserSt.serving [])) 0) 5 = some 5 ∧ (∀ (j : Nat), Spring.serves (State.spring (tLight (tSpr LaserSt.serving [])) 0) j = some 5 → j = 5) ∧ (Spring.laser (State.spring (tLight (tSpr LaserSt.serving [])) 0) 5).output = 100 ∧ 120 * Config.laserBaseline (80 * 0 + 5) ≤ 100 * (tB * 5 / 4) ∧ 100 * (tB * 5 / 4) < 130 * Config.laserBaseline (80 * 0 + 5) ∧ (Spring.laser (State.spring (tLight (tSpr LaserSt.serving [])) 0) 5).state = LaserSt.serving ∧ State.logRoom (tLight (tSpr LaserSt.serving [])) 8 = true) ∧
    ((State.spring (tLight (tSpr LaserSt.warning [])) 0).locked = true ∧ State.asleep (tLight (tSpr LaserSt.warning [])) = false ∧ (tLight (tSpr LaserSt.warning [])).optics.dimmed = false ∧ (tLight (tSpr LaserSt.warning [])).optics.dark = false ∧ (State.spring (tLight (tSpr LaserSt.warning [])) 0).phase = HoPhase.idle ∧ (State.spring (tLight (tSpr LaserSt.warning [])) 0).queue = [] ∧ 5 < 64 ∧ Spring.serves (State.spring (tLight (tSpr LaserSt.warning [])) 0) 5 = some 5 ∧ (∀ (j : Nat), Spring.serves (State.spring (tLight (tSpr LaserSt.warning [])) 0) j = some 5 → j = 5) ∧ (Spring.laser (State.spring (tLight (tSpr LaserSt.warning [])) 0) 5).output = 100 ∧ 130 * Config.laserBaseline (80 * 0 + 5) ≤ 100 * (tB * 133 / 100) ∧ 100 * (tB * 133 / 100) < 135 * Config.laserBaseline (80 * 0 + 5) ∧ (Spring.laser (State.spring (tLight (tSpr LaserSt.warning [])) 0) 5).state = LaserSt.warning ∧ tget none (State.spring (tLight (tSpr LaserSt.warning [])) 0).alloc 5 = none ∧ Spring.pickSpare (State.spring (tLight (tSpr LaserSt.warning [])) 0) 5 = some 1) ∧
    ((State.spring (tLight (tSpr LaserSt.prewarm [(5, some 1)])) 0).locked = true ∧ State.asleep (tLight (tSpr LaserSt.prewarm [(5, some 1)])) = false ∧ (tLight (tSpr LaserSt.prewarm [(5, some 1)])).optics.dimmed = false ∧ (tLight (tSpr LaserSt.prewarm [(5, some 1)])).optics.dark = false ∧ (State.spring (tLight (tSpr LaserSt.prewarm [(5, some 1)])) 0).phase = HoPhase.idle ∧ (State.spring (tLight (tSpr LaserSt.prewarm [(5, some 1)])) 0).queue = [] ∧ 5 < 64 ∧ Spring.serves (State.spring (tLight (tSpr LaserSt.prewarm [(5, some 1)])) 0) 5 = some 5 ∧ (∀ (j : Nat), Spring.serves (State.spring (tLight (tSpr LaserSt.prewarm [(5, some 1)])) 0) j = some 5 → j = 5) ∧ (Spring.laser (State.spring (tLight (tSpr LaserSt.prewarm [(5, some 1)])) 0) 5).output = 100 ∧ 135 * Config.laserBaseline (80 * 0 + 5) ≤ 100 * (2 * tB) ∧ (Spring.laser (State.spring (tLight (tSpr LaserSt.prewarm [(5, some 1)])) 0) 5).state = LaserSt.prewarm ∧ State.handoverOk (tLight (tSpr LaserSt.prewarm [(5, some 1)])) = true ∧ List.contains (State.spring (tLight (tSpr LaserSt.prewarm [(5, some 1)])) 0).abandonedLines 5 = false ∧ tget none (State.spring (tLight (tSpr LaserSt.prewarm [(5, some 1)])) 0).alloc 5 = some 1) ∧
    ((State.spring (tLight tNoSpare) 0).locked = true ∧ State.asleep (tLight tNoSpare) = false ∧ (tLight tNoSpare).optics.dimmed = false ∧ (tLight tNoSpare).optics.dark = false ∧ (State.spring (tLight tNoSpare) 0).phase = HoPhase.idle ∧ (State.spring (tLight tNoSpare) 0).queue = [] ∧ 5 < 64 ∧ Spring.serves (State.spring (tLight tNoSpare) 0) 5 = some 5 ∧ (∀ (j : Nat), Spring.serves (State.spring (tLight tNoSpare) 0) j = some 5 → j = 5) ∧ (Spring.laser (State.spring (tLight tNoSpare) 0) 5).output = 100 ∧ 150 * Config.laserBaseline (80 * 0 + 5) ≤ 100 * (2 * tB) ∧ (Spring.laser (State.spring (tLight tNoSpare) 0) 5).state = LaserSt.warning ∧ Spring.hasSpare (State.spring (tLight tNoSpare) 0) 5 = false) ∧
    (State.asleep (tLight Spring.reset) = false ∧ (tLight Spring.reset).optics.dimmed = false ∧ (tLight Spring.reset).optics.dark = false ∧ List.find? (fun k => Spring.serves (State.spring (tLight Spring.reset) 1) k == some 63) (List.range 64) = some 63 ∧ 80 ≤ 80) ∧
    (State.asleep (tLight tNoSpare) = false ∧ (tLight tNoSpare).optics.dimmed = false ∧ (tLight tNoSpare).optics.dark = false ∧ List.find? (fun k => Spring.serves (State.spring (tLight tNoSpare) 0) k == some 5) (List.range 64) = some 5 ∧ 50 ≤ 50 ∧ 50 < 80 ∧ Spring.hasSpare (State.spring (tLight tNoSpare) 0) 5 = false) ∧
    (State.asleep (tLight Spring.reset) = false ∧ (tLight Spring.reset).optics.dimmed = false ∧ (tLight Spring.reset).optics.dark = false ∧ List.find? (fun k => Spring.serves (State.spring (tLight Spring.reset) 1) k == some 63) (List.range 64) = some 63 ∧ 49 < 50) ∧
    (15 < 16 ∧ (Spring.laser (State.spring w25_20 0) (64 + 15)).state = LaserSt.prewarm ∧ w25_20.optics.refLost = false ∧ w25_20.optics.dark = false ∧ (State.spring w25_20 0).queue = []) ∧
    ((State.spring (tHolds (tLight (tHand HoPhase.prepare 0))) 0).phase = HoPhase.prepare ∧ ((Spring.laser (State.spring (tHolds (tLight (tHand HoPhase.prepare 0))) 0) (64 + (State.spring (tHolds (tLight (tHand HoPhase.prepare 0))) 0).spare)).warmLocked = true ∧ (∀ (n : Nat), n ∈ State.fedUnits (tHolds (tLight (tHand HoPhase.prepare 0))) 0 → ∃ h, (State.cu (tHolds (tLight (tHand HoPhase.prepare 0))) n).hold = some h ∧ h.swap = true) ∧ State.handoverOk (tHolds (tLight (tHand HoPhase.prepare 0))) = true)) ∧
    ((State.spring (tLight (tHand HoPhase.prepare 0)) 0).phase = HoPhase.prepare ∧ (¬((Spring.laser (State.spring (tLight (tHand HoPhase.prepare 0)) 0) (64 + (State.spring (tLight (tHand HoPhase.prepare 0)) 0).spare)).warmLocked = true ∧ (∀ (n : Nat), n ∈ State.fedUnits (tLight (tHand HoPhase.prepare 0)) 0 → ∃ h, (State.cu (tLight (tHand HoPhase.prepare 0)) n).hold = some h ∧ h.swap = true) ∧ State.handoverOk (tLight (tHand HoPhase.prepare 0)) = true))) ∧
    ((State.spring (tHolds (tLight (tHand HoPhase.scheduled 0))) 0).phase = HoPhase.scheduled ∧ State.handoverOk (tHolds (tLight (tHand HoPhase.scheduled 0))) = true) ∧
    ((State.spring w25_32 0).phase = HoPhase.swap ∧ Spring.serves (State.spring w25_32 0) (State.spring w25_32 0).line = some 5 ∧ 5 ≠ 64 + (State.spring w25_32 0).spare ∧ State.gateOpen w25_32 = true) ∧
    ((State.spring (tHolds (tLight (tHand HoPhase.swap 1))) 0).phase = HoPhase.swap ∧ Spring.serves (State.spring (tHolds (tLight (tHand HoPhase.swap 1))) 0) (State.spring (tHolds (tLight (tHand HoPhase.swap 1))) 0).line = some 5 ∧ 5 ≠ 64 + (State.spring (tHolds (tLight (tHand HoPhase.swap 1))) 0).spare ∧ State.gateOpen (tHolds (tLight (tHand HoPhase.swap 1))) = false) := by
  and_intros <;> first | with_reducible exact tB1 | with_reducible exact tB2 | with_reducible exact tB3 | with_reducible exact tB4 | with_reducible exact tB5 | with_reducible exact tB6 | with_reducible exact tB7 | with_reducible exact tServ1 | with_reducible exact tServ2 | with_reducible exact tServ3 | with_reducible exact tServ4 | decide +kernel | rfl
/-- States and operands that meet the hypotheses of LaserResults, part 2. -/
theorem wit_LaserResults_2 :
    ((State.spring (tHolds (tLight (tHand HoPhase.swap 2))) 0).phase = HoPhase.swap ∧ Spring.serves (State.spring (tHolds (tLight (tHand HoPhase.swap 2))) 0) (State.spring (tHolds (tLight (tHand HoPhase.swap 2))) 0).line = some 5 ∧ 5 ≠ 64 + (State.spring (tHolds (tLight (tHand HoPhase.swap 2))) 0).spare ∧ (State.spring (tHolds (tLight (tHand HoPhase.swap 2))) 0).attempt < 3) ∧
    ((State.spring w25_35 0).phase = HoPhase.swap ∧ Spring.serves (State.spring w25_35 0) (State.spring w25_35 0).line = some 5 ∧ 5 ≠ 64 + (State.spring w25_35 0).spare ∧ 3 ≤ (State.spring w25_35 0).attempt ∧ (State.spring w25_35 0).alloc = [((State.spring w25_35 0).line, some (State.spring w25_35 0).spare)] ∧ (State.spring w25_35 0).line < 64 ∧ (∀ (p : Nat), p < 16 → p ≠ (State.spring w25_35 0).spare → Spring.spareFree (State.spring w25_35 0) p = false) ∧ (State.spring w25_35 0).spare < 16) ∧
    ((State.spring w25_36 0).phase = HoPhase.swap ∧ Spring.serves (State.spring w25_36 0) (State.spring w25_36 0).line = some (64 + (State.spring w25_36 0).spare) ∧ (State.spring w25_36 0).queue = []) ∧
    ((State.spring (tHolds (tLight (tHand HoPhase.prepare 0))) 0).phase = HoPhase.prepare ∨ (State.spring (tHolds (tLight (tHand HoPhase.prepare 0))) 0).phase = HoPhase.scheduled) ∧
    (writable w25_38 Reg.BED_LASER_CTL ∧ List.contains w25_38.optics.requests (State.rf w25_38 Reg.BED_LASER_SEL 0 1, State.rf w25_38 Reg.BED_LASER_SEL 1 7) = false ∧ State.requestOk w25_38 (State.rf w25_38 Reg.BED_LASER_SEL 0 1) (State.rf w25_38 Reg.BED_LASER_SEL 1 7) = false) ∧
    (writable w25_39 Reg.BED_LASER_CTL ∧ List.contains w25_39.optics.requests (State.rf w25_39 Reg.BED_LASER_SEL 0 1, State.rf w25_39 Reg.BED_LASER_SEL 1 7) = false ∧ State.requestOk w25_39 (State.rf w25_39 Reg.BED_LASER_SEL 0 1) (State.rf w25_39 Reg.BED_LASER_SEL 1 7) = true ∧ (State.spring w25_39 (State.rf w25_39 Reg.BED_LASER_SEL 0 1)).phase = HoPhase.idle ∧ (State.spring w25_39 (State.rf w25_39 Reg.BED_LASER_SEL 0 1)).queue = [] ∧ State.handoverOk w25_39 = true) := by
  and_intros <;> first | decide +kernel | rfl
/-- States and operands that meet the hypotheses of RingAndCalibrationResults, part 1. -/
theorem wit_RingAndCalibrationResults_1 :
    ((tLight Spring.reset).optics.refLost = false ∧ (tLight Spring.reset).optics.dark = false) ∧
    (w25_41.optics.refLost = true ∧ w25_41.optics.dark = false ∧ (State.spring w25_41 0).queue = [] ∧ (State.spring w25_41 1).queue = []) ∧
    ((tLight Spring.reset).optics.refLost = false ∧ (tLight Spring.reset).optics.dark = false ∧ 79 < 80) ∧
    ((tLight Spring.reset).optics.refLost = false ∧ (tLight Spring.reset).optics.dark = false ∧ 0 < 80) ∧
    (78655 < 78656 ∧ w25_47.optics.ringsUp = true ∧ w25_47.optics.loopsStopped = false ∧ (State.ring w25_47 78655).failed = false ∧ List.contains w25_47.optics.stoppedDies (ringDie 78655) = false ∧ State.dieUp w25_47 (ringDie 78655) = true ∧ (Int.natAbs (Int.ofNat 400) ≤ if 78655 < 8768 then 1000 else 400) ∧ ((State.ring w25_47 78655).unlocked = true ∨ Int.natAbs (Int.ofNat 400) ≤ (State.ring w25_47 78655).last)) ∧
    (0 < 78656 ∧ (tLight Spring.reset).optics.ringsUp = true ∧ (tLight Spring.reset).optics.loopsStopped = false ∧ (State.ring (tLight Spring.reset) 0).failed = false ∧ List.contains (tLight Spring.reset).optics.stoppedDies (ringDie 0) = false ∧ State.dieUp (tLight Spring.reset) (ringDie 0) = true ∧ (Int.natAbs (Int.ofNat 0) ≤ if 0 < 8768 then 1000 else 400) ∧ ((State.ring (tLight Spring.reset) 0).unlocked = true ∨ Int.natAbs (Int.ofNat 0) ≤ (State.ring (tLight Spring.reset) 0).last)) ∧
    (8768 < 78656 ∧ w25_49.optics.ringsUp = true ∧ w25_49.optics.loopsStopped = false ∧ (State.ring w25_49 8768).failed = false ∧ List.contains w25_49.optics.stoppedDies (ringDie 8768) = false ∧ State.dieUp w25_49 (ringDie 8768) = true ∧ ((if 8768 < 8768 then 3000 else 400) < Int.natAbs (Int.ofNat 401)) ∧ (State.ring w25_49 8768).unlocked = false ∧ (State.ring w25_49 8768).out = 3) ∧
    (8767 < 78656 ∧ w25_50.optics.ringsUp = true ∧ w25_50.optics.loopsStopped = false ∧ (State.ring w25_50 8767).failed = false ∧ List.contains w25_50.optics.stoppedDies (ringDie 8767) = false ∧ State.dieUp w25_50 (ringDie 8767) = true ∧ ((if 8767 < 8768 then 3000 else 400) < Int.natAbs (-Int.ofNat 3001)) ∧ (State.ring w25_50 8767).unlocked = false ∧ (State.ring w25_50 8767).out = 3) := by
  and_intros <;> first | decide +kernel | rfl
/-- States and operands that meet the hypotheses of RingAndCalibrationResults, part 2. -/
theorem wit_RingAndCalibrationResults_2 :
    (5 < 78656 ∧ w25_53b.optics.ringsUp = true ∧ w25_53b.optics.loopsStopped = false ∧ (State.ring w25_53b 5).failed = false ∧ List.contains w25_53b.optics.stoppedDies (ringDie 5) = false ∧ State.dieUp w25_53b (ringDie 5) = true ∧ 5 < 8768 ∧ (State.ring w25_53b 5).unlocked = false ∧ (clampCode (Ring.aim (State.ring w25_53b 5) (State.ringCode w25_53b 5) (Config.feedForward (State.regionRec w25_53b (Config.ringRegion 5 % 64)) (State.freeVal w25_53b) (State.ring w25_53b 5).ff) w25_53) = 0 ∨ clampCode (Ring.aim (State.ring w25_53b 5) (State.ringCode w25_53b 5) (Config.feedForward (State.regionRec w25_53b (Config.ringRegion 5 % 64)) (State.freeVal w25_53b) (State.ring w25_53b 5).ff) w25_53) = 4095) ∧ (State.ring w25_53b 5).last < Int.natAbs w25_53) := by
  and_intros <;> first | with_reducible exact tAim | decide +kernel | rfl
/-- States and operands that meet the hypotheses of RingAndCalibrationResults, part 3. -/
theorem wit_RingAndCalibrationResults_3 :
    (writable (tCal 1 0) Reg.BED_CAL_CTL ∧ Option.isSome (tCal 1 0).optics.calOp = true) ∧
    (writable w25_57 Reg.BED_CAL_CTL ∧ w25_57.optics.calOp = none ∧ State.calRange w25_57 (State.calDA w25_57) true = true) ∧
    (writable (tLight Spring.reset) Reg.BED_CAL_CTL ∧ (tLight Spring.reset).optics.calOp = none ∧ State.calRange (tLight Spring.reset) (State.calDA (tLight Spring.reset)) false = true) ∧
    (writable w25_59 Reg.BED_CAL_CTL ∧ w25_59.optics.calOp = none ∧ State.calRange w25_59 (State.calDA w25_59) false = false) ∧
    ((tCal 1 1099511627776).optics.calOp = some (1, 1099511627776, Origin.host) ∧ State.still (tCal 1 1099511627776) 1099511627776 calSize = true) ∧
    (w25_61.optics.calOp = some (2, 0, Origin.host) ∧ State.calm w25_61 0 calSize = true ∧ State.poisonRange w25_61 0 calSize = true) ∧
    (w25_62.optics.ringsUp = false ∧ State.dieUp w25_62 dieK = true ∧ State.rb w25_62 Reg.KEY_READY 1 = true ∧ tget false w25_62.pwr.good 4 = true) := by
  and_intros <;> first | decide +kernel | rfl
/-- States and operands that meet the hypotheses of BedTrainingResults, part 1. -/
theorem wit_BedTrainingResults_1 :
    (State.mayTrain (tLink BLink.down [(3839, tLane BLaneSt.failed 0)] BLink.down) 22 19 = true) ∧
    (State.mayTrain tUp 22 19 = false) ∧
    (linkExists 22 19 = true ∧ (State.link w26_19 22 19).state = BLinkSt.train ∧ (State.link w26_19 22 19).quick = false ∧ State.linkDies w26_19 22 19 = true ∧ (∀ (y : Nat × Nat), y ∈ List.zipIdx (linkLanes 22 19) → (State.lane w26_19 y.fst).state = BLaneSt.training ∧ (State.lane w26_19 y.fst).pos = y.snd ∧ (State.lane w26_19 y.fst).after = none)) ∧
    (linkExists 22 19 = true ∧ (State.link w26_19 22 19).state = BLinkSt.train ∧ (State.link w26_19 22 19).quick = false ∧ State.linkDies w26_19 22 19 = true ∧ (∀ (y : Nat × Nat), y ∈ List.zipIdx (linkLanes 22 19) → (State.lane w26_19 y.fst).state = BLaneSt.training ∧ (State.lane w26_19 y.fst).pos = y.snd ∧ (State.lane w26_19 y.fst).after = none) ∧ (linkLanes 22 19)[0]? = some 3791 ∧ 0 < linkWidth 22 19 ∧ (linkLanes 22 19)[linkWidth 22 19]? = some 3838) ∧
    (linkExists 22 19 = true ∧ (State.link w26_19 22 19).state = BLinkSt.train ∧ (State.link w26_19 22 19).quick = false ∧ State.linkDies w26_19 22 19 = true ∧ (∀ (y : Nat × Nat), y ∈ List.zipIdx (linkLanes 22 19) → (State.lane w26_19 y.fst).state = BLaneSt.training ∧ (State.lane w26_19 y.fst).pos = y.snd ∧ (State.lane w26_19 y.fst).after = none) ∧ (∀ (i : Nat), i ∈ linkLanes 22 19 → i ∈ [3791, 3838, 3839])) ∧
    (linkExists 22 19 = true ∧ (State.link (tLink (tQuick 1) tTrains BLink.down) 22 19).state = BLinkSt.train ∧ (State.link (tLink (tQuick 1) tTrains BLink.down) 22 19).quick = true ∧ State.linkDies (tLink (tQuick 1) tTrains BLink.down) 22 19 = true ∧ (∀ (y : Nat × Nat), y ∈ List.zipIdx (linkLanes 22 19) → (State.lane (tLink (tQuick 1) tTrains BLink.down) y.fst).state = BLaneSt.training ∧ (State.lane (tLink (tQuick 1) tTrains BLink.down) y.fst).pos = y.snd ∧ (State.lane (tLink (tQuick 1) tTrains BLink.down) y.fst).after = none)) ∧
    (linkExists 22 19 = true ∧ (State.link (tLink (tQuick 1) tTrains BLink.down) 22 19).state = BLinkSt.train ∧ (State.link (tLink (tQuick 1) tTrains BLink.down) 22 19).quick = true ∧ State.linkDies (tLink (tQuick 1) tTrains BLink.down) 22 19 = true ∧ (State.link (tLink (tQuick 1) tTrains BLink.down) 22 19).fails < 2) ∧
    (linkExists 22 19 = true ∧ (State.link (tLink (tQuick 2) tTrains BLink.down) 22 19).state = BLinkSt.train ∧ (State.link (tLink (tQuick 2) tTrains BLink.down) 22 19).quick = true ∧ State.linkDies (tLink (tQuick 2) tTrains BLink.down) 22 19 = true ∧ 2 ≤ (State.link (tLink (tQuick 2) tTrains BLink.down) 22 19).fails) := by
  and_intros <;> first | decide +kernel | rfl
/-- States and operands that meet the hypotheses of BedTrainingResults, part 2. -/
theorem wit_BedTrainingResults_2 :
    (laneInfo 3838 = some (22, 19, true) ∧ (State.link (tServe tLive (tLane BLaneSt.training 1)) 22 19).state = BLinkSt.live ∧ (State.lane (tServe tLive (tLane BLaneSt.training 1)) 3838).state = BLaneSt.training ∧ (State.lane (tServe tLive (tLane BLaneSt.training 1)) 3838).after = none ∧ State.laneRings (tServe tLive (tLane BLaneSt.training 1)) 3838 = true ∧ State.holePos (tServe tLive (tLane BLaneSt.training 1)) 22 19 = none) ∧
    (laneInfo 3838 = some (22, 19, true) ∧ (State.link (tLink tLive [(3838, tLane BLaneSt.training 1)] BLink.down) 22 19).state = BLinkSt.live ∧ (State.lane (tLink tLive [(3838, tLane BLaneSt.training 1)] BLink.down) 3838).state = BLaneSt.training ∧ (State.lane (tLink tLive [(3838, tLane BLaneSt.training 1)] BLink.down) 3838).after = none ∧ State.laneRings (tLink tLive [(3838, tLane BLaneSt.training 1)] BLink.down) 3838 = true ∧ State.holePos (tLink tLive [(3838, tLane BLaneSt.training 1)] BLink.down) 22 19 = some 0) ∧
    (laneInfo 3838 = some (22, 19, true) ∧ (State.link w26_27 22 19).state = BLinkSt.live ∧ (State.lane w26_27 3838).state = BLaneSt.training ∧ (State.lane w26_27 3838).after = none ∧ State.laneRings w26_27 3838 = true ∧ (State.lane w26_27 3838).tries < 2) ∧
    (laneInfo 3838 = some (22, 19, true) ∧ (State.link w26_28 22 19).state = BLinkSt.live ∧ (State.lane w26_28 3838).state = BLaneSt.training ∧ (State.lane w26_28 3838).after = none ∧ State.laneRings w26_28 3838 = true ∧ 2 ≤ (State.lane w26_28 3838).tries) ∧
    ((State.lane w26_29 3838).state = BLaneSt.retired ∧ (State.lane w26_29 3838).cause = 2 ∧ State.laneRings w26_29 3838 = true) ∧
    (laneInfo 3791 = some (22, 19, false) ∧ (State.lane (tTsAt 1) 3791).state = BLaneSt.training ∧ (BLane.train (State.lane (tTsAt 1) 3791) (tTs (tTsB 51 15))).snd = [tTsB 51 15] ∧ (decide ((bedTsOf (tTsB 51 15)).src = 22 ∧ (busesOf 22).fst + (bedTsOf (tTsB 51 15)).bus = 3791 / 64 ∧ (bedTsOf (tTsB 51 15)).line = 3791 % 64) = true) ∧ bfld (tTsB 51 15) 0 1 = 51) ∧
    (laneInfo 3791 = some (22, 19, false) ∧ (State.lane (tTsAt 1) 3791).state = BLaneSt.training ∧ (BLane.train (State.lane (tTsAt 1) 3791) (tTs (tTsB 75 15))).snd = [tTsB 75 15] ∧ (decide ((bedTsOf (tTsB 75 15)).src = 22 ∧ (busesOf 22).fst + (bedTsOf (tTsB 75 15)).bus = 3791 / 64 ∧ (bedTsOf (tTsB 75 15)).line = 3791 % 64) = true) ∧ bfld (tTsB 75 15) 0 1 = 75) ∧
    (laneInfo 3791 = some (22, 19, false) ∧ (State.lane (tTsAt 1) 3791).state = BLaneSt.training ∧ (BLane.train (State.lane (tTsAt 1) 3791) (tTs (tTsB 51 14))).snd = [tTsB 51 14] ∧ (decide ((bedTsOf (tTsB 51 14)).src = 22 ∧ (busesOf 22).fst + (bedTsOf (tTsB 51 14)).bus = 3791 / 64 ∧ (bedTsOf (tTsB 51 14)).line = 3791 % 64) = false) ∧ (BLane.train (State.lane (tTsAt 1) 3791) (tTs (tTsB 51 14))).fst.tries < 2 ∧ bfld (tTsB 51 14) 0 1 = 51) ∧
    (laneInfo 3791 = some (22, 19, false) ∧ (State.lane (tTsAt 1) 3791).state = BLaneSt.training ∧ (BLane.train (State.lane (tTsAt 1) 3791) (tTs (tTsB 75 14))).snd = [tTsB 75 14] ∧ (decide ((bedTsOf (tTsB 75 14)).src = 22 ∧ (busesOf 22).fst + (bedTsOf (tTsB 75 14)).bus = 3791 / 64 ∧ (bedTsOf (tTsB 75 14)).line = 3791 % 64) = false) ∧ (BLane.train (State.lane (tTsAt 1) 3791) (tTs (tTsB 75 14))).fst.tries < 2 ∧ bfld (tTsB 75 14) 0 1 = 75) := by
  and_intros <;> first | decide +kernel | rfl
/-- States and operands that meet the hypotheses of BedTrainingResults, part 3. -/
theorem wit_BedTrainingResults_3 :
    (laneInfo 3791 = some (22, 19, false) ∧ (State.lane (tTsAt 2) 3791).state = BLaneSt.training ∧ (BLane.train (State.lane (tTsAt 2) 3791) (tTs (tTsB 51 14))).snd = [tTsB 51 14] ∧ (decide ((bedTsOf (tTsB 51 14)).src = 22 ∧ (busesOf 22).fst + (bedTsOf (tTsB 51 14)).bus = 3791 / 64 ∧ (bedTsOf (tTsB 51 14)).line = 3791 % 64) = false) ∧ 2 ≤ (BLane.train (State.lane (tTsAt 2) 3791) (tTs (tTsB 51 14))).fst.tries) ∧
    (laneInfo 3791 = some (22, 19, false) ∧ (State.lane (tTsAt 2) 3791).state = BLaneSt.training ∧ (BLane.train (State.lane (tTsAt 2) 3791) (tTs (tTsB 75 14))).snd = [tTsB 75 14] ∧ (decide ((bedTsOf (tTsB 75 14)).src = 22 ∧ (busesOf 22).fst + (bedTsOf (tTsB 75 14)).bus = 3791 / 64 ∧ (bedTsOf (tTsB 75 14)).line = 3791 % 64) = false) ∧ 2 ≤ (BLane.train (State.lane (tTsAt 2) 3791) (tTs (tTsB 75 14))).fst.tries) ∧
    ((tHears 0).noLock = false ∧ LaneRx.invalid (tHears 0).rx < 16 ∧ (tHears 0).rx.phase = some !(tHears 0).rx.odd ∧ List.length (tTsB 51 15) ≤ 32) ∧
    ((State.lane (tServe tLive BLane.dark) 3791).state ≠ BLaneSt.training) ∧
    (writable (tServe tLive (tLane BLaneSt.spare 1)) Reg.BED_LINK_CTL ∧ linkExists (State.rf (tServe tLive (tLane BLaneSt.spare 1)) Reg.BED_LINK_SEL 0 5) (State.rf (tServe tLive (tLane BLaneSt.spare 1)) Reg.BED_LINK_SEL 8 5) = true ∧ (State.link (tServe tLive (tLane BLaneSt.spare 1)) (State.rf (tServe tLive (tLane BLaneSt.spare 1)) Reg.BED_LINK_SEL 0 5) (State.rf (tServe tLive (tLane BLaneSt.spare 1)) Reg.BED_LINK_SEL 8 5)).state = BLinkSt.live ∧ State.linkDies (tServe tLive (tLane BLaneSt.spare 1)) (State.rf (tServe tLive (tLane BLaneSt.spare 1)) Reg.BED_LINK_SEL 0 5) (State.rf (tServe tLive (tLane BLaneSt.spare 1)) Reg.BED_LINK_SEL 8 5) = true) ∧
    (writable (tLink BLink.down [] BLink.down) Reg.BED_LINK_CTL ∧ linkExists (State.rf (tLink BLink.down [] BLink.down) Reg.BED_LINK_SEL 0 5) (State.rf (tLink BLink.down [] BLink.down) Reg.BED_LINK_SEL 8 5) = true ∧ (State.link (tLink BLink.down [] BLink.down) (State.rf (tLink BLink.down [] BLink.down) Reg.BED_LINK_SEL 0 5) (State.rf (tLink BLink.down [] BLink.down) Reg.BED_LINK_SEL 8 5)).state ≠ BLinkSt.live) ∧
    (writable (tServe tLive (tLane BLaneSt.spare 1)) Reg.BED_LANE_CTL ∧ laneInfo (State.rf (tServe tLive (tLane BLaneSt.spare 1)) Reg.BED_LANE_SEL 0 12) = some (22, 19, true) ∧ (3#32 = 1#32 ∨ 3#32 = 3#32) ∧ (State.lane (tServe tLive (tLane BLaneSt.spare 1)) (State.rf (tServe tLive (tLane BLaneSt.spare 1)) Reg.BED_LANE_SEL 0 12)).state = BLaneSt.spare) ∧
    (writable (tServe tLive (tLane BLaneSt.data 1)) Reg.BED_LANE_CTL ∧ laneInfo (State.rf (tServe tLive (tLane BLaneSt.data 1)) Reg.BED_LANE_SEL 0 12) = some (22, 19, true) ∧ (1#32 = 1#32 ∨ 1#32 = 3#32) ∧ (State.lane (tServe tLive (tLane BLaneSt.data 1)) (State.rf (tServe tLive (tLane BLaneSt.data 1)) Reg.BED_LANE_SEL 0 12)).state = BLaneSt.data ∧ (State.link (tServe tLive (tLane BLaneSt.data 1)) 22 19).state = BLinkSt.live ∧ BLink.retiring (State.link (tServe tLive (tLane BLaneSt.data 1)) 22 19) (State.lane (tServe tLive (tLane BLaneSt.data 1)) (State.rf (tServe tLive (tLane BLaneSt.data 1)) Reg.BED_LANE_SEL 0 12)).pos = false) ∧
    (writable (tServe tLive (tLane BLaneSt.retired 0)) Reg.BED_LANE_CTL ∧ laneInfo (State.rf (tServe tLive (tLane BLaneSt.retired 0)) Reg.BED_LANE_SEL 0 12) = some (22, 19, true) ∧ (State.lane (tServe tLive (tLane BLaneSt.retired 0)) (State.rf (tServe tLive (tLane BLaneSt.retired 0)) Reg.BED_LANE_SEL 0 12)).state = BLaneSt.retired) ∧
    (writable (tServe tLive (tLane BLaneSt.failed 0)) Reg.BED_LANE_CTL ∧ laneInfo (State.rf (tServe tLive (tLane BLaneSt.failed 0)) Reg.BED_LANE_SEL 0 12) = some (22, 19, true) ∧ (State.lane (tServe tLive (tLane BLaneSt.failed 0)) (State.rf (tServe tLive (tLane BLaneSt.failed 0)) Reg.BED_LANE_SEL 0 12)).state ≠ BLaneSt.retired) := by
  and_intros <;> first | decide +kernel | rfl
/-- States and operands that meet the hypotheses of BedLinkResults, part 1. -/
theorem wit_BedLinkResults_1 :
    (linkExists 22 19 = true ∧ (State.link (tBoth tLive BLink.down tOne) 22 19).state = BLinkSt.live ∧ State.linkDies (tBoth tLive BLink.down tOne) 22 19 = true ∧ (State.link (tBoth tLive BLink.down tOne) 19 22).rxBuf = [] ∧ (State.link (tBoth tLive BLink.down tOne) 19 22).owed = []) ∧
    (linkExists 22 19 = true ∧ (State.link w26_61 22 19).state = BLinkSt.live ∧ State.linkDies w26_61 22 19 = true ∧ (State.link w26_61 19 22).rxBuf = [] ∧ (State.link w26_61 19 22).owed = [] ∧ tPay ≠ [] ∧ ((State.link w26_61 22 19).nullOnly ≠ [] ∨ State.bedWidth w26_61 22 19 = 0 ∨ 2047 ≤ List.length (State.link w26_61 22 19).retry ∨ myTurn (State.link w26_61 22 19).lastSrc 3 (List.map (fun x => x.fst) (List.filter (fun y => State.bedCredit w26_61 22 19 y.snd) [(2, 1), (1, 0)])) = false ∨ State.bedCredit w26_61 22 19 7 = false)) ∧
    (linkExists 22 19 = true ∧ (State.link w26_62 22 19).state = BLinkSt.live ∧ State.linkDies w26_62 22 19 = true ∧ (State.link w26_62 19 22).rxBuf = [] ∧ (State.link w26_62 19 22).owed = [] ∧ tPay ≠ [] ∧ List.length tPay ≤ 64 ∧ 7 < 8 ∧ (State.link w26_62 22 19).nullOnly = [] ∧ State.bedWidth w26_62 22 19 ≠ 0 ∧ List.length (State.link w26_62 22 19).retry < 2047 ∧ myTurn (State.link w26_62 22 19).lastSrc 3 (List.map (fun x => x.fst) (List.filter (fun y => State.bedCredit w26_62 22 19 y.snd) [(2, 1), (1, 0)])) = true ∧ (decide (8 ≤ tget 0 (State.link w26_62 22 19).used 7) = true → tget 0 (State.link w26_62 22 19).used 8 < bedUnits 22 19 - 64)) ∧
    ((State.link (tLink BLink.down tOne BLink.down) 22 19).state ≠ BLinkSt.live ∧ (State.link (tLink BLink.down tOne BLink.down) 22 19).state ≠ BLinkSt.train) ∧
    (linkExists 22 19 = true ∧ (State.link w26_65 22 19).state = BLinkSt.live ∧ (∀ (i : Nat), i ∈ State.serving w26_65 22 19 → (State.lane w26_65 i).noLock = false ∧ LaneRx.invalid (State.lane w26_65 i).rx < 16) ∧ State.serving w26_65 22 19 ≠ [] ∧ State.lanesIn w26_65 22 19 BLaneSt.spare = [] ∧ List.length (List.replicate 61 165#8) = 61 * List.length (State.serving w26_65 22 19)) ∧
    (linkExists 22 19 = true ∧ (State.link w26_66 22 19).state = BLinkSt.live ∧ (∀ (i : Nat), i ∈ State.serving w26_66 22 19 → (State.lane w26_66 i).noLock = false ∧ LaneRx.invalid (State.lane w26_66 i).rx < 16) ∧ State.serving w26_66 22 19 ≠ [] ∧ State.lanesIn w26_66 22 19 BLaneSt.spare = [] ∧ List.length (List.replicate 29 165#8) = 29 * List.length (State.serving w26_66 22 19) ∧ List.length [45#8, 0#8, 7#8] ≤ 32) ∧
    (2 ^ 495 + 1 < 2 ^ 496 ∧ 515 < 516) ∧
    (0 < 2 ^ 496 ∧ 0 < 516) := by
  and_intros <;> first | decide +kernel | rfl
/-- States and operands that meet the hypotheses of BedLinkResults, part 2. -/
theorem wit_BedLinkResults_2 :
    (linkExists 22 19 = true ∧ (State.link (tFlitAt tBadFlit tLive tSent) 22 19).state = BLinkSt.live ∧ State.linkDies (tFlitAt tBadFlit tLive tSent) 22 19 = true ∧ (State.period (tFlitAt tBadFlit tLive tSent) 22 19 (tFlitW tBadFlit)).ctl = none ∧ (State.period (tFlitAt tBadFlit tLive tSent) 22 19 (tFlitW tBadFlit)).lost = false ∧ (State.period (tFlitAt tBadFlit tLive tSent) 22 19 (tFlitW tBadFlit)).flits = [tBadFlit] ∧ ¬flitGood tBadFlit) := by
  and_intros <;> first | decide +kernel | rfl
/-- States and operands that meet the hypotheses of BedLinkResults, part 3. -/
theorem wit_BedLinkResults_3 :
    (linkExists 22 19 = true ∧ (State.link (tFlitAt (tFlit 0) tLive tSent) 22 19).state = BLinkSt.live ∧ State.linkDies (tFlitAt (tFlit 0) tLive tSent) 22 19 = true ∧ (State.period (tFlitAt (tFlit 0) tLive tSent) 22 19 (tFlitW (tFlit 0))).ctl = none ∧ (State.period (tFlitAt (tFlit 0) tLive tSent) 22 19 (tFlitW (tFlit 0))).lost = false ∧ (State.period (tFlitAt (tFlit 0) tLive tSent) 22 19 (tFlitW (tFlit 0))).flits = [tFlit 0] ∧ flitGood (tFlit 0) ∧ (bfld (tFlit 0) 4 2 % 2 = 0 ∨ List.filter (fun g => decide ((g.seq + 4096 - bfld (tFlit 0) 0 4 / 2 ^ 20) % 4096 < 2048)) (State.link (State.period (tFlitAt (tFlit 0) tLive tSent) 22 19 (tFlitW (tFlit 0))).st 19 22).retry = [])) := by
  and_intros <;> first | decide +kernel | rfl
/-- States and operands that meet the hypotheses of BedLinkResults, part 4. -/
theorem wit_BedLinkResults_4 :
    (linkExists 22 19 = true ∧ (State.link (tFlitAt (tFlit 1) tLive tSent) 22 19).state = BLinkSt.live ∧ State.linkDies (tFlitAt (tFlit 1) tLive tSent) 22 19 = true ∧ (State.period (tFlitAt (tFlit 1) tLive tSent) 22 19 (tFlitW (tFlit 1))).ctl = none ∧ (State.period (tFlitAt (tFlit 1) tLive tSent) 22 19 (tFlitW (tFlit 1))).lost = false ∧ (State.period (tFlitAt (tFlit 1) tLive tSent) 22 19 (tFlitW (tFlit 1))).flits = [tFlit 1] ∧ flitGood (tFlit 1) ∧ bfld (tFlit 1) 4 2 % 2 = 1 ∧ List.filter (fun g => decide ((g.seq + 4096 - bfld (tFlit 1) 0 4 / 2 ^ 20) % 4096 < 2048)) (State.link (State.period (tFlitAt (tFlit 1) tLive tSent) 22 19 (tFlitW (tFlit 1))).st 19 22).retry ≠ []) := by
  and_intros <;> first | decide +kernel | rfl
/-- States and operands that meet the hypotheses of BedLinkResults, part 5. -/
theorem wit_BedLinkResults_5 :
    (linkExists 22 19 = true ∧ (State.link w26_82 22 19).state = BLinkSt.live ∧ State.linkDies w26_82 22 19 = true ∧ (State.period w26_82 22 19 []).ctl = none ∧ (State.period w26_82 22 19 []).lost = true) := by
  and_intros <;> first | decide +kernel | rfl
/-- States and operands that meet the hypotheses of BedLinkResults, part 6. -/
theorem wit_BedLinkResults_6 :
    (linkExists 22 19 = true ∧ (State.link (tBoth tLive BLink.down tTwo) 22 19).state = BLinkSt.live ∧ State.linkDies (tBoth tLive BLink.down tTwo) 22 19 = true ∧ (State.period (tBoth tLive BLink.down tTwo) 22 19 tDiffer).lost = false ∧ (State.period (tBoth tLive BLink.down tTwo) 22 19 tDiffer).flits = [] ∧ (State.period (tBoth tLive BLink.down tTwo) 22 19 tDiffer).ctl = some (CtlRx.disagree, [])) := by
  and_intros <;> first | decide +kernel | rfl
/-- States and operands that meet the hypotheses of BedLinkResults, part 7. -/
theorem wit_BedLinkResults_7 :
    (linkExists 22 19 = true ∧ (State.link (tCtl tLive) 22 19).state = BLinkSt.live ∧ State.linkDies (tCtl tLive) 22 19 = true ∧ (State.period (tCtl tLive) 22 19 (tCtlW (tMsg 45 0 4294963200 0))).lost = false ∧ (State.period (tCtl tLive) 22 19 (tCtlW (tMsg 45 0 4294963200 0))).flits = [] ∧ (State.period (tCtl tLive) 22 19 (tCtlW (tMsg 45 0 4294963200 0))).ctl = some (CtlRx.good, tMsg 45 0 4294963200 0) ∧ bfld (tMsg 45 0 4294963200 0) 0 1 = 45 ∧ bfld (tMsg 45 0 4294963200 0) 4 4 % 4096 = 0) := by
  and_intros <;> first | decide +kernel | rfl
/-- States and operands that meet the hypotheses of BedLinkResults, part 8. -/
theorem wit_BedLinkResults_8 :
    (linkExists 22 19 = true ∧ (State.link w26_95 22 19).state = BLinkSt.live ∧ State.linkDies w26_95 22 19 = true ∧ (State.period w26_95 22 19 (tCtlW (tMsg 85 0 16 1))).lost = false ∧ (State.period w26_95 22 19 (tCtlW (tMsg 85 0 16 1))).flits = [] ∧ (State.period w26_95 22 19 (tCtlW (tMsg 85 0 16 1))).ctl = some (CtlRx.good, tMsg 85 0 16 1) ∧ bfld (tMsg 85 0 16 1) 0 1 = 85 ∧ BLink.retiring (State.link (State.period w26_95 22 19 (tCtlW (tMsg 85 0 16 1))).st 22 19) (bfld (tMsg 85 0 16 1) 2 2) = false) := by
  and_intros <;> first | decide +kernel | rfl
/-- States and operands that meet the hypotheses of BedLinkResults, part 9. -/
theorem wit_BedLinkResults_9 :
    (linkExists 22 19 = true ∧ (State.link w26_96 22 19).state = BLinkSt.live ∧ State.linkDies w26_96 22 19 = true ∧ (State.period w26_96 22 19 (tCtlW (tMsg 85 0 16 1))).lost = false ∧ (State.period w26_96 22 19 (tCtlW (tMsg 85 0 16 1))).flits = [] ∧ (State.period w26_96 22 19 (tCtlW (tMsg 85 0 16 1))).ctl = some (CtlRx.good, tMsg 85 0 16 1) ∧ bfld (tMsg 85 0 16 1) 0 1 = 85 ∧ (State.link (State.period w26_96 22 19 (tCtlW (tMsg 85 0 16 1))).st 22 19).changes = [BChange.retire (bfld (tMsg 85 0 16 1) 2 2) 4294967295 2 false]) := by
  and_intros <;> first | decide +kernel | rfl
/-- States and operands that meet the hypotheses of BedLinkResults, part 10. -/
theorem wit_BedLinkResults_10 :
    (linkExists 22 19 = true ∧ (State.link (tCtl tLive) 22 19).state = BLinkSt.live ∧ State.linkDies (tCtl tLive) 22 19 = true ∧ (State.period (tCtl tLive) 22 19 (tCtlW (tMsg 102 0 16 1))).lost = false ∧ (State.period (tCtl tLive) 22 19 (tCtlW (tMsg 102 0 16 1))).flits = [] ∧ (State.period (tCtl tLive) 22 19 (tCtlW (tMsg 102 0 16 1))).ctl = some (CtlRx.good, tMsg 102 0 16 1) ∧ bfld (tMsg 102 0 16 1) 0 1 = 102 ∧ BLink.filling (State.link (State.period (tCtl tLive) 22 19 (tCtlW (tMsg 102 0 16 1))).st 22 19) (bfld (tMsg 102 0 16 1) 2 2) = false ∧ List.find? (fun i => (State.lane (State.period (tCtl tLive) 22 19 (tCtlW (tMsg 102 0 16 1))).st i).pos == bfld (tMsg 102 0 16 1) 8 2) (State.lanesIn (State.period (tCtl tLive) 22 19 (tCtlW (tMsg 102 0 16 1))).st 22 19 BLaneSt.spare) = some 3838) := by
  and_intros <;> first | decide +kernel | rfl
/-- States and operands that meet the hypotheses of BedLinkResults, part 11. -/
theorem wit_BedLinkResults_11 :
    (linkExists 22 19 = true ∧ (State.link (tCtl tLive) 22 19).state = BLinkSt.live ∧ State.linkDies (tCtl tLive) 22 19 = true ∧ (State.period (tCtl tLive) 22 19 (tCtlW (tMsg 120 0 2 0))).lost = false ∧ (State.period (tCtl tLive) 22 19 (tCtlW (tMsg 120 0 2 0))).flits = [] ∧ (State.period (tCtl tLive) 22 19 (tCtlW (tMsg 120 0 2 0))).ctl = some (CtlRx.good, tMsg 120 0 2 0) ∧ bfld (tMsg 120 0 2 0) 0 1 = 120 ∧ (State.link (State.period (tCtl tLive) 22 19 (tCtlW (tMsg 120 0 2 0))).st 19 22).state = BLinkSt.live ∧ List.find? (fun i => (State.lane (State.period (tCtl tLive) 22 19 (tCtlW (tMsg 120 0 2 0))).st i).pos == bfld (tMsg 120 0 2 0) 2 2) (State.lanesIn (State.period (tCtl tLive) 22 19 (tCtlW (tMsg 120 0 2 0))).st 19 22 BLaneSt.data) = some 3708 ∧ BLink.retiring (State.link (State.period (tCtl tLive) 22 19 (tCtlW (tMsg 120 0 2 0))).st 19 22) (bfld (tMsg 120 0 2 0) 2 2) = false) := by
  and_intros <;> first | decide +kernel | rfl
/-- States and operands that meet the hypotheses of BedLinkResults, part 12. -/
theorem wit_BedLinkResults_12 :
    (linkExists 22 19 = true ∧ (State.link w26_96 22 19).state = BLinkSt.live ∧ State.linkDies w26_96 22 19 = true ∧ List.find? (fun i => (State.lane w26_96 i).pos == 0) (State.lanesIn w26_96 22 19 BLaneSt.data) = some 3791 ∧ reached 3 4294967295 = true ∧ (State.link w26_96 22 19).changes = [BChange.retire 0 4294967295 2 false]) ∧
    (linkExists 22 19 = true ∧ (State.link w26_100 22 19).state = BLinkSt.live ∧ State.linkDies w26_100 22 19 = true ∧ List.find? (fun i => (State.lane w26_100 i).pos == 0) (State.lanesIn w26_100 22 19 BLaneSt.data) = some 3791 ∧ reached 3 3 = true ∧ (State.link w26_100 22 19).changes = [BChange.retire 0 3 2 false, BChange.join 0 3 3838] ∧ 3838 ∈ State.lanesIn w26_100 22 19 BLaneSt.spare) ∧
    (linkExists 22 19 = true ∧ (State.link (tCtl tLive) 22 19).state = BLinkSt.live ∧ State.linkDies (tCtl tLive) 22 19 = true ∧ State.bedWidth (tCtl tLive) 22 19 ≠ 0) ∧
    (linkExists 22 19 = true ∧ (State.link w26_95 22 19).state = BLinkSt.live ∧ State.linkDies w26_95 22 19 = true ∧ (State.link w26_95 22 19).reqs = [(0, 2)] ∧ (State.link w26_95 22 19).changes = [] ∧ List.find? (fun i => (State.lane w26_95 i).pos == 0) (State.lanesIn w26_95 22 19 BLaneSt.data) = some 3791) ∧
    (linkExists 22 19 = true ∧ (State.link (tCtl tLive) 22 19).state = BLinkSt.live ∧ State.linkDies (tCtl tLive) 22 19 = true ∧ laneInfo 3791 = some (22, 19, false) ∧ (State.lane (tCtl tLive) 3791).state = BLaneSt.data) ∧
    (linkExists 22 19 = true ∧ (State.link (tCtl tLive) 22 19).state = BLinkSt.live ∧ State.linkDies (tCtl tLive) 22 19 = true ∧ laneInfo 3838 = some (22, 19, true) ∧ (State.lane (tCtl tLive) 3838).state = BLaneSt.spare) := by
  and_intros <;> first | decide +kernel | rfl
/-- States and operands that meet the hypotheses of PortPacketResults, part 1. -/
theorem wit_PortPacketResults_1 :
    (State.firstWaiting (tSends tUpPort) 15 4 = some tWaits ∧ State.portLive (tSends tUpPort) 15 = true ∧ ((State.port (tSends tUpPort) 15).replayDue = false ∧ (State.port (tSends tUpPort) 15).deepReq = false ∧ Port.width (State.port (tSends tUpPort) 15) ≠ 0 ∧ List.length (State.port (tSends tUpPort) 15).unacked < 32767 ∧ pktUnits tWaits.pkt ≤ Port.credit (State.port (tSends tUpPort) 15) 4) ∧ List.length (List.filter (fun k => !k.spilled) (State.port (tSends tUpPort) 15).unacked) < 4096) := by
  and_intros <;> first | decide +kernel | rfl
/-- States and operands that meet the hypotheses of PortPacketResults, part 2. -/
theorem wit_PortPacketResults_2 :
    (State.firstWaiting w27_24 15 4 = some tWaits ∧ State.portLive w27_24 15 = true ∧ ((State.port w27_24 15).replayDue = false ∧ (State.port w27_24 15).deepReq = false ∧ Port.width (State.port w27_24 15) ≠ 0 ∧ List.length (State.port w27_24 15).unacked < 32767 ∧ pktUnits tWaits.pkt ≤ Port.credit (State.port w27_24 15) 4) ∧ List.length (List.filter (fun k => !k.spilled) (State.port w27_24 15).unacked) = 4096 ∧ State.bwPath w27_24 15 = true ∧ List.find? (fun k => !k.spilled) (State.port w27_24 15).unacked = some (tKept 61439 false)) := by
  and_intros <;> first | decide +kernel | rfl
/-- States and operands that meet the hypotheses of PortPacketResults, part 3. -/
theorem wit_PortPacketResults_3 :
    (State.firstWaiting w27_25 15 4 = some tWaits ∧ State.portLive w27_25 15 = true ∧ (¬((State.port w27_25 15).replayDue = false ∧ (State.port w27_25 15).deepReq = false ∧ Port.width (State.port w27_25 15) ≠ 0 ∧ List.length (State.port w27_25 15).unacked < 32767 ∧ pktUnits tWaits.pkt ≤ Port.credit (State.port w27_25 15) 4) ∨ State.bwPath w27_25 15 = false ∧ 4096 ≤ List.length (List.filter (fun k => !k.spilled) (State.port w27_25 15).unacked))) ∧
    (State.firstWaiting w27_26 15 4 = some tWaits ∧ (State.port w27_26 15).state = PortSt.down ∧ State.portDie w27_26 15 = true ∧ (State.port w27_26 15).grace = true ∧ List.contains (State.port w27_26 15).held tWaits = false ∧ State.bwPath w27_26 15 = true ∧ Port.heldBytes (State.port w27_26 15) + 36 + 32 * Packet.units32 tWaits.pkt ≤ 48 * 2 ^ 20) ∧
    (List.length (List.replicate 320 165#8) = 320 ∧ (∀ (p : Nat), some 316 = some p → p % 4 = 0 ∧ p < 320)) ∧
    (List.length (List.replicate 320 255#8) = 320 ∧ (∀ (p : Nat), none = some p → p % 4 = 0 ∧ p < 320)) ∧
    ((∀ (cs : List Nat), cs ∈ [List.replicate 272 1023, List.range 272, List.replicate 272 5] → List.length cs = 272 ∧ ∀ (a : Nat), a ∈ cs → a < 1024) ∧ [List.replicate 272 1023, List.range 272, List.replicate 272 5][1]? = some (List.range 272)) ∧
    (2 ^ 256 - 3 < 2 ^ 256) ∧
    ((tStat 65535 true true).ack < 2 ^ 16 ∧ (tStat 65535 true true).sfCount < 2 ^ 32 ∧ (tStat 65535 true true).heartbeat < 2 ^ 16 ∧ (tStat 65535 true true).session < 2 ^ 16 ∧ List.length (tStat 65535 true true).credits = 5 ∧ (∀ (c : Nat), c ∈ (tStat 65535 true true).credits → c < 2 ^ 16)) ∧
    (State.portLive (tGets tGoodGroup 65535 false) 15 = true ∧ Port.blocks (State.port (tGets tGoodGroup 65535 false) 15) 15 [] = ((tBrings (tGets tGoodGroup 65535 false) []).fst, (tBrings (tGets tGoodGroup 65535 false) []).snd.fst, (tBrings (tGets tGoodGroup 65535 false) []).snd.snd.fst, (tBrings (tGets tGoodGroup 65535 false) []).snd.snd.snd) ∧ (decide (Port.serving (tBrings (tGets tGoodGroup 65535 false) []).fst ≠ []) && List.all (Port.serving (tBrings (tGets tGoodGroup 65535 false) []).fst) fun i => (Port.fl (tBrings (tGets tGoodGroup 65535 false) []).fst i).noLock) = false ∧ (tBrings (tGets tGoodGroup 65535 false) []).snd.fst = []) := by
  and_intros <;> first | decide +kernel | rfl
/-- States and operands that meet the hypotheses of PortPacketResults, part 4. -/
theorem wit_PortPacketResults_4 :
    (State.portLive (tGets tBadGroup 65535 false) 15 = true ∧ Port.blocks (State.port (tGets tBadGroup 65535 false) 15) 15 (tData tBadGroup) = ((tBrings (tGets tBadGroup 65535 false) (tData tBadGroup)).fst, (tBrings (tGets tBadGroup 65535 false) (tData tBadGroup)).snd.fst, (tBrings (tGets tBadGroup 65535 false) (tData tBadGroup)).snd.snd.fst, (tBrings (tGets tBadGroup 65535 false) (tData tBadGroup)).snd.snd.snd) ∧ (decide (Port.serving (tBrings (tGets tBadGroup 65535 false) (tData tBadGroup)).fst ≠ []) && List.all (Port.serving (tBrings (tGets tBadGroup 65535 false) (tData tBadGroup)).fst) fun i => (Port.fl (tBrings (tGets tBadGroup 65535 false) (tData tBadGroup)).fst i).noLock) = false ∧ (tBrings (tGets tBadGroup 65535 false) (tData tBadGroup)).snd.fst = [none]) := by
  and_intros <;> first | decide +kernel | rfl
/-- States and operands that meet the hypotheses of PortPacketResults, part 5. -/
theorem wit_PortPacketResults_5 :
    (State.portLive (tGets tGoodGroup 65535 false) 15 = true ∧ Port.blocks (State.port (tGets tGoodGroup 65535 false) 15) 15 (tData tGoodGroup) = ((tBrings (tGets tGoodGroup 65535 false) (tData tGoodGroup)).fst, (tBrings (tGets tGoodGroup 65535 false) (tData tGoodGroup)).snd.fst, (tBrings (tGets tGoodGroup 65535 false) (tData tGoodGroup)).snd.snd.fst, (tBrings (tGets tGoodGroup 65535 false) (tData tGoodGroup)).snd.snd.snd) ∧ (decide (Port.serving (tBrings (tGets tGoodGroup 65535 false) (tData tGoodGroup)).fst ≠ []) && List.all (Port.serving (tBrings (tGets tGoodGroup 65535 false) (tData tGoodGroup)).fst) fun i => (Port.fl (tBrings (tGets tGoodGroup 65535 false) (tData tGoodGroup)).fst i).noLock) = false ∧ (tBrings (tGets tGoodGroup 65535 false) (tData tGoodGroup)).snd.fst = [some tPB] ∧ (BitVec.toNat (crc32c (List.take (List.length tPB - 4) tPB)) == ofBytesLE (List.drop (List.length tPB - 4) tPB)) = true ∧ ((packetOf tPB).fst + 65536 - (tBrings (tGets tGoodGroup 65535 false) (tData tGoodGroup)).fst.e) % 65536 = 0) := by
  and_intros <;> first | decide +kernel | rfl
/-- States and operands that meet the hypotheses of PortPacketResults, part 6. -/
theorem wit_PortPacketResults_6 :
    (State.portLive (tGets tGoodGroup 0 false) 15 = true ∧ Port.blocks (State.port (tGets tGoodGroup 0 false) 15) 15 (tData tGoodGroup) = ((tBrings (tGets tGoodGroup 0 false) (tData tGoodGroup)).fst, (tBrings (tGets tGoodGroup 0 false) (tData tGoodGroup)).snd.fst, (tBrings (tGets tGoodGroup 0 false) (tData tGoodGroup)).snd.snd.fst, (tBrings (tGets tGoodGroup 0 false) (tData tGoodGroup)).snd.snd.snd) ∧ (decide (Port.serving (tBrings (tGets tGoodGroup 0 false) (tData tGoodGroup)).fst ≠ []) && List.all (Port.serving (tBrings (tGets tGoodGroup 0 false) (tData tGoodGroup)).fst) fun i => (Port.fl (tBrings (tGets tGoodGroup 0 false) (tData tGoodGroup)).fst i).noLock) = false ∧ (tBrings (tGets tGoodGroup 0 false) (tData tGoodGroup)).snd.fst = [some tPB] ∧ (BitVec.toNat (crc32c (List.take (List.length tPB - 4) tPB)) == ofBytesLE (List.drop (List.length tPB - 4) tPB)) = true ∧ 32769 ≤ ((packetOf tPB).fst + 65536 - (tBrings (tGets tGoodGroup 0 false) (tData tGoodGroup)).fst.e) % 65536) := by
  and_intros <;> first | decide +kernel | rfl
/-- States and operands that meet the hypotheses of PortPacketResults, part 7. -/
theorem wit_PortPacketResults_7 :
    (State.portLive (tGets tGoodGroup 65534 false) 15 = true ∧ Port.blocks (State.port (tGets tGoodGroup 65534 false) 15) 15 (tData tGoodGroup) = ((tBrings (tGets tGoodGroup 65534 false) (tData tGoodGroup)).fst, (tBrings (tGets tGoodGroup 65534 false) (tData tGoodGroup)).snd.fst, (tBrings (tGets tGoodGroup 65534 false) (tData tGoodGroup)).snd.snd.fst, (tBrings (tGets tGoodGroup 65534 false) (tData tGoodGroup)).snd.snd.snd) ∧ (decide (Port.serving (tBrings (tGets tGoodGroup 65534 false) (tData tGoodGroup)).fst ≠ []) && List.all (Port.serving (tBrings (tGets tGoodGroup 65534 false) (tData tGoodGroup)).fst) fun i => (Port.fl (tBrings (tGets tGoodGroup 65534 false) (tData tGoodGroup)).fst i).noLock) = false ∧ (tBrings (tGets tGoodGroup 65534 false) (tData tGoodGroup)).snd.fst = [some tPB] ∧ ((BitVec.toNat (crc32c (List.take (List.length tPB - 4) tPB)) == ofBytesLE (List.drop (List.length tPB - 4) tPB)) = false ∨ 0 < ((packetOf tPB).fst + 65536 - (tBrings (tGets tGoodGroup 65534 false) (tData tGoodGroup)).fst.e) % 65536 ∧ ((packetOf tPB).fst + 65536 - (tBrings (tGets tGoodGroup 65534 false) (tData tGoodGroup)).fst.e) % 65536 < 32769)) := by
  and_intros <;> first | decide +kernel | rfl
/-- States and operands that meet the hypotheses of PortPacketResults, part 8. -/
theorem wit_PortPacketResults_8 :
    (State.portLive (tGets tGoodGroup 65535 true) 15 = true ∧ Port.blocks (State.port (tGets tGoodGroup 65535 true) 15) 15 [] = ((tBrings (tGets tGoodGroup 65535 true) []).fst, (tBrings (tGets tGoodGroup 65535 true) []).snd.fst, (tBrings (tGets tGoodGroup 65535 true) []).snd.snd.fst, (tBrings (tGets tGoodGroup 65535 true) []).snd.snd.snd) ∧ (decide (Port.serving (tBrings (tGets tGoodGroup 65535 true) []).fst ≠ []) && List.all (Port.serving (tBrings (tGets tGoodGroup 65535 true) []).fst) fun i => (Port.fl (tBrings (tGets tGoodGroup 65535 true) []).fst i).noLock) = true) ∧
    (State.portLive (tGets tGoodGroup 65535 false) 15 = true ∧ Port.blocks (State.port (tGets tGoodGroup 65535 false) 15) 15 [] = ((tBrings (tGets tGoodGroup 65535 false) []).fst, (tBrings (tGets tGoodGroup 65535 false) []).snd.fst, (tBrings (tGets tGoodGroup 65535 false) []).snd.snd.fst, (tBrings (tGets tGoodGroup 65535 false) []).snd.snd.snd)) ∧
    (State.portLive (tPort tTwoOut) 15 = true ∧ Port.slot (State.port (tPort tTwoOut) 15) (tSlot2 (tSt 65535 false false) (tSt 65535 false false)) = ((tHeard tTwoOut (tSt 65535 false false) (tSt 65535 false false)).fst, (tHeard tTwoOut (tSt 65535 false false) (tSt 65535 false false)).snd) ∧ (slotHas (tHeard tTwoOut (tSt 65535 false false) (tSt 65535 false false)).snd (CtlRx.good, slotBytes (tSt 65535 false false)) ∧ bfld (slotBytes (tSt 65535 false false)) 0 1 = 60) ∧ (statusOf (slotBytes (tSt 65535 false false))).deepReq = false ∧ (statusOf (slotBytes (tSt 65535 false false))).standbyReq = false ∧ (statusOf (slotBytes (tSt 65535 false false))).standbyAck = false ∧ ((statusOf (slotBytes (tSt 65535 false false))).ack % 65536 + 65536 - (tHeard tTwoOut (tSt 65535 false false) (tSt 65535 false false)).fst.u) % 65536 ≤ ((tHeard tTwoOut (tSt 65535 false false) (tSt 65535 false false)).fst.n + 65536 - (tHeard tTwoOut (tSt 65535 false false) (tSt 65535 false false)).fst.u) % 65536 ∧ (statusOf (slotBytes (tSt 65535 false false))).nak = false ∧ (tHeard tTwoOut (tSt 65535 false false) (tSt 65535 false false)).fst.replayDue = false) ∧
    (State.portLive (tPort tTwoOut) 15 = true ∧ Port.slot (State.port (tPort tTwoOut) 15) (tSlot2 (tSt 65534 true false) (tSt 65534 true false)) = ((tHeard tTwoOut (tSt 65534 true false) (tSt 65534 true false)).fst, (tHeard tTwoOut (tSt 65534 true false) (tSt 65534 true false)).snd) ∧ (slotHas (tHeard tTwoOut (tSt 65534 true false) (tSt 65534 true false)).snd (CtlRx.good, slotBytes (tSt 65534 true false)) ∧ bfld (slotBytes (tSt 65534 true false)) 0 1 = 60) ∧ (statusOf (slotBytes (tSt 65534 true false))).deepReq = false ∧ (statusOf (slotBytes (tSt 65534 true false))).standbyReq = false ∧ (statusOf (slotBytes (tSt 65534 true false))).standbyAck = false ∧ ((statusOf (slotBytes (tSt 65534 true false))).ack % 65536 + 65536 - (tHeard tTwoOut (tSt 65534 true false) (tSt 65534 true false)).fst.u) % 65536 ≤ ((tHeard tTwoOut (tSt 65534 true false) (tSt 65534 true false)).fst.n + 65536 - (tHeard tTwoOut (tSt 65534 true false) (tSt 65534 true false)).fst.u) % 65536 ∧ ((statusOf (slotBytes (tSt 65534 true false))).nak = true ∨ (tHeard tTwoOut (tSt 65534 true false) (tSt 65534 true false)).fst.replayDue = true) ∧ List.drop (((statusOf (slotBytes (tSt 65534 true false))).ack % 65536 + 65536 - (tHeard tTwoOut (tSt 65534 true false) (tSt 65534 true false)).fst.u) % 65536) (tHeard tTwoOut (tSt 65534 true false) (tSt 65534 true false)).fst.unacked ≠ [] ∧ (∀ (k : TxPkt), k ∈ List.drop (((statusOf (slotBytes (tSt 65534 true false))).ack % 65536 + 65536 - (tHeard tTwoOut (tSt 65534 true false) (tSt 65534 true false)).fst.u) % 65536) (tHeard tTwoOut (tSt 65534 true false) (tSt 65534 true false)).fst.unacked → k.spilled = false)) ∧
    (State.portLive (tPort tTwoOut) 15 = true ∧ Port.slot (State.port (tPort tTwoOut) 15) (tSlot2 (tSt 0 false false) (tSt 0 false false)) = ((tHeard tTwoOut (tSt 0 false false) (tSt 0 false false)).fst, (tHeard tTwoOut (tSt 0 false false) (tSt 0 false false)).snd) ∧ (slotHas (tHeard tTwoOut (tSt 0 false false) (tSt 0 false false)).snd (CtlRx.good, slotBytes (tSt 0 false false)) ∧ bfld (slotBytes (tSt 0 false false)) 0 1 = 60) ∧ (statusOf (slotBytes (tSt 0 false false))).deepReq = false ∧ (statusOf (slotBytes (tSt 0 false false))).standbyReq = false ∧ (statusOf (slotBytes (tSt 0 false false))).standbyAck = false ∧ ((tHeard tTwoOut (tSt 0 false false) (tSt 0 false false)).fst.n + 65536 - (tHeard tTwoOut (tSt 0 false false) (tSt 0 false false)).fst.u) % 65536 < ((statusOf (slotBytes (tSt 0 false false))).ack % 65536 + 65536 - (tHeard tTwoOut (tSt 0 false false) (tSt 0 false false)).fst.u) % 65536) := by
  and_intros <;> first | decide +kernel | rfl
/-- States and operands that meet the hypotheses of PortPacketResults, part 9. -/
theorem wit_PortPacketResults_9 :
    (State.portLive (tPort tUpPort) 15 = true ∧ Port.slot (State.port (tPort tUpPort) 15) (tSlot2 (tSt 65535 false true) (tSt 65535 false true)) = ((tHeard tUpPort (tSt 65535 false true) (tSt 65535 false true)).fst, (tHeard tUpPort (tSt 65535 false true) (tSt 65535 false true)).snd) ∧ (slotHas (tHeard tUpPort (tSt 65535 false true) (tSt 65535 false true)).snd (CtlRx.good, slotBytes (tSt 65535 false true)) ∧ bfld (slotBytes (tSt 65535 false true)) 0 1 = 60) ∧ (statusOf (slotBytes (tSt 65535 false true))).deepReq = false ∧ (statusOf (slotBytes (tSt 65535 false true))).standbyReq = true ∧ (statusOf (slotBytes (tSt 65535 false true))).nak = false ∧ (tHeard tUpPort (tSt 65535 false true) (tSt 65535 false true)).fst.replayDue = false ∧ State.portIdle (State.setPort (tPort tUpPort) 15 (tHeard tUpPort (tSt 65535 false true) (tSt 65535 false true)).fst) 15 = true ∧ State.rb (tPort tUpPort) (Reg.Sd_PORTp_CTL 15) 10 = true) ∧
    (State.portLive (tPort tUpPort) 15 = true ∧ Port.slot (State.port (tPort tUpPort) 15) (tSlot2 (tSt 65535 false true) (tSt 65535 false false)) = ((tHeard tUpPort (tSt 65535 false true) (tSt 65535 false false)).fst, (tHeard tUpPort (tSt 65535 false true) (tSt 65535 false false)).snd) ∧ slotHas (tHeard tUpPort (tSt 65535 false true) (tSt 65535 false false)).snd (CtlRx.disagree, [])) ∧
    (State.portLive (tPort tUpPort) 15 = true ∧ Port.slot (State.port (tPort tUpPort) 15) [] = ((Port.slot tUpPort []).fst, (Port.slot tUpPort []).snd) ∧ slotHas (Port.slot tUpPort []).snd (CtlRx.failed, [])) ∧
    (State.portLive (tPort tTwoOut) 15 = true ∧ (State.port (tPort tTwoOut) 15).unacked ≠ [] ∧ (∀ (k : TxPkt), k ∈ (State.port (tPort tTwoOut) 15).unacked → k.spilled = false)) ∧
    (State.portLive w27_75 15 = true ∧ State.bwPath w27_75 15 = false ∧ (∃ k, k ∈ (State.port w27_75 15).unacked ∧ k.spilled = true)) ∧
    (State.portLive w27_76 15 = true ∧ noOwn w27_76 15 ∧ State.bwPath w27_76 15 = true ∧ (∃ k, k ∈ (State.port w27_76 15).unacked ∧ k.spilled = true)) ∧
    (State.portLive (tPort tUpPort) 15 = true ∧ (State.port (tPort tUpPort) 15).unacked = []) ∧
    (State.portLive w27_78 15 = true ∧ 4 < 5 ∧ State.firstWaiting w27_78 15 4 = some tWaits ∧ Port.credit (State.port w27_78 15) 4 < pktUnits tWaits.pkt ∧ Port.width (State.port w27_78 15) ≠ 0) ∧
    (State.portLive (tPort tUpPort) 15 = true) := by
  and_intros <;> first | decide +kernel | rfl
/-- States and operands that meet the hypotheses of PortLaneResults, part 1. -/
theorem wit_PortLaneResults_1 :
    (State.portLive w27_87c 15 = true ∧ Port.slot (State.port w27_87c 15) (tSlot2 (tM 85 0 16 1) (tM 85 0 16 1)) = (w27_87, w27_87b) ∧ slotHas w27_87b (CtlRx.good, slotBytes (tM 85 0 16 1)) ∧ bfld (slotBytes (tM 85 0 16 1)) 0 1 = 85 ∧ Port.retiring w27_87 (bfld (slotBytes (tM 85 0 16 1)) 1 1) = false) ∧
    (State.portLive (tPort tRet) 15 = true ∧ Port.slot (State.port (tPort tRet) 15) (tSlot2 (tM 85 0 16 1) (tM 85 0 16 1)) = ((tSlotOf tRet (tM 85 0 16 1)).fst, (tSlotOf tRet (tM 85 0 16 1)).snd) ∧ slotHas (tSlotOf tRet (tM 85 0 16 1)).snd (CtlRx.good, slotBytes (tM 85 0 16 1)) ∧ bfld (slotBytes (tM 85 0 16 1)) 0 1 = 85 ∧ (tSlotOf tRet (tM 85 0 16 1)).fst.changes = [FChange.retire (bfld (slotBytes (tM 85 0 16 1)) 1 1) 4294967295 2 false]) ∧
    (State.portLive (tPort tReady) 15 = true ∧ Port.slot (State.port (tPort tReady) 15) (tSlot2 (tM 102 5 16 33) (tM 102 5 16 33) ++ [(33, (sendBlock 0 true (ofBytesBE (slotBytes (tM 102 5 16 33)))).snd)]) = ((Port.slot tReady (tSlot2 (tM 102 5 16 33) (tM 102 5 16 33) ++ [(33, (sendBlock 0 true (ofBytesBE (slotBytes (tM 102 5 16 33)))).snd)])).fst, (Port.slot tReady (tSlot2 (tM 102 5 16 33) (tM 102 5 16 33) ++ [(33, (sendBlock 0 true (ofBytesBE (slotBytes (tM 102 5 16 33)))).snd)])).snd) ∧ slotHas (Port.slot tReady (tSlot2 (tM 102 5 16 33) (tM 102 5 16 33) ++ [(33, (sendBlock 0 true (ofBytesBE (slotBytes (tM 102 5 16 33)))).snd)])).snd (CtlRx.good, slotBytes (tM 102 5 16 33)) ∧ bfld (slotBytes (tM 102 5 16 33)) 0 1 = 102 ∧ Port.filling (Port.slot tReady (tSlot2 (tM 102 5 16 33) (tM 102 5 16 33) ++ [(33, (sendBlock 0 true (ofBytesBE (slotBytes (tM 102 5 16 33)))).snd)])).fst (bfld (slotBytes (tM 102 5 16 33)) 1 1) = false ∧ (Port.fl (Port.slot tReady (tSlot2 (tM 102 5 16 33) (tM 102 5 16 33) ++ [(33, (sendBlock 0 true (ofBytesBE (slotBytes (tM 102 5 16 33)))).snd)])).fst (bfld (slotBytes (tM 102 5 16 33)) 6 1)).state = BLaneSt.spare ∧ bfld (slotBytes (tM 102 5 16 33)) 6 1 < 34) ∧
    (State.portLive (tPort tUpPort) 15 = true ∧ Port.slot (State.port (tPort tUpPort) 15) (tSlot2 (tM 120 1 2 0) (tM 120 1 2 0)) = ((tSlotOf tUpPort (tM 120 1 2 0)).fst, (tSlotOf tUpPort (tM 120 1 2 0)).snd) ∧ slotHas (tSlotOf tUpPort (tM 120 1 2 0)).snd (CtlRx.good, slotBytes (tM 120 1 2 0)) ∧ bfld (slotBytes (tM 120 1 2 0)) 0 1 = 120 ∧ Port.lineAt (tSlotOf tUpPort (tM 120 1 2 0)).fst (bfld (slotBytes (tM 120 1 2 0)) 1 1) = some 1 ∧ Port.retiring (tSlotOf tUpPort (tM 120 1 2 0)).fst (bfld (slotBytes (tM 120 1 2 0)) 1 1) = false) ∧
    (State.portLive (tPort (tThree [FChange.retire 0 4294967295 6 true])) 15 = true ∧ Port.lineAt (State.port (tPort (tThree [FChange.retire 0 4294967295 6 true])) 15) 0 = some 0 ∧ reached 3 4294967295 = true ∧ (6 = 1 ∨ 6 = 3 ∨ 6 = 6) ∧ (State.port (tPort (tThree [FChange.retire 0 4294967295 6 true])) 15).changes = [FChange.retire 0 4294967295 6 true] ∧ State.minWidth (tPort (tThree [FChange.retire 0 4294967295 6 true])) 15 < Port.width (State.port (tPort (tThree [FChange.retire 0 4294967295 6 true])) 15)) ∧
    (State.portLive w27_98 15 = true ∧ Port.lineAt (State.port w27_98 15) 0 = some 0 ∧ reached 3 3 = true ∧ (6 = 1 ∨ 6 = 3 ∨ 6 = 6) ∧ (State.port w27_98 15).changes = [FChange.retire 0 3 6 true, FChange.join 0 3 33] ∧ (Port.fl (State.port w27_98 15) 33).state = BLaneSt.spare ∧ 33 < 34) ∧
    (State.portLive w27_99 15 = true ∧ Port.lineAt (State.port w27_99 15) 0 = some 0 ∧ reached 3 3 = true ∧ (6 = 1 ∨ 6 = 3 ∨ 6 = 6) ∧ (State.port w27_99 15).changes = [FChange.retire 0 3 6 true] ∧ Port.width (State.port w27_99 15) ≤ State.minWidth w27_99 15 ∧ graceOn w27_99 15) ∧
    (State.portLive w27_100 15 = true ∧ (State.port w27_100 15).reqs = [(1, 2)] ∧ (State.port w27_100 15).changes = [] ∧ Port.lineAt (State.port w27_100 15) 1 = some 1 ∧ (2 = 1 ∨ 2 = 2)) ∧
    (State.portLive (tPort tUpPort) 15 = true ∧ 1 < 34 ∧ (Port.fl (State.port (tPort tUpPort) 15) 1).state = BLaneSt.data) ∧
    (State.portLive (tPort tReady) 15 = true ∧ 33 < 34 ∧ (Port.fl (State.port (tPort tReady) 15) 33).state = BLaneSt.spare) ∧
    (State.portLive w27_103 15 = true ∧ 33 < 34 ∧ (Port.fl (State.port w27_103 15) 33).state = BLaneSt.training ∧ (Port.fl (State.port w27_103 15) 33).after = none ∧ State.flRings w27_103 15 33 = true ∧ Port.holePos (Port.setFl (State.port w27_103 15) 33 { state := BLaneSt.spare, pos := Port.freeSparePos (State.port w27_103 15), cause := (Port.fl (State.port w27_103 15) 33).cause, planned := (Port.fl (State.port w27_103 15) 33).planned, cause2 := (Port.fl (State.port w27_103 15) 33).cause2, tries := 0, after := (Port.fl (State.port w27_103 15) 33).after, noLock := false, rx := (Port.fl (State.port w27_103 15) 33).rx, tx := (Port.fl (State.port w27_103 15) 33).tx : BLane }) = none) ∧
    (State.portLive (tPort (tSpare tUpPort BLaneSt.training 33)) 15 = true ∧ 33 < 34 ∧ (Port.fl (State.port (tPort (tSpare tUpPort BLaneSt.training 33)) 15) 33).state = BLaneSt.training ∧ (Port.fl (State.port (tPort (tSpare tUpPort BLaneSt.training 33)) 15) 33).after = none ∧ State.flRings (tPort (tSpare tUpPort BLaneSt.training 33)) 15 33 = true ∧ Port.holePos (Port.setFl (State.port (tPort (tSpare tUpPort BLaneSt.training 33)) 15) 33 { state := BLaneSt.spare, pos := Port.freeSparePos (State.port (tPort (tSpare tUpPort BLaneSt.training 33)) 15), cause := (Port.fl (State.port (tPort (tSpare tUpPort BLaneSt.training 33)) 15) 33).cause, planned := (Port.fl (State.port (tPort (tSpare tUpPort BLaneSt.training 33)) 15) 33).planned, cause2 := (Port.fl (State.port (tPort (tSpare tUpPort BLaneSt.training 33)) 15) 33).cause2, tries := 0, after := (Port.fl (State.port (tPort (tSpare tUpPort BLaneSt.training 33)) 15) 33).after, noLock := false, rx := (Port.fl (State.port (tPort (tSpare tUpPort BLaneSt.training 33)) 15) 33).rx, tx := (Port.fl (State.port (tPort (tSpare tUpPort BLaneSt.training 33)) 15) 33).tx : BLane }) = some 2) ∧
    (State.portLive (tPort (tSpare tUpPort BLaneSt.training 33)) 15 = true ∧ 33 < 34 ∧ (Port.fl (State.port (tPort (tSpare tUpPort BLaneSt.training 33)) 15) 33).state = BLaneSt.training ∧ (Port.fl (State.port (tPort (tSpare tUpPort BLaneSt.training 33)) 15) 33).after = none ∧ State.flRings (tPort (tSpare tUpPort BLaneSt.training 33)) 15 33 = true ∧ (Port.fl (State.port (tPort (tSpare tUpPort BLaneSt.training 33)) 15) 33).tries < 2) := by
  and_intros <;> first | decide +kernel | rfl
/-- States and operands that meet the hypotheses of PortLaneResults, part 2. -/
theorem wit_PortLaneResults_2 :
    (State.portLive w27_106 15 = true ∧ 33 < 34 ∧ (Port.fl (State.port w27_106 15) 33).state = BLaneSt.training ∧ (Port.fl (State.port w27_106 15) 33).after = none ∧ State.flRings w27_106 15 33 = true ∧ 2 ≤ (Port.fl (State.port w27_106 15) 33).tries) ∧
    (writable (tPort tReady) (Reg.Sd_PORTp_LANE_CTL 15) ∧ State.rf (tPort tReady) (Reg.Sd_PORTp_LANE_SEL 15) 0 6 < 34 ∧ (3#32 = 1#32 ∨ 3#32 = 3#32) ∧ (Port.fl (State.port (tPort tReady) 15) (State.rf (tPort tReady) (Reg.Sd_PORTp_LANE_SEL 15) 0 6)).state = BLaneSt.spare) ∧
    (writable (tPort (tSpare tUpPort BLaneSt.data 2)) (Reg.Sd_PORTp_LANE_CTL 15) ∧ State.rf (tPort (tSpare tUpPort BLaneSt.data 2)) (Reg.Sd_PORTp_LANE_SEL 15) 0 6 < 34 ∧ (1#32 = 1#32 ∨ 1#32 = 3#32) ∧ (Port.fl (State.port (tPort (tSpare tUpPort BLaneSt.data 2)) 15) (State.rf (tPort (tSpare tUpPort BLaneSt.data 2)) (Reg.Sd_PORTp_LANE_SEL 15) 0 6)).state = BLaneSt.data ∧ (State.port (tPort (tSpare tUpPort BLaneSt.data 2)) 15).state = PortSt.live ∧ Port.retiring (State.port (tPort (tSpare tUpPort BLaneSt.data 2)) 15) (Port.fl (State.port (tPort (tSpare tUpPort BLaneSt.data 2)) 15) (State.rf (tPort (tSpare tUpPort BLaneSt.data 2)) (Reg.Sd_PORTp_LANE_SEL 15) 0 6)).pos = false) ∧
    (writable (tPort (tSpare tUpPort BLaneSt.retired 0)) (Reg.Sd_PORTp_LANE_CTL 15) ∧ State.rf (tPort (tSpare tUpPort BLaneSt.retired 0)) (Reg.Sd_PORTp_LANE_SEL 15) 0 6 < 34 ∧ (Port.fl (State.port (tPort (tSpare tUpPort BLaneSt.retired 0)) 15) (State.rf (tPort (tSpare tUpPort BLaneSt.retired 0)) (Reg.Sd_PORTp_LANE_SEL 15) 0 6)).state = BLaneSt.retired) ∧
    (writable (tPort (tSpare tUpPort BLaneSt.failed 0)) (Reg.Sd_PORTp_LANE_CTL 15) ∧ State.rf (tPort (tSpare tUpPort BLaneSt.failed 0)) (Reg.Sd_PORTp_LANE_SEL 15) 0 6 < 34 ∧ (Port.fl (State.port (tPort (tSpare tUpPort BLaneSt.failed 0)) 15) (State.rf (tPort (tSpare tUpPort BLaneSt.failed 0)) (Reg.Sd_PORTp_LANE_SEL 15) 0 6)).state ≠ BLaneSt.retired) := by
  and_intros <;> first | decide +kernel | rfl
/-- States and operands that meet the hypotheses of PortTrainingResults, part 1. -/
theorem wit_PortTrainingResults_1 :
    (State.portMayTrain (tPort (tDownP 2)) 15 = true) ∧
    (State.portMayTrain (tPort (tDownP 4)) 15 = true ∧ 4 ≤ (State.port (tPort (tDownP 4)) 15).cause) ∧
    (State.portMayTrain w27_115 15 = false) ∧
    (State.portLive (tPort tUpPort) 15 = true) ∧
    (State.portDie (tPort (tTrain true)) 15 = true ∧ (State.port (tPort (tTrain true)) 15).state = PortSt.train ∧ (State.port (tPort (tTrain true)) 15).retraining = true ∧ graceOn (tPort (tTrain true)) 15) ∧
    ((Port.setFl (State.port (tPort (tTrain false)) 15) 33 (BLane.fiberBlock (Port.fl (State.port (tPort (tTrain false)) 15) 33) (BitVec.toNat 0#258)).fst).state = PortSt.train ∧ (Port.setFl (State.port (tPort (tTrain false)) 15) 33 (BLane.fiberBlock (Port.fl (State.port (tPort (tTrain false)) 15) 33) (BitVec.toNat 0#258)).fst).retraining = false ∧ State.portDie (tPort (tTrain false)) 15 = true ∧ 7 < 8 ∧ 33 < 34 ∧ (!(BLane.fiberBlock (Port.fl (State.port (tPort (tTrain false)) 15) 33) (BitVec.toNat 0#258)).fst.noLock && (BLane.fiberBlock (Port.fl (State.port (tPort (tTrain false)) 15) 33) (BitVec.toNat 0#258)).snd.fst && slotOk (BLane.fiberBlock (Port.fl (State.port (tPort (tTrain false)) 15) 33) (BitVec.toNat 0#258)).snd.snd) = false) ∧
    ((Port.setFl (State.port (tPort (tTrain false)) 15) 2 (BLane.fiberBlock (Port.fl (State.port (tPort (tTrain false)) 15) 2) (BitVec.toNat (tPTs 51))).fst).state = PortSt.train ∧ (Port.setFl (State.port (tPort (tTrain false)) 15) 2 (BLane.fiberBlock (Port.fl (State.port (tPort (tTrain false)) 15) 2) (BitVec.toNat (tPTs 51))).fst).retraining = false ∧ State.portDie (tPort (tTrain false)) 15 = true ∧ 7 < 8 ∧ 2 < 34 ∧ (!(BLane.fiberBlock (Port.fl (State.port (tPort (tTrain false)) 15) 2) (BitVec.toNat (tPTs 51))).fst.noLock && (BLane.fiberBlock (Port.fl (State.port (tPort (tTrain false)) 15) 2) (BitVec.toNat (tPTs 51))).snd.fst && slotOk (BLane.fiberBlock (Port.fl (State.port (tPort (tTrain false)) 15) 2) (BitVec.toNat (tPTs 51))).snd.snd) = true ∧ bfld (BLane.fiberBlock (Port.fl (State.port (tPort (tTrain false)) 15) 2) (BitVec.toNat (tPTs 51))).snd.snd 0 1 = 51 ∧ (portTsOf (BLane.fiberBlock (Port.fl (State.port (tPort (tTrain false)) 15) 2) (BitVec.toNat (tPTs 51))).snd.snd).line < 34 ∧ ((portTsOf (BLane.fiberBlock (Port.fl (State.port (tPort (tTrain false)) 15) 2) (BitVec.toNat (tPTs 51))).snd.snd).heardValid && decide ((portTsOf (BLane.fiberBlock (Port.fl (State.port (tPort (tTrain false)) 15) 2) (BitVec.toNat (tPTs 51))).snd.snd).heardPort = 15) && decide ((portTsOf (BLane.fiberBlock (Port.fl (State.port (tPort (tTrain false)) 15) 2) (BitVec.toNat (tPTs 51))).snd.snd).heardTag = State.devTag (tPort (tTrain false)))) = false) ∧
    ((Port.setFl (State.port (tPort (tTrain false)) 15) 2 (BLane.fiberBlock (Port.fl (State.port (tPort (tTrain false)) 15) 2) (BitVec.toNat (tPTs 75))).fst).state = PortSt.train ∧ (Port.setFl (State.port (tPort (tTrain false)) 15) 2 (BLane.fiberBlock (Port.fl (State.port (tPort (tTrain false)) 15) 2) (BitVec.toNat (tPTs 75))).fst).retraining = false ∧ State.portDie (tPort (tTrain false)) 15 = true ∧ 7 < 8 ∧ 2 < 34 ∧ (!(BLane.fiberBlock (Port.fl (State.port (tPort (tTrain false)) 15) 2) (BitVec.toNat (tPTs 75))).fst.noLock && (BLane.fiberBlock (Port.fl (State.port (tPort (tTrain false)) 15) 2) (BitVec.toNat (tPTs 75))).snd.fst && slotOk (BLane.fiberBlock (Port.fl (State.port (tPort (tTrain false)) 15) 2) (BitVec.toNat (tPTs 75))).snd.snd) = true ∧ bfld (BLane.fiberBlock (Port.fl (State.port (tPort (tTrain false)) 15) 2) (BitVec.toNat (tPTs 75))).snd.snd 0 1 = 75 ∧ (portTsOf (BLane.fiberBlock (Port.fl (State.port (tPort (tTrain false)) 15) 2) (BitVec.toNat (tPTs 75))).snd.snd).line < 34 ∧ ((portTsOf (BLane.fiberBlock (Port.fl (State.port (tPort (tTrain false)) 15) 2) (BitVec.toNat (tPTs 75))).snd.snd).heardValid && decide ((portTsOf (BLane.fiberBlock (Port.fl (State.port (tPort (tTrain false)) 15) 2) (BitVec.toNat (tPTs 75))).snd.snd).heardPort = 15) && decide ((portTsOf (BLane.fiberBlock (Port.fl (State.port (tPort (tTrain false)) 15) 2) (BitVec.toNat (tPTs 75))).snd.snd).heardTag = State.devTag (tPort (tTrain false)))) = false) ∧
    ((State.port (tPort (tTrain false)) 15).state = PortSt.train ∧ State.portDie (tPort (tTrain false)) 15 = true ∧ (∀ (i : Nat), i < 34 → (Port.fl (State.port (tPort (tTrain false)) 15) i).state = BLaneSt.training ∧ (Port.fl (State.port (tPort (tTrain false)) 15) i).pos = i ∧ (Port.fl (State.port (tPort (tTrain false)) 15) i).after = none) ∧ State.minWidth (tPort (tTrain false)) 15 ≤ 32 ∧ (State.port (tPort (tTrain false)) 15).retraining = false ∧ 2 ≤ State.rf (tPort (tTrain false)) (Reg.Sd_PORTp_CTL 15) 2 2 ∧ (State.port (tPort (tTrain false)) 15).last = some (77, 9) ∧ (State.port (tPort (tTrain false)) 15).session = 65535 ∧ 65535 ≠ 0) ∧
    ((State.port (tPort (tTrain false)) 15).state = PortSt.train ∧ State.portDie (tPort (tTrain false)) 15 = true ∧ (∀ (i : Nat), i < 34 → (Port.fl (State.port (tPort (tTrain false)) 15) i).state = BLaneSt.training ∧ (Port.fl (State.port (tPort (tTrain false)) 15) i).pos = i ∧ (Port.fl (State.port (tPort (tTrain false)) 15) i).after = none) ∧ State.minWidth (tPort (tTrain false)) 15 ≤ 32 ∧ (State.port (tPort (tTrain false)) 15).retraining = false ∧ 2 ≤ State.rf (tPort (tTrain false)) (Reg.Sd_PORTp_CTL 15) 2 2 ∧ ((State.port (tPort (tTrain false)) 15).last ≠ some (77, 8) ∨ (State.port (tPort (tTrain false)) 15).session ≠ 65535 ∨ 65535 = 0) ∧ noOwn (tPort (tTrain false)) 15) ∧
    ((State.port (tPort (tTrain false)) 15).state = PortSt.train ∧ State.portDie (tPort (tTrain false)) 15 = true ∧ (∀ (i : Nat), i < 34 → (Port.fl (State.port (tPort (tTrain false)) 15) i).state = BLaneSt.training ∧ (Port.fl (State.port (tPort (tTrain false)) 15) i).pos = i ∧ (Port.fl (State.port (tPort (tTrain false)) 15) i).after = none) ∧ State.minWidth (tPort (tTrain false)) 15 ≤ 32 ∧ (State.port (tPort (tTrain false)) 15).retraining = false ∧ State.rf (tPort (tTrain false)) (Reg.Sd_PORTp_CTL 15) 2 2 < 4 ∧ graceOn (tPort (tTrain false)) 15) ∧
    ((State.port (tPort (tTrain true)) 15).state = PortSt.train ∧ State.portDie (tPort (tTrain true)) 15 = true ∧ (∀ (i : Nat), i < 34 → (Port.fl (State.port (tPort (tTrain true)) 15) i).state = BLaneSt.training ∧ (Port.fl (State.port (tPort (tTrain true)) 15) i).pos = i ∧ (Port.fl (State.port (tPort (tTrain true)) 15) i).after = none) ∧ State.minWidth (tPort (tTrain true)) 15 ≤ 32 ∧ (State.port (tPort (tTrain true)) 15).retraining = true) ∧
    ((State.port (tPort (tTrain true)) 15).state = PortSt.train ∧ State.portDie (tPort (tTrain true)) 15 = true ∧ (∀ (i : Nat), i < 34 → (Port.fl (State.port (tPort (tTrain true)) 15) i).state = BLaneSt.training ∧ (Port.fl (State.port (tPort (tTrain true)) 15) i).pos = i ∧ (Port.fl (State.port (tPort (tTrain true)) 15) i).after = none) ∧ State.minWidth (tPort (tTrain true)) 15 ≤ 32 ∧ (State.port (tPort (tTrain true)) 15).retraining = true ∧ List.length (List.filter (fun n => decide ((tPort (tTrain true)).ticks < n + 32768)) (State.port (tPort (tTrain true)) 15).failTicks ++ [(tPort (tTrain true)).ticks]) < 3) ∧
    ((State.port w27_132 15).state = PortSt.train ∧ State.portDie w27_132 15 = true ∧ (∀ (i : Nat), i < 34 → (Port.fl (State.port w27_132 15) i).state = BLaneSt.training ∧ (Port.fl (State.port w27_132 15) i).pos = i ∧ (Port.fl (State.port w27_132 15) i).after = none) ∧ State.minWidth w27_132 15 ≤ 32 ∧ (State.port w27_132 15).retraining = true ∧ 3 ≤ List.length (List.filter (fun n => decide (w27_132.ticks < n + 32768)) (State.port w27_132 15).failTicks ++ [w27_132.ticks]) ∧ graceOn w27_132 15) := by
  and_intros <;> first | decide +kernel | rfl
/-- States and operands that meet the hypotheses of PortTrainingResults, part 2. -/
theorem wit_PortTrainingResults_2 :
    (writable (tPort tUpPort) (Reg.Sd_PORTp_CTL 15) ∧ State.portLive (tPort tUpPort) 15 = true) ∧
    (writable (tPort (tDownP 2)) (Reg.Sd_PORTp_CTL 15) ∧ (State.port (tPort (tDownP 2)) 15).state = PortSt.down) ∧
    (writable (tWith (tPort (tDownP 1)) (Reg.Sd_PORTp_CTL 15) 1068) (Reg.Sd_PORTp_CTL 15) ∧ (State.port (tWith (tPort (tDownP 1)) (Reg.Sd_PORTp_CTL 15) 1068) 15).state = PortSt.down ∧ Word.bit (State.reg (tWith (tPort (tDownP 1)) (Reg.Sd_PORTp_CTL 15) 1068) (Reg.Sd_PORTp_CTL 15)) 0 = false ∧ State.bwValid (tWith (tPort (tDownP 1)) (Reg.Sd_PORTp_CTL 15) 1068) 15 = true) ∧
    (writable (tWith (tWith (tPort (tDownP 1)) (Reg.Sd_PORTp_CTL 15) 1068) (Reg.Sd_PORTp_BW 15) 2048) (Reg.Sd_PORTp_CTL 15) ∧ (State.port (tWith (tWith (tPort (tDownP 1)) (Reg.Sd_PORTp_CTL 15) 1068) (Reg.Sd_PORTp_BW 15) 2048) 15).state = PortSt.down ∧ Word.bit (State.reg (tWith (tWith (tPort (tDownP 1)) (Reg.Sd_PORTp_CTL 15) 1068) (Reg.Sd_PORTp_BW 15) 2048) (Reg.Sd_PORTp_CTL 15)) 0 = false ∧ State.bwValid (tWith (tWith (tPort (tDownP 1)) (Reg.Sd_PORTp_CTL 15) 1068) (Reg.Sd_PORTp_BW 15) 2048) 15 = false) ∧
    (writable (tPort (tDownP 2)) (Reg.Sd_PORTp_CTL 15) ∧ (State.port (tPort (tDownP 2)) 15).state = PortSt.down ∧ Word.bit (State.reg (tPort (tDownP 2)) (Reg.Sd_PORTp_CTL 15)) 0 = true) ∧
    (writable (tPort tUpPort) (Reg.Sd_PORTp_CTL 15) ∧ (State.port (tPort tUpPort) 15).state = PortSt.live ∧ graceOn (tPort tUpPort) 15 ∧ Word.bit (State.reg (tPort tUpPort) (Reg.Sd_PORTp_CTL 15)) 0 = true) := by
  and_intros <;> first | decide +kernel | rfl
/-- States and operands that meet the hypotheses of PortLightResults, part 1. -/
theorem wit_PortLightResults_1 :
    (State.portLive (tPort tUpPort) 15 = true ∧ State.rb (tPort tUpPort) (Reg.Sd_PORTp_CTL 15) 10 = true ∧ State.portIdle (tPort tUpPort) 15 = true ∧ (State.port (tPort tUpPort) 15).deepReq = false ∧ (State.port (tPort tUpPort) 15).quiescing = false) ∧
    (State.portLive (tPort tTwoOut) 15 = true ∧ State.portIdle (tPort tTwoOut) 15 = false) ∧
    (State.portDie w27_143 15 = true ∧ (State.port w27_143 15).state = PortSt.standby) ∧
    (State.portLive w27_144 15 = true ∧ (State.port w27_144 15).deepReq = true ∧ (State.port w27_144 15).peerDeep = true ∧ (State.port w27_144 15).unacked = []) ∧
    (State.portLive (tPort tTwoOut) 15 = true ∧ (State.port (tPort tTwoOut) 15).unacked ≠ []) ∧
    (State.portDie w27_146 15 = true ∧ (State.port w27_146 15).state = PortSt.deep ∧ State.asleep w27_146 = false) ∧
    (State.portDie w27_147 15 = true ∧ (State.port w27_147 15).state = PortSt.train ∧ (State.port w27_147 15).retraining = true ∧ (State.port w27_147 15).light = false ∧ graceOn w27_147 15) ∧
    (State.portDie w27_148 15 = true ∧ (State.port w27_148 15).state = PortSt.down ∧ (State.port w27_148 15).grace = true ∧ noOwn w27_148 15) ∧
    (State.portDie w27_149 15 = true ∧ (State.port w27_149 15).state = PortSt.down ∧ (State.port w27_149 15).grace = false) ∧
    (State.portDie w27_150 15 = true ∧ (State.port w27_150 15).state = PortSt.down ∧ State.portEnabled w27_150 15 = true ∧ State.asleep w27_150 = false ∧ 2 ≤ (State.port w27_150 15).cause) ∧
    (State.portDie w27_151 15 = true ∧ (State.port w27_151 15).state = PortSt.down ∧ State.portEnabled w27_151 15 = true ∧ State.asleep w27_151 = false ∧ ((State.port w27_151 15).cause = 2 ∨ (State.port w27_151 15).cause = 3) ∧ (State.port w27_151 15).txOpen = false) ∧
    (State.portDie (tPort (tDownP 4)) 15 = true ∧ (State.port (tPort (tDownP 4)) 15).state = PortSt.down ∧ ((State.port (tPort (tDownP 4)) 15).cause = 1 ∨ 4 ≤ (State.port (tPort (tDownP 4)) 15).cause)) ∧
    (State.portDie w27_153 15 = true ∧ (State.port w27_153 15).state = PortSt.down ∧ (State.port w27_153 15).probing = true) ∧
    (State.portDie (tPort (tDownP 2)) 15 = true ∧ (State.port (tPort (tDownP 2)) 15).state = PortSt.down ∧ (State.port (tPort (tDownP 2)) 15).probing = false) := by
  and_intros <;> first | decide +kernel | rfl
/-- States and operands that meet the hypotheses of PortLightResults, part 2. -/
theorem wit_PortLightResults_2 :
    (State.portDie w27_155 15 = true ∧ (State.port w27_155 15).state = PortSt.down ∧ State.portEnabled w27_155 15 = true ∧ (State.port w27_155 15).cause = 1 ∧ (State.port w27_155 15).txOpen = true ∧ (State.port w27_155 15).light = false) ∧
    (State.portDie (tPort (tDownP 2)) 15 = true ∧ (State.port (tPort (tDownP 2)) 15).state = PortSt.down ∧ (State.port (tPort (tDownP 2)) 15).light = true ∧ (State.port (tPort (tDownP 2)) 15).txOpen = true ∧ (State.port (tPort (tDownP 2)) 15).quiesced = false) ∧
    (State.portDie w27_157 15 = true ∧ (State.port w27_157 15).state = PortSt.down ∧ (State.port w27_157 15).light = true ∧ (State.port w27_157 15).txOpen = true ∧ (State.port w27_157 15).quiesced = true) ∧
    (State.portDie w27_158 15 = true ∧ (State.port w27_158 15).state = PortSt.down ∧ (State.port w27_158 15).light = false) ∧
    (State.portDie (tPort (tDownP 2)) 15 = true ∧ (State.port (tPort (tDownP 2)) 15).state = PortSt.down ∧ (State.port (tPort (tDownP 2)) 15).txOpen = true ∧ (State.port (tPort (tDownP 2)) 15).light = true ∧ ((State.port (tPort (tDownP 2)) 15).cause = 2 ∨ (State.port (tPort (tDownP 2)) 15).cause = 3)) ∧
    (State.portDie (tPort tUpPort) 15 = true ∧ (State.port (tPort tUpPort) 15).state = PortSt.live ∧ (State.port (tPort tUpPort) 15).txOpen = true ∧ (State.port (tPort tUpPort) 15).light = true ∧ graceOn (tPort tUpPort) 15) ∧
    (State.portDie w27_161 15 = true ∧ (State.port w27_161 15).state = PortSt.deep) ∧
    (State.portDie w27_162 15 = true ∧ (State.port w27_162 15).state = PortSt.live) := by
  and_intros <;> first | decide +kernel | rfl
/-- States and operands that meet the hypotheses of ServiceResults. -/
theorem wit_ServiceResults :
    (State.dieUp (tSvc 0 (tDownP 2)) (dieS 1) = true ∧ (State.svc (tSvc 0 (tDownP 2)) 1).svc = 0 ∧ ((∀ (p : Nat), p ∈ svcPorts 1 → (State.port (tSvc 0 (tDownP 2)) p).state = PortSt.down) ∨ ∀ (p : Nat), p ∈ svcPorts 1 → (State.port (tSvc 0 (tDownP 2)) p).state = PortSt.live)) ∧
    (State.dieUp (tSvc 0 tUpPort) (dieS 1) = true ∧ (State.svc (tSvc 0 tUpPort) 1).svc = 0 ∧ ((∀ (p : Nat), p ∈ svcPorts 1 → (State.port (tSvc 0 tUpPort) p).state = PortSt.down) ∨ ∀ (p : Nat), p ∈ svcPorts 1 → (State.port (tSvc 0 tUpPort) p).state = PortSt.live)) ∧
    (State.dieUp (tSvc 2 (tDownP 2)) (dieS 1) = true ∧ (State.svc (tSvc 2 (tDownP 2)) 1).svc ≠ 0) ∧
    (State.dieUp w27_169 (dieS 1) = true ∧ (State.svc w27_169 1).svc = 1 ∧ (∀ (p : Nat), p ∈ svcPorts 1 → noOwn w27_169 p ∧ ((State.port w27_169 p).quiescing = true ∧ (State.port w27_169 p).state = PortSt.live ∨ (State.port w27_169 p).quiesced = true))) ∧
    (State.dieUp w27_170 (dieS 1) = true ∧ (State.svc w27_170 1).svc ≠ 0) ∧
    (State.dieUp (tSvc 0 tUpPort) (dieS 1) = true ∧ (State.svc (tSvc 0 tUpPort) 1).svc = 0) ∧
    (State.dieUp (tSvc 0 tUpPort) (dieS 1) = true) ∧
    (writable (tSvc 0 tUpPort) (Reg.Sd_SVC_CTL 1) ∧ State.dieUp (tSvc 0 tUpPort) (dieS 1) = true ∧ (State.svc (tSvc 0 tUpPort) 1).svc = 0 ∧ ((∀ (p : Nat), p ∈ svcPorts 1 → (State.port (tSvc 0 tUpPort) p).state = PortSt.down) ∨ ∀ (p : Nat), p ∈ svcPorts 1 → (State.port (tSvc 0 tUpPort) p).state = PortSt.live)) ∧
    (writable (tSvc 0 (tDownP 2)) (Reg.Sd_SVC_CTL 1) ∧ State.dieUp (tSvc 0 (tDownP 2)) (dieS 1) = true ∧ (State.svc (tSvc 0 (tDownP 2)) 1).svc = 0 ∧ ((∀ (p : Nat), p ∈ svcPorts 1 → (State.port (tSvc 0 (tDownP 2)) p).state = PortSt.down) ∨ ∀ (p : Nat), p ∈ svcPorts 1 → (State.port (tSvc 0 (tDownP 2)) p).state = PortSt.live)) ∧
    (writable w27_175 (Reg.Sd_SVC_CTL 1) ∧ State.dieUp w27_175 (dieS 1) = true ∧ (State.svc w27_175 1).svc ≠ 0) ∧
    ((State.port w27_169 15).quiescing = true ∧ State.portDie w27_169 15 = true ∧ (State.port w27_169 15).state = PortSt.live ∧ State.portIdle w27_169 15 = false) ∧
    ((State.port w27_175 15).quiescing = true ∧ State.portDie w27_175 15 = true ∧ (State.port w27_175 15).state = PortSt.live ∧ State.portIdle w27_175 15 = true) := by
  and_intros <;> first | decide +kernel | rfl
/-- States and operands that meet the hypotheses of FabricRequestResults, part 1. -/
theorem wit_FabricRequestResults_1 :
    (comesIn (State.writeMem tFab 68719476512 [1#8, 2#8, 3#8]) 15 1 (tReq 1 7 68719476480 []) 15 ∧ (tReq 1 7 68719476480 []).flags % 2 = 0 ∧ way (State.writeMem tFab 68719476512 [1#8, 2#8, 3#8]) (ownerDie 0) 15 ∧ (tReq 1 7 68719476480 []).mod / 64 % 2 = 0 ∧ State.reqStore (State.writeMem tFab 68719476512 [1#8, 2#8, 3#8]) 15 (tReq 1 7 68719476480 []).addr (32 * ((tReq 1 7 68719476480 []).mod % 16 + 1)) = Except.ok 0 ∧ (tReq 1 7 68719476480 []).addr % 32 = 0 ∧ State.poisonRange (State.writeMem tFab 68719476512 [1#8, 2#8, 3#8]) (tReq 1 7 68719476480 []).addr (32 * ((tReq 1 7 68719476480 []).mod % 16 + 1)) = false ∧ State.calm (State.writeMem tFab 68719476512 [1#8, 2#8, 3#8]) (tReq 1 7 68719476480 []).addr (32 * ((tReq 1 7 68719476480 []).mod % 16 + 1)) = true ∧ regionIn (State.writeMem tFab 68719476512 [1#8, 2#8, 3#8]).trg (tReq 1 7 68719476480 []).addr (32 * ((tReq 1 7 68719476480 []).mod % 16 + 1)) = none) ∧
    (comesIn tGoodTiles 15 1 (tReq 1 7 77696 []) 15 ∧ (tReq 1 7 77696 []).flags % 2 = 0 ∧ way tGoodTiles (ownerDie 0) 15 ∧ (tReq 1 7 77696 []).mod / 64 % 2 = 0 ∧ State.reqStore tGoodTiles 15 (tReq 1 7 77696 []).addr (32 * ((tReq 1 7 77696 []).mod % 16 + 1)) = Except.ok 0 ∧ (tReq 1 7 77696 []).addr % 32 = 0 ∧ State.poisonRange tGoodTiles (tReq 1 7 77696 []).addr (32 * ((tReq 1 7 77696 []).mod % 16 + 1)) = false ∧ State.calm tGoodTiles (tReq 1 7 77696 []).addr (32 * ((tReq 1 7 77696 []).mod % 16 + 1)) = true ∧ regionIn tGoodTiles.trg (tReq 1 7 77696 []).addr (32 * ((tReq 1 7 77696 []).mod % 16 + 1)) = some tReg0 ∧ (State.tiledPiece tGoodTiles (State.viewNow tGoodTiles PortEv.clear) tReg0 (tReq 1 7 77696 []).addr (32 * ((tReq 1 7 77696 []).mod % 16 + 1))).snd = []) ∧
    (comesIn tFab 15 1 (tReq 1 7 77712 []) 15 ∧ (tReq 1 7 77712 []).flags % 2 = 0 ∧ way tFab (ownerDie 0) 15 ∧ (tReq 1 7 77712 []).mod / 64 % 2 = 0 ∧ State.reqStore tFab 15 (tReq 1 7 77712 []).addr (32 * ((tReq 1 7 77712 []).mod % 16 + 1)) = Except.ok 0 ∧ (tReq 1 7 77712 []).addr % 32 ≠ 0) := by
  and_intros <;> first | with_reducible exact tTile3 | decide +kernel | rfl
/-- States and operands that meet the hypotheses of FabricRequestResults, part 2. -/
theorem wit_FabricRequestResults_2 :
    (comesIn tFab 15 1 (tReq 1 7 68719476512 []) 15 ∧ (tReq 1 7 68719476512 []).flags % 2 = 0 ∧ way tFab (ownerDie 0) 15 ∧ (tReq 1 7 68719476512 []).mod / 64 % 2 = 0 ∧ State.reqStore tFab 15 (tReq 1 7 68719476512 []).addr (32 * ((tReq 1 7 68719476512 []).mod % 16 + 1)) = Except.error 11 ∧ way tFab (dieS (15 / 8)) 15) ∧
    (comesIn tGoodTiles 15 1 (tReq 1 64 73728 []) 15 ∧ (tReq 1 64 73728 []).flags % 2 = 0 ∧ way tGoodTiles (ownerDie 0) 15 ∧ (tReq 1 64 73728 []).mod / 64 % 2 = 1 ∧ State.reqStore tGoodTiles 15 (tReq 1 64 73728 []).addr 1 = Except.ok 0 ∧ regionIn tGoodTiles.trg (tReq 1 64 73728 []).addr 1 = some tReg0 ∧ ((tReq 1 64 73728 []).addr - tReg0.base) % Region.slot tReg0 = 0 ∧ (State.readTile tGoodTiles (State.viewNow tGoodTiles PortEv.clear) tReg0 (tReq 1 64 73728 []).addr).ok = true ∧ calmTile tGoodTiles (tReq 1 64 73728 []).addr (List.length (State.readTile tGoodTiles (State.viewNow tGoodTiles PortEv.clear) tReg0 (tReq 1 64 73728 []).addr).bytes)) ∧
    (comesIn w28_25 15 2 (tReq 2 0 32768 (List.replicate 256 165#8)) 15 ∧ (tReq 2 0 32768 (List.replicate 256 165#8)).flags % 2 = 0 ∧ way w28_25 (ownerDie 0) 15 ∧ (tReq 2 0 32768 (List.replicate 256 165#8)).flags / 4 % 2 = 0 ∧ State.reqStore w28_25 15 (tReq 2 0 32768 (List.replicate 256 165#8)).addr (List.length (tReq 2 0 32768 (List.replicate 256 165#8)).payload) = Except.ok 0 ∧ (tReq 2 0 32768 (List.replicate 256 165#8)).addr % 32 = 0 ∧ touchesTiled w28_25.trg (tReq 2 0 32768 (List.replicate 256 165#8)).addr (List.length (tReq 2 0 32768 (List.replicate 256 165#8)).payload) = false ∧ State.touchesKv w28_25 (tReq 2 0 32768 (List.replicate 256 165#8)).addr (List.length (tReq 2 0 32768 (List.replicate 256 165#8)).payload) = false ∧ State.plcOk w28_25 (tReq 2 0 32768 (List.replicate 256 165#8)).workUnit (tReq 2 0 32768 (List.replicate 256 165#8)).epoch = true ∧ State.still w28_25 (tReq 2 0 32768 (List.replicate 256 165#8)).addr (List.length (tReq 2 0 32768 (List.replicate 256 165#8)).payload) = true) ∧
    (comesIn (tMovedOn tFab) 15 2 w28_26 15 ∧ w28_26.flags % 2 = 0 ∧ way (tMovedOn tFab) (ownerDie 0) 15 ∧ w28_26.flags / 4 % 2 = 0 ∧ State.reqStore (tMovedOn tFab) 15 w28_26.addr (List.length w28_26.payload) = Except.ok 0 ∧ w28_26.addr % 32 = 0 ∧ touchesTiled (tMovedOn tFab).trg w28_26.addr (List.length w28_26.payload) = false ∧ State.touchesKv (tMovedOn tFab) w28_26.addr (List.length w28_26.payload) = false ∧ State.plcOk (tMovedOn tFab) w28_26.workUnit w28_26.epoch = false) := by
  and_intros <;> first | with_reducible exact tTile1 | with_reducible exact tTile2 | decide +kernel | rfl
/-- States and operands that meet the hypotheses of FabricRequestResults, part 3. -/
theorem wit_FabricRequestResults_3 :
    (comesIn tFab 15 2 (tReq 2 0 65504 (List.replicate 64 165#8)) 15 ∧ (tReq 2 0 65504 (List.replicate 64 165#8)).flags % 2 = 0 ∧ way tFab (ownerDie 0) 15 ∧ (tReq 2 0 65504 (List.replicate 64 165#8)).flags / 4 % 2 = 0 ∧ State.reqStore tFab 15 (tReq 2 0 65504 (List.replicate 64 165#8)).addr (List.length (tReq 2 0 65504 (List.replicate 64 165#8)).payload) = Except.ok 0 ∧ touchesTiled tFab.trg (tReq 2 0 65504 (List.replicate 64 165#8)).addr (List.length (tReq 2 0 65504 (List.replicate 64 165#8)).payload) = true ∧ regionIn tFab.trg (tReq 2 0 65504 (List.replicate 64 165#8)).addr (List.length (tReq 2 0 65504 (List.replicate 64 165#8)).payload) = none) ∧
    (comesIn tFab 15 2 (tReq 2 0 77792 (List.replicate 32 165#8)) 15 ∧ (tReq 2 0 77792 (List.replicate 32 165#8)).flags % 2 = 0 ∧ way tFab (ownerDie 0) 15 ∧ (tReq 2 0 77792 (List.replicate 32 165#8)).flags / 4 % 2 = 0 ∧ State.reqStore tFab 15 (tReq 2 0 77792 (List.replicate 32 165#8)).addr 32 = Except.ok 0 ∧ List.length (tReq 2 0 77792 (List.replicate 32 165#8)).payload = 32 ∧ (tReq 2 0 77792 (List.replicate 32 165#8)).addr % 32 = 0 ∧ regionIn tFab.trg (tReq 2 0 77792 (List.replicate 32 165#8)).addr 32 = some tReg0 ∧ touchesTrailer tFab.trg (tReq 2 0 77792 (List.replicate 32 165#8)).addr 32 = false ∧ State.touchesKv tFab (tReq 2 0 77792 (List.replicate 32 165#8)).addr 32 = false ∧ State.plcOk tFab (tReq 2 0 77792 (List.replicate 32 165#8)).workUnit (tReq 2 0 77792 (List.replicate 32 165#8)).epoch = true ∧ calmTile tFab (tReq 2 0 77792 (List.replicate 32 165#8)).addr 32 ∧ (tReq 2 0 77792 (List.replicate 32 165#8)).addr - (tReg0.base + ((tReq 2 0 77792 (List.replicate 32 165#8)).addr - tReg0.base) / max (Region.slot tReg0) 1 * Region.slot tReg0) < tileBytes tReg0.sealFmt ∧ 32 < tileBytes tReg0.sealFmt ∧ (∀ (x : TileIn), x ∈ tFab.fab.tiles → x.sealed = false)) ∧
    (comesIn tFab 15 2 w28_29 15 ∧ w28_29.flags % 2 = 0 ∧ way tFab (ownerDie 0) 15 ∧ w28_29.flags / 4 % 2 = 1 ∧ State.reqStore tFab 15 w28_29.addr 1 = Except.ok 0 ∧ State.plcOk tFab w28_29.workUnit w28_29.epoch = true ∧ w28_29.mod / 64 % 2 = 0) ∧
    (comesIn tTileIn 15 2 w28_34 15 ∧ w28_34.flags % 2 = 0 ∧ way tTileIn (ownerDie 0) 15 ∧ w28_34.flags / 4 % 2 = 1 ∧ State.reqStore tTileIn 15 w28_34.addr 1 = Except.ok 0 ∧ State.plcOk tTileIn w28_34.workUnit w28_34.epoch = true ∧ w28_34.mod / 64 % 2 = 1 ∧ regionIn tTileIn.trg w28_34.addr 1 = some tReg0 ∧ (w28_34.addr - tReg0.base) % Region.slot tReg0 = 0 ∧ tileSize (pktTrailer w28_34).fmt tReg0.sealFmt ≤ Region.slot tReg0 ∧ State.touchesKv tTileIn w28_34.addr (tileSize (pktTrailer w28_34).fmt tReg0.sealFmt) = false ∧ BitVec.toNat (crc32c (padTo (tileSize (pktTrailer w28_34).fmt tReg0.sealFmt) (State.tileTake tTileIn w28_34 false).snd)) = (pktTrailer w28_34).crc ∧ Trailer.valid (pktTrailer w28_34) = true ∧ Trailer.poison (pktTrailer w28_34) = false ∧ rangesMeet w28_34.addr (tileSize (pktTrailer w28_34).fmt tReg0.sealFmt) (Region.trailerDA tReg0 w28_34.addr) 8 = false ∧ tileSize (pktTrailer w28_34).fmt tReg0.sealFmt ≠ 0 ∧ State.still tTileIn w28_34.addr (tileSize (pktTrailer w28_34).fmt tReg0.sealFmt) = true ∧ State.still tTileIn (Region.trailerDA tReg0 w28_34.addr) 8 = true ∧ calmTile tTileIn w28_34.addr (tileSize (pktTrailer w28_34).fmt tReg0.sealFmt)) := by
  and_intros <;> first | with_reducible exact tTile4 | decide +kernel | rfl
/-- States and operands that meet the hypotheses of FabricRequestResults, part 4. -/
theorem wit_FabricRequestResults_4 :
    (comesIn (State.writeMem tFab 1099511627776 [2#8]) 15 3 (tReq 3 0 1099511627776 (padTo 32 (toBytesLE 8 (2 ^ 64 - 1)))) 15 ∧ (tReq 3 0 1099511627776 (padTo 32 (toBytesLE 8 (2 ^ 64 - 1)))).flags % 2 = 0 ∧ way (State.writeMem tFab 1099511627776 [2#8]) (ownerDie 16) 15 ∧ State.reqStore (State.writeMem tFab 1099511627776 [2#8]) 15 (tReq 3 0 1099511627776 (padTo 32 (toBytesLE 8 (2 ^ 64 - 1)))).addr 8 = Except.ok 16 ∧ State.atomicOk (State.writeMem tFab 1099511627776 [2#8]) (tReq 3 0 1099511627776 (padTo 32 (toBytesLE 8 (2 ^ 64 - 1)))).addr = true ∧ State.poisonRange (State.writeMem tFab 1099511627776 [2#8]) (tReq 3 0 1099511627776 (padTo 32 (toBytesLE 8 (2 ^ 64 - 1)))).addr 8 = false ∧ State.still (State.writeMem tFab 1099511627776 [2#8]) (tReq 3 0 1099511627776 (padTo 32 (toBytesLE 8 (2 ^ 64 - 1)))).addr 8 = true ∧ State.plcOk (State.writeMem tFab 1099511627776 [2#8]) (tReq 3 0 1099511627776 (padTo 32 (toBytesLE 8 (2 ^ 64 - 1)))).workUnit (tReq 3 0 1099511627776 (padTo 32 (toBytesLE 8 (2 ^ 64 - 1)))).epoch = true) ∧
    (comesIn tFab 15 3 (tReq 3 1 8184 (padTo 32 (toBytesLE 8 0 ++ toBytesLE 8 5))) 15 ∧ (tReq 3 1 8184 (padTo 32 (toBytesLE 8 0 ++ toBytesLE 8 5))).flags % 2 = 0 ∧ way tFab (ownerDie 0) 15 ∧ State.reqStore tFab 15 (tReq 3 1 8184 (padTo 32 (toBytesLE 8 0 ++ toBytesLE 8 5))).addr 8 = Except.ok 0 ∧ State.atomicOk tFab (tReq 3 1 8184 (padTo 32 (toBytesLE 8 0 ++ toBytesLE 8 5))).addr = true ∧ State.poisonRange tFab (tReq 3 1 8184 (padTo 32 (toBytesLE 8 0 ++ toBytesLE 8 5))).addr 8 = false ∧ State.still tFab (tReq 3 1 8184 (padTo 32 (toBytesLE 8 0 ++ toBytesLE 8 5))).addr 8 = true ∧ State.plcOk tFab (tReq 3 1 8184 (padTo 32 (toBytesLE 8 0 ++ toBytesLE 8 5))).workUnit (tReq 3 1 8184 (padTo 32 (toBytesLE 8 0 ++ toBytesLE 8 5))).epoch = true) ∧
    (comesIn (tMovedOn tFab) 15 3 w28_37 15 ∧ w28_37.flags % 2 = 0 ∧ way (tMovedOn tFab) (ownerDie 0) 15 ∧ State.reqStore (tMovedOn tFab) 15 w28_37.addr 8 = Except.ok 0 ∧ State.atomicOk (tMovedOn tFab) w28_37.addr = true ∧ State.poisonRange (tMovedOn tFab) w28_37.addr 8 = false ∧ State.still (tMovedOn tFab) w28_37.addr 8 = true ∧ State.plcOk (tMovedOn tFab) w28_37.workUnit w28_37.epoch = false) ∧
    (comesIn tFab 15 4 (tReq 4 0 1099511627776 (List.replicate 32 1#8)) 15 ∧ (tReq 4 0 1099511627776 (List.replicate 32 1#8)).flags % 2 = 0 ∧ (tReq 4 0 1099511627776 (List.replicate 32 1#8)).flags / 4 % 2 = 0 ∧ way tFab (ownerDie 16) 15 ∧ State.reqStore tFab 15 (tReq 4 0 1099511627776 (List.replicate 32 1#8)).addr (List.length (tReq 4 0 1099511627776 (List.replicate 32 1#8)).payload) = Except.ok 16 ∧ (tReq 4 0 1099511627776 (List.replicate 32 1#8)).mod / 128 % 2 = 0 ∧ (tReq 4 0 1099511627776 (List.replicate 32 1#8)).addr % 32 = 0 ∧ List.length (tReq 4 0 1099511627776 (List.replicate 32 1#8)).payload % 32 = 0 ∧ 16 ≤ 16) := by
  and_intros <;> first | decide +kernel | rfl
/-- States and operands that meet the hypotheses of FabricRequestResults, part 5. -/
theorem wit_FabricRequestResults_5 :
    (comesIn (State.writeMem tFab 0 (List.replicate 8 255#8)) 15 4 (tReq 4 0 0 (List.replicate 64 1#8)) 15 ∧ (tReq 4 0 0 (List.replicate 64 1#8)).flags % 2 = 0 ∧ (tReq 4 0 0 (List.replicate 64 1#8)).flags / 4 % 2 = 0 ∧ way (State.writeMem tFab 0 (List.replicate 8 255#8)) (ownerDie 0) 15 ∧ State.reqStore (State.writeMem tFab 0 (List.replicate 8 255#8)) 15 (tReq 4 0 0 (List.replicate 64 1#8)).addr (List.length (tReq 4 0 0 (List.replicate 64 1#8)).payload) = Except.ok 0 ∧ (tReq 4 0 0 (List.replicate 64 1#8)).mod / 128 % 2 = 0 ∧ (tReq 4 0 0 (List.replicate 64 1#8)).addr % 32 = 0 ∧ List.length (tReq 4 0 0 (List.replicate 64 1#8)).payload % 32 = 0 ∧ 0 < 16 ∧ touchesTiled (State.writeMem tFab 0 (List.replicate 8 255#8)).trg (tReq 4 0 0 (List.replicate 64 1#8)).addr (List.length (tReq 4 0 0 (List.replicate 64 1#8)).payload) = false ∧ State.touchesKv (State.writeMem tFab 0 (List.replicate 8 255#8)) (tReq 4 0 0 (List.replicate 64 1#8)).addr (List.length (tReq 4 0 0 (List.replicate 64 1#8)).payload) = false ∧ (State.writeMem tFab 0 (List.replicate 8 255#8)).mem.bad = [] ∧ State.plcOk (State.writeMem tFab 0 (List.replicate 8 255#8)) (tReq 4 0 0 (List.replicate 64 1#8)).workUnit (tReq 4 0 0 (List.replicate 64 1#8)).epoch = true ∧ State.still (State.writeMem tFab 0 (List.replicate 8 255#8)) (tReq 4 0 0 (List.replicate 64 1#8)).addr (List.length (tReq 4 0 0 (List.replicate 64 1#8)).payload) = true) ∧
    (comesIn tFab 15 5 (tTok28 0 4294967295 0 1 0) 15 ∧ (tTok28 0 4294967295 0 1 0).flags % 2 = 0 ∧ State.reachHere tFab (bfld (tTok28 0 4294967295 0 1 0).payload 0 4) = false ∧ way tFab (dieS (15 / 8)) 15) ∧
    (comesIn w28_43 15 5 (tTok28 0 0 0 1 0) 15 ∧ (tTok28 0 0 0 1 0).flags % 2 = 0 ∧ State.reachHere w28_43 (bfld (tTok28 0 0 0 1 0).payload 0 4) = true ∧ State.diePath w28_43 (dieS (15 / 8)) (ridDie (bfld (tTok28 0 0 0 1 0).payload 0 4)) = false ∧ way w28_43 (dieS (15 / 8)) 15) ∧
    (comesIn w28_44 15 5 (tTok28 0 0 4095 65535 0) 15 ∧ (tTok28 0 0 4095 65535 0).flags % 2 = 0 ∧ State.reachHere w28_44 (bfld (tTok28 0 0 4095 65535 0).payload 0 4) = true ∧ ridLevel (bfld (tTok28 0 0 4095 65535 0).payload 0 4) < 4 ∧ State.diePath w28_44 (dieS (15 / 8)) (ridDie (bfld (tTok28 0 0 4095 65535 0).payload 0 4)) = true ∧ way w28_44 (ridDie (bfld (tTok28 0 0 4095 65535 0).payload 0 4)) 15 ∧ State.plcOk w28_44 (tTok28 0 0 4095 65535 0).workUnit (tTok28 0 0 4095 65535 0).epoch = true ∧ (tTok28 0 0 4095 65535 0).mod = 0 ∧ BitVec.toNat (State.tok w28_44 (bfld (tTok28 0 0 4095 65535 0).payload 0 4) (bfld (tTok28 0 0 4095 65535 0).payload 4 2 % 4096)) + bfld (tTok28 0 0 4095 65535 0).payload 6 2 ≤ 4294967295) ∧
    (comesIn w28_45 15 5 (tTok28 1 0 63 0 4294967295) 15 ∧ (tTok28 1 0 63 0 4294967295).flags % 2 = 0 ∧ State.reachHere w28_45 (bfld (tTok28 1 0 63 0 4294967295).payload 0 4) = true ∧ ridLevel (bfld (tTok28 1 0 63 0 4294967295).payload 0 4) < 4 ∧ State.diePath w28_45 (dieS (15 / 8)) (ridDie (bfld (tTok28 1 0 63 0 4294967295).payload 0 4)) = true ∧ way w28_45 (ridDie (bfld (tTok28 1 0 63 0 4294967295).payload 0 4)) 15 ∧ State.plcOk w28_45 (tTok28 1 0 63 0 4294967295).workUnit (tTok28 1 0 63 0 4294967295).epoch = true ∧ (tTok28 1 0 63 0 4294967295).mod = 1) := by
  and_intros <;> first | decide +kernel | rfl
/-- States and operands that meet the hypotheses of FabricRequestResults, part 6. -/
theorem wit_FabricRequestResults_6 :
    (comesIn (tFlows [tFlow 261120 20 7 [7] 0]) 15 2 w28_50 15 ∧ w28_50.flags % 8 = 1 ∧ List.find? (fun f => f.src == w28_50.src && f.die == w28_50.srcDie) (List.filter (fun f => decide ((tFlows [tFlow 261120 20 7 [7] 0]).ticks < f.last + 32768)) (State.span (tFlows [tFlow 261120 20 7 [7] 0]) (flowOwner w28_50)).flows) = none ∧ List.length (List.filter (fun f => decide ((tFlows [tFlow 261120 20 7 [7] 0]).ticks < f.last + 32768)) (State.span (tFlows [tFlow 261120 20 7 [7] 0]) (flowOwner w28_50)).flows) < 2048 ∧ State.reqStore (tFlows [tFlow 261120 20 7 [7] 0]) 15 w28_50.addr (List.length w28_50.payload) = Except.ok 0 ∧ w28_50.addr % 32 = 0 ∧ touchesTiled (tFlows [tFlow 261120 20 7 [7] 0]).trg w28_50.addr (List.length w28_50.payload) = false ∧ State.touchesKv (tFlows [tFlow 261120 20 7 [7] 0]) w28_50.addr (List.length w28_50.payload) = false ∧ State.plcOk (tFlows [tFlow 261120 20 7 [7] 0]) w28_50.workUnit w28_50.epoch = true ∧ State.still (tFlows [tFlow 261120 20 7 [7] 0]) w28_50.addr (List.length w28_50.payload) = true ∧ way (tFlows [tFlow 261120 20 7 [7] 0]) (ownerDie 0) 15) ∧
    (comesIn (tFlows [tFlow 261120 20 7 [7] 1]) 15 2 w28_50 15 ∧ w28_50.flags % 8 = 1 ∧ List.find? (fun f => f.src == w28_50.src && f.die == w28_50.srcDie) (List.filter (fun f => decide ((tFlows [tFlow 261120 20 7 [7] 1]).ticks < f.last + 32768)) (State.span (tFlows [tFlow 261120 20 7 [7] 1]) (flowOwner w28_50)).flows) = some (tFlow 261120 20 7 [7] 1) ∧ w28_50.flowSeq ∈ (tFlow 261120 20 7 [7] 1).seen ∧ ((w28_50.flowSeq + 2 ^ 32 - (tFlow 261120 20 7 [7] 1).high) % 2 ^ 32 = 0 ∨ 2 ^ 31 ≤ (w28_50.flowSeq + 2 ^ 32 - (tFlow 261120 20 7 [7] 1).high) % 2 ^ 32) ∧ way (tFlows [tFlow 261120 20 7 [7] 1]) (dieS (flowOwner w28_50)) 15) := by
  and_intros <;> first | decide +kernel | rfl
/-- States and operands that meet the hypotheses of FabricRequestResults, part 7. -/
theorem wit_FabricRequestResults_7 :
    (comesIn (tFlows (List.map (fun i => tFlow i 0 0 [] 1) (List.range 2048))) 15 2 w28_50 15 ∧ w28_50.flags % 8 = 1 ∧ List.find? (fun f => f.src == w28_50.src && f.die == w28_50.srcDie) (List.filter (fun f => decide ((tFlows (List.map (fun i => tFlow i 0 0 [] 1) (List.range 2048))).ticks < f.last + 32768)) (State.span (tFlows (List.map (fun i => tFlow i 0 0 [] 1) (List.range 2048))) (flowOwner w28_50)).flows) = none ∧ 2048 ≤ List.length (List.filter (fun f => decide ((tFlows (List.map (fun i => tFlow i 0 0 [] 1) (List.range 2048))).ticks < f.last + 32768)) (State.span (tFlows (List.map (fun i => tFlow i 0 0 [] 1) (List.range 2048))) (flowOwner w28_50)).flows) ∧ way (tFlows (List.map (fun i => tFlow i 0 0 [] 1) (List.range 2048))) (dieS (flowOwner w28_50)) 15) := by
  and_intros <;> first | decide +kernel | rfl
/-- States and operands that meet the hypotheses of FabricResponseResults, part 1. -/
theorem wit_FabricResponseResults_1 :
    (answersTo w28_63 15 129 (tAns 129 0 0 (List.replicate 256 7#8)) (tAsk28 1 7 4096) (tEnt (tAsk28 1 7 4096) (TOwner.move 5)) ∧ (tEnt (tAsk28 1 7 4096) (TOwner.move 5)).owner = TOwner.move 5 ∧ State.move w28_63 5 = some tMvR ∧ (tAsk28 1 7 4096).type = 1 ∧ (tAsk28 1 7 4096).mod / 64 % 2 = 0 ∧ (tAns 129 0 0 (List.replicate 256 7#8)).status = 0 ∧ State.plcOk w28_63 tMvR.workUnit tMvR.epoch = true ∧ w28_63.clash = [] ∧ State.still { pending := w28_63.pending, freeIdx := w28_63.freeIdx, opNext := w28_63.opNext, outbox := w28_63.outbox, fuses := w28_63.fuses, ticks := w28_63.ticks, regs := w28_63.regs, mem := w28_63.mem, trg := w28_63.trg, trgCommit := w28_63.trgCommit, reaches := w28_63.reaches, plc := w28_63.plc, cells := w28_63.cells, seedBase := w28_63.seedBase, moves := List.filter (fun x => decide (x.id ≠ 5)) w28_63.moves, clash := w28_63.clash, weirs := w28_63.weirs, slots := w28_63.slots, slotAct := w28_63.slotAct, cus := w28_63.cus, optics := w28_63.optics, bed := w28_63.bed, ports := w28_63.ports, svcs := w28_63.svcs, fab := w28_63.fab, hq := w28_63.hq, nrg := w28_63.nrg, sec := w28_63.sec, log := w28_63.log, store := w28_63.store, errSeq := w28_63.errSeq, err := w28_63.err, test := w28_63.test, pwr := w28_63.pwr : State } (gaDA tMvR.dst + ((tAsk28 1 7 4096).addr - gaDA tMvR.src)) (((tAsk28 1 7 4096).mod % 16 + 1) * 32) = true) ∧
    (answersTo w28_64 15 130 (tAns 130 0 8 []) (tAsk28 2 0 4096) (tEnt (tAsk28 2 0 4096) (TOwner.move 5)) ∧ (tEnt (tAsk28 2 0 4096) (TOwner.move 5)).owner = TOwner.move 5 ∧ State.move w28_64 5 = some tMvR ∧ (tAsk28 2 0 4096).type ≠ 1) ∧
    (answersTo w28_65 15 131 (tAns 131 0 0 (List.replicate 32 7#8)) (tAsk28 3 0 4096) (tEnt (tAsk28 3 0 4096) (TOwner.atomic 1023)) ∧ (tEnt (tAsk28 3 0 4096) (TOwner.atomic 1023)).owner = TOwner.atomic 1023 ∧ (State.cell w28_65 1023).block = some (CBlock.atomic 31 90) ∧ (State.cell w28_65 1023).pendTrap = none ∧ (tAns 131 0 0 (List.replicate 32 7#8)).status = 0) ∧
    (answersTo (tSqS (tAsked (tEnt (tAsk28 6 1 0) (TOwner.mgmt 255 9)))) 15 134 (tAns 134 129 0 (List.replicate 32 7#8)) (tAsk28 6 1 0) (tEnt (tAsk28 6 1 0) (TOwner.mgmt 255 9)) ∧ (tEnt (tAsk28 6 1 0) (TOwner.mgmt 255 9)).owner = TOwner.mgmt 255 9 ∧ 255 < 256 ∧ Sq.ent (State.sq (tSqS (tAsked (tEnt (tAsk28 6 1 0) (TOwner.mgmt 255 9)))) 255) 9 = some w28_70 ∧ bfld w28_70.bytes 0 1 = 68 ∧ bfld w28_70.bytes 2 2 < 32768 ∧ (hsigAt w28_70.bytes 44 48 50 52).valid = false ∧ (tAns 134 129 0 (List.replicate 32 7#8)).status = 0) ∧
    (State.portIn w28_71 15 = true ∧ Packet.formOk (tAns 130 0 0 []) = true ∧ State.idValid w28_71 = true ∧ (tAns 130 0 0 []).dst = State.devId w28_71 ∧ (tAns 130 0 0 []).flags / 8 % 2 = 0 ∧ ((State.trk w28_71 ((tAns 130 0 0 []).trk % 2) (tAns 130 0 0 []).tag).use ≠ TUse.busy ∨ Option.isSome (State.trk w28_71 ((tAns 130 0 0 []).trk % 2) (tAns 130 0 0 []).tag).pkt = true ∧ (State.trk w28_71 ((tAns 130 0 0 []).trk % 2) (tAns 130 0 0 []).tag).gen ≠ (tAns 130 0 0 []).gen)) ∧
    (State.portIn tFab 15 = true ∧ Packet.formOk (tAns 129 0 0 (List.replicate 32 7#8)) = true ∧ State.idValid tFab = true ∧ (tAns 129 0 0 (List.replicate 32 7#8)).dst = State.devId tFab ∧ (tAns 129 0 0 (List.replicate 32 7#8)).flags / 8 % 2 = 0 ∧ ((State.trk tFab ((tAns 129 0 0 (List.replicate 32 7#8)).trk % 2) (tAns 129 0 0 (List.replicate 32 7#8)).tag).use ≠ TUse.busy ∨ Option.isSome (State.trk tFab ((tAns 129 0 0 (List.replicate 32 7#8)).trk % 2) (tAns 129 0 0 (List.replicate 32 7#8)).tag).pkt = true ∧ (State.trk tFab ((tAns 129 0 0 (List.replicate 32 7#8)).trk % 2) (tAns 129 0 0 (List.replicate 32 7#8)).tag).gen ≠ (tAns 129 0 0 (List.replicate 32 7#8)).gen)) ∧
    (State.dieUp (tAsked (tEnt (tAsk28 2 0 4096) TOwner.other)) (dieS 1) = true ∧ (State.trk (tAsked (tEnt (tAsk28 2 0 4096) TOwner.other)) 1 1048575).use = TUse.busy ∧ (State.trk (tAsked (tEnt (tAsk28 2 0 4096) TOwner.other)) 1 1048575).pkt = some (tAsk28 2 0 4096) ∧ (State.trk (tAsked (tEnt (tAsk28 2 0 4096) TOwner.other)) 1 1048575).twin = none ∧ (tAsk28 2 0 4096).flags % 2 = 0 ∧ (∀ (m : MoveOp), m ∈ (tAsked (tEnt (tAsk28 2 0 4096) TOwner.other)).moves → m.todo = []) ∧ (tAsk28 2 0 4096).type ≠ 1 ∧ (State.trk (tAsked (tEnt (tAsk28 2 0 4096) TOwner.other)) 1 1048575).owner = TOwner.other) ∧
    (State.dieUp w28_64 (dieS 1) = true ∧ (State.trk w28_64 1 1048575).use = TUse.busy ∧ (State.trk w28_64 1 1048575).pkt = some (tAsk28 2 0 4096) ∧ (State.trk w28_64 1 1048575).twin = none ∧ (tAsk28 2 0 4096).flags % 2 = 0 ∧ (∀ (m : MoveOp), m ∈ w28_64.moves → m.todo = []) ∧ (tAsk28 2 0 4096).type ≠ 1 ∧ (State.trk w28_64 1 1048575).owner = TOwner.move 5 ∧ State.move w28_64 5 = some tMvR) ∧
    (State.dieUp w28_75 (dieS 1) = true ∧ (State.trk w28_75 1 1048575).use = TUse.busy ∧ (State.trk w28_75 1 1048575).pkt = some (tAsk28 1 0 4096) ∧ (State.trk w28_75 1 1048575).twin = none ∧ (tAsk28 1 0 4096).flags % 2 = 0 ∧ (∀ (m : MoveOp), m ∈ w28_75.moves → m.todo = []) ∧ (tAsk28 1 0 4096).type = 1 ∧ (State.trk w28_75 1 1048575).owner = TOwner.other ∧ (2 ≤ (State.trk w28_75 1 1048575).reissues ∨ State.reissuePort w28_75 (tAsk28 1 0 4096) (State.trk w28_75 1 1048575).port = none)) ∧
    (State.dieUp (tAsked (tEnt (tAsk28 1 0 4096) TOwner.other)) (dieS 1) = true ∧ (State.trk (tAsked (tEnt (tAsk28 1 0 4096) TOwner.other)) 1 1048575).use = TUse.busy ∧ (State.trk (tAsked (tEnt (tAsk28 1 0 4096) TOwner.other)) 1 1048575).pkt = some (tAsk28 1 0 4096) ∧ (State.trk (tAsked (tEnt (tAsk28 1 0 4096) TOwner.other)) 1 1048575).twin = none ∧ (tAsk28 1 0 4096).flags % 2 = 0 ∧ (∀ (m : MoveOp), m ∈ (tAsked (tEnt (tAsk28 1 0 4096) TOwner.other)).moves → m.todo = []) ∧ (tAsk28 1 0 4096).type = 1 ∧ (State.trk (tAsked (tEnt (tAsk28 1 0 4096) TOwner.other)) 1 1048575).owner = TOwner.other ∧ (2 ≤ (State.trk (tAsked (tEnt (tAsk28 1 0 4096) TOwner.other)) 1 1048575).reissues ∨ State.reissuePort (tAsked (tEnt (tAsk28 1 0 4096) TOwner.other)) (tAsk28 1 0 4096) (State.trk (tAsked (tEnt (tAsk28 1 0 4096) TOwner.other)) 1 1048575).port = none)) ∧
    (State.dieUp w28_79 (dieS 1) = true ∧ (State.trk w28_79 1 1048575).use = TUse.busy ∧ (State.trk w28_79 1 1048575).pkt = some (tAsk28 1 0 4096) ∧ (State.trk w28_79 1 1048575).twin = none ∧ (tAsk28 1 0 4096).flags % 2 = 0 ∧ (∀ (m : MoveOp), m ∈ w28_79.moves → m.todo = []) ∧ (tAsk28 1 0 4096).type = 1 ∧ (State.trk w28_79 1 1048575).reissues < 2 ∧ State.reissuePort w28_79 (tAsk28 1 0 4096) (State.trk w28_79 1 1048575).port = some 0 ∧ 0 / 8 ≠ 1 ∧ Span.inUse (State.span w28_79 (0 / 8)) < 1048576) ∧
    ((∀ (m : MoveOp), m ∈ w28_82b.moves → m.todo = []) ∧ (State.trk w28_82b 1 1048575).use = TUse.quarantined) ∧
    ((∀ (m : MoveOp), m ∈ (tAsked (tEnt (tAsk28 1 0 0) TOwner.other)).moves → m.todo = []) ∧ (State.trk (tAsked (tEnt (tAsk28 1 0 0) TOwner.other)) 1 1048575).use ≠ TUse.quarantined) ∧
    ((∀ (m : MoveOp), m ∈ (tFlowOut 0).moves → m.todo = []) ∧ tget none (tFlowOut 0).fab.flowOut (flowKey 3 261120) = some w28_82 ∧ w28_82.out = 0) := by
  and_intros <;> first | decide +kernel | rfl
/-- States and operands that meet the hypotheses of FabricResponseResults, part 2. -/
theorem wit_FabricResponseResults_2 :
    ((∀ (m : MoveOp), m ∈ (tFlowOut 1).moves → m.todo = []) ∧ tget none (tFlowOut 1).fab.flowOut (flowKey 3 261120) = some w28_85 ∧ w28_85.out ≠ 0) ∧
    (State.portIn tFab 8 = true ∧ pathRouted w28_86 = false ∧ w28_86.type ≠ 7 ∧ State.idValid tFab = true ∧ w28_86.dst ≠ State.devId tFab ∧ Packet.formOk w28_86 = true ∧ w28_86.hops < 62 ∧ (State.route tFab (State.routeKey tFab w28_86.dst)).valid = true ∧ (State.route tFab (State.routeKey tFab w28_86.dst)).primary = 2 ^ 15 ∧ 15 < 16 ∧ State.portUp tFab 15 = true) ∧
    (State.portIn tFab 8 = true ∧ pathRouted w28_87 = false ∧ w28_87.type ≠ 7 ∧ State.idValid tFab = true ∧ w28_87.dst ≠ State.devId tFab ∧ Packet.formOk w28_87 = true ∧ 62 ≤ w28_87.hops) ∧
    (State.portIn tFab 0 = true ∧ pathRouted w28_88 = false ∧ w28_88.type ≠ 7 ∧ State.idValid tFab = true ∧ w28_88.dst ≠ State.devId tFab ∧ Packet.formOk w28_88 = true ∧ w28_88.hops < 62 ∧ (State.route tFab (State.routeKey tFab w28_88.dst)).valid = false) ∧
    (State.portIn tFab 0 = true ∧ ((tPathed 15).type = 6 ∨ (tPathed 15).type = 134) ∧ pathRouted (tPathed 15) = true ∧ pathIdx (tPathed 15) < pathLen (tPathed 15) ∧ Packet.formOk (tPathed 15) = true ∧ pathOk (tPathed 15) = true ∧ State.portUp tFab (pathPort (tPathed 15) (pathIdx (tPathed 15))) = true ∧ (tPathed 15).hops < 62) ∧
    (State.portIn tFab 0 = true ∧ ((tPathed 14).type = 6 ∨ (tPathed 14).type = 134) ∧ pathRouted (tPathed 14) = true ∧ pathIdx (tPathed 14) < pathLen (tPathed 14) ∧ Packet.formOk (tPathed 14) = true ∧ pathOk (tPathed 14) = true ∧ State.portUp tFab (pathPort (tPathed 14) (pathIdx (tPathed 14))) = false) := by
  and_intros <;> first | decide +kernel | rfl
/-- States and operands that meet the hypotheses of ManagementResults, part 1. -/
theorem wit_ManagementResults_1 :
    (comesIn tFab 15 6 (tMgmt 1 (toBytesLE 4 Reg.KEY_DEV_ID)) 15 ∧ pathRouted (tMgmt 1 (toBytesLE 4 Reg.KEY_DEV_ID)) = false ∧ way tFab dieK 15 ∧ State.dieUp tFab dieK = true ∧ (tMgmt 1 (toBytesLE 4 Reg.KEY_DEV_ID)).mod = 1 ∧ bfld (tMgmt 1 (toBytesLE 4 Reg.KEY_DEV_ID)).payload 0 4 < 67108864) ∧
    (comesIn tFab 15 6 (tMgmt 1 (toBytesLE 4 67108863)) 15 ∧ pathRouted (tMgmt 1 (toBytesLE 4 67108863)) = false ∧ way tFab dieK 15 ∧ State.dieUp tFab dieK = true ∧ (tMgmt 1 (toBytesLE 4 67108863)).mod = 1 ∧ bfld (tMgmt 1 (toBytesLE 4 67108863)).payload 0 4 < 67108864) ∧
    (comesIn (tManaged (0#32) tFab) 15 6 (tMgmt 2 (toBytesLE 4 Reg.KEY_RCH_SEL ++ toBytesLE 4 7)) 15 ∧ pathRouted (tMgmt 2 (toBytesLE 4 Reg.KEY_RCH_SEL ++ toBytesLE 4 7)) = false ∧ way (tManaged (0#32) tFab) dieK 15 ∧ State.dieUp (tManaged (0#32) tFab) dieK = true ∧ (tMgmt 2 (toBytesLE 4 Reg.KEY_RCH_SEL ++ toBytesLE 4 7)).mod = 2 ∧ State.mgmtAccepts (tManaged (0#32) tFab) (tMgmt 2 (toBytesLE 4 Reg.KEY_RCH_SEL ++ toBytesLE 4 7)) = false) ∧
    (comesIn (tManaged (4#32) tFab) 15 6 (tMgmt 2 (toBytesLE 4 Reg.NRG_LEDGER_SEL ++ toBytesLE 4 7)) 15 ∧ pathRouted (tMgmt 2 (toBytesLE 4 Reg.NRG_LEDGER_SEL ++ toBytesLE 4 7)) = false ∧ way (tManaged (4#32) tFab) dieK 15 ∧ State.dieUp (tManaged (4#32) tFab) dieK = true ∧ (tMgmt 2 (toBytesLE 4 Reg.NRG_LEDGER_SEL ++ toBytesLE 4 7)).mod = 2 ∧ State.mgmtAccepts (tManaged (4#32) tFab) (tMgmt 2 (toBytesLE 4 Reg.NRG_LEDGER_SEL ++ toBytesLE 4 7)) = true ∧ writable (tManaged (4#32) tFab) (bfld (tMgmt 2 (toBytesLE 4 Reg.NRG_LEDGER_SEL ++ toBytesLE 4 7)).payload 0 4) ∧ bfld (tMgmt 2 (toBytesLE 4 Reg.NRG_LEDGER_SEL ++ toBytesLE 4 7)).payload 0 4 ∈ [Reg.KEY_RCH_SEL, Reg.KEY_PLC_SEL, Reg.NRG_LEDGER_SEL]) := by
  and_intros <;> first | decide +kernel | rfl
/-- States and operands that meet the hypotheses of ManagementResults, part 2. -/
theorem wit_ManagementResults_2 :
    (comesIn tFab 15 6 (tMgmt 3 (tWaitCmd 0)) 15 ∧ pathRouted (tMgmt 3 (tWaitCmd 0)) = false ∧ way tFab dieK 15 ∧ State.dieUp tFab dieK = true ∧ (tMgmt 3 (tWaitCmd 0)).mod = 3 ∧ State.arrive tFab Issuer.mgmt (padTo 64 (tMgmt 3 (tWaitCmd 0)).payload) = some (Option.getD (State.arrive tFab Issuer.mgmt (tWaitCmd 0)) State.reset) ∧ onlyPort (Option.getD (State.arrive tFab Issuer.mgmt (tWaitCmd 0)) State.reset) (tMgmt 3 (tWaitCmd 0)).src 15 ∧ way (Option.getD (State.arrive tFab Issuer.mgmt (tWaitCmd 0)) State.reset) dieK 15) ∧
    (comesIn tFab 15 6 (tMgmt 3 [255#8]) 15 ∧ pathRouted (tMgmt 3 [255#8]) = false ∧ way tFab dieK 15 ∧ State.dieUp tFab dieK = true ∧ (tMgmt 3 [255#8]).mod = 3 ∧ State.arrive tFab Issuer.mgmt (padTo 64 (tMgmt 3 [255#8]).payload) = some (Option.getD (State.arrive tFab Issuer.mgmt (padTo 64 [255#8])) State.reset) ∧ onlyPort (Option.getD (State.arrive tFab Issuer.mgmt (padTo 64 [255#8])) State.reset) (tMgmt 3 [255#8]).src 15 ∧ way (Option.getD (State.arrive tFab Issuer.mgmt (padTo 64 [255#8])) State.reset) dieK 15) := by
  and_intros <;> first | decide +kernel | rfl
/-- States and operands that meet the hypotheses of ManagementResults, part 3. -/
theorem wit_ManagementResults_3 :
    (comesIn tFlowFull 15 6 (tMgmt 3 tBadCmd) 15 ∧ pathRouted (tMgmt 3 tBadCmd) = false ∧ way tFlowFull dieK 15 ∧ State.dieUp tFlowFull dieK = true ∧ (tMgmt 3 tBadCmd).mod = 3 ∧ State.arrive tFlowFull Issuer.mgmt (padTo 64 (tMgmt 3 tBadCmd).payload) = none) ∧
    (comesIn tFab 15 6 (tMgmt 4 [1#8]) 15 ∧ pathRouted (tMgmt 4 [1#8]) = false ∧ way tFab dieK 15 ∧ State.dieUp tFab dieK = true ∧ (tMgmt 4 [1#8]).mod = 4 ∧ bfld (tMgmt 4 [1#8]).payload 0 1 < 2 ∧ allZero (List.drop 1 (padTo 32 (tMgmt 4 [1#8]).payload)) = true) ∧
    (comesIn tFab 15 6 (tMgmt 4 [2#8]) 15 ∧ pathRouted (tMgmt 4 [2#8]) = false ∧ way tFab dieK 15 ∧ State.dieUp tFab dieK = true ∧ (tMgmt 4 [2#8]).mod = 4 ∧ 2 ≤ bfld (tMgmt 4 [2#8]).payload 0 1) ∧
    (comesIn (tManaged (0#32) tFab) 15 6 (tMgmt 5 (toBytesLE 4 2147483648)) 15 ∧ pathRouted (tMgmt 5 (toBytesLE 4 2147483648)) = false ∧ way (tManaged (0#32) tFab) dieK 15 ∧ State.dieUp (tManaged (0#32) tFab) dieK = true ∧ (tMgmt 5 (toBytesLE 4 2147483648)).mod = 5 ∧ State.mgmtAccepts (tManaged (0#32) tFab) (tMgmt 5 (toBytesLE 4 2147483648)) = false) ∧
    (comesIn (tManaged (4#32) (tAsked (tEnt (tAsk28 2 0 0) TOwner.other))) 15 6 (tMgmt 5 (toBytesLE 4 2147483648)) 15 ∧ pathRouted (tMgmt 5 (toBytesLE 4 2147483648)) = false ∧ way (tManaged (4#32) (tAsked (tEnt (tAsk28 2 0 0) TOwner.other))) dieK 15 ∧ State.dieUp (tManaged (4#32) (tAsked (tEnt (tAsk28 2 0 0) TOwner.other))) dieK = true ∧ (tMgmt 5 (toBytesLE 4 2147483648)).mod = 5 ∧ State.mgmtAccepts (tManaged (4#32) (tAsked (tEnt (tAsk28 2 0 0) TOwner.other))) (tMgmt 5 (toBytesLE 4 2147483648)) = true ∧ State.idFree (tManaged (4#32) (tAsked (tEnt (tAsk28 2 0 0) TOwner.other))) (BitVec.ofNat 32 (bfld (tMgmt 5 (toBytesLE 4 2147483648)).payload 0 4)) = false) := by
  and_intros <;> first | decide +kernel | rfl
/-- States and operands that meet the hypotheses of ManagementResults, part 4. -/
theorem wit_ManagementResults_4 :
    (comesIn (tManaged (4#32) tFab) 15 6 (tMgmt 5 (toBytesLE 4 2147483648)) 15 ∧ pathRouted (tMgmt 5 (toBytesLE 4 2147483648)) = false ∧ way (tManaged (4#32) tFab) dieK 15 ∧ State.dieUp (tManaged (4#32) tFab) dieK = true ∧ (tMgmt 5 (toBytesLE 4 2147483648)).mod = 5 ∧ State.mgmtAccepts (tManaged (4#32) tFab) (tMgmt 5 (toBytesLE 4 2147483648)) = true ∧ State.idFree (tManaged (4#32) tFab) (BitVec.ofNat 32 (bfld (tMgmt 5 (toBytesLE 4 2147483648)).payload 0 4)) = true ∧ quietLog (tManaged (4#32) tFab) ∧ BitVec.ofNat 32 (bfld (tMgmt 5 (toBytesLE 4 2147483648)).payload 0 4) &&& 2147221504#32 = 0#32 ∧ onlyPort (State.wDevId (tManaged (4#32) tFab) Origin.fabric (tMgmt 5 (toBytesLE 4 2147483648)).src (BitVec.ofNat 32 (bfld (tMgmt 5 (toBytesLE 4 2147483648)).payload 0 4))) (tMgmt 5 (toBytesLE 4 2147483648)).src 15 ∧ way (State.wDevId (tManaged (4#32) tFab) Origin.fabric (tMgmt 5 (toBytesLE 4 2147483648)).src (BitVec.ofNat 32 (bfld (tMgmt 5 (toBytesLE 4 2147483648)).payload 0 4))) dieK 15) := by
  and_intros <;> first | decide +kernel | rfl
/-- States and operands that meet the hypotheses of DiscoveryAndTakeoverResults, part 1. -/
theorem wit_DiscoveryAndTakeoverResults_1 :
    (State.portLive (tTook (tHello 0 [1#8] 0)) 15 = true ∧ (State.hello (tTook (tHello 0 [1#8] 0)) 15).taken = some (tHello 0 [1#8] 0) ∧ (((tHello 0 [1#8] 0).seq + 2 ^ 32 - (tHello 0 [1#8] 0).seq) % 2 ^ 32 = 0 ∨ 2 ^ 31 ≤ ((tHello 0 [1#8] 0).seq + 2 ^ 32 - (tHello 0 [1#8] 0).seq) % 2 ^ 32)) ∧
    (State.portLive (tTook (tHello 0 [1#8] 0)) 15 = true ∧ (State.hello (tTook (tHello 0 [1#8] 0)) 15).taken = some (tHello 0 [1#8] 0) ∧ (((tHello 2147483648 [1#8] 0).seq + 2 ^ 32 - (tHello 0 [1#8] 0).seq) % 2 ^ 32 = 0 ∨ 2 ^ 31 ≤ ((tHello 2147483648 [1#8] 0).seq + 2 ^ 32 - (tHello 0 [1#8] 0).seq) % 2 ^ 32)) ∧
    (State.portLive tFab 15 = true ∧ (State.hello tFab 15).taken = none) ∧
    (State.portLive tFab 15 = true) ∧
    (tFab.fab.mgrPort = none) ∧
    (Option.isSome w28_127.fab.mgrPort = true ∧ (∀ (kv : Nat × HelloSt), kv ∈ w28_127.fab.hello → ∀ (m : HelloMsg), kv.snd.taken = some m → m.mgrDigest = w28_127.fab.mgrDigest ∧ m.mgrHost = w28_127.fab.mgrHost)) ∧
    (Option.isSome w28_128.fab.mgrPort = true ∧ (∀ (kv : Nat × HelloSt), kv ∈ w28_128.fab.hello → ∀ (m : HelloMsg), kv.snd.taken = some m → m.mgrDigest = w28_128.fab.mgrDigest ∧ m.mgrHost = w28_128.fab.mgrHost)) ∧
    (State.dieUp (tPiers (0#32) (0#32) tFab) (dieS 0) = true ∧ 1 < 2 ∧ State.role (tPiers (0#32) (0#32) tFab) 0 = 0) ∧
    (State.dieUp (tPiers (0#32) (4#32) tFab) (dieS 1) = true ∧ 1 < 2 ∧ State.role (tPiers (0#32) (4#32) tFab) 1 = 1) ∧
    (State.dieUp (tPiers (20#32) (4#32) tFab) (dieS 0) = true ∧ 1 < 2 ∧ (0 = 0 ∧ State.role (tPiers (20#32) (4#32) tFab) 0 ≠ 0 ∨ 0 = 1 ∧ State.role (tPiers (20#32) (4#32) tFab) 1 = 2)) ∧
    (State.dieUp (tPiers (0#32) (8#32) tFab) (dieS 1) = true ∧ 0 < 2 ∧ (1 = 0 ∧ State.role (tPiers (0#32) (8#32) tFab) 0 ≠ 0 ∨ 1 = 1 ∧ State.role (tPiers (0#32) (8#32) tFab) 1 = 2)) ∧
    (State.dieUp (tPiers (3#32) (3#32) tFab) (dieS 1) = true ∧ 0 < 2 ∧ State.rf (State.setRb (tPiers (3#32) (3#32) tFab) (Reg.Sd_PIER_STATUS 1) 0 false) (Reg.Sd_PIER_STATUS 1) 0 2 ≠ 0) ∧
    (State.dieUp (tPiers (1#32) (1#32) tFab) (dieS 0) = true ∧ 0 < 2 ∧ State.rf (State.setRb (tPiers (1#32) (1#32) tFab) (Reg.Sd_PIER_STATUS 0) 0 false) (Reg.Sd_PIER_STATUS 0) 0 2 = 0 ∧ State.presumes (tPiers (1#32) (1#32) tFab) 0 = false ∧ State.role (tPiers (1#32) (1#32) tFab) 0 = 0 ∧ (0 = 0 ∨ State.rb (tPiers (1#32) (1#32) tFab) (Reg.Sd_PIER_STATUS 1) 5 = true)) ∧
    (State.dieUp (tPiers (2#32) (34#32) tFab) (dieS 1) = true ∧ 1 < 2 ∧ State.rf (State.setRb (tPiers (2#32) (34#32) tFab) (Reg.Sd_PIER_STATUS 1) 1 false) (Reg.Sd_PIER_STATUS 1) 0 2 = 0 ∧ State.presumes (tPiers (2#32) (34#32) tFab) 1 = false ∧ State.role (tPiers (2#32) (34#32) tFab) 1 = 0 ∧ (1 = 0 ∨ State.rb (tPiers (2#32) (34#32) tFab) (Reg.Sd_PIER_STATUS 1) 5 = true)) := by
  and_intros <;> first | decide +kernel | rfl
/-- States and operands that meet the hypotheses of DiscoveryAndTakeoverResults, part 2. -/
theorem wit_DiscoveryAndTakeoverResults_2 :
    (State.dieUp (tPiers (2#32) (2#32) tFab) (dieS 1) = true ∧ 1 < 2 ∧ State.rf (State.setRb (tPiers (2#32) (2#32) tFab) (Reg.Sd_PIER_STATUS 1) 1 false) (Reg.Sd_PIER_STATUS 1) 0 2 = 0 ∧ State.presumes (tPiers (2#32) (2#32) tFab) 1 = false ∧ State.rb (tPiers (2#32) (2#32) tFab) (Reg.Sd_PIER_STATUS 1) 5 = false) ∧
    (State.dieUp (tPiers (2#32) (16#32) tFab) (dieS 1) = true ∧ 1 < 2 ∧ State.presumes (tPiers (2#32) (16#32) tFab) 1 = true ∧ State.role (tPiers (2#32) (16#32) tFab) 1 = 0) ∧
    (State.dieUp (tPiers (2#32) (0#32) tFab) (dieS 1) = true ∧ 1 < 2 ∧ (1 = 0 ∨ State.presumes (tPiers (2#32) (0#32) tFab) 1 = false)) ∧
    (State.dieUp (tPiers (2#32) (52#32) tFab) (dieS 1) = true ∧ 1 < 2 ∧ State.role (tPiers (2#32) (52#32) tFab) 1 = 1) ∧
    (State.dieUp (tPiers (2#32) (32#32) tFab) (dieS 1) = true ∧ 1 < 2 ∧ (1 = 0 ∨ State.role (tPiers (2#32) (32#32) tFab) 1 ≠ 1)) ∧
    (State.dieUp (tPiers (3#32) (3#32) tFab) (dieS 1) = true ∧ 1 < 2) ∧
    (twf Route.none w28_147.fab.routes = true ∧ State.dieUp w28_147 (dieS 0) = true ∧ State.role w28_147 0 = 1 ∧ (State.span w28_147 0).taking = true ∧ (∀ (kv : Nat × TEnt), kv ∈ (State.span w28_147 (1 - 0)).trk → kv.snd.use ≠ TUse.busy)) ∧
    (twf Route.none w28_148.fab.routes = true ∧ State.dieUp w28_148 (dieS 1) = true ∧ State.role w28_148 1 = 1 ∧ (State.span w28_148 1).taking = true ∧ (∀ (kv : Nat × TEnt), kv ∈ (State.span w28_148 (1 - 1)).trk → kv.snd.use ≠ TUse.busy)) ∧
    (twf Route.none w28_149.fab.routes = true ∧ State.dieUp w28_149 (dieS 1) = true ∧ State.role w28_149 1 = 1 ∧ (State.span w28_149 1).stopped = true) ∧
    (twf Route.none (tTaking 1#32 2#32 fun x => Span.reset).fab.routes = true ∧ (∀ (e : Nat), e < 2 → State.dieUp (tTaking 1#32 2#32 fun x => Span.reset) (dieS e) = true ∧ State.role (tTaking 1#32 2#32 fun x => Span.reset) e = 0 ∧ State.rf (tTaking 1#32 2#32 fun x => Span.reset) (Reg.Sd_PIER_STATUS e) 0 2 ≠ 0)) ∧
    (twf Route.none (tTaking 0#32 4#32 fun x => Span.reset).fab.routes = true ∧ State.dieUp (tTaking 0#32 4#32 fun x => Span.reset) dieK = true ∧ State.role (tTaking 0#32 4#32 fun x => Span.reset) 1 = 1 ∧ (tTaking 0#32 4#32 fun x => Span.reset).fab.reports = []) ∧
    (twf Route.none (tReports [1] 0).fab.routes = true ∧ State.dieUp (tReports [1] 0) dieK = true ∧ State.role (tReports [1] 0) 0 = 1 ∧ (tReports [1] 0).fab.reports = [↑(1 - 0)]) ∧
    (twf Route.none (tReports [0] 0).fab.routes = true ∧ State.dieUp (tReports [0] 0) dieK = true ∧ State.role (tReports [0] 0) 1 = 1 ∧ (tReports [0] 0).fab.reports = [↑(1 - 1)]) ∧
    (twf Route.none (tReports [0, 1] 1).fab.routes = true ∧ ((tReports [0, 1] 1).fab.forceSends = 1 ∨ (tReports [0, 1] 1).fab.forceSends = 2)) := by
  and_intros <;> first | decide +kernel | rfl
/-- States and operands that meet the hypotheses of DiscoveryAndTakeoverResults, part 3. -/
theorem wit_DiscoveryAndTakeoverResults_3 :
    (twf Route.none (tReports [0, 1] 2).fab.routes = true ∧ ((tReports [0, 1] 2).fab.forceSends = 1 ∨ (tReports [0, 1] 2).fab.forceSends = 2)) ∧
    (twf Route.none (tReports [0, 1] 3).fab.routes = true ∧ 3 ≤ (tReports [0, 1] 3).fab.forceSends) ∧
    (twf Route.none (tReports [0, 1] 3).fab.routes = true ∧ State.dieUp (tReports [0, 1] 3) (dieS 1) = true ∧ State.role (tReports [0, 1] 3) 1 = 1) := by
  and_intros <;> first | decide +kernel | rfl
/-- States and operands that meet the hypotheses of RouteResults, part 1. -/
theorem wit_RouteResults_1 :
    (State.blockAnswers tFab Reg.KEY_RT_SEL = true ∧ BitVec.toNat 2047#32 < 2048) ∧
    (writable (tStaged (0#32) (0#32) (32896#32) tFab) Reg.KEY_RT_MODE ∧ BitVec.toNat 33#32 < 64 ∧ rtCheck (Word.fld (State.reg (tStaged (0#32) (0#32) (32896#32) tFab) Reg.KEY_RT_ENTRY) 0 16) (Word.fld (State.reg (tStaged (0#32) (0#32) (32896#32) tFab) Reg.KEY_RT_ENTRY) 16 16) (Word.fld (33#32) 0 2) (Word.fld (33#32) 2 2) ≠ 0) ∧
    (writable (tStaged (0#32) (0#32) (8421376#32) tFab) Reg.KEY_RT_MODE ∧ BitVec.toNat 35#32 < 64 ∧ rtCheck (Word.fld (State.reg (tStaged (0#32) (0#32) (8421376#32) tFab) Reg.KEY_RT_ENTRY) 0 16) (Word.fld (State.reg (tStaged (0#32) (0#32) (8421376#32) tFab) Reg.KEY_RT_ENTRY) 16 16) (Word.fld (35#32) 0 2) (Word.fld (35#32) 2 2) ≠ 0) ∧
    (writable (tStaged (0#32) (1279#32) (32768#32) tFab) Reg.KEY_RT_MODE ∧ BitVec.toNat 33#32 < 64 ∧ rtCheck (Word.fld (State.reg (tStaged (0#32) (1279#32) (32768#32) tFab) Reg.KEY_RT_ENTRY) 0 16) (Word.fld (State.reg (tStaged (0#32) (1279#32) (32768#32) tFab) Reg.KEY_RT_ENTRY) 16 16) (Word.fld (33#32) 0 2) (Word.fld (33#32) 2 2) ≠ 0) ∧
    (writable (tStaged (0#32) (1279#32) (98304#32) tFab) Reg.KEY_RT_MODE ∧ BitVec.toNat 33#32 < 64 ∧ rtCheck (Word.fld (State.reg (tStaged (0#32) (1279#32) (98304#32) tFab) Reg.KEY_RT_ENTRY) 0 16) (Word.fld (State.reg (tStaged (0#32) (1279#32) (98304#32) tFab) Reg.KEY_RT_ENTRY) 16 16) (Word.fld (33#32) 0 2) (Word.fld (33#32) 2 2) = 0) ∧
    (writable (tStaged (0#32) (1023#32) (65280#32) tFab) Reg.KEY_RT_MODE ∧ BitVec.toNat 0#32 < 64 ∧ rtCheck (Word.fld (State.reg (tStaged (0#32) (1023#32) (65280#32) tFab) Reg.KEY_RT_ENTRY) 0 16) (Word.fld (State.reg (tStaged (0#32) (1023#32) (65280#32) tFab) Reg.KEY_RT_ENTRY) 16 16) (Word.fld (0#32) 0 2) (Word.fld (0#32) 2 2) = 0) ∧
    (writable tAlt Reg.KEY_FAB_CTL ∧ State.rf tAlt Reg.KEY_FAB_CTL 3 4 = 0 ∧ (State.route tAlt (rtKey (State.reg tAlt Reg.KEY_RT_SEL))).mode = 1 ∧ State.setReady? tAlt (State.route tAlt (rtKey (State.reg tAlt Reg.KEY_RT_SEL))).primary = true) ∧
    (writable (tStaged (0#32) (1024#32) (0#32) tAlt) Reg.KEY_FAB_CTL ∧ State.rf (tStaged (0#32) (1024#32) (0#32) tAlt) Reg.KEY_FAB_CTL 3 4 = 0 ∧ ((State.route (tStaged (0#32) (1024#32) (0#32) tAlt) (rtKey (State.reg (tStaged (0#32) (1024#32) (0#32) tAlt) Reg.KEY_RT_SEL))).mode ≠ 1 ∨ State.setReady? (tStaged (0#32) (1024#32) (0#32) tAlt) (State.route (tStaged (0#32) (1024#32) (0#32) tAlt) (rtKey (State.reg (tStaged (0#32) (1024#32) (0#32) tAlt) Reg.KEY_RT_SEL))).primary = false)) ∧
    (writable w28_173 Reg.KEY_FAB_CTL ∧ State.rf w28_173 Reg.KEY_FAB_CTL 3 4 = 0 ∧ ((State.route w28_173 (rtKey (State.reg w28_173 Reg.KEY_RT_SEL))).mode ≠ 1 ∨ State.setReady? w28_173 (State.route w28_173 (rtKey (State.reg w28_173 Reg.KEY_RT_SEL))).primary = false)) ∧
    (writable tAlt Reg.KEY_FAB_CTL ∧ State.rf tAlt Reg.KEY_FAB_CTL 3 4 = 0 ∧ (State.route tAlt (rtKey (State.reg tAlt Reg.KEY_RT_SEL))).mode = 1 ∧ (State.setReady? tAlt (if (State.route tAlt (rtKey (State.reg tAlt Reg.KEY_RT_SEL))).active = true then (State.route tAlt (rtKey (State.reg tAlt Reg.KEY_RT_SEL))).primary else (State.route tAlt (rtKey (State.reg tAlt Reg.KEY_RT_SEL))).alternate) = true)) ∧
    (writable w28_175 Reg.KEY_FAB_CTL ∧ State.rf w28_175 Reg.KEY_FAB_CTL 3 4 = 0 ∧ ((State.route w28_175 (rtKey (State.reg w28_175 Reg.KEY_RT_SEL))).mode ≠ 1 ∨ State.setReady? w28_175 (if (State.route w28_175 (rtKey (State.reg w28_175 Reg.KEY_RT_SEL))).active = true then (State.route w28_175 (rtKey (State.reg w28_175 Reg.KEY_RT_SEL))).primary else (State.route w28_175 (rtKey (State.reg w28_175 Reg.KEY_RT_SEL))).alternate) = false)) ∧
    (writable tAlt Reg.KEY_FAB_CTL ∧ State.rf tAlt Reg.KEY_FAB_CTL 3 4 = 0 ∧ twf Route.none tAlt.fab.routes = true) ∧
    (writable tAlt Reg.KEY_FAB_CTL ∧ State.rf tAlt Reg.KEY_FAB_CTL 3 4 = 0 ∧ twf Route.none tAlt.fab.routes = true) ∧
    (writable (tAsked (tEnt (tAsk28 2 0 0) TOwner.other)) Reg.KEY_DEV_ID ∧ 2147483648#32 &&& 2147221504#32 = 0#32 ∧ State.idFree (tAsked (tEnt (tAsk28 2 0 0) TOwner.other)) 2147483648#32 = false) := by
  and_intros <;> first | decide +kernel | rfl
/-- States and operands that meet the hypotheses of RouteResults, part 2. -/
theorem wit_RouteResults_2 :
    (writable (tAsked (tEnt (tAsk28 2 0 0) TOwner.other)) Reg.KEY_DEV_ID ∧ 2147745791#32 &&& 2147221504#32 = 0#32 ∧ State.idFree (tAsked (tEnt (tAsk28 2 0 0) TOwner.other)) 2147745791#32 = true) ∧
    (writable tFab Reg.KEY_DEV_ID ∧ 0#32 &&& 2147221504#32 = 0#32 ∧ State.idFree tFab 0#32 = true) := by
  and_intros <;> first | decide +kernel | rfl
/-- States and operands that meet the hypotheses of HostQueueResults, part 1. -/
theorem wit_HostQueueResults_1 :
    (State.dieUp (tHost (tSq []) (tCq 36#32 [] 0)) dieK = true ∧ 255 < 256 ∧ BitVec.toNat 15#32 < 65536 ∧ State.pstate (tHost (tSq []) (tCq 36#32 [] 0)) ≠ 2 ∧ Sq.on (State.sq (tHost (tSq []) (tCq 36#32 [] 0)) 255) = true ∧ BitVec.toNat 15#32 < Sq.size (State.sq (tHost (tSq []) (tCq 36#32 [] 0)) 255)) ∧
    (State.dieUp (tHost (tSq []) (tCq 36#32 [] 0)) dieK = true ∧ 255 < 256 ∧ BitVec.toNat 16#32 < 65536 ∧ State.pstate (tHost (tSq []) (tCq 36#32 [] 0)) ≠ 2 ∧ Sq.on (State.sq (tHost (tSq []) (tCq 36#32 [] 0)) 255) = true ∧ Sq.size (State.sq (tHost (tSq []) (tCq 36#32 [] 0)) 255) ≤ BitVec.toNat 16#32) ∧
    (State.dieUp (tHost (tSq []) (tCq 36#32 [] 0)) dieK = true ∧ 254 < 256 ∧ BitVec.toNat 65535#32 < 65536 ∧ State.pstate (tHost (tSq []) (tCq 36#32 [] 0)) ≠ 2 ∧ Sq.on (State.sq (tHost (tSq []) (tCq 36#32 [] 0)) 254) = false) ∧
    (State.dieUp (tHost (tSq []) (tCq 36#32 [] 0)) dieK = true ∧ 255 < 256 ∧ BitVec.toNat 0#32 < 65536 ∧ State.pstate (tHost (tSq []) (tCq 36#32 [] 0)) ≠ 2 ∧ 8 ≠ 4) ∧
    (State.dieUp (tHost (tSq []) (tCq 36#32 [] 0)) dieK = true ∧ 255 < 256 ∧ BitVec.toNat 15#32 < 65536 ∧ State.pstate (tHost (tSq []) (tCq 36#32 [] 0)) ≠ 2 ∧ Cq.on (State.cq (tHost (tSq []) (tCq 36#32 [] 0)) 255) = true ∧ (¬(Cq.size (State.cq (tHost (tSq []) (tCq 36#32 [] 0)) 255) ≤ BitVec.toNat 15#32 ∨ ((State.cq (tHost (tSq []) (tCq 36#32 [] 0)) 255).tail + Cq.size (State.cq (tHost (tSq []) (tCq 36#32 [] 0)) 255) - (State.cq (tHost (tSq []) (tCq 36#32 [] 0)) 255).head) % Cq.size (State.cq (tHost (tSq []) (tCq 36#32 [] 0)) 255) < (BitVec.toNat 15#32 + Cq.size (State.cq (tHost (tSq []) (tCq 36#32 [] 0)) 255) - (State.cq (tHost (tSq []) (tCq 36#32 [] 0)) 255).head) % Cq.size (State.cq (tHost (tSq []) (tCq 36#32 [] 0)) 255)))) ∧
    (State.dieUp (tHost (tSq []) (tCq 36#32 [] 0)) dieK = true ∧ 254 < 256 ∧ BitVec.toNat 0#32 < 65536 ∧ State.pstate (tHost (tSq []) (tCq 36#32 [] 0)) ≠ 2 ∧ Cq.on (State.cq (tHost (tSq []) (tCq 36#32 [] 0)) 254) = true ∧ (Cq.size (State.cq (tHost (tSq []) (tCq 36#32 [] 0)) 254) ≤ BitVec.toNat 0#32 ∨ ((State.cq (tHost (tSq []) (tCq 36#32 [] 0)) 254).tail + Cq.size (State.cq (tHost (tSq []) (tCq 36#32 [] 0)) 254) - (State.cq (tHost (tSq []) (tCq 36#32 [] 0)) 254).head) % Cq.size (State.cq (tHost (tSq []) (tCq 36#32 [] 0)) 254) < (BitVec.toNat 0#32 + Cq.size (State.cq (tHost (tSq []) (tCq 36#32 [] 0)) 254) - (State.cq (tHost (tSq []) (tCq 36#32 [] 0)) 254).head) % Cq.size (State.cq (tHost (tSq []) (tCq 36#32 [] 0)) 254))) ∧
    (State.dieUp (tHost (tSq []) (tCq 36#32 [] 0)) dieK = true ∧ 254 < 256 ∧ BitVec.toNat 16#32 < 65536 ∧ State.pstate (tHost (tSq []) (tCq 36#32 [] 0)) ≠ 2 ∧ Cq.on (State.cq (tHost (tSq []) (tCq 36#32 [] 0)) 254) = true ∧ (Cq.size (State.cq (tHost (tSq []) (tCq 36#32 [] 0)) 254) ≤ BitVec.toNat 16#32 ∨ ((State.cq (tHost (tSq []) (tCq 36#32 [] 0)) 254).tail + Cq.size (State.cq (tHost (tSq []) (tCq 36#32 [] 0)) 254) - (State.cq (tHost (tSq []) (tCq 36#32 [] 0)) 254).head) % Cq.size (State.cq (tHost (tSq []) (tCq 36#32 [] 0)) 254) < (BitVec.toNat 16#32 + Cq.size (State.cq (tHost (tSq []) (tCq 36#32 [] 0)) 254) - (State.cq (tHost (tSq []) (tCq 36#32 [] 0)) 254).head) % Cq.size (State.cq (tHost (tSq []) (tCq 36#32 [] 0)) 254))) ∧
    (State.dieUp (tHost (tSq []) (tCq 36#32 [] 0)) dieK = true ∧ 253 < 256 ∧ BitVec.toNat 0#32 < 65536 ∧ State.pstate (tHost (tSq []) (tCq 36#32 [] 0)) ≠ 2 ∧ Cq.on (State.cq (tHost (tSq []) (tCq 36#32 [] 0)) 253) = false) ∧
    (State.mayFetch (tHost (tSq []) (tCq 36#32 [] 0)) 255 = true) ∧
    (State.mayFetch (tHost (tSq []) (tCq 36#32 [] 0)) 255 = true ∧ List.length (tEntry [(0, [8#8])]) = 64 ∧ State.ideOk (tHost (tSq []) (tCq 36#32 [] 0)) (Sq.addr (State.sq (tHost (tSq []) (tCq 36#32 [] 0)) 255) (State.sq (tHost (tSq []) (tCq 36#32 [] 0)) 255).head) = true ∧ 1 ≤ bfld (tEntry [(0, [8#8])]) 0 1 ∧ bfld (tEntry [(0, [8#8])]) 0 1 ≤ 8) ∧
    (State.mayFetch (tHost (tSq []) (tCq 36#32 [] 0)) 255 = true ∧ List.length (tEntry [(0, [65#8]), (24, [32#8])]) = 64 ∧ State.ideOk (tHost (tSq []) (tCq 36#32 [] 0)) (Sq.addr (State.sq (tHost (tSq []) (tCq 36#32 [] 0)) 255) (State.sq (tHost (tSq []) (tCq 36#32 [] 0)) 255).head) = true ∧ 64 ≤ bfld (tEntry [(0, [65#8]), (24, [32#8])]) 0 1 ∧ bfld (tEntry [(0, [65#8]), (24, [32#8])]) 0 1 ≤ 68 ∧ bfld (tEntry [(0, [65#8]), (24, [32#8])]) 2 2 < 32768 ∧ entryEncOk (tEntry [(0, [65#8]), (24, [32#8])]) = true ∧ State.entryAddrOk (tHost (tSq []) (tCq 36#32 [] 0)) (tEntry [(0, [65#8]), (24, [32#8])]) = true) ∧
    (State.mayFetch (tHost (tSq []) (tCq 36#32 [] 0)) 255 = true ∧ List.length (tEntry [(0, [68#8]), (2, [255#8, 131#8])]) = 64 ∧ State.ideOk (tHost (tSq []) (tCq 36#32 [] 0)) (Sq.addr (State.sq (tHost (tSq []) (tCq 36#32 [] 0)) 255) (State.sq (tHost (tSq []) (tCq 36#32 [] 0)) 255).head) = true ∧ 64 ≤ bfld (tEntry [(0, [68#8]), (2, [255#8, 131#8])]) 0 1 ∧ bfld (tEntry [(0, [68#8]), (2, [255#8, 131#8])]) 0 1 ≤ 68 ∧ 32768 ≤ bfld (tEntry [(0, [68#8]), (2, [255#8, 131#8])]) 2 2 ∧ tget none (tHost (tSq []) (tCq 36#32 [] 0)).hq.armed (bfld (tEntry [(0, [68#8]), (2, [255#8, 131#8])]) 2 2 % 1024) = none ∧ entryEncOk (tEntry [(0, [68#8]), (2, [255#8, 131#8])]) = true ∧ State.entryAddrOk (tHost (tSq []) (tCq 36#32 [] 0)) (tEntry [(0, [68#8]), (2, [255#8, 131#8])]) = true) ∧
    (State.mayFetch (tHost (tSq []) (tCq 36#32 [] 0)) 255 = true ∧ List.length (tEntry [(0, [63#8])]) = 64 ∧ State.ideOk (tHost (tSq []) (tCq 36#32 [] 0)) (Sq.addr (State.sq (tHost (tSq []) (tCq 36#32 [] 0)) 255) (State.sq (tHost (tSq []) (tCq 36#32 [] 0)) 255).head) = true ∧ (bfld (tEntry [(0, [63#8])]) 0 1 = 0 ∨ 8 < bfld (tEntry [(0, [63#8])]) 0 1 ∧ bfld (tEntry [(0, [63#8])]) 0 1 < 64 ∨ 68 < bfld (tEntry [(0, [63#8])]) 0 1)) ∧
    (State.mayFetch (tHost (tSq []) (tCq 36#32 [] 0)) 255 = true ∧ List.length (tEntry [(0, [69#8])]) = 64 ∧ State.ideOk (tHost (tSq []) (tCq 36#32 [] 0)) (Sq.addr (State.sq (tHost (tSq []) (tCq 36#32 [] 0)) 255) (State.sq (tHost (tSq []) (tCq 36#32 [] 0)) 255).head) = true ∧ (bfld (tEntry [(0, [69#8])]) 0 1 = 0 ∨ 8 < bfld (tEntry [(0, [69#8])]) 0 1 ∧ bfld (tEntry [(0, [69#8])]) 0 1 < 64 ∨ 68 < bfld (tEntry [(0, [69#8])]) 0 1)) := by
  and_intros <;> first | decide +kernel | rfl
/-- States and operands that meet the hypotheses of HostQueueResults, part 2. -/
theorem wit_HostQueueResults_2 :
    (State.mayFetch (tHost (tSq []) (tCq 36#32 [] 0)) 255 = true ∧ List.length (tEntry [(0, [64#8, 4#8])]) = 64 ∧ State.ideOk (tHost (tSq []) (tCq 36#32 [] 0)) (Sq.addr (State.sq (tHost (tSq []) (tCq 36#32 [] 0)) 255) (State.sq (tHost (tSq []) (tCq 36#32 [] 0)) 255).head) = true ∧ 64 ≤ bfld (tEntry [(0, [64#8, 4#8])]) 0 1 ∧ bfld (tEntry [(0, [64#8, 4#8])]) 0 1 ≤ 68 ∧ bfld (tEntry [(0, [64#8, 4#8])]) 2 2 < 32768 ∧ (hsigAt (tEntry [(0, [64#8, 4#8])]) 44 48 50 52).valid = false ∧ entryEncOk (tEntry [(0, [64#8, 4#8])]) = false) ∧
    (254 < 256 ∧ (State.cq w29_33 254).wait = [tCompl false, tCompl true] ∧ Cq.on (State.cq w29_33 254) = true ∧ State.dieUp w29_33 dieK = true ∧ State.ideOk w29_33 (Cq.addr (State.cq w29_33 254) (State.cq w29_33 254).tail) = true ∧ ((State.cq w29_33 254).tail + 1) % Cq.size (State.cq w29_33 254) = (State.cq w29_33 254).head) ∧
    (254 < 256 ∧ (State.cq (tHost (tSq []) (tMsiCq [tCompl false] 1)) 254).wait = [tCompl false] ∧ Cq.on (State.cq (tHost (tSq []) (tMsiCq [tCompl false] 1)) 254) = true ∧ State.dieUp (tHost (tSq []) (tMsiCq [tCompl false] 1)) dieK = true ∧ State.ideOk (tHost (tSq []) (tMsiCq [tCompl false] 1)) (Cq.addr (State.cq (tHost (tSq []) (tMsiCq [tCompl false] 1)) 254) (State.cq (tHost (tSq []) (tMsiCq [tCompl false] 1)) 254).tail) = true ∧ ((State.cq (tHost (tSq []) (tMsiCq [tCompl false] 1)) 254).tail + 1) % Cq.size (State.cq (tHost (tSq []) (tMsiCq [tCompl false] 1)) 254) ≠ (State.cq (tHost (tSq []) (tMsiCq [tCompl false] 1)) 254).head) ∧
    (254 < 256 ∧ (State.cq (tHost (tSq []) (tMsiCq [tCompl true] 1)) 254).wait = [tCompl true] ∧ Cq.on (State.cq (tHost (tSq []) (tMsiCq [tCompl true] 1)) 254) = true ∧ State.dieUp (tHost (tSq []) (tMsiCq [tCompl true] 1)) dieK = true ∧ State.ideOk (tHost (tSq []) (tMsiCq [tCompl true] 1)) (Cq.addr (State.cq (tHost (tSq []) (tMsiCq [tCompl true] 1)) 254) (State.cq (tHost (tSq []) (tMsiCq [tCompl true] 1)) 254).tail) = true ∧ ((State.cq (tHost (tSq []) (tMsiCq [tCompl true] 1)) 254).tail + 1) % Cq.size (State.cq (tHost (tSq []) (tMsiCq [tCompl true] 1)) 254) ≠ (State.cq (tHost (tSq []) (tMsiCq [tCompl true] 1)) 254).head) ∧
    (255 < 256 ∧ Cq.on (State.cq (tHost (tSq []) (tMsiCq [] 1)) 255) = true ∧ Word.bit (State.cq (tHost (tSq []) (tMsiCq [] 1)) 255).cfg 6 = true ∧ 0 < (State.cq (tHost (tSq []) (tMsiCq [] 1)) 255).since ∧ Word.fld (State.cq (tHost (tSq []) (tMsiCq [] 1)) 255).cfg 26 6 ≠ 0 ∧ State.dieUp (tHost (tSq []) (tMsiCq [] 1)) dieK = true) ∧
    ((State.cq (tHost (tSq []) (tMsiCq [] 0)) 255).since = 0) ∧
    (writable (tHost Sq.reset (tCq 36#32 [] 0)) Reg.HQ_SQ_CFG ∧ Sq.on (State.sq (tHost Sq.reset (tCq 36#32 [] 0)) (State.qSel (tHost Sq.reset (tCq 36#32 [] 0)))) = false ∧ BitVec.toNat (16#32 + 254#32 * 32#32 + 32768#32) < 65536 ∧ Word.bit (16#32 + 254#32 * 32#32 + 32768#32) 15 = true ∧ qSizeOk (16#32 + 254#32 * 32#32 + 32768#32) = true ∧ Cq.on (State.cq (tHost Sq.reset (tCq 36#32 [] 0)) (Word.fld (16#32 + 254#32 * 32#32 + 32768#32) 5 8)) = true) ∧
    (writable (tHost Sq.reset (tCq 36#32 [] 0)) Reg.HQ_SQ_CFG ∧ Sq.on (State.sq (tHost Sq.reset (tCq 36#32 [] 0)) (State.qSel (tHost Sq.reset (tCq 36#32 [] 0)))) = false ∧ BitVec.toNat (4#32 + 253#32 * 32#32 + 32768#32) < 65536 ∧ Word.bit (4#32 + 253#32 * 32#32 + 32768#32) 15 = true ∧ qSizeOk (4#32 + 253#32 * 32#32 + 32768#32) = true ∧ Cq.on (State.cq (tHost Sq.reset (tCq 36#32 [] 0)) (Word.fld (4#32 + 253#32 * 32#32 + 32768#32) 5 8)) = false) ∧
    (writable w29_42 Reg.HQ_SQ_CFG ∧ Sq.on (State.sq w29_42 (State.qSel w29_42)) = true ∧ BitVec.toNat (State.sq w29_42 (State.qSel w29_42)).cfg < 65536) ∧
    (writable (tHost (tSq []) (tCq 0#32 [] 0)) Reg.HQ_CQ_CFG ∧ Cq.on (State.cq (tHost (tSq []) (tCq 0#32 [] 0)) (State.qSel (tHost (tSq []) (tCq 0#32 [] 0)))) = false ∧ Word.bit (48#32) 5 = true ∧ qSizeOk 48#32 = true) ∧
    (writable w29_44 Reg.HQ_CQ_CFG ∧ Cq.on (State.cq w29_44 (State.qSel w29_44)) = true ∧ State.boundTo w29_44 (State.qSel w29_44) ≠ []) ∧
    (writable (tHost (tSq []) (tCq 36#32 [] 0)) Reg.HQ_CQ_CFG ∧ Cq.on (State.cq (tHost (tSq []) (tCq 36#32 [] 0)) (State.qSel (tHost (tSq []) (tCq 36#32 [] 0)))) = true ∧ State.boundTo (tHost (tSq []) (tCq 36#32 [] 0)) (State.qSel (tHost (tSq []) (tCq 36#32 [] 0))) = []) := by
  and_intros <;> first | decide +kernel | rfl
/-- States and operands that meet the hypotheses of HostEntryResults, part 1. -/
theorem wit_HostEntryResults_1 :
    (sqRuns (tHas (tEntry [(0, [64#8, 3#8])])) 255 9 64 (tE (tEntry [(0, [64#8, 3#8])]) false)) ∧
    (sqRuns (tHas (tDma 65 1100048498688 64)) 255 9 65 (tE (tDma 65 1100048498688 64) false) ∧ State.dmaCheck (tHas (tDma 65 1100048498688 64)) (bfld (tE (tDma 65 1100048498688 64) false).bytes 8 8) (gaDA (bfld (tE (tDma 65 1100048498688 64) false).bytes 16 8)) (bfld (tE (tDma 65 1100048498688 64) false).bytes 24 4) true = 0 ∧ rangeKind (tHas (tDma 65 1100048498688 64)).trg (gaDA (bfld (tE (tDma 65 1100048498688 64) false).bytes 16 8)) (bfld (tE (tDma 65 1100048498688 64) false).bytes 24 4) = RKind.untiled ∧ State.still (tHas (tDma 65 1100048498688 64)) (gaDA (bfld (tE (tDma 65 1100048498688 64) false).bytes 16 8)) (bfld (tE (tDma 65 1100048498688 64) false).bytes 24 4) = true) ∧
    (sqRuns (tHas (tDma 65 73728 8192)) 255 9 65 (tE (tDma 65 73728 8192) false) ∧ State.dmaCheck (tHas (tDma 65 73728 8192)) (bfld (tE (tDma 65 73728 8192) false).bytes 8 8) (gaDA (bfld (tE (tDma 65 73728 8192) false).bytes 16 8)) (bfld (tE (tDma 65 73728 8192) false).bytes 24 4) true = 0 ∧ rangeKind (tHas (tDma 65 73728 8192)).trg (gaDA (bfld (tE (tDma 65 73728 8192) false).bytes 16 8)) (bfld (tE (tDma 65 73728 8192) false).bytes 24 4) = RKind.tiled tReg0 ∧ bfld (tE (tDma 65 73728 8192) false).bytes 24 4 = Region.slot tReg0 ∧ bfld (tE (tDma 65 73728 8192) false).bytes 24 4 ≠ 0 ∧ tileBytes tReg0.sealFmt ≤ Region.slot tReg0 ∧ rangesMeet (gaDA (bfld (tE (tDma 65 73728 8192) false).bytes 16 8)) (tileBytes tReg0.sealFmt) (Region.trailerDA tReg0 (gaDA (bfld (tE (tDma 65 73728 8192) false).bytes 16 8))) 8 = false ∧ tileBytes tReg0.sealFmt ≠ 0 ∧ stillTile (tHas (tDma 65 73728 8192)) (gaDA (bfld (tE (tDma 65 73728 8192) false).bytes 16 8)) (bfld (tE (tDma 65 73728 8192) false).bytes 24 4)) ∧
    (sqRuns (tHas (tDma 65 65504 64)) 255 9 65 (tE (tDma 65 65504 64) false) ∧ State.dmaCheck (tHas (tDma 65 65504 64)) (bfld (tE (tDma 65 65504 64) false).bytes 8 8) (gaDA (bfld (tE (tDma 65 65504 64) false).bytes 16 8)) (bfld (tE (tDma 65 65504 64) false).bytes 24 4) true ≠ 0) ∧
    (sqRuns (tHas (tDma 65 0 0)) 255 9 65 (tE (tDma 65 0 0) false) ∧ State.dmaCheck (tHas (tDma 65 0 0)) (bfld (tE (tDma 65 0 0) false).bytes 8 8) (gaDA (bfld (tE (tDma 65 0 0) false).bytes 16 8)) (bfld (tE (tDma 65 0 0) false).bytes 24 4) true = 0) := by
  and_intros <;> first | decide +kernel | rfl
/-- States and operands that meet the hypotheses of HostEntryResults, part 2. -/
theorem wit_HostEntryResults_2 :
    (sqRuns (State.writeMem (tHas (tDma 66 2199023255552 32)) 2199023255552 [1#8, 2#8, 3#8]) 255 9 66 (tE (tDma 66 2199023255552 32) false) ∧ State.dmaCheck (State.writeMem (tHas (tDma 66 2199023255552 32)) 2199023255552 [1#8, 2#8, 3#8]) (bfld (tE (tDma 66 2199023255552 32) false).bytes 8 8) (gaDA (bfld (tE (tDma 66 2199023255552 32) false).bytes 16 8)) (bfld (tE (tDma 66 2199023255552 32) false).bytes 24 4) false = 0 ∧ rangeKind (State.writeMem (tHas (tDma 66 2199023255552 32)) 2199023255552 [1#8, 2#8, 3#8]).trg (gaDA (bfld (tE (tDma 66 2199023255552 32) false).bytes 16 8)) (bfld (tE (tDma 66 2199023255552 32) false).bytes 24 4) = RKind.untiled ∧ (State.writeMem (tHas (tDma 66 2199023255552 32)) 2199023255552 [1#8, 2#8, 3#8]).mem.bad = [] ∧ bfld (tE (tDma 66 2199023255552 32) false).bytes 24 4 ≠ 0 ∧ State.calm (State.writeMem (tHas (tDma 66 2199023255552 32)) 2199023255552 [1#8, 2#8, 3#8]) (gaDA (bfld (tE (tDma 66 2199023255552 32) false).bytes 16 8)) (bfld (tE (tDma 66 2199023255552 32) false).bytes 24 4) = true) ∧
    (sqRuns (tGoodT (tHas (tDma 66 73728 8192))) 255 9 66 (tE (tDma 66 73728 8192) false) ∧ State.dmaCheck (tGoodT (tHas (tDma 66 73728 8192))) (bfld (tE (tDma 66 73728 8192) false).bytes 8 8) (gaDA (bfld (tE (tDma 66 73728 8192) false).bytes 16 8)) (bfld (tE (tDma 66 73728 8192) false).bytes 24 4) false = 0 ∧ rangeKind (tGoodT (tHas (tDma 66 73728 8192))).trg (gaDA (bfld (tE (tDma 66 73728 8192) false).bytes 16 8)) (bfld (tE (tDma 66 73728 8192) false).bytes 24 4) = RKind.tiled tReg0 ∧ bfld (tE (tDma 66 73728 8192) false).bytes 24 4 = Region.slot tReg0 ∧ bfld (tE (tDma 66 73728 8192) false).bytes 24 4 ≠ 0 ∧ calmTile (tGoodT (tHas (tDma 66 73728 8192))) (gaDA (bfld (tE (tDma 66 73728 8192) false).bytes 16 8)) (bfld (tE (tDma 66 73728 8192) false).bytes 24 4) ∧ State.poisonRange (tGoodT (tHas (tDma 66 73728 8192))) (gaDA (bfld (tE (tDma 66 73728 8192) false).bytes 16 8)) (bfld (tE (tDma 66 73728 8192) false).bytes 24 4) = false ∧ (State.readTile (tGoodT (tHas (tDma 66 73728 8192))) (State.viewNow (tGoodT (tHas (tDma 66 73728 8192))) PortEv.clear) tReg0 (gaDA (bfld (tE (tDma 66 73728 8192) false).bytes 16 8))).ok = true ∧ List.length (State.readTile (tGoodT (tHas (tDma 66 73728 8192))) (State.viewNow (tGoodT (tHas (tDma 66 73728 8192))) PortEv.clear) tReg0 (gaDA (bfld (tE (tDma 66 73728 8192) false).bytes 16 8))).bytes ≤ bfld (tE (tDma 66 73728 8192) false).bytes 24 4) ∧
    (sqRuns w29_61 255 9 67 (tE (tWeirE 15) false) ∧ bfld (tE (tWeirE 15) false).bytes 20 1 < 16 ∧ State.weirRoom w29_61 (bfld (tE (tWeirE 15) false).bytes 20 1) = false) ∧
    (sqRuns (tHas (tWeirE 15)) 255 9 67 (tE (tWeirE 15) false) ∧ bfld (tE (tWeirE 15) false).bytes 20 1 < 16 ∧ State.weirRoom (tHas (tWeirE 15)) (bfld (tE (tWeirE 15) false).bytes 20 1) = true ∧ State.ideOk (tHas (tWeirE 15)) (bfld (tE (tWeirE 15) false).bytes 8 8) = true) := by
  and_intros <;> first | with_reducible exact tTile5 | with_reducible exact tTile6 | decide +kernel | rfl
/-- States and operands that meet the hypotheses of HostEntryResults, part 3. -/
theorem wit_HostEntryResults_3 :
    (sqRuns (tHas (tWeirE 0)) 255 9 67 (tE (tWeirE 0) false) ∧ bfld (tE (tWeirE 0) false).bytes 20 1 < 16 ∧ State.weirRoom (tHas (tWeirE 0)) (bfld (tE (tWeirE 0) false).bytes 20 1) = true ∧ State.ideOk (tHas (tWeirE 0)) (bfld (tE (tWeirE 0) false).bytes 8 8) = true ∧ State.weirPath (tHas (tWeirE 0)) dieK (bfld (tE (tWeirE 0) false).bytes 20 1) = true) ∧
    (sqRuns (tHas (tMgmtE 262143 1)) 255 9 68 (tE (tMgmtE 262143 1) false) ∧ State.ideOk (tHas (tMgmtE 262143 1)) (bfld (tE (tMgmtE 262143 1) false).bytes 16 8) = true ∧ bfld (tE (tMgmtE 262143 1) false).bytes 12 1 % 2 = 0 ∧ bfld (tE (tMgmtE 262143 1) false).bytes 14 2 ≠ 0 ∧ State.isLocal (tHas (tMgmtE 262143 1)) (bfld (tE (tMgmtE 262143 1) false).bytes 8 3 % 262144) = true ∧ bfld (tE (tMgmtE 262143 1) false).bytes 11 1 = 1 ∧ bfld (padTo (bfld (tE (tMgmtE 262143 1) false).bytes 14 2) (toBytesLE 4 Reg.KEY_DEV_ID)) 0 4 < 67108864) ∧
    (sqRuns (tHas (tMgmtE 262143 0)) 255 9 68 (tE (tMgmtE 262143 0) false) ∧ State.ideOk (tHas (tMgmtE 262143 0)) (bfld (tE (tMgmtE 262143 0) false).bytes 16 8) = true ∧ bfld (tE (tMgmtE 262143 0) false).bytes 12 1 % 2 = 0 ∧ bfld (tE (tMgmtE 262143 0) false).bytes 14 2 ≠ 0 ∧ State.isLocal (tHas (tMgmtE 262143 0)) (bfld (tE (tMgmtE 262143 0) false).bytes 8 3 % 262144) = true ∧ (bfld (tE (tMgmtE 262143 0) false).bytes 11 1 = 0 ∨ 5 < bfld (tE (tMgmtE 262143 0) false).bytes 11 1)) ∧
    (sqRuns (tHas (tMgmtE 262143 6)) 255 9 68 (tE (tMgmtE 262143 6) false) ∧ State.ideOk (tHas (tMgmtE 262143 6)) (bfld (tE (tMgmtE 262143 6) false).bytes 16 8) = true ∧ bfld (tE (tMgmtE 262143 6) false).bytes 12 1 % 2 = 0 ∧ bfld (tE (tMgmtE 262143 6) false).bytes 14 2 ≠ 0 ∧ State.isLocal (tHas (tMgmtE 262143 6)) (bfld (tE (tMgmtE 262143 6) false).bytes 8 3 % 262144) = true ∧ (bfld (tE (tMgmtE 262143 6) false).bytes 11 1 = 0 ∨ 5 < bfld (tE (tMgmtE 262143 6) false).bytes 11 1)) ∧
    (sqRuns (tHas (tMgmtE 261120 2)) 255 9 68 (tE (tMgmtE 261120 2) false) ∧ State.ideOk (tHas (tMgmtE 261120 2)) (bfld (tE (tMgmtE 261120 2) false).bytes 16 8) = true ∧ bfld (tE (tMgmtE 261120 2) false).bytes 12 1 % 2 = 0 ∧ bfld (tE (tMgmtE 261120 2) false).bytes 14 2 ≠ 0 ∧ State.isLocal (tHas (tMgmtE 261120 2)) (bfld (tE (tMgmtE 261120 2) false).bytes 8 3 % 262144) = false ∧ onlyPort (tHas (tMgmtE 261120 2)) (bfld (tE (tMgmtE 261120 2) false).bytes 8 3 % 262144) 15 ∧ way (tHas (tMgmtE 261120 2)) dieK 15 ∧ Span.inUse (State.span (tHas (tMgmtE 261120 2)) 0) < 1048576 ∧ Span.inUse (State.span (tHas (tMgmtE 261120 2)) 1) < 1048576) ∧
    (State.dieUp (tHost (tSq [tE (tWeirE 0) true]) (tMsiCq [tCompl false] 1)) dieK = true) ∧
    (7 < 8 ∧ (tIde true).hq.spdm = true ∧ State.dieUp (tIde true) dieK = true) ∧
    ((tIde false).hq.spdm = false) ∧
    (State.dieUp (tIde false) dieK = true ∧ (tget { state := 0, key := 0 : Ide } (tIde false).hq.ide 7).state = 1) ∧
    ((tget { state := 0, key := 0 : Ide } (tIde false).hq.ide 6).state ≠ 1) ∧
    (State.spdmServed (tIde false) = true ∧ (tIde false).sec.rngFailed = false) ∧
    (30 ≤ 30 ∧ 30 ≤ 40 ∧ (tIde false).pwr.started = true ∧ (tIde false).pwr.fatal = false) ∧
    (30 ≤ 40 ∧ 40 ≤ 40 ∧ (tIde false).pwr.started = true ∧ (tIde false).pwr.fatal = false) ∧
    (29 < 30 ∨ 40 < 29) := by
  and_intros <;> first | decide +kernel | rfl
/-- States and operands that meet the hypotheses of HostEntryResults, part 4. -/
theorem wit_HostEntryResults_4 :
    (41 < 30 ∨ 40 < 41) := by
  and_intros <;> first | decide +kernel | rfl
/-- States and operands that meet the hypotheses of ClockAndRefillResults, part 1. -/
theorem wit_ClockAndRefillResults_1 :
    (tget false (tTicks (2 ^ 48 - 2) true).pwr.good 0 = true ∧ ((tTicks (2 ^ 48 - 2) true).ticks + 1) % 32768 ≠ 0) ∧
    (tget false (tTicks (2 ^ 48 - 1) true).pwr.good 0 = true ∧ ((tTicks (2 ^ 48 - 1) true).ticks + 1) % 32768 = 0) ∧
    (tget false (tTicks 0 false).pwr.good 0 = false) ∧
    (tget false (tTicks 0 true).pwr.good 0 = true) ∧
    (State.dieUp tFab dieK = true) ∧
    (writable tUp (Reg.NRG_DVFSt 3) ∧ 10 < BitVec.toNat 11#32 ∧ BitVec.toNat 11#32 < 16) ∧
    (writable tUp (Reg.NRG_DVFSt 3) ∧ 10 < BitVec.toNat 15#32 ∧ BitVec.toNat 15#32 < 16) ∧
    (writable tUp (Reg.NRG_DVFSt 3) ∧ BitVec.toNat 10#32 ≤ 10 ∧ State.dvfs tUp 3 = none ∧ State.dieUp tUp 3 = true) ∧
    (writable (State.setRf tUp (Reg.NRG_DVFSt 0) 8 4 1) (Reg.NRG_DVFSt 0) ∧ BitVec.toNat 0#32 ≤ 10 ∧ State.dvfs (State.setRf tUp (Reg.NRG_DVFSt 0) 8 4 1) 0 = none ∧ State.dieUp (State.setRf tUp (Reg.NRG_DVFSt 0) 8 4 1) 0 = true) ∧
    (writable (State.setRf tUp (Reg.NRG_DVFSt 0) 8 4 1) (Reg.NRG_DVFSt 0) ∧ BitVec.toNat 1#32 ≤ 10 ∧ State.dvfs (State.setRf tUp (Reg.NRG_DVFSt 0) 8 4 1) 0 = none ∧ State.dieUp (State.setRf tUp (Reg.NRG_DVFSt 0) 8 4 1) 0 = true) ∧
    (State.dvfs (tDv true false 2) 3 = some w30_19 ∧ State.dieUp (tDv true false 2) 3 = true ∧ State.dvfsStep (tDv true false 2) 3 = w30_19.target ∧ w30_19.vseq = 511 % 256 ∧ w30_19.acked = false ∧ w30_19.rising = true) ∧
    (State.dvfs (tDv false false 4) 3 = some w30_20 ∧ State.dieUp (tDv false false 4) 3 = true ∧ State.dvfsStep (tDv false false 4) 3 = w30_20.target ∧ w30_20.vseq = 255 % 256 ∧ w30_20.acked = false ∧ w30_20.rising = false ∧ State.dvfsCur (tDv false false 4) 3 = w30_20.target) ∧
    (State.dvfs (tDv true false 2) 3 = some w30_19 ∧ State.dieUp (tDv true false 2) 3 = true ∧ State.dvfsStep (tDv true false 2) 3 = w30_19.target ∧ (w30_19.vseq ≠ 0 % 256 ∨ w30_19.acked = true)) ∧
    (State.dvfs (tDv true false 2) 3 = some w30_19 ∧ State.dieUp (tDv true false 2) 3 = true ∧ State.dvfsStep (tDv true false 2) 3 = w30_19.target ∧ w30_19.acked = false) := by
  and_intros <;> first | decide +kernel | rfl
/-- States and operands that meet the hypotheses of ClockAndRefillResults, part 2. -/
theorem wit_ClockAndRefillResults_2 :
    (State.dvfs (tDv true true 2) 3 = some w30_23 ∧ State.dieUp (tDv true true 2) 3 = true ∧ State.dvfsStep (tDv true true 2) 3 = w30_23.target ∧ w30_23.acked = true) ∧
    (State.dieUp tUp 3 = true ∧ State.clusterIdle tUp (16 * 3 + 15) = true) ∧
    (State.dieUp w30_25 3 = true ∧ State.clusterIdle w30_25 (16 * 3 + 15) = false) ∧
    (State.dieUp w30_26 dieK = true ∧ State.energyWaiters w30_26 = []) ∧
    (State.dieUp tUp dieK = true) := by
  and_intros <;> first | decide +kernel | rfl
/-- States and operands that meet the hypotheses of HeatResults, part 1. -/
theorem wit_HeatResults_1 :
    (State.sensorLive tUp 255 = true ∧ (State.sensor tUp 255).state = 0 ∧ sensorDom 255 = some 3 ∧ State.onset16 tUp 255 - Int.ofNat 81 < Int.ofNat 1888 ∧ State.onset16 tUp 255 - Int.ofNat 81 < State.onset16 tUp 255 - Int.ofNat 80 ∧ (State.dom tUp 3).fast = false) ∧
    (State.sensorLive tUp 255 = true ∧ (State.sensor tUp 255).state = 0 ∧ sensorDom 255 = some 3 ∧ Int.ofNat 1887 < Int.ofNat 1888 ∧ State.onset16 tUp 255 - Int.ofNat 80 ≤ Int.ofNat 1887) ∧
    (State.sensorLive w30_32 288 = true ∧ (State.sensor w30_32 288).state = 0 ∧ sensorDom 288 = some 0 ∧ State.onset16 tUp 288 - Int.ofNat 80 < Int.ofNat 1888 ∧ State.onset16 w30_32 288 - Int.ofNat 80 ≤ State.onset16 tUp 288 - Int.ofNat 80) ∧
    (tripSensor 435 = true ∧ State.sensorLive tUp 435 = true ∧ tUp.nrg.trip = none) ∧
    (tripSensor 287 = true ∧ State.sensorLive tUp 287 = true ∧ tUp.nrg.trip = none ∧ (State.sensor tUp 287).state = 0 ∧ Int.ofNat 1888 ≤ Int.ofNat 1888) ∧
    (tripSensor 287 = true ∧ State.sensorLive w30_35 287 = true ∧ w30_35.nrg.trip ≠ none) ∧
    (State.sensorLive w30_36 255 = true ∧ (State.sensor w30_36 255).state = 0 ∧ -Int.ofNat 640 ≤ -Int.ofNat 240 ∧ -Int.ofNat 240 ≤ Int.ofNat 2400 ∧ (∀ (m : Int), State.nearMedian2 (State.setSensor w30_36 255 { reading := -Int.ofNat 240, state := (State.sensor w30_36 255).state, cause := (State.sensor w30_36 255).cause, value := (State.sensor w30_36 255).value, lastGood := (State.sensor w30_36 255).lastGood, offset := (State.sensor w30_36 255).offset, apart := (State.sensor w30_36 255).apart, phase1 := (State.sensor w30_36 255).phase1, hotTick := (State.sensor w30_36 255).hotTick : Sensor }) 255 = some m → Int.natAbs (Int.ofNat 2 * -Int.ofNat 240 - m) ≤ 480)) ∧
    (State.sensorLive tUp 255 = true ∧ (State.sensor tUp 255).state = 0 ∧ -Int.ofNat 640 ≤ Int.ofNat 240 ∧ Int.ofNat 240 ≤ Int.ofNat 2400 ∧ (∀ (m : Int), State.nearMedian2 (State.setSensor tUp 255 { reading := Int.ofNat 240, state := (State.sensor tUp 255).state, cause := (State.sensor tUp 255).cause, value := (State.sensor tUp 255).value, lastGood := (State.sensor tUp 255).lastGood, offset := (State.sensor tUp 255).offset, apart := (State.sensor tUp 255).apart, phase1 := (State.sensor tUp 255).phase1, hotTick := (State.sensor tUp 255).hotTick : Sensor }) 255 = some m → Int.natAbs (Int.ofNat 2 * Int.ofNat 240 - m) ≤ 480)) ∧
    (State.sensorLive tUp 255 = true ∧ (State.sensor tUp 255).state = 0 ∧ sensorDom 255 = some 3 ∧ (-Int.ofNat 641 < -Int.ofNat 640 ∨ Int.ofNat 2400 < -Int.ofNat 641 ∨ false = true ∨ false = true)) ∧
    (State.sensorLive w30_39 435 = true ∧ (State.sensor w30_39 435).state = 0 ∧ sensorDom 435 = some 4 ∧ (Int.ofNat 2400 < -Int.ofNat 640 ∨ Int.ofNat 2400 < Int.ofNat 2400 ∨ false = true ∨ true = true)) ∧
    (State.sensorLive w30_40 435 = true ∧ (State.sensor w30_40 435).state = 0 ∧ sensorDom 435 = some 4 ∧ (Int.ofNat 2401 < -Int.ofNat 640 ∨ Int.ofNat 2400 < Int.ofNat 2401 ∨ false = true ∨ false = true)) ∧
    ((State.sensor w30_41 435).phase1 = true) ∧
    ((State.sensor w30_42 435).phase1 = false) ∧
    (4 < 5 ∧ (State.dom (tHotDom 3286) 4).fast = true ∧ (State.dom (tHotDom 3286) 4).f = 400 ∧ (State.dom (tHotDom 3286) 4).lastHot + 3277 ≤ (tHotDom 3286).ticks) := by
  and_intros <;> first | with_reducible exact tMed1 | with_reducible exact tMed2 | decide +kernel | rfl
/-- States and operands that meet the hypotheses of HeatResults, part 2. -/
theorem wit_HeatResults_2 :
    (4 < 5 ∧ (State.dom (tHotDom 3285) 4).fast = true ∧ (State.dom (tHotDom 3285) 4).f = 400 ∧ (tHotDom 3285).ticks < (State.dom (tHotDom 3285) 4).lastHot + 3277) := by
  and_intros <;> first | decide +kernel | rfl
/-- States and operands that meet the hypotheses of PowerStateResults, part 1. -/
theorem wit_PowerStateResults_1 :
    (writable tUp Reg.NRG_PSTATE ∧ State.pstate tUp = 0 ∧ tUp.nrg.entering = none) ∧
    (writable tUp Reg.NRG_PSTATE ∧ State.pstate tUp = 0 ∧ tUp.nrg.entering = none) ∧
    (writable tUp Reg.NRG_PSTATE) ∧
    (writable (tPs 0 (some 3) tUp) Reg.NRG_PSTATE ∧ Option.isSome (tPs 0 (some 3) tUp).nrg.entering = true) ∧
    (writable (tPs 0 (some 2) tUp) Reg.NRG_PSTATE ∧ State.pstate (tPs 0 (some 2) tUp) = 0) ∧
    (State.blockAnswers w30_54 Reg.NRG_PSTATE = true ∧ quietLog w30_54 ∧ State.pstate w30_54 = 2) ∧
    (State.dieUp (tPs 0 (some 2) tFab) dieK = true ∧ (tPs 0 (some 2) tFab).nrg.entering = some 2 ∧ State.pstate (tPs 0 (some 2) tFab) = 0 ∧ State.drained (tPs 0 (some 2) tFab) = true) ∧
    (State.dieUp w30_56 dieK = true ∧ State.pstate w30_56 = 0 ∧ State.drained w30_56 = false) ∧
    (State.dieUp tFab dieK = true ∧ tFab.nrg.entering = none) ∧
    (State.dieUp (tPs 2 (some 3) (State.writeMem (State.writeMem tFab 5 [1#8]) 1099511627776 [2#8])) dieK = true ∧ (tPs 2 (some 3) (State.writeMem (State.writeMem tFab 5 [1#8]) 1099511627776 [2#8])).nrg.entering = some 3 ∧ State.pstate (tPs 2 (some 3) (State.writeMem (State.writeMem tFab 5 [1#8]) 1099511627776 [2#8])) = 2) ∧
    ((tPs 0 (some 3) tFab).nrg.entering = some 3 ∧ State.pstate (tPs 0 (some 3) tFab) = 0) ∧
    (State.dieUp (tPs 2 none (State.setRb (tHost (tSq []) (tCq 36#32 [] 0)) Reg.NRG_PSTATE 4 true)) dieK = true ∧ 255 < 256 ∧ BitVec.toNat 15#32 < Sq.size (State.sq (tPs 2 none (State.setRb (tHost (tSq []) (tCq 36#32 [] 0)) Reg.NRG_PSTATE 4 true)) 255) ∧ BitVec.toNat 15#32 < 65536 ∧ Sq.on (State.sq (tPs 2 none (State.setRb (tHost (tSq []) (tCq 36#32 [] 0)) Reg.NRG_PSTATE 4 true)) 255) = true ∧ State.pstate (tPs 2 none (State.setRb (tHost (tSq []) (tCq 36#32 [] 0)) Reg.NRG_PSTATE 4 true)) = 2) ∧
    (State.dieUp (tPs 2 none (tHost (tSq []) (tCq 36#32 [] 0))) dieK = true ∧ 255 < 256 ∧ BitVec.toNat 0#32 < Sq.size (State.sq (tPs 2 none (tHost (tSq []) (tCq 36#32 [] 0))) 255) ∧ BitVec.toNat 0#32 < 65536 ∧ Sq.on (State.sq (tPs 2 none (tHost (tSq []) (tCq 36#32 [] 0))) 255) = true ∧ State.pstate (tPs 2 none (tHost (tSq []) (tCq 36#32 [] 0))) = 2) ∧
    (State.pstate (tPs 3 none tFab) = 3 ∧ (tPs 3 none tFab).nrg.trip = none ∧ List.all (List.range 5) (tget false (tPs 3 none tFab).pwr.good) = true) := by
  and_intros <;> first | decide +kernel | rfl
/-- States and operands that meet the hypotheses of PowerStateResults, part 2. -/
theorem wit_PowerStateResults_2 :
    (State.pstate tFab ≠ 3) := by
  and_intros <;> first | decide +kernel | rfl
/-- States and operands that meet the hypotheses of TokenResults, part 1. -/
theorem wit_TokenResults_1 :
    (writable w31_9 Reg.SEC_AUTH_CTL ∧ w31_9.sec.rngFailed = false) ∧
    (writable w31_10 Reg.SEC_AUTH_CTL ∧ w31_10.sec.rngFailed = true) ∧
    (writable w31_11 Reg.SEC_AUTH_CTL ∧ (4#32 = 4#32 ∨ 4#32 = 6#32)) ∧
    (writable w31_12 Reg.SEC_AUTH_CTL ∧ (6#32 = 4#32 ∨ 6#32 = 6#32)) ∧
    (State.dieUp (tSubmit 1) dieK = true ∧ bfld (State.tokenAt (tSubmit 1)) 2 1 = 1 ∧ (tSubmit 1).sec.token = none ∧ State.logFull (tSubmit 1) = false) ∧
    (State.dieUp (tSubmit 1) dieK = true ∧ bfld (tTok2 1) 2 1 = 1 ∧ (tSubmit 1).sec.token = none ∧ State.logFull (tSubmit 1) = false) ∧
    (State.dieUp w31_17 dieK = true ∧ bfld (tTok2 2) 2 1 = 2 ∧ w31_17.sec.token ≠ none) ∧
    (State.dieUp (tSubmit 1) dieK = true ∧ bfld (tTok2 1) 2 1 ≠ 2) ∧
    (State.dieUp w31_19 dieK = true ∧ bfld (State.tokenAt w31_19) 2 1 = 3 ∧ w31_19.sec.token = none ∧ State.logFull w31_19 = true ∧ (Origin.fabric = Origin.host ∨ Origin.fabric = Origin.fabric)) := by
  and_intros <;> first | decide +kernel | rfl
/-- States and operands that meet the hypotheses of TokenResults, part 2. -/
theorem wit_TokenResults_2 :
    (State.dieUp (tSubmit 3) dieK = true ∧ bfld (State.tokenAt (tSubmit 3)) 2 1 ≠ 7) ∧
    (State.dieUp (tSubmit 7) dieK = true ∧ bfld (State.tokenAt (tSubmit 7)) 2 1 = 7 ∧ (tSubmit 7).sec.token = none ∧ State.logFull (tSubmit 7) = false) ∧
    (State.dieUp (tSubmit 4) dieK = true ∧ bfld (State.tokenAt (tSubmit 4)) 2 1 = 4 ∧ (tSubmit 4).sec.token = none ∧ State.logFull (tSubmit 4) = false) := by
  and_intros <;> first | decide +kernel | rfl
/-- States and operands that meet the hypotheses of TokenResults, part 3. -/
theorem wit_TokenResults_3 :
    (State.dieUp (tSubmit 5) dieK = true ∧ bfld (State.tokenAt (tSubmit 5)) 2 1 = 5 ∧ (tSubmit 5).sec.token = none ∧ State.logFull (tSubmit 5) = false) ∧
    (State.dieUp (tSubmit 6) dieK = true ∧ bfld (State.tokenAt (tSubmit 6)) 2 1 = 6 ∧ (tSubmit 6).sec.token = none ∧ State.logFull (tSubmit 6) = false) ∧
    (w31_25.sec.token = some (tTok2 1, Origin.host) ∧ State.dieUp w31_25 dieK = true ∧ State.tokenResult w31_25 (tTok2 1) ≠ 1) ∧
    (State.lifecycle (tSec 0 Sec.reset) = 0 ∧ State.dieUp (tSec 0 Sec.reset) dieK = true ∧ List.length (List.replicate 23 [1#8]) = 23 ∧ quietLog (tSec 0 Sec.reset)) ∧
    (State.lifecycle (tSec 1 Sec.reset) ≠ 0) := by
  and_intros <;> first | decide +kernel | rfl
/-- States and operands that meet the hypotheses of AttestationAndDebugResults, part 1. -/
theorem wit_AttestationAndDebugResults_1 :
    (writable tUp Reg.SEC_EXTEND_CTL ∧ 15 < 32) ∧
    (writable tUp Reg.SEC_EXTEND_CTL ∧ 31 < 32) ∧
    (writable w31_30 (Reg.SEC_SVNc 3) ∧ State.lifecycle w31_30 = 2 ∧ List.getD w31_30.fuses.svn 3 0 < 64 ∧ List.getD w31_30.fuses.svn 3 0 < List.getD w31_30.sec.mram 3 0) ∧
    (writable w31_31 (Reg.SEC_SVNc 0) ∧ (State.lifecycle w31_31 ≠ 2 ∨ 64 ≤ List.getD w31_31.fuses.svn 0 0 ∨ List.getD w31_31.sec.mram 0 0 ≤ List.getD w31_31.fuses.svn 0 0)) ∧
    (writable w31_32 (Reg.SEC_SVNc 0) ∧ (State.lifecycle w31_32 ≠ 2 ∨ 64 ≤ List.getD w31_32.fuses.svn 0 0 ∨ List.getD w31_32.sec.mram 0 0 ≤ List.getD w31_32.fuses.svn 0 0)) ∧
    (writable tUp Reg.SEC_FW_ADDR_LO ∧ (tUp.sec.romWaits = false ∨ BitVec.toNat 4096#32 % 4096 ≠ 0 ∨ (none : Option (List Byte)) = none)) ∧
    (writable w31_34 Reg.SEC_FW_ADDR_LO ∧ w31_34.sec.romWaits = true ∧ BitVec.toNat 4096#32 % 4096 = 0 ∧ State.manCheck w31_34 [] ≠ 0) ∧
    (writable w31_35 Reg.SEC_ATTEST_CTL ∧ Option.isSome w31_35.sec.attest = true) ∧
    (writable w31_36 Reg.SEC_ATTEST_CTL ∧ w31_36.sec.attest = none ∧ (State.lifecycle w31_36 = 0 ∨ State.lifecycle w31_36 = 4)) ∧
    (writable w31_37 Reg.SEC_ATTEST_CTL ∧ w31_37.sec.attest = none ∧ State.lifecycle w31_37 ≠ 0 ∧ State.lifecycle w31_37 ≠ 4 ∧ State.keyRange w31_37 (State.daReg w31_37 Reg.SEC_ATTEST_ADDR_LO Reg.SEC_ATTEST_ADDR_HI) 16448 true = false) ∧
    (writable w31_38 Reg.SEC_ATTEST_CTL ∧ w31_38.sec.attest = none ∧ State.lifecycle w31_38 ≠ 0 ∧ State.lifecycle w31_38 ≠ 4 ∧ State.keyRange w31_38 (State.daReg w31_38 Reg.SEC_ATTEST_ADDR_LO Reg.SEC_ATTEST_ADDR_HI) 16448 true = true) ∧
    (w31_39.sec.attest = some (4096, true, [7#8]) ∧ State.dieUp w31_39 dieK = true ∧ State.still w31_39 (4096 + 64) (List.length (List.take 16384 (State.report_ w31_39 [7#8] true))) = true) ∧
    (State.spdmServed w31_40 = true ∧ 1 ≤ 1 ∧ 1 ≤ 32) ∧
    (State.spdmServed w31_41 = true ∧ 1 ≤ 32 ∧ 32 ≤ 32) := by
  and_intros <;> first | decide +kernel | rfl
/-- States and operands that meet the hypotheses of AttestationAndDebugResults, part 2. -/
theorem wit_AttestationAndDebugResults_2 :
    (State.spdmServed w31_42 = false) ∧
    (State.dieUp tUp dieK = true) ∧
    (State.dieUp (tJtag 1 0) dieK = true ∧ State.pstate (tJtag 1 0) ≠ 3 ∧ (State.debugLevel (tJtag 1 0) = 0 ∨ true = true ∧ State.debugLevel (tJtag 1 0) < 2)) ∧
    (State.dieUp (tJtag 0 2) dieK = true ∧ State.pstate (tJtag 0 2) ≠ 3 ∧ (State.debugLevel (tJtag 0 2) = 0 ∨ false = true ∧ State.debugLevel (tJtag 0 2) < 2)) ∧
    (State.dieUp (tJtag 2 3) dieK = true ∧ State.pstate (tJtag 2 3) = 3 ∧ (true = true ∨ 0 ≠ 0)) ∧
    (State.dieUp (tJtag 2 3) dieK = true ∧ State.pstate (tJtag 2 3) = 3 ∧ (false = true ∨ 1 ≠ 0)) ∧
    (State.dieUp (tJtag 0 3) dieK = true ∧ State.pstate (tJtag 0 3) = 3) ∧
    (State.dieUp (tJtag 2 2) dieK = true ∧ State.pstate (tJtag 2 2) = 2 ∧ 2 ≤ State.debugLevel (tJtag 2 2) ∧ (1 = 1 ∨ 1 = 0 ∧ gatedBlock 0 = true)) ∧
    (State.dieUp (tJtag 2 2) dieK = true ∧ State.pstate (tJtag 2 2) = 2 ∧ 2 ≤ State.debugLevel (tJtag 2 2) ∧ (0 = 1 ∨ 0 = 0 ∧ gatedBlock 44040188 = true)) ∧
    (State.dieUp (State.writeMem (tJtag 1 0) 4096 [1#8, 2#8, 3#8]) dieK = true ∧ State.pstate (State.writeMem (tJtag 1 0) 4096 [1#8, 2#8, 3#8]) = 0 ∧ 1 ≤ State.debugLevel (State.writeMem (tJtag 1 0) 4096 [1#8, 2#8, 3#8]) ∧ State.jtagMem (State.writeMem (tJtag 1 0) 4096 [1#8, 2#8, 3#8]) 4096 = true ∧ State.poisonRange (State.writeMem (tJtag 1 0) 4096 [1#8, 2#8, 3#8]) 4096 4 = false) ∧
    (State.dieUp (tJtag 1 0) dieK = true ∧ State.pstate (tJtag 1 0) = 0 ∧ 1 ≤ State.debugLevel (tJtag 1 0) ∧ Reg.KEY_DEV_ID % 4 = 0 ∧ Option.isSome (regAt Reg.KEY_DEV_ID) = true ∧ Reg.KEY_DEV_ID ≠ Reg.BED_REGION_CTL) ∧
    (State.dieUp (tJtag 2 0) dieK = true ∧ State.pstate (tJtag 2 0) = 0 ∧ State.debugLevel (tJtag 2 0) = 2 ∧ State.jtagMem (tJtag 2 0) 4096 = true ∧ touchesTiled (tJtag 2 0).trg 4096 4 = false ∧ State.touchesKv (tJtag 2 0) 4096 4 = false) ∧
    (State.dieUp (tJtag 2 0) dieK = true ∧ State.pstate (tJtag 2 0) = 0 ∧ State.debugLevel (tJtag 2 0) = 2) ∧
    (tUp.pwr.started = true) := by
  and_intros <;> first | decide +kernel | rfl
/-- States and operands that meet the hypotheses of AttestationAndDebugResults, part 3. -/
theorem wit_AttestationAndDebugResults_3 :
    (State.reset.pwr.started = false) := by
  and_intros <;> first | decide +kernel | rfl
/-- States and operands that meet the hypotheses of ChangeLogResults. -/
theorem wit_ChangeLogResults :
    (State.blockAnswers (tAckS 5 9) Reg.LOG_ACK_LO = true ∧ (tAckS 5 9).log.held = [] ∧ (tAckS 5 9).log.unlogged = 0#32 ∧ (tAckS 5 9).log.ack ≤ BitVec.toNat (State.reg (tAckS 5 9) Reg.LOG_ACK_HI) * 2 ^ 32 + BitVec.toNat 5#32 ∧ BitVec.toNat (State.reg (tAckS 5 9) Reg.LOG_ACK_HI) * 2 ^ 32 + BitVec.toNat 5#32 ≤ (tAckS 5 9).log.next) ∧
    (State.blockAnswers (tAckS 5 9) Reg.LOG_ACK_LO = true ∧ (tAckS 5 9).log.held = [] ∧ (tAckS 5 9).log.unlogged = 0#32 ∧ (tAckS 5 9).log.ack ≤ BitVec.toNat (State.reg (tAckS 5 9) Reg.LOG_ACK_HI) * 2 ^ 32 + BitVec.toNat 9#32 ∧ BitVec.toNat (State.reg (tAckS 5 9) Reg.LOG_ACK_HI) * 2 ^ 32 + BitVec.toNat 9#32 ≤ (tAckS 5 9).log.next) ∧
    (State.blockAnswers (tAckS 5 9) Reg.LOG_ACK_LO = true ∧ (tAckS 5 9).log.held = [] ∧ (tAckS 5 9).log.unlogged = 0#32 ∧ (BitVec.toNat (State.reg (tAckS 5 9) Reg.LOG_ACK_HI) * 2 ^ 32 + BitVec.toNat 4#32 < (tAckS 5 9).log.ack ∨ (tAckS 5 9).log.next < BitVec.toNat (State.reg (tAckS 5 9) Reg.LOG_ACK_HI) * 2 ^ 32 + BitVec.toNat 4#32)) ∧
    (State.blockAnswers (tAckS 5 9) Reg.LOG_ACK_LO = true ∧ (tAckS 5 9).log.held = [] ∧ (tAckS 5 9).log.unlogged = 0#32 ∧ (BitVec.toNat (State.reg (tAckS 5 9) Reg.LOG_ACK_HI) * 2 ^ 32 + BitVec.toNat 10#32 < (tAckS 5 9).log.ack ∨ (tAckS 5 9).log.next < BitVec.toNat (State.reg (tAckS 5 9) Reg.LOG_ACK_HI) * 2 ^ 32 + BitVec.toNat 10#32)) ∧
    (State.blockAnswers (tAckS 5 131077) Reg.LOG_NOTE_CTL = true ∧ State.logFull (tAckS 5 131077) = true ∧ (Origin.fabric = Origin.host ∨ Origin.fabric = Origin.fabric)) ∧
    (State.blockAnswers (tAckS 5 131076) Reg.LOG_NOTE_CTL = true ∧ quietLog (tAckS 5 131076)) ∧
    (State.blockAnswers (tAckS 5 131076) Reg.LOG_NOTE_CTL = true) ∧
    (State.blockAnswers tRing5 Reg.LOG_RD_LO = true) ∧
    (State.blockAnswers tRing5 Reg.LOG_RD_LO = true) ∧
    (State.blockAnswers tRing5 Reg.LOG_RD_LO = true) := by
  and_intros <;> first | decide +kernel | rfl
/-- States and operands that meet the hypotheses of StoreResults, part 1. -/
theorem wit_StoreResults_1 :
    ((tGate true [] [StoreUnit.log 131075 [1#8], StoreUnit.energy [] []]).log.held = [] ∧ (tGate true [] [StoreUnit.log 131075 [1#8], StoreUnit.energy [] []]).log.unlogged = 0#32 ∧ (tGate true [] [StoreUnit.log 131075 [1#8], StoreUnit.energy [] []]).store.queue = [StoreUnit.log 131075 [1#8], StoreUnit.energy [] []] ∧ State.gateOpen (tGate true [] [StoreUnit.log 131075 [1#8], StoreUnit.energy [] []]) = true ∧ State.dieUp (tGate true [] [StoreUnit.log 131075 [1#8], StoreUnit.energy [] []]) dieK = true ∧ (tGate true [] [StoreUnit.log 131075 [1#8], StoreUnit.energy [] []]).store.shutdown = false) ∧
    ((tGate true [] [StoreUnit.lifetime [(1, 5)]]).log.held = [] ∧ (tGate true [] [StoreUnit.lifetime [(1, 5)]]).log.unlogged = 0#32 ∧ (tGate true [] [StoreUnit.lifetime [(1, 5)]]).store.queue = [StoreUnit.lifetime [(1, 5)]] ∧ State.gateOpen (tGate true [] [StoreUnit.lifetime [(1, 5)]]) = true ∧ State.dieUp (tGate true [] [StoreUnit.lifetime [(1, 5)]]) dieK = true ∧ (tGate true [] [StoreUnit.lifetime [(1, 5)]]).store.shutdown = false) ∧
    ((tGate true [] [StoreUnit.logState 1 (2#32) 3]).log.held = [] ∧ (tGate true [] [StoreUnit.logState 1 (2#32) 3]).log.unlogged = 0#32 ∧ (tGate true [] [StoreUnit.logState 1 (2#32) 3]).store.queue = [StoreUnit.logState 1 (2#32) 3] ∧ State.gateOpen (tGate true [] [StoreUnit.logState 1 (2#32) 3]) = true ∧ State.dieUp (tGate true [] [StoreUnit.logState 1 (2#32) 3]) dieK = true ∧ (tGate true [] [StoreUnit.logState 1 (2#32) 3]).store.shutdown = false) ∧
    ((tGate true [] [StoreUnit.owner (some [1#8]) true]).log.held = [] ∧ (tGate true [] [StoreUnit.owner (some [1#8]) true]).log.unlogged = 0#32 ∧ (tGate true [] [StoreUnit.owner (some [1#8]) true]).store.queue = [StoreUnit.owner (some [1#8]) true] ∧ State.gateOpen (tGate true [] [StoreUnit.owner (some [1#8]) true]) = true ∧ State.dieUp (tGate true [] [StoreUnit.owner (some [1#8]) true]) dieK = true ∧ (tGate true [] [StoreUnit.owner (some [1#8]) true]).store.shutdown = false) ∧
    ((tGate false [] [StoreUnit.hsClear]).log.held = [] ∧ (tGate false [] [StoreUnit.hsClear]).log.unlogged = 0#32 ∧ State.gateOpen (tGate false [] [StoreUnit.hsClear]) = false) ∧
    (State.dieUp (tGate true [Int.ofNat 0, Int.ofNat 1440, Int.ofNat 1441, Int.ofNat 5] []) dieK = true ∧ State.gateOpen (tGate true [Int.ofNat 0, Int.ofNat 1440, Int.ofNat 1441, Int.ofNat 5] []) = true ∧ State.gateWithin (tGate true [Int.ofNat 0, Int.ofNat 1440, Int.ofNat 1441, Int.ofNat 5] []) (Int.ofNat 0) (Int.ofNat 1440) = false ∧ State.gateSensors (tGate true [Int.ofNat 0, Int.ofNat 1440, Int.ofNat 1441, Int.ofNat 5] []) ≠ []) ∧
    (State.dieUp w32_14 dieK = true ∧ State.gateOpen w32_14 = true ∧ State.gateSensors w32_14 = []) ∧
    (State.dieUp (tGate false [-Int.ofNat 1, Int.ofNat 0, Int.ofNat 0, Int.ofNat 0] []) dieK = true ∧ (State.gateOpen (tGate false [-Int.ofNat 1, Int.ofNat 0, Int.ofNat 0, Int.ofNat 0] []) = false ∨ State.gateWithin (tGate false [-Int.ofNat 1, Int.ofNat 0, Int.ofNat 0, Int.ofNat 0] []) (Int.ofNat 0) (Int.ofNat 1440) = true)) ∧
    (State.dieUp (tGate true [Int.ofNat 1, Int.ofNat 1440, Int.ofNat 1440, Int.ofNat 1440] []) dieK = true ∧ (State.gateOpen (tGate true [Int.ofNat 1, Int.ofNat 1440, Int.ofNat 1440, Int.ofNat 1440] []) = false ∨ State.gateWithin (tGate true [Int.ofNat 1, Int.ofNat 1440, Int.ofNat 1440, Int.ofNat 1440] []) (Int.ofNat 0) (Int.ofNat 1440) = true)) ∧
    (State.dieUp w32_17 dieK = true ∧ State.gateOpen w32_17 = false ∧ State.gateWithin w32_17 (Int.ofNat 32) (Int.ofNat 1408) = true) ∧
    (State.dieUp (tGate false [Int.ofNat 31, Int.ofNat 100, Int.ofNat 100, Int.ofNat 100] []) dieK = true ∧ State.gateWithin (tGate false [Int.ofNat 31, Int.ofNat 100, Int.ofNat 100, Int.ofNat 100] []) (Int.ofNat 32) (Int.ofNat 1408) = false) ∧
    (writable (tGate true [] []) Reg.KEY_PST_CTL) ∧
    (writable (tGate false [] []) Reg.KEY_PST_CTL) ∧
    (writable w32_21 Reg.KEY_PST_CTL ∧ State.gateOpen w32_21 = true) := by
  and_intros <;> first | decide +kernel | rfl
/-- States and operands that meet the hypotheses of StoreResults, part 2. -/
theorem wit_StoreResults_2 :
    (writable (tGate false [] [StoreUnit.log 0 [1#8]]) Reg.KEY_PST_CTL ∧ State.gateOpen (tGate false [] [StoreUnit.log 0 [1#8]]) = false) ∧
    (writable w32_23 Reg.KEY_PST_CTL ∧ w32_23.sec.level = 2) ∧
    (writable w32_24 Reg.KEY_PST_CTL ∧ (Origin.host ≠ Origin.debug ∨ w32_24.sec.level ≠ 2)) ∧
    (writable (tGate true [] []) Reg.KEY_PST_CTL ∧ (Origin.debug ≠ Origin.debug ∨ (tGate true [] []).sec.level ≠ 2)) ∧
    ((tSnap none none).store.snapRunning = true ∧ State.gateOpen (tSnap none none) = true ∧ State.dieUp (tSnap none none) dieK = true) ∧
    ((tSnap (some (tSnapRec 4)) (some (tSnapRec 5))).store.snapRunning = true ∧ State.gateOpen (tSnap (some (tSnapRec 4)) (some (tSnapRec 5))) = true ∧ State.dieUp (tSnap (some (tSnapRec 4)) (some (tSnapRec 5))) dieK = true) ∧
    ((tSnap (some (tSnapRec 4)) none).store.snapRunning = true ∧ State.gateOpen (tSnap (some (tSnapRec 4)) none) = true ∧ State.dieUp (tSnap (some (tSnapRec 4)) none) dieK = true) ∧
    (tUp.store.snapRunning = false) ∧
    (State.dieUp tUp dieK = true) ∧
    (State.dieUp tUp dieK = true) := by
  and_intros <;> first | decide +kernel | rfl
/-- States and operands that meet the hypotheses of HostSavedResults, part 1. -/
theorem wit_HostSavedResults_1 :
    (writable (tHs (some (tOp true)) true 1) Reg.KEY_PST_HS_CTL ∧ 7 < 8 ∧ 8 < 131072 ∧ Option.isSome (tHs (some (tOp true)) true 1).store.hsOp = true) ∧
    (writable (tHs none true 4) Reg.KEY_PST_HS_CTL ∧ 7 < 8 ∧ 8 < 131072 ∧ (tHs none true 4).store.hsOp = none ∧ (State.lifecycle (tHs none true 4) = 0 ∨ State.lifecycle (tHs none true 4) = 4)) ∧
    (writable (tHs none false 1) Reg.KEY_PST_HS_CTL ∧ 7 < 8 ∧ 8 < 131072 ∧ (tHs none false 1).store.hsOp = none ∧ State.lifecycle (tHs none false 1) ≠ 0 ∧ State.lifecycle (tHs none false 1) ≠ 4 ∧ State.gateOpen (tHs none false 1) = false) ∧
    (writable (tHs none true 1) Reg.KEY_PST_HS_CTL ∧ 7 < 8 ∧ 7 < 131072 ∧ (tHs none true 1).store.hsOp = none ∧ State.lifecycle (tHs none true 1) ≠ 0 ∧ State.lifecycle (tHs none true 1) ≠ 4 ∧ State.gateOpen (tHs none true 1) = true ∧ (7 < 8 ∨ 65512 < 7 ∨ 7 % 8 ≠ 0)) ∧
    (writable (tHs none true 1) Reg.KEY_PST_HS_CTL ∧ 7 < 8 ∧ 65513 < 131072 ∧ (tHs none true 1).store.hsOp = none ∧ State.lifecycle (tHs none true 1) ≠ 0 ∧ State.lifecycle (tHs none true 1) ≠ 4 ∧ State.gateOpen (tHs none true 1) = true ∧ (65513 < 8 ∨ 65512 < 65513 ∨ 65513 % 8 ≠ 0)) ∧
    (writable (tHs none true 1) Reg.KEY_PST_HS_CTL ∧ 7 < 8 ∧ 12 < 131072 ∧ (tHs none true 1).store.hsOp = none ∧ State.lifecycle (tHs none true 1) ≠ 0 ∧ State.lifecycle (tHs none true 1) ≠ 4 ∧ State.gateOpen (tHs none true 1) = true ∧ (12 < 8 ∨ 65512 < 12 ∨ 12 % 8 ≠ 0)) := by
  and_intros <;> first | decide +kernel | rfl
/-- States and operands that meet the hypotheses of HostSavedResults, part 2. -/
theorem wit_HostSavedResults_2 :
    (writable (tWith (tWith (tHs none true 1) Reg.KEY_PST_HS_ADDR_HI 256) Reg.KEY_PST_HS_ADDR_LO 134217728) Reg.KEY_PST_HS_CTL ∧ 0 < 8 ∧ 8 < 131072 ∧ (tWith (tWith (tHs none true 1) Reg.KEY_PST_HS_ADDR_HI 256) Reg.KEY_PST_HS_ADDR_LO 134217728).store.hsOp = none ∧ State.lifecycle (tWith (tWith (tHs none true 1) Reg.KEY_PST_HS_ADDR_HI 256) Reg.KEY_PST_HS_ADDR_LO 134217728) ≠ 0 ∧ State.lifecycle (tWith (tWith (tHs none true 1) Reg.KEY_PST_HS_ADDR_HI 256) Reg.KEY_PST_HS_ADDR_LO 134217728) ≠ 4 ∧ State.gateOpen (tWith (tWith (tHs none true 1) Reg.KEY_PST_HS_ADDR_HI 256) Reg.KEY_PST_HS_ADDR_LO 134217728) = true ∧ 8 ≤ 8 ∧ 8 ≤ 65512 ∧ 8 % 8 = 0 ∧ State.keyRange (tWith (tWith (tHs none true 1) Reg.KEY_PST_HS_ADDR_HI 256) Reg.KEY_PST_HS_ADDR_LO 134217728) (State.daReg (tWith (tWith (tHs none true 1) Reg.KEY_PST_HS_ADDR_HI 256) Reg.KEY_PST_HS_ADDR_LO 134217728) Reg.KEY_PST_HS_ADDR_LO Reg.KEY_PST_HS_ADDR_HI) 8 false = false) ∧
    (writable (tHs none true 1) Reg.KEY_PST_HS_CTL ∧ 0 < 8 ∧ 65512 < 131072 ∧ (tHs none true 1).store.hsOp = none ∧ State.lifecycle (tHs none true 1) ≠ 0 ∧ State.lifecycle (tHs none true 1) ≠ 4 ∧ State.gateOpen (tHs none true 1) = true ∧ 8 ≤ 65512 ∧ 65512 ≤ 65512 ∧ 65512 % 8 = 0 ∧ State.keyRange (tHs none true 1) (State.daReg (tHs none true 1) Reg.KEY_PST_HS_ADDR_LO Reg.KEY_PST_HS_ADDR_HI) 65512 false = true ∧ (tHs none true 1).mem.bad = [] ∧ State.calm (tHs none true 1) (State.daReg (tHs none true 1) Reg.KEY_PST_HS_ADDR_LO Reg.KEY_PST_HS_ADDR_HI) 65512 = true) := by
  and_intros <;> first | decide +kernel | rfl
/-- States and operands that meet the hypotheses of HostSavedResults, part 3. -/
theorem wit_HostSavedResults_3 :
    (writable (tHs none true 1) Reg.KEY_PST_HS_CTL ∧ 0 < 8 ∧ 8 < 131072 ∧ (tHs none true 1).store.hsOp = none ∧ State.lifecycle (tHs none true 1) ≠ 0 ∧ State.lifecycle (tHs none true 1) ≠ 4 ∧ State.gateOpen (tHs none true 1) = true ∧ 8 ≤ 8 ∧ 8 ≤ 65512 ∧ 8 % 8 = 0 ∧ State.keyRange (tHs none true 1) (State.daReg (tHs none true 1) Reg.KEY_PST_HS_ADDR_LO Reg.KEY_PST_HS_ADDR_HI) 8 false = true ∧ (tHs none true 1).mem.bad = [] ∧ State.calm (tHs none true 1) (State.daReg (tHs none true 1) Reg.KEY_PST_HS_ADDR_LO Reg.KEY_PST_HS_ADDR_HI) 8 = true) ∧
    (writable (tHs none true 1) Reg.KEY_PST_HS_CTL ∧ 0 < 8 ∧ 8 < 131072 ∧ (tHs none true 1).store.hsOp = none ∧ State.lifecycle (tHs none true 1) ≠ 0 ∧ State.lifecycle (tHs none true 1) ≠ 4 ∧ State.hsBlock (tHs none true 1) 0 = none) ∧
    (writable (tWith (tWith (tHs none true 1) Reg.KEY_PST_HS_ADDR_HI 256) Reg.KEY_PST_HS_ADDR_LO 134217728) Reg.KEY_PST_HS_CTL ∧ 7 < 8 ∧ 0 < 131072 ∧ (tWith (tWith (tHs none true 1) Reg.KEY_PST_HS_ADDR_HI 256) Reg.KEY_PST_HS_ADDR_LO 134217728).store.hsOp = none ∧ State.lifecycle (tWith (tWith (tHs none true 1) Reg.KEY_PST_HS_ADDR_HI 256) Reg.KEY_PST_HS_ADDR_LO 134217728) ≠ 0 ∧ State.lifecycle (tWith (tWith (tHs none true 1) Reg.KEY_PST_HS_ADDR_HI 256) Reg.KEY_PST_HS_ADDR_LO 134217728) ≠ 4 ∧ State.hsBlock (tWith (tWith (tHs none true 1) Reg.KEY_PST_HS_ADDR_HI 256) Reg.KEY_PST_HS_ADDR_LO 134217728) 7 = some w32_54 ∧ State.keyRange (tWith (tWith (tHs none true 1) Reg.KEY_PST_HS_ADDR_HI 256) Reg.KEY_PST_HS_ADDR_LO 134217728) (State.daReg (tWith (tWith (tHs none true 1) Reg.KEY_PST_HS_ADDR_HI 256) Reg.KEY_PST_HS_ADDR_LO 134217728) Reg.KEY_PST_HS_ADDR_LO Reg.KEY_PST_HS_ADDR_HI) (List.length w32_54.data) true = false) ∧
    (writable (tHs none true 1) Reg.KEY_PST_HS_CTL ∧ 7 < 8 ∧ 0 < 131072 ∧ (tHs none true 1).store.hsOp = none ∧ State.lifecycle (tHs none true 1) ≠ 0 ∧ State.lifecycle (tHs none true 1) ≠ 4 ∧ State.hsBlock (tHs none true 1) 7 = some w32_54 ∧ State.keyRange (tHs none true 1) (State.daReg (tHs none true 1) Reg.KEY_PST_HS_ADDR_LO Reg.KEY_PST_HS_ADDR_HI) (List.length w32_54.data) true = true) ∧
    ((tHs (some (tOp false)) true 1).store.hsOp = some (tOp false) ∧ State.dieUp (tHs (some (tOp false)) true 1) dieK = true ∧ (tOp false).load = false ∧ State.gateOpen (tHs (some (tOp false)) true 1) = true) ∧
    ((tHs (some (tOp false)) false 1).store.hsOp = some (tOp false) ∧ State.dieUp (tHs (some (tOp false)) false 1) dieK = true ∧ (tOp false).load = false ∧ State.gateOpen (tHs (some (tOp false)) false 1) = false) ∧
    ((tHs (some (tOp true)) false 1).store.hsOp = some (tOp true) ∧ State.dieUp (tHs (some (tOp true)) false 1) dieK = true ∧ (tOp true).load = true ∧ State.hsBlock (tHs (some (tOp true)) false 1) (tOp true).block = some w32_54 ∧ State.still (tHs (some (tOp true)) false 1) (tOp true).da (List.length w32_54.data) = true) ∧
    (tUp.store.hsOp = none) := by
  and_intros <;> first | decide +kernel | rfl
/-- States and operands that meet the hypotheses of PowerAndColdResetResults. -/
theorem wit_PowerAndColdResetResults :
    (tget false tUp.pwr.good 4 = true) ∧
    (tget false (tRails [] [] State.reset).pwr.good 0 = false ∧ List.all (pwrAfter 0) (tget false (tRails [] [] State.reset).pwr.good) = true) ∧
    (tget false (tRails [0, 1, 2] [] State.reset).pwr.good 3 = false ∧ List.all (pwrAfter 3) (tget false (tRails [0, 1, 2] [] State.reset).pwr.good) = true) ∧
    (0 ∈ pwrAfter 1 ∧ tget false (tRails [] [] State.reset).pwr.good 1 = false ∧ tget false (tRails [] [] State.reset).pwr.good 0 = false ∧ tget false (tRails [] [] State.reset).pwr.early 0 = false) ∧
    (tget false (tRails [0, 1] [4] State.reset).pwr.good 4 = false) ∧
    (tget false (State.writeMem tFab 0 [1#8]).pwr.good 0 = true ∧ 0 < 2) ∧
    (tget false (State.writeMem tFab 2199023255552 [1#8]).pwr.good 1 = true ∧ 1 < 2) ∧
    (tget false tFab.pwr.good 4 = true ∧ 2 ≤ 4 ∧ State.dieUp tFab dieK = true) ∧
    (List.all (List.range 5) (tget false tUp.pwr.good) = false ∨ Option.isSome tUp.nrg.trip = true ∨ tUp.pwr.started = true ∧ tUp.pwr.due = 0) ∧
    (List.all (List.range 5) (tget false (tRails [0, 1, 2, 3] [] State.reset).pwr.good) = false ∨ Option.isSome (tRails [0, 1, 2, 3] [] State.reset).nrg.trip = true ∨ (tRails [0, 1, 2, 3] [] State.reset).pwr.started = true ∧ (tRails [0, 1, 2, 3] [] State.reset).pwr.due = 0) ∧
    (List.all (List.range 5) (tget false w33_16.pwr.good) = true ∧ w33_16.nrg.trip = none ∧ w33_16.fuses.lifecycle = 0 ∧ (w33_16.pwr.started = false ∨ w33_16.pwr.due = 1) ∧ w33_16.pwr.due ≠ 2) ∧
    (List.all (List.range 5) (tget false (tRails [0, 1, 2, 3, 4] [] State.reset).pwr.good) = true ∧ (tRails [0, 1, 2, 3, 4] [] State.reset).nrg.trip = none ∧ (tRails [0, 1, 2, 3, 4] [] State.reset).fuses.lifecycle = 0 ∧ ((tRails [0, 1, 2, 3, 4] [] State.reset).pwr.started = false ∨ (tRails [0, 1, 2, 3, 4] [] State.reset).pwr.due = 1) ∧ (tRails [0, 1, 2, 3, 4] [] State.reset).pwr.due ≠ 2) := by
  and_intros <;> first | decide +kernel | rfl
/-- States and operands that meet the hypotheses of WarmResetResults. -/
theorem wit_WarmResetResults :
    (State.dieUp (State.setRb (State.writeMem tFab 0 [1#8]) Reg.KEY_READY 1 true) dieK = true ∧ (State.setRb (State.writeMem tFab 0 [1#8]) Reg.KEY_READY 1 true).nrg.trip = none ∧ State.groupBase (State.setRb (State.writeMem tFab 0 [1#8]) Reg.KEY_READY 1 true) = none ∧ (∀ (p : Nat), noOwn (State.setRb (State.writeMem tFab 0 [1#8]) Reg.KEY_READY 1 true) p) ∧ (State.setRb (State.writeMem tFab 0 [1#8]) Reg.KEY_READY 1 true).pwr.started = true ∧ State.pstate (State.setRb (State.writeMem tFab 0 [1#8]) Reg.KEY_READY 1 true) ≠ 3 ∧ State.rb (State.setRb (State.writeMem tFab 0 [1#8]) Reg.KEY_READY 1 true) Reg.KEY_READY 1 = true) ∧
    (State.dieUp (State.setRb (State.writeMem tFab 0 [1#8]) Reg.KEY_READY 1 true) dieK = true ∧ (State.setRb (State.writeMem tFab 0 [1#8]) Reg.KEY_READY 1 true).nrg.trip = none ∧ State.groupBase (State.setRb (State.writeMem tFab 0 [1#8]) Reg.KEY_READY 1 true) = none ∧ (∀ (p : Nat), noOwn (State.setRb (State.writeMem tFab 0 [1#8]) Reg.KEY_READY 1 true) p) ∧ writable (State.setRb (State.writeMem tFab 0 [1#8]) Reg.KEY_READY 1 true) Reg.KEY_RESET_CTL ∧ (State.setRb (State.writeMem tFab 0 [1#8]) Reg.KEY_READY 1 true).pwr.due = 0) ∧
    ((tWith tUp Reg.KEY_READY 1).pwr.started = true ∧ (tWith tUp Reg.KEY_READY 1).pwr.fatal = false ∧ (tWith tUp Reg.KEY_READY 1).nrg.trip = none ∧ State.pstate (tWith tUp Reg.KEY_READY 1) ≠ 3 ∧ State.rb (tWith tUp Reg.KEY_READY 1) Reg.KEY_READY 1 = false) ∧
    (State.reset.pwr.started = false ∨ State.reset.pwr.fatal = true ∨ Option.isSome State.reset.nrg.trip = true ∨ State.pstate State.reset = 3) ∧
    (State.blockAnswers tUp Reg.KEY_RESET_CTL = true ∧ tUp.nrg.trip = none ∧ tUp.pwr.due = 0 ∧ Origin.host ≠ Origin.fabric) ∧
    (State.blockAnswers tUp Reg.KEY_RESET_CTL = true ∧ tUp.nrg.trip = none ∧ tUp.pwr.due = 0) := by
  and_intros <;> first | with_reducible exact tNoOwn | decide +kernel | rfl
/-- States and operands that meet the hypotheses of LocalResetResults, part 1. -/
theorem wit_LocalResetResults_1 :
    (State.blockAnswers tUp Reg.KEY_RESET_CTL = true ∧ 3254779908#32 &&& 16646144#32 = 0#32 ∧ Word.fld (3254779908#32) 24 8 ≠ 195) ∧
    (State.blockAnswers w33_25 Reg.KEY_RESET_CTL = true ∧ 3271557124#32 &&& 16646144#32 = 0#32 ∧ Word.fld (3271557124#32) 24 8 = 195 ∧ 4 ≤ Word.fld (3271557124#32) 0 3 ∧ Option.isSome w33_25.nrg.trip = true) ∧
    (State.blockAnswers w33_16 Reg.KEY_RESET_CTL = true ∧ 3271557127#32 &&& 16646144#32 = 0#32 ∧ Word.fld (3271557127#32) 24 8 = 195 ∧ 4 ≤ Word.fld (3271557127#32) 0 3 ∧ w33_16.nrg.trip = none ∧ w33_16.pwr.due ≠ 0) ∧
    (State.blockAnswers (tPs 2 none tUp) Reg.KEY_RESET_CTL = true ∧ 3271557127#32 &&& 16646144#32 = 0#32 ∧ Word.fld (3271557127#32) 24 8 = 195 ∧ 4 ≤ Word.fld (3271557127#32) 0 3 ∧ (tPs 2 none tUp).nrg.trip = none ∧ (tPs 2 none tUp).pwr.due = 0 ∧ State.asleep (tPs 2 none tUp) = true) ∧
    (writable tUp Reg.KEY_RESET_CTL ∧ tUp.nrg.trip = none ∧ tUp.pwr.due = 0 ∧ 22 < 32 ∧ 22 ≤ 22) ∧
    (writable tUp Reg.KEY_RESET_CTL ∧ tUp.nrg.trip = none ∧ tUp.pwr.due = 0 ∧ 31 < 32 ∧ 22 ≤ 31) ∧
    (writable (tInReset 21) Reg.KEY_RESET_CTL ∧ (tInReset 21).nrg.trip = none ∧ (tInReset 21).pwr.due = 0 ∧ 21 < 32 ∧ 21 < 22 ∧ State.released (tInReset 21) 21 = false) ∧
    (writable tUp Reg.KEY_RESET_CTL ∧ tUp.nrg.trip = none ∧ tUp.pwr.due = 0 ∧ 0 < 32 ∧ 0 < 22 ∧ State.released tUp 0 = true) ∧
    (writable tUp Reg.KEY_RESET_CTL ∧ tUp.nrg.trip = none ∧ tUp.pwr.due = 0 ∧ 21 < 32 ∧ 21 < 22 ∧ State.released tUp 21 = true) ∧
    (writable tUp Reg.KEY_RESET_CTL ∧ tUp.nrg.trip = none ∧ tUp.pwr.due = 0 ∧ 0 < 32 ∧ 0 < 22 ∧ State.released tUp 0 = true) ∧
    (writable (State.writeMem (tInReset 19) 5 [1#8]) Reg.KEY_RESET_CTL ∧ (State.writeMem (tInReset 19) 5 [1#8]).nrg.trip = none ∧ (State.writeMem (tInReset 19) 5 [1#8]).pwr.due = 0 ∧ 19 < 32 ∧ 19 < 22 ∧ State.released (State.writeMem (tInReset 19) 5 [1#8]) 19 = false ∧ ((tget { status := 0, version := 0, meas := [] : DieRec } (State.writeMem (tInReset 19) 5 [1#8]).sec.dies 19).status ≠ 3 ∧ List.contains (State.writeMem (tInReset 19) 5 [1#8]).test.memFail 19 = false ∧ (4 ≤ 19 → 19 < 20 → List.contains (State.writeMem (tInReset 19) 5 [1#8]).pwr.badStacks (19 - 4) = false))) ∧
    (writable (State.writeMem (tInReset 3) 2199291691008 [1#8]) Reg.KEY_RESET_CTL ∧ (State.writeMem (tInReset 3) 2199291691008 [1#8]).nrg.trip = none ∧ (State.writeMem (tInReset 3) 2199291691008 [1#8]).pwr.due = 0 ∧ 3 < 32 ∧ 3 < 22 ∧ State.released (State.writeMem (tInReset 3) 2199291691008 [1#8]) 3 = false ∧ ((tget { status := 0, version := 0, meas := [] : DieRec } (State.writeMem (tInReset 3) 2199291691008 [1#8]).sec.dies 3).status ≠ 3 ∧ List.contains (State.writeMem (tInReset 3) 2199291691008 [1#8]).test.memFail 3 = false ∧ (4 ≤ 3 → 3 < 20 → List.contains (State.writeMem (tInReset 3) 2199291691008 [1#8]).pwr.badStacks (3 - 4) = false))) ∧
    (writable (tInReset 0) Reg.KEY_RESET_CTL ∧ (tInReset 0).nrg.trip = none ∧ (tInReset 0).pwr.due = 0 ∧ 0 < 32 ∧ 0 < 22 ∧ State.released (tInReset 0) 0 = false ∧ ((tget { status := 0, version := 0, meas := [] : DieRec } (tInReset 0).sec.dies 0).status ≠ 3 ∧ List.contains (tInReset 0).test.memFail 0 = false ∧ (4 ≤ 0 → 0 < 20 → List.contains (tInReset 0).pwr.badStacks (0 - 4) = false))) ∧
    (writable tUp Reg.KEY_RESET_CTL ∧ tUp.nrg.trip = none ∧ tUp.pwr.due = 0 ∧ 4 < 32 ∧ 0 < 32 ∧ linkExists 4 0 = false) := by
  and_intros <;> first | decide +kernel | rfl
/-- States and operands that meet the hypotheses of LocalResetResults, part 2. -/
theorem wit_LocalResetResults_2 :
    (writable tUp Reg.KEY_RESET_CTL ∧ tUp.nrg.trip = none ∧ tUp.pwr.due = 0 ∧ 31 < 32 ∧ linkExists 31 31 = false) ∧
    (writable w33_41 Reg.KEY_RESET_CTL ∧ w33_41.nrg.trip = none ∧ w33_41.pwr.due = 0 ∧ 22 < 32 ∧ 0 < 32 ∧ linkExists 22 0 = true ∧ State.linkDies w33_41 22 0 = true ∧ State.linkRings w33_41 22 0 = true) ∧
    (writable w33_41 Reg.KEY_RESET_CTL ∧ w33_41.nrg.trip = none ∧ w33_41.pwr.due = 0 ∧ State.portDie w33_41 15 = true ∧ (State.port w33_41 15).state = PortSt.live ∧ State.portEnabled w33_41 15 = true ∧ State.bwValid w33_41 15 = true ∧ State.portRings w33_41 15 = true ∧ (State.port w33_41 15).quiescing = false ∧ (State.port w33_41 15).quiesced = false ∧ noOwn w33_41 15) := by
  and_intros <;> first | decide +kernel | rfl
/-- States and operands that meet the hypotheses of ErrorAndTestResults, part 1. -/
theorem wit_ErrorAndTestResults_1 :
    (State.blockAnswers (tFifo [tErr 7, tErr 8]) Reg.KEY_ERR_POP = true ∧ State.errSel (tFifo [tErr 7, tErr 8]) < List.length (tFifo [tErr 7, tErr 8]).err ∧ (State.fifo (tFifo [tErr 7, tErr 8]) (State.errSel (tFifo [tErr 7, tErr 8]))).recs = [tErr 7, tErr 8] ∧ (tErr 7).seq = 7#32) ∧
    (State.blockAnswers (tFifo [tErr 7, tErr 8]) Reg.KEY_ERR_POP = true ∧ State.errSel (tFifo [tErr 7, tErr 8]) < List.length (tFifo [tErr 7, tErr 8]).err ∧ (State.fifo (tFifo [tErr 7, tErr 8]) (State.errSel (tFifo [tErr 7, tErr 8]))).recs = [tErr 7, tErr 8] ∧ (tErr 7).seq ≠ 8#32) ∧
    (State.blockAnswers (tFifo []) Reg.KEY_ERR_POP = true ∧ State.errSel (tFifo []) < List.length (tFifo []).err ∧ (State.fifo (tFifo []) (State.errSel (tFifo []))).recs = []) ∧
    (State.dieUp (tTst 48 98303 []) 3 = true ∧ State.asleep (tTst 48 98303 []) = false ∧ State.rb (tTst 48 98303 []) Reg.KEY_TEST_CTL 0 = false) ∧
    (State.dieUp (tTst 49 98303 []) 3 = true ∧ State.asleep (tTst 49 98303 []) = false ∧ State.rb (tTst 49 98303 []) Reg.KEY_TEST_CTL 0 = true ∧ (tTst 49 98303 []).mem.bad = [] ∧ State.calm (tTst 49 98303 []) (testRegion 3 (tget 0 (tTst 49 98303 []).test.pos 3)) 4096 = true) ∧
    (State.dieUp (tTst 49 32768 []) 3 = true ∧ State.asleep (tTst 49 32768 []) = false ∧ State.rb (tTst 49 32768 []) Reg.KEY_TEST_CTL 0 = true ∧ (tTst 49 32768 []).mem.bad = [] ∧ State.calm (tTst 49 32768 []) (testRegion 3 (tget 0 (tTst 49 32768 []).test.pos 3)) 4096 = true ∧ 31 < 32 ∧ tget 0 (tTst 49 32768 []).test.spares (spareKey 3 (sramPlace (testRegion 3 (tget 0 (tTst 49 32768 []).test.pos 3) + 128 * 31)).fst (sramPlace (testRegion 3 (tget 0 (tTst 49 32768 []).test.pos 3) + 128 * 31)).snd.fst) < spareRows (sramPlace (testRegion 3 (tget 0 (tTst 49 32768 []).test.pos 3) + 128 * 31)).fst) ∧
    (State.dieUp (tTst 49 98303 [(spareKey 3 255 (sramPlace (testRegion 3 98303)).snd.fst, 7)]) 3 = true ∧ State.asleep (tTst 49 98303 [(spareKey 3 255 (sramPlace (testRegion 3 98303)).snd.fst, 7)]) = false ∧ State.rb (tTst 49 98303 [(spareKey 3 255 (sramPlace (testRegion 3 98303)).snd.fst, 7)]) Reg.KEY_TEST_CTL 0 = true ∧ (tTst 49 98303 [(spareKey 3 255 (sramPlace (testRegion 3 98303)).snd.fst, 7)]).mem.bad = [] ∧ State.calm (tTst 49 98303 [(spareKey 3 255 (sramPlace (testRegion 3 98303)).snd.fst, 7)]) (testRegion 3 (tget 0 (tTst 49 98303 [(spareKey 3 255 (sramPlace (testRegion 3 98303)).snd.fst, 7)]).test.pos 3)) 4096 = true ∧ 0 < 32 ∧ tget 0 (tTst 49 98303 [(spareKey 3 255 (sramPlace (testRegion 3 98303)).snd.fst, 7)]).test.spares (spareKey 3 (sramPlace (testRegion 3 (tget 0 (tTst 49 98303 [(spareKey 3 255 (sramPlace (testRegion 3 98303)).snd.fst, 7)]).test.pos 3) + 128 * 0)).fst (sramPlace (testRegion 3 (tget 0 (tTst 49 98303 [(spareKey 3 255 (sramPlace (testRegion 3 98303)).snd.fst, 7)]).test.pos 3) + 128 * 0)).snd.fst) < spareRows (sramPlace (testRegion 3 (tget 0 (tTst 49 98303 [(spareKey 3 255 (sramPlace (testRegion 3 98303)).snd.fst, 7)]).test.pos 3) + 128 * 0)).fst) ∧
    (State.dieUp (tTst 49 98303 [(spareKey 3 255 (sramPlace (testRegion 3 98303)).snd.fst, 8)]) 3 = true ∧ State.asleep (tTst 49 98303 [(spareKey 3 255 (sramPlace (testRegion 3 98303)).snd.fst, 8)]) = false ∧ State.rb (tTst 49 98303 [(spareKey 3 255 (sramPlace (testRegion 3 98303)).snd.fst, 8)]) Reg.KEY_TEST_CTL 0 = true ∧ (tTst 49 98303 [(spareKey 3 255 (sramPlace (testRegion 3 98303)).snd.fst, 8)]).mem.bad = [] ∧ State.calm (tTst 49 98303 [(spareKey 3 255 (sramPlace (testRegion 3 98303)).snd.fst, 8)]) (testRegion 3 (tget 0 (tTst 49 98303 [(spareKey 3 255 (sramPlace (testRegion 3 98303)).snd.fst, 8)]).test.pos 3)) 4096 = true ∧ 0 < 32 ∧ spareRows (sramPlace (testRegion 3 (tget 0 (tTst 49 98303 [(spareKey 3 255 (sramPlace (testRegion 3 98303)).snd.fst, 8)]).test.pos 3) + 128 * 0)).fst ≤ tget 0 (tTst 49 98303 [(spareKey 3 255 (sramPlace (testRegion 3 98303)).snd.fst, 8)]).test.spares (spareKey 3 (sramPlace (testRegion 3 (tget 0 (tTst 49 98303 [(spareKey 3 255 (sramPlace (testRegion 3 98303)).snd.fst, 8)]).test.pos 3) + 128 * 0)).fst (sramPlace (testRegion 3 (tget 0 (tTst 49 98303 [(spareKey 3 255 (sramPlace (testRegion 3 98303)).snd.fst, 8)]).test.pos 3) + 128 * 0)).snd.fst)) ∧
    (writable (tMarch (some (0, false))) Reg.KEY_MARCH_CTL ∧ 6 < 7 ∧ Option.isSome (tMarch (some (0, false))).test.march = true) ∧
    (writable (tMarch none) Reg.KEY_MARCH_CTL ∧ 6 < 7 ∧ (tMarch none).test.march = none ∧ State.marchOk (tMarch none) 6 true = true) ∧
    (writable (tMarch none) Reg.KEY_MARCH_CTL ∧ 0 < 7 ∧ (tMarch none).test.march = none ∧ State.marchOk (tMarch none) 0 true = false) ∧
    ((tMarch (some (6, false))).test.march = some (6, false) ∧ State.dieUp (tMarch (some (6, false))) (marchDie 6) = true) ∧
    ((tMarch (some (5, true))).test.march = some (5, true) ∧ State.dieUp (tMarch (some (5, true))) (marchDie 5) = true ∧ (5 = 5 ∨ 5 = 6)) ∧
    (w34_25.test.march = some (6, true) ∧ State.dieUp w34_25 (marchDie 6) = true ∧ (6 = 5 ∨ 6 = 6)) := by
  and_intros <;> first | decide +kernel | rfl
/-- States and operands that meet the hypotheses of ErrorAndTestResults, part 2. -/
theorem wit_ErrorAndTestResults_2 :
    ((tMarch (some (0, false))).test.march = some (0, false) ∧ State.dieUp (tMarch (some (0, false))) (marchDie 0) = true) ∧
    (w34_27.test.march = some (4, false) ∧ State.dieUp w34_27 (marchDie 4) = true) ∧
    (tUp.test.march = none) := by
  and_intros <;> first | decide +kernel | rfl

/-! ### Well-formedness -/

/-- A packet that keeps to the widths of R426 in every field. -/
def tGoodPkt : Packet := { tPkt with payload := zeros 32 }

/-- A HELLO that keeps to R430. -/
def tGoodHello : HelloMsg :=
  { digest := zeros 64, mgrDigest := zeros 64, port := 15, idValid := true, mgrHost := false, candidate := false, devId := 262143, distance := 63,
    seq := 2 ^ 32 - 1, events := 0, mgrSeq := 0 }

/-- Commands at the ends of their ranges are well-formed. -/
theorem test_wellformed_accepts : ([.registerWrite .host 0x3FFFFFC 32 1 0, .commandEnqueue (.sq 255 0) (zeros 64), .read 15 tGoodPkt (.corrected (2 ^ 46 - 1)),
    .hello 0 tGoodHello, .laserLowOutput 1 79 50, .ringLoopUpdate 78655 (-400), .flitSend 22 19 7 true (zeros 64) 0 [(3, 7)],
    .sensorConversion 435 0, .sqFetch 255 (some (zeros 64)), .weirEntry 255 0 (some (zeros 65536)), .refill (List.replicate 12 5) [],
    .characterisationDone 3 272, .vack 3 255] : List Instr).all Instr.wf = true := by decide +kernel

/-- Each range that a packet, a HELLO, a placement copy, a tile or a bank event breaks makes its command ill-formed. -/
theorem test_wellformed_refuses_fields :
    ([.read 0 { tGoodPkt with dst := 262144 } .clear, .read 0 { tGoodPkt with hops := 64 } .clear, .read 0 { tGoodPkt with type := 256 } .clear,
      .read 0 { tGoodPkt with src := 262144 } .clear, .read 0 { tGoodPkt with srcDie := 32 } .clear, .read 0 { tGoodPkt with trk := 2 } .clear,
      .read 0 { tGoodPkt with mod := 256 } .clear, .read 0 { tGoodPkt with tag := 1048576 } .clear, .read 0 { tGoodPkt with gen := 16 } .clear,
      .read 0 { tGoodPkt with status := 256 } .clear, .read 0 { tGoodPkt with flowSeq := 2 ^ 32 } .clear,
      .read 0 { tGoodPkt with addr := 2 ^ 48 } .clear, .read 0 { tGoodPkt with workUnit := 2 ^ 32 } .clear,
      .read 0 { tGoodPkt with epoch := 256 } .clear, .read 0 { tGoodPkt with flags := 256 } .clear, .read 0 { tGoodPkt with payload := zeros 31 } .clear,
      .write 0 tGoodPkt (.uncorrectable (2 ^ 46)), .atomic 0 tGoodPkt (.later true (2 ^ 46) []), .readData 0 tGoodPkt (.earlier true 0 (zeros 129) false),
      .packetForward 0 5 tGoodPkt, .packetSend 0 5 tGoodPkt,
      .tileFold 0 { dest := 2 ^ 46, bf16 := true, data := [], fmt := 4, bad := false, workUnit := 0, epoch := 0 },
      .tileFold 0 { dest := 0, bf16 := true, data := [], fmt := 16, bad := false, workUnit := 0, epoch := 0 },
      .tileFold 0 { dest := 0, bf16 := true, data := [], fmt := 4, bad := false, workUnit := 2 ^ 32, epoch := 0 },
      .tileFold 0 { dest := 0, bf16 := true, data := [], fmt := 4, bad := false, workUnit := 0, epoch := 256 },
      .placementCopyAck 0 262144 0 none, .placementCopyAck 0 0 256 none,
      .placementCopyAck 0 0 0 (some (PlcCopy.mk 0 4096 0 0 0 0 [] false 0 0 0 0 0 [])), .placementCopyAck 0 0 0 (some (PlcCopy.mk 0 0 4 0 0 0 [] false 0 0 0 0 0 [])),
      .hello 0 { tGoodHello with digest := [] }, .hello 0 { tGoodHello with mgrDigest := [1] }, .hello 0 { tGoodHello with port := 16 },
      .hello 0 { tGoodHello with devId := 262144 }, .hello 0 { tGoodHello with distance := 64 }, .hello 0 { tGoodHello with seq := 2 ^ 32 },
      .hello 0 { tGoodHello with events := 2 ^ 32 }, .hello 0 { tGoodHello with mgrSeq := 2 ^ 32 }] : List Instr).any Instr.wf = false := by
  decide +kernel

/-- Each operand out of its range makes its command ill-formed. -/
theorem test_wellformed_refuses_operands :
    ([.registerWrite .host 0x4000000 32 0 0, .registerWrite .host 0 16 0 0, .commandEnqueue (.sq 256 0) (zeros 64), .commandEnqueue .mgmt (zeros 63),
      .poolCapacityWrite .host 0x4000000 0, .fenceUnitResolved 0 0 (some [(2 ^ 32, 0)]) .clear, .fenceUnitResolved 0 0 (some [(0, 4)]) .clear,
      .commitSettleEnd 0 [272], .characterisationDone 0 273, .fadeEvaluation 0 [(80, 1)], .laserLowOutput 0 80 1, .sparePrewarmLocked 0 16,
      .laserLockUpdate 0 80 0 0 0, .ringLoopUpdate 78656 0, .opticsBringup [78656] [], .opticsBringup [] [78656],
      .flitSend 23 0 0 true [] 0 [], .flitSend 0 23 0 true [] 0 [], .flitSend 0 1 8 true [] 0 [], .flitSend 0 1 0 true (zeros 65) 0 [],
      .flitSend 0 1 0 true [] 0 [(0, 8)], .flitReceive 0 1 [(3840, 0)], .bedAlign 23 0 [], .bedTs1 3840 [], .bedTs2 3840 [], .bedRetire 0 23 [],
      .bedAdmit 0 1 [(3840, 0)], .bedReqRetire 23 0 [], .bedBoundary 0 1 (2 ^ 32), .bedCreditTimeout 23 0, .bedLaneErrorLimit 3840,
      .bedReqRetireTimeout 0 23, .bedTrainingStart 23 0, .bedTrainingDone 0 23 [], .bedQuickTrainingDone 0 1 (some 3840) true, .laneRetrainWaitEnd 3840,
      .bedDownRetry 23 0, .packetReceive 0 [(34, [])] false, .status 0 [(34, 0)] false, .portTs1 0 34 0 [], .portTs2 0 0 34 [], .portRetire 0 [(34, 0)] false,
      .portAdmit 0 [(34, 0)] false, .portReqRetire 0 [(34, 0)] false, .portBoundary 0 (2 ^ 32), .portLaneErrorLimit 0 34, .portLaneTrainingDone 0 34 true,
      .portTrainingDone 0 true 3 0 [] 0 0 0, .portTrainingDone 0 true 0 0 [] (2 ^ 64) 0 0, .portTrainingDone 0 true 0 0 [] 0 16 0,
      .portTrainingDone 0 true 0 0 [] 0 0 65536, .trackerTimeout 0 1048576, .quarantineExpiry 0 1048576, .flowExpiry 32 0, .flowExpiry 0 262144,
      .heartbeat 0 2 0 0 0, .pierSilent 0 2, .sqDoorbell 0x1000000 4 0, .sqDoorbell 0 3 0, .cqHeadDoorbell 0 16 0, .sqFetch 256 none,
      .sqFetch 0 (some (zeros 63)), .nopEntry 256 0, .dmaIn 256 0 [] [] true .clear, .dmaIn 0 1024 [] [] true .clear, .dmaOut 0 1024 .clear,
      .weirEntry 0 0 (some (zeros 63)), .weirEntry 0 0 (some (zeros 65537)), .mgmtEntry 0 0 (some (zeros 257)), .cqCompletionWrite 256, .cqCoalTimeout 256,
      .ideKm 8 0, .ideIntegrityFailure 8, .vack 0 256, .refill (List.replicate 11 5) [], .sensorConversion 436 0, .sensorMean 436 0 0 0, .fastModeExit 5,
      .ghostPhaseEnd 436, .thermtrip 436, .provision [[]] [], .getMeasurements 0 [], .transparentTestRegion 0 [32] .clear,
      .resizableBarSizeWrite 64] : List Instr).any Instr.wf = false := by
  decide +kernel

/-! ### Cell words -/

/-- A word written out field by field from format FD (R96): opcode 0x40, modifiers 0x01, acc 2, ta 4, tb 5, oa 0, k 4, ob 0. -/
theorem test_word_mma : decodeCell tC .clear 0x4001110A000400000000000000000000#128 = some (.mma tC (tFD 1 2 4 5 0 4 0)) := by decide +kernel

/-! ### What holds of every command and every state -/

/-- A cell before the reserved opcode 0x94, its program at its own memory. -/
def tReserved : State := (tRun tC).writeMem (0x20000000000 + 15) [0x94]

/-- The hypotheses of StepRunsFrontCommand: a command at the front; nothing to do; a cell before a reserved opcode; a link and a port with
something to send. -/
theorem wit_StepRunsFrontCommand :
    ({ tUp with pending := [.aoTick, .aoTick] } : State).pending = .aoTick :: [.aoTick] ∧
    (State.reset.pending = [] ∧ (∀ ci, State.reset.atReserved ci = false) ∧ (∀ k, State.reset.linkBusy k = false) ∧ ∀ p, State.reset.portBusy p = false) ∧
    (tReserved.pending = [] ∧ (tReserved.cells.map (·.1)).find? tReserved.atReserved = some 0 ∧ (tReserved.cell 0).traps 10 = true) ∧
    (let s := tLink { tLive with txStream := zeros 36 } tOne BLink.down
     s.pending = [] ∧ (s.cells.map (·.1)).find? s.atReserved = none ∧ (s.bed.links.map (·.1)).find? s.linkBusy = some (32 * 22 + 19)) ∧
    (let s := tPort { tUpPort with txPkts := [zeros 36] }
     s.pending = [] ∧ (s.cells.map (·.1)).find? s.atReserved = none ∧ (s.bed.links.map (·.1)).find? s.linkBusy = none ∧
       (s.ports.map (·.1)).find? s.portBusy = some 15) := by
  refine ⟨rfl, ⟨rfl, fun _ => rfl, fun _ => rfl, fun _ => rfl⟩, ?_, ?_, ?_⟩ <;> decide +kernel

/-- The hypotheses of CellWordsRoundTrip. -/
theorem wit_CellWordsRoundTrip :
    (encodeCell (.mma tC (tFD 1 2 4 5 0 4 0)) = some 0x4001110A000400000000000000000000#128 ∧ cellOf (.mma tC (tFD 1 2 4 5 0 4 0)) = some (tC, .clear)) ∧
    decodeCell tC (.corrected 8) 0x4001110A000400000000000000000000#128 = some (.mma tC (tFD 1 2 4 5 0 4 0)) := by
  and_intros <;> decide +kernel

/-- The hypotheses of RegisterAccessWidth: a register; accesses of another width and at another offset. -/
theorem wit_RegisterAccessWidth :
    (∃ d, regAt 0 = some d) ∧ (tUp.blockAnswers 2 = true ∧ 2 < 0x4000000 ∧ (2 : Nat) % 4 ≠ 0) ∧
    (tUp.blockAnswers 0x200004 = true ∧ 0x200004 < 0x4000000 ∧ (64 : Nat) ≠ 32) := by
  refine ⟨⟨_, rfl⟩, ?_, ?_⟩ <;> decide +kernel

/-- The hypotheses of BurstRegister: the largest value taken, with and without a reserved bit, and the smallest refused. -/
theorem wit_BurstRegister :
    writable tUp 0x200004 ∧ (5000#32).toNat % 8192 ≤ 5000 ∧ (13192#32).toNat % 8192 ≤ 5000 ∧ 5000 < (5001#32).toNat % 8192 := by
  and_intros <;> decide +kernel

/-- The hypotheses of StepKeepsCanonical. -/
theorem wit_StepKeepsCanonical : canonical { tFab with pending := [.aoTick] } ∧ ∃ t, step { tFab with pending := [.aoTick] } = .next t :=
  ⟨by decide +kernel, _, rfl⟩

/-- The hypothesis of FusesAreOneWay. -/
theorem wit_FusesAreOneWay : ∃ t, step { tUp with pending := [.svnBurn .host 0 0x80000000] } = .next t := ⟨_, rfl⟩

/-! ### Tokens and manifests that pass (under a signature that passes: the check itself is a free function, log 45) -/

/-- A token (R561) of a command for this device at boot count 0: signer, grants, flags, identity digest and key as given, the nonce and the
signature zeros. -/
def tToken (cmd signer grants flags : Nat) (idd key : List Byte) : List Byte :=
  [1, 0, BitVec.ofNat 8 cmd, BitVec.ofNat 8 signer] ++ toBytesLE 8 (Config.serial 0) ++ zeros 4 ++ [BitVec.ofNat 8 grants, BitVec.ofNat 8 flags] ++
    zeros 14 ++ zeros 32 ++ idd ++ key ++ zeros 3312

/-- The device with that token under check, of a lifecycle and an owner, the store's gate open or closed. -/
def tAcc (life : Nat) (owner : Option (List Byte)) (gate : Bool) (tok : List Byte) : State :=
  { (tSec life { Sec.reset with token := some (tok, .host), nonce := some (zeros 32), owner }).setRb Reg.KEY_PST_STATUS 1 gate with trg := [] }

/-- The signature of a token passes under the key that its signer's claim names. -/
abbrev tSigned (s : State) (tok : List Byte) : Prop :=
  Config.verify (if bfld tok 3 1 = 0 then Config.authKey else s.sec.owner.getD []) (tok.take 2080) ((tok.drop 2080).take 3309) = true

/-- A token passes whose fields are right and whose signature passes. -/
theorem tokenResult_one (s : State) (tok : List Byte) (hf : tokenFormOk tok = true)
    (hs : (tok.drop 4).take 8 = toBytesLE 8 (Config.serial 0)) (hb : bfld tok 12 4 = s.boot % 2 ^ 32)
    (hn : s.sec.nonce = some ((tok.drop 32).take 32)) (hp : tokenPermitted s.lifecycle (bfld tok 2 1) (bfld tok 3 1) = true)
    (hk : bfld tok 2 1 = 3 ∨ (tok.drop 128).take 1952 = (if bfld tok 3 1 = 0 then Config.authKey else s.sec.owner.getD []))
    (hv : tSigned s tok) : s.tokenResult tok = 1 := by
  have hser : bfld tok 4 8 = Config.serial 0 % 2 ^ 64 := by rw [bfld, hs, ofBytesLE_toBytesLE]; norm_num
  have hkey : (decide (bfld tok 2 1 ≠ 3) &&
      decide ((tok.drop 128).take 1952 ≠ if bfld tok 3 1 = 0 then Config.authKey else s.sec.owner.getD [])) = false := by
    rcases hk with hk | hk <;> simp [hk]
  simp only [State.tokenResult, hf, hser, hb, hn, hp, hkey, show Config.verify _ _ _ = true from hv]
  simp

/-- 64 bytes of SHAKE256 are 64 bytes. -/
theorem length_shake256 (bs : List Byte) : (shake256 bs 64).length = 64 := by
  have rounds : ∀ (l : List Word64) (a : List Word64), a.length = 25 →
      (l.foldl (fun a rc => keccakChiIota rc (keccakRhoPi (keccakTheta a))) a).length = 25 := by
    intro l
    induction l with
    | nil => intro a h; exact h
    | cons rc l ih => intro a _; exact ih _ (by simp [keccakChiIota, lanesOf])
  have blk : ∀ (n : Nat) (a : List Word64) (bs : List Byte), a.length = 25 → (keccakBlocks n a bs).length = 25 := by
    intro n
    induction n with
    | zero => intro a bs h; exact h
    | succ n ih =>
      intro a bs _
      refine ih _ _ (rounds _ _ ?_)
      simp [keccakAbsorb, lanesOf]
  have h := blk ((shakePad bs).length / 136) (List.replicate 25 0) (shakePad bs) (by simp)
  simp only [shake256]
  generalize keccakBlocks ((shakePad bs).length / 136) (List.replicate 25 0) (shakePad bs) = a at h
  simp [List.length_flatMap, h]

/-- A part of a list within its first part. -/
theorem bfld_append (a b : List Byte) (k n : Nat) (h : k + n ≤ a.length) : bfld (a ++ b) k n = bfld a k n := by
  rw [bfld, bfld, List.drop_append_of_le_length (by omega), List.take_append_of_le_length (by simp; omega)]

/-- A token that names the owner of the key it carries has the form of a CLAIM. -/
theorem tokenFormOk_claim (key : List Byte) (hk : key.length = 1952) : tokenFormOk (tToken 3 0 0 0 (shake256 key 64) key) = true := by
  have hd := length_shake256 key
  generalize hA : [1, 0, BitVec.ofNat 8 3, BitVec.ofNat 8 0] ++ toBytesLE 8 (Config.serial 0) ++ zeros 4 ++ [BitVec.ofNat 8 0, BitVec.ofNat 8 0] ++
    zeros 14 ++ zeros 32 = A
  have la : A.length = 64 := by rw [← hA]; simp [zeros]
  have e : tToken 3 0 0 0 (shake256 key 64) key = A ++ (shake256 key 64 ++ (key ++ zeros 3312)) := by
    rw [← hA]; simp only [tToken, List.append_assoc]
  have low : ∀ k n, k + n ≤ 64 → bfld (A ++ (shake256 key 64 ++ (key ++ zeros 3312))) k n = bfld A k n :=
    fun k n h => bfld_append _ _ k n (by omega)
  have d64 : (A ++ (shake256 key 64 ++ (key ++ zeros 3312))).drop 64 = shake256 key 64 ++ (key ++ zeros 3312) := List.drop_left' la
  have d128 : (A ++ (shake256 key 64 ++ (key ++ zeros 3312))).drop 128 = key ++ zeros 3312 := by
    rw [show (128 : Nat) = 64 + 64 from rfl, ← List.drop_drop, d64]; exact List.drop_left' hd
  have d5389 : (A ++ (shake256 key 64 ++ (key ++ zeros 3312))).drop 5389 = zeros 3 := by
    rw [show (5389 : Nat) = 128 + (1952 + 3309) from rfl, ← List.drop_drop, d128, ← List.drop_drop, List.drop_left' hk]; simp [zeros]
  have t64 : ((A ++ (shake256 key 64 ++ (key ++ zeros 3312))).drop 64).take 64 = shake256 key 64 := by rw [d64]; exact List.take_left' hd
  have t128 : ((A ++ (shake256 key 64 ++ (key ++ zeros 3312))).drop 128).take 1952 = key := by rw [d128]; exact List.take_left' hk
  have len : (A ++ (shake256 key 64 ++ (key ++ zeros 3312))).length = 5392 := by simp [la, hd, hk, zeros]
  have z : bfld (A ++ (shake256 key 64 ++ (key ++ zeros 3312))) 5389 3 = 0 := by rw [bfld, d5389]; rfl
  have h0 : bfld A 0 2 = 1 ∧ bfld A 2 1 = 3 ∧ bfld A 16 1 = 0 ∧ bfld A 17 1 = 0 ∧ bfld A 18 14 = 0 := by
    rw [← hA]; decide +kernel
  rw [e]
  simp [tokenFormOk, low, len, t64, t128, z, h0]

/-- The hypotheses of TokenResults, an accepted token: DEBUG_OBSERVE by the owner. -/
theorem wit_TokenResults_accepted_1 (h : tSigned (tAcc 2 (some (zeros 1952)) true (tToken 1 1 5 0 (zeros 64) (zeros 1952))) (tToken 1 1 5 0 (zeros 64) (zeros 1952))) :
    let s := tAcc 2 (some (zeros 1952)) true (tToken 1 1 5 0 (zeros 64) (zeros 1952))
    s.sec.token = some (tToken 1 1 5 0 (zeros 64) (zeros 1952), .host) ∧ s.dieUp dieK = true ∧ s.tokenResult (tToken 1 1 5 0 (zeros 64) (zeros 1952)) = 1 ∧ quietLog s ∧
      bfld (tToken 1 1 5 0 (zeros 64) (zeros 1952)) 2 1 = 1 := by
  have e : ((tAcc 2 (some (zeros 1952)) true (tToken 1 1 5 0 (zeros 64) (zeros 1952))) : State).tokenResult (tToken 1 1 5 0 (zeros 64) (zeros 1952)) = 1 := by
    refine tokenResult_one _ _ ?_ rfl ?_ ?_ ?_ ?_ h
    · decide +kernel
    · decide +kernel
    · decide +kernel
    · decide +kernel
    · exact .inr (by decide +kernel)
  refine ⟨rfl, by decide +kernel, e, by decide +kernel, by decide +kernel⟩

/-- The hypotheses of TokenResults, an accepted token: DEBUG_INVASIVE of a grant of 255 boots. -/
theorem wit_TokenResults_accepted_2 (h : tSigned (tAcc 1 none true (tToken 2 0 255 0 (zeros 64) Config.authKey)) (tToken 2 0 255 0 (zeros 64) Config.authKey)) :
    let s := tAcc 1 none true (tToken 2 0 255 0 (zeros 64) Config.authKey)
    s.sec.token = some (tToken 2 0 255 0 (zeros 64) Config.authKey, .host) ∧ s.dieUp dieK = true ∧ s.tokenResult (tToken 2 0 255 0 (zeros 64) Config.authKey) = 1 ∧ quietLog s ∧
      bfld (tToken 2 0 255 0 (zeros 64) Config.authKey) 2 1 = 2 ∧ s.sec.level ≠ 2 := by
  have e : ((tAcc 1 none true (tToken 2 0 255 0 (zeros 64) Config.authKey)) : State).tokenResult (tToken 2 0 255 0 (zeros 64) Config.authKey) = 1 := by
    refine tokenResult_one _ _ ?_ rfl ?_ ?_ ?_ ?_ h
    · decide +kernel
    · decide +kernel
    · decide +kernel
    · decide +kernel
    · exact .inr rfl
  refine ⟨rfl, by decide +kernel, e, by decide +kernel, by decide +kernel, by decide +kernel⟩

/-- The hypotheses of TokenResults, an accepted token: CLAIM, the gate open. -/
theorem wit_TokenResults_accepted_3 (h : tSigned (tAcc 1 none true (tToken 3 0 0 0 (shake256 (zeros 1952) 64) (zeros 1952))) (tToken 3 0 0 0 (shake256 (zeros 1952) 64) (zeros 1952))) :
    let s := tAcc 1 none true (tToken 3 0 0 0 (shake256 (zeros 1952) 64) (zeros 1952))
    s.sec.token = some (tToken 3 0 0 0 (shake256 (zeros 1952) 64) (zeros 1952), .host) ∧ s.dieUp dieK = true ∧ s.tokenResult (tToken 3 0 0 0 (shake256 (zeros 1952) 64) (zeros 1952)) = 1 ∧ quietLog s ∧
      bfld (tToken 3 0 0 0 (shake256 (zeros 1952) 64) (zeros 1952)) 2 1 = 3 ∧ s.gateOpen = true := by
  have e : ((tAcc 1 none true (tToken 3 0 0 0 (shake256 (zeros 1952) 64) (zeros 1952))) : State).tokenResult (tToken 3 0 0 0 (shake256 (zeros 1952) 64) (zeros 1952)) = 1 := by
    refine tokenResult_one _ _ ?_ rfl ?_ ?_ ?_ ?_ h
    · exact tokenFormOk_claim _ (by decide +kernel)
    · decide +kernel
    · decide +kernel
    · decide +kernel
    · exact .inl (by decide +kernel)
  refine ⟨rfl, by decide +kernel, e, by decide +kernel, by decide +kernel, by decide +kernel⟩

/-- The hypotheses of TokenResults, an accepted token: CLAIM, the gate closed. -/
theorem wit_TokenResults_accepted_4 (h : tSigned (tAcc 1 none false (tToken 3 0 0 0 (shake256 (zeros 1952) 64) (zeros 1952))) (tToken 3 0 0 0 (shake256 (zeros 1952) 64) (zeros 1952))) :
    let s := tAcc 1 none false (tToken 3 0 0 0 (shake256 (zeros 1952) 64) (zeros 1952))
    s.sec.token = some (tToken 3 0 0 0 (shake256 (zeros 1952) 64) (zeros 1952), .host) ∧ s.dieUp dieK = true ∧ s.tokenResult (tToken 3 0 0 0 (shake256 (zeros 1952) 64) (zeros 1952)) = 1 ∧ quietLog s ∧
      bfld (tToken 3 0 0 0 (shake256 (zeros 1952) 64) (zeros 1952)) 2 1 = 3 ∧ s.gateOpen = false := by
  have e : ((tAcc 1 none false (tToken 3 0 0 0 (shake256 (zeros 1952) 64) (zeros 1952))) : State).tokenResult (tToken 3 0 0 0 (shake256 (zeros 1952) 64) (zeros 1952)) = 1 := by
    refine tokenResult_one _ _ ?_ rfl ?_ ?_ ?_ ?_ h
    · exact tokenFormOk_claim _ (by decide +kernel)
    · decide +kernel
    · decide +kernel
    · decide +kernel
    · exact .inl (by decide +kernel)
  refine ⟨rfl, by decide +kernel, e, by decide +kernel, by decide +kernel, by decide +kernel⟩

/-- The hypotheses of TokenResults, an accepted token: RELEASE. -/
theorem wit_TokenResults_accepted_5 (h : tSigned (tAcc 2 (some (zeros 1952)) true (tToken 4 1 0 0 (zeros 64) (zeros 1952))) (tToken 4 1 0 0 (zeros 64) (zeros 1952))) :
    let s := tAcc 2 (some (zeros 1952)) true (tToken 4 1 0 0 (zeros 64) (zeros 1952))
    s.sec.token = some (tToken 4 1 0 0 (zeros 64) (zeros 1952), .host) ∧ s.dieUp dieK = true ∧ s.tokenResult (tToken 4 1 0 0 (zeros 64) (zeros 1952)) = 1 ∧ quietLog s ∧
      bfld (tToken 4 1 0 0 (zeros 64) (zeros 1952)) 2 1 = 4 ∧ s.gateOpen = true := by
  have e : ((tAcc 2 (some (zeros 1952)) true (tToken 4 1 0 0 (zeros 64) (zeros 1952))) : State).tokenResult (tToken 4 1 0 0 (zeros 64) (zeros 1952)) = 1 := by
    refine tokenResult_one _ _ ?_ rfl ?_ ?_ ?_ ?_ h
    · decide +kernel
    · decide +kernel
    · decide +kernel
    · decide +kernel
    · exact .inr (by decide +kernel)
  refine ⟨rfl, by decide +kernel, e, by decide +kernel, by decide +kernel, by decide +kernel⟩

/-- The hypotheses of TokenResults, an accepted token: RETURN. -/
theorem wit_TokenResults_accepted_6 (h : tSigned (tAcc 1 none true (tToken 5 0 0 0 (zeros 64) Config.authKey)) (tToken 5 0 0 0 (zeros 64) Config.authKey)) :
    let s := tAcc 1 none true (tToken 5 0 0 0 (zeros 64) Config.authKey)
    s.sec.token = some (tToken 5 0 0 0 (zeros 64) Config.authKey, .host) ∧ s.dieUp dieK = true ∧ s.tokenResult (tToken 5 0 0 0 (zeros 64) Config.authKey) = 1 ∧ quietLog s ∧
      bfld (tToken 5 0 0 0 (zeros 64) Config.authKey) 2 1 = 5 := by
  have e : ((tAcc 1 none true (tToken 5 0 0 0 (zeros 64) Config.authKey)) : State).tokenResult (tToken 5 0 0 0 (zeros 64) Config.authKey) = 1 := by
    refine tokenResult_one _ _ ?_ rfl ?_ ?_ ?_ ?_ h
    · decide +kernel
    · decide +kernel
    · decide +kernel
    · decide +kernel
    · exact .inr rfl
  refine ⟨rfl, by decide +kernel, e, by decide +kernel, by decide +kernel⟩

/-- The hypotheses of TokenResults, an accepted token: SCRAP. -/
theorem wit_TokenResults_accepted_7 (h : tSigned (tAcc 2 (some (zeros 1952)) true (tToken 6 1 0 0 (zeros 64) (zeros 1952))) (tToken 6 1 0 0 (zeros 64) (zeros 1952))) :
    let s := tAcc 2 (some (zeros 1952)) true (tToken 6 1 0 0 (zeros 64) (zeros 1952))
    s.sec.token = some (tToken 6 1 0 0 (zeros 64) (zeros 1952), .host) ∧ s.dieUp dieK = true ∧ s.tokenResult (tToken 6 1 0 0 (zeros 64) (zeros 1952)) = 1 ∧ quietLog s ∧
      bfld (tToken 6 1 0 0 (zeros 64) (zeros 1952)) 2 1 = 6 := by
  have e : ((tAcc 2 (some (zeros 1952)) true (tToken 6 1 0 0 (zeros 64) (zeros 1952))) : State).tokenResult (tToken 6 1 0 0 (zeros 64) (zeros 1952)) = 1 := by
    refine tokenResult_one _ _ ?_ rfl ?_ ?_ ?_ ?_ h
    · decide +kernel
    · decide +kernel
    · decide +kernel
    · decide +kernel
    · exact .inr (by decide +kernel)
  refine ⟨rfl, by decide +kernel, e, by decide +kernel, by decide +kernel⟩

/-- The hypotheses of TokenResults, an accepted token: POLICY. -/
theorem wit_TokenResults_accepted_8 (h : tSigned (tAcc 2 (some (zeros 1952)) true (tToken 7 1 0 1 (zeros 64) (zeros 1952))) (tToken 7 1 0 1 (zeros 64) (zeros 1952))) :
    let s := tAcc 2 (some (zeros 1952)) true (tToken 7 1 0 1 (zeros 64) (zeros 1952))
    s.sec.token = some (tToken 7 1 0 1 (zeros 64) (zeros 1952), .host) ∧ s.dieUp dieK = true ∧ s.tokenResult (tToken 7 1 0 1 (zeros 64) (zeros 1952)) = 1 ∧ quietLog s ∧
      bfld (tToken 7 1 0 1 (zeros 64) (zeros 1952)) 2 1 = 7 ∧ s.gateOpen = true := by
  have e : ((tAcc 2 (some (zeros 1952)) true (tToken 7 1 0 1 (zeros 64) (zeros 1952))) : State).tokenResult (tToken 7 1 0 1 (zeros 64) (zeros 1952)) = 1 := by
    refine tokenResult_one _ _ ?_ rfl ?_ ?_ ?_ ?_ h
    · decide +kernel
    · decide +kernel
    · decide +kernel
    · decide +kernel
    · exact .inr (by decide +kernel)
  refine ⟨rfl, by decide +kernel, e, by decide +kernel, by decide +kernel, by decide +kernel⟩

/-- A manifest (R551) of four images of no bytes, one a class, of factory firmware. -/
def tManifest : List Byte :=
  [1, 0, 2, 4] ++ toBytesLE 4 448 ++ toBytesLE 8 77 ++ zeros 8 ++ zeros 40 ++
    (List.range 4).flatMap fun c => [BitVec.ofNat 8 c] ++ zeros 15 ++ shake256 [] 64 ++ zeros 16

/-- A manifest passes whose form and flags are right, whose versions reach their floors and whose signature passes. -/
theorem manCheck_zero (s : State) (m : List Byte) (hf : manFormOk m = true)
    (hv : Config.verify Config.fwKey (m.take (manLen m)) ((m.drop (manLen m)).take 3309) = true) (hc : s.sec.countersign = false)
    (hl : factoryOk s.lifecycle (bfld m 2 1) = true) (hs : ((List.range 4).any fun c => decide (manSvn m c < s.svnFloor c)) = false) :
    s.manCheck m = 0 := by
  simp only [State.manCheck, hf, hv, hc, hl, hs]; simp

/-- A ROM that waits, of a BLANK part. -/
def tRom : State := tSec 0 { Sec.reset with romWaits := true }

/-- The hypotheses of AttestationAndDebugResults, an accepted manifest. -/
theorem wit_AttestationAndDebugResults_accepted
    (h : Config.verify Config.fwKey (tManifest.take (manLen tManifest)) ((tManifest.drop (manLen tManifest)).take 3309) = true) :
    writable tRom Reg.SEC_FW_ADDR_LO ∧ tRom.sec.romWaits = true ∧ (4096#32).toNat % 4096 = 0 ∧ tRom.manCheck tManifest = 0 ∧
      manClassOk tManifest 0 = true := by
  refine ⟨by decide +kernel, rfl, rfl, manCheck_zero _ _ (by decide +kernel) h rfl (by decide +kernel) (by decide +kernel), by decide +kernel⟩

/-- The hypotheses of PowerAndColdResetResults, an accepted manifest. -/
theorem wit_PowerAndColdResetResults_accepted
    (h : Config.verify Config.fwKey (tManifest.take (manLen tManifest)) ((tManifest.drop (manLen tManifest)).take 3309) = true) :
    let s := tRails [0, 1, 2, 3, 4] [] State.reset
    (List.range 5).all (tget false s.pwr.good) = true ∧ s.nrg.trip = none ∧ s.fuses.lifecycle = 0 ∧ s.pwr.started = false ∧ s.pwr.due = 0 ∧
      (s.romStart true false).manCheck tManifest = 0 ∧ ∀ c, c < 4 → manClassOk tManifest c = true := by
  refine ⟨rfl, rfl, rfl, rfl, rfl, manCheck_zero _ _ (by decide +kernel) h ?_ ?_ ?_, by decide +kernel⟩ <;> decide +kernel

/-! ### A calibration image (R308) -/

/-- The header of an image for this device. -/
def tCalHead : List Byte :=
  toBytesLE 2 1 ++ [0, 0] ++ toBytesLE 4 calSize ++ toBytesLE 8 (Config.serial 1) ++ toBytesLE 8 (Config.serial 2) ++ toBytesLE 8 (Config.serial 3) ++
    zeros 28

/-- An image of zero records. -/
def tCalImage : List Byte := tCalHead ++ (toBytesLE 4 (crc32c (tCalHead ++ zeros (calSize - 64))).toNat ++ zeros (calSize - 64))

/-- A device that loads from `da`. -/
def tLoads (da : Nat) : State := (tCal 2 da).writeMem da tCalImage

theorem length_tCalHead : tCalHead.length = 60 := by simp [tCalHead, zeros]

theorem length_tCalImage : tCalImage.length = calSize := by
  have : calSize = 60 + (4 + (calSize - 64)) := by rfl
  rw [this]
  simp only [tCalImage, List.length_append, length_tCalHead, length_toBytesLE, zeros, List.length_replicate]

/-- The hypotheses of RingAndCalibrationResults: the load of an image that is none for this device (an empty memory), and of one that is. -/
theorem wit_RingAndCalibrationResults_loads :
    ((tCal 2 0).optics.calOp = some (2, 0, .host) ∧ (tCal 2 0).calm 0 calSize = true ∧ (tCal 2 0).calCheck ((tCal 2 0).viewNow .clear) 0 ≠ 0 ∧
      (tCal 2 0).calCheck ((tCal 2 0).viewNow .clear) 0 ≠ 5) ∧
    ((tLoads 0).optics.calOp = some (2, 0, .host) ∧ (tLoads 0).calm 0 calSize = true ∧
      (tLoads 0).calCheck ((tLoads 0).viewNow .clear) 0 = 0) := by
  have c1 : (tCal 2 0).calm 0 calSize = true := State.calm_of_still _ _ _ (State.still_of_flight _ _ _ (by decide +kernel))
  have c2 : (tLoads 0).calm 0 calSize = true := State.calm_of_still _ _ _ (State.still_of_flight _ _ _ (by decide +kernel))
  have p1 : (tCal 2 0).poisonRange 0 calSize = false := by decide +kernel
  have p2 : (tLoads 0).poisonRange 0 calSize = false := by decide +kernel
  have r1 : (tCal 2 0).readPE ((tCal 2 0).viewNow .clear) 0 calSize = zeros calSize := by
    rw [State.readPE_calm _ _ _ c1]; exact readMem_zeros _ _ _ (by decide +kernel)
  have r2 : (tLoads 0).readPE ((tLoads 0).viewNow .clear) 0 calSize = tCalImage := by
    rw [State.readPE_calm _ _ _ c2, ← length_tCalImage]; exact State.readMem_writeMem _ _ _
  have z : bfld (zeros calSize) 0 2 = 0 := by
    rw [bfld, List.drop_zero, zeros, List.take_replicate]; rfl
  have e1 : (tCal 2 0).calCheck ((tCal 2 0).viewNow .clear) 0 = 2 := by
    simp only [State.calCheck, r1, p1, z]; simp
  have low : ∀ k n, k + n ≤ 60 → bfld tCalImage k n = bfld tCalHead k n := fun k n h => bfld_append _ _ k n (by rw [length_tCalHead]; exact h)
  have d60 : tCalImage.drop 60 = toBytesLE 4 (crc32c (tCalHead ++ zeros (calSize - 64))).toNat ++ zeros (calSize - 64) := List.drop_left' length_tCalHead
  have d64 : tCalImage.drop 64 = zeros (calSize - 64) := by
    rw [show (64 : Nat) = 60 + 4 from rfl, ← List.drop_drop, d60]; exact List.drop_left' (length_toBytesLE _ _)
  have crc : bfld tCalImage 60 4 = (crc32c (tCalHead ++ zeros (calSize - 64))).toNat := by
    rw [bfld, d60, List.take_left' (length_toBytesLE _ _), ofBytesLE_toBytesLE]
    exact Nat.mod_eq_of_lt (BitVec.isLt _)
  have t60 : tCalImage.take 60 = tCalHead := List.take_left' length_tCalHead
  have f0 : bfld tCalHead 0 2 = 1 := by decide +kernel
  have f4 : bfld tCalHead 4 4 = calSize := by decide +kernel
  have f8 : bfld tCalHead 8 8 = Config.serial 1 % 2 ^ 64 := by
    rw [bfld, show (tCalHead.drop 8).take 8 = toBytesLE 8 (Config.serial 1) from rfl, ofBytesLE_toBytesLE]; norm_num
  have f16 : bfld tCalHead 16 8 = Config.serial 2 % 2 ^ 64 := by
    rw [bfld, show (tCalHead.drop 16).take 8 = toBytesLE 8 (Config.serial 2) from rfl, ofBytesLE_toBytesLE]; norm_num
  have f24 : bfld tCalHead 24 8 = Config.serial 3 % 2 ^ 64 := by
    rw [bfld, show (tCalHead.drop 24).take 8 = toBytesLE 8 (Config.serial 3) from rfl, ofBytesLE_toBytesLE]; norm_num
  have e2 : (tLoads 0).calCheck ((tLoads 0).viewNow .clear) 0 = 0 := by
    simp only [State.calCheck, r2, p2, low 0 2 (by omega), low 4 4 (by omega), low 8 8 (by omega), low 16 8 (by omega), low 24 8 (by omega),
      f0, f4, f8, f16, f24, crc, t60, d64]
    simp
  exact ⟨⟨by rfl, c1, by rw [e1]; decide, by rw [e1]; decide⟩, by rfl, c2, e2⟩

/-! ### A training set that hears this port (R365, R370) -/

/-- A TS1 of the peer's port 9 on its line 2, at position 2, that hears port 15 of the device of a tag. -/
def tHeardBytes (tag : Nat) : List Byte := slotBytes ([0x33, 1, 9, 2, 2, 2] ++ zeros 11 ++ [0x8F] ++ toBytesLE 8 tag ++ zeros 4)

/-- Its block. -/
def tHeardBlock (s : State) : BitVec 258 := (sendBlock ((s.port 15).fl 2).rx.scr true (ofBytesBE (tHeardBytes s.devTag))).2

/-- What a port in training makes of it. -/
theorem tHeard_got (s : State) (hl : ((s.port 15).fl 2).noLock = false) (hh : ((s.port 15).fl 2).rx.hdrs = 0) :
    let got := ((s.port 15).fl 2).fiberBlock (tHeardBlock s).toNat
    got.1.noLock = false ∧ got.2 = (true, tHeardBytes s.devTag) ∧ slotOk (tHeardBytes s.devTag) = true ∧ bfld (tHeardBytes s.devTag) 0 1 = 0x33 ∧
      (portTsOf (tHeardBytes s.devTag)).line = 2 ∧ (portTsOf (tHeardBytes s.devTag)).heardValid = true ∧
      (portTsOf (tHeardBytes s.devTag)).heardPort = 15 ∧ (portTsOf (tHeardBytes s.devTag)).heardTag = s.devTag := by
  have len : (tHeardBytes s.devTag).length = 32 := by simp [tHeardBytes, slotBytes]
  have lt : ofBytesBE (tHeardBytes s.devTag) < 2 ^ 256 := by
    have := ofBytesBE_lt (tHeardBytes s.devTag); rw [len] at this; exact Nat.lt_of_lt_of_eq this (by norm_num)
  refine ⟨BLane.fiberBlock_locked _ _ _ hl hh, ?_, slotOk_slotBytes _, by rfl, by rfl, by rfl, ?_, ?_⟩
  · rw [tHeardBlock, BLane.fiberBlock_sendBlock _ _ _ lt, ← len, toBytesBE_ofBytesBE]
  · show bfld (tHeardBytes s.devTag) 17 1 % 128 = 15
    rw [show bfld (tHeardBytes s.devTag) 17 1 = 0x8F from rfl]
  · show bfld (tHeardBytes s.devTag) 18 8 = s.devTag
    rw [bfld, show ((tHeardBytes s.devTag).drop 18).take 8 = toBytesLE 8 s.devTag from rfl, ofBytesLE_toBytesLE]
    refine Nat.mod_eq_of_lt (Nat.lt_of_lt_of_le (ofBytesLE_lt _) (Nat.pow_le_pow_right (by omega) ?_))
    exact List.length_take_le _ _

/-- In training, in large-fabric mode or in small-fabric mode. -/
def tTrains27 (small : Bool) : State := { tPort (tTrain false) with fuses := { tUp.fuses with smallFabric := small } }

/-- The hypotheses of PortTrainingResults: a TS1 that hears this port, on its own fiber, and on another in each mode. -/
theorem wit_PortTrainingResults_heard (small : Bool) :
    let s := tTrains27 small
    let c := (((s.port 15).fl 2).fiberBlock (tHeardBlock s).toNat).2.2
    (s.port 15).state = .train ∧ (s.port 15).retraining = false ∧ s.portDie 15 = true ∧ 7 < 8 ∧ 6 < 8 ∧ 2 < 34 ∧
      (!(((s.port 15).fl 2).fiberBlock (tHeardBlock s).toNat).1.noLock && (((s.port 15).fl 2).fiberBlock (tHeardBlock s).toNat).2.1 && slotOk c) = true ∧
      bfld c 0 1 = 0x33 ∧ (portTsOf c).line < 34 ∧
      ((portTsOf c).heardValid && decide ((portTsOf c).heardPort = 15) && decide ((portTsOf c).heardTag = s.devTag)) = true ∧
      7 = 15 % 8 ∧ 6 ≠ 15 % 8 ∧ s.fuses.smallFabric = small ∧ graceOn s 15 := by
  obtain ⟨h1, h2, h3, h4, h5, h6, h7, h8⟩ := tHeard_got (tTrains27 small) (by cases small <;> rfl) (by cases small <;> rfl)
  refine ⟨?_, ?_, ?_, by omega, by omega, by omega, ?_, ?_, ?_, ?_, rfl, by omega, rfl, ?_⟩
  · cases small <;> rfl
  · cases small <;> rfl
  · cases small <;> decide +kernel
  · rw [h1, h2, h3]; rfl
  · rw [h2]; exact h4
  · rw [h2, h5]; omega
  · rw [h2, h6, h7, h8]; simp
  · cases small <;> decide +kernel

end Sys2Proof.Tests
end

section
/-! PROOF. The state right after reset. -/

namespace Sys2Proof.Machine

/-- No heater of the Bed draws power right after reset, so the free share of BED_REGION_CTL's measurement is zero. -/
theorem State.reset_regionHeaters : State.reset.regionHeaters = 0 := by decide +kernel

/-- BED_REGION_CTL right after reset: its reset value, measured at zero (R277). -/
theorem State.reset_view_regionCtl : State.reset.view Reg.BED_REGION_CTL = 1 := by
  have hview : State.reset.view Reg.BED_REGION_CTL =
      (State.reset.reg Reg.BED_REGION_CTL).setFld 16 16 (State.reset.freeVal % (300 * State.reset.regionHeaters + 1)) := rfl
  rw [hview, State.reset_regionHeaters, Nat.mul_zero, Nat.zero_add, Nat.mod_one]
  decide +kernel

/-- No die runs right after reset. -/
theorem State.reset_dieUp (d : Nat) : State.reset.dieUp d = false := rfl

/-- No rail is good right after reset. -/
theorem State.reset_good (g : Nat) : tget false State.reset.pwr.good g = false := rfl

/-- The canonical forms hold right after reset. -/
theorem State.reset_canonical : canonical State.reset := by decide

/-- Settles O57: every value is computed from the tables but the one that shows a measurement. -/
theorem resetState : Obligations.ResetState := by
  refine ⟨State.reset_canonical, rfl, rfl, rfl, State.reset_dieUp, State.reset_good, ?_⟩
  simp only [List.forall_mem_cons, State.reset_view_regionCtl]
  decide +kernel

end Sys2Proof.Machine
end

section
/-! PROOF. The register map: what `regAt` says of an offset. -/

namespace Sys2Proof.Machine

/-- An offset that a description covers stands at one of its places (i, j), none beyond the last. -/
theorem RegDesc.covers_elim (d : RegDesc) (off : Nat) (h : d.covers off = true) :
    off ≤ d.base + (d.n1 - 1) * d.s1 + (d.n2 - 1) * d.s2 ∧ ∃ i j, off = d.base + i * d.s1 + j * d.s2 := by
  simp only [RegDesc.covers, Bool.and_eq_true, decide_eq_true_eq, List.any_eq_true, Bool.or_eq_true, beq_iff_eq] at h
  obtain ⟨⟨-, hle⟩, i, -, hi, hj⟩ := h
  refine ⟨hle, i, (off - (d.base + i * d.s1)) / d.s2, ?_⟩
  obtain hj | ⟨⟨-, hmod⟩, -⟩ := hj
  · rw [hj, Nat.zero_div]; omega
  · rw [Nat.div_mul_cancel (Nat.dvd_of_mod_eq_zero hmod)]; omega

/-- Every description of the map starts at an aligned offset, has aligned strides and ends inside the 64 MiB of BAR0. -/
theorem regTable_aligned : ∀ d ∈ regTable, d.base % 4 = 0 ∧ d.s1 % 4 = 0 ∧ d.s2 % 4 = 0 ∧
    d.base + (d.n1 - 1) * d.s1 + (d.n2 - 1) * d.s2 < 0x4000000 := by decide +kernel

/-- Every register sits at an aligned offset of BAR0 (R9). -/
theorem regAt_aligned {off : Nat} {d : RegDesc} (h : regAt off = some d) : off % 4 = 0 ∧ off < 0x4000000 := by
  obtain ⟨hb, h1, h2, hend⟩ := regTable_aligned d (List.mem_of_find?_eq_some h)
  obtain ⟨hle, i, j, rfl⟩ := d.covers_elim off (by simpa using List.find?_some h)
  refine ⟨?_, by omega⟩
  simp [Nat.add_mod, Nat.mul_mod, hb, h1, h2]

/-- A write of another width than 32 bits, or at an unaligned offset, does nothing but count (R9). -/
theorem State.writeReg_odd (s : State) (o : Origin) (dev off width : Nat) (v : Word) (hb : s.blockAnswers off = true) (hoff : off < 0x4000000)
    (hodd : width ≠ 32 ∨ off % 4 ≠ 0) : s.writeReg o dev off width v = s.bump Reg.KEY_RSVD_WRITES := by
  rw [State.writeReg, if_neg (by simp [hb, hoff]), if_pos hodd]

/-- A read of another width than 32 bits, or at an unaligned offset, does nothing but count, and shows zero (R9). -/
theorem State.readReg_odd (s : State) (off width : Nat) (hb : s.blockAnswers off = true) (hodd : width ≠ 32 ∨ off % 4 ≠ 0) :
    s.readReg off width = (s.bump Reg.KEY_RSVD_WRITES, 0) := by
  rw [State.readReg, if_neg (by simp [hb]), if_pos hodd]

/-- Settles O55. -/
theorem registerAccessWidth : Obligations.RegisterAccessWidth :=
  ⟨fun _ _ => regAt_aligned, fun o off width v hw s hb hoff hodd =>
    ⟨congrArg _ (s.writeReg_odd o 0 off width (s.yield off v hw) hb hoff hodd), s.readReg_odd off width hb hodd⟩⟩

end Sys2Proof.Machine
end

section
/-! PROOF. What a write comes to by a register's fields alone: the values of R13 and R14, and the masks of R11 and R575. -/

namespace Sys2Proof.Machine

/-- Every field of a register has the one access code. -/
def RegDesc.only (d : RegDesc) (a : Access) : Bool := d.flds.all (·.acc = a)

theorem RegDesc.acc_of_only {d : RegDesc} {a : Access} (h : d.only a = true) {f : Fld} (hf : f ∈ d.flds) : f.acc = a := by
  simpa using List.all_eq_true.mp h f hf

/-- The fields' shares of a word make up the word under the register's mask. -/
theorem foldl_or_and_mask (g a : Word) (fs : List Fld) :
    fs.foldl (fun x f => x ||| (g &&& f.mask)) (g &&& a) = g &&& fs.foldl (fun m f => m ||| f.mask) a := by
  induction fs generalizing a with
  | nil => rfl
  | cons f fs ih =>
    have hor : g &&& a ||| g &&& f.mask = g &&& (a ||| f.mask) := by ext i; simp [Bool.and_or_distrib_left]
    rw [List.foldl_cons, List.foldl_cons, hor, ih]

/-- Where every field takes its bits of one word, so does the register. -/
theorem RegDesc.eff_eq {d : RegDesc} {lk : Bool} {cur v : Word} (g : Word) (h : ∀ f ∈ d.flds, f.eff lk cur v = g &&& f.mask) :
    d.eff lk cur v = g &&& d.mask := by
  have hfold : d.eff lk cur v = d.flds.foldl (fun x f => x ||| (g &&& f.mask)) 0 := by
    refine List.foldl_ext _ _ _ fun x f hf => ?_
    rw [h f hf]
  have hzero : (0 : Word) = g &&& 0 := BitVec.and_zero.symm
  rw [hfold, hzero, foldl_or_and_mask, RegDesc.mask]

/-- RW fields take what is written. -/
theorem RegDesc.eff_rw {d : RegDesc} (h : d.only .rw = true) (lk : Bool) (cur v : Word) : d.eff lk cur v = v &&& d.mask :=
  d.eff_eq v fun f hf => by simp [Fld.eff, acc_of_only h hf]

/-- W1S fields take a 1 where there was or is one. -/
theorem RegDesc.eff_w1s {d : RegDesc} (h : d.only .w1s = true) (lk : Bool) (cur v : Word) : d.eff lk cur v = (cur ||| v) &&& d.mask :=
  d.eff_eq (cur ||| v) fun f hf => by simp [Fld.eff, acc_of_only h hf]

/-- RWL fields stay while their block is locked. -/
theorem RegDesc.eff_rwl {d : RegDesc} (h : d.only .rwl = true) (cur v : Word) : d.eff true cur v = cur &&& d.mask :=
  d.eff_eq cur fun f hf => by simp [Fld.eff, acc_of_only h hf]

/-- A register without WO fields keeps all that took effect. -/
theorem RegDesc.keep_only {d : RegDesc} {a : Access} (h : d.only a = true) (ha : a ≠ .wo) (x : Word) : d.keep x = x := by
  have hnone : (d.flds.filter fun f => f.acc = .wo) = [] := by
    simp only [List.filter_eq_nil_iff, decide_eq_true_eq]
    intro f hf
    rw [acc_of_only h hf]; exact ha
  rw [RegDesc.keep, hnone, List.foldl_nil]
  exact BitVec.and_allOnes

/-- A register of another access code has no RWL field. -/
theorem RegDesc.hasRwl_only {d : RegDesc} {a : Access} (h : d.only a = true) (ha : a ≠ .rwl) : d.hasRwl = false := by
  simp only [RegDesc.hasRwl, List.any_eq_false, decide_eq_true_eq]
  intro f hf
  rw [acc_of_only h hf]; exact ha

/-- In an unlocked block every logged field is reached. -/
theorem RegDesc.logMaskAt_unlocked (d : RegDesc) : d.logMaskAt false = d.logMask := by simp [RegDesc.logMaskAt, RegDesc.logMask]

/-- In a locked block no RWL field is reached. -/
theorem RegDesc.logMaskAt_rwl {d : RegDesc} (h : d.only .rwl = true) : d.logMaskAt true = 0 := by
  have hnone : (d.flds.filter fun f => f.log && !(true && decide (f.acc = .rwl))) = [] := by
    simp only [List.filter_eq_nil_iff]
    intro f hf
    simp [acc_of_only h hf]
  rw [RegDesc.logMaskAt, hnone, List.foldl_nil]

/-- Where hardware changes nothing, a write is not altered (R14). -/
theorem State.yield_zero (s : State) (off : Nat) (v : Word) : s.yield off v 0 = v := by
  have hfold : ∀ (d : RegDesc) (cur : Word), d.yield 0 cur v = v := fun d cur => by
    rw [RegDesc.yield]
    exact foldl_keeps id _ (fun _ f => if_pos BitVec.and_zero) d.flds v
  unfold State.yield
  split
  · exact hfold _ _
  · rfl

/-- A word with no bit outside a mask is that word under the mask. -/
theorem and_mask_of_clean {v m : Word} (h : v &&& ~~~ m = 0) : v &&& m = v := by
  have hv : v = v &&& m ||| v &&& ~~~ m := by ext i; simp [← Bool.and_or_distrib_left]
  rw [h] at hv
  exact (hv.trans BitVec.or_zero).symm

/-- A word under a mask has no bit outside it. -/
theorem clean_of_and_mask (x m : Word) : x &&& m &&& ~~~ m = 0 := by
  rw [BitVec.and_assoc]
  have hm : m &&& ~~~ m = 0#32 := by ext i; simp
  rw [hm]; exact BitVec.and_zero

/-- A register all of whose fields have access code `a`, with the bits `m`, of which `lm` are logged. -/
def isReg (off : Nat) (a : Access) (m lm : Word) : Bool :=
  (regAt off).any fun d => d.only a && decide (d.mask = m) && decide (d.logMask = lm)

theorem regAt_of_isReg {off : Nat} {a : Access} {m lm : Word} (h : isReg off a m lm = true) :
    ∃ d, regAt off = some d ∧ d.only a = true ∧ d.mask = m ∧ d.logMask = lm := by
  cases hr : regAt off with
  | none => simp [isReg, hr] at h
  | some d =>
    simp only [isReg, hr, Option.any_some, Bool.and_eq_true, decide_eq_true_eq] at h
    obtain ⟨⟨ha, hm⟩, hl⟩ := h
    exact ⟨d, rfl, ha, hm, hl⟩

end Sys2Proof.Machine
end

section
/-! PROOF. The gate of a register write, a case at a time (R9 to R18, R506, R573 to R580). -/

namespace Sys2Proof.Machine

variable {s : State} {o : Origin} {dev off : Nat} {v cur : Word} {act : State → Word → State} {d : RegDesc}

/-- A register of a gated die while the device sleeps (R506). -/
theorem State.gate_asleep {own : Option (State → State)} (hb : s.blockAnswers off = true) (ha : s.asleep = true) (hg : gatedBlock off = true) :
    s.gate o dev off v cur own act = s.bump Reg.NRG_ASLEEP_ACCESS := by
  simp [State.gate, State.gateLog, hb, ha, hg]

/-- A reserved offset (R11). -/
theorem State.gate_reserved {own : Option (State → State)} (hb : s.blockAnswers off = true) (ha : (s.asleep && gatedBlock off) = false)
    (hr : regAt off = none) : s.gate o dev off v cur own act = s.bump Reg.KEY_RSVD_WRITES := by
  simp [State.gate, State.gateLog, hb, ha, hr]

section
variable (hb : s.blockAnswers off = true) (ha : (s.asleep && gatedBlock off) = false) (hr : regAt off = some d)
include hb ha hr

/-- A register without RWL and logged fields: its own effect, reserved bits counted. -/
theorem State.gate_unlogged (hl : d.hasRwl = false) (hm : d.logMask = 0) :
    s.gate o dev off v cur none act = act (if v &&& ~~~ d.mask = 0 then s else s.bump Reg.KEY_RSVD_WRITES) (d.eff false cur v) := by
  simp [State.gate, State.gateLog, hb, ha, hr, hl, hm, d.logMaskAt_unlocked]

/-- A register with RWL fields in a locked block: the write is counted (R16). -/
theorem State.gate_locked (hl : d.hasRwl = true) (hk : s.locked off = true) (hm : d.logMaskAt true = 0) (hv : v &&& ~~~ d.mask = 0) :
    s.gate o dev off v cur none act = act (s.bump Reg.KEY_LOCKED_WRITES) (d.eff true cur v) := by
  simp [State.gate, State.gateLog, hb, ha, hr, hl, hk, hm, hv]

/-- A logged register: the change is logged, then takes effect (R573). -/
theorem State.gate_logged (hl : d.hasRwl = false) (hm : d.logMask ≠ 0#32) (hv : v &&& ~~~ d.mask = 0) (hf : s.logFull = false) :
    s.gate o dev off v cur none act =
      act (s.logChange o 0 off (regValue o dev cur (d.eff false cur v) d.logMask)) (d.eff false cur v) := by
  simp [State.gate, State.gateLog, hb, ha, hr, hl, hm, hv, hf, d.logMaskAt_unlocked]

/-- A logged register while the log is full: the write is refused (R18, R580). -/
theorem State.gate_refused (hl : d.hasRwl = false) (hm : d.logMask ≠ 0#32) (hv : v &&& ~~~ d.mask = 0) (hf : s.logFull = true)
    (ho : refusable o = true) : s.gate o dev off v cur none act = s.refuseLog o off := by
  simp [State.gate, State.gateLog, hb, ha, hr, hl, hm, hv, hf, ho, d.logMaskAt_unlocked]

end

end Sys2Proof.Machine
end

section
/-! PROOF. Counters, the change log and the writes that wait for it: what the writes of this text read afterwards. -/

namespace Sys2Proof.Machine

variable (s : State)

@[simp] theorem State.reg_bump (q : Nat) : (s.bump q).reg q = satAdd (s.reg q) 1 := s.reg_setReg q _

theorem State.reg_bump_ne {q r : Nat} (h : r ≠ q) : (s.bump q).reg r = s.reg r := s.reg_setReg_ne q r _ h

/-- Of the registers, a log entry changes KEY_PST_STATUS alone (R619). -/
theorem State.reg_logPut_ne (k n obj : Nat) (b : List Byte) {q : Nat} (h : q ≠ Reg.KEY_PST_STATUS) : (s.logPut k n obj b).reg q = s.reg q := by
  rw [State.logPut, State.reg_congr _ _ q (State.reserve_regs _), State.setRb, State.setRf, State.reg_setReg_ne _ _ _ _ h]
  exact State.reg_congr _ _ q rfl

/-- The change log after an entry (R574, R578). -/
theorem State.logPut_log (k n obj : Nat) (b : List Byte) : (s.logPut k n obj b).log =
    { s.log with next := s.log.next + 1, last := logBytes s k n obj b,
                 slots := tset [] s.log.slots (s.log.next % logSlots) (logBytes s k n obj b) } := by
  simp [State.logPut]

/-- Without an action that went unlogged there is no TALLY. -/
theorem State.tally_none (h : s.log.unlogged = 0) : s.tally = s := by simp [State.tally_eq, h]

/-- A change of an origin that the log can refuse or hold is one entry, where no action went unlogged before it. -/
theorem State.logChange_put {o : Origin} (ha : o ≠ .autonomous) (hb : o ≠ .serviceButton) (hu : s.log.unlogged = 0) (n obj : Nat)
    (b : List Byte) : s.logChange o n obj b = s.logPut (originCode o) n obj b := by
  cases o with
  | autonomous => exact absurd rfl ha
  | serviceButton => exact absurd rfl hb
  | host | fabric | debug | keystoneFw | factory => simp only [State.logChange, s.tally_none hu]

/-- A slot of the log that frees serves nothing where nothing waits and nothing went unlogged. -/
theorem State.logFreed_quiet (hh : s.log.held = []) (hu : s.log.unlogged = 0) : s.logFreed = s := by
  have hlog : { s.log with held := [] } = s.log := by rw [← hh]
  simp only [State.logFreed, s.tally_none hu, hh, hlog, State.releaseHeld?]

/-- A write of 32 bits at an aligned offset that leaves the log quiet is the write of its register. -/
theorem State.writeReg_aligned {o : Origin} {dev off : Nat} {v : Word} {t : State} (hb : s.blockAnswers off = true) (hoff : off < 0x4000000)
    (hal : off % 4 = 0) (hw : s.writeAt o dev off v = t) (hh : t.log.held = []) (hu : t.log.unlogged = 0) : s.writeReg o dev off 32 v = t := by
  rw [State.writeReg, if_neg (by simp [hb, hoff]), if_neg (by simp [hal]), hw, t.logFreed_quiet hh hu]

/-- LOG_REFUSAL names the offset and the origin of the refused write (R580). -/
theorem State.refusal_refuseLog {o : Origin} (ho : refusable o = true) {off : Nat} (hoff : off < 2 ^ 26) :
    ((s.refuseLog o off).reg Reg.LOG_REFUSAL).toNat = off + originCode o * 2 ^ 26 := by
  have hcode : originCode o < 3 := by revert ho; cases o <;> decide
  rw [State.refuseLog, State.reg_bump_ne _ (by decide), State.reg_setReg, BitVec.toNat_ofNat, Nat.mod_eq_of_lt hoff]
  omega

theorem State.refused_refuseLog (o : Origin) (off : Nat) : (s.refuseLog o off).reg Reg.LOG_REFUSED = satAdd (s.reg Reg.LOG_REFUSED) 1 := by
  rw [State.refuseLog, State.reg_bump, State.reg_setReg_ne _ _ _ _ (by decide)]

theorem State.reg_refuseLog_ne (o : Origin) (off : Nat) {q : Nat} (h1 : q ≠ Reg.LOG_REFUSAL) (h2 : q ≠ Reg.LOG_REFUSED) :
    (s.refuseLog o off).reg q = s.reg q := by
  rw [State.refuseLog, State.reg_bump_ne _ h2, State.reg_setReg_ne _ _ _ _ h1]

end Sys2Proof.Machine
end

section
/-! PROOF. Writes of registers without effects of their own. -/

namespace Sys2Proof.Machine

variable (s : State) {o : Origin} {dev off : Nat} {v m : Word}

theorem State.keepReg_only {d : RegDesc} {a : Access} (hr : regAt off = some d) (h : d.only a = true) (ha : a ≠ .wo) (x : Word) :
    s.keepReg off x = s.setReg off x := by
  simp [State.keepReg, hr, RegDesc.keep_only h ha]

/-- Served now: the block answers and its die, where it is one that sleeps, is awake. -/
abbrev State.serves (off : Nat) : Prop := s.blockAnswers off = true ∧ (s.asleep && gatedBlock off) = false

/-- A plain RW register takes its bits; a reserved bit is counted (R11). -/
theorem State.plainWrite_rw (hs : s.serves off) (h : isReg off .rw m 0 = true) : s.plainWrite o dev off v =
    if v &&& ~~~ m = 0 then s.setReg off v else (s.bump Reg.KEY_RSVD_WRITES).setReg off (v &&& m) := by
  obtain ⟨hb, ha⟩ := hs
  obtain ⟨d, hr, hd, rfl, hl⟩ := regAt_of_isReg h
  rw [State.plainWrite, State.gate_unlogged hb ha hr (RegDesc.hasRwl_only hd (by decide)) hl, RegDesc.eff_rw hd,
    State.keepReg_only _ hr hd (by decide)]
  split
  case isTrue hv => rw [and_mask_of_clean hv]
  case isFalse => rfl

/-- A plain RWL register of a locked block keeps its bits, and the write is counted (R16). -/
theorem State.plainWrite_locked {lm : Word} (hs : s.serves off) (h : isReg off .rwl m lm = true) (hrwl : m ≠ 0) (hk : s.locked off = true)
    (hv : v &&& ~~~ m = 0) :
    s.plainWrite o dev off v = (s.bump Reg.KEY_LOCKED_WRITES).setReg off (s.reg off &&& m) := by
  obtain ⟨hb, ha⟩ := hs
  obtain ⟨d, hr, hd, rfl, -⟩ := regAt_of_isReg h
  have hhas : d.hasRwl = true := by
    cases hf : d.flds with
    | nil => simp [RegDesc.mask, hf] at hrwl
    | cons f fs => simp [RegDesc.hasRwl, hf, RegDesc.acc_of_only hd (by simp [hf] : f ∈ d.flds)]
  rw [State.plainWrite, State.gate_locked hb ha hr hhas hk (RegDesc.logMaskAt_rwl hd) hv, RegDesc.eff_rwl hd,
    State.keepReg_only _ hr hd (by decide)]

section
variable {a : Access} {lm : Word} (hs : s.serves off) (h : isReg off a m lm = true) (hl : lm ≠ 0#32) (hv : v &&& ~~~ m = 0)
include hs h hl hv

/-- A plain logged register of RW or of W1S fields: the change is logged, then takes effect (R13, R573). -/
theorem State.plainWrite_logged {x : Word} (hx : a = .rw ∧ x = v ∨ a = .w1s ∧ x = s.reg off ||| v) (hf : s.logFull = false) :
    s.plainWrite o dev off v = (s.logChange o 0 off (regValue o dev (s.reg off) (x &&& m) lm)).setReg off (x &&& m) := by
  obtain ⟨hb, ha⟩ := hs
  obtain ⟨d, hr, hd, rfl, rfl⟩ := regAt_of_isReg h
  have heff : d.eff false (s.reg off) v = x &&& d.mask := by
    obtain ⟨rfl, rfl⟩ | ⟨rfl, rfl⟩ := hx
    · exact RegDesc.eff_rw hd _ _ _
    · exact RegDesc.eff_w1s hd _ _ _
  have hwo : a ≠ .wo := by obtain ⟨rfl, -⟩ | ⟨rfl, -⟩ := hx <;> decide
  have hrwl : a ≠ .rwl := by obtain ⟨rfl, -⟩ | ⟨rfl, -⟩ := hx <;> decide
  rw [State.plainWrite, State.gate_logged hb ha hr (RegDesc.hasRwl_only hd hrwl) hl hv hf, heff, State.keepReg_only _ hr hd hwo]

/-- The same register while the log is full (R18, R580). -/
theorem State.plainWrite_refused (hrwl : a ≠ .rwl) (hf : s.logFull = true) (ho : refusable o = true) :
    s.plainWrite o dev off v = s.refuseLog o off := by
  obtain ⟨hb, ha⟩ := hs
  obtain ⟨d, hr, hd, rfl, rfl⟩ := regAt_of_isReg h
  rw [State.plainWrite, State.gate_refused hb ha hr (RegDesc.hasRwl_only hd hrwl) hl hv hf ho]

end

end Sys2Proof.Machine
end

section
/-! PROOF. Which function serves an offset: the reserved ones and the registers without effects of their own. -/

namespace Sys2Proof.Machine

variable (s : State) (o : Origin) (dev : Nat) {off : Nat} (v : Word)

/-- A reserved offset is none of a list of registers. -/
theorem ne_of_reserved (hr : regAt off = none) {l : List Nat} (h : l.all (fun c => (regAt c).isSome) = true) : ∀ c ∈ l, off ≠ c := by
  rintro c hc rfl
  simpa [hr] using List.all_eq_true.mp h off hc

/-- An aligned reserved offset lies in no run of registers. -/
theorem not_in_run_of_reserved (hr : regAt off = none) (hal : off % 4 = 0) {lo n : Nat} (hlo : lo % 4 = 0)
    (h : (List.range n).all (fun k => (regAt (lo + 4 * k)).isSome) = true) : ¬ (lo ≤ off ∧ off < lo + 4 * n) := by
  rintro ⟨h1, h2⟩
  have hoff : off = lo + 4 * ((off - lo) / 4) := by omega
  have hreg := List.all_eq_true.mp h ((off - lo) / 4) (List.mem_range.mpr (by omega))
  rw [← hoff, hr] at hreg
  exact absurd hreg (by decide)

section
variable (hr : regAt off = none)
include hr

theorem State.writeKey_reserved (hal : off % 4 = 0) : s.writeKey o dev off v = s.plainWrite o dev off v := by
  have hne := ne_of_reserved hr (l := [Reg.KEY_RCH_DATA, Reg.KEY_TRG_SEL, Reg.KEY_TRG_CFG, Reg.KEY_KV_PART, Reg.KEY_SLOT_SEL,
    Reg.KEY_SLOT_CFG, Reg.KEY_DEV_ID, Reg.KEY_RT_SEL, Reg.KEY_RT_MODE, Reg.KEY_FAB_CTL, Reg.KEY_PST_CTL, Reg.KEY_PST_HS_CTL, Reg.KEY_RESET_CTL,
    Reg.KEY_ERR_FIFO_CFG, Reg.KEY_ERR_POP, Reg.KEY_TEST_CTL, Reg.KEY_MARCH_CTL]) (by decide +kernel)
  simp only [List.forall_mem_cons] at hne
  have hstage : ¬ (Reg.KEY_TRG_BASE_LO ≤ off ∧ off ≤ Reg.KEY_TRG_COUNT) := fun h =>
    not_in_run_of_reserved hr hal (lo := Reg.KEY_TRG_BASE_LO) (n := 5) rfl (by decide +kernel) ⟨h.1, Nat.lt_succ_of_le h.2 |>.trans (by decide)⟩
  simp only [State.writeKey, hne, hstage, if_false]

theorem State.writeHq_reserved (hal : off % 4 = 0) : s.writeHq o dev off v = s.plainWrite o dev off v := by
  have hne := ne_of_reserved hr (l := [Reg.HQ_SQ_CFG, Reg.HQ_CQ_CFG, Reg.HQ_BAR4_WIN]) (by decide +kernel)
  simp only [List.forall_mem_cons] at hne
  have hbase : ¬ (Reg.HQ_SQ_BASE_LO ≤ off ∧ off ≤ Reg.HQ_CQ_BASE_HI) := fun h =>
    not_in_run_of_reserved hr hal (lo := Reg.HQ_SQ_BASE_LO) (n := 5) rfl (by decide +kernel) ⟨h.1, Nat.lt_succ_of_le h.2 |>.trans (by decide)⟩
  simp only [State.writeHq, hne, hbase, if_false]

theorem State.writeNrg_reserved (hal : off % 4 = 0) : s.writeNrg o dev off v = s.plainWrite o dev off v := by
  have hne := ne_of_reserved hr (l := [Reg.NRG_POWER_CAP, Reg.NRG_BURST, Reg.NRG_RAMP, Reg.NRG_CORR_DATA, Reg.NRG_PSTATE,
    Reg.NRG_THERM_CFG]) (by decide +kernel)
  simp only [List.forall_mem_cons] at hne
  have hdvfs : ¬ (Reg.NRG_DVFSt 0 ≤ off ∧ off < Reg.NRG_DVFSt 4) :=
    not_in_run_of_reserved hr hal (n := 4) rfl (by decide +kernel)
  simp only [State.writeNrg, hne, hdvfs, if_false]

theorem State.writeSec_reserved (hal : off % 4 = 0) : s.writeSec o dev off v = s.plainWrite o dev off v := by
  have hne := ne_of_reserved hr (l := [Reg.SEC_AUTH_CTL, Reg.SEC_FW_ADDR_LO, Reg.SEC_ATTEST_CTL, Reg.SEC_EXTEND_CTL]) (by decide +kernel)
  simp only [List.forall_mem_cons] at hne
  have hsvn : ¬ (Reg.SEC_SVNc 0 ≤ off ∧ off < Reg.SEC_SVNc 4) :=
    not_in_run_of_reserved hr hal (n := 4) rfl (by decide +kernel)
  simp only [State.writeSec, hne, hsvn, if_false]

theorem State.writeLog_reserved : s.writeLog o dev off v = s.plainWrite o dev off v := by
  have hne := ne_of_reserved hr (l := [Reg.LOG_ACK_LO, Reg.LOG_RD_LO, Reg.LOG_NOTE_CTL]) (by decide +kernel)
  simp only [List.forall_mem_cons] at hne
  simp only [State.writeLog, hne, if_false]

/-- A reserved offset of the keystone's blocks is served as a plain register. -/
theorem State.writeAt_reserved (hal : off % 4 = 0) (hoff : off < 0x1000000) : s.writeAt o dev off v = s.plainWrite o dev off v := by
  rw [State.writeAt, s.writeKey_reserved o dev v hr hal, s.writeHq_reserved o dev v hr hal, s.writeNrg_reserved o dev v hr hal,
    s.writeSec_reserved o dev v hr hal, s.writeLog_reserved o dev v hr, if_pos hoff]
  simp only [ite_self]

end

/-- The select registers of the statement, with their fields' bits. -/
def selectRegs : List (Nat × Word) :=
  [(Reg.KEY_RCH_SEL, 0xFFFFFF), (Reg.KEY_PLC_SEL, 0xFFF), (Reg.HQ_Q_SEL, 0xFF), (Reg.NRG_LEDGER_SEL, 0x7F), (Reg.SEC_AUTH_ADDR_HI, 0x3FFF),
    (Reg.LOG_NOTEi 5, 0xFFFFFFFF), (Reg.Tt_RCH_SEL 3, 0xFFFFFF), (Reg.BED_LINK_SEL, 0x1F1F)]

/-- The logged registers of the statement, with their fields' bits. -/
def loggedRegs : List (Nat × Word) :=
  [(Reg.KEY_RT_ENTRY, 0xFFFFFFFF), (Reg.BED_CAL_ADDR_LO, 0xFFFFFFC0), (Reg.Tt_CU_WLOAD_LO 2, 0xFFFFFFC0)]

/-- The registers of sleeping dies of the statement. -/
def gatedRegs : List Nat := [Reg.Tt_RCH_SEL 0, Reg.Wn_RCH_SEL 7, Reg.BED_LINK_SEL, Reg.Sd_PORTp_FAB 9]

theorem selectRegs_rw : ∀ x ∈ selectRegs, isReg x.1 .rw x.2 0 = true ∧ x.1 % 4 = 0 ∧ x.1 < 0x4000000 := by decide +kernel

theorem loggedRegs_rw : ∀ x ∈ loggedRegs, isReg x.1 .rw x.2 x.2 = true ∧ x.2 ≠ 0#32 ∧ x.1 % 4 = 0 ∧ x.1 < 2 ^ 26 := by decide +kernel

theorem gatedRegs_gated : ∀ off ∈ gatedRegs, gatedBlock off = true ∧ off % 4 = 0 ∧ off < 0x4000000 := by decide

/-- The registers listed have no effects of their own. -/
theorem State.writeAt_plain : ∀ off ∈ selectRegs.map (·.1) ++ loggedRegs.map (·.1) ++ gatedRegs ++ [Reg.KEY_GROUP_BASE],
    s.writeAt o dev off v = s.plainWrite o dev off v := by
  simp only [selectRegs, loggedRegs, gatedRegs, List.map_cons, List.map_nil, List.cons_append, List.nil_append, List.forall_mem_cons]
  exact ⟨rfl, rfl, rfl, rfl, rfl, rfl, rfl, rfl, rfl, rfl, rfl, rfl, rfl, rfl, rfl, rfl, nofun⟩

end Sys2Proof.Machine
end

section
/-! PROOF. REGISTER_WRITE and LOCK_BLOCK, a clause at a time. -/

namespace Sys2Proof.Machine

variable {o : Origin} {dev off : Nat} {v m : Word} {s : State}

theorem exec_registerWrite (o : Origin) (off width : Nat) (v hw : Word) (s : State) :
    exec (.registerWrite o off width v hw) s = .next (s.writeReg o 0 off width (s.yield off v hw)) := rfl

theorem exec_lockBlock (o : Origin) (v : Word) (s : State) : exec (.lockBlock o v) s = .next (s.plainWrite o 0 Reg.KEY_LOCK v) := rfl

theorem keeps_setReg (s : State) (off : Nat) (v : Word) : keeps s (s.setReg off v) [.regs] := by simp [keeps]

theorem keeps_bump (s : State) (off : Nat) : keeps s (s.bump off) [.regs] := keeps_setReg s off _

/-- A counted write of a register changes registers alone. -/
theorem keeps_bump_setReg (s : State) (q off : Nat) (v : Word) : keeps s ((s.bump q).setReg off v) [.regs] := by simp [keeps]

theorem keeps_refuseLog (s : State) (o : Origin) (off : Nat) : keeps s (s.refuseLog o off) [.regs] := by simp [keeps]

/-- A logged write changes registers, the log and the store's queue alone. -/
theorem keeps_logPut_setReg (s : State) (k n obj : Nat) (b : List Byte) (off : Nat) (v : Word) :
    keeps s ((s.logPut k n obj b).setReg off v) [.regs, .log, .store] := by simp [keeps]

/-- A write of 32 bits of a reserved offset of the keystone's blocks (R11). -/
theorem State.writeReg_reserved (hoff : off < 0x1000000) (hal : off % 4 = 0) (hb : s.blockAnswers off = true) (hr : regAt off = none)
    (hq : quietLog s) : s.writeReg o dev off 32 v = s.bump Reg.KEY_RSVD_WRITES := by
  obtain ⟨hh, hu, -⟩ := hq
  have hgate : gatedBlock off = false := by simp [gatedBlock]; omega
  refine s.writeReg_aligned hb (by omega) hal ?_ hh hu
  rw [s.writeAt_reserved o dev v hr hal hoff, State.plainWrite, State.gate_reserved hb (by simp [hgate]) hr]

/-- A write of a select register (R11, R13). -/
theorem State.writeReg_select (hw : writable s off) (hm : (off, m) ∈ selectRegs) : s.writeReg o dev off 32 v =
    if v &&& ~~~ m = 0 then s.setReg off v else (s.bump Reg.KEY_RSVD_WRITES).setReg off (v &&& m) := by
  obtain ⟨hb, ha, hh, hu, -⟩ := hw
  obtain ⟨hrw, hal, hoff⟩ := selectRegs_rw _ hm
  refine s.writeReg_aligned hb hoff hal ?_ (by split <;> exact hh) (by split <;> exact hu)
  rw [s.writeAt_plain o dev v off (by simp [List.mem_map_of_mem (f := Prod.fst) hm]), s.plainWrite_rw ⟨hb, by simp [ha]⟩ hrw]

/-- What a logged write of register `off`, to the value `x`, comes to: one entry, the register, and no other but KEY_PST_STATUS. -/
theorem State.logged_setReg (s : State) (o : Origin) (off : Nat) (x mask : Word) (hu : s.log.unlogged = 0)
    (h1 : o ≠ .autonomous) (h2 : o ≠ .serviceButton) :
    let t := (s.logChange o 0 off (regValue o 0 (s.reg off) x mask)).setReg off x
    t.log.held = s.log.held ∧ t.log.unlogged = s.log.unlogged ∧ t.reg off = x ∧ loggedAs s t o off (s.reg off) x mask ∧
      (∀ q, q ≠ off → q ≠ Reg.KEY_PST_STATUS → t.reg q = s.reg q) ∧ keeps s t [.regs, .log, .store] := by
  rw [s.logChange_put h1 h2 hu]
  refine ⟨?_, ?_, State.reg_setReg _ _ _, ⟨?_, ?_⟩, fun q hq hp => ?_, keeps_logPut_setReg ..⟩
  · rw [State.setReg_log, State.logPut_log]
  · rw [State.setReg_log, State.logPut_log]
  · rw [State.setReg_log, State.logPut_log]
  · rw [State.setReg_log, State.logPut_log]
  · rw [State.reg_setReg_ne _ _ _ _ hq, State.reg_logPut_ne _ _ _ _ _ hp]

/-- A write of a logged register while the log has room (R573). -/
theorem State.writeReg_logged (hb : s.blockAnswers off = true) (ha : s.asleep = false) (hh : s.log.held = []) (hu : s.log.unlogged = 0)
    (hm : (off, m) ∈ loggedRegs) (hv : v &&& ~~~ m = 0) (hf : s.logFull = false) (h1 : o ≠ .autonomous) (h2 : o ≠ .serviceButton) :
    s.writeReg o 0 off 32 v = (s.logChange o 0 off (regValue o 0 (s.reg off) v m)).setReg off v := by
  obtain ⟨hrw, hne, hal, hoff⟩ := loggedRegs_rw _ hm
  obtain ⟨hheld, hunl, -⟩ := s.logged_setReg o off v m hu h1 h2
  refine s.writeReg_aligned hb hoff hal ?_ (hheld.trans hh) (hunl.trans hu)
  rw [s.writeAt_plain o 0 v off (by simp [List.mem_map_of_mem (f := Prod.fst) hm]),
    s.plainWrite_logged ⟨hb, by simp [ha]⟩ hrw hne hv (.inl ⟨rfl, rfl⟩) hf, and_mask_of_clean hv]

/-- A write of a logged register while the log is full (R18, R580). -/
theorem State.writeReg_refused (hb : s.blockAnswers off = true) (ha : s.asleep = false) (hh : s.log.held = []) (hu : s.log.unlogged = 0)
    (hm : (off, m) ∈ loggedRegs) (hv : v &&& ~~~ m = 0) (hf : s.logFull = true) (ho : refusable o = true) :
    s.writeReg o dev off 32 v = s.refuseLog o off := by
  obtain ⟨hrw, hne, hal, hoff⟩ := loggedRegs_rw _ hm
  refine s.writeReg_aligned hb hoff hal ?_ (by simpa using hh) (by simpa using hu)
  rw [s.writeAt_plain o dev v off (by simp [List.mem_map_of_mem (f := Prod.fst) hm]),
    s.plainWrite_refused ⟨hb, by simp [ha]⟩ hrw hne hv (by decide) hf ho]

/-- A write of a register of a sleeping die (R506). -/
theorem State.writeReg_asleep (hb : s.blockAnswers off = true) (ha : s.asleep = true) (hq : quietLog s) (hm : off ∈ gatedRegs) :
    s.writeReg o dev off 32 v = s.bump Reg.NRG_ASLEEP_ACCESS := by
  obtain ⟨hh, hu, -⟩ := hq
  obtain ⟨hg, hal, hoff⟩ := gatedRegs_gated off hm
  refine s.writeReg_aligned hb hoff hal ?_ hh hu
  rw [s.writeAt_plain o dev v off (by simp [hm]), State.plainWrite, State.gate_asleep hb ha hg]

/-- A write of KEY_GROUP_BASE while the KEY block is locked (R16). -/
theorem State.writeReg_groupBase_locked (hw : writable s Reg.KEY_GROUP_BASE) (hk : s.rb Reg.KEY_LOCK 0 = true) (hv : v &&& 0x7FE00000 = 0) :
    s.writeReg o dev Reg.KEY_GROUP_BASE 32 v =
      (s.bump Reg.KEY_LOCKED_WRITES).setReg Reg.KEY_GROUP_BASE (s.reg Reg.KEY_GROUP_BASE &&& 0x801FFFFF) := by
  obtain ⟨hb, ha, hh, hu, -⟩ := hw
  refine s.writeReg_aligned hb (by decide) rfl ?_ hh hu
  rw [s.writeAt_plain o dev v _ (by simp),
    s.plainWrite_locked (m := 0x801FFFFF) (lm := 0x801FFFFF) ⟨hb, by simp [ha]⟩ (by decide +kernel) (by decide) hk hv]

/-- Of KEY_PLC_SEL, a write that hardware changes in the same cycle writes back what stands there (R14). -/
theorem State.yield_plcSel {hw : Word} (hhw : hw &&& 0xFFF ≠ 0) (hv : v &&& ~~~ 0xFFF = 0) :
    s.yield Reg.KEY_PLC_SEL v hw = s.reg Reg.KEY_PLC_SEL &&& 0xFFF := by
  have hr : ∃ d, regAt Reg.KEY_PLC_SEL = some d ∧ d.flds = [{ lo := 0, width := 12, acc := .rw, log := false, rst := 0 }] := ⟨_, rfl, rfl⟩
  obtain ⟨d, hr, hd⟩ := hr
  have hmask : Fld.mask { lo := 0, width := 12, acc := .rw, log := false, rst := 0 } = 0xFFF#32 := rfl
  have hview : s.view Reg.KEY_PLC_SEL = s.reg Reg.KEY_PLC_SEL := rfl
  have hfield : s.yield Reg.KEY_PLC_SEL v hw = if 0xFFF#32 &&& hw = 0 then v else v &&& ~~~ 0xFFF ||| s.reg Reg.KEY_PLC_SEL &&& 0xFFF := by
    simp only [State.yield, hr, RegDesc.yield, hd, List.foldl_cons, List.foldl_nil, hmask, hview]; rfl
  rw [hfield, if_neg (by rwa [BitVec.and_comm]), hv]
  exact BitVec.zero_or

/-- A write of KEY_LOCK sets the bits written (R17). -/
theorem State.plainWrite_lock (hw : writable s Reg.KEY_LOCK) (hv : v.toNat < 0x2000) : s.plainWrite o 0 Reg.KEY_LOCK v =
    let x := (s.reg Reg.KEY_LOCK ||| v) &&& 0x1FFF
    (s.logChange o 0 Reg.KEY_LOCK (regValue o 0 (s.reg Reg.KEY_LOCK) x 0x1FFF)).setReg Reg.KEY_LOCK x := by
  obtain ⟨hb, ha, -, -, hf⟩ := hw
  have hself : v &&& 0x1FFF = v := by
    apply BitVec.eq_of_toNat_eq
    rw [BitVec.toNat_and]
    exact (Nat.and_two_pow_sub_one_eq_mod v.toNat 13).trans (Nat.mod_eq_of_lt hv)
  have hclean : v &&& ~~~ 0x1FFF = 0 := by rw [← hself]; exact clean_of_and_mask v 0x1FFF
  exact s.plainWrite_logged ⟨hb, by simp [ha]⟩ (by decide +kernel) (by decide) hclean (.inr ⟨rfl, rfl⟩) hf

/-- Settles O17: each clause is the gate's one case. -/
theorem registerWriteResults : Obligations.RegisterWriteResults := by
  simp only [Obligations.RegisterWriteResults, exec_registerWrite, exec_lockBlock, State.yield_zero, Host.Outcome.next.injEq, exists_eq_left']
  refine ⟨fun o off width v s hoff hb hodd => s.writeReg_odd o 0 off width v hb hoff hodd, fun o off v s hoff hal hb hr hq => ?reservedOffset,
    fun o off m v s hw hm => ?select, fun o off m v s hb ha hh hu hm hv => ⟨fun hf h1 h2 => ?logged, fun hf ho => ?refused⟩,
    fun o v s hw hk hv => ?locked, fun o off v s hb ha hq hm => ?asleep, fun o v hw s hwr hhw hv => ?hardware, fun o v s hw hv h1 h2 => ?lock⟩
  case reservedOffset =>
    rw [State.writeReg_reserved hoff hal hb hr hq]
    exact ⟨rfl, keeps_bump s _⟩
  case select =>
    rw [State.writeReg_select hw hm]
    split
    · exact ⟨keeps_setReg s _ _, rfl⟩
    · exact ⟨keeps_bump_setReg s _ _ _, rfl⟩
  case logged =>
    rw [State.writeReg_logged hb ha hh hu hm hv hf h1 h2]
    obtain ⟨-, -, hreg, hlog, hne, hk⟩ := s.logged_setReg o off v m hu h1 h2
    exact ⟨hreg, hlog, hne, hk⟩
  case refused =>
    have href : refusable o = true := by obtain rfl | rfl | rfl := ho <;> rfl
    obtain ⟨-, -, -, hoff⟩ := loggedRegs_rw _ hm
    rw [State.writeReg_refused hb ha hh hu hm hv hf href]
    exact ⟨s.refusal_refuseLog href hoff, s.refused_refuseLog o off, fun q h1 h2 => s.reg_refuseLog_ne o off h1 h2, keeps_refuseLog s o off⟩
  case locked =>
    rw [State.writeReg_groupBase_locked hw hk hv]
    refine ⟨?_, State.reg_setReg _ _ _, fun q h1 h2 => ?_, keeps_bump_setReg s _ _ _⟩
    · rw [State.reg_setReg_ne _ _ _ _ (by decide), State.reg_bump]
    · rw [State.reg_setReg_ne _ _ _ _ h2, State.reg_bump_ne _ h1]
  case asleep =>
    rw [State.writeReg_asleep hb ha hq hm]
    exact ⟨rfl, keeps_bump s _⟩
  case hardware =>
    have hclean : s.reg Reg.KEY_PLC_SEL &&& 0xFFF &&& ~~~ 0xFFF = 0 := clean_of_and_mask _ _
    rw [State.yield_plcSel hhw hv, State.writeReg_select (m := 0xFFF) hwr (by simp [selectRegs]), if_pos hclean]
    refine ⟨?_, fun q hq => State.reg_setReg_ne _ _ _ _ hq, keeps_setReg s _ _⟩
    rw [State.reg_setReg, BitVec.and_assoc, BitVec.and_self]
  case lock =>
    rw [State.plainWrite_lock hw hv]
    obtain ⟨-, -, -, hu, -⟩ := hw
    obtain ⟨-, -, hreg, hlog, hne, hk⟩ := s.logged_setReg o Reg.KEY_LOCK ((s.reg Reg.KEY_LOCK ||| v) &&& 0x1FFF) 0x1FFF hu h1 h2
    exact ⟨hreg, hlog, hne, hk⟩

end Sys2Proof.Machine
end

section
/-! PROOF. Answers of this device: where the route of the requester leads to one port that is up, the answer joins that port's packets
(R420 to R424, R427). -/

namespace Sys2Proof.Machine

variable {s t : State}

/-- A mask of one port names that port. -/
theorem maskPorts_two_pow {p : Nat} (hp : p < 16) : maskPorts (2 ^ p) = [p] := by
  have hall : ∀ q ∈ List.range 16, maskPorts (2 ^ q) = [q] := by decide
  exact hall p (List.mem_range.mpr hp)

/-- Of a rank of one port, every select chooses it (R422). -/
theorem State.choose_singleton (s : State) (sel : Nat) (tile : Bool) (p vc dst src die addr : Nat) :
    s.choose sel tile [p] vc dst src die addr = some p := by
  rw [State.choose, if_neg (List.cons_ne_nil p [])]
  split_ifs
  · simp [Nat.mod_one]
  · rfl
  · rfl

/-- The rank of a set of one port that is up is that port, of the first set (R421). -/
theorem State.rank_two_pow {p : Nat} (hp : p < 16) (hup : s.portUp p = true) (second : Nat) : s.rank (2 ^ p) second = ([p], false) := by
  simp [State.rank, maskPorts_two_pow hp, hup]

/-- A response to a device whose route leads to one port joins the packets that wait there (R420, R424). -/
theorem State.inject_onlyPort {die out : Nat} {r : Packet} (h : onlyPort s r.dst out) (hway : way s die out) : s.inject die r none =
    .sent (s.txWait out (vcOf r.type (s.firstClass out)) { r with src := s.devId, srcDie := die } none) := by
  obtain ⟨hid, hout, hvalid, hprim, hmode, hup⟩ := h
  have hway : s.diePath die (dieS (out / 8)) = true := hway
  simp [State.inject, hid, hvalid, State.copies, hmode, State.sendCopies, State.sendCopy, hprim, State.rank_two_pow hout hup,
    State.choose_singleton, hway, State.twinUp]

/-- The answer to a request whose route back leads to one port (R427). -/
theorem State.answer_onlyPort {port die out st dup : Nat} {p : Packet} {payload : List Byte} (h : onlyPort s p.src out) (hway : way s die out) :
    s.answer port die p st dup payload = { s with fab := { s.fab with waiting := s.fab.waiting ++ [replyTo s out die p st dup payload] } } := by
  rw [State.answer, State.inject_onlyPort h hway]
  rfl

/-- The device after an answer of the keystone to the management request `p` joined the packets that wait at port `out`. -/
def State.reply (s : State) (out : Nat) (p : Packet) (st : Nat) (payload : List Byte) : State :=
  { s with fab := { s.fab with waiting := s.fab.waiting ++ [replyTo s out dieK p st 0 payload] } }

/-- A management request that is not path-routed is answered under R420 (R433). -/
theorem State.mgmtAnswer_onlyPort {port out st : Nat} {p : Packet} {payload : List Byte} (hp : pathRouted p = false) (h : onlyPort s p.src out)
    (hway : way s dieK out) : s.mgmtAnswer port p st payload = s.reply out p st payload := by
  rw [State.mgmtAnswer, hp]
  exact State.answer_onlyPort h hway

/-- A management request routed to this device, whose keystone runs, is served (R433). -/
theorem State.mgmtIn_comesIn {port : Fin 16} {p : Packet} {out sub : Nat} {serve : State → State} (h : comesIn s port 6 p out)
    (hp : pathRouted p = false) (hk : s.dieUp dieK = true) (hsub : p.mod = sub) : s.mgmtIn port sub p serve = serve s := by
  obtain ⟨hin, htype, hform, hdst, hid, -⟩ := h
  simp [State.mgmtIn, hin, htype, hsub, hform, State.mgmtHere, hp, hid, hdst, hk]

/-- The argument of a request that is not path-routed is its payload. -/
theorem mgmtArg_routed {p : Packet} (hp : pathRouted p = false) : mgmtArg p = (none, p.payload) := by simp [mgmtArg, hp]

theorem replied_reply (s : State) (out : Nat) (p : Packet) (st : Nat) (payload : List Byte) :
    replied s (s.reply out p st payload) out dieK p st payload := rfl

theorem keeps_reply (s : State) (out : Nat) (p : Packet) (st : Nat) (payload : List Byte) : keeps s (s.reply out p st payload) [.fab] := by
  simp [keeps, State.reply]

/-! ### What an answer's way depends on -/

/-- The state that routes and answers look at is the same in both: the fabric, ports, dies and links, the device ID, and the registers of
the span dies. -/
structure SameWays (s t : State) : Prop where
  fab : t.fab = s.fab
  ports : t.ports = s.ports
  pwr : t.pwr = s.pwr
  bed : t.bed = s.bed
  devId : t.reg Reg.KEY_DEV_ID = s.reg Reg.KEY_DEV_ID
  span : ∀ off, 0x2200000 ≤ off → t.reg off = s.reg off

/-- Counting in a register that is no part of a way changes no way. -/
theorem SameWays.setReg (s : State) {off : Nat} (v : Word) (h1 : off ≠ Reg.KEY_DEV_ID) (h2 : off < 0x2200000) : SameWays s (s.setReg off v) where
  fab := rfl
  ports := rfl
  pwr := rfl
  bed := rfl
  devId := State.reg_setReg_ne _ _ _ _ h1.symm
  span q hq := State.reg_setReg_ne _ _ _ _ (by omega)

theorem SameWays.trans {u : State} (h : SameWays s t) (k : SameWays t u) : SameWays s u where
  fab := k.fab.trans h.fab
  ports := k.ports.trans h.ports
  pwr := k.pwr.trans h.pwr
  bed := k.bed.trans h.bed
  devId := k.devId.trans h.devId
  span q hq := (k.span q hq).trans (h.span q hq)

section
variable (h : SameWays s t)
include h

theorem SameWays.idValid : t.idValid = s.idValid := by rw [State.idValid, State.rb, h.devId]; rfl

theorem SameWays.devId_eq : t.devId = s.devId := by rw [State.devId, State.rf, h.devId]; rfl

theorem SameWays.route (k : Nat) : t.route k = s.route k := by rw [State.route, h.fab]; rfl

theorem SameWays.routeKey (dst : Nat) : t.routeKey dst = s.routeKey dst := by
  rw [State.routeKey, h.idValid, h.devId_eq]; rfl

theorem SameWays.dieUp (a : Nat) : t.dieUp a = s.dieUp a := by rw [State.dieUp, h.pwr]; rfl

theorem SameWays.portUp (p : Nat) : t.portUp p = s.portUp p := by
  have hen : t.portEnabled p = s.portEnabled p := by
    rw [State.portEnabled, State.rb, h.span _ (by unfold Reg.Sd_PORTp_CTL; omega)]; rfl
  have hpres : ∀ d, t.presumes d = s.presumes d := fun d => by
    rw [State.presumes, State.rb, h.span _ (by unfold Reg.Sd_PIER_STATUS; omega)]; rfl
  have hrole : ∀ d, t.role d = s.role d := fun d => by
    rw [State.role, State.rf, h.span _ (by unfold Reg.Sd_PIER_STATUS; omega)]; rfl
  have hport : t.port p = s.port p := by rw [State.port, h.ports]; rfl
  simp only [State.portUp, State.spanOut, hen, hport, hpres, hrole, h.dieUp]

theorem SameWays.link (a b : Nat) : t.link a b = s.link a b := by rw [State.link, h.bed]; rfl

theorem SameWays.linked (a b : Nat) : t.linked a b = s.linked a b := by
  simp only [State.linked, h.link, h.dieUp]

theorem SameWays.diePath (a b : Nat) : t.diePath a b = s.diePath a b := by
  simp only [State.diePath, State.spanWeir, h.linked, h.dieUp]

theorem SameWays.onlyPort_iff {dst out : Nat} : onlyPort t dst out ↔ onlyPort s dst out := by
  simp only [onlyPort, h.idValid, h.route, h.routeKey, h.portUp]

theorem SameWays.firstClass (p : Nat) : t.firstClass p = s.firstClass p := by
  rw [State.firstClass, State.rb, h.span _ (by unfold Reg.Sd_PORTp_FAB; omega)]; rfl

/-- The same answer joins the same packets. -/
theorem SameWays.replied {out : Nat} {p : Packet} {st : Nat} {payload : List Byte} :
    replied s (t.reply out p st payload) out dieK p st payload := by
  simp only [Sys2Proof.replied, State.reply, replyTo, h.fab, h.devId_eq, h.firstClass]

end

end Sys2Proof.Machine
end

section
/-! PROOF. The management requests, a row at a time (R433 to R435). -/

namespace Sys2Proof.Machine

variable {s t u : State} {port : Fin 16} {p : Packet} {out : Nat}

/-- What an answer after a served request comes to: the request's effect keeps the ways, so the answer is the one of the device before. -/
theorem State.mgmtAnswer_after (h : SameWays s t) {st : Nat} {payload : List Byte} (hin : comesIn s port 6 p out) (hp : pathRouted p = false)
    (hway : way s dieK out) : t.mgmtAnswer port p st payload = t.reply out p st payload := by
  obtain ⟨-, -, -, -, honly⟩ := hin
  exact State.mgmtAnswer_onlyPort hp (h.onlyPort_iff.mpr honly) ((h.diePath _ _).trans hway)

/-- A read of a register changes nothing but a count or the free values taken (R9, R506). -/
theorem State.readReg_state (s : State) (off width : Nat) : (s.readReg off width).1 = s ∨ (s.readReg off width).1 = s.bump Reg.KEY_RSVD_WRITES ∨
    (s.readReg off width).1 = s.bump Reg.NRG_ASLEEP_ACCESS ∨ (s.readReg off width).1 = s.takeFree 1 := by
  unfold State.readReg
  split_ifs
  · exact .inl rfl
  · exact .inr (.inl rfl)
  · exact .inr (.inr (.inl rfl))
  · cases regAt off with
    | none => exact .inl rfl
    | some d => exact .inr (.inr (.inr rfl))
  · cases regAt off with
    | none => exact .inl rfl
    | some d => exact .inl rfl

theorem SameWays.refl (s : State) : SameWays s s := ⟨rfl, rfl, rfl, rfl, rfl, fun _ _ => rfl⟩

theorem SameWays.readReg (s : State) (off width : Nat) : SameWays s (s.readReg off width).1 := by
  obtain h | h | h | h := s.readReg_state off width <;> rw [h]
  · exact .refl s
  · exact .setReg s _ (by decide) (by decide)
  · exact .setReg s _ (by decide) (by decide)
  · exact ⟨rfl, rfl, rfl, rfl, rfl, fun _ _ => rfl⟩

/-- A read and its answer change registers, free values and the fabric alone. -/
theorem keeps_readReg_reply (s : State) (off width out : Nat) (p : Packet) (st : Nat) (payload : List Byte) :
    keeps s ((s.readReg off width).1.reply out p st payload) [.regs, .fab, .freeIdx] := by
  obtain h | h | h | h := s.readReg_state off width <;> rw [h] <;> simp [keeps, State.reply]

/-- REG_READ answers what a read of the register shows. -/
theorem execRegRead_answers (hin : comesIn s port 6 p out) (hp : pathRouted p = false) (hway : way s dieK out) (hk : s.dieUp dieK = true)
    (hmod : p.mod = 1) (hoff : bfld p.payload 0 4 < 0x4000000) : execRegRead port p s =
      .next ((s.readReg (bfld p.payload 0 4) 32).1.reply out p 0 (padTo 32 (toBytesLE 4 (s.readReg (bfld p.payload 0 4) 32).2.toNat))) := by
  rw [execRegRead, State.mgmtIn_comesIn hin hp hk hmod, mgmtArg_routed hp]
  simp only [State.mgmtRead, if_neg (Nat.not_le.mpr hoff)]
  rw [State.mgmtAnswer_after (.readReg s _ 32) hin hp hway]

/-- REG_WRITE that this device does not accept. -/
theorem execRegWrite_refused (hin : comesIn s port 6 p out) (hp : pathRouted p = false) (hway : way s dieK out) (hk : s.dieUp dieK = true)
    (hmod : p.mod = 2) (hacc : s.mgmtAccepts p = false) : execRegWrite port p s = .next (s.reply out p 11 []) := by
  rw [execRegWrite, State.mgmtIn_comesIn hin hp hk hmod]
  simp only [State.mgmtWrite, hacc, Bool.not_false, if_true]
  rw [State.mgmtAnswer_after (.refl s) hin hp hway]

/-- REG_WRITE that this device accepts and the log does not refuse. -/
theorem execRegWrite_accepted (hin : comesIn s port 6 p out) (hp : pathRouted p = false) (hway : way s dieK out) (hk : s.dieUp dieK = true)
    (hmod : p.mod = 2) (hacc : s.mgmtAccepts p = true)
    (hw : s.writeReg .fabric p.src (bfld p.payload 0 4) 32 (BitVec.ofNat 32 (bfld p.payload 4 4)) = t)
    (href : t.reg Reg.LOG_REFUSED = s.reg Reg.LOG_REFUSED) (hs : SameWays s t) : execRegWrite port p s = .next (t.reply out p 0 []) := by
  rw [execRegWrite, State.mgmtIn_comesIn hin hp hk hmod, mgmtArg_routed hp]
  simp only [State.mgmtWrite, hacc, Bool.not_true, Bool.false_eq_true, if_false, mgmtWriter, hp, hw, href, ne_eq, not_true_eq_false]
  rw [State.mgmtAnswer_after hs hin hp hway]

/-- The select registers that the statement names for REG_WRITE. -/
def mgmtSelects : List (Nat × Word) := [(Reg.KEY_RCH_SEL, 0xFFFFFF), (Reg.KEY_PLC_SEL, 0xFFF), (Reg.NRG_LEDGER_SEL, 0x7F)]

/-- They are select registers, and no part of a way. -/
theorem mgmtSelects_select : ∀ x ∈ mgmtSelects, x ∈ selectRegs ∧ x.1 ≠ Reg.KEY_DEV_ID ∧ x.1 < 0x2200000 ∧ x.1 ≠ Reg.LOG_REFUSED := by decide

/-- A write of a select register, reserved bits or not, keeps the ways and LOG_REFUSED, and with an answer all but registers and the fabric. -/
theorem State.select_write {off : Nat} {m v : Word} (hm : (off, m) ∈ mgmtSelects) :
    let t := if v &&& ~~~ m = 0 then s.setReg off v else (s.bump Reg.KEY_RSVD_WRITES).setReg off (v &&& m)
    SameWays s t ∧ t.reg Reg.LOG_REFUSED = s.reg Reg.LOG_REFUSED ∧ ∀ out p st d, keeps s (t.reply out p st d) [.regs, .fab] := by
  obtain ⟨-, hid, hlt, hlog⟩ := mgmtSelects_select _ hm
  split
  · exact ⟨.setReg s v hid hlt, State.reg_setReg_ne _ _ _ _ hlog.symm, fun _ _ _ _ => by simp [keeps, State.reply]⟩
  · refine ⟨.trans (.setReg s _ (by decide) (by decide)) (.setReg _ _ hid hlt), ?_, fun _ _ _ _ => by simp [keeps, State.reply]⟩
    rw [State.reg_setReg_ne _ _ _ _ hlog.symm, State.reg_bump_ne _ (by decide)]

/-- REACH_CMD (R434). -/
theorem execReachCmd_answers (hin : comesIn s port 6 p out) (hp : pathRouted p = false) (hk : s.dieUp dieK = true) (hmod : p.mod = 3) :
    (s.arrive .mgmt (padTo 64 p.payload) = none → execReachCmd port p s = .next s) ∧
    (∀ u, s.arrive .mgmt (padTo 64 p.payload) = some u → onlyPort u p.src out → way u dieK out →
      execReachCmd port p s = .next (u.reply out p (s.cmdCheck (padTo 64 p.payload)) [])) := by
  rw [execReachCmd, State.mgmtIn_comesIn hin hp hk hmod, mgmtArg_routed hp]
  refine ⟨fun h => ?_, fun u h honly hway => ?_⟩
  · simp only [h]
  · simp only [h, State.mgmtAnswer_onlyPort hp honly hway]

/-- QUERY (R434). -/
theorem execQuery_answers (hin : comesIn s port 6 p out) (hp : pathRouted p = false) (hway : way s dieK out) (hk : s.dieUp dieK = true)
    (hmod : p.mod = 4) : execQuery port p s = .next (s.reply out p (s.query p.payload).1 (s.query p.payload).2) := by
  rw [execQuery, State.mgmtIn_comesIn hin hp hk hmod, mgmtArg_routed hp]
  simp only [State.mgmtAnswer_after (.refl s) hin hp hway]

/-- ASSIGN (R434, R435), as what `State.assign` does before the answer. -/
theorem execAssign_answers (hin : comesIn s port 6 p out) (hp : pathRouted p = false) (hk : s.dieUp dieK = true) (hmod : p.mod = 5) {st : Nat}
    (ha : s.assign p .fabric (s.mgmtAccepts p) p.payload = (t, st)) (honly : onlyPort t p.src out) (hway : way t dieK out) :
    execAssign port p s = .next (t.reply out p st []) := by
  rw [execAssign, State.mgmtIn_comesIn hin hp hk hmod, mgmtArg_routed hp]
  simp only [ha, State.mgmtAnswer_onlyPort hp honly hway]

/-! ### The device ID (R417, R435) -/

/-- An autonomous event leaves the lsn of the next entry where it was or raises it by entries. -/
theorem State.log_next_le_logAuto (s : State) (o : Origin) (k obj : Nat) (v : List Byte) : s.log.next ≤ (s.logAuto o k obj v).log.next := by
  have htally : s.log.next ≤ s.tally.log.next := by
    rw [State.tally_eq]
    split
    · rw [State.logPut_log]; exact Nat.le_succ _
    · exact Nat.le_refl _
  rw [State.logAuto_eq]
  split
  · rw [State.logPut_log]; exact htally.trans (Nat.le_succ _)
  · exact htally

theorem State.reg_logAuto_ne (s : State) (o : Origin) (k obj : Nat) (v : List Byte) {q : Nat} (h : q ≠ Reg.KEY_PST_STATUS) :
    (s.logAuto o k obj v).reg q = s.reg q := by
  have htally : s.tally.reg q = s.reg q := by
    rw [State.tally_eq]
    split
    · exact State.reg_logPut_ne _ _ _ _ _ h
    · rfl
  rw [State.logAuto_eq]
  split
  · rw [State.reg_logPut_ne _ _ _ _ _ h, htally]
  · exact htally

/-- Following a manager (R432) changes the fabric's view of it, with an event where the manager is another. -/
theorem State.elect_cases (s : State) : ∃ f d, f.waiting = s.fab.waiting ∧
    (s.elect = { s with fab := f } ∨ s.elect = ({ s with fab := f } : State).logEvent .autonomous 6 Reg.KEY_FAB_STATUS d) := by
  simp only [State.elect]
  generalize List.foldl _ none s.cands = best
  cases best with
  | none =>
    by_cases h : s.fab.mgrDigest = []
    · refine ⟨_, 0, ?_, .inl (if_pos h)⟩; rfl
    · refine ⟨_, 63, ?_, .inr (if_neg h)⟩; rfl
  | some c =>
    by_cases h : (s.fab.mgrDigest = c.digest && s.fab.mgrHost == (c.prio == 0)) = true
    · refine ⟨_, 0, ?_, .inl (if_pos h)⟩; rfl
    · refine ⟨_, c.dist, ?_, .inr (if_neg h)⟩; rfl

/-- It never changes the packets that wait, memory, or a register but KEY_PST_STATUS, and the log only grows. -/
theorem State.elect_keeps (s : State) : s.elect.fab.waiting = s.fab.waiting ∧ s.elect.mem = s.mem ∧ s.log.next ≤ s.elect.log.next ∧
    ∀ q, q ≠ Reg.KEY_PST_STATUS → s.elect.reg q = s.reg q := by
  obtain ⟨f, d, hwait, h | h⟩ := s.elect_cases
  · rw [h]
    exact ⟨hwait, rfl, Nat.le_refl _, fun _ _ => rfl⟩
  · rw [h]
    refine ⟨by rw [State.logEvent_fab]; exact hwait, by rw [State.logEvent_mem],
      State.log_next_le_logAuto { s with fab := f } _ _ _ _, fun q hq => ?_⟩
    exact State.reg_logAuto_ne _ _ _ _ _ hq

/-- A write of KEY_DEV_ID that is accepted (R417): the ID is logged and stored, and the election follows. -/
theorem State.wDevId_accepted {o : Origin} {dev : Nat} {v : Word} (hk : s.dieUp dieK = true) (hfree : s.idFree v = true) (hf : s.logFull = false)
    (hv : v &&& 0x7FFC0000 = 0) : s.wDevId o dev v =
      ((s.logChange o 0 Reg.KEY_DEV_ID (regValue o dev (s.reg Reg.KEY_DEV_ID) v 0x8003FFFF)).setReg Reg.KEY_DEV_ID v).elect := by
  have hb : s.blockAnswers Reg.KEY_DEV_ID = true := by simp [State.blockAnswers, hk]
  have hgate : gatedBlock Reg.KEY_DEV_ID = false := by decide
  have hreg : isReg Reg.KEY_DEV_ID .rw 0x8003FFFF 0x8003FFFF = true := by decide +kernel
  obtain ⟨d, hr, hd, hm, hl⟩ := regAt_of_isReg hreg
  have hclean : v &&& ~~~ d.mask = 0 := by rw [hm]; exact hv
  have hne : d.logMask ≠ 0#32 := by rw [hl]; decide
  have hown : dropIf (!s.idFree v) = none := by rw [hfree]; rfl
  have heff : d.eff false (s.reg Reg.KEY_DEV_ID) v = v := by rw [RegDesc.eff_rw hd, and_mask_of_clean hclean]
  rw [State.wDevId, hown, State.gate_logged hb (by simp [hgate]) hr (RegDesc.hasRwl_only hd (by decide)) hne hclean hf, heff, hl,
    State.keepReg_only _ hr hd (by decide)]

/-- What an accepted write of KEY_DEV_ID by a management request leaves. -/
theorem State.wDevId_fabric {dev : Nat} {v : Word} (hk : s.dieUp dieK = true) (hfree : s.idFree v = true) (hq : quietLog s)
    (hv : v &&& 0x7FFC0000 = 0) : let t := s.wDevId .fabric dev v
    t.reg Reg.KEY_DEV_ID = v ∧ s.log.next < t.log.next ∧ t.fab.waiting = s.fab.waiting ∧ t.mem = s.mem := by
  obtain ⟨-, hu, hf⟩ := hq
  simp only [State.wDevId_accepted hk hfree hf hv, s.logChange_put (o := .fabric) (by decide) (by decide) hu]
  obtain ⟨hwait, hmem, hnext, hreg⟩ := State.elect_keeps
    ((s.logPut (originCode .fabric) 0 Reg.KEY_DEV_ID (regValue .fabric dev (s.reg Reg.KEY_DEV_ID) v 0x8003FFFF)).setReg Reg.KEY_DEV_ID v)
  rw [State.setReg_log, State.logPut_log] at hnext
  refine ⟨?_, hnext, ?_, ?_⟩
  · rw [hreg _ (by decide), State.reg_setReg]
  · rw [hwait, State.setReg_fab, State.logPut_fab]
  · rw [hmem, State.setReg_mem, State.logPut_mem]

/-- Settles O36: a request is served as the same access from inside, and its answer leaves by the one port of the route back. -/
theorem managementResults : Obligations.ManagementResults := by
  intro port p out s hin hp hway hk
  have ⟨_, htype, _, _, honly⟩ := hin
  have hanswer : ∀ st d, replied s (s.reply out p st d) out dieK p st d ∧ keeps s (s.reply out p st d) [.fab] :=
    fun st d => ⟨replied_reply s out p st d, keeps_reply s out p st d⟩
  refine ⟨fun hmod hoff => ?regRead, fun hmod hacc => ?regWriteRefused, fun hmod hacc hw hm => ?regWrite,
    fun hmod => ⟨?reachWaits, fun u hu honlyU hwayU => ?reachCmd⟩, fun hmod => ⟨fun hdie hzero => ?query, fun hdie => ?queryNone⟩,
    fun hmod => ⟨fun hacc => ?assignRefused, fun hacc hfree => ?assignBusy, fun hacc hfree hq hv honlyT hwayT => ?assign⟩⟩
  case regRead =>
    have hs := SameWays.readReg s (bfld p.payload 0 4) 32
    exact ⟨_, execRegRead_answers hin hp hway hk hmod hoff, hs.replied, rfl, keeps_readReg_reply ..⟩
  case regWriteRefused =>
    exact ⟨_, execRegWrite_refused hin hp hway hk hmod hacc, hanswer 11 []⟩
  case regWrite =>
    obtain ⟨⟨_, m⟩, hm, rfl⟩ := List.mem_map.mp (show bfld p.payload 0 4 ∈ mgmtSelects.map Prod.fst from hm)
    have hsel := (mgmtSelects_select _ hm).1
    obtain ⟨hs, href, hkeep⟩ := s.select_write (v := BitVec.ofNat 32 (bfld p.payload 4 4)) hm
    have hregs := congrArg State.regs (State.writeReg_select (o := .fabric) (dev := 0) (v := BitVec.ofNat 32 (bfld p.payload 4 4)) hw hsel)
    refine ⟨_, _, execRegWrite_accepted hin hp hway hk hmod hacc (State.writeReg_select hw hsel) href hs, ?_, hregs.symm, hs.replied,
      hkeep _ _ _ _⟩
    rw [exec_registerWrite, State.yield_zero]
  case reachWaits =>
    exact (execReachCmd_answers hin hp hk hmod).1
  case reachCmd =>
    exact ⟨_, (execReachCmd_answers hin hp hk hmod).2 u hu honlyU hwayU, replied_reply .., keeps_reply ..⟩
  case query =>
    have hq : s.query p.payload = (0, (List.range 8).flatMap fun i => s.queryRec (8 * bfld p.payload 0 1 + i)) := by
      simp only [State.query, hzero, Bool.not_true, Bool.or_false, decide_eq_true_eq, if_neg (Nat.not_le.mpr hdie)]
    refine ⟨_, execQuery_answers hin hp hway hk hmod, keeps_reply .., ?_⟩
    rw [hq]; exact replied_reply ..
  case queryNone =>
    have hq : s.query p.payload = (10, []) := by simp [State.query, hdie]
    refine ⟨_, execQuery_answers hin hp hway hk hmod, ?_, keeps_reply ..⟩
    rw [hq]; exact replied_reply ..
  case assignRefused =>
    have ha : s.assign p .fabric (s.mgmtAccepts p) p.payload = (s, 11) := by simp [State.assign, hacc]
    exact ⟨_, execAssign_answers hin hp hk hmod ha honly hway, hanswer 11 []⟩
  case assignBusy =>
    have ha : s.assign p .fabric (s.mgmtAccepts p) p.payload = (s, 10) := by simp [State.assign, hacc, hfree]
    exact ⟨_, execAssign_answers hin hp hk hmod ha honly hway, hanswer 10 []⟩
  case assign =>
    have ⟨_, _, hfull⟩ := hq
    have ha : s.assign p .fabric (s.mgmtAccepts p) p.payload = (s.wDevId .fabric p.src (BitVec.ofNat 32 (bfld p.payload 0 4)), 0) := by
      simp [State.assign, hacc, hfree, hfull, mgmtWriter, hp]
    obtain ⟨hreg, hnext, hwait, hmem⟩ := State.wDevId_fabric (dev := p.src) hk hfree hq hv
    refine ⟨_, execAssign_answers hin hp hk hmod ha honlyT hwayT, hreg, hnext, ⟨_, congrArg (· ++ _) hwait, rfl, ?_, rfl, rfl⟩, hmem⟩
    simp [replyTo, answerType, htype]

end Sys2Proof.Machine
end

section
/-! PROOF. Frames compose. -/

namespace Sys2Proof.Machine

variable {s t u : State} {l m : List SPart}

theorem keeps_refl (s : State) (l : List SPart) : keeps s s l := by simp [keeps]

/-- A frame may be named more widely. -/
theorem keeps_mono (h : keeps s t l) (hsub : l ⊆ m) : keeps s t m := by
  have widen : ∀ {p : SPart} {q : Prop}, p ∈ l ∨ q → p ∈ m ∨ q := fun h => h.imp (fun hp => hsub hp) id
  obtain ⟨h0, h⟩ := h
  refine ⟨h0, ?_⟩
  repeat (obtain ⟨hpart, h⟩ := h; refine ⟨widen hpart, ?_⟩)
  exact widen h

/-- What two steps in a row keep. -/
theorem keeps_trans (h : keeps s t l) (k : keeps t u l) : keeps s u l := by
  have chain : ∀ {p : SPart} {α : Type} {x y z : α}, p ∈ l ∨ y = x → p ∈ l ∨ z = y → p ∈ l ∨ z = x := by
    rintro p α x y z (h | rfl) (k | rfl)
    · exact .inl h
    · exact .inl h
    · exact .inl k
    · exact .inr rfl
  obtain ⟨h0, h⟩ := h
  obtain ⟨k0, k⟩ := k
  refine ⟨k0.trans h0, ?_⟩
  repeat (obtain ⟨hpart, h⟩ := h; obtain ⟨kpart, k⟩ := k; refine ⟨chain hpart kpart, ?_⟩)
  exact chain h k

theorem keeps_setReach (s : State) (r : Nat) (x : Reach) : keeps s (s.setReach r x) [.reaches] := by simp [keeps]

theorem keeps_freshId (s : State) : keeps s s.freshId [.opNext] := by simp [keeps]

end Sys2Proof.Machine
end

section
/-! PROOF. A command's bytes where one field of them was replaced. -/

namespace Sys2Proof.Machine

/-- A field before the one replaced reads as before. -/
theorem bfld_bput_before {b : List Byte} {lo n v k m : Nat} (h : k + m ≤ lo) (hl : lo ≤ b.length) : bfld (bput b lo n v) k m = bfld b k m := by
  have hlen : (b.take lo).length = lo := List.length_take_of_le hl
  have htake : ((bput b lo n v).drop k).take m = ((b.take lo).drop k).take m := by
    rw [bput, List.append_assoc, List.drop_append_of_le_length (by omega), List.take_append_of_le_length (by rw [List.length_drop]; omega)]
  rw [bfld, htake, List.drop_take, List.take_take, Nat.min_eq_left (by omega), bfld]

/-- A field behind the one replaced reads as before. -/
theorem bfld_bput_after {b : List Byte} {lo n v k m : Nat} (h : lo + n ≤ k) (hl : lo ≤ b.length) : bfld (bput b lo n v) k m = bfld b k m := by
  have hlen : (b.take lo ++ toBytesLE n v).length = lo + n := by simp [List.length_take_of_le hl]
  have hdrop : (bput b lo n v).drop k = b.drop k := by
    rw [bput, List.drop_append, hlen, List.drop_eq_nil_of_le (by omega), List.nil_append, List.drop_drop]
    congr 1; omega
  rw [bfld, hdrop, bfld]

section
variable {b : List Byte} (h : 2 ≤ b.length) (v : Nat)
include h

theorem cmdOp_bput_epoch : cmdOp (bput b 2 1 v) = cmdOp b := bfld_bput_before (by omega) h

theorem cmdTarget_bput_epoch : cmdTarget (bput b 2 1 v) = cmdTarget b := bfld_bput_after (by omega) h

theorem cmdExempt_bput_epoch : cmdExempt (bput b 2 1 v) = cmdExempt b := by simp only [cmdExempt, cmdOp_bput_epoch h]

end

end Sys2Proof.Machine
end

section
/-! PROOF. Reaches below the groups keep their counters and pools in their own tables, and no memory shows their queues (R49, R52, R68). -/

namespace Sys2Proof.Machine

variable (s : State) {r : Nat}

/-- Only groups have a context (R68). -/
theorem State.groupCtx_low (h : ridLevel r < 4) : s.groupCtx r = none := by simp [State.groupCtx, Nat.not_le.mpr h]

theorem State.ctxWord_low (h : ridLevel r < 4) (off : Nat) : s.ctxWord r off = none := by simp [State.ctxWord, Nat.not_le.mpr h]

theorem State.pool_low (h : ridLevel r < 4) (p : Nat) : s.pool r p = tget 0 (s.reach r).poolCnt p := by
  rw [State.pool, s.ctxWord_low h]

theorem State.poolCap_low (h : ridLevel r < 4) (p : Nat) : s.poolCap r p = tget 0 (s.reach r).poolCap p := by
  rw [State.poolCap, s.ctxWord_low h]

theorem State.setPool_low (h : ridLevel r < 4) (p : Nat) (v : Word) :
    s.setPool r p v = s.setReach r { s.reach r with poolCnt := tset 0 (s.reach r).poolCnt p v } := by
  rw [State.setPool, s.ctxWord_low h]

theorem State.showQueue_low (h : ridLevel r < 4) : s.showQueue r = s := by rw [State.showQueue, s.groupCtx_low h]

/-! ### What held commands entering a queue change (R48) -/

@[simp] theorem State.showQueue_reaches (r : Nat) : (s.showQueue r).reaches = s.reaches := by
  unfold State.showQueue; split <;> simp

theorem State.reach_congr {s t : State} (h : t.reaches = s.reaches) (q : Nat) : t.reach q = s.reach q := by simp only [State.reach, h]

theorem keeps_showQueue (r : Nat) : keeps s (s.showQueue r) [.mem] := by
  unfold State.showQueue; split <;> simp [keeps]

theorem State.reach_pullQueue (r : Nat) : (s.pullQueue r).reach r = (s.reach r).pull (s.weirOf r).queue.length := by
  rw [State.pullQueue, State.reach_congr (State.showQueue_reaches _ r), State.reach_setReach]

theorem State.reach_pullQueue_ne {q : Nat} (h : q ≠ r) : (s.pullQueue r).reach q = s.reach q := by
  rw [State.pullQueue, State.reach_congr (State.showQueue_reaches _ r), State.reach_setReach_ne _ _ _ _ h]

/-- The parts that a command's entering a queue changes: its reach, and a group's context. -/
def queueParts (r : Nat) : List SPart := if ridLevel r < 4 then [.reaches] else [.reaches, .mem]

theorem reaches_subset_queueParts (r : Nat) : [SPart.reaches] ⊆ queueParts r := by unfold queueParts; split <;> simp

theorem keeps_pullQueue (r : Nat) : keeps s (s.pullQueue r) (queueParts r) := by
  rw [State.pullQueue]
  have hset := keeps_mono (keeps_setReach s r ((s.reach r).pull (s.weirOf r).queue.length)) (reaches_subset_queueParts r)
  by_cases h : ridLevel r < 4
  · rwa [State.showQueue_low _ h]
  · exact keeps_trans hset (keeps_mono (keeps_showQueue _ r) (by simp [queueParts, h]))

/-- Nothing enters where nothing is held. -/
theorem Reach.pull_nil {x : Reach} (h : x.held = []) (other : Nat) : x.pull other = x := by
  cases x; simp_all [Reach.pull]

/-- The one held command enters a queue that has room. -/
theorem Reach.pull_one {x : Reach} (h : x.held = []) (c : QCmd) {other : Nat} (hroom : x.queue.length + other < 1024) :
    Reach.pull { x with held := [c] } other = { x with queue := x.queue ++ [c] } := by
  obtain ⟨n, hn⟩ : ∃ n, 1024 - (x.queue.length + other) = n + 1 := ⟨1024 - (x.queue.length + other) - 1, by omega⟩
  cases x; simp_all [Reach.pull]

/-- No held command enters a full queue. -/
theorem Reach.pull_full {x : Reach} {other : Nat} (hfull : 1024 ≤ x.queue.length + other) : x.pull other = x := by
  simp [Reach.pull, Nat.sub_eq_zero_of_le hfull]

end Sys2Proof.Machine
end

section
/-! PROOF. COMMAND_ENQUEUE (R45 to R48, R54, R62). -/

namespace Sys2Proof.Machine

variable (s : State)

/-- A command that joins its reach touches no other reach and nothing but the reach and what shows its queue. -/
theorem State.enqueue_frame (c : QCmd) : (∀ q, q ≠ cmdTarget c.bytes → (s.enqueue c).reach q = s.reach q) ∧
    keeps s (s.enqueue c) (queueParts (cmdTarget c.bytes)) := by
  unfold State.enqueue
  dsimp only
  split
  · refine ⟨fun q hq => ?_, keeps_trans (keeps_mono (keeps_setReach _ _ _) (reaches_subset_queueParts _)) (keeps_pullQueue _ _)⟩
    rw [State.reach_pullQueue_ne _ hq, State.reach_setReach_ne _ _ _ _ hq]
  · exact ⟨fun q hq => State.reach_setReach_ne _ _ _ _ hq, keeps_mono (keeps_setReach _ _ _) (reaches_subset_queueParts _)⟩

theorem State.enqueue_opNext (c : QCmd) : (s.enqueue c).opNext = s.opNext := by
  have h := (s.enqueue_frame c).2
  unfold queueParts at h
  split at h <;> simpa using h.2.2.1

section
variable {s} {c : QCmd} {r : Nat} (hr : cmdTarget c.bytes = r)
include hr

/-- Behind a lost path a command is over with LINK_LOST (R32, R350). -/
theorem State.enqueue_lost (hpath : s.diePath c.fromDie (ridDie r) = false) :
    s.enqueue c = s.setReach r { s.reach r with running := (s.reach r).running ++ [c.settle 7] } := by
  subst hr; simp [State.enqueue, hpath]

variable (hpath : s.diePath c.fromDie (ridDie r) = true) (hheld : (s.reach r).held = [])
include hpath hheld

/-- On a path, a command joins what its reach holds back, and enters the queue as far as that has room. -/
theorem State.reach_enqueue : (s.enqueue c).reach r = Reach.pull { s.reach r with held := [c] } (s.weirOf r).queue.length := by
  subst hr
  rw [State.enqueue, if_pos hpath, State.reach_pullQueue, State.reach_setReach, hheld, List.nil_append]
  rfl

theorem State.reach_enqueue_room (hroom : s.depth r < 1024) :
    (s.enqueue c).reach r = { s.reach r with queue := (s.reach r).queue ++ [c] } :=
  (State.reach_enqueue hr hpath hheld).trans (Reach.pull_one hheld c hroom)

theorem State.reach_enqueue_full (hfull : 1024 ≤ s.depth r) : (s.enqueue c).reach r = { s.reach r with held := [c] } :=
  (State.reach_enqueue hr hpath hheld).trans (Reach.pull_full hfull)

end

/-- The command that a 64-byte record becomes where it is admitted: a new identity, its placement's epoch in byte 2 (R54). -/
def State.admitted (iss : Issuer) (b : List Byte) : QCmd :=
  QCmd.mk s.opNext iss (bput b 2 1 (if wuItem (cmdWu b) = 0 then 0 else (s.plcE (wuItem (cmdWu b))).epoch)) none false false

variable {s} {iss : Issuer} {bytes : List Byte}

/-- An issuer that waits for no completion sends its command straight to its target. -/
theorem exec_commandEnqueue (h : iss = .mgmt ∨ iss = .none) :
    exec (.commandEnqueue iss bytes) s = .next ((s.arrive iss bytes).getD s) := by
  obtain rfl | rfl := h <;> rfl

/-- A command that no old placement keeps enters its target's queue, stamped with its placement's epoch (R54, R76). -/
theorem State.admitCmd_enqueue {c : QCmd} (hlen : 2 ≤ c.bytes.length)
    (here : cmdExempt c.bytes = true ∨ s.atOld (wuItem (cmdWu c.bytes)) (cmdTarget c.bytes) = false) : s.admitCmd c = some (s.enqueue
      { c with bytes := bput c.bytes 2 1 (if wuItem (cmdWu c.bytes) = 0 then 0 else (s.plcE (wuItem (cmdWu c.bytes))).epoch) }) := by
  have hold : (!cmdExempt c.bytes && s.atOld (wuItem (cmdWu c.bytes)) (cmdTarget c.bytes)) = false := by
    obtain h | h := here <;> simp [h]
  simp only [State.admitCmd, cmdExempt_bput_epoch hlen, hold, Bool.false_eq_true, if_false]

/-- An arriving command is admitted under a new identity, or turned away, as its checks say (R46). -/
theorem State.arrive_eq (s : State) (iss : Issuer) (bytes : List Byte) : s.arrive iss bytes =
    if s.cmdCheck (padTo 64 bytes) = 0 then
      s.freshId.admitCmd { id := s.opNext, iss, bytes := padTo 64 bytes, share := none, deferred := false, rampHeld := false }
    else s.cmdReject iss (padTo 64 bytes) (s.cmdCheck (padTo 64 bytes)) := by
  unfold State.arrive
  dsimp only
  generalize s.cmdCheck (padTo 64 bytes) = st
  cases st <;> rfl

theorem State.arrive_enqueue (hc : s.cmdCheck (padTo 64 bytes) = 0)
    (here : cmdExempt (padTo 64 bytes) = true ∨ s.atOld (wuItem (cmdWu (padTo 64 bytes))) (cmdTarget (padTo 64 bytes)) = false) :
    s.arrive iss bytes = some (s.freshId.enqueue (s.admitted iss (padTo 64 bytes))) := by
  rw [State.arrive_eq, if_pos hc, State.admitCmd_enqueue (s := s.freshId) (by simp) here]
  rfl

/-- What the two come to for a command from outside. -/
theorem exec_commandEnqueue_enters (hi : iss = .mgmt ∨ iss = .none) (hc : s.cmdCheck (padTo 64 bytes) = 0)
    (here : cmdExempt (padTo 64 bytes) = true ∨ s.atOld (wuItem (cmdWu (padTo 64 bytes))) (cmdTarget (padTo 64 bytes)) = false) :
    exec (.commandEnqueue iss bytes) s = .next (s.freshId.enqueue (s.admitted iss (padTo 64 bytes))) := by
  rw [exec_commandEnqueue hi, State.arrive_enqueue hc here, Option.getD_some]

theorem keeps_freshId_enqueue (s : State) (c : QCmd) : keeps s (s.freshId.enqueue c)
    (if ridLevel (cmdTarget c.bytes) < 4 then [.reaches, .opNext] else [.reaches, .opNext, .mem]) := by
  have hkeep := (s.freshId.enqueue_frame c).2
  unfold queueParts at hkeep
  split_ifs at hkeep ⊢
  · exact keeps_trans (keeps_mono (keeps_freshId s) (by simp)) (keeps_mono hkeep (by simp))
  · exact keeps_trans (keeps_mono (keeps_freshId s) (by simp)) (keeps_mono hkeep (by simp))

theorem State.cmdTarget_admitted (s : State) (iss : Issuer) {b : List Byte} (h : 2 ≤ b.length) :
    cmdTarget (s.admitted iss b).bytes = cmdTarget b := cmdTarget_bput_epoch h _

/-- A command from outside comes from the keystone (R45). -/
theorem State.fromDie_admitted (s : State) (hi : iss = .mgmt ∨ iss = .none) (b : List Byte) : (s.admitted iss b).fromDie = dieK := by
  obtain rfl | rfl := hi <;> rfl

/-- A command that fails its checks and names no signal leaves an error record alone (R62). -/
theorem State.arrive_reject (hi : iss = .mgmt ∨ iss = .none) (hc : s.cmdCheck (padTo 64 bytes) ≠ 0)
    (hsig : (cmdSig (padTo 64 bytes)).valid = false) : s.arrive iss bytes = some (s.raiseStatus (s.cmdCheck (padTo 64 bytes))
      (ridDie (cmdTarget (padTo 64 bytes))) (cmdTarget (padTo 64 bytes)) none (cmdOp (padTo 64 bytes))) := by
  rw [State.arrive_eq, if_neg hc]
  obtain rfl | rfl := hi <;> simp [State.cmdReject, State.sendHeader, HSig.sendable, hsig, State.report]

end Sys2Proof.Machine
end

section
/-! PROOF. COMMAND_START (R52, R58 to R61). -/

namespace Sys2Proof.Machine

variable {s : State} {r : Nat} {c : QCmd} {rest : List QCmd}

theorem exec_commandStart (s : State) (r : Nat) : exec (.commandStart r) s = .next (s.startEval r) := rfl

/-- The oldest entry of a reach's queue, with no command block before it, is the first of the window (R59, R201). -/
theorem State.startWindow_cons (hq : (s.reach r).queue = c :: rest) (hb : s.blocksBefore r c.id = 0) :
    ∃ w, s.startWindow r = (c :: w, true) ∧ (rest = [] → w = []) := by
  simp only [State.startWindow, hq, List.take_succ_cons, List.zipIdx_cons, List.filter_cons, hb]
  exact ⟨_, rfl, fun h => by simp [h]⟩

/-- What the queue status shows of the evaluation of its oldest entry (R63, R83). -/
def State.showBlock (s : State) (r : Nat) (w cr d : Bool) : State :=
  s.setReach r { s.reach r with blockWait := w, blockCredit := cr, defer := d }

/-- The evaluation of the oldest entry of a live reach. -/
theorem State.startEval_head (hlive : s.reachLive r = true) (hq : (s.reach r).queue = c :: rest) (hb : s.blocksBefore r c.id = 0) :
    ∃ w, (rest = [] → w = []) ∧ s.startEval r = match s.evalCmd r c with
      | .start u => (u.startCmd r c none).showBlock r false false false
      | .under => (s.startCmd r c (some 5)).showBlock r false false false
      | .wait w' cr d ramp =>
        let t := s.showBlock r w' cr d
        (if d then t.countDefer r c ramp else t).startFrom r false w := by
  obtain ⟨w, hw, hnil⟩ := State.startWindow_cons hq hb
  refine ⟨w, hnil, ?_⟩
  rw [State.startEval, if_pos hlive, hw, State.startFrom]
  simp only [Bool.not_true, Bool.false_and, Bool.false_eq_true, if_false, if_true]
  rfl

/-! ### What an evaluation finds (R52, R58) -/

/-- The device after a command took its credits of a pool (R52). -/
def State.spend (s : State) (r p n : Nat) : State := if n = 0 then s else s.setPool r p (s.pool r p - BitVec.ofNat 32 n)

theorem State.evalCmd_under (h : (s.poolCap r (cmdPool c.bytes)).toNat < cmdCredits c.bytes) : s.evalCmd r c = .under := by
  simp [State.evalCmd, h]

/-- Without a declaration of energy nothing is charged (R510). -/
theorem State.cmdAdmit_zero (s : State) (r : Nat) {c : QCmd} (h : cmdNj c.bytes = 0) : s.cmdAdmit r c = .ok s := by
  have hz : ∀ l k n, s.admitCharge l k 0 n = .ok s := fun _ _ _ => rfl
  unfold State.cmdAdmit
  simp only [h, hz]
  split_ifs <;> rfl

/-- Waits that consume nothing leave the counters (R58). -/
theorem State.consume_none (s : State) (r : Nat) {b : List Byte} (h1 : cmdFlag b 1 = false) (h2 : cmdFlag b 2 = false) : s.consume r b = s := by
  simp [State.consume, h1, h2]

section
variable (hcap : cmdCredits c.bytes ≤ (s.poolCap r (cmdPool c.bytes)).toNat) (hroom : s.roomFor r (cmdOp c.bytes) = true)
  (hmig : s.migrateHeld c.bytes = false)
include hcap hroom hmig

theorem State.evalCmd_wait (hw : s.waitsOk r c.bytes = false) : s.evalCmd r c = .wait true false false false := by
  simp [State.evalCmd, Nat.not_lt.mpr hcap, hroom, hmig, hw]

theorem State.evalCmd_start (hw : s.waitsOk r c.bytes = true) (hnj : cmdNj c.bytes = 0) (h1 : cmdFlag c.bytes 1 = false)
    (h2 : cmdFlag c.bytes 2 = false) (hcr : cmdCredits c.bytes ≤ (s.pool r (cmdPool c.bytes)).toNat) : s.evalCmd r c =
      .start (s.spend r (cmdPool c.bytes) (cmdCredits c.bytes)) := by
  simp only [State.evalCmd, Nat.not_lt.mpr hcap, hroom, hmig, hw, Nat.not_lt.mpr hcr, State.cmdAdmit_zero s r hnj, State.consume_none s r h1 h2, if_false,
    Bool.not_true, Bool.or_self, Bool.false_eq_true]
  rfl

end

/-! ### A command that starts -/

/-- A reach whose command left the queue for the running commands. -/
def Reach.started (x : Reach) (c : QCmd) (done : Option Nat) : Reach :=
  { x with queue := x.queue.filter (·.id ≠ c.id),
           running := x.running ++ [RCmd.mk c.id c.iss c.bytes c.share done.isSome done 0 0 0 false] }

theorem State.startCmd_eq (s : State) (r : Nat) (c : QCmd) (done : Option Nat) :
    s.startCmd r c done = (s.setReach r ((s.reach r).started c done)).pullQueue r := rfl

/-- The oldest command leaves the rest of the queue behind. -/
theorem Reach.started_cons {x : Reach} (hq : x.queue = c :: rest) (hne : ∀ y ∈ rest, y.id ≠ c.id) (done : Option Nat) : x.started c done =
    { x with queue := rest, running := x.running ++ [RCmd.mk c.id c.iss c.bytes c.share done.isSome done 0 0 0 false] } := by
  have hfilter : (c :: rest).filter (·.id ≠ c.id) = rest := by
    rw [List.filter_cons_of_neg (by simp), List.filter_eq_self.mpr (by simpa using hne)]
  rw [Reach.started, hq, hfilter]

/-- Where nothing is held, nothing enters the queue in its place. -/
theorem State.reach_startCmd (hheld : (s.reach r).held = []) (done : Option Nat) :
    (s.startCmd r c done).reach r = (s.reach r).started c done := by
  rw [State.startCmd_eq, State.reach_pullQueue, State.reach_setReach]
  exact Reach.pull_nil (x := (s.reach r).started c done) hheld _

theorem State.reach_startCmd_ne {q : Nat} (h : q ≠ r) (done : Option Nat) : (s.startCmd r c done).reach q = s.reach q := by
  rw [State.startCmd_eq, State.reach_pullQueue_ne _ h, State.reach_setReach_ne _ _ _ _ h]

theorem keeps_startCmd (hlow : ridLevel r < 4) (done : Option Nat) : keeps s (s.startCmd r c done) [.reaches] := by
  have hpull := keeps_pullQueue (s.setReach r ((s.reach r).started c done)) r
  rw [queueParts, if_pos hlow] at hpull
  rw [State.startCmd_eq]
  exact keeps_trans (keeps_setReach _ _ _) hpull

/-- What the status shows is no part of the queue, of what runs, of the counters or of the pools. -/
theorem State.reach_showBlock (s : State) (r : Nat) (w cr d : Bool) :
    (s.showBlock r w cr d).reach r = { s.reach r with blockWait := w, blockCredit := cr, defer := d } := State.reach_setReach _ _ _

theorem State.reach_showBlock_ne {q : Nat} (h : q ≠ r) (w cr d : Bool) : (s.showBlock r w cr d).reach q = s.reach q :=
  State.reach_setReach_ne _ _ _ _ h

theorem keeps_startCmd_showBlock (hlow : ridLevel r < 4) (done : Option Nat) (w cr d : Bool) :
    keeps s ((s.startCmd r c done).showBlock r w cr d) [.reaches] :=
  keeps_trans (keeps_startCmd hlow done) (keeps_setReach _ _ _)

/-- Credits are taken of one pool of one reach. -/
theorem State.spend_spec (s : State) (hlow : ridLevel r < 4) (p : Nat) {n : Nat} (hn : n ≤ (s.pool r p).toNat) :
    (∃ cnt, (s.spend r p n).reach r = { s.reach r with poolCnt := cnt } ∧ (tget 0 cnt p).toNat = (s.pool r p).toNat - n) ∧
      (∀ q, q ≠ r → (s.spend r p n).reach q = s.reach q) ∧ keeps s (s.spend r p n) [.reaches] := by
  unfold State.spend
  split
  case isTrue h =>
    exact ⟨⟨(s.reach r).poolCnt, rfl, by rw [← s.pool_low hlow, h, Nat.sub_zero]⟩, fun _ _ => rfl, keeps_refl _ _⟩
  case isFalse h =>
    rw [s.setPool_low hlow]
    refine ⟨⟨_, State.reach_setReach _ _ _, ?_⟩, fun q hq => State.reach_setReach_ne _ _ _ _ hq, keeps_setReach _ _ _⟩
    have hlt := (s.pool r p).isLt
    have hsmall : n % 2 ^ 32 = n := Nat.mod_eq_of_lt (by omega)
    rw [tget_tset_self, BitVec.toNat_sub_of_le (by rwa [BitVec.le_def, BitVec.toNat_ofNat, hsmall]), BitVec.toNat_ofNat, hsmall]

end Sys2Proof.Machine
end

section
/-! PROOF. COMMAND_COMPLETE (R62, R67). -/

namespace Sys2Proof.Machine

variable {s : State} {r id d : Nat} {y : RCmd}

theorem exec_commandComplete (r id : Nat) (s : State) : exec (.commandComplete r id) s = execCommandComplete r id s := rfl

/-- A reach of this device is no group whose context is gone (R68, R69). -/
theorem State.groupBad_of_here (h : s.reachHere r = true) : s.groupBad r = false := by
  simp only [State.reachHere, Bool.and_eq_true, Bool.or_eq_true, decide_eq_true_eq] at h
  obtain ⟨-, hlow | hctx⟩ := h
  · simp [State.groupBad, Nat.not_le.mpr hlow]
  · simp [State.groupBad, Option.isSome_iff_ne_none.mp hctx]

/-- The device after a command left the running commands. -/
def State.retire (s : State) (r id : Nat) : State := s.setReach r { s.reach r with running := (s.reach r).running.filter (·.id ≠ id) }

/-- A command that is over and names no signal leaves the running commands, and its status goes into a record and to its issuer. -/
theorem execCommandComplete_unsignalled (hfind : (s.reach r).running.find? (·.id == id) = some y) (hdone : y.done = some d) (hleft : y.left = 0)
    (hhere : s.reachHere r = true) (hup : s.dieUp (s.reportDie r) = true) (hawake : s.asleep = false) (hsent : y.sent = false)
    (hsig : (cmdSig y.bytes).valid = false) : execCommandComplete r id s =
      .next ((((s.retire r id).raiseStatus d (ridDie r) r none (cmdOp y.bytes)).report y.iss d y.data).getD s) := by
  have hst : (if d = 0 then 0 else d) = d := by split <;> simp_all
  simp only [execCommandComplete, hfind, State.groupBad_of_here hhere, hdone, hleft, hhere, hup, hawake, hsent, State.sendHeader, HSig.sendable,
    hsig, hst, ne_eq, not_true_eq_false, decide_false, Bool.false_and, Bool.false_eq_true, Bool.true_or, Bool.not_true, Bool.or_self, if_false]
  rfl

/-- A child of a split that ended well reports to its parent alone (R67). -/
theorem execCommandComplete_child {pr pid : Nat} (hfind : (s.reach r).running.find? (·.id == id) = some y) (hdone : y.done = some 0)
    (hleft : y.left = 0) (hhere : s.reachHere r = true) (hup : s.dieUp (s.reportDie r) = true) (hawake : s.asleep = false)
    (hsent : y.sent = false) (hsig : (cmdSig y.bytes).valid = false) (hi : y.iss = .parent pr pid) :
    exec (.commandComplete r id) s = .next ((s.retire r id).childDone pr pid 0 y.data) := by
  rw [exec_commandComplete, execCommandComplete_unsignalled hfind hdone hleft hhere hup hawake hsent hsig, hi]
  rfl

/-- A child's completion reaches its parent's commands (R67). -/
theorem State.running_childDone {pr pid st data : Nat} {z : RCmd} (hz : z ∈ (s.reach pr).running) (hid : z.id = pid) :
    { z with left := z.left - 1, fail := if z.fail = 0 then st else z.fail, data := z.data ||| data,
             done := if z.left ≤ 1 ∧ z.acted then some (if z.fail = 0 then st else z.fail) else z.done } ∈
      ((s.childDone pr pid st data).reach pr).running := by
  rw [State.childDone, State.reach_setReach]
  exact List.mem_map.mpr ⟨z, hz, if_pos hid⟩

end Sys2Proof.Machine
end

section
/-! PROOF. POOL_CAPACITY_WRITE (R83, R84). -/

namespace Sys2Proof.Machine

variable {s : State} {o : Origin} {off r : Nat} {v : Word}

/-- Every RCH_DATA register is 32 logged bits that software may write. -/
theorem rchData_rw {off : Nat} (h : isRchData off = true) : isReg off .rw 0xFFFFFFFF 0xFFFFFFFF = true := by
  have hkey : isReg Reg.KEY_RCH_DATA .rw 0xFFFFFFFF 0xFFFFFFFF = true := by decide +kernel
  have hdies : ∀ t ∈ List.range 4, isReg (Reg.Tt_RCH_DATA t) .rw 0xFFFFFFFF 0xFFFFFFFF = true := by decide +kernel
  have hweirs : ∀ n ∈ List.range 16, isReg (Reg.Wn_RCH_DATA n) .rw 0xFFFFFFFF 0xFFFFFFFF = true := by decide +kernel
  simp only [isRchData, Bool.or_eq_true, beq_iff_eq, List.any_eq_true] at h
  obtain (rfl | ⟨t, ht, rfl⟩) | ⟨n, hn, rfl⟩ := h
  · exact hkey
  · exact hdies t ht
  · exact hweirs n hn

/-- A pool's capacity, the count cut to it. -/
def State.cutPool (s : State) (r p : Nat) (v : Word) : State :=
  s.setReach r { s.reach r with
    poolCap := tset 0 (s.reach r).poolCap p v,
    poolCnt := if (s.pool r p).toNat > v.toNat then tset 0 (s.reach r).poolCnt p v else (s.reach r).poolCnt }

/-- An accepted write of a pool's capacity is logged and takes effect (R573). -/
theorem execPoolCapacityWrite_accepted (hoff : isRchData off = true) (hsel : s.rchSel off = ((s.rchSel off).1, some r))
    (hview : (s.rchSel off).1.fld 22 2 = 2) (hb : s.blockAnswers off = true) (ha : s.asleep = false) (hf : s.logFull = false) :
    ∃ value, exec (.poolCapacityWrite o off v) s =
      .next ((s.logChange o 0 off value).cutPool r ((s.rchSel off).1.fld 10 6) v) := by
  obtain ⟨d, hr, hd, hm, hl⟩ := regAt_of_isReg (rchData_rw hoff)
  have hall : (0xFFFFFFFF : Word) = BitVec.allOnes 32 := by decide
  have hclean : v &&& ~~~ d.mask = 0 := by rw [hm, hall]; simp
  have hne : d.logMask ≠ 0#32 := by rw [hl]; decide
  have heff : d.eff false (s.rchData off) v = v := by rw [RegDesc.eff_rw hd, and_mask_of_clean hclean]
  have harm : exec (.poolCapacityWrite o off v) s = .next (if isRchData off then s.wRchData o 0 off v else s) := rfl
  have hown : orElseIgn (ignoreIf (decide ((s.rchSel off).1.fld 22 2 ≠ 2)) Reg.KEY_RSVD_WRITES) (dropIf (some r).isNone) = none := by
    rw [hview]; rfl
  rw [harm, if_pos hoff, State.wRchData, hsel]
  simp only [hown]
  rw [State.gate_logged hb (by simp [ha]) hr (RegDesc.hasRwl_only hd (by decide)) hne hclean hf, heff]
  exact ⟨_, rfl⟩

/-- A pool's capacity reads as written, its count no greater, and nothing but the two of that pool changes. -/
theorem State.cutPool_spec (s : State) (hlow : ridLevel r < 4) (p : Nat) (v : Word) :
    (s.cutPool r p v).poolCap r p = v ∧ ((s.cutPool r p v).pool r p).toNat = min (s.pool r p).toNat v.toNat ∧
      ∀ q, q ≠ p → (s.cutPool r p v).poolCap r q = s.poolCap r q ∧ (s.cutPool r p v).pool r q = s.pool r q := by
  simp only [State.poolCap_low _ hlow, State.pool_low _ hlow, State.cutPool, State.reach_setReach]
  refine ⟨tget_tset_self _ _ _ _, ?_, fun q hq => ⟨tget_tset_ne _ _ _ _ _ _ hq, ?_⟩⟩
  · split
    · rw [tget_tset_self]; omega
    · omega
  · split
    · exact tget_tset_ne _ _ _ _ _ _ hq
    · rfl

end Sys2Proof.Machine
end

section
/-! PROOF. Reach commands enter a queue, start and complete. -/

namespace Sys2Proof.Machine

/-- Settles O14: each clause is the one case of the row that its conditions select. -/
theorem commandQueueing : Obligations.CommandQueueing := by
  refine ⟨fun iss bytes s hi => ?enqueue, fun r s c rest hlive hq hheld hne hlow hb hcap => ?under,
    fun r s c rest hlive hq hheld hne hlow hb hroom hmig hnj hcap => ⟨fun hw h1 h2 hcr => ?start, fun hw hnil => ?waits⟩,
    fun r id d s y hfind hdone hleft hhere hup hawake hsent hsig hheld hi => ?complete,
    fun r id d s y hfind hdone hleft hhere hup hawake hsent hsig hheld pr pid hi hpr hd => ?completeChild,
    fun o off r v s hoff hsel hview hb ha hf hlow => ?capacity⟩
  case enqueue =>
    intro b r e here parts
    have htarget : cmdTarget (s.admitted iss b).bytes = r := s.cmdTarget_admitted iss (by simp [b])
    have hfrom := s.fromDie_admitted hi b
    obtain ⟨hother, -⟩ := s.freshId.enqueue_frame (s.admitted iss b)
    have hkeep := keeps_freshId_enqueue s (s.admitted iss b)
    rw [htarget] at hother hkeep
    refine ⟨fun hc hhere hp hheld hroom => ?_, fun hc hhere hp hheld hfull => ?_, fun hc hhere hp => ?_, fun hc hsig => ?_⟩
    · have hreach := State.reach_enqueue_room (s := s.freshId) htarget (by rw [hfrom]; exact hp) hheld hroom
      exact ⟨_, exec_commandEnqueue_enters hi hc hhere, State.enqueue_opNext _ _, hreach, hother, hkeep⟩
    · have hreach := State.reach_enqueue_full (s := s.freshId) htarget (by rw [hfrom]; exact hp) hheld hfull
      exact ⟨_, exec_commandEnqueue_enters hi hc hhere, (congrArg Reach.queue hreach).trans rfl,
        (congrArg (fun x => x.held.map (·.id)) hreach).trans rfl, hkeep⟩
    · have hlost := State.enqueue_lost (s := s.freshId) htarget (by rw [hfrom]; exact hp)
      refine ⟨_, (exec_commandEnqueue_enters hi hc hhere).trans (congrArg _ hlost), ?_, ?_, by simp [keeps]⟩
      · rw [State.reach_setReach]; rfl
      · rw [State.reach_setReach, List.map_append]; rfl
    · rw [exec_commandEnqueue hi, State.arrive_reject hi hc hsig]; rfl
  case under =>
    obtain ⟨w, -, heval⟩ := State.startEval_head hlive hq hb
    rw [State.evalCmd_under hcap] at heval
    refine ⟨_, (exec_commandStart s r).trans (congrArg _ heval), ?_, ?_, ?_, keeps_startCmd_showBlock hlow _ _ _ _⟩
    · rw [State.reach_showBlock, State.reach_startCmd hheld, Reach.started_cons hq hne]
    · rw [State.pool_low _ hlow, State.pool_low _ hlow, State.reach_showBlock, State.reach_startCmd hheld, Reach.started]
    · rw [State.reach_showBlock, State.reach_startCmd hheld, Reach.started, List.map_append]; rfl
  case start =>
    obtain ⟨w, -, heval⟩ := State.startEval_head hlive hq hb
    rw [State.evalCmd_start hcap hroom hmig hw hnj h1 h2 hcr] at heval
    obtain ⟨⟨cnt, hreach, hcnt⟩, hother, hkeep⟩ := s.spend_spec hlow (cmdPool c.bytes) hcr
    have hstart : ((s.spend r (cmdPool c.bytes) (cmdCredits c.bytes)).startCmd r c none).reach r = { s.reach r with
        queue := rest, poolCnt := cnt, running := (s.reach r).running ++ [RCmd.mk c.id c.iss c.bytes c.share false none 0 0 0 false] } := by
      rw [State.reach_startCmd (by rw [hreach]; exact hheld), hreach]
      exact Reach.started_cons (x := { s.reach r with poolCnt := cnt }) hq hne none
    refine ⟨_, (exec_commandStart s r).trans (congrArg _ heval), ?_, ?_, ?_, ?_, fun q hqr => ?_,
      keeps_trans hkeep (keeps_startCmd_showBlock hlow _ _ _ _)⟩
    · rw [State.reach_showBlock, hstart]
    · rw [State.pool_low _ hlow, State.reach_showBlock, hstart]; exact hcnt
    · rw [State.reach_showBlock, hstart]
    · rw [State.reach_showBlock, hstart]
    · rw [State.reach_showBlock_ne hqr, State.reach_startCmd_ne hqr, hother q hqr]
  case waits =>
    obtain ⟨w, hw', heval⟩ := State.startEval_head hlive hq hb
    rw [State.evalCmd_wait hcap hroom hmig hw, hw' hnil] at heval
    exact (exec_commandStart s r).trans (congrArg _ heval)
  case complete =>
    rw [exec_commandComplete, execCommandComplete_unsignalled hfind hdone hleft hhere hup hawake hsent hsig]
    obtain hi | hi := hi <;> rw [hi] <;> rfl
  case completeChild =>
    subst hd
    refine ⟨_, execCommandComplete_child hfind hdone hleft hhere hup hawake hsent hsig hi, ?_, fun z hz hid => ?_, ?_⟩
    · rw [State.childDone, State.reach_setReach_ne _ _ _ _ (Ne.symm hpr), State.retire, State.reach_setReach]
    · have hz' : z ∈ ((s.retire r id).reach pr).running := by rwa [State.retire, State.reach_setReach_ne _ _ _ _ hpr]
      have hfail : (if z.fail = 0 then 0 else z.fail) = z.fail := by split <;> simp_all
      refine ⟨_, State.running_childDone (st := 0) (data := y.data) hz' hid, hid, rfl, hfail, rfl, ?_⟩
      simp only [hfail]
    · exact keeps_trans (keeps_setReach _ _ _) (keeps_setReach _ _ _)
  case capacity =>
    obtain ⟨value, hexec⟩ := execPoolCapacityWrite_accepted (o := o) (v := v) hoff hsel hview hb ha hf
    have hreaches : ∀ q, (s.logChange o 0 off value).reach q = s.reach q := State.reach_congr (State.logChange_reaches ..)
    obtain ⟨hcap, hcnt, hother⟩ := (s.logChange o 0 off value).cutPool_spec hlow ((s.rchSel off).1.fld 10 6) v
    simp only [State.poolCap_low _ hlow, State.pool_low _ hlow, hreaches] at hcap hcnt hother
    simp only [State.poolCap_low _ hlow, State.pool_low _ hlow]
    refine ⟨_, hexec, hcap, hcnt, hother, fun q hq => ?_, ?_, ?_, ?_⟩
    · rw [State.cutPool, State.reach_setReach_ne _ _ _ _ hq, hreaches]
    · rw [State.cutPool, State.reach_setReach, hreaches]
    · simp [State.cutPool]
    · simp [State.cutPool]

end Sys2Proof.Machine
end

section
/-! PROOF. The Bed FEC (R330): the remainder by the generator is linear, a codeword as sent has none, and one bit error is found at its place. -/

namespace Sys2Proof.Machine

/-- One step of the division clears the highest bit or finds it clear. -/
theorem polyMod_succ (g d n r : Nat) : polyMod g d (n + 1) r = polyMod g d n (if r.testBit (n + d) then r ^^^ (g <<< n) else r) :=
  force_eq _ _

/-- A number below the generator's degree is its own remainder. -/
theorem polyMod_of_lt (g d n : Nat) {r : Nat} (h : r < 2 ^ d) : polyMod g d n r = r := by
  induction n with
  | zero => rfl
  | succ n ih =>
    have hbit : r.testBit (n + d) = false := Nat.testBit_lt_two_pow (h.trans_le (Nat.pow_le_pow_right (by omega) (by omega)))
    rw [polyMod_succ, hbit, if_neg Bool.false_ne_true, ih]

/-- The remainder is linear over GF(2). -/
theorem polyMod_xor (g d n x y : Nat) : polyMod g d n (x ^^^ y) = polyMod g d n x ^^^ polyMod g d n y := by
  induction n generalizing x y with
  | zero => rfl
  | succ n ih =>
    have hcancel : ∀ a b c : Nat, (a ^^^ c) ^^^ (b ^^^ c) = a ^^^ b := fun a b c => by
      rw [Nat.xor_assoc, Nat.xor_comm b c, ← Nat.xor_assoc c c b, Nat.xor_self, Nat.zero_xor]
    simp only [polyMod_succ, Nat.testBit_xor]
    cases x.testBit (n + d) <;> cases y.testBit (n + d) <;>
      simp only [Bool.xor_false, Bool.false_xor, Bool.xor_self, if_true, Bool.false_eq_true, if_false, ← ih, hcancel]
    · rw [Nat.xor_assoc]
    · rw [Nat.xor_assoc, Nat.xor_comm y, ← Nat.xor_assoc]

/-- The remainder by a generator of degree d has d bits. -/
theorem polyMod_lt {g d : Nat} (hg : g < 2 ^ (d + 1)) (hd : g.testBit d = true) (n : Nat) {r : Nat} (hr : r < 2 ^ (n + d)) :
    polyMod g d n r < 2 ^ d := by
  induction n generalizing r with
  | zero => simpa [polyMod] using hr
  | succ n ih =>
    rw [polyMod_succ]
    apply ih
    have hshift : g <<< n < 2 ^ (n + d + 1) := by
      rw [Nat.shiftLeft_eq, show n + d + 1 = (d + 1) + n by omega, Nat.pow_add 2 (d + 1) n]
      exact Nat.mul_lt_mul_of_pos_right hg (Nat.two_pow_pos n)
    have hr' : r < 2 ^ (n + d + 1) := by rwa [show n + d + 1 = n + 1 + d by omega]
    -- Below the bit d + n that the step clears, n + d bits are left.
    apply Nat.lt_pow_two_of_testBit
    intro k hk
    obtain rfl | hk := Nat.eq_or_lt_of_le hk
    · split
      case isTrue h => rw [Nat.testBit_xor, h, Nat.testBit_shiftLeft]; simp [hd]
      case isFalse h => simpa using h
    · have hle : 2 ^ (n + d + 1) ≤ 2 ^ k := Nat.pow_le_pow_right (by omega) hk
      split
      · exact Nat.testBit_lt_two_pow ((Nat.xor_lt_two_pow hr' hshift).trans_le hle)
      · exact Nat.testBit_lt_two_pow (hr'.trans_le hle)

/-! ### Codewords -/

theorem bchRem_lt {w : Nat} (h : w < 2 ^ 516) : bchRem w < 2 ^ 20 := polyMod_lt (by decide) (by decide) 496 h

theorem bchRem_xor (x y : Nat) : bchRem (x ^^^ y) = bchRem x ^^^ bchRem y := polyMod_xor ..

theorem shift20_lt {m : Nat} (h : m < 2 ^ 496) : m <<< 20 < 2 ^ 516 := by rw [Nat.shiftLeft_eq]; omega

/-- A codeword as sent has the syndrome zero. -/
theorem bchRem_bchEncode {m : Nat} (h : m < 2 ^ 496) : bchRem (bchEncode m) = 0 := by
  have hrem := bchRem_lt (shift20_lt h)
  have hself : bchRem (bchRem (m <<< 20)) = bchRem (m <<< 20) := polyMod_of_lt _ _ _ hrem
  show bchRem (m <<< 20 ^^^ bchRem (m <<< 20)) = 0
  rw [bchRem_xor, hself, Nat.xor_self]

/-- The message stands above the 20 parity bits. -/
theorem bchEncode_div {m : Nat} (h : m < 2 ^ 496) : bchEncode m / 2 ^ 20 = m := by
  have hrem := bchRem_lt (shift20_lt h)
  show (m <<< 20 ^^^ bchRem (m <<< 20)) / 2 ^ 20 = m
  rw [Nat.xor_div_two_pow, Nat.div_eq_of_lt hrem, Nat.xor_zero, Nat.shiftLeft_eq, Nat.mul_div_cancel _ (by decide)]

theorem bchEncode_lt {m : Nat} (h : m < 2 ^ 496) : bchEncode m < 2 ^ 516 :=
  Nat.xor_lt_two_pow (shift20_lt h) ((bchRem_lt (shift20_lt h)).trans_le (Nat.pow_le_pow_right (by omega) (by omega)))

end Sys2Proof.Machine
end

section
/-! PROOF. GF(2^10) as the Bed FEC uses it (R330): multiplying by α is linear and one to one, sums over the bits of a number, and products with
powers of α. -/

namespace Sys2Proof.Machine

/-! ### Multiplying by α -/

theorem gfStep_eq {a : Nat} (h : a < 1024) : gfStep a = a <<< 1 ^^^ (if a.testBit 9 then 0x409 else 0) := by
  have hbit : a.testBit 9 = decide (2 * a ≥ 1024) := by rw [Nat.testBit_eq_decide_div_mod_eq, decide_eq_decide]; omega
  rw [gfStep, hbit, Nat.shiftLeft_eq, Nat.mul_comm a]
  by_cases h2 : 2 * a ≥ 1024 <;> simp [h2]

theorem gfStep_lt {a : Nat} (h : a < 1024) : gfStep a < 1024 := by
  unfold gfStep
  split
  case isTrue hge =>
    -- Both numbers have bit 10 as their highest, and it cancels.
    have hbit : (2 * a).testBit 10 = true := by
      rw [Nat.testBit_eq_decide_div_mod_eq, decide_eq_true_eq]; omega
    apply Nat.lt_pow_two_of_testBit (n := 10)
    intro k hk
    obtain rfl | hk := Nat.eq_or_lt_of_le hk
    · rw [Nat.testBit_xor, hbit]; decide
    · have hle : 2 ^ 11 ≤ 2 ^ k := Nat.pow_le_pow_right (by omega) hk
      exact Nat.testBit_lt_two_pow ((Nat.xor_lt_two_pow (n := 11) (by omega) (by decide)).trans_le hle)
  case isFalse hlt => omega

theorem gfStep_xor {a b : Nat} (ha : a < 1024) (hb : b < 1024) : gfStep (a ^^^ b) = gfStep a ^^^ gfStep b := by
  have hab : a ^^^ b < 1024 := Nat.xor_lt_two_pow (n := 10) ha hb
  rw [gfStep_eq ha, gfStep_eq hb, gfStep_eq hab, Nat.shiftLeft_xor_distrib, Nat.testBit_xor]
  cases a.testBit 9 <;> cases b.testBit 9 <;> simp [Nat.xor_assoc, Nat.xor_comm, Nat.xor_left_comm]

theorem eq_zero_of_gfStep {a : Nat} (h : gfStep a = 0) : a = 0 := by
  unfold gfStep at h
  split at h
  case isTrue => rw [Nat.xor_eq_zero_iff] at h; omega
  case isFalse => omega

theorem gfShift_succ (n a : Nat) : gfShift (n + 1) a = gfShift n (gfStep a) := force_eq _ _

theorem gfShift_lt (n : Nat) {a : Nat} (h : a < 1024) : gfShift n a < 1024 := by
  induction n generalizing a with
  | zero => exact h
  | succ n ih => rw [gfShift_succ]; exact ih (gfStep_lt h)

theorem gfShift_xor (n : Nat) {a b : Nat} (ha : a < 1024) (hb : b < 1024) : gfShift n (a ^^^ b) = gfShift n a ^^^ gfShift n b := by
  induction n generalizing a b with
  | zero => rfl
  | succ n ih => simp only [gfShift_succ, gfStep_xor ha hb, ih (gfStep_lt ha) (gfStep_lt hb)]

theorem gfShift_add (m n a : Nat) : gfShift (m + n) a = gfShift m (gfShift n a) := by
  induction n generalizing a with
  | zero => rfl
  | succ n ih => rw [← Nat.add_assoc, gfShift_succ, gfShift_succ, ih]

theorem gfShift_zero (n : Nat) : gfShift n 0 = 0 := by
  induction n with
  | zero => rfl
  | succ n ih => rwa [gfShift_succ]

theorem eq_zero_of_gfShift {n a : Nat} (h : gfShift n a = 0) : a = 0 := by
  induction n generalizing a with
  | zero => exact h
  | succ n ih => exact eq_zero_of_gfStep (ih (by rwa [← gfShift_succ]))

theorem gfShift_inj {n a b : Nat} (ha : a < 1024) (hb : b < 1024) (h : gfShift n a = gfShift n b) : a = b :=
  Nat.xor_eq_zero_iff.mp (eq_zero_of_gfShift (n := n) (by rw [gfShift_xor n ha hb, h, Nat.xor_self]))

/-! ### Powers of α -/

theorem gfExp_lt (n : Nat) : gfExp n < 1024 := gfShift_lt n (by decide)

theorem gfExp_ne_zero (n : Nat) : gfExp n ≠ 0 := fun h => absurd (eq_zero_of_gfShift h) (by decide)

theorem gfExp_add (m n : Nat) : gfExp (m + n) = gfShift m (gfExp n) := gfShift_add m n 1

/-- Is none of the next n powers of α, after `a`, equal to 1? -/
def neverOne : Nat → Nat → Bool
  | 0, _ => true
  | n + 1, a => force (gfStep a) fun b => b != 1 && neverOne n b

theorem gfShift_ne_one {n a : Nat} (h : neverOne n a = true) {j : Nat} (hj : j < n) : gfShift (j + 1) a ≠ 1 := by
  induction n generalizing a j with
  | zero => omega
  | succ n ih =>
    rw [neverOne, force_eq, Bool.and_eq_true, bne_iff_ne] at h
    rw [gfShift_succ]
    cases j with
    | zero => exact h.1
    | succ j => exact ih h.2 (by omega)

/-- The places of a codeword have powers of their own: α has an order above 515. -/
theorem gfExp_inj {i k : Nat} (hik : i < k) (hk : k < 516) : gfExp i ≠ gfExp k := by
  intro h
  have hone : gfExp (k - i - 1 + 1) = 1 := by
    rw [show k = i + (k - i - 1 + 1) by omega, gfExp_add] at h
    exact (gfShift_inj (by decide) (gfExp_lt _) h).symm
  exact gfShift_ne_one (n := 515) (a := 1) (by decide +kernel) (by omega) hone

theorem gfPows_eq (n k a : Nat) : gfPows n k a = (List.range n).map fun i => (k + i, gfShift i a) := by
  induction n generalizing k a with
  | zero => rfl
  | succ n ih =>
    rw [gfPows, ih, List.range_succ_eq_map, List.map_cons, List.map_map]
    congr 1
    apply List.map_congr_left
    intro i _
    simp only [Function.comp_apply, gfShift_succ, Nat.succ_eq_add_one]
    rw [Nat.add_assoc, Nat.add_comm 1 i]

/-! ### Sums over the bits of a number -/

/-- The sum of `f k` over the bits k < n of a number. -/
def bitSum (f : Nat → Nat) : Nat → Nat → Nat
  | 0, _ => 0
  | n + 1, x => bitSum f n x ^^^ (if x.testBit n then f n else 0)

theorem bchAt_eq (e n x : Nat) : bchAt e n x = bitSum (fun k => gfExp (e * k)) n x := by
  induction n with
  | zero => rfl
  | succ n ih =>
    rw [bchAt, List.range_succ, List.foldl_append, ← bchAt, ih, bitSum]
    by_cases h : x.testBit n <;> simp [h]

theorem bitSum_xor (f : Nat → Nat) (n x y : Nat) : bitSum f n (x ^^^ y) = bitSum f n x ^^^ bitSum f n y := by
  induction n with
  | zero => exact (Nat.xor_self 0).symm
  | succ n ih =>
    simp only [bitSum, ih, Nat.testBit_xor]
    cases x.testBit n <;> cases y.testBit n <;> simp [Nat.xor_assoc, Nat.xor_comm, Nat.xor_left_comm]

theorem bitSum_congr {f g : Nat → Nat} {n : Nat} (h : ∀ k < n, f k = g k) (x : Nat) : bitSum f n x = bitSum g n x := by
  induction n with
  | zero => rfl
  | succ n ih => rw [bitSum, bitSum, ih fun k hk => h k (by omega), h n (by omega)]

theorem bitSum_zero (f : Nat → Nat) (n : Nat) : bitSum f n 0 = 0 := by
  induction n with
  | zero => rfl
  | succ n ih => simp [bitSum, ih]

/-- Bits that a number does not have add nothing. -/
theorem bitSum_of_lt (f : Nat → Nat) {n x : Nat} (h : x < 2 ^ n) (m : Nat) : bitSum f (n + m) x = bitSum f n x := by
  induction m with
  | zero => rfl
  | succ m ih =>
    have hbit : x.testBit (n + m) = false := Nat.testBit_lt_two_pow (h.trans_le (Nat.pow_le_pow_right (by omega) (by omega)))
    rw [← Nat.add_assoc, bitSum, hbit, ih]; simp

theorem bitSum_bit (f : Nat → Nat) {n k : Nat} (h : k < n) : bitSum f n (1 <<< k) = f k := by
  have hlt : 1 <<< k < 2 ^ (k + 1) := by rw [Nat.one_shiftLeft]; exact Nat.pow_lt_pow_right (by decide) (by omega)
  have hlow : ∀ m ≤ k, bitSum f m (1 <<< k) = 0 := by
    intro m hm
    induction m with
    | zero => rfl
    | succ m ih =>
      have hbit : (1 <<< k).testBit m = false := by rw [Nat.one_shiftLeft, Nat.testBit_two_pow]; simp; omega
      rw [bitSum, hbit, ih (by omega)]; simp
  have hself : (1 <<< k).testBit k = true := by rw [Nat.one_shiftLeft, Nat.testBit_two_pow]; simp
  rw [show n = k + 1 + (n - (k + 1)) by omega, bitSum_of_lt f hlt, bitSum, hlow k (Nat.le_refl k), hself, if_pos rfl, Nat.zero_xor]

/-- The sum over a number moved up by m bits. -/
theorem bitSum_shift (f : Nat → Nat) (n m x : Nat) : bitSum f (n + m) (x <<< m) = bitSum (fun k => f (k + m)) n x := by
  induction n with
  | zero =>
    have hlow : ∀ j ≤ m, bitSum f j (x <<< m) = 0 := by
      intro j hj
      induction j with
      | zero => rfl
      | succ j ih =>
        have hbit : (x <<< m).testBit j = false := by rw [Nat.testBit_shiftLeft]; simp; omega
        rw [bitSum, hbit, ih (by omega)]; simp
    rw [Nat.zero_add]; exact hlow m (Nat.le_refl m)
  | succ n ih =>
    have hbit : (x <<< m).testBit (n + m) = x.testBit n := by rw [Nat.testBit_shiftLeft]; simp
    rw [show n + 1 + m = n + m + 1 by omega, bitSum, hbit, ih, bitSum]

theorem bitSum_lt {f : Nat → Nat} (hf : ∀ k, f k < 1024) (n x : Nat) : bitSum f n x < 1024 := by
  induction n with
  | zero => exact Nat.zero_lt_succ _
  | succ n ih =>
    refine Nat.xor_lt_two_pow (n := 10) ih ?_
    split
    · exact hf n
    · decide

/-- Powers of α may be taken out of a sum. -/
theorem bitSum_gfShift {f : Nat → Nat} (hf : ∀ k, f k < 1024) (j n x : Nat) :
    bitSum (fun k => gfShift j (f k)) n x = gfShift j (bitSum f n x) := by
  induction n with
  | zero => exact (gfShift_zero j).symm
  | succ n ih =>
    rw [bitSum, bitSum, ih]
    cases x.testBit n
    · simp
    · simp only [if_true]; exact (gfShift_xor j (bitSum_lt hf n x) (hf n)).symm

/-- A number is the sum of its bits. -/
theorem bitSum_two_pow (n : Nat) {x : Nat} : bitSum (fun k => 2 ^ k) n x = x % 2 ^ n := by
  induction n with
  | zero => rw [bitSum, Nat.pow_zero, Nat.mod_one]
  | succ n ih =>
    rw [bitSum, ih]
    apply Nat.eq_of_testBit_eq
    intro i
    rw [Nat.testBit_xor, Nat.testBit_mod_two_pow, Nat.testBit_mod_two_pow]
    cases hx : x.testBit n
    · obtain h | rfl | h := Nat.lt_trichotomy i n
      · simp [h, Nat.lt_succ_of_lt h]
      · simp [hx]
      · simp [Nat.not_lt.mpr h.le, show ¬ i < n + 1 by omega]
    · obtain h | rfl | h := Nat.lt_trichotomy i n
      · simp [h, Nat.lt_succ_of_lt h, show ¬ n = i by omega]
      · simp [hx]
      · simp [Nat.not_lt.mpr h.le, show ¬ i < n + 1 by omega, show ¬ n = i by omega]

/-! ### Products -/

/-- The product by Horner's rule is the sum over the bits of its second factor. -/
theorem gfMulGo_eq {a b acc : Nat} (ha : a < 1024) (hacc : acc < 1024) (n : Nat) :
    gfMulGo n a b acc = gfShift n acc ^^^ bitSum (fun k => gfShift k a) n b := by
  induction n generalizing acc with
  | zero => rw [gfMulGo, bitSum, Nat.xor_zero]; rfl
  | succ n ih =>
    have hstep : (gfStep acc ^^^ if b.testBit n then a else 0) < 1024 := by
      refine Nat.xor_lt_two_pow (n := 10) (gfStep_lt hacc) ?_
      split
      · exact ha
      · decide
    rw [gfMulGo, force_eq, ih hstep, bitSum]
    cases b.testBit n
    · simp [gfShift_succ]
    · simp only [if_true, gfShift_succ, gfShift_xor n (gfStep_lt hacc) ha]
      rw [Nat.xor_assoc, Nat.xor_comm (gfShift n a)]

/-- A product with a power of α. -/
theorem gfMul_gfExp (k : Nat) {b : Nat} (hb : b < 1024) : gfMul (gfExp k) b = gfShift k b := by
  have hcomm : ∀ i, gfShift i (gfExp k) = gfShift k (gfExp i) := fun i => by rw [← gfExp_add, ← gfExp_add, Nat.add_comm]
  have hbits : bitSum gfExp 10 b = b := by
    have hpow : ∀ i < 10, gfExp i = 2 ^ i := by decide
    rw [bitSum_congr hpow, bitSum_two_pow]
    exact Nat.mod_eq_of_lt hb
  rw [gfMul, gfMulGo_eq (gfExp_lt k) (by decide), gfShift_zero, Nat.zero_xor]
  simp only [hcomm]
  rw [bitSum_gfShift gfExp_lt, hbits]

theorem gfExp_cube (k : Nat) : gfMul (gfExp k) (gfMul (gfExp k) (gfExp k)) = gfExp (3 * k) := by
  rw [gfMul_gfExp k (gfExp_lt k), gfMul_gfExp k (gfShift_lt k (gfExp_lt k)), ← gfExp_add, ← gfExp_add]
  congr 1; omega

end Sys2Proof.Machine
end

section
/-! PROOF. The Bed FEC corrects one bit error (R330). -/

namespace Sys2Proof.Machine

/-- The generator has the roots α and α^3, so every multiple of it has. -/
theorem bitSum_bchGen {e : Nat} (he : e = 1 ∨ e = 3) (n : Nat) : bitSum (fun k => gfExp (e * k)) (21 + n) (bchGen <<< n) = 0 := by
  have hroot : bitSum (fun k => gfExp (e * k)) 21 bchGen = 0 := by obtain rfl | rfl := he <;> decide +kernel
  have hexp : ∀ k < 21, gfExp (e * (k + n)) = gfShift (e * n) (gfExp (e * k)) := fun k _ => by
    rw [Nat.mul_add, Nat.add_comm, gfExp_add]
  rw [bitSum_shift, bitSum_congr hexp, bitSum_gfShift fun k => gfExp_lt (e * k), hroot, gfShift_zero]

/-- A polynomial and its remainder agree at α and at α^3. -/
theorem bitSum_polyMod {e : Nat} (he : e = 1 ∨ e = 3) (n r : Nat) (hn : n ≤ 496) :
    bitSum (fun k => gfExp (e * k)) 516 (polyMod bchGen 20 n r) = bitSum (fun k => gfExp (e * k)) 516 r := by
  induction n generalizing r with
  | zero => rfl
  | succ n ih =>
    have hgen : bitSum (fun k => gfExp (e * k)) 516 (bchGen <<< n) = 0 := by
      have hlt : bchGen <<< n < 2 ^ (21 + n) := by
        rw [Nat.shiftLeft_eq, Nat.pow_add]; exact Nat.mul_lt_mul_of_pos_right (by decide) (Nat.two_pow_pos n)
      rw [show 516 = 21 + n + (495 - n) by omega, bitSum_of_lt _ hlt, bitSum_bchGen he]
    rw [polyMod_succ, ih _ (by omega)]
    split
    · rw [bitSum_xor, hgen, Nat.xor_zero]
    · rfl

/-- The syndromes of one bit are powers of α at its place. -/
theorem bchAt_bit {e k : Nat} (he : e = 1 ∨ e = 3) (hk : k < 516) : bchAt e 20 (bchRem (1 <<< k)) = gfExp (e * k) := by
  have hlt : 1 <<< k < 2 ^ 516 := by rw [Nat.one_shiftLeft]; exact Nat.pow_lt_pow_right (by decide) hk
  rw [bchAt_eq, ← bitSum_of_lt _ (bchRem_lt hlt) 496, bchRem, bitSum_polyMod he _ _ (Nat.le_refl _), bitSum_bit _ hk]

theorem bchRem_bit_ne_zero {k : Nat} (hk : k < 516) : bchRem (1 <<< k) ≠ 0 := by
  intro h
  have hat := bchAt_bit (.inl rfl) hk
  rw [h, bchAt_eq, bitSum_zero] at hat
  exact gfExp_ne_zero _ hat.symm

theorem bchFix_of_rem {w : Nat} (h : bchRem w = 0) : bchFix w = some (w, 0) := by simp [bchFix, h]

/-- What the correction looks for with the syndrome r: the power of α that stands for the one wrong bit. -/
def bchPlace (r : Nat) : Option (Nat × Nat) :=
  (gfPows 516 0 1).find? fun p => p.2 == bchAt 1 20 r && gfMul p.2 (gfMul p.2 p.2) == bchAt 3 20 r

theorem bchFix_single {w k a : Nat} (h0 : bchRem w ≠ 0) (hp : bchPlace (bchRem w) = some (k, a)) : bchFix w = some (w ^^^ (1 <<< k), 1) := by
  unfold bchPlace at hp
  simp only [bchFix, if_neg h0, hp]

/-- The syndrome of one bit leads to its place, and to no place before it. -/
theorem bchPlace_bit {k : Nat} (hk : k < 516) : bchPlace (bchRem (1 <<< k)) = some (k, gfExp k) := by
  rw [bchPlace, bchAt_bit (.inl rfl) hk, bchAt_bit (.inr rfl) hk, gfPows_eq, List.find?_map]
  have hfind : (List.range 516).find? ((fun p : Nat × Nat => p.2 == gfExp (1 * k) && gfMul p.2 (gfMul p.2 p.2) == gfExp (3 * k)) ∘
      fun i => (0 + i, gfShift i 1)) = some k := by
    rw [List.find?_range_eq_some]
    refine ⟨?_, List.mem_range.mpr hk, fun i hi => ?_⟩
    · have hcube := gfExp_cube k
      simp only [gfExp] at hcube ⊢
      simp [hcube]
    · have hne := gfExp_inj hi hk
      simp only [gfExp] at hne ⊢
      simp [hne]
  rw [hfind, Option.map_some, Nat.zero_add]
  rfl

/-- A codeword with one bit error is corrected. -/
theorem bchFix_bit {m k : Nat} (hm : m < 2 ^ 496) (hk : k < 516) : bchFix (bchEncode m ^^^ (1 <<< k)) = some (bchEncode m, 1) := by
  have hrem : bchRem (bchEncode m ^^^ (1 <<< k)) = bchRem (1 <<< k) := by rw [bchRem_xor, bchRem_bchEncode hm, Nat.zero_xor]
  rw [bchFix_single (by rw [hrem]; exact bchRem_bit_ne_zero hk) (by rw [hrem]; exact bchPlace_bit hk), Nat.xor_assoc, Nat.xor_self,
    Nat.xor_zero]

end Sys2Proof.Machine
end

section
/-! PROOF. Bed links and lanes read and written (R319 to R325, R348, R354). -/

namespace Sys2Proof.Machine

/-! ### The map -/

/-- A link joins two different dies. -/
theorem linkExists_lt {a b : Nat} (h : linkExists a b = true) : a < 23 ∧ b < 23 ∧ a ≠ b := by
  unfold linkExists at h
  simp only [Bool.and_eq_true, decide_eq_true_eq] at h
  obtain ⟨hne, h⟩ := h
  split at h
  · simp only [Bool.or_eq_true, Bool.and_eq_true, decide_eq_true_eq, beq_iff_eq] at h; omega
  split at h
  · simp only [Bool.or_eq_true, Bool.and_eq_true, decide_eq_true_eq, beq_iff_eq] at h; omega
  split at h
  · simp only [Bool.or_eq_true, decide_eq_true_eq, beq_iff_eq] at h; omega
  · simp only [Bool.and_eq_true, decide_eq_true_eq, beq_iff_eq] at h; omega

theorem laneInfo_of_mem_linkLanes {a b i : Nat} (h : i ∈ linkLanes a b) : ∃ sp, laneInfo i = some (a, b, sp) := by
  unfold linkLanes at h
  simp only [List.mem_append, List.mem_filter, beq_iff_eq] at h
  obtain ⟨-, h⟩ | ⟨-, h⟩ := h
  · exact ⟨false, h⟩
  · exact ⟨true, h⟩

theorem nodup_linkLanes (a b : Nat) : (linkLanes a b).Nodup := by
  unfold linkLanes
  simp only
  have hnd : ((List.range (64 * (busesOf a).2)).map (· + 64 * (busesOf a).1)).Nodup :=
    List.nodup_range.map (add_left_injective _)
  refine (hnd.filter _).append (hnd.filter _) (List.disjoint_left.mpr fun i hi hj => ?_)
  simp only [List.mem_filter, beq_iff_eq] at hi hj
  rw [hi.2] at hj
  simp at hj

/-! ### Links -/

variable {s t u : State} {a b : Nat}

/-- Links have entries of their own. -/
theorem linkKey_ne {c d : Nat} (hd : d < 23) (hb : b < 23) (h : (c, d) ≠ (a, b)) : 32 * c + d ≠ 32 * a + b := by
  intro he
  exact h (Prod.ext (by simp only; omega) (by simp only; omega))

@[simp] theorem State.link_setLink (s : State) (a b : Nat) (x : BLink) : (s.setLink a b x).link a b = x := tget_tset_self _ _ _ _

theorem State.link_setLink_ne (s : State) (x : BLink) {c d : Nat} (hd : d < 23) (hb : b < 23) (h : (c, d) ≠ (a, b)) :
    (s.setLink a b x).link c d = s.link c d := tget_tset_ne _ _ _ _ _ _ (linkKey_ne hd hb h)

/-- A link and its reverse. -/
theorem State.link_setLink_rev (s : State) (x : BLink) (h : linkExists a b = true) : (s.setLink a b x).link b a = s.link b a := by
  obtain ⟨ha, hb, hne⟩ := linkExists_lt h
  exact s.link_setLink_ne x ha hb fun he => hne (Prod.ext_iff.mp he).2

theorem State.link_setLink_rev' (s : State) (x : BLink) (h : linkExists a b = true) : (s.setLink b a x).link a b = s.link a b := by
  obtain ⟨ha, hb, hne⟩ := linkExists_lt h
  exact s.link_setLink_ne x hb ha fun he => hne (Prod.ext_iff.mp he).1

@[simp] theorem State.link_emit (s : State) (o : Out) (a b : Nat) : (s.emit o).link a b = s.link a b := rfl

theorem State.link_congr (h : t.bed = s.bed) (a b : Nat) : t.link a b = s.link a b := by simp only [State.link, h]

/-! ### Lanes -/

theorem State.lane_setLane (s : State) (i j : Nat) (x : BLane) : (s.setLane i x).lane j = if j = i then x else s.lane j := tget_tset _ _ _ _ _

@[simp] theorem State.lane_setLane_self (s : State) (i : Nat) (x : BLane) : (s.setLane i x).lane i = x := tget_tset_self _ _ _ _

theorem State.lane_setLane_ne (s : State) {i j : Nat} (x : BLane) (h : j ≠ i) : (s.setLane i x).lane j = s.lane j := tget_tset_ne _ _ _ _ _ _ h

@[simp] theorem State.lane_setLink (s : State) (a b : Nat) (x : BLink) (i : Nat) : (s.setLink a b x).lane i = s.lane i := rfl

theorem State.lane_congr (h : t.bed = s.bed) (i : Nat) : t.lane i = s.lane i := by simp only [State.lane, h]

@[simp] theorem State.links_setLane (s : State) (i : Nat) (x : BLane) : (s.setLane i x).bed.links = s.bed.links := rfl

theorem State.lanesIn_congr (h : ∀ i, t.lane i = s.lane i) (a b : Nat) (st : BLaneSt) : t.lanesIn a b st = s.lanesIn a b st := by
  simp only [State.lanesIn, h]

theorem State.bedWidth_congr (h : ∀ i, t.lane i = s.lane i) (a b : Nat) : t.bedWidth a b = s.bedWidth a b := by
  rw [State.bedWidth, State.bedWidth, State.lanesIn_congr h]

theorem State.mem_lanesIn {i : Nat} {st : BLaneSt} : i ∈ s.lanesIn a b st ↔ i ∈ linkLanes a b ∧ (s.lane i).state = st := by
  rw [State.lanesIn, List.mem_filter, beq_iff_eq]

theorem State.nodup_lanesIn (s : State) (a b : Nat) (st : BLaneSt) : (s.lanesIn a b st).Nodup := (nodup_linkLanes a b).filter _

/-- The lane in service at a position: it is of the link, in service, and there. -/
theorem State.find_data {i p : Nat} (h : (s.lanesIn a b .data).find? (fun i => (s.lane i).pos == p) = some i) :
    (∃ sp, laneInfo i = some (a, b, sp)) ∧ i ∈ s.lanesIn a b .data ∧ (s.lane i).state = .data ∧ (s.lane i).pos = p := by
  have hmem := List.mem_of_find?_eq_some h
  obtain ⟨hlink, hst⟩ := State.mem_lanesIn.mp hmem
  exact ⟨laneInfo_of_mem_linkLanes hlink, hmem, hst, by simpa using List.find?_some h⟩

/-! ### Frames -/

theorem keeps_setLink (s : State) (a b : Nat) (x : BLink) : keeps s (s.setLink a b x) [.bed] := by simp [keeps]

theorem keeps_setLane (s : State) (i : Nat) (x : BLane) : keeps s (s.setLane i x) [.bed] := by simp [keeps]

theorem keeps_storePush (s : State) (u : StoreUnit) : keeps s (s.storePush u) [.store] := by simp [keeps]

/-- What changes the Bed alone sends nothing. -/
theorem outbox_of_keeps_bed (h : keeps s t [.bed]) : t.outbox = s.outbox := by
  obtain ⟨-, -, -, hout, -⟩ := h
  simpa using hout

/-- Steps in a row keep what each keeps. -/
theorem keeps_foldl {α : Type} {l : List SPart} {f : State → α → State} (hf : ∀ s x, keeps s (f s x) l) (xs : List α) (s : State) :
    keeps s (xs.foldl f s) l := by
  induction xs generalizing s with
  | nil => exact keeps_refl s l
  | cons x xs ih => exact keeps_trans (hf s x) (ih _)

theorem otherLinks_refl (s : State) (a b : Nat) : otherLinks s s a b := fun _ _ _ _ _ => rfl

theorem otherLinks_of_links (h : t.bed.links = s.bed.links) : otherLinks s t a b := fun _ _ _ _ _ => by simp only [State.link, h]

theorem otherLinks_trans (h : otherLinks s t a b) (k : otherLinks t u a b) : otherLinks s u a b :=
  fun c d hc hd hne => (k c d hc hd hne).trans (h c d hc hd hne)

theorem otherLinks_setLink (s : State) (x : BLink) (hb : b < 23) : otherLinks s (s.setLink a b x) a b :=
  fun _ _ _ hd hne => s.link_setLink_ne x hd hb hne

/-! ### KEY_READY (R636 to R638) -/

@[simp] theorem State.devCause_bed (s : State) (bit : Nat) : (s.devCause bit).bed = s.bed := by
  unfold State.devCause; split <;> simp

theorem keeps_devCause (s : State) (bit : Nat) : keeps s (s.devCause bit) [.regs, .outbox] := by
  unfold State.devCause
  split
  · exact keeps_refl s _
  · simp [keeps]

@[simp] theorem State.readyUpd_bed (s : State) : s.readyUpd.bed = s.bed := by
  unfold State.readyUpd
  dsimp only
  split
  · rfl
  · rw [State.devCause_bed]
    split <;> split <;> simp

theorem keeps_readyUpd (s : State) : keeps s s.readyUpd [.regs, .outbox] := by
  unfold State.readyUpd
  dsimp only
  split
  · exact keeps_refl s _
  · refine keeps_trans ?_ (keeps_devCause _ _)
    split <;> split <;> simp [keeps]

end Sys2Proof.Machine
end

section
/-! PROOF. A flit is sent (R36, R334, R335, R338). -/

namespace Sys2Proof.Machine

variable {s : State} {a b : Nat}

/-- What a flit that is sent changes: the two directions of its link, and what is sent. -/
theorem keeps_sendFlit (s : State) (a b vc seq : Nat) (first null shared : Bool) (payload : List Byte) :
    keeps s (s.sendFlit a b vc seq first null shared payload) [.bed, .outbox] := by simp [keeps, State.sendFlit]

theorem State.sendFlit_outbox (s : State) (a b vc seq : Nat) (first null shared : Bool) (payload : List Byte) :
    ∃ f, (s.sendFlit a b vc seq first null shared payload).outbox = s.outbox ++ [.flit a b seq vc first f] := ⟨_, rfl⟩

/-- On its own link a flit joins the stream: the retry buffer and the counters are as before. -/
theorem State.link_sendFlit (h : linkExists a b = true) (vc seq : Nat) (first null shared : Bool) (payload : List Byte) :
    ((s.sendFlit a b vc seq first null shared payload).link a b).retry = (s.link a b).retry ∧
      ((s.sendFlit a b vc seq first null shared payload).link a b).replays = (s.link a b).replays := by
  unfold State.sendFlit
  simp only [State.link_emit, State.link_setLink, State.link_setLink_rev' _ _ h, and_self]

/-- The link a → b after the flit `f` joined its stream, the reverse one owing nothing. -/
def State.flitSent (s : State) (a b seq vc : Nat) (first : Bool) (f : List Byte) : State :=
  ((s.setLink b a { s.link b a with nakOwed := false }).setLink a b { s.link a b with txStream := (s.link a b).txStream ++ f }).emit
    (.flit a b seq vc first f)

/-- A flit where no unit was drained: it carries the number expected and the NAK owed. -/
theorem State.sendFlit_eq (h : linkExists a b = true) (hrx : (s.link b a).rxBuf = []) (how : (s.link b a).owed = []) (vc seq : Nat)
    (first null shared : Bool) (payload : List Byte) :
    s.sendFlit a b vc seq first null shared payload = s.flitSent a b seq vc first
      (flitBytes (vc + first.toNat * 8 + null.toNat * 16 + shared.toNat * 32 + seq * 256 + (s.link b a).rxSeq * 2 ^ 20)
        (s.link b a).nakOwed.toNat payload) := by
  have hlink : ∀ x : BLink, x.rxBuf = [] → x.owed = [] → { x with rxBuf := [], owed := [], nakOwed := false } = { x with nakOwed := false } := by
    rintro ⟨⟩ rfl rfl; rfl
  have hdel : tset 0 ([] : Tab Nat) 0 0 = [] := rfl
  unfold State.sendFlit State.flitSent
  simp only [hrx, how, List.foldl_nil, tget, Nat.sub_self, hdel, hlink _ hrx how, State.link_setLink_rev' _ _ h, Nat.zero_mul, Nat.add_zero]

variable (h : linkExists a b = true) (seq vc : Nat) (first : Bool) (f : List Byte)

theorem State.link_flitSent : (s.flitSent a b seq vc first f).link a b = { s.link a b with txStream := (s.link a b).txStream ++ f } :=
  State.link_setLink ..

theorem State.flitSent_outbox : (s.flitSent a b seq vc first f).outbox = s.outbox ++ [.flit a b seq vc first f] := rfl

include h in
/-- The reverse link no longer owes a NAK, and no third link differs. -/
theorem State.flitSent_rest :
    let t := s.flitSent a b seq vc first f
    t.link b a = { s.link b a with nakOwed := false } ∧ keeps s t [.bed, .outbox] ∧
      ∀ c d, c < 23 → d < 23 → (c, d) ≠ (a, b) → (c, d) ≠ (b, a) → t.link c d = s.link c d := by
  obtain ⟨ha, hb, -⟩ := linkExists_lt h
  refine ⟨(State.link_setLink_rev _ _ h).trans (State.link_setLink ..), by simp [keeps, State.flitSent], fun c d _ hd hab hba => ?_⟩
  exact (State.link_setLink_ne _ _ hd hb hab).trans (State.link_setLink_ne _ _ hd ha hba)

/-- The link whose sender keeps a flit in its retry buffer and spends its credit. -/
def BLink.numbered (x : BLink) (source pool : Nat) (f : RFlit) : BLink :=
  { x with txSeq := (x.txSeq + 1) % 4096, retry := x.retry ++ [f], lastSrc := source, used := tset 0 x.used pool (tget 0 x.used pool + 1) }

include h in
/-- A numbered flit goes out after its sender kept it. -/
theorem State.sendFlit_numbered (hrx : (s.link b a).rxBuf = []) (how : (s.link b a).owed = []) (source pool : Nat) (g : RFlit) (shared : Bool)
    (payload : List Byte) :
    let x := s.link a b
    let r := s.link b a
    let f := flitBytes (vc + first.toNat * 8 + shared.toNat * 32 + seq * 256 + r.rxSeq * 2 ^ 20) r.nakOwed.toNat payload
    let t := (s.setLink a b (x.numbered source pool g)).sendFlit a b vc seq first false shared payload
    (t.link b a = { r with nakOwed := false } ∧ keeps s t [.bed, .outbox] ∧
        ∀ c d, c < 23 → d < 23 → (c, d) ≠ (a, b) → (c, d) ≠ (b, a) → t.link c d = s.link c d) ∧
      t.outbox = s.outbox ++ [.flit a b seq vc first f] ∧
      t.link a b = { x.numbered source pool g with txStream := (x.numbered source pool g).txStream ++ f } := by
  obtain ⟨-, hb, -⟩ := linkExists_lt h
  have hrev : (s.setLink a b ((s.link a b).numbered source pool g)).link b a = s.link b a := State.link_setLink_rev _ _ h
  have hflit := State.sendFlit_eq (s := s.setLink a b ((s.link a b).numbered source pool g)) h (by rw [hrev]; exact hrx) (by rw [hrev]; exact how)
    vc seq first false shared payload
  rw [hrev, Bool.toNat_false, Nat.zero_mul, Nat.add_zero] at hflit
  dsimp only
  rw [hflit]
  obtain ⟨hback, hkeep, hother⟩ := State.flitSent_rest (s := s.setLink a b ((s.link a b).numbered source pool g)) h seq vc first
    (flitBytes (vc + first.toNat * 8 + shared.toNat * 32 + seq * 256 + (s.link b a).rxSeq * 2 ^ 20) (s.link b a).nakOwed.toNat payload)
  rw [hrev] at hback
  refine ⟨⟨hback, keeps_trans (keeps_mono (keeps_setLink ..) (by simp)) hkeep, fun c d hc hd hab hba => ?_⟩, State.flitSent_outbox .., ?_⟩
  · exact (hother c d hc hd hab hba).trans (State.link_setLink_ne _ _ hd hb hab)
  · rw [State.link_flitSent, State.link_setLink]

/-! ### FLIT_SEND -/

section
variable {source : Nat} {payload : List Byte} {ready : List (Nat × Nat)} (hlive : (s.link a b).state = .live) (hup : s.linkDies a b = true)
include hlive hup

omit h in
theorem exec_flitSend_null : exec (.flitSend a b vc first [] source ready) s = .next (s.sendFlit a b 0 0 false true false []) := by
  have harm : exec (.flitSend a b vc first [] source ready) s = execFlitSend a b vc first [] source ready s := rfl
  rw [harm]; simp [execFlitSend, hlive, hup]

/-- A numbered flit is not sent under an unplanned retirement, at width 0, with the window full, out of turn, or with no credit. -/
theorem exec_flitSend_refused (hp : payload ≠ []) (hno : (s.link a b).nullOnly ≠ [] ∨ s.bedWidth a b = 0 ∨ 2047 ≤ (s.link a b).retry.length ∨
      myTurn (s.link a b).lastSrc source ((ready.filter fun y => s.bedCredit a b y.2).map (·.1)) = false ∨ s.bedCredit a b vc = false) :
    exec (.flitSend a b vc first payload source ready) s = .next s := by
  have harm : exec (.flitSend a b vc first payload source ready) s = execFlitSend a b vc first payload source ready s := rfl
  rw [harm]
  unfold execFlitSend
  simp only [hlive, hup, hp]
  obtain h | h | h | h | h := hno <;> simp [h]

theorem exec_flitSend_numbered (hp : payload ≠ []) (hlen : payload.length ≤ 64) (hvc : vc < 8) (hnull : (s.link a b).nullOnly = [])
    (hwidth : s.bedWidth a b ≠ 0) (hwin : (s.link a b).retry.length < 2047) (hcredit : s.bedCredit a b vc = true)
    (hturn : myTurn (s.link a b).lastSrc source ((ready.filter fun y => s.bedCredit a b y.2).map (·.1)) = true) :
    exec (.flitSend a b vc first payload source ready) s =
      let shared := decide (tget 0 (s.link a b).used vc ≥ 8)
      .next ((s.setLink a b ((s.link a b).numbered source (if shared then 8 else vc)
        { seq := (s.link a b).txSeq, vc, shared, first, payload := padTo 64 payload })).sendFlit
          a b vc (s.link a b).txSeq first false shared (padTo 64 payload)) := by
  have harm : exec (.flitSend a b vc first payload source ready) s = execFlitSend a b vc first payload source ready s := rfl
  rw [harm]
  have hruns : ((s.link a b).state != .live || !s.linkDies a b) = false := by simp [hlive, hup]
  have hmay : (decide (vc ≥ 8) || decide (payload.length > 64) || decide ((s.link a b).nullOnly ≠ []) || decide (s.bedWidth a b = 0) ||
      decide ((s.link a b).retry.length ≥ 2047) || !s.bedCredit a b vc ||
      !myTurn (s.link a b).lastSrc source ((ready.filter fun y => s.bedCredit a b y.2).map (·.1))) = false := by
    simp [hvc, hlen, hnull, hwidth, hwin, hcredit, hturn]
  unfold execFlitSend
  dsimp only
  rw [hruns, if_neg Bool.false_ne_true, if_neg hp, hmay, if_neg Bool.false_ne_true]
  rfl

end

end Sys2Proof.Machine
end

section
/-! PROOF. A codeword as sent comes back from the line (R326, R327, R329 to R331). -/

namespace Sys2Proof.Machine

/-- Only the last 58 scrambled bits matter. -/
theorem descramble_mod (n h x : Nat) : descramble n (h % 2 ^ 58) x = descramble n h x := by
  have hmod : (h % 2 ^ 58 * 2 ^ n + x) % 2 ^ (58 + n) = (h * 2 ^ n + x) % 2 ^ (58 + n) := by
    have hh : h * 2 ^ n + x = h % 2 ^ 58 * 2 ^ n + x + 2 ^ (58 + n) * (h / 2 ^ 58) := by
      conv_lhs => rw [← Nat.mod_add_div h (2 ^ 58)]
      rw [Nat.pow_add]; ring
    rw [hh, Nat.add_mul_mod_self_left]
  have hbit : ∀ k < 58 + n, (h % 2 ^ 58 * 2 ^ n + x).testBit k = (h * 2 ^ n + x).testBit k := fun k hk => by
    have := congrArg (fun m => m.testBit k) hmod
    simpa only [Nat.testBit_mod_two_pow, hk, decide_true, Bool.true_and] using this
  apply Nat.eq_of_testBit_eq
  intro i
  simp only [descramble, Nat.testBit_mod_two_pow, Nat.testBit_xor, Nat.testBit_shiftRight]
  by_cases hi : i < n
  · rw [hbit i (by omega), hbit (39 + i) (by omega), hbit (58 + i) (by omega)]
  · simp [hi]

theorem scrHist_scramble (n h x : Nat) : scrHist n h (scramble n h x % 2 ^ n) = scramble n h x % 2 ^ 58 := by
  have hsplit : h * 2 ^ n + scramble n h x % 2 ^ n = scramble n h x := by
    have := Nat.div_add_mod (scramble n h x) (2 ^ n)
    rwa [← Nat.shiftRight_eq_div_pow, scramble_shift, Nat.mul_comm] at this
  rw [scrHist, hsplit]

theorem padTo_of_length {n : Nat} {l : List Byte} (h : l.length = n) : padTo n l = l := by
  simp [padTo, zeros, ← h]

theorem toBytesBE_padTo (n : Nat) (l : List Byte) : toBytesBE n (ofBytesBE (padTo n l)) = padTo n l := by
  have h := toBytesBE_ofBytesBE (padTo n l)
  rwa [length_padTo] at h

/-! ### The message of a codeword -/

/-- The 496 message bits of a codeword: block A whole, and block B's data header and bits. -/
def codewordMsg (ctl : Bool) (a b : Nat) : Nat := mkBlock ctl a * 2 ^ 238 + 2 ^ 236 + b % 2 ^ 236

theorem codewordMsg_div (ctl : Bool) (a b : Nat) : codewordMsg ctl a b / 2 ^ 238 = mkBlock ctl a := by
  have := Nat.mod_lt b (Nat.two_pow_pos 236)
  rw [codewordMsg]; omega

theorem codewordMsg_div_hdr (ctl : Bool) (a b : Nat) : codewordMsg ctl a b / 2 ^ 236 % 4 = 1 := by
  have := Nat.mod_lt b (Nat.two_pow_pos 236)
  rw [codewordMsg]; omega

theorem codewordMsg_mod (ctl : Bool) (a b : Nat) : codewordMsg ctl a b % 2 ^ 236 = b % 2 ^ 236 := by
  rw [codewordMsg]; omega

theorem codewordMsg_lt (ctl : Bool) (a b : Nat) : codewordMsg ctl a b < 2 ^ 496 := by
  have hblock : mkBlock ctl a < 2 ^ 256 * 4 := by
    have := Nat.mod_lt a (Nat.two_pow_pos 256)
    cases ctl <;> simp only [mkBlock, Bool.false_eq_true, if_false, if_true] <;> omega
  have hpow : 2 ^ 496 = 2 ^ 256 * 4 * 2 ^ 238 := by rw [show (4 : Nat) = 2 ^ 2 by decide, ← Nat.pow_add, ← Nat.pow_add]
  rwa [hpow, ← Nat.div_lt_iff_lt_mul (Nat.two_pow_pos 238), codewordMsg_div]

/-- A codeword as sent carries its message above the parity. -/
theorem toNat_sendCodeword (h : Nat) (ctl : Bool) (A B : List Byte) :
    (sendCodeword h ctl A B).2.toNat = bchEncode (codewordMsg ctl (scramble 256 h (ofBytesBE (padTo 32 A)))
      (scramble 236 (scramble 256 h (ofBytesBE (padTo 32 A))) (ofBytesBE (padTo 29 B) * 16))) := by
  rw [sendCodeword, BitVec.toNat_ofNat]
  exact Nat.mod_eq_of_lt (bchEncode_lt (codewordMsg_lt ..))

theorem bchEncode_div_block {m : Nat} (h : m < 2 ^ 496) : bchEncode m / 2 ^ 258 = m / 2 ^ 238 := by
  rw [show 258 = 20 + 238 by rfl, Nat.pow_add, ← Nat.div_div_eq_div_mul, bchEncode_div h]

theorem bchEncode_div_hdr {m : Nat} (h : m < 2 ^ 496) : bchEncode m / 2 ^ 256 = m / 2 ^ 236 := by
  rw [show 256 = 20 + 236 by rfl, Nat.pow_add, ← Nat.div_div_eq_div_mul, bchEncode_div h]

/-- A codeword without errors brings what its two blocks hold. -/
theorem LaneRx.codeword_of_fix (l : LaneRx) {w a b : Nat} (hfix : bchFix w = some (w, 0)) (ha : w / 2 ^ 258 = a) (hb : w / 2 ^ 20 % 2 ^ 236 = b) :
    (l.codeword w).2 = { fixed := 0, bad := false, ctl := blockHdr a == 2, payA := toBytesBE 32 (descramble 256 l.scr (a % 2 ^ 256)),
                         payB := toBytesBE 29 (descramble 236 (scrHist 256 l.scr (a % 2 ^ 256)) b / 16) } := by
  subst ha hb
  unfold LaneRx.codeword
  rw [hfix]
  rfl

/-- The receiver gets what the sender put in, where both have the same history. -/
theorem LaneRx.codeword_sendCodeword {l : LaneRx} {h : Nat} (hscr : l.scr = h) (ctl : Bool) (A B : List Byte) :
    (l.codeword (sendCodeword h ctl A B).2.toNat).2 = { fixed := 0, bad := false, ctl, payA := padTo 32 A, payB := padTo 29 B } := by
  have hA : ofBytesBE (padTo 32 A) < 2 ^ 256 := by simpa using ofBytesBE_lt (padTo 32 A)
  have hB : ofBytesBE (padTo 29 B) * 16 < 2 ^ 236 := by
    have := ofBytesBE_lt (padTo 29 B)
    simp only [length_padTo] at this
    omega
  subst hscr
  rw [toNat_sendCodeword]
  generalize hx : ofBytesBE (padTo 32 A) = x at hA
  generalize hy : ofBytesBE (padTo 29 B) * 16 = y at hB
  have hlt := codewordMsg_lt ctl (scramble 256 l.scr x) (scramble 236 (scramble 256 l.scr x) y)
  have hfirst := (bchEncode_div_block hlt).trans (codewordMsg_div ..)
  have hsecond := (congrArg (· % 2 ^ 236) (bchEncode_div hlt)).trans (codewordMsg_mod ..)
  have hctl : (blockHdr (mkBlock ctl (scramble 256 l.scr x)) == 2) = ctl := by rw [blockHdr_mkBlock]; cases ctl <;> rfl
  rw [l.codeword_of_fix (bchFix_of_rem (bchRem_bchEncode hlt)) hfirst hsecond, hctl, mkBlock_mod, scrHist_scramble, descramble_mod,
    descramble_scramble _ _ _ hA, descramble_scramble _ _ _ hB, ← hx, ← hy, Nat.mul_div_cancel _ (by decide), toBytesBE_padTo, toBytesBE_padTo]

/-! ### Block lock -/

theorem LaneRx.header_scr (l : LaneRx) (b : Nat) : (l.header b).scr = l.scr := rfl

/-- A codeword moves the scrambler's history alone. -/
theorem LaneRx.codeword_fst (l : LaneRx) (w : Nat) : ∃ h, (l.codeword w).1 = { l with scr := h } := ⟨_, rfl⟩

theorem LaneRx.invalid_codeword (l : LaneRx) (w : Nat) : (l.codeword w).1.invalid = l.invalid := by
  obtain ⟨h, hfst⟩ := l.codeword_fst w
  rw [hfst, LaneRx.invalid, LaneRx.invalid]

theorem LaneRx.noLock_false (l : LaneRx) : l.noLock false = decide (16 ≤ l.invalid) := by rw [LaneRx.noLock, if_neg Bool.false_ne_true]

/-- A valid header adds no invalid one. -/
theorem LaneRx.invalid_header {l : LaneRx} {b : Nat} (h : hdrValid b = true) : (l.header b).invalid ≤ l.invalid := by
  have hhdrs : (l.header b).hdrs = 2 * l.hdrs % 2 ^ 64 := by rw [LaneRx.header]; simp [h]
  have hzero : (2 * l.hdrs % 2 ^ 64).testBit 0 = false := by rw [Nat.testBit_mod_two_pow]; simp [Nat.testBit_zero]
  have hsucc : (List.range 63).filter ((2 * l.hdrs % 2 ^ 64).testBit ∘ Nat.succ) = (List.range 63).filter l.hdrs.testBit := by
    apply List.filter_congr
    intro k hk
    have hk : k + 1 < 64 := by have := List.mem_range.mp hk; omega
    rw [Function.comp_apply, Nat.succ_eq_add_one, Nat.testBit_mod_two_pow, decide_eq_true hk, Bool.true_and, Nat.testBit_succ]
    congr 1; omega
  have hle : ((List.range 63).filter l.hdrs.testBit).length ≤ ((List.range 64).filter l.hdrs.testBit).length :=
    ((List.range_sublist.mpr (by decide)).filter _).length_le
  unfold LaneRx.invalid
  have hrange : List.range 64 = 0 :: (List.range 63).map Nat.succ := List.range_succ_eq_map
  have hcount : ((List.range 64).filter (2 * l.hdrs % 2 ^ 64).testBit).length = ((List.range 63).filter l.hdrs.testBit).length := by
    rw [hrange, List.filter_cons, hzero, if_neg Bool.false_ne_true, List.filter_map, List.length_map, hsucc]
  rw [hhdrs, hcount]
  exact hle

theorem hdrValid_sendCodeword (h : Nat) (ctl : Bool) (A B : List Byte) : hdrValid (sendCodeword h ctl A B).2.toNat = true := by
  rw [toNat_sendCodeword, hdrValid, blockHdr, bchEncode_div_hdr (codewordMsg_lt ..), codewordMsg_div_hdr]
  rfl

theorem hdrValid_sendCodeword_first (h : Nat) (ctl : Bool) (A B : List Byte) : hdrValid ((sendCodeword h ctl A B).2.toNat / 2 ^ 258) = true := by
  rw [toNat_sendCodeword, bchEncode_div_block (codewordMsg_lt ..), codewordMsg_div, hdrValid, blockHdr_mkBlock]
  cases ctl <;> rfl

/-- On a locked lane two valid headers keep the lock, and the codeword is delivered. -/
theorem BLane.receive_locked {x : BLane} {w : Nat} {c : Codeword} (hlock : x.noLock = false) (hinv : x.rx.invalid < 16)
    (hA : hdrValid (w / 2 ^ 258) = true) (hB : hdrValid w = true) (hc : (((x.rx.header (w / 2 ^ 258)).header w).codeword w).2 = c) :
    (x.receive w).2 = c ∧ (x.receive w).1.noLock = false := by
  have h1 := LaneRx.invalid_header (l := x.rx) hA
  have h2 := LaneRx.invalid_header (l := x.rx.header (w / 2 ^ 258)) hB
  have hlocked : (((x.rx.header (w / 2 ^ 258)).header w).codeword w).1.noLock x.noLock = false := by
    rw [hlock, LaneRx.noLock_false, LaneRx.invalid_codeword]
    exact decide_eq_false (Nat.not_le.mpr ((h2.trans h1).trans_lt hinv))
  unfold BLane.receive
  dsimp only
  rw [hlocked]
  exact ⟨hc, rfl⟩

/-- A codeword as sent on a locked lane: the lock is kept, and the codeword delivered. -/
theorem BLane.receive_sendCodeword {x : BLane} (hlock : x.noLock = false) (hinv : x.rx.invalid < 16) (ctl : Bool) (A B : List Byte) :
    (x.receive (sendCodeword x.rx.scr ctl A B).2.toNat).2 = { fixed := 0, bad := false, ctl, payA := padTo 32 A, payB := padTo 29 B } ∧
      (x.receive (sendCodeword x.rx.scr ctl A B).2.toNat).1.noLock = false :=
  BLane.receive_locked hlock hinv (hdrValid_sendCodeword_first ..) (hdrValid_sendCodeword ..) 
    (LaneRx.codeword_sendCodeword ((LaneRx.header_scr _ _).trans (LaneRx.header_scr _ _)) ctl A B)

end Sys2Proof.Machine
end

section
/-! PROOF. The stream of a link is striped over its lanes and back (R334). -/

namespace Sys2Proof.Machine

/-- Rows of d, k times over, count k * d. -/
theorem flatMap_rows {α : Type} (f : Nat → α) (d k : Nat) :
    ((List.range k).flatMap fun j => (List.range d).map fun i => f (j * d + i)) = (List.range (k * d)).map f := by
  induction k with
  | zero => simp
  | succ k ih => rw [List.range_succ, List.flatMap_append, ih, Nat.succ_mul, List.range_add]; simp

theorem map_getD_range (bs : List Byte) : ((List.range bs.length).map fun m => bs.getD m 0) = bs := by
  apply List.ext_getElem
  · simp
  · intro i h1 h2; simp [List.getD_eq_getElem?_getD, h2]

theorem length_stripe (d k : Nat) (bs : List Byte) : (stripe d k bs).length = d := by simp [stripe]

theorem length_of_mem_stripe {d k : Nat} {bs row : List Byte} (h : row ∈ stripe d k bs) : row.length = k := by
  obtain ⟨i, -, rfl⟩ := List.mem_map.mp h
  simp

/-- What was striped comes back. -/
theorem destripe_stripe {d k : Nat} {bs : List Byte} (h : bs.length = k * d) : destripe k (stripe d k bs) = bs := by
  have hrow : ∀ j ∈ List.range k, ((stripe d k bs).map fun r => r.getD j 0) = (List.range d).map fun i => bs.getD (j * d + i) 0 := by
    intro j hj
    have hj := List.mem_range.mp hj
    rw [stripe, List.map_map]
    apply List.map_congr_left
    intro i _
    simp [List.getD_eq_getElem?_getD, hj]
  calc destripe k (stripe d k bs) = (List.range k).flatMap fun j => (List.range d).map fun i => bs.getD (j * d + i) 0 :=
        List.flatMap_congr hrow
    _ = (List.range bs.length).map fun m => bs.getD m 0 := by rw [flatMap_rows (fun m => bs.getD m 0), h]
    _ = bs := map_getD_range bs

/-- Each of several keys finds its own entry. -/
theorem lookup_zip {α β : Type} {W : Nat → α → β} {ls : List Nat} {rows : List α} (hnd : ls.Nodup) {y : Nat × α} (hy : y ∈ ls.zip rows) :
    ((ls.zip rows).map fun y => (y.1, W y.1 y.2)).lookup y.1 = some (W y.1 y.2) := by
  induction ls generalizing rows with
  | nil => simp at hy
  | cons l ls ih =>
    obtain ⟨hl, hnd⟩ := List.nodup_cons.mp hnd
    cases rows with
    | nil => simp at hy
    | cons r rows =>
      rw [List.zip_cons_cons, List.mem_cons] at hy
      obtain rfl | hy := hy
      · simp
      · have hne : (y.1 == l) = false := by
          rw [beq_eq_false_iff_ne]
          rintro rfl
          exact hl (List.of_mem_zip hy).1
        rw [List.zip_cons_cons, List.map_cons, List.lookup_cons, hne]
        exact ih hnd hy

end Sys2Proof.Machine
end

section
/-! PROOF. A codeword period (R329 to R334). -/

namespace Sys2Proof.Machine

variable {s : State} {a b : Nat}

/-- Several lanes put back. -/
theorem State.lane_foldl_setLane (g : Nat → BLane) (xs : List Nat) (s : State) (j : Nat) :
    (xs.foldl (fun t i => t.setLane i (g i)) s).lane j = if j ∈ xs then g j else s.lane j := by
  induction xs generalizing s with
  | nil => rfl
  | cons x xs ih =>
    rw [List.foldl_cons, ih, State.lane_setLane]
    by_cases hx : j ∈ xs
    · simp [hx]
    · by_cases hj : j = x <;> simp [hx, hj]

theorem State.links_foldl_setLane (g : Nat → BLane) (xs : List Nat) (s : State) :
    (xs.foldl (fun t i => t.setLane i (g i)) s).bed.links = s.bed.links := by
  induction xs generalizing s with
  | nil => rfl
  | cons x xs ih => rw [List.foldl_cons, ih, State.links_setLane]

/-- Each lane serves one position. -/
theorem State.nodup_serving (s : State) (a b : Nat) : (s.serving a b).Nodup := by
  unfold State.serving
  refine List.Nodup.filterMap (fun p q i hp hq => ?_) List.nodup_range
  have hp := List.find?_some (Option.mem_def.mp hp)
  have hq := List.find?_some (Option.mem_def.mp hq)
  rw [beq_iff_eq] at hp hq
  exact hp.symm.trans hq

/-! ### What every period changes -/

theorem keeps_period (s : State) (a b : Nat) (words : List (Nat × BitVec 516)) : keeps s (s.period a b words).st [.bed] := by
  unfold State.period
  exact keeps_trans (keeps_foldl (fun _ _ => keeps_setLane _ _ _) _ s) (keeps_setLink _ _ _ _)

theorem State.otherLinks_period (hb : b < 23) (words : List (Nat × BitVec 516)) : otherLinks s (s.period a b words).st a b := by
  unfold State.period
  exact otherLinks_trans (otherLinks_of_links (State.links_foldl_setLane ..)) (otherLinks_setLink _ _ hb)

/-- The disagreement of a control block's copies counts one (R332). -/
def CtlRx.count : Option (CtlRx × List Byte) → Nat
  | some (.disagree, _) => 1
  | _ => 0

/-- On its own link a period leaves two counters and the rest of the stream. -/
theorem State.link_period (s : State) (a b : Nat) (words : List (Nat × BitVec 516)) :
    ∃ j k rest, (s.period a b words).st.link a b =
      { s.link a b with corrected := satAdd (s.link a b).corrected j,
                        uncorr := satAdd (s.link a b).uncorr (k + CtlRx.count (s.period a b words).ctl), rxStream := rest } :=
  ⟨_, _, _, State.link_setLink ..⟩

end Sys2Proof.Machine
end

section
/-! PROOF. A period whose codewords are as the sender makes them (R330 to R334). -/

namespace Sys2Proof.Machine

variable {s : State} {a b : Nat}

/-- A lane's codeword among those received; a lane with none brings zeros. -/
def wordOf (words : List (Nat × BitVec 516)) (i : Nat) : Nat := ((words.lookup i).map (·.toNat)).getD 0

/-- A period without errors on locked lanes: no counter moves, and the stream grows by the bytes that the lanes carry. -/
theorem State.period_clean {words : List (Nat × BitVec 516)} {cs : List Codeword} {bytes : List Byte} (hlive : (s.link a b).state = .live)
    (hne : s.serving a b ≠ []) (hspare : s.lanesIn a b .spare = [])
    (hcs : ((s.serving a b).map fun i => ((s.lane i).receive (wordOf words i)).2) = cs)
    (hlock : ∀ i ∈ s.serving a b, ((s.lane i).receive (wordOf words i)).1.noLock = false)
    (hclean : ∀ c ∈ cs, c.fixed = 0 ∧ c.bad = false) (hdis : CtlRx.count (ctlOf cs) = 0)
    (hbytes : (if (ctlOf cs).isSome then destripe 29 (cs.map (·.payB)) else destripe 61 (cs.map fun c => c.payA ++ c.payB)) = bytes) :
    let cut := cutFlits ((s.link a b).rxStream.length + bytes.length) ((s.link a b).rxStream ++ bytes)
    let p := s.period a b words
    p.lost = false ∧ p.ctl = ctlOf cs ∧ p.flits = cut.1 ∧ p.st.link a b = { s.link a b with rxStream := cut.2 } := by
  have hsum : cs.foldl (fun n (c : Codeword) => n + c.fixed) 0 = 0 := by
    clear hcs hdis hbytes
    induction cs with
    | nil => rfl
    | cons c cs ih =>
      rw [List.foldl_cons, (hclean c (by simp)).1]
      exact ih fun d hd => hclean d (by simp [hd])
  have hbad : cs.filter Codeword.bad = [] := List.filter_eq_nil_iff.mpr fun c hc => by simp [(hclean c hc).2]
  have hsat : ∀ x : Word, satAdd x 0 = x := fun x => by
    have := x.isLt
    rw [satAdd, Nat.add_zero, Nat.min_eq_right (by omega)]; simp
  obtain ⟨i, hi⟩ := List.exists_mem_of_ne_nil _ hne
  have hlost : ((s.serving a b).all fun j => (((s.serving a b).foldl (fun t i => t.setLane i ((s.lane i).receive (wordOf words i)).1) s).lane j).noLock)
      = false := by
    rw [List.all_eq_false]
    refine ⟨i, hi, ?_⟩
    rw [State.lane_foldl_setLane (fun i => ((s.lane i).receive (wordOf words i)).1), if_pos hi, hlock i hi]
    exact Bool.false_ne_true
  have hp : s.period a b words =
      { st := ((s.serving a b).foldl (fun t i => t.setLane i ((s.lane i).receive (wordOf words i)).1) s).setLink a b
          { s.link a b with
            corrected := satAdd (s.link a b).corrected (cs.foldl (fun n (c : Codeword) => n + c.fixed) 0),
            uncorr := satAdd (s.link a b).uncorr ((cs.filter Codeword.bad).length + CtlRx.count (ctlOf cs)),
            rxStream := (cutFlits ((s.link a b).rxStream.length + bytes.length) ((s.link a b).rxStream ++ bytes)).2 },
        lost := decide (s.serving a b ≠ []) && (s.serving a b).all fun j =>
          (((s.serving a b).foldl (fun t i => t.setLane i ((s.lane i).receive (wordOf words i)).1) s).lane j).noLock,
        ctl := ctlOf cs, flits := (cutFlits ((s.link a b).rxStream.length + bytes.length) ((s.link a b).rxStream ++ bytes)).1 } := by
    subst hcs hbytes
    unfold State.period
    have htrain : ((s.link a b).state == BLinkSt.train) = false := by rw [hlive]; rfl
    dsimp only
    rw [hspare, List.append_nil, htrain, if_neg Bool.false_ne_true]
    rfl
  rw [hp, hsum, hbad, hdis, hlost]
  refine ⟨Bool.and_false _, rfl, rfl, (State.link_setLink ..).trans ?_⟩
  rw [List.length_nil, hsat, hsat]

/-! ### The words on the line -/

/-- The codeword of one lane. -/
def State.lineWord (s : State) (ctl : Option (List Byte)) (i : Nat) (row : List Byte) : BitVec 516 :=
  match ctl with
  | some c => (sendCodeword (s.lane i).rx.scr true c row).2
  | none => (sendCodeword (s.lane i).rx.scr false (row.take 32) (row.drop 32)).2

/-- What it brings. -/
def sentCodeword (ctl : Option (List Byte)) (row : List Byte) : Codeword :=
  match ctl with
  | some c => { fixed := 0, bad := false, ctl := true, payA := padTo 32 c, payB := padTo 29 row }
  | none => { fixed := 0, bad := false, ctl := false, payA := padTo 32 (row.take 32), payB := padTo 29 (row.drop 32) }

theorem lineWords_eq (s : State) (a b : Nat) (ctl : Option (List Byte)) (bs : List Byte) :
    lineWords s a b ctl bs = ((s.serving a b).zip (stripe (s.serving a b).length (if ctl.isSome then 29 else 61) bs)).map
      fun y => (y.1, s.lineWord ctl y.1 y.2) := by
  cases ctl <;> rfl

theorem BLane.receive_lineWord {i : Nat} (hlock : (s.lane i).noLock = false) (hinv : (s.lane i).rx.invalid < 16) (ctl : Option (List Byte))
    (row : List Byte) : ((s.lane i).receive (s.lineWord ctl i row).toNat).2 = sentCodeword ctl row ∧
      ((s.lane i).receive (s.lineWord ctl i row).toNat).1.noLock = false := by
  cases ctl with
  | none => exact BLane.receive_sendCodeword hlock hinv ..
  | some c => exact BLane.receive_sendCodeword hlock hinv ..

/-- Every lane of the link gets the codeword of its row. -/
theorem State.receive_lineWords (hrx : ∀ i ∈ s.serving a b, (s.lane i).noLock = false ∧ (s.lane i).rx.invalid < 16) (ctl : Option (List Byte))
    (bs : List Byte) :
    ((s.serving a b).map fun i => ((s.lane i).receive (wordOf (lineWords s a b ctl bs) i)).2) =
        (stripe (s.serving a b).length (if ctl.isSome then 29 else 61) bs).map (sentCodeword ctl) ∧
      ∀ i ∈ s.serving a b, ((s.lane i).receive (wordOf (lineWords s a b ctl bs) i)).1.noLock = false := by
  have hlen := length_stripe (s.serving a b).length (if ctl.isSome then 29 else 61) bs
  have hlanes : ((s.serving a b).zip (stripe (s.serving a b).length (if ctl.isSome then 29 else 61) bs)).map Prod.fst = s.serving a b :=
    List.map_fst_zip (by rw [hlen])
  have hword : ∀ y ∈ (s.serving a b).zip (stripe (s.serving a b).length (if ctl.isSome then 29 else 61) bs),
      wordOf (lineWords s a b ctl bs) y.1 = (s.lineWord ctl y.1 y.2).toNat := by
    intro y hy
    rw [wordOf, lineWords_eq, lookup_zip (W := s.lineWord ctl) (s.nodup_serving a b) hy]
    rfl
  constructor
  · calc _ = ((s.serving a b).zip (stripe (s.serving a b).length (if ctl.isSome then 29 else 61) bs)).map
          fun y => ((s.lane y.1).receive (wordOf (lineWords s a b ctl bs) y.1)).2 := by
            conv_lhs => rw [← hlanes, List.map_map]
            rfl
      _ = ((s.serving a b).zip (stripe (s.serving a b).length (if ctl.isSome then 29 else 61) bs)).map (sentCodeword ctl ∘ Prod.snd) := by
            apply List.map_congr_left
            intro y hy
            obtain ⟨hl, hi⟩ := hrx y.1 (List.of_mem_zip hy).1
            rw [hword y hy, (BLane.receive_lineWord hl hi ctl y.2).1]; rfl
      _ = _ := by rw [← List.map_map, List.map_snd_zip (by rw [hlen])]
  · intro i hi
    rw [← hlanes] at hi
    obtain ⟨y, hy, rfl⟩ := List.mem_map.mp hi
    obtain ⟨hl, hinv⟩ := hrx y.1 (List.of_mem_zip hy).1
    rw [hword y hy]
    exact (BLane.receive_lineWord hl hinv ctl y.2).2

/-! ### What the words bring together -/

theorem sentCodeword_clean {ctl : Option (List Byte)} {rows : List (List Byte)} : ∀ c ∈ rows.map (sentCodeword ctl), c.fixed = 0 ∧ c.bad = false := by
  intro c hc
  obtain ⟨row, -, rfl⟩ := List.mem_map.mp hc
  cases ctl <;> exact ⟨rfl, rfl⟩

/-- Data words bring no control block. -/
theorem ctlOf_data (rows : List (List Byte)) : ctlOf (rows.map (sentCodeword none)) = none := by
  have hnone : ∀ c ∈ rows.map (sentCodeword none), c.ctl = false := by
    intro c hc
    obtain ⟨row, -, rfl⟩ := List.mem_map.mp hc
    rfl
  have hfilter : (rows.map (sentCodeword none)).filter (fun c => c.ctl && !c.bad) = [] :=
    List.filter_eq_nil_iff.mpr fun c hc => by simp [hnone c hc]
  rw [ctlOf, hfilter]
  simp only
  rw [List.any_eq_false.mpr fun c hc => by simp [hnone c hc], if_neg Bool.false_ne_true]

/-- Copies of one control block agree. -/
theorem ctlOf_control {rows : List (List Byte)} (h : rows ≠ []) (c : List Byte) : ctlOf (rows.map (sentCodeword (some c))) = some (.good, padTo 32 c) := by
  have hfilter : (rows.map (sentCodeword (some c))).filter (fun c => c.ctl && !c.bad) = rows.map (sentCodeword (some c)) :=
    List.filter_eq_self.mpr fun d hd => by
      obtain ⟨row, -, rfl⟩ := List.mem_map.mp hd
      rfl
  rw [ctlOf, hfilter]
  cases rows with
  | nil => exact absurd rfl h
  | cons row rows =>
    simp only [List.map_cons]
    rw [if_pos (List.all_eq_true.mpr fun d hd => ?_)]
    · rfl
    · obtain ⟨row', -, rfl⟩ := List.mem_map.mp hd
      exact beq_self_eq_true _

/-- A data word's 61 bytes are a row. -/
theorem sentCodeword_data {row : List Byte} (h : row.length = 61) : (sentCodeword none row).payA ++ (sentCodeword none row).payB = row := by
  show padTo 32 (row.take 32) ++ padTo 29 (row.drop 32) = row
  rw [padTo_of_length (by simp [h]), padTo_of_length (by simp [h]), List.take_append_drop]

theorem bytes_data (d : Nat) {bs : List Byte} (h : bs.length = 61 * d) :
    destripe 61 (((stripe d 61 bs).map (sentCodeword none)).map fun c => c.payA ++ c.payB) = bs := by
  have hrows : ((stripe d 61 bs).map (sentCodeword none)).map (fun c => c.payA ++ c.payB) = stripe d 61 bs := by
    rw [List.map_map]
    exact (List.map_congr_left fun row hrow => sentCodeword_data (length_of_mem_stripe hrow)).trans (List.map_id _)
  rw [hrows, destripe_stripe h]

theorem bytes_control (d : Nat) (c : List Byte) {bs : List Byte} (h : bs.length = 29 * d) :
    destripe 29 (((stripe d 29 bs).map (sentCodeword (some c))).map (·.payB)) = bs := by
  have hrows : ((stripe d 29 bs).map (sentCodeword (some c))).map (·.payB) = stripe d 29 bs := by
    rw [List.map_map]
    exact (List.map_congr_left fun row hrow => padTo_of_length (length_of_mem_stripe hrow)).trans (List.map_id _)
  rw [hrows, destripe_stripe h]

section
variable {bs : List Byte} (hlive : (s.link a b).state = .live)
  (hrx : ∀ i ∈ s.serving a b, (s.lane i).noLock = false ∧ (s.lane i).rx.invalid < 16) (hne : s.serving a b ≠ [])
  (hspare : s.lanesIn a b .spare = [])
include hlive hrx hne hspare

/-- A period of data words brings the bytes of the stream. -/
theorem State.period_data (hlen : bs.length = 61 * (s.serving a b).length) :
    let cut := cutFlits ((s.link a b).rxStream.length + bs.length) ((s.link a b).rxStream ++ bs)
    let p := s.period a b (lineWords s a b none bs)
    p.lost = false ∧ p.ctl = none ∧ p.flits = cut.1 ∧ p.st.link a b = { s.link a b with rxStream := cut.2 } := by
  obtain ⟨hcs, hlock⟩ := s.receive_lineWords hrx none bs
  change _ = (stripe (s.serving a b).length 61 bs).map _ at hcs
  have hctl := ctlOf_data (stripe (s.serving a b).length 61 bs)
  have hp := State.period_clean (bytes := bs) hlive hne hspare hcs hlock sentCodeword_clean (congrArg CtlRx.count hctl)
    ((if_neg (by rw [hctl]; exact Bool.false_ne_true)).trans (bytes_data _ hlen))
  obtain ⟨hl, hc, hrest⟩ := hp
  exact ⟨hl, hc.trans hctl, hrest⟩

/-- A period whose first blocks carry a control block brings it and the other bytes. -/
theorem State.period_control (c : List Byte) (hlen : bs.length = 29 * (s.serving a b).length) :
    let cut := cutFlits ((s.link a b).rxStream.length + bs.length) ((s.link a b).rxStream ++ bs)
    let p := s.period a b (lineWords s a b (some c) bs)
    p.lost = false ∧ p.ctl = some (.good, padTo 32 c) ∧ p.flits = cut.1 ∧ p.st.link a b = { s.link a b with rxStream := cut.2 } := by
  obtain ⟨hcs, hlock⟩ := s.receive_lineWords hrx (some c) bs
  change _ = (stripe (s.serving a b).length 29 bs).map _ at hcs
  have hrows : stripe (s.serving a b).length 29 bs ≠ [] := by
    rw [← List.length_pos_iff, length_stripe]; exact List.length_pos_iff.mpr hne
  have hctl := ctlOf_control hrows c
  have hp := State.period_clean (bytes := bs) hlive hne hspare hcs hlock sentCodeword_clean (congrArg CtlRx.count hctl)
    ((if_pos (by rw [hctl]; rfl)).trans (bytes_control _ c hlen))
  obtain ⟨hl, hc, hrest⟩ := hp
  exact ⟨hl, hc.trans hctl, hrest⟩

end

end Sys2Proof.Machine
end

section
/-! PROOF. A flit arrives (R335, R338). -/

namespace Sys2Proof.Machine

/-- Links run both ways. -/
theorem linkExists_rev {a b : Nat} (h : linkExists a b = true) : linkExists b a = true := by
  have hall : ∀ a < 23, ∀ b < 23, linkExists a b = linkExists b a := by decide
  obtain ⟨ha, hb, -⟩ := linkExists_lt h
  rwa [hall b hb a ha]

variable {s : State} {a b : Nat}

/-! ### Refused and taken -/

/-- The link whose receiver refused a flit: one NAK is owed. -/
def BLink.nakked (x : BLink) : BLink := { x with nakSent := true, nakOwed := x.nakOwed || !x.nakSent }

/-- A flit is discarded with one NAK per failure. -/
def State.refuseFlit (s : State) (a b : Nat) : State :=
  if (s.link a b).nakSent then s else s.setLink a b { s.link a b with nakSent := true, nakOwed := true }

theorem State.link_refuseFlit (s : State) (a b : Nat) : (s.refuseFlit a b).link a b = (s.link a b).nakked := by
  have hsent : ∀ x : BLink, x.nakSent = true → x = x.nakked := fun x hx => by cases x; simp_all [BLink.nakked]
  have hnot : ∀ x : BLink, x.nakSent ≠ true → { x with nakSent := true, nakOwed := true } = x.nakked := fun x hx => by
    cases x; simp_all [BLink.nakked]
  unfold State.refuseFlit
  split
  case isTrue hx => exact hsent _ hx
  case isFalse hx => exact (State.link_setLink ..).trans (hnot _ hx)

theorem keeps_refuseFlit (s : State) (a b : Nat) : keeps s (s.refuseFlit a b) [.bed] := by
  unfold State.refuseFlit
  split
  · exact keeps_refl s _
  · exact keeps_setLink ..

theorem State.otherLinks_refuseFlit (s : State) (hb : b < 23) : otherLinks s (s.refuseFlit a b) a b := by
  unfold State.refuseFlit
  split
  · exact otherLinks_refl s a b
  · exact otherLinks_setLink s _ hb

/-- The link whose receiver got the flit with header word `lo`: null, out of order, or the one expected. -/
def BLink.taken (x : BLink) (lo : Nat) (payload : List Byte) : BLink :=
  if lo / 16 % 2 = 1 then x
  else if lo / 256 % 4096 ≠ x.rxSeq then x.nakked
  else { x with rxSeq := (x.rxSeq + 1) % 4096, nakSent := false, nakOwed := false,
                rxBuf := x.rxBuf ++ [{ seq := x.rxSeq, vc := lo % 8, shared := lo / 32 % 2 == 1, first := lo / 8 % 2 == 1, payload }] }

/-- What the receiver's half of the link comes to. -/
def State.flitIn (s : State) (a b lo : Nat) (payload : List Byte) : State :=
  if lo / 16 % 2 = 1 then s
  else if lo / 256 % 4096 ≠ (s.link a b).rxSeq then s.refuseFlit a b
  else s.setLink a b ((s.link a b).taken lo payload)

theorem State.link_flitIn (s : State) (a b lo : Nat) (payload : List Byte) : (s.flitIn a b lo payload).link a b = (s.link a b).taken lo payload := by
  unfold State.flitIn
  split
  case isTrue hnull => rw [BLink.taken, if_pos hnull]
  case isFalse hnull =>
    split
    case isTrue hseq => rw [State.link_refuseFlit, BLink.taken, if_neg hnull, if_pos hseq]
    case isFalse hseq => exact State.link_setLink ..

theorem keeps_flitIn (s : State) (a b lo : Nat) (payload : List Byte) : keeps s (s.flitIn a b lo payload) [.bed] := by
  unfold State.flitIn
  split
  · exact keeps_refl s _
  · split
    · exact keeps_refuseFlit ..
    · exact keeps_setLink ..

theorem State.otherLinks_flitIn (s : State) (hb : b < 23) (lo : Nat) (payload : List Byte) : otherLinks s (s.flitIn a b lo payload) a b := by
  unfold State.flitIn
  split
  · exact otherLinks_refl s a b
  · split
    · exact s.otherLinks_refuseFlit hb
    · exact otherLinks_setLink s _ hb

theorem State.link_flitIn_rev (h : linkExists a b = true) (lo : Nat) (payload : List Byte) : (s.flitIn a b lo payload).link b a = s.link b a := by
  obtain ⟨ha, hb, hne⟩ := linkExists_lt h
  exact s.otherLinks_flitIn hb lo payload b a hb ha fun he => hne (Prod.ext_iff.mp he).2

theorem State.takeFlit_bad {f : List Byte} (hbad : ¬ flitGood f) : s.takeFlit a b f = s.refuseFlit a b := by
  have hcheck : (f.length == 72 && (crc16 ((padTo 72 f).take 6 ++ [0, 0] ++ (padTo 72 f).drop 8)).toNat == bfld (padTo 72 f) 6 2) = false := by
    by_contra hc
    rw [Bool.not_eq_false, Bool.and_eq_true, beq_iff_eq, beq_iff_eq] at hc
    obtain ⟨hlen, hcrc⟩ := hc
    rw [padTo_of_length hlen] at hcrc
    exact hbad ⟨hlen, hcrc⟩
  unfold State.takeFlit
  dsimp only
  rw [hcheck]
  rfl

theorem State.takeFlit_good {f : List Byte} (hgood : flitGood f) : s.takeFlit a b f =
    (s.flitIn a b (bfld f 0 4) (f.drop 8)).flitBack b a (bfld f 0 4 / 2 ^ 20) (bfld f 4 2 % 2 == 1) (bfld f 4 2 / 4 % 16) (bfld f 4 2 / 64) := by
  obtain ⟨hlen, hcrc⟩ := hgood
  have hcheck : (f.length == 72 && (crc16 (f.take 6 ++ [0, 0] ++ f.drop 8)).toNat == bfld f 6 2) = true := by
    rw [hlen, hcrc]; simp
  unfold State.takeFlit State.flitIn
  dsimp only
  rw [padTo_of_length hlen, hcheck, Bool.not_true, if_neg Bool.false_ne_true]
  split
  · rfl
  · rename_i hnull
    split
    · rfl
    · rename_i hseq
      rw [BLink.taken, if_neg hnull, if_neg hseq]

/-! ### What a flit carries back -/

/-- The flits that a sender keeps after an acknowledgement. -/
def BLink.unacked (y : BLink) (ack : Nat) : List RFlit := y.retry.filter fun g => decide ((g.seq + 4096 - ack) % 4096 < 2048)

/-- The sender's half after an acknowledgement and credits. -/
def BLink.acked (y : BLink) (ack pool units : Nat) : BLink :=
  { y with retry := y.unacked ack, used := tset 0 y.used pool (tget 0 y.used pool - units) }

theorem State.flitBack_quiet {ack pool units : Nat} {nak : Bool} (h : nak = false ∨ (s.link b a).unacked ack = []) :
    s.flitBack b a ack nak pool units = s.setLink b a ((s.link b a).acked ack pool units) := by
  have hcond : (nak && decide ((s.link b a).unacked ack ≠ [])) = false := by
    obtain rfl | h := h
    · rfl
    · rw [h]; simp
  unfold State.flitBack
  dsimp only
  rw [show (nak && decide (List.filter _ _ ≠ [])) = false from hcond, if_neg Bool.false_ne_true]
  rfl

theorem State.flitBack_replay {ack pool units : Nat} (h : (s.link b a).unacked ack ≠ []) :
    s.flitBack b a ack true pool units = ((s.link b a).unacked ack).foldl (fun s f => s.sendFlit b a f.vc f.seq f.first false f.shared f.payload)
      ((s.setLink b a ((s.link b a).acked ack pool units)).setLink b a
        { (s.link b a).acked ack pool units with replays := satAdd (s.link b a).replays 1 }) := by
  have hcond : (true && decide ((s.link b a).unacked ack ≠ [])) = true := by simp [h]
  unfold State.flitBack
  dsimp only
  rw [show (true && decide (List.filter _ _ ≠ [])) = true from hcond, if_pos rfl, State.link_setLink]
  rfl

/-- Flits sent again: each is recorded, and the retry buffer stands. -/
theorem State.replay_spec (h : linkExists a b = true) (fs : List RFlit) (s : State) :
    let t := fs.foldl (fun s f => s.sendFlit b a f.vc f.seq f.first false f.shared f.payload) s
    (t.link b a).retry = (s.link b a).retry ∧ (t.link b a).replays = (s.link b a).replays ∧ t.outbox.length = s.outbox.length + fs.length ∧
      keeps s t [.bed, .outbox] := by
  induction fs generalizing s with
  | nil => exact ⟨rfl, rfl, rfl, keeps_refl s _⟩
  | cons f fs ih =>
    obtain ⟨hretry, hreplays, hout, hkeep⟩ := ih (s.sendFlit b a f.vc f.seq f.first false f.shared f.payload)
    obtain ⟨hretry', hreplays'⟩ := State.link_sendFlit (s := s) (linkExists_rev h) f.vc f.seq f.first false f.shared f.payload
    obtain ⟨g, hg⟩ := s.sendFlit_outbox b a f.vc f.seq f.first false f.shared f.payload
    refine ⟨hretry.trans hretry', hreplays.trans hreplays', ?_, keeps_trans (keeps_sendFlit ..) hkeep⟩
    have hlen := congrArg List.length hg
    simp only [List.length_append, List.length_cons, List.length_nil] at hlen ⊢
    exact hout.trans (by omega)

end Sys2Proof.Machine
end

section
/-! PROOF. What a codeword period does: rows FLIT_RECEIVE, BED_ALIGN, BED_RETIRE, BED_ADMIT, BED_REQ_RETIRE (R329 to R335, R349). -/

namespace Sys2Proof.Machine

variable {s : State} {a b : Nat} {words : List (Nat × BitVec 516)}

theorem exec_flitReceive (s : State) (a b : Nat) (words : List (Nat × BitVec 516)) : exec (.flitReceive a b words) s = .next (s.bedPeriod a b words) := rfl

theorem State.bedPeriod_idle (h1 : (s.link a b).state ≠ .live) (h2 : (s.link a b).state ≠ .train) : s.bedPeriod a b words = s := by
  unfold State.bedPeriod
  dsimp only
  rw [if_pos (by simp [h1, h2])]

section
variable (hlive : (s.link a b).state = .live) (hup : s.linkDies a b = true)
include hlive hup

theorem State.bedPeriod_lost (hlost : (s.period a b words).lost = true) : s.bedPeriod a b words = (s.period a b words).st.bedRetrain a b := by
  unfold State.bedPeriod
  dsimp only
  rw [hlive, hup, hlost]
  rfl

theorem State.bedPeriod_noControl (hlost : (s.period a b words).lost = false) (hctl : (s.period a b words).ctl = none) :
    s.bedPeriod a b words = (s.period a b words).flits.foldl (fun t f => t.takeFlit a b f) (s.period a b words).st := by
  unfold State.bedPeriod
  dsimp only
  rw [hlive, hup, hlost, hctl]
  rfl

theorem State.bedPeriod_disagree (hlost : (s.period a b words).lost = false) (hflits : (s.period a b words).flits = [])
    (hctl : (s.period a b words).ctl = some (.disagree, [])) : s.bedPeriod a b words = (s.period a b words).st := by
  unfold State.bedPeriod
  dsimp only
  rw [hlive, hup, hlost, hctl, hflits]
  rfl

theorem State.bedPeriod_control {m : List Byte} (hlost : (s.period a b words).lost = false) (hflits : (s.period a b words).flits = [])
    (hctl : (s.period a b words).ctl = some (.good, m)) : s.bedPeriod a b words = (s.period a b words).st.bedControl a b m := by
  unfold State.bedPeriod
  dsimp only
  rw [hlive, hup, hlost, hctl, hflits]
  rfl

end

/-- A period leaves a link's state as it was. -/
theorem State.state_period (s : State) (a b : Nat) (words : List (Nat × BitVec 516)) :
    ((s.period a b words).st.link a b).state = (s.link a b).state := by
  obtain ⟨j, k, rest, h⟩ := s.link_period a b words
  rw [h]

end Sys2Proof.Machine
end

section
/-! PROOF. A lane leaves service, and changes take effect at boundaries (R333, R343 to R346). -/

namespace Sys2Proof.Machine

variable {s t u : State} {a b : Nat}

/-- Lanes may differ, and a record of one; no link does. -/
def lanesOnly (s t : State) : Prop := t.bed.links = s.bed.links ∧ keeps s t [.bed, .store]

theorem lanesOnly_refl (s : State) : lanesOnly s s := ⟨rfl, keeps_refl s _⟩

theorem lanesOnly_trans (h : lanesOnly s t) (k : lanesOnly t u) : lanesOnly s u := ⟨k.1.trans h.1, keeps_trans h.2 k.2⟩

theorem lanesOnly_setLane (s : State) (i : Nat) (x : BLane) : lanesOnly s (s.setLane i x) := ⟨rfl, keeps_mono (keeps_setLane s i x) (by simp)⟩

theorem lanesOnly_foldl {α : Type} {f : State → α → State} {xs : List α} (hf : ∀ s, ∀ x ∈ xs, lanesOnly s (f s x)) (s : State) :
    lanesOnly s (xs.foldl f s) := by
  induction xs generalizing s with
  | nil => exact lanesOnly_refl s
  | cons x xs ih => exact lanesOnly_trans (hf s x (by simp)) (ih (fun s y hy => hf s y (by simp [hy])) _)

/-! ### A lane out of service -/

theorem State.laneRepair_bed (s : State) (i : Nat) : (s.laneRepair i).bed = s.bed := by simp [State.laneRepair]

theorem lanesOnly_laneOut (s : State) (i cause : Nat) (planned : Bool) : lanesOnly s (s.laneOut i cause planned) := by
  unfold State.laneOut
  dsimp only
  split
  · refine lanesOnly_trans (lanesOnly_setLane s i _) ⟨by rw [State.laneRepair_bed], ?_⟩
    exact keeps_mono (keeps_storePush _ _) (by simp)
  · exact lanesOnly_setLane s i _

theorem State.lane_laneOut (s : State) (i cause : Nat) (planned : Bool) (j : Nat) : (s.laneOut i cause planned).lane j =
    if j = i then (s.lane i).out ((s.lane i).outState cause) cause planned else s.lane j := by
  unfold State.laneOut
  dsimp only
  split
  · rw [State.lane_congr (State.laneRepair_bed _ i), State.lane_setLane]
  · exact State.lane_setLane ..

theorem BLane.outState_cases (x : BLane) (cause : Nat) : x.outState cause = .failed ∨ x.outState cause = .retired := by
  unfold BLane.outState
  split
  · exact .inl rfl
  · exact .inr rfl

/-- A lane taken out no longer carries data, and is no spare. -/
theorem State.state_laneOut (s : State) (i cause : Nat) (planned : Bool) :
    ((s.laneOut i cause planned).lane i).state ≠ .data ∧ ((s.laneOut i cause planned).lane i).state ≠ .spare := by
  rw [State.lane_laneOut, if_pos rfl]
  obtain h | h := (s.lane i).outState_cases cause <;> rw [h] <;> exact ⟨by simp [BLane.out], by simp [BLane.out]⟩

/-- A lane less in service is a position less. -/
theorem State.bedWidth_drop {i : Nat} (hi : i ∈ linkLanes a b) (hdata : (s.lane i).state = .data) (hout : (t.lane i).state ≠ .data)
    (hother : ∀ j, j ≠ i → (t.lane j).state = (s.lane j).state) : t.bedWidth a b + 1 = s.bedWidth a b := by
  have hmem : i ∈ s.lanesIn a b .data := State.mem_lanesIn.mpr ⟨hi, hdata⟩
  have herase : t.lanesIn a b .data = (s.lanesIn a b .data).erase i := by
    rw [(s.nodup_lanesIn a b .data).erase_eq_filter, State.lanesIn, State.lanesIn, List.filter_filter]
    apply List.filter_congr
    intro j _
    by_cases hj : j = i
    · subst hj; simp [hout]
    · simp [hother j hj, hj]
  rw [State.bedWidth, State.bedWidth, herase, List.length_erase_of_mem hmem]
  exact Nat.sub_add_cancel (List.length_pos_of_mem hmem)

/-! ### Changes take effect -/

theorem lanesOnly_applyChange_retire (s : State) (p c k : Nat) (planned : Bool) : lanesOnly s (s.applyChange a b (.retire p c k planned)) := by
  unfold State.applyChange
  dsimp only
  split
  · exact lanesOnly_laneOut ..
  · exact lanesOnly_refl s

/-- A link with the changes `rest` left to wait. -/
def State.waitFor (s : State) (a b : Nat) (rest : List BChange) : State := s.setLink a b { s.link a b with changes := rest }

/-- The changes of a link that take effect, retirements first; the others wait. -/
theorem State.applyChanges_eq {p : BChange → Bool} {due rest : List BChange}
    (hdue : ((s.link a b).changes.filter p).filter BChange.isRetire ++ ((s.link a b).changes.filter p).filter (fun ch => !ch.isRetire) = due)
    (hrest : (s.link a b).changes.filter (fun ch => !p ch) = rest) :
    s.applyChanges a b p =
      let w := due.foldl (fun s ch => s.applyChange a b ch) (s.waitFor a b rest)
      w.setLink a b { w.link a b with nullOnly := (w.link a b).nullOnly.filter (w.link a b).retiring } := by
  subst hdue hrest
  rfl

/-- Where the changes due move lanes alone and no retirement is left, the link waits for the rest without a position under an unplanned
cause. -/
theorem State.applyChanges_spec (hb : b < 23) {p : BChange → Bool} {due rest : List BChange}
    (hdue : ((s.link a b).changes.filter p).filter BChange.isRetire ++ ((s.link a b).changes.filter p).filter (fun ch => !ch.isRetire) = due)
    (hrest : (s.link a b).changes.filter (fun ch => !p ch) = rest) (hjoins : ∀ ch ∈ rest, ch.isRetire = false)
    (hmove : lanesOnly (s.waitFor a b rest)
      (due.foldl (fun s ch => s.applyChange a b ch) (s.waitFor a b rest))) :
    let w := due.foldl (fun s ch => s.applyChange a b ch) (s.waitFor a b rest)
    let t := s.applyChanges a b p
    t.link a b = { s.link a b with changes := rest, nullOnly := [] } ∧ otherLinks s t a b ∧ (∀ i, t.lane i = w.lane i) ∧
      keeps s t [.bed, .store] := by
  have heq := State.applyChanges_eq hdue hrest
  generalize due.foldl (fun s ch => s.applyChange a b ch) (s.waitFor a b rest) = w at *
  obtain ⟨hlinks, hkeep⟩ := hmove
  have hlink : w.link a b = { s.link a b with changes := rest } := by
    simp only [State.link, hlinks]
    exact State.link_setLink s a b _
  have hret : ∀ q, ¬ (w.link a b).retiring q = true := by
    intro q hq
    rw [hlink, BLink.retiring, List.any_eq_true] at hq
    obtain ⟨ch, hch, hq⟩ := hq
    cases ch with
    | retire => exact absurd (hjoins _ hch) (by simp [BChange.isRetire])
    | join => exact absurd hq (by simp)
  have hnull : ∀ x : BLink, (∀ q, ¬ x.retiring q = true) → { x with nullOnly := x.nullOnly.filter x.retiring } = { x with nullOnly := [] } :=
    fun x hx => by rw [List.filter_eq_nil_iff.mpr fun q _ => hx q]
  dsimp only
  rw [heq]
  refine ⟨(State.link_setLink ..).trans ((hnull _ hret).trans (by rw [hlink])), ?_, fun i => rfl, ?_⟩
  · exact otherLinks_trans (otherLinks_setLink s _ hb) (otherLinks_trans (otherLinks_of_links hlinks) (otherLinks_setLink _ _ hb))
  · exact keeps_trans (keeps_mono (keeps_setLink s a b _) (by simp)) (keeps_trans hkeep (keeps_mono (keeps_setLink ..) (by simp)))

end Sys2Proof.Machine
end

section
/-! PROOF. BED_BOUNDARY (R333, R344, R345). -/

namespace Sys2Proof.Machine

variable {s : State} {a b c p d k i : Nat} {pl : Bool}

/-- A link at codeword count c. -/
def State.counted (s : State) (a b c : Nat) : State := s.setLink a b { s.link a b with count := c % 2 ^ 32 }

theorem exec_bedBoundary (hlive : (s.link a b).state = .live) (hup : s.linkDies a b = true) :
    exec (.bedBoundary a b c) s = .next ((s.counted a b c).applyChanges a b fun ch => reached c ch.at) := by
  have harm : exec (.bedBoundary a b c) s = execBedBoundary a b c s := rfl
  have hruns : ((s.link a b).state != .live || !s.linkDies a b) = false := by simp [hlive, hup]
  rw [harm]
  unfold execBedBoundary
  dsimp only
  rw [hruns, if_neg Bool.false_ne_true]
  rfl

theorem State.link_counted : (s.counted a b c).link a b = { s.link a b with count := c % 2 ^ 32 } := State.link_setLink ..

theorem State.applyChange_retire {u : State} (hlanes : ∀ l, u.lane l = s.lane l)
    (hfind : (s.lanesIn a b .data).find? (fun i => (s.lane i).pos == p) = some i) : u.applyChange a b (.retire p d k pl) = u.laneOut i k pl := by
  have hfind' : (u.lanesIn a b .data).find? (fun i => (u.lane i).pos == p) = some i := by
    simp only [hlanes, State.lanesIn_congr hlanes]; exact hfind
  unfold State.applyChange
  dsimp only
  rw [hfind']

theorem State.bedWidth_laneOut (hfind : (s.lanesIn a b .data).find? (fun i => (s.lane i).pos == p) = some i) (k : Nat) (pl : Bool) :
    (s.laneOut i k pl).bedWidth a b + 1 = s.bedWidth a b := by
  obtain ⟨-, himem, hidata, -⟩ := State.find_data hfind
  exact State.bedWidth_drop (State.mem_lanesIn.mp himem).1 hidata (s.state_laneOut i k pl).1 fun j hj =>
    congrArg _ ((State.lane_laneOut ..).trans (if_neg hj))

/-- A spare in the place of the lane that leaves: the width stays. -/
theorem State.bedWidth_swap (hfind : (s.lanesIn a b .data).find? (fun i => (s.lane i).pos == p) = some i) (k : Nat) (pl : Bool) {j : Nat}
    (hj : j ∈ s.lanesIn a b .spare) (hji : j ≠ i) {x : BLane} (hx : x.state = .data) :
    ((s.laneOut i k pl).setLane j x).bedWidth a b = s.bedWidth a b := by
  obtain ⟨hjlink, hjspare⟩ := State.mem_lanesIn.mp hj
  have hout : (s.laneOut i k pl).lane j = s.lane j := (State.lane_laneOut ..).trans (if_neg hji)
  have hjoin := State.bedWidth_drop (s := (s.laneOut i k pl).setLane j x) (t := s.laneOut i k pl) hjlink (by rw [State.lane_setLane_self, hx])
    (by rw [hout, hjspare]; simp) fun l hl => by rw [State.lane_setLane_ne _ _ hl]
  rw [← hjoin, State.bedWidth_laneOut hfind]

theorem State.applyChange_join {j : Nat} (h : (s.lane j).state = .spare) :
    s.applyChange a b (.join p d j) = s.setLane j { s.lane j with state := .data, pos := p } := by
  unfold State.applyChange
  dsimp only
  rw [h]
  rfl

section
variable (hb : b < 23) (hfind : (s.lanesIn a b .data).find? (fun i => (s.lane i).pos == p) = some i) (hdue : reached c d = true)
include hb hfind hdue

/-- A retirement that is due takes its lane out. -/
theorem State.boundary_retire (hch : (s.link a b).changes = [.retire p d k pl]) :
    let t := (s.counted a b c).applyChanges a b fun ch => reached c ch.at
    t.link a b = { s.link a b with count := c % 2 ^ 32, changes := [], nullOnly := [] } ∧ otherLinks s t a b ∧
      (∀ j, t.lane j = (s.laneOut i k pl).lane j) ∧ keeps s t [.bed, .store] := by
  have hlink := s.link_counted (a := a) (b := b) (c := c)
  have hmove : lanesOnly ((s.counted a b c).waitFor a b [])
      ([BChange.retire p d k pl].foldl (fun s ch => s.applyChange a b ch) ((s.counted a b c).waitFor a b [])) :=
    lanesOnly_applyChange_retire _ p d k pl
  obtain ⟨hl, hother, hlane, hkeep⟩ := State.applyChanges_spec (s := s.counted a b c) (p := fun ch => reached c ch.at) hb
    (due := [.retire p d k pl]) (by rw [hlink, hch]; simp [BChange.at, hdue, BChange.isRetire])
    (rest := []) (by rw [hlink, hch]; simp [BChange.at, hdue]) (by simp) hmove
  refine ⟨hl.trans (by rw [hlink]), otherLinks_trans (otherLinks_setLink s _ hb) hother, fun j => ?_,
    keeps_trans (keeps_mono (keeps_setLink s a b _) (by simp)) hkeep⟩
  rw [hlane j, List.foldl_cons, List.foldl_nil, State.applyChange_retire (s := s) ?_ hfind, State.lane_laneOut, State.lane_laneOut]
  · rfl
  · exact fun _ => rfl

/-- A retirement and an admission that are due: the lane leaves, and the spare takes its position. -/
theorem State.boundary_swap {j : Nat} (hch : (s.link a b).changes = [.retire p d k pl, .join p d j]) (hji : j ≠ i)
    (hspare : (s.lane j).state = .spare) :
    let t := (s.counted a b c).applyChanges a b fun ch => reached c ch.at
    t.link a b = { s.link a b with count := c % 2 ^ 32, changes := [], nullOnly := [] } ∧
      (∀ l, t.lane l = ((s.laneOut i k pl).setLane j { s.lane j with state := .data, pos := p }).lane l) ∧ keeps s t [.bed, .store] := by
  have hlink := s.link_counted (a := a) (b := b) (c := c)
  have hfold : [BChange.retire p d k pl, .join p d j].foldl (fun s ch => s.applyChange a b ch)
        ((s.counted a b c).waitFor a b []) =
      (((s.counted a b c).waitFor a b []).laneOut i k pl).setLane j
        { s.lane j with state := .data, pos := p } := by
    have hlane : (((s.counted a b c).waitFor a b []).laneOut i k pl).lane j = s.lane j :=
      (State.lane_laneOut ..).trans (if_neg hji)
    rw [List.foldl_cons, List.foldl_cons, List.foldl_nil, State.applyChange_retire (s := s) ?_ hfind,
      State.applyChange_join ((congrArg BLane.state hlane).trans hspare), hlane]
    exact fun _ => rfl
  obtain ⟨hl, -, hlane, hkeep⟩ := State.applyChanges_spec (s := s.counted a b c) (p := fun ch => reached c ch.at) hb
    (due := [.retire p d k pl, .join p d j]) (by rw [hlink, hch]; simp [BChange.at, hdue, BChange.isRetire]; rfl)
    (rest := []) (by rw [hlink, hch]; simp [BChange.at, hdue]) (by simp)
    (by rw [hfold]; exact lanesOnly_trans (lanesOnly_laneOut ..) (lanesOnly_setLane ..))
  refine ⟨hl.trans (by rw [hlink]), fun l => ?_, keeps_trans (keeps_mono (keeps_setLink s a b _) (by simp)) hkeep⟩
  rw [hlane l, hfold, State.lane_setLane, State.lane_setLane, State.lane_laneOut, State.lane_laneOut]
  rfl

end

end Sys2Proof.Machine
end

section
/-! PROOF. A link retrains (R339, R345, R349). -/

namespace Sys2Proof.Machine

variable {s : State} {a b : Nat}

/-- A link in its quick training: the retry buffer and the sequence numbers are kept. -/
def BLink.retrained (x : BLink) : BLink :=
  { x with state := .train, quick := true, changes := [], nullOnly := [], reqs := [], retrainReq := false, txStream := [], rxStream := [], txCtl := [],
           retrains := satAdd x.retrains 1 }

theorem BLink.retrained_congr (x : BLink) (rest : List BChange) (pos : List Nat) : { x with changes := rest, nullOnly := pos }.retrained = x.retrained := rfl

/-- Lanes that go into training, each as it stands. -/
theorem State.lane_foldl_training (xs : List Nat) (s : State) (j : Nat) :
    (xs.foldl (fun s i => s.setLane i { s.lane i with state := .training }) s).lane j =
      if j ∈ xs then { s.lane j with state := .training } else s.lane j := by
  induction xs generalizing s with
  | nil => rfl
  | cons x xs ih =>
    rw [List.foldl_cons, ih, State.lane_setLane]
    by_cases hj : j = x
    · subst hj; simp
    · simp [hj]

theorem lanesOnly_foldl_training (xs : List Nat) (s : State) :
    lanesOnly s (xs.foldl (fun s i => s.setLane i { s.lane i with state := .training }) s) :=
  lanesOnly_foldl (fun s i _ => lanesOnly_setLane s i _) s

/-- The retirements that wait take effect before a training. -/
theorem State.retireAll_spec (s : State) (hb : b < 23) :
    let t := s.applyChanges a b fun ch => ch.isRetire
    (∃ rest, t.link a b = { s.link a b with changes := rest, nullOnly := [] }) ∧ otherLinks s t a b ∧
      ((s.link a b).changes = [] → ∀ i, t.lane i = s.lane i) ∧ keeps s t [.bed, .store] := by
  have hdue : (((s.link a b).changes.filter fun ch => ch.isRetire).filter BChange.isRetire) ++
      ((s.link a b).changes.filter fun ch => ch.isRetire).filter (fun ch => !ch.isRetire) = (s.link a b).changes.filter fun ch => ch.isRetire := by
    rw [List.filter_filter, List.filter_filter]
    simp
  have hmove : ∀ u, lanesOnly u (((s.link a b).changes.filter fun ch => ch.isRetire).foldl (fun s ch => s.applyChange a b ch) u) :=
    fun u => lanesOnly_foldl (fun v ch hch => by
      cases ch with
      | retire p c k planned => exact lanesOnly_applyChange_retire v p c k planned
      | join => simp [BChange.isRetire] at hch) u
  obtain ⟨hlink, hother, hlane, hkeep⟩ := State.applyChanges_spec hb hdue rfl (by simp) (hmove _)
  refine ⟨⟨_, hlink⟩, hother, fun hnil i => ?_, hkeep⟩
  rw [hlane i, hnil]
  rfl

/-- The quick training of a link begins. -/
theorem State.bedRetrain_spec (s : State) (hb : b < 23) :
    let t := s.bedRetrain a b
    t.link a b = (s.link a b).retrained ∧ otherLinks s t a b ∧
      ((s.link a b).changes = [] → ∀ i, t.lane i = if i ∈ linkLanes a b ∧ ((s.lane i).state = .data ∨ (s.lane i).state = .spare) then
        { s.lane i with state := .training } else s.lane i) ∧
      keeps s t [.bed, .regs, .outbox, .store] := by
  obtain ⟨⟨rest, hlink⟩, hother, hlane, hkeep⟩ := s.retireAll_spec (a := a) hb
  unfold State.bedRetrain
  generalize s.applyChanges a b (fun ch => ch.isRetire) = w at *
  obtain ⟨hlinks, hkeep'⟩ := lanesOnly_foldl_training (w.lanesIn a b .data ++ w.lanesIn a b .spare) w
  have hfold := State.lane_foldl_training (w.lanesIn a b .data ++ w.lanesIn a b .spare) w
  dsimp only
  generalize (w.lanesIn a b .data ++ w.lanesIn a b .spare).foldl (fun s i => s.setLane i { s.lane i with state := .training }) w = v at *
  have hv : v.link a b = { s.link a b with changes := rest, nullOnly := [] } := by rw [← hlink]; simp only [State.link, hlinks]
  refine ⟨?_, ?_, fun hnil i => ?_, ?_⟩
  · rw [State.link_congr (State.readyUpd_bed _)]
    exact (State.link_setLink ..).trans ((congrArg BLink.retrained hv).trans (BLink.retrained_congr ..))
  · exact otherLinks_trans hother (otherLinks_trans (otherLinks_of_links hlinks)
      (otherLinks_trans (otherLinks_setLink _ _ hb) (otherLinks_of_links (by rw [State.readyUpd_bed]))))
  · rw [State.lane_congr (State.readyUpd_bed _), State.lane_setLink, hfold i, hlane hnil i]
    simp only [List.mem_append, State.mem_lanesIn, hlane hnil i, and_or_left]
  · exact keeps_trans (keeps_mono hkeep (by simp)) (keeps_trans (keeps_mono hkeep' (by simp))
      (keeps_trans (keeps_mono (keeps_setLink ..) (by simp)) (keeps_mono (keeps_readyUpd _) (by simp))))

theorem exec_bedCreditTimeout (hlive : (s.link a b).state = .live) (hup : s.linkDies a b = true) (hwidth : s.bedWidth a b ≠ 0) :
    exec (.bedCreditTimeout a b) s =
      .next ((s.setLink a b { s.link a b with creditTo := satAdd (s.link a b).creditTo 1 }).bedRetrain a b) := by
  have harm : exec (.bedCreditTimeout a b) s = execBedCreditTimeout a b s := rfl
  have hruns : ((s.link a b).state != .live || decide (s.bedWidth a b = 0) || !s.linkDies a b) = false := by simp [hlive, hup, hwidth]
  rw [harm]
  unfold execBedCreditTimeout
  dsimp only
  rw [hruns, if_neg Bool.false_ne_true]

theorem State.laneAtPos_data {p i : Nat} (hfind : (s.lanesIn a b .data).find? (fun i => (s.lane i).pos == p) = some i) :
    s.laneAtPos a b p = some i := by
  unfold State.laneAtPos
  rw [hfind]

theorem exec_bedReqRetireTimeout {p k i : Nat} (hlive : (s.link a b).state = .live) (hup : s.linkDies a b = true) (hreqs : (s.link a b).reqs = [(p, k)])
    (hfind : (s.lanesIn a b .data).find? (fun i => (s.lane i).pos == p) = some i) :
    exec (.bedReqRetireTimeout a b) s = .next ((s.laneOut i k false).bedRetrain a b) := by
  have harm : exec (.bedReqRetireTimeout a b) s = execBedReqRetireTimeout a b s := rfl
  have hruns : ((s.link a b).state != .live || decide ((s.link a b).reqs = []) || !s.linkDies a b) = false := by simp [hlive, hup, hreqs]
  rw [harm]
  unfold execBedReqRetireTimeout
  dsimp only
  rw [hruns, if_neg Bool.false_ne_true, hreqs, List.foldl_cons, List.foldl_nil, State.laneAtPos_data hfind]

end Sys2Proof.Machine
end

section
/-! PROOF. Control blocks (R332, R333, R344). -/

namespace Sys2Proof.Machine

variable {s : State} {a b : Nat} {m : List Byte}

theorem State.bedControl_align (h : bfld m 0 1 = 0x2D) : s.bedControl a b m = s.bedAlign a b (bfld m 4 4) := by
  unfold State.bedControl
  dsimp only
  rw [h]
  rfl

section
variable (hlive : (s.link a b).state = .live)
include hlive

theorem State.bedControl_retire (h : bfld m 0 1 = 0x55) :
    s.bedControl a b m = s.bedRetire a b (bfld m 2 2) (bfld m 4 4) (bfld m 8 1 % 2 == 1) := by
  unfold State.bedControl
  dsimp only
  rw [h, hlive]
  rfl

theorem State.bedControl_admit (h : bfld m 0 1 = 0x66) : s.bedControl a b m = s.bedAdmit a b (bfld m 2 2) (bfld m 4 4) (bfld m 8 2) := by
  unfold State.bedControl
  dsimp only
  rw [h, hlive]
  rfl

theorem State.bedControl_reqRetire (h : bfld m 0 1 = 0x78) : s.bedControl a b m = s.bedReqRetire b a (bfld m 2 2) (bfld m 4 1) := by
  unfold State.bedControl
  dsimp only
  rw [h, hlive]
  rfl

end

variable {p c : Nat} {pl : Bool}

theorem State.bedAlign_block (h : c % 4096 = 0) : s.bedAlign a b c = s.setLink a b { s.link a b with count := c % 2 ^ 32 } := by
  rw [State.bedAlign, if_pos h]

theorem State.bedRetire_new (h : (s.link a b).retiring p = false) : s.bedRetire a b p c pl = s.setLink a b
    { s.link a b with changes := (s.link a b).changes ++ [.retire p c ((((s.link a b).reqs.find? fun r => r.1 == p).map (·.2)).getD 0) pl],
                      reqs := (s.link a b).reqs.filter fun r => r.1 ≠ p } := by
  unfold State.bedRetire
  dsimp only
  rw [h, if_neg Bool.false_ne_true]

/-- Of two boundaries for one position the earlier applies. -/
theorem State.bedRetire_again {d k : Nat} {ql : Bool} (h : (s.link a b).changes = [.retire p d k ql]) : s.bedRetire a b p c pl = s.setLink a b
    { s.link a b with changes := [.retire p (if reached d c then c else d) k ql], reqs := (s.link a b).reqs.filter fun r => r.1 ≠ p } := by
  have hret : (s.link a b).retiring p = true := by rw [BLink.retiring, h]; simp
  unfold State.bedRetire
  dsimp only
  rw [hret, if_pos rfl, h]
  cases hr : reached d c <;> simp [hr]

theorem State.bedAdmit_spare {i n : Nat} (h : (s.link a b).filling p = false)
    (hfind : (s.lanesIn a b .spare).find? (fun i => (s.lane i).pos == n) = some i) :
    s.bedAdmit a b p c n = s.setLink a b { s.link a b with changes := (s.link a b).changes ++ [.join p c i] } := by
  unfold State.bedAdmit
  dsimp only
  rw [h, if_neg Bool.false_ne_true, hfind]

end Sys2Proof.Machine
end

section
/-! PROOF. The sender announces a retirement, the receiver asks for one (R343, R344). -/

namespace Sys2Proof.Machine

variable {s t : State} {a b i cause : Nat} {sp : Bool}

theorem keeps_announce (s : State) (a b : Nat) (ch : BChange) : keeps s (s.announce a b ch) [.bed, .outbox] := by simp [keeps, State.announce]

theorem State.link_announce (s : State) (a b : Nat) (ch : BChange) : (s.announce a b ch).link a b =
    { s.link a b with changes := (s.link a b).changes ++ [ch], txCtl := (s.link a b).txCtl ++ [s.changeBytes ch] } := State.link_setLink ..

theorem otherLinks_announce (s : State) (hb : b < 23) (ch : BChange) : otherLinks s (s.announce a b ch) a b := otherLinks_setLink s _ hb

theorem State.changeBytes_congr (h : t.bed.lanes = s.bed.lanes) (ch : BChange) : t.changeBytes ch = s.changeBytes ch := by
  cases ch <;> simp only [State.changeBytes, State.lane, h]

/-- The spare called in next is the same while only retirements are announced. -/
theorem State.readySpare_congr (h : t.bed.lanes = s.bed.lanes) (hch : ∀ i, (t.link a b).chosen i = (s.link a b).chosen i) :
    t.readySpare a b = s.readySpare a b := by
  simp only [State.readySpare, State.lowestPos, State.lanesIn, State.lane, h, hch]
  rfl

/-- The RETIRE of an unplanned retirement is announced: from now on null flits only. -/
def State.retireNoted (s : State) (a b p cause : Nat) : State :=
  let u := s.announce a b (.retire p (((s.link a b).count + 16) % 2 ^ 32) cause false)
  u.setLink a b { u.link a b with nullOnly := (u.link a b).nullOnly ++ [p] }

theorem State.link_retireNoted (s : State) (a b p cause : Nat) : (s.retireNoted a b p cause).link a b =
    let ch := BChange.retire p (((s.link a b).count + 16) % 2 ^ 32) cause false
    { s.link a b with changes := (s.link a b).changes ++ [ch], nullOnly := (s.link a b).nullOnly ++ [p],
                      txCtl := (s.link a b).txCtl ++ [s.changeBytes ch] } := by
  unfold State.retireNoted
  dsimp only
  rw [State.link_setLink, State.link_announce]

theorem State.readySpare_retireNoted (s : State) (a b p cause : Nat) : (s.retireNoted a b p cause).readySpare a b = s.readySpare a b := by
  refine State.readySpare_congr rfl fun i => ?_
  rw [State.link_retireNoted]
  simp [BLink.chosen]

theorem keeps_retireNoted (s : State) (a b p cause : Nat) : keeps s (s.retireNoted a b p cause) [.bed, .outbox] := by
  simp [keeps, State.retireNoted, State.announce]

theorem otherLinks_retireNoted (s : State) (hb : b < 23) (p cause : Nat) : otherLinks s (s.retireNoted a b p cause) a b :=
  otherLinks_trans (otherLinks_announce s hb _) (otherLinks_setLink _ _ hb)

theorem State.retirePos_eq {p : Nat} (hret : (s.link a b).retiring p = false) : s.retirePos a b p cause false =
    match s.readySpare a b with
    | some i => (s.retireNoted a b p cause).announce a b (.join p (((s.link a b).count + 16) % 2 ^ 32) i)
    | none => s.retireNoted a b p cause := by
  rw [← s.readySpare_retireNoted a b p cause]
  unfold State.retirePos
  dsimp only
  rw [hret, if_neg Bool.false_ne_true, if_neg Bool.false_ne_true, Bool.false_and, if_neg Bool.false_ne_true]
  rfl

/-- An unplanned retirement of one position, announced with the spare that comes in. -/
theorem State.retirePos_spec (s : State) (hb : b < 23) {p : Nat} (hret : (s.link a b).retiring p = false) :
    retireAnnounced s (s.retirePos a b p cause false) a b p cause ∧ keeps s (s.retirePos a b p cause false) [.bed, .outbox] := by
  rw [State.retirePos_eq hret]
  unfold retireAnnounced
  dsimp only
  cases hspare : s.readySpare a b with
  | none =>
    exact ⟨⟨s.link_retireNoted a b p cause, rfl, otherLinks_retireNoted s hb p cause, rfl⟩, keeps_retireNoted s a b p cause⟩
  | some i =>
    refine ⟨⟨?_, ?_, otherLinks_trans (otherLinks_retireNoted s hb p cause) (otherLinks_announce _ hb _), rfl⟩,
      keeps_trans (keeps_retireNoted s a b p cause) (keeps_announce ..)⟩
    · rw [State.link_announce, State.link_retireNoted, State.changeBytes_congr (t := s.retireNoted a b p cause) (s := s) rfl]
      simp
    · show (s.outbox ++ [_]) ++ [_] = _
      simp

/-! ### Who asks -/

theorem State.retireLane_data (hinfo : laneInfo i = some (a, b, sp)) (hdata : (s.lane i).state = .data) (hlive : (s.link a b).state = .live) :
    s.retireLane i cause false = s.retirePos a b (s.lane i).pos cause false := by
  unfold State.retireLane
  rw [hinfo]
  dsimp only
  rw [hdata, hlive]
  rfl

theorem State.retireLane_spare (hinfo : laneInfo i = some (a, b, sp)) (hspare : (s.lane i).state = .spare) :
    s.retireLane i cause false = s.laneOut i cause false := by
  unfold State.retireLane
  rw [hinfo]
  dsimp only
  rw [hspare]

/-- REQ_RETIRE for a lane in service. -/
theorem State.bedReqRetire_data {p : Nat} (hlive : (s.link a b).state = .live)
    (hfind : (s.lanesIn a b .data).find? (fun i => (s.lane i).pos == p) = some i) :
    s.bedReqRetire a b p cause = s.retirePos a b p cause false := by
  obtain ⟨⟨sp, hinfo⟩, -, hdata, hpos⟩ := State.find_data hfind
  unfold State.bedReqRetire
  rw [hlive, State.laneAtPos_data hfind]
  dsimp only
  rw [State.retireLane_data hinfo hdata hlive, hpos]
  rfl

theorem exec_bedLaneErrorLimit (h : (s.lane i).state = .data ∨ (s.lane i).state = .spare) : exec (.bedLaneErrorLimit i) s = .next (s.askRetire i 2) := by
  have harm : exec (.bedLaneErrorLimit i) s = execBedLaneErrorLimit i s := rfl
  rw [harm]
  unfold execBedLaneErrorLimit
  obtain h | h := h <;> rw [h]

/-- The receiver of a link asks for the retirement of a position: it notes it, and the reverse link carries the request. -/
def State.askPos (s : State) (a b p cause : Nat) : State :=
  let u := s.setLink a b { s.link a b with reqs := (s.link a b).reqs ++ [(p, cause)] }
  if (s.link b a).state = .live then
    (u.setLink b a { s.link b a with txCtl := (s.link b a).txCtl ++ [reqBytes p cause] }).emit (.breq a b p cause)
  else u

theorem State.askRetire_data (h : linkExists a b = true) (hinfo : laneInfo i = some (a, b, sp)) (hdata : (s.lane i).state = .data)
    (hlive : (s.link a b).state = .live) : s.askRetire i cause = s.askPos a b (s.lane i).pos cause := by
  have hcond : ((s.lane i).state == .data && (s.link a b).state == .live) = true := by simp [hdata, hlive]
  unfold State.askRetire State.askPos
  rw [hinfo]
  dsimp only
  rw [if_pos hcond, State.link_setLink_rev s _ h]
  simp only [beq_iff_eq]

theorem State.askRetire_spare (hinfo : laneInfo i = some (a, b, sp)) (hspare : (s.lane i).state = .spare) :
    s.askRetire i cause = s.laneOut i cause false := by
  have hcond : ((s.lane i).state == .data && (s.link a b).state == .live) = false := by simp [hspare]
  rw [← State.retireLane_spare (cause := cause) hinfo hspare]
  unfold State.askRetire
  rw [hinfo]
  dsimp only
  rw [hcond, if_neg Bool.false_ne_true]

theorem State.askPos_spec (h : linkExists a b = true) (p cause : Nat) :
    let t := s.askPos a b p cause
    t.link a b = { s.link a b with reqs := (s.link a b).reqs ++ [(p, cause)] } ∧
      t.outbox = s.outbox ++ (if (s.link b a).state = .live then [.breq a b p cause] else []) ∧
      t.link b a = (if (s.link b a).state = .live then { s.link b a with txCtl := (s.link b a).txCtl ++ [reqBytes p cause] } else s.link b a) ∧
      t.bed.lanes = s.bed.lanes ∧ keeps s t [.bed, .outbox] := by
  unfold State.askPos
  dsimp only
  split
  · refine ⟨(State.link_setLink_rev' _ _ h).trans (State.link_setLink ..), rfl, State.link_setLink .., rfl, by simp [keeps]⟩
  · exact ⟨State.link_setLink .., (List.append_nil _).symm, State.link_setLink_rev _ _ h, rfl, by simp [keeps]⟩

end Sys2Proof.Machine
end

section
/-! PROOF. Bed flits, credits, replay and the changes at boundaries. -/

namespace Sys2Proof.Machine

variable {s : State} {a b : Nat} {words : List (Nat × BitVec 516)}

/-- A period of one flit and no control block: the flit is taken. -/
theorem exec_flitReceive_one {f : List Byte} (hlive : (s.link a b).state = .live) (hup : s.linkDies a b = true)
    (hctl : (s.period a b words).ctl = none) (hlost : (s.period a b words).lost = false) (hflits : (s.period a b words).flits = [f]) :
    exec (.flitReceive a b words) s = .next ((s.period a b words).st.takeFlit a b f) := by
  rw [exec_flitReceive, State.bedPeriod_noControl hlive hup hlost hctl, hflits]
  rfl

/-- A good flit without a NAK, or with nothing to replay: both halves of the link are updated. -/
theorem State.takeFlit_quiet (h : linkExists a b = true) {f : List Byte} (hgood : flitGood f)
    (hquiet : bfld f 4 2 % 2 = 0 ∨ (s.link b a).unacked (bfld f 0 4 / 2 ^ 20) = []) :
    let t := s.takeFlit a b f
    keeps s t [.bed] ∧ t.link b a = (s.link b a).acked (bfld f 0 4 / 2 ^ 20) (bfld f 4 2 / 4 % 16) (bfld f 4 2 / 64) ∧
      t.link a b = (s.link a b).taken (bfld f 0 4) (f.drop 8) := by
  have hrev := State.link_flitIn_rev (s := s) h (bfld f 0 4) (f.drop 8)
  have hnak : (bfld f 4 2 % 2 == 1) = false ∨ ((s.flitIn a b (bfld f 0 4) (f.drop 8)).link b a).unacked (bfld f 0 4 / 2 ^ 20) = [] := by
    rw [hrev]
    exact hquiet.imp (fun h0 => by rw [h0]; rfl) id
  dsimp only
  rw [State.takeFlit_good hgood, State.flitBack_quiet hnak, hrev]
  exact ⟨keeps_trans (keeps_flitIn ..) (keeps_setLink ..), State.link_setLink .., (State.link_setLink_rev' _ _ h).trans (State.link_flitIn ..)⟩

/-- A good flit with a NAK: every flit that stays unacknowledged is sent again. -/
theorem State.takeFlit_replay (h : linkExists a b = true) {f : List Byte} (hgood : flitGood f) (hnak : bfld f 4 2 % 2 = 1)
    (hun : (s.link b a).unacked (bfld f 0 4 / 2 ^ 20) ≠ []) :
    let t := s.takeFlit a b f
    keeps s t [.bed, .outbox] ∧ (t.link b a).retry = (s.link b a).unacked (bfld f 0 4 / 2 ^ 20) ∧
      (t.link b a).replays = satAdd (s.link b a).replays 1 ∧
      t.outbox.length = s.outbox.length + ((s.link b a).unacked (bfld f 0 4 / 2 ^ 20)).length := by
  have hrev := State.link_flitIn_rev (s := s) h (bfld f 0 4) (f.drop 8)
  have hin := keeps_flitIn s a b (bfld f 0 4) (f.drop 8)
  have hout := outbox_of_keeps_bed hin
  dsimp only
  rw [State.takeFlit_good hgood, hnak]
  rw [show ((1 : Nat) == 1) = true from rfl, State.flitBack_replay (by rw [hrev]; exact hun), hrev]
  obtain ⟨hretry, hreplays, hlen, hkeep⟩ := State.replay_spec h ((s.link b a).unacked (bfld f 0 4 / 2 ^ 20))
    (((s.flitIn a b (bfld f 0 4) (f.drop 8)).setLink b a ((s.link b a).acked (bfld f 0 4 / 2 ^ 20) (bfld f 4 2 / 4 % 16) (bfld f 4 2 / 64))).setLink b a
      { (s.link b a).acked (bfld f 0 4 / 2 ^ 20) (bfld f 4 2 / 4 % 16) (bfld f 4 2 / 64) with replays := satAdd (s.link b a).replays 1 })
  rw [State.link_setLink] at hretry hreplays
  refine ⟨keeps_trans (keeps_mono hin (by simp)) (keeps_trans (by simp [keeps]) hkeep), hretry, hreplays, ?_⟩
  rw [← hout]; exact hlen

/-- A credit is left in the VC's own pool, or in the shared one. -/
theorem State.bedCredit_of {vc : Nat} (h : 8 ≤ tget 0 (s.link a b).used vc → tget 0 (s.link a b).used 8 < bedUnits a b - 64) :
    s.bedCredit a b vc = true := by
  unfold State.bedCredit
  simp only [Bool.or_eq_true, decide_eq_true_eq]
  omega

/-- Settles O28: each row is the one case of its definition that the clause's conditions select. -/
theorem bedLinkResults : Obligations.BedLinkResults := by
  refine ⟨fun a b vc source first payload ready s => ?send, fun a b words s => ?rows, fun a b bs c s => ?line,
    fun m k hm hk => ⟨bchFix_of_rem (bchRem_bchEncode hm), bchFix_bit hm hk⟩, fun a b words f s => ?receive, fun a b words m s => ?control,
    fun a b c p d k i pl s => ?boundary, fun a b s => ?faults⟩
  case send =>
    intro x r h hlive hup hrx how rest turn nf
    refine ⟨?null, fun hp hno => exec_flitSend_refused vc first hlive hup hp hno, fun hp hlen hvc hnull hwidth hwin hturn => ?numbered⟩
    case null =>
      have hflit : s.sendFlit a b 0 0 false true false [] = s.flitSent a b 0 0 false nf := by
        rw [State.sendFlit_eq h hrx how]; simp [nf, r]
      refine ⟨_, exec_flitSend_null vc first hlive hup, ?_⟩
      rw [hflit]
      exact ⟨State.flitSent_outbox .., State.link_flitSent .., State.flitSent_rest h ..⟩
    case numbered =>
      intro shared pool hshared f
      have hcredit : s.bedCredit a b vc = true := State.bedCredit_of fun h8 => hshared (decide_eq_true h8)
      obtain ⟨hrest, hout, hlink⟩ := State.sendFlit_numbered h x.txSeq vc first hrx how source pool
        { seq := x.txSeq, vc, shared, first, payload := padTo 64 payload } shared (padTo 64 payload)
      exact ⟨_, exec_flitSend_numbered vc first hlive hup hp hlen hvc hnull hwidth hwin hcredit hturn, hrest, hout, hlink⟩
  case rows =>
    refine ⟨?_, fun h1 h2 => congrArg _ (State.bedPeriod_idle h1 h2)⟩
    simp only [List.forall_mem_cons, List.not_mem_nil, false_implies, implies_true, and_true]
    exact ⟨rfl, rfl, rfl, rfl⟩
  case line =>
    intro x h hlive hrx hne hspare got
    obtain ⟨-, hb, -⟩ := linkExists_lt h
    refine ⟨fun hlen => ?_, fun hlen _ => ?_⟩
    · obtain ⟨hlost, hctl, hflits, hlink⟩ := State.period_data hlive hrx hne hspare hlen
      exact ⟨hlost, hctl, hflits, hlink, State.otherLinks_period hb _, keeps_period ..⟩
    · obtain ⟨hlost, hctl, hflits, hlink⟩ := State.period_control hlive hrx hne hspare c hlen
      exact ⟨hlost, hctl, hflits, hlink, State.otherLinks_period hb _, keeps_period ..⟩
  case receive =>
    intro p z x y h hlive hup hctl nakked lo hi seq ack pool unacked
    obtain ⟨-, hb, -⟩ := linkExists_lt h
    have hkeep := keeps_period s a b words
    have hother := State.otherLinks_period (s := s) (a := a) hb words
    refine ⟨fun hlost hflits hbad => ?bad, fun hlost hflits hgood hquiet => ?quiet, fun hlost hflits hgood hnak hun => ?replay, fun hlost => ?lost⟩
    case bad =>
      refine ⟨_, exec_flitReceive_one hlive hup hctl hlost hflits, ?_⟩
      rw [State.takeFlit_bad hbad]
      exact ⟨State.link_refuseFlit .., otherLinks_trans hother (State.otherLinks_refuseFlit _ hb), keeps_trans hkeep (keeps_refuseFlit ..)⟩
    case quiet =>
      obtain ⟨hkeep', hback, htaken⟩ := State.takeFlit_quiet (s := z) h hgood hquiet
      exact ⟨_, exec_flitReceive_one hlive hup hctl hlost hflits, keeps_trans hkeep hkeep', hback, htaken⟩
    case replay =>
      obtain ⟨hkeep', hretry, hreplays, hout⟩ := State.takeFlit_replay (s := z) h hgood hnak hun
      rw [outbox_of_keeps_bed hkeep] at hout
      exact ⟨_, exec_flitReceive_one hlive hup hctl hlost hflits, keeps_trans (keeps_mono hkeep (by simp)) hkeep', hretry, hreplays, hout⟩
    case lost =>
      obtain ⟨hlink, hother', -, hkeep'⟩ := z.bedRetrain_spec (a := a) hb
      refine ⟨_, (exec_flitReceive s a b words).trans (congrArg _ (State.bedPeriod_lost hlive hup hlost)), ?_⟩
      rw [hlink]
      exact ⟨rfl, rfl, rfl, rfl, rfl, rfl, otherLinks_trans hother hother', keeps_trans (keeps_mono hkeep (by simp)) hkeep'⟩
  case control =>
    intro q z x h hlive hup hlost hflits p c
    obtain ⟨ha, -, -⟩ := linkExists_lt h
    have hz : (z.link a b).state = .live := (s.state_period a b words).trans hlive
    have hkeep := keeps_period s a b words
    refine ⟨fun hctl => ⟨congrArg _ (State.bedPeriod_disagree hlive hup hlost hflits hctl), ?disagree⟩,
      fun hctl hk hc => congrArg _ ((State.bedPeriod_control hlive hup hlost hflits hctl).trans ?align),
      fun hctl hk hret => congrArg _ ((State.bedPeriod_control hlive hup hlost hflits hctl).trans ?retire),
      fun d k ql hctl hk hch => congrArg _ ((State.bedPeriod_control hlive hup hlost hflits hctl).trans ?again),
      fun i hctl hk hfill hfind => congrArg _ ((State.bedPeriod_control hlive hup hlost hflits hctl).trans ?admission),
      fun i hctl hk hrlive hfind hret =>
        ⟨_, congrArg Host.Outcome.next (State.bedPeriod_control hlive hup hlost hflits hctl), ?request⟩⟩
    case disagree =>
      obtain ⟨j, k, rest, hlink⟩ := s.link_period a b words
      rw [show (s.period a b words).ctl = some (.disagree, []) from hctl] at hlink
      refine ⟨j, k + 1, Nat.succ_pos k, ?_⟩
      have hrest : x.rxStream = rest := congrArg BLink.rxStream hlink
      rw [hrest]
      exact hlink
    case align => exact (State.bedControl_align hk).trans (State.bedAlign_block hc)
    case retire => exact (State.bedControl_retire hz hk).trans (State.bedRetire_new hret)
    case again => exact (State.bedControl_retire hz hk).trans (State.bedRetire_again hch)
    case admission => exact (State.bedControl_admit hz hk).trans (State.bedAdmit_spare hfill hfind)
    case request =>
      rw [State.bedControl_reqRetire hz hk, State.bedReqRetire_data hrlive hfind]
      obtain ⟨hann, hkeep'⟩ := z.retirePos_spec (a := b) (cause := bfld m 4 1) ha hret
      exact ⟨hann, keeps_trans (keeps_mono hkeep (by simp)) hkeep'⟩
  case boundary =>
    intro x h hlive hup hfind hdue gone
    obtain ⟨-, hb, -⟩ := linkExists_lt h
    obtain ⟨-, -, hidata, -⟩ := State.find_data hfind
    have hgone : (s.laneOut i k pl).lane i = gone := (State.lane_laneOut ..).trans (if_pos rfl)
    refine ⟨fun hch => ?alone, fun j hch hj => ?replaced⟩
    case alone =>
      obtain ⟨hlink, hother, hlane, hkeep⟩ := State.boundary_retire hb hfind hdue hch
      refine ⟨_, exec_bedBoundary hlive hup, hother, hlink, (hlane i).trans hgone, fun j hj => ?_, ?_, hkeep⟩
      · exact (hlane j).trans ((State.lane_laneOut ..).trans (if_neg hj))
      · rw [State.bedWidth_congr hlane, State.bedWidth_laneOut hfind]
    case replaced =>
      obtain ⟨-, hjspare⟩ := State.mem_lanesIn.mp hj
      have hji : j ≠ i := by rintro rfl; rw [hidata] at hjspare; cases hjspare
      obtain ⟨hlink, hlane, hkeep⟩ := State.boundary_swap hb hfind hdue hch hji hjspare
      refine ⟨_, exec_bedBoundary hlive hup, hlink, ?_, ?_, ?_, hkeep⟩
      · rw [hlane i, State.lane_setLane_ne _ _ (Ne.symm hji), hgone]
      · rw [hlane j, State.lane_setLane_self]
      · rw [State.bedWidth_congr hlane]; exact State.bedWidth_swap hfind k pl hj hji rfl
  case faults =>
    intro x h hlive hup
    obtain ⟨-, hb, -⟩ := linkExists_lt h
    refine ⟨fun hwidth => ?timeout, fun p k i hreqs hch hfind => ?unanswered, fun i sp hinfo => ⟨fun hdata => ?data, fun hspare => ?spare⟩⟩
    case timeout =>
      refine ⟨_, exec_bedCreditTimeout hlive hup hwidth, ?_⟩
      obtain ⟨hlink, hother, hlane, hkeep⟩ := (s.setLink a b { x with creditTo := satAdd x.creditTo 1 }).bedRetrain_spec (a := a) hb
      rw [State.link_setLink] at hlink hlane
      exact ⟨⟨hlink, otherLinks_trans (otherLinks_setLink s _ hb) hother, hlane⟩, keeps_trans (keeps_mono (keeps_setLink ..) (by simp)) hkeep⟩
    case unanswered =>
      refine ⟨_, exec_bedReqRetireTimeout hlive hup hreqs hfind, ?_⟩
      obtain ⟨hlinks, hkeep⟩ := lanesOnly_laneOut s i k false
      have hlinkOut : (s.laneOut i k false).link a b = x := by simp only [State.link, hlinks, x]
      obtain ⟨hlink, -, hlane, hkeep'⟩ := (s.laneOut i k false).bedRetrain_spec (a := a) hb
      rw [hlinkOut] at hlink hlane
      obtain ⟨hnd, hns⟩ := s.state_laneOut i k false
      refine ⟨?_, ?_, keeps_trans (keeps_mono hkeep (by simp)) hkeep'⟩
      · rw [hlane hch i, if_neg (by simp [hnd, hns]), State.lane_laneOut, if_pos rfl]
      · rw [hlink, BLink.retrained, hch]
    case data =>
      exact ⟨_, (exec_bedLaneErrorLimit (.inl hdata)).trans (congrArg _ (State.askRetire_data h hinfo hdata hlive)), State.askPos_spec h _ 2⟩
    case spare =>
      obtain ⟨hlinks, hkeep⟩ := lanesOnly_laneOut s i 2 false
      have hout : (s.lane i).outState 2 = if (s.lane i).cause2 ≥ 2 then .failed else .retired := by simp [BLane.outState]
      refine ⟨_, (exec_bedLaneErrorLimit (.inr hspare)).trans (congrArg _ (State.askRetire_spare hinfo hspare)), ?_, fun j hj => ?_, hlinks, hkeep⟩
      · rw [State.lane_laneOut, if_pos rfl, hout]
      · rw [State.lane_laneOut, if_neg hj]

end Sys2Proof.Machine
end

section
/-! PROOF. The reach of a cell: its ID, and its counters and pools, which lie in its own tables (R46, R49, R52). -/

namespace Sys2Proof.Machine

variable {s t : State} {r : Nat}

theorem cellIdx_lt (c : CellId) : cellIdx c < 1024 := by
  have hd := c.die.isLt
  have hcl := c.cluster.isLt
  have hc := c.cell.isLt
  unfold cellIdx
  omega

theorem ridLevel_cellRid (c : CellId) : ridLevel (cellRid (cellIdx c)) = 0 := by
  have h := cellIdx_lt c
  simp only [ridLevel, bitsOf, cellRid]
  omega

theorem cellRid_low (c : CellId) : ridLevel (cellRid (cellIdx c)) < 4 := by simp [ridLevel_cellRid]

theorem ridUnit_cellRid (c : CellId) : ridUnit (cellRid (cellIdx c)) = cellIdx c / 256 := by
  have h := cellIdx_lt c
  simp only [ridUnit, bitsOf, cellRid]
  omega

/-- A cell's reach is run by its tensor die (R45). -/
theorem ridDie_cellRid (c : CellId) : ridDie (cellRid (cellIdx c)) = cellIdx c / 256 := by
  have h := cellIdx_lt c
  rw [ridDie, ridLevel_cellRid, ridUnit_cellRid, if_neg (by omega), if_pos (by omega)]

/-- A cell's reach ID keeps to the layout of R46. -/
theorem ridOk_cellRid (c : CellId) : ridOk (cellRid (cellIdx c)) = true := by
  have h := cellIdx_lt c
  have hlt : cellRid (cellIdx c) < 4294967296 := by unfold cellRid; omega
  have hlow : bitsOf (cellRid (cellIdx c)) 0 16 = 0 := by simp only [bitsOf, cellRid]; omega
  have hunit : cellIdx c / 256 < 4 := by omega
  simp [ridOk, ridLevel_cellRid, ridUnit_cellRid, hlt, hlow, hunit]

theorem State.reachHere_cellRid (s : State) (c : CellId) : s.reachHere (cellRid (cellIdx c)) = true := by
  simp [State.reachHere, ridOk_cellRid, cellRid_low]

/-- A die that is up has a path to itself. -/
theorem State.diePath_self (s : State) (a : Nat) : s.diePath a a = s.dieUp a := by simp [State.diePath]

/-- Taking from a count what is there. -/
theorem Word.toNat_sub_ofNat {x : Word} {n : Nat} (h : n ≤ x.toNat) : (x - BitVec.ofNat 32 n).toNat = x.toNat - n := by
  have hn : n % 2 ^ 32 = n := Nat.mod_eq_of_lt (h.trans_lt x.isLt)
  rw [BitVec.toNat_sub_of_le (by rwa [BitVec.le_def, BitVec.toNat_ofNat, hn]), BitVec.toNat_ofNat, hn]

/-- The device after a WAIT on counter `i` was satisfied at threshold `n` (R50). -/
def State.consumed (s : State) (r i n : Nat) (consume : Bool) : State :=
  if consume then s.setTok r i (s.tok r i - BitVec.ofNat 32 n) else s

section
variable (h : ridLevel r < 4)
include h

theorem State.tok_low (s : State) (i : Nat) : s.tok r i = tget 0 (s.reach r).tokens i := by rw [State.tok, s.ctxWord_low h]

theorem State.setTok_low (s : State) (i : Nat) (v : Word) :
    s.setTok r i v = s.setReach r { s.reach r with tokens := tset 0 (s.reach r).tokens i v } := by
  rw [State.setTok, s.ctxWord_low h]

/-- Counters of a reach below the groups depend on the reaches alone. -/
theorem State.tok_congr (hr : t.reaches = s.reaches) (i : Nat) : t.tok r i = s.tok r i := by
  rw [State.tok_low h, State.tok_low h, State.reach_congr hr]

theorem State.pool_congr (hr : t.reaches = s.reaches) (p : Nat) : t.pool r p = s.pool r p := by
  rw [State.pool_low _ h, State.pool_low _ h, State.reach_congr hr]

theorem State.tok_setTok (s : State) (i : Nat) (v : Word) : (s.setTok r i v).tok r i = v := by
  rw [State.tok_low h, State.setTok_low h, State.reach_setReach, tget_tset_self]

theorem State.tok_setTok_ne (s : State) {i j : Nat} (v : Word) (hj : j ≠ i) : (s.setTok r i v).tok r j = s.tok r j := by
  rw [State.tok_low h, State.tok_low h, State.setTok_low h, State.reach_setReach, tget_tset_ne _ _ _ _ _ _ hj]

theorem State.reach_setTok_ne (s : State) (i : Nat) (v : Word) {q : Nat} (hq : q ≠ r) : (s.setTok r i v).reach q = s.reach q := by
  rw [State.setTok_low h, State.reach_setReach_ne _ _ _ _ hq]

theorem State.mem_setTok (s : State) (i : Nat) (v : Word) : (s.setTok r i v).mem = s.mem := by
  rw [State.setTok_low h, State.setReach_mem]

theorem State.pool_setPool (s : State) (p : Nat) (v : Word) : (s.setPool r p v).pool r p = v := by
  rw [State.pool_low _ h, State.setPool_low _ h, State.reach_setReach, tget_tset_self]

theorem State.mem_setPool (s : State) (p : Nat) (v : Word) : (s.setPool r p v).mem = s.mem := by
  rw [State.setPool_low _ h, State.setReach_mem]

/-- A WAIT that consumes subtracts its threshold, and one that does not changes nothing. -/
theorem State.consumed_spec (s : State) (i : Nat) (consume : Bool) {n : Nat} (hn : n ≤ (s.tok r i).toNat) :
    (s.consumed r i n consume).cells = s.cells ∧
    ((s.consumed r i n consume).tok r i).toNat = (s.tok r i).toNat - (if consume then n else 0) ∧
    (∀ j, j ≠ i → (s.consumed r i n consume).tok r j = s.tok r j) ∧ (s.consumed r i n consume).mem = s.mem ∧
    (s.consumed r i n consume).regs = s.regs := by
  cases consume
  case false => exact ⟨rfl, rfl, fun _ _ => rfl, rfl, rfl⟩
  case true =>
    refine ⟨State.setTok_cells .., ?_, fun j hj => State.tok_setTok_ne h _ _ hj, State.mem_setTok h _ _ _, State.setTok_regs ..⟩
    exact (congrArg _ (State.tok_setTok h _ _ _)).trans (Word.toNat_sub_ofNat hn)

/-- Units given to a pool fill it up to its capacity (R52). -/
theorem State.pool_giveLocal (s : State) (p n : Nat) :
    ((s.giveLocal r p n).pool r p).toNat = min ((s.pool r p).toNat + n) (s.poolCap r p).toNat := by
  have hcap := (s.poolCap r p).isLt
  rw [State.giveLocal, State.pool_setPool h, BitVec.toNat_ofNat, Nat.mod_eq_of_lt (by omega)]

end

theorem toNat_satAdd (x : Word) (n : Nat) : (satAdd x n).toNat = min 0xFFFFFFFF (x.toNat + n) := by
  rw [satAdd, BitVec.toNat_ofNat, Nat.mod_eq_of_lt (by omega)]

end Sys2Proof.Machine
end

section
/-! PROOF. The verdicts of the token and credit rows on a cell that runs, and what a cell that waits comes to (R117 to R119). -/

namespace Sys2Proof.Machine

variable {s t : State} {c : CellId} {f : FE}

theorem State.issue_ok (s t : State) (ci op : Nat) : s.issue ci op (.ok t) = t.advance ci := rfl

/-- An instruction that leaves the cells as they are moves its own cell on. -/
theorem State.cells_advance (h : t.cells = s.cells) : (t.advance (cellIdx c)).cells = (s.ran c (s.at c)).cells := by
  simp [State.advance, State.ran, State.at, State.cell, State.setCell, h]

theorem State.cells_ran_congr (h : t.cells = s.cells) (x : Cell) : (t.ran c x).cells = (s.ran c x).cells := by
  simp [State.ran, State.setCell, h]

/-- An instruction that puts its own cell back as it was moves it on. -/
theorem State.cells_advance_setCell (hrun : (s.at c).phase = .running) (h : t.cells = (s.setCell (cellIdx c) (s.at c)).cells) :
    (t.advance (cellIdx c)).cells = (s.ran c (s.at c)).cells := by
  have hput : s.issue (cellIdx c) 0 (.ok (s.setCell (cellIdx c) (s.at c))) = s.ran c (s.at c) := s.issue_ran c 0 s _ hrun
  rw [State.cells_advance h, ← hput, State.issue_ok, State.advance_eq]

/-- An exception that traps stops the cell, and changes no counter, pool or byte. -/
theorem State.issue_trapped {code : Nat} (h : (s.at c).traps code = true) (op d : Nat) (t u : State) (addr : Option Nat) :
    ((s.issue (cellIdx c) op (.ex code false t u addr d)).at c).phase = .trapped code ∧
      (s.issue (cellIdx c) op (.ex code false t u addr d)).reaches = t.reaches ∧
      (s.issue (cellIdx c) op (.ex code false t u addr d)).mem = t.mem := by
  rw [State.issue_trap _ _ _ _ _ _ _ _ _ (.inr h)]
  exact ⟨congrArg Cell.phase (State.cell_trap ..), by simp, by simp⟩

/-- A blocked cell that wakes leaves the instruction that blocked it behind. -/
theorem State.unblock_setCell {x : Cell} (hx : x.phase = .running) (hp : x.pendTrap = none) :
    (s.setCell (cellIdx c) x).unblock (cellIdx c) = s.ran c { x with block := none } := by
  have hy : Cell.phase { x with block := none } = .running := hx
  have hadv : ((s.setCell (cellIdx c) x).setCell (cellIdx c) { x with block := none }).advance (cellIdx c) = s.ran c { x with block := none } := by
    rw [State.setCell_setCell _ _ _ _ (x.ne_reset hx) (Cell.ne_reset _ hy)]
    exact s.issue_ran c 0 s _ hy
  rw [State.unblock, State.cell_setCell, hadv, State.boundary, State.ran, State.cell_setCell]
  simp only [hp]

/-- The cell after its instruction, its pc moved on. -/
theorem State.at_ran (s : State) (c : CellId) (x : Cell) : (s.ran c x).at c = { x with pc := (x.pc + 16) % 2 ^ 46 } := State.cell_setCell ..

theorem State.ran_reaches (s : State) (c : CellId) (x : Cell) : (s.ran c x).reaches = s.reaches := State.setCell_reaches ..

@[simp] theorem Cell.setS_phase (x : Cell) (r : Nat) (v : Word64) : (x.setS r v).phase = x.phase := by unfold Cell.setS; split <;> rfl

@[simp] theorem Cell.setS_pendTrap (x : Cell) (r : Nat) (v : Word64) : (x.setS r v).pendTrap = x.pendTrap := by unfold Cell.setS; split <;> rfl

@[simp] theorem Cell.setS_pc (x : Cell) (r : Nat) (v : Word64) : (x.setS r v).pc = x.pc := by unfold Cell.setS; split <;> rfl

/-- A cell that runs has its die up. -/
theorem State.runs_dieUp (h : s.runs c = true) : s.dieUp (cellIdx c / 256) = true := by
  simp only [State.runs, State.cellReady, Bool.and_eq_true] at h
  exact h.1.1.1.1.1

/-- Modifier [112] where no other is set. -/
theorem mbit_zero {m : BitVec 8} (h : m.toNat < 2) : mbit m 0 = decide (m = 1) := by
  have hm : m = 0 ∨ m = 1 := by
    obtain h | h : m.toNat = 0 ∨ m.toNat = 1 := by omega
    · exact .inl (BitVec.eq_of_toNat_eq h)
    · exact .inr (BitVec.eq_of_toNat_eq h)
  obtain rfl | rfl := hm <;> decide

theorem State.tokOver_iff {r i inc : Nat} : s.tokOver r i inc = true ↔ 0xFFFFFFFF < (s.tok r i).toNat + inc := decide_eq_true_iff

/-- The device after the counter of a cell's own table took a SIGNAL (R49, R119). -/
def State.signalled (s : State) (c : CellId) (f : FE) : State :=
  (s.setCell (cellIdx c) (s.at c)).tokAdd (cellRid (cellIdx c)) f.token.toNat f.increment.toNat

theorem State.signalled_eq (s : State) (c : CellId) (f : FE) : s.signalled c f = (s.setCell (cellIdx c) (s.at c)).setTok (cellRid (cellIdx c))
    f.token.toNat (satAdd (s.tok (cellRid (cellIdx c)) f.token.toNat) f.increment.toNat) := by
  rw [State.signalled, State.tokAdd, State.tok_congr (cellRid_low c) (State.setCell_reaches ..)]

theorem State.tok_signalled (s : State) (c : CellId) (f : FE) : ((s.signalled c f).tok (cellRid (cellIdx c)) f.token.toNat).toNat =
    min 0xFFFFFFFF ((s.tok (cellRid (cellIdx c)) f.token.toNat).toNat + f.increment.toNat) := by
  rw [State.signalled_eq, State.tok_setTok (cellRid_low c), toNat_satAdd]

/-- SIGNAL to the cell's own table (R119): the counter after it, and TOKEN_OVERFLOW where it saturated. -/
theorem exec_signal_own (hrun : s.runs c = true) (hm : f.mods = 0) (hsrc : f.src = 0) (hsig : f.sig = 0) (hz : feZero f true true true true false)
    (hinc : f.increment ≠ 0) (htq : (s.at c).tq = []) (hplc : s.plcOk (s.at c).wu (s.at c).epoch = true) :
    exec (.signal c f) s = .next (s.issue (cellIdx c) 0x80
      (if s.tokOver (cellRid (cellIdx c)) f.token.toNat f.increment.toNat then .ex 4 false (s.signalled c f) (s.signalled c f) none 0x80
       else .ok (s.signalled c f))) := by
  obtain ⟨hdst, hlen, hA, hB, -⟩ := hz
  have hn : f.increment.toNat ≠ 0 := fun h => hinc (BitVec.eq_of_toNat_eq h)
  have hplc' : (s.setCell (cellIdx c) (s.at c)).plcOk (s.at c).wu (s.at c).epoch = true := hplc
  have henc : (decide (f.mods.toNat < 4) && f.src == 0 && f.dst == 0 && f.len == 0 && f.immA == 0 && f.immB == 0 && f.increment != 0) = true := by
    rw [hm, hsrc, hdst rfl, hlen rfl, hA rfl, hB rfl, bne_iff_ne.mpr hinc]; rfl
  have hover : (s.setCell (cellIdx c) (s.at c)).tokOver (cellRid (cellIdx c)) f.token.toNat f.increment.toNat =
      s.tokOver (cellRid (cellIdx c)) f.token.toNat f.increment.toNat := by
    rw [State.tokOver, State.tok_congr (cellRid_low c) (State.setCell_reaches ..), State.tokOver]
  have harm : exec (.signal c f) s = execSignal c f s := rfl
  rw [harm, execSignal, State.exec1_runs _ _ _ _ hrun]
  simp only [enc, henc, if_true]
  simp [hsig, hm, sigOf, hn, mbit, Cell.release, htq, State.signalNow, hplc', hover, State.signalled]

theorem FEunits_eq (x : Cell) (f : FE) : FEunits x f = if f.len = 0 then f.immA.toNat else (x.sr f.len.toNat).toNat := rfl

/-- WAIT tests its counter (R50, R117). -/
theorem exec_wait (hrun : s.runs c = true) (hm : f.mods.toNat < 2) (hsig : f.sig = 0) (hz : feZero f true false false false true) {n : Nat}
    (hn : FEunits (s.at c) f = n) : exec (.wait c f) s = .next (s.issue (cellIdx c) 0x81
      (if n ≤ (s.tok (cellRid (cellIdx c)) f.token.toNat).toNat then
        .ok ((s.consumed (cellRid (cellIdx c)) f.token.toNat n (decide (f.mods = 1))).setCell (cellIdx c) ((s.at c).setS f.src.toNat 1))
      else .block (s.setCell (cellIdx c) { s.at c with
        block := some (.wait f.token.toNat n (decide (f.mods = 1)) f.src.toNat f.immB.toNat) }))) := by
  obtain ⟨hdst, -, -, -, hinc⟩ := hz
  have henc : (decide (f.mods.toNat < 2) && f.dst == 0 && f.sig == 0 && f.increment == 0) = true := by simp [hm, hdst rfl, hsig, hinc rfl]
  have harm : exec (.wait c f) s = execWait c f s := rfl
  rw [harm, execWait, State.exec1_runs _ _ _ _ hrun]
  simp only [enc, henc, if_true, hn, mbit_zero hm, State.consumed]

/-- TAKE tests its pool (R52, R117). -/
theorem exec_take (hrun : s.runs c = true) (hm : f.mods = 0) (hsrc : f.src = 0) (hsig : f.sig = 0) (hz : feZero f true false false true true)
    (hp : f.token.toNat < 64) {n : Nat} (hn : FEunits (s.at c) f = n) : exec (.take c f) s = .next (s.issue (cellIdx c) 0x82
      (if n = 0 then .ok s
       else if (s.poolCap (cellRid (cellIdx c)) f.token.toNat).toNat < n then .ex 5 false s s none 0x82
       else if n ≤ (s.pool (cellRid (cellIdx c)) f.token.toNat).toNat then
         .ok (s.setPool (cellRid (cellIdx c)) f.token.toNat (s.pool (cellRid (cellIdx c)) f.token.toNat - BitVec.ofNat 32 n))
       else .block (s.setCell (cellIdx c) { s.at c with block := some (.take f.token.toNat n) }))) := by
  obtain ⟨hdst, -, -, hB, hinc⟩ := hz
  have henc : (f.mods == 0 && f.src == 0 && f.dst == 0 && f.sig == 0 && f.increment == 0 && f.immB == 0 && decide (f.token.toNat < 64)) = true := by
    simp [hm, hsrc, hdst rfl, hsig, hinc rfl, hB rfl, hp]
  have harm : exec (.take c f) s = execTake c f s := rfl
  rw [harm, execTake, State.exec1_runs _ _ _ _ hrun]
  simp only [enc, henc, if_true, hn, gt_iff_lt]

/-- A give that reaches its pool and passes R73 (R52). -/
theorem State.applySignal_give {die r i inc units wu epoch : Nat} (hr : s.reachHere r = true) (hpath : s.diePath die (ridDie r) = true)
    (hplc : s.plcOk wu epoch = true) : s.applySignal die r i inc units wu epoch true = (s.giveLocal r (i % 64) units, 0) := by
  rw [State.applySignal, hr, hpath, hplc]
  rfl

/-- A give on this device that its pool accepts (R119). -/
theorem State.signalNow_give {ci r p inc op n : Nat} {x : Cell} (h : s.applySignal (ci / 256) r p inc n x.wu x.epoch true = (t, 0)) :
    s.signalNow ci x { reach := r, remote := false, device := 0, token := p, inc := inc } op n true = .ok t := by
  simp only [State.signalNow, State.sendSignal, Bool.not_false, Bool.true_or, Bool.not_true, Bool.and_false, Bool.false_eq_true, if_false, if_true, h]

/-- GIVE to the cell's own pool (R52, R119). -/
theorem exec_give_own (hrun : s.runs c = true) (hm : f.mods = 0) (hsrc : f.src = 0) (hsig : f.sig = 0) (hz : feZero f true false false true true)
    (hp : f.token.toNat < 64) (hplc : s.plcOk (s.at c).wu (s.at c).epoch = true) {n : Nat} (hn : FEunits (s.at c) f = n) (h0 : 0 < n)
    (hmax : n ≤ 0xFFFFFFFF) : exec (.give c f) s = .next (s.issue (cellIdx c) 0x83 (.ok (s.giveLocal (cellRid (cellIdx c)) f.token.toNat n))) := by
  obtain ⟨hdst, -, -, hB, hinc⟩ := hz
  have henc : (f.mods == 0 && f.src == 0 && f.dst == 0 && f.increment == 0 && f.immB == 0 && decide (f.token.toNat < 64)) = true := by
    simp [hm, hsrc, hdst rfl, hinc rfl, hB rfl, hp]
  have hmin : min n 0xFFFFFFFF = n := Nat.min_eq_left hmax
  have hpath : s.diePath (cellIdx c / 256) (ridDie (cellRid (cellIdx c))) = true := by
    rw [ridDie_cellRid, State.diePath_self, State.runs_dieUp hrun]
  have happly := State.applySignal_give (i := f.token.toNat) (inc := 0) (units := n) (s.reachHere_cellRid c) hpath hplc
  rw [Nat.mod_eq_of_lt hp] at happly
  have harm : exec (.give c f) s = execGive c f s := rfl
  rw [harm, execGive, State.exec1_runs _ _ _ _ hrun]
  simp only [enc, henc, if_true, hn, hmin, hsig, h0.ne', if_false]
  exact congrArg (fun v => Host.Outcome.next (s.issue (cellIdx c) 0x83 v)) (State.signalNow_give happly)

/-- TREAD reads a counter. -/
theorem exec_tread (hrun : s.runs c = true) (hm : f.mods = 0) (hsig : f.sig = 0) (hz : feZero f true true true true true) :
    exec (.tread c f) s = .next (s.ran c ((s.at c).setS f.src.toNat (BitVec.ofNat 64 (s.tok (cellRid (cellIdx c)) f.token.toNat).toNat))) := by
  obtain ⟨hdst, hlen, hA, hB, hinc⟩ := hz
  have henc : (f.mods == 0 && f.dst == 0 && f.sig == 0 && f.len == 0 && f.increment == 0 && f.immA == 0 && f.immB == 0) = true := by
    simp [hm, hdst, hsig, hlen, hinc, hA, hB]
  have harm : exec (.tread c f) s = execTread c f s := rfl
  rw [harm, execTread, State.exec1_runs _ _ _ _ hrun]
  simp only [enc, henc, if_true, BitVec.ofNat_toNat]
  rw [State.issue_ran _ _ _ _ _ (by rw [Cell.setS_phase, s.runs_running c hrun])]

/-- A timed-out WAIT (R117, R118). -/
theorem exec_waitTimeout {tok thr dst tmo : Nat} {consume : Bool} (hb : (s.at c).block = some (.wait tok thr consume dst tmo)) (ht : tmo ≠ 0)
    (hup : s.dieUp (cellIdx c / 256) = true) (hrun : (s.at c).phase = .running) (hp : (s.at c).pendTrap = none) :
    exec (.waitTimeout c) s = .next (s.ran c { (s.at c).setS dst 0 with block := none }) := by
  have harm : exec (.waitTimeout c) s = execWaitTimeout c s := rfl
  have hb' : (s.cell (cellIdx c)).block = some (.wait tok thr consume dst tmo) := hb
  rw [harm, execWaitTimeout]
  simp only [hb', ht, hup, ne_eq, not_false_eq_true, decide_true, Bool.and_self, if_true]
  change Host.Outcome.next ((s.setCell (cellIdx c) ((s.at c).setS dst 0)).unblock (cellIdx c)) = _
  rw [State.unblock_setCell (x := (s.at c).setS dst 0) (by simpa using hrun) (by simpa using hp)]

/-- A waiting cell's counter is tested again (R118). -/
theorem exec_cellWake_wait {tok thr dst tmo : Nat} {consume : Bool} (hb : (s.at c).block = some (.wait tok thr consume dst tmo))
    (hup : s.dieUp (cellIdx c / 256) = true) (ha : s.asleep = false) (hrun : (s.at c).phase = .running) (hp : (s.at c).pendTrap = none) :
    exec (.cellWake c) s = .next (if thr ≤ (s.tok (cellRid (cellIdx c)) tok).toNat then
      (s.consumed (cellRid (cellIdx c)) tok thr consume).ran c { (s.at c).setS dst 1 with block := none } else s) := by
  have harm : exec (.cellWake c) s = execCellWake c s := rfl
  have hb' : (s.cell (cellIdx c)).block = some (.wait tok thr consume dst tmo) := hb
  rw [harm, execCellWake]
  simp only [hb', hup, ha, Bool.not_true, Bool.or_self, Bool.false_eq_true, if_false]
  change Host.Outcome.next (if _ then State.unblock (State.setCell (s.consumed _ tok thr consume) _ ((s.at c).setS dst 1)) _ else s) = _
  rw [State.unblock_setCell (x := (s.at c).setS dst 1) (by simpa using hrun) (by simpa using hp)]

end Sys2Proof.Machine
end

section
/-! PROOF. Tokens and credits. -/

namespace Sys2Proof.Machine

/-- Settles O11: each clause is the verdict of its row, whose state differs from the one before in the cell, its counters and its pools. -/
theorem tokenAndCreditResults : Obligations.TokenAndCreditResults := by
  refine ⟨fun c f s hrun hm hsrc hsig hz hinc htq hplc => ?signal, fun c f s hrun hm hsig hz => ?wait,
    fun c s tok thr dst tmo consume hb ht hup hrun hp => exec_waitTimeout hb ht hup hrun hp, fun c f s hrun hm hsrc hsig hz hp => ?take,
    fun c f s hrun hm hsrc hsig hz hp hplc => ?give, fun c f s hrun hm hsig hz => exec_tread hrun hm hsig hz,
    fun c s tok thr dst tmo consume hb hup ha hrun hp => ?wake⟩
  all_goals have hlow := cellRid_low c
  case signal =>
    have hexec := exec_signal_own hrun hm hsrc hsig hz hinc htq hplc
    refine ⟨fun hle => ?fits, fun hgt hmask => ?overflows⟩
    case fits =>
      rw [if_neg (State.tokOver_iff.not.mpr (Nat.not_lt.mpr hle)), State.issue_ok] at hexec
      refine ⟨_, hexec, ?_, ?_, fun i hi => ?_, fun q hq => ?_, ?_, ?_⟩
      · exact State.cells_advance_setCell (s.runs_running c hrun) (State.tokAdd_cells ..)
      · rw [State.tok_congr hlow (State.advance_reaches ..), State.tok_signalled]; omega
      · rw [State.tok_congr hlow (State.advance_reaches ..), State.signalled_eq, State.tok_setTok_ne hlow _ _ hi,
          State.tok_congr hlow (State.setCell_reaches ..)]
      · rw [State.reach_congr (State.advance_reaches ..), State.signalled_eq, State.reach_setTok_ne hlow _ _ _ hq,
          State.reach_congr (State.setCell_reaches ..)]
      · rw [State.advance_mem, State.signalled_eq, State.mem_setTok hlow, State.setCell_mem]
      · rw [State.advance_regs, State.signalled_eq, State.setTok_regs, State.setCell_regs]
    case overflows =>
      obtain ⟨hphase, hreaches, hmem⟩ := State.issue_trapped (s := s) (c := c) (code := 4) hmask 0x80 0x80 (s.signalled c f) (s.signalled c f) none
      rw [if_pos (State.tokOver_iff.mpr hgt)] at hexec
      refine ⟨_, hexec, ?_, hphase, ?_⟩
      · rw [State.tok_congr hlow hreaches, State.tok_signalled]; omega
      · rw [hmem, State.signalled_eq, State.mem_setTok hlow, State.setCell_mem]
  case wait =>
    have hexec := exec_wait hrun hm hsig hz (FEunits_eq ..)
    have hphase : ((s.at c).setS f.src.toNat 1).phase = .running := by rw [Cell.setS_phase, s.runs_running c hrun]
    refine ⟨fun hle => ?satisfied, fun hgt => ?blocks⟩
    case satisfied =>
      obtain ⟨hcells, htok, hother, hmem, hregs⟩ := s.consumed_spec hlow f.token.toNat (decide (f.mods = 1)) hle
      rw [if_pos hle, State.issue_ran _ _ _ _ _ hphase] at hexec
      refine ⟨_, hexec, State.cells_ran_congr hcells _, ?_, fun i hi => ?_, hmem, hregs⟩
      · rw [State.tok_congr hlow (State.ran_reaches ..), htok]; simp
      · rw [State.tok_congr hlow (State.ran_reaches ..), hother i hi]
    case blocks =>
      rw [if_neg (Nat.not_le.mpr hgt)] at hexec
      exact hexec
  case take =>
    have hexec := exec_take hrun hm hsrc hsig hz hp (FEunits_eq ..)
    refine ⟨fun hcap hmask => ?underflows, fun h0 hcap hn => ?takes, fun hcap hn => ?blocks⟩
    case underflows =>
      obtain ⟨hphase, hreaches, hmem⟩ := State.issue_trapped (s := s) (c := c) (code := 5) hmask 0x82 0x82 s s none
      rw [if_neg (Nat.ne_zero_of_lt hcap), if_pos hcap] at hexec
      exact ⟨_, hexec, hphase, hreaches, hmem⟩
    case takes =>
      rw [if_neg (Nat.pos_iff_ne_zero.mp h0), if_neg (Nat.not_lt.mpr hcap), if_pos hn, State.issue_ok] at hexec
      refine ⟨_, hexec, State.cells_advance (State.setPool_cells ..), ?_, ?_, ?_⟩
      · rw [State.pool_congr hlow (State.advance_reaches ..), State.pool_setPool hlow, Word.toNat_sub_ofNat hn]
      · rw [State.advance_mem, State.mem_setPool hlow]
      · rw [State.advance_regs, State.setPool_regs]
    case blocks =>
      rw [if_neg (Nat.ne_zero_of_lt hn), if_neg (Nat.not_lt.mpr hcap), if_neg (Nat.not_le.mpr hn)] at hexec
      exact hexec
  case give =>
    refine fun h0 hmax => ⟨_, (exec_give_own hrun hm hsrc hsig hz hp hplc (FEunits_eq ..) h0 hmax).trans (congrArg _ (State.issue_ok ..)),
      State.cells_advance (State.giveLocal_cells ..), ?_, ?_, ?_⟩
    · rw [State.pool_congr hlow (State.advance_reaches ..), State.pool_giveLocal hlow]
    · rw [State.advance_mem, State.giveLocal, State.mem_setPool hlow]
    · rw [State.advance_regs, State.giveLocal_regs]
  case wake =>
    have hexec := exec_cellWake_wait hb hup ha hrun hp
    refine ⟨fun hle => ?_, fun hlt => ?_⟩
    · obtain ⟨-, htok, -, hmem, -⟩ := s.consumed_spec hlow tok consume hle
      rw [if_pos hle] at hexec
      refine ⟨_, hexec, ?_, fun hdst => ?_, ?_, ?_, hmem⟩
      · rw [State.at_ran]
      · rw [State.at_ran]
        exact (Cell.sr_setS (s.at c) dst dst 1).trans (if_pos ⟨rfl, hdst⟩)
      · rw [State.at_ran, Cell.setS_pc]
      · rw [State.tok_congr hlow (State.ran_reaches ..), htok]
    · rw [if_neg (Nat.not_le.mpr hlt)] at hexec
      exact hexec

end Sys2Proof.Machine
end

section
/-! PROOF. What reads and writes of a range come to where nothing meets it: poison, calm and the bytes of a tile with its trailer (R128, R168,
R187). -/

namespace Sys2Proof.Machine

variable {s t : State}

@[simp] theorem State.length_readMem (s : State) (da n : Nat) : (s.readMem da n).length = n := by simp [State.readMem]

@[simp] theorem Trailer.length_toBytes (x : Trailer) : x.toBytes.length = 8 := by simp [Trailer.toBytes]

/-- What does not touch a range touches no part of it. -/
theorem rangesMeet_part {a n b m c k : Nat} (h : rangesMeet a n b m = false) (hc : b ≤ c) (hk : c + k ≤ b + m) : rangesMeet a n c k = false := by
  simp only [rangesMeet, Bool.and_eq_false_iff, decide_eq_false_iff_not] at h ⊢
  omega

/-- Ranges that do not touch lie one behind the other. -/
theorem rangesMeet_apart {a n b m : Nat} (h : rangesMeet a n b m = false) (hn : 0 < n) (hm : 0 < m) : a + n ≤ b ∨ b + m ≤ a := by
  simp only [rangesMeet, Bool.and_eq_false_iff, decide_eq_false_iff_not] at h
  omega

theorem State.calm_part {da n b m : Nat} (h : s.calm da n = true) (hb : da ≤ b) (hm : b + m ≤ da + n) : s.calm b m = true := by
  simp only [State.calm, List.all_eq_true, Bool.not_eq_true', Bool.and_eq_false_iff] at h ⊢
  exact fun a ha => (h a ha).imp_right fun hmeet => rangesMeet_part hmeet hb hm

theorem State.still_part {da n b m : Nat} (h : s.still da n = true) (hb : da ≤ b) (hm : b + m ≤ da + n) : s.still b m = true := by
  simp only [State.still, List.all_eq_true, Bool.not_eq_true'] at h ⊢
  exact fun a ha => rangesMeet_part (h a ha) hb hm

/-- A range without a poisoned unit has none in its front. -/
theorem State.poisonRange_front {da n k : Nat} (h : s.poisonRange da n = false) (hk : k ≤ n) : s.poisonRange da k = false := by
  simp only [State.poisonRange, List.any_eq_false, Bool.and_eq_true, decide_eq_true_eq, not_and] at h ⊢
  exact fun kv hkv hset => h kv hkv ⟨hset.1, by have := hset.2; omega⟩

/-- A read without a poisoned unit records nothing (R168). -/
theorem State.eccRead_clean {da n : Nat} (h : s.poisonRange da n = false) : s.eccRead da n = s := by
  have hnone : s.mem.bad.filter (fun kv => kv.2 && decide (kv.1 / poisonUnit kv.1 * poisonUnit kv.1 < da + n) &&
      decide (da < kv.1 / poisonUnit kv.1 * poisonUnit kv.1 + poisonUnit kv.1)) = [] := by
    rw [List.filter_eq_nil_iff]
    exact List.any_eq_false.mp h
  simp only [State.eccRead, hnone, List.foldl_nil]

/-- Without a clash, an operation that ended sees memory as every other access does. -/
theorem State.viewEnd_quiet (h : s.clash = []) (pe : PortEv) : s.viewEnd pe = s.viewNow pe := by
  simp [State.viewEnd, h, State.viewNow]

/-- A write with no event, of a range that nothing in flight touches, whatever else of memory changed before. -/
theorem State.writePE_still_after {da : Nat} {bs : List Byte} (hv : t.viewNow .clear = s.viewNow .clear) (hf : t.flight = s.flight)
    (h : s.still da bs.length = true) : t.writePE (s.viewNow .clear) da bs = t.writeMem da bs := by
  rw [← hv, State.writePE_still]
  rwa [State.still, hf]

/-- Two ranges written one after the other, apart from each other, both read as written, and every byte outside them as before. -/
theorem State.readMem_two_writes (s : State) {a b : Nat} {xs ys : List Byte} (hx : xs ≠ []) (hy : ys ≠ [])
    (h : rangesMeet a xs.length b ys.length = false) :
    ((s.writeMem a xs).writeMem b ys).readMem a xs.length = xs ∧ ((s.writeMem a xs).writeMem b ys).readMem b ys.length = ys ∧
      ∀ d, d < a ∨ a + xs.length ≤ d → d < b ∨ b + ys.length ≤ d → ((s.writeMem a xs).writeMem b ys).byte d = s.byte d := by
  have hapart := rangesMeet_apart h (List.length_pos_iff.mpr hx) (List.length_pos_iff.mpr hy)
  refine ⟨?_, State.readMem_writeMem .., fun d hd hd' => ?_⟩
  · rw [State.readMem_writeMem_out _ _ _ _ _ hapart, State.readMem_writeMem]
  · rw [State.byte_writeMem_out _ _ _ _ hd', State.byte_writeMem_out _ _ _ _ hd]

theorem keeps_writeMem (s : State) (da : Nat) (bs : List Byte) : keeps s (s.writeMem da bs) [.mem] := by simp [keeps]

/-- The device after a tile of region r and its trailer were stored (R187). -/
def State.tileStored (s : State) (r : Region) (da : Nat) (bs : List Byte) (x : Trailer) : State :=
  (s.writeMem da bs).writeMem (r.trailerDA da) x.toBytes

theorem State.writeTile_still {r : Region} {da : Nat} {bs : List Byte} (x : Trailer) (h : s.still da bs.length = true)
    (ht : s.still (r.trailerDA da) 8 = true) : s.writeTile (s.viewNow .clear) r da bs x = s.tileStored r da bs x := by
  rw [State.writeTile, s.writePE_still da bs h]
  exact State.writePE_still_after rfl rfl (by simpa using ht)

/-- Tile and trailer read as stored, and no other byte changed. -/
theorem State.tileStored_spec (s : State) {r : Region} {da k : Nat} {bs : List Byte} (x : Trailer) (hlen : bs.length = k) (hk : k ≠ 0)
    (h : rangesMeet da k (r.trailerDA da) 8 = false) : (s.tileStored r da bs x).readMem da k = bs ∧
      (s.tileStored r da bs x).readMem (r.trailerDA da) 8 = x.toBytes ∧
      ∀ d, d < da ∨ da + k ≤ d → d < r.trailerDA da ∨ r.trailerDA da + 8 ≤ d → (s.tileStored r da bs x).byte d = s.byte d := by
  subst hlen
  have hx : x.toBytes ≠ [] := List.ne_nil_of_length_pos (by simp)
  have htwo := s.readMem_two_writes (List.ne_nil_of_length_pos (Nat.pos_of_ne_zero hk)) hx (by simpa using h)
  rwa [Trailer.length_toBytes] at htwo

theorem keeps_tileStored (s : State) (r : Region) (da : Nat) (bs : List Byte) (x : Trailer) : keeps s (s.tileStored r da bs x) [.mem] :=
  keeps_trans (keeps_writeMem ..) (keeps_writeMem ..)

/-- A range of untiled memory lies in no region. -/
theorem regionIn_untiled {g : Tab Region} {da n : Nat} (h : rangeKind g da n = .untiled) : regionIn g da n = none := by
  unfold rangeKind at h
  split at h
  · cases h
  · assumption

theorem regionIn_tiled {g : Tab Region} {da n : Nat} {q : Region} (h : rangeKind g da n = .tiled q) : regionIn g da n = some q := by
  unfold rangeKind at h
  split at h
  · rename_i hq; cases h; exact hq
  · split at h <;> cases h

theorem rangeAcc_none {g : Tab Region} {da n : Nat} (h : regionIn g da n = none) (w : Bool) : rangeAcc g da n w = [(da, n, w)] := by
  simp [rangeAcc, trailersOf, h]

theorem rangeAcc_some {g : Tab Region} {da n : Nat} {q : Region} (h : regionIn g da n = some q) (w : Bool) :
    rangeAcc g da n w = [(da, n, w), (q.trailerDA da, 8 * ((n + q.slot - 1) / q.slot), w)] := by
  simp [rangeAcc, trailersOf, h]

/-- A command whose cycle had no event sees no conflict. -/
theorem View.busy_clear (s : State) (accs : List Acc) : (s.viewNow .clear).busy accs = false := by
  simp [View.busy, peBusy, State.viewNow]

end Sys2Proof.Machine
end

section
/-! PROOF. The effect of a MOVE on this device (R73, R187, R188). -/

namespace Sys2Proof.Machine

variable {s : State} {m : MoveOp}

theorem State.moveLocal_stale (hfold : m.fold = false) (hplc : s.plcOk m.workUnit m.epoch = false) (v : View) :
    s.moveLocal v m = (s.discard, 2) := by
  simp [State.moveLocal, hfold, hplc]

section
variable (hfold : m.fold = false) (hplc : s.plcOk m.workUnit m.epoch = true) (hlen : m.len ≠ 0) (hls : s.isLocal (gaDev m.src) = true)
  (hld : s.isLocal (gaDev m.dst) = true) (hsrc : rangeKind m.regions (gaDA m.src) m.len = .untiled)
  (hclean : s.poisonRange (gaDA m.src) m.len = false) (hapart : rangesMeet (gaDA m.src) m.len (gaDA m.dst) m.len = false)
  (hcalm : s.calm (gaDA m.src) m.len = true) (hstill : s.still (gaDA m.dst) m.len = true)
include hfold hplc hlen hls hld hsrc hclean hapart hcalm hstill

/-- Untiled to untiled: the destination is written with what the source reads. -/
theorem State.moveLocal_plain (hdst : rangeKind m.regions (gaDA m.dst) m.len = .untiled) :
    s.moveLocal (s.viewNow .clear) m = (s.writeMem (gaDA m.dst) (s.readMem (gaDA m.src) m.len), 0) := by
  have haccs : s.moveAcc m = [(gaDA m.src, m.len, false), (gaDA m.dst, m.len, true)] := by
    simp [State.moveAcc, hlen, hls, hld, rangeAcc_none (regionIn_untiled hsrc), rangeAcc_none (regionIn_untiled hdst)]
  have hmet : ∀ t : State, t.met (s.viewNow .clear) (s.moveAcc m) = t := s.met_calm _ (by
    rw [haccs]; simp [hcalm, s.calm_of_still _ _ hstill])
  have hcopy : s.copyPlain (s.viewNow .clear) (s.viewNow .clear) (gaDA m.src) (gaDA m.dst) m.len =
      (s.writeMem (gaDA m.dst) (s.readMem (gaDA m.src) m.len), 0) := by
    simp [State.copyPlain, s.readPE_calm _ _ hcalm, hclean, s.writePE_still _ (s.readMem (gaDA m.src) m.len) (by simpa using hstill)]
  simp only [State.moveLocal, hfold, hplc, hsrc, hdst, srcView, hapart, hmet, View.busy_clear, worseStatus]
  simp [hcopy]

/-- Untiled to one slot: the slot is sealed with the bytes of a tile. -/
theorem State.moveLocal_seal {q : Region} (hdst : rangeKind m.regions (gaDA m.dst) m.len = .tiled q) (hslot : m.len = q.slot)
    (hfit : tileBytes q.sealFmt ≤ q.slot) (htrl : s.still (q.trailerDA (gaDA m.dst)) 8 = true) :
    s.moveLocal (s.viewNow .clear) m = (s.tileStored q (gaDA m.dst) (s.readMem (gaDA m.src) (tileBytes q.sealFmt))
      (mkTrailer (s.readMem (gaDA m.src) (tileBytes q.sealFmt)) m.sealEpoch q.sealFmt false true), 0) := by
  have hpos : 0 < q.slot := by omega
  have hone : (q.slot + q.slot - 1) / q.slot = 1 := by
    rw [Nat.div_eq_iff hpos]; omega
  have haccs : s.moveAcc m = [(gaDA m.src, m.len, false), (gaDA m.dst, m.len, true), (q.trailerDA (gaDA m.dst), 8, true)] := by
    rw [State.moveAcc, if_neg hlen, if_pos hls, if_pos hld, rangeAcc_none (regionIn_untiled hsrc), rangeAcc_some (regionIn_tiled hdst), hslot, hone]
    rfl
  have hmet : ∀ t : State, t.met (s.viewNow .clear) (s.moveAcc m) = t := s.met_calm _ (by
    rw [haccs]; simp [hcalm, s.calm_of_still _ _ hstill, s.calm_of_still _ _ htrl])
  have hread := s.readPE_calm _ _ (State.calm_part hcalm (le_refl _) (by omega : gaDA m.src + tileBytes q.sealFmt ≤ gaDA m.src + m.len))
  have hgood := State.poisonRange_front hclean (by omega : tileBytes q.sealFmt ≤ m.len)
  have hbytes : s.still (gaDA m.dst) (s.readMem (gaDA m.src) (tileBytes q.sealFmt)).length = true := by
    rw [State.length_readMem]; exact State.still_part hstill (le_refl _) (by omega)
  simp only [State.moveLocal, hfold, hplc, hsrc, hdst, srcView, hapart, hmet, View.busy_clear, worseStatus]
  simp [hslot, Nat.div_self hpos, State.sealTiles, hread, hgood, State.sealSlot, State.writeTile_still _ hbytes htrl]

end

end Sys2Proof.Machine
end

section
/-! PROOF. MOVE_COMPLETE: the MOVE is gone, its effect in place, its command done (R114, R190). -/

namespace Sys2Proof.Machine

variable {s t : State} {m : MoveOp} {id r c st : Nat}

/-- A MOVE between two ranges of this device that lost no path has its effect at its completion. -/
theorem State.moveEnd_local (hlen : m.len ≠ 0) (hst : m.status = 0) (hls : s.isLocal (gaDev m.src) = true) (hld : s.isLocal (gaDev m.dst) = true)
    (hclean : s.poisonRange (gaDA m.src) m.len = false) (hclash : s.clash = []) : s.moveEnd .clear m = s.moveLocal (s.viewNow .clear) m := by
  simp [State.moveEnd, hlen, hst, hls, hld, State.eccRead_clean hclean, State.viewEnd_quiet hclash]

/-- A MOVE of a reach completes with its effect's status (R62). -/
theorem exec_moveComplete (hm : s.move id = some m) (ho : m.owner = .reach r c) (htodo : m.todo = []) (hleft : m.left = 0)
    (hrun : s.moveRunning m = true) (hf : s.pwr.fatal = false) (hrel : s.released m.die = true) (ha : s.asleep = false)
    (hend : State.moveEnd { s with moves := s.moves.filter (·.id ≠ id) } .clear m = (t, st)) (hclash : t.clash = []) :
    exec (.moveComplete id .clear) s = .next (t.cmdDone r c st 0) := by
  have harm : exec (.moveComplete id .clear) s = execMoveComplete id .clear s := rfl
  rw [harm, execMoveComplete]
  simp only [hm]
  rw [if_neg (by simp [htodo, hleft, hrun, hf, hrel, ha]), hend]
  simp only [ho, State.settle_nil _ hclash]

theorem State.running_cmdDone (s : State) (r id st data : Nat) : ((s.cmdDone r id st data).reach r).running =
    (s.reach r).running.map (fun y => if y.id = id then { y with acted := true, done := some st, data := data } else y) := by
  rw [State.cmdDone, State.reach_setReach]

theorem keeps_cmdDone (s : State) (r id st data : Nat) : keeps s (s.cmdDone r id st data) [.reaches] := keeps_setReach s r _

/-- The device without the MOVE that completes. -/
def State.withoutMove (s : State) (id : Nat) : State := { s with moves := s.moves.filter (·.id ≠ id) }

theorem keeps_withoutMove (s : State) (id : Nat) : keeps s (s.withoutMove id) [.moves] := by simp [keeps, State.withoutMove]

/-- What a MOVE's completion changes: the MOVEs, the reach, and what its effect changed. -/
theorem keeps_moveDone {l k : List SPart} (h : keeps (s.withoutMove id) t l) (hl : l ⊆ k) (hr : [.moves, .reaches] ⊆ k) :
    keeps s (t.cmdDone r c st 0) k := by
  have hm : [SPart.moves] ⊆ k := fun x hx => hr (by simp_all)
  have hc : [SPart.reaches] ⊆ k := fun x hx => hr (by simp_all)
  exact keeps_trans (keeps_mono (keeps_withoutMove s id) hm) (keeps_trans (keeps_mono h hl) (keeps_mono (keeps_cmdDone ..) hc))

/-- Settles O19: each clause is the effect of the MOVE's two ranges, seen through the completion. -/
theorem moveCompletionResults : Obligations.MoveCompletionResults := by
  intro id r c s m hm ho htodo hleft hrun hf hrel ha hlen hst hls hld hfold hclean hclash u a b ovr
  have hend := State.moveEnd_local (s := s.withoutMove id) hlen hst hls hld hclean hclash
  refine ⟨fun hplc => ?stale, fun hplc hsrc hdst hapart hcalm hstill => ?plain,
    fun q hplc hsrc hdst hslot hfit hapart htrl hk hcalm hstill htstill => ?tile⟩
  case stale =>
    rw [State.moveLocal_stale (s := s.withoutMove id) hfold hplc] at hend
    refine ⟨_, exec_moveComplete hm ho htodo hleft hrun hf hrel ha hend hclash, ⟨rfl, State.running_cmdDone ..⟩, rfl, rfl, ?_⟩
    exact keeps_moveDone (keeps_bump (s.withoutMove id) _) (by simp) (by simp)
  case plain =>
    rw [State.moveLocal_plain (s := s.withoutMove id) hfold hplc hlen hls hld hsrc hclean hapart hcalm hstill hdst] at hend
    refine ⟨_, exec_moveComplete hm ho htodo hleft hrun hf hrel ha hend hclash, ⟨rfl, State.running_cmdDone ..⟩, ?_, fun x hx => ?_, ?_⟩
    · have hread := (s.withoutMove id).readMem_writeMem b (s.readMem a m.len)
      rwa [State.length_readMem] at hread
    · exact (s.withoutMove id).byte_writeMem_out _ _ _ (by rwa [State.length_readMem])
    · exact keeps_moveDone (keeps_writeMem ..) (by simp) (by simp)
  case tile =>
    rw [State.moveLocal_seal (s := s.withoutMove id) hfold hplc hlen hls hld hsrc hclean hapart hcalm hstill hdst hslot hfit htstill] at hend
    obtain ⟨hbytes, htrailer, hother⟩ := (s.withoutMove id).tileStored_spec
      (mkTrailer (s.readMem a (tileBytes q.sealFmt)) m.sealEpoch q.sealFmt false true) (State.length_readMem s a _) hk htrl
    refine ⟨_, exec_moveComplete hm ho htodo hleft hrun hf hrel ha hend hclash, ⟨rfl, State.running_cmdDone ..⟩, hbytes, htrailer, hother, ?_⟩
    exact keeps_moveDone (keeps_tileStored ..) (by simp) (by simp)

end Sys2Proof.Machine
end

section
/-! PROOF. Requests of other devices (R427, R428): what the way of an answer depends on, and that the answer joins the packets that wait, whatever
the request changed of memory, reaches and flows. -/

namespace Sys2Proof.Machine

variable {s t u : State}

/-- What routes and answers look at is the same in both states: the routes, ports, dies and links, and the registers of a port's way. The rest of
the fabric may differ, and the counters of the span dies. -/
structure SameRoutes (s t : State) : Prop where
  routes : t.fab.routes = s.fab.routes
  ports : t.ports = s.ports
  pwr : t.pwr = s.pwr
  bed : t.bed = s.bed
  devId : t.reg Reg.KEY_DEV_ID = s.reg Reg.KEY_DEV_ID
  portCtl : ∀ p, t.reg (Reg.Sd_PORTp_CTL p) = s.reg (Reg.Sd_PORTp_CTL p)
  portFab : ∀ p, t.reg (Reg.Sd_PORTp_FAB p) = s.reg (Reg.Sd_PORTp_FAB p)
  pier : ∀ d, t.reg (Reg.Sd_PIER_STATUS d) = s.reg (Reg.Sd_PIER_STATUS d)

theorem SameRoutes.of_regs (hroutes : t.fab.routes = s.fab.routes) (hports : t.ports = s.ports) (hpwr : t.pwr = s.pwr) (hbed : t.bed = s.bed)
    (hregs : t.regs = s.regs) : SameRoutes s t :=
  have hreg := fun off => s.reg_congr t off hregs
  ⟨hroutes, hports, hpwr, hbed, hreg _, fun _ => hreg _, fun _ => hreg _, fun _ => hreg _⟩

theorem SameRoutes.refl (s : State) : SameRoutes s s := .of_regs rfl rfl rfl rfl rfl

theorem SameRoutes.trans (h : SameRoutes s t) (k : SameRoutes t u) : SameRoutes s u where
  routes := k.routes.trans h.routes
  ports := k.ports.trans h.ports
  pwr := k.pwr.trans h.pwr
  bed := k.bed.trans h.bed
  devId := k.devId.trans h.devId
  portCtl p := (k.portCtl p).trans (h.portCtl p)
  portFab p := (k.portFab p).trans (h.portFab p)
  pier d := (k.pier d).trans (h.pier d)

/-- A device with the same ways has the same routes. -/
theorem SameWays.sameRoutes (h : SameWays s t) : SameRoutes s t where
  routes := by rw [h.fab]
  ports := h.ports
  pwr := h.pwr
  bed := h.bed
  devId := h.devId
  portCtl p := h.span _ (by unfold Reg.Sd_PORTp_CTL; omega)
  portFab p := h.span _ (by unfold Reg.Sd_PORTp_FAB; omega)
  pier d := h.span _ (by unfold Reg.Sd_PIER_STATUS; omega)

/-- A counter of a span die's own block, behind its ports' and its status register. -/
theorem SameRoutes.setReg_span (s : State) {off d : Nat} (v : Word) (h : off = Reg.Sd_FAB_DUPS d ∨ off = Reg.Sd_FAB_DEDUPE_FULL d) :
    SameRoutes s (s.setReg off v) := by
  refine ⟨rfl, rfl, rfl, rfl, ?_, fun p => ?_, fun p => ?_, fun e => ?_⟩ <;> refine State.reg_setReg_ne _ _ _ _ ?_
  · unfold Reg.KEY_DEV_ID Reg.Sd_FAB_DUPS Reg.Sd_FAB_DEDUPE_FULL at *; omega
  · unfold Reg.Sd_PORTp_CTL Reg.Sd_FAB_DUPS Reg.Sd_FAB_DEDUPE_FULL at *; omega
  · unfold Reg.Sd_PORTp_FAB Reg.Sd_FAB_DUPS Reg.Sd_FAB_DEDUPE_FULL at *; omega
  · unfold Reg.Sd_PIER_STATUS Reg.Sd_FAB_DUPS Reg.Sd_FAB_DEDUPE_FULL at *; omega

theorem SameRoutes.discard (s : State) : SameRoutes s s.discard := (SameWays.setReg s _ (by decide) (by decide)).sameRoutes

theorem SameRoutes.writeMem (s : State) (da : Nat) (bs : List Byte) : SameRoutes s (s.writeMem da bs) := .of_regs rfl rfl rfl rfl rfl

section
variable (h : SameRoutes s t)
include h

theorem SameRoutes.idValid : t.idValid = s.idValid := by simp only [State.idValid, State.rb, h.devId]

theorem SameRoutes.devId_eq : t.devId = s.devId := by simp only [State.devId, State.rf, h.devId]

theorem SameRoutes.dieUp (a : Nat) : t.dieUp a = s.dieUp a := by simp only [State.dieUp, h.pwr]

theorem SameRoutes.portUp (p : Nat) : t.portUp p = s.portUp p := by
  simp only [State.portUp, State.spanOut, State.portEnabled, State.presumes, State.role, State.rb, State.rf, State.port, h.portCtl, h.pier, h.ports,
    h.dieUp]

theorem SameRoutes.link (a b : Nat) : t.link a b = s.link a b := by simp only [State.link, h.bed]

theorem SameRoutes.diePath (a b : Nat) : t.diePath a b = s.diePath a b := by
  simp only [State.diePath, State.spanWeir, State.linked, h.link, h.dieUp]

theorem SameRoutes.onlyPort_iff {dst out : Nat} : onlyPort t dst out ↔ onlyPort s dst out := by
  simp only [onlyPort, State.route, State.routeKey, h.routes, h.idValid, h.devId_eq, h.portUp]

theorem SameRoutes.replyTo (out die : Nat) (p : Packet) (st dup : Nat) (payload : List Byte) :
    replyTo t out die p st dup payload = replyTo s out die p st dup payload := by
  simp only [Sys2Proof.replyTo, State.firstClass, State.rb, h.portFab, h.devId_eq]

end

/-- The device with one more packet that waits. -/
def State.queued (s : State) (w : TxWait) : State := { s with fab := { s.fab with waiting := s.fab.waiting ++ [w] } }

theorem keeps_queued (s : State) (w : TxWait) : keeps s (s.queued w) [.fab] := by simp [keeps, State.queued]

/-- What an effect and its answer change: what the effect changed, and the fabric. -/
theorem keeps_then_queued {l k : List SPart} (h : keeps s t l) (w : TxWait) (hl : l ⊆ k) (hfab : SPart.fab ∈ k) : keeps s (t.queued w) k :=
  keeps_trans (keeps_mono h hl) (keeps_mono (keeps_queued t w) (by simpa using hfab))

variable {port : Fin 16} {p : Packet} {out die st dup : Nat} {data : List Byte}

/-- The answer after an effect that keeps the routes: its packet is that of the device before. -/
theorem State.answer_after (h : SameRoutes s t) (hroute : onlyPort s p.src out) (hway : way s die out) :
    t.answer port die p st dup data = t.queued (replyTo s out die p st dup data) := by
  rw [State.answer_onlyPort (h.onlyPort_iff.mpr hroute) ((h.diePath _ _).trans hway), h.replyTo]
  rfl

/-- Where the effect left the fabric as it was, only the answer joined it. -/
theorem replied_queued (h : t.fab = s.fab) : replied s (t.queued (replyTo s out die p st 0 data)) out die p st data := by
  simp only [replied, State.queued, h]

variable {type : Nat} {apply : State → State × Nat × List Byte × Nat}

/-- A request without a flow is applied and answered. -/
theorem State.request_applied (hin : comesIn s port type p out) (hflow : p.flags % 2 = 0) (happly : apply s = (t, st, data, die))
    (h : SameRoutes s t) (hway : way s die out) : s.request port type p apply = t.queued (replyTo s out die p st 0 data) := by
  obtain ⟨hport, htype, hform, hdst, hroute⟩ := hin
  obtain ⟨hid, -⟩ := id hroute
  simp [State.request, hport, htype, hform, hid, hdst, hflow, happly, State.answer_after h hroute hway]

end Sys2Proof.Machine
end

section
/-! PROOF. Requests that are only answered or discarded, and READ of another device (R73, R102, R182, R428). -/

namespace Sys2Proof.Machine

variable {s : State} {port : Fin 16} {p : Packet} {out die st type : Nat} {data : List Byte}

/-- A request that changes nothing is answered, and nothing else changes. -/
theorem State.request_answered {apply : State → State × Nat × List Byte × Nat} (hin : comesIn s port type p out) (hflow : p.flags % 2 = 0)
    (hway : way s die out) (happly : apply s = (s, st, data, die)) :
    ∃ t, (.next (s.request port type p apply) : Host.Outcome State Fault Refusal) = .next t ∧ replied s t out die p st data ∧
      keeps s t [.fab] :=
  ⟨_, congrArg _ (State.request_applied hin hflow happly (.refl s) hway), replied_queued rfl, keeps_queued ..⟩

/-- A request under a stale placement epoch is counted and answered (R73). -/
theorem State.request_discarded {apply : State → State × Nat × List Byte × Nat} (hin : comesIn s port type p out) (hflow : p.flags % 2 = 0)
    (hway : way s die out) (happly : apply s = (s.discard, st, data, die)) :
    ∃ t, (.next (s.request port type p apply) : Host.Outcome State Fault Refusal) = .next t ∧ t.regs = s.discard.regs ∧
      replied s t out die p st data ∧ keeps s t [.regs, .fab] :=
  ⟨_, congrArg _ (State.request_applied hin hflow happly (.discard s) hway), rfl, replied_queued rfl,
    keeps_then_queued (keeps_bump s _) _ (by simp) (by simp)⟩

section
variable (hmod : p.mod / 64 % 2 = 0)
include hmod

section
variable (hst : s.reqStore port p.addr (32 * (p.mod % 16 + 1)) = .ok st) (halign : p.addr % 32 = 0)
  (hclean : s.poisonRange p.addr (32 * (p.mod % 16 + 1)) = false) (hcalm : s.calm p.addr (32 * (p.mod % 16 + 1)) = true)
include hst halign hclean hcalm

theorem State.doRead_untiled (hregion : regionIn s.trg p.addr (32 * (p.mod % 16 + 1)) = none) :
    s.doRead .clear port p = (s, 0, s.readMem p.addr (32 * (p.mod % 16 + 1)), ownerDie st) := by
  simp [State.doRead, hmod, hst, halign, hregion, hclean, State.eccRead_clean hclean, State.readPE_calm s _ _ hcalm, View.busy_clear,
    State.met_calm s [(p.addr, 32 * (p.mod % 16 + 1), false)] (by simpa using hcalm)]

theorem State.doRead_tiled {r : Region} (hregion : regionIn s.trg p.addr (32 * (p.mod % 16 + 1)) = some r)
    (hgood : (s.tiledPiece (s.viewNow .clear) r p.addr (32 * (p.mod % 16 + 1))).2 = []) :
    s.doRead .clear port p = (s, 0, (s.tiledPiece (s.viewNow .clear) r p.addr (32 * (p.mod % 16 + 1))).1, ownerDie st) := by
  simp [State.doRead, hmod, hst, halign, hregion, hgood, State.eccRead_clean hclean, View.busy_clear,
    State.met_calm s [(p.addr, 32 * (p.mod % 16 + 1), false)] (by simpa using hcalm)]

end

theorem State.doRead_misaligned (hst : s.reqStore port p.addr (32 * (p.mod % 16 + 1)) = .ok st) (halign : p.addr % 32 ≠ 0) :
    s.doRead .clear port p = (s, 11, zeros (32 * (p.mod % 16 + 1)), ownerDie st) := by
  simp [State.doRead, hmod, hst, halign]

theorem State.doRead_noStore {e : Nat} (hst : s.reqStore port p.addr (32 * (p.mod % 16 + 1)) = .error e) :
    s.doRead .clear port p = (s, e, zeros (32 * (p.mod % 16 + 1)), dieS (port / 8)) := by
  simp [State.doRead, hmod, hst]

end

@[simp] theorem State.length_readPE (s : State) (v : View) (da n : Nat) : (s.readPE v da n).length = n := by
  unfold State.readPE
  split <;> simp

/-- A tile that passes its check holds no poisoned unit (R182). -/
theorem State.readTile_clean {v : View} {r : Region} {da : Nat} (h : (s.readTile v r da).ok = true) :
    s.poisonRange da (s.readTile v r da).bytes.length = false := by
  simp only [State.readTile, State.length_readPE, Bool.and_eq_true, Bool.not_eq_true'] at h ⊢
  obtain ⟨⟨-, hbytes⟩, -⟩ := h
  exact hbytes

/-- Accesses that meet no write under way account for nothing, whether they read or write. -/
theorem State.met_calmTile {da n : Nat} (h : calmTile s da n) (w : Bool) (t : State) : t.met (s.viewNow .clear) (rangeAcc s.trg da n w) = t := by
  refine s.met_calm _ (fun a ha => ?_) t
  cases hr : regionIn s.trg da n with
  | none =>
    rw [calmTile, rangeAcc_none hr] at h
    rw [rangeAcc_none hr] at ha
    simp_all
  | some r =>
    rw [calmTile, rangeAcc_some hr] at h
    rw [rangeAcc_some hr] at ha
    simp only [List.mem_cons, List.not_mem_nil, or_false, forall_eq_or_imp, forall_eq] at h ha
    obtain rfl | rfl := ha
    · exact h.1
    · exact h.2

/-- READ of the trailer of a tile that passes its check. -/
theorem State.doRead_trailer {r : Region} (hmod : p.mod / 64 % 2 = 1) (hst : s.reqStore port p.addr 1 = .ok st)
    (hregion : regionIn s.trg p.addr 1 = some r) (hslot : (p.addr - r.base) % r.slot = 0)
    (hok : (s.readTile (s.viewNow .clear) r p.addr).ok = true)
    (hcalm : calmTile s p.addr (s.readTile (s.viewNow .clear) r p.addr).bytes.length) :
    s.doRead .clear port p = (s, 0, padTo 32 (s.readTile (s.viewNow .clear) r p.addr).trl.toBytes, ownerDie st) := by
  simp [State.doRead, hmod, hst, hregion, hslot, hok, State.eccRead_clean (State.readTile_clean hok), State.met_calmTile hcalm, View.busy_clear,
    Trailer.mark]

end Sys2Proof.Machine
end

section
/-! PROOF. WRITE of another device: untiled data, units of tiled slots, pieces and trailers of tiles (R73, R182, R187, R428). -/

namespace Sys2Proof.Machine

variable {s : State} {port : Fin 16} {p : Packet} {st : Nat} {r : Region}

/-- A range that touches no payload lies in no region. -/
theorem regionIn_untouched {g : Tab Region} {da n : Nat} (hn : 0 < n) (h : touchesPayload g da n = false) : regionIn g da n = none := by
  simp only [touchesPayload, List.any_eq_false, rangesMeet, Bool.and_eq_true, decide_eq_true_eq] at h
  simp only [regionIn, Option.map_eq_none_iff, List.find?_eq_none, Bool.and_eq_true, decide_eq_true_eq]
  intro kv hkv hin
  obtain ⟨⟨⟨hvalid, hlo⟩, hend⟩, hhi⟩ := hin
  exact h kv hkv ⟨hvalid, ⟨⟨hn, by omega⟩, by omega⟩, by omega⟩

theorem touchesTiled_false {g : Tab Region} {da n : Nat} (h : touchesTiled g da n = false) :
    touchesPayload g da n = false ∧ touchesTrailer g da n = false := Bool.or_eq_false_iff.mp h

/-- A WRITE of R426 carries data. -/
theorem Packet.formOk_write_length (h : Packet.formOk p = true) (htype : p.type = 2) : 0 < p.payload.length := by
  simp only [Packet.formOk, htype, Packet.units32, Bool.and_eq_true, decide_eq_true_eq] at h
  obtain ⟨-, ⟨hlow, -⟩, -⟩ := h
  have hunits := of_decide_eq_true hlow
  omega

/-! ### Untiled data -/

section
variable (hflag : p.flags / 4 % 2 = 0) (hst : s.reqStore port p.addr p.payload.length = .ok st)
include hflag hst

section
variable (halign : p.addr % 32 = 0) (htiled : touchesTiled s.trg p.addr p.payload.length = false)
  (hkv : s.touchesKv p.addr p.payload.length = false)
include halign htiled hkv

theorem State.doWrite_untiled (hlen : 0 < p.payload.length) (hplc : s.plcOk p.workUnit p.epoch = true)
    (hstill : s.still p.addr p.payload.length = true) :
    s.doWrite .clear port p = (s.writeMem p.addr p.payload, 0, [], ownerDie st) := by
  obtain ⟨hpayload, htrailer⟩ := touchesTiled_false htiled
  have hmet := State.met_calm s [(p.addr, p.payload.length, true)] (by simpa using s.calm_of_still _ _ hstill)
  simp [State.doWrite, hflag, hst, halign, hpayload, htrailer, hkv, hplc, regionIn_untouched hlen hpayload, State.writePE_still s _ _ hstill, hmet,
    View.busy_clear, worseStatus]

theorem State.doWrite_stale (hplc : s.plcOk p.workUnit p.epoch = false) : s.doWrite .clear port p = (s.discard, 2, [], ownerDie st) := by
  obtain ⟨hpayload, htrailer⟩ := touchesTiled_false htiled
  simp [State.doWrite, hflag, hst, halign, hpayload, htrailer, hkv, hplc]

end

/-- Over an edge of a region. -/
theorem State.doWrite_edge (htiled : touchesTiled s.trg p.addr p.payload.length = true) (hregion : regionIn s.trg p.addr p.payload.length = none) :
    s.doWrite .clear port p = (s, 11, [], ownerDie st) := by
  simp only [touchesTiled, Bool.or_eq_true] at htiled
  obtain hedge | hedge := htiled <;> simp [State.doWrite, hflag, hst, hregion, hedge]

end

/-! ### A unit of a tiled slot -/

theorem unitsOf_single (h : p.payload.length = 32) : unitsOf p = [(p.addr, p.payload)] := by
  simp [unitsOf, h, List.take_of_length_le]

/-- The start of the slot that an address of a region lies in. -/
def Region.slotOf (r : Region) (a : Nat) : Nat := r.base + (a - r.base) / max r.slot 1 * r.slot

/-- The device with one more tile in parts. -/
def State.tileKept (s : State) (x : TileIn) : State := { s with fab := { s.fab with tiles := s.fab.tiles ++ [x] } }

theorem keeps_tileKept (s : State) (x : TileIn) : keeps s (s.tileKept x) [.fab] := by simp [keeps, State.tileKept]

/-- The first unit of a slot whose tile takes more than one is kept. -/
theorem State.sealUnit_first {v : View} {a : Nat} {bs : List Byte} (hin : a - r.slotOf a < tileBytes r.sealFmt) (hmore : 32 < tileBytes r.sealFmt)
    (hnone : ∀ x ∈ s.fab.tiles, x.sealed = false) :
    s.sealUnit v p r a bs = s.tileKept (TileIn.mk p.src p.srcDie (r.slotOf a) false true [((a - r.slotOf a) / 32, bs)]) := by
  have hfind : s.fab.tiles.find? (fun x => x.src == p.src && x.srcDie == p.srcDie && x.addr == r.slotOf a && x.sealed) = none := by
    simp only [List.find?_eq_none]
    exact fun x hx => by simp [hnone x hx]
  have hrest : s.fab.tiles.filter (fun x => !(x.src == p.src && x.srcDie == p.srcDie && x.addr == r.slotOf a && x.sealed)) = s.fab.tiles := by
    simp only [List.filter_eq_self]
    exact fun x hx => by simp [hnone x hx]
  simp only [Region.slotOf] at hin hfind hrest ⊢
  simp only [State.sealUnit, hfind, hrest, State.tileKept]
  rw [if_neg (by omega), if_pos (by simpa using hmore)]
  rfl

theorem State.doWrite_unit (hflag : p.flags / 4 % 2 = 0) (hst : s.reqStore port p.addr 32 = .ok st) (hlen : p.payload.length = 32)
    (halign : p.addr % 32 = 0) (hregion : regionIn s.trg p.addr 32 = some r) (htrailer : touchesTrailer s.trg p.addr 32 = false)
    (hkv : s.touchesKv p.addr 32 = false) (hplc : s.plcOk p.workUnit p.epoch = true) (hcalm : calmTile s p.addr 32)
    (hin : p.addr - r.slotOf p.addr < tileBytes r.sealFmt) (hmore : 32 < tileBytes r.sealFmt) (hnone : ∀ x ∈ s.fab.tiles, x.sealed = false) :
    s.doWrite .clear port p =
      (s.tileKept (TileIn.mk p.src p.srcDie (r.slotOf p.addr) false true [((p.addr - r.slotOf p.addr) / 32, p.payload)]), 0, [], ownerDie st) := by
  simp [State.doWrite, hflag, hst, hlen, halign, hregion, htrailer, hkv, hplc, unitsOf_single hlen, State.sealUnit_first hin hmore hnone,
    State.met_calmTile hcalm, View.busy_clear, worseStatus]

/-! ### Tiles -/

/-- A piece that arrives is kept with its sender's tile. -/
theorem State.tilePiece_mem (s : State) (p : Packet) : ∃ x ∈ (s.tilePiece p false).fab.tiles,
    x.src = p.src ∧ x.srcDie = p.srcDie ∧ x.addr = p.addr ∧ (p.mod % 64, p.payload) ∈ x.pieces := by
  simp only [State.tilePiece]
  split
  · next hany =>
    obtain ⟨x, hx, hsame⟩ := List.any_eq_true.mp hany
    refine ⟨_, List.mem_map.mpr ⟨x, hx, rfl⟩, ?_⟩
    simp only [Bool.and_eq_true, beq_iff_eq] at hsame
    obtain ⟨⟨⟨⟨hsrc, hdie⟩, haddr⟩, hfold⟩, hsealed⟩ := hsame
    simp [hsrc, hdie, haddr, hfold, hsealed]
  · exact ⟨_, List.mem_append_right _ (List.mem_singleton_self _), rfl, rfl, rfl, List.mem_singleton_self _⟩

theorem keeps_tilePiece (s : State) (p : Packet) (fold : Bool) : keeps s (s.tilePiece p fold) [.fab] := by simp [keeps, State.tilePiece]

theorem keeps_tileTake (s : State) (p : Packet) (fold : Bool) : keeps s (s.tileTake p fold).1 [.fab] := by simp [keeps, State.tileTake]

section
variable (hflag : p.flags / 4 % 2 = 1) (hst : s.reqStore port p.addr 1 = .ok st) (hplc : s.plcOk p.workUnit p.epoch = true)
include hflag hst hplc

theorem State.doWrite_piece (hmod : p.mod / 64 % 2 = 0) : s.doWrite .clear port p = (s.tilePiece p false, 0, [], ownerDie st) := by
  simp [State.doWrite, hflag, hst, hplc, hmod]

/-- The trailer of a tile whose check passes: the pieces are stored with it. -/
theorem State.doWrite_trailer (hmod : p.mod / 64 % 2 = 1) (hregion : regionIn s.trg p.addr 1 = some r) (hslot : (p.addr - r.base) % r.slot = 0)
    {k : Nat} {b : List Byte} (hk : k = tileSize (pktTrailer p).fmt r.sealFmt) (hb : b = padTo k (s.tileTake p false).2)
    (hfit : k ≤ r.slot) (hkv : s.touchesKv p.addr k = false)
    (hcrc : (crc32c b).toNat = (pktTrailer p).crc) (hvalid : (pktTrailer p).valid = true) (hpoison : (pktTrailer p).poison = false)
    (hstill : s.still p.addr k = true) (htrl : s.still (r.trailerDA p.addr) 8 = true) (hcalm : calmTile s p.addr k) :
    s.doWrite .clear port p = ((s.tileTake p false).1.tileStored r p.addr b (pktTrailer p), 0, [], ownerDie st) := by
  have hlen : b.length = k := by rw [hb, length_padTo]
  have hwrite : (s.tileTake p false).1.writeTile (s.viewNow .clear) r p.addr b (pktTrailer p) =
      (s.tileTake p false).1.tileStored r p.addr b (pktTrailer p) :=
    State.writeTile_still (s := (s.tileTake p false).1) _ (by rw [hlen]; exact hstill) htrl
  have hukv : (s.tileTake p false).1.touchesKv p.addr k = false := hkv
  have hmet : ∀ t : State, t.met (s.viewNow .clear) (rangeAcc (s.tileTake p false).1.trg p.addr k true) = t := State.met_calmTile hcalm true
  simp [State.doWrite, hflag, hst, hplc, hmod, hregion, hslot, ← hk, ← hb, Nat.not_lt.mpr hfit, hukv, hcrc, hvalid, hpoison, Trailer.mark,
    hwrite, hmet, View.busy_clear, worseStatus]

end

end Sys2Proof.Machine
end

section
/-! PROOF. ATOMIC and FOLD of another device (R102, R232, R428). -/

namespace Sys2Proof.Machine

variable {s : State} {port : Fin 16} {p : Packet} {st : Nat}

/-! ### ATOMIC -/

/-- The device after an atomic left what it stores at `da`; a compare that failed stores nothing (R102). -/
def State.atomicDone (s : State) (da : Nat) : Option Nat → State
  | some w => s.writeMem da (toBytesLE 8 w)
  | none => s

/-- The eight bytes hold what the atomic stored, or what they held, and no other byte changed. -/
theorem State.atomicDone_spec (s : State) (da : Nat) (new : Option Nat) :
    (s.atomicDone da new).readMem da 8 = toBytesLE 8 (new.getD (ofBytesLE (s.readMem da 8))) ∧
    ∀ a, a < da ∨ da + 8 ≤ a → (s.atomicDone da new).byte a = s.byte a := by
  cases new with
  | none =>
    have hsame := toBytesLE_ofBytesLE (s.readMem da 8)
    rw [State.length_readMem] at hsame
    exact ⟨hsame.symm, fun _ _ => rfl⟩
  | some w =>
    have hread := s.readMem_writeMem da (toBytesLE 8 w)
    rw [length_toBytesLE] at hread
    exact ⟨hread, fun a ha => s.byte_writeMem_out _ _ _ (by rwa [length_toBytesLE])⟩

theorem keeps_atomicDone (s : State) (da : Nat) (new : Option Nat) : keeps s (s.atomicDone da new) [.mem] := by
  cases new with
  | none => exact keeps_refl ..
  | some w => exact keeps_writeMem ..

theorem SameRoutes.atomicDone (s : State) (da : Nat) (new : Option Nat) : SameRoutes s (s.atomicDone da new) := by
  cases new with
  | none => exact .refl s
  | some w => exact .writeMem ..

theorem State.fab_atomicDone (s : State) (da : Nat) (new : Option Nat) : (s.atomicDone da new).fab = s.fab := by cases new <;> rfl

/-- What an atomic leaves where it acted. -/
theorem getD_atomicNew (cas : Prop) [Decidable cas] (old a b : Nat) :
    (atomicNew cas old a b).getD old = if cas then (if old = a then b else old) else (old + a) % 2 ^ 64 := by
  unfold atomicNew
  split_ifs <;> simp_all

section
variable (hst : s.reqStore port p.addr 8 = .ok st) (hok : s.atomicOk p.addr = true) (hclean : s.poisonRange p.addr 8 = false)
include hst hok hclean

theorem State.doAtomic_applied (hstill : s.still p.addr 8 = true) (hplc : s.plcOk p.workUnit p.epoch = true) :
    s.doAtomic .clear port p =
      (s.atomicDone p.addr (atomicNew (p.mod = 1) (ofBytesLE (s.readMem p.addr 8)) (bfld p.payload 0 8) (bfld p.payload 8 8)), 0,
        padTo 32 (toBytesLE 8 (ofBytesLE (s.readMem p.addr 8))), ownerDie st) := by
  have hcalm := s.calm_of_still _ _ hstill
  have hmet : ∀ w t, State.met t (s.viewNow .clear) [(p.addr, 8, w)] = t := fun w => s.met_calm [(p.addr, 8, w)] (by simpa using hcalm)
  have hwrite : ∀ x, s.writePE (s.viewNow .clear) p.addr (toBytesLE 8 x) = s.writeMem p.addr (toBytesLE 8 x) := fun x =>
    s.writePE_still _ _ (by rwa [length_toBytesLE])
  simp only [State.doAtomic, hst, hok, hclean, hplc, State.meet_clear, State.readPE_calm s _ _ hcalm, hmet, hwrite, View.busy_clear]
  cases atomicNew (p.mod = 1) (ofBytesLE (s.readMem p.addr 8)) (bfld p.payload 0 8) (bfld p.payload 8 8) <;> rfl

theorem State.doAtomic_stale (hplc : s.plcOk p.workUnit p.epoch = false) : s.doAtomic .clear port p = (s.discard, 2, zeros 32, ownerDie st) := by
  simp [State.doAtomic, hst, hok, hclean, hplc]

end

/-! ### FOLD of untiled words -/

theorem length_elemsOf_four {k fuel : Nat} {bs : List Byte} (h : bs.length = 4 * k) (hfuel : k ≤ fuel) : (elemsOf 4 fuel bs).length = k := by
  induction fuel generalizing k bs with
  | zero => simp only [elemsOf, List.length_nil]; omega
  | succ fuel ih =>
    rw [elemsOf]
    split_ifs with hnil
    · subst hnil
      simp only [List.length_nil] at h ⊢
      omega
    · have hpos := List.length_pos_iff.mpr hnil
      rw [List.length_cons, ih (k := k - 1) (by rw [List.length_drop]; omega) (by omega)]
      omega

/-- The sums of two ranges of words take as many bytes as each (R232). -/
theorem length_foldInts {res arr : List Byte} (h : res.length = arr.length) (hwords : arr.length % 4 = 0) :
    (foldInts res arr).length = arr.length := by
  have hk : arr.length = 4 * (arr.length / 4) := by omega
  have hres : (elemsOf 4 res.length res).length = arr.length / 4 := length_elemsOf_four (h.trans hk) (by omega)
  have harr : (elemsOf 4 arr.length arr).length = arr.length / 4 := length_elemsOf_four hk (by omega)
  simp only [foldInts, List.length_flatMap, length_toBytesLE, List.map_const', List.sum_replicate, List.length_zipWith, hres, harr, smul_eq_mul]
  omega

/-- With no byte of memory marked, a store that keeps no word is a plain one. -/
theorem State.writeKeep_all {da : Nat} {bs : List Byte} {keep : Nat → Bool} (hkeep : ∀ i, keep i = false) (hbad : s.mem.bad = [])
    (hstill : s.still da bs.length = true) : s.writeKeep (s.viewNow .clear) da bs keep = s.writeMem da bs := by
  have hbs : bs.zipIdx.map (fun x => if keep x.2 then s.byte (da + x.2) else x.1) = bs := by simp [hkeep]
  have hmem : ({ (s.mem.put da bs) with bad := [] } : Mem) = s.mem.put da bs := by simp [Mem.put, Mem.clearBad, hbad]
  rw [State.writeKeep, hbs, s.writePE_still _ _ hstill, hbad]
  exact congrArg (fun m => { s with mem := m }) hmem

/-- The device after a fold of untiled words at `da` of Weir n's stack. -/
def State.folded (s : State) (n da : Nat) (data : List Byte) : State :=
  (s.writeMem da (foldInts (s.readMem da data.length) data)).bumpN (Reg.Wn_FOLD_TILES n) ((data.length + 8191) / 8192)

theorem State.foldUntiled_clean {n da wu epoch : Nat} {data : List Byte} (hbad : s.mem.bad = []) (hplc : s.plcOk wu epoch = true)
    (hstill : s.still da data.length = true) (hwords : data.length % 4 = 0) :
    s.foldUntiled (s.viewNow .clear) n da data (fun _ => false) wu epoch = (s.folded n da data, 0) := by
  have hlen : (foldInts (s.readMem da data.length) data).length = data.length := length_foldInts (by simp) hwords
  have hpoison : ∀ a, s.poisonByte a = false := fun a => by simp [State.poisonByte, hbad]
  have hkeep := State.writeKeep_all (keep := fun _ => false) (bs := foldInts (s.readMem da data.length) data) (da := da) (fun _ => rfl) hbad
    (by rwa [hlen])
  simp [State.foldUntiled, hplc, s.readPE_calm _ _ (s.calm_of_still _ _ hstill), hpoison, hkeep, State.folded]

/-- The range holds the sums, no other byte changed, and the fold's tiles are counted. -/
theorem State.folded_spec (s : State) (n da : Nat) {data : List Byte} (hwords : data.length % 4 = 0) :
    (s.folded n da data).readMem da data.length = foldInts (s.readMem da data.length) data ∧
    (∀ a, a < da ∨ da + data.length ≤ a → (s.folded n da data).byte a = s.byte a) ∧
    (s.folded n da data).reg (Reg.Wn_FOLD_TILES n) = satAdd (s.reg (Reg.Wn_FOLD_TILES n)) ((data.length + 8191) / 8192) := by
  have hlen : (foldInts (s.readMem da data.length) data).length = data.length := length_foldInts (by simp) hwords
  have hread := s.readMem_writeMem da (foldInts (s.readMem da data.length) data)
  rw [hlen] at hread
  exact ⟨hread, fun a ha => s.byte_writeMem_out _ _ _ (by rwa [hlen]), State.reg_setReg ..⟩

theorem keeps_folded (s : State) (n da : Nat) (data : List Byte) : keeps s (s.folded n da data) [.mem, .regs] :=
  keeps_trans (keeps_mono (keeps_writeMem ..) (by simp)) (keeps_mono (keeps_setReg _ _ _) (by simp))

theorem SameRoutes.folded (s : State) {n : Nat} (hn : n < 16) (da : Nat) (data : List Byte) : SameRoutes s (s.folded n da data) :=
  .trans (.writeMem ..) (SameWays.setReg _ _ (by unfold Reg.KEY_DEV_ID Reg.Wn_FOLD_TILES; omega) (by unfold Reg.Wn_FOLD_TILES; omega)).sameRoutes

section
variable (hflag : p.flags / 4 % 2 = 0) (hst : s.reqStore port p.addr p.payload.length = .ok st)
include hflag hst

/-- No fold reaches a store that is no stack. -/
theorem State.doFold_noStack (hstack : 16 ≤ st) : s.doFold port p = (s, 11, [], ownerDie st) := by
  simp [State.doFold, hflag, hst, hstack]

theorem State.doFold_untiled (hstack : st < 16) (hmod : p.mod / 128 % 2 = 0) (halign : p.addr % 32 = 0)
    (htiled : touchesTiled s.trg p.addr p.payload.length = false) (hkv : s.touchesKv p.addr p.payload.length = false) (hbad : s.mem.bad = [])
    (hplc : s.plcOk p.workUnit p.epoch = true) (hstill : s.still p.addr p.payload.length = true) (hwords : p.payload.length % 4 = 0) :
    s.doFold port p = (s.folded st p.addr p.payload, 0, [], ownerDie st) := by
  have hclean : s.poisonRange p.addr p.payload.length = false := by simp [State.poisonRange, hbad]
  simp [State.doFold, hflag, hst, Nat.not_le.mpr hstack, hmod, halign, htiled, hkv, State.eccRead_clean hclean,
    State.foldUntiled_clean hbad hplc hstill hwords]

end

end Sys2Proof.Machine
end

section
/-! PROOF. TOKEN_SIGNAL of another device, and the flows of requests that may arrive twice (R49, R52, R428, R443, R444). -/

namespace Sys2Proof.Machine

variable {s t u : State} {port : Fin 16} {p : Packet} {out die st type : Nat} {data : List Byte} {apply : State → State × Nat × List Byte × Nat}

/-! ### TOKEN_SIGNAL -/

/-- The effect of a TOKEN_SIGNAL with its answer's status, data and die, as `execTokenSignal` applies it. -/
def State.doTokenSignal (s : State) (port : Nat) (p : Packet) : State × Nat × List Byte × Nat :=
  let r := bfld p.payload 0 4
  if !s.reachHere r then (s, 11, [], dieS (port / 8))
  else if !s.diePath (dieS (port / 8)) (ridDie r) then (s, 7, [], dieS (port / 8))
  else
    let (t, st) := s.applySignal (dieS (port / 8)) r (bfld p.payload 4 2 % 4096) (bfld p.payload 6 2) (bfld p.payload 8 4) p.workUnit p.epoch
      (p.mod = 1)
    (t, st, [], ridDie r)

theorem execTokenSignal_eq (s : State) (port : Fin 16) (p : Packet) :
    execTokenSignal port p s = .next (s.request port 5 p fun s => s.doTokenSignal port p) := rfl

theorem State.doTokenSignal_noReach (hr : s.reachHere (bfld p.payload 0 4) = false) : s.doTokenSignal port p = (s, 11, [], dieS (port / 8)) := by
  simp [State.doTokenSignal, hr]

section
variable (hr : s.reachHere (bfld p.payload 0 4) = true)
include hr

theorem State.doTokenSignal_noPath (hpath : s.diePath (dieS (port / 8)) (ridDie (bfld p.payload 0 4)) = false) :
    s.doTokenSignal port p = (s, 7, [], dieS (port / 8)) := by
  simp [State.doTokenSignal, hr, hpath]

section
variable (hpath : s.diePath (dieS (port / 8)) (ridDie (bfld p.payload 0 4)) = true) (hplc : s.plcOk p.workUnit p.epoch = true)
include hpath hplc

/-- A signal within the counter's range is added (R49). -/
theorem State.doTokenSignal_add (hmod : p.mod = 0)
    (hfit : (s.tok (bfld p.payload 0 4) (bfld p.payload 4 2 % 4096)).toNat + bfld p.payload 6 2 ≤ 0xFFFFFFFF) :
    s.doTokenSignal port p =
      (s.tokAdd (bfld p.payload 0 4) (bfld p.payload 4 2 % 4096) (bfld p.payload 6 2), 0, [], ridDie (bfld p.payload 0 4)) := by
  have hover : s.tokOver (bfld p.payload 0 4) (bfld p.payload 4 2 % 4096) (bfld p.payload 6 2) = false := by
    rw [Bool.eq_false_iff, ne_eq, State.tokOver_iff]
    exact Nat.not_lt.mpr hfit
  simp [State.doTokenSignal, State.applySignal, State.signalLocal, hr, hpath, hplc, hmod, hover]

/-- Credits are given to the pool that the token's number names (R52). -/
theorem State.doTokenSignal_give (hmod : p.mod = 1) : s.doTokenSignal port p =
    (s.giveLocal (bfld p.payload 0 4) (bfld p.payload 4 2 % 4096 % 64) (bfld p.payload 8 4), 0, [], ridDie (bfld p.payload 0 4)) := by
  simp [State.doTokenSignal, hr, hpath, hmod, State.applySignal_give hr hpath hplc]

end

end

theorem SameRoutes.setReach (s : State) (r : Nat) (x : Reach) : SameRoutes s (s.setReach r x) := .of_regs rfl rfl rfl rfl rfl

/-- A request that sets one reach, and what its answer finds. -/
theorem State.request_setsReach {r : Nat} {x : Reach} (hin : comesIn s port type p out) (hflow : p.flags % 2 = 0) (hway : way s die out)
    (happly : apply s = (s.setReach r x, st, data, die)) :
    ∃ t, (.next (s.request port type p apply) : Host.Outcome State Fault Refusal) = .next t ∧ t.reach r = x ∧
      (∀ q, q ≠ r → t.reach q = s.reach q) ∧ replied s t out die p st data ∧ keeps s t [.reaches, .fab] :=
  ⟨_, congrArg _ (State.request_applied hin hflow happly (.setReach ..) hway), s.reach_setReach .., fun _ hq => s.reach_setReach_ne _ _ _ hq,
    replied_queued rfl, keeps_then_queued (keeps_setReach ..) _ (by simp) (by simp)⟩

/-! ### Flows -/

/-- The entries of a span die's flows that a copy keeps alive (R443). -/
def State.liveFlows (s : State) (d : Nat) : List FlowIn := (s.span d).flows.filter fun f => decide (s.ticks < f.last + 32768)

/-- The entry of a packet's flow. -/
def State.flowOf (s : State) (p : Packet) : Option FlowIn := (s.liveFlows (flowOwner p)).find? fun f => f.src == p.src && f.die == p.srcDie

/-- The owner's span die of a packet's flow once the flow's first copy came. -/
def State.flowBegun (s : State) (p : Packet) : Span :=
  { s.span (flowOwner p) with
    flows := s.liveFlows (flowOwner p) ++ [{ src := p.src, die := p.srcDie, high := p.flowSeq, seen := [p.flowSeq], last := s.ticks }] }

theorem State.dedupe_first (hflow : s.flowOf p = none) (hroom : (s.liveFlows (flowOwner p)).length < 2048) :
    s.dedupe p = .apply (s.setSpan (flowOwner p) (s.flowBegun p)) := by
  unfold State.flowOf State.liveFlows at hflow
  rw [State.liveFlows] at hroom
  simp only [State.dedupe, hflow, if_neg (Nat.not_le.mpr hroom)]
  rfl

theorem State.dedupe_full (hflow : s.flowOf p = none) (hfull : 2048 ≤ (s.liveFlows (flowOwner p)).length) : s.dedupe p = .full := by
  unfold State.flowOf State.liveFlows at hflow
  rw [State.liveFlows] at hfull
  simp only [State.dedupe, hflow, if_pos hfull]

/-- A sequence number that was seen, and does not run ahead, is a copy's. -/
theorem State.dedupe_seen {f : FlowIn} (hflow : s.flowOf p = some f) (hseen : p.flowSeq ∈ f.seen)
    (hback : (p.flowSeq + 2 ^ 32 - f.high) % 2 ^ 32 = 0 ∨ 2 ^ 31 ≤ (p.flowSeq + 2 ^ 32 - f.high) % 2 ^ 32) :
    ∃ x, s.dedupe p = .duplicate (s.setSpan (flowOwner p) x) := by
  unfold State.flowOf State.liveFlows at hflow
  have hahead : ¬ (1 ≤ (p.flowSeq + 2 ^ 32 - f.high) % 2 ^ 32 ∧ (p.flowSeq + 2 ^ 32 - f.high) % 2 ^ 32 < 2 ^ 31) := by omega
  have hold : ¬ ((decide ((f.high + 2 ^ 32 - p.flowSeq) % 2 ^ 32 < 1024) && !f.seen.contains p.flowSeq) = true) := by simp [hseen]
  simp only [State.dedupe, hflow, if_neg hahead, if_neg hold]
  exact ⟨_, rfl⟩

theorem SameRoutes.setSpan (s : State) (d : Nat) (x : Span) : SameRoutes s (s.setSpan d x) := .of_regs rfl rfl rfl rfl rfl

theorem keeps_setSpan (s : State) (d : Nat) (x : Span) : keeps s (s.setSpan d x) [.fab] := by simp [keeps, State.setSpan]

section
variable (hin : comesIn s port type p out) (hflow : p.flags % 2 = 1)
include hin hflow

/-- The first of a flow's copies is applied and answered. -/
theorem State.request_first (hfirst : s.dedupe p = .apply u) (happly : apply u = (t, st, data, die)) (h : SameRoutes s t) (hway : way s die out) :
    s.request port type p apply = t.queued (replyTo s out die p st 0 data) := by
  obtain ⟨hport, htype, hform, hdst, hroute⟩ := hin
  obtain ⟨hid, -⟩ := id hroute
  simp [State.request, hport, htype, hform, hid, hdst, hflow, hfirst, happly, State.answer_after h hroute hway]

section
variable (hway : way s (dieS (flowOwner p)) out)
include hway

/-- A further copy is answered as a duplicate and counted. -/
theorem State.request_duplicate {x : Span} (hseen : s.dedupe p = .duplicate (s.setSpan (flowOwner p) x)) : s.request port type p apply =
    ((s.setSpan (flowOwner p) x).bump (Reg.Sd_FAB_DUPS (flowOwner p))).queued (replyTo s out (dieS (flowOwner p)) p 0 1 (zeroData p)) := by
  obtain ⟨hport, htype, hform, hdst, hroute⟩ := hin
  obtain ⟨hid, -⟩ := id hroute
  have hways : SameRoutes s ((s.setSpan (flowOwner p) x).bump (Reg.Sd_FAB_DUPS (flowOwner p))) := .trans (.setSpan ..) (.setReg_span _ _ (.inl rfl))
  simp [State.request, hport, htype, hform, hid, hdst, hflow, hseen, State.answer_after hways hroute hway]

/-- A new flow's copy that finds no entry is refused and counted. -/
theorem State.request_full (hfull : s.dedupe p = .full) : s.request port type p apply =
    (s.bump (Reg.Sd_FAB_DEDUPE_FULL (flowOwner p))).queued (replyTo s out (dieS (flowOwner p)) p 7 0 (zeroData p)) := by
  obtain ⟨hport, htype, hform, hdst, hroute⟩ := hin
  obtain ⟨hid, -⟩ := id hroute
  have hways : SameRoutes s (s.bump (Reg.Sd_FAB_DEDUPE_FULL (flowOwner p))) := .setReg_span _ _ (.inr rfl)
  simp [State.request, hport, htype, hform, hid, hdst, hflow, hfull, State.answer_after hways hroute hway]

end

end

/-- A counted copy leaves its answer, the count and the flow's entry. -/
theorem State.copyCounted_spec (s : State) (d off : Nat) (x : Span) (w : TxWait) :
    (((s.setSpan d x).bump off).queued w).fab.waiting = s.fab.waiting ++ [w] ∧
    (((s.setSpan d x).bump off).queued w).regs = (s.bump off).regs ∧ keeps s (((s.setSpan d x).bump off).queued w) [.regs, .fab] :=
  ⟨rfl, rfl, by simp [keeps, State.queued]⟩

theorem zeroData_write (h : p.type = 2) : zeroData p = [] := by simp [zeroData, h]

/-- Settles O34: each request's effect is one lemma of its operation, and its answer joins the packets that wait at the port of its route. -/
theorem fabricRequestResults : Obligations.FabricRequestResults := by
  refine ⟨fun port p out st s hin hflow hway => ⟨?read, ?misaligned, ?noStore, ?trailerRead⟩,
    fun port p out st s hin hflow hway => ⟨?write, ?edge, ?unit, ?piece, ?trailerWrite⟩,
    fun port p out st s hin hflow hway hst hok hclean hstill => ⟨fun hplc => ?atomic, fun hplc => ?atomicStale⟩,
    fun port p out st s hin hflow hflag hway hst hmod halign hwords => ⟨fun hstack => ?noStack, fun hstack htiled hkv hbad hplc hstill => ?fold⟩,
    fun port p out s hin hflow => ⟨fun hr hway => ?noReach, fun hr hpath hway => ?noPath,
      fun hr hlow hpath hway hplc => ⟨fun hmod hfit => ?signal, fun hmod => ?give⟩⟩,
    fun port p out st s hin hflags => ⟨?first, ?duplicate, ?full⟩⟩
  case read =>
    refine fun hmod hst halign hclean hcalm => ⟨fun hregion => ?_, fun r hregion hgood => ?_⟩
    · exact State.request_answered hin hflow hway (State.doRead_untiled hmod hst halign hclean hcalm hregion)
    · exact State.request_answered hin hflow hway (State.doRead_tiled hmod hst halign hclean hcalm hregion hgood)
  case misaligned =>
    exact fun hmod hst halign => State.request_answered hin hflow hway (State.doRead_misaligned hmod hst halign)
  case noStore =>
    exact fun e hmod hst hway => State.request_answered hin hflow hway (State.doRead_noStore hmod hst)
  case trailerRead =>
    exact fun r hmod hst hregion hslot hok hcalm =>
      State.request_answered hin hflow hway (State.doRead_trailer hmod hst hregion hslot hok hcalm)
  case write =>
    refine fun hflag hst halign htiled hkv => ⟨fun hplc hstill => ?_, fun hplc => ?_⟩
    · obtain ⟨-, htype, hform, -⟩ := id hin
      have hdone := State.doWrite_untiled hflag hst halign htiled hkv (Packet.formOk_write_length hform htype) hplc hstill
      exact ⟨_, congrArg Host.Outcome.next (State.request_applied hin hflow hdone (.writeMem ..) hway),
        s.readMem_writeMem .., s.byte_writeMem_out _ _, replied_queued rfl,
        keeps_then_queued (keeps_writeMem ..) _ (by simp) (by simp)⟩
    · exact State.request_discarded hin hflow hway (State.doWrite_stale hflag hst halign htiled hkv hplc)
  case edge =>
    exact fun hflag hst htiled hregion => State.request_answered hin hflow hway (State.doWrite_edge hflag hst htiled hregion)
  case unit =>
    refine fun r hflag hst hlen halign hregion htrailer hkv hplc hcalm hslot hmore hnone => ?_
    have hdone := State.doWrite_unit hflag hst hlen halign hregion htrailer hkv hplc hcalm hslot hmore hnone
    exact ⟨_, congrArg Host.Outcome.next (State.request_applied hin hflow hdone (.of_regs rfl rfl rfl rfl rfl) hway),
      rfl, rfl, keeps_then_queued (keeps_tileKept ..) _ (List.Subset.refl _) (by simp)⟩
  case piece =>
    refine fun hflag hst hplc hmod => ?_
    have hdone := State.doWrite_piece hflag hst hplc hmod
    exact ⟨_, congrArg Host.Outcome.next (State.request_applied hin hflow hdone (.of_regs rfl rfl rfl rfl rfl) hway),
      rfl, s.tilePiece_mem p,
      keeps_then_queued (keeps_tilePiece ..) _ (List.Subset.refl _) (by simp)⟩
  case trailerWrite =>
    refine fun r hflag hst hplc hmod hregion hslot hfit hkv hcrc hvalid hpoison hapart hk hstill htrl hcalm => ?_
    have hdone := State.doWrite_trailer hflag hst hplc hmod hregion hslot rfl rfl hfit hkv hcrc hvalid hpoison hstill htrl hcalm
    obtain ⟨hbytes, htrailer, hother⟩ := (s.tileTake p false).1.tileStored_spec (pktTrailer p) (length_padTo ..) hk hapart
    refine ⟨_, congrArg Host.Outcome.next (State.request_applied hin hflow hdone (.of_regs rfl rfl rfl rfl rfl) hway),
      hbytes, htrailer, hother, rfl, ?_⟩
    have htake := keeps_mono (keeps_tileTake s p false) (m := [.mem, .fab]) (by simp)
    exact keeps_then_queued (keeps_trans htake (keeps_mono (keeps_tileStored ..) (by simp))) _ (List.Subset.refl _) (by simp)
  case atomic =>
    have hdone := State.doAtomic_applied hst hok hclean hstill hplc
    obtain ⟨hread, hother⟩ := s.atomicDone_spec p.addr
      (atomicNew (p.mod = 1) (ofBytesLE (s.readMem p.addr 8)) (bfld p.payload 0 8) (bfld p.payload 8 8))
    rw [getD_atomicNew] at hread
    exact ⟨_, congrArg Host.Outcome.next (State.request_applied hin hflow hdone (.atomicDone ..) hway),
      hread, hother, replied_queued (s.fab_atomicDone ..),
      keeps_then_queued (keeps_atomicDone ..) _ (by simp) (by simp)⟩
  case atomicStale =>
    exact State.request_discarded hin hflow hway (State.doAtomic_stale hst hok hclean hplc)
  case noStack =>
    exact State.request_answered hin hflow hway (State.doFold_noStack hflag hst hstack)
  case fold =>
    have hfour : p.payload.length % 4 = 0 := by omega
    have hdone := State.doFold_untiled hflag hst hstack hmod halign htiled hkv hbad hplc hstill hfour
    obtain ⟨hread, hother, hcount⟩ := s.folded_spec st p.addr hfour
    exact ⟨_, congrArg Host.Outcome.next (State.request_applied hin hflow hdone (.folded s hstack ..) hway),
      hread, hother, replied_queued rfl, hcount,
      keeps_then_queued (keeps_folded ..) _ (by simp) (by simp)⟩
  case noReach =>
    exact State.request_answered hin hflow hway (State.doTokenSignal_noReach hr)
  case noPath =>
    exact State.request_answered hin hflow hway (State.doTokenSignal_noPath hr hpath)
  case signal =>
    have hdone := State.doTokenSignal_add hr hpath hplc hmod hfit
    rw [State.tokAdd, State.setTok_low hlow] at hdone
    exact State.request_setsReach hin hflow hway hdone
  case give =>
    have hdone := State.doTokenSignal_give hr hpath hplc hmod
    rw [State.giveLocal, State.setPool_low _ hlow] at hdone
    exact State.request_setsReach hin hflow hway hdone
  case first =>
    refine fun hnew hroom hst halign htiled hkv hplc hstill hway => ?_
    obtain ⟨-, htype, hform, -⟩ := id hin
    have hdone := State.doWrite_untiled (s := s.setSpan (flowOwner p) (s.flowBegun p)) (port := port) (by omega) hst halign htiled hkv
      (Packet.formOk_write_length hform htype) hplc hstill
    have hways : SameRoutes s ((s.setSpan (flowOwner p) (s.flowBegun p)).writeMem p.addr p.payload) := .trans (.setSpan ..) (.writeMem ..)
    refine ⟨_, congrArg Host.Outcome.next (State.request_first hin (by omega) (State.dedupe_first hnew hroom) hdone hways hway),
      State.readMem_writeMem .., rfl, ?_, ?_⟩
    · exact congrArg Span.flows (State.span_setSpan ..)
    · have hspan := keeps_mono (keeps_setSpan s (flowOwner p) (s.flowBegun p)) (m := [.mem, .fab]) (by simp)
      exact keeps_then_queued (keeps_trans hspan (keeps_mono (keeps_writeMem ..) (by simp))) _ (List.Subset.refl _) (by simp)
  case duplicate =>
    refine fun f hmine hseen hback hway => ?_
    obtain ⟨x, hdup⟩ := State.dedupe_seen hmine hseen hback
    obtain ⟨-, htype, -⟩ := id hin
    have hdone := State.request_duplicate (apply := fun s => s.doWrite .clear port p) hin (by omega) hway hdup
    rw [zeroData_write htype] at hdone
    exact ⟨_, congrArg Host.Outcome.next hdone, s.copyCounted_spec ..⟩
  case full =>
    refine fun hnew hfull hway => ?_
    obtain ⟨-, htype, -⟩ := id hin
    have hdone := State.request_full (apply := fun s => s.doWrite .clear port p) hin (by omega) hway (State.dedupe_full hnew hfull)
    rw [zeroData_write htype] at hdone
    exact ⟨_, congrArg Host.Outcome.next hdone, replied_queued (State.bump_fab ..), rfl, keeps_then_queued (keeps_bump s _) _ (by simp) (by simp)⟩

end Sys2Proof.Machine
end

section
/-! PROOF. The words of the six formats: each field of a word that was put together reads as it was put, and the fields of a word put
together again give the word (R94, R96). -/

namespace Sys2Proof.Machine

section
open BitVec

theorem extractLsb'_whole {n start : Nat} (x : BitVec n) (h : start = 0) : x.extractLsb' start n = x := by
  rw [h, extractLsb'_eq_self]

theorem cast_extractLsb'_whole {n m : Nat} (x : BitVec n) (h : m = n) : (x.extractLsb' 0 m).cast h = x := by
  subst h; exact extractLsb'_eq_self

variable (op : BitVec 8) (w : BitVec 128)

theorem opcode_faToWord (f : FA) : (faToWord op f).extractLsb' 120 8 = op := by
  simp (disch := omega) only [faToWord, extractLsb'_cast, extractLsb'_append_eq_of_le, extractLsb'_whole]

theorem opcode_fbToWord (f : FB) : (fbToWord op f).extractLsb' 120 8 = op := by
  simp (disch := omega) only [fbToWord, extractLsb'_cast, extractLsb'_append_eq_of_le, extractLsb'_whole]

theorem opcode_fcToWord (f : FC) : (fcToWord op f).extractLsb' 120 8 = op := by
  simp (disch := omega) only [fcToWord, extractLsb'_cast, extractLsb'_append_eq_of_le, extractLsb'_whole]

theorem opcode_fdToWord (f : FD) : (fdToWord op f).extractLsb' 120 8 = op := by
  simp (disch := omega) only [fdToWord, extractLsb'_cast, extractLsb'_append_eq_of_le, extractLsb'_whole]

theorem opcode_feToWord (f : FE) : (feToWord op f).extractLsb' 120 8 = op := by
  simp (disch := omega) only [feToWord, extractLsb'_cast, extractLsb'_append_eq_of_le, extractLsb'_whole]

theorem opcode_ffToWord (f : FF) : (ffToWord op f).extractLsb' 120 8 = op := by
  simp (disch := omega) only [ffToWord, extractLsb'_cast, extractLsb'_append_eq_of_le, extractLsb'_whole]

theorem faOfWord_faToWord (f : FA) : faOfWord (faToWord op f) = f := by
  simp (disch := omega) only [faOfWord, faToWord, extractLsb'_cast, extractLsb'_append_eq_of_le, extractLsb'_append_eq_of_add_le, extractLsb'_whole]

theorem fbOfWord_fbToWord (f : FB) : fbOfWord (fbToWord op f) = f := by
  simp (disch := omega) only [fbOfWord, fbToWord, extractLsb'_cast, extractLsb'_append_eq_of_le, extractLsb'_append_eq_of_add_le, extractLsb'_whole]

theorem fcOfWord_fcToWord (f : FC) : fcOfWord (fcToWord op f) = f := by
  simp (disch := omega) only [fcOfWord, fcToWord, extractLsb'_cast, extractLsb'_append_eq_of_le, extractLsb'_append_eq_of_add_le, extractLsb'_whole]

theorem fdOfWord_fdToWord (f : FD) : fdOfWord (fdToWord op f) = f := by
  simp (disch := omega) only [fdOfWord, fdToWord, extractLsb'_cast, extractLsb'_append_eq_of_le, extractLsb'_append_eq_of_add_le, extractLsb'_whole]

theorem feOfWord_feToWord (f : FE) : feOfWord (feToWord op f) = f := by
  simp (disch := omega) only [feOfWord, feToWord, extractLsb'_cast, extractLsb'_append_eq_of_le, extractLsb'_append_eq_of_add_le, extractLsb'_whole]

theorem ffOfWord_ffToWord (f : FF) : ffOfWord (ffToWord op f) = f := by
  simp (disch := omega) only [ffOfWord, ffToWord, extractLsb'_cast, extractLsb'_append_eq_of_le, extractLsb'_append_eq_of_add_le, extractLsb'_whole]

theorem faToWord_faOfWord : faToWord (w.extractLsb' 120 8) (faOfWord w) = w := by
  simp (disch := omega) only [faToWord, faOfWord, extractLsb'_append_extractLsb'_eq_extractLsb', cast_extractLsb'_whole]

theorem fbToWord_fbOfWord : fbToWord (w.extractLsb' 120 8) (fbOfWord w) = w := by
  simp (disch := omega) only [fbToWord, fbOfWord, extractLsb'_append_extractLsb'_eq_extractLsb', cast_extractLsb'_whole]

theorem fcToWord_fcOfWord : fcToWord (w.extractLsb' 120 8) (fcOfWord w) = w := by
  simp (disch := omega) only [fcToWord, fcOfWord, extractLsb'_append_extractLsb'_eq_extractLsb', cast_extractLsb'_whole]

theorem fdToWord_fdOfWord : fdToWord (w.extractLsb' 120 8) (fdOfWord w) = w := by
  simp (disch := omega) only [fdToWord, fdOfWord, extractLsb'_append_extractLsb'_eq_extractLsb', cast_extractLsb'_whole]

theorem feToWord_feOfWord : feToWord (w.extractLsb' 120 8) (feOfWord w) = w := by
  simp (disch := omega) only [feToWord, feOfWord, extractLsb'_append_extractLsb'_eq_extractLsb', cast_extractLsb'_whole]

theorem ffToWord_ffOfWord : ffToWord (w.extractLsb' 120 8) (ffOfWord w) = w := by
  simp (disch := omega) only [ffToWord, ffOfWord, extractLsb'_append_extractLsb'_eq_extractLsb', cast_extractLsb'_whole]

end

end Sys2Proof.Machine
end

section
/-! PROOF. A cell instruction's word and its command (R94 to R97). -/

namespace Sys2Proof.Machine

/-- What an opcode means with the operands that a word holds in each of the six formats. -/
def decodeFields (c : CellId) (pe : PortEv) (op : Nat) (fa : FA) (fb : FB) (fc : FC) (fd : FD) (fe : FE) (ff : FF) : Option Instr :=
  match op with
  | 0x00 => some (.nop c fa)
  | 0x01 => some (.halt c fa)
  | 0x02 => some (.trap c fb)
  | 0x03 => some (.fence c fa)
  | 0x04 => some (.sread c fb)
  | 0x05 => some (.swrite c fb)
  | 0x10 => some (.add c fa)
  | 0x11 => some (.sub c fa)
  | 0x12 => some (.mul c fa)
  | 0x13 => some (.mulhu c fa)
  | 0x14 => some (.and c fa)
  | 0x15 => some (.or c fa)
  | 0x16 => some (.xor c fa)
  | 0x17 => some (.shl c fa)
  | 0x18 => some (.shr c fa)
  | 0x19 => some (.sra c fa)
  | 0x1A => some (.min c fa)
  | 0x1B => some (.max c fa)
  | 0x1C => some (.slt c fa)
  | 0x1D => some (.sltu c fa)
  | 0x1E => some (.sel c fa)
  | 0x20 => some (.li c fb)
  | 0x21 => some (.addi c fb)
  | 0x22 => some (.ld c fb pe)
  | 0x23 => some (.st c fb pe)
  | 0x24 => some (.aadd c fa pe)
  | 0x25 => some (.acas c fa pe)
  | 0x30 => some (.br c fc)
  | 0x31 => some (.jmp c fc)
  | 0x32 => some (.jal c fc)
  | 0x33 => some (.jr c fc)
  | 0x34 => some (.bp c fc)
  | 0x40 => some (.mma c fd)
  | 0x41 => some (.accz c fd)
  | 0x42 => some (.accld c fd)
  | 0x43 => some (.accst c fd)
  | 0x44 => some (.dld c fb pe)
  | 0x45 => some (.dst c fb pe)
  | 0x46 => some (.dadd c fb)
  | 0x50 => some (.vadd c fa)
  | 0x51 => some (.vsub c fa)
  | 0x52 => some (.vmul c fa)
  | 0x53 => some (.vfma c fa)
  | 0x54 => some (.vmax c fa)
  | 0x55 => some (.vmin c fa)
  | 0x56 => some (.vabs c fa)
  | 0x57 => some (.vneg c fa)
  | 0x58 => some (.vexp2 c fa)
  | 0x59 => some (.vlog2 c fa)
  | 0x5A => some (.vrcp c fa)
  | 0x5B => some (.vrsqrt c fa)
  | 0x5C => some (.vredsum c fa)
  | 0x5D => some (.vredmax c fa)
  | 0x5E => some (.vcmp c fa)
  | 0x5F => some (.vsel c fa)
  | 0x60 => some (.vbcast c fa)
  | 0x61 => some (.vextr c fa)
  | 0x62 => some (.vld c fb pe)
  | 0x63 => some (.vst c fb pe)
  | 0x64 => some (.vrowr c fa)
  | 0x65 => some (.vroww c fa)
  | 0x66 => some (.vresc c fa)
  | 0x67 => some (.vsmax c fa)
  | 0x68 => some (.vpack c fa)
  | 0x69 => some (.vunpk c fa)
  | 0x6A => some (.pset c fa)
  | 0x6B => some (.pget c fa)
  | 0x70 => some (.move c fe pe)
  | 0x80 => some (.signal c fe)
  | 0x81 => some (.wait c fe)
  | 0x82 => some (.take c fe)
  | 0x83 => some (.give c fe)
  | 0x84 => some (.tread c fe)
  | 0x90 => some (.oproj c ff)
  | 0x91 => some (.wq c ff)
  | 0x92 => some (.est c ff)
  | 0x93 => some (.bound c ff)
  | _ => none

/-- The opcodes that R97's tables give to instructions. -/
def definedOpcodes : List Nat := [0x00, 0x01, 0x02, 0x03, 0x04, 0x05, 0x10, 0x11, 0x12, 0x13, 0x14, 0x15, 0x16, 0x17, 0x18, 0x19, 0x1A, 0x1B,
  0x1C, 0x1D, 0x1E, 0x20, 0x21, 0x22, 0x23, 0x24, 0x25, 0x30, 0x31, 0x32, 0x33, 0x34, 0x40, 0x41, 0x42, 0x43, 0x44, 0x45, 0x46, 0x50, 0x51,
  0x52, 0x53, 0x54, 0x55, 0x56, 0x57, 0x58, 0x59, 0x5A, 0x5B, 0x5C, 0x5D, 0x5E, 0x5F, 0x60, 0x61, 0x62, 0x63, 0x64, 0x65, 0x66, 0x67, 0x68,
  0x69, 0x6A, 0x6B, 0x70, 0x80, 0x81, 0x82, 0x83, 0x84, 0x90, 0x91, 0x92, 0x93]

theorem decodeCell_eq_fields (c : CellId) (pe : PortEv) (w : BitVec 128) : decodeCell c pe w = decodeFields c pe (w.extractLsb' 120 8).toNat
    (faOfWord w) (fbOfWord w) (fcOfWord w) (fdOfWord w) (feOfWord w) (ffOfWord w) := rfl

/-- The word that encodes an instruction decodes to it. -/
theorem decodeCell_of_encodeCell {i : Instr} {w : BitVec 128} {c : CellId} {pe : PortEv} (h : encodeCell i = some w)
    (hc : cellOf i = some (c, pe)) : decodeCell c pe w = some i := by
  unfold encodeCell at h
  rw [decodeCell_eq_fields]
  split at h
  all_goals cases h
  all_goals
    cases hc
    simp only [opcode_faToWord, opcode_fbToWord, opcode_fcToWord, opcode_fdToWord, opcode_feToWord, opcode_ffToWord,
      faOfWord_faToWord, fbOfWord_fbToWord, fcOfWord_fcToWord, fdOfWord_fdToWord, feOfWord_feToWord, ffOfWord_ffToWord]
    rfl

section
variable {c : CellId} {pe : PortEv} {op : Nat} {fa : FA} {fb : FB} {fc : FC} {fd : FD} {fe : FE} {ff : FF} {i : Instr}

theorem cellOf_decodeFields (h : decodeFields c pe op fa fb fc fd fe ff = some i) : cellOf i = some (c, pe) ∨ cellOf i = some (c, .clear) := by
  unfold decodeFields at h
  split at h
  all_goals cases h
  all_goals simp only [cellOf, true_or, or_true]

/-- What an opcode decodes to is encoded with that opcode, in one of the formats. -/
theorem encodeCell_decodeFields (h : decodeFields c pe op fa fb fc fd fe ff = some i) :
    encodeCell i ∈ [some (faToWord (BitVec.ofNat 8 op) fa), some (fbToWord (BitVec.ofNat 8 op) fb), some (fcToWord (BitVec.ofNat 8 op) fc),
      some (fdToWord (BitVec.ofNat 8 op) fd), some (feToWord (BitVec.ofNat 8 op) fe), some (ffToWord (BitVec.ofNat 8 op) ff)] := by
  unfold decodeFields at h
  split at h
  all_goals cases h
  all_goals simp only [encodeCell, List.mem_cons, BitVec.ofNat_eq_ofNat, true_or, or_true]

theorem all_decodeFields (c : CellId) (pe : PortEv) (fa : FA) (fb : FB) (fc : FC) (fd : FD) (fe : FE) (ff : FF) :
    definedOpcodes.all (fun op => (decodeFields c pe op fa fb fc fd fe ff).isSome) = true := rfl

theorem decodeFields_undefined (h : op ∉ definedOpcodes) : decodeFields c pe op fa fb fc fd fe ff = none := by
  unfold decodeFields
  split
  case h_78 => rfl
  all_goals exact absurd (by decide) h

/-- A word decodes to nothing where its opcode is none of R97's. -/
theorem decodeFields_eq_none : decodeFields c pe op fa fb fc fd fe ff = none ↔ op ∉ definedOpcodes := by
  refine ⟨fun h hop => ?_, decodeFields_undefined⟩
  have hsome := List.all_eq_true.mp (all_decodeFields c pe fa fb fc fd fe ff) op hop
  rw [h] at hsome
  exact Bool.false_ne_true hsome
end

theorem definedOpcodes_ranges : ∀ op < 256, op ∉ definedOpcodes ↔
    (0x06 ≤ op ∧ op ≤ 0x0F) ∨ op = 0x1F ∨ (0x26 ≤ op ∧ op ≤ 0x2F) ∨ (0x35 ≤ op ∧ op ≤ 0x3F) ∨ (0x47 ≤ op ∧ op ≤ 0x4F) ∨
      (0x6C ≤ op ∧ op ≤ 0x6F) ∨ (0x71 ≤ op ∧ op ≤ 0x7F) ∨ (0x85 ≤ op ∧ op ≤ 0x8F) ∨ 0x94 ≤ op := by decide +kernel

theorem encodeCell_of_decodeCell {c : CellId} {pe : PortEv} {w : BitVec 128} {i : Instr} (h : decodeCell c pe w = some i) :
    encodeCell i = some w := by
  have hi := encodeCell_decodeFields h
  rw [BitVec.ofNat_toNat, BitVec.setWidth_eq, faToWord_faOfWord, fbToWord_fbOfWord, fcToWord_fcOfWord, fdToWord_fdOfWord, feToWord_feOfWord,
    ffToWord_ffOfWord] at hi
  simpa using hi

/-- Settles O54: the fields of the word and the operands determine each other, opcode by opcode. -/
theorem cellWordsRoundTrip : Obligations.CellWordsRoundTrip :=
  ⟨fun _ _ _ _ => decodeCell_of_encodeCell, fun _ _ _ _ h => ⟨encodeCell_of_decodeCell h, cellOf_decodeFields h⟩,
    fun _ _ w => decodeFields_eq_none.trans (definedOpcodes_ranges _ (w.extractLsb' 120 8).isLt)⟩

end Sys2Proof.Machine
end

section
/-! PROOF. The scalar instructions of two operands (R100). -/

namespace Sys2Proof.Machine

/-- A scalar instruction of two operands on a cell that runs. -/
theorem State.alu_runs {s : State} {c : CellId} {f : FA} (hrun : s.runs c = true) (henc : scalarEnc f 2 false = true) (op : Nat)
    (g : Word64 → Word64 → Word64) :
    s.alu c f op g = s.ran c ((s.at c).setS f.rd.toNat (g ((s.at c).sr f.ra.toNat) ((s.at c).opB f))) := by
  rw [State.alu, State.exec1_runs _ _ _ _ hrun, enc, if_pos henc,
    State.issue_ran _ _ _ _ _ (by rw [Cell.setS_phase, s.runs_running c hrun])]

/-- A row that computes `g` with its two operands, where `g` comes to `h`. -/
theorem scalarRow_of_alu {row : CellId → FA → Instr} {op : Nat} {g h : Word64 → Word64 → Word64}
    (hrow : ∀ c f s, exec (row c f) s = .next (s.alu c f op g)) (hgh : ∀ a b, g a b = h a b) : ScalarRow row h := by
  intro c f s hrun henc
  rw [hrow, State.alu_runs hrun henc, hgh]

/-! ### The results over exact integers -/

section
variable {n : Nat} (a b : BitVec n)

theorem ofNat_toNat_add : BitVec.ofNat n (a.toNat + b.toNat) = a + b :=
  BitVec.eq_of_toNat_eq (by rw [BitVec.toNat_ofNat, BitVec.toNat_add])

theorem ofNat_toNat_mul : BitVec.ofNat n (a.toNat * b.toNat) = a * b :=
  BitVec.eq_of_toNat_eq (by rw [BitVec.toNat_ofNat, BitVec.toNat_mul])

theorem ofInt_toInt_sub : BitVec.ofInt n (a.toInt - b.toInt) = a - b :=
  BitVec.eq_of_toInt_eq (by rw [BitVec.toInt_ofInt, BitVec.toInt_sub])

theorem ofInt_toInt_mul : BitVec.ofInt n (a.toInt * b.toInt) = a * b :=
  BitVec.eq_of_toInt_eq (by rw [BitVec.toInt_ofInt, BitVec.toInt_mul])

theorem ofInt_min_toInt : BitVec.ofInt n (min a.toInt b.toInt) = if a.slt b then a else b := by
  simp only [min_def, BitVec.slt, decide_eq_true_eq]
  obtain h | h | h := lt_trichotomy a.toInt b.toInt
  · rw [if_pos h.le, if_pos h, BitVec.ofInt_toInt]
  · rw [if_pos h.le, if_neg h.not_lt, BitVec.ofInt_toInt, BitVec.eq_of_toInt_eq h]
  · rw [if_neg h.not_ge, if_neg h.not_gt, BitVec.ofInt_toInt]

theorem ofInt_max_toInt : BitVec.ofInt n (max a.toInt b.toInt) = if a.slt b then b else a := by
  simp only [max_def, BitVec.slt, decide_eq_true_eq]
  obtain h | h | h := lt_trichotomy a.toInt b.toInt
  · rw [if_pos h.le, if_pos h, BitVec.ofInt_toInt]
  · rw [if_pos h.le, if_neg h.not_lt, BitVec.ofInt_toInt, BitVec.eq_of_toInt_eq h]
  · rw [if_neg h.not_ge, if_neg h.not_gt, BitVec.ofInt_toInt]

theorem ofNat_toNat_shiftLeft (k : Nat) : BitVec.ofNat n (a.toNat * 2 ^ k) = a <<< k :=
  BitVec.eq_of_toNat_eq (by rw [BitVec.toNat_ofNat, BitVec.toNat_shiftLeft, Nat.shiftLeft_eq])

theorem ofNat_toNat_ushiftRight (k : Nat) : BitVec.ofNat n (a.toNat / 2 ^ k) = a >>> k :=
  BitVec.eq_of_toNat_eq (by
    rw [BitVec.toNat_ofNat, BitVec.toNat_ushiftRight, Nat.shiftRight_eq_div_pow, Nat.mod_eq_of_lt ((Nat.div_le_self _ _).trans_lt a.isLt)])

theorem ofInt_toInt_sshiftRight (k : Nat) : BitVec.ofInt n (a.toInt / 2 ^ k) = a.sshiftRight k := by
  rw [← BitVec.ofInt_toInt (x := a.sshiftRight k), BitVec.toInt_sshiftRight, Int.shiftRight_eq_div_pow]
  norm_cast

end

/-- Settles O1: each row is the one scalar instruction of two operands, with its own result. -/
theorem scalarArithmeticResults : Obligations.ScalarArithmeticResults := by
  refine ⟨?add, ?sub, ?mul, ?mulhu, ?and, ?or, ?xor, ?shl, ?shr, ?sra, ?min, ?max, ?slt, ?sltu⟩
  case add => exact scalarRow_of_alu (fun _ _ _ => rfl) fun a b => (ofNat_toNat_add a b).symm
  case sub => exact scalarRow_of_alu (fun _ _ _ => rfl) fun a b => (ofInt_toInt_sub a b).symm
  case mul => exact scalarRow_of_alu (fun _ _ _ => rfl) fun a b => (ofInt_toInt_mul a b).symm
  case mulhu => exact scalarRow_of_alu (fun _ _ _ => rfl) fun _ _ => rfl
  case and => exact scalarRow_of_alu (fun _ _ _ => rfl) fun _ _ => rfl
  case or => exact scalarRow_of_alu (fun _ _ _ => rfl) fun _ _ => rfl
  case xor => exact scalarRow_of_alu (fun _ _ _ => rfl) fun _ _ => rfl
  case shl => exact scalarRow_of_alu (fun _ _ _ => rfl) fun a b => (ofNat_toNat_shiftLeft a _).symm
  case shr => exact scalarRow_of_alu (fun _ _ _ => rfl) fun a b => (ofNat_toNat_ushiftRight a _).symm
  case sra => exact scalarRow_of_alu (fun _ _ _ => rfl) fun a b => (ofInt_toInt_sshiftRight a _).symm
  case min => exact scalarRow_of_alu (fun _ _ _ => rfl) fun a b => (ofInt_min_toInt a b).symm
  case max => exact scalarRow_of_alu (fun _ _ _ => rfl) fun a b => (ofInt_max_toInt a b).symm
  case slt => exact scalarRow_of_alu (fun _ _ _ => rfl) fun a b => by simp only [bool64, BitVec.slt, decide_eq_true_eq]
  case sltu => exact scalarRow_of_alu (fun _ _ _ => rfl) fun a b => by simp only [bool64, BitVec.ult, decide_eq_true_eq]

end Sys2Proof.Machine
end

section
/-! PROOF. The verdict of an instruction with a legal encoding on a cell that runs. -/

namespace Sys2Proof.Machine

variable {s : State} {c : CellId}

/-- An instruction with a legal encoding on a cell that runs comes to its verdict. -/
theorem exec_of_enc {i : Instr} {op : Nat} {ok : Bool} {k : Cell → Issue}
    (hrow : exec i s = .next (s.exec1 (cellIdx c) op fun x => enc s op ok (k x))) (hrun : s.runs c = true) (hok : ok = true) :
    exec i s = .next (s.issue (cellIdx c) op (k (s.at c))) := by
  rw [hrow, State.exec1_runs _ _ _ _ hrun, enc, if_pos hok]

/-- An instruction that leaves the device as it is moves on. -/
theorem State.issue_unchanged (s : State) (c : CellId) (op : Nat) : s.issue (cellIdx c) op (.ok s) = s.ran c (s.at c) := rfl

/-- An instruction that writes a scalar register alone moves on. -/
theorem State.issue_setS (hrun : s.runs c = true) (op r : Nat) (v : Word64) :
    s.issue (cellIdx c) op (.ok (s.setCell (cellIdx c) ((s.at c).setS r v))) = s.ran c ((s.at c).setS r v) :=
  s.issue_ran c op s _ (by rw [Cell.setS_phase, s.runs_running c hrun])

end Sys2Proof.Machine
end

section
/-! PROOF. The system instructions, SEL, LI and ADDI (R98 to R100). -/

namespace Sys2Proof.Machine

variable {s : State} {c : CellId}

/-- The fields of FAULT (R99). -/
theorem faultWord_fields (pc : Nat) {code op : Nat} (hcode : code < 256) (hop : op < 256) :
    (faultWord pc code op).toNat % 2 ^ 46 = pc % 2 ^ 46 ∧ (faultWord pc code op).toNat / 2 ^ 48 % 256 = code ∧
      (faultWord pc code op).toNat / 2 ^ 56 = op := by
  rw [faultWord, BitVec.toNat_ofNat]
  omega

/-- What a trap leaves of the cell and the device (R132, R133). -/
theorem State.trap_spec (s : State) (ci op code d : Nat) (addr : Option Nat) :
    let t := (s.cellExc ci code addr d).trapCell ci code op
    (t.cell ci).phase = .trapped code ∧ (t.cell ci).pc = (s.cell ci).pc ∧ (t.cell ci).fault = faultWord (s.cell ci).pc code op ∧
      (t.cell ci).status = (s.cell ci).status ||| BitVec.ofNat 64 (2 ^ code) ∧ (t.cell ci).s = (s.cell ci).s ∧ t.mem = s.mem ∧
      t.reaches = s.reaches ∧ t.regs = s.regs ∧ ∀ i, i ≠ ci → t.cell i = s.cell i := by
  refine ⟨?_, ?_, ?_, ?_, ?_, by simp, by simp, by simp, fun i hi => s.cell_trap_ne ci op code addr d i hi⟩
  all_goals rw [s.cell_trap ci op code addr d]
  all_goals rfl

theorem exec_trap {f : FB} (hrun : s.runs c = true) (hm : f.mods = 0) (hz : fbClean f false false true = true) (hi : f.imm64.toNat < 65536) :
    exec (.trap c f) s = .next ((s.cellExc (cellIdx c) 10 none (0x02 + f.imm64.toNat * 65536)).trapCell (cellIdx c) 10 0x02) := by
  refine (exec_of_enc rfl hrun (by simp [hm, hz, hi])).trans ?_
  rw [State.issue_trap _ _ _ _ _ _ _ _ _ (.inl rfl)]

theorem exec_fence {f : FA} (hrun : s.runs c = true) (hm : f.mods.toNat < 2) (hz : faClean f false false false false false = true) :
    exec (.fence c f) s = .next (
      if (s.at c).tq = [] ∧ (f.mods = 1 ∨ (s.at c).ops = []) then s.ran c (s.at c)
      else s.setCell (cellIdx c) { s.at c with block := some (.fence (decide (f.mods = 1))) }) := by
  refine (exec_of_enc rfl hrun (by simp [hm, hz])).trans ?_
  rw [mbit_zero hm]
  simp only [Bool.and_eq_true, Bool.or_eq_true, decide_eq_true_eq]
  split <;> rfl

/-! ### The special registers (R99) -/

theorem exec_sread {f : FB} {i : Nat} (hrun : s.runs c = true) (hm : f.mods = 0) (hz : fbClean f true false true = true) (hi : f.imm64.toNat = i)
    (h7 : i ≤ 7) (h0 : i ≠ 0) (h3 : i = 3 → (s.at c).tq = []) :
    exec (.sread c f) s = .next (s.ran c ((s.at c).setS f.rd.toNat (s.special (cellIdx c) (s.at c) i))) := by
  refine (exec_of_enc rfl hrun (by simp [hm, hz, hi, h7])).trans ?_
  rw [hi, if_neg (by simpa using h3)]
  simp only [if_neg h0, State.issue_setS hrun]

theorem exec_sread_cycle {f : FB} (hrun : s.runs c = true) (hm : f.mods = 0) (hz : fbClean f true false true = true) (hi : f.imm64.toNat = 0) :
    exec (.sread c f) s =
      .next ((s.takeFree 1).ran c (({ s.at c with cycle := s.cycleNow (s.at c) } : Cell).setS f.rd.toNat (s.cycleNow (s.at c)))) := by
  refine (exec_of_enc rfl hrun (by simp [hm, hz, hi])).trans ?_
  rw [hi, if_neg (by simp)]
  simp only [if_true, State.special]
  rw [State.issue_ran _ _ _ _ _ (by rw [Cell.setS_phase]; exact s.runs_running c hrun)]

theorem State.cycleNow_ge (s : State) (x : Cell) : x.cycle.toNat ≤ (s.cycleNow x).toNat := by
  have := x.cycle.isLt
  rw [State.cycleNow, BitVec.toNat_ofNat]
  omega

theorem State.devId_lt (s : State) : s.devId < 2 ^ 18 := Nat.mod_lt _ (by decide)

theorem selfWord_fields (s : State) (c : CellId) :
    (s.selfWord (cellIdx c)).toNat % 2 ^ 32 = c.die.val * 2 ^ 24 + c.cluster.val * 2 ^ 20 + c.cell.val * 2 ^ 16 ∧
      (s.selfWord (cellIdx c)).toNat / 2 ^ 32 = if s.rb Reg.KEY_DEV_ID 31 then s.rf Reg.KEY_DEV_ID 0 18 else 0 := by
  have hid := s.devId_lt
  have hd := c.die.isLt
  have hcl := c.cluster.isLt
  have hc := c.cell.isLt
  change _ ∧ _ = if s.idValid then s.devId else 0
  rw [State.selfWord, cellRid, cellIdx, BitVec.toNat_ofNat]
  split <;> omega

@[simp] theorem Cell.setSpecial_phase (x : Cell) (i : Nat) (v : Word64) : (x.setSpecial i v).phase = x.phase := by
  unfold Cell.setSpecial; split <;> rfl

section
variable (x : Cell) (v : Word64)
theorem Cell.setSpecial_status : x.setSpecial 1 v = { x with status := x.status &&& ~~~ v } := rfl
theorem Cell.setSpecial_emask : x.setSpecial 2 v = { x with emask := emaskOf v } := rfl
theorem Cell.setSpecial_seed : x.setSpecial 3 v = { x with seed := some v } := rfl
theorem Cell.setSpecial_tepoch : x.setSpecial 4 v = { x with tepoch := v &&& 0xFFFF } := rfl
end

theorem exec_swrite {f : FB} {i : Nat} (hrun : s.runs c = true) (hm : f.mods = 0) (hz : fbClean f false true true = true) (hi : f.imm64.toNat = i)
    (h7 : i ≤ 7) (h3 : i = 3 → (s.at c).tq = []) :
    exec (.swrite c f) s = .next (s.ran c ((s.at c).setSpecial i ((s.at c).sr f.ra.toNat))) := by
  refine (exec_of_enc rfl hrun (by simp [hm, hz, hi, h7])).trans ?_
  rw [hi, if_neg (by simpa using h3), State.issue_ran _ _ _ _ _ (by rw [Cell.setSpecial_phase, s.runs_running c hrun])]

theorem getElem_emaskOf (v : Word64) (i : Fin 64) : (emaskOf v)[i] =
    if i.val = 10 ∨ i.val = 11 then true else if i.val = 0 ∨ i.val = 9 then false else v[i] := by
  have hset : ∀ i : Fin 64, (0xC00 : Word64)[i] = decide (i.val = 10 ∨ i.val = 11) := by decide
  have hclear : ∀ i : Fin 64, (0x201 : Word64)[i] = decide (i.val = 0 ∨ i.val = 9) := by decide
  have h := hset i
  have h' := hclear i
  simp only [Fin.getElem_fin] at h h' ⊢
  rw [emaskOf, BitVec.getElem_and, BitVec.getElem_or, BitVec.getElem_not, h, h']
  by_cases hs : i.val = 10 ∨ i.val = 11
  · have hc : ¬ (i.val = 0 ∨ i.val = 9) := by omega
    simp only [hs, hc]
    simp
  · by_cases hc : i.val = 0 ∨ i.val = 9 <;> simp only [hs, hc] <;> simp

theorem and_0xFFFF (v : Word64) : v &&& 0xFFFF = BitVec.ofNat 64 (v.toNat % 65536) := by
  apply BitVec.eq_of_toNat_eq
  have hv := Nat.and_two_pow_sub_one_eq_mod v.toNat 16
  rw [BitVec.toNat_and, BitVec.toNat_ofNat, Nat.mod_eq_of_lt (by omega)]
  exact hv

/-- A write of a read-only special register is ignored. -/
theorem Cell.setSpecial_readOnly {x : Cell} {i : Nat} {v : Word64} (hi : i = 0 ∨ 5 ≤ i) : x.setSpecial i v = x := by
  obtain rfl | hi := hi
  · rfl
  · obtain ⟨k, rfl⟩ := Nat.exists_eq_add_of_le' hi
    rfl

/-- Settles O2: each row comes to its verdict, and a trap leaves what every trap leaves. -/
theorem systemInstructionResults : Obligations.SystemInstructionResults := by
  refine ⟨fun c f s hrun hm hz => ?nop, fun c f s hrun hm hz => ?halt, fun c f s hrun hm hz hi => ?trap,
    fun c f s hrun hm hz => exec_fence hrun hm hz, fun c f s hrun hm hz => ?sread, fun c f s hrun hm hz => ?swrite,
    fun c f s hrun hz => ?sel, fun c f s hrun hm hz => ?li, fun c f s hrun hm hz => ?addi⟩
  case nop => exact (exec_of_enc rfl hrun (by simp [hm, hz])).trans rfl
  case halt => exact (exec_of_enc rfl hrun (by simp [hm, hz])).trans rfl
  case trap =>
    obtain ⟨hphase, hpc, hfault, hstatus, hs, hmem, hreaches, hregs, hcells⟩ :=
      s.trap_spec (cellIdx c) 0x02 10 (0x02 + f.imm64.toNat * 65536) none
    obtain ⟨hlow, hcode, hop⟩ := faultWord_fields (s.at c).pc (code := 10) (op := 0x02) (by decide) (by decide)
    refine ⟨_, exec_trap hrun hm hz hi, hphase, hpc, ?_, ?_, ?_, hstatus, hs, hmem, hreaches, hregs, hcells⟩
    · exact (congrArg (fun w => BitVec.toNat w % 2 ^ 46) hfault).trans hlow
    · exact (congrArg (fun w => BitVec.toNat w / 2 ^ 48 % 256) hfault).trans hcode
    · exact (congrArg (fun w => BitVec.toNat w / 2 ^ 56) hfault).trans hop
  case sread =>
    refine ⟨fun hi => ?_, fun hi => ?_, fun hi htq => ?_, fun hi => ?_, fun hi => ?_, fun hi => ⟨_, ?_, selfWord_fields s c⟩, fun hi => ?_,
      fun hi => ⟨_, _, exec_sread_cycle hrun hm hz hi, s.cycleNow_ge _, ?_, rfl, rfl, rfl⟩⟩
    case refine_8 => rw [State.at_ran, Cell.setS_pc]
    case refine_3 => simp only [exec_sread hrun hm hz hi (by decide) (by decide) fun _ => htq, State.special]
    all_goals simp only [exec_sread hrun hm hz hi (by decide) (by decide) fun h => absurd h (by decide), State.special]
  case swrite =>
    refine ⟨fun hi => ?_, fun hi => ⟨_, ?_, getElem_emaskOf _⟩, fun hi htq => ?_, fun hi => ?_, fun hi => ?_⟩
    case refine_1 => rw [exec_swrite hrun hm hz hi (by decide) fun h => absurd h (by decide), Cell.setSpecial_status]
    case refine_2 => rw [exec_swrite hrun hm hz hi (by decide) fun h => absurd h (by decide), Cell.setSpecial_emask]
    case refine_3 => rw [exec_swrite hrun hm hz hi (by decide) fun _ => htq, Cell.setSpecial_seed]
    case refine_4 => rw [exec_swrite hrun hm hz hi (by decide) fun h => absurd h (by decide), Cell.setSpecial_tepoch, and_0xFFFF]
    case refine_5 => rw [exec_swrite hrun hm hz rfl (by omega) (by omega), Cell.setSpecial_readOnly (by omega)]
  case sel =>
    refine (exec_of_enc rfl hrun hz).trans ?_
    rw [State.issue_setS hrun]
    simp only [ne_eq, ite_not]
  case li => exact (exec_of_enc rfl hrun (by simp [hm, hz])).trans (congrArg _ (State.issue_setS hrun ..))
  case addi =>
    rw [ofNat_toNat_add]
    exact (exec_of_enc rfl hrun (by simp [hm, hz])).trans (congrArg _ (State.issue_setS hrun ..))

end Sys2Proof.Machine
end

section
/-! PROOF. Exceptions of synchronous instructions that trap: ILLEGAL_OP and ADDRESS_FAULT (R130 to R133). -/

namespace Sys2Proof.Machine

variable {s : State} {c : CellId}

theorem Cell.traps_of_emask {x : Cell} {code : Nat} (hc : code < 64) (h : x.emask[code] = true) : x.traps code = true := by
  rwa [Cell.traps, BitVec.getLsbD_eq_getElem hc]

theorem State.issue_illegal (h : (s.at c).emask[10] = true) (op : Nat) :
    s.issue (cellIdx c) op (illegal s op) = (s.cellExc (cellIdx c) 10 none op).trapCell (cellIdx c) 10 op :=
  s.issue_trap _ _ _ _ _ _ _ _ (.inr (Cell.traps_of_emask (by decide) h))

theorem State.issue_addrFault (h : (s.at c).emask[11] = true) (op da : Nat) :
    s.issue (cellIdx c) op (addrFault s op da) = (s.cellExc (cellIdx c) 11 (some da) op).trapCell (cellIdx c) 11 op :=
  s.issue_trap _ _ _ _ _ _ _ _ (.inr (Cell.traps_of_emask (by decide) h))

end Sys2Proof.Machine
end

section
/-! PROOF. The branches (R103). -/

namespace Sys2Proof.Machine

variable {s : State} {c : CellId} {f : FC}

/-- A branch on a condition that is not reserved. -/
theorem State.issue_branchIf (s : State) (c : CellId) (offset : BitVec 32) (op : Nat) (b : Bool) :
    s.issue (cellIdx c) op (branchIf s (s.at c) offset op (some b)) = BranchTo s c (s.at c) offset b := by
  cases b <;> rfl

theorem exec_br (hrun : s.runs c = true) (hz : fcClean f true true true = true) : exec (.br c f) s = .next (s.issue (cellIdx c) 0x30
    (branchIf s (s.at c) f.offset 0x30 (brCond f.mods.toNat ((s.at c).sr f.ra.toNat) ((s.at c).sr f.rb.toNat)))) :=
  (exec_of_enc rfl hrun hz).trans rfl

theorem exec_bp (hrun : s.runs c = true) (hz : fcClean f true false true = true) (hp : f.ra.toNat < 8) :
    exec (.bp c f) s = .next (s.issue (cellIdx c) 0x34
      (branchIf s (s.at c) f.offset 0x34 (bpCond f.mods.toNat ((s.at c).pr f.ra.toNat)))) :=
  (exec_of_enc rfl hrun (by simp [hz, hp])).trans rfl

/-- What a branch with a reserved condition leaves. -/
theorem branch_reserved {i : Instr} {op : Nat} {offset : BitVec 32} (h : (s.at c).emask[10] = true)
    (hexec : exec i s = .next (s.issue (cellIdx c) op (branchIf s (s.at c) offset op none))) :
    ∃ t, exec i s = .next t ∧ (t.at c).phase = .trapped 10 ∧ (t.at c).pc = (s.at c).pc ∧ (t.at c).s = (s.at c).s := by
  obtain ⟨hphase, hpc, -, -, hs, -⟩ := s.trap_spec (cellIdx c) op 10 op none
  exact ⟨_, hexec.trans (congrArg _ (State.issue_illegal h op)), hphase, hpc, hs⟩

theorem brCond_reserved {m : Nat} (h : 6 ≤ m) (a b : Word64) : brCond m a b = none := by
  obtain ⟨k, rfl⟩ := Nat.exists_eq_add_of_le' h
  rfl

theorem bpCond_reserved {m : Nat} (h : 3 ≤ m) (p : Word64) : bpCond m p = none := by
  obtain ⟨k, rfl⟩ := Nat.exists_eq_add_of_le' h
  rfl

/-- The conditions of BR over exact integers. -/
theorem brCond_eq {m : Nat} {a b : Word64} {taken : Bool} (h : (m = 0 ∧ taken = decide (a = b)) ∨ (m = 1 ∧ taken = decide (a ≠ b)) ∨
    (m = 2 ∧ taken = decide (a.toInt < b.toInt)) ∨ (m = 3 ∧ taken = decide (b.toInt ≤ a.toInt)) ∨
    (m = 4 ∧ taken = decide (a.toNat < b.toNat)) ∨ (m = 5 ∧ taken = decide (b.toNat ≤ a.toNat))) : brCond m a b = some taken := by
  obtain ⟨rfl, rfl⟩ | ⟨rfl, rfl⟩ | ⟨rfl, rfl⟩ | ⟨rfl, rfl⟩ | ⟨rfl, rfl⟩ | ⟨rfl, rfl⟩ := h
  · rfl
  · simp [brCond, bne, beq_eq_decide]
  · rfl
  · simp [brCond, BitVec.slt, ← decide_not]
  · rfl
  · simp [brCond, BitVec.ult, ← decide_not]

theorem eq_zero_iff_getElem (p : Word64) : p = 0 ↔ ∀ i : Fin 64, p[i] = false := by
  refine ⟨by rintro rfl i; simp, fun h => BitVec.eq_of_getElem_eq fun i hi => ?_⟩
  simpa using h ⟨i, hi⟩

theorem eq_allOnes_iff_getElem (p : Word64) : p = BitVec.allOnes 64 ↔ ∀ i : Fin 64, p[i] = true := by
  refine ⟨by rintro rfl i; exact BitVec.getElem_allOnes _ i.isLt, fun h => BitVec.eq_of_getElem_eq fun i hi => ?_⟩
  rw [BitVec.getElem_allOnes]
  exact h ⟨i, hi⟩

theorem bpCond_any (p : Word64) : bpCond 0 p = some (decide (∃ i : Fin 64, p[i] = true)) := by
  have h : p ≠ 0 ↔ ∃ i : Fin 64, p[i] = true := by rw [ne_eq, eq_zero_iff_getElem]; simp
  simp only [bpCond, bne, beq_eq_decide, ← decide_not, Option.some.injEq, decide_eq_decide]
  exact h

theorem bpCond_all (p : Word64) : bpCond 1 p = some (decide (∀ i : Fin 64, p[i] = true)) := by
  simp only [bpCond, beq_eq_decide, eq_allOnes_iff_getElem]

theorem bpCond_none (p : Word64) : bpCond 2 p = some (decide (∀ i : Fin 64, p[i] = false)) := by
  simp only [bpCond, beq_eq_decide, eq_zero_iff_getElem]

/-- Settles O3: each row jumps or moves on by its condition, and a reserved condition or a misaligned target traps. -/
theorem branchTargets : Obligations.BranchTargets := by
  refine ⟨fun c f s hrun hz => ⟨fun b hb => ?br, fun hm h => ?brReserved⟩, fun c f s hrun hm hz => ?jmp, fun c f s hrun hm hz => ?jal,
    fun c f s hrun hm hz => ⟨fun ha => ?jr, fun ha h => ?jrMisaligned⟩,
    fun c f s hrun hz hp => ⟨fun hm => ?any, fun hm => ?all, fun hm => ?none, fun hm h => ?bpReserved⟩⟩
  case br => rw [exec_br hrun hz, brCond_eq hb, State.issue_branchIf]
  case brReserved =>
    have hexec := exec_br hrun hz
    rw [brCond_reserved hm] at hexec
    exact branch_reserved h hexec
  case jmp => exact (exec_of_enc rfl hrun (by simp [hm, hz])).trans rfl
  case jal =>
    refine (exec_of_enc rfl hrun (by simp [hm, hz])).trans ?_
    rw [State.issue_jumped _ _ _ _ _ _ (by rw [Cell.setS_phase, s.runs_running c hrun])]
    rfl
  case jr =>
    refine (exec_of_enc rfl hrun (by simp [hm, hz])).trans ?_
    rw [if_neg (by simpa using ha)]
    rfl
  case jrMisaligned =>
    obtain ⟨hphase, hpc, -, -, hs, -⟩ := s.trap_spec (cellIdx c) 0x33 11 0x33 (some ((s.at c).sr f.ra.toNat).toNat)
    refine ⟨_, (exec_of_enc rfl hrun (by simp [hm, hz])).trans ?_, hphase, hpc, hs⟩
    rw [if_pos ha, State.issue_addrFault h]
  case any => rw [exec_bp hrun hz hp, hm, bpCond_any, State.issue_branchIf]
  case all => rw [exec_bp hrun hz hp, hm, bpCond_all, State.issue_branchIf]
  case none => rw [exec_bp hrun hz hp, hm, bpCond_none, State.issue_branchIf]
  case bpReserved =>
    have hexec := exec_bp hrun hz hp
    rw [bpCond_reserved hm] at hexec
    exact branch_reserved h hexec

end Sys2Proof.Machine
end

section
/-! PROOF. The vector registers of a cell and what a guarded write leaves of them (R90, R110, R113), and the issue of a vector instruction. -/

namespace Sys2Proof.Machine

variable {s : State} {c : CellId} {x : Cell} {g : Option Nat} {r : Nat} {new : List Word} {p : Bool}

/-! ### Lanes -/

@[simp] theorem Cell.length_vec (x : Cell) (r : Nat) : (x.vec r).length = 64 := by simp [Cell.vec]

@[simp] theorem Cell.length_pick (x : Cell) (g : Option Nat) (new old : List Word) : (x.pick g new old).length = 64 := by simp [Cell.pick]

theorem getD_map_range {α : Type} (h : Nat → α) (d : α) {n i : Nat} (hi : i < n) : ((List.range n).map h).getD i d = h i := by
  simp [List.getD_eq_getElem?_getD, hi]

theorem Cell.getD_pick (x : Cell) (g : Option Nat) (new old : List Word) {i : Nat} (hi : i < 64) :
    (x.pick g new old).getD i 0 = if x.laneOn g i then new.getD i 0 else old.getD i 0 := getD_map_range _ _ hi

theorem getD_map {α β : Type} (h : α → β) (l : List α) (a : α) (b : β) {i : Nat} (hi : i < l.length) : (l.map h).getD i b = h (l.getD i a) := by
  simp [List.getD_eq_getElem?_getD, hi]

theorem getD_zipWith {α β γ : Type} (h : α → β → γ) (l : List α) (k : List β) (a : α) (b : β) (d : γ) {i : Nat} (hl : i < l.length)
    (hk : i < k.length) : (List.zipWith h l k).getD i d = h (l.getD i a) (k.getD i b) := by
  simp [List.getD_eq_getElem?_getD, hl, hk]

/-! ### A guarded write -/

theorem Cell.vpois_setVec (x : Cell) (r q : Nat) (xs : List Word) (p : Bool) : (x.setVec r xs p).vpois q = if q = r then p else x.vpois q :=
  tget_tset ..

theorem Cell.vec_blend (x : Cell) (g : Option Nat) (r : Nat) (new : List Word) (p : Bool) :
    (x.blend g r new p).vec r = x.pick g new (x.vec r) := x.vec_setVec _ _ _ (by simp)

theorem Cell.vec_blend_ne {q : Nat} (h : q ≠ r) : (x.blend g r new p).vec q = x.vec q := x.vec_setVec_ne _ _ _ _ h

theorem Cell.lane_blend {i : Nat} (hi : i < 64) :
    (x.blend g r new p).lane r i = if x.laneOn g i then new.getD i 0 else x.lane r i := by
  rw [Cell.lane, Cell.vec_blend, Cell.getD_pick _ _ _ _ hi, Cell.lane]

theorem Cell.vpois_blend : (x.blend g r new p).vpois r = (p || (g.isSome && x.vpois r)) := (x.vpois_setVec ..).trans (if_pos rfl)

theorem Cell.vpois_blend_ne {q : Nat} (h : q ≠ r) : (x.blend g r new p).vpois q = x.vpois q := (x.vpois_setVec ..).trans (if_neg h)

theorem Cell.blend_rest (x : Cell) (g : Option Nat) (r : Nat) (new : List Word) (p : Bool) :
    x.blend g r new p = { x with v := (x.blend g r new p).v, vp := (x.blend g r new p).vp } := rfl

/-! ### Issue -/

/-- A vector instruction with legal fields and modifiers on a cell that runs comes to its verdict. -/
theorem exec_of_vissue {i : Instr} {op : Nat} {mods : BitVec 8} {m : VMod} {ok fp : Bool} {k : Cell → VMod → Issue}
    (hrow : exec i s = .next (s.vissue c op mods ok fp k)) (hrun : s.runs c = true) (hm : vmod mods = some m)
    (hok : (ok && !(fp && m.lt != 0)) = true) : exec i s = .next (s.issue (cellIdx c) op (k (s.at c) m)) := by
  rw [hrow, State.vissue, State.exec1_runs _ _ _ _ hrun]
  simp only [hm, enc, hok, if_true]

/-- An instruction that writes one v register under its guard, with lane `i` of what it computes being `lane i`. -/
theorem vecResult_of_blend {i : Instr} {op : Nat} {lane : Nat → Word} (hrun : s.runs c = true)
    (hexec : exec i s = .next (s.issue (cellIdx c) op (.ok (s.setCell (cellIdx c) ((s.at c).blend g r new p)))))
    (hlane : ∀ i < 64, new.getD i 0 = lane i) : VecResult s c i g r lane p := by
  refine ⟨(s.at c).blend g r new p, ?_, Cell.blend_rest .., fun i hi => ?_, Cell.vpois_blend, fun q hq => ⟨Cell.vec_blend_ne hq, Cell.vpois_blend_ne hq⟩⟩
  · rw [hexec, State.issue_ran _ _ _ _ _ (by exact s.runs_running c hrun)]
  · rw [← hlane i hi]
    exact Cell.lane_blend hi

/-- A lanewise row of two sources. -/
theorem vecRow2_of_vbin {row : CellId → FA → Instr} {op : Nat} {f : Nat → Word → Word → Word} {h : Nat → Word → Word → Word}
    (hrow : ∀ c f' s, exec (row c f') s = .next (s.vbin c f' op f)) (hfh : ∀ t a b, f t a b = h t a b) : VecRow2 row h := by
  intro c f' s m hrun hm hz
  refine vecResult_of_blend hrun (exec_of_vissue (hrow c f' s) hrun hm (by simp [hz])) fun i hi => ?_
  rw [getD_zipWith _ _ _ 0 0 _ (by simpa using hi) (by simpa using hi), hfh]
  rfl

/-- A lanewise row of one source. -/
theorem vecRow1_of_vun {row : CellId → FA → Instr} {op : Nat} {fp : Bool} {f : Nat → Word → Word} {h : Nat → Word → Word}
    (hrow : ∀ c f' s, exec (row c f') s = .next (s.vun c f' op fp f)) (hfh : ∀ t a, f t a = h t a) : VecRow1 row fp h := by
  intro c f' s m hrun hm hfp hz
  have hok : (faClean f' true true false false false && !(fp && m.lt != 0)) = true := by cases fp <;> simp_all
  refine vecResult_of_blend hrun (exec_of_vissue (hrow c f' s) hrun hm hok) fun i hi => ?_
  rw [getD_map _ _ 0 _ (by simpa using hi), hfh]
  rfl

end Sys2Proof.Machine
end

section
/-! PROOF. What the vector arithmetic does on a lane (R110, R154, R158). -/

namespace Sys2Proof.Machine

/-- The exponent field of an FP32 word. -/
theorem and_exponent_eq_zero (w : Word) : w &&& 0x7F800000 = 0 ↔ w.toNat / 2 ^ 23 % 256 = 0 := by
  have hmask : (0x7F800000 : Word).toNat = (2 ^ 8 - 1) <<< 23 := by decide
  have hfield : (w &&& 0x7F800000).toNat = w.toNat / 2 ^ 23 % 2 ^ 8 * 2 ^ 23 := by
    rw [BitVec.toNat_and, hmask]
    apply Nat.eq_of_testBit_eq
    intro i
    simp only [Nat.testBit_and, Nat.testBit_shiftLeft, Nat.testBit_two_pow_sub_one, Nat.testBit_mul_two_pow, Nat.testBit_mod_two_pow,
      Nat.testBit_div_two_pow]
    by_cases h : 23 ≤ i
    · simp [h, Bool.and_comm]
    · simp [h]
  constructor
  · intro h
    have h0 := congrArg BitVec.toNat h
    rw [hfield] at h0
    have : (0 : Word).toNat = 0 := rfl
    omega
  · intro h
    apply BitVec.eq_of_toNat_eq
    rw [hfield, show w.toNat / 2 ^ 23 % 2 ^ 8 = 0 from h]
    rfl

theorem flush32_eq (w : Word) : flush32 w = if w.toNat / 2 ^ 23 % 256 = 0 then w &&& 0x80000000 else w := by
  simp only [flush32, and_exponent_eq_zero]

section
variable (t : Nat) (a b : Word)

theorem laneAdd_eq : laneAdd t a b = if t = 0 then to32 ((of32f a).add (of32f b)) else BitVec.ofNat 32 (a.toNat + b.toNat) := by
  rw [ofNat_toNat_add, laneAdd]

theorem laneSub_eq : laneSub t a b = if t = 0 then to32 ((of32f a).add (of32f b).neg) else BitVec.ofInt 32 (a.toInt - b.toInt) := by
  rw [ofInt_toInt_sub, laneSub]

theorem laneMul_eq : laneMul t a b = if t = 0 then to32 ((of32f a).mul (of32f b)) else BitVec.ofNat 32 (a.toNat * b.toNat) := by
  rw [ofNat_toNat_mul, laneMul]

theorem laneFma_eq (d : Word) : laneFma t a b d =
    if t = 0 then to32 (((of32f a).mul (of32f b)).add (of32f d)) else BitVec.ofNat 32 (a.toNat * b.toNat + d.toNat) := by
  rw [laneFma, BitVec.ofNat_add, ofNat_toNat_mul, BitVec.ofNat_toNat, BitVec.setWidth_eq]

theorem ofNat_max_toNat : BitVec.ofNat 32 (max a.toNat b.toNat) = if a.ult b then b else a := by
  simp only [max_def, BitVec.ult, decide_eq_true_eq]
  obtain h | h | h := lt_trichotomy a.toNat b.toNat
  · rw [if_pos h.le, if_pos h, BitVec.ofNat_toNat, BitVec.setWidth_eq]
  · rw [if_pos h.le, if_neg h.not_lt, BitVec.ofNat_toNat, BitVec.setWidth_eq, BitVec.eq_of_toNat_eq h]
  · rw [if_neg h.not_ge, if_neg h.not_gt, BitVec.ofNat_toNat, BitVec.setWidth_eq]

theorem ofNat_min_toNat : BitVec.ofNat 32 (min a.toNat b.toNat) = if a.ult b then a else b := by
  simp only [min_def, BitVec.ult, decide_eq_true_eq]
  obtain h | h | h := lt_trichotomy a.toNat b.toNat
  · rw [if_pos h.le, if_pos h, BitVec.ofNat_toNat, BitVec.setWidth_eq]
  · rw [if_pos h.le, if_neg h.not_lt, BitVec.ofNat_toNat, BitVec.setWidth_eq, BitVec.eq_of_toNat_eq h]
  · rw [if_neg h.not_ge, if_neg h.not_gt, BitVec.ofNat_toNat, BitVec.setWidth_eq]

theorem laneMax_eq : laneMax t a b = if t = 0 then to32 (FV.max (of32f a) (of32f b))
    else if t = 1 then BitVec.ofInt 32 (max a.toInt b.toInt) else BitVec.ofNat 32 (max a.toNat b.toNat) := by
  rw [ofInt_max_toInt, ofNat_max_toNat, laneMax]

theorem laneMin_eq : laneMin t a b = if t = 0 then to32 (FV.min (of32f a) (of32f b))
    else if t = 1 then BitVec.ofInt 32 (min a.toInt b.toInt) else BitVec.ofNat 32 (min a.toNat b.toNat) := by
  rw [ofInt_min_toInt, ofNat_min_toNat, laneMin]

theorem ofInt_neg_toInt : BitVec.ofInt 32 (- a.toInt) = -a :=
  BitVec.eq_of_toInt_eq (by rw [BitVec.toInt_ofInt, BitVec.toInt_neg])

theorem ofNat_natAbs_toInt : BitVec.ofNat 32 a.toInt.natAbs = if a.slt 0 then -a else a := by
  have hzero : (0 : Word).toInt = 0 := by decide
  rw [← BitVec.ofInt_natCast]
  simp only [BitVec.slt, hzero, decide_eq_true_eq]
  obtain h | h := lt_or_ge a.toInt 0
  · rw [if_pos h, Int.ofNat_natAbs_of_nonpos h.le, ofInt_neg_toInt]
  · rw [if_neg h.not_gt, Int.natAbs_of_nonneg h, BitVec.ofInt_toInt]

theorem laneAbs_eq : laneAbs t a = if t = 0 then (if a.toNat / 2 ^ 23 % 256 = 0 then 0 else a &&& 0x7FFFFFFF)
    else if t = 1 then BitVec.ofNat 32 a.toInt.natAbs else a := by
  have hsign : (a &&& 0x80000000) &&& 0x7FFFFFFF = 0 := by
    rw [BitVec.and_assoc]
    exact BitVec.and_zero
  rw [ofNat_natAbs_toInt, laneAbs, flush32_eq]
  split
  · split
    · exact hsign
    · rfl
  · rfl

theorem laneNeg_eq : laneNeg t a = if t = 0 then (if a.toNat / 2 ^ 23 % 256 = 0 then (a &&& 0x80000000) ^^^ 0x80000000 else a ^^^ 0x80000000)
    else BitVec.ofInt 32 (- a.toInt) := by
  rw [ofInt_neg_toInt, laneNeg, flush32_eq]
  split
  · split <;> rfl
  · rfl

end

/-- Settles O5: each row writes its lanes under the guard. -/
theorem vectorArithmeticResults : Obligations.VectorArithmeticResults := by
  refine ⟨vecRow2_of_vbin (fun _ _ _ => rfl) laneAdd_eq, vecRow2_of_vbin (fun _ _ _ => rfl) laneSub_eq,
    vecRow2_of_vbin (fun _ _ _ => rfl) laneMul_eq, fun c f s m hrun hm hz => ?vfma, vecRow2_of_vbin (fun _ _ _ => rfl) laneMax_eq,
    vecRow2_of_vbin (fun _ _ _ => rfl) laneMin_eq, vecRow1_of_vun (fun _ _ _ => rfl) laneAbs_eq,
    vecRow1_of_vun (fun _ _ _ => rfl) laneNeg_eq⟩
  case vfma =>
    have hexec := exec_of_vissue (i := .vfma c f) rfl hrun hm (by simp [hz])
    refine vecResult_of_blend hrun hexec fun i hi => ?_
    rw [getD_zipWith _ _ _ (0, 0) 0 _ (by simpa using hi) (by simpa using hi), List.zip,
      getD_zipWith _ _ _ 0 0 _ (by simpa using hi) (by simpa using hi), laneFma_eq]
    rfl

end Sys2Proof.Machine
end

section
/-! PROOF. The special functions at the special inputs (R154, R155). -/

namespace Sys2Proof.Machine

/-! ### Special words and values -/

theorem of32f_zero : of32f 0 = .fin false 0 0 := by decide
theorem of32f_negZero : of32f 0x80000000 = .fin true 0 0 := by decide
theorem of32f_inf : of32f 0x7F800000 = .inf false := by decide
theorem of32f_negInf : of32f 0xFF800000 = .inf true := by decide

theorem to32_nan : to32 .nan = 0x7FC00000 := by decide
theorem to32_inf : to32 (.inf false) = 0x7F800000 := by decide
theorem to32_negInf : to32 (.inf true) = 0xFF800000 := by decide
theorem to32_zero : to32 (.fin false 0 0) = 0 := by decide
theorem to32_negZero : to32 (.fin true 0 0) = 0x80000000 := by decide

/-! ### Order -/

/-- A value below -126 lies below 128. -/
theorem FV.lt_high_of_lt_low {n : Bool} {m : Nat} {e : Int} (h : FV.lt (.fin n m e) (.fin true 126 0) = true) :
    FV.lt (.fin n m e) (.fin false 128 0) = true := by
  simp only [FV.lt, sgnMant, decide_eq_true_eq, if_true, Bool.false_eq_true, if_false] at h ⊢
  push_cast at h ⊢
  omega

/-- A value below zero is a negative infinity or has a sign and a magnitude. -/
theorem FV.lt_zero {v : FV} (h : FV.lt v (.fin false 0 0) = true) : v = .inf true ∨ ∃ m e, v = .fin true m e ∧ m ≠ 0 := by
  cases v with
  | nan => cases h
  | inf n => exact .inl (congrArg FV.inf h)
  | fin n m e =>
    simp only [FV.lt, sgnMant, decide_eq_true_eq, Nat.zero_mul, Bool.false_eq_true, if_false] at h
    cases n
    case false =>
      have hm := Int.natCast_nonneg (m * pow2 (e - Min.min e 0))
      simp only [Bool.false_eq_true, if_false] at h
      omega
    case true => exact .inr ⟨m, e, rfl, by rintro rfl; simp at h⟩

/-! ### The functions -/

variable {w : Word}

theorem exp2w_nan (h : of32f w = .nan) : exp2w w = 0x7FC00000 := by rw [exp2w, h, exp2v, to32_nan]

theorem exp2w_inf : exp2w 0x7F800000 = 0x7F800000 := by rw [exp2w, of32f_inf, exp2v, if_neg Bool.false_ne_true, to32_inf]

theorem exp2w_low (h : FV.lt (of32f w) (.fin true 126 0) = true) : exp2w w = 0 := by
  rw [exp2w]
  cases hv : of32f w with
  | nan => rw [hv] at h; cases h
  | inf n =>
    rw [hv] at h
    exact if_pos h
  | fin n m e => rw [exp2v, ← hv, if_pos h]

theorem exp2w_high {n : Bool} {m : Nat} {e : Int} (hv : of32f w = .fin n m e) (h : FV.lt (.fin n m e) (.fin false 128 0) = false) :
    exp2w w = 0x7F800000 := by
  have hlow : ¬ FV.lt (.fin n m e) (.fin true 126 0) = true := fun hl => by rw [FV.lt_high_of_lt_low hl] at h; cases h
  rw [exp2w, hv, exp2v, if_neg hlow, h, Bool.not_false, if_pos rfl, to32_inf]

theorem log2w_nan (h : of32f w = .nan) : log2w w = 0x7FC00000 := by rw [log2w, h]; exact to32_nan

theorem log2w_zero {n : Bool} {e : Int} (h : of32f w = .fin n 0 e) : log2w w = 0xFF800000 := by rw [log2w, h]; exact to32_negInf

theorem log2w_inf : log2w 0x7F800000 = 0x7F800000 := by rw [log2w, of32f_inf]; exact to32_inf

theorem log2w_neg (h : FV.lt (of32f w) (.fin false 0 0) = true) : log2w w = 0x7FC00000 := by
  obtain hv | ⟨m, e, hv, hm⟩ := FV.lt_zero h
  · rw [log2w, hv]; exact to32_nan
  · rw [log2w, hv]
    simp only [hm, if_false, if_true]
    exact to32_nan

theorem rcpw_nan (h : of32f w = .nan) : rcpw w = 0x7FC00000 := by rw [rcpw, h]; exact to32_nan

theorem rcpw_zero {n : Bool} {e : Int} (h : of32f w = .fin n 0 e) : rcpw w = to32 (.inf n) := by rw [rcpw, h]; rfl

theorem rcpw_inf {n : Bool} (h : of32f w = .inf n) : rcpw w = to32 (.fin n 0 0) := by rw [rcpw, h]

theorem rcpw_high {m : Nat} {e : Int} (hv : of32f w = .fin false m e) (hm : m ≠ 0) (h : FV.lt (.fin false m e) (.fin false 1 126) = false) :
    rcpw w = 0 := by
  rw [rcpw, hv]
  simp only [hm, h, Bool.not_false, if_true, if_false]
  exact to32_zero

theorem rsqrtw_nan (h : of32f w = .nan) : rsqrtw w = 0x7FC00000 := by rw [rsqrtw, h]; exact to32_nan

theorem rsqrtw_zero {n : Bool} {e : Int} (h : of32f w = .fin n 0 e) : rsqrtw w = to32 (.inf n) := by rw [rsqrtw, h]; rfl

theorem rsqrtw_inf : rsqrtw 0x7F800000 = 0 := by rw [rsqrtw, of32f_inf]; rfl

theorem rsqrtw_neg (h : FV.lt (of32f w) (.fin false 0 0) = true) : rsqrtw w = 0x7FC00000 := by
  obtain hv | ⟨m, e, hv, hm⟩ := FV.lt_zero h
  · rw [rsqrtw, hv]; exact to32_nan
  · rw [rsqrtw, hv]
    simp only [hm, if_false, if_true]
    exact to32_nan

/-- A lanewise instruction of FP32 lanes alone, on integer lanes. -/
theorem vun_integer {s : State} {c : CellId} {f : FA} {m : VMod} {i : Instr} {op : Nat} {g : Nat → Word → Word}
    (hrow : exec i s = .next (s.vun c f op true g)) (hrun : s.runs c = true) (hm : vmod f.mods = some m) (hlt : m.lt ≠ 0)
    (h : (s.at c).emask[10] = true) :
    ∃ t, exec i s = .next t ∧ (t.at c).phase = .trapped 10 ∧ (t.at c).v = (s.at c).v ∧ (t.at c).vp = (s.at c).vp := by
  have hexec : exec i s = .next ((s.cellExc (cellIdx c) 10 none op).trapCell (cellIdx c) 10 op) := by
    rw [hrow, State.vun, State.vissue, State.exec1_runs _ _ _ _ hrun]
    simp only [hm, enc, bne_iff_ne.mpr hlt, Bool.and_true, Bool.not_true, Bool.and_false, Bool.false_eq_true, if_false]
    rw [State.issue_illegal h]
  have hcell := s.cell_trap (cellIdx c) op 10 none op
  exact ⟨_, hexec, congrArg Cell.phase hcell, (congrArg Cell.v hcell).trans rfl, (congrArg Cell.vp hcell).trans rfl⟩

/-- Settles O6: the functions of the lanes are the model's own, and each special input selects one branch of them. -/
theorem vectorSpecialFunctions : Obligations.VectorSpecialFunctions := by
  refine ⟨⟨exp2w, ?exp2, fun _ => exp2w_low, fun _ _ _ _ => exp2w_high, exp2w_inf, fun _ => exp2w_nan⟩,
    ⟨log2w, ?log2, log2w_zero of32f_zero, log2w_zero of32f_negZero, log2w_inf, fun _ => log2w_neg, fun _ => log2w_nan⟩,
    ⟨rcpw, ?rcp, (rcpw_zero of32f_zero).trans to32_inf, (rcpw_zero of32f_negZero).trans to32_negInf, (rcpw_inf of32f_inf).trans to32_zero,
      (rcpw_inf of32f_negInf).trans to32_negZero, fun _ _ _ => rcpw_high, fun _ => rcpw_nan⟩,
    ⟨rsqrtw, ?rsqrt, (rsqrtw_zero of32f_zero).trans to32_inf, (rsqrtw_zero of32f_negZero).trans to32_negInf, rsqrtw_inf, fun _ => rsqrtw_neg,
      fun _ => rsqrtw_nan⟩, fun c f s m row hrun hm hlt h hrow => ?integer⟩
  case integer => obtain rfl | rfl | rfl | rfl := hrow <;> exact vun_integer rfl hrun hm hlt h
  all_goals exact vecRow1_of_vun (fun _ _ _ => rfl) fun _ _ => rfl

end Sys2Proof.Machine
end

section
/-! PROOF. Loads and stores of a cell where nothing meets them, and where another port's write does (R128, R170 to R173). -/

namespace Sys2Proof.Machine

variable {s t : State} {c : CellId} {da n : Nat}

/-- An access that meets nothing completes. -/
theorem portIssue_calm (h : s.calm da n = true) (t : State) (write : Bool) (op : Nat) : portIssue t (s.viewNow .clear) da n write op = .ok t := by
  rw [portIssue, State.met_calm s _ (by simpa using h), View.busy_clear]
  rfl

/-- A store that meets nothing and passes R73 writes its bytes. -/
theorem State.storeIssue_still {x : Cell} {bs : List Byte} (hplc : s.plcOk x.wu x.epoch = true) (h : s.still da bs.length = true) (op : Nat) :
    s.storeIssue x .clear da bs op = .ok (s.writeMem da bs) := by
  rw [State.storeIssue, hplc, Bool.not_true, if_neg Bool.false_ne_true, s.writePE_still _ _ h, portIssue_calm (s.calm_of_still _ _ h)]

/-- A byte of the number that bytes spell. -/
theorem ofBytesLE_byte (bs : List Byte) (i : Nat) : ofBytesLE bs / 256 ^ i % 256 = (bs.getD i 0).toNat := by
  induction bs generalizing i with
  | nil => simp [ofBytesLE]
  | cons b bs ih =>
    have hb := b.isLt
    cases i with
    | zero => rw [ofBytesLE, List.getD_cons_zero]; omega
    | succ i =>
      have hdiv : (b.toNat + 256 * ofBytesLE bs) / 256 = ofBytesLE bs := by omega
      rw [ofBytesLE, pow_succ', ← Nat.div_div_eq_div_mul, hdiv, ih, List.getD_cons_succ]

theorem toNat_word64 {bs : List Byte} (h : bs.length = 8) : (word64 bs).toNat = ofBytesLE bs := by
  have hlt := ofBytesLE_lt bs
  rw [h] at hlt
  rw [word64, BitVec.toNat_ofNat, Nat.mod_eq_of_lt (by omega)]

/-- The cell after an exception that does not trap. -/
theorem State.cell_go (s : State) (ci code : Nat) (addr : Option Nat) (d : Nat) : ((s.cellExc ci code addr d).advance ci).cell ci =
    { (s.cell ci).raised code with pc := ((s.cell ci).pc + 16) % 2 ^ 46 } := by
  have hcell : (s.cellExc ci code addr d).cell ci = (s.cell ci).raised code := by
    have hcells : (s.cellExc ci code addr d).cells = (s.setCell ci ((s.cell ci).raised code)).cells := by
      simp only [State.cellExc, State.raiseStatus_cells]
    rw [State.cell, hcells]
    exact s.cell_setCell ci _
  rw [State.advance, State.cell_setCell, hcell]
  rfl

@[simp] theorem Cell.setS_status (x : Cell) (r : Nat) (v : Word64) : (x.setS r v).status = x.status := by unfold Cell.setS; split <;> rfl

/-- A byte that a read receives in a cycle in which another port writes its bank word is the one held or the one written. -/
theorem State.byteSeen_later {pe : PortEv} {a : Nat} (h : (s.viewNow pe).hits a 1 = false) (mixed : Option Nat) :
    s.byteSeen (s.viewNow pe) mixed a = s.byte a ∨ s.byteSeen (s.viewNow pe) mixed a = (peData pe).getD (a % 128) (s.byte a) := by
  rw [State.byteSeen, h, if_neg Bool.false_ne_true]
  split
  · exact .inr rfl
  · exact .inl rfl

theorem State.readPE_later {word : Nat} {data : List Byte} (h : s.calm da n = true) (hw : wordTouched word da n = true) {i : Nat} (hi : i < n) :
    (s.readPE (s.viewNow (.later true word data)) da n).getD i 0 = s.byte (da + i) ∨
      (s.readPE (s.viewNow (.later true word data)) da n).getD i 0 = data.getD ((da + i) % 128) (s.byte (da + i)) := by
  have hmixed : peMixed (s.viewNow (.later true word data)).pe da n = some (word / 128) := if_pos hw
  have hcalm := State.calm_part h (Nat.le_add_right da i) (m := 1) (by omega)
  rw [State.readPE, hmixed]
  dsimp only
  rw [getD_map_range _ _ hi]
  exact State.byteSeen_later (s.hits_calm _ _ _ hcalm) _

/-- A load that meets another port's earlier write sees PORT_BUSY, and what it received takes one free value (R170, R172). -/
theorem portIssue_later {word : Nat} {data : List Byte} (hw : wordTouched word da n = true) (t : State) (op : Nat) :
    portIssue t (s.viewNow (.later true word data)) da n false op =
      .ex 3 false ((t.countPortBusy word).takeFree 1) ((t.countPortBusy word).takeFree 1) (some da) op := by
  simp [portIssue, State.met, View.busy, peBusy, peMixed, peWord, State.viewNow, hw]

end Sys2Proof.Machine
end

section
/-! PROOF. LD, ST, AADD and ACAS (R101, R102). -/

namespace Sys2Proof.Machine

variable {s : State} {c : CellId} {da : Nat}

section
variable {f : FB} (hrun : s.runs c = true) (hm : f.mods = 0) (hz : fbClean f true true true = true) (hda : (s.at c).ea f = da)
include hrun hm hz hda

theorem exec_ld {pe : PortEv} (halign : da % 8 = 0) (hloc : s.cellLocal (cellIdx c) da 8 = true) (hmeet : s.meet pe da 8 = s)
    (hclean : s.poisonRange da 8 = false) : exec (.ld c f pe) s = .next (s.issue (cellIdx c) 0x22
      (portIssue (s.setCell (cellIdx c) ((s.at c).setS f.rd.toNat (word64 (s.readPE (s.viewNow pe) da 8)))) (s.viewNow pe) da 8 false 0x22)) := by
  refine (exec_of_enc rfl hrun (by simp [hm, hz])).trans ?_
  simp only [hda, halign, hloc, hmeet, hclean]
  rfl

/-- The cell and the memory after an LD that met another port's write and did not trap. -/
theorem exec_ld_later {word : Nat} {data : List Byte} (halign : da % 8 = 0) (hloc : s.cellLocal (cellIdx c) da 8 = true)
    (hclean : s.poisonRange da 8 = false) (hw : wordTouched word da 8 = true) (hmask : (s.at c).emask[3] = false) :
    ∃ t, exec (.ld c f (.later true word data)) s = .next t ∧ t.mem = s.mem ∧
      t.at c = { ((s.at c).setS f.rd.toNat (word64 (s.readPE (s.viewNow (.later true word data)) da 8))).raised 3 with
        pc := ((s.at c).pc + 16) % 2 ^ 46 } := by
  refine ⟨_, exec_ld hrun hm hz hda halign hloc rfl hclean, ?_⟩
  rw [portIssue_later hw, State.issue_go _ _ _ _ _ _ _ _ hmask]
  refine ⟨by simp, (State.cell_go ..).trans ?_⟩
  have hcell : ∀ (t : State) word, ((t.countPortBusy word).takeFree 1).cell (cellIdx c) = t.cell (cellIdx c) := fun t word => by
    simp only [State.cell, State.takeFree_cells, State.countPortBusy_cells]
  rw [hcell, State.cell_setCell, Cell.setS_pc]

theorem exec_st (halign : da % 8 = 0) (hloc : s.cellLocal (cellIdx c) da 8 = true) (htiled : touchesTiled s.trg da 8 = false)
    (hkv : s.touchesKv da 8 = false) (hstill : s.still da 8 = true) (hplc : s.plcOk (s.at c).wu (s.at c).epoch = true) :
    exec (.st c f .clear) s = .next ((s.writeMem da (toBytesLE 8 ((s.at c).sr f.rd.toNat).toNat)).advance (cellIdx c)) := by
  refine (exec_of_enc rfl hrun (by simp [hm, hz])).trans ?_
  simp only [hda, halign, hloc, State.writeBarred, htiled, hkv]
  exact congrArg (fun v => Host.Outcome.next (s.issue (cellIdx c) 0x23 v)) (State.storeIssue_still hplc (by simpa using hstill) _)

/-- What a misaligned access leaves. -/
theorem exec_ld_misaligned (halign : da % 8 ≠ 0) (h : (s.at c).emask[11] = true) : ∃ t, exec (.ld c f .clear) s = .next t ∧
    (t.at c).phase = .trapped 11 ∧ (t.at c).s = (s.at c).s ∧ t.mem = s.mem := by
  obtain ⟨hphase, -, -, -, hs, hmem, -⟩ := s.trap_spec (cellIdx c) 0x22 11 0x22 (some da)
  refine ⟨_, (exec_of_enc rfl hrun (by simp [hm, hz])).trans ?_, hphase, hs, hmem⟩
  simp only [hda, halign, ne_eq, not_false_eq_true, decide_true, Bool.true_or, if_true, State.issue_addrFault h]

theorem exec_st_misaligned (halign : da % 8 ≠ 0) (h : (s.at c).emask[11] = true) : ∃ t, exec (.st c f .clear) s = .next t ∧
    (t.at c).phase = .trapped 11 ∧ (t.at c).s = (s.at c).s ∧ t.mem = s.mem := by
  obtain ⟨hphase, -, -, -, hs, hmem, -⟩ := s.trap_spec (cellIdx c) 0x23 11 0x23 (some da)
  refine ⟨_, (exec_of_enc rfl hrun (by simp [hm, hz])).trans ?_, hphase, hs, hmem⟩
  simp only [hda, halign, ne_eq, not_false_eq_true, decide_true, Bool.true_or, if_true, State.issue_addrFault h]

end

/-- AADD and ACAS on an address of this device that the die reaches (R102). -/
theorem State.atomicIssue_still {x : Cell} (hda : da < 2 ^ 46) (hok : s.atomicOk da = true) (hclean : s.poisonRange da 8 = false)
    (hstill : s.still da 8 = true) (hreach : ∀ st, s.rangeStore da 8 = some st → s.reaches? (cellIdx c / 256) st = true)
    (hplc : s.plcOk x.wu x.epoch = true) (rd op : Nat) (cas : Bool) (a b : Nat) :
    s.atomicIssue (cellIdx c) x .clear rd op false cas da a b =
      .ok ((s.atomicDone da (atomicNew cas (ofBytesLE (s.readMem da 8)) a b)).setCell (cellIdx c) (x.setS rd (word64 (s.readMem da 8)))) := by
  have hlow : da % 2 ^ 46 = da := Nat.mod_eq_of_lt hda
  have hdev : da / 2 ^ 46 = 0 := Nat.div_eq_of_lt hda
  have hcalm := s.calm_of_still _ _ hstill
  obtain ⟨st, hst⟩ : ∃ st, s.rangeStore da 8 = some st := by
    simp only [State.atomicOk, Bool.and_eq_true] at hok
    exact Option.isSome_iff_exists.mp hok.1.2
  simp only [State.atomicIssue, hlow, hdev, hok, hst, hreach st hst, State.meet_clear, hclean, hplc, State.readPE_calm _ _ _ hcalm,
    toNat_word64 (State.length_readMem ..), portIssue_calm hcalm]
  cases atomicNew cas (ofBytesLE (s.readMem da 8)) a b with
  | none => rfl
  | some w =>
    have hw := s.writePE_still da (toBytesLE 8 w) (by simpa using hstill)
    simp [State.atomicDone, hw]

/-- What an atomic leaves: the cell with the old value, and the eight bytes with what it stored. -/
theorem exec_atomic {i : Instr} {op : Nat} {ok cas : Bool} {f : FA} {g : Cell → Nat} {pe : PortEv} (hpe : pe = .clear)
    (hrow : exec i s = .next (s.exec1 (cellIdx c) op fun x => enc s op ok
      (s.atomicIssue (cellIdx c) x pe f.rd.toNat op (mbit f.mods 1) cas (x.sr f.ra.toNat).toNat (x.opB f).toNat (g x))))
    (hrun : s.runs c = true) (henc : ok = true) (hloc : mbit f.mods 1 = false) (hda : da = ((s.at c).sr f.ra.toNat).toNat) (hlt : da < 2 ^ 46)
    (hok : s.atomicOk da = true) (hclean : s.poisonRange da 8 = false) (hstill : s.still da 8 = true)
    (hreach : ∀ st, s.rangeStore da 8 = some st → s.reaches? (cellIdx c / 256) st = true) (hplc : s.plcOk (s.at c).wu (s.at c).epoch = true) :
    ∃ t, exec i s = .next t ∧
      t.cells = (s.ran c ((s.at c).setS f.rd.toNat (BitVec.ofNat 64 (ofBytesLE (s.readMem da 8))))).cells ∧
      t.readMem da 8 = toBytesLE 8
        ((atomicNew cas (ofBytesLE (s.readMem da 8)) ((s.at c).opB f).toNat (g (s.at c))).getD (ofBytesLE (s.readMem da 8))) ∧
      ∀ a, a < da ∨ da + 8 ≤ a → t.byte a = s.byte a := by
  subst hpe hda
  have hexec := exec_of_enc hrow hrun henc
  rw [hloc, State.atomicIssue_still hlt hok hclean hstill hreach hplc,
    State.issue_ran _ _ _ _ _ (by rw [Cell.setS_phase, s.runs_running c hrun])] at hexec
  obtain ⟨hread, hother⟩ := s.atomicDone_spec ((s.at c).sr f.ra.toNat).toNat
    (atomicNew cas (ofBytesLE (s.readMem ((s.at c).sr f.ra.toNat).toNat 8)) ((s.at c).opB f).toNat (g (s.at c)))
  refine ⟨_, hexec, State.cells_ran_congr ?_ _, hread, hother⟩
  cases atomicNew cas _ _ _ <;> rfl

theorem ofBytesLE_atomic {bs : List Byte} {w : Nat} (h : bs = toBytesLE 8 w) : ofBytesLE bs = w % 2 ^ 64 := by
  rw [h, ofBytesLE_toBytesLE]
  rfl

/-- Settles O4: each access comes to its verdict, and the bytes it writes are those at its own address. -/
theorem scalarMemoryAccess : Obligations.ScalarMemoryAccess := by
  refine ⟨fun c f s da hrun hm hz hda => ⟨fun halign hloc hclean hcalm => ?ld,
      fun word data halign hloc hclean hcalm hw hmask => ?ldLater, fun halign => exec_ld_misaligned hrun hm hz hda.symm halign⟩,
    fun c f s da hrun hm hz hda => ⟨fun halign hloc htiled hkv hstill hplc => ?st, fun halign => exec_st_misaligned hrun hm hz hda.symm halign⟩,
    fun c f s da hrun hz hloc hda hlt hok hclean hstill hreach hplc => ?aadd,
    fun c f s da hrun hz hloc hda hlt hok hclean hstill hreach hplc => ?acas⟩
  case ld =>
    rw [exec_ld hrun hm hz hda.symm halign hloc rfl hclean, portIssue_calm hcalm, State.issue_setS hrun, State.readPE_calm _ _ _ hcalm]
    rfl
  case ldLater =>
    obtain ⟨t, hexec, hmem, hcell⟩ := exec_ld_later hrun hm hz hda.symm halign hloc hclean hw hmask (data := data)
    refine ⟨t, hexec, hmem, ?_, ?_, fun r hr => ?_, fun hrd i hi => ?_⟩
    all_goals rw [hcell]
    · change Cell.status (Cell.setS _ _ _) ||| _ = _
      rw [Cell.setS_status]
      rfl
    · exact (Cell.sr_setS ..).trans (if_neg fun h => hr h.1)
    · change BitVec.toNat (Cell.sr (Cell.setS _ _ _) _) / _ % _ = _ ∨ BitVec.toNat (Cell.sr (Cell.setS _ _ _) _) / _ % _ = _
      rw [Cell.sr_setS, if_pos ⟨rfl, hrd⟩, toNat_word64 (State.length_readPE ..), ofBytesLE_byte]
      exact (State.readPE_later hcalm hw hi).imp (congrArg _) (congrArg _)
  case st =>
    have hlen : (toBytesLE 8 ((s.at c).sr f.rd.toNat).toNat).length = 8 := length_toBytesLE ..
    refine ⟨_, exec_st hrun hm hz hda.symm halign hloc htiled hkv hstill hplc, State.cells_advance rfl, rfl, rfl, ?_, fun a ha => ?_⟩
    · exact (congrArg (State.readMem _ da) hlen.symm).trans (s.readMem_writeMem ..)
    · exact s.byte_writeMem_out _ _ _ (by rwa [hlen])
  case aadd =>
    obtain ⟨t, hexec, hcells, hread, hother⟩ :=
      exec_atomic (g := fun _ => 0) (i := .aadd c f .clear) rfl rfl hrun hz hloc hda hlt hok hclean hstill hreach hplc
    refine ⟨t, hexec, hcells, (ofBytesLE_atomic hread).trans ?_, hother⟩
    simp [atomicNew]
  case acas =>
    obtain ⟨t, hexec, hcells, hread, hother⟩ :=
      exec_atomic (g := fun x => (x.sr f.rc.toNat).toNat) (i := .acas c f .clear) rfl rfl hrun hz hloc hda hlt hok hclean hstill hreach hplc
    refine ⟨t, hexec, hcells, (ofBytesLE_atomic hread).trans ?_, hother⟩
    have hold : ofBytesLE (s.readMem da 8) < 2 ^ 64 := (ofBytesLE_lt _).trans_eq (by rw [State.length_readMem]; rfl)
    rw [atomicNew, if_pos rfl]
    split
    · exact Nat.mod_eq_of_lt ((s.at c).sr f.rc.toNat).isLt
    · exact Nat.mod_eq_of_lt hold

end Sys2Proof.Machine
end

section
/-! PROOF. Lists of rows, words and their bytes. -/

namespace Sys2Proof.Machine

/-- Element i of row j in rows of d, one behind the other. -/
theorem getD_flatMap_rows {α : Type} (f : Nat → List α) (a : α) {d j i : Nat} (hf : ∀ j, (f j).length = d) (hi : i < d) {k : Nat}
    (hj : j < k) :
    ((List.range k).flatMap f).getD (j * d + i) a = (f j).getD i a := by
  have hlen : ∀ k, ((List.range k).flatMap f).length = k * d := fun k => by
    simp [List.length_flatMap, hf]
  induction k with
  | zero => omega
  | succ k ih =>
    rw [List.range_succ, List.flatMap_append, List.flatMap_singleton]
    obtain hjk | rfl : j < k ∨ j = k := by omega
    · have hin : j * d + i < k * d := by
        have hrow := Nat.mul_le_mul_right d (Nat.succ_le_of_lt hjk)
        rw [Nat.succ_mul] at hrow
        omega
      rw [List.getD_append _ _ _ _ (by rwa [hlen]), ih hjk]
    · rw [List.getD_append_right _ _ _ _ (by rw [hlen]; omega), hlen, Nat.add_sub_cancel_left]

/-- Word i of bytes. -/
theorem getD_bytesToWords {n i : Nat} {bs : List Byte} (h : bs.length = 4 * n) (hi : i < n) :
    (bytesToWords bs).getD i 0 = BitVec.ofNat 32 (ofBytesLE ((bs.drop (4 * i)).take 4)) := by
  induction n generalizing bs i with
  | zero => omega
  | succ n ih =>
    match bs, h with
    | b0 :: b1 :: b2 :: b3 :: bs, h =>
      cases i with
      | zero => rfl
      | succ i =>
        rw [bytesToWords, List.getD_cons_succ, ih (by simpa [Nat.mul_succ] using h) (by omega), Nat.mul_succ]
        rfl

variable {s t : State}

theorem State.drop_take_readMem (s : State) (da : Nat) {n k m : Nat} (h : k + m ≤ n) : ((s.readMem da n).drop k).take m = s.readMem (da + k) m := by
  apply List.ext_getElem?
  intro i
  by_cases hi : i < m
  · simp [State.readMem, hi, Nat.add_assoc, show k + i < n by omega]
  · simp [State.readMem, hi]

/-- A range reads as the bytes it holds. -/
theorem State.readMem_eq {a n : Nat} {bs : List Byte} (hlen : bs.length = n) (h : ∀ k < n, t.byte (a + k) = bs.getD k 0) : t.readMem a n = bs := by
  apply List.ext_getElem?
  intro i
  by_cases hi : i < n
  · simp [State.readMem, hi, h i hi, hlen]
  · simp [State.readMem, hi, hlen]

theorem ofBytesLE_word (w : Word) : ofBytesLE (toBytesLE 4 w.toNat) = w.toNat :=
  (ofBytesLE_toBytesLE 4 _).trans (Nat.mod_eq_of_lt w.isLt)

end Sys2Proof.Machine
end

section
/-! PROOF. The lanes of a vector register in memory (R112). -/

namespace Sys2Proof.Machine

variable {s t : State} {da : Nat}

/-- Memory with the guarded ones of the first n lanes stored. -/
def State.lanesStored (s : State) (x : Cell) (g : Option Nat) (da : Nat) (xs : List Word) (n : Nat) : State :=
  (List.range n).foldl (fun t i => if x.laneOn g i then t.writeMem (da + 4 * i) (toBytesLE 4 (xs.getD i 0).toNat) else t) s

theorem State.lanesStored_succ (s : State) (x : Cell) (g : Option Nat) (da : Nat) (xs : List Word) (n : Nat) :
    s.lanesStored x g da xs (n + 1) = if x.laneOn g n then (s.lanesStored x g da xs n).writeMem (da + 4 * n) (toBytesLE 4 (xs.getD n 0).toNat)
      else s.lanesStored x g da xs n := by
  rw [State.lanesStored, List.range_succ, List.foldl_append]
  rfl

/-- Storing lanes changes memory alone. -/
theorem State.lanesStored_mem (s : State) (x : Cell) (g : Option Nat) (da : Nat) (xs : List Word) (n : Nat) :
    ∃ m, s.lanesStored x g da xs n = { s with mem := m } := by
  induction n with
  | zero => exact ⟨s.mem, rfl⟩
  | succ n ih =>
    obtain ⟨m, hm⟩ := ih
    rw [State.lanesStored_succ, hm]
    split
    · exact ⟨_, rfl⟩
    · exact ⟨m, rfl⟩

theorem State.storeLanes_still {x : Cell} {g : Option Nat} {xs : List Word} (h : s.still da 256 = true) :
    s.storeLanes x g (s.viewNow .clear) da xs = s.lanesStored x g da xs 64 := by
  suffices hn : ∀ n ≤ 64, (List.range n).foldl (fun t i =>
      if x.laneOn g i then t.writePE (s.viewNow .clear) (da + 4 * i) (toBytesLE 4 (xs.getD i 0).toNat) else t) s = s.lanesStored x g da xs n from
    hn 64 le_rfl
  intro n hn
  induction n with
  | zero => rfl
  | succ n ih =>
    obtain ⟨m, hm⟩ := s.lanesStored_mem x g da xs n
    have hpart : s.still (da + 4 * n) (toBytesLE 4 (xs.getD n 0).toNat).length = true := by
      rw [length_toBytesLE]
      exact State.still_part h (by omega) (by omega)
    rw [List.range_succ, List.foldl_append, ih (by omega), State.lanesStored_succ, hm]
    simp only [List.foldl_cons, List.foldl_nil]
    split
    · exact State.writePE_still_after rfl rfl hpart
    · rfl

/-- Each lane's bytes hold the lane where it was stored, and no byte outside the lanes changed. -/
theorem State.lanesStored_spec (s : State) (x : Cell) (g : Option Nat) (da : Nat) (xs : List Word) (n : Nat) :
    (∀ i, (s.lanesStored x g da xs n).readMem (da + 4 * i) 4 =
      if i < n ∧ x.laneOn g i = true then toBytesLE 4 (xs.getD i 0).toNat else s.readMem (da + 4 * i) 4) ∧
    ∀ a, a < da ∨ da + 4 * n ≤ a → (s.lanesStored x g da xs n).byte a = s.byte a := by
  induction n with
  | zero => exact ⟨fun i => by simp [State.lanesStored], fun _ _ => rfl⟩
  | succ n ih =>
    obtain ⟨hin, hout⟩ := ih
    have hlen : (toBytesLE 4 (xs.getD n 0).toNat).length = 4 := length_toBytesLE ..
    rw [State.lanesStored_succ]
    refine ⟨fun i => ?_, fun a ha => ?_⟩
    · obtain hi | rfl | hi := lt_trichotomy i n
      · have hlt : i < n + 1 := by omega
        simp only [hlt, true_and, ← (hin i).trans (if_congr (and_iff_right hi) rfl rfl)]
        split
        · exact State.readMem_writeMem_out _ _ _ _ _ (by omega)
        · rfl
      · split
        case isTrue hon =>
          rw [if_pos ⟨Nat.lt_succ_self i, hon⟩]
          exact (congrArg (State.readMem _ _) hlen.symm).trans (State.readMem_writeMem ..)
        case isFalse hoff => rw [hin, if_neg (by simp), if_neg (fun h => hoff h.2)]
      · rw [if_neg (c := i < n + 1 ∧ _) (by omega)]
        have hsame := (hin i).trans (if_neg (by omega))
        split
        · exact (State.readMem_writeMem_out _ _ _ _ _ (by omega)).trans hsame
        · exact hsame
    · have hsame := hout a (by omega)
      split
      · exact (State.byte_writeMem_out _ _ _ _ (by omega)).trans hsame
      · exact hsame

@[simp] theorem length_wordsToBytes (xs : List Word) : (wordsToBytes xs).length = xs.length * 4 := by
  simp [wordsToBytes, List.length_flatMap]

/-- A whole register stored: each lane's bytes hold the lane. -/
theorem State.readMem_wordsToBytes (s : State) (da : Nat) (x : Cell) (r : Nat) {i : Nat} (hi : i < 64) :
    (s.writeMem da (wordsToBytes (x.vec r))).readMem (da + 4 * i) 4 = toBytesLE 4 (x.lane r i).toNat := by
  refine State.readMem_eq (length_toBytesLE ..) fun k hk => ?_
  have hrow := getD_flatMap_rows (fun i => toBytesLE 4 (tget 0 x.v (64 * r + i)).toNat) 0 (fun _ => length_toBytesLE ..) hk hi
  have hlane : x.lane r i = tget 0 x.v (64 * r + i) := getD_map_range _ _ hi
  rw [State.byte_writeMem, if_pos (by simp; omega), hlane, ← hrow, Cell.vec, wordsToBytes, List.flatMap_map, List.getD_eq_getElem?_getD,
    show da + 4 * i + k - da = i * 4 + k by omega]

end Sys2Proof.Machine
end

section
/-! PROOF. The rows of an accumulator (R90, R110). -/

namespace Sys2Proof.Machine

variable {x : Cell} {a row i : Nat} {xs : List Word} {p : Bool}

@[simp] theorem Cell.length_accRow (x : Cell) (a row : Nat) : (x.accRow a row).length = 64 := by simp [Cell.accRow]

theorem Cell.lane_blend_ne {g : Option Nat} {r q : Nat} {new : List Word} (h : q ≠ r) : (x.blend g r new p).lane q i = x.lane q i := by
  rw [Cell.lane, Cell.vec_blend_ne h, Cell.lane]

theorem Cell.apois_setAcc : (x.setAcc a xs p).apois a = p := tget_tset_self ..

theorem Cell.apois_setAccRow {r : Nat} : (x.setAccRow a r xs p).apois a = p := tget_tset_self ..

/-- A row after one row of its accumulator was written. -/
theorem Cell.getD_accRow_setAccRow {r : Nat} (hxs : xs.length = 64) (hi : i < 64) :
    ((x.setAccRow a r xs p).accRow a row).getD i 0 = if row = r then xs.getD i 0 else (x.accRow a row).getD i 0 := by
  have htake : xs.take 64 = xs := List.take_of_length_le hxs.le
  rw [Cell.accRow, getD_map_range _ _ hi, Cell.accRow, getD_map_range _ _ hi, Cell.setAccRow, tget_tfill, htake, hxs]
  split
  case isTrue h =>
    obtain rfl : row = r := by omega
    rw [if_pos rfl, Nat.add_sub_cancel_left, List.getD_eq_getElem?_getD]
  case isFalse h => rw [if_neg fun hr => h (by omega)]

/-- A row after its whole accumulator was written. -/
theorem Cell.getD_accRow_setAcc (hxs : xs.length = 4096) (hrow : row < 64) (hi : i < 64) :
    ((x.setAcc a xs p).accRow a row).getD i 0 = xs.getD (row * 64 + i) 0 := by
  have htake : xs.take 4096 = xs := List.take_of_length_le hxs.le
  rw [Cell.accRow, getD_map_range _ _ hi, Cell.setAcc, tget_tfill, htake, hxs, if_pos (by omega), List.getD_eq_getElem?_getD,
    show 4096 * a + 64 * row + i - 4096 * a = row * 64 + i by omega]

/-- Row `row` of an accumulator whose guarded rows were scaled. -/
theorem Cell.getD_rescaled (x : Cell) (g : Option Nat) (a : Nat) (xs : List Word) (hrow : row < 64) (hi : i < 64) :
    (x.rescaled g a xs).getD (row * 64 + i) 0 =
      if x.laneOn g row then laneMul 0 ((x.accRow a row).getD i 0) (xs.getD row 0) else (x.accRow a row).getD i 0 := by
  rw [Cell.rescaled, getD_flatMap_rows _ _ (by intro j; dsimp only; split <;> simp) hi hrow]
  dsimp only
  split
  · exact getD_map _ _ _ _ (by simpa using hi)
  · rfl

theorem Cell.length_rescaled (x : Cell) (g : Option Nat) (a : Nat) (xs : List Word) : (x.rescaled g a xs).length = 4096 := by
  have hlen : ∀ i, (if x.laneOn g i then (x.accRow a i).map fun w => laneMul 0 w (xs.getD i 0) else x.accRow a i).length = 64 := fun i => by
    split <;> simp
  simp only [Cell.rescaled, List.length_flatMap, hlen]
  rfl

end Sys2Proof.Machine
end

section
/-! PROOF. The vector rows that reach memory and accumulators (R110 to R113). -/

namespace Sys2Proof.Machine

variable {s : State} {c : CellId} {m : VMod}

section
variable {f : FB} {da : Nat} (hrun : s.runs c = true) (hm : vmod f.mods = some m) (hz : fbClean f true true true = true)
  (hda : (s.at c).ea f = da) (halign : da % 4 = 0) (hloc : s.cellLocal (cellIdx c) da 256 = true)
include hrun hm hz hda halign hloc

theorem exec_vld (hclean : s.poisonRange da 256 = false) (hcalm : s.calm da 256 = true) (htile : s.tilePoison (s.viewNow .clear) da 256 = false) :
    exec (.vld c f .clear) s = .next (s.issue (cellIdx c) 0x62 (.ok (s.setCell (cellIdx c)
      ((s.at c).blend m.guard f.rd.toNat (bytesToWords (s.readMem da 256)) false)))) := by
  refine (exec_of_vissue rfl hrun hm (by simp [hz])).trans ?_
  simp only [hda, halign, hloc, State.meet_clear, State.eccRead_clean hclean, hclean, htile, State.readPE_calm _ _ _ hcalm, portIssue_calm hcalm]
  rfl

section
variable (htiled : touchesTiled s.trg da 256 = false) (hkv : s.touchesKv da 256 = false)
include htiled hkv

/-- VST of an unpoisoned register into memory that nothing meets. -/
theorem exec_vst (hstill : s.still da 256 = true) (hpoison : (s.at c).vpois f.rd.toNat = false) (hplc : s.plcOk (s.at c).wu (s.at c).epoch = true) :
    exec (.vst c f .clear) s = .next (State.advance (match m.guard with
      | none => s.writeMem da (wordsToBytes ((s.at c).vec f.rd.toNat))
      | some _ => s.lanesStored (s.at c) m.guard da ((s.at c).vec f.rd.toNat) 64) (cellIdx c)) := by
  refine (exec_of_vissue rfl hrun hm (by simp [hz])).trans ?_
  simp only [hda, halign, hloc, State.writeBarred, htiled, hkv, hpoison]
  cases m.guard with
  | none => exact congrArg (fun v => Host.Outcome.next (s.issue (cellIdx c) 0x63 v)) (State.storeIssue_still hplc (by simpa using hstill) _)
  | some p =>
    simp only [hplc, State.storeLanes_still hstill, portIssue_calm (s.calm_of_still _ _ hstill)]
    rfl

/-- VST of a poisoned register (R113). -/
theorem exec_vst_poisoned (hpoison : (s.at c).vpois f.rd.toNat = true) : exec (.vst c f .clear) s =
    .next ((s.cellExc (cellIdx c) 1 (some da) 0x63).trapCell (cellIdx c) 1 0x63) := by
  refine (exec_of_vissue rfl hrun hm (by simp [hz])).trans ?_
  simp only [hda, halign, hloc, State.writeBarred, htiled, hkv, hpoison]
  exact congrArg _ (s.issue_trap _ _ _ _ _ _ _ _ (.inl rfl))

end
end

/-- The lanes and the rest of memory after a VST. -/
theorem State.vst_spec (s : State) (x : Cell) (g : Option Nat) (da r : Nat) {t : State}
    (ht : t = match g with | none => s.writeMem da (wordsToBytes (x.vec r)) | some _ => s.lanesStored x g da (x.vec r) 64) :
    t.cells = s.cells ∧ t.regs = s.regs ∧
      (∀ i < 64, ofBytesLE (t.readMem (da + 4 * i) 4) = if x.laneOn g i then (x.lane r i).toNat else ofBytesLE (s.readMem (da + 4 * i) 4)) ∧
      ∀ a, a < da ∨ da + 256 ≤ a → t.byte a = s.byte a := by
  subst ht
  cases g with
  | none =>
    refine ⟨rfl, rfl, fun i hi => ?_, fun a ha => s.byte_writeMem_out _ _ _ (by simpa using ha)⟩
    rw [s.readMem_wordsToBytes da x r hi, ofBytesLE_word]
    rfl
  | some p =>
    obtain ⟨hin, hout⟩ := s.lanesStored_spec x (some p) da (x.vec r) 64
    obtain ⟨mem, hmem⟩ := s.lanesStored_mem x (some p) da (x.vec r) 64
    refine ⟨by rw [hmem], by rw [hmem], fun i hi => ?_, hout⟩
    dsimp only
    rw [hin, if_congr (and_iff_right hi) rfl rfl]
    split
    · exact ofBytesLE_word _
    · rfl

/-- Settles O8: a register's row is a blend under the guard, and a stored row reads back lane by lane. -/
theorem vectorMemoryAndAccumulators : Obligations.VectorMemoryAndAccumulators := by
  refine ⟨fun c f s m da hrun hm hz hda halign hloc hclean hcalm htile => ?vld,
    fun c f s m da hrun hm hz hda halign hloc htiled hkv hstill => ⟨fun hpoison hplc => ?vst, fun hpoison => ?vstPoisoned⟩,
    fun c f s m hrun hm hz ha hfree => ?vrowr, fun c f s m hrun hm hz hd hfree => ?vroww, fun c f s m hrun hm hlt hz hd hfree => ?vresc,
    fun c f s m hrun hm hlt hz heven => ?vsmax⟩
  case vld =>
    refine vecResult_of_blend hrun (exec_vld hrun hm hz hda.symm halign hloc hclean hcalm htile) fun i hi => ?_
    rw [getD_bytesToWords (n := 64) (State.length_readMem ..) hi, State.drop_take_readMem _ _ (by omega)]
  case vst =>
    obtain ⟨hcells, hregs, hlanes, hother⟩ := s.vst_spec (s.at c) m.guard da f.rd.toNat rfl
    exact ⟨_, exec_vst hrun hm hz hda.symm halign hloc htiled hkv hstill hpoison hplc, State.cells_advance hcells, hregs, hlanes, hother⟩
  case vstPoisoned =>
    obtain ⟨hphase, -, -, -, -, hmem, -⟩ := s.trap_spec (cellIdx c) 0x63 1 0x63 (some da)
    exact ⟨_, exec_vst_poisoned hrun hm hz hda.symm halign hloc htiled hkv hpoison, hphase, hmem⟩
  case vrowr =>
    have hexec := exec_of_vissue (i := .vrowr c f) rfl hrun hm (by simp [hz, ha])
    simp only [hfree] at hexec
    exact vecResult_of_blend hrun hexec fun i hi => rfl
  case vroww =>
    have hexec := exec_of_vissue (i := .vroww c f) rfl hrun hm (by simp [hz, hd])
    simp only [hfree] at hexec
    refine ⟨_, hexec.trans (congrArg _ (s.issue_ran _ _ _ _ (by exact s.runs_running c hrun))), rfl, Cell.apois_setAccRow, fun row _ i hi => ?_⟩
    rw [Cell.getD_accRow_setAccRow (Cell.length_pick ..) hi, Cell.getD_pick _ _ _ _ hi]
    change _ = if row = shamt ((s.at c).sr f.rb.toNat) ∧ (s.at c).laneOn m.guard i = true then _ else _
    by_cases hrow : row = shamt ((s.at c).sr f.rb.toNat)
    · rw [if_pos hrow, if_congr (and_iff_right hrow) rfl rfl, hrow]
      rfl
    · rw [if_neg hrow, if_neg fun h => hrow h.1]
  case vresc =>
    have hexec := exec_of_vissue (i := .vresc c f) rfl hrun hm (by simp [hz, hd, hlt])
    simp only [hfree] at hexec
    refine ⟨_, hexec.trans (congrArg _ (s.issue_ran _ _ _ _ (by exact s.runs_running c hrun))), rfl, Cell.apois_setAcc, fun row hrow i hi => ?_⟩
    rw [Cell.getD_accRow_setAcc (Cell.length_rescaled ..) hrow hi, Cell.getD_rescaled _ _ _ _ hrow hi]
    rfl
  case vsmax =>
    have hexec := exec_of_vissue (i := .vsmax c f) rfl hrun hm (by simp [hz, heven, hlt])
    refine ⟨_, hexec.trans (congrArg _ (s.issue_ran _ _ _ _ (by exact s.runs_running c hrun))), rfl, fun i hi hon => ?_⟩
    have hmax : (List.zipWith (laneMax 0) ((s.at c).vec f.ra.toNat) ((s.at c).vec f.rb.toNat)).getD i 0 =
        to32 (FV.max (of32f ((s.at c).lane f.ra.toNat i)) (of32f ((s.at c).lane f.rb.toNat i))) := by
      rw [getD_zipWith _ _ _ 0 0 _ (by simpa using hi) (by simpa using hi), laneMax_eq, if_pos rfl]
      rfl
    have hlane := (Cell.lane_blend (x := s.at c) (g := m.guard) (r := f.rd.toNat)
      (new := List.zipWith (laneMax 0) ((s.at c).vec f.ra.toNat) ((s.at c).vec f.rb.toNat))
      (p := (s.at c).vpois f.ra.toNat || (s.at c).vpois f.rb.toNat) hi).trans ((if_pos hon).trans hmax)
    rw [Cell.lane_blend_ne (Nat.succ_ne_self _).symm, hlane]
    refine ⟨rfl, fun heq => ?_⟩
    rw [Cell.lane_blend hi, if_pos (by exact hon), getD_zipWith _ _ _ 0 0 _ (by simpa using hi) (by simpa using hi), hmax]
    exact if_pos heq

end Sys2Proof.Machine
end

section
/-! PROOF. MMA, ACCZ, ACCLD and ACCST enter the tensor queue; DLD, DST and DADD (R104 to R109, R125). -/

namespace Sys2Proof.Machine

variable {s : State} {c : CellId}

/-- A tensor queue of fewer than four entries takes one more. -/
theorem State.issue_tqPush (hrun : s.runs c = true) (hlen : (s.at c).tq.length < 4) (op : Nat) (e : TEntry) :
    s.issue (cellIdx c) op (s.tqPush (cellIdx c) (s.at c) e) = s.ran c { s.at c with tq := (s.at c).tq ++ [e] } := by
  rw [State.tqPush, if_neg (by omega)]
  exact s.issue_ran c op s { s.at c with tq := (s.at c).tq ++ [e] } (s.runs_running c hrun)

/-- A full tensor queue makes the cell wait. -/
theorem State.issue_tqFull (hlen : 4 ≤ (s.at c).tq.length) (op : Nat) (e : TEntry) :
    s.issue (cellIdx c) op (s.tqPush (cellIdx c) (s.at c) e) = s := by
  rw [State.tqPush, if_pos hlen]
  rfl

/-- An instruction with a legal encoding that comes to an entry of the tensor queue. -/
theorem exec_of_tqPush {i : Instr} {op : Nat} {e : TEntry} (hrun : s.runs c = true)
    (hexec : exec i s = .next (s.issue (cellIdx c) op (s.tqPush (cellIdx c) (s.at c) e))) :
    ((s.at c).tq.length < 4 → exec i s = .next (s.ran c { s.at c with tq := (s.at c).tq ++ [e] })) ∧
      (4 ≤ (s.at c).tq.length → exec i s = .next s) := by
  refine ⟨fun h => ?_, fun h => ?_⟩
  · rw [hexec, State.issue_tqPush hrun h]
  · rw [hexec, State.issue_tqFull h]

/-- An instruction whose encoding is judged by a register too comes to its verdict. -/
theorem exec_of_encAt {i : Instr} {op : Nat} {ok : Cell → Bool} {k : Cell → Issue}
    (hrow : exec i s = .next (s.exec1 (cellIdx c) op fun x => enc s op (ok x) (k x))) (hrun : s.runs c = true) (hok : ok (s.at c) = true) :
    exec i s = .next (s.issue (cellIdx c) op (k (s.at c))) := by
  rw [hrow, State.exec1_runs _ _ _ _ hrun, enc, if_pos hok]

/-! ### MMA -/

section
variable {f : FD} {n : Nat} (hrun : s.runs c = true) (hm : f.mods.toNat < 4) (hr : f.rsv = 0) (hacc : f.acc.toNat < 8) (hta : f.ta.toNat < 16)
  (htb : f.tb.toNat < 16) (hda : descOk ((s.at c).dd f.ta.toNat) (fun _ => true) = true)
  (hdb : descOk ((s.at c).dd f.tb.toNat) (fun _ => true) = true)
  (hn : mmaTiles (s.readDesc ((s.at c).dd f.ta.toNat) ((s.at c).sr f.oa.toNat)).fmt
    (s.readDesc ((s.at c).dd f.tb.toNat) ((s.at c).sr f.ob.toNat)).fmt = some n)
include hrun hn

/-- MMA over two formats that go together comes to its verdict. -/
theorem exec_mma : exec (.mma c f) s = .next (s.issue (cellIdx c) 0x40
    (let a := s.readDesc ((s.at c).dd f.ta.toNat) ((s.at c).sr f.oa.toNat)
     let b := s.readDesc ((s.at c).dd f.tb.toNat) ((s.at c).sr f.ob.toNat)
     enc s 0x40 (decide (f.mods.toNat < 4) && f.rsv == 0 && decide (f.acc.toNat < 8) && decide (f.ta.toNat < 16) && decide (f.tb.toNat < 16) &&
        decide (1 ≤ f.k.toNat) && decide (f.k.toNat ≤ 256) && descOk ((s.at c).dd f.ta.toNat) (fun _ => true) &&
        descOk ((s.at c).dd f.tb.toNat) fun _ => true)
      (if !s.descAddrOk (cellIdx c) a (f.k.toNat * n) then addrFault s 0x40 a.base
       else if !s.descAddrOk (cellIdx c) b (f.k.toNat * n) then addrFault s 0x40 b.base
       else s.tqPush (cellIdx c) (s.at c) (.mma f.acc.toNat (mbit f.mods 0) (mbit f.mods 1) a b f.k.toNat)))) := by
  have h : exec (.mma c f) s = execMma c f s := rfl
  rw [h, execMma, State.exec1_runs _ _ _ _ hrun]
  dsimp only
  rw [hn]

include hm hr hacc hta htb hda hdb in
theorem exec_mma_push (h1 : 1 ≤ f.k.toNat) (h256 : f.k.toNat ≤ 256)
    (ha : s.descAddrOk (cellIdx c) (s.readDesc ((s.at c).dd f.ta.toNat) ((s.at c).sr f.oa.toNat)) (f.k.toNat * n) = true)
    (hb : s.descAddrOk (cellIdx c) (s.readDesc ((s.at c).dd f.tb.toNat) ((s.at c).sr f.ob.toNat)) (f.k.toNat * n) = true) :
    exec (.mma c f) s = .next (s.issue (cellIdx c) 0x40 (s.tqPush (cellIdx c) (s.at c) (.mma f.acc.toNat (f.mods.getLsbD 0) (f.mods.getLsbD 1)
      (s.readDesc ((s.at c).dd f.ta.toNat) ((s.at c).sr f.oa.toNat)) (s.readDesc ((s.at c).dd f.tb.toNat) ((s.at c).sr f.ob.toNat)) f.k.toNat))) := by
  rw [exec_mma hrun hn]
  simp only [enc, hm, hr, hacc, hta, htb, hda, hdb, h1, h256, ha, hb]
  rfl

/-- MMA with k of 0 or above 256 is illegal. -/
theorem exec_mma_illegal (hk : f.k.toNat = 0 ∨ 256 < f.k.toNat) (hmask : (s.at c).emask[10] = true) :
    ∃ t, exec (.mma c f) s = .next t ∧ (t.at c).phase = .trapped 10 ∧ (t.at c).tq = (s.at c).tq := by
  have hbad : (decide (1 ≤ f.k.toNat) && decide (f.k.toNat ≤ 256)) = false := by
    rw [← Bool.decide_and, decide_eq_false_iff_not]
    omega
  refine ⟨_, ?_, (s.trap_spec (cellIdx c) 0x40 10 0x40 none).1, (congrArg Cell.tq (s.cell_trap ..)).trans rfl⟩
  rw [exec_mma hrun hn]
  simp only [enc, Bool.and_assoc, hbad, Bool.false_and, Bool.and_false, Bool.false_eq_true, if_false,
    State.issue_illegal hmask]

end

/-! ### Descriptors -/

/-- The base that DADD comes to. -/
theorem dadd_base (d : BitVec 256) (a b : Word64) :
    ((BitVec.ofNat 64 d.toNat : Word64) + a + b).toNat = (d.toNat % 2 ^ 64 + a.toNat + b.toNat) % 2 ^ 64 := by
  rw [BitVec.toNat_add, BitVec.toNat_add, BitVec.toNat_ofNat, Nat.mod_add_mod]

@[simp] theorem Cell.setD_phase (x : Cell) (r : Nat) (v : BitVec 256) : (x.setD r v).phase = x.phase := rfl

/-- An instruction that writes a descriptor register alone moves on. -/
theorem State.issue_setD (hrun : s.runs c = true) (op r : Nat) (v : BitVec 256) :
    s.issue (cellIdx c) op (.ok (s.setCell (cellIdx c) ((s.at c).setD r v))) = s.ran c ((s.at c).setD r v) :=
  s.issue_ran c op s _ (by rw [Cell.setD_phase, s.runs_running c hrun])

theorem length_toBytesLE_dd (v : BitVec 256) : (toBytesLE 32 v.toNat).length = 32 := length_toBytesLE ..

section
variable {f : FB} {da : Nat} (hrun : s.runs c = true) (hm : f.mods = 0) (hz : fbClean f true true true = true) (hrd : f.rd.toNat < 16)
include hrun hm hz hrd

theorem exec_dld (hda : (s.at c).ea f = da) (halign : da % 32 = 0) (hloc : s.cellLocal (cellIdx c) da 32 = true)
    (hclean : s.poisonRange da 32 = false) (hcalm : s.calm da 32 = true) : exec (.dld c f .clear) s =
    .next (s.ran c ((s.at c).setD f.rd.toNat (BitVec.ofNat 256 (ofBytesLE (s.readMem da 32))))) := by
  have hexec : exec (.dld c f .clear) s = .next (s.issue (cellIdx c) 0x44 (portIssue (s.setCell (cellIdx c) ((s.at c).setD f.rd.toNat
      (BitVec.ofNat 256 (ofBytesLE (s.readPE (s.viewNow .clear) da 32))))) (s.viewNow .clear) da 32 false 0x44)) := by
    refine (exec_of_enc rfl hrun (by simp [hm, hz, hrd])).trans ?_
    simp only [hda, halign, hloc, State.meet_clear, hclean]
    rfl
  rw [hexec, portIssue_calm hcalm, State.readPE_calm _ _ _ hcalm, State.issue_setD hrun]

theorem exec_dst (hda : (s.at c).ea f = da) (halign : da % 32 = 0) (hloc : s.cellLocal (cellIdx c) da 32 = true)
    (htiled : touchesTiled s.trg da 32 = false) (hkv : s.touchesKv da 32 = false) (hstill : s.still da 32 = true)
    (hplc : s.plcOk (s.at c).wu (s.at c).epoch = true) :
    exec (.dst c f .clear) s = .next ((s.writeMem da (toBytesLE 32 ((s.at c).dd f.rd.toNat).toNat)).advance (cellIdx c)) := by
  refine (exec_of_enc rfl hrun (by simp [hm, hz, hrd])).trans ?_
  simp only [hda, halign, hloc, State.writeBarred, htiled, hkv]
  exact congrArg (fun v => Host.Outcome.next (s.issue (cellIdx c) 0x45 v))
    (State.storeIssue_still hplc (by rwa [length_toBytesLE_dd]) _)

theorem exec_dadd : exec (.dadd c f) s = .next (s.issue (cellIdx c) 0x46
    (let d := (s.at c).dd f.rd.toNat
     let b := (d.toNat % 2 ^ 64 + ((s.at c).sr f.ra.toNat).toNat + f.imm64.toNat) % 2 ^ 64
     if b ≥ 2 ^ 46 then addrFault s 0x46 b
     else .ok (s.setCell (cellIdx c) ((s.at c).setD f.rd.toNat (BitVec.ofNat 256 (d.toNat / 2 ^ 64 * 2 ^ 64 + b)))))) := by
  refine (exec_of_enc rfl hrun (by simp [hm, hz, hrd])).trans ?_
  simp only [dadd_base]

end

/-- Settles O9: an entry joins a queue with room, and the descriptor rows come to their verdicts. -/
theorem tensorInstructionResults : Obligations.TensorInstructionResults := by
  refine ⟨fun c f s a b n hrun hm hr hacc hta htb hda hdb ha hb hn => ⟨fun h1 h256 hoka hokb => ?mma, fun hk hmask => ?mmaK⟩,
    fun c f s hrun hm hz => exec_of_tqPush hrun ((exec_of_enc rfl hrun (by simp [hm, hz])).trans rfl),
    fun c f s d hrun hm hz hd hdesc hok => exec_of_tqPush (op := 0x42) hrun ?accld,
    fun c f s d hrun hm hz hd hdesc hok => exec_of_tqPush (op := 0x43) hrun ?accst,
    fun c f s da hrun hm hz hrd hda halign hloc hclean hcalm => exec_dld hrun hm hz hrd hda.symm halign hloc hclean hcalm,
    fun c f s da hrun hm hz hrd hda halign hloc htiled hkv hstill hplc => ?dst,
    fun c f s b hrun hm hz hrd hb => ⟨fun hlt => ?dadd, fun hge hmask => ?daddFault⟩⟩
  case mma =>
    subst ha hb
    exact exec_of_tqPush hrun (exec_mma_push hrun hm hr hacc hta htb hda hdb hn h1 h256 hoka hokb)
  case mmaK =>
    subst ha hb
    exact exec_mma_illegal hrun hn hk hmask
  case accld =>
    subst hdesc
    refine (exec_of_encAt rfl hrun (by simp [hm, hz, hd])).trans ?_
    simp only [hok]
    rfl
  case accst =>
    subst hdesc
    refine (exec_of_encAt rfl hrun (by simp [hm, hz, hd])).trans ?_
    simp only [hok]
    rfl
  case dst =>
    have hlen := length_toBytesLE_dd ((s.at c).dd f.rd.toNat)
    refine ⟨_, exec_dst hrun hm hz hrd hda.symm halign hloc htiled hkv hstill hplc, State.cells_advance rfl, rfl, ?_, fun a ha => ?_⟩
    · have hread : (s.writeMem da (toBytesLE 32 ((s.at c).dd f.rd.toNat).toNat)).readMem da 32 = toBytesLE 32 ((s.at c).dd f.rd.toNat).toNat :=
        (congrArg (State.readMem _ da) hlen.symm).trans (s.readMem_writeMem ..)
      refine (congrArg ofBytesLE hread).trans ((ofBytesLE_toBytesLE ..).trans (Nat.mod_eq_of_lt ((s.at c).dd f.rd.toNat).isLt))
    · exact s.byte_writeMem_out _ _ _ (by rwa [hlen])
  case dadd =>
    subst hb
    rw [exec_dadd hrun hm hz hrd, if_neg (by omega), State.issue_setD hrun]
  case daddFault =>
    subst hb
    obtain ⟨hphase, -⟩ := s.trap_spec (cellIdx c) 0x46 11 0x46 (some ((((s.at c).dd f.rd.toNat).toNat % 2 ^ 64 +
      ((s.at c).sr f.ra.toNat).toNat + f.imm64.toNat) % 2 ^ 64))
    refine ⟨_, ?_, hphase, (congrArg Cell.d (s.cell_trap ..)).trans rfl⟩
    rw [exec_dadd hrun hm hz hrd, if_pos hge, State.issue_addrFault hmask]

end Sys2Proof.Machine
end

section
/-! PROOF. A trailer as it reads after it was stored (R176). -/

namespace Sys2Proof.Machine

theorem bfld_append_right (a b : List Byte) {k n m : Nat} (h : a.length + m = k) : bfld (a ++ b) k n = bfld b m n := by
  rw [bfld, ← h, List.drop_append, List.drop_of_length_le (by omega), Nat.add_sub_cancel_left, List.nil_append, bfld]

/-- Bytes and trailers read alike in devices with the same memory. -/
theorem State.byte_of_mem {s t : State} (h : t.mem = s.mem) (da : Nat) : t.byte da = s.byte da := by rw [State.byte, h, State.byte]

theorem State.readMem_of_mem {s t : State} (h : t.mem = s.mem) (da n : Nat) : t.readMem da n = s.readMem da n := by
  simp only [State.readMem, State.byte_of_mem h]

/-- Its fields, where its 8 bytes are held. -/
theorem State.trailer_of_readMem {s : State} {da : Nat} {x : Trailer} (h : s.readMem da 8 = x.toBytes) :
    s.trailer da = { crc := x.crc % 2 ^ 32, epoch := x.epoch % 2 ^ 16, fmt := x.fmt % 2 ^ 8, flags := x.flags % 2 ^ 8 } := by
  have hfront : ∀ k v, bfld (toBytesLE k v) 0 k = v % 2 ^ (8 * k) := fun k v => by
    rw [bfld, List.drop_zero, List.take_of_length_le (length_toBytesLE ..).le, ofBytesLE_toBytesLE, pow_mul]
    norm_num
  have hcrc : bfld x.toBytes 0 4 = x.crc % 2 ^ 32 := by
    rw [Trailer.toBytes, List.append_assoc, List.append_assoc, Tests.bfld_append _ _ _ _ (by simp), hfront]
  have hepoch : bfld x.toBytes 4 2 = x.epoch % 2 ^ 16 := by
    rw [Trailer.toBytes, List.append_assoc, List.append_assoc, bfld_append_right _ _ (m := 0) (by simp), Tests.bfld_append _ _ _ _ (by simp), hfront]
  have hfmt : bfld x.toBytes 6 1 = x.fmt % 2 ^ 8 := by
    rw [Trailer.toBytes, List.append_assoc, bfld_append_right _ _ (m := 0) (by simp), Tests.bfld_append _ _ _ _ (by simp), hfront]
  have hflags : bfld x.toBytes 7 1 = x.flags % 2 ^ 8 := by
    rw [Trailer.toBytes, bfld_append_right _ _ (m := 0) (by simp), hfront]
  simp only [State.trailer, h, hcrc, hepoch, hfmt, hflags]

/-- The flags of a producer's trailer. -/
theorem mkTrailer_flags (bytes : List Byte) (epoch fmt : Nat) (poison sealed : Bool) :
    (mkTrailer bytes epoch fmt poison sealed).flags = poison.toNat + 2 + 4 * sealed.toNat := rfl

end Sys2Proof.Machine
end

section
/-! PROOF. TENSOR_ENTRY_COMPLETE (R125): an entry without an event runs, leaves its queue, and reports its status. -/

namespace Sys2Proof.Machine

variable {s t : State} {c : CellId} {a : Nat} {d : TDesc} {rest : List TEntry}

/-- A cell with another tensor queue. -/
def Cell.withTq (x : Cell) (q : List TEntry) : Cell := { x with tq := q }

/-- The device that an entry runs in: none of its cell's tensor queue is in flight for it. -/
def State.withoutTq (s : State) (ci : Nat) : State := s.setCell ci { s.cell ci with tq := [] }

/-- The device after an entry of the queue q ran and left it. -/
def State.entryLeft (t : State) (ci : Nat) (q : List TEntry) : State := (t.setCell ci { t.cell ci with tq := q }.popTensor).settle

theorem State.cell_entryLeft (t : State) (ci : Nat) (q : List TEntry) :
    (t.entryLeft ci q).cell ci = { t.cell ci with tq := q }.popTensor := by
  rw [State.entryLeft, State.cell, State.settle_cells]
  exact State.cell_setCell ..

/-- Without an event, no access of an operation that ended sees a conflict. -/
theorem State.busy_viewEnd (s : State) (accs : List Acc) : (s.viewEnd .clear).busy accs = false := by
  simp [View.busy, peBusy, State.viewEnd, State.viewNow]

/-- An entry runs in the device without its queue; where no signal waits, nothing follows its exception. -/
theorem exec_tensorEntry {e : TEntry} {r : State × Nat} {v : View} (hv : (s.withoutTq (cellIdx c)).viewEnd .clear = v)
    (hup : s.dieUp (cellIdx c / 256) = true) (htq : (s.at c).tq = e :: rest)
    (hrun : (s.withoutTq (cellIdx c)).runEntry (cellIdx c) v e = r)
    (ht : (if e.isSt then r.1 else e.ranges.foldl (fun t x => t.eccRead x.1 x.2) r.1).met v e.accs = t)
    (hsigs : (((t.entryLeft (cellIdx c) (e :: rest)).asyncExc (cellIdx c) r.2 e.opcode).cell (cellIdx c)).sigs = []) :
    exec (.tensorEntryComplete c .clear) s = .next ((t.entryLeft (cellIdx c) (e :: rest)).asyncExc (cellIdx c) r.2 e.opcode) := by
  subst hv
  have hexec : exec (.tensorEntryComplete c .clear) s = execTensorEntryComplete c .clear s := rfl
  have hmeet : ∀ u : State, e.ranges.foldl (fun t x => t.meet .clear x.1 x.2) u = u := fun u => by simp
  have hstart : (if e.isSt then s.withoutTq (cellIdx c) else e.ranges.foldl (fun t x => t.meet .clear x.1 x.2) (s.withoutTq (cellIdx c))) =
      s.withoutTq (cellIdx c) := by rw [hmeet, ite_self]
  have hworse : worseStatus r.2 0 = r.2 := by rw [worseStatus]; split <;> simp_all
  have hcell : (s.cell (cellIdx c)).tq = e :: rest := htq
  rw [State.withoutTq] at hrun ht hstart
  simp only [hexec, execTensorEntryComplete, hcell, hup, Bool.not_true, Bool.false_eq_true, if_false, hstart, hrun, ht, State.busy_viewEnd, hworse]
  rw [State.entryLeft] at hsigs ⊢
  rw [hsigs]
  rfl

/-- The cell that an entry leaves, where no signal waits. -/
theorem State.cell_entryLeft_of {ci : Nat} {x : Cell} (h : t.cell ci = x) (hsigs : x.sigs = []) (q : List TEntry) :
    (t.entryLeft ci q).cell ci = x.withTq (q.drop 1) := by
  rw [State.cell_entryLeft, h, Cell.popTensor, Cell.withTq]
  dsimp only
  rw [hsigs, List.map_nil, ← hsigs]

theorem State.entryLeft_mem (t : State) (ci : Nat) (q : List TEntry) : (t.entryLeft ci q).mem = t.mem :=
  (State.settle_mem _).trans (State.setCell_mem ..)

theorem State.withoutTq_mem (s : State) (ci : Nat) : (s.withoutTq ci).mem = s.mem := State.setCell_mem ..

theorem State.asyncExc_zero (s : State) (ci op : Nat) : s.asyncExc ci 0 op = s := rfl

theorem State.cell_cellExc {ci : Nat} {x : Cell} (h : s.cell ci = x) (code : Nat) (addr : Option Nat) (detail : Nat) :
    (s.cellExc ci code addr detail).cell ci = x.raised code := by
  rw [State.cellExc, State.cell, State.raiseStatus_cells, h]
  exact s.cell_setCell ci _

/-- An exception that EMASK lets pass. -/
theorem State.asyncExc_go {ci code : Nat} {x : Cell} (h : s.cell ci = x) (hcode : code ≠ 0) (hmask : x.traps code = false) (op : Nat) :
    s.asyncExc ci code op = s.cellExc ci code none op := by
  have htraps : ((s.cellExc ci code none op).cell ci).traps code = false := by rwa [State.cell_cellExc h]
  simp only [State.asyncExc, hcode, htraps, if_false, Bool.false_and, Bool.false_eq_true]

/-- An operation without accesses meets nothing. -/
theorem State.met_nil (s : State) (v : View) : s.met v [] = s := by simp [State.met, View.busy]

theorem State.cell_withoutTq (s : State) (ci : Nat) : (s.withoutTq ci).cell ci = (s.cell ci).withTq [] := State.cell_setCell ..

/-! ### ACCZ -/

theorem Cell.acc_setAcc {xs : List Word} (x : Cell) (a : Nat) (p : Bool) (hxs : xs.length = 4096) : (x.setAcc a xs p).acc a = xs := by
  refine List.ext_getElem (by simp [Cell.acc, hxs]) fun e he he' => ?_
  have hget : (x.setAcc a xs p).acc a = (List.range 4096).map fun e => tget 0 (x.setAcc a xs p).a (4096 * a + e) := rfl
  simp only [hget, List.getElem_map, List.getElem_range]
  rw [Cell.setAcc, List.take_of_length_le hxs.le, tget_tfill, if_pos (by omega), Nat.add_sub_cancel_left, List.getElem?_eq_getElem he']
  rfl

theorem State.runEntry_accz (s : State) (ci : Nat) (v : View) (a : Nat) :
    s.runEntry ci v (.accz a) = (s.setCell ci ((s.cell ci).setAcc a (List.replicate 4096 0) false), 0) := rfl

/-- The device in which an ACCZ has zeroed its accumulator. -/
def State.acczDone (s : State) (ci a : Nat) : State := s.setCell ci ((s.cell ci).setAcc a (List.replicate 4096 0) false)

theorem State.cell_acczDone (s : State) (ci a : Nat) :
    ((s.withoutTq ci).acczDone ci a).cell ci = ((s.cell ci).withTq []).setAcc a (List.replicate 4096 0) false := by
  rw [State.acczDone, State.cell_setCell, State.cell_withoutTq]

theorem exec_accz_entry (hup : s.dieUp (cellIdx c / 256) = true) (htq : (s.at c).tq = .accz a :: rest) (hsigs : (s.at c).sigs = []) :
    exec (.tensorEntryComplete c .clear) s =
      .next (((s.withoutTq (cellIdx c)).acczDone (cellIdx c) a).entryLeft (cellIdx c) (.accz a :: rest)) := by
  refine exec_tensorEntry rfl hup htq (State.runEntry_accz ..) (State.met_nil (State.acczDone _ _ a) _) ?_
  rw [State.asyncExc_zero, State.cell_entryLeft_of (s.cell_acczDone (cellIdx c) a) hsigs]
  exact hsigs

/-! ### ACCST -/

section
variable {rnd epoch : Nat} {fm : Fmt} {r : Region}

theorem State.cell_tileStored (s : State) (r : Region) (da : Nat) (bs : List Byte) (x : Trailer) (ci : Nat) :
    (s.tileStored r da bs x).cell ci = s.cell ci := rfl

/-- The entry of an ACCST that does not round at random and passes R73 stores its tile and its trailer. -/
theorem State.runEntry_accst {ci : Nat} {v : View} (hrnd : rnd ≠ 1) (hfm : fmtOf d.fmt = some fm) (hr : regionIn d.trg d.base d.size = some r)
    (hplc : s.plcOk (s.cell ci).wu (s.cell ci).epoch = true) : s.runEntry ci v (.accst a d rnd epoch) =
    (s.writeTile v r d.base (accStore fm d rnd ((s.cell ci).acc a) (List.replicate 4096 0))
      (mkTrailer (accStore fm d rnd ((s.cell ci).acc a) (List.replicate 4096 0)) epoch d.fmt ((s.cell ci).apois a) false), 0) := by
  simp only [State.runEntry, hfm, hr, if_neg hrnd, hplc, Bool.not_true, Bool.false_eq_true, if_false]

/-- What an ACCST stores. -/
def accstTile (x : Cell) (a rnd : Nat) (d : TDesc) (fm : Fmt) : List Byte := accStore fm d rnd (x.acc a) (List.replicate 4096 0)

/-- The trailer that an ACCST stores. -/
def accstTrailer (x : Cell) (a rnd epoch : Nat) (d : TDesc) (fm : Fmt) : Trailer :=
  mkTrailer (accstTile x a rnd d fm) epoch d.fmt (x.apois a) false

theorem exec_accst_entry (hup : s.dieUp (cellIdx c / 256) = true) (htq : (s.at c).tq = [.accst a d rnd epoch]) (hsigs : (s.at c).sigs = [])
    (hclash : s.clash = []) (hflight : (s.withoutTq (cellIdx c)).flight = []) (hrnd : rnd ≠ 1) (hfm : fmtOf d.fmt = some fm)
    (hr : regionIn d.trg d.base d.size = some r) (hplc : s.plcOk (s.at c).wu (s.at c).epoch = true) :
    exec (.tensorEntryComplete c .clear) s = .next
      (((s.withoutTq (cellIdx c)).tileStored r d.base (accstTile (s.at c) a rnd d fm)
        (accstTrailer (s.at c) a rnd epoch d fm)).entryLeft (cellIdx c) [.accst a d rnd epoch]) := by
  have hcell := s.cell_withoutTq (cellIdx c)
  have hview : (s.withoutTq (cellIdx c)).viewEnd .clear = (s.withoutTq (cellIdx c)).viewNow .clear :=
    State.viewEnd_quiet (s := s.withoutTq _) hclash _
  have hrun : (s.withoutTq (cellIdx c)).runEntry (cellIdx c) ((s.withoutTq (cellIdx c)).viewNow .clear) (.accst a d rnd epoch) =
      ((s.withoutTq (cellIdx c)).tileStored r d.base (accstTile (s.at c) a rnd d fm) (accstTrailer (s.at c) a rnd epoch d fm), 0) := by
    rw [State.runEntry_accst hrnd hfm hr (by rw [hcell]; exact hplc), hcell,
      State.writeTile_still _ (State.still_of_flight _ _ _ hflight) (State.still_of_flight _ _ _ hflight)]
    rfl
  refine exec_tensorEntry hview hup htq hrun
    (State.met_calm _ _ (fun x _ => State.calm_of_still _ _ _ (State.still_of_flight _ _ _ hflight)) _) ?_
  rw [State.asyncExc_zero, State.cell_entryLeft_of ((State.cell_tileStored ..).trans hcell) hsigs]
  exact hsigs

end

/-- Tile and trailer as they read, and every other byte as before, where tile and trailer lie apart. -/
theorem State.tileStored_apart (s : State) {r : Region} {da : Nat} {bs : List Byte} (x : Trailer)
    (h : r.trailerDA da + 8 ≤ da ∨ da + bs.length ≤ r.trailerDA da) : (s.tileStored r da bs x).readMem da bs.length = bs ∧
      (s.tileStored r da bs x).readMem (r.trailerDA da) 8 = x.toBytes ∧
      ∀ a, a < da ∨ da + bs.length ≤ a → a < r.trailerDA da ∨ r.trailerDA da + 8 ≤ a → (s.tileStored r da bs x).byte a = s.byte a := by
  have hlen := Trailer.length_toBytes x
  refine ⟨?_, ?_, fun a ha ha' => ?_⟩
  · rw [State.tileStored, State.readMem_writeMem_out _ _ _ _ _ (by omega), State.readMem_writeMem]
  · exact (congrArg (State.readMem _ _) hlen.symm).trans (State.readMem_writeMem ..)
  · rw [State.tileStored, State.byte_writeMem_out _ _ _ _ (by omega), State.byte_writeMem_out _ _ _ _ ha]

/-! ### ACCLD on a tile that fails its check -/

/-- The device in which an ACCLD has met a tile that fails its check: the accumulator poisoned, the check counted, its record raised. -/
def State.accldFailed (s : State) (ci a : Nat) (d : TDesc) (fm : Fmt) (bs : List Byte) : State :=
  ((s.setCell ci ((s.cell ci).setAcc a (accLoad fm d bs) true)).countCheck (ci / 256) 1).eccRead d.base d.size

theorem State.cell_accldFailed (s : State) (ci a : Nat) (d : TDesc) (fm : Fmt) (bs : List Byte) :
    (s.accldFailed ci a d fm bs).cell ci = (s.cell ci).setAcc a (accLoad fm d bs) true := by
  rw [State.accldFailed, State.cell, State.eccRead_cells, State.countCheck_cells]
  exact State.cell_setCell ..

theorem State.accldFailed_mem (s : State) (ci a : Nat) (d : TDesc) (fm : Fmt) (bs : List Byte) : (s.accldFailed ci a d fm bs).mem = s.mem := by
  rw [State.accldFailed, State.eccRead_mem, State.countCheck_mem, State.setCell_mem]

theorem State.runEntry_accld {ci : Nat} {v : View} {fm : Fmt} (hfm : fmtOf d.fmt = some fm) (hbad : (s.useTile v d d.base).2 = false) :
    s.runEntry ci v (.accld a d) =
      ((s.setCell ci ((s.cell ci).setAcc a (accLoad fm d (s.useTile v d d.base).1) true)).countCheck (ci / 256) 1, 1) := by
  simp only [State.runEntry, hfm, hbad, Bool.not_false, Bool.false_eq_true, if_false]

theorem exec_accld_entry {fm : Fmt} (hup : s.dieUp (cellIdx c / 256) = true) (htq : (s.at c).tq = .accld a d :: rest) (hsigs : (s.at c).sigs = [])
    (hfm : fmtOf d.fmt = some fm)
    (hbad : ((s.withoutTq (cellIdx c)).useTile ((s.withoutTq (cellIdx c)).viewEnd .clear) d d.base).2 = false) (hmask : (s.at c).emask[1] = false) :
    ∃ (t : State) (xs : List Word), t.cell (cellIdx c) = ((s.at c).withTq []).setAcc a xs true ∧ t.mem = s.mem ∧
      exec (.tensorEntryComplete c .clear) s = .next ((t.entryLeft (cellIdx c) (.accld a d :: rest)).cellExc (cellIdx c) 1 none 0x42) := by
  generalize hv : (s.withoutTq (cellIdx c)).viewEnd .clear = v at hbad
  generalize hbs : ((s.withoutTq (cellIdx c)).useTile v d d.base).1 = bs
  have hcell : (((s.withoutTq (cellIdx c)).accldFailed (cellIdx c) a d fm bs).met v (d.acc 1 false)).cell (cellIdx c) =
      ((s.at c).withTq []).setAcc a (accLoad fm d bs) true := by
    rw [State.cell, State.met_cells]
    exact (State.cell_accldFailed ..).trans (congrArg (fun x : Cell => x.setAcc a (accLoad fm d bs) true) (s.cell_withoutTq _))
  have hleft := State.cell_entryLeft_of hcell hsigs (.accld a d :: rest)
  have htraps : (s.at c).traps 1 = false := (BitVec.getLsbD_eq_getElem (by decide)).trans hmask
  have hexc := State.asyncExc_go hleft Nat.one_ne_zero htraps 0x42
  refine ⟨_, _, hcell, ?_, ?_⟩
  · rw [State.met_mem, State.accldFailed_mem, State.withoutTq_mem]
  · rw [← hexc]
    have hrun := State.runEntry_accld (s := s.withoutTq (cellIdx c)) (ci := cellIdx c) (a := a) hfm hbad
    rw [hbs] at hrun
    refine exec_tensorEntry hv hup htq hrun rfl ?_
    exact (congrArg (fun u : State => (u.cell (cellIdx c)).sigs) hexc).trans
      ((congrArg Cell.sigs (State.cell_cellExc hleft 1 none 0x42)).trans hsigs)

/-- Settles O10: each entry runs as its kind says and leaves the queue. -/
theorem tensorEntryResults : Obligations.TensorEntryResults := by
  refine ⟨fun c s a rest hup htq hsigs => ?accz, fun c s a rnd epoch d fm r hup htq hsigs hclash hflight hrnd hfm hr hplc hapart => ?accst,
    fun c s a d fm rest hup htq hsigs hfm hbad hmask => ?accld⟩
  case accz =>
    refine ⟨_, exec_accz_entry hup htq hsigs, ?_⟩
    have hcell : (((s.withoutTq (cellIdx c)).acczDone (cellIdx c) a).entryLeft (cellIdx c) (.accz a :: rest)).at c =
        ((s.at c).withTq rest).setAcc a (List.replicate 4096 0) false := State.cell_entryLeft_of (s.cell_acczDone (cellIdx c) a) hsigs _
    have happ : ∀ x : Cell, (x.setAcc a (List.replicate 4096 0) false).apois a = false := fun _ => Cell.apois_setAcc
    rw [hcell, Cell.acc_setAcc _ _ _ (List.length_replicate ..), happ]
    refine ⟨rfl, rfl, rfl, rfl, rfl, rfl, ?_⟩
    simp only [State.entryLeft, State.acczDone, State.withoutTq, State.settle_mem, State.settle_reaches, State.settle_regs, State.setCell_mem,
      State.setCell_reaches, State.setCell_regs, and_self]
  case accst =>
    refine ⟨_, exec_accst_entry hup htq hsigs hclash hflight (by omega) hfm hr hplc, ?_⟩
    have hcrc : (crc32c (accstTile (s.at c) a rnd d fm)).toNat < 2 ^ 32 := BitVec.isLt _
    obtain ⟨hread, htrl, hother⟩ := (s.withoutTq (cellIdx c)).tileStored_apart
      (accstTrailer (s.at c) a rnd epoch d fm) hapart
    have hcell : (((s.withoutTq (cellIdx c)).tileStored r d.base (accstTile (s.at c) a rnd d fm)
        (accstTrailer (s.at c) a rnd epoch d fm)).entryLeft (cellIdx c) [.accst a d rnd epoch]).at c = (s.at c).withTq [] :=
      State.cell_entryLeft_of ((State.cell_tileStored _ r d.base _ _ _).trans (s.cell_withoutTq (cellIdx c))) hsigs _
    have hmem : (((s.withoutTq (cellIdx c)).tileStored r d.base (accstTile (s.at c) a rnd d fm)
        (accstTrailer (s.at c) a rnd epoch d fm)).entryLeft (cellIdx c) [.accst a d rnd epoch]).mem = _ := State.entryLeft_mem ..
    have htrailer := State.trailer_of_readMem ((State.readMem_of_mem hmem _ _).trans htrl)
    rw [hcell]
    refine ⟨rfl, rfl, rfl, (State.readMem_of_mem hmem _ _).trans hread, ?_⟩
    rw [htrailer]
    refine ⟨Nat.mod_eq_of_lt hcrc, Nat.mod_mod _ _, rfl, ?_, ?_, fun x hx hx' => ?_⟩
    · simp only [accstTrailer, mkTrailer_flags, Trailer.poison]
      cases (s.at c).apois a <;> rfl
    · simp only [accstTrailer, mkTrailer_flags, Trailer.valid]
      cases (s.at c).apois a <;> rfl
    · exact ((State.byte_of_mem hmem x).trans (hother x hx hx')).trans (State.byte_of_mem (s.withoutTq_mem _) x)
  case accld =>
    obtain ⟨t, xs, hcell, hmem, hexec⟩ := exec_accld_entry hup htq hsigs hfm hbad hmask
    have hleft : ((t.entryLeft (cellIdx c) (.accld a d :: rest)).cellExc (cellIdx c) 1 none 0x42).at c =
        ((((s.at c).withTq []).setAcc a xs true).withTq rest).raised 1 :=
      State.cell_cellExc (State.cell_entryLeft_of hcell hsigs (.accld a d :: rest)) 1 none 0x42
    have happ : ∀ x : Cell, (x.setAcc a xs true).apois a = true := fun _ => Cell.apois_setAcc
    refine ⟨_, hexec, ?_⟩
    rw [hleft]
    refine ⟨rfl, happ (s.at c), rfl, rfl, ?_⟩
    rw [State.cellExc, State.raiseStatus_mem, State.setCell_mem, State.entryLeft_mem, hmem]

end Sys2Proof.Machine
end

section
/-! PROOF. What a step is (the front command, or what the device does of itself), and that every command is answered. -/

namespace Sys2Proof.Machine

variable {s : State}

/-- Every command answers a next state: its row is one. -/
theorem exec_answersNext (c : Instr) (s : State) : answersNext (exec c s) = true := by
  cases c <;> rfl

/-- With no command waiting, a step is what the device does of itself. -/
theorem step_idle (h : s.pending = []) : step s = .next s.idleStep := by rw [step, h]

theorem step_front {c : Instr} {rest : List Instr} (h : s.pending = c :: rest) : step s = exec c { s with pending := rest } := by rw [step, h]

/-! ### Which of its own does the device do -/

theorem State.idleStep_cell {ci : Nat} (h : (s.cells.map (·.1)).find? s.atReserved = some ci) :
    s.idleStep = s.exec1 ci ((s.fetchWord ci).extractLsb' 120 8).toNat fun _ => illegal s ((s.fetchWord ci).extractLsb' 120 8).toNat := by
  rw [State.idleStep, h]

theorem State.idleStep_link {k : Nat} (hc : (s.cells.map (·.1)).find? s.atReserved = none)
    (h : (s.bed.links.map (·.1)).find? s.linkBusy = some k) : s.idleStep = s.sendPeriod (k / 32) (k % 32) := by
  rw [State.idleStep, hc]
  dsimp only
  rw [h]

theorem State.idleStep_port {p : Nat} (hc : (s.cells.map (·.1)).find? s.atReserved = none) (hl : (s.bed.links.map (·.1)).find? s.linkBusy = none)
    (h : (s.ports.map (·.1)).find? s.portBusy = some p) : s.idleStep = s.sendFrame p := by
  rw [State.idleStep, hc]
  dsimp only
  rw [hl]
  dsimp only
  rw [h]

theorem State.idleStep_none (hc : ∀ ci, s.atReserved ci = false) (hl : ∀ k, s.linkBusy k = false) (hp : ∀ p, s.portBusy p = false) :
    s.idleStep = s := by
  have hnone : ∀ (f : Nat → Bool) (l : List Nat), (∀ x, f x = false) → l.find? f = none := fun f l hf =>
    List.find?_eq_none.mpr fun x _ => by simp [hf x]
  rw [State.idleStep, hnone _ _ hc]
  dsimp only
  rw [hnone _ _ hl]
  dsimp only
  rw [hnone _ _ hp]

/-! ### A cell before a reserved opcode -/

theorem State.exec1_reserved {ci op : Nat} (h : s.atReserved ci = true) (ht : (s.cell ci).traps 10 = true) :
    s.exec1 ci op (fun _ => illegal s op) = (s.cellExc ci 10 none op).trapCell ci 10 op := by
  simp only [State.atReserved, Bool.and_eq_true] at h
  obtain ⟨⟨hready, hfetch⟩, -⟩ := h
  simp only [State.exec1, hready, hfetch, if_true]
  exact State.issue_trap _ _ _ _ _ _ _ _ _ (.inr ht)

/-- The opcode of a word. -/
theorem opcode_toNat (w : BitVec 128) : (w.extractLsb' 120 8).toNat = w.toNat / 2 ^ 120 := by
  have hw := w.isLt
  rw [BitVec.extractLsb'_toNat, Nat.shiftRight_eq_div_pow, Nat.mod_eq_of_lt (by omega)]

/-- A record of lesser severity than FATAL changes the error log alone. -/
theorem keeps_raiseErr {sev : Nat} (h : sev ≠ 3) (code source unit : Nat) (addr : Option Nat) (detail : Nat) :
    keeps s (s.raiseErr sev code source unit addr detail) [.err, .errSeq, .outbox, .store] := by
  have hplace : ∀ (f : ErrFifo) (r : ErrRec), r.sev = sev →
      (State.raiseErr.place s f r).optics = s.optics ∧ (State.raiseErr.place s f r).pwr = s.pwr :=
    fun f r hr => by
      simp only [State.raiseErr.place, hr, h, if_false]
      constructor <;> split <;> simp <;> split <;> simp
  have hboth : (s.raiseErr sev code source unit addr detail).optics = s.optics ∧ (s.raiseErr sev code source unit addr detail).pwr = s.pwr := by
    unfold State.raiseErr
    dsimp only
    split
    · split
      · simp
      · exact hplace _ _ rfl
    · exact hplace _ _ rfl
  simp [keeps, hboth]

theorem keeps_setCell (s : State) (ci : Nat) (x : Cell) : keeps s (s.setCell ci x) [.cells] := by simp [keeps]

/-- An ILLEGAL_OP that traps changes the cell and the error log. -/
theorem keeps_illegalTrap (s : State) (ci op d : Nat) (addr : Option Nat) :
    keeps s ((s.cellExc ci 10 addr d).trapCell ci 10 op) [.cells, .err, .errSeq, .outbox, .store] := by
  have hraise : ∀ u : State, keeps u (u.raiseStatus 10 (ci / 256) (cellRid ci) addr d) [.err, .errSeq, .outbox, .store] := fun u =>
    keeps_raiseErr (by decide) ..
  exact keeps_trans (keeps_trans (keeps_mono (keeps_setCell ..) (by simp)) (keeps_mono (hraise _) (by simp)))
    (keeps_mono (keeps_setCell ..) (by simp))

/-- Settles O53: a step unfolds to its branch, and each command's row is a next state. -/
theorem stepRunsFrontCommand : Obligations.StepRunsFrontCommand := by
  refine ⟨fun c rest s h => step_front h, fun s h hc hl hp => ?none, fun ci s h hfind htraps => ?reserved,
    fun s h hc => ⟨fun k hk => ?link, fun p hl hp => ?port⟩, exec_answersNext⟩
  case none => rw [step_idle h, State.idleStep_none hc hl hp]
  case reserved =>
    obtain ⟨hphase, hpc, hfault, hstatus, -, -, -, -, hother⟩ :=
      s.trap_spec ci (s.fetchWord ci |>.extractLsb' 120 8).toNat 10 (s.fetchWord ci |>.extractLsb' 120 8).toNat none
    refine ⟨_, ?_, hphase, hpc, ?_, hstatus, hother, keeps_illegalTrap ..⟩
    · rw [step_idle h, State.idleStep_cell hfind, State.exec1_reserved (List.find?_some hfind) htraps]
    · rw [hfault, opcode_toNat]
  case link => rw [step_idle h, State.idleStep_link hc hk]
  case port => rw [step_idle h, State.idleStep_port hc hl hp]

end Sys2Proof.Machine
end

section
/-! PROOF. ASYNC_COMPLETION and RUN_COMPLETE (R116, R132 to R134). -/

namespace Sys2Proof.Machine

variable {s : State} {c : CellId} {id st : Nat}

/-- An instruction whose cell holds no signal back leaves its list alone. -/
theorem Cell.dropOp_quiet {x : Cell} (h : x.sigs = []) (id : Nat) : x.dropOp id = { x with ops := x.ops.filter fun y => y.id ≠ id } := by
  rw [Cell.dropOp, h, List.map_nil, ← h]

/-- An instruction that succeeded, without a completion signal, leaves its cell. -/
theorem exec_asyncCompletion {o : AOp} (hop : (s.at c).op o.id = some o) (hleft : o.left = 0) (hstatus : o.status = 0) (hinc : o.sig.inc = 0)
    (hsigs : (s.at c).sigs = []) (hup : s.dieUp (cellIdx c / 256) = true) :
    exec (.asyncCompletion c o.id) s = .next (s.setCell (cellIdx c) ((s.at c).dropOp o.id)) := by
  have hexec : exec (.asyncCompletion c o.id) s = execAsyncCompletion c o.id s := rfl
  have hop' : (s.cell (cellIdx c)).op o.id = some o := hop
  have hworse : worseStatus 0 ((some 0 : Option Nat).getD 0) = 0 := rfl
  have hnone : (((s.cell (cellIdx c)).dropOp o.id).sigs).length = 0 := by
    rw [Cell.dropOp_quiet (x := s.cell (cellIdx c)) hsigs]
    exact congrArg List.length hsigs
  simp only [hexec, execAsyncCompletion, hop', hleft, hup, hinc, hstatus, ne_eq, not_true_eq_false, decide_false, Bool.not_true, Bool.or_self,
    Bool.false_eq_true, if_false, decide_true, Bool.true_or, if_true, hworse, State.asyncExc_zero, State.cell_setCell, hnone]
  rfl

/-! ### The end of a RUN -/

/-- A cell whose RUN has ended. -/
def Cell.idled (x : Cell) : Cell := { x with phase := .idle, run := none, block := none, pendTrap := none }

section
variable (hst : (s.at c).phase.status = some st) (hrun : (s.at c).run = some id)
include hst hrun

theorem exec_runComplete (hops : (s.at c).ops = []) (htq : (s.at c).tq = []) (hsigs : (s.at c).sigs = [])
    (hup : s.dieUp (cellIdx c / 256) = true) : exec (.runComplete c) s = .next (((s.setCell (cellIdx c) (s.at c).idled).noteEnded
      (s.at c).wu (s.at c).lost).cmdDone (cellRid (cellIdx c)) id st (s.at c).status.toNat) := by
  have hexec : exec (.runComplete c) s = execRunComplete c s := rfl
  have hkept : s.releaseSigs (cellIdx c) (s.at c).sigs.length = s := by rw [hsigs]; rfl
  rw [State.at] at *
  simp only [hexec, execRunComplete, hst, hrun]
  rw [if_pos (by simp [hops, htq, hup]), hkept, if_pos hsigs]
  rfl

/-- While something is outstanding, the RUN goes on. -/
theorem exec_runComplete_early (h : (s.at c).ops ≠ [] ∨ (s.at c).tq ≠ []) : exec (.runComplete c) s = .next s := by
  have hexec : exec (.runComplete c) s = execRunComplete c s := rfl
  have hbusy : (decide ((s.cell (cellIdx c)).ops = []) && decide ((s.cell (cellIdx c)).tq = []) && s.dieUp (cellIdx c / 256)) = false := by
    obtain h | h := h <;> rw [State.at] at h <;> simp [h]
  rw [State.at] at *
  simp only [hexec, execRunComplete, hst, hrun, hbusy, Bool.false_eq_true, if_false]

end

theorem State.noteEnded_frame (s : State) (wu : Nat) (lost : Bool) : (s.noteEnded wu lost).cells = s.cells ∧ (s.noteEnded wu lost).mem = s.mem ∧
    (s.noteEnded wu lost).regs = s.regs ∧ (s.noteEnded wu lost).reaches = s.reaches := by
  rw [State.noteEnded]
  split <;> simp

/-- Settles O13: a completed instruction leaves its cell, and a RUN ends once nothing is outstanding. -/
theorem asyncCompletionResults : Obligations.AsyncCompletionResults := by
  refine ⟨fun c s o hop hleft hstatus hinc hsigs hup => ?completion, fun c s id st hrun hphase => ?run⟩
  case completion =>
    rw [exec_asyncCompletion hop hleft hstatus hinc hsigs hup, Cell.dropOp_quiet hsigs]
  case run =>
    have hst : (s.at c).phase.status = some st := by
      obtain ⟨h, rfl⟩ | h := hphase <;> rw [h] <;> rfl
    refine ⟨fun hops htq hsigs hup => ?_, exec_runComplete_early hst hrun⟩
    obtain ⟨hcells, hmem, hregs, hreaches⟩ := (s.setCell (cellIdx c) (s.at c).idled).noteEnded_frame (s.at c).wu (s.at c).lost
    refine ⟨_, exec_runComplete hst hrun hops htq hsigs hup, ?_⟩
    have hcell : (((s.setCell (cellIdx c) (s.at c).idled).noteEnded (s.at c).wu (s.at c).lost).cmdDone
        (cellRid (cellIdx c)) id st (s.at c).status.toNat).at c = (s.at c).idled := by
      rw [State.at, State.cell, State.cmdDone, State.setReach_cells, hcells]
      exact s.cell_setCell ..
    rw [hcell, State.running_cmdDone, State.reach, hreaches]
    exact ⟨rfl, rfl, rfl, rfl, rfl, hmem, hregs, rfl⟩

end Sys2Proof.Machine
end

section
/-! PROOF. An asynchronous instruction issues: one more outstanding, and the cell moves on (R126). -/

namespace Sys2Proof.Machine

variable {s t : State} {c : CellId}

/-- The device in which a cell has one asynchronous instruction more outstanding. -/
def State.opIssued (s : State) (c : CellId) (o : AOp) : State :=
  (s.setCell (cellIdx c) { s.at c with ops := (s.at c).ops ++ [o] }).freshId

/-- Its cells, once the cell has moved on. -/
theorem State.cells_opIssued {o : AOp} (hrun : s.runs c = true) (h : t.cells = (s.opIssued c o).cells) :
    (t.advance (cellIdx c)).cells = (s.ran c { s.at c with ops := (s.at c).ops ++ [o] }).cells := by
  have hcells : t.cells = (s.setCell (cellIdx c) { s.at c with ops := (s.at c).ops ++ [o] }).cells := h
  exact (State.cells_advance hcells).trans
    (congrArg State.cells (s.issue_ran c 0 s { s.at c with ops := (s.at c).ops ++ [o] } (s.runs_running c hrun)))

/-- The instruction with id `id` as it is outstanding, where it names no completion signal. -/
def quietOp (c : CellId) (id : Nat) (kind : AKind) (opcode token : Nat) : AOp :=
  { id, kind, sig := { reach := cellRid (cellIdx c), remote := false, device := 0, token, inc := 0 }, left := 1, status := 0, opcode }

theorem sigOf_none {x : Cell} {field token inc : Nat} (h : inc = 0) (id : Nat) (kind : AKind) (opcode : Nat) :
    sigOf (cellIdx c) x field token inc = some (quietOp c id kind opcode token).sig := if_pos h

theorem Cell.full_of_lt {x : Cell} (h : x.ops.length < 16) : x.full = false := decide_eq_false (by omega)

theorem cellIdx_die (c : CellId) : cellIdx c / 256 = c.die.val := by
  have hcl := c.cluster.isLt
  have hc := c.cell.isLt
  rw [cellIdx]
  omega

end Sys2Proof.Machine
end

section
/-! PROOF. MOVE on this device (R114). -/

namespace Sys2Proof.Machine

variable {s : State} {c : CellId}

/-- The part of a global address that names this device. -/
def State.ownBase (s : State) : Nat := if s.idValid then s.devId * 2 ^ 46 else 0

theorem State.gaDA_own (s : State) {a : Nat} (h : a < 2 ^ 46) : gaDA (s.ownBase + a) = a := by
  rw [gaDA, State.ownBase]
  split <;> omega

theorem State.isLocal_own (s : State) {a : Nat} (h : a < 2 ^ 46) : s.isLocal (gaDev (s.ownBase + a)) = true := by
  have hdev : gaDev (s.ownBase + a) = if s.idValid then s.devId else 0 := by
    rw [gaDev, State.ownBase]
    split <;> omega
  rw [State.isLocal, hdev]
  split <;> exact beq_self_eq_true _

/-- A MOVE as it joins the copies. -/
def MoveOp.joined (m : MoveOp) (regions : Tab Region) (st : Nat) : MoveOp := { m with regions, status := st }

/-- The device in which a MOVE joined the copies. -/
def State.withMove (s : State) (m : MoveOp) : State := { s with moves := s.moves ++ [m] }

/-- A MOVE from this device to this device joins the copies. -/
theorem State.moveStart_local {m : MoveOp} (pe : PortEv) (hs : s.isLocal (gaDev m.src) = true) (hd : s.isLocal (gaDev m.dst) = true) :
    ∃ st, s.moveStart pe m = s.withMove (m.joined s.trg st) := by
  rw [State.moveStart]
  dsimp only
  rw [hs, hd, if_pos (by simp)]
  exact ⟨_, rfl⟩

/-- The MOVE that a cell issues. -/
def cellMove (s : State) (c : CellId) (src dst len : Nat) : MoveOp :=
  { id := s.opNext, owner := .cell (cellIdx c) s.opNext, engine := cellIdx c / 16, die := cellIdx c / 256, src, dst, len, fold := false,
    bf16 := false, sealEpoch := (s.at c).tepoch.toNat % 65536, workUnit := (s.at c).wu, epoch := (s.at c).epoch, status := 0, todo := [],
    left := 0, trls := [], badSlots := [], regions := [] }

theorem exec_move {f : FE} (pe : PortEv) (hrun : s.runs c = true) (hm : f.mods = 0) (hinc : f.increment = 0) (himm : f.immB = 0)
    (hlen : (s.at c).ops.length < 16) (hsrc : ((s.at c).sr f.src.toNat).toNat < 2 ^ 46) (hdst : ((s.at c).sr f.dst.toNat).toNat < 2 ^ 46)
    (hok : s.moveOk none (s.ownBase + ((s.at c).sr f.src.toNat).toNat) (s.ownBase + ((s.at c).sr f.dst.toNat).toNat)
      (FEunits (s.at c) f) false false = true) :
    exec (.move c f pe) s = .next (((s.opIssued c (quietOp c s.opNext .move 0x70 f.token.toNat)).moveStart
      pe (cellMove s c (s.ownBase + ((s.at c).sr f.src.toNat).toNat) (s.ownBase + ((s.at c).sr f.dst.toNat).toNat)
        (FEunits (s.at c) f))).advance (cellIdx c)) := by
  have hbit : ∀ i, mbit 0 i = false := fun i => BitVec.getLsbD_zero
  have hdev : ∀ a, a < 2 ^ 46 → gaDev a = 0 := fun a ha => Nat.div_eq_of_lt ha
  have hown : (if s.idValid then s.devId * 2 ^ 46 else 0) = s.ownBase := rfl
  refine (exec_of_enc rfl hrun (by simp [hm, himm, mbit])).trans ?_
  rw [hm, sigOf_none (by rw [hinc]; rfl) s.opNext .move 0x70]
  simp only [hbit, hdev _ hsrc, hdev _ hdst, hown, Bool.false_eq_true, if_false, ne_eq, not_true_eq_false, decide_false, Bool.or_self,
    Bool.and_false, hok, Bool.not_true, Cell.full_of_lt hlen]
  rfl

end Sys2Proof.Machine
end

section
/-! PROOF. OPROJ, BOUND and WQ (R120, R121, R123). -/

namespace Sys2Proof.Machine

variable {s : State} {c : CellId} {f : FF}

/-- The device in which an entry joined the queue of a Confluence unit. -/
def State.cuQueued (s : State) (t : Nat) (e : CuEntry) : State := s.setCu t { s.cu t with queue := (s.cu t).queue ++ [e] }

theorem State.queue_cuQueued (s : State) (t : Nat) (e : CuEntry) : ((s.cuQueued t e).cu t).queue = (s.cu t).queue ++ [e] :=
  congrArg Cu.queue (tget_tset_self ..)

/-- The entry of an OPROJ of a cell. -/
def cellJob (s : State) (c : CellId) (f : FF) : CuEntry :=
  .oproj (cellIdx c) s.opNext ((s.at c).sr f.sa.toNat).toNat ((s.at c).sr f.sb.toNat).toNat none f.tag.toNat (f.imm16.toNat % 16)
    (f.imm16.toNat / 16 % 4) (f.imm16.toNat / 64) (f.imm32.toNat + 1) (s.at c).wu (s.at c).epoch

theorem exec_oproj (hrun : s.runs c = true) (hm : f.mods = 0) (hinc : f.increment = 0) (him : f.imm16.toNat < 256) (hn : f.imm32.toNat < 65536)
    (hcode : f.imm16.toNat % 16 ≤ 8) (hfmt : f.imm16.toNat / 16 % 4 < 3) (hmode : f.imm16.toNat / 64 < 3) (hsc : f.sc = 0)
    (hlen : (s.at c).ops.length < 16)
    (hin : s.cellLocal (cellIdx c) ((s.at c).sr f.sa.toNat).toNat ((f.imm32.toNat + 1) * cuInBytes (f.imm16.toNat / 16 % 4)) = true)
    (hout : s.cellLocal (cellIdx c) ((s.at c).sr f.sb.toNat).toNat ((f.imm32.toNat + 1) * cuOutBytes (f.imm16.toNat / 64)) = true)
    (htiled : touchesTiled s.trg ((s.at c).sr f.sb.toNat).toNat ((f.imm32.toNat + 1) * cuOutBytes (f.imm16.toNat / 64)) = false) :
    exec (.oproj c f) s = .next (((s.opIssued c (quietOp c s.opNext .oproj 0x90 f.token.toNat)).cuQueued (cellIdx c / 256)
      (cellJob s c f)).advance (cellIdx c)) := by
  have hmod : f.imm16.toNat / 64 % 4 = f.imm16.toNat / 64 := Nat.mod_eq_of_lt (by omega)
  refine (exec_of_enc rfl hrun (by simp [hm, him, hcode, hfmt, hmod, hmode]; omega)).trans ?_
  rw [sigOf_none (by rw [hinc]; rfl) s.opNext .oproj 0x90]
  simp only [hmod, hin, hout, htiled, hsc, Cell.full_of_lt hlen]
  rfl

theorem exec_bound (hrun : s.runs c = true) (hm : f.mods = 0) (hinc : f.increment = 0) (ha : f.sa = 0) (hb : f.sb = 0) (hc : f.sc = 0)
    (hn : f.imm32 = 0) (him : f.imm16.toNat < 4) (hlen : (s.at c).ops.length < 16) (hnone : ∀ o ∈ (s.at c).ops, o.kind ≠ .oproj) :
    exec (.bound c f) s = .next (((s.opIssued c (quietOp c s.opNext .bound 0x93 f.token.toNat)).cuQueued (cellIdx c / 256)
      (.bound (cellIdx c) s.opNext f.tag.toNat (f.imm16.getLsbD 0) (f.imm16.getLsbD 1))).advance (cellIdx c)) := by
  have hany : ((s.at c).ops.any fun o => decide (o.kind = .oproj)) = false := by simpa using hnone
  refine (exec_of_enc rfl hrun (by simp [hm, ha, hb, hc, hn, him])).trans ?_
  rw [sigOf_none (by rw [hinc]; rfl) s.opNext .bound 0x93]
  simp only [hany, Cell.full_of_lt hlen]
  rfl

/-! ### WQ -/

theorem bfld_bput_self {b : List Byte} {lo n v : Nat} (h : lo ≤ b.length) : bfld (bput b lo n v) lo n = v % 256 ^ n := by
  have htake : (b.take lo).length = lo := List.length_take_of_le h
  rw [bfld, bput, List.append_assoc, List.drop_append_of_le_length htake.ge, List.drop_of_length_le htake.le, List.nil_append,
    List.take_append_of_le_length (length_toBytesLE ..).ge, List.take_of_length_le (length_toBytesLE ..).le, ofBytesLE_toBytesLE]

theorem take_bput {b : List Byte} {lo n v k : Nat} (hk : k ≤ lo) (h : lo ≤ b.length) : (bput b lo n v).take k = b.take k := by
  have htake : (b.take lo).length = lo := List.length_take_of_le h
  rw [bput, List.append_assoc, List.take_append_of_le_length (hk.trans htake.ge), List.take_take, min_eq_left hk]

@[simp] theorem length_bput {b : List Byte} {lo n v : Nat} (h : lo + n ≤ b.length) : (bput b lo n v).length = b.length := by
  simp only [bput, List.length_append, List.length_take, length_toBytesLE, List.length_drop]
  omega

/-- The block that a cell's WQ delivers: its bytes, with the cell's work unit and epoch in them. -/
def cellBlock (s : State) (c : CellId) (f : FF) : WBlk :=
  { id := s.opNext, iss := .cell (cellIdx c) s.opNext,
    bytes := bput (bput (s.readMem ((s.at c).sr f.sa.toNat).toNat f.imm32.toNat) 8 4 (s.at c).wu) 12 1 (s.at c).epoch,
    workUnit := (s.at c).wu, epoch := (s.at c).epoch, bcast := false, declared := f.imm32.toNat }

/-- The fields of a block: its header as held in memory, the cell's work unit and epoch. -/
theorem cellBlock_fields (s : State) (c : CellId) (h : 64 ≤ f.imm32.toNat) :
    (cellBlock s c f).bytes.take 8 = s.readMem ((s.at c).sr f.sa.toNat).toNat 8 ∧ bfld (cellBlock s c f).bytes 8 4 = (s.at c).wu ∧
      bfld (cellBlock s c f).bytes 12 1 = (s.at c).epoch := by
  generalize hb : s.readMem ((s.at c).sr f.sa.toNat).toNat f.imm32.toNat = b
  have hlen : b.length = f.imm32.toNat := hb ▸ State.length_readMem ..
  have hbytes : (cellBlock s c f).bytes = bput (bput b 8 4 (s.at c).wu) 12 1 (s.at c).epoch := by rw [← hb]; rfl
  have hin : (bput b 8 4 (s.at c).wu).length = b.length := length_bput (by omega)
  have hwu : (s.at c).wu < 256 ^ 4 := Nat.mod_lt _ (by decide)
  have hepoch : (s.at c).epoch < 256 ^ 1 := Nat.mod_lt _ (by decide)
  rw [hbytes]
  refine ⟨?_, ?_, ?_⟩
  · have hfront := s.drop_take_readMem ((s.at c).sr f.sa.toNat).toNat (n := f.imm32.toNat) (k := 0) (m := 8) (by omega)
    rw [take_bput (by omega) (by omega), take_bput (by omega) (by omega), ← hb]
    simpa using hfront
  · rw [bfld_bput_before (by omega) (by omega), bfld_bput_self (by omega), Nat.mod_eq_of_lt hwu]
  · rw [bfld_bput_self (by omega), Nat.mod_eq_of_lt hepoch]

/-- The device in which a block joined the queue of Weir n. -/
def State.weirQueued (s : State) (n : Nat) (k : WBlk) : State := s.setWeir n { s.weir n with queue := (s.weir n).queue ++ [k] }

theorem State.queue_weirQueued (s : State) (n : Nat) (k : WBlk) : ((s.weirQueued n k).weir n).queue = (s.weir n).queue ++ [k] :=
  congrArg Weir.queue (tget_tset_self ..)

theorem State.weirPath_opIssued (s : State) (c : CellId) (o : AOp) (die n : Nat) : (s.opIssued c o).weirPath die n = s.weirPath die n := by
  have hdie : ∀ a, (s.opIssued c o).dieUp a = s.dieUp a := fun _ => rfl
  have hlinked : ∀ a b, (s.opIssued c o).linked a b = s.linked a b := fun _ _ => rfl
  simp only [State.weirPath, State.diePath, State.spanWeir, hdie, hlinked]

/-- A block goes to the queue of a Weir to which both ways are in service. -/
theorem State.weirDeliver_one {die n : Nat} (h : s.weirPath die n = true) (k : WBlk) : s.weirDeliver die k [n] = some (s.weirQueued n k) := by
  rw [State.weirDeliver, if_pos h]
  rfl

theorem exec_wq {n : Nat} (hrun : s.runs c = true) (hm : f.mods = 0) (hinc : f.increment = 0) (him : f.imm16.toNat = n) (hn : n < 16)
    (hb : f.sb = 0) (hc : f.sc = 0) (ht : f.tag = 0) (hmod : f.imm32.toNat % 64 = 0) (hge : 64 ≤ f.imm32.toNat) (hle : f.imm32.toNat ≤ 65536)
    (hlen : (s.at c).ops.length < 16) (hloc : s.cellLocal (cellIdx c) ((s.at c).sr f.sa.toNat).toNat f.imm32.toNat = true)
    (hcalm : s.calm ((s.at c).sr f.sa.toNat).toNat f.imm32.toNat = true) (hroom : s.weirRoom n = true)
    (hpath : s.weirPath (cellIdx c / 256) n = true) :
    exec (.wq c f) s = .next (((s.opIssued c (quietOp c s.opNext .wq 0x91 f.token.toNat)).weirQueued n (cellBlock s c f)).advance
      (cellIdx c)) := by
  have hbc : (n / 16 % 2 == 1) = false := by rw [Nat.div_eq_of_lt hn]; rfl
  have hmod16 : n % 16 = n := Nat.mod_eq_of_lt hn
  have hmet : s.met (s.viewNow .clear) [(((s.at c).sr f.sa.toNat).toNat, f.imm32.toNat, false)] = s :=
    State.met_calm s _ (by simpa using hcalm) s
  have hread := State.readPE_calm s _ _ hcalm
  have hdeliver : (s.opIssued c (quietOp c s.opNext .wq 0x91 f.token.toNat)).weirDeliver (cellIdx c / 256) (cellBlock s c f) [n] = _ :=
    State.weirDeliver_one ((s.weirPath_opIssued ..).trans hpath) _
  refine (exec_of_enc rfl hrun (by simp [hm, him, hbc, hb, hc, ht, hmod, hge, hle]; omega)).trans ?_
  rw [sigOf_none (by rw [hinc]; rfl) s.opNext .wq 0x91]
  simp only [him, hbc, hmod16, hloc, Cell.full_of_lt hlen, Bool.false_eq_true, if_false, List.all_cons, List.all_nil, hroom, Bool.and_self,
    Bool.not_true, Bool.or_self, hmet, hread]
  exact congrArg (fun o : Option State => Host.Outcome.next (s.issue (cellIdx c) 0x91 (match o with | none => .stall | some t => .ok t))) hdeliver

end Sys2Proof.Machine
end

section
/-! PROOF. EST and the charge of a declaration (R122, R510, R511). -/

namespace Sys2Proof.Machine

variable {s : State} {c : CellId} {f : FF}

/-- A charge is the declaration times the factor, rounded to a neighbouring whole number. -/
theorem charge_bounds (d k : Nat) : charge d k * (2 ^ 28 * 1000) < d * k + 2 ^ 28 * 1000 ∧ d * k < (charge d k + 1) * (2 ^ 28 * 1000) := by
  have hdiv := Nat.div_add_mod (d * k) (2 ^ 28 * 1000)
  have hmod := Nat.mod_lt (d * k) (y := 2 ^ 28 * 1000) (by norm_num)
  rw [charge]
  split
  case isTrue h =>
    have hne : d * k % (2 ^ 28 * 1000) ≠ 0 := of_decide_eq_true ((Bool.and_eq_true _ _).mp h).1
    omega
  case isFalse => omega

/-- The device in which a declaration was charged to its ledger and to the ramp room, the pool untouched. -/
structure State.Charged (s t : State) (l n : Nat) : Prop where
  cells : t.cells = s.cells
  mem : t.mem = s.mem
  balance : (tget .zero t.nrg.ledgers l).bal = (tget .zero s.nrg.ledgers l).bal - n
  pool : t.nrg.pool = s.nrg.pool
  room : tget 0 t.nrg.room (l / 16) = tget 0 s.nrg.room (l / 16) - n

theorem State.admitCharge_zero (s : State) (l cls : Nat) (w : Learn) : s.admitCharge l cls 0 w = .ok s := rfl

/-- A declaration of a cell that its ledger and the ramp room hold is admitted, and taken from them alone (R511). -/
theorem State.admitCharge_held {l cls d die : Nat} (hd : d ≠ 0) (hl : l < 64) (hcap : (tget .zero s.nrg.ledgers l).cap ≠ none)
    (hbal : (charge d (s.factor l cls) : Int) ≤ (tget .zero s.nrg.ledgers l).bal)
    (hroom : (charge d (s.factor l cls) : Int) ≤ tget 0 s.nrg.room (l / 16)) (hpool : 0 ≤ s.nrg.pool) (hpkg : 0 ≤ s.nrg.pkgRoom) :
    ∃ t, s.admitCharge l cls d (.die die) = .ok t ∧ s.Charged t l (charge d (s.factor l cls)) := by
  have hcap' : (tget .zero s.nrg.ledgers l).cap.isSome = true := Option.isSome_iff_ne_none.mpr hcap
  have hmin : 0 ≤ min s.nrg.pool s.nrg.pkgRoom := le_min hpool hpkg
  rw [State.admitCharge, if_neg hd]
  dsimp only
  rw [if_neg (by simp [Int.not_lt.mpr hroom]), if_pos (by simp [hcap']; omega)]
  refine ⟨_, rfl, rfl, rfl, ?_, ?_, ?_⟩
  · simp [hl, Nrg.learn]
    omega
  · simp [hl, Nrg.learn]
    omega
  · simp [hl, Nrg.learn]

/-- EST on an admitted declaration. -/
theorem exec_est {t : State} (hrun : s.runs c = true) (hm : f.mods = 0) (him : f.imm16.toNat < 6) (ha : f.sa = 0) (hb : f.sb = 0) (hc : f.sc = 0)
    (hd : f.sd = 0) (htok : f.token = 0) (hinc : f.increment = 0) (htag : f.tag = 0)
    (hadmit : s.admitCharge (cellIdx c / 16) f.imm16.toNat f.imm32.toNat (.die (cellIdx c / 256)) = .ok t) :
    exec (.est c f) s = .next (t.advance (cellIdx c)) := by
  refine (exec_of_enc rfl hrun (by simp [hm, him, ha, hb, hc, hd, htok, hinc, htag])).trans ?_
  rw [hadmit]
  rfl

/-- Settles O12: each row's issue, then the frame of one more outstanding instruction. -/
theorem asyncIssueResults : Obligations.AsyncIssueResults := by
  refine ⟨fun c f pe s hrun hm hinc himm hlen => ?move, fun c f s hrun hm hinc him hn hcode hfmt hmode hsc hlen => ?oproj,
    fun c f s n hrun hm hinc him hn hb hc ht hmod hge hle hlen hloc hcalm hroom hpath => ?wq,
    fun c f s hrun hm hinc ha hb hc hn him hlen hnone => ?bound, fun c f s hrun hm him ha hb hc hd htok hinc htag => ?est, charge_bounds⟩
  case move =>
    intro src dst len own hsrc hdst hok
    obtain ⟨st, hstart⟩ := State.moveStart_local (s := s.opIssued c (quietOp c s.opNext .move 0x70 f.token.toNat))
      (m := cellMove s c (s.ownBase + src) (s.ownBase + dst) len) pe (s.isLocal_own hsrc) (s.isLocal_own hdst)
    have hexec := exec_move pe hrun hm hinc himm hlen hsrc hdst hok
    rw [show FEunits (s.at c) f = len from rfl, hstart] at hexec
    exact ⟨_, _, _, hexec, rfl, s.gaDA_own hsrc, s.gaDA_own hdst, rfl, rfl, rfl, rfl, rfl, rfl, rfl, State.cells_opIssued hrun rfl, rfl, rfl⟩
  case oproj =>
    intro n inDA outDA hin hout htiled
    refine ⟨_, _, exec_oproj hrun hm hinc him hn hcode hfmt hmode hsc hlen hin hout htiled, rfl, rfl, State.cells_opIssued hrun rfl, rfl, ?_⟩
    rw [← cellIdx_die]
    exact State.queue_cuQueued ..
  case wq =>
    exact ⟨_, _, _, exec_wq hrun hm hinc him hn hb hc ht hmod hge hle hlen hloc hcalm hroom hpath, rfl, rfl, rfl,
      State.cells_opIssued hrun rfl, rfl, State.queue_weirQueued .., rfl, rfl, rfl, cellBlock_fields s c hge⟩
  case bound =>
    refine ⟨_, _, exec_bound hrun hm hinc ha hb hc hn him hlen hnone, rfl, rfl, State.cells_opIssued hrun rfl, rfl, ?_⟩
    rw [← cellIdx_die]
    exact State.queue_cuQueued ..
  case est =>
    intro l led n
    refine ⟨fun hzero => ?_, fun hne hcap hbal hroom hpool hpkg => ?_⟩
    · exact exec_est hrun hm him ha hb hc hd htok hinc htag (by rw [hzero]; rfl)
    · have hl : l < 64 := by have := cellIdx_lt c; omega
      have hdie : l / 16 = cellIdx c / 256 := by omega
      obtain ⟨t, hadmit, hcells, hmem, hbal', hpool', hroom'⟩ := State.admitCharge_held (s := s) (die := cellIdx c / 256)
        (fun h => hne (BitVec.eq_of_toNat_eq h)) hl hcap hbal (by rwa [hdie]) hpool hpkg
      rw [hdie] at hroom'
      exact ⟨_, exec_est hrun hm him ha hb hc hd htok hinc htag hadmit, State.cells_advance hcells, hbal', hpool', hroom', hmem⟩

end Sys2Proof.Machine
end

section
/-! PROOF. Fields of a register: what one reads after a write of the same (R13). -/

namespace Sys2Proof.Machine

variable {s t : State}

theorem testBit_bitsOf (x lo w i : Nat) : (bitsOf x lo w).testBit i = (decide (i < w) && x.testBit (lo + i)) := by
  rw [bitsOf, Nat.testBit_mod_two_pow, Nat.testBit_div_two_pow, Nat.add_comm]

/-- A field just stored reads as stored. -/
theorem Word.fld_setFld (x : Word) {lo w : Nat} (h : lo + w ≤ 32) (v : Nat) : (x.setFld lo w v).fld lo w = v % 2 ^ w := by
  refine Nat.eq_of_testBit_eq fun i => ?_
  rw [Word.fld, testBit_bitsOf, Nat.testBit_mod_two_pow]
  by_cases hi : i < w
  · have hmask : (wmask lo w).getLsbD (lo + i) = true := by
      simp [wmask, BitVec.getLsbD_ofNat, Nat.testBit_mul_two_pow, Nat.testBit_two_pow_sub_one, hi]
      omega
    have hnew : (BitVec.ofNat 32 (v % 2 ^ w * 2 ^ lo)).getLsbD (lo + i) = v.testBit i := by
      simp [BitVec.getLsbD_ofNat, Nat.testBit_mul_two_pow, Nat.testBit_mod_two_pow, hi]
      omega
    rw [decide_eq_true hi, Bool.true_and, Bool.true_and, Word.setFld, BitVec.testBit_toNat, BitVec.getLsbD_or, BitVec.getLsbD_and,
      BitVec.getLsbD_not, hmask, hnew]
    simp
  · simp [hi]

theorem State.rf_setRf (s : State) (off : Nat) {lo w : Nat} (h : lo + w ≤ 32) (v : Nat) : (s.setRf off lo w v).rf off lo w = v % 2 ^ w := by
  rw [State.rf, State.setRf, State.reg_setReg, Word.fld_setFld _ h]

theorem State.rf_of_reg {off : Nat} (h : t.reg off = s.reg off) (lo w : Nat) : t.rf off lo w = s.rf off lo w := by rw [State.rf, h, State.rf]

end Sys2Proof.Machine
end

section
/-! PROOF. The registers of the tiled regions (R194 to R199). -/

namespace Sys2Proof.Machine

variable {s : State} {o : Origin} {dev : Nat} {v : Word}

/-- A write that the register's own rule takes over (R18). -/
theorem State.gate_own {off : Nat} {cur : Word} {act : State → Word → State} {d : RegDesc} {f : State → State} (hb : s.blockAnswers off = true)
    (ha : (s.asleep && gatedBlock off) = false) (hr : regAt off = some d) (hv : v &&& ~~~ d.mask = 0) :
    s.gate o dev off v cur (some f) act = f s := by
  simp [State.gate, State.gateLog, hb, ha, hr, hv]

/-- A word of few enough bits has none above them. -/
theorem clean_of_lt {v : Word} {w : Nat} (h : v.toNat < 2 ^ w) : v &&& ~~~ BitVec.ofNat 32 (2 ^ w - 1) = 0 := by
  refine BitVec.eq_of_getLsbD_eq fun i hi => ?_
  by_cases hiw : i < w
  · simp [BitVec.getLsbD_ofNat, Nat.testBit_two_pow_sub_one, hiw, hi]
  · have hbit : v.getLsbD i = false := Nat.testBit_lt_two_pow (h.trans_le (Nat.pow_le_pow_right (by decide) (by omega)))
    simp [hbit]

theorem trgSel_isReg : isReg Reg.KEY_TRG_SEL .rw 0xFF 0 = true := by decide +kernel

theorem trgCfg_isReg : isReg Reg.KEY_TRG_CFG .rw 0x3FFFF 0x3FFFF = true := by decide +kernel

/-- The device with the staged fields loaded from the entry k. -/
def State.trgLoaded (s : State) (v : Word) (r : Region) : State :=
  ((((((s.setReg Reg.KEY_TRG_SEL v).setReg Reg.KEY_TRG_BASE_LO (BitVec.ofNat 32 r.base)).setReg Reg.KEY_TRG_BASE_HI
    (BitVec.ofNat 32 (r.base / 2 ^ 32))).setReg Reg.KEY_TRG_TRL_LO (BitVec.ofNat 32 r.trl)).setReg Reg.KEY_TRG_TRL_HI
    (BitVec.ofNat 32 (r.trl / 2 ^ 32))).setReg Reg.KEY_TRG_COUNT (BitVec.ofNat 32 r.count)).setReg Reg.KEY_TRG_CFG
    (BitVec.ofNat 32 (r.slotUnits + r.sealFmt * 256 + r.valid.toNat * 65536))

theorem exec_trgSelect (hb : s.blockAnswers Reg.KEY_TRG_SEL = true) (hv : v.toNat < 256) (hidle : s.trgCommit = none) :
    exec (.trgSelect o v) s = .next (s.trgLoaded v (s.region v.toNat)) := by
  have hexec : exec (.trgSelect o v) s = .next (s.wTrgSel o 0 v) := rfl
  obtain ⟨d, hr, hd, hmask, hlog⟩ := regAt_of_isReg trgSel_isReg
  have hclean : v &&& ~~~ d.mask = 0 := by rw [hmask]; exact clean_of_lt (w := 8) hv
  have hown : s.trgBusy = none := by rw [State.trgBusy, hidle]; rfl
  have hfld : v.fld 0 8 = v.toNat := by
    rw [Word.fld, bitsOf, Nat.pow_zero, Nat.div_one]
    exact Nat.mod_eq_of_lt hv
  rw [hexec, State.wTrgSel, hown, State.gate_unlogged hb (Bool.and_false _) hr (RegDesc.hasRwl_only hd (by decide)) hlog, if_pos hclean,
    RegDesc.eff_rw hd, and_mask_of_clean hclean, hfld]
  dsimp only
  rw [State.keepReg_only _ hr hd (by decide)]
  rfl

theorem exec_trgSelect_busy (hb : s.blockAnswers Reg.KEY_TRG_SEL = true) (hv : v.toNat < 256) (hbusy : s.trgCommit.isSome = true) :
    exec (.trgSelect o v) s = .next (s.setRf Reg.KEY_TRG_STATUS 1 3 4) := by
  have hexec : exec (.trgSelect o v) s = .next (s.wTrgSel o 0 v) := rfl
  obtain ⟨d, hr, hd, hmask, hlog⟩ := regAt_of_isReg trgSel_isReg
  have hclean : v &&& ~~~ d.mask = 0 := by rw [hmask]; exact clean_of_lt (w := 8) hv
  have hown : s.trgBusy = some (trgErr 4) := by rw [State.trgBusy, if_pos hbusy]
  rw [hexec, State.wTrgSel, hown, State.gate_own hb (Bool.and_false _) hr hclean]
  rfl

/-- Where the log has a slot and nothing went unlogged, every change is one entry. -/
theorem State.logChange_quiet (hq : quietLog s) (o : Origin) (n obj : Nat) (b : List Byte) :
    s.logChange o n obj b = s.logPut (originCode o) n obj b := by
  obtain ⟨-, hun, hfull⟩ := hq
  have hroom : s.logRoom 1 = true := by simpa [State.logFull, State.logNeed, hun] using hfull
  cases o with
  | autonomous | serviceButton => simp only [State.logChange, State.logAuto, s.tally_none hun, hroom, if_true]
  | host | fabric | debug | keystoneFw | factory => simp only [State.logChange, s.tally_none hun]

/-! ### KEY_TRG_CFG -/

/-- The device in which a write of KEY_TRG_CFG was logged and kept. -/
def State.trgCfgKept (s : State) (o : Origin) (v : Word) : State :=
  (s.logPut (originCode o) 0 Reg.KEY_TRG_CFG (regValue o 0 (s.reg Reg.KEY_TRG_CFG) v 0x3FFFF)).setReg Reg.KEY_TRG_CFG v

section
variable (s : State) (o : Origin) (v : Word)

theorem State.trgCfgKept_trg : (s.trgCfgKept o v).trg = s.trg := by rw [State.trgCfgKept, State.setReg_trg, State.logPut_trg]

theorem State.trgCfgKept_trgCommit : (s.trgCfgKept o v).trgCommit = s.trgCommit := by
  rw [State.trgCfgKept, State.setReg_trgCommit, State.logPut_trgCommit]

theorem State.trgCfgKept_mem : (s.trgCfgKept o v).mem = s.mem := by rw [State.trgCfgKept, State.setReg_mem, State.logPut_mem]

theorem State.trgCfgKept_fuses : (s.trgCfgKept o v).fuses = s.fuses := by rw [State.trgCfgKept, State.setReg_fuses, State.logPut_fuses]

theorem State.trgCfgKept_next : (s.trgCfgKept o v).log.next = s.log.next + 1 := by rw [State.trgCfgKept, State.setReg_log, State.logPut_log]

theorem State.reg_trgCfgKept {q : Nat} (h : q ≠ Reg.KEY_TRG_CFG) (h' : q ≠ Reg.KEY_PST_STATUS) : (s.trgCfgKept o v).reg q = s.reg q := by
  rw [State.trgCfgKept, State.reg_setReg_ne _ _ _ _ h, State.reg_logPut_ne _ _ _ _ _ h']

theorem State.region_trgCfgKept (k : Nat) : (s.trgCfgKept o v).region k = s.region k := by rw [State.region, State.trgCfgKept_trg, State.region]

theorem State.sel_trgCfgKept : (s.trgCfgKept o v).rf Reg.KEY_TRG_SEL 0 8 = s.rf Reg.KEY_TRG_SEL 0 8 :=
  State.rf_of_reg (s.reg_trgCfgKept o v (by decide) (by decide)) 0 8

theorem State.stagedRegion_trgCfgKept : (s.trgCfgKept o v).stagedRegion v = s.stagedRegion v := by
  have hrf : ∀ q lo w, q ≠ Reg.KEY_TRG_CFG → q ≠ Reg.KEY_PST_STATUS → (s.trgCfgKept o v).rf q lo w = s.rf q lo w := fun q lo w h h' =>
    State.rf_of_reg (s.reg_trgCfgKept o v h h') lo w
  simp (disch := decide) only [State.stagedRegion, hrf]

theorem State.rangeStore_congr {s t : State} (h : t.fuses = s.fuses) (da n : Nat) : t.rangeStore da n = s.rangeStore da n := by
  have hstack : t.stackSize = s.stackSize := by rw [State.stackSize, h, State.stackSize]
  have hof : t.storeOf da = s.storeOf da := by rw [State.storeOf, hstack]; rfl
  have hsize : ∀ st, t.storeSize st = s.storeSize st := fun st => by rw [State.storeSize, hstack]; rfl
  rw [State.rangeStore, State.rangeStore, hof]
  cases s.storeOf da with
  | none => rfl
  | some st => simp only [hsize]

theorem State.touchesKv_congr {s t : State} (h : t.reg Reg.KEY_KV_PART = s.reg Reg.KEY_KV_PART) (da n : Nat) :
    t.touchesKv da n = s.touchesKv da n := by
  simp only [State.touchesKv, State.kvBase, State.kvSize, State.rf, h]

theorem State.regionCheck_trgCfgKept (k : Nat) (r : Region) : (s.trgCfgKept o v).regionCheck k r = s.regionCheck k r := by
  simp only [State.regionCheck, State.rangeStore_congr (s.trgCfgKept_fuses o v),
    State.touchesKv_congr (s.reg_trgCfgKept o v (q := Reg.KEY_KV_PART) (by decide) (by decide)), State.trgCfgKept_trg]

end

section
variable (hw : writable s Reg.KEY_TRG_CFG) (hidle : s.trgCommit = none) (hv : v.toNat < 0x40000)
include hw hidle hv

/-- A write of KEY_TRG_CFG that the log takes: with valid = 1 a commit, with valid = 0 an invalidation. -/
theorem State.wTrgCfg_kept : s.wTrgCfg o 0 v =
    let u := s.trgCfgKept o v
    let k := s.rf Reg.KEY_TRG_SEL 0 8
    if !v.bit 16 then u.setRegion k { s.region k with valid := false }
    else if s.regionCheck k (s.stagedRegion v) ≠ 0 then
      trgErr (s.regionCheck k (s.stagedRegion v)) (u.setRb Reg.KEY_TRG_CFG 16 (s.region k).valid)
    else { u with trgCommit := some { entry := k, region := s.stagedRegion v, init := v.bit 17 } } := by
  obtain ⟨hb, -, hq⟩ := hw
  obtain ⟨d, hr, hd, hmask, hlog⟩ := regAt_of_isReg trgCfg_isReg
  have hclean : v &&& ~~~ d.mask = 0 := by rw [hmask]; exact clean_of_lt (w := 18) hv
  have hown : s.trgBusy = none := by rw [State.trgBusy, hidle]; rfl
  rw [State.wTrgCfg, hown, State.gate_logged hb (Bool.and_false _) hr (RegDesc.hasRwl_only hd (by decide)) (by rw [hlog]; decide) hclean hq.2.2,
    RegDesc.eff_rw hd, and_mask_of_clean hclean, hlog, State.logChange_quiet hq]
  dsimp only
  rw [State.keepReg_only _ hr hd (by decide), ← State.trgCfgKept, State.sel_trgCfgKept, State.region_trgCfgKept, State.stagedRegion_trgCfgKept,
    State.regionCheck_trgCfgKept]

end

theorem State.regionCheck_lt (s : State) (k : Nat) (r : Region) : s.regionCheck k r < 8 := by
  rw [State.regionCheck]
  repeat' split
  all_goals decide

/-! ### The end of a commit -/

theorem State.region_setRegion (s : State) (k : Nat) (r : Region) (j : Nat) : (s.setRegion k r).region j = if j = k then r else s.region j :=
  tget_tset ..

/-- The memory that a commit leaves: with init the trailers zeroed. -/
def State.trlZeroed (s : State) (c : TrgCommit) : State :=
  if c.init then s.writeMem c.region.trl (zeros (c.region.count * 8)) else s

theorem exec_trgCommitDone {c : TrgCommit} (hc : s.trgCommit = some c)
    (hstill : c.init = true → s.still c.region.trl (c.region.count * 8) = true) :
    exec (.trgCommitDone .clear) s = .next { (s.trlZeroed c).setRegion c.entry c.region with trgCommit := none } := by
  have hexec : exec (.trgCommitDone .clear) s = execTrgCommitDone .clear s := rfl
  have hlen : (zeros (c.region.count * 8)).length = c.region.count * 8 := List.length_replicate ..
  have hzero : (if c.init then (s.writePE (s.viewNow .clear) c.region.trl (zeros (c.region.count * 8))).met (s.viewNow .clear)
      [(c.region.trl, c.region.count * 8, true)] else s) = s.trlZeroed c := by
    rw [State.trlZeroed]
    split
    case isTrue hinit =>
      have h := hstill hinit
      rw [State.writePE_still _ _ _ (by rwa [hlen]), State.met_calm s _ (by simpa using s.calm_of_still _ _ h)]
    case isFalse => rfl
  simp only [hexec, execTrgCommitDone, hc, hzero]

/-! ### BAR4 (R465, R466) -/

/-- A range without a poisoned unit has no poisoned byte. -/
theorem State.poisonByte_clean {da n i : Nat} (h : s.poisonRange da n = false) (hi : i < n) : s.poisonByte (da + i) = false := by
  rw [State.poisonByte, List.any_eq_false]
  intro kv hkv hset
  simp only [Bool.and_eq_true, beq_iff_eq, decide_eq_decide] at hset
  obtain ⟨⟨hbad, hunit⟩, hside⟩ := hset
  have hrange := List.any_eq_false.mp h kv hkv
  simp only [Bool.and_eq_true, decide_eq_true_eq, hbad, true_and, not_and] at hrange
  have hsame : poisonUnit (da + i) = poisonUnit kv.1 := by simp only [poisonUnit, hside]
  rw [hsame] at hunit
  have hpos : 0 < poisonUnit kv.1 := by rw [poisonUnit]; split <;> decide
  have hle := Nat.div_mul_le_self (da + i) (poisonUnit kv.1)
  have hlt := Nat.lt_div_mul_add hpos (a := da + i)
  rw [hunit] at hrange
  exact hrange (by omega) (by omega)

section
variable {off len : Nat} {data : List Byte} {poisoned : Bool} {pe : PortEv}

theorem exec_bar4Read_asleep (htakes : s.barTakes off len = true) (ha : s.asleep = true) :
    exec (.bar4Read off len pe) s = .next ((s.bump Reg.NRG_ASLEEP_ACCESS).emit (.barRead (List.replicate len 0xFF))) := by
  have hexec : exec (.bar4Read off len pe) s = execBar4Read off len pe s := rfl
  rw [hexec, execBar4Read, htakes, ha]
  rfl

theorem exec_bar4Read_hole (htakes : s.barTakes off len = true) (ha : s.asleep = false) (hnone : s.hostStore (s.barDA off) len = none) :
    exec (.bar4Read off len pe) s =
      .next ((s.emit (.barRead (List.replicate len 0xFF))).raiseErr 2 0x2C dieK 0 (some (s.barDA off)) 0) := by
  have hexec : exec (.bar4Read off len pe) s = execBar4Read off len pe s := rfl
  simp only [hexec, execBar4Read, htakes, ha, hnone, Bool.not_true, Bool.false_eq_true, if_false]

theorem exec_bar4Read (htakes : s.barTakes off len = true) (ha : s.asleep = false) (hsome : (s.hostStore (s.barDA off) len).isSome = true)
    (hclean : s.poisonRange (s.barDA off) len = false) (hcalm : s.calm (s.barDA off) len = true) :
    exec (.bar4Read off len .clear) s = .next (s.emit (.barRead (s.readMem (s.barDA off) len))) := by
  have hexec : exec (.bar4Read off len .clear) s = execBar4Read off len .clear s := rfl
  obtain ⟨st, hst⟩ := Option.isSome_iff_exists.mp hsome
  have hout : (List.range len).map (fun i => if s.poisonByte (s.barDA off + i) then (0xFF : Byte) else (s.readMem (s.barDA off) len).getD i 0) =
      s.readMem (s.barDA off) len := by
    refine List.map_congr_left fun i hi => ?_
    have hi := List.mem_range.mp hi
    rw [State.poisonByte_clean hclean hi, if_neg Bool.false_ne_true]
    exact getD_map_range _ _ hi
  simp only [hexec, execBar4Read, htakes, ha, hst, State.meet_clear, State.readPE_calm _ _ _ hcalm, hout,
    State.met_calm s [(s.barDA off, len, false)] (by simpa using hcalm), hclean, Bool.not_true, Bool.false_eq_true, if_false]

theorem exec_bar4Write_asleep (htakes : s.barTakes off data.length = true) (ha : s.asleep = true) :
    exec (.bar4Write off data poisoned pe) s = .next (s.bump Reg.NRG_ASLEEP_ACCESS) := by
  have hexec : exec (.bar4Write off data poisoned pe) s = execBar4Write off data poisoned pe s := rfl
  rw [hexec, execBar4Write, htakes, ha]
  rfl

section
variable {stop : Bool} (htakes : s.barTakes off data.length = true) (ha : s.asleep = false)
  (hstop : (poisoned || (s.hostStore (s.barDA off) data.length).isNone || touchesTiled s.trg (s.barDA off) data.length ||
    s.touchesKv (s.barDA off) data.length) = stop)
include htakes ha hstop

theorem exec_bar4Write_stopped (h : stop = true) :
    exec (.bar4Write off data poisoned pe) s = .next (s.raiseErr 2 0x2C dieK 0 (some (s.barDA off)) 0) := by
  have hexec : exec (.bar4Write off data poisoned pe) s = execBar4Write off data poisoned pe s := rfl
  simp only [hexec, execBar4Write, htakes, ha, hstop, h, Bool.not_true, Bool.false_eq_true, if_false, if_true]

theorem exec_bar4Write (h : stop = false) (hstill : s.still (s.barDA off) data.length = true) :
    exec (.bar4Write off data poisoned .clear) s = .next (s.writeMem (s.barDA off) data) := by
  have hexec : exec (.bar4Write off data poisoned .clear) s = execBar4Write off data poisoned .clear s := rfl
  simp only [hexec, execBar4Write, htakes, ha, hstop, h, Bool.not_true, Bool.false_eq_true, if_false, State.writePE_still _ _ _ hstill,
    State.met_calm s [(s.barDA off, data.length, true)] (by simpa using s.calm_of_still _ _ hstill)]

end
end

/-- Settles O18: each row's verdict, then what its device reads. -/
theorem regionAndWindowResults : Obligations.RegionAndWindowResults := by
  refine ⟨fun o v s hb hv => ⟨fun hidle => ?select, exec_trgSelect_busy hb hv⟩,
    fun o v s hw hidle hv hbit => ⟨fun hok => ?commit, fun hbad => ?refused⟩, fun o v s hw hidle hv hbit => ?invalidate,
    fun s c hc hstill => ?done,
    fun off len pe s htakes => ⟨exec_bar4Read_asleep htakes, exec_bar4Read_hole htakes,
      fun ha hsome hclean hcalm => ⟨_, exec_bar4Read htakes ha hsome hclean hcalm, rfl, by simp [keeps]⟩⟩,
    fun off data poisoned pe s htakes => ⟨exec_bar4Write_asleep htakes, fun ha => exec_bar4Write_stopped htakes ha rfl,
      fun ha hstop hstill => ⟨_, exec_bar4Write htakes ha rfl hstop hstill, State.readMem_writeMem .., s.byte_writeMem_out _ _, keeps_writeMem ..⟩⟩⟩
  case select =>
    refine ⟨_, exec_trgSelect hb hv hidle, ?_⟩
    rw [State.trgLoaded]
    simp (disch := decide) only [State.reg_setReg, State.reg_setReg_ne, true_and]
    simp [keeps]
  case commit =>
    have hexec : exec (.trgCommit o v) s = .next (s.wTrgCfg o 0 v) := rfl
    rw [hexec, State.wTrgCfg_kept hw hidle hv]
    simp only [hbit, hok, Bool.not_true, Bool.false_eq_true, if_false, ne_eq, not_true_eq_false]
    exact ⟨_, rfl, s.trgCfgKept_trg o v, rfl, s.trgCfgKept_mem o v, s.trgCfgKept_next o v⟩
  case refused =>
    have hexec : exec (.trgCommit o v) s = .next (s.wTrgCfg o 0 v) := rfl
    rw [hexec, State.wTrgCfg_kept hw hidle hv]
    simp only [hbit, hbad, Bool.not_true, Bool.false_eq_true, if_false, ne_eq, not_false_eq_true, if_true]
    refine ⟨_, rfl, s.trgCfgKept_trg o v, (s.trgCfgKept_trgCommit o v).trans hidle, ?_, s.trgCfgKept_mem o v⟩
    rw [trgErr, State.rf_setRf _ _ (by decide)]
    exact Nat.mod_eq_of_lt (s.regionCheck_lt ..)
  case invalidate =>
    have hexec : exec (.trgInvalidate o v) s = .next (s.wTrgCfg o 0 v) := rfl
    rw [hexec, State.wTrgCfg_kept hw hidle hv]
    simp only [hbit, Bool.not_false, if_true]
    refine ⟨_, rfl, ?_, fun j hj => ?_, (s.trgCfgKept_trgCommit o v).trans hidle, s.trgCfgKept_mem o v⟩
    · rw [State.region_setRegion, if_pos rfl]
    · rw [State.region_setRegion, if_neg hj, State.region_trgCfgKept]
  case done =>
    have hlen : (zeros (c.region.count * 8)).length = c.region.count * 8 := List.length_replicate ..
    have hmem : (s.trlZeroed c).trg = s.trg ∧ keeps s (s.trlZeroed c) [.mem] := by
      rw [State.trlZeroed]
      split
      · exact ⟨rfl, keeps_writeMem ..⟩
      · exact ⟨rfl, keeps_refl ..⟩
    refine ⟨_, exec_trgCommitDone hc hstill, rfl, ?_, fun j hj => ?_, ?_, ?_⟩
    · exact (State.region_setRegion ..).trans (if_pos rfl)
    · exact (State.region_setRegion ..).trans ((if_neg hj).trans (congrArg (fun g : Tab Region => tget Region.none g j) hmem.1))
    · refine keeps_trans (keeps_mono hmem.2 (by simp)) ?_
      simp [keeps, State.setRegion]
    · rw [State.trlZeroed]
      split
      · refine ⟨?_, fun a ha => s.byte_writeMem_out _ _ _ (by rwa [hlen])⟩
        exact (congrArg (State.readMem _ _) hlen.symm).trans (s.readMem_writeMem ..)
      · rfl

end Sys2Proof.Machine
end

section
/-! PROOF. The end of a weight load, on a device whose table of Confluence units lists a unit twice. -/

namespace Sys2Proof.Machine

/-- A good image that nothing disturbs is staged by two writes of the unit: the first ends the load, the second stages the set (R262). -/
theorem exec_weightLoadDone_good {t : Fin 4} {s : State} {da : Nat} {w : WSet} (hload : (s.cu t).loading = some da)
    (hpoison : s.poisonRange da 17472 = false) (hcalm : s.calm da 17472 = true) (hw : weightImage (s.readMem da 17472) = some w) :
    exec (.weightLoadDone t .clear) s = .next ((s.setCu t { s.cu t with loading := none }).setCu t { s.cu t with
      loading := none, staged := w, stagedValid := true, drives := (s.setCu t { s.cu t with loading := none }).drivesFor t w }) := by
  have hexec : exec (.weightLoadDone t .clear) s = execWeightLoadDone t .clear s := rfl
  have hmet (u : State) : u.met (s.viewNow .clear) [(da, 17472, false)] = u :=
    s.met_calm _ (by simpa using hcalm) u
  rw [hexec]
  simp only [execWeightLoadDone, hload, State.meet_clear, hmet, hpoison, Bool.false_eq_true, if_false,
    s.readPE_calm da 17472 hcalm, hw]

/-- A unit that is as after reset but for a weight load under way from byte 64 of its die's memory. -/
def loadingCu : Cu := { Cu.reset with loading := some 64 }

/-- The device after reset with a good weight image at byte 64, whose table of Confluence units lists unit 0 twice. -/
def doubledCu : State := { State.reset with cus := [(0, loadingCu), (0, loadingCu)] }.writeMem 64 [6, 0, 2]

theorem doubledCu_cus : doubledCu.cus = [(0, loadingCu), (0, loadingCu)] := rfl

theorem doubledCu_cu : doubledCu.cu 0 = loadingCu := rfl

theorem doubledCu_poisonRange : doubledCu.poisonRange 64 17472 = false := by decide +kernel

theorem doubledCu_calm : doubledCu.calm 64 17472 = true := by decide +kernel

theorem doubledCu_weightImage : weightImage (doubledCu.readMem 64 17472) = some { tag := 6, gain := 2, scales := [], w := [] } := by decide +kernel

/-- The unit's load over, it is as after reset, so writing it back removes both of its entries. -/
theorem doubledCu_loaded_cus : (doubledCu.setCu 0 { doubledCu.cu 0 with loading := none }).cus = [] := rfl

/-- Writing a unit that is not as after reset replaces the first of the two entries and keeps the second. -/
theorem doubledCu_setCu_cus {y : Cu} (hy : y ≠ .reset) : (doubledCu.setCu 0 y).cus = [(0, y), (0, loadingCu)] := by
  simp [State.setCu, doubledCu_cus, tset, hy, tput]

/-- Writing a unit that is not as after reset into a table without entries gives its one entry. -/
theorem setCu_cus_of_nil {s : State} {t : Nat} {y : Cu} (hs : s.cus = []) (hy : y ≠ .reset) : (s.setCu t y).cus = [(t, y)] := by
  simp [State.setCu, hs, tset, hy, tput]

/-- Refutes O23: its fourth part says that WEIGHT_LOAD_DONE of a good image is one write of the unit, but the model first writes the unit
with its load ended. In `doubledCu`, a state outside the canonical form whose table lists unit 0 twice, that first write gives the unit as
after reset and so removes both entries (log 4): the model ends with one entry, the statement's state with two. -/
theorem not_confluenceJobResults : ¬ Obligations.ConfluenceJobResults := by
  unfold Obligations.ConfluenceJobResults
  rintro ⟨-, -, -, hdone, -, -⟩
  have hstated := (hdone 0 doubledCu 64 rfl).1 doubledCu_poisonRange doubledCu_calm _ doubledCu_weightImage
  rw [exec_weightLoadDone_good rfl doubledCu_poisonRange doubledCu_calm doubledCu_weightImage] at hstated
  have hcus := congrArg State.cus (Host.Outcome.next.inj hstated)
  have hstaged {u : Cu} (hu : u.stagedValid = true) : u ≠ .reset := fun h => by simp [h, Cu.reset] at hu
  have htables := (setCu_cus_of_nil doubledCu_loaded_cus (hstaged rfl)).symm.trans (hcus.trans (doubledCu_setCu_cus (hstaged rfl)))
  exact absurd (congrArg List.length htables) (by decide)

end Sys2Proof.Machine
end

section
/-! PROOF. What keeps the canonical form (log 4): the forms in which operations answer states, and the rules for their shapes. -/

namespace Sys2Proof.Machine

set_option Elab.async false

/-! ### The canonical form, and what else may hold a state -/

/-- The canonical form of a state (log 4), as a property that the rules below speak of by name. -/
def State.Canon (s : State) : Prop := canonical s

/-- A state that comes with a value is in canonical form. -/
def State.CanonFst {α : Type} (p : State × α) : Prop := p.1.Canon

/-- An optional state, where there is one, is in canonical form. -/
def State.CanonOpt : Option State → Prop
  | some t => t.Canon
  | none => True

/-- An optional state that comes with a value, where there is one, is in canonical form. -/
def State.CanonOptFst {α : Type} : Option (State × α) → Prop
  | some p => p.1.Canon
  | none => True

/-- Every state that the verdict of an instruction may leave is in canonical form. -/
def Issue.Canon : Issue → Prop
  | .stall => True
  | .ok t => t.Canon
  | .jump t _ => t.Canon
  | .block t => t.Canon
  | .ex _ _ t u _ _ => t.Canon ∧ u.Canon

/-- The state after an injection, where it was sent, is in canonical form. -/
def Inj.Canon : Inj → Prop
  | .sent t => t.Canon
  | _ => True

/-- The state after a declaration, where it was admitted, is in canonical form. -/
def Adm.Canon : Adm → Prop
  | .ok t => t.Canon
  | .wait _ => True

/-- The state that the owner of a flow decides on is in canonical form. -/
def Dedupe.Canon : Dedupe → Prop
  | .apply t => t.Canon
  | .duplicate t => t.Canon
  | .full => True

/-- The state in which a command starts is in canonical form. -/
def Eval.Canon : Eval → Prop
  | .start t => t.Canon
  | _ => True

/-- The state after a codeword period is in canonical form. -/
def Period.Canon (p : Period) : Prop := p.st.Canon

/-- An optional change of state, where there is one, keeps the canonical form. -/
def State.CanonOptFn : Option (State → State) → Prop
  | some f => ∀ s : State, s.Canon → (f s).Canon
  | none => True

/-- The next state that a row answers is in canonical form. -/
def State.CanonNext (o : Host.Outcome State Fault Refusal) : Prop := ∀ t, o = .next t → t.Canon

theorem length_lset {α : Type} (l : List α) (i : Nat) (x : α) : (lset l i x).length = l.length := by
  induction l generalizing i with
  | nil => rfl
  | cons a l ih => cases i <;> simp [lset, ih]

variable {s t : State}

namespace State

/-- The canonical form depends on memory, the route table and the error FIFOs alone. -/
theorem Canon.same (h : s.Canon) (hm : t.mem = s.mem := by rfl) (hr : t.fab.routes = s.fab.routes := by rfl)
    (he : t.err = s.err := by rfl) : t.Canon := by
  unfold Canon canonical at *; rw [hm, hr, he]; exact h

/-- A record update of a state that leaves memory, the routes and the error FIFOs. -/
theorem Canon.upd {pending freeIdx opNext outbox fuses ticks regs trg trgCommit reaches plc cells seedBase moves clash weirs slots
    slotAct cus optics bed ports svcs fab hq nrg sec log store errSeq test pwr} (h : s.Canon)
    (hr : fab.routes = s.fab.routes := by rfl) :
    (State.mk pending freeIdx opNext outbox fuses ticks regs s.mem trg trgCommit reaches plc cells seedBase moves clash weirs slots
      slotAct cus optics bed ports svcs fab hq nrg sec log store errSeq s.err test pwr).Canon :=
  h.same rfl hr rfl

/-- A change of memory that keeps memory's own form. -/
theorem Canon.changeMem {m : Mem} (h : s.Canon) (hm : Memory.wf m = true) : State.Canon { s with mem := m } := ⟨hm, h.2⟩

/-- A change of what waits at the ports of the fabric. -/
theorem Canon.setWaiting {ws : List TxWait} (h : s.Canon) : State.Canon { s with fab := { s.fab with waiting := ws } } := h.upd

theorem Canon.ite {c : Prop} {_ : Decidable c} (h : s.Canon) (h' : t.Canon) : (if c then s else t).Canon := by
  split <;> assumption

/-- A change under a condition. -/
theorem Canon.when {c : Prop} {_ : Decidable c} (h : s.Canon) (ht : s.Canon → t.Canon) : (if c then t else s).Canon :=
  (ht h).ite h

/-- A change under a condition that is not met. -/
theorem Canon.unless {c : Prop} {_ : Decidable c} (h : s.Canon) (ht : s.Canon → t.Canon) : (if c then s else t).Canon :=
  h.ite (ht h)

/-- One of two changes of one state. -/
theorem Canon.branch {c : Prop} {_ : Decidable c} {u : State} (h : s.Canon) (ht : s.Canon → t.Canon) (hu : s.Canon → u.Canon) :
    (if c then t else u).Canon := (ht h).ite (hu h)

/-! One of two values. -/

theorem CanonFst.ite {α : Type} {p q : State × α} {c : Prop} {_ : Decidable c} (h : CanonFst p) (h' : CanonFst q) :
    CanonFst (if c then p else q) := by split <;> assumption

theorem CanonOpt.ite {p q : Option State} {c : Prop} {_ : Decidable c} (h : CanonOpt p) (h' : CanonOpt q) :
    CanonOpt (if c then p else q) := by split <;> assumption

theorem CanonOptFst.ite {α : Type} {p q : Option (State × α)} {c : Prop} {_ : Decidable c} (h : CanonOptFst p) (h' : CanonOptFst q) :
    CanonOptFst (if c then p else q) := by split <;> assumption

theorem CanonOptFn.ite {p q : Option (State → State)} {c : Prop} {_ : Decidable c} (h : CanonOptFn p) (h' : CanonOptFn q) :
    CanonOptFn (if c then p else q) := by split <;> assumption

/-! A value made of a state in canonical form, and the state of such a value. -/

theorem Canon.pair {α : Type} {a : α} (h : s.Canon) : CanonFst (s, a) := h
theorem CanonFst.fst {α : Type} {p : State × α} (h : CanonFst p) : p.1.Canon := h
theorem Canon.opt (h : s.Canon) : CanonOpt (some s) := h
theorem CanonOpt.none : CanonOpt none := trivial
theorem CanonOptFst.none {α : Type} : CanonOptFst (none : Option (State × α)) := trivial
theorem CanonFst.opt {α : Type} {p : State × α} (h : CanonFst p) : CanonOptFst (some p) := h
theorem CanonOptFn.none : CanonOptFn none := trivial
theorem CanonOptFn.ofFn {f : State → State} (h : ∀ s : State, s.Canon → (f s).Canon) : CanonOptFn (some f) := h
theorem Canon.ok (h : s.Canon) : (Issue.ok s).Canon := h
theorem Canon.jump {pc : Nat} (h : s.Canon) : (Issue.jump s pc).Canon := h
theorem Canon.block (h : s.Canon) : (Issue.block s).Canon := h
theorem Canon.ex {code : Nat} {forced : Bool} {a : Option Nat} {d : Nat} (h : s.Canon) (ht : t.Canon) : (Issue.ex code forced s t a d).Canon :=
  ⟨h, ht⟩
theorem Canon.sent (h : s.Canon) : (Inj.sent s).Canon := h
theorem Canon.admitted (h : s.Canon) : (Adm.ok s).Canon := h
theorem Canon.applied (h : s.Canon) : (Dedupe.apply s).Canon := h
theorem Canon.duplicate (h : s.Canon) : (Dedupe.duplicate s).Canon := h
theorem Canon.started (h : s.Canon) : (Eval.start s).Canon := h
theorem Canon.next (h : s.Canon) : CanonNext (.next s) := fun _ e => Host.Outcome.next.inj e ▸ h

/-- The state of an optional state. -/
theorem CanonOpt.get {o : Option State} (h : CanonOpt o) (e : o = .some t) : t.Canon := by subst e; exact h

theorem CanonOptFn.get {o : Option (State → State)} {f : State → State} (h : CanonOptFn o) (e : o = .some f) :
    ∀ s : State, s.Canon → (f s).Canon := by
  subst e; exact h

theorem CanonOpt.getD {o : Option State} (h : CanonOpt o) (ht : t.Canon) : (o.getD t).Canon := by
  cases o with
  | none => exact ht
  | some u => exact h

theorem CanonOpt.map {o : Option State} {f : State → State} (h : CanonOpt o) (hf : ∀ u : State, u.Canon → (f u).Canon) :
    CanonOpt (o.map f) := by
  cases o with
  | none => exact CanonOpt.none
  | some u => exact hf u h

theorem CanonOpt.mapFst {α : Type} {o : Option State} {f : State → State × α} (h : CanonOpt o)
    (hf : ∀ u : State, u.Canon → CanonFst (f u)) : CanonOptFst (o.map f) := by
  cases o with
  | none => exact CanonOptFst.none
  | some u => exact hf u h

theorem CanonOptFst.get {α : Type} {o : Option (State × α)} {p : State × α} (h : CanonOptFst o) (e : o = .some p) : CanonFst p := by
  subst e; exact h

/-- A loop over states. -/
theorem Canon.foldl {α : Type} {f : State → α → State} {l : List α} (h : s.Canon) (hf : ∀ u a, u.Canon → (f u a).Canon) :
    (l.foldl f s).Canon := by
  induction l generalizing s with
  | nil => exact h
  | cons a l ih => exact ih (hf s a h)

theorem CanonFst.foldl {α β : Type} {p : State × β} {f : State × β → α → State × β} {l : List α} (h : CanonFst p)
    (hf : ∀ u a, CanonFst u → CanonFst (f u a)) : CanonFst (l.foldl f p) := by
  induction l generalizing p with
  | nil => exact h
  | cons a l ih => exact ih (hf p a h)

end State

/-! ### The verdicts and answers that hold a state -/

theorem Issue.Canon.ite {p q : Issue} {c : Prop} {_ : Decidable c} (h : p.Canon) (h' : q.Canon) :
    (if c then p else q).Canon := by split <;> assumption
theorem Inj.Canon.ite {p q : Inj} {c : Prop} {_ : Decidable c} (h : p.Canon) (h' : q.Canon) :
    (if c then p else q).Canon := by split <;> assumption
theorem Adm.Canon.ite {p q : Adm} {c : Prop} {_ : Decidable c} (h : p.Canon) (h' : q.Canon) :
    (if c then p else q).Canon := by split <;> assumption
theorem Dedupe.Canon.ite {p q : Dedupe} {c : Prop} {_ : Decidable c} (h : p.Canon) (h' : q.Canon) :
    (if c then p else q).Canon := by split <;> assumption
theorem Eval.Canon.ite {p q : Eval} {c : Prop} {_ : Decidable c} (h : p.Canon) (h' : q.Canon) :
    (if c then p else q).Canon := by split <;> assumption

theorem Issue.Canon.stall : Issue.stall.Canon := trivial
theorem Inj.Canon.stalled : Inj.stalled.Canon := trivial
theorem Inj.Canon.lost : Inj.lost.Canon := trivial
theorem Adm.Canon.wait {r : Bool} : (Adm.wait r).Canon := trivial
theorem Dedupe.Canon.full : Dedupe.full.Canon := trivial
theorem Eval.Canon.under : Eval.under.Canon := trivial
theorem Eval.Canon.wait {w c d r : Bool} : (Eval.wait w c d r).Canon := trivial

/-! The state of an answer that has one. -/

theorem Inj.Canon.get {p : Inj} (h : p.Canon) (e : p = .sent t) : t.Canon := by subst e; exact h
theorem Adm.Canon.get {p : Adm} (h : p.Canon) (e : p = .ok t) : t.Canon := by subst e; exact h
theorem Dedupe.Canon.get {p : Dedupe} (h : p.Canon) (e : p = .apply t) : t.Canon := by subst e; exact h
theorem Dedupe.Canon.get' {p : Dedupe} (h : p.Canon) (e : p = .duplicate t) : t.Canon := by subst e; exact h
theorem Eval.Canon.get {p : Eval} (h : p.Canon) (e : p = .start t) : t.Canon := by subst e; exact h
theorem Period.Canon.st {p : Period} (h : p.Canon) : p.st.Canon := h

end Sys2Proof.Machine
end

section
/-! PROOF. The canonical form through the operations that every family shares. -/

namespace Sys2Proof.Machine.State

set_option Elab.async false

variable {s t : State}

theorem Canon.setReg {off v} (h : s.Canon) : (s.setReg off v).Canon := h.upd
theorem Canon.setRf {off lo w v} (h : s.Canon) : (s.setRf off lo w v).Canon := h.setReg
theorem Canon.setRb {off i b} (h : s.Canon) : (s.setRb off i b).Canon := h.setRf
theorem Canon.bumpN {off n} (h : s.Canon) : (s.bumpN off n).Canon := h.setReg
theorem Canon.bump {off} (h : s.Canon) : (s.bump off).Canon := h.bumpN
theorem Canon.takeFree {n} (h : s.Canon) : (s.takeFree n).Canon := h.upd
theorem Canon.emit {o} (h : s.Canon) : (s.emit o).Canon := h.upd
theorem Canon.freshId (h : s.Canon) : s.freshId.Canon := h.upd
theorem Canon.storePush {u} (h : s.Canon) : (s.storePush u).Canon := h.upd
theorem Canon.reserve (h : s.Canon) : s.reserve.Canon := h.upd.storePush.ite h
theorem Canon.logPut {origin kind obj value} (h : s.Canon) : (s.logPut origin kind obj value).Canon := h.upd.storePush.setRb.reserve
theorem Canon.tally (h : s.Canon) : s.tally.Canon := h.upd.logPut.ite h
theorem Canon.logAuto {o kind obj value} (h : s.Canon) : (s.logAuto o kind obj value).Canon := h.tally.branch (·.logPut) (·.upd)
theorem Canon.logEvent {o code obj detail} (h : s.Canon) : (s.logEvent o code obj detail).Canon := h.logAuto
theorem Canon.refuseLog {o off} (h : s.Canon) : (s.refuseLog o off).Canon := h.setReg.bump

theorem Canon.logChange {o kind obj value} (h : s.Canon) : (s.logChange o kind obj value).Canon := by
  unfold State.logChange
  split
  · exact h.logAuto
  · exact h.logAuto
  · exact h.tally.logPut

theorem Canon.setFifo {sev f} (h : s.Canon) : (s.setFifo sev f).Canon := by
  obtain ⟨hm, hr, he⟩ := h
  exact ⟨hm, hr, (length_lset _ _ _).trans he⟩

theorem Canon.aer {sev} (h : s.Canon) : (s.aer sev).Canon := h.emit.ite (h.ite h.emit)
theorem Canon.fatal {r} (h : s.Canon) : (s.fatal r).Canon := h.upd.upd.emit
theorem Canon.fifoIrq {sev} (h : s.Canon) : (s.fifoIrq sev).Canon := (h.setFifo.when (·.emit)).ite (h.setFifo.ite h)

theorem Canon.place {f r} (h : s.Canon) : (State.raiseErr.place s f r).Canon :=
  (((h.upd.branch (·.setFifo) (·.setFifo)).aer).fifoIrq).branch (·.fatal) (fun h1 => h1.storePush.ite h1)

theorem Canon.raiseErr {sev code source unit addr detail} (h : s.Canon) : (s.raiseErr sev code source unit addr detail).Canon := by
  unfold State.raiseErr
  dsimp only
  split
  · exact h.setFifo.ite h.place
  · exact h.place

theorem Canon.raiseStatus {code source unit addr detail} (h : s.Canon) : (s.raiseStatus code source unit addr detail).Canon :=
  h.ite h.raiseErr

theorem Canon.writeMem {da bs} (h : s.Canon) : (s.writeMem da bs).Canon :=
  ⟨s.wf_writeMem da bs h.1, h.2⟩

theorem Canon.hbmErr {da} (h : s.Canon) : (s.hbmErr da).Canon := by
  unfold State.hbmErr
  dsimp only
  split
  · exact h.upd
  · exact h.storePush.ite h

theorem Canon.eccRead {da len} (h : s.Canon) : (s.eccRead da len).Canon := by
  unfold State.eccRead
  refine h.foldl (fun _ _ h1 => ?_)
  split
  · exact h1
  · exact h1.raiseErr.when (·.hbmErr)

theorem Canon.countCheck {die n} (h : s.Canon) : (s.countCheck die n).Canon := h.bumpN.ite h.bumpN

theorem Canon.countPortBusy {da} (h : s.Canon) : (s.countPortBusy da).Canon := by
  unfold State.countPortBusy
  split
  · exact h.ite h.bump
  · exact h

end Sys2Proof.Machine.State
end

section
/-! PROOF. The canonical form through injection and routes (R417 to R424, R436, R441). -/

namespace Sys2Proof.Machine.State

set_option Elab.async false

variable {s t : State}

theorem Canon.setPort {p x} (h : s.Canon) : (s.setPort p x).Canon := h.upd

theorem Canon.setRoute {k r} (h : s.Canon) : (s.setRoute k r).Canon :=
  ⟨h.1, twf_tset _ _ _ _ h.2.1, h.2.2⟩

theorem Canon.setSpan {d x} (h : s.Canon) : (s.setSpan d x).Canon := h.upd
theorem Canon.setTrk {d i e} (h : s.Canon) : (s.setTrk d i e).Canon := h.setSpan
theorem Canon.txWait {port vc pkt own} (h : s.Canon) : (s.txWait port vc pkt own).Canon := h.upd
theorem Canon.standbyFlip {k} (h : s.Canon) : (s.standbyFlip k).Canon := h.setRoute.upd.logEvent

theorem Canon.sendCopy {k r set pkt owner} (h : s.Canon) : CanonOptFst (s.sendCopy k r set pkt owner) := by
  unfold State.sendCopy
  dsimp only
  split
  · exact CanonOptFst.none
  · refine CanonOptFst.ite CanonOptFst.none ?_
    split
    · exact (h.standbyFlip.ite h).txWait.pair.opt
    · exact (h.standbyFlip.ite h).setSpan.txWait.pair.opt

theorem Canon.sendCopies {k r pkt owner l acc} (h : s.Canon) : CanonFst (s.sendCopies k r pkt owner l acc) := by
  induction l generalizing s acc with
  | nil => exact h
  | cons c l ih =>
    unfold State.sendCopies
    split
    · exact ih h
    next e => exact (ih (h.sendCopy.get e)).fst.pair

theorem Canon.twinUp {x1} (h : s.Canon) : (s.twinUp x1).Canon := by
  unfold State.twinUp
  split
  · exact h.setTrk.setTrk
  · exact h

theorem Canon.inject {die pkt owner} (h : s.Canon) : (s.inject die pkt owner).Canon :=
  Inj.Canon.ite Inj.Canon.lost (Inj.Canon.ite Inj.Canon.lost (Inj.Canon.ite Inj.Canon.stalled (Inj.Canon.ite Inj.Canon.stalled
    (Inj.Canon.ite Inj.Canon.stalled (Inj.Canon.ite Inj.Canon.lost (h.sendCopies.fst.twinUp.when (·.upd)).sent)))))

end Sys2Proof.Machine.State
end

section
/-! PROOF. The canonical form through reaches, tokens, pools and the completion of submission-queue entries. -/

namespace Sys2Proof.Machine.State

set_option Elab.async false

variable {s t : State}

theorem Canon.setReach {r x} (h : s.Canon) : (s.setReach r x).Canon := h.upd

theorem Canon.setTok {r i v} (h : s.Canon) : (s.setTok r i v).Canon := by
  unfold State.setTok
  split
  · exact h.writeMem
  · exact h.setReach

theorem Canon.setPool {r p v} (h : s.Canon) : (s.setPool r p v).Canon := by
  unfold State.setPool
  split
  · exact h.writeMem
  · exact h.setReach

theorem Canon.tokAdd {r i inc} (h : s.Canon) : (s.tokAdd r i inc).Canon := h.setTok
theorem Canon.setCell {i c} (h : s.Canon) : (s.setCell i c).Canon := h.upd
theorem Canon.overflowAt {r} (h : s.Canon) : (s.overflowAt r).Canon := h.setCell.ite h

theorem Canon.signalLocal {r i inc} (h : s.Canon) : CanonFst (s.signalLocal r i inc) :=
  CanonFst.ite h.tokAdd.overflowAt.raiseErr.pair h.tokAdd.pair

theorem Canon.setWeir {n w} (h : s.Canon) : (s.setWeir n w).Canon := h.upd
theorem Canon.giveLocal {r p units} (h : s.Canon) : (s.giveLocal r p units).Canon := h.setPool
theorem Canon.setPlc {item e} (h : s.Canon) : (s.setPlc item e).Canon := h.upd
theorem Canon.discard (h : s.Canon) : s.discard.Canon := h.bump

theorem Canon.applySignal {die r i inc units wu epoch give} (h : s.Canon) : CanonFst (s.applySignal die r i inc units wu epoch give) :=
  CanonFst.ite h.pair (CanonFst.ite h.pair (CanonFst.ite h.discard.pair (CanonFst.ite h.giveLocal.pair h.signalLocal)))

theorem Canon.sendSignal {die owner loc dev r i inc units wu epoch give} (h : s.Canon) : CanonOptFst
    (s.sendSignal die owner loc dev r i inc units wu epoch give) := by
  unfold State.sendSignal
  refine CanonOptFst.ite h.applySignal.fst.pair.opt ?_
  split
  · exact CanonOptFst.none
  · exact h.pair.opt
  next e1 => exact (h.inject.get e1).pair.opt

theorem Canon.sendHeader {die owner x3 wu epoch} (h : s.Canon) : CanonOptFst (s.sendHeader die owner x3 wu epoch) :=
  CanonOptFst.ite h.sendSignal h.pair.opt

theorem Canon.admitCharge {ledger cls d l} (h : s.Canon) : (s.admitCharge ledger cls d l).Canon :=
  Adm.Canon.ite h.admitted (Adm.Canon.ite Adm.Canon.wait (Adm.Canon.ite h.upd.admitted Adm.Canon.wait))

theorem Canon.setSq {q x} (h : s.Canon) : (s.setSq q x).Canon := h.upd
theorem Canon.setCq {c x} (h : s.Canon) : (s.setCq c x).Canon := h.upd
theorem Canon.mboxWrite {m status q idx result} (h : s.Canon) : (s.mboxWrite m status q idx result).Canon := h.setReg.setReg.setReg

theorem Canon.sqDone {q idx status result aux} (h : s.Canon) : CanonOpt (s.sqDone q idx status result aux) := by
  unfold State.sqDone
  dsimp only
  split
  · exact h.opt
  · split
    · exact CanonOpt.none
    next e1 => exact CanonOpt.ite ((CanonOptFst.ite h.sendHeader h.pair.opt).get e1).fst.setSq.opt (((CanonOptFst.ite h.sendHeader
      h.pair.opt).get e1).fst.setSq.when (·.mboxWrite.upd)).setCq.opt

end Sys2Proof.Machine.State
end

section
/-! PROOF. The canonical form through the accesses of cell instructions (R128, R168 to R172). -/

namespace Sys2Proof.Machine.State

set_option Elab.async false

variable {s t : State}

theorem Canon.meet {pe da len} (h : s.Canon) : (s.meet pe da len).Canon := by
  unfold State.meet
  split
  · split
    · exact h.raiseErr.ite h
    · exact h
  · exact (h.changeMem (Mem.wf_setBad _ _ _ h.1)).ite h
  · exact h

theorem Canon.noteClash {v da n} (h : s.Canon) : (s.noteClash v da n).Canon := by
  unfold State.noteClash
  split
  · exact h
  · exact h.upd

theorem Canon.writePE {v da bs} (h : s.Canon) : (s.writePE v da bs).Canon := by
  unfold State.writePE
  refine .noteClash ?_
  split
  · exact h.writeMem
  · exact h.writeMem.writeMem

theorem Canon.met {v accs} (h : s.Canon) : (s.met v accs).Canon := (h.countPortBusy.ite h).when (·.takeFree)
theorem Canon.writeTile {v r da bs t} (h : s.Canon) : (s.writeTile v r da bs t).Canon := h.writePE.writePE

end Sys2Proof.Machine.State
end

section
/-! PROOF. The canonical form through asynchronous operations in flight. -/

namespace Sys2Proof.Machine.State

set_option Elab.async false

variable {s t : State}

theorem Canon.settle (h : s.Canon) : s.settle.Canon := by
  unfold State.settle
  split
  · exact h
  · exact h.upd

end Sys2Proof.Machine.State
end

section
/-! PROOF. The canonical form through copies, folds and MOVEs (R187 to R191, R232 to R234). -/

namespace Sys2Proof.Machine.State

set_option Elab.async false

variable {s t : State}

theorem Canon.foldTile {v n r da b16 data fmt arrOk wu epoch} (h : s.Canon) : CanonFst (s.foldTile v n r da b16 data fmt arrOk wu epoch) :=
  CanonFst.ite h.pair (CanonFst.ite h.discard.pair (CanonFst.ite h.eccRead.writeTile.bump.pair h.eccRead.writeTile.bump.countCheck.pair))

theorem Canon.writeKeep {v da bs keep} (h : s.Canon) : (s.writeKeep v da bs keep).Canon := by
  have hw := h.writePE (v := v) (da := da) (bs := bs.zipIdx.map fun p => if keep p.2 then s.byte (da + p.2) else p.1)
  obtain ⟨-, hbad⟩ := Bool.and_eq_true_iff.mp h.1
  obtain ⟨hbytes, -⟩ := Bool.and_eq_true_iff.mp hw.1
  exact hw.changeMem (Bool.and_eq_true_iff.mpr ⟨hbytes, twf_filter _ _ _ hbad⟩)

theorem Canon.foldUntiled {v n dst data badAt wu epoch} (h : s.Canon) : CanonFst (s.foldUntiled v n dst data badAt wu epoch) :=
  CanonFst.ite h.discard.pair (CanonFst.ite h.writeKeep.bumpN.countCheck.pair h.writeKeep.bumpN.pair)

theorem Canon.copyPlain {v vr src dst len} (h : s.Canon) : CanonFst (s.copyPlain v vr src dst len) :=
  CanonFst.ite h.writeKeep.pair h.writePE.pair

theorem Canon.sealSlot {v r da epoch bs bad} (h : s.Canon) : (s.sealSlot v r da epoch bs bad).Canon := h.writeTile

theorem Canon.sealTiles {v src r dst epoch n} (h : s.Canon) : CanonFst (s.sealTiles v src r dst epoch n) :=
  h.pair.foldl (fun _ _ h1 => h1.fst.sealSlot.pair)

theorem Canon.copyTiles {v vr a b src dst n} (h : s.Canon) : CanonFst (s.copyTiles v vr a b src dst n) :=
  h.pair.foldl (fun _ _ h1 => h1.fst.writePE.writePE.pair)

theorem Canon.unpackTiles {v a src dst n} (h : s.Canon) : CanonFst (s.unpackTiles v a src dst n) :=
  h.pair.foldl (fun _ _ h1 => (h1.fst.when (·.writePE)).pair)

theorem Canon.foldTiles {v n a b src dst b16 wu epoch count} (h : s.Canon) : CanonFst (s.foldTiles v n a b src dst b16 wu epoch count) :=
  h.pair.foldl (fun _ _ h1 => h1.fst.foldTile.fst.pair)

theorem CanonFst.checked {die r} (h : CanonFst r) : CanonFst (checked die r) := CanonFst.ite h.fst.pair h.fst.countCheck.pair

theorem Canon.moveLocal {v m} (h : s.Canon) : CanonFst (s.moveLocal v m) := by
  unfold State.moveLocal
  refine CanonFst.ite ?_ (CanonFst.ite h.discard.pair ?_)
  · split
    · exact (h.foldTiles.fst.met.unless (·.takeFree)).pair
    · exact (h.foldUntiled.fst.met.unless (·.takeFree)).pair
  · split
    · exact (h.copyTiles.checked.fst.met.unless (·.takeFree)).pair
    · exact (h.unpackTiles.checked.fst.met.unless (·.takeFree)).pair
    · exact (h.sealTiles.fst.met.unless (·.takeFree)).pair
    · exact (h.copyPlain.fst.met.unless (·.takeFree)).pair

theorem Canon.setMove {m} (h : s.Canon) : (s.setMove m).Canon := h.upd

theorem Canon.pump {id n} (h : s.Canon) : (s.pump id n).Canon := by
  induction n generalizing s with
  | zero => exact h
  | succ n ih =>
    unfold State.pump
    split
    · exact h
    · split
      · exact h
      · split
        · exact h
        · exact h.setMove
        next e => exact ih (h.inject.get e).setMove

theorem Canon.moveStart {pe m} (h : s.Canon) : (s.moveStart pe m).Canon :=
  h.upd.ite (((h.meet.ite h).when (·.eccRead.met)).when (·.countCheck)).upd.pump

theorem Canon.finishTiles {v m r b n} (h : s.Canon) : CanonFst (s.finishTiles v m r b n) := by
  unfold State.finishTiles
  dsimp only
  refine h.pair.foldl (fun _ _ h1 => ?_)
  split
  · exact h1.fst.writePE.pair
  · exact h1

theorem Canon.moveEnd {pe m} (h : s.Canon) : CanonFst (s.moveEnd pe m) := by
  unfold State.moveEnd
  refine CanonFst.ite h.pair (CanonFst.ite h.pair (CanonFst.ite (h.meet.eccRead.moveLocal.fst.ite h).takeFree.pair (CanonFst.ite
    h.meet.eccRead.moveLocal (CanonFst.ite ?_ h.pair))))
  split
  · exact h.finishTiles.checked.fst.met.pair
  · exact h.pair

end Sys2Proof.Machine.State
end

section
/-! PROOF. The canonical form through exceptions and issue (R130 to R133). -/

namespace Sys2Proof.Machine.State

set_option Elab.async false

variable {s t : State}

theorem Canon.cellExc {ci code addr detail} (h : s.Canon) : (s.cellExc ci code addr detail).Canon := h.setCell.raiseStatus
theorem Canon.trapCell {ci code opcode} (h : s.Canon) : (s.trapCell ci code opcode).Canon := h.setCell

theorem Canon.asyncExc {ci code opcode} (h : s.Canon) : (s.asyncExc ci code opcode).Canon :=
  h.ite (h.cellExc.when (fun h1 => h1.trapCell.ite h1.setCell))

theorem Canon.advance {ci} (h : s.Canon) : (s.advance ci).Canon := h.setCell

theorem Canon.boundary {ci} (h : s.Canon) : (s.boundary ci).Canon := by
  unfold State.boundary
  split
  · exact h.trapCell.ite h
  · exact h

theorem Canon.issue {ci opcode} {i : Issue} (h : s.Canon) (hi : i.Canon) : (s.issue ci opcode i).Canon := by
  cases i with
  | stall => exact h
  | ok t => exact Canon.advance hi
  | jump t pc => exact Canon.setCell hi
  | block t => exact hi
  | ex code forced t u addr d =>
    obtain ⟨ht, hu⟩ := hi
    exact ht.cellExc.trapCell.ite hu.cellExc.advance

theorem Canon.illegal {opcode} (h : s.Canon) : (illegal s opcode).Canon := h.ex h
theorem Canon.addrFault {opcode da} (h : s.Canon) : (addrFault s opcode da).Canon := h.ex h

theorem Canon.exec1 {ci opcode f} (h : s.Canon) (hf : ∀ x, (f x).Canon) : (s.exec1 ci opcode f).Canon :=
  (h.issue (Issue.Canon.ite (hf _) h.addrFault)).ite h

theorem Canon.unblock {ci} (h : s.Canon) : (s.unblock ci).Canon := h.setCell.advance.boundary

end Sys2Proof.Machine.State
end

section
/-! PROOF. The canonical form through system, scalar, memory and branch instructions (R98 to R103). -/

namespace Sys2Proof.Machine.State

set_option Elab.async false

variable {s t : State}

theorem Canon.enc {opcode ok k} (h : s.Canon) (hk : Issue.Canon k) : (enc s opcode ok k).Canon := Issue.Canon.ite hk h.illegal
theorem Canon.execNop {c f} (h : s.Canon) : CanonNext (execNop c f s) := (h.exec1 (fun _ => h.enc h.ok)).next
theorem Canon.execHalt {c f} (h : s.Canon) : CanonNext (execHalt c f s) := (h.exec1 (fun _ => h.enc h.setCell.block)).next
theorem Canon.execTrap {c f} (h : s.Canon) : CanonNext (execTrap c f s) := (h.exec1 (fun _ => h.enc (h.ex h))).next

theorem Canon.execFence {c f} (h : s.Canon) : CanonNext (execFence c f s) :=
  (h.exec1 (fun _ => h.enc (Issue.Canon.ite h.ok h.setCell.block))).next

theorem Canon.execSread {c f} (h : s.Canon) : CanonNext (execSread c f s) :=
  (h.exec1 (fun _ => h.enc (Issue.Canon.ite Issue.Canon.stall (h.takeFree.ite h).setCell.ok))).next

theorem Canon.execSwrite {c f} (h : s.Canon) : CanonNext (execSwrite c f s) :=
  (h.exec1 (fun _ => h.enc (Issue.Canon.ite Issue.Canon.stall h.setCell.ok))).next

theorem Canon.alu {c f opcode g} (h : s.Canon) : (s.alu c f opcode g).Canon := h.exec1 (fun _ => h.enc h.setCell.ok)
theorem Canon.execAdd {c f} (h : s.Canon) : CanonNext (execAdd c f s) := h.alu.next
theorem Canon.execSub {c f} (h : s.Canon) : CanonNext (execSub c f s) := h.alu.next
theorem Canon.execMul {c f} (h : s.Canon) : CanonNext (execMul c f s) := h.alu.next
theorem Canon.execMulhu {c f} (h : s.Canon) : CanonNext (execMulhu c f s) := h.alu.next
theorem Canon.execAnd {c f} (h : s.Canon) : CanonNext (execAnd c f s) := h.alu.next
theorem Canon.execOr {c f} (h : s.Canon) : CanonNext (execOr c f s) := h.alu.next
theorem Canon.execXor {c f} (h : s.Canon) : CanonNext (execXor c f s) := h.alu.next
theorem Canon.execShl {c f} (h : s.Canon) : CanonNext (execShl c f s) := h.alu.next
theorem Canon.execShr {c f} (h : s.Canon) : CanonNext (execShr c f s) := h.alu.next
theorem Canon.execSra {c f} (h : s.Canon) : CanonNext (execSra c f s) := h.alu.next
theorem Canon.execMin {c f} (h : s.Canon) : CanonNext (execMin c f s) := h.alu.next
theorem Canon.execMax {c f} (h : s.Canon) : CanonNext (execMax c f s) := h.alu.next
theorem Canon.execSlt {c f} (h : s.Canon) : CanonNext (execSlt c f s) := h.alu.next
theorem Canon.execSltu {c f} (h : s.Canon) : CanonNext (execSltu c f s) := h.alu.next
theorem Canon.execSel {c f} (h : s.Canon) : CanonNext (execSel c f s) := (h.exec1 (fun _ => h.enc h.setCell.ok)).next
theorem Canon.execLi {c f} (h : s.Canon) : CanonNext (execLi c f s) := (h.exec1 (fun _ => h.enc h.setCell.ok)).next
theorem Canon.execAddi {c f} (h : s.Canon) : CanonNext (execAddi c f s) := (h.exec1 (fun _ => h.enc h.setCell.ok)).next

theorem Canon.portIssue {v da len write opcode} {t : State} (h : t.Canon) : (portIssue t v da len write opcode).Canon :=
  Issue.Canon.ite (h.met.ex h.met) h.met.ok

theorem Canon.execLd {c f pe} (h : s.Canon) : CanonNext (execLd c f pe s) :=
  (h.exec1 (fun _ => h.enc (Issue.Canon.ite h.addrFault (Issue.Canon.ite (h.meet.eccRead.ex h.meet.eccRead)
    h.meet.setCell.portIssue)))).next

theorem Canon.storeIssue {x pe da bs opcode} (h : s.Canon) : (s.storeIssue x pe da bs opcode).Canon :=
  Issue.Canon.ite (h.discard.ex h.discard) h.writePE.portIssue

theorem Canon.execSt {c f pe} (h : s.Canon) : CanonNext (execSt c f pe s) :=
  (h.exec1 (fun _ => h.enc (Issue.Canon.ite h.addrFault h.storeIssue))).next

theorem Canon.atomicIssue {ci x pe rd opcode remote cas ga a b} (h : s.Canon) : (s.atomicIssue ci x pe rd opcode remote cas ga a b).Canon
    := by
  unfold State.atomicIssue
  refine Issue.Canon.ite h.addrFault (Issue.Canon.ite (Issue.Canon.ite h.addrFault (Issue.Canon.ite (h.setCell.ex h.setCell)
    (Issue.Canon.ite (h.meet.eccRead.ex h.meet.eccRead) (Issue.Canon.ite (h.meet.discard.setCell.ex h.meet.discard.setCell)
    (Canon.portIssue (.setCell ?_)))))) (Issue.Canon.ite h.addrFault ?_))
  · split
    · exact h.meet.writePE
    · exact h.meet
  · split
    · exact Issue.Canon.stall
    · exact h.setCell.ex h.setCell
    next e1 => exact (h.inject.get e1).setCell.block

theorem Canon.execAadd {c f pe} (h : s.Canon) : CanonNext (execAadd c f pe s) := (h.exec1 (fun _ => h.enc h.atomicIssue)).next
theorem Canon.execAcas {c f pe} (h : s.Canon) : CanonNext (execAcas c f pe s) := (h.exec1 (fun _ => h.enc h.atomicIssue)).next

theorem Canon.branchIf {x offset opcode x4} (h : s.Canon) : (branchIf s x offset opcode x4).Canon := by
  unfold Machine.branchIf
  split
  · exact h.jump
  · exact h.ok
  · exact h.illegal

theorem Canon.execBr {c f} (h : s.Canon) : CanonNext (execBr c f s) := (h.exec1 (fun _ => h.enc h.branchIf)).next
theorem Canon.execJmp {c f} (h : s.Canon) : CanonNext (execJmp c f s) := (h.exec1 (fun _ => h.enc h.jump)).next
theorem Canon.execJal {c f} (h : s.Canon) : CanonNext (execJal c f s) := (h.exec1 (fun _ => h.enc h.setCell.jump)).next
theorem Canon.execJr {c f} (h : s.Canon) : CanonNext (execJr c f s) := (h.exec1 (fun _ => h.enc (Issue.Canon.ite h.addrFault h.jump))).next
theorem Canon.execBp {c f} (h : s.Canon) : CanonNext (execBp c f s) := (h.exec1 (fun _ => h.enc h.branchIf)).next

end Sys2Proof.Machine.State
end

section
/-! PROOF. The canonical form through the tensor instructions and the tensor queue (R104 to R109, R143 to R153). -/

namespace Sys2Proof.Machine.State

set_option Elab.async false

variable {s t : State}

theorem Canon.cellSignal {ci g opcode} (h : s.Canon) : CanonOpt (s.cellSignal ci g opcode) := by
  unfold State.cellSignal
  refine CanonOpt.ite (CanonOpt.ite h.discard.asyncExc.opt h.tokAdd.asyncExc.opt) ?_
  split
  · exact CanonOpt.none
  next e1 => exact (h.sendSignal.get e1).fst.asyncExc.opt
  next e1 => exact (h.sendSignal.get e1).fst.opt

theorem Canon.releaseSigs {ci n} (h : s.Canon) : (s.releaseSigs ci n).Canon := by
  induction n generalizing s with
  | zero => exact h
  | succ n ih =>
    unfold State.releaseSigs
    split
    · exact h
    · split
      · exact h
      next e => exact ih (h.cellSignal.get e).setCell

theorem Canon.tqPush {ci x e} (h : s.Canon) : (s.tqPush ci x e).Canon := Issue.Canon.ite Issue.Canon.stall h.setCell.ok

theorem Canon.execMma {c f} (h : s.Canon) : CanonNext (execMma c f s) := by
  unfold Machine.execMma
  dsimp only
  refine (h.exec1 (fun _ => ?_)).next
  split
  · exact h.illegal
  · exact h.enc (Issue.Canon.ite h.addrFault (Issue.Canon.ite h.addrFault h.tqPush))

theorem Canon.execAccz {c f} (h : s.Canon) : CanonNext (execAccz c f s) := (h.exec1 (fun _ => h.enc h.tqPush)).next

theorem Canon.execAccld {c f} (h : s.Canon) : CanonNext (execAccld c f s) :=
  (h.exec1 (fun _ => h.enc (Issue.Canon.ite h.addrFault h.tqPush))).next

theorem Canon.execAccst {c f} (h : s.Canon) : CanonNext (execAccst c f s) :=
  (h.exec1 (fun _ => h.enc (Issue.Canon.ite h.addrFault h.tqPush))).next

theorem Canon.execDld {c f pe} (h : s.Canon) : CanonNext (execDld c f pe s) :=
  (h.exec1 (fun _ => h.enc (Issue.Canon.ite h.addrFault (Issue.Canon.ite (h.meet.eccRead.ex h.meet.eccRead)
    h.meet.setCell.portIssue)))).next

theorem Canon.execDst {c f pe} (h : s.Canon) : CanonNext (execDst c f pe s) :=
  (h.exec1 (fun _ => h.enc (Issue.Canon.ite h.addrFault h.storeIssue))).next

theorem Canon.execDadd {c f} (h : s.Canon) : CanonNext (execDadd c f s) :=
  (h.exec1 (fun _ => h.enc (Issue.Canon.ite h.addrFault h.setCell.ok))).next

theorem Canon.runEntry {ci v e} (h : s.Canon) : CanonFst (s.runEntry ci v e) := by
  unfold State.runEntry
  split
  · exact h.setCell.pair
  · split
    · exact CanonFst.ite h.setCell.pair h.setCell.countCheck.pair
    · exact h.pair
  · split
    · exact CanonFst.ite h.setCell.pair h.setCell.countCheck.pair
    · exact h.pair
  · split
    · exact CanonFst.ite (h.setCell.ite h).discard.pair (h.setCell.ite h).writeTile.pair
    · exact h.pair

theorem Canon.execTensorEntryComplete {c pe} (h : s.Canon) : CanonNext (execTensorEntryComplete c pe s) := by
  unfold Machine.execTensorEntryComplete
  refine Canon.next ?_
  split
  · exact h
  · exact h.ite ((h.setCell.unless (fun h1 => h1.foldl (fun _ _ h2 => h2.meet))).runEntry.fst.unless (fun h1 => h1.foldl
    (fun _ _ h2 => h2.eccRead))).met.setCell.settle.asyncExc.releaseSigs

end Sys2Proof.Machine.State
end

section
/-! PROOF. The canonical form through moves, tokens, credits, EST and waking (R114 to R119, R122). -/

namespace Sys2Proof.Machine.State

set_option Elab.async false

variable {s t : State}

theorem Canon.execMove {c f pe} (h : s.Canon) : CanonNext (execMove c f pe s) := by
  unfold Machine.execMove
  refine (h.exec1 (fun _ => h.enc ?_)).next
  split
  · exact h.addrFault
  · exact Issue.Canon.ite h.addrFault (Issue.Canon.ite h.addrFault (Issue.Canon.ite Issue.Canon.stall h.setCell.freshId.moveStart.ok))

theorem Canon.signalNow {ci x g opcode units give} (h : s.Canon) : (s.signalNow ci x g opcode units give).Canon := by
  unfold State.signalNow
  refine Issue.Canon.ite (Issue.Canon.ite (h.discard.ex h.discard) (Issue.Canon.ite (h.tokAdd.ex h.tokAdd) h.tokAdd.ok)) ?_
  split
  · exact Issue.Canon.stall
  next e1 => exact (h.sendSignal.get e1).fst.ok
  next e1 => exact (h.sendSignal.get e1).fst.ex (h.sendSignal.get e1).fst
  next e1 => exact (h.sendSignal.get e1).fst.ok

theorem Canon.execSignal {c f} (h : s.Canon) : CanonNext (execSignal c f s) := by
  unfold Machine.execSignal
  refine (h.exec1 (fun _ => h.enc ?_)).next
  split
  · exact h.addrFault
  · exact Issue.Canon.ite h.setCell.signalNow h.setCell.setCell.ok

theorem Canon.execWait {c f} (h : s.Canon) : CanonNext (execWait c f s) :=
  (h.exec1 (fun _ => h.enc (Issue.Canon.ite (h.setTok.ite h).setCell.ok h.setCell.block))).next

theorem Canon.execWaitTimeout {c} (h : s.Canon) : CanonNext (execWaitTimeout c s) := by
  unfold Machine.execWaitTimeout
  refine Canon.next ?_
  split
  · exact h.setCell.unblock.ite h
  · exact h

theorem Canon.execTake {c f} (h : s.Canon) : CanonNext (execTake c f s) :=
  (h.exec1 (fun _ => h.enc (Issue.Canon.ite h.ok (Issue.Canon.ite (h.ex h) (Issue.Canon.ite h.setPool.ok h.setCell.block))))).next

theorem Canon.execGive {c f} (h : s.Canon) : CanonNext (execGive c f s) := by
  unfold Machine.execGive
  refine (h.exec1 (fun _ => h.enc ?_)).next
  split
  · exact h.addrFault
  · exact Issue.Canon.ite h.ok h.signalNow

theorem Canon.execTread {c f} (h : s.Canon) : CanonNext (execTread c f s) := (h.exec1 (fun _ => h.enc h.setCell.ok)).next

theorem Canon.execEst {c f} (h : s.Canon) : CanonNext (execEst c f s) := by
  unfold Machine.execEst
  refine (h.exec1 (fun _ => h.enc ?_)).next
  split
  next e1 => exact (h.admitCharge.get e1).ok
  · exact (h.bump.when (·.bump)).setCell.block

theorem Canon.estRetry {ci} (h : s.Canon) : (s.estRetry ci).Canon := by
  unfold State.estRetry
  dsimp only
  split
  · split
    next e1 => exact (h.admitCharge.get e1).unblock
    · exact h.bump.setCell.ite h
  · exact h

theorem Canon.execCellWake {c} (h : s.Canon) : CanonNext (execCellWake c s) := by
  unfold Machine.execCellWake
  refine (h.ite ?_).next
  split
  · exact (h.setTok.ite h).setCell.unblock.ite h
  · exact (h.setCell.issue (h.setCell.ex h.setCell)).boundary.ite (h.setPool.unblock.ite h)
  · exact h.estRetry
  · exact h.unblock.ite h
  · exact h

theorem Canon.opDone {ci id status} (h : s.Canon) : (s.opDone ci id status).Canon := by
  unfold State.opDone
  dsimp only
  split
  · exact h.setCell
  · exact h

theorem Canon.execAsyncCompletion {c id} (h : s.Canon) : CanonNext (execAsyncCompletion c id s) := by
  unfold Machine.execAsyncCompletion
  dsimp only
  refine Canon.next ?_
  split
  · exact h
  · refine h.ite ?_
    split
    · exact h
    next e1 => exact ((CanonOptFst.ite h.pair.opt h.sendSignal).get e1).fst.setCell.asyncExc.releaseSigs

theorem Canon.cmdDone {r id status data} (h : s.Canon) : (s.cmdDone r id status data).Canon := h.setReach
theorem Canon.noteEnded {wu lost} (h : s.Canon) : (s.noteEnded wu lost).Canon := h.setPlc.ite h

theorem Canon.execRunComplete {c} (h : s.Canon) : CanonNext (execRunComplete c s) := by
  unfold Machine.execRunComplete
  refine Canon.next ?_
  split
  · exact (h.releaseSigs.when (·.setCell.noteEnded.cmdDone)).ite h
  · exact h

end Sys2Proof.Machine.State
end

section
/-! PROOF. The canonical form through readiness and device events (R485, R497, R636 to R638). -/

namespace Sys2Proof.Machine.State

set_option Elab.async false

variable {s t : State}

theorem Canon.devCause {bit} (h : s.Canon) : (s.devCause bit).Canon := h.ite h.setRb.emit
theorem Canon.readyUpd (h : s.Canon) : s.readyUpd.Canon := h.ite ((h.setReg.when (·.setRf)).when (·.setRf)).devCause
theorem Canon.setReady {bit x} (h : s.Canon) : (s.setReady bit x).Canon := h.ite h.setRb.devCause

end Sys2Proof.Machine.State
end

section
/-! PROOF. The canonical form through the gate of a register write (R9 to R18, R573 to R580). -/

namespace Sys2Proof.Machine.State

set_option Elab.async false

variable {s t : State}

theorem Canon.keepReg {off x} (h : s.Canon) : (s.keepReg off x).Canon := by
  unfold State.keepReg
  split
  · exact h.setReg
  · exact h

theorem Canon.gateLog {o off v cur own entry act} (h : s.Canon) (hown : CanonOptFn own) (hact : ∀ u a, u.Canon →
    (act u a).Canon) : (s.gateLog o off v cur own entry act).Canon := by
  unfold State.gateLog
  dsimp only
  refine h.ite (h.bump.ite ?_)
  split
  · exact h.bump
  · split
    · exact (hown.get rfl) _ (h.ite h.bump)
    · exact (hact _ _ ((h.ite h.bump).when (·.bump))).ite (((h.ite h.bump).when (·.bump)).refuseLog.ite ((h.ite h.bump).upd.ite
      (hact _ _ ((h.ite h.bump).when (·.bump)).logChange)))

theorem Canon.gate {o dev off v cur own act} (h : s.Canon) (hown : CanonOptFn own) (hact : ∀ u a, u.Canon →
    (act u a).Canon) : (s.gate o dev off v cur own act).Canon :=
  h.gateLog hown hact

theorem Canon.plainWrite {o dev off v} (h : s.Canon) : (s.plainWrite o dev off v).Canon := h.gate CanonOptFn.none (fun _ _ h1 => h1.keepReg)
theorem Canon.counted {reg : Nat} (h : s.Canon) : (Machine.counted reg s).Canon := h.bump
theorem Canon.ignoreIf {b reg} : CanonOptFn (ignoreIf b reg) := CanonOptFn.ite (CanonOptFn.ofFn (fun _ h1 => h1.counted)) CanonOptFn.none
theorem Canon.dropIf {b} : CanonOptFn (dropIf b) := CanonOptFn.ite (CanonOptFn.ofFn (fun _ h1 => h1)) CanonOptFn.none

theorem CanonOptFn.orElseIgn {a b} (h : CanonOptFn a) (hb : CanonOptFn b) : CanonOptFn (orElseIgn a b) := by
  unfold Machine.orElseIgn
  split
  · exact CanonOptFn.ofFn (h.get rfl)
  · exact hb

end Sys2Proof.Machine.State
end

section
/-! PROOF. The canonical form through reach commands (R45 to R89). -/

namespace Sys2Proof.Machine.State

set_option Elab.async false

variable {s t : State}

theorem Canon.childDone {r id st data} (h : s.Canon) : (s.childDone r id st data).Canon := h.setReach

theorem Canon.report {iss st data} (h : s.Canon) : CanonOpt (s.report iss st data) := by
  unfold State.report
  split
  · exact h.sqDone
  · exact h.childDone.opt
  · exact h.opt
  · exact h.opt

theorem Canon.cmdAnswered {r id st} (h : s.Canon) : (s.cmdAnswered r id st).Canon := h.setReach

theorem Canon.showQueue {r} (h : s.Canon) : (s.showQueue r).Canon := by
  unfold State.showQueue
  split
  · exact h.writeMem
  · exact h

theorem Canon.pullQueue {r} (h : s.Canon) : (s.pullQueue r).Canon := h.setReach.showQueue
theorem Canon.enqueue {c} (h : s.Canon) : (s.enqueue c).Canon := h.setReach.pullQueue.ite h.setReach

theorem Canon.sendOn {dev c} (h : s.Canon) : CanonOpt (s.sendOn dev c) := by
  unfold State.sendOn
  refine CanonOpt.ite h.enqueue.opt ?_
  split
  · exact CanonOpt.none
  · exact (h.report.getD h).opt
  next e1 =>
    split
    · exact (h.inject.get e1).opt
    · exact ((h.inject.get e1).report.getD (h.inject.get e1)).opt

theorem Canon.admitCmd {c} (h : s.Canon) : CanonOpt (s.admitCmd c) := CanonOpt.ite (CanonOpt.ite h.setPlc.opt h.sendOn) h.enqueue.opt

theorem Canon.cmdReject {iss b st} (h : s.Canon) : CanonOpt (s.cmdReject iss b st) := by
  unfold State.cmdReject
  dsimp only
  split
  · exact CanonOpt.none
  next e1 => exact ((CanonOptFst.ite h.pair.opt h.sendHeader).get e1).fst.raiseStatus.report

theorem Canon.arrive {iss b} (h : s.Canon) : CanonOpt (s.arrive iss b) := by
  unfold State.arrive
  dsimp only
  split
  · exact h.freshId.admitCmd
  · exact h.cmdReject

theorem Canon.sqDispatch {q idx} (h : s.Canon) : (s.sqDispatch q idx).Canon := by
  unfold State.sqDispatch
  dsimp only
  split
  · exact h.setSq
  · exact h

theorem Canon.execCommandEnqueue {iss bytes} (h : s.Canon) : CanonNext (execCommandEnqueue iss bytes s) := by
  unfold Machine.execCommandEnqueue
  dsimp only
  refine Canon.next ?_
  split
  · split
    · exact h
    · exact h.ite (h.sqDispatch.arrive.getD h)
  · split
    · exact h
    · exact h.setReach.arrive.getD h
  · exact h.arrive.getD h

theorem Canon.consume {r b} (h : s.Canon) : (s.consume r b).Canon := (h.setTok.ite h).when (·.setTok)

theorem Canon.cmdAdmit {r c} (h : s.Canon) : (s.cmdAdmit r c).Canon :=
  Adm.Canon.ite h.admitCharge (Adm.Canon.ite h.admitted (Adm.Canon.ite h.admitCharge (Adm.Canon.ite h.admitCharge h.admitCharge)))

theorem Canon.evalCmd {r c} (h : s.Canon) : (s.evalCmd r c).Canon := by
  unfold State.evalCmd
  refine Eval.Canon.ite Eval.Canon.under (Eval.Canon.ite Eval.Canon.wait (Eval.Canon.ite Eval.Canon.wait
    (Eval.Canon.ite Eval.Canon.wait ?_)))
  split
  · exact Eval.Canon.wait
  next e1 => exact ((h.cmdAdmit.get e1).consume.unless (·.setPool)).started

theorem Canon.startCmd {r c done} (h : s.Canon) : (s.startCmd r c done).Canon := h.setReach.pullQueue
theorem Canon.countDefer {r c ramp} (h : s.Canon) : (s.countDefer r c ramp).Canon := ((h.ite h.bump).when (·.bump)).setReach

theorem Canon.startFrom {r head l} (h : s.Canon) : (s.startFrom r head l).Canon := by
  induction l generalizing s head with
  | nil => exact h
  | cons c l ih =>
    unfold State.startFrom
    refine (ih h).ite ?_
    dsimp only
    split
    next e => exact (h.evalCmd.get e).startCmd.when (·.setReach)
    · exact h.startCmd.when (·.setReach)
    · exact ih ((h.setReach.ite h).when (·.countDefer))

theorem Canon.startEval {r} (h : s.Canon) : (s.startEval r).Canon := by
  unfold State.startEval
  refine h.startFrom.ite (.ite ?_ h)
  split
  · exact h.startCmd
  · exact h

theorem Canon.execCommandStart {r} (h : s.Canon) : CanonNext (execCommandStart r s) := h.startEval.next
theorem Canon.modCmd {r id f} (h : s.Canon) : (s.modCmd r id f).Canon := h.setReach

theorem Canon.execCommandComplete {r id} (h : s.Canon) : CanonNext (execCommandComplete r id s) := by
  unfold Machine.execCommandComplete
  dsimp only
  refine Canon.next ?_
  split
  · exact h
  · split
    · exact h
    · refine h.ite ?_
      split
      · exact h
      next e1 => exact ((CanonOptFst.ite h.pair.opt h.sendHeader).get e1).fst.modCmd
      next e1 => exact (((CanonOptFst.ite h.pair.opt h.sendHeader).get e1).fst.setReach.unless (·.raiseStatus)).report.getD h

theorem Canon.sendKids {r id l n st} (h : s.Canon) : CanonOptFst (s.sendKids r id l n st) := by
  induction l generalizing s n st with
  | nil => exact h.pair.opt
  | cons k l ih =>
    unfold State.sendKids
    refine CanonOptFst.ite (ih h.freshId.enqueue) ?_
    dsimp only
    split
    · exact CanonOptFst.none
    · exact ih h
    next e => exact ih (h.inject.get e)

theorem Canon.doSplit {r y inner desc} (h : s.Canon) : (s.doSplit r y inner desc).Canon := by
  unfold State.doSplit
  dsimp only
  split
  · exact h.cmdDone
  · split
    · exact h.cmdDone
    · split
      · exact h
      next e1 => exact (h.modCmd.sendKids.get e1).fst.modCmd

theorem Canon.execRun {r id} (h : s.Canon) : CanonNext (execRun r id s) := by
  unfold Machine.execRun
  refine Canon.next ?_
  split
  · exact h
  · exact (h.setCell.modCmd.ite h.cmdDone).ite h.doSplit

theorem Canon.execSplit {r id} (h : s.Canon) : CanonNext (execSplit r id s) := by
  unfold Machine.execSplit
  refine Canon.next ?_
  split
  · exact h
  · exact h.cmdDone.ite (h.cmdDone.ite h.doSplit)

theorem Canon.execMoveReachCommand {r id pe} (h : s.Canon) : CanonNext (execMoveReachCommand r id pe s) := by
  unfold Machine.execMoveReachCommand
  refine Canon.next ?_
  split
  · exact h
  · exact h.doSplit.ite (h.cmdDone.ite h.freshId.moveStart.modCmd)

theorem Canon.execSignalReachCommand {r id} (h : s.Canon) : CanonNext (execSignalReachCommand r id s) := by
  unfold Machine.execSignalReachCommand
  refine Canon.next ?_
  split
  · exact h
  · refine h.cmdDone.modCmd.ite ?_
    split
    · exact h
    next e1 => exact (h.sendHeader.get e1).fst.cmdDone.modCmd
    next e1 => exact (h.sendHeader.get e1).fst.modCmd

theorem Canon.execWaitReachCommand {r id} (h : s.Canon) : CanonNext (execWaitReachCommand r id s) := by
  unfold Machine.execWaitReachCommand
  refine Canon.next ?_
  split
  · exact h
  · exact h.cmdDone

theorem Canon.execGiveReachCommand {r id} (h : s.Canon) : CanonNext (execGiveReachCommand r id s) := by
  unfold Machine.execGiveReachCommand
  refine Canon.next ?_
  split
  · exact h
  · refine h.cmdDone.ite ?_
    split
    · exact h
    next e1 => exact (h.sendSignal.get e1).fst.cmdDone
    next e1 => exact (h.sendSignal.get e1).fst.modCmd

theorem Canon.sendCopiesOf {item devs} (h : s.Canon) : (s.sendCopiesOf item devs).Canon := h.foldl (fun _ _ h1 => h1.emit)

theorem Canon.placeEnd {item} (h : s.Canon) : (s.placeEnd item).Canon := by
  unfold State.placeEnd
  refine h.ite ?_
  split
  · exact h
  · exact (h.setPlc.unless (·.sendCopiesOf)).cmdDone.ite h.setPlc.cmdDone

theorem Canon.execPlace {id} (h : s.Canon) : CanonNext (execPlace id s) := by
  unfold Machine.execPlace
  refine Canon.next ?_
  split
  · exact h
  · refine h.ite (h.cmdDone.ite ?_)
    split
    · exact h.cmdDone
    · exact h.cmdDone.ite h.setPlc.modCmd.sendCopiesOf.placeEnd

theorem Canon.execPlaceRelease {id} (h : s.Canon) : CanonNext (execPlaceRelease id s) := by
  unfold Machine.execPlaceRelease
  refine Canon.next ?_
  split
  · exact h
  · exact h.ite (h.cmdDone.ite h.setPlc.modCmd.sendCopiesOf.placeEnd)

theorem Canon.releaseHeld {item l} (h : s.Canon) : CanonOpt (s.releaseHeld item l) := by
  induction l generalizing s with
  | nil => exact h.opt
  | cons c l ih =>
    unfold State.releaseHeld
    dsimp only
    split
    · exact CanonOpt.none
    next e => exact ih (h.sendOn.get e)

theorem Canon.migrateStep {item} (h : s.Canon) : (s.migrateStep item).Canon := by
  unfold State.migrateStep
  refine h.ite ?_
  dsimp only
  split
  · exact h
  next t e =>
    have ht : t.Canon := by
      refine CanonOpt.get (CanonOpt.ite ?_ h.opt) e
      split
      · exact CanonOpt.none
      next e => exact (h.releaseHeld.get e).setPlc.opt
    split
    · exact ht
    · exact ht.setPlc.sendCopiesOf.cmdDone.ite ht

theorem Canon.execMigrateDrain {id} (h : s.Canon) : CanonNext (execMigrateDrain id s) := by
  unfold Machine.execMigrateDrain
  refine Canon.next ?_
  split
  · exact h
  · refine h.ite ?_
    split
    · exact h.setPlc.modCmd.sendCopiesOf
    · exact h.cmdDone

theorem Canon.newEpoch {item} (h : s.Canon) : (s.newEpoch item).Canon := h.setPlc.sendCopiesOf.migrateStep

theorem Canon.execDrainedToken {item} (h : s.Canon) : CanonNext (execDrainedToken item s) :=
  (h.ite ((h.ite h.newEpoch).ite (h.setPlc.emit.ite h))).next

theorem Canon.fenceCell {item ci} (h : s.Canon) : (s.fenceCell item ci).Canon := by
  unfold State.fenceCell
  refine h.setCell.setPlc.ite ?_
  split
  · exact h
  · exact h.bumpN.setCell.setReach.setPlc

theorem Canon.fenceRuns {item r} (h : s.Canon) : (s.fenceRuns item r).Canon := h.setReach.setPlc
theorem Canon.fenceQueue {item r} (h : s.Canon) : (s.fenceQueue item r).Canon := h.setReach.pullQueue.setPlc
theorem Canon.writeReport {pe item} (h : s.Canon) : (s.writeReport pe item).Canon := h.writePE.met.ite h.emit

theorem Canon.fenceSettle {pe item} (h : s.Canon) : (s.fenceSettle pe item).Canon :=
  (((h.foldl (fun _ _ h1 => h1.fenceCell)).foldl (fun _ _ h1 => h1.fenceRuns)).foldl
    (fun _ _ h1 => h1.fenceQueue)).setPlc.settle.writeReport

theorem Canon.execMigrateFence {id pe} (h : s.Canon) : CanonNext (execMigrateFence id pe s) := by
  unfold Machine.execMigrateFence
  refine Canon.next ?_
  split
  · exact h
  · refine h.ite ?_
    split
    · exact (h.ite h.setPlc.sendCopiesOf).branch (·.setPlc.modCmd) (fun h1 => h1.ite h1.modCmd.fenceSettle.newEpoch)
    · exact h.cmdDone

theorem Canon.execFenceUnitResolved {item wu report pe} (h : s.Canon) : CanonNext (execFenceUnitResolved item wu report pe s) := by
  unfold Machine.execFenceUnitResolved
  refine (h.ite ?_).next
  split
  · exact h.ite (h.setPlc.writeReport.branch (·.migrateStep) (·.newEpoch))
  · refine (h.fenceSettle.ite h).ite ?_
    split
    · exact h.setPlc.writeReport.when (·.migrateStep)
    · exact h

theorem Canon.takeCopy {c} (h : s.Canon) : (s.takeCopy c).Canon := by
  unfold State.takeCopy
  refine .emit (.ite ?_ (h.setPlc.when (·.fenceSettle)))
  split
  next e1 => exact ((h.setPlc.when (·.fenceSettle)).releaseHeld.get e1).setPlc
  · exact h.setPlc.when (·.fenceSettle)

theorem Canon.execPlacementCopyAck {id dev st copy} (h : s.Canon) : CanonNext (execPlacementCopyAck id dev st copy s) := by
  unfold Machine.execPlacementCopyAck
  refine Canon.next ?_
  split
  · exact h.ite h.takeCopy
  · split
    · exact h
    · exact h.setPlc.branch (·.migrateStep) (·.placeEnd)

theorem Canon.wRchData {o dev off v} (h : s.Canon) : (s.wRchData o dev off v).Canon :=
  h.gate (Canon.ignoreIf.orElseIgn Canon.dropIf) (fun _ _ h1 => h1.setReach)

theorem Canon.execPoolCapacityWrite {o off v} (h : s.Canon) : CanonNext (execPoolCapacityWrite o off v s) := (h.wRchData.ite h).next

end Sys2Proof.Machine.State
end

section
/-! PROOF. The canonical form through Bed links (R326 to R355). -/

namespace Sys2Proof.Machine.State

set_option Elab.async false

variable {s t : State}

theorem Canon.setLink {a b x} (h : s.Canon) : (s.setLink a b x).Canon := h.upd
theorem Canon.setLane {i x} (h : s.Canon) : (s.setLane i x).Canon := h.upd
theorem Canon.laneRepair {i} (h : s.Canon) : (s.laneRepair i).Canon := h.storePush
theorem Canon.laneOut {i cause planned} (h : s.Canon) : (s.laneOut i cause planned).Canon := h.setLane.when (·.laneRepair)
theorem Canon.announce {a b ch} (h : s.Canon) : (s.announce a b ch).Canon := h.setLink.emit

theorem Canon.retirePos {a b p cause planned} (h : s.Canon) : (s.retirePos a b p cause planned).Canon := by
  unfold State.retirePos
  refine h.ite ((h.announce.unless (·.setLink)).ite ?_)
  split
  · exact (h.announce.unless (·.setLink)).announce
  · exact h.announce.unless (·.setLink)

theorem Canon.retireLane {i cause planned} (h : s.Canon) : (s.retireLane i cause planned).Canon := by
  unfold State.retireLane
  dsimp only
  split
  · exact h
  · split
    · exact h.retirePos.ite h.laneOut
    · exact h.laneOut
    · exact h.setLane
    · exact h.laneOut.ite h
    · exact h.laneOut.ite h
    · exact h

theorem Canon.askRetire {i cause} (h : s.Canon) : (s.askRetire i cause).Canon := by
  unfold State.askRetire
  split
  · exact h
  · exact (h.setLink.when (·.setLink.emit)).ite h.retireLane

theorem Canon.laneBack {i} (h : s.Canon) : (s.laneBack i).Canon := by
  unfold State.laneBack
  dsimp only
  split
  · exact h
  · split
    · exact h.setLane.laneOut
    · split
      · exact h.setLane.announce
      · exact h.setLane

theorem Canon.applyChange {a b x3} (h : s.Canon) : (s.applyChange a b x3).Canon := by
  unfold State.applyChange
  split
  · split
    · exact h.laneOut
    · exact h
  · refine h.setLane.ite ?_
    split
    · exact h.announce
    · exact h

theorem Canon.applyChanges {a b p} (h : s.Canon) : (s.applyChanges a b p).Canon := (h.setLink.foldl (fun _ _ h1 => h1.applyChange)).setLink

theorem Canon.bedRetrain {a b} (h : s.Canon) : (s.bedRetrain a b).Canon :=
  (h.applyChanges.foldl (fun _ _ h1 => h1.setLane)).setLink.readyUpd

theorem Canon.bedTrain {a b} (h : s.Canon) : (s.bedTrain a b).Canon := (h.foldl (fun _ _ h1 => h1.ite h1.setLane)).setLink.readyUpd

theorem Canon.bedDown {a b} (h : s.Canon) : (s.bedDown a b).Canon :=
  h.ite (h.foldl (fun _ _ h1 => h1.ite h1.setLane)).setLink.upd.raiseErr.readyUpd

theorem Canon.bedDieDown {die} (h : s.Canon) : (s.bedDieDown die).Canon := h.foldl (fun _ _ h1 => h1.bedDown)
theorem Canon.bedDieUp {die} (h : s.Canon) : (s.bedDieUp die).Canon := h.foldl (fun _ _ h1 => h1.bedTrain.ite h1)

theorem Canon.bedPark (h : s.Canon) : s.bedPark.Canon := by
  unfold State.bedPark
  dsimp only
  refine h.foldl (fun _ _ h1 => (h1.applyChanges.foldl (fun _ _ h2 => ?_)).setLink.ite h1)
  split
  · exact h2.setLane
  · exact h2.setLane
  · exact h2.setLane
  · exact h2

theorem Canon.bedUnpark (h : s.Canon) : s.bedUnpark.Canon :=
  h.foldl (fun _ _ h1 => (h1.foldl (fun _ _ h2 => h2.setLane.ite h2)).setLink.ite h1)

theorem Canon.execBedTrainingStart {src dst} (h : s.Canon) : CanonNext (execBedTrainingStart src dst s) := (h.bedTrain.ite h).next
theorem Canon.execBedDownRetry {src dst} (h : s.Canon) : CanonNext (execBedDownRetry src dst s) := (h.bedTrain.ite h).next

theorem Canon.fillFrom {a b l} (h : s.Canon) : (s.fillFrom a b l).Canon := by
  induction l generalizing s with
  | nil => exact h
  | cons p l ih =>
    unfold State.fillFrom
    split
    · exact ih h.setLane
    · exact h

theorem Canon.lanesUp {a b} (h : s.Canon) : (s.lanesUp a b).Canon := by
  unfold State.lanesUp
  dsimp only
  refine (h.foldl (fun _ _ h1 => ?_)).fillFrom
  split
  · exact h1.setLane.laneOut
  · exact h1.setLane

theorem Canon.execBedTrainingDone {src dst failed} (h : s.Canon) : CanonNext (execBedTrainingDone src dst failed s) :=
  (h.ite ((h.foldl (fun _ _ h1 => h1.laneOut)).branch (·.bedDown) (·.lanesUp.setLink.readyUpd))).next

theorem Canon.execBedQuickTrainingDone {src dst lane ok} (h : s.Canon) : CanonNext (execBedQuickTrainingDone src dst lane ok s) := by
  unfold Machine.execBedQuickTrainingDone
  refine Canon.next ?_
  split
  · exact h.ite (h.lanesUp.setLink.readyUpd.ite (h.bedDown.ite h.setLink))
  · exact h.ite (h.laneBack.ite (h.laneOut.ite h.setLane))

theorem Canon.execLaneRetrainWaitEnd {lane} (h : s.Canon) : CanonNext (execLaneRetrainWaitEnd lane s) := (h.setLane.ite h).next

theorem Canon.bedIdent {lane ts} (h : s.Canon) : (s.bedIdent lane ts).Canon := by
  unfold State.bedIdent
  split
  · exact h
  · exact h.ite (h.ite (h.laneOut.ite h.setLane))

theorem Canon.bedStepDone {lane ts} (h : s.Canon) : (s.bedStepDone lane ts).Canon := by
  unfold State.bedStepDone
  split
  · exact h
  · exact h.setLink.ite h

theorem Canon.bedTs {lane blocks} (h : s.Canon) : (s.bedTs lane blocks).Canon :=
  h.ite (h.setLane.foldl (fun _ _ h1 => h1.bedIdent.ite (h1.bedIdent.bedStepDone.ite h1)))

theorem Canon.execBedTs1 {lane blocks} (h : s.Canon) : CanonNext (execBedTs1 lane blocks s) := h.bedTs.next
theorem Canon.execBedTs2 {lane blocks} (h : s.Canon) : CanonNext (execBedTs2 lane blocks s) := h.bedTs.next

theorem Canon.sendFlit {a b vc seq first null shared payload} (h : s.Canon) : (s.sendFlit a b vc seq first null shared payload).Canon :=
  h.setLink.setLink.emit

theorem Canon.execFlitSend {src dst vc first payload source ready} (h : s.Canon) : CanonNext
    (execFlitSend src dst vc first payload source ready s) :=
  (h.ite (h.sendFlit.ite (h.ite h.setLink.sendFlit))).next

theorem Canon.flitBack {b a ack nak pool units} (h : s.Canon) : (s.flitBack b a ack nak pool units).Canon :=
  h.setLink.when (fun h1 => h1.setLink.foldl (fun _ _ h2 => h2.sendFlit))

theorem Canon.takeFlit {a b flit} (h : s.Canon) : (s.takeFlit a b flit).Canon :=
  (h.ite h.setLink).ite (h.flitBack.ite ((h.ite h.setLink).flitBack.ite h.setLink.flitBack))

theorem Canon.period {a b words} (h : s.Canon) : (s.period a b words).Canon := (h.foldl (fun _ _ h1 => h1.setLane)).setLink
theorem Canon.bedAlign {a b count} (h : s.Canon) : (s.bedAlign a b count).Canon := h.setLink.ite h
theorem Canon.bedRetire {a b pos c planned} (h : s.Canon) : (s.bedRetire a b pos c planned).Canon := h.setLink

theorem Canon.bedAdmit {a b pos c admitted} (h : s.Canon) : (s.bedAdmit a b pos c admitted).Canon := by
  unfold State.bedAdmit
  refine h.ite ?_
  split
  · exact h.setLink
  · exact h

theorem Canon.bedReqRetire {a b pos cause} (h : s.Canon) : (s.bedReqRetire a b pos cause).Canon := by
  unfold State.bedReqRetire
  refine h.ite ?_
  split
  · exact h.retireLane
  · exact h

theorem Canon.bedControl {a b p} (h : s.Canon) : (s.bedControl a b p).Canon := by
  unfold State.bedControl
  split
  · exact h.bedAlign
  · exact h.bedRetire.ite h
  · exact h.bedAdmit.ite h
  · exact h.bedReqRetire.ite h
  · exact h

theorem Canon.bedPeriod {a b words} (h : s.Canon) : (s.bedPeriod a b words).Canon := by
  unfold State.bedPeriod
  refine h.ite (h.period.st.bedRetrain.ite (.foldl ?_ (fun _ _ h1 => h1.takeFlit)))
  split
  · exact h.period.st.bedControl
  · exact h.period.st

theorem Canon.execFlitReceive {src dst words} (h : s.Canon) : CanonNext (execFlitReceive src dst words s) := h.bedPeriod.next
theorem Canon.execBedAlign {src dst words} (h : s.Canon) : CanonNext (execBedAlign src dst words s) := h.bedPeriod.next
theorem Canon.execBedRetire {src dst words} (h : s.Canon) : CanonNext (execBedRetire src dst words s) := h.bedPeriod.next
theorem Canon.execBedAdmit {src dst words} (h : s.Canon) : CanonNext (execBedAdmit src dst words s) := h.bedPeriod.next
theorem Canon.execBedReqRetire {src dst words} (h : s.Canon) : CanonNext (execBedReqRetire src dst words s) := h.bedPeriod.next
theorem Canon.sendPeriod {a b} (h : s.Canon) : (s.sendPeriod a b).Canon := (h.foldl (fun _ _ h1 => h1.setLane)).setLink.emit
theorem Canon.execBedBoundary {src dst c} (h : s.Canon) : CanonNext (execBedBoundary src dst c s) := (h.ite h.setLink.applyChanges).next
theorem Canon.execBedCreditTimeout {src dst} (h : s.Canon) : CanonNext (execBedCreditTimeout src dst s) := (h.ite h.setLink.bedRetrain).next

theorem Canon.execBedLaneErrorLimit {lane} (h : s.Canon) : CanonNext (execBedLaneErrorLimit lane s) := by
  unfold Machine.execBedLaneErrorLimit
  refine Canon.next ?_
  split
  · exact h.askRetire
  · exact h.askRetire
  · exact h

theorem Canon.execBedReqRetireTimeout {src dst} (h : s.Canon) : CanonNext (execBedReqRetireTimeout src dst s) := by
  unfold Machine.execBedReqRetireTimeout
  refine (h.ite (h.foldl (fun _ _ h1 => ?_)).bedRetrain).next
  split
  · exact h1.laneOut
  · exact h1

theorem Canon.wBedLinkCtl {o dev v} (h : s.Canon) : (s.wBedLinkCtl o dev v).Canon :=
  h.gate CanonOptFn.none (fun _ _ h1 => h1.ite (h1.bedRetrain.ite h1.setLink))

theorem Canon.wBedLaneCtl {o dev v} (h : s.Canon) : (s.wBedLaneCtl o dev v).Canon :=
  h.gate CanonOptFn.none (fun _ _ h1 => h1.retireLane.ite (h1.setLane.ite h1))

theorem Canon.execBedLinkRetrain {o v} (h : s.Canon) : CanonNext (execBedLinkRetrain o v s) := h.wBedLinkCtl.next
theorem Canon.execBedLaneRetire {o v} (h : s.Canon) : CanonNext (execBedLaneRetire o v s) := h.wBedLaneCtl.next
theorem Canon.execBedLaneReadmit {o v} (h : s.Canon) : CanonNext (execBedLaneReadmit o v s) := h.wBedLaneCtl.next

theorem Canon.laneLeaves {i} (h : s.Canon) : (s.laneLeaves i).Canon := by
  unfold State.laneLeaves
  split
  · exact h
  · exact h.applyChanges.ite h

theorem Canon.laneReturns {i} (h : s.Canon) : (s.laneReturns i).Canon := by
  unfold State.laneReturns
  split
  · exact h
  · exact h.laneBack.applyChanges.ite (h.setLane.ite h)

end Sys2Proof.Machine.State
end

section
/-! PROOF. The canonical form through the Confluence units (R250 to R281). -/

namespace Sys2Proof.Machine.State

set_option Elab.async false

variable {s t : State}

theorem Canon.setCu {t u} (h : s.Canon) : (s.setCu t u).Canon := h.upd
theorem Canon.setRing {i r} (h : s.Canon) : (s.setRing i r).Canon := h.upd
theorem Canon.setCodes {t rows cs} (h : s.Canon) : (s.setCodes t rows cs).Canon := h.foldl (fun _ _ h1 => h1.setRing)
theorem Canon.addDrives {t d} (h : s.Canon) : (s.addDrives t d).Canon := h.foldl (fun _ _ h1 => h1.setRing)
theorem Canon.redrive {t} (h : s.Canon) : (s.redrive t).Canon := h.setCu.ite h
theorem Canon.putRows {t u} (h : s.Canon) : (s.putRows t u).Canon := h.setCu.redrive
theorem Canon.cuMode {t} (h : s.Canon) : (s.cuMode t).Canon := (h.raiseErr.ite h).setCu.readyUpd

theorem Canon.execOproj {c f} (h : s.Canon) : CanonNext (execOproj c f s) := by
  unfold Machine.execOproj
  refine (h.exec1 (fun _ => h.enc ?_)).next
  split
  · exact h.addrFault
  · exact Issue.Canon.ite h.addrFault (Issue.Canon.ite h.addrFault (Issue.Canon.ite h.addrFault (Issue.Canon.ite Issue.Canon.stall
    h.setCell.freshId.setCu.ok)))

theorem Canon.execBound {c f} (h : s.Canon) : CanonNext (execBound c f s) := by
  unfold Machine.execBound
  refine (h.exec1 (fun _ => h.enc ?_)).next
  split
  · exact h.addrFault
  · exact Issue.Canon.ite Issue.Canon.stall h.setCell.freshId.setCu.ok

theorem Canon.execCuJobStart {t} (h : s.Canon) : CanonNext (execCuJobStart t s) := by
  unfold Machine.execCuJobStart
  refine Canon.next ?_
  split
  · exact h.ite h.setCu
  · exact h

theorem Canon.cuRun {vw t w optical tagOk unl c all fmt mode inDA outDA stDA n i ok used} (h : s.Canon) :
    CanonFst (s.cuRun vw t w optical tagOk unl c all fmt mode inDA outDA stDA n i ok used) := by
  induction n generalizing s i ok used with
  | zero => exact h.pair
  | succ n ih =>
    unfold State.cuRun
    have hw := h.eccRead (da := inDA + i * cuInBytes fmt) (len := cuInBytes fmt)
    refine ih (((Canon.unless ?_ (·.bump)).when (·.bump)).bumpN)
    split
    · exact hw.writePE.takeFree.writePE
    · exact hw.writePE.takeFree

theorem Canon.execCuJobComplete {t pe} (h : s.Canon) : CanonNext (execCuJobComplete t pe s) := by
  unfold Machine.execCuJobComplete
  refine Canon.next ?_
  split
  · exact h.ite (h.setCu.branch (·.discard.settle.opDone) (·.meet.cuRun.fst.met.settle.opDone))
  · exact h

theorem Canon.wWload {o dev t v} (h : s.Canon) : (s.wWload o dev t v).Canon :=
  h.gate (CanonOptFn.ite (CanonOptFn.ofFn (fun _ h1 => h1.setRf)) CanonOptFn.none) (fun _ _ h1 => h1.keepReg.unless
    (fun h2 => h2.setCu.unless (·.setRf)))

theorem Canon.execWeightLoad {t o v} (h : s.Canon) : CanonNext (execWeightLoad t o v s) := h.wWload.next

theorem Canon.execWeightLoadDone {t pe} (h : s.Canon) : CanonNext (execWeightLoadDone t pe s) := by
  unfold Machine.execWeightLoadDone
  refine Canon.next ?_
  split
  · exact h
  · refine h.meet.setCu.met.eccRead.setRf.ite ?_
    split
    · exact h.meet.setCu.met.setRf
    · exact h.meet.setCu.met.setCu

theorem Canon.calTake {t} (h : s.Canon) : (s.calTake t).Canon := by
  unfold State.calTake
  dsimp only
  split
  · exact h.takeFree.setCu
  · exact (h.takeFree.foldl (fun _ _ h1 => h1.setRing)).upd.putRows

theorem Canon.driveActive {t} (h : s.Canon) : (s.driveActive t).Canon := h.ite h.setCodes

theorem Canon.cuHold {t commit corr bound} (h : s.Canon) : (s.cuHold t commit corr bound).Canon := by
  unfold State.cuHold
  dsimp only
  refine (((h.setRb.ite h).when (·.calTake)).setCu.branch (·.setCodes) (fun h1 => h1.driveActive.ite h1)).ite ?_
  split
  · exact ((h.setRb.ite h).when (·.calTake)).setCu.opDone
  · exact ((h.setRb.ite h).when (·.calTake)).setCu

theorem Canon.cuBound {t ci op tag commit corr} (h : s.Canon) : (s.cuBound t ci op tag commit corr).Canon :=
  h.setCu.branch (·.cuHold) (·.opDone)

theorem Canon.execWeightCommit {t} (h : s.Canon) : CanonNext (execWeightCommit t s) := by
  unfold Machine.execWeightCommit
  refine Canon.next ?_
  split
  · exact h.ite h.cuBound
  · exact h

theorem Canon.execTakenBoundary {t} (h : s.Canon) : CanonNext (execTakenBoundary t s) := by
  unfold Machine.execTakenBoundary
  refine (h.ite ?_).next
  split
  · exact h.ite h.cuBound
  · exact h.cuHold.ite h
  · exact h

theorem Canon.execForcedBoundary {t} (h : s.Canon) : CanonNext (execForcedBoundary t s) := (h.ite h.cuHold.bump).next
theorem Canon.retireRow {t p} (h : s.Canon) : (s.retireRow t p).Canon := h.storePush.putRows

theorem Canon.cuRelease {t x2} (h : s.Canon) : (s.cuRelease t x2).Canon := by
  unfold State.cuRelease
  split
  · exact h.setCu.cuMode.opDone
  · exact h.setCu.cuMode

theorem Canon.execCommitSettleEnd {t failed} (h : s.Canon) : CanonNext (execCommitSettleEnd t failed s) := by
  unfold Machine.execCommitSettleEnd
  refine Canon.next ?_
  split
  · exact h
  · exact h.ite ((h.foldl (fun _ _ h1 => h1.retireRow)).branch (·.cuRelease) (fun h1 => (h1.ite h1.setCodes).setCu))

theorem Canon.execRowCalibrationEnd {t verified gainBad} (h : s.Canon) : CanonNext (execRowCalibrationEnd t verified gainBad s) := by
  unfold Machine.execRowCalibrationEnd
  dsimp only
  refine (h.ite (h.putRows.ite ?_)).next
  split
  · exact (h.upd.takeFree.unless (·.addDrives)).setCu.retireRow
  · exact (h.upd.takeFree.unless (·.addDrives)).setCu
  · exact (h.upd.takeFree.unless (·.addDrives)).putRows

theorem Canon.execBankUnlock {t} (h : s.Canon) : CanonNext (execBankUnlock t s) := (h.setCu.ite h).next
theorem Canon.execBankRelock {t overMs} (h : s.Canon) : CanonNext (execBankRelock t overMs s) := (h.ite h.setCu).next

theorem Canon.wCuCtrl {o dev t v} (h : s.Canon) : (s.wCuCtrl o dev t v).Canon :=
  h.gate CanonOptFn.none (fun _ _ h1 => h1.keepReg.setCu.cuMode)

theorem Canon.execForceFallback {t o v} (h : s.Canon) : CanonNext (execForceFallback t o v s) := h.wCuCtrl.next
theorem Canon.execRotationEnable {t o v} (h : s.Canon) : CanonNext (execRotationEnable t o v s) := h.wCuCtrl.next
theorem Canon.execRecalRequest {t o v} (h : s.Canon) : CanonNext (execRecalRequest t o v s) := h.wCuCtrl.next
theorem Canon.snapWant (h : s.Canon) : s.snapWant.Canon := h.upd.ite h.upd

theorem Canon.execCharacterisationDone {t healthy} (h : s.Canon) : CanonNext (execCharacterisationDone t healthy s) :=
  (h.ite (h.putRows.cuMode.when (·.snapWant))).next

end Sys2Proof.Machine.State
end

section
/-! PROOF. The canonical form through the transaction tracker (R436 to R444). -/

namespace Sys2Proof.Machine.State

set_option Elab.async false

variable {s t : State}

theorem Canon.moveAnswered {id st} (h : s.Canon) : (s.moveAnswered id st).Canon := by
  unfold State.moveAnswered
  split
  · exact h.setMove
  · exact h

theorem Canon.moveData {pe id req st payload} (h : s.Canon) : (s.moveData pe id req st payload).Canon := by
  unfold State.moveData
  split
  · exact h
  · exact h.setMove.moveAnswered.ite (h.discard.moveAnswered.ite (h.setMove.branch (·.moveAnswered) (·.writePE.met.moveAnswered)))

theorem Canon.atomicAnswered {ci st old} (h : s.Canon) : (s.atomicAnswered ci st old).Canon := by
  unfold State.atomicAnswered
  dsimp only
  split
  · exact h.setCell.branch (·.unblock) (fun h1 => h1.cellExc.branch (·.trapCell) (·.unblock))
  · exact h

theorem Canon.mgmtDone {q idx st payload} (h : s.Canon) : CanonOpt (s.mgmtDone q idx st payload) := by
  unfold State.mgmtDone
  split
  · exact h.opt
  · exact (h.raiseStatus.unless (·.emit)).sqDone

theorem Canon.ownerDone {pe o req st payload} (h : s.Canon) : CanonOpt (s.ownerDone pe o req st payload) := by
  unfold State.ownerDone
  split
  · exact h.atomicAnswered.opt
  · exact (h.moveData.ite h.moveAnswered).opt
  · exact h.asyncExc.opt
  · exact h.cmdAnswered.opt
  · exact h.childDone.opt
  · exact h.mgmtDone
  · exact h.opt
  · exact h.opt

theorem Canon.flowDone {req} (h : s.Canon) : (s.flowDone req).Canon := by
  unfold State.flowDone
  dsimp only
  refine .ite ?_ h
  split
  · exact h.upd
  · exact h

theorem Canon.pumpAll (h : s.Canon) : s.pumpAll.Canon := h.foldl (fun _ _ h1 => h1.pump)

theorem Canon.untwin {t} (h : s.Canon) : (s.untwin t).Canon := by
  unfold State.untwin
  split
  · exact h.setTrk
  · exact h

theorem Canon.dropTwin {t} (h : s.Canon) : (s.dropTwin t).Canon := by
  unfold State.dropTwin
  split
  · exact h.setTrk
  · exact h

theorem Canon.reissue {d i e req} (h : s.Canon) : CanonOpt (s.reissue d i e req) := by
  unfold State.reissue
  split
  · exact CanonOpt.none
  · exact CanonOpt.ite CanonOpt.none (h.setTrk.when (·.upd)).setSpan.bump.txWait.opt

theorem Canon.lostDone {d i e req answered} (h : s.Canon) : CanonOpt (s.lostDone d i e req answered) := by
  unfold State.lostDone
  dsimp only
  split
  · exact CanonOpt.none
  next e1 => exact ((h.ownerDone.get e1).setTrk.flowDone.when (·.bump)).pumpAll.opt

theorem Canon.trkLost {d i} (h : s.Canon) : (s.trkLost d i).Canon := by
  unfold State.trkLost
  dsimp only
  split
  · refine h.untwin.setTrk.ite (.ite ?_ (h.lostDone.getD h))
    split
    next e1 => exact (h.reissue.get e1)
    · exact h.lostDone.getD h
  · exact h

theorem Canon.spanLost {d} (h : s.Canon) : (s.spanLost d).Canon := h.foldl (fun _ _ h1 => h1.trkLost)

theorem Canon.response {pe p} (h : s.Canon) : (s.response pe p).Canon := by
  unfold State.response
  dsimp only
  split
  · refine h.bump.ite ((h.untwin.setTrk.ite (.ite ?_ (h.lostDone.getD h))).ite ?_)
    · split
      next e1 => exact (h.reissue.get e1)
      · exact h.lostDone.getD h
    · split
      · exact h
      next e1 => exact (h.ownerDone.get e1).dropTwin.setTrk.flowDone.pumpAll
  · exact h.bump

end Sys2Proof.Machine.State
end

section
/-! PROOF. The canonical form through fiber ports (R356 to R416). -/

namespace Sys2Proof.Machine.State

set_option Elab.async false

variable {s t : State}

theorem Canon.modPort {p f} (h : s.Canon) : (s.modPort p f).Canon := h.setPort
theorem Canon.helloEvent {p} (h : s.Canon) : (s.helloEvent p).Canon := h.upd
theorem Canon.flRepair {p i} (h : s.Canon) : (s.flRepair p i).Canon := h.storePush
theorem Canon.flOut {p i cause planned} (h : s.Canon) : (s.flOut p i cause planned).Canon := h.modPort.when (·.flRepair)

theorem Canon.spill {p} (h : s.Canon) : (s.spill p).Canon := by
  unfold State.spill
  refine h.ite ?_
  split
  · exact h
  · exact h.writeMem.setPort

theorem Canon.lostPkt {own k} (h : s.Canon) : (s.lostPkt own k).Canon := by
  unfold State.lostPkt
  split
  · exact h.trkLost.ite h
  · exact h

theorem Canon.discardPkts {p all} (h : s.Canon) : (s.discardPkts p all).Canon :=
  (h.setPort.when (·.upd)).bumpN.foldl (fun _ _ h1 => h1.lostPkt)

theorem Canon.portFlush {p} (h : s.Canon) : (s.portFlush p).Canon := h.discardPkts.modPort
theorem Canon.announceFl {p ch} (h : s.Canon) : (s.announceFl p ch).Canon := h.modPort.emit

theorem Canon.retireFlPos {p q cause planned} (h : s.Canon) : (s.retireFlPos p q cause planned).Canon := by
  unfold State.retireFlPos
  refine h.ite (h.announceFl.ite ?_)
  split
  · exact h.announceFl.announceFl
  · exact h.announceFl

theorem Canon.retireFl {p i cause planned} (h : s.Canon) : (s.retireFl p i cause planned).Canon := by
  unfold State.retireFl
  dsimp only
  split
  · exact h.retireFlPos.ite h.flOut
  · exact h.flOut
  · exact h.modPort
  · exact h.flOut.ite h
  · exact h.flOut.ite h
  · exact h

theorem Canon.askRetireFl {p i cause} (h : s.Canon) : (s.askRetireFl p i cause).Canon := h.setPort.emit.ite h.retireFl

theorem Canon.flBack {p i} (h : s.Canon) : (s.flBack p i).Canon := by
  unfold State.flBack
  dsimp only
  split
  · exact h.setPort.flOut
  · split
    · exact h.setPort.announceFl
    · exact h.setPort

theorem Canon.applyFl {p x2} (h : s.Canon) : (s.applyFl p x2).Canon := by
  unfold State.applyFl
  split
  · split
    · exact h.flOut
    · exact h
  · refine h.setPort.ite ?_
    split
    · exact h.announceFl
    · exact h

theorem Canon.applyFls {p f} (h : s.Canon) : (s.applyFls p f).Canon := h.setPort.foldl (fun _ _ h1 => h1.applyFl)
theorem Canon.svcEvent {d code obj detail} (h : s.Canon) : (s.svcEvent d code obj detail).Canon := h.logEvent
theorem Canon.setSvc {d x} (h : s.Canon) : (s.setSvc d x).Canon := h.upd
theorem Canon.quiesced {p} (h : s.Canon) : (s.quiesced p).Canon := h.modPort.svcEvent
theorem Canon.svcSafe {d} (h : s.Canon) : (s.svcSafe d).Canon := h.setSvc.svcEvent.ite h
theorem Canon.quiesceFlush {p} (h : s.Canon) : (s.quiesceFlush p).Canon := h.svcEvent

theorem Canon.portDown {p cause} (h : s.Canon) : (s.portDown p cause).Canon :=
  h.ite ((((h.setPort.when (·.portFlush)).when (·.helloEvent)).unless (·.raiseErr)).when (·.quiesceFlush.quiesced.svcSafe)).readyUpd

theorem Canon.portRetrain {p} (h : s.Canon) : (s.portRetrain p).Canon := h.applyFls.setPort.setRb.bump.readyUpd
theorem Canon.unwait {p w} (h : s.Canon) : (s.unwait p w).Canon := h.setPort.ite h.upd
theorem Canon.putPacket {p vc lseq k} (h : s.Canon) : (s.putPacket p vc lseq k).Canon := h.modPort.emit

theorem Canon.execPacketSend {p vc pkt} (h : s.Canon) : CanonNext (execPacketSend p vc pkt s) := by
  unfold Machine.execPacketSend
  refine Canon.next ?_
  split
  · exact h
  · exact h.ite ((h.ite h.unwait.modPort).ite (h.ite h.unwait.modPort.spill.putPacket))

theorem Canon.takePacket {p f} (h : s.Canon) : (s.takePacket p f).Canon := by
  unfold State.takePacket
  split
  · exact h.setPort
  · exact h.setPort.ite (h.setPort.ite (h.bump.ite h.setPort))

theorem Canon.execPacketReceive {p data ebFault} (h : s.Canon) : CanonNext (execPacketReceive p data ebFault s) :=
  (h.ite (h.setPort.bumpN.bumpN.branch (·.portRetrain) (fun h1 => (h1.foldl (fun _ _ h2 => h2.takePacket)).when (·.bump.portRetrain)))).next

theorem Canon.portReplay {p readBad} (h : s.Canon) : (s.portReplay p readBad).Canon :=
  h.modPort.ite (h.modPort.ite (h.bump.branch (·.modPort.portFlush.raiseErr) (fun h1 => (h1.foldl (fun _ _ h2 => h2.putPacket)).modPort)))

theorem Canon.sendStatus {p ack} (h : s.Canon) : (s.sendStatus p ack).Canon := h.setPort.emit

theorem Canon.statusGood {p m readBad} (h : s.Canon) : (s.statusGood p m readBad).Canon :=
  ((h.setPort.when (·.portReplay)).ite h.setPort.bump).modPort.sendStatus.when (·.modPort)

theorem Canon.execAckTimeout {p readBad} (h : s.Canon) : CanonNext (execAckTimeout p readBad s) := (h.portReplay.ite h).next
theorem Canon.execPortCreditTimeout {p} (h : s.Canon) : CanonNext (execPortCreditTimeout p s) := (h.bump.portRetrain.ite h).next
theorem Canon.execStatusMissing {p} (h : s.Canon) : CanonNext (execStatusMissing p s) := (h.portRetrain.ite h).next
theorem Canon.flRetireMsg {p pos c planned} (h : s.Canon) : (s.flRetireMsg p pos c planned).Canon := h.setPort
theorem Canon.flAdmitMsg {p pos c line} (h : s.Canon) : (s.flAdmitMsg p pos c line).Canon := h.ite h.setPort

theorem Canon.flReqMsg {p pos cause} (h : s.Canon) : (s.flReqMsg p pos cause).Canon := by
  unfold State.flReqMsg
  dsimp only
  split
  · exact h.retireFl
  · exact h

theorem Canon.slotMsg {p m readBad} (h : s.Canon) : (s.slotMsg p m readBad).Canon := by
  unfold State.slotMsg
  dsimp only
  refine h.ite ?_
  split
  · exact h.bump
  · exact h.portRetrain
  · split
    · exact h.statusGood
    · exact h.flRetireMsg
    · exact h.flAdmitMsg
    · exact h.flReqMsg
    · exact h

theorem Canon.slotIn {p blocks readBad} (h : s.Canon) : (s.slotIn p blocks readBad).Canon :=
  h.ite (h.setPort.foldl (fun _ _ h1 => h1.slotMsg))

theorem Canon.execStatus {p blocks readBad} (h : s.Canon) : CanonNext (execStatus p blocks readBad s) := h.slotIn.next
theorem Canon.execPortRetire {p blocks readBad} (h : s.Canon) : CanonNext (execPortRetire p blocks readBad s) := h.slotIn.next
theorem Canon.execPortAdmit {p blocks readBad} (h : s.Canon) : CanonNext (execPortAdmit p blocks readBad s) := h.slotIn.next
theorem Canon.execPortReqRetire {p blocks readBad} (h : s.Canon) : CanonNext (execPortReqRetire p blocks readBad s) := h.slotIn.next

theorem Canon.execPortBoundary {p c} (h : s.Canon) : CanonNext (execPortBoundary p c s) :=
  (h.ite (h.modPort.applyFls.branch (·.portDown) (fun h1 => h1.helloEvent.ite h1))).next

theorem Canon.execPortReqRetireTimeout {p} (h : s.Canon) : CanonNext (execPortReqRetireTimeout p s) := by
  unfold Machine.execPortReqRetireTimeout
  refine (h.ite (h.foldl (fun _ _ h1 => ?_)).portRetrain.helloEvent).next
  split
  · exact h1.flOut
  · exact h1

theorem Canon.execPortLaneErrorLimit {p line} (h : s.Canon) : CanonNext (execPortLaneErrorLimit p line s) := by
  unfold Machine.execPortLaneErrorLimit
  refine (h.ite ?_).next
  split
  · exact h.askRetireFl
  · exact h.askRetireFl
  · exact h

theorem Canon.execPortLaneTrainingDone {p line ok} (h : s.Canon) : CanonNext (execPortLaneTrainingDone p line ok s) :=
  (h.ite (h.flBack.ite (h.flOut.ite h.setPort))).next

theorem Canon.execPortLockLoss {p} (h : s.Canon) : CanonNext (execPortLockLoss p s) := (h.portRetrain.ite h).next
theorem Canon.execLockTimeout {p} (h : s.Canon) : CanonNext (execLockTimeout p s) := (h.portDown.ite h).next
theorem Canon.portTrain {p} (h : s.Canon) : (s.portTrain p).Canon := h.setPort.setRb.readyUpd
theorem Canon.execPortTrainingStart {p} (h : s.Canon) : CanonNext (execPortTrainingStart p s) := (h.portTrain.ite h).next
theorem Canon.execPortTrainingRetry {p} (h : s.Canon) : CanonNext (execPortTrainingRetry p s) := (h.portTrain.ite h).next

theorem Canon.portTs {p fiber ts} (h : s.Canon) : (s.portTs p fiber ts).Canon :=
  h.ite (h.setPort.ite (h.setPort.ite (h.setPort.ite h.setPort.portDown)))

theorem Canon.portStepDone {p ts} (h : s.Canon) : (s.portStepDone p ts).Canon := h.setPort.ite h

theorem Canon.portTsIn {p fiber line blocks} (h : s.Canon) : (s.portTsIn p fiber line blocks).Canon :=
  h.ite (h.foldl (fun _ _ h1 => h1.modPort.unless (fun h2 => h2.portTs.ite (h2.portTs.portStepDone.ite h2))))

theorem Canon.execPortTs1 {p fiber line blocks} (h : s.Canon) : CanonNext (execPortTs1 p fiber line blocks s) := h.portTsIn.next
theorem Canon.execPortTs2 {p fiber line blocks} (h : s.Canon) : CanonNext (execPortTs2 p fiber line blocks s) := h.portTsIn.next

theorem Canon.flUp {p} (h : s.Canon) : (s.flUp p).Canon := by
  unfold State.flUp
  dsimp only
  refine (h.foldl (fun _ _ h1 => ?_)).foldl (fun _ _ h1 => h1.ite ?_)
  · split
    · exact h1.setPort.flOut
    · exact h1.setPort
  · split
    · exact h1.setPort
    · exact h1

theorem Canon.freshStart {p peerSession} (h : s.Canon) : (s.freshStart p peerSession).Canon := (h.discardPkts.when (·.raiseErr)).modPort

theorem Canon.retrainEnd {p ok failed} (h : s.Canon) : (s.retrainEnd p ok failed).Canon :=
  (((h.foldl (fun _ _ h1 => h1.flOut)).flUp.unless (·.helloEvent)).branch (·.portDown) (·.modPort.readyUpd)).ite (h.setPort.portDown.ite
    h.setPort)

theorem Canon.execPortTrainingDone {p ok rate rtt failed peerTag peerPort peerSession} (h : s.Canon) : CanonNext
    (execPortTrainingDone p ok rate rtt failed peerTag peerPort peerSession s) :=
  (h.ite (h.retrainEnd.ite ((h.foldl (fun _ _ h1 => h1.flOut)).flUp.branch (·.portDown) (fun h1 => (h1.modPort.ite
    h1.freshStart).modPort.helloEvent.readyUpd)))).next

theorem Canon.sendFrame {p} (h : s.Canon) : (s.sendFrame p).Canon := h.setPort.emit
theorem Canon.execStandbyIdleExpiry {p} (h : s.Canon) : CanonNext (execStandbyIdleExpiry p s) := (h.setPort.ite h).next
theorem Canon.execStandbyExit {p} (h : s.Canon) : CanonNext (execStandbyExit p s) := (h.setPort.ite h).next
theorem Canon.execPortDeepEntry {p} (h : s.Canon) : CanonNext (execPortDeepEntry p s) := (h.setPort.ite h).next
theorem Canon.portWake {p} (h : s.Canon) : (s.portWake p).Canon := h.setPort.portRetrain
theorem Canon.execPortDeepExit {p} (h : s.Canon) : CanonNext (execPortDeepExit p s) := (h.portWake.ite h).next
theorem Canon.execDeepWakeTimeout {p} (h : s.Canon) : CanonNext (execDeepWakeTimeout p s) := (h.portDown.ite h).next
theorem Canon.execGraceExpiry {p} (h : s.Canon) : CanonNext (execGraceExpiry p s) := (h.portFlush.ite h).next
theorem Canon.portDark {p} (h : s.Canon) : (s.portDark p).Canon := h.setPort.unless (·.raiseErr)

theorem Canon.execReceiveDark {p} (h : s.Canon) : CanonNext (execReceiveDark p s) :=
  (h.ite (h.setPort.unless (fun h1 => h1.bump.branch (·.portDark) (·.portDown)))).next

theorem Canon.execLightPresent {p} (h : s.Canon) : CanonNext (execLightPresent p s) :=
  (h.ite (h.setPort.branch (fun h1 => h1.ite h1.portWake) (fun h1 => h1.modPort.ite h1))).next

theorem Canon.execProbeCycle {p} (h : s.Canon) : CanonNext (execProbeCycle p s) := (h.setPort.ite h).next
theorem Canon.execProbeWindowEnd {p} (h : s.Canon) : CanonNext (execProbeWindowEnd p s) := (h.setPort.ite h).next
theorem Canon.execEnableLightTimeout {p} (h : s.Canon) : CanonNext (execEnableLightTimeout p s) := (h.portDark.ite h).next

theorem Canon.quiescePort {p} (h : s.Canon) : (s.quiescePort p).Canon := by
  unfold State.quiescePort
  dsimp only
  split
  · exact h.ite h.quiesced
  · exact (h.setPort.portDown.unless (·.quiesceFlush)).quiesced
  · exact h.setPort

theorem Canon.press {d o} (h : s.Canon) : (s.press d o).Canon :=
  h.ite (h.logEvent.ite (h.setSvc.svcEvent.foldl (fun _ _ h1 => h1.quiescePort)).svcSafe)

theorem Canon.execServiceButtonPress {d} (h : s.Canon) : CanonNext (execServiceButtonPress d s) := h.press.next
theorem Canon.execQuiesceDrainEnd {p} (h : s.Canon) : CanonNext (execQuiesceDrainEnd p s) := (h.portDown.quiesced.svcSafe.ite h).next

theorem Canon.execQuiesceLimit {d} (h : s.Canon) : CanonNext (execQuiesceLimit d s) :=
  (h.ite (h.foldl (fun _ _ h1 => (h1.portDown.unless (·.quiesceFlush)).quiesced.ite h1)).svcSafe).next

theorem Canon.svcCancel {d o} (h : s.Canon) : (s.svcCancel d o).Canon :=
  h.ite (h.logEvent.foldl (fun _ _ h1 => h1.setPort.logEvent.ite h1)).setSvc

theorem Canon.execLongPress {d} (h : s.Canon) : CanonNext (execLongPress d s) := h.svcCancel.next
theorem Canon.execCancelBlinkEnd {d} (h : s.Canon) : CanonNext (execCancelBlinkEnd d s) := h.setSvc.next
theorem Canon.execLightSettled {p} (h : s.Canon) : CanonNext (execLightSettled p s) := (h.ite (h.setPort.when (·.svcEvent.setSvc))).next

theorem Canon.wPortCtl {p o dev v} (h : s.Canon) : (s.wPortCtl p o dev v).Canon :=
  h.gate CanonOptFn.none (fun _ _ h1 => (h1.keepReg.branch (·.modPort) (fun h2 => (h2.modPort.ite h2.portDown).readyUpd.ite h2)).when
    (·.portRetrain))

theorem Canon.wPortTimers {p o dev v} (h : s.Canon) : (s.wPortTimers p o dev v).Canon := h.gate CanonOptFn.none (fun _ _ h1 => h1.keepReg)
theorem Canon.wPortBw {p o dev v} (h : s.Canon) : (s.wPortBw p o dev v).Canon := h.gate Canon.ignoreIf (fun _ _ h1 => h1.keepReg)

theorem Canon.wPortLaneCtl {p o dev v} (h : s.Canon) : (s.wPortLaneCtl p o dev v).Canon :=
  h.gate CanonOptFn.none (fun _ _ h1 => h1.ite (h1.retireFl.ite (h1.setPort.ite h1)))

theorem Canon.wSvcCtl {d o dev v} (h : s.Canon) : (s.wSvcCtl d o dev v).Canon :=
  h.gate CanonOptFn.none (fun _ _ h1 => (h1.press.ite h1).when (·.svcCancel))

theorem Canon.execPortRetrainRequest {p o v} (h : s.Canon) : CanonNext (execPortRetrainRequest p o v s) := h.wPortCtl.next
theorem Canon.execPortEnable {p o v} (h : s.Canon) : CanonNext (execPortEnable p o v s) := h.wPortCtl.next
theorem Canon.execPortDisable {p o v} (h : s.Canon) : CanonNext (execPortDisable p o v s) := h.wPortCtl.next
theorem Canon.execSvcQuiesce {d o v} (h : s.Canon) : CanonNext (execSvcQuiesce d o v s) := h.wSvcCtl.next
theorem Canon.execSvcCancel {d o v} (h : s.Canon) : CanonNext (execSvcCancel d o v s) := h.wSvcCtl.next
theorem Canon.execPortLaneRetire {p o v} (h : s.Canon) : CanonNext (execPortLaneRetire p o v s) := h.wPortLaneCtl.next
theorem Canon.execPortLaneReadmit {p o v} (h : s.Canon) : CanonNext (execPortLaneReadmit p o v s) := h.wPortLaneCtl.next
theorem Canon.flLeaves {p i} (h : s.Canon) : (s.flLeaves p i).Canon := h.applyFls.ite h
theorem Canon.flReturns {p i} (h : s.Canon) : (s.flReturns p i).Canon := h.flBack.applyFls.ite (h.modPort.ite h)

end Sys2Proof.Machine.State
end

section
/-! PROOF. The canonical form through energy, clocks and heat (R499 to R523). -/

namespace Sys2Proof.Machine.State

set_option Elab.async false

variable {s t : State}

theorem Canon.execAoclkLoss (h : s.Canon) : CanonNext (execAoclkLoss s) := (h.upd.ite h).next
theorem Canon.execAoclkReturn (h : s.Canon) : CanonNext (execAoclkReturn s) := h.upd.next
theorem Canon.execRefclkLoss (h : s.Canon) : CanonNext (execRefclkLoss s) := (h.raiseErr.ite h).next
theorem Canon.nrgErr {e} (h : s.Canon) : (nrgErr e s).Canon := h.setRf
theorem Canon.setSensor {i x} (h : s.Canon) : (s.setSensor i x).Canon := h.upd
theorem Canon.setDom {d x} (h : s.Canon) : (s.setDom d x).Canon := h.upd

theorem Canon.testReach {r} (h : s.Canon) : (s.testReach r).Canon :=
  (h.foldl (fun _ _ h1 => h1.startEval)).when (fun h1 => h1.estRetry.ite h1)

theorem Canon.throttleMs (h : s.Canon) : s.throttleMs.Canon := (h.upd.when (·.bump)).ite h.upd

theorem Canon.execRefill {railsUj peaks} (h : s.Canon) : CanonNext (execRefill railsUj peaks s) :=
  (h.ite ((h.bumpN.ite h).upd.throttleMs.upd.foldl (fun _ _ h1 => h1.testReach))).next

theorem Canon.execEnergySave (h : s.Canon) : CanonNext (execEnergySave s) := (h.storePush.ite h).next
theorem Canon.stopFill {t} (h : s.Canon) : (s.stopFill t).Canon := (h.upd.unless (·.bumpN.takeFree)).ite h

theorem Canon.domUpdate {d} (h : s.Canon) : (s.domUpdate d).Canon := by
  unfold State.domUpdate
  refine .when (.when ?_ (·.upd)) (·.stopFill)
  split
  · exact h.setSensor.setDom
  · exact h.setDom

theorem Canon.trip {i} (h : s.Canon) : (s.trip i).Canon := h.ite h.upd.upd.upd.emit

theorem Canon.execSensorConversion {sensor t16} (h : s.Canon) : CanonNext (execSensorConversion sensor t16 s) := by
  unfold Machine.execSensorConversion
  refine (h.ite (.when ?_ (·.trip))).next
  split
  · exact h
  · exact (h.setDom.ite h).when (·.setSensor.domUpdate)

theorem Canon.execFastModeExit {dom} (h : s.Canon) : CanonNext (execFastModeExit dom s) := (h.setDom.ite h).next
theorem Canon.execThermtrip {sensor} (h : s.Canon) : CanonNext (execThermtrip sensor s) := (h.trip.ite h).next

theorem Canon.sensorBreak {i cause} (h : s.Canon) : (s.sensorBreak i cause).Canon := by
  unfold State.sensorBreak
  dsimp only
  split
  · exact h.setSensor.bump.raiseErr.logEvent
  · exact ((h.setSensor.bump.raiseErr.logEvent.when (·.setDom)).when (·.raiseErr)).domUpdate

theorem Canon.execSensorMean {sensor t16 limitCode stuck} (h : s.Canon) : CanonNext (execSensorMean sensor t16 limitCode stuck s) := by
  unfold Machine.execSensorMean
  dsimp only
  refine (h.ite ((h.setSensor.sensorBreak.ite ?_).ite (h.setSensor.ite ?_))).next
  · split
    · exact h.setSensor.setSensor.domUpdate
    · exact h.setSensor.setSensor
  · split
    · exact h.setSensor.setSensor.domUpdate
    · exact h.setSensor.setSensor

theorem Canon.execGhostPhaseEnd {sensor} (h : s.Canon) : CanonNext (execGhostPhaseEnd sensor s) := by
  unfold Machine.execGhostPhaseEnd
  refine Canon.next (.ite ?_ h)
  split
  · exact h.setSensor.domUpdate
  · exact h.setSensor

theorem Canon.setDvfs {t x} (h : s.Canon) : (s.setDvfs t x).Canon := h.upd
theorem Canon.dvfsStart {t} (h : s.Canon) : (s.dvfsStart t).Canon := h.ite (h.ite h.setRf).upd.setDvfs.emit
theorem Canon.wDvfs {t o dev v} (h : s.Canon) : (s.wDvfs t o dev v).Canon := h.gate Canon.dropIf (fun _ _ h1 => h1.keepReg.dvfsStart)
theorem Canon.execDvfsRequest {t o v} (h : s.Canon) : CanonNext (execDvfsRequest t o v s) := h.wDvfs.next

theorem Canon.execVack {t seq} (h : s.Canon) : CanonNext (execVack t seq s) := by
  unfold Machine.execVack
  refine Canon.next ?_
  split
  · exact h.ite (h.setDvfs.ite h.setDvfs.dvfsStart)
  · exact h

theorem Canon.execVreqRepeat {t} (h : s.Canon) : CanonNext (execVreqRepeat t s) := by
  unfold Machine.execVreqRepeat
  refine Canon.next ?_
  split
  · exact h.ite h.emit
  · exact h

theorem Canon.execDvfsSwitch {t} (h : s.Canon) : CanonNext (execDvfsSwitch t s) := by
  unfold Machine.execDvfsSwitch
  refine Canon.next ?_
  split
  · exact h.ite h.setRf.setDvfs.dvfsStart
  · exact h

theorem Canon.execClusterClockGate {t c} (h : s.Canon) : CanonNext (execClusterClockGate t c s) := (h.upd.ite h).next

theorem Canon.wPowerCap {o dev v} (h : s.Canon) : (s.wPowerCap o dev v).Canon :=
  h.gate (CanonOptFn.ite (CanonOptFn.ofFn (fun _ h1 => h1.nrgErr)) CanonOptFn.none) (fun _ _ h1 => h1.keepReg)

theorem Canon.wBurst {o dev v} (h : s.Canon) : (s.wBurst o dev v).Canon :=
  h.gate (CanonOptFn.ite (CanonOptFn.ofFn (fun _ h1 => h1.nrgErr)) CanonOptFn.none) (fun _ _ h1 => h1.keepReg)

theorem Canon.wRamp {o dev v} (h : s.Canon) : (s.wRamp o dev v).Canon := h.gate CanonOptFn.none (fun _ _ h1 => h1.keepReg.when (·.nrgErr))
theorem Canon.wThermCfg {o dev v} (h : s.Canon) : (s.wThermCfg o dev v).Canon := h.gate Canon.dropIf (fun _ _ h1 => h1.keepReg)

theorem Canon.wCorrData {o dev v} (h : s.Canon) : (s.wCorrData o dev v).Canon := by
  unfold State.wCorrData
  refine h.gate (CanonOptFn.ite (CanonOptFn.ofFn (fun _ h1 => h1.nrgErr)) CanonOptFn.none) (fun _ _ h1 => ?_)
  split
  · exact h1.upd
  · exact h1

end Sys2Proof.Machine.State
end

section
/-! PROOF. The canonical form through tiled regions and BAR4 (R174 to R199, R465, R466). -/

namespace Sys2Proof.Machine.State

set_option Elab.async false

variable {s t : State}

theorem Canon.setRegion {k r} (h : s.Canon) : (s.setRegion k r).Canon := h.upd
theorem Canon.trgErr {e} (h : s.Canon) : (trgErr e s).Canon := h.setRf
theorem Canon.trgBusy : CanonOptFn (s.trgBusy) := CanonOptFn.ite (CanonOptFn.ofFn (fun _ h1 => h1.trgErr)) CanonOptFn.none

theorem Canon.wTrgSel {o dev v} (h : s.Canon) : (s.wTrgSel o dev v).Canon :=
  h.gate Canon.trgBusy (fun _ _ h1 => h1.keepReg.setReg.setReg.setReg.setReg.setReg.setReg)

theorem Canon.wTrgStaged {o dev off v} (h : s.Canon) : (s.wTrgStaged o dev off v).Canon := h.gate Canon.trgBusy (fun _ _ h1 => h1.keepReg)

theorem Canon.wTrgCfg {o dev v} (h : s.Canon) : (s.wTrgCfg o dev v).Canon :=
  h.gate Canon.trgBusy (fun _ _ h1 => h1.keepReg.branch (·.setRegion) (fun h2 => h2.setRb.trgErr.ite h2.upd))

theorem Canon.execTrgSelect {o v} (h : s.Canon) : CanonNext (execTrgSelect o v s) := h.wTrgSel.next
theorem Canon.execTrgCommit {o v} (h : s.Canon) : CanonNext (execTrgCommit o v s) := h.wTrgCfg.next
theorem Canon.execTrgInvalidate {o v} (h : s.Canon) : CanonNext (execTrgInvalidate o v s) := h.wTrgCfg.next

theorem Canon.execTrgCommitDone {pe} (h : s.Canon) : CanonNext (execTrgCommitDone pe s) := by
  unfold Machine.execTrgCommitDone
  refine Canon.next ?_
  split
  · exact h
  · exact (h.writePE.met.ite h).setRegion.upd

theorem Canon.execMoveComplete {id pe} (h : s.Canon) : CanonNext (execMoveComplete id pe s) := by
  unfold Machine.execMoveComplete
  dsimp only
  refine Canon.next ?_
  split
  · exact h
  · refine h.ite ?_
    split
    · exact h.upd.moveEnd.fst.settle.opDone
    · exact h.upd.moveEnd.fst.settle.cmdDone

theorem Canon.execBar4Read {off len pe} (h : s.Canon) : CanonNext (execBar4Read off len pe s) := by
  unfold Machine.execBar4Read
  refine (h.ite (h.bump.emit.ite ?_)).next
  change Canon (match s.hostStore (s.barDA off) len with | none => _ | some _ => _)
  cases s.hostStore (s.barDA off) len with
  | none => exact h.emit.raiseErr
  | some st => exact h.meet.met.emit.when fun h1 => h1.eccRead.raiseErr

theorem Canon.execBar4Write {off data poisoned pe} (h : s.Canon) : CanonNext (execBar4Write off data poisoned pe s) :=
  (h.ite (h.bump.ite (h.raiseErr.ite h.writePE.met))).next

end Sys2Proof.Machine.State
end

section
/-! PROOF. The canonical form through the Weirs (R201 to R249). -/

namespace Sys2Proof.Machine.State

set_option Elab.async false

variable {s t : State}

theorem Canon.blkPut {da bs tda epoch fmt poison} (h : s.Canon) : (s.blkPut da bs tda epoch fmt poison).Canon := h.writeMem.writeMem
theorem Canon.putHdr {a x2 epoch poison} (h : s.Canon) : (s.putHdr a x2 epoch poison).Canon := h.blkPut
theorem Canon.putSummary {a epoch sum} (h : s.Canon) : CanonFst (s.putSummary a epoch sum) := h.eccRead.blkPut.pair

theorem Canon.summarize {a epoch present} (h : s.Canon) : CanonFst (s.summarize a epoch present) :=
  CanonFst.ite h.eccRead.pair h.putSummary.fst.pair

theorem Canon.relength {n k x} (h : s.Canon) : (s.relength n k x).Canon := h.setWeir
theorem Canon.lostHeader {n k st} (h : s.Canon) : (s.lostHeader n k st).Canon := h.ite (h.discard.ite h.writeMem)

theorem Canon.wqPart {ci op st} (h : s.Canon) : CanonOpt (s.wqPart ci op st) := by
  unfold State.wqPart
  split
  · exact h.opt
  · exact (CanonOpt.ite h.opt h.cellSignal).map (fun _ h1 => h1.opDone)

theorem Canon.sqWeirPart {q idx n st} (h : s.Canon) : CanonOpt (s.sqWeirPart q idx n st) := by
  unfold State.sqWeirPart
  dsimp only
  split
  · exact h.opt
  · exact CanonOpt.ite h.setSq.sqDone h.setSq.opt

theorem Canon.weirDeliver {die k l} (h : s.Canon) : CanonOpt (s.weirDeliver die k l) := by
  induction l generalizing s with
  | nil => exact h.opt
  | cons n l ih =>
    unfold State.weirDeliver
    refine CanonOpt.ite (ih h.setWeir) ?_
    split
    · split
      · exact CanonOpt.none
      next e => exact ih (h.lostHeader.wqPart.get e)
    · dsimp only
      split
      · exact CanonOpt.none
      next e => exact ih ((h.lostHeader.ite h).raiseStatus.sqWeirPart.get e)

theorem Canon.execWq {c f} (h : s.Canon) : CanonNext (execWq c f s) := by
  unfold Machine.execWq
  dsimp only
  refine (h.exec1 (fun _ => h.enc ?_)).next
  split
  · exact h.addrFault
  · refine Issue.Canon.ite h.addrFault (Issue.Canon.ite Issue.Canon.stall ?_)
    split
    · exact Issue.Canon.stall
    next e1 => exact (h.met.setCell.freshId.weirDeliver.get e1).ok

theorem Canon.execWeirCommandStart {n} (h : s.Canon) : CanonNext (execWeirCommandStart n s) := by
  unfold Machine.execWeirCommandStart
  refine (h.ite ?_).next
  split
  · exact h
  · dsimp only
    split
    · exact h
    next t e =>
      refine (Adm.Canon.get ?_ e).setWeir.pullQueue
      split
      · exact h.admitCharge
      · exact h.admitted

theorem Canon.wbEnd {n id} (h : s.Canon) : (s.wbEnd n id).Canon := h.setWeir
theorem Canon.wbDone {n id st bad} (h : s.Canon) : (s.wbDone n id st bad).Canon := (h.ite h.countCheck).setWeir.settle

theorem Canon.weirReport {n k st} (h : s.Canon) : CanonOpt (s.weirReport n k st) := by
  unfold State.weirReport
  split
  · exact (h.lostHeader.ite h).wqPart
  · exact CanonOpt.ite h.sqWeirPart (h.lostHeader.ite h).raiseStatus.sqWeirPart

theorem Canon.execWeirCommandComplete {n id} (h : s.Canon) : CanonNext (execWeirCommandComplete n id s) := by
  unfold Machine.execWeirCommandComplete
  refine Canon.next ?_
  split
  · split
    · exact h
    · exact h.ite (h.setWeir.raiseStatus.weirReport.getD h)
  · exact h

theorem Canon.wbStale {n k} (h : s.Canon) : CanonOpt (s.wbStale n k) := CanonOpt.ite CanonOpt.none h.discard.wbDone.opt

theorem Canon.appendPage {n x x3 p es} (h : s.Canon) : CanonFst (s.appendPage n x x3 p es) :=
  ((h.ite h.eccRead).foldl (fun _ _ h1 => h1.blkPut)).blkPut.putHdr.putSummary.fst.pair

theorem Canon.execAppend {n id} (h : s.Canon) : CanonNext (execAppend n id s) := by
  unfold Machine.execAppend
  refine Canon.next ?_
  split
  · exact h
  · split
    next e1 => exact (h.wbStale.get e1)
    · exact (h.pair.foldl (fun _ _ h1 => h1.fst.appendPage.fst.pair)).fst.setWeir.wbDone

theorem Canon.execAttend {n id pe} (h : s.Canon) : CanonNext (execAttend n id pe s) := by
  unfold Machine.execAttend
  refine Canon.next ?_
  split
  · exact h
  · split
    next e1 => exact (h.wbStale.get e1)
    · exact (((h.foldl (fun _ _ h1 => h1.foldl (fun _ _ h2 => h2.eccRead.eccRead))).ite h).wbEnd.writePE.met.bumpN.when (·.bump)).wbDone

theorem Canon.execFoldCommand {n id pe} (h : s.Canon) : CanonNext (execFoldCommand n id pe s) := by
  unfold Machine.execFoldCommand
  refine Canon.next ?_
  split
  · exact h
  · refine .wbDone (.met (CanonFst.fst ?_))
    split
    · exact h.wbEnd.meet.eccRead.foldTiles
    · exact h.wbEnd.meet.eccRead.foldUntiled

theorem Canon.gather {v vr tiled a c tab el l dst bad} (h : s.Canon) : CanonFst (s.gather v vr tiled a c tab el l dst bad) := by
  induction l generalizing s dst bad with
  | nil => exact h.pair
  | cons i l ih =>
    unfold State.gather
    refine ih (CanonFst.fst ?_)
    split
    · exact h.eccRead.copyTiles.fst.pair
    · exact h.eccRead.copyPlain

theorem Canon.execGather {n id pe} (h : s.Canon) : CanonNext (execGather n id pe s) := by
  unfold Machine.execGather
  refine Canon.next ?_
  split
  · exact h
  · split
    next e1 => exact (h.wbStale.get e1)
    · exact h.wbEnd.meet.gather.fst.met.wbDone

theorem Canon.requantPage {n x x3 p} (h : s.Canon) : CanonFst (s.requantPage n x x3 p) :=
  CanonFst.ite h.eccRead.pair (CanonFst.ite h.pair (CanonFst.ite h.eccRead.pair (h.foldl (fun _ _ h1 => h1.blkPut)).putHdr.pair))

theorem Canon.overPages {f ps} (hf : ∀ u a, u.Canon → CanonFst (f u a)) (hs : s.Canon) : CanonFst (overPages f s ps) :=
  hs.pair.foldl (fun _ _ h1 => (hf _ _ h1.fst).fst.pair)

theorem Canon.pageCommand {n k f ps} (h : s.Canon) (hf : ∀ u a, u.Canon → CanonFst (f u a)) : (s.pageCommand n k f ps).Canon := by
  unfold State.pageCommand
  split
  next e1 => exact (h.wbStale.get e1)
  · exact (Canon.overPages hf h).fst.wbDone

theorem Canon.execRequant {n id} (h : s.Canon) : CanonNext (execRequant n id s) := by
  unfold Machine.execRequant
  refine Canon.next ?_
  split
  · exact h
  · exact h.pageCommand (fun _ _ h1 => h1.requantPage)

theorem Canon.editHdr {n x x3 p re f} (h : s.Canon) : CanonFst (s.editHdr n x x3 p re f) :=
  CanonFst.ite h.pair (CanonFst.ite h.eccRead.putHdr.summarize.fst.pair h.eccRead.putHdr.pair)

theorem Canon.slotSync {k} (h : s.Canon) : (s.slotSync k).Canon := by
  unfold State.slotSync
  refine h.ite ?_
  split
  · exact h
  · exact h.upd.ite h

theorem Canon.setWslot {n k x} (h : s.Canon) : (s.setWslot n k x).Canon := h.setWeir

theorem Canon.execEvictTruncate {n id} (h : s.Canon) : CanonNext (execEvictTruncate n id s) := by
  unfold Machine.execEvictTruncate
  dsimp only
  refine Canon.next ?_
  split
  · exact h
  · split
    next e1 => exact (h.wbStale.get e1)
    · exact (Canon.overPages (fun _ _ h1 => h1.editHdr) h.setWslot).fst.relength.slotSync.wbDone

theorem Canon.evictDrop {n k on} (h : s.Canon) : (s.evictDrop n k on).Canon := by
  unfold State.evictDrop
  dsimp only
  split
  next e1 => exact (h.wbStale.get e1)
  · exact ((Canon.overPages (fun _ _ h1 => h1.editHdr) h).fst.unless (·.relength)).wbDone

theorem Canon.execEvictDrop {n id} (h : s.Canon) : CanonNext (execEvictDrop n id s) := by
  unfold Machine.execEvictDrop
  refine Canon.next ?_
  split
  · exact h
  · exact h.evictDrop

theorem Canon.execEvictUndrop {n id} (h : s.Canon) : CanonNext (execEvictUndrop n id s) := by
  unfold Machine.execEvictUndrop
  refine Canon.next ?_
  split
  · exact h
  · exact h.evictDrop

theorem Canon.execEvictRelease {n id} (h : s.Canon) : CanonNext (execEvictRelease n id s) := by
  unfold Machine.execEvictRelease
  refine Canon.next ?_
  split
  · exact h
  · split
    next e1 => exact (h.wbStale.get e1)
    · exact h.setWslot.setWeir.slotSync.wbDone

theorem Canon.recompute {n x x3 p} (h : s.Canon) : CanonFst (s.recompute n x x3 p) := CanonFst.ite h.eccRead.pair h.summarize

theorem Canon.execResummarizeRecompute {n id} (h : s.Canon) : CanonNext (execResummarizeRecompute n id s) := by
  unfold Machine.execResummarizeRecompute
  refine Canon.next ?_
  split
  · exact h
  · exact h.pageCommand (fun _ _ h1 => h1.recompute)

theorem Canon.installPages {n x l pay bad} (h : s.Canon) : CanonFst (s.installPages n x l pay bad) := by
  induction l generalizing s pay bad with
  | nil => exact h.pair
  | cons p l ih => exact ih h.blkPut.recompute.fst

theorem Canon.execResummarizeInstall {n id} (h : s.Canon) : CanonNext (execResummarizeInstall n id s) := by
  unfold Machine.execResummarizeInstall
  refine Canon.next ?_
  split
  · exact h
  · split
    next e1 => exact (h.wbStale.get e1)
    · exact h.installPages.fst.wbDone

theorem Canon.execTileFold {n x} (h : s.Canon) : CanonNext (execTileFold n x s) := by
  unfold Machine.execTileFold
  refine Canon.next ?_
  split
  · exact h.foldTile.fst.ite h
  · exact h

theorem Canon.slotErr {e} (h : s.Canon) : (slotErr e s).Canon := h.setRf

theorem Canon.wKvPart {o dev v} (h : s.Canon) : (s.wKvPart o dev v).Canon :=
  h.gate (CanonOptFn.ite (CanonOptFn.ofFn (fun _ h1 => h1.slotErr)) (CanonOptFn.ite (CanonOptFn.ofFn (fun _ h1 => h1.slotErr))
    (CanonOptFn.ite (CanonOptFn.ofFn (fun _ h1 => h1.slotErr)) CanonOptFn.none))) (fun _ _ h1 => h1.keepReg)

theorem Canon.execKvPartWrite {o v} (h : s.Canon) : CanonNext (execKvPartWrite o v s) := h.wKvPart.next

theorem Canon.wSlotSel {o dev v} (h : s.Canon) : (s.wSlotSel o dev v).Canon :=
  h.gate CanonOptFn.none (fun _ _ h1 => h1.keepReg.setReg.setReg.setReg.setReg)

theorem Canon.execSlotSelect {o v} (h : s.Canon) : CanonNext (execSlotSelect o v s) := h.wSlotSel.next

theorem Canon.wSlotCfg {o dev v} (h : s.Canon) : (s.wSlotCfg o dev v).Canon :=
  h.gate (CanonOptFn.ite (CanonOptFn.ofFn (fun _ h1 => h1.slotErr)) (CanonOptFn.ite (CanonOptFn.ofFn (fun _ h1 => h1.slotErr))
    CanonOptFn.none)) (fun _ _ h1 => h1.ite (h1.slotErr.ite h1.upd))

theorem Canon.execSlotCreate {o v} (h : s.Canon) : CanonNext (execSlotCreate o v s) := h.wSlotCfg.next
theorem Canon.execSlotUpdatePolicy {o v} (h : s.Canon) : CanonNext (execSlotUpdatePolicy o v s) := h.wSlotCfg.next
theorem Canon.execSlotRelease {o v} (h : s.Canon) : CanonNext (execSlotRelease o v s) := h.wSlotCfg.next

theorem Canon.initSlot {n x} (h : s.Canon) : (s.initSlot n x).Canon :=
  (h.foldl (fun _ _ h1 => h1.writeMem.putHdr)).foldl (fun _ _ h1 => h1.blkPut)

theorem Canon.applySlot {a n} (h : s.Canon) : (s.applySlot a n).Canon := h.setWslot.unless (fun h1 => h1.setWeir.when (·.initSlot))

theorem Canon.execSlotActionDone (h : s.Canon) : CanonNext (execSlotActionDone s) := by
  unfold Machine.execSlotActionDone
  refine Canon.next ?_
  split
  · exact h
  · exact h.ite ((h.foldl (fun _ _ h1 => h1.applySlot)).branch (·.upd.slotSync) (·.upd))

end Sys2Proof.Machine.State
end

section
/-! PROOF. The canonical form through the fabric (R417 to R461). -/

namespace Sys2Proof.Machine.State

set_option Elab.async false

variable {s t : State}

theorem Canon.noRoute {port} (h : s.Canon) : (s.noRoute port).Canon := h.bump

theorem Canon.answer {port die p st dup payload} (h : s.Canon) : (s.answer port die p st dup payload).Canon := by
  unfold State.answer
  dsimp only
  split
  next e1 => exact (h.inject.get e1)
  · exact h.noRoute

theorem Canon.dedupe {p} (h : s.Canon) : (s.dedupe p).Canon := by
  unfold State.dedupe
  dsimp only
  split
  · exact Dedupe.Canon.ite Dedupe.Canon.full h.setSpan.applied
  · exact Dedupe.Canon.ite h.setSpan.applied (Dedupe.Canon.ite h.setSpan.applied h.setSpan.duplicate)

theorem Canon.request {port type p apply} (h : s.Canon) (happly : ∀ u, u.Canon → CanonFst
    (apply u)) : (s.request port type p apply).Canon := by
  unfold State.request
  refine h.ite (h.noRoute.ite (h.ite ((happly _ h).fst.answer.ite ?_)))
  split
  next e1 => exact (happly _ (h.dedupe.get e1)).fst.answer
  next e1 => exact (h.dedupe.get' e1).bump.answer
  · exact h.bump.answer

theorem Canon.doRead {pe port p} (h : s.Canon) : CanonFst (s.doRead pe port p) := by
  unfold State.doRead
  dsimp only
  refine CanonFst.ite ?_ ?_
  · split
    · exact h.pair
    · split
      · exact h.pair
      · exact CanonFst.ite h.pair (h.meet.eccRead.met.unless (·.countCheck)).pair
  · split
    · exact h.pair
    · refine CanonFst.ite h.pair ?_
      split
      · exact (h.meet.eccRead.met.unless (·.countCheck)).pair
      · exact h.meet.eccRead.met.pair

theorem Canon.execRead {port p pe} (h : s.Canon) : CanonNext (execRead port p pe s) := (h.request (fun _ h1 => h1.doRead)).next
theorem Canon.tilePiece {p fold} (h : s.Canon) : (s.tilePiece p fold).Canon := h.upd
theorem Canon.tileTake {p fold} (h : s.Canon) : CanonFst (s.tileTake p fold) := h.upd.pair
theorem Canon.sealUnit {v p r a bs} (h : s.Canon) : (s.sealUnit v p r a bs).Canon := h.ite (h.upd.ite h.upd.takeFree.sealSlot)

theorem Canon.doWrite {pe port p} (h : s.Canon) : CanonFst (s.doWrite pe port p) := by
  unfold State.doWrite
  dsimp only
  split
  · exact h.pair
  · refine CanonFst.ite (CanonFst.ite h.pair (CanonFst.ite h.discard.pair ?_)) (CanonFst.ite h.discard.pair (CanonFst.ite
    h.tilePiece.pair ?_))
    · split
      · exact (h.foldl (fun _ _ h1 => h1.sealUnit)).met.pair
      · exact h.writePE.met.pair
    · split
      · exact CanonFst.ite h.tileTake.fst.pair (h.tileTake.fst.writeTile.unless (·.countCheck)).met.pair
      · exact CanonFst.ite h.tileTake.fst.pair (CanonFst.ite h.tileTake.fst.writePE.met.pair h.tileTake.fst.countCheck.pair)

theorem Canon.execWrite {port p pe} (h : s.Canon) : CanonNext (execWrite port p pe s) := (h.request (fun _ h1 => h1.doWrite)).next

theorem Canon.doAtomic {pe port p} (h : s.Canon) : CanonFst (s.doAtomic pe port p) := by
  unfold State.doAtomic
  split
  · exact h.pair
  · refine CanonFst.ite h.meet.pair (CanonFst.ite h.meet.eccRead.pair (CanonFst.ite h.meet.discard.pair (Canon.pair (.met ?_))))
    split
    · exact h.meet.writePE
    · exact h.meet

theorem Canon.execAtomic {port p pe} (h : s.Canon) : CanonNext (execAtomic port p pe s) := (h.request (fun _ h1 => h1.doAtomic)).next

theorem Canon.doFold {port p} (h : s.Canon) : CanonFst (s.doFold port p) := by
  unfold State.doFold
  dsimp only
  split
  · exact h.pair
  · refine CanonFst.ite h.pair (CanonFst.ite (CanonFst.ite h.pair h.eccRead.foldUntiled.fst.pair) (CanonFst.ite (CanonFst.ite
    h.tilePiece.pair h.discard.pair) ?_))
    split
    · exact CanonFst.ite h.tileTake.fst.pair h.tileTake.fst.foldTile.fst.pair
    · exact h.tileTake.fst.pair

theorem Canon.execFoldPacket {port p} (h : s.Canon) : CanonNext (execFoldPacket port p s) := (h.request (fun _ h1 => h1.doFold)).next

theorem Canon.execTokenSignal {port p} (h : s.Canon) : CanonNext (execTokenSignal port p s) :=
  (h.request (fun _ h1 => CanonFst.ite h1.pair (CanonFst.ite h1.pair h1.applySignal.fst.pair))).next

theorem Canon.answered {pe port type p} (h : s.Canon) : (s.answered pe port type p).Canon := h.ite (h.noRoute.ite (h.ite h.response))
theorem Canon.execReadData {port p pe} (h : s.Canon) : CanonNext (execReadData port p pe s) := h.answered.next
theorem Canon.execWriteAck {port p} (h : s.Canon) : CanonNext (execWriteAck port p s) := h.answered.next
theorem Canon.execAtomicData {port p} (h : s.Canon) : CanonNext (execAtomicData port p s) := h.answered.next
theorem Canon.execMgmtResponse {port p} (h : s.Canon) : CanonNext (execMgmtResponse port p s) := (h.ite h.answered).next
theorem Canon.forwardOn {out vc p} (h : s.Canon) : (s.forwardOn out vc p).Canon := h.txWait

theorem Canon.execMgmtForward {port p} (h : s.Canon) : CanonNext (execMgmtForward port p s) :=
  (h.ite (h.noRoute.ite (h.noRoute.ite (h.bump.ite h.forwardOn)))).next

theorem Canon.execPacketForward {port vc p} (h : s.Canon) : CanonNext (execPacketForward port vc p s) := by
  unfold Machine.execPacketForward
  dsimp only
  refine (h.ite (h.noRoute.ite (h.bump.ite (h.noRoute.ite ?_)))).next
  split
  · exact h.noRoute
  · exact h.forwardOn

theorem Canon.setHello {p x2} (h : s.Canon) : (s.setHello p x2).Canon := h.upd

theorem Canon.elect (h : s.Canon) : s.elect.Canon := by
  unfold State.elect
  dsimp only
  split
  · exact h.upd.unless (·.logEvent)
  · exact h.upd.unless (·.logEvent)

theorem Canon.execHello {port m} (h : s.Canon) : CanonNext (execHello port m s) := (h.setHello.elect.ite h).next
theorem Canon.execHelloSend {port} (h : s.Canon) : CanonNext (execHelloSend port s) := (h.ite (h.upd.ite h).setHello.txWait).next
theorem Canon.execManagerTimeout (h : s.Canon) : CanonNext (execManagerTimeout s) := (h.ite h.upd.elect).next
theorem Canon.execTrackerTimeout {d idx} (h : s.Canon) : CanonNext (execTrackerTimeout d idx s) := (h.trkLost.ite h).next
theorem Canon.execQuarantineExpiry {d idx} (h : s.Canon) : CanonNext (execQuarantineExpiry d idx s) := (h.setTrk.pumpAll.ite h).next

theorem Canon.execFlowExpiry {die dev} (h : s.Canon) : CanonNext (execFlowExpiry die dev s) := by
  unfold Machine.execFlowExpiry
  refine Canon.next ?_
  split
  · exact h.upd.pumpAll.ite h
  · exact h

theorem Canon.setRole {d r} (h : s.Canon) : (s.setRole d r).Canon := h.setRf
theorem Canon.setActive {k r active armed} (h : s.Canon) : (s.setActive k r active armed).Canon := h.setRoute.unless (·.upd)
theorem Canon.takeover {d} (h : s.Canon) : (s.takeover d).Canon := h.setRole.setSpan.logEvent.bump.emit

theorem Canon.execPierSilent {d pier} (h : s.Canon) : CanonNext (execPierSilent d pier s) :=
  (h.ite (h.setRb.unless (fun h1 => h1.setRb.when (·.takeover)))).next

theorem Canon.execTakeoverComplete {d} (h : s.Canon) : CanonNext (execTakeoverComplete d s) :=
  (h.ite (h.setSpan.foldl (fun _ _ h1 => h1.setActive.ite h1)).spanLost).next

theorem Canon.execTakeoverReport {d} (h : s.Canon) : CanonNext (execTakeoverReport d s) := (h.ite (h.upd.when (·.upd.emit))).next
theorem Canon.yieldStart (h : s.Canon) : s.yieldStart.Canon := h.setSpan
theorem Canon.execForceStandby (h : s.Canon) : CanonNext (execForceStandby s) := (h.yieldStart.upd.ite h).next
theorem Canon.execForceStandbyRepeat (h : s.Canon) : CanonNext (execForceStandbyRepeat s) := (h.ite h.upd.emit).next

theorem Canon.execYieldComplete (h : s.Canon) : CanonNext (execYieldComplete s) :=
  (h.ite (h.foldl (fun _ _ h1 => h1.setActive)).setRole).next

theorem Canon.normal {d} (h : s.Canon) : (s.normal d).Canon := h.setRole.setSpan.upd

theorem Canon.execHeartbeat {d pier role _mask _changes} (h : s.Canon) : CanonNext (execHeartbeat d pier role _mask _changes s) :=
  (h.ite (h.setRb.setRb.branch (·.yieldStart) (fun h1 => h1.ite h1.normal))).next

theorem Canon.execHeartbeatSend {d} (h : s.Canon) : CanonNext (execHeartbeatSend d s) := (h.ite h.setSpan.emit).next
theorem Canon.execKSidebandSilent {d} (h : s.Canon) : CanonNext (execKSidebandSilent d s) := (h.ite (h.setRb.when (·.normal))).next

theorem Canon.execKeystoneSidebandHeartbeat {d} (h : s.Canon) : CanonNext (execKeystoneSidebandHeartbeat d s) :=
  (h.ite (h.setRb.when (·.takeover))).next

theorem Canon.execResyncRearm (h : s.Canon) : CanonNext (execResyncRearm s) := ((h.foldl (fun _ _ h1 => h1.setActive.ite h1)).ite h).next
theorem Canon.wRtSel {o dev v} (h : s.Canon) : (s.wRtSel o dev v).Canon := h.gate CanonOptFn.none (fun _ _ h1 => h1.keepReg.setReg.setReg)
theorem Canon.rtErr {e} (h : s.Canon) : (rtErr e s).Canon := h.setRf

theorem Canon.wRtMode {o d v} (h : s.Canon) : (s.wRtMode o d v).Canon := by
  unfold State.wRtMode
  refine h.gateLog (CanonOptFn.ite CanonOptFn.none (CanonOptFn.ofFn fun _ h1 => h1.rtErr)) fun u x h1 => ?_
  exact (h1.upd.ite h1).setReg.setRoute

theorem Canon.switchback {k r} (h : s.Canon) : (s.switchback k r).Canon := h.setActive.ite h.rtErr
theorem Canon.rearm {k r} (h : s.Canon) : (s.rearm k r).Canon := h.setActive.ite h.rtErr

theorem Canon.wFabCtl {o dev v} (h : s.Canon) : (s.wFabCtl o dev v).Canon :=
  h.gate CanonOptFn.none (fun _ _ h1 => ((((h1.keepReg.when (·.switchback)).when (fun h2 => h2.foldl (fun _ _ h3 => h3.switchback))).when
    (·.rearm)).when (fun h2 => h2.foldl (fun _ _ h3 => h3.rearm))).elect)

theorem Canon.execRouteSelect {o v} (h : s.Canon) : CanonNext (execRouteSelect o v s) := h.wRtSel.next
theorem Canon.execRouteCommit {o v} (h : s.Canon) : CanonNext (execRouteCommit o v s) := h.wRtMode.next
theorem Canon.fabBit {o i} (h : s.Canon) : (s.fabBit o i).Canon := h.wFabCtl
theorem Canon.execSwitchback {o} (h : s.Canon) : CanonNext (execSwitchback o s) := h.fabBit.next
theorem Canon.execSwitchbackAll {o} (h : s.Canon) : CanonNext (execSwitchbackAll o s) := h.fabBit.next
theorem Canon.execRearm {o} (h : s.Canon) : CanonNext (execRearm o s) := h.fabBit.next
theorem Canon.execRearmAll {o} (h : s.Canon) : CanonNext (execRearmAll o s) := h.fabBit.next
theorem Canon.wDevId {o dev v} (h : s.Canon) : (s.wDevId o dev v).Canon := h.gate Canon.dropIf (fun _ _ h1 => h1.keepReg.elect)
theorem Canon.execDeviceIdWrite {o v} (h : s.Canon) : CanonNext (execDeviceIdWrite o v s) := h.wDevId.next
theorem Canon.wTrkCtl {d o dev v} (h : s.Canon) : (s.wTrkCtl d o dev v).Canon := h.gate CanonOptFn.none (fun _ _ h1 => h1.keepReg)
theorem Canon.mgmtAnswer {port p st payload} (h : s.Canon) : (s.mgmtAnswer port p st payload).Canon := h.answer.ite (h.noRoute.ite h.txWait)

theorem Canon.mgmtIn {port sub p serve} (h : s.Canon) (hserve : ∀ u, u.Canon → (serve u).Canon) : (s.mgmtIn port sub p serve).Canon :=
  h.ite (h.noRoute.ite (h.ite (hserve _ h)))

theorem Canon.execReachCmd {port p} (h : s.Canon) : CanonNext (execReachCmd port p s) := by
  unfold Machine.execReachCmd
  dsimp only
  refine (h.mgmtIn (fun _ h1 => ?_)).next
  split
  · exact h1
  next e2 => exact (h1.arrive.get e2).mgmtAnswer

theorem Canon.execQuery {port p} (h : s.Canon) : CanonNext (execQuery port p s) := (h.mgmtIn (fun _ h1 => h1.mgmtAnswer)).next

theorem Canon.assign {p o accept b} (h : s.Canon) : CanonFst (s.assign p o accept b) :=
  CanonFst.ite h.pair (CanonFst.ite h.pair (CanonFst.ite h.refuseLog.takeFree.pair h.wDevId.pair))

theorem Canon.execAssign {port p} (h : s.Canon) : CanonNext (execAssign port p s) := (h.mgmtIn (fun _ h1 => h1.assign.fst.mgmtAnswer)).next

end Sys2Proof.Machine.State
end

section
/-! PROOF. The canonical form through lasers, lines and rings (R282 to R318). -/

namespace Sys2Proof.Machine.State

set_option Elab.async false

variable {s t : State}

theorem Canon.setSpring {sp x} (h : s.Canon) : (s.setSpring sp x).Canon := h.upd
theorem Canon.ageLaser {sp l} (h : s.Canon) : (s.ageLaser sp l).Canon := h.storePush.setSpring
theorem Canon.laserTo {sp l st} (h : s.Canon) : (s.laserTo sp l st).Canon := h.ite h.setSpring.ageLaser

theorem Canon.warmSpare {sp k} (h : s.Canon) : CanonOpt (s.warmSpare sp k) := by
  unfold State.warmSpare
  refine CanonOpt.ite CanonOpt.none ?_
  split
  · exact h.opt
  · split
    · exact CanonOpt.none
    · exact h.setSpring.laserTo.opt

theorem Canon.swapPending {sp} (h : s.Canon) : (s.swapPending sp).Canon := h.foldl (fun _ _ h1 => h1.setCu)
theorem Canon.swapReport {sp} (h : s.Canon) : (s.swapReport sp).Canon := h.foldl (fun _ _ h1 => h1.setCu)
theorem Canon.requestDone {sp k} (h : s.Canon) : (s.requestDone sp k).Canon := h.upd
theorem Canon.turnAway {sp k} (h : s.Canon) : (s.turnAway sp k).Canon := h.setSpring.requestDone.branch (·.setRb) (·.raiseErr.bump)

theorem Canon.handoverBegin {sp k} (h : s.Canon) : (s.handoverBegin sp k).Canon := by
  unfold State.handoverBegin
  split
  · exact h.turnAway
  next e1 => exact (h.warmSpare.get e1).setSpring.requestDone.swapPending

theorem Canon.handoverHead {sp} (h : s.Canon) : (s.handoverHead sp).Canon := by
  unfold State.handoverHead
  dsimp only
  split
  · exact h.handoverBegin.ite h
  · exact h

theorem Canon.handoverNext {sp} (h : s.Canon) : (s.handoverNext sp).Canon := h.foldl (fun _ _ h1 => h1.handoverHead)

theorem Canon.handoverWant {sp k} (h : s.Canon) : (s.handoverWant sp k).Canon := by
  unfold State.handoverWant
  refine h.ite (h.requestDone.ite (.handoverNext (.setSpring (CanonOpt.getD (Canon.warmSpare ?_) ?_))))
  · split
    · exact h.laserTo
    · exact h
  · split
    · exact h.laserTo
    · exact h

theorem Canon.lineLanes {sp k f g} (h : s.Canon) (hf : ∀ u a, u.Canon → (f u a).Canon) (hg : ∀ u a b, u.Canon →
    (g u a b).Canon) : (s.lineLanes sp k f g).Canon :=
  (h.foldl hf).when (fun h1 => h1.foldl (fun _ _ h2 => hg _ _ _ h2))

theorem Canon.linesBack {sp k} (h : s.Canon) : (s.linesBack sp k).Canon :=
  h.lineLanes (fun _ _ h1 => h1.laneReturns) (fun _ _ _ h1 => h1.flReturns)

theorem Canon.handoverSet {sp} (h : s.Canon) : (s.handoverSet sp).Canon := by
  unfold State.handoverSet; exact h.setSpring.lineLanes (fun _ _ h1 => h1.retireLane) (fun _ _ _ h1 => h1.ite h1.retireFl)

theorem Canon.lanesRound {sp} (h : s.Canon) : (s.lanesRound sp).Canon :=
  ((h.lineLanes (fun _ _ h1 => h1.laneLeaves) (fun _ _ _ h1 => h1.flLeaves)).ite h).linesBack

theorem Canon.handoverDrop {sp} (h : s.Canon) : (s.handoverDrop sp).Canon := by
  unfold State.handoverDrop
  refine .bump (.raiseErr (.swapReport (.setSpring ?_)))
  split
  · exact h.lanesRound.unless (·.laserTo)
  · exact h.lanesRound

theorem Canon.modMram {f} (h : s.Canon) : (s.modMram f).Canon := h.upd
theorem Canon.repairNow {r} (h : s.Canon) : (s.repairNow r).Canon := h.modMram.ite h.storePush
theorem Canon.springLock {sp} (h : s.Canon) : (s.springLock sp).Canon := h.setSpring.readyUpd

theorem Canon.lineFail {sp k} (h : s.Canon) : (s.lineFail sp k).Canon := by
  unfold State.lineFail
  dsimp only
  split
  · exact h
  · refine .handoverNext (.springLock (.bump (.repairNow (.raiseErr (.foldl (.lineLanes (.when (.setSpring ?_) (·.swapReport))
    (fun _ _ h1 => h1.retireLane) (fun _ _ _ h1 => h1.retireFl)) (fun _ _ h1 => h1.setCu.cuMode))))))
    split
    · exact (h.laserTo.when (·.setRb.requestDone)).unless (·.laserTo)
    · exact h.laserTo.when (·.setRb.requestDone)

theorem Canon.fadeOf {sp k l drive} (h : s.Canon) : (s.fadeOf sp k l drive).Canon := by
  unfold State.fadeOf
  refine .branch (.ite ?_ ((h.setSpring.when (·.ageLaser)).when (·.laserTo.raiseErr.logEvent))) (·.handoverWant)
    (fun h1 => h1.lineFail.ite h1)
  split
  next e1 => exact (((h.setSpring.when (·.ageLaser)).when (·.laserTo.raiseErr.logEvent)).warmSpare.get e1).laserTo
  · exact (h.setSpring.when (·.ageLaser)).when (·.laserTo.raiseErr.logEvent)

theorem Canon.execFadeEvaluation {sp meas} (h : s.Canon) : CanonNext (execFadeEvaluation sp meas s) := by
  unfold Machine.execFadeEvaluation
  refine (h.ite ((h.setSpring.handoverNext.ite h).foldl (fun _ _ h1 => ?_))).next
  split
  · exact h1
  · split
    · exact h1.fadeOf.ite h1
    · exact h1

theorem Canon.execLaserLowOutput {sp laser mw} (h : s.Canon) : CanonNext (execLaserLowOutput sp laser mw s) := by
  unfold Machine.execLaserLowOutput
  refine (h.ite ?_).next
  split
  · exact h
  · exact h.ite (h.setSpring.branch (·.lineFail) (fun h1 => h1.handoverWant.ite h1))

theorem Canon.execSparePrewarmLocked {sp spare} (h : s.Canon) : CanonNext (execSparePrewarmLocked sp spare s) :=
  (h.setSpring.handoverNext.ite h).next

theorem Canon.execHandoverSchedule {sp} (h : s.Canon) : CanonNext (execHandoverSchedule sp s) := (h.handoverSet.ite h).next

theorem Canon.execHandoverSwap {sp} (h : s.Canon) : CanonNext (execHandoverSwap sp s) :=
  ((h.setSpring.lineLanes (fun _ _ h1 => h1.laneLeaves) (fun _ _ _ h1 => h1.flLeaves)).ite h).next

theorem Canon.execSpareLock {sp} (h : s.Canon) : CanonNext (execSpareLock sp s) := by
  unfold Machine.execSpareLock
  refine (h.ite (.springLock (.swapReport (.repairNow (.laserTo (.setSpring ?_)))))).next
  split
  · exact h.setSpring.laserTo
  · exact h

theorem Canon.execSpareLockTimeout {sp} (h : s.Canon) : CanonNext (execSpareLockTimeout sp s) := by
  unfold Machine.execSpareLockTimeout
  dsimp only
  refine (h.ite (h.linesBack.handoverSet.ite ?_)).next
  split
  next e1 => exact (h.linesBack.laserTo.setSpring.warmSpare.get e1).setSpring
  · exact h.linesBack.laserTo.setSpring.handoverDrop

theorem Canon.execHandoverComplete {sp} (h : s.Canon) : CanonNext (execHandoverComplete sp s) :=
  (h.ite h.linesBack.setSpring.bump.handoverNext).next

theorem Canon.execHandoverAbandon {sp} (h : s.Canon) : CanonNext (execHandoverAbandon sp s) := by
  unfold Machine.execHandoverAbandon
  refine Canon.next ?_
  split
  · exact h.handoverDrop
  · exact h.handoverDrop
  · exact h.ite h.handoverDrop
  · exact h

theorem Canon.handoverReset {sp} (h : s.Canon) : (s.handoverReset sp).Canon := h.ite (h.lanesRound.swapReport.setSpring.when (·.bump))

theorem Canon.wLaserCtl {o dev v} (h : s.Canon) : (s.wLaserCtl o dev v).Canon :=
  h.gate CanonOptFn.none (fun _ _ h1 => h1.setReg.unless (fun h2 => h2.upd.handoverWant.ite h2.setRb))

theorem Canon.execHandoverRequest {o v} (h : s.Canon) : CanonNext (execHandoverRequest o v s) := h.wLaserCtl.next
theorem Canon.execReferenceLoss (h : s.Canon) : CanonNext (execReferenceLoss s) := (h.ite h.upd.setRf.springLock.springLock).next

theorem Canon.execReferenceReturn (h : s.Canon) : CanonNext (execReferenceReturn s) :=
  (h.ite h.upd.springLock.springLock.handoverNext.handoverNext).next

theorem Canon.execLaserLockUpdate {sp laser errMHz need mw} (h : s.Canon) : CanonNext (execLaserLockUpdate sp laser errMHz need mw s) :=
  (h.ite h.takeFree.setSpring.springLock).next

theorem Canon.ringLost {i} (h : s.Canon) : (s.ringLost i).Canon :=
  (h.bump.branch (·.retireLane) (fun h1 => h1.askRetire.ite (h1.retireFl.ite (h1.askRetireFl.ite (h1.setCu.ite h1))))).readyUpd

theorem Canon.execRingLoopUpdate {ring detuneMHz} (h : s.Canon) : CanonNext (execRingLoopUpdate ring detuneMHz s) :=
  (h.ite ((h.takeFree.when (·.addDrives)).setRing.branch (·.ringLost) (fun h1 => h1.readyUpd.ite h1))).next

theorem Canon.wCalCtl {o dev v} (h : s.Canon) : (s.wCalCtl o dev v).Canon :=
  h.gate (CanonOptFn.ite (CanonOptFn.ofFn (fun _ h1 => h1.setRf)) CanonOptFn.none) (fun _ _ h1 => h1.keepReg.unless (fun h2 => h2.upd.ite
    h2.setRf))

theorem Canon.execCalDump {o v} (h : s.Canon) : CanonNext (execCalDump o v s) := h.wCalCtl.next
theorem Canon.execCalLoad {o v} (h : s.Canon) : CanonNext (execCalLoad o v s) := h.wCalCtl.next

theorem Canon.calApply {b} (h : s.Canon) : (s.calApply b).Canon := by
  unfold State.calApply; dsimp only; exact ((h.foldl (fun _ _ h1 => h1.ite h1.setSpring)).foldl (fun _ _ h1 => h1.setRing)).upd.foldl
    (fun _ _ h1 => h1.setCu)

theorem Canon.execCalDone {pe} (h : s.Canon) : CanonNext (execCalDone pe s) := by
  unfold Machine.execCalDone
  refine Canon.next ?_
  split
  · exact h
  · exact h.upd.branch (·.writePE.met) (fun h1 => h1.meet.met.branch (·.eccRead.setRf) (fun h2 => h2.setRf.ite h2.logAuto.calApply))

theorem Canon.bootSpring {sp} (h : s.Canon) : (s.bootSpring sp).Canon := h.setSpring

theorem Canon.ringFail {i} (h : s.Canon) : (s.ringFail i).Canon :=
  h.setRing.branch (·.storePush.laneOut) (fun h1 => h1.flOut.ite (h1.putRows.when (·.storePush)))

theorem Canon.opticRepairs (h : s.Canon) : s.opticRepairs.Canon := by
  unfold State.opticRepairs
  refine h.foldl (fun _ _ h1 => ?_)
  split
  · exact h1.setLane
  · exact h1.modPort
  · exact h1.setRing.setRing.setLane.ite h1.setRing.putRows
  · exact h1.putRows
  · exact h1

theorem Canon.oldLines (h : s.Canon) : s.oldLines.Canon :=
  h.foldl (fun _ _ h1 => h1.foldl (fun _ _ h2 => (h2.lineLanes (fun _ _ h3 => h3.setLane) (fun _ _ _ h3 => h3.modPort)).foldl
    (fun _ _ h3 => h3.setCu)))

theorem Canon.opticValues {snap} (h : s.Canon) : (s.opticValues snap).Canon := by
  unfold State.opticValues
  split
  · exact (h.upd.foldl (fun _ _ h1 => h1.setSpring)).foldl (fun _ _ h1 => h1.setCu)
  · exact h.upd.takeFree

theorem Canon.sweep {rings} (h : s.Canon) : (s.sweep rings).Canon := (h.foldl (fun _ _ h1 => h1.setRing)).takeFree

theorem Canon.execOpticsBringup {failedRings slowRings} (h : s.Canon) : CanonNext (execOpticsBringup failedRings slowRings s) :=
  (h.ite ((h.opticValues.upd.bootSpring.bootSpring.opticRepairs.oldLines.sweep.foldl
    (fun _ _ h1 => h1.ringFail)).setReg.setReady.setReady.springLock.springLock.bedUnpark.foldl (fun _ _ h1 => h1.setCu.cuMode.ite
    h1)).readyUpd).next

end Sys2Proof.Machine.State
end

section
/-! PROOF. The canonical form through the persistent store (R595 to R625). -/

namespace Sys2Proof.Machine.State

set_option Elab.async false

variable {s t : State}

theorem Canon.pstBit {i b} (h : s.Canon) : (s.pstBit i b).Canon := h.setRb

theorem Canon.committed {x1} (h : s.Canon) : (s.committed x1).Canon := by
  unfold State.committed
  split
  · exact h.upd
  · exact h

theorem Canon.drainOne (h : s.Canon) : s.drainOne.Canon := by
  unfold State.drainOne
  split
  · exact h
  · exact h.upd.modMram.committed

theorem Canon.drainAll (h : s.Canon) : s.drainAll.Canon := h.foldl (fun _ _ h1 => h1.drainOne)
theorem Canon.snapCommit (h : s.Canon) : s.snapCommit.Canon := h.modMram
theorem Canon.execSnapshotDone (h : s.Canon) : CanonNext (execSnapshotDone s) := (h.ite (h.snapCommit.upd.when (·.upd))).next
theorem Canon.pushLast (h : s.Canon) : s.pushLast.Canon := h.upd.storePush.storePush.storePush
theorem Canon.shutdown (h : s.Canon) : s.shutdown.Canon := h.drainAll.pushLast.drainAll.snapCommit.upd.pstBit.ite h.pushLast.upd
theorem Canon.storeWriteStep (h : s.Canon) : s.storeWriteStep.Canon := h.ite (h.drainOne.when (·.upd.pstBit))
theorem Canon.execStoreGateClose (h : s.Canon) : CanonNext (execStoreGateClose s) := (h.ite (h.pstBit.when (·.raiseErr))).next
theorem Canon.execStoreGateOpen (h : s.Canon) : CanonNext (execStoreGateOpen s) := (h.ite (h.pstBit.reserve.when (·.upd))).next
theorem Canon.storeReset (h : s.Canon) : s.storeReset.Canon := h.modMram.upd.upd.upd

theorem Canon.wPstCtl {o dev v} (h : s.Canon) : (s.wPstCtl o dev v).Canon :=
  h.gate Canon.ignoreIf (fun _ _ h1 => ((h1.snapWant.ite h1).when (·.shutdown)).when (·.storeReset))

theorem Canon.execSnapshotRequest {o v} (h : s.Canon) : CanonNext (execSnapshotRequest o v s) := h.wPstCtl.next
theorem Canon.execOrderlyShutdown {o v} (h : s.Canon) : CanonNext (execOrderlyShutdown o v s) := h.wPstCtl.next
theorem Canon.execStoreReset {o v} (h : s.Canon) : CanonNext (execStoreReset o v s) := h.wPstCtl.next
theorem Canon.lifeAdd {i n} (h : s.Canon) : (s.lifeAdd i n).Canon := h.upd

theorem Canon.lifeSecond (h : s.Canon) : s.lifeSecond.Canon :=
  h.lifeAdd.branch (·.lifeAdd) (fun h1 => h1.ite (h1.lifeAdd.unless (fun h2 => h2.foldl (fun _ _ h3 => h3.lifeAdd))))

theorem Canon.execAoTick (h : s.Canon) : CanonNext (execAoTick s) := ((h.upd.when (·.lifeSecond)).ite h).next
theorem Canon.execLifetimeCommit (h : s.Canon) : CanonNext (execLifetimeCommit s) := (h.storePush.ite h).next

theorem Canon.execAgeingRecord {means} (h : s.Canon) : CanonNext (execAgeingRecord means s) :=
  ((h.foldl (fun _ _ h1 => h1.storePush)).ite h).next

theorem Canon.hsErr {e} (h : s.Canon) : (hsErr e s).Canon := h.setRf

theorem Canon.wHsCtl {pe o dev v} (h : s.Canon) : (s.wHsCtl pe o dev v).Canon :=
  h.gate (CanonOptFn.ite (CanonOptFn.ofFn (fun _ h1 => h1.hsErr)) CanonOptFn.none) (fun _ _ h1 => h1.keepReg.unless
    (fun h2 => h2.hsErr.ite ((h2.ite h2.meet.eccRead).unless (·.met)).upd))

theorem Canon.execHostSavedSave {o v pe} (h : s.Canon) : CanonNext (execHostSavedSave o v pe s) := h.wHsCtl.next
theorem Canon.execHostSavedLoad {o v} (h : s.Canon) : CanonNext (execHostSavedLoad o v s) := h.wHsCtl.next

theorem Canon.execHostSavedOperationComplete {pe} (h : s.Canon) : CanonNext (execHostSavedOperationComplete pe s) := by
  unfold Machine.execHostSavedOperationComplete
  refine Canon.next ?_
  split
  · exact h
  · exact h.ite (h.upd.branch (·.writePE.met.setRf) (·.modMram))

theorem Canon.storeAbort {front} (h : s.Canon) : (s.storeAbort front).Canon := h.modMram.upd
theorem Canon.storeCut (h : s.Canon) : s.storeCut.Canon := h.takeFree.storeAbort.upd

end Sys2Proof.Machine.State
end

section
/-! PROOF. The canonical form through identity, trust and debug (R546 to R593). -/

namespace Sys2Proof.Machine.State

set_option Elab.async false

variable {s t : State}

theorem Canon.extend {r d} (h : s.Canon) : (s.extend r d).Canon := h.upd
theorem Canon.pushFloors (h : s.Canon) : s.pushFloors.Canon := h.storePush
theorem Canon.dropNonce (h : s.Canon) : s.dropNonce.Canon := h.upd.foldl (fun _ _ h1 => h1.setReg)
theorem Canon.zeroize (h : s.Canon) : s.zeroize.Canon := h.dropNonce.upd
theorem Canon.setLevel {l} (h : s.Canon) : (s.setLevel l).Canon := h.ite (h.zeroize.upd.ite h).upd.extend
theorem Canon.flushStore (h : s.Canon) : s.flushStore.Canon := h.drainAll.ite h
theorem Canon.burnLife {n} (h : s.Canon) : (s.burnLife n).Canon := h.upd
theorem Canon.clearGrant (h : s.Canon) : s.clearGrant.Canon := h.upd.pushFloors

theorem Canon.tokenEffect {t} (h : s.Canon) : (s.tokenEffect t).Canon := by
  unfold State.tokenEffect
  dsimp only
  split
  · exact h.upd.setLevel.pushFloors
  · exact h.upd.setLevel.pushFloors
  · exact h.storePush.flushStore
  · exact h.clearGrant.storePush.storePush.flushStore
  · exact h.clearGrant.storePush.flushStore.burnLife
  · exact h.clearGrant.storePush.storePush.flushStore.upd.burnLife
  · exact h.storePush.flushStore

theorem Canon.authResult {r} (h : s.Canon) : (s.authResult r).Canon := h.setRf

theorem Canon.execTokenCheckComplete (h : s.Canon) : CanonNext (execTokenCheckComplete s) := by
  unfold Machine.execTokenCheckComplete
  refine Canon.next ?_
  split
  · exact h
  · exact h.ite (h.upd.branch (·.authResult) (fun h1 => h1.refuseLog.ite h1.logChange.extend.tokenEffect.authResult.readyUpd))

theorem Canon.submit {o t} (h : s.Canon) : (s.submit o t).Canon := h.authResult.ite (h.refuseLog.ite h.upd)
theorem Canon.newNonce (h : s.Canon) : s.newNonce.Canon := h.ite (h.takeFree.upd.foldl (fun _ _ h1 => h1.setReg))
theorem Canon.relock (h : s.Canon) : s.relock.Canon := h.setLevel.clearGrant

theorem Canon.wAuthCtl {o dev v} (h : s.Canon) : (s.wAuthCtl o dev v).Canon :=
  ((h.ite h.bump).setRf.when (·.newNonce)).submit.ite (h.gate CanonOptFn.none (fun _ _ h1 => (h1.setReg.when (·.relock)).when (·.newNonce)))

theorem Canon.execNewNonce {o} (h : s.Canon) : CanonNext (execNewNonce o s) := h.wAuthCtl.next

theorem Canon.submitRow {cmd o jtag} (h : s.Canon) : (s.submitRow cmd o jtag).Canon := by
  unfold State.submitRow
  refine h.ite ?_
  split
  · exact h.submit.ite h
  · exact h.wAuthCtl.ite h

theorem Canon.execDebugObserve {o jtag} (h : s.Canon) : CanonNext (execDebugObserve o jtag s) := h.submitRow.next
theorem Canon.execDebugInvasive {o jtag} (h : s.Canon) : CanonNext (execDebugInvasive o jtag s) := h.submitRow.next
theorem Canon.execClaim {o jtag} (h : s.Canon) : CanonNext (execClaim o jtag s) := h.submitRow.next
theorem Canon.execRelease {o jtag} (h : s.Canon) : CanonNext (execRelease o jtag s) := h.submitRow.next
theorem Canon.execReturnTok {o jtag} (h : s.Canon) : CanonNext (execReturnTok o jtag s) := h.submitRow.next
theorem Canon.execScrap {o jtag} (h : s.Canon) : CanonNext (execScrap o jtag s) := h.submitRow.next
theorem Canon.execPolicy {o jtag} (h : s.Canon) : CanonNext (execPolicy o jtag s) := h.submitRow.next
theorem Canon.execRelock {o v} (h : s.Canon) : CanonNext (execRelock o v s) := h.wAuthCtl.next

theorem Canon.execProvision {pubKeys certs} (h : s.Canon) : CanonNext (execProvision pubKeys certs s) :=
  (h.ite h.logChange.upd.modMram.flushStore.burnLife).next

theorem Canon.wSvn {c o dev v} (h : s.Canon) : (s.wSvn c o dev v).Canon := h.gate Canon.dropIf (fun _ _ h1 => h1.upd.ite h1)
theorem Canon.execSvnBurn {o cls v} (h : s.Canon) : CanonNext (execSvnBurn o cls v s) := h.wSvn.next

theorem Canon.wExtendCtl {o dev v} (h : s.Canon) : (s.wExtendCtl o dev v).Canon :=
  h.gate CanonOptFn.none (fun _ _ h1 => h1.keepReg.when (·.extend))

theorem Canon.execExtend {o v} (h : s.Canon) : CanonNext (execExtend o v s) := h.wExtendCtl.next

theorem Canon.wAttestCtl {o dev v} (h : s.Canon) : (s.wAttestCtl o dev v).Canon :=
  h.gate (CanonOptFn.ite (CanonOptFn.ofFn (fun _ h1 => h1.setRf)) CanonOptFn.none) (fun _ _ h1 => h1.keepReg.unless
    (fun h2 => h2.setRf.ite (h2.setRf.ite h2.upd)))

theorem Canon.execAttest {o v} (h : s.Canon) : CanonNext (execAttest o v s) := h.wAttestCtl.next

theorem Canon.execAttestationReportComplete {pe} (h : s.Canon) : CanonNext (execAttestationReportComplete pe s) := by
  unfold Machine.execAttestationReportComplete
  refine Canon.next ?_
  split
  · exact h
  · exact h.ite h.upd.writePE.met

theorem Canon.execGetMeasurements {idx nonce} (h : s.Canon) : CanonNext (execGetMeasurements idx nonce s) :=
  (h.ite (h.emit.ite (h.emit.ite h.emit))).next

theorem Canon.execGetCertificate (h : s.Canon) : CanonNext (execGetCertificate s) := (h.emit.ite h).next
theorem Canon.execSpdmKeyExchange (h : s.Canon) : CanonNext (execSpdmKeyExchange s) := (h.takeFree.upd.ite h).next
theorem Canon.execEntropyHealthFailure (h : s.Canon) : CanonNext (execEntropyHealthFailure s) := (h.upd.raiseErr.ite h).next

end Sys2Proof.Machine.State
end

section
/-! PROOF. The canonical form through resets of a running device (R639 to R648). -/

namespace Sys2Proof.Machine.State

set_option Elab.async false

variable {s t : State}

theorem Canon.resetRegs {hit} (h : s.Canon) : (s.resetRegs hit).Canon := h.upd
theorem Canon.zeroSram {p} (h : s.Canon) : (s.zeroSram p).Canon := h.changeMem (Mem.wf_filter _ _ _ h.1)

theorem Canon.zeroGroups (h : s.Canon) : s.zeroGroups.Canon := by
  unfold State.zeroGroups
  split
  · exact h
  · exact h.changeMem (Mem.wf_filter _ _ _ h.1)

theorem Canon.clearWork (h : s.Canon) : s.clearWork.Canon := h.upd

theorem Canon.bedRestart {a b} (h : s.Canon) : (s.bedRestart a b).Canon :=
  (h.foldl (fun _ _ h1 => h1.ite h1.setLane)).setLink.when (·.bedTrain)

theorem Canon.portRestart {p} (h : s.Canon) : (s.portRestart p).Canon :=
  (h.helloEvent.ite h).portFlush.setPort.branch (·.quiesceFlush.quiesced.svcSafe) (fun h1 => h1.portTrain.ite h1)

theorem Canon.fabRestart (h : s.Canon) : s.fabRestart.Canon := by
  unfold State.fabRestart
  exact Canon.setWaiting (s := List.foldl ..) (h.setSpan.setSpan.upd.foldl fun _ _ h1 => h1.portRestart)

theorem Canon.restoreSensors {code} (h : s.Canon) : (s.restoreSensors code).Canon := h.foldl (fun _ _ h1 => h1.setSensor)
theorem Canon.dvfsReset {t} (h : s.Canon) : (s.dvfsReset t).Canon := h.setDvfs.upd.setRf
theorem Canon.releaseHeldDies (h : s.Canon) : s.releaseHeldDies.Canon := h.foldl (fun _ _ h1 => h1.upd.restoreSensors.when (·.dvfsStart))
theorem Canon.unslack (h : s.Canon) : s.unslack.Canon := h.upd.when (·.setRf.setRf.upd)
theorem Canon.warmSec (h : s.Canon) : s.warmSec.Canon := h.dropNonce.upd
theorem Canon.hqReset {fab} (h : s.Canon) : (s.hqReset fab).Canon := h.upd
theorem Canon.unready (h : s.Canon) : s.unready.Canon := h.setRb.setReg

theorem Canon.clearErr {l x} (h : s.Canon) (hl : l.length = 4 := by rfl) : Canon { s with err := l, test := x } :=
  ⟨h.1, h.2.1, hl⟩

theorem Canon.warm {fab} (h : s.Canon) : (s.warm fab).Canon := by
  unfold State.warm
  refine .handoverNext (.handoverNext (.readyUpd (.when (.setRf (.unready (.foldl (.fabRestart (.foldl (.upd (.clearErr ?_))
    fun _ _ h1 => h1.setCu.cuMode)) fun _ _ h1 => h1.bedRestart))) fun h1 => h1.devCause)))
  exact h.unslack.handoverReset.handoverReset.storeAbort.zeroGroups.clearWork.zeroSram.releaseHeldDies.resetRegs.upd.hqReset.unless
    fun h1 => h1.warmSec

theorem Canon.execWarmReset (h : s.Canon) : CanonNext (execWarmReset s) := (h.ite (h.upd.ite h.warm)).next
theorem Canon.resetReaches {code} (h : s.Canon) : (s.resetReaches code).Canon := h.foldl (fun _ _ h1 => h1.setReach)
theorem Canon.resetMoves {code} (h : s.Canon) : (s.resetMoves code).Canon := h.upd
theorem Canon.holdTensor {t} (h : s.Canon) : (s.holdTensor t).Canon := h.stopFill.upd.setCu.dvfsReset.upd
theorem Canon.holdWeir {n} (h : s.Canon) : (s.holdWeir n).Canon := h.setWeir

theorem Canon.holdSpan {d} (h : s.Canon) : (s.holdSpan d).Canon :=
  (h.foldl (fun _ _ h1 => (h1.portDown.when (·.portFlush)).modPort)).spanLost

theorem Canon.dieHold {code} (h : s.Canon) : (s.dieHold code).Canon :=
  (h.handoverReset.resetReaches.resetMoves.branch (·.holdTensor) (fun h1 => h1.holdWeir.ite
    h1.holdSpan)).settle.bedDieDown.upd.devCause.readyUpd.handoverNext

theorem Canon.freeTensor {t} (h : s.Canon) : (s.freeTensor t).Canon :=
  ((h.zeroSram.foldl (fun _ _ h1 => h1.setCell)).takeFree.upd.when (·.setCu)).cuMode.dvfsStart

theorem Canon.freeWeir {n} (h : s.Canon) : (s.freeWeir n).Canon := h.setWeir.foldl (fun _ _ h1 => h1.relength)
theorem Canon.freeSpan {d} (h : s.Canon) : (s.freeSpan d).Canon := h.normal.setRb.foldl (fun _ _ h1 => h1.setPort.ite h1)

theorem Canon.dieRelease {code quoteOk} (h : s.Canon) : (s.dieRelease code quoteOk).Canon :=
  h.ite (h.upd.raiseErr.ite (h.upd.extend.upd.restoreSensors.branch (·.freeTensor) (fun h1 => h1.freeWeir.ite
    h1.freeSpan)).bedDieUp.readyUpd)

theorem Canon.resetErr {e} (h : s.Canon) : (resetErr e s).Canon := h.setRf

theorem Canon.resetAct {v quoteOk} (h : s.Canon) : (s.resetAct v quoteOk).Canon := by
  unfold State.resetAct
  split
  · exact h.upd
  · exact h.upd
  · exact h.dieHold
  · exact h.bedDown.when (·.bedTrain)
  · exact h.portRestart
  · exact h.dieRelease
  · exact h

theorem Canon.wResetCtl {o dev v quoteOk} (h : s.Canon) : (s.wResetCtl o dev v quoteOk).Canon :=
  h.gate (CanonOptFn.ite (CanonOptFn.ofFn (fun _ h1 => h1.counted)) (CanonOptFn.ite (CanonOptFn.ofFn (fun _ h1 => h1.resetErr))
    CanonOptFn.none)) (fun _ _ h1 => (h1.ite h1.setRf).resetAct)

theorem Canon.execFabricReset {o v} (h : s.Canon) : CanonNext (execFabricReset o v s) := ((h.ite h.wResetCtl).when (·.warm)).next
theorem Canon.execDieHold {o v} (h : s.Canon) : CanonNext (execDieHold o v s) := h.wResetCtl.next
theorem Canon.execDieRelease {o v quoteOk} (h : s.Canon) : CanonNext (execDieRelease o v quoteOk s) := h.wResetCtl.next
theorem Canon.execBedLinkReset {o v} (h : s.Canon) : CanonNext (execBedLinkReset o v s) := h.wResetCtl.next
theorem Canon.execPortReset {o v} (h : s.Canon) : CanonNext (execPortReset o v s) := h.wResetCtl.next

end Sys2Proof.Machine.State
end

section
/-! PROOF. The canonical form through error FIFOs, tests and repair (R649 to R670). -/

namespace Sys2Proof.Machine.State

set_option Elab.async false

variable {s t : State}

theorem Canon.wErrCfg {o dev v} (h : s.Canon) : (s.wErrCfg o dev v).Canon := h.gate CanonOptFn.none (fun _ _ h1 => h1.setFifo)

theorem Canon.wErrPop {o dev v} (h : s.Canon) : (s.wErrPop o dev v).Canon := by
  unfold State.wErrPop
  dsimp only
  refine h.gate CanonOptFn.none (fun _ _ h1 => ?_)
  split
  · exact h1.setFifo.fifoIrq.ite h1.bump
  · exact h1.bump

theorem Canon.execErrorPop {o v} (h : s.Canon) : CanonNext (execErrorPop o v s) := h.wErrPop.next
theorem Canon.sramRepair {die code bank row repl} (h : s.Canon) : (s.sramRepair die code bank row repl).Canon := h.storePush
theorem Canon.useSpare {die code bank row} (h : s.Canon) : (s.useSpare die code bank row).Canon := h.upd.sramRepair.raiseErr
theorem Canon.sramFault {die code bank row} (h : s.Canon) : (s.sramFault die code bank row).Canon := h.useSpare.ite h.raiseErr

theorem Canon.execTransparentTestRegion {t failing pe} (h : s.Canon) : CanonNext (execTransparentTestRegion t failing pe s) :=
  (h.ite (h.meet.eccRead.met.foldl (fun _ _ h1 => h1.sramFault)).upd).next

theorem Canon.wTestCtl {o dev v} (h : s.Canon) : (s.wTestCtl o dev v).Canon := h.gate CanonOptFn.none (fun _ _ h1 => h1.keepReg)
theorem Canon.calFail {t} (h : s.Canon) : (s.calFail t).Canon := h.setCu.cuMode

theorem Canon.marchDead {target} (h : s.Canon) : (s.marchDead target).Canon :=
  h.raiseErr.ite (h.raiseErr.branch (·.calFail) (fun h1 => h1.upd.when (·.dieHold)))

theorem Canon.marchFault {target bank row} (h : s.Canon) : (s.marchFault target bank row).Canon :=
  h.takeFree.branch (·.useSpare) (·.marchDead)

theorem Canon.marchErr {e} (h : s.Canon) : (marchErr e s).Canon := h.setRf

theorem Canon.wMarchCtl {o dev v} (h : s.Canon) : (s.wMarchCtl o dev v).Canon :=
  h.gate (CanonOptFn.ite (CanonOptFn.ofFn (fun _ h1 => h1.marchErr)) CanonOptFn.none) (fun _ _ h1 => h1.keepReg.unless
    (fun h2 => h2.marchErr.ite h2.upd))

theorem Canon.execMarchPass {o v} (h : s.Canon) : CanonNext (execMarchPass o v s) := h.wMarchCtl.next
theorem Canon.marchWipe {target} (h : s.Canon) : (s.marchWipe target).Canon := h.setCu.cuMode.ite h.setSpan

theorem Canon.execMarchPassComplete {faults} (h : s.Canon) : CanonNext (execMarchPassComplete faults s) := by
  unfold Machine.execMarchPassComplete
  refine Canon.next ?_
  split
  · exact h
  · exact h.ite ((h.upd.setRf.when (·.marchWipe)).foldl (fun _ _ h1 => h1.marchFault))

end Sys2Proof.Machine.State
end

section
/-! PROOF. The canonical form through power-up and the start sequence (R626 to R638). -/

namespace Sys2Proof.Machine.State

set_option Elab.async false

variable {s t : State}

theorem Canon.execPwrgoodAssert {g} (h : s.Canon) : CanonNext (execPwrgoodAssert g s) := (h.ite h.upd).next
theorem Canon.blank : s.blank.Canon := Canon.same (s := State.reset) State.reset_canonical

theorem Canon.execPwrgoodLoss {g} (h : s.Canon) : CanonNext (execPwrgoodLoss g s) :=
  (h.upd.ite ((Canon.blank.upd.when (·.upd)).ite (h.upd.when (·.raiseErr)))).next

theorem Canon.scanTorn (h : s.Canon) : s.scanTorn.Canon := by
  unfold State.scanTorn
  dsimp only
  split
  · exact h.modMram.setRf.setRf
  · exact h.modMram.setRf.setRf.raiseErr

theorem Canon.scanFormat (h : s.Canon) : s.scanFormat.Canon := h.ite (h.storeReset.unless (·.setRb.setRb.raiseErr))
theorem Canon.scanLog (h : s.Canon) : s.scanLog.Canon := h.setReg.upd

theorem Canon.scanGap {first} (h : s.Canon) : (s.scanGap first).Canon := by
  unfold State.scanGap
  refine h.logPut.ite ?_
  split
  · exact h.upd.logPut.setRb.ite h.reserve
  · exact h.reserve

theorem Canon.bootCount (h : s.Canon) : s.bootCount.Canon := h.upd.branch (·.modMram) (·.storePush)

theorem Canon.applyGrant (h : s.Canon) : s.applyGrant.Canon := by
  unfold State.applyGrant
  refine h.ite ?_
  split
  · exact h.upd.setLevel.pushFloors
  · exact h.clearGrant
  · exact h

theorem Canon.tripCommit (h : s.Canon) : s.tripCommit.Canon := by
  unfold State.tripCommit
  split
  · exact h
  · exact h.upd.logEvent.upd.setFifo.upd.aer.fifoIrq.storePush.lifeAdd

theorem Canon.setDie {code st m} (h : s.Canon) : (s.setDie code st m).Canon := h.upd

theorem Canon.bootDie {m code} (h : s.Canon) : (s.bootDie m code).Canon :=
  h.setDie.ite (h.setDie.raiseErr.ite (h.setDie.extend.unless (·.upd)))

theorem Canon.classErr {m c first} (h : s.Canon) : (s.classErr m c first).Canon := h.ite h.raiseErr
theorem Canon.loadEnergy (h : s.Canon) : s.loadEnergy.Canon := h.upd
theorem Canon.commitSvn {m} (h : s.Canon) : (s.commitSvn m).Canon := h.upd.pushFloors.ite h

theorem Canon.runFirmware {m source} (h : s.Canon) : (s.runFirmware m source).Canon :=
  h.setReg.logAuto.extend.branch (·.upd) (fun h1 => ((h1.setDie.extend.upd.loadEnergy.setReady.setReady.classErr.classErr.classErr.foldl
    (fun _ _ h2 => h2.raiseErr.ite h2)).foldl (fun _ _ h2 => h2.bootDie)).upd.commitSvn.readyUpd)

theorem Canon.offer {m source} (h : s.Canon) : (s.offer m source).Canon := by
  unfold State.offer
  split
  · exact h.upd
  · exact h.runFirmware.ite h.setRf.setRb.upd

theorem Canon.romStart {count small} : (s.romStart count small).Canon :=
  ((Canon.blank.upd.setRb.extend.scanTorn.scanFormat.scanLog.when (·.bootCount)).branch (·.applyGrant)
    (·.upd)).scanGap.tripCommit.upd.setRb.extend.setReady

theorem Canon.execColdReset {manifest smallFabric badQuotes badStacks marchFaults} (h : s.Canon) : CanonNext
    (execColdReset manifest smallFabric badQuotes badStacks marchFaults s) :=
  (h.ite ((Canon.romStart.upd.foldl (fun _ _ h1 => h1.marchFault)).unless (fun h1 => h1.setRb.raiseErr.ite h1.offer))).next

theorem Canon.wFwAddr {o dev v image} (h : s.Canon) : (s.wFwAddr o dev v image).Canon :=
  h.gate CanonOptFn.none (fun _ _ h1 => h1.keepReg.when (·.offer))

theorem Canon.execFwFetch {o v image} (h : s.Canon) : CanonNext (execFwFetch o v image s) := h.wFwAddr.next

end Sys2Proof.Machine.State
end

section
/-! PROOF. The canonical form through SLACK and STILL (R504 to R508). -/

namespace Sys2Proof.Machine.State

set_option Elab.async false

variable {s t : State}

theorem Canon.slackExit (h : s.Canon) : s.slackExit.Canon := (h.setRf.upd.bedUnpark.foldl (fun _ _ h1 => h1.portWake.ite h1)).readyUpd.ite h
theorem Canon.toActive (h : s.Canon) : s.toActive.Canon := h.upd.slackExit.handoverNext.handoverNext

theorem Canon.wPstate {o dev v} (h : s.Canon) : (s.wPstate o dev v).Canon :=
  h.gate (CanonOptFn.ite (CanonOptFn.ofFn (fun _ h1 => h1.nrgErr)) CanonOptFn.none) (fun _ _ h1 => h1.setReg.branch (·.toActive)
    (fun h2 => h2.ite h2.upd))

theorem Canon.execPstateSlack {o v} (h : s.Canon) : CanonNext (execPstateSlack o v s) := h.wPstate.next
theorem Canon.execPstateStill {o v} (h : s.Canon) : CanonNext (execPstateStill o v s) := h.wPstate.next
theorem Canon.execPstateActive {o v} (h : s.Canon) : CanonNext (execPstateActive o v s) := h.wPstate.next

theorem Canon.slackEnter (h : s.Canon) : s.slackEnter.Canon := by
  unfold State.slackEnter; dsimp only; exact (h.foldl (fun _ _ h1 => h1.setPort.ite h1)).bedPark.upd.setRf

theorem Canon.stillEnter (h : s.Canon) : s.stillEnter.Canon :=
  ((h.shutdown.storeAbort.upd.resetRegs.foldl (fun _ _ h1 => h1.freeWeir)).zeroSram.upd.hqReset.dropNonce.upd.upd.upd.upd.upd.foldl
    (fun _ _ h1 => h1.dvfsReset)).setReg.setRf.upd

theorem Canon.execSlackDrainDone (h : s.Canon) : CanonNext (execSlackDrainDone s) := by
  unfold Machine.execSlackDrainDone
  refine Canon.next ?_
  split
  · exact h
  · exact h.ite ((h.upd.when (·.slackEnter)).branch (·.stillEnter) (·.readyUpd))

theorem Canon.execSlackEntryTimeout (h : s.Canon) : CanonNext (execSlackEntryTimeout s) := (h.toActive.nrgErr.ite h).next

theorem Canon.execStillWake {_i3c} (h : s.Canon) : CanonNext (execStillWake _i3c s) :=
  (h.ite (h.setRf.setRf.setRb.upd.setReady.setReady.setReady.foldl (fun _ _ h1 => h1.dvfsStart)).readyUpd).next

end Sys2Proof.Machine.State
end

section
/-! PROOF. The canonical form through the host interface (R462 to R498). -/

namespace Sys2Proof.Machine.State

set_option Elab.async false

variable {s t : State}

theorem Canon.sqErr {q code} (h : s.Canon) : (s.sqErr q code).Canon := h.setSq.raiseErr
theorem Canon.doorbellMiss {base off width} (h : s.Canon) : (s.doorbellMiss base off width).Canon := h.ite h.bump
theorem Canon.doorbellRsvd {v} (h : s.Canon) : (s.doorbellRsvd v).Canon := h.ite h.bump
theorem Canon.sqTail {q tail} (h : s.Canon) : (s.sqTail q tail).Canon := (h.setRf.toActive.ite h).unless (fun h1 => h1.sqErr.ite h1.setSq)

theorem Canon.cqHead {q head} (h : s.Canon) : (s.cqHead q head).Canon :=
  h.ite ((h.setCq.raiseErr.foldl (fun _ _ h1 => h1.setSq)).ite h.setCq)

theorem Canon.execSqDoorbell {off width v} (h : s.Canon) : CanonNext (execSqDoorbell off width v s) := by
  unfold Machine.execSqDoorbell
  refine (h.ite ?_).next
  split
  · exact h.doorbellMiss
  · exact h.doorbellRsvd.sqTail

theorem Canon.execCqHeadDoorbell {off width v} (h : s.Canon) : CanonNext (execCqHeadDoorbell off width v s) := by
  unfold Machine.execCqHeadDoorbell
  refine (h.ite ?_).next
  split
  · exact h.doorbellMiss
  · exact h.doorbellRsvd.cqHead

theorem Canon.sqEnd {q idx status result aux} (h : s.Canon) : CanonOpt (s.sqEnd q idx status result aux) := h.raiseStatus.sqDone

theorem Canon.sqAccept {q idx b} (h : s.Canon) : CanonOpt (s.sqAccept q idx b) :=
  CanonOpt.ite h.opt (CanonOpt.ite h.sqEnd (CanonOpt.ite h.sqEnd (CanonOpt.ite (h.mboxWrite.upd.ite h).sqEnd (CanonOpt.ite
    (h.mboxWrite.upd.ite h).sqEnd (h.mboxWrite.upd.ite h).opt))))

theorem Canon.execSqFetch {q entry} (h : s.Canon) : CanonNext (execSqFetch q entry s) := by
  unfold Machine.execSqFetch
  refine (h.ite ?_).next
  split
  · exact h.sqErr
  · exact h.sqErr.ite (h.setSq.sqAccept.getD h)

theorem Canon.entryRun {q idx ty f} (h : s.Canon) (hf : ∀ a u, u.Canon → CanonOpt (f a u)) : (s.entryRun q idx ty f).Canon := by
  unfold State.entryRun
  dsimp only
  split
  · exact h
  · exact h.ite ((hf _ _ h.sqDispatch).getD h)

theorem Canon.execNopEntry {q idx} (h : s.Canon) : CanonNext (execNopEntry q idx s) := (h.entryRun (fun _ _ h1 => h1.sqEnd)).next

theorem Canon.sealHost {v r dst data bad n off st} (h : s.Canon) : CanonFst (s.sealHost v r dst data bad n off st) := by
  induction n generalizing s off st with
  | zero => exact h.pair
  | succ n ih => exact ih h.sealSlot

theorem Canon.dmaPut {pe da data bad} (h : s.Canon) : CanonFst (s.dmaPut pe da data bad) := by
  unfold State.dmaPut
  split
  · exact h.sealHost.fst.met.pair
  · exact (h.foldl (fun _ _ h1 => h1.writePE)).met.pair

theorem Canon.execDmaIn {q idx data poisonedTlps hostOk pe} (h : s.Canon) : CanonNext (execDmaIn q idx data poisonedTlps hostOk pe s) := by
  unfold Machine.execDmaIn
  dsimp only
  refine (h.entryRun (fun _ _ h1 => ?_)).next
  split
  · exact CanonOpt.ite h1.sqEnd h1.dmaPut.fst.sqEnd
  · exact h1.sqEnd

theorem Canon.dmaTiles {v r host da die n st} (h : s.Canon) : CanonFst (s.dmaTiles v r host da die n st) := by
  induction n generalizing s host da st with
  | zero => exact h.pair
  | succ n ih => exact ih (h.emit.ite h.countCheck)

theorem Canon.execDmaOut {q idx pe} (h : s.Canon) : CanonNext (execDmaOut q idx pe s) := by
  unfold Machine.execDmaOut
  dsimp only
  refine (h.entryRun (fun _ _ h1 => ?_)).next
  split
  · split
    · exact h1.meet.dmaTiles.fst.eccRead.met.sqEnd
    · exact (h1.meet.foldl (fun _ _ h2 => h2.emit)).met.eccRead.sqEnd
  · exact h1.sqEnd

theorem Canon.execWeirEntry {q idx block} (h : s.Canon) : CanonNext (execWeirEntry q idx block s) := by
  unfold Machine.execWeirEntry
  refine (h.entryRun (fun _ _ h1 => CanonOpt.ite CanonOpt.none (CanonOpt.ite h1.sqEnd ?_))).next
  split
  · exact h1.sqEnd
  · refine Canon.weirDeliver (.freshId ?_)
    split
    · exact h1.setSq
    · exact h1

theorem Canon.cqMsg {c} (h : s.Canon) : (s.cqMsg c).Canon := h.setCq.emit

theorem Canon.execCqCompletionWrite {cq} (h : s.Canon) : CanonNext (execCqCompletionWrite cq s) := by
  unfold Machine.execCqCompletionWrite
  refine Canon.next ?_
  split
  · exact h
  · exact h.ite (h.emit.emit.setCq.when (·.cqMsg))

theorem Canon.execCqCoalTimeout {cq} (h : s.Canon) : CanonNext (execCqCoalTimeout cq s) := (h.cqMsg.ite h).next

theorem Canon.wQBase {o dev off v} (h : s.Canon) : (s.wQBase o dev off v).Canon :=
  (h.gate Canon.ignoreIf (fun _ _ h1 => h1.setSq)).ite ((h.gate Canon.ignoreIf (fun _ _ h1 => h1.setSq)).ite ((h.gate Canon.ignoreIf
    (fun _ _ h1 => h1.setCq)).ite (h.gate Canon.ignoreIf (fun _ _ h1 => h1.setCq))))

theorem Canon.wSqCfg {o dev v} (h : s.Canon) : (s.wSqCfg o dev v).Canon :=
  h.gate CanonOptFn.none (fun _ _ h1 => (h1.bump.ite h1).branch (·.setSq) (fun h2 => h2.setSq.ite (h2.setSq.upd.ite h2.setSq)))

theorem Canon.wCqCfg {o dev v} (h : s.Canon) : (s.wCqCfg o dev v).Canon :=
  h.gate (CanonOptFn.ite (CanonOptFn.ofFn (fun _ h1 => h1.setCq)) CanonOptFn.none) (fun _ _ h1 => (h1.bump.ite h1).branch (·.setCq)
    (·.setCq))

theorem Canon.execSqEnable {o v} (h : s.Canon) : CanonNext (execSqEnable o v s) := h.wSqCfg.next
theorem Canon.execSqDisable {o v} (h : s.Canon) : CanonNext (execSqDisable o v s) := h.wSqCfg.next
theorem Canon.execCqEnable {o v} (h : s.Canon) : CanonNext (execCqEnable o v s) := h.wCqCfg.next
theorem Canon.execCqDisable {o v} (h : s.Canon) : CanonNext (execCqDisable o v s) := h.wCqCfg.next
theorem Canon.wBar4Win {o dev v} (h : s.Canon) : (s.wBar4Win o dev v).Canon := h.gate CanonOptFn.none (fun _ _ h1 => h1.setReg)
theorem Canon.execResizableBarSizeWrite {z} (h : s.Canon) : CanonNext (execResizableBarSizeWrite z s) := (h.setRf.ite h).next

theorem Canon.flrKeep (h : s.Canon) : s.flrKeep.Canon :=
  (h.freshId.upd.hqReset.foldl (fun _ _ h1 => h1.setSq)).foldl (fun _ _ h1 => h1.setSq)

theorem Canon.flrOrphan (h : s.Canon) : s.flrOrphan.Canon := h.upd
theorem Canon.execFlr (h : s.Canon) : CanonNext (execFlr s) := (h.ite h.flrOrphan.flrKeep.resetRegs.setRf.setRf).next
theorem Canon.execIdeKm {stream key} (h : s.Canon) : CanonNext (execIdeKm stream key s) := (h.upd.ite h).next
theorem Canon.execIdeIntegrityFailure {stream} (h : s.Canon) : CanonNext (execIdeIntegrityFailure stream s) := (h.upd.raiseErr.ite h).next

end Sys2Proof.Machine.State
end

section
/-! PROOF. The canonical form through register reads. -/

namespace Sys2Proof.Machine.State

set_option Elab.async false

variable {s t : State}

theorem Canon.readReg {off width} (h : s.Canon) : CanonFst (s.readReg off width) := by
  unfold State.readReg
  refine CanonFst.ite h.pair (CanonFst.ite h.bump.pair (CanonFst.ite h.bump.pair ?_))
  split
  · exact h.pair
  · exact (h.takeFree.ite h).pair

end Sys2Proof.Machine.State
end

section
/-! PROOF. The canonical form through register writes by their offsets. -/

namespace Sys2Proof.Machine.State

set_option Elab.async false

variable {s t : State}

theorem Canon.wNote {o dev v} (h : s.Canon) : (s.wNote o dev v).Canon :=
  h.gate (CanonOptFn.ofFn (fun _ h1 => h1.ite (h1.refuseLog.ite (h1.upd.ite h1.tally.logPut)))) (fun _ _ h1 => h1)

theorem Canon.wLogRd {o dev v} (h : s.Canon) : (s.wLogRd o dev v).Canon :=
  h.gate CanonOptFn.none (fun _ _ h1 => h1.keepReg.foldl (fun _ _ h2 => h2.setReg))

theorem Canon.wLogAck {o dev v} (h : s.Canon) : (s.wLogAck o dev v).Canon := h.gate Canon.ignoreIf (fun _ _ h1 => h1.upd.storePush)

theorem Canon.writeKey {o dev off v} (h : s.Canon) : (s.writeKey o dev off v).Canon :=
  h.wRchData.ite (h.wTrgSel.ite (h.wTrgStaged.ite (h.wTrgCfg.ite (h.wKvPart.ite (h.wSlotSel.ite (h.wSlotCfg.ite (h.wDevId.ite
    (h.wRtSel.ite (h.wRtMode.ite (h.wFabCtl.ite (h.wPstCtl.ite (h.wHsCtl.ite (h.wResetCtl.takeFree.ite (h.wErrCfg.ite (h.wErrPop.ite
    (h.wTestCtl.ite (h.wMarchCtl.ite h.plainWrite)))))))))))))))))

theorem Canon.writeHq {o dev off v} (h : s.Canon) : (s.writeHq o dev off v).Canon :=
  h.wSqCfg.ite (h.wCqCfg.ite (h.wQBase.ite (h.wBar4Win.ite h.plainWrite)))

theorem Canon.writeNrg {o dev off v} (h : s.Canon) : (s.writeNrg o dev off v).Canon :=
  h.wPowerCap.ite (h.wBurst.ite (h.wRamp.ite (h.wCorrData.ite (h.wPstate.ite (h.wDvfs.ite (h.wThermCfg.ite h.plainWrite))))))

theorem Canon.writeSec {o dev off v} (h : s.Canon) : (s.writeSec o dev off v).Canon :=
  h.wAuthCtl.ite (h.wFwAddr.ite (h.wSvn.ite (h.wAttestCtl.ite (h.wExtendCtl.ite h.plainWrite))))

theorem Canon.writeLog {o dev off v} (h : s.Canon) : (s.writeLog o dev off v).Canon :=
  h.wLogAck.ite (h.wLogRd.ite (h.wNote.ite h.plainWrite))

theorem Canon.writeT {o dev t off v} (h : s.Canon) : (s.writeT o dev t off v).Canon :=
  h.wRchData.ite (h.wCuCtrl.ite (h.wWload.ite h.plainWrite))

theorem Canon.writeW {o dev n off v} (h : s.Canon) : (s.writeW o dev n off v).Canon := h.wRchData.ite h.plainWrite

theorem Canon.writeBed {o dev off v} (h : s.Canon) : (s.writeBed o dev off v).Canon :=
  h.wLaserCtl.ite (h.wCalCtl.ite (h.wBedLinkCtl.ite (h.wBedLaneCtl.ite h.plainWrite)))

theorem Canon.writePort {o dev p off v} (h : s.Canon) : (s.writePort o dev p off v).Canon :=
  h.wPortCtl.ite (h.wPortTimers.ite (h.wPortBw.ite (h.wPortLaneCtl.ite h.plainWrite)))

theorem Canon.writeS {o dev d off v} (h : s.Canon) : (s.writeS o dev d off v).Canon :=
  h.writePort.ite (h.wSvcCtl.ite (h.wTrkCtl.ite h.plainWrite))

theorem Canon.writeAt {o dev off v} (h : s.Canon) : (s.writeAt o dev off v).Canon :=
  h.writeKey.ite (h.writeHq.ite (h.writeNrg.ite (h.writeSec.ite (h.writeLog.ite (h.writeT.ite (h.writeW.ite (h.writeBed.ite h.writeS)))))))

theorem Canon.releaseHeld? {l} (h : s.Canon) : (s.releaseHeld? l).Canon := by
  induction l generalizing s with
  | nil => exact h
  | cons w l ih => exact h.upd.ite (ih h.writeAt)

theorem Canon.logFreed (h : s.Canon) : s.logFreed.Canon := h.tally.upd.releaseHeld?
theorem Canon.writeReg {o dev off width v} (h : s.Canon) : (s.writeReg o dev off width v).Canon := h.ite (h.bump.ite h.writeAt.logFreed)
theorem Canon.execRegisterWrite {o off width v x4} (h : s.Canon) : CanonNext (execRegisterWrite o off width v x4 s) := h.writeReg.next
theorem Canon.execLockBlock {o v} (h : s.Canon) : CanonNext (execLockBlock o v s) := h.plainWrite.next
theorem Canon.execLogAck {o v} (h : s.Canon) : CanonNext (execLogAck o v s) := h.wLogAck.logFreed.next
theorem Canon.execLogNoteCommit {o v} (h : s.Canon) : CanonNext (execLogNoteCommit o v s) := h.wNote.next
theorem Canon.execLogRead {o v} (h : s.Canon) : CanonNext (execLogRead o v s) := h.wLogRd.next
theorem Canon.execStoreWrite (h : s.Canon) : CanonNext (execStoreWrite s) := h.storeWriteStep.logFreed.next
theorem Canon.mgmtRead {b} (h : s.Canon) : CanonFst (s.mgmtRead b) := CanonFst.ite h.pair h.readReg.fst.pair

theorem Canon.mgmtWrite {o dev accept b} (h : s.Canon) : CanonFst (s.mgmtWrite o dev accept b) :=
  CanonFst.ite h.pair (CanonFst.ite h.writeReg.takeFree.pair h.writeReg.pair)

theorem Canon.execRegRead {port p} (h : s.Canon) : CanonNext (execRegRead port p s) :=
  (h.mgmtIn (fun _ h1 => h1.mgmtRead.fst.mgmtAnswer)).next

theorem Canon.execRegWrite {port p} (h : s.Canon) : CanonNext (execRegWrite port p s) :=
  (h.mgmtIn (fun _ h1 => h1.mgmtWrite.fst.mgmtAnswer)).next

theorem Canon.execJtagAccess {wr space addr v} (h : s.Canon) : CanonNext (execJtagAccess wr space addr v s) :=
  ((h.emit.ite h.emit).ite (h.emit.ite ((h.emit.ite (h.writeReg.emit.ite h.readReg.fst.emit)).ite ((h.emit.ite (h.emit.ite ((h.emit.ite
    h.writeMem.emit).ite (h.eccRead.takeFree.emit.ite h.emit)))).ite (h.emit.ite h.takeFree.emit))))).next

theorem Canon.execExtest (h : s.Canon) : CanonNext (execExtest s) := (h.ite h.emit).next

end Sys2Proof.Machine.State
end

section
/-! PROOF. The canonical form through management entries (R477). -/

namespace Sys2Proof.Machine.State

set_option Elab.async false

variable {s t : State}

theorem Canon.mgmtLocal {sub b} (h : s.Canon) : CanonOptFst (s.mgmtLocal sub b) :=
  CanonOptFst.ite h.mgmtRead.fst.pair.opt (CanonOptFst.ite h.mgmtWrite.fst.pair.opt (CanonOptFst.ite (h.arrive.mapFst
    (fun _ h1 => h1.pair)) (CanonOptFst.ite h.pair.opt (CanonOptFst.ite h.assign.fst.pair.opt h.pair.opt))))

theorem Canon.sendPath {q idx p} (h : s.Canon) : (s.sendPath q idx p).Canon :=
  Inj.Canon.ite Inj.Canon.lost (Inj.Canon.ite Inj.Canon.stalled h.setSpan.txWait.sent)

theorem Canon.execMgmtEntry {q idx payload} (h : s.Canon) : CanonNext (execMgmtEntry q idx payload s) := by
  unfold Machine.execMgmtEntry
  refine (h.entryRun (fun _ _ h1 => CanonOpt.ite h1.sqEnd ?_)).next
  split
  · exact h1.sqEnd
  · refine CanonOpt.ite (CanonOpt.ite h1.sqEnd (CanonOpt.ite h1.sqEnd (CanonOpt.ite h1.sqEnd ?_))) (CanonOpt.ite ?_ ?_)
    · split
      · exact CanonOpt.none
      · exact h1.sqEnd
      next e2 => exact (h1.sendPath.get e2).opt
    · split
      · exact CanonOpt.none
      next e2 => exact (h1.mgmtLocal.get e2).fst.mgmtDone
    · split
      · exact CanonOpt.none
      · exact h1.sqEnd
      next e2 => exact (h1.inject.get e2).opt

end Sys2Proof.Machine.State
end

section
/-! PROOF. The canonical form through the vector instructions (R110 to R113). -/

namespace Sys2Proof.Machine.State

set_option Elab.async false

variable {s t : State}

theorem Canon.vissue {c opcode mods fieldsOk fpOnly k} (h : s.Canon) (hk : ∀ x y,
    (k x y).Canon) : (s.vissue c opcode mods fieldsOk fpOnly k).Canon := by
  unfold State.vissue
  refine h.exec1 (fun _ => ?_)
  split
  · exact h.illegal
  · exact h.enc (hk _ _)

theorem Canon.vun {c f opcode fpOnly g} (h : s.Canon) : (s.vun c f opcode fpOnly g).Canon := h.vissue (fun _ _ => h.setCell.ok)
theorem Canon.vbin {c f opcode g} (h : s.Canon) : (s.vbin c f opcode g).Canon := h.vissue (fun _ _ => h.setCell.ok)
theorem Canon.execVadd {c f} (h : s.Canon) : CanonNext (execVadd c f s) := h.vbin.next
theorem Canon.execVsub {c f} (h : s.Canon) : CanonNext (execVsub c f s) := h.vbin.next
theorem Canon.execVmul {c f} (h : s.Canon) : CanonNext (execVmul c f s) := h.vbin.next
theorem Canon.execVfma {c f} (h : s.Canon) : CanonNext (execVfma c f s) := (h.vissue (fun _ _ => h.setCell.ok)).next
theorem Canon.execVmax {c f} (h : s.Canon) : CanonNext (execVmax c f s) := h.vbin.next
theorem Canon.execVmin {c f} (h : s.Canon) : CanonNext (execVmin c f s) := h.vbin.next
theorem Canon.execVabs {c f} (h : s.Canon) : CanonNext (execVabs c f s) := h.vun.next
theorem Canon.execVneg {c f} (h : s.Canon) : CanonNext (execVneg c f s) := h.vun.next
theorem Canon.execVexp2 {c f} (h : s.Canon) : CanonNext (execVexp2 c f s) := h.vun.next
theorem Canon.execVlog2 {c f} (h : s.Canon) : CanonNext (execVlog2 c f s) := h.vun.next
theorem Canon.execVrcp {c f} (h : s.Canon) : CanonNext (execVrcp c f s) := h.vun.next
theorem Canon.execVrsqrt {c f} (h : s.Canon) : CanonNext (execVrsqrt c f s) := h.vun.next
theorem Canon.vred {c f opcode max g} (h : s.Canon) : (s.vred c f opcode max g).Canon := h.vissue (fun _ _ => h.setCell.ok)
theorem Canon.execVredsum {c f} (h : s.Canon) : CanonNext (execVredsum c f s) := h.vred.next
theorem Canon.execVredmax {c f} (h : s.Canon) : CanonNext (execVredmax c f s) := h.vred.next
theorem Canon.poisonTrap {opcode da} (h : s.Canon) : (poisonTrap s opcode da).Canon := h.ex h

theorem Canon.execVcmp {c f} (h : s.Canon) : CanonNext (execVcmp c f s) :=
  (h.vissue (fun _ _ => Issue.Canon.ite h.poisonTrap h.setCell.ok)).next

theorem Canon.execVsel {c f} (h : s.Canon) : CanonNext (execVsel c f s) := (h.vissue (fun _ _ => h.setCell.ok)).next
theorem Canon.execVbcast {c f} (h : s.Canon) : CanonNext (execVbcast c f s) := (h.vissue (fun _ _ => h.setCell.ok)).next

theorem Canon.execVextr {c f} (h : s.Canon) : CanonNext (execVextr c f s) :=
  (h.vissue (fun _ _ => Issue.Canon.ite h.poisonTrap h.setCell.ok)).next

theorem Canon.execVld {c f pe} (h : s.Canon) : CanonNext (execVld c f pe s) :=
  (h.vissue (fun _ _ => Issue.Canon.ite h.addrFault h.meet.eccRead.setCell.portIssue)).next

theorem Canon.storeLanes {x g v da xs} (h : s.Canon) : (s.storeLanes x g v da xs).Canon := h.foldl (fun _ _ h1 => h1.writePE.ite h1)

theorem Canon.execVst {c f pe} (h : s.Canon) : CanonNext (execVst c f pe s) := by
  unfold Machine.execVst
  refine (h.vissue (fun _ _ => Issue.Canon.ite h.addrFault (Issue.Canon.ite h.poisonTrap ?_))).next
  split
  · exact h.storeIssue
  · exact Issue.Canon.ite (h.discard.ex h.discard) h.storeLanes.portIssue

theorem Canon.execVrowr {c f} (h : s.Canon) : CanonNext (execVrowr c f s) :=
  (h.vissue (fun _ _ => Issue.Canon.ite Issue.Canon.stall h.setCell.ok)).next

theorem Canon.execVroww {c f} (h : s.Canon) : CanonNext (execVroww c f s) :=
  (h.vissue (fun _ _ => Issue.Canon.ite Issue.Canon.stall h.setCell.ok)).next

theorem Canon.execVresc {c f} (h : s.Canon) : CanonNext (execVresc c f s) :=
  (h.vissue (fun _ _ => Issue.Canon.ite Issue.Canon.stall h.setCell.ok)).next

theorem Canon.execVsmax {c f} (h : s.Canon) : CanonNext (execVsmax c f s) := (h.vissue (fun _ _ => h.setCell.ok)).next

theorem Canon.execVpack {c f} (h : s.Canon) : CanonNext (execVpack c f s) := by
  unfold Machine.execVpack
  refine (h.vissue (fun _ _ => ?_)).next
  split
  · exact h.illegal
  · exact h.setCell.ok

theorem Canon.execVunpk {c f} (h : s.Canon) : CanonNext (execVunpk c f s) := by
  unfold Machine.execVunpk
  refine (h.vissue (fun _ _ => ?_)).next
  split
  · exact h.illegal
  · exact h.setCell.ok

theorem Canon.execPset {c f} (h : s.Canon) : CanonNext (execPset c f s) := (h.vissue (fun _ _ => h.setCell.ok)).next
theorem Canon.execPget {c f} (h : s.Canon) : CanonNext (execPget c f s) := (h.vissue (fun _ _ => h.setCell.ok)).next

end Sys2Proof.Machine.State
end

section
/-! PROOF. The canonical form through the idle device (R97, R334, R358). -/

namespace Sys2Proof.Machine.State

set_option Elab.async false

variable {s t : State}

theorem Canon.idleStep (h : s.Canon) : s.idleStep.Canon := by
  unfold State.idleStep
  split
  · exact h.exec1 (fun _ => h.illegal)
  · split
    · exact h.sendPeriod
    · split
      · exact h.sendFrame
      · exact h

end Sys2Proof.Machine.State
end

section
/-! PROOF. Every row, and every step, keeps the canonical form. -/

namespace Sys2Proof.Machine.State

set_option Elab.async false

variable {s t : State}

theorem Canon.exec {i : Instr} (h : s.Canon) : CanonNext (Machine.exec i s) := by
  cases i with
  | registerWrite => exact h.execRegisterWrite
  | lockBlock => exact h.execLockBlock
  | commandEnqueue => exact h.execCommandEnqueue
  | commandStart => exact h.execCommandStart
  | commandComplete => exact h.execCommandComplete
  | run => exact h.execRun
  | split => exact h.execSplit
  | moveReachCommand => exact h.execMoveReachCommand
  | signalReachCommand => exact h.execSignalReachCommand
  | waitReachCommand => exact h.execWaitReachCommand
  | giveReachCommand => exact h.execGiveReachCommand
  | place => exact h.execPlace
  | placeRelease => exact h.execPlaceRelease
  | placementCopyAck => exact h.execPlacementCopyAck
  | migrateDrain => exact h.execMigrateDrain
  | migrateFence => exact h.execMigrateFence
  | drainedToken => exact h.execDrainedToken
  | fenceUnitResolved => exact h.execFenceUnitResolved
  | poolCapacityWrite => exact h.execPoolCapacityWrite
  | nop => exact h.execNop
  | halt => exact h.execHalt
  | trap => exact h.execTrap
  | fence => exact h.execFence
  | sread => exact h.execSread
  | swrite => exact h.execSwrite
  | add => exact h.execAdd
  | sub => exact h.execSub
  | mul => exact h.execMul
  | mulhu => exact h.execMulhu
  | and => exact h.execAnd
  | or => exact h.execOr
  | xor => exact h.execXor
  | shl => exact h.execShl
  | shr => exact h.execShr
  | sra => exact h.execSra
  | min => exact h.execMin
  | max => exact h.execMax
  | slt => exact h.execSlt
  | sltu => exact h.execSltu
  | sel => exact h.execSel
  | li => exact h.execLi
  | addi => exact h.execAddi
  | ld => exact h.execLd
  | st => exact h.execSt
  | aadd => exact h.execAadd
  | acas => exact h.execAcas
  | br => exact h.execBr
  | jmp => exact h.execJmp
  | jal => exact h.execJal
  | jr => exact h.execJr
  | bp => exact h.execBp
  | mma => exact h.execMma
  | accz => exact h.execAccz
  | accld => exact h.execAccld
  | accst => exact h.execAccst
  | dld => exact h.execDld
  | dst => exact h.execDst
  | dadd => exact h.execDadd
  | vadd => exact h.execVadd
  | vsub => exact h.execVsub
  | vmul => exact h.execVmul
  | vfma => exact h.execVfma
  | vmax => exact h.execVmax
  | vmin => exact h.execVmin
  | vabs => exact h.execVabs
  | vneg => exact h.execVneg
  | vexp2 => exact h.execVexp2
  | vlog2 => exact h.execVlog2
  | vrcp => exact h.execVrcp
  | vrsqrt => exact h.execVrsqrt
  | vredsum => exact h.execVredsum
  | vredmax => exact h.execVredmax
  | vcmp => exact h.execVcmp
  | vsel => exact h.execVsel
  | vbcast => exact h.execVbcast
  | vextr => exact h.execVextr
  | vld => exact h.execVld
  | vst => exact h.execVst
  | vrowr => exact h.execVrowr
  | vroww => exact h.execVroww
  | vresc => exact h.execVresc
  | vsmax => exact h.execVsmax
  | vpack => exact h.execVpack
  | vunpk => exact h.execVunpk
  | pset => exact h.execPset
  | pget => exact h.execPget
  | move => exact h.execMove
  | signal => exact h.execSignal
  | wait => exact h.execWait
  | waitTimeout => exact h.execWaitTimeout
  | take => exact h.execTake
  | give => exact h.execGive
  | tread => exact h.execTread
  | oproj => exact h.execOproj
  | wq => exact h.execWq
  | est => exact h.execEst
  | bound => exact h.execBound
  | cellWake => exact h.execCellWake
  | tensorEntryComplete => exact h.execTensorEntryComplete
  | asyncCompletion => exact h.execAsyncCompletion
  | runComplete => exact h.execRunComplete
  | trgSelect => exact h.execTrgSelect
  | trgCommit => exact h.execTrgCommit
  | trgInvalidate => exact h.execTrgInvalidate
  | trgCommitDone => exact h.execTrgCommitDone
  | moveComplete => exact h.execMoveComplete
  | bar4Read => exact h.execBar4Read
  | bar4Write => exact h.execBar4Write
  | weirCommandStart => exact h.execWeirCommandStart
  | weirCommandComplete => exact h.execWeirCommandComplete
  | append => exact h.execAppend
  | attend => exact h.execAttend
  | foldCommand => exact h.execFoldCommand
  | gather => exact h.execGather
  | requant => exact h.execRequant
  | evictTruncate => exact h.execEvictTruncate
  | evictDrop => exact h.execEvictDrop
  | evictUndrop => exact h.execEvictUndrop
  | evictRelease => exact h.execEvictRelease
  | resummarizeRecompute => exact h.execResummarizeRecompute
  | resummarizeInstall => exact h.execResummarizeInstall
  | tileFold => exact h.execTileFold
  | kvPartWrite => exact h.execKvPartWrite
  | slotSelect => exact h.execSlotSelect
  | slotCreate => exact h.execSlotCreate
  | slotUpdatePolicy => exact h.execSlotUpdatePolicy
  | slotRelease => exact h.execSlotRelease
  | slotActionDone => exact h.execSlotActionDone
  | cuJobStart => exact h.execCuJobStart
  | cuJobComplete => exact h.execCuJobComplete
  | weightLoad => exact h.execWeightLoad
  | weightLoadDone => exact h.execWeightLoadDone
  | weightCommit => exact h.execWeightCommit
  | commitSettleEnd => exact h.execCommitSettleEnd
  | takenBoundary => exact h.execTakenBoundary
  | forcedBoundary => exact h.execForcedBoundary
  | rowCalibrationEnd => exact h.execRowCalibrationEnd
  | bankUnlock => exact h.execBankUnlock
  | bankRelock => exact h.execBankRelock
  | forceFallback => exact h.execForceFallback
  | rotationEnable => exact h.execRotationEnable
  | recalRequest => exact h.execRecalRequest
  | characterisationDone => exact h.execCharacterisationDone
  | fadeEvaluation => exact h.execFadeEvaluation
  | laserLowOutput => exact h.execLaserLowOutput
  | sparePrewarmLocked => exact h.execSparePrewarmLocked
  | handoverSchedule => exact h.execHandoverSchedule
  | handoverSwap => exact h.execHandoverSwap
  | spareLock => exact h.execSpareLock
  | spareLockTimeout => exact h.execSpareLockTimeout
  | handoverComplete => exact h.execHandoverComplete
  | handoverAbandon => exact h.execHandoverAbandon
  | handoverRequest => exact h.execHandoverRequest
  | referenceLoss => exact h.execReferenceLoss
  | referenceReturn => exact h.execReferenceReturn
  | laserLockUpdate => exact h.execLaserLockUpdate
  | ringLoopUpdate => exact h.execRingLoopUpdate
  | calDump => exact h.execCalDump
  | calLoad => exact h.execCalLoad
  | calDone => exact h.execCalDone
  | opticsBringup => exact h.execOpticsBringup
  | flitSend => exact h.execFlitSend
  | flitReceive => exact h.execFlitReceive
  | bedAlign => exact h.execBedAlign
  | bedTs1 => exact h.execBedTs1
  | bedTs2 => exact h.execBedTs2
  | bedRetire => exact h.execBedRetire
  | bedAdmit => exact h.execBedAdmit
  | bedReqRetire => exact h.execBedReqRetire
  | bedBoundary => exact h.execBedBoundary
  | bedCreditTimeout => exact h.execBedCreditTimeout
  | bedLaneErrorLimit => exact h.execBedLaneErrorLimit
  | bedReqRetireTimeout => exact h.execBedReqRetireTimeout
  | bedTrainingStart => exact h.execBedTrainingStart
  | bedTrainingDone => exact h.execBedTrainingDone
  | bedQuickTrainingDone => exact h.execBedQuickTrainingDone
  | laneRetrainWaitEnd => exact h.execLaneRetrainWaitEnd
  | bedDownRetry => exact h.execBedDownRetry
  | bedLinkRetrain => exact h.execBedLinkRetrain
  | bedLaneRetire => exact h.execBedLaneRetire
  | bedLaneReadmit => exact h.execBedLaneReadmit
  | packetSend => exact h.execPacketSend
  | packetReceive => exact h.execPacketReceive
  | status => exact h.execStatus
  | portTs1 => exact h.execPortTs1
  | portTs2 => exact h.execPortTs2
  | portRetire => exact h.execPortRetire
  | portAdmit => exact h.execPortAdmit
  | portReqRetire => exact h.execPortReqRetire
  | portBoundary => exact h.execPortBoundary
  | ackTimeout => exact h.execAckTimeout
  | portCreditTimeout => exact h.execPortCreditTimeout
  | statusMissing => exact h.execStatusMissing
  | portReqRetireTimeout => exact h.execPortReqRetireTimeout
  | portLockLoss => exact h.execPortLockLoss
  | lockTimeout => exact h.execLockTimeout
  | portLaneErrorLimit => exact h.execPortLaneErrorLimit
  | portLaneTrainingDone => exact h.execPortLaneTrainingDone
  | lightSettled => exact h.execLightSettled
  | portTrainingStart => exact h.execPortTrainingStart
  | portTrainingDone => exact h.execPortTrainingDone
  | portTrainingRetry => exact h.execPortTrainingRetry
  | portRetrainRequest => exact h.execPortRetrainRequest
  | standbyIdleExpiry => exact h.execStandbyIdleExpiry
  | standbyExit => exact h.execStandbyExit
  | portDeepEntry => exact h.execPortDeepEntry
  | portDeepExit => exact h.execPortDeepExit
  | deepWakeTimeout => exact h.execDeepWakeTimeout
  | graceExpiry => exact h.execGraceExpiry
  | receiveDark => exact h.execReceiveDark
  | lightPresent => exact h.execLightPresent
  | portEnable => exact h.execPortEnable
  | portDisable => exact h.execPortDisable
  | enableLightTimeout => exact h.execEnableLightTimeout
  | probeCycle => exact h.execProbeCycle
  | probeWindowEnd => exact h.execProbeWindowEnd
  | serviceButtonPress => exact h.execServiceButtonPress
  | svcQuiesce => exact h.execSvcQuiesce
  | svcCancel => exact h.execSvcCancel
  | longPress => exact h.execLongPress
  | quiesceDrainEnd => exact h.execQuiesceDrainEnd
  | quiesceLimit => exact h.execQuiesceLimit
  | cancelBlinkEnd => exact h.execCancelBlinkEnd
  | portLaneRetire => exact h.execPortLaneRetire
  | portLaneReadmit => exact h.execPortLaneReadmit
  | read => exact h.execRead
  | write => exact h.execWrite
  | atomic => exact h.execAtomic
  | foldPacket => exact h.execFoldPacket
  | tokenSignal => exact h.execTokenSignal
  | readData => exact h.execReadData
  | writeAck => exact h.execWriteAck
  | atomicData => exact h.execAtomicData
  | regRead => exact h.execRegRead
  | regWrite => exact h.execRegWrite
  | reachCmd => exact h.execReachCmd
  | query => exact h.execQuery
  | assign => exact h.execAssign
  | mgmtResponse => exact h.execMgmtResponse
  | mgmtForward => exact h.execMgmtForward
  | packetForward => exact h.execPacketForward
  | hello => exact h.execHello
  | helloSend => exact h.execHelloSend
  | managerTimeout => exact h.execManagerTimeout
  | trackerTimeout => exact h.execTrackerTimeout
  | quarantineExpiry => exact h.execQuarantineExpiry
  | flowExpiry => exact h.execFlowExpiry
  | heartbeat d pier role mask changes => exact h.execHeartbeat (_mask := mask) (_changes := changes)
  | heartbeatSend => exact h.execHeartbeatSend
  | pierSilent => exact h.execPierSilent
  | kSidebandSilent => exact h.execKSidebandSilent
  | takeoverReport => exact h.execTakeoverReport
  | forceStandby => exact h.execForceStandby
  | forceStandbyRepeat => exact h.execForceStandbyRepeat
  | yieldComplete => exact h.execYieldComplete
  | resyncRearm => exact h.execResyncRearm
  | routeSelect => exact h.execRouteSelect
  | routeCommit => exact h.execRouteCommit
  | switchback => exact h.execSwitchback
  | switchbackAll => exact h.execSwitchbackAll
  | rearm => exact h.execRearm
  | rearmAll => exact h.execRearmAll
  | deviceIdWrite => exact h.execDeviceIdWrite
  | sqDoorbell => exact h.execSqDoorbell
  | cqHeadDoorbell => exact h.execCqHeadDoorbell
  | sqFetch => exact h.execSqFetch
  | nopEntry => exact h.execNopEntry
  | dmaIn => exact h.execDmaIn
  | dmaOut => exact h.execDmaOut
  | weirEntry => exact h.execWeirEntry
  | mgmtEntry => exact h.execMgmtEntry
  | cqCompletionWrite => exact h.execCqCompletionWrite
  | cqCoalTimeout => exact h.execCqCoalTimeout
  | sqEnable => exact h.execSqEnable
  | sqDisable => exact h.execSqDisable
  | cqEnable => exact h.execCqEnable
  | cqDisable => exact h.execCqDisable
  | flr => exact h.execFlr
  | ideKm => exact h.execIdeKm
  | ideIntegrityFailure => exact h.execIdeIntegrityFailure
  | aoTick => exact h.execAoTick
  | aoclkLoss => exact h.execAoclkLoss
  | aoclkReturn => exact h.execAoclkReturn
  | refclkLoss => exact h.execRefclkLoss
  | dvfsRequest => exact h.execDvfsRequest
  | vack => exact h.execVack
  | vreqRepeat => exact h.execVreqRepeat
  | dvfsSwitch => exact h.execDvfsSwitch
  | clusterClockGate => exact h.execClusterClockGate
  | refill => exact h.execRefill
  | energySave => exact h.execEnergySave
  | sensorConversion => exact h.execSensorConversion
  | sensorMean => exact h.execSensorMean
  | fastModeExit => exact h.execFastModeExit
  | ghostPhaseEnd => exact h.execGhostPhaseEnd
  | thermtrip => exact h.execThermtrip
  | pstateSlack => exact h.execPstateSlack
  | pstateStill => exact h.execPstateStill
  | pstateActive => exact h.execPstateActive
  | slackDrainDone => exact h.execSlackDrainDone
  | slackEntryTimeout => exact h.execSlackEntryTimeout
  | stillWake i3c => exact h.execStillWake (_i3c := i3c)
  | newNonce => exact h.execNewNonce
  | debugObserve => exact h.execDebugObserve
  | debugInvasive => exact h.execDebugInvasive
  | claim => exact h.execClaim
  | release => exact h.execRelease
  | returnTok => exact h.execReturnTok
  | scrap => exact h.execScrap
  | policy => exact h.execPolicy
  | provision => exact h.execProvision
  | relock => exact h.execRelock
  | attest => exact h.execAttest
  | getMeasurements => exact h.execGetMeasurements
  | getCertificate => exact h.execGetCertificate
  | extend => exact h.execExtend
  | svnBurn => exact h.execSvnBurn
  | fwFetch => exact h.execFwFetch
  | jtagAccess => exact h.execJtagAccess
  | extest => exact h.execExtest
  | logAck => exact h.execLogAck
  | logNoteCommit => exact h.execLogNoteCommit
  | logRead => exact h.execLogRead
  | storeWrite => exact h.execStoreWrite
  | storeGateClose => exact h.execStoreGateClose
  | storeGateOpen => exact h.execStoreGateOpen
  | snapshotRequest => exact h.execSnapshotRequest
  | snapshotDone => exact h.execSnapshotDone
  | orderlyShutdown => exact h.execOrderlyShutdown
  | storeReset => exact h.execStoreReset
  | lifetimeCommit => exact h.execLifetimeCommit
  | ageingRecord => exact h.execAgeingRecord
  | hostSavedSave => exact h.execHostSavedSave
  | hostSavedLoad => exact h.execHostSavedLoad
  | pwrgoodAssert => exact h.execPwrgoodAssert
  | pwrgoodLoss => exact h.execPwrgoodLoss
  | coldReset => exact h.execColdReset
  | warmReset => exact h.execWarmReset
  | fabricReset => exact h.execFabricReset
  | dieHold => exact h.execDieHold
  | dieRelease => exact h.execDieRelease
  | bedLinkReset => exact h.execBedLinkReset
  | portReset => exact h.execPortReset
  | errorPop => exact h.execErrorPop
  | transparentTestRegion => exact h.execTransparentTestRegion
  | marchPass => exact h.execMarchPass
  | keystoneSidebandHeartbeat => exact h.execKeystoneSidebandHeartbeat
  | takeoverComplete => exact h.execTakeoverComplete
  | entropyHealthFailure => exact h.execEntropyHealthFailure
  | spdmKeyExchange => exact h.execSpdmKeyExchange
  | resizableBarSizeWrite => exact h.execResizableBarSizeWrite
  | attestationReportComplete => exact h.execAttestationReportComplete
  | tokenCheckComplete => exact h.execTokenCheckComplete
  | hostSavedOperationComplete => exact h.execHostSavedOperationComplete
  | marchPassComplete => exact h.execMarchPassComplete

theorem Canon.step (h : s.Canon) : CanonNext (Machine.step s) := by
  unfold Machine.step
  split
  · exact h.idleStep.next
  · exact h.upd.exec

end Sys2Proof.Machine.State

namespace Sys2Proof.Machine

/-- Settles O58: each operation writes memory, the route table and the error FIFOs by ways that keep their form, or leaves them, and each row
is put together from such operations. -/
theorem stepKeepsCanonical : Obligations.StepKeepsCanonical := fun _ t h e => State.Canon.step h t e

end Sys2Proof.Machine
end

section
/-! PROOF. How a submission entry without mailbox and header signal runs and completes (R470, R472, R478 to R481). -/

namespace Sys2Proof.Machine
set_option Elab.async false

variable {s t : State} {q idx ty st result aux : Nat} {e : SqEnt} {f : SqEnt → State → Option State}

/-- An entry is found under its own index. -/
theorem Sq.idx_of_ent {x : Sq} (h : x.ent idx = some e) : e.idx = idx := by
  simpa using List.find?_some h

/-- An entry put back is the one found. -/
theorem Sq.ent_setEnt {x : Sq} {y : SqEnt} (h : x.ent y.idx = some e) : (x.setEnt y).ent y.idx = some y := by
  obtain ⟨l, a, hents, hl⟩ : ∃ l a, x.ents = l ++ e :: a ∧ ∀ z ∈ l, z.idx ≠ y.idx := by
    obtain ⟨-, l, a, hents, hl⟩ := List.find?_eq_some_iff_append.mp h
    exact ⟨l, a, hents, fun z hz => by simpa using hl z hz⟩
  have hmap : l.map (fun z => if z.idx = y.idx then y else z) = l :=
    (List.map_congr_left fun z hz => if_neg (hl z hz)).trans (List.map_id' l)
  have hnone : l.find? (·.idx == y.idx) = none := List.find?_eq_none.mpr fun z hz => by simpa using hl z hz
  have he : e.idx = y.idx := Sq.idx_of_ent h
  simp [Sq.ent, Sq.setEnt, hents, hmap, hnone, he]

/-- Putting an entry back changes no other entry. -/
theorem Sq.others_setEnt (x : Sq) {y : SqEnt} (h : y.idx = idx) : (x.setEnt y).ents.filter (·.idx ≠ idx) = x.ents.filter (·.idx ≠ idx) := by
  subst h
  simp only [Sq.setEnt]
  induction x.ents with
  | nil => rfl
  | cons z zs ih =>
    by_cases hz : z.idx = y.idx
    · simpa [hz] using ih
    · simpa [hz] using ih

/-- The state with entry `e` of queue `q` marked as dispatched. -/
def State.sqStarted (s : State) (q : Nat) (e : SqEnt) : State := s.setSq q ((s.sq q).setEnt { e with dispatched := true })

theorem State.sqDispatch_of_ent (h : (s.sq q).ent idx = some e) : s.sqDispatch q idx = s.sqStarted q e := by
  simp only [State.sqDispatch, h, State.sqStarted]

theorem keeps_sqStarted (s : State) (q : Nat) (e : SqEnt) : keeps s (s.sqStarted q e) [.hq] := by
  simp [keeps, State.sqStarted]

theorem State.ent_sqStarted (h : (s.sq q).ent idx = some e) : ((s.sqStarted q e).sq q).ent idx = some { e with dispatched := true } := by
  obtain rfl := Sq.idx_of_ent h
  rw [State.sqStarted, State.sq_setSq]
  exact Sq.ent_setEnt (y := { e with dispatched := true }) h

/-- An entry that may be dispatched runs on the state in which it is marked. -/
theorem State.entryRun_of_sqRuns (h : sqRuns s q idx ty e) : s.entryRun q idx ty f = (f e (s.sqStarted q e)).getD s := by
  obtain ⟨-, hent, hmay, htype, -, -, hup, hawake⟩ := h
  simp [State.entryRun, hent, hmay, htype, hup, hawake, State.sqDispatch_of_ent hent]

/-- The completion of an entry (R478). -/
def sqCompl (e : SqEnt) (q idx st result aux : Nat) : Compl :=
  { status := st, type := bfld e.bytes 0 1, sq := q, idx, result, aux, noIrq := bfld e.bytes 1 1 / 2 % 2 == 1 }

/-- The state in which entry `idx` of queue `q` is gone and completion `k` waits in the bound CQ. -/
def State.sqClosed (s : State) (q idx : Nat) (k : Compl) : State :=
  (s.setSq q { s.sq q with ents := (s.sq q).ents.filter (·.idx ≠ idx) }).setCq (s.sq q).cq
    { s.cq (s.sq q).cq with wait := (s.cq (s.sq q).cq).wait ++ [k] }

theorem keeps_sqClosed (s : State) (q idx : Nat) (k : Compl) : keeps s (s.sqClosed q idx k) [.hq] := by
  simp [keeps, State.sqClosed]

/-- A header signal that is not valid is not sent. -/
theorem State.sendHeader_invalid {hs : HSig} (h : hs.valid = false) (die : Nat) (o : TOwner) (wu ep : Nat) :
    s.sendHeader die o hs wu ep = some (s, some 0) := by
  simp [State.sendHeader, HSig.sendable, h]

/-- Without mailbox and header signal, to complete an entry is to close it. -/
theorem State.sqDone_closed (hq : q < 256) (hent : (s.sq q).ent idx = some e) (htype : 0x40 ≤ bfld e.bytes 0 1 ∧ bfld e.bytes 0 1 ≤ 0x44)
    (hmb : bfld e.bytes 2 2 < 32768) (hsig : (hsigAt e.bytes 44 48 50 52).valid = false) :
    s.sqDone q idx st result aux = some (s.sqClosed q idx (sqCompl e q idx st result aux)) := by
  simp [State.sqDone, hent, htype, State.sendHeader_invalid hsig, Nat.not_le.mpr hq, Nat.not_le.mpr hmb, State.sqClosed, sqCompl, Sq.cq]

section
variable (h : sqRuns s q idx ty e) (ht : t.hq = (s.sqStarted q e).hq)
include h ht

theorem State.ent_of_started : (t.sq q).ent idx = some { e with dispatched := true } := by
  obtain ⟨-, hent, -⟩ := h
  rw [State.sq, ht]
  exact State.ent_sqStarted hent

/-- A closed entry is complete, whatever of the state but the queues changed since it was dispatched. -/
theorem State.sqCompleted_closed : sqCompleted s (t.sqClosed q idx (sqCompl e q idx st result aux)) q idx e st result aux := by
  obtain ⟨-, hent, -⟩ := h
  have hsq : t.sq q = (s.sq q).setEnt { e with dispatched := true } := by
    rw [State.sq, ht]; exact State.sq_setSq ..
  have hcq : t.cq (s.sq q).cq = s.cq (s.sq q).cq := by rw [State.cq, ht]; rfl
  have hbound : ((s.sq q).setEnt { e with dispatched := true }).cq = (s.sq q).cq := rfl
  refine ⟨?_, ?_⟩
  · rw [State.sqClosed, hsq, State.sq_setCq, State.sq_setSq]
    exact Sq.others_setEnt _ (show e.idx = idx from Sq.idx_of_ent hent)
  · rw [State.sqClosed, hsq, hbound, State.cq_setCq, hcq]
    rfl

variable (hty : 0x40 ≤ ty ∧ ty ≤ 0x44)
include hty

theorem State.sqDone_started : t.sqDone q idx st result aux = some (t.sqClosed q idx (sqCompl e q idx st result aux)) := by
  have hent := State.ent_of_started h ht
  obtain ⟨hq, -, -, rfl, hmb, hsig, -⟩ := h
  exact State.sqDone_closed (e := { e with dispatched := true }) hq hent hty hmb hsig

/-- The end of an entry records its status and closes it. -/
theorem State.sqEnd_started :
    t.sqEnd q idx st result aux = some ((t.raiseStatus st dieK q none ty).sqClosed q idx (sqCompl e q idx st result aux)) := by
  have hent := State.ent_of_started h ht
  obtain ⟨-, -, -, htype, -⟩ := id h
  rw [State.sqEnd, hent]
  simp only [htype]
  exact State.sqDone_started h (by rw [State.raiseStatus_hq, ht]) hty

/-- An entry that ends completes with its status; neither memory nor a Weir changes. -/
theorem State.sqEnd_completes : ∃ u, t.sqEnd q idx st result aux = some u ∧ sqCompleted s u q idx e st result aux ∧
    u.mem = t.mem ∧ u.weirs = t.weirs :=
  ⟨_, State.sqEnd_started h ht hty, State.sqCompleted_closed h (by rw [State.raiseStatus_hq, ht]),
    by simp [State.sqClosed], by simp [State.sqClosed]⟩

end

theorem hq_of_keeps {l : List SPart} (h : keeps s t l) (hno : SPart.hq ∉ l) : t.hq = s.hq := by simp_all [keeps]

theorem outbox_of_keeps {l : List SPart} (h : keeps s t l) (hno : SPart.outbox ∉ l) : t.outbox = s.outbox := by simp_all [keeps]

section
variable {l : List SPart} (h : sqRuns s q idx ty e) (hty : 0x40 ≤ ty ∧ ty ≤ 0x44) (heffect : keeps (s.sqStarted q e) t l) (hno : SPart.hq ∉ l)
include h hty heffect hno

/-- An entry whose effect left the queues alone is complete once it is done, and but for the queues the effect is all that changed. -/
theorem State.sqDone_after : ∃ u, t.sqDone q idx 0 result aux = some u ∧ sqCompleted s u q idx e 0 result aux ∧ u.mem = t.mem ∧
    u.outbox = t.outbox ∧ keeps s u (.hq :: l) :=
  ⟨_, State.sqDone_started h (hq_of_keeps heffect hno) hty, State.sqCompleted_closed h (hq_of_keeps heffect hno), rfl, rfl,
    keeps_trans (keeps_mono (keeps_sqStarted s q e) (by simp))
      (keeps_trans (keeps_mono heffect (List.subset_cons_self _ _)) (keeps_mono (keeps_sqClosed t q idx _) (by simp)))⟩

/-- It ends so with status 0, which leaves no record. -/
theorem State.sqEnd_after : ∃ u, t.sqEnd q idx 0 result aux = some u ∧ sqCompleted s u q idx e 0 result aux ∧ u.mem = t.mem ∧
    u.outbox = t.outbox ∧ keeps s u (.hq :: l) := by
  rw [State.sqEnd, State.raiseStatus, if_pos (.inl rfl)]
  exact State.sqDone_after h hty heffect hno

end

end Sys2Proof.Machine
end

section
/-! PROOF. Entries of a submission queue: NOP_ENTRY, DMA_IN and DMA_OUT (R187, R475). -/

namespace Sys2Proof.Machine
set_option Elab.async false

variable {s : State} {q idx : Nat} {e : SqEnt} {r : Region} {da len host : Nat}

/-- Untiled bytes for a range that nothing in flight touches are stored as they came, and no other byte (R187). -/
theorem State.dmaPut_untiled {bs : List Byte} (hkind : rangeKind s.trg da bs.length = .untiled) (hstill : s.still da bs.length = true) :
    ∃ t, s.dmaPut .clear da bs [] = (t, 0) ∧ t.readMem da bs.length = bs ∧
      (∀ a, a < da ∨ da + bs.length ≤ a → t.byte a = s.byte a) ∧ keeps s t [.mem] := by
  have hmet : ∀ t : State, t.met (s.viewNow .clear) (rangeAcc s.trg da bs.length true) = t := s.met_calm _ (by
    rw [rangeAcc_none (regionIn_untiled hkind)]; simp [s.calm_of_still _ _ hstill])
  simp only [State.dmaPut, hkind, hmet, View.busy_clear]
  cases bs with
  | nil => exact ⟨s, rfl, rfl, fun _ _ => rfl, keeps_refl ..⟩
  | cons b bs =>
    refine ⟨s.writeMem da (b :: bs), ?_, s.readMem_writeMem .., s.byte_writeMem_out _ _, keeps_writeMem ..⟩
    simp [gapsOf, partsMeet, State.writePE_still s da (b :: bs) hstill]

/-- The accesses to one slot of a region are the slot and its trailer. -/
theorem stillTile_slot (hkind : rangeKind s.trg da len = .tiled r) (hslot : len = r.slot) (hlen : len ≠ 0) (h : stillTile s da len) :
    s.still da len = true ∧ s.still (r.trailerDA da) 8 = true := by
  have hone : (len + r.slot - 1) / r.slot = 1 := by
    rw [← hslot, Nat.div_eq_iff (by omega)]; omega
  rw [stillTile, rangeAcc_some (regionIn_tiled hkind), hone] at h
  simpa using h

/-- Bytes for one slot are sealed in it (R185, R187). -/
theorem State.dmaPut_slot {bs : List Byte} (hkind : rangeKind s.trg da bs.length = .tiled r) (hslot : bs.length = r.slot)
    (hlen : bs.length ≠ 0) (hfit : tileBytes r.sealFmt ≤ r.slot) (hstill : stillTile s da bs.length) : s.dmaPut .clear da bs [] =
      (s.tileStored r da (bs.take (tileBytes r.sealFmt)) (mkTrailer (bs.take (tileBytes r.sealFmt)) 0 r.sealFmt false true), 0) := by
  obtain ⟨hbytes, htrailer⟩ := stillTile_slot hkind hslot hlen hstill
  have hmet : ∀ t : State, t.met (s.viewNow .clear) (rangeAcc s.trg da bs.length true) = t :=
    State.met_calmTile (fun a ha => s.calm_of_still _ _ (hstill a ha)) true
  have htake : s.still da (bs.take (tileBytes r.sealFmt)).length = true :=
    State.still_part hbytes (le_refl _) (by rw [List.length_take]; omega)
  have hone : bs.length / r.slot = 1 := by rw [← hslot, Nat.div_self (by omega)]
  simp only [State.dmaPut, hkind, hmet, View.busy_clear, hone, State.sealHost, partsMeet, List.any_nil, List.drop_zero, Nat.add_zero,
    State.sealSlot, State.writeTile_still _ htake htrailer]
  rfl

/-- NOP_ENTRY completes with status 0. -/
theorem State.nopEntry_completes (h : sqRuns s q idx 0x40 e) :
    ∃ t, exec (.nopEntry q idx) s = .next t ∧ sqCompleted s t q idx e 0 0 0 ∧ keeps s t [.hq] := by
  have harm : exec (.nopEntry q idx) s = execNopEntry q idx s := rfl
  obtain ⟨t, hend, hdone, -, -, hkeep⟩ := State.sqEnd_after (result := 0) (aux := 0) h (by decide) (keeps_refl (s.sqStarted q e) [])
    (by simp)
  exact ⟨t, by rw [harm, execNopEntry, State.entryRun_of_sqRuns h, hend]; rfl, hdone, hkeep⟩

/-! ### DMA_IN -/

section
variable {data : List Byte} (h : sqRuns s q idx 0x41 e) (hhost : bfld e.bytes 8 8 = host) (hda : gaDA (bfld e.bytes 16 8) = da)
  (hlen : bfld e.bytes 24 4 = len)
include h hhost hda hlen

/-- DMA_IN whose device side is turned away stores nothing. -/
theorem State.dmaIn_refused (hst : s.dmaCheck host da len true ≠ 0) : ∃ t, exec (.dmaIn q idx data [] true .clear) s = .next t ∧
    sqCompleted s t q idx e (s.dmaCheck host da len true) 0 0 ∧ t.mem = s.mem := by
  have harm : exec (.dmaIn q idx data [] true .clear) s = execDmaIn q idx data [] true .clear s := rfl
  generalize hc : s.dmaCheck host da len true = st at hst ⊢
  have hcheck : (s.sqStarted q e).dmaCheck host da len true = st := hc
  obtain ⟨u, hend, hdone, hmem, -⟩ := State.sqEnd_completes (t := s.sqStarted q e) (st := st) (result := 0) (aux := 0) h rfl (by decide)
  exact ⟨u, by simp only [harm, execDmaIn, State.entryRun_of_sqRuns h, hhost, hda, hlen, hcheck, hend, Option.getD_some], hdone, hmem⟩

section
variable (hst : s.dmaCheck host da len true = 0)
include hst

/-- DMA_IN whose host read failed stores nothing (R474). -/
theorem State.dmaIn_hostFailed : ∃ t, exec (.dmaIn q idx data [] false .clear) s = .next t ∧ sqCompleted s t q idx e 11 0 0 ∧
    t.mem = s.mem := by
  have harm : exec (.dmaIn q idx data [] false .clear) s = execDmaIn q idx data [] false .clear s := rfl
  have hcheck : (s.sqStarted q e).dmaCheck host da len true = 0 := hst
  obtain ⟨u, hend, hdone, hmem, -⟩ := State.sqEnd_completes (t := s.sqStarted q e) (st := 11) (result := 0) (aux := 0) h rfl (by decide)
  exact ⟨u, by simp [harm, execDmaIn, State.entryRun_of_sqRuns h, hhost, hda, hlen, hcheck, hend], hdone, hmem⟩

/-- DMA_IN whose host data comes has its effect, then completes. -/
theorem State.dmaIn_stored {t : State} (hkeep : keeps (s.sqStarted q e) t [.mem])
    (hput : (s.sqStarted q e).dmaPut .clear da (padTo len data) [] = (t, 0)) :
    ∃ u, exec (.dmaIn q idx data [] true .clear) s = .next u ∧ u.mem = t.mem ∧ sqCompleted s u q idx e 0 0 0 ∧ keeps s u [.hq, .mem] := by
  have harm : exec (.dmaIn q idx data [] true .clear) s = execDmaIn q idx data [] true .clear s := rfl
  have hcheck : (s.sqStarted q e).dmaCheck host da len true = 0 := hst
  obtain ⟨u, hend, hdone, hmem, -, hkeeps⟩ := State.sqEnd_after (result := 0) (aux := 0) h (by decide) hkeep (by simp)
  exact ⟨u, by simp [harm, execDmaIn, State.entryRun_of_sqRuns h, hhost, hda, hlen, hcheck, hput, hend], hmem, hdone, hkeeps⟩

/-- DMA_IN to untiled memory (R187). -/
theorem State.dmaIn_untiled (hkind : rangeKind s.trg da len = .untiled) (hstill : s.still da len = true) :
    ∃ t, exec (.dmaIn q idx data [] true .clear) s = .next t ∧ t.readMem da len = padTo len data ∧
      (∀ a, a < da ∨ da + len ≤ a → t.byte a = s.byte a) ∧ sqCompleted s t q idx e 0 0 0 ∧ keeps s t [.hq, .mem] := by
  have hpad := length_padTo len data
  obtain ⟨t, hput, hread, hother, hkeep⟩ := State.dmaPut_untiled (s := s.sqStarted q e) (da := da) (bs := padTo len data)
    (by rw [hpad]; exact hkind) (by rw [hpad]; exact hstill)
  rw [hpad] at hread hother
  obtain ⟨u, hexec, hmem, hdone, hkeeps⟩ := State.dmaIn_stored h hhost hda hlen hst hkeep hput
  exact ⟨u, hexec, (State.readMem_of_mem hmem ..).trans hread, fun a ha => (State.byte_of_mem hmem a).trans (hother a ha), hdone, hkeeps⟩

/-- DMA_IN to one tiled slot (R187). -/
theorem State.dmaIn_slot {k : Nat} (hkind : rangeKind s.trg da len = .tiled r) (hslot : len = r.slot) (hpos : len ≠ 0)
    (hsize : tileBytes r.sealFmt = k) (hfit : k ≤ r.slot) (hapart : rangesMeet da k (r.trailerDA da) 8 = false) (hk : k ≠ 0)
    (hstill : stillTile s da len) : ∃ t, exec (.dmaIn q idx data [] true .clear) s = .next t ∧
      t.readMem da k = (padTo len data).take k ∧
      t.readMem (r.trailerDA da) 8 = (mkTrailer ((padTo len data).take k) 0 r.sealFmt false true).toBytes ∧
      (∀ a, a < da ∨ da + k ≤ a → a < r.trailerDA da ∨ r.trailerDA da + 8 ≤ a → t.byte a = s.byte a) ∧
      sqCompleted s t q idx e 0 0 0 ∧ keeps s t [.hq, .mem] := by
  subst hsize
  have hpad := length_padTo len data
  have hput := State.dmaPut_slot (s := s.sqStarted q e) (da := da) (r := r) (bs := padTo len data)
    (by rw [hpad]; exact hkind) (by rw [hpad, hslot]) (by rwa [hpad]) hfit (by rw [hpad]; exact hstill)
  obtain ⟨hbytes, htrailer, hother⟩ := (s.sqStarted q e).tileStored_spec
    (mkTrailer ((padTo len data).take (tileBytes r.sealFmt)) 0 r.sealFmt false true)
    (show ((padTo len data).take (tileBytes r.sealFmt)).length = tileBytes r.sealFmt by rw [List.length_take]; omega) hk hapart
  obtain ⟨u, hexec, hmem, hdone, hkeeps⟩ := State.dmaIn_stored h hhost hda hlen hst (keeps_tileStored ..) hput
  exact ⟨u, hexec, (State.readMem_of_mem hmem ..).trans hbytes, (State.readMem_of_mem hmem ..).trans htrailer,
    fun a ha ha' => (State.byte_of_mem hmem a).trans (hother a ha ha'), hdone, hkeeps⟩

end

end

/-! ### DMA_OUT -/

/-- Without a poisoned unit in memory no read meets one. -/
theorem State.poisonRange_good (hbad : s.mem.bad = []) (da n : Nat) : s.poisonRange da n = false := by simp [State.poisonRange, hbad]

/-- The one tile of a slot that checks is sent (R187). -/
theorem State.dmaTiles_one {v : View} {die : Nat} (hok : (s.readTile v r da).ok = true) : s.dmaTiles v r host da die 1 0 =
    (s.emit (.hostWrite host (padTo r.slot (s.readTile v r da).bytes)), 0) := by
  simp [State.dmaTiles, hok]

/-- A tile of a calm range reads as the bytes that memory holds. -/
theorem State.readTile_calm (h : s.calm da (s.readTile (s.viewNow .clear) r da).bytes.length = true) :
    (s.readTile (s.viewNow .clear) r da).bytes = s.readMem da (s.readTile (s.viewNow .clear) r da).bytes.length := by
  simp only [State.readTile, State.length_readPE] at h ⊢
  exact s.readPE_calm _ _ h

theorem keeps_emit (s : State) (o : Out) : keeps s (s.emit o) [.outbox] := by simp [keeps]

section
variable (h : sqRuns s q idx 0x42 e) (hhost : bfld e.bytes 8 8 = host) (hda : gaDA (bfld e.bytes 16 8) = da) (hlen : bfld e.bytes 24 4 = len)
  (hst : s.dmaCheck host da len false = 0)
include h hhost hda hlen hst

/-- DMA_OUT of untiled memory (R187). -/
theorem State.dmaOut_untiled (hkind : rangeKind s.trg da len = .untiled) (hbad : s.mem.bad = []) (hpos : len ≠ 0)
    (hcalm : s.calm da len = true) : ∃ t, exec (.dmaOut q idx .clear) s = .next t ∧
      t.outbox = s.outbox ++ [.hostWrite host (s.readMem da len)] ∧ sqCompleted s t q idx e 0 0 0 ∧ keeps s t [.hq, .outbox] := by
  have harm : exec (.dmaOut q idx .clear) s = execDmaOut q idx .clear s := rfl
  have hcheck : (s.sqStarted q e).dmaCheck host da len false = 0 := hst
  have hkindU : rangeKind (s.sqStarted q e).trg da len = .untiled := hkind
  have hread : (s.sqStarted q e).readPE ((s.sqStarted q e).viewNow .clear) da len = s.readMem da len := s.readPE_calm _ _ hcalm
  have hgood : ∀ a n, (s.sqStarted q e).poisonRange a n = false := State.poisonRange_good hbad
  have hmet : ∀ t : State, t.met ((s.sqStarted q e).viewNow .clear) (rangeAcc (s.sqStarted q e).trg da len false) = t :=
    (s.sqStarted q e).met_calm _ fun a ha => by
      rw [rangeAcc_none (regionIn_untiled hkindU), List.mem_singleton] at ha
      subst ha
      exact hcalm
  have hecc : ∀ o, ((s.sqStarted q e).emit o).eccRead da len = (s.sqStarted q e).emit o := fun _ => State.eccRead_clean (hgood _ _)
  have hall : (s.readMem da len).take len = s.readMem da len := List.take_of_length_le (by simp)
  obtain ⟨t, hend, hdone, -, hout, hkeep⟩ := State.sqEnd_after (result := 0) (aux := 0) h (by decide)
    (keeps_emit (s.sqStarted q e) (.hostWrite host (s.readMem da len))) (by simp)
  refine ⟨t, ?_, hout, hdone, hkeep⟩
  simp [harm, execDmaOut, State.entryRun_of_sqRuns h, hhost, hda, hlen, hcheck, hkindU, hread, hgood, gapsOf, Nat.pos_of_ne_zero hpos,
    hall, View.busy_clear, hmet, hecc, hend]

/-- DMA_OUT of one tile that checks (R187). -/
theorem State.dmaOut_tile {x : TileRead} (hkind : rangeKind s.trg da len = .tiled r) (hslot : len = r.slot) (hpos : len ≠ 0)
    (hcalm : calmTile s da len) (hgood : s.poisonRange da len = false) (hx : s.readTile (s.viewNow .clear) r da = x) (hok : x.ok = true)
    (hfit : x.bytes.length ≤ len) : ∃ t, exec (.dmaOut q idx .clear) s = .next t ∧
      t.outbox = s.outbox ++ [.hostWrite host (padTo r.slot (s.readMem da x.bytes.length))] ∧
      sqCompleted s t q idx e 0 0 0 ∧ keeps s t [.hq, .outbox] := by
  subst hx
  have harm : exec (.dmaOut q idx .clear) s = execDmaOut q idx .clear s := rfl
  have hcheck : (s.sqStarted q e).dmaCheck host da len false = 0 := hst
  have hkindU : rangeKind (s.sqStarted q e).trg da len = .tiled r := hkind
  have hrange : s.calm da len = true := hcalm (da, len, true) (by simp [rangeAcc])
  have hbytes := State.readTile_calm (r := r) (State.calm_part hrange (le_refl da) (by omega))
  have hone : len / r.slot = 1 := by rw [← hslot, Nat.div_self (by omega)]
  have htiles : ∀ die, (s.sqStarted q e).dmaTiles ((s.sqStarted q e).viewNow .clear) r host da die 1 0 =
      ((s.sqStarted q e).emit (.hostWrite host (padTo r.slot (s.readTile (s.viewNow .clear) r da).bytes)), 0) :=
    fun _ => State.dmaTiles_one (s := s.sqStarted q e) hok
  have hmet : ∀ t : State, t.met ((s.sqStarted q e).viewNow .clear) (rangeAcc (s.sqStarted q e).trg da len false) = t :=
    State.met_calmTile (s := s.sqStarted q e) hcalm false
  have hecc : ∀ o, ((s.sqStarted q e).emit o).eccRead da len = (s.sqStarted q e).emit o := fun _ => State.eccRead_clean hgood
  obtain ⟨t, hend, hdone, -, hout, hkeep⟩ := State.sqEnd_after (result := 0) (aux := 0) h (by decide)
    (keeps_emit (s.sqStarted q e) (.hostWrite host (padTo r.slot (s.readTile (s.viewNow .clear) r da).bytes))) (by simp)
  refine ⟨t, ?_, by rw [← hbytes]; exact hout, hdone, hkeep⟩
  simp [harm, execDmaOut, State.entryRun_of_sqRuns h, hhost, hda, hlen, hcheck, hkindU, hone, htiles, View.busy_clear, hmet, hecc, worseStatus,
    hend]

end

end Sys2Proof.Machine
end

section
/-! PROOF. WEIR_ENTRY (R476): the block waits in its Weir's queue, or at its submission queue while that is full. -/

namespace Sys2Proof.Machine
set_option Elab.async false

variable {s : State} {q idx len n : Nat} {e : SqEnt} {raw : List Byte}

/-- The block that a WEIR_ENTRY brings to Weir n. -/
def State.entryBlock (s : State) (q idx len : Nat) (raw : List Byte) : WBlk :=
  { id := s.opNext, iss := .sq q idx, bytes := bput (bput (padTo len raw) 8 4 0) 12 1 0, workUnit := 0, epoch := 0, bcast := false,
    declared := len }

/-- The state in which the entry waits for Weir n and the block in that Weir's queue. -/
def State.entryQueued (s : State) (q : Nat) (e : SqEnt) (n : Nat) (k : WBlk) : State :=
  (s.setSq q ((s.sq q).setEnt { e with weirs := [(n, none)] })).freshId.weirQueued n k

theorem keeps_entryQueued (s : State) (q : Nat) (e : SqEnt) (n : Nat) (k : WBlk) : keeps s (s.entryQueued q e n k) [.hq, .weirs, .opNext] := by
  simp [keeps, State.entryQueued, State.weirQueued]

section
variable (h : sqRuns s q idx 0x43 e) (hlen : bfld e.bytes 16 4 = len) (hto : bfld e.bytes 20 1 = n) (hn : n < 16)
include h hto hn

/-- While its Weir's queue is full the entry stays (R201, R470). -/
theorem State.weirEntry_waits {block : Option (List Byte)} (hroom : s.weirRoom n = false) : exec (.weirEntry q idx block) s = .next s := by
  have harm : exec (.weirEntry q idx block) s = execWeirEntry q idx block s := rfl
  have hroomU : (s.sqStarted q e).weirRoom n = false := hroom
  rw [harm, execWeirEntry, State.entryRun_of_sqRuns h]
  simp [hto, Nat.ne_of_lt hn, hroomU]

section
variable (hroom : s.weirRoom n = true) (hide : s.ideOk (bfld e.bytes 8 8) = true)
include hroom hide

/-- An entry whose host read failed delivers nothing (R474). -/
theorem State.weirEntry_hostFailed : ∃ t, exec (.weirEntry q idx none) s = .next t ∧ sqCompleted s t q idx e 11 0 0 ∧
    t.weirs = s.weirs ∧ t.mem = s.mem := by
  have harm : exec (.weirEntry q idx none) s = execWeirEntry q idx none s := rfl
  have hroomU : (s.sqStarted q e).weirRoom n = true := hroom
  have hideU : (s.sqStarted q e).ideOk (bfld e.bytes 8 8) = true := hide
  obtain ⟨u, hend, hdone, hmem, hweirs⟩ := State.sqEnd_completes (t := s.sqStarted q e) (st := 11) (result := 0) (aux := 0) h rfl (by decide)
  refine ⟨u, ?_, hdone, hweirs, hmem⟩
  rw [harm, execWeirEntry, State.entryRun_of_sqRuns h]
  simp [hto, Nat.ne_of_lt hn, hroomU, hideU, hend]

include hlen

/-- Where both ways to the Weir are in service, the block joins its queue. -/
theorem State.weirEntry_queued (hpath : s.weirPath dieK n = true) : exec (.weirEntry q idx (some raw)) s =
    .next ((s.sqStarted q e).entryQueued q { e with dispatched := true } n (s.entryBlock q idx len raw)) := by
  have harm : exec (.weirEntry q idx (some raw)) s = execWeirEntry q idx (some raw) s := rfl
  have hent := State.ent_of_started h rfl
  have hroomU : (s.sqStarted q e).weirRoom n = true := hroom
  have hideU : (s.sqStarted q e).ideOk (bfld e.bytes 8 8) = true := hide
  have hpathU : ∀ x, ((s.sqStarted q e).setSq q x).freshId.weirPath dieK n = true := fun _ => hpath
  rw [harm, execWeirEntry, State.entryRun_of_sqRuns h]
  have hone : (n == 16) = false := beq_eq_false_iff_ne.mpr (Nat.ne_of_lt hn)
  simp [hto, hone, hroomU, hideU, hlen, hent, State.weirDeliver_one (hpathU _)]
  rfl

theorem State.weirEntry_delivers (hpath : s.weirPath dieK n = true) : ∃ t, exec (.weirEntry q idx (some raw)) s = .next t ∧
    (t.weir n).queue = (s.weir n).queue ++ [s.entryBlock q idx len raw] ∧
    (t.sq q).ent idx = some { e with dispatched := true, weirs := [(n, none)] } ∧ keeps s t [.hq, .weirs, .opNext] := by
  obtain ⟨-, hfound, -⟩ := id h
  obtain rfl := Sq.idx_of_ent hfound
  have hent := State.ent_of_started h rfl
  refine ⟨_, State.weirEntry_queued h hlen hto hn hroom hide hpath, ?_, ?_,
    keeps_trans (keeps_mono (keeps_sqStarted s q e) (by simp)) (keeps_entryQueued ..)⟩
  · exact State.queue_weirQueued ..
  · have hsq : (((s.sqStarted q e).entryQueued q { e with dispatched := true } n (s.entryBlock q e.idx len raw)).sq q) =
        ((s.sqStarted q e).sq q).setEnt { e with dispatched := true, weirs := [(n, none)] } := State.sq_setSq ..
    rw [hsq]
    exact Sq.ent_setEnt (y := { e with dispatched := true, weirs := [(n, none)] }) hent

end

end

end Sys2Proof.Machine
end

section
/-! PROOF. MGMT_ENTRY (R433, R434, R473, R477): a request that the keystone serves itself, and one that it sends. -/

namespace Sys2Proof.Machine
set_option Elab.async false

variable {s t : State} {q idx dst sub len : Nat} {e : SqEnt} {raw : List Byte}

/-- The word in a response to a register read. -/
theorem bfld_readPayload (w : Word) : bfld (padTo 32 (toBytesLE 4 w.toNat)) 0 8 = w.toNat := by
  have hfour : bfld (padTo 32 (toBytesLE 4 w.toNat)) 0 8 = ofBytesLE (toBytesLE 4 w.toNat) := by
    simp [bfld, padTo, zeros, toBytesLE, ofBytesLE, List.replicate]
  rw [hfour, ofBytesLE_word]

/-- A read of a register changes registers and free values alone. -/
theorem keeps_readReg (s : State) (off width : Nat) : keeps s (s.readReg off width).1 [.regs, .freeIdx] := by
  obtain h | h | h | h := s.readReg_state off width <;> rw [h] <;> simp [keeps]

/-- The request of a MGMT_ENTRY that is not path-routed, before it is given a tracker entry. -/
def mgmtRequest (dst sub len : Nat) (raw : List Byte) : Packet :=
  { Packet.zero with dst, type := 6, mod := sub, payload := padTo len raw }

/-- The request with its origin, as tracker entry `i` of generation `gen` of span die `d` sends it (R436). -/
def State.tracked (s : State) (p : Packet) (d i gen : Nat) : Packet :=
  { p with src := s.devId, srcDie := dieK, trk := d, tag := i, gen := gen }

/-- The state in which a request waits at port `out` under a new tracker entry. -/
def State.requestSent (s : State) (p : Packet) (o : TOwner) (out : Nat) : State :=
  let a := (s.span (out / 8)).alloc o { p with src := s.devId, srcDie := dieK } out
  let sent := s.tracked p (out / 8) a.1 (tget .free a.2.trk a.1).gen
  (s.setSpan (out / 8) { a.2 with trk := tset .free a.2.trk a.1 { tget .free a.2.trk a.1 with pkt := some sent } }).txWait out
    (vcOf p.type (s.firstClass out)) sent (some (out / 8 * 1048576 + a.1))

theorem keeps_requestSent (s : State) (p : Packet) (o : TOwner) (out : Nat) : keeps s (s.requestSent p o out) [.fab] := by
  simp [keeps, State.requestSent, State.txWait, State.setSpan]

/-- The request waits at its port, and the entry that tracks it is busy for its owner. -/
theorem State.requestSent_spec (s : State) (p : Packet) (o : TOwner) (out : Nat) : ∃ i gen,
    (s.requestSent p o out).fab.waiting = s.fab.waiting ++
      [TxWait.mk out (vcOf p.type (s.firstClass out)) (s.tracked p (out / 8) i gen) (some (out / 8 * 1048576 + i))] ∧
    ((s.requestSent p o out).trk (out / 8) i).pkt = some (s.tracked p (out / 8) i gen) ∧
    ((s.requestSent p o out).trk (out / 8) i).owner = o ∧ ((s.requestSent p o out).trk (out / 8) i).use = .busy := by
  generalize ha : (s.span (out / 8)).alloc o { p with src := s.devId, srcDie := dieK } out = a
  have hnew : (tget .free a.2.trk a.1).owner = o ∧ (tget .free a.2.trk a.1).use = .busy := by
    rw [← ha, Span.alloc, tget_tset_self]; exact ⟨rfl, rfl⟩
  have htrk : (s.requestSent p o out).trk (out / 8) a.1 =
      { tget .free a.2.trk a.1 with pkt := some (s.tracked p (out / 8) a.1 (tget .free a.2.trk a.1).gen) } := by
    simp only [State.requestSent, ha]
    simp [State.trk, State.span, State.txWait, State.setSpan]
  refine ⟨a.1, (tget .free a.2.trk a.1).gen, ?_, ?_, ?_, ?_⟩
  · simp only [State.requestSent, ha]; rfl
  · rw [htrk]
  · rw [htrk]; exact hnew.1
  · rw [htrk]; exact hnew.2

/-- A request to a device whose route leads to one port takes a tracker entry of its span die and joins the packets that wait there
(R420, R436). -/
theorem State.inject_request {out : Nat} {p : Packet} {o : TOwner} (h : onlyPort s p.dst out) (hway : way s dieK out)
    (h0 : (s.span 0).inUse < 1048576) (h1 : (s.span 1).inUse < 1048576) :
    s.inject dieK p (some o) = .sent (s.requestSent p o out) := by
  obtain ⟨hid, hout, hvalid, hprim, hmode, hup⟩ := h
  have hway : s.diePath dieK (dieS (out / 8)) = true := hway
  simp [State.inject, hid, hvalid, State.copies, hmode, State.sendCopies, State.sendCopy, hprim, State.rank_two_pow hout hup,
    State.choose_singleton, hway, State.twinUp, Nat.not_le.mpr h0, Nat.not_le.mpr h1]
  rfl

/-- The response payload goes to the host before the completion (R477). -/
theorem State.mgmtDone_started {d : List Byte} (h : sqRuns s q idx 0x44 e) (ht : t.hq = (s.sqStarted q e).hq) (hd : d ≠ []) :
    t.mgmtDone q idx 0 d = (t.emit (.hostWrite (bfld e.bytes 24 8) d)).sqDone q idx 0 (bfld d 0 8) d.length := by
  have hent := State.ent_of_started h ht
  obtain ⟨hq, -⟩ := h
  simp [State.mgmtDone, hent, State.raiseStatus, hd, Nat.not_le.mpr hq]

section
variable (h : sqRuns s q idx 0x44 e) (hdst : bfld e.bytes 8 3 % 262144 = dst) (hsub : bfld e.bytes 11 1 = sub) (hlen : bfld e.bytes 14 2 = len)
  (hide : s.ideOk (bfld e.bytes 16 8) = true) (hpath : bfld e.bytes 12 1 % 2 = 0) (hpos : len ≠ 0)
include h hdst hsub hlen hide hpath hpos

section
variable (hloc : s.isLocal dst = true)
include hloc

/-- A request to this device is served where the entry was dispatched, and its answer ends the entry. -/
theorem State.mgmtEntry_local {st : Nat} {d : List Byte} {u : State} (hserve : (s.sqStarted q e).mgmtLocal sub (padTo len raw) = some (t, st, d))
    (hend : t.mgmtDone q idx st d = some u) : exec (.mgmtEntry q idx (some raw)) s = .next u := by
  have harm : exec (.mgmtEntry q idx (some raw)) s = execMgmtEntry q idx (some raw) s := rfl
  have hideU : (s.sqStarted q e).ideOk (bfld e.bytes 16 8) = true := hide
  have hlocU : (s.sqStarted q e).isLocal dst = true := hloc
  rw [harm, execMgmtEntry, State.entryRun_of_sqRuns h]
  simp [hdst, hsub, hlen, hideU, hpath, hpos, hlocU, hserve, hend]

/-- A register read completes with the value, which the host has before (R434, R477). -/
theorem State.mgmtEntry_reads (hread : sub = 1) {off : Nat} (harg : bfld (padTo len raw) 0 4 = off) (hoff : off < 0x4000000) {rd : State × Word}
    (hrd : (s.sqStarted q e).readReg off 32 = rd) : ∃ t, exec (.mgmtEntry q idx (some raw)) s = .next t ∧
      sqCompleted s t q idx e 0 rd.2.toNat 32 ∧
      t.outbox = s.outbox ++ [.hostWrite (bfld e.bytes 24 8) (padTo 32 (toBytesLE 4 rd.2.toNat))] ∧
      keeps s t [.hq, .outbox, .regs, .freeIdx] := by
  have hserve : (s.sqStarted q e).mgmtLocal sub (padTo len raw) = some (rd.1, 0, padTo 32 (toBytesLE 4 rd.2.toNat)) := by
    simp only [State.mgmtLocal, if_pos hread, State.mgmtRead, harg, if_neg (Nat.not_le.mpr hoff), hrd]
  have hkeep : keeps (s.sqStarted q e) rd.1 [.regs, .freeIdx] := hrd ▸ keeps_readReg ..
  have hq := hq_of_keeps hkeep (by simp)
  have hbefore : rd.1.outbox = (s.sqStarted q e).outbox := outbox_of_keeps hkeep (by simp)
  have hwritten : keeps (s.sqStarted q e) (rd.1.emit (.hostWrite (bfld e.bytes 24 8) (padTo 32 (toBytesLE 4 rd.2.toNat))))
      [.outbox, .regs, .freeIdx] := keeps_trans (keeps_mono hkeep (by simp)) (keeps_mono (keeps_emit ..) (by simp))
  have hdone := State.mgmtDone_started (d := padTo 32 (toBytesLE 4 rd.2.toNat)) h hq (List.ne_nil_of_length_pos (by simp))
  rw [bfld_readPayload, length_padTo] at hdone
  obtain ⟨u, hend, hcompl, -, hout, hkeeps⟩ := State.sqDone_after (result := rd.2.toNat) (aux := 32) h (by decide) hwritten (by simp)
  exact ⟨u, State.mgmtEntry_local h hdst hsub hlen hide hpath hpos hloc hserve (hdone.trans hend), hcompl,
    hout.trans (congrArg (· ++ _) hbefore), hkeeps⟩

/-- A subtype that is none of R434 completes with status 10. -/
theorem State.mgmtEntry_noSubtype (hbad : sub = 0 ∨ 5 < sub) : ∃ t, exec (.mgmtEntry q idx (some raw)) s = .next t ∧
    sqCompleted s t q idx e 10 0 0 ∧ t.mem = s.mem := by
  have hserve : (s.sqStarted q e).mgmtLocal sub (padTo len raw) = some (s.sqStarted q e, 10, []) := by
    have hno : ∀ k, 1 ≤ k → k ≤ 5 → sub ≠ k := by omega
    simp [State.mgmtLocal, hno]
  have hent := State.ent_of_started (t := s.sqStarted q e) h rfl
  obtain ⟨u, hend, hcompl, hmem, -⟩ := State.sqEnd_completes (t := s.sqStarted q e) (st := 10) (result := 0) (aux := 0) h rfl (by decide)
  have hdone : (s.sqStarted q e).mgmtDone q idx 10 [] = (s.sqStarted q e).sqEnd q idx 10 0 0 := by
    obtain ⟨-, -, -, htype, -⟩ := h
    have hnone : bfld [] 0 8 = 0 := rfl
    simp [State.mgmtDone, State.sqEnd, hent, htype, hnone]
  exact ⟨u, State.mgmtEntry_local h hdst hsub hlen hide hpath hpos hloc hserve (hdone.trans hend), hcompl, hmem⟩

end

/-- A request to another device leaves by the one port of its route, and the entry waits for the answer (R433, R436). -/
theorem State.mgmtEntry_sends {out : Nat} (hloc : s.isLocal dst = false) (honly : onlyPort s dst out) (hway : way s dieK out)
    (h0 : (s.span 0).inUse < 1048576) (h1 : (s.span 1).inUse < 1048576) :
    exec (.mgmtEntry q idx (some raw)) s = .next ((s.sqStarted q e).requestSent (mgmtRequest dst sub len raw) (.mgmt q idx) out) := by
  have harm : exec (.mgmtEntry q idx (some raw)) s = execMgmtEntry q idx (some raw) s := rfl
  have hideU : (s.sqStarted q e).ideOk (bfld e.bytes 16 8) = true := hide
  have hlocU : (s.sqStarted q e).isLocal dst = false := hloc
  have hsent : (s.sqStarted q e).inject dieK (mgmtRequest dst sub len raw) (some (.mgmt q idx)) = _ :=
    State.inject_request (s := s.sqStarted q e) honly hway h0 h1
  rw [mgmtRequest] at hsent
  rw [harm, execMgmtEntry, State.entryRun_of_sqRuns h]
  simp [hdst, hsub, hlen, hideU, hpath, hpos, hlocU, hsent, mgmtRequest]

/-- What waits then: the request at its port, tracked for the entry. -/
theorem State.mgmtEntry_tracked {out : Nat} (hloc : s.isLocal dst = false) (honly : onlyPort s dst out) (hway : way s dieK out)
    (h0 : (s.span 0).inUse < 1048576) (h1 : (s.span 1).inUse < 1048576) :
    ∃ t i gen, exec (.mgmtEntry q idx (some raw)) s = .next t ∧ (t.sq q).ent idx = some { e with dispatched := true } ∧
      (let sent := s.tracked (mgmtRequest dst sub len raw) (out / 8) i gen
       t.fab.waiting = s.fab.waiting ++ [TxWait.mk out 0 sent (some (out / 8 * 1048576 + i))] ∧
       (t.trk (out / 8) i).pkt = some sent ∧ (t.trk (out / 8) i).owner = .mgmt q idx ∧ (t.trk (out / 8) i).use = .busy) ∧
      keeps s t [.hq, .fab] := by
  obtain ⟨i, gen, hspec⟩ := (s.sqStarted q e).requestSent_spec (mgmtRequest dst sub len raw) (.mgmt q idx) out
  exact ⟨_, i, gen, State.mgmtEntry_sends h hdst hsub hlen hide hpath hpos hloc honly hway h0 h1,
    State.ent_of_started h (hq_of_keeps (keeps_requestSent ..) (by simp)), hspec,
    keeps_trans (keeps_mono (keeps_sqStarted s q e) (by simp)) (keeps_mono (keeps_requestSent ..) (by simp))⟩

end

end Sys2Proof.Machine
end

section
/-! PROOF. Function-level reset (R464, R488, R489, R640). -/

namespace Sys2Proof.Machine
set_option Elab.async false

variable {s t u : State}

/-- What FLR says of the host interface, apart from the queue numbers from 256 on, which hold what it leaves running (R489). -/
structure HqCleared (t : State) : Prop where
  sqs : ∀ q, q < 256 → t.sq q = .reset
  cqs : t.hq.cqs = []
  armed : t.hq.armed = []
  ide : t.hq.ide = []
  spdm : t.hq.spdm = false

theorem HqCleared.hqReset (s : State) : HqCleared (s.hqReset false) := ⟨fun _ _ => rfl, rfl, rfl, rfl, rfl⟩

theorem HqCleared.setSq (h : HqCleared t) {q : Nat} (hq : 256 ≤ q) (x : Sq) : HqCleared (t.setSq q x) :=
  ⟨fun j hj => (State.sq_setSq_ne _ _ _ _ (by omega)).trans (h.sqs j hj), h.cqs, h.armed, h.ide, h.spdm⟩

theorem HqCleared.of_hq (h : HqCleared t) (hu : u.hq = t.hq) : HqCleared u := by
  obtain ⟨hsqs, hcqs, harmed, hide, hspdm⟩ := h
  exact ⟨fun q hq => by rw [State.sq, hu]; exact hsqs q hq, hu ▸ hcqs, hu ▸ harmed, hu ▸ hide, hu ▸ hspdm⟩

theorem keeps_setSq (s : State) (q : Nat) (x : Sq) : keeps s (s.setSq q x) [.hq] := by simp [keeps]

/-- The host interface is as FLR leaves it, and beside it only operation IDs and the Weirs' blocks changed. -/
structure FlrKept (s t : State) : Prop where
  hq : HqCleared t
  rest : keeps s t [.opNext, .weirs, .hq]

theorem FlrKept.setSq (h : FlrKept s t) {q : Nat} (hq : 256 ≤ q) (x : Sq) : FlrKept s (t.setSq q x) :=
  ⟨h.hq.setSq hq x, keeps_trans h.rest (keeps_mono (keeps_setSq t q x) (by simp))⟩

/-- The entries that FLR leaves running move to queue numbers from 256 on; nothing else of the host interface stays. -/
theorem FlrKept.flrKeep (s : State) : FlrKept s s.flrKeep := by
  unfold State.flrKeep
  refine List.foldlRecOn (motive := FlrKept s) _ _ (List.foldlRecOn (motive := FlrKept s) _ _ ?reset ?outlived) ?kept
  case reset => exact ⟨HqCleared.hqReset _, by simp [keeps, State.hqReset]⟩
  case outlived => exact fun t ht kv hkv => ht.setSq (by simpa using (List.mem_filter.mp hkv).2) _
  case kept => exact fun t ht kv hkv => ht.setSq (Nat.le_add_left ..) _

theorem State.keeps_flrOrphan (s : State) : keeps s s.flrOrphan [.reaches, .plc, .fab] := by simp [keeps, State.flrOrphan]

/-- A register that the reset names reads as after reset (R640). -/
theorem State.reg_resetRegs_hit (s : State) {hit : RegDesc → Nat → Bool} {off : Nat} {d : RegDesc} (hr : regAt off = some d)
    (hh : hit d off = true) : (s.resetRegs hit).reg off = regReset off := by
  have hgone := tget_filter (regReset off) (fun k => match regAt k with | some d => !hit d k | none => true) s.regs off
  simp only [hr, hh] at hgone
  exact hgone

theorem State.keeps_resetRegs (s : State) (hit : RegDesc → Nat → Bool) : keeps s (s.resetRegs hit) [.regs] := by simp [keeps, State.resetRegs]

/-- The state after a function-level reset but for the two registers that it sets. -/
def State.flrCleared (s : State) : State := s.flrOrphan.flrKeep.resetRegs fun d _ => d.dom = .flr

theorem State.keeps_flrCleared (s : State) : keeps s s.flrCleared [.reaches, .plc, .fab, .opNext, .weirs, .hq, .regs] :=
  keeps_trans (keeps_mono s.keeps_flrOrphan (by simp))
    (keeps_trans (keeps_mono (FlrKept.flrKeep s.flrOrphan).rest (by simp)) (keeps_mono (State.keeps_resetRegs ..) (by simp)))

/-- FLR on a device whose keystone runs. -/
theorem State.exec_flr (hk : s.dieUp dieK = true) : exec .flr s =
    .next ((s.flrCleared.setRf Reg.HQ_BAR4_WIN 16 6 36).setRf Reg.HQ_DEV_STATUS 0 2 2) := by
  have harm : exec .flr s = execFlr s := rfl
  rw [harm, execFlr, hk]
  rfl

/-- A register of the FLR domain reads as after reset. -/
theorem State.reg_flrCleared {off : Nat} (h : (regAt off).map (·.dom) = some .flr) : s.flrCleared.reg off = regReset off := by
  obtain ⟨d, hr, hd⟩ := Option.map_eq_some_iff.mp h
  exact State.reg_resetRegs_hit _ hr (by simpa using hd)

theorem State.flr_resets (hk : s.dieUp dieK = true) : ∃ t, exec .flr s = .next t ∧ (∀ q, q < 256 → t.sq q = .reset) ∧ t.hq.cqs = [] ∧
    t.hq.armed = [] ∧ t.hq.ide = [] ∧ t.hq.spdm = false ∧ t.reg Reg.HQ_Q_SEL = 0 ∧ t.reg (Reg.HQ_MBOXm_STATUS 5) = 0xFF ∧
    t.rf Reg.HQ_BAR4_WIN 16 6 = 36 ∧ t.rf Reg.HQ_DEV_STATUS 0 2 = 2 ∧ t.mem = s.mem ∧ t.cells = s.cells ∧ t.log = s.log ∧
    t.store = s.store := by
  obtain ⟨hsqs, hcqs, harmed, hide, hspdm⟩ : HqCleared s.flrCleared := (FlrKept.flrKeep s.flrOrphan).hq.of_hq rfl
  obtain ⟨hmem, hcells, hlog, hstore⟩ : s.flrCleared.mem = s.mem ∧ s.flrCleared.cells = s.cells ∧ s.flrCleared.log = s.log ∧
      s.flrCleared.store = s.store := by
    have hkeep := s.keeps_flrCleared
    simp only [keeps, List.mem_cons, List.not_mem_nil, reduceCtorEq, or_false, false_or] at hkeep
    simp only [hkeep, and_self]
  have hreg : ∀ off, off ≠ Reg.HQ_BAR4_WIN → off ≠ Reg.HQ_DEV_STATUS → (regAt off).map (·.dom) = some .flr →
      ((s.flrCleared.setRf Reg.HQ_BAR4_WIN 16 6 36).setRf Reg.HQ_DEV_STATUS 0 2 2).reg off = regReset off := fun off hbar hdev hdom => by
    rw [State.setRf, State.reg_setReg_ne _ _ _ _ hdev, State.setRf, State.reg_setReg_ne _ _ _ _ hbar, State.reg_flrCleared hdom]
  have hbar : ((s.flrCleared.setRf Reg.HQ_BAR4_WIN 16 6 36).setRf Reg.HQ_DEV_STATUS 0 2 2).rf Reg.HQ_BAR4_WIN 16 6 = 36 :=
    (State.rf_of_reg (State.reg_setReg_ne _ _ _ _ (by decide)) 16 6).trans (State.rf_setRf _ _ (by decide) 36)
  exact ⟨_, State.exec_flr hk, hsqs, hcqs, harmed, hide, hspdm,
    (hreg _ (by decide) (by decide) (by decide +kernel)).trans (by decide +kernel),
    (hreg _ (by decide) (by decide) (by decide +kernel)).trans (by decide +kernel), hbar, State.rf_setRf _ _ (by decide) 2,
    hmem, hcells, hlog, hstore⟩

end Sys2Proof.Machine
end

section
/-! PROOF. IDE streams, the SPDM session and the size of BAR4 (R464, R486, R487). -/

namespace Sys2Proof.Machine
set_option Elab.async false

variable {s : State}

/-- A stream that has no key. -/
def Ide.none : Ide := { state := 0, key := 0 }

/-- The state with an IDE stream put back. -/
def State.setIde (s : State) (stream : Nat) (x : Ide) : State := { s with hq := { s.hq with ide := tset Ide.none s.hq.ide stream x } }

/-- IDE_KM makes a stream Secure within an SPDM session (R486). -/
theorem exec_ideKm (stream key : Nat) : exec (.ideKm stream key) s =
    .next (if stream < 8 ∧ s.hq.spdm = true ∧ s.dieUp dieK = true then s.setIde stream { state := 1, key } else s) := by
  have harm : exec (.ideKm stream key) s = execIdeKm stream key s := rfl
  rw [harm, execIdeKm]
  simp only [Bool.and_eq_true, decide_eq_true_eq, and_assoc]
  rfl

/-- IDE_INTEGRITY_FAILURE makes a Secure stream Insecure, with a record (R487). -/
theorem exec_ideIntegrityFailure (stream : Nat) : exec (.ideIntegrityFailure stream) s =
    .next (if (tget Ide.none s.hq.ide stream).state = 1 ∧ s.dieUp dieK = true then
      (s.setIde stream { tget Ide.none s.hq.ide stream with state := 2 }).raiseErr 2 0x2B dieK stream none 0 else s) := by
  have harm : exec (.ideIntegrityFailure stream) s = execIdeIntegrityFailure stream s := rfl
  rw [harm, execIdeIntegrityFailure]
  simp only [Bool.and_eq_true, decide_eq_true_eq]
  rfl

/-- SPDM_KEY_EXCHANGE opens the session where the generator works (R486, R550). -/
theorem exec_spdmKeyExchange (hserved : s.spdmServed = true) (hrng : s.sec.rngFailed = false) : exec .spdmKeyExchange s =
    .next { s.takeFree 1 with hq := { s.hq with spdm := true } } := by
  have harm : exec .spdmKeyExchange s = execSpdmKeyExchange s := rfl
  rw [harm, execSpdmKeyExchange, hserved, hrng]
  rfl

/-- RESIZABLE_BAR_SIZE_WRITE sets a size from 30 to 40 (R464). -/
theorem exec_resizableBarSizeWrite (z : Nat) : exec (.resizableBarSizeWrite z) s =
    .next (if 30 ≤ z ∧ z ≤ 40 ∧ s.pwr.started = true ∧ s.pwr.fatal = false then s.setRf Reg.HQ_BAR4_WIN 16 6 z else s) := rfl

end Sys2Proof.Machine
end

section
/-! PROOF. The rows of O40 together. -/

namespace Sys2Proof.Machine
set_option Elab.async false

/-- Settles O40: an entry that runs has its type's effect, then leaves its queue with its completion; the other rows change what they name. -/
theorem hostEntryResults : Obligations.HostEntryResults := by
  refine ⟨fun q idx e s h => ?nop, fun q idx e data s h => ⟨?inUntiled, ?inSlot, ?inRefused, ?inFailed⟩,
    fun q idx e s h => ⟨?outUntiled, ?outTile⟩, fun q idx e raw s h hn => ⟨?weirWaits, ?weirFailed, ?weirQueued⟩,
    fun q idx e raw s h hide hpath hpos => ⟨?mgmtRead, ?mgmtNone, ?mgmtSent⟩, fun s hk => ?flr, fun stream key z s => ?_⟩
  case nop => exact State.nopEntry_completes h
  case inUntiled => exact fun hst hkind hstill => State.dmaIn_untiled h rfl rfl rfl hst hkind hstill
  case inSlot =>
    exact fun r hst hkind hslot hpos hfit hapart hk hstill => State.dmaIn_slot h rfl rfl rfl hst hkind hslot hpos rfl hfit hapart hk hstill
  case inRefused => exact fun hst => State.dmaIn_refused h rfl rfl rfl hst
  case inFailed => exact fun hst => State.dmaIn_hostFailed h rfl rfl rfl hst
  case outUntiled => exact fun hst hkind hbad hpos hcalm => State.dmaOut_untiled h rfl rfl rfl hst hkind hbad hpos hcalm
  case outTile =>
    exact fun r hst hkind hslot hpos hcalm hgood hok hfit =>
      State.dmaOut_tile h rfl rfl rfl hst hkind hslot hpos hcalm hgood rfl hok hfit
  case weirWaits => exact State.weirEntry_waits h rfl hn
  case weirFailed => exact State.weirEntry_hostFailed h rfl hn
  case weirQueued => exact State.weirEntry_delivers h rfl rfl hn
  case mgmtRead =>
    intro hloc hread hoff
    obtain ⟨-, hent, -⟩ := id h
    exact State.mgmtEntry_reads h rfl rfl rfl hide hpath hpos hloc hread rfl hoff (by rw [← State.sqDispatch_of_ent hent])
  case mgmtNone => exact State.mgmtEntry_noSubtype h rfl rfl rfl hide hpath hpos
  case mgmtSent => exact fun out hloc honly hway h0 h1 => State.mgmtEntry_tracked h rfl rfl rfl hide hpath hpos hloc honly hway h0 h1
  case flr => exact State.flr_resets hk
  refine ⟨fun hs hspdm hk => ?_, fun hspdm => ?_, fun hk hone => ?_, fun hne => ?_, exec_spdmKeyExchange,
    fun hlo hhi hstart hfatal => ?_, fun hz => ?_⟩
  · rw [exec_ideKm, if_pos ⟨hs, hspdm, hk⟩]; rfl
  · rw [exec_ideKm, if_neg (by simp [hspdm])]
  · rw [exec_ideIntegrityFailure, if_pos ⟨hone, hk⟩]; rfl
  · rw [exec_ideIntegrityFailure, if_neg fun h => hne h.1]
  · rw [exec_resizableBarSizeWrite, if_pos ⟨hlo, hhi, hstart, hfatal⟩]
  · rw [exec_resizableBarSizeWrite, if_neg (by omega)]

end Sys2Proof.Machine
end

section
/-! PROOF. Memory that changed within a part of it alone (R162, R168), and blocks with their trailers (R176, R182, R216). -/

namespace Sys2Proof.Machine
set_option Elab.async false

variable {s t u : State} {W V : Set Nat} {da n tda : Nat} {bs : List Byte}

/-- From s to t no byte outside W changed, and no unit became uncorrectable. -/
structure OnlyIn (s t : State) (W : Set Nat) : Prop where
  byte : ∀ d ∉ W, t.byte d = s.byte d
  bad : t.mem.bad ⊆ s.mem.bad

theorem onlyIn_of_mem (h : t.mem = s.mem) (W : Set Nat) : OnlyIn s t W := ⟨fun d _ => State.byte_of_mem h d, h ▸ List.Subset.refl _⟩

theorem OnlyIn.mono (h : OnlyIn s t W) (hsub : W ⊆ V) : OnlyIn s t V := ⟨fun d hd => h.byte d fun hw => hd (hsub hw), h.bad⟩

theorem OnlyIn.trans (h : OnlyIn s t W) (k : OnlyIn t u W) : OnlyIn s u W :=
  ⟨fun d hd => (k.byte d hd).trans (h.byte d hd), fun _ hx => h.bad (k.bad hx)⟩

theorem onlyIn_writeMem (s : State) (da : Nat) (bs : List Byte) : OnlyIn s (s.writeMem da bs) (Set.Ico da (da + bs.length)) := by
  refine ⟨fun d hd => s.byte_writeMem_out da bs d ?_, fun kv hkv => List.mem_of_mem_filter hkv⟩
  rw [Set.mem_Ico] at hd
  omega

/-- What a fold of changes within W changes. -/
theorem onlyIn_foldl {α : Type} {f : State → α → State} {xs : List α} (hf : ∀ s, ∀ x ∈ xs, OnlyIn s (f s x) W) (s : State) :
    OnlyIn s (xs.foldl f s) W := by
  induction xs generalizing s with
  | nil => exact onlyIn_of_mem rfl W
  | cons x xs ih => exact (hf s x (by simp)).trans (ih (fun s y hy => hf s y (by simp [hy])) _)

/-- A range without a poisoned unit has none in a part of it. -/
theorem State.poisonRange_part {lo len : Nat} (h : s.poisonRange da n = false) (hlo : da ≤ lo) (hhi : lo + len ≤ da + n) :
    s.poisonRange lo len = false := by
  simp only [State.poisonRange, List.any_eq_false, Bool.and_eq_true, decide_eq_true_eq, not_and] at h ⊢
  exact fun kv hkv hset hlast => h kv hkv ⟨hset.1, by have := hset.2; omega⟩ (by omega)

/-! ### What reads as before -/

section
variable (h : OnlyIn s t W) (hd : ∀ d, da ≤ d → d < da + n → d ∉ W)
include h

theorem OnlyIn.poisonRange (hclean : s.poisonRange da n = false) : t.poisonRange da n = false := by
  rw [State.poisonRange, List.any_eq_false] at hclean ⊢
  exact fun kv hkv => hclean kv (h.bad hkv)

include hd in
theorem OnlyIn.readMem : t.readMem da n = s.readMem da n :=
  List.map_congr_left fun i hi => h.byte _ (hd _ (by omega) (by have := List.mem_range.mp hi; omega))

theorem OnlyIn.trailer (ht : ∀ d, tda ≤ d → d < tda + 8 → d ∉ W) : t.trailer tda = s.trailer tda := by
  simp only [State.trailer, h.readMem ht]

include hd in
/-- A block that passes its check passes it where neither it nor its trailer was written. -/
theorem OnlyIn.blkOk (ht : ∀ d, tda ≤ d → d < tda + 8 → d ∉ W) (hok : s.blkOk da n tda = true) : t.blkOk da n tda = true := by
  simp only [State.blkOk, Bool.and_eq_true, Bool.not_eq_true', h.readMem hd, h.trailer ht] at hok ⊢
  obtain ⟨hcheck, htrl⟩ := hok
  exact ⟨⟨hcheck.1, h.poisonRange hcheck.2⟩, h.poisonRange htrl⟩

end

/-! ### A block stored -/

theorem onlyIn_blkPut (s : State) (hlen : bs.length = n) (epoch fmt : Nat) (poison : Bool) :
    OnlyIn s (s.blkPut da bs tda epoch fmt poison) (Set.Ico da (da + n) ∪ Set.Ico tda (tda + 8)) := by
  subst hlen
  refine ((onlyIn_writeMem s da bs).mono Set.subset_union_left).trans ((onlyIn_writeMem _ tda _).mono ?_)
  rw [Trailer.length_toBytes]
  exact Set.subset_union_right

theorem keeps_blkPut (s : State) (da : Nat) (bs : List Byte) (tda epoch fmt : Nat) (poison : Bool) :
    keeps s (s.blkPut da bs tda epoch fmt poison) [.mem] := keeps_trans (keeps_writeMem ..) (keeps_writeMem ..)

theorem State.readMem_blkPut (s : State) (hlen : bs.length = n) (hapart : da + n ≤ tda ∨ tda + 8 ≤ da) (epoch fmt : Nat) (poison : Bool) :
    (s.blkPut da bs tda epoch fmt poison).readMem da n = bs := by
  rw [State.blkPut, State.readMem_writeMem_out _ _ _ _ _ (by rwa [Trailer.length_toBytes]), ← hlen, State.readMem_writeMem]

theorem State.trailer_blkPut (s : State) (da : Nat) (bs : List Byte) (tda epoch fmt : Nat) (poison : Bool) :
    (s.blkPut da bs tda epoch fmt poison).readMem tda 8 = (mkTrailer bs epoch fmt poison false).toBytes := by
  have hread := (s.writeMem da bs).readMem_writeMem tda (mkTrailer bs epoch fmt poison false).toBytes
  rwa [Trailer.length_toBytes] at hread

/-- A block just stored unpoisoned over clean memory passes its check. -/
theorem State.blkOk_blkPut (s : State) (hlen : bs.length = n) (hapart : da + n ≤ tda ∨ tda + 8 ≤ da) (epoch fmt : Nat)
    (hclean : s.poisonRange da n = false) (htclean : s.poisonRange tda 8 = false) :
    (s.blkPut da bs tda epoch fmt false).blkOk da n tda = true := by
  have honly := onlyIn_blkPut s (da := da) (tda := tda) hlen epoch fmt false
  have hcrc : (crc32c bs).toNat % 2 ^ 32 = (crc32c bs).toNat := Nat.mod_eq_of_lt (crc32c bs).isLt
  simp only [State.blkOk, s.readMem_blkPut hlen hapart, State.trailer_of_readMem (s.trailer_blkPut da bs tda epoch fmt false),
    honly.poisonRange hclean, honly.poisonRange htclean, mkTrailer, hcrc, Trailer.valid, Trailer.poison]
  simp

end Sys2Proof.Machine
end

section
/-! PROOF. The blocks of a page: where they lie in its frame, its header, and its summary (R215 to R218). -/

namespace Sys2Proof.Machine
set_option Elab.async false

variable {s t : State} {a : PageAt} {W : Set Nat}

/-! ### The frame (R215, R216) -/

theorem PageAt.trl_eq (a : PageAt) (b : Nat) : a.trl b = a.blk 5 + 32 + 8 * b := by
  cases hm : a.mxFrame <;> simp [PageAt.trl, PageAt.blk, hm, Nat.add_assoc]

theorem PageAt.sketch_end (a : PageAt) : a.blk 4 + 2048 = a.blk 5 := by
  cases hm : a.mxFrame <;> simp [PageAt.blk, hm, Nat.add_assoc]

theorem PageAt.frame_le_sketch (a : PageAt) : a.frame ≤ a.blk 4 := Nat.le_add_right ..

/-- A tile of 4,096 bytes lies before the header, in frames of either kind. -/
theorem PageAt.tile_before_header (a : PageAt) {b : Nat} (hb : b < 4) : a.frame ≤ a.blk b ∧ a.blk b + 4096 ≤ a.blk 5 := by
  refine ⟨Nat.le_add_right .., ?_⟩
  obtain rfl | rfl | rfl | rfl : b = 0 ∨ b = 1 ∨ b = 2 ∨ b = 3 := by omega
  all_goals cases hm : a.mxFrame <;> simp [PageAt.blk, hm, Nat.add_assoc]

/-- The header and the trailers end within the frame. -/
theorem State.pageAt_frame (s : State) (n : Nat) (x : Slot) (h p : Nat) :
    (s.pageAt n x h p).blk 5 + 80 ≤ (s.pageAt n x h p).frame + x.frame := by
  have hmx : (s.pageAt n x h p).mxFrame = x.mx := rfl
  cases hm : x.mx <;> simp [PageAt.blk, Slot.frame, hmx, hm, Nat.add_assoc]

/-- A summary lies within its block. -/
theorem State.pageAt_sOff (s : State) (n : Nat) (x : Slot) (h p : Nat) : (s.pageAt n x h p).sOff + 32 ≤ 2048 := by
  have hoff : (s.pageAt n x h p).sOff = p / 16 % 64 * 32 := rfl
  omega

/-! ### The header (R217) -/

/-- Each field fits its place. -/
def PHdr.Fits (h : PHdr) : Prop := h.present < 256 ^ 8 ∧ h.page < 256 ^ 4 ∧ h.fmt < 256 ^ 1 ∧ h.flags < 256 ^ 1

theorem bfld_lt (b : List Byte) (lo n : Nat) : bfld b lo n < 256 ^ n :=
  (ofBytesLE_lt _).trans_le (Nat.pow_le_pow_right (by decide) (List.length_take_le _ _))

theorem State.phdr_fits (s : State) (a : PageAt) : (s.phdr a).Fits := ⟨bfld_lt .., bfld_lt .., bfld_lt .., bfld_lt ..⟩

@[simp] theorem PHdr.length_toBytes (h : PHdr) : h.toBytes.length = 32 := by simp [PHdr.toBytes, zeros]

/-- The front of a field just written reads as written. -/
theorem bfld_toBytesLE_front (n x : Nat) (l : List Byte) : bfld (toBytesLE n x ++ l) 0 n = x % 256 ^ n := by
  rw [Tests.bfld_append _ _ _ _ (by simp), bfld, List.drop_zero, List.take_of_length_le (by simp), ofBytesLE_toBytesLE]

/-- A header reads as the bytes that its block holds. -/
theorem State.phdr_of_readMem {h : PHdr} (hread : t.readMem (a.blk 5) 32 = h.toBytes) (hfits : h.Fits) : t.phdr a = h := by
  obtain ⟨hpresent, hpage, hfmt, hflags⟩ := hfits
  have h0 : bfld h.toBytes 0 8 = h.present := by
    simp only [PHdr.toBytes, List.append_assoc]
    rw [bfld_toBytesLE_front, Nat.mod_eq_of_lt hpresent]
  have h8 : bfld h.toBytes 8 4 = h.page := by
    simp only [PHdr.toBytes, List.append_assoc]
    rw [bfld_append_right _ _ (m := 0) (by simp), bfld_toBytesLE_front, Nat.mod_eq_of_lt hpage]
  have h12 : bfld h.toBytes 12 1 = h.fmt := by
    simp only [PHdr.toBytes, List.append_assoc]
    rw [bfld_append_right _ _ (m := 4) (by simp), bfld_append_right _ _ (m := 0) (by simp), bfld_toBytesLE_front, Nat.mod_eq_of_lt hfmt]
  have h13 : bfld h.toBytes 13 1 = h.flags := by
    simp only [PHdr.toBytes, List.append_assoc]
    rw [bfld_append_right _ _ (m := 5) (by simp), bfld_append_right _ _ (m := 1) (by simp), bfld_append_right _ _ (m := 0) (by simp),
      bfld_toBytesLE_front, Nat.mod_eq_of_lt hflags]
  simp only [State.phdr, hread, h0, h8, h12, h13]

theorem OnlyIn.phdr (h : OnlyIn s t W) (hd : ∀ d, a.blk 5 ≤ d → d < a.blk 5 + 32 → d ∉ W) : t.phdr a = s.phdr a := by
  simp only [State.phdr, h.readMem hd]

theorem State.phdr_putHdr (s : State) {h : PHdr} (hfits : h.Fits) (epoch : Nat) (poison : Bool) : (s.putHdr a h epoch poison).phdr a = h :=
  State.phdr_of_readMem (s.readMem_blkPut h.length_toBytes (by rw [a.trl_eq]; omega) epoch 0 poison) hfits

/-- A header and its trailer are the last 80 bytes of the blocks of a frame. -/
theorem onlyIn_putHdr (s : State) (a : PageAt) (h : PHdr) (epoch : Nat) (poison : Bool) :
    OnlyIn s (s.putHdr a h epoch poison) (Set.Ico (a.blk 5) (a.blk 5 + 32) ∪ Set.Ico (a.trl 5) (a.trl 5 + 8)) :=
  onlyIn_blkPut s h.length_toBytes ..

theorem keeps_putHdr (s : State) (a : PageAt) (h : PHdr) (epoch : Nat) (poison : Bool) : keeps s (s.putHdr a h epoch poison) [.mem] :=
  keeps_blkPut ..

/-! ### The summary (R218) -/

@[simp] theorem length_summaryOf (sk : List Byte) (present : Nat) : (summaryOf sk present).length = 32 := by simp [summaryOf]

/-- A part of a list replaced by one of its own length. -/
theorem length_replaced {α : Type} {b x : List α} {lo k n : Nat} (hb : b.length = n) (hx : x.length = k) (h : lo + k ≤ n) :
    (b.take lo ++ x ++ b.drop (lo + k)).length = n := by simp; omega

theorem take_drop_replaced {α : Type} {b x : List α} {lo k n : Nat} (hb : b.length = n) (hx : x.length = k) (h : lo + k ≤ n) :
    ((b.take lo ++ x ++ b.drop (lo + k)).drop lo).take k = x := by
  have hlo : (b.take lo).length = lo := by simp; omega
  rw [List.append_assoc, List.drop_append_of_le_length hlo.ge, List.drop_of_length_le hlo.le, List.nil_append, ← hx, List.take_left]

/-- A summary block with one summary replaced. -/
def PageAt.withSummary (a : PageAt) (b sum : List Byte) : List Byte := b.take a.sOff ++ sum ++ b.drop (a.sOff + 32)

section
variable {sum : List Byte} (hclean : s.poisonRange a.sblk 2048 = false) (epoch : Nat)
include hclean

/-- Over a clean summary block, a summary is one store of that block. -/
theorem State.putSummary_eq : s.putSummary a epoch sum =
    (s.blkPut a.sblk (a.withSummary (s.readMem a.sblk 2048) sum) a.strl epoch 0 (!s.blkOk a.sblk 2048 a.strl), s.blkOk a.sblk 2048 a.strl) := by
  rw [State.putSummary, State.eccRead_clean hclean]
  rfl

theorem keeps_putSummary : keeps s (s.putSummary a epoch sum).1 [.mem] := by
  rw [State.putSummary_eq hclean]
  exact keeps_blkPut ..

variable (hsum : sum.length = 32) (hoff : a.sOff + 32 ≤ 2048)
include hsum hoff

theorem onlyIn_putSummary : OnlyIn s (s.putSummary a epoch sum).1 (Set.Ico a.sblk (a.sblk + 2048) ∪ Set.Ico a.strl (a.strl + 8)) := by
  rw [State.putSummary_eq hclean]
  exact onlyIn_blkPut s (length_replaced (State.length_readMem ..) hsum hoff) ..

theorem State.readMem_putSummary (hapart : a.sblk + 2048 ≤ a.strl) : (s.putSummary a epoch sum).1.readMem (a.sblk + a.sOff) 32 = sum := by
  have hblock := s.readMem_blkPut (tda := a.strl) (length_replaced (State.length_readMem s a.sblk 2048) hsum hoff) (.inl hapart) epoch 0
    (!s.blkOk a.sblk 2048 a.strl)
  rw [State.putSummary_eq hclean, ← State.drop_take_readMem _ a.sblk hoff, PageAt.withSummary, hblock,
    take_drop_replaced (State.length_readMem ..) hsum hoff]

end

/-- A page whose sketches are to be read, and pass their check, or that has none: its summary is recomputed (R218, R231). -/
theorem State.summarize_eq {present : Nat} (hok : present = 0 ∨ s.blkOk (a.blk 4) 2048 (a.trl 4) = true) (epoch : Nat) :
    s.summarize a epoch present = ((s.putSummary a epoch (summaryOf (s.readMem (a.blk 4) 2048) present)).1,
      (!(s.putSummary a epoch (summaryOf (s.readMem (a.blk 4) 2048) present)).2).toNat) := by
  rw [State.summarize, if_neg (by simpa [or_iff_not_imp_left] using hok)]

end Sys2Proof.Machine
end

section
/-! PROOF. A running command of a Weir: which block it is, when it is stale, and what its end changes (R73, R205, R238). -/

namespace Sys2Proof.Machine
set_option Elab.async false

variable {s t : State} {n id op st bad : Nat} {mode : Option Nat} {k : WBlk}

@[simp] theorem State.weir_setWeir (s : State) (n : Nat) (w : Weir) : (s.setWeir n w).weir n = w := tget_tset_self ..

theorem State.weir_setWeir_ne (s : State) {n j : Nat} (w : Weir) (h : j ≠ n) : (s.setWeir n w).weir j = s.weir j := tget_tset_ne _ _ _ _ _ _ h

theorem State.weir_of_weirs (h : t.weirs = s.weirs) (n : Nat) : t.weir n = s.weir n := by rw [State.weir, h, State.weir]

theorem keeps_setWeir (s : State) (n : Nat) (w : Weir) : keeps s (s.setWeir n w) [.weirs] := by simp [keeps]

theorem State.wslot_setWeir_ne (s : State) {n j : Nat} (w : Weir) (h : j ≠ n) (k : Nat) : (s.setWeir n w).wslot j k = s.wslot j k := by
  rw [State.wslot, s.weir_setWeir_ne w h, State.wslot]

/-! ### What runs -/

theorem State.wbAct_runs (h : s.wbAct n id op mode = some k) : k.id = id ∧ ∃ y ∈ (s.weir n).running, y.blk = k := by
  unfold State.wbAct at h
  split at h
  · obtain ⟨y, hy, rfl⟩ := Option.map_eq_some_iff.mp h
    have hcond := List.find?_some hy
    simp only [Bool.and_eq_true, beq_iff_eq] at hcond
    exact ⟨hcond.1.1.1, y, List.mem_of_find?_eq_some hy, rfl⟩
  · cases h

theorem State.wbStale_stale (h : s.plcOk k.workUnit k.epoch = false) (n : Nat) : s.wbStale n k = some (s.discard.wbDone n k.id 2 0) := by
  simp [State.wbStale, h]

theorem State.wbStale_live (h : s.plcOk k.workUnit k.epoch = true) (n : Nat) : s.wbStale n k = none := by simp [State.wbStale, h]

/-! ### The end of a command -/

/-- A Weir in which command id is over with a status. -/
def Weir.ended (w : Weir) (id st : Nat) : Weir :=
  { w with running := w.running.map fun y => if y.blk.id = id then { y with done := some st } else y }

/-- A command that runs is over afterwards. -/
theorem Weir.done_ended {w : Weir} (hid : k.id = id) (h : ∃ y ∈ w.running, y.blk = k) (st : Nat) :
    ∃ y ∈ (w.ended id st).running, y.blk = k ∧ y.done = some st := by
  obtain ⟨y, hy, rfl⟩ := h
  exact ⟨{ y with done := some st }, List.mem_map.mpr ⟨y, hy, if_pos hid⟩, rfl, rfl⟩

@[simp] theorem State.wbDone_mem (s : State) (n id st bad : Nat) : (s.wbDone n id st bad).mem = s.mem := by
  simp only [State.wbDone, State.settle_mem, State.setWeir_mem]
  split <;> simp

/-- Where no block failed its check, the registers stay. -/
@[simp] theorem State.wbDone_regs_good (s : State) (n id st : Nat) : (s.wbDone n id st 0).regs = s.regs := by
  simp only [State.wbDone, State.settle_regs, State.setWeir_regs, if_true]

/-- The failed blocks counted. -/
def State.badCounted (s : State) (n bad : Nat) : State := if bad = 0 then s else s.countCheck (4 + n) bad

theorem State.badCounted_weirs (s : State) (n bad : Nat) : (s.badCounted n bad).weirs = s.weirs := by
  unfold State.badCounted; split <;> simp

theorem State.wbDone_weirs (s : State) (n id st bad : Nat) :
    (s.wbDone n id st bad).weirs = ((s.badCounted n bad).setWeir n (((s.badCounted n bad).weir n).ended id st)).weirs := State.settle_weirs _

theorem State.weir_wbDone (s : State) (n id st bad : Nat) : (s.wbDone n id st bad).weir n = (s.weir n).ended id st := by
  rw [State.weir_of_weirs (s.wbDone_weirs n id st bad), State.weir_setWeir, State.weir_of_weirs (s.badCounted_weirs n bad)]

theorem State.weir_wbDone_ne (s : State) {n j : Nat} (h : j ≠ n) (id st bad : Nat) : (s.wbDone n id st bad).weir j = s.weir j := by
  rw [State.weir_of_weirs (s.wbDone_weirs n id st bad), State.weir_setWeir_ne _ _ h, State.weir_of_weirs (s.badCounted_weirs n bad)]

/-- The Weirs' copies of the slots and their lengths stay at a command's end. -/
theorem State.slots_wbDone (s : State) (n id st bad j : Nat) :
    ((s.wbDone n id st bad).weir j).slots = (s.weir j).slots ∧ ((s.wbDone n id st bad).weir j).lens = (s.weir j).lens := by
  by_cases h : j = n
  · subst h; rw [State.weir_wbDone]; exact ⟨rfl, rfl⟩
  · rw [State.weir_wbDone_ne _ h]; exact ⟨rfl, rfl⟩

theorem State.wslot_wbDone (s : State) (n id st bad j k : Nat) : (s.wbDone n id st bad).wslot j k = s.wslot j k := by
  rw [State.wslot, (s.slots_wbDone n id st bad j).1, State.wslot]

theorem State.done_wbDone (hid : k.id = id) (h : ∃ y ∈ (t.weir n).running, y.blk = k) (st bad : Nat) :
    ∃ y ∈ ((t.wbDone n id st bad).weir n).running, y.blk = k ∧ y.done = some st := by
  rw [State.weir_wbDone]
  exact Weir.done_ended hid h st

/-- Without a clash, a command's end changes its Weir, and the count of failed blocks. -/
theorem State.wbDone_eq (h : s.clash = []) (n id st bad : Nat) :
    s.wbDone n id st bad = (s.badCounted n bad).setWeir n (((s.badCounted n bad).weir n).ended id st) := by
  refine State.settle_nil _ ?_
  rw [State.setWeir_clash]
  split <;> simp [h]

theorem keeps_wbDone_good (h : s.clash = []) (n id st : Nat) : keeps s (s.wbDone n id st 0) [.weirs] := by
  rw [State.wbDone_eq h]
  exact keeps_setWeir ..

theorem keeps_wbDone (h : s.clash = []) (n id st bad : Nat) : keeps s (s.wbDone n id st bad) [.weirs, .regs] := by
  rw [State.wbDone_eq h]
  refine keeps_trans (t := s.badCounted n bad) ?_ (keeps_mono (keeps_setWeir ..) (by simp))
  unfold State.badCounted
  split
  · exact keeps_refl ..
  · simp [keeps]

theorem clash_of_keeps {l : List SPart} (h : keeps s t l) (hno : SPart.clash ∉ l) : t.clash = s.clash := by simp_all [keeps]

theorem weirs_of_keeps {l : List SPart} (h : keeps s t l) (hno : SPart.weirs ∉ l) : t.weirs = s.weirs := by simp_all [keeps]

theorem mem_of_keeps {l : List SPart} (h : keeps s t l) (hno : SPart.mem ∉ l) : t.mem = s.mem := by simp_all [keeps]

theorem regs_of_keeps {l : List SPart} (h : keeps s t l) (hno : SPart.regs ∉ l) : t.regs = s.regs := by simp_all [keeps]

end Sys2Proof.Machine
end

section
/-! PROOF. What the slot commands do to one page: REQUANT, DROP and UNDROP, TRUNCATE, RECOMPUTE, INSTALL (R218, R229 to R231, R238). -/

namespace Sys2Proof.Machine
set_option Elab.async false

variable {s t : State} {n h p : Nat} {x : Slot} {a : PageAt}

/-- A block that passes its check is clean. -/
theorem State.poisonRange_of_blkOk {da len tda : Nat} (hok : s.blkOk da len tda = true) : s.poisonRange da len = false := by
  simp only [State.blkOk, Bool.and_eq_true, Bool.not_eq_true'] at hok
  exact hok.1.2

/-! ### Edits of a header (R230, R238) -/

/-- A page with its header edited: stored where the edit changes it. -/
def State.hdrEdited (s : State) (a : PageAt) (epoch : Nat) (f : PHdr → PHdr) : State :=
  if f (s.phdr a) = s.phdr a then s else s.putHdr a (f (s.phdr a)) epoch false

theorem State.phdr_hdrEdited {f : PHdr → PHdr} (hfits : (f (s.phdr a)).Fits) (epoch : Nat) :
    (s.hdrEdited a epoch f).phdr a = f (s.phdr a) := by
  rw [State.hdrEdited]
  split_ifs with hsame
  · exact hsame.symm
  · exact s.phdr_putHdr hfits epoch false

theorem onlyIn_hdrEdited (s : State) (a : PageAt) (epoch : Nat) (f : PHdr → PHdr) :
    OnlyIn s (s.hdrEdited a epoch f) (Set.Ico (a.blk 5) (a.blk 5 + 80)) := by
  rw [State.hdrEdited]
  split_ifs
  · exact onlyIn_of_mem rfl _
  · refine (onlyIn_putHdr s a _ epoch false).mono fun d hd => ?_
    simp only [a.trl_eq, Set.mem_union, Set.mem_Ico] at hd ⊢
    omega

theorem keeps_hdrEdited (s : State) (a : PageAt) (epoch : Nat) (f : PHdr → PHdr) : keeps s (s.hdrEdited a epoch f) [.mem] := by
  rw [State.hdrEdited]
  split_ifs
  · exact keeps_refl ..
  · exact keeps_putHdr ..

/-- A header that passes its check is edited, and the summary follows where it is to. -/
theorem State.editHdr_ok {re : Bool} {f : PHdr → PHdr} (ha : s.pageAt n x h p = a) (hok : s.blkOk (a.blk 5) 32 (a.trl 5) = true) :
    s.editHdr n x h p re f = if re = true ∧ f (s.phdr a) ≠ s.phdr a then
      (s.hdrEdited a x.epoch f).summarize a x.epoch (f (s.phdr a)).present else (s.hdrEdited a x.epoch f, 0) := by
  subst ha
  rw [State.editHdr]
  simp only [hok, State.eccRead_clean (State.poisonRange_of_blkOk hok), State.hdrEdited]
  by_cases hsame : f (s.phdr (s.pageAt n x h p)) = s.phdr (s.pageAt n x h p)
  · simp [hsame]
  · cases re <;> simp [hsame]

/-! ### Summaries (R218, R231) -/

section
variable (hclean : s.poisonRange a.sblk 2048 = false) (hoff : a.sOff + 32 ≤ 2048) (epoch present : Nat)
include hclean hoff

/-- A summary recomputed changes its own block at most. -/
theorem onlyIn_summarize : OnlyIn s (s.summarize a epoch present).1 (Set.Ico a.sblk (a.sblk + 2048) ∪ Set.Ico a.strl (a.strl + 8)) := by
  by_cases hread : present = 0 ∨ s.blkOk (a.blk 4) 2048 (a.trl 4) = true
  · rw [State.summarize_eq hread]
    exact onlyIn_putSummary hclean epoch (length_summaryOf ..) hoff
  · rw [State.summarize, if_pos (by simpa [not_or] using hread)]
    exact onlyIn_of_mem (State.eccRead_mem ..) _

theorem onlyIn_recompute (ha : s.pageAt n x h p = a) :
    OnlyIn s (s.recompute n x h p).1 (Set.Ico a.sblk (a.sblk + 2048) ∪ Set.Ico a.strl (a.strl + 8)) := by
  subst ha
  rw [State.recompute]
  split_ifs
  · exact onlyIn_of_mem (State.eccRead_mem ..) _
  · exact onlyIn_summarize hclean hoff _ _

end

theorem State.putSummary_weirs (s : State) (a : PageAt) (epoch : Nat) (sum : List Byte) : (s.putSummary a epoch sum).1.weirs = s.weirs := by
  simp [State.putSummary, State.blkPut]

theorem State.summarize_weirs (s : State) (a : PageAt) (epoch present : Nat) : (s.summarize a epoch present).1.weirs = s.weirs := by
  rw [State.summarize]
  split_ifs
  · exact State.eccRead_weirs ..
  · exact State.putSummary_weirs ..

theorem State.recompute_weirs (s : State) (n : Nat) (x : Slot) (h p : Nat) : (s.recompute n x h p).1.weirs = s.weirs := by
  rw [State.recompute]
  split_ifs
  · exact State.eccRead_weirs ..
  · exact State.summarize_weirs ..

/-- With header, sketches and summary block passing their checks, the summary is the majority of the present sketches. -/
theorem State.recompute_ok (ha : s.pageAt n x h p = a) (hhdr : s.blkOk (a.blk 5) 32 (a.trl 5) = true)
    (hsk : s.blkOk (a.blk 4) 2048 (a.trl 4) = true) (hsum : s.blkOk a.sblk 2048 a.strl = true) :
    s.recompute n x h p = ((s.putSummary a x.epoch (summaryOf (s.readMem (a.blk 4) 2048) (s.phdr a).present)).1, 0) := by
  subst ha
  rw [State.recompute]
  rw [if_neg (by simp [hhdr]), State.summarize_eq (.inr hsk), State.putSummary_eq (State.poisonRange_of_blkOk hsum)]
  simp [hsum]

/-- Where its header passes its check, a page edited has the edited header, whatever becomes of its summary behind the frame. -/
theorem State.editHdr_phdr {re : Bool} {f : PHdr → PHdr} (ha : s.pageAt n x h p = a) (hok : s.blkOk (a.blk 5) 32 (a.trl 5) = true)
    (hfits : (f (s.phdr a)).Fits) (hsum : s.poisonRange a.sblk 2048 = false) (hend : a.blk 5 + 32 ≤ a.sblk) (hstrl : a.sblk ≤ a.strl) :
    (s.editHdr n x h p re f).1.phdr a = f (s.phdr a) ∧ (s.editHdr n x h p re f).1.weirs = s.weirs := by
  have hoff := s.pageAt_sOff n x h p
  rw [ha] at hoff
  have hweirs : (s.hdrEdited a x.epoch f).weirs = s.weirs := weirs_of_keeps (keeps_hdrEdited ..) (by simp)
  rw [State.editHdr_ok ha hok, ← State.phdr_hdrEdited hfits x.epoch, ← hweirs]
  split_ifs
  · refine ⟨(onlyIn_summarize ((onlyIn_hdrEdited s a x.epoch f).poisonRange hsum) hoff _ _).phdr fun d hlo hhi => ?_, State.summarize_weirs ..⟩
    simp only [Set.mem_union, Set.mem_Ico]; omega
  · exact ⟨rfl, rfl⟩

/-- The page with a payload's sketches stored. -/
def State.sketchesPut (s : State) (a : PageAt) (epoch : Nat) (sk : List Byte) : State := s.blkPut (a.blk 4) sk (a.trl 4) epoch 0 false

section
variable {sk : List Byte} (hsk : sk.length = 2048) (epoch : Nat)
include hsk

/-- Sketches stored change their own block and its trailer, and read as stored. -/
theorem State.sketchesPut_spec (s : State) (a : PageAt) : OnlyIn s (s.sketchesPut a epoch sk)
      (Set.Ico (a.blk 4) (a.blk 5) ∪ Set.Ico (a.blk 5 + 64) (a.blk 5 + 72)) ∧ (s.sketchesPut a epoch sk).readMem (a.blk 4) 2048 = sk := by
  have hend := a.sketch_end
  refine ⟨(onlyIn_blkPut s hsk epoch 0 false).mono fun d hd => ?_, s.readMem_blkPut hsk (.inl (by rw [a.trl_eq]; omega)) epoch 0 false⟩
  simp only [a.trl_eq, Set.mem_union, Set.mem_Ico] at hd ⊢
  omega

/-- Once sketches are stored in a clean frame, the page's summary can be recomputed. -/
theorem State.recompute_sketchesPut (ha : s.pageAt n x h p = a) (hhdr : s.blkOk (a.blk 5) 32 (a.trl 5) = true)
    (hsum : s.blkOk a.sblk 2048 a.strl = true) (hgood : s.poisonRange a.frame x.frame = false) (hend : a.frame + x.frame ≤ a.sblk)
    (hstrl : a.sblk + 2048 ≤ a.strl) : ((s.sketchesPut a epoch sk).recompute n x h p).2 = 0 := by
  obtain ⟨honly, -⟩ := s.sketchesPut_spec hsk epoch a
  have hframe := s.pageAt_frame n x h p
  rw [ha] at hframe
  have hsketch := a.sketch_end
  have hfr := a.frame_le_sketch
  have hput : (s.sketchesPut a epoch sk).blkOk (a.blk 4) 2048 (a.trl 4) = true :=
    s.blkOk_blkPut hsk (.inl (by rw [a.trl_eq]; omega)) epoch 0 (State.poisonRange_part hgood hfr (by omega))
      (State.poisonRange_part hgood (by rw [a.trl_eq]; omega) (by rw [a.trl_eq]; omega))
  rw [State.recompute_ok (s := s.sketchesPut a epoch sk) ha (honly.blkOk (fun d hlo hhi => ?_) (fun d hlo hhi => ?_) hhdr) hput
    (honly.blkOk (fun d hlo hhi => ?_) (fun d hlo hhi => ?_) hsum)]
  · simp only [Set.mem_union, Set.mem_Ico]; omega
  · rw [a.trl_eq] at hlo hhi
    simp only [Set.mem_union, Set.mem_Ico]
    omega
  · simp only [Set.mem_union, Set.mem_Ico]; omega
  · simp only [Set.mem_union, Set.mem_Ico]; omega

end

/-! ### Converting a page (R229) -/

theorem length_packElems_four : ∀ xs : List Nat, (packElems 4 xs).length = (xs.length + 1) / 2
  | [] => rfl
  | [x] => by simp [packElems]
  | x :: y :: xs => by
    simp only [packElems, if_true, List.length_cons, length_packElems_four xs]
    omega

theorem length_encBlock {f : Fmt} {rnd : Nat} {vs : List FV} {ds : List Nat} (hlen : ds.length = vs.length) :
    (encBlock f rnd vs ds).1.length = vs.length := by
  unfold encBlock
  split_ifs
  · split <;> simp [hlen]
  · simp [hlen]

theorem length_requantTile (bs : List Byte) : (requantTile bs).length = 2176 := by
  obtain ⟨f, hf⟩ : ∃ f, fmtOf 4 = some f := ⟨_, rfl⟩
  obtain ⟨g, hg⟩ : ∃ g, fmtOf 8 = some g := ⟨_, rfl⟩
  have hrow : ∀ i, (encBlock g 0 ((List.range 32).map fun j => f.value bs (i / 2) (i % 2 * 32 + j)) (List.replicate 32 0)).1.length = 32 :=
    fun i => by rw [length_encBlock (by simp)]; simp
  simp only [requantTile, hf, hg, List.length_append, length_packElems_four, List.length_flatMap, List.map_map, List.length_map,
    List.length_range, Function.comp_def, hrow, List.map_const', List.sum_replicate, smul_eq_mul]

/-- The state with tile b of a page converted. -/
def State.tileConverted (a : PageAt) (epoch : Nat) (s : State) (b : Nat) : State :=
  s.blkPut (a.blk b) (requantTile (s.readMem (a.blk b) 4096)) (a.trl b) epoch 8 false

theorem PageAt.blk_tile (hmx : a.mxFrame = false) {b : Nat} (hb : b < 4) : a.blk b = a.frame + 4096 * b := by
  obtain rfl | rfl | rfl | rfl : b = 0 ∨ b = 1 ∨ b = 2 ∨ b = 3 := by omega
  all_goals simp [PageAt.blk, hmx]

/-- The first m tiles converted: each reads as converted, and nothing behind them changed but trailers. -/
theorem tilesConverted_spec (s : State) (hmx : a.mxFrame = false) (epoch : Nat) {m : Nat} (hm : m ≤ 4) :
    OnlyIn s ((List.range m).foldl (State.tileConverted a epoch) s)
        (Set.Ico a.frame (a.frame + 4096 * m) ∪ Set.Ico (a.blk 5 + 32) (a.blk 5 + 80)) ∧
      ∀ b, b < m → ((List.range m).foldl (State.tileConverted a epoch) s).readMem (a.blk b) 2176 = requantTile (s.readMem (a.blk b) 4096) := by
  induction m with
  | zero => exact ⟨onlyIn_of_mem rfl _, fun b hb => absurd hb (Nat.not_lt_zero b)⟩
  | succ m ih =>
    obtain ⟨honly, htiles⟩ := ih (by omega)
    have hblk := a.blk_tile hmx (b := m) (by omega)
    have hend := (a.tile_before_header (b := 3) (by omega)).2
    rw [a.blk_tile hmx (by omega)] at hend
    rw [List.range_succ, List.foldl_append, List.foldl_cons, List.foldl_nil]
    generalize (List.range m).foldl (State.tileConverted a epoch) s = u at honly htiles
    have hstep := onlyIn_blkPut (da := a.blk m) (tda := a.trl m) u (length_requantTile (u.readMem (a.blk m) 4096)) epoch 8 false
    have hread : u.readMem (a.blk m) 4096 = s.readMem (a.blk m) 4096 := honly.readMem fun d hlo hhi => by
      simp only [Set.mem_union, Set.mem_Ico]; omega
    refine ⟨(honly.mono fun d hd => ?_).trans (hstep.mono fun d hd => ?_), fun b hb => ?_⟩
    · simp only [Set.mem_union, Set.mem_Ico] at hd ⊢; omega
    · simp only [a.trl_eq, Set.mem_union, Set.mem_Ico] at hd ⊢; omega
    · by_cases hlast : b = m
      · subst hlast
        rw [State.tileConverted, u.readMem_blkPut (length_requantTile _) (.inl (by rw [a.trl_eq]; omega)), hread]
      · rw [← htiles b (by omega)]
        have hb' := a.blk_tile hmx (b := b) (by omega)
        refine hstep.readMem fun d hlo hhi => ?_
        simp only [a.trl_eq, Set.mem_union, Set.mem_Ico]; omega

/-- The state with a whole page converted, and its header saying so. -/
def State.pageConverted (s : State) (a : PageAt) (epoch : Nat) : State :=
  ((List.range 4).foldl (State.tileConverted a epoch) s).putHdr a { s.phdr a with fmt := 8 } epoch false

theorem State.requantPage_full (ha : s.pageAt n x h p = a) (hfull : (s.phdr a).present = 2 ^ 64 - 1) (hfmt : (s.phdr a).fmt = 4)
    (hgood : s.pageBad { p := p, at_ := a, hdr := s.phdr a } = 0) : s.requantPage n x h p = (s.pageConverted a x.epoch, 0) := by
  subst ha
  have hhdr : s.blkOk ((s.pageAt n x h p).blk 5) 32 ((s.pageAt n x h p).trl 5) = true := by
    simp only [State.pageBad, Nat.add_eq_zero_iff] at hgood
    simpa using hgood.2
  rw [State.requantPage]
  dsimp only
  rw [if_neg (by simp [hhdr]), if_neg (by simp [hfull, hfmt]), if_neg (by simp [hgood])]
  rfl

theorem State.requantPage_other (ha : s.pageAt n x h p = a) (hhdr : s.blkOk (a.blk 5) 32 (a.trl 5) = true)
    (hother : (s.phdr a).present ≠ 2 ^ 64 - 1 ∨ (s.phdr a).fmt ≠ 4) : s.requantPage n x h p = (s, 0) := by
  subst ha
  rw [State.requantPage]
  dsimp only
  rw [if_neg (by simp [hhdr]), if_pos (by simpa using hother)]

theorem keeps_pageConverted (s : State) (a : PageAt) (epoch : Nat) : keeps s (s.pageConverted a epoch) [.mem] :=
  keeps_trans (keeps_foldl (fun _ _ => keeps_blkPut ..) _ s) (keeps_putHdr ..)

theorem State.pageConverted_spec (s : State) (hmx : a.mxFrame = false) (epoch : Nat) :
    (∀ b, b < 4 → (s.pageConverted a epoch).readMem (a.blk b) 2176 = requantTile (s.readMem (a.blk b) 4096)) ∧
      (s.pageConverted a epoch).phdr a = { s.phdr a with fmt := 8 } ∧
      OnlyIn s (s.pageConverted a epoch) (Set.Ico a.frame (a.blk 5 + 80)) := by
  obtain ⟨honly, htiles⟩ := tilesConverted_spec s hmx epoch (le_refl 4)
  have hfits : PHdr.Fits { s.phdr a with fmt := 8 } := by
    obtain ⟨hpresent, hpage, -, hflags⟩ := s.phdr_fits a
    exact ⟨hpresent, hpage, (by decide : 8 < 256 ^ 1), hflags⟩
  have hend := (a.tile_before_header (b := 3) (by omega)).2
  rw [a.blk_tile hmx (by omega)] at hend
  rw [State.pageConverted]
  generalize (List.range 4).foldl (State.tileConverted a epoch) s = u at honly htiles
  have hhdr := onlyIn_putHdr u a { s.phdr a with fmt := 8 } epoch false
  refine ⟨fun b hb => ?_, u.phdr_putHdr hfits epoch false, (honly.mono fun d hd => ?_).trans (hhdr.mono fun d hd => ?_)⟩
  · rw [← htiles b hb]
    have hb' := (a.tile_before_header hb).2
    refine hhdr.readMem fun d hlo hhi => ?_
    simp only [a.trl_eq, Set.mem_union, Set.mem_Ico]; omega
  · simp only [Set.mem_union, Set.mem_Ico] at hd ⊢; omega
  · simp only [a.trl_eq, Set.mem_union, Set.mem_Ico] at hd ⊢; omega

end Sys2Proof.Machine
end

section
/-! PROOF. The slot copies of a Weir, and the copy of the keystone (R211, R213, R221). -/

namespace Sys2Proof.Machine
set_option Elab.async false

variable {s : State} {n k : Nat} {x : Slot}

@[simp] theorem State.wslot_setWslot (s : State) (n k : Nat) (x : Slot) : (s.setWslot n k x).wslot n k = x := by
  rw [State.wslot, State.setWslot, State.weir_setWeir, tget_tset_self]

theorem State.wslot_setWslot_ne (s : State) {n k j : Nat} (x : Slot) (h : j ≠ k) : (s.setWslot n k x).wslot n j = s.wslot n j := by
  rw [State.wslot, State.setWslot, State.weir_setWeir, tget_tset_ne _ _ _ _ _ _ h, State.wslot]

/-- A Weir with the length of a slot set. -/
def State.setLen (s : State) (n k len : Nat) : State := s.setWeir n { s.weir n with lens := tset 0 (s.weir n).lens k len }

theorem State.relength_eq (s : State) (n k : Nat) (x : Slot) : ∃ len, s.relength n k x = s.setLen n k len := ⟨_, rfl⟩

@[simp] theorem State.wslot_setLen (s : State) (n k len m j : Nat) : (s.setLen n k len).wslot m j = s.wslot m j := by
  by_cases h : m = n
  · subst h; rw [State.wslot, State.setLen, State.weir_setWeir, State.wslot]
  · exact s.wslot_setWeir_ne _ h j

theorem State.len_setLen (s : State) (n k len : Nat) : tget 0 ((s.setLen n k len).weir n).lens k = len := by
  rw [State.setLen, State.weir_setWeir, tget_tset_self]

theorem keeps_slotSync (s : State) (k : Nat) : keeps s (s.slotSync k) [.slots] := by
  unfold State.slotSync
  split
  · exact keeps_refl ..
  · split
    · exact keeps_refl ..
    · dsimp only
      split
      · simp [keeps]
      · exact keeps_refl ..

theorem State.slotSync_weirs (s : State) (k : Nat) : (s.slotSync k).weirs = s.weirs := weirs_of_keeps (keeps_slotSync s k) (by simp)

theorem State.slotSync_mem (s : State) (k : Nat) : (s.slotSync k).mem = s.mem := mem_of_keeps (keeps_slotSync s k) (by simp)

end Sys2Proof.Machine
end

section
/-! PROOF. The rows of the slot commands on pages: REQUANT, EVICT, RESUMMARIZE (R205, R229 to R231). -/

namespace Sys2Proof.Machine
set_option Elab.async false

variable {s t : State} {n : Fin 16} {id : Nat} {k : WBlk}

theorem exec_requant (h : s.wbAct n id 5 none = some k) : exec (.requant n id) s =
    .next (s.pageCommand n k (fun s hp => s.requantPage n (s.wslot n (wbSlot k.bytes)) hp.1 hp.2) (wbPages n k.bytes)) := by
  have harm : exec (.requant n id) s = execRequant n id s := rfl
  rw [harm, execRequant, h]

theorem exec_resummarizeRecompute (h : s.wbAct n id 7 (some 0) = some k) : exec (.resummarizeRecompute n id) s =
    .next (s.pageCommand n k (fun s hp => s.recompute n (s.wslot n (wbSlot k.bytes)) hp.1 hp.2) (wbPages n k.bytes)) := by
  have harm : exec (.resummarizeRecompute n id) s = execResummarizeRecompute n id s := rfl
  rw [harm, execResummarizeRecompute, h]

theorem exec_evictDrops (on : Bool) (h : s.wbAct n id 6 (some (if on then 1 else 2)) = some k) :
    exec (if on then .evictDrop n id else .evictUndrop n id) s = .next (s.evictDrop n k on) := by
  cases on
  · have harm : exec (.evictUndrop n id) s = execEvictUndrop n id s := rfl
    simp only [Bool.false_eq_true, if_false] at h ⊢
    rw [harm, execEvictUndrop, h]
  · have harm : exec (.evictDrop n id) s = execEvictDrop n id s := rfl
    simp only [if_true] at h ⊢
    rw [harm, execEvictDrop, h]

/-! ### Stale commands -/

section
variable (hstale : s.plcOk k.workUnit k.epoch = false)
include hstale

theorem State.pageCommand_stale (f : State → Nat × Nat → State × Nat) (ps : List (Nat × Nat)) :
    s.pageCommand n k f ps = s.discard.wbDone n k.id 2 0 := by
  rw [State.pageCommand, State.wbStale_stale hstale]

theorem State.evictDrop_stale (on : Bool) : s.evictDrop n k on = s.discard.wbDone n k.id 2 0 := by
  rw [State.evictDrop, State.wbStale_stale hstale]

theorem exec_evictTruncate_stale (h : s.wbAct n id 6 (some 0) = some k) : exec (.evictTruncate n id) s = .next (s.discard.wbDone n k.id 2 0) := by
  have harm : exec (.evictTruncate n id) s = execEvictTruncate n id s := rfl
  rw [harm, execEvictTruncate, h]
  simp only [State.wbStale_stale hstale]

theorem exec_evictRelease_stale (h : s.wbAct n id 6 (some 3) = some k) : exec (.evictRelease n id) s = .next (s.discard.wbDone n k.id 2 0) := by
  have harm : exec (.evictRelease n id) s = execEvictRelease n id s := rfl
  rw [harm, execEvictRelease, h]
  simp only [State.wbStale_stale hstale]

theorem exec_resummarizeInstall_stale (h : s.wbAct n id 7 (some 1) = some k) :
    exec (.resummarizeInstall n id) s = .next (s.discard.wbDone n k.id 2 0) := by
  have harm : exec (.resummarizeInstall n id) s = execResummarizeInstall n id s := rfl
  rw [harm, execResummarizeInstall, h]
  simp only [State.wbStale_stale hstale]

end

/-! ### Commands of one page -/

section
variable (hlive : s.plcOk k.workUnit k.epoch = true)
include hlive

/-- A command of one page: what it does to the page, then its end. -/
theorem State.pageCommand_one {f : State → Nat × Nat → State × Nat} {hp : Nat × Nat} (hf : f s hp = (t, 0)) :
    s.pageCommand n k f [hp] = t.wbDone n k.id 0 0 := by
  rw [State.pageCommand, State.wbStale_live hlive]
  simp only [overPages, List.foldl_cons, List.foldl_nil, hf, Nat.add_zero, if_true]

section
variable {h p : Nat} {a : PageAt} (hpages : wbPages n k.bytes = [(h, p)]) (ha : s.pageAt n (s.wslot n (wbSlot k.bytes)) h p = a)
include hpages ha

/-- The flag that DROP sets and UNDROP clears (R217, R230). -/
def PHdr.marked (on : Bool) (hd : PHdr) : PHdr := { hd with flags := hd.flags / 2 * 2 + on.toNat }

theorem State.evictDrop_one (on : Bool) (hok : s.blkOk (a.blk 5) 32 (a.trl 5) = true) :
    s.evictDrop n k on = (s.hdrEdited a (s.wslot n (wbSlot k.bytes)).epoch (PHdr.marked on)).wbDone n k.id 0 0 := by
  have hedit := State.editHdr_ok (re := false) (f := fun hd => { hd with flags := hd.flags / 2 * 2 + on.toNat }) ha hok
  rw [if_neg (by simp)] at hedit
  rw [State.evictDrop, State.wbStale_live hlive, hpages]
  simp only [overPages, List.foldl_cons, List.foldl_nil, hedit, Nat.add_zero, if_true]
  rfl

theorem State.requant_full (hact : s.wbAct n id 5 none = some k) (hfull : (s.phdr a).present = 2 ^ 64 - 1) (hfmt : (s.phdr a).fmt = 4)
    (hgood : s.pageBad { p := p, at_ := a, hdr := s.phdr a } = 0) :
    exec (.requant n id) s = .next ((s.pageConverted a (s.wslot n (wbSlot k.bytes)).epoch).wbDone n k.id 0 0) := by
  rw [exec_requant hact, hpages, State.pageCommand_one hlive (State.requantPage_full ha hfull hfmt hgood)]

theorem State.requant_other (hact : s.wbAct n id 5 none = some k) (hhdr : s.blkOk (a.blk 5) 32 (a.trl 5) = true)
    (hother : (s.phdr a).present ≠ 2 ^ 64 - 1 ∨ (s.phdr a).fmt ≠ 4) : exec (.requant n id) s = .next (s.wbDone n k.id 0 0) := by
  rw [exec_requant hact, hpages, State.pageCommand_one hlive (State.requantPage_other ha hhdr hother)]

theorem State.recompute_one (hact : s.wbAct n id 7 (some 0) = some k) (hhdr : s.blkOk (a.blk 5) 32 (a.trl 5) = true)
    (hsk : s.blkOk (a.blk 4) 2048 (a.trl 4) = true) (hsum : s.blkOk a.sblk 2048 a.strl = true) :
    exec (.resummarizeRecompute n id) s = .next ((s.putSummary a (s.wslot n (wbSlot k.bytes)).epoch
      (summaryOf (s.readMem (a.blk 4) 2048) (s.phdr a).present)).1.wbDone n k.id 0 0) := by
  rw [exec_resummarizeRecompute hact, hpages, State.pageCommand_one hlive (State.recompute_ok ha hhdr hsk hsum)]

/-- The end of a command whose pages' operation answered a state and the blocks that failed. -/
def State.wbOver (r : State × Nat) (n id : Nat) : State := r.1.wbDone n id (if r.2 = 0 then 0 else 1) r.2

theorem exec_resummarizeInstall_one (hact : s.wbAct n id 7 (some 1) = some k) (hlen : k.bytes.length = 2112) :
    exec (.resummarizeInstall n id) s = .next (State.wbOver ((s.sketchesPut a (s.wslot n (wbSlot k.bytes)).epoch (k.bytes.drop 64)).recompute n
      (s.wslot n (wbSlot k.bytes)) h p) n id) := by
  have harm : exec (.resummarizeInstall n id) s = execResummarizeInstall n id s := rfl
  have hpay : padTo 2048 ((k.bytes.drop 64).take 2048) = k.bytes.drop 64 := by
    rw [List.take_of_length_le (by simp [hlen]), padTo_of_length (by simp [hlen])]
  subst ha
  rw [harm, execResummarizeInstall, hact]
  simp only [State.wbStale_live hlive, hpages, State.installPages, hpay, Nat.zero_add]
  rfl

end

/-- RELEASE frees the Weir's copy of the slot (R213, R230). -/
theorem exec_evictRelease_live (hact : s.wbAct n id 6 (some 3) = some k) : exec (.evictRelease n id) s =
    .next ((((s.setWslot n (wbSlot k.bytes) { s.wslot n (wbSlot k.bytes) with
      active := false, epoch := ((s.wslot n (wbSlot k.bytes)).epoch + 1) % 65536 }).setLen n (wbSlot k.bytes) 0).slotSync
      (wbSlot k.bytes)).wbDone n id 0 0) := by
  have harm : exec (.evictRelease n id) s = execEvictRelease n id s := rfl
  rw [harm, execEvictRelease, hact]
  simp only [State.wbStale_live hlive]
  rfl

/-- The positions of a page that a length leaves (R230). -/
def PHdr.below (hd : PHdr) (p len : Nat) : Nat :=
  ((List.range 64).map fun r => if hd.has r && decide (64 * p + r < len) then 2 ^ r else 0).foldl (· + ·) 0

/-- A header with its present bits cut to a length. -/
def PHdr.cut (p len : Nat) (hd : PHdr) : PHdr := { hd with present := hd.below p len }

/-- A slot after a TRUNCATE. -/
def Slot.truncated (x : Slot) : Slot := { x with epoch := (x.epoch + 1) % 65536 }

/-- The page of a TRUNCATE with its header cut to the length, and the blocks that failed. -/
def State.pageCut (s : State) (n : Nat) (x : Slot) (k : WBlk) (hp : Nat × Nat) : State × Nat :=
  (s.setWslot n (wbSlot k.bytes) x.truncated).editHdr n x.truncated hp.1 hp.2 true (PHdr.cut hp.2 (bfld k.bytes 44 4))

/-- TRUNCATE of a Weir that holds one page of the slot (R230). -/
theorem exec_evictTruncate_one {h p sl : Nat} {x : Slot} (hact : s.wbAct n id 6 (some 0) = some k) (hsl : wbSlot k.bytes = sl)
    (hx : s.wslot n sl = x) (hheld : heldPages n x = [(h, p)]) : exec (.evictTruncate n id) s =
      .next ((((s.pageCut n x k (h, p)).1.relength n sl x.truncated).slotSync sl).wbDone n id
        (if (s.pageCut n x k (h, p)).2 = 0 then 0 else 1) (s.pageCut n x k (h, p)).2) := by
  have harm : exec (.evictTruncate n id) s = execEvictTruncate n id s := rfl
  have hheld' : heldPages n { x with epoch := (x.epoch + 1) % 65536 } = [(h, p)] := hheld
  have hcut : PHdr.cut p (bfld k.bytes 44 4) = fun hd => { hd with present := hd.below p (bfld k.bytes 44 4) } := rfl
  subst hsl hx
  rw [harm, execEvictTruncate, hact]
  simp only [State.wbStale_live hlive, hheld', overPages, List.foldl_cons, List.foldl_nil, Nat.zero_add]
  simp only [State.pageCut, hcut, Slot.truncated, PHdr.below]

end

/-- Distinct powers below 2^n sum to less than 2^n. -/
theorem sum_powers_lt (c : Nat → Bool) (n : Nat) : ((List.range n).map fun r => if c r then 2 ^ r else 0).foldl (· + ·) 0 < 2 ^ n := by
  induction n with
  | zero => simp
  | succ n ih =>
    rw [List.range_succ, List.map_append, List.foldl_append, List.map_cons, List.map_nil, List.foldl_cons, List.foldl_nil, pow_succ]
    split <;> omega

theorem PHdr.below_lt (hd : PHdr) (p len : Nat) : hd.below p len < 256 ^ 8 := by
  have hsum := sum_powers_lt (fun r => hd.has r && decide (64 * p + r < len)) 64
  have hpow : (256 : Nat) ^ 8 = 2 ^ 64 := by norm_num
  rwa [hpow]

theorem PHdr.Fits.cut {hd : PHdr} (h : hd.Fits) (p len : Nat) : (hd.cut p len).Fits := by
  obtain ⟨-, hpage, hfmt, hflags⟩ := h
  exact ⟨hd.below_lt p len, hpage, hfmt, hflags⟩

theorem PHdr.Fits.marked {hd : PHdr} (h : hd.Fits) (on : Bool) : (hd.marked on).Fits := by
  obtain ⟨hpresent, hpage, hfmt, hflags⟩ := h
  have hon : on.toNat < 2 := Bool.toNat_lt on
  exact ⟨hpresent, hpage, hfmt, (by omega : hd.flags / 2 * 2 + on.toNat < 256 ^ 1)⟩

end Sys2Proof.Machine
end

section
/-! PROOF. REQUANT, EVICT and RESUMMARIZE, a clause at a time. -/

namespace Sys2Proof.Machine
set_option Elab.async false

variable {s : State} {n : Fin 16} {id h p sl : Nat} {k : WBlk} {x : Slot} {a : PageAt}

/-- Command k ended at Weir n with a status. -/
def State.wbEnded (t : State) (n : Nat) (k : WBlk) (st : Nat) : Prop := ∃ y ∈ (t.weir n).running, y.blk = k ∧ y.done = some st

/-- A command ends after a step that left the Weirs alone. -/
theorem State.wbEnded_wbDone {t : State} {op : Nat} {mode : Option Nat} (hact : s.wbAct n id op mode = some k) (hw : t.weirs = s.weirs)
    (st bad : Nat) : (t.wbDone n k.id st bad).wbEnded n k st := by
  refine State.done_wbDone rfl ?_ st bad
  rw [State.weir_of_weirs hw]
  exact (State.wbAct_runs hact).2

/-- What a change of memory alone, and a command's end without a failed block, keep. -/
theorem keeps_mem_wbDone {t : State} (hkeep : keeps s t [.mem]) (hclash : s.clash = []) (m id st : Nat) :
    keeps s (t.wbDone m id st 0) [.weirs, .mem] :=
  keeps_trans (keeps_mono hkeep (by simp))
    (keeps_mono (keeps_wbDone_good ((clash_of_keeps hkeep (by simp)).trans hclash) ..) (by simp))

/-- The end of a command writes no memory. -/
theorem OnlyIn.wbDone {t : State} {W : Set Nat} (honly : OnlyIn s t W) (m id st bad : Nat) : OnlyIn s (t.wbDone m id st bad) W :=
  honly.trans (onlyIn_of_mem (t.wbDone_mem ..) W)

theorem State.phdr_wbDone (t : State) (a : PageAt) (m id st bad : Nat) : (t.wbDone m id st bad).phdr a = t.phdr a :=
  (onlyIn_of_mem (t.wbDone_mem m id st bad) ∅).phdr (by simp)

/-- Nothing outside an interval changed. -/
theorem OnlyIn.outside {t : State} {lo hi d : Nat} (honly : OnlyIn s t (Set.Ico lo hi)) (hd : d < lo ∨ hi ≤ d) : t.byte d = s.byte d :=
  honly.byte d (by rw [Set.mem_Ico]; omega)

section
variable (hstale : s.plcOk k.workUnit k.epoch = false)
include hstale

/-- A stale slot command changes nothing but the count of discards and its own end (R73, R205). -/
theorem weirPage_stale :
    (s.wbAct n id 5 none = some k → exec (.requant n id) s = .next (s.discard.wbDone n id 2 0)) ∧
    (s.wbAct n id 6 (some 0) = some k → exec (.evictTruncate n id) s = .next (s.discard.wbDone n id 2 0)) ∧
    (s.wbAct n id 6 (some 1) = some k → exec (.evictDrop n id) s = .next (s.discard.wbDone n id 2 0)) ∧
    (s.wbAct n id 6 (some 2) = some k → exec (.evictUndrop n id) s = .next (s.discard.wbDone n id 2 0)) ∧
    (s.wbAct n id 6 (some 3) = some k → exec (.evictRelease n id) s = .next (s.discard.wbDone n id 2 0)) ∧
    (s.wbAct n id 7 (some 0) = some k → exec (.resummarizeRecompute n id) s = .next (s.discard.wbDone n id 2 0)) ∧
    (s.wbAct n id 7 (some 1) = some k → exec (.resummarizeInstall n id) s = .next (s.discard.wbDone n id 2 0)) := by
  refine ⟨fun hact => ?_, fun hact => ?_, fun hact => ?_, fun hact => ?_, fun hact => ?_, fun hact => ?_, fun hact => ?_⟩
  all_goals obtain ⟨rfl, -⟩ := State.wbAct_runs hact
  · rw [exec_requant hact, State.pageCommand_stale hstale]
  · exact exec_evictTruncate_stale hstale hact
  · exact (exec_evictDrops true hact).trans (by rw [State.evictDrop_stale hstale])
  · exact (exec_evictDrops false hact).trans (by rw [State.evictDrop_stale hstale])
  · exact exec_evictRelease_stale hstale hact
  · rw [exec_resummarizeRecompute hact, State.pageCommand_stale hstale]
  · exact exec_resummarizeInstall_stale hstale hact

end

section
variable (hlive : s.plcOk k.workUnit k.epoch = true) (hclash : s.clash = []) (hsl : wbSlot k.bytes = sl) (hx : s.wslot n sl = x)
include hlive hsl hx

include hclash in
theorem evictRelease_frees (hact : s.wbAct n id 6 (some 3) = some k) : ∃ t, exec (.evictRelease n id) s = .next t ∧ t.wbEnded n k 0 ∧
    t.wslot n sl = { x with active := false, epoch := (x.epoch + 1) % 65536 } ∧ tget 0 (t.weir n).lens sl = 0 ∧
    (∀ j, j ≠ sl → t.wslot n j = s.wslot n j) ∧ keeps s t [.weirs, .slots] := by
  subst hsl hx
  obtain ⟨rfl, hrun⟩ := State.wbAct_runs hact
  set freed := (s.setWslot n (wbSlot k.bytes) { s.wslot n (wbSlot k.bytes) with
    active := false, epoch := ((s.wslot n (wbSlot k.bytes)).epoch + 1) % 65536 }).setLen n (wbSlot k.bytes) 0 with hfreed
  have hw : (freed.slotSync (wbSlot k.bytes)).weirs = freed.weirs := State.slotSync_weirs ..
  have hslot : ∀ j, (freed.slotSync (wbSlot k.bytes)).wslot n j = freed.wslot n j := fun j => by
    rw [State.wslot, State.weir_of_weirs hw, State.wslot]
  have hkeep : keeps s (freed.slotSync (wbSlot k.bytes)) [.weirs, .slots] :=
    keeps_trans (keeps_mono (keeps_trans (keeps_setWeir ..) (keeps_setWeir ..)) (by simp)) (keeps_mono (keeps_slotSync ..) (by simp))
  refine ⟨_, exec_evictRelease_live hlive hact, State.done_wbDone rfl ?_ 0 0, ?_, ?_, fun j hj => ?_,
    keeps_trans hkeep (keeps_mono (keeps_wbDone_good ((clash_of_keeps hkeep (by simp)).trans hclash) ..) (by simp))⟩
  · rw [State.weir_of_weirs hw, hfreed, State.setLen, State.weir_setWeir, State.setWslot, State.weir_setWeir]
    exact hrun
  · rw [State.wslot_wbDone, hslot, hfreed, State.wslot_setLen, State.wslot_setWslot]
  · rw [(State.slots_wbDone ..).2, State.weir_of_weirs hw, hfreed, State.len_setLen]
  · rw [State.wslot_wbDone, hslot, hfreed, State.wslot_setLen, State.wslot_setWslot_ne _ _ hj]

theorem evictTruncate_cuts (hact : s.wbAct n id 6 (some 0) = some k) (hheld : heldPages n x = [(h, p)]) (ha : s.pageAt n x h p = a)
    (hhdr : s.blkOk (a.blk 5) 32 (a.trl 5) = true) (hsum : s.poisonRange a.sblk 2048 = false) (hend : a.frame + x.frame ≤ a.sblk)
    (hstrl : a.sblk + 2048 ≤ a.strl) : ∃ t, exec (.evictTruncate n id) s = .next t ∧
      (t.phdr a).present = (s.phdr a).below p (bfld k.bytes 44 4) ∧ (t.phdr a).page = (s.phdr a).page ∧ (t.phdr a).fmt = (s.phdr a).fmt ∧
      t.wslot n sl = { x with epoch := (x.epoch + 1) % 65536 } ∧ (∀ j, j ≠ sl → t.wslot n j = s.wslot n j) := by
  subst hsl hx
  set sl := wbSlot k.bytes with hsl
  set x := s.wslot n sl with hx
  have hframe := s.pageAt_frame n x h p
  rw [ha] at hframe
  obtain ⟨hphdr, hweirs⟩ : (s.pageCut n x k (h, p)).1.phdr a = (s.phdr a).cut p (bfld k.bytes 44 4) ∧
      (s.pageCut n x k (h, p)).1.weirs = (s.setWslot n sl x.truncated).weirs :=
    State.editHdr_phdr (s := s.setWslot n sl x.truncated) (x := x.truncated) ha hhdr ((s.phdr_fits a).cut p _) hsum (by omega) (by omega)
  obtain ⟨len, hlen⟩ := (s.pageCut n x k (h, p)).1.relength_eq n sl x.truncated
  have hslot : ∀ j, ((((s.pageCut n x k (h, p)).1.relength n sl x.truncated).slotSync sl).wslot n j) =
      (s.setWslot n sl x.truncated).wslot n j := fun j => by
    rw [State.wslot, State.weir_of_weirs (State.slotSync_weirs ..), ← State.wslot, hlen, State.wslot_setLen, State.wslot,
      State.weir_of_weirs hweirs, State.wslot]
  have hdone : ∀ st bad, ((((s.pageCut n x k (h, p)).1.relength n sl x.truncated).slotSync sl).wbDone n id st bad).phdr a =
      (s.phdr a).cut p (bfld k.bytes 44 4) := fun st bad => by
    rw [State.phdr_wbDone, ← hphdr, hlen]
    exact (onlyIn_of_mem (State.slotSync_mem ..) ∅).phdr (by simp)
  refine ⟨_, exec_evictTruncate_one hlive hact rfl rfl hheld, ?_, ?_, ?_, ?_, fun j hj => ?_⟩
  · rw [hdone]; rfl
  · rw [hdone]; rfl
  · rw [hdone]; rfl
  · rw [State.wslot_wbDone, hslot, State.wslot_setWslot]; rfl
  · rw [State.wslot_wbDone, hslot, State.wslot_setWslot_ne _ _ hj]

section
variable (hpages : wbPages n k.bytes = [(h, p)]) (ha : s.pageAt n x h p = a)
include hpages ha

theorem evictDrop_marks (on : Bool) (hact : s.wbAct n id 6 (some (if on then 1 else 2)) = some k)
    (hhdr : s.blkOk (a.blk 5) 32 (a.trl 5) = true) :
    ∃ t, exec (if on then .evictDrop n id else .evictUndrop n id) s = .next t ∧ t.wbEnded n k 0 ∧
      t.phdr a = { s.phdr a with flags := (s.phdr a).flags / 2 * 2 + on.toNat } ∧
      (∀ d, d < a.blk 5 ∨ a.blk 5 + 80 ≤ d → t.byte d = s.byte d) ∧ t.regs = s.regs := by
  subst hsl hx
  have hkeep := keeps_hdrEdited s a (s.wslot n (wbSlot k.bytes)).epoch (PHdr.marked on)
  refine ⟨_, (exec_evictDrops on hact).trans (by rw [State.evictDrop_one hlive hpages ha on hhdr]),
    State.wbEnded_wbDone hact (weirs_of_keeps hkeep (by simp)) 0 0, ?_, fun d => ((onlyIn_hdrEdited ..).wbDone ..).outside, ?_⟩
  · rw [State.phdr_wbDone, State.phdr_hdrEdited ((s.phdr_fits a).marked on)]
    rfl
  · rw [State.wbDone_regs_good, regs_of_keeps hkeep (by simp)]

theorem requant_unchanged (hact : s.wbAct n id 5 none = some k) (hhdr : s.blkOk (a.blk 5) 32 (a.trl 5) = true)
    (hother : (s.phdr a).present ≠ 2 ^ 64 - 1 ∨ (s.phdr a).fmt ≠ 4) : exec (.requant n id) s = .next (s.wbDone n id 0 0) := by
  subst hsl hx
  obtain ⟨rfl, -⟩ := State.wbAct_runs hact
  exact State.requant_other hlive hpages ha hact hhdr hother

include hclash

theorem requant_converts (hact : s.wbAct n id 5 none = some k) (hmx : x.mx = false) (hfull : (s.phdr a).present = 2 ^ 64 - 1)
    (hfmt : (s.phdr a).fmt = 4) (hgood : s.pageBad { p := p, at_ := a, hdr := s.phdr a } = 0) :
    ∃ t, exec (.requant n id) s = .next t ∧ t.wbEnded n k 0 ∧
      (∀ b, b < 4 → t.readMem (a.blk b) 2176 = requantTile (s.readMem (a.blk b) 4096)) ∧ t.phdr a = { s.phdr a with fmt := 8 } ∧
      (∀ d, d < a.frame ∨ a.frame + x.frame ≤ d → t.byte d = s.byte d) ∧ keeps s t [.weirs, .mem] := by
  subst hsl hx
  have hframe := s.pageAt_frame n (s.wslot n (wbSlot k.bytes)) h p
  have hmxa : a.mxFrame = false := by rw [← ha]; exact hmx
  rw [ha] at hframe
  obtain ⟨htiles, hhdr, honly⟩ := s.pageConverted_spec hmxa (s.wslot n (wbSlot k.bytes)).epoch
  have hkeep := keeps_pageConverted s a (s.wslot n (wbSlot k.bytes)).epoch
  refine ⟨_, State.requant_full hlive hpages ha hact hfull hfmt hgood, State.wbEnded_wbDone hact (weirs_of_keeps hkeep (by simp)) 0 0,
    fun b hb => ?_, ?_, fun d hd => (honly.wbDone ..).outside (by omega), keeps_mem_wbDone hkeep hclash ..⟩
  · rw [State.readMem_of_mem (State.wbDone_mem ..), htiles b hb]
  · rw [State.phdr_wbDone, hhdr]

theorem recompute_summarizes (hact : s.wbAct n id 7 (some 0) = some k) (hhdr : s.blkOk (a.blk 5) 32 (a.trl 5) = true)
    (hsk : s.blkOk (a.blk 4) 2048 (a.trl 4) = true) (hsum : s.blkOk a.sblk 2048 a.strl = true) (hstrl : a.sblk + 2048 ≤ a.strl) :
    ∃ t, exec (.resummarizeRecompute n id) s = .next t ∧ t.wbEnded n k 0 ∧
      t.readMem (a.sblk + a.sOff) 32 = summaryOf (s.readMem (a.blk 4) 2048) (s.phdr a).present ∧
      (∀ d, d < a.sblk ∨ a.strl + 8 ≤ d → t.byte d = s.byte d) ∧ keeps s t [.weirs, .mem] := by
  subst hsl hx
  have hoff := s.pageAt_sOff n (s.wslot n (wbSlot k.bytes)) h p
  rw [ha] at hoff
  have hclean := State.poisonRange_of_blkOk hsum
  have hkeep := keeps_putSummary (sum := summaryOf (s.readMem (a.blk 4) 2048) (s.phdr a).present) hclean (s.wslot n (wbSlot k.bytes)).epoch
  refine ⟨_, State.recompute_one hlive hpages ha hact hhdr hsk hsum, State.wbEnded_wbDone hact (weirs_of_keeps hkeep (by simp)) 0 0, ?_,
    fun d hd => (((onlyIn_putSummary hclean _ (length_summaryOf ..) hoff).mono fun c hc => ?_).wbDone ..).outside hd,
    keeps_mem_wbDone hkeep hclash ..⟩
  · rw [State.readMem_of_mem (State.wbDone_mem ..), State.readMem_putSummary hclean _ (length_summaryOf ..) hoff hstrl]
  · simp only [Set.mem_union, Set.mem_Ico] at hc ⊢; omega

omit hclash in
theorem install_stores (hact : s.wbAct n id 7 (some 1) = some k) (hlen : k.bytes.length = 2112) (hend : a.frame + x.frame ≤ a.sblk)
    (hstrl : a.sblk + 2048 ≤ a.strl) (hclean : s.poisonRange a.sblk 2048 = false) :
    ∃ t, exec (.resummarizeInstall n id) s = .next t ∧ t.readMem (a.blk 4) 2048 = k.bytes.drop 64 ∧
      (∀ d, d < a.frame ∨ a.strl + 8 ≤ d → t.byte d = s.byte d) ∧
      (s.blkOk a.sblk 2048 a.strl = true → s.blkOk (a.blk 5) 32 (a.trl 5) = true → s.poisonRange a.frame x.frame = false →
        t.wbEnded n k 0) := by
  subst hsl hx
  obtain ⟨rfl, hrun⟩ := State.wbAct_runs hact
  have hframe := s.pageAt_frame n (s.wslot n (wbSlot k.bytes)) h p
  have hoff := s.pageAt_sOff n (s.wslot n (wbSlot k.bytes)) h p
  rw [ha] at hframe hoff
  have hsk := a.sketch_end
  have hfr := a.frame_le_sketch
  have hpay : (k.bytes.drop 64).length = 2048 := by simp [hlen]
  obtain ⟨hput, hread⟩ := s.sketchesPut_spec hpay (s.wslot n (wbSlot k.bytes)).epoch a
  have hok := State.recompute_sketchesPut (s := s) hpay (s.wslot n (wbSlot k.bytes)).epoch ha
  have huw : (s.sketchesPut a (s.wslot n (wbSlot k.bytes)).epoch (k.bytes.drop 64)).weirs = s.weirs :=
    weirs_of_keeps (keeps_blkPut ..) (by simp)
  have hre := onlyIn_recompute (s := s.sketchesPut a (s.wslot n (wbSlot k.bytes)).epoch (k.bytes.drop 64)) (hput.poisonRange hclean) hoff ha
  have hw := (State.recompute_weirs _ n (s.wslot n (wbSlot k.bytes)) h p).trans huw
  have hexec := exec_resummarizeInstall_one hlive hpages ha hact hlen
  generalize s.sketchesPut a (s.wslot n (wbSlot k.bytes)).epoch (k.bytes.drop 64) = u at hput hread hok hre hw hexec
  refine ⟨_, hexec, ?_, fun d hd => ?_, fun hsum hhdr hgood => ?_⟩
  · rw [State.wbOver, State.readMem_of_mem (State.wbDone_mem ..), ← hread]
    refine hre.readMem fun d hlo hhi => ?_
    simp only [Set.mem_union, Set.mem_Ico]; omega
  · refine (((hput.mono fun c hc => ?_).trans (hre.mono fun c hc => ?_)).wbDone ..).outside hd
    · simp only [Set.mem_union, Set.mem_Ico] at hc ⊢; omega
    · simp only [Set.mem_union, Set.mem_Ico] at hc ⊢; omega
  · rw [State.wbOver, hok hhdr hsum hgood hend hstrl]
    exact State.wbEnded_wbDone hact hw 0 0

end

end

/-- Settles O22: each command's effect is that on its one page, and its end adds the status. -/
theorem weirPageResults : Obligations.WeirPageResults := by
  refine ⟨fun n id s k hstale => weirPage_stale hstale, fun n id s k hlive hclash =>
    ⟨?release, fun h p hpages => ⟨?drop, ?other, ?full, ?recompute, ?install⟩, ?truncate⟩⟩
  case release => exact evictRelease_frees hlive hclash rfl rfl
  case drop => exact fun on hact hhdr _ => evictDrop_marks hlive rfl rfl hpages rfl on hact hhdr
  case other => exact requant_unchanged hlive rfl rfl hpages rfl
  case full => exact requant_converts hlive hclash rfl rfl hpages rfl
  case recompute => exact fun hact hhdr hsk hsum _ => recompute_summarizes hlive hclash rfl rfl hpages rfl hact hhdr hsk hsum
  case install => exact install_stores hlive rfl rfl hpages rfl
  case truncate => exact fun h p hact hheld hhdr _ hsum hend hstrl => evictTruncate_cuts hlive rfl rfl hact hheld rfl hhdr hsum hend hstrl

end Sys2Proof.Machine
end

section
/-! PROOF. APPEND of one entry (R219 to R221, R238). -/

namespace Sys2Proof.Machine
set_option Elab.async false

variable {s t : State} {n p : Nat} {x : Slot} {a : PageAt} {e : AEntry}

/-! ### A row put into a tile (R220) -/

theorem length_elemsOf {n k fuel : Nat} {bs : List Byte} (hn : 0 < n) (h : bs.length = n * k) (hfuel : k ≤ fuel) :
    (elemsOf n fuel bs).length = k := by
  induction fuel generalizing k bs with
  | zero => rw [elemsOf, List.length_nil]; omega
  | succ fuel ih =>
    rw [elemsOf]
    rcases k with _ | k
    · rw [if_pos (List.eq_nil_of_length_eq_zero h)]
      rfl
    · rw [Nat.mul_succ] at h
      rw [if_neg (List.ne_nil_of_length_pos (by omega)), List.length_cons, ih (k := k) (by rw [List.length_drop]; omega) (by omega)]

theorem length_tileRow {fmt r : Nat} {tile : List Byte} {xs : List Nat} (hfmt : fmt = 4 ∨ fmt = 8) (htile : tile.length = pageTile fmt)
    (hr : r < 64) (hxs : xs.length = 64) : (tileRow fmt tile r xs).length = pageTile fmt := by
  obtain rfl | rfl := hfmt
  · obtain ⟨f, hf⟩ : ∃ f, fmtOf 4 = some f := ⟨_, rfl⟩
    simp only [tileRow, hf]
    rw [if_neg (by decide)]
    have hsize : pageTile 4 = 4096 := rfl
    exact length_replaced htile (by simp [hxs]) (by omega)
  · obtain ⟨f, hf⟩ : ∃ f, fmtOf 8 = some f := ⟨_, rfl⟩
    have hsize : pageTile 8 = 2176 := rfl
    simp only [tileRow, hf, if_true]
    exact length_replaced (length_replaced htile (by rw [length_packElems_four]; simp [hxs]) (by omega)) rfl (by omega)

/-- An entry of a whole block carries 128 elements of K and V each, and a sketch of 32 bytes. -/
theorem aEntry_lengths {b : List Byte} (hlen : b.length = 640) :
    (aEntry b 0).k.length = 128 ∧ (aEntry b 0).v.length = 128 ∧ (aEntry b 0).sk.length = 32 := by
  refine ⟨length_elemsOf (by decide) ?_ (le_refl _), length_elemsOf (by decide) ?_ (le_refl _), ?_⟩
  all_goals simp [aEntry, hlen]

theorem length_entryTiles {fmt : Nat} {ts : List (List Byte)} (hfmt : fmt = 4 ∨ fmt = 8) (hts : ∀ b < 4, (ts.getD b []).length = pageTile fmt)
    (hk : e.k.length = 128) (hv : e.v.length = 128) {b : Nat} (hb : b < 4) : ((entryTiles fmt ts e).getD b []).length = pageTile fmt := by
  have hr : e.pos % 64 < 64 := Nat.mod_lt _ (by decide)
  obtain rfl | rfl | rfl | rfl : b = 0 ∨ b = 1 ∨ b = 2 ∨ b = 3 := by omega
  all_goals exact length_tileRow hfmt (hts _ (by decide)) hr (by simp [hk, hv])

/-! ### A page stored (R216, R217, R238) -/

/-- A page with its four tiles, its sketches and its header stored; `bad` says which blocks are poisoned. -/
def State.pageStored (s : State) (a : PageAt) (epoch fmt : Nat) (tiles : List (List Byte)) (sk : List Byte) (hd : PHdr)
    (bad : Nat → Bool) : State :=
  (((List.range 4).foldl (fun s b => s.blkPut (a.blk b) (tiles.getD b []) (a.trl b) epoch fmt (bad b)) s).blkPut (a.blk 4) sk (a.trl 4)
    epoch 0 (bad 4)).putHdr a hd epoch (bad 5)

theorem keeps_pageStored (s : State) (a : PageAt) (epoch fmt : Nat) (tiles : List (List Byte)) (sk : List Byte) (hd : PHdr) (bad : Nat → Bool) :
    keeps s (s.pageStored a epoch fmt tiles sk hd bad) [.mem] :=
  keeps_trans (keeps_trans (keeps_foldl (fun _ _ => keeps_blkPut ..) _ s) (keeps_blkPut ..)) (keeps_putHdr ..)

theorem State.pageStored_spec (s : State) (a : PageAt) (epoch fmt : Nat) {tiles : List (List Byte)} {sk : List Byte} {hd : PHdr}
    (htiles : ∀ b < 4, (tiles.getD b []).length ≤ 4096) (hsk : sk.length = 2048) (hfits : hd.Fits) (bad : Nat → Bool) :
    OnlyIn s (s.pageStored a epoch fmt tiles sk hd bad) (Set.Ico a.frame (a.blk 5 + 80)) ∧
      (s.pageStored a epoch fmt tiles sk hd bad).phdr a = hd ∧ (s.pageStored a epoch fmt tiles sk hd bad).readMem (a.blk 4) 2048 = sk := by
  have hend := a.sketch_end
  have hfr := a.frame_le_sketch
  rw [State.pageStored]
  have hfold : OnlyIn s ((List.range 4).foldl (fun s b => s.blkPut (a.blk b) (tiles.getD b []) (a.trl b) epoch fmt (bad b)) s)
      (Set.Ico a.frame (a.blk 5 + 80)) := onlyIn_foldl (fun u b hb => by
    have hb : b < 4 := List.mem_range.mp hb
    have htile := a.tile_before_header hb
    have hlen := htiles b hb
    refine (onlyIn_blkPut u rfl epoch fmt (bad b)).mono fun d hd => ?_
    simp only [a.trl_eq, Set.mem_union, Set.mem_Ico] at hd ⊢
    omega) s
  generalize (List.range 4).foldl (fun s b => s.blkPut (a.blk b) (tiles.getD b []) (a.trl b) epoch fmt (bad b)) s = u at hfold
  have hsketch := onlyIn_blkPut (da := a.blk 4) (tda := a.trl 4) u hsk epoch 0 (bad 4)
  have hread := u.readMem_blkPut (da := a.blk 4) (tda := a.trl 4) hsk (.inl (by rw [a.trl_eq]; omega)) epoch 0 (bad 4)
  have hhdr := onlyIn_putHdr (u.blkPut (a.blk 4) sk (a.trl 4) epoch 0 (bad 4)) a hd epoch (bad 5)
  refine ⟨(hfold.trans (hsketch.mono fun d hd => ?_)).trans (hhdr.mono fun d hd => ?_), State.phdr_putHdr _ hfits epoch (bad 5), ?_⟩
  · simp only [a.trl_eq, Set.mem_union, Set.mem_Ico] at hd ⊢; omega
  · simp only [a.trl_eq, Set.mem_union, Set.mem_Ico] at hd ⊢; omega
  · refine (hhdr.readMem fun d hlo hhi => ?_).trans hread
    simp only [a.trl_eq, Set.mem_union, Set.mem_Ico]; omega

theorem PHdr.fits_of {present page fmt flags : Nat} (hpresent : present < 256 ^ 8) (hpage : page < 256 ^ 4) (hfmt : fmt < 256 ^ 1)
    (hflags : flags < 256 ^ 1) : PHdr.Fits { present, page, fmt, flags } := ⟨hpresent, hpage, hfmt, hflags⟩

/-! ### What an entry makes of its page -/

/-- The format in which a page of a slot is written: that of its frame while no token is present, then its own. -/
def State.entryFmt (s : State) (x : Slot) (a : PageAt) : Nat :=
  if (s.phdr a).present = 0 then (if x.mx then 8 else 4) else if (s.phdr a).fmt = 8 then 8 else 4

/-- The four tiles of a page before an entry: zeros while no token is present. -/
def State.tilesBefore (s : State) (x : Slot) (a : PageAt) : List (List Byte) :=
  (List.range 4).map fun b => if (s.phdr a).present = 0 then zeros (pageTile (s.entryFmt x a)) else s.readMem (a.blk b) (pageTile (s.entryFmt x a))

/-- The sketches of a page after an entry. -/
def State.entrySketches (s : State) (a : PageAt) (e : AEntry) : List Byte :=
  let sk := if (s.phdr a).present = 0 then zeros 2048 else s.readMem (a.blk 4) 2048
  sk.take (32 * (e.pos % 64)) ++ e.sk ++ sk.drop (32 * (e.pos % 64) + 32)

/-- The header of a page after an entry. -/
def State.entryHdr (s : State) (x : Slot) (a : PageAt) (p : Nat) (e : AEntry) : PHdr :=
  { present := (s.phdr a).present ||| 2 ^ (e.pos % 64), page := p, fmt := s.entryFmt x a,
    flags := if (s.phdr a).present = 0 then 0 else (s.phdr a).flags }

/-- Does a block of a page count as failed: it is read, and its check fails (R238)? -/
def State.entryBad (s : State) (x : Slot) (a : PageAt) (b : Nat) : Bool :=
  !(decide ((s.phdr a).present = 0) ||
    s.blkOk (a.blk b) (if b < 4 then pageTile (s.entryFmt x a) else if b = 4 then 2048 else 32) (a.trl b))

/-- A page with an entry stored, but for its summary. -/
def State.entryStored (s : State) (x : Slot) (a : PageAt) (p : Nat) (e : AEntry) : State :=
  s.pageStored a x.epoch (s.entryFmt x a) (entryTiles (s.entryFmt x a) (s.tilesBefore x a) e) (s.entrySketches a e) (s.entryHdr x a p e)
    (s.entryBad x a)

/-- The summary of a page after an entry. -/
def State.entrySummary (s : State) (a : PageAt) (e : AEntry) : List Byte :=
  summaryOf (s.entrySketches a e) ((s.phdr a).present ||| 2 ^ (e.pos % 64))

/-- Over a clean frame, an entry is its page stored, then the summary. -/
theorem State.appendPage_one {h : Nat} (ha : s.pageAt n x h p = a) (hclean : s.poisonRange a.frame x.frame = false) :
    s.appendPage n x h p [e] = (((s.entryStored x a p e).putSummary a x.epoch (s.entrySummary a e)).1,
      ((List.range 6).filter (s.entryBad x a)).length + (!((s.entryStored x a p e).putSummary a x.epoch (s.entrySummary a e)).2).toNat) := by
  subst ha
  rw [State.appendPage]
  simp only [State.eccRead_clean hclean, ite_self]
  rfl

theorem State.entryFmt_cases (s : State) (x : Slot) (a : PageAt) : s.entryFmt x a = 4 ∨ s.entryFmt x a = 8 := by
  unfold State.entryFmt
  split_ifs <;> simp

theorem State.length_tilesBefore (s : State) (x : Slot) (a : PageAt) {b : Nat} (hb : b < 4) :
    ((s.tilesBefore x a).getD b []).length = pageTile (s.entryFmt x a) := by
  simp only [State.tilesBefore, List.getD_eq_getElem?_getD, List.getElem?_map, List.getElem?_range hb, Option.map_some, Option.getD_some]
  split
  · exact List.length_replicate ..
  · exact State.length_readMem ..

theorem State.entryStored_spec (s : State) (x : Slot) (a : PageAt) (hp : p < 256 ^ 4) (hk : e.k.length = 128) (hv : e.v.length = 128)
    (hsk : e.sk.length = 32) : OnlyIn s (s.entryStored x a p e) (Set.Ico a.frame (a.blk 5 + 80)) ∧
      ((s.entryStored x a p e).phdr a).present = (s.phdr a).present ||| 2 ^ (e.pos % 64) ∧
      (s.entryStored x a p e).readMem (a.blk 4 + 32 * (e.pos % 64)) 32 = e.sk := by
  have hr : e.pos % 64 < 64 := Nat.mod_lt _ (by decide)
  have htiles : ∀ b < 4, ((entryTiles (s.entryFmt x a) (s.tilesBefore x a) e).getD b []).length ≤ 4096 := fun b hb => by
    rw [length_entryTiles (s.entryFmt_cases x a) (fun c hc => s.length_tilesBefore x a hc) hk hv hb, pageTile]
    split <;> decide
  have hbefore : (if (s.phdr a).present = 0 then zeros 2048 else s.readMem (a.blk 4) 2048).length = 2048 := by
    split
    · exact List.length_replicate ..
    · exact State.length_readMem ..
  have hfits : (s.entryHdr x a p e).Fits := by
    obtain ⟨hpresent, -, -, hflags⟩ := s.phdr_fits a
    have hpow : (256 : Nat) ^ 8 = 2 ^ 64 := by norm_num
    have hor : (s.phdr a).present ||| 2 ^ (e.pos % 64) < 256 ^ 8 := by
      rw [hpow] at hpresent ⊢
      exact Nat.or_lt_two_pow hpresent (Nat.pow_lt_pow_right (by decide) hr)
    have hfmt : s.entryFmt x a < 256 ^ 1 := by obtain h | h := s.entryFmt_cases x a <;> rw [h] <;> decide
    have hflag : (if (s.phdr a).present = 0 then 0 else (s.phdr a).flags) < 256 ^ 1 := by split <;> omega
    exact PHdr.fits_of hor hp hfmt hflag
  have hlen : (s.entrySketches a e).length = 2048 := length_replaced hbefore hsk (by omega)
  obtain ⟨honly, hhdr, hread⟩ := s.pageStored_spec a x.epoch (s.entryFmt x a) htiles hlen hfits (s.entryBad x a)
  refine ⟨honly, congrArg PHdr.present hhdr, ?_⟩
  rw [← State.drop_take_readMem (n := 2048) _ _ (by omega), State.entryStored, hread]
  exact take_drop_replaced hbefore hsk (by omega)

end Sys2Proof.Machine
end

section
/-! PROOF. APPEND of one entry: the whole command (R205, R220, R221, R238). -/

namespace Sys2Proof.Machine
set_option Elab.async false

variable {s t : State} {n : Fin 16} {id : Nat} {k : WBlk} {x : Slot} {a : PageAt} {e : AEntry}

theorem exec_append_stale (hstale : s.plcOk k.workUnit k.epoch = false) (h : s.wbAct n id 1 none = some k) :
    exec (.append n id) s = .next (s.discard.wbDone n k.id 2 0) := by
  have harm : exec (.append n id) s = execAppend n id s := rfl
  rw [harm, execAppend, h]
  simp only [State.wbStale_stale hstale]

/-- The end of an APPEND whose pages answered a state and the blocks that failed. -/
def State.appended (r : State × Nat) (n id sl len : Nat) : State := State.wbOver (r.1.setLen n sl len, r.2) n id

/-- An APPEND of one entry of this Weir is the entry put in its page, then the slot's length (R221). -/
theorem exec_append_one (hlive : s.plcOk k.workUnit k.epoch = true) (h : s.wbAct n id 1 none = some k) (hcount : bfld k.bytes 28 2 = 1)
    (he : aEntry k.bytes 0 = e) (hholds : weirHolds n e.head (e.pos / 64) = true) :
    exec (.append n id) s = .next (State.appended (s.appendPage n (s.wslot n (wbSlot k.bytes)) e.head (e.pos / 64) [e]) n id (wbSlot k.bytes)
      (max (tget 0 ((s.appendPage n (s.wslot n (wbSlot k.bytes)) e.head (e.pos / 64) [e]).1.weir n).lens (wbSlot k.bytes)) (e.pos + 1))) := by
  have harm : exec (.append n id) s = execAppend n id s := rfl
  have hes : ((List.range 1).map (aEntry k.bytes)).filter (fun e => weirHolds n e.head (e.pos / 64)) = [e] := by
    simp [List.range_succ, he, hholds]
  have hpages : entryPages [e] = [(e.head, e.pos / 64)] := rfl
  have hself : [e].filter (fun y => y.head == e.head && y.pos / 64 == e.pos / 64) = [e] := by simp
  rw [harm, execAppend, h]
  simp only [State.wbStale_live hlive, hcount, hes, hpages, List.foldl_cons, List.foldl_nil, hself, Nat.zero_add]
  rfl

theorem keeps_entryStored (s : State) (x : Slot) (a : PageAt) (p : Nat) (e : AEntry) : keeps s (s.entryStored x a p e) [.mem] := keeps_pageStored ..

/-- A position fits 32 bits, so its page does. -/
theorem aEntry_page_lt (b : List Byte) (i : Nat) : (aEntry b i).pos / 64 < 256 ^ 4 :=
  (Nat.div_le_self ..).trans_lt (bfld_lt ..)

/-- On a page without a token no block is read, so none fails. -/
theorem State.entryBad_fresh (hfresh : (s.phdr a).present = 0) (x : Slot) (b : Nat) : s.entryBad x a b = false := by
  simp [State.entryBad, hfresh]

section
variable {p : Nat} (hp : p < 256 ^ 4) (hk : e.k.length = 128) (hv : e.v.length = 128) (hsk : e.sk.length = 32)
  (hframe : a.blk 5 + 80 ≤ a.frame + x.frame) (hoff : a.sOff + 32 ≤ 2048) (hend : a.frame + x.frame ≤ a.sblk)
  (hstrl : a.sblk + 2048 ≤ a.strl) (hclean : s.poisonRange a.sblk 2048 = false)

/-- A page after one entry, its summary with it. -/
def State.entryDone (s : State) (x : Slot) (a : PageAt) (p : Nat) (e : AEntry) : State :=
  ((s.entryStored x a p e).putSummary a x.epoch (s.entrySummary a e)).1

include hp hk hv hsk hclean

theorem keeps_entryDone : keeps s (s.entryDone x a p e) [.mem] :=
  keeps_trans (keeps_entryStored ..) (keeps_putSummary ((s.entryStored_spec x a hp hk hv hsk).1.poisonRange hclean) _)

include hframe hoff hend hstrl

/-- What an entry leaves: the present bit, the sketch, and everything outside the frame and the summary block. -/
theorem State.entryDone_spec : ((s.entryDone x a p e).phdr a).present = (s.phdr a).present ||| 2 ^ (e.pos % 64) ∧
    (s.entryDone x a p e).readMem (a.blk 4 + 32 * (e.pos % 64)) 32 = e.sk ∧
    OnlyIn s (s.entryDone x a p e) (Set.Ico a.frame (a.frame + x.frame) ∪ (Set.Ico a.sblk (a.sblk + 2048) ∪ Set.Ico a.strl (a.strl + 8))) := by
  obtain ⟨honly, hpresent, hread⟩ := s.entryStored_spec x a hp hk hv hsk
  have hsum := onlyIn_putSummary (sum := s.entrySummary a e) (honly.poisonRange hclean) x.epoch (length_summaryOf ..) hoff
  have hr : e.pos % 64 < 64 := Nat.mod_lt _ (by decide)
  have hskend := a.sketch_end
  refine ⟨?_, ?_, ?_⟩
  · rw [State.entryDone, hsum.phdr fun d hlo hhi => ?_, hpresent]
    simp only [Set.mem_union, Set.mem_Ico]; omega
  · rw [State.entryDone, hsum.readMem fun d hlo hhi => ?_, hread]
    simp only [Set.mem_union, Set.mem_Ico]; omega
  · refine (honly.mono fun d hd => ?_).trans (hsum.mono Set.subset_union_right)
    simp only [Set.mem_union, Set.mem_Ico] at hd ⊢; omega

omit hoff in
/-- On a page without a token and with a good summary block nothing failed. -/
theorem State.appendPage_fresh {m h : Nat} (ha : s.pageAt m x h p = a) (hfclean : s.poisonRange a.frame x.frame = false)
    (hfresh : (s.phdr a).present = 0) (hsum : s.blkOk a.sblk 2048 a.strl = true) :
    s.appendPage m x h p [e] = (s.entryDone x a p e, 0) := by
  have honly := (s.entryStored_spec x a hp hk hv hsk).1
  have hok : (s.entryStored x a p e).blkOk a.sblk 2048 a.strl = true :=
    honly.blkOk (fun d hlo _ => by rw [Set.mem_Ico]; omega) (fun d hlo _ => by rw [Set.mem_Ico]; omega) hsum
  rw [State.appendPage_one ha hfclean, State.entryDone, State.putSummary_eq (honly.poisonRange hclean), hok]
  simp [State.entryBad_fresh hfresh]

end

theorem State.weir_setLen_ne (s : State) {n j : Nat} (sl len : Nat) (h : j ≠ n) : (s.setLen n sl len).weir j = s.weir j :=
  s.weir_setWeir_ne _ h

theorem State.slots_setLen (s : State) (n sl len : Nat) : ((s.setLen n sl len).weir n).slots = (s.weir n).slots := by
  rw [State.setLen, State.weir_setWeir]

theorem State.running_setLen (s : State) (n sl len : Nat) : ((s.setLen n sl len).weir n).running = (s.weir n).running := by
  rw [State.setLen, State.weir_setWeir]

theorem State.phdr_of_mem (h : t.mem = s.mem) (a : PageAt) : t.phdr a = s.phdr a := (onlyIn_of_mem h ∅).phdr (by simp)

theorem append_stores (hact : s.wbAct n id 1 none = some k) (hlive : s.plcOk k.workUnit k.epoch = true) (hclash : s.clash = [])
    (hcount : bfld k.bytes 28 2 = 1) (hlen : k.bytes.length = 640) (hx : s.wslot n (wbSlot k.bytes) = x) (he : aEntry k.bytes 0 = e)
    (ha : s.pageAt n x e.head (e.pos / 64) = a) (hholds : weirHolds n e.head (e.pos / 64) = true) (hend : a.frame + x.frame ≤ a.sblk)
    (hstrl : a.sblk + 2048 ≤ a.strl) (hfclean : s.poisonRange a.frame x.frame = false) (hclean : s.poisonRange a.sblk 2048 = false) :
    ∃ t, exec (.append n id) s = .next t ∧ (t.phdr a).present = (s.phdr a).present ||| 2 ^ (e.pos % 64) ∧
      t.readMem (a.blk 4 + 32 * (e.pos % 64)) 32 = e.sk ∧
      tget 0 (t.weir n).lens (wbSlot k.bytes) = max (tget 0 (s.weir n).lens (wbSlot k.bytes)) (e.pos + 1) ∧
      (∀ d, d < a.frame ∨ a.frame + x.frame ≤ d → d < a.sblk ∨ a.sblk + 2048 ≤ d → d < a.strl ∨ a.strl + 8 ≤ d →
        t.byte d = s.byte d) ∧
      (∀ j, j ≠ n.val → t.weir j = s.weir j) ∧ (t.weir n).slots = (s.weir n).slots ∧ keeps s t [.weirs, .mem, .regs] ∧
      ((s.phdr a).present = 0 → s.blkOk a.sblk 2048 a.strl = true → t.regs = s.regs ∧ t.wbEnded n k 0) := by
  have hframe := s.pageAt_frame n x e.head (e.pos / 64)
  have hoff := s.pageAt_sOff n x e.head (e.pos / 64)
  rw [ha] at hframe hoff
  have hp : e.pos / 64 < 256 ^ 4 := he ▸ aEntry_page_lt ..
  obtain ⟨hk, hv, hsk⟩ : e.k.length = 128 ∧ e.v.length = 128 ∧ e.sk.length = 32 := he ▸ aEntry_lengths hlen
  obtain ⟨hpresent, hread, honly⟩ := State.entryDone_spec hp hk hv hsk hframe hoff hend hstrl hclean
  have hkeep := keeps_entryDone (x := x) hp hk hv hsk hclean
  have hfirst : (s.appendPage n x e.head (e.pos / 64) [e]).1 = s.entryDone x a (e.pos / 64) e := by
    rw [State.appendPage_one ha hfclean]; rfl
  have hgood := State.appendPage_fresh hp hk hv hsk hframe hend hstrl hclean ha hfclean
  have hexec := exec_append_one hlive hact hcount he hholds
  obtain ⟨rfl, hrun⟩ := State.wbAct_runs hact
  rw [hx] at hexec
  generalize hr : s.appendPage n x e.head (e.pos / 64) [e] = r at hexec hfirst hgood
  obtain ⟨u, bad⟩ := r
  obtain rfl : u = s.entryDone x a (e.pos / 64) e := hfirst
  have hweir : ∀ j, (s.entryDone x a (e.pos / 64) e).weir j = s.weir j := State.weir_of_weirs (weirs_of_keeps hkeep (by simp))
  have hset : ∀ len, keeps s ((s.entryDone x a (e.pos / 64) e).setLen n (wbSlot k.bytes) len) [.weirs, .mem] := fun len =>
    keeps_trans (keeps_mono hkeep (by simp)) (keeps_mono (keeps_setWeir ..) (by simp))
  have hmem : ∀ len st bad, (((s.entryDone x a (e.pos / 64) e).setLen n (wbSlot k.bytes) len).wbDone n k.id st bad).mem =
      (s.entryDone x a (e.pos / 64) e).mem := fun len st bad =>
    (State.wbDone_mem ..).trans (State.setWeir_mem ..)
  refine ⟨_, hexec, ?_, ?_, ?_, fun d hf hs htr => ?_, fun j hj => ?_, ?_, ?_, fun hfresh hsum => ?_⟩
  · rw [State.appended, State.wbOver, State.phdr_of_mem (hmem ..), hpresent]
  · rw [State.appended, State.wbOver, State.readMem_of_mem (hmem ..), hread]
  · rw [State.appended, State.wbOver, (State.slots_wbDone ..).2, State.len_setLen, hweir]
  · refine (State.byte_of_mem (hmem ..) d).trans (honly.byte d ?_)
    simp only [Set.mem_union, Set.mem_Ico]; omega
  · rw [State.appended, State.wbOver, State.weir_wbDone_ne _ hj, State.weir_setLen_ne _ _ _ hj, hweir]
  · rw [State.appended, State.wbOver, (State.slots_wbDone ..).1, State.slots_setLen, hweir]
  · exact keeps_trans (keeps_mono (hset _) (by simp)) (keeps_mono (keeps_wbDone ((clash_of_keeps (hset _) (by simp)).trans hclash) ..) (by simp))
  · obtain ⟨-, rfl⟩ := Prod.mk.inj (hgood hfresh hsum)
    refine ⟨?_, State.done_wbDone rfl ?_ 0 0⟩
    · rw [State.appended, State.wbOver, State.wbDone_regs_good]
      exact regs_of_keeps (hset _) (by simp)
    · rw [State.running_setLen, hweir]
      exact hrun

end Sys2Proof.Machine
end

section
/-! PROOF. ATTEND over heads that own no page (R223, R225, R226). -/

namespace Sys2Proof.Machine
set_option Elab.async false

variable {s t : State} {n : Fin 16} {id : Nat} {k : WBlk} {x : Slot}

theorem exec_attend_stale (hstale : s.plcOk k.workUnit k.epoch = false) (h : s.wbAct n id 2 none = some k) (pe : PortEv) :
    exec (.attend n id pe) s = .next (s.discard.wbDone n k.id 2 0) := by
  have harm : exec (.attend n id pe) s = execAttend n id pe s := rfl
  rw [harm, execAttend, h]
  simp only [State.wbStale_stale hstale]

/-! ### A command whose own accesses are over -/

theorem State.wbEnd_eq (s : State) (n id : Nat) : s.wbEnd n id = s.setWeir n ((s.weir n).ended id 0) := rfl

theorem keeps_wbEnd (s : State) (n id : Nat) : keeps s (s.wbEnd n id) [.weirs] := keeps_setWeir ..

@[simp] theorem State.wbEnd_clash (s : State) (n id : Nat) : (s.wbEnd n id).clash = s.clash := State.setWeir_clash ..

@[simp] theorem State.wbEnd_mem (s : State) (n id : Nat) : (s.wbEnd n id).mem = s.mem := State.setWeir_mem ..

@[simp] theorem State.readMem_wbEnd (s : State) (n id da len : Nat) : (s.wbEnd n id).readMem da len = s.readMem da len :=
  State.readMem_of_mem (s.wbEnd_mem n id) ..

@[simp] theorem State.poisonRange_wbEnd (s : State) (n id da len : Nat) : (s.wbEnd n id).poisonRange da len = s.poisonRange da len := rfl

@[simp] theorem State.reg_wbEnd (s : State) (n id q : Nat) : (s.wbEnd n id).reg q = s.reg q := rfl

@[simp] theorem State.plcOk_wbEnd (s : State) (n id wu epoch : Nat) : (s.wbEnd n id).plcOk wu epoch = s.plcOk wu epoch := rfl

/-- A command whose accesses were over ends with its own status. -/
theorem State.wbEnded_wbEnd {u : State} {op : Nat} {mode : Option Nat} (hact : s.wbAct n id op mode = some k)
    (hw : u.weirs = (s.wbEnd n id).weirs) (st bad : Nat) : (u.wbDone n id st bad).wbEnded n k st := by
  obtain ⟨rfl, hrun⟩ := State.wbAct_runs hact
  obtain ⟨y, hy, hblk, -⟩ := Weir.done_ended rfl hrun 0
  refine State.done_wbDone rfl ⟨y, ?_, hblk⟩ st bad
  rwa [State.weir_of_weirs hw, State.wbEnd_eq, State.weir_setWeir]

/-- What a command's own accesses, over one another, keep. -/
theorem keeps_wbEnd_wbDone {u : State} {l : List SPart} (hkeep : keeps (s.wbEnd n id) u l) (hno : SPart.clash ∉ l) (hclash : s.clash = [])
    (st : Nat) : keeps s (u.wbDone n id st 0) (.weirs :: l) :=
  keeps_trans (keeps_mono (keeps_wbEnd s n id) (by simp)) (keeps_trans (keeps_mono hkeep (by simp))
    (keeps_mono (keeps_wbDone_good ((clash_of_keeps hkeep hno).trans hclash) ..) (by simp)))

/-! ### The record without pages (R226) -/

/-- What a group of heads that own no page adds to a record: no pages, no failed block, and an empty partial a query head. -/
def attendNone (group : Nat) : List PageRef × Nat × Nat × List Part := ([], 0, 0, List.replicate group Part.zero)

theorem State.selectPages_none {m h limit : Nat} (hown : s.ownedPages m x h limit = []) (dense : Bool) (p0 p1 : Word)
    (sks : List (List Byte)) : s.selectPages m x h limit dense p0 p1 sks = ([], []) := by
  simp only [State.selectPages, hown]
  split <;> rfl

theorem map_range_const {β : Type} {f : Nat → β} {m : Nat} {b : β} (h : ∀ g < m, f g = b) : (List.range m).map f = List.replicate m b :=
  (List.map_congr_left fun g hg => h g (List.mem_range.mp hg)).trans (by simp)

theorem foldl_add_zero {l : List Nat} (h : ∀ y ∈ l, y = 0) : l.foldl (· + ·) 0 = 0 := by
  induction l with
  | nil => rfl
  | cons y l ih => rw [List.foldl_cons, h y (by simp)]; exact ih fun z hz => h z (by simp [hz])

theorem foldl_add_map_zero {α : Type} {l : List α} {f : α → Nat} (h : ∀ y ∈ l, f y = 0) : (l.map f).foldl (· + ·) 0 = 0 :=
  foldl_add_zero fun y hy => by obtain ⟨z, hz, rfl⟩ := List.mem_map.mp hy; exact h z hz

theorem Part.zero_toBytes : Part.zero.toBytes = toBytesLE 4 0xFF800000 ++ zeros 516 := by decide +kernel

/-- The partials of heads that own no page. -/
theorem attendNone_parts (x : Slot) : ((List.replicate x.kvh (attendNone x.group)).flatMap fun y => y.2.2.2).flatMap Part.toBytes =
    (List.replicate x.qheads (toBytesLE 4 0xFF800000 ++ zeros 516)).flatten := by
  rw [attendNone, Slot.qheads, List.flatMap_replicate, List.flatten_replicate_replicate, List.flatMap_replicate, Part.zero_toBytes]

theorem satAdd_zero (w : Word) : satAdd w 0 = w := by
  have := w.isLt
  apply BitVec.eq_of_toNat_eq
  rw [toNat_satAdd]
  omega

theorem State.reg_bumpN_zero (s : State) (q r : Nat) : (s.bumpN q 0).reg r = s.reg r := by
  rw [State.bumpN, satAdd_zero]
  by_cases h : r = q
  · subst h; exact State.reg_setReg ..
  · exact State.reg_setReg_ne _ _ _ _ h

theorem append_zeros_twenty (l : List Byte) :
    l ++ toBytesLE 4 0 ++ toBytesLE 8 0 ++ toBytesLE 4 0 ++ toBytesLE 4 0 = l ++ zeros 20 := by
  simp only [List.append_assoc]
  rfl

/-- The record of an ATTEND without pages. -/
def attendRecord (n : Fin 16) (x : Slot) (b : List Byte) (dense ovr : Bool) : List Byte :=
  toBytesLE 1 (wbSlot b) ++ toBytesLE 1 n ++ toBytesLE 2 x.epoch ++ zeros 20 ++ toBytesLE 1 (dense.toNat + 4 * ovr.toNat) ++
    toBytesLE 1 x.qheads ++ zeros 6 ++ (List.replicate x.qheads (toBytesLE 4 0xFF800000 ++ zeros 516)).flatten

/-- Does an ATTEND override the policies of its slot (R222)? -/
def attendOvr (b : List Byte) : Bool := bfld b 33 1 / 2 % 2 == 1

/-- The second policy word that an ATTEND goes by. -/
def attendPol1 (b : List Byte) (x : Slot) : Word := if attendOvr b then BitVec.ofNat 32 (bfld b 44 4) else x.pol1

/-- Does an ATTEND read every page? -/
def attendDense (b : List Byte) (x : Slot) : Bool := bfld b 33 1 % 2 == 1 || decide (bfld b 28 4 < (attendPol1 b x).fld 23 9 * 16384)

theorem exec_attend_none (hact : s.wbAct n id 2 none = some k) (hlive : s.plcOk k.workUnit k.epoch = true) (hclash : s.clash = [])
    (hx : s.wslot n (wbSlot k.bytes) = x)
    (hown : ∀ g, g < x.kvh → s.ownedPages n x (bfld k.bytes 32 1 * x.kvh + g) (bfld k.bytes 28 4) = [])
    {res : List Byte} (hres : attendRecord n x k.bytes (attendDense k.bytes x) (attendOvr k.bytes) = res)
    (hstill : (s.wbEnd n id).still (wbResult n k.bytes) res.length = true) : exec (.attend n id .clear) s =
      .next ((((s.wbEnd n id).writeMem (wbResult n k.bytes) res).bumpN (Reg.Wn_ATT_PAGES n) 0).wbDone n id 0 0) := by
  have harm : exec (.attend n id .clear) s = execAttend n id .clear s := rfl
  subst hx
  rw [harm, execAttend, hact]
  simp only [State.wbStale_live hlive]
  rw [map_range_const (b := attendNone (s.wslot n (wbSlot k.bytes)).group) (fun g hg => ?group)]
  case group =>
    rw [State.selectPages_none (hown g hg)]
    simp only [List.map_nil, List.foldl_nil, List.map_map, List.length_nil, ne_eq, not_true_eq_false, if_false, attendNone]
    exact congrArg (fun l => ([], 0, 0, l)) (map_range_const fun _ _ => rfl)
  have hreplicate : ∀ {P : _ → Prop}, P (attendNone (s.wslot n (wbSlot k.bytes)).group) →
      ∀ y ∈ List.replicate (s.wslot n (wbSlot k.bytes)).kvh (attendNone (s.wslot n (wbSlot k.bytes)).group), P y := fun hP y hy => by
    rwa [List.eq_of_mem_replicate hy]
  have hparts := attendNone_parts (s.wslot n (wbSlot k.bytes))
  generalize List.replicate (s.wslot n (wbSlot k.bytes)).kvh (attendNone (s.wslot n (wbSlot k.bytes)).group) = per at hreplicate hparts
  have hdegraded : per.any (fun y => decide (y.2.1 ≠ 0)) = false := List.any_eq_false.mpr (hreplicate (by simp [attendNone]))
  have hfails : per.any (fun y => decide (y.2.2.1 ≠ 0)) = false := List.any_eq_false.mpr (hreplicate (by simp [attendNone]))
  have hhf : (per.zipIdx.map fun y => if y.1.2.2.1 ≠ 0 then (2 ^ (s.wslot n (wbSlot k.bytes)).group - 1) *
      2 ^ (y.2 * (s.wslot n (wbSlot k.bytes)).group) else 0).foldl (· + ·) 0 = 0 := foldl_add_map_zero fun y hy =>
    if_neg (hreplicate (P := fun z => ¬z.2.2.1 ≠ 0) (by simp [attendNone]) y.1 (List.fst_mem_of_mem_zipIdx hy))
  have hpages : (per.map fun y => y.1.length).foldl (· + ·) 0 = 0 := foldl_add_map_zero (hreplicate (by simp [attendNone]))
  have htoks : (per.map fun y => (y.1.map (·.count (bfld k.bytes 28 4))).foldl (· + ·) 0).foldl (· + ·) 0 = 0 :=
    foldl_add_map_zero (hreplicate (by simp [attendNone]))
  have hbad : (per.map fun y => y.2.1 + y.2.2.1).foldl (· + ·) 0 = 0 := foldl_add_map_zero (hreplicate (by simp [attendNone]))
  simp only [hdegraded, hfails, hhf, hpages, htoks, hbad, Bool.or_self, Bool.false_eq_true, if_false, Bool.toNat_false, Nat.mul_zero,
    Nat.add_zero, hparts, append_zeros_twenty]
  unfold attendRecord attendDense attendPol1 attendOvr at hres
  have hview : (s.wbEnd n id).viewEnd .clear = (s.wbEnd n id).viewNow .clear := State.viewEnd_quiet (by simpa using hclash) _
  rw [hres, hview, State.writePE_still _ _ _ hstill,
    State.met_calm _ _ (by simpa using State.calm_of_still _ _ _ hstill), View.busy_clear]
  rfl

theorem attend_answers (hact : s.wbAct n id 2 none = some k) (hlive : s.plcOk k.workUnit k.epoch = true) (hclash : s.clash = [])
    (hx : s.wslot n (wbSlot k.bytes) = x)
    (hown : ∀ g, g < x.kvh → s.ownedPages n x (bfld k.bytes 32 1 * x.kvh + g) (bfld k.bytes 28 4) = [])
    {res : List Byte} (hres : attendRecord n x k.bytes (attendDense k.bytes x) (attendOvr k.bytes) = res)
    (hstill : (s.wbEnd n id).still (wbResult n k.bytes) res.length = true) :
    ∃ t, exec (.attend n id .clear) s = .next t ∧ t.readMem (wbResult n k.bytes) res.length = res ∧
      (∀ d, d < wbResult n k.bytes ∨ wbResult n k.bytes + res.length ≤ d → t.byte d = s.byte d) ∧ t.wbEnded n k 0 ∧
      (∀ q, t.reg q = s.reg q) ∧ keeps s t [.weirs, .mem, .regs] := by
  have hexec := exec_attend_none hact hlive hclash hx hown hres hstill
  have hkeep : keeps (s.wbEnd n id) (((s.wbEnd n id).writeMem (wbResult n k.bytes) res).bumpN (Reg.Wn_ATT_PAGES n) 0) [.mem, .regs] :=
    keeps_trans (keeps_mono (keeps_writeMem ..) (by simp)) (keeps_mono (keeps_setReg _ _ _) (by simp))
  have hmem : (((s.wbEnd n id).writeMem (wbResult n k.bytes) res).bumpN (Reg.Wn_ATT_PAGES n) 0).mem =
      (s.writeMem (wbResult n k.bytes) res).mem := State.setReg_mem ..
  have hreg : ∀ q, (((s.wbEnd n id).writeMem (wbResult n k.bytes) res).bumpN (Reg.Wn_ATT_PAGES n) 0).reg q = s.reg q := fun q =>
    State.reg_bumpN_zero ..
  generalize ((s.wbEnd n id).writeMem (wbResult n k.bytes) res).bumpN (Reg.Wn_ATT_PAGES n) 0 = u at hexec hkeep hmem hreg
  have hdone := (u.wbDone_mem n id 0 0).trans hmem
  refine ⟨_, hexec, ?_, fun d hd => ?_, State.wbEnded_wbEnd hact (weirs_of_keeps hkeep (by simp)) 0 0, fun q => ?_,
    keeps_wbEnd_wbDone hkeep (by simp) hclash 0⟩
  · rw [State.readMem_of_mem hdone, State.readMem_writeMem]
  · rw [State.byte_of_mem hdone, State.byte_writeMem_out _ _ _ _ hd]
  · rw [State.reg, State.wbDone_regs_good]
    exact hreg q

end Sys2Proof.Machine
end

section
/-! PROOF. FOLD of untiled words as a command (R185, R205, R232). -/

namespace Sys2Proof.Machine
set_option Elab.async false

variable {s t : State} {n : Fin 16} {id : Nat} {k : WBlk}

/-- What a filter keeps is what it holds. -/
theorem filter_contains_filter {α : Type} [BEq α] [LawfulBEq α] (l : List α) (p : α → Bool) :
    l.filter (fun x => (l.filter p).contains x) = l.filter p :=
  List.filter_congr fun x hx => by rw [Bool.eq_iff_iff]; simp [hx]

/-- A store that keeps no byte of its range is a plain one, whatever is marked elsewhere. -/
theorem State.writeKeep_none {da : Nat} {bs : List Byte} {keep : Nat → Bool} (hkeep : ∀ i < bs.length, keep i = false)
    (hstill : s.still da bs.length = true) : s.writeKeep (s.viewNow .clear) da bs keep = s.writeMem da bs := by
  have hbs : bs.zipIdx.map (fun p => if keep p.2 then s.byte (da + p.2) else p.1) = bs := by
    refine (List.map_congr_left fun p hp => ?_).trans (List.zipIdx_map_fst 0 bs)
    rw [hkeep p.2 (by simpa using List.snd_lt_of_mem_zipIdx hp), if_neg Bool.false_ne_true]
  have hkept : ∀ u, ((List.range bs.length).any fun i => keep i && decide (u ≤ da + i) && decide (da + i < u + protUnit u)) = false := fun u =>
    List.any_eq_false.mpr fun i hi => by simp [hkeep i (List.mem_range.mp hi)]
  rw [State.writeKeep, hbs, s.writePE_still _ _ hstill]
  simp only [hkept, Bool.or_false]
  exact congrArg (fun bad => { s with mem := { s.mem.put da bs with bad := bad } }) (filter_contains_filter s.mem.bad _)

/-- A fold of clean words onto clean words stores every sum. -/
theorem State.foldUntiled_words {m da wu epoch : Nat} {data : List Byte} {badAt : Nat → Bool} (hbad : ∀ i < data.length, badAt i = false)
    (hclean : s.poisonRange da data.length = false) (hplc : s.plcOk wu epoch = true) (hstill : s.still da data.length = true)
    (hwords : data.length % 4 = 0) : s.foldUntiled (s.viewNow .clear) m da data badAt wu epoch = (s.folded m da data, 0) := by
  have hlen : (foldInts (s.readMem da data.length) data).length = data.length := length_foldInts (by simp) hwords
  have hskip : ∀ i < data.length, (badAt (i / 4 * 4) || badAt (i / 4 * 4 + 3) || s.poisonByte (da + i / 4 * 4)) = false := fun i hi => by
    rw [hbad _ (by omega), hbad _ (by omega), State.poisonByte_clean hclean (by omega)]
    rfl
  have hnone : (List.range data.length).any (fun i => badAt (i / 4 * 4) || badAt (i / 4 * 4 + 3) || s.poisonByte (da + i / 4 * 4)) = false :=
    List.any_eq_false.mpr fun i hi => by rw [hskip i (List.mem_range.mp hi)]; exact Bool.false_ne_true
  simp only [State.foldUntiled, hplc, s.readPE_calm _ _ (s.calm_of_still _ _ hstill), hnone, Bool.not_true, Bool.false_eq_true, if_false]
  rw [State.writeKeep_none (fun i hi => hskip i (hlen ▸ hi)) (by rwa [hlen]), State.folded]

theorem srcView_apart {v : View} {g : Tab Region} {src dst len : Nat} (h : rangesMeet src len dst len = false) : srcView v g src dst len = v := by
  rw [srcView, h, if_neg Bool.false_ne_true]

section
variable {src dst len : Nat} (hsrc : bfld k.bytes 32 8 = src) (hdst : bfld k.bytes 16 8 = dst) (hlen : bfld k.bytes 40 4 = len)
  (hact : s.wbAct n id 3 none = some k) (hlive : s.plcOk k.workUnit k.epoch = true) (hclash : s.clash = []) (hwords : len % 32 = 0)
  (hksrc : rangeKind (s.wbRegions n id) src len = .untiled) (hkdst : rangeKind (s.wbRegions n id) dst len = .untiled)
  (happart : rangesMeet src len dst len = false) (hcalm : (s.wbEnd n id).calm src len = true) (hstill : (s.wbEnd n id).still dst len = true)
  (hcsrc : s.poisonRange src len = false) (hcdst : s.poisonRange dst len = false)
include hsrc hdst hlen hact hlive hclash hwords hksrc hkdst happart hcalm hstill hcsrc hcdst

theorem exec_foldCommand_untiled : exec (.foldCommand n id .clear) s =
    .next (((s.wbEnd n id).folded n dst (s.readMem src len)).wbDone n id 0 0) := by
  have harm : exec (.foldCommand n id .clear) s = execFoldCommand n id .clear s := rfl
  have hview : (s.wbEnd n id).viewEnd .clear = (s.wbEnd n id).viewNow .clear := State.viewEnd_quiet (by simpa using hclash) _
  have hread : (s.wbEnd n id).readPE ((s.wbEnd n id).viewNow .clear) src len = s.readMem src len := by
    rw [State.readPE_calm _ _ _ hcalm, State.readMem_wbEnd]
  have hfold : (s.wbEnd n id).foldUntiled ((s.wbEnd n id).viewNow .clear) n dst (s.readMem src len)
      (fun i => (s.wbEnd n id).poisonByte (src + i)) k.workUnit k.epoch = ((s.wbEnd n id).folded n dst (s.readMem src len), 0) :=
    State.foldUntiled_words (fun i hi => State.poisonByte_clean (by simpa using hcsrc) (by simpa using hi)) (by simpa using hcdst)
      (by simpa using hlive) (by simpa using hstill) (by rw [State.length_readMem]; omega)
  have hmet : ∀ u : State, u.met ((s.wbEnd n id).viewNow .clear)
      (rangeAcc (s.wbRegions n id) src len false ++ rangeAcc (s.wbRegions n id) dst len true) = u := fun u => by
    rw [rangeAcc_none (regionIn_untiled hksrc), rangeAcc_none (regionIn_untiled hkdst)]
    exact State.met_calm _ _ (by simpa using ⟨hcalm, State.calm_of_still _ _ _ hstill⟩) u
  have hmeet : (s.wbEnd n id).meet .clear src len = s.wbEnd n id := rfl
  rw [harm, execFoldCommand, hact]
  simp only [hsrc, hdst, hlen, hmeet, hview, srcView_apart happart, State.eccRead_clean (s := s.wbEnd n id) (by simpa using hcsrc), hksrc, hkdst,
    hread, hfold, hmet]

theorem foldCommand_sums : ∃ t, exec (.foldCommand n id .clear) s = .next t ∧
    t.readMem dst len = foldInts (s.readMem dst len) (s.readMem src len) ∧ (∀ d, d < dst ∨ dst + len ≤ d → t.byte d = s.byte d) ∧
    t.wbEnded n k 0 ∧ t.reg (Reg.Wn_FOLD_TILES n) = satAdd (s.reg (Reg.Wn_FOLD_TILES n)) ((len + 8191) / 8192) ∧
    keeps s t [.weirs, .mem, .regs] := by
  have hexec := exec_foldCommand_untiled hsrc hdst hlen hact hlive hclash hwords hksrc hkdst happart hcalm hstill hcsrc hcdst
  have hdata : (s.readMem src len).length = len := State.length_readMem ..
  obtain ⟨hread, hout, hreg⟩ := (s.wbEnd n id).folded_spec n dst (data := s.readMem src len) (by omega)
  have hkeep := keeps_folded (s.wbEnd n id) n dst (s.readMem src len)
  rw [hdata] at hread hout hreg
  generalize (s.wbEnd n id).folded n dst (s.readMem src len) = u at hexec hread hout hreg hkeep
  have hdone : (u.wbDone n id 0 0).mem = u.mem := State.wbDone_mem ..
  refine ⟨_, hexec, ?_, fun d hd => ?_, State.wbEnded_wbEnd hact (weirs_of_keeps hkeep (by simp)) 0 0, ?_,
    keeps_wbEnd_wbDone hkeep (by simp) hclash 0⟩
  · rw [State.readMem_of_mem hdone, hread, State.readMem_wbEnd]
  · rw [State.byte_of_mem hdone, hout d hd, State.byte_of_mem (s.wbEnd_mem n id)]
  · rw [State.reg, State.wbDone_regs_good, ← State.reg, hreg, State.reg_wbEnd]

end

end Sys2Proof.Machine
end

section
/-! PROOF. GATHER of untiled elements (R235, R236). -/

namespace Sys2Proof.Machine
set_option Elab.async false

variable {s t : State} {n : Fin 16} {id tab el dst : Nat} {k : WBlk} {l : List Nat}

theorem exec_gather_stale (hstale : s.plcOk k.workUnit k.epoch = false) (h : s.wbAct n id 4 none = some k) (pe : PortEv) :
    exec (.gather n id pe) s = .next (s.discard.wbDone n k.id 2 0) := by
  have harm : exec (.gather n id pe) s = execGather n id pe s := rfl
  rw [harm, execGather, h]
  simp only [State.wbStale_stale hstale]

/-- The elements of a table copied one after the other, in index order. -/
def State.gathered (s : State) (tab el : Nat) : List Nat → Nat → State
  | [], _ => s
  | i :: l, dst => (s.writeMem dst (s.readMem (tab + i * el) el)).gathered tab el l (dst + el)

theorem keeps_gathered (s : State) (tab el : Nat) (l : List Nat) (dst : Nat) : keeps s (s.gathered tab el l dst) [.mem] := by
  induction l generalizing s dst with
  | nil => exact keeps_refl ..
  | cons i l ih => exact keeps_trans (keeps_writeMem ..) (ih ..)

/-- Of a table that the copies do not reach, each place holds its element, and no other byte changed. -/
theorem State.gathered_spec {W : Set Nat} (happart : ∀ i ∈ l, ∀ d, tab + i * el ≤ d → d < tab + i * el + el → d ∉ W)
    (hin : Set.Ico dst (dst + l.length * el) ⊆ W) :
    (∀ j (hj : j < l.length), (s.gathered tab el l dst).readMem (dst + j * el) el = s.readMem (tab + l[j] * el) el) ∧
      OnlyIn s (s.gathered tab el l dst) (Set.Ico dst (dst + l.length * el)) := by
  induction l generalizing s dst with
  | nil => exact ⟨fun j hj => absurd hj (Nat.not_lt_zero j), onlyIn_of_mem rfl _⟩
  | cons i l ih =>
    have hspan : (i :: l).length * el = l.length * el + el := Nat.succ_mul ..
    rw [hspan] at hin ⊢
    have hfirst : OnlyIn s (s.writeMem dst (s.readMem (tab + i * el) el)) (Set.Ico dst (dst + el)) := by
      simpa using onlyIn_writeMem s dst (s.readMem (tab + i * el) el)
    obtain ⟨hplaces, honly⟩ := ih (s := s.writeMem dst (s.readMem (tab + i * el) el)) (dst := dst + el)
      (fun j hj => happart j (List.mem_cons_of_mem _ hj)) fun d hd => hin (by rw [Set.mem_Ico] at hd ⊢; omega)
    refine ⟨fun j hj => ?_, (hfirst.mono fun d hd => ?_).trans (honly.mono fun d hd => ?_)⟩
    · rcases j with _ | j
      · have hwritten := s.readMem_writeMem dst (s.readMem (tab + i * el) el)
        rw [State.length_readMem] at hwritten
        simp only [Nat.zero_mul, Nat.add_zero, List.getElem_cons_zero]
        refine (honly.readMem fun d hlo hhi => ?_).trans hwritten
        rw [Set.mem_Ico]; omega
      · have hj : j < l.length := Nat.lt_of_succ_lt_succ hj
        have hplace : dst + (j + 1) * el = dst + el + j * el := by rw [Nat.succ_mul]; omega
        simp only [List.getElem_cons_succ]
        rw [hplace, State.gathered, hplaces j hj]
        refine hfirst.readMem fun d hlo hhi hd => happart l[j] (List.mem_cons_of_mem _ (List.getElem_mem hj)) d hlo hhi (hin ?_)
        rw [Set.mem_Ico] at hd ⊢; omega
    · rw [Set.mem_Ico] at hd ⊢; omega
    · rw [Set.mem_Ico] at hd ⊢; omega

/-- Over memory without a marked word, untiled elements are copied one after the other, and none fails. -/
theorem State.gather_untiled {a c : Option Region} {bad : Nat} (hgood : s.mem.bad = []) (hcalm : ∀ i ∈ l, s.calm (tab + i * el) el = true)
    (hstill : s.still dst (l.length * el) = true) :
    s.gather (s.viewNow .clear) (s.viewNow .clear) false a c tab el l dst bad = (s.gathered tab el l dst, bad) := by
  induction l generalizing s dst bad with
  | nil => rfl
  | cons i l ih =>
    rw [List.length_cons, Nat.succ_mul] at hstill
    have hclean : s.poisonRange (tab + i * el) el = false := State.poisonRange_good hgood ..
    have hcopy : s.copyPlain (s.viewNow .clear) (s.viewNow .clear) (tab + i * el) dst el =
        (s.writeMem dst (s.readMem (tab + i * el) el), 0) := by
      rw [State.copyPlain, hclean, if_neg Bool.false_ne_true, State.readPE_calm s _ _ (hcalm i (by simp)), State.writePE_still]
      exact State.still_part hstill (le_refl _) (by rw [State.length_readMem]; omega)
    have hnext := ih (s := s.writeMem dst (s.readMem (tab + i * el) el)) (dst := dst + el) (bad := bad + 0)
      (by simp [State.writeMem, Mem.put, Mem.clearBad, hgood]) (fun j hj => hcalm j (List.mem_cons_of_mem _ hj))
      (State.still_part (s := s) hstill (Nat.le_add_right ..) (by omega))
    rw [State.gather, State.eccRead_clean hclean]
    · simp only [hcopy]
      exact hnext
    · exact fun _ _ htiled => absurd htiled Bool.false_ne_true

section
variable {b : List Byte} {ic : Nat}

/-- The indices that a GATHER names. -/
def gatherIndices (b : List Byte) (ic : Nat) : List Nat := (List.range ic).map fun i => bfld b (64 + 4 * i) 4

theorem length_gatherIndices (b : List Byte) (ic : Nat) : (gatherIndices b ic).length = ic := by simp [gatherIndices]

variable (hb : k.bytes = b) (htab : bfld b 32 8 = tab) (hel : bfld b 40 4 = el) (hic : bfld b 48 4 = ic) (hdst : wbResult n b = dst)
  (hact : s.wbAct n id 4 none = some k) (hlive : s.plcOk k.workUnit k.epoch = true) (hclash : s.clash = []) (huntiled : bfld b 28 1 % 2 = 0)
  (hidx : ∀ i, i < ic → bfld b (64 + 4 * i) 4 < bfld b 44 4) (happart : rangesMeet tab (bfld b 44 4 * el) dst (ic * el) = false)
  (hgood : s.mem.bad = []) (hktab : rangeKind (s.wbRegions n id) tab (bfld b 44 4 * el) = .untiled)
  (hkdst : rangeKind (s.wbRegions n id) dst (ic * el) = .untiled) (hcalm : (s.wbEnd n id).calm tab (bfld b 44 4 * el) = true)
  (hstill : (s.wbEnd n id).still dst (ic * el) = true)

include hidx in
/-- An element of a named index lies within the table. -/
theorem gatherIndices_within {i : Nat} (hi : i ∈ gatherIndices b ic) : i * el + el ≤ bfld b 44 4 * el := by
  obtain ⟨j, hj, rfl⟩ := List.mem_map.mp hi
  rw [← Nat.succ_mul]
  exact Nat.mul_le_mul_right _ (hidx j (List.mem_range.mp hj))

include hb htab hel hic hdst hact hlive hclash huntiled hidx happart hgood hktab hkdst hcalm hstill

theorem exec_gather_untiled : exec (.gather n id .clear) s =
    .next (((s.wbEnd n id).gathered tab el (gatherIndices b ic) dst).wbDone n id 0 0) := by
  have harm : exec (.gather n id .clear) s = execGather n id .clear s := rfl
  have hview : (s.wbEnd n id).viewEnd .clear = (s.wbEnd n id).viewNow .clear := State.viewEnd_quiet (by simpa using hclash) _
  have hmeet : (s.wbEnd n id).meet .clear tab (bfld b 44 4 * el) = s.wbEnd n id := rfl
  have hmode : (bfld b 28 1 % 2 == 1) = false := by rw [huntiled]; rfl
  have hidxs : (List.range ic).map (fun i => bfld b (64 + 4 * i) 4) = gatherIndices b ic := rfl
  have hgather : (s.wbEnd n id).gather ((s.wbEnd n id).viewNow .clear) ((s.wbEnd n id).viewNow .clear) false
      (regionIn (s.wbRegions n id) tab el) (regionIn (s.wbRegions n id) dst el) tab el (gatherIndices b ic) dst 0 =
      ((s.wbEnd n id).gathered tab el (gatherIndices b ic) dst, 0) :=
    State.gather_untiled (by rwa [State.wbEnd_mem])
      (fun i hi => State.calm_part hcalm (Nat.le_add_right ..) (by have := gatherIndices_within (el := el) hidx hi; omega))
      (by rwa [length_gatherIndices])
  have hmet : ∀ u : State, u.met ((s.wbEnd n id).viewNow .clear)
      (rangeAcc (s.wbRegions n id) tab (bfld b 44 4 * el) false ++ rangeAcc (s.wbRegions n id) dst (ic * el) true) = u := fun u => by
    rw [rangeAcc_none (regionIn_untiled hktab), rangeAcc_none (regionIn_untiled hkdst)]
    exact State.met_calm _ _ (by simpa using ⟨hcalm, State.calm_of_still _ _ _ hstill⟩) u
  rw [harm, execGather, hact]
  simp only [State.wbStale_live hlive, hb, htab, hel, hic, hdst, hmeet, hview, hidxs, length_gatherIndices, happart, hmode, hgather, hmet,
    View.busy_clear, Bool.false_eq_true, if_false, ne_eq, not_true_eq_false]

theorem gather_copies : ∃ t, exec (.gather n id .clear) s = .next t ∧
    (∀ i, i < ic → t.readMem (dst + i * el) el = s.readMem (tab + bfld b (64 + 4 * i) 4 * el) el) ∧
    (∀ d, d < dst ∨ dst + ic * el ≤ d → t.byte d = s.byte d) ∧ t.wbEnded n k 0 ∧ keeps s t [.weirs, .mem] := by
  have hexec := exec_gather_untiled hb htab hel hic hdst hact hlive hclash huntiled hidx happart hgood hktab hkdst hcalm hstill
  have hkeep := keeps_gathered (s.wbEnd n id) tab el (gatherIndices b ic) dst
  obtain ⟨hplaces, honly⟩ := State.gathered_spec (s := s.wbEnd n id) (tab := tab) (el := el) (l := gatherIndices b ic) (dst := dst)
    (W := Set.Ico dst (dst + ic * el)) (fun i hi d hlo hhi hd => by
      have hwithin := gatherIndices_within (el := el) hidx hi
      rw [Set.mem_Ico] at hd
      have := rangesMeet_apart happart (by omega) (by omega)
      omega) (by rw [length_gatherIndices])
  rw [length_gatherIndices] at honly
  generalize (s.wbEnd n id).gathered tab el (gatherIndices b ic) dst = u at hexec hkeep hplaces honly
  have hdone : (u.wbDone n id 0 0).mem = u.mem := State.wbDone_mem ..
  refine ⟨_, hexec, fun i hi => ?_, fun d hd => ?_, State.wbEnded_wbEnd hact (weirs_of_keeps hkeep (by simp)) 0 0,
    keeps_wbEnd_wbDone hkeep (by simp) hclash 0⟩
  · rw [State.readMem_of_mem hdone, hplaces i (by rwa [length_gatherIndices]), State.readMem_wbEnd]
    simp [gatherIndices]
  · rw [State.byte_of_mem hdone, honly.outside hd, State.byte_of_mem (s.wbEnd_mem n id)]

end

end Sys2Proof.Machine
end

section
/-! PROOF. An arriving fold into a slot never written (R232 to R234), and the commands of a Weir on memory. -/

namespace Sys2Proof.Machine
set_option Elab.async false

variable {s : State} {n : Fin 16} {x : FoldIn} {r : Region}

theorem exec_tileFold_in (hregion : regionIn s.trg x.dest 8192 = some r) (hstore : s.rangeStore x.dest 8192 = some n.val)
    (hstart : (x.dest - r.base) % r.slot = 0) (hkv : s.touchesKv x.dest 8192 = false) (hup : s.dieUp (dieW n) = true)
    (hawake : s.asleep = false) : exec (.tileFold n x) s =
      .next (s.foldTile (s.viewNow .clear) n r x.dest x.bf16 x.data x.fmt (!x.bad) x.workUnit x.epoch).1 := by
  have harm : exec (.tileFold n x) s = execTileFold n x s := rfl
  rw [harm, execTileFold, hregion]
  simp [hstore, hstart, hkv, hup, hawake]

section
variable {v : View} {m da : Nat} {b16 : Bool} {data : List Byte} (hslot : 8192 ≤ r.slot)
include hslot

theorem State.foldTile_stale {wu epoch : Nat} (hplc : s.plcOk wu epoch = false) (fmt : Nat) (ok : Bool) :
    s.foldTile v m r da b16 data fmt ok wu epoch = (s.discard, 2) := by
  rw [State.foldTile, if_neg (by omega), hplc]
  rfl

/-- A good tile that meets a slot without a valid trailer is added to zeros (R234). -/
theorem State.foldTile_fresh {wu epoch : Nat} {sum : List Byte} (hplc : s.plcOk wu epoch = true)
    (htrl : (s.trailer (r.trailerDA da)).valid = false) (hclean : s.poisonRange da 8192 = false)
    (hsum : foldBytes b16 (zeros 8192) (padTo 8192 data) = sum) (hstill : s.still da sum.length = true)
    (hstillT : s.still (r.trailerDA da) 8 = true) :
    s.foldTile (s.viewNow .clear) m r da b16 data (foldFmt b16) true wu epoch =
      ((s.tileStored r da sum (mkTrailer sum epoch (foldFmt b16) false false)).bump (Reg.Wn_FOLD_TILES m), 0) := by
  have hread : (s.readTile (s.viewNow .clear) r da).trl = s.trailer (r.trailerDA da) := by
    simp only [State.readTile, State.trailerPE, s.readPE_calm _ _ (s.calm_of_still _ _ hstillT), State.trailer]
  rw [State.foldTile, if_neg (by omega), hplc]
  simp only [Bool.not_true, Bool.false_eq_true, if_false, State.eccRead_clean hclean, hread, htrl, Bool.not_false, Bool.true_or, if_true, hsum,
    beq_self_eq_true, Bool.and_self, State.writeTile_still _ hstill hstillT]
  rfl

end

theorem length_zeros (m : Nat) : (zeros m).length = m := List.length_replicate ..

/-- The element sums of two tiles of 8,192 bytes take as many, whatever the size of an element. -/
theorem length_elementwise {m k : Nat} {res arr : List Byte} (hm : 0 < m) (hmk : m * k = 8192) (hres : res.length = 8192)
    (harr : arr.length = 8192) (f : Nat → Nat → Nat) :
    ((List.zipWith f (elemsOf m res.length res) (elemsOf m arr.length arr)).flatMap (toBytesLE m)).length = 8192 := by
  have hk : k ≤ 8192 := hmk ▸ Nat.le_mul_of_pos_left k hm
  have hr : (elemsOf m res.length res).length = k := length_elemsOf hm (hres.trans hmk.symm) (by omega)
  have ha : (elemsOf m arr.length arr).length = k := length_elemsOf hm (harr.trans hmk.symm) (by omega)
  simp only [List.length_flatMap, length_toBytesLE, List.map_const', List.sum_replicate, List.length_zipWith, hr, ha, min_self, smul_eq_mul]
  rw [Nat.mul_comm, hmk]

theorem length_foldBytes {res arr : List Byte} (hres : res.length = 8192) (harr : arr.length = 8192) (b16 : Bool) :
    (foldBytes b16 res arr).length = 8192 := by
  cases b16
  · exact length_elementwise (m := 4) (k := 2048) (by decide) rfl hres harr _
  · exact length_elementwise (m := 2) (k := 4096) (by decide) rfl hres harr _

theorem tileFold_fresh (hexec : exec (.tileFold n x) s =
      .next (s.foldTile (s.viewNow .clear) n r x.dest x.bf16 x.data x.fmt (!x.bad) x.workUnit x.epoch).1)
    (hslot : 8192 ≤ r.slot) (hplc : s.plcOk x.workUnit x.epoch = true) (htrl : (s.trailer (r.trailerDA x.dest)).valid = false)
    (hbad : x.bad = false) (hfmt : x.fmt = foldFmt x.bf16) (hclean : s.poisonRange x.dest 8192 = false) (hstill : s.still x.dest 8192 = true)
    (hstillT : s.still (r.trailerDA x.dest) 8 = true) {sum : List Byte} (hsum : foldBytes x.bf16 (zeros 8192) (padTo 8192 x.data) = sum)
    (happart : rangesMeet x.dest sum.length (r.trailerDA x.dest) 8 = false) :
    ∃ t, exec (.tileFold n x) s = .next t ∧ t.readMem x.dest sum.length = sum ∧
      t.readMem (r.trailerDA x.dest) 8 = (mkTrailer sum x.epoch x.fmt false false).toBytes ∧
      (∀ d, d < x.dest ∨ x.dest + sum.length ≤ d → d < r.trailerDA x.dest ∨ r.trailerDA x.dest + 8 ≤ d → t.byte d = s.byte d) ∧
      t.regs = (s.bump (Reg.Wn_FOLD_TILES n)).regs ∧ keeps s t [.mem, .regs] := by
  have hlen : sum.length = 8192 := by rw [← hsum, length_foldBytes (length_zeros 8192) (length_padTo ..)]
  have hsumStill : s.still x.dest sum.length = true := hlen.symm ▸ hstill
  obtain ⟨hread, htrailer, hout⟩ := s.tileStored_spec (mkTrailer sum x.epoch x.fmt false false) rfl (by omega) happart
  rw [hbad, hfmt, Bool.not_false, State.foldTile_fresh hslot hplc htrl hclean hsum hsumStill hstillT, ← hfmt] at hexec
  exact ⟨_, hexec, hread, htrailer, hout, rfl,
    keeps_trans (keeps_mono (keeps_tileStored ..) (by simp)) (keeps_mono (keeps_bump ..) (by simp))⟩

/-- Settles O21: each command's effect on memory, then its end with the status. -/
theorem weirDataResults : Obligations.WeirDataResults := by
  refine ⟨fun n id s k hstale => ⟨fun hact => ?_, fun hact pe => ?_, fun hact pe => ?_⟩, ?append, ?attend, ?fold, ?gather, ?tileFold⟩
  · obtain ⟨rfl, -⟩ := State.wbAct_runs hact
    exact exec_append_stale hstale hact
  · obtain ⟨rfl, -⟩ := State.wbAct_runs hact
    exact exec_attend_stale hstale hact pe
  · obtain ⟨rfl, -⟩ := State.wbAct_runs hact
    exact exec_gather_stale hstale hact pe
  case append =>
    exact fun n id s k hact hlive hclash hcount hlen hholds hend hstrl hfclean hclean =>
      append_stores hact hlive hclash hcount hlen rfl rfl rfl hholds hend hstrl hfclean hclean
  case attend => exact fun n id s k hact hlive hclash hown hstill => attend_answers hact hlive hclash rfl hown rfl hstill
  case fold => exact fun n id s k hact hlive hclash => foldCommand_sums rfl rfl rfl hact hlive hclash
  case gather =>
    exact fun n id s k hact hlive hclash huntiled hidx _ happart hgood hktab hkdst hcalm hstill =>
      gather_copies rfl rfl rfl rfl rfl hact hlive hclash huntiled hidx happart hgood hktab hkdst hcalm hstill
  case tileFold =>
    intro n x s r hregion hstore hstart hkv hup hawake hslot
    have hexec := exec_tileFold_in hregion hstore hstart hkv hup hawake
    refine ⟨fun hstale => ?_, fun hlive htrl hbad hfmt hclean hstill hstillT happart =>
      tileFold_fresh hexec hslot hlive htrl hbad hfmt hclean hstill hstillT rfl happart⟩
    rw [hexec, State.foldTile_stale hslot hstale]

end Sys2Proof.Machine
end

section
/-! PROOF. A block that starts at its Weir, and one that is over (R121, R201, R202, R204). -/

namespace Sys2Proof.Machine
set_option Elab.async false

variable {s : State} {n : Fin 16} {k : WBlk} {rest : List WBlk}

/-! ### The start -/

/-- A Weir's reach lies at level 2, and its one queue is the Weir's. -/
theorem weirRid_spec (n : Fin 16) : ridLevel (weirRid n) < 4 ∧ ridIsWeir (weirRid n) = true ∧ ridUnit (weirRid n) - 16 = n := by
  revert n
  decide

theorem State.weirOf_weirRid (s : State) (n : Fin 16) : s.weirOf (weirRid n) = s.weir n := by
  obtain ⟨-, hweir, hunit⟩ := weirRid_spec n
  rw [State.weirOf, if_pos hweir, hunit]

/-- The block of a Weir's queue that may start next. -/
def State.nextBlk (s : State) (n : Nat) : Option WBlk :=
  pickBlk (s.weir n) [] ((s.weir n).queue.filter fun k => !s.actionHolds n k && s.headsReach n k.id)

/-- A Weir with the block k, out of its queue, running under the regions of now: over already where its check fails. -/
def State.startedWeir (s : State) (n : Nat) (k : WBlk) (queue : List WBlk) : Weir :=
  { s.weir n with queue, running := (s.weir n).running ++ [⟨k, s.trg, if s.wbCheck n k = 0 then none else some (s.wbCheck n k)⟩] }

section
variable (hup : s.dieUp (dieW n) = true) (hawake : s.asleep = false)
  (hroom : (s.weir n).running.length + (s.reach (weirRid n)).running.length < 16)
include hup hawake hroom

/-- A Weir that runs, and has room, looks for a block that may start. -/
theorem weirCommandStart_ready : (!s.dieUp (dieW n) || s.asleep || decide (s.runCount (weirRid n) ≥ 16)) = false := by
  have hrun : s.runCount (weirRid n) < 16 := by rw [State.runCount, State.weirOf_weirRid]; omega
  simp [hup, hawake, hrun]

/-- Where no block may start, nothing does. -/
theorem exec_weirCommandStart_none (hpick : s.nextBlk n = none) : exec (.weirCommandStart n) s = .next s := by
  have harm : exec (.weirCommandStart n) s = execWeirCommandStart n s := rfl
  unfold State.nextBlk at hpick
  rw [harm, execWeirCommandStart]
  simp only [weirCommandStart_ready hup hawake hroom, hpick, Bool.false_eq_true, if_false]

/-- A cell's block that may start is admitted at once (R206). -/
theorem exec_weirCommandStart_cell {ci op : Nat} (hpick : s.nextBlk n = some k) (hiss : k.iss = .cell ci op) :
    exec (.weirCommandStart n) s =
      .next ((s.setWeir n (s.startedWeir n k ((s.weir n).queue.filter (·.id ≠ k.id)))).pullQueue (weirRid n)) := by
  have harm : exec (.weirCommandStart n) s = execWeirCommandStart n s := rfl
  unfold State.nextBlk at hpick
  rw [harm, execWeirCommandStart]
  simp only [weirCommandStart_ready hup hawake hroom, hpick, hiss, Bool.false_eq_true, if_false]
  rfl

variable (hqueue : (s.weir n).queue = k :: rest)
include hqueue

theorem weirCommandStart_starts {ci op : Nat} (hidle : s.slotAct = none) (hiss : k.iss = .cell ci op) (hid : ∀ x ∈ rest, x.id ≠ k.id)
    (hheld : (s.reach (weirRid n)).held = []) (hfree : slotFree (s.weir n) [] k = true)
    (hfirst : ∀ c ∈ (s.reach (weirRid n)).queue, k.id < c.id) : ∃ t, exec (.weirCommandStart n) s = .next t ∧
      t.weir n = s.startedWeir n k rest ∧
      (∀ j, j ≠ n.val → t.weir j = s.weir j) ∧ (∀ r, t.reach r = s.reach r) ∧ keeps s t [.weirs, .reaches] := by
  have hholds : s.actionHolds n k = false := by rw [State.actionHolds, hidle]
  have hheads : s.headsReach n k.id = true := List.all_eq_true.mpr fun c hc => decide_eq_true (hfirst c hc)
  have hpick : s.nextBlk n = some k := by
    rw [State.nextBlk, hqueue, List.filter_cons_of_pos (by rw [hholds, hheads]; rfl), pickBlk, if_pos hfree]
  have hexec := exec_weirCommandStart_cell hup hawake hroom hpick hiss
  have hrest : (s.weir n).queue.filter (·.id ≠ k.id) = rest := by
    rw [hqueue, List.filter_cons_of_neg (by simp), List.filter_eq_self]
    exact fun x hx => decide_eq_true (hid x hx)
  rw [hrest] at hexec
  generalize s.startedWeir n k rest = w at hexec ⊢
  have hpull : keeps (s.setWeir n w) ((s.setWeir n w).pullQueue (weirRid n)) [.reaches] := by
    have h := keeps_pullQueue (s := s.setWeir n w) (weirRid n)
    rwa [queueParts, if_pos (weirRid_spec n).1] at h
  have hweirs : ((s.setWeir n w).pullQueue (weirRid n)).weirs = (s.setWeir n w).weirs := weirs_of_keeps hpull (by simp)
  have hreach : ∀ r, (s.setWeir n w).reach r = s.reach r := State.reach_congr (State.setWeir_reaches ..)
  refine ⟨_, hexec, ?_, fun j hj => ?_, fun r => ?_,
    keeps_trans (keeps_mono (keeps_setWeir s n w) (by simp)) (keeps_mono hpull (by simp))⟩
  · rw [State.weir_of_weirs hweirs, State.weir_setWeir]
  · rw [State.weir_of_weirs hweirs, State.weir_setWeir_ne _ _ hj]
  · by_cases hr : r = weirRid n
    · subst hr
      rw [State.reach_pullQueue, hreach, Reach.pull_nil hheld]
    · rw [State.reach_pullQueue_ne _ hr, hreach]

variable (hrest : rest = [])
include hrest

/-- The only block waits behind an older reach command (R59, R201). -/
theorem weirCommandStart_behind (holder : ∃ c ∈ (s.reach (weirRid n)).queue, c.id ≤ k.id) : exec (.weirCommandStart n) s = .next s := by
  obtain ⟨c, hc, hle⟩ := holder
  have hheads : s.headsReach n k.id = false := List.all_eq_false.mpr ⟨c, hc, by simpa using hle⟩
  refine exec_weirCommandStart_none hup hawake hroom ?_
  rw [State.nextBlk, hqueue, hrest, List.filter_cons_of_neg (by simp [hheads])]
  rfl

/-- The only block waits while a command of its slot runs. -/
theorem weirCommandStart_sameSlot (hfree : slotFree (s.weir n) [] k = false) : exec (.weirCommandStart n) s = .next s := by
  refine exec_weirCommandStart_none hup hawake hroom ?_
  rw [State.nextBlk, hqueue, hrest, List.filter_cons]
  split
  · rw [List.filter_nil, pickBlk, hfree, if_neg Bool.false_ne_true]
    rfl
  · rfl

end

/-! ### The end -/

/-- A status of the device is never a fault that stops it (R652). -/
theorem statusSev_ne_three (code : Nat) : statusSev code ≠ 3 := by
  unfold statusSev
  split_ifs <;> decide

theorem keeps_raiseStatus (s : State) (code source unit : Nat) (addr : Option Nat) (detail : Nat) :
    keeps s (s.raiseStatus code source unit addr detail) [.err, .errSeq, .outbox, .store] := by
  unfold State.raiseStatus
  split
  · exact keeps_refl ..
  · exact keeps_raiseErr (statusSev_ne_three code) ..

theorem SameRoutes.of_keeps {t : State} (h : keeps s t [.weirs, .err, .errSeq, .outbox, .store]) : SameRoutes s t := by
  simp only [keeps, List.mem_cons, List.not_mem_nil, reduceCtorEq, or_false, false_or] at h
  exact .of_regs (by simp [h]) (by simp [h]) (by simp [h]) (by simp [h]) (by simp [h])

/-- The operation that was replaced is found in its place. -/
theorem Cell.op_setOp {x : Cell} {o o' : AOp} {id : Nat} (h : x.op id = some o) (hid : o'.id = o.id) : (x.setOp o').op id = some o' := by
  have hoid : o.id = id := by simpa using List.find?_some h
  rw [hoid] at hid
  simp only [Cell.op, Cell.setOp, hid] at h ⊢
  clear hoid
  generalize x.ops = l at h ⊢
  induction l with
  | nil => cases h
  | cons y l ih =>
    rw [List.map_cons]
    by_cases hy : y.id = id
    · rw [if_pos hy, List.find?_cons_of_pos (by simpa using hid)]
    · rw [List.find?_cons_of_neg (by simpa using hy)] at h
      rw [if_neg hy, List.find?_cons_of_neg (by simpa using hy)]
      exact ih h

theorem State.opDone_op {ci op st : Nat} {o : AOp} (h : (s.cell ci).op op = some o) : s.opDone ci op st =
    s.setCell ci ((s.cell ci).setOp { o with left := o.left - 1, status := worseStatus o.status st }) := by
  simp only [State.opDone, h]

/-- A Weir without a command. -/
def Weir.without (w : Weir) (id : Nat) : Weir := { w with running := w.running.filter (·.blk.id ≠ id) }

/-- The device without a command that is over, its exception recorded. -/
def State.weirLeft (s : State) (n id st detail : Nat) : State :=
  (s.setWeir n ((s.weir n).without id)).raiseStatus st (dieW n) (weirRid n) none detail

theorem keeps_weirLeft (s : State) (n id st detail : Nat) :
    keeps s (s.weirLeft n id st detail) [.weirs, .err, .errSeq, .outbox, .store] :=
  keeps_trans (keeps_mono (keeps_setWeir ..) (by simp)) (keeps_mono (keeps_raiseStatus ..) (by simp))

theorem State.cell_weirLeft (s : State) (n id st detail ci : Nat) : (s.weirLeft n id st detail).cell ci = s.cell ci := by
  simp [State.weirLeft, State.cell]

theorem weirCommandComplete_counts {id st ci op : Nat} {y : WRun} {o : AOp} (hfind : (s.weir n).running.find? (fun y => y.blk.id == id) = some y)
    (hdone : y.done = some st) (hfatal : s.pwr.fatal = false) (hawake : s.asleep = false) (hiss : y.blk.iss = .cell ci op)
    (hpath : s.weirPath (ci / 256) n = true) (hop : (s.cell ci).op op = some o) (hsig : o.sig.inc = 0) :
    ∃ t o', exec (.weirCommandComplete n id) s = .next t ∧ (t.weir n).running = (s.weir n).running.filter (·.blk.id ≠ id) ∧
      (t.cell ci).op op = some o' ∧ o'.left = o.left - 1 ∧ o'.status = worseStatus o.status st ∧ (t.cell ci).s = (s.cell ci).s ∧
      keeps s t [.weirs, .cells, .outbox, .errSeq, .err, .store] := by
  have harm : exec (.weirCommandComplete n id) s = execWeirCommandComplete n id s := rfl
  have hkeep := keeps_weirLeft s n id st (wbOp y.blk.bytes)
  have hcell := s.cell_weirLeft n id st (wbOp y.blk.bytes) ci
  have hweir : (s.weirLeft n id st (wbOp y.blk.bytes)).weir n = (s.weir n).without id := by
    rw [State.weirLeft, State.weir_of_weirs (State.raiseStatus_weirs ..), State.weir_setWeir]
  have hexec : exec (.weirCommandComplete n id) s =
      .next (((s.weirLeft n id st (wbOp y.blk.bytes)).weirReport n y.blk st).getD s) := by
    rw [harm, execWeirCommandComplete]
    simp only [hfind, hdone, hfatal, hawake, Bool.or_self, Bool.false_eq_true, if_false]
    rfl
  generalize s.weirLeft n id st (wbOp y.blk.bytes) = u at hkeep hcell hweir hexec
  have hupath : u.weirPath (ci / 256) n = true := ((SameRoutes.of_keeps hkeep).diePath ..).trans hpath
  have huop : (u.cell ci).op op = some o := by rwa [hcell]
  have hreport : u.weirReport n y.blk st =
      some (u.setCell ci ((u.cell ci).setOp { o with left := o.left - 1, status := worseStatus o.status st })) := by
    simp only [State.weirReport, hiss, hupath, State.wqPart, huop, hsig, Bool.not_true, Bool.false_and, Bool.false_eq_true, if_false, if_true,
      Option.map_some, State.opDone_op huop]
  rw [hreport] at hexec
  refine ⟨_, { o with left := o.left - 1, status := worseStatus o.status st }, hexec, ?_, ?_, rfl, rfl, ?_, ?_⟩
  · rw [Option.getD_some, State.weir_of_weirs (State.setCell_weirs ..), hweir, Weir.without]
  · rw [Option.getD_some, State.cell_setCell]
    exact Cell.op_setOp huop rfl
  · rw [Option.getD_some, State.cell_setCell, hcell]
    rfl
  · exact keeps_trans (keeps_mono hkeep (by simp)) (by simp [keeps])

end Sys2Proof.Machine
end

section
/-! PROOF. The registers of the partition and the slots (R212, R213, R239 to R247). -/

namespace Sys2Proof.Machine
set_option Elab.async false

variable {s : State} {o : Origin} {v : Word}

theorem kvPart_isReg : isReg Reg.KEY_KV_PART .rw 0xFFFFFFFF 0xFFFFFFFF = true := by decide +kernel

theorem slotSel_isReg : isReg Reg.KEY_SLOT_SEL .rw 0x7 0 = true := by decide +kernel

theorem slotCfg_isReg : isReg Reg.KEY_SLOT_CFG .wo 0x3 0x3 = true := by decide +kernel

/-! ### The partition (R239) -/

section
variable (hw : writable s Reg.KEY_KV_PART) (hidle : s.slotAct = none)
include hw hidle

theorem kvPartWrite_active (hactive : (s.slots.any fun kv => kv.2.active) = true) :
    exec (.kvPartWrite o v) s = .next (s.setRf Reg.KEY_SLOT_STATUS 1 3 4) := by
  have harm : exec (.kvPartWrite o v) s = .next (s.wKvPart o 0 v) := rfl
  obtain ⟨hb, -, -⟩ := hw
  obtain ⟨d, hr, -, hmask, -⟩ := regAt_of_isReg kvPart_isReg
  have hclean : v &&& ~~~ d.mask = 0 := by rw [hmask]; exact clean_of_lt (w := 32) v.isLt
  simp only [harm, State.wKvPart, hidle, hactive, Option.isSome_none, Bool.false_eq_true, if_false, if_true]
  rw [State.gate_own hb (Bool.and_false _) hr hclean, slotErr]

variable (hactive : (s.slots.any fun kv => kv.2.active) = false)
include hactive

theorem kvPartWrite_tooLarge (hheight : s.fuses.stackHeight = 16) (hcap : 65536 < v.fld 0 16 + v.fld 16 16) :
    exec (.kvPartWrite o v) s = .next (s.setRf Reg.KEY_SLOT_STATUS 1 3 1) := by
  have harm : exec (.kvPartWrite o v) s = .next (s.wKvPart o 0 v) := rfl
  obtain ⟨hb, -, -⟩ := hw
  obtain ⟨d, hr, -, hmask, -⟩ := regAt_of_isReg kvPart_isReg
  have hclean : v &&& ~~~ d.mask = 0 := by rw [hmask]; exact clean_of_lt (w := 32) v.isLt
  simp only [harm, State.wKvPart, hidle, hactive, hheight, gt_iff_lt, hcap, Option.isSome_none, Bool.false_eq_true, if_false, if_true]
  rw [State.gate_own hb (Bool.and_false _) hr hclean, slotErr]

theorem kvPartWrite_stores (hfits : v.fld 0 16 + v.fld 16 16 ≤ 49152) : ∃ t, exec (.kvPartWrite o v) s = .next t ∧
    t.kvBase = v.fld 0 16 * 2 ^ 20 ∧ t.kvSize = v.fld 16 16 * 2 ^ 20 ∧ t.log.next = s.log.next + 1 ∧ keeps s t [.regs, .log, .store] := by
  have harm : exec (.kvPartWrite o v) s = .next (s.wKvPart o 0 v) := rfl
  obtain ⟨hb, -, hq⟩ := hw
  obtain ⟨d, hr, hd, hmask, hlog⟩ := regAt_of_isReg kvPart_isReg
  have hclean : v &&& ~~~ d.mask = 0 := by rw [hmask]; exact clean_of_lt (w := 32) v.isLt
  have hcap : ¬v.fld 0 16 + v.fld 16 16 > if s.fuses.stackHeight = 16 then 65536 else 49152 := by split <;> omega
  have hwrite : s.wKvPart o 0 v = (s.logPut (originCode o) 0 Reg.KEY_KV_PART
      (regValue o 0 (s.reg Reg.KEY_KV_PART) v d.logMask)).setReg Reg.KEY_KV_PART v := by
    simp only [State.wKvPart, hidle, hactive, hcap, Option.isSome_none, Bool.false_eq_true, if_false]
    rw [State.gate_logged hb (Bool.and_false _) hr (RegDesc.hasRwl_only hd (by decide)) (by rw [hlog]; decide) hclean hq.2.2,
      RegDesc.eff_rw hd, and_mask_of_clean hclean, State.logChange_quiet hq, State.keepReg_only _ hr hd (by decide)]
  refine ⟨_, by rw [harm, hwrite], ?_, ?_, ?_, keeps_logPut_setReg ..⟩
  · rw [State.kvBase, State.rf, State.reg_setReg]
  · rw [State.kvSize, State.rf, State.reg_setReg]
  · rw [State.setReg_log, State.logPut_log]

end

/-! ### The selected slot (R240) -/

theorem slotSelect_loads (hb : s.blockAnswers Reg.KEY_SLOT_SEL = true) (hv : v.toNat < 8) : ∃ t, exec (.slotSelect o v) s = .next t ∧
    t.reg Reg.KEY_SLOT_SEL = v ∧ t.reg Reg.KEY_SLOT_RSV = (tget .free s.slots v.toNat).rsv ∧
    t.reg Reg.KEY_SLOT_SHAPE = (tget .free s.slots v.toNat).shape ∧ t.reg Reg.KEY_SLOT_POL0 = (tget .free s.slots v.toNat).pol0 ∧
    t.reg Reg.KEY_SLOT_POL1 = (tget .free s.slots v.toNat).pol1 ∧ keeps s t [.regs] := by
  have harm : exec (.slotSelect o v) s = .next (s.wSlotSel o 0 v) := rfl
  obtain ⟨d, hr, hd, hmask, hlog⟩ := regAt_of_isReg slotSel_isReg
  have hclean : v &&& ~~~ d.mask = 0 := by rw [hmask]; exact clean_of_lt (w := 3) hv
  have hfld : v.fld 0 3 = v.toNat := by
    rw [Word.fld, bitsOf, Nat.pow_zero, Nat.div_one]
    exact Nat.mod_eq_of_lt hv
  have hwrite : s.wSlotSel o 0 v = ((((s.setReg Reg.KEY_SLOT_SEL v).setReg Reg.KEY_SLOT_RSV (tget .free s.slots v.toNat).rsv).setReg
      Reg.KEY_SLOT_SHAPE (tget .free s.slots v.toNat).shape).setReg Reg.KEY_SLOT_POL0 (tget .free s.slots v.toNat).pol0).setReg
      Reg.KEY_SLOT_POL1 (tget .free s.slots v.toNat).pol1 := by
    rw [State.wSlotSel, State.gate_unlogged hb (Bool.and_false _) hr (RegDesc.hasRwl_only hd (by decide)) hlog, if_pos hclean, RegDesc.eff_rw hd,
      and_mask_of_clean hclean, hfld, State.keepReg_only _ hr hd (by decide)]
  refine ⟨_, by rw [harm, hwrite], ?_, ?_, ?_, ?_, State.reg_setReg .., by simp [keeps]⟩
  all_goals simp (disch := decide) only [State.reg_setReg, State.reg_setReg_ne]

/-! ### The actions (R212, R213, R246) -/

section
variable (s)

/-- Of what a create is checked by, a log entry changes nothing. -/
theorem State.staged_logPut (c kind obj : Nat) (b : List Byte) : (s.logPut c kind obj b).staged = s.staged := by
  simp (disch := decide) only [State.staged, State.logPut_slots, State.rf, State.reg_logPut_ne]

theorem State.createCheck_logPut (c kind obj : Nat) (b : List Byte) (k : Nat) (x : Slot) :
    (s.logPut c kind obj b).createCheck k x = s.createCheck k x := by
  simp (disch := decide) only [State.createCheck, State.logPut_slots, State.rf, State.reg_logPut_ne]
  rfl

theorem State.createCheck_le (k : Nat) (x : Slot) : s.createCheck k x ≤ 3 := by
  unfold State.createCheck
  dsimp only
  split_ifs <;> decide

/-- The error with which an action on the selected slot is refused when it starts; 0 where it is not. -/
def State.slotRefusal (a : Nat) : Nat :=
  if a = 1 then s.createCheck (s.rf Reg.KEY_SLOT_SEL 0 3) s.staged else if a = 2 && !policyOk s.staged.pol0 s.staged.pol1 then 3 else 0

end

section
variable {a : Nat} (hw : writable s Reg.KEY_SLOT_CFG) (hidle : s.slotAct = none) (hfld : v.fld 0 2 = a) (hv : v.toNat < 4) (ha : a ≠ 0)
include hw hidle hfld hv ha

/-- An action on a slot of the wrong state is ignored with error 4 (R213). -/
theorem State.wSlotCfg_wrong (hstate : ((tget .free s.slots (s.rf Reg.KEY_SLOT_SEL 0 3)).active == (a == 1)) = true) :
    s.wSlotCfg o 0 v = s.setRf Reg.KEY_SLOT_STATUS 1 3 4 := by
  obtain ⟨hb, -, -⟩ := hw
  obtain ⟨d, hr, -, hmask, -⟩ := regAt_of_isReg slotCfg_isReg
  have hclean : v &&& ~~~ d.mask = 0 := by rw [hmask]; exact clean_of_lt (w := 2) hv
  simp only [State.wSlotCfg, hidle, hfld, ha, hstate, Option.isSome_none, Bool.false_eq_true, ne_eq, not_false_eq_true, decide_true, Bool.and_self,
    if_false, if_true]
  rw [State.gate_own hb (Bool.and_false _) hr hclean, slotErr]

/-- An action on a slot of the right state is logged, then refused or started. -/
theorem State.wSlotCfg_taken (hstate : ((tget .free s.slots (s.rf Reg.KEY_SLOT_SEL 0 3)).active == (a == 1)) = false) :
    ∃ b, s.wSlotCfg o 0 v = if s.slotRefusal a ≠ 0 then slotErr (s.slotRefusal a) (s.logPut (originCode o) 0 Reg.KEY_SLOT_CFG b)
      else { s.logPut (originCode o) 0 Reg.KEY_SLOT_CFG b with
        slotAct := some { slot := s.rf Reg.KEY_SLOT_SEL 0 3, action := a, staged := s.staged, applied := [] } } := by
  obtain ⟨hb, -, hq⟩ := hw
  obtain ⟨d, hr, hd, hmask, hlog⟩ := regAt_of_isReg slotCfg_isReg
  have hclean : v &&& ~~~ d.mask = 0 := by rw [hmask]; exact clean_of_lt (w := 2) hv
  refine ⟨regValue o 0 0 (d.eff false 0 v) d.logMask, ?_⟩
  simp only [State.wSlotCfg, hidle, hfld, hstate, Option.isSome_none, Bool.false_eq_true, Bool.and_false, if_false]
  rw [State.gate_logged hb (Bool.and_false _) hr (RegDesc.hasRwl_only hd (by decide)) (by rw [hlog]; decide) hclean hq.2.2,
    State.logChange_quiet hq]
  simp only [State.staged_logPut, State.createCheck_logPut, ha, if_false, State.slotRefusal]
  rfl

/-- An action that nothing refuses starts. -/
theorem wSlotCfg_starts (hstate : ((tget .free s.slots (s.rf Reg.KEY_SLOT_SEL 0 3)).active == (a == 1)) = false) (hok : s.slotRefusal a = 0) :
    ∃ t, s.wSlotCfg o 0 v = t ∧ t.slotAct = some { slot := s.rf Reg.KEY_SLOT_SEL 0 3, action := a, staged := s.staged, applied := [] } ∧
      t.log.next = s.log.next + 1 ∧ keeps s t [.regs, .slotAct, .log, .store] := by
  obtain ⟨b, hwrite⟩ := State.wSlotCfg_taken (o := o) hw hidle hfld hv ha hstate
  rw [hok, if_neg (by simp)] at hwrite
  exact ⟨_, hwrite, rfl, by simp [State.logPut_log], by simp [keeps]⟩

/-- An action that its check refuses only sets the error. -/
theorem wSlotCfg_refused (hstate : ((tget .free s.slots (s.rf Reg.KEY_SLOT_SEL 0 3)).active == (a == 1)) = false) (hbad : s.slotRefusal a ≠ 0)
    (hle : s.slotRefusal a ≤ 3) : ∃ t, s.wSlotCfg o 0 v = t ∧ t.slotAct = none ∧ t.rf Reg.KEY_SLOT_STATUS 1 3 = s.slotRefusal a ∧
      keeps s t [.regs, .log, .store] := by
  obtain ⟨b, hwrite⟩ := State.wSlotCfg_taken (o := o) hw hidle hfld hv ha hstate
  rw [if_pos hbad] at hwrite
  refine ⟨_, hwrite, by simp [slotErr, hidle], ?_, by simp [slotErr, keeps]⟩
  rw [slotErr, State.rf_setRf _ _ (by decide)]
  omega

end

end Sys2Proof.Machine
end

section
/-! PROOF. SLOT_ACTION_DONE (R213, R247), and the queues, the partition and the slots of the Weirs. -/

namespace Sys2Proof.Machine
set_option Elab.async false

variable {s : State} {a : SlotAct} {n k : Nat} {x y : Slot}

/-! ### What one Weir's application changes -/

/-- A Weir's copy of the slot after an action; a create starts from the keystone's. -/
def State.copyAfter (s : State) (a : SlotAct) (n : Nat) : Slot :=
  a.after (if a.action = 1 then tget .free s.slots a.slot else s.wslot n a.slot)

/-- A Weir that applied an action. -/
def State.appliedWeir (s : State) (a : SlotAct) (n : Nat) : Weir :=
  { s.weir n with
    slots := tset .free (s.weir n).slots a.slot (s.copyAfter a n)
    lens := if a.action = 2 then (s.weir n).lens else tset 0 (s.weir n).lens a.slot 0 }

/-- The parts that an action changes at the Weirs: a create initialises memory too. -/
def SlotAct.parts (a : SlotAct) : List SPart := if a.action = 1 then [.weirs, .mem] else [.weirs]

theorem SlotAct.weirs_parts (a : SlotAct) : [SPart.weirs] ⊆ a.parts := by unfold SlotAct.parts; split <;> simp

theorem keeps_initSlot (s : State) (n : Nat) (x : Slot) : keeps s (s.initSlot n x) [.mem] :=
  keeps_trans (keeps_foldl (fun _ _ => keeps_trans (keeps_writeMem ..) (keeps_putHdr ..)) _ s) (keeps_foldl (fun _ _ => keeps_blkPut ..) _ _)

/-- A Weir's application changes its own copy and length, and with a create its stack. -/
theorem State.applySlot_spec (s : State) (a : SlotAct) (n : Nat) : (s.applySlot a n).weir n = s.appliedWeir a n ∧
    (∀ m, m ≠ n → (s.applySlot a n).weir m = s.weir m) ∧ keeps s (s.applySlot a n) a.parts := by
  by_cases h2 : a.action = 2
  · have hset : s.applySlot a n = s.setWeir n (s.appliedWeir a n) := by
      simp [State.applySlot, State.appliedWeir, State.copyAfter, State.setWslot, h2]
    rw [hset]
    exact ⟨State.weir_setWeir .., fun m hm => State.weir_setWeir_ne _ _ hm, keeps_mono (keeps_setWeir ..) a.weirs_parts⟩
  · set v := (s.setWslot n a.slot (s.copyAfter a n)).setLen n a.slot 0 with hv
    have hself : v.weir n = s.appliedWeir a n := by
      simp [hv, State.setLen, State.setWslot, State.appliedWeir, h2]
    have hother : ∀ m, m ≠ n → v.weir m = s.weir m := fun m hm => by
      rw [hv, State.weir_setLen_ne _ _ _ hm, State.setWslot, State.weir_setWeir_ne _ _ hm]
    have hkeep : keeps s v [.weirs] := keeps_trans (keeps_setWeir ..) (keeps_setWeir ..)
    have happly : s.applySlot a n = if a.action = 1 then v.initSlot n (s.copyAfter a n) else v := by
      simp only [State.applySlot, h2, if_false]
      rfl
    by_cases h1 : a.action = 1
    · have hinit := keeps_initSlot v n (s.copyAfter a n)
      have hweirs := weirs_of_keeps hinit (by simp)
      rw [happly, if_pos h1, SlotAct.parts, if_pos h1, State.weir_of_weirs hweirs]
      exact ⟨hself, fun m hm => (State.weir_of_weirs hweirs m).trans (hother m hm),
        keeps_trans (keeps_mono hkeep (by simp)) (keeps_mono hinit (by simp))⟩
    · rw [happly, if_neg h1]
      exact ⟨hself, hother, keeps_mono hkeep a.weirs_parts⟩

theorem slots_of_keeps {t : State} {l : List SPart} (h : keeps s t l) (hno : SPart.slots ∉ l) : t.slots = s.slots := by simp_all [keeps]

theorem slotAct_of_keeps {t : State} {l : List SPart} (h : keeps s t l) (hno : SPart.slotAct ∉ l) : t.slotAct = s.slotAct := by simp_all [keeps]

theorem pwr_of_keeps {t : State} {l : List SPart} (h : keeps s t l) (hno : SPart.pwr ∉ l) : t.pwr = s.pwr := by simp_all [keeps]

theorem SlotAct.slots_notin_parts (a : SlotAct) : SPart.slots ∉ a.parts := by unfold SlotAct.parts; split <;> simp

/-- What the Weirs of a list have applied, each for itself. -/
theorem State.applyAll_spec (s : State) (a : SlotAct) {ns : List Nat} (hnodup : ns.Nodup) :
    (∀ m, (ns.foldl (fun s n => s.applySlot a n) s).weir m = if m ∈ ns then s.appliedWeir a m else s.weir m) ∧
      keeps s (ns.foldl (fun s n => s.applySlot a n) s) a.parts := by
  refine ⟨?_, keeps_foldl (fun s n => (s.applySlot_spec a n).2.2) ns s⟩
  induction ns generalizing s with
  | nil => exact fun m => (if_neg (by simp)).symm
  | cons n ns ih =>
    obtain ⟨hn, hns⟩ := List.nodup_cons.mp hnodup
    obtain ⟨hself, hother, hkeep⟩ := s.applySlot_spec a n
    have hslots := slots_of_keeps hkeep a.slots_notin_parts
    intro m
    rw [List.foldl_cons, ih _ hns m]
    by_cases hm : m = n
    · subst hm
      rw [if_neg hn, if_pos List.mem_cons_self, hself]
    · have happlied : (s.applySlot a n).appliedWeir a m = s.appliedWeir a m := by
        simp only [State.appliedWeir, State.copyAfter, State.wslot, hother m hm, hslots]
      simp only [happlied, hother m hm, List.mem_cons, hm, false_or]

/-! ### The keystone's copy (R211) -/

theorem State.slots_slotSync_ne (s : State) {j : Nat} (h : j ≠ k) : tget .free (s.slotSync k).slots j = tget .free s.slots j := by
  unfold State.slotSync
  split
  · rfl
  · split
    · rfl
    · dsimp only
      split
      · exact tget_tset_ne _ _ _ _ _ _ h
      · rfl

/-- Where every Weir's copy agrees with the keystone's, the keystone's stays. -/
theorem State.slots_slotSync_agree (hagree : ∀ n, n < 16 → (s.wslot n k).active = (tget .free s.slots k).active ∧
    (s.wslot n k).epoch = (tget .free s.slots k).epoch) : tget .free (s.slotSync k).slots k = tget .free s.slots k := by
  unfold State.slotSync
  split
  · rfl
  · split
    · rfl
    next n ns hns =>
      have hn : n ∈ (List.range 16).filter fun n => s.dieUp (dieW n) := by rw [hns]; exact List.mem_cons_self
      obtain ⟨hactive, hepoch⟩ := hagree n (List.mem_range.mp (List.mem_filter.mp hn).1)
      dsimp only
      split
      · rw [tget_tset_self, hactive, hepoch]
      · rfl

end Sys2Proof.Machine
end

section
/-! PROOF. The end of a slot action (R213, R247), and the Weirs' queues, the partition and the slots together. -/

namespace Sys2Proof.Machine
set_option Elab.async false

variable {s : State} {a : SlotAct} {y : Slot}

/-- The Weirs that run. -/
def State.weirsUp (s : State) : List Nat := (List.range 16).filter fun n => s.dieUp (dieW n)

theorem State.mem_weirsUp {s : State} {n : Nat} : n ∈ s.weirsUp ↔ n < 16 ∧ s.dieUp (dieW n) = true := by
  simp [State.weirsUp]

theorem State.nodup_weirsUp (s : State) : s.weirsUp.Nodup := List.nodup_range.filter _

/-- The device after each Weir that runs applied an action. -/
def State.actionApplied (s : State) (a : SlotAct) : State := s.weirsUp.foldl (fun s n => s.applySlot a n) s

/-- The device after the last Weir applied an action (R247). -/
def State.actionEnded (s : State) (a : SlotAct) : State :=
  ({ s.actionApplied a with
    slots := tset .free (s.actionApplied a).slots a.slot (a.after (tget .free s.slots a.slot)), slotAct := none } : State).slotSync a.slot

/-- Does no command of an action's slot run at a Weir? -/
def State.slotQuiet (s : State) (a : SlotAct) : Prop :=
  ∀ n, n < 16 → ∀ y ∈ (s.weir n).running, (wbHasSlot y.blk.bytes && wbSlot y.blk.bytes == a.slot) = false

section
variable (hact : s.slotAct = some a) (hawake : s.asleep = false) (happlied : a.applied = []) (hquiet : s.slotQuiet a)
include hact hawake happlied hquiet

/-- Without a command of the slot, the Weirs that run apply the action now, and it ends where all sixteen do. -/
theorem exec_slotActionDone : exec .slotActionDone s = .next (if (List.range 16).all s.weirsUp.contains then s.actionEnded a
    else { s.actionApplied a with slotAct := some { a with applied := s.weirsUp } }) := by
  have harm : exec .slotActionDone s = execSlotActionDone s := rfl
  have hmay : (List.range 16).filter (s.mayApply a) = s.weirsUp := List.filter_congr fun n hn => by
    have hrun : ((s.weir n).running.any fun y => wbHasSlot y.blk.bytes && wbSlot y.blk.bytes == a.slot) = false :=
      List.any_eq_false.mpr fun y hy => by rw [hquiet n (List.mem_range.mp hn) y hy]; exact Bool.false_ne_true
    simp [State.mayApply, happlied, hrun]
  rw [harm, execSlotActionDone, hact]
  simp only [hawake, Bool.false_eq_true, if_false, hmay, happlied, List.nil_append]
  rfl

/-- While a Weir is held, the action stays under way, and that Weir's copy and the keystone's are as before. -/
theorem slotActionDone_waits (hdown : ∃ n, n < 16 ∧ s.dieUp (dieW n) = false) : ∃ t b, exec .slotActionDone s = .next t ∧
    t.slotAct = some b ∧ b.slot = a.slot ∧ b.action = a.action ∧ t.slots = s.slots ∧ (∀ n, n < 16 → s.dieUp (dieW n) = false → t.weir n = s.weir n) ∧
    keeps s t [.slotAct, .weirs, .mem] := by
  have hexec := exec_slotActionDone hact hawake happlied hquiet
  obtain ⟨m, hm, hmdown⟩ := hdown
  have hall : (List.range 16).all s.weirsUp.contains = false := List.all_eq_false.mpr
    ⟨m, List.mem_range.mpr hm, by simp [State.mem_weirsUp, hmdown]⟩
  obtain ⟨hweir, hkeep⟩ := s.applyAll_spec a s.nodup_weirsUp
  rw [← State.actionApplied] at hkeep
  have hparts : a.parts ⊆ [SPart.slotAct, .weirs, .mem] := by unfold SlotAct.parts; split <;> simp
  have hslots := slots_of_keeps hkeep a.slots_notin_parts
  rw [hall, if_neg Bool.false_ne_true] at hexec
  refine ⟨_, _, hexec, rfl, rfl, rfl, hslots, fun n _ hn => ?_, ?_⟩
  · exact (hweir n).trans (if_neg (by simp [State.mem_weirsUp, hn]))
  · exact keeps_trans (keeps_mono hkeep hparts) (by simp [keeps])

variable (hup : ∀ n, n < 16 → s.dieUp (dieW n) = true)
include hup

theorem exec_slotActionDone_up : exec .slotActionDone s = .next (s.actionEnded a) := by
  have hall : (List.range 16).all s.weirsUp.contains = true := List.all_eq_true.mpr fun n hn => by
    simpa [State.mem_weirsUp] using ⟨List.mem_range.mp hn, hup n (List.mem_range.mp hn)⟩
  rw [exec_slotActionDone hact hawake happlied hquiet, hall, if_pos rfl]

omit hact hawake happlied hquiet in
/-- With every Weir running, each has applied the action; the keystone's copy follows where they agree with it. -/
theorem State.actionEnded_spec (hy : tget .free s.slots a.slot = y) : (s.actionEnded a).slotAct = none ∧
    (∀ j, j ≠ a.slot → tget .free (s.actionEnded a).slots j = tget .free s.slots j) ∧
    (∀ n, n < 16 → (s.actionEnded a).weir n = s.appliedWeir a n) ∧
    ((∀ n, n < 16 → (s.copyAfter a n).active = (a.after y).active ∧ (s.copyAfter a n).epoch = (a.after y).epoch) →
      tget .free (s.actionEnded a).slots a.slot = a.after y) ∧ keeps s (s.actionEnded a) (.slots :: .slotAct :: a.parts) := by
  obtain ⟨hweir, hkeep⟩ := s.applyAll_spec a s.nodup_weirsUp
  rw [← State.actionApplied] at hweir hkeep
  have hslots := slots_of_keeps hkeep a.slots_notin_parts
  subst hy
  rw [State.actionEnded]
  generalize s.actionApplied a = u at hweir hkeep hslots
  set v : State := { u with slots := tset .free u.slots a.slot (a.after (tget .free s.slots a.slot)), slotAct := none } with hv
  have hsync := keeps_slotSync v a.slot
  have hvw : ∀ n, n < 16 → v.weir n = s.appliedWeir a n := fun n hn => (hweir n).trans (if_pos (State.mem_weirsUp.mpr ⟨hn, hup n hn⟩))
  have hslot : tget .free v.slots a.slot = a.after (tget .free s.slots a.slot) := tget_tset_self ..
  refine ⟨slotAct_of_keeps hsync (by simp), fun j hj => ?_, fun n hn => ?_, fun hagree => ?_, ?_⟩
  · rw [State.slots_slotSync_ne v hj, ← hslots]
    exact tget_tset_ne _ _ _ _ _ _ hj
  · rw [State.weir_of_weirs (State.slotSync_weirs ..), hvw n hn]
  · rw [State.slots_slotSync_agree, hslot]
    intro n hn
    rw [hslot, State.wslot, hvw n hn, State.appliedWeir, tget_tset_self]
    exact hagree n hn
  · refine keeps_trans (keeps_mono hkeep (by simp)) (keeps_trans (t := v) ?_ (keeps_mono hsync (by simp)))
    simp [hv, keeps]

end

/-- What the end of an action leaves at the Weirs' copies, the other slots and the action under way. -/
def State.slotDone (t s : State) (k : Nat) (x : Nat → Slot) : Prop :=
  t.slotAct = none ∧ (∀ j, j ≠ k → tget .free t.slots j = tget .free s.slots j) ∧ ∀ n, n < 16 → t.wslot n k = x n

section
variable (hact : s.slotAct = some a) (hawake : s.asleep = false) (happlied : a.applied = []) (hquiet : s.slotQuiet a)
  (hup : ∀ n, n < 16 → s.dieUp (dieW n) = true) (hy : tget .free s.slots a.slot = y)
include hact hawake happlied hquiet hup hy

/-- The end of any action: each copy is that Weir's, and its length is 0 but after a policy update. -/
theorem slotActionDone_ends : ∃ t, exec .slotActionDone s = .next t ∧ t.slotDone s a.slot (s.copyAfter a) ∧
    ((∀ n, n < 16 → (s.copyAfter a n).active = (a.after y).active ∧ (s.copyAfter a n).epoch = (a.after y).epoch) →
      tget .free t.slots a.slot = a.after y) ∧
    (∀ n, n < 16 → (t.weir n).lens = if a.action = 2 then (s.weir n).lens else tset 0 (s.weir n).lens a.slot 0) ∧
    keeps s t (.slots :: .slotAct :: a.parts) := by
  obtain ⟨hnone, hother, hweir, hagree, hkeep⟩ := State.actionEnded_spec hup hy
  refine ⟨_, exec_slotActionDone_up hact hawake happlied hquiet hup, ⟨hnone, hother, fun n hn => ?_⟩, hagree, fun n hn => ?_, hkeep⟩
  · rw [State.wslot, hweir n hn, State.appliedWeir, tget_tset_self]
  · rw [hweir n hn, State.appliedWeir]

theorem slotActionDone_create (h1 : a.action = 1) : ∃ t, exec .slotActionDone s = .next t ∧
    t.slotDone s a.slot (fun _ => { a.staged with active := true, epoch := (y.epoch + 1) % 65536 }) ∧
    tget .free t.slots a.slot = { a.staged with active := true, epoch := (y.epoch + 1) % 65536 } ∧
    (∀ n, n < 16 → tget 0 (t.weir n).lens a.slot = 0) ∧ keeps s t [.slots, .slotAct, .weirs, .mem] := by
  obtain ⟨t, hexec, hdone, hagree, hlens, hkeep⟩ := slotActionDone_ends hact hawake happlied hquiet hup hy
  have hcopy : ∀ n, s.copyAfter a n = a.after y := fun n => by rw [State.copyAfter, if_pos h1, hy]
  have hafter : a.after y = { a.staged with active := true, epoch := (y.epoch + 1) % 65536 } := by simp only [SlotAct.after, h1]
  rw [SlotAct.parts, if_pos h1] at hkeep
  rw [← hafter]
  refine ⟨t, hexec, ?_, hagree fun n _ => ⟨by rw [hcopy], by rw [hcopy]⟩, fun n hn => ?_, hkeep⟩
  · rwa [← funext hcopy]
  · rw [hlens n hn, if_neg (by omega), tget_tset_self]

theorem slotActionDone_policy (h2 : a.action = 2) : ∃ t, exec .slotActionDone s = .next t ∧
    t.slotDone s a.slot (fun n => { s.wslot n a.slot with pol0 := a.staged.pol0, pol1 := a.staged.pol1 }) ∧
    ((∀ n, n < 16 → (s.wslot n a.slot).active = y.active ∧ (s.wslot n a.slot).epoch = y.epoch) →
      tget .free t.slots a.slot = { y with pol0 := a.staged.pol0, pol1 := a.staged.pol1 }) ∧
    (∀ n, n < 16 → (t.weir n).lens = (s.weir n).lens) ∧ keeps s t [.slots, .slotAct, .weirs] := by
  obtain ⟨t, hexec, hdone, hagree, hlens, hkeep⟩ := slotActionDone_ends hact hawake happlied hquiet hup hy
  have hafter : ∀ z, a.after z = { z with pol0 := a.staged.pol0, pol1 := a.staged.pol1 } := fun z => by simp only [SlotAct.after, h2]
  have hcopy : ∀ n, s.copyAfter a n = { s.wslot n a.slot with pol0 := a.staged.pol0, pol1 := a.staged.pol1 } := fun n => by
    rw [State.copyAfter, if_neg (by omega), hafter]
  rw [SlotAct.parts, if_neg (by omega)] at hkeep
  refine ⟨t, hexec, ?_, fun hsame => ?_, fun n hn => (hlens n hn).trans (if_pos h2), hkeep⟩
  · rwa [← funext hcopy]
  · rw [hagree fun n hn => ?_, hafter]
    rw [hcopy, hafter]
    exact hsame n hn

theorem slotActionDone_release (h3 : a.action = 3) : ∃ t, exec .slotActionDone s = .next t ∧
    t.slotDone s a.slot (fun n => { s.wslot n a.slot with active := false, epoch := ((s.wslot n a.slot).epoch + 1) % 65536 }) ∧
    ((∀ n, n < 16 → (s.wslot n a.slot).active = y.active ∧ (s.wslot n a.slot).epoch = y.epoch) →
      tget .free t.slots a.slot = { y with active := false, epoch := (y.epoch + 1) % 65536 }) ∧
    (∀ n, n < 16 → tget 0 (t.weir n).lens a.slot = 0) ∧ keeps s t [.slots, .slotAct, .weirs] := by
  obtain ⟨t, hexec, hdone, hagree, hlens, hkeep⟩ := slotActionDone_ends hact hawake happlied hquiet hup hy
  have hafter : ∀ z, a.after z = { z with active := false, epoch := (z.epoch + 1) % 65536 } := fun z => by simp only [SlotAct.after, h3]
  have hcopy : ∀ n, s.copyAfter a n = { s.wslot n a.slot with active := false, epoch := ((s.wslot n a.slot).epoch + 1) % 65536 } := fun n => by
    rw [State.copyAfter, if_neg (by omega), hafter]
  rw [SlotAct.parts, if_neg (by omega)] at hkeep
  refine ⟨t, hexec, ?_, fun hsame => ?_, fun n hn => ?_, hkeep⟩
  · rwa [← funext hcopy]
  · rw [hagree fun n hn => ?_, hafter]
    obtain ⟨-, hepoch⟩ := hsame n hn
    rw [hcopy, hafter]
    exact ⟨rfl, by rw [hepoch]⟩
  · rw [hlens n hn, if_neg (by omega), tget_tset_self]

end

theorem exec_slotCreate (o : Origin) (v : Word) (s : State) : exec (.slotCreate o v) s = .next (s.wSlotCfg o 0 v) := rfl

theorem exec_slotUpdatePolicy (o : Origin) (v : Word) (s : State) : exec (.slotUpdatePolicy o v) s = .next (s.wSlotCfg o 0 v) := rfl

theorem exec_slotRelease (o : Origin) (v : Word) (s : State) : exec (.slotRelease o v) s = .next (s.wSlotCfg o 0 v) := rfl

/-- KEY_SLOT_CFG's codes 1, 2 and 3 on the selected slot, by its state (R213). -/
theorem slotCfg_results (o : Origin) (s : State) (hw : writable s Reg.KEY_SLOT_CFG) (hidle : s.slotAct = none) :
    let k := s.rf Reg.KEY_SLOT_SEL 0 3
    let act := (tget .free s.slots k).active
    (act = true → exec (.slotCreate o 1) s = .next (s.setRf Reg.KEY_SLOT_STATUS 1 3 4)) ∧
    (act = false → s.createCheck k s.staged = 0 → ∃ t, exec (.slotCreate o 1) s = .next t ∧
      t.slotAct = some { slot := k, action := 1, staged := s.staged, applied := [] } ∧ t.log.next = s.log.next + 1 ∧
      keeps s t [.regs, .slotAct, .log, .store]) ∧
    (act = false → s.createCheck k s.staged ≠ 0 → ∃ t, exec (.slotCreate o 1) s = .next t ∧ t.slotAct = none ∧
      t.rf Reg.KEY_SLOT_STATUS 1 3 = s.createCheck k s.staged ∧ keeps s t [.regs, .log, .store]) ∧
    (act = false → exec (.slotUpdatePolicy o 2) s = .next (s.setRf Reg.KEY_SLOT_STATUS 1 3 4) ∧
      exec (.slotRelease o 3) s = .next (s.setRf Reg.KEY_SLOT_STATUS 1 3 4)) ∧
    (act = true → policyOk s.staged.pol0 s.staged.pol1 = true → ∃ t, exec (.slotUpdatePolicy o 2) s = .next t ∧
      t.slotAct = some { slot := k, action := 2, staged := s.staged, applied := [] } ∧ keeps s t [.regs, .slotAct, .log, .store]) ∧
    (act = true → ∃ t, exec (.slotRelease o 3) s = .next t ∧
      t.slotAct = some { slot := k, action := 3, staged := s.staged, applied := [] } ∧ keeps s t [.regs, .slotAct, .log, .store]) := by
  intro k act
  have hcheck : s.slotRefusal 1 = s.createCheck k s.staged := if_pos rfl
  refine ⟨fun hon => ?_, fun hoff hok => ?_, fun hoff hbad => ?_, fun hoff => ⟨?_, ?_⟩, fun hon hpol => ?_, fun hon => ?_⟩
  · rw [exec_slotCreate, State.wSlotCfg_wrong (a := 1) hw hidle (by decide) (by decide) (by decide) (by simpa using hon)]
  · obtain ⟨t, hwrite, hstart⟩ := wSlotCfg_starts (o := o) (v := 1) (a := 1) hw hidle (by decide) (by decide) (by decide) (by simpa using hoff)
      (hcheck.trans hok)
    exact ⟨t, by rw [exec_slotCreate, hwrite], hstart⟩
  · obtain ⟨t, hwrite, hrefused⟩ := wSlotCfg_refused (o := o) (v := 1) (a := 1) hw hidle (by decide) (by decide) (by decide)
      (by simpa using hoff) (by rwa [hcheck]) (by rw [hcheck]; exact s.createCheck_le ..)
    exact ⟨t, by rw [exec_slotCreate, hwrite], hcheck ▸ hrefused⟩
  · rw [exec_slotUpdatePolicy, State.wSlotCfg_wrong (a := 2) hw hidle (by decide) (by decide) (by decide) (by simpa using hoff)]
  · rw [exec_slotRelease, State.wSlotCfg_wrong (a := 3) hw hidle (by decide) (by decide) (by decide) (by simpa using hoff)]
  · obtain ⟨t, hwrite, hstart, -, hkeep⟩ := wSlotCfg_starts (o := o) (v := 2) (a := 2) hw hidle (by decide) (by decide) (by decide)
      (by simpa using hon) (by simp [State.slotRefusal, hpol])
    exact ⟨t, by rw [exec_slotUpdatePolicy, hwrite], hstart, hkeep⟩
  · obtain ⟨t, hwrite, hstart, -, hkeep⟩ := wSlotCfg_starts (o := o) (v := 3) (a := 3) hw hidle (by decide) (by decide) (by decide)
      (by simpa using hon) (by simp [State.slotRefusal])
    exact ⟨t, by rw [exec_slotRelease, hwrite], hstart, hkeep⟩

/-- Settles O20: a block that starts and ends, the registers, and the end of a slot action. -/
theorem weirQueueAndSlotResults : Obligations.WeirQueueAndSlotResults := by
  refine ⟨?start, ?complete, fun o v s hw => ⟨?active, ?large, ?fits⟩, fun o v s hb hv => slotSelect_loads hb hv, slotCfg_results, ?done⟩
  case start =>
    exact fun n s k rest ci op hup hawake hroom hqueue hidle hiss hid hheld =>
      ⟨weirCommandStart_starts hup hawake hroom hqueue hidle hiss hid hheld,
        fun hbehind hrest => weirCommandStart_behind hup hawake hroom hqueue hrest hbehind,
        fun hslot hrest => weirCommandStart_sameSlot hup hawake hroom hqueue hrest hslot⟩
  case complete => exact fun n id st ci op s y o => weirCommandComplete_counts
  case active => exact fun hidle hactive => kvPartWrite_active hw hidle hactive
  case large => exact fun hidle hactive hheight hcap => kvPartWrite_tooLarge hw hidle hactive hheight hcap
  case fits => exact fun hidle hactive hfits => kvPartWrite_stores hw hidle hactive hfits
  case done =>
    exact fun s a hact hawake happlied hquiet => ⟨slotActionDone_waits hact hawake happlied hquiet, fun hup =>
      ⟨slotActionDone_create hact hawake happlied hquiet hup rfl, slotActionDone_policy hact hawake happlied hquiet hup rfl,
        slotActionDone_release hact hawake happlied hquiet hup rfl⟩⟩

end Sys2Proof.Machine
end
